-- ==== Sys2Proof/Word.lean ====
section
/-! DEFINITION. The byte, and sparse tables in one canonical form. -/

namespace Sys2Proof

/-- A byte of a memory or buffer. -/
abbrev Byte := BitVec 8

/-- A sparse table: the entries listed, by strictly rising key; a key that is not listed holds the table's default
for it, and no listed entry equals that default. The default is given by whoever reads or writes. -/
structure Tab (α : Type) where
  cells : List (Nat × α)
  deriving DecidableEq, Repr

/-- The empty table: every key at its default. -/
def Tab.empty {α : Type} : Tab α := ⟨[]⟩

end Sys2Proof
end

