-- ==== Sys2Proof/Config.lean ====
section
/-! DEFINITION. What the spec leaves open, as constants without a body: no proof can see their values. -/

namespace Sys2Proof.Config

/-- The free values: the `n`-th value the spec leaves open during a run. -/
opaque free : Nat → Nat

/-- The Green PHY default tone mask (R322), 32 carriers to a word; the spec does not print it. -/
opaque defaultToneMask : Nat → Nat

/-- SHA-256 and every other digest of a byte or field list (R2, R311, R371): the spec names the function and
prints no table of it. -/
opaque hash : List Nat → Nat

/-- Key derivation from a parent's material and a label (R359). -/
opaque kdf : List Nat → Nat

/-- The public key of a private key of a type (table Key types): type, private key. -/
opaque pub : Nat → Nat → Nat

/-- A keyed signature or tag over data: key material, data. -/
opaque sign : Nat → List Nat → Nat

/-- The output of the deterministic random bit generator for a state and an index (R375). -/
opaque drbg : Nat → Nat → Nat

/-- The destination byte of a power-module message to all modules (R118), which the spec does not print. -/
opaque pmAll : Nat

/-- What manufacture left in a module and the spec prints no value of: item 0 is the root key that the PUF region gives
(R352), 1 the attestation certificate (R376), 2 the SHA-256 of the manifest of the image in slot A, 3 to 8 the SHA-256
of its six parts, 9 its number of blocks (R453). -/
opaque factory : Nat → Nat

/-- The limits in HSL_TABLE (R134), whose values the spec does not print: for a field and an instance the limit, or 1 for
a check that is mandatory. -/
opaque hsl : Nat → Nat → Nat

/-- CRC-32 over bytes (R396); the spec names no polynomial. -/
opaque crc32 : List Nat → Nat

/-- AES-256-GCM (R340): key, nonce, additional data, plaintext, to ciphertext and tag. -/
opaque gcm : Nat → List Nat → List Nat → List Nat → List Nat

/-- The blocks of the image of manufacture in slot A (R453, R460): block, byte. -/
opaque factoryBlock : Nat → Nat → Nat

/-- The check value of HSL_TABLE that a SAFE_FW carries (R135, R461); the spec does not say where. -/
opaque hslValue : List Nat → Nat

/-- How far in 0.1 V a power module's voltage may lie from its set-point when it has settled (R164); the spec prints no
figure. -/
opaque settledDv : Nat

/-- The coefficients of the fixed filters (R207, R208), in 2^-31: the spec gives their lengths, symmetry and responses and
prints none. CFIR by its distance from the nearer end; HB1 and HB2 by their distance from the middle; the resampler's
prototype of a mode by the distance from its middle in 1/1,024 tap. -/
opaque cfir : Nat → Int
opaque hb1 : Nat → Int
opaque hb2 : Nat → Int
opaque proto : Nat → Nat → Int

end Sys2Proof.Config
end

