-- ==== Sys2Proof/Machine/Operands.lean ====
section
/-! DEFINITION. The operands of the commands: what a ring command brings in its descriptor and buffer, and what the
outside world supplies with an event. -/

namespace Sys2Proof

/-- What a fetched descriptor brings to its command: the instant the command runs, its command ring, host sequence
number and tag, its flags (bit 1 is FENCE, bit 2 is IRQ) and its Cask id (table Command descriptor). -/
structure Ctx where
  t : Nat
  ring : Nat
  seq : Nat
  tag : Nat
  flags : Nat
  cask : Nat
  deriving DecidableEq, Repr

/-- A descriptor waiting in a command ring of host memory, as the module reads it. `inst` is the instance of the
block that its parameters name. `indirectOk` says that the indirect buffer, when the descriptor names one, is
readable and not longer than 65,536 bytes. -/
structure Desc where
  op : Nat
  inst : Nat
  flags : Nat
  cask : Nat
  seq : Nat
  tag : Nat
  indirectOk : Bool
  deriving DecidableEq, Repr

/-- Initiator tags of island crossings (R28). -/
inductive Ini where
  | host | app | legal | safe
  deriving DecidableEq, Repr

/-- The owners of MRAM areas (table MRAM allocation). -/
inductive Blk where
  | ledger | legal | host | disp | metro | upd | safe | tag | twin | crypto
  deriving DecidableEq, Repr

/-- The resources of the access matrix (R29), and the MRAM behind the LEDGER island's controller (R14) with the block
that asks and the span of bytes it asks for. -/
inductive Res where
  | metroParams | counters | keyMaterial | cryptoAppKeys | cryptoLegalKeys | cryptoSafeKeys | coilHigh | coilLow
  | pilotPwm | segments | matrix | credStore | rtc | mtb
  | mram (blk : Blk) (addr len : Nat)
  deriving DecidableEq, Repr

/-- One request of an island crossing: the sending island, its initiator tag, its order of arrival at the target
(equal numbers are requests the arbiter cannot separate), the resource and whether it writes. -/
structure Xing where
  src : Nat
  ini : Ini
  arrival : Nat
  res : Res
  write : Bool
  deriving DecidableEq, Repr

/-- Items of the endpoint's configuration space (R34, table PCIe features). -/
inductive CfgItem where
  | vendor | device | subVendor | subDevice | classCode | intPin | msixVectors | payloadMax | payloadSet | readReqSet
  | linkSpeed | linkWidth | flr | aer | aspm | tags
  deriving DecidableEq, Repr

/-- A configuration request: a read of an item, or a write of one of the two settable sizes in bytes. -/
inductive CfgReq where
  | read (item : CfgItem)
  | writePayload (bytes : Nat)
  | writeReadReq (bytes : Nat)
  deriving DecidableEq, Repr

/-- Why the HOST island detaches; `refclk` is a link-down because PCIe REFCLK failed (R496). -/
inductive DetachCause where
  | enCleared | perst | hotReset | linkDown | flr | busMaster | refclk
  deriving DecidableEq, Repr

/-- The four kinds of ring. -/
inductive RingKind where
  | command | completion | event | stream
  deriving DecidableEq, Repr

/-- The actions a Cask can hold (R69), with the parameters of their commands. -/
inductive CaskAct where
  | contactor (n : Nat) (close : Bool)
  | pilotDuty (n duty : Nat)
  | pmSetpoint (n mode volts amps watts : Nat)
  | metOpen (m sess : Nat)
  | metClose (m : Nat)
  | recOpen (n m idType : Nat) (ident : List Byte) (price : Nat)
  | recClose (n m reason : Nat)
  | readSigned (mask : Nat)
  | tariff (mask tariff price : Nat)
  | dispUpdate (x y w h mode : Nat)
  deriving DecidableEq, Repr

/-- What the vehicle's V2G messages bring to the session machine (R102 to R104, R115, R164): the protocols the vehicle
offers in its order of priority (1 DIN SPEC 70121, 2 ISO 15118-2, 3 ISO 15118-20); the session set-up, with or without
TLS, and the EVCCID; a contract certificate and its check and OCSP status (0 good, 1 revoked, 2 unavailable);
parameter discovery with the vehicle's maximum power and whether it asks to discharge; the cable check, precharge,
power delivery and current demand of the sequence; an ISO 15118-2 charging schedule, as start in s and power in W; the
control mode of an ISO 15118-20 session; a certificate installation or update request; an error. -/
inductive HlcMsg where
  | protocols (prios : List Nat)
  | sessionSetup (tls : Bool) (evccid : List Byte)
  | contract (ident : List Byte) (valid : Bool) (ocsp : Nat)
  | discovery (maxW : Nat) (discharge : Bool)
  | cableCheck (decivolts : Nat)
  | preCharge (decivolts : Nat)
  | powerDeliveryStart
  | powerDeliveryStop
  | sessionStop
  | currentDemand (decivolts deciamps : Nat)
  | schedule (entries : List (Nat × Nat))
  | controlMode (dynamic : Bool)
  | certRequest (kind len : Nat)
  | error
  deriving DecidableEq, Repr

/-- What the converter die sends METRO of a metering channel (R177, R184, R209): its modulator codes since the last time,
oldest first, −8 to +7 on internal channels, −1 or +1 on MBS channels as latched CAPTURE_DLY × 2 ns after the selected
MCLK edge; and on MBS channels the same bits sampled 4 ns earlier and 4 ns later. -/
structure Feed where
  chan : Nat
  codes : List Int
  early : List Int
  late : List Int
  deriving DecidableEq, Repr

/-- An owner signature (R369): whether it verifies with the owner key, and its owner counter. -/
structure OwnerSig where
  ok : Bool
  counter : Nat
  deriving DecidableEq, Repr

/-- A credential record (R377): identity type, status, allocation class, flags (bit 0 STRICT_TIME, bit 1 FREE, bit 2
CARD_AUTH), identity hash, valid from and until in wall UTC, outlet mask, tariff, price id, card key handle, operator
reference. -/
structure CredRec where
  kind : Nat
  status : Nat
  cls : Nat
  flags : Nat
  hash : Nat
  from_ : Nat
  until_ : Nat
  mask : Nat
  tariff : Nat
  price : Nat
  cardKey : Nat
  opRef : Nat
  deriving DecidableEq, Repr

/-- A tariff calendar (R296): activation, UTC offset in minutes, seasons (month, day, week), weeks, days as switching
points (minute, tariff), special days (year, month, day, day profile), DST changes (UTC second, minutes), SHA-256. -/
structure Calendar where
  activation : Nat
  offset : Int
  seasons : List (Nat × Nat × Nat)
  weeks : List (List Nat)
  days : List (List (Nat × Nat))
  specials : List (Nat × Nat × Nat × Nat)
  dst : List (Nat × Int)
  digest : Nat
  deriving DecidableEq, Repr

/-- A received Trellis frame apart from its payload (R339, R340): segment, source, destination, transmitter and receiver
of the hop, sequence number, frame counter, class, hops travelled; whether its tag holds; the mains modem that took it,
its SNR in 0.5 dB and the best coupling port. -/
structure THdr where
  seg : Nat
  src : Nat
  dst : Nat
  tx : Nat
  rx : Nat
  seq : Nat
  ctr : Nat
  cls : Nat
  hops : Nat
  tagOk : Bool
  modem : Nat
  snr : Nat
  port : Nat
  deriving DecidableEq, Repr

/-- A valid life copy of a cable tag (R396): sequence, mating count, sessions, energy in Wh, load openings, flags. -/
structure LifeCopy where
  seq : Nat
  mating : Nat
  sessions : Nat
  wh : Nat
  openings : Nat
  flags : Nat
  deriving DecidableEq, Repr

/-- What RDR1 finds on a cable tag (R395 to R397): UID, blocks 0 to 7, life copies A and B with whether their CRC-32 holds, and
whether TAM1 passes. -/
structure CableRead where
  uid : Nat
  ident : List Byte
  identCrc : Bool
  lifeA : List Byte
  crcA : Bool
  lifeB : List Byte
  crcB : Bool
  tamOk : Bool
  deriving DecidableEq, Repr

/-- The EPD_WAVE part (R408): frame rate, modes present, ageing variants present by mode, band thresholds 1 to 15 in
0.01 °C, and the drive codes (0 none, 1 positive, 2 negative) of the matrix tables, by
(((mode x 4 + variant) x 16 + band) x 16 + previous level) x 16 + next level, and of the segment tables, by
band x 2 + direction. A table that is not listed has no frames. (DESIGN CHOICE, log 161) -/
structure EpdWave where
  fps : Nat
  modes : Nat
  variants : List Nat
  thr : List Int
  mat : List (Nat × List Nat)
  seg : List (Nat × List Nat)
  deriving DecidableEq, Repr

/-- A Tamec manifest (R453): its SHA-256, image generation, security floor, settings version, legal parameter layout
version, total blocks, hash table blocks, the SHA-256 of the hash table, the SHA-256 of the six parts by part id, their
first block, block count and length in bytes, whether every other format field and part entry is as R453 has it, and
whether the Zenkote signature and the owner co-signature verify. -/
structure TamecMan where
  digest : Nat
  gen : Nat
  floor : Nat
  settingsVer : Nat
  legalVer : Nat
  total : Nat
  htBlocks : Nat
  htDigest : Nat
  parts : List Nat
  spans : List (Nat × Nat × Nat)
  formOk : Bool
  sigOk : Bool
  cosigOk : Bool
  deriving DecidableEq, Repr

/-- A heartbeat of channel B (R137): its cycle count, the outlets whose close it permits, the trip cause by outlet, and
its CRC-16. -/
structure Beat where
  cycle : Nat
  permit : Nat
  causes : List Nat
  crc : Nat
  deriving DecidableEq, Repr

/-- The settings of one coil in HSL_TABLE (table SAFE.COIL_CFG). -/
structure HslCoil where
  en : Bool
  outlet : Nat
  role : Nat
  mirrorEn : Bool
  mirrorPol : Bool
  pullInMa : Nat
  holdMa : Nat
  pullInMs : Nat
  deriving DecidableEq, Repr

/-- The content of an HSL_TABLE that differs from the delivered one (R134, R189): dark test period in s and width in µs,
the coils, the residual-current inputs (sensitivity in µV/mA, turns, valid range in mV), PILOT_FILT_B. -/
structure HslTable where
  testS : Nat
  testUs : Nat
  coils : List HslCoil
  rcm : List (Nat × Nat × Nat)
  pilotFiltB : Nat
  deriving DecidableEq, Repr

/-- What a start meets (R498): which clocks run, the RTC's wall time in ms, the known-answer tests, the signatures of the
two Lees copies, the attempts to regenerate the root (raw cell error rate in 0.01 % of a success, none for a failure),
whether the image of the active and of the other slot verifies, whether the SHA-256 of HSL_TABLE is the one in SAFE_FW, the
content of HSL_TABLE where it is not the delivered one, the switch sides (coil, low side) that failed self-test steps 2
and 3 (R139), the content of EPD_WAVE of the image of manufacture, whether a migration of the legal
parameters compares equal (R471), for each tamper input the RTC times in s of its first and last activation without
VIN (R315), and the entries of the ledger's MRAM areas whose CRC-32 fails (R278), as area and entry: 0 and 1 state copies A
and B, 2 a record by its number, 3 a billing set from the newest, 4 a tamper entry, 5 and 6 the active and the pending calendar, 7 the
Last pour marker, 8 a copy of the legal parameters. -/
structure BootIn where
  xtal25 : Bool
  xtal32 : Bool
  refclk : Bool
  rtcMs : Nat
  katFailed : List Nat
  leesA : Bool
  leesB : Bool
  attempts : List (Option Nat)
  activeOk : Bool
  otherOk : Bool
  tableOk : Bool
  hsl : Option HslTable
  step2 : List (Nat × Bool)
  step3 : List (Nat × Bool)
  wave : EpdWave
  legalOk : Bool
  tampered : List (Nat × Nat)
  corrupt : List (Nat × Nat)
  deriving DecidableEq, Repr

end Sys2Proof
end

