-- ==== Sys2Proof/Machine/Parts.lean ====
section
/-! DEFINITION. The parts of the state that come with a command: what a twin copies to its Reserve (R478) and the cycle
snapshot. -/

namespace Sys2Proof.Machine

/-! ### Outlets -/

/-- Session states (table Session states). -/
inductive SessState where
  | idle | connected | negotiating | ready | closing | energy | paused | stopping | ended | fault | outOfService
  | disabled
  deriving DecidableEq, Repr

/-- The number of a session state in OUT.STAT.STATE. -/
def SessState.code : SessState → Nat
  | .idle => 0 | .connected => 1 | .negotiating => 2 | .ready => 3 | .closing => 4 | .energy => 5 | .paused => 6
  | .stopping => 7 | .ended => 8 | .fault => 9 | .outOfService => 10 | .disabled => 11

/-- Pilot states (R90); F is only ever driven. -/
inductive Pilot where
  | a | b | c | d | e | f
  deriving DecidableEq, Repr

/-- The number of a pilot state in OUT.STAT.PILOT. -/
def Pilot.code : Pilot → Nat
  | .a => 0 | .b => 1 | .c => 2 | .d => 3 | .e => 4 | .f => 5

/-- What a pilot driver puts out (R93): constant +12 V, PWM with a duty in units of 0.1 %, or state F. -/
inductive PilotOut where
  | plus12
  | pwm (duty : Nat)
  | stateF
  deriving DecidableEq, Repr

/-- A power module of an outlet: valid frames seen, its last STATUS and IDENT, and whether it is lost (R118, R120). -/
structure PowerModule where
  seenAt : Option Nat
  decivolts : Nat
  deciamps : Int
  temp : Int
  faults : Nat
  ident : List Nat
  ratedW : Nat
  lost : Bool
  deriving DecidableEq, Repr

/-- A power module that has not been heard. -/
def PowerModule.init : PowerModule := ⟨none, 0, 0, 0, 0, [], 0, true⟩

/-- A power-module set-point (table SETPOINT layout): mode, voltage in 0.1 V, current limit in 0.1 A, power limit in
10 W. -/
structure SetPoint where
  mode : Nat
  decivolts : Nat
  deciamps : Nat
  decawatts : Nat
  deriving DecidableEq, Repr

/-- Power modules off. -/
def SetPoint.off : SetPoint := ⟨0, 0, 0, 0⟩

/-- An identity that may authorise a session (R112): source, identity type, identity hash, credential record + 1, and
the terms its record gives (R377, R378): allocation class and tariff, 0xFF for none, and the price id. -/
structure Identity where
  src : Nat
  kind : Nat
  hash : Nat
  rec1 : Nat
  cls : Nat
  tariff : Nat
  price : Nat
  deriving DecidableEq, Repr

/-- A step of the enforcement value that is due (R125): when, to what. -/
structure EnfStep where
  due : Nat
  watts : Nat
  deriving DecidableEq, Repr

/-- A reduction of a DC outlet's current that ramps (R125): when it began, how long it takes in ns, the current limits
it runs between in 0.1 A, the power limit at its end in 10 W, and whether the modules are off then. -/
structure DcRamp where
  start : Nat
  dur : Nat
  i0 : Nat
  i1 : Nat
  decawatts : Nat
  off : Bool
  deriving DecidableEq, Repr

/-- An outlet controller's state. Fields that the map shows in OUT[n].STAT or ALLOC_STAT have their home here when
they are typed more richly here; the numbers shown there alone live in the register store. -/
structure Outlet where
  st : SessState
  /-- The ledger session is open (R98). -/
  ledgerOpen : Bool
  /-- MTB at which the session began, for its start order and duration. -/
  startAt : Nat
  ident : Option Identity
  /-- AUTH_TO runs out at this MTB. -/
  authDue : Option Nat
  endReason : Nat
  /-- The cable reached end of life in this session (R117). -/
  eol : Bool
  /-- OUT_AVAILABILITY asked for out of service at the end of the session. -/
  oosAfter : Bool
  /-- Accepted pilot state (R91), and the level the latest whole periods agree on with how many of them. -/
  pilot : Pilot
  cand : Option Pilot
  agree : Nat
  /-- Periods in a row with a low level above −10.5 V; periods in a row without an accepted state (R92). -/
  badLow : Nat
  noAccept : Nat
  /-- The pilot output in force, the one that takes effect at the next period, and the one being staged. -/
  out : PilotOut
  outNext : Option PilotOut
  outStaged : Option PilotOut
  /-- The end of the last pilot period judged. -/
  periodAt : Nat
  /-- Decoded proximity: rating in A; none for no cable or a fault; and whether it reads invalid. -/
  ppRating : Option Nat
  ppInvalid : Bool
  /-- Rating of the cable tag read at connection. -/
  tagRating : Option Nat
  /-- High-level communication: TLS and protocol running; parameter discovery done; the vehicle asked for energy. -/
  hlcRunning : Bool
  discovered : Bool
  wantsEnergy : Bool
  tls : Bool
  /-- Vehicle's maximum power in W, 0 for not given. -/
  vehicleMaxW : Nat
  /-- Phases that carried more than 1 A, once 10 s of transfer have shown them (0 before). -/
  usedPhases : Nat
  energyAt : Nat
  /-- An offer is made to the vehicle. -/
  offered : Bool
  granted : Bool
  /-- The allocator could have granted the minimum in the previous run. -/
  grantable : Bool
  /-- Its place in the order in which sessions joined their queues (R123). -/
  queueNo : Option Nat
  resumeAt : Nat
  pausedAt : Nat
  pausedTotal : Nat
  reductions : Nat
  pauses : Nat
  below : Nat
  followCap : Option Nat
  /-- Steps of the enforcement value that are due, in the order of their reductions (R125). -/
  enfSteps : List EnfStep
  /-- The limits sent to the vehicle (R125): EVSEMaxCurrent in 0.1 A and EVSEMaximumChargePower in W. -/
  evseDa : Nat
  evseW : Nat
  dcRamp : Option DcRamp
  /-- The charging schedule of an ISO 15118-2 vehicle, as start in s and power in W, and whether an ISO 15118-20 session
  is in dynamic control mode (R101). -/
  schedule : List (Nat × Nat)
  dynamic : Bool
  /-- Allocation granted while CLOSING, applied in the first cycle of ENERGY (R100). -/
  allocLater : Option Nat
  class_ : Nat
  /-- The pause action opens the contactors at the latest at this MTB (R124). -/
  pauseOpenDue : Option Nat
  zcFallback : Bool
  pms : List PowerModule
  setPoint : SetPoint
  setStaged : Option SetPoint
  setCounter : Nat
  /-- The last SETPOINT frame sent, as its 16 bytes, and its 29-bit identifiers, one for each live module (R118). -/
  lastFrame : List Nat
  lastIds : List Nat
  /-- SLAC runs that ended without a match, and the end of the wait for a retry. -/
  slacFails : Nat
  slacRetryDue : Option Nat
  /-- Network membership key and NID of the last match (R110). -/
  nmk : Nat
  nid : Nat
  /-- An isolation check runs (R164): results at or above the warning limit in a row, and its time limit. -/
  cableCheck : Option (Nat × Nat)
  /-- A CERT_RELAY request awaits its answer (R104); the last answer forwarded to the vehicle. -/
  certAsked : Bool
  certForwarded : Nat
  /-- OUT_CONTACTOR closes that await the self-test before them (R159). -/
  hostClose : List Ctx
  deriving DecidableEq, Repr

/-- An outlet controller at start: IDLE, pilot at state F until its type is known. -/
def Outlet.init : Outlet :=
  { st := .idle, ledgerOpen := false, startAt := 0, ident := none, authDue := none, endReason := 0, eol := false,
    oosAfter := false, pilot := .a, cand := none, agree := 0, badLow := 0, noAccept := 0, out := .stateF,
    outNext := none, outStaged := none, periodAt := 0, ppRating := none, ppInvalid := false, tagRating := none,
    hlcRunning := false, discovered := false, wantsEnergy := false, tls := false, vehicleMaxW := 0, usedPhases := 0,
    energyAt := 0, offered := false, granted := false, grantable := false, queueNo := none, resumeAt := 0,
    pausedAt := 0, pausedTotal := 0, reductions := 0, pauses := 0, below := 0, followCap := none, enfSteps := [],
    evseDa := 0, evseW := 0, dcRamp := none, schedule := [], dynamic := false, allocLater := none, class_ := 2, pauseOpenDue := none, zcFallback := false, pms := [], setPoint := .off,
    setStaged := none, setCounter := 0, lastFrame := [], lastIds := [], slacFails := 0, slacRetryDue := none, nmk := 0, nid := 0,
    cableCheck := none, certAsked := false, certForwarded := 0, hostClose := [] }

/-- A card held as a pre-authorisation or for OUT_SELECT (R113). -/
structure HeldCard where
  ident : Identity
  until_ : Nat
  /-- The outlet OUT_SELECT named, if any. -/
  for_ : Option Nat
  /-- It was presented while several outlets waited, so that it waits for OUT_SELECT. -/
  select : Bool
  deriving DecidableEq, Repr

/-! ### Ledger sessions -/

/-- A tariff segment of a session (R313): tariff, start, import, export. -/
structure Segment where
  tariff : Nat
  start : Nat
  imp : Nat
  exp : Nat
  deriving DecidableEq, Repr

/-- A ledger session of an outlet (R312, R313): meter point, id, identity, price, its open instant, ledger time and
time flags, counters at open, segments, and once it closes its instant, ledger time, reason and reserved number. -/
structure LSession where
  opened : Bool
  mp : Nat
  id : Nat
  src : Nat
  hash : Nat
  cred : Nat
  price : Nat
  tOpen : Nat
  ledgerOpen : Nat
  flagsOpen : Nat
  atOpen : List Nat
  segs : List Segment
  overflow : Bool
  tClose : Nat
  ledgerClose : Nat
  flagsClose : Nat
  reason : Nat
  num : Option Nat
  closing : Bool
  carried : Bool
  /-- Reductions and pauses of the session, its total paused time in ns, and the start of a pause in progress (R128). -/
  reductions : Nat
  pauses : Nat
  pausedNs : Nat
  pausedSince : Option Nat
  deriving DecidableEq, Repr

/-- No ledger session. -/
def LSession.init : LSession :=
  ⟨false, 0, 0, 0, 0, 0xFFFFFFFF, 0, 0, 0, 0, [], [], false, 0, 0, 0, 0, none, false, false, 0, 0, 0, none⟩

/-! ### Cable tags -/

/-- What is known of an outlet's cable tag: its limits (matings, energy in kWh) and kind from the last OK read, the
sequence of its current life copy, which copy is the older one (0 A, 1 B), RETIRED, whether the next OK read binds the tag it
finds (R399), and the copy last written with its 24 bytes and the password presented before it. -/
structure CableTag where
  mateLim : Nat
  kwhLim : Nat
  seq : Nat
  older : Nat
  retired : Bool
  rebind : Bool
  wrote : Nat × List Nat
  pwd : Nat
  deriving DecidableEq, Repr

/-- A tag that has never been read: the first OK read binds it. -/
def CableTag.init : CableTag := ⟨0, 0, 0, 0, false, true, (0, []), 0⟩

/-! ### Display regions -/

/-- The states of a region (table Region states); `cut` is a region that a power loss cut and whose recovery waits. -/
inductive RegSt where
  | free | queued | armed | running | recovery | cut
  deriving DecidableEq, Repr

/-- A region slot (R417 to R421, R429 to R431): rectangle, mode, latched band, frame index, frames it takes, started on
FALLBACK_BAND, MTB of the first frame, order of acceptance, command owed the outcome, Cask slot that holds it armed,
latched inversion and age class by tile, the frames received by rows up to the stop row and by later rows, and for a
recovery the partial sums it starts from, by pixel, the largest of them and the frames of its INIT phase. -/
structure DRegion where
  st : RegSt
  x : Nat
  y : Nat
  w : Nat
  h : Nat
  mode : Nat
  band : Nat
  frame : Nat
  total : Nat
  fallback : Bool
  startAt : Nat
  order : Nat
  ctx : Option Ctx
  cask : Nat
  invert : Nat
  classes : Tab Nat
  stopRow : Nat
  recov : Bool
  sums : Tab Int
  peak : Nat
  initLen : Nat
  deriving DecidableEq, Repr

/-- A free region slot. -/
def DRegion.init : DRegion :=
  { st := .free, x := 0, y := 0, w := 0, h := 0, mode := 0, band := 0, frame := 0, total := 0, fallback := false,
    startAt := 0, order := 0, ctx := none, cask := 16, invert := 0, classes := .empty, stopRow := 0, recov := false,
    sums := .empty, peak := 0, initLen := 0 }

/-! ### Load switches -/

/-- A load switch channel: when it entered its state, when its retry is due, the duty and phase in effect, the state a
low bank holds it from with the rest of its wait (R449), whether its wait for the quad defers a retry (R441), whether its PWM
runs (R444), the rising edge and the on-time of the period in progress and of the one before in clocks of 32 MHz (R443), and
the sampled on-time so far in ns with when it was last added to (R445). -/
structure LswCh where
  since : Nat
  due : Nat
  duty : Nat
  phase : Nat
  held : Option (Nat × Nat)
  retry : Bool
  pwm : Bool
  edge : Nat × Nat
  last : Nat × Nat
  onNs : Nat
  onFrom : Nat
  deriving DecidableEq, Repr

/-- A channel at start: off, with the reset duty and phase. -/
def LswCh.init : LswCh := ⟨0, 0, 4095, 0, none, false, false, (0, 0), (0, 0), 0, 0⟩

/-- The load switches: channels, PWM frequency in effect by bank and the number of its period in progress, when a quad may
restart its next channel, when a bank's supply was last low, and how many budget windows have ended. -/
structure LswSt where
  chans : Tab LswCh
  hz : Tab Nat
  no : Tab Nat
  next : Tab Nat
  lowAt : Tab Nat
  win : Nat
  deriving DecidableEq, Repr

/-! ### The cycle snapshot -/

/-- The values of one meter point in the cycle snapshot (R258): rms or mean voltages in mV and currents in mA, phase
by phase; `none` is an absent channel. -/
structure Snap where
  v : List (Option Nat)
  i : List (Option Nat)
  deriving DecidableEq, Repr

/-! ### The state copy of a twin -/

/-- What the header of a TWIN frame says (R476, R479): the peer's MTB at its first bit with own MTB at that instant, the
peer's role and READY, and a mask of the meter points that it reports RUNNING (table Give-up causes). -/
structure TwinHdr where
  stamp : Nat
  at_ : Nat
  role : Nat
  ready : Bool
  running : Nat
  deriving DecidableEq, Repr

/-- A state copy (R478): cycle count, image generation and settings hash of the active module; the register fields of
the copied blocks, keyed as in the register store; session machines; ledger sessions; ledger time in ms; held card;
coils on, a mask; cable tags; load switches; display regions; the newest final latches of the sessions (R484: outlet,
session id, import, export, and their instant K); the last ledger sequence number with the first 16 bytes of the SHA-256
of its record. Instants are in the active module's MTB. -/
structure TwinCopy where
  cycle : Nat
  gen : Nat
  settings : Nat
  regs : Tab Nat
  outlets : Tab Outlet
  sess : Tab LSession
  ledgerMs : Nat
  card : Option HeldCard
  coils : Nat
  cables : Tab CableTag
  lsw : LswSt
  regions : Tab DRegion
  latches : List (Nat × Nat × Nat × Nat × Nat)
  lastSeq : Nat
  lastDigest : Nat
  deriving DecidableEq, Repr

end Sys2Proof.Machine
end

