-- ==== Sys2Proof/Syntax.lean ====
section
/-! DEFINITION. The commands the module takes: one constructor for each row of the opcode table, with the operands
that arrive with it. A ring command carries the context of its descriptor; an event carries what the outside world
supplies with it. -/

namespace Sys2Proof

/-- The commands of the module: one constructor for each row of the opcode table. Every one carries the instant
it falls on, as an MTB value in ns (`t`, or the `t` of its ring context). -/
inductive Instr where
  /-- ISLAND_CROSSING (R16): A word is sent from one island to another over a four-phase handshake channel; the
    target serves simultaneous requests by arrival order and then by fixed precedence. -/
  | islandCrossing (t : Nat) (target : Nat) (gated : Bool) (reqs : List Xing)
  /-- LINK_TIMEOUT (R19): A crossing unacknowledged for 10 µs completes at the sender with LINK_TIMEOUT,
    increments LINK_ERR and raises ISLAND_LINK. -/
  | linkTimeout (t : Nat) (src dst : Nat) (ini : Ini) (cmd : Option (Nat × Nat))
  /-- RTC_SECOND_EDGE (R24): At each RTC second edge the AON island captures the MTB into GLOBAL.MTB_UTC. -/
  | rtcSecondEdge (t : Nat)
  /-- CONTROL_CYCLE_START (R25): At each MTB multiple of 1 ms, METRO latches the snapshot, SAFE_ALIVE toggles,
    channel A runs its checks and the outlet controllers run their session machines. -/
  | controlCycleStart (t : Nat) (feed : List Feed)
  /-- OUTPUT_STAGING_DEADLINE (R26): Outputs not staged by 450 µs keep the previous cycle's values,
    CYCLE_OVERRUN is raised, and a third consecutive overrun sends the session to MSTOP. -/
  | outputStagingDeadline (t : Nat) (late : Nat)
  /-- A_CHECK_DEADLINE (R27): If channel A has not completed its checks by 300 µs, it withholds the SAFE_ALIVE
    toggle of the next cycle. -/
  | aCheckDeadline (t : Nat) (done : Bool)
  /-- CONFIG_REQUEST (R35): A PCIe configuration request is answered, with configuration-retry status until the
    endpoint is ready. -/
  | configRequest (t : Nat) (req : CfgReq)
  /-- PERST_RELEASE (R35): On release of PERST_N, the endpoint becomes ready for configuration within 20 ms. -/
  | perstRelease (t : Nat)
  /-- HOST_DETACH (R63): EN cleared, PERST_N, hot reset, link down, function level reset or bus-master disable
    detaches the HOST island and stops all DMA. -/
  | hostDetach (t : Nat) (cause : DetachCause)
  /-- HOST_ATTACH (R65): Setting HOST.CTRL.EN attaches the HOST island, raises HOST_ATTACH and serves the
    enabled rings; a set made before host ready is held until then. -/
  | hostAttach (t : Nat)
  /-- RING_REGISTER_WRITE (R542): A write to a HOST ring register enables or disables the ring, zeroing its
    counts, with misconfiguration reported in ERR. -/
  | ringRegisterWrite (t : Nat) (kind : RingKind) (ring : Nat) (image : Nat)
  /-- DOORBELL_POLL (R40): Every POLL_US the device reads the doorbell page, serves the stop ring first and
    fetches descriptors under credits and weighted round robin. -/
  | doorbellPoll (t : Nat) (cmdProd cplCons evCons strProd : List Nat) (descs : List (List Desc))
      (bufs : List (List Nat))
  /-- KICK (R40): A write to the BAR2 kick page makes the named command or stream ring fetched within 1 µs. -/
  | kick (t : Nat) (off : Nat) (prod : Nat) (descs : List Desc) (bufs : List Nat)
  /-- STOP_COMPLETION_RELEASE (R49): A stop-ring completion held inside the module is written once its
    completion ring has room. -/
  | stopCompletionRelease (t : Nat)
  /-- EVR_GAP (R56): When a full event ring regains room, EVR_GAP is written into it, naming the skipped range,
    before live events resume. -/
  | evrGap (t : Nat) (j : Nat)
  /-- NOTIF_DATA_READ (R57): A latching read of HOST.NOTIF_DATA returns and pops the oldest notification word,
    and the Racking banks swap when the draining bank is empty. -/
  | notifDataRead (t : Nat) (flips : Nat)
  /-- LATCHING_READ (R511): A read of the lowest word of a wide register latches its other words and clears its
    RC fields. -/
  | latchingRead (t : Nat) (off : Nat) (wide bar4 : Bool)
  /-- STREAM_BUFFER_FILL (R59): A stream source fills a posted 4 KiB buffer, writes its header and entry bytes
    and advances the fill count, marking OVERRUN after any loss. -/
  | streamBufferFill (t : Nat) (src : Nat) (mtbFirst : Nat) (data : List (List Int))
  /-- RING_CREATE (R39): The RING_CREATE command writes and enables a ring from a register image. -/
  | ringCreate (x : Ctx) (kind : RingKind) (ring : Nat) (image : Nat)
  /-- RING_DESTROY (R39): The RING_DESTROY command stops fetching from a ring, lets its fetched commands
    complete and then disables it. -/
  | ringDestroy (x : Ctx) (kind : RingKind) (ring : Nat)
  /-- JOURNAL_FETCH (R56): The JOURNAL_FETCH command copies journalled events in a device-sequence span, with
    REPLAY set, into a host buffer. -/
  | journalFetch (x : Ctx) (first : Nat) (span : Nat)
  /-- STATUS_QUERY (R52): The STATUS_QUERY command returns the status-history entries of a range of host
    sequence numbers. -/
  | statusQuery (x : Ctx) (ring : Nat) (first : Nat) (count : Nat)
  /-- REG_WRITE (R541): The REG_WRITE command writes RWS fields or clears W1C bits after the set-up lock,
    subject to block state checks. -/
  | regWrite (x : Ctx) (off : Nat) (value : Nat) (mask : Nat)
  /-- ECHO (R62): The ECHO command returns the first 12 bytes of its parameters in the result. -/
  | echo (x : Ctx) (data : List Byte)
  /-- START_UP (R498): From valid VIN the module boots, checks its images, runs self-test steps 1-3, loads the
    ledger, starts metering and replays records. -/
  | startUp (t : Nat) (boot : BootIn)
  /-- CASK_OPEN (R68): The CASK_OPEN command assigns the next Cask id and enters OPEN, or completes NO_SLOT. -/
  | caskOpen (x : Ctx)
  /-- CASK_ACTION (R70): A Cask-capable command carrying a Cask id is staged as an action and completes OK with
    its action index. -/
  | caskAction (x : Ctx) (act : CaskAct)
  /-- CASK_PREPARE (R72): The CASK_PREPARE command checks the staged count and sends the actions to their
    islands for validation and consent. -/
  | caskPrepare (x : Ctx) (id expected : Nat)
  /-- CASK_VALIDATION_DONE (R72): When every island has validated and every consent is given or refused, the
    Cask becomes PREPARED or ABORTED. -/
  | caskValidationDone (t : Nat) (k : Nat)
  /-- CASK_COMMIT (R76): The CASK_COMMIT command fixes T by mode and arms the Cask, or completes TOO_LATE, NO_ZC
    or BAD_PARAM. -/
  | caskCommit (x : Ctx) (id mode instant : Nat)
  /-- CASK_ABORT (R72): The CASK_ABORT command aborts an unrecorded Cask with ABORT_HOST, or completes TOO_LATE
    once it is RECORDED. -/
  | caskAbort (x : Ctx) (id : Nat)
  /-- CASK_QUERY (R71): The CASK_QUERY command returns T, the state and the action count of a Cask. -/
  | caskQuery (x : Ctx) (id : Nat)
  /-- FUNC_DISABLE (R84): The FUNC_DISABLE command refuses new commands, cancels queued ones, aborts Casks and
    stops the function's live sessions. -/
  | funcDisable (x : Ctx) (block inst : Nat)
  /-- FUNC_DISABLE_DONE (R84): The disable takes effect and FUNC_DISABLED is raised, within 8 s of the sessions
    stopping. -/
  | funcDisableDone (t : Nat) (block inst : Nat)
  /-- CASK_OPEN_TIMEOUT (R72): OPEN_TO_MS elapses since the Cask was opened and it aborts with ABORT_TIMEOUT. -/
  | caskOpenTimeout (t : Nat) (k : Nat)
  /-- CASK_PREPARED_TIMEOUT (R72): 60 s elapse in PREPARED and the Cask aborts with ABORT_TIMEOUT. -/
  | caskPreparedTimeout (t : Nat) (k : Nat)
  /-- CASK_RECORD_WRITE (R80): At T − LEAD_US, with all participants acknowledged, LEDGER writes the commit
    record and the Cask becomes RECORDED. -/
  | caskRecordWrite (t : Nat) (k : Nat) (whole : Bool)
  /-- CASK_SYNC_EDGE (R79): In mode 3, when the SYNC_IN stamp reaches LEDGER, it fixes T, sends T to the
    participants and writes the commit record. -/
  | caskSyncEdge (t : Nat) (edge : Nat) (falling : Bool)
  /-- CASK_SYNC_TIMEOUT (R72): SYNC_TO_MS elapses without a SYNC_IN edge and the Cask aborts with SYNC_TIMEOUT.
    -/
  | caskSyncTimeout (t : Nat) (k : Nat)
  /-- CASK_RETRACT (R82): If the record is not written by T − 10 µs, LEDGER retracts the Cask from every
    participant and it aborts with ABORT_POWER or RECORD_FAIL. -/
  | caskRetract (t : Nat) (k : Nat)
  /-- CASK_APPLY (R81): At T each participant applies its shadow state at its first local edge at or after T,
    and the Cask becomes DONE. -/
  | caskApply (t : Nat) (k : Nat) (applied : List (Nat × Nat)) (lowRefused : Bool)
  /-- PILOT_STATE_ACCEPT (R91): After FILT_PER consecutive agreeing periods, the outlet controller accepts a new
    pilot state and drives the session machine. -/
  | pilotStateAccept (t : Nat) (n : Nat)
  /-- PILOT_DIODE_FAULT (R92): A low level above −10.5 V for 3 periods, or no accepted state in 10 periods, sets
    DIODE_FAULT and sends the session to FAULT. -/
  | pilotDiodeFault (t : Nat) (n : Nat)
  /-- PILOT_PWM_PERIOD (R93): At each 1 ms PWM period start, a new duty or the start or removal of PWM takes
    effect. -/
  | pilotPwmPeriod (t : Nat) (n : Nat) (high low : Int)
  /-- PROXIMITY_READ (R97): Every 10 ms the proximity resistance is re-read, the cable limit is updated and a
    pressed latch release starts MSTOP. -/
  | proximityRead (t : Nat) (n : Nat) (ohms : Nat)
  /-- AUTH_TIMEOUT (R98): AUTH_TO elapses without authorisation and the session ends NO_AUTH. -/
  | authTimeout (t : Nat) (n : Nat)
  /-- HLC_MESSAGE (R102): A V2G message of the chosen protocol is received over TLS and handled by the session
    machine. -/
  | hlcMessage (t : Nat) (n : Nat) (msg : HlcMsg)
  /-- HLC_TIMEOUT (R102): A message timer of the chosen standard expires and the session goes to READY in basic
    mode or ends HLC_ERROR. -/
  | hlcTimeout (t : Nat) (n : Nat)
  /-- SLAC_PARM_REQ (R105): A CM_SLAC_PARM.REQ heard on participating pilots starts a SLAC run and is confirmed.
    -/
  | slacParmReq (t : Nat) (run : Nat) (pilots : List Nat)
  /-- START_ATTEN_CHAR (R106): A CM_START_ATTEN_CHAR.IND opens the 600 ms sounding window for its run id. -/
  | startAttenChar (t : Nat) (run : Nat)
  /-- MNBC_SOUND (R106): A CM_MNBC_SOUND.IND is measured per group on every participating pilot modem. -/
  | mnbcSound (t : Nat) (run : Nat) (meas : List (Nat × List Nat))
  /-- SLAC_WINDOW_CLOSE (R107): When TT_EVSE_match_MNBC ends, the run ids are assigned jointly to pilots and
    CM_ATTEN_CHAR.IND is sent. -/
  | slacWindowClose (t : Nat)
  /-- SLAC_VALIDATE (R109): A CM_VALIDATE exchange is answered Ready on the ambiguous pilots, which count the
    vehicle's B/C toggles. -/
  | slacValidate (t : Nat) (run announced : Nat) (counted : List (Nat × Nat))
  /-- SLAC_MATCH_REQ (R108): A CM_SLAC_MATCH.REQ is confirmed on the assigned pilot only, with a fresh NMK and
    NID, raising SLAC_RESULT. -/
  | slacMatchReq (t : Nat) (run pilot : Nat)
  /-- SLAC_MATCH_TIMEOUT (R108): TT_EVSE_match_session ends without a confirmed match, releasing the pilot or
    set as a failed run. -/
  | slacMatchTimeout (t : Nat) (run : Nat)
  /-- SLAC_INIT_TIMEOUT (R111): No retry CM_SLAC_PARM.REQ arrives within 50 s; after the third failure AC
    continues basic and DC ends SLAC_FAIL. -/
  | slacInitTimeout (t : Nat) (n : Nat)
  /-- PREAUTH_TIMEOUT (R113): PREAUTH_S elapses and a held card pre-authorisation is dropped. -/
  | preauthTimeout (t : Nat)
  /-- PM_STATUS_FRAME (R119): A STATUS frame from a power module is checked by CRC and recorded. -/
  | pmStatusFrame (t : Nat) (bus id : Nat) (frame : List Byte)
  /-- PM_IDENT_FRAME (R118): An IDENT frame from a power module is received and recorded. -/
  | pmIdentFrame (t : Nat) (bus id : Nat) (maker model serial ratedV ratedA ratedKw fw : Nat)
  /-- PM_FAULT_FRAME (R118): A FAULT frame from a power module is received and raises PM_FAULT. -/
  | pmFaultFrame (t : Nat) (bus id : Nat) (code severity : Nat)
  /-- PM_LOST (R120): No valid STATUS arrives for 50 ms; the cap is reduced, or the outlet goes to EREM and
    FAULT with PM_LOST. -/
  | pmLost (t : Nat) (n inst : Nat)
  /-- SETPOINT_SEND (R121): Every 10 ms a SETPOINT frame carries the shared current set-point to each live power
    module. -/
  | setpointSend (t : Nat) (n : Nat)
  /-- PM_SYNC_SEND (R118): Every 100 ms a SYNC frame is broadcast carrying the MTB and the epoch. -/
  | pmSyncSend (t : Nat)
  /-- ALLOCATOR_RUN (R123): Once per second the allocator shares the effective site limit among sessions by
    class and raises allocation events. -/
  | allocatorRun (t : Nat)
  /-- TRELLIS_LIMIT_EXPIRY (R122): A Trellis limit not refreshed within its lifetime is replaced by FALLBACK_W.
    -/
  | trellisLimitExpiry (t : Nat)
  /-- ENFORCEMENT_GRACE_END (R125): At the end of the AC grace or DC ramp, the enforcement value falls to the
    new allocation and freed power becomes available. -/
  | enforcementGraceEnd (t : Nat) (n : Nat)
  /-- ALLOC_MAX_WAIT (R124): The paused time reaches MAX_WAIT_MIN and the session ends ALLOC_REFUSED. -/
  | allocMaxWait (t : Nat) (n : Nat)
  /-- OUT_CONFIG (R89): The OUT_CONFIG command writes an outlet's CFG and DC_CFG, or completes SESSION_LIVE or
    BAD_PARAM. -/
  | outConfig (x : Ctx) (n cfg dc : Nat)
  /-- OUT_AVAILABILITY (R117): The OUT_AVAILABILITY command makes an outlet available or takes it out of service
    after or during its session. -/
  | outAvailability (x : Ctx) (n mode : Nat)
  /-- SESSION_AUTHORISE (R112): The SESSION_AUTHORISE command authorises an outlet, or pre-authorises, as
    HOST_EIM. -/
  | sessionAuthorise (x : Ctx) (n kind : Nat) (ident : List Byte)
  /-- SESSION_STOP (R100): The stop-class SESSION_STOP command starts MSTOP on the outlets of the mask with end
    reason HOST_STOP. -/
  | sessionStop (x : Ctx) (mask peer : Nat)
  /-- OUT_EREM (R167): The stop-class OUT_EREM command removes energy at once and sends the sessions to FAULT
    with HOST_EREM. -/
  | outErem (x : Ctx) (mask peer : Nat)
  /-- OUT_SITE_LIMIT (R122): The OUT_SITE_LIMIT command sets and saves HOST_LIMIT_W for the next allocator run.
    -/
  | outSiteLimit (x : Ctx) (watts : Nat)
  /-- SESSION_SET_CLASS (R123): The SESSION_SET_CLASS command changes a live session's allocation class from the
    next run. -/
  | sessionSetClass (x : Ctx) (n cls : Nat)
  /-- SESSION_QUERY (R98): The SESSION_QUERY command returns an outlet's session id, state, end reason and
    allocation. -/
  | sessionQuery (x : Ctx) (n : Nat)
  /-- OUT_SELECT (R113): The OUT_SELECT command binds a held card to the named outlet. -/
  | outSelect (x : Ctx) (n : Nat)
  /-- OUT_CONTACTOR (R88): The OUT_CONTACTOR command opens or closes an outlet's contactors under host control,
    a close needing consent. -/
  | outContactor (x : Ctx) (n : Nat) (close : Bool)
  /-- OUT_PILOT_DUTY (R88): The OUT_PILOT_DUTY command sets the pilot duty, constant +12 V or state F under host
    control. -/
  | outPilotDuty (x : Ctx) (n duty : Nat)
  /-- OUT_PM_SETPOINT (R88): The OUT_PM_SETPOINT command sets the power-module mode and limits under host
    control. -/
  | outPmSetpoint (x : Ctx) (n mode volts amps watts : Nat)
  /-- OUT_CERT_RESPONSE (R104): The OUT_CERT_RESPONSE command returns certificate material, whose signatures are
    checked before it is forwarded to the vehicle. -/
  | outCertResponse (x : Ctx) (n : Nat) (valid : Bool) (data : List Byte)
  /-- HSL_CYCLE (R25): Each 1 ms of its own time, channel B updates its residual values, pilot filter, watchdog
    and low-side decisions and sends its heartbeat. -/
  | hslCycle (t : Nat) (levels : List Int) (mirrors : Nat)
  /-- HSL_TABLE_CHECK (R135): Every 100 ms channel B checks the CRC-32 of HSL_TABLE and latches TABLE_FAIL on
    failure. -/
  | hslTableCheck (t : Nat) (crcOk : Bool)
  /-- HSL_WATCHDOG_EXPIRY (R136): More than 10 ms without a SAFE_ALIVE edge makes channel B turn off every low
    side and latch A_LOST. -/
  | hslWatchdogExpiry (t : Nat)
  /-- B_HEARTBEAT (R137): Channel A receives channel B's heartbeat with its cycle count, decision vector and
    CRC. -/
  | bHeartbeat (t : Nat) (b : Beat)
  /-- B_HEARTBEAT_LOSS (R137): No valid heartbeat for 10 ms makes channel A remove A_COIL_EN from every coil and
    latch B_LOST. -/
  | bHeartbeatLoss (t : Nat)
  /-- CHANNEL_DISCREPANCY (R138): One channel trips while the other disagrees for 100 ms, latching CH_DISC and
    entering the safe state. -/
  | channelDiscrepancy (t code n chan : Nat) (reading : Int) (since : Nat)
  /-- SAFETY_SELFTEST_DONE (R139): Self-test steps 4 and 5 complete after host ready, setting SELFTEST_OK and
    allowing SAFE_OK high. -/
  | safetySelftestDone (t : Nat)
  /-- COIL_PULLIN_START (R142): A coil pull-in starts once the VCOIL current sum with its PULLIN_MA fits within
    40 A. -/
  | coilPullinStart (t : Nat) (k : Nat)
  /-- COIL_PULLIN_END (R141): PULLIN_MS elapses and the coil changes to chopped hold current. -/
  | coilPullinEnd (t : Nat) (k : Nat)
  /-- COIL_OPEN (R144): A coil current below 30 % of HOLD_MA for 50 ms while on latches COIL_OPEN. -/
  | coilOpen (t : Nat) (k ma ms : Nat)
  /-- COIL_SHORT (R144): A coil current above 4.0 A turns both switches off within 10 µs and latches COIL_SHORT.
    -/
  | coilShort (t : Nat) (k : Nat) (ma : Nat)
  /-- WELD_CHECK (R149): OPEN_CHECK after an opening, the mirror and voltages are checked, and a weld latches
    WELD and may assert SHUNT_TRIP. -/
  | weldCheck (t : Nat) (n : Nat)
  /-- SHUNT_TRIP_END (R150): SHUNT_TRIP is released after 500 ms of assertion. -/
  | shuntTripEnd (t : Nat)
  /-- SHUNT_TRIP_REPEAT (R150): Every 10 s, while WELD stays and the supply is present with SHUNT_EN 1,
    SHUNT_TRIP is asserted again. -/
  | shuntTripRepeat (t : Nat) (n : Nat)
  /-- DARK_TEST_PULSE (R151): Once per TEST_PERIOD_S per side, one switch of a held coil is turned off for
    TEST_US and its readback is checked. -/
  | darkTestPulse (t : Nat) (k : Nat) (low : Bool) (offUs : Option Nat) (otherOpens : Bool)
  /-- DARK_TEST_END (R152): At the pulse end the switch must turn on again within 100 µs; a waiting turn-on then
    proceeds. -/
  | darkTestEnd (t : Nat) (onUs : Option Nat)
  /-- COIL_UNCONTROL (R152): The other side also fails to open within 1 ms, latching COIL_UNCONTROL and
    asserting SHUNT_TRIP. -/
  | coilUncontrol (t : Nat) (k : Nat)
  /-- ESTOP_SOURCE_PULSE (R154): Every 100 ms each E-stop source is switched off for 500 µs and the inputs are
    checked to follow it. -/
  | estopSourcePulse (t : Nat) (srcB : Bool) (ownFollows otherFollows : Bool)
  /-- ESTOP_OPEN (R154): An E-stop input open for 2.5 ms outside its pulse window turns every coil off and
    latches ESTOP. -/
  | estopOpen (t : Nat) (inputB : Bool) (us : Nat)
  /-- ESTOP_DISC (R155): One E-stop input open while the other is still closed 50 ms later latches ESTOP_DISC.
    -/
  | estopDisc (t : Nat)
  /-- SAFE_IN_CHANGE (R156): A SAFE_IN input changes past its filter and its configured action is taken on its
    outlets. -/
  | safeInChange (t : Nat) (m : Nat) (closed : Bool) (ms : Nat)
  /-- RCM_READING (R157): Every 125 µs a residual-current reading reaches channel B and METRO. -/
  | rcmReading (t : Nat) (inst : Nat) (value : Int)
  /-- RCM_SELFTEST_RUN (R159): Channel B completes a residual-current self-test of offset and test current,
    setting or clearing RCM_SENSOR and related faults. -/
  | rcmSelftestRun (t : Nat) (n : Nat) (offset : Int) (reading : Nat)
  /-- RCM_SENSOR_RANGE (R159): A reading outside the valid range for 10 ms sets RCM_SENSOR and opens the outlet.
    -/
  | rcmSensorRange (t : Nat) (inst : Nat)
  /-- RCM_PREWARN (R160): A DC component at or above 3 mA for 10 s raises RCM_PREWARN once. -/
  | rcmPrewarn (t : Nat) (n : Nat)
  /-- IMD_RESULT (R163): A new insulation result arrives each second, raising warnings or an EREM with
    IMD_FAULT. -/
  | imdResult (t : Nat) (kohm : Nat)
  /-- CABLE_CHECK_TIMEOUT (R164): No valid settled insulation result arrives within 10 s and the cable check
    fails. -/
  | cableCheckTimeout (t : Nat) (n : Nat)
  /-- SAFE_STATE_PILOT_END (R169): After at least 2 s at state F, an outlet with an unlatched fault returns its
    pilot to constant +12 V. -/
  | safeStatePilotEnd (t : Nat) (n : Nat)
  /-- RESET_SAFE_EDGE (R172): A rising RESET_SAFE edge after at least 20 ms low clears every latched fault whose
    cause is gone and raises SAFE_CLEARED. -/
  | resetSafeEdge (t : Nat) (lowUs : Nat) (aOpen bOpen : Bool)
  /-- SAFE_QUERY (R171): The SAFE_QUERY command returns SAFE.STATUS and the active fault codes of the lowest
    faulted outlet. -/
  | safeQuery (x : Ctx)
  /-- SAFE_TEST_NOW (R151): The SAFE_TEST_NOW command schedules one dark test per side of each held coil in the
    mask. -/
  | safeTestNow (x : Ctx) (mask : Nat)
  /-- RCM_SELFTEST (R159): The RCM_SELFTEST command has channel B run the residual-current self-test of an open
    outlet. -/
  | rcmSelftest (x : Ctx) (n : Nat) (offset : Int) (reading : Nat)
  /-- IMD_MEASURE (R162): The IMD_MEASURE command returns an insulation measurement of the monitored outlet. -/
  | imdMeasure (x : Ctx) (n kohm : Nat)
  /-- CH_OVERLOAD (R180): A channel input passes its overload threshold; the modulator is reset for 2 µs and its
    samples are flagged invalid. -/
  | chOverload (t c : Nat)
  /-- MBS_LOST (R187): No transition for 64 MCLK periods sets LOST, raises AFE_MBS_LOST and makes the channel
    absent. -/
  | mbsLost (t c : Nat)
  /-- MBS_RESTORED (R187): After 4,096 periods of a normal stream, LOST clears with a second AFE_MBS_LOST event.
    -/
  | mbsRestored (t c : Nat)
  /-- AUX_SEQ_DUE (R198): A scan sequence becomes due at an MTB multiple of its period and starts or is skipped
    as late. -/
  | auxSeqDue (t q : Nat)
  /-- AUX_CONVERSION_DONE (R202): An auxiliary entry completes, updating AUX_RES and producing an AUX_REC
    record, and the next entry starts. -/
  | auxConversionDone (t conv : Nat) (samples : List Int) (trip : Bool)
  /-- AFE_SEQ_LOAD (R199): The AFE_SEQ_LOAD command loads a scan sequence, replacing the old one at the end of
    the pass in progress. -/
  | afeSeqLoad (x : Ctx) (q ctl : Nat) (ents : List Nat)
  /-- AFE_SEQ_EN (R199): The AFE_SEQ_EN command enables or disables a sequence at the end of its current pass.
    -/
  | afeSeqEn (x : Ctx) (q on : Nat)
  /-- AFE_AUX_ONESHOT (R206): The AFE_AUX_ONESHOT command inserts one conversion of an input and returns its
    value. -/
  | afeAuxOneshot (x : Ctx) (inst conv settle avg : Nat) (samples : List Int) (trip : Bool)
  /-- AFE_CAL_ZERO (R204): The AFE_CAL_ZERO command converts an input with its zero applied and stores Z and Y0.
    -/
  | afeCalZero (x : Ctx) (inst conv : Nat) (y0 : Int) (samples : List Int) (trip : Bool)
  /-- AFE_CAL_SPAN (R205): The AFE_CAL_SPAN command converts the span and computes and stores G, or refuses. -/
  | afeCalSpan (x : Ctx) (inst conv : Nat) (y1 : Int) (samples : List Int) (trip : Bool)
  /-- AFE_CAL_RESTORE (R206): The AFE_CAL_RESTORE command returns the factory coefficient set of an input and
    converter. -/
  | afeCalRestore (x : Ctx) (inst conv : Nat)
  /-- AFE_CAPTURE (R193): The AFE_CAPTURE command copies pipeline converter samples to a stream ring. -/
  | afeCapture (x : Ctx) (mask fmt samples : Nat)
  /-- AFE_CAPTURE_STOP (R193): The AFE_CAPTURE_STOP command ends a capture and delivers the partly filled
    buffer. -/
  | afeCaptureStop (x : Ctx) (mask : Nat) (parts : List (Nat × Nat × List (List Int)))
  /-- TRK_PERIOD (R220): The tracker finds a rising zero crossing and accepts or rejects the period, moving
    between SEARCH, LOCKED and HOLD. -/
  | trkPeriod (t m cross amp : Nat)
  /-- TRK_CROSSING_TIMEOUT (R221): No crossing within 1.5 times the estimated period sends a LOCKED tracker to
    HOLD. -/
  | trkCrossingTimeout (t m : Nat)
  /-- TRK_HOLD_EXPIRY (R221): Ten grid cycles in HOLD return the tracker to SEARCH with the grid at FNOM. -/
  | trkHoldExpiry (t m : Nat)
  /-- TRK_SOURCE_ABSENT (R221): The tracker source becomes absent or EN is cleared and the tracker goes OFF. -/
  | trkSourceAbsent (t m : Nat)
  /-- GRID_CYCLE_START (R223): A new grid cycle starts, its period is fixed from the phase error, and the
    previous cycle's quantities are computed. -/
  | gridCycleStart (t m : Nat)
  /-- SETTLING_END (R216): Twice the group delay after a chain restart, samples stop carrying SETTLING and the
    meter point may go RUNNING. -/
  | settlingEnd (t c : Nat)
  /-- BLEND_START (R231): At the next grid-cycle start or 1 ms boundary, the cross-fade to the new coefficient
    bank begins. -/
  | blendStart (t c : Nat)
  /-- BLEND_DONE (R231): The cross-fade ends at t1 and BLEND_DONE is raised. -/
  | blendDone (t c : Nat)
  /-- FILT_QUERY (R211): The FILT_QUERY command returns a channel's filter status, total delay and last sample
    flags. -/
  | filtQuery (x : Ctx) (c : Nat)
  /-- FILT_BLEND (R231): The FILT_BLEND command swaps the banks of the channels in its mask through a
    cross-fade. -/
  | filtBlend (x : Ctx) (mask : Nat)
  /-- TRK_QUERY (R221): The TRK_QUERY command returns a tracker's frequency, state and next grid start. -/
  | trkQuery (x : Ctx) (m : Nat)
  /-- FILT_RESTART (R216): The FILT_RESTART command restarts the filter chains of the channels in its mask. -/
  | filtRestart (x : Ctx) (mask : Nat)
  /-- MET_WINDOW_END (R243): At the end of each 10 or 12 cycle window, or 200 ms on DC, PHASE, TOTAL and
    harmonics are updated. -/
  | metWindowEnd (t m : Nat)
  /-- DEMAND_SECOND_RECORD (R259): A per-second increment record per meter point reaches the ledger within 30 ms
    of the second's end. -/
  | demandSecondRecord (t m : Nat)
  /-- PQ_HALF_CYCLE (R261): Urms(1/2) is refreshed every half grid cycle and dips, swells and interruptions are
    started or ended. -/
  | pqHalfCycle (t m : Nat)
  /-- PULSE_START (R275): A pulse output starts conducting at its due instant plus its fixed latency, or after
    the backlog wait. -/
  | pulseStart (t k : Nat)
  /-- PULSE_END (R273): A pulse output stops conducting after its width. -/
  | pulseEnd (t k : Nat)
  /-- TC_READ (R271): Every second LEGAL_FW reads the die temperature and starts compensating blends when it
    moved by STEP. -/
  | tcRead (t : Nat) (temp : Int)
  /-- MET_SESSION_CLOSE_FINAL (R257): A metering close becomes final within 30 ms, clearing CLOSED_PENDING. -/
  | metSessionCloseFinal (t m : Nat)
  /-- MET_CAL_MEASURE_DONE (R267): A calibration measurement ends and MET_CAL_RESULT is raised, or it completes
    CAL_UNSTABLE. -/
  | metCalMeasureDone (t m : Nat)
  /-- MET_QUERY (R243): The MET_QUERY command returns total power, frequency, state and quality flags of a meter
    point. -/
  | metQuery (x : Ctx) (m : Nat)
  /-- MET_SESSION_OPEN (R256): The MET_SESSION_OPEN command starts the meter point's session counters from T. -/
  | metSessionOpen (x : Ctx) (m sess : Nat)
  /-- MET_SESSION_CLOSE (R256): The MET_SESSION_CLOSE command stops and freezes the session counters before T2.
    -/
  | metSessionClose (x : Ctx) (m : Nat)
  /-- MET_CAL_MEASURE (R267): The MET_CAL_MEASURE command starts an averaged calibration measurement under an
    open calibration. -/
  | metCalMeasure (x : Ctx) (m phases secs : Nat)
  /-- MET_CAL_APPLY (R268): The MET_CAL_APPLY command computes new gains and trims and brings them in by blend.
    -/
  | metCalApply (x : Ctx) (m ph uRef iRef : Nat) (angleRef : Int) (mask : Nat)
  /-- MET_PULSE_CFG (R274): The MET_PULSE_CFG command assigns a pulse output, checking the rate at PMAX. -/
  | metPulseCfg (x : Ctx) (k image : Nat)
  /-- MET_HARM_READ (R245): The MET_HARM_READ command returns harmonic subgroups or groups of a phase. -/
  | metHarmRead (x : Ctx) (m ph groups : Nat)
  /-- MET_WAVE_CAPTURE (R256): The MET_WAVE_CAPTURE command streams resampled meter point samples. -/
  | metWaveCapture (x : Ctx) (mask samples : Nat)
  /-- MET_WAVE_STOP (R256): The MET_WAVE_STOP command ends a waveform capture and delivers the partly filled
    buffer. -/
  | metWaveStop (x : Ctx) (mask : Nat)
  /-- LEDGER_COMMIT (R279): At each commit interval the ledger writes its state to the alternate MRAM copy. -/
  | ledgerCommit (t : Nat) (ok : Bool)
  /-- RECORD_SIGN (R282): An appended record is signed in the background. -/
  | recordSign (t : Nat)
  /-- VFAIL (R489): VIN crosses below VFAIL and L is stamped. -/
  | vfail (t mv : Nat) (feed : List Feed)
  /-- VIN_RETURN (R287): VIN returns above VFAIL before the converter-die rail falls and the module continues
    after Last pour with cause 2. -/
  | vinReturn (t mv : Nat)
  /-- CONVERTER_RAIL_FALL (R286): The converter-die rail falls, the AON island records t_stop, and the module
    stops. -/
  | converterRailFall (t : Nat)
  /-- TARIFF_SWITCH (R295): At a whole minute of local time the calendar gives a new tariff and a boundary
    occurs. -/
  | tariffSwitch (t : Nat)
  /-- CALENDAR_ACTIVATE (R296): The pending calendar becomes active at its activation time as a boundary
    transaction with a CALENDAR record. -/
  | calendarActivate (t : Nat)
  /-- DEMAND_BOUNDARY (R299): A nominal demand sub-interval or billing boundary is reached, or held open for
    SYNC_IN. -/
  | demandBoundary (t : Nat)
  /-- BOUNDARY_TRANSACTION (R304): Once the second record ending at B arrives, everything at that boundary is
    written as one ledger transaction. -/
  | boundaryTransaction (t : Nat)
  /-- SYNC_WINDOW_EXPIRY (R303): A boundary held open for SYNC_WIN_S closes at its nominal time when no edge
    arrived. -/
  | syncWindowExpiry (t : Nat)
  /-- SEAL_IDLE (R315): LEGAL_SEAL asserted for 10 min without an open calibration raises the tamper type
    SEAL_IDLE. -/
  | sealIdle (t : Nat)
  /-- LEGAL_SEAL_CHANGE (R319): LEGAL_SEAL changes level; its release closes an open calibration. -/
  | legalSealChange (t : Nat) (level : Bool)
  /-- CAL_EXPIRY (R319): The calibration duration expires and the calibration closes with a CAL record. -/
  | calExpiry (t : Nat)
  /-- LEGAL_BTN_PRESS (R317): LEGAL_BTN low for 50 ms shows the next legal item on the segments. -/
  | legalBtnPress (t : Nat)
  /-- LEGAL_DISPLAY_TIMEOUT (R317): Ten seconds without a press return the segments to the session display. -/
  | legalDisplayTimeout (t : Nat)
  /-- LEDGER_QUERY (R277): The LEDGER_QUERY command returns LAST_SEQ, the tariff in force and status flags. -/
  | ledgerQuery (x : Ctx) (m : Nat)
  /-- LEDGER_SESSION_RECORD (R544): The LEDGER_SESSION_RECORD command writes a session-open or session-close
    record of an outlet. -/
  | ledgerSessionRecord (x : Ctx) (n m op kind : Nat) (ident : List Byte) (price reason : Nat)
  /-- LEDGER_TARIFF_SELECT (R297): The LEDGER_TARIFF_SELECT command forces a tariff and price id, or returns to
    the calendar, as a boundary transaction. -/
  | ledgerTariffSelect (x : Ctx) (mask tariff price : Nat)
  /-- LEDGER_READ_SIGNED (R314): The LEDGER_READ_SIGNED command appends a READING record per meter point of its
    mask. -/
  | ledgerReadSigned (x : Ctx) (mask : Nat)
  /-- LEDGER_RECORD_FETCH (R281): The LEDGER_RECORD_FETCH command returns signed records in sequence order and
    acknowledges them. -/
  | ledgerRecordFetch (x : Ctx) (first maxBytes ackTo : Nat)
  /-- LEDGER_TIME_SET (R292): The LEDGER_TIME_SET command sets the wall time within the unsigned step limit or
    under owner signature. -/
  | ledgerTimeSet (x : Ctx) (ms : Nat) (sig : Option OwnerSig)
  /-- LEDGER_CALENDAR_LOAD (R296): The LEDGER_CALENDAR_LOAD command loads a checked calendar as the pending
    copy. -/
  | ledgerCalendarLoad (x : Ctx) (image : List Byte) (sigOk : Bool)
  /-- LEDGER_BILLING_CLOSE (R309): The LEDGER_BILLING_CLOSE command ends the billing period at the next second
    edge. -/
  | ledgerBillingClose (x : Ctx)
  /-- LEDGER_BILLING_READ (R310): The LEDGER_BILLING_READ command returns a stored billing set. -/
  | ledgerBillingRead (x : Ctx) (k : Nat)
  /-- LEDGER_CAL_CHALLENGE (R318): The LEDGER_CAL_CHALLENGE command returns a fresh 16-byte challenge. -/
  | ledgerCalChallenge (x : Ctx)
  /-- LEDGER_CAL_OPEN (R318): The LEDGER_CAL_OPEN command opens a calibration on a signed challenge with
    LEGAL_SEAL asserted. -/
  | ledgerCalOpen (x : Ctx) (mask mins challenge : Nat) (sigOk : Bool)
  /-- LEDGER_CAL_CLOSE (R319): The LEDGER_CAL_CLOSE command closes the open calibration and appends its CAL
    record. -/
  | ledgerCalClose (x : Ctx)
  /-- LEDGER_LEGAL_ID (R316): The LEDGER_LEGAL_ID command returns the 32-byte LEGAL_FW check value. -/
  | ledgerLegalId (x : Ctx)
  /-- LEDGER_ACK_LOSS (R288): The LEDGER_ACK_LOSS command clears POSSIBLE_LOSS durably in both state copies. -/
  | ledgerAckLoss (x : Ctx)
  /-- PLC_FRAME_RX (R330): A pilot modem receives a Green PHY frame after blanking and forward error correction,
    delivering or discarding it. -/
  | plcFrameRx (t inst agc first : Nat) (syms : List (List Int)) (fecOk : Bool)
  /-- SUPERFRAME_START (R336): A Trellis superframe starts at the aligned crossing or SYNC_IN edge, and the
    coordinator sends its beacon. -/
  | superframeStart (t : Nat)
  /-- BEACON_RX (R337): A received beacon is stamped and the node moves its superframe start toward it. -/
  | beaconRx (t : Nat) (h : THdr) (stamp pos coord count : Nat) (relays : List Nat)
  /-- SYNC_IN_EDGE (R338): An accepted SYNC_IN edge is stamped from the MTB and passed to LEDGER and Trellis. -/
  | syncInEdge (t first : Nat) (falling : Bool)
  /-- TRELLIS_TX (R343): A queued Trellis frame wins contention in its class and is transmitted to its next hop.
    -/
  | trellisTx (t : Nat)
  /-- ACK (R346): An ACK frame received in the response slot confirms a unicast frame at its first hop. -/
  | ack (t : Nat) (h : THdr) (seq ctr : Nat)
  /-- TRELLIS_ACK_TIMEOUT (R346): No ACK within 200 µs; the frame is retried up to 3 times or dropped with
    TRELLIS_SENT outcome 1. -/
  | trellisAckTimeout (t : Nat)
  /-- JOIN_REQ (R342): The coordinator receives a JOIN_REQ and answers with a JOIN_RESULT. -/
  | joinReq (t : Nat) (h : THdr) (serial caps : Nat)
  /-- JOIN_RESULT (R342): A joining node receives JOIN_RESULT and becomes JOINED, OFF or LISTEN. -/
  | joinResult (t : Nat) (h : THdr) (res count : Nat)
  /-- LQ_REPORT (R345): A received LQ_REPORT updates path metrics and next hops. -/
  | lqReport (t : Nat) (h : THdr) (entries : List (Nat × Nat × Nat))
  /-- SITE_LIMIT (R347): A received SITE_LIMIT frame sets TRELLIS_W and restarts its lifetime. -/
  | siteLimit (t : Nat) (h : THdr) (validity : Nat) (entries : List (Nat × Nat))
  /-- TIME (R348): A received TIME frame sets the wall time through the ledger when it differs by more than
    TIME_TOL_MS. -/
  | time (t : Nat) (h : THdr) (ref ms : Nat) (sig : Option (List Byte × Bool))
  /-- HOST_DATA (R351): A received HOST_DATA frame is delivered on stream source 24. -/
  | hostData (t : Nat) (h : THdr) (payload : List Byte)
  /-- IMAGE_OFFER (R459): A received IMAGE_OFFER may start a Trellis fetch of the offered image. -/
  | imageOffer (t : Nat) (h : THdr) (digest count gen : Nat)
  /-- IMAGE_REQ (R349): A received IMAGE_REQ is queued and answered with IMAGE_BLOCK fragments. -/
  | imageReq (t : Nat) (h : THdr) (digest : Nat) (ranges : List (Nat × Nat))
  /-- IMAGE_BLOCK (R341): A received IMAGE_BLOCK fragment is reassembled and a complete block is passed to the
    update engine. -/
  | imageBlock (t : Nat) (h : THdr) (digest block frag : Nat) (data : List Byte) (sigs : Bool × Bool)
  /-- IMAGE_BLOCK_EXPIRY (R341): A block incomplete 250 superframes after its first fragment is discarded and
    requested again. -/
  | imageBlockExpiry (t : Nat)
  /-- TRELLIS_BEACON_TIMEOUT (R342): No beacon for 50 or 250 superframes moves a node to COORD, HOLDOVER or
    LISTEN. -/
  | trellisBeaconTimeout (t : Nat)
  /-- TRELLIS_JOIN_TIMEOUT (R342): No JOIN_RESULT within 25 superframes sends the node back toward LISTEN. -/
  | trellisJoinTimeout (t : Nat)
  /-- TRELLIS_JOIN_BACKOFF_END (R342): The 250-superframe wait after a refused or missing join ends and the node
    listens again. -/
  | trellisJoinBackoffEnd (t : Nat)
  /-- TRELLIS_NODE_TIMEOUT (R342): The coordinator removes a node unheard for 750 superframes and raises
    TRELLIS_NODE. -/
  | trellisNodeTimeout (t n : Nat)
  /-- LQ_REPORT_SEND (R345): Every 25 superframes a joined node broadcasts its LQ_REPORT. -/
  | lqReportSend (t : Nat)
  /-- SITE_LIMIT_REPEAT (R347): Every 250 superframes the coordinator repeats its last SITE_LIMIT table. -/
  | siteLimitRepeat (t : Nat)
  /-- TIME_SEND (R348): Every 1,500 superframes the coordinator sends a TIME frame. -/
  | timeSend (t : Nat)
  /-- IMAGE_OFFER_SEND (R349): Every 1,500 superframes a serving node broadcasts IMAGE_OFFER for its active
    image. -/
  | imageOfferSend (t : Nat)
  /-- TRELLIS_ENABLE (R342): Setting TRELLIS.CFG.EN starts the mains modems and moves the node from OFF to
    LISTEN. -/
  | trellisEnable (t : Nat) (on : Bool)
  /-- PLC_QUERY (R325): The PLC_QUERY command returns a modem's status and symbol counts. -/
  | plcQuery (x : Ctx) (island : Nat)
  /-- TRELLIS_SEND (R351): The TRELLIS_SEND command queues one HOST_DATA frame. -/
  | trellisSend (x : Ctx) (dst cls : Nat) (payload : List Byte)
  /-- TRELLIS_LIMIT_SEND (R347): The TRELLIS_LIMIT_SEND command makes the coordinator send a SITE_LIMIT table at
    once. -/
  | trellisLimitSend (x : Ctx) (validity : Nat) (entries : List (Nat × Nat))
  /-- TRELLIS_LQ_READ (R344): The TRELLIS_LQ_READ command returns the 254 link-quality entries. -/
  | trellisLqRead (x : Ctx)
  /-- TRELLIS_RESTART (R342): The TRELLIS_RESTART command takes the node to OFF and then LISTEN. -/
  | trellisRestart (x : Ctx)
  /-- PUF_RETRY (R355): After a failed regeneration and 10 ms unpowered, the root is regenerated again, up to 3
    attempts. -/
  | pufRetry (t : Nat) (ber : Option Nat)
  /-- RIDDLE (R367): Once every Riddling period each held key is re-masked with fresh DRBG output. -/
  | riddle (t : Nat)
  /-- DRBG_RESEED (R375): Every 10 s or 2^20 requests the DRBG reseeds with 384 bits of full entropy. -/
  | drbgReseed (t : Nat)
  /-- ENTROPY_FAIL (R375): A health-test failure stops the DRBG and raises ENTROPY_FAIL. -/
  | entropyFail (t test : Nat)
  /-- ENTROPY_RETEST (R375): Every second the source is retested and three consecutive passes restore the DRBG.
    -/
  | entropyRetest (t : Nat) (pass : Bool)
  /-- KEY_SELFTEST_DONE (R358): The requested known-answer tests finish and the key store returns through SINGLE
    or enters RECOVERY. -/
  | keySelftestDone (t : Nat) (failed : List Nat) (ber : Option Nat)
  /-- CRED_VERIFY_DONE (R382): Verification of a committed credential load ends and the active pointer flips or
    the load fails. -/
  | credVerifyDone (t : Nat)
  /-- FLASH_BLOCK_FAIL (R387): A flash block fails to erase or program and is replaced by a spare, or its area
    becomes read-only. -/
  | flashBlockFail (t a : Nat)
  /-- KEY_QUERY (R357): The KEY_QUERY command returns KEY.STATUS and the credential generation. -/
  | keyQuery (x : Ctx)
  /-- KEY_NODE_QUERY (R361): The KEY_NODE_QUERY command returns a node's handle, generation, type, state and
    public key. -/
  | keyNodeQuery (x : Ctx) (path : List (List Byte))
  /-- KEY_INVALIDATE (R365): The KEY_INVALIDATE command raises a node's generation and makes its descendants
    STALE. -/
  | keyInvalidate (x : Ctx) (path : List (List Byte)) (sig : OwnerSig)
  /-- KEY_REDERIVE (R366): The KEY_REDERIVE command re-derives a STALE node and its stale ancestors. -/
  | keyRederive (x : Ctx) (path : List (List Byte)) (sig : OwnerSig)
  /-- KEY_INSTALL (R362): The KEY_INSTALL command installs or replaces an installed node from an owner-signed
    blob. -/
  | keyInstall (x : Ctx) (blob : List Byte) (plain : Option Nat) (sigOk : Bool)
  /-- KEY_OWNER_SET (R369): The KEY_OWNER_SET command sets the owner public key. -/
  | keyOwnerSet (x : Ctx) (key : List Byte) (counter : Nat) (sig : Option Bool)
  /-- KEY_ANCHOR_INSTALL (R370): The KEY_ANCHOR_INSTALL command writes a trust-anchor slot under owner
    signature. -/
  | keyAnchorInstall (x : Ctx) (slot typ : Nat) (item : List Byte) (valid : Bool) (sig : OwnerSig)
  /-- KEY_CSR (R373): The KEY_CSR command returns a PKCS #10 request signed by a node. -/
  | keyCsr (x : Ctx) (path : List (List Byte)) (subject : List Byte)
  /-- KEY_CERT_INSTALL (R373): The KEY_CERT_INSTALL command binds a validated certificate chain to a node. -/
  | keyCertInstall (x : Ctx) (path : List (List Byte)) (chain : List (List Byte)) (leafKey : Nat)
      (periods : List (Nat × Nat)) (valid : Bool)
  /-- KEY_ATTEST (R376): The KEY_ATTEST command returns a signed attestation statement with up to 8 node keys.
    -/
  | keyAttest (x : Ctx) (nonce : Nat) (paths : List (List (List Byte)))
  /-- KEY_ATTEST_CERT (R376): The KEY_ATTEST_CERT command returns the attestation certificate. -/
  | keyAttestCert (x : Ctx)
  /-- KEY_SELFTEST (R357): The KEY_SELFTEST command clears the cache and enters TEST when every outlet is idle.
    -/
  | keySelftest (x : Ctx)
  /-- CRED_LOAD_BEGIN (R381): The CRED_LOAD_BEGIN command starts or resumes a full credential load. -/
  | credLoadBegin (x : Ctx) (gen count : Nat)
  /-- CRED_LOAD_DATA (R383): The CRED_LOAD_DATA command writes a chunk of records durably into the inactive
    copy. -/
  | credLoadData (x : Ctx) (first : Nat) (recs : List CredRec)
  /-- CRED_LOAD_COMMIT (R382): The CRED_LOAD_COMMIT command starts verification of the load against its signed
    manifest. -/
  | credLoadCommit (x : Ctx) (gen count digest serial : Nat) (sigOk : Bool)
  /-- CRED_LOAD_ABORT (R381): The CRED_LOAD_ABORT command discards the inactive copy. -/
  | credLoadAbort (x : Ctx)
  /-- CRED_UPDATE (R385): The CRED_UPDATE command appends 1-64 records to the delta log as one unit. -/
  | credUpdate (x : Ctx) (recs : List CredRec) (sig : OwnerSig)
  /-- CRED_LOOKUP (R378): The CRED_LOOKUP command looks up an identity and returns the result and record. -/
  | credLookup (x : Ctx) (kind hash n : Nat) (tagBad : Bool)
  /-- RDR0_POLL (R390): Every POLL_MS RDR0 polls for cards, runs the Pruning walk and hands over a single card's
    UID. -/
  | rdr0Poll (t : Nat) (cardsA cardsB cards15 : List (List Byte)) (authOk : Bool) (rxErr : Nat)
  /-- CABLE_READ (R394): A queued cable read reaching the head of the RDR1 queue reads the tag and ends with a
    CABLE_STATE code. -/
  | cableRead (t : Nat) (tag : Option CableRead)
  /-- CABLE_WRITE (R400): A queued life-copy write updates the older copy on the cable tag and reads it back. -/
  | cableWrite (t : Nat) (ok : Bool)
  /-- OWN_TAG_FIELD_ON (R406): A field powers the own tag and any torn block writes are recovered. -/
  | ownTagFieldOn (t : Nat)
  /-- OWN_TAG_FIELD_LOST (R405): The field is lost, closing password and AES access and raising TAG_OWN_FIELD.
    -/
  | ownTagFieldLost (t : Nat)
  /-- OWN_TAG_FIELD_READ (R407): A field read is served from the shadow copy under the area's policy. -/
  | ownTagFieldRead (t : Nat) (first count : Nat)
  /-- OWN_TAG_FIELD_WRITE (R406): A field write is committed to the other slot and verified before the reply, or
    answered busy. -/
  | ownTagFieldWrite (t : Nat) (first : Nat) (values : List Nat) (done : Nat)
  /-- PRESENT_PWD (R405): The PRESENT_PWD custom command opens password access or counts a wrong password. -/
  | presentPwd (t : Nat) (pwd : Nat)
  /-- OWN_TAG_MAM1 (R405): A successful MAM1 authentication opens AES access to the own tag. -/
  | ownTagMam1 (t : Nat) (ok : Bool)
  /-- TAG_QUERY (R390): The TAG_QUERY command returns the reader and own-tag status. -/
  | tagQuery (x : Ctx)
  /-- TAG_CABLE_READ (R394): The TAG_CABLE_READ command queues a cable read of an outlet. -/
  | tagCableRead (x : Ctx) (n : Nat)
  /-- TAG_CABLE_INIT (R402): The TAG_CABLE_INIT command writes both life copies with zero counters. -/
  | tagCableInit (x : Ctx) (n : Nat) (ok : Bool)
  /-- TAG_CABLE_RETIRE (R401): The TAG_CABLE_RETIRE command sets RETIRED on the cable tag. -/
  | tagCableRetire (x : Ctx) (n : Nat) (ok : Bool)
  /-- TAG_OWN_READ (R404): The TAG_OWN_READ command returns blocks of own-tag memory. -/
  | tagOwnRead (x : Ctx) (first count : Nat)
  /-- TAG_OWN_WRITE (R407): The TAG_OWN_WRITE command commits 1-8 blocks in ascending order. -/
  | tagOwnWrite (x : Ctx) (first : Nat) (blocks : List Nat)
  /-- DISP_TEMP_STALE (R410): A temperature value older than 60 s becomes stale and FALLBACK_BAND is used. -/
  | dispTempStale (t : Nat)
  /-- DISP_FRAME_START (R416): A matrix frame starts, region indices are recorded and waiting regions may start.
    -/
  | dispFrameStart (t : Nat)
  /-- DISP_REGION_DONE (R417): A region's last frame ends, the displayed image takes the target and DISP_DONE is
    raised. -/
  | dispRegionDone (t r : Nat)
  /-- EPD_PWR_GOOD_RISE (R415): EPD_PWR_GOOD arrives after EPD_PWR_EN and scanning starts. -/
  | epdPwrGoodRise (t : Nat)
  /-- DISP_PWR_TIMEOUT (R415): EPD_PWR_GOOD does not arrive within 20 ms and waiting regions end PANEL_PWR. -/
  | dispPwrTimeout (t : Nat)
  /-- EPD_PWR_GOOD_LOSS (R415): EPD_PWR_GOOD is lost while scanning and is handled as a power loss with
    DISP_PWR. -/
  | epdPwrGoodLoss (t : Nat)
  /-- DISP_PWR_OFF (R415): 100 ms after the last region ends, EPD_PWR_EN falls. -/
  | dispPwrOff (t : Nat)
  /-- VINTAGE_SAVE (R423): Every 10 s the Vintage counters are saved to MRAM. -/
  | vintageSave (t : Nat)
  /-- SEG_SENSE (R425): Every SENSE_H hours the segment capacitances are measured and the phase lengths
    adjusted. -/
  | segSense (t : Nat) (caps : List Nat)
  /-- SEG_FRAME (R427): A segment frame runs with SEGCOM alternating polarity. -/
  | segFrame (t : Nat)
  /-- LEGAL_SILENT (R428): LEGAL_FW has not answered channel A for 2 s and SAFE paints INVALID. -/
  | legalSilent (t : Nat)
  /-- DISP_QUERY (R417): The DISP_QUERY command returns DISP.STAT and the band. -/
  | dispQuery (x : Ctx)
  /-- DISP_IMAGE_LOAD (R418): The DISP_IMAGE_LOAD command loads pixels into the pending buffer. -/
  | dispImageLoad (x : Ctx) (px py w h : Nat) (pixels : List Byte)
  /-- DISP_UPDATE (R417): The DISP_UPDATE command takes a region slot to update a rectangle in a mode. -/
  | dispUpdate (x : Ctx) (px py w h mode : Nat)
  /-- DISP_TEMP_SET (R410): The DISP_TEMP_SET command sets the display temperature when SRC is 2. -/
  | dispTempSet (x : Ctx) (v : Int)
  /-- DISP_VINTAGE_READ (R423): The DISP_VINTAGE_READ command returns the per-tile drive times. -/
  | dispVintageRead (x : Ctx)
  /-- DISP_VINTAGE_RESET (R423): The DISP_VINTAGE_RESET command clears the Vintage counters under owner
    signature. -/
  | dispVintageReset (x : Ctx) (sig : OwnerSig)
  /-- LSW_TRIP (R435): An overcurrent, short or thermal condition turns a load switch off and sends it to retry,
    cool wait or latched. -/
  | lswTrip (t n ma tj : Nat) (lowOut : Bool)
  /-- INRUSH_END (R434): Current below ILIM for 1 ms or INRUSH_MS elapsed ends INRUSH, entering ON or tripping.
    -/
  | inrushEnd (t n ma tj : Nat) (calm : Bool)
  /-- LSW_RETRY (R437): RETRY_MS after a trip the channel turns on again, decrementing RETRIES_LEFT. -/
  | lswRetry (t n : Nat)
  /-- LSW_COOL_RESTART (R438): The channel sensor reaches 150 °C or less and the channel restarts from
    COOL_WAIT. -/
  | lswCoolRestart (t n tj : Nat)
  /-- RETRIES_RELOAD (R437): One second in ON without a trip reloads RETRIES_LEFT from RETRY_N. -/
  | retriesReload (t n : Nat)
  /-- QUAD_HOT (R440): The quad sensor reaches 165 °C, HOT is set and the quad's inrush channels are deferred.
    -/
  | quadHot (t q temp : Nat)
  /-- QUAD_COOL (R441): The quad sensor reads 145 °C or less and HOT clears. -/
  | quadCool (t q temp : Nat)
  /-- QUAD_RESTART_STEP (R441): Deferred channels turn on in ascending order, one every 100 µs. -/
  | quadRestartStep (t q : Nat)
  /-- LSW_PWM_PERIOD (R442): A bank PWM period starts and new DUTY, PHASE or frequency takes effect. -/
  | lswPwmPeriod (t b : Nat)
  /-- LSW_OPEN_ON (R445): After 100 ms of accumulated on-time the on-state open-load condition is set or
    cleared. -/
  | lswOpenOn (t n lo hi : Nat)
  /-- LSW_OPEN_OFF (R446): The output of an off channel stays above 2.0 V for 10 ms, setting OPEN_OFF. -/
  | lswOpenOff (t n : Nat)
  /-- LSW_BUDGET_WINDOW (R448): At the end of each 100 ms window a mean above its limit turns off one channel
    with BUDGET_OFF. -/
  | lswBudgetWindow (t : Nat) (mas mws : List Nat)
  /-- VLS_UNDERVOLTAGE (R449): VLSb falls below 5.5 V and the bank's channels are held off. -/
  | vlsUndervoltage (t b mv : Nat)
  /-- VLS_RESTORED (R449): VLSb above 6.0 V for 10 ms turns the held channels on again. -/
  | vlsRestored (t b mv : Nat)
  /-- LSW_SET (R447): The LSW_SET command turns channels of a mask on or off and sets duty and phase. -/
  | lswSet (x : Ctx) (mask on duty phase : Nat)
  /-- LSW_CLEAR (R439): The LSW_CLEAR command releases latched channels to OFF. -/
  | lswClear (x : Ctx) (mask : Nat)
  /-- LSW_QUERY (R435): The LSW_QUERY command returns a channel's status. -/
  | lswQuery (x : Ctx) (n : Nat)
  /-- LSW_CONFIG (R434): The LSW_CONFIG command writes a channel's configuration while it is inactive. -/
  | lswConfig (x : Ctx) (n cfg pwm : Nat)
  /-- LSW_BANK_PWM (R442): The LSW_BANK_PWM command sets a bank's PWM frequency. -/
  | lswBankPwm (x : Ctx) (b hz : Nat)
  /-- UPD_BEGIN (R456): The UPD_BEGIN command presents a manifest, taking the staging lock or resuming. -/
  | updBegin (x : Ctx) (man : List Byte) (sigs : Bool × Bool)
  /-- UPD_BLOCK (R460): The UPD_BLOCK command delivers blocks that are checked, programmed and marked. -/
  | updBlock (x : Ctx) (first : Nat) (blocks : List (List Byte))
  /-- UPD_STATUS (R460): The UPD_STATUS command returns engine state, boot pointer and bitmap. -/
  | updStatus (x : Ctx) (first : Nat)
  /-- UPD_ACTIVATE (R463): The UPD_ACTIVATE command arms activation of a verified image in IDLE or FORCE mode.
    -/
  | updActivate (x : Ctx) (mode : Nat)
  /-- UPD_CONFIRM (R467): The UPD_CONFIRM command confirms a healthy trial image. -/
  | updConfirm (x : Ctx)
  /-- UPD_REVERT (R468): The UPD_REVERT command reverts to the confirmed image. -/
  | updRevert (x : Ctx)
  /-- UPD_ABORT (R458): The UPD_ABORT command discards the staged image and releases the lock. -/
  | updAbort (x : Ctx) (sig : Option OwnerSig)
  /-- UPD_POLICY (R455): The UPD_POLICY command sets OWNER_COSIGN under owner signature. -/
  | updPolicy (x : Ctx) (cosign : Nat) (sig : OwnerSig)
  /-- UPD_VERIFY_DONE (R461): Verification of the staging slot passes or fails. -/
  | updVerifyDone (t : Nat) (readOk : Bool)
  /-- UPD_LOCK_IDLE (R457): 30 min without holder activity release the staging lock, keeping the bitmap. -/
  | updLockIdle (t : Nat)
  /-- UPD_ACTIVATION_FLIP (R464): The activation condition holds; the ledger commits, the boot pointer is
    written TRIAL and the module restarts. -/
  | updActivationFlip (t : Nat)
  /-- UPD_ACTIVATE_TIMEOUT (R462): IDLE_WAIT_H elapses in ACTIVATING and the engine returns to VERIFIED. -/
  | updActivateTimeout (t : Nat)
  /-- TRIAL_TIME_SAVE (R466): Every 10 s the trial image adds its running time to the boot pointer. -/
  | trialTimeSave (t : Nat)
  /-- UPD_AUTO_CONFIRM (R467): Health has held for CONFIRM_MIN and the module confirms itself. -/
  | updAutoConfirm (t : Nat)
  /-- TRIAL_TIMEOUT (R468): 15 min of unconfirmed trial running time trigger a revert. -/
  | trialTimeout (t : Nat)
  /-- SVC_BEGIN (R473): A service UART BEGIN frame presents a manifest. -/
  | svcBegin (t : Nat) (man : List Byte) (sigs : Bool × Bool)
  /-- SVC_BLOCK (R473): A service UART BLOCK frame delivers one image block. -/
  | svcBlock (t block : Nat) (data : List Byte)
  /-- SVC_ACTIVATE (R473): A service UART ACTIVATE frame arms activation. -/
  | svcActivate (t mode : Nat)
  /-- SVC_STATUS (R473): A service UART STATUS frame returns the update status. -/
  | svcStatus (t : Nat)
  /-- SVC_ABORT (R473): A service UART ABORT frame aborts staging. -/
  | svcAbort (t : Nat) (sig : Option OwnerSig)
  /-- SVC_CONFIRM (R473): A service UART CONFIRM frame confirms the trial image. -/
  | svcConfirm (t : Nat)
  /-- SVC_REVERT (R473): A service UART REVERT frame reverts the trial image. -/
  | svcRevert (t : Nat)
  /-- SVC_BAD_FRAME (R473): A service UART frame failing its CRC is dropped and the receiver resynchronises on
    0x7E. -/
  | svcBadFrame (t : Nat)
  /-- TWIN_LINK_UP (R476): The TWIN link trains and the module leaves PAIRING or LONE for ACTIVE or RESERVE. -/
  | twinLinkUp (t : Nat) (lanes serial : Nat) (peerPrefer : Bool) (hdr : Machine.TwinHdr)
  /-- TWIN_LINK_DOWN (R476): The TWIN link goes down and TWIN_PEER is raised. -/
  | twinLinkDown (t : Nat)
  /-- TWIN_PAIR_TIMEOUT (R476): No link for 2 s in PAIRING with TWIN_ACT_IN low makes the module LONE. -/
  | twinPairTimeout (t : Nat)
  /-- TWIN_COPY_FREEZE (R478): At 490 µs the active module freezes its end-of-cycle state and starts sending the
    copy. -/
  | twinCopyFreeze (t : Nat) (hdr : Machine.TwinHdr) (crc kib : Nat)
  /-- TWIN_COPY_RX (R478): The Reserve receives a complete state copy and updates its shadows and READY. -/
  | twinCopyRx (t : Nat) (copy : Machine.TwinCopy) (whole : Bool) (kib : Nat) (hdr : Machine.TwinHdr)
  /-- TWIN_COPY_DEADLINE (R478): A copy not complete by 995 µs is discarded and COPY_MISS incremented. -/
  | twinCopyDeadline (t crc : Nat)
  /-- TWIN_GIVEUP (R480): A give-up cause makes the active module drop TWIN_ACT_OUT and hold its outputs. -/
  | twinGiveup (t cause : Nat)
  /-- TWIN_ACT_IN_FALL (R481): TWIN_ACT_IN falls at the Reserve, starting a take-over from the last copy or
    going LONE. -/
  | twinActInFall (t : Nat)
  /-- TWIN_ACT_IN_RISE (R482): The yielding module sees TWIN_ACT_IN high and releases its switches, pilots and
    CAN. -/
  | twinActInRise (t : Nat)
  /-- TWIN_ACT_CONFLICT (R477): Both activity lines high for 1 ms makes the non-preferred module yield. -/
  | twinActConflict (t : Nat)
  /-- TWIN_TAKEOVER_DONE (R481): Every held coil reads back conducting, TWIN_ACT_OUT rises and the role becomes
    ACTIVE. -/
  | twinTakeoverDone (t : Nat)
  /-- TWIN_QUERY (R479): The TWIN_QUERY command returns the peer serial, roles and READY flags. -/
  | twinQuery (x : Ctx)
  /-- TWIN_SWITCH (R480): The TWIN_SWITCH command makes the active module give up control. -/
  | twinSwitch (x : Ctx)
  /-- TWIN_REJOIN (R479): The TWIN_REJOIN command returns a YIELDED module to RESERVE. -/
  | twinRejoin (x : Ctx)
  /-- VIN_VALID (R488): VIN stays at or above VSTART for 10 ms and the module starts. -/
  | vinValid (t mv ms : Nat)
  /-- EARLY_VIN_LOSS (R492): VIN falls below VFAIL before metering starts and the module stops without Last
    pour. -/
  | earlyVinLoss (t : Nat)
  /-- RAIL_OUT_OF_LIMITS (R504): A rail passes a threshold for 10 µs and its action is taken. -/
  | railOutOfLimits (t r : Nat) (ov : Bool) (mv : Int) (us : Nat) (feed : List Feed) (whole : Bool)
  /-- RAIL_RESTORED (R504): A rail returns within limits for 1 ms and PWR_RAIL is raised. -/
  | railRestored (t r : Nat) (mv : Int) (us : Nat)
  /-- TEMP_LEVEL_CHANGE (R505): A die sensor reaches or leaves WARN, THROTTLE or SHUT and the matching action is
    taken. -/
  | tempLevelChange (t k : Nat) (celsius : Int)
  /-- PROC_MON_SAMPLE (R506): Once per second each island's ring oscillator is counted into PROC_MON. -/
  | procMonSample (t : Nat) (codes : List Nat)
  /-- TAMPER_INPUT (R495): A tamper input activates or releases after FILT samples. -/
  | tamperInput (t k : Nat) (closed : Bool) (samples : Nat)
  /-- XTAL32_FAIL (R496): No XTAL32 edge for 1 ms moves the RTC to XTAL49 or stops it. -/
  | xtal32Fail (t : Nat)
  /-- XTAL49_FAIL (R496): XTAL49 stops or drifts and its consumers switch to the XTAL25 synthesiser with
    MTB_HOLDOVER. -/
  | xtal49Fail (t : Nat)
  /-- XTAL49_RETURN (R497): XTAL49 within ±100 ppm for 1 s ends holdover without an MTB step backward. -/
  | xtal49Return (t : Nat)
  /-- XTAL25_FAIL (R496): XTAL25 fails; channel A stops, Last pour runs and the control die restarts with cause
    0x03. -/
  | xtal25Fail (t : Nat) (feed : List Feed)
  /-- METER_WAKE (R502): In METER a pilot change, card, command or temperature returns the module to RUN within
    2 ms. -/
  | meterWake (t cause : Nat)
  /-- PWR_QUERY (R501): The PWR_QUERY command returns PWR.STAT and PWR.CLK. -/
  | pwrQuery (x : Ctx)
  /-- PWR_MODE (R501): The PWR_MODE command selects RUN or METER. -/
  | pwrMode (x : Ctx) (mode : Nat)
  /-- PWR_IDENT (R507): The PWR_IDENT command returns the die and module identity images. -/
  | pwrIdent (x : Ctx)
  /-- SETUP_LOCK (R516): Writing 1 to GLOBAL.SETUP_LOCK.LOCK locks set-up and starts saving the restored
    settings. -/
  | setupLock (t : Nat)
  /-- SETTINGS_SAVED (R516): The restored settings become durable, SAVED is set and SETUP_LOCKED is raised. -/
  | settingsSaved (t : Nat)
  /-- ALERT_WRITE (R520): A W1C write to GLOBAL.ALERT clears bits and raises the vector again if enabled bits
    remain. -/
  | alertWrite (t : Nat) (mask : Nat)
  /-- REGISTER_WRITE (R517): A direct BAR0 write to a register without a row of its own is accepted field by
    field or refused and recorded. -/
  | registerWrite (t : Nat) (off : Nat) (value : Nat) (wide part bar4 : Bool)
  /-- XTAL32_RETURN (R497): XTAL32 oscillates again after a failure, the RTC leaves its XTAL49 fallback and
    PWR_CLOCK is raised with restored. -/
  | xtal32Return (t : Nat)
  /-- REFCLK_RETURN (R497): PCIe REFCLK becomes present again, REFCLK_OK is set and PWR_CLOCK is raised with
    restored. -/
  | refclkReturn (t : Nat)
  /-- RESET_TO_READY (R405): An ISO/IEC 15693 reset-to-ready command from the field resets the own tag and
    closes its password or AES access. -/
  | resetToReady (t : Nat)
  /-- TWIN_FORWARDED_STOP (R487): The active module receives a stop-class command forwarded over the TWIN link
    by its peer, executes it and returns its status. -/
  | twinForwardedStop (t : Nat) (op mask : Nat)
  deriving DecidableEq, Repr

end Sys2Proof
end

