-- ==== Sys2Proof/Decode.lean ====
section
/-! DEFINITION. The command that a word spells. No row of the opcode table gives bits: the commands reach the block as
descriptors, register accesses, frames, samples and pin events, never as words. -/

namespace Sys2Proof

/-- The command that `nbits` bits `w` spell: none, for no row of the table gives bits. -/
def decodeTableWord (_nbits _w : Nat) : Option Instr := none

end Sys2Proof
end

