-- ==== Sys2Proof/Machine/Tab.lean ====
section
/-! DEFINITION. Reading and writing sparse tables, and the small number functions the block uses. -/

namespace Sys2Proof

namespace Machine

/-- Look a key up in an association list. -/
def lookup {α : Type} (d : α) (k : Nat) : List (Nat × α) → α
  | [] => d
  | (j, x) :: r => if j = k then x else lookup d k r

/-- Insert an entry before the first greater key. -/
def insertCell {α : Type} (k : Nat) (v : α) : List (Nat × α) → List (Nat × α)
  | [] => [(k, v)]
  | (j, x) :: r => if k < j then (k, v) :: (j, x) :: r else (j, x) :: insertCell k v r

/-- Two numbers as one key. -/
def key2 (a b : Nat) : Nat := Nat.pair a b

/-- `n` modulo 2^`w`. -/
def trunc (w n : Nat) : Nat := n % 2 ^ w

/-- The two's complement of an integer in `w` bits. -/
def enc (w : Nat) (z : Int) : Nat := (z % (2 ^ w : Int)).toNat

/-- The integer that `w` bits hold in two's complement. -/
def dec (w n : Nat) : Int := if n % 2 ^ w < 2 ^ (w - 1) then (n % 2 ^ w : Nat) else ((n % 2 ^ w : Nat) : Int) - 2 ^ w

/-- Bits `lo` to `lo + w - 1` of a number. -/
def bits (n lo w : Nat) : Nat := n / 2 ^ lo % 2 ^ w

/-- Bit `i` of a number. -/
def bit (n i : Nat) : Bool := n / 2 ^ i % 2 == 1

/-- A Boolean as a bit. -/
def b2n (b : Bool) : Nat := if b then 1 else 0

/-- Addition that stops at the largest `w`-bit value. -/
def satAdd (w a b : Nat) : Nat := min (a + b) (2 ^ w - 1)

/-- A value held between two bounds. -/
def clamp (lo hi n : Nat) : Nat := max lo (min hi n)

/-- A division rounded to the nearest, halves up. (DESIGN CHOICE, log 82) -/
def divRound (a b : Nat) : Nat := (a + b / 2) / b

/-- An integer division rounded to the nearest, halves away from zero. (DESIGN CHOICE, log 82) -/
def idivRound (a : Int) (b : Nat) : Int :=
  if 0 ≤ a then ((divRound a.toNat b : Nat) : Int) else - ((divRound (-a).toNat b : Nat) : Int)

/-- Sum of integers. -/
def sumInt (xs : List Int) : Int := xs.foldl (· + ·) 0

/-- How many set bits the low `w` bits hold. -/
def popcount : Nat → Nat → Nat
  | 0, _ => 0
  | w + 1, n => n % 2 + popcount w (n / 2)

/-- The integer square root of `n`, found bit by bit from `r + 2^(b-1)` down. -/
def sqrtFrom : Nat → Nat → Nat → Nat
  | 0, r, _ => r
  | b + 1, r, n => if (r + 2 ^ b) * (r + 2 ^ b) ≤ n then sqrtFrom b (r + 2 ^ b) n else sqrtFrom b r n

/-- The integer square root of a number below 2^128. -/
def isqrt (n : Nat) : Nat := sqrtFrom 64 0 n

/-- Apply a function for each index of a list, in order. -/
def forEach {σ α : Type} (xs : List α) (f : α → σ → σ) (s : σ) : σ := xs.foldl (fun a x => f x a) s

/-- Apply a function where a condition holds. -/
def when {σ : Type} (c : Bool) (f : σ → σ) (s : σ) : σ := if c then f s else s

/-- A mask with one bit more. -/
def setBit (m b : Nat) : Nat := if bit m b then m else m + 2 ^ b
/-- A mask without a bit. -/
def clearBit (m b : Nat) : Nat := if bit m b then m - 2 ^ b else m

/-- Serial-number comparison in modulo 2^32 arithmetic: `a` is at or before `b`, at most `d` behind. -/
def serialWithin (a b d : Nat) : Bool := decide ((b + 2 ^ 32 - a % 2 ^ 32) % 2 ^ 32 ≤ d)

end Machine

namespace Tab

variable {α : Type}

/-- The value at a key, where `d` is the key's default. -/
def get (t : Tab α) (d : α) (k : Nat) : α := Machine.lookup d k t.cells

/-- The table with the value at a key replaced; writing the default removes the entry. -/
def put [DecidableEq α] (t : Tab α) (d : α) (k : Nat) (v : α) : Tab α :=
  if v = d then ⟨t.cells.filter fun c => c.1 != k⟩
  else ⟨Machine.insertCell k v (t.cells.filter fun c => c.1 != k)⟩

/-- The table with the value at a key changed by a function. -/
def upd [DecidableEq α] (t : Tab α) (d : α) (k : Nat) (f : α → α) : Tab α := t.put d k (f (t.get d k))

/-- Keys rise strictly. -/
def sorted (t : Tab α) : Bool := (t.cells.map (·.1)).Pairwise (· < ·)

/-- The canonical form for a table whose keys all have the default `d`. -/
def wf [DecidableEq α] (t : Tab α) (d : α) : Bool := t.sorted && t.cells.all fun c => c.2 != d

end Tab

end Sys2Proof
end

