-- ==== Sys2Proof/Machine/Flags.lean ====
section
/-! DEFINITION. Check values the spec gives as computations: CRC-16/CCITT-FALSE (R119) and CRC-8; little-endian fields; the
codes and the over-range flag of the pipeline converters (R191, R192). -/

namespace Sys2Proof.Machine

/-- Shift a CRC register of width `w` by one bit with a polynomial. -/
def crcShift (w poly r : Nat) : Nat :=
  let r' := 2 * r % 2 ^ w
  if bit r (w - 1) then Nat.xor r' poly else r'

/-- Shift a CRC register by eight bits. -/
def crcByte (w poly r b : Nat) : Nat :=
  (List.range 8).foldl (fun r _ => crcShift w poly r) (Nat.xor r (b * 2 ^ (w - 8)))

/-- A CRC of width `w` over bytes, without reflection or final XOR. -/
def crc (w poly init : Nat) (bs : List Nat) : Nat := bs.foldl (fun r b => crcByte w poly r (b % 256)) init

/-- CRC-16/CCITT-FALSE: polynomial 0x1021, initial value 0xFFFF, no reflection, no final XOR (R119). -/
def crc16 (bs : List Nat) : Nat := crc 16 0x1021 0xFFFF bs

/-- The `k` bytes of a number, least significant first (R119: every multi-byte field is little-endian). -/
def leBytes : Nat → Nat → List Nat
  | 0, _ => []
  | k + 1, n => n % 256 :: leBytes k (n / 256)

/-- The number bytes spell, least significant first. -/
def leNat (bs : List Nat) : Nat := bs.foldr (fun b n => b % 256 + 256 * n) 0

/-- Bytes `lo` to `lo + k - 1` of a frame as a number. -/
def leField (bs : List Nat) (lo k : Nat) : Nat := leNat ((bs.drop lo).take k)

/-- The 12-bit code of a sample (R191, R192): the value clamped at full scale. -/
def code12 (v : Int) : Int := max (-2048) (min 2047 v)

/-- A sample carries OVR: its input passed full scale (R192). -/
def over12 (v : Int) : Bool := decide (v < -2048) || decide (2047 < v)

end Sys2Proof.Machine
end

