-- ==== Sys2Proof/Machine/Codes.lean ====
section
/-! DEFINITION. The numbers of the opcode, event and status tables (R62 and the chapters' tables of commands, events
and codes), under the names the tables give them. -/

namespace Sys2Proof.Machine

namespace Op

/-! Opcodes of 02_host_rings.md -/
abbrev RING_CREATE : Nat := 0x0101
abbrev RING_DESTROY : Nat := 0x0102
abbrev JOURNAL_FETCH : Nat := 0x0103
abbrev STATUS_QUERY : Nat := 0x0104
abbrev REG_WRITE : Nat := 0x0105
abbrev ECHO : Nat := 0x0106
/-! Opcodes of 03_cask_transactions.md -/
abbrev CASK_OPEN : Nat := 0x0201
abbrev CASK_PREPARE : Nat := 0x0202
abbrev CASK_COMMIT : Nat := 0x0203
abbrev CASK_ABORT : Nat := 0x0204
abbrev CASK_QUERY : Nat := 0x0205
abbrev FUNC_DISABLE : Nat := 0x0206
/-! Opcodes of 04_outlet_sessions.md -/
abbrev OUT_CONFIG : Nat := 0x0301
abbrev OUT_AVAILABILITY : Nat := 0x0302
abbrev SESSION_AUTHORISE : Nat := 0x0303
abbrev SESSION_STOP : Nat := 0x0304
abbrev OUT_EREM : Nat := 0x0305
abbrev OUT_SITE_LIMIT : Nat := 0x0306
abbrev SESSION_SET_CLASS : Nat := 0x0307
abbrev SESSION_QUERY : Nat := 0x0308
abbrev OUT_SELECT : Nat := 0x0309
abbrev OUT_CONTACTOR : Nat := 0x030A
abbrev OUT_PILOT_DUTY : Nat := 0x030B
abbrev OUT_PM_SETPOINT : Nat := 0x030C
abbrev OUT_CERT_RESPONSE : Nat := 0x030D
/-! Opcodes of 05_safety_earth_fault.md -/
abbrev SAFE_QUERY : Nat := 0x0401
abbrev SAFE_TEST_NOW : Nat := 0x0402
abbrev RCM_SELFTEST : Nat := 0x0403
abbrev IMD_MEASURE : Nat := 0x0404
/-! Opcodes of 06_sampling_front_end.md -/
abbrev AFE_SEQ_LOAD : Nat := 0x0501
abbrev AFE_SEQ_EN : Nat := 0x0502
abbrev AFE_AUX_ONESHOT : Nat := 0x0503
abbrev AFE_CAL_ZERO : Nat := 0x0504
abbrev AFE_CAL_SPAN : Nat := 0x0505
abbrev AFE_CAL_RESTORE : Nat := 0x0506
abbrev AFE_CAPTURE : Nat := 0x0507
abbrev AFE_CAPTURE_STOP : Nat := 0x0508
/-! Opcodes of 07_filter_resampling.md -/
abbrev FILT_QUERY : Nat := 0x0601
abbrev FILT_BLEND : Nat := 0x0602
abbrev TRK_QUERY : Nat := 0x0603
abbrev FILT_RESTART : Nat := 0x0604
/-! Opcodes of 08_metrology.md -/
abbrev MET_QUERY : Nat := 0x0701
abbrev MET_SESSION_OPEN : Nat := 0x0702
abbrev MET_SESSION_CLOSE : Nat := 0x0703
abbrev MET_CAL_MEASURE : Nat := 0x0704
abbrev MET_CAL_APPLY : Nat := 0x0705
abbrev MET_PULSE_CFG : Nat := 0x0706
abbrev MET_HARM_READ : Nat := 0x0707
abbrev MET_WAVE_CAPTURE : Nat := 0x0708
abbrev MET_WAVE_STOP : Nat := 0x0709
/-! Opcodes of 09_ledger_billing.md -/
abbrev LEDGER_QUERY : Nat := 0x0801
abbrev LEDGER_SESSION_RECORD : Nat := 0x0802
abbrev LEDGER_TARIFF_SELECT : Nat := 0x0803
abbrev LEDGER_READ_SIGNED : Nat := 0x0804
abbrev LEDGER_RECORD_FETCH : Nat := 0x0805
abbrev LEDGER_TIME_SET : Nat := 0x0806
abbrev LEDGER_CALENDAR_LOAD : Nat := 0x0807
abbrev LEDGER_BILLING_CLOSE : Nat := 0x0808
abbrev LEDGER_BILLING_READ : Nat := 0x0809
abbrev LEDGER_CAL_CHALLENGE : Nat := 0x080A
abbrev LEDGER_CAL_OPEN : Nat := 0x080B
abbrev LEDGER_CAL_CLOSE : Nat := 0x080C
abbrev LEDGER_LEGAL_ID : Nat := 0x080D
abbrev LEDGER_ACK_LOSS : Nat := 0x080E
/-! Opcodes of 10_powerline_trellis.md -/
abbrev PLC_QUERY : Nat := 0x0901
abbrev TRELLIS_SEND : Nat := 0x0902
abbrev TRELLIS_LIMIT_SEND : Nat := 0x0903
abbrev TRELLIS_LQ_READ : Nat := 0x0904
abbrev TRELLIS_RESTART : Nat := 0x0905
/-! Opcodes of 11_keys_credentials.md -/
abbrev KEY_QUERY : Nat := 0x0A01
abbrev KEY_NODE_QUERY : Nat := 0x0A02
abbrev KEY_INVALIDATE : Nat := 0x0A03
abbrev KEY_REDERIVE : Nat := 0x0A04
abbrev KEY_INSTALL : Nat := 0x0A05
abbrev KEY_OWNER_SET : Nat := 0x0A06
abbrev KEY_ANCHOR_INSTALL : Nat := 0x0A07
abbrev KEY_CSR : Nat := 0x0A08
abbrev KEY_CERT_INSTALL : Nat := 0x0A09
abbrev KEY_ATTEST : Nat := 0x0A0A
abbrev KEY_ATTEST_CERT : Nat := 0x0A0B
abbrev KEY_SELFTEST : Nat := 0x0A0C
abbrev CRED_LOAD_BEGIN : Nat := 0x0A10
abbrev CRED_LOAD_DATA : Nat := 0x0A11
abbrev CRED_LOAD_COMMIT : Nat := 0x0A12
abbrev CRED_LOAD_ABORT : Nat := 0x0A13
abbrev CRED_UPDATE : Nat := 0x0A14
abbrev CRED_LOOKUP : Nat := 0x0A15
/-! Opcodes of 12_contactless.md -/
abbrev TAG_QUERY : Nat := 0x0B01
abbrev TAG_CABLE_READ : Nat := 0x0B02
abbrev TAG_CABLE_INIT : Nat := 0x0B03
abbrev TAG_CABLE_RETIRE : Nat := 0x0B04
abbrev TAG_OWN_READ : Nat := 0x0B05
abbrev TAG_OWN_WRITE : Nat := 0x0B06
/-! Opcodes of 13_epd_display.md -/
abbrev DISP_QUERY : Nat := 0x0C01
abbrev DISP_IMAGE_LOAD : Nat := 0x0C02
abbrev DISP_UPDATE : Nat := 0x0C03
abbrev DISP_TEMP_SET : Nat := 0x0C04
abbrev DISP_VINTAGE_READ : Nat := 0x0C05
abbrev DISP_VINTAGE_RESET : Nat := 0x0C06
/-! Opcodes of 14_load_switches.md -/
abbrev LSW_SET : Nat := 0x0D01
abbrev LSW_CLEAR : Nat := 0x0D02
abbrev LSW_QUERY : Nat := 0x0D03
abbrev LSW_CONFIG : Nat := 0x0D04
abbrev LSW_BANK_PWM : Nat := 0x0D05
/-! Opcodes of 15_update.md -/
abbrev UPD_BEGIN : Nat := 0x0E01
abbrev UPD_BLOCK : Nat := 0x0E02
abbrev UPD_STATUS : Nat := 0x0E03
abbrev UPD_ACTIVATE : Nat := 0x0E04
abbrev UPD_CONFIRM : Nat := 0x0E05
abbrev UPD_REVERT : Nat := 0x0E06
abbrev UPD_ABORT : Nat := 0x0E07
abbrev UPD_POLICY : Nat := 0x0E08
/-! Opcodes of 16_twin_standby.md -/
abbrev TWIN_QUERY : Nat := 0x0F01
abbrev TWIN_SWITCH : Nat := 0x0F02
abbrev TWIN_REJOIN : Nat := 0x0F03
/-! Opcodes of 17_power_clocks_startup.md -/
abbrev PWR_QUERY : Nat := 0x1001
abbrev PWR_MODE : Nat := 0x1002
abbrev PWR_IDENT : Nat := 0x1003

/-- Every opcode of the tables. -/
def all : List Nat :=
  [RING_CREATE, RING_DESTROY, JOURNAL_FETCH, STATUS_QUERY, REG_WRITE, ECHO, CASK_OPEN, CASK_PREPARE]
  ++ [CASK_COMMIT, CASK_ABORT, CASK_QUERY, FUNC_DISABLE, OUT_CONFIG, OUT_AVAILABILITY, SESSION_AUTHORISE, SESSION_STOP]
  ++ [OUT_EREM, OUT_SITE_LIMIT, SESSION_SET_CLASS, SESSION_QUERY, OUT_SELECT, OUT_CONTACTOR, OUT_PILOT_DUTY, OUT_PM_SETPOINT]
  ++ [OUT_CERT_RESPONSE, SAFE_QUERY, SAFE_TEST_NOW, RCM_SELFTEST, IMD_MEASURE, AFE_SEQ_LOAD, AFE_SEQ_EN, AFE_AUX_ONESHOT]
  ++ [AFE_CAL_ZERO, AFE_CAL_SPAN, AFE_CAL_RESTORE, AFE_CAPTURE, AFE_CAPTURE_STOP, FILT_QUERY, FILT_BLEND, TRK_QUERY]
  ++ [FILT_RESTART, MET_QUERY, MET_SESSION_OPEN, MET_SESSION_CLOSE, MET_CAL_MEASURE, MET_CAL_APPLY, MET_PULSE_CFG, MET_HARM_READ]
  ++ [MET_WAVE_CAPTURE, MET_WAVE_STOP, LEDGER_QUERY, LEDGER_SESSION_RECORD, LEDGER_TARIFF_SELECT, LEDGER_READ_SIGNED, LEDGER_RECORD_FETCH, LEDGER_TIME_SET]
  ++ [LEDGER_CALENDAR_LOAD, LEDGER_BILLING_CLOSE, LEDGER_BILLING_READ, LEDGER_CAL_CHALLENGE, LEDGER_CAL_OPEN, LEDGER_CAL_CLOSE, LEDGER_LEGAL_ID, LEDGER_ACK_LOSS]
  ++ [PLC_QUERY, TRELLIS_SEND, TRELLIS_LIMIT_SEND, TRELLIS_LQ_READ, TRELLIS_RESTART, KEY_QUERY, KEY_NODE_QUERY, KEY_INVALIDATE]
  ++ [KEY_REDERIVE, KEY_INSTALL, KEY_OWNER_SET, KEY_ANCHOR_INSTALL, KEY_CSR, KEY_CERT_INSTALL, KEY_ATTEST, KEY_ATTEST_CERT]
  ++ [KEY_SELFTEST, CRED_LOAD_BEGIN, CRED_LOAD_DATA, CRED_LOAD_COMMIT, CRED_LOAD_ABORT, CRED_UPDATE, CRED_LOOKUP, TAG_QUERY]
  ++ [TAG_CABLE_READ, TAG_CABLE_INIT, TAG_CABLE_RETIRE, TAG_OWN_READ, TAG_OWN_WRITE, DISP_QUERY, DISP_IMAGE_LOAD, DISP_UPDATE]
  ++ [DISP_TEMP_SET, DISP_VINTAGE_READ, DISP_VINTAGE_RESET, LSW_SET, LSW_CLEAR, LSW_QUERY, LSW_CONFIG, LSW_BANK_PWM]
  ++ [UPD_BEGIN, UPD_BLOCK, UPD_STATUS, UPD_ACTIVATE, UPD_CONFIRM, UPD_REVERT, UPD_ABORT, UPD_POLICY]
  ++ [TWIN_QUERY, TWIN_SWITCH, TWIN_REJOIN, PWR_QUERY, PWR_MODE, PWR_IDENT]

end Op

namespace Ev

/-! Event codes of 02_host_rings.md -/
abbrev DEVICE_START : Nat := 0x0101
abbrev HELD_COMPLETION : Nat := 0x0102
abbrev RESTART_OUTCOME : Nat := 0x0103
abbrev EVR_GAP : Nat := 0x0104
abbrev HOST_DETACH : Nat := 0x0105
abbrev HOST_ATTACH : Nat := 0x0106
/-! Event codes of 18_register_map.md -/
abbrev SETUP_LOCKED : Nat := 0x0107
abbrev WRITE_REFUSED : Nat := 0x0108
/-! Event codes of 01_architecture.md -/
abbrev ISLAND_LINK : Nat := 0x0109
abbrev CYCLE_OVERRUN : Nat := 0x010A
/-! Event codes of 03_cask_transactions.md -/
abbrev CASK_DONE : Nat := 0x0201
abbrev CASK_ABORTED : Nat := 0x0202
abbrev FUNC_DISABLED : Nat := 0x0203
abbrev CASK_LATE : Nat := 0x0204
/-! Event codes of 04_outlet_sessions.md -/
abbrev SESSION_STATE : Nat := 0x0301
abbrev SESSION_END : Nat := 0x0302
abbrev ALLOC_REDUCED : Nat := 0x0303
abbrev ALLOC_PAUSED : Nat := 0x0304
abbrev ALLOC_REFUSED : Nat := 0x0305
abbrev ALLOC_RAISED : Nat := 0x0306
abbrev ALLOC_RESUMED : Nat := 0x0307
abbrev SLAC_RESULT : Nat := 0x0308
abbrev AUTH_RESULT : Nat := 0x0309
abbrev CABLE_STATE : Nat := 0x030A
abbrev PM_FAULT : Nat := 0x030B
abbrev SITE_LIMIT : Nat := 0x030C
abbrev CERT_RELAY : Nat := 0x030D
/-! Event codes of 05_safety_earth_fault.md -/
abbrev SAFE_TRIP : Nat := 0x0401
abbrev SAFE_CLEARED : Nat := 0x0402
abbrev TEST_SKIPPED : Nat := 0x0403
abbrev TEST_RESULT : Nat := 0x0404
abbrev WELD_FOUND : Nat := 0x0405
abbrev RCM_PREWARN : Nat := 0x0406
abbrev IMD_RESULT : Nat := 0x0407
abbrev CONSENT_REFUSED : Nat := 0x0408
/-! Event codes of 06_sampling_front_end.md -/
abbrev AFE_OVERLOAD : Nat := 0x0501
abbrev AFE_MBS_LOST : Nat := 0x0502
abbrev AFE_SEQ_LATE : Nat := 0x0503
abbrev AFE_TRACK_FALLBACK : Nat := 0x0504
abbrev AFE_CAL_DONE : Nat := 0x0505
abbrev AFE_SAFE_AUX_SLOW : Nat := 0x0506
/-! Event codes of 07_filter_resampling.md -/
abbrev FILT_OVERFLOW : Nat := 0x0601
abbrev TRK_STATE : Nat := 0x0602
abbrev BLEND_DONE : Nat := 0x0603
/-! Event codes of 08_metrology.md -/
abbrev MET_STATE : Nat := 0x0701
abbrev MET_PQ_START : Nat := 0x0702
abbrev MET_DIP : Nat := 0x0703
abbrev MET_SWELL : Nat := 0x0704
abbrev MET_INTERRUPT : Nat := 0x0705
abbrev MET_FLOW : Nat := 0x0706
abbrev MET_QUALITY : Nat := 0x0707
abbrev MET_TC_BLEND : Nat := 0x0708
abbrev MET_PULSE_BACKLOG : Nat := 0x0709
abbrev MET_CAL_RESULT : Nat := 0x070A
/-! Event codes of 09_ledger_billing.md -/
abbrev LEDGER_RESTART : Nat := 0x0801
abbrev LEDGER_BOUNDARY : Nat := 0x0802
abbrev LEDGER_DEMAND : Nat := 0x0803
abbrev LEDGER_OUTAGE_CLOSED : Nat := 0x0804
abbrev LEDGER_TIME : Nat := 0x0805
abbrev LEDGER_SYNC_SHIFT : Nat := 0x0806
abbrev LEDGER_TAMPER : Nat := 0x0807
abbrev LEDGER_RECORD : Nat := 0x0808
abbrev LEDGER_CAL : Nat := 0x0809
/-! Event codes of 10_powerline_trellis.md -/
abbrev PLC_LINK : Nat := 0x0901
abbrev PLC_NOISE : Nat := 0x0902
abbrev TRELLIS_STATE : Nat := 0x0903
abbrev TRELLIS_NODE : Nat := 0x0904
abbrev TRELLIS_REPEATER : Nat := 0x0905
abbrev TRELLIS_SENT : Nat := 0x0906
abbrev TRELLIS_LIMIT : Nat := 0x0907
abbrev TRELLIS_COORD_CONFLICT : Nat := 0x0908
abbrev TRELLIS_ALIGN : Nat := 0x0909
/-! Event codes of 11_keys_credentials.md -/
abbrev KEY_STATE : Nat := 0x0A01
abbrev KEY_INVALIDATED : Nat := 0x0A02
abbrev PUF_HEALTH : Nat := 0x0A03
abbrev LEES_COPY_BAD : Nat := 0x0A04
abbrev ENTROPY_FAIL : Nat := 0x0A05
abbrev CRED_ACTIVATED : Nat := 0x0A06
abbrev CRED_LOAD_FAIL : Nat := 0x0A07
abbrev WORN : Nat := 0x0A08
abbrev CRED_CORRUPT : Nat := 0x0A09
abbrev CRYPTO_KAT_FAIL : Nat := 0x0A0A
/-! Event codes of 12_contactless.md -/
abbrev TAG_CARD : Nat := 0x0B01
abbrev TAG_MULTI : Nat := 0x0B02
abbrev TAG_WALK_LIMIT : Nat := 0x0B03
abbrev TAG_CABLE_DONE : Nat := 0x0B04
abbrev TAG_CABLE_UID : Nat := 0x0B05
abbrev TAG_OWN_FIELD : Nat := 0x0B06
/-! Event codes of 13_epd_display.md -/
abbrev DISP_DONE : Nat := 0x0C01
abbrev DISP_RECOVERED : Nat := 0x0C02
abbrev DISP_BAND : Nat := 0x0C03
abbrev DISP_PWR : Nat := 0x0C04
abbrev DISP_IMBALANCE : Nat := 0x0C05
abbrev DISP_SEG_SENSE : Nat := 0x0C06
/-! Event codes of 14_load_switches.md -/
abbrev LSW_TRIP : Nat := 0x0D01
abbrev LSW_QUAD : Nat := 0x0D02
abbrev LSW_OPEN : Nat := 0x0D03
abbrev LSW_BUDGET : Nat := 0x0D04
abbrev LSW_BANK_UV : Nat := 0x0D05
/-! Event codes of 15_update.md -/
abbrev UPD_STATE : Nat := 0x0E01
abbrev UPD_BLOCK_BAD : Nat := 0x0E02
abbrev UPD_VERIFIED : Nat := 0x0E03
abbrev UPD_CONFIRMED : Nat := 0x0E04
abbrev UPD_REVERTED : Nat := 0x0E05
/-! Event codes of 16_twin_standby.md -/
abbrev TWIN_ROLE : Nat := 0x0F01
abbrev TWIN_PEER : Nat := 0x0F02
abbrev TWIN_COPY_MISS : Nat := 0x0F03
/-! Event codes of 17_power_clocks_startup.md -/
abbrev PWR_CLOCK : Nat := 0x1001
abbrev PWR_TEMP : Nat := 0x1002
abbrev PWR_RAIL : Nat := 0x1003
abbrev PWR_PROC : Nat := 0x1004
abbrev PWR_TAMPER : Nat := 0x1005
abbrev PWR_MODE_CHG : Nat := 0x1006
abbrev PWR_VBAT : Nat := 0x1007

end Ev

namespace St

/-! Status codes of 02_host_rings.md -/
abbrev OK : Nat := 0x0000
abbrev ACCEPTED : Nat := 0x0001
abbrev DUPLICATE : Nat := 0x0002
abbrev PENDING : Nat := 0x0005
abbrev BAD_OPCODE : Nat := 0x0010
abbrev BAD_PARAM : Nat := 0x0011
abbrev BAD_FLAGS : Nat := 0x0012
abbrev BAD_RING : Nat := 0x0013
abbrev SEQ_ERROR : Nat := 0x0014
abbrev INDIRECT_FAULT : Nat := 0x0015
abbrev SETUP_LOCKED : Nat := 0x0016
abbrev PARTITION_DENIED : Nat := 0x0020
abbrev LINK_TIMEOUT : Nat := 0x0021
abbrev NOT_READY : Nat := 0x0022
abbrev DISABLED : Nat := 0x0023
abbrev CANCELLED : Nat := 0x0024
abbrev BUSY : Nat := 0x0025
abbrev INTERRUPTED : Nat := 0x0030
/-! Status codes of 03_cask_transactions.md -/
abbrev COMMITTED_SAFETY_HELD : Nat := 0x0201
abbrev NO_SLOT : Nat := 0x0210
abbrev ACTION_LIMIT : Nat := 0x0211
abbrev NOT_CASKABLE : Nat := 0x0212
abbrev BAD_STATE : Nat := 0x0213
abbrev VALIDATE_FAIL : Nat := 0x0214
abbrev CONSENT_REFUSED : Nat := 0x0215
abbrev CONFLICT : Nat := 0x0216
abbrev NO_ZC : Nat := 0x0217
abbrev TOO_LATE : Nat := 0x0218
abbrev SYNC_TIMEOUT : Nat := 0x0219
abbrev ABORT_SAFETY : Nat := 0x021A
abbrev ABORT_TIMEOUT : Nat := 0x021B
abbrev ABORT_POWER : Nat := 0x021C
abbrev ABORT_DISABLED : Nat := 0x021D
abbrev UNKNOWN_CASK : Nat := 0x021E
abbrev COUNT_MISMATCH : Nat := 0x021F
abbrev ABORT_HOST : Nat := 0x0220
abbrev RECORD_FAIL : Nat := 0x0221
/-! Status codes of 04_outlet_sessions.md -/
abbrev STOPPING : Nat := 0x0300
abbrev NO_SESSION : Nat := 0x0310
abbrev SESSION_LIVE : Nat := 0x0311
abbrev OUT_AUTO : Nat := 0x0312
abbrev AUTH_POLICY : Nat := 0x0313
abbrev OUT_OOS : Nat := 0x0314
abbrev ALREADY_AUTHORISED : Nat := 0x0315
/-! Status codes of 05_safety_earth_fault.md -/
abbrev SAFE_WEAKER : Nat := 0x0410
abbrev SAFE_LATCHED : Nat := 0x0411
abbrev COILS_CLOSED : Nat := 0x0412
abbrev IMD_NOT_HERE : Nat := 0x0413
/-! Status codes of 06_sampling_front_end.md -/
abbrev CAL_SPAN : Nat := 0x0510
abbrev CAL_OVR : Nat := 0x0511
abbrev CAL_ORDER : Nat := 0x0512
abbrev SEQ_PERIOD : Nat := 0x0513
abbrev CH_LIVE : Nat := 0x0514
abbrev BAD_PAIR : Nat := 0x0515
abbrev CAPTURE_BUSY : Nat := 0x0516
/-! Status codes of 07_filter_resampling.md -/
abbrev FILT_LIVE : Nat := 0x0610
abbrev BLEND_BUSY : Nat := 0x0611
abbrev TRK_MIXED : Nat := 0x0612
/-! Status codes of 08_metrology.md -/
abbrev MP_CONFIG : Nat := 0x0710
abbrev MP_LIVE : Nat := 0x0711
abbrev SESSION_OPEN : Nat := 0x0712
abbrev NO_MP_SESSION : Nat := 0x0713
abbrev CAL_NOT_OPEN : Nat := 0x0714
abbrev CAL_UNSTABLE : Nat := 0x0715
abbrev CAL_RANGE : Nat := 0x0716
abbrev CAL_STALE : Nat := 0x0717
abbrev PULSE_RATE : Nat := 0x0718
/-! Status codes of 09_ledger_billing.md -/
abbrev TIME_STEP : Nat := 0x0810
abbrev CAL_SIGNATURE : Nat := 0x0811
abbrev CALENDAR_INVALID : Nat := 0x0812
abbrev BILL_TOO_SOON : Nat := 0x0813
abbrev HOST_TARIFF_OFF : Nat := 0x0814
abbrev SEAL_NOT_ASSERTED : Nat := 0x0815
abbrev CAL_BUSY : Nat := 0x0816
abbrev CHALLENGE_STALE : Nat := 0x0817
abbrev CAL_MP : Nat := 0x0818
abbrev RECORD_GONE : Nat := 0x0819
abbrev NO_BILL_SET : Nat := 0x081A
abbrev NO_CAL : Nat := 0x081B
abbrev LEDGER_SESSION_OPEN : Nat := 0x081C
abbrev NO_LEDGER_SESSION : Nat := 0x081D
abbrev NOT_HOST_CONTROL : Nat := 0x081E
/-! Status codes of 10_powerline_trellis.md -/
abbrev NOT_JOINED : Nat := 0x0910
abbrev NOT_COORDINATOR : Nat := 0x0911
abbrev NODE_UNKNOWN : Nat := 0x0912
abbrev TX_QUEUE_FULL : Nat := 0x0913
abbrev PAYLOAD_SIZE : Nat := 0x0914
/-! Status codes of 11_keys_credentials.md -/
abbrev KEY_STALE : Nat := 0x0A10
abbrev KEY_UNKNOWN : Nat := 0x0A11
abbrev KEY_FIXED : Nat := 0x0A12
abbrev TREE_DEPTH : Nat := 0x0A13
abbrev LABEL_SIZE : Nat := 0x0A14
abbrev CACHE_PINNED : Nat := 0x0A15
abbrev BAD_SIGNATURE : Nat := 0x0A16
abbrev OWNER_REPLAY : Nat := 0x0A17
abbrev OWNER_SET_DENIED : Nat := 0x0A18
abbrev BLOB_INVALID : Nat := 0x0A19
abbrev CERT_INVALID : Nat := 0x0A1A
abbrev ATTEST_NODE : Nat := 0x0A1B
abbrev KEY_RECOVERY : Nat := 0x0A1C
abbrev ENTROPY_FAIL : Nat := 0x0A1D
abbrev SESSIONS_ACTIVE : Nat := 0x0A1E
abbrev STORE_WORN : Nat := 0x0A1F
abbrev CRED_GEN : Nat := 0x0A20
abbrev CRED_ORDER : Nat := 0x0A21
abbrev CRED_SEQ : Nat := 0x0A22
abbrev CRED_FULL : Nat := 0x0A23
abbrev CRED_HASH : Nat := 0x0A24
/-! Status codes of 12_contactless.md -/
abbrev CABLE_NONE : Nat := 0x0B10
abbrev CABLE_LIVE : Nat := 0x0B11
abbrev CABLE_WRITE : Nat := 0x0B12
abbrev OWN_RANGE : Nat := 0x0B13
abbrev OWN_WP : Nat := 0x0B14
/-! Status codes of 13_epd_display.md -/
abbrev REGION_SIZE : Nat := 0x0C10
abbrev REGION_FULL : Nat := 0x0C11
abbrev WAVE_MISSING : Nat := 0x0C12
abbrev DISP_TIMING : Nat := 0x0C13
/-! Status codes of 14_load_switches.md -/
abbrev LSW_LATCHED : Nat := 0x0D10
abbrev LSW_PENDING : Nat := 0x0D11
abbrev BUDGET_REFUSED : Nat := 0x0D12
abbrev BANK_LOW : Nat := 0x0D13
abbrev SAFE_HOLD : Nat := 0x0D14
abbrev LSW_BUSY : Nat := 0x0D15
/-! Status codes of 15_update.md -/
abbrev RESUMED : Nat := 0x0E00
abbrev IMAGE_SIG : Nat := 0x0E10
abbrev IMAGE_COSIGN : Nat := 0x0E11
abbrev IMAGE_ROLLBACK : Nat := 0x0E12
abbrev IMAGE_FORMAT : Nat := 0x0E13
abbrev HT_FIRST : Nat := 0x0E14
abbrev BLOCK_CHECK : Nat := 0x0E15
abbrev VERIFY_FAIL : Nat := 0x0E16
abbrev NOT_VERIFIED : Nat := 0x0E17
abbrev TRIAL_ACTIVE : Nat := 0x0E18
abbrev CAL_ACTIVE : Nat := 0x0E19
abbrev SEAL_REQUIRED : Nat := 0x0E1A
abbrev HEALTH_PENDING : Nat := 0x0E1B
abbrev ACTIVATE_TIMEOUT : Nat := 0x0E1C
abbrev UPD_STATE_ERR : Nat := 0x0E1D
abbrev SLOT_WORN : Nat := 0x0E1E
/-! Status codes of 16_twin_standby.md -/
abbrev TWIN_RESERVE : Nat := 0x0F10
abbrev TWIN_NOT_READY : Nat := 0x0F11
abbrev TWIN_HEALTH : Nat := 0x0F12
/-! Status codes of 17_power_clocks_startup.md -/
abbrev PWR_BUSY : Nat := 0x1010

end St

end Sys2Proof.Machine
end

