-- ==== Sys2Proof/Machine/Regs.lean ====
section
/-! DEFINITION. The register map: every software-visible register field of the chapters' register tables, with
its width, access type (R8), reset value (R9), stated range (R514) and whether its settings value is restored
(R516); and the table of the register families with their offsets in BAR0 (R508, R5). -/

namespace Sys2Proof.Machine

/-- Access types of register fields (R8). -/
inductive Acc where
  | rw | ro | wo | w1c | rc | rws | rwl
  deriving DecidableEq, Repr

/-- The reset value of a field, for the instance it is read at (R9). -/
inductive Rst where
  /-- One value for every instance. -/
  | const (v : Nat)
  /-- The instance's own number. -/
  | inst
  /-- Half the instance's number, rounded down (SAFE.COIL_CFG.OUTLET). -/
  | half
  /-- The parity of the instance's number (SAFE.COIL_CFG.ROLE). -/
  | parity
  /-- A value below instance `n`, another from it on (FILT channels: internal below 48, MBS above). -/
  | split (n a b : Nat)
  /-- One value for each instance, in order. -/
  | tab (vs : List Nat)
  /-- The Green PHY default tone mask (R322), which the spec does not print: a Config value. -/
  | tone
  deriving DecidableEq, Repr

/-- A register field: its register's number in the map, lowest bit, width, access type, reset value, whether its
range is signed, its stated range if it has one, and whether it is an RWS field that R516 restores. -/
structure Fld where
  reg : Nat
  lo : Nat
  w : Nat
  acc : Acc
  rst : Rst
  sgn : Bool
  rng : Option (Int × Int)
  saved : Bool
  deriving DecidableEq, Repr

/-- A register family: number, the manual's name, BAR0 base, up to three instance dimensions with their strides,
width in bits, fields. (DEDUCED, log 15) -/
structure RegDef where
  id : Nat
  name : String
  base : Nat
  n1 : Nat
  s1 : Nat
  n2 : Nat
  s2 : Nat
  n3 : Nat
  s3 : Nat
  bits : Nat
  flds : List Fld
  deriving DecidableEq, Repr

namespace R


/-! GLOBAL.ID (18_register_map.md) -/
abbrev GLOBAL_ID_VENDOR : Fld := ⟨1, 48, 16, .ro, .const 8147, false, none, false⟩
abbrev GLOBAL_ID_DEVICE : Fld := ⟨1, 32, 16, .ro, .const 34880, false, none, false⟩
abbrev GLOBAL_ID_STEPPING : Fld := ⟨1, 24, 8, .ro, .const 0, false, none, false⟩
abbrev GLOBAL_ID_MAP_VER : Fld := ⟨1, 16, 8, .ro, .const 1, false, none, false⟩

/-! GLOBAL.SETUP_LOCK (18_register_map.md) -/
abbrev GLOBAL_SETUP_LOCK_SAVED : Fld := ⟨2, 1, 1, .ro, .const 0, false, none, false⟩
abbrev GLOBAL_SETUP_LOCK_LOCK : Fld := ⟨2, 0, 1, .rw, .const 0, false, none, false⟩

/-! GLOBAL.STATUS (18_register_map.md) -/
abbrev GLOBAL_STATUS_HOST_READY : Fld := ⟨3, 31, 1, .ro, .const 0, false, none, false⟩
abbrev GLOBAL_STATUS_METER_LIVE : Fld := ⟨3, 30, 1, .ro, .const 0, false, none, false⟩
abbrev GLOBAL_STATUS_SAFE_OK : Fld := ⟨3, 29, 1, .ro, .const 0, false, none, false⟩
abbrev GLOBAL_STATUS_LOCKED : Fld := ⟨3, 28, 1, .ro, .const 0, false, none, false⟩
abbrev GLOBAL_STATUS_KEY_MODE : Fld := ⟨3, 25, 3, .ro, .const 0, false, none, false⟩
abbrev GLOBAL_STATUS_BOOT_STATE : Fld := ⟨3, 23, 2, .ro, .const 0, false, none, false⟩
abbrev GLOBAL_STATUS_TWIN_ROLE : Fld := ⟨3, 20, 3, .ro, .const 0, false, none, false⟩
abbrev GLOBAL_STATUS_EPOCH : Fld := ⟨3, 0, 16, .ro, .const 0, false, none, false⟩

/-! GLOBAL.ALERT (18_register_map.md) -/
abbrev GLOBAL_ALERT_LINK_TIMEOUT : Fld := ⟨4, 7, 1, .w1c, .const 0, false, none, false⟩
abbrev GLOBAL_ALERT_TEMP : Fld := ⟨4, 6, 1, .w1c, .const 0, false, none, false⟩
abbrev GLOBAL_ALERT_NOTIF_LOST : Fld := ⟨4, 5, 1, .w1c, .const 0, false, none, false⟩
abbrev GLOBAL_ALERT_JOURNAL_LOST : Fld := ⟨4, 4, 1, .w1c, .const 0, false, none, false⟩
abbrev GLOBAL_ALERT_WR_REFUSED : Fld := ⟨4, 3, 1, .w1c, .const 0, false, none, false⟩
abbrev GLOBAL_ALERT_PART_VIOL : Fld := ⟨4, 2, 1, .w1c, .const 0, false, none, false⟩
abbrev GLOBAL_ALERT_SAFE_CHANGE : Fld := ⟨4, 1, 1, .w1c, .const 0, false, none, false⟩
abbrev GLOBAL_ALERT_DEVICE_START : Fld := ⟨4, 0, 1, .w1c, .const 1, false, none, false⟩

/-! GLOBAL.ALERT_EN (18_register_map.md) -/
abbrev GLOBAL_ALERT_EN_VECTOR : Fld := ⟨5, 24, 6, .rw, .const 63, false, (some (1, 63)), false⟩
abbrev GLOBAL_ALERT_EN_EN : Fld := ⟨5, 0, 8, .rw, .const 0, false, none, false⟩

/-! GLOBAL.WR_REFUSED (18_register_map.md) -/
abbrev GLOBAL_WR_REFUSED_LAST_OFFSET : Fld := ⟨6, 20, 22, .ro, .const 0, false, none, false⟩
abbrev GLOBAL_WR_REFUSED_LAST_REASON : Fld := ⟨6, 16, 4, .ro, .const 0, false, none, false⟩
abbrev GLOBAL_WR_REFUSED_COUNT : Fld := ⟨6, 0, 16, .rc, .const 0, false, none, false⟩

/-! GLOBAL.MTB_NOW (01_architecture.md) -/
abbrev GLOBAL_MTB_NOW_MTB : Fld := ⟨7, 0, 64, .ro, .const 0, false, none, false⟩

/-! GLOBAL.MTB_UTC (01_architecture.md) -/
abbrev GLOBAL_MTB_UTC_MTB_AT_SEC : Fld := ⟨8, 64, 64, .ro, .const 0, false, none, false⟩
abbrev GLOBAL_MTB_UTC_UTC_SEC : Fld := ⟨8, 32, 32, .ro, .const 0, false, none, false⟩
abbrev GLOBAL_MTB_UTC_RTC_VALID : Fld := ⟨8, 0, 1, .ro, .const 0, false, none, false⟩

/-! GLOBAL.ISLAND_STAT[i] (01_architecture.md) -/
abbrev GLOBAL_ISLAND_STAT_READY : Fld := ⟨9, 31, 1, .ro, .const 0, false, none, false⟩
abbrev GLOBAL_ISLAND_STAT_CLK_OK : Fld := ⟨9, 30, 1, .ro, .const 0, false, none, false⟩
abbrev GLOBAL_ISLAND_STAT_ASLEEP : Fld := ⟨9, 29, 1, .ro, .const 0, false, none, false⟩
abbrev GLOBAL_ISLAND_STAT_PART : Fld := ⟨9, 26, 3, .ro, .tab [0,5,3,4,2,5,1,1,1,2,5,1,3,4], false, none, false⟩
abbrev GLOBAL_ISLAND_STAT_OVR : Fld := ⟨9, 16, 8, .rc, .const 0, false, none, false⟩
abbrev GLOBAL_ISLAND_STAT_LINK_ERR : Fld := ⟨9, 8, 8, .rc, .const 0, false, none, false⟩
abbrev GLOBAL_ISLAND_STAT_PROC_MON : Fld := ⟨9, 0, 8, .ro, .const 0, false, none, false⟩

/-! GLOBAL.PART_VIOL (01_architecture.md) -/
abbrev GLOBAL_PART_VIOL_LAST_SRC : Fld := ⟨10, 28, 4, .ro, .const 0, false, none, false⟩
abbrev GLOBAL_PART_VIOL_LAST_DST : Fld := ⟨10, 24, 4, .ro, .const 0, false, none, false⟩
abbrev GLOBAL_PART_VIOL_COUNT : Fld := ⟨10, 0, 24, .rc, .const 0, false, none, false⟩

/-! HOST.CTRL (02_host_rings.md) -/
abbrev HOST_CTRL_DETACHED : Fld := ⟨11, 31, 1, .ro, .const 1, false, none, false⟩
abbrev HOST_CTRL_POLL_US : Fld := ⟨11, 16, 8, .rw, .const 20, false, none, false⟩
abbrev HOST_CTRL_KICK_EN : Fld := ⟨11, 1, 1, .rw, .const 1, false, none, false⟩
abbrev HOST_CTRL_EN : Fld := ⟨11, 0, 1, .rw, .const 0, false, none, false⟩

/-! HOST.DB_BASE (02_host_rings.md) -/
abbrev HOST_DB_BASE_ADDR : Fld := ⟨12, 12, 52, .rw, .const 0, false, none, false⟩

/-! HOST.STAT_BASE (02_host_rings.md) -/
abbrev HOST_STAT_BASE_ADDR : Fld := ⟨13, 12, 52, .rw, .const 0, false, none, false⟩

/-! HOST.NOTIF_DATA (02_host_rings.md) -/
abbrev HOST_NOTIF_DATA_WORD : Fld := ⟨14, 0, 64, .rc, .const 0, false, none, false⟩

/-! HOST.NOTIF_STAT (02_host_rings.md) -/
abbrev HOST_NOTIF_STAT_LOST : Fld := ⟨15, 16, 16, .rc, .const 0, false, none, false⟩
abbrev HOST_NOTIF_STAT_CORR : Fld := ⟨15, 8, 8, .rc, .const 0, false, none, false⟩
abbrev HOST_NOTIF_STAT_UNCORR : Fld := ⟨15, 4, 4, .rc, .const 0, false, none, false⟩

/-! HOST.CREDIT (02_host_rings.md) -/
abbrev HOST_CREDIT_STOP_INFL : Fld := ⟨16, 26, 6, .ro, .const 0, false, none, false⟩
abbrev HOST_CREDIT_FREE : Fld := ⟨16, 0, 9, .ro, .const 256, false, none, false⟩

/-! HOST.CMDR[i] (02_host_rings.md) -/
abbrev HOST_CMDR_BASE : Fld := ⟨17, 76, 52, .rw, .const 0, false, none, false⟩
abbrev HOST_CMDR_ERR : Fld := ⟨17, 48, 1, .ro, .const 0, false, none, false⟩
abbrev HOST_CMDR_SIZE_LOG2 : Fld := ⟨17, 44, 4, .rw, .const 4, false, none, false⟩
abbrev HOST_CMDR_PRIO : Fld := ⟨17, 42, 2, .rw, .const 2, false, none, false⟩
abbrev HOST_CMDR_CQ : Fld := ⟨17, 36, 4, .rw, .const 0, false, none, false⟩
abbrev HOST_CMDR_RESUME : Fld := ⟨17, 33, 1, .rw, .const 0, false, none, false⟩
abbrev HOST_CMDR_EN : Fld := ⟨17, 32, 1, .rw, .const 0, false, none, false⟩
abbrev HOST_CMDR_START_SEQ : Fld := ⟨17, 0, 32, .rw, .const 0, false, none, false⟩

/-! HOST.CPLR[i] (02_host_rings.md) -/
abbrev HOST_CPLR_BASE : Fld := ⟨18, 76, 52, .rw, .const 0, false, none, false⟩
abbrev HOST_CPLR_SIZE_LOG2 : Fld := ⟨18, 44, 4, .rw, .const 4, false, none, false⟩
abbrev HOST_CPLR_VECTOR : Fld := ⟨18, 38, 6, .rw, .const 1, false, none, false⟩
abbrev HOST_CPLR_COAL_CNT : Fld := ⟨18, 30, 8, .rw, .const 1, false, none, false⟩
abbrev HOST_CPLR_COAL_US : Fld := ⟨18, 18, 12, .rw, .const 0, false, none, false⟩
abbrev HOST_CPLR_ERR : Fld := ⟨18, 1, 1, .ro, .const 0, false, none, false⟩
abbrev HOST_CPLR_EN : Fld := ⟨18, 0, 1, .rw, .const 0, false, none, false⟩

/-! HOST.EVR[j] (02_host_rings.md) -/
abbrev HOST_EVR_BASE : Fld := ⟨19, 76, 52, .rw, .const 0, false, none, false⟩
abbrev HOST_EVR_SRC_MASK : Fld := ⟨19, 48, 16, .rw, .const 65535, false, none, false⟩
abbrev HOST_EVR_SIZE_LOG2 : Fld := ⟨19, 44, 4, .rw, .const 4, false, none, false⟩
abbrev HOST_EVR_VECTOR : Fld := ⟨19, 38, 6, .rw, .const 1, false, none, false⟩
abbrev HOST_EVR_COAL_CNT : Fld := ⟨19, 30, 8, .rw, .const 1, false, none, false⟩
abbrev HOST_EVR_COAL_US : Fld := ⟨19, 18, 12, .rw, .const 0, false, none, false⟩
abbrev HOST_EVR_ERR : Fld := ⟨19, 1, 1, .ro, .const 0, false, none, false⟩
abbrev HOST_EVR_EN : Fld := ⟨19, 0, 1, .rw, .const 0, false, none, false⟩

/-! HOST.STR[j] (02_host_rings.md) -/
abbrev HOST_STR_BASE : Fld := ⟨20, 76, 52, .rw, .const 0, false, none, false⟩
abbrev HOST_STR_SOURCES : Fld := ⟨20, 32, 32, .rw, .const 0, false, none, false⟩
abbrev HOST_STR_SIZE_LOG2 : Fld := ⟨20, 28, 4, .rw, .const 4, false, none, false⟩
abbrev HOST_STR_VECTOR : Fld := ⟨20, 22, 6, .rw, .const 2, false, none, false⟩
abbrev HOST_STR_ERR : Fld := ⟨20, 1, 1, .ro, .const 0, false, none, false⟩
abbrev HOST_STR_EN : Fld := ⟨20, 0, 1, .rw, .const 0, false, none, false⟩

/-! HOST.SYNC[i] (02_host_rings.md) -/
abbrev HOST_SYNC_LAST_FETCHED : Fld := ⟨21, 32, 32, .ro, .const 0, false, none, false⟩
abbrev HOST_SYNC_LAST_COMPLETED : Fld := ⟨21, 0, 32, .ro, .const 0, false, none, false⟩

/-! HOST.SYNC_GLOBAL (02_host_rings.md) -/
abbrev HOST_SYNC_GLOBAL_DEV_SEQ_HIGH : Fld := ⟨22, 96, 32, .ro, .const 0, false, none, false⟩
abbrev HOST_SYNC_GLOBAL_JOURNAL_LOW : Fld := ⟨22, 64, 32, .ro, .const 0, false, none, false⟩
abbrev HOST_SYNC_GLOBAL_EPOCH : Fld := ⟨22, 48, 16, .ro, .const 0, false, none, false⟩
abbrev HOST_SYNC_GLOBAL_JRN_LOST : Fld := ⟨22, 32, 16, .rc, .const 0, false, none, false⟩
abbrev HOST_SYNC_GLOBAL_FIRST_SEQ : Fld := ⟨22, 0, 32, .ro, .const 0, false, none, false⟩

/-! CASK.CFG (03_cask_transactions.md) -/
abbrev CASK_CFG_LEAD_US : Fld := ⟨23, 24, 8, .rws, .const 25, false, (some (0, 200)), false⟩
abbrev CASK_CFG_ZC_SRC : Fld := ⟨23, 20, 4, .rws, .const 8, false, (some (0, 11)), false⟩
abbrev CASK_CFG_ZC_EDGE : Fld := ⟨23, 19, 1, .rws, .const 0, false, none, false⟩
abbrev CASK_CFG_SYNC_EDGE : Fld := ⟨23, 18, 1, .rws, .const 0, false, none, false⟩
abbrev CASK_CFG_OPEN_TO_MS : Fld := ⟨23, 0, 16, .rws, .const 5000, false, (some (100, 65535)), false⟩

/-! CASK.CFG2 (03_cask_transactions.md) -/
abbrev CASK_CFG2_ZC_OFFSET_US : Fld := ⟨24, 16, 16, .rws, .const 0, true, (some (-20000, 20000)), false⟩
abbrev CASK_CFG2_SYNC_TO_MS : Fld := ⟨24, 0, 16, .rws, .const 1000, false, (some (1, 10000)), false⟩

/-! CASK.STAT (03_cask_transactions.md) -/
abbrev CASK_STAT_COMMITTED : Fld := ⟨25, 16, 16, .rc, .const 0, false, none, false⟩
abbrev CASK_STAT_ABORTED : Fld := ⟨25, 8, 8, .rc, .const 0, false, none, false⟩
abbrev CASK_STAT_LATE : Fld := ⟨25, 0, 8, .rc, .const 0, false, none, false⟩

/-! CASK.SLOT[k] (03_cask_transactions.md) -/
abbrev CASK_SLOT_T_MTB : Fld := ⟨26, 64, 64, .ro, .const 0, false, none, false⟩
abbrev CASK_SLOT_ID : Fld := ⟨26, 56, 8, .ro, .const 0, false, none, false⟩
abbrev CASK_SLOT_STATE : Fld := ⟨26, 52, 4, .ro, .const 0, false, none, false⟩
abbrev CASK_SLOT_N_ACT : Fld := ⟨26, 47, 5, .ro, .const 0, false, none, false⟩
abbrev CASK_SLOT_MODE : Fld := ⟨26, 44, 3, .ro, .const 0, false, none, false⟩
abbrev CASK_SLOT_LAST_STATUS : Fld := ⟨26, 20, 16, .ro, .const 0, false, none, false⟩
abbrev CASK_SLOT_RING : Fld := ⟨26, 0, 4, .ro, .const 0, false, none, false⟩

/-! AFE.MOD_CFG[c] (06_sampling_front_end.md) -/
abbrev AFE_MOD_CFG_EN : Fld := ⟨27, 31, 1, .rwl, .const 0, false, none, false⟩
abbrev AFE_MOD_CFG_SENSOR : Fld := ⟨27, 30, 1, .rwl, .const 0, false, none, false⟩
abbrev AFE_MOD_CFG_PGA : Fld := ⟨27, 27, 3, .rwl, .const 0, false, (some (0, 5)), false⟩

/-! AFE.MCLK_CFG[m] (06_sampling_front_end.md) -/
abbrev AFE_MCLK_CFG_EN : Fld := ⟨28, 31, 1, .rwl, .const 0, false, none, false⟩
abbrev AFE_MCLK_CFG_DIV : Fld := ⟨28, 28, 3, .rwl, .const 0, false, (some (0, 3)), false⟩

/-! AFE.MBS_CFG[j] (06_sampling_front_end.md) -/
abbrev AFE_MBS_CFG_EN : Fld := ⟨29, 31, 1, .rwl, .const 0, false, none, false⟩
abbrev AFE_MBS_CFG_MCLK : Fld := ⟨29, 29, 2, .rwl, .const 0, false, none, false⟩
abbrev AFE_MBS_CFG_EDGE : Fld := ⟨29, 28, 1, .rwl, .const 0, false, none, false⟩
abbrev AFE_MBS_CFG_CAPTURE_DLY : Fld := ⟨29, 22, 6, .rwl, .const 0, false, none, false⟩
abbrev AFE_MBS_CFG_SKEW_NS : Fld := ⟨29, 10, 12, .rwl, .const 0, true, (some (-200, 1000)), false⟩

/-! AFE.CH_STAT[c] (06_sampling_front_end.md) -/
abbrev AFE_CH_STAT_PRESENT : Fld := ⟨30, 31, 1, .ro, .const 0, false, none, false⟩
abbrev AFE_CH_STAT_OVL_NOW : Fld := ⟨30, 30, 1, .ro, .const 0, false, none, false⟩
abbrev AFE_CH_STAT_LOST : Fld := ⟨30, 29, 1, .ro, .const 0, false, none, false⟩
abbrev AFE_CH_STAT_OVL_CNT : Fld := ⟨30, 16, 8, .rc, .const 0, false, none, false⟩
abbrev AFE_CH_STAT_EYE_ERR : Fld := ⟨30, 8, 8, .rc, .const 0, false, none, false⟩
abbrev AFE_CH_STAT_RESETS : Fld := ⟨30, 0, 8, .rc, .const 0, false, none, false⟩

/-! AFE.RCM_CFG[n] (06_sampling_front_end.md) -/
abbrev AFE_RCM_CFG_SENS_UV_MA : Fld := ⟨31, 48, 16, .ro, .const 10000, false, none, false⟩
abbrev AFE_RCM_CFG_TEST_TURNS : Fld := ⟨31, 44, 4, .ro, .const 1, false, none, false⟩
abbrev AFE_RCM_CFG_VALID_MV : Fld := ⟨31, 32, 12, .ro, .const 2400, false, none, false⟩

/-! AFE.RCM_RAW[n] (06_sampling_front_end.md) -/
abbrev AFE_RCM_RAW_RAW : Fld := ⟨32, 16, 16, .ro, .const 0, false, none, false⟩
abbrev AFE_RCM_RAW_VALID : Fld := ⟨32, 15, 1, .ro, .const 0, false, none, false⟩
abbrev AFE_RCM_RAW_TEST_ON : Fld := ⟨32, 14, 1, .ro, .const 0, false, none, false⟩

/-! AFE.PADC[p] (06_sampling_front_end.md) -/
abbrev AFE_PADC_EN : Fld := ⟨33, 31, 1, .ro, .const 0, false, none, false⟩
abbrev AFE_PADC_CAPTURE : Fld := ⟨33, 30, 1, .ro, .const 0, false, none, false⟩
abbrev AFE_PADC_OVR_CNT : Fld := ⟨33, 0, 16, .rc, .const 0, false, none, false⟩

/-! AFE.AUX_IN[i] (06_sampling_front_end.md) -/
abbrev AFE_AUX_IN_EN : Fld := ⟨34, 31, 1, .rws, .const 0, false, none, false⟩
abbrev AFE_AUX_IN_DIFF : Fld := ⟨34, 30, 1, .rws, .const 0, false, none, false⟩
abbrev AFE_AUX_IN_EXC : Fld := ⟨34, 28, 2, .rws, .const 0, false, none, false⟩

/-! AFE.AUX_CAL[i] (06_sampling_front_end.md) -/
abbrev AFE_AUX_CAL_Z_P : Fld := ⟨35, 224, 32, .rws, .const 0, false, none, false⟩
abbrev AFE_AUX_CAL_G_P : Fld := ⟨35, 192, 32, .rws, .const 80000000, false, none, false⟩
abbrev AFE_AUX_CAL_Y0_P : Fld := ⟨35, 160, 32, .rws, .const 0, false, none, false⟩
abbrev AFE_AUX_CAL_Z_C : Fld := ⟨35, 128, 32, .rws, .const 0, false, none, false⟩
abbrev AFE_AUX_CAL_G_C : Fld := ⟨35, 96, 32, .rws, .const 80000000, false, none, false⟩
abbrev AFE_AUX_CAL_Y0_C : Fld := ⟨35, 64, 32, .rws, .const 0, false, none, false⟩
abbrev AFE_AUX_CAL_CAL_UTC : Fld := ⟨35, 32, 32, .ro, .const 0, false, none, false⟩
abbrev AFE_AUX_CAL_CAL_C : Fld := ⟨35, 1, 1, .ro, .const 0, false, none, false⟩
abbrev AFE_AUX_CAL_CAL_P : Fld := ⟨35, 0, 1, .ro, .const 0, false, none, false⟩

/-! AFE.SEQ_CTL[s] (06_sampling_front_end.md) -/
abbrev AFE_SEQ_CTL_EN : Fld := ⟨36, 63, 1, .rws, .const 0, false, none, false⟩
abbrev AFE_SEQ_CTL_LEN : Fld := ⟨36, 56, 7, .rws, .const 1, false, (some (1, 64)), false⟩
abbrev AFE_SEQ_CTL_CONV : Fld := ⟨36, 55, 1, .ro, .const 0, false, none, false⟩
abbrev AFE_SEQ_CTL_INT_MODE : Fld := ⟨36, 54, 1, .rws, .const 0, false, none, false⟩
abbrev AFE_SEQ_CTL_INT_MP : Fld := ⟨36, 50, 4, .rws, .const 8, false, (some (0, 11)), false⟩
abbrev AFE_SEQ_CTL_PERIOD_US : Fld := ⟨36, 0, 32, .rws, .const 1000, false, (some (10, 10000000)), false⟩

/-! AFE.SEQ_ENT[s][e] (06_sampling_front_end.md) -/
abbrev AFE_SEQ_ENT_INPUT : Fld := ⟨37, 26, 6, .rws, .const 0, false, none, false⟩
abbrev AFE_SEQ_ENT_SETTLE : Fld := ⟨37, 18, 8, .rws, .const 4, false, (some (1, 255)), false⟩
abbrev AFE_SEQ_ENT_AVG_LOG2 : Fld := ⟨37, 14, 4, .rws, .const 0, false, (some (0, 8)), false⟩

/-! AFE.AUX_RES[i] (06_sampling_front_end.md) -/
abbrev AFE_AUX_RES_VALUE : Fld := ⟨38, 32, 32, .ro, .const 0, false, none, false⟩
abbrev AFE_AUX_RES_CODE : Fld := ⟨38, 12, 20, .ro, .const 0, false, none, false⟩
abbrev AFE_AUX_RES_OVR : Fld := ⟨38, 11, 1, .ro, .const 0, false, none, false⟩
abbrev AFE_AUX_RES_FIXED_T : Fld := ⟨38, 10, 1, .ro, .const 0, false, none, false⟩
abbrev AFE_AUX_RES_TRACK_LOST : Fld := ⟨38, 9, 1, .ro, .const 0, false, none, false⟩
abbrev AFE_AUX_RES_CONV : Fld := ⟨38, 8, 1, .ro, .const 0, false, none, false⟩
abbrev AFE_AUX_RES_AGE : Fld := ⟨38, 0, 8, .ro, .const 255, false, none, false⟩

/-! AFE.SCAN_STAT (06_sampling_front_end.md) -/
abbrev AFE_SCAN_STAT_LATE_CNT : Fld := ⟨39, 24, 8, .rc, .const 0, false, none, false⟩
abbrev AFE_SCAN_STAT_AUX_OVR : Fld := ⟨39, 16, 8, .rc, .const 0, false, none, false⟩
abbrev AFE_SCAN_STAT_FALLBACKS : Fld := ⟨39, 8, 8, .rc, .const 0, false, none, false⟩
abbrev AFE_SCAN_STAT_ACTIVE : Fld := ⟨39, 4, 4, .ro, .const 0, false, none, false⟩

/-! FILT[c].CFG (07_filter_resampling.md) -/
abbrev FILT_CFG_RS_MODE : Fld := ⟨40, 30, 2, .rwl, .const 0, false, none, false⟩
abbrev FILT_CFG_TRK : Fld := ⟨40, 26, 4, .rwl, .const 0, false, (some (0, 11)), false⟩
abbrev FILT_CFG_SHIFT0 : Fld := ⟨40, 22, 4, .rwl, .split 48 3 13, false, none, false⟩
abbrev FILT_CFG_SHIFT1 : Fld := ⟨40, 18, 4, .rwl, .const 0, false, none, false⟩
abbrev FILT_CFG_SHIFT2 : Fld := ⟨40, 14, 4, .rwl, .const 0, false, none, false⟩
abbrev FILT_CFG_SHIFT3 : Fld := ⟨40, 10, 4, .rwl, .const 0, false, none, false⟩

/-! FILT[c].BANK[b] (07_filter_resampling.md) -/
abbrev FILT_BANK_GAIN : Fld := ⟨41, 96, 32, .rwl, .const 1073741824, false, none, false⟩
abbrev FILT_BANK_OFFSET : Fld := ⟨41, 64, 32, .rwl, .const 0, false, none, false⟩
abbrev FILT_BANK_TRIM : Fld := ⟨41, 32, 32, .rwl, .const 0, true, (some (-25600000, 25600000)), false⟩

/-! FILT[c].STAT (07_filter_resampling.md) -/
abbrev FILT_STAT_PRESENT : Fld := ⟨42, 31, 1, .ro, .const 0, false, none, false⟩
abbrev FILT_STAT_ACTIVE_BANK : Fld := ⟨42, 30, 1, .ro, .const 0, false, none, false⟩
abbrev FILT_STAT_BLENDING : Fld := ⟨42, 29, 1, .ro, .const 0, false, none, false⟩
abbrev FILT_STAT_SETTLING : Fld := ⟨42, 28, 1, .ro, .const 1, false, none, false⟩
abbrev FILT_STAT_OVF_STAGE : Fld := ⟨42, 24, 4, .w1c, .const 0, false, none, false⟩
abbrev FILT_STAT_OVF_CNT : Fld := ⟨42, 16, 8, .rc, .const 0, false, none, false⟩

/-! FILT[c].GD (07_filter_resampling.md) -/
abbrev FILT_GD_TAP_GD : Fld := ⟨43, 32, 32, .ro, .split 48 87625000 87947917, false, none, false⟩
abbrev FILT_GD_TOTAL_GD : Fld := ⟨43, 0, 32, .ro, .split 48 87625000 87947917, false, none, false⟩

/-! FILT.TRK[m].CFG (07_filter_resampling.md) -/
abbrev FILT_TRK_CFG_EN : Fld := ⟨44, 31, 1, .rwl, .const 0, false, none, false⟩
abbrev FILT_TRK_CFG_FNOM : Fld := ⟨44, 30, 1, .rwl, .const 0, false, none, false⟩
abbrev FILT_TRK_CFG_SRC_CH : Fld := ⟨44, 23, 7, .rwl, .const 127, false, none, false⟩
abbrev FILT_TRK_CFG_MIN_PCT : Fld := ⟨44, 16, 7, .rwl, .const 10, false, (some (1, 50)), false⟩

/-! FILT.TRK[m].STAT (07_filter_resampling.md) -/
abbrev FILT_TRK_STAT_FREQ_UHZ : Fld := ⟨45, 32, 32, .ro, .const 0, false, none, false⟩
abbrev FILT_TRK_STAT_STATE : Fld := ⟨45, 30, 2, .ro, .const 0, false, none, false⟩
abbrev FILT_TRK_STAT_UNLOCKS : Fld := ⟨45, 16, 8, .rc, .const 0, false, none, false⟩
abbrev FILT_TRK_STAT_AMP : Fld := ⟨45, 0, 16, .ro, .const 0, false, none, false⟩

/-! FILT.TRK[m].ZC (07_filter_resampling.md) -/
abbrev FILT_TRK_ZC_START : Fld := ⟨46, 0, 64, .ro, .const 0, false, none, false⟩

/-! FILT.TRK[m].NEXT (07_filter_resampling.md) -/
abbrev FILT_TRK_NEXT_START : Fld := ⟨47, 0, 64, .ro, .const 0, false, none, false⟩

/-! FILT.TRK[m].PER (07_filter_resampling.md) -/
abbrev FILT_TRK_PER_PERIOD_NS : Fld := ⟨48, 0, 32, .ro, .const 0, false, none, false⟩

/-! FILT.BLEND (07_filter_resampling.md) -/
abbrev FILT_BLEND_BLEND_MS : Fld := ⟨49, 16, 16, .rwl, .const 200, false, (some (20, 2000)), false⟩

/-! MET[m].CFG (08_metrology.md) -/
abbrev MET_CFG_EN : Fld := ⟨50, 31, 1, .rwl, .const 0, false, none, false⟩
abbrev MET_CFG_TYPE : Fld := ⟨50, 28, 3, .rwl, .const 0, false, (some (0, 3)), false⟩
abbrev MET_CFG_NET_MODE : Fld := ⟨50, 27, 1, .rwl, .const 0, false, none, false⟩
abbrev MET_CFG_CLASSIFY : Fld := ⟨50, 26, 1, .rwl, .const 0, false, none, false⟩
abbrev MET_CFG_HARM_EN : Fld := ⟨50, 25, 1, .rws, .const 1, false, none, false⟩
abbrev MET_CFG_FLOW_CYC : Fld := ⟨50, 16, 9, .rws, .const 50, false, (some (1, 511)), false⟩
abbrev MET_CFG_STATE : Fld := ⟨50, 12, 4, .ro, .const 0, false, none, false⟩

/-! MET[m].MAP (08_metrology.md) -/
abbrev MET_MAP_V1 : Fld := ⟨51, 57, 7, .rwl, .const 127, false, none, false⟩
abbrev MET_MAP_V2 : Fld := ⟨51, 50, 7, .rwl, .const 127, false, none, false⟩
abbrev MET_MAP_V3 : Fld := ⟨51, 43, 7, .rwl, .const 127, false, none, false⟩
abbrev MET_MAP_I1 : Fld := ⟨51, 36, 7, .rwl, .const 127, false, none, false⟩
abbrev MET_MAP_I2 : Fld := ⟨51, 29, 7, .rwl, .const 127, false, none, false⟩
abbrev MET_MAP_I3 : Fld := ⟨51, 22, 7, .rwl, .const 127, false, none, false⟩
abbrev MET_MAP_IN : Fld := ⟨51, 15, 7, .rwl, .const 127, false, none, false⟩

/-! MET[m].RATING (08_metrology.md) -/
abbrev MET_RATING_UNOM : Fld := ⟨52, 48, 16, .rwl, .const 2300, false, none, false⟩
abbrev MET_RATING_IMAX : Fld := ⟨52, 24, 24, .rwl, .const 32000, false, none, false⟩
abbrev MET_RATING_ISTART_PPM : Fld := ⟨52, 14, 10, .rwl, .const 25, false, (some (10, 1000)), false⟩

/-! MET[m].SCALE (08_metrology.md) -/
abbrev MET_SCALE_KV : Fld := ⟨53, 32, 32, .rwl, .const 0, false, none, false⟩
abbrev MET_SCALE_KI : Fld := ⟨53, 0, 32, .rwl, .const 0, false, none, false⟩

/-! MET[m].PQ_CFG (08_metrology.md) -/
abbrev MET_PQ_CFG_DIP_PCT : Fld := ⟨54, 24, 8, .rws, .const 90, false, (some (50, 99)), false⟩
abbrev MET_PQ_CFG_SWELL_PCT : Fld := ⟨54, 16, 8, .rws, .const 110, false, (some (101, 150)), false⟩
abbrev MET_PQ_CFG_INT_PCT : Fld := ⟨54, 8, 8, .rws, .const 5, false, (some (1, 20)), false⟩
abbrev MET_PQ_CFG_HYST_PCT : Fld := ⟨54, 4, 4, .rws, .const 2, false, (some (1, 10)), false⟩

/-! MET[m].PHASE[p] (08_metrology.md) -/
abbrev MET_PHASE_URMS : Fld := ⟨55, 224, 32, .ro, .const 0, false, none, false⟩
abbrev MET_PHASE_IRMS : Fld := ⟨55, 192, 32, .ro, .const 0, false, none, false⟩
abbrev MET_PHASE_P : Fld := ⟨55, 160, 32, .ro, .const 0, false, none, false⟩
abbrev MET_PHASE_Q : Fld := ⟨55, 128, 32, .ro, .const 0, false, none, false⟩
abbrev MET_PHASE_S : Fld := ⟨55, 96, 32, .ro, .const 0, false, none, false⟩
abbrev MET_PHASE_PF : Fld := ⟨55, 80, 16, .ro, .const 0, false, none, false⟩
abbrev MET_PHASE_COS_PHI1 : Fld := ⟨55, 64, 16, .ro, .const 0, false, none, false⟩
abbrev MET_PHASE_ANGLE_UI : Fld := ⟨55, 32, 32, .ro, .const 0, false, none, false⟩
abbrev MET_PHASE_ANGLE_U : Fld := ⟨55, 0, 32, .ro, .const 0, false, none, false⟩

/-! MET[m].TOTAL (08_metrology.md) -/
abbrev MET_TOTAL_P : Fld := ⟨56, 224, 32, .ro, .const 0, false, none, false⟩
abbrev MET_TOTAL_Q : Fld := ⟨56, 192, 32, .ro, .const 0, false, none, false⟩
abbrev MET_TOTAL_S : Fld := ⟨56, 160, 32, .ro, .const 0, false, none, false⟩
abbrev MET_TOTAL_PF : Fld := ⟨56, 144, 16, .ro, .const 0, false, none, false⟩
abbrev MET_TOTAL_FREQ_1S : Fld := ⟨56, 96, 32, .ro, .const 0, false, none, false⟩
abbrev MET_TOTAL_FREQ_10S : Fld := ⟨56, 64, 32, .ro, .const 0, false, none, false⟩
abbrev MET_TOTAL_IN_RMS : Fld := ⟨56, 32, 32, .ro, .const 0, false, none, false⟩
abbrev MET_TOTAL_QF : Fld := ⟨56, 0, 32, .ro, .const 0, false, none, false⟩

/-! MET[m].ENERGY[k] (08_metrology.md) -/
abbrev MET_ENERGY_COUNT : Fld := ⟨57, 0, 64, .ro, .const 0, false, none, false⟩

/-! MET[m].SESS (08_metrology.md) -/
abbrev MET_SESS_SESSION_ID : Fld := ⟨58, 224, 32, .ro, .const 0, false, none, false⟩
abbrev MET_SESS_OPEN : Fld := ⟨58, 223, 1, .ro, .const 0, false, none, false⟩
abbrev MET_SESS_CLOSED_PENDING : Fld := ⟨58, 222, 1, .ro, .const 0, false, none, false⟩
abbrev MET_SESS_T_OPEN : Fld := ⟨58, 128, 64, .ro, .const 0, false, none, false⟩
abbrev MET_SESS_A_IMP : Fld := ⟨58, 64, 64, .ro, .const 0, false, none, false⟩
abbrev MET_SESS_A_EXP : Fld := ⟨58, 0, 64, .ro, .const 0, false, none, false⟩

/-! MET[m].QUAL (08_metrology.md) -/
abbrev MET_QUAL_INVALID_S : Fld := ⟨59, 96, 32, .ro, .const 0, false, none, false⟩
abbrev MET_QUAL_ABSENT_S : Fld := ⟨59, 64, 32, .ro, .const 0, false, none, false⟩
abbrev MET_QUAL_HOLDOVER_S : Fld := ⟨59, 32, 32, .ro, .const 0, false, none, false⟩
abbrev MET_QUAL_FREE_RUN_S : Fld := ⟨59, 0, 32, .ro, .const 0, false, none, false⟩

/-! MET[m].PQ_STAT (08_metrology.md) -/
abbrev MET_PQ_STAT_DIPS : Fld := ⟨60, 48, 16, .ro, .const 0, false, none, false⟩
abbrev MET_PQ_STAT_SWELLS : Fld := ⟨60, 32, 16, .ro, .const 0, false, none, false⟩
abbrev MET_PQ_STAT_INTERRUPTS : Fld := ⟨60, 16, 16, .ro, .const 0, false, none, false⟩
abbrev MET_PQ_STAT_ACTIVE : Fld := ⟨60, 13, 3, .ro, .const 0, false, none, false⟩

/-! MET[m].HARM[p][h] (08_metrology.md) -/
abbrev MET_HARM_U_SG : Fld := ⟨61, 96, 32, .ro, .const 0, false, none, false⟩
abbrev MET_HARM_I_SG : Fld := ⟨61, 64, 32, .ro, .const 0, false, none, false⟩
abbrev MET_HARM_U_ISG : Fld := ⟨61, 32, 32, .ro, .const 0, false, none, false⟩
abbrev MET_HARM_I_ISG : Fld := ⟨61, 0, 32, .ro, .const 0, false, none, false⟩

/-! MET.PULSE[k] (08_metrology.md) -/
abbrev MET_PULSE_EN : Fld := ⟨62, 63, 1, .rwl, .const 0, false, none, false⟩
abbrev MET_PULSE_MP : Fld := ⟨62, 59, 4, .rwl, .const 0, false, (some (0, 11)), false⟩
abbrev MET_PULSE_QTY : Fld := ⟨62, 55, 4, .rwl, .const 0, false, (some (0, 7)), false⟩
abbrev MET_PULSE_CONST : Fld := ⟨62, 38, 17, .rwl, .const 1000, false, (some (1, 100000)), false⟩
abbrev MET_PULSE_WIDTH_MS : Fld := ⟨62, 31, 7, .rwl, .const 30, false, (some (2, 100)), false⟩
abbrev MET_PULSE_BACKLOG : Fld := ⟨62, 0, 16, .ro, .const 0, false, none, false⟩

/-! MET.TC[c] (08_metrology.md) -/
abbrev MET_TC_ALPHA : Fld := ⟨63, 96, 32, .rwl, .const 0, false, none, false⟩
abbrev MET_TC_BETA : Fld := ⟨63, 64, 32, .rwl, .const 0, false, none, false⟩
abbrev MET_TC_TRIM_K : Fld := ⟨63, 32, 32, .rwl, .const 0, false, none, false⟩
abbrev MET_TC_T0 : Fld := ⟨63, 16, 16, .rwl, .const 0, false, none, false⟩

/-! MET.TC_CTL (08_metrology.md) -/
abbrev MET_TC_CTL_EN : Fld := ⟨64, 31, 1, .rwl, .const 1, false, none, false⟩
abbrev MET_TC_CTL_STEP : Fld := ⟨64, 24, 7, .rwl, .const 10, false, (some (1, 50)), false⟩
abbrev MET_TC_CTL_T_APPLIED : Fld := ⟨64, 0, 16, .ro, .const 0, false, none, false⟩

/-! LEDGER.CFG (09_ledger_billing.md) -/
abbrev LEDGER_CFG_COMMIT_100MS : Fld := ⟨65, 57, 7, .rwl, .const 10, false, (some (1, 100)), false⟩
abbrev LEDGER_CFG_SIG_ALG : Fld := ⟨65, 56, 1, .rwl, .const 0, false, none, false⟩
abbrev LEDGER_CFG_TARIFF_DEFAULT : Fld := ⟨65, 52, 4, .rwl, .const 0, false, none, false⟩
abbrev LEDGER_CFG_HOST_TARIFF : Fld := ⟨65, 51, 1, .rws, .const 0, false, none, false⟩
abbrev LEDGER_CFG_CAL_SIGNED : Fld := ⟨65, 50, 1, .rwl, .const 1, false, none, false⟩
abbrev LEDGER_CFG_TIME_STEP_MAX_S : Fld := ⟨65, 32, 18, .rws, .const 300, false, none, false⟩

/-! LEDGER.DEMAND_CFG (09_ledger_billing.md) -/
abbrev LEDGER_DEMAND_CFG_DEM_MIN : Fld := ⟨66, 26, 6, .rwl, .const 15, false, (some (1, 60)), false⟩
abbrev LEDGER_DEMAND_CFG_SLIDING : Fld := ⟨66, 25, 1, .rwl, .const 0, false, none, false⟩
abbrev LEDGER_DEMAND_CFG_SUB_N : Fld := ⟨66, 21, 4, .rwl, .const 1, false, (some (1, 15)), false⟩
abbrev LEDGER_DEMAND_CFG_SYNC_EN : Fld := ⟨66, 20, 1, .rwl, .const 0, false, none, false⟩
abbrev LEDGER_DEMAND_CFG_SYNC_WIN_S : Fld := ⟨66, 15, 5, .rwl, .const 30, false, (some (1, 30)), false⟩
abbrev LEDGER_DEMAND_CFG_SYNC_EDGE : Fld := ⟨66, 14, 1, .rwl, .const 0, false, none, false⟩

/-! LEDGER.BILL_CFG (09_ledger_billing.md) -/
abbrev LEDGER_BILL_CFG_BILL_DAY : Fld := ⟨67, 27, 5, .rwl, .const 1, false, (some (0, 28)), false⟩
abbrev LEDGER_BILL_CFG_BILL_HOUR : Fld := ⟨67, 22, 5, .rwl, .const 0, false, (some (0, 23)), false⟩
abbrev LEDGER_BILL_CFG_CMD_CLOSE : Fld := ⟨67, 21, 1, .rwl, .const 1, false, none, false⟩
abbrev LEDGER_BILL_CFG_MIN_GAP_H : Fld := ⟨67, 13, 8, .rwl, .const 24, false, (some (1, 255)), false⟩

/-! LEDGER.TIME (09_ledger_billing.md) -/
abbrev LEDGER_TIME_WALL_S : Fld := ⟨68, 96, 32, .ro, .const 0, false, none, false⟩
abbrev LEDGER_TIME_WALL_MS : Fld := ⟨68, 86, 10, .ro, .const 0, false, none, false⟩
abbrev LEDGER_TIME_LEDGER_S : Fld := ⟨68, 32, 32, .ro, .const 0, false, none, false⟩
abbrev LEDGER_TIME_LEDGER_MS : Fld := ⟨68, 22, 10, .ro, .const 0, false, none, false⟩
abbrev LEDGER_TIME_CLOCK_VALID : Fld := ⟨68, 21, 1, .ro, .const 0, false, none, false⟩

/-! LEDGER.STAT (09_ledger_billing.md) -/
abbrev LEDGER_STAT_LAST_SEQ : Fld := ⟨69, 64, 64, .ro, .const 0, false, none, false⟩
abbrev LEDGER_STAT_COMMIT_FAIL : Fld := ⟨69, 48, 16, .rc, .const 0, false, none, false⟩
abbrev LEDGER_STAT_OVERWRITTEN : Fld := ⟨69, 32, 16, .rc, .const 0, false, none, false⟩
abbrev LEDGER_STAT_POSSIBLE_LOSS : Fld := ⟨69, 31, 1, .ro, .const 0, false, none, false⟩
abbrev LEDGER_STAT_LAST_POUR_OK : Fld := ⟨69, 30, 1, .ro, .const 0, false, none, false⟩
abbrev LEDGER_STAT_CAL_OPEN : Fld := ⟨69, 29, 1, .ro, .const 0, false, none, false⟩
abbrev LEDGER_STAT_SEAL : Fld := ⟨69, 28, 1, .ro, .const 0, false, none, false⟩
abbrev LEDGER_STAT_BILL_SETS : Fld := ⟨69, 20, 8, .ro, .const 0, false, none, false⟩
abbrev LEDGER_STAT_UNSIGNED : Fld := ⟨69, 0, 20, .ro, .const 0, false, none, false⟩

/-! LEDGER.LASTPOUR (09_ledger_billing.md) -/
abbrev LEDGER_LASTPOUR_L_MTB : Fld := ⟨70, 64, 64, .ro, .const 0, false, none, false⟩
abbrev LEDGER_LASTPOUR_L_UTC : Fld := ⟨70, 32, 32, .ro, .const 0, false, none, false⟩
abbrev LEDGER_LASTPOUR_DURATION_US : Fld := ⟨70, 16, 16, .ro, .const 0, false, none, false⟩
abbrev LEDGER_LASTPOUR_RUN_100US : Fld := ⟨70, 0, 16, .ro, .const 0, false, none, false⟩

/-! LEDGER.EST[m] (09_ledger_billing.md) -/
abbrev LEDGER_EST_EST_UWH : Fld := ⟨71, 64, 64, .ro, .const 0, false, none, false⟩
abbrev LEDGER_EST_LOSS_BOUND_WH : Fld := ⟨71, 32, 32, .ro, .const 0, false, none, false⟩
abbrev LEDGER_EST_EST_VALID : Fld := ⟨71, 31, 1, .ro, .const 0, false, none, false⟩
abbrev LEDGER_EST_EST_EXPORT : Fld := ⟨71, 30, 1, .ro, .const 0, false, none, false⟩
abbrev LEDGER_EST_EST_CAPPED : Fld := ⟨71, 29, 1, .ro, .const 0, false, none, false⟩
abbrev LEDGER_EST_LOSS : Fld := ⟨71, 28, 1, .ro, .const 0, false, none, false⟩

/-! LEDGER.TOU[m][t] (09_ledger_billing.md) -/
abbrev LEDGER_TOU_A_IMP : Fld := ⟨72, 320, 64, .ro, .const 0, false, none, false⟩
abbrev LEDGER_TOU_A_EXP : Fld := ⟨72, 256, 64, .ro, .const 0, false, none, false⟩
abbrev LEDGER_TOU_R_IMP : Fld := ⟨72, 192, 64, .ro, .const 0, false, none, false⟩
abbrev LEDGER_TOU_R_EXP : Fld := ⟨72, 128, 64, .ro, .const 0, false, none, false⟩
abbrev LEDGER_TOU_S_IMP : Fld := ⟨72, 64, 64, .ro, .const 0, false, none, false⟩
abbrev LEDGER_TOU_S_EXP : Fld := ⟨72, 0, 64, .ro, .const 0, false, none, false⟩

/-! LEDGER.DEMAND[m] (09_ledger_billing.md) -/
abbrev LEDGER_DEMAND_LAST_IMP_W : Fld := ⟨73, 224, 32, .ro, .const 0, false, none, false⟩
abbrev LEDGER_DEMAND_LAST_EXP_W : Fld := ⟨73, 192, 32, .ro, .const 0, false, none, false⟩
abbrev LEDGER_DEMAND_LAST_RIMP_VAR : Fld := ⟨73, 160, 32, .ro, .const 0, false, none, false⟩
abbrev LEDGER_DEMAND_LAST_REXP_VAR : Fld := ⟨73, 128, 32, .ro, .const 0, false, none, false⟩
abbrev LEDGER_DEMAND_MAX_IMP_W : Fld := ⟨73, 96, 32, .ro, .const 0, false, none, false⟩
abbrev LEDGER_DEMAND_MAX_IMP_UTC : Fld := ⟨73, 64, 32, .ro, .const 0, false, none, false⟩
abbrev LEDGER_DEMAND_CUR_IMP_WH : Fld := ⟨73, 32, 32, .ro, .const 0, false, none, false⟩
abbrev LEDGER_DEMAND_ELAPSED_S : Fld := ⟨73, 16, 16, .ro, .const 0, false, none, false⟩
abbrev LEDGER_DEMAND_FLAGS : Fld := ⟨73, 8, 8, .ro, .const 0, false, none, false⟩

/-! LEDGER.TAMPER[t] (09_ledger_billing.md) -/
abbrev LEDGER_TAMPER_COUNT : Fld := ⟨74, 96, 32, .ro, .const 0, false, none, false⟩
abbrev LEDGER_TAMPER_FIRST_UTC : Fld := ⟨74, 64, 32, .ro, .const 0, false, none, false⟩
abbrev LEDGER_TAMPER_LAST_UTC : Fld := ⟨74, 32, 32, .ro, .const 0, false, none, false⟩

/-! LEDGER.LEGAL_ID (09_ledger_billing.md) -/
abbrev LEDGER_LEGAL_ID_SHA256 : Fld := ⟨75, 0, 256, .ro, .const 0, false, none, false⟩

/-! OUT[n].CFG (04_outlet_sessions.md) -/
abbrev OUT_CFG_TYPE : Fld := ⟨76, 62, 2, .rws, .const 0, false, none, true⟩
abbrev OUT_CFG_BIDIR : Fld := ⟨76, 61, 1, .rws, .const 0, false, none, true⟩
abbrev OUT_CFG_CTRL : Fld := ⟨76, 60, 1, .rws, .const 0, false, none, true⟩
abbrev OUT_CFG_PP_MODE : Fld := ⟨76, 58, 2, .rws, .const 1, false, (some (0, 2)), true⟩
abbrev OUT_CFG_TETHERED : Fld := ⟨76, 57, 1, .rws, .const 0, false, none, true⟩
abbrev OUT_CFG_TAG_REQ : Fld := ⟨76, 56, 1, .rws, .const 0, false, none, true⟩
abbrev OUT_CFG_FREE_VEND : Fld := ⟨76, 55, 1, .rws, .const 0, false, none, true⟩
abbrev OUT_CFG_MP : Fld := ⟨76, 51, 4, .rws, .inst, false, (some (0, 11)), true⟩
abbrev OUT_CFG_RATED_A : Fld := ⟨76, 44, 7, .rws, .const 32, false, (some (6, 80)), true⟩
abbrev OUT_CFG_CLASS : Fld := ⟨76, 42, 2, .rws, .const 2, false, none, true⟩
abbrev OUT_CFG_BASIC_FALLBACK : Fld := ⟨76, 41, 1, .rws, .const 1, false, none, true⟩
abbrev OUT_CFG_ZC_CLOSE : Fld := ⟨76, 40, 1, .rws, .const 0, false, none, true⟩
abbrev OUT_CFG_DIN_EN : Fld := ⟨76, 39, 1, .rws, .const 1, false, none, true⟩
abbrev OUT_CFG_ISO2_EN : Fld := ⟨76, 38, 1, .rws, .const 1, false, none, true⟩
abbrev OUT_CFG_ISO20_EN : Fld := ⟨76, 37, 1, .rws, .const 1, false, none, true⟩
abbrev OUT_CFG_EIM_EN : Fld := ⟨76, 36, 1, .rws, .const 1, false, none, true⟩
abbrev OUT_CFG_PNC_EN : Fld := ⟨76, 35, 1, .rws, .const 0, false, none, true⟩
abbrev OUT_CFG_TLS_REQ : Fld := ⟨76, 34, 1, .rws, .const 0, false, none, true⟩
abbrev OUT_CFG_PROTO_ORDER : Fld := ⟨76, 33, 1, .rws, .const 0, false, none, true⟩
abbrev OUT_CFG_DC_MIN : Fld := ⟨76, 16, 16, .rws, .const 100, false, none, true⟩
abbrev OUT_CFG_MAX : Fld := ⟨76, 0, 16, .rws, .const 0, false, none, true⟩

/-! OUT[n].DC_CFG (04_outlet_sessions.md) -/
abbrev OUT_DC_CFG_BUS : Fld := ⟨77, 30, 2, .rws, .const 0, false, (some (0, 2)), true⟩
abbrev OUT_DC_CFG_PM_COUNT : Fld := ⟨77, 26, 4, .rws, .const 0, false, (some (0, 8)), true⟩
abbrev OUT_DC_CFG_PM_BASE : Fld := ⟨77, 20, 6, .rws, .const 1, false, none, true⟩
abbrev OUT_DC_CFG_VMAX : Fld := ⟨77, 10, 10, .rws, .const 0, false, (some (0, 1000)), true⟩
abbrev OUT_DC_CFG_IMAX : Fld := ⟨77, 0, 10, .rws, .const 0, false, (some (0, 1000)), true⟩

/-! OUT[n].STAT (04_outlet_sessions.md) -/
abbrev OUT_STAT_SESSION_ID : Fld := ⟨78, 96, 32, .ro, .const 0, false, none, false⟩
abbrev OUT_STAT_STATE : Fld := ⟨78, 92, 4, .ro, .const 0, false, none, false⟩
abbrev OUT_STAT_AUTH_SRC : Fld := ⟨78, 89, 3, .ro, .const 0, false, none, false⟩
abbrev OUT_STAT_PROTO : Fld := ⟨78, 86, 3, .ro, .const 0, false, none, false⟩
abbrev OUT_STAT_DIR : Fld := ⟨78, 85, 1, .ro, .const 0, false, none, false⟩
abbrev OUT_STAT_DIODE_FAULT : Fld := ⟨78, 84, 1, .ro, .const 0, false, none, false⟩
abbrev OUT_STAT_PILOT : Fld := ⟨78, 80, 4, .ro, .const 0, false, none, false⟩
abbrev OUT_STAT_END_REASON : Fld := ⟨78, 72, 8, .ro, .const 0, false, none, false⟩
abbrev OUT_STAT_CABLE_A : Fld := ⟨78, 64, 8, .ro, .const 0, false, none, false⟩
abbrev OUT_STAT_PILOT_HIGH : Fld := ⟨78, 52, 12, .ro, .const 0, false, none, false⟩
abbrev OUT_STAT_PILOT_LOW : Fld := ⟨78, 40, 12, .ro, .const 0, false, none, false⟩
abbrev OUT_STAT_DUTY_PCT : Fld := ⟨78, 32, 8, .ro, .const 100, false, none, false⟩
abbrev OUT_STAT_ENERGY_WH : Fld := ⟨78, 0, 32, .ro, .const 0, false, none, false⟩

/-! OUT[n].ALLOC_STAT (04_outlet_sessions.md) -/
abbrev OUT_ALLOC_STAT_ALLOC_W : Fld := ⟨79, 96, 32, .ro, .const 0, false, none, false⟩
abbrev OUT_ALLOC_STAT_ENF_W : Fld := ⟨79, 64, 32, .ro, .const 0, false, none, false⟩
abbrev OUT_ALLOC_STAT_MEAS_W : Fld := ⟨79, 32, 32, .ro, .const 0, false, none, false⟩
abbrev OUT_ALLOC_STAT_QUEUE_POS : Fld := ⟨79, 24, 8, .ro, .const 0, false, none, false⟩
abbrev OUT_ALLOC_STAT_LAST : Fld := ⟨79, 20, 4, .ro, .const 0, false, none, false⟩
abbrev OUT_ALLOC_STAT_WAIT_MIN : Fld := ⟨79, 0, 12, .ro, .const 0, false, none, false⟩

/-! OUT.SITE (04_outlet_sessions.md) -/
abbrev OUT_SITE_HW_LIMIT_W : Fld := ⟨80, 160, 32, .rws, .const 4294967295, false, none, true⟩
abbrev OUT_SITE_HOST_LIMIT_W : Fld := ⟨80, 128, 32, .rws, .const 4294967295, false, none, true⟩
abbrev OUT_SITE_TRELLIS_W : Fld := ⟨80, 96, 32, .ro, .const 4294967295, false, none, false⟩
abbrev OUT_SITE_FALLBACK_W : Fld := ⟨80, 64, 32, .rws, .const 4294967295, false, none, true⟩
abbrev OUT_SITE_EXPORT_W : Fld := ⟨80, 32, 32, .rws, .const 0, false, none, true⟩
abbrev OUT_SITE_EFFECTIVE_W : Fld := ⟨80, 0, 32, .ro, .const 4294967295, false, none, false⟩

/-! OUT.POLICY (04_outlet_sessions.md) -/
abbrev OUT_POLICY_MAX_WAIT_MIN : Fld := ⟨81, 56, 8, .rws, .const 30, false, none, true⟩
abbrev OUT_POLICY_GRACE_S : Fld := ⟨81, 52, 4, .rws, .const 5, false, (some (1, 10)), true⟩
abbrev OUT_POLICY_DC_RAMP : Fld := ⟨81, 48, 4, .rws, .const 5, false, (some (1, 15)), true⟩
abbrev OUT_POLICY_TRELLIS_TO_S : Fld := ⟨81, 40, 8, .rws, .const 60, false, none, true⟩
abbrev OUT_POLICY_VNOM_2V : Fld := ⟨81, 32, 8, .rws, .const 115, false, (some (50, 150)), true⟩
abbrev OUT_POLICY_FOLLOW_N : Fld := ⟨81, 28, 4, .rws, .const 3, false, (some (1, 15)), true⟩
abbrev OUT_POLICY_MIN_RUN_S : Fld := ⟨81, 20, 8, .rws, .const 60, false, none, true⟩
abbrev OUT_POLICY_SLAC_MARGIN_DB : Fld := ⟨81, 15, 5, .rws, .const 6, false, (some (3, 30)), true⟩
abbrev OUT_POLICY_VALIDATE_EN : Fld := ⟨81, 14, 1, .rws, .const 1, false, none, true⟩
abbrev OUT_POLICY_PNC_OCSP : Fld := ⟨81, 13, 1, .rws, .const 0, false, none, true⟩
abbrev OUT_POLICY_CREDIT_EXPORT : Fld := ⟨81, 12, 1, .rws, .const 0, false, none, true⟩
abbrev OUT_POLICY_FILT_PER : Fld := ⟨81, 9, 3, .rws, .const 3, false, (some (2, 7)), true⟩
abbrev OUT_POLICY_AUTH_TO : Fld := ⟨81, 1, 8, .rws, .const 30, false, none, true⟩

/-! OUT.POLICY2 (04_outlet_sessions.md) -/
abbrev OUT_POLICY2_PREAUTH_S : Fld := ⟨82, 0, 8, .rws, .const 60, false, none, true⟩

/-! PLC[i].CFG (10_powerline_trellis.md) -/
abbrev PLC_CFG_EN : Fld := ⟨83, 63, 1, .ro, .const 0, false, none, false⟩
abbrev PLC_CFG_MODE_MAX : Fld := ⟨83, 61, 2, .rws, .const 3, false, (some (1, 3)), false⟩
abbrev PLC_CFG_TX_PSD : Fld := ⟨83, 53, 8, .rws, .tab [150,150,150,150,150,150,150,150,110,110], false, none, false⟩
abbrev PLC_CFG_COUPLE : Fld := ⟨83, 50, 3, .rws, .tab [0,0,0,0,0,0,0,0,4,4], false, (some (0, 4)), false⟩
abbrev PLC_CFG_EDGE_BLANK : Fld := ⟨83, 49, 1, .rws, .tab [1,1,1,1,1,1,1,1,0,0], false, none, false⟩
abbrev PLC_CFG_BLANK_THR : Fld := ⟨83, 37, 12, .rws, .const 1800, false, (some (256, 2047)), false⟩
abbrev PLC_CFG_BLANK_EXT : Fld := ⟨83, 33, 4, .rws, .const 4, false, none, false⟩
abbrev PLC_CFG_ERASE_PCT : Fld := ⟨83, 27, 6, .rws, .const 20, false, (some (5, 50)), false⟩

/-! PLC[i].TONEMASK[w] (10_powerline_trellis.md) -/
abbrev PLC_TONEMASK_MASK : Fld := ⟨84, 0, 32, .rws, .tone, false, none, false⟩

/-! PLC[i].STAT (10_powerline_trellis.md) -/
abbrev PLC_STAT_RX_FRAMES : Fld := ⟨85, 96, 32, .ro, .const 0, false, none, false⟩
abbrev PLC_STAT_FEC_FAIL : Fld := ⟨85, 64, 32, .ro, .const 0, false, none, false⟩
abbrev PLC_STAT_BLANKED_SYM : Fld := ⟨85, 48, 16, .rc, .const 0, false, none, false⟩
abbrev PLC_STAT_ERASED_SYM : Fld := ⟨85, 32, 16, .rc, .const 0, false, none, false⟩
abbrev PLC_STAT_IMPULSES : Fld := ⟨85, 16, 16, .rc, .const 0, false, none, false⟩
abbrev PLC_STAT_AGC : Fld := ⟨85, 8, 8, .ro, .const 0, false, none, false⟩
abbrev PLC_STAT_LINK : Fld := ⟨85, 4, 4, .ro, .const 0, false, none, false⟩

/-! PLC.TRELLIS.CFG (10_powerline_trellis.md) -/
abbrev PLC_TRELLIS_CFG_EN : Fld := ⟨86, 63, 1, .rws, .const 0, false, none, false⟩
abbrev PLC_TRELLIS_CFG_ROLE : Fld := ⟨86, 62, 1, .rws, .const 0, false, none, false⟩
abbrev PLC_TRELLIS_CFG_NODE_ADDR : Fld := ⟨86, 54, 8, .rws, .const 0, false, (some (0, 254)), false⟩
abbrev PLC_TRELLIS_CFG_SEGMENT : Fld := ⟨86, 38, 16, .rws, .const 0, false, none, false⟩
abbrev PLC_TRELLIS_CFG_ALIGN : Fld := ⟨86, 37, 1, .rws, .const 0, false, none, false⟩
abbrev PLC_TRELLIS_CFG_SYNC_EDGE : Fld := ⟨86, 36, 1, .rws, .const 0, false, none, false⟩
abbrev PLC_TRELLIS_CFG_ZC_MP : Fld := ⟨86, 32, 4, .rws, .const 8, false, (some (0, 11)), false⟩
abbrev PLC_TRELLIS_CFG_SF_OFFSET : Fld := ⟨86, 21, 11, .rws, .const 0, true, (some (-500, 500)), false⟩
abbrev PLC_TRELLIS_CFG_MPLC1_DIV : Fld := ⟨86, 20, 1, .rws, .const 0, false, none, false⟩
abbrev PLC_TRELLIS_CFG_SERVE_IMAGES : Fld := ⟨86, 19, 1, .rws, .const 0, false, none, false⟩
abbrev PLC_TRELLIS_CFG_TIME_TOL_MS : Fld := ⟨86, 9, 10, .rws, .const 1000, false, (some (50, 1000)), false⟩

/-! PLC.TRELLIS.STAT (10_powerline_trellis.md) -/
abbrev PLC_TRELLIS_STAT_SF_COUNT : Fld := ⟨87, 96, 32, .ro, .const 0, false, none, false⟩
abbrev PLC_TRELLIS_STAT_COORD : Fld := ⟨87, 88, 8, .ro, .const 0, false, none, false⟩
abbrev PLC_TRELLIS_STAT_NEIGHBOURS : Fld := ⟨87, 80, 8, .ro, .const 0, false, none, false⟩
abbrev PLC_TRELLIS_STAT_NODES : Fld := ⟨87, 72, 8, .ro, .const 0, false, none, false⟩
abbrev PLC_TRELLIS_STAT_STATE : Fld := ⟨87, 68, 4, .ro, .const 0, false, none, false⟩
abbrev PLC_TRELLIS_STAT_ADJ : Fld := ⟨87, 56, 12, .ro, .const 0, false, none, false⟩
abbrev PLC_TRELLIS_STAT_AUTH_DROP : Fld := ⟨87, 48, 8, .rc, .const 0, false, none, false⟩
abbrev PLC_TRELLIS_STAT_TX_DROPPED : Fld := ⟨87, 32, 16, .rc, .const 0, false, none, false⟩
abbrev PLC_TRELLIS_STAT_RETRIES : Fld := ⟨87, 16, 16, .rc, .const 0, false, none, false⟩
abbrev PLC_TRELLIS_STAT_REPEATER_CHG : Fld := ⟨87, 0, 16, .rc, .const 0, false, none, false⟩

/-! PLC.TRELLIS.LQ[k] (10_powerline_trellis.md) -/
abbrev PLC_TRELLIS_LQ_NEXT_HOP : Fld := ⟨88, 120, 8, .ro, .const 0, false, none, false⟩
abbrev PLC_TRELLIS_LQ_HOPS : Fld := ⟨88, 118, 2, .ro, .const 0, false, none, false⟩
abbrev PLC_TRELLIS_LQ_METRIC : Fld := ⟨88, 96, 16, .ro, .const 65535, false, none, false⟩
abbrev PLC_TRELLIS_LQ_LINK_COST : Fld := ⟨88, 80, 16, .ro, .const 65535, false, none, false⟩
abbrev PLC_TRELLIS_LQ_LINK_MODE : Fld := ⟨88, 78, 2, .ro, .const 0, false, none, false⟩
abbrev PLC_TRELLIS_LQ_FAIL32 : Fld := ⟨88, 72, 6, .ro, .const 0, false, none, false⟩
abbrev PLC_TRELLIS_LQ_SNR : Fld := ⟨88, 64, 8, .ro, .const 0, false, none, false⟩
abbrev PLC_TRELLIS_LQ_COUPLE : Fld := ⟨88, 61, 3, .ro, .const 3, false, none, false⟩
abbrev PLC_TRELLIS_LQ_LAST_HEARD : Fld := ⟨88, 0, 32, .ro, .const 0, false, none, false⟩

/-! PLC.SYNC (10_powerline_trellis.md) -/
abbrev PLC_SYNC_LAST_MTB : Fld := ⟨89, 64, 64, .ro, .const 0, false, none, false⟩
abbrev PLC_SYNC_LAST_DIR : Fld := ⟨89, 63, 1, .ro, .const 0, false, none, false⟩
abbrev PLC_SYNC_EDGES : Fld := ⟨89, 16, 16, .rc, .const 0, false, none, false⟩
abbrev PLC_SYNC_GLITCHES : Fld := ⟨89, 0, 16, .rc, .const 0, false, none, false⟩

/-! SAFE.STATUS (05_safety_earth_fault.md) -/
abbrev SAFE_STATUS_SAFE_OK : Fld := ⟨90, 31, 1, .ro, .const 0, false, none, false⟩
abbrev SAFE_STATUS_A_RUN : Fld := ⟨90, 30, 1, .ro, .const 0, false, none, false⟩
abbrev SAFE_STATUS_B_RUN : Fld := ⟨90, 29, 1, .ro, .const 0, false, none, false⟩
abbrev SAFE_STATUS_TABLE_OK : Fld := ⟨90, 28, 1, .ro, .const 0, false, none, false⟩
abbrev SAFE_STATUS_SELFTEST_OK : Fld := ⟨90, 27, 1, .ro, .const 0, false, none, false⟩
abbrev SAFE_STATUS_SHUNT : Fld := ⟨90, 26, 1, .ro, .const 0, false, none, false⟩
abbrev SAFE_STATUS_OUT_FAULT : Fld := ⟨90, 16, 8, .ro, .const 0, false, none, false⟩
abbrev SAFE_STATUS_OUT_LATCH : Fld := ⟨90, 8, 8, .ro, .const 0, false, none, false⟩
abbrev SAFE_STATUS_MOD_LATCH : Fld := ⟨90, 0, 8, .ro, .const 0, false, none, false⟩

/-! SAFE.CFG (05_safety_earth_fault.md) -/
abbrev SAFE_CFG_TEST_PERIOD_S : Fld := ⟨91, 26, 6, .ro, .const 10, false, none, false⟩
abbrev SAFE_CFG_TEST_US : Fld := ⟨91, 17, 9, .ro, .const 200, false, none, false⟩
abbrev SAFE_CFG_MSTOP_AC : Fld := ⟨91, 10, 6, .rws, .const 30, false, (some (1, 60)), false⟩
abbrev SAFE_CFG_MSTOP_DC : Fld := ⟨91, 4, 6, .rws, .const 10, false, (some (1, 60)), false⟩

/-! SAFE.CFG2 (05_safety_earth_fault.md) -/
abbrev SAFE_CFG2_IEND_AC : Fld := ⟨92, 24, 8, .rws, .const 10, false, (some (5, 50)), false⟩
abbrev SAFE_CFG2_IEND_DC : Fld := ⟨92, 16, 8, .rws, .const 20, false, (some (5, 100)), false⟩
abbrev SAFE_CFG2_OPEN_CHECK : Fld := ⟨92, 8, 8, .rws, .const 10, false, (some (2, 50)), false⟩

/-! SAFE.OUT_PROT[n] (05_safety_earth_fault.md) -/
abbrev SAFE_OUT_PROT_WELD_V_AC : Fld := ⟨93, 56, 8, .rws, .const 30, false, (some (10, 100)), false⟩
abbrev SAFE_OUT_PROT_WELD_V_DC : Fld := ⟨93, 48, 8, .rws, .const 30, false, (some (5, 100)), false⟩
abbrev SAFE_OUT_PROT_RCM_SRC : Fld := ⟨93, 44, 4, .rws, .inst, false, none, false⟩
abbrev SAFE_OUT_PROT_VLINK_AUX : Fld := ⟨93, 38, 6, .rws, .const 0, false, none, false⟩
abbrev SAFE_OUT_PROT_VLINK_EN : Fld := ⟨93, 37, 1, .rws, .const 0, false, none, false⟩
abbrev SAFE_OUT_PROT_SHUNT_EN : Fld := ⟨93, 36, 1, .rws, .const 1, false, none, false⟩
abbrev SAFE_OUT_PROT_SUPPLY_MP : Fld := ⟨93, 32, 4, .rws, .const 8, false, (some (0, 11)), false⟩

/-! SAFE.COIL_CFG[k] (05_safety_earth_fault.md) -/
abbrev SAFE_COIL_CFG_EN : Fld := ⟨94, 63, 1, .ro, .const 1, false, none, false⟩
abbrev SAFE_COIL_CFG_OUTLET : Fld := ⟨94, 60, 3, .ro, .half, false, none, false⟩
abbrev SAFE_COIL_CFG_ROLE : Fld := ⟨94, 58, 2, .ro, .parity, false, none, false⟩
abbrev SAFE_COIL_CFG_MIRROR_EN : Fld := ⟨94, 57, 1, .ro, .const 1, false, none, false⟩
abbrev SAFE_COIL_CFG_MIRROR_POL : Fld := ⟨94, 56, 1, .ro, .const 0, false, none, false⟩
abbrev SAFE_COIL_CFG_PULLIN_MA : Fld := ⟨94, 44, 12, .ro, .const 1500, false, none, false⟩
abbrev SAFE_COIL_CFG_HOLD_MA : Fld := ⟨94, 32, 12, .ro, .const 500, false, none, false⟩
abbrev SAFE_COIL_CFG_PULLIN_MS : Fld := ⟨94, 23, 9, .ro, .const 100, false, none, false⟩

/-! SAFE.COIL_STAT[k] (05_safety_earth_fault.md) -/
abbrev SAFE_COIL_STAT_STATE : Fld := ⟨95, 60, 4, .ro, .const 0, false, none, false⟩
abbrev SAFE_COIL_STAT_HS_ON : Fld := ⟨95, 59, 1, .ro, .const 0, false, none, false⟩
abbrev SAFE_COIL_STAT_LS_ON : Fld := ⟨95, 58, 1, .ro, .const 0, false, none, false⟩
abbrev SAFE_COIL_STAT_MIRROR_OPEN : Fld := ⟨95, 57, 1, .ro, .const 0, false, none, false⟩
abbrev SAFE_COIL_STAT_I_MA : Fld := ⟨95, 44, 12, .ro, .const 0, false, none, false⟩
abbrev SAFE_COIL_STAT_LOAD_BREAKS : Fld := ⟨95, 16, 16, .ro, .const 0, false, none, false⟩
abbrev SAFE_COIL_STAT_TESTS_SKIPPED : Fld := ⟨95, 0, 16, .rc, .const 0, false, none, false⟩

/-! SAFE.RCM_STAT[n] (05_safety_earth_fault.md) -/
abbrev SAFE_RCM_STAT_DC : Fld := ⟨96, 48, 16, .ro, .const 0, false, none, false⟩
abbrev SAFE_RCM_STAT_AC : Fld := ⟨96, 32, 16, .ro, .const 0, false, none, false⟩
abbrev SAFE_RCM_STAT_OFFSET : Fld := ⟨96, 24, 8, .ro, .const 0, false, none, false⟩
abbrev SAFE_RCM_STAT_LAST_TRIP : Fld := ⟨96, 20, 4, .ro, .const 0, false, none, false⟩
abbrev SAFE_RCM_STAT_TRIPS_24H : Fld := ⟨96, 16, 4, .ro, .const 0, false, none, false⟩
abbrev SAFE_RCM_STAT_SELFTEST_OK : Fld := ⟨96, 15, 1, .ro, .const 0, false, none, false⟩

/-! SAFE.IMD (05_safety_earth_fault.md) -/
abbrev SAFE_IMD_EN : Fld := ⟨97, 63, 1, .rws, .const 0, false, none, false⟩
abbrev SAFE_IMD_OUTLET : Fld := ⟨97, 60, 3, .rws, .const 0, false, none, false⟩
abbrev SAFE_IMD_WARN_OHM_V : Fld := ⟨97, 48, 12, .rws, .const 500, false, (some (100, 1000)), false⟩
abbrev SAFE_IMD_FAULT_OHM_V : Fld := ⟨97, 36, 12, .rws, .const 100, false, (some (100, 500)), false⟩
abbrev SAFE_IMD_INS_KOHM : Fld := ⟨97, 16, 16, .ro, .const 0, false, none, false⟩
abbrev SAFE_IMD_RESULT : Fld := ⟨97, 14, 2, .ro, .const 3, false, none, false⟩
abbrev SAFE_IMD_AGE : Fld := ⟨97, 0, 14, .ro, .const 16383, false, none, false⟩

/-! SAFE.IN_CFG[m] (05_safety_earth_fault.md) -/
abbrev SAFE_IN_CFG_EN : Fld := ⟨98, 31, 1, .rws, .const 0, false, none, false⟩
abbrev SAFE_IN_CFG_ACTION : Fld := ⟨98, 28, 3, .rws, .const 0, false, (some (0, 5)), false⟩
abbrev SAFE_IN_CFG_POL : Fld := ⟨98, 27, 1, .rws, .const 0, false, none, false⟩
abbrev SAFE_IN_CFG_OUTLETS : Fld := ⟨98, 16, 8, .rws, .const 255, false, none, false⟩
abbrev SAFE_IN_CFG_FILT_MS : Fld := ⟨98, 0, 16, .rws, .const 10, false, (some (1, 1000)), false⟩

/-! KEY.STATUS (11_keys_credentials.md) -/
abbrev KEY_STATUS_MODE : Fld := ⟨99, 29, 3, .ro, .const 0, false, none, false⟩
abbrev KEY_STATUS_ROOT_OK : Fld := ⟨99, 28, 1, .ro, .const 0, false, none, false⟩
abbrev KEY_STATUS_LEES_OK : Fld := ⟨99, 27, 1, .ro, .const 0, false, none, false⟩
abbrev KEY_STATUS_OWNER_SET : Fld := ⟨99, 26, 1, .ro, .const 0, false, none, false⟩
abbrev KEY_STATUS_ATTEST_CERT : Fld := ⟨99, 25, 1, .ro, .const 0, false, none, false⟩
abbrev KEY_STATUS_RIDDLE_LATE : Fld := ⟨99, 16, 8, .rc, .const 0, false, none, false⟩

/-! KEY.CFG (11_keys_credentials.md) -/
abbrev KEY_CFG_RIDDLE_MS : Fld := ⟨100, 26, 6, .rws, .const 8, false, none, false⟩
abbrev KEY_CFG_CRED_SIGNED : Fld := ⟨100, 25, 1, .rws, .const 1, false, none, false⟩

/-! KEY.PUF_STAT (11_keys_credentials.md) -/
abbrev KEY_PUF_STAT_BER : Fld := ⟨101, 20, 12, .ro, .const 0, false, none, false⟩
abbrev KEY_PUF_STAT_BER_MAX : Fld := ⟨101, 8, 12, .ro, .const 0, false, none, false⟩
abbrev KEY_PUF_STAT_ATTEMPTS : Fld := ⟨101, 6, 2, .ro, .const 0, false, none, false⟩

/-! KEY.CACHE (11_keys_credentials.md) -/
abbrev KEY_CACHE_USED : Fld := ⟨102, 53, 11, .ro, .const 0, false, none, false⟩
abbrev KEY_CACHE_PINNED : Fld := ⟨102, 46, 7, .ro, .const 0, false, none, false⟩
abbrev KEY_CACHE_NODES : Fld := ⟨102, 33, 13, .ro, .const 0, false, none, false⟩
abbrev KEY_CACHE_MISSES : Fld := ⟨102, 0, 32, .rc, .const 0, false, none, false⟩

/-! KEY.DRBG (11_keys_credentials.md) -/
abbrev KEY_DRBG_HEALTH_OK : Fld := ⟨103, 31, 1, .ro, .const 0, false, none, false⟩
abbrev KEY_DRBG_HEALTH_FAIL : Fld := ⟨103, 16, 8, .rc, .const 0, false, none, false⟩
abbrev KEY_DRBG_RESEEDS : Fld := ⟨103, 0, 16, .rc, .const 0, false, none, false⟩

/-! KEY.OWNER_CTR (11_keys_credentials.md) -/
abbrev KEY_OWNER_CTR_CTR : Fld := ⟨104, 0, 32, .ro, .const 0, false, none, false⟩

/-! KEY.CRED_STAT (11_keys_credentials.md) -/
abbrev KEY_CRED_STAT_ACTIVE_GEN : Fld := ⟨105, 96, 32, .ro, .const 0, false, none, false⟩
abbrev KEY_CRED_STAT_RECORDS : Fld := ⟨105, 64, 32, .ro, .const 0, false, none, false⟩
abbrev KEY_CRED_STAT_DELTAS : Fld := ⟨105, 50, 14, .ro, .const 0, false, none, false⟩
abbrev KEY_CRED_STAT_LOAD_STATE : Fld := ⟨105, 48, 2, .ro, .const 0, false, none, false⟩
abbrev KEY_CRED_STAT_ACTIVE_COPY : Fld := ⟨105, 47, 1, .ro, .const 0, false, none, false⟩
abbrev KEY_CRED_STAT_WORN : Fld := ⟨105, 46, 1, .ro, .const 0, false, none, false⟩
abbrev KEY_CRED_STAT_LOADED : Fld := ⟨105, 0, 32, .ro, .const 0, false, none, false⟩

/-! KEY.WEAR[a] (11_keys_credentials.md) -/
abbrev KEY_WEAR_BLOCKS : Fld := ⟨106, 48, 16, .ro, .tab [16384,16384,0,4096,4096,0,0,0], false, none, false⟩
abbrev KEY_WEAR_SPARES : Fld := ⟨106, 32, 16, .ro, .tab [655,655,0,163,163,0,0,0], false, none, false⟩
abbrev KEY_WEAR_SPARES_USED : Fld := ⟨106, 16, 16, .ro, .const 0, false, none, false⟩
abbrev KEY_WEAR_READ_ONLY : Fld := ⟨106, 15, 1, .ro, .const 0, false, none, false⟩

/-! TAG.RDR_CFG (12_contactless.md) -/
abbrev TAG_RDR_CFG_RDR0_EN : Fld := ⟨107, 31, 1, .rws, .const 1, false, none, false⟩
abbrev TAG_RDR_CFG_RDR1_EN : Fld := ⟨107, 30, 1, .rws, .const 1, false, none, false⟩
abbrev TAG_RDR_CFG_PROTO_EN : Fld := ⟨107, 27, 3, .rws, .const 7, false, none, false⟩
abbrev TAG_RDR_CFG_RATE_MAX : Fld := ⟨107, 25, 2, .rws, .const 2, false, (some (0, 2)), false⟩
abbrev TAG_RDR_CFG_POLL_MS : Fld := ⟨107, 15, 10, .rws, .const 200, false, (some (50, 1000)), false⟩
abbrev TAG_RDR_CFG_CARD_GONE_MS : Fld := ⟨107, 2, 13, .rws, .const 1000, false, (some (200, 5000)), false⟩

/-! TAG.CABLE_CFG (12_contactless.md) -/
abbrev TAG_CABLE_CFG_SEC : Fld := ⟨108, 30, 2, .rws, .const 0, false, (some (0, 2)), false⟩

/-! TAG.RDR_STAT (12_contactless.md) -/
abbrev TAG_RDR_STAT_MULTI : Fld := ⟨109, 24, 8, .rc, .const 0, false, none, false⟩
abbrev TAG_RDR_STAT_WALK_LIMIT : Fld := ⟨109, 16, 8, .rc, .const 0, false, none, false⟩
abbrev TAG_RDR_STAT_RX_ERR : Fld := ⟨109, 8, 8, .rc, .const 0, false, none, false⟩
abbrev TAG_RDR_STAT_QUEUE : Fld := ⟨109, 4, 4, .ro, .const 0, false, none, false⟩

/-! TAG.CABLE[n] (12_contactless.md) -/
abbrev TAG_CABLE_UID : Fld := ⟨110, 192, 64, .ro, .const 0, false, none, false⟩
abbrev TAG_CABLE_MATING : Fld := ⟨110, 160, 32, .ro, .const 0, false, none, false⟩
abbrev TAG_CABLE_SESSIONS : Fld := ⟨110, 128, 32, .ro, .const 0, false, none, false⟩
abbrev TAG_CABLE_ENERGY_WH : Fld := ⟨110, 96, 32, .ro, .const 0, false, none, false⟩
abbrev TAG_CABLE_OPENINGS : Fld := ⟨110, 80, 16, .ro, .const 0, false, none, false⟩
abbrev TAG_CABLE_RATING_A : Fld := ⟨110, 72, 8, .ro, .const 0, false, none, false⟩
abbrev TAG_CABLE_STATE : Fld := ⟨110, 70, 2, .ro, .const 0, false, none, false⟩
abbrev TAG_CABLE_WRITE_PEND : Fld := ⟨110, 69, 1, .ro, .const 0, false, none, false⟩
abbrev TAG_CABLE_EOL : Fld := ⟨110, 68, 1, .ro, .const 0, false, none, false⟩

/-! TAG.OWN_CFG (12_contactless.md) -/
abbrev TAG_OWN_CFG_EN : Fld := ⟨111, 31, 1, .rws, .const 1, false, none, false⟩
abbrev TAG_OWN_CFG_NDEF_WP : Fld := ⟨111, 29, 2, .rws, .const 0, false, none, false⟩
abbrev TAG_OWN_CFG_HOST_RP : Fld := ⟨111, 27, 2, .rws, .const 1, false, none, false⟩
abbrev TAG_OWN_CFG_MBOX_WP : Fld := ⟨111, 25, 2, .rws, .const 1, false, none, false⟩
abbrev TAG_OWN_CFG_AFI : Fld := ⟨111, 17, 8, .rws, .const 0, false, none, false⟩
abbrev TAG_OWN_CFG_DSFID : Fld := ⟨111, 9, 8, .rws, .const 0, false, none, false⟩
abbrev TAG_OWN_CFG_STATUS_EN : Fld := ⟨111, 8, 1, .rws, .const 1, false, none, false⟩

/-! TAG.OWN_PWD (12_contactless.md) -/
abbrev TAG_OWN_PWD_PWD : Fld := ⟨112, 0, 32, .wo, .const 0, false, none, false⟩

/-! TAG.OWN_STAT (12_contactless.md) -/
abbrev TAG_OWN_STAT_FIELD : Fld := ⟨113, 31, 1, .ro, .const 0, false, none, false⟩
abbrev TAG_OWN_STAT_BUSY_RSP : Fld := ⟨113, 16, 8, .rc, .const 0, false, none, false⟩
abbrev TAG_OWN_STAT_TORN : Fld := ⟨113, 8, 8, .rc, .const 0, false, none, false⟩
abbrev TAG_OWN_STAT_FIELD_WR : Fld := ⟨113, 0, 8, .rc, .const 0, false, none, false⟩

/-! DISP.CFG (13_epd_display.md) -/
abbrev DISP_CFG_EN : Fld := ⟨114, 31, 1, .rws, .const 0, false, none, false⟩
abbrev DISP_CFG_WIDTH : Fld := ⟨114, 20, 11, .rws, .const 1280, false, (some (64, 1280)), false⟩
abbrev DISP_CFG_HEIGHT : Fld := ⟨114, 10, 10, .rws, .const 960, false, (some (16, 960)), false⟩
abbrev DISP_CFG_FPS : Fld := ⟨114, 3, 7, .rws, .const 85, false, (some (50, 85)), false⟩
abbrev DISP_CFG_INVERT : Fld := ⟨114, 1, 2, .rws, .const 0, false, (some (0, 2)), false⟩

/-! DISP.BUS (13_epd_display.md) -/
abbrev DISP_BUS_SDCLK_DIV : Fld := ⟨115, 28, 4, .rws, .const 3, false, (some (1, 9)), false⟩
abbrev DISP_BUS_LINE_OH : Fld := ⟨115, 20, 8, .rws, .const 10, false, (some (5, 255)), false⟩
abbrev DISP_BUS_CLOSE_LINE : Fld := ⟨115, 12, 8, .rws, .const 20, false, (some (10, 255)), false⟩

/-! DISP.TEMP (13_epd_display.md) -/
abbrev DISP_TEMP_TEMP_AUX : Fld := ⟨116, 26, 6, .rws, .const 0, false, none, false⟩
abbrev DISP_TEMP_SRC : Fld := ⟨116, 24, 2, .rws, .const 0, false, (some (0, 2)), false⟩
abbrev DISP_TEMP_FALLBACK_BAND : Fld := ⟨116, 20, 4, .rws, .const 8, false, none, false⟩
abbrev DISP_TEMP_BAND : Fld := ⟨116, 16, 4, .ro, .const 8, false, none, false⟩
abbrev DISP_TEMP_STALE : Fld := ⟨116, 15, 1, .ro, .const 1, false, none, false⟩
abbrev DISP_TEMP_TEMP : Fld := ⟨116, 0, 15, .ro, .const 0, false, none, false⟩

/-! DISP.STAT (13_epd_display.md) -/
abbrev DISP_STAT_ACTIVE : Fld := ⟨117, 27, 5, .ro, .const 0, false, none, false⟩
abbrev DISP_STAT_SCANNING : Fld := ⟨117, 26, 1, .ro, .const 0, false, none, false⟩
abbrev DISP_STAT_RECOVERING : Fld := ⟨117, 25, 1, .ro, .const 0, false, none, false⟩
abbrev DISP_STAT_PWR_GOOD : Fld := ⟨117, 24, 1, .ro, .const 0, false, none, false⟩
abbrev DISP_STAT_QUEUED : Fld := ⟨117, 16, 8, .ro, .const 0, false, none, false⟩
abbrev DISP_STAT_ABANDONED : Fld := ⟨117, 0, 16, .ro, .const 0, false, none, false⟩

/-! DISP.AGE_CFG (13_epd_display.md) -/
abbrev DISP_AGE_CFG_AGE_T1 : Fld := ⟨118, 48, 16, .rws, .const 100, false, none, false⟩
abbrev DISP_AGE_CFG_AGE_T2 : Fld := ⟨118, 32, 16, .rws, .const 300, false, none, false⟩
abbrev DISP_AGE_CFG_AGE_T3 : Fld := ⟨118, 16, 16, .rws, .const 700, false, none, false⟩
abbrev DISP_AGE_CFG_IMB_LIMIT_S : Fld := ⟨118, 0, 16, .rws, .const 3600, false, none, false⟩

/-! DISP.REGION[r] (13_epd_display.md) -/
abbrev DISP_REGION_X0 : Fld := ⟨119, 117, 11, .ro, .const 0, false, none, false⟩
abbrev DISP_REGION_Y0 : Fld := ⟨119, 107, 10, .ro, .const 0, false, none, false⟩
abbrev DISP_REGION_W : Fld := ⟨119, 96, 11, .ro, .const 0, false, none, false⟩
abbrev DISP_REGION_H : Fld := ⟨119, 86, 10, .ro, .const 0, false, none, false⟩
abbrev DISP_REGION_MODE : Fld := ⟨119, 84, 2, .ro, .const 0, false, none, false⟩
abbrev DISP_REGION_BAND : Fld := ⟨119, 80, 4, .ro, .const 0, false, none, false⟩
abbrev DISP_REGION_STATE : Fld := ⟨119, 76, 4, .ro, .const 0, false, none, false⟩
abbrev DISP_REGION_FRAME : Fld := ⟨119, 70, 6, .ro, .const 0, false, none, false⟩
abbrev DISP_REGION_FALLBACK : Fld := ⟨119, 69, 1, .ro, .const 0, false, none, false⟩
abbrev DISP_REGION_START_MTB : Fld := ⟨119, 0, 64, .ro, .const 0, false, none, false⟩

/-! DISP.SEG_CFG (13_epd_display.md) -/
abbrev DISP_SEG_CFG_SENSE_EN : Fld := ⟨120, 31, 1, .rwl, .const 1, false, none, false⟩
abbrev DISP_SEG_CFG_SENSE_H : Fld := ⟨120, 23, 8, .rwl, .const 24, false, (some (1, 255)), false⟩
abbrev DISP_SEG_CFG_SEG_FPS : Fld := ⟨120, 16, 7, .rwl, .const 50, false, (some (50, 85)), false⟩

/-! DISP.SEG_CAP[s] (13_epd_display.md) -/
abbrev DISP_SEG_CAP_C_REF : Fld := ⟨121, 16, 16, .ro, .const 0, false, none, false⟩
abbrev DISP_SEG_CAP_C_NOW : Fld := ⟨121, 0, 16, .ro, .const 0, false, none, false⟩

/-! LSW[n].CFG (14_load_switches.md) -/
abbrev LSW_CFG_EN : Fld := ⟨122, 63, 1, .rws, .const 0, false, none, false⟩
abbrev LSW_CFG_INRUSH_EN : Fld := ⟨122, 62, 1, .rws, .const 1, false, none, false⟩
abbrev LSW_CFG_ILIM : Fld := ⟨122, 57, 5, .rws, .const 12, false, (some (4, 16)), false⟩
abbrev LSW_CFG_INRUSH_A : Fld := ⟨122, 52, 5, .rws, .const 16, false, (some (5, 24)), false⟩
abbrev LSW_CFG_INRUSH_MS : Fld := ⟨122, 47, 5, .rws, .const 10, false, (some (1, 20)), false⟩
abbrev LSW_CFG_RETRY_N : Fld := ⟨122, 43, 4, .rws, .const 3, false, none, false⟩
abbrev LSW_CFG_RETRY_MS : Fld := ⟨122, 36, 7, .rws, .const 20, false, (some (5, 100)), false⟩
abbrev LSW_CFG_THERM_LATCH : Fld := ⟨122, 35, 1, .rws, .const 0, false, none, false⟩
abbrev LSW_CFG_OL_RANGE : Fld := ⟨122, 34, 1, .rws, .const 0, false, none, false⟩
abbrev LSW_CFG_OL_MA : Fld := ⟨122, 27, 7, .rws, .const 20, false, (some (2, 100)), false⟩
abbrev LSW_CFG_OFF_DIAG : Fld := ⟨122, 26, 1, .rws, .const 0, false, none, false⟩
abbrev LSW_CFG_PRIO : Fld := ⟨122, 24, 2, .rws, .const 2, false, none, false⟩
abbrev LSW_CFG_SAFE_OFF : Fld := ⟨122, 23, 1, .rws, .const 1, false, none, false⟩
abbrev LSW_CFG_I_NOM : Fld := ⟨122, 11, 12, .rws, .const 0, false, (some (0, 2500)), false⟩

/-! LSW[n].PWM (14_load_switches.md) -/
abbrev LSW_PWM_DUTY : Fld := ⟨123, 20, 12, .rws, .const 4095, false, none, false⟩
abbrev LSW_PWM_PHASE : Fld := ⟨123, 12, 8, .rws, .const 0, false, none, false⟩

/-! LSW[n].STAT (14_load_switches.md) -/
abbrev LSW_STAT_STATE : Fld := ⟨124, 60, 4, .ro, .const 0, false, none, false⟩
abbrev LSW_STAT_I_MA : Fld := ⟨124, 44, 16, .ro, .const 0, false, none, false⟩
abbrev LSW_STAT_I_FINE : Fld := ⟨124, 34, 10, .ro, .const 0, false, none, false⟩
abbrev LSW_STAT_TJ : Fld := ⟨124, 26, 8, .ro, .const 0, false, none, false⟩
abbrev LSW_STAT_RETRIES_LEFT : Fld := ⟨124, 22, 4, .ro, .const 0, false, none, false⟩
abbrev LSW_STAT_OPEN_ON : Fld := ⟨124, 21, 1, .ro, .const 0, false, none, false⟩
abbrev LSW_STAT_OPEN_OFF : Fld := ⟨124, 20, 1, .ro, .const 0, false, none, false⟩
abbrev LSW_STAT_LATCH_OC : Fld := ⟨124, 19, 1, .ro, .const 0, false, none, false⟩
abbrev LSW_STAT_LATCH_TH : Fld := ⟨124, 18, 1, .ro, .const 0, false, none, false⟩
abbrev LSW_STAT_BUDGET_OFF : Fld := ⟨124, 17, 1, .ro, .const 0, false, none, false⟩
abbrev LSW_STAT_SAFE_HELD : Fld := ⟨124, 16, 1, .ro, .const 0, false, none, false⟩
abbrev LSW_STAT_TRIPS : Fld := ⟨124, 8, 8, .rc, .const 0, false, none, false⟩

/-! LSW.BANK[b] (14_load_switches.md) -/
abbrev LSW_BANK_PWM_HZ : Fld := ⟨125, 49, 15, .rws, .const 1000, false, (some (100, 20000)), false⟩
abbrev LSW_BANK_VLS_MV : Fld := ⟨125, 33, 16, .ro, .const 0, false, none, false⟩
abbrev LSW_BANK_I_MA : Fld := ⟨125, 17, 16, .ro, .const 0, false, none, false⟩
abbrev LSW_BANK_UV : Fld := ⟨125, 16, 1, .ro, .const 0, false, none, false⟩
abbrev LSW_BANK_SHED : Fld := ⟨125, 8, 8, .rc, .const 0, false, none, false⟩

/-! LSW.TOTAL (14_load_switches.md) -/
abbrev LSW_TOTAL_I_MA : Fld := ⟨126, 16, 16, .ro, .const 0, false, none, false⟩
abbrev LSW_TOTAL_P_MW : Fld := ⟨126, 0, 16, .ro, .const 0, false, none, false⟩

/-! LSW.QUAD[q] (14_load_switches.md) -/
abbrev LSW_QUAD_T : Fld := ⟨127, 24, 8, .ro, .const 0, false, none, false⟩
abbrev LSW_QUAD_HOT : Fld := ⟨127, 23, 1, .ro, .const 0, false, none, false⟩
abbrev LSW_QUAD_TRIPS : Fld := ⟨127, 0, 16, .rc, .const 0, false, none, false⟩

/-! UPD.CFG (15_update.md) -/
abbrev UPD_CFG_TRELLIS_FETCH : Fld := ⟨128, 31, 1, .rws, .const 0, false, none, false⟩
abbrev UPD_CFG_AUTO_CONFIRM : Fld := ⟨128, 30, 1, .rws, .const 0, false, none, false⟩
abbrev UPD_CFG_CONFIRM_MIN : Fld := ⟨128, 26, 4, .rws, .const 10, false, (some (1, 14)), false⟩
abbrev UPD_CFG_LEGAL_SEAL_REQ : Fld := ⟨128, 25, 1, .rwl, .const 0, false, none, false⟩
abbrev UPD_CFG_IDLE_WAIT_H : Fld := ⟨128, 17, 8, .rws, .const 24, false, (some (1, 255)), false⟩

/-! UPD.POLICY (15_update.md) -/
abbrev UPD_POLICY_OWNER_COSIGN : Fld := ⟨129, 31, 1, .ro, .const 0, false, none, false⟩

/-! UPD.STAT (15_update.md) -/
abbrev UPD_STAT_HOLDER : Fld := ⟨130, 96, 32, .ro, .const 0, false, none, false⟩
abbrev UPD_STAT_RECEIVED : Fld := ⟨130, 64, 32, .ro, .const 0, false, none, false⟩
abbrev UPD_STAT_TOTAL : Fld := ⟨130, 32, 32, .ro, .const 0, false, none, false⟩
abbrev UPD_STAT_STATE : Fld := ⟨130, 28, 4, .ro, .const 0, false, none, false⟩
abbrev UPD_STAT_LAST_STATUS : Fld := ⟨130, 12, 16, .ro, .const 0, false, none, false⟩
abbrev UPD_STAT_IDLE_MIN : Fld := ⟨130, 0, 12, .ro, .const 0, false, none, false⟩

/-! UPD.BOOT (15_update.md) -/
abbrev UPD_BOOT_ACTIVE_GEN : Fld := ⟨131, 96, 32, .ro, .const 0, false, none, false⟩
abbrev UPD_BOOT_FLOOR : Fld := ⟨131, 64, 32, .ro, .const 0, false, none, false⟩
abbrev UPD_BOOT_PTR_GEN : Fld := ⟨131, 32, 32, .ro, .const 0, false, none, false⟩
abbrev UPD_BOOT_ACTIVE_SLOT : Fld := ⟨131, 31, 1, .ro, .const 0, false, none, false⟩
abbrev UPD_BOOT_BOOT_STATE : Fld := ⟨131, 29, 2, .ro, .const 0, false, none, false⟩
abbrev UPD_BOOT_TRIAL_STARTS : Fld := ⟨131, 27, 2, .ro, .const 0, false, none, false⟩
abbrev UPD_BOOT_TRIAL_S : Fld := ⟨131, 16, 11, .ro, .const 0, false, none, false⟩
abbrev UPD_BOOT_SETTINGS_VER : Fld := ⟨131, 0, 16, .ro, .const 0, false, none, false⟩

/-! TWIN.CFG (16_twin_standby.md) -/
abbrev TWIN_CFG_EN : Fld := ⟨132, 31, 1, .rws, .const 0, false, none, false⟩
abbrev TWIN_CFG_PREFER : Fld := ⟨132, 30, 1, .rws, .const 0, false, none, false⟩
abbrev TWIN_CFG_GIVEUP_MASK : Fld := ⟨132, 23, 7, .rws, .const 127, false, none, false⟩

/-! TWIN.STAT (16_twin_standby.md) -/
abbrev TWIN_STAT_PEER_SERIAL : Fld := ⟨133, 64, 64, .ro, .const 0, false, none, false⟩
abbrev TWIN_STAT_ROLE : Fld := ⟨133, 60, 4, .ro, .const 0, false, none, false⟩
abbrev TWIN_STAT_PEER_ROLE : Fld := ⟨133, 56, 4, .ro, .const 0, false, none, false⟩
abbrev TWIN_STAT_PEER_READY : Fld := ⟨133, 55, 1, .ro, .const 0, false, none, false⟩
abbrev TWIN_STAT_READY : Fld := ⟨133, 54, 1, .ro, .const 0, false, none, false⟩
abbrev TWIN_STAT_LAST_CAUSE : Fld := ⟨133, 48, 6, .ro, .const 0, false, none, false⟩
abbrev TWIN_STAT_TAKEOVERS : Fld := ⟨133, 32, 16, .ro, .const 0, false, none, false⟩
abbrev TWIN_STAT_COPY_MISS : Fld := ⟨133, 16, 16, .rc, .const 0, false, none, false⟩
abbrev TWIN_STAT_COPY_KIB : Fld := ⟨133, 0, 16, .ro, .const 0, false, none, false⟩

/-! TWIN.LINK (16_twin_standby.md) -/
abbrev TWIN_LINK_UP : Fld := ⟨134, 31, 1, .ro, .const 0, false, none, false⟩
abbrev TWIN_LINK_LANES : Fld := ⟨134, 29, 2, .ro, .const 0, false, none, false⟩
abbrev TWIN_LINK_CRC_ERR : Fld := ⟨134, 8, 8, .rc, .const 0, false, none, false⟩
abbrev TWIN_LINK_RETRAIN : Fld := ⟨134, 0, 8, .rc, .const 0, false, none, false⟩

/-! TWIN.MTB_OFS (16_twin_standby.md) -/
abbrev TWIN_MTB_OFS_OFFSET : Fld := ⟨135, 0, 64, .ro, .const 0, false, none, false⟩

/-! PWR.CFG (17_power_clocks_startup.md) -/
abbrev PWR_CFG_VFAIL : Fld := ⟨136, 22, 10, .rws, .const 78, false, (some (70, 600)), true⟩
abbrev PWR_CFG_HYST : Fld := ⟨136, 16, 6, .rws, .const 2, false, (some (2, 50)), false⟩
abbrev PWR_CFG_TEMP_WARN : Fld := ⟨136, 8, 8, .rws, .const 105, false, (some (90, 115)), false⟩

/-! PWR.STAT (17_power_clocks_startup.md) -/
abbrev PWR_STAT_VIN_10MV : Fld := ⟨137, 48, 16, .ro, .const 0, false, none, false⟩
abbrev PWR_STAT_RESTART_CAUSE : Fld := ⟨137, 40, 8, .ro, .const 0, false, none, false⟩
abbrev PWR_STAT_MODE : Fld := ⟨137, 36, 4, .ro, .const 0, false, none, false⟩
abbrev PWR_STAT_MTB_HOLDOVER : Fld := ⟨137, 35, 1, .ro, .const 0, false, none, false⟩
abbrev PWR_STAT_THROTTLE : Fld := ⟨137, 34, 1, .ro, .const 0, false, none, false⟩
abbrev PWR_STAT_SHUT : Fld := ⟨137, 33, 1, .ro, .const 0, false, none, false⟩
abbrev PWR_STAT_VBAT_LOW : Fld := ⟨137, 32, 1, .ro, .const 0, false, none, false⟩
abbrev PWR_STAT_VBAT_MV : Fld := ⟨137, 16, 16, .ro, .const 0, false, none, false⟩

/-! PWR.CLK (17_power_clocks_startup.md) -/
abbrev PWR_CLK_XTAL49_OK : Fld := ⟨138, 31, 1, .ro, .const 0, false, none, false⟩
abbrev PWR_CLK_XTAL25_OK : Fld := ⟨138, 30, 1, .ro, .const 0, false, none, false⟩
abbrev PWR_CLK_XTAL32_OK : Fld := ⟨138, 29, 1, .ro, .const 0, false, none, false⟩
abbrev PWR_CLK_REFCLK_OK : Fld := ⟨138, 28, 1, .ro, .const 0, false, none, false⟩
abbrev PWR_CLK_RTC_FALLBACK : Fld := ⟨138, 27, 1, .ro, .const 0, false, none, false⟩
abbrev PWR_CLK_XTAL49_FAILS : Fld := ⟨138, 16, 8, .rc, .const 0, false, none, false⟩
abbrev PWR_CLK_XTAL32_FAILS : Fld := ⟨138, 8, 8, .rc, .const 0, false, none, false⟩

/-! PWR.RTC (17_power_clocks_startup.md) -/
abbrev PWR_RTC_TRIM : Fld := ⟨139, 20, 12, .rwl, .const 0, false, none, false⟩

/-! PWR.TAMPER[k] (17_power_clocks_startup.md) -/
abbrev PWR_TAMPER_EN : Fld := ⟨140, 31, 1, .rws, .const 0, false, none, true⟩
abbrev PWR_TAMPER_POL : Fld := ⟨140, 30, 1, .rws, .const 0, false, none, true⟩
abbrev PWR_TAMPER_FILT : Fld := ⟨140, 27, 3, .rws, .const 2, false, (some (1, 7)), true⟩
abbrev PWR_TAMPER_ACTIVE : Fld := ⟨140, 26, 1, .ro, .const 0, false, none, false⟩
abbrev PWR_TAMPER_VBAT_COUNT : Fld := ⟨140, 0, 16, .ro, .const 0, false, none, false⟩

/-! PWR.TEMP[s] (17_power_clocks_startup.md) -/
abbrev PWR_TEMP_T : Fld := ⟨141, 24, 8, .ro, .const 0, false, none, false⟩
abbrev PWR_TEMP_T_MAX : Fld := ⟨141, 16, 8, .ro, .const 0, false, none, false⟩
abbrev PWR_TEMP_LEVEL : Fld := ⟨141, 14, 2, .ro, .const 0, false, none, false⟩

/-! PWR.RAIL[r] (17_power_clocks_startup.md) -/
abbrev PWR_RAIL_V_10MV : Fld := ⟨142, 16, 16, .ro, .const 0, false, none, false⟩
abbrev PWR_RAIL_UV : Fld := ⟨142, 15, 1, .ro, .const 0, false, none, false⟩
abbrev PWR_RAIL_OV : Fld := ⟨142, 14, 1, .ro, .const 0, false, none, false⟩
abbrev PWR_RAIL_EVENTS : Fld := ⟨142, 6, 8, .rc, .const 0, false, none, false⟩

/-! PWR.DIE_ID[d] (17_power_clocks_startup.md) -/
abbrev PWR_DIE_ID_LOT : Fld := ⟨143, 64, 64, .ro, .const 0, false, none, false⟩
abbrev PWR_DIE_ID_WAFER : Fld := ⟨143, 56, 8, .ro, .const 0, false, none, false⟩
abbrev PWR_DIE_ID_X : Fld := ⟨143, 48, 8, .ro, .const 0, false, none, false⟩
abbrev PWR_DIE_ID_Y : Fld := ⟨143, 40, 8, .ro, .const 0, false, none, false⟩

/-! PWR.MODULE_ID (17_power_clocks_startup.md) -/
abbrev PWR_MODULE_ID_SERIAL : Fld := ⟨144, 64, 64, .ro, .const 0, false, none, false⟩
abbrev PWR_MODULE_ID_ASSY_LOT : Fld := ⟨144, 0, 64, .ro, .const 0, false, none, false⟩

end R

open R in
/-- The register families of block GLOBAL (R508). -/
def regsGlobal : List RegDef := [
  ⟨1, "GLOBAL.ID", 0x0, 1, 0, 1, 0, 1, 0, 64, [GLOBAL_ID_VENDOR, GLOBAL_ID_DEVICE, GLOBAL_ID_STEPPING, GLOBAL_ID_MAP_VER]⟩,
  ⟨2, "GLOBAL.SETUP_LOCK", 0x10, 1, 0, 1, 0, 1, 0, 32, [GLOBAL_SETUP_LOCK_SAVED, GLOBAL_SETUP_LOCK_LOCK]⟩,
  ⟨3, "GLOBAL.STATUS", 0x20, 1, 0, 1, 0, 1, 0, 32, [GLOBAL_STATUS_HOST_READY, GLOBAL_STATUS_METER_LIVE, GLOBAL_STATUS_SAFE_OK, GLOBAL_STATUS_LOCKED, GLOBAL_STATUS_KEY_MODE, GLOBAL_STATUS_BOOT_STATE, GLOBAL_STATUS_TWIN_ROLE, GLOBAL_STATUS_EPOCH]⟩,
  ⟨4, "GLOBAL.ALERT", 0x30, 1, 0, 1, 0, 1, 0, 32, [GLOBAL_ALERT_LINK_TIMEOUT, GLOBAL_ALERT_TEMP, GLOBAL_ALERT_NOTIF_LOST, GLOBAL_ALERT_JOURNAL_LOST, GLOBAL_ALERT_WR_REFUSED, GLOBAL_ALERT_PART_VIOL, GLOBAL_ALERT_SAFE_CHANGE, GLOBAL_ALERT_DEVICE_START]⟩,
  ⟨5, "GLOBAL.ALERT_EN", 0x34, 1, 0, 1, 0, 1, 0, 32, [GLOBAL_ALERT_EN_VECTOR, GLOBAL_ALERT_EN_EN]⟩,
  ⟨6, "GLOBAL.WR_REFUSED", 0x40, 1, 0, 1, 0, 1, 0, 64, [GLOBAL_WR_REFUSED_LAST_OFFSET, GLOBAL_WR_REFUSED_LAST_REASON, GLOBAL_WR_REFUSED_COUNT]⟩,
  ⟨7, "GLOBAL.MTB_NOW", 0x200, 1, 0, 1, 0, 1, 0, 64, [GLOBAL_MTB_NOW_MTB]⟩,
  ⟨8, "GLOBAL.MTB_UTC", 0x208, 1, 0, 1, 0, 1, 0, 128, [GLOBAL_MTB_UTC_MTB_AT_SEC, GLOBAL_MTB_UTC_UTC_SEC, GLOBAL_MTB_UTC_RTC_VALID]⟩,
  ⟨9, "GLOBAL.ISLAND_STAT(i)", 0x220, 14, 4, 1, 0, 1, 0, 32, [GLOBAL_ISLAND_STAT_READY, GLOBAL_ISLAND_STAT_CLK_OK, GLOBAL_ISLAND_STAT_ASLEEP, GLOBAL_ISLAND_STAT_PART, GLOBAL_ISLAND_STAT_OVR, GLOBAL_ISLAND_STAT_LINK_ERR, GLOBAL_ISLAND_STAT_PROC_MON]⟩,
  ⟨10, "GLOBAL.PART_VIOL", 0x260, 1, 0, 1, 0, 1, 0, 32, [GLOBAL_PART_VIOL_LAST_SRC, GLOBAL_PART_VIOL_LAST_DST, GLOBAL_PART_VIOL_COUNT]⟩]

open R in
/-- The register families of block HOST (R508). -/
def regsHost : List RegDef := [
  ⟨11, "HOST.CTRL", 0x10000, 1, 0, 1, 0, 1, 0, 32, [HOST_CTRL_DETACHED, HOST_CTRL_POLL_US, HOST_CTRL_KICK_EN, HOST_CTRL_EN]⟩,
  ⟨12, "HOST.DB_BASE", 0x10010, 1, 0, 1, 0, 1, 0, 64, [HOST_DB_BASE_ADDR]⟩,
  ⟨13, "HOST.STAT_BASE", 0x10018, 1, 0, 1, 0, 1, 0, 64, [HOST_STAT_BASE_ADDR]⟩,
  ⟨14, "HOST.NOTIF_DATA", 0x10020, 1, 0, 1, 0, 1, 0, 64, [HOST_NOTIF_DATA_WORD]⟩,
  ⟨15, "HOST.NOTIF_STAT", 0x10028, 1, 0, 1, 0, 1, 0, 32, [HOST_NOTIF_STAT_LOST, HOST_NOTIF_STAT_CORR, HOST_NOTIF_STAT_UNCORR]⟩,
  ⟨16, "HOST.CREDIT", 0x10030, 1, 0, 1, 0, 1, 0, 32, [HOST_CREDIT_STOP_INFL, HOST_CREDIT_FREE]⟩,
  ⟨17, "HOST.CMDR(i)", 0x10100, 16, 16, 1, 0, 1, 0, 128, [HOST_CMDR_BASE, HOST_CMDR_ERR, HOST_CMDR_SIZE_LOG2, HOST_CMDR_PRIO, HOST_CMDR_CQ, HOST_CMDR_RESUME, HOST_CMDR_EN, HOST_CMDR_START_SEQ]⟩,
  ⟨18, "HOST.CPLR(i)", 0x10200, 16, 16, 1, 0, 1, 0, 128, [HOST_CPLR_BASE, HOST_CPLR_SIZE_LOG2, HOST_CPLR_VECTOR, HOST_CPLR_COAL_CNT, HOST_CPLR_COAL_US, HOST_CPLR_ERR, HOST_CPLR_EN]⟩,
  ⟨19, "HOST.EVR(j)", 0x10300, 8, 16, 1, 0, 1, 0, 128, [HOST_EVR_BASE, HOST_EVR_SRC_MASK, HOST_EVR_SIZE_LOG2, HOST_EVR_VECTOR, HOST_EVR_COAL_CNT, HOST_EVR_COAL_US, HOST_EVR_ERR, HOST_EVR_EN]⟩,
  ⟨20, "HOST.STR(j)", 0x10380, 8, 16, 1, 0, 1, 0, 128, [HOST_STR_BASE, HOST_STR_SOURCES, HOST_STR_SIZE_LOG2, HOST_STR_VECTOR, HOST_STR_ERR, HOST_STR_EN]⟩,
  ⟨21, "HOST.SYNC(i)", 0x10400, 16, 8, 1, 0, 1, 0, 64, [HOST_SYNC_LAST_FETCHED, HOST_SYNC_LAST_COMPLETED]⟩,
  ⟨22, "HOST.SYNC_GLOBAL", 0x10480, 1, 0, 1, 0, 1, 0, 128, [HOST_SYNC_GLOBAL_DEV_SEQ_HIGH, HOST_SYNC_GLOBAL_JOURNAL_LOW, HOST_SYNC_GLOBAL_EPOCH, HOST_SYNC_GLOBAL_JRN_LOST, HOST_SYNC_GLOBAL_FIRST_SEQ]⟩]

open R in
/-- The register families of block CASK (R508). -/
def regsCask : List RegDef := [
  ⟨23, "CASK.CFG", 0x20000, 1, 0, 1, 0, 1, 0, 32, [CASK_CFG_LEAD_US, CASK_CFG_ZC_SRC, CASK_CFG_ZC_EDGE, CASK_CFG_SYNC_EDGE, CASK_CFG_OPEN_TO_MS]⟩,
  ⟨24, "CASK.CFG2", 0x20004, 1, 0, 1, 0, 1, 0, 32, [CASK_CFG2_ZC_OFFSET_US, CASK_CFG2_SYNC_TO_MS]⟩,
  ⟨25, "CASK.STAT", 0x20080, 1, 0, 1, 0, 1, 0, 32, [CASK_STAT_COMMITTED, CASK_STAT_ABORTED, CASK_STAT_LATE]⟩,
  ⟨26, "CASK.SLOT(k)", 0x20100, 8, 16, 1, 0, 1, 0, 128, [CASK_SLOT_T_MTB, CASK_SLOT_ID, CASK_SLOT_STATE, CASK_SLOT_N_ACT, CASK_SLOT_MODE, CASK_SLOT_LAST_STATUS, CASK_SLOT_RING]⟩]

open R in
/-- The register families of block AFE (R508). -/
def regsAfe : List RegDef := [
  ⟨27, "AFE.MOD_CFG(c)", 0x40000, 48, 4, 1, 0, 1, 0, 32, [AFE_MOD_CFG_EN, AFE_MOD_CFG_SENSOR, AFE_MOD_CFG_PGA]⟩,
  ⟨28, "AFE.MCLK_CFG(m)", 0x400C0, 4, 4, 1, 0, 1, 0, 32, [AFE_MCLK_CFG_EN, AFE_MCLK_CFG_DIV]⟩,
  ⟨29, "AFE.MBS_CFG(j)", 0x40100, 16, 4, 1, 0, 1, 0, 32, [AFE_MBS_CFG_EN, AFE_MBS_CFG_MCLK, AFE_MBS_CFG_EDGE, AFE_MBS_CFG_CAPTURE_DLY, AFE_MBS_CFG_SKEW_NS]⟩,
  ⟨30, "AFE.CH_STAT(c)", 0x40200, 64, 4, 1, 0, 1, 0, 32, [AFE_CH_STAT_PRESENT, AFE_CH_STAT_OVL_NOW, AFE_CH_STAT_LOST, AFE_CH_STAT_OVL_CNT, AFE_CH_STAT_EYE_ERR, AFE_CH_STAT_RESETS]⟩,
  ⟨31, "AFE.RCM_CFG(n)", 0x40400, 8, 8, 1, 0, 1, 0, 64, [AFE_RCM_CFG_SENS_UV_MA, AFE_RCM_CFG_TEST_TURNS, AFE_RCM_CFG_VALID_MV]⟩,
  ⟨32, "AFE.RCM_RAW(n)", 0x40440, 8, 4, 1, 0, 1, 0, 32, [AFE_RCM_RAW_RAW, AFE_RCM_RAW_VALID, AFE_RCM_RAW_TEST_ON]⟩,
  ⟨33, "AFE.PADC(p)", 0x40500, 11, 4, 1, 0, 1, 0, 32, [AFE_PADC_EN, AFE_PADC_CAPTURE, AFE_PADC_OVR_CNT]⟩,
  ⟨34, "AFE.AUX_IN(i)", 0x40800, 64, 4, 1, 0, 1, 0, 32, [AFE_AUX_IN_EN, AFE_AUX_IN_DIFF, AFE_AUX_IN_EXC]⟩,
  ⟨35, "AFE.AUX_CAL(i)", 0x41000, 64, 32, 1, 0, 1, 0, 256, [AFE_AUX_CAL_Z_P, AFE_AUX_CAL_G_P, AFE_AUX_CAL_Y0_P, AFE_AUX_CAL_Z_C, AFE_AUX_CAL_G_C, AFE_AUX_CAL_Y0_C, AFE_AUX_CAL_CAL_UTC, AFE_AUX_CAL_CAL_C, AFE_AUX_CAL_CAL_P]⟩,
  ⟨36, "AFE.SEQ_CTL(s)", 0x42000, 4, 512, 1, 0, 1, 0, 64, [AFE_SEQ_CTL_EN, AFE_SEQ_CTL_LEN, AFE_SEQ_CTL_CONV, AFE_SEQ_CTL_INT_MODE, AFE_SEQ_CTL_INT_MP, AFE_SEQ_CTL_PERIOD_US]⟩,
  ⟨37, "AFE.SEQ_ENT(s)(e)", 0x42100, 4, 512, 64, 4, 1, 0, 32, [AFE_SEQ_ENT_INPUT, AFE_SEQ_ENT_SETTLE, AFE_SEQ_ENT_AVG_LOG2]⟩,
  ⟨38, "AFE.AUX_RES(i)", 0x43000, 64, 8, 1, 0, 1, 0, 64, [AFE_AUX_RES_VALUE, AFE_AUX_RES_CODE, AFE_AUX_RES_OVR, AFE_AUX_RES_FIXED_T, AFE_AUX_RES_TRACK_LOST, AFE_AUX_RES_CONV, AFE_AUX_RES_AGE]⟩,
  ⟨39, "AFE.SCAN_STAT", 0x43200, 1, 0, 1, 0, 1, 0, 32, [AFE_SCAN_STAT_LATE_CNT, AFE_SCAN_STAT_AUX_OVR, AFE_SCAN_STAT_FALLBACKS, AFE_SCAN_STAT_ACTIVE]⟩]

open R in
/-- The register families of block FILT (R508). -/
def regsFilt : List RegDef := [
  ⟨40, "FILT(c).CFG", 0x60000, 64, 512, 1, 0, 1, 0, 32, [FILT_CFG_RS_MODE, FILT_CFG_TRK, FILT_CFG_SHIFT0, FILT_CFG_SHIFT1, FILT_CFG_SHIFT2, FILT_CFG_SHIFT3]⟩,
  ⟨41, "FILT(c).BANK(b)", 0x60010, 64, 512, 2, 16, 1, 0, 128, [FILT_BANK_GAIN, FILT_BANK_OFFSET, FILT_BANK_TRIM]⟩,
  ⟨42, "FILT(c).STAT", 0x60040, 64, 512, 1, 0, 1, 0, 32, [FILT_STAT_PRESENT, FILT_STAT_ACTIVE_BANK, FILT_STAT_BLENDING, FILT_STAT_SETTLING, FILT_STAT_OVF_STAGE, FILT_STAT_OVF_CNT]⟩,
  ⟨43, "FILT(c).GD", 0x60048, 64, 512, 1, 0, 1, 0, 64, [FILT_GD_TAP_GD, FILT_GD_TOTAL_GD]⟩,
  ⟨44, "FILT.TRK(m).CFG", 0x68000, 12, 64, 1, 0, 1, 0, 32, [FILT_TRK_CFG_EN, FILT_TRK_CFG_FNOM, FILT_TRK_CFG_SRC_CH, FILT_TRK_CFG_MIN_PCT]⟩,
  ⟨45, "FILT.TRK(m).STAT", 0x68008, 12, 64, 1, 0, 1, 0, 64, [FILT_TRK_STAT_FREQ_UHZ, FILT_TRK_STAT_STATE, FILT_TRK_STAT_UNLOCKS, FILT_TRK_STAT_AMP]⟩,
  ⟨46, "FILT.TRK(m).ZC", 0x68010, 12, 64, 1, 0, 1, 0, 64, [FILT_TRK_ZC_START]⟩,
  ⟨47, "FILT.TRK(m).NEXT", 0x68018, 12, 64, 1, 0, 1, 0, 64, [FILT_TRK_NEXT_START]⟩,
  ⟨48, "FILT.TRK(m).PER", 0x68020, 12, 64, 1, 0, 1, 0, 32, [FILT_TRK_PER_PERIOD_NS]⟩,
  ⟨49, "FILT.BLEND", 0x69000, 1, 0, 1, 0, 1, 0, 32, [FILT_BLEND_BLEND_MS]⟩]

open R in
/-- The register families of block MET (R508). -/
def regsMet : List RegDef := [
  ⟨50, "MET(m).CFG", 0x80000, 12, 4096, 1, 0, 1, 0, 32, [MET_CFG_EN, MET_CFG_TYPE, MET_CFG_NET_MODE, MET_CFG_CLASSIFY, MET_CFG_HARM_EN, MET_CFG_FLOW_CYC, MET_CFG_STATE]⟩,
  ⟨51, "MET(m).MAP", 0x80008, 12, 4096, 1, 0, 1, 0, 64, [MET_MAP_V1, MET_MAP_V2, MET_MAP_V3, MET_MAP_I1, MET_MAP_I2, MET_MAP_I3, MET_MAP_IN]⟩,
  ⟨52, "MET(m).RATING", 0x80010, 12, 4096, 1, 0, 1, 0, 64, [MET_RATING_UNOM, MET_RATING_IMAX, MET_RATING_ISTART_PPM]⟩,
  ⟨53, "MET(m).SCALE", 0x80018, 12, 4096, 1, 0, 1, 0, 64, [MET_SCALE_KV, MET_SCALE_KI]⟩,
  ⟨54, "MET(m).PQ_CFG", 0x80020, 12, 4096, 1, 0, 1, 0, 32, [MET_PQ_CFG_DIP_PCT, MET_PQ_CFG_SWELL_PCT, MET_PQ_CFG_INT_PCT, MET_PQ_CFG_HYST_PCT]⟩,
  ⟨55, "MET(m).PHASE(p)", 0x80040, 12, 4096, 3, 32, 1, 0, 256, [MET_PHASE_URMS, MET_PHASE_IRMS, MET_PHASE_P, MET_PHASE_Q, MET_PHASE_S, MET_PHASE_PF, MET_PHASE_COS_PHI1, MET_PHASE_ANGLE_UI, MET_PHASE_ANGLE_U]⟩,
  ⟨56, "MET(m).TOTAL", 0x800A0, 12, 4096, 1, 0, 1, 0, 256, [MET_TOTAL_P, MET_TOTAL_Q, MET_TOTAL_S, MET_TOTAL_PF, MET_TOTAL_FREQ_1S, MET_TOTAL_FREQ_10S, MET_TOTAL_IN_RMS, MET_TOTAL_QF]⟩,
  ⟨57, "MET(m).ENERGY(k)", 0x80100, 12, 4096, 10, 8, 1, 0, 64, [MET_ENERGY_COUNT]⟩,
  ⟨58, "MET(m).SESS", 0x80180, 12, 4096, 1, 0, 1, 0, 256, [MET_SESS_SESSION_ID, MET_SESS_OPEN, MET_SESS_CLOSED_PENDING, MET_SESS_T_OPEN, MET_SESS_A_IMP, MET_SESS_A_EXP]⟩,
  ⟨59, "MET(m).QUAL", 0x801A0, 12, 4096, 1, 0, 1, 0, 128, [MET_QUAL_INVALID_S, MET_QUAL_ABSENT_S, MET_QUAL_HOLDOVER_S, MET_QUAL_FREE_RUN_S]⟩,
  ⟨60, "MET(m).PQ_STAT", 0x801C0, 12, 4096, 1, 0, 1, 0, 64, [MET_PQ_STAT_DIPS, MET_PQ_STAT_SWELLS, MET_PQ_STAT_INTERRUPTS, MET_PQ_STAT_ACTIVE]⟩,
  ⟨61, "MET(m).HARM(p)(h)", 0x80400, 12, 4096, 3, 1024, 64, 16, 128, [MET_HARM_U_SG, MET_HARM_I_SG, MET_HARM_U_ISG, MET_HARM_I_ISG]⟩,
  ⟨62, "MET.PULSE(k)", 0x8C000, 8, 16, 1, 0, 1, 0, 64, [MET_PULSE_EN, MET_PULSE_MP, MET_PULSE_QTY, MET_PULSE_CONST, MET_PULSE_WIDTH_MS, MET_PULSE_BACKLOG]⟩,
  ⟨63, "MET.TC(c)", 0x8D000, 64, 16, 1, 0, 1, 0, 128, [MET_TC_ALPHA, MET_TC_BETA, MET_TC_TRIM_K, MET_TC_T0]⟩,
  ⟨64, "MET.TC_CTL", 0x8D400, 1, 0, 1, 0, 1, 0, 32, [MET_TC_CTL_EN, MET_TC_CTL_STEP, MET_TC_CTL_T_APPLIED]⟩]

open R in
/-- The register families of block LEDGER (R508). -/
def regsLedger : List RegDef := [
  ⟨65, "LEDGER.CFG", 0xA0000, 1, 0, 1, 0, 1, 0, 64, [LEDGER_CFG_COMMIT_100MS, LEDGER_CFG_SIG_ALG, LEDGER_CFG_TARIFF_DEFAULT, LEDGER_CFG_HOST_TARIFF, LEDGER_CFG_CAL_SIGNED, LEDGER_CFG_TIME_STEP_MAX_S]⟩,
  ⟨66, "LEDGER.DEMAND_CFG", 0xA0008, 1, 0, 1, 0, 1, 0, 32, [LEDGER_DEMAND_CFG_DEM_MIN, LEDGER_DEMAND_CFG_SLIDING, LEDGER_DEMAND_CFG_SUB_N, LEDGER_DEMAND_CFG_SYNC_EN, LEDGER_DEMAND_CFG_SYNC_WIN_S, LEDGER_DEMAND_CFG_SYNC_EDGE]⟩,
  ⟨67, "LEDGER.BILL_CFG", 0xA0010, 1, 0, 1, 0, 1, 0, 32, [LEDGER_BILL_CFG_BILL_DAY, LEDGER_BILL_CFG_BILL_HOUR, LEDGER_BILL_CFG_CMD_CLOSE, LEDGER_BILL_CFG_MIN_GAP_H]⟩,
  ⟨68, "LEDGER.TIME", 0xA0020, 1, 0, 1, 0, 1, 0, 128, [LEDGER_TIME_WALL_S, LEDGER_TIME_WALL_MS, LEDGER_TIME_LEDGER_S, LEDGER_TIME_LEDGER_MS, LEDGER_TIME_CLOCK_VALID]⟩,
  ⟨69, "LEDGER.STAT", 0xA0030, 1, 0, 1, 0, 1, 0, 128, [LEDGER_STAT_LAST_SEQ, LEDGER_STAT_COMMIT_FAIL, LEDGER_STAT_OVERWRITTEN, LEDGER_STAT_POSSIBLE_LOSS, LEDGER_STAT_LAST_POUR_OK, LEDGER_STAT_CAL_OPEN, LEDGER_STAT_SEAL, LEDGER_STAT_BILL_SETS, LEDGER_STAT_UNSIGNED]⟩,
  ⟨70, "LEDGER.LASTPOUR", 0xA0040, 1, 0, 1, 0, 1, 0, 128, [LEDGER_LASTPOUR_L_MTB, LEDGER_LASTPOUR_L_UTC, LEDGER_LASTPOUR_DURATION_US, LEDGER_LASTPOUR_RUN_100US]⟩,
  ⟨71, "LEDGER.EST(m)", 0xA0100, 12, 16, 1, 0, 1, 0, 128, [LEDGER_EST_EST_UWH, LEDGER_EST_LOSS_BOUND_WH, LEDGER_EST_EST_VALID, LEDGER_EST_EST_EXPORT, LEDGER_EST_EST_CAPPED, LEDGER_EST_LOSS]⟩,
  ⟨72, "LEDGER.TOU(m)(t)", 0xA1000, 12, 1024, 16, 64, 1, 0, 384, [LEDGER_TOU_A_IMP, LEDGER_TOU_A_EXP, LEDGER_TOU_R_IMP, LEDGER_TOU_R_EXP, LEDGER_TOU_S_IMP, LEDGER_TOU_S_EXP]⟩,
  ⟨73, "LEDGER.DEMAND(m)", 0xA4000, 12, 64, 1, 0, 1, 0, 256, [LEDGER_DEMAND_LAST_IMP_W, LEDGER_DEMAND_LAST_EXP_W, LEDGER_DEMAND_LAST_RIMP_VAR, LEDGER_DEMAND_LAST_REXP_VAR, LEDGER_DEMAND_MAX_IMP_W, LEDGER_DEMAND_MAX_IMP_UTC, LEDGER_DEMAND_CUR_IMP_WH, LEDGER_DEMAND_ELAPSED_S, LEDGER_DEMAND_FLAGS]⟩,
  ⟨74, "LEDGER.TAMPER(t)", 0xA6000, 24, 16, 1, 0, 1, 0, 128, [LEDGER_TAMPER_COUNT, LEDGER_TAMPER_FIRST_UTC, LEDGER_TAMPER_LAST_UTC]⟩,
  ⟨75, "LEDGER.LEGAL_ID", 0xA7000, 1, 0, 1, 0, 1, 0, 256, [LEDGER_LEGAL_ID_SHA256]⟩]

open R in
/-- The register families of block OUT (R508). -/
def regsOut : List RegDef := [
  ⟨76, "OUT(n).CFG", 0xC0000, 8, 4096, 1, 0, 1, 0, 64, [OUT_CFG_TYPE, OUT_CFG_BIDIR, OUT_CFG_CTRL, OUT_CFG_PP_MODE, OUT_CFG_TETHERED, OUT_CFG_TAG_REQ, OUT_CFG_FREE_VEND, OUT_CFG_MP, OUT_CFG_RATED_A, OUT_CFG_CLASS, OUT_CFG_BASIC_FALLBACK, OUT_CFG_ZC_CLOSE, OUT_CFG_DIN_EN, OUT_CFG_ISO2_EN, OUT_CFG_ISO20_EN, OUT_CFG_EIM_EN, OUT_CFG_PNC_EN, OUT_CFG_TLS_REQ, OUT_CFG_PROTO_ORDER, OUT_CFG_DC_MIN, OUT_CFG_MAX]⟩,
  ⟨77, "OUT(n).DC_CFG", 0xC0008, 8, 4096, 1, 0, 1, 0, 32, [OUT_DC_CFG_BUS, OUT_DC_CFG_PM_COUNT, OUT_DC_CFG_PM_BASE, OUT_DC_CFG_VMAX, OUT_DC_CFG_IMAX]⟩,
  ⟨78, "OUT(n).STAT", 0xC0010, 8, 4096, 1, 0, 1, 0, 128, [OUT_STAT_SESSION_ID, OUT_STAT_STATE, OUT_STAT_AUTH_SRC, OUT_STAT_PROTO, OUT_STAT_DIR, OUT_STAT_DIODE_FAULT, OUT_STAT_PILOT, OUT_STAT_END_REASON, OUT_STAT_CABLE_A, OUT_STAT_PILOT_HIGH, OUT_STAT_PILOT_LOW, OUT_STAT_DUTY_PCT, OUT_STAT_ENERGY_WH]⟩,
  ⟨79, "OUT(n).ALLOC_STAT", 0xC0020, 8, 4096, 1, 0, 1, 0, 128, [OUT_ALLOC_STAT_ALLOC_W, OUT_ALLOC_STAT_ENF_W, OUT_ALLOC_STAT_MEAS_W, OUT_ALLOC_STAT_QUEUE_POS, OUT_ALLOC_STAT_LAST, OUT_ALLOC_STAT_WAIT_MIN]⟩,
  ⟨80, "OUT.SITE", 0xC8000, 1, 0, 1, 0, 1, 0, 192, [OUT_SITE_HW_LIMIT_W, OUT_SITE_HOST_LIMIT_W, OUT_SITE_TRELLIS_W, OUT_SITE_FALLBACK_W, OUT_SITE_EXPORT_W, OUT_SITE_EFFECTIVE_W]⟩,
  ⟨81, "OUT.POLICY", 0xC8020, 1, 0, 1, 0, 1, 0, 64, [OUT_POLICY_MAX_WAIT_MIN, OUT_POLICY_GRACE_S, OUT_POLICY_DC_RAMP, OUT_POLICY_TRELLIS_TO_S, OUT_POLICY_VNOM_2V, OUT_POLICY_FOLLOW_N, OUT_POLICY_MIN_RUN_S, OUT_POLICY_SLAC_MARGIN_DB, OUT_POLICY_VALIDATE_EN, OUT_POLICY_PNC_OCSP, OUT_POLICY_CREDIT_EXPORT, OUT_POLICY_FILT_PER, OUT_POLICY_AUTH_TO]⟩,
  ⟨82, "OUT.POLICY2", 0xC8028, 1, 0, 1, 0, 1, 0, 32, [OUT_POLICY2_PREAUTH_S]⟩]

open R in
/-- The register families of block PLC (R508). -/
def regsPlc : List RegDef := [
  ⟨83, "PLC(i).CFG", 0xE0000, 10, 2048, 1, 0, 1, 0, 64, [PLC_CFG_EN, PLC_CFG_MODE_MAX, PLC_CFG_TX_PSD, PLC_CFG_COUPLE, PLC_CFG_EDGE_BLANK, PLC_CFG_BLANK_THR, PLC_CFG_BLANK_EXT, PLC_CFG_ERASE_PCT]⟩,
  ⟨84, "PLC(i).TONEMASK(w)", 0xE0040, 10, 2048, 37, 4, 1, 0, 32, [PLC_TONEMASK_MASK]⟩,
  ⟨85, "PLC(i).STAT", 0xE0100, 10, 2048, 1, 0, 1, 0, 128, [PLC_STAT_RX_FRAMES, PLC_STAT_FEC_FAIL, PLC_STAT_BLANKED_SYM, PLC_STAT_ERASED_SYM, PLC_STAT_IMPULSES, PLC_STAT_AGC, PLC_STAT_LINK]⟩,
  ⟨86, "PLC.TRELLIS.CFG", 0xE8000, 1, 0, 1, 0, 1, 0, 64, [PLC_TRELLIS_CFG_EN, PLC_TRELLIS_CFG_ROLE, PLC_TRELLIS_CFG_NODE_ADDR, PLC_TRELLIS_CFG_SEGMENT, PLC_TRELLIS_CFG_ALIGN, PLC_TRELLIS_CFG_SYNC_EDGE, PLC_TRELLIS_CFG_ZC_MP, PLC_TRELLIS_CFG_SF_OFFSET, PLC_TRELLIS_CFG_MPLC1_DIV, PLC_TRELLIS_CFG_SERVE_IMAGES, PLC_TRELLIS_CFG_TIME_TOL_MS]⟩,
  ⟨87, "PLC.TRELLIS.STAT", 0xE8010, 1, 0, 1, 0, 1, 0, 128, [PLC_TRELLIS_STAT_SF_COUNT, PLC_TRELLIS_STAT_COORD, PLC_TRELLIS_STAT_NEIGHBOURS, PLC_TRELLIS_STAT_NODES, PLC_TRELLIS_STAT_STATE, PLC_TRELLIS_STAT_ADJ, PLC_TRELLIS_STAT_AUTH_DROP, PLC_TRELLIS_STAT_TX_DROPPED, PLC_TRELLIS_STAT_RETRIES, PLC_TRELLIS_STAT_REPEATER_CHG]⟩,
  ⟨88, "PLC.TRELLIS.LQ(k)", 0xE8100, 254, 16, 1, 0, 1, 0, 128, [PLC_TRELLIS_LQ_NEXT_HOP, PLC_TRELLIS_LQ_HOPS, PLC_TRELLIS_LQ_METRIC, PLC_TRELLIS_LQ_LINK_COST, PLC_TRELLIS_LQ_LINK_MODE, PLC_TRELLIS_LQ_FAIL32, PLC_TRELLIS_LQ_SNR, PLC_TRELLIS_LQ_COUPLE, PLC_TRELLIS_LQ_LAST_HEARD]⟩,
  ⟨89, "PLC.SYNC", 0xE9200, 1, 0, 1, 0, 1, 0, 128, [PLC_SYNC_LAST_MTB, PLC_SYNC_LAST_DIR, PLC_SYNC_EDGES, PLC_SYNC_GLITCHES]⟩]

open R in
/-- The register families of block SAFE (R508). -/
def regsSafe : List RegDef := [
  ⟨90, "SAFE.STATUS", 0x100000, 1, 0, 1, 0, 1, 0, 32, [SAFE_STATUS_SAFE_OK, SAFE_STATUS_A_RUN, SAFE_STATUS_B_RUN, SAFE_STATUS_TABLE_OK, SAFE_STATUS_SELFTEST_OK, SAFE_STATUS_SHUNT, SAFE_STATUS_OUT_FAULT, SAFE_STATUS_OUT_LATCH, SAFE_STATUS_MOD_LATCH]⟩,
  ⟨91, "SAFE.CFG", 0x100004, 1, 0, 1, 0, 1, 0, 32, [SAFE_CFG_TEST_PERIOD_S, SAFE_CFG_TEST_US, SAFE_CFG_MSTOP_AC, SAFE_CFG_MSTOP_DC]⟩,
  ⟨92, "SAFE.CFG2", 0x100008, 1, 0, 1, 0, 1, 0, 32, [SAFE_CFG2_IEND_AC, SAFE_CFG2_IEND_DC, SAFE_CFG2_OPEN_CHECK]⟩,
  ⟨93, "SAFE.OUT_PROT(n)", 0x100100, 8, 16, 1, 0, 1, 0, 64, [SAFE_OUT_PROT_WELD_V_AC, SAFE_OUT_PROT_WELD_V_DC, SAFE_OUT_PROT_RCM_SRC, SAFE_OUT_PROT_VLINK_AUX, SAFE_OUT_PROT_VLINK_EN, SAFE_OUT_PROT_SHUNT_EN, SAFE_OUT_PROT_SUPPLY_MP]⟩,
  ⟨94, "SAFE.COIL_CFG(k)", 0x100200, 16, 8, 1, 0, 1, 0, 64, [SAFE_COIL_CFG_EN, SAFE_COIL_CFG_OUTLET, SAFE_COIL_CFG_ROLE, SAFE_COIL_CFG_MIRROR_EN, SAFE_COIL_CFG_MIRROR_POL, SAFE_COIL_CFG_PULLIN_MA, SAFE_COIL_CFG_HOLD_MA, SAFE_COIL_CFG_PULLIN_MS]⟩,
  ⟨95, "SAFE.COIL_STAT(k)", 0x100300, 16, 8, 1, 0, 1, 0, 64, [SAFE_COIL_STAT_STATE, SAFE_COIL_STAT_HS_ON, SAFE_COIL_STAT_LS_ON, SAFE_COIL_STAT_MIRROR_OPEN, SAFE_COIL_STAT_I_MA, SAFE_COIL_STAT_LOAD_BREAKS, SAFE_COIL_STAT_TESTS_SKIPPED]⟩,
  ⟨96, "SAFE.RCM_STAT(n)", 0x100400, 8, 8, 1, 0, 1, 0, 64, [SAFE_RCM_STAT_DC, SAFE_RCM_STAT_AC, SAFE_RCM_STAT_OFFSET, SAFE_RCM_STAT_LAST_TRIP, SAFE_RCM_STAT_TRIPS_24H, SAFE_RCM_STAT_SELFTEST_OK]⟩,
  ⟨97, "SAFE.IMD", 0x100500, 1, 0, 1, 0, 1, 0, 64, [SAFE_IMD_EN, SAFE_IMD_OUTLET, SAFE_IMD_WARN_OHM_V, SAFE_IMD_FAULT_OHM_V, SAFE_IMD_INS_KOHM, SAFE_IMD_RESULT, SAFE_IMD_AGE]⟩,
  ⟨98, "SAFE.IN_CFG(m)", 0x100600, 8, 4, 1, 0, 1, 0, 32, [SAFE_IN_CFG_EN, SAFE_IN_CFG_ACTION, SAFE_IN_CFG_POL, SAFE_IN_CFG_OUTLETS, SAFE_IN_CFG_FILT_MS]⟩]

open R in
/-- The register families of block KEY (R508). -/
def regsKey : List RegDef := [
  ⟨99, "KEY.STATUS", 0x110000, 1, 0, 1, 0, 1, 0, 32, [KEY_STATUS_MODE, KEY_STATUS_ROOT_OK, KEY_STATUS_LEES_OK, KEY_STATUS_OWNER_SET, KEY_STATUS_ATTEST_CERT, KEY_STATUS_RIDDLE_LATE]⟩,
  ⟨100, "KEY.CFG", 0x110004, 1, 0, 1, 0, 1, 0, 32, [KEY_CFG_RIDDLE_MS, KEY_CFG_CRED_SIGNED]⟩,
  ⟨101, "KEY.PUF_STAT", 0x110008, 1, 0, 1, 0, 1, 0, 32, [KEY_PUF_STAT_BER, KEY_PUF_STAT_BER_MAX, KEY_PUF_STAT_ATTEMPTS]⟩,
  ⟨102, "KEY.CACHE", 0x110010, 1, 0, 1, 0, 1, 0, 64, [KEY_CACHE_USED, KEY_CACHE_PINNED, KEY_CACHE_NODES, KEY_CACHE_MISSES]⟩,
  ⟨103, "KEY.DRBG", 0x110018, 1, 0, 1, 0, 1, 0, 32, [KEY_DRBG_HEALTH_OK, KEY_DRBG_HEALTH_FAIL, KEY_DRBG_RESEEDS]⟩,
  ⟨104, "KEY.OWNER_CTR", 0x11001C, 1, 0, 1, 0, 1, 0, 32, [KEY_OWNER_CTR_CTR]⟩,
  ⟨105, "KEY.CRED_STAT", 0x110040, 1, 0, 1, 0, 1, 0, 128, [KEY_CRED_STAT_ACTIVE_GEN, KEY_CRED_STAT_RECORDS, KEY_CRED_STAT_DELTAS, KEY_CRED_STAT_LOAD_STATE, KEY_CRED_STAT_ACTIVE_COPY, KEY_CRED_STAT_WORN, KEY_CRED_STAT_LOADED]⟩,
  ⟨106, "KEY.WEAR(a)", 0x110100, 8, 8, 1, 0, 1, 0, 64, [KEY_WEAR_BLOCKS, KEY_WEAR_SPARES, KEY_WEAR_SPARES_USED, KEY_WEAR_READ_ONLY]⟩]

open R in
/-- The register families of block TAG (R508). -/
def regsTag : List RegDef := [
  ⟨107, "TAG.RDR_CFG", 0x120000, 1, 0, 1, 0, 1, 0, 32, [TAG_RDR_CFG_RDR0_EN, TAG_RDR_CFG_RDR1_EN, TAG_RDR_CFG_PROTO_EN, TAG_RDR_CFG_RATE_MAX, TAG_RDR_CFG_POLL_MS, TAG_RDR_CFG_CARD_GONE_MS]⟩,
  ⟨108, "TAG.CABLE_CFG", 0x120004, 1, 0, 1, 0, 1, 0, 32, [TAG_CABLE_CFG_SEC]⟩,
  ⟨109, "TAG.RDR_STAT", 0x120008, 1, 0, 1, 0, 1, 0, 32, [TAG_RDR_STAT_MULTI, TAG_RDR_STAT_WALK_LIMIT, TAG_RDR_STAT_RX_ERR, TAG_RDR_STAT_QUEUE]⟩,
  ⟨110, "TAG.CABLE(n)", 0x120100, 8, 32, 1, 0, 1, 0, 256, [TAG_CABLE_UID, TAG_CABLE_MATING, TAG_CABLE_SESSIONS, TAG_CABLE_ENERGY_WH, TAG_CABLE_OPENINGS, TAG_CABLE_RATING_A, TAG_CABLE_STATE, TAG_CABLE_WRITE_PEND, TAG_CABLE_EOL]⟩,
  ⟨111, "TAG.OWN_CFG", 0x120200, 1, 0, 1, 0, 1, 0, 32, [TAG_OWN_CFG_EN, TAG_OWN_CFG_NDEF_WP, TAG_OWN_CFG_HOST_RP, TAG_OWN_CFG_MBOX_WP, TAG_OWN_CFG_AFI, TAG_OWN_CFG_DSFID, TAG_OWN_CFG_STATUS_EN]⟩,
  ⟨112, "TAG.OWN_PWD", 0x120204, 1, 0, 1, 0, 1, 0, 32, [TAG_OWN_PWD_PWD]⟩,
  ⟨113, "TAG.OWN_STAT", 0x120208, 1, 0, 1, 0, 1, 0, 32, [TAG_OWN_STAT_FIELD, TAG_OWN_STAT_BUSY_RSP, TAG_OWN_STAT_TORN, TAG_OWN_STAT_FIELD_WR]⟩]

open R in
/-- The register families of block DISP (R508). -/
def regsDisp : List RegDef := [
  ⟨114, "DISP.CFG", 0x130000, 1, 0, 1, 0, 1, 0, 32, [DISP_CFG_EN, DISP_CFG_WIDTH, DISP_CFG_HEIGHT, DISP_CFG_FPS, DISP_CFG_INVERT]⟩,
  ⟨115, "DISP.BUS", 0x130004, 1, 0, 1, 0, 1, 0, 32, [DISP_BUS_SDCLK_DIV, DISP_BUS_LINE_OH, DISP_BUS_CLOSE_LINE]⟩,
  ⟨116, "DISP.TEMP", 0x130008, 1, 0, 1, 0, 1, 0, 32, [DISP_TEMP_TEMP_AUX, DISP_TEMP_SRC, DISP_TEMP_FALLBACK_BAND, DISP_TEMP_BAND, DISP_TEMP_STALE, DISP_TEMP_TEMP]⟩,
  ⟨117, "DISP.STAT", 0x130010, 1, 0, 1, 0, 1, 0, 32, [DISP_STAT_ACTIVE, DISP_STAT_SCANNING, DISP_STAT_RECOVERING, DISP_STAT_PWR_GOOD, DISP_STAT_QUEUED, DISP_STAT_ABANDONED]⟩,
  ⟨118, "DISP.AGE_CFG", 0x130018, 1, 0, 1, 0, 1, 0, 64, [DISP_AGE_CFG_AGE_T1, DISP_AGE_CFG_AGE_T2, DISP_AGE_CFG_AGE_T3, DISP_AGE_CFG_IMB_LIMIT_S]⟩,
  ⟨119, "DISP.REGION(r)", 0x130100, 16, 16, 1, 0, 1, 0, 128, [DISP_REGION_X0, DISP_REGION_Y0, DISP_REGION_W, DISP_REGION_H, DISP_REGION_MODE, DISP_REGION_BAND, DISP_REGION_STATE, DISP_REGION_FRAME, DISP_REGION_FALLBACK, DISP_REGION_START_MTB]⟩,
  ⟨120, "DISP.SEG_CFG", 0x130400, 1, 0, 1, 0, 1, 0, 32, [DISP_SEG_CFG_SENSE_EN, DISP_SEG_CFG_SENSE_H, DISP_SEG_CFG_SEG_FPS]⟩,
  ⟨121, "DISP.SEG_CAP(s)", 0x130500, 96, 4, 1, 0, 1, 0, 32, [DISP_SEG_CAP_C_REF, DISP_SEG_CAP_C_NOW]⟩]

open R in
/-- The register families of block LSW (R508). -/
def regsLsw : List RegDef := [
  ⟨122, "LSW(n).CFG", 0x140000, 32, 256, 1, 0, 1, 0, 64, [LSW_CFG_EN, LSW_CFG_INRUSH_EN, LSW_CFG_ILIM, LSW_CFG_INRUSH_A, LSW_CFG_INRUSH_MS, LSW_CFG_RETRY_N, LSW_CFG_RETRY_MS, LSW_CFG_THERM_LATCH, LSW_CFG_OL_RANGE, LSW_CFG_OL_MA, LSW_CFG_OFF_DIAG, LSW_CFG_PRIO, LSW_CFG_SAFE_OFF, LSW_CFG_I_NOM]⟩,
  ⟨123, "LSW(n).PWM", 0x140008, 32, 256, 1, 0, 1, 0, 32, [LSW_PWM_DUTY, LSW_PWM_PHASE]⟩,
  ⟨124, "LSW(n).STAT", 0x140010, 32, 256, 1, 0, 1, 0, 64, [LSW_STAT_STATE, LSW_STAT_I_MA, LSW_STAT_I_FINE, LSW_STAT_TJ, LSW_STAT_RETRIES_LEFT, LSW_STAT_OPEN_ON, LSW_STAT_OPEN_OFF, LSW_STAT_LATCH_OC, LSW_STAT_LATCH_TH, LSW_STAT_BUDGET_OFF, LSW_STAT_SAFE_HELD, LSW_STAT_TRIPS]⟩,
  ⟨125, "LSW.BANK(b)", 0x142000, 4, 16, 1, 0, 1, 0, 64, [LSW_BANK_PWM_HZ, LSW_BANK_VLS_MV, LSW_BANK_I_MA, LSW_BANK_UV, LSW_BANK_SHED]⟩,
  ⟨126, "LSW.TOTAL", 0x142100, 1, 0, 1, 0, 1, 0, 32, [LSW_TOTAL_I_MA, LSW_TOTAL_P_MW]⟩,
  ⟨127, "LSW.QUAD(q)", 0x142200, 8, 4, 1, 0, 1, 0, 32, [LSW_QUAD_T, LSW_QUAD_HOT, LSW_QUAD_TRIPS]⟩]

open R in
/-- The register families of block UPD (R508). -/
def regsUpd : List RegDef := [
  ⟨128, "UPD.CFG", 0x150000, 1, 0, 1, 0, 1, 0, 32, [UPD_CFG_TRELLIS_FETCH, UPD_CFG_AUTO_CONFIRM, UPD_CFG_CONFIRM_MIN, UPD_CFG_LEGAL_SEAL_REQ, UPD_CFG_IDLE_WAIT_H]⟩,
  ⟨129, "UPD.POLICY", 0x150004, 1, 0, 1, 0, 1, 0, 32, [UPD_POLICY_OWNER_COSIGN]⟩,
  ⟨130, "UPD.STAT", 0x150010, 1, 0, 1, 0, 1, 0, 128, [UPD_STAT_HOLDER, UPD_STAT_RECEIVED, UPD_STAT_TOTAL, UPD_STAT_STATE, UPD_STAT_LAST_STATUS, UPD_STAT_IDLE_MIN]⟩,
  ⟨131, "UPD.BOOT", 0x150020, 1, 0, 1, 0, 1, 0, 128, [UPD_BOOT_ACTIVE_GEN, UPD_BOOT_FLOOR, UPD_BOOT_PTR_GEN, UPD_BOOT_ACTIVE_SLOT, UPD_BOOT_BOOT_STATE, UPD_BOOT_TRIAL_STARTS, UPD_BOOT_TRIAL_S, UPD_BOOT_SETTINGS_VER]⟩]

open R in
/-- The register families of block TWIN (R508). -/
def regsTwin : List RegDef := [
  ⟨132, "TWIN.CFG", 0x160000, 1, 0, 1, 0, 1, 0, 32, [TWIN_CFG_EN, TWIN_CFG_PREFER, TWIN_CFG_GIVEUP_MASK]⟩,
  ⟨133, "TWIN.STAT", 0x160010, 1, 0, 1, 0, 1, 0, 128, [TWIN_STAT_PEER_SERIAL, TWIN_STAT_ROLE, TWIN_STAT_PEER_ROLE, TWIN_STAT_PEER_READY, TWIN_STAT_READY, TWIN_STAT_LAST_CAUSE, TWIN_STAT_TAKEOVERS, TWIN_STAT_COPY_MISS, TWIN_STAT_COPY_KIB]⟩,
  ⟨134, "TWIN.LINK", 0x160020, 1, 0, 1, 0, 1, 0, 32, [TWIN_LINK_UP, TWIN_LINK_LANES, TWIN_LINK_CRC_ERR, TWIN_LINK_RETRAIN]⟩,
  ⟨135, "TWIN.MTB_OFS", 0x160028, 1, 0, 1, 0, 1, 0, 64, [TWIN_MTB_OFS_OFFSET]⟩]

open R in
/-- The register families of block PWR (R508). -/
def regsPwr : List RegDef := [
  ⟨136, "PWR.CFG", 0x170000, 1, 0, 1, 0, 1, 0, 32, [PWR_CFG_VFAIL, PWR_CFG_HYST, PWR_CFG_TEMP_WARN]⟩,
  ⟨137, "PWR.STAT", 0x170008, 1, 0, 1, 0, 1, 0, 64, [PWR_STAT_VIN_10MV, PWR_STAT_RESTART_CAUSE, PWR_STAT_MODE, PWR_STAT_MTB_HOLDOVER, PWR_STAT_THROTTLE, PWR_STAT_SHUT, PWR_STAT_VBAT_LOW, PWR_STAT_VBAT_MV]⟩,
  ⟨138, "PWR.CLK", 0x170010, 1, 0, 1, 0, 1, 0, 32, [PWR_CLK_XTAL49_OK, PWR_CLK_XTAL25_OK, PWR_CLK_XTAL32_OK, PWR_CLK_REFCLK_OK, PWR_CLK_RTC_FALLBACK, PWR_CLK_XTAL49_FAILS, PWR_CLK_XTAL32_FAILS]⟩,
  ⟨139, "PWR.RTC", 0x170018, 1, 0, 1, 0, 1, 0, 32, [PWR_RTC_TRIM]⟩,
  ⟨140, "PWR.TAMPER(k)", 0x170020, 4, 4, 1, 0, 1, 0, 32, [PWR_TAMPER_EN, PWR_TAMPER_POL, PWR_TAMPER_FILT, PWR_TAMPER_ACTIVE, PWR_TAMPER_VBAT_COUNT]⟩,
  ⟨141, "PWR.TEMP(s)", 0x170100, 9, 4, 1, 0, 1, 0, 32, [PWR_TEMP_T, PWR_TEMP_T_MAX, PWR_TEMP_LEVEL]⟩,
  ⟨142, "PWR.RAIL(r)", 0x170200, 14, 4, 1, 0, 1, 0, 32, [PWR_RAIL_V_10MV, PWR_RAIL_UV, PWR_RAIL_OV, PWR_RAIL_EVENTS]⟩,
  ⟨143, "PWR.DIE_ID(d)", 0x170400, 4, 16, 1, 0, 1, 0, 128, [PWR_DIE_ID_LOT, PWR_DIE_ID_WAFER, PWR_DIE_ID_X, PWR_DIE_ID_Y]⟩,
  ⟨144, "PWR.MODULE_ID", 0x170440, 1, 0, 1, 0, 1, 0, 128, [PWR_MODULE_ID_SERIAL, PWR_MODULE_ID_ASSY_LOT]⟩]

open R in
/-- The fields, other than RWS ones, whose value outlasts a start: those whose Reset column reads restored or
factory. -/
def keptFields : List Fld := [
  GLOBAL_ID_STEPPING, GLOBAL_STATUS_BOOT_STATE, GLOBAL_STATUS_EPOCH, HOST_SYNC_LAST_FETCHED, HOST_SYNC_LAST_COMPLETED,
  HOST_SYNC_GLOBAL_DEV_SEQ_HIGH, HOST_SYNC_GLOBAL_JOURNAL_LOW, HOST_SYNC_GLOBAL_EPOCH, AFE_MOD_CFG_EN, AFE_MOD_CFG_SENSOR,
  AFE_MOD_CFG_PGA, AFE_MCLK_CFG_EN, AFE_MCLK_CFG_DIV, AFE_MBS_CFG_EN, AFE_MBS_CFG_MCLK,
  AFE_MBS_CFG_EDGE, AFE_MBS_CFG_CAPTURE_DLY, AFE_MBS_CFG_SKEW_NS, FILT_CFG_RS_MODE, FILT_CFG_TRK,
  FILT_CFG_SHIFT0, FILT_CFG_SHIFT1, FILT_CFG_SHIFT2, FILT_CFG_SHIFT3, FILT_BANK_GAIN,
  FILT_BANK_OFFSET, FILT_BANK_TRIM, FILT_STAT_ACTIVE_BANK, FILT_TRK_CFG_EN, FILT_TRK_CFG_FNOM,
  MET_CFG_EN, MET_CFG_TYPE, MET_CFG_NET_MODE, MET_CFG_CLASSIFY, MET_MAP_V1,
  MET_MAP_V2, MET_MAP_V3, MET_MAP_I1, MET_MAP_I2, MET_MAP_I3,
  MET_MAP_IN, MET_RATING_UNOM, MET_RATING_IMAX, MET_RATING_ISTART_PPM, MET_SCALE_KV,
  MET_SCALE_KI, MET_ENERGY_COUNT, MET_SESS_SESSION_ID, MET_SESS_OPEN, MET_SESS_T_OPEN,
  MET_SESS_A_IMP, MET_SESS_A_EXP, MET_QUAL_INVALID_S, MET_QUAL_ABSENT_S, MET_QUAL_HOLDOVER_S,
  MET_QUAL_FREE_RUN_S, MET_PQ_STAT_DIPS, MET_PQ_STAT_SWELLS, MET_PQ_STAT_INTERRUPTS, MET_PULSE_EN,
  MET_PULSE_MP, MET_PULSE_QTY, MET_PULSE_CONST, MET_PULSE_WIDTH_MS, MET_TC_ALPHA,
  MET_TC_BETA, MET_TC_TRIM_K, MET_TC_T0, MET_TC_CTL_EN, MET_TC_CTL_STEP,
  LEDGER_CFG_COMMIT_100MS, LEDGER_CFG_SIG_ALG, LEDGER_CFG_TARIFF_DEFAULT, LEDGER_CFG_CAL_SIGNED, LEDGER_DEMAND_CFG_DEM_MIN,
  LEDGER_DEMAND_CFG_SLIDING, LEDGER_DEMAND_CFG_SUB_N, LEDGER_DEMAND_CFG_SYNC_EN, LEDGER_DEMAND_CFG_SYNC_WIN_S, LEDGER_DEMAND_CFG_SYNC_EDGE,
  LEDGER_BILL_CFG_BILL_DAY, LEDGER_BILL_CFG_BILL_HOUR, LEDGER_BILL_CFG_CMD_CLOSE, LEDGER_BILL_CFG_MIN_GAP_H, LEDGER_TIME_LEDGER_S,
  LEDGER_TIME_LEDGER_MS, LEDGER_STAT_LAST_SEQ, LEDGER_STAT_POSSIBLE_LOSS, LEDGER_STAT_LAST_POUR_OK, LEDGER_STAT_BILL_SETS,
  LEDGER_LASTPOUR_L_MTB, LEDGER_LASTPOUR_L_UTC, LEDGER_LASTPOUR_DURATION_US, LEDGER_LASTPOUR_RUN_100US, LEDGER_EST_EST_UWH,
  LEDGER_EST_LOSS_BOUND_WH, LEDGER_EST_EST_VALID, LEDGER_EST_EST_EXPORT, LEDGER_EST_EST_CAPPED, LEDGER_EST_LOSS,
  LEDGER_TOU_A_IMP, LEDGER_TOU_A_EXP, LEDGER_TOU_R_IMP, LEDGER_TOU_R_EXP, LEDGER_TOU_S_IMP,
  LEDGER_TOU_S_EXP, LEDGER_DEMAND_MAX_IMP_W, LEDGER_DEMAND_MAX_IMP_UTC, LEDGER_TAMPER_COUNT, LEDGER_TAMPER_FIRST_UTC,
  LEDGER_TAMPER_LAST_UTC, SAFE_STATUS_OUT_LATCH, SAFE_STATUS_MOD_LATCH, SAFE_COIL_STAT_LOAD_BREAKS, KEY_STATUS_OWNER_SET,
  KEY_STATUS_ATTEST_CERT, KEY_PUF_STAT_BER_MAX, KEY_CACHE_NODES, KEY_OWNER_CTR_CTR, KEY_CRED_STAT_ACTIVE_GEN,
  KEY_CRED_STAT_RECORDS, KEY_CRED_STAT_DELTAS, KEY_CRED_STAT_ACTIVE_COPY, KEY_CRED_STAT_WORN, KEY_CRED_STAT_LOADED,
  KEY_WEAR_SPARES_USED, KEY_WEAR_READ_ONLY, TAG_CABLE_UID, TAG_CABLE_MATING, TAG_CABLE_SESSIONS,
  TAG_CABLE_ENERGY_WH, TAG_CABLE_OPENINGS, TAG_CABLE_WRITE_PEND, TAG_CABLE_EOL, TAG_OWN_PWD_PWD,
  DISP_STAT_ABANDONED, DISP_SEG_CFG_SENSE_EN, DISP_SEG_CFG_SENSE_H, DISP_SEG_CFG_SEG_FPS, DISP_SEG_CAP_C_REF,
  DISP_SEG_CAP_C_NOW, UPD_CFG_LEGAL_SEAL_REQ, UPD_POLICY_OWNER_COSIGN, UPD_STAT_HOLDER, UPD_STAT_RECEIVED,
  UPD_STAT_TOTAL, UPD_STAT_STATE, UPD_BOOT_ACTIVE_GEN, UPD_BOOT_FLOOR, UPD_BOOT_PTR_GEN,
  UPD_BOOT_ACTIVE_SLOT, UPD_BOOT_BOOT_STATE, UPD_BOOT_TRIAL_STARTS, UPD_BOOT_TRIAL_S, UPD_BOOT_SETTINGS_VER,
  TWIN_STAT_LAST_CAUSE, TWIN_STAT_TAKEOVERS, PWR_RTC_TRIM, PWR_TAMPER_VBAT_COUNT, PWR_TEMP_T_MAX,
  PWR_DIE_ID_LOT, PWR_DIE_ID_WAFER, PWR_DIE_ID_X, PWR_DIE_ID_Y, PWR_MODULE_ID_SERIAL,
  PWR_MODULE_ID_ASSY_LOT]

/-- Every register family of BAR0 (R508), in the order of the blocks. -/
def regTable : List RegDef :=
  regsGlobal ++ regsHost ++ regsCask ++ regsAfe ++ regsFilt ++ regsMet ++ regsLedger ++ regsOut ++ regsPlc ++ regsSafe ++ regsKey ++ regsTag ++ regsDisp ++ regsLsw ++ regsUpd ++ regsTwin ++ regsPwr

end Sys2Proof.Machine
end

