-- ==== Sys2Proof/Machine/State.lean ====
section
/-! DEFINITION. The state of the module: plain data, one part for each block; the reasons a step can stop; the state
after reset. A register field of the register map has its home in `regs`, unless a part below holds the same
quantity in a richer type: then the register is a view of that part (RegMap.lean). -/

namespace Sys2Proof.Machine

/-- Why a step faults. No command of this model faults. -/
inductive Fault where
  deriving DecidableEq, Repr

/-- Why a step is refused. -/
inductive Refusal where
  /-- Raised by the dispatch table alone, for a command whose meaning has not been written; safe: the machine stops. -/
  | notModelled (mnemonic : String)
  deriving DecidableEq, Repr

/-- The power phases of the module (R488 to R492, R498): without valid VIN; VIN valid and not yet started; running;
between L and the end of Last pour, with the loads of R490 shed; stopped after the converter-die rail fell. -/
inductive Phase where
  | noVin | vinValid | running | pour | stopped
  deriving DecidableEq, Repr

/-! ### Host link -/

/-- An event (table Event), its payload as the list of the fields its event table names, in order. `got` says that
an event ring received it. (DESIGN CHOICE, log 21) -/
structure Event where
  seq : Nat
  epoch : Nat
  code : Nat
  mtb : Nat
  inst : Nat
  replay : Bool
  held : Bool
  payload : List Nat
  got : Bool
  deriving DecidableEq, Repr

/-- A completion (table Completion); `result` is bytes 20 to 31, least significant byte first.
(DESIGN CHOICE, log 21) -/
structure Completion where
  dseq : Nat
  seq : Nat
  tag : Nat
  status : Nat
  ring : Nat
  result : Nat
  deriving DecidableEq, Repr

/-- A command in flight (R66): fetched and without a final status, with what its descriptor said. `started` says that its
function has begun (R44), `accepted` that it completed ACCEPTED; `credit` is the class whose credit it still holds. -/
structure Infl where
  ring : Nat
  seq : Nat
  op : Nat
  inst : Nat
  tag : Nat
  flags : Nat
  cask : Nat
  started : Bool
  accepted : Bool
  credit : Option Nat
  deriving DecidableEq, Repr

/-- An entry of a status history (R52): the host sequence number it is for (plus one; 0 marks an empty slot), the
status and the device sequence number that carried it. -/
structure Hist where
  seq1 : Nat
  status : Nat
  dseq : Nat
  deriving DecidableEq, Repr

/-- The status-history slot of a command that was never fetched. -/
def Hist.none : Hist := ⟨0, 0, 0⟩

/-- A notification word (R57): type, ring id, entries added, producer count. -/
structure Notif where
  kind : Nat
  ring : Nat
  added : Nat
  count : Nat
  deriving DecidableEq, Repr

/-- A run of events a full event ring skipped (R56). -/
structure Gap where
  first : Nat
  last : Nat
  deriving DecidableEq, Repr

/-- Interrupt coalescing of a ring: entries not yet signalled and the instant of the first of them. -/
structure Coal where
  n : Nat
  since : Nat
  deriving DecidableEq, Repr

/-- A buffer that the module filled, by its entry in a stream ring (R59, R60): the host address of the buffer, source,
format, block count, payload bytes written, samples, MTB of the first sample, samples lost before it, OVERRUN, and the
payload. -/
structure StreamEntry where
  addr : Nat
  src : Nat
  fmt : Nat
  block : Nat
  bytes : Nat
  samples : Nat
  mtb : Nat
  lost : Nat
  overrun : Bool
  payload : List Nat
  deriving DecidableEq, Repr

/-- A stream-ring entry that the module has not filled. -/
def StreamEntry.none : StreamEntry := ⟨0, 0, 0, 0, 0, 0, 0, 0, false, []⟩

/-- A block of samples waiting in the banks of a stream source: format, MTB of the first sample, samples, payload bytes
(4,032 at most). -/
structure StreamBlock where
  fmt : Nat
  mtb : Nat
  samples : Nat
  payload : List Nat
  deriving DecidableEq, Repr

/-- The on-chip banks of one stream source (R61): blocks delivered, blocks waiting in the two 64 KiB banks (oldest
first), samples discarded since the last delivered block. -/
structure StreamSrc where
  block : Nat
  waiting : List StreamBlock
  lost : Nat
  deriving DecidableEq, Repr

/-- A stream source that has delivered nothing. -/
def StreamSrc.init : StreamSrc := ⟨0, [], 0⟩

/-- A RING_DESTROY that waits for its ring's fetched commands. -/
structure Destroy where
  ring : Nat
  ctx : Ctx
  deriving DecidableEq, Repr

/-- A write to a register wider than 32 bits whose upper words are held (R512): register offset, words held. -/
structure HeldWords where
  off : Nat
  words : List (Nat × Nat)
  deriving DecidableEq, Repr

/-- The HOST island, the ring engine and what they keep in MRAM. Ring counts are keyed by ring, slot contents of
host memory written by the device by ring and slot. -/
structure HostSt where
  /-- The endpoint answers configuration requests without retry status (R35). -/
  cfgReady : Bool
  /-- PERST_N is released. -/
  perstHigh : Bool
  /-- What the endpoint answered to the last configuration request: a value, or none for retry status. -/
  cfgAnswer : Option Nat
  /-- The sizes set in configuration space, in bytes: payload, read request (table PCIe features). -/
  payloadSet : Nat
  readReqSet : Nat
  /-- BAR4/5: the MSI-X table by 32-bit word (four words a vector), and the pending-bit array as a mask (R36). -/
  msix : Tab Nat
  pba : Nat
  /-- An attach waits for host ready (R500). -/
  enHeld : Bool
  cmdFetch : Tab Nat
  cplProd : Tab Nat
  evProd : Tab Nat
  strFill : Tab Nat
  dbCmd : Tab Nat
  dbCpl : Tab Nat
  dbEv : Tab Nat
  dbStr : Tab Nat
  /-- Credits taken from a class's own sixteen (R46). -/
  ownTaken : Tab Nat
  sharedTaken : Nat
  /-- Turns a class has had in the present round of the 8 : 4 : 2 : 1 round robin (R48). -/
  wrr : Tab Nat
  /-- The ring a class served last. -/
  rr : Tab Nat
  inflight : List Infl
  /-- Completions without room in their ring: of the stop ring (R49), and of the others (R47). -/
  stopHeld : List Completion
  cplHeld : List Completion
  hist : Tab Hist
  journal : List Event
  seqNext : Nat
  seqBlocks : Nat
  gaps : Tab Gap
  evMem : Tab Event
  cplMem : Tab Completion
  strMem : Tab StreamEntry
  strSrc : Tab StreamSrc
  /-- Host addresses of posted stream buffers, by ring and slot (R59). -/
  strAddr : Tab Nat
  /-- MTB of the last doorbell poll plus one, 0 before any since the attach; the address it read (R40). -/
  pollAt1 : Nat
  pollAddr : Nat
  /-- What the module left in host memory of status pages it no longer writes: 32-bit words by address (R42, R63). -/
  statMem : Tab Nat
  notifFill : List Notif
  notifDrain : List Notif
  /-- Interrupts raised, by vector: each an MSI-X message, or a pending bit while its vector is masked. -/
  irqs : Tab Nat
  /-- Coalescing state: completion ring i at i, event ring j at 16 + j. -/
  coal : Tab Coal
  destroys : List Destroy
  heldWords : Option HeldWords
  /-- MTB at which SETUP_LOCK.LOCK was set. -/
  lockAt : Nat
  /-- Latched words by word offset (R511). -/
  latched : Tab Nat
  /-- The words the last register read returned, lowest first. -/
  readWords : List Nat
  /-- What the last command with an indirect buffer wrote into it, as a list of the fields. -/
  dma : List Nat
  /-- MTB of the last WRITE_REFUSED event plus one, 0 before any; refusals counted since. -/
  wrRefAt1 : Nat
  wrRefSince : Nat
  deriving DecidableEq, Repr

/-! ### Islands -/

/-- How a crossing ended at its sender (R14, R19, R30). -/
inductive XResult where
  | delivered | partitionDenied | areaRefused | linkTimeout | notReady
  deriving DecidableEq, Repr

/-- One served crossing: sending island, initiator, how it ended, the instant the data became valid, and the value that a
read of the Reserved MRAM area answers. -/
structure Served where
  src : Nat
  ini : Ini
  res : XResult
  at_ : Nat
  value : Option Nat
  deriving DecidableEq, Repr

/-- Crossings, the control cycle and the two safety wires (R15, R18, R25 to R27, R32). -/
structure ArchSt where
  served : List Served
  /-- Pairs of islands that raised ISLAND_LINK in this control cycle. -/
  linkRaised : List (Nat × Nat)
  overrunRaised : Bool
  /-- The staging deadline of this control cycle has passed (R26). -/
  deadline : Bool
  /-- MTB of the start of the present control cycle. -/
  cycleStart : Nat
  safeAlive : Bool
  /-- The next cycle's SAFE_ALIVE toggle is withheld (R27). -/
  withhold : Bool
  /-- Outlets whose controllers have staged their outputs in this cycle, a mask. -/
  staged : Nat
  /-- Consecutive overruns of each outlet's controller. -/
  overruns : Tab Nat
  deriving DecidableEq, Repr

/-! ### Cask -/

/-- Cask states (R71). -/
inductive CaskState where
  | free | opened | preparing | prepared | armed | recorded | done | aborted
  deriving DecidableEq, Repr

/-- The number a Cask state has in CASK.SLOT.STATE. -/
def CaskState.code : CaskState → Nat
  | .free => 0 | .opened => 1 | .preparing => 2 | .prepared => 3
  | .armed => 4 | .recorded => 5 | .done => 6 | .aborted => 7

/-- One Cask slot, or one outlet's close context (R99): slots 0 to 7 are the host's, 8 + n is the close context of
outlet n. `since` is the instant the present state was entered; `ctx` the command whose completion or final outcome
the slot owes. `acked` lists the participants that have acknowledged T (R80), `needs` is the mask of the actions that
need channel A's consent, judged at prepare (R74). -/
structure CaskSlot where
  id : Nat
  st : CaskState
  acts : List CaskAct
  ring : Nat
  mode : Nat
  tApply : Nat
  since : Nat
  lastStatus : Nat
  acked : List Nat
  needs : Nat
  /-- Channel A has given the consents the actions need (R74). -/
  consent : Bool
  /-- Actions held open by a safety opening (R76), a mask of indices. -/
  held : Nat
  ctx : Option Ctx
  appliedEarly : Bool
  deriving DecidableEq, Repr

/-- A free slot that has never been used. -/
def CaskSlot.init : CaskSlot := ⟨0, .free, [], 0, 0, 0, 0, 0, [], 0, false, 0, none, false⟩

/-- A commit record (table Commit record); whether it reads back whole. -/
structure CommitRec where
  id : Nat
  slot : Nat
  mode : Nat
  count : Nat
  appliedEarly : Bool
  safetyHeld : Bool
  dseq : Nat
  tApply : Nat
  epoch : Nat
  held : Nat
  digest : Nat
  ledgerSeq : Nat
  whole : Bool
  deriving DecidableEq, Repr

/-- A function under FUNC_DISABLE (R84): block byte, instance, the commanding descriptor, commands cancelled,
sessions closed, and whether the disable has taken effect. -/
structure Disable where
  block : Nat
  inst : Nat
  ctx : Ctx
  cancelled : Nat
  closed : Nat
  done : Bool
  deriving DecidableEq, Repr

/-- The Cask coordinator (R68 to R84). -/
structure CaskSt where
  slots : Tab CaskSlot
  lastId : Nat
  /-- The 256 most recent commit records, newest first. -/
  records : List CommitRec
  disables : List Disable
  deriving DecidableEq, Repr

/-- A SLAC run (R106 to R108): run id, end of its sounding window, for each pilot the sounds heard and the sum of
their mean attenuations in 0.1 dB; once assigned, the pilots that hold it (one, or the ambiguous set), the margin to
the next candidate, and the end of the match wait; CM_VALIDATE toggles counted by each pilot and announced. -/
structure SlacRun where
  id : Nat
  pilots : List Nat
  windowEnd : Option Nat
  heard : Tab (Nat × Nat)
  holders : List Nat
  margin : Nat
  best : Nat
  matchDue : Option Nat
  toggles : Tab Nat
  announced : Option Nat
  /-- The holders are an ambiguous set, so that a match needs the toggle count (R108). -/
  amb : Bool
  deriving DecidableEq, Repr

/-- The APP island's outlet control: outlets, SLAC, authorisation, the allocator's site state. -/
structure OutSt where
  outlets : Tab Outlet
  slac : List SlacRun
  card : Option HeldCard
  /-- The limit source shown last: 0 hardware, 1 host, 2 Trellis, 3 fallback. -/
  limitSrc : Nat
  trellisDue : Option Nat
  /-- The Trellis limit is stale and FALLBACK_W stands in for it. -/
  fallback : Bool
  lastEffective : Nat
  /-- The next place in the order of the allocator's queues (R123). -/
  queueNext : Nat
  /-- The second of the MTB of the allocator's last run (R122). -/
  lastRun : Nat
  /-- The last SYNC frame broadcast (R118): its identifier, MTB in ms and epoch. -/
  lastSync : Nat × Nat × Nat
  deriving DecidableEq, Repr

/-! ### Safety -/

/-- What a coil driver does (SAFE.COIL_STAT.STATE). -/
inductive CoilPhase where
  | off | pullIn | hold | hsTest | lsTest | fault
  deriving DecidableEq, Repr

/-- The number of a coil phase in SAFE.COIL_STAT.STATE. -/
def CoilPhase.code : CoilPhase → Nat
  | .off => 0 | .pullIn => 1 | .hold => 2 | .hsTest => 3 | .lsTest => 4 | .fault => 5

/-- A coil: its phase, the high-side and low-side switches, the readback of its mirror contact (true: main contacts
open), a turn-on that waits, the start of the phase, dark tests asked for, when the next test of each side is due
(R151), whether a switch has been found not to open (R152), and the application a waiting turn-on belongs to: Cask id and
outlet (R142, R153). -/
structure Coil where
  phase : CoilPhase
  hs : Bool
  ls : Bool
  mirrorOpen : Bool
  waiting : Bool
  since : Nat
  askHs : Bool
  askLs : Bool
  nextHs : Nat
  nextLs : Nat
  stuckHs : Bool
  stuckLs : Bool
  owed : Option (Nat × Nat)
  deriving DecidableEq, Repr

/-- A coil at rest, its contactor open. -/
def Coil.init : Coil := ⟨.off, false, false, true, false, 0, false, false, 0, 0, false, false, none⟩

/-- A monitored stop (R165): highest phase current at its start in mA, its start, its ramp time in ms, I_END in mA;
checks in a row at or below I_END; checks in a row above the envelope; whether the last check had no current (R543); the
end reason. -/
structure Mstop where
  i0 : Nat
  start : Nat
  rampMs : Nat
  iEnd : Nat
  low : Nat
  viol : Nat
  gone : Bool
  reason : Nat
  deriving DecidableEq, Repr

/-- The protection state of an outlet. Fault codes are those of R171, kept as masks with bit c for code c. -/
structure OutSafe where
  active : Nat
  latched : Nat
  /-- A residual-current self-test has passed since the last opening (R132, R133); one is running. -/
  selfPass : Bool
  testing : Bool
  /-- A residual-current trip awaits channel B's self-test at state A (R161). -/
  wantTest : Bool
  /-- The trips on inputs that both channels evaluate (R138): fault code, acting channel, instant. -/
  acted : List (Nat × Nat × Nat)
  /-- The last 160 readings as codes of the converter, newest first (R157, R188). -/
  readings : List Int
  /-- Updates in a row at or above each trip level, in channel B and in channel A: DC6, DC60, DC200, AC30. -/
  cntB : List Nat
  cntA : List Nat
  /-- Instants of the residual-current trips of the last 24 h (R161). -/
  trips : List Nat
  /-- The DC component has been at or above 3 mA since; below 2 mA since; RCM_PREWARN may be raised (R160). -/
  warnSince : Option Nat
  calmSince : Option Nat
  warnArmed : Bool
  /-- Channel B's pilot filter (R91): accepted state, candidate, count; periods below +1.5 V. -/
  pilotB : Pilot
  candB : Option Pilot
  agreeB : Nat
  lowB : Nat
  mstop : Option Mstop
  /-- Consecutive checks above 110 % and above 130 % of the enforcement current, and with absent current. -/
  over110 : Nat
  over130 : Nat
  absent : Nat
  /-- The coils opened at this MTB and the welded-contact check is due; cycles in a row with voltage above limit. -/
  openedAt : Option Nat
  weldCnt : Nat
  /-- Safe state with the pilot at F since this MTB (R169). -/
  safeSince : Option Nat
  imdLow : Nat
  shuntDue : Option Nat
  deriving DecidableEq, Repr

/-- An outlet without faults. -/
def OutSafe.init : OutSafe :=
  { active := 0, latched := 0, selfPass := false, testing := false, wantTest := false, acted := [], readings := [], cntB := [0, 0, 0, 0],
    cntA := [0, 0, 0, 0], trips := [], warnSince := none, calmSince := none, warnArmed := true, pilotB := .a,
    candB := none, agreeB := 0, lowB := 0, mstop := none, over110 := 0, over130 := 0, absent := 0, openedAt := none,
    weldCnt := 0, safeSince := none, imdLow := 0, shuntDue := none }

/-- What the two safety channels hold. `safeClosed` are the SAFE_IN inputs that read closed past their filters, of those
seen, `safeSeen`; `imdAt` the instant of the last insulation result; `estopChecked` the sources whose pulse check has passed. -/
structure SafeSt where
  coils : Tab Coil
  outs : Tab OutSafe
  snaps : List Snap
  /-- Active and latched faults of module scope, bit c for code c of R171. -/
  modActive : Nat
  modLatched : Nat
  tableOk : Bool
  /-- The SHA-256 of HSL_TABLE was the one in SAFE_FW, and its content passed, at the start (R135, R189). -/
  hashOk : Bool
  /-- Steps 1 to 3 of the start self-test have passed; the outlets whose sensor has been tested since the start, a
  mask (R139). -/
  steps123 : Bool
  tested : Nat
  /-- Last edge of SAFE_ALIVE and last valid heartbeat of channel B. -/
  aliveAt : Nat
  heartbeatAt : Nat
  /-- The heartbeat channel B last sent, and the last valid one that channel A received (R137). -/
  beat : Beat
  beatIn : Option Beat
  bCycles : Nat
  /-- The last cycle and table check of channel B, and the last pulses of the two E-stop sources (R25, R135, R154). -/
  cycleAt : Nat
  tableAt : Nat
  pulseAt : Nat × Nat
  estopAOpen : Bool
  estopBOpen : Bool
  estopAt : Nat
  estopChecked : Nat
  safeClosed : Nat
  safeSeen : Nat
  /-- The disagreement that latched CH_DISC: fault code, and outlet or E-stop input (R138). -/
  disc : Option (Nat × Nat)
  imdAt : Option Nat
  /-- Readings in a row outside the valid range, by sensor (R190). -/
  rcmBad : Tab Nat
  /-- The module was at or above SHUT (R505). -/
  shut : Bool
  shuntSince : Option Nat
  /-- The coil and side under a dark test (false: high side), its start, and whether its readback has shown off. -/
  test : Option (Nat × Bool × Nat × Bool)
  pilotFiltB : Nat
  deriving DecidableEq, Repr

/-- The safety channels before the first start. (DESIGN CHOICE, log 6) -/
def SafeSt.init : SafeSt :=
  { coils := .empty, outs := .empty, snaps := [], modActive := 0, modLatched := 0, tableOk := false,
    hashOk := false, steps123 := false, tested := 0, aliveAt := 0, heartbeatAt := 0, beat := ⟨0, 0, [], 0⟩, beatIn := none,
    bCycles := 0, cycleAt := 0, tableAt := 0, pulseAt := (0, 0),
    estopAOpen := false, estopBOpen := false, estopAt := 0, estopChecked := 0, safeClosed := 0, safeSeen := 0,
    disc := none, imdAt := none, rcmBad := .empty, shut := false, shuntSince := none,
    test := none, pilotFiltB := 8 }

/-- No outlet has begun anything. (DESIGN CHOICE, log 6) -/
def OutSt.init : OutSt :=
  { outlets := .empty, slac := [], card := none, limitSrc := 0, trellisDue := none, fallback := false,
    lastEffective := 0xFFFFFFFF, queueNext := 0, lastRun := 0, lastSync := (0, 0, 0) }

/-! ### Sampling front end, filters and metrology -/

/-- A zero stored by AFE_CAL_ZERO (R204, R205): its instant plus one, the code Z and the value Y0. -/
structure CalZero where
  at1 : Nat
  code : Int
  y0 : Int
  deriving DecidableEq, Repr

/-- A capture of a pipeline converter (R193): format, samples still wanted, whether it is continuous. -/
structure Capture where
  on : Bool
  fmt : Nat
  left : Nat
  cont : Bool
  deriving DecidableEq, Repr

/-- No capture. -/
def Capture.off : Capture := ⟨false, 0, 0, false⟩

/-- An entry that an auxiliary converter works on (R196, R197): sequence and entry, when it began; on the charge-balancing
converter, once it integrates, over how many ns, whether those are the fixed 20 ms, and whether the tracker has lost lock
since. -/
structure AuxRun where
  seq : Nat
  entry : Nat
  at_ : Nat
  len : Option Nat
  fixedT : Bool
  lost : Bool
  deriving DecidableEq, Repr

/-- The sampling front end. Overload counts since the last event with the instants of the first overload and of the
last event; the entry that runs on each converter (0 is PADC10, 1 the CBC) and the pending passes, a mask, with the due
instants they are for, and the last due instant met plus one; how long inserted conversions delay the next entry of a
converter (R206); the latest results of fast PADC10 sequences, value and OVR (R201); sequences
loaded for the end of the pass in progress (control image, then entry images) and to be disabled there; calibration
zeros and instants of the last conversions; AUX_REC records not yet in a buffer; captures; sequences that have fallen
back to 20 ms, a mask. -/
structure AfeSt where
  ovlSince : Tab Nat
  ovlFirst : Tab Nat
  ovlEvAt1 : Tab Nat
  run : Tab (Option AuxRun)
  pend : Nat
  dueAt : Tab Nat
  dueMet1 : Tab Nat
  delay : Tab Nat
  fast : Tab (Option (Int × Bool))
  loads : Tab (List Nat)
  offs : Nat
  zeros : Tab CalZero
  auxAt1 : Tab Nat
  auxRecs : List (List Nat)
  caps : Tab Capture
  fellBack : Nat
  deriving DecidableEq, Repr

/-- A grid cycle (R223, R225): its number, its start and its period in ns, whether the grid ran free in it, and whether its
samples carry STEP. -/
structure GridCycle where
  no : Nat
  z : Nat
  p : Nat
  free : Bool
  step : Bool
  deriving DecidableEq, Repr

/-- A frequency tracker (R219 to R225): the accepted periods in a row and the last accepted ones in ns, newest first;
periods in a row with low amplitude or off the estimate; grid cycles in HOLD; the last crossing; the phase error e of
R224 in ns; a relock whose cycle has still to end (R225), and the crossing at which it locked; the frozen period; the
number of the present grid cycle, and the last 32 grid cycles, newest first. -/
structure Trk where
  row : List Nat
  last : List Nat
  lowAmp : Nat
  dev : Nat
  holdCyc : Nat
  cross : Nat
  err : Int
  relock : Bool
  frozen : Nat
  lockCross : Nat
  no : Nat
  cycles : List GridCycle
  deriving DecidableEq, Repr

/-- A tracker that has measured nothing. -/
def Trk.init : Trk := ⟨[], [], 0, 0, 0, 0, 0, false, 0, 0, 0, []⟩

/-- A cross-fade (R231): the channels, the new bank of each as a mask, when it was accepted, its start and its common
tracker; the command that waits for its end; the temperature and the calibration result it belongs to. -/
structure Blend where
  chans : List Nat
  at_ : Nat
  t0 : Option Nat
  trk : Nat
  ctx : Option Ctx
  cal : Option (List Nat)
  deriving DecidableEq, Repr

/-- A tap sample (R212, R230): its time in 2^-16 ns, its value after the correction stage in 1/256 code, its flags (table
Sample flags), and the MTB of its emission. -/
structure TapSample where
  t : Int
  v : Int
  fl : Nat
  em : Nat
  deriving DecidableEq, Repr

/-- A resampler sample (R213, R223, R226): its grid cycle and index, its grid instant in 2^-16 ns, what the resampler
evaluated there in 1/256 code, the running integral of a coil channel (R241) in 2^-32 of that, the value the metering
engine uses in 1/256 code, and its flags. -/
structure GridSample where
  cyc : Nat
  k : Nat
  t : Int
  x : Int
  y : Int
  v : Int
  fl : Nat
  deriving DecidableEq, Repr

/-- A filter chain (R207 to R216): the position up to which modulator codes have been taken, in half periods of XTAL49 from
the MTB's zero; codes since the restart; the integrators and combs of the CIC as 36-bit words; the inputs that CFIR, HB1
and HB2 hold, newest first, each with whether a saturated value entered it; the last 2,048 tap samples, newest first; the
grid cycle and index of the next resampler sample; the stages that saturated since the codes were last taken, a mask, and
how often. -/
structure Chain where
  pos : Nat
  n : Nat
  integ : List Nat
  comb : List Nat
  w1 : List (Int × Bool)
  w2 : List (Int × Bool)
  w3 : List (Int × Bool)
  taps : List TapSample
  nextCyc : Nat
  nextK : Nat
  sat : Nat × Nat
  deriving DecidableEq, Repr

/-- A chain that holds nothing. -/
def Chain.init : Chain := ⟨0, 0, [0, 0, 0, 0, 0], [0, 0, 0, 0, 0], [], [], [], [], 0, 0, (0, 0)⟩

/-- The filter chains: trackers, the instant of the last restart of each chain, the chains, the last 7,168 resampler samples
of each, newest first; cross-fades, and those that have ended with their ends; overflows since the last
event with the instants of the first and of the last event. -/
structure FiltSt where
  trks : Tab Trk
  restartAt : Tab Nat
  chains : Tab Chain
  samples : Tab (List GridSample)
  blends : List Blend
  faded : List (Blend × Nat)
  ovfSince : Tab Nat
  ovfFirst : Tab Nat
  ovfEvAt1 : Tab Nat
  deriving DecidableEq, Repr

/-- A dip, swell or interruption in progress (R262): start, phases, extreme voltage in µV. -/
structure PqEvent where
  start : Nat
  mask : Nat
  ext : Nat
  deriving DecidableEq, Repr

/-- A pulse output (R273 to R276): counter multiples passed, the instants at which pulses may start, earliest first, whether
it conducts, and the start or end of the last pulse plus one. -/
structure Pulse where
  passed : Nat
  due : List Nat
  on : Bool
  edge1 : Nat
  deriving DecidableEq, Repr

/-- A pulse output that has never conducted. -/
def Pulse.init : Pulse := ⟨0, [], false, 0⟩

/-- Sums over the samples of a phase (R242, R243): how many; voltage and current codes, their squares and products, in
1/256 code; the real and imaginary parts of the one-cycle DFT bin 1 of each, times 2^32; the fundamental reactive powers of
its cycles in mvar, and how many cycles. -/
structure PhaseSum where
  n : Nat
  u : Int
  i : Int
  uu : Int
  ii : Int
  ui : Int
  ur : Int
  uj : Int
  ir : Int
  ij : Int
  q : Int
  cycles : Nat
  deriving DecidableEq, Repr

/-- No samples. -/
def PhaseSum.init : PhaseSum := ⟨0, 0, 0, 0, 0, 0, 0, 0, 0, 0, 0, 0⟩

/-- A window of R243 that is complete: the sums of its phases and of the neutral, its flags, its first grid cycle and how
many it has, its start and end. -/
structure Window where
  sums : List PhaseSum
  flags : Nat
  first : Nat
  len : Nat
  start : Nat
  stop : Nat
  deriving DecidableEq, Repr

/-- What a phase's samples of one grid cycle come to (R242): rms voltage in µV and current in µA, fundamental reactive
power in mvar. -/
structure CyclePhase where
  urms : Nat
  irms : Nat
  q : Int
  deriving DecidableEq, Repr

/-- A part of a grid cycle that ends at an energy boundary (R251): its end; the sums of the active increments of its
samples in pWh, phase by phase; and its samples, with their times in 2^-16 ns and their active increments of all phases. -/
structure CyclePart where
  until_ : Nat
  act : List Int
  steps : List (Int × Int)
  deriving DecidableEq, Repr

/-- A grid cycle of a meter point: its number, its phases, the parts the boundaries cut it into, the quality flags of its
samples as QF bits, and the sums of its phases and of the neutral. -/
structure Cycle where
  no : Nat
  phases : List CyclePhase
  parts : List CyclePart
  qf : Nat
  sums : List PhaseSum
  deriving DecidableEq, Repr

/-- A calibration measurement that runs (R267): command, phases, seconds, start of the command; the window boundary at which
it began; the quality flags, the sums, and the whole grid cycles and their time since; the end of its last window. -/
structure CalRun where
  ctx : Ctx
  phases : Nat
  secs : Nat
  start : Nat
  begun : Option Nat
  flags : Nat
  sums : List PhaseSum
  cyc : Nat × Nat
  stop : Nat
  deriving DecidableEq, Repr

/-- A kept calibration measurement of a phase: instant, Urms in µV, Irms in µA, angle in 0.0001°, frequency in µHz,
mean voltage and current codes at zero in 1/256 code, T_APPLIED, P in mW, and the start. -/
structure CalKept where
  at_ : Nat
  u : Nat
  i : Nat
  angle : Int
  freq : Nat
  zeroV : Int
  zeroI : Int
  temp : Int
  p : Int
  start : Nat
  deriving DecidableEq, Repr

/-- A meter point: the end of the last energy part it has classified, the phases that contributed in the last cycle
(R252), grid cycles since the last window, the number of the next grid cycle to meter (a count of 20 ms units on DC),
what its counters hold below 1 µWh in pWh, the sums of the window in progress and the window that is complete, the next
half grid cycle for Urms(1/2), the quality flags of the window and of the second, cycles in a row against
the reported direction and the instant of the first of them, the reported direction, the increments of the second in
progress and of the one after its edge, the record of the last second, the close instant of its session plus one,
quality seconds at the session's open, dips, swells and interruptions in progress, grid cycles and their time in the
second and in the 10 s in progress, the start of the window, the last total power in mW, and the second edge whose
record has been sent. -/
structure MeterPoint where
  partEnd : Nat
  contrib : Nat
  winCyc : Nat
  next : Nat
  rem : List Nat
  win : List PhaseSum
  ready : Option Window
  pqNext : Nat
  winFlags : Nat
  secFlags : Nat
  revCyc : Nat
  revAt : Nat
  dirExport : Bool
  secCur : List Nat
  secNext : List Nat
  secRec : List Nat
  sessEnd1 : Nat
  qualOpen : List Nat
  pq : Tab (Option PqEvent)
  cyc1 : Nat × Nat
  cyc10 : Nat × Nat
  winStart : Nat
  lastP : Int
  recEdge : Nat
  deriving DecidableEq, Repr

/-- A meter point that has measured nothing. -/
def MeterPoint.init : MeterPoint := ⟨0, 0, 0, 0, [], [], none, 0, 0, 0, 0, 0, false, [], [], [], 0, [], .empty, (0, 0), (0, 0), 0, 0, 0⟩

/-- The metering engine: meter points, pulse outputs, calibration runs and kept results, calibrated gains and trims
(R270, plus one; 0 where no blend has set them yet), waveform captures (samples left, continuous) and their samples not yet
in a buffer, the registers' harmonic groups; tracker groups whose temperature compensation waits for the end of a blend (R272), a mask; and from when on the
converter-die temperature is read again (R271). -/
structure MetSt where
  mps : Tab MeterPoint
  pulses : Tab Pulse
  runs : Tab (Option CalRun)
  kept : Tab (Option CalKept)
  calGain : Tab (Option (Int × Int))
  waves : Tab Capture
  waveRecs : Tab (List (List Int))
  groups : Tab (List Nat)
  tcPend : Nat
  tcNext : Nat
  deriving DecidableEq, Repr

/-! ### The ledger -/

/-- An SRF record (R311, R312): number, type, meter point, its wall and ledger times in ms, time flags, epoch, key
generation, LEGAL_FW check value, body as fields of (bytes, value), and the signature once it is made. -/
structure Rec where
  seq : Nat
  kind : Nat
  mp : Nat
  wall : Nat
  tflags : Nat
  ledger : Nat
  epoch : Nat
  alg : Nat
  keyGen : Nat
  legal : Nat
  body : List (Nat × Nat)
  sig : Option Nat
  deriving DecidableEq, Repr

/-- The ledger's account of one meter point: energy of the sub-interval in progress by quantity (import, export,
reactive import and export) older than the recent parts; the recent parts (end, the increments of the eight counters);
finished sub-intervals of a sliding window (energies, length in s), newest first; the tariff in force, a forced one
plus one, the price id. -/
structure Account where
  base : List Nat
  recent : List (Nat × List Nat)
  subs : List (List Nat × Nat)
  tariff : Nat
  forced1 : Nat
  price : Nat
  deriving DecidableEq, Repr

/-- An account without energy. -/
def Account.init : Account := ⟨[0, 0, 0, 0], [], [], 0, 0, 0⟩

/-- A boundary that waits for its transaction (R304): instant, wall time, kinds (bit 0 demand, 1 tariff, 2 billing,
3 calendar), forced tariffs (mask, tariff, price, source), billing cause, interval flags, billing command. -/
structure Boundary where
  at_ : Nat
  wall : Nat
  kinds : Nat
  force : List (Nat × Nat × Nat × Nat)
  cause : Nat
  flags : Nat
  ctx : Option Ctx
  deriving DecidableEq, Repr

/-- A closed billing period (R310): number, start and end ledger and wall times in ms, cause, flags, and for each
enabled meter point the tariff sets, the counters and the maxima. -/
structure BillSet where
  no : Nat
  startL : Nat
  startW : Nat
  endL : Nat
  endW : Nat
  cause : Nat
  flags : Nat
  data : List (Nat × List Nat)
  deriving DecidableEq, Repr

/-- A record that waits until its meter point has classified its instant (R314): SESSION_OPEN of an outlet, or a
READING of a request with its command; with the wall time, the ledger time, the time flags and the tariff of that
instant. -/
structure PendRec where
  reading : Bool
  outlet : Nat
  mp : Nat
  at_ : Nat
  num : Option Nat
  group : Nat
  wall : Nat
  ledger : Nat
  flags : Nat
  tariff : Nat
  deriving DecidableEq, Repr

/-- A LEDGER_READ_SIGNED that waits for its records: group, command, first number. -/
structure ReadReq where
  group : Nat
  ctx : Option Ctx
  first : Nat
  deriving DecidableEq, Repr

/-- An open calibration (R318, R319): meter points, end, changes (offset, old, new). -/
structure CalOpen where
  mask : Nat
  until_ : Nat
  changes : List (Nat × Nat × Nat)
  deriving DecidableEq, Repr

/-- A commit of the ledger state (R279, R280): number, records appended until then, the registers it copies, accounts, sessions, demand maxima, the
instant, and the wall and ledger times. -/
structure Commit where
  num : Nat
  appended : Nat
  regs : Tab Nat
  accts : Tab Account
  sess : Tab LSession
  maxD : Tab (Nat × Nat)
  at_ : Nat
  wall : Nat
  ledger : Nat
  subStart : Nat
  deriving DecidableEq, Repr

/-- The Last pour marker (R284): L, its wall time in ms, the ledger time, the last power of each meter point in mW. -/
structure PourMark where
  l : Nat
  wall : Nat
  ledger : Nat
  power : List Int
  deriving DecidableEq, Repr

/-- The ledger. Times are in ms unless they are MTB instants. -/
structure LedgerSt where
  issued : Nat
  /-- Records appended since manufacture. -/
  appended : Nat
  useNums : List Nat
  records : List Rec
  acked : Nat
  accts : Tab Account
  maxD : Tab (Nat × Nat)
  sess : Tab LSession
  pends : List PendRec
  reads : List ReadReq
  groups : Nat
  /-- Offset of ledger time over wall time (R291); the ledger time while the clock is invalid; the last wall time. -/
  offMs : Nat
  ledgerHeld : Nat
  timeSet : Bool
  steps : List (Nat × Nat)
  calendar : Option Calendar
  pending : Option Calendar
  /-- Start of the sub-interval in progress, as MTB and wall time, and the flags it will carry. -/
  subStart : Nat
  subWall : Nat
  subFlags : Nat
  lastClosed : Nat
  bound : Option Boundary
  held : Option Boundary
  moved : Nat
  billNo : Nat
  billStartL : Nat
  billStartW : Nat
  lastCmdAt1 : Nat
  bills : List BillSet
  billCtx : Option Ctx
  challenge : Option (Nat × Nat)
  cal : Option CalOpen
  sealAt : Nat
  idleAt : Nat
  sealIdle : Bool
  commits : Nat
  /-- The instant of the last commit that was due (R279). -/
  commitAt : Nat
  copyA : Option Commit
  copyB : Option Commit
  mark : Option PourMark
  /-- The state copies' commit number when the marker was written. -/
  markNum : Nat
  /-- A loss of VIN has reached L and is not yet counted as POWER_OUTAGE (R315). -/
  outageDue : Bool
  sessNo : Nat
  legalItem : Nat
  legalUntil : Nat
  /-- Last pour is armed: metering has been live in this run (R492). -/
  armed : Bool
  tStop : Option Nat
  deriving DecidableEq, Repr

/-! ### Keys and credentials -/

/-- A node of the derivation tree (R360 to R366): its label path, key type, generation, the parent generation it was
derived under, whether it is STALE, whether it is installed, its key, the digest of its certificate chain (0 for none)
and its handle. -/
structure KNode where
  path : List (List Byte)
  typ : Nat
  gen : Nat
  parentGen : Nat
  stale : Bool
  installed : Bool
  key : Nat
  cert : Nat
  handle : Nat
  deriving DecidableEq, Repr

/-- A trust anchor (R370): type and digest of the item. -/
structure Anchor where
  typ : Nat
  digest : Nat
  deriving DecidableEq, Repr

/-- The manifest of a credential load under verification (R381, R382): command, generation, count, SHA-256 of the
records, module serial or 0, and whether its signature holds. -/
structure Manifest where
  ctx : Ctx
  gen : Nat
  count : Nat
  digest : Nat
  serial : Nat
  sigOk : Bool
  deriving DecidableEq, Repr

/-- The CRYPTO island: the root key, the digest of the owner key, the node table, the cached handles (most recent
first) with the pinned ones, the masks of the held keys and the start of the present Riddling period (R367), the
command that waits for a self-test, the DRBG's index, requests and instant of its last reseed, the retest passes in
a row, the test that failed and when the source was last tested (R375), when the root was last tried (R355), whether the PUF region is overwritten (R356), trust anchors, the attestation
certificate; the credential copies, the delta log (oldest first), the load in progress (generation, count) and its
manifest, and the blocks that failed their tag. -/
structure KeySt where
  root : Option Nat
  owner : Nat
  nodes : List KNode
  cache : List Nat
  pins : List Nat
  masks : Tab Nat
  riddleAt : Nat
  testCtx : Option Ctx
  drbgIdx : Nat
  drbgReq : Nat
  reseedAt : Nat
  passes : Nat
  failTest : Nat
  testAt : Nat
  tryAt : Nat
  pufOver : Bool
  anchors : Tab (Option Anchor)
  attestCert : Nat
  credA : List CredRec
  credB : List CredRec
  deltas : List CredRec
  load : Option (Nat × Nat)
  manifest : Option Manifest
  badBlocks : List (Nat × Nat)
  deriving DecidableEq, Repr

/-! ### Power-line modems and Trellis -/

/-- A Trellis frame (R339): type, class, source, destination, sequence number, hops travelled, payload fields; how often
it was sent, the next hop it is bound to (0 for the routing's choice), transmitter, receiver and frame counter of its
last transmission with the modem, coupling port and ROBO mode used; the command that waits for its outcome. -/
structure TFrame where
  typ : Nat
  cls : Nat
  src : Nat
  dst : Nat
  seq : Nat
  hops : Nat
  payload : List Nat
  tries : Nat
  via : Nat
  tx : Nat
  rx : Nat
  ctr : Nat
  modem : Nat
  port : Nat
  mode : Nat
  at_ : Nat
  hdr : List Nat
  wire : List Nat
  ctx : Option Ctx
  deriving DecidableEq, Repr

/-- A link-quality entry of a neighbour on one mains modem (R344): sum and count of the SNR of its frames in 0.5 dB,
the last 32 unicast frames sent to it (true for a failure, newest first), failures in a row, levels the mode has
stepped down, best coupling port. -/
structure TLink where
  snrSum : Nat
  snrN : Nat
  fails : List Bool
  row : Nat
  down : Nat
  port : Nat
  deriving DecidableEq, Repr

/-- A link that has never been heard. -/
def TLink.init : TLink := ⟨0, 0, [], 0, 0, 3⟩

/-- The modems and the Trellis node: queues by class; the frame that waits for its ACK; the frames sent in the present
superframe; sequence number, frame counter and the reserved counter blocks; links by neighbour and modem
(2 · node + modem); what neighbours report (256 · neighbour + destination: metric, hops); sequence numbers seen by
source; counters accepted by transmitter, newest first; the coordinator's members (serial, when heard); the superframe's
start, the offset in force in 10 µs, whether the node keeps silent, whether its tracker was locked; when the last beacon
was heard (or the state entered), when JOIN_REQ was queued, the end of the wait after a failed join; accepted SYNC_IN
edges by direction plus one, and the edge that superframes follow; the last SITE_LIMIT table; image requests being
served; blocks being reassembled (sender, block, since, fragments with their data); received HOST_DATA records not yet in a buffer; by
modem: second of the last noise report, erased symbols and impulses since; the tone mask in force; the superframes that
have begun, and at which of them the periodic frames last went out (0 LQ_REPORT, 1 SITE_LIMIT, 2 TIME, 3 IMAGE_OFFER);
the superframe's start before beacons moved it; the alignment A in ns. -/
structure PlcSt where
  queues : Tab (List TFrame)
  wait : Option TFrame
  air : List TFrame
  seq : Nat
  ctr : Nat
  ctrBlocks : Nat
  links : Tab TLink
  reports : Tab (Nat × Nat)
  seen : Tab (List Nat)
  ctrs : Tab (List Nat)
  nodes : Tab (Option (Nat × Nat))
  sfStart : Nat
  offNow : Int
  silent : Bool
  locked : Bool
  beaconAt : Nat
  joinAt : Nat
  backoff : Option Nat
  syncAt1 : Tab Nat
  syncRef1 : Nat
  limit : Option (Nat × List (Nat × Nat))
  reqs : List (Nat × List Nat)
  parts : List (Nat × Nat × Nat × List (Nat × List Nat))
  rxRecs : List (List Nat)
  noise : Tab (Nat × Nat × Nat)
  tones : Tab (List Nat)
  ticks : Nat
  sentAt : Tab Nat
  sfBase : Nat
  adjNs : Int
  deriving DecidableEq, Repr

/-! ### Contactless -/

/-- A request on RDR1 (R394): outlet, a life-copy write or a read, whether it is the read at CONNECTED, commands that
wait for the read. -/
structure CableJob where
  n : Nat
  write : Bool
  atConnect : Bool
  ctxs : List Ctx
  deriving DecidableEq, Repr

/-- A logical block of the own tag (R406): two slots of value, 2-bit sequence and whether the CRC-8 holds. -/
structure OwnBlock where
  v0 : Nat
  v1 : Nat
  s0 : Nat
  s1 : Nat
  ok0 : Bool
  ok1 : Bool
  deriving DecidableEq, Repr

/-- A block at delivery: zero in both slots, slot 0 current. -/
def OwnBlock.init : OwnBlock := ⟨0, 0, 1, 0, true, true⟩

/-- The contactless functions: cards handed over and when each was last seen (type, identity hash); requests on RDR1 in
the order they are served; cable tags; the own tag's blocks; password and AES access, wrong passwords, blocks the field
has written with the first of them, the end of a host write with the blocks it replaces (block, old value, instant of its
commit), and the last reply to the field: 0 and the values read, or an error code; the last poll of RDR0; the outlet that
RDR1_SEL names. -/
structure TagSt where
  handed : List (Nat × Nat × Nat)
  jobs : List CableJob
  cables : Tab CableTag
  blocks : Tab OwnBlock
  pwdOpen : Bool
  aesOpen : Bool
  wrong : Nat
  written : Nat
  firstWritten : Nat
  busyUntil : Nat
  hostOld : List (Nat × Nat × Nat)
  reply : List Nat
  pollAt : Nat
  sel : Nat
  deriving DecidableEq, Repr

/-! ### Electrophoretic displays -/

/-- The segments being painted (R427, R428): the step, 1 INVALID black, 2 the changed segments, 3 INVALID white, 4
neutralising and 5 whitening in a recovery; the latched band; the drive codes that segments still owe; the content
painted; the partial sums of the segments; frames run. -/
structure SegPaint where
  step : Nat
  band : Nat
  codes : Tab (List Nat)
  content : Nat
  sums : Tab Int
  frames : Nat
  deriving DecidableEq, Repr

/-- The displays: EPD_WAVE; the pending, displayed and target images (levels by row x 2048 + column, white where
nothing is listed); regions; regions accepted so far; the supply (EPD_PWR_EN, since when; since when no region runs);
the temperature (when it was taken, plus one; the band R411 keeps); Vintage counters (tile x 2 + sign, in pixel ns) and
their saved copy; tiles whose imbalance was raised; the segments shown and wanted (bit s black for segment s), the
polarity of SEGCOM, the painting, whether SAFE holds INVALID, and when the segments were last measured; when the frame in progress
ends (0 outside scanning), when the segment frame in progress ends, and when the Vintage counters were last saved. -/
structure DispSt where
  wave : Option EpdWave
  pend : Tab Nat
  shown : Tab Nat
  target : Tab Nat
  regions : Tab DRegion
  orders : Nat
  pwrEn : Bool
  pwrAt : Nat
  idleAt : Nat
  tempAt1 : Nat
  tempBand : Nat
  vint : Tab Nat
  vintSaved : Tab Nat
  imbal : List Nat
  segs : Nat
  want : Nat
  com : Bool
  paint : Option SegPaint
  safeHolds : Bool
  senseAt : Nat
  frameEnd : Nat
  segEnd : Nat
  saveAt : Nat
  deriving DecidableEq, Repr

/-! ### Firmware update -/

/-- The update engine (R456 to R473): manifests and waveforms of the slots (none for the image of manufacture); the
staged manifest and the bitmap, which outlast a release for idleness; when the holder last acted; the activation that
waits (mode, since, command); a Trellis image whose manifest was asked for (digest, node); the confirmed slot; the
instant up to which trial running time is saved; running time with health held in ns, and since when it holds now; the
meter points that were RUNNING before the flip, a mask; the settings kept as CURRENT during a trial with their version
(the settings in use are then MIGRATED); a revert that waits for the outlets to stop (cause, command); a revert to be
reported after the restart (cause, rejected generation); whether a legal migration compared equal; whether the module
stays in the boot ROM; the last reply on the service UART; the blocks programmed into the slots, by
16,384 · slot + block; the two copies of the boot pointer. -/
structure UpdSt where
  slots : Tab (Option TamecMan)
  waves : Tab (Option EpdWave)
  man : Option TamecMan
  bitmap : Nat
  idleAt : Nat
  act : Option (Nat × Nat × Option Ctx)
  fetch : Option (Nat × Nat)
  confirmed : Nat
  savedAt : Nat
  healthNs : Nat
  healthAt : Option Nat
  meters : Nat
  current : Option (Nat × Tab Nat)
  revert : Option (Nat × Option Ctx)
  reverted : Option (Nat × Nat)
  legalOk : Bool
  bootRom : Bool
  svc : List Nat
  flash : Tab (List Nat)
  ptrs : Tab (List Nat)
  deriving DecidableEq, Repr

/-! ### Twin operation -/

/-- The shadow metering session of a Reserve (R484): session id, meter point, its value when it opened, and its latches of
the last 64 ms at the copied instants K (K in own MTB, import, export), newest first. -/
structure TwinShadow where
  id : Nat
  mp : Nat
  imp : Nat
  exp : Nat
  latches : List (Nat × Nat × Nat)
  deriving DecidableEq, Repr

/-- A session carried over at take-over (R485, R486): outlet, session id, the peer's import and export at K, the
Reserve's shadow latches at K, K in own MTB. -/
structure Carried where
  outlet : Nat
  id : Nat
  imp : Nat
  exp : Nat
  latchImp : Nat
  latchExp : Nat
  k : Nat
  deriving DecidableEq, Repr

/-- Twin operation (R474 to R487): TWIN_ACT_IN, and since when both activity lines are high; when the present role
was entered; preference of the peer; whether the peer's MTB offset is valid; meter points that the peer reports RUNNING,
a mask; the last copy received, copies received in a row, the peer's cycles whose copy came last and whose deadline was
judged last, each plus one; the copy being sent; copies missed since the last event and the instant of that
event plus one; coils that a take-over still has to bring on, and those refused; shadow sessions by outlet; carried
sessions; stop commands forwarded to the active module (opcode, mask) and the reply to the last one the peer forwarded;
whether the outputs of a yielded module are released; the outlets whose pilot driver is disconnected, a mask. The latches
of R484 are read from the classified energy, which is kept for 70 s by its instants. -/
structure TwinSt where
  actIn : Bool
  bothAt : Option Nat
  since : Nat
  peerPrefer : Bool
  ofsOk : Bool
  peerRun : Nat
  copy : Option TwinCopy
  inRow : Nat
  gotCycle : Nat
  dueCycle : Nat
  frozen : Option TwinCopy
  missed : Nat
  missAt1 : Nat
  wanted : Nat
  refused : Nat
  shadows : Tab (Option TwinShadow)
  carried : List Carried
  forwards : List (Nat × Nat)
  reply : Nat
  released : Bool
  pilotsOff : Nat
  deriving DecidableEq, Repr

/-! ### Supply -/

/-- The supply and the course of a stop: the cause stored for a restart without a loss of VIN; L and the end of the
running or last Last pour; the islands whose PROC_MON has raised PWR_PROC since the start, a mask; whether the AON
domain has lost VBAT since the last start; when XTAL49 last failed, and when PROC_MON was last sampled. -/
structure PwrSt where
  restart : Option Nat
  l : Nat
  pourEnd : Nat
  proc : Nat
  vbatLost : Bool
  xtalAt : Nat
  procAt : Nat
  deriving DecidableEq, Repr

/-! ### The whole module -/

/-- The state of the module and the queue of the commands that wait. -/
structure State where
  /-- Commands that wait, first in, first out. -/
  pending : List Instr
  /-- Register fields, by field and instance; unlisted fields hold their reset value. -/
  regs : Tab Nat
  /-- The module time base in ns, a 64-bit count (R20, R21). -/
  mtb : Nat
  /-- The modulo-768 accumulator of R20. -/
  mtbAcc : Nat
  /-- How many free values have been taken (the model's own field). -/
  fresh : Nat
  phase : Phase
  /-- The settings area in flash: saved values of restored fields, keyed as `regs` is, plus one (R516). -/
  settings : Tab Nat
  host : HostSt
  arch : ArchSt
  cask : CaskSt
  out : OutSt
  safe : SafeSt
  afe : AfeSt
  filt : FiltSt
  met : MetSt
  ledger : LedgerSt
  key : KeySt
  plc : PlcSt
  tag : TagSt
  disp : DispSt
  lsw : LswSt
  upd : UpdSt
  twin : TwinSt
  pwr : PwrSt
  deriving DecidableEq, Repr

/-- The HOST island and its MRAM areas as delivered. (DESIGN CHOICE, log 6) -/
def HostSt.init : HostSt :=
  { cfgReady := false, perstHigh := false, cfgAnswer := none, payloadSet := 128, readReqSet := 512, msix := .empty, pba := 0,
    enHeld := false, cmdFetch := .empty,
    cplProd := .empty, evProd := .empty, strFill := .empty, dbCmd := .empty, dbCpl := .empty, dbEv := .empty,
    dbStr := .empty, ownTaken := .empty, sharedTaken := 0, wrr := .empty, rr := .empty, inflight := [],
    stopHeld := [], cplHeld := [], hist := .empty, journal := [], seqNext := 0, seqBlocks := 0, gaps := .empty,
    evMem := .empty, cplMem := .empty, strMem := .empty, strSrc := .empty, strAddr := .empty, pollAt1 := 0, pollAddr := 0,
    statMem := .empty, notifFill := [], notifDrain := [],
    irqs := .empty, coal := .empty, destroys := [], heldWords := none, lockAt := 0, latched := .empty, readWords := [],
    dma := [], wrRefAt1 := 0, wrRefSince := 0 }

/-- The islands before the first control cycle. -/
def ArchSt.init : ArchSt :=
  { served := [], linkRaised := [], overrunRaised := false, deadline := false, cycleStart := 0, safeAlive := false, withhold := false,
    staged := 0, overruns := .empty }

/-- No Cask, no commit record. -/
def CaskSt.init : CaskSt := { slots := .empty, lastId := 0, records := [], disables := [] }

/-- The sampling front end at start. -/
def AfeSt.init : AfeSt :=
  { ovlSince := .empty, ovlFirst := .empty, ovlEvAt1 := .empty, run := .empty, pend := 0, dueAt := .empty, dueMet1 := .empty, delay := .empty, fast := .empty,
    loads := .empty, offs := 0, zeros := .empty, auxAt1 := .empty, auxRecs := [], caps := .empty, fellBack := 0 }

/-- The filter chains at start. -/
def FiltSt.init : FiltSt :=
  { trks := .empty, restartAt := .empty, chains := .empty, samples := .empty, blends := [], faded := [], ovfSince := .empty, ovfFirst := .empty, ovfEvAt1 := .empty }

/-- The metering engine at start. -/
def MetSt.init : MetSt :=
  { mps := .empty, pulses := .empty, runs := .empty, kept := .empty, calGain := .empty, waves := .empty, waveRecs := .empty, groups := .empty,
    tcPend := 0, tcNext := 0 }

/-- The ledger at manufacture. -/
def LedgerSt.init : LedgerSt :=
  { issued := 0, appended := 0, useNums := [], records := [], acked := 0, accts := .empty, maxD := .empty, sess := .empty, pends := [],
    reads := [], groups := 0, offMs := 0, ledgerHeld := 0, timeSet := false, steps := [], calendar := none,
    pending := none, subStart := 0, subWall := 0, subFlags := 0, lastClosed := 0, bound := none, held := none, moved := 0,
    billNo := 0, billStartL := 0, billStartW := 0, lastCmdAt1 := 0, bills := [], billCtx := none, challenge := none,
    cal := none, sealAt := 0, idleAt := 0, sealIdle := false, commits := 0, commitAt := 0, copyA := none, copyB := none, mark := none, markNum := 0,
    outageDue := false, sessNo := 0, legalItem := 0, legalUntil := 0, armed := false, tStop := none }

/-- The nodes at delivery: the fixed first level (table First-level nodes) and the nodes under it that the spec names,
each at generation 1 (R360) and without a key until the root is held. -/
def KeySt.delivered : List KNode :=
  let l := fun (s : String) => s.toList.map fun c => BitVec.ofNat 8 c.toNat
  let mk := fun (p : List String) (typ h : Nat) =>
    (⟨p.map l, typ, 1, if p.length = 1 then 0 else 1, false, false, 0, 0, h⟩ : KNode)
  [mk ["ATTEST"] 2 1, mk ["STORE"] 2 2, mk ["LEGAL"] 2 3, mk ["SAFE"] 2 4, mk ["APP"] 2 5, mk ["LEGAL", "SRF-SIGN"] 4 6,
   mk ["APP", "V2G-SECC"] 4 7, mk ["ATTEST", "DEVICE"] 5 8, mk ["ATTEST", "TRANSPORT"] 5 9, mk ["STORE", "CRED"] 2 10]

/-- The CRYPTO island at delivery. -/
def KeySt.init : KeySt :=
  { root := none, owner := 0, nodes := KeySt.delivered, cache := [], pins := [], masks := .empty, riddleAt := 0,
    testCtx := none, drbgIdx := 0, drbgReq := 0, reseedAt := 0, passes := 0, failTest := 0, testAt := 0, tryAt := 0, pufOver := false,
    anchors := .empty, attestCert := 0, credA := [], credB := [], deltas := [], load := none, manifest := none,
    badBlocks := [] }

/-- The modems off. -/
def PlcSt.init : PlcSt :=
  { queues := .empty, wait := none, air := [], seq := 0, ctr := 0, ctrBlocks := 0, links := .empty, reports := .empty,
    seen := .empty, ctrs := .empty, nodes := .empty, sfStart := 0, offNow := 0, silent := false, locked := false,
    beaconAt := 0, joinAt := 0, backoff := none, syncAt1 := .empty, syncRef1 := 0, limit := none, reqs := [],
    parts := [], rxRecs := [], noise := .empty, tones := .empty, ticks := 0, sentAt := .empty, sfBase := 0, adjNs := 0 }

/-- The contactless functions at delivery; blocks 0 and 1 of the own tag hold the capability container (R404).
(DESIGN CHOICE, PRESUMED, log 150, 258) -/
def TagSt.init : TagSt :=
  { handed := [], jobs := [], cables := .empty,
    blocks := ⟨[(0, { OwnBlock.init with v0 := 0x000040E2 }), (1, { OwnBlock.init with v0 := 0xFF010000 })]⟩, pwdOpen := false, aesOpen := false, wrong := 0,
    written := 0, firstWritten := 0, busyUntil := 0, hostOld := [], reply := [], pollAt := 0, sel := 0 }

/-- The displays at delivery: white, with no waveform loaded. (DESIGN CHOICE, log 112) -/
def DispSt.init : DispSt :=
  { wave := none, pend := .empty, shown := .empty, target := .empty, regions := .empty, orders := 0, pwrEn := false,
    pwrAt := 0, idleAt := 0, tempAt1 := 0, tempBand := 8, vint := .empty, vintSaved := .empty, imbal := [], segs := 0,
    want := 0, com := false, paint := none, safeHolds := false, senseAt := 0, frameEnd := 0, segEnd := 0,
    saveAt := 0 }

/-- The load switches off. -/
def LswSt.init : LswSt := { chans := .empty, hz := .empty, no := .empty, next := .empty, lowAt := .empty, win := 0 }

/-- The update engine at delivery: the image of manufacture in slot A, confirmed. -/
def UpdSt.init : UpdSt :=
  { slots := .empty, waves := .empty, man := none, bitmap := 0, idleAt := 0, act := none, fetch := none, confirmed := 0,
    savedAt := 0, healthNs := 0, healthAt := none, meters := 0, current := none, revert := none, reverted := none,
    legalOk := true, bootRom := false, svc := [], flash := .empty, ptrs := .empty }

/-- Twin operation disabled. -/
def TwinSt.init : TwinSt :=
  { actIn := false, bothAt := none, since := 0, peerPrefer := false, ofsOk := false, peerRun := 0, copy := none,
    inRow := 0, gotCycle := 0, dueCycle := 0, frozen := none, missed := 0, missAt1 := 0, wanted := 0, refused := 0,
    shadows := .empty, carried := [], forwards := [], reply := 0, released := false, pilotsOff := 0 }

/-- The supply before VIN is applied. (DEDUCED, log 117) -/
def PwrSt.init : PwrSt := { restart := none, l := 0, pourEnd := 0, proc := 0, vbatLost := true, xtalAt := 0, procAt := 0 }

/-- The module right after reset: as delivered, with VIN not yet applied, every register at its reset value and
nothing waiting. -/
def State.reset : State :=
  { pending := [], regs := .empty, mtb := 0, mtbAcc := 0, fresh := 0, phase := .noVin, settings := .empty, host := .init, arch := .init,
    cask := .init, out := .init, safe := .init, afe := .init, filt := .init, met := .init,
    ledger := .init,
    key := .init,
    plc := .init,
    tag := .init,
    disp := .init,
    lsw := .init,
    upd := .init,
    twin := .init,
    pwr := .init
  }

end Sys2Proof.Machine
end

