-- ==== Sys2Proof/Machine/Ops.lean ====
section
/-! DEFINITION. The shared operations of the module: register fields, the module time base, free values, events,
notifications, interrupts, completions. -/

namespace Sys2Proof.Machine

/-! ### Register fields -/

/-- A field's number in the register store: register and lowest bit. -/
def Fld.id (F : Fld) : Nat := F.reg * 512 + F.lo

/-- The reset value of a field at an instance (R9). (DESIGN CHOICE, log 5) -/
def Fld.reset (F : Fld) (n : Nat) : Nat :=
  match F.rst with
  | .const v => v
  | .inst => n
  | .half => n / 2
  | .parity => n % 2
  | .split k a b => if n < k then a else b
  | .tab vs => vs.getD n 0
  | .tone => Config.defaultToneMask (n % 37)

namespace State

/-- The value a register field holds at an instance. -/
def rd (s : State) (F : Fld) (n : Nat := 0) : Nat := s.regs.get (F.reset n) (key2 F.id n)

/-- Give a register field a value; bits above its width are lost. -/
def wr (s : State) (F : Fld) (n v : Nat) : State :=
  { s with regs := s.regs.put (F.reset n) (key2 F.id n) (trunc F.w v) }

/-- A value lies in a field's stated range (R514). -/
def inRange (F : Fld) (v : Nat) : Bool :=
  match F.rng with
  | none => true
  | some (a, b) => let z : Int := if F.sgn then dec F.w v else v; decide (a ≤ z) && decide (z ≤ b)

/-- Fields of a register family as the bits of its value. -/
def pack (s : State) (fs : List Fld) (n : Nat := 0) : Nat := fs.foldl (fun a F => a + s.rd F n * 2 ^ F.lo) 0

/-- Return a register field to its reset value. -/
def toReset (s : State) (F : Fld) (n : Nat) : State :=
  { s with regs := s.regs.put (F.reset n) (key2 F.id n) (F.reset n) }

/-- A one-bit field as a Boolean. -/
def flag (s : State) (F : Fld) (n : Nat := 0) : Bool := s.rd F n != 0

/-- Set or clear a one-bit field. -/
def setFlag (s : State) (F : Fld) (n : Nat) (b : Bool) : State := s.wr F n (b2n b)

/-- Add to a field that stops at its largest value. -/
def addSat (s : State) (F : Fld) (n k : Nat) : State := s.wr F n (satAdd F.w (s.rd F n) k)

/-- Count one in a field that stops at its largest value. -/
def incSat (s : State) (F : Fld) (n : Nat) : State := s.addSat F n 1

/-- The signed value of a field. -/
def rdInt (s : State) (F : Fld) (n : Nat := 0) : Int := dec F.w (s.rd F n)

/-- Write a signed value into a field. -/
def wrInt (s : State) (F : Fld) (n : Nat) (z : Int) : State := s.wr F n (enc F.w z)

/-- The MTB of the latest RTC second edge (R24). MTB_AT_SEC wraps at 64 bits as the MTB does, so an edge before the MTB's
zero reads as a negative instant. (DESIGN CHOICE, log 9) -/
def atSec (s : State) : Int := s.rdInt R.GLOBAL_MTB_UTC_MTB_AT_SEC

/-- Take the next free value: a value the spec leaves open. (DESIGN CHOICE, log 7) -/
def takeFree (s : State) : Nat × State := (Config.free s.fresh, { s with fresh := s.fresh + 1 })

/-- The module is running. -/
def up (s : State) : Bool := s.phase == .running

/-- METRO, LEDGER, SAFE, HSL and AON work: running, or between L and the end of Last pour (R490). -/
def core (s : State) : Bool := s.phase == .running || s.phase == .pour

/-! ### The module time base (R20) -/

/-- XTAL49 edges until the MTB first reaches `t`, from `mtb` with accumulator `acc`. Each edge adds 15,625/768 ns.
(DESIGN CHOICE, log 1) -/
def edgesTo (mtb acc t : Nat) : Nat :=
  if t ≤ mtb then 0 else (768 * (t - mtb) + 15624 - acc) / 15625

/-- Let `k` edges of XTAL49 pass: 20 ns each and 265/768 ns in the modulo-768 accumulator; the count wraps at 64 bits
(R20, R21). (DESIGN CHOICE, log 8) -/
def edges (s : State) (k : Nat) : State :=
  { s with mtb := (s.mtb + (15625 * k + s.mtbAcc) / 768) % 2 ^ 64, mtbAcc := (15625 * k + s.mtbAcc) % 768 }

/-- XTAL49 oscillates: VIN is valid and the rails hold (R21, R498). -/
def powered (s : State) : Bool := s.phase != .noVin && s.phase != .stopped

/-- Bring the MTB to the instant of an event: the first value at or after `t`; it never steps backward (R21). Without
power it stands. (DESIGN CHOICE, log 1, 8) -/
def advance (s : State) (t : Nat) : State := if s.powered then s.edges (edgesTo s.mtb s.mtbAcc t) else s

/-! ### Interrupts and notifications -/

/-- The HOST island is attached. -/
def attached (s : State) : Bool := !s.flag R.HOST_CTRL_DETACHED

/-- The reset value of a word of the MSI-X table: vectors start masked. (PRESUMED, log 199) -/
def msixReset (k : Nat) : Nat := if k % 4 = 3 then 1 else 0

/-- A vector's mask bit in the MSI-X table (table Base address registers). -/
def masked (s : State) (v : Nat) : Bool := bit (s.host.msix.get (msixReset (4 * v + 3)) (4 * v + 3)) 0

/-- Raise an interrupt on a vector while attached: one MSI-X message, or its pending bit while the vector is masked
(R34, R36). (PRESUMED, log 199) -/
def irq (s : State) (v : Nat) : State :=
  if s.attached then { s with host := { s.host with
    irqs := s.host.irqs.upd 0 v (· + 1), pba := if s.masked v then setBit s.host.pba v else s.host.pba } } else s

/-- Set a bit of GLOBAL.ALERT and raise its vector if the bit is enabled and was clear (R520). -/
def alert (s : State) (F : Fld) : State :=
  let was := s.flag F
  let s := s.wr F 0 1
  if !was && bit (s.rd R.GLOBAL_ALERT_EN_EN) F.lo then s.irq (s.rd R.GLOBAL_ALERT_EN_VECTOR) else s

/-- The filling bank becomes the draining bank when that is empty (R57). (DEDUCED, log 22) -/
def notifSwap (s : State) : State :=
  if s.host.notifDrain = [] then { s with host := { s.host with notifDrain := s.host.notifFill, notifFill := [] } } else s

/-- A word enters the filling bank; a full one passes its oldest word to the draining bank; when both banks are full,
the oldest word of all is lost (R57). (DEDUCED, log 22) -/
def notifPut (s : State) (w : Notif) : State :=
  let h := s.host
  if h.notifFill.length < 512 then { s with host := { h with notifFill := h.notifFill ++ [w] } }
  else
    let full := decide (512 ≤ h.notifDrain.length)
    let s := { s with host := { h with
      notifDrain := (if full then h.notifDrain.tail else h.notifDrain) ++ h.notifFill.take 1,
      notifFill := h.notifFill.tail ++ [w] } }
    if full then (s.incSat R.HOST_NOTIF_STAT_LOST 0).alert R.GLOBAL_ALERT_NOTIF_LOST else s

/-- MSI-X vector 0 is raised while the FIFO is not empty (R57). -/
def notifIrq (s : State) : State := if s.host.notifFill = [] && s.host.notifDrain = [] then s else s.irq 0

/-- Put a notification word into the FIFO (R57) and raise its vector. -/
def notify (s : State) (w : Notif) : State := (s.notifSwap.notifPut w).irq 0

/-- Count a new entry of a completion ring (`c` below 16) or event ring (16 + j) and raise its vector when
COAL_CNT entries or COAL_US have gathered, or at once when `now` (R46, descriptor flag IRQ).
(DESIGN CHOICE, log 26) -/
def coalesce (s : State) (c vector cnt us : Nat) (now : Bool) : State :=
  let k := s.host.coal.get ⟨0, 0⟩ c
  let k : Coal := ⟨k.n + 1, if k.n = 0 then s.mtb else k.since⟩
  if now || decide (cnt ≤ k.n) || (us != 0 && decide (k.since + us * 1000 ≤ s.mtb)) then
    ({ s with host := { s.host with coal := s.host.coal.put ⟨0, 0⟩ c ⟨0, 0⟩ } } : State).irq vector
  else { s with host := { s.host with coal := s.host.coal.put ⟨0, 0⟩ c k } }

/-! ### Rings written by the device -/

/-- Entries of a ring in use, from free-running 32-bit counts (R38). -/
def used (prod cons : Nat) : Nat := (prod + 2 ^ 32 - cons % 2 ^ 32) % 2 ^ 32

/-- The ring is enabled and was not refused (R39). -/
def cmdOn (s : State) (i : Nat) : Bool := s.flag R.HOST_CMDR_EN i && !s.flag R.HOST_CMDR_ERR i
/-- As for command rings. -/
def cplOn (s : State) (i : Nat) : Bool := s.flag R.HOST_CPLR_EN i && !s.flag R.HOST_CPLR_ERR i
/-- As for command rings. -/
def evOn (s : State) (j : Nat) : Bool := s.flag R.HOST_EVR_EN j && !s.flag R.HOST_EVR_ERR j
/-- As for command rings. -/
def strOn (s : State) (j : Nat) : Bool := s.flag R.HOST_STR_EN j && !s.flag R.HOST_STR_ERR j

/-- Room is left in an event ring. -/
def evRoom (s : State) (j : Nat) : Bool :=
  decide (used (s.host.evProd.get 0 j) (s.host.dbEv.get 0 j) < 2 ^ s.rd R.HOST_EVR_SIZE_LOG2 j)

/-- Completions waiting in a completion ring. -/
def cplUsed (s : State) (i : Nat) : Nat := used (s.host.cplProd.get 0 i) (s.host.dbCpl.get 0 i)

/-- Room is left in a completion ring. -/
def cplRoom (s : State) (i : Nat) : Bool := decide (s.cplUsed i < 2 ^ s.rd R.HOST_CPLR_SIZE_LOG2 i)

/-! ### Events -/

/-- The next device sequence number (R45, R54): blocks of 1,024 are reserved in MRAM as they are reached, and 0 is
never issued. -/
def issueSeq (s : State) : Nat × State :=
  let n := if s.host.seqNext % 2 ^ 32 = 0 then 1 else s.host.seqNext % 2 ^ 32
  let s := { s with host := { s.host with
      seqNext := n + 1,
      seqBlocks := if n / 1024 + 1 = s.host.seqBlocks then s.host.seqBlocks else n / 1024 + 1 } }
  (n, s.wr R.HOST_SYNC_GLOBAL_DEV_SEQ_HIGH 0 n)

/-- Write an event to the journal, which holds the 32,768 most recent (R55). -/
def journal (s : State) (e : Event) : State :=
  let full := decide (32768 ≤ s.host.journal.length)
  let lost := full && (match s.host.journal.getLast? with | some o => !o.got | none => false)
  let j := e :: (if full then s.host.journal.dropLast else s.host.journal)
  let s := { s with host := { s.host with journal := j } }
  let s := s.wr R.HOST_SYNC_GLOBAL_JOURNAL_LOW 0 ((j.getLast?.map (·.seq)).getD e.seq)
  if lost then (s.incSat R.HOST_SYNC_GLOBAL_JRN_LOST 0).alert R.GLOBAL_ALERT_JOURNAL_LOST else s

/-- Mark the newest journal entry as received by an event ring. -/
def journalGot (s : State) : State :=
  match s.host.journal with
  | e :: r => { s with host := { s.host with journal := { e with got := true } :: r } }
  | [] => s

/-- Write an event into a slot of an event ring, then its count (R42), notification and interrupt. -/
def putEvent (s : State) (j : Nat) (e : Event) : State :=
  let p := s.host.evProd.get 0 j
  let p' := (p + 1) % 2 ^ 32
  let none_ : Event := ⟨0, 0, 0, 0, 0, false, false, [], false⟩
  let s := { s with host := { s.host with
      evMem := s.host.evMem.put none_ (key2 j (p % 2 ^ s.rd R.HOST_EVR_SIZE_LOG2 j)) e,
      evProd := s.host.evProd.put 0 j p' } }
  let s := s.journalGot
  let s := s.notify ⟨2, j, 1, p'⟩
  s.coalesce (16 + j) (s.rd R.HOST_EVR_VECTOR j) (s.rd R.HOST_EVR_COAL_CNT j) (s.rd R.HOST_EVR_COAL_US j) false

/-- The lowest-numbered enabled event ring whose SRC_MASK selects a block (R43). -/
def eventRing (s : State) (block : Nat) : Option Nat :=
  (List.range 8).find? fun j => s.evOn j && bit (s.rd R.HOST_EVR_SRC_MASK j) (block - 1)

/-- Deliver a journalled event to its ring; a full ring, or one whose gap is not yet reported, skips it (R56). -/
def deliver (s : State) (e : Event) : State :=
  if !s.attached then s else
  match s.eventRing (e.code / 256) with
  | none => s
  | some j =>
    let g := s.host.gaps.get ⟨0, 0⟩ j
    if g.first = 0 && s.evRoom j then s.putEvent j e
    else { s with host := { s.host with
      gaps := s.host.gaps.put ⟨0, 0⟩ j ⟨if g.first = 0 then e.seq else g.first, e.seq⟩ } }

/-- Raise an event: it takes a device sequence number, is journalled, and goes to its event ring (R43, R45, R55). -/
def raise (s : State) (code inst : Nat) (payload : List Nat) : State :=
  let (n, s) := s.issueSeq
  let e : Event := ⟨n, s.rd R.HOST_SYNC_GLOBAL_EPOCH, code, s.mtb, inst, false, false, payload, false⟩
  (s.journal e).deliver e

/-- The newest event of a code, if the journal still holds one. -/
def lastEvent (s : State) (code : Nat) : Option Event := s.host.journal.find? fun e => e.code == code

/-! ### Completions -/

/-- Give a credit back (R46): to the class's own sixteen while some of them are taken, else to the shared pool. -/
def creditBack (s : State) (c : Option Nat) : State :=
  match c with
  | none => s
  | some k =>
    if 0 < s.host.ownTaken.get 0 k then { s with host := { s.host with ownTaken := s.host.ownTaken.upd 0 k (· - 1) } }
    else { s with host := { s.host with sharedTaken := s.host.sharedTaken - 1 } }

/-- Enter a status in a ring's status history (R52). The device sequence number of a PENDING entry is 0 after the fetch and that
of the ACCEPTED completion after it. (DESIGN CHOICE, log 260) -/
def setHist (s : State) (ring seq status dseq : Nat) : State :=
  { s with host := { s.host with
      hist := s.host.hist.put Hist.none (ring * 4096 + seq % 4096) ⟨seq + 1, status, dseq⟩ } }

/-- The history entry of a host sequence number, if it is stored. -/
def histOf (s : State) (ring seq : Nat) : Option Hist :=
  let h := s.host.hist.get Hist.none (ring * 4096 + seq % 4096)
  if h.seq1 = seq + 1 then some h else none

/-- The in-flight entry of a command. -/
def findInfl (s : State) (ring seq : Nat) : Option Infl :=
  s.host.inflight.find? fun e => e.ring == ring && e.seq == seq

/-- LAST_COMPLETED of a ring (HOST.SYNC): up to before the oldest fetched command without a completion. -/
def syncCompleted (s : State) (ring : Nat) : State :=
  let last := s.rd R.HOST_SYNC_LAST_FETCHED ring
  let open_ := s.host.inflight.filter fun e => e.ring == ring && !e.accepted
  let back := open_.foldl (fun m e => max m ((last + 2 ^ 32 - e.seq) % 2 ^ 32 + 1)) 0
  s.wr R.HOST_SYNC_LAST_COMPLETED ring ((last + 2 ^ 32 - back) % 2 ^ 32)

/-- Write a completion into its completion ring, with its count, notification and interrupt (R42, R57). -/
def putCompletion (s : State) (c : Completion) (now : Bool) : State :=
  let i := s.rd R.HOST_CMDR_CQ c.ring
  let p := s.host.cplProd.get 0 i
  let p' := (p + 1) % 2 ^ 32
  let s := { s with host := { s.host with
      cplMem := s.host.cplMem.put ⟨0, 0, 0, 0, 0, 0⟩ (key2 i (p % 2 ^ s.rd R.HOST_CPLR_SIZE_LOG2 i)) c,
      cplProd := s.host.cplProd.put 0 i p' } }
  let s := s.notify ⟨1, i, 1, p'⟩
  s.coalesce i (s.rd R.HOST_CPLR_VECTOR i) (s.rd R.HOST_CPLR_COAL_CNT i) (s.rd R.HOST_CPLR_COAL_US i) now

/-- Journal a completion made while the host is detached as HELD_COMPLETION (R64). (DESIGN CHOICE, log 23) -/
def holdCompletion (s : State) (c : Completion) : State :=
  let e : Event := ⟨c.dseq, s.rd R.HOST_SYNC_GLOBAL_EPOCH, Ev.HELD_COMPLETION, s.mtb, 0, false, true,
    [c.dseq, c.seq, c.tag, c.status, c.ring, c.result], false⟩
  s.journal e

/-- Fetched commands, stop-ring ones apart, that still need a slot of a completion ring (R47). -/
def cplOwed (s : State) (cq : Nat) : Nat :=
  (s.host.inflight.filter fun e => !e.accepted && e.ring != 0 && s.rd R.HOST_CMDR_CQ e.ring == cq).length

/-- A stop completion can be written: its ring has a slot that no other fetched command needs (R47, R49).
(DESIGN CHOICE, log 200) -/
def stopRoom (s : State) : Bool :=
  let cq := s.rd R.HOST_CMDR_CQ 0
  s.cplOn cq && decide (s.cplUsed cq + s.cplOwed cq < 2 ^ s.rd R.HOST_CPLR_SIZE_LOG2 cq)

/-- A completion of another command ring can be written: none waits before it, and its ring has room.
(DESIGN CHOICE, log 200) -/
def cplReady (s : State) (ring : Nat) : Bool :=
  let cq := s.rd R.HOST_CMDR_CQ ring
  s.cplOn cq && s.cplRoom cq && !s.host.cplHeld.any fun c => s.rd R.HOST_CMDR_CQ c.ring == cq

/-- Write a completion where it can go (R46, R47, R49, R64): into its ring; without room there, held inside the module;
while detached, into the journal. -/
def writeCompletion (s : State) (c : Completion) (now : Bool) : State :=
  if !s.attached then s.holdCompletion c
  else if c.ring = 0 then
    if s.host.stopHeld = [] && s.stopRoom then s.putCompletion c now
    else { s with host := { s.host with stopHeld := s.host.stopHeld ++ [c] } }
  else if s.cplReady c.ring then s.putCompletion c now
  else { s with host := { s.host with cplHeld := s.host.cplHeld ++ [c] } }

/-- Drop a command from the in-flight table, or mark it accepted; either way it holds no credit any more. -/
def settleInfl (s : State) (ring seq : Nat) (accepted : Bool) : State :=
  { s with host := { s.host with inflight :=
      if accepted then s.host.inflight.map fun e =>
        if e.ring == ring && e.seq == seq then { e with accepted := true, credit := none } else e
      else s.host.inflight.filter fun e => !(e.ring == ring && e.seq == seq) } }

/-- Complete a command (R46, R52): its completion takes a device sequence number, its credit returns, and its status
enters the history, where an accepted command stays PENDING until its outcome. -/
def complete (s : State) (x : Ctx) (status : Nat) (result : Nat := 0) : State :=
  let (n, s) := s.issueSeq
  let credit := ((s.findInfl x.ring x.seq).map (·.credit)).getD none
  let s := (s.settleInfl x.ring x.seq (status == St.ACCEPTED)).creditBack credit
  let s := s.setHist x.ring x.seq (if status = St.ACCEPTED then St.PENDING else status) n
  let s := s.syncCompleted x.ring
  s.writeCompletion ⟨n, x.seq, x.tag, status, x.ring, trunc 96 result⟩ (bit x.flags 2)

/-- The final outcome of a command that completed ACCEPTED: the event just raised carries it (R52). -/
def finalise (s : State) (x : Ctx) (status : Nat) : State :=
  ((s.settleInfl x.ring x.seq false).setHist x.ring x.seq status (s.rd R.HOST_SYNC_GLOBAL_DEV_SEQ_HIGH))

/-- As `finalise`, where a command owes the outcome at all. -/
def finaliseOpt (s : State) (x : Option Ctx) (status : Nat) : State :=
  match x with
  | some x => s.finalise x status
  | none => s

/-- Save a restored field in the settings area, once the set-up lock is set (R516) and while the area can be written (R387). The entry is the value plus one,
so that a saved 0 differs from no entry. -/
def save (s : State) (F : Fld) (n : Nat) : State :=
  if F.saved && s.flag R.GLOBAL_SETUP_LOCK_LOCK && !s.flag R.KEY_WEAR_READ_ONLY 6 then
    { s with settings := s.settings.put 0 (key2 F.id n) (s.rd F n + 1) } else s

/-- Write a field and save it where it is a restored one. (DESIGN CHOICE, log 38) -/
def wrSave (s : State) (F : Fld) (n v : Nat) : State := (s.wr F n v).save F n

/-- Give the host the contents of a command's indirect buffer; while detached there is no DMA (R63).
(DESIGN CHOICE, log 201) -/
def giveBuffer (s : State) (data : List Nat) : State :=
  if s.attached then { s with host := { s.host with dma := data } } else s

/-! ### Cask slots and other blocks' small accessors -/

/-- A Cask slot or close context. -/
def slot (s : State) (k : Nat) : CaskSlot := s.cask.slots.get CaskSlot.init k

/-- Replace a Cask slot. -/
def setSlot (s : State) (k : Nat) (c : CaskSlot) : State :=
  { s with cask := { s.cask with slots := s.cask.slots.put CaskSlot.init k c } }

/-- Change a Cask slot. -/
def modSlot (s : State) (k : Nat) (f : CaskSlot → CaskSlot) : State := s.setSlot k (f (s.slot k))

end State

/-- An event on the running module: the MTB comes to its instant and, if the module runs, it has its effect.
(DESIGN CHOICE, log 2) -/
def onEvent (s : State) (t : Nat) (f : State → State) : State :=
  let s := s.advance t
  if s.up then f s else s

/-- An event of the islands that also work between L and the end of Last pour (R490). (DESIGN CHOICE, log 2) -/
def onCore (s : State) (t : Nat) (f : State → State) : State :=
  let s := s.advance t
  if s.core then f s else s

end Sys2Proof.Machine
end

