-- ==== Sys2Proof/Machine/KeyOps.lean ====
section
/-! DEFINITION. The key store: the derivation tree and its generations, the cache, the DRBG, owner signatures
(R352 to R376). -/

namespace Sys2Proof.Machine

/-- The bits a key type takes from the output of the KDF (R360): an EC private key the bit length of its order plus 64,
an Ed448 key its 57-byte seed. (PRESUMED, log 136) -/
def keyBits : Nat → Nat
  | 1 => 128
  | 2 => 256
  | 3 => 256
  | 4 => 320
  | 5 => 448
  | 6 => 585
  | 7 => 456
  | _ => 448

/-- The order of the curve of an EC key type (FIPS 186): P-256, P-384, P-521. (PRESUMED, log 136) -/
def curveOrder : Nat → Option Nat
  | 4 => some 0xFFFFFFFF00000000FFFFFFFFFFFFFFFFBCE6FAADA7179E84F3B9CAC2FC632551
  | 5 => some 0xFFFFFFFFFFFFFFFFFFFFFFFFFFFFFFFFFFFFFFFFFFFFFFFFC7634D81F4372DDF581A0DB248B0A77AECEC196ACCC52973
  | 6 => some 0x01FFFFFFFFFFFFFFFFFFFFFFFFFFFFFFFFFFFFFFFFFFFFFFFFFFFFFFFFFFFFFFFFFFFA51868783BF2F966B7FCC0148F709A5D03BB5C9B8899C47AEBB6FB71E91386409
  | _ => none

/-- A key from a KDF output (R360). -/
def keyFrom (typ out : Nat) : Nat :=
  let o := out % 2 ^ keyBits typ
  match curveOrder typ with
  | some n => 1 + o % (n - 1)
  | none => o

/-- The key of a derived node (R360): the KDF keyed by the parent's key, over the label, the generations of the parent
and of the node, the key type and the depth. -/
def deriveKey (parent : Nat) (label : List Byte) (parentGen gen typ depth : Nat) : Nat :=
  keyFrom typ (Config.kdf ([parent] ++ label.map (·.toNat) ++ [parentGen, gen, typ, depth]))

/-- A key type has a public key (table Key types). -/
def asymmetric (typ : Nat) : Bool := decide (4 ≤ typ) && decide (typ ≤ 8)

/-- A text of ASCII characters as label bytes. -/
def label (s : String) : List Byte := s.toList.map fun c => BitVec.ofNat 8 c.toNat

/-- The path of the ledger's signing key (R311, table First-level nodes). -/
def pathSign : List (List Byte) := [label "LEGAL", label "SRF-SIGN"]

/-- The path of the attestation key (R376). -/
def pathDevice : List (List Byte) := [label "ATTEST", label "DEVICE"]

/-- One path lies strictly beneath another. -/
def beneath (p q : List (List Byte)) : Bool := decide (p.length < q.length) && p == q.take p.length

namespace State

/-- The node of a path. -/
def node? (s : State) (p : List (List Byte)) : Option KNode := s.key.nodes.find? fun n => n.path == p

/-- Change the node of a path. -/
def modNode (s : State) (p : List (List Byte)) (f : KNode → KNode) : State :=
  { s with key := { s.key with nodes := s.key.nodes.map fun n => if n.path == p then f n else n } }

/-- The key of a path below a held key: derived step by step, an installed node's own key as it is. -/
def keyBelow (s : State) : Nat → List (List Byte) → List (List Byte) → Option Nat
  | k, _, [] => some k
  | k, pre, l :: r =>
    let p := pre ++ [l]
    match s.node? p with
    | none => none
    | some n => keyBelow s (if n.installed then n.key else deriveKey k l n.parentGen n.gen n.typ p.length) p r

/-- The key of a node; none without the root. (DESIGN CHOICE, log 137) -/
def nodeKey (s : State) (p : List (List Byte)) : Option Nat := s.key.root.bind fun r => s.keyBelow r [] p

/-- The public key of a node. -/
def nodePub (s : State) (n : KNode) : Nat := Config.pub n.typ ((s.nodeKey n.path).getD 0)

/-- The key store's mode. -/
def keyMode (s : State) : Nat := s.rd R.KEY_STATUS_MODE

/-- Enter a key store mode (table Mode transitions). The causes: 0 the course of a start, 1 a known-answer test failed,
2 regeneration failed, 3 KEY_SELFTEST. (DEDUCED, log 146) -/
def setKeyMode (s : State) (m cause : Nat) : State :=
  let old := s.keyMode
  if old = m then s else (s.wr R.KEY_STATUS_MODE 0 m).raise Ev.KEY_STATE 0 [old, m, cause]

/-! ### DRBG -/

/-- The DRBG runs (R375). (DESIGN CHOICE, log 145) -/
def drbgOk (s : State) : Bool := s.flag R.KEY_DRBG_HEALTH_OK

/-- Reseed the DRBG (R375). -/
def reseed (s : State) : State :=
  ({ s with key := { s.key with drbgReq := 0, reseedAt := s.mtb } } : State).incSat R.KEY_DRBG_RESEEDS 0

/-- The next `bits` bits of the DRBG, which reseeds after every 2^20 requests (R375). -/
def drbgNext (s : State) (bits : Nat) : Nat × State :=
  let v := Config.drbg s.key.drbgIdx bits % 2 ^ bits
  let n := s.key.drbgReq + 1
  let s := { s with key := { s.key with drbgIdx := s.key.drbgIdx + 1, drbgReq := n } }
  (v, if 2 ^ 20 ≤ n then s.reseed else s)

/-! ### Cache -/

/-- Bring the counts of KEY.CACHE to the state. -/
def cacheCounts (s : State) : State :=
  ((s.wr R.KEY_CACHE_USED 0 s.key.cache.length).wr R.KEY_CACHE_PINNED 0 s.key.pins.length).wr R.KEY_CACHE_NODES 0
    s.key.nodes.length

/-- Use a node (R363): a cached one becomes the most recent; another is derived, which evicts the least recently used
unpinned entry of a full cache. It is held as two shares (R367). -/
def useNode (s : State) (h : Nat) : State :=
  if s.key.cache.contains h then { s with key := { s.key with cache := h :: s.key.cache.filter (· != h) } }
  else
    let (mask, s) := s.drbgNext 256
    let full := decide (1024 ≤ s.key.cache.length)
    let out := if full then s.key.cache.reverse.find? (fun k => !s.key.pins.contains k) else none
    let keep := match out with
      | some k => s.key.cache.filter (· != k)
      | none => s.key.cache
    let masks := match out with
      | some k => s.key.masks.put 0 k 0
      | none => s.key.masks
    let s := { s with key := { s.key with cache := h :: keep, masks := masks.put 0 h mask } }
    (s.incSat R.KEY_CACHE_MISSES 0).cacheCounts

/-- Clear the cache and every key register but the one (R357). -/
def clearKeys (s : State) : State :=
  ({ s with key := { s.key with root := none, cache := [], pins := [], masks := .empty } } : State).cacheCounts

/-! ### Root -/

/-- Enter RECOVERY (R355, R358): no root, the single register empty. -/
def keyRecovery (s : State) (cause : Nat) : State := (s.clearKeys.wr R.KEY_STATUS_ROOT_OK 0 0).setKeyMode 4 cause

/-- One attempt to regenerate the root (R352, R354 to R356): `ber` is the raw cell error rate in 0.01 % of an attempt
that reproduces the root check value, none for one that fails. With the root held the tree is loaded and the cache
unlocked; after three failures the store enters RECOVERY. -/
def regenerate (s : State) (ber : Option Nat) : State :=
  let s := { s.wr R.KEY_PUF_STAT_ATTEMPTS 0 (s.rd R.KEY_PUF_STAT_ATTEMPTS + 1) with key := { s.key with tryAt := s.mtb } }
  match ber with
  | some b =>
    let s := (s.wr R.KEY_PUF_STAT_BER 0 b).wr R.KEY_PUF_STAT_BER_MAX 0 (max b (s.rd R.KEY_PUF_STAT_BER_MAX))
    let s := { s with key := { s.key with root := some (Config.factory 0), pins := [1, 2, 9], pufOver := true } }
    let s := s.wr R.KEY_STATUS_ROOT_OK 0 1
    let s := if 1200 < b then s.raise Ev.PUF_HEALTH 0 [b, s.rd R.KEY_PUF_STAT_ATTEMPTS] else s
    (forEach [1, 2, 9] (fun h s => s.useNode h) s).setKeyMode 2 0
  | none => if 3 ≤ s.rd R.KEY_PUF_STAT_ATTEMPTS then s.keyRecovery 2 else s

/-! ### Generations -/

/-- Raise the generation of a node and make its descendants STALE (R364, R365). Answers how many became so.
(DESIGN CHOICE, log 142) -/
def invalidate (s : State) (p : List (List Byte)) : Nat × State :=
  let n := s.key.nodes.countP fun m => beneath p m.path && !m.stale && !m.installed
  let s := s.modNode p fun m => { m with gen := m.gen + 1, cert := 0 }
  let ns := s.key.nodes.map fun m => if beneath p m.path && !m.installed then { m with stale := true } else m
  (n, { s with key := { s.key with nodes := ns } })

/-- Re-derive one node under its parent's current generation (R366). -/
def rederiveOne (s : State) (p : List (List Byte)) : State :=
  let pg := ((s.node? p.dropLast).map (·.gen)).getD 0
  s.modNode p fun m => if m.stale then { m with stale := false, gen := m.gen + 1, parentGen := pg, cert := 0 } else m

/-- Re-derive a node after its STALE ancestors, from the top down (R366). -/
def rederive (s : State) (p : List (List Byte)) : State :=
  forEach ((List.range p.length).map fun i => p.take (i + 1)) (fun q s => s.rederiveOne q) s

/-- The generation of the ledger node of the key tree, which signs the records (R311). -/
def ledgerGen (s : State) : Nat := ((s.node? pathSign).map (·.gen)).getD 0

/-! ### Owner signatures -/

/-- Why an owner signature is not accepted (R369). -/
def ownerBad (s : State) (g : OwnerSig) : Option Nat :=
  if !s.flag R.KEY_STATUS_OWNER_SET || !g.ok then some St.BAD_SIGNATURE
  else if g.counter ≤ s.rd R.KEY_OWNER_CTR_CTR || 2 ^ 32 ≤ g.counter then some St.OWNER_REPLAY else none

/-- An accepted owner-signed command sets KEY.OWNER_CTR (R369). (DESIGN CHOICE, log 141) -/
def ownerTook (s : State) (g : OwnerSig) : State := s.wr R.KEY_OWNER_CTR_CTR 0 g.counter

/-- A flash area is read-only (R387). -/
def worn (s : State) (a : Nat) : Bool := s.flag R.KEY_WEAR_READ_ONLY a

end State
end Sys2Proof.Machine
end

