-- ==== Sys2Proof/Machine/HostOps.lean ====
section
/-! DEFINITION. The shared operations of the host link and of the Cask coordinator: what every ring command passes
before it has its effect, staging in a Cask, aborting a Cask, enabling rings, fetching descriptors. -/

namespace Sys2Proof.Machine

/-- The island that runs a block's commands, by block byte (tables Islands and Base of BAR0). -/
def blockIsland : Nat → Nat
  | 0x01 => 0 | 0x02 => 9 | 0x03 => 1 | 0x04 => 2 | 0x05 => 5 | 0x06 => 4 | 0x07 => 4 | 0x08 => 9
  | 0x09 => 8 | 0x0A => 3 | 0x0B => 5 | 0x0C => 10 | 0x0D => 11 | 0x0E => 9 | 0x0F => 1 | _ => 13

/-- The stop-class opcodes (R50): the outlet stop and energy removal. -/
def stopClass (op : Nat) : Bool := op == Op.SESSION_STOP || op == Op.OUT_EREM

/-- The Cask-capable opcodes (R69). -/
def caskCapable (op : Nat) : Bool :=
  [Op.OUT_CONTACTOR, Op.OUT_PILOT_DUTY, Op.OUT_PM_SETPOINT, Op.MET_SESSION_OPEN, Op.MET_SESSION_CLOSE,
   Op.LEDGER_SESSION_RECORD, Op.LEDGER_READ_SIGNED, Op.LEDGER_TARIFF_SELECT, Op.DISP_UPDATE].contains op

/-- Two ranges of numbers meet. -/
def rangesMeet (a la b lb : Nat) : Bool := decide (a < b + lb) && decide (b < a + la)

/-- Two actions act on one resource (R73): the same contactor, pilot, power module, metering session, ledger session
or tariff, or overlapping parts of the display. -/
def sameResource : CaskAct → CaskAct → Bool
  | .contactor n _, .contactor m _ => n == m
  | .pilotDuty n _, .pilotDuty m _ => n == m
  | .pmSetpoint n .., .pmSetpoint m .. => n == m
  | .metOpen m _, .metOpen k _ => m == k
  | .metOpen m _, .metClose k => m == k
  | .metClose m, .metOpen k _ => m == k
  | .metClose m, .metClose k => m == k
  | .recOpen n .., .recOpen m .. => n == m
  | .recOpen n .., .recClose m .. => n == m
  | .recClose n .., .recOpen m .. => n == m
  | .recClose n .., .recClose m .. => n == m
  | .tariff a _ _, .tariff b _ _ => (List.range 12).any fun m => bit a m && bit b m
  | .dispUpdate x y w h _, .dispUpdate x' y' w' h' _ => rangesMeet x w x' w' && rangesMeet y h y' h'
  | _, _ => false

/-- The outlet whose contactor, pilot or power module an action drives. -/
def actOutlet : CaskAct → Option Nat
  | .contactor n _ => some n
  | .pilotDuty n _ => some n
  | .pmSetpoint n .. => some n
  | _ => none

/-- The island that applies an action (R81). -/
def actIsland : CaskAct → Nat
  | .contactor .. => 12
  | .pilotDuty .. => 11
  | .pmSetpoint .. => 1
  | .metOpen .. => 4
  | .metClose .. => 4
  | .dispUpdate .. => 10
  | _ => 9

/-- The participants of a Cask (R81): the islands that apply its actions, and LEDGER always. -/
def participants (acts : List CaskAct) : List Nat :=
  let of := fun (a : CaskAct) => match a with
    | .contactor .. => [2, 12]
    | .pilotDuty .. => [11]
    | .pmSetpoint .. => [1]
    | .metOpen .. => [4]
    | .metClose .. => [4]
    | .dispUpdate .. => [10]
    | _ => [9]
  (List.range 14).filter fun i => i == 9 || acts.any fun a => (of a).contains i

/-- The block byte and instance of the function an action belongs to (R84). An action on a mask of meter points belongs to
each of them: the instance named here is 0. (DESIGN CHOICE, log 45) -/
def actFunction : CaskAct → Nat × Nat
  | .contactor n _ => (0x03, n)
  | .pilotDuty n _ => (0x03, n)
  | .pmSetpoint n .. => (0x03, n)
  | .metOpen m _ => (0x07, m)
  | .metClose m => (0x07, m)
  | .recOpen _ m .. => (0x08, m)
  | .recClose _ m _ => (0x08, m)
  | .readSigned _ => (0x08, 0)
  | .tariff .. => (0x08, 0)
  | .dispUpdate .. => (0x0C, 0)

/-- An action is an action of a function (R84). -/
def actOn (block inst : Nat) (a : CaskAct) : Bool :=
  match a with
  | .readSigned mask => block == 0x08 && bit mask inst
  | .tariff mask _ _ => block == 0x08 && bit mask inst
  | a => actFunction a == (block, inst)

/-- The opcode that commands an action (R69). -/
def actOp : CaskAct → Nat
  | .contactor .. => Op.OUT_CONTACTOR
  | .pilotDuty .. => Op.OUT_PILOT_DUTY
  | .pmSetpoint .. => Op.OUT_PM_SETPOINT
  | .metOpen .. => Op.MET_SESSION_OPEN
  | .metClose .. => Op.MET_SESSION_CLOSE
  | .recOpen .. => Op.LEDGER_SESSION_RECORD
  | .recClose .. => Op.LEDGER_SESSION_RECORD
  | .readSigned .. => Op.LEDGER_READ_SIGNED
  | .tariff .. => Op.LEDGER_TARIFF_SELECT
  | .dispUpdate .. => Op.DISP_UPDATE

/-- A Cask that holds its actions in shadow state (R73). -/
def CaskSlot.holds (c : CaskSlot) : Bool :=
  [CaskState.preparing, .prepared, .armed, .recorded].contains c.st

/-- A Cask that can still abort (R72). -/
def CaskSlot.abortable (c : CaskSlot) : Bool :=
  [CaskState.opened, .preparing, .prepared, .armed].contains c.st

/-- The outlet a slot is the close context of, or 0xFF (table CASK events). (DESIGN CHOICE, log 43) -/
def closeOutlet (k : Nat) : Nat := if k < 8 then 0xFF else k - 8

namespace State

/-! ### Casks -/

/-- The slot that holds a Cask id. -/
def findCask (s : State) (id : Nat) : Option Nat :=
  (List.range 8).find? fun k => (s.slot k).id == id && (s.slot k).st != .free && id != 0

/-- The Cask that holds a resource of an action, other than slot `me` (R73). -/
def heldBy (s : State) (me : Nat) (a : CaskAct) : Option Nat :=
  (List.range 16).find? fun k => k != me && (s.slot k).holds && (s.slot k).acts.any (sameResource a)

/-- The regions armed for a Cask slot are freed: its abort leaves no trace in the display (R419). -/
def dropArmed (s : State) (k : Nat) : State :=
  { s with disp := { s.disp with
    regions := ⟨s.disp.regions.cells.filter fun (c : Nat × DRegion) => !(c.2.st == .armed && c.2.cask == k)⟩ } }

/-- A slot returns to FREE with its last status. -/
def freeSlot (s : State) (k : Nat) (status : Nat) : State :=
  (s.dropArmed k).setSlot k { CaskSlot.init with lastStatus := status }

/-- Abort a Cask (R72): its shadow state is discarded, CASK_ABORTED is raised, and the command that waits for it
gets its final status: a PREPARE still running completes, an accepted COMMIT is finalised. -/
def abortCask (s : State) (k status failIdx failIsland : Nat) (result : Nat := 0) : State :=
  let c := s.slot k
  let s := s.incSat R.CASK_STAT_ABORTED 0
  let s := s.raise Ev.CASK_ABORTED 0 [c.id, closeOutlet k, status, failIdx, failIsland]
  let s := match c.st, c.ctx with
    | .preparing, some x => s.complete x status result
    | _, some x => s.finalise x status
    | _, none => s
  s.freeSlot k status

/-- Stage an action in a Cask (R68, R70). (DESIGN CHOICE, log 41) -/
def stage (s : State) (x : Ctx) (a : CaskAct) : State :=
  match s.findCask x.cask with
  | none => s.complete x St.UNKNOWN_CASK
  | some k =>
    let c := s.slot k
    if c.st ≠ .opened then s.complete x St.BAD_STATE
    else if 16 ≤ c.acts.length then s.complete x St.ACTION_LIMIT
    else (s.setSlot k { c with acts := c.acts ++ [a] }).complete x St.OK c.acts.length

/-! ### Power states -/

/-- An island is stopped in METER (R501, R502): its clock stops and it reads READY 0. -/
def islandStop (s : State) (i : Nat) : State :=
  ((s.wr R.GLOBAL_ISLAND_STAT_READY i 0).wr R.GLOBAL_ISLAND_STAT_CLK_OK i 0).wr R.GLOBAL_ISLAND_STAT_ASLEEP i 1

/-- An island that METER has stopped runs again. -/
def islandGo (s : State) (i : Nat) : State :=
  ((s.wr R.GLOBAL_ISLAND_STAT_READY i 1).wr R.GLOBAL_ISLAND_STAT_CLK_OK i 1).wr R.GLOBAL_ISLAND_STAT_ASLEEP i 0

/-- Return from METER to RUN (R502): the stopped islands are ready again. -/
def wakeRun (s : State) (cause : Nat) : State :=
  if s.rd R.PWR_STAT_MODE = 1 then
    let s := forEach [6, 7, 8, 10] (fun i s => s.islandGo i) s
    (s.wr R.PWR_STAT_MODE 0 0).raise Ev.PWR_MODE_CHG 0 [1, 0, cause]
  else s

/-- A block has a part that METER stops (R501): the modems and the display matrix. -/
def stoppedInMeter (block : Nat) : Bool := block == 0x09 || block == 0x0C

/-! ### Rings -/

/-- Slot 0 to the last byte of a ring's memory, if it is configured, that is enabled and not refused.
(DESIGN CHOICE, log 206) -/
def ringSpan (s : State) : RingKind → Nat → Option (Nat × Nat)
  | .command, i => if s.cmdOn i then some (s.rd R.HOST_CMDR_BASE i * 4096, 64 * 2 ^ s.rd R.HOST_CMDR_SIZE_LOG2 i) else none
  | .completion, i => if s.cplOn i then some (s.rd R.HOST_CPLR_BASE i * 4096, 32 * 2 ^ s.rd R.HOST_CPLR_SIZE_LOG2 i) else none
  | .event, i => if s.evOn i then some (s.rd R.HOST_EVR_BASE i * 4096, 64 * 2 ^ s.rd R.HOST_EVR_SIZE_LOG2 i) else none
  | .stream, i => if s.strOn i then some (s.rd R.HOST_STR_BASE i * 4096, 16 * 2 ^ s.rd R.HOST_STR_SIZE_LOG2 i) else none

/-- Every ring: kind and number. -/
def allRings : List (RingKind × Nat) :=
  (List.range 16).map (RingKind.command, ·) ++ (List.range 16).map (RingKind.completion, ·)
    ++ (List.range 8).map (RingKind.event, ·) ++ (List.range 8).map (RingKind.stream, ·)

/-- How many rings of a kind there are. -/
def ringCount : RingKind → Nat
  | .command => 16 | .completion => 16 | .event => 8 | .stream => 8

/-- A ring's memory overlaps another configured ring (R39). -/
def ringOverlaps (s : State) (kind : RingKind) (i : Nat) (base len : Nat) : Bool :=
  allRings.any fun r => r != (kind, i) &&
    match s.ringSpan r.1 r.2 with
    | some (b, l) => rangesMeet base len b l
    | none => false

/-- Zero a ring's counts as it is enabled (R542); a command ring without RESUME starts an empty history with
LAST_FETCHED one before START_SEQ (R51). (DESIGN CHOICE, log 25) -/
def startRing (s : State) (kind : RingKind) (i : Nat) : State :=
  match kind with
  | .command =>
    let s := { s with host := { s.host with
      cmdFetch := s.host.cmdFetch.put 0 i 0, dbCmd := s.host.dbCmd.put 0 i 0 } }
    if s.flag R.HOST_CMDR_RESUME i then s else
      let last := (s.rd R.HOST_CMDR_START_SEQ i + (2 ^ 32 - 1)) % 2 ^ 32
      let s := { s with host := { s.host with
        hist := ⟨s.host.hist.cells.filter fun c => c.1 / 4096 != i⟩ } }
      (s.wr R.HOST_SYNC_LAST_FETCHED i last).wr R.HOST_SYNC_LAST_COMPLETED i last
  | .completion => { s with host := { s.host with
      cplProd := s.host.cplProd.put 0 i 0, dbCpl := s.host.dbCpl.put 0 i 0, coal := s.host.coal.put ⟨0, 0⟩ i ⟨0, 0⟩ } }
  | .event => { s with host := { s.host with
      evProd := s.host.evProd.put 0 i 0, dbEv := s.host.dbEv.put 0 i 0,
      coal := s.host.coal.put ⟨0, 0⟩ (16 + i) ⟨0, 0⟩, gaps := s.host.gaps.put ⟨0, 0⟩ i ⟨0, 0⟩ } }
  | .stream => { s with host := { s.host with
      strFill := s.host.strFill.put 0 i 0, dbStr := s.host.dbStr.put 0 i 0 } }

/-- The register image of a ring register, its four words as one number: the bits of a field. -/
def imageField (F : Fld) (image : Nat) : Nat := bits image F.lo F.w

/-- Write a list of fields of one register from an image. -/
def writeFields (s : State) (fs : List Fld) (i image : Nat) : State :=
  forEach fs (fun F s => s.wr F i (imageField F image)) s

/-- The fields of a ring register that the host writes. -/
def ringFields : RingKind → List Fld
  | .command => [R.HOST_CMDR_BASE, R.HOST_CMDR_SIZE_LOG2, R.HOST_CMDR_PRIO, R.HOST_CMDR_CQ, R.HOST_CMDR_RESUME,
      R.HOST_CMDR_EN, R.HOST_CMDR_START_SEQ]
  | .completion => [R.HOST_CPLR_BASE, R.HOST_CPLR_SIZE_LOG2, R.HOST_CPLR_VECTOR, R.HOST_CPLR_COAL_CNT,
      R.HOST_CPLR_COAL_US, R.HOST_CPLR_EN]
  | .event => [R.HOST_EVR_BASE, R.HOST_EVR_SRC_MASK, R.HOST_EVR_SIZE_LOG2, R.HOST_EVR_VECTOR, R.HOST_EVR_COAL_CNT,
      R.HOST_EVR_COAL_US, R.HOST_EVR_EN]
  | .stream => [R.HOST_STR_BASE, R.HOST_STR_SOURCES, R.HOST_STR_SIZE_LOG2, R.HOST_STR_VECTOR, R.HOST_STR_EN]

/-- EN, ERR, BASE and SIZE_LOG2 of a kind of ring, and its entry size. -/
def ringKeyFields : RingKind → Fld × Fld × Fld × Fld × Nat
  | .command => (R.HOST_CMDR_EN, R.HOST_CMDR_ERR, R.HOST_CMDR_BASE, R.HOST_CMDR_SIZE_LOG2, 64)
  | .completion => (R.HOST_CPLR_EN, R.HOST_CPLR_ERR, R.HOST_CPLR_BASE, R.HOST_CPLR_SIZE_LOG2, 32)
  | .event => (R.HOST_EVR_EN, R.HOST_EVR_ERR, R.HOST_EVR_BASE, R.HOST_EVR_SIZE_LOG2, 64)
  | .stream => (R.HOST_STR_EN, R.HOST_STR_ERR, R.HOST_STR_BASE, R.HOST_STR_SIZE_LOG2, 16)

/-- The ring is enabled and was not refused. -/
def ringOn (s : State) (kind : RingKind) (i : Nat) : Bool :=
  s.flag (ringKeyFields kind).1 i && !s.flag (ringKeyFields kind).2.1 i

/-- Write a ring register (R37, R39, R542): the fields are stored as written; a ring whose size or placement is
refused sets ERR and is not enabled, and its EN reads back as written; with EN 0 nothing is judged and ERR reads 0; a ring
that becomes enabled, or is enabled in a new place, starts from 0. (DESIGN CHOICE, log 25, 207) -/
def writeRing (s : State) (kind : RingKind) (i image : Nat) : State :=
  let (en, err, base, size, entry) := ringKeyFields kind
  let wasOn := s.ringOn kind i
  let oldBase := s.rd base i
  let oldSize := s.rd size i
  let s := s.writeFields (ringFields kind) i image
  if !s.flag en i then s.wr err i 0 else
  let sz := s.rd size i
  let bad := decide (sz < 4) || decide (12 < sz)
    || s.ringOverlaps kind i (s.rd base i * 4096) (entry * 2 ^ sz)
  let s := s.wr err i (b2n bad)
  if bad || (wasOn && oldBase == s.rd base i && oldSize == sz) then s else s.startRing kind i

/-- A fetched command of the ring, other than the given one, has no completion yet. -/
def ringBusy (s : State) (ring seq : Nat) : Bool :=
  s.host.inflight.any fun e => e.ring == ring && e.seq != seq && !e.accepted

/-- A RING_DESTROY of this ring has begun, so its descriptors are not fetched. -/
def destroying (s : State) (ring : Nat) : Bool := s.host.destroys.any fun d => d.ring == ring

/-- Finish the ring destroys whose commands have all completed. -/
def settleDestroys (s : State) : State :=
  forEach s.host.destroys (fun d s =>
    let mine := if d.ctx.ring = d.ring then d.ctx.seq else 2 ^ 32
    if s.ringBusy d.ring mine then s else
      let s := { s with host := { s.host with destroys := s.host.destroys.filter (· != d) } }
      (s.wr R.HOST_CMDR_EN d.ring 0).complete d.ctx St.OK) s

/-! ### What every ring command passes -/

/-- A command in flight on the same ring was fetched with an earlier host sequence number (R44, R51). -/
def before (x : Ctx) (e : Infl) : Bool :=
  e.ring == x.ring && decide (0 < (x.seq + 2 ^ 32 - e.seq) % 2 ^ 32) && decide ((x.seq + 2 ^ 32 - e.seq) % 2 ^ 32 < 2 ^ 31)

/-- A command with FENCE waits for the earlier commands of its ring (table Descriptor flags).
(DESIGN CHOICE, log 4) -/
def fenced (s : State) (x : Ctx) : Bool :=
  bit x.flags 1 && s.host.inflight.any fun e => !e.accepted && before x e

/-- The command may start (R44, R51, R52): its descriptor was fetched and said the same, it has not started, and every
earlier command of its ring has. (DESIGN CHOICE, log 205) -/
def startable (s : State) (x : Ctx) (op : Nat) : Bool :=
  match s.findInfl x.ring x.seq with
  | some e => !e.started && !e.accepted && e.op == op && e.tag == x.tag && e.flags == x.flags && e.cask == x.cask
      && s.host.inflight.all fun d => d.started || !before x d
  | none => false

/-- The command starts (R44). -/
def start (s : State) (x : Ctx) : State :=
  { s with host := { s.host with inflight := s.host.inflight.map fun e =>
      if e.ring == x.ring && e.seq == x.seq then { e with started := true } else e } }

/-- The function is disabled or being disabled (R84). (DESIGN CHOICE, log 45) -/
def funcDisabled (s : State) (block inst : Nat) : Bool :=
  s.cask.disables.any fun d => d.block == block && (d.inst == inst || (block == 0x0D && d.inst == 0xFF))

/-- A command on a mask of meter points names one whose function is disabled (R84). -/
def actDisabled (s : State) (act : Option CaskAct) : Bool :=
  match act with
  | some a => s.cask.disables.any fun d => d.block == 0x08 && actOn 0x08 d.inst a
  | none => false

/-- The module is a twin that is not ACTIVE (R487). LONE runs as a single module (table Twin roles; DEDUCED).
(DEDUCED, log 180) -/
def reserveRole (s : State) : Bool := [1, 3, 4, 6].contains (s.rd R.TWIN_STAT_ROLE)

/-- The module's drivers are off and its CAN ports listen only (table Twin wiring): a twin that is pairing, the Reserve, or
a module that has yielded and released its outputs. -/
def muted (s : State) : Bool :=
  let r := s.rd R.TWIN_STAT_ROLE
  [1, 3, 4].contains r || (r == 6 && s.twin.released)

/-- TWIN_ACT_OUT is high (R477): the module is ACTIVE, and channel B saw an edge of SAFE_ALIVE in the last 2 ms. Without
power it is low (R531). -/
def actOut (s : State) : Bool := s.core && s.rd R.TWIN_STAT_ROLE == 2 && decide (s.mtb ≤ s.safe.aliveAt + 2 * 10 ^ 6)

/-- State F is driven on a pilot: by the peer, as the last copy shows, while the module's driver is disconnected. -/
def drivenF (s : State) (n : Nat) : Bool :=
  if bit s.twin.pilotsOff n then
    match s.twin.copy with
    | some c => (c.outlets.get Outlet.init n).out == .stateF
    | none => true
  else (s.out.outlets.get Outlet.init n).out == .stateF

/-- The status with which a ring command is turned away before its function sees it (table Descriptor flags, R50, R69,
R84, R487), if it is. (DEDUCED, log 168) -/
def gate (s : State) (x : Ctx) (op inst : Nat) : Option Nat :=
  if 8 ≤ x.flags then some St.BAD_FLAGS
  else if x.ring = 0 && !stopClass op then some St.BAD_RING
  else if x.cask != 0 && !caskCapable op then some St.NOT_CASKABLE
  else if !s.flag R.GLOBAL_ISLAND_STAT_READY (blockIsland (op / 256)) then some St.NOT_READY
  else if s.funcDisabled (op / 256) inst then some St.DISABLED
  else if s.reserveRole && (op / 256 == 0x03 || op / 256 == 0x0D) && !stopClass op then some St.TWIN_RESERVE
  else none

/-- What a ring command passes before its own effect: its fetch, and the order of its ring (R44, R51, R52); FENCE; the flags
(BAD_FLAGS); the stop ring (R50); Cask ids
(R69); METER mode (R502); start-up (NOT_READY); disabled functions (R84); the twin role (R487). `inst` is the
instance whose function must not be disabled. `act` is the command as a Cask action: with a Cask id it is staged
(R70), without one it waits for no Cask that holds its resource but completes BUSY (R73). (DESIGN CHOICE, log 4) -/
def command (s : State) (x : Ctx) (op inst : Nat) (act : Option CaskAct) (f : State → State) : State :=
  let s := s.advance x.t
  if !s.up || !s.startable x op || s.fenced x then s else
  let s := s.start x
  let s := if stoppedInMeter (op / 256) then s.wakeRun 3 else s
  let s := match s.gate x op inst with
    | some st => s.complete x st
    | none =>
      match act with
      | none => f s
      | some a =>
        if s.actDisabled act then s.complete x St.DISABLED
        else if x.cask != 0 then s.stage x a
        else match s.heldBy 16 a with
          | some k => s.complete x St.BUSY (s.slot k).id
          | none => f s
  s.settleDestroys

/-! ### Fetching -/

/-- A credit is free for a priority class (R46). -/
def creditFree (s : State) (c : Nat) : Bool :=
  decide (s.host.ownTaken.get 0 c < 16) || decide (s.host.sharedTaken < 192)

/-- Take a credit: from the class's own sixteen while any is free, else from the shared pool (R46). -/
def creditTake (s : State) (c : Nat) : State :=
  if s.host.ownTaken.get 0 c < 16 then { s with host := { s.host with ownTaken := s.host.ownTaken.upd 0 c (· + 1) } }
  else { s with host := { s.host with sharedTaken := s.host.sharedTaken + 1 } }

/-- Stop-ring commands in flight (R49, R66): without a final status, and those whose completion is neither written nor one
of the 32 that are held. (DESIGN CHOICE, log 200) -/
def stopInfl (s : State) : Nat :=
  (s.host.inflight.filter fun e => e.ring == 0).length + (s.host.stopHeld.length - 32)

/-- A command ring can be fetched from (R47, R49): enabled, with descriptors waiting, and room for what it makes. -/
def fetchable (s : State) (i : Nat) : Bool :=
  s.cmdOn i && !s.destroying i && s.host.cmdFetch.get 0 i != s.host.dbCmd.get 0 i &&
  if i = 0 then decide (s.stopInfl < 32)
  else
    let cq := s.rd R.HOST_CMDR_CQ i
    s.cplOn cq && decide (s.cplUsed cq + s.cplOwed cq < 2 ^ s.rd R.HOST_CPLR_SIZE_LOG2 cq)
      && !(s.host.cplHeld.any fun c => s.rd R.HOST_CMDR_CQ c.ring == cq) && s.creditFree (s.rd R.HOST_CMDR_PRIO i)

/-- The opcodes of the opcode tables. -/
def knownOp (op : Nat) : Bool := Op.all.contains op

/-- A host sequence number is the next one of its ring (R51). -/
def follows (last seq : Nat) : Bool := seq % 2 ^ 32 == (last + 1) % 2 ^ 32

/-- The next number of a ring (R51): it is in flight from here, or completes at once where its flags, opcode, ring or
buffer are wrong, judged in that order. (DESIGN CHOICE, log 208) -/
def fetchNext (s : State) (x : Ctx) (i : Nat) (d : Desc) (credit : Option Nat) : State :=
  let s := { s with host := { s.host with
    inflight := s.host.inflight ++ [(⟨i, d.seq, d.op, d.inst, d.tag, d.flags, d.cask, false, false, credit⟩ : Infl)] } }
  let s := (s.wr R.HOST_SYNC_LAST_FETCHED i d.seq).setHist i d.seq St.PENDING 0
  let s := s.syncCompleted i
  if 8 ≤ d.flags then s.complete x St.BAD_FLAGS
  else if !knownOp d.op then s.complete x St.BAD_OPCODE
  else if i = 0 && !stopClass d.op then s.complete x St.BAD_RING
  else if bit d.flags 0 && !d.indirectOk then s.complete x St.INDIRECT_FAULT
  else s

/-- What the completion of a duplicate says: the status, and the device sequence number of its outcome (R52). -/
def histOutcome (h : Hist) : Nat := h.status + 2 ^ 16 * h.dseq

/-- The completion of a number that is not the next one. -/
def writeOther (s : State) (x : Ctx) (i : Nat) (d : Desc) (n : Nat) (old : Option Hist) : State :=
  match old with
  | some h => s.writeCompletion ⟨n, d.seq, x.tag, St.DUPLICATE, i, histOutcome h⟩ (bit d.flags 2)
  | none => s.writeCompletion ⟨n, d.seq, x.tag, St.SEQ_ERROR, i, 0⟩ (bit d.flags 2)

/-- Any other number (R51, R52): a duplicate completes with the stored outcome, the rest SEQ_ERROR. -/
def fetchOther (s : State) (x : Ctx) (i : Nat) (d : Desc) (last : Nat) (credit : Option Nat) : State :=
  let (n, s) := s.issueSeq
  (s.creditBack credit).writeOther x i d n (if serialWithin d.seq last 4095 then s.histOf i d.seq else none)

/-- Take one descriptor of a ring (R46, R51, R52): a credit is taken; a next number is in flight from here, or
completes at once where its flags, opcode, ring or buffer are wrong; a duplicate completes with the stored outcome;
any other number completes SEQ_ERROR. -/
def fetchOne (s : State) (i : Nat) (d : Desc) : State :=
  let x : Ctx := ⟨s.mtb, i, d.seq, d.tag, d.flags, d.cask⟩
  let cls := s.rd R.HOST_CMDR_PRIO i
  let s := { s with host := { s.host with cmdFetch := s.host.cmdFetch.put 0 i ((s.host.cmdFetch.get 0 i + 1) % 2 ^ 32) } }
  let last := s.rd R.HOST_SYNC_LAST_FETCHED i
  let s := if i = 0 then s else s.creditTake cls
  let credit := if i = 0 then none else some cls
  if follows last d.seq then s.fetchNext x i d credit else s.fetchOther x i d last credit

/-- The turns a class has in a round: 8 : 4 : 2 : 1 (R48). -/
def weight : Nat → Nat
  | 0 => 8 | 1 => 4 | 2 => 2 | _ => 1

/-- The ring of a class that is served next: the first fetchable one after the ring it served last (R48). -/
def nextRing (s : State) (c : Nat) : Option Nat :=
  let last := s.host.rr.get 0 c
  ((List.range 15).map fun k => (last + k) % 15 + 1).find? fun i => s.rd R.HOST_CMDR_PRIO i == c && s.fetchable i

/-- The class that is granted next: the first with a fetchable ring and turns left in the round. -/
def nextClass (s : State) : Option Nat :=
  (List.range 4).find? fun c => decide (s.host.wrr.get 0 c < weight c) && (s.nextRing c).isSome

/-- The descriptor of a ring at its fetch count: `descs` lists what host memory holds from the count at the start of
the poll, which was `from0`. -/
def descAt (s : State) (i from0 : Nat) (descs : List Desc) : Option Desc :=
  descs[used (s.host.cmdFetch.get 0 i) from0]?

/-- Serve one grant of the weighted round robin; a new round starts when no class with waiting descriptors has turns
left. Answers the state and whether anything was fetched. -/
def grant (s : State) (from0 : List Nat) (descs : List (List Desc)) : State × Bool :=
  let s := if s.nextClass.isSome then s else { s with host := { s.host with wrr := .empty } }
  match s.nextClass with
  | none => (s, false)
  | some c =>
    match s.nextRing c with
    | none => (s, false)
    | some i =>
      let s := { s with host := { s.host with wrr := s.host.wrr.upd 0 c (· + 1), rr := s.host.rr.put 0 c i } }
      match s.descAt i (from0.getD i 0) (descs.getD i []) with
      | none => (s, false)
      | some d => (s.fetchOne i d, true)

/-- Serve grants while something can be fetched. -/
def grants : Nat → List Nat → List (List Desc) → State → State
  | 0, _, _, s => s
  | k + 1, from0, descs, s =>
    let (s', more) := s.grant from0 descs
    if more then grants k from0 descs s' else s'

/-- Fetch the waiting descriptors of one ring, in order. -/
def fetchRing : Nat → Nat → Nat → List Desc → State → State
  | 0, _, _, _, s => s
  | k + 1, i, from0, descs, s =>
    if s.fetchable i then
      match s.descAt i from0 descs with
      | some d => fetchRing k i from0 descs (s.fetchOne i d)
      | none => s
    else s

/-- Write the stop-ring completions that were held, while the completion ring has room (R49). -/
def releaseStops : Nat → State → State
  | 0, s => s
  | k + 1, s =>
    match s.host.stopHeld with
    | [] => s
    | c :: r =>
      if s.attached && s.stopRoom then
        releaseStops k (({ s with host := { s.host with stopHeld := r } } : State).putCompletion c false)
      else s

/-- Write the completions of the other rings that were held and have room now, in order (R47). -/
def releaseCompletions (s : State) : State :=
  if !s.attached then s else
  let hs := s.host.cplHeld
  forEach hs (fun c s => s.writeCompletion c false) { s with host := { s.host with cplHeld := [] } }

/-- Report the gap of an event ring that has room again (R56): EVR_GAP is journalled and written to that ring only. -/
def reportGap (s : State) (j : Nat) : State :=
  let g := s.host.gaps.get ⟨0, 0⟩ j
  if g.first != 0 && s.attached && s.evOn j && s.evRoom j then
    let (n, s) := s.issueSeq
    let e : Event := ⟨n, s.rd R.HOST_SYNC_GLOBAL_EPOCH, Ev.EVR_GAP, s.mtb, j, false, false, [j, g.first, g.last], false⟩
    let s := s.journal e
    ({ s with host := { s.host with gaps := s.host.gaps.put ⟨0, 0⟩ j ⟨0, 0⟩ } } : State).putEvent j e
  else s

/-- Signal the rings whose coalescing time has passed. (DESIGN CHOICE, log 26) -/
def coalesceDue (s : State) : State :=
  forEach (List.range 24) (fun c s =>
    let k := s.host.coal.get ⟨0, 0⟩ c
    let us := if c < 16 then s.rd R.HOST_CPLR_COAL_US c else s.rd R.HOST_EVR_COAL_US (c - 16)
    let v := if c < 16 then s.rd R.HOST_CPLR_VECTOR c else s.rd R.HOST_EVR_VECTOR (c - 16)
    if k.n != 0 && us != 0 && decide (k.since + us * 1000 ≤ s.mtb) then
      ({ s with host := { s.host with coal := s.host.coal.put ⟨0, 0⟩ c ⟨0, 0⟩ } } : State).irq v
    else s) s

end State

end Sys2Proof.Machine
end

