-- ==== Sys2Proof/Machine/CableOps.lean ====
section
/-! DEFINITION. The MRAM shadow of the cable tags and the queue of RDR1 (R394, R399 to R401). -/

namespace Sys2Proof.Machine
namespace State

/-- What is known of an outlet's cable tag. -/
def cable (s : State) (n : Nat) : CableTag := s.tag.cables.get CableTag.init n
/-- Change what is known of a cable tag. -/
def modCable (s : State) (n : Nat) (f : CableTag → CableTag) : State :=
  { s with tag := { s.tag with cables := s.tag.cables.upd CableTag.init n f } }

/-- Insert a request behind those of lower or equal outlets (R394). -/
def insertJob (j : CableJob) : List CableJob → List CableJob
  | [] => [j]
  | k :: r => if j.n < k.n then j :: k :: r else k :: insertJob j r

/-- Replace the requests and show how many reads wait. -/
def setJobs (s : State) (js : List CableJob) : State :=
  ({ s with tag := { s.tag with jobs := js } } : State).wr R.TAG_RDR_STAT_QUEUE 0 (min 8 (js.countP fun j => !j.write))

/-- Queue a read or a write of a cable tag; one that already waits serves both. -/
def addJob (s : State) (j : CableJob) : State :=
  match s.tag.jobs.find? fun k => k.n == j.n && k.write == j.write with
  | some k =>
    let k' : CableJob := { k with atConnect := k.atConnect || j.atConnect, ctxs := k.ctxs ++ j.ctxs }
    s.setJobs (s.tag.jobs.map fun q => if q == k then k' else q)
  | none => s.setJobs (insertJob j s.tag.jobs)

/-- The outlet has a tethered cable that RDR1 serves. -/
def tethered (s : State) (n : Nat) : Bool := s.flag R.OUT_CFG_TETHERED n

/-- The shadow has reached a limit, or the tag is retired (R401). -/
def cableEnded (s : State) (n : Nat) : Bool :=
  let c := s.cable n
  c.retired || s.flag R.TAG_CABLE_EOL n
    || (c.mateLim != 0 && decide (c.mateLim ≤ s.rd R.TAG_CABLE_MATING n))
    || (c.kwhLim != 0 && decide (1000 * c.kwhLim ≤ s.rd R.TAG_CABLE_ENERGY_WH n))

/-- The shadow changes (R400, R401): the tag is behind it until it is written; a limit that is reached sets END_OF_LIFE
with it, raises CABLE_STATE and puts the outlet out of service at the next unplug (R117). -/
def shadowGo (s : State) (n : Nat) : State :=
  let was := s.flag R.TAG_CABLE_EOL n
  let s := (s.wr R.TAG_CABLE_WRITE_PEND n 1).addJob ⟨n, true, false, []⟩
  if !was && s.cableEnded n then
    let s := (s.wr R.TAG_CABLE_EOL n 1).wr R.TAG_CABLE_STATE n 2
    let s := { s with out := { s.out with outlets := s.out.outlets.upd Outlet.init n fun o => { o with eol := true } } }
    s.raise Ev.CABLE_STATE n [n, 2, s.rd R.TAG_CABLE_RATING_A n]
  else s

/-- An outlet with a tethered cable enters CONNECTED (R116, R394, R400): the mating counts, and the tag is read. -/
def cableQueue (s : State) (n : Nat) : State :=
  if !s.tethered n then s else
  let s := s.addJob ⟨n, false, true, []⟩
  if (s.cable n).rebind then s else (s.incSat R.TAG_CABLE_MATING n).shadowGo n

/-- An outlet enters ENDED or FAULT with `wh` of session energy (R400). (DESIGN CHOICE, log 147) -/
def cableEnd (s : State) (n wh : Nat) : State :=
  if !s.tethered n then s else ((s.incSat R.TAG_CABLE_SESSIONS n).addSat R.TAG_CABLE_ENERGY_WH n wh).shadowGo n

/-- A coil of the outlet counts a load break (R144, R400). -/
def cableOpening (s : State) (n : Nat) : State :=
  if !s.tethered n then s else (s.incSat R.TAG_CABLE_OPENINGS n).shadowGo n

/-- OUT_AVAILABILITY 0 (R399): the next OK read binds the tag it finds, and is queued. -/
def cableRebind (s : State) (n : Nat) : State :=
  if !s.tethered n then s else (s.modCable n fun c => { c with rebind := true }).addJob ⟨n, false, false, []⟩

end State
end Sys2Proof.Machine
end

