-- ==== Sys2Proof/Machine/SafeOps.lean ====
section
/-! DEFINITION. The shared operations of the safety channels (05_safety_earth_fault.md): coils, consent, faults and
safe states, monitored stops, energy removal, residual current. Currents are in mA, voltages in mV, residual
currents in 0.01 mA. -/

namespace Sys2Proof.Machine

/-- The fault codes of R171. -/
abbrev fESTOP : Nat := 1
abbrev fESTOP_DISC : Nat := 2
abbrev fA_LOST : Nat := 3
abbrev fB_LOST : Nat := 4
abbrev fCH_DISC : Nat := 5
abbrev fTABLE_FAIL : Nat := 6
abbrev fPILOT_E : Nat := 7
abbrev fRCM_DC6 : Nat := 8
abbrev fRCM_AC30 : Nat := 11
abbrev fRCM_SENSOR : Nat := 12
abbrev fRCM_REPEAT : Nat := 13
abbrev fIMD_FAULT : Nat := 14
abbrev fMSTOP_ENV : Nat := 15
abbrev fOVERCURRENT : Nat := 16
abbrev fWELD : Nat := 17
abbrev fCOIL_OPEN : Nat := 18
abbrev fCOIL_SHORT : Nat := 19
abbrev fSWITCH_STUCK : Nat := 20
abbrev fSAFE_INPUT : Nat := 21
abbrev fCOIL_UNCONTROL : Nat := 22

namespace State

/-! ### Accessors -/

/-- An outlet controller. -/
def outlet (s : State) (n : Nat) : Outlet := s.out.outlets.get Outlet.init n
/-- Change an outlet controller. -/
def modOutlet (s : State) (n : Nat) (f : Outlet → Outlet) : State :=
  { s with out := { s.out with outlets := s.out.outlets.upd Outlet.init n f } }
/-- The protection state of an outlet. -/
def os (s : State) (n : Nat) : OutSafe := s.safe.outs.get OutSafe.init n
/-- Change the protection state of an outlet. -/
def modOs (s : State) (n : Nat) (f : OutSafe → OutSafe) : State :=
  { s with safe := { s.safe with outs := s.safe.outs.upd OutSafe.init n f } }
/-- A coil. -/
def coil (s : State) (k : Nat) : Coil := s.safe.coils.get Coil.init k
/-- Change a coil. -/
def modCoil (s : State) (k : Nat) (f : Coil → Coil) : State :=
  { s with safe := { s.safe with coils := s.safe.coils.upd Coil.init k f } }

/-- The outlet's type (R85): 0 DISABLED, 1 AC1, 2 AC3, 3 DC. -/
def outType (s : State) (n : Nat) : Nat := s.rd R.OUT_CFG_TYPE n
/-- The outlet is a DC outlet. -/
def isDc (s : State) (n : Nat) : Bool := s.outType n == 3
/-- The outlet is driven by the host (R88). -/
def hostControlled (s : State) (n : Nat) : Bool := s.flag R.OUT_CFG_CTRL n
/-- Phases of an outlet's type. -/
def phases (s : State) (n : Nat) : Nat := if s.outType n = 2 then 3 else 1
/-- The phases an AC allocation is shared among (section Power sharing): the outlet's own, until the transfer has shown
which of them carry current. -/
def phasesNow (s : State) (n : Nat) : Nat :=
  if (s.outlet n).usedPhases = 0 then s.phases n else popcount 3 (s.outlet n).usedPhases
/-- Nominal phase voltage in V. -/
def vnom (s : State) : Nat := 2 * s.rd R.OUT_POLICY_VNOM_2V

/-- The enabled coils of an outlet (R140). -/
def coilsOf (s : State) (n : Nat) : List Nat :=
  (List.range 16).filter fun k => s.flag R.SAFE_COIL_CFG_EN k && s.rd R.SAFE_COIL_CFG_OUTLET k == n
    && s.rd R.SAFE_COIL_CFG_ROLE k != 3

/-- The outlet has an enabled coil of role MAIN (R140). -/
def hasMain (s : State) (n : Nat) : Bool := (s.coilsOf n).any fun k => s.rd R.SAFE_COIL_CFG_ROLE k == 0

/-- A coil conducts: both its switches are on (R131), or a dark test rides on its stored current. -/
def coilOn (s : State) (k : Nat) : Bool :=
  ((s.coil k).hs && (s.coil k).ls) || (s.coil k).phase == .hsTest || (s.coil k).phase == .lsTest

/-- Some coil of the outlet is on. -/
def closed (s : State) (n : Nat) : Bool := (s.coilsOf n).any s.coilOn

/-- I_END of an outlet in mA (R165). -/
def iEnd (s : State) (n : Nat) : Nat :=
  if s.isDc n then 100 * s.rd R.SAFE_CFG2_IEND_DC else 100 * s.rd R.SAFE_CFG2_IEND_AC

/-- The snapshot of a meter point. -/
def snap (s : State) (m : Nat) : Snap := s.safe.snaps.getD m ⟨[], []⟩

/-- The greatest of a list of values that may be absent; none if any is absent or there is none. -/
def greatest : List (Option Nat) → Option Nat
  | [] => none
  | [x] => x
  | x :: r => match x, greatest r with
    | some a, some b => some (max a b)
    | _, _ => none

/-- The highest phase current of an outlet in the snapshot; none when it is absent (R33, R543). -/
def outCurrent (s : State) (n : Nat) : Option Nat := greatest (s.snap (s.rd R.OUT_CFG_MP n)).i
/-- The highest outlet-side voltage of an outlet in the snapshot. -/
def outVoltage (s : State) (n : Nat) : Option Nat := greatest (s.snap (s.rd R.OUT_CFG_MP n)).v

/-- A PADC10 sequence of at most 1,000 µs scans an auxiliary input (R201). -/
def auxFast (s : State) (i : Nat) : Bool :=
  (List.range 4).any fun q => s.flag R.AFE_SEQ_CTL_EN q && !s.flag R.AFE_SEQ_CTL_CONV q
    && decide (s.rd R.AFE_SEQ_CTL_PERIOD_US q ≤ 1000)
    && (List.range (s.rd R.AFE_SEQ_CTL_LEN q)).any fun e => s.rd R.AFE_SEQ_ENT_INPUT (64 * q + e) == i

/-- The DC-link voltage of an outlet in mV from its auxiliary input (R146, R200, R201), whose user unit is 0.01 V;
the latest result of such a sequence; absent without a fast sequence, before its first result or with OVR.
(DEDUCED, log 65) -/
def vlink (s : State) (n : Nat) : Option Nat :=
  let i := s.rd R.SAFE_OUT_PROT_VLINK_AUX n
  if !s.flag R.SAFE_OUT_PROT_VLINK_EN n || !s.auxFast i then none else
  match s.afe.fast.get none i with
  | some (v, ovr) => if ovr then none else some (10 * v.toNat)
  | none => none

/-! ### Faults -/

/-- The faults of outlet scope that latch (R171); SAFE_INPUT latches only with the action EREM latched. -/
def latches (code : Nat) : Bool := [13, 17, 18, 19, 20].contains code

/-- An outlet has a fault. -/
def hasFault (s : State) (n code : Nat) : Bool := bit (s.os n).active code
/-- Some fault covers the outlet: its own or one of module scope. -/
def faulted (s : State) (n : Nat) : Bool := (s.os n).active != 0 || s.safe.modActive != 0

/-- SAFE_OK is high only when both channels run, HSL_TABLE is valid, the self-test has passed and no module fault is
active (R170). A change of level sets ALERT.SAFE_CHANGE. -/
def refreshSafeOk (s : State) : State :=
  let ok := s.flag R.SAFE_STATUS_A_RUN && s.flag R.SAFE_STATUS_B_RUN && s.flag R.SAFE_STATUS_TABLE_OK
    && s.flag R.SAFE_STATUS_SELFTEST_OK && s.safe.modActive == 0
  if ok == s.flag R.SAFE_STATUS_SAFE_OK then s
  else (s.setFlag R.SAFE_STATUS_SAFE_OK 0 ok).alert R.GLOBAL_ALERT_SAFE_CHANGE

/-! ### Coils -/

/-- Turn both switches of a coil off (R131); one that does not open stays on (R152). A dark test on it ends at once, is logged TEST_SKIPPED and asked for
again (R153). `demand` is the code of what demanded it. -/
def coilOff (s : State) (k demand : Nat) : State :=
  let c := s.coil k
  let tested := c.phase == .hsTest || c.phase == .lsTest
  let low := c.phase == .lsTest
  let s := if tested then
      let s := s.incSat R.SAFE_COIL_STAT_TESTS_SKIPPED k
      let s := s.raise Ev.TEST_SKIPPED k [k, b2n low, demand]
      { s with safe := { s.safe with test := none } }
    else s
  s.modCoil k fun c => { c with
    phase := if c.phase == .fault then .fault else .off, hs := c.hs && c.stuckHs, ls := c.ls && c.stuckLs, waiting := false,
    askHs := c.askHs || (tested && !low), askLs := c.askLs || (tested && low) }

/-- Note that an outlet's contactors open: a break under load is counted (R144), the welded-contact check falls due
(R147), and the residual-current self-test must pass anew (R132). A current that is absent counts no break.
(DESIGN CHOICE, log 229) -/
def noteOpening (s : State) (n : Nat) : State :=
  if !s.closed n then s else
  let load := match s.outCurrent n with
    | some i => decide (s.iEnd n < i)
    | none => false
  let on := (s.coilsOf n).filter s.coilOn
  let s := if load then forEach on (fun k s => s.incSat R.SAFE_COIL_STAT_LOAD_BREAKS k) s else s
  let s := if load && on != [] then s.cableOpening n else s
  s.modOs n fun o => { o with openedAt := some s.mtb, weldCnt := 0, selfPass := false, over110 := 0, over130 := 0, absent := 0 }

/-- Power modules to mode 0 in the same cycle, on a DC outlet (R148, R167). -/
def pmOff (s : State) (n : Nat) : State :=
  if s.isDc n then s.modOutlet n fun o => { o with
    setPoint := { o.setPoint with mode := 0 }, setStaged := none, dcRamp := none } else s

/-- Open an outlet through both channels; a DC outlet's power modules go to mode 0, in which its check follows (R148).
(DESIGN CHOICE, log 230) -/
def openOutlet (s : State) (n demand : Nat) : State :=
  let s := (s.noteOpening n).pmOff n
  forEach (s.coilsOf n) (fun k s => s.coilOff k demand) s

/-- Channel A removes the high sides of an outlet alone (R166); channel B follows at its next cycle (R131). A coil under
test turns both sides off (R153). (DESIGN CHOICE, log 66) -/
def highOff (s : State) (n : Nat) : State :=
  let s := s.noteOpening n
  forEach (s.coilsOf n) (fun k s =>
    if (s.coil k).phase == .hsTest || (s.coil k).phase == .lsTest then s.coilOff k fMSTOP_ENV
    else s.modCoil k fun c => { c with
      hs := c.hs && c.stuckHs, waiting := false, phase := if c.phase == .fault then .fault else .off }) s

/-- Drive state F at once, truncating the period in progress (R93); the agreement counts restart (R91). -/
def driveF (s : State) (n : Nat) : State :=
  s.modOutlet n fun o => { o with
    out := .stateF, outNext := none, outStaged := none, cand := none, agree := 0, badLow := 0, noAccept := 0 }

/-- Stage a pilot output for the end of the control cycle (R25). -/
def stagePilot (s : State) (n : Nat) (p : PilotOut) : State := s.modOutlet n fun o => { o with outStaged := some p }

/-- Stage a power-module set-point for the end of the control cycle (R25, R121). -/
def stageSet (s : State) (n : Nat) (p : SetPoint) : State := s.modOutlet n fun o => { o with setStaged := some p }

/-- The closes that wait on an outlet (R159) end when an opening or a stop comes before them.
(DESIGN CHOICE, log 231) -/
def dropClose (s : State) (n : Nat) : State :=
  let xs := (s.outlet n).hostClose
  if xs = [] then s else
  forEach xs (fun x s => s.complete x St.ABORT_SAFETY) (s.modOutlet n fun o => { o with hostClose := [] })

/-- A safety opening or a stop-class command reaches an outlet that Casks hold (R72, R76): those not yet recorded
abort; in a recorded one the closing action is held open. -/
def caskSafety (s : State) (n : Nat) : State :=
  let s := s.dropClose n
  forEach (List.range 16) (fun k s =>
    let c := s.slot k
    match c.acts.findIdx? fun a => actOutlet a == some n with
    | none => s
    | some i =>
      if c.abortable then s.abortCask k St.ABORT_SAFETY i ((c.acts[i]?.map actIsland).getD 0)
      else if c.st == .recorded then
        match c.acts.findIdx? fun a => a == .contactor n true with
        | some j => s.modSlot k fun c => { c with held := setBit c.held j }
        | none => s
      else s) s

/-- Energy removal (R167): both switches of every coil off without a ramp, power modules off; an MSTOP in progress is
pre-empted. -/
def erem (s : State) (n demand : Nat) : State :=
  let s := (s.openOutlet n demand).caskSafety n
  s.modOs n fun o => { o with mstop := none }

/-- An outlet safe state (R169): coils off, pilot at state F for at least 2 s. (DESIGN CHOICE, log 68) -/
def outletSafe (s : State) (n demand : Nat) : State :=
  ((s.erem n demand).driveF n).modOs n fun o => { o with safeSince := some s.mtb }

/-- A fault of outlet scope (R171): it is recorded, latched where it latches, the outlet enters its safe state and
SAFE_TRIP is raised; a fault already active does nothing more. `chan` is the first acting channel (0 A, 1 B), `since`
the MTB of the input. (DEDUCED, log 62) -/
def trip (s : State) (n code chan since : Nat) (latch : Bool := latches code) : State :=
  if s.hasFault n code then (if latch then s.modOs n fun o => { o with latched := setBit o.latched code } else s)
  else
    let s := s.modOs n fun o => { o with
      active := setBit o.active code, latched := if latch then setBit o.latched code else o.latched,
      acted := (code, chan, s.mtb) :: o.acted.filter (·.1 != code) }
    (s.outletSafe n code).raise Ev.SAFE_TRIP n [code, 2 ^ n, chan, since, s.mtb]

/-- A fault of module scope (R170, R171): every coil off, every pilot at state F, SAFE_OK low. -/
def moduleTrip (s : State) (code chan since : Nat) : State :=
  if bit s.safe.modActive code then s else
  let s := { s with safe := { s.safe with
    modActive := setBit s.safe.modActive code, modLatched := setBit s.safe.modLatched code } }
  let s := forEach (List.range 8) (fun n s => s.outletSafe n code) s
  s.refreshSafeOk.raise Ev.SAFE_TRIP 0xFF [code, 0xFF, chan, since, s.mtb]

/-- Clear an unlatched fault of an outlet. -/
def clearFault (s : State) (n code : Nat) : State :=
  s.modOs n fun o => if bit o.latched code then o else { o with active := clearBit o.active code }

/-! ### Consent -/

/-- A SAFE_IN input is active (R156): past its filter it reads as POL says. One that has shown no level yet is not active.
(DESIGN CHOICE, log 232) -/
def inActive (s : State) (m : Nat) : Bool :=
  bit s.safe.safeSeen m && bit s.safe.safeClosed m == s.flag R.SAFE_IN_CFG_POL m

/-- An enabled SAFE_IN input with an action serves the outlet. -/
def inServes (s : State) (action n m : Nat) : Bool :=
  s.flag R.SAFE_IN_CFG_EN m && s.rd R.SAFE_IN_CFG_ACTION m == action && bit (s.rd R.SAFE_IN_CFG_OUTLETS m) n

/-- The internal monitor serves the outlet (R162). -/
def imdServes (s : State) (n : Nat) : Bool := s.flag R.SAFE_IMD_EN && s.rd R.SAFE_IMD_OUTLET == n

/-- The internal monitor's result holds for the outlet: valid, not below the fault limit, no older than 10 s. -/
def imdGood (s : State) (n : Nat) : Bool :=
  s.imdServes n && decide (s.rd R.SAFE_IMD_RESULT < 2) && match s.safe.imdAt with
    | some t => decide (s.mtb ≤ t + 10 * 10 ^ 9)
    | none => false

/-- The insulation condition of R132 for an outlet: none when it holds, else the reason. It holds by the internal monitor's
result, or by an external alarm that is inactive (R156). -/
def insulationReason (s : State) (n : Nat) : Option Nat :=
  let ext := (List.range 8).filter (s.inServes 5 n)
  if !s.isDc n || s.imdGood n || ext.any (fun m => !s.inActive m) then none
  else if s.imdServes n || ext != [] then some 5
  else some 6

/-- A SAFE_IN input with the action "block new closes" or MSTOP is active for the outlet (R156). -/
def blocked (s : State) (n : Nat) : Bool :=
  (List.range 8).any fun m => (s.inServes 1 n m || s.inServes 2 n m) && s.inActive m

/-- Channel B's heartbeat is present (R137). -/
def heartbeatPresent (s : State) : Bool := s.flag R.SAFE_STATUS_A_RUN && decide (s.mtb ≤ s.safe.heartbeatAt + 10 * 10 ^ 6)

/-- The first condition of R132 that fails for an outlet, in the order listed, as a CONSENT_REFUSED reason. `opened`
says that the contactors are open, so that the conditions on open contacts apply. (DESIGN CHOICE, log 42, 50) -/
def consentReason (s : State) (n : Nat) (opened : Bool) : Option Nat :=
  let mirrors := (s.coilsOf n).all fun k => !s.flag R.SAFE_COIL_CFG_MIRROR_EN k || (s.coil k).mirrorOpen
  let volts := match s.outVoltage n with
    | some v => decide (v < 1000 * s.rd R.SAFE_OUT_PROT_WELD_V_AC n)
    | none => false
  if !s.flag R.SAFE_STATUS_SELFTEST_OK then some 10
  else if !s.hasMain n then some 11
  else if s.faulted n || s.blocked n || s.safe.shut then some 1
  else if opened && !mirrors then some 2
  else if opened && !s.isDc n && !volts then some 3
  else if opened && (!(s.os n).selfPass || s.rd R.SAFE_OUT_PROT_RCM_SRC n == 0xF) then some 4
  else match s.insulationReason n with
    | some r => some r
    | none =>
      if s.rd R.OUT_ALLOC_STAT_ENF_W n = 0 then some 7
      else if !s.heartbeatPresent then some 8
      else none

/-- Channel B's conditions for a low side (R133). -/
def lowAllowed (s : State) (n : Nat) : Bool :=
  !s.safe.estopAOpen && !s.safe.estopBOpen && !s.faulted n && (s.os n).selfPass
    && s.rd R.SAFE_OUT_PROT_RCM_SRC n != 0xF
    && (s.coilsOf n).all (fun k => !s.flag R.SAFE_COIL_CFG_MIRROR_EN k || (s.coil k).mirrorOpen)
    && ((s.os n).pilotB == .c || (s.os n).pilotB == .d)

/-- Current drawn from VCOIL by all coils in mA (R142). -/
def coilDraw (s : State) : Nat :=
  (List.range 16).foldl (fun m k => m + match (s.coil k).phase with
    | .pullIn => s.rd R.SAFE_COIL_CFG_PULLIN_MA k
    | .hold => s.rd R.SAFE_COIL_CFG_HOLD_MA k
    | .hsTest => s.rd R.SAFE_COIL_CFG_HOLD_MA k
    | .lsTest => s.rd R.SAFE_COIL_CFG_HOLD_MA k
    | _ => 0) 0

/-- A dark test runs on a coil of the outlet (R153). -/
def underTest (s : State) (n : Nat) : Bool :=
  match s.safe.test with
  | some (k, _, _, _) => s.rd R.SAFE_COIL_CFG_OUTLET k == n
  | none => false

/-- A Cask's close that waited is a late application of channel B (R82, R142, R153), once for the outlet's coils.
(DESIGN CHOICE, log 233) -/
def lateClose (s : State) (n : Nat) (owed : Option (Nat × Nat)) : State :=
  match owed with
  | none => s
  | some (id, out) =>
    let s := forEach (s.coilsOf n) (fun k s => s.modCoil k fun c => { c with owed := none }) s
    (s.incSat R.CASK_STAT_LATE 0).raise Ev.CASK_LATE 0 [id, out, 12, s.mtb]

/-- Start the pull-in of a coil that waits, if the sum fits in 40 A and no test of its outlet runs (R142, R153). -/
def startPullIn (s : State) (k : Nat) : State :=
  let c := s.coil k
  let n := s.rd R.SAFE_COIL_CFG_OUTLET k
  if c.waiting && c.hs && !s.underTest n && decide (s.coilDraw + s.rd R.SAFE_COIL_CFG_PULLIN_MA k ≤ 40000) then
    (s.modCoil k fun c => { c with phase := .pullIn, ls := true, waiting := false, since := s.mtb }).lateClose n c.owed
  else s

/-- A coil is in hold from now on (R141, R151): its low-side test is due in half a period, its high-side test in a whole
one. (DESIGN CHOICE, log 234) -/
def holdFrom (s : State) (k : Nat) : State :=
  let p := 10 ^ 9 * s.rd R.SAFE_CFG_TEST_PERIOD_S
  s.modCoil k fun c => { c with phase := .hold, since := s.mtb, nextLs := s.mtb + p / 2, nextHs := s.mtb + p }

/-- Apply a close (R81, R133): contactors that are closed stay so; channel A turns the high sides on; channel B turns the low sides on unless it refuses,
and then the close is held open. Answers whether it was held. -/
def applyClose (s : State) (n : Nat) (refused : Bool) : State × Bool :=
  if (s.coilsOf n).all s.coilOn && s.closed n then (s, false)
  else if refused || !s.lowAllowed n then (s.raise Ev.CONSENT_REFUSED n [n, 9], true)
  else
    let s := forEach (s.coilsOf n) (fun k s => s.modCoil k fun c => { c with hs := true, waiting := true, owed := none }) s
    (forEach (s.coilsOf n) (fun k s => s.startPullIn k) s, false)

/-! ### Monitored stop -/

/-- The current at the start of a stop (R165); where it is absent from the snapshot the spec states none, and it is a free
value. (DESIGN CHOICE, log 229) -/
def startCurrent (s : State) (n : Nat) : Nat × State :=
  match s.outCurrent n with
  | some i => (i, s)
  | none => s.takeFree

/-- Start a monitored stop (R165, R167): a further request keeps the original ramp. (DEDUCED, log 58) -/
def startMstop (s : State) (n reason : Nat) : State :=
  match (s.os n).mstop with
  | some _ => s
  | none =>
    let ramp := if s.isDc n then s.rd R.SAFE_CFG_MSTOP_DC else s.rd R.SAFE_CFG_MSTOP_AC
    let (i0, s) := s.startCurrent n
    s.modOs n fun o => { o with mstop := some ⟨i0, s.mtb, min (100 * ramp) 6000, s.iEnd n, 0, 0, false, reason⟩ }

/-- The envelope of R165 at an instant, as a numerator and a denominator in mA, so that no rounding enters. -/
def envelope (m : Mstop) (now : Nat) : Nat × Nat :=
  let T := m.rampMs * 10 ^ 6
  let dt := now - m.start
  if T ≤ dt then (m.iEnd, 1) else (10 * m.iEnd * dt + 11 * m.i0 * (T - dt), 10 * T)

/-- A stop in progress after one more check: the checks in a row below the end current, and above the envelope, which
restart when a current is present again (R543). -/
def mstopJudged (m : Mstop) (low above absent : Bool) : Mstop :=
  let again := m.gone && !absent
  { m with low := if low then m.low + 1 else 0, viol := if above then (if again then 0 else m.viol) + 1 else 0, gone := absent }

/-- The current stayed above its envelope (R166): the high-side switches go off at once. -/
def mstopViolated (s : State) (n : Nat) : State :=
  let s := (s.highOff n).modOs n fun o => { o with mstop := none, active := setBit o.active fMSTOP_ENV, safeSince := some s.mtb }
  ((s.pmOff n).driveF n).raise Ev.SAFE_TRIP n [fMSTOP_ENV, 2 ^ n, 0, s.mtb, s.mtb]

/-- The check of one cycle of a monitored stop (R166, R543): three checks at or below I_END complete it and open the
contactors; two above the envelope violate it. -/
def mstopCheck (s : State) (n : Nat) : State :=
  match (s.os n).mstop with
  | none => s
  | some m =>
    let env := envelope m s.mtb
    let low := match s.outCurrent n with
      | some i => decide (i ≤ m.iEnd)
      | none => !s.closed n
    let above := match s.outCurrent n with
      | some i => decide (env.1 < i * env.2)
      | none => s.closed n
    let m := mstopJudged m low above (s.outCurrent n).isNone
    if 2 ≤ m.viol then s.mstopViolated n
    else if 3 ≤ m.low then (s.openOutlet n 0).modOs n fun o => { o with mstop := none }
    else s.modOs n fun o => { o with mstop := some m }

/-- The cable limit in A (R96, R97, R116): the lowest of the decoded rating in mode 1, the outlet's own rating and the
cable tag's. The own rating of a DC outlet is IMAX, as the example of R129 takes it. (DEDUCED, log 218) -/
def cableLimit (s : State) (n : Nat) : Nat :=
  let o := s.outlet n
  let r := if s.isDc n then s.rd R.OUT_DC_CFG_IMAX n else s.rd R.OUT_CFG_RATED_A n
  let r := if s.rd R.OUT_CFG_PP_MODE n = 1 then min r (o.ppRating.getD 0) else r
  if o.ppInvalid then 0 else min r (o.tagRating.getD r)

/-- The current limit that offers a power on a DC outlet in 0.1 A: P / output voltage, at most the DC_CFG limit and the
cable's (R116). -/
def dcLimit (s : State) (n watts : Nat) : Nat :=
  let v := ((s.outlet n).pms.find? fun p => !p.lost).map (·.decivolts) |>.getD 0
  min (10 * s.cableLimit n) (100 * watts / max 1 v)

/-- The enforcement current of an outlet in mA (R168): ENF_W by phases and VNOM on AC, the current limit of ENF_W on
DC. -/
def enfNow (s : State) (n : Nat) : Nat :=
  let w := s.rd R.OUT_ALLOC_STAT_ENF_W n
  if s.isDc n then 100 * s.dcLimit n w else w * 1000 / max 1 (s.phasesNow n * s.vnom)

/-- One more check in a row that counts, which restarts when a current is present again (R543). -/
def oneMore (hit again : Bool) (cnt : Nat) : Nat := if hit then (if again then 0 else cnt) + 1 else 0

/-- The current checks of one cycle outside a monitored stop (R168, R543): a check without a current counts as above every
limit. Answers whether 110 % has lasted 1,000 checks. -/
def overcurrentCheck (s : State) (n : Nat) : State × Bool :=
  if !s.closed n || (s.os n).mstop.isSome then (s, false) else
  let e := s.enfNow n
  let (o110, o130) := match s.outCurrent n with
    | none => (true, true)
    | some i => (decide (11 * e < 10 * i), decide (max (13 * e) (10 * e + 10 * s.iEnd n) < 10 * i))
  let gone := (s.outCurrent n).isNone
  let again := decide ((s.os n).absent ≠ 0) && !gone
  let s := s.modOs n fun o => { o with
    absent := oneMore gone false o.absent, over110 := oneMore o110 again o.over110, over130 := oneMore o130 again o.over130 }
  if 3 ≤ (s.os n).over130 then (s.trip n fOVERCURRENT 0 s.mtb, false)
  else if 1000 ≤ (s.os n).over110 then (s.modOs n fun o => { o with over110 := 0 }, true)
  else (s, false)

/-! ### Residual current -/

/-- Sum of a list of integers. -/
def isum (xs : List Int) : Int := xs.foldl (· + ·) 0

/-- The DC component of the last readings in 0.01 mA (R157, R189): the absolute mean, for a sensitivity in µV/mA.
(DESIGN CHOICE, log 70) -/
def rcmDc (sens : Nat) (xs : List Int) : Nat :=
  250000000 * (isum xs).natAbs / max 1 (xs.length * 32768 * sens)

/-- n² times the variance of the codes. -/
def rcmVar (xs : List Int) : Nat := ((xs.length : Int) * isum (xs.map fun x => x * x) - isum xs * isum xs).toNat

/-- The AC component in 0.01 mA: the rms with the mean removed (R157, R189). (DESIGN CHOICE, log 70) -/
def rcmAc (sens : Nat) (xs : List Int) : Nat :=
  isqrt (250000000 * 250000000 * rcmVar xs / max 1 (xs.length * xs.length * 32768 * 32768 * sens * sens))

/-- Whether each trip level is reached: DC6, DC60, DC200, AC30 (R158), compared without rounding. -/
def rcmOver (sens : Nat) (xs : List Int) : List Bool :=
  let n := xs.length
  let sum := (isum xs).natAbs
  [600, 6000, 20000].map (fun th => decide (n ≠ 0) && decide (th * n * 32768 * sens ≤ 250000000 * sum))
    ++ [decide (n ≠ 0) && decide ((3000 * n * 32768 * sens) ^ 2 ≤ 250000000 ^ 2 * rcmVar xs)]

/-- The sensitivity of an outlet's residual-current input. -/
def rcmSens (s : State) (n : Nat) : Nat := s.rd R.AFE_RCM_CFG_SENS_UV_MA (s.rd R.SAFE_OUT_PROT_RCM_SRC n)

/-- Consecutive updates at or above each level. -/
def rcmCount (above : List Bool) (cnt : List Nat) : List Nat :=
  (above.zip cnt).map fun p => if p.1 then p.2 + 1 else 0

/-- The first level whose confirmation is complete, as a fault code (R158). -/
def rcmCode (cnt : List Nat) : Option Nat :=
  ([2, 1, 3, 0].find? fun l => decide ([1000, 20, 2, 20].getD l 0 ≤ cnt.getD l 0)).map (fRCM_DC6 + ·)

/-- A residual-current trip (R158, R161) of an outlet that none holds yet: the outlet's fault, and RCM_REPEAT at the
third within 24 h of the first. (DEDUCED, log 191) -/
def rcmTrip (s : State) (n code chan : Nat) : State :=
  if [8, 9, 10, 11].any (s.hasFault n) then s else
  let day := 24 * 3600 * 10 ^ 9
  let ts := ((s.os n).trips.filter fun t => decide (s.mtb < t + day)) ++ [s.mtb]
  let s := (s.wr R.SAFE_RCM_STAT_LAST_TRIP n (code - 7)).wr R.SAFE_RCM_STAT_TRIPS_24H n (min ts.length 15)
  let s := s.modOs n fun o => { o with trips := ts, wantTest := true }
  let s := s.trip n code chan s.mtb
  if 3 ≤ ts.length then s.trip n fRCM_REPEAT chan s.mtb else s

/-- One update of a channel's residual-current counts (R158); `b` says which channel. -/
def rcmUpdate (s : State) (n : Nat) (b : Bool) : State :=
  let o := s.os n
  let sens := s.rcmSens n
  let above := rcmOver sens o.readings
  let cnt := rcmCount above (if b then o.cntB else o.cntA)
  let s := s.modOs n fun o => if b then { o with cntB := cnt } else { o with cntA := cnt }
  let s := if b then (s.wr R.SAFE_RCM_STAT_DC n (min (rcmDc sens o.readings) 65535)).wr R.SAFE_RCM_STAT_AC n (min (rcmAc sens o.readings) 65535) else s
  match rcmCode cnt with
  | some code => s.rcmTrip n code (b2n b)
  | none => s

/-- A sensor fault (R159): RCM_SENSOR, shown in LAST_TRIP. -/
def sensorTrip (s : State) (n : Nat) : State :=
  if s.hasFault n fRCM_SENSOR then s else (s.wr R.SAFE_RCM_STAT_LAST_TRIP n (fRCM_SENSOR - 7)).trip n fRCM_SENSOR 1 s.mtb

/-- Channel B tests the sensor of an outlet whose coils are open (R159). (DESIGN CHOICE, log 50) -/
def testSensor (s : State) (n : Nat) : State :=
  if s.closed n || s.rd R.SAFE_OUT_PROT_RCM_SRC n == 0xF then s else s.modOs n fun o => { o with testing := true }

/-- The outcome of a self-test of an outlet's sensor (R159): offset and test reading in 0.01 mA. A pass clears
RCM_SENSOR and the residual-current trips (R161); a failure sets RCM_SENSOR. -/
def rcmSelfTest (s : State) (n : Nat) (offset : Int) (reading : Nat) : State :=
  let pass := decide (offset.natAbs < 300) && decide (600 ≤ reading) && decide (reading ≤ 1200)
  let s := (s.wrInt R.SAFE_RCM_STAT_OFFSET n (offset / 10)).setFlag R.SAFE_RCM_STAT_SELFTEST_OK n pass
  let s := s.modOs n fun o => { o with testing := false, selfPass := pass, wantTest := o.wantTest && !pass }
  let s := { s with safe := { s.safe with tested := setBit s.safe.tested n } }
  if pass then forEach [8, 9, 10, 11, fRCM_SENSOR] (fun c s => s.clearFault n c) s
  else s.sensorTrip n

/-- Note the DC component for RCM_PREWARN (R160). -/
def prewarnNote (s : State) (n : Nat) : State :=
  let dc := rcmDc (s.rcmSens n) (s.os n).readings
  s.modOs n fun o => { o with
    warnSince := if 300 ≤ dc then some (o.warnSince.getD s.mtb) else none,
    calmSince := if dc < 200 then some (o.calmSince.getD s.mtb) else none,
    warnArmed := o.warnArmed || (match o.calmSince with
      | some t => decide (dc < 200) && decide (t + 60 * 10 ^ 9 ≤ s.mtb)
      | none => false) }

/-! ### Shunt trip and welded contacts -/

/-- Assert SHUNT_TRIP for an outlet (R149, R150). -/
def shuntOn (s : State) (n : Nat) : State :=
  let s := s.setFlag R.SAFE_STATUS_SHUNT 0 true
  ({ s with safe := { s.safe with shuntSince := some s.mtb } } : State).modOs n fun o => { o with
    shuntDue := some (s.mtb + 10 * 10 ^ 9) }

/-- The supply-side voltage of an outlet is above WELD_V_AC (R150). -/
def supplyPresent (s : State) (n : Nat) : Bool :=
  match greatest (s.snap (s.rd R.SAFE_OUT_PROT_SUPPLY_MP n)).v with
  | some v => decide (1000 * s.rd R.SAFE_OUT_PROT_WELD_V_AC n < v)
  | none => false

/-- SHUNT_TRIP repeats for an outlet: its weld is latched, SHUNT_EN is set and the supply is there (R150). -/
def shuntGoes (s : State) (n : Nat) : Bool :=
  bit (s.os n).latched fWELD && s.flag R.SAFE_OUT_PROT_SHUNT_EN n && s.supplyPresent n

/-- The repeats end once the weld is cleared, SHUNT_EN is 0 or the supply has fallen (R150). -/
def shuntKeep (s : State) (n : Nat) : State :=
  if (s.os n).shuntDue.isSome && !s.shuntGoes n then s.modOs n fun o => { o with shuntDue := none } else s

/-- The voltage test of R147 or R148 in this snapshot: true for a voltage that speaks for a weld; that of a DC outlet holds
with its power modules in mode 0. -/
def weldVoltage (s : State) (n : Nat) : Bool :=
  if s.isDc n then
    (s.outlet n).setPoint.mode == 0 && match s.vlink n, s.outVoltage n with
    | some l, some v =>
      decide (2000 * s.rd R.SAFE_OUT_PROT_WELD_V_DC n < l) && decide (19 * v ≤ 20 * l) && decide (20 * l ≤ 21 * v)
    | _, _ => false
  else (s.snap (s.rd R.OUT_CFG_MP n)).v.any fun v => match v with
    | some v => decide (1000 * s.rd R.SAFE_OUT_PROT_WELD_V_AC n < v)
    | none => false

/-- The outlet-side voltage or the current is still present; an absent one counts as present (R149). -/
def stillLive (s : State) (n : Nat) : Bool :=
  let limit := if s.isDc n then 2000 * s.rd R.SAFE_OUT_PROT_WELD_V_DC n else 1000 * s.rd R.SAFE_OUT_PROT_WELD_V_AC n
  (match s.outVoltage n with
    | some v => decide (limit < v)
    | none => true) ||
  (match s.outCurrent n with
    | some i => decide (s.iEnd n < i)
    | none => true)

/-- The welded-contact check of an outlet (R147 to R149). -/
def weldCheck (s : State) (n : Nat) : State :=
  let stuck := (s.coilsOf n).find? fun k => s.flag R.SAFE_COIL_CFG_MIRROR_EN k && !(s.coil k).mirrorOpen
  let volt := decide (3 ≤ (s.os n).weldCnt)
  let s := s.modOs n fun o => { o with openedAt := none, weldCnt := 0 }
  if stuck.isNone && !volt then s else
  let live := s.stillLive n
  let shunt := live && s.flag R.SAFE_OUT_PROT_SHUNT_EN n
  let s := s.trip n fWELD 0 s.mtb
  let s := if shunt then s.shuntOn n else s
  s.raise Ev.WELD_FOUND n [n, stuck.getD ((s.coilsOf n).headD 0), b2n stuck.isSome + 2 * b2n volt,
    (s.outVoltage n).getD 0, b2n shunt]

end State

/-- The pilot state a sensed high level in 10 mV stands for (R90); none for an invalid level. -/
def pilotOf (level : Int) : Option Pilot :=
  if 1050 ≤ level then some .a
  else if 750 ≤ level then some .b
  else if 450 ≤ level then some .c
  else if 150 ≤ level then some .d
  else if -150 ≤ level then some .e
  else none

end Sys2Proof.Machine
end

