-- ==== Sys2Proof/Machine/RecordOps.lean ====
section
/-! DEFINITION. Wall time and ledger time, signed records and tamper counts (R277 to R283, R291, R311, R315). -/

namespace Sys2Proof.Machine

/-- SRF record types (R312). -/
abbrev rSESSION_OPEN : Nat := 1
abbrev rSESSION_CLOSE : Nat := 2
abbrev rREADING : Nat := 3
abbrev rBILLING : Nat := 4
abbrev rTIME_SET : Nat := 5
abbrev rTAMPER : Nat := 6
abbrev rCAL : Nat := 7
abbrev rOUTAGE : Nat := 8
abbrev rTARIFF : Nat := 9
abbrev rCALENDAR : Nat := 10
abbrev rSYNC_SHIFT : Nat := 11
abbrev rTWIN_CHANGE : Nat := 12

/-- Tamper types (R315). -/
abbrev tCAL_OPEN : Nat := 5
abbrev tLEGAL_WRITE : Nat := 6
abbrev tNET_MODE : Nat := 7
abbrev tPART_LEGAL : Nat := 8
abbrev tPART_SAFE : Nat := 9
abbrev tCLOCK_BACK : Nat := 10
abbrev tCLOCK_FWD : Nat := 11
abbrev tPOWER_OUTAGE : Nat := 12
abbrev tPOSSIBLE_LOSS : Nat := 13
abbrev tLEGAL_UPDATE : Nat := 14
abbrev tLEGAL_REVERT : Nat := 15
abbrev tRECORD_OVERWRITE : Nat := 16
abbrev tHOLDOVER : Nat := 17
abbrev tCHANNEL_ABSENT : Nat := 18
abbrev tCAL_REFUSED : Nat := 19
abbrev tRTC_LOST : Nat := 20
abbrev tSEAL_IDLE : Nat := 21
abbrev tSIGN_KEY : Nat := 22
abbrev tIMAGE_REFUSED : Nat := 23
abbrev tLEDGER_CORRUPT : Nat := 24

/-- Length in bytes of a record: header, body, signature (R311). -/
def Rec.len (r : Rec) : Nat := 48 + r.body.foldl (fun n f => n + f.1) 0 + if r.alg = 2 then 96 else 64

/-- The 64-byte units a record takes in the journal. -/
def Rec.units (r : Rec) : Nat := (r.len + 63) / 64

/-- Units of the 3 MiB record journal (R278). -/
def journalUnits : Nat := 49152

/-- The bytes a signature covers: header and body (R311). -/
def Rec.signed (r : Rec) : List Nat :=
  [0x53, 0x52, 0x46, 1, r.kind, r.alg] ++ [r.len, r.seq, r.wall, r.tflags, r.ledger, r.epoch, r.keyGen, r.legal]
    ++ r.body.map (·.2)

/-- Keep the newest records that fit in `room` units; the rest is overwritten. Newest first. -/
def keepRecords : Nat → List Rec → List Rec × List Rec
  | _, [] => ([], [])
  | room, r :: rs =>
    if r.units ≤ room then
      let (a, b) := keepRecords (room - r.units) rs
      (r :: a, b)
    else ([], r :: rs)

namespace State

/-! ### Time -/

/-- The clock is valid. -/
def rtcValid (s : State) : Bool := s.flag R.GLOBAL_MTB_UTC_RTC_VALID

/-- The wall time of an MTB instant in ms, 0 while the clock is invalid (R293). -/
def wallMsAt (s : State) (t : Nat) : Nat :=
  if s.rtcValid then
    ((1000 * s.rd R.GLOBAL_MTB_UTC_UTC_SEC : Int) + ((t : Int) - s.atSec) / 10 ^ 6).toNat
  else 0

/-- The latest second edge of demand (R259): of the RTC, or an MTB multiple of 10^9 ns while the clock is invalid. -/
def secEdge (s : State) : Nat := if s.rtcValid then s.atSec.toNat else s.mtb / 10 ^ 9 * 10 ^ 9

/-- The wall time now, in ms. -/
def wallMs (s : State) : Nat := s.wallMsAt s.mtb

/-- The wall time now, in whole seconds. -/
def wallS (s : State) : Nat := s.wallMs / 1000

/-- The ledger time of an MTB instant in ms (R291): wall time plus the offset; held while the clock is invalid.
(DESIGN CHOICE, log 85) -/
def ledgerMsAt (s : State) (t : Nat) : Nat := if s.rtcValid then s.wallMsAt t + s.ledger.offMs else s.ledger.ledgerHeld

/-- The time flags of a record (R311). -/
def timeFlags (s : State) : Nat :=
  b2n (!s.rtcValid) + 2 * b2n (s.rtcValid && s.ledger.offMs != 0) + 4 * b2n s.ledger.timeSet

/-- Set the wall time (R291): the ledger time becomes the larger of its own value and the new wall time.
(DESIGN CHOICE, log 9) -/
def setWall (s : State) (ms : Nat) : State :=
  let led := s.ledgerMsAt s.mtb
  let s := s.wr R.GLOBAL_MTB_UTC_UTC_SEC 0 (ms / 1000)
  let s := s.wrInt R.GLOBAL_MTB_UTC_MTB_AT_SEC 0 (s.mtb - (ms % 1000 * 10 ^ 6 : Nat))
  let s := s.wr R.GLOBAL_MTB_UTC_RTC_VALID 0 1
  { s with ledger := { s.ledger with offMs := led - ms, timeSet := true } }

/-! ### Records -/

/-- Issue a ledger sequence number (R277): a number reserved for the Cask that applies now, else the next one. -/
def issueNum (s : State) : Nat × State :=
  match s.ledger.useNums with
  | n :: r => (n, { s with ledger := { s.ledger with useNums := r } })
  | [] => (s.ledger.issued + 1, { s with ledger := { s.ledger with issued := s.ledger.issued + 1 } })

/-- Reserve the next `k` numbers (R281). Answers the first. -/
def reserveNums (s : State) (k : Nat) : Nat × State :=
  (s.ledger.issued + 1, { s with ledger := { s.ledger with issued := s.ledger.issued + k } })

/-- Append a record under a given number at given times (R281 to R283). Answers the unacknowledged records that it
overwrites. -/
def appendAs (s : State) (num kind mp wall ledger flags epoch : Nat) (body : List (Nat × Nat)) : List Nat × State :=
  let r : Rec := ⟨num, kind, mp, wall, flags, ledger, epoch, 1 + s.rd R.LEDGER_CFG_SIG_ALG, s.ledgerGen,
    s.rd R.LEDGER_LEGAL_ID_SHA256 % 2 ^ 32, body, none⟩
  let (keep, gone) := keepRecords (journalUnits - r.units) s.ledger.records
  let lost := (gone.map (·.seq)).filter fun n => decide (s.ledger.acked < n)
  let unsigned := (r :: keep).countP (·.sig.isNone)
  let s := { s with ledger := { s.ledger with records := r :: keep, appended := s.ledger.appended + 1, timeSet := false } }
  let s := (s.wr R.LEDGER_STAT_LAST_SEQ 0 num).wr R.LEDGER_STAT_UNSIGNED 0 (min unsigned (2 ^ 20 - 1))
  let s := s.addSat R.LEDGER_STAT_OVERWRITTEN 0 lost.length
  (lost, s.raise Ev.LEDGER_RECORD mp [num, kind, mp])

/-- Append a record with the next number and the present times. -/
def appendCore (s : State) (kind mp : Nat) (body : List (Nat × Nat)) : List Nat × State :=
  let (n, s) := s.issueNum
  s.appendAs n kind mp s.wallMs (s.ledgerMsAt s.mtb) s.timeFlags (s.rd R.HOST_SYNC_GLOBAL_EPOCH) body

/-- The tamper table entry of a type counts one more (R315). -/
def tamperCount (s : State) (ty k : Nat) : State :=
  let n := ty - 1
  let s := if s.rd R.LEDGER_TAMPER_COUNT n = 0 then s.wr R.LEDGER_TAMPER_FIRST_UTC n s.wallS else s
  (s.addSat R.LEDGER_TAMPER_COUNT n k).wr R.LEDGER_TAMPER_LAST_UTC n s.wallS

/-- The body of a TAMPER record. -/
def tamperBody (s : State) (ty detail : Nat) : List (Nat × Nat) :=
  [(1, ty), (3, 0), (4, s.rd R.LEDGER_TAMPER_COUNT (ty - 1)), (16, detail)]

/-- Unacknowledged records were overwritten (R283): one occurrence, whose TAMPER record names the lowest and highest
number, those overwritten by its own append included. -/
def overwritten (s : State) (lost : List Nat) : State :=
  if lost = [] then s else
  let s := s.tamperCount tRECORD_OVERWRITE 1
  let alg := s.rd R.LEDGER_CFG_SIG_ALG
  let probe : Rec := ⟨0, 6, 0, 0, 0, 0, 0, 1 + alg, 0, 0, [(24, 0)], none⟩
  let more := ((keepRecords (journalUnits - probe.units) s.ledger.records).2.map (·.seq)).filter fun n => decide (s.ledger.acked < n)
  let all := lost ++ more
  let lo := all.foldl min (all.headD 0)
  let hi := all.foldl max 0
  let (_, s) := s.appendCore rTAMPER 0xFF (s.tamperBody tRECORD_OVERWRITE (lo + 2 ^ 64 * hi))
  s.raise Ev.LEDGER_TAMPER 0 [tRECORD_OVERWRITE, s.rd R.LEDGER_TAMPER_COUNT (tRECORD_OVERWRITE - 1), s.wallS]

/-- Append a record (R281 to R283). -/
def append (s : State) (kind mp : Nat) (body : List (Nat × Nat)) : State :=
  let (lost, s) := s.appendCore kind mp body
  s.overwritten lost

/-- Append a record under a number already reserved, or the next one. -/
def appendNum (s : State) (num : Option Nat) (kind mp : Nat) (body : List (Nat × Nat)) : State :=
  match num with
  | none => s.append kind mp body
  | some n =>
    let (lost, s) := s.appendAs n kind mp s.wallMs (s.ledgerMsAt s.mtb) s.timeFlags (s.rd R.HOST_SYNC_GLOBAL_EPOCH) body
    s.overwritten lost

/-- Append a record of an earlier instant, with the times of that instant (R281, R314), under a number already reserved
or the next one. (DEDUCED, log 198) -/
def appendTimed (s : State) (num : Option Nat) (kind mp wall ledger flags : Nat) (body : List (Nat × Nat)) : State :=
  let (n, s) := match num with
    | some n => (n, s)
    | none => s.issueNum
  let (lost, s) := s.appendAs n kind mp wall ledger flags (s.rd R.HOST_SYNC_GLOBAL_EPOCH) body
  s.overwritten lost

/-- `k` occurrences of a tamper type (R315): each counts; a record and an event follow. -/
def tamperMany (s : State) (ty detail k : Nat) : State :=
  if k = 0 then s else
  let s := s.tamperCount ty k
  let s := s.append rTAMPER 0xFF (s.tamperBody ty detail)
  s.raise Ev.LEDGER_TAMPER 0 [ty, s.rd R.LEDGER_TAMPER_COUNT (ty - 1), s.wallS]

/-- One occurrence of a tamper type (R315). -/
def tamper (s : State) (ty detail : Nat) : State := s.tamperMany ty detail 1

end State

/-- The number of an initiator tag (table GLOBAL.PART_VIOL). -/
def iniCode : Ini → Nat
  | .host => 0 | .app => 1 | .legal => 2 | .safe => 3

/-- A resource of the LEGAL partition, or of the SAFE partition (R30). (DEDUCED, log 14) -/
def legalRes (r : Res) : Bool := [Res.metroParams, .counters, .cryptoLegalKeys, .segments, .rtc].contains r
/-- As above. (DEDUCED, log 14) -/
def safeRes (r : Res) : Bool := [Res.coilHigh, .coilLow, .cryptoSafeKeys].contains r

namespace State

/-- A refusal by the access matrix (R30). -/
def partitionDenied (s : State) (ini target : Nat) (r : Res) : State :=
  let s := (s.incSat R.GLOBAL_PART_VIOL_COUNT 0).alert R.GLOBAL_ALERT_PART_VIOL
  let s := (s.wr R.GLOBAL_PART_VIOL_LAST_SRC 0 ini).wr R.GLOBAL_PART_VIOL_LAST_DST 0 target
  if legalRes r then s.tamper tPART_LEGAL target else if safeRes r then s.tamper tPART_SAFE target else s

/-- The signing key changed its generation (R366). -/
def signKeyChanged (s : State) : State := s.tamper tSIGN_KEY s.ledgerGen

/-- Sign the oldest unsigned record (R282, R311, R366): without the root nothing is signed (R359); a STALE signing key
is re-derived first. The record carries the generation that signed it. (DESIGN CHOICE, log 138) -/
def signOldest (s : State) : State :=
  match s.ledger.records.reverse.findIdx? (·.sig.isNone), s.node? pathSign with
  | some i, some k =>
    if s.keyMode != 2 then s else
    let s := if k.stale then (s.rederive pathSign).signKeyChanged else s
    let gen := s.ledgerGen
    let s := s.useNode k.handle
    let key := (s.nodeKey pathSign).getD 0
    let j := s.ledger.records.length - 1 - i
    let rs := s.ledger.records.modify j fun r =>
      let r := { r with keyGen := gen }
      { r with sig := some (Config.sign key (s.rd R.PWR_MODULE_ID_SERIAL :: r.signed)) }
    let s := { s with ledger := { s.ledger with records := rs } }
    s.wr R.LEDGER_STAT_UNSIGNED 0 (min (rs.countP (·.sig.isNone)) (2 ^ 20 - 1))
  | _, _ => s

/-! ### Calibration access -/

/-- The conditions of an RWL write (R8, R266): LEGAL_SEAL is asserted and a calibration is open. -/
def calAllowed (s : State) : Bool := s.ledger.cal.isSome && s.flag R.LEDGER_STAT_SEAL

/-- The open calibration covers a meter point (R319). -/
def calCovers (s : State) (m : Nat) : Bool :=
  match s.ledger.cal with
  | some c => bit c.mask m && s.flag R.LEDGER_STAT_SEAL
  | none => false

/-- Note a change under the open calibration for its CAL record; each accepted RWL write is a tamper-class event
(R266, R315, R319). -/
def calNote (s : State) (off old new : Nat) : State :=
  let s := match s.ledger.cal with
    | some c => { s with ledger := { s.ledger with cal := some { c with changes := c.changes ++ [(off, old, new)] } } }
    | none => s
  s.tamper tLEGAL_WRITE off

end State
end Sys2Proof.Machine
end

