-- ==== Sys2Proof/Machine/MetOps.lean ====
section
/-! DEFINITION. The shared operations of the sampling front end, the filter chains and the metering engine: channels,
group delays, chain restarts, trackers, meter-point states, cross-fades (R176 to R238). -/

namespace Sys2Proof.Machine
namespace State

/-! ### Accessors -/

/-- A meter point. -/
def mp (s : State) (m : Nat) : MeterPoint := s.met.mps.get MeterPoint.init m
/-- Change a meter point. -/
def modMp (s : State) (m : Nat) (f : MeterPoint → MeterPoint) : State :=
  { s with met := { s.met with mps := s.met.mps.upd MeterPoint.init m f } }
/-- A tracker. -/
def trk (s : State) (m : Nat) : Trk := s.filt.trks.get Trk.init m
/-- Change a tracker. -/
def modTrk (s : State) (m : Nat) (f : Trk → Trk) : State :=
  { s with filt := { s.filt with trks := s.filt.trks.upd Trk.init m f } }
/-- A filter chain. -/
def chain (s : State) (c : Nat) : Chain := s.filt.chains.get Chain.init c
/-- Replace a filter chain. -/
def setChain (s : State) (c : Nat) (h : Chain) : State :=
  { s with filt := { s.filt with chains := s.filt.chains.put Chain.init c h } }
/-- The resampler samples of a channel, newest first. -/
def samplesOf (s : State) (c : Nat) : List GridSample := s.filt.samples.get [] c
/-- Replace a channel's resampler samples. -/
def setSamples (s : State) (c : Nat) (l : List GridSample) : State :=
  { s with filt := { s.filt with samples := s.filt.samples.put [] c l } }

/-! ### Channels (R176, R236) -/

/-- The roles of a meter point's channel map: V1, V2, V3, I1, I2, I3, IN. -/
def roleFields : List Fld :=
  [R.MET_MAP_V1, R.MET_MAP_V2, R.MET_MAP_V3, R.MET_MAP_I1, R.MET_MAP_I2, R.MET_MAP_I3, R.MET_MAP_IN]

/-- The channel of each role, 0x7F for none. -/
def roles (s : State) (m : Nat) : List Nat := roleFields.map fun F => s.rd F m

/-- The channels a meter point names. -/
def mpChans (s : State) (m : Nat) : List Nat := (s.roles m).filter (· != 0x7F)

/-- A metering channel is enabled in the front end. -/
def afeEn (s : State) (c : Nat) : Bool :=
  if c < 48 then s.flag R.AFE_MOD_CFG_EN c else s.flag R.AFE_MBS_CFG_EN (c - 48)

/-- A rail is out of its limits (R504). -/
def railOut (s : State) (r : Nat) : Bool := s.flag R.PWR_RAIL_UV r || s.flag R.PWR_RAIL_OV r
/-- A channel is absent: not enabled, or its bitstream is lost (R33, R187). -/
def chAbsent (s : State) (c : Nat) : Bool := !s.afeEn c || s.flag R.AFE_CH_STAT_LOST c || s.railOut 10

/-- A metering session is open on a meter point. -/
def mpLive (s : State) (m : Nat) : Bool := s.flag R.MET_SESS_OPEN m

/-- The meter points that name a channel. -/
def mpsOf (s : State) (c : Nat) : List Nat := (List.range 12).filter fun m => (s.mpChans m).contains c

/-- A channel belongs to a meter point with an open metering session (R179, R229). -/
def chanLive (s : State) (c : Nat) : Bool := (s.mpsOf c).any s.mpLive

/-! ### Group delay (R217) -/

/-- The divider of the clock of a channel: 8 inside, the DIV of its MCLK outside (R183). -/
def clockDiv (s : State) (c : Nat) : Nat :=
  if c < 48 then 8 else [4, 5, 6, 8].getD (s.rd R.AFE_MCLK_CFG_DIV (s.rd R.AFE_MBS_CFG_MCLK (c - 48))) 8

/-- The CIC's decimation (table Stages of one channel). -/
def cicR (s : State) (c : Nat) : Nat := if c < 48 || s.clockDiv c = 8 then 16 else 32

/-- The tap group delay in half clocks of the modulator: modulator, CIC, 15.5 R, 22 R and 92 R clocks. -/
def tapHalfClocks (s : State) (c : Nat) : Nat :=
  let cic := if c < 48 then 2 + 4 * 15 else 5 * (s.cicR c - 1)
  cic + 259 * s.cicR c

/-- Half clocks of a channel as a time in 1/256 ns. -/
def halfClocksTo256 (s : State) (c h : Nat) : Nat := divRound (h * s.clockDiv c * 128000000) 49152

/-- SKEW_NS of an external channel in ns (R185). -/
def skew (s : State) (c : Nat) : Int := if c < 48 then 0 else s.rdInt R.AFE_MBS_CFG_SKEW_NS (c - 48)

/-- The tap group delay in 1/256 ns. (DESIGN CHOICE, log 84) -/
def tapGd (s : State) (c : Nat) : Int := s.halfClocksTo256 c (s.tapHalfClocks c) + 256 * s.skew c

/-- Half the span of the resampler's prototype in tap samples: 127, 63 or 31. -/
def halfSpan : Nat → Nat
  | 1 => 127 | 2 => 63 | 3 => 31 | _ => 0

/-- The total group delay in 1/256 ns. (DESIGN CHOICE, log 84) -/
def totalGd (s : State) (c : Nat) : Int :=
  s.halfClocksTo256 c (s.tapHalfClocks c + 16 * s.cicR c * halfSpan (s.rd R.FILT_CFG_RS_MODE c)) + 256 * s.skew c

/-- Show the group delays in use. -/
def updateGd (s : State) (c : Nat) : State :=
  (s.wrInt R.FILT_GD_TAP_GD c (s.tapGd c)).wrInt R.FILT_GD_TOTAL_GD c (s.totalGd c)

/-- How long samples carry SETTLING after a restart, in ns (R216). -/
def settleNs (s : State) (c : Nat) : Nat :=
  if s.rd R.FILT_CFG_RS_MODE c = 0 then (2 * s.tapGd c / 256).toNat else (2 * s.totalGd c / 256).toNat + 110000

/-! ### Meter-point states (R237, R238) -/

/-- The roles a type requires, by index. -/
def required : Nat → List Nat
  | 1 => [0, 3] | 2 => [0, 1, 2, 3, 4, 5] | 3 => [0, 3] | _ => []

/-- A role's channel number is one the role accepts (R236). -/
def roleOk (i c : Nat) : Bool :=
  if i < 3 then decide (32 ≤ c) && decide (c ≤ 63) else decide (c ≤ 31) || (decide (48 ≤ c) && decide (c ≤ 63))

/-- The type uses a role: a required one, or IN on AC. -/
def roleUsed (ty i : Nat) : Bool := (required ty).contains i || (i == 6 && (ty == 1 || ty == 2))

/-- A current channel is named by a lower-numbered enabled meter point (R238). -/
def currentTaken (s : State) (m c : Nat) : Bool :=
  (List.range m).any fun j => s.flag R.MET_CFG_EN j && s.rd R.MET_CFG_TYPE j != 0 && ((s.roles j).drop 3).contains c

/-- The first role for which a meter point may not start (R237). -/
def failingRole (s : State) (m : Nat) : Option Nat :=
  let ty := s.rd R.MET_CFG_TYPE m
  let rs := s.roles m
  let c0 := rs.getD 0 0x7F
  (List.range 7).find? fun i =>
    let c := rs.getD i 0x7F
    if c = 0x7F then (required ty).contains i
    else !roleUsed ty i || !roleOk i c || !s.afeEn c
      || s.rd R.FILT_CFG_TRK c != s.rd R.FILT_CFG_TRK c0 || s.rd R.FILT_CFG_RS_MODE c != s.rd R.FILT_CFG_RS_MODE c0
      || (ty == 3) != (s.rd R.FILT_CFG_RS_MODE c == 0)
      || (ty == 3 && c < 32 && s.flag R.AFE_MOD_CFG_SENSOR c)
      || (i == 0 && s.rd R.MET_SCALE_KV m == 0) || (i == 3 && s.rd R.MET_SCALE_KI m == 0)
      || (3 ≤ i && s.currentTaken m c)

/-- The state a meter point should be in (table Meter point states), with the failing role. -/
def mpTarget (s : State) (m : Nat) : Nat × Nat :=
  if !s.flag R.MET_CFG_EN m || s.rd R.MET_CFG_TYPE m = 0 then (0, 0xFF) else
  match (if (s.mpChans m).any (fun c => s.afeEn c && s.flag R.AFE_CH_STAT_LOST c) then none else s.failingRole m) with
  | some r => (1, r)
  | none =>
    if (s.mpChans m).any fun c => s.flag R.FILT_STAT_SETTLING c && !s.chAbsent c then (2, 0xFF)
    else if (s.mpChans m).any s.chAbsent then (4, 0xFF) else (3, 0xFF)

/-- Enter a meter-point state (R237, R250, R255): MET_STATE; MET_QUALITY and CHANNEL_ABSENT around DEGRADED. -/
def setMpState (s : State) (m new role : Nat) : State :=
  let old := s.rd R.MET_CFG_STATE m
  if old = new then s else
  let s := (s.wr R.MET_CFG_STATE m new).raise Ev.MET_STATE m [m, old, new, role]
  let lost := ((s.mpChans m).find? s.chAbsent).getD 0x7F
  let s := if new = 4 then (s.raise Ev.MET_QUALITY m [m, lost, 1]).tamper tCHANNEL_ABSENT (m + 16 * lost) else s
  let s := if old = 4 then s.raise Ev.MET_QUALITY m [m, lost, 0] else s
  let s := if new = 3 then s.modMp m fun p => { p with dirExport := false, revCyc := 0 } else s
  if (new = 3 || new = 4) && old != 3 && old != 4 then
    let first := if s.rd R.MET_CFG_TYPE m = 3 then s.mtb / (2 * 10 ^ 7) else (s.trk (s.rd R.FILT_CFG_TRK ((s.mpChans m).headD 0))).no
    s.modMp m fun p => { p with
      partEnd := s.mtb, next := first, win := [], ready := none, winCyc := 0, winFlags := 0, winStart := s.mtb, pqNext := 2 * first + 2 }
  else s

/-- Evaluate a meter point's state anew. -/
def mpEval (s : State) (m : Nat) : State :=
  let (st, r) := s.mpTarget m
  s.setMpState m st r

/-- Evaluate every meter point, lower numbers first. -/
def mpEvalAll (s : State) : State := forEach (List.range 12) (fun m s => s.mpEval m) s

/-- A meter point meters. -/
def mpRuns (s : State) (m : Nat) : Bool := s.rd R.MET_CFG_STATE m == 3 || s.rd R.MET_CFG_STATE m == 4

/-! ### Trackers (R219, R221) -/

/-- The channel a tracker follows, if it names one. -/
def trkSource (s : State) (m : Nat) : Option Nat :=
  let c := s.rd R.FILT_TRK_CFG_SRC_CH m
  if c = 0x7F then (let v := s.rd R.MET_MAP_V1 m; if v = 0x7F then none else some v)
  else if 32 ≤ c && c ≤ 63 then some c else none

/-- The tracker's source is absent (R219). -/
def trkAbsent (s : State) (m : Nat) : Bool :=
  match s.trkSource m with
  | some c => s.chAbsent c
  | none => true

/-- The period of the nominal frequency in ns. -/
def nominalPeriod (s : State) (m : Nat) : Nat := if s.flag R.FILT_TRK_CFG_FNOM m then 16666667 else 20000000

/-- A tracker can supply a period to the charge-balancing converter (R197). -/
def periodUsable (s : State) (m : Nat) : Bool :=
  let f := s.rd R.FILT_TRK_STAT_FREQ_UHZ m
  s.rd R.FILT_TRK_STAT_STATE m == 2 && decide (45000000 ≤ f) && decide (f ≤ 65000000)

/-- Over how many ns the charge-balancing converter integrates for a sequence, and whether that is the fixed 20 ms (R197):
over one period of the fundamental as tracked now, or over 20 ms with INT_MODE 1 or without a usable period. -/
def integTime (s : State) (q : Nat) : Nat × Bool :=
  let m := s.rd R.AFE_SEQ_CTL_INT_MP q
  if !s.flag R.AFE_SEQ_CTL_INT_MODE q && s.periodUsable m then (divRound (10 ^ 15) (s.rd R.FILT_TRK_STAT_FREQ_UHZ m), false)
  else (20000000, true)

/-- An entry of the charge-balancing converter whose settling has ended integrates (R197): its length is fixed, and a period
that could not be used is reported once at each loss. It is fixed with the tracker as it was when the integration started:
before the tracker's state changes, or when the entry ends. (DESIGN CHOICE, log 239) -/
def auxDecide (s : State) : State :=
  match s.afe.run.get none 1 with
  | some r =>
    if r.len.isSome || s.mtb < r.at_ + 50000 * s.rd R.AFE_SEQ_ENT_SETTLE (64 * r.seq + r.entry) then s else
    let (d, fixed) := s.integTime r.seq
    let m := s.rd R.AFE_SEQ_CTL_INT_MP r.seq
    let s := { s with afe := { s.afe with run := s.afe.run.put none 1 (some { r with len := some d, fixedT := fixed }) } }
    if !fixed then { s with afe := { s.afe with fellBack := clearBit s.afe.fellBack r.seq } }
    else
      let s := s.incSat R.AFE_SCAN_STAT_FALLBACKS 0
      if s.flag R.AFE_SEQ_CTL_INT_MODE r.seq || bit s.afe.fellBack r.seq then s else
        ({ s with afe := { s.afe with fellBack := setBit s.afe.fellBack r.seq } } : State).raise Ev.AFE_TRACK_FALLBACK 0
          [r.seq, m]
  | none => s

/-- A tracker loses lock while the charge-balancing converter integrates over its period (R197). -/
def auxUnlocked (s : State) (m : Nat) : State :=
  match s.afe.run.get none 1 with
  | some r =>
    if s.rd R.AFE_SEQ_CTL_INT_MP r.seq = m && r.len.isSome && !r.fixedT then
      { s with afe := { s.afe with run := s.afe.run.put none 1 (some { r with lost := true }) } }
    else s
  | none => s

/-- Enter a tracker state (R221): TRK_STATE with its reason; leaving LOCKED counts. The frequencies of its meter points
read 0 while it is not LOCKED (R244). -/
def setTrk (s : State) (m new reason : Nat) : State :=
  let old := s.rd R.FILT_TRK_STAT_STATE m
  let s := s.auxDecide.wr R.FILT_TRK_STAT_STATE m new
  let s := if old = 2 && new != 2 then (s.incSat R.FILT_TRK_STAT_UNLOCKS m).auxUnlocked m else s
  let s := if new = 2 then s else
    forEach ((List.range 12).filter fun p => s.rd R.FILT_CFG_TRK ((s.mpChans p).headD 0) == m)
      (fun p s => (s.wr R.MET_TOTAL_FREQ_1S p 0).wr R.MET_TOTAL_FREQ_10S p 0) s
  s.raise Ev.TRK_STATE m [m, old, new, reason, s.rd R.FILT_TRK_STAT_FREQ_UHZ m]

/-- Open a grid cycle at `z` with the period `p` (R223): ZC, NEXT and PER show it, and it takes the next number. -/
def openCycle (s : State) (m z p : Nat) : State :=
  let free := s.rd R.FILT_TRK_STAT_STATE m != 2
  let s := s.modTrk m fun k => { k with no := k.no + 1, cycles := (⟨k.no + 1, z, p, free, false⟩ :: k.cycles).take 32 }
  ((s.wr R.FILT_TRK_ZC_START m z).wr R.FILT_TRK_NEXT_START m (z + p)).wr R.FILT_TRK_PER_PERIOD_NS m p

/-- A grid that does not run, as before the start of metering, begins at this instant. -/
def gridRuns (s : State) (m : Nat) : State :=
  if s.rd R.FILT_TRK_NEXT_START m + s.nominalPeriod m ≤ s.mtb || (s.trk m).no = 0 then s.openCycle m s.mtb (s.nominalPeriod m)
  else s

/-- Forget what a tracker has measured; its grid goes on. -/
def clearTrk (s : State) (m : Nat) : State := s.modTrk m fun k => { Trk.init with no := k.no, cycles := k.cycles }

/-- OFF and SEARCH as EN and the presence of the source ask (R221). -/
def trkRefresh (s : State) (m : Nat) : State :=
  let st := s.rd R.FILT_TRK_STAT_STATE m
  let off := !s.flag R.FILT_TRK_CFG_EN m || s.trkAbsent m
  if off && st != 0 then (s.clearTrk m).setTrk m 0 7
  else if !off && st == 0 then ((s.gridRuns m).clearTrk m).setTrk m 1 8
  else s

/-- Refresh every tracker. -/
def trkRefreshAll (s : State) : State := forEach (List.range 12) (fun m s => s.trkRefresh m) s

/-! ### Chain restarts and cross-fades -/

/-- A channel's cross-fade in progress or waiting. -/
def blendOf (s : State) (c : Nat) : Option Blend := s.filt.blends.find? fun b => b.chans.contains c

/-- Channels as a mask. -/
def chanMask (cs : List Nat) : Nat := cs.foldl (fun m c => setBit m c) 0

/-- A cross-fade is over for some of its channels (R231, R232, R268): BLEND_DONE, the calibration result it belongs
to, and the outcome of its command. -/
def finishBlend (s : State) (b : Blend) (cs : List Nat) (t1 cut : Nat) : State :=
  let rest := b.chans.filter (!cs.contains ·)
  let bs := s.filt.blends.map fun x => if x == b then { b with chans := rest } else x
  let gone := if cut = 0 then [({ b with chans := cs }, t1)] else []
  let s := { s with filt := { s.filt with blends := bs.filter fun x => x.chans != [], faded := (gone ++ s.filt.faded).take 64 } }
  let s := forEach cs (fun c s => s.wr R.FILT_STAT_BLENDING c 0) s
  let s := s.raise Ev.BLEND_DONE 0 [chanMask cs, b.t0.getD s.mtb, t1, s.rd R.FILT_STAT_ACTIVE_BANK (cs.headD 0), cut]
  if rest != [] then s else
  let s := match b.cal with
    | some r => s.raise Ev.MET_CAL_RESULT (r.headD 0) r
    | none => s
  s.finaliseOpt b.ctx St.OK

/-- End a channel's cross-fade at once, as a restart does (R232): the new bank is active. -/
def cutBlend (s : State) (c : Nat) : State :=
  match s.blendOf c with
  | none => s
  | some b => s.finishBlend b [c] s.mtb 1

/-- The position of the MTB on XTAL49, in half periods from its zero (R20): 768/15,625 of a period to a ns. -/
def xtalPos (ns : Nat) : Nat := 1536 * ns / 15625

/-- Empty a channel's pipeline (R216): the next code is the first one taken, and the resampler begins with the present grid
cycle. -/
def emptyChain (s : State) (c : Nat) : State :=
  (s.setChain c { Chain.init with pos := xtalPos s.mtb, nextCyc := (s.trk (s.rd R.FILT_CFG_TRK c)).no }).setSamples c []

/-- Restart a filter chain (R216): SETTLING, nothing kept, its cross-fade ended, its delays as they now are. -/
def restartChain (s : State) (c : Nat) : State :=
  let s := ({ s with filt := { s.filt with restartAt := s.filt.restartAt.put 0 c s.mtb } } : State).emptyChain c
  let s := ((s.wr R.FILT_STAT_SETTLING c 1).wr R.FILT_STAT_PRESENT c 0).wr R.AFE_CH_STAT_PRESENT c 0
  let s := (s.cutBlend c).updateGd c
  forEach (s.mpsOf c) (fun m s => s.mpEval m) s

/-- Start a cross-fade of channels to their other banks (R231, R233): the new bank is the restored active one from
now on. (DESIGN CHOICE, log 77) -/
def startBlend (s : State) (cs : List Nat) (ctx : Option Ctx) (cal : Option (List Nat)) : State :=
  let s := forEach cs (fun c s => s.wr R.FILT_STAT_ACTIVE_BANK c (1 - s.rd R.FILT_STAT_ACTIVE_BANK c)) s
  let b : Blend := ⟨cs, s.mtb, none, s.rd R.FILT_CFG_TRK (cs.headD 0), ctx, cal⟩
  { s with filt := { s.filt with blends := s.filt.blends ++ [b] } }

/-- The bank that a cross-fade would bring in. -/
def otherBank (s : State) (c : Nat) : Nat := 2 * c + (1 - s.rd R.FILT_STAT_ACTIVE_BANK c)
/-- The active bank. -/
def thisBank (s : State) (c : Nat) : Nat := 2 * c + s.rd R.FILT_STAT_ACTIVE_BANK c

/-- A saturation of filter stages (R211): the stages, the count, and FILT_OVERFLOW at most once a second. -/
def filtOverflow (s : State) (c stages k : Nat) : State :=
  let s := s.wr R.FILT_STAT_OVF_STAGE c (s.rd R.FILT_STAT_OVF_STAGE c ||| stages)
  let s := s.addSat R.FILT_STAT_OVF_CNT c k
  let first := if s.filt.ovfSince.get 0 c = 0 then s.mtb else s.filt.ovfFirst.get 0 c
  let n := s.filt.ovfSince.get 0 c + k
  let at1 := s.filt.ovfEvAt1.get 0 c
  if at1 = 0 || at1 + 10 ^ 9 ≤ s.mtb + 1 then
    let s := { s with filt := { s.filt with
      ovfSince := s.filt.ovfSince.put 0 c 0, ovfEvAt1 := s.filt.ovfEvAt1.put 0 c (s.mtb + 1) } }
    s.raise Ev.FILT_OVERFLOW c [c, stages, n, first]
  else { s with filt := { s.filt with
      ovfSince := s.filt.ovfSince.put 0 c n, ovfFirst := s.filt.ovfFirst.put 0 c first } }

/-! ### Sample flags -/

/-- The flags of a sample (table Sample flags): overloaded or lost, saturated, on a free-running grid, in a cross-fade, in
holdover, in a stretched cycle, settling. -/
def flagBits (ovl ovf free blend hold step set : Bool) : Nat :=
  b2n (!ovl && !ovf && !set) + 2 * b2n ovl + 4 * b2n ovf + 8 * b2n free + 16 * b2n blend + 32 * b2n hold + 64 * b2n step
    + 128 * b2n set

/-- A channel is overloaded now, or its bitstream is lost (R180, R187). -/
def ovlNow (s : State) (c : Nat) : Bool := s.flag R.AFE_CH_STAT_OVL_NOW c || s.flag R.AFE_CH_STAT_LOST c

/-- The flags of a channel's last sample: of its resampler, or of its tap with RS_MODE 0 (R228); before the first one, those
that a sample of this instant would carry. -/
def sampleFlags (s : State) (c : Nat) : Nat :=
  let now := flagBits (s.ovlNow c) false false (s.flag R.FILT_STAT_BLENDING c) (s.flag R.PWR_STAT_MTB_HOLDOVER) false
    (s.flag R.FILT_STAT_SETTLING c || s.chAbsent c)
  if s.rd R.FILT_CFG_RS_MODE c = 0 then (((s.chain c).taps.head?).map (·.fl)).getD now
  else (((s.samplesOf c).head?).map (·.fl)).getD now

end State
end Sys2Proof.Machine
end

