-- ==== Sys2Proof/Machine/TariffOps.lean ====
section
/-! DEFINITION. Local time, the tariff calendar and the nominal boundaries of demand and billing (R295, R296, R298,
R299, R309). Seconds are wall UTC or local seconds since 1970. -/

namespace Sys2Proof

/-- The DST offset in force at a wall time: the last change at or before it, in minutes. -/
def dstAt (c : Calendar) (wall : Nat) : Int := ((c.dst.filter fun d => decide (d.1 ≤ wall)).getLast?.map (·.2)).getD 0

/-- Local time of a wall time (R295). -/
def Calendar.localOf (c : Calendar) (wall : Nat) : Nat := ((wall : Int) + 60 * (c.offset + dstAt c wall)).toNat

namespace Machine

/-- Year, month and day of a day number counted from 1970-01-01. -/
def civil (days : Nat) : Nat × Nat × Nat :=
  let z := days + 719468
  let era := z / 146097
  let doe := z % 146097
  let yoe := (doe - doe / 1460 + doe / 36524 - doe / 146096) / 365
  let doy := doe - (365 * yoe + yoe / 4 - yoe / 100)
  let mp := (5 * doy + 2) / 153
  let d := doy - (153 * mp + 2) / 5 + 1
  let m := if mp < 10 then mp + 3 else mp - 9
  let y := yoe + era * 400
  (if m ≤ 2 then y + 1 else y, m, d)

/-- The weekday of a day number, Monday 0. -/
def weekday (days : Nat) : Nat := (days + 3) % 7

/-- A date is on or after a month and day. -/
def dateLe (m d m' d' : Nat) : Bool := decide (m < m') || (m == m' && decide (d ≤ d'))

/-- The season in force on a date: the latest start not after it, or the latest of the year before (R295). -/
def seasonOf (c : Calendar) (m d : Nat) : Option (Nat × Nat × Nat) :=
  let latest := fun (xs : List (Nat × Nat × Nat)) => xs.foldl (fun (b : Option (Nat × Nat × Nat)) x =>
    match b with
    | none => some x
    | some y => if dateLe y.1 y.2.1 x.1 x.2.1 then some x else some y) none
  match latest (c.seasons.filter fun s => dateLe s.1 s.2.1 m d) with
  | some x => some x
  | none => latest c.seasons

/-- The day profile of a local day (R295): a special day first, else season, week and weekday. -/
def dayProfile (c : Calendar) (day : Nat) : List (Nat × Nat) :=
  let (y, m, d) := civil day
  let k := match c.specials.find? fun s => (s.1 == 0 || s.1 == y) && s.2.1 == m && s.2.2.1 == d with
    | some s => s.2.2.2
    | none => match seasonOf c m d with
      | some s => (c.weeks.getD s.2.2 []).getD (weekday day) 0
      | none => 0
  c.days.getD k []

/-- The tariff a calendar gives at a wall time (R295). -/
def calendarTariff (c : Calendar) (wall : Nat) : Nat :=
  let l := c.localOf wall
  let day := l / 86400
  let minute := l % 86400 / 60
  match ((dayProfile c day).filter fun p => decide (p.1 ≤ minute)).getLast? with
  | some p => p.2
  | none => match (dayProfile c (day - 1)).getLast? with
    | some p => p.2
    | none => 0

/-- A calendar from the bytes before its signature (table Calendar layout); none where its length, its version or a reserved byte of
its header is not as the layout has it. Its digest is the SHA-256 of these bytes. (DESIGN CHOICE, log 249) -/
def calendarOf (bs : List Nat) : Option Calendar :=
  let f := leField bs
  let o1 := 20 + 4 * f 12 1
  let o2 := o1 + 8 * f 13 1
  let o3 := o2 + 128 * f 14 1
  let o4 := o3 + 6 * f 15 1
  let rows := fun (n : Nat) => List.range n
  if bs.length != o4 + 8 * f 16 1 || f 0 2 != 1 || f 17 3 != 0 then none else some
    { activation := f 2 8
      offset := dec 16 (f 10 2)
      seasons := (rows (f 12 1)).map fun i => (f (20 + 4 * i) 1, f (21 + 4 * i) 1, f (22 + 4 * i) 1)
      weeks := (rows (f 13 1)).map fun i => (rows 7).map fun d => f (o1 + 8 * i + d) 1
      days := (rows (f 14 1)).map fun i => (rows 32).filterMap fun p =>
        let a := o2 + 128 * i + 4 * p
        if f a 2 = 0xFFFF then none else some (f a 2, f (a + 2) 1)
      specials := (rows (f 15 1)).map fun i => (f (o3 + 6 * i) 2, f (o3 + 6 * i + 2) 1, f (o3 + 6 * i + 3) 1, f (o3 + 6 * i + 4) 1)
      dst := (rows (f 16 1)).map fun i => (f (o4 + 8 * i) 4, dec 16 (f (o4 + 8 * i + 4) 2))
      digest := Config.hash bs }

/-- The limits of a calendar (R296). -/
def calendarValid (c : Calendar) : Bool :=
  let n := fun (a x b : Nat) => decide (a ≤ x) && decide (x ≤ b)
  let date := fun (m d : Nat) => n 1 m 12 && n 1 d 31
  decide (-840 ≤ c.offset) && decide (c.offset ≤ 840) && n 1 c.seasons.length 8 && n 1 c.weeks.length 8
    && n 1 c.days.length 16 && n 0 c.specials.length 64 && n 0 c.dst.length 32
    && c.seasons.all (fun s => date s.1 s.2.1 && decide (s.2.2 < c.weeks.length))
    && c.weeks.all (fun w => w.length == 7 && w.all fun d => decide (d < c.days.length))
    && c.days.all (fun d => decide (d.length ≤ 32) && d.all (fun p => decide (p.1 < 1440) && decide (p.2 < 16))
        && (d.map (·.1)).Pairwise (· < ·))
    && c.specials.all (fun s => date s.2.1 s.2.2.1 && decide (s.2.2.2 < c.days.length))
    && (c.dst.map (·.1)).Pairwise (· < ·)

/-- How many monthly billing ends at `day` and `hour` lie at or before a local time. -/
def billIndex (day hour l : Nat) : Nat :=
  let (y, m, d) := civil (l / 86400)
  let months := 12 * y + m
  if day < d || (d = day && 3600 * hour ≤ l % 86400) then months else months - 1

namespace State

/-- Local time of a wall time by the active calendar; wall time where there is none. -/
def localOf (s : State) (wall : Nat) : Nat :=
  match s.ledger.calendar with
  | some c => c.localOf wall
  | none => wall

/-- The account of a meter point. -/
def acct (s : State) (m : Nat) : Account := s.ledger.accts.get Account.init m
/-- Change the account of a meter point. -/
def modAcct (s : State) (m : Nat) (f : Account → Account) : State :=
  { s with ledger := { s.ledger with accts := s.ledger.accts.upd Account.init m f } }

/-- The tariff that applies to a meter point at a wall time (R293, R295, R297, R298). -/
def tariffFor (s : State) (m wall : Nat) : Nat :=
  if !s.rtcValid then s.rd R.LEDGER_CFG_TARIFF_DEFAULT
  else if (s.acct m).forced1 != 0 then (s.acct m).forced1 - 1
  else match s.ledger.calendar with
    | some c => calendarTariff c wall
    | none => s.rd R.LEDGER_CFG_TARIFF_DEFAULT

/-- Sub-intervals of a demand interval: one in block mode (R299). -/
def subN (s : State) : Nat := if s.flag R.LEDGER_DEMAND_CFG_SLIDING then max 1 (s.rd R.LEDGER_DEMAND_CFG_SUB_N) else 1

/-- The sub-interval length in s (R299). -/
def subLen (s : State) : Nat := max 1 (60 * s.rd R.LEDGER_DEMAND_CFG_DEM_MIN / s.subN)

/-- A demand configuration is allowed (R299): sub-intervals of whole seconds that divide a day. -/
def demandCfgOk (dem n : Nat) : Bool :=
  n != 0 && dem != 0 && 60 * dem % n == 0 && 86400 % (60 * dem / n) == 0

/-- The clock demand runs on: local time, or MTB seconds while the clock is invalid (R293, R299). -/
def demandClock (s : State) (wall mtb : Nat) : Nat := if s.rtcValid then s.localOf wall else mtb / 10 ^ 9

end State
end Machine

end Sys2Proof
end

