-- ==== Sys2Proof/Machine/DispOps.lean ====
section
/-! DEFINITION. The displays: waveforms and transitions, regions, the panel supply, temperature bands, and the painting
of the legal segments (R408 to R431). -/

namespace Sys2Proof

/-- The drive codes of a matrix table. -/
def EpdWave.matrix (w : EpdWave) (mode variant band prev next : Nat) : List Nat :=
  (((w.mat.find? fun e => e.1 == (((mode * 4 + variant) * 16 + band) * 16 + prev) * 16 + next).map (·.2)).getD []).take 64

/-- The drive codes of a segment table: direction 0 to white, 1 to black. -/
def EpdWave.segment (w : EpdWave) (band dir : Nat) : List Nat :=
  (((w.seg.find? fun e => e.1 == band * 2 + dir).map (·.2)).getD []).take 64

/-- The part passes R408: codes valid, at most 64 frames, thresholds ascending, FPS within 50 to 85. -/
def EpdWave.ok (w : EpdWave) : Bool :=
  decide (50 ≤ w.fps) && decide (w.fps ≤ 85) && w.thr.length == 15
    && (w.thr.zip (w.thr.drop 1)).all (fun p => decide (p.1 < p.2))
    && (w.mat ++ w.seg).all fun e => decide (e.2.length ≤ 64) && e.2.all fun c => decide (c < 3)

namespace Machine

/-- The order of the frames of a mirrored pixel (R420): frames 2i and 2i + 1 swapped, an unpaired last frame in place. -/
def mirrorCodes : List Nat → List Nat
  | a :: b :: r => b :: a :: mirrorCodes r
  | r => r

/-- What a drive code adds to the balance (R421). -/
def codeSign : Nat → Int
  | 1 => 1
  | 2 => -1
  | _ => 0

/-- The balance of the first frames of a transition. -/
def partSum (codes : List Nat) (frames : Nat) : Int := (codes.take frames).foldl (fun a c => a + codeSign c) 0

/-- The frames that neutralise a partial sum within a phase of `len` frames (R431). -/
def neutral (sum : Int) (len : Nat) : List Nat :=
  List.replicate sum.natAbs (if 0 < sum then 2 else 1) ++ List.replicate (len - sum.natAbs) 0

/-- A level that a mode can reach (R408): INIT white, DU the nearer of 0 and 15. (DESIGN CHOICE, log 153) -/
def snapLevel (mode v : Nat) : Nat :=
  match mode with
  | 0 => 15
  | 2 => if v < 8 then 0 else 15
  | _ => v

/-- The pixels of a rectangle. -/
def rectPixels (x y w h : Nat) : List (Nat × Nat) := (List.range h).flatMap fun j => (List.range w).map fun i => (x + i, y + j)

/-- The key of a pixel in an image. -/
def pixKey (x y : Nat) : Nat := y * 2048 + x

namespace State

/-- A region slot. -/
def region (s : State) (r : Nat) : DRegion := s.disp.regions.get DRegion.init r
/-- Replace a region slot. -/
def setRegion (s : State) (r : Nat) (d : DRegion) : State :=
  { s with disp := { s.disp with regions := s.disp.regions.put DRegion.init r d } }

/-- The region slots in a state. -/
def regionsIn (s : State) (f : RegSt → Bool) : List Nat := (List.range 16).filter fun r => f (s.region r).st

/-- The level of a pixel in an image; white where nothing is listed. -/
def level (img : Tab Nat) (x y : Nat) : Nat := img.get 15 (pixKey x y)

/-- The tile of a pixel (R423). -/
def tileOf (s : State) (x y : Nat) : Nat := y / 32 * ((s.rd R.DISP_CFG_WIDTH + 31) / 32) + x / 32

/-- The tiles of the panel. -/
def tiles (s : State) : Nat := ((s.rd R.DISP_CFG_WIDTH + 31) / 32) * ((s.rd R.DISP_CFG_HEIGHT + 31) / 32)

/-- A tile's drive time of one sign in ns (R423). -/
def driveNs (s : State) (tile sign : Nat) : Nat := s.disp.vint.get 0 (tile * 2 + sign) / 1024

/-- A tile's age class (R424). -/
def ageClass (s : State) (tile : Nat) : Nat :=
  let total := s.driveNs tile 0 + s.driveNs tile 1
  let below := fun (F : Fld) => decide (total < 10 ^ 12 * s.rd F)
  if below R.DISP_AGE_CFG_AGE_T1 then 0 else if below R.DISP_AGE_CFG_AGE_T2 then 1
  else if below R.DISP_AGE_CFG_AGE_T3 then 2 else 3

/-- The ageing variant of a class (R424): its own, or the nearest lower one present. -/
def variantOf (w : EpdWave) (mode cls : Nat) : Nat :=
  (((List.range (cls + 1)).reverse).find? fun v => bit (w.variants.getD mode 0) v).getD 0

/-- A pixel runs its waveform mirrored (R420). -/
def mirrored (inv x y : Nat) : Bool := (inv == 1 && y % 2 == 1) || (inv == 2 && (x + y) % 2 == 1)

/-- The codes of one transition of a region's pixel, in the pixel's own order (R409, R417, R420, R424).
(DESIGN CHOICE, log 153) -/
def transition (s : State) (d : DRegion) (mode prev next x y : Nat) : List Nat :=
  match s.disp.wave with
  | none => []
  | some w =>
    if mode != 0 && prev == next then [] else
    let cs := w.matrix mode (variantOf w mode (d.classes.get 0 (s.tileOf x y))) d.band (if mode = 0 then 0 else prev) next
    if mirrored d.invert x y then mirrorCodes cs else cs

/-- All codes that a pixel of a region gets: its transition, or the three phases of a recovery (R431).
(DESIGN CHOICE, log 153) -/
def pixelCodes (s : State) (d : DRegion) (x y : Nat) : List Nat :=
  let next := level s.disp.target x y
  if d.recov then
    let init := s.transition d 0 0 15 x y
    neutral (d.sums.get 0 (pixKey x y)) d.peak ++ init ++ List.replicate (d.initLen - init.length) 0
      ++ s.transition d 1 15 next x y
  else s.transition d d.mode (level s.disp.shown x y) next x y

/-- The pixels of a region. -/
def regionPixels (d : DRegion) : List (Nat × Nat) := rectPixels d.x d.y d.w d.h

/-- The band that updates use, and whether it is FALLBACK_BAND (R410). -/
def bandNow (s : State) : Nat × Bool :=
  if s.rd R.DISP_TEMP_SRC = 0 || s.flag R.DISP_TEMP_STALE then (s.rd R.DISP_TEMP_FALLBACK_BAND, true)
  else (s.disp.tempBand, false)

/-- Show the band in force. (DESIGN CHOICE, log 156) -/
def bandShow (s : State) : State := s.wr R.DISP_TEMP_BAND 0 s.bandNow.1

/-- The band after a temperature (R411): it moves only past a threshold by 1.0 K. (DESIGN CHOICE, log 156) -/
def bandMove (thr : List Int) (v : Int) : Nat → Nat → Nat
  | 0, b => b
  | fuel + 1, b =>
    match thr[b]? with
    | some up =>
      if up + 100 ≤ v then bandMove thr v fuel (b + 1)
      else if 0 < b && v ≤ thr.getD (b - 1) 0 - 100 then bandMove thr v fuel (b - 1) else b
    | none => if 0 < b && v ≤ thr.getD (b - 1) 0 - 100 then bandMove thr v fuel (b - 1) else b

/-- A temperature arrives (R410, R411). -/
def dispTemp (s : State) (v : Int) (ovr : Bool) : State :=
  let s := (s.wrInt R.DISP_TEMP_TEMP 0 v).setFlag R.DISP_TEMP_STALE 0 ovr
  let s := { s with disp := { s.disp with tempAt1 := s.mtb + 1 } }
  let old := s.disp.tempBand
  let new := match s.disp.wave, ovr with
    | some w, false => bandMove w.thr v 32 old
    | _, _ => old
  let s := { s with disp := { s.disp with tempBand := new } }
  (if new = old then s else s.raise Ev.DISP_BAND 0 [old, new, enc 16 v]).bandShow

/-- An auxiliary result is the display's temperature when SRC is 1 and the input is TEMP_AUX (R410). -/
def dispAux (s : State) (i v : Nat) (ovr : Bool) : State :=
  if s.rd R.DISP_TEMP_SRC = 1 && s.rd R.DISP_TEMP_TEMP_AUX = i then s.dispTemp (dec 32 v) ovr else s

/-! ### Regions -/

/-- The time of a line in ns (R414). -/
def lineNs (s : State) : Nat := s.rd R.DISP_CFG_WIDTH / 8 * (s.rd R.DISP_BUS_SDCLK_DIV + 1) * 10 + 100 * s.rd R.DISP_BUS_LINE_OH

/-- The frame period in ns. -/
def framePeriod (s : State) : Nat := 10 ^ 9 / max 1 (s.rd R.DISP_CFG_FPS)

/-- The line of the frame in progress that is being driven, and so completes (R429). -/
def stopRow (s : State) : Option Nat :=
  some (min (s.rd R.DISP_CFG_HEIGHT - 1) ((s.mtb + s.framePeriod - s.disp.frameEnd) / max 1 s.lineNs))

/-- The panel configuration can be scanned in time (R414): HEIGHT lines within 0.9 / FPS. -/
def dispTiming (s : State) : Bool :=
  decide (s.rd R.DISP_CFG_HEIGHT * s.lineNs * s.rd R.DISP_CFG_FPS * 10 ≤ 9 * 10 ^ 9)

/-- Why an update is refused (R413, R414, R417). A rectangle without area changes nothing and takes no region. -/
def dispBad (s : State) (x y w h mode : Nat) : Option Nat :=
  if 4 ≤ mode then some St.BAD_PARAM
  else if w = 0 && h = 0 then none
  else if !s.flag R.DISP_CFG_EN then some St.DISABLED
  else if w = 0 || h = 0 || x % 8 != 0 || w % 8 != 0 || decide (s.rd R.DISP_CFG_WIDTH < x + w)
      || decide (s.rd R.DISP_CFG_HEIGHT < y + h) then some St.REGION_SIZE
  else match s.disp.wave with
    | none => some St.WAVE_MISSING
    | some wv =>
      if !bit wv.modes mode || wv.fps != s.rd R.DISP_CFG_FPS then some St.WAVE_MISSING
      else if !s.dispTiming then some St.DISP_TIMING
      else if s.regionsIn (· == .free) = [] then some St.REGION_FULL else none

/-- Something waits for scanning: a queued update or a cut region. -/
def dispWaits (s : State) : Bool := s.regionsIn (fun t => t == .queued || t == .cut) != []

/-- Scanning starts where regions wait (R415): with the supply off, EPD_PWR_EN rises first. -/
def dispWake (s : State) : State :=
  if !s.dispWaits then s
  else if !s.disp.pwrEn then { s with disp := { s.disp with pwrEn := true, pwrAt := s.mtb } }
  else if s.flag R.DISP_STAT_PWR_GOOD then s.wr R.DISP_STAT_SCANNING 0 1 else s

/-- Take a region slot in a state. -/
def dispTake (s : State) (st : RegSt) (x y w h mode : Nat) (c : Option Ctx) (cask : Nat) : State :=
  match s.regionsIn (· == .free) with
  | [] => s
  | r :: _ =>
    let s := s.setRegion r { DRegion.init with
      st := st, x := x, y := y, w := w, h := h, mode := mode, order := s.disp.orders, ctx := c, cask := cask }
    { s with disp := { s.disp with orders := s.disp.orders + 1 } }

/-- An update starts to wait for its first frame (R417 to R419): the region armed for it, else a free one. -/
def dispStart (s : State) (x y w h mode : Nat) (c : Option Ctx) : State :=
  if w = 0 || h = 0 then s else
  let mine := (List.range 16).find? fun r =>
    let d := s.region r
    d.st == .armed && d.x == x && d.y == y && d.w == w && d.h == h && d.mode == mode
  let s := match mine with
    | some r => s.setRegion r { s.region r with st := .queued, cask := 16 }
    | none => s.dispTake .queued x y w h mode c 16
  s.dispWake

/-- A Cask is PREPARED: its display updates hold region slots (R418). -/
def dispArm (s : State) (k : Nat) (a : CaskAct) : State :=
  match a with
  | .dispUpdate x y w h mode => if w = 0 || h = 0 then s else s.dispTake .armed x y w h mode none k
  | _ => s

/-- The regions of the panel overlap. -/
def overlap (a b : DRegion) : Bool :=
  decide (a.x < b.x + b.w) && decide (b.x < a.x + a.w) && decide (a.y < b.y + b.h) && decide (b.y < a.y + a.h)

/-- A queued region may start (R418, R431, R505): THROTTLE is not active, no recovery is due, and no earlier region that waits or runs overlaps it. -/
def mayStart (s : State) (r : Nat) : Bool :=
  let d := s.region r
  d.st == .queued && !s.flag R.PWR_STAT_THROTTLE && s.regionsIn (fun t => t == .cut || t == .recovery) == []
    && (List.range 16).all fun q =>
      let e := s.region q
      q == r || !overlap d e || !(e.st == .running || (e.st == .queued && decide (e.order < d.order)))

/-- Latch what a first frame latches (R412, R424): band, inversion, the tiles' age classes; and the frames it takes.
(DESIGN CHOICE, log 154) -/
def latchRegion (s : State) (r : Nat) (d : DRegion) : State :=
  let (band, fb) := s.bandNow
  let ts := ((regionPixels d).map fun p => s.tileOf p.1 p.2).eraseDups
  let d := { d with
    band := band, fallback := fb, frame := 0, startAt := s.mtb, invert := s.rd R.DISP_CFG_INVERT,
    classes := ts.foldl (fun a t => a.put 0 t (s.ageClass t)) Tab.empty }
  let longest := fun (f : Nat × Nat → List Nat) => (regionPixels d).foldl (fun a p => max a (f p).length) 0
  let d := if d.recov then { d with initLen := longest fun p => s.transition d 0 0 15 p.1 p.2 } else d
  s.setRegion r { d with total := longest fun p => s.pixelCodes d p.1 p.2 }

/-- A region's first frame (R417): the pending buffer's rectangle becomes the target. -/
def startRegion (s : State) (r : Nat) : State :=
  let d := s.region r
  let img := (regionPixels d).foldl (fun (a : Tab Nat) p => a.put 15 (pixKey p.1 p.2) (snapLevel d.mode (level s.disp.pend p.1 p.2)))
    s.disp.target
  ({ s with disp := { s.disp with target := img } } : State).latchRegion r { d with st := .running }

/-- Each frame adds to the drive times of the tiles (R423). (DESIGN CHOICE, log 162) -/
def vintageFrame (s : State) : State :=
  let period := s.framePeriod
  let add := fun (v : Tab Nat) (d : DRegion) => (regionPixels d).foldl (fun (v : Tab Nat) p =>
    match (s.pixelCodes d p.1 p.2)[d.frame]? with
    | some 1 => v.upd 0 (s.tileOf p.1 p.2 * 2) (· + period)
    | some 2 => v.upd 0 (s.tileOf p.1 p.2 * 2 + 1) (· + period)
    | _ => v) v
  let v := ((s.regionsIn fun t => t == .running || t == .recovery).map s.region).foldl add s.disp.vint
  { s with disp := { s.disp with vint := v } }

/-- DISP_IMBALANCE once for a tile, again only after its difference has fallen below half the limit (R424). -/
def imbalance (s : State) : State :=
  let lim := s.rd R.DISP_AGE_CFG_IMB_LIMIT_S * 10 ^ 9
  let ts := ((s.disp.vint.cells.map fun (c : Nat × Nat) => c.1 / 2) ++ s.disp.imbal).eraseDups
  forEach ts (fun t s =>
    let p := s.driveNs t 0
    let n := s.driveNs t 1
    let diff := max p n - min p n
    if lim < diff && !s.disp.imbal.contains t then
      ({ s with disp := { s.disp with imbal := s.disp.imbal ++ [t] } } : State).raise Ev.DISP_IMBALANCE 0
        [t, p / 10 ^ 9, n / 10 ^ 9]
    else if 2 * diff < lim then { s with disp := { s.disp with imbal := s.disp.imbal.filter (· != t) } }
    else s) s

/-- In METER the matrix stops once its regions have ended (R501). -/
def meterDisp (s : State) : State :=
  if s.rd R.PWR_STAT_MODE = 1 && s.regionsIn (fun t => t == .queued || t == .cut || t == .running || t == .recovery) == [] then
    s.islandStop 10
  else s

/-- No region runs any more: EPD_PWR_EN falls 100 ms later (R415). -/
def dispIdle (s : State) : State :=
  if s.regionsIn (fun t => t == .running || t == .recovery) = [] then
    let s := if s.dispWaits then s else s.wr R.DISP_STAT_SCANNING 0 0
    (({ s with disp := { s.disp with idleAt := s.mtb, frameEnd := 0 } } : State).wr R.DISP_STAT_RECOVERING 0 0).meterDisp
  else s

/-- A region ends without being shown (R415, R422): codes 1 CANCELLED, 2 PANEL_PWR. -/
def dropRegion (s : State) (r code status : Nat) : State :=
  let d := s.region r
  let s := s.setRegion r DRegion.init
  (s.raise Ev.DISP_DONE 0 [r, d.mode, d.band, 0, code, b2n d.fallback]).finaliseOpt d.ctx status

/-- The frames of a region are cut (R429, R430): rows up to the stop row have received the frame in progress, all rows
where it is unknown. The partial sums are what the recovery starts from. (DESIGN CHOICE, log 162) -/
def cutRegion (s : State) (stop : Option Nat) (r : Nat) : State :=
  let d := s.region r
  let sums := (regionPixels d).foldl (fun (a : Tab Int) p =>
    let got := match stop with
      | some row => if p.2 ≤ row then d.frame + 1 else d.frame
      | none => d.frame + 1
    let base := if d.recov then d.sums.get 0 (pixKey p.1 p.2) else 0
    a.put 0 (pixKey p.1 p.2) (base + partSum (s.pixelCodes d p.1 p.2) got)) Tab.empty
  let peak := sums.cells.foldl (fun a c => max a c.2.natAbs) 0
  let s := if d.recov then s else s.incSat R.DISP_STAT_ABANDONED 0
  s.setRegion r { d with st := .cut, stopRow := stop.getD (s.rd R.DISP_CFG_HEIGHT - 1), recov := true, sums := sums, peak := peak }

/-- The panel loses its supply or the module its power (R429, R430): running regions are cut and EPD_PWR_EN falls. -/
def dispCut (s : State) (stop : Option Nat) : State :=
  let s := forEach (s.regionsIn fun t => t == .running || t == .recovery) (fun r s => s.cutRegion stop r) s
  let s := (s.wr R.DISP_STAT_SCANNING 0 0).wr R.DISP_STAT_RECOVERING 0 0
  { s with disp := { s.disp with pwrEn := false, frameEnd := 0 } }

/-! ### Legal segments -/

/-- The segments a to g of a character (bit 0 is a), as the digits are painted. (PRESUMED, log 158) -/
def sevenSeg : Nat → Nat := fun d =>
  [0x3F, 0x06, 0x5B, 0x4F, 0x66, 0x6D, 0x7D, 0x07, 0x7F, 0x6F, 0x77, 0x7C, 0x39, 0x5E, 0x79, 0x71, 0x73, 0x38, 0x78].getD d 0

/-- Eight characters, digit 0 first: 16 is P, 17 L, 18 t, others blank. -/
def digits (ds : List Nat) : Nat := ds.zipIdx.foldl (fun a p => a + sevenSeg p.1 * 2 ^ (7 * p.2)) 0

/-- A number as eight decimal digits. -/
def decimals (v : Nat) : List Nat := (List.range 8).map fun i => v / 10 ^ (7 - i) % 10

/-- The items of LEGAL_BTN (R317), in order, as segment contents. (DESIGN CHOICE, log 159) -/
def legalItems (s : State) : List Nat :=
  let sha := s.rd R.LEDGER_LEGAL_ID_SHA256
  let check := digits ((List.range 8).map fun i => sha / 2 ^ (8 * (i / 2) + (if i % 2 = 0 then 4 else 0)) % 16)
  let energy : Nat → Nat → Nat → Nat := fun m k sign =>
    digits (decimals (s.rd R.MET_ENERGY_COUNT (10 * m + k) / 10 ^ 6)) + 2 ^ 60 + 2 ^ 65 + 2 ^ sign + 2 ^ (69 + m)
  let mps := (List.range 12).filter fun m => s.flag R.MET_CFG_EN m
  let reads := mps.flatMap fun m =>
    [energy m 0 66] ++ (if s.rd R.MET_ENERGY_COUNT (10 * m + 1) = 0 then [] else [energy m 1 67])
  let t := (s.acct (mps.head?.getD 0)).tariff
  let tariff := digits ([18, 19, 19, 19, 19, 19] ++ [t / 10 % 10, t % 10]) + 2 ^ 68
  [check] ++ reads ++ [tariff]
    ++ (if s.flag R.LEDGER_STAT_POSSIBLE_LOSS then [digits [16, 0, 5, 5, 17, 0, 5, 5]] else [])

/-- What LEGAL_FW shows now (R317, R426): the item, or the session display, whose content is LEGAL_FW's own; the
reserved segments are white. (DESIGN CHOICE, log 157, 159) -/
def legalContent (s : State) : Nat × State :=
  let cal := if s.flag R.LEDGER_STAT_CAL_OPEN then 2 ^ 81 else 0
  if s.ledger.legalItem = 0 then
    let (v, s) := s.takeFree
    (v % 2 ^ 64 + v / 2 ^ 64 % 2 ^ 16 * 2 ^ 65 + cal, s)
  else (s.legalItems.getD (s.ledger.legalItem - 1) 0 + cal, s)

/-- INVALID stays black (R428). -/
def invalidHeld (s : State) : Bool :=
  s.flag R.LEDGER_STAT_CAL_OPEN || s.keyMode == 4 || s.disp.safeHolds
    || ((s.disp.paint.map fun p => decide (4 ≤ p.step)).getD false)

/-- A drive phase lengthened for a segment's capacitance (R425): ceil(n x C_NOW / C_REF), the ratio between 1 and 2. -/
def phaseLen (s : State) (seg n : Nat) : Nat :=
  let ref := s.rd R.DISP_SEG_CAP_C_REF seg
  if ref = 0 then n else (n * clamp ref (2 * ref) (s.rd R.DISP_SEG_CAP_C_NOW seg) + ref - 1) / ref

/-- Runs of equal codes with their lengths. -/
def phases_ : List Nat → List (Nat × Nat)
  | [] => []
  | c :: r =>
    match phases_ r with
    | (d, n) :: q => if c = d then (d, n + 1) :: q else (c, 1) :: (d, n) :: q
    | [] => [(c, 1)]

/-- A segment's codes to one direction, lengthened (R425, R427). (DESIGN CHOICE, log 160) -/
def segCodes (s : State) (seg band dir : Nat) : List Nat :=
  match s.disp.wave with
  | none => []
  | some w => ((phases_ (w.segment band dir)).flatMap fun p =>
      List.replicate (if p.1 = 0 then p.2 else s.phaseLen seg p.2) p.1).take 64

/-- The codes of a step of the painting (R428, R431). -/
def stepCodes (s : State) (p : SegPaint) : Tab (List Nat) :=
  let put := fun (xs : List (Nat × List Nat)) => xs.foldl (fun (a : Tab (List Nat)) e => a.put [] e.1 e.2) Tab.empty
  let changed := (List.range 96).filter fun g => g != 64 && bit s.disp.segs g != bit p.content g
  match p.step with
  | 1 => if bit s.disp.segs 64 then Tab.empty else put [(64, s.segCodes 64 p.band 1)]
  | 2 => put (changed.map fun g => (g, s.segCodes g p.band (b2n (bit p.content g))))
  | 3 => if s.invalidHeld then Tab.empty else put [(64, s.segCodes 64 p.band 0)]
  | 4 => put ((p.sums.cells.map fun c => (c.1, neutral c.2 c.2.natAbs)) ++ [(64, s.segCodes 64 p.band 1)])
  | _ => put (changed.map fun g => (g, s.segCodes g p.band 0))

/-- The segments take what a step has painted. -/
def stepShown (s : State) (p : SegPaint) : Nat :=
  match p.step with
  | 1 => setBit s.disp.segs 64
  | 2 => clearBit p.content 64 + 2 ^ 64
  | 3 => if s.invalidHeld then s.disp.segs else clearBit s.disp.segs 64
  | 4 => setBit s.disp.segs 64
  | _ => (List.range 96).foldl (fun a g => if g != 64 && bit s.disp.segs g != bit p.content g then clearBit a g else a) s.disp.segs

/-- Begin a step of a segment repaint. -/
def paintStep (s : State) (p : SegPaint) : State :=
  { s with disp := { s.disp with paint := some { p with codes := s.stepCodes p } } }

/-- Go through the steps that have no frames left to run (R428): a step that is over shows its result and the next one
begins. After the last, content that has changed meanwhile is painted. -/
def segSteps : Nat → State → State
  | 0, s => s
  | fuel + 1, s =>
    match s.disp.paint with
    | none => s
    | some p =>
      if !p.codes.cells.isEmpty then s else
      let s := { s with disp := { s.disp with segs := s.stepShown p } }
      match p.step with
      | 1 => segSteps fuel (paintStep s { p with step := 2 })
      | 2 => segSteps fuel (paintStep s { p with step := 3 })
      | 4 => segSteps fuel (paintStep s { p with step := 5 })
      | 5 =>
        let peak := p.sums.cells.foldl (fun a c => max a c.2.natAbs) 0
        let s := ({ s with disp := { s.disp with paint := none } } : State).raise Ev.DISP_RECOVERED 0 [0xFF, p.frames, peak]
        let q : SegPaint := ⟨1, s.bandNow.1, .empty, s.disp.want, .empty, 0⟩
        segSteps fuel (paintStep s q)
      | _ =>
        let s := { s with disp := { s.disp with paint := none } }
        if s.disp.want = p.content then s
        else segSteps fuel (paintStep s ⟨1, s.bandNow.1, .empty, s.disp.want, .empty, 0⟩)

/-- Paint a content in the three steps of R428; while a painting runs, it follows that one. -/
def segPaint (s : State) (content : Nat) : State :=
  let s := { s with disp := { s.disp with want := content } }
  match s.disp.paint with
  | some _ => s
  | none =>
    let p : SegPaint := ⟨1, s.bandNow.1, .empty, content, .empty, 0⟩
    segSteps 16 { s with disp := { s.disp with paint := some { p with codes := s.stepCodes p } } }

/-- LEGAL_FW repaints the segments; SAFE then releases INVALID (R428). -/
def legalRepaint (s : State) : State :=
  let s := { s with disp := { s.disp with safeHolds := false } }
  let (c, s) := s.legalContent
  s.segPaint c

/-- A power loss cuts the painting (R430): the interrupted frame counts as received. At start the segments recover.
(DESIGN CHOICE, log 160) -/
def segRecover (s : State) : State :=
  match s.disp.paint with
  | none => s
  | some p =>
    let p := { p with step := 4, band := s.bandNow.1, frames := 0 }
    segSteps 16 { s with disp := { s.disp with paint := some { p with codes := s.stepCodes p } } }

end State
end Machine
end Sys2Proof
end

