-- ==== Sys2Proof/Machine/Host.lean ====
section
/-! DEFINITION. The commands and events of the host link (02_host_rings.md): configuration, detach and attach, rings,
doorbell polls and kicks, the notification FIFO, streams, and the ring commands RING_CREATE to ECHO. -/

namespace Sys2Proof.Machine

namespace State

/-- Return the HOST island's set-up registers to their reset values, as a reset of the island does (R36). The
sequence numbers and histories are in MRAM and stay (R63). (DESIGN CHOICE, log 24) -/
def resetHostRegs (s : State) : State :=
  let s := forEach [R.HOST_CTRL_POLL_US, R.HOST_CTRL_KICK_EN, R.HOST_CTRL_EN, R.HOST_DB_BASE_ADDR, R.HOST_STAT_BASE_ADDR,
    R.HOST_NOTIF_STAT_LOST, R.HOST_NOTIF_STAT_CORR, R.HOST_NOTIF_STAT_UNCORR] (fun F s => s.toReset F 0) s
  forEach allRings (fun r s =>
    forEach ((ringKeyFields r.1).2.1 :: ringFields r.1) (fun F s => s.toReset F r.2) s) s

/-- Free credits of the pool (HOST.CREDIT.FREE). -/
def creditsFree (s : State) : Nat :=
  256 - s.host.sharedTaken - (List.range 4).foldl (fun a c => a + s.host.ownTaken.get 0 c) 0

/-- The status page as the module keeps it in host memory while attached (table Status page): offset and word. -/
def statusPage (s : State) : List (Nat × Nat) :=
  [(0x000, b2n s.attached * 65536 + s.rd R.HOST_SYNC_GLOBAL_EPOCH), (0x004, s.rd R.HOST_SYNC_GLOBAL_DEV_SEQ_HIGH),
   (0x008, s.rd R.HOST_SYNC_GLOBAL_JOURNAL_LOW), (0x00C, s.rd R.HOST_NOTIF_STAT_LOST * 65536 + s.creditsFree)]
    ++ ((List.range 16).map fun i => (0x040 + 4 * i, s.host.cmdFetch.get 0 i))
    ++ ((List.range 16).map fun i => (0x080 + 4 * i, s.host.cplProd.get 0 i))
    ++ ((List.range 8).map fun i => (0x0C0 + 4 * i, s.host.evProd.get 0 i))
    ++ ((List.range 8).map fun i => (0x0E0 + 4 * i, s.host.strFill.get 0 i))

/-- The address of the status page (HOST.STAT_BASE). -/
def statBase (s : State) : Nat := s.rd R.HOST_STAT_BASE_ADDR * 4096

/-- The status word that host memory holds at an address: the page that is kept up, or what the module left behind.
(DESIGN CHOICE, log 209) -/
def statusWord (s : State) (addr : Nat) : Nat :=
  let left := s.host.statMem.get 0 addr
  if s.attached && decide (s.statBase ≤ addr) then
    match s.statusPage.find? fun p => p.1 == addr - s.statBase with
    | some p => p.2
    | none => left
  else left

/-- The status page stays in host memory as it was last written. (DESIGN CHOICE, log 209) -/
def leaveStatus (s : State) : State :=
  let mem := s.statusPage.foldl (fun (m : Tab Nat) p => m.put 0 (s.statBase + p.1) p.2) s.host.statMem
  { s with host := { s.host with statMem := mem } }

/-- The numbers of the HOST_DETACH causes. (DEDUCED, log 126) -/
def detachCode : DetachCause → Nat
  | .enCleared => 0 | .perst => 1 | .hotReset => 2 | .linkDown => 3 | .flr => 4 | .busMaster => 5 | .refclk => 3

/-- Reset the parts of the HOST island that no register shows: FIFO, configuration settings, MSI-X table, held words. -/
def resetHostParts (s : State) : State :=
  { s with host := { s.host with notifFill := [], notifDrain := [], payloadSet := 128, readReqSet := 512, msix := .empty,
                                 pba := 0, heldWords := none, latched := .empty } }

/-- Detach the HOST island (R63, R36): DMA stops, and the status page stays as it was last written, with HOST_STATE 0 where
the host cleared EN and the link still carries it; completions still held go to the journal (R64); PERST_N, a hot reset, a
link-down and a function level reset also reset the island. A failed REFCLK is a link-down (R496).
(DESIGN CHOICE, log 209) -/
def detach (s : State) (cause : DetachCause) : State :=
  let was := s.attached
  let s := if was && cause != .enCleared then s.leaveStatus else s
  let s := s.wr R.HOST_CTRL_DETACHED 0 1
  let s := if was && cause == .enCleared then s.leaveStatus else s
  let held := s.host.stopHeld ++ s.host.cplHeld
  let s := { s with host := { s.host with enHeld := false, stopHeld := [], cplHeld := [] } }
  let s := forEach held (fun c s => s.holdCompletion c) s
  let s := match cause with
    | .enCleared => s.wr R.HOST_CTRL_EN 0 0
    | .busMaster => s
    | .perst =>
      let s := s.resetHostRegs.resetHostParts
      { s with host := { s.host with perstHigh := false, cfgReady := false } }
    | _ => s.resetHostRegs.resetHostParts
  let s := if cause == .refclk && s.flag R.PWR_CLK_REFCLK_OK then
      (s.wr R.PWR_CLK_REFCLK_OK 0 0).raise Ev.PWR_CLOCK 0 [3, 1] else s
  if was then s.raise Ev.HOST_DETACH 0 [detachCode cause] else s

/-- The mask of the enabled rings of a kind. -/
def ringMask (s : State) (kind : RingKind) : Nat :=
  (List.range (ringCount kind)).foldl (fun m i => m + if s.ringOn kind i then 2 ^ i else 0) 0

/-- The stream ring that takes a source: the lowest-numbered enabled one whose SOURCES selects it. -/
def streamRing (s : State) (src : Nat) : Option Nat :=
  (List.range 8).find? fun j => s.strOn j && bit (s.rd R.HOST_STR_SOURCES j) src

/-- Fill posted buffers from the banks of a source, oldest block first (R59, R61). The bytes written are those of the
payload, without the header. (DESIGN CHOICE, log 210) -/
def drainStream : Nat → Nat → Nat → State → State
  | 0, _, _, s => s
  | k + 1, src, j, s =>
    let st := s.host.strSrc.get StreamSrc.init src
    let fill := s.host.strFill.get 0 j
    match st.waiting with
    | [] => s
    | b :: r =>
      if fill = s.host.dbStr.get 0 j then s else
      let slot := key2 j (fill % 2 ^ s.rd R.HOST_STR_SIZE_LOG2 j)
      let e : StreamEntry := ⟨s.host.strAddr.get 0 slot, src, b.fmt, st.block, b.payload.length, b.samples, b.mtb, st.lost,
        decide (st.lost ≠ 0), b.payload⟩
      let fill' := (fill + 1) % 2 ^ 32
      let s := { s with host := { s.host with
        strSrc := s.host.strSrc.put StreamSrc.init src ⟨(st.block + 1) % 2 ^ 32, r, 0⟩,
        strMem := s.host.strMem.put StreamEntry.none slot e, strFill := s.host.strFill.put 0 j fill' } }
      drainStream k src j ((s.notify ⟨3, j, 1, fill'⟩).irq (s.rd R.HOST_STR_VECTOR j))

/-- Fill posted buffers from the banks of one source, where a ring takes it and the island is attached. -/
def drainSource (s : State) (src : Nat) : State :=
  if !s.attached then s else
  match s.streamRing src with
  | none => s
  | some j => drainStream (s.host.strSrc.get StreamSrc.init src).waiting.length src j s

/-- Fill posted buffers from the banks of every source, lowest number first. -/
def drainAll (s : State) : State := forEach (s.host.strSrc.cells.map (·.1)) (fun src s => s.drainSource src) s

/-- Bytes that wait in the banks of a source. -/
def bankUse (s : State) (src : Nat) : Nat :=
  (s.host.strSrc.get StreamSrc.init src).waiting.foldl (fun n c => n + c.payload.length) 0

/-- A block of samples from a stream source (R59 to R61): what waits goes to posted buffers first; then the block goes into
a bank, or, with no posted buffer free and both banks full, is discarded and counted. (DESIGN CHOICE, log 27) -/
def streamBlock (s : State) (src : Nat) (b : StreamBlock) : State :=
  let s := s.drainSource src
  let st := s.host.strSrc.get StreamSrc.init src
  let st := if s.bankUse src + b.payload.length ≤ 131072 then { st with waiting := st.waiting ++ [b] }
    else { st with lost := st.lost + b.samples }
  ({ s with host := { s.host with strSrc := s.host.strSrc.put StreamSrc.init src st } } : State).drainSource src

/-- Note the addresses of the buffers that a stream ring's host has posted, from its fill count on (R59). -/
def noteBuffers (s : State) (j : Nat) (bufs : List Nat) : State :=
  let fill := s.host.strFill.get 0 j
  let size := 2 ^ s.rd R.HOST_STR_SIZE_LOG2 j
  let addrs := bufs.zipIdx.foldl (fun (m : Tab Nat) p => m.put 0 (key2 j ((fill + p.2) % size)) p.1) s.host.strAddr
  { s with host := { s.host with strAddr := addrs } }

/-- Attach the HOST island (R65, R500): at host ready, else held until then. The ring states of HOST_ATTACH are the masks of
the enabled command, completion, event and stream rings. (DESIGN CHOICE, log 211) -/
def attach (s : State) : State :=
  let s := s.wr R.HOST_CTRL_EN 0 1
  if s.attached then s
  else if !s.flag R.GLOBAL_STATUS_HOST_READY then { s with host := { s.host with enHeld := true } }
  else
    let s := s.wr R.HOST_CTRL_DETACHED 0 0
    let s := { s with host := { s.host with enHeld := false, pollAt1 := 0 } }
    let s := s.raise Ev.HOST_ATTACH 0 [s.ringMask .command, s.ringMask .completion, s.ringMask .event, s.ringMask .stream]
    let on := (List.range 8).any fun b => bit (s.rd R.GLOBAL_ALERT_EN_EN) b &&
      [R.GLOBAL_ALERT_DEVICE_START, R.GLOBAL_ALERT_SAFE_CHANGE, R.GLOBAL_ALERT_PART_VIOL, R.GLOBAL_ALERT_WR_REFUSED,
       R.GLOBAL_ALERT_JOURNAL_LOST, R.GLOBAL_ALERT_NOTIF_LOST, R.GLOBAL_ALERT_TEMP, R.GLOBAL_ALERT_LINK_TIMEOUT].any
        fun F => F.lo == b && s.flag F
    (if on then s.irq (s.rd R.GLOBAL_ALERT_EN_VECTOR) else s).drainAll.notifIrq

/-- An event as JOURNAL_FETCH copies it, with REPLAY set: number, epoch, code, MTB, source, flags, payload. -/
def eventWords (e : Event) : List Nat :=
  [e.seq, e.epoch, e.code, e.mtb, e.code / 256 * 256 + e.inst, 1 + 2 * b2n e.held] ++ e.payload

/-- A latching read of NOTIF_DATA pops the oldest word (R57, R511): one flipped bit is corrected, more make the word read
as uncorrectable; an empty FIFO reads 0. -/
def popNotif (s : State) (flips : Nat) : State :=
  let s := if s.host.notifDrain = [] then
    { s with host := { s.host with notifDrain := s.host.notifFill, notifFill := [] } } else s
  match s.host.notifDrain with
  | [] => { s with host := { s.host with readWords := [0, 0], latched := s.host.latched.put 0 0x10024 0 } }
  | w :: r =>
    let s := if flips = 1 then s.incSat R.HOST_NOTIF_STAT_CORR 0
      else if 2 ≤ flips then s.incSat R.HOST_NOTIF_STAT_UNCORR 0 else s
    let hi := if 2 ≤ flips then 0xFF00_0000 else w.kind * 2 ^ 24 + w.ring * 2 ^ 16 + min w.added 0xFFFF
    let lo := if 2 ≤ flips then 0 else w.count
    ({ s with host := { s.host with
      notifDrain := if r = [] then s.host.notifFill else r,
      notifFill := if r = [] then [] else s.host.notifFill,
      readWords := [lo, hi], latched := s.host.latched.put 0 0x10024 hi } } : State).notifIrq

/-- A ring may be created from an image (R39): a size in range and memory that overlaps no other ring. -/
def imageOk (s : State) (kind : RingKind) (i image : Nat) : Bool :=
  let (_, _, base, size, entry) := ringKeyFields kind
  let sz := imageField size image
  decide (i < ringCount kind) && decide (4 ≤ sz) && decide (sz ≤ 12)
    && !s.ringOverlaps kind i (imageField base image * 4096) (entry * 2 ^ sz)

end State

/-- What a configuration item reads as (R34, table PCIe features); the link trained at its best speed and width.
(PRESUMED, log 199) -/
def State.cfgValue (s : State) : CfgItem → Nat
  | .vendor => 0x1FD3 | .device => 0x8840 | .subVendor => 0x1FD3 | .subDevice => 0x0001 | .classCode => 0x0B4000
  | .intPin => 0 | .msixVectors => 64 | .payloadMax => 256 | .payloadSet => s.host.payloadSet
  | .readReqSet => s.host.readReqSet | .linkSpeed => 8000 | .linkWidth => 2 | .flr => 1 | .aer => 1 | .aspm => 2
  | .tags => 64

/-- A configuration request at a ready endpoint: the value read, or the setting after a write; a size that is not supported
leaves the setting (table PCIe features). -/
def State.configure (s : State) (req : CfgReq) : State :=
  let set := fun (p r v : Nat) => ({ s with host := { s.host with payloadSet := p, readReqSet := r, cfgAnswer := some v } } : State)
  match req with
  | .read i => { s with host := { s.host with cfgAnswer := some (s.cfgValue i) } }
  | .writePayload b => let v := if b = 128 || b = 256 then b else s.host.payloadSet; set v s.host.readReqSet v
  | .writeReadReq b => let v := if b = 128 || b = 256 || b = 512 then b else s.host.readReqSet; set s.host.payloadSet v v

/-- CONFIG_REQUEST (R34, R35): configuration-retry status until the endpoint is ready. -/
def execConfigRequest (t : Nat) (req : CfgReq) (s : State) : Host.Outcome State Fault Refusal :=
  let s := s.advance t
  .next (if s.host.cfgReady && s.powered then s.configure req
    else { s with host := { s.host with cfgAnswer := none } })

/-- PERST_RELEASE (R35): the endpoint becomes ready for configuration. -/
def execPerstRelease (t : Nat) (s : State) : Host.Outcome State Fault Refusal :=
  let s := s.advance t
  .next { s with host := { s.host with perstHigh := true, cfgReady := s.phase != .noVin && s.phase != .stopped } }

/-- HOST_DETACH (R36, R63). PERST_N resets the endpoint also while the module does not run. -/
def execHostDetach (t : Nat) (cause : DetachCause) (s : State) : Host.Outcome State Fault Refusal :=
  let s := s.advance t
  .next (if s.up then s.detach cause
    else if cause = .perst then
      { s with host := { s.host with perstHigh := false, cfgReady := false, enHeld := false } }
    else s)

/-- HOST_ATTACH (R65, R500): after enumeration, so with PERST_N released and the endpoint ready. A HOST.CTRL.EN set
before the start has come so far is held. -/
def execHostAttach (t : Nat) (s : State) : Host.Outcome State Fault Refusal :=
  let s := s.advance t
  .next (if !s.host.cfgReady then s
    else if s.up then s.attach
    else if s.phase = .vinValid && !s.upd.bootRom then { s with host := { s.host with enHeld := true } }
    else s)

/-- RING_REGISTER_WRITE (R37, R39, R542): the host writes a ring register whole. -/
def execRingRegisterWrite (t : Nat) (kind : RingKind) (i image : Nat) (s : State) : Host.Outcome State Fault Refusal :=
  .next (onEvent s t fun s => if i < State.ringCount kind then s.writeRing kind i image else s)

/-- The doorbell page is read again: POLL_US have passed since the last poll (R40). -/
def State.pollDue (s : State) : Bool :=
  s.host.pollAt1 == 0 || decide (s.host.pollAt1 + clamp 2 200 (s.rd R.HOST_CTRL_POLL_US) * 1000 ≤ s.mtb + 1)

/-- DOORBELL_POLL (R40, R47 to R49, R59): once every POLL_US the counts are read, held completions are written, posted
buffers are filled, the stop ring is served first, then the other rings under credits and weighted round robin. `bufs`
lists the addresses posted in each stream ring from its fill count on. -/
def execDoorbellPoll (t : Nat) (cmdProd cplCons evCons strProd : List Nat) (descs : List (List Desc))
    (bufs : List (List Nat)) (s : State) : Host.Outcome State Fault Refusal :=
  .next (onEvent s t fun s =>
    if !s.attached || !s.pollDue then s else
    let s := { s with host := { s.host with pollAt1 := s.mtb + 1, pollAddr := s.rd R.HOST_DB_BASE_ADDR * 4096 } }
    let put := fun (n : Nat) (xs : List Nat) (tb : Tab Nat) =>
      forEach (List.range n) (fun i (tb : Tab Nat) => tb.put 0 i (xs.getD i (tb.get 0 i) % 2 ^ 32)) tb
    let s := { s with host := { s.host with
      dbCmd := put 16 cmdProd s.host.dbCmd, dbCpl := put 16 cplCons s.host.dbCpl,
      dbEv := put 8 evCons s.host.dbEv, dbStr := put 8 strProd s.host.dbStr } }
    let s := forEach (List.range 8) (fun j s => s.noteBuffers j (bufs.getD j [])) s
    let s := (State.releaseStops 64 s).releaseCompletions.drainAll
    let from0 := (List.range 16).map fun i => s.host.cmdFetch.get 0 i
    let s := State.fetchRing (descs.getD 0 []).length 0 (from0.getD 0 0) (descs.getD 0 []) s
    let s := State.grants ((descs.map List.length).sum + 1) from0 descs s
    s.coalesceDue.settleDestroys)

/-- KICK (R40): command ring i is fetched at once, or stream ring j read and its buffers filled. -/
def execKick (t : Nat) (off prod : Nat) (descs : List Desc) (bufs : List Nat) (s : State) :
    Host.Outcome State Fault Refusal :=
  .next (onEvent s t fun s =>
    if !s.attached || !s.flag R.HOST_CTRL_KICK_EN || off % 4 != 0 then s
    else if off < 0x40 then
      let i := off / 4
      let s := { s with host := { s.host with dbCmd := s.host.dbCmd.put 0 i (prod % 2 ^ 32) } }
      State.fetchRing descs.length i (s.host.cmdFetch.get 0 i) descs s
    else if off < 0x60 then
      let j := (off - 0x40) / 4
      let s := s.noteBuffers j bufs
      ({ s with host := { s.host with dbStr := s.host.dbStr.put 0 j (prod % 2 ^ 32) } } : State).drainAll
    else s)

/-- STOP_COMPLETION_RELEASE (R49): a held stop-ring completion is written once its ring has room. -/
def execStopCompletionRelease (t : Nat) (s : State) : Host.Outcome State Fault Refusal :=
  .next (onEvent s t fun s => State.releaseStops 1 s)

/-- EVR_GAP (R56). -/
def execEvrGap (t : Nat) (j : Nat) (s : State) : Host.Outcome State Fault Refusal :=
  .next (onEvent s t fun s => s.reportGap j)

/-- NOTIF_DATA_READ (R57, R58): `flips` is how many bits of the stored word have flipped. -/
def execNotifDataRead (t : Nat) (flips : Nat) (s : State) : Host.Outcome State Fault Refusal :=
  .next (onEvent s t fun s => s.popNotif flips)

/-- RING_CREATE (R39, R542). -/
def execRingCreate (x : Ctx) (kind : RingKind) (i image : Nat) (s : State) : Host.Outcome State Fault Refusal :=
  .next (s.command x Op.RING_CREATE 0 none fun s =>
    if !s.imageOk kind i image then s.complete x St.BAD_PARAM
    else if s.ringOn kind i then s.complete x St.BUSY
    else
      let en := (State.ringKeyFields kind).1
      let image := if imageIs en image then image else image + 2 ^ en.lo
      (s.writeRing kind i image).complete x St.OK)
where
  /-- The EN bit of an image. -/
  imageIs (en : Fld) (image : Nat) : Bool := State.imageField en image == 1

/-- RING_DESTROY (table GLOBAL opcodes of the host link). -/
def execRingDestroy (x : Ctx) (kind : RingKind) (i : Nat) (s : State) : Host.Outcome State Fault Refusal :=
  .next (s.command x Op.RING_DESTROY 0 none fun s =>
    if State.ringCount kind ≤ i then s.complete x St.BAD_PARAM else
    match kind with
    | .command => { s with host := { s.host with destroys := s.host.destroys ++ [⟨i, x⟩] } }
    | .completion =>
      if (List.range 16).any fun c => s.cmdOn c && s.rd R.HOST_CMDR_CQ c == i then s.complete x St.BUSY
      else (s.wr R.HOST_CPLR_EN i 0).complete x St.OK
    | .event => (s.wr R.HOST_EVR_EN i 0).complete x St.OK
    | .stream => (s.wr R.HOST_STR_EN i 0).complete x St.OK)

/-- JOURNAL_FETCH (R55, R56, R67): the events of a span of device sequence numbers, oldest first. -/
def execJournalFetch (x : Ctx) (first span : Nat) (s : State) : Host.Outcome State Fault Refusal :=
  .next (s.command x Op.JOURNAL_FETCH 0 none fun s =>
    let high := s.rd R.HOST_SYNC_GLOBAL_DEV_SEQ_HIGH
    let low := s.rd R.HOST_SYNC_GLOBAL_JOURNAL_LOW
    if span = 0 || 4096 < span || (first != low && serialWithin first low (2 ^ 31 - 1)) then s.complete x St.BAD_PARAM
    else
      let evs := (s.host.journal.filter fun e => decide ((e.seq + 2 ^ 32 - first) % 2 ^ 32 < span)).reverse
      let left := (high + 1 + 2 ^ 32 - first) % 2 ^ 32
      let next := (first + min span left) % 2 ^ 32
      (s.giveBuffer (evs.flatMap State.eventWords)).complete x St.OK (evs.length + 2 ^ 32 * next))

/-- STATUS_QUERY (R52, R67). -/
def execStatusQuery (x : Ctx) (ring first count : Nat) (s : State) : Host.Outcome State Fault Refusal :=
  .next (s.command x Op.STATUS_QUERY 0 none fun s =>
    let hs := (List.range count).map fun k => s.histOf ring ((first + k) % 2 ^ 32)
    if 16 ≤ ring || count = 0 || 4096 < count || hs.any (·.isNone) then s.complete x St.BAD_PARAM
    else (s.giveBuffer (hs.flatMap fun h => match h with
        | some h => [h.status, h.dseq]
        | none => [])).complete x St.OK)

/-- ECHO: the first 12 of 40 bytes come back in the result. -/
def execEcho (x : Ctx) (data : List Byte) (s : State) : Host.Outcome State Fault Refusal :=
  .next (s.command x Op.ECHO 0 none fun s =>
    s.complete x St.OK ((data.take 12).foldr (fun b n => b.toNat + 256 * n) 0))

end Sys2Proof.Machine
end

