-- ==== Sys2Proof/Machine/AfeOps.lean ====
section
/-! DEFINITION. The shared operations of the auxiliary scanner and of captures (R193 to R206). -/

namespace Sys2Proof.Machine
namespace State

/-! ### Captures and stream sources (R193) -/

/-- A capture of a pipeline converter. -/
def cap (s : State) (p : Nat) : Capture := s.afe.caps.get Capture.off p
/-- Replace a capture. -/
def setCap (s : State) (p : Nat) (c : Capture) : State :=
  { s with afe := { s.afe with caps := s.afe.caps.put Capture.off p c } }

/-- The consumer of a pipeline converter runs: pilot modems, mains modems, the scanner. -/
def padcWanted (s : State) (p : Nat) : Bool :=
  if p < 10 then s.flag R.PLC_CFG_EN p else (List.range 4).any fun q => s.flag R.AFE_SEQ_CTL_EN q

/-- End a capture; a converter that it enabled stops with it. -/
def endCapture (s : State) (p : Nat) : State :=
  ((s.setCap p Capture.off).wr R.AFE_PADC_CAPTURE p 0).setFlag R.AFE_PADC_EN p (s.padcWanted p)

/-- A waveform capture of a meter point. -/
def wave (s : State) (m : Nat) : Capture := s.met.waves.get Capture.off m
/-- Replace a waveform capture. -/
def setWave (s : State) (m : Nat) (c : Capture) : State :=
  { s with met := { s.met with waves := s.met.waves.put Capture.off m c } }

/-- A capture delivers samples: what is left to take, and its end. -/
def takenOf (c : Capture) (k : Nat) : Capture :=
  if c.cont then c else if c.left ≤ k then Capture.off else { c with left := c.left - k }

/-- Samples in format PACKED12: two in three bytes (table Stream formats). A last one without a partner fills two bytes. -/
def packed12 : List Int → List Nat
  | [] => []
  | [a] => let x := enc 12 (code12 a); [x % 256, x / 256]
  | a :: b :: r =>
    let x := enc 12 (code12 a)
    let y := enc 12 (code12 b)
    x % 256 :: (x / 256 + y % 16 * 16) :: y / 16 :: packed12 r

/-- Samples in format WORD16: code and OVR (table Stream formats). -/
def word16 (vs : List Int) : List Nat := vs.flatMap fun v => leBytes 2 (enc 12 (code12 v) + 4096 * b2n (over12 v))

/-- An MP_WAVE record (format 0x0021): offset in 1/16 ns, the seven roles, sample flags, sample index. -/
def waveRecord (r : List Int) : List Nat :=
  leBytes 4 (enc 32 (r.getD 0 0)) ++ ((r.drop 1).take 7).flatMap (fun v => leBytes 3 (enc 24 v))
    ++ leBytes 1 (enc 8 (r.getD 8 0)) ++ leBytes 2 (enc 16 (r.getD 9 0))

/-- Samples of a converter's capture, each a list with its value, reach the banks while their capture runs: as many as the capture still wants and a buffer holds (R191 to R193). A clamped sample of PADC0 to
PADC9 counts in OVR_CNT; PADC10 counts its own at each conversion. (DESIGN CHOICE, log 75) -/
def sourceBlock (s : State) (src mtbFirst : Nat) (data : List (List Int)) : State :=
  if src < 11 then
    let c := s.cap src
    if !c.on then s else
    let data := data.take (if c.fmt = 1 then 2688 else 2016)
    let vs := ((if c.cont then data else data.take c.left).map fun r => r.headD 0)
    let s := if src < 10 then s.addSat R.AFE_PADC_OVR_CNT src (vs.filter over12).length else s
    let s := (s.setCap src (takenOf c vs.length)).streamBlock src
      ⟨c.fmt, mtbFirst, vs.length, if c.fmt = 1 then packed12 vs else word16 vs⟩
    if (s.cap src).on then s else s.endCapture src
  else s.drainSource src

/-- The samples of a meter point's capture that wait for a buffer, each as its time in 2^-16 ns, the seven roles, flags and
index. -/
def waveRecs (s : State) (m : Nat) : List (List Int) := s.met.waveRecs.get [] m
/-- Replace them. -/
def setWaveRecs (s : State) (m : Nat) (rs : List (List Int)) : State :=
  { s with met := { s.met with waveRecs := s.met.waveRecs.put [] m rs } }

/-- A sample of a meter point joins its capture while that runs and still wants one. -/
def waveAdd (s : State) (m : Nat) (r : List Int) : State :=
  let c := s.wave m
  if !c.on then s else (s.setWave m (takenOf c 1)).setWaveRecs m (s.waveRecs m ++ [r])

/-- A buffer of MP_WAVE goes out with the oldest samples that wait, 144 at most (format 0x0021); the header's MTB is that of
the first of them. -/
def waveBlock (s : State) (m : Nat) : State :=
  let rs := (s.waveRecs m).take 144
  if rs = [] then s.drainSource (12 + m) else
  let first := ((rs.headD []).headD 0) / 65536
  let body := rs.flatMap fun r => waveRecord ((r.headD 0 - first * 65536) / 4096 :: r.drop 1)
  (s.setWaveRecs m ((s.waveRecs m).drop 144)).streamBlock (12 + m) ⟨0x21, first.toNat, rs.length, body⟩

/-! ### Sequences -/

/-- The converter a sequence of a length runs on (R195): PADC10 up to 16 entries, else the charge-balancing one. -/
def convOf (len : Nat) : Nat := if 16 < len then 1 else 0

/-- An entry of a sequence as a register instance. -/
def entIx (q e : Nat) : Nat := 64 * q + e

/-- Start an entry on its converter, after the conversions that were inserted before it (R206). -/
def startEntry (s : State) (q e : Nat) : State :=
  let conv := s.rd R.AFE_SEQ_CTL_CONV q
  let run : AuxRun := ⟨q, e, s.mtb + s.afe.delay.get 0 conv, none, false, false⟩
  { s with afe := { s.afe with run := s.afe.run.put none conv (some run), delay := s.afe.delay.put 0 conv 0 } }

/-- Start the lowest-numbered pending pass of a free converter (R198). -/
def startPass (s : State) (conv : Nat) : State :=
  match s.afe.run.get none conv with
  | some _ => s
  | none =>
    match (List.range 4).find? fun q => bit s.afe.pend q && s.rd R.AFE_SEQ_CTL_CONV q == conv with
    | some q => ({ s with afe := { s.afe with pend := clearBit s.afe.pend q } } : State).startEntry q 0
    | none => s

/-- The pass of a sequence runs now. -/
def passRuns (s : State) (q : Nat) : Bool :=
  [0, 1].any fun c => match s.afe.run.get none c with
    | some r => r.seq == q
    | none => false

/-- Write a sequence's control and entries from their images; CONV follows from LEN (R195). -/
def putSeq (s : State) (q ctl : Nat) (ents : List Nat) : State :=
  let s := s.writeFields [R.AFE_SEQ_CTL_EN, R.AFE_SEQ_CTL_LEN, R.AFE_SEQ_CTL_INT_MODE, R.AFE_SEQ_CTL_INT_MP,
    R.AFE_SEQ_CTL_PERIOD_US] q ctl
  let s := s.wr R.AFE_SEQ_CTL_CONV q (convOf ents.length)
  let s := forEach ents.zipIdx (fun p s =>
    s.writeFields [R.AFE_SEQ_ENT_INPUT, R.AFE_SEQ_ENT_SETTLE, R.AFE_SEQ_ENT_AVG_LOG2] (entIx q p.2) p.1) s
  let s := forEach [R.AFE_SEQ_CTL_EN, R.AFE_SEQ_CTL_LEN, R.AFE_SEQ_CTL_INT_MODE, R.AFE_SEQ_CTL_INT_MP,
    R.AFE_SEQ_CTL_PERIOD_US] (fun F s => s.save F q) s
  forEach (List.range ents.length) (fun e s =>
    ((s.save R.AFE_SEQ_ENT_INPUT (entIx q e)).save R.AFE_SEQ_ENT_SETTLE (entIx q e)).save R.AFE_SEQ_ENT_AVG_LOG2 (entIx q e)) s

/-- PADC10 runs while a sequence or a capture uses it (R193). -/
def padc10 (s : State) : State := s.setFlag R.AFE_PADC_EN 10 (s.padcWanted 10 || (s.cap 10).on)

/-- Stop a sequence: its pending pass is discarded (R199). -/
def stopSeq (s : State) (q : Nat) : State :=
  let s := ((s.wr R.AFE_SEQ_CTL_EN q 0).save R.AFE_SEQ_CTL_EN q).padc10
  { s with afe := { s.afe with pend := clearBit s.afe.pend q, offs := clearBit s.afe.offs q } }

/-- A loaded sequence takes over (R199); one loaded with EN 0 is disabled, and its pending pass discarded. -/
def loadSeq (s : State) (q ctl : Nat) (ents : List Nat) : State :=
  let s := s.putSeq q ctl ents
  if s.flag R.AFE_SEQ_CTL_EN q then s.padc10 else s.stopSeq q

/-- The DC-link input of an outlet is in no fast enough sequence (R201). -/
def auxSlow (s : State) (n : Nat) : Bool :=
  s.flag R.SAFE_OUT_PROT_VLINK_EN n && !s.auxFast (s.rd R.SAFE_OUT_PROT_VLINK_AUX n)

/-- Raise AFE_SAFE_AUX_SLOW for the outlets whose link voltage a change has made absent (R201). -/
def auxSlowNote (s before : State) : State :=
  forEach ((List.range 8).filter fun n => s.auxSlow n && !before.auxSlow n)
    (fun n s => s.raise Ev.AFE_SAFE_AUX_SLOW n [n, s.rd R.SAFE_OUT_PROT_VLINK_AUX n]) s

/-- Raise AFE_SAFE_AUX_SLOW for every outlet whose link voltage is absent, as at the set-up lock (R201). -/
def auxSlowAll (s : State) : State :=
  forEach ((List.range 8).filter s.auxSlow) (fun n s => s.raise Ev.AFE_SAFE_AUX_SLOW n [n, s.rd R.SAFE_OUT_PROT_VLINK_AUX n]) s

/-- The pass of a converter has ended: a loaded sequence replaces the old one, a disable takes effect, and the next
pending pass starts (R198, R199). -/
def endPass (s : State) (conv q : Nat) : State :=
  let before := s
  let s := { s with afe := { s.afe with run := s.afe.run.put none conv none } }
  let s := match s.afe.loads.get [] q with
    | ctl :: ents => ({ s with afe := { s.afe with loads := s.afe.loads.put [] q [] } } : State).loadSeq q ctl ents
    | [] => s
  let s := if bit s.afe.offs q then s.stopSeq q else s
  ((s.startPass 0).startPass 1).auxSlowNote before

/-- The time of a pass in units of 1/180 µs, at 45 Hz for the charge-balancing converter in mains mode (R196 to
R199). -/
def passTime (ctl : Nat) (ents : List Nat) : Nat :=
  let one := fun e =>
    let settle := imageField R.AFE_SEQ_ENT_SETTLE e
    if ents.length ≤ 16 then 9 * (10 * settle + 2 ^ imageField R.AFE_SEQ_ENT_AVG_LOG2 e + 10)
    else 9000 * settle + if imageField R.AFE_SEQ_CTL_INT_MODE ctl = 1 then 3600000 else 4000000
  ents.foldl (fun n e => n + one e) 0

/-- The odd input of an enabled pair cannot be used alone (R194). -/
def pairBad (s : State) (i : Nat) : Bool := i % 2 == 1 && s.flag R.AFE_AUX_IN_DIFF (i - 1) && s.flag R.AFE_AUX_IN_EN (i - 1)

/-- Why a sequence is refused (R194, R199). (DESIGN CHOICE, log 73) -/
def seqBad (s : State) (q ctl : Nat) (ents : List Nat) : Option Nat :=
  let len := imageField R.AFE_SEQ_CTL_LEN ctl
  let per := imageField R.AFE_SEQ_CTL_PERIOD_US ctl
  let inp := imageField R.AFE_SEQ_ENT_INPUT
  if 4 ≤ q || len = 0 || 64 < len || ents.length ≠ len || per < 10 || 10000000 < per || 11 < imageField R.AFE_SEQ_CTL_INT_MP ctl
      || ents.any (fun e => imageField R.AFE_SEQ_ENT_SETTLE e == 0 || decide (8 < imageField R.AFE_SEQ_ENT_AVG_LOG2 e)
        || !s.flag R.AFE_AUX_IN_EN (if inp e % 2 = 1 && s.flag R.AFE_AUX_IN_DIFF (inp e - 1) then inp e - 1 else inp e)) then
    some St.BAD_PARAM
  else if ents.any fun e => s.pairBad (inp e) then some St.BAD_PAIR
  else if 180 * per < passTime ctl ents then some St.SEQ_PERIOD
  else none

/-! ### Conversions -/

/-- Z, G and Y0 of an input on a converter. -/
def calFields (conv : Nat) : Fld × Fld × Fld × Fld :=
  if conv = 0 then (R.AFE_AUX_CAL_Z_P, R.AFE_AUX_CAL_G_P, R.AFE_AUX_CAL_Y0_P, R.AFE_AUX_CAL_CAL_P)
  else (R.AFE_AUX_CAL_Z_C, R.AFE_AUX_CAL_G_C, R.AFE_AUX_CAL_Y0_C, R.AFE_AUX_CAL_CAL_C)

/-- A code held to its 20 bits (R200). -/
def clampCode (code : Int) : Int := max (-524288) (min 524287 code)

/-- The value of a code (R203). A value beyond 32 bits is not given: a free value stands for it.
(DESIGN CHOICE, log 72) -/
def auxValue (s : State) (i conv : Nat) (code : Int) : Nat × State :=
  let (z, g, y, _) := calFields conv
  let v := idivRound ((code - s.rdInt z i) * dec 32 (s.rd g i)) (2 ^ 24) + dec 32 (s.rd y i)
  if -2147483648 ≤ v && v ≤ 2147483647 then (enc 32 v, s)
  else
    let (f, s) := s.takeFree
    (trunc 32 f, s)

/-- The code of a conversion (R196, R200): on PADC10 the mean of its samples times 256; on the charge-balancing converter the
mean of its integrations, one for an entry; held to 20 bits. -/
def auxCode (conv : Nat) (xs : List Int) : Int :=
  let n := max 1 xs.length
  clampCode (if conv = 0 then idivRound (256 * sumInt (xs.map code12)) n else idivRound (sumInt xs) n)

/-- A reading is over range (R200): a clamped sample on PADC10, the excursion comparator on the charge-balancing converter,
or a single-ended input below −50 mV at any moment of it. -/
def auxOver (s : State) (i conv : Nat) (xs : List Int) (trip : Bool) : Bool :=
  (if conv = 0 then xs.any over12 else trip)
    || (!(i % 2 == 0 && s.flag R.AFE_AUX_IN_DIFF i) && xs.any fun x => if conv = 0 then decide (256 * x < -10486) else decide (x < -10486))

/-- How long an entry occupies its converter in ns (R196, R197). -/
def entryTime (s : State) (r : AuxRun) : Nat :=
  let settle := s.rd R.AFE_SEQ_ENT_SETTLE (entIx r.seq r.entry)
  if s.rd R.AFE_SEQ_CTL_CONV r.seq = 0 then 500 * settle + 50 * (2 ^ s.rd R.AFE_SEQ_ENT_AVG_LOG2 (entIx r.seq r.entry) + 10)
  else 50000 * settle + r.len.getD 0

/-- The converter's inserted conversions (R204, R206) integrate as its lowest-numbered enabled sequence does; over 20 ms where
none is enabled. (DESIGN CHOICE, log 239) -/
def insertedTime (s : State) : Nat × Bool :=
  match (List.range 4).find? fun q => s.flag R.AFE_SEQ_CTL_EN q && s.rd R.AFE_SEQ_CTL_CONV q == 1 with
  | some q => s.integTime q
  | none => (20000000, true)

/-- An inserted conversion delays the next entry of its converter (R206). -/
def insertDelay (s : State) (conv ns : Nat) : State :=
  { s with afe := { s.afe with delay := s.afe.delay.upd 0 conv (· + ns) } }

/-- An AUX_REC record (format 0x0011): input, flags, value, µs after the header MTB. -/
def auxBytes (first : Nat) (r : List Nat) : List Nat :=
  [r.getD 0 0 % 256, r.getD 1 0 % 256, 0, 0] ++ leBytes 4 (r.getD 2 0) ++ leBytes 4 ((r.getD 3 0 - first) / 1000)

/-- A record for the auxiliary stream (R202): it goes out with its buffer of 336 (table Stream formats). -/
def auxRecord (s : State) (i flags value : Nat) : State :=
  if (s.streamRing 11).isNone then s else
  let rs := s.afe.auxRecs
  let first := ((rs.head?.map fun r => r.getD 3 0)).getD s.mtb
  let s := { s with afe := { s.afe with auxRecs := rs ++ [[i, flags, value, s.mtb]] } }
  if s.afe.auxRecs.length < 336 then s
  else
    ({ s with afe := { s.afe with auxRecs := [] } } : State).streamBlock 11
      ⟨0x11, first, 336, s.afe.auxRecs.flatMap (auxBytes first)⟩

/-- One conversion of an input (R196, R200, R202, R203) from its samples: AUX_RES and its record. Answers the value.
(DESIGN CHOICE, log 73) -/
def auxConvert (s : State) (i conv : Nat) (xs : List Int) (trip fixedT lost : Bool) : Nat × State :=
  let c := auxCode conv xs
  let ovr := s.auxOver i conv xs trip
  let (v, s) := s.auxValue i conv c
  let s := ((s.wr R.AFE_AUX_RES_VALUE i v).wrInt R.AFE_AUX_RES_CODE i c).setFlag R.AFE_AUX_RES_OVR i ovr
  let s := ((s.setFlag R.AFE_AUX_RES_FIXED_T i fixedT).setFlag R.AFE_AUX_RES_TRACK_LOST i lost).wr R.AFE_AUX_RES_CONV i conv
  let s := { s with afe := { s.afe with auxAt1 := s.afe.auxAt1.put 0 i (s.mtb + 1) } }
  let s := if conv = 0 then s.addSat R.AFE_PADC_OVR_CNT 10 (xs.filter over12).length else s
  let s := if ovr then s.incSat R.AFE_SCAN_STAT_AUX_OVR 0 else s
  (v, (s.auxRecord i (b2n ovr + 2 * b2n fixedT + 4 * b2n lost + 8 * conv) v).dispAux i v ovr)

/-- A calibration conversion (R204): 256 samples after 50 µs on PADC10, 16 integration periods on the charge-balancing
converter. Answers its code and OVR. -/
def calConvert (s : State) (i conv : Nat) (samples : List Int) (trip : Bool) : Int × Bool × State :=
  let xs := samples.take (if conv = 0 then 256 else 16)
  let (ns, fixed) := s.insertedTime
  let ovr := s.auxOver i conv xs trip
  let s := (s.auxConvert i conv xs trip (conv == 1 && fixed) false).2
  (auxCode conv xs, ovr, s.insertDelay conv (if conv = 0 then 50000 + 50 * (256 + 10) else 16 * ns))

/-- A result of a PADC10 sequence of at most 1,000 µs is what channel A uses of its input (R201). -/
def noteFast (s : State) (r : AuxRun) (i : Nat) : State :=
  if s.rd R.AFE_SEQ_CTL_CONV r.seq = 0 && decide (s.rd R.AFE_SEQ_CTL_PERIOD_US r.seq ≤ 1000) then
    { s with afe := { s.afe with fast := s.afe.fast.put none i (some (s.rdInt R.AFE_AUX_RES_VALUE i, s.flag R.AFE_AUX_RES_OVR i)) } }
  else s

end State
end Sys2Proof.Machine
end

