-- ==== Sys2Proof/Machine/Afe.lean ====
section
/-! DEFINITION. The events and commands of the sampling front end and of the auxiliary scanner
(06_sampling_front_end.md). -/

namespace Sys2Proof.Machine

/-- STREAM_BUFFER_FILL (R59 to R61): a source has gathered one buffer of samples, at most 4,032 bytes. -/
def execStreamBufferFill (t : Nat) (src mtbFirst : Nat) (data : List (List Int)) (s : State) :
    Host.Outcome State Fault Refusal :=
  .next (onEvent s t fun s =>
    if 12 ≤ src && src < 24 then (if 144 ≤ (s.waveRecs (src - 12)).length then s.waveBlock (src - 12) else s.drainSource src)
    else s.sourceBlock src mtbFirst data)

/-- CH_OVERLOAD (R180, R187): the counts, the samples flagged invalid until the chain has settled again, and
AFE_OVERLOAD at most once a second. (DESIGN CHOICE, log 74) -/
def execChOverload (t c : Nat) (s : State) : Host.Outcome State Fault Refusal :=
  .next (onCore s t fun s =>
    if 64 ≤ c || !s.afeEn c then s else
    let s := (s.wr R.AFE_CH_STAT_OVL_NOW c 1).incSat R.AFE_CH_STAT_OVL_CNT c
    let s := if c < 48 then s.incSat R.AFE_CH_STAT_RESETS c else s
    let s := { s with filt := { s.filt with restartAt := s.filt.restartAt.put 0 c s.mtb } }
    let first := if s.afe.ovlSince.get 0 c = 0 then s.mtb else s.afe.ovlFirst.get 0 c
    let n := s.afe.ovlSince.get 0 c + 1
    let at1 := s.afe.ovlEvAt1.get 0 c
    if at1 = 0 || at1 + 10 ^ 9 ≤ s.mtb + 1 then
      let s := { s with afe := { s.afe with
        ovlSince := s.afe.ovlSince.put 0 c 0, ovlEvAt1 := s.afe.ovlEvAt1.put 0 c (s.mtb + 1) } }
      s.raise Ev.AFE_OVERLOAD c [c, n, first]
    else { s with afe := { s.afe with
      ovlSince := s.afe.ovlSince.put 0 c n, ovlFirst := s.afe.ovlFirst.put 0 c first } })

/-- MBS_LOST (R187): the channel is absent. -/
def execMbsLost (t c : Nat) (s : State) : Host.Outcome State Fault Refusal :=
  .next (onCore s t fun s =>
    if c < 48 || 64 ≤ c || !s.afeEn c || s.flag R.AFE_CH_STAT_LOST c then s else
    let s := ((s.wr R.AFE_CH_STAT_LOST c 1).wr R.AFE_CH_STAT_PRESENT c 0).wr R.FILT_STAT_PRESENT c 0
    let s := (s.raise Ev.AFE_MBS_LOST c [c, 1]).trkRefreshAll
    forEach (s.mpsOf c) (fun m s => s.mpEval m) s)

/-- MBS_RESTORED (R187). -/
def execMbsRestored (t c : Nat) (s : State) : Host.Outcome State Fault Refusal :=
  .next (onCore s t fun s =>
    if c < 48 || 64 ≤ c || !s.flag R.AFE_CH_STAT_LOST c then s else
    let ok := s.afeEn c && !s.flag R.FILT_STAT_SETTLING c
    let s := ((s.wr R.AFE_CH_STAT_LOST c 0).setFlag R.AFE_CH_STAT_PRESENT c ok).setFlag R.FILT_STAT_PRESENT c ok
    let s := (s.raise Ev.AFE_MBS_LOST c [c, 0]).trkRefreshAll
    forEach (s.mpsOf c) (fun m s => s.mpEval m) s)

/-- AUX_SEQ_DUE (R198): at the first MTB value at or after a multiple of the period, the pass becomes pending, or the due
instant is skipped as late. -/
def execAuxSeqDue (t q : Nat) (s : State) : Host.Outcome State Fault Refusal :=
  .next (onEvent s t fun s =>
    let per := 1000 * s.rd R.AFE_SEQ_CTL_PERIOD_US q
    let due := s.mtb / max 1 per * per
    if 4 ≤ q || !s.flag R.AFE_SEQ_CTL_EN q || due + 1 ≤ s.afe.dueMet1.get 0 q then s else
    let s := { s with afe := { s.afe with dueMet1 := s.afe.dueMet1.put 0 q (due + 1) } }
    if bit s.afe.pend q then
      (s.incSat R.AFE_SCAN_STAT_LATE_CNT 0).raise Ev.AFE_SEQ_LATE 0 [q, (s.mtb - s.afe.dueAt.get 0 q) / 1000]
    else
      let s := { s with afe := { s.afe with pend := setBit s.afe.pend q, dueAt := s.afe.dueAt.put 0 q due } }
      s.startPass (s.rd R.AFE_SEQ_CTL_CONV q))

/-- AUX_CONVERSION_DONE (R196 to R202): the entry that runs on a converter ends once its settling and its conversion are
over, with its samples: 2^AVG_LOG2 of PADC10, or the integration of the charge-balancing converter as a 20-bit code, and
whether its excursion comparator tripped. The next entry starts. -/
def execAuxConversionDone (t conv : Nat) (samples : List Int) (trip : Bool) (s : State) : Host.Outcome State Fault Refusal :=
  .next (onEvent s t fun s =>
    let s := if conv = 1 then s.auxDecide else s
    match s.afe.run.get none conv with
    | none => s
    | some r =>
      if (conv = 1 && r.len.isNone) || s.mtb < r.at_ + s.entryTime r then s else
      let i := s.rd R.AFE_SEQ_ENT_INPUT (State.entIx r.seq r.entry)
      let n := if conv = 0 then 2 ^ s.rd R.AFE_SEQ_ENT_AVG_LOG2 (State.entIx r.seq r.entry) else 1
      let s := (s.auxConvert i conv (samples.take n) trip r.fixedT r.lost).2.noteFast r i
      if r.entry + 1 < s.rd R.AFE_SEQ_CTL_LEN r.seq then s.startEntry r.seq (r.entry + 1) else s.endPass conv r.seq)

/-- AFE_SEQ_LOAD (R195, R199): the images of the control register and of its entries. -/
def execAfeSeqLoad (x : Ctx) (q ctl : Nat) (ents : List Nat) (s : State) : Host.Outcome State Fault Refusal :=
  .next (s.command x Op.AFE_SEQ_LOAD q none fun s =>
    match s.seqBad q ctl ents with
    | some st => s.complete x st
    | none =>
      let before := s
      let s := if s.passRuns q then { s with afe := { s.afe with loads := s.afe.loads.put [] q (ctl :: ents) } }
        else s.loadSeq q ctl ents
      (s.auxSlowNote before).complete x St.OK)

/-- AFE_SEQ_EN (R199). -/
def execAfeSeqEn (x : Ctx) (q on : Nat) (s : State) : Host.Outcome State Fault Refusal :=
  .next (s.command x Op.AFE_SEQ_EN q none fun s =>
    if 4 ≤ q || 2 ≤ on then s.complete x St.BAD_PARAM else
    let before := s
    let s :=
      if on = 1 then
        let s := { s with afe := { s.afe with offs := clearBit s.afe.offs q } }
        ((s.wr R.AFE_SEQ_CTL_EN q 1).save R.AFE_SEQ_CTL_EN q).padc10
      else if s.passRuns q then { s with afe := { s.afe with offs := setBit s.afe.offs q } }
      else s.stopSeq q
    (s.auxSlowNote before).complete x St.OK)

/-- AFE_AUX_ONESHOT (R206): one conversion, inserted after the entry in progress, whose remaining entries it delays. -/
def execAfeAuxOneshot (x : Ctx) (i conv settle avg : Nat) (samples : List Int) (trip : Bool) (s : State) :
    Host.Outcome State Fault Refusal :=
  .next (s.command x Op.AFE_AUX_ONESHOT i none fun s =>
    if 64 ≤ i || 2 ≤ conv || settle = 0 || 255 < settle || 8 < avg then s.complete x St.BAD_PARAM
    else if s.pairBad i then s.complete x St.BAD_PAIR
    else
      let xs := samples.take (if conv = 0 then 2 ^ avg else 1)
      let (ns, fixed) := s.insertedTime
      let fixed := conv == 1 && fixed
      let ovr := s.auxOver i conv xs trip
      let (v, s) := s.auxConvert i conv xs trip fixed false
      let s := s.insertDelay conv (if conv = 0 then 500 * settle + 50 * (2 ^ avg + 10) else 50000 * settle + ns)
      s.complete x St.OK (v + 2 ^ 32 * enc 32 (State.auxCode conv xs) + 2 ^ 64 * (b2n ovr + 2 * b2n fixed + 8 * conv)))

/-- AFE_CAL_ZERO (R204, R205): the code with the zero applied is kept for the span. -/
def execAfeCalZero (x : Ctx) (i conv : Nat) (y0 : Int) (samples : List Int) (trip : Bool) (s : State) :
    Host.Outcome State Fault Refusal :=
  .next (s.command x Op.AFE_CAL_ZERO i none fun s =>
    if 64 ≤ i || 2 ≤ conv then s.complete x St.BAD_PARAM
    else if s.pairBad i then s.complete x St.BAD_PAIR else
    let (code, ovr, s) := s.calConvert i conv samples trip
    if ovr then s.complete x St.CAL_OVR
    else
      let zs := s.afe.zeros.put ⟨0, 0, 0⟩ (2 * i + conv) ⟨s.mtb + 1, code, y0⟩
      let s := { s with afe := { s.afe with zeros := zs } }
      s.complete x St.OK (enc 32 code))

/-- AFE_CAL_SPAN (R204, R205): the gain from the zero and the span, or a refusal that leaves the coefficients.
(DESIGN CHOICE, log 73) -/
def execAfeCalSpan (x : Ctx) (i conv : Nat) (y1 : Int) (samples : List Int) (trip : Bool) (s : State) :
    Host.Outcome State Fault Refusal :=
  .next (s.command x Op.AFE_CAL_SPAN i none fun s =>
    if 64 ≤ i || 2 ≤ conv then s.complete x St.BAD_PARAM
    else if s.pairBad i then s.complete x St.BAD_PAIR else
    let z := s.afe.zeros.get ⟨0, 0, 0⟩ (2 * i + conv)
    if z.at1 = 0 || z.at1 + 600 * 10 ^ 9 < s.mtb + 1 then s.complete x St.CAL_ORDER else
    let (code, ovr, s) := s.calConvert i conv samples trip
    let span := code - z.code
    if span.natAbs < 65536 then s.complete x St.CAL_SPAN
    else if ovr then s.complete x St.CAL_OVR
    else
      let num := (y1 - z.y0) * 2 ^ 24
      let g := if 0 ≤ span then idivRound num span.natAbs else idivRound (-num) span.natAbs
      if g < -2147483648 || 2147483647 < g then s.complete x St.CAL_SPAN
      else
        let (fz, fg, fy, fc) := State.calFields conv
        let s := ((s.wrInt fz i z.code).wrInt fg i g).wrInt fy i z.y0
        let s := (s.wr R.AFE_AUX_CAL_CAL_UTC i s.wallS).wr fc i 1
        let s := forEach [fz, fg, fy, fc, R.AFE_AUX_CAL_CAL_UTC] (fun F s => s.save F i) s
        let s := s.raise Ev.AFE_CAL_DONE i [i, conv, enc 32 z.code, enc 32 g, enc 32 z.y0]
        s.complete x St.OK (enc 32 g))

/-- AFE_CAL_RESTORE (R206): the factory set of one input and converter. -/
def execAfeCalRestore (x : Ctx) (i conv : Nat) (s : State) : Host.Outcome State Fault Refusal :=
  .next (s.command x Op.AFE_CAL_RESTORE i none fun s =>
    if 64 ≤ i || 2 ≤ conv then s.complete x St.BAD_PARAM else
    let (fz, fg, fy, fc) := State.calFields conv
    (forEach [fz, fg, fy, fc] (fun F s => (s.toReset F i).save F i) s).complete x St.OK)

/-- AFE_CAPTURE (R193): a converter whose modem is disabled runs for the duration of the capture. -/
def execAfeCapture (x : Ctx) (mask fmt samples : Nat) (s : State) : Host.Outcome State Fault Refusal :=
  .next (s.command x Op.AFE_CAPTURE 0 none fun s =>
    let ps := (List.range 11).filter (bit mask ·)
    if mask = 0 || 2 ^ 11 ≤ mask || (fmt != 1 && fmt != 3) then s.complete x St.BAD_PARAM
    else if ps.any fun p => (s.cap p).on then s.complete x St.CAPTURE_BUSY
    else
      (forEach ps (fun p s => ((s.setCap p ⟨true, fmt, samples, samples == 0⟩).wr R.AFE_PADC_CAPTURE p 1).wr
        R.AFE_PADC_EN p 1) s).complete x St.OK)

/-- AFE_CAPTURE_STOP (R193): the partly filled buffers, with converter, MTB of the first sample and samples,
are delivered. -/
def execAfeCaptureStop (x : Ctx) (mask : Nat) (parts : List (Nat × Nat × List (List Int))) (s : State) :
    Host.Outcome State Fault Refusal :=
  .next (s.command x Op.AFE_CAPTURE_STOP 0 none fun s =>
    if 2 ^ 11 ≤ mask then s.complete x St.BAD_PARAM else
    let s := forEach (parts.filter fun p => bit mask p.1) (fun p s => s.sourceBlock p.1 p.2.1 p.2.2) s
    (forEach ((List.range 11).filter fun p => bit mask p && (s.cap p).on) (fun p s => s.endCapture p) s).complete x St.OK)

end Sys2Proof.Machine
end

