-- ==== Sys2Proof/Machine/LedgerOps.lean ====
section
/-! DEFINITION. The energy of a grid cycle (R246 to R253), metering and ledger sessions (R256, R257, R312, R313, R544),
signed readings (R314), boundary transactions (R299 to R310), setting the wall time (R291 to R293, R307, R308).
Counters are lists of the eight energy counters A_IMP, A_EXP, RQ1 to RQ4, S_IMP, S_EXP. -/

namespace Sys2Proof.Machine

/-- Add two lists of counts, the shorter one padded with zeros. -/
def addCounts : List Nat → List Nat → List Nat
  | [], b => b
  | a, [] => a
  | x :: a, y :: b => (x + y) :: addCounts a b

/-- The parts of a cycle's increment (R251): each part's share by the running sum of its own increments, held between
0 and the whole, so that the shares add up to it and none is negative. -/
def splitSigned (whole : Int) : List Int → Int → Int → List Nat
  | [], _, _ => []
  | [_], _, given => [(whole - given).toNat]
  | a :: r, sum, given =>
    let c := max given (min whole (sum + a))
    (c - given).toNat :: splitSigned whole r (sum + a) c

/-- The parts of an increment in proportion to durations (R251). -/
def splitTime (whole total : Nat) : List Nat → Nat → Nat → List Nat
  | [], _, _ => []
  | [_], _, given => [whole - given]
  | d :: r, t, given =>
    let c := whole * (t + d) / max 1 total
    (c - given) :: splitTime whole total r (t + d) c

/-- The six quantities of a second's record from the eight counters (R259): A_IMP, A_EXP, RQ1 + RQ2, RQ3 + RQ4,
S_IMP, S_EXP. -/
def sixOf (c : List Nat) : List Nat :=
  [c.getD 0 0, c.getD 1 0, c.getD 2 0 + c.getD 3 0, c.getD 4 0 + c.getD 5 0, c.getD 6 0, c.getD 7 0]

namespace State

/-! ### Counters -/

/-- The eight energy counters of a meter point. -/
def counters (s : State) (m : Nat) : List Nat := (List.range 8).map fun k => s.rd R.MET_ENERGY_COUNT (10 * m + k)

/-- NET as R249 sets it from A_IMP and A_EXP. -/
def netOf (s : State) (m : Nat) : Nat :=
  let a := s.rd R.MET_ENERGY_COUNT (10 * m)
  let b := s.rd R.MET_ENERGY_COUNT (10 * m + 1)
  if s.flag R.MET_CFG_NET_MODE m then (a + b) % 2 ^ 64 else enc 64 ((a : Int) - b)

/-- The tariff register fields of a set. -/
def touFields : List Fld :=
  [R.LEDGER_TOU_A_IMP, R.LEDGER_TOU_A_EXP, R.LEDGER_TOU_R_IMP, R.LEDGER_TOU_R_EXP, R.LEDGER_TOU_S_IMP, R.LEDGER_TOU_S_EXP]

/-- Add six increments to a tariff register set. -/
def touAdd (s : State) (m t : Nat) (six : List Nat) : State :=
  forEach (touFields.zip six) (fun p s => s.wr p.1 (16 * m + t) (s.rd p.1 (16 * m + t) + p.2)) s

/-- Take six increments out of a tariff register set, as a boundary transaction moves them to another. -/
def touSub (s : State) (m t : Nat) (six : List Nat) : State :=
  forEach (touFields.zip six) (fun p s => s.wr p.1 (16 * m + t) (s.rd p.1 (16 * m + t) - p.2)) s

/-! ### Sessions in the ledger -/

/-- The ledger session of an outlet. -/
def lsess (s : State) (n : Nat) : LSession := s.ledger.sess.get LSession.init n
/-- Change the ledger session of an outlet. -/
def modLsess (s : State) (n : Nat) (f : LSession → LSession) : State :=
  { s with ledger := { s.ledger with sess := s.ledger.sess.upd LSession.init n f } }

/-- Energy of the session of an outlet in Wh. -/
def sessWh (s : State) (n : Nat) : Nat :=
  (s.rd R.MET_SESS_A_IMP (s.rd R.OUT_CFG_MP n) + s.rd R.MET_SESS_A_EXP (s.rd R.OUT_CFG_MP n)) / 1000000

/-- The measured active power of an outlet in W, positive for import; none while its meter point does not run (R33). -/
def measP (s : State) (n : Nat) : Option Int :=
  let m := s.rd R.OUT_CFG_MP n
  if s.mpRuns m then some (Int.tdiv (s.rdInt R.MET_TOTAL_P m) 1000) else none

/-- The measured power of an outlet in W, either way. -/
def measW (s : State) (n : Nat) : Option Nat := (s.measP n).map Int.natAbs

/-- The power an outlet feeds back in W; none counts where it is absent. -/
def measExport (s : State) (n : Nat) : Nat := ((s.measP n).map fun p => (-p).toNat).getD 0

/-- A new ledger session number (R98). -/
def newSession (s : State) : Nat × State :=
  (s.ledger.sessNo + 1, { s with ledger := { s.ledger with sessNo := s.ledger.sessNo + 1 } })

/-- Add energy to the segment of a session that holds an instant (R313). -/
def segAdd (segs : List Segment) (start imp exp : Nat) : List Segment :=
  let i := (segs.filter fun g => decide (g.start ≤ start)).length - 1
  segs.modify i fun g => { g with imp := g.imp + imp, exp := g.exp + exp }

/-- A tariff change in a session (R313): a new segment, up to eight. -/
def segNew (l : LSession) (tariff at_ : Nat) : LSession :=
  if 8 ≤ l.segs.length then { l with overflow := true } else { l with segs := l.segs ++ [⟨tariff, at_, 0, 0⟩] }

/-- The tariff selected for a meter point at an instant: the forced one, 0xFF where the calendar decides (R297).
(DEDUCED, log 188) -/
def tariffSel (s : State) (m at_ : Nat) : Nat :=
  let own := if (s.acct m).forced1 = 0 then 0xFF else (s.acct m).forced1 - 1
  match s.ledger.bound with
  | some b => if b.at_ ≤ at_ then (((b.force.filter fun f => bit f.1 m).getLast?).map (·.2.1)).getD own else own
  | none => own

/-- The fields of a SESSION_OPEN record (R312). (DEDUCED, log 188) -/
def openBody (s : State) (n : Nat) : List (Nat × Nat) :=
  let l := s.lsess n
  let c := s.counters l.mp
  [(1, n), (1, l.mp), (1, l.src), (1, s.tariffSel l.mp l.tOpen), (4, l.id), (16, l.hash), (4, l.cred), (4, l.price),
   (8, c.getD 0 0), (8, c.getD 1 0)]

/-- The seconds of a session with a quality flag: INVALID, ABSENT, HOLDOVER, FREE_RUN. -/
def sessQual (s : State) (m : Nat) : List Nat :=
  let now := [s.rd R.MET_QUAL_INVALID_S m, s.rd R.MET_QUAL_ABSENT_S m, s.rd R.MET_QUAL_HOLDOVER_S m, s.rd R.MET_QUAL_FREE_RUN_S m]
  (now.zip (s.mp m).qualOpen).map fun p => p.1 - p.2

/-- The fields of a SESSION_CLOSE record (table SESSION_CLOSE body). `extra` are the flags of a close at restart or
of a carried session. -/
def closeBody (s : State) (n extra est : Nat) : List (Nat × Nat) :=
  let l := s.lsess n
  let paused := l.pausedNs + (l.pausedSince.map (l.tClose - ·)).getD 0
  let c := s.counters l.mp
  let q := s.sessQual l.mp
  let nz := fun i => b2n (q.getD i 0 != 0)
  let flags := extra + 16 * nz 1 + 32 * nz 2 + 64 * nz 0 + 128 * nz 3 + 256 * b2n (bit l.flagsClose 0 || bit l.flagsOpen 0)
    + 512 * b2n (bit l.flagsClose 2) + 1024 * b2n l.overflow + 4096 * b2n l.carried
  let segs := (List.range 8).flatMap fun i =>
    match l.segs[i]? with
    | some g => [(1, g.tariff), (3, 0), (4, (g.start - l.tOpen) / 10 ^ 9), (8, g.imp), (8, g.exp)]
    | none => [(1, 0), (3, 0), (4, 0), (8, 0), (8, 0)]
  [(1, n), (1, l.mp), (1, l.src), (1, l.reason), (4, l.id), (16, l.hash), (4, l.cred), (4, l.price),
   (4, l.ledgerOpen / 1000), (2, l.ledgerOpen % 1000), (2, l.flagsOpen),
   (4, l.ledgerClose / 1000), (2, l.ledgerClose % 1000), (2, l.flagsClose),
   (8, l.atOpen.getD 0 0), (8, c.getD 0 0), (8, l.atOpen.getD 1 0), (8, c.getD 1 0),
   (8, s.rd R.MET_SESS_A_IMP l.mp), (8, s.rd R.MET_SESS_A_EXP l.mp), (8, est), (4, flags),
   (2, min 65535 (q.getD 0 0)), (2, min 65535 (q.getD 1 0)),
   (2, min 65535 l.reductions), (2, min 65535 l.pauses), (4, paused / 10 ^ 9), (1, l.segs.length), (7, 0)] ++ segs

/-- Append the SESSION_CLOSE record of an outlet whose close is final (R313). -/
def closeRecord (s : State) (n extra est : Nat) : State :=
  let l := s.lsess n
  let s := s.appendNum l.num rSESSION_CLOSE l.mp (s.closeBody n extra est)
  s.modLsess n fun _ => LSession.init

/-- A meter point's close is final (R257): CLOSED_PENDING clears and the close record is appended. -/
def closeFinal (s : State) (m : Nat) : State :=
  let s := s.wr R.MET_SESS_CLOSED_PENDING m 0
  forEach ((List.range 8).filter fun n => (s.lsess n).opened && (s.lsess n).closing && (s.lsess n).mp == m)
    (fun n s => s.closeRecord n 0 0) s

/-- The number a record takes that is made now and appended later: one reserved for the Cask that applies, or none. -/
def takeNum (s : State) : Option Nat × State :=
  match s.ledger.useNums with
  | n :: r => (some n, { s with ledger := { s.ledger with useNums := r } })
  | [] => (none, s)

/-- The fields of a READING record (R312). -/
def readingBody (s : State) (m tariff : Nat) : List (Nat × Nat) :=
  [(1, m), (1, tariff), (2, 0), (4, s.rd R.MET_TOTAL_QF m)] ++ (s.counters m).map (fun c => (8, c))
    ++ [(8, s.rd R.LEDGER_EST_EST_UWH m),
        (4, s.rd R.LEDGER_EST_EST_VALID m + 2 * s.rd R.LEDGER_EST_EST_EXPORT m + 4 * s.rd R.LEDGER_EST_EST_CAPPED m
          + 8 * s.rd R.LEDGER_EST_LOSS m)]

/-- A reading's record has been appended: the request notes its first number and completes with its last one. -/
def readNoted (s : State) (group : Nat) : State :=
  let num := s.rd R.LEDGER_STAT_LAST_SEQ
  let rest := s.ledger.pends.any fun p => p.reading && p.group == group
  match s.ledger.reads.find? fun r => r.group == group with
  | none => s
  | some r =>
    let first := if r.first = 0 then num else min r.first num
    if rest then
      { s with ledger := { s.ledger with reads := s.ledger.reads.map fun x => if x == r then { r with first := first } else x } }
    else
      let s := { s with ledger := { s.ledger with reads := s.ledger.reads.filter (· != r) } }
      match r.ctx with
      | some x => s.complete x St.OK first
      | none => s

/-- A record that waits for the instant `at_`, with the times and the tariff of that instant. (DEDUCED, log 198) -/
def pendRec (s : State) (reading : Bool) (outlet mp at_ : Nat) (num : Option Nat) (group : Nat) : PendRec :=
  ⟨reading, outlet, mp, at_, num, group, s.wallMsAt at_, s.ledgerMsAt at_, s.timeFlags, (s.acct mp).tariff⟩

/-- Append a record that waited for its instant (R314): it carries the times of that instant.
(DEDUCED, DESIGN CHOICE, log 88, 198) -/
def flushPend (s : State) (p : PendRec) : State :=
  let s := { s with ledger := { s.ledger with pends := s.ledger.pends.filter (· != p) } }
  if p.reading then
    (s.appendTimed p.num rREADING p.mp p.wall p.ledger p.flags (s.readingBody p.mp p.tariff)).readNoted p.group
  else
    let c := s.counters p.mp
    let s := s.modLsess p.outlet fun l => { l with atOpen := [c.getD 0 0, c.getD 1 0] }
    s.appendTimed p.num rSESSION_OPEN p.mp p.wall p.ledger p.flags (s.openBody p.outlet)

/-- Append the records that waited for a meter point to reach an instant. -/
def flushPends (s : State) (m upTo : Nat) : State :=
  forEach (s.ledger.pends.filter fun p => p.mp == m && decide (p.at_ ≤ upTo)) (fun p s => s.flushPend p) s

/-- Whether a meter point has yet to classify an instant. -/
def unclassified (s : State) (m at_ : Nat) : Bool := s.mpRuns m && decide ((s.mp m).partEnd < at_)

/-- Queue a record for its instant, or append it now where nothing is still to be classified.
(DESIGN CHOICE, log 88) -/
def queueRecord (s : State) (p : PendRec) : State :=
  if s.unclassified p.mp p.at_ then { s with ledger := { s.ledger with pends := s.ledger.pends ++ [p] } }
  else s.flushPend p

/-- Open a meter point's session counters from T (R256). -/
def metOpen (s : State) (m sess at_ : Nat) : State :=
  let s := ((((s.wr R.MET_SESS_SESSION_ID m sess).wr R.MET_SESS_OPEN m 1).wr R.MET_SESS_CLOSED_PENDING m 0).wr
    R.MET_SESS_T_OPEN m at_).wr R.MET_SESS_A_IMP m 0
  let q := [s.rd R.MET_QUAL_INVALID_S m, s.rd R.MET_QUAL_ABSENT_S m, s.rd R.MET_QUAL_HOLDOVER_S m, s.rd R.MET_QUAL_FREE_RUN_S m]
  (s.wr R.MET_SESS_A_EXP m 0).modMp m fun p => { p with sessEnd1 := 0, qualOpen := q }

/-- Close a meter point's session counters before T2 (R256, R257). -/
def metClose (s : State) (m at_ : Nat) : State :=
  let s := (s.wr R.MET_SESS_OPEN m 0).modMp m fun p => { p with sessEnd1 := at_ + 1 }
  if s.unclassified m at_ then s.wr R.MET_SESS_CLOSED_PENDING m 1 else s.closeFinal m

/-- Open the ledger session of an outlet (R312, R313, R544). -/
def recOpen (s : State) (n m : Nat) (i : Identity) (price at_ : Nat) : State :=
  let (id, s) := if s.rd R.OUT_STAT_SESSION_ID n = 0 then s.newSession else (s.rd R.OUT_STAT_SESSION_ID n, s)
  let s := s.wr R.OUT_STAT_SESSION_ID n id
  let (num, s) := s.takeNum
  let l : LSession := { LSession.init with
    opened := true, mp := m, id := id, src := i.src, hash := i.hash, cred := if i.rec1 = 0 then 0xFFFFFFFF else i.rec1 - 1,
    price := price, tOpen := at_, ledgerOpen := s.ledgerMsAt at_, flagsOpen := s.timeFlags,
    segs := [⟨(s.acct m).tariff, at_, 0, 0⟩],
    reductions := if s.flag R.OUT_CFG_CTRL n then 0 else (s.outlet n).reductions,
    pauses := if s.flag R.OUT_CFG_CTRL n then 0 else (s.outlet n).pauses,
    pausedNs := if s.flag R.OUT_CFG_CTRL n then 0 else (s.outlet n).pausedTotal }
  (s.modLsess n fun _ => l).queueRecord (s.pendRec false n m at_ num 0)

/-- Close the ledger session of an outlet (R313): its metering session closes at the same instant, and the record
follows once that close is final. -/
def recClose (s : State) (n reason at_ : Nat) : State :=
  let l := s.lsess n
  if !l.opened || l.closing then s else
  let (num, s) := s.takeNum
  let s := s.modLsess n fun l => { l with
    closing := true, tClose := at_, ledgerClose := s.ledgerMsAt at_, flagsClose := s.timeFlags, reason := reason, num := num }
  if s.mpLive l.mp then s.metClose l.mp at_
  else if s.flag R.MET_SESS_CLOSED_PENDING l.mp then s
  else s.closeRecord n 0 0

/-- The reductions and pauses of a session go with its ledger session, so that a power loss does not lose them
(R128). -/
def noteCounts (s : State) (n : Nat) : State :=
  let o := s.outlet n
  if (s.lsess n).opened && !(s.lsess n).closing then
    s.modLsess n fun l => { l with
      reductions := o.reductions, pauses := o.pauses, pausedNs := o.pausedTotal,
      pausedSince := if o.st == .paused then some o.pausedAt else none }
  else s

/-- Ask for signed readings of a mask at an instant (R314): one record per meter point. -/
def readStart (s : State) (mask at_ : Nat) (ctx : Option Ctx) : State :=
  let g := s.ledger.groups + 1
  let ms := (List.range 12).filter (bit mask ·)
  let s := { s with ledger := { s.ledger with groups := g, reads := s.ledger.reads ++ [⟨g, ctx, 0⟩] } }
  -- every record of the group waits until all are queued, so that the request completes once
  let s := forEach ms (fun m s =>
    let (num, s) := s.takeNum
    { s with ledger := { s.ledger with pends := s.ledger.pends ++ [s.pendRec true 0 m at_ num g] } }) s
  if ms = [] then s.readNoted g
  else forEach ms (fun m s => if s.unclassified m at_ then s else s.flushPends m at_) s

/-- As `readStart`, for a Cask action. Answers the first reserved number. -/
def readSigned (s : State) (mask at_ : Nat) : Nat × State := (s.ledger.useNums.headD 0, s.readStart mask at_ none)

/-- The next ledger sequence number. -/
def ledgerNext (s : State) : Nat := s.ledger.issued + 1

/-! ### The energy of a cycle -/

/-- A phase contributes energy in this cycle (R252, R254): its current is at or above ISTART, or at 0.8 of it where it
contributed before, and its channels are present. -/
def contributes (s : State) (m p irms : Nat) : Bool :=
  let th := s.rd R.MET_RATING_IMAX m * s.rd R.MET_RATING_ISTART_PPM m
  let rs := s.roles m
  let gone := s.chAbsent (rs.getD p 0x7F) || s.chAbsent (rs.getD (3 + p) 0x7F)
  !gone && (decide (th ≤ 1000 * irms) || (bit (s.mp m).contrib p && decide (8 * th ≤ 10000 * irms)))

/-- The increments of one group of phases over the parts of a cycle (R247, R248, R251) in pWh: per part, the eight
counters. -/
def groupParts (durs : List Nat) (acts : List Int) (q : Int) (uiSum : Nat) : List (List Nat) :=
  let w := sumInt acts
  let imp := decide (0 ≤ w)
  let total := durs.foldl (· + ·) 0
  let a := splitSigned w.natAbs (if imp then acts else acts.map (- ·)) 0 0
  let r := splitTime (q.natAbs * total / 3600) total durs 0 0
  let sv := splitTime (uiSum * total / 3600000000000) total durs 0 0
  let qi := if 0 ≤ q then (if imp then 2 else 3) else (if imp then 5 else 4)
  (List.range durs.length).map fun i =>
    (List.range 8).map fun k =>
      if k = (if imp then 0 else 1) then a.getD i 0
      else if k = qi then r.getD i 0
      else if k = (if imp then 6 else 7) then sv.getD i 0 else 0

/-- The increments of a unit of DC in pWh (R247): each tap sample by its own sign. -/
def dcParts (c : Cycle) : List (List Nat) :=
  c.parts.map fun p => [(sumInt (p.act.map (max 0 ·))).toNat, (sumInt (p.act.map fun a => max 0 (-a))).toNat, 0, 0, 0, 0, 0, 0]

/-- The increments of a cycle over its parts: the phases summed before classification, or each alone (R248). -/
def cycleParts (s : State) (m : Nat) (c : Cycle) (on : List Nat) : List (List Nat) :=
  let start := (s.mp m).partEnd
  let durs := (c.parts.foldl (fun (a : Nat × List Nat) p => (p.until_, a.2 ++ [p.until_ - a.1])) (start, [])).2
  let actOf := fun (ps : List Nat) => c.parts.map fun p => sumInt (ps.map fun i => p.act.getD i 0)
  let ph := fun i => c.phases.getD i ⟨0, 0, 0⟩
  let group := fun (ps : List Nat) =>
    groupParts durs (actOf ps) (sumInt (ps.map fun i => (ph i).q)) ((ps.map fun i => (ph i).urms * (ph i).irms).foldl (· + ·) 0)
  let groups := if s.flag R.MET_CFG_CLASSIFY m then on.map fun i => group [i] else [group on]
  groups.foldl (fun a g => (List.range durs.length).map fun i => addCounts (a.getD i []) (g.getD i [])) (durs.map fun _ => [])

/-- Bring BACKLOG of a pulse output to the pulses that wait (R276): all that might have started while a pulse conducts or less
than one width has passed since its end, all but the first otherwise. It saturates, and the pulses beyond are lost. -/
def backlog (s : State) (k : Nat) : State :=
  let p := s.met.pulses.get Pulse.init k
  let busy := p.on || (p.edge1 != 0 && decide (s.mtb + 1 < p.edge1 + 10 ^ 6 * s.rd R.MET_PULSE_WIDTH_MS k))
  let n := (p.due.filter fun d => decide (d ≤ s.mtb)).length
  let wait := if busy then n else n - 1
  let new := min wait 65535
  let old := s.rd R.MET_PULSE_BACKLOG k
  let p := { p with due := p.due.drop (wait - new) }
  let s := { s with met := { s.met with pulses := s.met.pulses.put Pulse.init k p } }
  let s := s.wr R.MET_PULSE_BACKLOG k new
  if (old = 0 && new != 0) || (old < 65535 && new = 65535) then
    s.raise Ev.MET_PULSE_BACKLOG 0 [k, new, b2n (new == 65535)] else s

/-- Account for one part of a cycle (R246, R249, R251, R256, R294, R299): energy counters and NET, the tariff set in
force, the account of the demand interval, the session counters and segment, the second's record.
(DESIGN CHOICE, log 86) -/
def energyPart (s : State) (m start until_ : Nat) (inc : List Nat) : State :=
  let s := forEach (inc.zipIdx) (fun p s => s.wr R.MET_ENERGY_COUNT (10 * m + p.2) (s.rd R.MET_ENERGY_COUNT (10 * m + p.2) + p.1)) s
  let imp := inc.getD 0 0
  let exp := inc.getD 1 0
  let net := s.rd R.MET_ENERGY_COUNT (10 * m + 8)
  let s := s.wr R.MET_ENERGY_COUNT (10 * m + 8)
    (if s.flag R.MET_CFG_NET_MODE m then net + imp + exp else enc 64 (dec 64 net + imp - exp))
  let s := s.touAdd m (s.acct m).tariff (sixOf inc)
  let old := until_ - 70 * 10 ^ 9
  let s := s.modAcct m fun a =>
    let gone := a.recent.filter fun r => decide (r.1 ≤ old)
    { a with base := gone.foldl (fun b r => addCounts b ((sixOf r.2).take 4)) a.base,
             recent := (a.recent.filter fun r => decide (old < r.1)) ++ [(until_, inc)] }
  let e1 := (s.mp m).sessEnd1
  let inSess := (s.flag R.MET_SESS_OPEN m || s.flag R.MET_SESS_CLOSED_PENDING m) && decide (s.rd R.MET_SESS_T_OPEN m ≤ start)
    && (e1 == 0 || decide (until_ < e1))
  let s := if inSess then
      (s.wr R.MET_SESS_A_IMP m (s.rd R.MET_SESS_A_IMP m + imp)).wr R.MET_SESS_A_EXP m (s.rd R.MET_SESS_A_EXP m + exp) else s
  let s := forEach ((List.range 8).filter fun n =>
      let l := s.lsess n
      l.opened && l.mp == m && decide (l.tOpen ≤ start) && (!l.closing || decide (until_ ≤ l.tClose)))
    (fun n s => s.modLsess n fun l => { l with segs := segAdd l.segs start imp exp }) s
  let edge := s.secEdge
  s.modMp m fun p =>
    if until_ ≤ edge || edge ≤ p.recEdge then
      { p with secCur := addCounts p.secCur (sixOf inc), partEnd := until_ }
    else { p with secNext := addCounts p.secNext (sixOf inc), partEnd := until_ }

/-- The direction of a cycle's total active power against the reported one (R250). -/
def flowTrack (s : State) (m : Nat) (export_ : Bool) (start : Nat) : State :=
  let p := s.mp m
  if export_ == p.dirExport then s.modMp m fun p => { p with revCyc := 0 }
  else
    let n := p.revCyc + 1
    let at_ := if p.revCyc = 0 then start else p.revAt
    if s.rd R.MET_CFG_FLOW_CYC m ≤ n then
      (s.modMp m fun p => { p with dirExport := export_, revCyc := 0 }).raise Ev.MET_FLOW m [m, b2n export_, at_]
    else s.modMp m fun p => { p with revCyc := n, revAt := at_ }

/-! ### Boundary transactions -/

/-- Finish a sub-interval at a boundary for one meter point (R300, R301): the demand of the four quantities over the
window, the maxima of the tariff that was in force at its start, the registers and the event. The length of an interval
that was in progress at start counts from its nominal start (R306). (DESIGN CHOICE, log 87) -/
def demandClose (s : State) (m at_ wall flags : Nat) : State :=
  let a := s.acct m
  let before := a.recent.filter fun r => decide (r.1 ≤ at_)
  let after := a.recent.filter fun r => decide (at_ < r.1)
  let e := before.foldl (fun b r => addCounts b ((sixOf r.2).take 4)) a.base
  let len := if bit s.ledger.subFlags 5 && s.rtcValid then wall - s.ledger.subWall else (at_ - s.ledger.subStart) / 10 ^ 9
  let subs := ((e, len) :: a.subs).take s.subN
  let sum := subs.foldl (fun b x => addCounts b x.1) [0, 0, 0, 0]
  let span := max (subs.foldl (fun n x => n + x.2) 0) (60 * s.rd R.LEDGER_DEMAND_CFG_DEM_MIN)
  let d := sum.map fun x => divRound (3600 * x) (1000000 * max 1 span)
  let fl := flags ||| s.ledger.subFlags ||| (if len < s.subLen then 1 else 0) ||| (if s.subLen < len then 2 else 0)
    ||| (if s.rtcValid then 0 else 16)
  let s := s.modAcct m fun a => { a with base := [0, 0, 0, 0], recent := after, subs := subs }
  let s := forEach ([R.LEDGER_DEMAND_LAST_IMP_W, R.LEDGER_DEMAND_LAST_EXP_W, R.LEDGER_DEMAND_LAST_RIMP_VAR,
      R.LEDGER_DEMAND_LAST_REXP_VAR].zip d) (fun p s => s.wr p.1 m (min p.2 (2 ^ 32 - 1))) s
  let s := ((s.wr R.LEDGER_DEMAND_FLAGS m fl).wr R.LEDGER_DEMAND_CUR_IMP_WH m 0).wr R.LEDGER_DEMAND_ELAPSED_S m 0
  let s := forEach d.zipIdx (fun p s =>
    let key := 64 * m + 4 * a.tariff + p.2
    if (s.ledger.maxD.get (0, 0) key).1 < p.1 then
      { s with ledger := { s.ledger with maxD := s.ledger.maxD.put (0, 0) key (p.1, wall) } } else s) s
  let s := if s.rd R.LEDGER_DEMAND_MAX_IMP_W m < d.getD 0 0 then
      (s.wr R.LEDGER_DEMAND_MAX_IMP_W m (d.getD 0 0)).wr R.LEDGER_DEMAND_MAX_IMP_UTC m wall else s
  if s.flag R.MET_CFG_EN m then s.raise Ev.LEDGER_DEMAND m ([m, wall] ++ d ++ [fl]) else s

/-- Give a meter point its tariff at a boundary (R294, R313): increments after the boundary move to the new set, and
open sessions get a new segment. -/
def tariffGo (s : State) (m at_ tariff : Nat) : State :=
  let old := (s.acct m).tariff
  if old = tariff then s else
  let after := ((s.acct m).recent.filter fun r => decide (at_ < r.1)).foldl (fun b r => addCounts b r.2) []
  let s := (s.touSub m old (sixOf after)).touAdd m tariff (sixOf after)
  let s := s.modAcct m fun a => { a with tariff := tariff }
  forEach ((List.range 8).filter fun n => (s.lsess n).opened && (s.lsess n).mp == m && !(s.lsess n).closing) (fun n s =>
    s.modLsess n fun l =>
      let moved := ((s.acct m).recent.filter fun r => decide (max at_ l.tOpen < r.1)).foldl (fun b r => addCounts b r.2) []
      let l' := segNew l tariff at_
      if l'.segs.length = l.segs.length then l'
      else
        let i := l.segs.length - 1
        let segs := l'.segs.modify i fun g => { g with imp := g.imp - moved.getD 0 0, exp := g.exp - moved.getD 1 0 }
        { l' with segs := segs.modify (i + 1) fun g => { g with imp := moved.getD 0 0, exp := moved.getD 1 0 } }) s

/-- The billing data of a meter point at a boundary (R310): 16 sets of active import and export, the 8 counters, and
for each tariff the four maxima with their times. -/
def billData (s : State) (m at_ : Nat) : List Nat :=
  let after := ((s.acct m).recent.filter fun r => decide (at_ < r.1)).foldl (fun b r => addCounts b r.2) []
  let sub := fun (t k v : Nat) => if t = (s.acct m).tariff then v - after.getD k 0 else v
  (List.range 16).flatMap (fun t =>
    [sub t 0 (s.rd R.LEDGER_TOU_A_IMP (16 * m + t)), sub t 1 (s.rd R.LEDGER_TOU_A_EXP (16 * m + t))])
  ++ (s.counters m).zipIdx.map (fun p => p.1 - after.getD p.2 0)
  ++ (List.range 64).flatMap fun k =>
    let d := s.ledger.maxD.get (0, 0) (64 * m + k)
    [d.1, d.2]

/-- Close the billing period in progress (R309, R310): its set is kept with the 24 newest and appended as a record. -/
def billClose (s : State) (at_ wallMs_ cause flags : Nat) : State :=
  let led := if s.rtcValid then wallMs_ + s.ledger.offMs else s.ledger.ledgerHeld
  let ms := (List.range 12).filter fun m => s.flag R.MET_CFG_EN m
  let b : BillSet := ⟨s.ledger.billNo + 1, s.ledger.billStartL, s.ledger.billStartW, led, wallMs_, cause, flags,
    ms.map fun m => (m, s.billData m at_)⟩
  let s := { s with ledger := { s.ledger with
    billNo := s.ledger.billNo + 1, billStartL := led, billStartW := wallMs_, bills := (b :: s.ledger.bills).take 24, maxD := .empty } }
  let s := forEach (List.range 12) (fun m s => (s.wr R.LEDGER_DEMAND_MAX_IMP_W m 0).wr R.LEDGER_DEMAND_MAX_IMP_UTC m 0) s
  let s := s.wr R.LEDGER_STAT_BILL_SETS 0 s.ledger.bills.length
  s.append rBILLING 0xFF ([(4, b.no), (8, b.startL), (8, b.startW), (8, b.endL), (8, b.endW), (1, cause), (1, flags)]
    ++ b.data.flatMap fun d => (1, d.1) :: d.2.map fun v => (8, v))

/-- Carry out a boundary (R302, R304, R309): one transaction over every meter point. (DESIGN CHOICE, log 86) -/
def transaction (s : State) (b : Boundary) : State :=
  let s := { s with ledger := { s.ledger with bound := none } }
  let s := if bit b.kinds 3 then
      match s.ledger.pending with
      | some c =>
        let s := { s with ledger := { s.ledger with calendar := some c, pending := none } }
        s.append rCALENDAR 0xFF [(32, c.digest), (4, b.wall)]
      | none => s
    else s
  let s := forEach b.force (fun f s => forEach ((List.range 12).filter (bit f.1 ·)) (fun m s =>
    s.modAcct m fun a => { a with forced1 := if f.2.1 = 0xFF then 0 else f.2.1 + 1, price := f.2.2.1 }) s) s
  let old := (s.acct 0).tariff
  let changes := (List.range 12).filter fun m => s.tariffFor m b.wall != (s.acct m).tariff
  let ends := bit b.kinds 0 || bit b.kinds 2 || changes != []
  let s := if ends then forEach (List.range 12) (fun m s => s.demandClose m b.at_ b.wall b.flags) s else s
  let s := if bit b.kinds 2 then s.billClose b.at_ (1000 * b.wall) b.cause b.flags else s
  let s := forEach (List.range 12) (fun m s => s.tariffGo m b.at_ (s.tariffFor m b.wall)) s
  let s := if ends then { s with ledger := { s.ledger with
      subStart := b.at_, subWall := b.wall, subFlags := 0, lastClosed := max s.ledger.lastClosed b.wall } } else s
  let s := forEach b.force (fun f s => s.append rTARIFF 0xFF [(2, f.1), (1, f.2.1), (1, f.2.2.2), (4, f.2.2.1)]) s
  let s := if b.force = [] && changes != [] then
      s.append rTARIFF 0xFF [(2, changes.foldl (fun a m => a + 2 ^ m) 0), (1, (s.acct (changes.headD 0)).tariff), (1, 0), (4, 0)] else s
  let kinds := b.kinds ||| (if changes = [] then 0 else 2) ||| (if ends then 1 else 0)
  let s := s.raise Ev.LEDGER_BOUNDARY 0 [kinds, b.wall, old, (s.acct 0).tariff, b.flags]
  match b.ctx with
  | some x => s.complete x St.OK
  | none => s

/-- Two boundaries at one instant are one transaction (R304). -/
def mergeBounds (a b : Boundary) : Boundary :=
  { a with kinds := a.kinds ||| b.kinds, force := a.force ++ b.force, flags := a.flags ||| b.flags,
           cause := max a.cause b.cause, ctx := a.ctx.orElse fun _ => b.ctx }

/-- A boundary is reached: it waits for its transaction; one that still waits at another instant is written first. -/
def addBoundary (s : State) (b : Boundary) : State :=
  match s.ledger.bound with
  | none => { s with ledger := { s.ledger with bound := some b } }
  | some a =>
    if a.at_ = b.at_ then { s with ledger := { s.ledger with bound := some (mergeBounds a b) } }
    else
      let s := s.transaction a
      { s with ledger := { s.ledger with bound := some b } }

/-- Every sample before the waiting boundary is classified (R304). -/
def boundReady (s : State) (b : Boundary) : Bool :=
  decide (b.at_ ≤ s.mtb) && (List.range 12).all fun m => !s.unclassified m b.at_

/-- Force a tariff, or return to the calendar (R297): a boundary transaction at the instant, with the price for the
sessions of the meter points. -/
def tariffSelect (s : State) (mask tariff price src at_ : Nat) : State :=
  let s := forEach (List.range 8) (fun n s =>
    let l := s.lsess n
    if l.opened && bit mask l.mp then s.modLsess n fun l => { l with price := price } else s) s
  s.addBoundary ⟨at_, s.wallMsAt at_ / 1000, 0, [(mask, tariff, price, src)], 0, 0, none⟩

/-- The tariff selection of a Cask (source 2). -/
def tariffForce (s : State) (mask tariff price at_ : Nat) : State := s.tariffSelect mask tariff price 2 at_

/-! ### Setting the wall time -/

/-- Demand intervals and billing periods between two wall times close without energy (R306, R308), with a flag: 8 for
OUTAGE, 64 for CLOCK_SET. `cause` is the billing cause. Answers how many of each. (DESIGN CHOICE, log 97) -/
def closeBetween (s : State) (w0 w1 flag cause : Nat) (demand : Bool) : (Nat × Nat) × State :=
  let l0 := s.localOf w0
  let l1 := s.localOf w1
  let k := if demand then l1 / s.subLen - l0 / s.subLen else 0
  let day := s.rd R.LEDGER_BILL_CFG_BILL_DAY
  let hour := s.rd R.LEDGER_BILL_CFG_BILL_HOUR
  let b := if day = 0 then 0 else billIndex day hour l1 - billIndex day hour l0
  let s := forEach (List.range b) (fun _ s => s.billClose s.mtb (1000 * w1) cause flag) s
  let s := if 0 < k then forEach (List.range 12) (fun m s => (s.wr R.LEDGER_DEMAND_FLAGS m flag).modAcct m fun a => { a with subs := [] }) s
    else s
  let s := if 0 < k || 0 < b then s.raise Ev.LEDGER_OUTAGE_CLOSED 0 [w0 - w0 % s.subLen + s.subLen, w1 - w1 % s.subLen, k, b] else s
  ((k, b), s)

/-- Steps of the last 24 h that count toward the limit of unsigned sets (R292). -/
def stepsNow (s : State) : List (Nat × Nat) := s.ledger.steps.filter fun p => decide (s.mtb < p.1 + 86400 * 10 ^ 9)

/-- Set the wall time to `ms` (R292, R293, R307, R308); `src` is 0 host, 1 Trellis, 2 owner-signed. Answers false when
the unsigned step limit refuses it. -/
def timeSet (s : State) (ms src : Nat) : Bool × State :=
  let valid := s.rtcValid
  let old := s.wallMs
  let back := decide (ms < old)
  let step := (if back then old - ms else ms - old) / 1000
  let used := s.stepsNow.foldl (fun a p => a + p.2) 0
  let maxStep := s.rd R.LEDGER_CFG_TIME_STEP_MAX_S
  if valid && src != 2 && decide (maxStep < used + step) then (false, s) else
  let lastWall := s.ledger.lastClosed
  let s := if valid && src != 2 then { s with ledger := { s.ledger with steps := (s.mtb, step) :: s.stepsNow } } else s
  -- the sub-interval in progress ends at the set instant
  let s := match s.ledger.bound with
    | some b => s.transaction b
    | none => s
  let s := s.transaction ⟨s.mtb, old / 1000, 1, [], 0, if valid then 0 else 16, none⟩
  let s := s.setWall ms
  let s := if valid && back then { s with ledger := { s.ledger with subFlags := 64 } }
    else if valid then (s.closeBetween (old / 1000) (ms / 1000) 64 3 true).2
    else if lastWall = 0 then s else (s.closeBetween lastWall (ms / 1000) 8 2 false).2
  let s := { s with ledger := { s.ledger with
    subStart := s.mtb, subWall := ms / 1000,
    lastClosed := max s.ledger.lastClosed ((if valid && back then old else ms) / 1000) } }
  let s := forEach (List.range 12) (fun m s => s.tariffGo m s.mtb (s.tariffFor m (ms / 1000))) s
  let s := ((s.wr R.LEDGER_TIME_CLOCK_VALID 0 1).append rTIME_SET 0xFF
    [(1, src), (3, 0), (4, old / 1000), (4, ms / 1000), (4, s.ledgerMsAt s.mtb / 1000)])
  let s := s.raise Ev.LEDGER_TIME 0 [old / 1000, ms / 1000, src]
  let s := if valid && back then s.tamper tCLOCK_BACK (old / 1000 + 2 ^ 32 * (ms / 1000)) else s
  let s := if valid && !back && decide (maxStep < step) then s.tamper tCLOCK_FWD (old / 1000 + 2 ^ 32 * (ms / 1000)) else s
  (true, s)

/-! ### What the islands refuse (R72) -/

/-- Why MET_SESSION_OPEN is refused. -/
def metOpenBad (s : State) (m _sess : Nat) : Option Nat :=
  if 12 ≤ m then some St.BAD_PARAM else if !s.mpRuns m then some St.NOT_READY
  else if s.mpLive m then some St.SESSION_OPEN else none

/-- Why MET_SESSION_CLOSE is refused. -/
def metCloseBad (s : State) (m : Nat) : Option Nat :=
  if 12 ≤ m then some St.BAD_PARAM else if s.mpLive m then none else some St.NO_MP_SESSION

/-- Why no ledger session can open on an outlet with a meter point (R320, R544). -/
def recTaken (s : State) (n m : Nat) : Option Nat :=
  if (s.lsess n).opened then some St.LEDGER_SESSION_OPEN
  else if (match s.ledger.cal with | some c => bit c.mask m | none => false) then some St.CAL_MP else none

/-- Why a session-open record is refused (R320, R544). -/
def recOpenBad (s : State) (n m : Nat) : Option Nat :=
  if 8 ≤ n || 12 ≤ m then some St.BAD_PARAM
  else if !s.flag R.OUT_CFG_CTRL n then some St.NOT_HOST_CONTROL
  else s.recTaken n m

/-- Why a session-close record is refused (R544). -/
def recCloseBad (s : State) (n reason : Nat) : Option Nat :=
  if 8 ≤ n || reason = 0 || 21 < reason then some St.BAD_PARAM
  else if !s.flag R.OUT_CFG_CTRL n then some St.NOT_HOST_CONTROL
  else if (s.lsess n).opened && !(s.lsess n).closing then none else some St.NO_LEDGER_SESSION

/-- Why a tariff selection is refused (R297). -/
def tariffBad (s : State) (mask tariff : Nat) : Option Nat :=
  if !s.flag R.LEDGER_CFG_HOST_TARIFF then some St.HOST_TARIFF_OFF
  else if 4096 ≤ mask || (15 < tariff && tariff != 0xFF) then some St.BAD_PARAM else none

/-- Why a signed reading is refused. -/
def readBad (_s : State) (mask : Nat) : Option Nat := if mask = 0 || 4096 ≤ mask then some St.BAD_PARAM else none

/-- Numbers that an action of a Cask reserves (R281): one for a session record, one for each reading. -/
def numsOf : CaskAct → Nat
  | .recOpen .. => 1
  | .recClose .. => 1
  | .readSigned mask => popcount 12 mask
  | _ => 0

end State
end Sys2Proof.Machine
end

