-- ==== Sys2Proof/Machine/OwnTagOps.lean ====
section
/-! DEFINITION. The module's own tag (R403 to R407): blocks in two slots, areas and policies. -/

namespace Sys2Proof.Machine

/-- Slot 1 is current: it is valid, and slot 0 is not or precedes it by its 2-bit sequence (R406). -/
def OwnBlock.cur1 (b : OwnBlock) : Bool := b.ok1 && (!b.ok0 || decide (b.s1 % 4 = (b.s0 + 1) % 4))

/-- The value of a block. -/
def OwnBlock.value (b : OwnBlock) : Nat := if b.cur1 then b.v1 else b.v0

/-- Write a block's other slot; `whole` says that it verifies (R406). -/
def OwnBlock.write (b : OwnBlock) (v : Nat) (whole : Bool) : OwnBlock :=
  if b.cur1 then { b with v0 := v, s0 := (b.s1 + 1) % 4, ok0 := whole }
  else { b with v1 := v, s1 := (b.s0 + 1) % 4, ok1 := whole }

/-- A torn slot recovered at power-up: it takes the sequence before the current one's. -/
def OwnBlock.recover (b : OwnBlock) : OwnBlock :=
  if b.cur1 then { b with v0 := b.v1, s0 := (b.s1 + 3) % 4, ok0 := true }
  else { b with v1 := b.v0, s1 := (b.s0 + 3) % 4, ok1 := true }

/-- The areas of the own tag (table Own tag memory): 0 capability container, 1 NDEF, 2 host data, 3 mailbox, 4 status,
5 reserved. -/
def ownArea (b : Nat) : Nat :=
  if b < 2 then 0 else if b < 1024 then 1 else if b < 1536 then 2 else if b < 1792 then 3 else if b < 1856 then 4 else 5

namespace State

/-- A block of the own tag. (DESIGN CHOICE, log 150) -/
def ownBlock (s : State) (b : Nat) : OwnBlock := s.tag.blocks.get OwnBlock.init b

/-- Commit a block: the shadow takes it with the write (R406, R407). -/
def ownWrite (s : State) (b v : Nat) (whole : Bool) : State :=
  { s with tag := { s.tag with blocks := s.tag.blocks.upd OwnBlock.init b fun o => o.write (v % 2 ^ 32) whole } }

/-- The value of a block as the host and the field read it: reserved blocks read 0. -/
def ownValue (s : State) (b : Nat) : Nat := if ownArea b = 5 then 0 else (s.ownBlock b).value

/-- A field policy lets an access pass (R405): 0 none, 1 open, 2 password, 3 AES. -/
def ownPolicy (s : State) (p : Nat) : Bool :=
  match p with
  | 0 => false
  | 1 => true
  | 2 => s.tag.pwdOpen
  | _ => s.tag.aesOpen

/-- The field may read a block (R404, R405). -/
def fieldReads (s : State) (b : Nat) : Bool := if ownArea b = 2 then s.ownPolicy (s.rd R.TAG_OWN_CFG_HOST_RP) else true

/-- The field may write a block (R404, R405). -/
def fieldWrites (s : State) (b : Nat) : Bool :=
  match ownArea b with
  | 1 => s.ownPolicy (s.rd R.TAG_OWN_CFG_NDEF_WP)
  | 3 => s.ownPolicy (s.rd R.TAG_OWN_CFG_MBOX_WP)
  | _ => false

/-- Reply to the field. -/
def ownReply (s : State) (r : List Nat) : State := { s with tag := { s.tag with reply := r } }

/-- Close password and AES access (R405). -/
def ownClose (s : State) : State := { s with tag := { s.tag with pwdOpen := false, aesOpen := false } }

/-- Write an outlet's status area at a SESSION_STATE event (R404). -/
def ownStatus (s : State) (n : Nat) : State :=
  if !s.flag R.TAG_OWN_CFG_STATUS_EN then s else
  let o := s.outlet n
  let imp := if o.ledgerOpen then s.rd R.MET_SESS_A_IMP (s.rd R.OUT_CFG_MP n) / 1000000 else 0
  let ws := [n + 2 ^ 8 * o.st.code + 2 ^ 16 * s.rd R.OUT_STAT_END_REASON n, s.rd R.OUT_STAT_SESSION_ID n, imp, s.wallS,
    s.rd R.OUT_ALLOC_STAT_ALLOC_W n, 0, 0, 0]
  forEach ws.zipIdx (fun p s => s.ownWrite (1792 + 8 * n + p.2) p.1 true) s

/-- The own tag works on the field's power alone (R403): the module's time moves only while it is up. -/
def onField (s : State) (t : Nat) (f : State → State) : State :=
  let s := if s.core then s.advance t else s
  if s.flag R.TAG_OWN_CFG_EN then f s else s

end State
end Sys2Proof.Machine
end

