-- ==== Sys2Proof/Machine/CredOps.lean ====
section
/-! DEFINITION. The credential store: lookups in the delta log and the active copy (R377 to R380). -/

namespace Sys2Proof

/-- Two records have one key (R377): identity type with identity hash. -/
def CredRec.sameKey (a : CredRec) (kind hash : Nat) : Bool := a.kind == kind && a.hash == hash

/-- Records are in ascending key order: the first lies strictly before the second. -/
def CredRec.before (a b : CredRec) : Bool := decide (a.kind < b.kind) || (a.kind == b.kind && decide (a.hash < b.hash))

/-- The 64 bytes of a record (table Credential record). -/
def CredRec.bytes (r : CredRec) : List Nat :=
  open Machine in
  [r.kind, r.status, r.cls, r.flags] ++ leBytes 16 r.hash ++ leBytes 4 r.from_ ++ leBytes 4 r.until_ ++ [r.mask, r.tariff, 0, 0]
    ++ leBytes 4 r.price ++ leBytes 4 r.cardKey ++ leBytes 24 r.opRef

namespace Machine

/-- The answer of a lookup (R378): unknown, blocked, or the record with its credential index. -/
inductive CredAns where
  | unknown
  | blocked (idx : Nat) (r : CredRec)
  | ok (idx : Nat) (r : CredRec)
  deriving DecidableEq, Repr

/-- The records of a copy. -/
def KeySt.copy (k : KeySt) (c : Nat) : List CredRec := if c = 0 then k.credA else k.credB

/-- Replace the records of a copy. -/
def KeySt.setCopy (k : KeySt) (c : Nat) (rs : List CredRec) : KeySt :=
  if c = 0 then { k with credA := rs } else { k with credB := rs }

namespace State

/-- The active copy: 0 A, 1 B. -/
def credCopy (s : State) : Nat := s.rd R.KEY_CRED_STAT_ACTIVE_COPY

/-- The newest delta entry of a key with its slot. -/
def deltaOf (s : State) (kind hash : Nat) : Option (CredRec × Nat) :=
  s.key.deltas.zipIdx.reverse.find? fun p => p.1.sameKey kind hash

/-- The record of a key in the active copy with its position; a block whose tag failed is empty (R380). -/
def storedOf (s : State) (kind hash : Nat) : Option (CredRec × Nat) :=
  (s.key.copy s.credCopy).zipIdx.find? fun p =>
    p.1.sameKey kind hash && !s.key.badBlocks.contains (s.credCopy, p.2 / 64)

/-- The record of a key with its credential index (R378, R379): the delta log first; a deleted entry hides the copy. -/
def credRecord (s : State) (kind hash : Nat) : Option (CredRec × Nat) :=
  match s.deltaOf kind hash with
  | some (r, i) => if r.status = 2 then none else some (r, 0x40000 + i)
  | none => s.storedOf kind hash

/-- A record is blocked for an outlet now (R378). -/
def credBlocked (s : State) (r : CredRec) (n : Nat) : Bool :=
  r.status == 1 || !bit r.mask n
    || (if s.rtcValid then (r.from_ != 0 && decide (s.wallS < r.from_)) || (r.until_ != 0 && decide (r.until_ < s.wallS))
        else bit r.flags 0)

/-- A lookup (R378). (DESIGN CHOICE, log 60, 144) -/
def credLookup (s : State) (kind hash n : Nat) : CredAns :=
  match s.credRecord kind hash with
  | none => .unknown
  | some (r, i) => if s.credBlocked r n then .blocked i r else .ok i r

/-- Credentials can be looked up: the store key is held (R359). -/
def credUp (s : State) : Bool := s.keyMode == 2

end State

/-- The identity hash of an identity (R112, R377): the first 16 bytes of its SHA-256. -/
def identHash (ident : List Byte) : Nat := Config.hash (ident.map (·.toNat)) % 2 ^ 128

/-- An identity without a credential record (R112). -/
def Identity.plain (src kind hash : Nat) : Identity := ⟨src, kind, hash, 0, 0xFF, 0xFF, 0⟩

/-- The identity that a found record gives a session (R378, R379). -/
def Identity.ofRec (src : Nat) (idx : Nat) (r : CredRec) : Identity :=
  ⟨src, r.kind, r.hash, idx + 1, r.cls, r.tariff, r.price⟩

end Machine

end Sys2Proof
end

