-- ==== Sys2Proof/Machine/PlcOps.lean ====
section
/-! DEFINITION. The modems: blanked and erased symbols of a frame (R325 to R327), and how the pilot modems follow their outlets
(R329, R332). -/

namespace Sys2Proof.Machine

/-- Blank each sample marked and `ext` samples after it; `k` of them are still to come. -/
def blankAfter (ext : Nat) : Nat → List Bool → List Bool
  | _, [] => []
  | k, b :: r => (b || k != 0) :: blankAfter ext (if b then ext else k - 1) r

/-- Blank the marked samples with `ext` samples before and after each (R325). -/
def blankAround (ext : Nat) (marks : List Bool) : List Bool :=
  (blankAfter ext 0 marks).zipWith (· || ·) (blankAfter ext 0 marks.reverse).reverse

/-- The contiguous runs of blanked samples (R325); `prev` says whether the sample before is blanked. -/
def runsOf : Bool → List Bool → Nat
  | _, [] => 0
  | prev, b :: r => b2n (b && !prev) + runsOf b r

/-- A list cut into pieces of given lengths. -/
def cutBy {α : Type} : List Nat → List α → List (List α)
  | [], _ => []
  | n :: ns, l => l.take n :: cutBy ns (l.drop n)

namespace State

/-- The samples of a frame that lie within 2 µs of a PWM edge the module drives, by their MTB positions (R93, R327): sample `j`
is taken 40/3 ns times `j` after the first. Times are in 1/3 ns. -/
def edgeBlanked (s : State) (i first len : Nat) : List Bool :=
  match (s.outlet i).out with
  | .pwm duty => (List.range len).map fun j =>
      let ph := (3 * first + 40 * j) % 3000000
      let near := fun (e : Nat) => decide (ph ≤ e + 6000) && decide (e ≤ ph + 6000)
      decide (i < 8) && s.flag R.PLC_CFG_EDGE_BLANK i && (near 0 || near (3000 * duty) || near 3000000)
  | _ => List.replicate len false

/-- What blanking makes of a frame's symbols (R325 to R327): impulses, symbols with blanked samples, erased symbols. Samples at
PWM edges are blanked and do not count toward the erasure threshold. (DEDUCED, log 256) -/
def blankFrame (s : State) (i first : Nat) (syms : List (List Int)) : Nat × Nat × Nat :=
  let xs := syms.flatten
  let thr : Int := s.rd R.PLC_CFG_BLANK_THR i
  let hits := xs.map fun v => over12 v || decide (thr ≤ ((code12 v).natAbs : Int))
  let noise := blankAround (4 * s.rd R.PLC_CFG_BLANK_EXT i) hits
  let edge := s.edgeBlanked i first xs.length
  let all := noise.zipWith (· || ·) edge
  let lens := syms.map (·.length)
  let counted := cutBy lens (noise.zipWith (fun a b => a && !b) edge)
  (runsOf false all, (cutBy lens all).countP (fun b => b.any id),
    counted.countP fun b => decide (s.rd R.PLC_CFG_ERASE_PCT i * b.length < 100 * b.countP id))

/-- A high-level protocol is enabled on the outlet (DIN SPEC 70121 on DC only). -/
def hlcEnabled (s : State) (n : Nat) : Bool :=
  s.flag R.OUT_CFG_ISO2_EN n || s.flag R.OUT_CFG_ISO20_EN n || (s.isDc n && s.flag R.OUT_CFG_DIN_EN n)

/-- The link state of a pilot modem (table Pilot link states). -/
def plcLink (s : State) (n : Nat) : Nat :=
  let st := (s.outlet n).st.code
  if !(decide (1 ≤ st) && decide (st ≤ 7) && s.hlcEnabled n) || !s.flag R.GLOBAL_ISLAND_STAT_READY (6 + n / 4) then 0
  else if (s.outlet n).hlcRunning then 3
  else if s.out.slac.any fun r => r.pilots.contains n then 2 else 1

/-- A modem runs or stops, and its pipeline converter with it; a capture keeps the converter on (R192, R193, R324). -/
def modemOn (s : State) (i : Nat) (on : Bool) : State :=
  (s.setFlag R.PLC_CFG_EN i on).setFlag R.AFE_PADC_EN i (on || (s.afe.caps.get Capture.off i).on)

/-- A pilot modem runs with its outlet, and a change of its link state raises PLC_LINK (R329, R332). -/
def plcFollow (s : State) (n : Nat) : State :=
  let old := s.rd R.PLC_STAT_LINK n
  let new := s.plcLink n
  let s := s.modemOn n (new != 0)
  if old = new then s else (s.wr R.PLC_STAT_LINK n new).raise Ev.PLC_LINK n [n, old, new]

/-- Every pilot modem follows. -/
def plcFollowAll (s : State) : State := forEach (List.range 8) (fun n s => s.plcFollow n) s

end State
end Sys2Proof.Machine
end

