-- ==== Sys2Proof/Machine/TwinBase.lean ====
section
/-! DEFINITION. What the blocks ask of the update engine and of the twin: the images in the slots, and the forwarding of
stop-class commands. -/

namespace Sys2Proof.Machine
namespace State

/-- The manifest of the image in a slot; none for the image of manufacture. (DESIGN CHOICE, log 177) -/
def slotMan (s : State) (k : Nat) : Option TamecMan := s.upd.slots.get none k

/-- Generation of the image in a slot. The image of manufacture has generation 0 (its UPD.BOOT fields at delivery). -/
def slotGen (s : State) (k : Nat) : Nat := ((s.slotMan k).map (·.gen)).getD 0

/-- SHA-256 of part `p` (0 CTRL_FW to 5 EPD_WAVE) of the image in a slot. -/
def slotPart (s : State) (k p : Nat) : Nat :=
  match s.slotMan k with
  | some m => m.parts.getD p 0
  | none => Config.factory (3 + p)

/-- The active slot. -/
def activeSlot (s : State) : Nat := s.rd R.UPD_BOOT_ACTIVE_SLOT

/-- The check values of the six parts of the running image. (DESIGN CHOICE, log 177) -/
def partDigests (s : State) : List Nat := (List.range 6).map fun p => s.slotPart s.activeSlot p

/-- The generation of the running image. -/
def tamecGen (s : State) : Nat := s.rd R.UPD_BOOT_ACTIVE_GEN

/-- The image that Trellis serves (R349): manifest SHA-256, blocks, generation. -/
def servedImage (s : State) : Option (Nat × Nat × Nat) :=
  match s.slotMan s.activeSlot with
  | some m => some (m.digest, m.total, s.tamecGen)
  | none => some (Config.factory 2, Config.factory 9, s.tamecGen)

/-- The content of a block of a slot (R460): as programmed, else that of manufacture in slot A; an erased block reads all
ones. (DESIGN CHOICE, log 255) -/
def slotBlock (s : State) (k b : Nat) : List Nat :=
  match s.upd.flash.get [] (16384 * k + b) with
  | [] => (List.range 4096).map fun i => if k = 0 then Config.factoryBlock b i % 256 else 255
  | bs => bs

/-- The bytes of blocks of a slot in a row. -/
def slotBytes (s : State) (k b n : Nat) : List Nat := (List.range n).flatMap fun i => s.slotBlock k (b + i)

/-- Forward a stop-class command over the TWIN link (R487): it completes with the active module's status. Without the
link there is none, and it completes TWIN_RESERVE. (DESIGN CHOICE, log 182) -/
def forwardStop (s : State) (x : Ctx) (op mask peer : Nat) : State :=
  if s.flag R.TWIN_LINK_UP then
    ({ s with twin := { s.twin with forwards := s.twin.forwards ++ [(op, mask)] } } : State).complete x peer
  else s.complete x St.TWIN_RESERVE

end State
end Sys2Proof.Machine
end

