-- ==== Sys2Proof/Machine/CaskOps.lean ====
section
/-! DEFINITION. The commit path of Casks and of the outlets' close contexts (R74 to R83): consent, the instant T, the
commit record, the application of the actions. -/

namespace Sys2Proof.Machine
namespace State

/-- The pilot output of a duty parameter: units of 0.1 %, 0xFFFF for +12 V, 0xFFFE for state F. -/
def dutyOut (d : Nat) : PilotOut := if d = 0xFFFF then .plus12 else if d = 0xFFFE then .stateF else .pwm d

/-- A duty parameter is refused (R94): not 5 %, 10 % to 96 %, +12 V or state F. -/
def dutyBad (d : Nat) : Bool := !(d == 50 || (decide (100 ≤ d) && decide (d ≤ 960)) || d == 0xFFFF || d == 0xFFFE)

/-- A set-point parameter is refused (R86, R119): values that its fields do not hold, and discharge where BIDIR is 0.
(DESIGN CHOICE, log 261) -/
def setBad (s : State) (n mode volts amps watts : Nat) : Bool :=
  4 ≤ mode || 65536 ≤ volts || 65536 ≤ amps || 65536 ≤ watts || (mode == 2 && !s.flag R.OUT_CFG_BIDIR n)

/-- The current a pilot output offers per phase in mA, the inverse of R94: 5 %, constant +12 V and state F offer
none (R74). -/
def offeredMa : PilotOut → Nat
  | .pwm d => if d < 100 then 0 else if d ≤ 850 then 60 * d else 250 * (d - 640)
  | _ => 0

/-- An action needs the consent of channel A (R74): a contactor close, a raise of the offered current, a set-point
that starts transfer or raises a limit, against what is in force now. (DESIGN CHOICE, log 42) -/
def needsConsent (s : State) : CaskAct → Bool
  | .contactor _ close => close
  | .pilotDuty n d => decide (offeredMa (s.outlet n).out < offeredMa (dutyOut d))
  | .pmSetpoint n mode _ amps watts =>
    let p := (s.outlet n).setPoint
    ((p.mode == 0 || p.mode == 3) && (mode == 1 || mode == 2)) || decide (p.deciamps < amps) || decide (p.decawatts < watts)
  | _ => false

/-- The mask of the actions that need consent, judged at prepare (R74). -/
def needsMask (s : State) (acts : List CaskAct) : Nat :=
  (acts.zipIdx.filter fun p => s.needsConsent p.1).foldl (fun m p => setBit m p.2) 0

/-- Why channel A refuses an action that needs its consent, if it does (R74, R132). -/
def actRefused (s : State) (needs : Bool) (a : CaskAct) : Option (Nat × Nat) :=
  if !needs then none else
  match actOutlet a with
  | none => none
  | some n => (s.consentReason n (!s.closed n)).map fun r => (n, r)

/-- Why channel A refuses an action taken now, outside a Cask (R74, R88, R132). (DESIGN CHOICE, log 29) -/
def refusedNow (s : State) (a : CaskAct) : Option (Nat × Nat) := s.actRefused (s.needsConsent a) a

/-- The first action of a slot that channel A refuses: its index, its outlet and the reason. -/
def slotRefused (s : State) (c : CaskSlot) : Option (Nat × Nat × Nat) :=
  c.acts.zipIdx.findSome? fun p => (s.actRefused (bit c.needs p.2) p.1).map fun r => (p.2, r)

/-- Why an island refuses an action when it validates it (R72): the status its own command would complete with. `own` says
that the outlet controller asks, in its close context (R99): no rule of host control stands against it. -/
def actInvalid (s : State) (own : Bool) : CaskAct → Option Nat
  | .contactor n _ => if 8 ≤ n then some St.BAD_PARAM else if own || s.hostControlled n then none else some St.OUT_AUTO
  | .pilotDuty n d =>
    if 8 ≤ n || dutyBad d then some St.BAD_PARAM else if s.hostControlled n then none else some St.OUT_AUTO
  | .pmSetpoint n mode v a w =>
    if 8 ≤ n || s.setBad n mode v a w then some St.BAD_PARAM
    else if s.hostControlled n then none else some St.OUT_AUTO
  | .metOpen m sess => s.metOpenBad m sess
  | .metClose m => s.metCloseBad m
  | .recOpen n m _ _ _ => if own then s.recTaken n m else s.recOpenBad n m
  | .recClose n _ reason => s.recCloseBad n reason
  | .readSigned mask => s.readBad mask
  | .tariff mask t _ => if own then none else s.tariffBad mask t
  | .dispUpdate x y w h mode => s.dispBad x y w h mode

/-- The first action of a slot that an island refuses, or that another Cask holds, with the status (R72, R73). Of two Casks
that prepare at once on one resource, each is held by the other, so the one validated first aborts CONFLICT.
(DESIGN CHOICE, log 213) -/
def invalidAct (s : State) (k : Nat) (own : Bool) : Option (Nat × Nat × Nat) :=
  (s.slot k).acts.zipIdx.findSome? fun p =>
    match s.actInvalid own p.1 with
    | some _ => some (St.VALIDATE_FAIL, p.2, actIsland p.1)
    | none => match s.heldBy k p.1 with
      | some j => some (St.CONFLICT + 2 ^ 32 * (s.slot j).id, p.2, actIsland p.1)
      | none => none

/-- A residual-current self-test of an outlet that the slot closes still runs, so that consent waits for it (R159).
(DESIGN CHOICE, log 29) -/
def consentWaits (s : State) (c : CaskSlot) : Bool :=
  c.acts.any fun a => match a with
    | .contactor n true => (s.os n).testing
    | _ => false

/-- Before every close channel B tests the outlet's sensor (R159): those of the contactors that actions close.
(DESIGN CHOICE, log 231) -/
def testCloses (s : State) (acts : List CaskAct) : State :=
  forEach acts (fun a s => match a with
    | .contactor n true => s.testSensor n
    | _ => s) s

/-- Channel A's consent for a slot in its check window (R74, R75, R132): a refusal raises CONSENT_REFUSED and aborts;
a Cask that has consent and is not yet recorded loses it, and aborts ABORT_SAFETY, when a condition fails.
(DESIGN CHOICE, log 29) -/
def consentCheck (s : State) (k : Nat) : State :=
  let c := s.slot k
  let given := (c.st == .preparing && c.consent) || c.st == .prepared || c.st == .armed
  match s.slotRefused c with
  | some (i, n, r) =>
    if given then s.abortCask k St.ABORT_SAFETY i 2
    else if c.st != .preparing || s.consentWaits c then s
    else (s.raise Ev.CONSENT_REFUSED n [n, r]).abortCask k St.CONSENT_REFUSED i 2
  | none =>
    if c.st != .preparing || c.consent || s.consentWaits c then s else s.setSlot k { c with consent := true }

/-- LEAD_US in ns: values below 20 act as 20 (table CASK.CFG). -/
def leadNs (s : State) : Nat := 1000 * max 20 (s.rd R.CASK_CFG_LEAD_US)

/-- The instant of a ZERO_CROSS commit (R77): the first predicted L1 crossing of meter point `m` at least `lead`
after now, plus the offset, with T itself at least `lead` after now; none while the tracker is not LOCKED. -/
def crossing (s : State) (m : Nat) (lead : Nat) (off : Int) : Option Nat :=
  let per := s.rd R.FILT_TRK_PER_PERIOD_NS m
  if s.rd R.FILT_TRK_STAT_STATE m != 2 || per = 0 then none else
  let step := if s.flag R.CASK_CFG_ZC_EDGE then per / 2 else per
  let next := s.rd R.FILT_TRK_NEXT_START m
  let need : Int := (s.mtb + lead : Nat) + max 0 (-off)
  -- the crossing after the next predicted one that first reaches what is needed
  let j := if (next : Int) < need then ((need - next).toNat + step - 1) / step else 0
  let back := if (next : Int) ≥ need then (next - need.toNat) / step else 0
  let c := next + j * step - back * step
  some ((c : Int) + off).toNat

/-- Arm a prepared slot with its instant (R72, R80, R81): T goes to the participants, and those that run acknowledge it.
(DESIGN CHOICE, log 212) -/
def arm (s : State) (k mode tApply : Nat) (x : Option Ctx) : State :=
  s.modSlot k fun c => { c with
    st := .armed, mode := mode, tApply := tApply, since := s.mtb, ctx := x,
    acked := (participants c.acts).filter fun i => s.flag R.GLOBAL_ISLAND_STAT_READY i }

/-- Every participant has acknowledged T (R80). -/
def allAcked (s : State) (k : Nat) : Bool :=
  (participants (s.slot k).acts).all fun i => (s.slot k).acked.contains i

/-- Actions as numbers, for the digest of the commit record. -/
def actWords : CaskAct → List Nat
  | .contactor n c => [0, n, b2n c]
  | .pilotDuty n d => [1, n, d]
  | .pmSetpoint n m v a w => [2, n, m, v, a, w]
  | .metOpen m i => [3, m, i]
  | .metClose m => [4, m]
  | .recOpen n m k i p => [5, n, m, k, p] ++ i.map (·.toNat)
  | .recClose n m r => [6, n, m, r]
  | .readSigned m => [7, m]
  | .tariff m t p => [8, m, t, p]
  | .dispUpdate x y w h m => [9, x, y, w, h, m]

/-- Numbers that the actions of a slot reserve (R281). (DESIGN CHOICE, log 47) -/
def slotNums (s : State) (k : Nat) : Nat := (s.slot k).acts.foldl (fun n a => n + numsOf a) 0

/-- Write the commit record (R80): the Cask is RECORDED when it is whole, with its ledger numbers reserved (R281), and
aborts RECORD_FAIL when it is not. (DEDUCED, log 46) -/
def writeRecord (s : State) (k : Nat) (whole : Bool) : State :=
  let c := s.slot k
  let dseq := match c.ctx with
    | some x => ((s.histOf x.ring x.seq).map (·.dseq)).getD 0
    | none => 0
  let n := s.slotNums k
  let (first, s) := if whole then s.reserveNums n else (0, s)
  let r : CommitRec := ⟨c.id, k, c.mode, c.acts.length, false, false, dseq, c.tApply,
    s.rd R.HOST_SYNC_GLOBAL_EPOCH, 0, Config.hash (c.acts.flatMap actWords), if n = 0 then 0 else first, whole⟩
  let s := { s with cask := { s.cask with records := (r :: s.cask.records).take 256 } }
  if whole then s.modSlot k fun c => { c with st := .recorded, since := s.mtb }
  else s.abortCask k St.RECORD_FAIL 0xFF 9

/-- Apply one action at the instant T (R81, R83). `low` says that channel B refuses the low side.
(DESIGN CHOICE, log 44, 49) -/
def applyAct (s : State) (k i tApply : Nat) (low : Bool) (a : CaskAct) : State :=
  match a with
  | .contactor n true =>
    if bit (s.slot k).held i then s else
    let (s, held) := s.applyClose n low
    let s := forEach (s.coilsOf n) (fun j s => if (s.coil j).waiting then
      s.modCoil j fun c => { c with owed := some ((s.slot k).id, closeOutlet k) } else s) s
    if held then s.modSlot k fun c => { c with held := setBit c.held i } else s
  | .contactor n false => s.openOutlet n 0
  | .pilotDuty n d => s.modOutlet n fun o => { o with outNext := some (dutyOut d) }
  | .pmSetpoint n m v a w => s.modOutlet n fun o => { o with setPoint := ⟨m, v, a, w⟩ }
  | .metOpen m sess => s.metOpen m sess tApply
  | .metClose m => s.metClose m tApply
  | .recOpen n m kind ident price =>
    let id : Identity := match ident, (s.outlet n).ident with
      | [], some own => own
      | _, _ => Identity.plain 2 kind (identHash ident)
    s.recOpen n m id price tApply
  | .recClose n _ reason => s.recClose n reason tApply
  | .readSigned mask => (s.readSigned mask tApply).2
  | .tariff mask tariff price => s.tariffForce mask tariff price tApply
  | .dispUpdate x y w h mode => s.dispStart x y w h mode none

/-- The durable actions (R83). -/
def durable : CaskAct → Bool
  | .metOpen .. => true
  | .metClose _ => true
  | .recOpen .. => true
  | .recClose .. => true
  | .readSigned _ => true
  | .tariff .. => true
  | _ => false

/-- Mark the commit record of a slot. -/
def markRecord (s : State) (k : Nat) (early held : Bool) (mask : Nat) : State :=
  let upd := fun (r : CommitRec) => { r with appliedEarly := early, safetyHeld := held, held := mask }
  let rec go : List CommitRec → List CommitRec
    | [] => []
    | r :: rs => if r.slot = k then upd r :: rs else r :: go rs
  { s with cask := { s.cask with records := go s.cask.records } }

/-- The Cask becomes DONE (R72, R76, R83): its final status goes to its commit command with CASK_DONE; the record keeps
APPLIED_EARLY. -/
def caskDone (s : State) (k : Nat) : State :=
  let c := s.slot k
  let early := c.appliedEarly
  let heldAny := c.held != 0
  let status := if heldAny then St.COMMITTED_SAFETY_HELD else St.OK
  let s := (s.markRecord k early heldAny c.held).incSat R.CASK_STAT_COMMITTED 0
  let s := s.raise Ev.CASK_DONE 0 [c.id, closeOutlet k, status, c.tApply, b2n early + 2 * b2n heldAny, c.held]
  (s.finaliseOpt c.ctx status).freeSlot k status

/-- The numbers reserved for a recorded slot, in order. -/
def slotReserved (s : State) (k : Nat) : List Nat :=
  let first := ((s.cask.records.find? fun r => r.slot == k).map (·.ledgerSeq)).getD 0
  (List.range (s.slotNums k)).map (first + ·)

/-- Give the reserved numbers to the actions that apply now. -/
def useNums (s : State) (ns : List Nat) : State := { s with ledger := { s.ledger with useNums := ns } }

/-- Apply every action of a recorded slot at T, in order; those applied early (R83) are not applied again. -/
def applySlot (s : State) (k : Nat) (low : Bool) : State :=
  let c := s.slot k
  let acts := c.acts.zipIdx.filter fun p => !(c.appliedEarly && durable p.1)
  let s := if c.appliedEarly then s else s.useNums (s.slotReserved k)
  (forEach acts (fun p s => s.applyAct k p.2 c.tApply low p.1) s).useNums []

/-- Apply the durable actions of a recorded slot early (R83). -/
def applyEarly (s : State) (k : Nat) : State :=
  let c := s.slot k
  let s := s.useNums (s.slotReserved k)
  let s := (forEach (c.acts.zipIdx.filter fun p => durable p.1) (fun p s => s.applyAct k p.2 s.mtb false p.1) s).useNums []
  s.modSlot k fun c => { c with appliedEarly := true }

/-- Count and report participants that applied later than T + 2 µs (R81, R82). -/
def lateApplies (s : State) (k : Nat) (applied : List (Nat × Nat)) : State :=
  let c := s.slot k
  forEach (applied.filter fun p => (participants c.acts).contains p.1 && decide (c.tApply + 2000 < p.2)) (fun p s =>
    (s.incSat R.CASK_STAT_LATE 0).raise Ev.CASK_LATE 0 [c.id, closeOutlet k, p.1, p.2]) s

end State
end Sys2Proof.Machine
end

