-- ==== Sys2Proof/Machine/SessionOps.lean ====
section
/-! DEFINITION. The session machine of the outlets (R98 to R100), authorisation (R112 to R115), and the allocator
(R122 to R129). Power is in W. -/

namespace Sys2Proof.Machine

/-- A live session: states CONNECTED to STOPPING. -/
def SessState.live (x : SessState) : Bool := decide (1 ≤ x.code) && decide (x.code ≤ 7)

/-- The end reasons (table End reasons). -/
abbrev eEV_STOP : Nat := 1
abbrev eUSER_STOP : Nat := 2
abbrev eHOST_STOP : Nat := 3
abbrev eHOST_EREM : Nat := 4
abbrev eUNPLUGGED : Nat := 5
abbrev eNO_AUTH : Nat := 6
abbrev eAUTH_FAIL : Nat := 7
abbrev eALLOC_REFUSED : Nat := 8
abbrev eSLAC_FAIL : Nat := 9
abbrev eHLC_ERROR : Nat := 10
abbrev eTLS_FAIL : Nat := 11
abbrev eCABLE_EOL : Nat := 12
abbrev eCABLE_TAG_MISSING : Nat := 13
abbrev ePILOT_FAULT : Nat := 14
abbrev eSAFETY_REFUSED : Nat := 15
abbrev eSAFETY_TRIP : Nat := 16
abbrev eOVERCURRENT : Nat := 17
abbrev ePM_LOST : Nat := 18
abbrev eDISABLED : Nat := 19
abbrev ePOWER_LOSS : Nat := 20
abbrev eHOST_OOS : Nat := 21

namespace State

/-- Enter a session state (R98): the change raises SESSION_STATE, writes the own tag's status area (R404) and starts
or stops the pilot modem (R329). -/
def setSess (s : State) (n : Nat) (new : SessState) (reason flags : Nat) : State :=
  let o := s.outlet n
  let s := s.modOutlet n fun o => { o with st := new, endReason := if reason = 0 then o.endReason else reason }
  let s := if reason = 0 then s else s.wr R.OUT_STAT_END_REASON n reason
  let s := s.raise Ev.SESSION_STATE n [n, s.rd R.OUT_STAT_SESSION_ID n, o.st.code, new.code, reason, flags]
  ((s.noteCounts n).ownStatus n).plcFollow n

/-- Put a pilot output in force for the next period, where that is not already so (R93). -/
def offer (s : State) (n : Nat) (p : PilotOut) : State :=
  if (s.outlet n).out == p && (s.outlet n).outNext == none && (s.outlet n).outStaged == none then s else s.stagePilot n p

/-- The time of a pause that ends counts (R128). -/
def leavePause (s : State) (n : Nat) : State :=
  if (s.outlet n).st == .paused then
    (s.modOutlet n fun o => { o with pausedTotal := o.pausedTotal + (s.mtb - o.pausedAt), pausedAt := s.mtb }).noteCounts n
  else s

/-- The session is over: its ledger session closes (R98), SESSION_END is raised, the allocation is given back, the
cable tag is updated (R400) and no energy is offered. -/
def sessionOver (s : State) (n reason : Nat) : State :=
  let s := s.leavePause n
  let o := s.outlet n
  let wh := s.sessWh n
  let s := if o.ledgerOpen then s.recClose n reason s.mtb else s
  let s := s.raise Ev.SESSION_END n [n, s.rd R.OUT_STAT_SESSION_ID n, reason, wh, (s.mtb - o.startAt) / 10 ^ 9,
    (o.ident.map (·.src)).getD 0]
  let s := s.cableEnd n (if o.ledgerOpen then wh else 0)
  let s := forEach [R.OUT_ALLOC_STAT_ALLOC_W, R.OUT_ALLOC_STAT_ENF_W, R.OUT_ALLOC_STAT_QUEUE_POS, R.OUT_STAT_DIR] (fun F s => s.wr F n 0) s
  let s := s.modOutlet n fun o => { o with
    ledgerOpen := false, authDue := none, hlcRunning := false, discovered := false, wantsEnergy := false,
    offered := false, granted := false, grantable := false, queueNo := none, followCap := none, enfSteps := [],
    evseDa := 0, evseW := 0, dcRamp := none, allocLater := none, pauseOpenDue := none, slacRetryDue := none, cableCheck := none, certAsked := false }
  s.pmOff n

/-- End a session in ENDED (R98): contactors open, the pilot back to constant +12 V. -/
def endSession (s : State) (n reason : Nat) : State :=
  let s := s.sessionOver n reason
  (s.setSess n .ended reason 0).offer n .plus12

/-- A session is CLOSING and its close context is RECORDED, so that the context still commits (R76). -/
def closeRecorded (s : State) (n : Nat) : Bool := (s.outlet n).st == .closing && (s.slot (8 + n)).st == .recorded

/-- The end of a session waits for its recorded close to commit; the first reason stands (R76, R98, R100).
(DEDUCED, log 194) -/
def waitEnd (s : State) (n reason : Nat) : State :=
  s.modOutlet n fun o => { o with endReason := if o.endReason = 0 then reason else o.endReason }

/-- End a session, after the commit of its close where that is recorded (R76, R98). (DEDUCED, log 194) -/
def endOrWait (s : State) (n reason : Nat) : State :=
  if s.closeRecorded n then s.waitEnd n reason else s.endSession n reason

/-- Send a session to FAULT (R98, R169): energy is removed and the outlet is in its safe state.
(DEDUCED, log 194) -/
def faultSession (s : State) (n reason : Nat) : State :=
  let wait := s.closeRecorded n
  let s := if (s.outlet n).st.live && !wait then s.sessionOver n reason else s
  let s := if (s.os n).safeSince.isNone then s.outletSafe n reason else s.erem n reason
  if wait then s.waitEnd n reason else s.setSess n .fault reason 0

/-- The end reasons that lead to FAULT (R98). -/
def endsInFault (reason : Nat) : Bool :=
  [eHOST_EREM, ePILOT_FAULT, eSAFETY_TRIP, eOVERCURRENT, ePM_LOST].contains reason

/-- The end reason of a session that a fault ends (R92, R166, R168, R171). -/
def faultReason (active : Nat) : Nat :=
  if bit active fPILOT_E then ePILOT_FAULT else if bit active fOVERCURRENT then eOVERCURRENT else eSAFETY_TRIP

/-- A live session whose outlet a fault has brought into its safe state goes to FAULT (R98, R100): a safety opening
overrides every state, unless the pilot has already reached A. A fault that stood before the session, with the pilot
back at +12 V (R169), only refuses its close (R132, R159). (DEDUCED, log 193) -/
def reactSafety (s : State) (n : Nat) : State :=
  let o := s.outlet n
  if o.st.live && s.faulted n && (s.os n).safeSince.isSome then
    if o.pilot == .a then s.endOrWait n eUNPLUGGED else s.faultSession n (faultReason (s.os n).active)
  else s

/-- The allocation reaches the outlet's minimum. -/
def minW (s : State) (n : Nat) : Nat :=
  if s.isDc n then 100 * s.rd R.OUT_CFG_DC_MIN n
  else 6 * s.phasesNow n * s.vnom

/-- A session's cap (R123): the lowest of the outlet rating, the cable limit, the vehicle's maximum, MAX, the live
power modules' ratings, and the cap of a follower (R127). -/
def capW (s : State) (n : Nat) : Nat :=
  let o := s.outlet n
  let rating := if s.isDc n then s.rd R.OUT_DC_CFG_VMAX n * s.rd R.OUT_DC_CFG_IMAX n
    else s.rd R.OUT_CFG_RATED_A n * s.phasesNow n * s.vnom
  let cable := if s.isDc n then s.cableLimit n * s.rd R.OUT_DC_CFG_VMAX n else s.cableLimit n * s.phasesNow n * s.vnom
  let c := min rating cable
  let c := if o.vehicleMaxW = 0 then c else min c o.vehicleMaxW
  let c := if s.rd R.OUT_CFG_MAX n = 0 then c else min c (100 * s.rd R.OUT_CFG_MAX n)
  let c := if s.isDc n then min c ((o.pms.filter fun p => !p.lost).foldl (fun a p => a + p.ratedW) 0) else c
  min c (o.followCap.getD c)

/-- The duty that offers a power on an AC outlet (R94): constant +12 V below 6 A, at most 96.0 %. -/
def dutyFor (s : State) (n watts : Nat) : PilotOut :=
  let u := s.phasesNow n * s.vnom
  if watts < 6 * u || u = 0 then .plus12
  else if watts ≤ 51 * u then .pwm (100 * watts / (6 * u))
  else .pwm (min 960 (4 * watts / u + 640))

/-- The power-module set-point that is staged, or else the one in force. -/
def setNow (s : State) (n : Nat) : SetPoint := (s.outlet n).setStaged.getD (s.outlet n).setPoint

/-- Bring the current limit of a DC outlet to a value (R125): a reduction ramps over DC_RAMP, anything else is staged at
once. `off` puts the modules in mode 0 when it is there. (DEDUCED, log 222) -/
def dcTo (s : State) (n da dw : Nat) (off : Bool) : State :=
  let p := s.setNow n
  if da < p.deciamps && p.mode != 0 then
    s.modOutlet n fun o => { o with dcRamp := some ⟨s.mtb, 10 ^ 8 * s.rd R.OUT_POLICY_DC_RAMP, p.deciamps, da, dw, off⟩ }
  else
    (s.modOutlet n fun o => { o with dcRamp := none }).stageSet n
      { p with deciamps := da, decawatts := dw, mode := if off then 0 else p.mode }

/-- The current limit of a ramp at an instant. -/
def rampAt (r : DcRamp) (now : Nat) : Nat :=
  if r.start + r.dur ≤ now || r.dur = 0 then r.i1
  else (r.i0 * (r.dur - (now - r.start)) + r.i1 * (now - r.start)) / r.dur

/-- Offer an allocation to the vehicle (R94, R121, R125): the limits of a high-level protocol, a duty in basic charging,
5 % under a high-level protocol, a current and power limit on DC. A discharging session has no minimum (R129), and an
invalid proximity offers nothing (R96, R97). (DESIGN CHOICE, log 56) -/
def offerW (s : State) (n watts : Nat) : State :=
  let bad := (s.outlet n).ppInvalid
  let reach := decide (s.minW n ≤ watts) || (s.flag R.OUT_STAT_DIR n && watts != 0)
  let watts := if bad then 0 else watts
  let da := if s.isDc n then s.dcLimit n watts else 10 * watts / max 1 (s.phasesNow n * s.vnom)
  let s := s.modOutlet n fun o => { o with offered := reach && !bad, evseDa := da, evseW := watts }
  if s.isDc n then s.dcTo n da (min 65535 (watts / 10)) false
  else if bad then s.offer n .plus12
  else if (s.outlet n).hlcRunning then s.offer n (.pwm 50)
  else s.offer n (s.dutyFor n watts)

/-! ### Closing (R99) -/

/-- Begin a close through the outlet's close context: on the first close of a session with the metering session, the
ledger record and the tariff, on a later one with the contactor and the display only. -/
def requestClose (s : State) (n : Nat) : State :=
  let m := s.rd R.OUT_CFG_MP n
  let first := !(s.outlet n).ledgerOpen
  let (id, s) := if first then s.newSession else (s.rd R.OUT_STAT_SESSION_ID n, s)
  let s := s.wr R.OUT_STAT_SESSION_ID n id
  let tariff := ((s.outlet n).ident.map (·.tariff)).getD 0xFF
  let price := ((s.outlet n).ident.map (·.price)).getD 0
  let acts := [CaskAct.contactor n true]
    ++ (if first then [.metOpen m id, .recOpen n m 0 [] price, .tariff (2 ^ m) tariff price] else [])
    ++ [.dispUpdate 0 0 0 0 0]
  let s := s.setSlot (8 + n) { CaskSlot.init with st := .preparing, acts := acts, since := s.mtb, needs := s.needsMask acts }
  let s := s.testSensor n
  (s.modOutlet n fun o => { o with zcFallback := false }).setSess n .closing 0 0

/-- The close context has channel A's consent: it is prepared and committed at once (R99), in mode ZERO_CROSS where
the outlet asks for it and the tracker is LOCKED, else in mode IMMEDIATE. -/
def commitClose (s : State) (n : Nat) : State :=
  let k := 8 + n
  let m := s.rd R.OUT_CFG_MP n
  let off := s.rdInt R.CASK_CFG2_ZC_OFFSET_US * 1000
  if !s.isDc n && s.flag R.OUT_CFG_ZC_CLOSE n then
    match s.crossing m s.leadNs off with
    | some c => s.arm k 1 c none
    | none => (s.arm k 0 (s.mtb + s.leadNs) none).modOutlet n fun o => { o with zcFallback := true }
  else s.arm k 0 (s.mtb + s.leadNs) none

/-- The close context of an outlet has applied (R98): its ledger session is open, and the session is in ENERGY, or at
the end that waited for the commit, or ENDED with SAFETY_REFUSED where the close was held and no stop caused it.
(DEDUCED, DESIGN CHOICE, log 43, 59, 194) -/
def closeApplied (s : State) (n held : Nat) : State :=
  let o := s.outlet n
  if o.st != .closing then s
  else
    let s := s.modOutlet n fun o => { o with ledgerOpen := true, energyAt := s.mtb }
    if o.endReason != 0 then
      if endsInFault o.endReason then s.faultSession n o.endReason else (s.openOutlet n 0).endSession n o.endReason
    else if held != 0 then
      if s.faulted n && (s.os n).safeSince.isSome then s.reactSafety n else s.endSession n eSAFETY_REFUSED
    else s.setSess n .energy 0 (b2n o.zcFallback)

/-- A session still CLOSING whose context has gone (aborted or refused) ends SAFETY_REFUSED (R98). -/
def closeGone (s : State) (n : Nat) : State :=
  if (s.outlet n).st == .closing && (s.slot (8 + n)).st == .free then s.endSession n eSAFETY_REFUSED else s

/-! ### Authorisation -/

/-- An authorised session goes on (R98): CONNECTED on AC where no high-level protocol runs or can still be matched
(R105, R111), or NEGOTIATING with its parameters discovered, becomes READY and asks for an allocation; after SLAC has
failed the duty is set with it. (DEDUCED, log 197) -/
def goReady (s : State) (n : Nat) : State :=
  let o := s.outlet n
  let slac := s.hlcEnabled n
  if o.ident.isNone then s else
  match o.st with
  | .connected =>
    if o.hlcRunning || s.isDc n || (slac && decide (o.slacFails < 3)) then s
    else if slac then (s.setSess n .ready 0 0).offer n .plus12
    else s.setSess n .ready 0 0
  | .negotiating => if o.discovered then s.setSess n .ready 0 0 else s
  | _ => s

/-- Authorise a session by one source (R112). -/
def authorise (s : State) (n : Nat) (i : Identity) : State :=
  let s := s.modOutlet n fun o => { o with ident := some i, authDue := none, class_ := if i.cls < 4 then i.cls else o.class_ }
  let s := s.wr R.OUT_STAT_AUTH_SRC n i.src
  (s.raise Ev.AUTH_RESULT n [n, i.src, i.hash, 0]).goReady n

/-- A source may authorise a session of the outlet (R112): the host's identities where EIM_EN is set. -/
def sourceOn (s : State) (n : Nat) (i : Identity) : Bool := i.src != 2 || s.flag R.OUT_CFG_EIM_EN n

/-- A card's record authorises a session of an outlet in its mask; it is blocked for any other (R378). -/
def authoriseCard (s : State) (n : Nat) (i : Identity) : State :=
  let blocked := i.src == 1 && match s.credRecord i.kind i.hash with
    | some (r, _) => s.credBlocked r n
    | none => false
  if blocked then s.raise Ev.AUTH_RESULT n [n, i.src, i.hash, 2] else s.authorise n i

/-- The outlets CONNECTED, or in their protocol, without authorisation (R113). -/
def unauthorised (s : State) : List Nat :=
  (List.range 8).filter fun n => (s.outlet n).st == .connected && (s.outlet n).ident.isNone

/-- Start a monitored stop of a session (R98, R100). (DEDUCED, log 58) -/
def stopSession (s : State) (n reason : Nat) : State :=
  let s := (s.leavePause n).modOutlet n fun o => { o with
    endReason := reason, pauseOpenDue := none, queueNo := none, dcRamp := none }
  let s := (s.startMstop n reason).setSess n .stopping 0 0
  if s.isDc n then s else if (s.outlet n).hlcRunning then s else s.offer n .plus12

/-- A monitored stop of a closed outlet under host control (R88, R167): its session machine stays in IDLE.
(DEDUCED, log 221) -/
def stopHosted (s : State) (n reason : Nat) : State :=
  if !s.hostControlled n || !s.closed n then s else
  let s := s.startMstop n reason
  if s.isDc n then s else s.offer n .plus12

/-- A monitored stop of whatever transfers energy on an outlet: its session, or the host's. -/
def stopAny (s : State) (n reason : Nat) : State :=
  if [SessState.ready, .energy, .paused].contains (s.outlet n).st then s.stopSession n reason else s.stopHosted n reason

/-- The outlet whose session in READY, ENERGY or PAUSED has an identity (R114). -/
def ownedBy (s : State) (kind hash : Nat) : Option Nat :=
  (List.range 8).find? fun n => [SessState.ready, .energy, .paused].contains (s.outlet n).st
    && ((s.outlet n).ident.map fun i => (i.kind, i.hash)) == some (kind, hash)

/-- An outlet in a session of another identity, where no outlet waits for authorisation (R114).
(DESIGN CHOICE, log 51) -/
def busyOutlet (s : State) : Option Nat :=
  if s.unauthorised = [] then (List.range 8).find? fun n => [SessState.ready, .energy, .paused].contains (s.outlet n).st
  else none

/-- A card, identified and allowed, is presented where no session is its own or another's (R113): it authorises the one
outlet that waits, or is held for OUT_SELECT or as a pre-authorisation. (DESIGN CHOICE, log 51, 151) -/
def cardPresented (s : State) (i : Identity) : State :=
  match s.unauthorised with
  | [n] => s.authoriseCard n i
  | ns => { s with out := { s.out with
      card := some ⟨i, s.mtb + 10 ^ 9 * s.rd R.OUT_POLICY2_PREAUTH_S, none, ns != []⟩ } }

/-- An outlet that enters CONNECTED is authorised by a held card (R113) or without identity (R112).
(DESIGN CHOICE, log 51) -/
def bindHeld (s : State) (n : Nat) : State :=
  match s.out.card with
  | some c =>
    if s.mtb ≤ c.until_ && (c.for_ == some n || (c.for_ == none && !c.select)) && s.sourceOn n c.ident then
      ({ s with out := { s.out with card := none } } : State).authoriseCard n c.ident
    else if s.flag R.OUT_CFG_FREE_VEND n then s.authorise n (.plain 5 0 0) else s
  | none => if s.flag R.OUT_CFG_FREE_VEND n then s.authorise n (.plain 5 0 0) else s

/-- A vehicle is connected to an idle outlet and its cable is valid or needs no tag (R98, first row): duty 5 % for a
high-level protocol, else constant +12 V; AUTH_TO starts. -/
def connect (s : State) (n : Nat) : State :=
  let wait := s.rd R.OUT_POLICY_AUTH_TO
  let s := s.modOutlet n fun o => { o with
    startAt := s.mtb, ident := none, endReason := 0, authDue := if wait = 0 then none else some (s.mtb + wait * 10 ^ 10),
    usedPhases := 0, vehicleMaxW := 0, pausedTotal := 0, reductions := 0, pauses := 0, below := 0, slacFails := 0,
    class_ := s.rd R.OUT_CFG_CLASS n, tls := false, tagRating := none, schedule := [], dynamic := false, resumeAt := 0,
    slacRetryDue := if s.hlcEnabled n then some (s.mtb + 50 * 10 ^ 9) else none }
  let s := ((s.wr R.OUT_STAT_AUTH_SRC n 0).wr R.OUT_STAT_PROTO n 0).wr R.OUT_STAT_DIR n 0
  let s := s.wr R.OUT_STAT_CABLE_A n (min 255 (s.cableLimit n))
  let s := s.offer n (if s.hlcEnabled n then .pwm 50 else .plus12)
  let s := s.setSess n .connected 0 0
  let s := if s.flag R.OUT_CFG_TETHERED n then s.cableQueue n else s
  s.bindHeld n

/-! ### Pilot -/

/-- Pilot state A on a live session (R98): energy is removed if closed, and the session ends UNPLUGGED. -/
def unplugged (s : State) (n : Nat) : State :=
  let s := if s.closed n then s.erem n 0 else s.caskSafety n
  s.endOrWait n eUNPLUGGED

/-- Faults that clear when the pilot reaches state A (R171), and DIODE_FAULT. (DESIGN CHOICE, log 196) -/
def clearAtA (s : State) (n : Nat) : State :=
  (forEach [fPILOT_E, fIMD_FAULT, fMSTOP_ENV, fOVERCURRENT] (fun c s => s.clearFault n c) s).wr R.OUT_STAT_DIODE_FAULT n 0

/-- The vehicle has left an outlet in ENDED or FAULT (R98, R117): out of service where its cable has reached its end of
life or the host asked for it, else IDLE. -/
def vehicleLeft (s : State) (n : Nat) : State :=
  let o := s.outlet n
  if o.eol || o.oosAfter then
    let s := if o.eol then s.raise Ev.CABLE_STATE n [n, 2, 0] else s
    (s.offer n .stateF).setSess n .outOfService (if o.eol then eCABLE_EOL else eHOST_OOS) 0
  else
    let s := (s.wr R.OUT_STAT_SESSION_ID n 0).modOutlet n fun o => { o with ident := none }
    (s.wr R.OUT_STAT_AUTH_SRC n 0).setSess n .idle 0 0

/-- What an accepted pilot state does to the session (R98, R116, R117). An outlet that must have a cable tag and has no
tethered cable finds none. -/
def pilotDrives (s : State) (n : Nat) (p : Pilot) : State :=
  let o := s.outlet n
  if s.hostControlled n || s.outType n = 0 || s.reserveRole then s else
  match o.st with
  | .idle => if p == .b then
      if s.flag R.TAG_CABLE_EOL n && s.flag R.OUT_CFG_TETHERED n then
        ((s.raise Ev.CABLE_STATE n [n, 2, 0]).offer n .stateF).setSess n .outOfService eCABLE_EOL 0
      else if s.flag R.OUT_CFG_TAG_REQ n && !s.flag R.OUT_CFG_TETHERED n then
        (s.raise Ev.CABLE_STATE n [n, 1, 0]).setSess n .ended eCABLE_TAG_MISSING 0
      else s.connect n
    else s
  | .ended => if p == .a then s.vehicleLeft n else s
  | .fault => if p == .a && !s.faulted n then s.vehicleLeft n else s
  | .outOfService => s
  | .disabled => s
  | _ =>
    if p == .a then s.unplugged n
    else if p == .e then s.reactSafety n
    else if o.st == .ready && (p == .c || p == .d) && !o.hlcRunning && !s.isDc n then
      if o.offered then s.requestClose n else s
    else if o.st == .energy && p == .b && !o.hlcRunning && !s.isDc n then
      (s.openOutlet n 0).setSess n .ready 0 0
    else s

/-! ### The allocator -/

/-- A session the allocator shares power among (R123); one that is CLOSING keeps its place (R100).
(DESIGN CHOICE, log 53) -/
def shares (s : State) (n : Nat) : Bool :=
  let st := (s.outlet n).st
  s.outType n != 0 && !s.hostControlled n && (st == .ready || st == .energy || st == .paused || st == .closing)

/-- A session of a class that runs: it holds a grant. -/
def runs (s : State) (n : Nat) : Bool := (s.outlet n).granted

/-- Insert by a key, keeping equal keys in order. -/
def insertBy (key : Nat → Nat) (x : Nat) : List Nat → List Nat
  | [] => [x]
  | y :: r => if key x < key y then x :: y :: r else y :: insertBy key x r

/-- Sort by a key. -/
def sortBy (key : Nat → Nat) (xs : List Nat) : List Nat := xs.foldl (fun a x => insertBy key x a) []

/-- A resumed session that MIN_RUN_S keeps from a new pause (R124): not while the effective limit falls. -/
def guarded (s : State) (fallen : Bool) (n : Nat) : Bool :=
  !fallen && (s.outlet n).resumeAt != 0 && decide (s.mtb < (s.outlet n).resumeAt + 10 ^ 9 * s.rd R.OUT_POLICY_MIN_RUN_S)

/-- The sessions of a class in the allocator's order (R123): running ones by start time, those protected by
MIN_RUN_S first (R124), then the queue in FIFO order. (DESIGN CHOICE, log 52) -/
def classOrder (s : State) (fallen : Bool) (c : Nat) : List Nat :=
  let mine := (List.range 8).filter fun n => s.shares n && (s.outlet n).class_ == c && s.rd R.OUT_STAT_DIR n == 0
  let run := mine.filter s.runs
  sortBy (fun n => (s.outlet n).startAt) (run.filter (s.guarded fallen))
    ++ sortBy (fun n => (s.outlet n).startAt) (run.filter fun n => !s.guarded fallen n)
    ++ sortBy (fun n => (s.outlet n).queueNo.getD s.out.queueNext) (mine.filter fun n => !s.runs n)

/-- One run's working state: power left, what higher classes have taken of it, allocations, sessions whose minimum is
granted, those whose minimum would have fitted, and those that wait for power which is not yet free. -/
structure Share where
  avail : Nat
  higher : Nat
  alloc : Tab Nat
  granted : List Nat
  fits : List Nat
  waits : List Nat
  deriving DecidableEq, Repr

/-- Grant minima in class order (R123): a queued session that was not grantable in the previous run is skipped, and a
session that MIN_RUN_S protects keeps its minimum unless higher classes need it (R124).
(DEDUCED, DESIGN CHOICE, log 52, 220) -/
def grantMin (s : State) (fallen : Bool) (w : Share) (n : Nat) : Share :=
  let m := s.minW n
  let ok := decide (m ≤ w.avail)
  if (s.outlet n).queueNo.isSome && !(s.outlet n).grantable then
    { w with fits := if ok then w.fits ++ [n] else w.fits }
  else if ok || (s.runs n && s.guarded fallen n && decide (w.avail + w.higher < m)) then
    { w with avail := w.avail - m, alloc := w.alloc.put 0 n m, granted := w.granted ++ [n], fits := w.fits ++ [n] }
  else w

/-- Equal shares above the minimum within a class, capped (R123). -/
def shareClass (s : State) : Nat → List Nat → Share → Share
  | 0, _, w => w
  | _ + 1, [], w => w
  | k + 1, n :: r, w =>
    let g := n :: r
    let e := w.avail / g.length
    let room := fun i => s.capW i - w.alloc.get 0 i
    let capped := g.filter fun i => decide (room i ≤ e)
    if capped = [] then
      { w with alloc := forEach g (fun i a => a.put 0 i (a.get 0 i + e)) w.alloc, avail := w.avail - e * g.length }
    else
      let used := capped.foldl (fun a i => a + room i) 0
      let w' := { w with alloc := forEach capped (fun i a => a.put 0 i (a.get 0 i + room i)) w.alloc, avail := w.avail - used }
      shareClass s k (g.filter fun i => !capped.contains i) w'

/-- The effective site limit and its source (R122). -/
def siteLimit (s : State) : Nat × Nat :=
  let hw := s.rd R.OUT_SITE_HW_LIMIT_W
  let host := s.rd R.OUT_SITE_HOST_LIMIT_W
  let tr := if s.out.fallback then s.rd R.OUT_SITE_FALLBACK_W else s.rd R.OUT_SITE_TRELLIS_W
  let m := min hw (min host tr)
  (m, if hw = m then 0 else if host = m then 1 else if s.out.fallback then 3 else 2)

/-- The power a session has whatever this run gives it (R126): its allocation, and after a reduction what it could draw
before, until its measured power is at or below the new allocation or its grace or ramp has ended. -/
def keeps (s : State) (n target : Nat) : Nat :=
  let al := s.rd R.OUT_ALLOC_STAT_ALLOC_W n
  let low := min al target
  let drawn := match s.measW n with
    | some w => decide (low < w)
    | none => true
  if !drawn then low
  else if (s.outlet n).enfSteps != [] then s.rd R.OUT_ALLOC_STAT_ENF_W n else al

/-- Increases and resumes take only power that is free (R126), in the order of the run; a session whose minimum is not yet
free waits for it. (DEDUCED, log 223) -/
def holdFreed (s : State) (avail : Nat) (order : List Nat) (w : Share) : Share :=
  let used := order.foldl (fun a n => a + s.keeps n (w.alloc.get 0 n)) 0
  (order.foldl (fun (p : Nat × Share) n =>
    let t := p.2.alloc.get 0 n
    let k := s.keeps n t
    let g := min (t - k) p.1
    if t ≤ k || t = k + g then (p.1 - g, p.2)
    else if s.minW n ≤ k + g then (p.1 - g, { p.2 with alloc := p.2.alloc.put 0 n (k + g) })
    else (p.1, { p.2 with
      alloc := p.2.alloc.put 0 n 0, granted := p.2.granted.filter (· != n), waits := p.2.waits ++ [n] }))
    (avail - used, w)).2

/-- The sessions of a run in the order in which the allocator handles them (R123). -/
def runOrder (s : State) (fallen : Bool) : List Nat := (List.range 4).flatMap (s.classOrder fallen)

/-- The shares of one run (R122, R123, R126, R129). -/
def computeShares (s : State) (limit : Nat) (fallen : Bool) : Share :=
  let hostCaps := (List.range 8).foldl (fun a n => a + if s.hostControlled n && s.outType n != 0 then s.capW n else 0) 0
  let exported := if s.flag R.OUT_POLICY_CREDIT_EXPORT then
      (List.range 8).foldl (fun a n => a + if s.shares n && s.rd R.OUT_STAT_DIR n == 1 then s.measExport n else 0) 0 else 0
  let avail := limit + exported - hostCaps
  let w : Share := ⟨avail, 0, .empty, [], [], []⟩
  let w := (List.range 4).foldl (fun (w : Share) c =>
    (s.classOrder fallen c).foldl (fun w n => s.grantMin fallen w n) { w with higher := avail - w.avail }) w
  let w := (List.range 4).foldl (fun (w : Share) c =>
    s.shareClass 9 ((s.classOrder fallen c).filter w.granted.contains) w) w
  s.holdFreed avail (s.runOrder fallen) w

/-- The export shares of discharging sessions (R129): by class, without a minimum. -/
def exportShares (s : State) : Tab Nat :=
  let order := (List.range 4).flatMap fun c => (List.range 8).filter fun n =>
    s.shares n && s.rd R.OUT_STAT_DIR n == 1 && (s.outlet n).class_ == c
  (order.foldl (fun (p : Nat × Tab Nat) n =>
    let g := min p.1 (s.capW n)
    (p.1 - g, p.2.put 0 n g)) (s.rd R.OUT_SITE_EXPORT_W, .empty)).2

/-- When the enforcement value steps to a reduced allocation (R125): after GRACE_S on AC, after the ramp on DC. -/
def enfDue (s : State) (n : Nat) : Nat :=
  s.mtb + if s.isDc n then 10 ^ 8 * s.rd R.OUT_POLICY_DC_RAMP else 10 ^ 9 * s.rd R.OUT_POLICY_GRACE_S

/-- The enforcement value rises to an allocation (R126); reductions before it step no lower. -/
def enfRaise (s : State) (n watts : Nat) : State :=
  (s.wr R.OUT_ALLOC_STAT_ENF_W n (max watts (s.rd R.OUT_ALLOC_STAT_ENF_W n))).modOutlet n fun o => { o with
    enfSteps := o.enfSteps.map fun e => { e with watts := max watts e.watts } }

/-- Give a session a new allocation (R125, R126, R128): a reduction reaches the vehicle at once and the enforcement
value later; an increase raises the enforcement value first. Each reduction has its own step, and none falls
below an allocation given after it. -/
def applyAlloc (s : State) (n watts limit : Nat) : State :=
  let old := s.rd R.OUT_ALLOC_STAT_ALLOC_W n
  if (s.outlet n).st == .closing then s.modOutlet n fun o => { o with allocLater := some watts }
  else if watts < old then
    let due := s.enfDue n
    let s := ((s.wr R.OUT_ALLOC_STAT_ALLOC_W n watts).wr R.OUT_ALLOC_STAT_LAST n 1).modOutlet n fun o => { o with
      enfSteps := o.enfSteps ++ [⟨due, watts⟩], reductions := o.reductions + 1 }
    ((s.noteCounts n).raise Ev.ALLOC_REDUCED n [n, old, watts, limit, due]).offerW n watts
  else if old < watts then
    let s := ((s.wr R.OUT_ALLOC_STAT_ALLOC_W n watts).enfRaise n watts).wr R.OUT_ALLOC_STAT_LAST n 3
    (s.raise Ev.ALLOC_RAISED n [n, old, watts]).offerW n watts
  else if (s.outlet n).offered then s else s.offerW n watts

/-- Pause a session whose minimum cannot be granted (R124, R128): each protocol's pause action, then PAUSED and the
queue of its class. -/
def pauseSession (s : State) (n : Nat) : State :=
  let old := s.rd R.OUT_ALLOC_STAT_ALLOC_W n
  let proto := s.rd R.OUT_STAT_PROTO n
  let s := s.modOutlet n fun o => { o with
    granted := false, offered := false, grantable := false, queueNo := some s.out.queueNext, pausedAt := s.mtb,
    pauses := o.pauses + 1, enfSteps := if old = 0 then o.enfSteps else o.enfSteps ++ [⟨s.enfDue n, 0⟩],
    evseDa := 0, evseW := 0, below := 0 }
  let s := { s with out := { s.out with queueNext := s.out.queueNext + 1 } }
  let s := (s.wr R.OUT_ALLOC_STAT_ALLOC_W n 0).wr R.OUT_ALLOC_STAT_LAST n 2
  let s :=
    if s.isDc n && proto != 3 then s.dcTo n 0 0 true
    else if !(s.outlet n).hlcRunning && !s.isDc n then
      (s.offer n .plus12).modOutlet n fun o => { o with pauseOpenDue := some (s.mtb + 6 * 10 ^ 9) }
    else s.modOutlet n fun o => { o with pauseOpenDue := some (s.mtb + 6 * 10 ^ 9) }
  s.setSess n .paused 0 0

/-- Queue positions within each class (R128): 1 for the first in the queue. -/
def queuePositions (s : State) : State :=
  forEach (List.range 4) (fun c s =>
    let q := (s.classOrder false c).filter fun n => (s.outlet n).st == .paused
    forEach q.zipIdx (fun p s => s.wr R.OUT_ALLOC_STAT_QUEUE_POS p.1 (p.2 + 1)) s) s

/-- A session whose minimum cannot be granted pauses, with its place in the queue (R124, R128). -/
def pauseShare (s : State) (n : Nat) : State :=
  let s := (s.pauseSession n).queuePositions
  s.raise Ev.ALLOC_PAUSED n [n, s.rd R.OUT_ALLOC_STAT_QUEUE_POS n, s.minW n]

/-- Resume a paused session (R124, R128): READY with an offer. Where the contactors stayed closed the vehicle's demand
stands and the modules take it up again; a later close commits ENERGY (R98, R99). (DEDUCED, log 224) -/
def resumeSession (s : State) (n watts : Nat) : State :=
  let s := (s.leavePause n).modOutlet n fun o => { o with
    queueNo := none, resumeAt := s.mtb, pauseOpenDue := none, wantsEnergy := o.wantsEnergy || s.closed n }
  let s := ((s.wr R.OUT_ALLOC_STAT_QUEUE_POS n 0).wr R.OUT_ALLOC_STAT_WAIT_MIN n 0).setSess n .ready 0 0
  let s := ((s.wr R.OUT_ALLOC_STAT_ALLOC_W n watts).enfRaise n watts).wr R.OUT_ALLOC_STAT_LAST n 4
  let s := (s.raise Ev.ALLOC_RESUMED n [n, watts]).offerW n watts
  if s.closed n && s.isDc n then s.stageSet n { s.setNow n with mode := 1 + s.rd R.OUT_STAT_DIR n } else s

/-- Track a follower (R127): measured power below 90 % of the allocation for FOLLOW_N runs in a row caps the session; the
cap is lifted when the measured power reaches 95 % of it. A run without a measurement, or without an allocation in use,
breaks the row. (DEDUCED, log 225) -/
def followTrack (s : State) (n : Nat) : State :=
  let al := s.rd R.OUT_ALLOC_STAT_ALLOC_W n
  let me := s.measW n
  let s := s.wr R.OUT_ALLOC_STAT_MEAS_W n (me.getD 0)
  let o := s.outlet n
  match me, o.followCap with
  | none, _ => s.modOutlet n fun o => { o with below := 0 }
  | some w, some c => if 95 * c ≤ 100 * w then s.modOutlet n fun o => { o with followCap := none, below := 0 } else s
  | some w, none =>
    if (o.st == .energy || o.st == .ready) && decide (100 * w < 90 * al) then
      let b := o.below + 1
      s.modOutlet n fun o => { o with
        below := b, followCap := if s.rd R.OUT_POLICY_FOLLOW_N ≤ b then some (max (s.minW n) (11 * w / 10)) else none }
    else s.modOutlet n fun o => { o with below := 0 }

/-- What a run's shares mean for one session (R98, R124, R128). -/
def settleShare (s : State) (w : Share) (limit n : Nat) : State :=
  let s := s.modOutlet n fun o => { o with grantable := w.fits.contains n }
  let watts := w.alloc.get 0 n
  if w.granted.contains n then
    let wasPaused := (s.outlet n).st == .paused
    let s := s.modOutlet n fun o => { o with granted := true }
    if wasPaused then s.resumeSession n watts else s.applyAlloc n watts limit
  else if (s.outlet n).st == .paused || w.waits.contains n then s
  else if (s.outlet n).st == .closing then s.modOutlet n fun o => { o with allocLater := some 0 }
  else s.pauseShare n

/-- The minutes a session has been paused since its last resume (R124). -/
def waitMinutes (s : State) (n : Nat) : State :=
  if (s.outlet n).st == .paused then
    s.wr R.OUT_ALLOC_STAT_WAIT_MIN n (min 4095 ((s.mtb - (s.outlet n).pausedAt) / (60 * 10 ^ 9))) else s

/-- The allocator reserves the whole cap of a host-controlled outlet (R88), which is its enforcement value too.
(DEDUCED, log 217) -/
def reserveHost (s : State) (n : Nat) : State :=
  if s.hostControlled n && s.outType n != 0 then
    (s.wr R.OUT_ALLOC_STAT_ALLOC_W n (s.capW n)).wr R.OUT_ALLOC_STAT_ENF_W n (s.capW n)
  else s

/-- One run of the allocator (R122 to R129). -/
def allocatorRun (s : State) : State :=
  let (limit, src) := s.siteLimit
  let fallen := decide (limit < s.out.lastEffective)
  let s := forEach (List.range 8) (fun n s => s.reserveHost n) s
  let s := s.wr R.OUT_SITE_EFFECTIVE_W 0 limit
  let s := if limit = s.out.lastEffective then s else
    ({ s with out := { s.out with lastEffective := limit, limitSrc := src } } : State).raise Ev.SITE_LIMIT 0 [src, limit]
  let mine := (List.range 8).filter s.shares
  let s := forEach mine (fun n s => s.followTrack n) s
  let w := s.computeShares limit fallen
  let s := forEach (s.runOrder fallen) (fun n s => s.settleShare w limit n) s
  let ex := s.exportShares
  let s := forEach (mine.filter fun n => s.rd R.OUT_STAT_DIR n == 1) (fun n s => s.applyAlloc n (ex.get 0 n) limit) s
  let s := s.queuePositions
  forEach (List.range 8) (fun n s => s.waitMinutes n) s

/-! ### The control cycle's session work -/

/-- The ramp of a monitored stop on a DC outlet (R165): the set-point falls in a straight line to I_END. -/
def rampDc (s : State) (n : Nat) : State :=
  match (s.os n).mstop with
  | some m =>
    if !s.isDc n then s else
    let T := m.rampMs * 10 ^ 6
    let dt := min T (s.mtb - m.start)
    let i := if T = 0 then m.iEnd else (m.iEnd * dt + m.i0 * (T - dt)) / T
    s.stageSet n { (s.outlet n).setPoint with deciamps := i / 100 }
  | none => s

/-- The ramp of a reduction on a DC outlet (R125): the current limit falls in a straight line, and the power limit and the
mode follow at its end. -/
def rampReduce (s : State) (n : Nat) : State :=
  match (s.outlet n).dcRamp with
  | none => s
  | some r =>
    let p := s.setNow n
    let p := { p with deciamps := min p.deciamps (rampAt r s.mtb) }
    if r.start + r.dur ≤ s.mtb then
      (s.modOutlet n fun o => { o with dcRamp := none }).stageSet n
        { p with decawatts := r.decawatts, mode := if r.off then 0 else p.mode }
    else s.stageSet n p

/-- The phases that carry more than 1 A once 10 s of energy transfer have passed, as a mask. -/
def learnPhases (s : State) (n : Nat) : State :=
  let o := s.outlet n
  if o.st == .energy && o.usedPhases == 0 && decide (o.energyAt + 10 ^ 10 ≤ s.mtb) then
    let is := (s.snap (s.rd R.OUT_CFG_MP n)).i
    let m := is.zipIdx.foldl (fun a p => a + match p.1 with
      | some i => if 1000 < i then 2 ^ p.2 else 0
      | none => 0) 0
    s.modOutlet n fun o => { o with usedPhases := m }
  else s

/-- An AC pause opens the contactors when each phase is below 0.5 A, or after 6 s (R124). -/
def pauseOpen (s : State) (n : Nat) : State :=
  match (s.outlet n).pauseOpenDue with
  | some due =>
    let low := match s.outCurrent n with
      | some i => decide (i < 500) && !(s.outlet n).hlcRunning
      | none => false
    if low || decide (due ≤ s.mtb) then
      (s.openOutlet n 0).modOutlet n fun o => { o with pauseOpenDue := none }
    else s
  | none => s

/-- The pilot state that is accepted and still agrees clears at A what clears there (R171), and moves an outlet at rest
in IDLE, ENDED or FAULT (R98), also where it was accepted before the outlet came there. (DEDUCED, log 192) -/
def restPilot (s : State) (n : Nat) : State :=
  let o := s.outlet n
  if o.cand == some o.pilot && decide (s.rd R.OUT_POLICY_FILT_PER ≤ o.agree) then
    let s := if o.pilot == .a then s.clearAtA n else s
    if o.st == .idle || o.st == .ended || o.st == .fault then s.pilotDrives n o.pilot else s
  else s

/-- What the outlet controller of one outlet does in a control cycle (R25, R94, R98, R100, R124). A vehicle in basic
charging asks for energy as long as it is in C or D, and ends it as long as it is in B. (DEDUCED, log 192, 195) -/
def sessionCycle (s : State) (n : Nat) : State :=
  let s := (s.reactSafety n).restPilot n
  let s := s.closeGone n
  let s := if (s.outlet n).st == .stopping && (s.os n).mstop.isNone then s.endSession n (s.outlet n).endReason else s
  let s := match (s.outlet n).st, (s.outlet n).allocLater with
    | .energy, some w =>
      let s := s.modOutlet n fun o => { o with allocLater := none }
      if w = 0 then s.pauseShare n else s.applyAlloc n w s.out.lastEffective
    | _, _ => s
  let o := s.outlet n
  let basic := !o.hlcRunning && !s.isDc n
  let s := if o.st == .ready && o.offered && (o.wantsEnergy || basic && (o.pilot == .c || o.pilot == .d)) then
      (s.modOutlet n fun o => { o with wantsEnergy := false }).requestClose n
    else if o.st == .energy && basic && o.pilot == .b then (s.openOutlet n 0).setSess n .ready 0 0
    else s
  let s := if o.st == .idle && o.out == .stateF && s.outType n != 0 && (s.os n).safeSince.isNone
      && !s.hostControlled n then s.offer n .plus12 else s
  (((s.rampReduce n).rampDc n).learnPhases n).pauseOpen n

end State
end Sys2Proof.Machine
end

