-- ==== Sys2Proof/Machine/Alloc.lean ====
section
/-! DEFINITION. Power modules over CAN FD (R118 to R121) and the allocator's events (R122 to R128). -/

namespace Sys2Proof.Machine
namespace State

/-- The 29-bit identifier of a power-module message (R118): type, destination, source. -/
def pmId (type dst src : Nat) : Nat := type % 32 * 2 ^ 24 + dst % 256 * 2 ^ 8 + src % 256

/-- The source address of a received identifier (R118): of the given type, from a power module to the ZA8840. -/
def pmSrc (id type : Nat) : Option Nat :=
  let src := id % 256
  if id = pmId type 0 src && decide (1 ≤ src) && decide (src ≤ 0x3F) then some src else none

/-- The outlet and module index a power-module address on a bus belongs to (R118, OUT.DC_CFG). -/
def pmAt (s : State) (bus src : Nat) : Option (Nat × Nat) :=
  (List.range 8).findSome? fun n =>
    let base := s.rd R.OUT_DC_CFG_PM_BASE n
    if s.isDc n && s.rd R.OUT_DC_CFG_BUS n == bus && decide (base ≤ src) && decide (src < base + s.rd R.OUT_DC_CFG_PM_COUNT n)
    then some (n, src - base) else none

/-- The outlet and module index that a received identifier of a type comes from (R118). -/
def pmOf (s : State) (bus id type : Nat) : Option (Nat × Nat) := (pmSrc id type).bind (s.pmAt bus)

/-- A power module of an outlet. -/
def pm (s : State) (n i : Nat) : PowerModule := (s.outlet n).pms.getD i PowerModule.init

/-- Change a power module of an outlet. -/
def modPm (s : State) (n i : Nat) (f : PowerModule → PowerModule) : State :=
  s.modOutlet n fun o =>
    let ps := o.pms ++ List.replicate (i + 1 - o.pms.length) PowerModule.init
    { o with pms := ps.set i (f (ps.getD i PowerModule.init)) }

/-- The live power modules of an outlet: heard and not lost. -/
def livePms (s : State) (n : Nat) : Nat := ((s.outlet n).pms.filter fun p => !p.lost).length

/-- A STATUS frame is valid (R119): 16 bytes, reserved bytes 0, CRC-16 right. -/
def statusValid (bs : List Nat) : Bool :=
  bs.length == 16 && ((bs.drop 8).take 6).all (· == 0) && leField bs 14 2 == crc16 (bs.take 14)

/-- The SETPOINT frame of a set-point (R119, R121): the current is shared equally among the live modules.
(DESIGN CHOICE, log 56) -/
def setpointFrame (p : SetPoint) (live counter : Nat) : List Nat :=
  let body := [p.mode % 256] ++ leBytes 2 p.decivolts ++ leBytes 2 (p.deciamps / max 1 live) ++ leBytes 2 p.decawatts
    ++ [counter % 256] ++ List.replicate 6 0
  body ++ leBytes 2 (crc16 body)

/-- The allocation falls to a cap that has become lower, at once (R97, R120). -/
def capNow (s : State) (n : Nat) : State :=
  if (s.outlet n).st == .energy && s.capW n < s.rd R.OUT_ALLOC_STAT_ALLOC_W n then
    s.applyAlloc n (s.capW n) s.out.lastEffective else s

end State

/-- PM_STATUS_FRAME (R119, R120): a frame that is not valid has no effect. -/
def execPmStatusFrame (t bus id : Nat) (frame : List Byte) (s : State) : Host.Outcome State Fault Refusal :=
  .next (onEvent s t fun s =>
    let bs := frame.map (·.toNat)
    if !State.statusValid bs then s else
    match s.pmOf bus id 2 with
    | none => s
    | some (n, i) => s.modPm n i fun p => { p with
        seenAt := some s.mtb, decivolts := leField bs 0 2, deciamps := dec 16 (leField bs 2 2),
        temp := dec 8 (leField bs 4 1), faults := leField bs 5 2, lost := false })

/-- PM_IDENT_FRAME (R118). (DESIGN CHOICE, log 57) -/
def execPmIdentFrame (t bus id maker model serial ratedV ratedA ratedKw fw : Nat) (s : State) :
    Host.Outcome State Fault Refusal :=
  .next (onEvent s t fun s =>
    match s.pmOf bus id 3 with
    | none => s
    | some (n, i) => s.modPm n i fun p => { p with
        ident := [maker, model, serial, ratedV, ratedA, ratedKw, fw], ratedW := 1000 * ratedKw })

/-- PM_FAULT_FRAME (R118). -/
def execPmFaultFrame (t bus id code severity : Nat) (s : State) : Host.Outcome State Fault Refusal :=
  .next (onEvent s t fun s =>
    match s.pmOf bus id 4 with
    | none => s
    | some (n, i) =>
      (s.modPm n i fun p => { p with faults := code + 2 ^ 16 * severity }).raise Ev.PM_FAULT n [n, id % 256, code, 0])

/-- PM_LOST (R120): no valid STATUS for 50 ms. -/
def execPmLost (t n i : Nat) (s : State) : Host.Outcome State Fault Refusal :=
  .next (onEvent s t fun s =>
    let p := s.pm n i
    match p.seenAt with
    | none => s
    | some at_ =>
      if p.lost || s.mtb < at_ + 50 * 10 ^ 6 then s else
      let s := s.modPm n i fun p => { p with lost := true }
      let s := s.raise Ev.PM_FAULT n [n, s.rd R.OUT_DC_CFG_PM_BASE n + i, 0, 1]
      if s.livePms n = 0 then
        if (s.outlet n).st.live then s.faultSession n ePM_LOST else s.erem n 0
      else s.capNow n)

/-- The addresses of an outlet's live power modules. -/
def State.liveAddrs (s : State) (n : Nat) : List Nat :=
  ((s.outlet n).pms.zipIdx.filter fun p => !p.1.lost).map fun p => s.rd R.OUT_DC_CFG_PM_BASE n + p.2

/-- SETPOINT_SEND (R118, R119, R121): the frame each live power module receives, under its own identifier. -/
def execSetpointSend (t n : Nat) (s : State) : Host.Outcome State Fault Refusal :=
  .next (onEvent s t fun s =>
    if s.livePms n = 0 || s.muted then s else
    s.modOutlet n fun o => { o with
      setCounter := (o.setCounter + 1) % 256,
      lastFrame := State.setpointFrame o.setPoint (s.livePms n) (o.setCounter + 1),
      lastIds := (s.liveAddrs n).map fun a => State.pmId 1 a 0 })

/-- PM_SYNC_SEND (R118); a module whose CAN ports listen only sends nothing (table Twin wiring).
(DESIGN CHOICE, log 228) -/
def execPmSyncSend (t : Nat) (s : State) : Host.Outcome State Fault Refusal :=
  .next (onEvent s t fun s => if s.muted then s else { s with out := { s.out with
    lastSync := (State.pmId 5 Config.pmAll 0, s.mtb / 10 ^ 6, s.rd R.HOST_SYNC_GLOBAL_EPOCH) } })

/-- ALLOCATOR_RUN (R122 to R129): at each MTB multiple of 10⁹ ns once, and not on a twin that is not ACTIVE (R487). The
MTB moves in steps of about 20 ns, so the run is at its first value from the multiple on. -/
def execAllocatorRun (t : Nat) (s : State) : Host.Outcome State Fault Refusal :=
  .next (onEvent s t fun s =>
    let sec := s.mtb / 10 ^ 9
    if t % 10 ^ 9 != 0 || sec ≤ s.out.lastRun then s else
    let s := { s with out := { s.out with lastRun := sec } }
    if s.reserveRole then s else s.allocatorRun)

/-- TRELLIS_LIMIT_EXPIRY (R122): FALLBACK_W replaces a limit whose lifetime is over. -/
def execTrellisLimitExpiry (t : Nat) (s : State) : Host.Outcome State Fault Refusal :=
  .next (onEvent s t fun s =>
    match s.out.trellisDue with
    | some due => if due ≤ s.mtb then
        { s with out := { s.out with fallback := true, trellisDue := none } } else s
    | none => s)

/-- ENFORCEMENT_GRACE_END (R125): the enforcement value falls to the new allocation, step by step. -/
def execEnforcementGraceEnd (t n : Nat) (s : State) : Host.Outcome State Fault Refusal :=
  .next (onEvent s t fun s =>
    let due := (s.outlet n).enfSteps.filter fun e => decide (e.due ≤ s.mtb)
    if due = [] then s else
    let now := due.foldl (fun a e => min a e.watts) (s.rd R.OUT_ALLOC_STAT_ENF_W n)
    (s.wr R.OUT_ALLOC_STAT_ENF_W n now).modOutlet n fun o => { o with
      enfSteps := o.enfSteps.filter fun e => decide (s.mtb < e.due) })

/-- ALLOC_MAX_WAIT (R124, R128). -/
def execAllocMaxWait (t n : Nat) (s : State) : Host.Outcome State Fault Refusal :=
  .next (onEvent s t fun s =>
    let limit := s.rd R.OUT_POLICY_MAX_WAIT_MIN
    let waited := (s.mtb - (s.outlet n).pausedAt) / (60 * 10 ^ 9)
    if (s.outlet n).st == .paused && limit != 0 && decide (limit ≤ waited) then
      let s := (s.wr R.OUT_ALLOC_STAT_LAST n 5).raise Ev.ALLOC_REFUSED n [n, waited]
      (s.openOutlet n 0).endSession n eALLOC_REFUSED
    else s)

end Sys2Proof.Machine
end

