-- ==== Sys2Proof/Machine/FiltOps.lean ====
section
/-! DEFINITION. The shared operations of the filter chains' trackers (R219 to R225) and of temperature compensation and
calibration coefficients (R268 to R272). -/

namespace Sys2Proof.Machine
namespace State

/-- Write a computed value into a field; one that the field cannot hold is not given, and a free value stands for
it. (DESIGN CHOICE, log 78) -/
def wrFit (s : State) (F : Fld) (n v : Nat) : State :=
  if v < 2 ^ F.w then s.wr F n v else
    let (f, s) := s.takeFree
    s.wr F n f

/-- As `wrFit`, for a signed field. (DESIGN CHOICE, log 78) -/
def wrFitInt (s : State) (F : Fld) (n : Nat) (z : Int) : State :=
  if -(2 ^ (F.w - 1) : Int) ≤ z && z < 2 ^ (F.w - 1) then s.wrInt F n z else
    let (f, s) := s.takeFree
    s.wr F n f

/-! ### Trackers -/

/-- The estimated period of a tracker in ns: the mean of the last accepted periods, or the nominal one (R220). -/
def pEst (s : State) (m : Nat) : Nat :=
  let l := (s.trk m).last
  if l = [] then s.nominalPeriod m else divRound (l.foldl (· + ·) 0) l.length

/-- A period lies between 1/65 s and 1/45 s (R220). -/
def perInRange (per : Nat) : Bool := decide (10 ^ 9 ≤ 65 * per) && decide (45 * per ≤ 10 ^ 9)

/-- Ten accepted periods in a row lie within ±0.5 % of their mean (R221). -/
def lockable (row : List Nat) : Bool :=
  let sum := row.foldl (· + ·) 0
  row.length == 10 && row.all fun p => decide (2000 * p ≤ 201 * sum) && decide (199 * sum ≤ 2000 * p)

/-- Note a period (R220): an accepted one enters the estimate and the count of periods in a row, a rejected one
restarts the count. (DESIGN CHOICE, log 76) -/
def notePeriod (s : State) (m per : Nat) (ok : Bool) : State :=
  if ok then
    let s := s.modTrk m fun k => { k with row := (per :: k.row).take 10, last := (per :: k.last).take 4 }
    let l := (s.trk m).last
    s.wr R.FILT_TRK_STAT_FREQ_UHZ m (divRound (10 ^ 15 * l.length) (max 1 (l.foldl (· + ·) 0)))
  else s.modTrk m fun k => { k with row := [] }

/-- Enter HOLD (R221): the frequency is frozen at the last locked one. (DESIGN CHOICE, log 76) -/
def holdTrk (s : State) (m reason frozen : Nat) : State :=
  (s.modTrk m fun k => { k with row := [], lowAmp := 0, dev := 0, holdCyc := 0, relock := false, frozen := frozen }).setTrk m 3 reason

/-- Enter LOCKED (R221, R225): the cycle in progress will end at the next measured crossing that lies at least half its
free-running period after its start. (DESIGN CHOICE, log 76) -/
def lockTrk (s : State) (m cross reason : Nat) : State :=
  let s := s.modTrk m fun k => { k with lowAmp := 0, dev := 0, relock := true, lockCross := cross, err := 0 }
  let z := s.rd R.FILT_TRK_ZC_START m
  let per := s.rd R.FILT_TRK_PER_PERIOD_NS m
  let est := s.pEst m
  let next := cross + est
  let next := if 2 * next < 2 * z + per then next + est else next
  (s.wr R.FILT_TRK_NEXT_START m next).setTrk m 2 reason

/-- The error of a crossing against the grid start it belongs to, the nearer of the present one and the next
(R224). -/
def gridError (s : State) (m cross : Nat) : Int :=
  let a := (cross : Int) - s.rd R.FILT_TRK_ZC_START m
  let b := (cross : Int) - s.rd R.FILT_TRK_NEXT_START m
  if a.natAbs ≤ b.natAbs then a else b

/-- A tap sample of a tracker's source within a period carries OVL (R220). -/
def ovlIn (s : State) (m from_ to_ : Nat) : Bool :=
  match s.trkSource m with
  | some c => (s.chain c).taps.any fun a => bit a.fl 1 && decide ((from_ : Int) * 65536 ≤ a.t) && decide (a.t ≤ to_ * 65536)
  | none => false

/-- A rising crossing ends a period, from the crossing before to this one (R219 to R221, R224); the first one after the start of a
search ends none. (DESIGN CHOICE, log 76) -/
def period (s : State) (m cross amp : Nat) : State :=
  let st := s.rd R.FILT_TRK_STAT_STATE m
  if st = 0 then s
  else if (s.trk m).cross = 0 then s.modTrk m fun k => { k with cross := cross } else
  let per := cross - (s.trk m).cross
  let est := s.pEst m
  let ovl := s.ovlIn m (cross - per) cross
  let low := decide (amp < 10 * s.rd R.FILT_TRK_CFG_MIN_PCT m)
  let ok := perInRange per && !low && !ovl
  let s := s.wr R.FILT_TRK_STAT_AMP m (min amp 65535)
  let s := (s.notePeriod m per ok).modTrk m fun k => { k with cross := cross }
  if st = 2 then
    let k := s.trk m
    let off := decide (est < 20 * (max per est - min per est))
    let s := s.modTrk m fun k => { k with
      lowAmp := if low then k.lowAmp + 1 else 0, dev := if off then k.dev + 1 else 0, err := s.gridError m cross }
    if low && 1 ≤ k.lowAmp then s.holdTrk m 2 est
    else if !perInRange per then s.holdTrk m 3 est
    else if off && 2 ≤ k.dev then s.holdTrk m 4 est
    else s
  else if lockable (s.trk m).row then s.lockTrk m cross (if st = 1 then 9 else 6)
  else s

/-- The start of the grid cycle that begins now, if it may begin (R223, R225). (DEDUCED, log 83) -/
def cycleStart (s : State) (m : Nat) : Option Nat :=
  let k := s.trk m
  if k.relock then
    if k.lockCross < k.cross && 2 * s.rd R.FILT_TRK_ZC_START m + s.rd R.FILT_TRK_PER_PERIOD_NS m ≤ 2 * k.cross then some k.cross
    else none
  else if s.rd R.FILT_TRK_NEXT_START m ≤ s.mtb then some (s.rd R.FILT_TRK_NEXT_START m) else none

/-- The period of the grid cycle that begins now (R221, R223, R224). -/
def cyclePeriod (s : State) (m : Nat) : Nat :=
  match s.rd R.FILT_TRK_STAT_STATE m with
  | 2 =>
    let est := s.pEst m
    let lim : Int := est / 1000
    ((est : Int) + max (-lim) (min lim (idivRound (s.trk m).err 8))).toNat
  | 3 => (s.trk m).frozen
  | _ => s.nominalPeriod m

/-- Count a finished grid cycle for the frequency of the meter points on a tracker (R244). -/
def freqCycle (s : State) (m z : Nat) : State :=
  if s.rd R.FILT_TRK_STAT_STATE m != 2 then s else
  let d := z - s.rd R.FILT_TRK_ZC_START m
  s.modMp m fun p => { p with cyc1 := (p.cyc1.1 + 1, p.cyc1.2 + d), cyc10 := (p.cyc10.1 + 1, p.cyc10.2 + d) }

/-- Begin a grid cycle at `z` (R223 to R225); after a relock the cycle that ends takes its new length, and STEP. -/
def beginCycle (s : State) (m z : Nat) : State :=
  let s := s.freqCycle m z
  let s := s.modTrk m fun k => { k with
    relock := false, holdCyc := if s.rd R.FILT_TRK_STAT_STATE m = 3 then k.holdCyc + 1 else 0,
    cycles := match k.relock, k.cycles with
      | true, g :: r => { g with p := z - g.z, step := true } :: r
      | _, l => l }
  s.openCycle m z (s.cyclePeriod m)

/-- The tracker of a meter point's channels. -/
def mpTrk (s : State) (m : Nat) : Nat := s.rd R.FILT_CFG_TRK ((s.mpChans m).headD 0)

/-! ### Coefficients -/

/-- The temperature factor of a channel's gain at a temperature in 0.01 °C, over 10^13 (R270). -/
def tcFactor (s : State) (c : Nat) (temp : Int) : Int :=
  let d := temp - s.rdInt R.MET_TC_T0 c
  10 ^ 13 + 100 * s.rdInt R.MET_TC_ALPHA c * d + s.rdInt R.MET_TC_BETA c * d * d

/-- The temperature shift of a channel's trim in 1/256 ns (R270). -/
def tcShift (s : State) (c : Nat) (temp : Int) : Int :=
  idivRound (s.rdInt R.MET_TC_TRIM_K c * (temp - s.rdInt R.MET_TC_T0 c)) 100

/-- Division rounded to the nearest by a divisor of either sign; 0 by 0. -/
def zdivRound (a b : Int) : Int := if 0 ≤ b then idivRound a b.toNat else idivRound (-a) (-b).toNat

/-- The calibrated gain and trim of a channel: those last set by calibration, or unity and none (R270). -/
def calOf (s : State) (c : Nat) : Int × Int := (s.met.calGain.get none c).getD (2 ^ 30, 0)

/-- Take a channel's calibrated values from coefficients that hold at a temperature (R272). -/
def setCal (s : State) (c : Nat) (gain trim temp : Int) : State :=
  let g := zdivRound (gain * 10 ^ 13) (s.tcFactor c temp)
  { s with met := { s.met with calGain := s.met.calGain.put none c (some (g, trim - s.tcShift c temp)) } }

/-- Write a channel's gain and trim for a temperature into its inactive bank (R270, R271).
(DESIGN CHOICE, log 77) -/
def compensate (s : State) (c : Nat) (temp : Int) : State :=
  let (g, t) := s.calOf c
  let b := s.otherBank c
  let s := s.wrFitInt R.FILT_BANK_GAIN b (idivRound (g * s.tcFactor c temp) (10 ^ 13))
  (s.wrFitInt R.FILT_BANK_TRIM b (t + s.tcShift c temp)).wr R.FILT_BANK_OFFSET b (s.rd R.FILT_BANK_OFFSET (s.thisBank c))

/-- The enabled channels of a tracker group. -/
def groupChans (s : State) (g : Nat) : List Nat := (List.range 64).filter fun c => s.afeEn c && s.rd R.FILT_CFG_TRK c == g

/-- Compensate the tracker groups of a mask (R271, R272): the groups that blend wait, the others start one cross-fade
each. Answers the groups blended. -/
def compensateGroups (s : State) (mask : Nat) (temp : Int) : Nat × State :=
  let gs := (List.range 12).filter fun g => bit mask g && s.groupChans g != []
  let busy := gs.filter fun g => (s.groupChans g).any fun c => (s.blendOf c).isSome
  let go := gs.filter fun g => !busy.contains g
  let s := forEach go (fun g s =>
    let cs := s.groupChans g
    (forEach cs (fun c s => s.compensate c temp) s).startBlend cs none none) s
  (chanMask go, { s with met := { s.met with tcPend := chanMask busy } })

end State
end Sys2Proof.Machine
end

