-- ==== Sys2Proof/Machine/ChainOps.lean ====
section
/-! DEFINITION. The filter chains at work: modulator codes through CIC, CFIR, HB1, HB2 and the correction stage to tap
samples (R207 to R212, R226, R230, R231), and tap samples to resampler samples on the grid (R213, R223, R226), with the coil
integrator (R241). Times of samples are in 2^-16 ns; positions on XTAL49 are in half periods from the MTB's zero, each
2,000,000/3 of 2^-16 ns. -/

namespace Sys2Proof.Machine

/-! ### Trigonometric values -/

/-- 2π times 2^64. -/
def twoPi : Int := 115904311329233965478

/-- The Taylor series of the cosine (from k = 0, term 2^64) or the sine (from k = 1, term x) times 2^64: its next terms, of an
angle whose square times 2^64 is `x2`. -/
def taylor (x2 : Int) : Nat → Nat → Int → Int
  | 0, _, _ => 0
  | f + 1, k, term => term + taylor x2 f (k + 2) (-(term * x2 / 2 ^ 64) / ((k + 1) * (k + 2)))

/-- 2^64 cos(2π a/n). -/
def cos64 (a n : Nat) : Int := let x := (a % n : Nat) * twoPi / n; taylor (x * x / 2 ^ 64) 32 0 (2 ^ 64)
/-- 2^64 sin(2π a/n). -/
def sin64 (a n : Nat) : Int := let x := (a % n : Nat) * twoPi / n; taylor (x * x / 2 ^ 64) 32 1 x
/-- 2^32 cos(2π a/n). -/
def cosQ (a n : Nat) : Int := idivRound (cos64 a n) (2 ^ 32)
/-- 2^32 sin(2π a/n). -/
def sinQ (a n : Nat) : Int := idivRound (sin64 a n) (2 ^ 32)

/-! ### The stages (R209 to R211) -/

/-- One code through the integrators of a CIC: 36-bit words that wrap (R209). -/
def integrate (x : Int) : List Nat → List Nat
  | [] => []
  | a :: r => let y := enc 36 (a + x); y :: integrate y r

/-- One word through the combs of a CIC: what comes out, and what they hold. -/
def combs (x : Nat) : List Nat → Nat × List Nat
  | [] => (x, [])
  | p :: r => let (y, r') := combs (enc 36 ((x : Int) - p)) r; (y, x :: r')

/-- A stage's result with `frac` fractional bits (R210): shifted by SHIFT, rounded to nearest, saturated to 24 bits; and
whether it saturated. -/
def shiftSat (z : Int) (frac : Nat) (shift : Int) : Int × Bool :=
  let y := idivRound (z * 2 ^ shift.toNat) (2 ^ (frac + (-shift).toNat))
  (max (-8388608) (min 8388607 y), decide (y < -8388608) || decide (8388607 < y))

/-- The coefficient k of the 32-tap CFIR, which has linear phase. -/
def cfirCoef (k : Nat) : Int := Config.cfir (min k (31 - k))

/-- The coefficient k of a half-band filter: symmetric about its middle, which is one half, and zero at even distances from it.
(DEDUCED, log 240) -/
def halfBand (mid : Nat) (f : Nat → Int) (k : Nat) : Int :=
  let d := max k mid - min k mid
  if d = 0 then 2 ^ 30 else if d % 2 = 0 then 0 else f d

/-- A FIR over its inputs, newest first: the sum in 2^-31, and whether a saturated value entered it. -/
def fir (coef : Nat → Int) (w : List (Int × Bool)) : Int × Bool :=
  (sumInt (w.zipIdx.map fun p => coef p.2 * p.1.1), w.any (·.2))

/-- A saturation at a stage is noted. -/
def Chain.noteSat (h : Chain) (stage : Nat) (o : Bool) : Chain :=
  if o then { h with sat := (setBit h.sat.1 stage, h.sat.2 + 1) } else h

namespace State

/-! ### Clocks (R183, R184, R209) -/

/-- The modulator of a channel is clocked: enabled, and its MCLK driven. -/
def clockOn (s : State) (c : Nat) : Bool :=
  s.afeEn c && (decide (c < 48) || s.flag R.AFE_MCLK_CFG_EN (s.rd R.AFE_MBS_CFG_MCLK (c - 48)))

/-- The position of a channel's first clock edge: the falling edge of an MCLK lies half a clock after the rising one. -/
def clockOff (s : State) (c : Nat) : Nat :=
  if c < 48 then 0 else if s.flag R.AFE_MBS_CFG_EDGE (c - 48) then s.clockDiv c else 0

/-- How many clock edges of a channel lie at or before a position: the dividers restart together with the MTB (R183). -/
def clockEdges (s : State) (c pos : Nat) : Nat :=
  let off := s.clockOff c
  if pos < off then 0 else (pos - off) / (2 * s.clockDiv c) + 1

/-- The order of a channel's CIC. -/
def cicOrder (c : Nat) : Nat := if c < 48 then 4 else 5

/-! ### Coefficients in a cross-fade (R231) -/

/-- The instant at which a cross-fade that has begun will end: the first grid-cycle start at the present period, or the first
1 ms boundary, at or after its start plus BLEND_MS. (DESIGN CHOICE, log 241) -/
def fadeEnd (s : State) (b : Blend) (t0 : Nat) : Nat :=
  let e := t0 + 10 ^ 6 * s.rd R.FILT_BLEND_BLEND_MS
  if s.rd R.FILT_TRK_STAT_STATE b.trk = 2 then
    let z := s.rd R.FILT_TRK_ZC_START b.trk
    let p := max 1 (s.rd R.FILT_TRK_PER_PERIOD_NS b.trk)
    z + (e - z + p - 1) / p * p
  else (e + 999999) / 10 ^ 6 * 10 ^ 6

/-- The weight w of the new bank for a sample of a channel at time t, as a fraction, and whether the sample lies in the
cross-fade (R231): 1 without one; 0 in one that has not begun. -/
def fadeWeight (s : State) (c : Nat) (t : Int) : Int × Nat × Bool :=
  let at_ := fun (t0 t1 : Nat) =>
    let d := (t1 - t0) * 65536
    let n := t - t0 * 65536
    if n < 0 then (0, 1, false) else if (d : Int) ≤ n then (1, 1, false) else (n, d, true)
  match s.blendOf c with
  | some b =>
    match b.t0 with
    | some t0 => at_ t0 (s.fadeEnd b t0)
    | none => (0, 1, false)
  | none =>
    match s.filt.faded.find? fun p => p.1.chans.contains c && decide (t < p.2 * 65536) with
    | some (b, t1) => at_ (b.t0.getD t1) t1
    | none => (1, 1, false)

/-- A coefficient of a channel for a weight (R231): coef_old + (coef_new − coef_old) × w. -/
def coefAt (s : State) (F : Fld) (c : Nat) (w : Int × Nat × Bool) : Int :=
  let new := s.rdInt F (s.thisBank c)
  let old := s.rdInt F (s.otherBank c)
  if w.1 = 1 && w.2.1 = 1 then new else old + idivRound ((new - old) * w.1) w.2.1

/-! ### Codes to tap samples -/

/-- The MTB in ns at a position. -/
def posNs (pos : Nat) : Nat := pos * 15625 / 1536

/-- A word of HB2 that is emitted at a position passes the correction stage (R212, R230): y = round(GAIN × x) + OFFSET; its
time is the emission less the tap group delay and SKEW_NS, plus the trim. -/
def tapOut (s : State) (c pos : Nat) (x : Int × Bool) : TapSample :=
  let t0 := idivRound (((pos : Int) - s.tapHalfClocks c * s.clockDiv c) * 2000000) 3 - 65536 * s.skew c
  let w := s.fadeWeight c t0
  let t := t0 + 256 * s.coefAt R.FILT_BANK_TRIM c w
  let y := 256 * idivRound (s.coefAt R.FILT_BANK_GAIN c w * x.1) (2 ^ 30) + s.coefAt R.FILT_BANK_OFFSET c w
  let em := posNs pos
  let set := s.flag R.FILT_STAT_SETTLING c && decide (em < s.filt.restartAt.get 0 c + (2 * s.tapGd c / 256).toNat)
  ⟨t, y, flagBits (s.ovlNow c) x.2 false w.2.2 (s.flag R.PWR_STAT_MTB_HOLDOVER) false set, em⟩

/-- A word leaves a decimating stage when clock `i` ends its decimation, counted from the MTB's zero, and the stage holds as
many inputs as it has taps, so that no partial result is emitted (R216). (DESIGN CHOICE, log 242) -/
def stageGives (i rate len : Nat) (w : List (Int × Bool)) : Bool := (i + 1) % rate == 0 && w.length == len

/-- The code of clock `i` goes through a channel's chain (R209 to R212). -/
def chainCode (s : State) (c i : Nat) (x : Int) (h : Chain) : Chain :=
  let r := s.cicR c
  let o := cicOrder c
  let sh := fun (F : Fld) => s.rdInt F c
  let ii := integrate x (h.integ.take o)
  let h := { h with n := h.n + 1, integ := ii }
  if (i + 1) % r != 0 then h else
  let (y, cb) := combs (ii.getLastD 0) (h.comb.take o)
  let h := { h with comb := cb }
  if h.n < o * (r - 1) + 1 then h else
  let (z, sat) := shiftSat (dec 36 y) 0 (sh R.FILT_CFG_SHIFT0)
  let h := { h with w1 := ((z, sat) :: h.w1).take 32 }.noteSat 0 sat
  if !stageGives i (2 * r) 32 h.w1 then h else
  let (y, f) := fir cfirCoef h.w1
  let (z, sat) := shiftSat y 31 (sh R.FILT_CFG_SHIFT1)
  let h := { h with w2 := ((z, f || sat) :: h.w2).take 23 }.noteSat 1 sat
  if !stageGives i (4 * r) 23 h.w2 then h else
  let (y, f) := fir (halfBand 11 Config.hb1) h.w2
  let (z, sat) := shiftSat y 31 (sh R.FILT_CFG_SHIFT2)
  let h := { h with w3 := ((z, f || sat) :: h.w3).take 47 }.noteSat 2 sat
  if !stageGives i (8 * r) 47 h.w3 then h else
  let (y, f) := fir (halfBand 23 Config.hb2) h.w3
  let (z, sat) := shiftSat y 31 (sh R.FILT_CFG_SHIFT3)
  ({ h with taps := (s.tapOut c (s.clockOff c + 2 * s.clockDiv c * i) (z, f || sat) :: h.taps).take 2048 } : Chain).noteSat 3 sat

/-- The bits of an MBS channel whose three samples do not agree (R184). (DESIGN CHOICE, log 243) -/
def eyeErrors (f : Feed) : Nat :=
  (f.codes.zipIdx.filter fun p => f.early.getD p.2 p.1 != p.1 || f.late.getD p.2 p.1 != p.1).length

/-- A channel's codes go through its chain up to a position on XTAL49: one code for each clock edge since the last time. Where
fewer codes come than the clock had edges, the stream is broken and the pipeline starts anew. A saturation is counted
(R211), and the disagreements of a capture (R184). (DESIGN CHOICE, log 243) -/
def feedChan (s : State) (upTo c : Nat) (f : Feed) : State :=
  if !s.clockOn c then s else
  let h := s.chain c
  let first := s.clockEdges c h.pos
  let n := s.clockEdges c upTo - first
  let codes := f.codes.take n
  let h := codes.zipIdx.foldl (fun h p => s.chainCode c (first + p.2) p.1 h) h
  let sat := h.sat
  let h : Chain := if codes.length < n then { Chain.init with nextCyc := h.nextCyc, nextK := h.nextK } else { h with sat := (0, 0) }
  let s := s.setChain c { h with pos := max h.pos upTo }
  let s := if sat.2 = 0 then s else s.filtOverflow c sat.1 sat.2
  if c < 48 then s else s.addSat R.AFE_CH_STAT_EYE_ERR c (eyeErrors { f with codes := codes })

/-! ### Tap samples to resampler samples (R213, R223, R226, R241) -/

/-- Samples per cycle of a channel, 0 for tap only (R223). -/
def rsN (s : State) (c : Nat) : Nat := [0, 128, 256, 512].getD (s.rd R.FILT_CFG_RS_MODE c) 0

/-- The coefficient of the prototype at a position in 1/1,024 tap from its middle, interpolated between adjacent branches by
`r` of `den` (R226). -/
def protoCoef (mode : Nat) (at_ r den : Int) : Int :=
  Config.proto mode at_.natAbs * (den - r) + Config.proto mode (at_ + 1).natAbs * r

/-- What the resampler evaluates at the instant t from the taps of its window, newest first, of which `half` lie after t and the
next one at or before it (R226). -/
def resampleAt (s : State) (c : Nat) (w : List TapSample) (half : Nat) (t : Int) : Int :=
  let mode := s.rd R.FILT_CFG_RS_MODE c
  let m := ((w.drop half).head?.map (·.t)).getD t
  let den := 16 * s.cicR c * s.clockDiv c * 2000000
  let q := (t - m) * 3072 / den
  let r := (t - m) * 3072 % den
  let sum := sumInt (w.zipIdx.map fun p => protoCoef mode (((p.2 : Int) - half) * 1024 + q) r den * p.1.v)
  idivRound sum (den * 2 ^ 31)

/-- The coil integrator (R241): y of this sample, and out. `last` are the samples before it, newest first; `p` is the period
of the grid cycle, N the samples in it, `fnom` the nominal frequency. -/
def coilOut (last : List GridSample) (x : Int) (p n fnom : Nat) : Int × Int :=
  let (x', y') := match last with
    | g :: _ => (g.x, g.y)
    | [] => (x, 0)
  let y := y' + idivRound ((x + x') * p * twoPi * fnom) (2 * n * 10 ^ 9 * 2 ^ 32)
  let ys := y :: (last.take (n - 1)).map (·.y)
  let z := y * ys.length - sumInt ys
  (y, idivRound (z * sin64 1 (2 * n) * (2 * n) * 2 ^ 64) (ys.length * (cos64 1 (2 * n)).toNat * twoPi.toNat * 2 ^ 32))

/-- A current channel takes the coil integrator (R182, R241). -/
def isCoil (s : State) (c : Nat) : Bool := decide (c < 32) && s.flag R.AFE_MOD_CFG_SENSOR c

/-- The resampler takes its next step on a channel (R213, R216, R223): a sample at the next grid instant once its window is
whole; instants that the taps no longer reach are passed over without a sample. None where it must wait. -/
def resampleNext (s : State) (c : Nat) : Option State :=
  let h := s.chain c
  let n := s.rsN c
  let half := halfSpan (s.rd R.FILT_CFG_RS_MODE c)
  let k := s.trk (s.rd R.FILT_CFG_TRK c)
  let go := fun (j i : Nat) => s.setChain c { h with nextCyc := if i = n then j + 1 else j, nextK := if i = n then 0 else i }
  match k.cycles.find? fun g => g.no == h.nextCyc with
  | none => match k.cycles.getLast? with
    | some g => if h.nextCyc < g.no then some (go g.no 0) else none
    | none => none
  | some g =>
    let t : Int := g.z * 65536 + h.nextK * g.p * 65536 / n
    let rest := h.taps.dropWhile fun a => decide (t < a.t)
    let after := h.taps.takeWhile fun a => decide (t < a.t)
    if after.length < half || h.taps = [] then none
    else if rest.length < half + 1 then
      match h.taps.getLast? with
      | some a => some (if ((g.z + g.p : Nat) : Int) * 65536 ≤ a.t then go (g.no + 1) 0 else go g.no (h.nextK + 1))
      | none => none
    else
      let w := after.drop (after.length - half) ++ rest.take (half + 1)
      let x := s.resampleAt c w half t
      let last := s.samplesOf c
      let (y, v) := if s.isCoil c then
          coilOut last x g.p n (if s.flag R.FILT_TRK_CFG_FNOM (s.rd R.FILT_CFG_TRK c) then 60 else 50)
        else (0, x)
      let fl := flagBits (w.any fun a => bit a.fl 1) (w.any fun a => bit a.fl 2) g.free (s.fadeWeight c t).2.2
        (s.flag R.PWR_STAT_MTB_HOLDOVER) g.step (s.flag R.FILT_STAT_SETTLING c)
      some ((go g.no (h.nextK + 1)).setSamples c ((⟨g.no, h.nextK, t, x, y, v, fl⟩ :: last).take 7168))

/-- The resampler of a channel goes on while it can, at most so many steps. -/
def resample (c : Nat) : Nat → State → State
  | 0, s => s
  | f + 1, s => match s.resampleNext c with
    | some s' => resample c f s'
    | none => s

/-- The cycle that a relock has stretched or shortened is resampled anew, with its samples respaced (R225). -/
def respace (s : State) (m no : Nat) : State :=
  forEach ((List.range 64).filter fun c => s.afeEn c && s.rd R.FILT_CFG_TRK c == m && s.rd R.FILT_CFG_RS_MODE c != 0) (fun c s =>
    let h := s.chain c
    let s := if no ≤ h.nextCyc then s.setChain c { h with nextCyc := no, nextK := 0 } else s
    s.setSamples c ((s.samplesOf c).filter fun g => decide (g.cyc < no))) s

/-- What has come from the converter die up to a position on XTAL49 goes through every chain. -/
def feedAll (s : State) (upTo : Nat) (feed : List Feed) : State :=
  forEach (List.range 64) (fun c s =>
    if !s.afeEn c then s else
    let s := s.feedChan upTo c ((feed.find? fun f => f.chan == c).getD ⟨c, [], [], []⟩)
    if s.rd R.FILT_CFG_RS_MODE c = 0 then s else resample c 2048 s) s

end State
end Sys2Proof.Machine
end

