-- ==== Sys2Proof/Machine/CycleOps.lean ====
section
/-! DEFINITION. The quantities of a meter point from its samples (R242 to R254): grid cycles and their energy, windows,
harmonics, Urms(1/2), the control-cycle snapshot (R258), the pulses (R273, R275) and the waveform captures. -/

namespace Sys2Proof.Machine

/-! ### Sums, angles -/

/-- Two sums together. -/
def PhaseSum.add (a b : PhaseSum) : PhaseSum :=
  ⟨a.n + b.n, a.u + b.u, a.i + b.i, a.uu + b.uu, a.ii + b.ii, a.ui + b.ui, a.ur + b.ur, a.uj + b.uj, a.ir + b.ir, a.ij + b.ij,
    a.q + b.q, a.cycles + b.cycles⟩

/-- Sums of phases together, the shorter list padded with nothing. -/
def addSums : List PhaseSum → List PhaseSum → List PhaseSum
  | [], b => b
  | a, [] => a
  | x :: a, y :: b => x.add y :: addSums a b

/-- The integer square root of a number below 2^384. -/
def isqrtW (n : Nat) : Nat := sqrtFrom 192 0 n

/-- The angle of a vector in the first quadrant in 0.0001°, 0 to 900,000, found bit by bit. -/
def angleFrom (x y : Int) : Nat → Nat → Nat
  | 0, a => a
  | b + 1, a =>
    let a' := a + 2 ^ b
    angleFrom x y b (if a' ≤ 900000 && decide (sinQ a' 3600000 * x ≤ cosQ a' 3600000 * y) then a' else a)

/-- The angle of a vector in 0.0001°, above −180° up to 180°; 0 of the zero vector. (DESIGN CHOICE, log 244) -/
def angleOf (re im : Int) : Int :=
  if re = 0 && im = 0 then 0 else
  let a : Int :=
    if 0 ≤ re && 0 ≤ im then angleFrom re im 20 0
    else if re < 0 && 0 ≤ im then 900000 + angleFrom im (-re) 20 0
    else if re < 0 then 1800000 + angleFrom (-re) (-im) 20 0
    else 2700000 + angleFrom (-im) re 20 0
  if 1800000 < a then a - 3600000 else a

/-- Insert into a rising list without repeats. -/
def putIn (x : Nat) : List Nat → List Nat
  | [] => [x]
  | y :: r => if x < y then x :: y :: r else if x = y then y :: r else y :: putIn x r

/-- One sample of a meter point: its time in 2^-16 ns, its index, the voltage and current codes of a phase in 1/256 code. -/
structure Pair where
  t : Int
  k : Nat
  u : Int
  i : Int
  deriving DecidableEq, Repr

namespace State

/-! ### Samples -/

/-- The grid cycles of a window: 10 at 50 Hz, 12 at 60 Hz. -/
def winLen (s : State) (m : Nat) : Nat := if s.flag R.FILT_TRK_CFG_FNOM (s.mpTrk m) then 12 else 10

/-- Phase elements of a meter point's type. -/
def elements (s : State) (m : Nat) : Nat := if s.rd R.MET_CFG_TYPE m = 2 then 3 else 1

/-- The channel of a role index of a meter point. -/
def roleChan (s : State) (m i : Nat) : Nat := (s.roles m).getD i 0x7F

/-- A channel's resampler samples of a grid cycle that count, oldest first: none while they settle (R254), none of an absent
channel (R33). -/
def cycleSamples (s : State) (c no : Nat) : List GridSample :=
  if s.chAbsent c then [] else ((s.samplesOf c).filter fun g => g.cyc == no && !bit g.fl 7).reverse

/-- Voltage and current samples of one grid instant belong together (R213). -/
def pairUp (us is : List GridSample) : List Pair :=
  us.filterMap fun u => (is.find? fun i => i.k == u.k).map fun i => ⟨u.t, u.k, u.v, i.v⟩

/-- A channel's tap samples of an interval of times, oldest first, where they count. -/
def tapSamples (s : State) (c from_ to_ : Nat) : List TapSample :=
  if s.chAbsent c then [] else
    ((s.chain c).taps.filter fun a => decide ((from_ : Int) * 65536 ≤ a.t) && decide (a.t < (to_ : Int) * 65536) && !bit a.fl 7).reverse

/-- On DC each tap sample of the current goes with the voltage's latest one at or before it. (DEDUCED, log 83) -/
def pairTaps (us is : List TapSample) : List Pair :=
  is.filterMap fun i => ((us.reverse).find? fun u => decide (u.t ≤ i.t)).map fun u => ⟨i.t, 0, u.v, i.v⟩

/-- The sums over a phase's samples of one grid cycle of N samples (R242). -/
def sumPairs (ps : List Pair) (n : Nat) : PhaseSum :=
  let sum := fun (f : Pair → Int) => sumInt (ps.map f)
  ⟨ps.length, sum (·.u), sum (·.i), sum fun p => p.u * p.u, sum fun p => p.i * p.i, sum fun p => p.u * p.i,
    sum fun p => p.u * cosQ p.k n, -(sum fun p => p.u * sinQ p.k n), sum fun p => p.i * cosQ p.k n, -(sum fun p => p.i * sinQ p.k n),
    0, 1⟩

/-- The sums of the neutral, a current alone. -/
def sumOne (vs : List Int) : PhaseSum :=
  { PhaseSum.init with n := vs.length, i := sumInt vs, ii := sumInt (vs.map fun v => v * v), cycles := 1 }

/-! ### Quantities of sums (R240, R242) -/

/-- An rms in µV or µA from a sum of squares of codes and the scale of a role. -/
def rmsOf (sq : Int) (n scale : Nat) : Nat := isqrtW (sq.toNat * scale * scale / (max 1 n * 2 ^ 48))

/-- A mean in µV or µA. -/
def meanOf (sum : Int) (n scale : Nat) : Int := idivRound (sum * scale) (max 1 n * 2 ^ 24)

/-- P in mW from a sum of products. -/
def powerOf (s : State) (m : Nat) (ui : Int) (n : Nat) : Int :=
  idivRound (ui * s.rd R.MET_SCALE_KV m * s.rd R.MET_SCALE_KI m) (max 1 n * 2 ^ 48 * 10 ^ 9)

/-- Q in mvar of one grid cycle: Im(U1 · conj(I1)). -/
def reactiveOf (s : State) (m : Nat) (a : PhaseSum) : Int :=
  let im := a.uj * a.ir - a.ur * a.ij
  idivRound (2 * im * s.rd R.MET_SCALE_KV m * s.rd R.MET_SCALE_KI m) (max 1 (a.n * a.n) * 2 ^ 112 * 10 ^ 9)

/-- The active increment in pWh of a sum of products over samples of Δt = p/N ns. -/
def energyOf (s : State) (m : Nat) (ui : Int) (p n : Nat) : Int :=
  idivRound (ui * s.rd R.MET_SCALE_KV m * s.rd R.MET_SCALE_KI m * p) (max 1 n * 2 ^ 48 * (36 * 10 ^ 11))

/-! ### Parts (R251) -/

/-- The instants that cut a meter point's cycle: its session's open and close, those of the ledger sessions on it, of records
that wait, of a boundary, and the second edge. -/
def cutsOf (s : State) (m : Nat) : List Nat :=
  [s.rd R.MET_SESS_T_OPEN m, (s.mp m).sessEnd1 - 1, s.secEdge]
    ++ ((List.range 8).filter fun n => (s.lsess n).mp == m).flatMap (fun n => [(s.lsess n).tOpen, (s.lsess n).tClose])
    ++ (s.ledger.pends.filter fun p => p.mp == m).map (·.at_)
    ++ (match s.ledger.bound with
      | some b => [b.at_]
      | none => [])

/-- The ends of the parts of an interval. -/
def partEnds (s : State) (m start stop : Nat) : List Nat :=
  ((s.cutsOf m).filter fun b => decide (start < b) && decide (b < stop)).foldl (fun l b => putIn b l) [] ++ [stop]

/-- The parts of an interval with what the phases' samples of each part come to: a sample whose time equals a boundary
belongs after it. `dt` is Δt as a period and how many samples it holds. -/
def partsOf (s : State) (m start : Nat) (phases : List (List Pair)) (dt : Nat × Nat) (dc : Bool) : List Nat → List CyclePart
  | [] => []
  | e :: r =>
    let mine := phases.map fun ps => ps.filter fun p => decide ((start : Int) * 65536 ≤ p.t) && decide (p.t < (e : Int) * 65536)
    let inc := fun (p : Pair) => s.energyOf m (p.u * p.i) dt.1 dt.2
    let act := if dc then (mine.headD []).map inc
      else mine.map fun ps => s.energyOf m (sumInt (ps.map fun p => p.u * p.i)) dt.1 dt.2
    let steps := (mine.headD []).map fun p =>
      (p.t, inc p + sumInt ((mine.drop 1).map fun ps => ((ps.find? fun q => q.k == p.k).map inc).getD 0))
    ⟨e, act, steps⟩ :: s.partsOf m e phases dt dc r

/-- Sample flags as QF bits (R254): INVALID, FREE_RUN, HOLDOVER, STEP, BLEND. -/
def qfOf (fl : Nat) : Nat :=
  b2n (bit fl 1 || bit fl 2 || bit fl 7) + 2 * b2n (bit fl 3) + 4 * b2n (bit fl 5) + 16 * b2n (bit fl 6) + 32 * b2n (bit fl 4)

/-- The quality of samples together, with ABSENT where a named channel is (R254). -/
def quality (s : State) (m : Nat) (fls : List Nat) : Nat :=
  fls.foldl (fun a f => Nat.lor a (qfOf f)) (8 * b2n ((s.mpChans m).any s.chAbsent))

/-- A grid cycle of an AC meter point from its samples, ended at `stop` (R242, R251). -/
def acCycle (s : State) (m : Nat) (g : GridCycle) (stop : Nat) : Cycle :=
  let n := s.rsN ((s.mpChans m).headD 0)
  let start := (s.mp m).partEnd
  let kv := s.rd R.MET_SCALE_KV m
  let ki := s.rd R.MET_SCALE_KI m
  let inTime := fun (l : List GridSample) => l.filter fun x => decide (x.t < (stop : Int) * 65536)
  let us := fun i => inTime (s.cycleSamples (s.roleChan m i) g.no)
  let is := fun i => inTime (s.cycleSamples (s.roleChan m (3 + i)) g.no)
  let phases := (List.range (s.elements m)).map fun i => pairUp (us i) (is i)
  let sums := phases.map fun ps => let a := sumPairs ps n; { a with q := s.reactiveOf m a }
  let neutral := sumOne ((inTime (s.cycleSamples (s.roleChan m 6) g.no)).map (·.v))
  ⟨g.no, sums.map fun a => ⟨rmsOf a.uu a.n kv, rmsOf a.ii a.n ki, a.q⟩,
    s.partsOf m start phases (g.p, n) false (s.partEnds m start stop),
    s.quality m ((s.mpChans m).flatMap fun c => (s.samplesOf c).filterMap fun x => if x.cyc == g.no then some x.fl else none),
    sums ++ List.replicate (3 - sums.length) PhaseSum.init ++ [neutral]⟩

/-- A 20 ms unit of a DC meter point from its tap samples, ended at `stop` (R243, R247, R250); the current that R252 tests is
the mean of its magnitude over the last 10 ms. (DEDUCED, log 83) -/
def dcUnit (s : State) (m no stop : Nat) : Cycle :=
  let start := (s.mp m).partEnd
  let vc := s.roleChan m 0
  let ic := s.roleChan m 3
  let is := s.tapSamples ic start stop
  let ps := pairTaps (s.tapSamples vc (start - 10 ^ 6) stop) is
  let last := (s.tapSamples ic (stop - 10 ^ 7) stop).map fun a => (a.v.natAbs : Int)
  let tap := 8 * s.cicR ic * s.clockDiv ic * 15625
  let a := { sumPairs ps 1 with ur := 0, uj := 0, ir := 0, ij := 0 }
  ⟨no, [⟨(meanOf a.u a.n (s.rd R.MET_SCALE_KV m)).natAbs, (meanOf (sumInt last) last.length (s.rd R.MET_SCALE_KI m)).natAbs, 0⟩],
    s.partsOf m start [ps] (tap, 768) true (s.partEnds m start stop),
    s.quality m ((s.tapSamples vc start stop ++ is).map (·.fl)), [a]⟩

/-! ### Pulses (R273, R275) -/

/-- When a counter that rises by `total` over a part has risen by `at_` of it, in ns: between the samples of the part where
the sum of their increments passes it, by their share; without them in proportion to time.
(DESIGN CHOICE, log 81) -/
def passAt (steps : List (Int × Int)) (start stop at_ total : Nat) : Nat :=
  let all := (sumInt (steps.map (·.2))).natAbs
  if all = 0 then start + (stop - start) * at_ / max 1 total
  else
    let goal := at_ * all / max 1 total
    let sgn : Int := if 0 ≤ sumInt (steps.map (·.2)) then 1 else -1
    let r := steps.foldl (fun (a : Int × Int × Option Int) p =>
      let sum := a.1 + sgn * p.2
      match a.2.2 with
      | some _ => (sum, p.1, a.2.2)
      | none =>
        if (goal : Int) ≤ sum then
          (sum, p.1, some (a.2.1 + (p.1 - a.2.1) * (goal - a.1) / max 1 (sum - a.1)))
        else (sum, p.1, none)) ((0 : Int), (start : Int) * 65536, none)
    min stop (max start ((r.2.2.getD ((stop : Int) * 65536)) / 65536).toNat)

/-- Pulses that fall due as a counter rises over a part (R273, R275): each may start 30 ms after the instant at which the
counter passes its multiple, 10 ms on DC. -/
def pulseDue (s : State) (m start stop : Nat) (steps : List (Int × Int)) (before : List Nat) : State :=
  forEach ((List.range 8).filter fun k => s.flag R.MET_PULSE_EN k && s.rd R.MET_PULSE_MP k == m) (fun k s =>
    let qty := s.rd R.MET_PULSE_QTY k
    let const := s.rd R.MET_PULSE_CONST k
    let c0 := before.getD qty 0
    let c1 := s.rd R.MET_ENERGY_COUNT (10 * m + qty)
    let n := c1 * const / 10 ^ 9
    let p := s.met.pulses.get Pulse.init k
    let late := if s.rd R.MET_CFG_TYPE m = 3 then 10 ^ 7 else 3 * 10 ^ 7
    let new := (List.range (n - p.passed)).map fun i =>
      let goal := ((p.passed + i + 1) * 10 ^ 9 + max 1 const - 1) / max 1 const
      passAt (if qty < 2 then steps else []) start stop (goal - c0) (c1 - c0) + late
    ({ s with met := { s.met with pulses := s.met.pulses.put Pulse.init k { p with passed := n, due := p.due ++ new } } } : State).backlog k) s

/-! ### Energy -/

/-- Increments in pWh join what the counters hold below 1 µWh: the whole µWh of them, and what stays. -/
def carry (rem inc : List Nat) : List Nat × List Nat :=
  let t := (List.range 8).map fun k => rem.getD k 0 + inc.getD k 0
  (t.map (· / 10 ^ 6), t.map (· % 10 ^ 6))

/-- One part of a cycle is accounted for: counters, accounts, pulses, and the records that waited for its end. -/
def putPart (s : State) (m start : Nat) (p : CyclePart) (inc : List Nat) : State :=
  let before := s.counters m
  let (whole, rem) := carry (s.mp m).rem inc
  let s := (s.modMp m fun x => { x with rem := rem }).energyPart m start p.until_ whole
  (s.pulseDue m start p.until_ p.steps before).flushPends m p.until_

/-- A finished window enters a running calibration measurement, which begins at its first window boundary (R267). -/
def calSeen (s : State) (m : Nat) (w : Window) : State :=
  match s.met.runs.get none m with
  | some r =>
    let r := if r.begun.isNone then { r with begun := some w.stop, stop := w.stop }
      else { r with flags := Nat.lor r.flags w.flags, sums := addSums r.sums w.sums, stop := w.stop,
                    cyc := (r.cyc.1 + w.len, r.cyc.2 + (w.stop - w.start)) }
    { s with met := { s.met with runs := s.met.runs.put none m (some r) } }
  | none => s

/-- A grid cycle, or a unit of DC, joins the window (R243, R254); after 10 or 12 cycles, or at a multiple of 200 ms on DC, the
window is complete. -/
def windowAdd (s : State) (m : Nat) (c : Cycle) (stop : Nat) : State :=
  let s := s.modMp m fun p => { p with
    winFlags := Nat.lor p.winFlags c.qf, secFlags := Nat.lor p.secFlags c.qf, winCyc := p.winCyc + 1, win := addSums p.win c.sums }
  let p := s.mp m
  let done := if s.rd R.MET_CFG_TYPE m = 3 then stop % (2 * 10 ^ 8) == 0 else decide (s.winLen m ≤ p.winCyc)
  if !done then s else
  let w : Window := ⟨p.win, p.winFlags, c.no + 1 - p.winCyc, p.winCyc, p.winStart, stop⟩
  (s.modMp m fun p => { p with win := [], winFlags := 0, winCyc := 0, winStart := stop, ready := some w }).calSeen m w

/-- A cycle's quantities are computed (R242, R247, R250 to R254): its energy, its flags, its direction. -/
def cycleEnergy (s : State) (m : Nat) (c : Cycle) (stop : Nat) : State :=
  let start := (s.mp m).partEnd
  let dc := s.rd R.MET_CFG_TYPE m == 3
  let on := (List.range (s.elements m)).filter fun p => s.contributes m p ((c.phases.getD p ⟨0, 0, 0⟩).irms)
  let s := s.modMp m fun p => { p with contrib := on.foldl (fun a i => a + 2 ^ i) 0 }
  let incs := if on = [] then c.parts.map fun _ => List.replicate 8 0 else if dc then dcParts c else s.cycleParts m c on
  let total := sumInt (on.map fun i => sumInt (c.parts.map fun p => if dc then sumInt p.act else p.act.getD i 0))
  let s := (forEach (c.parts.zip incs) (fun p (a : Nat × State) => (p.1.until_, a.2.putPart m a.1 p.1 p.2)) (start, s)).2
  let s := if on = [] then s else s.flowTrack m (decide (total < 0)) start
  s.windowAdd m c stop

/-! ### Waveform captures -/

/-- A value as a 24-bit word. -/
def word24 (v : Int) : Int := max (-8388608) (min 8388607 (idivRound v 256))

/-- The samples of a grid cycle, or the tap samples of a unit of DC, go to a waveform capture (table MET opcodes): the roles
that the map does not name read 0; the flags are those of all channels together. (DESIGN CHOICE, log 81) -/
def waveCycle (s : State) (m no start stop : Nat) : State :=
  if !(s.wave m).on then s else
  let dc := s.rd R.MET_CFG_TYPE m == 3
  let chans := s.roles m
  let at_ := fun (c : Nat) (t : Int) (k : Nat) =>
    if dc then ((s.chain c).taps.find? fun a => decide (a.t ≤ t)).map fun a => (a.v, a.fl)
    else ((s.samplesOf c).find? fun g => g.cyc == no && g.k == k).map fun g => (g.v, g.fl)
  let times : List (Int × Nat) := if dc then (s.tapSamples (s.roleChan m 3) start stop).map fun a => (a.t, 0)
    else ((s.samplesOf ((s.mpChans m).headD 0)).filter fun g => g.cyc == no).reverse.map fun g => (g.t, g.k)
  forEach times (fun t s =>
    let vs := chans.map fun c => if c = 0x7F then none else at_ c t.1 t.2
    let fl := vs.filterMap fun v => v.map (·.2)
    let ored := fl.foldl Nat.lor 0
    let mask := ored / 2 * 2 + b2n (fl.all fun f => bit f 0)
    s.waveAdd m (t.1 :: vs.map (fun v => (v.map fun x => word24 x.1).getD 0) ++ [(mask : Int), (t.2 : Int)])) s

/-! ### The cycles that are complete -/

/-- The samples of a grid cycle are complete on every channel of a meter point that is present. -/
def cycleReady (s : State) (m no : Nat) : Bool :=
  (s.mpChans m).all fun c => s.chAbsent c || decide (no < (s.chain c).nextCyc)

/-- The tap samples before an instant are complete on every channel of a DC meter point that is present. -/
def unitReady (s : State) (m stop : Nat) : Bool :=
  (s.mpChans m).all fun c => s.chAbsent c || match (s.chain c).taps.head? with
    | some a => decide ((stop : Int) * 65536 ≤ a.t)
    | none => false

/-- Meter the next grid cycle of a meter point, or the next unit of DC, if its samples are complete. -/
def meterNext (s : State) (m : Nat) : Option State :=
  if !s.mpRuns m then none else
  let j := (s.mp m).next
  let put := fun (c : Cycle) (start stop : Nat) =>
    ((s.waveCycle m j start stop).cycleEnergy m c stop).modMp m fun p => { p with next := j + 1 }
  if s.rd R.MET_CFG_TYPE m = 3 then
    let stop := (j + 1) * (2 * 10 ^ 7)
    if s.mtb < stop || !s.unitReady m stop then none else some (put (s.dcUnit m j stop) (s.mp m).partEnd stop)
  else
    let k := s.trk (s.mpTrk m)
    match k.cycles.find? fun g => g.no == j with
    | some g => if g.no < k.no && s.cycleReady m j then some (put (s.acCycle m g (g.z + g.p)) g.z (g.z + g.p)) else none
    | none => match k.cycles.getLast? with
      | some g => if j < g.no then some (s.modMp m fun p => { p with next := g.no }) else none
      | none => none

/-- Meter what is complete of a meter point, at most so many cycles. -/
def meterSome (m : Nat) : Nat → State → State
  | 0, s => s
  | f + 1, s => match s.meterNext m with
    | some s' => meterSome m f s'
    | none => s

/-- Meter what is complete of the meter points on a tracker (R242, R247). -/
def meterTrk (s : State) (k : Nat) : State :=
  forEach ((List.range 12).filter fun m => s.mpRuns m && s.mpTrk m == k) (fun m s => meterSome m 40 s) s

/-- What has come from the converter die is metered. -/
def meterAll (s : State) (upTo : Nat) (feed : List Feed) : State :=
  forEach ((List.range 12).filter fun m => s.mpRuns m) (fun m s => meterSome m 40 s) (s.feedAll upTo feed)

/-- What Last pour flushes at L (R284): the converters' samples of times before L, which come up to 4.7 ms after it, and of each
meter point the cycle in progress, classified at L. (DESIGN CHOICE, log 245) -/
def meterStop (s : State) (feed : List Feed) : State :=
  let l := s.mtb
  let s := s.meterAll (xtalPos (l + 4700000)) feed
  forEach ((List.range 12).filter fun m => s.mpRuns m && decide ((s.mp m).partEnd < l)) (fun m s =>
    if s.rd R.MET_CFG_TYPE m = 3 then s.cycleEnergy m (s.dcUnit m (s.mp m).next l) l
    else match (s.trk (s.mpTrk m)).cycles.find? fun g => g.no == (s.mp m).next with
      | some g => s.cycleEnergy m (s.acCycle m g l) l
      | none => s) s

/-! ### The snapshot (R258) -/

/-- The latest value of a channel in mV or mA: the rms of the last N/2 released samples, or on DC the magnitude of the mean of the
tap samples released within the last 1 ms. -/
def latestOf (s : State) (c scale : Nat) (dc : Bool) : Option Nat :=
  if s.chAbsent c then none
  else if dc then
    let vs := ((s.chain c).taps.filter fun a => decide (s.mtb < a.em + 10 ^ 6)).map (·.v)
    if vs = [] then none else some (divRound (meanOf (sumInt vs) vs.length scale).natAbs 1000)
  else
    let vs := ((s.samplesOf c).take (s.rsN c / 2)).map (·.v)
    if vs = [] then none else some (divRound (rmsOf (sumInt (vs.map fun v => v * v)) vs.length scale) 1000)

/-- The snapshot of a meter point (R33, R258): nothing unless it runs, and nothing of a channel that is absent. -/
def snapOf (s : State) (m : Nat) : Snap :=
  if !s.mpRuns m then ⟨[], []⟩ else
  let dc := s.rd R.MET_CFG_TYPE m == 3
  let row := fun (base scale : Nat) => (List.range (s.elements m)).map fun i => s.latestOf (s.roleChan m (base + i)) scale dc
  ⟨row 0 (s.rd R.MET_SCALE_KV m), row 3 (s.rd R.MET_SCALE_KI m)⟩

/-! ### Urms(1/2) (R260) -/

/-- The voltages of the present phases, phase and µV, over the grid cycle that ends at a half grid cycle, with the instant of its end: half
cycle 2j + h ends at the start of cycle j + 1 for h = 1, and in the middle of cycle j for h = 0. None until its samples are
complete. -/
def halfRms (s : State) (m half : Nat) : Option (Nat × List (Nat × Nat)) :=
  let j := half / 2
  let k := s.trk (s.mpTrk m)
  let n := s.rsN ((s.mpChans m).headD 0)
  match k.cycles.find? fun g => g.no == j with
  | none => none
  | some g =>
    let mid := half % 2 = 0
    let there := (s.mpChans m).all fun c => s.chAbsent c || decide (j < (s.chain c).nextCyc)
      || (mid && (s.chain c).nextCyc == j && decide (n / 2 ≤ (s.chain c).nextK))
    if !there || n = 0 then none else
    let one := fun c => (s.cycleSamples c j).filter fun x => !mid || decide (x.k < n / 2)
    let old := fun c => if mid then (s.cycleSamples c (j - 1)).filter fun x => decide (n / 2 ≤ x.k) else []
    let us := (List.range (s.elements m)).filterMap fun i =>
      let c := s.roleChan m i
      let vs := ((one c ++ old c).map fun x => x.v * x.v)
      if vs = [] then none else some (i, rmsOf (sumInt vs) vs.length (s.rd R.MET_SCALE_KV m))
    some (if mid then g.z + g.p / 2 else g.z + g.p, us)

/-! ### Harmonics (R245) -/

/-- The square of the magnitude of a DFT bin over the samples of a window, values with their positions, of `n` positions. -/
def binSq (vs : List (Nat × Int)) (b n : Nat) : Nat :=
  let re := sumInt (vs.map fun p => p.2 * cosQ (b * p.1) n)
  let im := sumInt (vs.map fun p => p.2 * sinQ (b * p.1) n)
  (re * re + im * im).toNat

/-- The samples of a channel over a window of grid cycles by position, N to a cycle. -/
def windowSamples (s : State) (c n : Nat) (w : Window) : List (Nat × Int) :=
  if s.chAbsent c then [] else
    ((s.samplesOf c).filter fun g => decide (w.first ≤ g.cyc) && decide (g.cyc < w.first + w.len) && !bit g.fl 7).map fun g =>
      ((g.cyc - w.first) * n + g.k, g.v)

/-- What the trapezoidal integrator of a coil leaves short at bin `b`, divided out exactly (R241, design note): the square of
the factor tan(π b/(w N)) w / (b tan(π/N)), times 2^32. -/
def coilGain (b w n : Nat) : Nat :=
  let t := fun (a d : Nat) => (sin64 a d, cos64 a d)
  let (sb, cb) := t b (2 * w * n)
  let (s1, c1) := t 1 (2 * n)
  let num := sb * c1 * w
  let den := cb * s1 * b
  if den = 0 then 2 ^ 32 else (num * num * 2 ^ 32 / (den * den)).toNat

/-- One row of harmonics of a channel over a window: subgroup, interharmonic subgroup and group of an order in 0.0001 % of the
fundamental; order 1's subgroup is the fundamental in µV or µA. (DESIGN CHOICE, log 244) -/
def harmOf (s : State) (c n scale order : Nat) (w : Window) : Nat × Nat × Nat :=
  let vs := s.windowSamples c n w
  let k := w.len
  let sq := fun b =>
    let v := binSq vs b (k * n)
    if s.isCoil c && b != 0 then v * coilGain b k n / 2 ^ 32 else v
  let sum := fun (lo hi : Nat) => ((List.range (hi + 1 - lo)).map fun i => sq (lo + i)).foldl (· + ·) 0
  let fund := max 1 (sq k)
  let pct := fun (v : Nat) => isqrtW (v * 10 ^ 12 / fund)
  let mid := k * order
  let isg := pct (sum (mid + 2) (mid + k - 2))
  if order = 0 then (0, isg, 0)
  else if order = 1 then (isqrtW (2 * sq k * scale * scale / (max 1 (vs.length * vs.length) * 2 ^ 112)), isg, 0)
  else
    let h := k / 2
    (pct (sum (mid - 1) (mid + 1)), isg, pct (sum (mid - h + 1) (mid + h - 1) + (sq (mid - h) + sq (mid + h)) / 2))

end State
end Sys2Proof.Machine
end

