-- ==== Sys2Proof/Machine/LswOps.lean ====
section
/-! DEFINITION. The load switch channels: turning on and off, trips, budgets, holding (R432 to R452). A channel's state is
LSW[n].STAT.STATE: 0 OFF, 1 INRUSH, 2 ON, 3 RETRY_WAIT, 4 COOL_WAIT, 5 QUAD_WAIT, 6 LATCHED, 7 DISABLED. -/

namespace Sys2Proof.Machine
namespace State

/-- A channel. -/
def lswCh (s : State) (n : Nat) : LswCh := s.lsw.chans.get LswCh.init n
/-- Change a channel. -/
def modLsw (s : State) (n : Nat) (f : LswCh → LswCh) : State :=
  { s with lsw := { s.lsw with chans := s.lsw.chans.upd LswCh.init n f } }

/-- A channel's state. -/
def lswSt (s : State) (n : Nat) : Nat := s.rd R.LSW_STAT_STATE n
/-- A channel enters a state now; its PWM starts anew. -/
def lswGo (s : State) (n st : Nat) : State :=
  (s.wr R.LSW_STAT_STATE n st).modLsw n fun c => { c with
    since := s.mtb, pwm := false, edge := (0, 0), last := (0, 0), onNs := 0, onFrom := s.mtb }
/-- The switch is on. -/
def lswOn (s : State) (n : Nat) : Bool := s.lswSt n == 1 || s.lswSt n == 2

/-! ### PWM (R442 to R444) -/

/-- PWM frequency in effect on a bank. -/
def lswHz (s : State) (b : Nat) : Nat := max 1 (s.lsw.hz.get 1000 b)

/-- The edges of a channel in period `no` of its bank, on a clock of 32 MHz that counts from the MTB's zero: the rising edge
PHASE / 256 after the period start, and the on-time in clocks, rounded down, with one more in as many periods of a run of 16 as
make the sum over the run exact to one clock, spread over it. (DESIGN CHOICE, log 247) -/
def pwmEdge (hz no duty phase : Nat) : Nat × Nat :=
  let run := duty * 125000 / hz
  let i := no % 16
  ((256 * no + phase) * 125000 / hz, (i + 1) * run / 16 - i * run / 16)

/-- The switch conducts at this instant (R442, R444): in INRUSH, in ON until its PWM starts and with DUTY 4,095, and in the
on-phases, which wrap into the next period. -/
def lswConducts (s : State) (n : Nat) : Bool :=
  let c := s.lswCh n
  let now := s.mtb * 4 / 125
  let within := fun (e : Nat × Nat) => decide (e.1 ≤ now) && decide (now < e.1 + e.2)
  s.lswSt n == 1 || (s.lswSt n == 2 && (!c.pwm || c.duty == 4095 || (c.duty != 0 && (within c.edge || within c.last))))

/-- The on-time that the on-state check has sampled up to now (R445): none of on-phases shorter than 40 µs; that of the period
in progress counts when the period ends. -/
def sampledOn (s : State) (n : Nat) (ends : Bool) : Nat :=
  let c := s.lswCh n
  if !c.pwm || c.duty = 4095 then c.onNs + (s.mtb - c.onFrom)
  else if !ends || c.duty = 0 || c.edge.2 < 1280 then c.onNs
  else c.onNs + c.edge.2 * 125 / 4

/-- A PWM period of a bank begins (R442, R444): DUTY and PHASE take effect, and a channel in ON has its next edges. -/
def pwmPeriod (s : State) (n no : Nat) : State :=
  let on := s.lswSt n == 2
  let sum := s.sampledOn n true
  let duty := s.rd R.LSW_PWM_DUTY n
  let phase := s.rd R.LSW_PWM_PHASE n
  let hz := s.lswHz (n / 8)
  s.modLsw n fun c =>
    if on then { c with duty := duty, phase := phase, pwm := true, last := c.edge, edge := pwmEdge hz no duty phase, onNs := sum, onFrom := s.mtb }
    else { c with duty := duty, phase := phase }

/-- A turn-on (R434, R440): while the quad is hot it waits, else INRUSH or ON. A deferred retry is charged only when it
restarts (R441). -/
def turnOn (s : State) (n : Nat) (retry : Bool) : State :=
  if s.flag R.LSW_QUAD_HOT (n / 4) then (s.lswGo n 5).modLsw n fun c => { c with retry := retry }
  else
    let s := s.modLsw n fun c => { c with retry := false }
    let s := if retry then s.wr R.LSW_STAT_RETRIES_LEFT n (s.rd R.LSW_STAT_RETRIES_LEFT n - 1) else s
    s.lswGo n (if s.flag R.LSW_CFG_INRUSH_EN n then 1 else 2)

/-- A channel turns off to a state, whatever pends. -/
def turnOff (s : State) (n st : Nat) : State := (s.lswGo n st).modLsw n fun c => { c with held := none, retry := false }

/-- A trip (R435, R437, R438): causes 0 overcurrent, 1 short in inrush, 2 thermal. -/
def lswTrip (s : State) (n cause ma tj : Nat) : State :=
  let s := s.incSat R.LSW_STAT_TRIPS n
  let left := s.rd R.LSW_STAT_RETRIES_LEFT n
  let latch := if cause = 2 then s.flag R.LSW_CFG_THERM_LATCH n || s.lswSt n == 3 else left == 0
  let s :=
    if latch then (s.turnOff n 6).wr (if cause = 2 then R.LSW_STAT_LATCH_TH else R.LSW_STAT_LATCH_OC) n 1
    else if cause = 2 then s.lswGo n 4
    else (s.lswGo n 3).modLsw n fun c => { c with due := s.mtb + s.rd R.LSW_CFG_RETRY_MS n * 10 ^ 6 }
  s.raise Ev.LSW_TRIP n [n, cause, left, b2n latch, ma, tj]

/-- Why a commanded turn-on of one channel is refused (R434, R439, R449, R450), budgets aside.
(DESIGN CHOICE, log 165) -/
def turnOnBad (s : State) (n : Nat) : Option Nat :=
  let st := s.lswSt n
  if st = 7 || !s.flag R.LSW_CFG_EN n then some St.DISABLED
  else if st = 6 then some St.LSW_LATCHED
  else if st = 3 || st = 4 then some St.LSW_PENDING
  else if s.flag R.LSW_BANK_UV (n / 8) then some St.BANK_LOW
  else if s.flag R.LSW_CFG_SAFE_OFF n && !s.flag R.SAFE_STATUS_SAFE_OK then some St.SAFE_HOLD
  else none

/-- The channels of a turn-on that would exceed a budget (R447): those of a bank beyond 6 A, or all beyond 24 A. -/
def overBudget (s : State) (chans : List Nat) : List Nat :=
  let starting := chans.filter fun n => !s.lswOn n
  let nom := fun (xs : List Nat) => xs.foldl (fun a n => a + s.rd R.LSW_CFG_I_NOM n) 0
  if 24000 < s.rd R.LSW_TOTAL_I_MA + nom starting && nom starting != 0 then starting
  else (List.range 4).flatMap fun b =>
    let mine := starting.filter fun n => n / 8 == b
    if 6000 < s.rd R.LSW_BANK_I_MA b + nom mine && nom mine != 0 then mine else []

/-- The channel that a budget turns off (R448): highest PRIO, then highest current, then lowest number.
(DESIGN CHOICE, log 166) -/
def budgetPick (s : State) (chans : List Nat) (ma : Nat → Nat) : Option Nat :=
  chans.foldl (fun (b : Option Nat) n =>
    match b with
    | none => some n
    | some m =>
      let p := s.rd R.LSW_CFG_PRIO n
      let q := s.rd R.LSW_CFG_PRIO m
      if q < p || (q = p && ma m < ma n) then some n else some m) none

/-- A window's mean is above its limit (R448): limits 0 bank, 1 aggregate current, 2 dissipation.
(DESIGN CHOICE, log 166) -/
def budgetOff (s : State) (chans : List Nat) (ma : Nat → Nat) (limit mean : Nat) : State :=
  match s.budgetPick (chans.filter fun n => s.lswOn n) ma with
  | none => s
  | some n =>
    let s := ((s.turnOff n 0).wr R.LSW_STAT_BUDGET_OFF n 1).incSat R.LSW_BANK_SHED (n / 8)
    s.raise Ev.LSW_BUDGET n [n, limit, mean]

/-- Channel A turns off the channels with SAFE_OFF while SAFE_OK is low (R450). -/
def lswSafeOff (s : State) : State :=
  if s.flag R.SAFE_STATUS_SAFE_OK then s else
  forEach ((List.range 32).filter fun n => s.flag R.LSW_CFG_SAFE_OFF n && ((1 ≤ s.lswSt n && s.lswSt n ≤ 5) || (s.lswCh n).held.isSome))
    (fun n s => (s.turnOff n 0).wr R.LSW_STAT_SAFE_HELD n 1) s

/-- FUNC_DISABLE takes effect on a channel, or on all with instance 0xFF (R451). -/
def lswDisable (s : State) (inst : Nat) : State :=
  forEach ((List.range 32).filter fun n => inst == 0xFF || n == inst) (fun n s => s.turnOff n 7) s

/-- Every channel off at Last pour: no trip is recorded (R452). -/
def lswShed (s : State) : State :=
  forEach ((List.range 32).filter fun n => s.lswSt n != 0 && s.lswSt n != 7) (fun n s => s.turnOff n 0) s

/-- VLSb falls below 5.5 V (R449): the bank's channels are held off without a trip, with the rest of their waits.
(DESIGN CHOICE, log 164) -/
def vlsLow (s : State) (b mv : Nat) : State :=
  if 4 ≤ b || 5500 ≤ mv then s else
  let s := s.wr R.LSW_BANK_VLS_MV b mv
  let s := { s with lsw := { s.lsw with lowAt := s.lsw.lowAt.put 0 b s.mtb } }
  if s.flag R.LSW_BANK_UV b then s else
  let s := (s.wr R.LSW_BANK_UV b 1).raise Ev.LSW_BANK_UV b [b, 1, mv]
  forEach (((List.range 8).map (8 * b + ·)).filter fun n => decide (1 ≤ s.lswSt n) && decide (s.lswSt n ≤ 5)) (fun n s =>
    let st := s.lswSt n
    let now := s.mtb
    let s := if s.lswOn n then s.lswGo n 0 else s
    s.modLsw n fun c => { c with held := some (st, c.due - now) }) s

/-- VLSb has stayed above 6.0 V for 10 ms (R449): held channels turn on again, and waits resume.
(DESIGN CHOICE, log 164) -/
def vlsBack (s : State) (b mv : Nat) : State :=
  if 4 ≤ b || mv ≤ 6000 || !s.flag R.LSW_BANK_UV b || s.mtb < s.lsw.lowAt.get 0 b + 10 ^ 7 then s else
  let s := ((s.wr R.LSW_BANK_VLS_MV b mv).wr R.LSW_BANK_UV b 0).raise Ev.LSW_BANK_UV b [b, 0, mv]
  forEach ((List.range 8).map (8 * b + ·)) (fun n s =>
    match (s.lswCh n).held with
    | none => s
    | some (st, rest) =>
      let now := s.mtb
      let s := s.modLsw n fun c => { c with held := none, due := now + rest }
      if st = 1 || st = 2 then s.turnOn n false else s) s

/-- The fields of LSW[n].STAT. -/
def lswStatFields : List Fld :=
  [R.LSW_STAT_STATE, R.LSW_STAT_I_MA, R.LSW_STAT_I_FINE, R.LSW_STAT_TJ, R.LSW_STAT_RETRIES_LEFT, R.LSW_STAT_OPEN_ON,
   R.LSW_STAT_OPEN_OFF, R.LSW_STAT_LATCH_OC, R.LSW_STAT_LATCH_TH, R.LSW_STAT_BUDGET_OFF, R.LSW_STAT_SAFE_HELD, R.LSW_STAT_TRIPS]

/-- The fields of LSW[n].CFG. -/
def lswCfgFields : List Fld :=
  [R.LSW_CFG_EN, R.LSW_CFG_INRUSH_EN, R.LSW_CFG_ILIM, R.LSW_CFG_INRUSH_A, R.LSW_CFG_INRUSH_MS, R.LSW_CFG_RETRY_N,
   R.LSW_CFG_RETRY_MS, R.LSW_CFG_THERM_LATCH, R.LSW_CFG_OL_RANGE, R.LSW_CFG_OL_MA, R.LSW_CFG_OFF_DIAG, R.LSW_CFG_PRIO,
   R.LSW_CFG_SAFE_OFF, R.LSW_CFG_I_NOM]

/-- The mask of a list of channels. -/
def maskOf (ns : List Nat) : Nat := ns.foldl setBit 0

end State
end Sys2Proof.Machine
end

