-- ==== Sys2Proof/Machine/Cask.lean ====
section
/-! DEFINITION. The commands and events of Casks (03_cask_transactions.md). -/

namespace Sys2Proof.Machine
namespace State

/-- The id CASK_OPEN assigns (R68): the next after the one last assigned, back to 1 after 255, skipping held ones. -/
def nextCaskId (s : State) : Nat :=
  (((List.range 255).map fun k => (s.cask.lastId + k) % 255 + 1).find? fun id => (s.findCask id).isNone).getD 1

/-- Every island has validated and every consent is given or refused (R72, R74): PREPARED, or ABORTED. -/
def validated (s : State) (k : Nat) : State :=
  let c := s.slot k
  if c.st != .preparing then s else
  match s.invalidAct k false with
  | some (st, i, isl) => s.abortCask k (st % 2 ^ 32) i isl (2 ^ 16 * (st / 2 ^ 32))
  | none =>
    if c.needs != 0 && !c.consent then s
    else if let some (i, _) := s.slotRefused c then s.abortCask k St.ABORT_SAFETY i 2
    else
      let s := s.setSlot k { c with st := .prepared, since := s.mtb, ctx := none }
      let s := forEach c.acts (fun a s => s.dispArm k a) s
      match c.ctx with
      | some x => s.complete x St.OK
      | none => s

/-- Commit a prepared Cask by its mode (R76 to R79). -/
def commitCask (s : State) (x : Ctx) (k mode instant : Nat) : State :=
  let lead := s.leadNs
  match mode with
  | 0 => (s.arm k 0 (s.mtb + lead) (some x)).complete x St.ACCEPTED
  | 1 =>
    match s.crossing (s.rd R.CASK_CFG_ZC_SRC) lead (s.rdInt R.CASK_CFG2_ZC_OFFSET_US * 1000) with
    | some c => (s.arm k 1 c (some x)).complete x St.ACCEPTED
    | none => s.complete x St.NO_ZC
  | 2 =>
    if instant < s.mtb + lead + 100000 then s.complete x St.TOO_LATE
    else if s.mtb + 60 * 10 ^ 9 < instant then s.complete x St.BAD_PARAM
    else (s.arm k 2 instant (some x)).complete x St.ACCEPTED
  | 3 => (s.arm k 3 0 (some x)).complete x St.ACCEPTED
  | _ => s.complete x St.BAD_PARAM

/-- A session of an outlet stops because its function is disabled (R84): MSTOP, and its ledger session is closed. One that
the host drives stops likewise. -/
def disableSession (s : State) (n : Nat) : State :=
  match (s.outlet n).st with
  | .ready => s.stopSession n eDISABLED
  | .energy => s.stopSession n eDISABLED
  | .paused => s.stopSession n eDISABLED
  | .stopping => s
  | st => if st.live then (s.caskSafety n).endOrWait n eDISABLED else (s.caskSafety n).stopHosted n eDISABLED

/-- The outlets whose sessions live on a function (R84): an outlet, or the outlets of a meter point; a host-controlled
outlet has one while its ledger session is open or its contactor is closed. -/
def sessionsOf (s : State) (block inst : Nat) : List Nat :=
  (List.range 8).filter fun n =>
    ((s.outlet n).st.live || (s.hostControlled n && ((s.lsess n).opened || s.closed n))) &&
    ((block == 0x03 && n == inst) || ((block == 0x07 || block == 0x08) && s.rd R.OUT_CFG_MP n == inst))

/-- Complete the queued, unstarted commands of a function CANCELLED (R84). Answers how many. -/
def cancelQueued (s : State) (x : Ctx) (block inst : Nat) : Nat × State :=
  let mine := s.host.inflight.filter fun e => e.op / 256 == block && e.inst == inst && !e.accepted && !e.started
    && !(e.ring == x.ring && e.seq == x.seq)
  (mine.length, forEach mine (fun e s => s.complete ⟨s.mtb, e.ring, e.seq, e.tag, 0, 0⟩ St.CANCELLED) s)

/-- Steps 1 to 4 of R84 on a function. `done` marks a disable whose steps 5 and 6 do not follow (R463). -/
def disableSteps (s : State) (x : Ctx) (block inst : Nat) (done : Bool) : State :=
  let (gone, s) := s.cancelQueued x block inst
  let s := if block = 0x0C && inst = 0 then
      forEach (s.regionsIn fun t => t == .queued || t == .armed) (fun r s => s.dropRegion r 1 St.CANCELLED) s else s
  let s := forEach (List.range 16) (fun k s =>
    let c := s.slot k
    match c.acts.findIdx? fun a => actOn block inst a with
    | some i => if c.abortable then s.abortCask k St.ABORT_DISABLED i ((c.acts[i]?.map actIsland).getD 0) else s
    | none => s) s
  let live := s.sessionsOf block inst
  let s := forEach live (fun n s => s.disableSession n) s
  { s with cask := { s.cask with disables := s.cask.disables ++ [⟨block, inst, x, gone, live.length, done⟩] } }

end State

/-- CASK_OPEN (R68). -/
def execCaskOpen (x : Ctx) (s : State) : Host.Outcome State Fault Refusal :=
  .next (s.command x Op.CASK_OPEN 0 none fun s =>
    match (List.range 8).find? fun k => (s.slot k).st == .free with
    | none => s.complete x St.NO_SLOT
    | some k =>
      let id := s.nextCaskId
      let s := { s with cask := { s.cask with lastId := id } }
      (s.setSlot k { CaskSlot.init with
        id := id, st := .opened, ring := x.ring, since := s.mtb, lastStatus := (s.slot k).lastStatus }).complete x St.OK id)

/-- CASK_ACTION (R68 to R70): a Cask-capable command that carries a Cask id. (DESIGN CHOICE, log 41) -/
def execCaskAction (x : Ctx) (act : CaskAct) (s : State) : Host.Outcome State Fault Refusal :=
  .next (s.command x (actOp act) (actFunction act).2 (some act) fun s => s.stage x act)

/-- CASK_PREPARE (R72, R159): completes when the Cask is PREPARED or aborted; the sensors of the outlets it closes are
tested. -/
def execCaskPrepare (x : Ctx) (id expected : Nat) (s : State) : Host.Outcome State Fault Refusal :=
  .next (s.command x Op.CASK_PREPARE 0 none fun s =>
    match s.findCask id with
    | none => s.complete x St.UNKNOWN_CASK
    | some k =>
      let c := s.slot k
      if c.st != .opened then s.complete x St.BAD_STATE
      else if c.acts.length ≠ expected then s.complete x St.COUNT_MISMATCH
      else (s.setSlot k { c with st := .preparing, since := s.mtb, ctx := some x, needs := s.needsMask c.acts }).testCloses c.acts)

/-- CASK_VALIDATION_DONE (R72, R74). -/
def execCaskValidationDone (t k : Nat) (s : State) : Host.Outcome State Fault Refusal :=
  .next (onEvent s t fun s => if k < 8 then s.validated k else s)

/-- CASK_COMMIT (R76 to R79). -/
def execCaskCommit (x : Ctx) (id mode instant : Nat) (s : State) : Host.Outcome State Fault Refusal :=
  .next (s.command x Op.CASK_COMMIT 0 none fun s =>
    match s.findCask id with
    | none => s.complete x St.UNKNOWN_CASK
    | some k => if (s.slot k).st != .prepared then s.complete x St.BAD_STATE else s.commitCask x k mode instant)

/-- CASK_ABORT (R72). Where no action failed, CASK_ABORTED names action 0xFF and the LEDGER island, here as for the time
limits, the retraction and VFAIL. (DESIGN CHOICE, log 214) -/
def execCaskAbort (x : Ctx) (id : Nat) (s : State) : Host.Outcome State Fault Refusal :=
  .next (s.command x Op.CASK_ABORT 0 none fun s =>
    match s.findCask id with
    | none => s.complete x St.UNKNOWN_CASK
    | some k =>
      if (s.slot k).st == .recorded then s.complete x St.TOO_LATE
      else if (s.slot k).abortable then (s.abortCask k St.ABORT_HOST 0xFF 9).complete x St.OK
      else s.complete x St.BAD_STATE)

/-- CASK_QUERY (R71). -/
def execCaskQuery (x : Ctx) (id : Nat) (s : State) : Host.Outcome State Fault Refusal :=
  .next (s.command x Op.CASK_QUERY 0 none fun s =>
    match s.findCask id with
    | none => s.complete x St.UNKNOWN_CASK
    | some k =>
      let c := s.slot k
      s.complete x St.OK (c.tApply % 2 ^ 64 + 2 ^ 64 * c.st.code + 2 ^ 72 * c.acts.length))

/-- FUNC_DISABLE (R84, R422), steps 1 to 4: the block bytes are 0x01 to 0x0F. The refusal of the segments is one by the
access matrix and counts as such (R30). (DESIGN CHOICE, log 45, 215) -/
def execFuncDisable (x : Ctx) (block inst : Nat) (s : State) : Host.Outcome State Fault Refusal :=
  .next (s.command x Op.FUNC_DISABLE 0 none fun s =>
    if block = 0 || 0x0F < block then s.complete x St.BAD_PARAM
    else if block = 0x0C && inst = 1 then (s.partitionDenied 0 10 .segments).complete x St.PARTITION_DENIED
    else (s.complete x St.ACCEPTED).disableSteps x block inst false)

/-- FUNC_DISABLE_DONE (R84), steps 5 and 6: once the sessions have stopped, and the ledger sessions that the host opened are
closed. -/
def execFuncDisableDone (t block inst : Nat) (s : State) : Host.Outcome State Fault Refusal :=
  .next (onEvent s t fun s =>
    match s.cask.disables.find? fun d => d.block == block && d.inst == inst && !d.done with
    | none => s
    | some d =>
      let left := s.sessionsOf block inst
      if left.any fun n => (s.outlet n).st.live || s.closed n then s else
      let s := forEach left (fun n s => s.recClose n eDISABLED s.mtb) s
      if block = 0x0C && s.regionsIn (fun t => t == .running || t == .recovery) != [] then s else
      let ds := s.cask.disables.map fun e => if e == d then { e with done := true } else e
      let s := { s with cask := { s.cask with disables := ds } }
      let s := if block = 0x0C && inst = 0 then { s with disp := { s.disp with pwrEn := false } } else s
      let s := if block = 0x0D then s.lswDisable inst else s
      let s := if block = 0x03 && inst < 8 then (s.offer inst .stateF).setSess inst .disabled eDISABLED 0 else s
      (s.raise Ev.FUNC_DISABLED 0 [block, inst, d.cancelled, d.closed]).finalise d.ctx St.OK)

/-- CASK_OPEN_TIMEOUT (R72). -/
def execCaskOpenTimeout (t k : Nat) (s : State) : Host.Outcome State Fault Refusal :=
  .next (onEvent s t fun s =>
    if (s.slot k).st == .opened && decide ((s.slot k).since + 10 ^ 6 * s.rd R.CASK_CFG_OPEN_TO_MS ≤ s.mtb) then
      s.abortCask k St.ABORT_TIMEOUT 0xFF 9 else s)

/-- CASK_PREPARED_TIMEOUT (R72). -/
def execCaskPreparedTimeout (t k : Nat) (s : State) : Host.Outcome State Fault Refusal :=
  .next (onEvent s t fun s =>
    if (s.slot k).st == .prepared && decide ((s.slot k).since + 60 * 10 ^ 9 ≤ s.mtb) then
      s.abortCask k St.ABORT_TIMEOUT 0xFF 9 else s)

/-- CASK_RECORD_WRITE (R72, R80): at T − LEAD_US, once every participant has acknowledged T. `whole` says that the
record reads back whole. (DEDUCED, log 46) -/
def execCaskRecordWrite (t k : Nat) (whole : Bool) (s : State) : Host.Outcome State Fault Refusal :=
  .next (onEvent s t fun s =>
    let c := s.slot k
    if c.st == .armed && s.allAcked k && c.mode != 3 && decide (c.tApply ≤ s.mtb + s.leadNs)
        && decide (s.mtb + 10000 ≤ c.tApply) then s.writeRecord k whole else s)

/-- CASK_SYNC_EDGE (R79): the stamp of an edge reaches LEDGER; it counts for the Casks that were ARMED before it. -/
def execCaskSyncEdge (t edge : Nat) (falling : Bool) (s : State) : Host.Outcome State Fault Refusal :=
  .next (onEvent s t fun s =>
    if s.flag R.CASK_CFG_SYNC_EDGE != falling then s else
    forEach (List.range 16) (fun k s =>
      let c := s.slot k
      if c.st == .armed && c.mode == 3 && c.tApply == 0 && decide (c.since ≤ edge) then
        let s := s.modSlot k fun c => { c with tApply := edge + max s.leadNs 40000 }
        if s.allAcked k then s.writeRecord k true else s
      else s) s)

/-- CASK_SYNC_TIMEOUT (R72, R79). -/
def execCaskSyncTimeout (t k : Nat) (s : State) : Host.Outcome State Fault Refusal :=
  .next (onEvent s t fun s =>
    let c := s.slot k
    if c.st == .armed && c.mode == 3 && c.tApply == 0 && decide (c.since + 10 ^ 6 * s.rd R.CASK_CFG2_SYNC_TO_MS ≤ s.mtb) then
      s.abortCask k St.SYNC_TIMEOUT 0xFF 9 else s)

/-- CASK_RETRACT (R82): the record is not written by T − 10 µs. -/
def execCaskRetract (t k : Nat) (s : State) : Host.Outcome State Fault Refusal :=
  .next (onCore s t fun s =>
    let c := s.slot k
    if c.st == .armed && c.tApply != 0 && decide (c.tApply ≤ s.mtb + 10000) then
      s.abortCask k (if s.phase == .pour then St.ABORT_POWER else St.RECORD_FAIL) 0xFF 9
    else s)

/-- CASK_APPLY (R76, R81, R82): the recorded Cask applies at T. `applied` lists the participants and when each
applied; `lowRefused` says that channel B refused the low side. -/
def execCaskApply (t k : Nat) (applied : List (Nat × Nat)) (lowRefused : Bool) (s : State) :
    Host.Outcome State Fault Refusal :=
  .next (onEvent s t fun s =>
    let c := s.slot k
    if c.st == .recorded && decide (c.tApply ≤ s.mtb) then
      let s := (s.applySlot k lowRefused).lateApplies k applied
      let held := (s.slot k).held
      let s := s.caskDone k
      if k < 8 then s else s.closeApplied (k - 8) held
    else s)

end Sys2Proof.Machine
end

