-- ==== Sys2Proof/Machine/Ledger.lean ====
section
/-! DEFINITION. The events and commands of the ledger (09_ledger_billing.md): commits, boundaries, wall time, billing,
calibration access, readings and records. Last pour is in Power.lean, the legal display in Disp.lean. -/

namespace Sys2Proof.Machine
namespace State

/-! ### Commits -/

/-- The register families a state copy holds (R278, R279): energy counters, session and quality values, tariff sets and
demand values. -/
def commitFamilies : List Nat := [57, 58, 59, 60, 72, 73]

/-- A register cell that a state copy holds. -/
def inCommit (c : Nat × Nat) : Bool := commitFamilies.contains ((Nat.unpair c.1).1 / 512)

/-- What a commit copies. -/
def snapshotCommit (s : State) (num : Nat) : Commit :=
  ⟨num, s.ledger.appended, ⟨s.regs.cells.filter inCommit⟩, s.ledger.accts, s.ledger.sess, s.ledger.maxD, s.mtb, s.wallMs,
    s.ledgerMsAt s.mtb, s.ledger.subStart⟩

/-- Write the ledger state to the alternate copy (R279, R280). A write that fails leaves that copy without a valid
check, and the other copy whole. -/
def commitState (s : State) (ok : Bool) : State :=
  let n := s.ledger.commits + 1
  let c := if ok then some (s.snapshotCommit n) else none
  let s := if n % 2 = 1 then { s with ledger := { s.ledger with commits := n, copyA := c } }
    else { s with ledger := { s.ledger with commits := n, copyB := c } }
  if ok then s else s.incSat R.LEDGER_STAT_COMMIT_FAIL 0

/-- The valid copy with the higher commit number (R280). -/
def newestCommit (s : State) : Option Commit :=
  match s.ledger.copyA, s.ledger.copyB with
  | some a, some b => some (if a.num < b.num then b else a)
  | some a, none => some a
  | none, b => b

/-! ### Boundaries -/

/-- The seconds the demand clock's instants are counted in: wall seconds, or MTB seconds while the clock is invalid
(R293). -/
def clockSec (s : State) : Nat := if s.rtcValid then s.wallS else s.mtb / 10 ^ 9

/-- The MTB instant of a second of that clock. (DESIGN CHOICE, log 97) -/
def instOf (s : State) (sec : Nat) : Nat :=
  if s.rtcValid then
    (s.atSec + 10 ^ 9 * ((sec : Int) - s.rd R.GLOBAL_MTB_UTC_UTC_SEC)).toNat
  else sec * 10 ^ 9

/-- Local seconds of a second of that clock. -/
def localSec (s : State) (sec : Nat) : Nat := if s.rtcValid then s.localOf sec else sec

/-- A second is a nominal sub-interval boundary (R299). -/
def isNominal (s : State) (sec : Nat) : Bool := s.localSec sec % s.subLen == 0

/-- A second is a monthly billing end (R309); none is acted on while the clock is invalid (R293). -/
def isBilling (s : State) (sec : Nat) : Bool :=
  let day := s.rd R.LEDGER_BILL_CFG_BILL_DAY
  s.rtcValid && day != 0 && (civil (s.localSec sec / 86400)).2.2 == day
    && s.localSec sec % 86400 == 3600 * s.rd R.LEDGER_BILL_CFG_BILL_HOUR

/-- What happens at a nominal demand or billing boundary: bit 0 a sub-interval ends, bit 2 a billing period, bit 3 a
calendar without an activation time becomes active (R296, R299, R309). -/
def kindsAt (s : State) (sec : Nat) : Nat :=
  b2n (s.isNominal sec) + 4 * b2n (s.isBilling sec)
    + 8 * b2n (s.isNominal sec && (s.ledger.pending.map (·.activation)) == some 0)

/-- The latest nominal demand or billing boundary at or before now, within the present local day. -/
def lastNominal (s : State) : Nat :=
  let sec := s.clockSec
  let l := s.localSec sec
  let dem := sec - l % s.subLen
  let bill := sec - (l % 86400 - 3600 * s.rd R.LEDGER_BILL_CFG_BILL_HOUR)
  if 3600 * s.rd R.LEDGER_BILL_CFG_BILL_HOUR ≤ l % 86400 && s.isBilling bill then max dem bill else dem

/-- A boundary second has not been acted on yet (R303, R307). -/
def boundaryOpen (s : State) (sec : Nat) : Bool :=
  decide (s.ledger.subStart < s.instOf sec) && (!s.rtcValid || decide (s.ledger.lastClosed < sec))
    && !(s.ledger.moved == sec && s.ledger.moved != 0)
    && (s.ledger.held.map (·.wall)) != some sec && (s.ledger.bound.map (·.wall)) != some sec

/-- A nominal demand or billing boundary is reached (R299, R303, R309): it waits for its transaction, or is held open
for SYNC_IN. (DESIGN CHOICE, log 93) -/
def demandBoundary (s : State) (sec : Nat) : State :=
  let b : Boundary := ⟨s.instOf sec, if s.rtcValid then sec else 0, s.kindsAt sec, [], 0, 0, none⟩
  if b.kinds = 0 || !s.boundaryOpen sec then s
  else if s.flag R.LEDGER_DEMAND_CFG_SYNC_EN && bit b.kinds 0 then { s with ledger := { s.ledger with held := some b } }
  else s.addBoundary b

/-- The meter points whose tariff is not the one that applies at a wall time. -/
def tariffChanges (s : State) (sec : Nat) : List Nat :=
  (List.range 12).filter fun m => s.tariffFor m sec != (s.acct m).tariff

/-- Append a SYNC_SHIFT record and raise its event (R303). (DESIGN CHOICE, log 96) -/
def syncShift (s : State) (nominal : Nat) (shift : Int) (moved : Bool) : State :=
  (s.append rSYNC_SHIFT 0xFF [(4, nominal), (4, enc 32 shift), (1, b2n moved), (3, 0)]).raise Ev.LEDGER_SYNC_SHIFT 0
    [nominal, enc 32 shift, b2n moved]

/-- A SYNC_IN edge and demand (R303): the nominal boundary nearest to it, when it lies within the window and is not
moved yet, moves to the RTC second edge nearest the edge. (DESIGN CHOICE, log 96) -/
def demandSync (s : State) (at_ : Nat) (falling : Bool) : State :=
  if !s.flag R.LEDGER_DEMAND_CFG_SYNC_EN || falling != s.flag R.LEDGER_DEMAND_CFG_SYNC_EDGE || !s.rtcValid then s else
  let sec := (s.wallMsAt at_ + 500) / 1000
  let r := s.localSec sec % s.subLen
  let nom := if 2 * r ≤ s.subLen then sec - r else sec + (s.subLen - r)
  let off : Int := ((at_ : Int) - s.instOf nom) / 10 ^ 6
  let seen := s.ledger.moved == nom || (!(s.ledger.held.map (·.wall) == some nom) && decide (nom ≤ s.ledger.lastClosed))
  if s.rd R.LEDGER_DEMAND_CFG_SYNC_WIN_S * 1000 < off.natAbs || seen then s.syncShift nom off false
  else
    let kinds := match s.ledger.held with
      | some b => if b.wall = nom then b.kinds ||| s.kindsAt nom else s.kindsAt nom
      | none => s.kindsAt nom
    let s := { s with ledger := { s.ledger with held := none, moved := nom } }
    (s.syncShift nom (1000 * ((sec : Int) - nom)) true).addBoundary ⟨s.instOf sec, sec, kinds, [], 0, 4, none⟩

/-- A boundary held open closes at its nominal time (R303). -/
def releaseHeld (s : State) : State :=
  match s.ledger.held with
  | some b => ({ s with ledger := { s.ledger with held := none } } : State).addBoundary b
  | none => s

/-- The second edge at which a commanded billing close takes effect (R309). -/
def billEdge (s : State) : State :=
  match s.ledger.billCtx with
  | some x =>
    let s := { s with ledger := { s.ledger with billCtx := none } }
    s.addBoundary ⟨s.mtb, s.wallS, 5, [], 1, 0, some x⟩
  | none => s

/-! ### Calibration access -/

/-- The open calibration closes (R319): one CAL record lists its changes. Causes: 0 command, 1 expiry, 2 seal. -/
def calClose (s : State) (cause : Nat) : State :=
  match s.ledger.cal with
  | none => s
  | some c =>
    let s := { s with ledger := { s.ledger with cal := none, idleAt := s.mtb, sealIdle := false } }
    let s := (s.wr R.LEDGER_STAT_CAL_OPEN 0 0).append rCAL 0xFF
      ([(2, c.mask), (2, c.changes.length)] ++ c.changes.flatMap fun d => [(4, d.1), (8, d.2.1), (8, d.2.2)])
    (s.raise Ev.LEDGER_CAL 0 [0, cause, c.changes.length]).legalRepaint

/-- LEGAL_SEAL changes level (R319): its release closes an open calibration. -/
def sealChange (s : State) (level : Bool) : State :=
  let s := s.setFlag R.LEDGER_STAT_SEAL 0 level
  let s := { s with ledger := { s.ledger with sealAt := s.mtb, idleAt := s.mtb, sealIdle := false } }
  if level then s else s.calClose 2

/-! ### Records -/

/-- A signed record of a number. (DESIGN CHOICE, log 138) -/
def signedRec (s : State) (n : Nat) : Option Rec := s.ledger.records.find? fun r => r.seq == n && r.sig.isSome

/-- Signed records from a number on, in sequence order, while they fit (R281, R282). -/
def fetchRecs (s : State) : Nat → Nat → Nat → List Rec
  | 0, _, _ => []
  | k + 1, n, room =>
    match s.signedRec n with
    | some r => if r.len ≤ room then r :: fetchRecs s k (n + 1) (room - r.len) else []
    | none => []

/-- The fields of a record as the host reads it: header, body, signature. (DESIGN CHOICE, log 145) -/
def recFields (s : State) (r : Rec) : List Nat := s.rd R.PWR_MODULE_ID_SERIAL :: r.signed ++ [r.sig.getD 0]

end State

/-- LEDGER_COMMIT (R279, R305): at an MTB multiple of the interval; a boundary reached before it goes first, and the commit waits
while that one still waits for its samples. `ok` says that the write read back whole. (DESIGN CHOICE, log 94) -/
def execLedgerCommit (t : Nat) (ok : Bool) (s : State) : Host.Outcome State Fault Refusal :=
  .next (onCore s t fun s =>
    let step := 10 ^ 8 * max 1 (s.rd R.LEDGER_CFG_COMMIT_100MS)
    if s.mtb / step ≤ s.ledger.commitAt / step then s else
    let go := fun (s : State) => ({ s with ledger := { s.ledger with commitAt := s.mtb } } : State).commitState ok
    match s.ledger.bound with
    | some b => if s.mtb < b.at_ then go s else if s.boundReady b then go (s.transaction b) else s
    | none => go s)

/-- TARIFF_SWITCH (R295, R302, R303, R307): at a whole local minute. A switch at a nominal boundary belongs to it; one
at or before the latest closed boundary changes the tariff and closes no interval. (DESIGN CHOICE, log 93) -/
def execTariffSwitch (t : Nat) (s : State) : Host.Outcome State Fault Refusal :=
  .next (onEvent s t fun s =>
    let sec := s.clockSec
    let b := sec - s.localSec sec % 60
    let ms := s.tariffChanges b
    if !s.rtcValid || ms = [] then s
    else if s.isNominal b && s.flag R.LEDGER_DEMAND_CFG_SYNC_EN && s.boundaryOpen b then s.demandBoundary b
    else if (s.ledger.held.map (·.wall)) == some b || (s.ledger.bound.map (·.wall)) == some b then s
    else if b ≤ s.ledger.lastClosed || s.instOf b ≤ s.ledger.subStart then
      let new := s.tariffFor (ms.headD 0) b
      let s := forEach ms (fun m s => s.tariffGo m (s.instOf b) (s.tariffFor m b)) s
      s.append rTARIFF 0xFF [(2, ms.foldl (fun a m => a + 2 ^ m) 0), (1, new), (1, 0), (4, 0)]
    else s.addBoundary ⟨s.instOf b, b, 2, [], 0, 0, none⟩)

/-- CALENDAR_ACTIVATE (R296): the pending calendar's activation time has come. (DESIGN CHOICE, log 93) -/
def execCalendarActivate (t : Nat) (s : State) : Host.Outcome State Fault Refusal :=
  .next (onEvent s t fun s =>
    match s.ledger.pending with
    | some c =>
      if !s.rtcValid || c.activation = 0 || s.wallS < c.activation then s
      else
        let b := if c.activation ≤ s.ledger.lastClosed || s.instOf c.activation ≤ s.ledger.subStart then s.wallS else c.activation
        s.addBoundary ⟨s.instOf b, b, 8, [], 0, 0, none⟩
    | none => s)

/-- DEMAND_BOUNDARY (R299, R303, R309). -/
def execDemandBoundary (t : Nat) (s : State) : Host.Outcome State Fault Refusal :=
  .next (onEvent s t fun s => s.demandBoundary s.lastNominal)

/-- BOUNDARY_TRANSACTION (R304): every sample before the boundary is classified. -/
def execBoundaryTransaction (t : Nat) (s : State) : Host.Outcome State Fault Refusal :=
  .next (onEvent s t fun s =>
    match s.ledger.bound with
    | some b => if s.boundReady b then s.transaction b else s
    | none => s)

/-- SYNC_WINDOW_EXPIRY (R303). -/
def execSyncWindowExpiry (t : Nat) (s : State) : Host.Outcome State Fault Refusal :=
  .next (onEvent s t fun s =>
    match s.ledger.held with
    | some b => if b.at_ + 10 ^ 9 * s.rd R.LEDGER_DEMAND_CFG_SYNC_WIN_S ≤ s.mtb then s.releaseHeld else s
    | none => s)

/-- SEAL_IDLE (R315): once for each 10 min of LEGAL_SEAL without an open calibration. -/
def execSealIdle (t : Nat) (s : State) : Host.Outcome State Fault Refusal :=
  .next (onEvent s t fun s =>
    if s.flag R.LEDGER_STAT_SEAL && s.ledger.cal.isNone && !s.ledger.sealIdle && s.ledger.idleAt + 600 * 10 ^ 9 ≤ s.mtb then
      ({ s with ledger := { s.ledger with sealIdle := true } } : State).tamper tSEAL_IDLE 0
    else s)

/-- LEGAL_SEAL_CHANGE (R319). -/
def execLegalSealChange (t : Nat) (level : Bool) (s : State) : Host.Outcome State Fault Refusal :=
  .next (onEvent s t fun s => if s.flag R.LEDGER_STAT_SEAL == level then s else s.sealChange level)

/-- CAL_EXPIRY (R319). -/
def execCalExpiry (t : Nat) (s : State) : Host.Outcome State Fault Refusal :=
  .next (onEvent s t fun s =>
    match s.ledger.cal with
    | some c => if c.until_ ≤ s.mtb then s.calClose 1 else s
    | none => s)

/-- LEDGER_QUERY (R277): LAST_SEQ, the tariff in force, STAT bits 31 to 28. -/
def execLedgerQuery (x : Ctx) (m : Nat) (s : State) : Host.Outcome State Fault Refusal :=
  .next (s.command x Op.LEDGER_QUERY m none fun s =>
    if 12 ≤ m then s.complete x St.BAD_PARAM
    else
      let flags := 8 * s.rd R.LEDGER_STAT_POSSIBLE_LOSS + 4 * s.rd R.LEDGER_STAT_LAST_POUR_OK
        + 2 * s.rd R.LEDGER_STAT_CAL_OPEN + s.rd R.LEDGER_STAT_SEAL
      s.complete x St.OK (s.rd R.LEDGER_STAT_LAST_SEQ + 2 ^ 64 * (s.acct m).tariff + 2 ^ 72 * flags))

/-- LEDGER_SESSION_RECORD (R320, R544). -/
def execLedgerSessionRecord (x : Ctx) (n m op kind : Nat) (ident : List Byte) (price reason : Nat) (s : State) :
    Host.Outcome State Fault Refusal :=
  let bad := 8 ≤ n || 12 ≤ m || 2 ≤ op || 32 < ident.length || 2 ^ 32 ≤ price
  let act := if op = 0 then CaskAct.recOpen n m kind ident price else .recClose n m reason
  .next (s.command x Op.LEDGER_SESSION_RECORD m (if bad then none else some act) fun s =>
    if bad then s.complete x St.BAD_PARAM
    else if op = 0 then
      match s.recOpenBad n m with
      | some e => s.complete x e
      | none => (s.recOpen n m (.plain 2 kind (identHash ident)) price s.mtb).complete x St.OK
    else match s.recCloseBad n reason with
      | some e => s.complete x e
      | none => (s.recClose n reason s.mtb).complete x St.OK)

/-- LEDGER_TARIFF_SELECT (R297). -/
def execLedgerTariffSelect (x : Ctx) (mask tariff price : Nat) (s : State) : Host.Outcome State Fault Refusal :=
  .next (s.command x Op.LEDGER_TARIFF_SELECT 0 (some (.tariff mask tariff price)) fun s =>
    match (if 2 ^ 32 ≤ price then some St.BAD_PARAM else s.tariffBad mask tariff) with
    | some e => s.complete x e
    | none => (s.tariffSelect mask tariff price 1 s.mtb).complete x St.OK)

/-- LEDGER_READ_SIGNED (R314): it completes when its records are appended. -/
def execLedgerReadSigned (x : Ctx) (mask : Nat) (s : State) : Host.Outcome State Fault Refusal :=
  .next (s.command x Op.LEDGER_READ_SIGNED 0 (some (.readSigned mask)) fun s =>
    match s.readBad mask with
    | some e => s.complete x e
    | none => s.readStart mask s.mtb (some x))

/-- LEDGER_RECORD_FETCH (R281 to R283): the acknowledgement counts first. (DESIGN CHOICE, log 89) -/
def execLedgerRecordFetch (x : Ctx) (first maxBytes ackTo : Nat) (s : State) : Host.Outcome State Fault Refusal :=
  .next (s.command x Op.LEDGER_RECORD_FETCH 0 none fun s =>
    let s := { s with ledger := { s.ledger with acked := max s.ledger.acked (min ackTo s.ledger.issued) } }
    let oldest := s.ledger.records.foldl (fun a r => min a r.seq) (s.ledger.issued + 1)
    if first < oldest then s.complete x St.RECORD_GONE
    else
      let rs := s.fetchRecs s.ledger.records.length first maxBytes
      (s.giveBuffer (rs.flatMap s.recFields)).complete x St.OK (rs.length + 2 ^ 32 * (first + rs.length)))

/-- LEDGER_TIME_SET (R291 to R293, R307, R308): wall time in ms. (DESIGN CHOICE, log 90) -/
def execLedgerTimeSet (x : Ctx) (ms : Nat) (sig : Option OwnerSig) (s : State) : Host.Outcome State Fault Refusal :=
  .next (s.command x Op.LEDGER_TIME_SET 0 none fun s =>
    if 1000 * 2 ^ 32 ≤ ms then s.complete x St.BAD_PARAM
    else match sig, sig.bind s.ownerBad with
      | _, some e => s.complete x e
      | some g, none => ((s.ownerTook g).timeSet ms 2).2.complete x St.OK
      | none, none =>
        let (ok, s) := s.timeSet ms 0
        s.complete x (if ok then St.OK else St.TIME_STEP))

/-- LEDGER_CALENDAR_LOAD (R296): the calendar's bytes without its signature, which is the last 64 bytes while CAL_SIGNED is 1;
`sigOk` says that it verifies with the owner key. (DESIGN CHOICE, log 90) -/
def execLedgerCalendarLoad (x : Ctx) (image : List Byte) (sigOk : Bool) (s : State) : Host.Outcome State Fault Refusal :=
  .next (s.command x Op.LEDGER_CALENDAR_LOAD 0 none fun s =>
    if s.flag R.LEDGER_CFG_CAL_SIGNED && !(sigOk && s.flag R.KEY_STATUS_OWNER_SET) then s.complete x St.BAD_SIGNATURE
    else match (calendarOf (image.map (·.toNat))).filter calendarValid with
      | some cal => ({ s with ledger := { s.ledger with pending := some cal } } : State).complete x St.OK
      | none => s.complete x St.CALENDAR_INVALID)

/-- LEDGER_BILLING_CLOSE (R309): the period ends at the next second edge. (DESIGN CHOICE, log 91) -/
def execLedgerBillingClose (x : Ctx) (s : State) : Host.Outcome State Fault Refusal :=
  .next (s.command x Op.LEDGER_BILLING_CLOSE 0 none fun s =>
    let last := s.ledger.lastCmdAt1
    let now := s.ledgerMsAt s.mtb
    if !s.flag R.LEDGER_BILL_CFG_CMD_CLOSE then s.complete x St.DISABLED
    else if !s.rtcValid then s.complete x St.NOT_READY
    else if s.ledger.billCtx.isSome || (last != 0 && now + 1 < last + 3600000 * s.rd R.LEDGER_BILL_CFG_MIN_GAP_H) then
      s.complete x St.BILL_TOO_SOON
    else { s with ledger := { s.ledger with billCtx := some x, lastCmdAt1 := now + 1 } })

/-- LEDGER_BILLING_READ (R310). -/
def execLedgerBillingRead (x : Ctx) (k : Nat) (s : State) : Host.Outcome State Fault Refusal :=
  .next (s.command x Op.LEDGER_BILLING_READ 0 none fun s =>
    match s.ledger.bills[k]? with
    | none => s.complete x St.NO_BILL_SET
    | some b =>
      (s.giveBuffer ([b.no, b.startL, b.startW, b.endL, b.endW, b.cause, b.flags] ++ b.data.flatMap fun d => d.1 :: d.2)).complete x St.OK)

/-- LEDGER_CAL_CHALLENGE (R318, R375): 16 bytes of the DRBG. (DESIGN CHOICE, log 92) -/
def execLedgerCalChallenge (x : Ctx) (s : State) : Host.Outcome State Fault Refusal :=
  .next (s.command x Op.LEDGER_CAL_CHALLENGE 0 none fun s =>
    if !s.drbgOk then s.complete x St.ENTROPY_FAIL
    else
      let (c, s) := s.drbgNext 128
      (({ s with ledger := { s.ledger with challenge := some (c, s.mtb) } } : State).giveBuffer [c]).complete x St.OK)

/-- LEDGER_CAL_OPEN (R318): `sigOk` says that the signature verifies with the calibration authority key over the
challenge given, the mask, the duration and the module serial. (DESIGN CHOICE, log 92) -/
def execLedgerCalOpen (x : Ctx) (mask mins challenge : Nat) (sigOk : Bool) (s : State) : Host.Outcome State Fault Refusal :=
  .next (s.command x Op.LEDGER_CAL_OPEN 0 none fun s =>
    let auth := (List.range 32).any fun k => (s.key.anchors.get none k).map (·.typ) == some 1
    let fresh := match s.ledger.challenge with
      | some (c, at_) => c == challenge && decide (s.mtb ≤ at_ + 120 * 10 ^ 9)
      | none => false
    if 4096 ≤ mask || mask = 0 || mins = 0 || 60 < mins then s.complete x St.BAD_PARAM
    else if !s.flag R.LEDGER_STAT_SEAL || s.mtb < s.ledger.sealAt + 20 * 10 ^ 6 then
      (s.tamper tCAL_REFUSED mask).complete x St.SEAL_NOT_ASSERTED
    else if !auth || !sigOk then (s.tamper tCAL_REFUSED mask).complete x St.CAL_SIGNATURE
    else if !fresh then s.complete x St.CHALLENGE_STALE
    else if s.ledger.cal.isSome || (List.range 12).any (fun m => bit mask m && s.flag R.MET_SESS_OPEN m) then
      s.complete x St.CAL_BUSY
    else
      let s := { s with ledger := { s.ledger with challenge := none, cal := some ⟨mask, s.mtb + mins * 60 * 10 ^ 9, []⟩ } }
      let s := (s.wr R.LEDGER_STAT_CAL_OPEN 0 1).tamper tCAL_OPEN mask
      ((s.raise Ev.LEDGER_CAL 0 [1, 0, 0]).complete x St.OK).legalRepaint)

/-- LEDGER_CAL_CLOSE (R319). -/
def execLedgerCalClose (x : Ctx) (s : State) : Host.Outcome State Fault Refusal :=
  .next (s.command x Op.LEDGER_CAL_CLOSE 0 none fun s =>
    if s.ledger.cal.isNone then s.complete x St.NO_CAL else (s.calClose 0).complete x St.OK)

/-- LEDGER_LEGAL_ID (R316). -/
def execLedgerLegalId (x : Ctx) (s : State) : Host.Outcome State Fault Refusal :=
  .next (s.command x Op.LEDGER_LEGAL_ID 0 none fun s => (s.giveBuffer [s.rd R.LEDGER_LEGAL_ID_SHA256]).complete x St.OK)

/-- LEDGER_ACK_LOSS (R288): the register field is itself the durable flag. (DEDUCED, log 95) -/
def execLedgerAckLoss (x : Ctx) (s : State) : Host.Outcome State Fault Refusal :=
  .next (s.command x Op.LEDGER_ACK_LOSS 0 none fun s => (s.wr R.LEDGER_STAT_POSSIBLE_LOSS 0 0).complete x St.OK)

end Sys2Proof.Machine
end

