-- ==== Sys2Proof/Machine/StopOps.lean ====
section
/-! DEFINITION. How the module stops: Last pour (R284 to R287, R490), its end when VIN returns, the loss of the
converter-die rail, and a restart of the control die that keeps VIN. -/

namespace Sys2Proof.Machine
namespace State

/-- EST in µWh of a power in mW over a time in ns, which is capped at 1 s (R286). -/
def estimate (mw : Int) (ns : Nat) : Nat := divRound (mw.natAbs * min ns (10 ^ 9)) 3600000000

/-- Write LEDGER.EST of a meter point (R286): `ns` is none where t_stop is unknown and the cap is used. -/
def putEst (s : State) (m : Nat) (mw : Int) (ns : Option Nat) : State :=
  let capped := match ns with
    | some d => decide (10 ^ 9 < d)
    | none => true
  let s := s.wr R.LEDGER_EST_EST_UWH m (estimate mw (ns.getD (10 ^ 9)))
  ((s.wr R.LEDGER_EST_EST_VALID m 1).wr R.LEDGER_EST_EST_EXPORT m (b2n (decide (mw < 0)))).wr R.LEDGER_EST_EST_CAPPED m (b2n capped)

/-- The closing actions of a slot, a mask of indices. -/
def closingMask (c : CaskSlot) : Nat :=
  (c.acts.zipIdx.filter fun p => match p.1 with
    | .contactor _ true => true
    | _ => false).foldl (fun a p => setBit a p.2) 0

/-- Last pour applies a RECORDED Cask early (table Outcome of power loss, R83): its durable actions at L, and its closing
actions are held. -/
def pourCask (s : State) (k : Nat) : State :=
  let c := s.slot k
  if c.st != .recorded || c.appliedEarly then s else
  let s := (s.applyEarly k).modSlot k fun c => { c with held := c.held ||| closingMask c }
  s.markRecord k true true (s.slot k).held

/-- The Last pour marker (R284): L, its wall and ledger time, the last power of each meter point. -/
def writeMark (s : State) (l : Nat) : State :=
  let m : PourMark := ⟨l, s.wallMsAt l, s.ledgerMsAt l, (List.range 12).map fun m => (s.mp m).lastP⟩
  let s := { s with ledger := { s.ledger with mark := some m, markNum := s.ledger.commits } }
  (s.wr R.LEDGER_LASTPOUR_L_MTB 0 l).wr R.LEDGER_LASTPOUR_L_UTC 0 (m.wall / 1000)

/-- What Last pour does to the ledger (R284): the samples before L are flushed and the cycles in progress classified at
L, boundary transactions that wait are written, RECORDED Casks apply early, the state
is committed and the marker written. -/
def pourSteps (s : State) (feed : List Feed) : State :=
  let l := s.mtb
  let s := (s.meterStop feed).releaseHeld
  let s := match s.ledger.bound with
    | some b => if b.at_ ≤ l then s.transaction b else s
    | none => s
  let s := forEach (List.range 16) (fun k s => s.pourCask k) s
  let s := forEach (List.range 12) (fun m s => s.flushPends m l) s
  (s.commitState true).writeMark l

/-- VIN falls below VFAIL at L (R284, R285, R490): the loads are shed and Last pour runs; it ends at most 6 ms after L.
The matrix frame in progress closes after the line being driven (R429). (DESIGN CHOICE, log 118) -/
def lastPour (s : State) (feed : List Feed) : State :=
  let l := s.mtb
  let s := (s.dispCut s.stopRow).lswShed
  let s := { s with phase := .pour, ledger := { s.ledger with outageDue := true } }
  let s := s.pourSteps feed
  let (v, s) := s.takeFree
  let us := v % 6001
  let s := { s with pwr := { s.pwr with l := l, pourEnd := l + 1000 * us } }
  (s.wr R.LEDGER_LASTPOUR_DURATION_US 0 us).wr R.LEDGER_STAT_LAST_POUR_OK 0 1

/-- VIN returns before the converter-die rail falls (R287, R491): Last pour has completed at E and the module goes on. -/
def pourReturn (s : State) : State :=
  let e := s.pwr.pourEnd
  let s := s.advance e
  let s := { s with phase := .running }
  let s := forEach ((List.range 12).filter fun m => s.mpRuns m) (fun m s =>
    (s.putEst m (s.mp m).lastP (some (e - s.pwr.l))).modMp m fun p => { p with partEnd := max p.partEnd e }) s
  let s := s.wr R.LEDGER_LASTPOUR_RUN_100US 0 (min 0xFFFE ((e - s.pwr.l) / 100000))
  let s := s.raise Ev.LEDGER_RESTART 0 [2, 1, s.pwr.l, s.rd R.LEDGER_STAT_POSSIBLE_LOSS]
  let s := ({ s with ledger := { s.ledger with outageDue := false } } : State).tamper tPOWER_OUTAGE 0
  let s := forEach (List.range 16) (fun k s => if (s.slot k).abortable then s.abortCask k St.ABORT_POWER 0xFF 9 else s) s
  s.dispWake

/-- The switches and drivers lose their supply or their control die: every coil off, CP0 to CP7 at state F, power modules
off (table Start-up, t = 0). -/
def outputsOff (s : State) : State :=
  let s := forEach (List.range 8) (fun n s => s.modOutlet n fun o =>
    { o with out := .stateF, outNext := none, outStaged := none, setPoint := .off, setStaged := none }) s
  let s := forEach ((List.range 32).filter fun n => s.lswSt n != 0 && s.lswSt n != 7) (fun n s => s.turnOff n 0) s
  ({ s with safe := { s.safe with coils := .empty } } : State).wr R.SAFE_STATUS_SAFE_OK 0 0

/-- No power for the power die, or its control die restarts: every output is off, SHUNT_TRIP low (R531, table Start-up). -/
def powerOff (s : State) : State :=
  (({ s with safe := { s.safe with shuntSince := none } } : State).setFlag R.SAFE_STATUS_SHUNT 0 false).outputsOff

/-- The converter-die rail falls (R286, R491): t_stop is recorded to 1/32,768 s and the module stops. A rail that falls
before Last pour has ended leaves no valid marker (R288). (DESIGN CHOICE, log 125, 179) -/
def railFall (s : State) : State :=
  let stop := s.mtb * 32768 / 10 ^ 9 * 10 ^ 9 / 32768
  let late := decide (s.pwr.pourEnd ≤ s.mtb)
  let s := if late then s else
    ({ s with ledger := { s.ledger with mark := none } } : State).wr R.LEDGER_STAT_LAST_POUR_OK 0 0
  let s := { s with ledger := { s.ledger with tStop := some (max stop s.pwr.l) } }
  let s := s.wr R.LEDGER_LASTPOUR_RUN_100US 0 (min 0xFFFE ((stop - s.pwr.l) / 100000))
  let s := forEach (List.range 4) (fun k s => s.wr R.PWR_TAMPER_VBAT_COUNT k 0) s
  { s.powerOff with phase := .stopped }

/-- The control die restarts with a cause while VIN stays valid (table Restart causes); XTAL49 has not stopped, so the MTB
goes on and does not step backward (R21). (DEDUCED, log 116) -/
def softRestart (s : State) (cause : Nat) : State :=
  let s := (s.dispCut none).powerOff
  { s with phase := .vinValid, pwr := { s.pwr with restart := some cause } }

/-- The ledger is committed and a valid marker with zero elapsed time written before a restart for an update or a revert
(R464). -/
def pourZero (s : State) : State :=
  let s := s.pourSteps []
  let s := { s with pwr := { s.pwr with l := s.mtb, pourEnd := s.mtb } }
  let s := { s with ledger := { s.ledger with tStop := some s.mtb } }
  (s.wr R.LEDGER_LASTPOUR_DURATION_US 0 0).wr R.LEDGER_STAT_LAST_POUR_OK 0 1

end State
end Sys2Proof.Machine
end

