-- ==== Sys2Proof/Machine/TwinOps.lean ====
section
/-! DEFINITION. Twin operation with a Reserve module (16_twin_standby.md): roles, the state copy, give-up causes, taking
the outputs over. -/

namespace Sys2Proof.Machine

/-- An instant of the peer's MTB in own MTB; `d` is the peer's MTB minus one's own. -/
def ownTime (d : Int) (t : Nat) : Nat := ((t : Int) - d).toNat

/-- A session machine with its instants in own MTB. -/
def Outlet.shift (d : Int) (o : Outlet) : Outlet :=
  let f := ownTime d
  { o with
    startAt := f o.startAt, authDue := o.authDue.map f, energyAt := f o.energyAt, periodAt := f o.periodAt,
    resumeAt := f o.resumeAt, pausedAt := f o.pausedAt, enfSteps := o.enfSteps.map fun e => { e with due := f e.due },
    dcRamp := o.dcRamp.map fun r => { r with start := f r.start },
    hostClose := [], pauseOpenDue := o.pauseOpenDue.map f, slacRetryDue := o.slacRetryDue.map f,
    pms := o.pms.map fun p => { p with seenAt := p.seenAt.map f } }

/-- A ledger session with its instants in own MTB. -/
def LSession.shift (d : Int) (l : LSession) : LSession :=
  let f := ownTime d
  { l with tOpen := f l.tOpen, tClose := f l.tClose, pausedSince := l.pausedSince.map f, segs := l.segs.map fun g => { g with start := f g.start } }

/-- A table with a function applied to its values; values that become the default `d` are left out. -/
def mapTab {α : Type} [DecidableEq α] (d : α) (f : α → α) (t : Tab α) : Tab α :=
  ⟨(t.cells.map fun (c : Nat × α) => (c.1, f c.2)).filter fun (c : Nat × α) => c.2 != d⟩

/-- The register families in a state copy: outlet status and allocation, cable shadows, load switches (R478). -/
def copyFamilies : List Nat := [78, 79, 110, 123, 124]

/-- A register cell that a state copy holds. -/
def inCopy (c : Nat × Nat) : Bool := copyFamilies.contains ((Nat.unpair c.1).1 / 512)

/-- Insert the cells of one table into another. -/
def overlay (t u : Tab Nat) : Tab Nat :=
  ⟨u.cells.foldl (fun a c => insertCell c.1 c.2 (a.filter fun d => d.1 != c.1)) t.cells⟩

namespace State

/-- The role (TWIN.STAT.ROLE). -/
def role (s : State) : Nat := s.rd R.TWIN_STAT_ROLE

/-- The peer's MTB now (R476). -/
def peerNow (s : State) : Nat := ((s.mtb : Int) + s.rdInt R.TWIN_MTB_OFS_OFFSET).toNat

/-- SHA-256 of the module's settings (R478). -/
def settingsHash (s : State) : Nat := Config.hash (s.settings.cells.flatMap fun c => [c.1, c.2])

/-- An energy counter of a meter point at an instant of the last 70 s, split by R251. -/
def counterAt (s : State) (m q t : Nat) : Nat :=
  let after := (s.acct m).recent.filter fun r => decide (t < r.1)
  s.rd R.MET_ENERGY_COUNT (10 * m + q) - after.foldl (fun a r => a + r.2.getD q 0) 0

/-- The outlets with an open ledger session. -/
def ledgerLive (s : State) : List Nat := (List.range 8).filter fun n => (s.lsess n).opened && !(s.lsess n).closing

/-- The newest final latch of the session of an outlet (R484): session id, import, export and K, the last MTB multiple
of 1 ms that its meter point has classified. (DESIGN CHOICE, log 183) -/
def sessLatch (s : State) (n : Nat) : Nat × Nat × Nat × Nat × Nat :=
  let l := s.lsess n
  let k := min s.mtb (s.mp l.mp).partEnd / 10 ^ 6 * 10 ^ 6
  let back := fun (F : Fld) (q : Nat) => s.rd F l.mp - (s.rd R.MET_ENERGY_COUNT (10 * l.mp + q) - s.counterAt l.mp q k)
  (n, l.id, back R.MET_SESS_A_IMP 0, back R.MET_SESS_A_EXP 1, k)

/-- A ledger session as it goes into a copy: the energy of its last segment up to K (R484).
(DESIGN CHOICE, log 183) -/
def sessAtLatch (s : State) (n : Nat) (l : LSession) : LSession :=
  if !l.opened || l.closing then l else
  let v := s.sessLatch n
  let i := s.rd R.MET_SESS_A_IMP l.mp - v.2.2.1
  let e := s.rd R.MET_SESS_A_EXP l.mp - v.2.2.2.1
  { l with segs := l.segs.modify (l.segs.length - 1) fun g => { g with imp := g.imp - i, exp := g.exp - e } }

/-- A session machine as it goes into a copy: without what SLAC found (R478). -/
def copied (o : Outlet) : Outlet :=
  { o with nmk := 0, nid := 0, slacFails := 0, slacRetryDue := none, hostClose := [] }

/-- The state copy of this cycle, frozen at its 490 µs (R478). Keys, TLS and TCP state, SLAC results, open Casks and
events are not in it. -/
def makeCopy (s : State) : TwinCopy :=
  let last := s.ledger.records.head?
  { cycle := s.arch.cycleStart / 10 ^ 6, gen := s.tamecGen, settings := s.settingsHash,
    regs := ⟨s.regs.cells.filter inCopy⟩, outlets := mapTab Outlet.init copied s.out.outlets, sess := ⟨s.ledger.sess.cells.map fun (c : Nat × LSession) => (c.1, s.sessAtLatch c.1 c.2)⟩,
    ledgerMs := s.ledgerMsAt (s.arch.cycleStart + 490000), card := s.out.card,
    coils := (List.range 16).foldl (fun m k => if s.coilOn k then setBit m k else m) 0,
    cables := s.tag.cables, lsw := s.lsw, regions := s.disp.regions, latches := s.ledgerLive.map s.sessLatch,
    lastSeq := (last.map (·.seq)).getD 0,
    lastDigest := (last.map fun r => Config.hash r.signed % 2 ^ 128).getD 0 }

/-- The Reserve's own READY (R479). -/
def twinReady (s : State) : Bool :=
  s.role == 3 && decide (10 ≤ s.twin.inRow) && s.twin.ofsOk && s.flag R.SAFE_STATUS_SAFE_OK
    && match s.twin.copy with
      | some c => c.gen == s.tamecGen && c.settings == s.settingsHash
          && c.latches.all fun l => s.rd R.MET_CFG_STATE (s.rd R.OUT_CFG_MP l.1) != 4
      | none => false

/-- Bring TWIN.STAT.READY to the state. -/
def noteReady (s : State) : State := s.setFlag R.TWIN_STAT_READY 0 s.twinReady

/-- The body of a TWIN_CHANGE record (R486). -/
def twinBody (s : State) (new cause : Nat) : List (Nat × Nat) :=
  let c := s.twin.copy
  [(1, new), (1, cause), (2, 0), (8, s.rd R.TWIN_STAT_PEER_SERIAL), (8, (c.map (·.lastSeq)).getD 0),
   (16, (c.map (·.lastDigest)).getD 0), (8, s.mtb), (1, s.twin.carried.length), (3, 0)]
  ++ s.twin.carried.flatMap fun k => [(1, k.outlet), (3, 0), (4, k.id), (8, k.imp), (8, k.exp), (8, k.k)]

/-- Change the role (R486, R487). A change without a give-up cause has no number of its own in the spec: a free value.
(DESIGN CHOICE, log 181) -/
def setRole (s : State) (new : Nat) (cause : Option Nat) : State :=
  let old := s.role
  let (v, s) := match cause with
    | some c => (c, s)
    | none => let p := s.takeFree; (p.1 % 64, p.2)
  let s := (s.wr R.TWIN_STAT_ROLE 0 new).wr R.TWIN_STAT_LAST_CAUSE 0 v
  let s := { s with twin := { s.twin with
    since := s.mtb, bothAt := if new = 2 && s.twin.actIn then some s.mtb else none,
    carried := if new = 4 || (new = 2 && old = 4) then s.twin.carried else [],
    pilotsOff := if new = 1 || new = 3 then 0xFF else s.twin.pilotsOff } }
  let s := s.append rTWIN_CHANGE 0xFF (s.twinBody new v)
  s.noteReady.raise Ev.TWIN_ROLE 0 [old, new, v, s.twin.carried.length, s.mtb]

/-- The link comes up or goes down: TWIN_PEER. (DESIGN CHOICE, log 184) -/
def peerEvent (s : State) : State :=
  s.raise Ev.TWIN_PEER 0 [s.rd R.TWIN_LINK_UP, s.rd R.TWIN_STAT_PEER_READY, s.rd R.TWIN_STAT_PEER_SERIAL]

/-- Twin operation is switched on (table Role transitions): the outputs are off while the link comes up.
(DESIGN CHOICE, log 187) -/
def twinStart (s : State) : State :=
  if s.flag R.TWIN_CFG_EN && s.role = 0 then s.outputsOff.setRole 1 none
  else if !s.flag R.TWIN_CFG_EN && s.role != 0 then s.setRole 0 none else s

/-! ### Giving up (R480) -/

/-- The last write of a state copy failed. -/
def commitBad (s : State) : Bool :=
  decide (0 < s.ledger.commits) && (if s.ledger.commits % 2 = 1 then s.ledger.copyA.isNone else s.ledger.copyB.isNone)

/-- A give-up cause holds (table Give-up causes). -/
def giveUpHolds (s : State) (cause : Nat) : Bool :=
  match cause with
  | 0 => decide (s.safe.aliveAt + 2 * 10 ^ 6 < s.mtb)
  | 1 => (List.range 8).any fun n => decide (2 ≤ s.arch.overruns.get 0 n)
  | 2 => [1, 2, 4].any fun i => !s.flag R.GLOBAL_ISLAND_STAT_CLK_OK i
  | 3 => s.ledgerLive.any fun n => s.rd R.MET_CFG_STATE (s.lsess n).mp == 4 && bit s.twin.peerRun (s.lsess n).mp
  | 4 => s.commitBad
  | 5 => s.keyMode == 4
  | _ => false

/-- A cause is enabled in GIVEUP_MASK, whose bit 0 is always set. -/
def giveUpOn (s : State) (cause : Nat) : Bool := cause == 0 || bit (s.rd R.TWIN_CFG_GIVEUP_MASK) cause

/-- Give up control (R480): TWIN_ACT_OUT drops and the outputs are held; open Casks abort, except for cause 0, which
hardware takes. (DESIGN CHOICE, log 187) -/
def giveUp (s : State) (cause : Nat) : State :=
  let s := if cause = 0 then s else
    forEach (List.range 16) (fun k s => if (s.slot k).abortable then s.abortCask k St.ABORT_SAFETY 0xFF 1 else s) s
  let s := { s with twin := { s.twin with released := false } }
  s.setRole 6 (some cause)

/-- The yielding module releases its switches, pilots, load switches and CAN (R482): its sessions now run on the peer,
which records them (R485, R486). (DESIGN CHOICE, log 185) -/
def twinRelease (s : State) : State :=
  let s := s.outputsOff
  let s := forEach s.ledgerLive (fun n s => (s.wr R.MET_SESS_OPEN (s.lsess n).mp 0).modLsess n fun _ => LSession.init) s
  let s := forEach (List.range 8) (fun n s => s.modOutlet n fun o => { Outlet.init with
    pilot := o.pilot, ppRating := o.ppRating, ppInvalid := o.ppInvalid, pms := o.pms, setCounter := o.setCounter }) s
  { s with twin := { s.twin with released := true, pilotsOff := 0xFF } }

/-! ### Taking over (R481 to R485) -/

/-- Load the last copy as the live state (R481), its instants mapped to own MTB. -/
def loadCopy (s : State) (c : TwinCopy) : State :=
  let d := s.rdInt R.TWIN_MTB_OFS_OFFSET
  let regs : Tab Nat := ⟨s.regs.cells.filter fun x => !inCopy x⟩
  let lsw : LswSt := { c.lsw with
    chans := mapTab LswCh.init (fun x => { x with
      since := ownTime d x.since, due := ownTime d x.due, onFrom := ownTime d x.onFrom }) c.lsw.chans,
    no := .empty, next := mapTab 0 (ownTime d) c.lsw.next, lowAt := mapTab 0 (ownTime d) c.lsw.lowAt, win := s.lsw.win }
  let card := c.card.map fun (h : HeldCard) => { h with until_ := ownTime d h.until_ }
  let s := { s with
    regs := overlay regs ⟨c.regs.cells.filter inCopy⟩,
    out := { s.out with outlets := mapTab Outlet.init (Outlet.shift d) c.outlets, card := card },
    ledger := { s.ledger with
      sess := mapTab LSession.init (LSession.shift d) c.sess,
      offMs := s.ledger.offMs + (c.ledgerMs - s.ledgerMsAt (ownTime d (1000000 * c.cycle + 490000))) },
    tag := { s.tag with cables := c.cables },
    lsw := lsw,
    disp := { s.disp with regions := mapTab DRegion.init (fun r => { r with startAt := ownTime d r.startAt, ctx := none }) c.regions },
    twin := { s.twin with wanted := c.coils, refused := 0 } }
  let carried := c.latches.map fun l =>
    let v := match s.twin.shadows.get none l.1 with
      | some x => x.latches.headD (0, 0, 0)
      | none => (0, 0, 0)
    (⟨l.1, l.2.1, l.2.2.1, l.2.2.2.1, v.2.1, v.2.2, v.1⟩ : Carried)
  { s with twin := { s.twin with carried := carried } }

/-- Channel B's conditions at a take-over: those of R133 but for the mirror contacts, which read closed because the peer
holds the contactor. (DESIGN CHOICE, log 185) -/
def carryAllowed (s : State) (n : Nat) : Bool :=
  !s.safe.estopAOpen && !s.safe.estopBOpen && !s.faulted n && (s.os n).selfPass
    && s.rd R.SAFE_OUT_PROT_RCM_SRC n != 0xF && ((s.os n).pilotB == .c || (s.os n).pilotB == .d)

/-- The control cycle of a take-over (R481, R482): the high side of every coil the copy shows on, then its low side where
channel B allows it; a refused outlet goes to FAULT; a contactor that has opened is not closed again. -/
def takeOverCycle (s : State) : State :=
  if s.role != 4 then s else
  forEach ((List.range 16).filter fun k => bit s.twin.wanted k && !bit s.twin.refused k && !s.coilOn k) (fun k s =>
    let n := s.rd R.SAFE_COIL_CFG_OUTLET k
    let open_ := s.flag R.SAFE_COIL_CFG_MIRROR_EN k && (s.coil k).mirrorOpen
    let drop := fun (s : State) => { s with twin := { s.twin with refused := setBit s.twin.refused k } }
    if open_ then
      let s := drop s
      if (s.outlet n).st.live then s.endSession n ePOWER_LOSS else s
    else if s.carryAllowed n then
      (s.modCoil k fun c => { c with hs := true, ls := true, waiting := false }).holdFrom k
    else
      ((drop s).openOutlet n 0).faultSession n eSAFETY_TRIP) s

/-- The value of a carried session (R485): the peer's at K, plus what the shadow has gathered since. From here the
session accrues on own counters, and its record shows own counters at K. -/
def carrySession (s : State) (c : Carried) : State :=
  let m := s.rd R.OUT_CFG_MP c.outlet
  if !(s.lsess c.outlet).opened then s else
  let now := fun q => s.rd R.MET_ENERGY_COUNT (10 * m + q)
  let s := ((s.wr R.MET_SESS_SESSION_ID m c.id).wr R.MET_SESS_OPEN m 1).wr R.MET_SESS_CLOSED_PENDING m 0
  let s := s.wr R.MET_SESS_T_OPEN m (s.lsess c.outlet).tOpen
  let s := (s.wr R.MET_SESS_A_IMP m (c.imp + (now 0 - c.latchImp))).wr R.MET_SESS_A_EXP m (c.exp + (now 1 - c.latchExp))
  let gainI := now 0 - c.latchImp
  let gainE := now 1 - c.latchExp
  s.modLsess c.outlet fun l => { l with
    mp := m, atOpen := [c.latchImp, c.latchExp], carried := true, segs := segAdd l.segs c.k gainI gainE }

/-- The take-over is complete (R481 to R485): TWIN_ACT_OUT rises; sessions with a high-level protocol stop.
(DESIGN CHOICE, log 185) -/
def takeOverDone (s : State) : State :=
  let s := forEach s.twin.carried (fun c s => s.carrySession c) s
  let s := (s.incSat R.TWIN_STAT_TAKEOVERS 0).setRole 2 none
  forEach ((List.range 8).filter fun n => (s.outlet n).hlcRunning && (s.outlet n).st.live) (fun n s =>
    match (s.outlet n).st with
    | .ready => s.stopSession n eHLC_ERROR
    | .energy => s.stopSession n eHLC_ERROR
    | .paused => s.stopSession n eHLC_ERROR
    | .stopping => s
    | _ => s.endSession n eHLC_ERROR) s

/-- A shadow latches at a copied K, in own MTB (R484). -/
def shadowLatch (s : State) (k : Nat) (x : TwinShadow) : TwinShadow :=
  { x with latches := ((k, s.counterAt x.mp 0 k, s.counterAt x.mp 1 k) :: x.latches).filter fun v => decide (s.mtb ≤ v.1 + 64 * 10 ^ 6) }

/-- The shadows of the sessions in a copy (R484): each opens at the first copied K at which its session appears, and
latches at each. -/
def shadowNote (s : State) (c : TwinCopy) : State :=
  let d := s.rdInt R.TWIN_MTB_OFS_OFFSET
  let sh := c.latches.foldl (fun (t : Tab (Option TwinShadow)) l =>
    let m := s.rd R.OUT_CFG_MP l.1
    let k := ownTime d l.2.2.2.2
    let new : TwinShadow := ⟨l.2.1, m, s.counterAt m 0 k, s.counterAt m 1 k, []⟩
    let x := match s.twin.shadows.get none l.1 with
      | some x => if x.id = l.2.1 then x else new
      | none => new
    t.put none l.1 (some (s.shadowLatch k x))) .empty
  { s with twin := { s.twin with shadows := sh } }

end State
end Sys2Proof.Machine
end

