-- ==== Sys2Proof/Machine/Key.lean ====
section
/-! DEFINITION. The events and commands of the key store and of the credential store (11_keys_credentials.md). -/

namespace Sys2Proof.Machine
namespace State

/-- In RECOVERY every enabled outlet is held in OUT_OF_SERVICE, and no session starts (R359).
(DESIGN CHOICE, log 61) -/
def recoveryOutlets (s : State) : State :=
  if s.keyMode != 4 then s else
  forEach ((List.range 8).filter fun n => s.outType n != 0) (fun n s =>
    if (s.outlet n).st == .idle || (s.outlet n).st == .disabled then (s.driveF n).setSess n .outOfService 0 0 else s) s

/-- A key command that uses the tree (R357, R359): KEY_RECOVERY without a root, NOT_READY outside NORMAL.
(DESIGN CHOICE, log 140) -/
def withTree (s : State) (x : Ctx) (f : State → State) : State :=
  if s.keyMode = 4 then s.complete x St.KEY_RECOVERY
  else if s.keyMode != 2 then s.complete x St.NOT_READY
  else f s

/-- A label path is well formed (R361): up to 8 labels of 1 to 64 bytes. -/
def pathBad (p : List (List Byte)) : Option Nat :=
  if 8 < p.length then some St.TREE_DEPTH
  else if p = [] || p.any (fun l => l = [] || 64 < l.length) then some St.LABEL_SIZE else none

/-- A command on the node of a path. -/
def onNode (s : State) (x : Ctx) (p : List (List Byte)) (f : KNode → State → State) : State :=
  s.withTree x fun s =>
    match pathBad p, s.node? p with
    | some e, _ => s.complete x e
    | none, none => s.complete x St.KEY_UNKNOWN
    | none, some n => f n s

/-- An owner-signed command (R369): its effect follows once signature and counter are accepted; `bad` refuses it for
another reason after that check. -/
def owned (s : State) (x : Ctx) (g : OwnerSig) (bad : Option Nat) (f : State → State) : State :=
  match s.ownerBad g, bad with
  | some e, _ => s.complete x e
  | none, some e => s.complete x e
  | none, none => f (s.ownerTook g)

/-- A node that may not be invalidated (R362, R364, R384): ATTEST, STORE, the credential store key, installed nodes.
(DESIGN CHOICE, log 142) -/
def nodeFixed (n : KNode) : Bool :=
  n.installed || [[label "ATTEST"], [label "STORE"], [label "STORE", label "CRED"]].contains n.path

/-- A node whose key can be named in an attestation or a request (R373, R376). -/
def attestable (n : KNode) : Bool := asymmetric n.typ && !n.stale

/-- The flash area of a credential copy (table Flash areas). -/
def credArea (c : Nat) : Nat := 3 + c

/-- A credential command: refused in RECOVERY (R359). -/
def withCreds (s : State) (x : Ctx) (f : State → State) : State := s.withTree x f

/-- The load in progress ends. -/
def endLoad (s : State) : State :=
  (({ s with key := { s.key with load := none, manifest := none } } : State).wr R.KEY_CRED_STAT_LOAD_STATE 0 0).wr
    R.KEY_CRED_STAT_LOADED 0 0

/-- Why a credential load fails its verification (R382). -/
def loadBad (s : State) (m : Manifest) : Option Nat :=
  let rs := s.key.copy (1 - s.credCopy)
  let inOrder := (rs.zip (rs.drop 1)).all fun p => p.1.before p.2
  if !s.flag R.KEY_STATUS_OWNER_SET || !m.sigOk || (m.serial != 0 && m.serial != s.rd R.PWR_MODULE_ID_SERIAL) then
    some St.BAD_SIGNATURE
  else if some m.gen != s.key.load.map (·.1) || m.gen ≤ s.rd R.KEY_CRED_STAT_ACTIVE_GEN then some St.CRED_GEN
  else if m.count != rs.length || m.digest != Config.hash (rs.flatMap CredRec.bytes) then some St.CRED_HASH
  else if !inOrder then some St.CRED_ORDER else none

/-- The active pointer flips to the loaded copy and the delta log empties (R382). (DESIGN CHOICE, log 143) -/
def credFlip (s : State) (m : Manifest) : State :=
  let c := 1 - s.credCopy
  let s := { s with key := { s.key with deltas := [], badBlocks := s.key.badBlocks.filter fun b => b.1 != c } }
  let s := (s.wr R.KEY_CRED_STAT_ACTIVE_COPY 0 c).wr R.KEY_CRED_STAT_ACTIVE_GEN 0 m.gen
  let s := (s.wr R.KEY_CRED_STAT_RECORDS 0 m.count).wr R.KEY_CRED_STAT_DELTAS 0 0
  s.endLoad.raise Ev.CRED_ACTIVATED 0 [m.gen, m.count, c]

/-- An attestation statement before its signature (table Attestation statement). -/
def attestBytes (s : State) (nonce : Nat) (ns : List KNode) : List Nat :=
  [0x5A, 0x41, 0x54, 0x54, 1, ns.length] ++ leBytes 2 (448 + 148 * ns.length) ++ leBytes 8 (s.rd R.PWR_MODULE_ID_SERIAL)
    ++ leBytes 8 (s.rd R.PWR_MODULE_ID_ASSY_LOT)
    ++ (List.range 4).flatMap (fun d =>
      leBytes 8 (s.rd R.PWR_DIE_ID_LOT d) ++ [s.rd R.PWR_DIE_ID_WAFER d, s.rd R.PWR_DIE_ID_X d, s.rd R.PWR_DIE_ID_Y d, 0])
    ++ leBytes 2 (s.rd R.HOST_SYNC_GLOBAL_EPOCH) ++ leBytes 2 s.keyMode ++ leBytes 8 s.mtb ++ leBytes 4 s.wallS ++ leBytes 32 nonce
    ++ leBytes 4 s.tamecGen ++ s.partDigests.flatMap (leBytes 32)
    ++ leBytes 32 (if s.flag R.KEY_STATUS_OWNER_SET then s.key.owner else 0) ++ leBytes 4 (s.rd R.KEY_CRED_STAT_ACTIVE_GEN)
    ++ ns.flatMap fun n => leBytes 8 (Config.hash ((n.path.flatMap id).map (·.toNat))) ++ leBytes 4 n.gen ++ [n.typ, 0, 0, 0]
      ++ leBytes 132 (s.nodePub n)

/-- The install blob (table Install blob): key type, label, owner counter; none where its lengths do not fit. -/
def installBlob (bs : List Byte) : Option (Nat × List Byte × Nat) :=
  let ns := bs.map (·.toNat)
  let l := ns.getD 98 0
  let c := leField ns (103 + l) 2
  if l = 0 || 64 < l || bs.length != 105 + l + c + 16 + 64 then none
  else some (ns.getD 97 0, (bs.drop 99).take l, leField ns (99 + l) 4)

/-- The validity periods of a chain, from and until in wall UTC, hold now; without wall time they are not checked (R374). -/
def periodsOk (s : State) (ps : List (Nat × Nat)) : Bool :=
  !s.rtcValid || ps.all fun p => decide (p.1 ≤ s.wallS) && decide (s.wallS ≤ p.2)

end State

/-- RIDDLE (R367, R368): every held key gets a fresh mask; while the DRBG is failed the period counts as late, as one
that comes more than a period late does. -/
def execRiddle (t : Nat) (s : State) : Host.Outcome State Fault Refusal :=
  .next (onEvent s t fun s =>
    let ms := s.rd R.KEY_CFG_RIDDLE_MS
    let period := 10 ^ 6 * (if ms = 0 then 64 else ms)
    if s.mtb < s.key.riddleAt + period then s else
    let late := decide (s.key.riddleAt + 2 * period < s.mtb)
    let s := if late || !s.drbgOk then s.incSat R.KEY_STATUS_RIDDLE_LATE 0 else s
    let s := { s with key := { s.key with riddleAt := s.mtb } }
    if s.drbgOk then forEach s.key.cache (fun h s =>
      let (mask, s) := s.drbgNext 256
      { s with key := { s.key with masks := s.key.masks.put 0 h mask } }) s
    else s)

/-- DRBG_RESEED (R375): every 10 s. -/
def execDrbgReseed (t : Nat) (s : State) : Host.Outcome State Fault Refusal :=
  .next (onEvent s t fun s => if s.drbgOk && s.key.reseedAt + 10 ^ 10 ≤ s.mtb then s.reseed else s)

/-- ENTROPY_FAIL (R375): the DRBG stops. Test 0 is the repetition count, 1 the adaptive proportion. -/
def execEntropyFail (t test : Nat) (s : State) : Host.Outcome State Fault Refusal :=
  .next (onEvent s t fun s =>
    let s := (s.wr R.KEY_DRBG_HEALTH_OK 0 0).incSat R.KEY_DRBG_HEALTH_FAIL 0
    ({ s with key := { s.key with passes := 0, failTest := test, testAt := s.mtb } } : State).raise Ev.ENTROPY_FAIL 0 [test, 1])

/-- ENTROPY_RETEST (R375): every 1 s; three passes in a row restore the DRBG. -/
def execEntropyRetest (t : Nat) (pass : Bool) (s : State) : Host.Outcome State Fault Refusal :=
  .next (onEvent s t fun s =>
    if s.drbgOk || s.mtb < s.key.testAt + 10 ^ 9 then s else
    let s := { s with key := { s.key with testAt := s.mtb } }
    if !pass then { s with key := { s.key with passes := 0 } }
    else if s.key.passes < 2 then { s with key := { s.key with passes := s.key.passes + 1 } }
    else
      let s := { s with key := { s.key with passes := 0 } }
      (s.reseed.wr R.KEY_DRBG_HEALTH_OK 0 1).raise Ev.ENTROPY_FAIL 0 [s.key.failTest, 0])

/-- KEY_SELFTEST_DONE (R357, R358): the failed tests by number; after a pass the PUF region is power-cycled and the
root regenerated, with `ber` as for PUF_RETRY. -/
def execKeySelftestDone (t : Nat) (failed : List Nat) (ber : Option Nat) (s : State) : Host.Outcome State Fault Refusal :=
  .next (onEvent s t fun s =>
    if s.keyMode != 3 then s else
    let owed := s.key.testCtx
    let s := { s with key := { s.key with testCtx := none } }
    if failed = [] then
      let s := (s.setKeyMode 1 3).wr R.KEY_PUF_STAT_ATTEMPTS 0 0
      (((s.finaliseOpt owed St.OK).regenerate ber).recoveryOutlets)
    else
      let s := forEach failed (fun k s => s.raise Ev.CRYPTO_KAT_FAIL 0 [k]) s
      ((s.keyRecovery 1).finaliseOpt owed St.KEY_RECOVERY).recoveryOutlets)

/-- CRED_VERIFY_DONE (R382). A load that fails stays loaded, and its commit can be repeated.
(DESIGN CHOICE, log 142) -/
def execCredVerifyDone (t : Nat) (s : State) : Host.Outcome State Fault Refusal :=
  .next (onEvent s t fun s =>
    match s.key.manifest with
    | none => s
    | some m =>
      match s.loadBad m with
      | none => (s.credFlip m).finalise m.ctx St.OK
      | some e =>
        let s := ({ s with key := { s.key with manifest := none } } : State).wr R.KEY_CRED_STAT_LOAD_STATE 0 1
        (s.raise Ev.CRED_LOAD_FAIL 0 [m.gen, e]).finalise m.ctx e)

/-- FLASH_BLOCK_FAIL (R387): a spare takes the block's place, or the area becomes read-only. (DEDUCED, log 146) -/
def execFlashBlockFail (t a : Nat) (s : State) : Host.Outcome State Fault Refusal :=
  .next (onEvent s t fun s =>
    if 7 ≤ a || s.worn a then s
    else if s.rd R.KEY_WEAR_SPARES_USED a < s.rd R.KEY_WEAR_SPARES a then
      s.wr R.KEY_WEAR_SPARES_USED a (s.rd R.KEY_WEAR_SPARES_USED a + 1)
    else
      let s := s.wr R.KEY_WEAR_READ_ONLY a 1
      let s := if 3 ≤ a && a ≤ 5 then s.wr R.KEY_CRED_STAT_WORN 0 1 else s
      s.raise Ev.WORN 0 [a])

/-- KEY_QUERY. -/
def execKeyQuery (x : Ctx) (s : State) : Host.Outcome State Fault Refusal :=
  .next (s.command x Op.KEY_QUERY 0 none fun s =>
    let st := 2 ^ 29 * s.keyMode + 2 ^ 28 * s.rd R.KEY_STATUS_ROOT_OK + 2 ^ 27 * s.rd R.KEY_STATUS_LEES_OK
      + 2 ^ 26 * s.rd R.KEY_STATUS_OWNER_SET + 2 ^ 25 * s.rd R.KEY_STATUS_ATTEST_CERT + 2 ^ 16 * s.rd R.KEY_STATUS_RIDDLE_LATE
    s.complete x St.OK (st + 2 ^ 32 * s.rd R.KEY_CRED_STAT_ACTIVE_GEN))

/-- KEY_NODE_QUERY (R361): handle, generation, type, state and public key. -/
def execKeyNodeQuery (x : Ctx) (path : List (List Byte)) (s : State) : Host.Outcome State Fault Refusal :=
  .next (s.command x Op.KEY_NODE_QUERY 0 none fun s =>
    s.onNode x path fun n s =>
      let s := s.giveBuffer [n.handle, n.gen, n.typ, b2n n.stale, if asymmetric n.typ then s.nodePub n else 0]
      s.complete x St.OK (n.handle + 2 ^ 32 * n.gen + 2 ^ 64 * n.typ + 2 ^ 72 * b2n n.stale))

/-- KEY_INVALIDATE (R364, R365). -/
def execKeyInvalidate (x : Ctx) (path : List (List Byte)) (sig : OwnerSig) (s : State) :
    Host.Outcome State Fault Refusal :=
  .next (s.command x Op.KEY_INVALIDATE 0 none fun s =>
    s.onNode x path fun n s =>
      s.owned x sig (if State.nodeFixed n then some St.KEY_FIXED else none) fun s =>
        let (k, s) := s.invalidate path
        let s := s.raise Ev.KEY_INVALIDATED 0 [Config.hash ((path.flatMap id).map (·.toNat)) % 2 ^ 64, n.gen + 1, k]
        (if path = pathSign then s.signKeyChanged else s).complete x St.OK)

/-- KEY_REDERIVE (R366). -/
def execKeyRederive (x : Ctx) (path : List (List Byte)) (sig : OwnerSig) (s : State) :
    Host.Outcome State Fault Refusal :=
  .next (s.command x Op.KEY_REDERIVE 0 none fun s =>
    s.onNode x path fun _ s => s.owned x sig none fun s =>
      let old := s.ledgerGen
      let s := s.rederive path
      (if s.ledgerGen = old then s else s.signKeyChanged).complete x St.OK)

/-- KEY_INSTALL (R362): the blob; `plain` is the key that its ciphertext holds where its tag verifies, and `sigOk` says that its
owner signature does. (DESIGN CHOICE, log 139) -/
def execKeyInstall (x : Ctx) (blob : List Byte) (plain : Option Nat) (sigOk : Bool) (s : State) :
    Host.Outcome State Fault Refusal :=
  .next (s.command x Op.KEY_INSTALL 0 none fun s =>
    s.withTree x fun s =>
      match State.installBlob blob with
      | none => s.complete x St.BLOB_INVALID
      | some (typ, label_, counter) =>
        let path := [label "STORE", label_]
        let bad :=
          if !s.drbgOk then some St.ENTROPY_FAIL
          else if plain.isNone || typ = 0 || 8 < typ then some St.BLOB_INVALID
          else if s.worn 2 then some St.STORE_WORN
          else match s.node? path with
            | some n => if n.installed then none else some St.BLOB_INVALID
            | none => if 4096 ≤ s.key.nodes.length then some St.BLOB_INVALID else none
        s.owned x ⟨sigOk, counter⟩ bad fun s =>
          let k := plain.getD 0
          let s := if (s.node? path).isSome then s.modNode path fun n => { n with key := k, typ := typ, gen := n.gen + 1 }
            else
              let h := 1 + s.key.nodes.foldl (fun a n => max a n.handle) 0
              let n : KNode := ⟨path, typ, 1, 1, false, true, k, 0, h⟩
              { s with key := { s.key with nodes := s.key.nodes ++ [n] } }
          s.cacheCounts.complete x St.OK)

/-- KEY_OWNER_SET (R369): the first unsigned, with LEGAL_SEAL asserted; later ones signed by the present owner.
(DESIGN CHOICE, log 140, 141) -/
def execKeyOwnerSet (x : Ctx) (pk : List Byte) (counter : Nat) (sig : Option Bool) (s : State) :
    Host.Outcome State Fault Refusal :=
  .next (s.command x Op.KEY_OWNER_SET 0 none fun s =>
    let digest := Config.hash (pk.map (·.toNat))
    let setKey := fun (s : State) =>
      let s := { s with key := { s.key with owner := digest } }
      (s.wr R.KEY_STATUS_OWNER_SET 0 1).complete x St.OK
    if pk.length != 64 then s.complete x St.BAD_PARAM
    else match sig with
      | some ok => s.owned x ⟨ok, counter⟩ none setKey
      | none =>
        if s.flag R.KEY_STATUS_OWNER_SET || !s.flag R.LEDGER_STAT_SEAL then s.complete x St.OWNER_SET_DENIED
        else if counter ≤ s.rd R.KEY_OWNER_CTR_CTR || 2 ^ 32 ≤ counter then s.complete x St.OWNER_REPLAY
        else setKey (s.ownerTook ⟨true, counter⟩))

/-- KEY_ANCHOR_INSTALL (R370): `valid` says that the item parses as a certificate or a key of its type. -/
def execKeyAnchorInstall (x : Ctx) (slot typ : Nat) (item : List Byte) (valid : Bool) (sig : OwnerSig) (s : State) :
    Host.Outcome State Fault Refusal :=
  .next (s.command x Op.KEY_ANCHOR_INSTALL 0 none fun s =>
    let other := (List.range 32).any fun k => k != slot && (s.key.anchors.get none k).map (·.typ) == some 1
    let bad :=
      if 32 ≤ slot || typ = 0 || 5 < typ || item = [] || 2048 < item.length || (typ = 1 && other) then some St.BAD_PARAM
      else if typ = 1 && !s.flag R.LEDGER_STAT_SEAL then some St.SEAL_NOT_ASSERTED
      else if s.worn 2 then some St.STORE_WORN
      else if !valid then some St.CERT_INVALID else none
    s.owned x sig bad fun s =>
      let a : Anchor := ⟨typ, Config.hash (item.map (·.toNat))⟩
      ({ s with key := { s.key with anchors := s.key.anchors.put none slot (some a) } } : State).complete x St.OK)

/-- KEY_CSR (R373): a request for the node's public key, signed by the node. (DESIGN CHOICE, log 139) -/
def execKeyCsr (x : Ctx) (path : List (List Byte)) (subject : List Byte) (s : State) : Host.Outcome State Fault Refusal :=
  .next (s.command x Op.KEY_CSR 0 none fun s =>
    s.onNode x path fun n s =>
      if n.stale then s.complete x St.KEY_STALE
      else if !asymmetric n.typ then s.complete x St.BAD_PARAM
      else
        let s := s.useNode n.handle
        let body := subject.map (·.toNat) ++ [n.typ, s.nodePub n]
        (s.giveBuffer (body ++ [Config.sign ((s.nodeKey path).getD 0) body])).complete x St.OK)

/-- KEY_CERT_INSTALL (R373): up to four certificates; `leafKey` is the leaf's public key, `periods` are their
validity periods, and `valid` says that the chain validates to a V2G_ROOT anchor in all else (R374). Bit 0 of the result is
TIME_UNCHECKED. (DESIGN CHOICE, log 257) -/
def execKeyCertInstall (x : Ctx) (path : List (List Byte)) (chain : List (List Byte)) (leafKey : Nat)
    (periods : List (Nat × Nat)) (valid : Bool) (s : State) : Host.Outcome State Fault Refusal :=
  .next (s.command x Op.KEY_CERT_INSTALL 0 none fun s =>
    s.onNode x path fun n s =>
      let root := (List.range 32).any fun k => (s.key.anchors.get none k).map (·.typ) == some 2
      if n.stale then s.complete x St.KEY_STALE
      else if s.worn 2 then s.complete x St.STORE_WORN
      else if chain = [] || 4 < chain.length || !valid || !s.periodsOk periods || !root || !asymmetric n.typ || leafKey != s.nodePub n then
        s.complete x St.CERT_INVALID
      else (s.modNode path fun m => { m with cert := Config.hash ((chain.flatMap id).map (·.toNat)) }).complete x St.OK (b2n !s.rtcValid))

/-- KEY_ATTEST (R376). -/
def execKeyAttest (x : Ctx) (nonce : Nat) (paths : List (List (List Byte))) (s : State) : Host.Outcome State Fault Refusal :=
  .next (s.command x Op.KEY_ATTEST 0 none fun s =>
    s.withTree x fun s =>
      let ns := paths.filterMap fun p => s.node? p
      if 8 < paths.length then s.complete x St.BAD_PARAM
      else if ns.length != paths.length || ns.any (fun n => !State.attestable n)
          || ((s.node? pathDevice).map (·.stale)).getD true then s.complete x St.ATTEST_NODE
      else
        let s := forEach ns (fun n s => s.useNode n.handle) s
        let f := s.attestBytes nonce ns
        (s.giveBuffer (f ++ leBytes 96 (Config.sign ((s.nodeKey pathDevice).getD 0) f))).complete x St.OK)

/-- KEY_ATTEST_CERT (R376). -/
def execKeyAttestCert (x : Ctx) (s : State) : Host.Outcome State Fault Refusal :=
  .next (s.command x Op.KEY_ATTEST_CERT 0 none fun s => (s.giveBuffer [Config.factory 1]).complete x St.OK)

/-- KEY_SELFTEST (R357, R358). -/
def execKeySelftest (x : Ctx) (s : State) : Host.Outcome State Fault Refusal :=
  .next (s.command x Op.KEY_SELFTEST 0 none fun s =>
    s.withTree x fun s =>
      let free := (List.range 8).all fun n =>
        [SessState.idle, .disabled, .outOfService].contains (s.outlet n).st
      if !free then s.complete x St.SESSIONS_ACTIVE
      else
        let s := (s.clearKeys.setKeyMode 3 3).complete x St.ACCEPTED
        { s with key := { s.key with testCtx := some x } })

/-- CRED_LOAD_BEGIN (R381, R383): a load of the same generation and count is resumed. -/
def execCredLoadBegin (x : Ctx) (gen count : Nat) (s : State) : Host.Outcome State Fault Refusal :=
  .next (s.command x Op.CRED_LOAD_BEGIN 0 none fun s =>
    s.withCreds x fun s =>
      let c := 1 - s.credCopy
      if s.key.manifest.isSome then s.complete x St.BUSY
      else if 262144 < count || 2 ^ 32 ≤ gen then s.complete x St.BAD_PARAM
      else if gen ≤ s.rd R.KEY_CRED_STAT_ACTIVE_GEN then s.complete x St.CRED_GEN
      else if s.worn (State.credArea c) then s.complete x St.STORE_WORN
      else
        let s := if s.key.load = some (gen, count) then s
          else ({ s with key := { s.key.setCopy c [] with load := some (gen, count) } } : State).wr R.KEY_CRED_STAT_LOADED 0 0
        (s.wr R.KEY_CRED_STAT_LOAD_STATE 0 1).complete x St.OK (s.rd R.KEY_CRED_STAT_LOADED))

/-- CRED_LOAD_DATA (R381, R383): a chunk is made durable whole or not at all. (DESIGN CHOICE, log 139) -/
def execCredLoadData (x : Ctx) (first : Nat) (recs : List CredRec) (s : State) : Host.Outcome State Fault Refusal :=
  .next (s.command x Op.CRED_LOAD_DATA 0 none fun s =>
    s.withCreds x fun s =>
      let c := 1 - s.credCopy
      let have_ := s.key.copy c
      let all := have_.drop (have_.length - 1) ++ recs
      if s.key.manifest.isSome then s.complete x St.BUSY
      else if recs = [] || 1024 < recs.length || 262144 < first + recs.length then s.complete x St.BAD_PARAM
      else if s.key.load.isNone || first != s.rd R.KEY_CRED_STAT_LOADED then s.complete x St.CRED_SEQ
      else if !(all.zip (all.drop 1)).all (fun p => p.1.before p.2) then s.complete x St.CRED_ORDER
      else if s.worn (State.credArea c) then s.complete x St.STORE_WORN
      else
        let s := { s with key := s.key.setCopy c (have_ ++ recs) }
        (s.wr R.KEY_CRED_STAT_LOADED 0 (first + recs.length)).complete x St.OK)

/-- CRED_LOAD_COMMIT (R381, R382): the signed manifest. (DESIGN CHOICE, log 139) -/
def execCredLoadCommit (x : Ctx) (gen count digest serial : Nat) (sigOk : Bool) (s : State) :
    Host.Outcome State Fault Refusal :=
  .next (s.command x Op.CRED_LOAD_COMMIT 0 none fun s =>
    s.withCreds x fun s =>
      if s.key.manifest.isSome then s.complete x St.BUSY
      else if s.key.load.isNone then s.complete x St.CRED_SEQ
      else
        let s := (s.wr R.KEY_CRED_STAT_LOAD_STATE 0 2).complete x St.ACCEPTED
        { s with key := { s.key with manifest := some ⟨x, gen, count, digest, serial, sigOk⟩ } })

/-- CRED_LOAD_ABORT (R381): the inactive copy is discarded. A commit under verification is cancelled. -/
def execCredLoadAbort (x : Ctx) (s : State) : Host.Outcome State Fault Refusal :=
  .next (s.command x Op.CRED_LOAD_ABORT 0 none fun s =>
    s.withCreds x fun s =>
      let s := s.finaliseOpt (s.key.manifest.map (·.ctx)) St.CANCELLED
      let s := { s with key := s.key.setCopy (1 - s.credCopy) [] }
      s.endLoad.complete x St.OK)

/-- CRED_UPDATE (R385, R386): all the records or none. -/
def execCredUpdate (x : Ctx) (recs : List CredRec) (sig : OwnerSig) (s : State) : Host.Outcome State Fault Refusal :=
  .next (s.command x Op.CRED_UPDATE 0 none fun s =>
    s.withCreds x fun s =>
      let bad :=
        if recs = [] || 64 < recs.length then some St.BAD_PARAM
        else if s.worn 5 then some St.STORE_WORN
        else if 8192 < s.key.deltas.length + recs.length then some St.CRED_FULL else none
      let go := fun (s : State) =>
        let s := { s with key := { s.key with deltas := s.key.deltas ++ recs } }
        (s.wr R.KEY_CRED_STAT_DELTAS 0 s.key.deltas.length).complete x St.OK
      if s.flag R.KEY_CFG_CRED_SIGNED then s.owned x sig bad go
      else match bad with
        | some e => s.complete x e
        | none => go s)

/-- CRED_LOOKUP (R378 to R380): `tagBad` says that the flash block that holds the key's place in the active copy fails
its tag; it is then treated as empty. (DESIGN CHOICE, log 144) -/
def execCredLookup (x : Ctx) (kind hash n : Nat) (tagBad : Bool) (s : State) : Host.Outcome State Fault Refusal :=
  .next (s.command x Op.CRED_LOOKUP 0 none fun s =>
    s.withCreds x fun s =>
      if kind = 0 || 5 < kind || 8 ≤ n then s.complete x St.BAD_PARAM
      else
        let c := s.credCopy
        let s := match tagBad && (s.deltaOf kind hash).isNone, s.storedOf kind hash with
          | true, some (_, i) =>
            let s := { s with key := { s.key with badBlocks := s.key.badBlocks ++ [(c, i / 64)] } }
            s.raise Ev.CRED_CORRUPT 0 [c, i / 64]
          | _, _ => s
        match s.credLookup kind hash n with
        | .unknown => s.complete x St.OK 1
        | .blocked i r => (s.giveBuffer (r.bytes.take 40)).complete x St.OK (2 + 2 ^ 8 * i)
        | .ok i r => (s.giveBuffer (r.bytes.take 40)).complete x St.OK (2 ^ 8 * i))

end Sys2Proof.Machine
end

