-- ==== Sys2Proof/Machine/TrellisOps.lean ====
section
/-! DEFINITION. The Trellis node: frames, links, routes, queues, states (R334 to R351). -/

namespace Sys2Proof.Machine

/-- Frame types (table Trellis frame types). -/
abbrev fBEACON : Nat := 0x01
abbrev fACK : Nat := 0x02
abbrev fLQ_REPORT : Nat := 0x03
abbrev fJOIN_REQ : Nat := 0x04
abbrev fJOIN_RESULT : Nat := 0x05
abbrev fSITE_LIMIT : Nat := 0x10
abbrev fTIME : Nat := 0x11
abbrev fHOST_DATA : Nat := 0x20
abbrev fIMAGE_OFFER : Nat := 0x30
abbrev fIMAGE_REQ : Nat := 0x31
abbrev fIMAGE_BLOCK : Nat := 0x32

/-- No metric: unreachable, or not a usable neighbour. -/
def noCost : Nat := 0xFFFF

/-- The failures among the last 32 frames on a link. -/
def TLink.fail32 (l : TLink) : Nat := l.fails.countP id

/-- The mean SNR of a link in 0.5 dB. -/
def TLink.snr (l : TLink) : Nat := l.snrSum / max 1 l.snrN

/-- The ROBO mode of a link, at most `cap` (R344); 0 for a link never heard. -/
def TLink.mode (l : TLink) (cap : Nat) : Nat :=
  if l.snrN = 0 then 0
  else
    let m := if 18 ≤ l.snr then 3 else if 10 ≤ l.snr then 2 else 1
    max 1 (min cap m - l.down)

/-- The cost of a link in a mode (R344). -/
def linkCost (mode fail32 : Nat) : Nat :=
  let k := match mode with
    | 3 => 9
    | 2 => 17
    | _ => 22
  if mode = 0 || 16 < fail32 then noCost else (k * 32 + (32 - fail32) - 1) / (32 - fail32)

/-- The frame as a fresh one of this node: not yet sent. -/
def TFrame.new (typ cls src dst seq : Nat) (payload : List Nat) : TFrame :=
  ⟨typ, cls, src, dst, seq, 0, payload, 0, 0, 0, 0, 0, 0, 0, 0, 0, [], [], none⟩

/-! ### Frames as bytes (table Trellis frame types) -/

/-- The payload of a BEACON: coordinator, superframe count, ALIGN, position, relays, node count. -/
def beaconBytes (coord count align pos : Nat) (relays : List Nat) (nodes : Nat) : List Nat :=
  [coord] ++ leBytes 4 count ++ [align, pos] ++ (relays ++ List.replicate 8 0).take 8 ++ [nodes, 0, 0]
/-- The payload of an ACK: sequence number and frame counter acknowledged. -/
def ackBytes (seq ctr : Nat) : List Nat := leBytes 2 seq ++ leBytes 6 ctr
/-- The payload of an LQ_REPORT: address, metric, hops of each node. -/
def lqBytes (es : List (Nat × Nat × Nat)) : List Nat := es.flatMap fun e => [e.1] ++ leBytes 2 e.2.1 ++ [e.2.2]
/-- The payload of a JOIN_REQ: module serial, node capabilities. -/
def joinBytes (serial caps : Nat) : List Nat := leBytes 8 serial ++ leBytes 4 caps
/-- The payload of a SITE_LIMIT: validity in s, entry count, entries of node and limit in W. -/
def limitBytes (validity : Nat) (es : List (Nat × Nat)) : List Nat :=
  leBytes 2 validity ++ [es.length, 0] ++ es.flatMap fun e => [e.1, 0] ++ leBytes 4 e.2
/-- The payload of a TIME: superframe of reference, wall time at its start in ms, owner signature if any. -/
def timeBytes (ref ms : Nat) (sig : List Nat) : List Nat :=
  leBytes 4 ref ++ leBytes 4 (ms / 1000) ++ leBytes 2 (ms % 1000) ++ [0, 0] ++ sig
/-- The payload of an IMAGE_OFFER: manifest SHA-256, block count, image generation. -/
def offerBytes (digest count gen : Nat) : List Nat := leBytes 32 digest ++ leBytes 4 count ++ leBytes 4 gen
/-- The payload of an IMAGE_REQ: manifest SHA-256, ranges of first block and count. -/
def reqBytes (digest : Nat) (rs : List (Nat × Nat)) : List Nat :=
  leBytes 32 digest ++ rs.flatMap fun r => leBytes 4 r.1 ++ leBytes 2 r.2
/-- The payload of an IMAGE_BLOCK: the first 8 bytes of the manifest SHA-256, block, fragment, data. -/
def blockBytes (digest block frag : Nat) (data : List Nat) : List Nat :=
  leBytes 8 digest ++ leBytes 4 block ++ [frag, 0, 0, 0] ++ data
/-- The bytes of a block that a fragment carries (R341). -/
def fragOf (block : List Nat) (k : Nat) : List Nat := (block.drop (1008 * k)).take 1008

/-- A frame takes an ACK: it is unicast and no ACK itself (R346). -/
def TFrame.ackReq (f : TFrame) : Bool := f.rx != 0xFF && f.typ != fACK

/-- The 24-byte header (R339) of a frame on a segment. -/
def TFrame.header (f : TFrame) (seg : Nat) : List Nat :=
  [1, f.typ, f.cls % 4 + 4 * b2n f.ackReq + 8 * b2n (f.hops != 0) + 16 * (f.hops % 4), 0] ++ leBytes 2 seg
    ++ [f.src, f.dst, f.tx, f.rx] ++ leBytes 2 f.seq ++ leBytes 6 f.ctr ++ leBytes 2 f.payload.length ++ [0, 0, 0, 0]

/-- The 96-bit nonce of a frame (R340): transmitter, segment, frame counter, zeros. -/
def TFrame.nonce (f : TFrame) (seg : Nat) : List Nat := [f.tx] ++ leBytes 2 seg ++ leBytes 6 f.ctr ++ [0, 0, 0]

namespace State

/-- The segment key (R340, R362): the key of the installed AES-256 node; the spec names no label for it.
(DESIGN CHOICE, log 253) -/
def segKey (s : State) : Nat := ((s.key.nodes.find? fun n => n.installed && n.typ == 2).map (·.key)).getD 0

/-- The node's state (table Trellis node states). -/
def trxState (s : State) : Nat := s.rd R.PLC_TRELLIS_STAT_STATE
/-- The node's own address. -/
def trxAddr (s : State) : Nat := s.rd R.PLC_TRELLIS_CFG_NODE_ADDR
/-- The length of two nominal grid cycles of the ZC_MP tracker in ns. -/
def sfLen (s : State) : Nat := 2 * s.nominalPeriod (s.rd R.PLC_TRELLIS_CFG_ZC_MP)

/-- Enter a node state with a reason number (R342). Reason 0 marks OFF to LISTEN, to which the table gives none.
(DESIGN CHOICE, log 130) -/
def setTrx (s : State) (new reason : Nat) : State :=
  let old := s.trxState
  let s := (s.wr R.PLC_TRELLIS_STAT_STATE 0 new).raise Ev.TRELLIS_STATE 0 [old, new, reason]
  { s with plc := { s.plc with beaconAt := s.mtb } }

/-! ### Links and routes -/

/-- The link to a neighbour on a mains modem (0 or 1). -/
def link (s : State) (n k : Nat) : TLink := s.plc.links.get TLink.init (2 * n + k)
/-- Change a link. -/
def modLink (s : State) (n k : Nat) (f : TLink → TLink) : State :=
  { s with plc := { s.plc with links := s.plc.links.upd TLink.init (2 * n + k) f } }
/-- The highest ROBO mode a mains modem uses for data. -/
def modeCap (s : State) (k : Nat) : Nat := s.rd R.PLC_CFG_MODE_MAX (8 + k)
/-- The cost of the link to a neighbour on one modem. -/
def costOn (s : State) (n k : Nat) : Nat := linkCost ((s.link n k).mode (s.modeCap k)) (s.link n k).fail32
/-- The modem that transmits to a neighbour (R334): the one whose entry has the lower cost, MPLC0 when equal. -/
def modemFor (s : State) (n : Nat) : Nat :=
  if s.flag R.PLC_TRELLIS_CFG_MPLC1_DIV && s.costOn n 1 < s.costOn n 0 then 1 else 0
/-- The cost of the direct link to a neighbour. -/
def costTo (s : State) (n : Nat) : Nat := s.costOn n (s.modemFor n)

/-- Show the link to a neighbour in its LQ entry. -/
def showLink (s : State) (n : Nat) : State :=
  let l := s.link n (s.modemFor n)
  let i := n - 1
  let s := (s.wr R.PLC_TRELLIS_LQ_LINK_COST i (s.costTo n)).wr R.PLC_TRELLIS_LQ_LINK_MODE i (l.mode (s.modeCap (s.modemFor n)))
  ((s.wr R.PLC_TRELLIS_LQ_FAIL32 i l.fail32).wr R.PLC_TRELLIS_LQ_SNR i (min 255 l.snr)).wr R.PLC_TRELLIS_LQ_COUPLE i l.port

/-- The neighbours with usable links. -/
def neighbours (s : State) : List Nat := ((List.range 254).map (· + 1)).filter fun n => s.costTo n != noCost

/-- The path to a destination through a neighbour (R345): metric and hops. -/
def pathVia (s : State) (n d : Nat) : Option (Nat × Nat) :=
  if n = d then some (s.costTo n, 1)
  else
    let r := s.plc.reports.get (noCost, 0) (256 * n + d)
    if r.1 = noCost || r.2 = 0 || 2 < r.2 then none else some (s.costTo n + r.1, r.2 + 1)

/-- The best next hop to a destination (R345): metric, hops, neighbour; ties go to fewer hops, then the lower address. -/
def bestHop (s : State) (ns : List Nat) (d : Nat) : Option (Nat × Nat × Nat) :=
  ns.foldl (fun b n =>
    match s.pathVia n d, b with
    | none, _ => b
    | some p, none => some (p.1, p.2, n)
    | some p, some q =>
      if p.1 < q.1 || (p.1 = q.1 && (p.2 < q.2.1 || (p.2 = q.2.1 && n < q.2.2))) then some (p.1, p.2, n) else b) none

/-- Choose the next hop of a destination again (R345). (DESIGN CHOICE, log 130) -/
def rerouteOne (s : State) (ns : List Nat) (d : Nat) : State :=
  let old := s.rd R.PLC_TRELLIS_LQ_NEXT_HOP (d - 1)
  let oldM := s.rd R.PLC_TRELLIS_LQ_METRIC (d - 1)
  let (m, h, n) := (s.bestHop ns d).getD (noCost, 0, 0)
  let s := ((s.wr R.PLC_TRELLIS_LQ_NEXT_HOP (d - 1) n).wr R.PLC_TRELLIS_LQ_HOPS (d - 1) h).wr R.PLC_TRELLIS_LQ_METRIC (d - 1)
    (min m noCost)
  if old != n && old != 0 && n != 0 then
    (s.incSat R.PLC_TRELLIS_STAT_REPEATER_CHG 0).raise Ev.TRELLIS_REPEATER 0 [d, old, n, oldM, m] else s

/-- Choose the next hops again (R345) and count neighbours and nodes. -/
def reroute (s : State) : State :=
  let ns := s.neighbours
  let s := forEach (((List.range 254).map (· + 1)).filter (· != s.trxAddr)) (fun d s => s.rerouteOne ns d) s
  let nodes := (List.range 254).countP fun i => s.rd R.PLC_TRELLIS_LQ_HOPS i != 0
  (s.wr R.PLC_TRELLIS_STAT_NEIGHBOURS 0 ns.length).wr R.PLC_TRELLIS_STAT_NODES 0 nodes

/-- The outcome of a unicast transmission on a link (R344): after two failures in a row the mode steps down a level.
(DESIGN CHOICE, log 128) -/
def linkResult (s : State) (n k : Nat) (failed : Bool) : State :=
  let s := s.modLink n k fun l =>
    let row := if failed then l.row + 1 else 0
    { l with fails := (failed :: l.fails).take 32, row := if row = 2 then 0 else row,
             down := if row = 2 then l.down + 1 else l.down }
  (s.showLink n).reroute

/-- A frame is heard from a neighbour (R344): its SNR enters the mean, and a risen estimate ends the stepping down.
(DESIGN CHOICE, log 128) -/
def hear (s : State) (h : THdr) : State :=
  let k := if h.modem = 1 then 1 else 0
  let s := s.modLink h.tx k fun l =>
    let l' := { l with snrSum := l.snrSum + h.snr, snrN := l.snrN + 1, port := h.port }
    if l.snr < l'.snr then { l' with down := 0, row := 0 } else l'
  let s := s.wr R.PLC_TRELLIS_LQ_LAST_HEARD (h.tx - 1) (s.rd R.PLC_TRELLIS_STAT_SF_COUNT)
  let s := match s.plc.nodes.get none h.src with
    | some (serial, _) => { s with plc := { s.plc with nodes := s.plc.nodes.put none h.src (some (serial, s.mtb)) } }
    | none => s
  (s.showLink h.tx).reroute

/-! ### Queues and transmission -/

/-- The queue of a class. -/
def tq (s : State) (c : Nat) : List TFrame := s.plc.queues.get [] c
/-- Replace the queue of a class. -/
def setTq (s : State) (c : Nat) (fs : List TFrame) : State :=
  { s with plc := { s.plc with queues := s.plc.queues.put [] c fs } }

/-- Queue a frame in its class; a full class takes no more. -/
def enqueue (s : State) (f : TFrame) : State :=
  if 64 ≤ (s.tq f.cls).length then s else s.setTq f.cls (s.tq f.cls ++ [f])

/-- The node's next sequence number. -/
def nextSeq (s : State) : Nat × State :=
  (s.plc.seq, { s with plc := { s.plc with seq := (s.plc.seq + 1) % 65536 } })

/-- Queue a frame of this node's own. -/
def send (s : State) (typ cls dst : Nat) (payload : List Nat) (via : Nat) (ctx : Option Ctx) : State :=
  let (q, s) := s.nextSeq
  s.enqueue { TFrame.new typ cls s.trxAddr dst q payload with via := via, ctx := ctx }

/-- The next frame counter (R340), reserved in blocks of 65,536. -/
def nextCtr (s : State) : Nat × State :=
  let c := s.plc.ctr
  (c, { s with plc := { s.plc with ctr := c + 1, ctrBlocks := max s.plc.ctrBlocks (c / 65536 + 1) } })

/-- The coupling port of a transmission (R333). -/
def portFor (s : State) (k dst : Nat) : Nat :=
  let c := s.rd R.PLC_CFG_COUPLE (8 + k)
  if c < 4 then c else if dst = 0xFF || (s.link dst k).snrN = 0 then 3 else (s.link dst k).port

/-- Put a frame on the line to a receiver of the hop: the header is the additional data, the payload is encrypted
(R339, R340). -/
def transmit (s : State) (f : TFrame) (rx : Nat) : TFrame × State :=
  let (c, s) := s.nextCtr
  let k := if rx = 0xFF then 0 else s.modemFor rx
  let mode := if f.typ = fBEACON || f.typ = fACK || rx = 0xFF then 1 else max 1 ((s.link rx k).mode (s.modeCap k))
  let f := { f with tx := s.trxAddr, rx := rx, ctr := c, tries := f.tries + 1, modem := k, port := s.portFor k rx, mode := mode, at_ := s.mtb }
  let seg := s.rd R.PLC_TRELLIS_CFG_SEGMENT
  let h := f.header seg
  let f := { f with hdr := h, wire := h ++ Config.gcm s.segKey (f.nonce seg) h f.payload }
  (f, { s with plc := { s.plc with air := s.plc.air ++ [f] } })

/-- The outcome of this node's own host frame (R346). Its command's final status follows it.
(DESIGN CHOICE, log 130) -/
def frameDone (s : State) (f : TFrame) (outcome : Nat) : State :=
  match f.ctx with
  | none => s
  | some x =>
    let st := match outcome with
      | 0 => St.OK
      | 1 => St.LINK_TIMEOUT
      | 2 => St.CANCELLED
      | _ => St.NODE_UNKNOWN
    (s.raise Ev.TRELLIS_SENT 0 [x.ring, x.seq, outcome, f.tries]).finalise x st

/-- Every queued frame ends cancelled (R342). -/
def cancelFrames (s : State) : State :=
  let fs := s.plc.wait.toList ++ (List.range 4).flatMap s.tq
  let s := { s with plc := { s.plc with queues := .empty, wait := none, reqs := [], parts := [] } }
  forEach fs (fun f s => s.frameDone f 2) s

/-- The mains modems run with Trellis (R334, R342). -/
def mainsModems (s : State) (on : Bool) : State :=
  (s.modemOn 8 on).modemOn 9 (on && s.flag R.PLC_TRELLIS_CFG_MPLC1_DIV)

/-- Begin to search for beacons. -/
def listen (s : State) (reason : Nat) : State :=
  let s := { s with plc := { s.plc with backoff := none, silent := false } }
  ((s.mainsModems true).wr R.PLC_TRELLIS_STAT_COORD 0 0).setTrx 1 reason

/-- The node may start (R342): enabled, with an address and a segment. (DESIGN CHOICE, log 130) -/
def trxMay (s : State) : Bool :=
  s.flag R.PLC_TRELLIS_CFG_EN && s.trxAddr != 0 && s.rd R.PLC_TRELLIS_CFG_SEGMENT != 0
    && s.flag R.GLOBAL_ISLAND_STAT_READY 8

/-- TRELLIS.CFG.EN has been written (R342). (DESIGN CHOICE, log 132) -/
def trellisEn (s : State) : State :=
  if s.trxState = 0 then (if s.trxMay then s.listen 0 else s)
  else if s.flag R.PLC_TRELLIS_CFG_EN then s
  else ((s.cancelFrames.mainsModems false).wr R.PLC_TRELLIS_STAT_COORD 0 0).setTrx 0 10

/-- Ask the coordinator to join (R342). (DESIGN CHOICE, log 132) -/
def joinReq (s : State) (coord via reason : Nat) : State :=
  let s := (s.wr R.PLC_TRELLIS_STAT_COORD 0 coord).setTrx 2 reason
  let s := { s with plc := { s.plc with joinAt := s.mtb, backoff := none } }
  s.send fJOIN_REQ 1 coord (joinBytes (s.rd R.PWR_MODULE_ID_SERIAL) 0) via none

/-- The next frame that contends (R342, R343): the first of the highest class; outside JOINED and COORD only JOIN_REQ.
(DESIGN CHOICE, log 134) -/
def nextFrame (s : State) : Option TFrame :=
  let joined := s.trxState == 3 || s.trxState == 5
  ((List.range 4).flatMap s.tq).find? fun f => joined || f.typ == fJOIN_REQ

/-- Take a frame out of its queue. -/
def dequeue (s : State) (f : TFrame) : State := s.setTq f.cls ((s.tq f.cls).erase f)

/-! ### Reception -/

/-- A counter is fresh (R340): not more than 64 below the highest accepted, and not among the last 64 accepted. -/
def ctrFresh (s : State) (tx ctr : Nat) : Bool :=
  let seen := s.plc.ctrs.get [] tx
  decide (seen.foldl max 0 < ctr + 64 || seen = []) && !seen.contains ctr

/-- A frame that a modem has taken (R334): MPLC1 receives only as diversity receiver. -/
def taken (s : State) (h : THdr) : Bool := h.modem == 0 || (h.modem == 1 && s.flag R.PLC_TRELLIS_CFG_MPLC1_DIV)

/-- Take a received frame (R334, R340, R343, R346): segment, tag and counter; the link; the ACK of a unicast hop; each
(source, number) pair once; relaying; delivery to this node with `f`. A node that is still joining
acknowledges too. (DESIGN CHOICE, log 129, 133, 252) -/
def receive (s : State) (h : THdr) (typ : Nat) (payload : List Nat) (f : State → State) : State :=
  if s.trxState = 0 || !s.taken h || h.seg != s.rd R.PLC_TRELLIS_CFG_SEGMENT || h.tx = 0 || 254 < h.tx || h.tx = s.trxAddr then s
  else if !h.tagOk || !s.ctrFresh h.tx h.ctr then s.incSat R.PLC_TRELLIS_STAT_AUTH_DROP 0
  else
    let seen := s.plc.ctrs.get [] h.tx
    let s := { s with plc := { s.plc with ctrs := s.plc.ctrs.put [] h.tx ((h.ctr :: seen).take 64) } }
    let s := s.hear h
    let mine := h.rx = s.trxAddr
    if !mine && h.rx != 0xFF then s else
    let s := if mine then (s.transmit (TFrame.new fACK 0 s.trxAddr h.tx 0 (ackBytes h.seq h.ctr)) h.tx).2 else s
    let pairs := s.plc.seen.get [] h.src
    if pairs.contains h.seq then s else
    let s := { s with plc := { s.plc with seen := s.plc.seen.put [] h.src ((h.seq :: pairs).take 64) } }
    let onward := h.dst != s.trxAddr && h.hops < 2 && h.src != s.trxAddr && (s.trxState == 3 || s.trxState == 5)
      && typ != fLQ_REPORT && typ != fBEACON
    let s := if onward then
        s.enqueue { TFrame.new typ h.cls h.src h.dst h.seq payload with hops := h.hops + 1 } else s
    if h.dst = s.trxAddr || h.dst = 0xFF then f s else s

/-! ### Superframes -/

/-- The tracker of ZC_MP is locked. -/
def zcLocked (s : State) : Bool := s.rd R.FILT_TRK_STAT_STATE (s.rd R.PLC_TRELLIS_CFG_ZC_MP) == 2

/-- The crossing of the node's tracker nearest to an instant: every half-cycle, rising or falling (R337), or rising ones
only (R336). -/
def nearestCrossing (s : State) (halves : Nat) (t : Int) : Int :=
  let m := s.rd R.PLC_TRELLIS_CFG_ZC_MP
  let d := max 1 (s.rd R.FILT_TRK_PER_PERIOD_NS m * halves / 2)
  let c : Int := s.rd R.FILT_TRK_NEXT_START m
  c + d * idivRound (t - c) d

/-- The node's tracker gives the superframes: ALIGN is 0 and the tracker is locked. -/
def followsTracker (s : State) : Bool := s.rd R.PLC_TRELLIS_CFG_ALIGN == 0 && s.zcLocked

/-- The start of the next superframe (R335 to R337). The coordinator starts at a rising crossing, or at the last SYNC_IN edge
and whole superframes after it, plus the offset; a node starts at A plus a crossing of its tracker; without a tracker in lock, and
with ALIGN 1 on a node, superframes of 2/FNOM follow each other. (DEDUCED, log 254) -/
def sfNext (s : State) (off : Int) : Nat :=
  let cur : Int := s.plc.sfStart
  let off := 10000 * off
  let cycles : Int := 2 * s.rd R.FILT_TRK_PER_PERIOD_NS (s.rd R.PLC_TRELLIS_CFG_ZC_MP)
  (if s.trxState = 5 && s.rd R.PLC_TRELLIS_CFG_ALIGN != 0 && s.plc.syncRef1 != 0 then
    let edge : Int := s.plc.syncRef1 - 1
    edge + s.sfLen * idivRound (cur - 10000 * s.plc.offNow + s.sfLen - edge) s.sfLen + off
  else if !s.followsTracker then cur + s.sfLen + (if s.trxState = 5 then off - 10000 * s.plc.offNow else 0)
  else if s.trxState = 5 then s.nearestCrossing 2 (cur - 10000 * s.plc.offNow + cycles) + off
  else s.nearestCrossing 1 (cur + cycles - s.plc.adjNs) + s.plc.adjNs).toNat

/-- The SF_OFFSET in force in the next superframe: a change moves the start by at most 0.5 ms (R336). -/
def offNext (s : State) : Int :=
  max (s.plc.offNow - 50) (min (s.plc.offNow + 50) (s.rdInt R.PLC_TRELLIS_CFG_SF_OFFSET))

/-- Hold the superframe's start as A plus the nearest crossing (R337); A stays while the tracker is not locked. -/
def holdStart (s : State) : State :=
  if !s.zcLocked then s else
  let a := (s.plc.sfStart : Int) - s.nearestCrossing 1 s.plc.sfStart
  ({ s with plc := { s.plc with adjNs := a } } : State).wrInt R.PLC_TRELLIS_STAT_ADJ 0 (idivRound a 10000)

/-- The tracker loses or regains lock under Trellis (TRELLIS_ALIGN). -/
def alignNote (s : State) : State :=
  let l := s.zcLocked
  if l == s.plc.locked then s
  else ({ s with plc := { s.plc with locked := l } } : State).raise Ev.TRELLIS_ALIGN 0
    [if l then 2 else 1, s.rd R.PLC_TRELLIS_STAT_ADJ]

/-- Move the superframe's start toward the start a beacon gives, by at most 0.5 ms per superframe (R337). -/
def moveStart (s : State) (target : Nat) : State :=
  let diff : Int := (target : Int) - s.plc.sfStart
  let base : Int := s.plc.sfBase
  let start := (max (base - 500000) (min (base + 500000) (target : Int))).toNat
  ({ s with plc := { s.plc with sfStart := start, silent := decide (500000 < diff.natAbs) } } : State).holdStart

/-- The contention region of the superframe (table Superframe layout): 4.5 ms after its start to 1.0 ms before the next. -/
def contention (s : State) : Bool :=
  decide (s.plc.sfStart + 4500000 ≤ s.mtb) && decide (s.mtb + 1000000 ≤ s.sfNext s.offNext)

/-- A frame that goes out every `n` superframes, the `k`-th of them (R345, R347 to R349). -/
def every (s : State) (k n : Nat) (f : State → State) : State :=
  if s.plc.ticks < s.plc.sentAt.get 0 k + n then s
  else f { s with plc := { s.plc with sentAt := s.plc.sentAt.put 0 k s.plc.ticks } }

/-- The payload of this node's beacon in a position. -/
def beacon (s : State) (pos : Nat) (relays : List Nat) : List Nat :=
  beaconBytes (s.rd R.PLC_TRELLIS_STAT_COORD) (s.rd R.PLC_TRELLIS_STAT_SF_COUNT) (s.rd R.PLC_TRELLIS_CFG_ALIGN) pos relays
    (s.rd R.PLC_TRELLIS_STAT_NODES)

/-- The relays the coordinator names: the first eight nodes that some path goes through.
(DESIGN CHOICE, log 129) -/
def relays (s : State) : List Nat :=
  (((List.range 254).map (· + 1)).filter fun n => (List.range 254).any fun i =>
    i + 1 != n && s.rd R.PLC_TRELLIS_LQ_NEXT_HOP i == n).take 8

/-- The SYNC_IN period is a whole number of superframes within 100 µs, and at most 1 s (R336). -/
def syncPeriodOk (s : State) (per : Nat) : Bool :=
  let k := max 1 (divRound per s.sfLen)
  decide (per ≤ 10 ^ 9) && decide (((per : Int) - k * s.sfLen).natAbs ≤ 100000)

/-! ### What frames do -/

/-- Apply a SITE_LIMIT table (R347). (DESIGN CHOICE, log 131) -/
def limitApply (s : State) (validity : Nat) (entries : List (Nat × Nat)) (src : Nat) : State :=
  let own := entries.find? fun e => e.1 == s.trxAddr
  match own.orElse fun _ => entries.find? fun e => e.1 == 0xFF with
  | none => s
  | some (_, w) =>
    let dflt := s.rd R.OUT_POLICY_TRELLIS_TO_S
    let life := if validity = 0 then dflt else min validity dflt
    let s := s.wr R.OUT_SITE_TRELLIS_W 0 w
    let s := { s with out := { s.out with trellisDue := some (s.mtb + 10 ^ 9 * life), fallback := false } }
    s.raise Ev.TRELLIS_LIMIT 0 [w, validity, src]

/-- Queue the fragments of the next block that the first waiting node wants, when class 3 holds none (R349).
THROTTLE pauses the serving (R505). -/
def serveNext (s : State) : State :=
  match s.plc.reqs, s.servedImage with
  | (n, b :: bs) :: rest, some (digest, count, _) =>
    if s.flag R.PWR_STAT_THROTTLE || (s.tq 3).any (fun f => f.typ == fIMAGE_BLOCK) || s.plc.wait.any (fun f => f.typ == fIMAGE_BLOCK) then s
    else
      let s := { s with plc := { s.plc with reqs := if bs = [] then rest else (n, bs) :: rest } }
      if count ≤ b then s
      else forEach (List.range 5) (fun k s => s.send fIMAGE_BLOCK 3 n (blockBytes digest b k (fragOf (s.slotBlock s.activeSlot b) k)) 0 none) s
  | (_, []) :: rest, _ => { s with plc := { s.plc with reqs := rest } }
  | _, _ => s

end State
end Sys2Proof.Machine
end

