-- ==== Sys2Proof/Machine/UpdOps.lean ====
section
/-! DEFINITION. Staging an image (15_update.md): manifests, the staging lock, blocks, verification. -/

namespace Sys2Proof

/-- The data blocks of a container (R453). -/
def TamecMan.dataBlocks (m : TamecMan) : Nat := m.total - 1 - m.htBlocks

/-- The part spans lie in the data blocks, each with the blocks its length takes, and no two overlap (R453). -/
def TamecMan.spansOk (m : TamecMan) : Bool :=
  (m.spans.all fun p => decide (1 + m.htBlocks ≤ p.1) && decide (p.1 + p.2.1 ≤ m.total) && p.2.1 == (p.2.2 + 4095) / 4096)
    && (List.range 6).all fun i => (List.range i).all fun j =>
      let a := m.spans.getD i (0, 0, 0)
      let b := m.spans.getD j (0, 0, 0)
      decide (a.1 + a.2.1 ≤ b.1) || decide (b.1 + b.2.1 ≤ a.1)

/-- The format fields of a manifest lie within R453. -/
def TamecMan.formatOk (m : TamecMan) : Bool :=
  m.formOk && m.parts.length == 6 && decide (1 + m.htBlocks < m.total) && decide (m.total ≤ 16384)
    && m.htBlocks == (m.dataBlocks + 127) / 128 && m.spansOk

namespace Machine

/-- Bytes are all zero. -/
def zeros (bs : List Nat) : Bool := bs.all (· == 0)

/-- Bytes `lo` to `hi` - 1. -/
def slice (bs : List Nat) (lo hi : Nat) : List Nat := (bs.drop lo).take (hi - lo)

/-- The 64 bytes of the entry of part `id` (1 to 6) in a manifest; none unless exactly one names it (R453). -/
def partEntry (bs : List Nat) (id : Nat) : Option (List Nat) :=
  match ((List.range 6).map fun i => slice bs (64 + 64 * i) (128 + 64 * i)).filter fun e => e.headD 0 == id with
  | [e] => some e
  | _ => none

/-- The manifest that the bytes of a block 0 spell (table Manifest); `sigs` says whether the Zenkote signature and the owner
co-signature verify under the keys of R454. -/
def manifestOf (bs : List Nat) (sigs : Bool × Bool) : TamecMan :=
  let es := (List.range 6).filterMap fun i => partEntry bs (i + 1)
  let form := bs.length == 4096 && slice bs 0 6 == [0x54, 0x4D, 0x45, 0x43, 1, 6] && decide (leField bs 6 2 < 2)
    && zeros (slice bs 60 64) && zeros (slice bs 448 3936) && es.length == 6
    && (es.all fun e => zeros (slice e 1 4) && zeros (slice e 20 32)) && (bit (leField bs 6 2) 0 || zeros (slice bs 4032 4096))
  { digest := Config.hash bs, gen := leField bs 8 4, floor := leField bs 12 4, settingsVer := leField bs 16 2,
    legalVer := leField bs 18 2, total := leField bs 20 4, htBlocks := leField bs 24 4, htDigest := leField bs 28 32,
    parts := es.map fun e => leField e 32 32,
    spans := es.map fun e => (leField e 4 4, leField e 8 4, leField e 12 4),
    formOk := form, sigOk := sigs.1, cosigOk := bit (leField bs 6 2) 0 && sigs.2 }

/-- The drive codes of a 32-byte waveform table (R408): as many as its frame count; none where count or reserved bytes are
wrong. -/
def waveCodes (bs : List Nat) : Option (List Nat) :=
  let n := bs.headD 0
  if bs.length != 32 || 64 < n || !zeros (slice bs 1 16) then none
  else some (((bs.drop 16).flatMap fun b => [b % 4, b / 4 % 4, b / 16 % 4, b / 64 % 4]).take n)

/-- The EPD_WAVE part that bytes spell (table EPD_WAVE layout); none where they do not fit the layout. -/
def waveOf (bs : List Nat) : Option EpdWave :=
  let modes := (List.range 4).filter fun m => bit (bs.getD 3 0) m
  let vars := fun (m : Nat) => (List.range 4).filter fun v => bit (bs.getD (4 + m) 0) v
  let mkeys := modes.flatMap fun m => (vars m).flatMap fun v => (List.range 4096).map fun k => (m * 4 + v) * 4096 + k
  let tab := fun (i : Nat) => waveCodes (slice bs (64 + 32 * i) (96 + 32 * i))
  let mat := mkeys.zipIdx.filterMap fun p => (tab p.2).map fun c => (p.1, c)
  let seg := (List.range 32).filterMap fun k => (tab (mkeys.length + k)).map fun c => (k, c)
  if leField bs 0 2 != 1 || !zeros (slice bs 38 64) || 16 ≤ bs.getD 3 0 || mat.length != mkeys.length || seg.length != 32 then none
  else some { fps := bs.getD 2 0, modes := bs.getD 3 0, variants := (List.range 4).map fun m => bs.getD (4 + m) 0,
              thr := (List.range 15).map fun b => dec 16 (leField bs (8 + 2 * b) 2), mat := mat, seg := seg }

/-- The holder id of a source and Trellis node (R456). -/
def holderId (src node : Nat) : Nat := src * 2 ^ 24 + node * 2 ^ 16

/-- Half an hour in ns. -/
def lockIdleNs : Nat := 1800 * 10 ^ 9

/-- Runs of unmarked blocks as ranges of first block and count, in order: `k` blocks are left to look at from block `b`;
`cur` is the run in progress. -/
def missingFrom (bitmap : Nat) : Nat → Nat → Option (Nat × Nat) → List (Nat × Nat)
  | 0, _, cur => cur.toList
  | k + 1, b, cur =>
    if bit bitmap b then cur.toList ++ missingFrom bitmap k (b + 1) none
    else match cur with
      | some (f, n) => missingFrom bitmap k (b + 1) (some (f, n + 1))
      | none => missingFrom bitmap k (b + 1) (some (b, 1))

namespace State

/-- The engine's state (UPD.STAT.STATE): 0 IDLE, 1 RECEIVING, 2 VERIFYING, 3 VERIFIED, 4 ACTIVATING, 5 TRIAL. -/
def updState (s : State) : Nat := s.rd R.UPD_STAT_STATE

/-- Enter a state of the engine (R462). -/
def updGo (s : State) (new status : Nat) : State :=
  let old := s.updState
  let s := if status < 0x10 || status = St.RESUMED then s else s.wr R.UPD_STAT_LAST_STATUS 0 status
  (s.wr R.UPD_STAT_STATE 0 new).raise Ev.UPD_STATE 0 [old, new, status, s.rd R.UPD_STAT_HOLDER]

/-- The staging slot (R460). -/
def stagingSlot (s : State) : Nat := 1 - s.activeSlot

/-- Why a manifest is not valid (R454). -/
def manifestBad (s : State) (m : TamecMan) : Option Nat :=
  if !m.sigOk then some St.IMAGE_SIG
  else if s.flag R.UPD_POLICY_OWNER_COSIGN && !m.cosigOk then some St.IMAGE_COSIGN
  else if m.gen < s.rd R.UPD_BOOT_FLOOR then some St.IMAGE_ROLLBACK
  else if !m.formatOk then some St.IMAGE_FORMAT else none

/-- The holder acts: its idle time starts again (R457). -/
def updTouch (s : State) (src : Nat) : State :=
  if s.rd R.UPD_STAT_HOLDER / 2 ^ 24 = src then { s with upd := { s.upd with idleAt := s.mtb } } else s

/-- Clear the bitmap and forget the staged image. -/
def updForget (s : State) : State :=
  (({ s with upd := { s.upd with man := none, bitmap := 0 } } : State).wr R.UPD_STAT_RECEIVED 0 0).wr R.UPD_STAT_TOTAL 0 0

/-- Release the lock. -/
def updRelease (s : State) : State := s.wr R.UPD_STAT_HOLDER 0 0

/-- Program a block of the staging slot. -/
def updProgram (s : State) (b : Nat) (data : List Nat) : State :=
  { s with upd := { s.upd with flash := s.upd.flash.put [] (16384 * s.stagingSlot + b) data } }

/-- Mark a block once it is programmed and read back (R460). -/
def updMark (s : State) (b : Nat) (data : List Nat) : State :=
  let s := s.updProgram b data
  ({ s with upd := { s.upd with bitmap := setBit s.upd.bitmap b } } : State).wr R.UPD_STAT_RECEIVED 0 (s.rd R.UPD_STAT_RECEIVED + 1)

/-- Start a bitmap anew for a manifest: block 0 is programmed when the lock is taken (R457, R460). -/
def updFresh (s : State) (m : TamecMan) (bs : List Nat) : State :=
  let s := s.updProgram 0 bs
  let s := { s with upd := { s.upd with man := some m, bitmap := 1 } }
  (s.wr R.UPD_STAT_RECEIVED 0 1).wr R.UPD_STAT_TOTAL 0 m.total

/-- When every block is marked, verification starts (R461). -/
def updFull (s : State) : State :=
  if s.updState = 1 && s.rd R.UPD_STAT_RECEIVED = s.rd R.UPD_STAT_TOTAL then s.updGo 2 St.OK else s

/-- Blocks still missing. -/
def updMissing (s : State) : Nat := s.rd R.UPD_STAT_TOTAL - s.rd R.UPD_STAT_RECEIVED

/-- Discard the staged blocks (R458). -/
def updErase (s : State) : State :=
  let k := s.stagingSlot
  { s with upd := { s.upd with flash := ⟨s.upd.flash.cells.filter fun c => c.1 / 16384 != k⟩ } }

/-- A source presents a manifest, block 0 as its bytes (R454, R456, R457, R462). Answers the status and result bytes 20 to 23.
(DESIGN CHOICE, log 171) -/
def updBegin (s : State) (src node : Nat) (bs : List Nat) (sigs : Bool × Bool) : Nat × Nat × State :=
  let m := manifestOf bs sigs
  let h := s.rd R.UPD_STAT_HOLDER
  let same := (s.upd.man.map (·.digest)) == some m.digest
  if s.updState = 5 then (St.TRIAL_ACTIVE, 0, s)
  else if h != 0 && h / 2 ^ 24 != src then (St.BUSY, h, s)
  else match s.manifestBad m with
  | some e => (e, 0, if e = St.IMAGE_SIG then s.tamper tIMAGE_REFUSED (m.digest % 2 ^ 128) else s)
  | none =>
    if s.updState = 0 then
      let s := (s.wr R.UPD_STAT_HOLDER 0 (holderId src node)).updTouch src
      let s := if same then s else s.updFresh m bs
      let s := s.updGo 1 (if same then St.RESUMED else St.OK)
      let n := s.updMissing
      (if same then St.RESUMED else St.OK, if same then n else 0, s.updFull)
    else if same then (St.RESUMED, s.updMissing, s.updTouch src)
    else if s.updState = 1 then (St.OK, 0, (s.updFresh m bs).updTouch src)
    else (St.UPD_STATE_ERR, 0, s)

/-- The hash table is complete. (DESIGN CHOICE, log 170) -/
def tableDone (s : State) (m : TamecMan) : Bool := bits s.upd.bitmap 1 m.htBlocks == 2 ^ m.htBlocks - 1

/-- The SHA-256 that the hash table of a slot gives for a data block (R453). -/
def tableEntry (s : State) (k d : Nat) : Nat := leField (s.slotBlock k (1 + d / 128)) (32 * (d % 128)) 32

/-- The hash table of a slot has the SHA-256 of its manifest (R453, R460). -/
def tableOk (s : State) (k : Nat) (m : TamecMan) : Bool := Config.hash (s.slotBytes k 1 m.htBlocks) % 2 ^ 256 == m.htDigest

/-- Data agrees with the hash-table entry of a block of the container. -/
def blockOk (s : State) (k : Nat) (m : TamecMan) (b : Nat) (data : List Nat) : Bool :=
  Config.hash data % 2 ^ 256 == s.tableEntry k (b - 1 - m.htBlocks)

/-- One block reaches the engine (R460): hash-table blocks in any order, the table checked once it is complete; then data
blocks that match it. A table that does not match is received anew. -/
def updBlock (s : State) (src b : Nat) (data : List Nat) : Nat × State :=
  match s.upd.man with
  | none => (St.UPD_STATE_ERR, s)
  | some m =>
    if m.total ≤ b || data.length != 4096 then (St.BAD_PARAM, s)
    else if bit s.upd.bitmap b then (St.OK, s)
    else if s.updState != 1 then (St.UPD_STATE_ERR, s)
    else if s.worn s.stagingSlot then (St.SLOT_WORN, s)
    else if b ≤ m.htBlocks then
      let t := s.updMark b data
      if t.tableDone m && !t.tableOk t.stagingSlot m then
        let cleared := { s with upd := { s.upd with bitmap := s.upd.bitmap - s.upd.bitmap % 2 ^ (1 + m.htBlocks) + 1 } }
        let n := popcount m.htBlocks (s.upd.bitmap / 2)
        (St.BLOCK_CHECK, (cleared.wr R.UPD_STAT_RECEIVED 0 (s.rd R.UPD_STAT_RECEIVED - n)).raise Ev.UPD_BLOCK_BAD 0 [b, src])
      else (St.OK, t)
    else if !s.tableDone m then (St.HT_FIRST, s)
    else if !s.blockOk s.stagingSlot m b data then (St.BLOCK_CHECK, s.raise Ev.UPD_BLOCK_BAD 0 [b, src])
    else (St.OK, s.updMark b data)

/-- Blocks in a row from `b` on, up to the first that is not accepted: status, that block, state.
(DEDUCED, log 172) -/
def updBlocks (src : Nat) : Nat → List (List Nat) → State → Nat × Nat × State
  | _, [], s => (St.OK, 0, s)
  | b, data :: r, s =>
    let (st, s) := s.updBlock src b data
    if st = St.OK then updBlocks src (b + 1) r s else (st, b, s)

/-- Blocks from a source (R456, R460). Answers the status and result bytes 20 to 23. -/
def updReceive (s : State) (src first : Nat) (blocks : List (List Nat)) : Nat × Nat × State :=
  let h := s.rd R.UPD_STAT_HOLDER
  if h != 0 && h / 2 ^ 24 != src then (St.BUSY, h, s)
  else if blocks = [] || 16 < blocks.length then (St.BAD_PARAM, 0, s)
  else
    let (st, b, s) := updBlocks src first blocks s
    let s := if st = St.OK then s.updTouch src else s
    (st, if st = St.BLOCK_CHECK then b else 0, s.updFull)

/-- Whether the staging slot as it stands in flash agrees with its hash table, and its parts with their SHA-256 (R461). -/
def slotAgrees (s : State) (k : Nat) (m : TamecMan) : Bool :=
  s.tableOk k m && ((List.range m.dataBlocks).all fun d => s.blockOk k m (1 + m.htBlocks + d) (s.slotBlock k (1 + m.htBlocks + d)))
    && (m.spans.zip m.parts).all fun p => Config.hash ((s.slotBytes k p.1.1 p.1.2.1).take p.1.2.2) % 2 ^ 256 == p.2

/-- The bytes of part `p` (0 CTRL_FW to 5 EPD_WAVE) in a slot. -/
def partBytes (s : State) (k : Nat) (m : TamecMan) (p : Nat) : List Nat :=
  let sp := m.spans.getD p (0, 0, 0)
  (s.slotBytes k sp.1 sp.2.1).take sp.2.2

/-- Verification of the staging slot ends (R461): blocks and parts, both signatures, the value of HSL_TABLE in SAFE_FW, EPD_WAVE;
`readOk` says that flash gives back what was programmed. -/
def updVerified (s : State) (readOk : Bool) : State :=
  match s.updState, s.upd.man with
  | 2, some m =>
    let k := s.stagingSlot
    let hslOk := Config.hslValue (s.partBytes k m 1) == m.parts.getD 2 0
    match waveOf (s.partBytes k m 5), readOk && s.slotAgrees k m && hslOk && (s.manifestBad m).isNone with
    | some wave, true =>
      if wave.ok then
        let s := { s with upd := { s.upd with waves := s.upd.waves.put none k (some wave), idleAt := s.mtb } }
        (s.updGo 3 St.OK).raise Ev.UPD_VERIFIED 0 [m.gen, m.digest % 2 ^ 64]
      else (s.updForget.updGo 0 St.VERIFY_FAIL).updRelease
    | _, _ => (s.updForget.updGo 0 St.VERIFY_FAIL).updRelease
  | _, _ => s

/-! ### Trellis (R349, R459) -/

/-- Ask a node for the blocks that are missing: up to 64 ranges of at most 65,535 blocks. -/
def updRequest (s : State) (node : Nat) : State :=
  match s.upd.man with
  | some m =>
    let rs := (missingFrom s.upd.bitmap m.total 0 none).take 64
    if rs = [] then s else s.send fIMAGE_REQ 2 node (reqBytes m.digest rs) 0 none
  | none => s

/-- A node offers an image (R459): block 0 is asked for where the image is wanted; a running fetch of the same image asks
for what is missing. -/
def updOffer (s : State) (node digest gen : Nat) : State :=
  if s.updState = 0 then
    if s.flag R.UPD_CFG_TRELLIS_FETCH && s.keyMode != 4 && decide (s.rd R.UPD_BOOT_ACTIVE_GEN < gen)
        && decide (s.rd R.UPD_BOOT_FLOOR ≤ gen) then
      ({ s with upd := { s.upd with fetch := some (digest, node) } } : State).send fIMAGE_REQ 2 node (reqBytes digest [(0, 1)]) 0 none
    else s
  else if s.updState = 1 && s.rd R.UPD_STAT_HOLDER / 2 ^ 24 = 2 && (s.upd.man.map (·.digest)) == some digest then s.updRequest node
  else s

/-- A block arrives over Trellis (R456, R459): block 0 of the wanted image takes the lock if its manifest is valid; blocks
of the staged manifest are taken from any node. -/
def updBlockRx (s : State) (node prefix_ b : Nat) (data : List Nat) (sigs : Bool × Bool) : State :=
  match s.updState, b, s.upd.fetch with
  | 0, 0, some (d, _) =>
    if Config.hash data != d || d % 2 ^ 64 != prefix_ % 2 ^ 64 || !s.flag R.UPD_CFG_TRELLIS_FETCH || s.keyMode = 4 then s else
    let s := { s with upd := { s.upd with fetch := none } }
    let (st, _, s) := s.updBegin 2 node data sigs
    if st = St.OK || st = St.RESUMED then s.updRequest node else s
  | 1, _, _ =>
    if s.rd R.UPD_STAT_HOLDER / 2 ^ 24 = 2 && (s.upd.man.map (·.digest % 2 ^ 64)) == some (prefix_ % 2 ^ 64) then
      (s.updReceive 2 b [data]).2.2
    else s
  | _, _, _ => s

end State
end Machine
end Sys2Proof
end

