-- ==== Sys2Proof/Machine/Upd.lean ====
section
/-! DEFINITION. The commands and events of the update engine and of the service UART (15_update.md). -/

namespace Sys2Proof.Machine
namespace State

/-- A copy of the boot pointer with the fields in force (table Boot pointer copy), before its CRC-32. -/
def ptrImage (s : State) : List Nat :=
  leBytes 4 (s.rd R.UPD_BOOT_PTR_GEN) ++ [s.activeSlot, s.rd R.UPD_BOOT_BOOT_STATE, s.rd R.UPD_BOOT_TRIAL_STARTS, s.upd.confirmed]
    ++ leBytes 4 (s.rd R.UPD_BOOT_TRIAL_S) ++ leBytes 4 (s.rd R.UPD_BOOT_ACTIVE_GEN) ++ leBytes 4 (s.rd R.UPD_BOOT_FLOOR)
    ++ leBytes 32 (match s.slotMan s.activeSlot with | some m => m.digest | none => Config.factory 2) ++ List.replicate 8 0

/-- The generation of a copy of the boot pointer; 0 for one never written. -/
def ptrGen (s : State) (k : Nat) : Nat := leField (s.upd.ptrs.get [] k) 0 4

/-- Write the boot pointer (R465): with a generation one higher, to the copy with the lower generation.
(DESIGN CHOICE, log 173) -/
def ptrWrite (s : State) : State :=
  let s := s.wr R.UPD_BOOT_PTR_GEN 0 (s.rd R.UPD_BOOT_PTR_GEN + 1)
  let k := if s.ptrGen 1 < s.ptrGen 0 then 1 else 0
  { s with upd := { s.upd with ptrs := s.upd.ptrs.put [] k s.ptrImage } }

/-- The boot ROM takes the copy with the higher generation (R465). -/
def ptrLoad (s : State) : State :=
  match s.upd.ptrs.get [] (if s.ptrGen 1 < s.ptrGen 0 then 0 else 1) with
  | [] => s
  | p =>
    let s := { s with upd := { s.upd with confirmed := p.getD 7 0 } }
    forEach [(R.UPD_BOOT_PTR_GEN, 0, 4), (R.UPD_BOOT_ACTIVE_SLOT, 4, 1), (R.UPD_BOOT_BOOT_STATE, 5, 1), (R.UPD_BOOT_TRIAL_STARTS, 6, 1),
      (R.UPD_BOOT_TRIAL_S, 8, 4), (R.UPD_BOOT_ACTIVE_GEN, 12, 4), (R.UPD_BOOT_FLOOR, 16, 4)]
      (fun f s => s.wr f.1 0 (leField p f.2.1 f.2.2)) s

/-- Steps 1 to 4 of R84 on every outlet (R463, R468). -/
def forceOutlets (s : State) (x : Ctx) : State := forEach (List.range 8) (fun n s => s.disableSteps x 0x03 n true) s

/-- Outlets that were stopped for an activation serve again. -/
def unforce (s : State) : State :=
  { s with cask := { s.cask with disables := s.cask.disables.filter fun d =>
      !(d.block == 0x03 && d.done && (s.outlet d.inst).st != .disabled) } }

/-- No session is live. -/
def noneLive (s : State) : Bool := (List.range 8).all fun n => !(s.outlet n).st.live

/-- The condition of an activation holds (R463): mode 0 every outlet at rest and no Cask open, mode 1 no live session. -/
def activationReady (s : State) (mode : Nat) : Bool :=
  if mode = 0 then
    ((List.range 8).all fun n => [SessState.idle, .ended, .fault, .outOfService, .disabled].contains (s.outlet n).st)
      && (List.range 8).all fun k => (s.slot k).st == .free
  else s.noneLive

/-- Health holds (R467, R471). The ledger has replayed whenever the module runs. -/
def health (s : State) : Bool :=
  s.keyMode == 2 && s.flag R.SAFE_STATUS_SELFTEST_OK && s.safe.tableOk && s.upd.legalOk
    && (List.range 12).all fun m => !bit s.upd.meters m || s.mpRuns m

/-- Bring the running time with health held up to now (R467). (DEDUCED, log 175) -/
def healthNote (s : State) : State :=
  if s.updState != 5 then s else
  let add := match s.upd.healthAt with
    | some a => s.mtb - a
    | none => 0
  { s with upd := { s.upd with healthNs := s.upd.healthNs + add, healthAt := if s.health then some s.mtb else none } }

/-- Confirm the running image (R467): the pointer, the floor, the settings. -/
def updConfirm (s : State) (auto : Bool) : State :=
  let floor := max (s.rd R.UPD_BOOT_FLOOR) (((s.slotMan s.activeSlot).map (·.floor)).getD 0)
  let s := ((s.wr R.UPD_BOOT_BOOT_STATE 0 0).wr R.UPD_BOOT_FLOOR 0 floor).ptrWrite
  let s := { s with upd := { s.upd with confirmed := s.activeSlot, current := none, healthAt := none } }
  let s := s.raise Ev.UPD_CONFIRMED 0 [s.rd R.UPD_BOOT_ACTIVE_GEN, floor, b2n auto]
  s.updGo 0 St.OK

/-- The pointer returns to the confirmed slot (R468): the migrated settings go, and the rejected image keeps no bitmap.
(DEDUCED, log 174) -/
def revertPointer (s : State) (cause : Nat) : State :=
  let gen := s.rd R.UPD_BOOT_ACTIVE_GEN
  let s := match s.upd.current with
    | some (v, cur) => ({ s with settings := cur, upd := { s.upd with current := none } } : State).wr R.UPD_BOOT_SETTINGS_VER 0 v
    | none => s
  let slot := s.upd.confirmed
  let s := (((s.wr R.UPD_BOOT_ACTIVE_SLOT 0 slot).wr R.UPD_BOOT_ACTIVE_GEN 0 (s.slotGen slot)).wr R.UPD_BOOT_BOOT_STATE 0 2).ptrWrite
  let s := s.updForget.updGo 0 St.OK
  { s with upd := { s.upd with reverted := some (cause, gen), revert := none, healthAt := none } }

/-- A revert whose outlets have stopped takes effect (R468). (DESIGN CHOICE, log 176) -/
def revertNow (s : State) : State :=
  match s.upd.revert with
  | some (cause, x) =>
    if !s.noneLive then s else
    let s := s.pourZero.revertPointer cause
    (s.finaliseOpt x St.OK).softRestart 0x11
  | none => s

/-- Begin a revert for cause 1 or 3 (R468). -/
def revertStart (s : State) (cause : Nat) (x : Ctx) (owed : Option Ctx) : State :=
  ({ s.forceOutlets x with upd := { s.upd with revert := some (cause, owed) } } : State).revertNow

/-- The command context that stands for the service UART. -/
def svcCtx (s : State) : Ctx := ⟨s.mtb, 0, 2 ^ 32, 0, 0, 0⟩

/-- Why UPD_ACTIVATE is refused (R463). -/
def activateBad (s : State) (mode : Nat) : Option Nat :=
  if 2 ≤ mode then some St.BAD_PARAM
  else if s.updState != 3 then some St.NOT_VERIFIED
  else if s.flag R.LEDGER_STAT_CAL_OPEN then some St.CAL_ACTIVE
  else
    let staged := ((s.upd.man.map fun m => m.parts.getD 3 0)).getD 0
    if s.flag R.UPD_CFG_LEGAL_SEAL_REQ && staged != s.slotPart s.activeSlot 3 && !s.flag R.LEDGER_STAT_SEAL then
      some St.SEAL_REQUIRED
    else none

/-- Begin an activation (R463). -/
def activate (s : State) (mode : Nat) (x : Ctx) (owed : Option Ctx) : State :=
  let s := { s with upd := { s.upd with act := some (mode, s.mtb, owed) } }
  let s := s.updGo 4 St.OK
  if mode = 1 then s.forceOutlets x else s

/-- The activation in progress ends without the flip. (DESIGN CHOICE, log 176) -/
def actEnds (s : State) (status : Nat) : State :=
  match s.upd.act with
  | some (mode, _, x) =>
    let s := { s with upd := { s.upd with act := none } }
    let s := s.finaliseOpt x status
    if mode = 1 then s.unforce else s
  | none => s

/-- The flip (R464): ledger and marker, the pointer to the staging slot in TRIAL, the lock, the restart.
(DESIGN CHOICE, log 176) -/
def updFlip (s : State) (x : Option Ctx) : State :=
  match s.upd.man with
  | none => s
  | some m =>
    let k := s.stagingSlot
    let s := if s.upd.bootRom then s else s.pourZero
    let meters := (List.range 12).foldl (fun a i => if s.rd R.MET_CFG_STATE i = 3 then setBit a i else a) 0
    let s := { s with upd := { s.upd with
      slots := s.upd.slots.put none k (some m), act := none, healthNs := 0, healthAt := none, meters := meters, legalOk := true } }
    let s := ((s.wr R.UPD_BOOT_ACTIVE_SLOT 0 k).wr R.UPD_BOOT_BOOT_STATE 0 1).wr R.UPD_BOOT_TRIAL_STARTS 0 0
    let s := ((s.wr R.UPD_BOOT_TRIAL_S 0 0).wr R.UPD_BOOT_ACTIVE_GEN 0 m.gen).ptrWrite
    let s := (s.updGo 5 St.OK).updRelease.updForget
    (s.finaliseOpt x St.OK).softRestart 0x10

/-- Abort staging (R458): the holder unsigned, others with an owner signature. Answers the status and result bytes 20 to
23. (DEDUCED, log 172) -/
def updAbort (s : State) (src : Nat) (g : Option OwnerSig) : Nat × Nat × State :=
  let h := s.rd R.UPD_STAT_HOLDER
  let go := fun (s : State) => ((s.actEnds St.CANCELLED).updErase.updForget.updGo 0 St.OK).updRelease
  if s.updState = 0 || s.updState = 5 then (St.UPD_STATE_ERR, 0, s)
  else if h / 2 ^ 24 = src then (St.OK, 0, go s)
  else match g with
    | none => (St.BUSY, h, s)
    | some g => match s.ownerBad g with
      | some e => (e, 0, s)
      | none => (St.OK, 0, go (s.ownerTook g))

/-- Minutes since the holder's last action (UPD.STAT.IDLE_MIN). -/
def updIdleMin (s : State) : Nat :=
  if s.rd R.UPD_STAT_HOLDER = 0 then 0 else min 4095 ((s.mtb - s.upd.idleAt) / (60 * 10 ^ 9))

/-- UPD.STAT as it reads. -/
def updStat (s : State) : Nat :=
  s.pack [R.UPD_STAT_HOLDER, R.UPD_STAT_RECEIVED, R.UPD_STAT_TOTAL, R.UPD_STAT_STATE, R.UPD_STAT_LAST_STATUS] + s.updIdleMin

/-- UPD.BOOT as it reads. -/
def updBoot (s : State) : Nat :=
  s.pack [R.UPD_BOOT_ACTIVE_GEN, R.UPD_BOOT_FLOOR, R.UPD_BOOT_PTR_GEN, R.UPD_BOOT_ACTIVE_SLOT, R.UPD_BOOT_BOOT_STATE,
    R.UPD_BOOT_TRIAL_STARTS, R.UPD_BOOT_TRIAL_S, R.UPD_BOOT_SETTINGS_VER]

/-- The update engine works: the module runs, or stays in the boot ROM and serves the service UART (R469). -/
def onUpd (s : State) (t : Nat) (f : State → State) : State :=
  let s := s.advance t
  if s.up || s.upd.bootRom then f s else s

/-- Answer a service UART frame (R473): its type with bit 7 set and the status. (DESIGN CHOICE, log 178) -/
def svcReply (s : State) (typ status : Nat) : State := { s with upd := { s.upd with svc := [typ + 0x80, status] } }

/-- The host is no update source in RECOVERY (R359, R469). -/
def hostSource (s : State) (x : Ctx) (f : State → State) : State :=
  if s.keyMode = 4 then s.complete x St.KEY_RECOVERY else f s

end State

/-- UPD_BEGIN (R454 to R457). (DEDUCED, log 172) -/
def execUpdBegin (x : Ctx) (man : List Byte) (sigs : Bool × Bool) (s : State) : Host.Outcome State Fault Refusal :=
  .next (s.command x Op.UPD_BEGIN 0 none fun s => s.hostSource x fun s =>
    let (st, r, s) := s.updBegin 1 0 (man.map (·.toNat)) sigs
    s.complete x st r)

/-- UPD_BLOCK (R460). -/
def execUpdBlock (x : Ctx) (first : Nat) (blocks : List (List Byte)) (s : State) : Host.Outcome State Fault Refusal :=
  .next (s.command x Op.UPD_BLOCK 0 none fun s => s.hostSource x fun s =>
    let (st, r, s) := s.updReceive 1 first (blocks.map fun b => b.map (·.toNat))
    s.complete x st r)

/-- UPD_STATUS: UPD.STAT, UPD.BOOT, the SHA-256 of the staged manifest, 2,048 bytes of bitmap from the given block on.
(DESIGN CHOICE, log 173) -/
def execUpdStatus (x : Ctx) (first : Nat) (s : State) : Host.Outcome State Fault Refusal :=
  .next (s.command x Op.UPD_STATUS 0 none fun s =>
    let s := s.updTouch 1
    (s.giveBuffer [s.updStat, s.updBoot, (s.upd.man.map (·.digest)).getD 0, bits s.upd.bitmap first 16384]).complete x St.OK)

/-- UPD_ACTIVATE (R463). -/
def execUpdActivate (x : Ctx) (mode : Nat) (s : State) : Host.Outcome State Fault Refusal :=
  .next (s.command x Op.UPD_ACTIVATE 0 none fun s =>
    match s.activateBad mode with
    | some e => s.complete x e
    | none => ((s.updTouch 1).complete x St.ACCEPTED).activate mode x (some x))

/-- UPD_CONFIRM (R467). -/
def execUpdConfirm (x : Ctx) (s : State) : Host.Outcome State Fault Refusal :=
  .next (s.command x Op.UPD_CONFIRM 0 none fun s =>
    if s.updState != 5 then s.complete x St.UPD_STATE_ERR
    else if !s.health then s.complete x St.HEALTH_PENDING
    else (s.updConfirm false).complete x St.OK)

/-- UPD_REVERT (R468). -/
def execUpdRevert (x : Ctx) (s : State) : Host.Outcome State Fault Refusal :=
  .next (s.command x Op.UPD_REVERT 0 none fun s =>
    if s.updState != 5 then s.complete x St.UPD_STATE_ERR
    else (s.complete x St.ACCEPTED).revertStart 3 x (some x))

/-- UPD_ABORT (R458). -/
def execUpdAbort (x : Ctx) (sig : Option OwnerSig) (s : State) : Host.Outcome State Fault Refusal :=
  .next (s.command x Op.UPD_ABORT 0 none fun s =>
    let (st, r, s) := s.updAbort 1 sig
    s.complete x st r)

/-- UPD_POLICY (R455). -/
def execUpdPolicy (x : Ctx) (cosign : Nat) (sig : OwnerSig) (s : State) : Host.Outcome State Fault Refusal :=
  .next (s.command x Op.UPD_POLICY 0 none fun s =>
    s.owned x sig (if cosign < 2 then none else some St.BAD_PARAM) fun s => (s.wr R.UPD_POLICY_OWNER_COSIGN 0 cosign).complete x St.OK)

/-- UPD_VERIFY_DONE (R461): `readOk` says that flash gives back what was programmed. (DESIGN CHOICE, log 178) -/
def execUpdVerifyDone (t : Nat) (readOk : Bool) (s : State) : Host.Outcome State Fault Refusal :=
  .next (s.onUpd t fun s => s.updVerified readOk)

/-- UPD_LOCK_IDLE (R457). -/
def execUpdLockIdle (t : Nat) (s : State) : Host.Outcome State Fault Refusal :=
  .next (s.onUpd t fun s =>
    if (s.updState = 1 || s.updState = 3) && decide (s.upd.idleAt + lockIdleNs ≤ s.mtb) then (s.updGo 0 St.OK).updRelease else s)

/-- UPD_ACTIVATION_FLIP (R463, R464). -/
def execUpdActivationFlip (t : Nat) (s : State) : Host.Outcome State Fault Refusal :=
  .next (s.onUpd t fun s =>
    match s.upd.act with
    | some (mode, _, x) => if s.updState = 4 && s.activationReady mode then s.updFlip x else s
    | none => s)

/-- UPD_ACTIVATE_TIMEOUT (R462, R463). -/
def execUpdActivateTimeout (t : Nat) (s : State) : Host.Outcome State Fault Refusal :=
  .next (s.onUpd t fun s =>
    match s.upd.act with
    | some (0, at_, _) =>
      if s.updState = 4 && decide (at_ + 3600 * 10 ^ 9 * s.rd R.UPD_CFG_IDLE_WAIT_H ≤ s.mtb) then
        (s.updGo 3 St.ACTIVATE_TIMEOUT).actEnds St.ACTIVATE_TIMEOUT
      else s
    | _ => s)

/-- TRIAL_TIME_SAVE (R466): ten seconds of running time go to the pointer. (DESIGN CHOICE, log 179) -/
def execTrialTimeSave (t : Nat) (s : State) : Host.Outcome State Fault Refusal :=
  .next (onEvent s t fun s =>
    if s.updState = 5 && decide (s.upd.savedAt + 10 ^ 10 ≤ s.mtb) then
      let s := { s with upd := { s.upd with savedAt := s.upd.savedAt + 10 ^ 10 } }
      (s.healthNote.wr R.UPD_BOOT_TRIAL_S 0 (s.rd R.UPD_BOOT_TRIAL_S + 10)).ptrWrite
    else s)

/-- UPD_AUTO_CONFIRM (R467). -/
def execUpdAutoConfirm (t : Nat) (s : State) : Host.Outcome State Fault Refusal :=
  .next (onEvent s t fun s =>
    let s := s.healthNote
    if s.updState = 5 && s.flag R.UPD_CFG_AUTO_CONFIRM && s.health
        && decide (60 * 10 ^ 9 * s.rd R.UPD_CFG_CONFIRM_MIN ≤ s.upd.healthNs) then s.updConfirm true else s)

/-- TRIAL_TIMEOUT (R468): 15 min of trial running time. -/
def execTrialTimeout (t : Nat) (s : State) : Host.Outcome State Fault Refusal :=
  .next (onEvent s t fun s =>
    if s.updState = 5 && s.upd.revert.isNone
        && decide (900 * 10 ^ 9 ≤ s.rd R.UPD_BOOT_TRIAL_S * 10 ^ 9 + (s.mtb - s.upd.savedAt)) then s.revertStart 1 s.svcCtx none
    else s)

/-- SVC_BEGIN (R473). -/
def execSvcBegin (t : Nat) (man : List Byte) (sigs : Bool × Bool) (s : State) : Host.Outcome State Fault Refusal :=
  .next (s.onUpd t fun s =>
    let (st, _, s) := s.updBegin 3 0 (man.map (·.toNat)) sigs
    s.svcReply 1 st)

/-- SVC_BLOCK (R473). -/
def execSvcBlock (t block : Nat) (data : List Byte) (s : State) : Host.Outcome State Fault Refusal :=
  .next (s.onUpd t fun s =>
    let (st, _, s) := s.updReceive 3 block [data.map (·.toNat)]
    s.svcReply 2 st)

/-- SVC_ACTIVATE (R473). -/
def execSvcActivate (t mode : Nat) (s : State) : Host.Outcome State Fault Refusal :=
  .next (s.onUpd t fun s =>
    match s.activateBad mode with
    | some e => s.svcReply 4 e
    | none => ((s.updTouch 3).svcReply 4 St.ACCEPTED).activate mode s.svcCtx none)

/-- SVC_STATUS (R473). -/
def execSvcStatus (t : Nat) (s : State) : Host.Outcome State Fault Refusal :=
  .next (s.onUpd t fun s => (s.updTouch 3).svcReply 5 St.OK)

/-- SVC_ABORT (R473). -/
def execSvcAbort (t : Nat) (sig : Option OwnerSig) (s : State) : Host.Outcome State Fault Refusal :=
  .next (s.onUpd t fun s =>
    let (st, _, s) := s.updAbort 3 sig
    s.svcReply 6 st)

/-- SVC_CONFIRM (R473). -/
def execSvcConfirm (t : Nat) (s : State) : Host.Outcome State Fault Refusal :=
  .next (s.onUpd t fun s =>
    if s.updState != 5 then s.svcReply 7 St.UPD_STATE_ERR
    else if !s.health then s.svcReply 7 St.HEALTH_PENDING
    else (s.updConfirm false).svcReply 7 St.OK)

/-- SVC_REVERT (R473). -/
def execSvcRevert (t : Nat) (s : State) : Host.Outcome State Fault Refusal :=
  .next (s.onUpd t fun s =>
    if s.updState != 5 then s.svcReply 8 St.UPD_STATE_ERR
    else (s.svcReply 8 St.ACCEPTED).revertStart 3 s.svcCtx none)

/-- SVC_BAD_FRAME (R473): the frame is dropped, and the receiver looks for the next 0x7E. -/
def execSvcBadFrame (t : Nat) (s : State) : Host.Outcome State Fault Refusal := .next (s.advance t)

end Sys2Proof.Machine
end

