-- ==== Sys2Proof/Machine/ArchOps.lean ====
section
/-! DEFINITION. Island crossings, the second edge and the control cycle (01_architecture.md). -/

namespace Sys2Proof.Machine

/-- The fixed precedence of requests that cannot be separated (R18): SAFE, LEGAL, APP, HOST. -/
def iniRank (i : Ini) : Nat := 3 - iniCode i

/-- The initiator tags the hardware of an island sets (R28, table Islands). CRYPTO and AON, which the table calls a
hardware service and gives no tag, set APP. (DESIGN CHOICE, log 202) -/
def islandTags (i : Nat) : List Ini :=
  if i = 0 then [.host]
  else if i = 1 || i = 5 || i = 10 then [.app, .legal]
  else if i = 2 || i = 12 then [.safe]
  else if i = 4 || i = 9 then [.legal]
  else [.app]

/-- The tag a request carries (R28): what the sending island's hardware can set. -/
def tagOf (x : Xing) : Ini := if (islandTags x.src).contains x.ini then x.ini else (islandTags x.src).headD .host

/-- The access matrix (R29): who may read, and who may write, command or ask. `rwl` says that the conditions of R8
hold; `src` is the sending island. The matrix has no row for the MRAM as such. (DEDUCED, log 14) -/
def granted (i : Ini) (r : Res) (write rwl : Bool) (src : Nat) : Bool :=
  match r, i with
  | .metroParams, .host => !write || rwl
  | .metroParams, .legal => true
  | .metroParams, _ => !write
  | .counters, .legal => true
  | .counters, _ => !write
  | .keyMaterial, _ => false
  | .cryptoAppKeys, i => write && i == .app
  | .cryptoLegalKeys, i => write && i == .legal
  | .cryptoSafeKeys, i => write && i == .safe
  | .coilHigh, i => write && (i == .app || i == .safe)
  | .coilLow, i => write && i == .safe && src == 12
  | .pilotPwm, i => write && i != .legal
  | .segments, i => write && (i == .legal || i == .safe)
  | .matrix, i => write && i != .legal
  | .credStore, .host => write
  | .credStore, .app => true
  | .credStore, .legal => !write
  | .credStore, .safe => false
  | .rtc, i => write && i != .safe
  | .mtb, _ => !write
  | .mram .., _ => true

/-! ### The MRAM areas (R14) -/

/-- The areas of the MRAM in the table's order: owners and size in KiB; the last is Reserved. -/
def mramTable : List (List Blk × Nat) :=
  [([.ledger], 128), ([.ledger], 3072), ([.ledger], 384), ([.ledger], 16), ([.ledger, .legal], 192), ([.ledger], 8),
   ([.ledger], 16), ([.host], 2048), ([.host], 512), ([.host], 16), ([.disp], 1216), ([.metro], 16), ([.upd], 4),
   ([.safe, .tag, .twin, .crypto], 16), ([], 548)]

/-- The areas with their first byte, their bytes and their owners: they lie in the table's order from address 0.
(DESIGN CHOICE, log 203) -/
def mramAreas : List (Nat × Nat × List Blk) :=
  (mramTable.foldl (fun (a : Nat × List (Nat × Nat × List Blk)) x => (a.1 + x.2 * 1024, a.2 ++ [(a.1, x.2 * 1024, x.1)]))
    (0, [])).2

/-- The controller takes a write of a block: every byte lies in areas of the block (R14). -/
def mramWritable (b : Blk) (addr len : Nat) : Bool :=
  decide (addr + len ≤ 8 * 2 ^ 20) && mramAreas.all fun x =>
    decide (addr + len ≤ x.1) || decide (x.1 + x.2.1 ≤ addr) || x.2.2.contains b

/-- The bytes lie in the Reserved area, which reads 0 (table MRAM allocation). -/
def mramReserved (addr len : Nat) : Bool :=
  mramAreas.any fun x => x.2.2.isEmpty && decide (x.1 ≤ addr) && decide (addr + len ≤ x.1 + x.2.1)

/-- A request goes before another (R18). (DESIGN CHOICE, log 13) -/
def xingBefore (a b : Xing) : Bool :=
  decide (a.arrival < b.arrival) || (a.arrival == b.arrival && decide (iniRank (tagOf a) ≤ iniRank (tagOf b)))

/-- Insert a request in the order of service. -/
def insertXing (x : Xing) : List Xing → List Xing
  | [] => [x]
  | y :: r => if xingBefore y x then y :: insertXing x r else x :: y :: r

/-- The order in which the target serves simultaneous requests (R18). (DESIGN CHOICE, log 13) -/
def serviceOrder (xs : List Xing) : List Xing := xs.foldl (fun a x => insertXing x a) []

namespace State

/-- Note how a crossing ended. -/
def noteServed (s : State) (x : Served) : State := { s with arch := { s.arch with served := s.arch.served ++ [x] } }

/-- The MRAM controller refuses the request: a write outside the areas of the block that makes it (R14). -/
def areaRefused (x : Xing) : Bool :=
  match x.res with
  | .mram b a l => x.write && !mramWritable b a l
  | _ => false

/-- What the MRAM controller answers to a read of the Reserved area (R14). -/
def reservedValue (x : Xing) : Option Nat :=
  match x.res with
  | .mram _ a l => if !x.write && mramReserved a l then some 0 else none
  | _ => none

/-- Serve one request at a target (R14, R16 to R19, R29, R30, R502, R503): the earliest instant it may start is `from_`. It
costs 3 ns to 6 ns, and waking a sleeping island up to 2 µs more. Answers when the target is free again.
(DESIGN CHOICE, log 12) -/
def serveXing (s : State) (target from_ : Nat) (x : Xing) : Nat × State :=
  let i := tagOf x
  if !s.flag R.GLOBAL_ISLAND_STAT_READY target then (from_, s.noteServed ⟨x.src, i, .notReady, from_, none⟩)
  else if !granted i x.res x.write s.calAllowed x.src then
    (from_, (s.partitionDenied (iniCode i) target x.res).noteServed ⟨x.src, i, .partitionDenied, from_, none⟩)
  else if areaRefused x then (from_, s.noteServed ⟨x.src, i, .areaRefused, from_, none⟩)
  else
    let (v, s) := s.takeFree
    let asleep := s.flag R.GLOBAL_ISLAND_STAT_ASLEEP target
    let wake := if asleep then v / 4 % 2001 else 0
    let done := from_ + 3 + v % 4 + wake
    (done, (s.wr R.GLOBAL_ISLAND_STAT_ASLEEP target 0).noteServed ⟨x.src, i, .delivered, done, reservedValue x⟩)

/-- A ring command whose crossing is not acknowledged completes LINK_TIMEOUT (R19, table Generic status codes): one in
flight without a completion, whose block's island is the target. -/
def linkCommand (s : State) (dst : Nat) (cmd : Option (Nat × Nat)) : State :=
  match cmd with
  | none => s
  | some (r, q) =>
    match s.findInfl r q with
    | some e => if e.accepted || blockIsland (e.op / 256) != dst then s
        else s.complete ⟨s.mtb, e.ring, e.seq, e.tag, e.flags, e.cask⟩ St.LINK_TIMEOUT
    | none => s

/-- A crossing is not acknowledged within 10 µs (R19, R32, R57). A pair of islands is the sender with the target: the two
directions count apart. The notification word of a link error names the target island and its count.
(DESIGN CHOICE, log 204) -/
def linkTimeout (s : State) (src dst : Nat) (ini : Ini) (cmd : Option (Nat × Nat)) : State :=
  let s := (s.incSat R.GLOBAL_ISLAND_STAT_LINK_ERR dst).alert R.GLOBAL_ALERT_LINK_TIMEOUT
  let s := s.noteServed ⟨src, ini, .linkTimeout, s.mtb, none⟩
  let s := if s.arch.linkRaised.contains (src, dst) then s else
    let s := { s with arch := { s.arch with linkRaised := (src, dst) :: s.arch.linkRaised } }
    s.raise Ev.ISLAND_LINK 0 [src, dst, iniCode ini, s.rd R.GLOBAL_ISLAND_STAT_LINK_ERR dst, s.mtb]
  (s.notify ⟨4, dst, 1, s.rd R.GLOBAL_ISLAND_STAT_LINK_ERR dst⟩).linkCommand dst cmd

/-! ### The RTC second edge -/

/-- The frequency of a number of grid cycles and their duration in ns, in µHz (R244). -/
def freqOf (c : Nat × Nat) : Nat := if c.2 = 0 then 0 else divRound (c.1 * 10 ^ 15) c.2

/-- FREQ_1S, and FREQ_10S at the end of each 10 s of the RTC, of every meter point from its tracker (R244). -/
def freqEdge (s : State) : State :=
  let ten := s.rd R.GLOBAL_MTB_UTC_UTC_SEC % 10 == 0
  let s := forEach (List.range 12) (fun m s =>
    let k := s.mpTrk m
    if s.rd R.FILT_TRK_STAT_STATE k != 2 then s else
    let s := s.wr R.MET_TOTAL_FREQ_1S m (freqOf (s.mp k).cyc1)
    if ten then s.wr R.MET_TOTAL_FREQ_10S m (freqOf (s.mp k).cyc10) else s) s
  forEach (List.range 12) (fun m s => s.modMp m fun p => { p with cyc1 := (0, 0), cyc10 := if ten then (0, 0) else p.cyc10 }) s

/-- An RTC second edge (R24): the MTB is captured, the RTC has counted the seconds that passed, and a commanded billing
close takes effect. (DESIGN CHOICE, log 16) -/
def secondEdge (s : State) : State :=
  let secs := max 1 (divRound ((s.mtb : Int) - s.atSec).toNat (10 ^ 9))
  let s := s.wr R.GLOBAL_MTB_UTC_UTC_SEC 0 (s.rd R.GLOBAL_MTB_UTC_UTC_SEC + secs)
  ((s.wr R.GLOBAL_MTB_UTC_MTB_AT_SEC 0 s.mtb).freqEdge).billEdge

/-! ### The control cycle -/

/-- Channel A decides the closes of a host-controlled outlet that waited for the self-test (R74, R132, R159).
(DESIGN CHOICE, log 231) -/
def hostCloses (s : State) (n : Nat) : State :=
  let xs := (s.outlet n).hostClose
  if xs = [] || (s.os n).testing then s else
  let s := s.modOutlet n fun o => { o with hostClose := [] }
  let all := fun (st : Nat) (s : State) => forEach xs (fun x s => s.complete x st) s
  match s.consentReason n true with
  | some r => all St.CONSENT_REFUSED (s.raise Ev.CONSENT_REFUSED n [n, r])
  | none =>
    let (s, held) := s.applyClose n false
    all (if held then St.CONSENT_REFUSED else St.OK) s

/-- Channel A's checks of one outlet in its window (R25, R132, R147, R150, R158, R165 to R168). -/
def checkOutlet (s : State) (n : Nat) : State :=
  let s := (s.hostCloses n).mstopCheck n
  let (s, over110) := s.overcurrentCheck n
  let s := (if over110 then s.stopAny n eOVERCURRENT else s).shuntKeep n
  let s := if s.rd R.SAFE_OUT_PROT_RCM_SRC n = 0xF then s else (s.rcmUpdate n false).prewarnNote n
  if (s.os n).openedAt.isSome then
    let w := s.weldVoltage n
    s.modOs n fun o => { o with weldCnt := if w then o.weldCnt + 1 else 0 }
  else s

/-- Channel A's consents in its window, and the commit of the close contexts that have it, once every island has validated
its part (R72 to R74, R99). -/
def checkSlot (s : State) (k : Nat) : State :=
  let s := s.consentCheck k
  if 8 ≤ k && (s.slot k).st == .preparing && (s.slot k).consent then
    match s.invalidAct k true with
    | some (st, i, isl) => s.abortCask k (st % 2 ^ 32) i isl (2 ^ 16 * (st / 2 ^ 32))
    | none => s.commitClose (k - 8)
  else s

/-- The start of a control cycle (R25, R27, R32, R258): METRO latches the snapshot; an edge of SAFE_ALIVE is seen by channel B.
(DESIGN CHOICE, log 17) -/
def cycleBegin (s : State) : State :=
  let now := s.mtb
  let toggle := !s.arch.withhold
  let was := s.actOut
  let a := { s.arch with
    cycleStart := now / 10 ^ 6 * 10 ^ 6, linkRaised := [], overrunRaised := false, deadline := false, staged := 0, withhold := false,
    safeAlive := if toggle then !s.arch.safeAlive else s.arch.safeAlive }
  let s := { s with arch := a, safe := { s.safe with
    snaps := (List.range 12).map s.snapOf, aliveAt := if toggle then now else s.safe.aliveAt } }
  let s := if !was && s.actOut && s.twin.actIn then { s with twin := { s.twin with bothAt := some now } } else s
  if toggle then (s.setFlag R.SAFE_STATUS_B_RUN 0 true).refreshSafeOk else s

/-- One control cycle's work: what has come from the converter die is filtered, resampled and metered; then the snapshot,
channel A, the outlet controllers (not on a Reserve), and what else acts in each cycle. (DESIGN CHOICE, log 17) -/
def controlCycle (s : State) (feed : List Feed) : State :=
  let s := (s.meterAll (xtalPos s.mtb) feed).cycleBegin
  let s := forEach (List.range 8) (fun n s => s.checkOutlet n) s
  let s := forEach (List.range 16) (fun k s => s.checkSlot k) s
  let s := if s.reserveRole then s else forEach (List.range 8) (fun n s => s.sessionCycle n) s
  let s := s.lswSafeOff.takeOverCycle.noteReady
  s.healthNote.revertNow

/-- Pass the staged outputs of an outlet on (R25): the new duty takes effect at the next PWM period.
(DESIGN CHOICE, log 19) -/
def passStaged (s : State) (n : Nat) : State :=
  s.modOutlet n fun o => { o with
    outNext := match o.outStaged with
      | some p => some p
      | none => o.outNext,
    outStaged := none, setPoint := o.setStaged.getD o.setPoint, setStaged := none }

/-- The staging deadline (R26), once in a control cycle: what is staged passes on, and outlets that are late keep their
outputs. From the third overrun in a row on, the session goes to MSTOP; its end reason is not stated.
(DESIGN CHOICE, log 18, 19) -/
def stagingDeadline (s : State) (late : Nat) : State :=
  if s.arch.deadline then s else
  let s := { s with arch := { s.arch with deadline := true } }
  let ns := (List.range 8).filter (bit late ·)
  let s := forEach ((List.range 8).filter fun n => !bit late n) (fun n s =>
    let s := s.passStaged n
    { s with arch := { s.arch with staged := setBit s.arch.staged n, overruns := s.arch.overruns.put 0 n 0 } }) s
  if ns = [] then s else
  let s := { s with arch := { s.arch with
    overruns := ns.foldl (fun (t : Tab Nat) n => t.upd 0 n (· + 1)) s.arch.overruns } }
  let worst := ns.foldl (fun m n => max m (s.arch.overruns.get 0 n)) 0
  let s : State := if s.arch.overrunRaised then s else
    let s := { s with arch := { s.arch with overrunRaised := true } }
    (s.incSat R.GLOBAL_ISLAND_STAT_OVR 1).raise Ev.CYCLE_OVERRUN 0 [s.arch.cycleStart, late % 256, worst]
  forEach (ns.filter fun n => decide (3 ≤ s.arch.overruns.get 0 n)) (fun n s =>
    if [SessState.ready, .energy, .paused].contains (s.outlet n).st then
      let (v, s) := s.takeFree
      s.stopSession n (1 + v % 21)
    else s) s

end State
end Sys2Proof.Machine
end

