-- ==== Sys2Proof/Machine/Arch.lean ====
section
/-! DEFINITION. The events of the islands and of the control cycle (01_architecture.md). -/

namespace Sys2Proof.Machine

/-- ISLAND_CROSSING (R14, R16 to R19, R28 to R30, R503): the requests that wait at one target; `gated` says that the target
had no work and had stopped its clock. -/
def execIslandCrossing (t target : Nat) (gated : Bool) (reqs : List Xing) (s : State) : Host.Outcome State Fault Refusal :=
  .next (onCore s t fun s =>
    if 14 ≤ target then s else
    let s := { s with arch := { s.arch with served := [] } }
    let s := if gated then s.wr R.GLOBAL_ISLAND_STAT_ASLEEP target 1 else s
    (forEach (serviceOrder reqs) (fun x (a : Nat × State) => a.2.serveXing target a.1 x) (s.mtb, s)).2)

/-- LINK_TIMEOUT (R19, R32): `cmd` is the ring command whose crossing it was, by ring and host sequence number. -/
def execLinkTimeout (t src dst : Nat) (ini : Ini) (cmd : Option (Nat × Nat)) (s : State) :
    Host.Outcome State Fault Refusal :=
  .next (onCore s t fun s => if 14 ≤ dst then s else s.linkTimeout src dst ini cmd)

/-- RTC_SECOND_EDGE (R24, R244, R309). -/
def execRtcSecondEdge (t : Nat) (s : State) : Host.Outcome State Fault Refusal := .next (onCore s t fun s => s.secondEdge)

/-- CONTROL_CYCLE_START (R25): once per MTB millisecond. The snapshot lists the meter points in order.
(DESIGN CHOICE, log 69) -/
def execControlCycleStart (t : Nat) (feed : List Feed) (s : State) : Host.Outcome State Fault Refusal :=
  .next (onEvent s t fun s => if s.mtb / 10 ^ 6 * 10 ^ 6 ≤ s.arch.cycleStart then s else s.controlCycle feed)

/-- OUTPUT_STAGING_DEADLINE (R25, R26): `late` is the mask of the outlets whose controllers have not staged. -/
def execOutputStagingDeadline (t late : Nat) (s : State) : Host.Outcome State Fault Refusal :=
  .next (onEvent s t fun s => if s.mtb < s.arch.cycleStart + 450000 then s else s.stagingDeadline late)

/-- A_CHECK_DEADLINE (R27). -/
def execACheckDeadline (t : Nat) (done : Bool) (s : State) : Host.Outcome State Fault Refusal :=
  .next (onEvent s t fun s =>
    if s.mtb < s.arch.cycleStart + 300000 || done then s else { s with arch := { s.arch with withhold := true } })

end Sys2Proof.Machine
end

