-- ==== Sys2Proof/Machine/Coil.lean ====
section
/-! DEFINITION. Coil drivers, dark tests, welded contacts and SHUNT_TRIP (R140 to R153). -/

namespace Sys2Proof.Machine
namespace State

/-- A Cask application on the outlet is due within the next 600 µs (R153). -/
def applySoon (s : State) (n : Nat) : Bool :=
  (List.range 16).any fun k =>
    let c := s.slot k
    (c.st == .armed || c.st == .recorded) && c.acts.any (fun a => actOutlet a == some n)
      && decide (s.mtb ≤ c.tApply) && decide (c.tApply ≤ s.mtb + 600000)

/-- A coil fault of outlet scope (R144, R152): the outlet's coils open and this one is in the fault phase. -/
def coilFault (s : State) (k code chan : Nat) : State :=
  (s.trip (s.rd R.SAFE_COIL_CFG_OUTLET k) code chan s.mtb).modCoil k fun c => { c with
    phase := .fault, hs := c.hs && c.stuckHs, ls := c.ls && c.stuckLs, waiting := false, since := s.mtb }

/-- A test of a side is asked for or due (R151). -/
def testDue (s : State) (k : Nat) (low : Bool) : Bool :=
  let c := s.coil k
  if low then c.askLs || decide (c.nextLs ≤ s.mtb) else c.askHs || decide (c.nextHs ≤ s.mtb)

/-- When a side is due again after a test now: a whole number of periods after it was due. -/
def testNext (s : State) (due : Nat) : Nat :=
  let p := max 1 (10 ^ 9 * s.rd R.SAFE_CFG_TEST_PERIOD_S)
  if s.mtb < due then due else due + p * ((s.mtb - due) / p + 1)

/-- A test of a side begins: the side is off (R151). -/
def testBegin (s : State) (k : Nat) (low : Bool) : State :=
  s.modCoil k fun c => { c with
    askHs := c.askHs && low, askLs := c.askLs && !low,
    nextHs := if low then c.nextHs else s.testNext c.nextHs, nextLs := if low then s.testNext c.nextLs else c.nextLs,
    phase := if low then .lsTest else .hsTest, hs := low, ls := !low }

/-- A tested switch did not turn off (R152): SWITCH_STUCK, and the other side opens the coil, unless it sticks too. -/
def testStuck (s : State) (k : Nat) (low otherOpens : Bool) : State :=
  let s := s.modCoil k fun c => { c with
    phase := .hold, hs := true, ls := true, stuckHs := c.stuckHs || !low || !otherOpens,
    stuckLs := c.stuckLs || low || !otherOpens }
  (s.coilFault k fSWITCH_STUCK (b2n low)).raise Ev.TEST_RESULT k [k, b2n low, 0, 0]

end State

/-- COIL_PULLIN_START (R142): a pull-in that waited starts once VCOIL has the current, no test being in its way. -/
def execCoilPullinStart (t k : Nat) (s : State) : Host.Outcome State Fault Refusal :=
  .next (onEvent s t fun s => s.startPullIn k)

/-- COIL_PULLIN_END (R141): after PULLIN_MS the coil is held. -/
def execCoilPullinEnd (t k : Nat) (s : State) : Host.Outcome State Fault Refusal :=
  .next (onEvent s t fun s =>
    let c := s.coil k
    if c.phase == .pullIn && decide (c.since + 10 ^ 6 * s.rd R.SAFE_COIL_CFG_PULLIN_MS k ≤ s.mtb) then
      s.holdFrom k
    else s)

/-- COIL_OPEN (R144): a current below 30 % of HOLD_MA for 50 ms while on. -/
def execCoilOpen (t k ma ms : Nat) (s : State) : Host.Outcome State Fault Refusal :=
  .next (onCore s t fun s =>
    let s := s.wr R.SAFE_COIL_STAT_I_MA k ma
    if s.coilOn k && decide (10 * ma < 3 * s.rd R.SAFE_COIL_CFG_HOLD_MA k) && decide (50 ≤ ms) then s.coilFault k fCOIL_OPEN 1
    else s)

/-- COIL_SHORT (R144): a current above 4.0 A. -/
def execCoilShort (t k ma : Nat) (s : State) : Host.Outcome State Fault Refusal :=
  .next (onCore s t fun s =>
    let s := s.wr R.SAFE_COIL_STAT_I_MA k (min ma 4095)
    if 4000 < ma then s.coilFault k fCOIL_SHORT 1 else s)

/-- WELD_CHECK (R147 to R149): OPEN_CHECK after an opening. -/
def execWeldCheck (t n : Nat) (s : State) : Host.Outcome State Fault Refusal :=
  .next (onCore s t fun s =>
    match (s.os n).openedAt with
    | some at_ =>
      if at_ + 10 ^ 7 * s.rd R.SAFE_CFG2_OPEN_CHECK ≤ s.mtb && !s.closed n then s.weldCheck n else s
    | none => s)

/-- SHUNT_TRIP_END (R150). -/
def execShuntTripEnd (t : Nat) (s : State) : Host.Outcome State Fault Refusal :=
  .next (onCore s t fun s =>
    match s.safe.shuntSince with
    | some at_ => if at_ + 500 * 10 ^ 6 ≤ s.mtb then
        (({ s with safe := { s.safe with shuntSince := none } } : State).setFlag R.SAFE_STATUS_SHUNT 0 false) else s
    | none => s)

/-- SHUNT_TRIP_REPEAT (R150). -/
def execShuntTripRepeat (t n : Nat) (s : State) : Host.Outcome State Fault Refusal :=
  .next (onCore s t fun s =>
    let s := s.shuntKeep n
    match (s.os n).shuntDue with
    | some due => if due ≤ s.mtb then s.shuntOn n else s
    | none => s)

/-- DARK_TEST_PULSE (R151 to R153): one switch of a held coil is turned off where its test is due or asked for; `offUs` is
when its readback showed off, `otherOpens` whether the other side then opens a coil whose switch is stuck. -/
def execDarkTestPulse (t k : Nat) (low : Bool) (offUs : Option Nat) (otherOpens : Bool) (s : State) :
    Host.Outcome State Fault Refusal :=
  .next (onEvent s t fun s =>
    let c := s.coil k
    let n := s.rd R.SAFE_COIL_CFG_OUTLET k
    if c.phase != .hold || s.safe.test.isSome || s.applySoon n || !s.testDue k low || 16 ≤ k then s else
    let s := s.testBegin k low
    let off := match offUs with
      | some u => decide (u ≤ 50)
      | none => false
    if off then { s with safe := { s.safe with test := some (k, low, s.mtb, true) } }
    else s.testStuck k low otherOpens)

/-- DARK_TEST_END (R152, R153): `onUs` is when the readback showed the switch on again after the pulse end. A switch
that stays off leaves its coil de-energised. (DESIGN CHOICE, log 66) -/
def execDarkTestEnd (t : Nat) (onUs : Option Nat) (s : State) : Host.Outcome State Fault Refusal :=
  .next (onEvent s t fun s =>
    match s.safe.test with
    | none => s
    | some (k, low, start, _) =>
      if s.mtb < start + 1000 * s.rd R.SAFE_CFG_TEST_US then s else
      let n := s.rd R.SAFE_COIL_CFG_OUTLET k
      let on := match onUs with
        | some u => decide (u ≤ 100)
        | none => false
      let s := { s with safe := { s.safe with test := none } }
      let s := if on then s.modCoil k fun c => { c with phase := .hold, hs := true, ls := true }
        else s.modCoil k fun c => { c with phase := .off, hs := false, ls := false }
      let s := s.raise Ev.TEST_RESULT k [k, b2n low, b2n on, (s.mtb - start) / 1000]
      forEach (s.coilsOf n) (fun k s => s.startPullIn k) s)

/-- COIL_UNCONTROL (R152): 1 ms after a stuck switch, the other side has not opened the coil either. -/
def execCoilUncontrol (t k : Nat) (s : State) : Host.Outcome State Fault Refusal :=
  .next (onCore s t fun s =>
    let c := s.coil k
    if c.phase == .fault && c.hs && c.ls && decide (c.since + 10 ^ 6 ≤ s.mtb) then
      (s.moduleTrip fCOIL_UNCONTROL 1 c.since).shuntOn (s.rd R.SAFE_COIL_CFG_OUTLET k)
    else s)

end Sys2Proof.Machine
end

