-- ==== Sys2Proof/Machine/Disp.lean ====
section
/-! DEFINITION. Commands and events of the displays (R408 to R431) and of the legal display's button (R317). -/

namespace Sys2Proof.Machine

/-- LEGAL_BTN_PRESS (R317): the next item is shown for 10 s; after the last the first follows. -/
def execLegalBtnPress (t : Nat) (s : State) : Host.Outcome State Fault Refusal :=
  .next (onEvent s t fun s =>
    let n := s.legalItems.length
    let item := if n ≤ s.ledger.legalItem then 1 else s.ledger.legalItem + 1
    ({ s with ledger := { s.ledger with legalItem := item, legalUntil := s.mtb + 10 * 10 ^ 9 } } : State).legalRepaint)

/-- LEGAL_DISPLAY_TIMEOUT (R317). -/
def execLegalDisplayTimeout (t : Nat) (s : State) : Host.Outcome State Fault Refusal :=
  .next (onEvent s t fun s =>
    if s.ledger.legalItem = 0 || s.mtb < s.ledger.legalUntil then s
    else ({ s with ledger := { s.ledger with legalItem := 0 } } : State).legalRepaint)

/-- LEGAL_SILENT (R428): SAFE paints INVALID until LEGAL_FW repaints. -/
def execLegalSilent (t : Nat) (s : State) : Host.Outcome State Fault Refusal :=
  .next (onEvent s t fun s =>
    let s := { s with disp := { s.disp with safeHolds := true } }
    s.segPaint s.disp.want)

/-- SEG_FRAME (R427, R428): SEGCOM alternates; a segment whose next code needs this frame's polarity takes it, every
other one that drives waits. -/
def execSegFrame (t : Nat) (s : State) : Host.Outcome State Fault Refusal :=
  .next (onEvent s t fun s =>
    match s.disp.paint with
    | none => s
    | some p =>
      if s.mtb < s.disp.segEnd then s else
      let s := { s with disp := { s.disp with segEnd := s.mtb + 10 ^ 9 / max 1 (s.rd R.DISP_SEG_CFG_SEG_FPS) } }
      let com := !s.disp.com
      let takes := fun (c : Nat) => c == 0 || (c == 1 && !com) || (c == 2 && com)
      let left := p.codes.cells.filterMap fun (c : Nat × List Nat) =>
        match c.2 with
        | [] => none
        | a :: r => if takes a then (if r = [] then none else some (c.1, r)) else some c
      let sums := p.codes.cells.foldl (fun (a : Tab Int) (c : Nat × List Nat) =>
        match c.2 with
        | x :: _ => if takes x then a.upd 0 c.1 (· + codeSign x) else a
        | [] => a) p.sums
      let p := { p with codes := ⟨left⟩, sums := if 4 ≤ p.step then p.sums else sums, frames := p.frames + 1 }
      State.segSteps 16 { s with disp := { s.disp with com := com, paint := some p } })

/-- SEG_SENSE (R425): `caps` are the capacitances measured, in 0.1 pF by segment. -/
def execSegSense (t : Nat) (caps : List Nat) (s : State) : Host.Outcome State Fault Refusal :=
  .next (onEvent s t fun s =>
    if !s.flag R.DISP_SEG_CFG_SENSE_EN || s.disp.paint.isSome
        || s.mtb < s.disp.senseAt + s.rd R.DISP_SEG_CFG_SENSE_H * 3600 * 10 ^ 9 then s
    else
      let s := { s with disp := { s.disp with senseAt := s.mtb } }
      forEach ((caps.take 96).zipIdx) (fun (p : Nat × Nat) s =>
        let s := if s.rd R.DISP_SEG_CAP_C_REF p.2 = 0 then s.wr R.DISP_SEG_CAP_C_REF p.2 p.1 else s
        let s := s.wr R.DISP_SEG_CAP_C_NOW p.2 p.1
        let ref := s.rd R.DISP_SEG_CAP_C_REF p.2
        if 2 * ref < s.rd R.DISP_SEG_CAP_C_NOW p.2 then
          s.raise Ev.DISP_SEG_SENSE 0 [p.2, if ref = 0 then 0 else 100 * s.rd R.DISP_SEG_CAP_C_NOW p.2 / ref]
        else s) s)

/-- DISP_TEMP_STALE (R410). -/
def execDispTempStale (t : Nat) (s : State) : Host.Outcome State Fault Refusal :=
  .next (onEvent s t fun s =>
    if s.disp.tempAt1 + 60 * 10 ^ 9 < s.mtb + 1 || s.disp.tempAt1 = 0 then (s.wr R.DISP_TEMP_STALE 0 1).bandShow else s)

/-- DISP_FRAME_START (R412, R416 to R418, R423, R424, R431): every running region goes to its next frame, waiting ones
start where they may, and the drive times grow. -/
def execDispFrameStart (t : Nat) (s : State) : Host.Outcome State Fault Refusal :=
  .next (onEvent s t fun s =>
    if !s.flag R.DISP_STAT_SCANNING || !s.flag R.GLOBAL_ISLAND_STAT_READY 10 || s.mtb < s.disp.frameEnd then s else
    let s := { s with disp := { s.disp with frameEnd := s.mtb + s.framePeriod } }
    let s := forEach (s.regionsIn fun t => t == .running || t == .recovery) (fun r s =>
      let d := s.region r
      s.setRegion r { d with frame := min (d.frame + 1) d.total }) s
    let s := forEach (s.regionsIn (· == .cut)) (fun r s =>
      (s.latchRegion r { s.region r with st := .recovery }).wr R.DISP_STAT_RECOVERING 0 1) s
    let waiting := (s.regionsIn (· == .queued)).mergeSort fun a b => decide ((s.region a).order ≤ (s.region b).order)
    let s := forEach waiting (fun r s => if s.mayStart r then s.startRegion r else s) s
    s.vintageFrame.imbalance)

/-- DISP_REGION_DONE (R417, R431): a region's last frame has ended. -/
def execDispRegionDone (t r : Nat) (s : State) : Host.Outcome State Fault Refusal :=
  .next (onEvent s t fun s =>
    let d := s.region r
    if !(d.st == .running || d.st == .recovery) || d.frame + 1 < d.total
        || (decide (d.frame < d.total) && decide (s.mtb < s.disp.frameEnd)) then s else
    let img := (State.regionPixels d).foldl (fun (a : Tab Nat) p =>
      a.put 15 (pixKey p.1 p.2) (State.level s.disp.target p.1 p.2)) s.disp.shown
    let s := ({ s with disp := { s.disp with shown := img } } : State).setRegion r DRegion.init
    let s := if d.recov then s.raise Ev.DISP_RECOVERED 0 [r, d.total, d.peak]
      else s.raise Ev.DISP_DONE 0 [r, d.mode, d.band, d.total, 0, b2n d.fallback]
    (s.finaliseOpt d.ctx St.OK).dispIdle)

/-- EPD_PWR_GOOD_RISE (R415). -/
def execEpdPwrGoodRise (t : Nat) (s : State) : Host.Outcome State Fault Refusal :=
  .next (onEvent s t fun s => (s.wr R.DISP_STAT_PWR_GOOD 0 1).dispWake)

/-- DISP_PWR_TIMEOUT (R415). (DESIGN CHOICE, log 155) -/
def execDispPwrTimeout (t : Nat) (s : State) : Host.Outcome State Fault Refusal :=
  .next (onEvent s t fun s =>
    if !s.disp.pwrEn || s.flag R.DISP_STAT_PWR_GOOD || s.mtb < s.disp.pwrAt + 20 * 10 ^ 6 then s else
    let s := forEach (s.regionsIn (· == .queued)) (fun r s => s.dropRegion r 2 St.NOT_READY) s
    (({ s with disp := { s.disp with pwrEn := false } } : State).raise Ev.DISP_PWR 0 [0]).dispIdle)

/-- EPD_PWR_GOOD_LOSS (R415, R429, R430): while scanning it is handled as a power loss with the stop row unknown; what
waits then asks for the supply again. (DESIGN CHOICE, log 155) -/
def execEpdPwrGoodLoss (t : Nat) (s : State) : Host.Outcome State Fault Refusal :=
  .next (onEvent s t fun s =>
    let scanning := s.flag R.DISP_STAT_SCANNING
    let s := s.wr R.DISP_STAT_PWR_GOOD 0 0
    if scanning then ((s.raise Ev.DISP_PWR 0 [1]).dispCut none).dispWake else s)

/-- DISP_PWR_OFF (R415): 100 ms after the last region ends. -/
def execDispPwrOff (t : Nat) (s : State) : Host.Outcome State Fault Refusal :=
  .next (onEvent s t fun s =>
    if s.regionsIn (fun t => t == .running || t == .recovery) != [] || s.dispWaits
        || s.mtb < s.disp.idleAt + 100 * 10 ^ 6 then s
    else (({ s with disp := { s.disp with pwrEn := false } } : State).wr R.DISP_STAT_PWR_GOOD 0 0).wr R.DISP_STAT_SCANNING 0 0)

/-- VINTAGE_SAVE (R423): every 10 s. -/
def execVintageSave (t : Nat) (s : State) : Host.Outcome State Fault Refusal :=
  .next (onEvent s t fun s =>
    if s.mtb < s.disp.saveAt + 10 ^ 10 then s
    else { s with disp := { s.disp with vintSaved := s.disp.vint, saveAt := s.mtb } })

/-- DISP_QUERY (R417). -/
def execDispQuery (x : Ctx) (s : State) : Host.Outcome State Fault Refusal :=
  .next (s.command x Op.DISP_QUERY 0 none fun s =>
    let active := (s.regionsIn fun t => t == .running || t == .recovery).length
    let queued := (s.regionsIn fun t => t == .queued || t == .cut).length
    s.complete x St.OK (s.pack [R.DISP_STAT_SCANNING, R.DISP_STAT_RECOVERING, R.DISP_STAT_PWR_GOOD, R.DISP_STAT_ABANDONED]
      + 2 ^ 16 * queued + 2 ^ 27 * active + 2 ^ 32 * s.rd R.DISP_TEMP_BAND))

/-- DISP_IMAGE_LOAD (R417, R418): two pixels per byte, the left one in bits 3 to 0. -/
def execDispImageLoad (x : Ctx) (px py w h : Nat) (pixels : List Byte) (s : State) : Host.Outcome State Fault Refusal :=
  .next (s.command x Op.DISP_IMAGE_LOAD 0 none fun s =>
    if w = 0 || h = 0 || px % 8 != 0 || w % 8 != 0 || decide (s.rd R.DISP_CFG_WIDTH < px + w)
        || decide (s.rd R.DISP_CFG_HEIGHT < py + h) then s.complete x St.REGION_SIZE
    else if pixels.length * 2 ≠ w * h then s.complete x St.BAD_PARAM
    else
      let levels := pixels.flatMap fun b => [b.toNat % 16, b.toNat / 16]
      let img := ((rectPixels px py w h).zip levels).foldl (fun (a : Tab Nat) e => a.put 15 (pixKey e.1.1 e.1.2) e.2) s.disp.pend
      ({ s with disp := { s.disp with pend := img } } : State).complete x St.OK)

/-- DISP_UPDATE (R414, R417, R418), outside a Cask. -/
def execDispUpdate (x : Ctx) (px py w h mode : Nat) (s : State) : Host.Outcome State Fault Refusal :=
  .next (s.command x Op.DISP_UPDATE 0 (some (.dispUpdate px py w h mode)) fun s =>
    if w = 0 && h = 0 then s.complete x St.REGION_SIZE else
    match s.dispBad px py w h mode with
    | some st => s.complete x st
    | none => (s.complete x St.ACCEPTED).dispStart px py w h mode (some x))

/-- DISP_TEMP_SET (R410, R411). -/
def execDispTempSet (x : Ctx) (v : Int) (s : State) : Host.Outcome State Fault Refusal :=
  .next (s.command x Op.DISP_TEMP_SET 0 none fun s =>
    if s.rd R.DISP_TEMP_SRC ≠ 2 || v < -16384 || 16383 < v then s.complete x St.BAD_PARAM
    else (s.dispTemp v false).complete x St.OK)

/-- DISP_VINTAGE_READ (R423): 0.01 s by tile, positive then negative. -/
def execDispVintageRead (x : Ctx) (s : State) : Host.Outcome State Fault Refusal :=
  .next (s.command x Op.DISP_VINTAGE_READ 0 none fun s =>
    (s.giveBuffer ((List.range s.tiles).flatMap fun t => [s.driveNs t 0 / 10 ^ 7, s.driveNs t 1 / 10 ^ 7])).complete x St.OK)

/-- DISP_VINTAGE_RESET (R423): under an owner signature. -/
def execDispVintageReset (x : Ctx) (sig : OwnerSig) (s : State) : Host.Outcome State Fault Refusal :=
  .next (s.command x Op.DISP_VINTAGE_RESET 0 none fun s =>
    s.owned x sig none fun s =>
      ({ s with disp := { s.disp with vint := .empty, vintSaved := .empty, imbal := [] } } : State).complete x St.OK)

end Sys2Proof.Machine
end

