-- ==== Sys2Proof/Machine/Filt.lean ====
section
/-! DEFINITION. The events and commands of the filter chains, trackers and cross-fades (07_filter_resampling.md). -/

namespace Sys2Proof.Machine

/-- TRK_PERIOD (R219 to R221): a rising crossing, and the fundamental's amplitude in 0.1 % of full scale over the period it
ends, as the tracker's low-pass gives them. (DESIGN CHOICE, log 76) -/
def execTrkPeriod (t m cross amp : Nat) (s : State) : Host.Outcome State Fault Refusal :=
  .next (onCore s t fun s => if m < 12 then s.period m cross amp else s)

/-- TRK_CROSSING_TIMEOUT (R221): no crossing within 1.5 times the estimated period. -/
def execTrkCrossingTimeout (t m : Nat) (s : State) : Host.Outcome State Fault Refusal :=
  .next (onCore s t fun s =>
    if m < 12 && s.rd R.FILT_TRK_STAT_STATE m == 2 && decide (3 * s.pEst m ≤ 2 * (s.mtb - (s.trk m).cross)) then
      s.holdTrk m 1 (s.pEst m) else s)

/-- TRK_HOLD_EXPIRY (R221): ten grid cycles in HOLD. -/
def execTrkHoldExpiry (t m : Nat) (s : State) : Host.Outcome State Fault Refusal :=
  .next (onCore s t fun s =>
    if m < 12 && s.rd R.FILT_TRK_STAT_STATE m == 3 && decide (10 ≤ (s.trk m).holdCyc) then s.setTrk m 1 5 else s)

/-- TRK_SOURCE_ABSENT (R219, R221): OFF while the source is absent or EN is cleared. -/
def execTrkSourceAbsent (t m : Nat) (s : State) : Host.Outcome State Fault Refusal :=
  .next (onCore s t fun s => if m < 12 then s.trkRefresh m else s)

/-- GRID_CYCLE_START (R223 to R225, R242 to R254): the period of the new cycle is fixed; a cycle that a relock has stretched is
respaced; and the quantities of the cycles that have ended are computed for the meter points on the tracker, as soon as
their samples are complete. (DESIGN CHOICE, log 71) -/
def execGridCycleStart (t m : Nat) (s : State) : Host.Outcome State Fault Refusal :=
  .next (onCore s t fun s =>
    if 12 ≤ m then s else
    match s.cycleStart m with
    | none => s
    | some z =>
      let relock := (s.trk m).relock
      let no := (s.trk m).no
      let s := s.beginCycle m z
      (if relock then s.respace m no else s).meterTrk m)

/-- SETTLING_END (R216, R238): the samples of a channel stop carrying SETTLING, and its meter points may run.
(DESIGN CHOICE, log 74) -/
def execSettlingEnd (t c : Nat) (s : State) : Host.Outcome State Fault Refusal :=
  .next (onCore s t fun s =>
    if 64 ≤ c || s.mtb < s.filt.restartAt.get 0 c + s.settleNs c then s else
    let live := !s.chAbsent c
    let s := (s.wr R.FILT_STAT_SETTLING c 0).wr R.AFE_CH_STAT_OVL_NOW c 0
    let s := (s.setFlag R.FILT_STAT_PRESENT c live).setFlag R.AFE_CH_STAT_PRESENT c live
    forEach (s.mpsOf c) (fun m s => s.mpEval m) s)

/-- BLEND_START (R231): at the first grid-cycle start of the common tracker after the acceptance, or at the next 1 ms
boundary while it is not LOCKED. -/
def execBlendStart (t c : Nat) (s : State) : Host.Outcome State Fault Refusal :=
  .next (onCore s t fun s =>
    match s.blendOf c with
    | none => s
    | some b =>
      let t0 := if s.rd R.FILT_TRK_STAT_STATE b.trk = 2 then s.rd R.FILT_TRK_ZC_START b.trk else s.mtb / 10 ^ 6 * 10 ^ 6
      if b.t0.isSome || t0 < b.at_ then s else
      let bs := s.filt.blends.map fun x => if x == b then { b with t0 := some t0 } else x
      forEach b.chans (fun c s => s.wr R.FILT_STAT_BLENDING c 1) { s with filt := { s.filt with blends := bs } })

/-- BLEND_DONE (R231): at the first grid-cycle start, or 1 ms boundary, at or after the start plus BLEND_MS. -/
def execBlendDone (t c : Nat) (s : State) : Host.Outcome State Fault Refusal :=
  .next (onCore s t fun s =>
    match s.blendOf c with
    | none => s
    | some b =>
      match b.t0 with
      | none => s
      | some t0 =>
        let t1 := if s.rd R.FILT_TRK_STAT_STATE b.trk = 2 then s.rd R.FILT_TRK_ZC_START b.trk else s.mtb / 10 ^ 6 * 10 ^ 6
        if t1 < t0 + 10 ^ 6 * s.rd R.FILT_BLEND_BLEND_MS then s else s.finishBlend b b.chans t1 0)

/-- FILT_QUERY (table FILT opcodes): STAT, TOTAL_GD and the sample flags. -/
def execFiltQuery (x : Ctx) (c : Nat) (s : State) : Host.Outcome State Fault Refusal :=
  .next (s.command x Op.FILT_QUERY c none fun s =>
    if 64 ≤ c then s.complete x St.BAD_PARAM else
    let stat := [R.FILT_STAT_PRESENT, R.FILT_STAT_ACTIVE_BANK, R.FILT_STAT_BLENDING, R.FILT_STAT_SETTLING,
      R.FILT_STAT_OVF_STAGE, R.FILT_STAT_OVF_CNT].foldl (fun n F => n + s.rd F c * 2 ^ F.lo) 0
    s.complete x St.OK (stat + 2 ^ 32 * s.rd R.FILT_GD_TOTAL_GD c + 2 ^ 64 * s.sampleFlags c))

/-- FILT_BLEND (R231 to R234). -/
def execFiltBlend (x : Ctx) (mask : Nat) (s : State) : Host.Outcome State Fault Refusal :=
  .next (s.command x Op.FILT_BLEND 0 none fun s =>
    let cs := (List.range 64).filter (bit mask ·)
    let left := (cs.filterMap s.blendOf).foldl (fun n b =>
      max n (b.t0.getD s.mtb + 10 ^ 6 * s.rd R.FILT_BLEND_BLEND_MS - s.mtb)) 0
    if !s.calAllowed then (s.partitionDenied 0 4 .metroParams).complete x St.PARTITION_DENIED
    else if cs = [] || 2 ^ 64 ≤ mask then s.complete x St.BAD_PARAM
    else if cs.any fun c => s.rd R.FILT_CFG_TRK c != s.rd R.FILT_CFG_TRK (cs.headD 0) then s.complete x St.TRK_MIXED
    else if cs.any fun c => (s.blendOf c).isSome then s.complete x St.BLEND_BUSY (min 65535 ((left + 999999) / 10 ^ 6))
    else
      let temp := s.rdInt R.MET_TC_CTL_T_APPLIED
      let s := forEach cs (fun c s =>
        s.setCal c (s.rdInt R.FILT_BANK_GAIN (s.otherBank c)) (s.rdInt R.FILT_BANK_TRIM (s.otherBank c)) temp) s
      (s.startBlend cs (some x) none).complete x St.ACCEPTED)

/-- TRK_QUERY (table FILT opcodes). -/
def execTrkQuery (x : Ctx) (m : Nat) (s : State) : Host.Outcome State Fault Refusal :=
  .next (s.command x Op.TRK_QUERY m none fun s =>
    if 12 ≤ m then s.complete x St.BAD_PARAM else
    s.complete x St.OK (s.rd R.FILT_TRK_STAT_FREQ_UHZ m + 2 ^ 32 * s.rd R.FILT_TRK_STAT_STATE m
      + 2 ^ 64 * trunc 32 (s.rd R.FILT_TRK_NEXT_START m)))

/-- FILT_RESTART (R216). -/
def execFiltRestart (x : Ctx) (mask : Nat) (s : State) : Host.Outcome State Fault Refusal :=
  .next (s.command x Op.FILT_RESTART 0 none fun s =>
    let cs := (List.range 64).filter (bit mask ·)
    if !s.calAllowed then (s.partitionDenied 0 4 .metroParams).complete x St.PARTITION_DENIED
    else if 2 ^ 64 ≤ mask then s.complete x St.BAD_PARAM
    else if cs.any s.chanLive then s.complete x St.FILT_LIVE
    else (forEach cs (fun c s => s.restartChain c) s).complete x St.OK)

end Sys2Proof.Machine
end

