-- ==== Sys2Proof/Machine/Lsw.lean ====
section
/-! DEFINITION. Commands and events of the load switches (R432 to R452). -/

namespace Sys2Proof.Machine

/-- LSW_TRIP (R435, R439, R444): a sample of channel `n`: current in mA, sensor in °C plus 50, and whether the output lies
below 1.0 V, which counts 1 ms after the turn-on. A thermal condition is taken before the others; a channel waiting for a retry
latches on it. A channel in ON is checked in its on-phases. (DESIGN CHOICE, log 248) -/
def execLswTrip (t n ma tj : Nat) (lowOut : Bool) (s : State) : Host.Outcome State Fault Refusal :=
  .next (onEvent s t fun s =>
    if 32 ≤ n then s else
    let st := s.lswSt n
    let held := (s.lswCh n).held.isSome
    if (st != 1 && st != 2 && st != 3) || (st = 2 && !s.lswConducts n) then s else
    let s := s.wr R.LSW_STAT_TJ n tj
    let s := if st = 3 then s else (s.wr R.LSW_STAT_I_MA n (min 65535 ma)).wr R.LSW_STAT_I_FINE n (min 1023 (10 * ma))
    if 220 ≤ tj then s.lswTrip n 2 ma tj
    else if held then s
    else if st = 1 && (3 * 500 * s.rd R.LSW_CFG_INRUSH_A n ≤ 2 * ma
        || (lowOut && decide ((s.lswCh n).since + 10 ^ 6 ≤ s.mtb) && decide (s.mtb ≤ (s.lswCh n).since + 1020000))) then s.lswTrip n 1 ma tj
    else if st = 2 && decide (250 * s.rd R.LSW_CFG_ILIM n ≤ ma) then s.lswTrip n 0 ma tj
    else s)

/-- INRUSH_END (R434): `calm` says that the current has stayed below ILIM for 1 ms. -/
def execInrushEnd (t n ma tj : Nat) (calm : Bool) (s : State) : Host.Outcome State Fault Refusal :=
  .next (onEvent s t fun s =>
    if 32 ≤ n || s.lswSt n ≠ 1 then s else
    let over_ := decide ((s.lswCh n).since + s.rd R.LSW_CFG_INRUSH_MS n * 10 ^ 6 ≤ s.mtb)
    let low := decide (ma < 250 * s.rd R.LSW_CFG_ILIM n)
    let calm := calm && decide ((s.lswCh n).since + 10 ^ 6 ≤ s.mtb)
    if (calm && low) || (over_ && low) then s.lswGo n 2 else if over_ then s.lswTrip n 0 ma tj else s)

/-- LSW_RETRY (R437, R441). (DESIGN CHOICE, log 163) -/
def execLswRetry (t n : Nat) (s : State) : Host.Outcome State Fault Refusal :=
  .next (onEvent s t fun s =>
    if s.lswSt n = 3 && (s.lswCh n).held.isNone && decide ((s.lswCh n).due ≤ s.mtb) then s.turnOn n true else s)

/-- LSW_COOL_RESTART (R438): `tj` is the sensor in °C plus 50. -/
def execLswCoolRestart (t n tj : Nat) (s : State) : Host.Outcome State Fault Refusal :=
  .next (onEvent s t fun s =>
    if s.lswSt n = 4 && tj ≤ 200 then
      let s := s.wr R.LSW_STAT_TJ n tj
      if (s.lswCh n).held.isSome then s else s.turnOn n false
    else s)

/-- RETRIES_RELOAD (R437). -/
def execRetriesReload (t n : Nat) (s : State) : Host.Outcome State Fault Refusal :=
  .next (onEvent s t fun s =>
    if s.lswSt n = 2 && decide ((s.lswCh n).since + 10 ^ 9 ≤ s.mtb) then
      s.wr R.LSW_STAT_RETRIES_LEFT n (s.rd R.LSW_CFG_RETRY_N n) else s)

/-- QUAD_HOT (R440): `temp` is the quad sensor in °C plus 50. (DESIGN CHOICE, log 163) -/
def execQuadHot (t q temp : Nat) (s : State) : Host.Outcome State Fault Refusal :=
  .next (onEvent s t fun s =>
    if 8 ≤ q || temp < 215 then s else
    let s := s.wr R.LSW_QUAD_T q temp
    if s.flag R.LSW_QUAD_HOT q then s else
    let s := (s.wr R.LSW_QUAD_HOT q 1).incSat R.LSW_QUAD_TRIPS q
    let ns := ((List.range 4).map (4 * q + ·)).filter fun n => s.lswSt n == 1
    let s := forEach ns (fun n s => s.turnOn n false) s
    s.raise Ev.LSW_QUAD q [q, 1, State.maskOf ns])

/-- QUAD_COOL (R441). -/
def execQuadCool (t q temp : Nat) (s : State) : Host.Outcome State Fault Refusal :=
  .next (onEvent s t fun s =>
    if 8 ≤ q || 195 < temp || !s.flag R.LSW_QUAD_HOT q then s else
    let s := (s.wr R.LSW_QUAD_T q temp).wr R.LSW_QUAD_HOT q 0
    let s := { s with lsw := { s.lsw with next := s.lsw.next.put 0 q s.mtb } }
    s.raise Ev.LSW_QUAD q [q, 0, State.maskOf (((List.range 4).map (4 * q + ·)).filter fun n => s.lswSt n == 5)])

/-- QUAD_RESTART_STEP (R441): the lowest deferred channel turns on, one every 100 µs. -/
def execQuadRestartStep (t q : Nat) (s : State) : Host.Outcome State Fault Refusal :=
  .next (onEvent s t fun s =>
    if 8 ≤ q || s.flag R.LSW_QUAD_HOT q || s.mtb < s.lsw.next.get 0 q then s else
    match ((List.range 4).map (4 * q + ·)).find? fun n => s.lswSt n == 5 && (s.lswCh n).held.isNone with
    | none => s
    | some n =>
      let s := s.turnOn n (s.lswCh n).retry
      { s with lsw := { s.lsw with next := s.lsw.next.put 0 q (s.mtb + 100000) } })

/-- LSW_PWM_PERIOD (R442, R444): an MTB multiple of the bank's period; new duty, phase and frequency take effect. -/
def execLswPwmPeriod (t b : Nat) (s : State) : Host.Outcome State Fault Refusal :=
  .next (onEvent s t fun s =>
    if 4 ≤ b || s.mtb * s.lswHz b / 10 ^ 9 ≤ s.lsw.no.get 0 b then s else
    let hz := s.rd R.LSW_BANK_PWM_HZ b
    let no := s.mtb * hz / 10 ^ 9
    let s := { s with lsw := { s.lsw with hz := s.lsw.hz.put 1000 b hz, no := s.lsw.no.put 0 b no } }
    forEach ((List.range 8).map (8 * b + ·)) (fun n s => s.pwmPeriod n no) s)

/-- LSW_OPEN_ON (R445): the least and the greatest sample over 100 ms of sampled on-time, in 0.1 mA. -/
def execLswOpenOn (t n lo hi : Nat) (s : State) : Host.Outcome State Fault Refusal :=
  .next (onEvent s t fun s =>
    if 32 ≤ n || s.lswSt n ≠ 2 || s.sampledOn n false < 10 ^ 8 then s else
    let s := s.modLsw n fun c => { c with onNs := 0, onFrom := s.mtb }
    let thr := if s.flag R.LSW_CFG_OL_RANGE n then 5 * s.rd R.LSW_CFG_OL_MA n else 500
    if !s.flag R.LSW_STAT_OPEN_ON n && decide (hi < thr) then
      (s.wr R.LSW_STAT_OPEN_ON n 1).raise Ev.LSW_OPEN n [n, 0, 1, hi]
    else if s.flag R.LSW_STAT_OPEN_ON n && decide (12 * thr ≤ 10 * lo) then
      (s.wr R.LSW_STAT_OPEN_ON n 0).raise Ev.LSW_OPEN n [n, 0, 0, lo]
    else s)

/-- LSW_OPEN_OFF (R446): the output has stayed above 2.0 V for 10 ms. A twin that is not active suspends the check (table
Twin wiring). (DESIGN CHOICE, log 167) -/
def execLswOpenOff (t n : Nat) (s : State) : Host.Outcome State Fault Refusal :=
  .next (onEvent s t fun s =>
    if n < 32 && !s.muted && s.flag R.LSW_CFG_OFF_DIAG n && (s.lswSt n == 0 || s.lswSt n == 6) && !s.flag R.LSW_STAT_OPEN_OFF n
        && decide ((s.lswCh n).since + 10 ^ 7 ≤ s.mtb) then
      (s.wr R.LSW_STAT_OPEN_OFF n 1).raise Ev.LSW_OPEN n [n, 1, 1, 0]
    else s)

/-- LSW_BUDGET_WINDOW (R448): the end of a 100 ms window of the MTB, with the mean current in mA and dissipation in mW of each
channel over it; a channel in INRUSH enters with I_NOM and 0. (DESIGN CHOICE, log 166) -/
def execLswBudgetWindow (t : Nat) (mas mws : List Nat) (s : State) : Host.Outcome State Fault Refusal :=
  .next (onEvent s t fun s =>
    if s.mtb / 10 ^ 8 ≤ s.lsw.win then s else
    let s := { s with lsw := { s.lsw with win := s.mtb / 10 ^ 8 } }
    let ma := fun n => if s.lswSt n = 1 then s.rd R.LSW_CFG_I_NOM n else mas.getD n 0
    let mw := fun n => if s.lswSt n = 1 then 0 else mws.getD n 0
    let sum := fun (f : Nat → Nat) (ns : List Nat) => ns.foldl (fun a n => a + f n) 0
    let bank := fun b => (List.range 8).map (8 * b + ·)
    let all := List.range 32
    let s := forEach (List.range 4) (fun b s => s.wr R.LSW_BANK_I_MA b (min 65535 (sum ma (bank b)))) s
    let s := (s.wr R.LSW_TOTAL_I_MA 0 (min 65535 (sum ma all))).wr R.LSW_TOTAL_P_MW 0 (min 65535 (sum mw all))
    let s := forEach (List.range 4) (fun b s =>
      if 6000 < sum ma (bank b) then s.budgetOff (bank b) ma 0 (sum ma (bank b)) else s) s
    let s := if 24000 < sum ma all then s.budgetOff all ma 1 (sum ma all) else s
    if 4000 < sum mw all then s.budgetOff all ma 2 (sum mw all) else s)

/-- VLS_UNDERVOLTAGE (R449): the channels of the bank are held off. -/
def execVlsUndervoltage (t b mv : Nat) (s : State) : Host.Outcome State Fault Refusal :=
  .next (onEvent s t fun s => s.vlsLow b mv)

/-- VLS_RESTORED (R449): VLSb has stayed above 6.0 V for 10 ms. -/
def execVlsRestored (t b mv : Nat) (s : State) : Host.Outcome State Fault Refusal :=
  .next (onEvent s t fun s => s.vlsBack b mv)

/-- LSW_SET (R437, R439, R442, R447, R449, R450): to every channel of the mask or to none.
(DESIGN CHOICE, log 165) -/
def execLswSet (x : Ctx) (mask on duty phase : Nat) (s : State) : Host.Outcome State Fault Refusal :=
  .next (s.command x Op.LSW_SET 0xFF none fun s =>
    let ns := (List.range 32).filter fun n => bit mask n
    if 2 ^ 32 ≤ mask || 2 ≤ on || (4095 < duty && duty ≠ 0xFFFF) || 255 < phase then s.complete x St.BAD_PARAM else
    let bad := fun n => if on = 1 then s.turnOnBad n else if s.lswSt n = 7 then some St.DISABLED else none
    let refused := ns.filter fun n => (bad n).isSome
    let poor := if on = 1 then s.overBudget ns else []
    match refused.findSome? bad, poor with
    | some st, _ => s.complete x st (State.maskOf refused)
    | none, p :: ps => s.complete x St.BUDGET_REFUSED (State.maskOf (p :: ps))
    | none, [] =>
      let s := forEach ns (fun n s =>
        let s := if duty = 0xFFFF then s else s.wr R.LSW_PWM_DUTY n duty
        let s := if phase = 0xFF then s else s.wr R.LSW_PWM_PHASE n phase
        if on = 1 then
          let s := ((s.wr R.LSW_STAT_RETRIES_LEFT n (s.rd R.LSW_CFG_RETRY_N n)).wr R.LSW_STAT_BUDGET_OFF n 0).wr R.LSW_STAT_SAFE_HELD n 0
          if s.lswOn n || s.lswSt n = 5 then s else s.turnOn n false
        else if s.lswSt n = 6 then s else s.turnOff n 0) s
      s.complete x St.OK)

/-- LSW_CLEAR (R437, R439). -/
def execLswClear (x : Ctx) (mask : Nat) (s : State) : Host.Outcome State Fault Refusal :=
  .next (s.command x Op.LSW_CLEAR 0xFF none fun s =>
    if 2 ^ 32 ≤ mask then s.complete x St.BAD_PARAM else
    let ns := (List.range 32).filter fun n => bit mask n && s.lswSt n == 6
    let hot := ns.filter fun n => decide (200 < s.rd R.LSW_STAT_TJ n)
    let s := forEach (ns.filter fun n => !hot.contains n) (fun n s =>
      ((((s.turnOff n 0).wr R.LSW_STAT_LATCH_OC n 0).wr R.LSW_STAT_LATCH_TH n 0).wr R.LSW_STAT_RETRIES_LEFT n
        (s.rd R.LSW_CFG_RETRY_N n))) s
    s.complete x St.OK (State.maskOf hot))

/-- LSW_QUERY (R435). -/
def execLswQuery (x : Ctx) (n : Nat) (s : State) : Host.Outcome State Fault Refusal :=
  .next (s.command x Op.LSW_QUERY n none fun s =>
    if 32 ≤ n then s.complete x St.BAD_PARAM else s.complete x St.OK (s.pack State.lswStatFields n))

/-- LSW_CONFIG (R434). -/
def execLswConfig (x : Ctx) (n cfg pwm : Nat) (s : State) : Host.Outcome State Fault Refusal :=
  .next (s.command x Op.LSW_CONFIG n none fun s =>
    let pwmFields := [R.LSW_PWM_DUTY, R.LSW_PWM_PHASE]
    if 32 ≤ n || State.lswCfgFields.any (fun F => !State.inRange F (State.imageField F cfg)) then s.complete x St.BAD_PARAM
    else if (s.lswSt n != 0 && s.lswSt n != 6 && s.lswSt n != 7) || (s.lswCh n).held.isSome then s.complete x St.LSW_BUSY
    else
      let s := forEach State.lswCfgFields (fun F s => s.wrSave F n (State.imageField F cfg)) s
      (forEach pwmFields (fun F s => s.wrSave F n (State.imageField F pwm)) s).complete x St.OK)

/-- LSW_BANK_PWM (R442). -/
def execLswBankPwm (x : Ctx) (b hz : Nat) (s : State) : Host.Outcome State Fault Refusal :=
  .next (s.command x Op.LSW_BANK_PWM 0xFF none fun s =>
    if 4 ≤ b || hz < 100 || 20000 < hz then s.complete x St.BAD_PARAM
    else (s.wrSave R.LSW_BANK_PWM_HZ b hz).complete x St.OK)

end Sys2Proof.Machine
end

