-- ==== Sys2Proof/Machine/Met.lean ====
section
/-! DEFINITION. The events and commands of the metering engine (08_metrology.md). -/

namespace Sys2Proof.Machine
namespace State

/-! ### Windows (R242 to R245) -/

/-- A power factor in Q1.15 with the sign of P; without apparent power the spec gives none: a free value.
(DESIGN CHOICE, log 78) -/
def putPf (s : State) (F : Fld) (n : Nat) (p : Int) (sApp : Nat) : State :=
  if sApp = 0 then
    let (f, s) := s.takeFree
    s.wr F n f
  else s.wrInt F n (max (-32767) (min 32767 (idivRound (32768 * p) sApp)))

/-- cos φ1 in Q1.15 of the vector U1 · conj(I1) and its magnitude; without a fundamental the spec gives none: a free value.
(DESIGN CHOICE, log 78) -/
def putCos (s : State) (n : Nat) (re : Int) (mag : Nat) : State := s.putPf R.MET_PHASE_COS_PHI1 n re mag

/-- The values of one phase over a window (R242, R243), the angles against U1 of the first phase. On DC the signed means alone.
(DESIGN CHOICE, log 244) -/
def putPhase (s : State) (m i : Nat) (a first : PhaseSum) : State :=
  let n := 3 * m + i
  let kv := s.rd R.MET_SCALE_KV m
  let ki := s.rd R.MET_SCALE_KI m
  let p := s.powerOf m a.ui a.n
  if s.rd R.MET_CFG_TYPE m = 3 then
    ((s.wrFitInt R.MET_PHASE_URMS n (meanOf a.u a.n kv)).wrFitInt R.MET_PHASE_IRMS n (meanOf a.i a.n ki)).wrFitInt R.MET_PHASE_P n p
  else
    let u := rmsOf a.uu a.n kv
    let c := rmsOf a.ii a.n ki
    let ap := divRound (u * c) (10 ^ 9)
    let re := a.ur * a.ir + a.uj * a.ij
    let im := a.ij * a.ur - a.ir * a.uj
    let s := ((s.wrFit R.MET_PHASE_URMS n u).wrFit R.MET_PHASE_IRMS n c).wrFitInt R.MET_PHASE_P n p
    let s := (s.wrFitInt R.MET_PHASE_Q n (idivRound a.q (max 1 a.cycles))).wrFit R.MET_PHASE_S n ap
    let s := (s.putPf R.MET_PHASE_PF n p ap).putCos n re (isqrtW (re * re + im * im).toNat)
    (s.wrInt R.MET_PHASE_ANGLE_UI n (angleOf re im)).wrInt R.MET_PHASE_ANGLE_U n
      (angleOf (a.ur * first.ur + a.uj * first.uj) (a.uj * first.ur - a.ur * first.uj))

/-- The totals of a window (R242, R243). (DESIGN CHOICE, log 78) -/
def putTotal (s : State) (m : Nat) (w : Window) : State :=
  let as_ := w.sums.take (s.elements m)
  let kv := s.rd R.MET_SCALE_KV m
  let ki := s.rd R.MET_SCALE_KI m
  let p := sumInt (as_.map fun a => s.powerOf m a.ui a.n)
  let s := (s.wrFitInt R.MET_TOTAL_P m p).modMp m fun x => { x with lastP := p }
  let s := s.wr R.MET_TOTAL_QF m w.flags
  if s.rd R.MET_CFG_TYPE m = 3 then s else
  let ap := as_.foldl (fun n a => n + divRound (rmsOf a.uu a.n kv * rmsOf a.ii a.n ki) (10 ^ 9)) 0
  let q := sumInt (as_.map fun a => idivRound a.q (max 1 a.cycles))
  let s := ((s.wrFitInt R.MET_TOTAL_Q m q).wrFit R.MET_TOTAL_S m ap).putPf R.MET_TOTAL_PF m p ap
  let nn := w.sums.getD 3 PhaseSum.init
  if s.rd R.MET_MAP_IN m = 0x7F then s else s.wrFit R.MET_TOTAL_IN_RMS m (rmsOf nn.ii nn.n ki)

/-- The passband of a meter point's channels in µHz (R226). -/
def passband (s : State) (m : Nat) : Nat :=
  match s.rd R.FILT_CFG_RS_MODE ((s.mpChans m).headD 0) with
  | 1 => 2500 * 10 ^ 6
  | 2 => 5000 * 10 ^ 6
  | _ => 10000 * 10 ^ 6

/-- The harmonic register of an order of a phase. -/
def harmIx (m i h : Nat) : Nat := (3 * m + i) * 64 + h

/-- Harmonics of one order of a phase (R245): above the passband 0xFFFF_FFFF. The groups are kept for MET_HARM_READ. -/
def putHarm (s : State) (m ph order : Nat) (w : Window) : State :=
  let f := s.rd R.FILT_TRK_STAT_FREQ_UHZ (s.mpTrk m)
  let pb := s.passband m
  let k := w.len
  let ok := decide (order * f ≤ pb)
  let okI := decide ((k * order + k - 2) * f ≤ k * pb)
  let no := 0xFFFFFFFF
  let n := harmIx m ph order
  let rs := s.rsN ((s.mpChans m).headD 0)
  let (u, ui, ug) := s.harmOf (s.roleChan m ph) rs (s.rd R.MET_SCALE_KV m) order w
  let (i, ii, ig) := s.harmOf (s.roleChan m (3 + ph)) rs (s.rd R.MET_SCALE_KI m) order w
  let s := (s.wrFit R.MET_HARM_U_SG n (if ok then u else no)).wrFit R.MET_HARM_I_SG n (if ok then i else no)
  let s := (s.wrFit R.MET_HARM_U_ISG n (if okI then ui else no)).wrFit R.MET_HARM_I_ISG n (if okI then ii else no)
  let g := [if ok then ug else no, if ok then ig else no]
  { s with met := { s.met with groups := s.met.groups.put [] n g } }

/-- THD of a phase from the subgroups to the 40th that the passband holds (R245), in register 0.
(DESIGN CHOICE, log 81) -/
def putThd (s : State) (m i : Nat) : State :=
  let sq := fun (F : Fld) => isqrt (((List.range 39).map fun k =>
    let v := s.rd F (harmIx m i (k + 2))
    if v = 0xFFFFFFFF then 0 else v * v).foldl (· + ·) 0)
  (s.wrFit R.MET_HARM_U_SG (harmIx m i 0) (sq R.MET_HARM_U_SG)).wrFit R.MET_HARM_I_SG (harmIx m i 0) (sq R.MET_HARM_I_SG)

/-- A window of R243 that is complete is presented. (DESIGN CHOICE, log 79) -/
def windowEnd (s : State) (m : Nat) (w : Window) : State :=
  let n := s.elements m
  let s := forEach (w.sums.take n).zipIdx (fun p s => s.putPhase m p.2 p.1 (w.sums.getD 0 PhaseSum.init)) s
  let s := s.putTotal m w
  let s := if s.rd R.MET_CFG_TYPE m = 3 || !s.flag R.MET_CFG_HARM_EN m then s else
    forEach (List.range n) (fun i s => s.putThd m i)
      (forEach (List.range n) (fun i s => forEach (List.range 64) (fun h s => s.putHarm m i h w) s) s)
  s.modMp m fun p => { p with ready := none }

/-! ### Seconds (R254, R259) -/

/-- Count a second with each quality flag: INVALID, FREE_RUN, HOLDOVER, ABSENT (R254). -/
def qualSecond (s : State) (m : Nat) : State :=
  let f := (s.mp m).secFlags
  let s := forEach [(0, R.MET_QUAL_INVALID_S), (1, R.MET_QUAL_FREE_RUN_S), (2, R.MET_QUAL_HOLDOVER_S), (3, R.MET_QUAL_ABSENT_S)]
    (fun p s => if bit f p.1 then s.addSat p.2 m 1 else s) s
  s.modMp m fun p => { p with secFlags := 0 }

/-- The record of the second that ended at the last edge reaches the ledger (R259): the sub-interval's energy and
elapsed time. -/
def secondRecord (s : State) (m : Nat) : State :=
  let edge := s.secEdge
  let s := s.qualSecond m
  let s := s.modMp m fun p => { p with secRec := p.secCur, secCur := p.secNext, secNext := [], recEdge := edge }
  let a := s.acct m
  let e := (a.recent.filter fun r => decide (r.1 ≤ edge)).foldl (fun n r => n + r.2.getD 0 0) (a.base.getD 0 0)
  (s.wr R.LEDGER_DEMAND_CUR_IMP_WH m (e / 10 ^ 6)).wr R.LEDGER_DEMAND_ELAPSED_S m ((edge - s.ledger.subStart) / 10 ^ 9)

/-! ### Dips, swells and interruptions (R260 to R262) -/

/-- Phases of a list that meet a test, as a mask. -/
def phaseMask (us : List (Nat × Nat)) (f : Nat → Bool) : Nat := us.foldl (fun n p => n + if f p.2 then 2 ^ p.1 else 0) 0

/-- One kind of event at the end of a Urms(1/2) window: 0 dip, 1 swell, 2 interruption. `on` are the phases beyond the threshold, `starts` and `ends` say
whether the event starts and ends, `ext` is the extreme voltage of this half cycle. -/
def pqKind (s : State) (m at_ kind on ext : Nat) (starts ends : Bool) (worse : Nat → Nat → Nat) : State :=
  let put := fun (s : State) (e : Option PqEvent) =>
    (s.modMp m fun p => { p with pq := p.pq.put none kind e }).wr R.MET_PQ_STAT_ACTIVE m
      (if e.isSome then setBit (s.rd R.MET_PQ_STAT_ACTIVE m) kind else clearBit (s.rd R.MET_PQ_STAT_ACTIVE m) kind)
  match (s.mp m).pq.get none kind with
  | none => if starts then (put s (some ⟨at_, on, ext⟩)).raise Ev.MET_PQ_START m [m, kind, on, at_] else s
  | some e =>
    if ends then
      let unom := 10 ^ 5 * s.rd R.MET_RATING_UNOM m
      let s := (put s none).incSat ([R.MET_PQ_STAT_DIPS, R.MET_PQ_STAT_SWELLS].getD kind R.MET_PQ_STAT_INTERRUPTS) m
      s.raise ([Ev.MET_DIP, Ev.MET_SWELL].getD kind Ev.MET_INTERRUPT) m
        [m, e.mask, e.start, (at_ - e.start) / 1000, divRound (10000 * e.ext) (max 1 unom)]
    else put s (some ⟨e.start, e.mask ||| on, worse e.ext ext⟩)

/-- Urms(1/2) of the phases, phase and µV, over the grid cycle that ends at an instant (R260, R261).
(DESIGN CHOICE, log 79) -/
def pqHalf (s : State) (m at_ : Nat) (ps : List (Nat × Nat)) : State :=
  let us := ps.map (·.2)
  let unom := 10 ^ 5 * s.rd R.MET_RATING_UNOM m
  let below := fun (pct u : Nat) => decide (100 * u < pct * unom)
  let dip := s.rd R.MET_PQ_CFG_DIP_PCT m
  let sw := s.rd R.MET_PQ_CFG_SWELL_PCT m
  let int := s.rd R.MET_PQ_CFG_INT_PCT m
  let hy := s.rd R.MET_PQ_CFG_HYST_PCT m
  let lo := us.foldl min (us.headD 0)
  let hi := us.foldl max 0
  let above := fun (pct u : Nat) => decide (pct * unom < 100 * u)
  let s := s.pqKind m at_ 0 (phaseMask ps (below dip)) lo (us.any (below dip)) (us.all fun u => !below (dip + hy) u) min
  let s := s.pqKind m at_ 1 (phaseMask ps (above sw)) hi (us.any (above sw)) (us.all fun u => !above (sw - hy) u) max
  s.pqKind m at_ 2 (phaseMask ps (below int)) lo (us.all (below int)) (us.any fun u => !below (int + hy) u) min

/-! ### Calibration (R267 to R269) -/

/-- The new coefficients of an apply (R268): gain of the voltage and the current channel, trim of the current channel,
and their offsets; none when R269 refuses them. `gv`, `gi` and `ti` are the old ones. (DESIGN CHOICE, log 80) -/
def newCoefs (k : CalKept) (mask uRef iRef : Nat) (angleRef : Int) (gv gi ti : Int) : Option (Int × Int × Int) :=
  let gain := fun (on : Bool) (old : Int) (ref meas : Nat) =>
    if !on then some old else if meas = 0 then none else
    let new := idivRound (old * ref) meas
    if old.natAbs < 10 * (new - old).natAbs then none else some new
  let trim :=
    if !bit mask 2 then some ti else if k.freq = 0 then none else
    let d := idivRound ((k.angle - angleRef) * 25600000000000) (360 * k.freq)
    if 5120000 < d.natAbs || 25600000 < (ti + d).natAbs then none else some (ti + d)
  match gain (bit mask 0) gv uRef k.u, gain (bit mask 1) gi iRef k.i, trim with
  | some a, some b, some c => some (a, b, c)
  | _, _, _ => none

/-- What a measurement keeps of a phase (R267): its averages, the angle of I1 against U1, the frequency of its grid cycles, the
mean codes. On DC the magnitudes of the means. -/
def calResult (s : State) (m : Nat) (a : PhaseSum) (r : CalRun) (start : Nat) : CalKept :=
  let kv := s.rd R.MET_SCALE_KV m
  let ki := s.rd R.MET_SCALE_KI m
  let dc := s.rd R.MET_CFG_TYPE m == 3
  let u := if dc then (meanOf a.u a.n kv).natAbs else rmsOf a.uu a.n kv
  let i := if dc then (meanOf a.i a.n ki).natAbs else rmsOf a.ii a.n ki
  let angle := if dc then 0 else angleOf (a.ur * a.ir + a.uj * a.ij) (a.ij * a.ur - a.ir * a.uj)
  let freq := if dc then 0 else divRound (10 ^ 15 * r.cyc.1) (max 1 r.cyc.2)
  ⟨s.mtb, u, i, angle, freq, idivRound a.u (max 1 a.n), idivRound a.i (max 1 a.n), s.rdInt R.MET_TC_CTL_T_APPLIED,
    s.powerOf m a.ui a.n, start⟩

/-- Copy the active bank of a channel into the other one. -/
def copyBank (s : State) (c : Nat) : State :=
  forEach [R.FILT_BANK_GAIN, R.FILT_BANK_OFFSET, R.FILT_BANK_TRIM] (fun F s => s.wr F (s.otherBank c) (s.rd F (s.thisBank c))) s

/-- Bring new coefficients of a phase in (R268): the inactive banks of the channels concerned, then one cross-fade.
(DESIGN CHOICE, log 77) -/
def applyCal (s : State) (x : Ctx) (m ph mask : Nat) (k : CalKept) (cs : List Nat) (gv gi ti : Int) : State :=
  let vc := s.roleChan m ph
  let ic := s.roleChan m (3 + ph)
  let s := forEach cs (fun c s => s.copyBank c) s
  let s := if bit mask 0 then s.wrFitInt R.FILT_BANK_GAIN (s.otherBank vc) gv else s
  let s := if bit mask 1 then s.wrFitInt R.FILT_BANK_GAIN (s.otherBank ic) gi else s
  let s := if bit mask 2 then s.wrFitInt R.FILT_BANK_TRIM (s.otherBank ic) ti else s
  let s := if bit mask 3 then
      let s := s.wrFitInt R.FILT_BANK_OFFSET (s.otherBank vc) (s.rdInt R.FILT_BANK_OFFSET (s.thisBank vc) - k.zeroV)
      s.wrFitInt R.FILT_BANK_OFFSET (s.otherBank ic) (s.rdInt R.FILT_BANK_OFFSET (s.thisBank ic) - k.zeroI)
    else s
  let s := forEach cs (fun c s => s.setCal c (s.rdInt R.FILT_BANK_GAIN (s.otherBank c)) (s.rdInt R.FILT_BANK_TRIM (s.otherBank c)) k.temp) s
  let s := forEach cs (fun c s => s.calNote (0x60010 + 0x200 * c) (s.rd R.FILT_BANK_GAIN (s.thisBank c)) (s.rd R.FILT_BANK_GAIN (s.otherBank c))) s
  let r := [m, ph, k.u, k.i, enc 32 k.p, enc 32 k.angle, k.freq, k.start, k.at_, enc 32 gv, enc 32 gi, enc 32 ti]
  (s.startBlend cs (some x) (some r)).complete x St.ACCEPTED

/-- A pulse assignment is too fast at PMAX for its width (R274). -/
def pulseTooFast (s : State) (m const width : Nat) : Bool :=
  let p := s.rd R.MET_RATING_UNOM m * s.rd R.MET_RATING_IMAX m * if s.rd R.MET_CFG_TYPE m = 2 then 3 else 1
  decide (36000000000000 < const * p * 2 * width)

/-- The fields of a PULSE register. -/
def pulseFields : List Fld := [R.MET_PULSE_EN, R.MET_PULSE_MP, R.MET_PULSE_QTY, R.MET_PULSE_CONST, R.MET_PULSE_WIDTH_MS]

/-- A pulse output starts counting anew at its counter's present value. (DESIGN CHOICE, log 81) -/
def pulseReset (s : State) (k : Nat) : State :=
  let n := s.rd R.MET_ENERGY_COUNT (10 * s.rd R.MET_PULSE_MP k + s.rd R.MET_PULSE_QTY k) * s.rd R.MET_PULSE_CONST k / 10 ^ 9
  let p := s.met.pulses.get Pulse.init k
  let s := { s with met := { s.met with pulses := s.met.pulses.put Pulse.init k { p with passed := n, due := [] } } }
  s.wr R.MET_PULSE_BACKLOG k 0

end State

/-- MET_WINDOW_END (R242 to R245, R254): once the samples of the window's last cycle are metered.
(DESIGN CHOICE, log 71) -/
def execMetWindowEnd (t m : Nat) (s : State) : Host.Outcome State Fault Refusal :=
  .next (onCore s t fun s =>
    match (s.mp m).ready with
    | some w => if m < 12 && s.mpRuns m then s.windowEnd m w else s
    | none => s)

/-- DEMAND_SECOND_RECORD (R259): once the samples of the second are classified. -/
def execDemandSecondRecord (t m : Nat) (s : State) : Host.Outcome State Fault Refusal :=
  .next (onCore s t fun s =>
    let edge := s.secEdge
    if m < 12 && decide ((s.mp m).recEdge < edge) && !s.unclassified m edge then s.secondRecord m else s)

/-- PQ_HALF_CYCLE (R260 to R262): the next half grid cycle whose samples are complete. -/
def execPqHalfCycle (t m : Nat) (s : State) : Host.Outcome State Fault Refusal :=
  .next (onCore s t fun s =>
    if 12 ≤ m || !s.mpRuns m || s.rd R.MET_CFG_TYPE m = 3 then s else
    let oldest := (((s.trk (s.mpTrk m)).cycles.getLast?).map (·.no)).getD 0
    let half := max (s.mp m).pqNext (2 * oldest + 2)
    match s.halfRms m half with
    | some (at_, us) =>
      let s := s.modMp m fun p => { p with pqNext := half + 1 }
      if us = [] then s else s.pqHalf m at_ us
    | none => s)

/-- PULSE_START (R273, R275, R276): a pulse at its due instant plus the fixed latency, at least one width after the end of the
previous one. -/
def execPulseStart (t k : Nat) (s : State) : Host.Outcome State Fault Refusal :=
  .next (onCore s t fun s =>
    let p := s.met.pulses.get Pulse.init k
    let rested := p.edge1 = 0 || p.edge1 + 10 ^ 6 * s.rd R.MET_PULSE_WIDTH_MS k ≤ s.mtb + 1
    match p.due with
    | d :: r =>
      if k < 8 && s.flag R.MET_PULSE_EN k && decide (d ≤ s.mtb) && !p.on && rested then
        let p := { p with on := true, due := r, edge1 := s.mtb + 1 }
        ({ s with met := { s.met with pulses := s.met.pulses.put Pulse.init k p } } : State).backlog k
      else s
    | [] => s)

/-- PULSE_END (R273). -/
def execPulseEnd (t k : Nat) (s : State) : Host.Outcome State Fault Refusal :=
  .next (onCore s t fun s =>
    let p := s.met.pulses.get Pulse.init k
    if p.on && decide (p.edge1 + 10 ^ 6 * s.rd R.MET_PULSE_WIDTH_MS k ≤ s.mtb + 1) then
      let p := { p with on := false, edge1 := s.mtb + 1 }
      ({ s with met := { s.met with pulses := s.met.pulses.put Pulse.init k p } } : State).backlog k
    else s)

/-- TC_READ (R270 to R272): the converter-die temperature in 0.01 °C, one second or more after the last reading.
(DESIGN CHOICE, log 246) -/
def execTcRead (t : Nat) (temp : Int) (s : State) : Host.Outcome State Fault Refusal :=
  .next (onCore s t fun s =>
    if !s.flag R.MET_TC_CTL_EN || s.mtb < s.met.tcNext then s else
    let s := { s with met := { s.met with tcNext := s.mtb + 10 ^ 9 } }
    if s.ledger.cal.isSome then s else
    let moved := decide (10 * s.rd R.MET_TC_CTL_STEP ≤ (temp - s.rdInt R.MET_TC_CTL_T_APPLIED).natAbs)
    if !moved && s.met.tcPend = 0 then s else
    let (gs, s) := s.compensateGroups (if moved then 2 ^ 12 - 1 else s.met.tcPend) temp
    if !moved && gs = 0 then s else
    (s.wrInt R.MET_TC_CTL_T_APPLIED 0 temp).raise Ev.MET_TC_BLEND 0 [enc 16 temp, gs])

/-- MET_SESSION_CLOSE_FINAL (R257). -/
def execMetSessionCloseFinal (t m : Nat) (s : State) : Host.Outcome State Fault Refusal :=
  .next (onCore s t fun s =>
    if m < 12 && s.flag R.MET_SESS_CLOSED_PENDING m && !s.unclassified m ((s.mp m).sessEnd1 - 1) then s.closeFinal m else s)

/-- MET_CAL_MEASURE_DONE (R267): the averages of each measured phase over whole windows, at least the seconds asked for. A
measurement with a sample that is not VALID, or FREE_RUN, ends CAL_UNSTABLE. (DESIGN CHOICE, log 80) -/
def execMetCalMeasureDone (t m : Nat) (s : State) : Host.Outcome State Fault Refusal :=
  .next (onCore s t fun s =>
    match s.met.runs.get none m with
    | none => s
    | some r =>
      let start := r.begun.getD r.stop
      if r.stop < start + 10 ^ 9 * r.secs then s else
      let s := { s with met := { s.met with runs := s.met.runs.put none m none } }
      if r.flags &&& 11 != 0 then s.finalise r.ctx St.CAL_UNSTABLE
      else
        let s := forEach ((List.range 3).filter fun i => bit r.phases i) (fun i s =>
          let a := r.sums.getD i PhaseSum.init
          let k := s.calResult m a r start
          let s := { s with met := { s.met with kept := s.met.kept.put none (3 * m + i) (some k) } }
          s.raise Ev.MET_CAL_RESULT m [m, i, k.u, k.i, enc 32 k.p, enc 32 k.angle, k.freq, start, r.stop]) s
        s.finalise r.ctx St.OK)

/-- MET_QUERY (table MET opcodes). -/
def execMetQuery (x : Ctx) (m : Nat) (s : State) : Host.Outcome State Fault Refusal :=
  .next (s.command x Op.MET_QUERY m none fun s =>
    if 12 ≤ m then s.complete x St.BAD_PARAM else
    s.complete x St.OK (enc 32 (s.rdInt R.MET_TOTAL_P m / 1000) + 2 ^ 32 * (s.rd R.MET_TOTAL_FREQ_10S m / 1000)
      + 2 ^ 64 * s.rd R.MET_CFG_STATE m + 2 ^ 72 * trunc 24 (s.rd R.MET_TOTAL_QF m)))

/-- MET_SESSION_OPEN (R256), staged with a Cask id, else at once: T is the MTB of the command. -/
def execMetSessionOpen (x : Ctx) (m sess : Nat) (s : State) : Host.Outcome State Fault Refusal :=
  .next (s.command x Op.MET_SESSION_OPEN m (some (.metOpen m sess)) fun s =>
    match s.metOpenBad m sess with
    | some st => s.complete x st
    | none => (s.metOpen m sess s.mtb).complete x St.OK)

/-- MET_SESSION_CLOSE (R256, R257). -/
def execMetSessionClose (x : Ctx) (m : Nat) (s : State) : Host.Outcome State Fault Refusal :=
  .next (s.command x Op.MET_SESSION_CLOSE m (some (.metClose m)) fun s =>
    match s.metCloseBad m with
    | some st => s.complete x st
    | none => (s.metClose m s.mtb).complete x St.OK)

/-- MET_CAL_MEASURE (R266, R267). (DESIGN CHOICE, log 80) -/
def execMetCalMeasure (x : Ctx) (m phases secs : Nat) (s : State) : Host.Outcome State Fault Refusal :=
  .next (s.command x Op.MET_CAL_MEASURE m none fun s =>
    if !s.calCovers m then s.complete x St.CAL_NOT_OPEN
    else if 12 ≤ m || phases = 0 || 8 ≤ phases || secs = 0 || 60 < secs then s.complete x St.BAD_PARAM
    else if (s.met.runs.get none m).isSome then s.complete x St.BUSY
    else
      let s := { s with met := { s.met with runs := s.met.runs.put none m (some ⟨x, phases, secs, s.mtb, none, 0, [], (0, 0), s.mtb⟩) } }
      s.complete x St.ACCEPTED)

/-- MET_CAL_APPLY (R266, R268, R269). -/
def execMetCalApply (x : Ctx) (m ph uRef iRef : Nat) (angleRef : Int) (mask : Nat) (s : State) :
    Host.Outcome State Fault Refusal :=
  .next (s.command x Op.MET_CAL_APPLY m none fun s =>
    if !s.calCovers m then s.complete x St.CAL_NOT_OPEN
    else if 12 ≤ m || 3 ≤ ph || mask = 0 || 16 ≤ mask || (bit mask 3 && s.rd R.MET_CFG_TYPE m != 3)
        || s.roleChan m ph = 0x7F || s.roleChan m (3 + ph) = 0x7F then s.complete x St.BAD_PARAM
    else
      match s.met.kept.get none (3 * m + ph) with
      | none => s.complete x St.CAL_STALE
      | some k =>
        let vc := s.roleChan m ph
        let ic := s.roleChan m (3 + ph)
        let cs := (if bit mask 0 || bit mask 3 then [vc] else []) ++ (if 2 ≤ mask then [ic] else [])
        if k.at_ + 600 * 10 ^ 9 < s.mtb then s.complete x St.CAL_STALE
        else if s.mpLive m then s.complete x St.MP_LIVE
        else if cs.any fun c => (s.blendOf c).isSome then s.complete x St.BLEND_BUSY
        else
          match State.newCoefs k mask uRef iRef angleRef (s.rdInt R.FILT_BANK_GAIN (s.thisBank vc))
              (s.rdInt R.FILT_BANK_GAIN (s.thisBank ic)) (s.rdInt R.FILT_BANK_TRIM (s.thisBank ic)) with
          | none => s.complete x St.CAL_RANGE
          | some (gv, gi, ti) => s.applyCal x m ph mask k cs gv gi ti)

/-- MET_PULSE_CFG (R266, R273, R274). -/
def execMetPulseCfg (x : Ctx) (k image : Nat) (s : State) : Host.Outcome State Fault Refusal :=
  .next (s.command x Op.MET_PULSE_CFG k none fun s =>
    let get := fun F => State.imageField F image
    let c := get R.MET_PULSE_CONST
    let w := get R.MET_PULSE_WIDTH_MS
    if !s.calAllowed then s.complete x St.CAL_NOT_OPEN
    else if 8 ≤ k || 11 < get R.MET_PULSE_MP || 7 < get R.MET_PULSE_QTY || c = 0 || 100000 < c || w < 2 || 100 < w then
      s.complete x St.BAD_PARAM
    else if s.pulseTooFast (get R.MET_PULSE_MP) c w then s.complete x St.PULSE_RATE
    else
      let old := State.pulseFields.foldl (fun n F => n + s.rd F k * 2 ^ F.lo) 0
      let s := s.writeFields State.pulseFields k image
      ((s.pulseReset k).calNote (0x8C000 + 16 * k) old image).complete x St.OK)

/-- MET_HARM_READ (R245): the 64 orders of a phase as U, I and the two interharmonic subgroups; with `groups` the
harmonic groups in place of the subgroups. -/
def execMetHarmRead (x : Ctx) (m ph groups : Nat) (s : State) : Host.Outcome State Fault Refusal :=
  .next (s.command x Op.MET_HARM_READ m none fun s =>
    if 12 ≤ m || 3 ≤ ph || 2 ≤ groups then s.complete x St.BAD_PARAM else
    let row := fun h =>
      let n := State.harmIx m ph h
      let g := s.met.groups.get [] n
      let a := if groups = 0 || h < 2 then [s.rd R.MET_HARM_U_SG n, s.rd R.MET_HARM_I_SG n] else [g.getD 0 0, g.getD 1 0]
      a ++ [s.rd R.MET_HARM_U_ISG n, s.rd R.MET_HARM_I_ISG n]
    (s.giveBuffer ((List.range 64).flatMap row)).complete x St.OK)

/-- MET_WAVE_CAPTURE (table MET opcodes): sources 12 to 23 in format 0x0021. (DESIGN CHOICE, log 81) -/
def execMetWaveCapture (x : Ctx) (mask samples : Nat) (s : State) : Host.Outcome State Fault Refusal :=
  .next (s.command x Op.MET_WAVE_CAPTURE 0 none fun s =>
    if mask = 0 || 2 ^ 12 ≤ mask then s.complete x St.BAD_PARAM else
    (forEach ((List.range 12).filter (bit mask ·)) (fun m s =>
      (s.setWaveRecs m []).setWave m ⟨true, 0x21, samples, samples == 0⟩) s).complete x St.OK)

/-- MET_WAVE_STOP (table MET opcodes): the partly filled buffers are delivered. -/
def execMetWaveStop (x : Ctx) (mask : Nat) (s : State) : Host.Outcome State Fault Refusal :=
  .next (s.command x Op.MET_WAVE_STOP 0 none fun s =>
    if 2 ^ 12 ≤ mask then s.complete x St.BAD_PARAM else
    (forEach ((List.range 12).filter (bit mask ·)) (fun m s =>
      ((s.waveBlock m).setWave m Capture.off).setWaveRecs m []) s).complete x St.OK)

end Sys2Proof.Machine
end

