-- ==== Sys2Proof/Machine/Outlet.lean ====
section
/-! DEFINITION. The events and commands of the outlet controllers (04_outlet_sessions.md): pilot, proximity,
authorisation, vehicle messages, and the OUT and SESSION commands. -/

namespace Sys2Proof.Machine
namespace State

/-- The output in force changes (R91, R93): the counts of R91 and R92 restart. A DISABLED outlet holds state F (R85). -/
def setOut (s : State) (n : Nat) (p : PilotOut) : State :=
  let p := if s.outType n = 0 then .stateF else p
  let duty := match p with
    | .pwm d => d / 10
    | _ => 100
  (s.wr R.OUT_STAT_DUTY_PCT n duty).modOutlet n fun o => { o with
    out := p, outNext := none, cand := none, agree := 0, badLow := 0, noAccept := 0 }

/-- Judge a period on the output in force during it (R91, R92): agreement on a state, low level, acceptance. With VCP_P or
VCP_N out of limits every pilot is at state E (R504). -/
def judgePeriod (s : State) (n : Nat) (high low : Int) : State :=
  let o := s.outlet n
  let s := (s.wrInt R.OUT_STAT_PILOT_HIGH n high).wrInt R.OUT_STAT_PILOT_LOW n low
  match o.out with
  | .stateF => s
  | _ =>
    let p := if s.railOut 11 || s.railOut 12 then some .e else pilotOf high
    let agree := match p with
      | none => 0
      | some _ => if o.cand = p then o.agree + 1 else 1
    let pwm := match o.out with
      | .pwm _ => true
      | _ => false
    s.modOutlet n fun o => { o with
      cand := p, agree := agree, badLow := if pwm && decide (-1050 < low) then o.badLow + 1 else 0,
      noAccept := if agree < s.rd R.OUT_POLICY_FILT_PER then o.noAccept + 1 else 0 }

/-- Accept a pilot state (R91) and let it drive the session. -/
def acceptPilot (s : State) (n : Nat) (p : Pilot) : State :=
  let s := s.modOutlet n fun o => { o with pilot := p }
  let s := if p == .a then s.clearAtA n else s
  let s := if p == .e && s.outType n != 0 then s.trip n fPILOT_E 0 s.mtb else s
  s.pilotDrives n p

/-- The proximity reading of mode 1 (R96): none for no cable or an invalid value; and whether it is invalid. -/
def decodeCable (ohms : Nat) (ac3 : Bool) : Option Nat × Bool :=
  if 4500 < ohms then (none, false)
  else if 1100 ≤ ohms && ohms ≤ 2460 then (some 13, false)
  else if 400 ≤ ohms && ohms ≤ 936 then (some 20, false)
  else if 164 ≤ ohms && ohms ≤ 308 then (some 32, false)
  else if 80 ≤ ohms && ohms ≤ 140 then (some (if ac3 then 63 else 70), false)
  else (none, true)

/-- A latch release is pressed in mode 2 (R97). -/
def latchPressed (ohms : Nat) : Bool := decide (330 ≤ ohms) && decide (ohms ≤ 700)

/-- The proximity reading of mode 2 is neither latched, pressed nor open (R97). -/
def latchInvalid (ohms : Nat) : Bool :=
  !(decide (100 ≤ ohms) && decide (ohms ≤ 250)) && !latchPressed ohms && !decide (4500 < ohms)

/-- The protocols the module offers, in its order (R102): 1 DIN SPEC 70121, 2 ISO 15118-2, 3 ISO 15118-20. -/
def protocolsOffered (s : State) (n : Nat) : List Nat :=
  let order := if s.flag R.OUT_CFG_PROTO_ORDER n then [2, 3, 1] else [3, 2, 1]
  order.filter fun p => if p = 1 then s.isDc n && s.flag R.OUT_CFG_DIN_EN n
    else if p = 2 then s.flag R.OUT_CFG_ISO2_EN n else s.flag R.OUT_CFG_ISO20_EN n

/-- High-level communication failed while NEGOTIATING (R98): an AC outlet with BASIC_FALLBACK goes on in basic mode,
once it is authorised; any other session ends HLC_ERROR. (DESIGN CHOICE, log 54) -/
def hlcFailed (s : State) (n : Nat) : State :=
  if (s.outlet n).st != .negotiating then s
  else if !s.isDc n && s.flag R.OUT_CFG_BASIC_FALLBACK n then
    (((s.wr R.OUT_STAT_PROTO n 0).wr R.OUT_STAT_DIR n 0).modOutlet n fun o => { o with
      hlcRunning := false, discovered := true }).goReady n
  else s.endSession n eHLC_ERROR

/-- The vehicle's identity, EVCCID or vehicle MAC, in the credential store (R112, R378). -/
def vehicleAuth (s : State) (n : Nat) (evccid : List Byte) : State :=
  let h := identHash evccid
  let found := match s.credLookup 4 h n with
    | .unknown => s.credLookup 5 h n
    | a => a
  match found with
  | .ok i r => s.authorise n (.ofRec 4 i r)
  | .blocked _ _ => s.raise Ev.AUTH_RESULT n [n, 4, h, 2]
  | .unknown => s.raise Ev.AUTH_RESULT n [n, 4, h, 1]

/-- The contract certificate of Plug & Charge (R112, R115); a record of the contract gives its terms (R377).
(DESIGN CHOICE, log 60) -/
def contractAuth (s : State) (n : Nat) (ident : List Byte) (valid : Bool) (ocsp : Nat) : State :=
  let h := identHash ident
  let known := if s.credUp then s.credLookup 3 h n else .unknown
  if !s.flag R.OUT_CFG_PNC_EN n || (s.outlet n).ident.isSome || (s.outlet n).st != .negotiating then s
  else if !valid then (s.raise Ev.AUTH_RESULT n [n, 3, h, 4]).endSession n eAUTH_FAIL
  else if ocsp = 1 || (ocsp = 2 && s.flag R.OUT_POLICY_PNC_OCSP) then
    (s.raise Ev.AUTH_RESULT n [n, 3, h, 5]).endSession n eAUTH_FAIL
  else match known with
    | .blocked _ _ => (s.raise Ev.AUTH_RESULT n [n, 3, h, 2]).endSession n eAUTH_FAIL
    | .ok i r => s.authorise n (.ofRec 3 i r)
    | .unknown => s.authorise n (.plain 3 3 h)

/-- TLS of a session set-up is what the protocol supports and the module requires (R101, R103): none on DIN SPEC 70121,
always on ISO 15118-20, and on ISO 15118-2 where TLS_REQ asks for it; its keys must be held. -/
def tlsOk (s : State) (n : Nat) (tls : Bool) : Bool :=
  match s.rd R.OUT_STAT_PROTO n with
  | 1 => !tls
  | p => if tls then s.drbgOk && s.keyMode == 2 else p != 3 && !s.flag R.OUT_CFG_TLS_REQ n

/-- The vehicle stops its session (R98, R100, R124): MSTOP in ENERGY, and in a pause of the same control cycle or of a
protocol that pauses with its contactors closed. Any other pause opens the contactors on PowerDelivery Stop. -/
def evStop (s : State) (n : Nat) (delivery : Bool) : State :=
  let o := s.outlet n
  let held := s.isDc n && (s.rd R.OUT_STAT_PROTO n == 1 || s.rd R.OUT_STAT_PROTO n == 2)
  match o.st with
  | .energy => s.stopSession n eEV_STOP
  | .paused =>
    if held || s.mtb / 10 ^ 6 = o.pausedAt / 10 ^ 6 then s.stopSession n eEV_STOP
    else if delivery then (s.openOutlet n 0).modOutlet n fun o => { o with pauseOpenDue := none }
    else s
  | _ => s

/-- The current limit that holds for a vehicle's demand now: the allocation's, or the ramp's while one runs (R125). -/
def demandLimit (s : State) (n : Nat) : Nat :=
  match (s.outlet n).dcRamp with
  | some r => rampAt r s.mtb
  | none => s.dcLimit n (s.rd R.OUT_ALLOC_STAT_ALLOC_W n)

/-- A V2G message and the session machine (R98, R101 to R104, R124, R164). Parts that the table of R101 does not give a
protocol have no effect. (DEDUCED, log 226) -/
def hlcMessage (s : State) (n : Nat) (msg : HlcMsg) : State :=
  let o := s.outlet n
  let proto := s.rd R.OUT_STAT_PROTO n
  match msg with
  | .protocols prios =>
    if o.st != .negotiating then s else
    let ours := s.protocolsOffered n
    let pick := if prios = [] then ours.head? else prios.find? fun p => ours.contains p
    match pick with
    | some p => s.wr R.OUT_STAT_PROTO n p
    | none => s.hlcFailed n
  | .sessionSetup tls evccid =>
    if o.st != .negotiating then s
    else if !s.tlsOk n tls then (if proto = 1 then s.hlcFailed n else s.endSession n eTLS_FAIL)
    else
      let s := s.modOutlet n fun o => { o with tls := tls }
      if o.ident.isNone && s.flag R.OUT_CFG_EIM_EN n && s.credUp then s.vehicleAuth n evccid else s
  | .contract ident valid ocsp => if proto = 1 then s else s.contractAuth n ident valid ocsp
  | .discovery maxW discharge =>
    let dir := discharge && s.flag R.OUT_CFG_BIDIR n && proto == 3
    let s := if o.st == .negotiating then s.wr R.OUT_STAT_DIR n (b2n dir) else s
    (s.modOutlet n fun o => { o with vehicleMaxW := maxW, discovered := true }).goReady n
  | .cableCheck dv =>
    if o.st == .ready && s.isDc n then
      let s := s.modOutlet n fun o => { o with cableCheck := some (0, s.mtb + 10 * 10 ^ 9), wantsEnergy := true }
      s.stageSet n { o.setPoint with mode := 3, decivolts := dv }
    else s
  | .preCharge dv => if s.isDc n then s.stageSet n { o.setPoint with mode := 1, decivolts := dv } else s
  | .powerDeliveryStart =>
    if o.st == .ready && !s.isDc n then s.modOutlet n fun o => { o with wantsEnergy := true }
    else if o.st == .energy && s.isDc n then s.stageSet n { o.setPoint with mode := 1 + s.rd R.OUT_STAT_DIR n }
    else s
  | .powerDeliveryStop => s.evStop n true
  | .sessionStop => s.evStop n false
  | .currentDemand dv da =>
    if o.st == .energy && s.isDc n then
      s.stageSet n ⟨1 + s.rd R.OUT_STAT_DIR n, dv, min da (s.demandLimit n),
        min 65535 (s.rd R.OUT_ALLOC_STAT_ALLOC_W n / 10)⟩
    else s
  | .schedule es =>
    if proto != 2 then s
    else if es.length ≤ 24 then s.modOutlet n fun o => { o with schedule := es } else s.hlcFailed n
  | .controlMode d => if proto = 3 then s.modOutlet n fun o => { o with dynamic := d } else s
  | .certRequest kind len =>
    if proto != 2 then s else
    (s.modOutlet n fun o => { o with certAsked := true }).raise Ev.CERT_RELAY n [n, kind, len]
  | .error => s.hlcFailed n

/-- A change of TYPE, BIDIR, CTRL, MP or RATED_A, by an image of OUT[n].CFG (R89). -/
def cfgChangesLive (s : State) (n cfg : Nat) : Bool :=
  [R.OUT_CFG_TYPE, R.OUT_CFG_BIDIR, R.OUT_CFG_CTRL, R.OUT_CFG_MP, R.OUT_CFG_RATED_A].any fun F =>
    imageField F cfg != s.rd F n

/-- The fields of OUT[n].CFG. -/
def outCfgFields : List Fld :=
  [R.OUT_CFG_TYPE, R.OUT_CFG_BIDIR, R.OUT_CFG_CTRL, R.OUT_CFG_PP_MODE, R.OUT_CFG_TETHERED, R.OUT_CFG_TAG_REQ,
   R.OUT_CFG_FREE_VEND, R.OUT_CFG_MP, R.OUT_CFG_RATED_A, R.OUT_CFG_CLASS, R.OUT_CFG_BASIC_FALLBACK, R.OUT_CFG_ZC_CLOSE,
   R.OUT_CFG_DIN_EN, R.OUT_CFG_ISO2_EN, R.OUT_CFG_ISO20_EN, R.OUT_CFG_EIM_EN, R.OUT_CFG_PNC_EN, R.OUT_CFG_TLS_REQ,
   R.OUT_CFG_PROTO_ORDER, R.OUT_CFG_DC_MIN, R.OUT_CFG_MAX]

/-- The fields of OUT[n].DC_CFG. -/
def outDcFields : List Fld :=
  [R.OUT_DC_CFG_BUS, R.OUT_DC_CFG_PM_COUNT, R.OUT_DC_CFG_PM_BASE, R.OUT_DC_CFG_VMAX, R.OUT_DC_CFG_IMAX]

/-- A meter point already serves another outlet (R87). (DESIGN CHOICE, log 37) -/
def mpTaken (s : State) (n m : Nat) : Bool :=
  (List.range 8).any fun j => j != n && s.outType j != 0 && s.rd R.OUT_CFG_MP j == m

/-- What a change of configuration does at once: a DISABLED outlet goes to state F (R85); the session machine of one under
host control is in IDLE, with its cap reserved (R88), but that of a cable at its end of life (R117).
(DEDUCED, log 217) -/
def cfgApplied (s : State) (n : Nat) : State :=
  let s := if s.outType n = 0 then s.offer n .stateF else s
  let o := s.outlet n
  if o.st.live then s
  else if s.hostControlled n then
    let eol := s.flag R.OUT_CFG_TETHERED n && s.flag R.TAG_CABLE_EOL n
    let s := s.modOutlet n fun o => { o with vehicleMaxW := 0, usedPhases := 0, followCap := none, tagRating := none }
    let s := if o.st == .ended || o.st == .fault || (o.st == .outOfService && !eol) then s.setSess n .idle 0 0 else s
    s.reserveHost n
  else (s.wr R.OUT_ALLOC_STAT_ALLOC_W n 0).wr R.OUT_ALLOC_STAT_ENF_W n 0

end State

/-- PILOT_STATE_ACCEPT (R91): FILT_PER consecutive periods agree. -/
def execPilotStateAccept (t n : Nat) (s : State) : Host.Outcome State Fault Refusal :=
  .next (onEvent s t fun s =>
    let o := s.outlet n
    match o.cand with
    | some p => if s.rd R.OUT_POLICY_FILT_PER ≤ o.agree && p != o.pilot && n < 8 then s.acceptPilot n p else s
    | none => s)

/-- PILOT_DIODE_FAULT (R92). -/
def execPilotDiodeFault (t n : Nat) (s : State) : Host.Outcome State Fault Refusal :=
  .next (onEvent s t fun s =>
    let o := s.outlet n
    if 3 ≤ o.badLow || 10 ≤ o.noAccept then
      let s := s.wr R.OUT_STAT_DIODE_FAULT n 1
      let s := s.modOutlet n fun o => { o with badLow := 0, noAccept := 0 }
      if o.st.live then s.faultSession n ePILOT_FAULT else s
    else s)

/-- PILOT_PWM_PERIOD (R93): a period of 1 ms, each edge within 1 µs of its ideal position, ends; it is judged, and a staged
output takes effect. Levels in 10 mV. -/
def execPilotPwmPeriod (t n : Nat) (high low : Int) (s : State) : Host.Outcome State Fault Refusal :=
  .next (onEvent s t fun s =>
    if s.mtb < (s.outlet n).periodAt + 998000 then s else
    let s := (s.judgePeriod n high low).modOutlet n fun o => { o with periodAt := s.mtb }
    let s := if s.muted then s else { s with twin := { s.twin with pilotsOff := clearBit s.twin.pilotsOff n } }
    match (s.outlet n).outNext with
    | some p => if (s.os n).safeSince.isSome then s.modOutlet n fun o => { o with outNext := none } else s.setOut n p
    | none => s)

/-- PROXIMITY_READ (R96, R97). A twin that is not active has no excitation and takes the proximity from the copy (table
Twin wiring). -/
def execProximityRead (t n ohms : Nat) (s : State) : Host.Outcome State Fault Refusal :=
  .next (onEvent s t fun s =>
    if s.muted then s else
    let mode := s.rd R.OUT_CFG_PP_MODE n
    let (rating, invalid) := if mode = 1 then State.decodeCable ohms (s.outType n == 2)
      else if mode = 2 then (none, State.latchInvalid ohms) else (none, false)
    let was := (s.outlet n).ppInvalid
    let s := s.modOutlet n fun o => { o with ppRating := rating, ppInvalid := invalid }
    let s := s.wr R.OUT_STAT_CABLE_A n (min 255 (s.cableLimit n))
    let s := if invalid && !was then s.raise Ev.CABLE_STATE n [n, 3, 0] else s
    let s := if invalid && (s.outlet n).st.live then s.offerW n 0 else s
    let o := s.outlet n
    if mode = 2 && State.latchPressed ohms && o.st == .energy then s.stopSession n eEV_STOP
    else if o.st == .energy && s.capW n < s.rd R.OUT_ALLOC_STAT_ALLOC_W n then
      s.applyAlloc n (s.capW n) s.out.lastEffective
    else s)

/-- AUTH_TIMEOUT (R98). -/
def execAuthTimeout (t n : Nat) (s : State) : Host.Outcome State Fault Refusal :=
  .next (onEvent s t fun s =>
    let o := s.outlet n
    match o.authDue with
    | some due =>
      if due ≤ s.mtb && o.ident.isNone && (o.st == .connected || o.st == .negotiating) then s.endSession n eNO_AUTH else s
    | none => s)

/-- HLC_MESSAGE (R102, R103): a message of the chosen protocol, while the protocol runs. -/
def execHlcMessage (t n : Nat) (msg : HlcMsg) (s : State) : Host.Outcome State Fault Refusal :=
  .next (onEvent s t fun s => if (s.outlet n).hlcRunning && n < 8 then s.hlcMessage n msg else s)

/-- HLC_TIMEOUT (R98, R102). -/
def execHlcTimeout (t n : Nat) (s : State) : Host.Outcome State Fault Refusal :=
  .next (onEvent s t fun s => if (s.outlet n).hlcRunning then s.hlcFailed n else s)

/-- PREAUTH_TIMEOUT (R113). -/
def execPreauthTimeout (t : Nat) (s : State) : Host.Outcome State Fault Refusal :=
  .next (onEvent s t fun s =>
    match s.out.card with
    | some c => if c.until_ ≤ s.mtb then { s with out := { s.out with card := none } } else s
    | none => s)

/-- OUT_CONFIG (R85, R87, R89, R516). -/
def execOutConfig (x : Ctx) (n cfg dc : Nat) (s : State) : Host.Outcome State Fault Refusal :=
  .next (s.command x Op.OUT_CONFIG n none fun s =>
    if 8 ≤ n then s.complete x St.BAD_PARAM
    else if (s.outlet n).st.live && s.cfgChangesLive n cfg then s.complete x St.SESSION_LIVE
    else if State.outCfgFields.any (fun F => !State.inRange F (State.imageField F cfg))
        || State.outDcFields.any (fun F => !State.inRange F (State.imageField F dc))
        || s.mpTaken n (State.imageField R.OUT_CFG_MP cfg) then
      s.complete x St.BAD_PARAM
    else
      let s := forEach State.outCfgFields (fun F s => s.wrSave F n (State.imageField F cfg)) s
      let s := forEach State.outDcFields (fun F s => s.wrSave F n (State.imageField F dc)) s
      (s.cfgApplied n).complete x St.OK)

/-- OUT_AVAILABILITY (R98, R117). -/
def execOutAvailability (x : Ctx) (n mode : Nat) (s : State) : Host.Outcome State Fault Refusal :=
  .next (s.command x Op.OUT_AVAILABILITY n none fun s =>
    let o := s.outlet n
    if 8 ≤ n || 3 ≤ mode then s.complete x St.BAD_PARAM
    else if mode = 0 then
      if s.keyMode = 4 then s.complete x St.OUT_OOS
      else if s.flag R.OUT_CFG_TETHERED n && (s.flag R.TAG_CABLE_EOL n || s.rd R.TAG_CABLE_STATE n == 2) then (s.cableRebind n).complete x St.OUT_OOS
      else
        let s := s.modOutlet n fun o => { o with oosAfter := false, eol := false }
        let s := if o.st == .outOfService then
            ((s.cableRebind n).offer n .plus12).setSess n .idle 0 0 else s
        s.complete x St.OK
    else
      let s := s.modOutlet n fun o => { o with oosAfter := true }
      let s :=
        if o.st.live then
          if mode = 2 && (o.st == .ready || o.st == .energy || o.st == .paused) then s.stopSession n eHOST_OOS
          else if mode = 2 && o.st != .stopping then (s.caskSafety n).endOrWait n eHOST_OOS
          else s
        else if s.hostControlled n then (if mode = 2 then (s.caskSafety n).stopHosted n eHOST_OOS else s)
        else if o.st == .idle then (s.offer n .stateF).setSess n .outOfService eHOST_OOS 0
        else s
      s.complete x St.OK)

/-- SESSION_AUTHORISE (R112, R113). -/
def execSessionAuthorise (x : Ctx) (n kind : Nat) (ident : List Byte) (s : State) :
    Host.Outcome State Fault Refusal :=
  .next (s.command x Op.SESSION_AUTHORISE n none fun s =>
    let i := Identity.plain 2 kind (identHash ident)
    if 32 < ident.length || (8 ≤ n && n != 0xFF) then s.complete x St.BAD_PARAM
    else if n = 0xFF then
      if !(List.range 8).any fun k => s.flag R.OUT_CFG_EIM_EN k && s.outType k != 0 then s.complete x St.AUTH_POLICY
      else ({ s with out := { s.out with
        card := some ⟨i, s.mtb + 10 ^ 9 * s.rd R.OUT_POLICY2_PREAUTH_S, none, false⟩ } } : State).complete x St.OK
    else if !s.flag R.OUT_CFG_EIM_EN n then s.complete x St.AUTH_POLICY
    else if (s.outlet n).ident.isSome then s.complete x St.ALREADY_AUTHORISED
    else if (s.outlet n).st != .connected && (s.outlet n).st != .negotiating then s.complete x St.NO_SESSION
    else (s.authorise n i).complete x St.OK)

/-- A stop request reaches one outlet (R98, R100). -/
def State.stopOne (s : State) (n : Nat) : State :=
  match (s.outlet n).st with
  | .ready => s.stopSession n eHOST_STOP
  | .energy => s.stopSession n eHOST_STOP
  | .paused => s.stopSession n eHOST_STOP
  | .closing => (s.caskSafety n).endOrWait n eHOST_STOP
  | _ => s

/-- An outlet under host control on which a stop request has something to stop (R72, R76, R88): closed contactors, an open
ledger session, or a Cask that is not done. -/
def State.hostedLive (s : State) (n : Nat) : Bool :=
  s.hostControlled n && (s.closed n || (s.lsess n).opened || (List.range 16).any fun k =>
    ((s.slot k).abortable || (s.slot k).st == .recorded) && (s.slot k).acts.any fun a => actOutlet a == some n)

/-- The effect of SESSION_STOP on the outlets of a mask (R72, R76, R100), and its status. An outlet under host control
stops as its session would. (DEDUCED, log 221) -/
def State.sessionStop (s : State) (mask : Nat) : Nat × State :=
  let ns := (List.range 8).filter (bit mask ·)
  let can := fun n => match (s.outlet n).st with
    | .ready => true | .energy => true | .paused => true | .closing => true | _ => false
  let stopping := ns.any fun n => (s.outlet n).st == .stopping
  let hosted := ns.filter s.hostedLive
  if ns.any can || hosted != [] then
    let s := forEach hosted (fun n s => (s.caskSafety n).stopHosted n eHOST_STOP) s
    (St.OK, forEach (ns.filter can) (fun n s => (s.caskSafety n).stopOne n) s)
  else (if stopping then St.STOPPING else St.NO_SESSION, s)

/-- The effect of OUT_EREM on the outlets of a mask (R167). -/
def State.outErem (s : State) (mask : Nat) : State :=
  forEach ((List.range 8).filter (bit mask ·)) (fun n s =>
    let s := s.erem n 0
    if (s.outlet n).st.live then s.faultSession n eHOST_EREM else s) s

/-- SESSION_STOP (R100): stop-class. On a twin that is not ACTIVE it is forwarded (R487); `peer` is the status that the
active module then returns. -/
def execSessionStop (x : Ctx) (mask peer : Nat) (s : State) : Host.Outcome State Fault Refusal :=
  .next (s.command x Op.SESSION_STOP 0xFF none fun s =>
    if s.reserveRole then s.forwardStop x Op.SESSION_STOP mask peer else
    let (st, s) := s.sessionStop mask
    s.complete x st)

/-- OUT_EREM (R100, R167): stop-class; `peer` as for SESSION_STOP. -/
def execOutErem (x : Ctx) (mask peer : Nat) (s : State) : Host.Outcome State Fault Refusal :=
  .next (s.command x Op.OUT_EREM 0xFF none fun s =>
    if s.reserveRole then s.forwardStop x Op.OUT_EREM mask peer else (s.outErem mask).complete x St.OK)

/-- OUT_SITE_LIMIT (R122, R516). -/
def execOutSiteLimit (x : Ctx) (watts : Nat) (s : State) : Host.Outcome State Fault Refusal :=
  .next (s.command x Op.OUT_SITE_LIMIT 0xFF none fun s =>
    if 2 ^ 32 ≤ watts then s.complete x St.BAD_PARAM
    else (s.wrSave R.OUT_SITE_HOST_LIMIT_W 0 watts).complete x St.OK)

/-- SESSION_SET_CLASS (R123). -/
def execSessionSetClass (x : Ctx) (n cls : Nat) (s : State) : Host.Outcome State Fault Refusal :=
  .next (s.command x Op.SESSION_SET_CLASS n none fun s =>
    if 8 ≤ n || 4 ≤ cls then s.complete x St.BAD_PARAM
    else if !(s.outlet n).st.live then s.complete x St.NO_SESSION
    else (s.modOutlet n fun o => { o with class_ := cls }).complete x St.OK)

/-- SESSION_QUERY. -/
def execSessionQuery (x : Ctx) (n : Nat) (s : State) : Host.Outcome State Fault Refusal :=
  .next (s.command x Op.SESSION_QUERY n none fun s =>
    if 8 ≤ n then s.complete x St.BAD_PARAM
    else s.complete x St.OK (s.rd R.OUT_STAT_SESSION_ID n + 2 ^ 32 * (s.outlet n).st.code
      + 2 ^ 40 * s.rd R.OUT_STAT_END_REASON n + 2 ^ 48 * s.rd R.OUT_ALLOC_STAT_ALLOC_W n))

/-- OUT_SELECT (R113). -/
def execOutSelect (x : Ctx) (n : Nat) (s : State) : Host.Outcome State Fault Refusal :=
  .next (s.command x Op.OUT_SELECT n none fun s =>
    match s.out.card with
    | none => s.complete x St.NO_SESSION
    | some c =>
      if 8 ≤ n then s.complete x St.BAD_PARAM
      else if !s.sourceOn n c.ident then s.complete x St.AUTH_POLICY
      else if s.unauthorised.contains n then
        (({ s with out := { s.out with card := none } } : State).authoriseCard n c.ident).complete x St.OK
      else ({ s with out := { s.out with card := some { c with for_ := some n } } } : State).complete x St.OK)

/-- OUT_CONTACTOR (R74, R88, R159): under host control; a close awaits the self-test before it, and then needs the consent of
channel A, and channel B's. An open ends a close that waits. (DESIGN CHOICE, log 231) -/
def execOutContactor (x : Ctx) (n : Nat) (close : Bool) (s : State) : Host.Outcome State Fault Refusal :=
  .next (s.command x Op.OUT_CONTACTOR n (some (.contactor n close)) fun s =>
    if 8 ≤ n then s.complete x St.BAD_PARAM
    else if !s.hostControlled n then s.complete x St.OUT_AUTO
    else if !close then ((s.dropClose n).openOutlet n 0).complete x St.OK
    else if s.closed n then s.complete x St.OK
    else (s.testSensor n).modOutlet n fun o => { o with hostClose := o.hostClose ++ [x] })

/-- OUT_PILOT_DUTY (R74, R88, R94). A DISABLED outlet holds its pilot at state F whatever the duty (R85).
(DESIGN CHOICE, log 216) -/
def execOutPilotDuty (x : Ctx) (n duty : Nat) (s : State) : Host.Outcome State Fault Refusal :=
  .next (s.command x Op.OUT_PILOT_DUTY n (some (.pilotDuty n duty)) fun s =>
    if 8 ≤ n || State.dutyBad duty then s.complete x St.BAD_PARAM
    else if !s.hostControlled n then s.complete x St.OUT_AUTO
    else match s.refusedNow (.pilotDuty n duty) with
      | some (_, r) => (s.raise Ev.CONSENT_REFUSED n [n, r]).complete x St.CONSENT_REFUSED
      | none => (s.offer n (State.dutyOut duty)).complete x St.OK)

/-- OUT_PM_SETPOINT (R74, R86, R88). -/
def execOutPmSetpoint (x : Ctx) (n mode volts amps watts : Nat) (s : State) : Host.Outcome State Fault Refusal :=
  .next (s.command x Op.OUT_PM_SETPOINT n (some (.pmSetpoint n mode volts amps watts)) fun s =>
    if 8 ≤ n || s.setBad n mode volts amps watts then s.complete x St.BAD_PARAM
    else if !s.hostControlled n then s.complete x St.OUT_AUTO
    else match s.refusedNow (.pmSetpoint n mode volts amps watts) with
      | some (_, r) => (s.raise Ev.CONSENT_REFUSED n [n, r]).complete x St.CONSENT_REFUSED
      | none => (s.stageSet n ⟨mode, volts, amps, watts⟩).complete x St.OK)

/-- OUT_CERT_RESPONSE (R104): forged material is dropped, and the request still waits; genuine material is forwarded to a
vehicle that asked. `valid` is the outcome of checking the signatures of the returned material. -/
def execOutCertResponse (x : Ctx) (n : Nat) (valid : Bool) (data : List Byte) (s : State) :
    Host.Outcome State Fault Refusal :=
  .next (s.command x Op.OUT_CERT_RESPONSE n none fun s =>
    if 8 ≤ n then s.complete x St.BAD_PARAM
    else if !valid then (s.raise Ev.AUTH_RESULT n [n, 3, 0, 4]).complete x St.OK
    else if !(s.outlet n).certAsked then s.complete x St.OK
    else (s.modOutlet n fun o => { o with
        certAsked := false, certForwarded := Config.hash (data.map (·.toNat)) }).complete x St.OK)

end Sys2Proof.Machine
end

