-- ==== Sys2Proof/Machine/PowerOps.lean ====
section
/-! DEFINITION. What the monitors of the supply act on (R493, R501 to R505). -/

namespace Sys2Proof.Machine
namespace State

/-! ### The clock -/

/-- RTC_VALID is cleared (R293, R493, R496): ledger time is held where it stands. (DESIGN CHOICE, log 119) -/
def loseClock (s : State) : State :=
  if !s.rtcValid then s else
  let led := s.ledgerMsAt s.mtb
  let s := { s with ledger := { s.ledger with ledgerHeld := led } }
  (s.wr R.GLOBAL_MTB_UTC_RTC_VALID 0 0).wr R.LEDGER_TIME_CLOCK_VALID 0 0

/-! ### Rails -/

/-- VFAIL in mV; without VBAT the power die uses 7.8 V until the setting is restored (R489). -/
def vfailMv (s : State) : Nat := if s.pwr.vbatLost then 7800 else 100 * s.rd R.PWR_CFG_VFAIL

/-- The UV and OV thresholds of a rail in mV (table Rail monitors). VCP_N is judged by its magnitude.
(DESIGN CHOICE, log 121) -/
def railLimits (s : State) : Nat → Nat × Nat
  | 0 => (s.vfailMv, 75000)
  | 1 => (2200, 3800)
  | 2 => (10800, 68000)
  | 7 => (760, 840)
  | 8 => (950, 1050)
  | 9 => (1710, 1890)
  | 10 => (3201, 3399)
  | 11 => (12096, 13104)
  | 12 => (12096, 13104)
  | 13 => (1000, 1300)
  | _ => (5500, 40000)

/-- VSTART in mV (R488). -/
def vstartMv (s : State) : Nat := max 8000 (s.vfailMv + 100 * s.rd R.PWR_CFG_HYST)

/-- The limits within which a rail with a nominal voltage counts as back, in mV (R504): 98 % of the margins of its thresholds; of
other rails the thresholds themselves. (DESIGN CHOICE, log 259) -/
def railInner (s : State) (r : Nat) : Nat × Nat :=
  let l := s.railLimits r
  let nom := match r with
    | 7 => some 800
    | 8 => some 1000
    | 9 => some 1800
    | 10 => some 3300
    | 11 => some 12600
    | 12 => some 12600
    | 13 => some 1200
    | _ => none
  match nom with
  | some n => (n - (n - l.1) * 98 / 100, n + (l.2 - n) * 98 / 100)
  | none => l

/-- A rail voltage in mV as its thresholds see it. (DESIGN CHOICE, log 121) -/
def railMag (r : Nat) (mv : Int) : Int := if r = 12 then -mv else mv

/-- A rail voltage is beyond a threshold: above OV, or below UV. -/
def railBeyond (s : State) (r : Nat) (ov : Bool) (mv : Int) : Bool :=
  let l := s.railLimits r
  if ov then decide ((l.2 : Int) < railMag r mv) else decide (railMag r mv < l.1)

/-- Show a rail's voltage; VIN and VBAT appear in PWR.STAT too. (DESIGN CHOICE, log 127) -/
def railShow (s : State) (r : Nat) (mv : Int) : State :=
  let s := s.wrInt R.PWR_RAIL_V_10MV r (mv / 10)
  if r = 0 then s.wr R.PWR_STAT_VIN_10MV 0 (mv / 10).toNat
  else if r = 1 then s.wr R.PWR_STAT_VBAT_MV 0 mv.toNat else s

/-- Whether samples of the metering channels arrive: PRESENT of every channel follows VANA (R504). -/
def vanaShow (s : State) : State :=
  let s := forEach (List.range 64) (fun c s =>
    let ok := !s.chAbsent c && !s.flag R.FILT_STAT_SETTLING c
    (s.setFlag R.AFE_CH_STAT_PRESENT c ok).setFlag R.FILT_STAT_PRESENT c ok) s
  s.trkRefreshAll.mpEvalAll

/-- The control die restarts after a failure (R496, R504): the Last pour steps run as far as they can, and where `whole`
they end with a marker; the loss of time until the next start is not recorded. -/
def failRestart (s : State) (cause : Nat) (feed : List Feed) (whole : Bool) : State :=
  let l := s.mtb
  let s := if whole then (s.pourSteps feed).wr R.LEDGER_STAT_LAST_POUR_OK 0 1 else s.wr R.LEDGER_STAT_LAST_POUR_OK 0 0
  let s := { s with pwr := { s.pwr with l := l, pourEnd := l } }
  let s := { s with ledger := { s.ledger with tStop := none } }
  s.softRestart cause

/-- What a rail out of limits does besides its event (table Rail monitors). (DESIGN CHOICE, log 121) -/
def railAct (s : State) (r : Nat) (ov : Bool) (mv : Int) (feed : List Feed) (whole : Bool) : State :=
  match r with
  | 0 => if ov || !s.up then s else s.lastPour feed
  | 1 => if ov then s else (s.wr R.PWR_STAT_VBAT_LOW 0 1).raise Ev.PWR_VBAT 0 [mv.toNat]
  | 2 => s
  | 7 => s.failRestart 2 feed whole
  | 8 => s.failRestart 2 feed whole
  | 9 => s.failRestart 2 feed whole
  | 10 => s.vanaShow
  | 11 => forEach ((List.range 8).filter fun n => s.outType n != 0) (fun n s => s.trip n fPILOT_E 0 s.mtb) s
  | 12 => forEach ((List.range 8).filter fun n => s.outType n != 0) (fun n s => s.trip n fPILOT_E 0 s.mtb) s
  | 13 => s.loseClock
  | _ => if ov || !s.up then s else s.vlsLow (r - 3) mv.toNat

/-- A rail passes a threshold (R504): the transition is counted and raised once, then its action follows. -/
def railFails (s : State) (r : Nat) (ov : Bool) (mv : Int) (feed : List Feed) (whole : Bool) : State :=
  if 14 ≤ r || !s.railBeyond r ov mv then s else
  let s := s.railShow r mv
  let F := if ov then R.PWR_RAIL_OV else R.PWR_RAIL_UV
  if s.flag F r then s else
  let s := ((s.wr F r 1).incSat R.PWR_RAIL_EVENTS r).raise Ev.PWR_RAIL 0 [r, if ov then 2 else 1, s.rd R.PWR_RAIL_V_10MV r]
  s.railAct r ov mv feed whole

/-- A rail is back within its limits (R504). -/
def railBack (s : State) (r : Nat) (mv : Int) : State :=
  if 14 ≤ r || !s.railOut r || decide (railMag r mv < (s.railInner r).1) || decide (((s.railInner r).2 : Int) < railMag r mv) then s else
  let s := ((s.railShow r mv).wr R.PWR_RAIL_UV r 0).wr R.PWR_RAIL_OV r 0
  let s := s.raise Ev.PWR_RAIL 0 [r, 0, s.rd R.PWR_RAIL_V_10MV r]
  if r = 1 then s.wr R.PWR_STAT_VBAT_LOW 0 0 else if r = 10 then s.vanaShow else s

/-! ### Temperature -/

/-- The level a temperature in °C stands for on a sensor (R505): power-die and flash sensors have none.
(DESIGN CHOICE, log 123) -/
def tempLevel (s : State) (k : Nat) (c : Int) : Nat :=
  if 5 ≤ k then 0
  else if 125 ≤ c then 3
  else if 115 ≤ c then 2
  else if s.rd R.PWR_CFG_TEMP_WARN ≤ c then 1 else 0

/-- SHUT (R505): every live outlet stops with end reason SAFETY_TRIP, by MSTOP where it transfers energy.
(DESIGN CHOICE, log 123) -/
def shutOutlets (s : State) : State :=
  forEach (List.range 8) (fun n s =>
    match (s.outlet n).st with
    | .ready => s.stopSession n eSAFETY_TRIP
    | .energy => s.stopSession n eSAFETY_TRIP
    | .paused => s.stopSession n eSAFETY_TRIP
    | .stopping => s
    | st => if st.live then s.endSession n eSAFETY_TRIP else s) s

/-- Channel B turns off every low-side switch, and restores nothing (R505). (DESIGN CHOICE, log 123) -/
def lowSidesOff (s : State) : State :=
  let s := forEach (List.range 8) (fun n s => s.noteOpening n) s
  forEach (List.range 16) (fun k s => s.modCoil k fun c => { c with
    ls := false, waiting := false, phase := if c.phase == .fault then .fault else .off }) s

/-- A temperature reading of a die sensor (R505). (DESIGN CHOICE, log 123) -/
def tempTaken (s : State) (k : Nat) (c : Int) : State :=
  if 9 ≤ k then s else
  let code := min 255 (c + 50).toNat
  let old := s.rd R.PWR_TEMP_LEVEL k
  let new := s.tempLevel k c
  let s := (s.wr R.PWR_TEMP_T k code).wr R.PWR_TEMP_T_MAX k (max code (s.rd R.PWR_TEMP_T_MAX k))
  let s := if new = old then s else (s.wr R.PWR_TEMP_LEVEL k new).raise Ev.PWR_TEMP 0 [k, new, enc 16 c]
  let s := if old = 0 && new != 0 then s.alert R.GLOBAL_ALERT_TEMP else s
  let s := if 2 ≤ new then s.wr R.PWR_STAT_THROTTLE 0 1 else s
  let s := if new = 3 && !s.flag R.PWR_STAT_SHUT then
      let s := s.wr R.PWR_STAT_SHUT 0 1
      let s := { s with safe := { s.safe with shut := true } }
      s.shutOutlets
    else s
  let s := if 5 ≤ k && k ≤ 7 && decide (145 ≤ c) then s.lowSidesOff else s
  if (s.flag R.PWR_STAT_THROTTLE || s.flag R.PWR_STAT_SHUT) && (List.range 9).all fun i => decide (s.rd R.PWR_TEMP_T i ≤ 160) then
    let s := (s.wr R.PWR_STAT_THROTTLE 0 0).wr R.PWR_STAT_SHUT 0 0
    ({ s with safe := { s.safe with shut := false } } : State).dispWake
  else s

/-! ### Power states -/

/-- METER may be entered (R501). (DESIGN CHOICE, log 20, 124) -/
def meterMay (s : State) : Bool :=
  (List.range 8).all (fun n => [SessState.idle, .disabled, .outOfService].contains (s.outlet n).st)
    && s.rd R.TWIN_STAT_ROLE == 0 && s.rd R.UPD_STAT_STATE == 0

/-- Enter METER (R501): MODEM-A and MODEM-B stop, MODEM-C unless Trellis is enabled, and the matrix after its regions.
(DESIGN CHOICE, log 20, 124) -/
def enterMeter (s : State) : State :=
  let s := (s.islandStop 6).islandStop 7
  let s := if s.flag R.PLC_TRELLIS_CFG_EN then s else s.islandStop 8
  ((s.wr R.PWR_STAT_MODE 0 1).meterDisp).raise Ev.PWR_MODE_CHG 0 [0, 1, 0]

/-- What wakes the module from METER is there (R502): 1 an enabled outlet's pilot has left state A, 2 a card was handed
over, 4 a temperature level. -/
def wakeHolds (s : State) (cause : Nat) : Bool :=
  match cause with
  | 1 => (List.range 8).any fun n => s.outType n != 0 && (s.outlet n).st != .disabled && (s.outlet n).pilot != .a
  | 2 => s.tag.handed != []
  | 4 => (List.range 9).any fun k => s.rd R.PWR_TEMP_LEVEL k != 0
  | _ => false

/-- The fields of PWR.STAT. -/
def pwrStatFields : List Fld :=
  [R.PWR_STAT_VIN_10MV, R.PWR_STAT_RESTART_CAUSE, R.PWR_STAT_MODE, R.PWR_STAT_MTB_HOLDOVER, R.PWR_STAT_THROTTLE,
   R.PWR_STAT_SHUT, R.PWR_STAT_VBAT_LOW, R.PWR_STAT_VBAT_MV]
/-- The fields of PWR.CLK. -/
def pwrClkFields : List Fld :=
  [R.PWR_CLK_XTAL49_OK, R.PWR_CLK_XTAL25_OK, R.PWR_CLK_XTAL32_OK, R.PWR_CLK_REFCLK_OK, R.PWR_CLK_RTC_FALLBACK,
   R.PWR_CLK_XTAL49_FAILS, R.PWR_CLK_XTAL32_FAILS]

end State
end Sys2Proof.Machine
end

