-- ==== Sys2Proof/Machine/Safe.lean ====
section
/-! DEFINITION. The events and commands of the two safety channels (05_safety_earth_fault.md): channel B's cycle, how
the channels watch each other, E-stop, safety inputs, insulation, safe states and RESET_SAFE, and the SAFE commands. -/

namespace Sys2Proof.Machine
namespace State

/-! ### The status register -/

/-- One bit per outlet for which a condition holds. -/
def outMask (p : Nat → Bool) : Nat := (List.range 8).foldl (fun m n => m + if p n then 2 ^ n else 0) 0

/-- SAFE.STATUS.MOD_LATCH (R171): the module faults 1 to 6 at bits 0 to 5, COIL_UNCONTROL at bit 6. -/
def modLatchBits (s : State) : Nat :=
  bits s.safe.modLatched 1 6 + if bit s.safe.modLatched fCOIL_UNCONTROL then 64 else 0

/-- SAFE.STATUS as one number. -/
def safeStatus (s : State) : Nat :=
  2 ^ 31 * s.rd R.SAFE_STATUS_SAFE_OK + 2 ^ 30 * s.rd R.SAFE_STATUS_A_RUN + 2 ^ 29 * s.rd R.SAFE_STATUS_B_RUN
    + 2 ^ 28 * s.rd R.SAFE_STATUS_TABLE_OK + 2 ^ 27 * s.rd R.SAFE_STATUS_SELFTEST_OK + 2 ^ 26 * s.rd R.SAFE_STATUS_SHUNT
    + 2 ^ 16 * outMask (fun n => (s.os n).active != 0) + 2 ^ 8 * outMask (fun n => (s.os n).latched != 0)
    + s.modLatchBits

/-! ### Channel B's cycle -/

/-- Channel B's pilot filter for one outlet (R91): a state is accepted after PILOT_FILT_B agreeing samples; that many
samples below +1.5 V trip PILOT_E, while state F is not driven (R90). At state A after a residual-current trip, also
where it was accepted before, the self-test of R161 starts. -/
def pilotB (s : State) (n : Nat) (level : Int) : State :=
  if s.outType n = 0 || s.drivenF n then s.modOs n fun o => { o with candB := none, agreeB := 0, lowB := 0 }
  else
    let p := pilotOf level
    let s := s.modOs n fun o =>
      let agree := if p.isSome then (if o.candB = p then o.agreeB + 1 else 1) else 0
      { o with candB := p, agreeB := agree, lowB := if level < 150 then o.lowB + 1 else 0 }
    let o := s.os n
    let s := match p with
      | some q =>
        if s.safe.pilotFiltB ≤ o.agreeB then
          let s := s.modOs n fun o => { o with pilotB := q }
          if q == .a && !s.closed n && [8, 9, 10, 11].any (bit o.active ·) && (o.wantTest || o.pilotB != q) then
            (s.modOs n fun o => { o with wantTest := false }).testSensor n else s
        else s
      | none => s
    if s.safe.pilotFiltB ≤ o.lowB then s.trip n fPILOT_E 1 s.mtb else s

/-- Channel B reads back every switch (R131): a low side whose high side is off is turned off. -/
def followHigh (s : State) (k : Nat) : State :=
  let c := s.coil k
  if !c.hs && c.ls && c.phase != .hsTest then
    s.modCoil k fun c => { c with ls := c.stuckLs, phase := if c.phase == .fault then .fault else .off } else s

/-- The trip cause of an outlet in channel B's decision vector: its lowest active fault, else the module's, 0 for none
(R137). -/
def tripCause (s : State) (n : Nat) : Nat :=
  ((List.range 23).find? fun c => bit (s.os n).active c || bit s.safe.modActive c).getD 0

/-- The bytes of a heartbeat under its CRC-16, that of R119, which R137 does not name. (DESIGN CHOICE, log 235) -/
def beatBytes (b : Beat) : List Nat := leBytes 4 b.cycle ++ [b.permit % 256] ++ (List.range 8).map fun n => b.causes.getD n 0

/-- The heartbeat that channel B sends in a cycle (R137). -/
def formBeat (s : State) : State :=
  let b : Beat := ⟨s.safe.bCycles % 2 ^ 32, outMask s.lowAllowed, (List.range 8).map s.tripCause, 0⟩
  { s with safe := { s.safe with beat := { b with crc := crc16 (beatBytes b) } } }

/-- The mirror inputs as sampled (R145): with MIRROR_POL 0 a low input means that the main contacts are open. -/
def sampleMirrors (s : State) (mirrors : Nat) : State :=
  forEach (List.range 16) (fun k s => s.modCoil k fun c => { c with
    mirrorOpen := bit mirrors k == s.flag R.SAFE_COIL_CFG_MIRROR_POL k }) s

/-! ### Insulation -/

/-- A cable check fails (R164): energy is removed and the session ends. (DESIGN CHOICE, log 64) -/
def cableFailed (s : State) (n : Nat) : State :=
  let s := s.modOutlet n fun o => { o with cableCheck := none }
  if (s.outlet n).st.live then (s.erem n fIMD_FAULT).endSession n eSAFETY_REFUSED else s

/-- An insulation value in kΩ lies below a limit in Ω per volt of the outlet's highest voltage (R163). -/
def imdBelow (s : State) (n kohm : Nat) (F : Fld) : Bool := decide (1000 * kohm < s.rd F * s.rd R.OUT_DC_CFG_VMAX n)

/-- Two results in a row below the fault limit open the outlet (R163). -/
def imdCount (s : State) (n : Nat) (fault : Bool) : State :=
  let low := if fault then (s.os n).imdLow + 1 else 0
  let s := s.modOs n fun o => { o with imdLow := low }
  if 2 ≤ low then s.trip n fIMD_FAULT 0 s.mtb else s

/-- The test voltage of a cable check has settled (R164): the modules are in mode 3, and every live one puts out its voltage.
(DESIGN CHOICE, log 236) -/
def settledTest (s : State) (n : Nat) : Bool :=
  let o := s.outlet n
  let live := o.pms.filter fun p => !p.lost
  o.setPoint.mode == 3 && live != [] && live.all fun p =>
    decide (p.decivolts ≤ o.setPoint.decivolts + Config.settledDv) && decide (o.setPoint.decivolts ≤ p.decivolts + Config.settledDv)

/-- A result of the insulation monitor (R162 to R164): its class, the warning event, IMD_FAULT at the second result in
a row below the fault limit, and the cable check in progress. (DESIGN CHOICE, log 64) -/
def imdResult (s : State) (kohm : Nat) : State :=
  let n := s.rd R.SAFE_IMD_OUTLET
  let k := min kohm 10000
  let warn := s.imdBelow n k R.SAFE_IMD_WARN_OHM_V
  let fault := s.imdBelow n k R.SAFE_IMD_FAULT_OHM_V
  let r := if fault then 2 else if warn then 1 else 0
  let s := (s.wr R.SAFE_IMD_INS_KOHM 0 k).wr R.SAFE_IMD_RESULT 0 r
  let s := { s with safe := { s.safe with imdAt := some s.mtb } }
  let s := if warn then s.raise Ev.IMD_RESULT n [n, k, r] else s
  let s := s.imdCount n fault
  match (s.outlet n).cableCheck with
  | none => s
  | some (c, due) =>
    if !s.settledTest n then s
    else if fault then s.cableFailed n
    else s.modOutlet n fun o => { o with cableCheck := if 2 ≤ c then none else some (c + 1, due) }

/-! ### RESET_SAFE -/

/-- The cause of a latched module fault is still there (R172). -/
def modCause (s : State) (code : Nat) : Bool :=
  if code = fESTOP then s.safe.estopAOpen || s.safe.estopBOpen
  else if code = fESTOP_DISC then s.safe.estopAOpen != s.safe.estopBOpen || s.safe.estopChecked != 3
  else if code = fA_LOST then !s.flag R.SAFE_STATUS_B_RUN
  else if code = fB_LOST then !s.flag R.SAFE_STATUS_A_RUN
  else if code = fTABLE_FAIL then !s.flag R.SAFE_STATUS_TABLE_OK
  else if code = fCH_DISC then (match s.safe.disc with
    | some (c, n) => if c = fESTOP then (if n = 0 then s.safe.estopAOpen else s.safe.estopBOpen) else s.hasFault n c
    | none => false)
  else if code = fCOIL_UNCONTROL then (List.range 16).any s.coilOn
  else false

/-- The cause of a latched outlet fault is still there (R161, R172). (DESIGN CHOICE, log 67) -/
def outCause (s : State) (n code : Nat) : Bool :=
  if code = fRCM_REPEAT then !s.flag R.SAFE_RCM_STAT_SELFTEST_OK n || (rcmOver (s.rcmSens n) (s.os n).readings).any id
  else if code = fWELD then
    (s.coilsOf n).any (fun k => s.flag R.SAFE_COIL_CFG_MIRROR_EN k && !(s.coil k).mirrorOpen) || s.weldVoltage n
  else if code = fSAFE_INPUT then
    (List.range 8).any fun m => s.inServes 4 n m && s.inActive m
  else if code = fSWITCH_STUCK then (s.coilsOf n).any fun k => (s.coil k).stuckHs || (s.coil k).stuckLs
  else s.closed n

/-- Clear one latched fault of an outlet whose cause is gone; its coils leave the fault phase, and RCM_REPEAT restarts
the 24 h count (R161). (DESIGN CHOICE, log 67) -/
def clearLatched (s : State) (n code : Nat) : State :=
  if bit (s.os n).latched code && !s.outCause n code then
    let s := s.modOs n fun o => { o with active := clearBit o.active code, latched := clearBit o.latched code }
    let s := if code = fRCM_REPEAT then (s.modOs n fun o => { o with trips := [] }).wr R.SAFE_RCM_STAT_TRIPS_24H n 0 else s
    if [18, 19, 20].contains code then
      forEach (s.coilsOf n) (fun k s => s.modCoil k fun c => if c.phase == .fault then { c with phase := .off } else c) s
    else s
  else s

/-- Clear one latched module fault whose cause is gone. -/
def clearModLatched (s : State) (code : Nat) : State :=
  if bit s.safe.modLatched code && !s.modCause code then
    { s with safe := { s.safe with
      modActive := clearBit s.safe.modActive code, modLatched := clearBit s.safe.modLatched code } }
  else s

/-- The codes of all latched faults, of the module and of any outlet, as a mask. -/
def latchedCodes (s : State) : Nat :=
  (List.range 23).foldl (fun m c =>
    m + if bit s.safe.modLatched c || (List.range 8).any (fun n => bit (s.os n).latched c) then 2 ^ c else 0) 0

/-- An accepted edge of RESET_SAFE (R172, R173). -/
def resetSafe (s : State) : State :=
  let before := s.latchedCodes
  if before = 0 then s else
  let s := forEach (List.range 23) (fun c s => s.clearModLatched c) s
  let s := forEach (List.range 8) (fun n s => forEach (List.range 23) (fun c s => s.clearLatched n c) s) s
  let s := s.refreshSafeOk
  let after := s.latchedCodes
  s.raise Ev.SAFE_CLEARED 0 [before - after, after, s.mtb]

/-- What an active SAFE_IN input does to one outlet of its mask (R156). (DEDUCED, log 62) -/
def safeInAct (s : State) (action n : Nat) : State :=
  match action with
  | 2 => s.stopAny n eSAFETY_TRIP
  | 3 => s.trip n fSAFE_INPUT 1 s.mtb
  | 4 => s.trip n fSAFE_INPUT 1 s.mtb true
  | 5 => s.trip n fIMD_FAULT 1 s.mtb
  | _ => s

/-- An enabled SAFE_IN input that is active acts on the outlets of its mask (R156). -/
def safeInGo (s : State) (m : Nat) : State :=
  let mask := s.rd R.SAFE_IN_CFG_OUTLETS m
  let action := s.rd R.SAFE_IN_CFG_ACTION m
  if !s.flag R.SAFE_IN_CFG_EN m || !s.inActive m then s else
  let s := if action < 3 then s.raise Ev.SAFE_TRIP m [fSAFE_INPUT, mask, 1, s.mtb, s.mtb] else s
  forEach ((List.range 8).filter (bit mask ·)) (fun n s => s.safeInAct action n) s

/-- SAFE_INPUT without latch clears where the input has returned: no enabled EREM input of the outlet is active (R171). -/
def safeInReturn (s : State) : State :=
  forEach (List.range 8) (fun n s =>
    if (List.range 8).any fun m => s.inServes 3 n m && s.inActive m then s else s.clearFault n fSAFE_INPUT) s

/-- A SAFE_IN input has a level past its filter (R156). -/
def safeInLevel (s : State) (m : Nat) (closed : Bool) : State :=
  let was := s.inActive m
  let s := { s with safe := { s.safe with
    safeSeen := setBit s.safe.safeSeen m,
    safeClosed := if closed then setBit s.safe.safeClosed m else clearBit s.safe.safeClosed m } }
  (if was then s else s.safeInGo m).safeInReturn

/-- SAFE.IN_CFG has changed: an input that is active under it and was not before acts, and what it no longer holds returns.
(DESIGN CHOICE, log 232) -/
def safeInCfg (s before : State) (m : Nat) : State :=
  let same := before.flag R.SAFE_IN_CFG_EN m && before.inActive m
    && before.rd R.SAFE_IN_CFG_ACTION m == s.rd R.SAFE_IN_CFG_ACTION m && before.rd R.SAFE_IN_CFG_OUTLETS m == s.rd R.SAFE_IN_CFG_OUTLETS m
  (if same then s else s.safeInGo m).safeInReturn

/-! ### Disagreement of the channels (R138) -/

/-- The other channel's reading speaks against a trip (R138): a residual current in 0.01 mA below half the threshold, a
pilot level in 10 mV at or above +1.5 V, of which half a threshold is no measure, an E-stop input read as closed (0).
(DESIGN CHOICE, log 237) -/
def opposes (code : Nat) (reading : Int) : Bool :=
  match code with
  | 1 => reading == 0
  | 7 => decide (150 ≤ reading)
  | 8 => decide (2 * reading.natAbs < 600)
  | 9 => decide (2 * reading.natAbs < 6000)
  | 10 => decide (2 * reading.natAbs < 20000)
  | 11 => decide (2 * reading.natAbs < 3000)
  | _ => false

/-- When a channel tripped on an input, if its trip stands (R138): an E-stop input, or an outlet's pilot or residual
current. -/
def trippedAt (s : State) (code n chan : Nat) : Option Nat :=
  if code = fESTOP then
    if bit s.safe.modActive fESTOP && (if n = 0 then s.safe.estopAOpen else s.safe.estopBOpen) then some s.safe.estopAt else none
  else if s.hasFault n code then ((s.os n).acted.find? fun a => a.1 == code && a.2.1 == chan).map (·.2.2) else none

end State

/-- HSL_CYCLE (R25, R91, R131, R137, R145, R157, R158): one cycle of channel B, 1 ms of its own time, at least 970 µs, after
the one before. Pilot high levels in 10 mV by pilot; the levels of the mirror inputs as a mask.
(DESIGN CHOICE, log 69) -/
def execHslCycle (t : Nat) (levels : List Int) (mirrors : Nat) (s : State) : Host.Outcome State Fault Refusal :=
  .next (onCore s t fun s =>
    if s.mtb < s.safe.cycleAt + 970000 then s else
    let s := { s with safe := { s.safe with bCycles := s.safe.bCycles + 1, cycleAt := s.mtb } }
    let s := s.sampleMirrors mirrors
    let s := forEach (List.range 8) (fun n s => if s.rd R.SAFE_OUT_PROT_RCM_SRC n = 0xF then s else s.rcmUpdate n true) s
    let s := forEach (List.range 8) (fun n s => s.pilotB n (levels.getD n 0)) s
    (forEach (List.range 16) (fun k s => s.followHigh k) s).formBeat)

/-- HSL_TABLE_CHECK (R135, R189): the CRC of the table, every 100 ms of channel B's time, at least 97 ms; a table whose hash
or content failed at the start stays invalid. -/
def execHslTableCheck (t : Nat) (crcOk : Bool) (s : State) : Host.Outcome State Fault Refusal :=
  .next (onCore s t fun s =>
    if s.mtb < s.safe.tableAt + 97 * 10 ^ 6 then s else
    let ok := crcOk && s.safe.hashOk
    let s := { s with safe := { s.safe with tableOk := ok, tableAt := s.mtb } }
    let s := s.setFlag R.SAFE_STATUS_TABLE_OK 0 ok
    if ok then s.refreshSafeOk else s.moduleTrip fTABLE_FAIL 1 s.mtb)

/-- HSL_WATCHDOG_EXPIRY (R136): 10.0 ms of channel B's time, at least 9.7 ms, without an edge of SAFE_ALIVE.
(DESIGN CHOICE, log 63) -/
def execHslWatchdogExpiry (t : Nat) (s : State) : Host.Outcome State Fault Refusal :=
  .next (onCore s t fun s =>
    if s.safe.aliveAt + 9700000 ≤ s.mtb then
      (s.setFlag R.SAFE_STATUS_B_RUN 0 false).moduleTrip fA_LOST 1 s.safe.aliveAt
    else s)

/-- B_HEARTBEAT (R137): only one whose CRC is right counts. -/
def execBHeartbeat (t : Nat) (b : Beat) (s : State) : Host.Outcome State Fault Refusal :=
  .next (onCore s t fun s =>
    if b.crc = crc16 (State.beatBytes b) then
      (({ s with safe := { s.safe with heartbeatAt := s.mtb, beatIn := some b } } : State).setFlag R.SAFE_STATUS_A_RUN 0 true).refreshSafeOk
    else s)

/-- B_HEARTBEAT_LOSS (R137). -/
def execBHeartbeatLoss (t : Nat) (s : State) : Host.Outcome State Fault Refusal :=
  .next (onCore s t fun s =>
    if s.safe.heartbeatAt + 10 * 10 ^ 6 ≤ s.mtb then
      (s.setFlag R.SAFE_STATUS_A_RUN 0 false).moduleTrip fB_LOST 0 s.safe.heartbeatAt
    else s)

/-- CHANNEL_DISCREPANCY (R138): channel `chan` has tripped on the input of a fault code at an outlet, or E-stop input,
`n`, and since `since` the other channel's `reading` of it speaks against that, 100 ms by now. -/
def execChannelDiscrepancy (t code n chan : Nat) (reading : Int) (since : Nat) (s : State) :
    Host.Outcome State Fault Refusal :=
  .next (onCore s t fun s =>
    match s.trippedAt code n chan with
    | none => s
    | some at_ =>
      let from_ := max at_ since
      if State.opposes code reading && decide (from_ + 100 * 10 ^ 6 ≤ s.mtb) then
        ({ s with safe := { s.safe with disc := some (code, n) } } : State).moduleTrip fCH_DISC chan from_
      else s)

/-- SAFETY_SELFTEST_DONE (R139): steps 1 to 3 have passed, every enabled sensor has been tested, and both E-stop
sources have passed their pulse checks. -/
def execSafetySelftestDone (t : Nat) (s : State) : Host.Outcome State Fault Refusal :=
  .next (onEvent s t fun s =>
    let step4 := (List.range 8).all fun n =>
      s.outType n == 0 || s.rd R.SAFE_OUT_PROT_RCM_SRC n == 0xF || bit s.safe.tested n
    if s.safe.steps123 && step4 && s.safe.estopChecked == 3 then
      (s.setFlag R.SAFE_STATUS_SELFTEST_OK 0 true).refreshSafeOk
    else s)

/-- ESTOP_SOURCE_PULSE (R154, R139 step 5): every 100 ms of channel B's time, at least 97 ms, a source is pulsed;
`ownFollows` and `otherFollows` say which inputs followed it. -/
def execEstopSourcePulse (t : Nat) (srcB ownFollows otherFollows : Bool) (s : State) :
    Host.Outcome State Fault Refusal :=
  .next (onCore s t fun s =>
    let last := if srcB then s.safe.pulseAt.2 else s.safe.pulseAt.1
    if last != 0 && decide (s.mtb < last + 97 * 10 ^ 6) then s else
    let ok := ownFollows && !otherFollows
    let b := b2n srcB
    let s := { s with safe := { s.safe with
      pulseAt := if srcB then (s.safe.pulseAt.1, s.mtb) else (s.mtb, s.safe.pulseAt.2),
      estopChecked := if ok then setBit s.safe.estopChecked b else clearBit s.safe.estopChecked b } }
    if ok then s else s.moduleTrip fESTOP_DISC 1 s.mtb)

/-- ESTOP_OPEN (R154): an input has read open for `us` µs of channel B's time outside its pulse window, and counts as open
from 2.5 ms on. -/
def execEstopOpen (t : Nat) (inputB : Bool) (us : Nat) (s : State) : Host.Outcome State Fault Refusal :=
  .next (onCore s t fun s =>
    if us < 2500 then s else
    let was := s.safe.estopAOpen || s.safe.estopBOpen
    let s := { s with safe := { s.safe with
      estopAOpen := s.safe.estopAOpen || !inputB, estopBOpen := s.safe.estopBOpen || inputB,
      estopAt := if was then s.safe.estopAt else s.mtb } }
    s.moduleTrip fESTOP 1 s.mtb)

/-- ESTOP_DISC (R155): 50 ms after the first, the other input is still closed. -/
def execEstopDisc (t : Nat) (s : State) : Host.Outcome State Fault Refusal :=
  .next (onCore s t fun s =>
    if s.safe.estopAOpen != s.safe.estopBOpen && decide (s.safe.estopAt + 50 * 10 ^ 6 ≤ s.mtb) then
      s.moduleTrip fESTOP_DISC 1 s.safe.estopAt
    else s)

/-- SAFE_IN_CHANGE (R156): the input has read closed or open for `ms` ms of channel B's time, and passes its filter after
FILT_MS. -/
def execSafeInChange (t m : Nat) (closed : Bool) (ms : Nat) (s : State) : Host.Outcome State Fault Refusal :=
  .next (onCore s t fun s => if 8 ≤ m || ms < s.rd R.SAFE_IN_CFG_FILT_MS m then s else s.safeInLevel m closed)

/-- IMD_RESULT (R162, R163). -/
def execImdResult (t kohm : Nat) (s : State) : Host.Outcome State Fault Refusal :=
  .next (onCore s t fun s => if s.flag R.SAFE_IMD_EN then s.imdResult kohm else s)

/-- CABLE_CHECK_TIMEOUT (R164). -/
def execCableCheckTimeout (t n : Nat) (s : State) : Host.Outcome State Fault Refusal :=
  .next (onEvent s t fun s =>
    match (s.outlet n).cableCheck with
    | some (_, due) => if due ≤ s.mtb then s.cableFailed n else s
    | none => s)

/-- SAFE_STATE_PILOT_END (R169): at least 2 s at state F, and no fault of the outlet or the module is latched. -/
def execSafeStatePilotEnd (t n : Nat) (s : State) : Host.Outcome State Fault Refusal :=
  .next (onEvent s t fun s =>
    match (s.os n).safeSince with
    | some at_ =>
      if at_ + 2 * 10 ^ 9 ≤ s.mtb && (s.os n).latched == 0 && s.safe.modLatched == 0 then
        let s := s.modOs n fun o => { o with safeSince := none }
        if s.outType n = 0 then s else s.offer n .plus12
      else s
    | none => s)

/-- RESET_SAFE_EDGE (R172): the edge follows `lowUs` µs of low level in channel B's time; the operands say which
E-stop inputs are open at the edge. -/
def execResetSafeEdge (t lowUs : Nat) (aOpen bOpen : Bool) (s : State) : Host.Outcome State Fault Refusal :=
  .next (onCore s t fun s =>
    if lowUs < 20000 then s else
    ({ s with safe := { s.safe with estopAOpen := aOpen, estopBOpen := bOpen } } : State).resetSafe)

/-- SAFE_QUERY (R171). -/
def execSafeQuery (x : Ctx) (s : State) : Host.Outcome State Fault Refusal :=
  .next (s.command x Op.SAFE_QUERY 0 none fun s =>
    let codes := ((List.range 8).find? fun n => (s.os n).active != 0).map fun n => (s.os n).active
    s.complete x St.OK (s.safeStatus + 2 ^ 32 * codes.getD 0))

/-- SAFE_TEST_NOW (R151): one test per side of each coil of the mask in hold. -/
def execSafeTestNow (x : Ctx) (mask : Nat) (s : State) : Host.Outcome State Fault Refusal :=
  .next (s.command x Op.SAFE_TEST_NOW 0 none fun s =>
    let s := forEach ((List.range 16).filter fun k => bit mask k && (s.coil k).phase == .hold)
      (fun k s => s.modCoil k fun c => { c with askHs := true, askLs := true }) s
    s.complete x St.OK)

/-- IMD_MEASURE (R162): a measurement of the outlet that the internal monitor serves. -/
def execImdMeasure (x : Ctx) (n kohm : Nat) (s : State) : Host.Outcome State Fault Refusal :=
  .next (s.command x Op.IMD_MEASURE n none fun s =>
    if s.rd R.SAFE_IMD_OUTLET != n || !s.flag R.SAFE_IMD_EN then s.complete x St.IMD_NOT_HERE
    else (s.imdResult kohm).complete x St.OK (min kohm 10000))

end Sys2Proof.Machine
end

