-- ==== Sys2Proof/Machine/Power.lean ====
section
/-! DEFINITION. The events and commands of the supply, the clocks and the monitors (17_power_clocks_startup.md). -/

namespace Sys2Proof.Machine

/-- VFAIL (R284, R489, R490): VIN has crossed VFAIL, which the comparator knows to 2 %; L is stamped and Last pour runs. -/
def execVfail (t mv : Nat) (feed : List Feed) (s : State) : Host.Outcome State Fault Refusal :=
  .next (onEvent s t fun s => if 102 * s.vfailMv ≤ 100 * mv then s else s.lastPour feed)

/-- VIN_RETURN (R287, R491): VIN is above VFAIL again, within the comparator's 2 %. -/
def execVinReturn (t mv : Nat) (s : State) : Host.Outcome State Fault Refusal :=
  .next (if s.phase == .pour && decide (98 * s.vfailMv < 100 * mv) then (s.advance t).pourReturn.segRecover else s)

/-- CONVERTER_RAIL_FALL (R286, R491). -/
def execConverterRailFall (t : Nat) (s : State) : Host.Outcome State Fault Refusal :=
  .next (if s.phase == .pour then (s.advance t).railFall else s)

/-- VIN_VALID (R21, R488): VIN has stayed at or above `mv` for `ms`; it is valid after 10 ms at VSTART or more. The MTB is 0 when
XTAL49 first oscillates. (DEDUCED, log 116) -/
def execVinValid (_t mv ms : Nat) (s : State) : Host.Outcome State Fault Refusal :=
  .next (if mv < s.vstartMv || ms < 10 then s else match s.phase with
    | .noVin => { s with phase := .vinValid, mtb := 0, mtbAcc := 0 }
    | .stopped => { s with phase := .vinValid, mtb := 0, mtbAcc := 0 }
    | _ => s)

/-- EARLY_VIN_LOSS (R492): no Last pour runs, and the marker of the previous stop stays valid. -/
def execEarlyVinLoss (_t : Nat) (s : State) : Host.Outcome State Fault Refusal :=
  .next (if s.phase == .vinValid then { s with phase := .noVin, pwr := { s.pwr with restart := none } } else s)

/-- RAIL_OUT_OF_LIMITS (R504), after `us` beyond the threshold. Without VIN only the AON domain works: VAON below its limit loses the clock (R493).
(DESIGN CHOICE, log 119, 122) -/
def execRailOutOfLimits (t r : Nat) (ov : Bool) (mv : Int) (us : Nat) (feed : List Feed) (whole : Bool)
    (s : State) : Host.Outcome State Fault Refusal :=
  .next (if us < 10 then s else if s.phase == .noVin || s.phase == .stopped then
      if r = 13 && s.railBeyond 13 ov mv then { s.loseClock with pwr := { s.pwr with vbatLost := true } } else s
    else onCore s t fun s => s.railFails r ov mv feed whole)

/-- RAIL_RESTORED (R504), after `us` back in limits. -/
def execRailRestored (t r : Nat) (mv : Int) (us : Nat) (s : State) : Host.Outcome State Fault Refusal :=
  .next (if us < 1000 then s else onCore s t fun s => s.railBack r mv)

/-- TEMP_LEVEL_CHANGE (R505). -/
def execTempLevelChange (t k : Nat) (celsius : Int) (s : State) : Host.Outcome State Fault Refusal :=
  .next (onEvent s t fun s =>
    let was := s.flag R.PWR_STAT_THROTTLE
    let s := s.tempTaken k celsius
    if was && !s.flag R.PWR_STAT_THROTTLE then s.serveNext else s)

/-- PROC_MON_SAMPLE (R506), once per second: the codes of the islands. -/
def execProcMonSample (t : Nat) (codes : List Nat) (s : State) : Host.Outcome State Fault Refusal :=
  .next (onEvent s t fun s =>
    if s.mtb < s.pwr.procAt + 10 ^ 9 then s else
    let s := { s with pwr := { s.pwr with procAt := s.mtb } }
    forEach (codes.take 14).zipIdx (fun p s =>
      let s := s.wr R.GLOBAL_ISLAND_STAT_PROC_MON p.2 p.1
      if (p.1 < 96 || 176 < p.1) && !bit s.pwr.proc p.2 then
        ({ s with pwr := { s.pwr with proc := setBit s.pwr.proc p.2 } } : State).raise Ev.PWR_PROC 0 [p.2, p.1]
      else s) s)

/-- TAMPER_INPUT (R315, R495): the input has read open or closed for `samples` samples in a row; after FILT of them the change counts.
An activation is an occurrence of its tamper type, or is counted while the module does not run.
(DESIGN CHOICE, log 125) -/
def execTamperInput (t k : Nat) (closed : Bool) (samples : Nat) (s : State) : Host.Outcome State Fault Refusal :=
  .next (
    let active := closed == s.flag R.PWR_TAMPER_POL k
    if 4 ≤ k || !s.flag R.PWR_TAMPER_EN k || s.flag R.PWR_TAMPER_ACTIVE k == active || samples < s.rd R.PWR_TAMPER_FILT k then s
    else if s.core then
      let s := ((s.advance t).setFlag R.PWR_TAMPER_ACTIVE k active).raise Ev.PWR_TAMPER 0 [k, b2n active]
      if active then s.tamper (k + 1) 0 else s
    else
      let s := s.setFlag R.PWR_TAMPER_ACTIVE k active
      if active then s.incSat R.PWR_TAMPER_VBAT_COUNT k else s)

/-- XTAL32_FAIL (R496): the RTC goes on from XTAL49 while VIN is valid, and stops without it. -/
def execXtal32Fail (t : Nat) (s : State) : Host.Outcome State Fault Refusal :=
  .next (if s.phase == .noVin || s.phase == .stopped then s.loseClock else
    onCore s t fun s =>
      if !s.flag R.PWR_CLK_XTAL32_OK then s else
      let s := ((s.wr R.PWR_CLK_XTAL32_OK 0 0).wr R.PWR_CLK_RTC_FALLBACK 0 1).incSat R.PWR_CLK_XTAL32_FAILS 0
      s.raise Ev.PWR_CLOCK 0 [0, 1])

/-- XTAL32_RETURN (R497). -/
def execXtal32Return (t : Nat) (s : State) : Host.Outcome State Fault Refusal :=
  .next (onCore s t fun s =>
    if s.flag R.PWR_CLK_XTAL32_OK then s else
    ((s.wr R.PWR_CLK_XTAL32_OK 0 1).wr R.PWR_CLK_RTC_FALLBACK 0 0).raise Ev.PWR_CLOCK 0 [0, 0])

/-- XTAL49_FAIL (R23, R315, R496): the consumers run from XTAL25, and the MTB is in holdover. -/
def execXtal49Fail (t : Nat) (s : State) : Host.Outcome State Fault Refusal :=
  .next (onCore s t fun s =>
    if s.flag R.PWR_STAT_MTB_HOLDOVER then s else
    let s := ((s.wr R.PWR_CLK_XTAL49_OK 0 0).wr R.PWR_STAT_MTB_HOLDOVER 0 1).incSat R.PWR_CLK_XTAL49_FAILS 0
    let s := { s with pwr := { s.pwr with xtalAt := s.mtb } }
    (s.raise Ev.PWR_CLOCK 0 [1, 1]).tamper tHOLDOVER 0)

/-- XTAL49_RETURN (R497): after 1 s within limits the MTB goes on without a step backward. -/
def execXtal49Return (t : Nat) (s : State) : Host.Outcome State Fault Refusal :=
  .next (onCore s t fun s =>
    if !s.flag R.PWR_STAT_MTB_HOLDOVER || s.mtb < s.pwr.xtalAt + 10 ^ 9 then s else
    ((s.wr R.PWR_CLK_XTAL49_OK 0 1).wr R.PWR_STAT_MTB_HOLDOVER 0 0).raise Ev.PWR_CLOCK 0 [1, 0])

/-- XTAL25_FAIL (R136, R496): channel A stops and the HSL watchdog removes every coil; the Last pour steps run on XTAL49
and the control die restarts with cause 0x03. (DEDUCED, log 126) -/
def execXtal25Fail (t : Nat) (feed : List Feed) (s : State) : Host.Outcome State Fault Refusal :=
  .next (onCore s t fun s =>
    let s := (s.wr R.PWR_CLK_XTAL25_OK 0 0).raise Ev.PWR_CLOCK 0 [2, 1]
    let s := (s.setFlag R.SAFE_STATUS_B_RUN 0 false).moduleTrip fA_LOST 1 s.safe.aliveAt
    s.failRestart 3 feed true)

/-- REFCLK_RETURN (R497). -/
def execRefclkReturn (t : Nat) (s : State) : Host.Outcome State Fault Refusal :=
  .next (onEvent s t fun s =>
    if s.flag R.PWR_CLK_REFCLK_OK then s else (s.wr R.PWR_CLK_REFCLK_OK 0 1).raise Ev.PWR_CLOCK 0 [3, 0])

/-- METER_WAKE (R502). Commands wake the module themselves (PWR_MODE, and a ring command to a stopped block).
(DESIGN CHOICE, log 124) -/
def execMeterWake (t cause : Nat) (s : State) : Host.Outcome State Fault Refusal :=
  .next (onEvent s t fun s => if s.wakeHolds cause then (s.wakeRun cause).plcFollowAll else s)

/-- PWR_QUERY. -/
def execPwrQuery (x : Ctx) (s : State) : Host.Outcome State Fault Refusal :=
  .next (s.command x Op.PWR_QUERY 0 none fun s =>
    s.complete x St.OK (s.pack State.pwrStatFields + 2 ^ 64 * s.pack State.pwrClkFields))

/-- PWR_MODE (R501, R502). -/
def execPwrMode (x : Ctx) (mode : Nat) (s : State) : Host.Outcome State Fault Refusal :=
  .next (s.command x Op.PWR_MODE 0 none fun s =>
    if 2 ≤ mode then s.complete x St.BAD_PARAM
    else if mode = 0 then (s.wakeRun 0).plcFollowAll.complete x St.OK
    else if s.rd R.PWR_STAT_MODE = 1 then s.complete x St.OK
    else if !s.meterMay then s.complete x St.PWR_BUSY
    else s.enterMeter.complete x St.OK)

/-- PWR_IDENT (R507): the four DIE_ID images and the MODULE_ID image. -/
def execPwrIdent (x : Ctx) (s : State) : Host.Outcome State Fault Refusal :=
  .next (s.command x Op.PWR_IDENT 0 none fun s =>
    let die := fun d => s.pack [R.PWR_DIE_ID_LOT, R.PWR_DIE_ID_WAFER, R.PWR_DIE_ID_X, R.PWR_DIE_ID_Y] d
    (s.giveBuffer ((List.range 4).flatMap (fun d => leBytes 16 (die d))
      ++ leBytes 16 (s.pack [R.PWR_MODULE_ID_SERIAL, R.PWR_MODULE_ID_ASSY_LOT]))).complete x St.OK)

end Sys2Proof.Machine
end

