-- ==== Sys2Proof/Machine/Rcm.lean ====
section
/-! DEFINITION. Residual-current readings and self-tests (R157 to R161, R188 to R190). -/

namespace Sys2Proof.Machine

/-- RCM_READING (R157, R188 to R190): the code of one reading of input `i`; it joins the last 160 of every outlet the
input serves. -/
def execRcmReading (t i : Nat) (value : Int) (s : State) : Host.Outcome State Fault Refusal :=
  .next (onCore s t fun s =>
    let valid := decide (2500 * value.natAbs ≤ 32768 * s.rd R.AFE_RCM_CFG_VALID_MV i)
    let s := (s.wrInt R.AFE_RCM_RAW_RAW i value).setFlag R.AFE_RCM_RAW_VALID i valid
    let s := { s with safe := { s.safe with rcmBad := if valid then s.safe.rcmBad.put 0 i 0 else s.safe.rcmBad.upd 0 i (· + 1) } }
    forEach ((List.range 8).filter fun n => s.rd R.SAFE_OUT_PROT_RCM_SRC n == i) (fun n s =>
      s.modOs n fun o => { o with readings := (value :: o.readings).take 160 }) s)

/-- RCM_SELFTEST_RUN (R159, R161): a self-test that channel B started ends with an offset and a test reading in
0.01 mA. A twin that is not active judges the active module's test current (table Twin wiring). -/
def execRcmSelftestRun (t n : Nat) (offset : Int) (reading : Nat) (s : State) : Host.Outcome State Fault Refusal :=
  .next (onEvent s t fun s =>
    if ((s.os n).testing || s.muted) && !s.closed n then s.rcmSelfTest n offset reading else s)

/-- RCM_SENSOR_RANGE (R159, R190): 10 ms of readings outside the valid range. -/
def execRcmSensorRange (t i : Nat) (s : State) : Host.Outcome State Fault Refusal :=
  .next (onCore s t fun s =>
    if 80 ≤ s.safe.rcmBad.get 0 i then
      forEach ((List.range 8).filter fun n => s.rd R.SAFE_OUT_PROT_RCM_SRC n == i) (fun n s => s.sensorTrip n) s
    else s)

/-- RCM_PREWARN (R160): once, until the level has stayed below 2 mA for 60 s. -/
def execRcmPrewarn (t n : Nat) (s : State) : Host.Outcome State Fault Refusal :=
  .next (onEvent s t fun s =>
    match (s.os n).warnSince with
    | some at_ =>
      if at_ + 10 * 10 ^ 9 ≤ s.mtb && (s.os n).warnArmed then
        (s.modOs n fun o => { o with warnArmed := false }).raise Ev.RCM_PREWARN n
          [n, State.rcmDc (s.rcmSens n) (s.os n).readings]
      else s
    | none => s)

/-- RCM_SELFTEST (R159): the outcome of the test in 0.01 mA goes into bytes 20 to 24. -/
def execRcmSelftest (x : Ctx) (n : Nat) (offset : Int) (reading : Nat) (s : State) : Host.Outcome State Fault Refusal :=
  .next (s.command x Op.RCM_SELFTEST n none fun s =>
    if 8 ≤ n || s.rd R.SAFE_OUT_PROT_RCM_SRC n = 0xF then s.complete x St.BAD_PARAM
    else if s.closed n then s.complete x St.COILS_CLOSED
    else
      let s := s.rcmSelfTest n offset reading
      s.complete x St.OK (enc 16 offset + 2 ^ 16 * trunc 16 reading + 2 ^ 32 * b2n (s.os n).selfPass))

end Sys2Proof.Machine
end

