-- ==== Sys2Proof/Machine/RegOps.lean ====
section
/-! DEFINITION. The register map: finding a register, the registers as they read, latching reads, what a write may change
and what it does, refusals, the set-up lock (18_register_map.md). -/

namespace Sys2Proof.Machine

/-! ### Finding a register (R508) -/

/-- One dimension of an arrayed family: the instance and the rest of an offset. -/
def dimAt (n stride rel : Nat) : Option (Nat × Nat) :=
  if n ≤ 1 then some (0, rel) else if stride != 0 && decide (rel / stride < n) then some (rel / stride, rel % stride)
  else none

/-- The 32-bit words of a register. -/
def RegDef.words (d : RegDef) : Nat := (d.bits + 31) / 32

/-- The instance of a family and the word at a BAR0 offset. -/
def RegDef.at_ (d : RegDef) (off : Nat) : Option (Nat × Nat) :=
  if off < d.base then none else
  match dimAt d.n1 d.s1 (off - d.base) with
  | none => none
  | some (a, r) =>
    match dimAt d.n2 d.s2 r with
    | none => none
    | some (b, r) =>
      match dimAt d.n3 d.s3 r with
      | none => none
      | some (c, r) => if r < 4 * d.words then some ((a * max 1 d.n2 + b) * max 1 d.n3 + c, r / 4) else none

/-- The register, its instance and its word at a BAR0 offset; none in a reserved region or outside every register. -/
def regAt (off : Nat) : Option (RegDef × Nat × Nat) :=
  regTable.findSome? fun d => (d.at_ off).map fun p => (d, p.1, p.2)

/-- How many instances a family has. -/
def RegDef.count (d : RegDef) : Nat := max 1 d.n1 * max 1 d.n2 * max 1 d.n3

/-- The register holds a field. -/
def RegDef.has (d : RegDef) (F : Fld) : Bool := d.id == F.reg

namespace State

/-! ### Registers that show what the state holds elsewhere -/

/-- GLOBAL.STATUS (R520): it mirrors other registers. -/
def viewStatus (s : State) (lo : Nat) : Nat :=
  if lo = R.GLOBAL_STATUS_METER_LIVE.lo then
    b2n ((List.range 12).all fun m => !s.flag R.MET_CFG_EN m || s.mpRuns m)
  else if lo = R.GLOBAL_STATUS_SAFE_OK.lo then s.rd R.SAFE_STATUS_SAFE_OK
  else if lo = R.GLOBAL_STATUS_LOCKED.lo then s.rd R.GLOBAL_SETUP_LOCK_LOCK
  else if lo = R.GLOBAL_STATUS_KEY_MODE.lo then s.rd R.KEY_STATUS_MODE
  else if lo = R.GLOBAL_STATUS_BOOT_STATE.lo then s.rd R.UPD_BOOT_BOOT_STATE
  else if lo = R.GLOBAL_STATUS_TWIN_ROLE.lo then s.rd R.TWIN_STAT_ROLE
  else if lo = R.GLOBAL_STATUS_EPOCH.lo then s.rd R.HOST_SYNC_GLOBAL_EPOCH
  else s.rd R.GLOBAL_STATUS_HOST_READY

/-- HOST.CREDIT (R46, R49). -/
def viewCredit (s : State) (lo : Nat) : Nat :=
  if lo = R.HOST_CREDIT_STOP_INFL.lo then s.stopInfl
  else s.creditsFree

/-- CASK.SLOT[k] (R71). -/
def viewSlot (s : State) (lo k : Nat) : Nat :=
  let c := s.slot k
  if lo = R.CASK_SLOT_T_MTB.lo then c.tApply % 2 ^ 64
  else if lo = R.CASK_SLOT_ID.lo then (if c.st = .free then 0 else c.id)
  else if lo = R.CASK_SLOT_STATE.lo then c.st.code
  else if lo = R.CASK_SLOT_N_ACT.lo then c.acts.length
  else if lo = R.CASK_SLOT_MODE.lo then c.mode
  else if lo = R.CASK_SLOT_LAST_STATUS.lo then c.lastStatus
  else c.ring

/-- The age of a reading, in units, where `at1` is its instant plus one and 0 for none. -/
def ageOf (s : State) (at1 unit top : Nat) : Nat := if at1 = 0 then top else min top ((s.mtb + 1 - at1) / unit)

/-- LEDGER.TIME (R291, R293). -/
def viewTime (s : State) (F : Fld) : Nat :=
  if F.lo = R.LEDGER_TIME_WALL_S.lo then s.wallS
  else if F.lo = R.LEDGER_TIME_WALL_MS.lo then s.wallMs % 1000
  else if F.lo = R.LEDGER_TIME_LEDGER_S.lo then s.ledgerMsAt s.mtb / 1000
  else if F.lo = R.LEDGER_TIME_LEDGER_MS.lo then s.ledgerMsAt s.mtb % 1000
  else s.rd F 0

/-- OUT[n].STAT. -/
def viewOut (s : State) (F : Fld) (n : Nat) : Nat :=
  if F.lo = R.OUT_STAT_STATE.lo then (s.outlet n).st.code
  else if F.lo = R.OUT_STAT_PILOT.lo then (s.outlet n).pilot.code
  else if F.lo = R.OUT_STAT_ENERGY_WH.lo then s.rd R.MET_SESS_A_IMP (s.rd R.OUT_CFG_MP n) / 1000000
  else s.rd F n

/-- SAFE.STATUS: faults and latches by outlet, and the latched module faults (codes 1 to 6 and 22 of R171). -/
def viewSafe (s : State) (F : Fld) : Nat :=
  if F.lo = R.SAFE_STATUS_OUT_FAULT.lo then outMask fun n => (s.os n).active != 0
  else if F.lo = R.SAFE_STATUS_OUT_LATCH.lo then outMask fun n => (s.os n).latched != 0
  else if F.lo = R.SAFE_STATUS_MOD_LATCH.lo then
    s.modLatchBits
  else s.rd F

/-- SAFE.COIL_STAT[k] (R141): the current is that of the coil's phase. (DESIGN CHOICE, log 39) -/
def viewCoil (s : State) (F : Fld) (k : Nat) : Nat :=
  let c := s.coil k
  if F.lo = R.SAFE_COIL_STAT_STATE.lo then c.phase.code
  else if F.lo = R.SAFE_COIL_STAT_HS_ON.lo then b2n c.hs
  else if F.lo = R.SAFE_COIL_STAT_LS_ON.lo then b2n c.ls
  else if F.lo = R.SAFE_COIL_STAT_MIRROR_OPEN.lo then b2n c.mirrorOpen
  else if F.lo = R.SAFE_COIL_STAT_I_MA.lo then
    (match c.phase with
    | .pullIn => s.rd R.SAFE_COIL_CFG_PULLIN_MA k
    | .hold | .hsTest | .lsTest => s.rd R.SAFE_COIL_CFG_HOLD_MA k
    | _ => 0)
  else s.rd F k

/-- DISP.REGION[r]. A region cut by a power loss shows as RECOVERY once it runs, and is not in a slot before. -/
def viewRegion (s : State) (lo r : Nat) : Nat :=
  let d := s.region r
  if lo = R.DISP_REGION_X0.lo then d.x
  else if lo = R.DISP_REGION_Y0.lo then d.y
  else if lo = R.DISP_REGION_W.lo then d.w
  else if lo = R.DISP_REGION_H.lo then d.h
  else if lo = R.DISP_REGION_MODE.lo then d.mode
  else if lo = R.DISP_REGION_BAND.lo then d.band
  else if lo = R.DISP_REGION_STATE.lo then
    (match d.st with | .free => 0 | .queued => 1 | .armed => 2 | .running => 3 | .recovery => 4 | .cut => 4)
  else if lo = R.DISP_REGION_FRAME.lo then d.frame % 64
  else if lo = R.DISP_REGION_FALLBACK.lo then b2n d.fallback
  else d.startAt % 2 ^ 64

/-- A register field as it reads (R8): a write-only field reads 0, and fields that show what a part of the state holds
take it from there. (DESIGN CHOICE, log 39) -/
def view (s : State) (F : Fld) (n : Nat) : Nat :=
  if F.acc = .wo then 0
  else if F.reg = R.GLOBAL_STATUS_SAFE_OK.reg then s.viewStatus F.lo
  else if F.reg = R.GLOBAL_MTB_NOW_MTB.reg then s.mtb % 2 ^ 64
  else if F.reg = R.HOST_CREDIT_FREE.reg then s.viewCredit F.lo
  else if F.reg = R.CASK_SLOT_ID.reg then s.viewSlot F.lo n
  else if F = R.AFE_AUX_RES_AGE then s.ageOf (s.afe.auxAt1.get 0 n) (10 ^ 7) 255
  else if F = R.AFE_SCAN_STAT_ACTIVE then
    (List.range 4).foldl (fun m q => m + if s.flag R.AFE_SEQ_CTL_EN q then 2 ^ q else 0) 0
  else if F = R.AFE_RCM_RAW_TEST_ON then
    b2n ((List.range 8).any fun o => (s.os o).testing && s.rd R.SAFE_OUT_PROT_RCM_SRC o == n)
  else if F.reg = R.LEDGER_TIME_WALL_S.reg then s.viewTime F
  else if F.reg = R.OUT_STAT_STATE.reg then s.viewOut F n
  else if F.reg = R.SAFE_STATUS_SAFE_OK.reg then s.viewSafe F
  else if F.reg = R.SAFE_COIL_STAT_STATE.reg then s.viewCoil F n
  else if F = R.SAFE_IMD_AGE then s.ageOf ((s.safe.imdAt.map (· + 1)).getD 0) (10 ^ 8) 0x3FFF
  else if F = R.KEY_CACHE_NODES then s.key.nodes.length
  else if F.reg = R.DISP_REGION_X0.reg then s.viewRegion F.lo n
  else if F = R.DISP_STAT_ACTIVE then (s.regionsIn fun x => x == .running || x == .recovery).length
  else if F = R.DISP_STAT_QUEUED then (s.regionsIn (· == .queued)).length
  else if F = R.UPD_STAT_IDLE_MIN then s.updIdleMin
  else s.rd F n

/-- A register as it reads, all its words as one number; reserved bits read 0 (R510). -/
def regValue (s : State) (d : RegDef) (n : Nat) : Nat := d.flds.foldl (fun a F => a + s.view F n % 2 ^ F.w * 2 ^ F.lo) 0

/-! ### Refused writes (R519) -/

/-- A refused direct write (R519): count, offset, reason, alert, and WRITE_REFUSED at most once a second.
(DESIGN CHOICE, log 34) -/
def refuseWrite (s : State) (off reason : Nat) : State :=
  let s := (s.incSat R.GLOBAL_WR_REFUSED_COUNT 0).wr R.GLOBAL_WR_REFUSED_LAST_OFFSET 0 off
  let s := (s.wr R.GLOBAL_WR_REFUSED_LAST_REASON 0 reason).alert R.GLOBAL_ALERT_WR_REFUSED
  let k := s.host.wrRefSince + 1
  if s.host.wrRefAt1 = 0 || s.host.wrRefAt1 + 10 ^ 9 ≤ s.mtb + 1 then
    ({ s with host := { s.host with wrRefAt1 := s.mtb + 1, wrRefSince := 0 } } : State).raise Ev.WRITE_REFUSED 0
      [k, off % 2 ^ 22, reason]
  else { s with host := { s.host with wrRefSince := k } }

/-! ### Latching reads (R511, R513) -/

/-- Clear the RC fields of a register (R511). -/
def clearRc (s : State) (d : RegDef) (n : Nat) : State :=
  forEach (d.flds.filter fun F => F.acc == .rc) (fun F s => s.wr F n 0) s

/-- Read one 32-bit word (R508, R511): the lowest word of a register latches the others and clears its RC fields.
(DESIGN CHOICE, log 30) -/
def readWord (s : State) (off : Nat) : Nat × State :=
  match regAt off with
  | none => (0, s)
  | some (d, n, w) =>
    if w != 0 then (s.host.latched.get 0 off, s)
    else if d.has R.HOST_NOTIF_DATA_WORD then
      let s := s.popNotif 0
      (s.host.readWords.headD 0, s)
    else
      let v := s.regValue d n
      let s := forEach ((List.range d.words).drop 1) (fun k s =>
        { s with host := { s.host with latched := s.host.latched.put 0 (off + 4 * k) (bits v (32 * k) 32) } }) s
      (v % 2 ^ 32, s.clearRc d n)

/-- A read of BAR0 (R509, R511): one or two words, lowest first. A misaligned read is refused as PARTIAL.
(DESIGN CHOICE, log 30) -/
def barRead (s : State) (off : Nat) (wide : Bool) : State :=
  if off % 4 != 0 || (wide && off % 8 != 0) then
    let s := s.refuseWrite off 7
    { s with host := { s.host with readWords := [] } }
  else
    let (a, s) := s.readWord off
    if wide then
      let (b, s) := s.readWord (off + 4)
      { s with host := { s.host with readWords := [a, b] } }
    else { s with host := { s.host with readWords := [a] } }

/-! ### The MSI-X table and pending-bit array in BAR4/5 (R34, R36) -/

/-- A 32-bit word of BAR4/5: the table of 64 vectors at 0x0000, the pending bits at 0x2000. -/
def msixWord (s : State) (off : Nat) : Nat :=
  if off < 0x400 then s.host.msix.get (msixReset (off / 4)) (off / 4)
  else if off = 0x2000 then s.host.pba % 2 ^ 32 else if off = 0x2004 then s.host.pba / 2 ^ 32 else 0

/-- A read of BAR4/5. (PRESUMED, log 199) -/
def msixRead (s : State) (off : Nat) (wide : Bool) : State :=
  { s with host := { s.host with readWords := s.msixWord off :: if wide then [s.msixWord (off + 4)] else [] } }

/-- Write one word of the MSI-X table; a vector whose mask bit falls sends its pending message.
(PRESUMED, log 199) -/
def msixPut (s : State) (off v : Nat) : State :=
  if off % 4 != 0 || 0x400 ≤ off then s else
  let s := { s with host := { s.host with msix := s.host.msix.put (msixReset (off / 4)) (off / 4) (v % 2 ^ 32) } }
  if s.masked (off / 16) then s else { s with host := { s.host with pba := clearBit s.host.pba (off / 16) } }

/-- A write of BAR4/5. (PRESUMED, log 199) -/
def msixWrite (s : State) (off v : Nat) (wide : Bool) : State :=
  let s := s.msixPut off v
  if wide then s.msixPut (off + 4) (v / 2 ^ 32) else s

/-! ### What a write may change (R8, R514, R517, R541) -/

/-- A field the host can write at some time. -/
def hostWritable (F : Fld) : Bool := F.acc != .ro && F.acc != .rc

/-- The open calibration covers a channel (R319): one that a masked meter point names, or one that none names. -/
def calChan (s : State) (c : Nat) : Bool := s.calAllowed && (s.mpsOf c == [] || (s.mpsOf c).any s.calCovers)

/-- The RWL fields of a register may be written now (R8, R319). (DESIGN CHOICE, log 36) -/
def rwlOpen (s : State) (d : RegDef) (n : Nat) : Bool :=
  if d.has R.MET_CFG_EN || d.has R.MET_MAP_V1 || d.has R.MET_RATING_UNOM || d.has R.MET_SCALE_KV then s.calCovers n
  else if d.has R.AFE_MOD_CFG_EN || d.has R.FILT_CFG_TRK then s.calChan n
  else if d.has R.FILT_BANK_GAIN then s.calChan (n / 2)
  else if d.has R.AFE_MBS_CFG_EN then s.calChan (48 + n)
  else s.calAllowed

/-- The set-up lock is set. -/
def locked (s : State) : Bool := s.flag R.GLOBAL_SETUP_LOCK_LOCK

/-- A field that a direct write may not change now (R541). (DESIGN CHOICE, log 40) -/
def closedFld (s : State) (d : RegDef) (n : Nat) (F : Fld) : Bool :=
  match F.acc with
  | .rws => s.locked
  | .rwl => !s.rwlOpen d n
  | .ro | .rc => true
  | _ => false

/-- A written value after its clamp (R514) and the bits that read fixed: COUPLE on pilot modems and EDGE_BLANK on
mains modems read 0, a tone mask bit can only be cleared (R322), bit 0 of GIVEUP_MASK reads 1. -/
def settle (s : State) (F : Fld) (n v : Nat) : Nat :=
  if F = R.HOST_CTRL_POLL_US then clamp 2 200 v
  else if F = R.AFE_MOD_CFG_SENSOR || F = R.AFE_MOD_CFG_PGA then (if n < 32 then v else 0)
  else if F = R.CASK_CFG_LEAD_US then max 20 v
  else if F = R.PLC_CFG_COUPLE then (if n < 8 then 0 else v)
  else if F = R.PLC_CFG_EDGE_BLANK then (if n < 8 then v else 0)
  else if F = R.PLC_TONEMASK_MASK then Nat.land v (s.rd F n)
  else if F = R.TWIN_CFG_GIVEUP_MASK then Nat.lor v 1
  else v

/-- A value is in its field's stated range (R514), with the ranges that depend on the instance: roles (R236), tracker sources (R219), transmit levels (R323), residual-current sources. -/
def valueOk (F : Fld) (n v : Nat) : Bool :=
  inRange F v
    && (if F = R.MET_MAP_V1 || F = R.MET_MAP_V2 || F = R.MET_MAP_V3 then v == 0x7F || roleOk 0 v
      else if F = R.MET_MAP_I1 || F = R.MET_MAP_I2 || F = R.MET_MAP_I3 || F = R.MET_MAP_IN then v == 0x7F || roleOk 3 v
      else if F = R.FILT_TRK_CFG_SRC_CH then v == 0x7F || (decide (32 ≤ v) && decide (v ≤ 63))
      else if F = R.PLC_CFG_TX_PSD then
        (if n < 8 then decide (146 ≤ v) && decide (v ≤ 180) else decide (100 ≤ v) && decide (v ≤ 170))
      else if F = R.SAFE_OUT_PROT_RCM_SRC then decide (v ≤ 7) || v == 0xF
      else true)

/-- A limit of HSL_TABLE (R134), and a check that it marks mandatory. -/
def hslLimit (F : Fld) (n : Nat) : Nat := Config.hsl (F.reg * 512 + F.lo) n

/-- Settings of channel A that HSL_TABLE bounds from above: times, currents and voltages. -/
def boundedAbove : List Fld :=
  [R.SAFE_CFG_MSTOP_DC, R.SAFE_CFG2_IEND_AC, R.SAFE_CFG2_IEND_DC, R.SAFE_CFG2_OPEN_CHECK, R.SAFE_OUT_PROT_WELD_V_AC,
   R.SAFE_OUT_PROT_WELD_V_DC, R.SAFE_IN_CFG_FILT_MS]

/-- Insulation limits, which HSL_TABLE bounds from below. -/
def boundedBelow : List Fld := [R.SAFE_IMD_WARN_OHM_V, R.SAFE_IMD_FAULT_OHM_V]

/-- Checks that HSL_TABLE may mark mandatory. -/
def checkFields : List Fld := [R.SAFE_IMD_EN, R.SAFE_IN_CFG_EN, R.SAFE_OUT_PROT_SHUNT_EN, R.SAFE_OUT_PROT_VLINK_EN]

/-- A setting of channel A is weaker than the limit in HSL_TABLE (R134): the AC ramp's is 60 (table SAFE.CFG); the others
are not printed, and none makes the reset value weaker. A check that is mandatory is not disabled.
(DESIGN CHOICE, log 40) -/
def weaker (s : State) (F : Fld) (n v : Nat) : Bool :=
  (F == R.SAFE_CFG_MSTOP_AC && decide (60 < v))
    || (boundedAbove.contains F && decide (max (F.reset n) (hslLimit F n) < v))
    || (boundedBelow.contains F && decide (v < min (F.reset n) (hslLimit F n)))
    || (checkFields.contains F && s.flag F n && v == 0 && hslLimit F n == 1)

/-- The value of a register with the given words replaced; W1C bits of other words count as 0.
(DESIGN CHOICE, log 32) -/
def mergeWords (s : State) (d : RegDef) (n : Nat) (ws : List (Nat × Nat)) : Nat :=
  let now := d.flds.foldl (fun a F => if F.acc = .w1c then a else a + s.rd F n * 2 ^ F.lo) 0
  ws.foldl (fun a w => a - bits a (32 * w.1) 32 * 2 ^ (32 * w.1) + trunc 32 w.2 * 2 ^ (32 * w.1)) now

/-- Write the given fields of a register from its image; a W1C field loses the bits written as 1. -/
def putFields (s : State) (fs : List Fld) (n image : Nat) : State :=
  forEach fs (fun F s =>
    let v := imageField F image
    if F.acc = .w1c then s.wr F n (s.rd F n - Nat.land (s.rd F n) v)
    else s.wrSave F n (s.settle F n v)) s

/-- The image of a sequence as it will be after the loads that wait: control and entries. -/
def seqImage (s : State) (q : Nat) : Nat × List Nat :=
  match s.afe.loads.get [] q with
  | ctl :: ents => (ctl, ents)
  | [] =>
    let ctl := s.pack [R.AFE_SEQ_CTL_EN, R.AFE_SEQ_CTL_LEN, R.AFE_SEQ_CTL_INT_MODE, R.AFE_SEQ_CTL_INT_MP,
      R.AFE_SEQ_CTL_PERIOD_US] q
    (ctl, (List.range (s.rd R.AFE_SEQ_CTL_LEN q)).map fun e =>
      s.pack [R.AFE_SEQ_ENT_INPUT, R.AFE_SEQ_ENT_SETTLE, R.AFE_SEQ_ENT_AVG_LOG2] (entIx q e))

/-- The image of a sequence that a write makes (R199): the written control or entry over what the sequence is, or will be at the
end of its pass. `ent` is the entry written, none for the control register. -/
def seqMerged (before s : State) (q : Nat) (ent : Option Nat) : Nat × List Nat :=
  let (ctl0, ents0) := before.seqImage q
  let pack := fun e => s.pack [R.AFE_SEQ_ENT_INPUT, R.AFE_SEQ_ENT_SETTLE, R.AFE_SEQ_ENT_AVG_LOG2] (entIx q e)
  match ent with
  | some e => (ctl0, ents0.zipIdx.map fun p => if p.2 = e then pack e else p.1)
  | none =>
    let ctl := s.pack [R.AFE_SEQ_CTL_EN, R.AFE_SEQ_CTL_LEN, R.AFE_SEQ_CTL_INT_MODE, R.AFE_SEQ_CTL_INT_MP, R.AFE_SEQ_CTL_PERIOD_US] q
    (ctl, (List.range (imageField R.AFE_SEQ_CTL_LEN ctl)).map fun e => ents0.getD e (pack e))

/-- The entry that a write to SEQ_ENT names. -/
def entOf (d : RegDef) (n : Nat) : Option Nat := if d.has R.AFE_SEQ_CTL_EN then none else some (n % 64)

/-- A block's own state check of a write (R518), from the state before and the state it would leave: the block's status
code. (DESIGN CHOICE, log 33, 34, 37) -/
def blockBad (s s' : State) (d : RegDef) (n : Nat) : Option Nat :=
  let moved := fun (fs : List Fld) => fs.any fun F => s.rd F n != s'.rd F n
  if d.has R.OUT_CFG_TYPE then
    if (s.outlet n).st.live
        && moved [R.OUT_CFG_TYPE, R.OUT_CFG_BIDIR, R.OUT_CFG_CTRL, R.OUT_CFG_MP, R.OUT_CFG_RATED_A] then some St.SESSION_LIVE
    else if s'.mpTaken n (s'.rd R.OUT_CFG_MP n) then some St.BAD_PARAM else none
  else if d.has R.AFE_MOD_CFG_EN then
    if s.chanLive n && moved [R.AFE_MOD_CFG_EN, R.AFE_MOD_CFG_SENSOR, R.AFE_MOD_CFG_PGA] then some St.CH_LIVE else none
  else if d.has R.FILT_CFG_TRK then
    if s.chanLive n && moved [R.FILT_CFG_RS_MODE, R.FILT_CFG_TRK] then some St.FILT_LIVE else none
  else if d.has R.MET_CFG_EN || d.has R.MET_MAP_V1 || d.has R.MET_RATING_UNOM || d.has R.MET_SCALE_KV then
    if s.mpLive n && moved (d.flds.filter fun F => F.acc == .rwl) then some St.MP_LIVE
    else if d.has R.MET_MAP_V1 && (((s'.roles n).drop 3).filter (· != 0x7F)).any (fun c =>
        (List.range 12).any fun j => j != n && s.flag R.MET_CFG_EN j && ((s.roles j).drop 3).contains c) then
      some St.MP_CONFIG
    else none
  else if d.has R.MET_PULSE_EN then
    if s'.pulseTooFast (s'.rd R.MET_PULSE_MP n) (s'.rd R.MET_PULSE_CONST n) (s'.rd R.MET_PULSE_WIDTH_MS n) then
      some St.PULSE_RATE else none
  else if d.has R.LEDGER_DEMAND_CFG_DEM_MIN then
    if demandCfgOk (s'.rd R.LEDGER_DEMAND_CFG_DEM_MIN) s'.subN then none else some St.BAD_PARAM
  else if d.has R.DISP_CFG_EN || d.has R.DISP_BUS_LINE_OH then
    if s'.dispTiming then none else some St.DISP_TIMING
  else if d.has R.LSW_CFG_EN then
    if (s.lswSt n != 0 && s.lswSt n != 6 && s.lswSt n != 7) || (s.lswCh n).held.isSome then some St.LSW_BUSY else none
  else if d.has R.AFE_SEQ_CTL_EN || d.has R.AFE_SEQ_ENT_INPUT then
    let q := if d.has R.AFE_SEQ_CTL_EN then n else n / 64
    let (ctl, ents) := seqMerged s s' q (entOf d n)
    if imageField R.AFE_SEQ_CTL_EN ctl = 1 then s.seqBad q ctl ents else none
  else none

/-! ### What an accepted write does -/

/-- Add a change to the CAL record of the open calibration (R319). -/
def calList (s : State) (off old new : Nat) : State :=
  match s.ledger.cal with
  | some c => { s with ledger := { s.ledger with cal := some { c with changes := c.changes ++ [(off, old, new)] } } }
  | none => s

/-- The channels whose modulator clock or source a register sets: itself, or the MBS channels on a clock (R216). -/
def clockedBy (s : State) (d : RegDef) (n : Nat) : List Nat :=
  if d.has R.AFE_MOD_CFG_EN || d.has R.FILT_CFG_TRK then [n]
  else if d.has R.AFE_MBS_CFG_EN then [48 + n]
  else if d.has R.AFE_MCLK_CFG_EN then
    ((List.range 16).filter fun j => s.rd R.AFE_MBS_CFG_MCLK j == n).map (48 + ·)
  else []

/-- A channel moved to or from DIV8 takes the default SHIFT0 of its new source, listed in the CAL record (R210). -/
def shiftMoved (s before : State) (c : Nat) : State :=
  if c < 48 || s.cicR c = before.cicR c then s else
  let new := if s.clockDiv c = 8 then 2 else enc 4 (-3)
  (s.calList (0x60000 + 0x200 * c) (s.rd R.FILT_CFG_SHIFT0 c) new).wr R.FILT_CFG_SHIFT0 c new

/-- What follows an accepted write of a front-end, filter or metering register (R210, R216, R219, R237, R249). -/
def chainApplied (s before : State) (d : RegDef) (n : Nat) : State :=
  let moved := d.flds.any fun F => hostWritable F && s.rd F n != before.rd F n
  let cs := if moved then s.clockedBy d n else []
  let s := forEach cs (fun c s => (s.shiftMoved before c).restartChain c) s
  let s := if d.has R.MET_CFG_EN && s.rd R.MET_CFG_NET_MODE n != before.rd R.MET_CFG_NET_MODE n then
      (s.wr R.MET_ENERGY_COUNT (10 * n + 8) (s.netOf n)).tamper tNET_MODE n else s
  if moved && (cs != [] || d.has R.MET_CFG_EN || d.has R.MET_MAP_V1 || d.has R.MET_SCALE_KV || d.has R.FILT_TRK_CFG_EN) then
    s.trkRefreshAll.mpEvalAll else s

/-- A write to a sequence whose pass runs waits for the end of the pass (R199). -/
def seqApplied (s before : State) (q : Nat) (ent : Option Nat) : State :=
  if before.passRuns q then
    let (ctl, ents) := seqMerged before s q ent
    let s := { before with afe := { before.afe with loads := before.afe.loads.put [] q (ctl :: ents) } }
    if imageField R.AFE_SEQ_CTL_EN ctl = 0 then { s with afe := { s.afe with offs := setBit s.afe.offs q } } else s
  else
    let s := s.wr R.AFE_SEQ_CTL_CONV q (convOf (s.rd R.AFE_SEQ_CTL_LEN q))
    if s.flag R.AFE_SEQ_CTL_EN q then s.padc10 else s.stopSeq q

/-- What an accepted write of any register does beyond its fields. (DESIGN CHOICE, log 36) -/
def regApplied (s before : State) (d : RegDef) (n : Nat) : State :=
  let s := s.chainApplied before d n
  let s :=
    if d.has R.AFE_SEQ_CTL_EN then s.seqApplied before n none
    else if d.has R.AFE_SEQ_ENT_INPUT then s.seqApplied before (n / 64) (entOf d n)
    else if d.has R.MET_PULSE_EN then s.pulseReset n
    else if d.has R.LEDGER_CFG_SIG_ALG && s.rd R.LEDGER_CFG_SIG_ALG != before.rd R.LEDGER_CFG_SIG_ALG then s.signKeyChanged
    else if d.has R.OUT_CFG_TYPE then (s.cfgApplied n).plcFollowAll
    else if d.has R.PLC_TRELLIS_CFG_EN then
      let s := s.trellisEn
      if s.trxState = 0 then s else s.mainsModems true
    else if d.has R.SAFE_IN_CFG_EN then s.safeInCfg before n
    else if d.has R.DISP_TEMP_SRC then s.bandShow
    else if d.has R.TWIN_CFG_EN then s.twinStart
    else s
  s.auxSlowNote before

/-! ### Alerts and the set-up lock (R515, R516, R520) -/

/-- The bits of GLOBAL.ALERT. -/
def alertBits : List Fld :=
  [R.GLOBAL_ALERT_DEVICE_START, R.GLOBAL_ALERT_SAFE_CHANGE, R.GLOBAL_ALERT_PART_VIOL, R.GLOBAL_ALERT_WR_REFUSED,
   R.GLOBAL_ALERT_JOURNAL_LOST, R.GLOBAL_ALERT_NOTIF_LOST, R.GLOBAL_ALERT_TEMP, R.GLOBAL_ALERT_LINK_TIMEOUT]

/-- A write to GLOBAL.ALERT (R520): bits written as 1 clear; the vector is raised again while an enabled bit is set. -/
def alertWrite (s : State) (mask : Nat) : State :=
  let s := forEach (alertBits.filter fun F => bit mask F.lo) (fun F s => s.wr F 0 0) s
  if alertBits.any fun F => s.flag F && bit (s.rd R.GLOBAL_ALERT_EN_EN) F.lo then s.irq (s.rd R.GLOBAL_ALERT_EN_VECTOR)
  else s

/-- LOCK is set, once in a run (R515); DC-link inputs that are absent are reported (R201). -/
def lockSetup (s : State) : State :=
  if s.locked then s else
  let s := s.wr R.GLOBAL_SETUP_LOCK_LOCK 0 1
  ({ s with host := { s.host with lockAt := s.mtb } } : State).auxSlowAll

/-- The restored fields with their instances (R516). -/
def restoredFields : List (Fld × Nat) :=
  regTable.flatMap fun d => (d.flds.filter (·.saved)).flatMap fun F => (List.range d.count).map fun n => (F, n)

/-- The settings have become durable (R516): every restored field is in the settings area, SAVED is set. They are
not saved while their flash area is read-only. (DEDUCED, DESIGN CHOICE, log 38, 262) -/
def settingsSaved (s : State) : State :=
  if !s.locked || s.flag R.GLOBAL_SETUP_LOCK_SAVED || s.flag R.KEY_WEAR_READ_ONLY 6 then s else
  let s := forEach restoredFields (fun p s => s.save p.1 p.2) s
  (s.wr R.GLOBAL_SETUP_LOCK_SAVED 0 1).raise Ev.SETUP_LOCKED 0 [s.host.lockAt, 1, restoredFields.length]

/-! ### Direct writes (R509 to R519, R541) -/

/-- A ring register's kind. -/
def ringKindOf (d : RegDef) : Option RingKind :=
  if d.has R.HOST_CMDR_EN then some .command else if d.has R.HOST_CPLR_EN then some .completion
  else if d.has R.HOST_EVR_EN then some .event else if d.has R.HOST_STR_EN then some .stream else none

/-- HOST.CTRL: EN attaches and detaches (R63, R65). -/
def writeCtrl (s : State) (image : Nat) : State :=
  let was := s.flag R.HOST_CTRL_EN
  let s := s.putFields [R.HOST_CTRL_POLL_US, R.HOST_CTRL_KICK_EN] 0 image
  if imageField R.HOST_CTRL_EN image = 1 then s.attach else if was then s.detach .enCleared else s

/-- Write fields of a register, note an RWL write, and do what follows. (DESIGN CHOICE, log 38) -/
def applyWrite (s : State) (d : RegDef) (n off : Nat) (fs : List Fld) (image : Nat) : State :=
  let old := s.mergeWords d n []
  let s' := s.putFields fs n image
  let s' := if fs.any (fun F => F.acc == .rwl) then s'.calNote off old (s'.mergeWords d n []) else s'
  s'.regApplied s d n

/-- A write to every register but the ones with an effect of their own: judged field by field (R541), then against the
ranges (R514) and the block's state (R518). (DESIGN CHOICE, log 34) -/
def writeFieldwise (s : State) (d : RegDef) (n off image : Nat) : State :=
  let ws := d.flds.filter hostWritable
  match ws.find? fun F => s.closedFld d n F && imageField F image != s.rd F n with
  | some F => s.refuseWrite off (if F.acc = .rws then 2 else 3)
  | none =>
    let fs := ws.filter fun F => !s.closedFld d n F
    if fs.any fun F => s.weaker F n (imageField F image) then s.refuseWrite off 8
    else if fs.any fun F => !valueOk F n (s.settle F n (imageField F image)) then s.refuseWrite off 6
    else
      match s.blockBad (s.putFields fs n image) d n with
      | some st => s.refuseWrite off (if st = St.BAD_PARAM && !d.has R.OUT_CFG_TYPE then 6 else 8)
      | none => s.applyWrite d n off fs image

/-- The words of a register are written at one instant (R512). (DESIGN CHOICE, log 33) -/
def writeReg (s : State) (d : RegDef) (n off : Nat) (ws : List (Nat × Nat)) : State :=
  let image := s.mergeWords d n ws
  if d.has R.GLOBAL_SETUP_LOCK_LOCK then (if imageField R.GLOBAL_SETUP_LOCK_LOCK image = 1 then s.lockSetup else s)
  else if d.has R.GLOBAL_ALERT_DEVICE_START then s.alertWrite (image % 256)
  else if d.has R.HOST_CTRL_EN then s.writeCtrl image
  else match ringKindOf d with
    | some k => s.writeRing k n image
    | none => s.writeFieldwise d n off image

/-- A direct write of one 32-bit word (R508, R510, R512): an upper word of a wide register is held for the lowest.
(DESIGN CHOICE, log 31) -/
def writeWord (s : State) (off v : Nat) : State :=
  match regAt off with
  | none => s.refuseWrite off 4
  | some (d, n, w) =>
    let base := off - 4 * w
    let held := match s.host.heldWords with
      | some h => if h.off = base then h.words else []
      | none => []
    let s := { s with host := { s.host with heldWords := none } }
    if !(d.flds.any hostWritable) then s.refuseWrite off 1
    else if w != 0 then
      { s with host := { s.host with heldWords := some ⟨base, (w, trunc 32 v) :: held.filter (·.1 != w)⟩ } }
    else s.writeReg d n base ((0, trunc 32 v) :: held)

/-- A direct write (R509): 32 or 64 bits, aligned and whole. Of a 64-bit write, an upper word of one register is held
before its lowest word applies. (DESIGN CHOICE, log 31) -/
def barWrite (s : State) (off v : Nat) (wide part : Bool) : State :=
  if part || off % 4 != 0 || (wide && off % 8 != 0) then s.refuseWrite off 7
  else if !wide then s.writeWord off v
  else
    let one := match regAt off, regAt (off + 4) with
      | some (d, n, _), some (e, m, _) => d.id == e.id && n == m
      | _, _ => false
    if one then (s.writeWord (off + 4) (v / 2 ^ 32)).writeWord off v
    else (s.writeWord off v).writeWord (off + 4) (v / 2 ^ 32)

/-! ### REG_WRITE (R517, R518, R541) -/

/-- The fields of a register that a mask of its bits touches. -/
def touched (d : RegDef) (mask : Nat) : List Fld := d.flds.filter fun F => imageField F mask != 0

/-- REG_WRITE: the bits of the mask, from the word at an offset on. Answers the status and the state.
(DESIGN CHOICE, log 35) -/
def regWrite (s : State) (off value mask : Nat) : Nat × State :=
  if off % 4 != 0 then (St.BAD_PARAM, s) else
  match regAt off with
  | none => (St.SETUP_LOCKED, s)
  | some (d, n, w) =>
    let m := mask * 2 ^ (32 * w)
    let fs := touched d m
    if 2 ^ d.bits ≤ m || fs.any fun F => F.acc != .rws && F.acc != .w1c then (St.SETUP_LOCKED, s) else
    let now := s.mergeWords d n []
    let image := now - Nat.land now m + Nat.land (value * 2 ^ (32 * w)) m
    if d.has R.GLOBAL_ALERT_DEVICE_START then (St.OK, s.alertWrite (image % 256))
    else if fs.any fun F => s.weaker F n (imageField F image) then (St.SAFE_WEAKER, s)
    else if fs.any fun F => !valueOk F n (s.settle F n (imageField F image)) then (St.BAD_PARAM, s)
    else
      match s.blockBad (s.putFields fs n image) d n with
      | some st => (st, s)
      | none => (St.OK, s.applyWrite d n (off - 4 * w) fs image)

end State
end Sys2Proof.Machine
end

