-- ==== Sys2Proof/Machine/RegMap.lean ====
section
/-! DEFINITION. The commands of the register map (18_register_map.md): reads and writes of BAR0, the set-up lock, alerts,
REG_WRITE. -/

namespace Sys2Proof.Machine

/-- LATCHING_READ (R36, R508, R509, R511, R513): a 32-bit or 64-bit read of BAR0, or of the MSI-X table in BAR4/5. -/
def execLatchingRead (t off : Nat) (wide bar4 : Bool) (s : State) : Host.Outcome State Fault Refusal :=
  .next (onEvent s t fun s => if bar4 then s.msixRead off wide else s.barRead off wide)

/-- REGISTER_WRITE (R36, R508 to R510, R512, R514, R517 to R519, R541): a 32-bit or 64-bit write of BAR0, or of the MSI-X
table in BAR4/5; `part` says that byte enables are missing. -/
def execRegisterWrite (t off value : Nat) (wide part bar4 : Bool) (s : State) : Host.Outcome State Fault Refusal :=
  .next (onEvent s t fun s => if bar4 then s.msixWrite off value wide else s.barWrite off value wide part)

/-- ALERT_WRITE (R513, R520). -/
def execAlertWrite (t mask : Nat) (s : State) : Host.Outcome State Fault Refusal :=
  .next (onEvent s t fun s => s.alertWrite mask)

/-- SETUP_LOCK (R515, R516). -/
def execSetupLock (t : Nat) (s : State) : Host.Outcome State Fault Refusal :=
  .next (onEvent s t fun s => s.lockSetup)

/-- SETTINGS_SAVED (R516). -/
def execSettingsSaved (t : Nat) (s : State) : Host.Outcome State Fault Refusal :=
  .next (onEvent s t fun s => s.settingsSaved)

/-- REG_WRITE (R514, R516 to R518, R541). (DESIGN CHOICE, log 35) -/
def execRegWrite (x : Ctx) (off value mask : Nat) (s : State) : Host.Outcome State Fault Refusal :=
  .next (s.command x Op.REG_WRITE 0 none fun s =>
    let (st, s) := s.regWrite off value mask
    s.complete x st)

end Sys2Proof.Machine
end

