-- ==== Sys2Proof/Machine/Slac.lean ====
section
/-! DEFINITION. Joint SLAC over the eight pilots (R105 to R111). Attenuations are in 0.1 dB. -/

namespace Sys2Proof.Machine
namespace State

/-- A pilot takes part in SLAC: CONNECTED with the duty at 5 % (R105). (DESIGN CHOICE, log 55) -/
def slacTakesPart (s : State) (n : Nat) : Bool :=
  (s.outlet n).st == .connected && ((s.outlet n).out == .pwm 50) && decide (n < 8)

/-- The SLAC run of a run id. -/
def slacRun (s : State) (id : Nat) : Option SlacRun := s.out.slac.find? fun r => r.id == id

/-- Replace the SLAC run of a run id, or add it. -/
def putSlac (s : State) (r : SlacRun) : State :=
  let others := s.out.slac.filter fun q => q.id != r.id
  ({ s with out := { s.out with slac := others ++ [r] } } : State).plcFollowAll

/-- Drop the SLAC run of a run id. -/
def dropSlac (s : State) (id : Nat) : State :=
  ({ s with out := { s.out with slac := s.out.slac.filter fun q => q.id != id } } : State).plcFollowAll

/-- The mean attenuation a pilot measured for a run: the sum over its sounds and groups, over 58 groups (R106), rounded down
to 0.1 dB. (DESIGN CHOICE, log 227) -/
def slacMean (r : SlacRun) (p : Nat) : Nat :=
  let h := r.heard.get (0, 0) p
  10 * h.2 / (58 * max 1 h.1)

/-- The pilots that heard at least 5 of the 10 sounds of a run, by attenuation (R106, R107). -/
def slacHeard (r : SlacRun) : List Nat :=
  State.sortBy (slacMean r) ((List.range 8).filter fun p => decide (5 ≤ (r.heard.get (0, 0) p).1))

/-- How the joint resolution of one run ends (R107). -/
inductive SlacOutcome where
  | nobody
  | ambiguousUnvalidated
  | assigned (pilot margin : Nat)
  | ambiguous (pilots : List Nat)
  deriving DecidableEq, Repr

/-- Resolve one run among the pilots no other run holds (R107): the pilots that take part are its candidates, and
those that do not are still compared as neighbours (R105). -/
def slacResolve (s : State) (r : SlacRun) (taken : List Nat) : SlacOutcome :=
  let heard := (slacHeard r).filter fun p => !taken.contains p
  let margin := 10 * s.rd R.OUT_POLICY_SLAC_MARGIN_DB
  match heard with
  | [] => .nobody
  | [p] => if s.slacTakesPart p then .assigned p 900 else .nobody
  | p :: q :: _ =>
    let gap := slacMean r q - slacMean r p
    if margin ≤ gap then (if s.slacTakesPart p then .assigned p gap else .nobody)
    else if s.flag R.OUT_POLICY_VALIDATE_EN then
      let set := (heard.filter fun c => decide (slacMean r c - slacMean r p < margin) && s.slacTakesPart c).take 3
      if set = [] then .nobody else .ambiguous set
    else .ambiguousUnvalidated

/-- A SLAC run of an outlet ended without a match (R111): after the third, AC goes on in basic mode and DC ends
SLAC_FAIL; before, the module waits 50 s for a retry. -/
def slacFail (s : State) (n : Nat) : State :=
  let f := (s.outlet n).slacFails + 1
  let s := s.modOutlet n fun o => { o with
    slacFails := f, slacRetryDue := if f < 3 then some (s.mtb + 50 * 10 ^ 9) else none }
  if f < 3 || (s.outlet n).st != .connected then s
  else if s.isDc n then s.endSession n eSLAC_FAIL
  else s.goReady n

/-- A run holds its pilots: their wait for a retry is over until the match wait ends (R108, R111). -/
def slacHold (s : State) (ps : List Nat) : State :=
  forEach ps (fun p s => s.modOutlet p fun o => { o with slacRetryDue := none }) s

/-- The margin from a pilot to the next candidate (R110). (DESIGN CHOICE, log 55) -/
def slacMargin (r : SlacRun) (p : Nat) : Nat :=
  match (slacHeard r).filter fun q => q != p && decide (slacMean r p ≤ slacMean r q) with
  | q :: _ => slacMean r q - slacMean r p
  | [] => 0

/-- Pilots held by the runs of a list. -/
def slacHeldBy (rs : List SlacRun) : List Nat := rs.flatMap (·.holders)

/-- Close the sounding windows that have ended and resolve their runs jointly, in ascending order of best
attenuation (R107, R108). -/
def slacClose (s : State) : State :=
  let due := s.out.slac.filter fun r => r.holders == [] && (match r.windowEnd with
    | some w => decide (w ≤ s.mtb)
    | none => false)
  let best := fun (r : SlacRun) => ((slacHeard r).head?.map (slacMean r)).getD (10 ^ 6)
  let order := (State.sortBy (fun i => (due[i]?.map best).getD 0) (List.range due.length)).filterMap (due[·]?)
  forEach order (fun r s =>
    let taken := slacHeldBy (s.out.slac.filter fun q => q.id != r.id)
    let report := fun (s : State) (method : Nat) =>
      let n := ((slacHeard r).find? s.slacTakesPart).getD (r.pilots.headD 0)
      let s := s.raise Ev.SLAC_RESULT n [n, r.id % 2 ^ 32, 0, 0, method]
      forEach (r.pilots.filter s.slacTakesPart) (fun p s => s.slacFail p) (s.dropSlac r.id)
    match s.slacResolve r taken with
    | .assigned p gap => (s.putSlac { r with
        holders := [p], margin := gap, best := slacMean r p, windowEnd := none }).slacHold [p]
    | .ambiguous ps => (s.putSlac { r with
        holders := ps, margin := 0, best := slacMean r (ps.headD 0), windowEnd := none, amb := true }).slacHold ps
    | .ambiguousUnvalidated => report s 3
    | .nobody => report s 2) s

/-- The pilot a match request is accepted on (R108, R109): the assigned one, or the one pilot of the ambiguous set
that counted exactly the vehicle's toggles. -/
def slacMatched (r : SlacRun) : Option Nat :=
  if !r.amb then r.holders.head?
  else match r.announced with
    | none => none
    | some k => match r.holders.filter fun p => r.toggles.get 0 p == k with
      | [p] => some p
      | _ => none

end State

/-- SLAC_PARM_REQ (R105, R111): confirmed on the pilots that take part; a run begins, and a pilot that it does not come to
hold waits for a new request. (DESIGN CHOICE, log 55) -/
def execSlacParmReq (t run : Nat) (pilots : List Nat) (s : State) : Host.Outcome State Fault Refusal :=
  .next (onEvent s t fun s =>
    let ps := pilots.filter s.slacTakesPart
    if ps = [] then s else
    let s := forEach ps (fun p s => s.modOutlet p fun o => { o with slacRetryDue := some (s.mtb + 50 * 10 ^ 9) }) s
    match s.slacRun run with
    | some r => if r.holders = [] then s.putSlac { r with pilots := (r.pilots ++ ps).dedup } else s
    | none => s.putSlac ⟨run, ps, none, .empty, [], 0, 0, none, .empty, none, false⟩)

/-- START_ATTEN_CHAR (R106): the 600 ms window opens. -/
def execStartAttenChar (t run : Nat) (s : State) : Host.Outcome State Fault Refusal :=
  .next (onEvent s t fun s =>
    match s.slacRun run with
    | some r => if r.windowEnd.isNone && r.holders == [] then
        s.putSlac { r with windowEnd := some (s.mtb + 600 * 10 ^ 6) } else s
    | none => s)

/-- MNBC_SOUND (R106): one sounding, with the attenuation of each group in dB on every pilot that heard it. -/
def execMnbcSound (t run : Nat) (meas : List (Nat × List Nat)) (s : State) : Host.Outcome State Fault Refusal :=
  .next (onEvent s t fun s =>
    match s.slacRun run with
    | some r => if (match r.windowEnd with
          | some w => decide (s.mtb ≤ w)
          | none => false) then
        let heard := meas.foldl (fun h p => h.upd (0, 0) p.1 fun q => (q.1 + 1, q.2 + p.2.sum)) r.heard
        s.putSlac { r with heard := heard } else s
    | none => s)

/-- SLAC_WINDOW_CLOSE (R107, R108). -/
def execSlacWindowClose (t : Nat) (s : State) : Host.Outcome State Fault Refusal :=
  .next (onEvent s t fun s => s.slacClose)

/-- SLAC_VALIDATE (R109): the vehicle announces 1 to 3 toggles, and each pilot of the set counts. -/
def execSlacValidate (t run announced : Nat) (counted : List (Nat × Nat)) (s : State) :
    Host.Outcome State Fault Refusal :=
  .next (onEvent s t fun s =>
    match s.slacRun run with
    | some r => if !r.amb || announced = 0 || 3 < announced then s else
        s.putSlac { r with
          announced := some announced, toggles := counted.foldl (fun g p => g.put 0 p.1 p.2) .empty }
    | none => s)

/-- SLAC_MATCH_REQ (R108, R110): confirmed on the one right pilot, with a fresh key and a NID of 54 bits whose last three are the
outlet; the protocol starts (R98). (DESIGN CHOICE, log 219) -/
def execSlacMatchReq (t run pilot : Nat) (s : State) : Host.Outcome State Fault Refusal :=
  .next (onEvent s t fun s =>
    match s.slacRun run with
    | some r =>
      if State.slacMatched r = some pilot && s.slacTakesPart pilot && s.drbgOk then
        let (key, s) := s.drbgNext 128
        let (v, s) := s.takeFree
        let method := b2n r.amb
        let margin := if r.amb then State.slacMargin r pilot else r.margin
        let s := (s.dropSlac run).modOutlet pilot fun o => { o with
          nmk := key, nid := 8 * (v % 2 ^ 51) + pilot, hlcRunning := true, slacFails := 0, slacRetryDue := none }
        let s := s.raise Ev.SLAC_RESULT pilot [pilot, run % 2 ^ 32, State.slacMean r pilot, margin, method]
        s.setSess pilot .negotiating 0 0
      else s
    | none => s)

/-- SLAC_MATCH_TIMEOUT (R108, R111): the pilot or set is released; the run counts as one without a match.
(DESIGN CHOICE, log 55) -/
def execSlacMatchTimeout (t run : Nat) (s : State) : Host.Outcome State Fault Refusal :=
  .next (onEvent s t fun s =>
    match s.slacRun run with
    | some r => if r.holders = [] then s else forEach r.holders (fun p s => s.slacFail p) (s.dropSlac run)
    | none => s)

/-- SLAC_INIT_TIMEOUT (R111). (DESIGN CHOICE, log 55) -/
def execSlacInitTimeout (t n : Nat) (s : State) : Host.Outcome State Fault Refusal :=
  .next (onEvent s t fun s =>
    match (s.outlet n).slacRetryDue with
    | some due => if due ≤ s.mtb && (s.outlet n).st == .connected then s.slacFail n else s
    | none => s)

end Sys2Proof.Machine
end

