-- ==== Sys2Proof/Machine/StartOps.lean ====
section
/-! DEFINITION. The parts of a start (R498): what outlasts a stop, the boot pointer and the trial, the journal and the
commands in flight, the root, the replay of the ledger and the boundaries of the outage. -/

namespace Sys2Proof.Machine

/-- The numbers of the kept register fields. -/
def keptIds : List Nat := keptFields.map Fld.id

/-- A register cell that outlasts a start. -/
def cellKept (c : Nat × Nat) : Bool := keptIds.contains (Nat.unpair c.1).1

/-- The id in the body of a session record. -/
def Rec.session (r : Rec) : Nat := (r.body.getD 4 (0, 0)).2

namespace State

/-! ### What a start keeps -/

/-- The displays at a start (R423, R429, R431): the images and the segments stand as they are, the pending buffer is gone,
the Vintage counters are the saved ones, and only the regions cut at the stop remain. (DESIGN CHOICE, log 112) -/
def dispStartUp (s : State) : State :=
  let d := s.disp
  let cut := (List.range 16).foldl (fun (a : Tab DRegion) r =>
    if (s.region r).st == .cut then a.put DRegion.init r { s.region r with ctx := none, cask := 16 } else a) Tab.empty
  { s with disp := { DispSt.init with
    wave := d.wave, shown := d.shown, target := d.target, regions := cut, orders := d.orders, vint := d.vintSaved,
    vintSaved := d.vintSaved, segs := d.segs, want := d.want, com := d.com, paint := d.paint } }

/-- The registers that a start keeps; every other field returns to its reset value (R9). -/
def keepRegs (s : State) : State := { s with regs := ⟨s.regs.cells.filter cellKept⟩ }

/-- Every part of the state at the instant the islands come out of reset: registers at their reset values but for the
kept and the restored ones (R9, R516), and of the other parts what MRAM, flash and the AON domain hold. The latched
faults are latched again (R173), and their outlets are in the safe state (R169, R170).
(DESIGN CHOICE, log 27, 111, 113) -/
def afterReset (s : State) : State :=
  let h := s.host
  let safe := { SafeSt.init with
    modActive := s.safe.modLatched, modLatched := s.safe.modLatched, aliveAt := s.mtb, heartbeatAt := s.mtb,
    cycleAt := s.mtb, tableAt := s.mtb,
    outs := (List.range 8).foldl (fun (a : Tab OutSafe) n =>
      a.put OutSafe.init n { OutSafe.init with
        active := (s.os n).latched, latched := (s.os n).latched,
        safeSince := if (s.os n).latched = 0 && s.safe.modLatched = 0 then none else some s.mtb }) Tab.empty }
  let mps := (List.range 12).foldl (fun (a : Tab MeterPoint) m =>
    a.put MeterPoint.init m { MeterPoint.init with qualOpen := (s.mp m).qualOpen }) Tab.empty
  let cables := s.tag.cables
  let own := (List.range 2048).foldl (fun (a : Tab OwnBlock) b =>
    if s.tag.blocks.cells.any (fun c => c.1 == b) then a.put OwnBlock.init b (s.ownBlock b).recover else a) Tab.empty
  let torn := s.tag.blocks.cells.countP fun c => !(c.2.ok0 && c.2.ok1)
  let led := { s.ledger with
    useNums := [], pends := [], reads := [], steps := [], bound := none, held := none, billCtx := none,
    challenge := none, cal := none, sealAt := s.mtb, idleAt := s.mtb, sealIdle := false, legalItem := 0, legalUntil := 0,
    timeSet := false, subFlags := 0, commitAt := s.mtb }
  let s := s.keepRegs
  let s := ({ s with
    host := { HostSt.init with
      cfgReady := h.perstHigh, perstHigh := h.perstHigh, enHeld := h.enHeld, inflight := h.inflight, hist := h.hist,
      journal := h.journal, seqNext := 1024 * h.seqBlocks, seqBlocks := h.seqBlocks, evMem := h.evMem,
      cplMem := h.cplMem, strMem := h.strMem, irqs := h.irqs,
      statMem := if s.attached then s.leaveStatus.host.statMem else h.statMem },
    arch := { ArchSt.init with cycleStart := s.mtb },
    cask := { CaskSt.init with records := s.cask.records },
    out := OutSt.init, safe := safe, afe := AfeSt.init, filt := FiltSt.init,
    met := { MetSt.init with mps := mps, calGain := s.met.calGain },
    ledger := led,
    key := { s.key with
      root := none, cache := [], pins := [], masks := .empty, riddleAt := s.mtb, testCtx := none, drbgReq := 0,
      reseedAt := s.mtb, passes := 0, manifest := none },
    plc := { PlcSt.init with ctr := 65536 * s.plc.ctrBlocks, ctrBlocks := s.plc.ctrBlocks },
    tag := { TagSt.init with cables := cables, blocks := own },
    lsw := LswSt.init,
    upd := { s.upd with idleAt := s.mtb, act := none, fetch := none, savedAt := s.mtb, healthAt := none, bootRom := false,
                        revert := none, svc := [] },
    twin := { TwinSt.init with actIn := s.twin.actIn },
    pwr := { s.pwr with restart := none, proc := 0, vbatLost := false, procAt := s.mtb } } : State).dispStartUp
  let s := forEach restoredFields (fun p s =>
    let v := s.settings.get 0 (key2 p.1.id p.2)
    if v = 0 then s else s.wr p.1 p.2 (v - 1)) s
  let s := s.addSat R.TAG_OWN_STAT_TORN 0 torn
  if s.key.load.isSome then s.wr R.KEY_CRED_STAT_LOAD_STATE 0 1 else s

/-! ### Boot pointer -/

/-- What the boot ROM does with a pointer in state TRIAL (R466, R468, R470): the fourth start reverts; before it the
start is counted, and a slot that fails its verification reverts. Answers whether a revert took place.
(DEDUCED, DESIGN CHOICE, log 109, 174) -/
def trialStart (s : State) (b : BootIn) : Bool × State :=
  let s := s.ptrLoad
  if s.rd R.UPD_BOOT_BOOT_STATE != 1 then (false, s)
  else
    let k := s.rd R.UPD_BOOT_TRIAL_STARTS
    if 3 ≤ k then (true, s.revertPointer 0)
    else
      let s := (s.wr R.UPD_BOOT_TRIAL_STARTS 0 (k + 1)).ptrWrite
      if !b.activeOk then (true, s.revertPointer 2)
      else if k != 0 then (false, s)
      else
        let cur := s.rd R.UPD_BOOT_SETTINGS_VER
        let new := ((s.slotMan s.activeSlot).map (·.settingsVer)).getD cur
        let s := { s with upd := { s.upd with current := some (cur, s.settings) } }
        let s := if new < cur then { s with settings := .empty } else s
        (false, s.wr R.UPD_BOOT_SETTINGS_VER 0 new)

/-- The image to run verifies (R469): of two slots one suffices. The confirmed image runs where it verifies, else the
other slot is the one that starts. (DEDUCED, log 108) -/
def imageRuns (b : BootIn) (reverted : Bool) : Bool := b.otherOk || (!reverted && b.activeOk)

/-- A CONFIRMED or REVERTED pointer whose slot does not verify gives way to the other slot (R469).
(DEDUCED, log 108) -/
def slotChosen (s : State) (b : BootIn) (reverted : Bool) : State :=
  if reverted || b.activeOk || !b.otherOk || s.rd R.UPD_BOOT_BOOT_STATE = 1 then s else
  let k := 1 - s.activeSlot
  let s := { s with upd := { s.upd with confirmed := k } }
  ((s.wr R.UPD_BOOT_ACTIVE_SLOT 0 k).wr R.UPD_BOOT_ACTIVE_GEN 0 (s.slotGen k)).ptrWrite

/-! ### Journal and commands in flight -/

/-- The final status of a command in flight at the stop (R66, table Outcome of power loss): a commit whose record is
whole was committed, its closing actions held open; any other command is interrupted. -/
def restartStatus (old : State) (e : Infl) : Nat :=
  let slot := (List.range 8).find? fun k =>
    match (old.slot k).ctx with
    | some x => x.ring == e.ring && x.seq == e.seq && (old.slot k).st == .recorded
    | none => false
  match slot with
  | some k => if old.cask.records.any fun r => r.slot == k && r.id == (old.slot k).id && r.whole then
      St.COMMITTED_SAFETY_HELD else St.INTERRUPTED
  | none => St.INTERRUPTED

/-- DEVICE_START, then one RESTART_OUTCOME for each command in flight, by ring and host sequence number (R53, R54, R66). -/
def openEpoch (s old : State) (cause : Nat) : State :=
  let prev := old.rd R.HOST_SYNC_GLOBAL_DEV_SEQ_HIGH
  let first := if s.host.seqNext % 2 ^ 32 = 0 then 1 else s.host.seqNext % 2 ^ 32
  let s := (s.wr R.HOST_SYNC_GLOBAL_EPOCH 0 ((old.rd R.HOST_SYNC_GLOBAL_EPOCH + 1) % 65536)).wr R.HOST_SYNC_GLOBAL_FIRST_SEQ 0 first
  let s := s.wr R.PWR_STAT_RESTART_CAUSE 0 cause
  let s := s.raise Ev.DEVICE_START 0 [s.rd R.HOST_SYNC_GLOBAL_EPOCH, first, cause, prev]
  let cmds := (List.range 16).flatMap fun r => old.host.inflight.filter fun e => e.ring == r
  let s := forEach cmds (fun e s =>
    let st := restartStatus old e
    let s := s.raise Ev.RESTART_OUTCOME 0 [e.ring, e.seq, e.op, e.tag, st]
    s.setHist e.ring e.seq st (s.rd R.HOST_SYNC_GLOBAL_DEV_SEQ_HIGH)) s
  let s := { s with host := { s.host with inflight := [] } }
  forEach (List.range 16) (fun r s => s.syncCompleted r) s

/-! ### Root -/

/-- The key store's start (R352 to R359): known-answer tests, the Lees, the attempts. -/
def keyStart (s : State) (b : BootIn) : State :=
  let s := ((s.wr R.KEY_STATUS_ATTEST_CERT 0 1).wr R.KEY_DRBG_HEALTH_OK 0 1).cacheCounts
  if b.katFailed != [] then
    (forEach b.katFailed (fun k s => s.raise Ev.CRYPTO_KAT_FAIL 0 [k]) s).keyRecovery 1
  else
    let s := s.setKeyMode 1 0
    let s := if b.leesA then s else s.raise Ev.LEES_COPY_BAD 0 [0]
    let s := if !b.leesA && !b.leesB then s.raise Ev.LEES_COPY_BAD 0 [1] else s
    if !b.leesA && !b.leesB then s.keyRecovery 2
    else forEach (b.attempts.take 3) (fun a s =>
      if s.keyMode = 1 then s.regenerate a else s) (s.wr R.KEY_STATUS_LEES_OK 0 1)

/-- The host is ready (R498, R500): the unsigned records are signed, or the key store is in RECOVERY and signs none. A
held HOST.CTRL.EN attaches. (DEDUCED, log 28) -/
def hostReady (s : State) : State :=
  if s.flag R.GLOBAL_STATUS_HOST_READY || !((s.keyMode = 2 && s.rd R.LEDGER_STAT_UNSIGNED = 0) || s.keyMode = 4) then s else
  let s := s.wr R.GLOBAL_STATUS_HOST_READY 0 1
  if s.host.enHeld then s.attach else s

/-! ### Ledger replay -/

/-- An entry of the ledger's MRAM areas whose check fails is absent (R278); of the legal parameters the other copy serves.
(DESIGN CHOICE, log 250) -/
def dropEntry (s : State) (e : Nat × Nat) : State :=
  let l := s.ledger
  let put := fun (l : LedgerSt) => ({ s with ledger := l } : State)
  match e.1 with
  | 0 => put { l with copyA := none }
  | 1 => put { l with copyB := none }
  | 2 =>
    let copied := (s.newestCommit.map (·.appended)).getD 0
    let i := l.records.findIdx (·.seq == e.2)
    put { l with records := l.records.eraseIdx i, appended := if i < l.appended - copied then l.appended - 1 else l.appended }
  | 3 => put { l with bills := l.bills.eraseIdx e.2 }
  | 4 => if e.2 < 24 then
      ((s.wr R.LEDGER_TAMPER_COUNT e.2 0).wr R.LEDGER_TAMPER_FIRST_UTC e.2 0).wr R.LEDGER_TAMPER_LAST_UTC e.2 0 else s
  | 5 => put { l with calendar := none }
  | 6 => put { l with pending := none }
  | 7 => put { l with mark := none }
  | _ => s

/-- Drop the entries whose check fails. -/
def dropEntries (s : State) (es : List (Nat × Nat)) : State := forEach es (fun e s => s.dropEntry e) s

/-- Do something under the clock and the epoch of the run before, at an instant of its MTB (R281); the events it raises
belong to the present epoch. (DESIGN CHOICE, log 48) -/
def asOf (s old : State) (t : Nat) (f : State → State) : State :=
  let clock := [R.GLOBAL_MTB_UTC_UTC_SEC, R.GLOBAL_MTB_UTC_MTB_AT_SEC, R.GLOBAL_MTB_UTC_RTC_VALID, R.HOST_SYNC_GLOBAL_EPOCH]
  let copy := fun (src : State) (s : State) => forEach clock (fun F s => s.wr F 0 (src.rd F)) s
  let before := s
  let s := copy old { s with mtb := t, ledger := { s.ledger with offMs := old.ledger.offMs, ledgerHeld := old.ledger.ledgerHeld } }
  let s := f s
  let k := s.host.seqNext - before.host.seqNext
  let ep := before.rd R.HOST_SYNC_GLOBAL_EPOCH
  let s := copy before s
  { s with
    mtb := before.mtb
    ledger := { s.ledger with offMs := before.ledger.offMs, ledgerHeld := before.ledger.ledgerHeld }
    host := { s.host with journal := s.host.journal.zipIdx.map fun p =>
      if p.2 < k then { p.1 with epoch := ep, mtb := before.mtb } else p.1 } }

/-- Load a state copy (R280, R281). Of the registers it holds, those that a start keeps. -/
def loadCommit (s : State) (c : Commit) : State :=
  let regs := s.regs.cells.filter fun x => !inCommit x
  let s := { s with regs := overlay ⟨regs⟩ ⟨c.regs.cells.filter cellKept⟩ }
  { s with ledger := { s.ledger with accts := c.accts, sess := c.sess, maxD := c.maxD, subStart := c.subStart } }

/-- Replay the session of an outlet (R281, R290): a close that is in the journal clears it; one that opened after the copy,
by a record in the journal or one with a reserved number, is restored without energy; a close of a Cask stands.
(DESIGN CHOICE, log 106) -/
def replaySession (s old : State) (fresh : List Rec) (n : Nat) : State :=
  let ended := fun (id : Nat) => fresh.any fun r => r.kind == rSESSION_CLOSE && r.session == id
  let had := s.lsess n
  let s := if had.opened && ended had.id then s.modLsess n fun _ => LSession.init else s
  let had := s.lsess n
  let l := old.lsess n
  if !l.opened || ended l.id then s
  else if had.opened && had.id == l.id then
    if l.closing && l.num.isSome then s.modLsess n fun h => { h with
      closing := true, tClose := l.tClose, ledgerClose := l.ledgerClose, flagsClose := l.flagsClose, reason := l.reason, num := l.num }
    else s
  else if (fresh.any fun r => r.kind == rSESSION_OPEN && r.session == l.id)
      || old.ledger.pends.any fun p => !p.reading && p.outlet == n && p.num.isSome then
    let s := s.modLsess n fun _ => { l with
      closing := l.closing && l.num.isSome, segs := l.segs.map fun g => { g with imp := 0, exp := 0 } }
    ((s.wr R.MET_SESS_SESSION_ID l.mp l.id).wr R.MET_SESS_A_IMP l.mp 0).wr R.MET_SESS_A_EXP l.mp 0
  else s

/-- Replay what the journal says about tariffs and billing (R281): a forced tariff, a closed period's maxima.
(DESIGN CHOICE, log 48) -/
def replayRecord (s : State) (r : Rec) : State :=
  if r.kind = rBILLING then
    forEach (List.range 12) (fun m s => (s.wr R.LEDGER_DEMAND_MAX_IMP_W m 0).wr R.LEDGER_DEMAND_MAX_IMP_UTC m 0)
      { s with ledger := { s.ledger with maxD := .empty } }
  else if r.kind = rTARIFF && (r.body.getD 2 (0, 0)).2 != 0 then
    let mask := (r.body.getD 0 (0, 0)).2
    let t := (r.body.getD 1 (0, 0)).2
    forEach ((List.range 12).filter (bit mask ·)) (fun m s => s.modAcct m fun a => { a with
      forced1 := if t = 0xFF then 0 else t + 1, price := (r.body.getD 3 (0, 0)).2 }) s
  else s

/-- The durable actions of a Cask that was RECORDED and not applied, as of its T (R83, R281).
(DESIGN CHOICE, log 48) -/
def replayCask (s old : State) (k : Nat) : State :=
  let c := old.slot k
  match old.cask.records.find? fun r => r.slot == k && r.id == c.id && r.whole with
  | none => s
  | some r =>
    if c.st != .recorded || c.appliedEarly then s else
    s.asOf old r.tApply fun s =>
      let s := { s with out := old.out }
      let s := s.useNums (old.slotReserved k)
      let s := forEach (c.acts.zipIdx.filter fun p => durable p.1) (fun p s => s.applyAct k p.2 r.tApply false p.1) s
      let s := match s.ledger.bound with
        | some b => s.transaction b
        | none => s
      { s.useNums [] with out := OutSt.init }

/-- A record whose number a Cask reserved is appended as of its instant (R281). (DESIGN CHOICE, log 107) -/
def replayPend (s old : State) (p : PendRec) : State := s.asOf old p.at_ fun s => s.flushPend p

/-- The estimate of a meter point between L and the end of metering (R286). Without a marker there is none.
(DEDUCED, log 102) -/
def estimateStart (s : State) (mark : Option PourMark) (tStop : Option Nat) (m : Nat) : State :=
  match mark with
  | some k => s.putEst m (k.power.getD m 0) (tStop.map (· - k.l))
  | none => (((s.wr R.LEDGER_EST_EST_UWH m 0).wr R.LEDGER_EST_EST_VALID m 0).wr R.LEDGER_EST_EST_EXPORT m 0).wr R.LEDGER_EST_EST_CAPPED m 0

/-- PMAX × the commit interval in Wh, rounded up (R274, R288). (DESIGN CHOICE, log 103) -/
def lossBound (s : State) (m : Nat) : Nat :=
  let p := s.rd R.MET_RATING_UNOM m * s.rd R.MET_RATING_IMAX m * if s.rd R.MET_CFG_TYPE m = 2 then 3 else 1
  (p * s.rd R.LEDGER_CFG_COMMIT_100MS + 3600 * 10 ^ 5 - 1) / (3600 * 10 ^ 5)

/-- Close the session of an outlet at a start (R290): one whose close instant lay at or before the close time gets the
record it was owed; any other closes with POWER_LOSS at the close time. (DESIGN CHOICE, log 106) -/
def restartClose (s old : State) (closeAt loss n : Nat) : State :=
  let l := s.lsess n
  if !l.opened then s
  else if l.closing && decide (l.tClose ≤ closeAt) then
    match l.num with
    | some _ => s.asOf old l.tClose fun s => s.closeRecord n loss 0
    | none => s.closeRecord n loss 0
  else
    let v := s.rd R.LEDGER_EST_EST_VALID l.mp
    let extra := loss + 2 * v + 4 * s.rd R.LEDGER_EST_EST_EXPORT l.mp + 8 * s.rd R.LEDGER_EST_EST_CAPPED l.mp + 2048
    let s := s.modLsess n fun l => { l with
      closing := true, tClose := closeAt, ledgerClose := old.ledgerMsAt closeAt, flagsClose := old.timeFlags,
      reason := ePOWER_LOSS, num := none }
    s.closeRecord n extra (if v = 0 then 0 else s.rd R.LEDGER_EST_EST_UWH l.mp)

/-- The sub-intervals and billing periods of the outage (R306): the interval that holds the close time closes with its
energy, the others with none, and the one in progress is PARTIAL. Answers how many intervals and periods closed.
(DEDUCED, DESIGN CHOICE, log 104, 120) -/
def outageBounds (s : State) (w0 w1 subW : Nat) : (Nat × Nat) × State :=
  let ok := s.rtcValid && w0 != 0
  let k := if ok then s.localOf w1 / s.subLen - s.localOf w0 / s.subLen else 0
  let edge := w0 - s.localOf w0 % s.subLen + s.subLen
  let s := { s with ledger := { s.ledger with subFlags := 0 } }
  let s := if k = 0 then
      forEach (List.range 12) (fun m s => s.modAcct m fun a => { a with
        base := a.recent.foldl (fun b r => addCounts b ((sixOf r.2).take 4)) a.base, recent := [] }) s
    else
      let s := forEach (List.range 12) (fun m s => s.demandClose m (s.ledger.subStart + (edge - subW) * 10 ^ 9) edge 8) s
      if k = 1 then s else forEach (List.range 12) (fun m s =>
        forEach [R.LEDGER_DEMAND_LAST_IMP_W, R.LEDGER_DEMAND_LAST_EXP_W, R.LEDGER_DEMAND_LAST_RIMP_VAR, R.LEDGER_DEMAND_LAST_REXP_VAR]
          (fun F s => s.wr F m 0) s) s
  let (n, s) := if ok then s.closeBetween w0 w1 8 2 true else ((0, 0), s)
  let nominal := if k = 0 && ok then subW else w1 - s.localOf w1 % s.subLen
  (n, { s with ledger := { s.ledger with
    subStart := s.mtb, subWall := if s.rtcValid then nominal else 0, subFlags := 32,
    lastClosed := if s.rtcValid then max s.ledger.lastClosed (if k = 0 then w0 else w1 - s.localOf w1 % s.subLen)
      else max s.ledger.lastClosed w0 } })

/-- The records and tamper types of a start (R288, R306, R315, R493): POSSIBLE_LOSS, the OUTAGE record, POWER_OUTAGE,
RTC_LOST and the activations of TAMPER0 to TAMPER3 that the AON domain counted. (DEDUCED, log 104) -/
def outageRecord (s : State) (closeMs : Nat) (valid : Bool) (n : Nat × Nat) : State :=
  let per := (List.range 12).flatMap fun m =>
    [(8, s.rd R.LEDGER_EST_EST_UWH m),
     (4, s.rd R.LEDGER_EST_EST_VALID m + 2 * s.rd R.LEDGER_EST_EST_EXPORT m + 4 * s.rd R.LEDGER_EST_EST_CAPPED m
       + 8 * s.rd R.LEDGER_EST_LOSS m),
     (4, s.rd R.LEDGER_EST_LOSS_BOUND_WH m)]
  s.append rOUTAGE 0xFF ([(8, closeMs), (4, s.wallS), (1, b2n valid), (3, 0), (4, n.1), (1, n.2), (3, 0)] ++ per)

/-- Activations of a tamper input without VIN, with the RTC times of the first and the last (R315).
(DESIGN CHOICE, log 115) -/
def tamperCarried (s : State) (k first last : Nat) : State :=
  let c := s.rd R.PWR_TAMPER_VBAT_COUNT k
  if c = 0 then s else
  let fresh := s.rd R.LEDGER_TAMPER_COUNT k = 0
  let s := s.tamperMany (k + 1) 0 c
  let s := if fresh then s.wr R.LEDGER_TAMPER_FIRST_UTC k first else s
  s.wr R.LEDGER_TAMPER_LAST_UTC k last

/-- The ledger's start: the newest copy is loaded and replayed, and the outage's sessions and boundaries close (R281,
R286, R288, R290, R306, R315). `old` is the state at the stop. (DEDUCED, DESIGN CHOICE, log 102, 105, 189, 190) -/
def ledgerStart (s old : State) (cause : Nat) : State :=
  let sw := cause = 0x10 || cause = 0x11
  match old.newestCommit with
  | none =>
    let w := s.wallS
    ({ s with ledger := { s.ledger with subStart := s.mtb, subWall := if s.rtcValid then w - s.localOf w % s.subLen else 0, subFlags := 32 } } : State).raise
      Ev.LEDGER_RESTART 0 [0, 0, 0, s.rd R.LEDGER_STAT_POSSIBLE_LOSS]
  | some c =>
    let mark := old.ledger.mark.filter fun _ => decide (c.num ≤ old.ledger.markNum)
    let valid := mark.isSome
    let closeAt := match mark with
      | some m => m.l
      | none => c.at_
    let closeMs := match mark with
      | some m => m.wall
      | none => c.wall
    let fresh := old.ledger.records.take (old.ledger.appended - c.appended)
    let s := s.loadCommit c
    let s := forEach fresh.reverse (fun r s => s.replayRecord r) s
    let s := forEach (List.range 8) (fun n s => s.replaySession old fresh n) s
    let s := forEach (List.range 12) (fun m s => (s.wr R.MET_SESS_OPEN m 0).wr R.MET_SESS_CLOSED_PENDING m 0) s
    let s := forEach (List.range 16) (fun k s => s.replayCask old k) s
    let s := forEach (old.ledger.pends.filter fun p => p.num.isSome) (fun p s => s.replayPend old p) s
    let s := forEach (List.range 12) (fun m s => (s.wr R.MET_SESS_OPEN m 0).wr R.MET_SESS_CLOSED_PENDING m 0) s
    let ms := (List.range 12).filter fun m => s.flag R.MET_CFG_EN m
    let s := forEach ms (fun m s =>
      let s := s.estimateStart mark old.ledger.tStop m
      (s.wr R.LEDGER_EST_LOSS m (b2n !valid)).wr R.LEDGER_EST_LOSS_BOUND_WH m (if valid then 0 else s.lossBound m)) s
    let s := if valid then s else s.wr R.LEDGER_STAT_POSSIBLE_LOSS 0 1
    let s := s.raise Ev.LEDGER_RESTART 0 [if sw then 0 else 1, b2n valid, closeAt, s.rd R.LEDGER_STAT_POSSIBLE_LOSS]
    let s := forEach (List.range 8) (fun n s => s.restartClose old closeAt (b2n !valid) n) s
    let subW := c.wall / 1000 - (c.at_ - c.subStart) / 10 ^ 9
    let (n, s) := s.outageBounds (closeMs / 1000) s.wallS subW
    let s := if sw then s else s.outageRecord closeMs valid n
    let s := if valid then s else s.tamper tPOSSIBLE_LOSS 0
    let s := if old.ledger.outageDue then
      ({ s with ledger := { s.ledger with outageDue := false } } : State).tamper tPOWER_OUTAGE 0 else s
    if old.pwr.vbatLost then s.tamper tRTC_LOST 0 else s

end State
end Sys2Proof.Machine
end

