-- ==== Sys2Proof/Machine/Start.lean ====
section
/-! DEFINITION. The start of the module (R498), and the signing and the retry that complete it. -/

namespace Sys2Proof.Machine
namespace State

/-- The clocks at a start (R21, R493, R496): the MTB and the RTC form the UTC pair where the RTC is valid.
(DESIGN CHOICE, log 100, 101) -/
def clockStart (s old : State) (b : BootIn) : State :=
  let s := ((s.wr R.PWR_CLK_XTAL49_OK 0 1).wr R.PWR_CLK_XTAL25_OK 0 1).setFlag R.PWR_CLK_XTAL32_OK 0 b.xtal32
  let s := (s.setFlag R.PWR_CLK_RTC_FALLBACK 0 (!b.xtal32)).setFlag R.PWR_CLK_REFCLK_OK 0 b.refclk
  if old.rtcValid && !old.pwr.vbatLost then
    let s := (s.wr R.GLOBAL_MTB_UTC_UTC_SEC 0 (b.rtcMs / 1000)).wrInt R.GLOBAL_MTB_UTC_MTB_AT_SEC 0
        (s.mtb - (b.rtcMs % 1000 * 10 ^ 6 : Nat))
    (s.wr R.GLOBAL_MTB_UTC_RTC_VALID 0 1).wr R.LEDGER_TIME_CLOCK_VALID 0 1
  else s

/-- A sensitivity at which 220 mA exceeds VALID_MV fails the table (R189). -/
def rcmFits (s : State) : Bool :=
  (List.range 8).all fun i => decide (220 * s.rd R.AFE_RCM_CFG_SENS_UV_MA i ≤ 1000 * s.rd R.AFE_RCM_CFG_VALID_MV i)

/-- Channel B's parameters come from HSL_TABLE (R134, R189); without one of its own the delivered table's, the reset
values. -/
def hslLoad (s : State) (h : Option HslTable) : State :=
  match h with
  | none => s
  | some h =>
    let s := (s.wr R.SAFE_CFG_TEST_PERIOD_S 0 h.testS).wr R.SAFE_CFG_TEST_US 0 h.testUs
    let s := forEach h.coils.zipIdx (fun p s =>
      let (c, k) := p
      let s := ((s.setFlag R.SAFE_COIL_CFG_EN k c.en).wr R.SAFE_COIL_CFG_OUTLET k c.outlet).wr R.SAFE_COIL_CFG_ROLE k c.role
      let s := (s.setFlag R.SAFE_COIL_CFG_MIRROR_EN k c.mirrorEn).setFlag R.SAFE_COIL_CFG_MIRROR_POL k c.mirrorPol
      ((s.wr R.SAFE_COIL_CFG_PULLIN_MA k c.pullInMa).wr R.SAFE_COIL_CFG_HOLD_MA k c.holdMa).wr R.SAFE_COIL_CFG_PULLIN_MS k c.pullInMs) s
    let s := forEach h.rcm.zipIdx (fun p s =>
      let ((sens, turns, mv), i) := p
      ((s.wr R.AFE_RCM_CFG_SENS_UV_MA i sens).wr R.AFE_RCM_CFG_TEST_TURNS i turns).wr R.AFE_RCM_CFG_VALID_MV i mv) s
    { s with safe := { s.safe with pilotFiltB := h.pilotFiltB } }

/-- The switch sides that failed step 2 or 3 of the self-test (R139): SWITCH_STUCK for their outlets, COIL_UNCONTROL where
both sides of a coil read back on. (DESIGN CHOICE, log 238) -/
def switchSteps (s : State) (b : BootIn) : State :=
  let s := forEach b.step2 (fun p s => s.modCoil p.1 fun c => { c with
    stuckHs := c.stuckHs || !p.2, stuckLs := c.stuckLs || p.2, hs := c.hs || !p.2, ls := c.ls || p.2 }) s
  let s := forEach (b.step2 ++ b.step3) (fun p s =>
    s.trip (s.rd R.SAFE_COIL_CFG_OUTLET p.1) fSWITCH_STUCK (b2n p.2) s.mtb) s
  match (List.range 16).find? fun k => (s.coil k).hs && (s.coil k).ls with
  | some k => (s.moduleTrip fCOIL_UNCONTROL 1 s.mtb).shuntOn (s.rd R.SAFE_COIL_CFG_OUTLET k)
  | none => s

/-- The safety channels at a start (R135, R139, R173): the table check, the first three steps of the self-test, and the
residual-current self-tests of step 4 asked for. -/
def safeStart (s : State) (b : BootIn) : State :=
  let s := s.hslLoad b.hsl
  let ok := b.tableOk && s.rcmFits
  let s := { s with safe := { s.safe with
    tableOk := ok, hashOk := ok, steps123 := ok && b.step2.isEmpty && b.step3.isEmpty } }
  let s := ((s.setFlag R.SAFE_STATUS_TABLE_OK 0 ok).setFlag R.SAFE_STATUS_A_RUN 0 true).setFlag R.SAFE_STATUS_B_RUN 0 true
  let s := if ok then s else s.moduleTrip fTABLE_FAIL 0 s.mtb
  let s := s.switchSteps b
  forEach (List.range 8) (fun n s => if s.outType n = 0 then s else s.testSensor n) s

/-- Metering at a start (R216, R237): the modulators start and every chain settles. -/
def meterStart (s : State) : State :=
  let s := forEach ((List.range 64).filter s.afeEn) (fun c s =>
    let s := { s with filt := { s.filt with restartAt := s.filt.restartAt.put 0 c s.mtb } }
    (s.wr R.FILT_STAT_SETTLING c 1).updateGd c) s
  let s := s.trkRefreshAll.mpEvalAll
  forEach ((List.range 8).filter fun k => s.flag R.MET_PULSE_EN k) (fun k s => s.pulseReset k) s

/-- The legal image changed with this start: an update at its first trial, else a revert (R472).
(DESIGN CHOICE, log 109) -/
def legalChange (s old : State) (was new : Nat) (firstTrial : Bool) : State :=
  let detail := was % 2 ^ 64 + 2 ^ 64 * (new % 2 ^ 64)
  if was = new || was = 0 then s
  else if firstTrial then s.tamper tLEGAL_UPDATE detail
  else if old.upd.reverted.isSome || s.rd R.UPD_BOOT_BOOT_STATE = 2 then s.tamper tLEGAL_REVERT detail else s

/-- A revert before this start is reported (R468). -/
def revertNote (s : State) : State :=
  match s.upd.reverted with
  | some (cause, gen) => ({ s with upd := { s.upd with reverted := none } } : State).raise Ev.UPD_REVERTED 0 [cause, gen]
  | none => s

/-- The update engine after a start (R468, R471, R472): UPD_REVERTED, the check value of LEGAL_FW and its tamper types, the
trial. -/
def updStart (s old : State) (b : BootIn) (firstTrial : Bool) : State :=
  let s := s.revertNote
  let was := old.rd R.LEDGER_LEGAL_ID_SHA256
  let new := s.slotPart s.activeSlot 3
  let s := s.wr R.LEDGER_LEGAL_ID_SHA256 0 new
  let s := s.legalChange old was new firstTrial
  let s := if s.updState = 5 then { s with upd := { s.upd with legalOk := b.legalOk } } else s
  if s.updState = 4 then s.updGo 3 St.OK else s

/-- The displays after a start (R408, R431): the waveforms, the cut painting and the cut regions.
(DESIGN CHOICE, log 161) -/
def displayStart (s : State) (b : BootIn) : State :=
  let wave := match s.upd.waves.get none s.activeSlot with
    | some w => w
    | none => b.wave
  ({ s with disp := { s.disp with wave := some wave } } : State).bandShow.segRecover.dispWake

/-- The module starts (R498), without the entries whose check fails. `old` is the state at the stop, `cause` the restart cause of the boot pointer's choice. -/
def startRun (s old : State) (b : BootIn) (cause : Nat) (firstTrial : Bool) : State :=
  let first := old.host.seqBlocks = 0
  let s := { s.afterReset with phase := .running }
  let s := s.clockStart old b
  let s := s.openEpoch old cause
  let s := s.updStart old b firstTrial
  let s := forEach (List.range 14) (fun i s => s.islandGo i) s
  let s := s.keyStart b
  let s := s.safeStart b
  let s := forEach (List.range 12) (fun m s => s.modAcct m fun a => { a with recent := [] })
    (if first then s.ledgerStart { old with pwr := { old.pwr with vbatLost := false } } cause else s.ledgerStart old cause)
  let s := forEach b.corrupt (fun e s => s.tamper tLEDGER_CORRUPT (e.1 + 256 * e.2)) s
  let s := if s.rtcValid then forEach (List.range 12) (fun m s => s.tariffGo m s.mtb (s.tariffFor m s.wallS)) s
    else forEach (List.range 12) (fun m s => s.tariffGo m s.mtb (s.tariffFor m 0)) s
  let s := if old.pwr.vbatLost then forEach (List.range 4) (fun k s => s.wr R.PWR_TAMPER_VBAT_COUNT k 0) s
    else forEach (List.range 4) (fun k s =>
      let p := b.tampered.getD k (0, 0)
      s.tamperCarried k p.1 p.2) s
  let s := { s with ledger := { s.ledger with armed := true, mark := none } }
  let s := s.meterStart
  let s := s.recoveryOutlets
  let s := (s.trellisEn.plcFollowAll).displayStart b
  s.hostReady

/-- A start from a valid VIN (R488, R497, R498): without XTAL25 there is none; with no slot that verifies the module stays
in the boot ROM (R469). -/
def startUp (s : State) (b : BootIn) : State :=
  if s.phase != .vinValid || !b.xtal25 then s else
  let old := s
  let firstTrial := s.rd R.UPD_BOOT_BOOT_STATE = 1 && s.rd R.UPD_BOOT_TRIAL_STARTS = 0 && b.activeOk
  let (rev, s) := s.trialStart b
  if !imageRuns b rev then { s with upd := { s.upd with bootRom := true } } else
  let s := s.slotChosen b rev
  let cause := if rev then 0x11 else s.pwr.restart.getD (if s.pwr.vbatLost then 0x00 else 0x01)
  (s.dropEntries b.corrupt).startRun (old.dropEntries b.corrupt) b cause firstTrial

end State

/-- START_UP (R498). (DESIGN CHOICE, log 99, 110) -/
def execStartUp (t : Nat) (boot : BootIn) (s : State) : Host.Outcome State Fault Refusal :=
  .next (if s.phase = .vinValid then (s.advance t).startUp boot else s)

/-- RECORD_SIGN (R282, R498): with the last unsigned record signed, the host is ready. -/
def execRecordSign (t : Nat) (s : State) : Host.Outcome State Fault Refusal :=
  .next (onCore s t fun s => if s.up then s.signOldest.hostReady else s.signOldest)

/-- PUF_RETRY (R355): the next attempt, after the region has been unpowered for 10 ms; `ber` is the raw cell error rate of a success.
(DESIGN CHOICE, log 114) -/
def execPufRetry (t : Nat) (ber : Option Nat) (s : State) : Host.Outcome State Fault Refusal :=
  .next (onEvent s t fun s =>
    if s.keyMode = 1 && s.key.root.isNone && s.rd R.KEY_PUF_STAT_ATTEMPTS < 3 && s.key.tryAt + 10 ^ 7 ≤ s.mtb then
      ((s.regenerate ber).recoveryOutlets).hostReady
    else s)

end Sys2Proof.Machine
end

