-- ==== Sys2Proof/Machine/Tag.lean ====
section
/-! DEFINITION. Commands and events of the card reader, the cable tags and the own tag (R388 to R407). -/

namespace Sys2Proof.Machine

/-! ### Pruning walk -/

/-- The bits of a UID in transmission order: the least significant bit of the first byte first. -/
def uidBits (u : List Byte) : List Bool := u.flatMap fun b => (List.range 8).map fun i => b.getLsbD i

/-- The bits a Type A card gives over its cascade levels (R393): blocks of four bytes, each but the last led by the
cascade tag 0x88. (DESIGN CHOICE, log 152) -/
def cascadeBits (u : List Byte) : List Bool :=
  if u.length = 10 then uidBits ([0x88#8] ++ u.take 3 ++ [0x88#8] ++ (u.drop 3).take 3 ++ u.drop 6)
  else if u.length = 7 then uidBits ([0x88#8] ++ u.take 3 ++ u.drop 3) else uidBits u

/-- The first position in which two answers differ. -/
def firstDiff : List Bool → List Bool → Option Nat
  | a :: as, b :: bs => if a = b then (firstDiff as bs).map (· + 1) else some 0
  | _, _ => none

/-- The first collided position of the answers to a query. -/
def collision : List (List Bool) → Option Nat
  | [] => none
  | a :: r => (r.filterMap (firstDiff a)).min?

/-- The answers of the tags that match a prefix: their bits up to the end of the level the prefix lies in. -/
def answers (level : Nat) (tags : List (List Bool)) (p : List Bool) : List (List Bool) :=
  let stop := (p.length / level + 1) * level
  (tags.filter fun b => decide (p.length < b.length) && p.isPrefixOf b).map fun b => (b.take stop).drop p.length

/-- A completed level goes on with the next one (R393): Type A, and its first byte is the cascade tag. -/
def cascades (level : Nat) (b : List Bool) : Bool :=
  level == 32 && (b.drop (b.length - 32)).take 8 == uidBits [0x88#8]

/-- The walk (R392, R393) over the prefixes that wait, the last in first: tags found and frames used. `level` is 32 on
Type A and 64 on ISO/IEC 15693. (DESIGN CHOICE, log 152) -/
def walk (level : Nat) (tags : List (List Bool)) :
    Nat → List (List Bool) → List (List Bool) → Nat → List (List Bool) × Nat
  | 0, _, found, frames => (found, frames)
  | _, [], found, frames => (found, frames)
  | fuel + 1, p :: r, found, frames =>
    if 8 ≤ found.length then (found, frames) else
    match answers level tags p with
    | [] => walk level tags fuel r found (frames + 1)
    | a :: as =>
      match collision (a :: as) with
      | some c => walk level tags fuel ((p ++ a.take c ++ [false]) :: (p ++ a.take c ++ [true]) :: r) found (frames + 1)
      | none =>
        if cascades level (p ++ a) then walk level tags fuel ((p ++ a) :: r) found (frames + 1)
        else walk level tags fuel r (found ++ [p ++ a]) (frames + 1)

/-- A whole walk of at most 64 frames from the empty prefix. -/
def walkAll (level : Nat) (tags : List (List Bool)) : List (List Bool) × Nat := walk level tags 64 [[]] [] 0

namespace State

/-- TAG_WALK_LIMIT when a walk has reached 64 frames or 8 tags (R392). (DESIGN CHOICE, log 152) -/
def walkLimit (s : State) (port frames found : Nat) : State :=
  if frames < 64 && found < 8 then s
  else (s.incSat R.TAG_RDR_STAT_WALK_LIMIT 0).raise Ev.TAG_WALK_LIMIT 0 [port, frames, found]

/-- A record's blocks on a card wherever it may bind (R378); the outlets of its mask are checked where it binds.
(DESIGN CHOICE, log 51) -/
def cardBlocked (s : State) (r : CredRec) : Bool :=
  match s.unauthorised with
  | [n] => s.credBlocked r n
  | _ => s.credBlocked { r with mask := 0xFF } 0

/-- A card without a record that lets it charge (R391). -/
def refuseCard (s : State) (proto h code : Nat) : State :=
  let n := match s.unauthorised with
    | [n] => n
    | _ => 0xFF
  (s.raise Ev.TAG_CARD 0 [proto, h, code, 0xFF]).raise Ev.AUTH_RESULT (n % 16) [n, 1, h, code]

/-- One card was found (R114, R390, R391): it is looked up, authenticated with the AES-128 key its record names where the record says so, and handed to the
authorisation rules. It stops the session it owns, also where the store no longer has it, and is refused NOT_OWNER in a
session of another; a random identity is ignored. (DESIGN CHOICE, log 151) -/
def oneCard (s : State) (proto : Nat) (uid : List Byte) (authOk : Bool) : State :=
  let kind := if proto = 2 then 2 else 1
  let h := identHash uid
  if kind = 1 && uid.length = 4 && uid.head? = some 0x08#8 then s.raise Ev.TAG_CARD 0 [proto, h, 1, 0xFF] else
  if s.tag.handed.any fun e => e.1 == kind && e.2.1 == h then s else
  let s := { s with tag := { s.tag with handed := s.tag.handed ++ [(kind, h, s.mtb)] } }
  let known := if s.credUp then s.credRecord kind h else none
  let fails := match known with
    | some (r, _) => bit r.flags 2 && !(authOk && s.key.nodes.any fun k => k.handle == r.cardKey && k.typ == 1 && !k.stale)
    | none => false
  if fails then s.refuseCard proto h 2 else
  match s.ownedBy kind h, s.busyOutlet, known with
  | some n, _, _ => (s.stopSession n eUSER_STOP).raise Ev.TAG_CARD 0 [proto, h, 0, 0xFF]
  | none, some n, _ => (s.raise Ev.AUTH_RESULT n [n, 1, h, 3]).raise Ev.TAG_CARD 0 [proto, h, 0, 0xFF]
  | none, none, none => s.refuseCard proto h 1
  | none, none, some (r, i) =>
    if s.cardBlocked r then s.refuseCard proto h 2
    else
      let before := s
      let s := s.cardPresented (.ofRec 1 i r)
      let bound := (List.range 8).find? fun n => (before.outlet n).ident.isNone && (s.outlet n).ident.isSome
      s.raise Ev.TAG_CARD 0 [proto, h, 0, bound.getD 0xFF]

/-- What one protocol of a poll found. -/
def pollFound (s : State) (proto : Nat) (cards : List (List Byte)) (found : Nat) (authOk : Bool) : State :=
  match cards with
  | [u] => if found = 1 then s.oneCard proto u authOk else s
  | _ => if 1 < found then (s.incSat R.TAG_RDR_STAT_MULTI 0).raise Ev.TAG_MULTI 0 [proto, found] else s

/-- Cards of a poll were present; those handed over and absent for CARD_GONE_MS may be handed over again (R390).
(DESIGN CHOICE, log 151) -/
def cardsSeen (s : State) (kind : Nat) (cards : List (List Byte)) : State :=
  let hs := cards.map identHash
  let seen := s.tag.handed.map fun (e : Nat × Nat × Nat) => if e.1 == kind && hs.contains e.2.1 then (e.1, e.2.1, s.mtb) else e
  let gone := s.rd R.TAG_RDR_CFG_CARD_GONE_MS * 10 ^ 6
  let now := s.mtb
  { s with tag := { s.tag with handed := seen.filter fun (e : Nat × Nat × Nat) => decide (now - e.2.2 < gone) } }

/-- RDR1 may read or write (R389, R394). -/
def rdr1On (s : State) : Bool := s.flag R.TAG_RDR_CFG_RDR1_EN

end State

/-- RDR0_POLL (R390 to R393), once POLL_MS has passed: `cardsA`, `cardsB` and `cards15` are the UIDs of the cards in the field by protocol, `authOk`
that a card passes the authentication its record asks for, `rxErr` the frames with CRC or timing errors. -/
def execRdr0Poll (t : Nat) (cardsA cardsB cards15 : List (List Byte)) (authOk : Bool) (rxErr : Nat) (s : State) :
    Host.Outcome State Fault Refusal :=
  .next (onEvent s t fun s =>
    if !s.flag R.TAG_RDR_CFG_RDR0_EN || !s.flag R.GLOBAL_ISLAND_STAT_READY 5
        || s.mtb < s.tag.pollAt + 10 ^ 6 * s.rd R.TAG_RDR_CFG_POLL_MS then s else
    let s := { s with tag := { s.tag with pollAt := s.mtb } }
    let s := s.addSat R.TAG_RDR_STAT_RX_ERR 0 rxErr
    let proto := fun k => bit (s.rd R.TAG_RDR_CFG_PROTO_EN) k
    let a := if proto 0 then walkAll 32 (cardsA.map cascadeBits) else ([], 0)
    let s := if proto 0 then s.walkLimit 0 a.2 a.1.length else s
    if a.1 != [] then (s.cardsSeen 1 cardsA).pollFound 0 cardsA.eraseDups a.1.length authOk
    else if proto 1 && cardsB != [] then (s.cardsSeen 1 cardsB).pollFound 1 cardsB.eraseDups cardsB.eraseDups.length authOk
    else
      let v := if proto 2 then walkAll 64 (cards15.map uidBits) else ([], 0)
      let s := if proto 2 then s.walkLimit 0 v.2 v.1.length else s
      if v.1 != [] then (s.cardsSeen 2 cards15).pollFound 2 cards15.eraseDups v.1.length authOk
      else s.cardsSeen 0 [])

/-! ### Cable tags -/

/-- A number in a tag's bytes. -/
def tagField (bs : List Byte) (lo k : Nat) : Nat := leField (bs.map (·.toNat)) lo k

/-- The identity is valid (R395, R398): "ZCT1" and its CRC-32. -/
def identOk (r : CableRead) : Bool := r.identCrc && (r.ident.take 4).map (·.toNat) == [0x5A, 0x43, 0x54, 0x31]

/-- The fields of a life copy whose CRC-32 holds (R396). -/
def lifeOf (bs : List Byte) (crcOk : Bool) : Option LifeCopy :=
  if crcOk then
    some ⟨tagField bs 0 4, tagField bs 4 4, tagField bs 8 4, tagField bs 12 4, tagField bs 16 2, tagField bs 18 1⟩
  else none

/-- The 24 bytes of a life copy (R396). -/
def lifeBytes (l : LifeCopy) : List Nat :=
  let bs := leBytes 4 l.seq ++ leBytes 4 l.mating ++ leBytes 4 l.sessions ++ leBytes 4 l.wh ++ leBytes 2 l.openings ++ [l.flags, 0]
  bs ++ leBytes 4 (Config.crc32 bs)

/-- The current life copy (R396), the valid one with the higher sequence in modulo-2^32 serial arithmetic, and which of A (0) and
B (1) the other one is. -/
def lifeCurrent (r : CableRead) : Option (LifeCopy × Nat) :=
  match lifeOf r.lifeA r.crcA, lifeOf r.lifeB r.crcB with
  | some a, some b => some (if (b.seq + 2 ^ 32 - a.seq % 2 ^ 32) % 2 ^ 32 - 1 < 2 ^ 31 - 1 then (b, 0) else (a, 1))
  | some a, none => some (a, 1)
  | none, some b => some (b, 0)
  | none, none => none

namespace State

/-- The cause of MISSING (R398), 0 where the tag can be believed. -/
def cableCause (s : State) (n : Nat) (tag : Option CableRead) : Nat :=
  match tag with
  | none => 1
  | some r =>
    let key := (s.nodeKey [label "STORE", label "CABLE"]).isSome
    let bound := s.rd R.TAG_CABLE_UID n
    if !identOk r then 2
    else if s.rd R.TAG_CABLE_CFG_SEC = 2 && !(r.tamOk && key) then 3
    else if (lifeCurrent r).isNone then 4
    else if tagField r.ident 17 1 != s.outType n then 5
    else if bound != 0 && !(s.cable n).rebind && r.uid != bound then 6 else 0

/-- A tag that can be believed was read (R399 to R401): it is bound where the outlet waits for one, its shadow takes
the higher of tag and shadow, and what the tag lacks is written back. Answers the CABLE_STATE code.
(DESIGN CHOICE, log 147) -/
def cableBelieved (s : State) (n : Nat) (atConnect : Bool) (r : CableRead) (l : LifeCopy) (older : Nat) : Nat × State :=
  let mateLim := tagField r.ident 20 4
  let kwhLim := tagField r.ident 24 4
  let c := s.cable n
  let fresh := c.rebind && r.uid != s.rd R.TAG_CABLE_UID n
  let plus := b2n (c.rebind && atConnect)
  let top := fun (F : Fld) (v : Nat) => if fresh then v else max v (s.rd F n)
  let mating := top R.TAG_CABLE_MATING l.mating + plus
  let sessions := top R.TAG_CABLE_SESSIONS l.sessions
  let wh := top R.TAG_CABLE_ENERGY_WH l.wh
  let openings := top R.TAG_CABLE_OPENINGS l.openings
  let retired := bit l.flags 1 || (!fresh && c.retired)
  let limit := decide (mateLim ≤ mating) || (kwhLim != 0 && decide (1000 * kwhLim ≤ wh))
  let eol := bit l.flags 0 || retired || limit || (!fresh && s.flag R.TAG_CABLE_EOL n)
  if eol && fresh then (2, s) else
  let s := (((s.wr R.TAG_CABLE_UID n r.uid).wr R.TAG_CABLE_MATING n mating).wr R.TAG_CABLE_SESSIONS n sessions).wr
    R.TAG_CABLE_ENERGY_WH n wh
  let s := ((s.wr R.TAG_CABLE_OPENINGS n openings).wr R.TAG_CABLE_RATING_A n (tagField r.ident 16 1)).setFlag R.TAG_CABLE_EOL n eol
  let s := s.modCable n fun c => { c with
    mateLim := mateLim, kwhLim := kwhLim, seq := l.seq, older := older, retired := retired,
    rebind := c.rebind && eol }
  let behind := decide (l.mating < mating) || decide (l.sessions < sessions) || decide (l.wh < wh)
    || decide (l.openings < openings) || (eol && !bit l.flags 0) || (retired && !bit l.flags 1)
  let torn := !r.crcA || !r.crcB
  let s := s.setFlag R.TAG_CABLE_WRITE_PEND n behind
  let s := if behind || torn then s.addJob ⟨n, true, false, []⟩ else s
  (if eol then 2 else 0, s)

/-- What a read does to the session of its outlet (R98, R116, R117). -/
def cableSession (s : State) (n code : Nat) (atConnect : Bool) : State :=
  if !(s.outlet n).st.live then s else
  match code with
  | 0 =>
    let s := s.modOutlet n fun o => { o with tagRating := some (s.rd R.TAG_CABLE_RATING_A n) }
    s.wr R.OUT_STAT_CABLE_A n (min 255 (s.cableLimit n))
  | 1 => if s.flag R.OUT_CFG_TAG_REQ n then s.endSession n eCABLE_TAG_MISSING else s
  | _ =>
    if atConnect then ((s.sessionOver n eCABLE_EOL).offer n .stateF).setSess n .outOfService eCABLE_EOL 0
    else s.modOutlet n fun o => { o with eol := true }

/-- The job at the head of RDR1's queue is done; RDR1_SEL names its outlet (R394). -/
def nextJob (s : State) : State :=
  let sel := (s.tag.jobs.head?.map (·.n)).getD s.tag.sel
  ({ s with tag := { s.tag with sel := sel } } : State).setJobs (s.tag.jobs.drop 1)

/-- The key of the installed node STORE/CABLE (R397). -/
def cableKey (s : State) : Option Nat := s.nodeKey [label "STORE", label "CABLE"]

/-- Write the shadow to the older life copy of an outlet's tag with the next sequence (R397, R400, R401): in modes 1 and 2 the
password, the first 4 bytes of CMAC-AES-128 over the UID, is presented first. -/
def lifeWrite (s : State) (n : Nat) : State :=
  let c := s.cable n
  let seq := (c.seq + 1) % 2 ^ 32
  let l : LifeCopy := ⟨seq, s.rd R.TAG_CABLE_MATING n, s.rd R.TAG_CABLE_SESSIONS n, s.rd R.TAG_CABLE_ENERGY_WH n,
    s.rd R.TAG_CABLE_OPENINGS n, s.rd R.TAG_CABLE_EOL n + 2 * b2n c.retired⟩
  let pwd := if s.rd R.TAG_CABLE_CFG_SEC = 0 then 0
    else Config.sign ((s.cableKey).getD 0) (leBytes 8 (s.rd R.TAG_CABLE_UID n)) % 2 ^ 32
  (s.modCable n fun c => { c with seq := seq, older := 1 - c.older, wrote := (c.older, lifeBytes l), pwd := pwd }).wr
    R.TAG_CABLE_WRITE_PEND n 0

/-- RDR1 can write a tag (R394, R397): it is enabled, and it has the password's key where one is needed. -/
def lifeWritable (s : State) : Bool :=
  s.rdr1On && (s.rd R.TAG_CABLE_CFG_SEC == 0 || s.cableKey.isSome)

end State

/-- CABLE_READ (R394, R397 to R401): the read at the head of RDR1's queue; `tag` is what it finds. -/
def execCableRead (t : Nat) (tag : Option CableRead) (s : State) : Host.Outcome State Fault Refusal :=
  .next (onEvent s t fun s =>
    match s.tag.jobs with
    | [] => s
    | j :: _ =>
      if j.write then s else
      let s := s.nextJob
      let n := j.n
      let tag := if s.rdr1On then tag else none
      let cause := s.cableCause n tag
      let s := match tag, cause with
        | some r, 6 => s.raise Ev.TAG_CABLE_UID n [n, s.rd R.TAG_CABLE_UID n / 2 ^ 32, r.uid / 2 ^ 32]
        | _, _ => s
      let (code, s) := match cause, tag, tag.bind lifeCurrent with
        | 0, some r, some (l, older) => s.cableBelieved n j.atConnect r l older
        | _, _, _ => (1, s)
      let s := s.wr R.TAG_CABLE_STATE n code
      let s := s.raise Ev.CABLE_STATE n [n, code, if code = 0 then s.rd R.TAG_CABLE_RATING_A n else 0]
      let s := s.cableSession n code j.atConnect
      let s := if j.ctxs = [] then s else s.raise Ev.TAG_CABLE_DONE n [n, code, cause]
      forEach j.ctxs (fun x s => s.finalise x St.OK) s)

/-- CABLE_WRITE (R400, R402): the write at the head of RDR1's queue puts the shadow in the older copy with the next
sequence; `ok` says that it reads back. One that fails stays pending. -/
def execCableWrite (t : Nat) (ok : Bool) (s : State) : Host.Outcome State Fault Refusal :=
  .next (onEvent s t fun s =>
    match s.tag.jobs with
    | [] => s
    | j :: _ =>
      if !j.write then s else
      let s := s.nextJob
      if ok && s.lifeWritable then s.lifeWrite j.n else s.wr R.TAG_CABLE_WRITE_PEND j.n 1)

/-- TAG_CABLE_READ (R394). -/
def execTagCableRead (x : Ctx) (n : Nat) (s : State) : Host.Outcome State Fault Refusal :=
  .next (s.command x Op.TAG_CABLE_READ n none fun s =>
    if 8 ≤ n then s.complete x St.BAD_PARAM
    else if !s.tethered n then s.complete x St.CABLE_NONE
    else (s.complete x St.ACCEPTED).addJob ⟨n, false, false, [x]⟩)

/-- TAG_CABLE_INIT (R402): both life copies with zero counters, sequences 1 and 2. (DESIGN CHOICE, log 147) -/
def execTagCableInit (x : Ctx) (n : Nat) (ok : Bool) (s : State) : Host.Outcome State Fault Refusal :=
  .next (s.command x Op.TAG_CABLE_INIT n none fun s =>
    if 8 ≤ n then s.complete x St.BAD_PARAM
    else if !s.tethered n then s.complete x St.CABLE_NONE
    else if (s.outlet n).st.live then s.complete x St.CABLE_LIVE
    else if !(ok && s.lifeWritable) then s.complete x St.CABLE_WRITE
    else (s.modCable n fun c => { c with seq := 2, older := 0, wrote := (1, lifeBytes ⟨2, 0, 0, 0, 0, 0⟩) }).complete x St.OK)

/-- TAG_CABLE_RETIRE (R401): RETIRED and END_OF_LIFE by one write; where it fails the flag stays pending in the shadow. -/
def execTagCableRetire (x : Ctx) (n : Nat) (ok : Bool) (s : State) : Host.Outcome State Fault Refusal :=
  .next (s.command x Op.TAG_CABLE_RETIRE n none fun s =>
    if 8 ≤ n then s.complete x St.BAD_PARAM
    else if !s.tethered n then s.complete x St.CABLE_NONE
    else
      let s := (s.modCable n fun c => { c with retired := true }).shadowGo n
      if ok && s.lifeWritable then
        let s := s.setJobs (s.tag.jobs.filter fun j => !(j.write && j.n == n))
        (s.lifeWrite n).complete x St.OK
      else s.complete x St.CABLE_WRITE)

/-- TAG_QUERY (R390). -/
def execTagQuery (x : Ctx) (s : State) : Host.Outcome State Fault Refusal :=
  .next (s.command x Op.TAG_QUERY 0 none fun s =>
    s.complete x St.OK (s.pack [R.TAG_RDR_STAT_MULTI, R.TAG_RDR_STAT_WALK_LIMIT, R.TAG_RDR_STAT_RX_ERR, R.TAG_RDR_STAT_QUEUE]
      + 2 ^ 32 * s.pack [R.TAG_OWN_STAT_FIELD, R.TAG_OWN_STAT_BUSY_RSP, R.TAG_OWN_STAT_TORN, R.TAG_OWN_STAT_FIELD_WR]))

/-! ### The own tag -/

namespace State

/-- The value the shadow copy serves (R407): a block of a host write in progress keeps its old value until its commit. -/
def ownServed (s : State) (b : Nat) : Nat :=
  match s.tag.hostOld.find? fun e => e.1 == b && decide (s.mtb < e.2.2) with
  | some e => e.2.1
  | none => s.ownValue b

/-- A host write is in progress (R407). -/
def ownBusy (s : State) : Bool := s.core && decide (s.mtb < s.tag.busyUntil)

/-- Commit the blocks of a host write one by one (R407), each at a free instant before the end of the write.
(DESIGN CHOICE, log 148) -/
def ownCommit (stop : Nat) : List (Nat × Nat) → Nat → State → State
  | [], _, s => s
  | (b, v) :: r, last, s =>
    let (q, s) := s.takeFree
    let at_ := if r = [] then stop else last + q % (stop - last + 1)
    let s := { s with tag := { s.tag with hostOld := s.tag.hostOld ++ [(b, s.ownValue b, at_)] } }
    ownCommit stop r at_ (s.ownWrite b v true)

end State

/-- OWN_TAG_FIELD_ON (R403, R406): torn slots are recovered and counted. -/
def execOwnTagFieldOn (t : Nat) (s : State) : Host.Outcome State Fault Refusal :=
  .next (s.onField t fun s =>
    let torn := (List.range 2048).filter fun b => !((s.ownBlock b).ok0 && (s.ownBlock b).ok1)
    let s := forEach torn (fun b s =>
      { s with tag := { s.tag with blocks := s.tag.blocks.upd OwnBlock.init b OwnBlock.recover } }) s
    let s := (s.addSat R.TAG_OWN_STAT_TORN 0 torn.length).wr R.TAG_OWN_STAT_FIELD 0 1
    { s with tag := { s.tag with pwdOpen := false, aesOpen := false, wrong := 0, written := 0, firstWritten := 0 } })

/-- OWN_TAG_FIELD_LOST (R405). -/
def execOwnTagFieldLost (t : Nat) (s : State) : Host.Outcome State Fault Refusal :=
  .next (s.onField t fun s =>
    if !s.flag R.TAG_OWN_STAT_FIELD then s else
    let s := (s.ownClose.wr R.TAG_OWN_STAT_FIELD 0 0).ownReply []
    let s := { s with tag := { s.tag with wrong := 0 } }
    if s.up then s.raise Ev.TAG_OWN_FIELD 0 [s.tag.written, s.tag.firstWritten] else s)

/-- OWN_TAG_FIELD_READ (R404, R405, R407) of `count` blocks. (PRESUMED, log 149) -/
def execOwnTagFieldRead (t : Nat) (first count : Nat) (s : State) : Host.Outcome State Fault Refusal :=
  .next (s.onField t fun s =>
    if !s.flag R.TAG_OWN_STAT_FIELD then s else
    let bs := (List.range count).map (first + ·)
    if count = 0 || 2048 < first + count then s.ownReply [0x10]
    else if bs.all s.fieldReads then s.ownReply (0 :: bs.map s.ownServed) else s.ownReply [0x12])

/-- OWN_TAG_FIELD_WRITE (R405 to R407) of one or several blocks, each atomic: `done` of them verify before the field collapses, the
next one is torn, and a tag that has lost its field does not reply. -/
def execOwnTagFieldWrite (t : Nat) (first : Nat) (values : List Nat) (done : Nat) (s : State) : Host.Outcome State Fault Refusal :=
  .next (s.onField t fun s =>
    if !s.flag R.TAG_OWN_STAT_FIELD then s else
    let bs := values.zipIdx.map fun p => (first + p.2, p.1)
    if values = [] || 2048 < first + values.length then s.ownReply [0x10]
    else if bs.any fun p => !s.fieldWrites p.1 then s.ownReply [0x12]
    else if s.ownBusy then (s.incSat R.TAG_OWN_STAT_BUSY_RSP 0).ownReply [0xA5]
    else
      let n := min done values.length
      let s := forEach (bs.take n) (fun p s => s.ownWrite p.1 p.2 true) s
      let s := forEach ((bs.drop n).take 1) (fun p s => s.ownWrite p.1 p.2 false) s
      let s := s.addSat R.TAG_OWN_STAT_FIELD_WR 0 n
      let at_ := if s.tag.written = 0 && n != 0 then first else s.tag.firstWritten
      let s := { s with tag := { s.tag with written := s.tag.written + n, firstWritten := at_ } }
      s.ownReply (if n = values.length then [0] else []))

/-- PRESENT_PWD (R405). (PRESUMED, log 149) -/
def execPresentPwd (t : Nat) (pwd : Nat) (s : State) : Host.Outcome State Fault Refusal :=
  .next (s.onField t fun s =>
    if !s.flag R.TAG_OWN_STAT_FIELD then s else
    if 5 ≤ s.tag.wrong then s.ownReply [0x0F]
    else if pwd % 2 ^ 32 = s.rd R.TAG_OWN_PWD_PWD then
      ({ s with tag := { s.tag with pwdOpen := true } } : State).ownReply [0]
    else ({ s with tag := { s.tag with wrong := s.tag.wrong + 1 } } : State).ownReply [0x0F])

/-- OWN_TAG_MAM1 (R405): `ok` says that MAM1 with the node APP/TAG-OWN succeeds. -/
def execOwnTagMam1 (t : Nat) (ok : Bool) (s : State) : Host.Outcome State Fault Refusal :=
  .next (s.onField t fun s =>
    if s.flag R.TAG_OWN_STAT_FIELD && ok then
      ({ s with tag := { s.tag with aesOpen := true } } : State).ownReply [0]
    else s)

/-- RESET_TO_READY (R405). -/
def execResetToReady (t : Nat) (s : State) : Host.Outcome State Fault Refusal :=
  .next (s.onField t fun s => if s.flag R.TAG_OWN_STAT_FIELD then s.ownClose else s)

/-- TAG_OWN_READ (R404). -/
def execTagOwnRead (x : Ctx) (first count : Nat) (s : State) : Host.Outcome State Fault Refusal :=
  .next (s.command x Op.TAG_OWN_READ 0 none fun s =>
    if count = 0 || 256 < count then s.complete x St.BAD_PARAM
    else if 2048 < first + count then s.complete x St.OWN_RANGE
    else (s.giveBuffer ((List.range count).map fun i => s.ownServed (first + i))).complete x St.OK)

/-- TAG_OWN_WRITE (R404, R407). (DESIGN CHOICE, log 148) -/
def execTagOwnWrite (x : Ctx) (first : Nat) (blocks : List Nat) (s : State) : Host.Outcome State Fault Refusal :=
  .next (s.command x Op.TAG_OWN_WRITE 0 none fun s =>
    let bs := blocks.zipIdx.map fun p => (first + p.2, p.1)
    if blocks = [] || 8 < blocks.length then s.complete x St.BAD_PARAM
    else if 2048 < first + blocks.length then s.complete x St.OWN_RANGE
    else if bs.any fun p => decide (3 ≤ ownArea p.1) then s.complete x St.OWN_WP
    else
      let start := max s.mtb s.tag.busyUntil
      let (q, s) := s.takeFree
      let stop := start + q % (10 ^ 6 + 1)
      let now := s.mtb
      let s := { s with tag := { s.tag with busyUntil := stop, hostOld := s.tag.hostOld.filter fun e => decide (now < e.2.2) } }
      (State.ownCommit stop bs start s).complete x St.OK)

end Sys2Proof.Machine
end

