-- ==== Sys2Proof/Machine/Trellis.lean ====
section
/-! DEFINITION. The events and commands of the modems and of Trellis (10_powerline_trellis.md). -/

namespace Sys2Proof.Machine

/-- PLC_FRAME_RX (R322, R324 to R328, R330): the receive gain, the MTB of the first sample, and the samples of the frame by
symbol, as values before the converter clamps them. A capture of the converter counts its clamped samples itself. The tone mask takes
effect at the frame's boundary. (DESIGN CHOICE, log 75) -/
def execPlcFrameRx (t i agc first : Nat) (syms : List (List Int)) (fecOk : Bool) (s : State) : Host.Outcome State Fault Refusal :=
  .next (onEvent s t fun s =>
    if 10 ≤ i || !s.flag R.PLC_CFG_EN i then s else
    let (runs, blanked, erased) := s.blankFrame i first syms
    let clamped := if (s.cap i).on then 0 else syms.flatten.countP over12
    let s := { s with plc := { s.plc with tones := s.plc.tones.put [] i ((List.range 37).map fun w => s.rd R.PLC_TONEMASK_MASK (37 * i + w)) } }
    let s := s.addSat R.AFE_PADC_OVR_CNT i clamped
    let s := ((s.addSat R.PLC_STAT_IMPULSES i runs).addSat R.PLC_STAT_BLANKED_SYM i blanked).addSat R.PLC_STAT_ERASED_SYM i erased
    let s := (s.wr R.PLC_STAT_AGC i (min 28 agc)).wr R.PLC_STAT_RX_FRAMES i (s.rd R.PLC_STAT_RX_FRAMES i + 1)
    let s := if fecOk then s else s.wr R.PLC_STAT_FEC_FAIL i (s.rd R.PLC_STAT_FEC_FAIL i + 1)
    let z := s.plc.noise.get (0, 0, 0) i
    let z := (z.1, z.2.1 + erased, z.2.2 + runs)
    if z.2.1 != 0 && (z.1 = 0 || z.1 - 1 + 10 ^ 9 ≤ s.mtb) then
      ({ s with plc := { s.plc with noise := s.plc.noise.put (0, 0, 0) i (s.mtb + 1, 0, 0) } } : State).raise Ev.PLC_NOISE i
        [i, z.2.1, z.2.2]
    else { s with plc := { s.plc with noise := s.plc.noise.put (0, 0, 0) i z } })

/-- SUPERFRAME_START (R335 to R337): once the next start has come, the count advances and the coordinator's beacon goes
out. -/
def execSuperframeStart (t : Nat) (s : State) : Host.Outcome State Fault Refusal :=
  .next (onEvent s t fun s =>
    let off := s.offNext
    let start := s.sfNext off
    if s.trxState < 2 || s.mtb < start then s else
    let s := s.wr R.PLC_TRELLIS_STAT_SF_COUNT 0 (s.rd R.PLC_TRELLIS_STAT_SF_COUNT + 1)
    let s := { s with plc := { s.plc with sfStart := start, sfBase := start, ticks := s.plc.ticks + 1, air := [], offNow := off } }
    let s := if s.rd R.PLC_TRELLIS_CFG_ALIGN = 0 then s.alignNote else s
    if s.trxState = 5 then
      (s.transmit (TFrame.new fBEACON 0 s.trxAddr 0xFF 0 (s.beacon 0 s.relays)) 0xFF).2 else s)

/-- BEACON_RX (R335, R337, R342): `stamp` is the MTB of its preamble, `pos` its position. -/
def execBeaconRx (t : Nat) (h : THdr) (stamp pos coord count : Nat) (relays : List Nat) (s : State) :
    Host.Outcome State Fault Refusal :=
  .next (onEvent s t fun s =>
    s.receive { h with rx := 0xFF, dst := 0xFF, seq := 65536 + h.ctr } fBEACON [] fun s =>
      let st := s.trxState
      let start := stamp - 500000 * pos
      if st = 5 then
        if coord < s.trxAddr then (s.raise Ev.TRELLIS_COORD_CONFLICT 0 [coord]).joinReq coord h.tx 9 else s
      else
        let s := { s with plc := { s.plc with beaconAt := s.mtb } }
        let s := if st = 1 then s.joinReq coord h.tx 1
          else if st = 4 then s.setTrx 3 7 else s
        if st = 1 || st = 2 then { s with plc := { s.plc with sfStart := start, sfBase := start } }
        else
          let s := (s.wr R.PLC_TRELLIS_STAT_COORD 0 coord).wr R.PLC_TRELLIS_STAT_SF_COUNT 0 count
          let s := s.moveStart start
          let slot := relays.findIdx? (· == s.trxAddr)
          match slot, pos with
          | some i, 0 =>
            if s.plc.silent then s
            else (s.transmit (TFrame.new fBEACON 0 s.trxAddr 0xFF 0 (s.beacon (i + 1) relays)) 0xFF).2
          | _, _ => s)

/-- SYNC_IN_EDGE (R303, R336, R338, R535): `first` is the MTB of the first sample at the new level, which has been stable for
1.0 µs; the stamp is corrected by the input delay of 3 ns. (DEDUCED, log 251) -/
def execSyncInEdge (t first : Nat) (falling : Bool) (s : State) : Host.Outcome State Fault Refusal :=
  .next (onEvent s t fun s =>
    if s.mtb < first + 1000 then s else
    let stamp := first - 3
    let d := b2n falling
    let last := s.plc.syncAt1.get 0 d
    if last != 0 && stamp < last - 1 + 10 ^ 7 then s.incSat R.PLC_SYNC_GLITCHES 0
    else
      let s := { s with plc := { s.plc with syncAt1 := s.plc.syncAt1.put 0 d (stamp + 1) } }
      let s := ((s.incSat R.PLC_SYNC_EDGES 0).wr R.PLC_SYNC_LAST_MTB 0 stamp).wr R.PLC_SYNC_LAST_DIR 0 d
      let s := s.demandSync stamp falling
      if s.rd R.PLC_TRELLIS_CFG_ALIGN = 0 || s.trxState != 5 || d != s.rd R.PLC_TRELLIS_CFG_SYNC_EDGE then s
      else if last = 0 || s.syncPeriodOk (stamp - (last - 1)) then
        { s with plc := { s.plc with syncRef1 := stamp + 1 } }
      else s.raise Ev.TRELLIS_ALIGN 0 [0, s.rd R.PLC_TRELLIS_STAT_ADJ])

/-- TRELLIS_TX (R335, R343 to R346), in the contention region: the frame that contends first goes to its next hop, chosen now.
(DESIGN CHOICE, log 134) -/
def execTrellisTx (t : Nat) (s : State) : Host.Outcome State Fault Refusal :=
  .next (onEvent s t fun s =>
    if s.plc.wait.isSome || s.plc.silent || s.trxState < 2 || !s.contention then s else
    match s.nextFrame with
    | none => s.serveNext
    | some f =>
      let s := s.dequeue f
      if f.dst = 0xFF then
        let (f, s) := s.transmit f 0xFF
        (s.frameDone f 0).serveNext
      else
        let hop := if f.via != 0 then f.via else s.rd R.PLC_TRELLIS_LQ_NEXT_HOP (f.dst - 1)
        if hop = 0 then (s.frameDone f 3).serveNext
        else
          let s := if f.tries = 0 then s else s.incSat R.PLC_TRELLIS_STAT_RETRIES 0
          let (f, s) := s.transmit f hop
          { s with plc := { s.plc with wait := some f } })

/-- ACK (R346): it confirms the frame whose number and counter it names. -/
def execAck (t : Nat) (h : THdr) (seq ctr : Nat) (s : State) : Host.Outcome State Fault Refusal :=
  .next (onEvent s t fun s =>
    match s.plc.wait with
    | none => s
    | some f =>
      if s.taken h && h.tagOk && h.tx == f.rx && seq == f.seq && ctr == f.ctr && s.ctrFresh h.tx h.ctr then
        let seen := s.plc.ctrs.get [] h.tx
        let s := { s with plc := { s.plc with wait := none, ctrs := s.plc.ctrs.put [] h.tx ((h.ctr :: seen).take 64) } }
        (((s.hear h).linkResult f.rx f.modem false).frameDone f 0).serveNext
      else s)

/-- TRELLIS_ACK_TIMEOUT (R344, R346): 200 µs at least after the frame went out. -/
def execTrellisAckTimeout (t : Nat) (s : State) : Host.Outcome State Fault Refusal :=
  .next (onEvent s t fun s =>
    match s.plc.wait with
    | none => s
    | some f =>
      if s.mtb < f.at_ + 200000 then s else
      let s := ({ s with plc := { s.plc with wait := none } } : State).linkResult f.rx f.modem true
      if 4 ≤ f.tries then ((s.incSat R.PLC_TRELLIS_STAT_TX_DROPPED 0).frameDone f 1).serveNext
      else s.setTq f.cls (f :: s.tq f.cls))

/-- JOIN_REQ (R342): the coordinator answers. -/
def execJoinReq (t : Nat) (h : THdr) (serial caps : Nat) (s : State) : Host.Outcome State Fault Refusal :=
  .next (onEvent s t fun s =>
    s.receive h fJOIN_REQ (joinBytes serial caps) fun s =>
      if s.trxState != 5 then s else
      let known := s.plc.nodes.get none h.src
      let fresh := fun (at_ : Nat) => decide (s.mtb ≤ at_ + 750 * s.sfLen)
      let taken := match known with
        | some (other, at_) => other != serial && fresh at_
        | none => false
      let res := if taken || h.src = s.trxAddr then 1 else if known.isNone && 254 ≤ s.plc.nodes.cells.length then 2 else 0
      let s := if res = 0 then
          let s := { s with plc := { s.plc with nodes := s.plc.nodes.put none h.src (some (serial, s.mtb)) } }
          if known.isNone then s.raise Ev.TRELLIS_NODE 0 [h.src, 1, h.hops + 1] else s
        else s
      s.send fJOIN_RESULT 1 h.src [res, s.plc.nodes.cells.length] (if h.hops = 0 then h.tx else 0) none)

/-- JOIN_RESULT (R342). -/
def execJoinResult (t : Nat) (h : THdr) (res count : Nat) (s : State) : Host.Outcome State Fault Refusal :=
  .next (onEvent s t fun s =>
    s.receive h fJOIN_RESULT [res, count] fun s =>
      if s.trxState != 2 || s.plc.backoff.isSome then s
      else if res = 0 then (s.setTrx 3 3).holdStart
      else if res = 1 then ((s.cancelFrames.mainsModems false).wr R.PLC_TRELLIS_STAT_COORD 0 0).setTrx 0 4
      else { s with plc := { s.plc with backoff := some (s.mtb + 250 * s.sfLen) } })

/-- LQ_REPORT (R345): destination, metric and hops of each node the neighbour reaches. -/
def execLqReport (t : Nat) (h : THdr) (entries : List (Nat × Nat × Nat)) (s : State) : Host.Outcome State Fault Refusal :=
  .next (onEvent s t fun s =>
    s.receive h fLQ_REPORT (lqBytes entries) fun s =>
      if h.src != h.tx then s else
      let old := s.plc.reports.cells.filter fun c => c.1 / 256 != h.tx
      let r := forEach (entries.filter fun e => e.1 < 256) (fun e r => r.put (noCost, 0) (256 * h.tx + e.1) (e.2.1, e.2.2)) (⟨old⟩ : Tab (Nat × Nat))
      ({ s with plc := { s.plc with reports := r } } : State).reroute)

/-- SITE_LIMIT (R347). -/
def execSiteLimit (t : Nat) (h : THdr) (validity : Nat) (entries : List (Nat × Nat)) (s : State) :
    Host.Outcome State Fault Refusal :=
  .next (onEvent s t fun s =>
    s.receive h fSITE_LIMIT (limitBytes validity entries) fun s => s.limitApply validity entries h.src)

/-- TIME (R292, R348): the wall time in ms at the start of a superframe; `sig` is the owner signature it may
carry, and whether it verifies. (DESIGN CHOICE, log 131) -/
def execTime (t : Nat) (h : THdr) (ref ms : Nat) (sig : Option (List Byte × Bool)) (s : State) : Host.Outcome State Fault Refusal :=
  .next (onEvent s t fun s =>
    s.receive h fTIME (timeBytes ref ms ((sig.map (·.1)).getD [] |>.map (·.toNat))) fun s =>
      let start : Int := (s.plc.sfStart : Int) - s.sfLen * ((s.rd R.PLC_TRELLIS_STAT_SF_COUNT : Int) - ref)
      let now : Nat := ((ms : Int) + ((s.mtb : Int) - start) / 10 ^ 6).toNat
      let off := ((now : Int) - s.wallMs).natAbs
      if s.rtcValid && off ≤ s.rd R.PLC_TRELLIS_CFG_TIME_TOL_MS then s
      else (s.timeSet now (if (sig.map (·.2)).getD false && s.flag R.KEY_STATUS_OWNER_SET then 2 else 1)).2)

/-- HOST_DATA (R351): delivered on stream source 24. (DESIGN CHOICE, log 133) -/
def execHostData (t : Nat) (h : THdr) (payload : List Byte) (s : State) : Host.Outcome State Fault Refusal :=
  .next (onEvent s t fun s =>
    s.receive h fHOST_DATA (payload.map (·.toNat)) fun s =>
      let rec_ := [h.src % 256, h.cls % 256] ++ leBytes 2 payload.length ++ leBytes 8 s.mtb ++ payload.map (·.toNat)
      let r := [h.src, h.cls, payload.length, s.mtb] ++ payload.map (·.toNat)
      let s := { s with plc := { s.plc with rxRecs := (r :: s.plc.rxRecs).take 64 } }
      s.streamBlock 24 ⟨0x31, s.mtb, 1, rec_ ++ List.replicate ((8 - rec_.length % 8) % 8) 0⟩)

/-- IMAGE_OFFER (R459). -/
def execImageOffer (t : Nat) (h : THdr) (digest count gen : Nat) (s : State) : Host.Outcome State Fault Refusal :=
  .next (onEvent s t fun s => s.receive h fIMAGE_OFFER (offerBytes digest count gen) fun s => s.updOffer h.src digest gen)

/-- IMAGE_REQ (R349): requests wait in order of arrival. -/
def execImageReq (t : Nat) (h : THdr) (digest : Nat) (ranges : List (Nat × Nat)) (s : State) : Host.Outcome State Fault Refusal :=
  .next (onEvent s t fun s =>
    s.receive h fIMAGE_REQ (reqBytes digest ranges) fun s =>
      match s.servedImage with
      | some (d, _, _) =>
        if d != digest || !s.flag R.PLC_TRELLIS_CFG_SERVE_IMAGES then s
        else
          let bs := (ranges.take 64).flatMap fun r => (List.range r.2).map (r.1 + ·)
          let s := { s with plc := { s.plc with reqs := (s.plc.reqs.filter fun (q : Nat × List Nat) => q.1 != h.src) ++ [(h.src, bs)] } }
          s.serveNext
      | none => s)

/-- IMAGE_BLOCK (R341): fragments 0 to 4 in any order, each with its bytes of the block; a whole block goes to the update engine.
`sigs` says whether the Zenkote and the owner signature of a manifest verify. -/
def execImageBlock (t : Nat) (h : THdr) (digest block frag : Nat) (data : List Byte) (sigs : Bool × Bool) (s : State) :
    Host.Outcome State Fault Refusal :=
  .next (onEvent s t fun s =>
    let bytes := data.map (·.toNat)
    s.receive h fIMAGE_BLOCK (blockBytes digest block frag bytes) fun s =>
      if 5 ≤ frag || bytes.length != (if frag < 4 then 1008 else 64) then s else
      let p := (s.plc.parts.find? fun p => p.1 == h.src && p.2.1 == block).getD (h.src, block, s.mtb, [])
      let frags := (frag, bytes) :: p.2.2.2.filter fun q => q.1 != frag
      let rest := s.plc.parts.filter fun q => !(q.1 == h.src && q.2.1 == block)
      if frags.length = 5 then
        let whole := (List.range 5).flatMap fun k => ((frags.find? fun q => q.1 == k).map (·.2)).getD []
        ({ s with plc := { s.plc with parts := rest } } : State).updBlockRx h.src digest block whole sigs
      else { s with plc := { s.plc with parts := rest ++ [(h.src, block, p.2.2.1, frags)] } })

/-- IMAGE_BLOCK_EXPIRY (R341): the block stays missing, so the next IMAGE_REQ asks for it again. -/
def execImageBlockExpiry (t : Nat) (s : State) : Host.Outcome State Fault Refusal :=
  .next (onEvent s t fun s =>
    { s with plc := { s.plc with parts := s.plc.parts.filter fun p => decide (s.mtb < p.2.2.1 + 250 * s.sfLen) } })

/-- TRELLIS_BEACON_TIMEOUT (R342). -/
def execTrellisBeaconTimeout (t : Nat) (s : State) : Host.Outcome State Fault Refusal :=
  .next (onEvent s t fun s =>
    let missed := fun (k : Nat) => decide (s.plc.beaconAt + k * s.sfLen ≤ s.mtb)
    let st := s.trxState
    if st = 1 && s.flag R.PLC_TRELLIS_CFG_ROLE && missed 50 then
      let s := { s with plc := { s.plc with nodes := .empty, sfStart := s.mtb, sfBase := s.mtb, offNow := 0, silent := false } }
      (s.wr R.PLC_TRELLIS_STAT_COORD 0 s.trxAddr).setTrx 5 2
    else if st = 3 && missed 50 then
      let last := s.plc.beaconAt
      let s := s.setTrx 4 6
      { s with plc := { s.plc with beaconAt := last } }
    else if st = 4 && missed 250 then s.listen 8
    else s)

/-- TRELLIS_JOIN_TIMEOUT (R342): no result within 25 superframes. -/
def execTrellisJoinTimeout (t : Nat) (s : State) : Host.Outcome State Fault Refusal :=
  .next (onEvent s t fun s =>
    if s.trxState = 2 && s.plc.backoff.isNone && s.plc.joinAt + 25 * s.sfLen ≤ s.mtb then
      { s with plc := { s.plc with backoff := some (s.mtb + 250 * s.sfLen) } } else s)

/-- TRELLIS_JOIN_BACKOFF_END (R342). -/
def execTrellisJoinBackoffEnd (t : Nat) (s : State) : Host.Outcome State Fault Refusal :=
  .next (onEvent s t fun s =>
    match s.plc.backoff with
    | some due => if s.trxState = 2 && due ≤ s.mtb then s.listen 5 else s
    | none => s)

/-- TRELLIS_NODE_TIMEOUT (R342). -/
def execTrellisNodeTimeout (t n : Nat) (s : State) : Host.Outcome State Fault Refusal :=
  .next (onEvent s t fun s =>
    match s.plc.nodes.get none n with
    | some (_, at_) =>
      if s.trxState = 5 && at_ + 750 * s.sfLen ≤ s.mtb then
        ({ s with plc := { s.plc with nodes := s.plc.nodes.put none n none } } : State).raise Ev.TRELLIS_NODE 0
          [n, 0, s.rd R.PLC_TRELLIS_LQ_HOPS (n - 1)]
      else s
    | none => s)

/-- LQ_REPORT_SEND (R345): every 25 superframes, by a member and by the coordinator. -/
def execLqReportSend (t : Nat) (s : State) : Host.Outcome State Fault Refusal :=
  .next (onEvent s t fun s =>
    if s.trxState = 3 || s.trxState = 5 then
      s.every 0 25 fun s =>
        let es := (List.range 254).filterMap fun i =>
          let h := s.rd R.PLC_TRELLIS_LQ_HOPS i
          if h = 0 then none else some (i + 1, s.rd R.PLC_TRELLIS_LQ_METRIC i, h)
        s.send fLQ_REPORT 1 0xFF (lqBytes es) 0 none
    else s)

/-- SITE_LIMIT_REPEAT (R347): every 250 superframes. -/
def execSiteLimitRepeat (t : Nat) (s : State) : Host.Outcome State Fault Refusal :=
  .next (onEvent s t fun s =>
    match s.plc.limit with
    | some (v, es) => if s.trxState = 5 then s.every 1 250 fun s => s.send fSITE_LIMIT 0 0xFF (limitBytes v es) 0 none else s
    | none => s)

/-- TIME_SEND (R348): every 1,500 superframes. -/
def execTimeSend (t : Nat) (s : State) : Host.Outcome State Fault Refusal :=
  .next (onEvent s t fun s =>
    if s.trxState = 5 && s.rtcValid then
      s.every 2 1500 fun s => s.send fTIME 1 0xFF (timeBytes (s.rd R.PLC_TRELLIS_STAT_SF_COUNT) (s.wallMsAt s.plc.sfStart) []) 0 none
    else s)

/-- IMAGE_OFFER_SEND (R349): every 1,500 superframes. -/
def execImageOfferSend (t : Nat) (s : State) : Host.Outcome State Fault Refusal :=
  .next (onEvent s t fun s =>
    match s.servedImage with
    | some (d, n, g) =>
      if s.flag R.PLC_TRELLIS_CFG_SERVE_IMAGES && (s.trxState == 3 || s.trxState == 5) then
        s.every 3 1500 fun s => s.send fIMAGE_OFFER 2 0xFF (offerBytes d n g) 0 none else s
    | none => s)

/-- TRELLIS_ENABLE (R342): the node starts once TRELLIS.CFG.EN is set, and stops when it is cleared. -/
def execTrellisEnable (t : Nat) (on : Bool) (s : State) : Host.Outcome State Fault Refusal :=
  .next (onEvent s t fun s => (s.setFlag R.PLC_TRELLIS_CFG_EN 0 on).trellisEn)

/-- PLC_QUERY (R325): STAT bits 31 to 0, then ERASED_SYM and BLANKED_SYM. -/
def execPlcQuery (x : Ctx) (i : Nat) (s : State) : Host.Outcome State Fault Refusal :=
  .next (s.command x Op.PLC_QUERY i none fun s =>
    if 10 ≤ i then s.complete x St.BAD_PARAM
    else s.complete x St.OK (16 * s.rd R.PLC_STAT_LINK i + 2 ^ 8 * s.rd R.PLC_STAT_AGC i + 2 ^ 16 * s.rd R.PLC_STAT_IMPULSES i
      + 2 ^ 32 * s.rd R.PLC_STAT_ERASED_SYM i + 2 ^ 48 * s.rd R.PLC_STAT_BLANKED_SYM i))

/-- TRELLIS_SEND (R351). -/
def execTrellisSend (x : Ctx) (dst cls : Nat) (payload : List Byte) (s : State) : Host.Outcome State Fault Refusal :=
  .next (s.command x Op.TRELLIS_SEND 0 none fun s =>
    if cls = 0 || 3 < cls || dst = 0 || 255 < dst then s.complete x St.BAD_PARAM
    else if s.trxState != 3 && s.trxState != 5 then s.complete x St.NOT_JOINED
    else if payload = [] || 1024 < payload.length then s.complete x St.PAYLOAD_SIZE
    else if dst != 0xFF && s.rd R.PLC_TRELLIS_LQ_HOPS (dst - 1) = 0 then s.complete x St.NODE_UNKNOWN
    else if 64 ≤ (s.tq cls).length then s.complete x St.TX_QUEUE_FULL
    else (s.complete x St.ACCEPTED).send fHOST_DATA cls dst (payload.map (·.toNat)) 0 (some x))

/-- TRELLIS_LIMIT_SEND (R347): the table is sent at class 0, applied here and repeated. -/
def execTrellisLimitSend (x : Ctx) (validity : Nat) (entries : List (Nat × Nat)) (s : State) : Host.Outcome State Fault Refusal :=
  .next (s.command x Op.TRELLIS_LIMIT_SEND 0 none fun s =>
    if entries = [] || 64 < entries.length || 65536 ≤ validity
        || entries.any (fun e => e.1 = 0 || 255 < e.1 || 2 ^ 32 ≤ e.2) then s.complete x St.BAD_PARAM
    else if !s.flag R.PLC_TRELLIS_CFG_ROLE || s.trxState != 5 then s.complete x St.NOT_COORDINATOR
    else
      let s := { s with plc := { s.plc with limit := some (validity, entries) } }
      let s := s.send fSITE_LIMIT 0 0xFF (limitBytes validity entries) 0 none
      let s := { s with plc := { s.plc with sentAt := s.plc.sentAt.put 0 1 s.plc.ticks } }
      (s.limitApply validity entries s.trxAddr).complete x St.OK)

/-- TRELLIS_LQ_READ (R344). -/
def execTrellisLqRead (x : Ctx) (s : State) : Host.Outcome State Fault Refusal :=
  .next (s.command x Op.TRELLIS_LQ_READ 0 none fun s =>
    let fs := [R.PLC_TRELLIS_LQ_NEXT_HOP, R.PLC_TRELLIS_LQ_HOPS, R.PLC_TRELLIS_LQ_METRIC, R.PLC_TRELLIS_LQ_LINK_COST,
      R.PLC_TRELLIS_LQ_LINK_MODE, R.PLC_TRELLIS_LQ_FAIL32, R.PLC_TRELLIS_LQ_SNR, R.PLC_TRELLIS_LQ_COUPLE,
      R.PLC_TRELLIS_LQ_LAST_HEARD]
    (s.giveBuffer ((List.range 254).flatMap fun k => fs.map fun F => s.rd F k)).complete x St.OK)

/-- TRELLIS_RESTART (R342). -/
def execTrellisRestart (x : Ctx) (s : State) : Host.Outcome State Fault Refusal :=
  .next (s.command x Op.TRELLIS_RESTART 0 none fun s =>
    let s := s.cancelFrames
    let s := if s.trxState = 0 then s else (s.mainsModems false).setTrx 0 10
    (if s.trxMay then s.listen 10 else s).complete x St.OK)

end Sys2Proof.Machine
end

