-- ==== Sys2Proof/Machine/Twin.lean ====
section
/-! DEFINITION. The commands and events of twin operation (16_twin_standby.md). -/

namespace Sys2Proof.Machine
namespace State

/-- TWIN_ACT_IN changes level, past its 10 µs filter (R477). -/
def setActIn (s : State) (b : Bool) : State :=
  let both := if !b || !s.actOut then none else if s.twin.actIn then s.twin.bothAt else some s.mtb
  { s with twin := { s.twin with actIn := b, bothAt := both } }

/-- What the peer's last frame header says, and frames dropped for their CRC (R476, R479): MTB_OFS follows the stamps. -/
def noteFrame (s : State) (h : TwinHdr) (crc : Nat) : State :=
  let was := s.flag R.TWIN_STAT_PEER_READY
  let s := ((s.wr R.TWIN_STAT_PEER_ROLE 0 h.role).setFlag R.TWIN_STAT_PEER_READY 0 h.ready).addSat R.TWIN_LINK_CRC_ERR 0 crc
  let s := s.wrInt R.TWIN_MTB_OFS_OFFSET 0 ((h.stamp : Int) - h.at_)
  let s := { s with twin := { s.twin with ofsOk := true, peerRun := h.running } }
  if was == h.ready then s else s.peerEvent

end State

/-- The role once the link is up (table Role transitions): a pairing module finds its peer, a lone one takes it in. -/
def State.linkRole (s : State) (peerRole : Nat) (peerPrefer : Bool) : State :=
  if s.role = 1 then
    if s.twin.actIn then s.setRole 3 none
    else if s.flag R.TWIN_CFG_PREFER || (peerRole == 1 && !peerPrefer) then s.setRole 2 none else s
  else if s.role = 5 && peerRole = 1 && !s.twin.actIn then s.setRole 2 none
  else s.noteReady

/-- TWIN_LINK_UP (R476, table Role transitions): lanes, the peer's serial and PREFER, and the header of its first frame.
(DESIGN CHOICE, log 184) -/
def execTwinLinkUp (t : Nat) (lanes serial : Nat) (peerPrefer : Bool) (hdr : TwinHdr) (s : State) :
    Host.Outcome State Fault Refusal :=
  .next (onEvent s t fun s =>
    if s.role = 0 || s.flag R.TWIN_LINK_UP then s else
    let s := if s.rd R.TWIN_STAT_PEER_SERIAL = 0 then s else s.incSat R.TWIN_LINK_RETRAIN 0
    let s := ((s.wr R.TWIN_LINK_UP 0 1).wr R.TWIN_LINK_LANES 0 (min 2 lanes)).wr R.TWIN_STAT_PEER_SERIAL 0 serial
    let s := { s with twin := { s.twin with peerPrefer := peerPrefer } }
    let s := s.setFlag R.TWIN_STAT_PEER_READY 0 hdr.ready
    (s.noteFrame hdr 0).peerEvent.linkRole hdr.role peerPrefer)

/-- TWIN_LINK_DOWN (R476). -/
def execTwinLinkDown (t : Nat) (s : State) : Host.Outcome State Fault Refusal :=
  .next (onEvent s t fun s =>
    if !s.flag R.TWIN_LINK_UP then s else
    let s := ((s.wr R.TWIN_LINK_UP 0 0).wr R.TWIN_LINK_LANES 0 0).wr R.TWIN_STAT_PEER_READY 0 0
    ({ s with twin := { s.twin with ofsOk := false, inRow := 0, gotCycle := 0 } } : State).noteReady.peerEvent)

/-- TWIN_PAIR_TIMEOUT (table Role transitions). -/
def execTwinPairTimeout (t : Nat) (s : State) : Host.Outcome State Fault Refusal :=
  .next (onEvent s t fun s =>
    if s.role = 1 && !s.flag R.TWIN_LINK_UP && !s.twin.actIn && decide (s.twin.since + 2 * 10 ^ 9 ≤ s.mtb) then s.setRole 5 none else s)

/-- TWIN_COPY_FREEZE (R478): at 490 µs of the active module's cycle, once; `kib` is the copy's size in 1/16 KiB.
(DESIGN CHOICE, log 181) -/
def execTwinCopyFreeze (t : Nat) (hdr : TwinHdr) (crc kib : Nat) (s : State) : Host.Outcome State Fault Refusal :=
  .next (onEvent s t fun s =>
    if s.role = 2 && s.flag R.TWIN_LINK_UP && decide (s.arch.cycleStart + 490000 ≤ s.mtb)
        && s.twin.frozen.map (·.cycle) != some (s.arch.cycleStart / 10 ^ 6) then
      let s := (s.noteFrame hdr crc).wr R.TWIN_STAT_COPY_KIB 0 kib
      { s with twin := { s.twin with frozen := some s.makeCopy } }
    else s)

/-- TWIN_COPY_RX (R478, R479, R484): the copy of the peer's present cycle, complete before its 995 µs, of at most 48 KiB
and with a CRC-32 that matches (`whole`). `kib` is its size in 1/16 KiB. (DESIGN CHOICE, log 181) -/
def execTwinCopyRx (t : Nat) (copy : TwinCopy) (whole : Bool) (kib : Nat) (hdr : TwinHdr) (s : State) :
    Host.Outcome State Fault Refusal :=
  .next (onEvent s t fun s =>
    if s.role = 3 && s.flag R.TWIN_LINK_UP then
      let s := s.noteFrame hdr 0
      let c := s.peerNow / 10 ^ 6
      if !whole || 768 < kib || copy.cycle != c || 995000 < s.peerNow % 10 ^ 6 || s.twin.gotCycle = c + 1 then s else
      let s := s.wr R.TWIN_STAT_COPY_KIB 0 kib
      let s := { s with twin := { s.twin with copy := some copy, inRow := s.twin.inRow + 1, gotCycle := c + 1 } }
      (s.shadowNote copy).noteReady
    else s)

/-- TWIN_COPY_DEADLINE (R478): at 995 µs of the peer's cycle, once; a copy that is not complete is discarded. -/
def execTwinCopyDeadline (t crc : Nat) (s : State) : Host.Outcome State Fault Refusal :=
  .next (onEvent s t fun s =>
    let c := s.peerNow / 10 ^ 6
    if s.role != 3 || s.peerNow % 10 ^ 6 < 995000 || s.twin.dueCycle = c + 1 then s else
    let s := s.addSat R.TWIN_LINK_CRC_ERR 0 crc
    let s := { s with twin := { s.twin with dueCycle := c + 1 } }
    if s.twin.gotCycle = c + 1 then s
    else
      let s := s.incSat R.TWIN_STAT_COPY_MISS 0
      let s := { s with twin := { s.twin with inRow := 0, missed := s.twin.missed + 1 } }
      let s := s.noteReady
      if s.twin.missAt1 != 0 && decide (s.mtb < s.twin.missAt1 - 1 + 10 ^ 9) then s
      else
        let n := s.twin.missed
        ({ s with twin := { s.twin with missed := 0, missAt1 := s.mtb + 1 } } : State).raise Ev.TWIN_COPY_MISS 0 [n])

/-- TWIN_GIVEUP (R480): without a READY peer the module keeps to its single-module reactions. -/
def execTwinGiveup (t cause : Nat) (s : State) : Host.Outcome State Fault Refusal :=
  .next (onEvent s t fun s =>
    if s.role = 2 && s.giveUpOn cause && s.giveUpHolds cause && s.flag R.TWIN_STAT_PEER_READY then s.giveUp cause else s)

/-- TWIN_ACT_IN_FALL (table Role transitions, R481). -/
def execTwinActInFall (t : Nat) (s : State) : Host.Outcome State Fault Refusal :=
  .next (onEvent s t fun s =>
    let s := s.setActIn false
    if s.role = 3 then
      match s.twinReady, s.twin.copy with
      | true, some c => (s.loadCopy c).setRole 4 none
      | _, _ => s.setRole 5 none
    else if s.role = 1 && s.flag R.TWIN_LINK_UP then s.linkRole (s.rd R.TWIN_STAT_PEER_ROLE) s.twin.peerPrefer
    else s)

/-- TWIN_ACT_IN_RISE (R482, table Role transitions). -/
def execTwinActInRise (t : Nat) (s : State) : Host.Outcome State Fault Refusal :=
  .next (onEvent s t fun s =>
    let s := s.setActIn true
    if s.role = 6 && !s.twin.released then s.twinRelease
    else if s.role = 1 && s.flag R.TWIN_LINK_UP then s.setRole 3 none
    else s)

/-- TWIN_ACT_CONFLICT (R477): the module with PREFER 0 yields, with equal PREFER the one with the lower serial.
(DESIGN CHOICE, log 186) -/
def execTwinActConflict (t : Nat) (s : State) : Host.Outcome State Fault Refusal :=
  .next (onEvent s t fun s =>
    match s.twin.bothAt with
    | some b =>
      let own := s.flag R.TWIN_CFG_PREFER
      let lower := decide (s.rd R.PWR_MODULE_ID_SERIAL < s.rd R.TWIN_STAT_PEER_SERIAL)
      if s.twin.actIn && s.actOut && decide (b + 10 ^ 6 ≤ s.mtb) && ((!own && s.twin.peerPrefer) || (own == s.twin.peerPrefer && lower)) then
        (s.setRole 6 none).twinRelease
      else s
    | none => s)

/-- TWIN_TAKEOVER_DONE (R481): every held coil conducts; TWIN_ACT_OUT rises only while TWIN_ACT_IN is low (R477). -/
def execTwinTakeoverDone (t : Nat) (s : State) : Host.Outcome State Fault Refusal :=
  .next (onEvent s t fun s =>
    let held := (List.range 16).filter fun k => bit s.twin.wanted k && !bit s.twin.refused k
    if s.role = 4 && !s.twin.actIn && held.all s.coilOn then s.takeOverDone else s)

/-- TWIN_FORWARDED_STOP (R487): the active module executes its peer's stop-class command and returns its status.
(DESIGN CHOICE, log 182) -/
def execTwinForwardedStop (t : Nat) (op mask : Nat) (s : State) : Host.Outcome State Fault Refusal :=
  .next (onEvent s t fun s =>
    if s.role != 2 then s
    else if op = Op.SESSION_STOP then
      let (st, s) := s.sessionStop mask
      { s with twin := { s.twin with reply := st } }
    else if op = Op.OUT_EREM then
      let s := s.outErem mask
      { s with twin := { s.twin with reply := St.OK } }
    else s)

/-- TWIN_QUERY. -/
def execTwinQuery (x : Ctx) (s : State) : Host.Outcome State Fault Refusal :=
  .next (s.command x Op.TWIN_QUERY 0 none fun s =>
    s.complete x St.OK (s.rd R.TWIN_STAT_PEER_SERIAL + 2 ^ 64 * s.role + 2 ^ 72 * s.rd R.TWIN_STAT_PEER_ROLE
      + 2 ^ 80 * (s.rd R.TWIN_STAT_READY + 2 * s.rd R.TWIN_STAT_PEER_READY)))

/-- TWIN_SWITCH (R480, cause 6). (DESIGN CHOICE, log 186) -/
def execTwinSwitch (x : Ctx) (s : State) : Host.Outcome State Fault Refusal :=
  .next (s.command x Op.TWIN_SWITCH 0 none fun s =>
    if s.role != 2 then s.complete x St.TWIN_RESERVE
    else if !s.flag R.TWIN_STAT_PEER_READY then s.complete x St.TWIN_NOT_READY
    else if !s.giveUpOn 6 then s.complete x St.DISABLED
    else ((s.complete x St.ACCEPTED).giveUp 6).finalise x St.OK)

/-- TWIN_REJOIN (R479, table Role transitions): only a YIELDED module whose health holds returns to RESERVE.
(DESIGN CHOICE, log 186) -/
def execTwinRejoin (x : Ctx) (s : State) : Host.Outcome State Fault Refusal :=
  .next (s.command x Op.TWIN_REJOIN 0 none fun s =>
    if s.role != 6 then s.complete x St.BAD_PARAM
    else if (List.range 6).any s.giveUpHolds then s.complete x St.TWIN_HEALTH
    else
      let s := ({ s with twin := { s.twin with inRow := 0, copy := none } } : State)
      (s.setRole 3 none).complete x St.OK)

end Sys2Proof.Machine
end

