-- ==== Sys2Proof/Machine/Dispatch.lean ====
section
/-! DEFINITION. The table of the meanings: one arm for each command. -/

namespace Sys2Proof.Machine

/-- The effect of a command on everything but the queue. -/
def exec (i : Instr) (s : State) : Host.Outcome State Fault Refusal :=
  match i with
  | .islandCrossing t target gated reqs => Sys2Proof.Machine.execIslandCrossing t target gated reqs s
  | .linkTimeout t src dst ini cmd => Sys2Proof.Machine.execLinkTimeout t src dst ini cmd s
  | .rtcSecondEdge t => Sys2Proof.Machine.execRtcSecondEdge t s
  | .controlCycleStart t feed => Sys2Proof.Machine.execControlCycleStart t feed s
  | .outputStagingDeadline t late => Sys2Proof.Machine.execOutputStagingDeadline t late s
  | .aCheckDeadline t done => Sys2Proof.Machine.execACheckDeadline t done s
  | .configRequest t req => Sys2Proof.Machine.execConfigRequest t req s
  | .perstRelease t => Sys2Proof.Machine.execPerstRelease t s
  | .hostDetach t cause => Sys2Proof.Machine.execHostDetach t cause s
  | .hostAttach t => Sys2Proof.Machine.execHostAttach t s
  | .ringRegisterWrite t kind ring image => Sys2Proof.Machine.execRingRegisterWrite t kind ring image s
  | .doorbellPoll t cmdProd cplCons evCons strProd descs bufs => Sys2Proof.Machine.execDoorbellPoll t cmdProd cplCons evCons strProd descs bufs s
  | .kick t off prod descs bufs => Sys2Proof.Machine.execKick t off prod descs bufs s
  | .stopCompletionRelease t => Sys2Proof.Machine.execStopCompletionRelease t s
  | .evrGap t j => Sys2Proof.Machine.execEvrGap t j s
  | .notifDataRead t flips => Sys2Proof.Machine.execNotifDataRead t flips s
  | .latchingRead t off wide bar4 => Sys2Proof.Machine.execLatchingRead t off wide bar4 s
  | .streamBufferFill t src mtbFirst data => Sys2Proof.Machine.execStreamBufferFill t src mtbFirst data s
  | .ringCreate x kind ring image => Sys2Proof.Machine.execRingCreate x kind ring image s
  | .ringDestroy x kind ring => Sys2Proof.Machine.execRingDestroy x kind ring s
  | .journalFetch x first span => Sys2Proof.Machine.execJournalFetch x first span s
  | .statusQuery x ring first count => Sys2Proof.Machine.execStatusQuery x ring first count s
  | .regWrite x off value mask => Sys2Proof.Machine.execRegWrite x off value mask s
  | .echo x data => Sys2Proof.Machine.execEcho x data s
  | .startUp t boot => Sys2Proof.Machine.execStartUp t boot s
  | .caskOpen x => Sys2Proof.Machine.execCaskOpen x s
  | .caskAction x act => Sys2Proof.Machine.execCaskAction x act s
  | .caskPrepare x id expected => Sys2Proof.Machine.execCaskPrepare x id expected s
  | .caskValidationDone t k => Sys2Proof.Machine.execCaskValidationDone t k s
  | .caskCommit x id mode instant => Sys2Proof.Machine.execCaskCommit x id mode instant s
  | .caskAbort x id => Sys2Proof.Machine.execCaskAbort x id s
  | .caskQuery x id => Sys2Proof.Machine.execCaskQuery x id s
  | .funcDisable x block inst => Sys2Proof.Machine.execFuncDisable x block inst s
  | .funcDisableDone t block inst => Sys2Proof.Machine.execFuncDisableDone t block inst s
  | .caskOpenTimeout t k => Sys2Proof.Machine.execCaskOpenTimeout t k s
  | .caskPreparedTimeout t k => Sys2Proof.Machine.execCaskPreparedTimeout t k s
  | .caskRecordWrite t k whole => Sys2Proof.Machine.execCaskRecordWrite t k whole s
  | .caskSyncEdge t edge falling => Sys2Proof.Machine.execCaskSyncEdge t edge falling s
  | .caskSyncTimeout t k => Sys2Proof.Machine.execCaskSyncTimeout t k s
  | .caskRetract t k => Sys2Proof.Machine.execCaskRetract t k s
  | .caskApply t k applied lowRefused => Sys2Proof.Machine.execCaskApply t k applied lowRefused s
  | .pilotStateAccept t n => Sys2Proof.Machine.execPilotStateAccept t n s
  | .pilotDiodeFault t n => Sys2Proof.Machine.execPilotDiodeFault t n s
  | .pilotPwmPeriod t n high low => Sys2Proof.Machine.execPilotPwmPeriod t n high low s
  | .proximityRead t n ohms => Sys2Proof.Machine.execProximityRead t n ohms s
  | .authTimeout t n => Sys2Proof.Machine.execAuthTimeout t n s
  | .hlcMessage t n msg => Sys2Proof.Machine.execHlcMessage t n msg s
  | .hlcTimeout t n => Sys2Proof.Machine.execHlcTimeout t n s
  | .slacParmReq t run pilots => Sys2Proof.Machine.execSlacParmReq t run pilots s
  | .startAttenChar t run => Sys2Proof.Machine.execStartAttenChar t run s
  | .mnbcSound t run meas => Sys2Proof.Machine.execMnbcSound t run meas s
  | .slacWindowClose t => Sys2Proof.Machine.execSlacWindowClose t s
  | .slacValidate t run announced counted => Sys2Proof.Machine.execSlacValidate t run announced counted s
  | .slacMatchReq t run pilot => Sys2Proof.Machine.execSlacMatchReq t run pilot s
  | .slacMatchTimeout t run => Sys2Proof.Machine.execSlacMatchTimeout t run s
  | .slacInitTimeout t n => Sys2Proof.Machine.execSlacInitTimeout t n s
  | .preauthTimeout t => Sys2Proof.Machine.execPreauthTimeout t s
  | .pmStatusFrame t bus id frame => Sys2Proof.Machine.execPmStatusFrame t bus id frame s
  | .pmIdentFrame t bus id maker model serial ratedV ratedA ratedKw fw => Sys2Proof.Machine.execPmIdentFrame t bus id maker model serial ratedV ratedA ratedKw fw s
  | .pmFaultFrame t bus id code severity => Sys2Proof.Machine.execPmFaultFrame t bus id code severity s
  | .pmLost t n inst => Sys2Proof.Machine.execPmLost t n inst s
  | .setpointSend t n => Sys2Proof.Machine.execSetpointSend t n s
  | .pmSyncSend t => Sys2Proof.Machine.execPmSyncSend t s
  | .allocatorRun t => Sys2Proof.Machine.execAllocatorRun t s
  | .trellisLimitExpiry t => Sys2Proof.Machine.execTrellisLimitExpiry t s
  | .enforcementGraceEnd t n => Sys2Proof.Machine.execEnforcementGraceEnd t n s
  | .allocMaxWait t n => Sys2Proof.Machine.execAllocMaxWait t n s
  | .outConfig x n cfg dc => Sys2Proof.Machine.execOutConfig x n cfg dc s
  | .outAvailability x n mode => Sys2Proof.Machine.execOutAvailability x n mode s
  | .sessionAuthorise x n kind ident => Sys2Proof.Machine.execSessionAuthorise x n kind ident s
  | .sessionStop x mask peer => Sys2Proof.Machine.execSessionStop x mask peer s
  | .outErem x mask peer => Sys2Proof.Machine.execOutErem x mask peer s
  | .outSiteLimit x watts => Sys2Proof.Machine.execOutSiteLimit x watts s
  | .sessionSetClass x n cls => Sys2Proof.Machine.execSessionSetClass x n cls s
  | .sessionQuery x n => Sys2Proof.Machine.execSessionQuery x n s
  | .outSelect x n => Sys2Proof.Machine.execOutSelect x n s
  | .outContactor x n close => Sys2Proof.Machine.execOutContactor x n close s
  | .outPilotDuty x n duty => Sys2Proof.Machine.execOutPilotDuty x n duty s
  | .outPmSetpoint x n mode volts amps watts => Sys2Proof.Machine.execOutPmSetpoint x n mode volts amps watts s
  | .outCertResponse x n valid data => Sys2Proof.Machine.execOutCertResponse x n valid data s
  | .hslCycle t levels mirrors => Sys2Proof.Machine.execHslCycle t levels mirrors s
  | .hslTableCheck t crcOk => Sys2Proof.Machine.execHslTableCheck t crcOk s
  | .hslWatchdogExpiry t => Sys2Proof.Machine.execHslWatchdogExpiry t s
  | .bHeartbeat t b => Sys2Proof.Machine.execBHeartbeat t b s
  | .bHeartbeatLoss t => Sys2Proof.Machine.execBHeartbeatLoss t s
  | .channelDiscrepancy t code n chan reading since => Sys2Proof.Machine.execChannelDiscrepancy t code n chan reading since s
  | .safetySelftestDone t => Sys2Proof.Machine.execSafetySelftestDone t s
  | .coilPullinStart t k => Sys2Proof.Machine.execCoilPullinStart t k s
  | .coilPullinEnd t k => Sys2Proof.Machine.execCoilPullinEnd t k s
  | .coilOpen t k ma ms => Sys2Proof.Machine.execCoilOpen t k ma ms s
  | .coilShort t k ma => Sys2Proof.Machine.execCoilShort t k ma s
  | .weldCheck t n => Sys2Proof.Machine.execWeldCheck t n s
  | .shuntTripEnd t => Sys2Proof.Machine.execShuntTripEnd t s
  | .shuntTripRepeat t n => Sys2Proof.Machine.execShuntTripRepeat t n s
  | .darkTestPulse t k low offUs otherOpens => Sys2Proof.Machine.execDarkTestPulse t k low offUs otherOpens s
  | .darkTestEnd t onUs => Sys2Proof.Machine.execDarkTestEnd t onUs s
  | .coilUncontrol t k => Sys2Proof.Machine.execCoilUncontrol t k s
  | .estopSourcePulse t srcB ownFollows otherFollows => Sys2Proof.Machine.execEstopSourcePulse t srcB ownFollows otherFollows s
  | .estopOpen t inputB us => Sys2Proof.Machine.execEstopOpen t inputB us s
  | .estopDisc t => Sys2Proof.Machine.execEstopDisc t s
  | .safeInChange t m closed ms => Sys2Proof.Machine.execSafeInChange t m closed ms s
  | .rcmReading t inst value => Sys2Proof.Machine.execRcmReading t inst value s
  | .rcmSelftestRun t n offset reading => Sys2Proof.Machine.execRcmSelftestRun t n offset reading s
  | .rcmSensorRange t inst => Sys2Proof.Machine.execRcmSensorRange t inst s
  | .rcmPrewarn t n => Sys2Proof.Machine.execRcmPrewarn t n s
  | .imdResult t kohm => Sys2Proof.Machine.execImdResult t kohm s
  | .cableCheckTimeout t n => Sys2Proof.Machine.execCableCheckTimeout t n s
  | .safeStatePilotEnd t n => Sys2Proof.Machine.execSafeStatePilotEnd t n s
  | .resetSafeEdge t lowUs aOpen bOpen => Sys2Proof.Machine.execResetSafeEdge t lowUs aOpen bOpen s
  | .safeQuery x => Sys2Proof.Machine.execSafeQuery x s
  | .safeTestNow x mask => Sys2Proof.Machine.execSafeTestNow x mask s
  | .rcmSelftest x n offset reading => Sys2Proof.Machine.execRcmSelftest x n offset reading s
  | .imdMeasure x n kohm => Sys2Proof.Machine.execImdMeasure x n kohm s
  | .chOverload t c => Sys2Proof.Machine.execChOverload t c s
  | .mbsLost t c => Sys2Proof.Machine.execMbsLost t c s
  | .mbsRestored t c => Sys2Proof.Machine.execMbsRestored t c s
  | .auxSeqDue t q => Sys2Proof.Machine.execAuxSeqDue t q s
  | .auxConversionDone t conv samples trip => Sys2Proof.Machine.execAuxConversionDone t conv samples trip s
  | .afeSeqLoad x q ctl ents => Sys2Proof.Machine.execAfeSeqLoad x q ctl ents s
  | .afeSeqEn x q on => Sys2Proof.Machine.execAfeSeqEn x q on s
  | .afeAuxOneshot x inst conv settle avg samples trip => Sys2Proof.Machine.execAfeAuxOneshot x inst conv settle avg samples trip s
  | .afeCalZero x inst conv y0 samples trip => Sys2Proof.Machine.execAfeCalZero x inst conv y0 samples trip s
  | .afeCalSpan x inst conv y1 samples trip => Sys2Proof.Machine.execAfeCalSpan x inst conv y1 samples trip s
  | .afeCalRestore x inst conv => Sys2Proof.Machine.execAfeCalRestore x inst conv s
  | .afeCapture x mask fmt samples => Sys2Proof.Machine.execAfeCapture x mask fmt samples s
  | .afeCaptureStop x mask parts => Sys2Proof.Machine.execAfeCaptureStop x mask parts s
  | .trkPeriod t m cross amp => Sys2Proof.Machine.execTrkPeriod t m cross amp s
  | .trkCrossingTimeout t m => Sys2Proof.Machine.execTrkCrossingTimeout t m s
  | .trkHoldExpiry t m => Sys2Proof.Machine.execTrkHoldExpiry t m s
  | .trkSourceAbsent t m => Sys2Proof.Machine.execTrkSourceAbsent t m s
  | .gridCycleStart t m => Sys2Proof.Machine.execGridCycleStart t m s
  | .settlingEnd t c => Sys2Proof.Machine.execSettlingEnd t c s
  | .blendStart t c => Sys2Proof.Machine.execBlendStart t c s
  | .blendDone t c => Sys2Proof.Machine.execBlendDone t c s
  | .filtQuery x c => Sys2Proof.Machine.execFiltQuery x c s
  | .filtBlend x mask => Sys2Proof.Machine.execFiltBlend x mask s
  | .trkQuery x m => Sys2Proof.Machine.execTrkQuery x m s
  | .filtRestart x mask => Sys2Proof.Machine.execFiltRestart x mask s
  | .metWindowEnd t m => Sys2Proof.Machine.execMetWindowEnd t m s
  | .demandSecondRecord t m => Sys2Proof.Machine.execDemandSecondRecord t m s
  | .pqHalfCycle t m => Sys2Proof.Machine.execPqHalfCycle t m s
  | .pulseStart t k => Sys2Proof.Machine.execPulseStart t k s
  | .pulseEnd t k => Sys2Proof.Machine.execPulseEnd t k s
  | .tcRead t temp => Sys2Proof.Machine.execTcRead t temp s
  | .metSessionCloseFinal t m => Sys2Proof.Machine.execMetSessionCloseFinal t m s
  | .metCalMeasureDone t m => Sys2Proof.Machine.execMetCalMeasureDone t m s
  | .metQuery x m => Sys2Proof.Machine.execMetQuery x m s
  | .metSessionOpen x m sess => Sys2Proof.Machine.execMetSessionOpen x m sess s
  | .metSessionClose x m => Sys2Proof.Machine.execMetSessionClose x m s
  | .metCalMeasure x m phases secs => Sys2Proof.Machine.execMetCalMeasure x m phases secs s
  | .metCalApply x m ph uRef iRef angleRef mask => Sys2Proof.Machine.execMetCalApply x m ph uRef iRef angleRef mask s
  | .metPulseCfg x k image => Sys2Proof.Machine.execMetPulseCfg x k image s
  | .metHarmRead x m ph groups => Sys2Proof.Machine.execMetHarmRead x m ph groups s
  | .metWaveCapture x mask samples => Sys2Proof.Machine.execMetWaveCapture x mask samples s
  | .metWaveStop x mask => Sys2Proof.Machine.execMetWaveStop x mask s
  | .ledgerCommit t ok => Sys2Proof.Machine.execLedgerCommit t ok s
  | .recordSign t => Sys2Proof.Machine.execRecordSign t s
  | .vfail t mv feed => Sys2Proof.Machine.execVfail t mv feed s
  | .vinReturn t mv => Sys2Proof.Machine.execVinReturn t mv s
  | .converterRailFall t => Sys2Proof.Machine.execConverterRailFall t s
  | .tariffSwitch t => Sys2Proof.Machine.execTariffSwitch t s
  | .calendarActivate t => Sys2Proof.Machine.execCalendarActivate t s
  | .demandBoundary t => Sys2Proof.Machine.execDemandBoundary t s
  | .boundaryTransaction t => Sys2Proof.Machine.execBoundaryTransaction t s
  | .syncWindowExpiry t => Sys2Proof.Machine.execSyncWindowExpiry t s
  | .sealIdle t => Sys2Proof.Machine.execSealIdle t s
  | .legalSealChange t level => Sys2Proof.Machine.execLegalSealChange t level s
  | .calExpiry t => Sys2Proof.Machine.execCalExpiry t s
  | .legalBtnPress t => Sys2Proof.Machine.execLegalBtnPress t s
  | .legalDisplayTimeout t => Sys2Proof.Machine.execLegalDisplayTimeout t s
  | .ledgerQuery x m => Sys2Proof.Machine.execLedgerQuery x m s
  | .ledgerSessionRecord x n m op kind ident price reason => Sys2Proof.Machine.execLedgerSessionRecord x n m op kind ident price reason s
  | .ledgerTariffSelect x mask tariff price => Sys2Proof.Machine.execLedgerTariffSelect x mask tariff price s
  | .ledgerReadSigned x mask => Sys2Proof.Machine.execLedgerReadSigned x mask s
  | .ledgerRecordFetch x first maxBytes ackTo => Sys2Proof.Machine.execLedgerRecordFetch x first maxBytes ackTo s
  | .ledgerTimeSet x ms sig => Sys2Proof.Machine.execLedgerTimeSet x ms sig s
  | .ledgerCalendarLoad x image sigOk => Sys2Proof.Machine.execLedgerCalendarLoad x image sigOk s
  | .ledgerBillingClose x => Sys2Proof.Machine.execLedgerBillingClose x s
  | .ledgerBillingRead x k => Sys2Proof.Machine.execLedgerBillingRead x k s
  | .ledgerCalChallenge x => Sys2Proof.Machine.execLedgerCalChallenge x s
  | .ledgerCalOpen x mask mins challenge sigOk => Sys2Proof.Machine.execLedgerCalOpen x mask mins challenge sigOk s
  | .ledgerCalClose x => Sys2Proof.Machine.execLedgerCalClose x s
  | .ledgerLegalId x => Sys2Proof.Machine.execLedgerLegalId x s
  | .ledgerAckLoss x => Sys2Proof.Machine.execLedgerAckLoss x s
  | .plcFrameRx t inst agc first syms fecOk => Sys2Proof.Machine.execPlcFrameRx t inst agc first syms fecOk s
  | .superframeStart t => Sys2Proof.Machine.execSuperframeStart t s
  | .beaconRx t h stamp pos coord count relays => Sys2Proof.Machine.execBeaconRx t h stamp pos coord count relays s
  | .syncInEdge t first falling => Sys2Proof.Machine.execSyncInEdge t first falling s
  | .trellisTx t => Sys2Proof.Machine.execTrellisTx t s
  | .ack t h seq ctr => Sys2Proof.Machine.execAck t h seq ctr s
  | .trellisAckTimeout t => Sys2Proof.Machine.execTrellisAckTimeout t s
  | .joinReq t h serial caps => Sys2Proof.Machine.execJoinReq t h serial caps s
  | .joinResult t h res count => Sys2Proof.Machine.execJoinResult t h res count s
  | .lqReport t h entries => Sys2Proof.Machine.execLqReport t h entries s
  | .siteLimit t h validity entries => Sys2Proof.Machine.execSiteLimit t h validity entries s
  | .time t h ref ms sig => Sys2Proof.Machine.execTime t h ref ms sig s
  | .hostData t h payload => Sys2Proof.Machine.execHostData t h payload s
  | .imageOffer t h digest count gen => Sys2Proof.Machine.execImageOffer t h digest count gen s
  | .imageReq t h digest ranges => Sys2Proof.Machine.execImageReq t h digest ranges s
  | .imageBlock t h digest block frag data sigs => Sys2Proof.Machine.execImageBlock t h digest block frag data sigs s
  | .imageBlockExpiry t => Sys2Proof.Machine.execImageBlockExpiry t s
  | .trellisBeaconTimeout t => Sys2Proof.Machine.execTrellisBeaconTimeout t s
  | .trellisJoinTimeout t => Sys2Proof.Machine.execTrellisJoinTimeout t s
  | .trellisJoinBackoffEnd t => Sys2Proof.Machine.execTrellisJoinBackoffEnd t s
  | .trellisNodeTimeout t n => Sys2Proof.Machine.execTrellisNodeTimeout t n s
  | .lqReportSend t => Sys2Proof.Machine.execLqReportSend t s
  | .siteLimitRepeat t => Sys2Proof.Machine.execSiteLimitRepeat t s
  | .timeSend t => Sys2Proof.Machine.execTimeSend t s
  | .imageOfferSend t => Sys2Proof.Machine.execImageOfferSend t s
  | .trellisEnable t on => Sys2Proof.Machine.execTrellisEnable t on s
  | .plcQuery x island => Sys2Proof.Machine.execPlcQuery x island s
  | .trellisSend x dst cls payload => Sys2Proof.Machine.execTrellisSend x dst cls payload s
  | .trellisLimitSend x validity entries => Sys2Proof.Machine.execTrellisLimitSend x validity entries s
  | .trellisLqRead x => Sys2Proof.Machine.execTrellisLqRead x s
  | .trellisRestart x => Sys2Proof.Machine.execTrellisRestart x s
  | .pufRetry t ber => Sys2Proof.Machine.execPufRetry t ber s
  | .riddle t => Sys2Proof.Machine.execRiddle t s
  | .drbgReseed t => Sys2Proof.Machine.execDrbgReseed t s
  | .entropyFail t test => Sys2Proof.Machine.execEntropyFail t test s
  | .entropyRetest t pass => Sys2Proof.Machine.execEntropyRetest t pass s
  | .keySelftestDone t failed ber => Sys2Proof.Machine.execKeySelftestDone t failed ber s
  | .credVerifyDone t => Sys2Proof.Machine.execCredVerifyDone t s
  | .flashBlockFail t a => Sys2Proof.Machine.execFlashBlockFail t a s
  | .keyQuery x => Sys2Proof.Machine.execKeyQuery x s
  | .keyNodeQuery x path => Sys2Proof.Machine.execKeyNodeQuery x path s
  | .keyInvalidate x path sig => Sys2Proof.Machine.execKeyInvalidate x path sig s
  | .keyRederive x path sig => Sys2Proof.Machine.execKeyRederive x path sig s
  | .keyInstall x blob plain sigOk => Sys2Proof.Machine.execKeyInstall x blob plain sigOk s
  | .keyOwnerSet x key counter sig => Sys2Proof.Machine.execKeyOwnerSet x key counter sig s
  | .keyAnchorInstall x slot typ item valid sig => Sys2Proof.Machine.execKeyAnchorInstall x slot typ item valid sig s
  | .keyCsr x path subject => Sys2Proof.Machine.execKeyCsr x path subject s
  | .keyCertInstall x path chain leafKey periods valid => Sys2Proof.Machine.execKeyCertInstall x path chain leafKey periods valid s
  | .keyAttest x nonce paths => Sys2Proof.Machine.execKeyAttest x nonce paths s
  | .keyAttestCert x => Sys2Proof.Machine.execKeyAttestCert x s
  | .keySelftest x => Sys2Proof.Machine.execKeySelftest x s
  | .credLoadBegin x gen count => Sys2Proof.Machine.execCredLoadBegin x gen count s
  | .credLoadData x first recs => Sys2Proof.Machine.execCredLoadData x first recs s
  | .credLoadCommit x gen count digest serial sigOk => Sys2Proof.Machine.execCredLoadCommit x gen count digest serial sigOk s
  | .credLoadAbort x => Sys2Proof.Machine.execCredLoadAbort x s
  | .credUpdate x recs sig => Sys2Proof.Machine.execCredUpdate x recs sig s
  | .credLookup x kind hash n tagBad => Sys2Proof.Machine.execCredLookup x kind hash n tagBad s
  | .rdr0Poll t cardsA cardsB cards15 authOk rxErr => Sys2Proof.Machine.execRdr0Poll t cardsA cardsB cards15 authOk rxErr s
  | .cableRead t tag => Sys2Proof.Machine.execCableRead t tag s
  | .cableWrite t ok => Sys2Proof.Machine.execCableWrite t ok s
  | .ownTagFieldOn t => Sys2Proof.Machine.execOwnTagFieldOn t s
  | .ownTagFieldLost t => Sys2Proof.Machine.execOwnTagFieldLost t s
  | .ownTagFieldRead t first count => Sys2Proof.Machine.execOwnTagFieldRead t first count s
  | .ownTagFieldWrite t first values done => Sys2Proof.Machine.execOwnTagFieldWrite t first values done s
  | .presentPwd t pwd => Sys2Proof.Machine.execPresentPwd t pwd s
  | .ownTagMam1 t ok => Sys2Proof.Machine.execOwnTagMam1 t ok s
  | .tagQuery x => Sys2Proof.Machine.execTagQuery x s
  | .tagCableRead x n => Sys2Proof.Machine.execTagCableRead x n s
  | .tagCableInit x n ok => Sys2Proof.Machine.execTagCableInit x n ok s
  | .tagCableRetire x n ok => Sys2Proof.Machine.execTagCableRetire x n ok s
  | .tagOwnRead x first count => Sys2Proof.Machine.execTagOwnRead x first count s
  | .tagOwnWrite x first blocks => Sys2Proof.Machine.execTagOwnWrite x first blocks s
  | .dispTempStale t => Sys2Proof.Machine.execDispTempStale t s
  | .dispFrameStart t => Sys2Proof.Machine.execDispFrameStart t s
  | .dispRegionDone t r => Sys2Proof.Machine.execDispRegionDone t r s
  | .epdPwrGoodRise t => Sys2Proof.Machine.execEpdPwrGoodRise t s
  | .dispPwrTimeout t => Sys2Proof.Machine.execDispPwrTimeout t s
  | .epdPwrGoodLoss t => Sys2Proof.Machine.execEpdPwrGoodLoss t s
  | .dispPwrOff t => Sys2Proof.Machine.execDispPwrOff t s
  | .vintageSave t => Sys2Proof.Machine.execVintageSave t s
  | .segSense t caps => Sys2Proof.Machine.execSegSense t caps s
  | .segFrame t => Sys2Proof.Machine.execSegFrame t s
  | .legalSilent t => Sys2Proof.Machine.execLegalSilent t s
  | .dispQuery x => Sys2Proof.Machine.execDispQuery x s
  | .dispImageLoad x px py w h pixels => Sys2Proof.Machine.execDispImageLoad x px py w h pixels s
  | .dispUpdate x px py w h mode => Sys2Proof.Machine.execDispUpdate x px py w h mode s
  | .dispTempSet x v => Sys2Proof.Machine.execDispTempSet x v s
  | .dispVintageRead x => Sys2Proof.Machine.execDispVintageRead x s
  | .dispVintageReset x sig => Sys2Proof.Machine.execDispVintageReset x sig s
  | .lswTrip t n ma tj lowOut => Sys2Proof.Machine.execLswTrip t n ma tj lowOut s
  | .inrushEnd t n ma tj calm => Sys2Proof.Machine.execInrushEnd t n ma tj calm s
  | .lswRetry t n => Sys2Proof.Machine.execLswRetry t n s
  | .lswCoolRestart t n tj => Sys2Proof.Machine.execLswCoolRestart t n tj s
  | .retriesReload t n => Sys2Proof.Machine.execRetriesReload t n s
  | .quadHot t q temp => Sys2Proof.Machine.execQuadHot t q temp s
  | .quadCool t q temp => Sys2Proof.Machine.execQuadCool t q temp s
  | .quadRestartStep t q => Sys2Proof.Machine.execQuadRestartStep t q s
  | .lswPwmPeriod t b => Sys2Proof.Machine.execLswPwmPeriod t b s
  | .lswOpenOn t n lo hi => Sys2Proof.Machine.execLswOpenOn t n lo hi s
  | .lswOpenOff t n => Sys2Proof.Machine.execLswOpenOff t n s
  | .lswBudgetWindow t mas mws => Sys2Proof.Machine.execLswBudgetWindow t mas mws s
  | .vlsUndervoltage t b mv => Sys2Proof.Machine.execVlsUndervoltage t b mv s
  | .vlsRestored t b mv => Sys2Proof.Machine.execVlsRestored t b mv s
  | .lswSet x mask on duty phase => Sys2Proof.Machine.execLswSet x mask on duty phase s
  | .lswClear x mask => Sys2Proof.Machine.execLswClear x mask s
  | .lswQuery x n => Sys2Proof.Machine.execLswQuery x n s
  | .lswConfig x n cfg pwm => Sys2Proof.Machine.execLswConfig x n cfg pwm s
  | .lswBankPwm x b hz => Sys2Proof.Machine.execLswBankPwm x b hz s
  | .updBegin x man sigs => Sys2Proof.Machine.execUpdBegin x man sigs s
  | .updBlock x first blocks => Sys2Proof.Machine.execUpdBlock x first blocks s
  | .updStatus x first => Sys2Proof.Machine.execUpdStatus x first s
  | .updActivate x mode => Sys2Proof.Machine.execUpdActivate x mode s
  | .updConfirm x => Sys2Proof.Machine.execUpdConfirm x s
  | .updRevert x => Sys2Proof.Machine.execUpdRevert x s
  | .updAbort x sig => Sys2Proof.Machine.execUpdAbort x sig s
  | .updPolicy x cosign sig => Sys2Proof.Machine.execUpdPolicy x cosign sig s
  | .updVerifyDone t readOk => Sys2Proof.Machine.execUpdVerifyDone t readOk s
  | .updLockIdle t => Sys2Proof.Machine.execUpdLockIdle t s
  | .updActivationFlip t => Sys2Proof.Machine.execUpdActivationFlip t s
  | .updActivateTimeout t => Sys2Proof.Machine.execUpdActivateTimeout t s
  | .trialTimeSave t => Sys2Proof.Machine.execTrialTimeSave t s
  | .updAutoConfirm t => Sys2Proof.Machine.execUpdAutoConfirm t s
  | .trialTimeout t => Sys2Proof.Machine.execTrialTimeout t s
  | .svcBegin t man sigs => Sys2Proof.Machine.execSvcBegin t man sigs s
  | .svcBlock t block data => Sys2Proof.Machine.execSvcBlock t block data s
  | .svcActivate t mode => Sys2Proof.Machine.execSvcActivate t mode s
  | .svcStatus t => Sys2Proof.Machine.execSvcStatus t s
  | .svcAbort t sig => Sys2Proof.Machine.execSvcAbort t sig s
  | .svcConfirm t => Sys2Proof.Machine.execSvcConfirm t s
  | .svcRevert t => Sys2Proof.Machine.execSvcRevert t s
  | .svcBadFrame t => Sys2Proof.Machine.execSvcBadFrame t s
  | .twinLinkUp t lanes serial peerPrefer hdr => Sys2Proof.Machine.execTwinLinkUp t lanes serial peerPrefer hdr s
  | .twinLinkDown t => Sys2Proof.Machine.execTwinLinkDown t s
  | .twinPairTimeout t => Sys2Proof.Machine.execTwinPairTimeout t s
  | .twinCopyFreeze t hdr crc kib => Sys2Proof.Machine.execTwinCopyFreeze t hdr crc kib s
  | .twinCopyRx t copy whole kib hdr => Sys2Proof.Machine.execTwinCopyRx t copy whole kib hdr s
  | .twinCopyDeadline t crc => Sys2Proof.Machine.execTwinCopyDeadline t crc s
  | .twinGiveup t cause => Sys2Proof.Machine.execTwinGiveup t cause s
  | .twinActInFall t => Sys2Proof.Machine.execTwinActInFall t s
  | .twinActInRise t => Sys2Proof.Machine.execTwinActInRise t s
  | .twinActConflict t => Sys2Proof.Machine.execTwinActConflict t s
  | .twinTakeoverDone t => Sys2Proof.Machine.execTwinTakeoverDone t s
  | .twinQuery x => Sys2Proof.Machine.execTwinQuery x s
  | .twinSwitch x => Sys2Proof.Machine.execTwinSwitch x s
  | .twinRejoin x => Sys2Proof.Machine.execTwinRejoin x s
  | .vinValid t mv ms => Sys2Proof.Machine.execVinValid t mv ms s
  | .earlyVinLoss t => Sys2Proof.Machine.execEarlyVinLoss t s
  | .railOutOfLimits t r ov mv us feed whole => Sys2Proof.Machine.execRailOutOfLimits t r ov mv us feed whole s
  | .railRestored t r mv us => Sys2Proof.Machine.execRailRestored t r mv us s
  | .tempLevelChange t k celsius => Sys2Proof.Machine.execTempLevelChange t k celsius s
  | .procMonSample t codes => Sys2Proof.Machine.execProcMonSample t codes s
  | .tamperInput t k closed samples => Sys2Proof.Machine.execTamperInput t k closed samples s
  | .xtal32Fail t => Sys2Proof.Machine.execXtal32Fail t s
  | .xtal49Fail t => Sys2Proof.Machine.execXtal49Fail t s
  | .xtal49Return t => Sys2Proof.Machine.execXtal49Return t s
  | .xtal25Fail t feed => Sys2Proof.Machine.execXtal25Fail t feed s
  | .meterWake t cause => Sys2Proof.Machine.execMeterWake t cause s
  | .pwrQuery x => Sys2Proof.Machine.execPwrQuery x s
  | .pwrMode x mode => Sys2Proof.Machine.execPwrMode x mode s
  | .pwrIdent x => Sys2Proof.Machine.execPwrIdent x s
  | .setupLock t => Sys2Proof.Machine.execSetupLock t s
  | .settingsSaved t => Sys2Proof.Machine.execSettingsSaved t s
  | .alertWrite t mask => Sys2Proof.Machine.execAlertWrite t mask s
  | .registerWrite t off value wide part bar4 => Sys2Proof.Machine.execRegisterWrite t off value wide part bar4 s
  | .xtal32Return t => Sys2Proof.Machine.execXtal32Return t s
  | .refclkReturn t => Sys2Proof.Machine.execRefclkReturn t s
  | .resetToReady t => Sys2Proof.Machine.execResetToReady t s
  | .twinForwardedStop t op mask => Sys2Proof.Machine.execTwinForwardedStop t op mask s

end Sys2Proof.Machine
end

