-- ==== Sys2Proof/Machine/Idle.lean ====
section
/-! DEFINITION. What the block does while no command waits. -/

namespace Sys2Proof.Machine

/-- With no command waiting, one edge of XTAL49 passes (R20); without VIN there is none. DESIGN CHOICE: the table has no
row for a tick. (DESIGN CHOICE, log 1) -/
def State.idle (s : State) : State := if s.powered then s.edges 1 else s

end Sys2Proof.Machine
end

