-- ==== Sys2Proof/Safety.lean ====
section
/-! DEFINITION. What statements are made of: the standing invariant, when a ring command is taken, and what a state shows of
a command's completion and of the newest event, and what a command may change. -/

namespace Sys2Proof.Machine.State

/-- The standing invariant: the accumulator of the MTB stays below 768, as a modulo-768 accumulator does (R20), and the
register store is in its canonical form, so that every register field has one value at every instance (R9). -/
def Inv (s : State) : Prop := s.mtbAcc < 768 ∧ s.regs.sorted = true

/-- Nothing waits and the invariant holds. -/
def Settled (s : State) : Prop := s.pending = [] ∧ s.Inv

/-- The status that the history holds for a command (R52). -/
def answer (s : State) (x : Ctx) : Option Nat := (s.histOf x.ring x.seq).map (·.status)

/-- The newest event of the journal: its code, its instance and its payload (R45, R55). -/
def told (s : State) : Option (Nat × Nat × List Nat) := s.host.journal.head?.map fun e => (e.code, e.inst, e.payload)

/-- A ring command outside a Cask reaches its function: the module runs, the command was fetched and its turn has come
(`startable`), no fence holds it, nothing turns it away (`gate`), its block is not stopped in METER, and no destroy of a
ring waits for it. -/
def takes (s : State) (x : Ctx) (op inst : Nat) : Bool :=
  s.up && s.startable x op && !s.fenced x && s.gate x op inst == none && x.cask == 0
    && !(stoppedInMeter (op / 256) && s.rd R.PWR_STAT_MODE == 1) && s.host.destroys.isEmpty

/-! ### Frames -/

/-- The parts of the state beside the register fields, the queue and the time base. -/
inductive Part where
  | fresh
  | phase
  | settings
  | host
  | arch
  | cask
  | out
  | safe
  | afe
  | filt
  | met
  | ledger
  | key
  | plc
  | tag
  | disp
  | lsw
  | upd
  | twin
  | pwr
  deriving DecidableEq, Repr

/-- One part is in `u` as it was in `s`. -/
def samePart (s u : State) : Part → Prop
  | .fresh => u.fresh = s.fresh
  | .phase => u.phase = s.phase
  | .settings => u.settings = s.settings
  | .host => u.host = s.host
  | .arch => u.arch = s.arch
  | .cask => u.cask = s.cask
  | .out => u.out = s.out
  | .safe => u.safe = s.safe
  | .afe => u.afe = s.afe
  | .filt => u.filt = s.filt
  | .met => u.met = s.met
  | .ledger => u.ledger = s.ledger
  | .key => u.key = s.key
  | .plc => u.plc = s.plc
  | .tag => u.tag = s.tag
  | .disp => u.disp = s.disp
  | .lsw => u.lsw = s.lsw
  | .upd => u.upd = s.upd
  | .twin => u.twin = s.twin
  | .pwr => u.pwr = s.pwr

/-- From `s` to `u` nothing changed but the parts of `ps` and the register fields of `fs` (at any of their instances); the
time base is not spoken of. -/
def leaves (ps : List Part) (fs : List Fld) (s u : State) : Prop :=
  u.pending = s.pending ∧ (∀ p, p ∉ ps → s.samePart u p) ∧ ∀ (F : Fld) (n : Nat), F.id ∉ fs.map Fld.id → u.rd F n = s.rd F n

/-- The register fields that a ring command's completion may change, with the events that it may raise: the history, the
  device sequence numbers, the rings a waiting destroy disables, and a wake from METER. -/
def answerFields : List Fld :=
  [R.GLOBAL_ALERT_NOTIF_LOST, R.GLOBAL_ALERT_JOURNAL_LOST, R.GLOBAL_ISLAND_STAT_READY, R.GLOBAL_ISLAND_STAT_CLK_OK,
    R.GLOBAL_ISLAND_STAT_ASLEEP, R.HOST_NOTIF_STAT_LOST, R.HOST_CMDR_EN, R.HOST_SYNC_LAST_COMPLETED,
    R.HOST_SYNC_GLOBAL_DEV_SEQ_HIGH, R.HOST_SYNC_GLOBAL_JOURNAL_LOW, R.HOST_SYNC_GLOBAL_JRN_LOST, R.PWR_STAT_MODE]

/-- The register fields that an event may change: the device sequence numbers, the journal and the notification counts. -/
def eventFields : List Fld :=
  [R.GLOBAL_ALERT_NOTIF_LOST, R.GLOBAL_ALERT_JOURNAL_LOST, R.HOST_NOTIF_STAT_LOST, R.HOST_SYNC_GLOBAL_DEV_SEQ_HIGH,
    R.HOST_SYNC_GLOBAL_JOURNAL_LOW, R.HOST_SYNC_GLOBAL_JRN_LOST]

/-- The register fields that an appended SRF record or a tamper count may change. -/
def recordFields : List Fld :=
  [R.LEDGER_STAT_LAST_SEQ, R.LEDGER_STAT_OVERWRITTEN, R.LEDGER_STAT_UNSIGNED, R.LEDGER_TAMPER_COUNT,
    R.LEDGER_TAMPER_FIRST_UTC, R.LEDGER_TAMPER_LAST_UTC]

/-- The register fields that a closed demand interval or billing period may change. -/
def demandFields : List Fld :=
  [R.HOST_SYNC_LAST_COMPLETED, R.LEDGER_STAT_BILL_SETS, R.LEDGER_TOU_A_IMP, R.LEDGER_TOU_A_EXP, R.LEDGER_TOU_R_IMP,
    R.LEDGER_TOU_R_EXP, R.LEDGER_TOU_S_IMP, R.LEDGER_TOU_S_EXP, R.LEDGER_DEMAND_LAST_IMP_W,
    R.LEDGER_DEMAND_LAST_EXP_W, R.LEDGER_DEMAND_LAST_RIMP_VAR, R.LEDGER_DEMAND_LAST_REXP_VAR,
    R.LEDGER_DEMAND_MAX_IMP_W, R.LEDGER_DEMAND_MAX_IMP_UTC, R.LEDGER_DEMAND_CUR_IMP_WH, R.LEDGER_DEMAND_ELAPSED_S,
    R.LEDGER_DEMAND_FLAGS]

/-- The register fields that a heard Trellis frame and the routes made from it may change. -/
def routeFields : List Fld :=
  [R.PLC_TRELLIS_STAT_NEIGHBOURS, R.PLC_TRELLIS_STAT_NODES, R.PLC_TRELLIS_STAT_REPEATER_CHG,
    R.PLC_TRELLIS_LQ_NEXT_HOP, R.PLC_TRELLIS_LQ_HOPS, R.PLC_TRELLIS_LQ_METRIC, R.PLC_TRELLIS_LQ_LINK_COST,
    R.PLC_TRELLIS_LQ_LINK_MODE, R.PLC_TRELLIS_LQ_FAIL32, R.PLC_TRELLIS_LQ_SNR, R.PLC_TRELLIS_LQ_COUPLE,
    R.PLC_TRELLIS_LQ_LAST_HEARD]

/-- The register fields that the end of a session may change beside its outlet's state. -/
def endingFields : List Fld :=
  [R.MET_SESS_OPEN, R.MET_SESS_CLOSED_PENDING, R.OUT_STAT_SESSION_ID, R.OUT_STAT_DIR, R.OUT_ALLOC_STAT_ALLOC_W,
    R.OUT_ALLOC_STAT_ENF_W, R.OUT_ALLOC_STAT_QUEUE_POS, R.TAG_RDR_STAT_QUEUE, R.TAG_CABLE_SESSIONS,
    R.TAG_CABLE_ENERGY_WH, R.TAG_CABLE_STATE, R.TAG_CABLE_WRITE_PEND, R.TAG_CABLE_EOL]

/-- The register fields that the opening of contactors may change. -/
def openingFields : List Fld :=
  [R.CASK_STAT_ABORTED, R.SAFE_COIL_STAT_LOAD_BREAKS, R.SAFE_COIL_STAT_TESTS_SKIPPED, R.TAG_RDR_STAT_QUEUE,
    R.TAG_CABLE_OPENINGS, R.TAG_CABLE_STATE, R.TAG_CABLE_WRITE_PEND, R.TAG_CABLE_EOL]

/-- The register fields that a cable counter and its waiting write may change. -/
def cableFields : List Fld :=
  [R.TAG_RDR_STAT_QUEUE, R.TAG_CABLE_OPENINGS, R.TAG_CABLE_STATE, R.TAG_CABLE_WRITE_PEND, R.TAG_CABLE_EOL]

/-- The register fields that the pilot modems and an outlet's end reason take. -/
def pilotFields : List Fld :=
  [R.AFE_PADC_EN, R.OUT_STAT_END_REASON, R.PLC_CFG_EN, R.PLC_STAT_LINK]

/-- The register fields of the rings that the host writes, with their enables. -/
def ringFieldsAll : List Fld :=
  [R.HOST_CMDR_BASE, R.HOST_CMDR_ERR, R.HOST_CMDR_SIZE_LOG2, R.HOST_CMDR_PRIO, R.HOST_CMDR_CQ, R.HOST_CMDR_RESUME,
    R.HOST_CMDR_EN, R.HOST_CMDR_START_SEQ, R.HOST_CPLR_BASE, R.HOST_CPLR_SIZE_LOG2, R.HOST_CPLR_VECTOR,
    R.HOST_CPLR_COAL_CNT, R.HOST_CPLR_COAL_US, R.HOST_CPLR_ERR, R.HOST_CPLR_EN, R.HOST_EVR_BASE, R.HOST_EVR_SRC_MASK,
    R.HOST_EVR_SIZE_LOG2, R.HOST_EVR_VECTOR, R.HOST_EVR_COAL_CNT, R.HOST_EVR_COAL_US, R.HOST_EVR_ERR, R.HOST_EVR_EN,
    R.HOST_STR_BASE, R.HOST_STR_SOURCES, R.HOST_STR_SIZE_LOG2, R.HOST_STR_VECTOR, R.HOST_STR_ERR, R.HOST_STR_EN]

/-- The register fields of the key cache and of the DRBG that a key's use may change. -/
def cacheFields : List Fld :=
  [R.KEY_CACHE_USED, R.KEY_CACHE_PINNED, R.KEY_CACHE_NODES, R.KEY_CACHE_MISSES, R.KEY_DRBG_RESEEDS]

/-- The register fields that an auxiliary conversion may change. -/
def auxFields : List Fld :=
  [R.AFE_PADC_OVR_CNT, R.AFE_AUX_RES_VALUE, R.AFE_AUX_RES_CODE, R.AFE_AUX_RES_OVR, R.AFE_AUX_RES_FIXED_T,
    R.AFE_AUX_RES_TRACK_LOST, R.AFE_AUX_RES_CONV, R.AFE_SCAN_STAT_AUX_OVR, R.DISP_TEMP_BAND, R.DISP_TEMP_STALE,
    R.DISP_TEMP_TEMP]

/-- The register fields that a lost or restored channel may change. -/
def trackerFields : List Fld :=
  [R.AFE_CH_STAT_PRESENT, R.AFE_CH_STAT_LOST, R.AFE_SCAN_STAT_FALLBACKS, R.FILT_STAT_PRESENT, R.FILT_TRK_STAT_STATE,
    R.FILT_TRK_STAT_UNLOCKS, R.FILT_TRK_ZC_START, R.FILT_TRK_NEXT_START, R.FILT_TRK_PER_PERIOD_NS, R.MET_CFG_STATE,
    R.MET_TOTAL_FREQ_1S, R.MET_TOTAL_FREQ_10S]

end Sys2Proof.Machine.State
end

