-- ==== Sys2Proof/Certificates/Slice0/Obligations.lean ====
section
/-! DEFINITION. The statements for the provers, one definition each; what each says and the rules it rests on stand in its
docstring and in OBLIGATIONS.json. -/

open Sys2Proof Sys2Proof.Machine

/-- Every step keeps the standing invariant. The accumulator of the MTB stays below 768 and the register store stays
in its canonical form along every step, from every state in which they hold, not only from those that a run
reaches. (R9, R20) -/
def Obligations.InvariantKept : Prop :=
  ∀ (s u : State), s.Inv → step s = .next u → u.Inv

/-- Every step keeps the event journal within its size. The event journal holds the 32,768 most recent events: a
step from a state that keeps to this leads to one that does. (R55) -/
def Obligations.JournalBounded : Prop :=
  ∀ (s u : State), s.host.journal.length ≤ 32768 → step s = .next u → u.host.journal.length ≤ 32768

/-- The state after manufacture meets the invariants, and nothing waits. The standing invariant and the bound of the
journal hold at State.reset, and its queue is empty. (R9, R20, R55) -/
def Obligations.ResetMeetsTheInvariant : Prop :=
  State.reset.Inv ∧ State.reset.host.journal = [] ∧ State.reset.pending = []

/-- A step runs the command at the front of the queue. The command at the front of the queue has its effect on the
state with the rest of the queue. (R40, R44) -/
def Obligations.StepRunsTheFrontCommand : Prop :=
  ∀ (s : State) (c : Instr) (q : List Instr), step { s with pending := c :: q } = exec c { s with pending := q }

/-- Every command answers a next state and leaves the queue alone. No command faults and none is refused, in any
state and with any operands; none adds to the queue of waiting commands or takes from it. (R9, R44) -/
def Obligations.EveryCommandAnswers : Prop :=
  ∀ (s : State) (c : Instr), ∃ u, exec c s = .next u ∧ u.pending = s.pending

/-- The module time base counts exactly and never steps back. Each edge of XTAL49 adds 15,625/768 ns, with the
fraction in the modulo-768 accumulator and nothing lost; the count has 64 bits and wraps. An instant is reached
with the least number of edges. A command lets some number of edges pass, or none, and nothing else moves the time
base, but that VIN_VALID starts it from 0. An instant that lies behind does not move it (the model's reading, log
entries 1 and 8). The model's choice (log entry 1): the opcode table has no row for a tick, so a step on an empty
queue lets one edge of XTAL49 pass where the module has VIN, and changes nothing else; without VIN nothing
changes. (R20, R21, 01_architecture.md, 17_power_clocks_startup.md) -/
def Obligations.TimeBaseAndTick : Prop :=
  (∀ (s : State) (k : Nat), 768 * (s.edges k).mtb + (s.edges k).mtbAcc = (768 * s.mtb + s.mtbAcc +
    15625 * k) % (768 * 2 ^ 64) ∧ (s.edges k).mtbAcc < 768 ∧ s.edges (k + 1) = (s.edges k).edges 1 ∧ (s.mtbAcc <
    768 → (s.edges 1).mtb = (s.mtb + 20 + (if 768 ≤ s.mtbAcc + 265 then 1 else 0)) % 2 ^ 64)) ∧
  (∀ (s : State) (t : Nat), s.powered = true → s.mtbAcc < 768 → s.mtb < t → t + 21 ≤ 2 ^ 64 → ∃ k, s.advance t =
    s.edges (k + 1) ∧ t ≤ (s.edges (k + 1)).mtb ∧ (s.edges k).mtb < t) ∧
  (∀ (s : State) (t : Nat), s.powered = false ∨ t ≤ s.mtb → s.mtbAcc < 768 → s.mtb < 2 ^ 64 → s.advance t = s) ∧
  (∀ (s u : State) (c : Instr), exec c s = .next u → (u.mtb = s.mtb ∧ u.mtbAcc = s.mtbAcc) ∨ (∃ k, u.mtb =
    (s.edges k).mtb ∧ u.mtbAcc = (s.edges k).mtbAcc) ∨ (u.mtb = 0 ∧ u.mtbAcc = 0 ∧ ∃ t mv ms, c =
    .vinValid t mv ms)) ∧
  (∀ (s : State), s.pending = [] → s.powered = true → step s =
    .next { s with mtb := (s.mtb + (15625 + s.mtbAcc) / 768) % 2 ^ 64, mtbAcc := (15625 + s.mtbAcc) % 768 }) ∧
  (∀ (s : State), s.pending = [] → s.powered = false → step s = .next s)

/-- The owner co-signature policy changes only by UPD_POLICY. OWNER_COSIGN is 0 at delivery, and no command changes
it but UPD_POLICY with an owner signature that verifies. (R455) -/
def Obligations.OwnerCosign : Prop :=
  (State.reset.rd R.UPD_POLICY_OWNER_COSIGN = 0) ∧
  (∀ (s u : State) (c : Instr), exec c s = .next u → u.rd R.UPD_POLICY_OWNER_COSIGN =
    s.rd R.UPD_POLICY_OWNER_COSIGN ∨ ∃ x v sig, c = .updPolicy x v sig ∧ sig.ok = true ∧
    u.rd R.UPD_POLICY_OWNER_COSIGN = v)

/-- The device epoch counts the starts of the module. The device epoch is 16 bits wide; a start increments it once,
and 0xFFFF is followed by 0; no other command changes it, a reset of the HOST island among them. Where a clause
rests on a choice of the model, it is that of log entries 99 and 110, and no rule is cited for it. (R53) -/
def Obligations.DeviceEpoch : Prop :=
  (R.HOST_SYNC_GLOBAL_EPOCH.w = 16) ∧
  (∀ (s : State) (t : Nat) (b : BootIn), s.phase = .vinValid → ∃ u, exec (.startUp t b) s = .next u ∧ (u.phase =
    .running → u.rd R.HOST_SYNC_GLOBAL_EPOCH = (s.rd R.HOST_SYNC_GLOBAL_EPOCH + 1) % 65536) ∧ (u.phase ≠ .running →
    u.rd R.HOST_SYNC_GLOBAL_EPOCH = s.rd R.HOST_SYNC_GLOBAL_EPOCH)) ∧
  (∀ (s u : State) (c : Instr), exec c s = .next u → ¬(match c with | .startUp .. => True | _ => False) →
    u.rd R.HOST_SYNC_GLOBAL_EPOCH = s.rd R.HOST_SYNC_GLOBAL_EPOCH)

/-- No command, update or calibration writes the energy counters. Only the commands in whose course measured energy
is classified may change MET[m].ENERGY (the start of a grid cycle or of a control cycle, and the stops that flush
the last cycle), and the two register writes. Every other command leaves every counter as it was. (R246, R247,
R249) -/
def Obligations.EnergyCounters : Prop :=
  ∀ (s u : State) (c : Instr) (n : Nat), exec c s = .next u →
    ¬(match c with | .controlCycleStart .. | .gridCycleStart .. | .vfail .. | .xtal25Fail .. | .railOutOfLimits .. | .updRevert .. | .updActivationFlip .. | .trialTimeout .. | .svcRevert .. | .regWrite .. | .registerWrite .. => True | _ => False) →
    u.rd R.MET_ENERGY_COUNT n = s.rd R.MET_ENERGY_COUNT n

/-- What can turn a coil on. A coil that does not conduct begins to conduct only by the application of a Cask, at a
pull-in that waited, at a dark test of a held coil or its end, at a control cycle (a close of OUT_CONTACTOR that
awaited the self-test, or a take-over), or by a start whose self-test finds both its switches stuck; no other
command can turn it on. That a close of OUT_CONTACTOR waits for a control cycle is the model's choice (log entry
231). (R74, R131, R133, R142, R153, R482) -/
def Obligations.CoilsEnergised : Prop :=
  ∀ (s u : State) (c : Instr) (k : Nat), exec c s = .next u → s.coilOn k = false → u.coilOn k = true →
    (match c with | .startUp .. | .caskApply .. | .coilPullinStart .. | .darkTestPulse .. | .darkTestEnd .. | .controlCycleStart .. => True | _ => False)

/-- The set-up lock is set once in a run. No command clears GLOBAL.SETUP_LOCK.LOCK but the start of the module.
(R515) -/
def Obligations.SetupLock : Prop :=
  ∀ (s u : State) (c : Instr), exec c s = .next u → s.flag R.GLOBAL_SETUP_LOCK_LOCK = true →
    ¬(match c with | .startUp .. => True | _ => False) → u.flag R.GLOBAL_SETUP_LOCK_LOCK = true

/-- What a completion and an event do, and what they leave unchanged. A completion enters its status in the history
of its ring, takes the next device sequence number and removes the command from those in flight; the history of
other numbers stays. An event takes the next device sequence number and is the newest of the journal. Neither
changes any part but the HOST island's. (R45, R46, R52, R53, R54, R55, R57, R64) -/
def Obligations.CompletionsAndEvents : Prop :=
  (∀ (s : State) (x : Ctx) (st r : Nat), let u := s.complete x st r; u.answer x = some (if st = St.ACCEPTED then
    St.PENDING else st) ∧ u.rd R.HOST_SYNC_GLOBAL_DEV_SEQ_HIGH = s.issueSeq.1 ∧ (st ≠ St.ACCEPTED →
    u.findInfl x.ring x.seq = none) ∧ s.leaves [.host] State.answerFields u) ∧
  (∀ (s : State) (x : Ctx) (st r ring seq : Nat), (ring * 4096 + seq % 4096) ≠ (x.ring * 4096 + x.seq % 4096) →
    (s.complete x st r).histOf ring seq = s.histOf ring seq) ∧
  (∀ (s : State) (code inst : Nat) (p : List Nat), let u := s.raise code inst p; u.told = some (code, inst, p) ∧
    u.host.journal.head?.map (·.mtb) = some s.mtb ∧ u.rd R.HOST_SYNC_GLOBAL_DEV_SEQ_HIGH = s.issueSeq.1 ∧
    u.host.hist = s.host.hist ∧ u.host.inflight = s.host.inflight ∧ s.leaves [.host] State.eventFields u) ∧
  (∀ (s : State), s.issueSeq.1 ≠ 0 ∧ s.issueSeq.1 < 2 ^ 32 ∧ (s.host.seqNext % 2 ^ 32 ≠ 0 → s.issueSeq.1 =
    s.host.seqNext % 2 ^ 32) ∧ s.issueSeq.2.host.seqNext = s.issueSeq.1 + 1)

/-- How ring commands are fetched and turned away. A command that was not fetched, has started, or waits for an
earlier one of its ring or behind its FENCE has no effect. A command that its flags, its ring, its Cask id, its
island, a disabled function or the twin role turn away completes with the first status that applies (an order of
the model, log entry 168), and has no other effect. A command that has started does not start again. A fetched
descriptor with the next number of its ring is in flight from then on; one that repeats a number, or that comes
out of turn, adds nothing to what is in flight and changes no history, so that no command executes twice. (R44,
R46, R50, R51, R52, R69, R70, R73, R84, R487) -/
def Obligations.CommandIntake : Prop :=
  (∀ (s : State) (x : Ctx) (op inst : Nat) (act : Option CaskAct) (f : State → State), s.up = true →
    (s.advance x.t).startable x op = false ∨ (s.advance x.t).fenced x = true → s.command x op inst act f =
    s.advance x.t) ∧
  (∀ (s : State) (x : Ctx) (op inst st : Nat) (act : Option CaskAct) (f : State → State), s.up = true →
    (s.advance x.t).startable x op = true → (s.advance x.t).fenced x = false →
    (State.stoppedInMeter (op / 256) && (s.advance x.t).rd R.PWR_STAT_MODE == 1) = false →
    ((s.advance x.t).start x).gate x op inst = some st → s.host.destroys = [] → s.command x op inst act f =
    ((s.advance x.t).start x).complete x st) ∧
  (∀ (s : State) (x : Ctx) (op inst : Nat), s.gate x op inst = (if 8 ≤ x.flags then some St.BAD_FLAGS else
    if x.ring = 0 ∧ stopClass op = false then some St.BAD_RING else if x.cask ≠ 0 ∧ caskCapable op = false then
    some St.NOT_CASKABLE else if s.rd R.GLOBAL_ISLAND_STAT_READY (blockIsland (op / 256)) = 0 then
    some St.NOT_READY else if s.funcDisabled (op / 256) inst = true then some St.DISABLED else if s.reserveRole =
    true ∧ (op / 256 = 3 ∨ op / 256 = 13) ∧ stopClass op = false then some St.TWIN_RESERVE else none)) ∧
  (∀ (s : State) (x : Ctx) (op inst : Nat) (a : CaskAct) (f : State → State), s.up = true →
    (s.advance x.t).startable x op = true → (s.advance x.t).fenced x = false →
    (State.stoppedInMeter (op / 256) && (s.advance x.t).rd R.PWR_STAT_MODE == 1) = false →
    ((s.advance x.t).start x).gate x op inst = none → s.host.destroys = [] →
    (((s.advance x.t).start x).actDisabled (some a) = true → s.command x op inst (some a) f =
    ((s.advance x.t).start x).complete x St.DISABLED) ∧ (((s.advance x.t).start x).actDisabled (some a) = false →
    (x.cask ≠ 0 → s.command x op inst (some a) f = (((s.advance x.t).start x).stage x a).settleDestroys) ∧
    (∀ k, x.cask = 0 → ((s.advance x.t).start x).heldBy 16 a = some k → s.command x op inst (some a) f =
    ((s.advance x.t).start x).complete x St.BUSY (((s.advance x.t).start x).slot k).id))) ∧
  (∀ (s : State) (x : Ctx) (op : Nat), s.startable x op = true → (s.start x).startable x op = false ∧
    (∀ e ∈ s.host.inflight, e.ring = x.ring → 0 < (x.seq + 2 ^ 32 - e.seq) % 2 ^ 32 → (x.seq +
    2 ^ 32 - e.seq) % 2 ^ 32 < 2 ^ 31 → e.started = true)) ∧
  (∀ (s : State) (i : Nat) (d : Desc), d.seq < 2 ^ 32 → d.seq = (s.rd R.HOST_SYNC_LAST_FETCHED i + 1) % 2 ^ 32 →
    d.flags < 8 → State.knownOp d.op = true → i = 0 → stopClass d.op = true → d.indirectOk = true →
    let u := s.fetchOne i d; u.rd R.HOST_SYNC_LAST_FETCHED i = d.seq ∧ (∃ cr, u.host.inflight = s.host.inflight ++
    [(⟨i, d.seq, d.op, d.inst, d.tag, d.flags, d.cask, false, false, cr⟩ : Infl)]) ∧
    (u.histOf i d.seq).map (·.status) = some St.PENDING ∧ u.host.cmdFetch.get 0 i = (s.host.cmdFetch.get 0 i +
    1) % 2 ^ 32) ∧
  (∀ (s : State) (i : Nat) (d : Desc), d.seq % 2 ^ 32 ≠ (s.rd R.HOST_SYNC_LAST_FETCHED i + 1) % 2 ^ 32 →
    let u := s.fetchOne i d; u.host.inflight = s.host.inflight ∧ u.host.hist = s.host.hist ∧
    u.rd R.HOST_SYNC_LAST_FETCHED i = s.rd R.HOST_SYNC_LAST_FETCHED i ∧ u.host.cmdFetch.get 0 i =
    (s.host.cmdFetch.get 0 i + 1) % 2 ^ 32)

/-- A change of a live outlet is refused. OUT_CONFIG with a change of TYPE, BIDIR, CTRL, MP or RATED_A while a
session is live on the outlet completes SESSION_LIVE, and changes nothing beside its completion. Where a clause
rests on a choice of the model, it is that of log entries 1, 37, 38 and 217, and no rule is cited for it. (R89) -/
def Obligations.SessionLiveRefused : Prop :=
  ∀ (s : State) (x : Ctx) (n cfg dc : Nat), let b := s.advance x.t; let a := b.start x; b.takes x Op.OUT_CONFIG n =
    true → n < 8 → (a.outlet n).st.live = true → State.imageField R.OUT_CFG_TYPE cfg ≠ a.rd R.OUT_CFG_TYPE n ∨
    State.imageField R.OUT_CFG_BIDIR cfg ≠ a.rd R.OUT_CFG_BIDIR n ∨ State.imageField R.OUT_CFG_CTRL cfg ≠
    a.rd R.OUT_CFG_CTRL n ∨ State.imageField R.OUT_CFG_MP cfg ≠ a.rd R.OUT_CFG_MP n ∨
    State.imageField R.OUT_CFG_RATED_A cfg ≠ a.rd R.OUT_CFG_RATED_A n → exec (.outConfig x n cfg dc) s =
    .next (a.complete x St.SESSION_LIVE)

/-- A pulse assignment is bounded by its rate at PMAX. PMAX is UNOM × IMAX, three times that for AC3 (UNOM in 0.1 V,
IMAX in mA, so PMAX in 0.1 mW). MET_PULSE_CFG of a well-formed assignment under an open calibration completes OK
where CONST × PMAX / (3,600,000 Ws) is at most 1 / (2 × WIDTH_MS), and PULSE_RATE otherwise, changing nothing
beside its completion. Where a clause rests on a choice of the model, it is that of log entry 81, and no rule is
cited for it. (R274) -/
def Obligations.PulseRate : Prop :=
  (∀ (s : State) (x : Ctx) (k i : Nat), let b := s.advance x.t; let a := b.start x; b.takes x Op.MET_PULSE_CFG k =
    true → a.calAllowed = true → k < 8 → State.imageField R.MET_PULSE_MP i ≤ 11 →
    State.imageField R.MET_PULSE_QTY i ≤ 7 → 1 ≤ State.imageField R.MET_PULSE_CONST i →
    State.imageField R.MET_PULSE_CONST i ≤ 100000 → 2 ≤ State.imageField R.MET_PULSE_WIDTH_MS i →
    State.imageField R.MET_PULSE_WIDTH_MS i ≤ 100 →
    State.imageField R.MET_PULSE_CONST i * (a.rd R.MET_RATING_UNOM (State.imageField R.MET_PULSE_MP i) * a.rd R.MET_RATING_IMAX (State.imageField R.MET_PULSE_MP i) * (if a.rd R.MET_CFG_TYPE (State.imageField R.MET_PULSE_MP i) =
    2 then 3 else 1)) * (2 * State.imageField R.MET_PULSE_WIDTH_MS i) ≤ 36000000000000 → ∃ u,
    exec (.metPulseCfg x k i) s = .next u ∧ u.answer x = some St.OK ∧ ∀ F ∈ State.pulseFields, u.rd F k =
    State.imageField F i) ∧
  (∀ (s : State) (x : Ctx) (k i : Nat), let b := s.advance x.t; let a := b.start x; b.takes x Op.MET_PULSE_CFG k =
    true → a.calAllowed = true → k < 8 → State.imageField R.MET_PULSE_MP i ≤ 11 →
    State.imageField R.MET_PULSE_QTY i ≤ 7 → 1 ≤ State.imageField R.MET_PULSE_CONST i →
    State.imageField R.MET_PULSE_CONST i ≤ 100000 → 2 ≤ State.imageField R.MET_PULSE_WIDTH_MS i →
    State.imageField R.MET_PULSE_WIDTH_MS i ≤ 100 → 36000000000000 <
    State.imageField R.MET_PULSE_CONST i * (a.rd R.MET_RATING_UNOM (State.imageField R.MET_PULSE_MP i) * a.rd R.MET_RATING_IMAX (State.imageField R.MET_PULSE_MP i) * (if a.rd R.MET_CFG_TYPE (State.imageField R.MET_PULSE_MP i) =
    2 then 3 else 1)) * (2 * State.imageField R.MET_PULSE_WIDTH_MS i) → exec (.metPulseCfg x k i) s =
    .next (a.complete x St.PULSE_RATE))

/-- What the registers hold after manufacture. For every register field listed, every instance holds at State.reset
the value that the spec states for reset or for delivery. Listed are all fields whose stated value is one number
other than 0, and the status fields whose stated value is 0. No value that the model chose is among them. (R9,
R34, R516, 00_scope.md, 18_register_map.md) -/
def Obligations.ResetValues : Prop :=
  (∀ p ∈ ([(R.GLOBAL_ID_VENDOR, 8147), (R.GLOBAL_ID_DEVICE, 34880), (R.GLOBAL_ID_MAP_VER, 1), (R.GLOBAL_ALERT_DEVICE_START, 1), (R.GLOBAL_ALERT_EN_VECTOR, 63), (R.HOST_CTRL_DETACHED, 1), (R.HOST_CTRL_POLL_US, 20), (R.HOST_CTRL_KICK_EN, 1), (R.HOST_CREDIT_FREE, 256), (R.HOST_CMDR_SIZE_LOG2, 4), (R.HOST_CMDR_PRIO, 2), (R.HOST_CPLR_SIZE_LOG2, 4), (R.HOST_CPLR_VECTOR, 1), (R.HOST_CPLR_COAL_CNT, 1), (R.HOST_EVR_SRC_MASK, 65535), (R.HOST_EVR_SIZE_LOG2, 4), (R.HOST_EVR_VECTOR, 1), (R.HOST_EVR_COAL_CNT, 1), (R.HOST_STR_SIZE_LOG2, 4), (R.HOST_STR_VECTOR, 2), (R.CASK_CFG_LEAD_US, 25), (R.CASK_CFG_ZC_SRC, 8), (R.CASK_CFG_OPEN_TO_MS, 5000), (R.CASK_CFG2_SYNC_TO_MS, 1000)] : List (Fld × Nat)),
    ∀ n, State.reset.rd p.1 n = p.2) ∧
  (∀ p ∈ ([(R.AFE_AUX_CAL_G_P, 80000000), (R.AFE_AUX_CAL_G_C, 80000000), (R.AFE_SEQ_CTL_LEN, 1), (R.AFE_SEQ_CTL_INT_MP, 8), (R.AFE_SEQ_CTL_PERIOD_US, 1000), (R.AFE_SEQ_ENT_SETTLE, 4), (R.AFE_AUX_RES_AGE, 255), (R.FILT_BANK_GAIN, 1073741824), (R.FILT_STAT_SETTLING, 1), (R.FILT_TRK_CFG_SRC_CH, 127), (R.FILT_TRK_CFG_MIN_PCT, 10), (R.FILT_BLEND_BLEND_MS, 200), (R.MET_CFG_HARM_EN, 1), (R.MET_CFG_FLOW_CYC, 50), (R.MET_MAP_V1, 127), (R.MET_MAP_V2, 127), (R.MET_MAP_V3, 127), (R.MET_MAP_I1, 127), (R.MET_MAP_I2, 127), (R.MET_MAP_I3, 127), (R.MET_MAP_IN, 127), (R.MET_RATING_UNOM, 2300), (R.MET_RATING_IMAX, 32000), (R.MET_RATING_ISTART_PPM, 25)] : List (Fld × Nat)),
    ∀ n, State.reset.rd p.1 n = p.2) ∧
  (∀ p ∈ ([(R.MET_PQ_CFG_DIP_PCT, 90), (R.MET_PQ_CFG_SWELL_PCT, 110), (R.MET_PQ_CFG_INT_PCT, 5), (R.MET_PQ_CFG_HYST_PCT, 2), (R.MET_PULSE_CONST, 1000), (R.MET_PULSE_WIDTH_MS, 30), (R.MET_TC_CTL_EN, 1), (R.MET_TC_CTL_STEP, 10), (R.LEDGER_CFG_COMMIT_100MS, 10), (R.LEDGER_CFG_CAL_SIGNED, 1), (R.LEDGER_CFG_TIME_STEP_MAX_S, 300), (R.LEDGER_DEMAND_CFG_DEM_MIN, 15), (R.LEDGER_DEMAND_CFG_SUB_N, 1), (R.LEDGER_DEMAND_CFG_SYNC_WIN_S, 30), (R.LEDGER_BILL_CFG_BILL_DAY, 1), (R.LEDGER_BILL_CFG_CMD_CLOSE, 1), (R.LEDGER_BILL_CFG_MIN_GAP_H, 24), (R.OUT_CFG_PP_MODE, 1), (R.OUT_CFG_RATED_A, 32), (R.OUT_CFG_CLASS, 2), (R.OUT_CFG_BASIC_FALLBACK, 1), (R.OUT_CFG_DIN_EN, 1), (R.OUT_CFG_ISO2_EN, 1), (R.OUT_CFG_ISO20_EN, 1)] : List (Fld × Nat)),
    ∀ n, State.reset.rd p.1 n = p.2) ∧
  (∀ p ∈ ([(R.OUT_CFG_EIM_EN, 1), (R.OUT_CFG_DC_MIN, 100), (R.OUT_DC_CFG_PM_BASE, 1), (R.OUT_STAT_DUTY_PCT, 100), (R.OUT_SITE_HW_LIMIT_W, 4294967295), (R.OUT_SITE_HOST_LIMIT_W, 4294967295), (R.OUT_SITE_TRELLIS_W, 4294967295), (R.OUT_SITE_FALLBACK_W, 4294967295), (R.OUT_SITE_EFFECTIVE_W, 4294967295), (R.OUT_POLICY_MAX_WAIT_MIN, 30), (R.OUT_POLICY_GRACE_S, 5), (R.OUT_POLICY_DC_RAMP, 5), (R.OUT_POLICY_TRELLIS_TO_S, 60), (R.OUT_POLICY_VNOM_2V, 115), (R.OUT_POLICY_FOLLOW_N, 3), (R.OUT_POLICY_MIN_RUN_S, 60), (R.OUT_POLICY_SLAC_MARGIN_DB, 6), (R.OUT_POLICY_VALIDATE_EN, 1), (R.OUT_POLICY_FILT_PER, 3), (R.OUT_POLICY_AUTH_TO, 30), (R.OUT_POLICY2_PREAUTH_S, 60), (R.PLC_CFG_MODE_MAX, 3), (R.PLC_CFG_BLANK_THR, 1800), (R.PLC_CFG_BLANK_EXT, 4)] : List (Fld × Nat)),
    ∀ n, State.reset.rd p.1 n = p.2) ∧
  (∀ p ∈ ([(R.PLC_CFG_ERASE_PCT, 20), (R.PLC_TRELLIS_CFG_ZC_MP, 8), (R.PLC_TRELLIS_CFG_TIME_TOL_MS, 1000), (R.PLC_TRELLIS_LQ_METRIC, 65535), (R.PLC_TRELLIS_LQ_LINK_COST, 65535), (R.PLC_TRELLIS_LQ_COUPLE, 3), (R.SAFE_CFG_MSTOP_AC, 30), (R.SAFE_CFG_MSTOP_DC, 10), (R.SAFE_CFG2_IEND_AC, 10), (R.SAFE_CFG2_IEND_DC, 20), (R.SAFE_CFG2_OPEN_CHECK, 10), (R.SAFE_OUT_PROT_WELD_V_AC, 30), (R.SAFE_OUT_PROT_WELD_V_DC, 30), (R.SAFE_OUT_PROT_SHUNT_EN, 1), (R.SAFE_OUT_PROT_SUPPLY_MP, 8), (R.SAFE_IMD_WARN_OHM_V, 500), (R.SAFE_IMD_FAULT_OHM_V, 100), (R.SAFE_IMD_RESULT, 3), (R.SAFE_IMD_AGE, 16383), (R.SAFE_IN_CFG_OUTLETS, 255), (R.SAFE_IN_CFG_FILT_MS, 10), (R.KEY_CFG_RIDDLE_MS, 8), (R.KEY_CFG_CRED_SIGNED, 1), (R.TAG_RDR_CFG_RDR0_EN, 1)] : List (Fld × Nat)),
    ∀ n, State.reset.rd p.1 n = p.2) ∧
  (∀ p ∈ ([(R.TAG_RDR_CFG_RDR1_EN, 1), (R.TAG_RDR_CFG_RATE_MAX, 2), (R.TAG_RDR_CFG_POLL_MS, 200), (R.TAG_RDR_CFG_CARD_GONE_MS, 1000), (R.TAG_OWN_CFG_EN, 1), (R.TAG_OWN_CFG_HOST_RP, 1), (R.TAG_OWN_CFG_MBOX_WP, 1), (R.TAG_OWN_CFG_STATUS_EN, 1), (R.DISP_CFG_WIDTH, 1280), (R.DISP_CFG_HEIGHT, 960), (R.DISP_CFG_FPS, 85), (R.DISP_BUS_SDCLK_DIV, 3), (R.DISP_BUS_LINE_OH, 10), (R.DISP_BUS_CLOSE_LINE, 20), (R.DISP_TEMP_FALLBACK_BAND, 8), (R.DISP_TEMP_BAND, 8), (R.DISP_TEMP_STALE, 1), (R.DISP_AGE_CFG_AGE_T1, 100), (R.DISP_AGE_CFG_AGE_T2, 300), (R.DISP_AGE_CFG_AGE_T3, 700), (R.DISP_AGE_CFG_IMB_LIMIT_S, 3600), (R.DISP_SEG_CFG_SENSE_EN, 1), (R.DISP_SEG_CFG_SENSE_H, 24), (R.DISP_SEG_CFG_SEG_FPS, 50)] : List (Fld × Nat)),
    ∀ n, State.reset.rd p.1 n = p.2) ∧
  (∀ p ∈ ([(R.LSW_CFG_INRUSH_EN, 1), (R.LSW_CFG_ILIM, 12), (R.LSW_CFG_INRUSH_A, 16), (R.LSW_CFG_INRUSH_MS, 10), (R.LSW_CFG_RETRY_N, 3), (R.LSW_CFG_RETRY_MS, 20), (R.LSW_CFG_OL_MA, 20), (R.LSW_CFG_PRIO, 2), (R.LSW_CFG_SAFE_OFF, 1), (R.LSW_PWM_DUTY, 4095), (R.LSW_BANK_PWM_HZ, 1000), (R.UPD_CFG_CONFIRM_MIN, 10), (R.UPD_CFG_IDLE_WAIT_H, 24), (R.TWIN_CFG_GIVEUP_MASK, 127), (R.PWR_CFG_VFAIL, 78), (R.PWR_CFG_HYST, 2), (R.PWR_CFG_TEMP_WARN, 105), (R.PWR_TAMPER_FILT, 2), (R.GLOBAL_SETUP_LOCK_SAVED, 0), (R.GLOBAL_SETUP_LOCK_LOCK, 0), (R.GLOBAL_STATUS_HOST_READY, 0), (R.GLOBAL_STATUS_METER_LIVE, 0), (R.GLOBAL_STATUS_SAFE_OK, 0), (R.GLOBAL_STATUS_LOCKED, 0)] : List (Fld × Nat)),
    ∀ n, State.reset.rd p.1 n = p.2) ∧
  (∀ p ∈ ([(R.GLOBAL_STATUS_KEY_MODE, 0), (R.GLOBAL_STATUS_TWIN_ROLE, 0), (R.GLOBAL_ALERT_LINK_TIMEOUT, 0), (R.GLOBAL_ALERT_TEMP, 0), (R.GLOBAL_ALERT_NOTIF_LOST, 0), (R.GLOBAL_ALERT_JOURNAL_LOST, 0), (R.GLOBAL_ALERT_WR_REFUSED, 0), (R.GLOBAL_ALERT_PART_VIOL, 0), (R.GLOBAL_ALERT_SAFE_CHANGE, 0), (R.GLOBAL_ALERT_EN_EN, 0), (R.GLOBAL_ISLAND_STAT_READY, 0), (R.GLOBAL_ISLAND_STAT_CLK_OK, 0), (R.GLOBAL_ISLAND_STAT_ASLEEP, 0), (R.GLOBAL_ISLAND_STAT_OVR, 0), (R.GLOBAL_ISLAND_STAT_LINK_ERR, 0), (R.GLOBAL_ISLAND_STAT_PROC_MON, 0), (R.HOST_STAT_BASE_ADDR, 0), (R.HOST_NOTIF_STAT_LOST, 0), (R.HOST_NOTIF_STAT_CORR, 0), (R.HOST_NOTIF_STAT_UNCORR, 0), (R.CASK_STAT_COMMITTED, 0), (R.CASK_STAT_ABORTED, 0), (R.CASK_STAT_LATE, 0), (R.CASK_SLOT_STATE, 0)] : List (Fld × Nat)),
    ∀ n, State.reset.rd p.1 n = p.2) ∧
  (∀ p ∈ ([(R.CASK_SLOT_LAST_STATUS, 0), (R.AFE_CH_STAT_PRESENT, 0), (R.AFE_CH_STAT_OVL_NOW, 0), (R.AFE_CH_STAT_LOST, 0), (R.AFE_CH_STAT_OVL_CNT, 0), (R.AFE_CH_STAT_EYE_ERR, 0), (R.AFE_CH_STAT_RESETS, 0), (R.AFE_SCAN_STAT_LATE_CNT, 0), (R.AFE_SCAN_STAT_AUX_OVR, 0), (R.AFE_SCAN_STAT_FALLBACKS, 0), (R.AFE_SCAN_STAT_ACTIVE, 0), (R.FILT_STAT_PRESENT, 0), (R.FILT_STAT_BLENDING, 0), (R.FILT_STAT_OVF_STAGE, 0), (R.FILT_STAT_OVF_CNT, 0), (R.FILT_TRK_STAT_FREQ_UHZ, 0), (R.FILT_TRK_STAT_STATE, 0), (R.FILT_TRK_STAT_UNLOCKS, 0), (R.FILT_TRK_STAT_AMP, 0), (R.MET_CFG_STATE, 0), (R.MET_PQ_STAT_ACTIVE, 0), (R.LEDGER_TIME_CLOCK_VALID, 0), (R.LEDGER_STAT_COMMIT_FAIL, 0), (R.LEDGER_STAT_OVERWRITTEN, 0)] : List (Fld × Nat)),
    ∀ n, State.reset.rd p.1 n = p.2) ∧
  (∀ p ∈ ([(R.LEDGER_STAT_CAL_OPEN, 0), (R.LEDGER_STAT_SEAL, 0), (R.LEDGER_STAT_UNSIGNED, 0), (R.OUT_STAT_SESSION_ID, 0), (R.OUT_STAT_STATE, 0), (R.OUT_STAT_AUTH_SRC, 0), (R.OUT_STAT_PROTO, 0), (R.OUT_STAT_DIR, 0), (R.OUT_STAT_DIODE_FAULT, 0), (R.OUT_STAT_PILOT, 0), (R.OUT_STAT_END_REASON, 0), (R.OUT_STAT_CABLE_A, 0), (R.OUT_STAT_PILOT_HIGH, 0), (R.OUT_STAT_PILOT_LOW, 0), (R.OUT_STAT_ENERGY_WH, 0), (R.OUT_ALLOC_STAT_ALLOC_W, 0), (R.OUT_ALLOC_STAT_ENF_W, 0), (R.OUT_ALLOC_STAT_MEAS_W, 0), (R.OUT_ALLOC_STAT_QUEUE_POS, 0), (R.OUT_ALLOC_STAT_LAST, 0), (R.OUT_ALLOC_STAT_WAIT_MIN, 0), (R.PLC_STAT_RX_FRAMES, 0), (R.PLC_STAT_FEC_FAIL, 0), (R.PLC_STAT_BLANKED_SYM, 0)] : List (Fld × Nat)),
    ∀ n, State.reset.rd p.1 n = p.2) ∧
  (∀ p ∈ ([(R.PLC_STAT_ERASED_SYM, 0), (R.PLC_STAT_IMPULSES, 0), (R.PLC_STAT_AGC, 0), (R.PLC_STAT_LINK, 0), (R.PLC_TRELLIS_STAT_SF_COUNT, 0), (R.PLC_TRELLIS_STAT_COORD, 0), (R.PLC_TRELLIS_STAT_NEIGHBOURS, 0), (R.PLC_TRELLIS_STAT_NODES, 0), (R.PLC_TRELLIS_STAT_STATE, 0), (R.PLC_TRELLIS_STAT_ADJ, 0), (R.PLC_TRELLIS_STAT_AUTH_DROP, 0), (R.PLC_TRELLIS_STAT_TX_DROPPED, 0), (R.PLC_TRELLIS_STAT_RETRIES, 0), (R.PLC_TRELLIS_STAT_REPEATER_CHG, 0), (R.SAFE_STATUS_SAFE_OK, 0), (R.SAFE_STATUS_A_RUN, 0), (R.SAFE_STATUS_B_RUN, 0), (R.SAFE_STATUS_TABLE_OK, 0), (R.SAFE_STATUS_SELFTEST_OK, 0), (R.SAFE_STATUS_SHUNT, 0), (R.SAFE_STATUS_OUT_FAULT, 0), (R.SAFE_COIL_STAT_STATE, 0), (R.SAFE_COIL_STAT_HS_ON, 0), (R.SAFE_COIL_STAT_LS_ON, 0)] : List (Fld × Nat)),
    ∀ n, State.reset.rd p.1 n = p.2) ∧
  (∀ p ∈ ([(R.SAFE_COIL_STAT_MIRROR_OPEN, 0), (R.SAFE_COIL_STAT_I_MA, 0), (R.SAFE_COIL_STAT_TESTS_SKIPPED, 0), (R.SAFE_RCM_STAT_DC, 0), (R.SAFE_RCM_STAT_AC, 0), (R.SAFE_RCM_STAT_OFFSET, 0), (R.SAFE_RCM_STAT_LAST_TRIP, 0), (R.SAFE_RCM_STAT_TRIPS_24H, 0), (R.SAFE_RCM_STAT_SELFTEST_OK, 0), (R.KEY_STATUS_MODE, 0), (R.KEY_STATUS_ROOT_OK, 0), (R.KEY_STATUS_LEES_OK, 0), (R.KEY_STATUS_RIDDLE_LATE, 0), (R.KEY_PUF_STAT_BER, 0), (R.KEY_PUF_STAT_ATTEMPTS, 0), (R.KEY_CRED_STAT_LOAD_STATE, 0), (R.TAG_RDR_STAT_MULTI, 0), (R.TAG_RDR_STAT_WALK_LIMIT, 0), (R.TAG_RDR_STAT_RX_ERR, 0), (R.TAG_RDR_STAT_QUEUE, 0), (R.TAG_CABLE_STATE, 0), (R.TAG_OWN_STAT_FIELD, 0), (R.TAG_OWN_STAT_BUSY_RSP, 0), (R.TAG_OWN_STAT_TORN, 0)] : List (Fld × Nat)),
    ∀ n, State.reset.rd p.1 n = p.2) ∧
  (∀ p ∈ ([(R.TAG_OWN_STAT_FIELD_WR, 0), (R.DISP_STAT_ACTIVE, 0), (R.DISP_STAT_SCANNING, 0), (R.DISP_STAT_RECOVERING, 0), (R.DISP_STAT_PWR_GOOD, 0), (R.DISP_STAT_QUEUED, 0), (R.DISP_REGION_STATE, 0), (R.LSW_STAT_STATE, 0), (R.LSW_STAT_I_MA, 0), (R.LSW_STAT_I_FINE, 0), (R.LSW_STAT_TJ, 0), (R.LSW_STAT_RETRIES_LEFT, 0), (R.LSW_STAT_OPEN_ON, 0), (R.LSW_STAT_OPEN_OFF, 0), (R.LSW_STAT_LATCH_OC, 0), (R.LSW_STAT_LATCH_TH, 0), (R.LSW_STAT_BUDGET_OFF, 0), (R.LSW_STAT_SAFE_HELD, 0), (R.LSW_STAT_TRIPS, 0), (R.UPD_STAT_LAST_STATUS, 0), (R.UPD_STAT_IDLE_MIN, 0), (R.TWIN_STAT_PEER_SERIAL, 0), (R.TWIN_STAT_ROLE, 0), (R.TWIN_STAT_PEER_ROLE, 0)] : List (Fld × Nat)),
    ∀ n, State.reset.rd p.1 n = p.2) ∧
  (∀ p ∈ ([(R.TWIN_STAT_PEER_READY, 0), (R.TWIN_STAT_READY, 0), (R.TWIN_STAT_COPY_MISS, 0), (R.TWIN_STAT_COPY_KIB, 0), (R.PWR_STAT_VIN_10MV, 0), (R.PWR_STAT_MODE, 0), (R.PWR_STAT_MTB_HOLDOVER, 0), (R.PWR_STAT_THROTTLE, 0), (R.PWR_STAT_SHUT, 0), (R.PWR_STAT_VBAT_LOW, 0), (R.PWR_STAT_VBAT_MV, 0)] : List (Fld × Nat)),
    ∀ n, State.reset.rd p.1 n = p.2)

/-- What the events of the host link do. The events of the host link: what each changes, in every state in which it
can act. On choices of the model rest the payload of HOST_ATTACH (log entry 211), the room that a held stop
completion needs (200) and the count of a stream entry, which is that of the payload (210). Where a clause rests
on a choice of the model, it is that of log entries 23, 24, 25, 26, 27, 75, 199, 200, 207, 209 and 211, and no
rule is cited for it. (R35, R36, R40, R49, R56, R57, R59, R63, R65) -/
def Obligations.HostLinkEvents : Prop :=
  (∀ (s : State) (t : Nat) (i : CfgItem), s.host.cfgReady = true → s.powered = true → ∃ u,
    exec (.configRequest t (.read i)) s = .next u ∧ u.host.cfgAnswer =
    some (match i with | .vendor => 0x1FD3 | .device => 0x8840 | .subVendor => 0x1FD3 | .subDevice => 1 | .classCode => 0x0B4000 | .intPin => 0 | .msixVectors => 64 | .payloadMax => 256 | .payloadSet => s.host.payloadSet | .readReqSet => s.host.readReqSet | .linkSpeed => 8000 | .linkWidth => 2 | .flr => 1 | .aer => 1 | .aspm => 2 | .tags => 64)) ∧
  (∀ (s : State) (t b : Nat), s.host.cfgReady = true → s.powered = true →
    (∃ u, exec (.configRequest t (.writePayload b)) s = .next u ∧ u.host.payloadSet = (if b = 128 ∨ b = 256 then
    b else s.host.payloadSet) ∧ u.host.readReqSet = s.host.readReqSet ∧ u.host.cfgAnswer = some u.host.payloadSet) ∧
    ∃ u, exec (.configRequest t (.writeReadReq b)) s = .next u ∧ u.host.readReqSet = (if b = 128 ∨ b = 256 ∨ b =
    512 then b else s.host.readReqSet) ∧ u.host.payloadSet = s.host.payloadSet ∧ u.host.cfgAnswer =
    some u.host.readReqSet) ∧
  (∀ (s : State) (t : Nat) (q : CfgReq), s.host.cfgReady = false ∨ s.powered = false → exec (.configRequest t q) s =
    .next { s.advance t with host := { s.host with cfgAnswer := none } }) ∧
  (∀ (s : State) (t : Nat), s.powered = true → ∃ u, exec (.perstRelease t) s = .next u ∧ u.host.perstHigh = true ∧
    u.host.cfgReady = true) ∧
  (∀ (s : State) (t : Nat) (c : DetachCause), let a := s.advance t; a.up = true → a.attached = true → ∃ u,
    exec (.hostDetach t c) s = .next u ∧ u.attached = false ∧ u.told =
    some (Ev.HOST_DETACH, 0, [State.detachCode c])) ∧
  (∀ (s : State) (t : Nat), let a := s.advance t; a.up = true → a.attached = false → a.host.cfgReady = true →
    a.flag R.GLOBAL_STATUS_HOST_READY = true → ∃ u, exec (.hostAttach t) s = .next u ∧ u.attached = true ∧ u.told =
    some (Ev.HOST_ATTACH, 0, [a.ringMask .command, a.ringMask .completion, a.ringMask .event, a.ringMask .stream])) ∧
  (∀ (s : State) (t : Nat) (k : RingKind) (i image : Nat), let a := s.advance t; a.up = true → i <
    State.ringCount k → ∃ u, exec (.ringRegisterWrite t k i image) s = .next u ∧ ∀ F ∈ State.ringFields k,
    u.rd F i = State.imageField F image) ∧
  (∀ (s : State) (t : Nat) (cmds cpls evs strs : List Nat) (bufs : List (List Nat)) (i : Nat), let a := s.advance t;
    a.up = true → a.attached = true → a.pollDue = true → i < 16 → ∃ u,
    exec (.doorbellPoll t cmds cpls evs strs [] bufs) s = .next u ∧ u.host.pollAt1 = a.mtb + 1 ∧ u.host.pollAddr =
    a.rd R.HOST_DB_BASE_ADDR * 4096 ∧ u.host.dbCmd.get 0 i = cmds.getD i (a.host.dbCmd.get 0 i) % 2 ^ 32 ∧
    u.host.dbCpl.get 0 i = cpls.getD i (a.host.dbCpl.get 0 i) % 2 ^ 32) ∧
  (∀ (s : State) (t : Nat) (cmds cpls evs strs : List Nat) (descs : List (List Desc)) (bufs : List (List Nat)),
    let a := s.advance t; a.up = true → a.attached = true → a.host.pollAt1 ≠ 0 → a.mtb + 1 < a.host.pollAt1 +
    max 2 (min 200 (a.rd R.HOST_CTRL_POLL_US)) * 1000 → exec (.doorbellPoll t cmds cpls evs strs descs bufs) s =
    .next (a)) ∧
  (∀ (s : State) (t off prod : Nat) (bufs : List Nat), let a := s.advance t; a.up = true → a.attached = true →
    a.flag R.HOST_CTRL_KICK_EN = true → off % 4 = 0 → off < 0x60 → ∃ u, exec (.kick t off prod [] bufs) s =
    .next u ∧ (off < 0x40 → u.host.dbCmd.get 0 (off / 4) = prod % 2 ^ 32) ∧ (0x40 ≤ off →
    u.host.dbStr.get 0 ((off - 0x40) / 4) = prod % 2 ^ 32)) ∧
  (∀ (s : State) (t : Nat) (c : Completion) (r : List Completion), let a := s.advance t; a.up = true → a.attached =
    true → a.host.stopHeld = c :: r → a.cplOn (a.rd R.HOST_CMDR_CQ 0) = true → a.cplUsed (a.rd R.HOST_CMDR_CQ 0) +
    a.cplOwed (a.rd R.HOST_CMDR_CQ 0) < 2 ^ a.rd R.HOST_CPLR_SIZE_LOG2 (a.rd R.HOST_CMDR_CQ 0) →
    exec (.stopCompletionRelease t) s =
    .next (({ a with host := { a.host with stopHeld := r } } : State).putCompletion c false)) ∧
  (∀ (s : State) (t j : Nat), let a := s.advance t; a.up = true → a.attached = true →
    (a.host.gaps.get ⟨0, 0⟩ j).first ≠ 0 → a.evOn j = true → a.evRoom j = true → ∃ u, exec (.evrGap t j) s =
    .next u ∧ u.told = some (Ev.EVR_GAP, j, [j, (a.host.gaps.get ⟨0, 0⟩ j).first, (a.host.gaps.get ⟨0, 0⟩ j).last])) ∧
  (∀ (s : State) (t flips : Nat) (w : Notif) (r : List Notif), let a := s.advance t; a.up = true →
    a.host.notifDrain = w :: r → ∃ u, exec (.notifDataRead t flips) s = .next u ∧ u.host.readWords = (if 2 ≤
    flips then [0, 0xFF00_0000] else [w.count, w.kind * 2 ^ 24 + w.ring * 2 ^ 16 + min w.added 0xFFFF]) ∧
    u.host.notifDrain = (if r = [] then a.host.notifFill else r)) ∧
  (∀ (s : State) (t src first : Nat) (data : List (List Int)), let a := s.advance t; a.up = true → src < 11 →
    (a.cap src).on = true → (a.cap src).fmt = 2 → (a.cap src).cont = true → a.streamRing src = none → data.length ≤
    2016 → data.all (fun r => r.length == 1) = true → ∃ u, exec (.streamBufferFill t src first data) s = .next u ∧
    u.host.strSrc.get StreamSrc.init src = (if a.bankUse src + 2 * data.length ≤ 131072 then
    { a.host.strSrc.get StreamSrc.init src with waiting := (a.host.strSrc.get StreamSrc.init src).waiting ++ [(⟨2, first, data.length, State.word16 (data.map fun r => r.headD 0)⟩ : StreamBlock)] } else
    { a.host.strSrc.get StreamSrc.init src with lost := (a.host.strSrc.get StreamSrc.init src).lost + data.length })) ∧
  (∀ (s : State) (t src first j : Nat) (b : StreamBlock) (data : List (List Int)), let a := s.advance t; a.up =
    true → 24 ≤ src → a.attached = true → a.streamRing src = some j →
    (a.host.strSrc.get StreamSrc.init src).waiting = [b] → a.host.strFill.get 0 j ≠ a.host.dbStr.get 0 j → ∃ u,
    exec (.streamBufferFill t src first data) s = .next u ∧
    (u.host.strMem.get StreamEntry.none (key2 j (a.host.strFill.get 0 j % 2 ^ a.rd R.HOST_STR_SIZE_LOG2 j)) =
    ⟨a.host.strAddr.get 0 (key2 j (a.host.strFill.get 0 j % 2 ^ a.rd R.HOST_STR_SIZE_LOG2 j)), src, b.fmt, (a.host.strSrc.get StreamSrc.init src).block, b.payload.length, b.samples, b.mtb, (a.host.strSrc.get StreamSrc.init src).lost, decide ((a.host.strSrc.get StreamSrc.init src).lost ≠
    0), b.payload⟩ ∧ u.host.strFill.get 0 j = (a.host.strFill.get 0 j + 1) % 2 ^ 32 ∧
    u.host.strSrc.get StreamSrc.init src = ⟨((a.host.strSrc.get StreamSrc.init src).block + 1) % 2 ^ 32, [], 0⟩))

/-- What the ring commands of the host link do. RING_CREATE, RING_DESTROY, JOURNAL_FETCH, STATUS_QUERY, REG_WRITE
and ECHO, in every state in which the command is taken. Where a clause rests on a choice of the model, it is that
of log entries 25, 201 and 207, and no rule is cited for it. (R39, R41, R52, R55, R514) -/
def Obligations.HostLinkCommands : Prop :=
  (∀ (s : State) (x : Ctx) (k : RingKind) (i image : Nat), let b := s.advance x.t; let a := b.start x;
    b.takes x Op.RING_CREATE 0 = true → ∃ u, exec (.ringCreate x k i image) s = .next u ∧ u.answer x =
    some (if !a.imageOk k i image then St.BAD_PARAM else if a.ringOn k i then St.BUSY else St.OK) ∧
    (a.imageOk k i image = true → a.ringOn k i = false → u.ringOn k i = true)) ∧
  (∀ (s : State) (x : Ctx) (i : Nat), let b := s.advance x.t; let a := b.start x; b.takes x Op.RING_DESTROY 0 =
    true → ∃ u, exec (.ringDestroy x .event i) s = .next u ∧ u.answer x = some (if 8 ≤ i then St.BAD_PARAM else
    St.OK) ∧ (i < 8 → u.evOn i = false)) ∧
  (∀ (s : State) (x : Ctx) (i : Nat), let b := s.advance x.t; let a := b.start x; b.takes x Op.RING_DESTROY 0 =
    true → ∃ u, exec (.ringDestroy x .stream i) s = .next u ∧ u.answer x = some (if 8 ≤ i then St.BAD_PARAM else
    St.OK) ∧ (i < 8 → u.strOn i = false)) ∧
  (∀ (s : State) (x : Ctx) (i : Nat), let b := s.advance x.t; let a := b.start x; b.takes x Op.RING_DESTROY 0 =
    true → i < 16 → a.ringBusy i (if x.ring = i then x.seq else 2 ^ 32) = false → ∃ u,
    exec (.ringDestroy x .command i) s = .next u ∧ u.answer x = some St.OK ∧ u.cmdOn i = false) ∧
  (∀ (s : State) (x : Ctx) (i : Nat), let b := s.advance x.t; let a := b.start x; b.takes x Op.RING_DESTROY 0 =
    true → i < 16 → ∃ u, exec (.ringDestroy x .completion i) s = .next u ∧ u.answer x =
    some (if (List.range 16).any (fun c => a.cmdOn c && a.rd R.HOST_CMDR_CQ c == i) then St.BUSY else St.OK)) ∧
  (∀ (s : State) (x : Ctx) (first span : Nat), let b := s.advance x.t; let a := b.start x;
    b.takes x Op.JOURNAL_FETCH 0 = true → 1 ≤ span → span ≤ 4096 → first = a.rd R.HOST_SYNC_GLOBAL_JOURNAL_LOW →
    ∃ u, exec (.journalFetch x first span) s = .next u ∧ u.answer x = some St.OK ∧ u.host.dma = if a.attached =
    false then a.host.dma else
    ((a.host.journal.filter fun (e : Event) => decide ((e.seq + 2 ^ 32 - first) % 2 ^ 32 < span)).reverse).flatMap State.eventWords) ∧
  (∀ (s : State) (x : Ctx) (first span : Nat), let b := s.advance x.t; let a := b.start x;
    b.takes x Op.JOURNAL_FETCH 0 = true → span = 0 ∨ 4096 < span → ∃ u, exec (.journalFetch x first span) s =
    .next u ∧ u.answer x = some St.BAD_PARAM) ∧
  (∀ (s : State) (x : Ctx) (r n : Nat) (h : Hist), let b := s.advance x.t; let a := b.start x;
    b.takes x Op.STATUS_QUERY 0 = true → r < 16 → n < 2 ^ 32 → a.histOf r n = some h → ∃ u,
    exec (.statusQuery x r n 1) s = .next u ∧ u.answer x = some St.OK ∧ u.host.dma = if a.attached = true then
    [h.status, h.dseq] else a.host.dma) ∧
  (∀ (s : State) (x : Ctx) (r n c : Nat), let b := s.advance x.t; let a := b.start x; b.takes x Op.STATUS_QUERY 0 =
    true → 16 ≤ r ∨ c = 0 ∨ 4096 < c → ∃ u, exec (.statusQuery x r n c) s = .next u ∧ u.answer x =
    some St.BAD_PARAM) ∧
  (∀ (s : State) (x : Ctx) (d : List Byte), let b := s.advance x.t; let a := b.start x; b.takes x Op.ECHO 0 = true →
    exec (.echo x d) s = .next (a.complete x St.OK ((d.take 12).foldr (fun (b : Byte) n => b.toNat + 256 * n) 0)))

/-- Island crossings, the second edge and the control cycle. Crossings, link time-outs, the RTC second edge, the
start of a control cycle and its two deadlines. That a crossing costs 3 ns to 6 ns, and a wake at most 2 µs more,
is read from the free value; the sender that sees the time-out is the one the event names. Where a clause rests on
a choice of the model, it is that of log entries 7, 9, 12, 16, 17, 18, 19, 58, 69, 83, 175, 176, 180, 192, 195 and
204, and no rule is cited for it. (R16, R18, R19, R24, R25, R26, R27, R29, R30) -/
def Obligations.ArchitectureEvents : Prop :=
  (∀ (s : State) (t k : Nat) (g : Bool) (x : Xing), let a := s.advance t; a.core = true → k < 14 →
    a.flag R.GLOBAL_ISLAND_STAT_READY k = true → granted (tagOf x) x.res x.write a.calAllowed x.src = true →
    State.areaRefused x = false → ∃ u, exec (.islandCrossing t k g [x]) s = .next u ∧
    u.rd R.GLOBAL_ISLAND_STAT_ASLEEP k = 0 ∧
    u.arch.served.all (fun (r : Served) => r.src == x.src && r.ini == tagOf x && r.res == .delivered && r.value == State.reservedValue x && decide (a.mtb + 3 ≤ r.at_) && decide (r.at_ ≤ a.mtb + 6 + 2000 * b2n (g || a.flag R.GLOBAL_ISLAND_STAT_ASLEEP k))) =
    true ∧ u.arch.served.length = 1) ∧
  (∀ (s : State) (t k : Nat) (g : Bool) (x : Xing), let a := s.advance t; a.core = true → k < 14 →
    a.flag R.GLOBAL_ISLAND_STAT_READY k = true → granted (tagOf x) x.res x.write a.calAllowed x.src = true →
    State.areaRefused x = true → ∃ u, exec (.islandCrossing t k g [x]) s = .next u ∧ u.arch.served =
    [⟨x.src, tagOf x, .areaRefused, a.mtb, none⟩]) ∧
  (∀ (s : State) (t k : Nat) (g : Bool) (x : Xing), let a := s.advance t; a.core = true → k < 14 →
    a.flag R.GLOBAL_ISLAND_STAT_READY k = true → granted (tagOf x) x.res x.write a.calAllowed x.src = false →
    legalRes x.res = false → safeRes x.res = false → ∃ u, exec (.islandCrossing t k g [x]) s = .next u ∧
    u.arch.served = [⟨x.src, tagOf x, .partitionDenied, a.mtb, none⟩] ∧ u.rd R.GLOBAL_PART_VIOL_LAST_SRC =
    iniCode (tagOf x) ∧ u.rd R.GLOBAL_PART_VIOL_COUNT =
    satAdd R.GLOBAL_PART_VIOL_COUNT.w (a.rd R.GLOBAL_PART_VIOL_COUNT) 1) ∧
  (∀ (s : State) (t src dst : Nat) (i : Ini), let a := s.advance t; a.core = true → dst < 14 →
    a.arch.linkRaised.contains (src, dst) = false → ∃ u, exec (.linkTimeout t src dst i none) s = .next u ∧
    u.rd R.GLOBAL_ISLAND_STAT_LINK_ERR dst =
    satAdd R.GLOBAL_ISLAND_STAT_LINK_ERR.w (a.rd R.GLOBAL_ISLAND_STAT_LINK_ERR dst) 1 ∧ u.told =
    some (Ev.ISLAND_LINK, 0, [src, dst, iniCode i, u.rd R.GLOBAL_ISLAND_STAT_LINK_ERR dst, a.mtb])) ∧
  (∀ (s : State) (t src dst r q : Nat) (i : Ini) (e : Infl), let a := s.advance t; a.core = true → dst < 14 →
    a.findInfl r q = some e → e.accepted = false → blockIsland (e.op / 256) = dst → ∃ u,
    exec (.linkTimeout t src dst i (some (r, q))) s = .next u ∧ (u.histOf r q).map (·.status) =
    some St.LINK_TIMEOUT ∧ u.findInfl r q = none) ∧
  (∀ (s : State) (t : Nat), let a := s.advance t; a.core = true → exec (.rtcSecondEdge t) s =
    .next (let n := max 1 (divRound ((a.mtb : Int) - a.atSec).toNat (10 ^ 9));
    (((a.wr R.GLOBAL_MTB_UTC_UTC_SEC 0 (a.rd R.GLOBAL_MTB_UTC_UTC_SEC +
    n)).wr R.GLOBAL_MTB_UTC_MTB_AT_SEC 0 a.mtb).freqEdge).billEdge)) ∧
  (∀ (s : State) (t : Nat) (v : List Feed), let a := s.advance t; a.up = true → a.arch.cycleStart <
    a.mtb / 10 ^ 6 * 10 ^ 6 → exec (.controlCycleStart t v) s = .next (a.controlCycle v)) ∧
  (∀ (s : State) (t : Nat) (v : List Feed), let a := s.advance t; a.mtb / 10 ^ 6 * 10 ^ 6 ≤ a.arch.cycleStart →
    exec (.controlCycleStart t v) s = .next a) ∧
  (∀ (s : State), s.cycleBegin.arch.cycleStart = s.mtb / 10 ^ 6 * 10 ^ 6 ∧ s.cycleBegin.arch.safeAlive =
    (if s.arch.withhold then s.arch.safeAlive else !s.arch.safeAlive) ∧ s.cycleBegin.arch.withhold = false ∧
    s.cycleBegin.arch.deadline = false ∧ s.cycleBegin.safe.snaps = (List.range 12).map s.snapOf ∧
    s.cycleBegin.safe.aliveAt = (if s.arch.withhold then s.safe.aliveAt else s.mtb)) ∧
  (∀ (s : State) (t : Nat), let a := s.advance t; a.up = true → a.arch.cycleStart + 450000 ≤ a.mtb →
    a.arch.deadline = false → ∃ u, exec (.outputStagingDeadline t 0) s = .next u ∧ u.out.outlets =
    ((List.range 8).foldl (fun (b : State) n => b.passStaged n) a).out.outlets ∧
    (List.range 8).all (fun n => u.arch.overruns.get 0 n == 0) = true ∧ u.arch.deadline = true) ∧
  (∀ (s : State) (t l : Nat), let a := s.advance t; a.up = true → a.arch.cycleStart + 450000 ≤ a.mtb →
    a.arch.deadline = false → l = 1 → a.arch.overrunRaised = false → a.arch.overruns.get 0 0 = 0 → ∃ u,
    exec (.outputStagingDeadline t l) s = .next u ∧ u.told = some (Ev.CYCLE_OVERRUN, 0, [a.arch.cycleStart, 1, 1]) ∧
    u.arch.overruns.get 0 0 = 1 ∧ u.outlet 0 = a.outlet 0) ∧
  (∀ (s : State) (n : Nat), ((s.passStaged n).outlet n).outNext =
    (match (s.outlet n).outStaged with | some p => some p | none => (s.outlet n).outNext) ∧
    ((s.passStaged n).outlet n).setPoint = (s.outlet n).setStaged.getD (s.outlet n).setPoint ∧
    ((s.passStaged n).outlet n).outStaged = none) ∧
  (∀ (s : State) (t : Nat) (d : Bool), let a := s.advance t; a.up = true → a.arch.cycleStart + 300000 ≤ a.mtb →
    exec (.aCheckDeadline t d) s = .next ({ a with arch := { a.arch with withhold := a.arch.withhold || !d } }))

/-- Reads and writes of the register map. A latching read, a direct write, the alert register, the set-up lock, the
saved settings and REG_WRITE (R508 to R520). That a misaligned read is counted as a refused access is the model's
choice. Where a clause rests on a choice of the model, it is that of log entries 30, 31, 32, 33, 34, 35, 37, 38,
40 and 199, and no rule is cited for it. (R508, R509, R511, R513, R514, R515, R516, R517, R519, R520) -/
def Obligations.RegisterMapCommands : Prop :=
  (∀ (s : State) (t off : Nat), let a := s.advance t; a.up = true → off % 4 = 0 → regAt off = none → ∃ u,
    exec (.latchingRead t off false false) s = .next u ∧ u.host.readWords = [0]) ∧
  (∀ (s : State) (t : Nat), let a := s.advance t; a.up = true → ∃ u, exec (.latchingRead t 0x200 true false) s =
    .next u ∧ u.host.readWords = [a.mtb % 2 ^ 32, a.mtb / 2 ^ 32 % 2 ^ 32]) ∧
  (∀ (s : State) (t v : Nat), let a := s.advance t; a.up = true → bits v 24 6 ≠ 0 → ∃ u,
    exec (.registerWrite t 0x34 v false false false) s = .next u ∧ u.rd R.GLOBAL_ALERT_EN_EN = bits v 0 8 ∧
    u.rd R.GLOBAL_ALERT_EN_VECTOR = bits v 24 6) ∧
  (∀ (s : State) (t v : Nat), let a := s.advance t; a.up = true → bits v 24 6 = 0 → ∃ u,
    exec (.registerWrite t 0x34 v false false false) s = .next u ∧ u.rd R.GLOBAL_ALERT_EN_EN =
    a.rd R.GLOBAL_ALERT_EN_EN ∧ u.rd R.GLOBAL_WR_REFUSED_LAST_OFFSET = 0x34 ∧ u.rd R.GLOBAL_WR_REFUSED_LAST_REASON =
    6) ∧
  (∀ (s : State) (t off v : Nat) (w p : Bool), let a := s.advance t; a.up = true → p = true ∨ off % 4 ≠ 0 ∨ (w =
    true ∧ off % 8 ≠ 0) → ∃ u, exec (.registerWrite t off v w p false) s = .next u ∧
    u.rd R.GLOBAL_WR_REFUSED_LAST_OFFSET = off % 2 ^ 22 ∧ u.rd R.GLOBAL_WR_REFUSED_LAST_REASON = 7 ∧
    u.rd R.GLOBAL_ALERT_WR_REFUSED = 1 ∧ u.rd R.GLOBAL_WR_REFUSED_COUNT =
    satAdd R.GLOBAL_WR_REFUSED_COUNT.w (a.rd R.GLOBAL_WR_REFUSED_COUNT) 1) ∧
  (∀ (s : State) (t off v : Nat), let a := s.advance t; a.up = true → off % 4 = 0 → regAt off = none → ∃ u,
    exec (.registerWrite t off v false false false) s = .next u ∧ u.rd R.GLOBAL_WR_REFUSED_LAST_REASON = 4) ∧
  (∀ (s : State) (t m : Nat), let a := s.advance t; a.up = true → ∃ u, exec (.alertWrite t m) s = .next u ∧
    ∀ F ∈ State.alertBits, u.rd F = (if bit m F.lo then 0 else a.rd F)) ∧
  (∀ (s : State) (t : Nat), let a := s.advance t; a.up = true → a.locked = false → ∃ u, exec (.setupLock t) s =
    .next u ∧ u.locked = true) ∧
  (∀ (s : State) (t : Nat), let a := s.advance t; a.locked = true → exec (.setupLock t) s = .next a) ∧
  (∀ (s : State) (t : Nat), let a := s.advance t; a.up = true → a.locked = true → a.flag R.GLOBAL_SETUP_LOCK_SAVED =
    false → ∃ u, exec (.settingsSaved t) s = .next u ∧ u.flag R.GLOBAL_SETUP_LOCK_SAVED = true ∧ u.told =
    some (Ev.SETUP_LOCKED, 0, [a.host.lockAt, 1, State.restoredFields.length])) ∧
  (∀ (s : State) (x : Ctx) (off v m : Nat), let b := s.advance x.t; let a := b.start x; b.takes x Op.REG_WRITE 0 =
    true → exec (.regWrite x off v m) s =
    .next (((a.regWrite off v m).2.complete x (a.regWrite off v m).1).settleDestroys)) ∧
  (∀ (s : State) (v m off : Nat), off % 4 ≠ 0 → s.regWrite off v m = (St.BAD_PARAM, s)) ∧
  (∀ (s : State) (v m off : Nat), off % 4 = 0 → regAt off = none → s.regWrite off v m = (St.SETUP_LOCKED, s))

/-- What the Cask commands do. CASK_OPEN, a staged action, CASK_PREPARE, CASK_COMMIT in each mode, CASK_ABORT,
CASK_QUERY and FUNC_DISABLE, with the statuses that turn them away. Where a clause rests on a choice of the model,
it is that of log entries 1, 41, 42, 45, 50, 212, 213, 214, 215 and 231, and no rule is cited for it. (R68, R69,
R70, R71, R72, R76, R77, R78, R79, R84) -/
def Obligations.CaskCommands : Prop :=
  (∀ (s : State) (x : Ctx) (k : Nat), let b := s.advance x.t; let a := b.start x; b.takes x Op.CASK_OPEN 0 = true →
    (List.range 8).find? (fun j => (a.slot j).st == .free) = some k → ∃ u, exec (.caskOpen x) s = .next u ∧
    u.answer x = some St.OK ∧ (u.slot k).st = .opened ∧ (u.slot k).id = a.nextCaskId ∧ (u.slot k).acts = []) ∧
  (∀ (s : State) (x : Ctx), let b := s.advance x.t; let a := b.start x; b.takes x Op.CASK_OPEN 0 = true →
    (List.range 8).all (fun j => (a.slot j).st != .free) = true → ∃ u, exec (.caskOpen x) s = .next u ∧ u.answer x =
    some St.NO_SLOT) ∧
  (∀ (s : State) (x : Ctx) (c : CaskAct) (k : Nat), let b := s.advance x.t; let a := b.start x; b.up = true →
    b.startable x (actOp c) = true → b.fenced x = false →
    (State.stoppedInMeter (actOp c / 256) && b.rd R.PWR_STAT_MODE == 1) = false →
    b.gate x (actOp c) (actFunction c).2 = none → b.host.destroys = [] → b.actDisabled (some c) = false → x.cask ≠
    0 → b.findCask x.cask = some k → (b.slot k).st = .opened → (b.slot k).acts.length < 16 →
    exec (.caskAction x c) s =
    .next ((a.setSlot k { a.slot k with acts := (a.slot k).acts ++ [c] }).complete x St.OK (a.slot k).acts.length)) ∧
  (∀ (s : State) (x : Ctx) (d n k : Nat), let b := s.advance x.t; let a := b.start x; b.takes x Op.CASK_PREPARE 0 =
    true → a.findCask d = some k → (a.slot k).st = .opened → (a.slot k).acts.length = n →
    exec (.caskPrepare x d n) s =
    .next ((a.setSlot k { a.slot k with st := .preparing, since := a.mtb, ctx := some x, needs := a.needsMask (a.slot k).acts }).testCloses (a.slot k).acts)) ∧
  (∀ (s : State) (x : Ctx) (d n k : Nat), let b := s.advance x.t; let a := b.start x; b.takes x Op.CASK_PREPARE 0 =
    true → a.findCask d = some k → (a.slot k).st = .opened → (a.slot k).acts.length ≠ n → ∃ u,
    exec (.caskPrepare x d n) s = .next u ∧ u.answer x = some St.COUNT_MISMATCH) ∧
  (∀ (s : State) (x : Ctx) (d i k : Nat), let b := s.advance x.t; let a := b.start x; b.takes x Op.CASK_COMMIT 0 =
    true → a.findCask d = some k → (a.slot k).st = .prepared → ∃ u, exec (.caskCommit x d 0 i) s = .next u ∧
    u.answer x = some St.PENDING ∧ (u.slot k).st = .armed ∧ (u.slot k).tApply = a.mtb + a.leadNs) ∧
  (∀ (s : State) (x : Ctx) (d i k : Nat), let b := s.advance x.t; let a := b.start x; b.takes x Op.CASK_COMMIT 0 =
    true → a.findCask d = some k → (a.slot k).st = .prepared → a.rd R.FILT_TRK_STAT_STATE (a.rd R.CASK_CFG_ZC_SRC) ≠
    2 → ∃ u, exec (.caskCommit x d 1 i) s = .next u ∧ u.answer x = some St.NO_ZC ∧ (u.slot k).st = .prepared) ∧
  (∀ (s : State) (x : Ctx) (d i k c : Nat), let b := s.advance x.t; let a := b.start x; b.takes x Op.CASK_COMMIT 0 =
    true → a.findCask d = some k → (a.slot k).st = .prepared →
    a.crossing (a.rd R.CASK_CFG_ZC_SRC) a.leadNs (a.rdInt R.CASK_CFG2_ZC_OFFSET_US * 1000) = some c → ∃ u,
    exec (.caskCommit x d 1 i) s = .next u ∧ u.answer x = some St.PENDING ∧ (u.slot k).st = .armed ∧
    (u.slot k).mode = 1 ∧ (u.slot k).tApply = c) ∧
  (∀ (s : State) (x : Ctx) (d i k : Nat), let b := s.advance x.t; let a := b.start x; b.takes x Op.CASK_COMMIT 0 =
    true → a.findCask d = some k → (a.slot k).st = .prepared → ∃ u, exec (.caskCommit x d 2 i) s = .next u ∧ (i <
    a.mtb + a.leadNs + 100000 → u.answer x = some St.TOO_LATE ∧ (u.slot k).st = .prepared) ∧ (a.mtb + 60 * 10 ^ 9 <
    i → u.answer x = some (if i < a.mtb + a.leadNs + 100000 then St.TOO_LATE else St.BAD_PARAM) ∧ (u.slot k).st =
    .prepared) ∧ (a.mtb + a.leadNs + 100000 ≤ i → i ≤ a.mtb + 60 * 10 ^ 9 → u.answer x = some St.PENDING ∧
    (u.slot k).st = .armed ∧ (u.slot k).tApply = i)) ∧
  (∀ (s : State) (x : Ctx) (d i k : Nat), let b := s.advance x.t; let a := b.start x; b.takes x Op.CASK_COMMIT 0 =
    true → a.findCask d = some k → (a.slot k).st = .prepared → ∃ u, exec (.caskCommit x d 3 i) s = .next u ∧
    u.answer x = some St.PENDING ∧ (u.slot k).st = .armed ∧ (u.slot k).mode = 3 ∧ (u.slot k).tApply = 0) ∧
  (∀ (s : State) (x : Ctx) (d k : Nat), let b := s.advance x.t; let a := b.start x; b.takes x Op.CASK_ABORT 0 =
    true → a.findCask d = some k → ∃ u, exec (.caskAbort x d) s = .next u ∧ (a.slot k).st = .recorded ∧ u.answer x =
    some St.TOO_LATE ∨ (a.slot k).abortable = true ∧ u.answer x = some St.OK ∧ (u.slot k).st = .free ∧
    (u.slot k).lastStatus = St.ABORT_HOST ∨ (a.slot k).st ≠ .recorded ∧ (a.slot k).abortable = false ∧ u.answer x =
    some St.BAD_STATE) ∧
  (∀ (s : State) (x : Ctx) (d k : Nat), let b := s.advance x.t; let a := b.start x; b.takes x Op.CASK_QUERY 0 =
    true → a.findCask d = some k → exec (.caskQuery x d) s = .next (a.complete x St.OK ((a.slot k).tApply % 2 ^ 64 +
    2 ^ 64 * (a.slot k).st.code + 2 ^ 72 * (a.slot k).acts.length))) ∧
  (∀ (s : State) (x : Ctx) (d : Nat), let b := s.advance x.t; let a := b.start x; b.takes x Op.CASK_PREPARE 0 =
    true → a.findCask d = none → exec (.caskPrepare x d 0) s = .next (a.complete x St.UNKNOWN_CASK)) ∧
  (∀ (s : State) (x : Ctx) (d : Nat), let b := s.advance x.t; let a := b.start x; b.takes x Op.CASK_COMMIT 0 =
    true → a.findCask d = none → exec (.caskCommit x d 0 0) s = .next (a.complete x St.UNKNOWN_CASK)) ∧
  (∀ (s : State) (x : Ctx) (d : Nat), let b := s.advance x.t; let a := b.start x; b.takes x Op.CASK_ABORT 0 = true →
    a.findCask d = none → exec (.caskAbort x d) s = .next (a.complete x St.UNKNOWN_CASK)) ∧
  (∀ (s : State) (x : Ctx) (d : Nat), let b := s.advance x.t; let a := b.start x; b.takes x Op.CASK_QUERY 0 = true →
    a.findCask d = none → exec (.caskQuery x d) s = .next (a.complete x St.UNKNOWN_CASK)) ∧
  (∀ (s : State) (x : Ctx) (f i : Nat), let b := s.advance x.t; let a := b.start x; b.takes x Op.FUNC_DISABLE 0 =
    true → exec (.funcDisable x f i) s = .next ((if f = 0 ∨ 0x0F < f then a.complete x St.BAD_PARAM else if f =
    0x0C ∧ i = 1 then (a.partitionDenied 0 10 .segments).complete x St.PARTITION_DENIED else
    (a.complete x St.ACCEPTED).disableSteps x f i false).settleDestroys))

/-- What happens to a Cask between its commands. Validation, the time-outs, the commit record, the SYNC_IN edge, the
retract and the application of a Cask, and the end of a disable. Where a clause rests on a choice of the model, it
is that of log entries 44, 46, 47, 49, 85, 193, 194, 212, 213 and 230, and no rule is cited for it. (R72, R74,
R79, R80, R81, R82, R83, R84) -/
def Obligations.CaskEvents : Prop :=
  (∀ (s : State) (t k : Nat), let a := s.advance t; a.up = true → k < 8 → (a.slot k).st = .preparing →
    a.invalidAct k false = none → (a.slot k).needs = 0 → ∃ u, exec (.caskValidationDone t k) s = .next u ∧
    (u.slot k).st = .prepared ∧ (u.slot k).ctx = none ∧ ∀ x, (a.slot k).ctx = some x → u.answer x = some St.OK) ∧
  (∀ (s : State) (t k r i l : Nat), let a := s.advance t; a.up = true → k < 8 → (a.slot k).st = .preparing →
    a.invalidAct k false = some (r, i, l) → r < 2 ^ 32 → exec (.caskValidationDone t k) s =
    .next (a.abortCask k r i l 0)) ∧
  (∀ (s : State) (t k : Nat), let a := s.advance t; a.up = true → (a.slot k).st = .opened → (a.slot k).since +
    10 ^ 6 * a.rd R.CASK_CFG_OPEN_TO_MS ≤ a.mtb → exec (.caskOpenTimeout t k) s =
    .next (a.abortCask k St.ABORT_TIMEOUT 0xFF 9)) ∧
  (∀ (s : State) (t k : Nat), let a := s.advance t; a.up = true → (a.slot k).st = .prepared → (a.slot k).since +
    60 * 10 ^ 9 ≤ a.mtb → exec (.caskPreparedTimeout t k) s = .next (a.abortCask k St.ABORT_TIMEOUT 0xFF 9)) ∧
  (∀ (s : State) (k st i l r : Nat), ((s.abortCask k st i l r).slot k).st = .free ∧
    ((s.abortCask k st i l r).slot k).lastStatus = st ∧ (s.abortCask k st i l r).rd R.CASK_STAT_ABORTED =
    satAdd R.CASK_STAT_ABORTED.w (s.rd R.CASK_STAT_ABORTED) 1) ∧
  (∀ (s : State) (t k : Nat) (w : Bool), let a := s.advance t; a.up = true → (a.slot k).st = .armed → a.allAcked k =
    true → (a.slot k).mode ≠ 3 → (a.slot k).tApply ≤ a.mtb + a.leadNs → a.mtb + 10000 ≤ (a.slot k).tApply → ∃ u,
    exec (.caskRecordWrite t k w) s = .next u ∧ (u.slot k).st = (if w then .recorded else .free) ∧
    u.cask.records.head?.map (·.whole) = some w ∧ (w = false → (u.slot k).lastStatus = St.RECORD_FAIL)) ∧
  (∀ (s : State) (t e : Nat) (f : Bool), let a := s.advance t; a.up = true → a.flag R.CASK_CFG_SYNC_EDGE = f →
    exec (.caskSyncEdge t e f) s =
    .next ((List.range 16).foldl (fun (b : State) k => if (b.slot k).st == .armed && (b.slot k).mode == 3 && (b.slot k).tApply == 0 && decide ((b.slot k).since ≤ e) then let d := b.modSlot k fun c => { c with tApply := e + max b.leadNs 40000 }; if d.allAcked k then d.writeRecord k true else d else b) a)) ∧
  (∀ (s : State) (t k : Nat), let a := s.advance t; a.up = true → (a.slot k).st = .armed → (a.slot k).mode = 3 →
    (a.slot k).tApply = 0 → (a.slot k).since + 10 ^ 6 * a.rd R.CASK_CFG2_SYNC_TO_MS ≤ a.mtb →
    exec (.caskSyncTimeout t k) s = .next (a.abortCask k St.SYNC_TIMEOUT 0xFF 9)) ∧
  (∀ (s : State) (t k : Nat), let a := s.advance t; a.core = true → (a.slot k).st = .armed → (a.slot k).tApply ≠ 0 →
    (a.slot k).tApply ≤ a.mtb + 10000 → exec (.caskRetract t k) s = .next (a.abortCask k (if a.phase = .pour then
    St.ABORT_POWER else St.RECORD_FAIL) 0xFF 9)) ∧
  (∀ (s : State) (t k : Nat) (l : List (Nat × Nat)) (b : Bool), let a := s.advance t; a.up = true → k < 8 →
    (a.slot k).st = .recorded → (a.slot k).tApply ≤ a.mtb → exec (.caskApply t k l b) s =
    .next (((a.applySlot k b).lateApplies k l).caskDone k)) ∧
  (∀ (s : State) (k : Nat), ((s.caskDone k).slot k).st = .free ∧ ((s.caskDone k).slot k).lastStatus =
    (if (s.slot k).held = 0 then St.OK else St.COMMITTED_SAFETY_HELD) ∧ (s.caskDone k).told =
    some (Ev.CASK_DONE, 0, [(s.slot k).id, closeOutlet k, if (s.slot k).held = 0 then St.OK else
    St.COMMITTED_SAFETY_HELD, (s.slot k).tApply, b2n (s.slot k).appliedEarly +
    2 * b2n ((s.slot k).held != 0), (s.slot k).held])) ∧
  (∀ (s : State) (t b i : Nat) (d : Disable), let a := s.advance t; a.up = true →
    (a.cask.disables.find? fun e => e.block == b && e.inst == i && !e.done) = some d → a.sessionsOf b i = [] → b ≠
    0x0C → b ≠ 0x0D → b ≠ 0x03 → ∃ u, exec (.funcDisableDone t b i) s = .next u ∧ u.told =
    some (Ev.FUNC_DISABLED, 0, [b, i, d.cancelled, d.closed]) ∧ u.answer d.ctx = some St.OK)

/-- Pilot, proximity, authorisation and vehicle messages of an outlet. A period of the pilot, an accepted state, a
diode fault, a proximity reading, a vehicle message and the time-outs of authorisation. Where a clause rests on a
choice of the model, it is that of log entries 54, 56, 58, 60, 62, 68, 194, 196, 197, 218, 221, 222 and 226, and
no rule is cited for it. (R91, R92, R93, R96, R98, R102, R103, R113) -/
def Obligations.OutletEvents : Prop :=
  (∀ (s : State) (t n : Nat) (h l : Int) (p : PilotOut), let a := s.advance t; a.up = true → (a.outlet n).periodAt +
    998000 ≤ a.mtb → (a.outlet n).outNext = some p → (a.os n).safeSince = none → exec (.pilotPwmPeriod t n h l) s =
    .next (let j := (a.judgePeriod n h l).modOutlet n fun o => { o with periodAt := a.mtb }; let j := if a.muted then j else { j with twin := { j.twin with pilotsOff := clearBit j.twin.pilotsOff n } }; j.setOut n p)) ∧
  (∀ (s : State) (t n k : Nat) (h l : Int) (p : PilotOut), let a := s.advance t; a.up = true →
    (a.outlet n).periodAt + 998000 ≤ a.mtb → (a.outlet n).outNext = some p → (a.os n).safeSince = some k →
    exec (.pilotPwmPeriod t n h l) s =
    .next (let j := (a.judgePeriod n h l).modOutlet n fun o => { o with periodAt := a.mtb }; let j := if a.muted then j else { j with twin := { j.twin with pilotsOff := clearBit j.twin.pilotsOff n } }; j.modOutlet n fun o => { o with outNext := none })) ∧
  (∀ (s : State) (t n : Nat) (h l : Int), let a := s.advance t; a.up = true → (a.outlet n).periodAt + 998000 ≤
    a.mtb → (a.outlet n).outNext = none → exec (.pilotPwmPeriod t n h l) s =
    .next (let j := (a.judgePeriod n h l).modOutlet n fun o => { o with periodAt := a.mtb }; let j := if a.muted then j else { j with twin := { j.twin with pilotsOff := clearBit j.twin.pilotsOff n } }; j)) ∧
  (∀ (s : State) (n : Nat) (p : PilotOut), ((s.setOut n p).outlet n).out = (if s.outType n = 0 then .stateF else
    p) ∧ ((s.setOut n p).outlet n).outNext = none ∧ ((s.setOut n p).outlet n).agree = 0 ∧
    ((s.setOut n p).outlet n).noAccept = 0) ∧
  (∀ (s : State) (n d : Nat) (h l : Int), (s.outlet n).out = .pwm d → s.railOut 11 = false → s.railOut 12 = false →
    ((s.judgePeriod n h l).outlet n).cand = pilotOf h ∧ ((s.judgePeriod n h l).outlet n).badLow = (if -1050 < l then
    (s.outlet n).badLow + 1 else 0) ∧ ((s.judgePeriod n h l).outlet n).agree = (if pilotOf h = none then 0 else
    if (s.outlet n).cand = pilotOf h then (s.outlet n).agree + 1 else 1)) ∧
  (∀ (s : State) (t n : Nat) (p : Pilot), let a := s.advance t; a.up = true → n < 8 → (a.outlet n).cand = some p →
    a.rd R.OUT_POLICY_FILT_PER ≤ (a.outlet n).agree → p ≠ (a.outlet n).pilot → exec (.pilotStateAccept t n) s =
    .next (a.acceptPilot n p)) ∧
  (∀ (s : State) (n : Nat) (p : Pilot), p ≠ .a → p ≠ .e → s.hostControlled n = true → s.acceptPilot n p =
    s.modOutlet n fun o => { o with pilot := p }) ∧
  (∀ (s : State) (t n : Nat), let a := s.advance t; a.up = true → 3 ≤ (a.outlet n).badLow ∨ 10 ≤
    (a.outlet n).noAccept → (a.outlet n).st.live = false → ∃ u, exec (.pilotDiodeFault t n) s = .next u ∧
    u.rd R.OUT_STAT_DIODE_FAULT n = 1 ∧ (u.outlet n).badLow = 0 ∧ (u.outlet n).noAccept = 0) ∧
  (∀ (s : State) (t n ohms : Nat), let a := s.advance t; a.up = true → a.muted = false → a.rd R.OUT_CFG_PP_MODE n =
    1 → (a.outlet n).st = .idle → ∃ u, exec (.proximityRead t n ohms) s = .next u ∧ (u.outlet n).ppRating =
    (State.decodeCable ohms (a.outType n == 2)).1 ∧ (u.outlet n).ppInvalid =
    (State.decodeCable ohms (a.outType n == 2)).2) ∧
  (∀ (r : Nat) (b : Bool), r ≤ 4500 → (State.decodeCable r b).1 = (if 1100 ≤ r ∧ r ≤ 2460 then some 13 else if 400 ≤
    r ∧ r ≤ 936 then some 20 else if 164 ≤ r ∧ r ≤ 308 then some 32 else if 80 ≤ r ∧ r ≤ 140 then some (if b then
    63 else 70) else none)) ∧
  (∀ (s : State) (t n d : Nat), let a := s.advance t; a.up = true → (a.outlet n).authDue = some d → d ≤ a.mtb →
    (a.outlet n).ident = none → (a.outlet n).st = .connected ∨ (a.outlet n).st = .negotiating →
    exec (.authTimeout t n) s = .next (a.endSession n eNO_AUTH)) ∧
  (∀ (s : State) (n r : Nat), 1 ≤ r → r < 32 → ((s.endSession n r).outlet n).st = .ended ∧
    (s.endSession n r).rd R.OUT_STAT_END_REASON n = r) ∧
  (∀ (s : State) (t n : Nat) (w : Nat) (b : Bool), let a := s.advance t; a.up = true → n < 8 →
    (a.outlet n).hlcRunning = true → exec (.hlcMessage t n (.discovery w b)) s = .next (((if (a.outlet n).st =
    .negotiating then
    a.wr R.OUT_STAT_DIR n (b2n (b && a.flag R.OUT_CFG_BIDIR n && a.rd R.OUT_STAT_PROTO n == 3)) else
    a).modOutlet n fun o => { o with vehicleMaxW := w, discovered := true }).goReady n)) ∧
  (∀ (s : State) (t n : Nat) (p q : Nat) (r : List Nat), let a := s.advance t; a.up = true → n < 8 →
    (a.outlet n).hlcRunning = true → (a.outlet n).st = .negotiating → ((q ::
    r).find? fun k => (a.protocolsOffered n).contains k) = some p → exec (.hlcMessage t n (.protocols (q :: r))) s =
    .next (a.wr R.OUT_STAT_PROTO n p)) ∧
  (∀ (s : State) (t n : Nat), let a := s.advance t; a.up = true → (a.outlet n).hlcRunning = true →
    exec (.hlcTimeout t n) s = .next (a.hlcFailed n)) ∧
  (∀ (s : State) (t : Nat) (c : HeldCard), let a := s.advance t; a.up = true → a.out.card = some c → c.until_ ≤
    a.mtb → ∃ u, exec (.preauthTimeout t) s = .next u ∧ u.out.card = none)

/-- Power modules, the allocator and its time-outs. Frames of the power modules, the set-point frame, the SYNC
frame, a run of the allocator and the time-outs of limits, enforcement and waiting. A frame that is not valid has
no effect. Where a clause rests on a choice of the model, it is that of log entries 53, 56, 57, 68, 180, 194, 217,
225, 228, 229 and 230, and no rule is cited for it. (R118, R119, R120, R121, R122, R124, R125, R126) -/
def Obligations.PowerModuleEvents : Prop :=
  (∀ (s : State) (t b c : Nat) (f : List Byte), let a := s.advance t; a.up = true →
    State.statusValid (f.map (·.toNat)) = false → exec (.pmStatusFrame t b c f) s = .next (a)) ∧
  (∀ (s : State) (t b c n i : Nat) (f : List Byte), let a := s.advance t; a.up = true →
    State.statusValid (f.map (·.toNat)) = true → a.pmOf b c 2 = some (n, i) → ∃ u, exec (.pmStatusFrame t b c f) s =
    .next u ∧ (u.pm n i).seenAt = some a.mtb ∧ (u.pm n i).lost = false ∧ (u.pm n i).decivolts =
    leField (f.map (·.toNat)) 0 2 ∧ (u.pm n i).deciamps = dec 16 (leField (f.map (·.toNat)) 2 2)) ∧
  (∀ (s : State) (t b c n i p q r v w k z : Nat), let a := s.advance t; a.up = true → a.pmOf b c 3 = some (n, i) →
    ∃ u, exec (.pmIdentFrame t b c p q r v w k z) s = .next u ∧ (u.pm n i).ident = [p, q, r, v, w, k, z] ∧
    (u.pm n i).ratedW = 1000 * k) ∧
  (∀ (s : State) (t b c n i k v : Nat), let a := s.advance t; a.up = true → a.pmOf b c 4 = some (n, i) → ∃ u,
    exec (.pmFaultFrame t b c k v) s = .next u ∧ (u.pm n i).faults = k + 2 ^ 16 * v ∧ u.told =
    some (Ev.PM_FAULT, n, [n, c % 256, k, 0])) ∧
  (∀ (s : State) (t n i k : Nat), let a := s.advance t; a.up = true → (a.pm n i).seenAt = some k → (a.pm n i).lost =
    false → k + 50 * 10 ^ 6 ≤ a.mtb → exec (.pmLost t n i) s =
    .next (let b := (a.modPm n i fun p => { p with lost := true }).raise Ev.PM_FAULT n [n, a.rd R.OUT_DC_CFG_PM_BASE n + i, 0, 1];
    if b.livePms n = 0 then (if (b.outlet n).st.live then b.faultSession n ePM_LOST else b.erem n 0) else
    b.capNow n)) ∧
  (∀ (s : State) (t n : Nat), let a := s.advance t; a.up = true → a.livePms n ≠ 0 → a.muted = false → ∃ u,
    exec (.setpointSend t n) s = .next u ∧ (u.outlet n).lastIds = (a.liveAddrs n).map (fun i => State.pmId 1 i 0) ∧
    (u.outlet n).lastFrame = State.setpointFrame (a.outlet n).setPoint (a.livePms n) ((a.outlet n).setCounter + 1) ∧
    (u.outlet n).setCounter = ((a.outlet n).setCounter + 1) % 256) ∧
  (∀ (s : State) (t : Nat), let a := s.advance t; a.up = true → a.muted = false → ∃ u, exec (.pmSyncSend t) s =
    .next u ∧ u.out.lastSync = (State.pmId 5 Config.pmAll 0, a.mtb / 10 ^ 6, a.rd R.HOST_SYNC_GLOBAL_EPOCH)) ∧
  (∀ (s : State) (t : Nat), let a := s.advance t; a.up = true → t % 10 ^ 9 = 0 → a.out.lastRun < a.mtb / 10 ^ 9 →
    a.reserveRole = false → exec (.allocatorRun t) s =
    .next (({ a with out := { a.out with lastRun := a.mtb / 10 ^ 9 } } : State).allocatorRun)) ∧
  (∀ (s : State) (t : Nat), let a := s.advance t; a.up = true → t % 10 ^ 9 ≠ 0 ∨ a.mtb / 10 ^ 9 ≤ a.out.lastRun →
    exec (.allocatorRun t) s = .next (a)) ∧
  (∀ (s : State) (l c : Nat), s.siteLimit = (l, c) → (List.range 8).filter s.shares = [] →
    s.allocatorRun.rd R.OUT_SITE_EFFECTIVE_W = l % 2 ^ 32 ∧ s.allocatorRun.out.lastEffective = l) ∧
  (∀ (s : State) (t d : Nat), let a := s.advance t; a.up = true → a.out.trellisDue = some d → d ≤ a.mtb → ∃ u,
    exec (.trellisLimitExpiry t) s = .next u ∧ u.out.fallback = true ∧ u.out.trellisDue = none) ∧
  (∀ (s : State) (t n : Nat) (e : EnfStep), let a := s.advance t; a.up = true → (a.outlet n).enfSteps = [e] →
    e.due ≤ a.mtb → ∃ u, exec (.enforcementGraceEnd t n) s = .next u ∧ u.rd R.OUT_ALLOC_STAT_ENF_W n =
    trunc R.OUT_ALLOC_STAT_ENF_W.w (min (a.rd R.OUT_ALLOC_STAT_ENF_W n) e.watts) ∧ (u.outlet n).enfSteps = []) ∧
  (∀ (s : State) (t n : Nat), let a := s.advance t; a.up = true → (a.outlet n).st = .paused →
    a.rd R.OUT_POLICY_MAX_WAIT_MIN ≠ 0 → a.rd R.OUT_POLICY_MAX_WAIT_MIN ≤
    (a.mtb - (a.outlet n).pausedAt) / (60 * 10 ^ 9) → exec (.allocMaxWait t n) s =
    .next ((((a.wr R.OUT_ALLOC_STAT_LAST n 5).raise Ev.ALLOC_REFUSED n [n, (a.mtb - (a.outlet n).pausedAt) / (60 * 10 ^ 9)]).openOutlet n 0).endSession n eALLOC_REFUSED))

/-- What the OUT and SESSION commands do. The commands of outlets and sessions, with the statuses that turn them
away. A close of OUT_CONTACTOR awaits the self-test of its sensor and is decided in a control cycle, which is the
model's choice (log entry 231). Where a clause rests on a choice of the model, it is that of log entries 1, 8, 29,
37, 38, 42, 50, 58, 180, 182, 194, 197, 216, 217, 221, 229, 230, 231 and 261, and no rule is cited for it. (R87,
R88, R89, R98, R100, R112, R113, R117, R122, R123, R167) -/
def Obligations.OutletCommands : Prop :=
  (∀ (s : State) (x : Ctx) (n cfg dc : Nat), let b := s.advance x.t; let a := b.start x; b.takes x Op.OUT_CONFIG n =
    true → n < 8 → (a.outlet n).st.live = false →
    State.outCfgFields.any (fun F => !State.inRange F (State.imageField F cfg)) = false →
    State.outDcFields.any (fun F => !State.inRange F (State.imageField F dc)) = false →
    a.mpTaken n (State.imageField R.OUT_CFG_MP cfg) = false → ∃ u, exec (.outConfig x n cfg dc) s = .next u ∧
    u.answer x = some St.OK ∧ ∀ F ∈ State.outDcFields, u.rd F n = State.imageField F dc) ∧
  (∀ (s : State) (x : Ctx) (n cfg dc : Nat), let b := s.advance x.t; let a := b.start x; b.takes x Op.OUT_CONFIG n =
    true → n < 8 → (a.outlet n).st.live = true → a.cfgChangesLive n cfg = true → ∃ u,
    exec (.outConfig x n cfg dc) s = .next u ∧ u.answer x = some St.SESSION_LIVE) ∧
  (∀ (s : State) (x : Ctx) (n : Nat), let b := s.advance x.t; let a := b.start x; b.takes x Op.OUT_AVAILABILITY n =
    true → n < 8 → (a.outlet n).st = .energy → ∃ u, exec (.outAvailability x n 2) s = .next u ∧ u.answer x =
    some St.OK ∧ (u.outlet n).st = .stopping ∧ (u.outlet n).oosAfter = true) ∧
  (∀ (s : State) (x : Ctx) (n : Nat), let b := s.advance x.t; let a := b.start x; b.takes x Op.OUT_AVAILABILITY n =
    true → n < 8 → a.keyMode ≠ 4 → a.flag R.OUT_CFG_TETHERED n = false ∨ a.flag R.TAG_CABLE_EOL n = false ∧
    a.rd R.TAG_CABLE_STATE n ≠ 2 → (a.outlet n).st ≠ .outOfService → ∃ u, exec (.outAvailability x n 0) s =
    .next u ∧ u.answer x = some St.OK ∧ (u.outlet n).oosAfter = false ∧ (u.outlet n).eol = false) ∧
  (∀ (s : State) (x : Ctx) (n m : Nat), let b := s.advance x.t; let a := b.start x;
    b.takes x Op.OUT_AVAILABILITY n = true → 8 ≤ n ∨ 3 ≤ m → ∃ u, exec (.outAvailability x n m) s = .next u ∧
    u.answer x = some St.BAD_PARAM) ∧
  (∀ (s : State) (x : Ctx) (n k : Nat) (i : List Byte), let b := s.advance x.t; let a := b.start x;
    b.takes x Op.SESSION_AUTHORISE n = true → n < 8 → i.length ≤ 32 → a.flag R.OUT_CFG_EIM_EN n = true →
    (a.outlet n).ident = none → (a.outlet n).st = .connected ∨ (a.outlet n).st = .negotiating →
    exec (.sessionAuthorise x n k i) s =
    .next (((a.authorise n (.plain 2 k (identHash i))).complete x St.OK).settleDestroys)) ∧
  (∀ (s : State) (x : Ctx) (n k : Nat) (i : List Byte), let b := s.advance x.t; let a := b.start x;
    b.takes x Op.SESSION_AUTHORISE n = true → n < 8 → i.length ≤ 32 → a.flag R.OUT_CFG_EIM_EN n = true →
    (a.outlet n).ident ≠ none → ∃ u, exec (.sessionAuthorise x n k i) s = .next u ∧ u.answer x =
    some St.ALREADY_AUTHORISED) ∧
  (∀ (s : State) (x : Ctx) (m p : Nat), let b := s.advance x.t; let a := b.start x; b.takes x Op.SESSION_STOP 0xFF =
    true → a.reserveRole = false → exec (.sessionStop x m p) s =
    .next (((a.sessionStop m).2.complete x (a.sessionStop m).1).settleDestroys)) ∧
  (∀ (s : State) (n : Nat), n < 8 → (s.outlet n).st = .ready ∨ (s.outlet n).st = .energy ∨ (s.outlet n).st =
    .paused → (s.sessionStop (2 ^ n)).1 = St.OK ∧ ((s.sessionStop (2 ^ n)).2.outlet n).st = .stopping ∧
    ((s.sessionStop (2 ^ n)).2.outlet n).endReason = eHOST_STOP) ∧
  (∀ (s : State) (x : Ctx) (m p : Nat), let b := s.advance x.t; let a := b.start x; b.takes x Op.OUT_EREM 0xFF =
    true → a.reserveRole = false → exec (.outErem x m p) s =
    .next (((a.outErem m).complete x St.OK).settleDestroys)) ∧
  (∀ (s : State) (n : Nat), n < 8 → (s.outlet n).st.live = false → s.outErem (2 ^ n) = s.erem n 0) ∧
  (∀ (s : State) (x : Ctx) (w : Nat), let b := s.advance x.t; let a := b.start x; b.takes x Op.OUT_SITE_LIMIT 0xFF =
    true → w < 2 ^ 32 → ∃ u, exec (.outSiteLimit x w) s = .next u ∧ u.answer x = some St.OK ∧
    u.rd R.OUT_SITE_HOST_LIMIT_W = w) ∧
  (∀ (s : State) (x : Ctx) (n c : Nat), let b := s.advance x.t; let a := b.start x;
    b.takes x Op.SESSION_SET_CLASS n = true → ∃ u, exec (.sessionSetClass x n c) s = .next u ∧ u.answer x =
    some (if 8 ≤ n ∨ 4 ≤ c then St.BAD_PARAM else if (a.outlet n).st.live then St.OK else St.NO_SESSION) ∧ (n < 8 →
    c < 4 → (a.outlet n).st.live = true → (u.outlet n).class_ = c)) ∧
  (∀ (s : State) (x : Ctx) (n : Nat), let b := s.advance x.t; let a := b.start x; b.takes x Op.SESSION_QUERY n =
    true → n < 8 → exec (.sessionQuery x n) s = .next (a.complete x St.OK (a.rd R.OUT_STAT_SESSION_ID n +
    2 ^ 32 * (a.outlet n).st.code + 2 ^ 40 * a.rd R.OUT_STAT_END_REASON n +
    2 ^ 48 * a.rd R.OUT_ALLOC_STAT_ALLOC_W n))) ∧
  (∀ (s : State) (x : Ctx) (n : Nat) (c : HeldCard), let b := s.advance x.t; let a := b.start x;
    b.takes x Op.OUT_SELECT n = true → n < 8 → a.out.card = some c → a.sourceOn n c.ident = true →
    a.unauthorised.contains n = false → ∃ u, exec (.outSelect x n) s = .next u ∧ u.answer x = some St.OK ∧
    u.out.card = some { c with for_ := some n }) ∧
  (∀ (s : State) (x : Ctx) (n : Nat), let b := s.advance x.t; let a := b.start x; b.takes x Op.OUT_SELECT n = true →
    a.out.card = none → ∃ u, exec (.outSelect x n) s = .next u ∧ u.answer x = some St.NO_SESSION) ∧
  (∀ (s : State) (x : Ctx) (n : Nat), let b := s.advance x.t; let a := b.start x; b.takes x Op.OUT_CONTACTOR n =
    true → b.heldBy 16 (.contactor n false) = none → b.actDisabled (some (.contactor n false)) = false → n < 8 →
    a.hostControlled n = true → exec (.outContactor x n false) s =
    .next ((((a.dropClose n).openOutlet n 0).complete x St.OK).settleDestroys)) ∧
  (∀ (s : State) (x : Ctx) (n : Nat), let b := s.advance x.t; let a := b.start x; b.takes x Op.OUT_CONTACTOR n =
    true → b.heldBy 16 (.contactor n true) = none → b.actDisabled (some (.contactor n true)) = false → n < 8 →
    a.hostControlled n = true → a.closed n = false → exec (.outContactor x n true) s =
    .next (((a.testSensor n).modOutlet n fun o => { o with hostClose := o.hostClose ++ [x] }).settleDestroys)) ∧
  (∀ (s : State) (n : Nat) (x : Ctx), (s.outlet n).hostClose = [x] → (s.os n).testing = false → s.hostCloses n =
    (let b := s.modOutlet n fun o => { o with hostClose := [] }; match b.consentReason n true with | some r => (b.raise Ev.CONSENT_REFUSED n [n, r]).complete x St.CONSENT_REFUSED | none => (b.applyClose n false).1.complete x (if (b.applyClose n false).2 then St.CONSENT_REFUSED else St.OK))) ∧
  (∀ (s : State) (x : Ctx) (n : Nat), let b := s.advance x.t; let a := b.start x; b.takes x Op.OUT_CONTACTOR n =
    true → b.heldBy 16 (.contactor n true) = none → b.actDisabled (some (.contactor n true)) = false → n < 8 →
    a.hostControlled n = true → a.closed n = true → ∃ u, exec (.outContactor x n true) s = .next u ∧ u.answer x =
    some St.OK) ∧
  (∀ (s : State) (x : Ctx) (n : Nat) (c : Bool), let b := s.advance x.t; let a := b.start x;
    b.takes x Op.OUT_CONTACTOR n = true → b.heldBy 16 (.contactor n c) = none →
    b.actDisabled (some (.contactor n c)) = false → n < 8 → a.hostControlled n = false → ∃ u,
    exec (.outContactor x n c) s = .next u ∧ u.answer x = some St.OUT_AUTO) ∧
  (∀ (s : State) (x : Ctx) (n d : Nat), let b := s.advance x.t; let a := b.start x; b.takes x Op.OUT_PILOT_DUTY n =
    true → b.heldBy 16 (.pilotDuty n d) = none → b.actDisabled (some (.pilotDuty n d)) = false → n < 8 → d = 50 ∨
    100 ≤ d ∧ d ≤ 960 ∨ d = 0xFFFF ∨ d = 0xFFFE → a.hostControlled n = true → a.refusedNow (.pilotDuty n d) = none →
    exec (.outPilotDuty x n d) s = .next (((a.offer n (State.dutyOut d)).complete x St.OK).settleDestroys)) ∧
  (∀ (s : State) (x : Ctx) (n m v c w : Nat), let b := s.advance x.t; let a := b.start x;
    b.takes x Op.OUT_PM_SETPOINT n = true → b.heldBy 16 (.pmSetpoint n m v c w) = none →
    b.actDisabled (some (.pmSetpoint n m v c w)) = false → n < 8 → m < 4 → v < 65536 → c < 65536 → w < 65536 → m =
    2 → a.flag R.OUT_CFG_BIDIR n = true → a.hostControlled n = true → a.refusedNow (.pmSetpoint n m v c w) = none →
    exec (.outPmSetpoint x n m v c w) s = .next (((a.stageSet n ⟨m, v, c, w⟩).complete x St.OK).settleDestroys)) ∧
  (∀ (s : State) (x : Ctx) (n : Nat) (d : List Byte), let b := s.advance x.t; let a := b.start x;
    b.takes x Op.OUT_CERT_RESPONSE n = true → n < 8 → (a.outlet n).certAsked = true → ∃ u,
    exec (.outCertResponse x n true d) s = .next u ∧ u.answer x = some St.OK ∧ (u.outlet n).certAsked = false ∧
    (u.outlet n).certForwarded = Config.hash (d.map (·.toNat)))

/-- Joint matching of vehicles over the eight pilots. A parameter request, the sounding window and its sounds, the
joint resolution, validation, a match request and the time-outs. Where a clause rests on a choice of the model, it
is that of log entries 7, 55, 78, 79, 81, 145, 197, 219, 227 and 244, and no rule is cited for it. (R105, R106,
R107, R108, R109, R110, R111) -/
def Obligations.SlacEvents : Prop :=
  (∀ (s : State) (t k : Nat) (p : List Nat), let a := s.advance t; a.up = true → a.slacRun k = none →
    p.filter a.slacTakesPart ≠ [] → ∃ u, exec (.slacParmReq t k p) s = .next u ∧ (u.slacRun k).map (·.pilots) =
    some (p.filter a.slacTakesPart) ∧ (u.slacRun k).map (·.windowEnd) = some none) ∧
  (∀ (s : State) (t k : Nat) (r : SlacRun), let a := s.advance t; a.up = true → a.slacRun k = some r → r.windowEnd =
    none → r.holders = [] → ∃ u, exec (.startAttenChar t k) s = .next u ∧ u.slacRun k =
    some { r with windowEnd := some (a.mtb + 600 * 10 ^ 6) }) ∧
  (∀ (s : State) (t k w p : Nat) (g : List Nat) (r : SlacRun), let a := s.advance t; a.up = true → a.slacRun k =
    some r → r.windowEnd = some w → a.mtb ≤ w → ∃ u, exec (.mnbcSound t k [(p, g)]) s = .next u ∧
    (u.slacRun k).map (fun (q : SlacRun) => q.heard.get (0, 0) p) = some ((r.heard.get (0, 0) p).1 +
    1, (r.heard.get (0, 0) p).2 + g.sum)) ∧
  (∀ (s : State) (t : Nat), let a := s.advance t; a.up = true → exec (.slacWindowClose t) s = .next (a.slacClose)) ∧
  (∀ (s : State) (r : SlacRun) (l : List Nat) (p q : Nat) (z : List Nat),
    (State.slacHeard r).filter (fun j => !l.contains j) = p :: q :: z → s.slacTakesPart p = true →
    10 * s.rd R.OUT_POLICY_SLAC_MARGIN_DB ≤ State.slacMean r q - State.slacMean r p → s.slacResolve r l =
    .assigned p (State.slacMean r q - State.slacMean r p)) ∧
  (∀ (s : State) (r : SlacRun) (l : List Nat), (State.slacHeard r).filter (fun j => !l.contains j) = [] →
    s.slacResolve r l = .nobody) ∧
  (∀ (s : State) (t k n : Nat) (r : SlacRun), let a := s.advance t; a.up = true → a.slacRun k = some r → r.amb =
    true → 1 ≤ n → n ≤ 3 → ∃ u, exec (.slacValidate t k n []) s = .next u ∧ (u.slacRun k).map (·.announced) =
    some (some n)) ∧
  (∀ (s : State) (t k p : Nat) (r : SlacRun), let a := s.advance t; a.up = true → a.slacRun k = some r →
    State.slacMatched r = some p → a.slacTakesPart p = true → a.drbgOk = true → ∃ u, exec (.slacMatchReq t k p) s =
    .next u ∧ (u.outlet p).st = .negotiating ∧ (u.outlet p).hlcRunning = true ∧ (u.outlet p).nmk =
    (a.drbgNext 128).1 ∧ u.slacRun k = none) ∧
  (∀ (s : State) (t k : Nat) (r : SlacRun), let a := s.advance t; a.up = true → a.slacRun k = some r → r.holders ≠
    [] → exec (.slacMatchTimeout t k) s =
    .next (r.holders.foldl (fun (b : State) p => b.slacFail p) (a.dropSlac k))) ∧
  (∀ (s : State) (t n d : Nat), let a := s.advance t; a.up = true → (a.outlet n).slacRetryDue = some d → d ≤ a.mtb →
    (a.outlet n).st = .connected → exec (.slacInitTimeout t n) s = .next (a.slacFail n)) ∧
  (∀ (s : State) (n : Nat), (s.outlet n).slacFails < 2 → ((s.slacFail n).outlet n).slacFails =
    (s.outlet n).slacFails + 1 ∧ ((s.slacFail n).outlet n).slacRetryDue = some (s.mtb + 50 * 10 ^ 9))

/-- Overloads, lost bit streams and the auxiliary scanner. An overload, a bit stream that stops and returns, a
sequence that falls due, a conversion that ends, and the commands of the front end with the statuses that turn
them away. A value of a conversion beyond 32 bits is a free value. Where a clause rests on a choice of the model,
it is that of log entries 1, 27, 72, 73, 74, 75 and 239, and no rule is cited for it. (R180, R187, R193, R194,
R195, R196, R199, R200, R203, R204, R205, R206) -/
def Obligations.FrontEndAndScanner : Prop :=
  (∀ (s : State) (t c : Nat), let a := s.advance t; a.core = true → c < 64 → a.afeEn c = true →
    a.afe.ovlEvAt1.get 0 c = 0 → ∃ u, exec (.chOverload t c) s = .next u ∧ u.rd R.AFE_CH_STAT_OVL_NOW c = 1 ∧
    u.rd R.AFE_CH_STAT_OVL_CNT c = satAdd R.AFE_CH_STAT_OVL_CNT.w (a.rd R.AFE_CH_STAT_OVL_CNT c) 1 ∧ u.told =
    some (Ev.AFE_OVERLOAD, c, [c, a.afe.ovlSince.get 0 c + 1, if a.afe.ovlSince.get 0 c = 0 then a.mtb else
    a.afe.ovlFirst.get 0 c])) ∧
  (∀ (s : State) (t c : Nat), let a := s.advance t; a.core = true → 48 ≤ c → c < 64 → a.afeEn c = true →
    a.flag R.AFE_CH_STAT_LOST c = false → ∃ u, exec (.mbsLost t c) s = .next u ∧ u.rd R.AFE_CH_STAT_LOST c = 1 ∧
    u.rd R.AFE_CH_STAT_PRESENT c = 0) ∧
  (∀ (s : State) (t c : Nat), let a := s.advance t; a.core = true → 48 ≤ c → c < 64 → a.flag R.AFE_CH_STAT_LOST c =
    true → ∃ u, exec (.mbsRestored t c) s = .next u ∧ u.rd R.AFE_CH_STAT_LOST c = 0 ∧ u.rd R.AFE_CH_STAT_PRESENT c =
    b2n (a.afeEn c && !a.flag R.FILT_STAT_SETTLING c)) ∧
  (∀ (s : State) (t q : Nat), let a := s.advance t; a.up = true → q < 4 → a.flag R.AFE_SEQ_CTL_EN q = true →
    a.afe.dueMet1.get 0 q ≤
    a.mtb / max 1 (1000 * a.rd R.AFE_SEQ_CTL_PERIOD_US q) * (1000 * a.rd R.AFE_SEQ_CTL_PERIOD_US q) →
    bit a.afe.pend q = true → ∃ u, exec (.auxSeqDue t q) s = .next u ∧ u.rd R.AFE_SCAN_STAT_LATE_CNT =
    satAdd R.AFE_SCAN_STAT_LATE_CNT.w (a.rd R.AFE_SCAN_STAT_LATE_CNT) 1 ∧ u.told =
    some (Ev.AFE_SEQ_LATE, 0, [q, (a.mtb - a.afe.dueAt.get 0 q) / 1000])) ∧
  (∀ (s : State) (t q : Nat), let a := s.advance t; a.up = true → q < 4 → a.flag R.AFE_SEQ_CTL_EN q = true →
    a.afe.dueMet1.get 0 q ≤
    a.mtb / max 1 (1000 * a.rd R.AFE_SEQ_CTL_PERIOD_US q) * (1000 * a.rd R.AFE_SEQ_CTL_PERIOD_US q) →
    bit a.afe.pend q = false → exec (.auxSeqDue t q) s =
    .next (({ a with afe := { a.afe with pend := setBit a.afe.pend q, dueAt := a.afe.dueAt.put 0 q (a.mtb / max 1 (1000 * a.rd R.AFE_SEQ_CTL_PERIOD_US q) * (1000 * a.rd R.AFE_SEQ_CTL_PERIOD_US q)), dueMet1 := a.afe.dueMet1.put 0 q (a.mtb / max 1 (1000 * a.rd R.AFE_SEQ_CTL_PERIOD_US q) * (1000 * a.rd R.AFE_SEQ_CTL_PERIOD_US q) + 1) } } : State).startPass (a.rd R.AFE_SEQ_CTL_CONV q))) ∧
  (∀ (s : State) (t q : Nat), let a := s.advance t; a.up = true → a.flag R.AFE_SEQ_CTL_EN q = false ∨
    a.mtb / max 1 (1000 * a.rd R.AFE_SEQ_CTL_PERIOD_US q) * (1000 * a.rd R.AFE_SEQ_CTL_PERIOD_US q) <
    a.afe.dueMet1.get 0 q → exec (.auxSeqDue t q) s = .next (a)) ∧
  (∀ (s : State) (t : Nat) (v : List Int) (w : Bool) (r : AuxRun), let a := s.advance t; a.up = true →
    a.afe.run.get none 0 = some r → r.at_ + a.entryTime r ≤ a.mtb → r.entry + 1 < a.rd R.AFE_SEQ_CTL_LEN r.seq →
    exec (.auxConversionDone t 0 v w) s =
    .next (((a.auxConvert (a.rd R.AFE_SEQ_ENT_INPUT (State.entIx r.seq r.entry)) 0 (v.take (2 ^ a.rd R.AFE_SEQ_ENT_AVG_LOG2 (State.entIx r.seq r.entry))) w r.fixedT r.lost).2.noteFast r (a.rd R.AFE_SEQ_ENT_INPUT (State.entIx r.seq r.entry))).startEntry r.seq (r.entry +
    1))) ∧
  (∀ (s : State) (t n : Nat) (v : List Int) (w : Bool) (r : AuxRun), let a := s.advance t; a.up = true →
    a.auxDecide.afe.run.get none 1 = some r → r.len = some n → r.at_ +
    50000 * a.auxDecide.rd R.AFE_SEQ_ENT_SETTLE (State.entIx r.seq r.entry) + n ≤ a.mtb →
    a.rd R.AFE_SEQ_CTL_CONV r.seq = 1 → a.rd R.AFE_SEQ_CTL_LEN r.seq ≤ r.entry + 1 → ∃ u,
    exec (.auxConversionDone t 1 v w) s = .next u ∧
    u.rdInt R.AFE_AUX_RES_CODE (a.rd R.AFE_SEQ_ENT_INPUT (State.entIx r.seq r.entry)) =
    State.clampCode (v.headD 0) ∧
    u.flag R.AFE_AUX_RES_FIXED_T (a.rd R.AFE_SEQ_ENT_INPUT (State.entIx r.seq r.entry)) = r.fixedT ∧
    u.flag R.AFE_AUX_RES_TRACK_LOST (a.rd R.AFE_SEQ_ENT_INPUT (State.entIx r.seq r.entry)) = r.lost) ∧
  (∀ (s : State) (i k : Nat) (v : List Int) (w f l : Bool), i < 64 → k < 2 →
    (s.auxConvert i k v w f l).2.rdInt R.AFE_AUX_RES_CODE i = State.auxCode k v ∧
    (s.auxConvert i k v w f l).2.flag R.AFE_AUX_RES_OVR i = s.auxOver i k v w) ∧
  (∀ (v : List Int), v ≠ [] → State.auxCode 0 v =
    State.clampCode (idivRound (256 * sumInt (v.map code12)) v.length) ∧ State.auxCode 1 v =
    State.clampCode (idivRound (sumInt v) v.length)) ∧
  (∀ (s : State) (i k : Nat) (z : Int), k = 0 → -2147483648 ≤
    idivRound ((z - s.rdInt R.AFE_AUX_CAL_Z_P i) * dec 32 (s.rd R.AFE_AUX_CAL_G_P i)) (2 ^ 24) +
    dec 32 (s.rd R.AFE_AUX_CAL_Y0_P i) →
    idivRound ((z - s.rdInt R.AFE_AUX_CAL_Z_P i) * dec 32 (s.rd R.AFE_AUX_CAL_G_P i)) (2 ^ 24) +
    dec 32 (s.rd R.AFE_AUX_CAL_Y0_P i) ≤ 2147483647 → s.auxValue i k z =
    (enc 32 (idivRound ((z - s.rdInt R.AFE_AUX_CAL_Z_P i) * dec 32 (s.rd R.AFE_AUX_CAL_G_P i)) (2 ^ 24) +
    dec 32 (s.rd R.AFE_AUX_CAL_Y0_P i)), s)) ∧
  (∀ (s : State) (x : Ctx) (q c : Nat) (e : List Nat), let b := s.advance x.t; let a := b.start x;
    b.takes x Op.AFE_SEQ_LOAD q = true → a.seqBad q c e = none → a.passRuns q = false →
    exec (.afeSeqLoad x q c e) s = .next ((((a.loadSeq q c e).auxSlowNote a).complete x St.OK).settleDestroys)) ∧
  (∀ (s : State) (x : Ctx) (q c r : Nat) (e : List Nat), let b := s.advance x.t; let a := b.start x;
    b.takes x Op.AFE_SEQ_LOAD q = true → a.seqBad q c e = some r → r ≠ St.ACCEPTED → ∃ u,
    exec (.afeSeqLoad x q c e) s = .next u ∧ u.answer x = some r) ∧
  (∀ (s : State) (x : Ctx) (q : Nat), let b := s.advance x.t; let a := b.start x; b.takes x Op.AFE_SEQ_EN q = true →
    q < 4 → ∃ u, exec (.afeSeqEn x q 1) s = .next u ∧ u.answer x = some St.OK ∧ u.flag R.AFE_SEQ_CTL_EN q = true) ∧
  (∀ (s : State) (x : Ctx) (q : Nat), let b := s.advance x.t; let a := b.start x; b.takes x Op.AFE_SEQ_EN q = true →
    q < 4 → a.passRuns q = false → ∃ u, exec (.afeSeqEn x q 0) s = .next u ∧ u.answer x = some St.OK ∧
    u.flag R.AFE_SEQ_CTL_EN q = false ∧ bit u.afe.pend q = false) ∧
  (∀ (s : State) (x : Ctx) (i k st n : Nat) (v : List Int) (w : Bool), let b := s.advance x.t; let a := b.start x;
    b.takes x Op.AFE_AUX_ONESHOT i = true → i < 64 → k < 2 → 1 ≤ st → st ≤ 255 → n ≤ 8 → a.pairBad i = false →
    exec (.afeAuxOneshot x i k st n v w) s = .next ((((a.auxConvert i k (v.take (if k = 0 then 2 ^ n else
    1)) w (k == 1 && a.insertedTime.2) false).2.insertDelay k (if k = 0 then 500 * st + 50 * (2 ^ n + 10) else
    50000 * st + a.insertedTime.1)).complete x St.OK ((a.auxConvert i k (v.take (if k = 0 then 2 ^ n else
    1)) w (k == 1 && a.insertedTime.2) false).1 + 2 ^ 32 * enc 32 (State.auxCode k (v.take (if k = 0 then 2 ^ n else
    1))) + 2 ^ 64 * (b2n (a.auxOver i k (v.take (if k = 0 then 2 ^ n else 1)) w) +
    2 * b2n (k == 1 && a.insertedTime.2) + 8 * k))).settleDestroys)) ∧
  (∀ (s : State) (x : Ctx) (i k st n : Nat) (v : List Int) (w : Bool), let b := s.advance x.t; let a := b.start x;
    b.takes x Op.AFE_AUX_ONESHOT i = true → i < 64 → k < 2 → 1 ≤ st → st ≤ 255 → n ≤ 8 → i % 2 = 1 →
    a.flag R.AFE_AUX_IN_DIFF (i - 1) = true → a.flag R.AFE_AUX_IN_EN (i - 1) = true →
    exec (.afeAuxOneshot x i k st n v w) s = .next (a.complete x St.BAD_PAIR)) ∧
  (∀ (s : State) (x : Ctx) (i k : Nat) (y : Int) (v : List Int) (w : Bool), let b := s.advance x.t;
    let a := b.start x; b.takes x Op.AFE_CAL_ZERO i = true → i < 64 → k < 2 → a.pairBad i = false →
    a.auxOver i k (v.take (if k = 0 then 256 else 16)) w = false → ∃ u, exec (.afeCalZero x i k y v w) s = .next u ∧
    u.answer x = some St.OK ∧ u.afe.zeros.get ⟨0, 0, 0⟩ (2 * i + k) = ⟨a.mtb + 1, State.auxCode k (v.take (if k =
    0 then 256 else 16)), y⟩) ∧
  (∀ (s : State) (x : Ctx) (i k : Nat) (y : Int) (v : List Int) (w : Bool), let b := s.advance x.t;
    let a := b.start x; b.takes x Op.AFE_CAL_SPAN i = true → i < 64 → k < 2 → a.pairBad i = false →
    (a.afe.zeros.get ⟨0, 0, 0⟩ (2 * i + k)).at1 = 0 → exec (.afeCalSpan x i k y v w) s =
    .next (a.complete x St.CAL_ORDER)) ∧
  (∀ (s : State) (x : Ctx) (i : Nat) (y : Int) (v : List Int) (w : Bool) (q : CalZero), let b := s.advance x.t;
    let a := b.start x; b.takes x Op.AFE_CAL_SPAN i = true → i < 64 → a.pairBad i = false →
    a.afe.zeros.get ⟨0, 0, 0⟩ (2 * i) = q → q.at1 ≠ 0 → a.mtb + 1 ≤ q.at1 + 600 * 10 ^ 9 →
    a.auxOver i 0 (v.take 256) w = false → 65536 ≤ State.auxCode 0 (v.take 256) - q.code → -2147483648 ≤
    idivRound ((y - q.y0) * 2 ^ 24) (State.auxCode 0 (v.take 256) - q.code).natAbs →
    idivRound ((y - q.y0) * 2 ^ 24) (State.auxCode 0 (v.take 256) - q.code).natAbs ≤ 2147483647 → ∃ u,
    exec (.afeCalSpan x i 0 y v w) s = .next u ∧ u.answer x = some St.OK ∧ u.rdInt R.AFE_AUX_CAL_G_P i =
    idivRound ((y - q.y0) * 2 ^ 24) (State.auxCode 0 (v.take 256) - q.code).natAbs ∧ u.rdInt R.AFE_AUX_CAL_Z_P i =
    q.code ∧ u.flag R.AFE_AUX_CAL_CAL_P i = true) ∧
  (∀ (s : State) (x : Ctx) (i : Nat), let b := s.advance x.t; let a := b.start x; b.takes x Op.AFE_CAL_RESTORE i =
    true → i < 64 → ∃ u, exec (.afeCalRestore x i 1) s = .next u ∧ u.answer x = some St.OK ∧
    u.rd R.AFE_AUX_CAL_G_C i = R.AFE_AUX_CAL_G_C.reset i ∧ u.rd R.AFE_AUX_CAL_Z_C i = R.AFE_AUX_CAL_Z_C.reset i) ∧
  (∀ (s : State) (x : Ctx) (p f n : Nat), let b := s.advance x.t; let a := b.start x; b.takes x Op.AFE_CAPTURE 0 =
    true → p < 11 → f = 1 ∨ f = 3 → (a.cap p).on = false → ∃ u, exec (.afeCapture x (2 ^ p) f n) s = .next u ∧
    u.answer x = some St.OK ∧ u.cap p = ⟨true, f, n, n == 0⟩ ∧ u.flag R.AFE_PADC_CAPTURE p = true ∧
    u.flag R.AFE_PADC_EN p = true) ∧
  (∀ (s : State) (x : Ctx) (p : Nat) (l : List (Nat × Nat × List (List Int))), let b := s.advance x.t;
    let a := b.start x; b.takes x Op.AFE_CAPTURE_STOP 0 = true → p < 11 → (a.cap p).on = true → ∃ u,
    exec (.afeCaptureStop x (2 ^ p) l) s = .next u ∧ u.answer x = some St.OK ∧ (u.cap p).on = false ∧
    u.flag R.AFE_PADC_CAPTURE p = false ∧ u.flag R.AFE_PADC_EN p = a.padcWanted p)

/-- Channel B's cycle, the watchdogs and the self-test. A cycle of channel B, the check of HSL_TABLE, the two
watchdogs, a discrepancy and the end of the self-test. A module fault that is not active yet raises SAFE_TRIP for
every outlet. Where a clause rests on a choice of the model, it is that of log entries 50, 62, 63, 68, 69, 191,
235 and 237, and no rule is cited for it. (R131, R135, R136, R137, R138, R139, R145, R170, R171) -/
def Obligations.SafetyChannelEvents : Prop :=
  (∀ (s : State) (t m : Nat) (l : List Int), let a := s.advance t; a.core = true → a.safe.cycleAt + 970000 ≤ a.mtb →
    exec (.hslCycle t l m) s =
    .next (((List.range 16).foldl (fun (b : State) k => b.followHigh k) ((List.range 8).foldl (fun (b : State) n => b.pilotB n (l.getD n 0)) ((List.range 8).foldl (fun (b : State) n => if b.rd R.SAFE_OUT_PROT_RCM_SRC n = 0xF then b else b.rcmUpdate n true) (({ a with safe := { a.safe with bCycles := a.safe.bCycles + 1, cycleAt := a.mtb } } : State).sampleMirrors m)))).formBeat)) ∧
  (∀ (s : State) (t m : Nat) (l : List Int), let a := s.advance t; a.core = true → a.mtb < a.safe.cycleAt + 970000 →
    exec (.hslCycle t l m) s = .next (a)) ∧
  (∀ (s : State) (n : Nat), n < 8 → s.formBeat.safe.beat.cycle = s.safe.bCycles % 2 ^ 32 ∧
    bit s.formBeat.safe.beat.permit n = s.lowAllowed n ∧ s.formBeat.safe.beat.causes.getD n 0 = s.tripCause n ∧
    s.formBeat.safe.beat.crc = crc16 (State.beatBytes s.formBeat.safe.beat)) ∧
  (∀ (s : State) (m k : Nat), k < 16 → ((s.sampleMirrors m).coil k).mirrorOpen =
    (bit m k == s.flag R.SAFE_COIL_CFG_MIRROR_POL k) ∧ ((s.sampleMirrors m).coil k).hs = (s.coil k).hs) ∧
  (∀ (s : State) (k : Nat), (s.coil k).hs = false → (s.coil k).phase ≠ .hsTest → (s.coil k).stuckLs = false →
    ((s.followHigh k).coil k).ls = false) ∧
  (∀ (s : State) (n : Nat) (l : Int) (p : Pilot), s.outType n ≠ 0 → s.drivenF n = false → pilotOf l = some p → p ≠
    .a → (s.os n).candB = some p → p ≠ (s.os n).pilotB → 150 ≤ l → 1 ≤ s.safe.pilotFiltB →
    ((s.pilotB n l).os n).agreeB = (s.os n).agreeB + 1 ∧ ((s.pilotB n l).os n).pilotB = (if s.safe.pilotFiltB ≤
    (s.os n).agreeB + 1 then p else (s.os n).pilotB)) ∧
  (∀ (s : State) (t : Nat), let a := s.advance t; a.core = true → a.safe.tableAt + 97 * 10 ^ 6 ≤ a.mtb →
    a.safe.hashOk = true → exec (.hslTableCheck t true) s =
    .next (((({ a with safe := { a.safe with tableOk := true, tableAt := a.mtb } } : State).setFlag R.SAFE_STATUS_TABLE_OK 0 true).refreshSafeOk))) ∧
  (∀ (s : State) (t : Nat) (c : Bool), let a := s.advance t; a.core = true → a.safe.tableAt + 97 * 10 ^ 6 ≤ a.mtb →
    c = false ∨ a.safe.hashOk = false → bit a.safe.modActive fTABLE_FAIL = false → ∃ u,
    exec (.hslTableCheck t c) s = .next u ∧ u.told =
    some (Ev.SAFE_TRIP, 0xFF, [fTABLE_FAIL, 0xFF, 1, a.mtb, a.mtb]) ∧ u.safe.tableOk = false ∧
    u.flag R.SAFE_STATUS_TABLE_OK = false) ∧
  (∀ (s : State) (t : Nat) (c : Bool), let a := s.advance t; a.core = true → a.mtb < a.safe.tableAt + 97 * 10 ^ 6 →
    exec (.hslTableCheck t c) s = .next (a)) ∧
  (∀ (s : State) (t : Nat), let a := s.advance t; a.core = true → a.safe.aliveAt + 9700000 ≤ a.mtb →
    bit a.safe.modActive fA_LOST = false → ∃ u, exec (.hslWatchdogExpiry t) s = .next u ∧ u.told =
    some (Ev.SAFE_TRIP, 0xFF, [fA_LOST, 0xFF, 1, a.safe.aliveAt, a.mtb]) ∧ u.flag R.SAFE_STATUS_B_RUN = false ∧
    u.flag R.SAFE_STATUS_SAFE_OK = false) ∧
  (∀ (s : State) (t : Nat) (z : Beat), let a := s.advance t; a.core = true → z.crc = crc16 (State.beatBytes z) →
    ∃ u, exec (.bHeartbeat t z) s = .next u ∧ u.safe.heartbeatAt = a.mtb ∧ u.safe.beatIn = some z ∧
    u.flag R.SAFE_STATUS_A_RUN = true) ∧
  (∀ (s : State) (t : Nat) (z : Beat), let a := s.advance t; a.core = true → z.crc ≠ crc16 (State.beatBytes z) →
    exec (.bHeartbeat t z) s = .next (a)) ∧
  (∀ (s : State) (t : Nat), let a := s.advance t; a.core = true → a.safe.heartbeatAt + 10 * 10 ^ 6 ≤ a.mtb →
    bit a.safe.modActive fB_LOST = false → ∃ u, exec (.bHeartbeatLoss t) s = .next u ∧ u.told =
    some (Ev.SAFE_TRIP, 0xFF, [fB_LOST, 0xFF, 0, a.safe.heartbeatAt, a.mtb]) ∧ u.flag R.SAFE_STATUS_A_RUN = false) ∧
  (∀ (s : State) (t c n h i d : Nat) (r : Int), let a := s.advance t; a.core = true → a.trippedAt c n h = some d →
    State.opposes c r = true → max d i + 100 * 10 ^ 6 ≤ a.mtb → bit a.safe.modActive fCH_DISC = false → ∃ u,
    exec (.channelDiscrepancy t c n h r i) s = .next u ∧ u.told =
    some (Ev.SAFE_TRIP, 0xFF, [fCH_DISC, 0xFF, h, max d i, a.mtb]) ∧ u.safe.disc = some (c, n)) ∧
  (∀ (s : State) (t c n h i : Nat) (r : Int), let a := s.advance t; a.core = true → a.trippedAt c n h = none ∨
    State.opposes c r = false → exec (.channelDiscrepancy t c n h r i) s = .next (a)) ∧
  (∀ (s : State) (t : Nat), let a := s.advance t; a.up = true → a.safe.steps123 = true → a.safe.estopChecked = 3 →
    (List.range 8).all (fun n => a.outType n == 0 || a.rd R.SAFE_OUT_PROT_RCM_SRC n == 0xF || bit a.safe.tested n) =
    true → exec (.safetySelftestDone t) s = .next ((a.setFlag R.SAFE_STATUS_SELFTEST_OK 0 true).refreshSafeOk)) ∧
  (∀ (s : State) (c h i : Nat), c < 23 → bit s.safe.modActive c = false →
    bit (s.moduleTrip c h i).safe.modActive c = true ∧ bit (s.moduleTrip c h i).safe.modLatched c = true ∧
    (List.range 8).all (fun n => (s.outType n == 0) || ((s.moduleTrip c h i).outlet n).out == .stateF) = true)

/-- Emergency stop, safety inputs, insulation and RESET_SAFE. The E-stop inputs, a SAFE_IN input, results of the
insulation monitor, a cable check that times out, the end of a safe state and RESET_SAFE; a low level of
RESET_SAFE below 20 ms has no effect. Where a clause rests on a choice of the model, it is that of log entries 64,
67, 68, 232 and 236, and no rule is cited for it. (R154, R155, R156, R162, R163, R164, R169, R172) -/
def Obligations.EstopAndInputEvents : Prop :=
  (∀ (s : State) (t : Nat) (b : Bool), let a := s.advance t; a.core = true → (if b then a.safe.pulseAt.2 else
    a.safe.pulseAt.1) = 0 ∨ (if b then a.safe.pulseAt.2 else a.safe.pulseAt.1) + 97 * 10 ^ 6 ≤ a.mtb →
    exec (.estopSourcePulse t b true false) s =
    .next ({ a with safe := { a.safe with pulseAt := if b then (a.safe.pulseAt.1, a.mtb) else (a.mtb, a.safe.pulseAt.2), estopChecked := setBit a.safe.estopChecked (b2n b) } })) ∧
  (∀ (s : State) (t : Nat) (b o p : Bool), let a := s.advance t; a.core = true → (if b then a.safe.pulseAt.2 else
    a.safe.pulseAt.1) = 0 ∨ (if b then a.safe.pulseAt.2 else a.safe.pulseAt.1) + 97 * 10 ^ 6 ≤ a.mtb → (o && !p) =
    false → bit a.safe.modActive fESTOP_DISC = false → ∃ u, exec (.estopSourcePulse t b o p) s = .next u ∧ u.told =
    some (Ev.SAFE_TRIP, 0xFF, [fESTOP_DISC, 0xFF, 1, a.mtb, a.mtb]) ∧ bit u.safe.estopChecked (b2n b) = false) ∧
  (∀ (s : State) (t w : Nat) (b : Bool), let a := s.advance t; a.core = true → 2500 ≤ w →
    bit a.safe.modActive fESTOP = false → ∃ u, exec (.estopOpen t b w) s = .next u ∧ u.told =
    some (Ev.SAFE_TRIP, 0xFF, [fESTOP, 0xFF, 1, a.mtb, a.mtb]) ∧ (if b then u.safe.estopBOpen else
    u.safe.estopAOpen) = true) ∧
  (∀ (s : State) (t w : Nat) (b : Bool), let a := s.advance t; a.core = true → w < 2500 →
    exec (.estopOpen t b w) s = .next (a)) ∧
  (∀ (s : State) (t : Nat), let a := s.advance t; a.core = true → a.safe.estopAOpen ≠ a.safe.estopBOpen →
    a.safe.estopAt + 50 * 10 ^ 6 ≤ a.mtb → bit a.safe.modActive fESTOP_DISC = false → ∃ u, exec (.estopDisc t) s =
    .next u ∧ u.told = some (Ev.SAFE_TRIP, 0xFF, [fESTOP_DISC, 0xFF, 1, a.safe.estopAt, a.mtb])) ∧
  (∀ (s : State) (t m w : Nat) (b : Bool), let a := s.advance t; a.core = true → 8 ≤ m ∨ w <
    a.rd R.SAFE_IN_CFG_FILT_MS m → exec (.safeInChange t m b w) s = .next (a)) ∧
  (∀ (s : State) (t m w : Nat) (b : Bool), let a := s.advance t; a.core = true → m < 8 →
    a.rd R.SAFE_IN_CFG_FILT_MS m ≤ w → exec (.safeInChange t m b w) s = .next (a.safeInLevel m b)) ∧
  (∀ (s : State) (t m w : Nat) (b : Bool), let a := s.advance t; a.core = true → m < 8 →
    a.rd R.SAFE_IN_CFG_FILT_MS m ≤ w → a.flag R.SAFE_IN_CFG_EN m = true → a.rd R.SAFE_IN_CFG_ACTION m < 2 → b =
    a.flag R.SAFE_IN_CFG_POL m → a.inActive m = false → ∃ u, exec (.safeInChange t m b w) s = .next u ∧
    u.safe.safeSeen = setBit a.safe.safeSeen m ∧ u.inActive m = true ∧ u.told =
    some (Ev.SAFE_TRIP, m, [fSAFE_INPUT, a.rd R.SAFE_IN_CFG_OUTLETS m, 1, a.mtb, a.mtb])) ∧
  (∀ (s : State) (n m : Nat), n < 8 → m < 8 → s.flag R.SAFE_IN_CFG_EN m = true → s.rd R.SAFE_IN_CFG_ACTION m = 3 →
    bit (s.rd R.SAFE_IN_CFG_OUTLETS m) n = true → s.inActive m = false →
    bit ((s.safeInLevel m (s.flag R.SAFE_IN_CFG_POL m)).os n).active fSAFE_INPUT = true) ∧
  (∀ (s : State) (n m : Nat) (b : Bool), n < 8 → bit (s.os n).latched fSAFE_INPUT = false →
    (List.range 8).all (fun k => !(s.safeInLevel m b).inServes 3 n k || !(s.safeInLevel m b).inActive k) = true →
    bit ((s.safeInLevel m b).os n).active fSAFE_INPUT =
    (s.flag R.SAFE_IN_CFG_EN m && !s.inActive m && (s.safeInLevel m b).inActive m && s.rd R.SAFE_IN_CFG_ACTION m == 4 && bit (s.rd R.SAFE_IN_CFG_OUTLETS m) n)) ∧
  (∀ (s : State) (t k : Nat), let a := s.advance t; a.core = true → a.flag R.SAFE_IMD_EN = true →
    exec (.imdResult t k) s = .next (a.imdResult k)) ∧
  (∀ (s : State) (k : Nat), (s.imdResult k).rd R.SAFE_IMD_INS_KOHM = min k 10000 ∧
    (s.imdResult k).rd R.SAFE_IMD_RESULT =
    (if s.imdBelow (s.rd R.SAFE_IMD_OUTLET) (min k 10000) R.SAFE_IMD_FAULT_OHM_V then 2 else
    if s.imdBelow (s.rd R.SAFE_IMD_OUTLET) (min k 10000) R.SAFE_IMD_WARN_OHM_V then 1 else 0) ∧
    (s.imdResult k).safe.imdAt = some s.mtb) ∧
  (∀ (s : State) (t n c d : Nat), let a := s.advance t; a.up = true → (a.outlet n).cableCheck = some (c, d) → d ≤
    a.mtb → exec (.cableCheckTimeout t n) s = .next (a.cableFailed n)) ∧
  (∀ (s : State) (t n d : Nat), let a := s.advance t; a.up = true → (a.os n).safeSince = some d → d + 2 * 10 ^ 9 ≤
    a.mtb → (a.os n).latched = 0 → a.safe.modLatched = 0 → ∃ u, exec (.safeStatePilotEnd t n) s = .next u ∧
    (u.os n).safeSince = none ∧ (a.outType n ≠ 0 → ((u.outlet n).outStaged = some .plus12 ∨ (a.outlet n).out =
    .plus12))) ∧
  (∀ (s : State) (t l : Nat) (p q : Bool), let a := s.advance t; a.core = true → 20000 ≤ l →
    exec (.resetSafeEdge t l p q) s =
    .next (({ a with safe := { a.safe with estopAOpen := p, estopBOpen := q } } : State).resetSafe)) ∧
  (∀ (s : State) (t l : Nat) (p q : Bool), let a := s.advance t; a.core = true → l < 20000 →
    exec (.resetSafeEdge t l p q) s = .next (a)) ∧
  (∀ (s : State) (n : Nat), bit (s.os n).latched fSAFE_INPUT = true → s.outCause n fSAFE_INPUT = false →
    ((s.clearLatched n fSAFE_INPUT).os n).active = clearBit (s.os n).active fSAFE_INPUT ∧
    ((s.clearLatched n fSAFE_INPUT).os n).latched = clearBit (s.os n).latched fSAFE_INPUT) ∧
  (∀ (s : State) (c : Nat), bit s.safe.modLatched c = true → s.modCause c = true → s.clearModLatched c = s)

/-- What the SAFE commands do. SAFE_QUERY, SAFE_TEST_NOW, RCM_SELFTEST and IMD_MEASURE, with the statuses that turn
them away. Where a clause rests on a choice of the model, it is that of log entries 64 and 236, and no rule is
cited for it. (R151, R159, R162, R171) -/
def Obligations.SafetyCommands : Prop :=
  (∀ (s : State) (x : Ctx), let b := s.advance x.t; let a := b.start x; b.takes x Op.SAFE_QUERY 0 = true → ∃ u,
    exec (.safeQuery x) s = .next u ∧ u.answer x = some St.OK) ∧
  (∀ (s : State) (x : Ctx) (m k : Nat), let b := s.advance x.t; let a := b.start x; b.takes x Op.SAFE_TEST_NOW 0 =
    true → k < 16 → bit m k = true → (a.coil k).phase = .hold → ∃ u, exec (.safeTestNow x m) s = .next u ∧
    u.answer x = some St.OK ∧ (u.coil k).askHs = true ∧ (u.coil k).askLs = true) ∧
  (∀ (s : State) (x : Ctx) (m : Nat), let b := s.advance x.t; let a := b.start x; b.takes x Op.SAFE_TEST_NOW 0 =
    true → (List.range 16).filter (fun k => bit m k && (a.coil k).phase == .hold) = [] → exec (.safeTestNow x m) s =
    .next (a.complete x St.OK)) ∧
  (∀ (s : State) (x : Ctx) (n r : Nat) (o : Int), let b := s.advance x.t; let a := b.start x;
    b.takes x Op.RCM_SELFTEST n = true → n < 8 → a.rd R.SAFE_OUT_PROT_RCM_SRC n ≠ 0xF →
    exec (.rcmSelftest x n o r) s = .next ((if a.closed n then a.complete x St.COILS_CLOSED else
    (a.rcmSelfTest n o r).complete x St.OK (enc 16 o + 2 ^ 16 * trunc 16 r +
    2 ^ 32 * b2n ((a.rcmSelfTest n o r).os n).selfPass)).settleDestroys)) ∧
  (∀ (s : State) (x : Ctx) (n k : Nat), let b := s.advance x.t; let a := b.start x; b.takes x Op.IMD_MEASURE n =
    true → a.rd R.SAFE_IMD_OUTLET = n → a.flag R.SAFE_IMD_EN = true → exec (.imdMeasure x n k) s =
    .next (((a.imdResult k).complete x St.OK (min k 10000)).settleDestroys)) ∧
  (∀ (s : State) (x : Ctx) (n k : Nat), let b := s.advance x.t; let a := b.start x; b.takes x Op.IMD_MEASURE n =
    true → a.rd R.SAFE_IMD_OUTLET ≠ n ∨ a.flag R.SAFE_IMD_EN = false → exec (.imdMeasure x n k) s =
    .next (a.complete x St.IMD_NOT_HERE))

/-- Coil drivers, dark tests, welded contacts and residual current. Pull-in and hold, an open or short coil, the
welded-contact check, the shunt trip, a dark test with its outcomes; a residual-current reading, the outcome of a
self-test, a sensor out of range and the pre-warning. Where a clause rests on a choice of the model, it is that of
log entries 62, 66, 68, 70, 233 and 234, and no rule is cited for it. (R141, R142, R144, R147, R149, R150, R152,
R153, R157, R159, R188, R189) -/
def Obligations.CoilsAndResidualCurrent : Prop :=
  (∀ (s : State) (t k : Nat), let a := s.advance t; a.up = true → (a.coil k).waiting = true → (a.coil k).hs = true →
    a.underTest (a.rd R.SAFE_COIL_CFG_OUTLET k) = false → a.coilDraw + a.rd R.SAFE_COIL_CFG_PULLIN_MA k ≤ 40000 →
    ∃ u, exec (.coilPullinStart t k) s = .next u ∧ (u.coil k).phase = .pullIn ∧ (u.coil k).ls = true ∧
    (u.coil k).waiting = false ∧ (u.coil k).since = a.mtb) ∧
  (∀ (s : State) (t k : Nat), let a := s.advance t; a.up = true → 40000 < a.coilDraw +
    a.rd R.SAFE_COIL_CFG_PULLIN_MA k → exec (.coilPullinStart t k) s = .next (a)) ∧
  (∀ (s : State) (t k : Nat), let a := s.advance t; a.up = true → (a.coil k).phase = .pullIn → (a.coil k).since +
    10 ^ 6 * a.rd R.SAFE_COIL_CFG_PULLIN_MS k ≤ a.mtb → exec (.coilPullinEnd t k) s = .next (a.holdFrom k)) ∧
  (∀ (s : State) (t k i m : Nat), let a := s.advance t; a.up = true → (a.coil k).waiting = true → (a.coil k).hs =
    true → a.underTest (a.rd R.SAFE_COIL_CFG_OUTLET k) = false → a.coilDraw + a.rd R.SAFE_COIL_CFG_PULLIN_MA k ≤
    40000 → (a.coil k).owed = some (i, m) → ∃ u, exec (.coilPullinStart t k) s = .next u ∧ u.told =
    some (Ev.CASK_LATE, 0, [i, m, 12, a.mtb]) ∧ u.rd R.CASK_STAT_LATE =
    satAdd R.CASK_STAT_LATE.w (a.rd R.CASK_STAT_LATE) 1) ∧
  (∀ (s : State) (t k i w : Nat), let a := s.advance t; a.core = true → a.coilOn k = true → 10 * i <
    3 * a.rd R.SAFE_COIL_CFG_HOLD_MA k → 50 ≤ w → exec (.coilOpen t k i w) s =
    .next ((a.wr R.SAFE_COIL_STAT_I_MA k i).coilFault k fCOIL_OPEN 1)) ∧
  (∀ (s : State) (t k i w : Nat), let a := s.advance t; a.core = true → a.coilOn k = false ∨
    3 * a.rd R.SAFE_COIL_CFG_HOLD_MA k ≤ 10 * i ∨ w < 50 → exec (.coilOpen t k i w) s =
    .next (a.wr R.SAFE_COIL_STAT_I_MA k i)) ∧
  (∀ (s : State) (t k i : Nat), let a := s.advance t; a.core = true → 4000 < i → exec (.coilShort t k i) s =
    .next ((a.wr R.SAFE_COIL_STAT_I_MA k (min i 4095)).coilFault k fCOIL_SHORT 1)) ∧
  (∀ (s : State) (k c h : Nat), ((s.coilFault k c h).coil k).phase = .fault ∧ ((s.coilFault k c h).coil k).hs =
    ((s.coil k).hs && (s.coil k).stuckHs) ∧ ((s.coilFault k c h).coil k).ls = ((s.coil k).ls && (s.coil k).stuckLs)) ∧
  (∀ (s : State) (t n d : Nat), let a := s.advance t; a.core = true → (a.os n).openedAt = some d → d +
    10 ^ 7 * a.rd R.SAFE_CFG2_OPEN_CHECK ≤ a.mtb → a.closed n = false → exec (.weldCheck t n) s =
    .next (a.weldCheck n)) ∧
  (∀ (s : State) (n : Nat),
    ((s.coilsOf n).find? fun k => s.flag R.SAFE_COIL_CFG_MIRROR_EN k && !(s.coil k).mirrorOpen) = none →
    (s.os n).weldCnt < 3 → s.weldCheck n = s.modOs n fun o => { o with openedAt := none, weldCnt := 0 }) ∧
  (∀ (s : State) (t d : Nat), let a := s.advance t; a.core = true → a.safe.shuntSince = some d → d + 500 * 10 ^ 6 ≤
    a.mtb → ∃ u, exec (.shuntTripEnd t) s = .next u ∧ u.flag R.SAFE_STATUS_SHUNT = false ∧ u.safe.shuntSince = none) ∧
  (∀ (s : State) (t n d : Nat), let a := s.advance t; a.core = true → (a.os n).shuntDue = some d → d ≤ a.mtb →
    bit (a.os n).latched fWELD = true → a.flag R.SAFE_OUT_PROT_SHUNT_EN n = true → a.supplyPresent n = true → ∃ u,
    exec (.shuntTripRepeat t n) s = .next u ∧ u.flag R.SAFE_STATUS_SHUNT = true ∧ (u.os n).shuntDue = some (a.mtb +
    10 * 10 ^ 9)) ∧
  (∀ (s : State) (t k v : Nat) (l o : Bool), let a := s.advance t; a.up = true → k < 16 → a.testDue k l = true →
    (a.coil k).phase = .hold → a.safe.test = none → a.applySoon (a.rd R.SAFE_COIL_CFG_OUTLET k) = false → v ≤ 50 →
    ∃ u, exec (.darkTestPulse t k l (some v) o) s = .next u ∧ (u.coil k).phase = (if l then .lsTest else .hsTest) ∧
    (u.coil k).hs = l ∧ (u.coil k).ls = !l ∧ u.safe.test = some (k, l, a.mtb, true)) ∧
  (∀ (s : State) (t k : Nat) (l : Bool), let a := s.advance t; a.up = true → k < 16 → a.testDue k l = true →
    (a.coil k).phase = .hold → a.safe.test = none → (a.coil k).stuckHs = false → (a.coil k).stuckLs = false →
    a.applySoon (a.rd R.SAFE_COIL_CFG_OUTLET k) = false → ∃ u, exec (.darkTestPulse t k l none true) s = .next u ∧
    u.told = some (Ev.TEST_RESULT, k, [k, b2n l, 0, 0]) ∧ (u.coil k).phase = .fault ∧ (u.coil k).hs = !l ∧
    (u.coil k).ls = l) ∧
  (∀ (s : State) (t k : Nat) (l b : Bool) (o : Option Nat), let a := s.advance t; a.up = true → (a.coil k).phase ≠
    .hold ∨ a.testDue k l = false → exec (.darkTestPulse t k l o b) s = .next (a)) ∧
  (∀ (s : State) (t k d : Nat) (l b : Bool) (o : Option Nat), let a := s.advance t; a.up = true → a.safe.test =
    some (k, l, d, b) → d + 1000 * a.rd R.SAFE_CFG_TEST_US ≤ a.mtb → ∃ u, exec (.darkTestEnd t o) s = .next u ∧
    u.safe.test = none ∧ u.told =
    some (Ev.TEST_RESULT, k, [k, b2n l, b2n (o.any (fun v => decide (v ≤ 100))), (a.mtb - d) / 1000]) ∧
    ((u.coil k).phase = (if o.any (fun v => decide (v ≤ 100)) then .hold else .off) ∨ (u.coil k).phase = .pullIn)) ∧
  (∀ (s : State) (t k : Nat), let a := s.advance t; a.core = true → (a.coil k).phase = .fault → (a.coil k).hs =
    true → (a.coil k).ls = true → (a.coil k).since + 10 ^ 6 ≤ a.mtb → exec (.coilUncontrol t k) s =
    .next ((a.moduleTrip fCOIL_UNCONTROL 1 (a.coil k).since).shuntOn (a.rd R.SAFE_COIL_CFG_OUTLET k))) ∧
  (∀ (s : State) (t i n : Nat) (v : Int), let a := s.advance t; a.core = true → n < 8 →
    a.rd R.SAFE_OUT_PROT_RCM_SRC n = i → -32768 ≤ v → v ≤ 32767 → ∃ u, exec (.rcmReading t i v) s = .next u ∧
    u.rdInt R.AFE_RCM_RAW_RAW i = v ∧ u.flag R.AFE_RCM_RAW_VALID i = decide (2500 * v.natAbs ≤
    32768 * a.rd R.AFE_RCM_CFG_VALID_MV i) ∧ (u.os n).readings = (v :: (a.os n).readings).take 160) ∧
  (∀ (s : State) (t n r : Nat) (o : Int), let a := s.advance t; a.up = true → (a.os n).testing = true → a.closed n =
    false → exec (.rcmSelftestRun t n o r) s = .next (a.rcmSelfTest n o r)) ∧
  (∀ (s : State) (n r : Nat) (o : Int), o.natAbs < 300 → 600 ≤ r → r ≤ 1200 →
    ((s.rcmSelfTest n o r).os n).selfPass = true ∧ ((s.rcmSelfTest n o r).os n).testing = false ∧
    (s.rcmSelfTest n o r).flag R.SAFE_RCM_STAT_SELFTEST_OK n = true ∧ (bit (s.os n).latched fRCM_SENSOR = false →
    bit ((s.rcmSelfTest n o r).os n).active fRCM_SENSOR = false)) ∧
  (∀ (s : State) (n r : Nat) (o : Int), 300 ≤ o.natAbs ∨ r < 600 ∨ 1200 < r →
    ((s.rcmSelfTest n o r).os n).selfPass = false ∧ bit ((s.rcmSelfTest n o r).os n).active fRCM_SENSOR = true) ∧
  (∀ (s : State) (t i : Nat), let a := s.advance t; a.core = true → 80 ≤ a.safe.rcmBad.get 0 i →
    exec (.rcmSensorRange t i) s =
    .next (((List.range 8).filter fun n => a.rd R.SAFE_OUT_PROT_RCM_SRC n == i).foldl (fun (b : State) n => b.sensorTrip n) a)) ∧
  (∀ (s : State) (n : Nat), s.hasFault n fRCM_SENSOR = false → (s.sensorTrip n).rd R.SAFE_RCM_STAT_LAST_TRIP n = 5 ∧
    (s.sensorTrip n).told = some (Ev.SAFE_TRIP, n, [fRCM_SENSOR, 2 ^ n, 1, s.mtb, s.mtb])) ∧
  (∀ (s : State) (t n d : Nat), let a := s.advance t; a.up = true → (a.os n).warnSince = some d → d + 10 * 10 ^ 9 ≤
    a.mtb → (a.os n).warnArmed = true → ∃ u, exec (.rcmPrewarn t n) s = .next u ∧ (u.os n).warnArmed = false ∧
    u.told = some (Ev.RCM_PREWARN, n, [n, State.rcmDc (a.rcmSens n) (a.os n).readings])) ∧
  (∀ (s : State) (n c h i : Nat), s.hasFault n c = false → c < 23 → (s.trip n c h i).told =
    some (Ev.SAFE_TRIP, n, [c, 2 ^ n, h, i, s.mtb]) ∧ ((s.trip n c h i).outlet n).out = .stateF ∧
    ((s.trip n c h i).os n).safeSince = some s.mtb ∧ bit ((s.trip n c h i).os n).active c = true)

/-- Trackers, grid cycles, settling, cross-fades and their commands. A crossing, the end of lock and of hold, the
start of a grid cycle, the end of settling, the start and end of a cross-fade, and FILT_QUERY, FILT_BLEND,
FILT_RESTART and TRK_QUERY, with the statuses that turn them away. Where a clause rests on a choice of the model,
it is that of log entries 71, 74, 76, 77, 83, 84 and 239, and no rule is cited for it. (R216, R219, R220, R221,
R223, R224, R225, R229, R231, R232, R233, R238) -/
def Obligations.FiltersAndTrackers : Prop :=
  (∀ (s : State) (t m c w : Nat), let a := s.advance t; a.core = true → m < 12 → exec (.trkPeriod t m c w) s =
    .next (a.period m c w)) ∧
  (∀ (s : State) (m c w : Nat), s.rd R.FILT_TRK_STAT_STATE m = 1 → (s.trk m).cross ≠ 0 →
    State.perInRange (c - (s.trk m).cross) = true → s.ovlIn m (s.trk m).cross c = false →
    10 * s.rd R.FILT_TRK_CFG_MIN_PCT m ≤ w → w < 65536 → State.lockable ((c - (s.trk m).cross) ::
    (s.trk m).row.take 9) = true → (s.period m c w).rd R.FILT_TRK_STAT_STATE m = 2 ∧
    (s.period m c w).rd R.FILT_TRK_STAT_AMP m = w ∧ ((s.period m c w).trk m).cross = c) ∧
  (∀ (s : State) (m c w : Nat), s.rd R.FILT_TRK_STAT_STATE m ≠ 0 → (s.trk m).cross = 0 → s.period m c w =
    s.modTrk m fun k => { k with cross := c }) ∧
  (∀ (s : State) (m c w : Nat), s.rd R.FILT_TRK_STAT_STATE m = 0 → s.period m c w = s) ∧
  (∀ (s : State) (t m : Nat), let a := s.advance t; a.core = true → m < 12 → a.rd R.FILT_TRK_STAT_STATE m = 2 →
    3 * a.pEst m ≤ 2 * (a.mtb - (a.trk m).cross) → ∃ u, exec (.trkCrossingTimeout t m) s = .next u ∧
    u.rd R.FILT_TRK_STAT_STATE m = 3 ∧ u.rd R.FILT_TRK_STAT_UNLOCKS m =
    satAdd R.FILT_TRK_STAT_UNLOCKS.w (a.rd R.FILT_TRK_STAT_UNLOCKS m) 1 ∧ (u.trk m).frozen = a.pEst m ∧
    (u.trk m).holdCyc = 0) ∧
  (∀ (s : State) (t m : Nat), let a := s.advance t; a.core = true → m < 12 → a.rd R.FILT_TRK_STAT_STATE m = 3 → 10 ≤
    (a.trk m).holdCyc → ∃ u, exec (.trkHoldExpiry t m) s = .next u ∧ u.rd R.FILT_TRK_STAT_STATE m = 1 ∧
    u.told.map (·.2.2.take 4) = some [m, 3, 1, 5]) ∧
  (∀ (s : State) (t m : Nat), let a := s.advance t; a.core = true → m < 12 → a.trkAbsent m = true →
    a.rd R.FILT_TRK_STAT_STATE m ≠ 0 → ∃ u, exec (.trkSourceAbsent t m) s = .next u ∧ u.rd R.FILT_TRK_STAT_STATE m =
    0 ∧ u.trk m = { Trk.init with no := (a.trk m).no, cycles := (a.trk m).cycles }) ∧
  (∀ (s : State) (t m z : Nat), let a := s.advance t; a.core = true → m < 12 → a.cycleStart m = some z →
    exec (.gridCycleStart t m) s = .next ((if (a.trk m).relock then (a.beginCycle m z).respace m (a.trk m).no else
    a.beginCycle m z).meterTrk m)) ∧
  (∀ (s : State) (t m : Nat), let a := s.advance t; a.core = true → a.cycleStart m = none →
    exec (.gridCycleStart t m) s = .next (a)) ∧
  (∀ (s : State) (m z : Nat), s.rd R.FILT_TRK_STAT_STATE m = 1 → z < 2 ^ 63 →
    (s.beginCycle m z).rd R.FILT_TRK_ZC_START m = z ∧ (s.beginCycle m z).rd R.FILT_TRK_NEXT_START m = z +
    s.nominalPeriod m ∧ (s.beginCycle m z).rd R.FILT_TRK_PER_PERIOD_NS m = s.nominalPeriod m ∧
    ((s.beginCycle m z).trk m).no = (s.trk m).no + 1 ∧ ((s.beginCycle m z).trk m).relock = false) ∧
  (∀ (s : State) (m : Nat), s.rd R.FILT_TRK_STAT_STATE m = 2 → (s.cyclePeriod m : Int) = max 0 ((s.pEst m : Int) +
    max (-((s.pEst m / 1000 : Nat) : Int)) (min ((s.pEst m / 1000 : Nat) : Int) (idivRound (s.trk m).err 8)))) ∧
  (∀ (s : State) (t c : Nat), let a := s.advance t; a.core = true → c < 64 → a.filt.restartAt.get 0 c +
    a.settleNs c ≤ a.mtb → ∃ u, exec (.settlingEnd t c) s = .next u ∧ u.rd R.FILT_STAT_SETTLING c = 0 ∧
    u.rd R.AFE_CH_STAT_OVL_NOW c = 0 ∧ u.flag R.FILT_STAT_PRESENT c = !a.chAbsent c) ∧
  (∀ (s : State) (t c : Nat) (b : Blend), let a := s.advance t; a.core = true → a.blendOf c = some b → b.t0 = none →
    a.rd R.FILT_TRK_STAT_STATE b.trk ≠ 2 → b.at_ ≤ a.mtb / 10 ^ 6 * 10 ^ 6 → ∃ u, exec (.blendStart t c) s =
    .next u ∧ b.chans.all (fun k => u.rd R.FILT_STAT_BLENDING k == 1) = true ∧
    (u.filt.blends.find? fun (x : Blend) => x.chans.contains c).map (·.t0) = some (some (a.mtb / 10 ^ 6 * 10 ^ 6))) ∧
  (∀ (s : State) (t c z : Nat) (b : Blend), let a := s.advance t; a.core = true → a.blendOf c = some b → b.t0 =
    some z → a.rd R.FILT_TRK_STAT_STATE b.trk ≠ 2 → z + 10 ^ 6 * a.rd R.FILT_BLEND_BLEND_MS ≤
    a.mtb / 10 ^ 6 * 10 ^ 6 → exec (.blendDone t c) s = .next (a.finishBlend b b.chans (a.mtb / 10 ^ 6 * 10 ^ 6) 0)) ∧
  (∀ (s : State) (x : Ctx) (c : Nat), let b := s.advance x.t; let a := b.start x; b.takes x Op.FILT_QUERY c = true →
    c < 64 → exec (.filtQuery x c) s =
    .next (a.complete x St.OK ([R.FILT_STAT_PRESENT, R.FILT_STAT_ACTIVE_BANK, R.FILT_STAT_BLENDING, R.FILT_STAT_SETTLING, R.FILT_STAT_OVF_STAGE, R.FILT_STAT_OVF_CNT].foldl (fun n (F : Fld) => n + a.rd F c * 2 ^ F.lo) 0 +
    2 ^ 32 * a.rd R.FILT_GD_TOTAL_GD c + 2 ^ 64 * a.sampleFlags c))) ∧
  (∀ (s : State) (x : Ctx) (c : Nat), let b := s.advance x.t; let a := b.start x; b.takes x Op.FILT_QUERY c = true →
    64 ≤ c → exec (.filtQuery x c) s = .next (a.complete x St.BAD_PARAM)) ∧
  (∀ (s : State) (x : Ctx) (c : Nat), let b := s.advance x.t; let a := b.start x; b.takes x Op.FILT_BLEND 0 = true →
    c < 64 → a.calAllowed = true → a.blendOf c = none → ∃ u, exec (.filtBlend x (2 ^ c)) s = .next u ∧ u.answer x =
    some St.PENDING ∧ u.rd R.FILT_STAT_ACTIVE_BANK c = (1 - a.rd R.FILT_STAT_ACTIVE_BANK c) % 2 ∧
    (u.blendOf c).map (·.at_) = some a.mtb) ∧
  (∀ (s : State) (x : Ctx) (m : Nat), let b := s.advance x.t; let a := b.start x; b.takes x Op.FILT_BLEND 0 = true →
    a.calAllowed = false → exec (.filtBlend x m) s =
    .next ((a.partitionDenied 0 4 .metroParams).complete x St.PARTITION_DENIED)) ∧
  (∀ (s : State) (x : Ctx) (m : Nat), let b := s.advance x.t; let a := b.start x; b.takes x Op.TRK_QUERY m = true →
    m < 12 → exec (.trkQuery x m) s = .next (a.complete x St.OK (a.rd R.FILT_TRK_STAT_FREQ_UHZ m +
    2 ^ 32 * a.rd R.FILT_TRK_STAT_STATE m + 2 ^ 64 * trunc 32 (a.rd R.FILT_TRK_NEXT_START m)))) ∧
  (∀ (s : State) (x : Ctx) (c : Nat), let b := s.advance x.t; let a := b.start x; b.takes x Op.FILT_RESTART 0 =
    true → c < 64 → a.calAllowed = true → a.chanLive c = false → exec (.filtRestart x (2 ^ c)) s =
    .next (((a.restartChain c).complete x St.OK).settleDestroys)) ∧
  (∀ (s : State) (x : Ctx) (m : Nat), let b := s.advance x.t; let a := b.start x; b.takes x Op.FILT_RESTART 0 =
    true → a.calAllowed = false → exec (.filtRestart x m) s =
    .next ((a.partitionDenied 0 4 .metroParams).complete x St.PARTITION_DENIED)) ∧
  (∀ (s : State) (c : Nat), c < 64 → (s.restartChain c).rd R.FILT_STAT_SETTLING c = 1 ∧
    (s.restartChain c).rd R.FILT_STAT_PRESENT c = 0 ∧ (s.restartChain c).filt.restartAt.get 0 c = s.mtb)

/-- Windows, seconds, voltage events, pulses and temperature. The end of a window, the record of a second, a half
cycle, a pulse, a temperature reading, a final session close and a calibration measurement. A value that its field
cannot hold, and a power factor without apparent power, are free values. Where a clause rests on a choice of the
model, it is that of log entries 1, 9, 14, 71, 77, 78, 79, 80, 81, 244 and 246, and no rule is cited for it.
(R242, R243, R244, R254, R257, R259, R260, R261, R262, R267, R271, R273) -/
def Obligations.MeteringEvents : Prop :=
  (∀ (s : State) (t m : Nat) (w : Window), let a := s.advance t; a.core = true → m < 12 → a.mpRuns m = true →
    (a.mp m).ready = some w → exec (.metWindowEnd t m) s = .next (a.windowEnd m w)) ∧
  (∀ (s : State) (t m : Nat), let a := s.advance t; a.core = true → (a.mp m).ready = none ∨ a.mpRuns m = false →
    exec (.metWindowEnd t m) s = .next (a)) ∧
  (∀ (s : State) (m : Nat) (w : Window), ((s.windowEnd m w).mp m).ready = none ∧
    (s.windowEnd m w).rd R.MET_TOTAL_QF m = trunc R.MET_TOTAL_QF.w w.flags) ∧
  (∀ (s : State) (m i : Nat) (z f : PhaseSum), s.rd R.MET_CFG_TYPE m ≠ 3 →
    State.rmsOf z.uu z.n (s.rd R.MET_SCALE_KV m) < 2 ^ 32 → State.rmsOf z.ii z.n (s.rd R.MET_SCALE_KI m) < 2 ^ 32 →
    -(2 ^ 31) ≤ s.powerOf m z.ui z.n → s.powerOf m z.ui z.n < 2 ^ 31 →
    (s.putPhase m i z f).rd R.MET_PHASE_URMS (3 * m + i) = State.rmsOf z.uu z.n (s.rd R.MET_SCALE_KV m) ∧
    (s.putPhase m i z f).rd R.MET_PHASE_IRMS (3 * m + i) = State.rmsOf z.ii z.n (s.rd R.MET_SCALE_KI m) ∧
    (s.putPhase m i z f).rdInt R.MET_PHASE_P (3 * m + i) = s.powerOf m z.ui z.n) ∧
  (∀ (s : State) (m i : Nat) (z f : PhaseSum), s.rd R.MET_CFG_TYPE m = 3 → -(2 ^ 31) ≤
    State.meanOf z.u z.n (s.rd R.MET_SCALE_KV m) → State.meanOf z.u z.n (s.rd R.MET_SCALE_KV m) < 2 ^ 31 →
    (s.putPhase m i z f).rdInt R.MET_PHASE_URMS (3 * m + i) = State.meanOf z.u z.n (s.rd R.MET_SCALE_KV m) ∧
    (s.putPhase m i z f).rd R.MET_PHASE_S (3 * m + i) = s.rd R.MET_PHASE_S (3 * m + i)) ∧
  (∀ (s : State) (t m : Nat), let a := s.advance t; a.core = true → m < 12 → (a.mp m).recEdge < a.secEdge →
    a.unclassified m a.secEdge = false → ∃ u, exec (.demandSecondRecord t m) s = .next u ∧ (u.mp m).recEdge =
    a.secEdge ∧ (u.mp m).secRec = (a.mp m).secCur ∧ (u.mp m).secCur = (a.mp m).secNext ∧ (u.mp m).secFlags = 0) ∧
  (∀ (s : State) (t m d : Nat) (v : List (Nat × Nat)), let a := s.advance t; a.core = true → m < 12 → a.mpRuns m =
    true → a.rd R.MET_CFG_TYPE m ≠ 3 →
    a.halfRms m (max (a.mp m).pqNext (2 * (((a.trk (a.mpTrk m)).cycles.getLast?).map (·.no)).getD 0 + 2)) =
    some (d, v) → v ≠ [] → exec (.pqHalfCycle t m) s =
    .next ((a.modMp m fun p => { p with pqNext := max (a.mp m).pqNext (2 * (((a.trk (a.mpTrk m)).cycles.getLast?).map (·.no)).getD 0 + 2) + 1 }).pqHalf m d v)) ∧
  (∀ (s : State) (t m : Nat), let a := s.advance t; a.core = true → a.mpRuns m = false ∨
    a.halfRms m (max (a.mp m).pqNext (2 * (((a.trk (a.mpTrk m)).cycles.getLast?).map (·.no)).getD 0 + 2)) = none →
    exec (.pqHalfCycle t m) s = .next (a)) ∧
  (∀ (s : State) (m d k o e : Nat) (f : Bool) (w : Nat → Nat → Nat), (s.mp m).pq.get none k = none → k < 3 →
    (s.pqKind m d k o e true f w).told = some (Ev.MET_PQ_START, m, [m, k, o, d]) ∧
    ((s.pqKind m d k o e true f w).mp m).pq.get none k = some ⟨d, o, e⟩) ∧
  (∀ (s : State) (m d : Nat) (e : PqEvent) (o v : Nat) (b : Bool), (s.mp m).pq.get none 0 = some e →
    (s.pqKind m d 0 o v b true min).told =
    some (Ev.MET_DIP, m, [m, e.mask, e.start, (d - e.start) / 1000, divRound (10000 * e.ext) (max 1 (10 ^ 5 * s.rd R.MET_RATING_UNOM m))]) ∧
    (s.pqKind m d 0 o v b true min).rd R.MET_PQ_STAT_DIPS m =
    satAdd R.MET_PQ_STAT_DIPS.w (s.rd R.MET_PQ_STAT_DIPS m) 1) ∧
  (∀ (s : State) (t k d : Nat) (r : List Nat), let a := s.advance t; a.core = true → k < 8 →
    a.flag R.MET_PULSE_EN k = true → (a.met.pulses.get Pulse.init k).due = d :: r → d ≤ a.mtb →
    (a.met.pulses.get Pulse.init k).on = false → (a.met.pulses.get Pulse.init k).edge1 = 0 → ∃ u,
    exec (.pulseStart t k) s = .next u ∧ (u.met.pulses.get Pulse.init k).on = true ∧
    (u.met.pulses.get Pulse.init k).edge1 = a.mtb + 1 ∧ (u.met.pulses.get Pulse.init k).due = r) ∧
  (∀ (s : State) (t k : Nat), let a := s.advance t; a.core = true → (a.met.pulses.get Pulse.init k).due = [] →
    exec (.pulseStart t k) s = .next (a)) ∧
  (∀ (s : State) (t k : Nat), let a := s.advance t; a.core = true → (a.met.pulses.get Pulse.init k).on = true →
    (a.met.pulses.get Pulse.init k).edge1 + 10 ^ 6 * a.rd R.MET_PULSE_WIDTH_MS k ≤ a.mtb + 1 → ∃ u,
    exec (.pulseEnd t k) s = .next u ∧ (u.met.pulses.get Pulse.init k).on = false ∧
    (u.met.pulses.get Pulse.init k).edge1 = a.mtb + 1) ∧
  (∀ (s : State) (t : Nat) (v : Int), let a := s.advance t; a.core = true → a.flag R.MET_TC_CTL_EN = true →
    a.met.tcNext ≤ a.mtb → a.ledger.cal = none → 10 * a.rd R.MET_TC_CTL_STEP ≤
    (v - a.rdInt R.MET_TC_CTL_T_APPLIED).natAbs → -32768 ≤ v → v < 32768 → ∃ u, exec (.tcRead t v) s = .next u ∧
    u.rdInt R.MET_TC_CTL_T_APPLIED = v ∧ u.met.tcNext = a.mtb + 10 ^ 9 ∧ u.told =
    some (Ev.MET_TC_BLEND, 0, [enc 16 v, (({ a with met := { a.met with tcNext := a.mtb + 10 ^ 9 } } : State).compensateGroups (2 ^ 12 - 1) v).1])) ∧
  (∀ (s : State) (t : Nat) (v : Int), let a := s.advance t; a.core = true → a.flag R.MET_TC_CTL_EN = false ∨ a.mtb <
    a.met.tcNext → exec (.tcRead t v) s = .next (a)) ∧
  (∀ (s : State) (t m : Nat), let a := s.advance t; a.core = true → m < 12 → a.flag R.MET_SESS_CLOSED_PENDING m =
    true → a.unclassified m ((a.mp m).sessEnd1 - 1) = false → exec (.metSessionCloseFinal t m) s =
    .next (a.closeFinal m)) ∧
  (∀ (s : State) (t m z : Nat) (r : CalRun), let a := s.advance t; a.core = true → a.met.runs.get none m = some r →
    r.begun = some z → z + 10 ^ 9 * r.secs ≤ r.stop → r.flags &&& 11 ≠ 0 → ∃ u, exec (.metCalMeasureDone t m) s =
    .next u ∧ u.answer r.ctx = some St.CAL_UNSTABLE ∧ u.met.runs.get none m = none) ∧
  (∀ (s : State) (t m z i : Nat) (r : CalRun), let a := s.advance t; a.core = true → a.met.runs.get none m =
    some r → r.begun = some z → z + 10 ^ 9 * r.secs ≤ r.stop → r.flags &&& 11 = 0 → i < 3 → bit r.phases i = true →
    ∃ u, exec (.metCalMeasureDone t m) s = .next u ∧ u.answer r.ctx = some St.OK ∧ u.met.kept.get none (3 * m + i) =
    some (a.calResult m (r.sums.getD i PhaseSum.init) r z)) ∧
  (∀ (s : State) (t m : Nat) (r : CalRun), let a := s.advance t; a.core = true → a.met.runs.get none m = some r →
    r.stop < r.begun.getD r.stop + 10 ^ 9 * r.secs → exec (.metCalMeasureDone t m) s = .next (a))

/-- What the MET commands do. Queries, metering sessions, calibration, pulse outputs, harmonics and captures, with
the statuses that turn them away. Where a clause rests on a choice of the model, it is that of log entries 14, 27,
77, 78, 80, 81 and 201, and no rule is cited for it. (R245, R256, R257, R266, R267, R268, R269, R273, R274) -/
def Obligations.MeteringCommands : Prop :=
  (∀ (s : State) (x : Ctx) (m : Nat), let b := s.advance x.t; let a := b.start x; b.takes x Op.MET_QUERY m = true →
    m < 12 → exec (.metQuery x m) s = .next (a.complete x St.OK (enc 32 (a.rdInt R.MET_TOTAL_P m / 1000) +
    2 ^ 32 * (a.rd R.MET_TOTAL_FREQ_10S m / 1000) + 2 ^ 64 * a.rd R.MET_CFG_STATE m +
    2 ^ 72 * trunc 24 (a.rd R.MET_TOTAL_QF m)))) ∧
  (∀ (s : State) (x : Ctx) (m i : Nat), let b := s.advance x.t; let a := b.start x;
    b.takes x Op.MET_SESSION_OPEN m = true → b.heldBy 16 (.metOpen m i) = none →
    b.actDisabled (some (.metOpen m i)) = false → m < 12 → a.mpRuns m = true → a.mpLive m = false → i < 2 ^ 32 →
    a.mtb < 2 ^ 64 → ∃ u, exec (.metSessionOpen x m i) s = .next u ∧ u.answer x = some St.OK ∧ u.mpLive m = true ∧
    u.rd R.MET_SESS_SESSION_ID m = i ∧ u.rd R.MET_SESS_T_OPEN m = a.mtb ∧ u.rd R.MET_SESS_A_IMP m = 0 ∧
    u.rd R.MET_SESS_A_EXP m = 0) ∧
  (∀ (s : State) (x : Ctx) (m i r : Nat), let b := s.advance x.t; let a := b.start x;
    b.takes x Op.MET_SESSION_OPEN m = true → b.heldBy 16 (.metOpen m i) = none →
    b.actDisabled (some (.metOpen m i)) = false → a.metOpenBad m i = some r → exec (.metSessionOpen x m i) s =
    .next (a.complete x r)) ∧
  (∀ (s : State) (x : Ctx) (m : Nat), let b := s.advance x.t; let a := b.start x; b.takes x Op.MET_SESSION_CLOSE m =
    true → b.heldBy 16 (.metClose m) = none → b.actDisabled (some (.metClose m)) = false → m < 12 → a.mpLive m =
    true → exec (.metSessionClose x m) s = .next (((a.metClose m a.mtb).complete x St.OK).settleDestroys)) ∧
  (∀ (s : State) (x : Ctx) (m : Nat), let b := s.advance x.t; let a := b.start x; b.takes x Op.MET_SESSION_CLOSE m =
    true → b.heldBy 16 (.metClose m) = none → b.actDisabled (some (.metClose m)) = false → m < 12 → a.mpLive m =
    false → ∃ u, exec (.metSessionClose x m) s = .next u ∧ u.answer x = some St.NO_MP_SESSION) ∧
  (∀ (s : State) (x : Ctx) (m p w : Nat), let b := s.advance x.t; let a := b.start x;
    b.takes x Op.MET_CAL_MEASURE m = true → m < 12 → 1 ≤ p → p < 8 → 1 ≤ w → w ≤ 60 → a.calCovers m = true →
    a.met.runs.get none m = none → ∃ u, exec (.metCalMeasure x m p w) s = .next u ∧ u.answer x = some St.PENDING ∧
    u.met.runs.get none m = some ⟨x, p, w, a.mtb, none, 0, [], (0, 0), a.mtb⟩) ∧
  (∀ (s : State) (x : Ctx) (m p w : Nat), let b := s.advance x.t; let a := b.start x;
    b.takes x Op.MET_CAL_MEASURE m = true → a.calCovers m = false → ∃ u, exec (.metCalMeasure x m p w) s = .next u ∧
    u.answer x = some St.CAL_NOT_OPEN) ∧
  (∀ (s : State) (x : Ctx) (m u0 i0 : Nat) (g : Int) (k : CalKept) (gv gi ti : Int), let b := s.advance x.t;
    let a := b.start x; b.takes x Op.MET_CAL_APPLY m = true → m < 12 → a.calCovers m = true → a.roleChan m 0 ≠
    0x7F → a.roleChan m 3 ≠ 0x7F → a.met.kept.get none (3 * m) = some k → a.mtb ≤ k.at_ + 600 * 10 ^ 9 →
    a.mpLive m = false → a.blendOf (a.roleChan m 0) = none → a.blendOf (a.roleChan m 3) = none →
    State.newCoefs k 7 u0 i0 g (a.rdInt R.FILT_BANK_GAIN (a.thisBank (a.roleChan m 0))) (a.rdInt R.FILT_BANK_GAIN (a.thisBank (a.roleChan m 3))) (a.rdInt R.FILT_BANK_TRIM (a.thisBank (a.roleChan m 3))) =
    some (gv, gi, ti) → exec (.metCalApply x m 0 u0 i0 g 7) s =
    .next ((a.applyCal x m 0 7 k [a.roleChan m 0, a.roleChan m 3] gv gi ti).settleDestroys)) ∧
  (∀ (k : CalKept) (u0 : Nat) (g gv : Int), k.u = u0 → u0 ≠ 0 → State.newCoefs k 1 u0 0 0 gv g 0 = some (gv, g, 0)) ∧
  (∀ (s : State) (x : Ctx) (k i : Nat), let b := s.advance x.t; let a := b.start x; b.takes x Op.MET_PULSE_CFG k =
    true → a.calAllowed = false → ∃ u, exec (.metPulseCfg x k i) s = .next u ∧ u.answer x = some St.CAL_NOT_OPEN) ∧
  (∀ (s : State) (x : Ctx) (k i : Nat), let b := s.advance x.t; let a := b.start x; b.takes x Op.MET_PULSE_CFG k =
    true → a.calAllowed = true → k < 8 → State.imageField R.MET_PULSE_MP i ≤ 11 →
    State.imageField R.MET_PULSE_QTY i ≤ 7 → 1 ≤ State.imageField R.MET_PULSE_CONST i →
    State.imageField R.MET_PULSE_CONST i ≤ 100000 → 2 ≤ State.imageField R.MET_PULSE_WIDTH_MS i →
    State.imageField R.MET_PULSE_WIDTH_MS i ≤ 100 →
    a.pulseTooFast (State.imageField R.MET_PULSE_MP i) (State.imageField R.MET_PULSE_CONST i) (State.imageField R.MET_PULSE_WIDTH_MS i) =
    false → ∃ u, exec (.metPulseCfg x k i) s = .next u ∧ u.answer x = some St.OK ∧ ∀ F ∈ State.pulseFields,
    u.rd F k = State.imageField F i) ∧
  (∀ (s : State) (x : Ctx) (m p : Nat), let b := s.advance x.t; let a := b.start x; b.takes x Op.MET_HARM_READ m =
    true → m < 12 → p < 3 → ∃ u, exec (.metHarmRead x m p 0) s = .next u ∧ u.answer x = some St.OK ∧ (a.attached =
    true → u.host.dma =
    (List.range 64).flatMap fun h => [a.rd R.MET_HARM_U_SG (State.harmIx m p h), a.rd R.MET_HARM_I_SG (State.harmIx m p h), a.rd R.MET_HARM_U_ISG (State.harmIx m p h), a.rd R.MET_HARM_I_ISG (State.harmIx m p h)])) ∧
  (∀ (s : State) (x : Ctx) (m : Nat) (n : Nat), let b := s.advance x.t; let a := b.start x;
    b.takes x Op.MET_WAVE_CAPTURE 0 = true → m < 12 → ∃ u, exec (.metWaveCapture x (2 ^ m) n) s = .next u ∧
    u.answer x = some St.OK ∧ u.wave m = ⟨true, 0x21, n, n == 0⟩ ∧ u.waveRecs m = []) ∧
  (∀ (s : State) (x : Ctx) (m : Nat), let b := s.advance x.t; let a := b.start x; b.takes x Op.MET_WAVE_STOP 0 =
    true → m < 12 → ∃ u, exec (.metWaveStop x (2 ^ m)) s = .next u ∧ u.answer x = some St.OK ∧ u.wave m =
    Capture.off ∧ u.waveRecs m = [])

/-- What the events of the ledger do. A commit of the ledger state, tariff switches, the activation of a calendar,
demand and billing boundaries, their transaction, the end of a SYNC_IN window, LEGAL_SEAL and the end of a
calibration. Where a clause rests on a choice of the model, it is that of log entries 9, 28, 86, 87, 93, 94, 97,
137, 138 and 211, and no rule is cited for it. (R279, R280, R295, R296, R299, R302, R303, R304, R309, R315, R319)
-/
def Obligations.LedgerEvents : Prop :=
  (∀ (s : State) (t : Nat), let a := s.advance t; a.core = true →
    a.ledger.commitAt / (10 ^ 8 * max 1 (a.rd R.LEDGER_CFG_COMMIT_100MS)) <
    a.mtb / (10 ^ 8 * max 1 (a.rd R.LEDGER_CFG_COMMIT_100MS)) → a.ledger.bound = none →
    (a.ledger.copyA.map (·.num)).getD 0 ≤ a.ledger.commits → (a.ledger.copyB.map (·.num)).getD 0 ≤
    a.ledger.commits → ∃ u, exec (.ledgerCommit t true) s = .next u ∧ u.ledger.commitAt = a.mtb ∧ u.ledger.commits =
    a.ledger.commits + 1 ∧ u.newestCommit.map (·.num) = some (a.ledger.commits + 1) ∧ u.newestCommit.map (·.at_) =
    some a.mtb) ∧
  (∀ (s : State) (t : Nat) (c : Bool), let a := s.advance t; a.core = true →
    a.mtb / (10 ^ 8 * max 1 (a.rd R.LEDGER_CFG_COMMIT_100MS)) ≤
    a.ledger.commitAt / (10 ^ 8 * max 1 (a.rd R.LEDGER_CFG_COMMIT_100MS)) → exec (.ledgerCommit t c) s = .next (a)) ∧
  (∀ (s : State) (t : Nat), let a := s.advance t; a.core = true →
    a.ledger.commitAt / (10 ^ 8 * max 1 (a.rd R.LEDGER_CFG_COMMIT_100MS)) <
    a.mtb / (10 ^ 8 * max 1 (a.rd R.LEDGER_CFG_COMMIT_100MS)) → a.ledger.bound = none → a.ledger.commits % 2 = 1 →
    ∃ u, exec (.ledgerCommit t false) s = .next u ∧ u.ledger.copyA = a.ledger.copyA ∧ u.ledger.copyB = none ∧
    u.rd R.LEDGER_STAT_COMMIT_FAIL = satAdd R.LEDGER_STAT_COMMIT_FAIL.w (a.rd R.LEDGER_STAT_COMMIT_FAIL) 1) ∧
  (∀ (s : State) (t : Nat), let a := s.advance t; a.up = true → a.rtcValid = true → a.wallS % 60 = 0 → a.clockSec =
    a.wallS → a.localSec a.wallS % 60 = 0 → a.tariffChanges a.wallS ≠ [] → a.flag R.LEDGER_DEMAND_CFG_SYNC_EN =
    false → a.ledger.held = none → a.ledger.bound = none → a.ledger.lastClosed < a.wallS → a.ledger.subStart <
    a.instOf a.wallS → ∃ u, exec (.tariffSwitch t) s = .next u ∧ u.ledger.bound =
    some (⟨a.instOf a.wallS, a.wallS, 2, [], 0, 0, none⟩ : Boundary)) ∧
  (∀ (s : State) (t : Nat), let a := s.advance t; a.up = true → a.rtcValid = false ∨
    a.tariffChanges (a.clockSec - a.localSec a.clockSec % 60) = [] → exec (.tariffSwitch t) s = .next (a)) ∧
  (∀ (s : State) (t : Nat) (c : Calendar), let a := s.advance t; a.up = true → a.rtcValid = true →
    a.ledger.pending = some c → c.activation ≠ 0 → c.activation ≤ a.wallS → a.ledger.lastClosed < c.activation →
    a.ledger.subStart < a.instOf c.activation → a.ledger.bound = none → ∃ u, exec (.calendarActivate t) s =
    .next u ∧ u.ledger.bound = some (⟨a.instOf c.activation, c.activation, 8, [], 0, 0, none⟩ : Boundary)) ∧
  (∀ (s : State) (t : Nat), let a := s.advance t; a.up = true → a.kindsAt a.lastNominal ≠ 0 →
    a.boundaryOpen a.lastNominal = true → a.flag R.LEDGER_DEMAND_CFG_SYNC_EN = false → a.ledger.bound = none → ∃ u,
    exec (.demandBoundary t) s = .next u ∧ u.ledger.bound.map (fun (b : Boundary) => (b.at_, b.kinds)) =
    some (a.instOf a.lastNominal, a.kindsAt a.lastNominal)) ∧
  (∀ (s : State) (t : Nat), let a := s.advance t; a.up = true → a.kindsAt a.lastNominal % 2 = 1 →
    a.boundaryOpen a.lastNominal = true → a.flag R.LEDGER_DEMAND_CFG_SYNC_EN = true → ∃ u,
    exec (.demandBoundary t) s = .next u ∧ u.ledger.bound = a.ledger.bound ∧ u.ledger.held.map (·.at_) =
    some (a.instOf a.lastNominal)) ∧
  (∀ (s : State) (t : Nat) (z : Boundary), let a := s.advance t; a.up = true → a.ledger.bound = some z →
    a.boundReady z = true → exec (.boundaryTransaction t) s = .next (a.transaction z)) ∧
  (∀ (s : State) (t : Nat) (z : Boundary), let a := s.advance t; a.up = true → a.ledger.held = some z → z.at_ +
    10 ^ 9 * a.rd R.LEDGER_DEMAND_CFG_SYNC_WIN_S ≤ a.mtb → a.ledger.bound = none → ∃ u,
    exec (.syncWindowExpiry t) s = .next u ∧ u.ledger.held = none ∧ u.ledger.bound = some z) ∧
  (∀ (s : State) (t : Nat), let a := s.advance t; a.up = true → a.flag R.LEDGER_STAT_SEAL = true → a.ledger.cal =
    none → a.ledger.sealIdle = false → a.ledger.idleAt + 600 * 10 ^ 9 ≤ a.mtb → ∃ u, exec (.sealIdle t) s =
    .next u ∧ u.ledger.sealIdle = true ∧ u.rd R.LEDGER_TAMPER_COUNT 20 =
    satAdd R.LEDGER_TAMPER_COUNT.w (a.rd R.LEDGER_TAMPER_COUNT 20) 1) ∧
  (∀ (s : State) (t : Nat), let a := s.advance t; a.up = true → a.flag R.LEDGER_STAT_SEAL = false ∨ a.ledger.cal ≠
    none ∨ a.mtb < a.ledger.idleAt + 600 * 10 ^ 9 → exec (.sealIdle t) s = .next (a)) ∧
  (∀ (s : State) (t : Nat), let a := s.advance t; a.up = true → a.flag R.LEDGER_STAT_SEAL = true → ∃ u,
    exec (.legalSealChange t false) s = .next u ∧ u.flag R.LEDGER_STAT_SEAL = false ∧ u.ledger.cal = none ∧
    u.ledger.sealAt = a.mtb) ∧
  (∀ (s : State) (t : Nat), let a := s.advance t; a.up = true → a.flag R.LEDGER_STAT_SEAL = false → ∃ u,
    exec (.legalSealChange t true) s = .next u ∧ u.flag R.LEDGER_STAT_SEAL = true ∧ u.ledger.cal = a.ledger.cal ∧
    u.ledger.sealAt = a.mtb) ∧
  (∀ (s : State) (t : Nat) (c : CalOpen), let a := s.advance t; a.up = true → a.ledger.cal = some c → c.until_ ≤
    a.mtb → ∃ u, exec (.calExpiry t) s = .next u ∧ u.ledger.cal = none ∧ u.flag R.LEDGER_STAT_CAL_OPEN = false) ∧
  (∀ (s : State) (t : Nat) (c : CalOpen), let a := s.advance t; a.up = true → a.ledger.cal = some c → a.mtb <
    c.until_ → exec (.calExpiry t) s = .next (a)) ∧
  (∀ (s : State) (t : Nat), let a := s.advance t; a.core = true →
    a.ledger.records.all (fun (r : Rec) => r.sig.isSome) = true → a.flag R.GLOBAL_STATUS_HOST_READY = true →
    exec (.recordSign t) s = .next (a)) ∧
  (∀ (s : State) (t : Nat) (k : KNode) (r : Rec), let a := s.advance t; a.core = true → a.ledger.records = [r] →
    r.sig = none → a.keyMode = 2 → a.node? pathSign = some k → k.stale = false → ∃ u, exec (.recordSign t) s =
    .next u ∧ u.ledger.records.all (fun (r : Rec) => r.sig.isSome) = true ∧ u.rd R.LEDGER_STAT_UNSIGNED = 0 ∧
    u.ledger.records.map (fun (r : Rec) => (r.seq, r.body)) = [(r.seq, r.body)])

/-- What the LEDGER commands do. LEDGER_QUERY, LEDGER_SESSION_RECORD, LEDGER_TARIFF_SELECT, LEDGER_READ_SIGNED,
LEDGER_RECORD_FETCH, LEDGER_TIME_SET, LEDGER_CALENDAR_LOAD, LEDGER_BILLING_CLOSE, LEDGER_BILLING_READ, the
calibration commands, LEDGER_LEGAL_ID and LEDGER_ACK_LOSS. Where a clause rests on a choice of the model, it is
that of log entries 9, 85, 86, 88, 89, 90, 91, 92, 95, 97, 138, 141, 145, 157, 159, 198 and 201, and no rule is
cited for it. (R277, R281, R283, R288, R296, R297, R309, R310, R314, R318, R319, R320) -/
def Obligations.LedgerCommands : Prop :=
  (∀ (s : State) (x : Ctx) (m : Nat), let b := s.advance x.t; let a := b.start x; b.takes x Op.LEDGER_QUERY m =
    true → m < 12 → exec (.ledgerQuery x m) s = .next (a.complete x St.OK (a.rd R.LEDGER_STAT_LAST_SEQ +
    2 ^ 64 * (a.acct m).tariff + 2 ^ 72 * (8 * a.rd R.LEDGER_STAT_POSSIBLE_LOSS +
    4 * a.rd R.LEDGER_STAT_LAST_POUR_OK + 2 * a.rd R.LEDGER_STAT_CAL_OPEN + a.rd R.LEDGER_STAT_SEAL)))) ∧
  (∀ (s : State) (x : Ctx) (m : Nat), let b := s.advance x.t; let a := b.start x; b.takes x Op.LEDGER_QUERY m =
    true → 12 ≤ m → exec (.ledgerQuery x m) s = .next (a.complete x St.BAD_PARAM)) ∧
  (∀ (s : State) (x : Ctx) (n m k p r : Nat) (i : List Byte), let b := s.advance x.t; let a := b.start x;
    b.takes x Op.LEDGER_SESSION_RECORD n = true → b.heldBy 16 (.recOpen n m k i p) = none →
    b.actDisabled (some (.recOpen n m k i p)) = false → n < 8 → m < 12 → i.length ≤ 32 → p < 2 ^ 32 →
    a.flag R.OUT_CFG_CTRL n = true → (a.lsess n).opened = false → a.ledger.cal = none → a.mpRuns m = false → ∃ u,
    exec (.ledgerSessionRecord x n m 0 k i p r) s = .next u ∧ u.answer x = some St.OK ∧ (u.lsess n).opened = true ∧
    (u.lsess n).mp = m ∧ (u.lsess n).price = p ∧ u.ledger.records.length ≤ a.ledger.records.length + 1) ∧
  (∀ (s : State) (x : Ctx) (n m k p r : Nat) (i : List Byte), let b := s.advance x.t; let a := b.start x;
    b.takes x Op.LEDGER_SESSION_RECORD n = true → b.heldBy 16 (.recOpen n m k i p) = none →
    b.actDisabled (some (.recOpen n m k i p)) = false → n < 8 → m < 12 → i.length ≤ 32 → p < 2 ^ 32 →
    a.flag R.OUT_CFG_CTRL n = false → exec (.ledgerSessionRecord x n m 0 k i p r) s =
    .next (a.complete x St.NOT_HOST_CONTROL)) ∧
  (∀ (s : State) (x : Ctx) (n m k p r : Nat) (i : List Byte), let b := s.advance x.t; let a := b.start x;
    b.takes x Op.LEDGER_SESSION_RECORD n = true → b.heldBy 16 (.recClose n m r) = none →
    b.actDisabled (some (.recClose n m r)) = false → n < 8 → m < 12 → i.length ≤ 32 → p < 2 ^ 32 → 1 ≤ r → r ≤ 21 →
    a.flag R.OUT_CFG_CTRL n = true → (a.lsess n).opened = true → (a.lsess n).closing = false →
    a.mpLive (a.lsess n).mp = false → a.flag R.MET_SESS_CLOSED_PENDING (a.lsess n).mp = false → ∃ u,
    exec (.ledgerSessionRecord x n m 1 k i p r) s = .next u ∧ u.answer x = some St.OK ∧ (u.lsess n).opened = false) ∧
  (∀ (s : State) (x : Ctx) (n m k p r : Nat) (i : List Byte), let b := s.advance x.t; let a := b.start x;
    b.takes x Op.LEDGER_SESSION_RECORD n = true → b.heldBy 16 (.recClose n m r) = none →
    b.actDisabled (some (.recClose n m r)) = false → n < 8 → m < 12 → i.length ≤ 32 → p < 2 ^ 32 → 1 ≤ r → r ≤ 21 →
    a.flag R.OUT_CFG_CTRL n = true → (a.lsess n).opened = false → exec (.ledgerSessionRecord x n m 1 k i p r) s =
    .next (a.complete x St.NO_LEDGER_SESSION)) ∧
  (∀ (s : State) (x : Ctx) (k t p : Nat), let b := s.advance x.t; let a := b.start x;
    b.takes x Op.LEDGER_TARIFF_SELECT 0 = true → b.heldBy 16 (.tariff k t p) = none →
    b.actDisabled (some (.tariff k t p)) = false → p < 2 ^ 32 → k < 4096 → t ≤ 15 ∨ t = 0xFF →
    a.flag R.LEDGER_CFG_HOST_TARIFF = true → a.ledger.bound = none → ∃ u, exec (.ledgerTariffSelect x k t p) s =
    .next u ∧ u.answer x = some St.OK ∧ u.ledger.bound =
    some (⟨a.mtb, a.wallS, 0, [(k, t, p, 1)], 0, 0, none⟩ : Boundary)) ∧
  (∀ (s : State) (x : Ctx) (k t p : Nat), let b := s.advance x.t; let a := b.start x;
    b.takes x Op.LEDGER_TARIFF_SELECT 0 = true → b.heldBy 16 (.tariff k t p) = none →
    b.actDisabled (some (.tariff k t p)) = false → p < 2 ^ 32 → a.flag R.LEDGER_CFG_HOST_TARIFF = false →
    exec (.ledgerTariffSelect x k t p) s = .next (a.complete x St.HOST_TARIFF_OFF)) ∧
  (∀ (s : State) (x : Ctx) (k : Nat), let b := s.advance x.t; let a := b.start x;
    b.takes x Op.LEDGER_READ_SIGNED 0 = true → b.heldBy 16 (.readSigned k) = none →
    b.actDisabled (some (.readSigned k)) = false → k ≠ 0 → k < 4096 → exec (.ledgerReadSigned x k) s =
    .next ((a.readStart k a.mtb (some x)).settleDestroys)) ∧
  (∀ (s : State) (x : Ctx) (m : Nat), m < 12 → s.mpRuns m = false → s.ledger.pends = [] → s.ledger.reads = [] →
    s.ledger.useNums = [] → (s.readStart (2 ^ m) s.mtb (some x)).answer x = some St.OK ∧
    (s.readStart (2 ^ m) s.mtb (some x)).ledger.pends = []) ∧
  (∀ (s : State) (x : Ctx) (k : Nat), let b := s.advance x.t; let a := b.start x;
    b.takes x Op.LEDGER_READ_SIGNED 0 = true → b.heldBy 16 (.readSigned k) = none →
    b.actDisabled (some (.readSigned k)) = false → k = 0 ∨ 4096 ≤ k → exec (.ledgerReadSigned x k) s =
    .next (a.complete x St.BAD_PARAM)) ∧
  (∀ (s : State) (x : Ctx) (f z k : Nat), let b := s.advance x.t; let a := b.start x;
    b.takes x Op.LEDGER_RECORD_FETCH 0 = true → a.ledger.records = [] → a.ledger.issued + 1 ≤ f → ∃ u,
    exec (.ledgerRecordFetch x f z k) s = .next u ∧ u.answer x = some St.OK ∧ u.ledger.acked =
    max a.ledger.acked (min k a.ledger.issued) ∧ (a.attached = true → u.host.dma = [])) ∧
  (∀ (s : State) (x : Ctx) (f z k : Nat) (r : Rec), let b := s.advance x.t; let a := b.start x;
    b.takes x Op.LEDGER_RECORD_FETCH 0 = true → a.ledger.records = [r] → f < r.seq → f < a.ledger.issued + 1 → ∃ u,
    exec (.ledgerRecordFetch x f z k) s = .next u ∧ u.answer x = some St.RECORD_GONE ∧ u.ledger.acked =
    max a.ledger.acked (min k a.ledger.issued)) ∧
  (∀ (s : State) (x : Ctx) (f z k : Nat) (r : Rec), let b := s.advance x.t; let a := b.start x;
    b.takes x Op.LEDGER_RECORD_FETCH 0 = true → a.ledger.records = [r] → f = r.seq → f ≤ a.ledger.issued → r.sig ≠
    none → r.len ≤ z → ∃ u, exec (.ledgerRecordFetch x f z k) s = .next u ∧ u.answer x = some St.OK ∧ (a.attached =
    true → u.host.dma = a.recFields r)) ∧
  (∀ (s : State) (x : Ctx) (ms : Nat), let b := s.advance x.t; let a := b.start x; b.takes x Op.LEDGER_TIME_SET 0 =
    true → ms < 1000 * 2 ^ 32 → a.rtcValid = false → ∃ u, exec (.ledgerTimeSet x ms none) s = .next u ∧ u.answer x =
    some St.OK ∧ u.rtcValid = true ∧ u.rd R.GLOBAL_MTB_UTC_UTC_SEC = ms / 1000 ∧ u.rd R.LEDGER_TIME_CLOCK_VALID = 1) ∧
  (∀ (s : State) (x : Ctx) (ms : Nat), let b := s.advance x.t; let a := b.start x; b.takes x Op.LEDGER_TIME_SET 0 =
    true → ms < 1000 * 2 ^ 32 → a.rtcValid = true → a.rd R.LEDGER_CFG_TIME_STEP_MAX_S <
    (a.stepsNow.foldl (fun n (p : Nat × Nat) => n + p.2) 0) + (if ms < a.wallMs then a.wallMs - ms else
    ms - a.wallMs) / 1000 → exec (.ledgerTimeSet x ms none) s = .next (a.complete x St.TIME_STEP)) ∧
  (∀ (s : State) (x : Ctx) (l : List Byte) (z : Bool), let b := s.advance x.t; let a := b.start x;
    b.takes x Op.LEDGER_CALENDAR_LOAD 0 = true →
    (calendarOf (l.map (fun (y : Byte) => y.toNat))).map calendarValid = some true →
    a.flag R.LEDGER_CFG_CAL_SIGNED = false ∨ (z = true ∧ a.flag R.KEY_STATUS_OWNER_SET = true) → ∃ u,
    exec (.ledgerCalendarLoad x l z) s = .next u ∧ u.answer x = some St.OK ∧ u.ledger.pending =
    calendarOf (l.map (fun (y : Byte) => y.toNat)) ∧ u.ledger.calendar = a.ledger.calendar) ∧
  (∀ (s : State) (x : Ctx) (l : List Byte) (z : Bool), let b := s.advance x.t; let a := b.start x;
    b.takes x Op.LEDGER_CALENDAR_LOAD 0 = true → a.flag R.LEDGER_CFG_CAL_SIGNED = true → z = false ∨
    a.flag R.KEY_STATUS_OWNER_SET = false → exec (.ledgerCalendarLoad x l z) s =
    .next (a.complete x St.BAD_SIGNATURE)) ∧
  (∀ (s : State) (x : Ctx) (l : List Byte) (z : Bool), let b := s.advance x.t; let a := b.start x;
    b.takes x Op.LEDGER_CALENDAR_LOAD 0 = true →
    (calendarOf (l.map (fun (y : Byte) => y.toNat))).map calendarValid ≠ some true →
    a.flag R.LEDGER_CFG_CAL_SIGNED = false → exec (.ledgerCalendarLoad x l z) s =
    .next (a.complete x St.CALENDAR_INVALID)) ∧
  (∀ (l : List Nat) (c : Calendar), calendarOf l = some c → leField l 0 2 = 1 ∧ c.activation = leField l 2 8 ∧
    c.offset = dec 16 (leField l 10 2) ∧ c.seasons.length = leField l 12 1 ∧ c.weeks.length = leField l 13 1 ∧
    c.days.length = leField l 14 1 ∧ c.specials.length = leField l 15 1 ∧ c.dst.length = leField l 16 1) ∧
  (∀ (s : State) (x : Ctx), let b := s.advance x.t; let a := b.start x; b.takes x Op.LEDGER_BILLING_CLOSE 0 = true →
    a.flag R.LEDGER_BILL_CFG_CMD_CLOSE = true → a.rtcValid = true → a.ledger.billCtx = none → a.ledger.lastCmdAt1 =
    0 → exec (.ledgerBillingClose x) s =
    .next (({ a with ledger := { a.ledger with billCtx := some x, lastCmdAt1 := a.ledgerMsAt a.mtb + 1 } } : State))) ∧
  (∀ (s : State) (x : Ctx), let b := s.advance x.t; let a := b.start x; b.takes x Op.LEDGER_BILLING_CLOSE 0 = true →
    a.flag R.LEDGER_BILL_CFG_CMD_CLOSE = false → exec (.ledgerBillingClose x) s = .next (a.complete x St.DISABLED)) ∧
  (∀ (s : State) (x : Ctx) (k : Nat) (z : BillSet), let b := s.advance x.t; let a := b.start x;
    b.takes x Op.LEDGER_BILLING_READ 0 = true → a.ledger.bills[k]? = some z → ∃ u, exec (.ledgerBillingRead x k) s =
    .next u ∧ u.answer x = some St.OK ∧ (a.attached = true → u.host.dma =
    [z.no, z.startL, z.startW, z.endL, z.endW, z.cause, z.flags] ++
    z.data.flatMap fun (d : Nat × List Nat) => d.1 :: d.2)) ∧
  (∀ (s : State) (x : Ctx) (k : Nat), let b := s.advance x.t; let a := b.start x;
    b.takes x Op.LEDGER_BILLING_READ 0 = true → a.ledger.bills.length ≤ k → exec (.ledgerBillingRead x k) s =
    .next (a.complete x St.NO_BILL_SET)) ∧
  (∀ (s : State) (x : Ctx), let b := s.advance x.t; let a := b.start x; b.takes x Op.LEDGER_CAL_CHALLENGE 0 = true →
    a.drbgOk = true → ∃ u, exec (.ledgerCalChallenge x) s = .next u ∧ u.answer x = some St.OK ∧ (a.attached = true →
    u.ledger.challenge.map (fun (c : Nat × Nat) => [c.1]) = some u.host.dma) ∧ u.ledger.challenge.map (·.2) =
    some a.mtb) ∧
  (∀ (s : State) (x : Ctx), let b := s.advance x.t; let a := b.start x; b.takes x Op.LEDGER_CAL_CHALLENGE 0 = true →
    a.drbgOk = false → exec (.ledgerCalChallenge x) s = .next (a.complete x St.ENTROPY_FAIL)) ∧
  (∀ (s : State) (x : Ctx) (k n c t : Nat), let b := s.advance x.t; let a := b.start x;
    b.takes x Op.LEDGER_CAL_OPEN 0 = true → k ≠ 0 → k < 4096 → 1 ≤ n → n ≤ 60 → a.flag R.LEDGER_STAT_SEAL = true →
    a.ledger.sealAt + 20 * 10 ^ 6 ≤ a.mtb → a.key.anchors.get none 0 = some ⟨1, 0⟩ → a.ledger.challenge =
    some (c, t) → a.mtb ≤ t + 120 * 10 ^ 9 → a.ledger.cal = none →
    (List.range 12).all (fun m => !a.flag R.MET_SESS_OPEN m) = true → ∃ u, exec (.ledgerCalOpen x k n c true) s =
    .next u ∧ u.answer x = some St.OK ∧ u.ledger.cal = some ⟨k, a.mtb + n * 60 * 10 ^ 9, []⟩ ∧
    u.flag R.LEDGER_STAT_CAL_OPEN = true ∧ u.ledger.challenge = none) ∧
  (∀ (s : State) (x : Ctx) (k n c : Nat) (z : Bool), let b := s.advance x.t; let a := b.start x;
    b.takes x Op.LEDGER_CAL_OPEN 0 = true → k ≠ 0 → k < 4096 → 1 ≤ n → n ≤ 60 → a.flag R.LEDGER_STAT_SEAL = false →
    ∃ u, exec (.ledgerCalOpen x k n c z) s = .next u ∧ u.answer x = some St.SEAL_NOT_ASSERTED ∧ u.ledger.cal =
    a.ledger.cal ∧ u.rd R.LEDGER_TAMPER_COUNT 18 = satAdd R.LEDGER_TAMPER_COUNT.w (a.rd R.LEDGER_TAMPER_COUNT 18) 1) ∧
  (∀ (s : State) (x : Ctx) (k n c : Nat) (z : Bool), let b := s.advance x.t; let a := b.start x;
    b.takes x Op.LEDGER_CAL_OPEN 0 = true → k = 0 ∨ 4096 ≤ k ∨ n = 0 ∨ 60 < n → exec (.ledgerCalOpen x k n c z) s =
    .next (a.complete x St.BAD_PARAM)) ∧
  (∀ (s : State) (x : Ctx) (c : CalOpen), let b := s.advance x.t; let a := b.start x;
    b.takes x Op.LEDGER_CAL_CLOSE 0 = true → a.ledger.cal = some c → ∃ u, exec (.ledgerCalClose x) s = .next u ∧
    u.answer x = some St.OK ∧ u.ledger.cal = none ∧ u.flag R.LEDGER_STAT_CAL_OPEN = false) ∧
  (∀ (s : State) (x : Ctx), let b := s.advance x.t; let a := b.start x; b.takes x Op.LEDGER_CAL_CLOSE 0 = true →
    a.ledger.cal = none → exec (.ledgerCalClose x) s = .next (a.complete x St.NO_CAL)) ∧
  (∀ (s : State) (x : Ctx), let b := s.advance x.t; let a := b.start x; b.takes x Op.LEDGER_LEGAL_ID 0 = true →
    exec (.ledgerLegalId x) s = .next ((a.giveBuffer [a.rd R.LEDGER_LEGAL_ID_SHA256]).complete x St.OK)) ∧
  (∀ (s : State) (x : Ctx), let b := s.advance x.t; let a := b.start x; b.takes x Op.LEDGER_ACK_LOSS 0 = true → ∃ u,
    exec (.ledgerAckLoss x) s = .next u ∧ u.answer x = some St.OK ∧ u.rd R.LEDGER_STAT_POSSIBLE_LOSS = 0)

/-- What the modem, beacon and SYNC_IN events do. A frame on a modem, the start of a superframe, a beacon, and an
edge of SYNC_IN. Where a clause rests on a choice of the model, it is that of log entries 75, 96, 97, 128, 129,
130, 132, 133, 251, 252, 253, 254 and 256, and no rule is cited for it. (R325, R326, R328, R330, R335, R336, R337,
R338, R342) -/
def Obligations.ModemEvents : Prop :=
  (∀ (s : State) (t : Nat) (i g m : Nat) (y : List (List Int)), let a := s.advance t; a.up = true → i < 10 →
    a.flag R.PLC_CFG_EN i = true → ∃ u, exec (.plcFrameRx t i g m y false) s = .next u ∧
    u.rd R.PLC_STAT_RX_FRAMES i = (a.rd R.PLC_STAT_RX_FRAMES i + 1) % 2 ^ R.PLC_STAT_RX_FRAMES.w ∧
    u.rd R.PLC_STAT_FEC_FAIL i = (a.rd R.PLC_STAT_FEC_FAIL i + 1) % 2 ^ R.PLC_STAT_FEC_FAIL.w ∧
    u.rd R.PLC_STAT_AGC i = min 28 g ∧ u.rd R.PLC_STAT_IMPULSES i =
    satAdd R.PLC_STAT_IMPULSES.w (a.rd R.PLC_STAT_IMPULSES i) (a.blankFrame i m y).1 ∧
    u.rd R.PLC_STAT_BLANKED_SYM i =
    satAdd R.PLC_STAT_BLANKED_SYM.w (a.rd R.PLC_STAT_BLANKED_SYM i) (a.blankFrame i m y).2.1 ∧
    u.rd R.PLC_STAT_ERASED_SYM i =
    satAdd R.PLC_STAT_ERASED_SYM.w (a.rd R.PLC_STAT_ERASED_SYM i) (a.blankFrame i m y).2.2) ∧
  (∀ (s : State) (i m : Nat) (y : List (List Int)), 8 ≤ i → (s.blankFrame i m y).1 =
    runsOf false (blankAround (4 * s.rd R.PLC_CFG_BLANK_EXT i) (y.flatten.map fun v => over12 v || decide ((s.rd R.PLC_CFG_BLANK_THR i : Int) ≤ ((code12 v).natAbs : Int))))) ∧
  (∀ (s : State) (t : Nat) (i g m : Nat) (y : List (List Int)) (z : Bool), let a := s.advance t; a.up = true →
    a.flag R.PLC_CFG_EN i = false ∨ 10 ≤ i → exec (.plcFrameRx t i g m y z) s = .next (a)) ∧
  (∀ (s : State) (t : Nat), let a := s.advance t; a.up = true → a.trxState = 5 → a.sfNext a.offNext ≤ a.mtb → ∃ u,
    exec (.superframeStart t) s = .next u ∧ u.rd R.PLC_TRELLIS_STAT_SF_COUNT = (a.rd R.PLC_TRELLIS_STAT_SF_COUNT +
    1) % 2 ^ 32 ∧ u.plc.sfStart = a.sfNext a.offNext ∧ u.plc.air.map (·.typ) = [fBEACON] ∧ u.plc.ctr = a.plc.ctr +
    1) ∧
  (∀ (s : State) (t : Nat), let a := s.advance t; a.up = true → a.trxState ≠ 0 → a.trxState ≠ 1 → a.trxState ≠ 5 →
    a.sfNext a.offNext ≤ a.mtb → ∃ u, exec (.superframeStart t) s = .next u ∧ u.plc.offNow =
    max (a.plc.offNow - 50) (min (a.plc.offNow + 50) (a.rdInt R.PLC_TRELLIS_CFG_SF_OFFSET)) ∧ u.plc.air = [] ∧
    u.plc.ticks = a.plc.ticks + 1 ∧ u.plc.sfStart = a.sfNext a.offNext) ∧
  (∀ (s : State) (t : Nat), let a := s.advance t; a.up = true → a.trxState = 0 ∨ a.trxState = 1 ∨ a.mtb <
    a.sfNext a.offNext → exec (.superframeStart t) s = .next (a)) ∧
  (∀ (s : State), s.trxState = 5 → s.rd R.PLC_TRELLIS_CFG_ALIGN ≠ 0 → s.plc.syncRef1 = 0 →
    (s.sfNext s.plc.offNow : Int) = max 0 ((s.plc.sfStart : Int) + s.sfLen)) ∧
  (∀ (s : State) (t : Nat) (h : THdr) (m p c k : Nat) (r : List Nat), let a := s.advance t; a.up = true →
    a.trxState = 1 → a.taken h = true → h.seg = a.rd R.PLC_TRELLIS_CFG_SEGMENT → 1 ≤ h.tx → h.tx ≤ 254 → h.tx ≠
    a.trxAddr → h.tagOk = true → a.ctrFresh h.tx h.ctr = true → (a.plc.seen.get [] h.src).contains (65536 + h.ctr) =
    false → ∃ u, exec (.beaconRx t h m p c k r) s = .next u ∧ u.trxState = 2 ∧ u.rd R.PLC_TRELLIS_STAT_COORD =
    c % 2 ^ R.PLC_TRELLIS_STAT_COORD.w ∧ u.plc.sfStart = m - 500000 * p ∧ u.plc.beaconAt = a.mtb) ∧
  (∀ (s : State) (t : Nat) (h : THdr) (m p c k : Nat) (r : List Nat), let a := s.advance t; a.up = true →
    a.trxState = 3 → a.taken h = true → h.seg = a.rd R.PLC_TRELLIS_CFG_SEGMENT → 1 ≤ h.tx → h.tx ≤ 254 → h.tx ≠
    a.trxAddr → h.tagOk = true → a.ctrFresh h.tx h.ctr = true → (a.plc.seen.get [] h.src).contains (65536 + h.ctr) =
    false → ∃ u, exec (.beaconRx t h m p c k r) s = .next u ∧ u.trxState = 3 ∧ u.rd R.PLC_TRELLIS_STAT_SF_COUNT =
    k % 2 ^ 32 ∧ u.plc.beaconAt = a.mtb) ∧
  (∀ (s : State) (t : Nat) (h : THdr) (m p c k : Nat) (r : List Nat), let a := s.advance t; a.up = true →
    a.trxState ≠ 0 → a.taken h = true → h.seg = a.rd R.PLC_TRELLIS_CFG_SEGMENT → 1 ≤ h.tx → h.tx ≤ 254 → h.tx ≠
    a.trxAddr → h.tagOk = false → ∃ u, exec (.beaconRx t h m p c k r) s = .next u ∧
    u.rd R.PLC_TRELLIS_STAT_AUTH_DROP =
    satAdd R.PLC_TRELLIS_STAT_AUTH_DROP.w (a.rd R.PLC_TRELLIS_STAT_AUTH_DROP) 1 ∧ u.trxState = a.trxState) ∧
  (∀ (s : State) (t : Nat) (m : Nat) (z : Bool), let a := s.advance t; a.up = true → m + 1000 ≤ a.mtb →
    a.plc.syncAt1.get 0 (b2n z) ≠ 0 → m - 3 < a.plc.syncAt1.get 0 (b2n z) - 1 + 10 ^ 7 →
    exec (.syncInEdge t m z) s = .next (a.incSat R.PLC_SYNC_GLITCHES 0)) ∧
  (∀ (s : State) (t : Nat) (m : Nat) (z : Bool), let a := s.advance t; a.up = true → a.mtb < m + 1000 →
    exec (.syncInEdge t m z) s = .next (a)) ∧
  (∀ (s : State) (t : Nat) (m : Nat) (z : Bool), let a := s.advance t; a.up = true → m + 1000 ≤ a.mtb →
    a.plc.syncAt1.get 0 (b2n z) = 0 → m < 2 ^ 63 → a.flag R.LEDGER_DEMAND_CFG_SYNC_EN = false → ∃ u,
    exec (.syncInEdge t m z) s = .next u ∧ u.rd R.PLC_SYNC_EDGES =
    satAdd R.PLC_SYNC_EDGES.w (a.rd R.PLC_SYNC_EDGES) 1 ∧ u.rd R.PLC_SYNC_LAST_MTB = m - 3 ∧
    u.rd R.PLC_SYNC_LAST_DIR = b2n z ∧ u.plc.syncAt1.get 0 (b2n z) = m - 3 + 1) ∧
  (∀ (s : State) (t : Nat) (m : Nat), let a := s.advance t; a.up = true → m + 1000 ≤ a.mtb → a.plc.syncAt1.get 0 0 =
    0 → m < 2 ^ 63 → a.flag R.LEDGER_DEMAND_CFG_SYNC_EN = false → a.rd R.PLC_TRELLIS_CFG_ALIGN ≠ 0 → a.trxState =
    5 → a.rd R.PLC_TRELLIS_CFG_SYNC_EDGE = 0 → ∃ u, exec (.syncInEdge t m false) s = .next u ∧ u.plc.syncRef1 =
    m - 3 + 1)

/-- What the frames of Trellis do. Frames that arrive for this node, and the sending of frames with its
acknowledgement. Where a clause rests on a choice of the model, it is that of log entries 9, 27, 85, 86, 97, 128,
129, 130, 131, 133, 134, 171, 177, 252, 253, 254 and 255, and no rule is cited for it. (R292, R340, R341, R342,
R343, R345, R346, R347, R348, R349, R351, R459) -/
def Obligations.TrellisFrames : Prop :=
  (∀ (s : State) (t : Nat) (f : TFrame), let a := s.advance t; a.up = true → a.trxState ≠ 0 → a.trxState ≠ 1 →
    a.contention = true → a.plc.wait = none → a.plc.silent = false → a.nextFrame = some f → f.dst ≠ 0xFF → f.via =
    0 → a.rd R.PLC_TRELLIS_LQ_NEXT_HOP (f.dst - 1) ≠ 0 → f.tries = 0 → ∃ u, exec (.trellisTx t) s = .next u ∧
    u.plc.wait.map (fun (g : TFrame) => (g.seq, g.tx, g.rx, g.ctr, g.tries)) =
    some (f.seq, a.trxAddr, a.rd R.PLC_TRELLIS_LQ_NEXT_HOP (f.dst - 1), a.plc.ctr, 1) ∧ u.plc.ctr = a.plc.ctr + 1) ∧
  (∀ (s : State) (t : Nat) (f : TFrame), let a := s.advance t; a.up = true → a.trxState ≠ 0 → a.trxState ≠ 1 →
    a.contention = true → a.plc.wait = none → a.plc.silent = false → a.plc.reqs = [] → a.nextFrame = some f →
    f.dst = 0xFF → ∃ u, exec (.trellisTx t) s = .next u ∧ u.plc.wait = none ∧ u.plc.ctr = a.plc.ctr + 1 ∧
    u.plc.air.length = a.plc.air.length + 1) ∧
  (∀ (s : State) (t : Nat), let a := s.advance t; a.up = true → a.plc.wait ≠ none ∨ a.plc.silent = true ∨
    a.trxState = 0 ∨ a.trxState = 1 ∨ a.contention = false → exec (.trellisTx t) s = .next (a)) ∧
  (∀ (s : State) (t : Nat) (h : THdr) (q c : Nat) (f : TFrame), let a := s.advance t; a.up = true → a.taken h =
    true → a.plc.wait = some f → h.tagOk = true → h.tx = f.rx → q = f.seq → c = f.ctr → a.ctrFresh h.tx h.ctr =
    true → f.ctx = none → ∃ u, exec (.ack t h q c) s = .next u ∧ u.plc.wait = none ∧
    (u.plc.ctrs.get [] h.tx).head? = some h.ctr) ∧
  (∀ (s : State) (t : Nat) (h : THdr) (q c : Nat) (f : TFrame), let a := s.advance t; a.up = true → a.plc.wait =
    some f → h.tagOk = false ∨ h.tx ≠ f.rx ∨ q ≠ f.seq ∨ c ≠ f.ctr → exec (.ack t h q c) s = .next (a)) ∧
  (∀ (s : State) (t : Nat) (f : TFrame), let a := s.advance t; a.up = true → a.plc.wait = some f → f.at_ + 200000 ≤
    a.mtb → 4 ≤ f.tries → f.ctx = none → ∃ u, exec (.trellisAckTimeout t) s = .next u ∧ u.plc.wait = none ∧
    u.rd R.PLC_TRELLIS_STAT_TX_DROPPED =
    satAdd R.PLC_TRELLIS_STAT_TX_DROPPED.w (a.rd R.PLC_TRELLIS_STAT_TX_DROPPED) 1 ∧
    (u.link f.rx f.modem).fails.head? = some true) ∧
  (∀ (s : State) (t : Nat) (f : TFrame), let a := s.advance t; a.up = true → a.plc.wait = some f → f.at_ + 200000 ≤
    a.mtb → f.tries < 4 → ∃ u, exec (.trellisAckTimeout t) s = .next u ∧ u.plc.wait = none ∧ u.tq f.cls = f ::
    a.tq f.cls ∧ (u.link f.rx f.modem).fails.head? = some true) ∧
  (∀ (s : State) (t : Nat) (h : THdr) (k c : Nat), let a := s.advance t; a.up = true → a.taken h = true → h.seg =
    a.rd R.PLC_TRELLIS_CFG_SEGMENT → 1 ≤ h.tx → h.tx ≤ 254 → h.tx ≠ a.trxAddr → h.tagOk = true →
    a.ctrFresh h.tx h.ctr = true → (a.plc.seen.get [] h.src).contains h.seq = false → h.dst = a.trxAddr → h.rx =
    a.trxAddr → a.trxState = 5 → a.plc.nodes.get none h.src = none → a.plc.nodes.cells.length < 254 → h.src ≠
    a.trxAddr → (a.tq 1).length < 64 → ∃ u, exec (.joinReq t h k c) s = .next u ∧ u.plc.nodes.get none h.src =
    some (k, a.mtb) ∧ (u.tq 1).map (·.typ) = (a.tq 1).map (·.typ) ++ [fJOIN_RESULT] ∧ u.told =
    some (Ev.TRELLIS_NODE, 0, [h.src, 1, h.hops + 1])) ∧
  (∀ (s : State) (t : Nat) (h : THdr) (c : Nat), let a := s.advance t; a.up = true → a.taken h = true → h.seg =
    a.rd R.PLC_TRELLIS_CFG_SEGMENT → 1 ≤ h.tx → h.tx ≤ 254 → h.tx ≠ a.trxAddr → h.tagOk = true →
    a.ctrFresh h.tx h.ctr = true → (a.plc.seen.get [] h.src).contains h.seq = false → h.dst = a.trxAddr → h.rx =
    a.trxAddr → a.trxState = 2 → a.plc.backoff = none → ∃ u, exec (.joinResult t h 0 c) s = .next u ∧ u.trxState =
    3) ∧
  (∀ (s : State) (t : Nat) (h : THdr) (c : Nat), let a := s.advance t; a.up = true → a.taken h = true → h.seg =
    a.rd R.PLC_TRELLIS_CFG_SEGMENT → 1 ≤ h.tx → h.tx ≤ 254 → h.tx ≠ a.trxAddr → h.tagOk = true →
    a.ctrFresh h.tx h.ctr = true → (a.plc.seen.get [] h.src).contains h.seq = false → h.dst = a.trxAddr → h.rx =
    a.trxAddr → a.trxState = 2 → a.plc.backoff = none → ∃ u, exec (.joinResult t h 2 c) s = .next u ∧ u.trxState =
    2 ∧ u.plc.backoff = some (a.mtb + 250 * a.sfLen)) ∧
  (∀ (s : State) (t : Nat) (h : THdr) (c : Nat), let a := s.advance t; a.up = true → a.taken h = true → h.seg =
    a.rd R.PLC_TRELLIS_CFG_SEGMENT → 1 ≤ h.tx → h.tx ≤ 254 → h.tx ≠ a.trxAddr → h.tagOk = true →
    a.ctrFresh h.tx h.ctr = true → (a.plc.seen.get [] h.src).contains h.seq = false → h.dst = a.trxAddr → h.rx =
    a.trxAddr → a.trxState = 2 → a.plc.backoff = none → ∃ u, exec (.joinResult t h 1 c) s = .next u ∧ u.trxState =
    0 ∧ u.flag R.PLC_CFG_EN 8 = false ∧ u.plc.queues = .empty) ∧
  (∀ (s : State) (t : Nat) (h : THdr) (d m k : Nat), let a := s.advance t; a.up = true → a.trxState = 3 →
    a.taken h = true → h.seg = a.rd R.PLC_TRELLIS_CFG_SEGMENT → 1 ≤ h.tx → h.tx ≤ 254 → h.tx ≠ a.trxAddr → h.tagOk =
    true → a.ctrFresh h.tx h.ctr = true → (a.plc.seen.get [] h.src).contains h.seq = false → h.dst = 0xFF → h.rx =
    0xFF → h.src = h.tx → d < 256 → ∃ u, exec (.lqReport t h [(d, m, k)]) s = .next u ∧
    u.plc.reports.get (noCost, 0) (256 * h.tx + d) = (m, k)) ∧
  (∀ (s : State) (t : Nat) (h : THdr) (v w : Nat), let a := s.advance t; a.up = true → a.taken h = true → h.seg =
    a.rd R.PLC_TRELLIS_CFG_SEGMENT → 1 ≤ h.tx → h.tx ≤ 254 → h.tx ≠ a.trxAddr → h.tagOk = true →
    a.ctrFresh h.tx h.ctr = true → (a.plc.seen.get [] h.src).contains h.seq = false → h.dst = a.trxAddr → h.rx =
    a.trxAddr → a.trxState = 3 → w < 2 ^ 32 → v ≠ 0 → v ≤ a.rd R.OUT_POLICY_TRELLIS_TO_S → ∃ u,
    exec (.siteLimit t h v [(h.dst, w)]) s = .next u ∧ u.rd R.OUT_SITE_TRELLIS_W = w ∧ u.out.trellisDue =
    some (a.mtb + 10 ^ 9 * v) ∧ u.out.fallback = false ∧ u.told = some (Ev.TRELLIS_LIMIT, 0, [w, v, h.src])) ∧
  (∀ (s : State) (t : Nat) (h : THdr) (k m : Nat), let a := s.advance t; a.up = true → a.taken h = true → h.seg =
    a.rd R.PLC_TRELLIS_CFG_SEGMENT → 1 ≤ h.tx → h.tx ≤ 254 → h.tx ≠ a.trxAddr → h.tagOk = true →
    a.ctrFresh h.tx h.ctr = true → (a.plc.seen.get [] h.src).contains h.seq = false → h.dst = a.trxAddr → h.rx =
    a.trxAddr → a.trxState = 3 → a.rtcValid = false → a.ledger.bound = none → m < 1000 * 2 ^ 31 → a.mtb < 2 ^ 60 →
    a.plc.sfStart ≤ a.mtb → k = a.rd R.PLC_TRELLIS_STAT_SF_COUNT → ∃ u, exec (.time t h k m none) s = .next u ∧
    u.rtcValid = true ∧ u.rd R.GLOBAL_MTB_UTC_UTC_SEC = (m + (a.mtb - a.plc.sfStart) / 10 ^ 6) / 1000) ∧
  (∀ (s : State) (t : Nat) (h : THdr) (d : List Byte), let a := s.advance t; a.up = true → a.taken h = true →
    h.seg = a.rd R.PLC_TRELLIS_CFG_SEGMENT → 1 ≤ h.tx → h.tx ≤ 254 → h.tx ≠ a.trxAddr → h.tagOk = true →
    a.ctrFresh h.tx h.ctr = true → (a.plc.seen.get [] h.src).contains h.seq = false → h.dst = a.trxAddr → h.rx =
    a.trxAddr → a.trxState = 3 → ∃ u, exec (.hostData t h d) s = .next u ∧ u.plc.rxRecs =
    (([h.src, h.cls, d.length, a.mtb] ++ d.map fun (b : Byte) => b.toNat) :: a.plc.rxRecs).take 64) ∧
  (∀ (s : State) (t : Nat) (h : THdr) (d n g : Nat), let a := s.advance t; a.up = true → a.taken h = true → h.seg =
    a.rd R.PLC_TRELLIS_CFG_SEGMENT → 1 ≤ h.tx → h.tx ≤ 254 → h.tx ≠ a.trxAddr → h.tagOk = true →
    a.ctrFresh h.tx h.ctr = true → (a.plc.seen.get [] h.src).contains h.seq = false → h.dst = a.trxAddr → h.rx =
    a.trxAddr → a.trxState = 3 → a.updState = 0 → a.flag R.UPD_CFG_TRELLIS_FETCH = true → a.keyMode ≠ 4 →
    a.rd R.UPD_BOOT_ACTIVE_GEN < g → a.rd R.UPD_BOOT_FLOOR ≤ g → (a.tq 2).length < 64 → ∃ u,
    exec (.imageOffer t h d n g) s = .next u ∧ u.upd.fetch = some (d, h.src) ∧ (u.tq 2).map (·.typ) =
    (a.tq 2).map (·.typ) ++ [fIMAGE_REQ]) ∧
  (∀ (s : State) (t : Nat) (h : THdr) (d m k : Nat), let a := s.advance t; a.up = true → a.taken h = true → h.seg =
    a.rd R.PLC_TRELLIS_CFG_SEGMENT → 1 ≤ h.tx → h.tx ≤ 254 → h.tx ≠ a.trxAddr → h.tagOk = true →
    a.ctrFresh h.tx h.ctr = true → (a.plc.seen.get [] h.src).contains h.seq = false → h.dst = a.trxAddr → h.rx =
    a.trxAddr → a.trxState = 3 → a.servedImage.map (·.1) = some d → a.flag R.PLC_TRELLIS_CFG_SERVE_IMAGES = true →
    a.flag R.PWR_STAT_THROTTLE = true → a.plc.reqs = [] → 1 ≤ k → ∃ u, exec (.imageReq t h d [(m, k)]) s = .next u ∧
    u.plc.reqs = [(h.src, (List.range k).map (m + ·))]) ∧
  (∀ (s : State) (t : Nat) (h : THdr) (d m f : Nat) (l : List Byte) (z : Bool × Bool), let a := s.advance t; a.up =
    true → a.taken h = true → h.seg = a.rd R.PLC_TRELLIS_CFG_SEGMENT → 1 ≤ h.tx → h.tx ≤ 254 → h.tx ≠ a.trxAddr →
    h.tagOk = true → a.ctrFresh h.tx h.ctr = true → (a.plc.seen.get [] h.src).contains h.seq = false → h.dst =
    a.trxAddr → h.rx = a.trxAddr → a.trxState = 3 → f < 5 → l.length = (if f < 4 then 1008 else 64) → a.plc.parts =
    [] → ∃ u, exec (.imageBlock t h d m f l z) s = .next u ∧ u.plc.parts =
    [(h.src, m, a.mtb, [(f, l.map fun (y : Byte) => y.toNat)])]) ∧
  (∀ (s : State) (t : Nat) (h : THdr) (d m f w : Nat) (l : List Byte) (z : Bool × Bool) (e : List (Nat × List Nat)),
    let a := s.advance t; a.up = true → a.taken h = true → h.seg = a.rd R.PLC_TRELLIS_CFG_SEGMENT → 1 ≤ h.tx →
    h.tx ≤ 254 → h.tx ≠ a.trxAddr → h.tagOk = true → a.ctrFresh h.tx h.ctr = true →
    (a.plc.seen.get [] h.src).contains h.seq = false → h.dst = a.trxAddr → h.rx = a.trxAddr → a.trxState = 3 → f <
    5 → l.length = (if f < 4 then 1008 else 64) → a.plc.parts = [(h.src, m, w, e)] → e.length = 4 →
    e.all (fun (q : Nat × List Nat) => q.1 != f) = true → a.updState ≠ 0 → a.updState ≠ 1 → ∃ u,
    exec (.imageBlock t h d m f l z) s = .next u ∧ u.plc.parts = []) ∧
  (∀ (s : State) (t : Nat) (h : THdr) (d m f : Nat) (l : List Byte) (z : Bool × Bool), let a := s.advance t; a.up =
    true → a.taken h = true → h.seg = a.rd R.PLC_TRELLIS_CFG_SEGMENT → 1 ≤ h.tx → h.tx ≤ 254 → h.tx ≠ a.trxAddr →
    h.tagOk = true → a.ctrFresh h.tx h.ctr = true → (a.plc.seen.get [] h.src).contains h.seq = false → h.dst =
    a.trxAddr → h.rx = a.trxAddr → a.trxState = 3 → 5 ≤ f ∨ l.length ≠ (if f < 4 then 1008 else 64) → ∃ u,
    exec (.imageBlock t h d m f l z) s = .next u ∧ u.plc.parts = a.plc.parts)

/-- What the timers of Trellis do. Timers of the node states, of joining, of node records and of image blocks, and
the frames sent on a schedule. Where a clause rests on a choice of the model, it is that of log entries 9, 130 and
177, and no rule is cited for it. (R341, R342, R345, R347, R348, R349) -/
def Obligations.TrellisTimers : Prop :=
  (∀ (s : State) (t : Nat), let a := s.advance t; a.up = true → ∃ u, exec (.imageBlockExpiry t) s = .next u ∧
    u.plc.parts =
    a.plc.parts.filter fun (p : Nat × Nat × Nat × List (Nat × List Nat)) => decide (a.mtb < p.2.2.1 + 250 * a.sfLen)) ∧
  (∀ (s : State) (t : Nat), let a := s.advance t; a.up = true → a.trxState = 1 → a.flag R.PLC_TRELLIS_CFG_ROLE =
    true → a.plc.beaconAt + 50 * a.sfLen ≤ a.mtb → ∃ u, exec (.trellisBeaconTimeout t) s = .next u ∧ u.trxState =
    5 ∧ u.rd R.PLC_TRELLIS_STAT_COORD = a.trxAddr ∧ u.plc.nodes = .empty) ∧
  (∀ (s : State) (t : Nat), let a := s.advance t; a.up = true → a.trxState = 3 → a.plc.beaconAt + 50 * a.sfLen ≤
    a.mtb → ∃ u, exec (.trellisBeaconTimeout t) s = .next u ∧ u.trxState = 4 ∧ u.plc.beaconAt = a.plc.beaconAt) ∧
  (∀ (s : State) (t : Nat), let a := s.advance t; a.up = true → a.trxState = 4 → a.plc.beaconAt + 250 * a.sfLen ≤
    a.mtb → ∃ u, exec (.trellisBeaconTimeout t) s = .next u ∧ u.trxState = 1 ∧ u.rd R.PLC_TRELLIS_STAT_COORD = 0) ∧
  (∀ (s : State) (t : Nat), let a := s.advance t; a.up = true → a.trxState = 2 → a.plc.backoff = none →
    a.plc.joinAt + 25 * a.sfLen ≤ a.mtb → exec (.trellisJoinTimeout t) s =
    .next (({ a with plc := { a.plc with backoff := some (a.mtb + 250 * a.sfLen) } } : State))) ∧
  (∀ (s : State) (t : Nat) (d : Nat), let a := s.advance t; a.up = true → a.trxState = 2 → a.plc.backoff = some d →
    d ≤ a.mtb → ∃ u, exec (.trellisJoinBackoffEnd t) s = .next u ∧ u.trxState = 1 ∧ u.plc.backoff = none) ∧
  (∀ (s : State) (t : Nat) (n k z : Nat), let a := s.advance t; a.up = true → a.plc.nodes.get none n = some (k, z) →
    a.trxState = 5 → z + 750 * a.sfLen ≤ a.mtb → ∃ u, exec (.trellisNodeTimeout t n) s = .next u ∧
    u.plc.nodes.get none n = none ∧ u.told = some (Ev.TRELLIS_NODE, 0, [n, 0, a.rd R.PLC_TRELLIS_LQ_HOPS (n - 1)])) ∧
  (∀ (s : State) (t : Nat), let a := s.advance t; a.up = true → a.plc.sentAt.get 0 0 + 25 ≤ a.plc.ticks →
    a.trxState = 3 ∨ a.trxState = 5 → (a.tq 1).length < 64 → ∃ u, exec (.lqReportSend t) s = .next u ∧
    (u.tq 1).map (·.typ) = (a.tq 1).map (·.typ) ++ [fLQ_REPORT] ∧ (u.tq 1).getLast?.map (·.dst) = some 0xFF) ∧
  (∀ (s : State) (t : Nat) (v : Nat) (e : List (Nat × Nat)), let a := s.advance t; a.up = true →
    a.plc.sentAt.get 0 1 + 250 ≤ a.plc.ticks → a.trxState = 5 → a.plc.limit = some (v, e) → (a.tq 0).length < 64 →
    ∃ u, exec (.siteLimitRepeat t) s = .next u ∧ (u.tq 0).map (·.typ) = (a.tq 0).map (·.typ) ++ [fSITE_LIMIT]) ∧
  (∀ (s : State) (t : Nat), let a := s.advance t; a.up = true → a.plc.sentAt.get 0 2 + 1500 ≤ a.plc.ticks →
    a.trxState = 5 → a.rtcValid = true → (a.tq 1).length < 64 → ∃ u, exec (.timeSend t) s = .next u ∧
    (u.tq 1).getLast?.map (fun (f : TFrame) => (f.typ, f.payload)) =
    some (fTIME, timeBytes (a.rd R.PLC_TRELLIS_STAT_SF_COUNT) (a.wallMsAt a.plc.sfStart) [])) ∧
  (∀ (s : State) (t : Nat) (d n g : Nat), let a := s.advance t; a.up = true → a.plc.sentAt.get 0 3 + 1500 ≤
    a.plc.ticks → a.servedImage = some (d, n, g) → a.flag R.PLC_TRELLIS_CFG_SERVE_IMAGES = true → a.trxState = 3 →
    (a.tq 2).length < 64 → ∃ u, exec (.imageOfferSend t) s = .next u ∧
    (u.tq 2).getLast?.map (fun (f : TFrame) => (f.typ, f.dst, f.payload)) =
    some (fIMAGE_OFFER, 0xFF, offerBytes d n g)) ∧
  (∀ (s : State) (t : Nat), let a := s.advance t; a.up = true → a.plc.ticks < a.plc.sentAt.get 0 0 + 25 →
    exec (.lqReportSend t) s = .next (a)) ∧
  (∀ (s : State) (t : Nat), let a := s.advance t; a.up = true → a.plc.ticks < a.plc.sentAt.get 0 1 + 250 →
    exec (.siteLimitRepeat t) s = .next (a)) ∧
  (∀ (s : State) (t : Nat), let a := s.advance t; a.up = true → a.plc.ticks < a.plc.sentAt.get 0 2 + 1500 →
    exec (.timeSend t) s = .next (a)) ∧
  (∀ (s : State) (t : Nat), let a := s.advance t; a.up = true → a.plc.ticks < a.plc.sentAt.get 0 3 + 1500 →
    exec (.imageOfferSend t) s = .next (a))

/-- TRELLIS.CFG.EN and the PLC commands. Enabling and disabling of the node, PLC_QUERY, TRELLIS_SEND,
TRELLIS_LIMIT_SEND, TRELLIS_LQ_READ and TRELLIS_RESTART. Where a clause rests on a choice of the model, it is that
of log entries 130, 131, 132 and 201, and no rule is cited for it. (R325, R342, R344, R347, R351) -/
def Obligations.TrellisCommands : Prop :=
  (∀ (s : State) (t : Nat), let a := s.advance t; a.up = true → a.trxState = 0 → a.trxAddr ≠ 0 →
    a.rd R.PLC_TRELLIS_CFG_SEGMENT ≠ 0 → a.flag R.GLOBAL_ISLAND_STAT_READY 8 = true → ∃ u,
    exec (.trellisEnable t true) s = .next u ∧ u.trxState = 1 ∧ u.flag R.PLC_CFG_EN 8 = true) ∧
  (∀ (s : State) (t : Nat), let a := s.advance t; a.up = true → a.trxState ≠ 0 → ∃ u,
    exec (.trellisEnable t false) s = .next u ∧ u.trxState = 0 ∧ u.flag R.PLC_CFG_EN 8 = false ∧ u.plc.queues =
    .empty ∧ u.plc.wait = none) ∧
  (∀ (s : State) (x : Ctx) (i : Nat), let b := s.advance x.t; let a := b.start x; b.takes x Op.PLC_QUERY i = true →
    i < 10 → exec (.plcQuery x i) s = .next (a.complete x St.OK (16 * a.rd R.PLC_STAT_LINK i +
    2 ^ 8 * a.rd R.PLC_STAT_AGC i + 2 ^ 16 * a.rd R.PLC_STAT_IMPULSES i + 2 ^ 32 * a.rd R.PLC_STAT_ERASED_SYM i +
    2 ^ 48 * a.rd R.PLC_STAT_BLANKED_SYM i))) ∧
  (∀ (s : State) (x : Ctx) (i : Nat), let b := s.advance x.t; let a := b.start x; b.takes x Op.PLC_QUERY i = true →
    10 ≤ i → exec (.plcQuery x i) s = .next (a.complete x St.BAD_PARAM)) ∧
  (∀ (s : State) (x : Ctx) (d c : Nat) (p : List Byte), let b := s.advance x.t; let a := b.start x;
    b.takes x Op.TRELLIS_SEND 0 = true → 1 ≤ c → c ≤ 3 → 1 ≤ d → d < 255 → a.trxState = 3 → p ≠ [] → p.length ≤
    1024 → a.rd R.PLC_TRELLIS_LQ_HOPS (d - 1) ≠ 0 → (a.tq c).length < 64 → ∃ u, exec (.trellisSend x d c p) s =
    .next u ∧ (u.tq c).getLast?.map (fun (f : TFrame) => (f.typ, f.dst, f.ctx)) = some (fHOST_DATA, d, some x) ∧
    u.answer x = some St.PENDING) ∧
  (∀ (s : State) (x : Ctx) (d c : Nat) (p : List Byte), let b := s.advance x.t; let a := b.start x;
    b.takes x Op.TRELLIS_SEND 0 = true → 1 ≤ c → c ≤ 3 → 1 ≤ d → d ≤ 255 → a.trxState ≠ 3 → a.trxState ≠ 5 →
    exec (.trellisSend x d c p) s = .next (a.complete x St.NOT_JOINED)) ∧
  (∀ (s : State) (x : Ctx) (d c : Nat) (p : List Byte), let b := s.advance x.t; let a := b.start x;
    b.takes x Op.TRELLIS_SEND 0 = true → 1 ≤ c → c ≤ 3 → 1 ≤ d → d ≤ 255 → a.trxState = 3 → p = [] ∨ 1024 <
    p.length → exec (.trellisSend x d c p) s = .next (a.complete x St.PAYLOAD_SIZE)) ∧
  (∀ (s : State) (x : Ctx) (v n w : Nat), let b := s.advance x.t; let a := b.start x;
    b.takes x Op.TRELLIS_LIMIT_SEND 0 = true → v < 65536 → 1 ≤ n → n < 255 → n ≠ a.trxAddr → w < 2 ^ 32 →
    a.flag R.PLC_TRELLIS_CFG_ROLE = true → a.trxState = 5 → (a.tq 0).length < 64 → ∃ u,
    exec (.trellisLimitSend x v [(n, w)]) s = .next u ∧ u.plc.limit = some (v, [(n, w)]) ∧ u.answer x = some St.OK ∧
    (u.tq 0).getLast?.map (·.typ) = some fSITE_LIMIT) ∧
  (∀ (s : State) (x : Ctx) (v n w : Nat), let b := s.advance x.t; let a := b.start x;
    b.takes x Op.TRELLIS_LIMIT_SEND 0 = true → v < 65536 → 1 ≤ n → n ≤ 255 → w < 2 ^ 32 → a.trxState ≠ 5 →
    exec (.trellisLimitSend x v [(n, w)]) s = .next (a.complete x St.NOT_COORDINATOR)) ∧
  (∀ (s : State) (x : Ctx), let b := s.advance x.t; let a := b.start x; b.takes x Op.TRELLIS_LQ_READ 0 = true → ∃ u,
    exec (.trellisLqRead x) s = .next u ∧ u.answer x = some St.OK ∧ (a.attached = true → u.host.dma.length = 2286 ∧
    u.host.dma.head? = some (a.rd R.PLC_TRELLIS_LQ_NEXT_HOP 0))) ∧
  (∀ (s : State) (x : Ctx), let b := s.advance x.t; let a := b.start x; b.takes x Op.TRELLIS_RESTART 0 = true →
    a.trxState ≠ 0 → a.trxMay = true → ∃ u, exec (.trellisRestart x) s = .next u ∧ u.answer x = some St.OK ∧
    u.trxState = 1 ∧ u.plc.queues = .empty)

/-- What the UPD commands do. UPD_BEGIN, UPD_BLOCK, UPD_STATUS, UPD_ACTIVATE, UPD_CONFIRM, UPD_REVERT, UPD_ABORT and
UPD_POLICY, with the statuses that turn them away. Where a clause rests on a choice of the model, it is that of
log entries 141, 171, 172, 173, 176, 177 and 201, and no rule is cited for it. (R454, R455, R456, R457, R458,
R460, R462, R463, R467, R468) -/
def Obligations.UpdateCommands : Prop :=
  (∀ (s : State) (x : Ctx) (l : List Byte) (w : Bool × Bool), let b := s.advance x.t; let a := b.start x;
    b.takes x Op.UPD_BEGIN 0 = true → a.manifestBad (manifestOf (l.map fun (y : Byte) => y.toNat) w) = none →
    a.keyMode ≠ 4 → a.updState = 0 → a.rd R.UPD_STAT_HOLDER = 0 → a.upd.man = none → ∃ u, exec (.updBegin x l w) s =
    .next u ∧ u.answer x = some St.OK ∧ u.updState = 1 ∧ u.rd R.UPD_STAT_HOLDER = 2 ^ 24 ∧ u.upd.man =
    some (manifestOf (l.map fun (y : Byte) => y.toNat) w) ∧ u.upd.bitmap = 1 ∧ u.rd R.UPD_STAT_RECEIVED = 1 ∧
    u.upd.flash.get [] (16384 * a.stagingSlot) = (l.map fun (y : Byte) => y.toNat) ∧ u.upd.idleAt = a.mtb) ∧
  (∀ (s : State) (x : Ctx) (l : List Byte) (w : Bool × Bool), let b := s.advance x.t; let a := b.start x;
    b.takes x Op.UPD_BEGIN 0 = true → a.keyMode ≠ 4 → a.updState ≠ 5 → a.rd R.UPD_STAT_HOLDER = 0 → w.1 = false →
    ∃ u, exec (.updBegin x l w) s = .next u ∧ u.answer x = some St.IMAGE_SIG ∧ u.upd = a.upd ∧
    u.rd R.LEDGER_TAMPER_COUNT 22 = satAdd R.LEDGER_TAMPER_COUNT.w (a.rd R.LEDGER_TAMPER_COUNT 22) 1) ∧
  (∀ (s : State) (x : Ctx) (l : List Byte) (w : Bool × Bool) (e : Nat), let b := s.advance x.t; let a := b.start x;
    b.takes x Op.UPD_BEGIN 0 = true → a.keyMode ≠ 4 → a.updState ≠ 5 → a.rd R.UPD_STAT_HOLDER = 0 →
    a.manifestBad (manifestOf (l.map fun (y : Byte) => y.toNat) w) = some e → e ≠ St.IMAGE_SIG →
    exec (.updBegin x l w) s = .next (a.complete x e)) ∧
  (∀ (s : State) (m : TamecMan), s.manifestBad m = if m.sigOk = false then some St.IMAGE_SIG else
    if s.flag R.UPD_POLICY_OWNER_COSIGN = true ∧ m.cosigOk = false then some St.IMAGE_COSIGN else if m.gen <
    s.rd R.UPD_BOOT_FLOOR then some St.IMAGE_ROLLBACK else if m.formatOk = false then some St.IMAGE_FORMAT else
    none) ∧
  (∀ (s : State) (x : Ctx) (l : List Byte) (w : Bool × Bool), let b := s.advance x.t; let a := b.start x;
    b.takes x Op.UPD_BEGIN 0 = true → a.keyMode ≠ 4 → a.updState ≠ 5 → a.rd R.UPD_STAT_HOLDER / 2 ^ 24 ≠ 0 →
    a.rd R.UPD_STAT_HOLDER / 2 ^ 24 ≠ 1 → exec (.updBegin x l w) s =
    .next (a.complete x St.BUSY (a.rd R.UPD_STAT_HOLDER))) ∧
  (∀ (s : State) (x : Ctx) (l : List Byte) (w : Bool × Bool), let b := s.advance x.t; let a := b.start x;
    b.takes x Op.UPD_BEGIN 0 = true → a.keyMode ≠ 4 → a.updState = 5 → exec (.updBegin x l w) s =
    .next (a.complete x St.TRIAL_ACTIVE)) ∧
  (∀ (s : State) (x : Ctx) (l : List Byte) (w : Bool × Bool), let b := s.advance x.t; let a := b.start x;
    b.takes x Op.UPD_BEGIN 0 = true → a.keyMode = 4 → exec (.updBegin x l w) s =
    .next (a.complete x St.KEY_RECOVERY)) ∧
  (∀ (s : State) (x : Ctx) (m : TamecMan) (n : Nat) (l : List Byte), let b := s.advance x.t; let a := b.start x;
    b.takes x Op.UPD_BLOCK 0 = true → a.keyMode ≠ 4 → a.updState = 1 → a.upd.man = some m →
    a.rd R.UPD_STAT_HOLDER / 2 ^ 24 = 1 → n < m.total → l.length = 4096 → bit a.upd.bitmap n = false →
    a.worn a.stagingSlot = false → m.htBlocks < n → a.tableDone m = true → a.rd R.UPD_STAT_RECEIVED + 1 <
    a.rd R.UPD_STAT_TOTAL → ∃ u, exec (.updBlock x n [l]) s = .next u ∧ u.answer x =
    some (if (a.blockOk a.stagingSlot m n (l.map fun (y : Byte) => y.toNat)) then St.OK else St.BLOCK_CHECK) ∧
    bit u.upd.bitmap n = (a.blockOk a.stagingSlot m n (l.map fun (y : Byte) => y.toNat)) ∧
    u.rd R.UPD_STAT_RECEIVED = a.rd R.UPD_STAT_RECEIVED +
    b2n (a.blockOk a.stagingSlot m n (l.map fun (y : Byte) => y.toNat)) ∧ u.updState = 1 ∧
    u.upd.flash.get [] (16384 * a.stagingSlot + n) =
    if (a.blockOk a.stagingSlot m n (l.map fun (y : Byte) => y.toNat)) then (l.map fun (y : Byte) => y.toNat) else
    a.upd.flash.get [] (16384 * a.stagingSlot + n)) ∧
  (∀ (s : State) (x : Ctx) (m : TamecMan) (n : Nat) (l : List Byte), let b := s.advance x.t; let a := b.start x;
    b.takes x Op.UPD_BLOCK 0 = true → a.keyMode ≠ 4 → a.updState = 1 → a.upd.man = some m →
    a.rd R.UPD_STAT_HOLDER / 2 ^ 24 = 1 → n < m.total → l.length = 4096 → bit a.upd.bitmap n = false →
    a.worn a.stagingSlot = false → m.htBlocks < n → a.tableDone m = false → ∃ u, exec (.updBlock x n [l]) s =
    .next u ∧ u.answer x = some St.HT_FIRST ∧ u.upd = a.upd) ∧
  (∀ (s : State) (x : Ctx) (m : TamecMan) (n : Nat) (l : List Byte), let b := s.advance x.t; let a := b.start x;
    b.takes x Op.UPD_BLOCK 0 = true → a.keyMode ≠ 4 → a.updState = 1 → a.upd.man = some m →
    a.rd R.UPD_STAT_HOLDER / 2 ^ 24 = 1 → n < m.total → l.length = 4096 → bit a.upd.bitmap n = false →
    a.worn a.stagingSlot = false → n ≤ m.htBlocks → (a.updMark n (l.map fun (y : Byte) => y.toNat)).tableDone m =
    false → a.rd R.UPD_STAT_RECEIVED + 1 < a.rd R.UPD_STAT_TOTAL → ∃ u, exec (.updBlock x n [l]) s = .next u ∧
    u.answer x = some St.OK ∧ bit u.upd.bitmap n = true ∧ u.rd R.UPD_STAT_RECEIVED = a.rd R.UPD_STAT_RECEIVED + 1) ∧
  (∀ (s : State) (x : Ctx) (m : TamecMan) (n : Nat) (l : List Byte), let b := s.advance x.t; let a := b.start x;
    b.takes x Op.UPD_BLOCK 0 = true → a.keyMode ≠ 4 → a.updState = 1 → a.upd.man = some m →
    a.rd R.UPD_STAT_HOLDER / 2 ^ 24 = 1 → m.total ≤ n ∨ l.length ≠ 4096 → ∃ u, exec (.updBlock x n [l]) s =
    .next u ∧ u.answer x = some St.BAD_PARAM ∧ u.upd = a.upd) ∧
  (∀ (s : State) (x : Ctx) (n : Nat), let b := s.advance x.t; let a := b.start x; b.takes x Op.UPD_BLOCK 0 = true →
    a.keyMode ≠ 4 → a.rd R.UPD_STAT_HOLDER / 2 ^ 24 = 1 → ∃ u, exec (.updBlock x n []) s = .next u ∧ u.answer x =
    some St.BAD_PARAM) ∧
  (∀ (s : State) (x : Ctx) (f : Nat), let b := s.advance x.t; let a := b.start x; b.takes x Op.UPD_STATUS 0 = true →
    a.rd R.UPD_STAT_HOLDER = 0 → exec (.updStatus x f) s =
    .next ((a.giveBuffer [a.updStat, a.updBoot, (a.upd.man.map (·.digest)).getD 0, bits a.upd.bitmap f 16384]).complete x St.OK)) ∧
  (∀ (s : State) (x : Ctx), let b := s.advance x.t; let a := b.start x; b.takes x Op.UPD_ACTIVATE 0 = true →
    a.updState = 3 → a.flag R.LEDGER_STAT_CAL_OPEN = false → a.flag R.UPD_CFG_LEGAL_SEAL_REQ = false → ∃ u,
    exec (.updActivate x 0) s = .next u ∧ u.updState = 4 ∧ u.answer x = some St.PENDING ∧ u.upd.act =
    some (0, a.mtb, some x)) ∧
  (∀ (s : State) (x : Ctx) (k : Nat), let b := s.advance x.t; let a := b.start x; b.takes x Op.UPD_ACTIVATE 0 =
    true → k < 2 → a.updState ≠ 3 → exec (.updActivate x k) s = .next (a.complete x St.NOT_VERIFIED)) ∧
  (∀ (s : State) (x : Ctx) (k : Nat), let b := s.advance x.t; let a := b.start x; b.takes x Op.UPD_ACTIVATE 0 =
    true → k < 2 → a.updState = 3 → a.flag R.LEDGER_STAT_CAL_OPEN = true → exec (.updActivate x k) s =
    .next (a.complete x St.CAL_ACTIVE)) ∧
  (∀ (s : State) (x : Ctx) (k : Nat) (m : TamecMan), let b := s.advance x.t; let a := b.start x;
    b.takes x Op.UPD_ACTIVATE 0 = true → k < 2 → a.updState = 3 → a.flag R.LEDGER_STAT_CAL_OPEN = false →
    a.flag R.UPD_CFG_LEGAL_SEAL_REQ = true → a.flag R.LEDGER_STAT_SEAL = false → a.upd.man = some m →
    m.parts.getD 3 0 ≠ a.slotPart a.activeSlot 3 → exec (.updActivate x k) s =
    .next (a.complete x St.SEAL_REQUIRED)) ∧
  (∀ (s : State) (x : Ctx), let b := s.advance x.t; let a := b.start x; b.takes x Op.UPD_CONFIRM 0 = true →
    a.updState = 5 → a.health = true → ∃ u, exec (.updConfirm x) s = .next u ∧ u.answer x = some St.OK ∧
    u.updState = 0 ∧ u.rd R.UPD_BOOT_BOOT_STATE = 0 ∧ u.upd.confirmed = a.activeSlot ∧ u.rd R.UPD_BOOT_PTR_GEN =
    (a.rd R.UPD_BOOT_PTR_GEN + 1) % 2 ^ R.UPD_BOOT_PTR_GEN.w) ∧
  (∀ (s : State) (x : Ctx), let b := s.advance x.t; let a := b.start x; b.takes x Op.UPD_CONFIRM 0 = true →
    a.updState = 5 → a.health = false → exec (.updConfirm x) s = .next (a.complete x St.HEALTH_PENDING)) ∧
  (∀ (s : State) (x : Ctx), let b := s.advance x.t; let a := b.start x; b.takes x Op.UPD_CONFIRM 0 = true →
    a.updState ≠ 5 → exec (.updConfirm x) s = .next (a.complete x St.UPD_STATE_ERR)) ∧
  (∀ (s : State) (x : Ctx), let b := s.advance x.t; let a := b.start x; b.takes x Op.UPD_REVERT 0 = true →
    a.updState = 5 → exec (.updRevert x) s =
    .next (((a.complete x St.ACCEPTED).revertStart 3 x (some x)).settleDestroys)) ∧
  (∀ (s : State) (x : Ctx), let b := s.advance x.t; let a := b.start x; b.takes x Op.UPD_REVERT 0 = true →
    a.updState ≠ 5 → exec (.updRevert x) s = .next (a.complete x St.UPD_STATE_ERR)) ∧
  (∀ (s : State) (k : Nat) (c : Option Ctx), s.upd.revert = some (k, c) → s.noneLive = true → s.upd.confirmed < 2 →
    s.revertNow.phase = .vinValid ∧ s.revertNow.activeSlot = s.upd.confirmed ∧
    s.revertNow.rd R.UPD_BOOT_BOOT_STATE = 2 ∧ s.revertNow.upd.reverted = some (k, s.rd R.UPD_BOOT_ACTIVE_GEN) ∧
    s.revertNow.pwr.restart = some 0x11) ∧
  (∀ (s : State) (x : Ctx) (g : Option OwnerSig), let b := s.advance x.t; let a := b.start x;
    b.takes x Op.UPD_ABORT 0 = true → a.updState = 1 → a.rd R.UPD_STAT_HOLDER / 2 ^ 24 = 1 → ∃ u,
    exec (.updAbort x g) s = .next u ∧ u.answer x = some St.OK ∧ u.updState = 0 ∧ u.rd R.UPD_STAT_HOLDER = 0 ∧
    u.upd.man = none ∧ u.upd.bitmap = 0) ∧
  (∀ (s : State) (x : Ctx), let b := s.advance x.t; let a := b.start x; b.takes x Op.UPD_ABORT 0 = true →
    a.updState = 1 → a.rd R.UPD_STAT_HOLDER / 2 ^ 24 ≠ 1 → exec (.updAbort x none) s =
    .next (a.complete x St.BUSY (a.rd R.UPD_STAT_HOLDER))) ∧
  (∀ (s : State) (x : Ctx) (c : Nat) (g : OwnerSig), let b := s.advance x.t; let a := b.start x;
    b.takes x Op.UPD_POLICY 0 = true → a.ownerBad g = none → c < 2 → exec (.updPolicy x c g) s =
    .next (((a.ownerTook g).wr R.UPD_POLICY_OWNER_COSIGN 0 c).complete x St.OK)) ∧
  (∀ (s : State) (x : Ctx) (c e : Nat) (g : OwnerSig), let b := s.advance x.t; let a := b.start x;
    b.takes x Op.UPD_POLICY 0 = true → a.ownerBad g = some e → exec (.updPolicy x c g) s = .next (a.complete x e))

/-- What the update engine and the service UART do. The end of verification, the lock, the flip of an activation and
its time-out, and the trial; the seven frames of the service UART, and a frame that is dropped. Where a clause
rests on a choice of the model, it is that of log entries 1, 116, 141, 171, 172, 173, 175, 176, 177, 178 and 179,
and no rule is cited for it. (R457, R461, R462, R463, R464, R466, R467, R468, R473) -/
def Obligations.UpdateEventsAndServiceUart : Prop :=
  (∀ (s : State) (t : Nat) (z : Bool) (m : TamecMan), let a := s.advance t; a.up = true → a.updState = 2 →
    a.upd.man = some m → ∃ u, exec (.updVerifyDone t z) s = .next u ∧ u.updState =
    (if (z && a.slotAgrees a.stagingSlot m && (Config.hslValue (a.partBytes a.stagingSlot m 1) == m.parts.getD 2 0) && (a.manifestBad m).isNone && (waveOf (a.partBytes a.stagingSlot m 5)).any (·.ok)) then
    3 else 0) ∧ u.rd R.UPD_STAT_HOLDER =
    (if (z && a.slotAgrees a.stagingSlot m && (Config.hslValue (a.partBytes a.stagingSlot m 1) == m.parts.getD 2 0) && (a.manifestBad m).isNone && (waveOf (a.partBytes a.stagingSlot m 5)).any (·.ok)) then
    a.rd R.UPD_STAT_HOLDER else 0) ∧ u.upd.man =
    (if (z && a.slotAgrees a.stagingSlot m && (Config.hslValue (a.partBytes a.stagingSlot m 1) == m.parts.getD 2 0) && (a.manifestBad m).isNone && (waveOf (a.partBytes a.stagingSlot m 5)).any (·.ok)) then
    some m else none) ∧
    ((z && a.slotAgrees a.stagingSlot m && (Config.hslValue (a.partBytes a.stagingSlot m 1) == m.parts.getD 2 0) && (a.manifestBad m).isNone && (waveOf (a.partBytes a.stagingSlot m 5)).any (·.ok)) =
    true → u.upd.waves.get none a.stagingSlot = waveOf (a.partBytes a.stagingSlot m 5) ∧ u.told =
    some (Ev.UPD_VERIFIED, 0, [m.gen, m.digest % 2 ^ 64]))) ∧
  (∀ (s : State) (t : Nat) (m : TamecMan), let a := s.advance t; a.up = true → a.updState = 2 → a.upd.man = some m →
    ∃ u, exec (.updVerifyDone t false) s = .next u ∧ u.updState = 0 ∧ u.rd R.UPD_STAT_HOLDER = 0 ∧ u.upd.man =
    none ∧ u.rd R.UPD_STAT_LAST_STATUS = St.VERIFY_FAIL) ∧
  (∀ (s : State) (t : Nat) (z : Bool), let a := s.advance t; a.up = true → a.updState ≠ 2 →
    exec (.updVerifyDone t z) s = .next (a)) ∧
  (∀ (s : State) (t : Nat), let a := s.advance t; a.up = true → a.updState = 1 ∨ a.updState = 3 → a.upd.idleAt +
    1800 * 10 ^ 9 ≤ a.mtb → ∃ u, exec (.updLockIdle t) s = .next u ∧ u.updState = 0 ∧ u.rd R.UPD_STAT_HOLDER = 0 ∧
    u.upd = a.upd) ∧
  (∀ (s : State) (t : Nat), let a := s.advance t; a.up = true → a.mtb < a.upd.idleAt + 1800 * 10 ^ 9 →
    exec (.updLockIdle t) s = .next (a)) ∧
  (∀ (s : State) (t : Nat) (k z : Nat) (c : Option Ctx) (m : TamecMan), let a := s.advance t; a.up = true →
    a.upd.act = some (k, z, c) → a.updState = 4 → a.activationReady k = true → a.upd.man = some m → a.upd.bootRom =
    false → a.activeSlot < 2 → ∃ u, exec (.updActivationFlip t) s = .next u ∧ u.phase = .vinValid ∧ u.activeSlot =
    a.stagingSlot ∧ u.rd R.UPD_BOOT_BOOT_STATE = 1 ∧ u.updState = 5 ∧ u.rd R.UPD_STAT_HOLDER = 0 ∧
    u.upd.slots.get none a.stagingSlot = some m ∧ u.pwr.restart = some 0x10) ∧
  (∀ (s : State) (t : Nat) (k z : Nat) (c : Option Ctx), let a := s.advance t; a.up = true → a.upd.act =
    some (k, z, c) → a.activationReady k = false → exec (.updActivationFlip t) s = .next (a)) ∧
  (∀ (s : State) (t : Nat) (z : Nat), let a := s.advance t; a.up = true → a.upd.act = some (0, z, none) →
    a.updState = 4 → z + 3600 * 10 ^ 9 * a.rd R.UPD_CFG_IDLE_WAIT_H ≤ a.mtb → ∃ u, exec (.updActivateTimeout t) s =
    .next u ∧ u.updState = 3 ∧ u.upd.act = none ∧ u.rd R.UPD_STAT_LAST_STATUS = St.ACTIVATE_TIMEOUT) ∧
  (∀ (s : State) (t : Nat), let a := s.advance t; a.up = true → a.updState = 5 → a.upd.savedAt + 10 ^ 10 ≤ a.mtb →
    a.rd R.UPD_BOOT_TRIAL_S ≤ 1000 → ∃ u, exec (.trialTimeSave t) s = .next u ∧ u.rd R.UPD_BOOT_TRIAL_S =
    a.rd R.UPD_BOOT_TRIAL_S + 10 ∧ u.upd.savedAt = a.upd.savedAt + 10 ^ 10 ∧ u.rd R.UPD_BOOT_PTR_GEN =
    (a.rd R.UPD_BOOT_PTR_GEN + 1) % 2 ^ R.UPD_BOOT_PTR_GEN.w) ∧
  (∀ (s : State) (t : Nat), let a := s.advance t; a.up = true → a.updState = 5 → a.flag R.UPD_CFG_AUTO_CONFIRM =
    true → a.healthNote.health = true → 60 * 10 ^ 9 * a.rd R.UPD_CFG_CONFIRM_MIN ≤ a.healthNote.upd.healthNs → ∃ u,
    exec (.updAutoConfirm t) s = .next u ∧ u.updState = 0 ∧ u.rd R.UPD_BOOT_BOOT_STATE = 0 ∧ u.upd.confirmed =
    a.activeSlot) ∧
  (∀ (s : State) (t : Nat), let a := s.advance t; a.up = true → a.updState ≠ 5 → exec (.updAutoConfirm t) s =
    .next (a)) ∧
  (∀ (s : State) (t : Nat), let a := s.advance t; a.up = true → a.updState = 5 → a.upd.revert = none →
    900 * 10 ^ 9 ≤ a.rd R.UPD_BOOT_TRIAL_S * 10 ^ 9 + (a.mtb - a.upd.savedAt) → exec (.trialTimeout t) s =
    .next (a.revertStart 1 a.svcCtx none)) ∧
  (∀ (s : State) (t : Nat), let a := s.advance t; a.up = true → a.updState ≠ 5 → exec (.trialTimeout t) s =
    .next (a)) ∧
  (∀ (s : State) (t : Nat) (l : List Byte) (w : Bool × Bool), let a := s.advance t; a.up = true →
    a.manifestBad (manifestOf (l.map fun (y : Byte) => y.toNat) w) = none → a.updState = 0 →
    a.rd R.UPD_STAT_HOLDER = 0 → a.upd.man = none → ∃ u, exec (.svcBegin t l w) s = .next u ∧ u.upd.svc =
    [0x81, St.OK] ∧ u.updState = 1 ∧ u.rd R.UPD_STAT_HOLDER = 3 * 2 ^ 24 ∧ u.upd.man =
    some (manifestOf (l.map fun (y : Byte) => y.toNat) w)) ∧
  (∀ (s : State) (t : Nat) (l : List Byte) (w : Bool × Bool), let a := s.advance t; a.up = true → a.updState = 5 →
    ∃ u, exec (.svcBegin t l w) s = .next u ∧ u.upd.svc = [0x81, St.TRIAL_ACTIVE] ∧ u.updState = 5) ∧
  (∀ (s : State) (t : Nat) (m : TamecMan) (n : Nat) (l : List Byte), let a := s.advance t; a.up = true →
    a.updState = 1 → a.upd.man = some m → a.rd R.UPD_STAT_HOLDER / 2 ^ 24 = 3 → n < m.total → l.length = 4096 →
    bit a.upd.bitmap n = false → a.worn a.stagingSlot = false → m.htBlocks < n → a.tableDone m = true →
    a.rd R.UPD_STAT_RECEIVED + 1 < a.rd R.UPD_STAT_TOTAL → ∃ u, exec (.svcBlock t n l) s = .next u ∧ u.upd.svc =
    [0x82, if (a.blockOk a.stagingSlot m n (l.map fun (y : Byte) => y.toNat)) then St.OK else St.BLOCK_CHECK] ∧
    bit u.upd.bitmap n = (a.blockOk a.stagingSlot m n (l.map fun (y : Byte) => y.toNat)) ∧ u.upd.idleAt =
    if (a.blockOk a.stagingSlot m n (l.map fun (y : Byte) => y.toNat)) then a.mtb else a.upd.idleAt) ∧
  (∀ (s : State) (t : Nat) (n : Nat) (l : List Byte), let a := s.advance t; a.up = true → a.updState ≠ 1 →
    a.upd.man = none → a.rd R.UPD_STAT_HOLDER = 0 → ∃ u, exec (.svcBlock t n l) s = .next u ∧ u.upd.svc =
    [0x82, St.UPD_STATE_ERR] ∧ u.upd.flash = a.upd.flash) ∧
  (∀ (s : State) (t : Nat), let a := s.advance t; a.up = true → a.updState = 3 → a.flag R.LEDGER_STAT_CAL_OPEN =
    false → a.flag R.UPD_CFG_LEGAL_SEAL_REQ = false → ∃ u, exec (.svcActivate t 0) s = .next u ∧ u.updState = 4 ∧
    u.upd.svc = [0x84, St.ACCEPTED] ∧ u.upd.act = some (0, a.mtb, none)) ∧
  (∀ (s : State) (t : Nat) (k : Nat), let a := s.advance t; a.up = true → k < 2 → a.updState ≠ 3 → ∃ u,
    exec (.svcActivate t k) s = .next u ∧ u.upd.svc = [0x84, St.NOT_VERIFIED] ∧ u.updState = a.updState) ∧
  (∀ (s : State) (t : Nat), let a := s.advance t; a.up = true → ∃ u, exec (.svcStatus t) s = .next u ∧ u.upd.svc =
    [0x85, St.OK] ∧ u.regs = a.regs ∧ u.upd.idleAt = (if a.rd R.UPD_STAT_HOLDER / 2 ^ 24 = 3 then a.mtb else
    a.upd.idleAt)) ∧
  (∀ (s : State) (t : Nat) (g : Option OwnerSig), let a := s.advance t; a.up = true → a.updState = 1 →
    a.rd R.UPD_STAT_HOLDER / 2 ^ 24 = 3 → ∃ u, exec (.svcAbort t g) s = .next u ∧ u.upd.svc = [0x86, St.OK] ∧
    u.updState = 0 ∧ u.rd R.UPD_STAT_HOLDER = 0) ∧
  (∀ (s : State) (t : Nat), let a := s.advance t; a.up = true → a.updState = 5 → a.health = true → ∃ u,
    exec (.svcConfirm t) s = .next u ∧ u.upd.svc = [0x87, St.OK] ∧ u.updState = 0 ∧ u.upd.confirmed = a.activeSlot) ∧
  (∀ (s : State) (t : Nat), let a := s.advance t; a.up = true → a.updState ≠ 5 → ∃ u, exec (.svcConfirm t) s =
    .next u ∧ u.upd.svc = [0x87, St.UPD_STATE_ERR] ∧ u.updState = a.updState) ∧
  (∀ (s : State) (t : Nat), let a := s.advance t; a.up = true → a.updState = 5 → exec (.svcRevert t) s =
    .next ((a.svcReply 8 St.ACCEPTED).revertStart 3 a.svcCtx none)) ∧
  (∀ (s : State) (t : Nat), let a := s.advance t; a.up = true → a.updState ≠ 5 → ∃ u, exec (.svcRevert t) s =
    .next u ∧ u.upd.svc = [0x88, St.UPD_STATE_ERR] ∧ u.updState = a.updState) ∧
  (∀ (s : State) (t : Nat), exec (.svcBadFrame t) s = .next (s.advance t))

/-- What the events of the key store do. PUF regeneration, Riddling, the DRBG with its entropy tests, self-tests,
the verification of a credential load and worn flash blocks. Where a clause rests on a choice of the model, it is
that of log entries 1, 28, 61, 114, 142, 143, 145, 146 and 211, and no rule is cited for it. (R354, R355, R357,
R358, R359, R367, R368, R375, R382, R387) -/
def Obligations.KeyStoreEvents : Prop :=
  (∀ (s : State) (t : Nat) (k : Nat), let a := s.advance t; a.up = true → a.keyMode = 1 → a.key.root = none →
    a.rd R.KEY_PUF_STAT_ATTEMPTS < 3 → a.key.tryAt + 10 ^ 7 ≤ a.mtb → k < 2 ^ R.KEY_PUF_STAT_BER.w → ∃ u,
    exec (.pufRetry t (some k)) s = .next u ∧ u.keyMode = 2 ∧ u.rd R.KEY_STATUS_ROOT_OK = 1 ∧ u.key.pufOver = true ∧
    u.key.root.isSome = true ∧ u.rd R.KEY_PUF_STAT_ATTEMPTS = a.rd R.KEY_PUF_STAT_ATTEMPTS + 1 ∧
    u.rd R.KEY_PUF_STAT_BER = k) ∧
  (∀ (s : State) (t : Nat), let a := s.advance t; a.up = true → a.keyMode = 1 → a.key.root = none →
    a.rd R.KEY_PUF_STAT_ATTEMPTS = 2 → a.key.tryAt + 10 ^ 7 ≤ a.mtb → ∃ u, exec (.pufRetry t none) s = .next u ∧
    u.keyMode = 4 ∧ u.rd R.KEY_STATUS_ROOT_OK = 0 ∧ u.key.cache = []) ∧
  (∀ (s : State) (t : Nat) (h : Nat), let a := s.advance t; a.up = true → a.drbgOk = true →
    a.rd R.KEY_CFG_RIDDLE_MS ≠ 0 → a.key.riddleAt + 10 ^ 6 * a.rd R.KEY_CFG_RIDDLE_MS ≤ a.mtb → a.mtb ≤
    a.key.riddleAt + 2 * 10 ^ 6 * a.rd R.KEY_CFG_RIDDLE_MS → a.key.cache = [h] → ∃ u, exec (.riddle t) s = .next u ∧
    u.key.riddleAt = a.mtb ∧ u.rd R.KEY_STATUS_RIDDLE_LATE = a.rd R.KEY_STATUS_RIDDLE_LATE ∧ u.key.masks.get 0 h =
    Config.drbg a.key.drbgIdx 256 % 2 ^ 256) ∧
  (∀ (s : State) (t : Nat), let a := s.advance t; a.up = true → a.drbgOk = false → a.rd R.KEY_CFG_RIDDLE_MS ≠ 0 →
    a.key.riddleAt + 10 ^ 6 * a.rd R.KEY_CFG_RIDDLE_MS ≤ a.mtb → ∃ u, exec (.riddle t) s = .next u ∧
    u.key.riddleAt = a.mtb ∧ u.rd R.KEY_STATUS_RIDDLE_LATE =
    satAdd R.KEY_STATUS_RIDDLE_LATE.w (a.rd R.KEY_STATUS_RIDDLE_LATE) 1 ∧ u.key.masks = a.key.masks) ∧
  (∀ (s : State) (t : Nat), let a := s.advance t; a.up = true → a.drbgOk = true → a.key.reseedAt + 10 ^ 10 ≤ a.mtb →
    ∃ u, exec (.drbgReseed t) s = .next u ∧ u.key.reseedAt = a.mtb ∧ u.key.drbgReq = 0 ∧ u.rd R.KEY_DRBG_RESEEDS =
    satAdd R.KEY_DRBG_RESEEDS.w (a.rd R.KEY_DRBG_RESEEDS) 1) ∧
  (∀ (s : State) (t : Nat), let a := s.advance t; a.up = true → a.drbgOk = false ∨ a.mtb < a.key.reseedAt +
    10 ^ 10 → exec (.drbgReseed t) s = .next (a)) ∧
  (∀ (s : State) (t : Nat) (k : Nat), let a := s.advance t; a.up = true → ∃ u, exec (.entropyFail t k) s = .next u ∧
    u.drbgOk = false ∧ u.key.passes = 0 ∧ u.told = some (Ev.ENTROPY_FAIL, 0, [k, 1])) ∧
  (∀ (s : State) (t : Nat), let a := s.advance t; a.up = true → a.drbgOk = false → a.key.testAt + 10 ^ 9 ≤ a.mtb →
    a.key.passes < 2 → exec (.entropyRetest t true) s =
    .next (({ a with key := { a.key with testAt := a.mtb, passes := a.key.passes + 1 } } : State))) ∧
  (∀ (s : State) (t : Nat), let a := s.advance t; a.up = true → a.drbgOk = false → a.key.testAt + 10 ^ 9 ≤ a.mtb →
    2 ≤ a.key.passes → ∃ u, exec (.entropyRetest t true) s = .next u ∧ u.drbgOk = true ∧ u.key.passes = 0 ∧ u.told =
    some (Ev.ENTROPY_FAIL, 0, [a.key.failTest, 0])) ∧
  (∀ (s : State) (t : Nat), let a := s.advance t; a.up = true → a.drbgOk = false → a.key.testAt + 10 ^ 9 ≤ a.mtb →
    exec (.entropyRetest t false) s =
    .next (({ a with key := { a.key with testAt := a.mtb, passes := 0 } } : State))) ∧
  (∀ (s : State) (t : Nat) (k : Option Nat), let a := s.advance t; a.up = true → a.keyMode = 3 → a.key.testCtx =
    none → ∃ u, exec (.keySelftestDone t [3] k) s = .next u ∧ u.keyMode = 4 ∧ u.key.root = none ∧
    u.rd R.KEY_STATUS_ROOT_OK = 0) ∧
  (∀ (s : State) (t : Nat) (k : Nat), let a := s.advance t; a.up = true → a.keyMode = 3 → a.key.testCtx = none →
    ∃ u, exec (.keySelftestDone t [] (some k)) s = .next u ∧ u.keyMode = 2 ∧ u.rd R.KEY_STATUS_ROOT_OK = 1 ∧
    u.rd R.KEY_PUF_STAT_ATTEMPTS = 1) ∧
  (∀ (s : State) (t : Nat) (l : List Nat) (k : Option Nat), let a := s.advance t; a.up = true → a.keyMode ≠ 3 →
    exec (.keySelftestDone t l k) s = .next (a)) ∧
  (∀ (s : State) (t : Nat) (m : Manifest), let a := s.advance t; a.up = true → a.key.manifest = some m →
    a.loadBad m = none → m.gen < 2 ^ 32 → a.credCopy < 2 → ∃ u, exec (.credVerifyDone t) s = .next u ∧ u.credCopy =
    1 - a.credCopy ∧ u.rd R.KEY_CRED_STAT_ACTIVE_GEN = m.gen ∧ u.key.deltas = [] ∧ u.key.load = none ∧
    u.answer m.ctx = some St.OK) ∧
  (∀ (s : State) (t : Nat) (m : Manifest) (k : Nat), let a := s.advance t; a.up = true → a.key.manifest = some m →
    a.loadBad m = some k → ∃ u, exec (.credVerifyDone t) s = .next u ∧ u.credCopy = a.credCopy ∧ u.key.load =
    a.key.load ∧ u.rd R.KEY_CRED_STAT_LOAD_STATE = 1 ∧ u.answer m.ctx = some k ∧ u.told =
    some (Ev.CRED_LOAD_FAIL, 0, [m.gen, k])) ∧
  (∀ (s : State) (t : Nat) (k : Nat), let a := s.advance t; a.up = true → k < 7 → a.worn k = false →
    a.rd R.KEY_WEAR_SPARES_USED k < a.rd R.KEY_WEAR_SPARES k → exec (.flashBlockFail t k) s =
    .next (a.wr R.KEY_WEAR_SPARES_USED k (a.rd R.KEY_WEAR_SPARES_USED k + 1))) ∧
  (∀ (s : State) (t : Nat) (k : Nat), let a := s.advance t; a.up = true → k < 7 → a.worn k = false →
    a.rd R.KEY_WEAR_SPARES k ≤ a.rd R.KEY_WEAR_SPARES_USED k → ∃ u, exec (.flashBlockFail t k) s = .next u ∧
    u.worn k = true ∧ u.told = some (Ev.WORN, 0, [k]) ∧ (3 ≤ k → k ≤ 5 → u.rd R.KEY_CRED_STAT_WORN = 1))

/-- What the KEY commands do. The commands of the key store, with the statuses that turn them away. Where a clause
rests on a choice of the model, it is that of log entries 1, 8, 137, 139, 140, 141, 142, 145, 146, 177, 201 and
257, and no rule is cited for it. (R357, R359, R361, R362, R364, R365, R366, R369, R370, R373, R374, R376) -/
def Obligations.KeyCommands : Prop :=
  (∀ (s : State) (x : Ctx), let b := s.advance x.t; let a := b.start x; b.takes x Op.KEY_QUERY 0 = true →
    exec (.keyQuery x) s = .next (a.complete x St.OK (2 ^ 29 * a.keyMode + 2 ^ 28 * a.rd R.KEY_STATUS_ROOT_OK +
    2 ^ 27 * a.rd R.KEY_STATUS_LEES_OK + 2 ^ 26 * a.rd R.KEY_STATUS_OWNER_SET +
    2 ^ 25 * a.rd R.KEY_STATUS_ATTEST_CERT + 2 ^ 16 * a.rd R.KEY_STATUS_RIDDLE_LATE +
    2 ^ 32 * a.rd R.KEY_CRED_STAT_ACTIVE_GEN))) ∧
  (∀ (s : State) (x : Ctx) (p : List (List Byte)) (n : KNode), let b := s.advance x.t; let a := b.start x;
    b.takes x Op.KEY_NODE_QUERY 0 = true → a.keyMode = 2 → State.pathBad p = none → a.node? p = some n → ∃ u,
    exec (.keyNodeQuery x p) s = .next u ∧ u.answer x = some St.OK ∧ (a.attached = true → u.host.dma.take 4 =
    [n.handle, n.gen, n.typ, b2n n.stale])) ∧
  (∀ (s : State) (x : Ctx) (p : List (List Byte)), let b := s.advance x.t; let a := b.start x;
    b.takes x Op.KEY_NODE_QUERY 0 = true → a.keyMode = 2 → State.pathBad p = none → a.node? p = none →
    exec (.keyNodeQuery x p) s = .next (a.complete x St.KEY_UNKNOWN)) ∧
  (∀ (s : State) (x : Ctx) (p : List (List Byte)), let b := s.advance x.t; let a := b.start x;
    b.takes x Op.KEY_NODE_QUERY 0 = true → a.keyMode = 2 → 8 < p.length → exec (.keyNodeQuery x p) s =
    .next (a.complete x St.TREE_DEPTH)) ∧
  (∀ (s : State) (x : Ctx) (p : List (List Byte)), let b := s.advance x.t; let a := b.start x;
    b.takes x Op.KEY_NODE_QUERY 0 = true → a.keyMode = 4 → exec (.keyNodeQuery x p) s =
    .next (a.complete x St.KEY_RECOVERY)) ∧
  (∀ (s : State) (x : Ctx) (p : List (List Byte)) (n : KNode) (g : OwnerSig), let b := s.advance x.t;
    let a := b.start x; b.takes x Op.KEY_INVALIDATE 0 = true → a.keyMode = 2 → State.pathBad p = none → a.node? p =
    some n → a.ownerBad g = none → State.nodeFixed n = false → p ≠ pathSign → ∃ u, exec (.keyInvalidate x p g) s =
    .next u ∧ u.answer x = some St.OK ∧ (u.node? p).map (·.gen) = some (n.gen + 1) ∧ u.rd R.KEY_OWNER_CTR_CTR =
    g.counter) ∧
  (∀ (s : State) (x : Ctx) (p : List (List Byte)) (n : KNode) (g : OwnerSig), let b := s.advance x.t;
    let a := b.start x; b.takes x Op.KEY_INVALIDATE 0 = true → a.keyMode = 2 → State.pathBad p = none → a.node? p =
    some n → a.ownerBad g = none → State.nodeFixed n = true → exec (.keyInvalidate x p g) s =
    .next (a.complete x St.KEY_FIXED)) ∧
  (∀ (s : State) (x : Ctx) (p : List (List Byte)) (n : KNode) (g : OwnerSig) (k : Nat), let b := s.advance x.t;
    let a := b.start x; b.takes x Op.KEY_INVALIDATE 0 = true → a.keyMode = 2 → State.pathBad p = none → a.node? p =
    some n → a.ownerBad g = some k → exec (.keyInvalidate x p g) s = .next (a.complete x k)) ∧
  (∀ (s : State) (x : Ctx) (p : List (List Byte)) (n : KNode) (g : OwnerSig), let b := s.advance x.t;
    let a := b.start x; b.takes x Op.KEY_REDERIVE 0 = true → a.keyMode = 2 → State.pathBad p = none → a.node? p =
    some n → a.ownerBad g = none → p.length = 1 → n.stale = true → ∃ u, exec (.keyRederive x p g) s = .next u ∧
    u.answer x = some St.OK ∧ (u.node? p).map (fun (m : KNode) => (m.stale, m.gen)) = some (false, n.gen + 1)) ∧
  (∀ (s : State) (x : Ctx) (l m : List Byte) (y i k : Nat), let b := s.advance x.t; let a := b.start x;
    b.takes x Op.KEY_INSTALL 0 = true → a.keyMode = 2 → a.drbgOk = true → State.installBlob l = some (y, m, i) → 1 ≤
    y → y ≤ 8 → a.worn 2 = false → a.node? [label "STORE", m] = none → a.key.nodes.length < 4096 →
    a.ownerBad ⟨true, i⟩ = none → ∃ u, exec (.keyInstall x l (some k) true) s = .next u ∧ u.answer x = some St.OK ∧
    (u.node? [label "STORE", m]).map (fun (q : KNode) => (q.installed, q.typ, q.key, q.gen)) =
    some (true, y, k, 1) ∧ u.rd R.KEY_OWNER_CTR_CTR = i) ∧
  (∀ (s : State) (x : Ctx) (l m : List Byte) (y i : Nat), let b := s.advance x.t; let a := b.start x;
    b.takes x Op.KEY_INSTALL 0 = true → a.keyMode = 2 → a.drbgOk = true → State.installBlob l = some (y, m, i) →
    a.ownerBad ⟨true, i⟩ = none → exec (.keyInstall x l none true) s = .next (a.complete x St.BLOB_INVALID)) ∧
  (∀ (s : State) (x : Ctx) (l : List Byte) (k : Option Nat) (o : Bool), let b := s.advance x.t; let a := b.start x;
    b.takes x Op.KEY_INSTALL 0 = true → a.keyMode = 2 → State.installBlob l = none → exec (.keyInstall x l k o) s =
    .next (a.complete x St.BLOB_INVALID)) ∧
  (∀ (s : State) (x : Ctx) (p : List Byte) (k : Nat), let b := s.advance x.t; let a := b.start x;
    b.takes x Op.KEY_OWNER_SET 0 = true → p.length = 64 → a.flag R.KEY_STATUS_OWNER_SET = false →
    a.flag R.LEDGER_STAT_SEAL = true → a.rd R.KEY_OWNER_CTR_CTR < k → k < 2 ^ 32 → ∃ u,
    exec (.keyOwnerSet x p k none) s = .next u ∧ u.answer x = some St.OK ∧ u.flag R.KEY_STATUS_OWNER_SET = true ∧
    u.rd R.KEY_OWNER_CTR_CTR = k ∧ u.key.owner = Config.hash (p.map fun (b : Byte) => b.toNat)) ∧
  (∀ (s : State) (x : Ctx) (p : List Byte) (k : Nat), let b := s.advance x.t; let a := b.start x;
    b.takes x Op.KEY_OWNER_SET 0 = true → p.length = 64 → a.flag R.KEY_STATUS_OWNER_SET = true ∨
    a.flag R.LEDGER_STAT_SEAL = false → exec (.keyOwnerSet x p k none) s = .next (a.complete x St.OWNER_SET_DENIED)) ∧
  (∀ (s : State) (x : Ctx) (p : List Byte) (k : Nat), let b := s.advance x.t; let a := b.start x;
    b.takes x Op.KEY_OWNER_SET 0 = true → p.length = 64 → a.flag R.KEY_STATUS_OWNER_SET = true → k ≤
    a.rd R.KEY_OWNER_CTR_CTR → exec (.keyOwnerSet x p k (some true)) s = .next (a.complete x St.OWNER_REPLAY)) ∧
  (∀ (s : State) (x : Ctx) (k y : Nat) (i : List Byte) (g : OwnerSig), let b := s.advance x.t; let a := b.start x;
    b.takes x Op.KEY_ANCHOR_INSTALL 0 = true → k < 32 → 2 ≤ y → y ≤ 5 → i ≠ [] → i.length ≤ 2048 → a.worn 2 =
    false → a.ownerBad g = none → ∃ u, exec (.keyAnchorInstall x k y i true g) s = .next u ∧ u.answer x =
    some St.OK ∧ u.key.anchors.get none k = some ⟨y, Config.hash (i.map fun (b : Byte) => b.toNat)⟩) ∧
  (∀ (s : State) (x : Ctx) (k y : Nat) (i : List Byte) (g : OwnerSig), let b := s.advance x.t; let a := b.start x;
    b.takes x Op.KEY_ANCHOR_INSTALL 0 = true → k < 32 → 2 ≤ y → y ≤ 5 → i ≠ [] → i.length ≤ 2048 → a.worn 2 =
    false → a.ownerBad g = none → exec (.keyAnchorInstall x k y i false g) s = .next (a.complete x St.CERT_INVALID)) ∧
  (∀ (s : State) (x : Ctx) (p : List (List Byte)) (n : KNode) (j : List Byte), let b := s.advance x.t;
    let a := b.start x; b.takes x Op.KEY_CSR 0 = true → a.keyMode = 2 → State.pathBad p = none → a.node? p =
    some n → n.stale = false → asymmetric n.typ = true → ∃ u, exec (.keyCsr x p j) s = .next u ∧ u.answer x =
    some St.OK ∧ (a.attached = true → u.host.dma.take (j.length + 1) = (j.map fun (b : Byte) => b.toNat) ++
    [n.typ])) ∧
  (∀ (s : State) (x : Ctx) (p : List (List Byte)) (n : KNode) (j : List Byte), let b := s.advance x.t;
    let a := b.start x; b.takes x Op.KEY_CSR 0 = true → a.keyMode = 2 → State.pathBad p = none → a.node? p =
    some n → n.stale = true → exec (.keyCsr x p j) s = .next (a.complete x St.KEY_STALE)) ∧
  (∀ (s : State) (x : Ctx) (p : List (List Byte)) (n : KNode) (l : List Byte) (w : List (Nat × Nat)),
    let b := s.advance x.t; let a := b.start x; b.takes x Op.KEY_CERT_INSTALL 0 = true → a.keyMode = 2 →
    State.pathBad p = none → a.node? p = some n → n.stale = false → a.worn 2 = false → a.key.anchors.get none 0 =
    some ⟨2, 0⟩ → asymmetric n.typ = true → a.periodsOk w = true → ∃ u,
    exec (.keyCertInstall x p [l] ((s.advance x.t).nodePub n) w true) s = .next u ∧ u.answer x = some St.OK ∧
    (u.node? p).map (·.cert) = some (Config.hash (l.map fun (b : Byte) => b.toNat))) ∧
  (∀ (s : State) (x : Ctx) (p : List (List Byte)) (n : KNode) (l : List Byte) (k : Nat) (w : List (Nat × Nat)),
    let b := s.advance x.t; let a := b.start x; b.takes x Op.KEY_CERT_INSTALL 0 = true → a.keyMode = 2 →
    State.pathBad p = none → a.node? p = some n → n.stale = false → a.worn 2 = false →
    exec (.keyCertInstall x p [l] k w false) s = .next (a.complete x St.CERT_INVALID)) ∧
  (∀ (s : State) (x : Ctx) (k : Nat) (n : KNode), let b := s.advance x.t; let a := b.start x;
    b.takes x Op.KEY_ATTEST 0 = true → a.keyMode = 2 → a.node? pathDevice = some n → n.stale = false → ∃ u,
    exec (.keyAttest x k []) s = .next u ∧ u.answer x = some St.OK ∧ (a.attached = true → u.host.dma.length =
    (a.attestBytes k []).length + 96 ∧ u.host.dma.take (a.attestBytes k []).length = a.attestBytes k [])) ∧
  (∀ (s : State) (x : Ctx) (k : Nat) (p : List (List Byte)), let b := s.advance x.t; let a := b.start x;
    b.takes x Op.KEY_ATTEST 0 = true → a.keyMode = 2 → a.node? p = none → exec (.keyAttest x k [p]) s =
    .next (a.complete x St.ATTEST_NODE)) ∧
  (∀ (s : State) (x : Ctx), let b := s.advance x.t; let a := b.start x; b.takes x Op.KEY_ATTEST_CERT 0 = true →
    exec (.keyAttestCert x) s = .next ((a.giveBuffer [Config.factory 1]).complete x St.OK)) ∧
  (∀ (s : State) (x : Ctx), let b := s.advance x.t; let a := b.start x; b.takes x Op.KEY_SELFTEST 0 = true →
    a.keyMode = 2 →
    (List.range 8).all (fun n => [SessState.idle, .disabled, .outOfService].contains (a.outlet n).st) = true → ∃ u,
    exec (.keySelftest x) s = .next u ∧ u.keyMode = 3 ∧ u.answer x = some St.PENDING ∧ u.key.testCtx = some x ∧
    u.key.root = none ∧ u.key.cache = []) ∧
  (∀ (s : State) (x : Ctx), let b := s.advance x.t; let a := b.start x; b.takes x Op.KEY_SELFTEST 0 = true →
    a.keyMode = 2 → (a.outlet 3).st = .connected → exec (.keySelftest x) s =
    .next (a.complete x St.SESSIONS_ACTIVE))

/-- What the CRED commands do. Loads, updates and lookups of the credential store, with the statuses that turn them
away. Where a clause rests on a choice of the model, it is that of log entries 60, 139, 140, 141, 144, 201 and
232, and no rule is cited for it. (R378, R379, R381, R382, R383, R385, R386) -/
def Obligations.CredentialCommands : Prop :=
  (∀ (s : State) (x : Ctx) (g k : Nat), let b := s.advance x.t; let a := b.start x; b.takes x Op.CRED_LOAD_BEGIN 0 =
    true → a.keyMode = 2 → a.key.manifest = none → k ≤ 262144 → g < 2 ^ 32 → a.rd R.KEY_CRED_STAT_ACTIVE_GEN < g →
    a.worn (State.credArea (1 - a.credCopy)) = false → a.key.load ≠ some (g, k) → a.credCopy < 2 → ∃ u,
    exec (.credLoadBegin x g k) s = .next u ∧ u.answer x = some St.OK ∧ u.key.load = some (g, k) ∧
    u.rd R.KEY_CRED_STAT_LOADED = 0 ∧ u.rd R.KEY_CRED_STAT_LOAD_STATE = 1 ∧ u.key.copy (1 - a.credCopy) = [] ∧
    u.key.copy a.credCopy = a.key.copy a.credCopy) ∧
  (∀ (s : State) (x : Ctx) (g k : Nat), let b := s.advance x.t; let a := b.start x; b.takes x Op.CRED_LOAD_BEGIN 0 =
    true → a.keyMode = 2 → a.key.manifest = none → k ≤ 262144 → g < 2 ^ 32 → g ≤ a.rd R.KEY_CRED_STAT_ACTIVE_GEN →
    exec (.credLoadBegin x g k) s = .next (a.complete x St.CRED_GEN)) ∧
  (∀ (s : State) (x : Ctx) (f : Nat) (r : CredRec), let b := s.advance x.t; let a := b.start x;
    b.takes x Op.CRED_LOAD_DATA 0 = true → a.keyMode = 2 → a.key.manifest = none → f + 1 ≤ 262144 → a.key.load ≠
    none → f = a.rd R.KEY_CRED_STAT_LOADED → a.key.copy (1 - a.credCopy) = [] →
    a.worn (State.credArea (1 - a.credCopy)) = false → ∃ u, exec (.credLoadData x f [r]) s = .next u ∧ u.answer x =
    some St.OK ∧ u.key.copy (1 - a.credCopy) = [r] ∧ u.rd R.KEY_CRED_STAT_LOADED = f + 1) ∧
  (∀ (s : State) (x : Ctx) (f : Nat) (r : CredRec), let b := s.advance x.t; let a := b.start x;
    b.takes x Op.CRED_LOAD_DATA 0 = true → a.keyMode = 2 → a.key.manifest = none → f + 1 ≤ 262144 → a.key.load =
    none ∨ f ≠ a.rd R.KEY_CRED_STAT_LOADED → exec (.credLoadData x f [r]) s = .next (a.complete x St.CRED_SEQ)) ∧
  (∀ (s : State) (x : Ctx) (g k d z : Nat) (o : Bool), let b := s.advance x.t; let a := b.start x;
    b.takes x Op.CRED_LOAD_COMMIT 0 = true → a.keyMode = 2 → a.key.manifest = none → a.key.load ≠ none → ∃ u,
    exec (.credLoadCommit x g k d z o) s = .next u ∧ u.key.manifest = some ⟨x, g, k, d, z, o⟩ ∧ u.answer x =
    some St.PENDING ∧ u.rd R.KEY_CRED_STAT_LOAD_STATE = 2) ∧
  (∀ (s : State) (x : Ctx), let b := s.advance x.t; let a := b.start x; b.takes x Op.CRED_LOAD_ABORT 0 = true →
    a.keyMode = 2 → a.key.manifest = none → ∃ u, exec (.credLoadAbort x) s = .next u ∧ u.answer x = some St.OK ∧
    u.key.load = none ∧ u.key.copy (1 - a.credCopy) = [] ∧ u.rd R.KEY_CRED_STAT_LOAD_STATE = 0) ∧
  (∀ (s : State) (x : Ctx) (r : CredRec) (g : OwnerSig), let b := s.advance x.t; let a := b.start x;
    b.takes x Op.CRED_UPDATE 0 = true → a.keyMode = 2 → a.worn 5 = false → a.key.deltas.length < 8192 →
    a.flag R.KEY_CFG_CRED_SIGNED = false → ∃ u, exec (.credUpdate x [r] g) s = .next u ∧ u.answer x = some St.OK ∧
    u.key.deltas = a.key.deltas ++ [r] ∧ u.rd R.KEY_CRED_STAT_DELTAS = a.key.deltas.length + 1) ∧
  (∀ (s : State) (x : Ctx) (r : CredRec) (g : OwnerSig) (k : Nat), let b := s.advance x.t; let a := b.start x;
    b.takes x Op.CRED_UPDATE 0 = true → a.keyMode = 2 → a.flag R.KEY_CFG_CRED_SIGNED = true → a.ownerBad g =
    some k → exec (.credUpdate x [r] g) s = .next (a.complete x k)) ∧
  (∀ (s : State) (x : Ctx) (k h n : Nat), let b := s.advance x.t; let a := b.start x; b.takes x Op.CRED_LOOKUP 0 =
    true → a.keyMode = 2 → 1 ≤ k → k ≤ 5 → n < 8 → a.credRecord k h = none → exec (.credLookup x k h n false) s =
    .next (a.complete x St.OK 1)) ∧
  (∀ (s : State) (x : Ctx) (k h n i : Nat) (r : CredRec), let b := s.advance x.t; let a := b.start x;
    b.takes x Op.CRED_LOOKUP 0 = true → a.keyMode = 2 → 1 ≤ k → k ≤ 5 → n < 8 → a.credRecord k h = some (r, i) →
    a.credBlocked r n = false → exec (.credLookup x k h n false) s =
    .next ((a.giveBuffer (r.bytes.take 40)).complete x St.OK (2 ^ 8 * i))) ∧
  (∀ (s : State) (x : Ctx) (k h n i : Nat) (r : CredRec), let b := s.advance x.t; let a := b.start x;
    b.takes x Op.CRED_LOOKUP 0 = true → a.keyMode = 2 → 1 ≤ k → k ≤ 5 → n < 8 → a.credRecord k h = some (r, i) →
    a.credBlocked r n = true → exec (.credLookup x k h n false) s =
    .next ((a.giveBuffer (r.bytes.take 40)).complete x St.OK (2 + 2 ^ 8 * i)))

/-- What the card reader and the cable tags do. A poll of RDR0, reads and writes of cable tags, TAG_QUERY and the
cable commands. Where a clause rests on a choice of the model, it is that of log entries 137, 147, 151, 152 and
218, and no rule is cited for it. (R389, R390, R391, R392, R393, R394, R396, R398, R399, R400, R401, R402) -/
def Obligations.ReaderAndCable : Prop :=
  (∀ (s : State) (t : Nat) (k : Bool) (r : Nat), let a := s.advance t; a.up = true → a.flag R.TAG_RDR_CFG_RDR0_EN =
    true → a.flag R.GLOBAL_ISLAND_STAT_READY 5 = true → a.tag.pollAt + 10 ^ 6 * a.rd R.TAG_RDR_CFG_POLL_MS ≤ a.mtb →
    ∃ u, exec (.rdr0Poll t [] [] [] k r) s = .next u ∧ u.rd R.TAG_RDR_STAT_RX_ERR =
    satAdd R.TAG_RDR_STAT_RX_ERR.w (a.rd R.TAG_RDR_STAT_RX_ERR) r ∧ u.tag.pollAt = a.mtb ∧ u.tag.handed =
    a.tag.handed.filter fun (q : Nat × Nat × Nat) => decide (a.mtb - q.2.2 < a.rd R.TAG_RDR_CFG_CARD_GONE_MS * 10 ^ 6)) ∧
  (∀ (s : State) (t : Nat) (v : List Byte) (k : Bool) (r : Nat), let a := s.advance t; a.up = true →
    a.flag R.TAG_RDR_CFG_RDR0_EN = true → a.flag R.GLOBAL_ISLAND_STAT_READY 5 = true → a.tag.pollAt +
    10 ^ 6 * a.rd R.TAG_RDR_CFG_POLL_MS ≤ a.mtb → bit (a.rd R.TAG_RDR_CFG_PROTO_EN) 0 = true → v.length = 7 →
    (walkAll 32 [cascadeBits v]).1.length = 1 → a.tag.handed = [] → a.keyMode ≠ 2 →
    (List.range 8).all (fun (n : Nat) => !([SessState.ready, SessState.energy, SessState.paused].contains (a.outlet n).st)) =
    true → ∃ u, exec (.rdr0Poll t [v] [] [] k r) s = .next u ∧ u.tag.handed = [(1, identHash v, a.mtb)] ∧
    (a.attached = true → (u.told.map (fun (z : Nat × Nat × List Nat) => (z.1, z.2.2.drop 1)) =
    some (Ev.AUTH_RESULT, [1, identHash v, 1])))) ∧
  (∀ (s : State) (t : Nat) (v w : List Byte) (k : Bool) (r : Nat), let a := s.advance t; a.up = true →
    a.flag R.TAG_RDR_CFG_RDR0_EN = true → a.flag R.GLOBAL_ISLAND_STAT_READY 5 = true → a.tag.pollAt +
    10 ^ 6 * a.rd R.TAG_RDR_CFG_POLL_MS ≤ a.mtb → bit (a.rd R.TAG_RDR_CFG_PROTO_EN) 0 = true →
    (walkAll 32 ([v, w].map cascadeBits)).1.length = 2 → ∃ u, exec (.rdr0Poll t [v, w] [] [] k r) s = .next u ∧
    u.rd R.TAG_RDR_STAT_MULTI = satAdd R.TAG_RDR_STAT_MULTI.w (a.rd R.TAG_RDR_STAT_MULTI) 1 ∧ u.told =
    some (Ev.TAG_MULTI, 0, [0, 2])) ∧
  (∀ (s : State) (t : Nat) (p q v : List (List Byte)) (k : Bool) (r : Nat), let a := s.advance t; a.up = true →
    a.flag R.TAG_RDR_CFG_RDR0_EN = false → exec (.rdr0Poll t p q v k r) s = .next (a)) ∧
  (∀ (s : State) (t : Nat) (j : CableJob), let a := s.advance t; a.up = true → j.write = false → a.tag.jobs = [j] →
    a.rdr1On = true → j.ctxs = [] → (a.outlet j.n).st.live = false → ∃ u, exec (.cableRead t none) s = .next u ∧
    u.tag.jobs = [] ∧ u.rd R.TAG_CABLE_STATE j.n = 1 ∧ u.told = some (Ev.CABLE_STATE, j.n, [j.n, 1, 0])) ∧
  (∀ (s : State) (t : Nat) (j : CableJob) (r : CableRead) (l : LifeCopy) (i : Nat), let a := s.advance t; a.up =
    true → j.write = false → a.tag.jobs = [j] → a.rdr1On = true → j.ctxs = [] → (a.outlet j.n).st.live = false →
    a.cableCause j.n (some r) = 0 → lifeCurrent r = some (l, i) → l.flags = 0 → l.mating < tagField r.ident 20 4 →
    tagField r.ident 24 4 = 0 → (a.cable j.n).rebind = true → j.atConnect = false → r.uid ≠
    a.rd R.TAG_CABLE_UID j.n → r.uid < 2 ^ 64 → ∃ u, exec (.cableRead t (some r)) s = .next u ∧
    u.rd R.TAG_CABLE_STATE j.n = 0 ∧ u.rd R.TAG_CABLE_UID j.n = r.uid ∧ u.rd R.TAG_CABLE_MATING j.n = l.mating ∧
    u.rd R.TAG_CABLE_ENERGY_WH j.n = l.wh ∧ (u.cable j.n).seq = l.seq ∧ (u.cable j.n).older = i ∧
    (u.cable j.n).rebind = false ∧ u.told.map (fun (z : Nat × Nat × List Nat) => z.1) = some Ev.CABLE_STATE) ∧
  (∀ (s : State) (t : Nat) (j : CableJob), let a := s.advance t; a.up = true → j.write = true → a.tag.jobs = [j] →
    a.lifeWritable = true → ∃ u, exec (.cableWrite t true) s = .next u ∧ (u.cable j.n).seq = ((a.cable j.n).seq +
    1) % 2 ^ 32 ∧ (u.cable j.n).older = 1 - (a.cable j.n).older ∧ (u.cable j.n).wrote.1 = (a.cable j.n).older ∧
    u.rd R.TAG_CABLE_WRITE_PEND j.n = 0 ∧ u.tag.jobs = []) ∧
  (∀ (s : State) (t : Nat) (j : CableJob), let a := s.advance t; a.up = true → j.write = true → a.tag.jobs = [j] →
    ∃ u, exec (.cableWrite t false) s = .next u ∧ u.rd R.TAG_CABLE_WRITE_PEND j.n = 1 ∧ u.tag.cables =
    a.tag.cables ∧ u.tag.jobs = []) ∧
  (∀ (s : State) (x : Ctx), let b := s.advance x.t; let a := b.start x; b.takes x Op.TAG_QUERY 0 = true →
    exec (.tagQuery x) s =
    .next (a.complete x St.OK (a.pack [R.TAG_RDR_STAT_MULTI, R.TAG_RDR_STAT_WALK_LIMIT, R.TAG_RDR_STAT_RX_ERR, R.TAG_RDR_STAT_QUEUE] +
    2 ^ 32 * a.pack [R.TAG_OWN_STAT_FIELD, R.TAG_OWN_STAT_BUSY_RSP, R.TAG_OWN_STAT_TORN, R.TAG_OWN_STAT_FIELD_WR]))) ∧
  (∀ (s : State) (x : Ctx) (n : Nat), let b := s.advance x.t; let a := b.start x; b.takes x Op.TAG_CABLE_READ n =
    true → n < 8 → a.tethered n = true → a.tag.jobs = [] → ∃ u, exec (.tagCableRead x n) s = .next u ∧ u.answer x =
    some St.PENDING ∧ u.tag.jobs = [⟨n, false, false, [x]⟩] ∧ u.rd R.TAG_RDR_STAT_QUEUE = 1) ∧
  (∀ (s : State) (x : Ctx) (n : Nat), let b := s.advance x.t; let a := b.start x; b.takes x Op.TAG_CABLE_READ n =
    true → n < 8 → a.tethered n = false → exec (.tagCableRead x n) s = .next (a.complete x St.CABLE_NONE)) ∧
  (∀ (s : State) (x : Ctx) (n : Nat), let b := s.advance x.t; let a := b.start x; b.takes x Op.TAG_CABLE_INIT n =
    true → n < 8 → a.tethered n = true → (a.outlet n).st.live = false → a.lifeWritable = true → ∃ u,
    exec (.tagCableInit x n true) s = .next u ∧ u.answer x = some St.OK ∧ (u.cable n).seq = 2) ∧
  (∀ (s : State) (x : Ctx) (n : Nat) (k : Bool), let b := s.advance x.t; let a := b.start x;
    b.takes x Op.TAG_CABLE_INIT n = true → n < 8 → a.tethered n = true → (a.outlet n).st.live = true →
    exec (.tagCableInit x n k) s = .next (a.complete x St.CABLE_LIVE)) ∧
  (∀ (s : State) (x : Ctx) (n : Nat), let b := s.advance x.t; let a := b.start x; b.takes x Op.TAG_CABLE_INIT n =
    true → n < 8 → a.tethered n = true → (a.outlet n).st.live = false → exec (.tagCableInit x n false) s =
    .next (a.complete x St.CABLE_WRITE)) ∧
  (∀ (s : State) (x : Ctx) (n : Nat), let b := s.advance x.t; let a := b.start x; b.takes x Op.TAG_CABLE_RETIRE n =
    true → n < 8 → a.tethered n = true → a.lifeWritable = true → ∃ u, exec (.tagCableRetire x n true) s = .next u ∧
    u.answer x = some St.OK ∧ (u.cable n).retired = true ∧ u.rd R.TAG_CABLE_EOL n = 1 ∧
    u.rd R.TAG_CABLE_WRITE_PEND n = 0) ∧
  (∀ (s : State) (x : Ctx) (n : Nat), let b := s.advance x.t; let a := b.start x; b.takes x Op.TAG_CABLE_RETIRE n =
    true → n < 8 → a.tethered n = true → ∃ u, exec (.tagCableRetire x n false) s = .next u ∧ u.answer x =
    some St.CABLE_WRITE ∧ (u.cable n).retired = true ∧ u.rd R.TAG_CABLE_EOL n = 1 ∧ u.rd R.TAG_CABLE_WRITE_PEND n =
    1)

/-- What the field and the host do with the own tag. The field coming and going, reads and writes of blocks, the
password, MAM1, RESET_TO_READY, TAG_OWN_READ and TAG_OWN_WRITE. Where a clause rests on a choice of the model, it
is that of log entries 1, 7, 148, 149, 150 and 201, and no rule is cited for it. (R403, R404, R405, R406, R407) -/
def Obligations.OwnTag : Prop :=
  (∀ (s : State) (t : Nat), let a := s.advance t; s.core = true → a.flag R.TAG_OWN_CFG_EN = true → ∃ u,
    exec (.ownTagFieldOn t) s = .next u ∧ u.rd R.TAG_OWN_STAT_FIELD = 1 ∧ u.tag.pwdOpen = false ∧ u.tag.aesOpen =
    false ∧ u.tag.wrong = 0 ∧ u.tag.written = 0) ∧
  (∀ (s : State) (t : Nat), let a := s.advance t; s.core = true → a.flag R.TAG_OWN_CFG_EN = true →
    a.flag R.TAG_OWN_STAT_FIELD = true → a.up = true → ∃ u, exec (.ownTagFieldLost t) s = .next u ∧
    u.rd R.TAG_OWN_STAT_FIELD = 0 ∧ u.tag.pwdOpen = false ∧ u.tag.aesOpen = false ∧ u.told =
    some (Ev.TAG_OWN_FIELD, 0, [a.tag.written, a.tag.firstWritten])) ∧
  (∀ (s : State) (t : Nat), let a := s.advance t; s.core = true → a.flag R.TAG_OWN_CFG_EN = true →
    a.flag R.TAG_OWN_STAT_FIELD = false → exec (.ownTagFieldLost t) s = .next (a)) ∧
  (∀ (s : State) (t : Nat) (i : Nat), let a := s.advance t; s.core = true → a.flag R.TAG_OWN_CFG_EN = true →
    a.flag R.TAG_OWN_STAT_FIELD = true → i < 2048 → a.fieldReads i = true → exec (.ownTagFieldRead t i 1) s =
    .next (a.ownReply [0, a.ownServed i])) ∧
  (∀ (s : State) (t : Nat) (i : Nat), let a := s.advance t; s.core = true → a.flag R.TAG_OWN_CFG_EN = true →
    a.flag R.TAG_OWN_STAT_FIELD = true → i < 2048 → a.fieldReads i = false → exec (.ownTagFieldRead t i 1) s =
    .next (a.ownReply [0x12])) ∧
  (∀ (s : State) (t : Nat) (i v : Nat), let a := s.advance t; s.core = true → a.flag R.TAG_OWN_CFG_EN = true →
    a.flag R.TAG_OWN_STAT_FIELD = true → i < 2048 → a.fieldWrites i = true → a.ownBusy = false → v < 2 ^ 32 → ∃ u,
    exec (.ownTagFieldWrite t i [v] 1) s = .next u ∧ u.tag.reply = [0] ∧ u.ownValue i = v ∧
    u.rd R.TAG_OWN_STAT_FIELD_WR = satAdd R.TAG_OWN_STAT_FIELD_WR.w (a.rd R.TAG_OWN_STAT_FIELD_WR) 1 ∧
    u.tag.written = a.tag.written + 1) ∧
  (∀ (s : State) (t : Nat) (i v : Nat) (k : Nat), let a := s.advance t; s.core = true → a.flag R.TAG_OWN_CFG_EN =
    true → a.flag R.TAG_OWN_STAT_FIELD = true → i < 2048 → a.fieldWrites i = false →
    exec (.ownTagFieldWrite t i [v] k) s = .next (a.ownReply [0x12])) ∧
  (∀ (s : State) (t : Nat) (i v : Nat) (k : Nat), let a := s.advance t; s.core = true → a.flag R.TAG_OWN_CFG_EN =
    true → a.flag R.TAG_OWN_STAT_FIELD = true → i < 2048 → a.fieldWrites i = true → a.ownBusy = true →
    exec (.ownTagFieldWrite t i [v] k) s = .next ((a.incSat R.TAG_OWN_STAT_BUSY_RSP 0).ownReply [0xA5])) ∧
  (∀ (s : State) (t : Nat) (i v : Nat), let a := s.advance t; s.core = true → a.flag R.TAG_OWN_CFG_EN = true →
    a.flag R.TAG_OWN_STAT_FIELD = true → i < 2048 → a.fieldWrites i = true → a.ownBusy = false → ∃ u,
    exec (.ownTagFieldWrite t i [v] 0) s = .next u ∧ u.tag.reply = [] ∧ u.ownValue i = a.ownValue i ∧
    u.tag.written = a.tag.written) ∧
  (∀ (s : State) (t : Nat) (p : Nat), let a := s.advance t; s.core = true → a.flag R.TAG_OWN_CFG_EN = true →
    a.flag R.TAG_OWN_STAT_FIELD = true → a.tag.wrong < 5 → p % 2 ^ 32 = a.rd R.TAG_OWN_PWD_PWD → ∃ u,
    exec (.presentPwd t p) s = .next u ∧ u.tag.pwdOpen = true ∧ u.tag.reply = [0]) ∧
  (∀ (s : State) (t : Nat) (p : Nat), let a := s.advance t; s.core = true → a.flag R.TAG_OWN_CFG_EN = true →
    a.flag R.TAG_OWN_STAT_FIELD = true → a.tag.wrong < 5 → p % 2 ^ 32 ≠ a.rd R.TAG_OWN_PWD_PWD → ∃ u,
    exec (.presentPwd t p) s = .next u ∧ u.tag.pwdOpen = a.tag.pwdOpen ∧ u.tag.wrong = a.tag.wrong + 1) ∧
  (∀ (s : State) (t : Nat) (p : Nat), let a := s.advance t; s.core = true → a.flag R.TAG_OWN_CFG_EN = true →
    a.flag R.TAG_OWN_STAT_FIELD = true → 5 ≤ a.tag.wrong → ∃ u, exec (.presentPwd t p) s = .next u ∧ u.tag.pwdOpen =
    a.tag.pwdOpen ∧ u.tag.wrong = a.tag.wrong) ∧
  (∀ (s : State) (t : Nat), let a := s.advance t; s.core = true → a.flag R.TAG_OWN_CFG_EN = true →
    a.flag R.TAG_OWN_STAT_FIELD = true → ∃ u, exec (.ownTagMam1 t true) s = .next u ∧ u.tag.aesOpen = true ∧
    u.tag.reply = [0]) ∧
  (∀ (s : State) (t : Nat), let a := s.advance t; s.core = true → a.flag R.TAG_OWN_CFG_EN = true →
    exec (.ownTagMam1 t false) s = .next (a)) ∧
  (∀ (s : State) (t : Nat), let a := s.advance t; s.core = true → a.flag R.TAG_OWN_CFG_EN = true →
    a.flag R.TAG_OWN_STAT_FIELD = true → ∃ u, exec (.resetToReady t) s = .next u ∧ u.tag.pwdOpen = false ∧
    u.tag.aesOpen = false ∧ u.tag.blocks = a.tag.blocks) ∧
  (∀ (s : State) (x : Ctx) (i k : Nat), let b := s.advance x.t; let a := b.start x; b.takes x Op.TAG_OWN_READ 0 =
    true → 1 ≤ k → k ≤ 256 → i + k ≤ 2048 → exec (.tagOwnRead x i k) s =
    .next ((a.giveBuffer ((List.range k).map fun (z : Nat) => a.ownServed (i + z))).complete x St.OK)) ∧
  (∀ (s : State) (x : Ctx) (i k : Nat), let b := s.advance x.t; let a := b.start x; b.takes x Op.TAG_OWN_READ 0 =
    true → 1 ≤ k → k ≤ 256 → 2048 < i + k → exec (.tagOwnRead x i k) s = .next (a.complete x St.OWN_RANGE)) ∧
  (∀ (s : State) (x : Ctx) (i v : Nat), let b := s.advance x.t; let a := b.start x; b.takes x Op.TAG_OWN_WRITE 0 =
    true → i < 1536 → v < 2 ^ 32 → ∃ u, exec (.tagOwnWrite x i [v]) s = .next u ∧ u.answer x = some St.OK ∧
    u.ownValue i = v ∧ max a.mtb a.tag.busyUntil ≤ u.tag.busyUntil ∧ u.tag.busyUntil ≤ max a.mtb a.tag.busyUntil +
    10 ^ 6) ∧
  (∀ (s : State) (x : Ctx) (i v : Nat), let b := s.advance x.t; let a := b.start x; b.takes x Op.TAG_OWN_WRITE 0 =
    true → 1536 ≤ i → i < 2048 → exec (.tagOwnWrite x i [v]) s = .next (a.complete x St.OWN_WP))

/-- What the events of the displays do. The button and the time-out of the legal display, the segments,
temperatures, frames and regions of the panel, and its supply. Where a clause rests on a choice of the model, it
is that of log entries 1, 153, 154, 155, 156, 157, 159 and 162, and no rule is cited for it. (R317, R410, R412,
R415, R417, R423, R425, R427, R428, R429, R430) -/
def Obligations.DisplayEvents : Prop :=
  (∀ (s : State) (t : Nat), let a := s.advance t; a.up = true → ∃ u, exec (.legalBtnPress t) s = .next u ∧
    u.ledger.legalItem = (if a.legalItems.length ≤ a.ledger.legalItem then 1 else a.ledger.legalItem + 1) ∧
    u.ledger.legalUntil = a.mtb + 10 * 10 ^ 9 ∧ u.disp.safeHolds = false) ∧
  (∀ (s : State) (t : Nat), let a := s.advance t; a.up = true → a.ledger.legalItem ≠ 0 → a.ledger.legalUntil ≤
    a.mtb → ∃ u, exec (.legalDisplayTimeout t) s = .next u ∧ u.ledger.legalItem = 0 ∧ u.disp.safeHolds = false) ∧
  (∀ (s : State) (t : Nat), let a := s.advance t; a.up = true → a.ledger.legalItem = 0 ∨ a.mtb <
    a.ledger.legalUntil → exec (.legalDisplayTimeout t) s = .next (a)) ∧
  (∀ (s : State) (t : Nat), let a := s.advance t; a.up = true → ∃ u, exec (.legalSilent t) s = .next u ∧
    u.disp.safeHolds = true ∧ u.disp.want = a.disp.want ∧ u.ledger = a.ledger) ∧
  (∀ (s : State) (t : Nat), let a := s.advance t; a.up = true → a.disp.paint = none → exec (.segFrame t) s =
    .next (a)) ∧
  (∀ (s : State) (t : Nat) (p : SegPaint) (k : Nat), let a := s.advance t; a.up = true → a.disp.segEnd ≤ a.mtb →
    a.disp.paint = some p → p.codes = ⟨[(k, [2, 1])]⟩ → p.step < 4 → a.disp.com = false → ∃ u,
    exec (.segFrame t) s = .next u ∧ u.disp.com = true ∧ u.disp.paint =
    some { p with codes := ⟨[(k, [1])]⟩, sums := p.sums.upd 0 k (· - 1), frames := p.frames + 1 } ∧ u.disp.segEnd =
    a.mtb + 10 ^ 9 / max 1 (a.rd R.DISP_SEG_CFG_SEG_FPS)) ∧
  (∀ (s : State) (t : Nat) (p : SegPaint) (k : Nat), let a := s.advance t; a.up = true → a.disp.segEnd ≤ a.mtb →
    a.disp.paint = some p → p.codes = ⟨[(k, [2, 1])]⟩ → a.disp.com = true → ∃ u, exec (.segFrame t) s = .next u ∧
    u.disp.com = false ∧ u.disp.paint = some { p with frames := p.frames + 1 } ∧ u.disp.segEnd = a.mtb +
    10 ^ 9 / max 1 (a.rd R.DISP_SEG_CFG_SEG_FPS)) ∧
  (∀ (s : State) (t : Nat) (k : Nat), let a := s.advance t; a.up = true → a.flag R.DISP_SEG_CFG_SENSE_EN = true →
    a.disp.paint = none → a.disp.senseAt + a.rd R.DISP_SEG_CFG_SENSE_H * 3600 * 10 ^ 9 ≤ a.mtb →
    a.rd R.DISP_SEG_CAP_C_REF 0 = 0 → k < 2 ^ 16 → ∃ u, exec (.segSense t [k]) s = .next u ∧ u.disp.senseAt =
    a.mtb ∧ u.rd R.DISP_SEG_CAP_C_REF 0 = k ∧ u.rd R.DISP_SEG_CAP_C_NOW 0 = k) ∧
  (∀ (s : State) (t : Nat) (l : List Nat), let a := s.advance t; a.up = true → a.flag R.DISP_SEG_CFG_SENSE_EN =
    false ∨ a.disp.paint ≠ none → exec (.segSense t l) s = .next (a)) ∧
  (∀ (s : State) (t : Nat), let a := s.advance t; a.up = true → a.disp.tempAt1 ≠ 0 → a.disp.tempAt1 + 60 * 10 ^ 9 ≤
    a.mtb → ∃ u, exec (.dispTempStale t) s = .next u ∧ u.flag R.DISP_TEMP_STALE = true ∧ u.rd R.DISP_TEMP_BAND =
    a.rd R.DISP_TEMP_FALLBACK_BAND) ∧
  (∀ (s : State) (t : Nat), let a := s.advance t; a.up = true → a.disp.tempAt1 ≠ 0 → a.mtb + 1 ≤ a.disp.tempAt1 +
    60 * 10 ^ 9 → exec (.dispTempStale t) s = .next (a)) ∧
  (∀ (s : State) (t : Nat), let a := s.advance t; a.up = true → a.flag R.DISP_STAT_SCANNING = false →
    exec (.dispFrameStart t) s = .next (a)) ∧
  (∀ (s : State) (t : Nat) (r : Nat), let a := s.advance t; a.up = true → a.flag R.DISP_STAT_SCANNING = true →
    a.flag R.GLOBAL_ISLAND_STAT_READY 10 = true → a.disp.frameEnd ≤ a.mtb →
    a.regionsIn (fun k => k == .running || k == .recovery) = [r] → a.regionsIn (· == .cut) = [] →
    a.regionsIn (· == .queued) = [] → ∃ u, exec (.dispFrameStart t) s = .next u ∧ (u.region r).frame =
    min ((a.region r).frame + 1) (a.region r).total) ∧
  (∀ (s : State) (t : Nat) (r : Nat), let a := s.advance t; a.up = true → a.flag R.DISP_STAT_SCANNING = true →
    a.flag R.GLOBAL_ISLAND_STAT_READY 10 = true → a.disp.frameEnd ≤ a.mtb →
    a.regionsIn (fun k => k == .running || k == .recovery) = [] → a.regionsIn (· == .cut) = [] →
    a.regionsIn (· == .queued) = [r] → a.mayStart r = true → ∃ u, exec (.dispFrameStart t) s = .next u ∧
    (u.region r).st = .running ∧ (u.region r).frame = 0 ∧ (u.region r).startAt = a.mtb ∧ (u.region r).band =
    a.bandNow.1) ∧
  (∀ (s : State) (t : Nat) (r : Nat), let a := s.advance t; a.up = true → (a.region r).st = .running →
    a.disp.frameEnd ≤ a.mtb → (a.region r).total ≤ (a.region r).frame + 1 → (a.region r).recov = false →
    (a.region r).ctx = none → a.rd R.PWR_STAT_MODE = 0 → ∃ u, exec (.dispRegionDone t r) s = .next u ∧ u.region r =
    DRegion.init ∧ u.told =
    some (Ev.DISP_DONE, 0, [r, (a.region r).mode, (a.region r).band, (a.region r).total, 0, b2n (a.region r).fallback])) ∧
  (∀ (s : State) (t : Nat) (r : Nat), let a := s.advance t; a.up = true → (a.region r).st = .queued →
    exec (.dispRegionDone t r) s = .next (a)) ∧
  (∀ (s : State) (t : Nat), let a := s.advance t; a.up = true → a.dispWaits = true → a.disp.pwrEn = true → ∃ u,
    exec (.epdPwrGoodRise t) s = .next u ∧ u.flag R.DISP_STAT_PWR_GOOD = true ∧ u.flag R.DISP_STAT_SCANNING = true) ∧
  (∀ (s : State) (t : Nat), let a := s.advance t; a.up = true → a.disp.pwrEn = true → a.flag R.DISP_STAT_PWR_GOOD =
    false → a.disp.pwrAt + 20 * 10 ^ 6 ≤ a.mtb → (List.range 16).all (fun r => (a.region r).st == .free) = true →
    a.rd R.PWR_STAT_MODE = 0 → ∃ u, exec (.dispPwrTimeout t) s = .next u ∧ u.disp.pwrEn = false ∧ u.told =
    some (Ev.DISP_PWR, 0, [0])) ∧
  (∀ (s : State) (t : Nat), let a := s.advance t; a.up = true → a.disp.pwrEn = false ∨ a.flag R.DISP_STAT_PWR_GOOD =
    true → exec (.dispPwrTimeout t) s = .next (a)) ∧
  (∀ (s : State) (t : Nat), let a := s.advance t; a.up = true → a.flag R.DISP_STAT_SCANNING = true →
    (List.range 16).all (fun r => (a.region r).st == .free) = true → ∃ u, exec (.epdPwrGoodLoss t) s = .next u ∧
    u.flag R.DISP_STAT_PWR_GOOD = false ∧ u.flag R.DISP_STAT_SCANNING = false ∧ u.disp.pwrEn = false ∧
    u.disp.frameEnd = 0 ∧ u.told = some (Ev.DISP_PWR, 0, [1])) ∧
  (∀ (s : State) (t : Nat), let a := s.advance t; a.up = true →
    (List.range 16).all (fun r => (a.region r).st == .free) = true → a.disp.idleAt + 100 * 10 ^ 6 ≤ a.mtb → ∃ u,
    exec (.dispPwrOff t) s = .next u ∧ u.disp.pwrEn = false ∧ u.flag R.DISP_STAT_PWR_GOOD = false ∧
    u.flag R.DISP_STAT_SCANNING = false) ∧
  (∀ (s : State) (t : Nat), let a := s.advance t; a.up = true → a.dispWaits = true → exec (.dispPwrOff t) s =
    .next (a)) ∧
  (∀ (s : State) (t : Nat), let a := s.advance t; a.up = true → a.disp.saveAt + 10 ^ 10 ≤ a.mtb →
    exec (.vintageSave t) s =
    .next (({ a with disp := { a.disp with vintSaved := a.disp.vint, saveAt := a.mtb } } : State))) ∧
  (∀ (s : State) (t : Nat), let a := s.advance t; a.up = true → a.mtb < a.disp.saveAt + 10 ^ 10 →
    exec (.vintageSave t) s = .next (a)) ∧
  (∀ (s : State) (t : Nat), let a := s.advance t; a.up = true → a.mtb < a.disp.frameEnd →
    exec (.dispFrameStart t) s = .next (a))

/-- What the DISP commands do. DISP_QUERY, DISP_IMAGE_LOAD, DISP_UPDATE, DISP_TEMP_SET, DISP_VINTAGE_READ and
DISP_VINTAGE_RESET. Where a clause rests on a choice of the model, it is that of log entries 141, 156 and 201, and
no rule is cited for it. (R410, R413, R414, R417, R418, R423) -/
def Obligations.DisplayCommands : Prop :=
  (∀ (s : State) (x : Ctx), let b := s.advance x.t; let a := b.start x; b.takes x Op.DISP_QUERY 0 = true →
    exec (.dispQuery x) s =
    .next (a.complete x St.OK (a.pack [R.DISP_STAT_SCANNING, R.DISP_STAT_RECOVERING, R.DISP_STAT_PWR_GOOD, R.DISP_STAT_ABANDONED] +
    2 ^ 16 * (a.regionsIn fun k => k == .queued || k == .cut).length +
    2 ^ 27 * (a.regionsIn fun k => k == .running || k == .recovery).length + 2 ^ 32 * a.rd R.DISP_TEMP_BAND))) ∧
  (∀ (s : State) (x : Ctx) (p q : Nat) (c d e f : Byte), let b := s.advance x.t; let a := b.start x;
    b.takes x Op.DISP_IMAGE_LOAD 0 = true → p % 8 = 0 → p + 8 ≤ a.rd R.DISP_CFG_WIDTH → q + 1 ≤
    a.rd R.DISP_CFG_HEIGHT → ∃ u, exec (.dispImageLoad x p q 8 1 [c, d, e, f]) s = .next u ∧ u.answer x =
    some St.OK ∧ State.level u.disp.pend p q = c.toNat % 16 ∧ State.level u.disp.pend (p + 1) q = c.toNat / 16 ∧
    State.level u.disp.pend (p + 7) q = f.toNat / 16 ∧ u.disp.target = a.disp.target) ∧
  (∀ (s : State) (x : Ctx) (p q w h : Nat) (l : List Byte), let b := s.advance x.t; let a := b.start x;
    b.takes x Op.DISP_IMAGE_LOAD 0 = true → w = 0 ∨ h = 0 ∨ p % 8 ≠ 0 ∨ w % 8 ≠ 0 ∨ a.rd R.DISP_CFG_WIDTH < p + w ∨
    a.rd R.DISP_CFG_HEIGHT < q + h → exec (.dispImageLoad x p q w h l) s = .next (a.complete x St.REGION_SIZE)) ∧
  (∀ (s : State) (x : Ctx) (p q w h m : Nat), let b := s.advance x.t; let a := b.start x;
    b.takes x Op.DISP_UPDATE 0 = true → b.heldBy 16 (.dispUpdate p q w h m) = none →
    b.actDisabled (some (.dispUpdate p q w h m)) = false → a.dispBad p q w h m = none → w ≠ 0 → h ≠ 0 →
    (List.range 16).all (fun r => (a.region r).st == .free) = true → ∃ u, exec (.dispUpdate x p q w h m) s =
    .next u ∧ u.answer x = some St.PENDING ∧ (u.region 0).st = .queued ∧ (u.region 0).ctx = some x ∧
    [(u.region 0).x, (u.region 0).y, (u.region 0).w, (u.region 0).h, (u.region 0).mode] = [p, q, w, h, m] ∧
    u.disp.pwrEn = true) ∧
  (∀ (s : State) (x : Ctx) (p q w h m k : Nat), let b := s.advance x.t; let a := b.start x;
    b.takes x Op.DISP_UPDATE 0 = true → b.heldBy 16 (.dispUpdate p q w h m) = none →
    b.actDisabled (some (.dispUpdate p q w h m)) = false → a.dispBad p q w h m = some k → w ≠ 0 ∨ h ≠ 0 →
    exec (.dispUpdate x p q w h m) s = .next (a.complete x k)) ∧
  (∀ (s : State) (x : Ctx) (v : Int), let b := s.advance x.t; let a := b.start x; b.takes x Op.DISP_TEMP_SET 0 =
    true → a.rd R.DISP_TEMP_SRC = 2 → -16384 ≤ v → v ≤ 16383 → ∃ u, exec (.dispTempSet x v) s = .next u ∧
    u.answer x = some St.OK ∧ u.rdInt R.DISP_TEMP_TEMP = v ∧ u.flag R.DISP_TEMP_STALE = false ∧ u.disp.tempAt1 =
    a.mtb + 1) ∧
  (∀ (s : State) (x : Ctx) (v : Int), let b := s.advance x.t; let a := b.start x; b.takes x Op.DISP_TEMP_SET 0 =
    true → a.rd R.DISP_TEMP_SRC ≠ 2 → exec (.dispTempSet x v) s = .next (a.complete x St.BAD_PARAM)) ∧
  (∀ (s : State) (x : Ctx), let b := s.advance x.t; let a := b.start x; b.takes x Op.DISP_VINTAGE_READ 0 = true →
    exec (.dispVintageRead x) s =
    .next ((a.giveBuffer ((List.range a.tiles).flatMap fun (k : Nat) => [a.driveNs k 0 / 10 ^ 7, a.driveNs k 1 / 10 ^ 7])).complete x St.OK)) ∧
  (∀ (s : State) (x : Ctx) (g : OwnerSig), let b := s.advance x.t; let a := b.start x;
    b.takes x Op.DISP_VINTAGE_RESET 0 = true → a.ownerBad g = none → ∃ u, exec (.dispVintageReset x g) s = .next u ∧
    u.answer x = some St.OK ∧ u.disp.vint = .empty ∧ u.disp.vintSaved = .empty ∧ u.rd R.KEY_OWNER_CTR_CTR =
    g.counter) ∧
  (∀ (s : State) (x : Ctx) (g : OwnerSig) (k : Nat), let b := s.advance x.t; let a := b.start x;
    b.takes x Op.DISP_VINTAGE_RESET 0 = true → a.ownerBad g = some k → exec (.dispVintageReset x g) s =
    .next (a.complete x k))

/-- What the events of the load switches do. Trips, inrush, retries and cooling, hot quads, PWM periods, open loads,
budgets and undervoltage of a bank. Where a clause rests on a choice of the model, it is that of log entries 163,
164, 166, 167 and 248, and no rule is cited for it. (R434, R435, R437, R438, R440, R441, R442, R445, R446, R448,
R449) -/
def Obligations.LoadSwitchEvents : Prop :=
  (∀ (s : State) (t : Nat) (n i j : Nat), let a := s.advance t; a.up = true → n < 32 → a.lswSt n = 2 →
    a.lswConducts n = true → j < 220 → (a.lswCh n).held = none → 250 * a.rd R.LSW_CFG_ILIM n ≤ i →
    a.rd R.LSW_STAT_RETRIES_LEFT n ≠ 0 → ∃ u, exec (.lswTrip t n i j false) s = .next u ∧ u.lswSt n = 3 ∧
    (u.lswCh n).due = a.mtb + a.rd R.LSW_CFG_RETRY_MS n * 10 ^ 6 ∧ u.rd R.LSW_STAT_TRIPS n =
    satAdd R.LSW_STAT_TRIPS.w (a.rd R.LSW_STAT_TRIPS n) 1 ∧ u.told =
    some (Ev.LSW_TRIP, n, [n, 0, a.rd R.LSW_STAT_RETRIES_LEFT n, 0, i, j])) ∧
  (∀ (s : State) (t : Nat) (n i j : Nat), let a := s.advance t; a.up = true → n < 32 → a.lswSt n = 2 →
    a.lswConducts n = true → j < 220 → (a.lswCh n).held = none → 250 * a.rd R.LSW_CFG_ILIM n ≤ i →
    a.rd R.LSW_STAT_RETRIES_LEFT n = 0 → ∃ u, exec (.lswTrip t n i j false) s = .next u ∧ u.lswSt n = 6 ∧
    u.rd R.LSW_STAT_LATCH_OC n = 1 ∧ u.rd R.LSW_STAT_TRIPS n =
    satAdd R.LSW_STAT_TRIPS.w (a.rd R.LSW_STAT_TRIPS n) 1) ∧
  (∀ (s : State) (t : Nat) (n i j : Nat) (k : Bool), let a := s.advance t; a.up = true → n < 32 → a.lswConducts n =
    true → 220 ≤ j → a.flag R.LSW_CFG_THERM_LATCH n = false → ∃ u, exec (.lswTrip t n i j k) s = .next u ∧
    u.lswSt n = 4 ∧ u.rd R.LSW_STAT_TRIPS n = satAdd R.LSW_STAT_TRIPS.w (a.rd R.LSW_STAT_TRIPS n) 1) ∧
  (∀ (s : State) (t : Nat) (n i j : Nat) (k : Bool), let a := s.advance t; a.up = true → n < 32 → a.lswSt n = 0 →
    exec (.lswTrip t n i j k) s = .next (a)) ∧
  (∀ (s : State) (t : Nat) (n i j : Nat), let a := s.advance t; a.up = true → n < 32 → a.lswSt n = 1 → j < 220 →
    (a.lswCh n).held = none → (a.lswCh n).since + 10 ^ 6 ≤ a.mtb → a.mtb ≤ (a.lswCh n).since + 1020000 →
    a.rd R.LSW_STAT_RETRIES_LEFT n ≠ 0 → ∃ u, exec (.lswTrip t n i j true) s = .next u ∧ u.lswSt n = 3 ∧
    u.rd R.LSW_STAT_TRIPS n = satAdd R.LSW_STAT_TRIPS.w (a.rd R.LSW_STAT_TRIPS n) 1 ∧ u.told =
    some (Ev.LSW_TRIP, n, [n, 1, a.rd R.LSW_STAT_RETRIES_LEFT n, 0, i, j])) ∧
  (∀ (s : State) (t : Nat) (n i j : Nat), let a := s.advance t; a.up = true → n < 32 → a.lswSt n = 1 →
    (a.lswCh n).since + 10 ^ 6 ≤ a.mtb → i < 250 * a.rd R.LSW_CFG_ILIM n → ∃ u, exec (.inrushEnd t n i j true) s =
    .next u ∧ u.lswSt n = 2 ∧ (u.lswCh n).since = a.mtb) ∧
  (∀ (s : State) (t : Nat) (n i j : Nat) (k : Bool), let a := s.advance t; a.up = true → n < 32 → a.lswSt n = 1 →
    (a.lswCh n).since + a.rd R.LSW_CFG_INRUSH_MS n * 10 ^ 6 ≤ a.mtb → 250 * a.rd R.LSW_CFG_ILIM n ≤ i →
    a.rd R.LSW_STAT_RETRIES_LEFT n ≠ 0 → ∃ u, exec (.inrushEnd t n i j k) s = .next u ∧ u.lswSt n = 3 ∧
    u.rd R.LSW_STAT_TRIPS n = satAdd R.LSW_STAT_TRIPS.w (a.rd R.LSW_STAT_TRIPS n) 1) ∧
  (∀ (s : State) (t : Nat) (n i j : Nat) (k : Bool), let a := s.advance t; a.up = true → a.lswSt n ≠ 1 →
    exec (.inrushEnd t n i j k) s = .next (a)) ∧
  (∀ (s : State) (t : Nat) (n : Nat), let a := s.advance t; a.up = true → a.lswSt n = 3 → (a.lswCh n).held = none →
    (a.lswCh n).due ≤ a.mtb → a.flag R.LSW_QUAD_HOT (n / 4) = false → a.rd R.LSW_STAT_RETRIES_LEFT n ≠ 0 →
    a.flag R.LSW_CFG_INRUSH_EN n = true → ∃ u, exec (.lswRetry t n) s = .next u ∧ u.lswSt n = 1 ∧
    u.rd R.LSW_STAT_RETRIES_LEFT n = a.rd R.LSW_STAT_RETRIES_LEFT n - 1) ∧
  (∀ (s : State) (t : Nat) (n : Nat), let a := s.advance t; a.up = true → a.lswSt n = 3 → (a.lswCh n).held = none →
    (a.lswCh n).due ≤ a.mtb → a.flag R.LSW_QUAD_HOT (n / 4) = true → ∃ u, exec (.lswRetry t n) s = .next u ∧
    u.lswSt n = 5 ∧ (u.lswCh n).retry = true ∧ u.rd R.LSW_STAT_RETRIES_LEFT n = a.rd R.LSW_STAT_RETRIES_LEFT n) ∧
  (∀ (s : State) (t : Nat) (n : Nat), let a := s.advance t; a.up = true → a.lswSt n ≠ 3 ∨ a.mtb < (a.lswCh n).due →
    exec (.lswRetry t n) s = .next (a)) ∧
  (∀ (s : State) (t : Nat) (n j : Nat), let a := s.advance t; a.up = true → a.lswSt n = 4 → j ≤ 200 →
    (a.lswCh n).held = none → a.flag R.LSW_QUAD_HOT (n / 4) = false → ∃ u, exec (.lswCoolRestart t n j) s =
    .next u ∧ u.lswSt n = (if a.flag R.LSW_CFG_INRUSH_EN n then 1 else 2) ∧ u.rd R.LSW_STAT_RETRIES_LEFT n =
    a.rd R.LSW_STAT_RETRIES_LEFT n) ∧
  (∀ (s : State) (t : Nat) (n j : Nat), let a := s.advance t; a.up = true → 200 < j →
    exec (.lswCoolRestart t n j) s = .next (a)) ∧
  (∀ (s : State) (t : Nat) (n : Nat), let a := s.advance t; a.up = true → a.lswSt n = 2 → (a.lswCh n).since +
    10 ^ 9 ≤ a.mtb → exec (.retriesReload t n) s =
    .next (a.wr R.LSW_STAT_RETRIES_LEFT n (a.rd R.LSW_CFG_RETRY_N n))) ∧
  (∀ (s : State) (t : Nat) (n : Nat), let a := s.advance t; a.up = true → a.mtb < (a.lswCh n).since + 10 ^ 9 →
    exec (.retriesReload t n) s = .next (a)) ∧
  (∀ (s : State) (t : Nat) (q j : Nat), let a := s.advance t; a.up = true → q < 8 → 215 ≤ j →
    a.flag R.LSW_QUAD_HOT q = false → (List.range 4).all (fun k => a.lswSt (4 * q + k) != 1) = true → ∃ u,
    exec (.quadHot t q j) s = .next u ∧ u.flag R.LSW_QUAD_HOT q = true ∧ u.rd R.LSW_QUAD_TRIPS q =
    satAdd R.LSW_QUAD_TRIPS.w (a.rd R.LSW_QUAD_TRIPS q) 1 ∧ u.told = some (Ev.LSW_QUAD, q, [q, 1, 0])) ∧
  (∀ (s : State) (t : Nat) (q j : Nat), let a := s.advance t; a.up = true → q < 8 → 215 ≤ j →
    a.flag R.LSW_QUAD_HOT q = false → a.lswSt (4 * q) = 1 →
    (List.range 3).all (fun k => a.lswSt (4 * q + 1 + k) != 1) = true → ∃ u, exec (.quadHot t q j) s = .next u ∧
    u.lswSt (4 * q) = 5 ∧ u.told = some (Ev.LSW_QUAD, q, [q, 1, 2 ^ (4 * q)])) ∧
  (∀ (s : State) (t : Nat) (q j : Nat), let a := s.advance t; a.up = true → j < 215 → exec (.quadHot t q j) s =
    .next (a)) ∧
  (∀ (s : State) (t : Nat) (q j : Nat), let a := s.advance t; a.up = true → q < 8 → j ≤ 195 →
    a.flag R.LSW_QUAD_HOT q = true → ∃ u, exec (.quadCool t q j) s = .next u ∧ u.flag R.LSW_QUAD_HOT q = false ∧
    u.lsw.next.get 0 q = a.mtb ∧ u.told.map (fun (z : Nat × Nat × List Nat) => z.2.2.take 2) = some [q, 0]) ∧
  (∀ (s : State) (t : Nat) (q j : Nat), let a := s.advance t; a.up = true → 195 < j → exec (.quadCool t q j) s =
    .next (a)) ∧
  (∀ (s : State) (t : Nat) (q : Nat), let a := s.advance t; a.up = true → q < 8 → a.flag R.LSW_QUAD_HOT q = false →
    a.lsw.next.get 0 q ≤ a.mtb → a.lswSt (4 * q) = 5 → (a.lswCh (4 * q)).held = none → (a.lswCh (4 * q)).retry =
    false → ∃ u, exec (.quadRestartStep t q) s = .next u ∧ u.lswSt (4 * q) =
    (if a.flag R.LSW_CFG_INRUSH_EN (4 * q) then 1 else 2) ∧ u.lsw.next.get 0 q = a.mtb + 100000) ∧
  (∀ (s : State) (t : Nat) (q : Nat), let a := s.advance t; a.up = true → a.flag R.LSW_QUAD_HOT q = true ∨ a.mtb <
    a.lsw.next.get 0 q → exec (.quadRestartStep t q) s = .next (a)) ∧
  (∀ (s : State) (t : Nat) (k : Nat), let a := s.advance t; a.up = true → k < 4 → a.lsw.no.get 0 k <
    a.mtb * a.lswHz k / 10 ^ 9 → ∃ u, exec (.lswPwmPeriod t k) s = .next u ∧ u.lsw.hz.get 1000 k =
    a.rd R.LSW_BANK_PWM_HZ k ∧ u.lsw.no.get 0 k = a.mtb * a.rd R.LSW_BANK_PWM_HZ k / 10 ^ 9 ∧
    (List.range 8).all (fun (i : Nat) => (u.lswCh (8 * k + i)).duty == a.rd R.LSW_PWM_DUTY (8 * k + i) && (u.lswCh (8 * k + i)).phase == a.rd R.LSW_PWM_PHASE (8 * k + i)) =
    true ∧
    (List.range 8).all (fun (i : Nat) => a.lswSt (8 * k + i) != 2 || (u.lswCh (8 * k + i)).edge == State.pwmEdge (max 1 (a.rd R.LSW_BANK_PWM_HZ k)) (a.mtb * a.rd R.LSW_BANK_PWM_HZ k / 10 ^ 9) (a.rd R.LSW_PWM_DUTY (8 * k + i)) (a.rd R.LSW_PWM_PHASE (8 * k + i))) =
    true) ∧
  (∀ (s : State) (t : Nat) (k : Nat), let a := s.advance t; a.up = true → a.mtb * a.lswHz k / 10 ^ 9 ≤
    a.lsw.no.get 0 k → exec (.lswPwmPeriod t k) s = .next (a)) ∧
  (∀ (s : State) (t : Nat) (n l h : Nat), let a := s.advance t; a.up = true → n < 32 → a.lswSt n = 2 → 10 ^ 8 ≤
    a.sampledOn n false → a.flag R.LSW_CFG_OL_RANGE n = false → a.flag R.LSW_STAT_OPEN_ON n = false → h < 500 → ∃ u,
    exec (.lswOpenOn t n l h) s = .next u ∧ u.rd R.LSW_STAT_OPEN_ON n = 1 ∧ u.told =
    some (Ev.LSW_OPEN, n, [n, 0, 1, h])) ∧
  (∀ (s : State) (t : Nat) (n l h : Nat), let a := s.advance t; a.up = true → n < 32 → a.lswSt n = 2 → 10 ^ 8 ≤
    a.sampledOn n false → a.flag R.LSW_CFG_OL_RANGE n = false → a.flag R.LSW_STAT_OPEN_ON n = true → 600 ≤ l → ∃ u,
    exec (.lswOpenOn t n l h) s = .next u ∧ u.rd R.LSW_STAT_OPEN_ON n = 0 ∧ u.told =
    some (Ev.LSW_OPEN, n, [n, 0, 0, l])) ∧
  (∀ (s : State) (t : Nat) (n l h : Nat), let a := s.advance t; a.up = true → a.lswSt n ≠ 2 →
    exec (.lswOpenOn t n l h) s = .next (a)) ∧
  (∀ (s : State) (t : Nat) (n : Nat), let a := s.advance t; a.up = true → n < 32 → a.flag R.LSW_CFG_OFF_DIAG n =
    true → a.lswSt n = 0 → a.flag R.LSW_STAT_OPEN_OFF n = false → a.muted = false → (a.lswCh n).since + 10 ^ 7 ≤
    a.mtb → ∃ u, exec (.lswOpenOff t n) s = .next u ∧ u.rd R.LSW_STAT_OPEN_OFF n = 1 ∧ u.told =
    some (Ev.LSW_OPEN, n, [n, 1, 1, 0])) ∧
  (∀ (s : State) (t : Nat) (n : Nat), let a := s.advance t; a.up = true → a.flag R.LSW_CFG_OFF_DIAG n = false →
    exec (.lswOpenOff t n) s = .next (a)) ∧
  (∀ (s : State) (t : Nat), let a := s.advance t; a.up = true → a.lsw.win < a.mtb / 10 ^ 8 →
    (List.range 32).all (fun k => a.lswSt k == 0) = true → ∃ u, exec (.lswBudgetWindow t [] []) s = .next u ∧
    u.rd R.LSW_TOTAL_I_MA = 0 ∧ u.rd R.LSW_TOTAL_P_MW = 0 ∧
    (List.range 4).all (fun (k : Nat) => u.rd R.LSW_BANK_I_MA k == 0) = true ∧ u.lsw.win = a.mtb / 10 ^ 8) ∧
  (∀ (s : State) (t : Nat) (i : Nat), let a := s.advance t; a.up = true → a.lsw.win < a.mtb / 10 ^ 8 → a.lswSt 0 =
    2 → (List.range 31).all (fun k => a.lswSt (k + 1) == 0) = true → 6000 < i → i ≤ 24000 → ∃ u,
    exec (.lswBudgetWindow t [i] []) s = .next u ∧ u.lswSt 0 = 0 ∧ u.rd R.LSW_STAT_BUDGET_OFF 0 = 1 ∧
    u.rd R.LSW_BANK_I_MA 0 = i ∧ u.rd R.LSW_BANK_SHED 0 = satAdd R.LSW_BANK_SHED.w (a.rd R.LSW_BANK_SHED 0) 1 ∧
    u.told = some (Ev.LSW_BUDGET, 0, [0, 0, i])) ∧
  (∀ (s : State) (t : Nat) (m v : Nat), let a := s.advance t; a.up = true → m < 4 → v < 5500 →
    a.flag R.LSW_BANK_UV m = false → (List.range 8).all (fun k => a.lswSt (8 * m + k) == 0) = true → ∃ u,
    exec (.vlsUndervoltage t m v) s = .next u ∧ u.flag R.LSW_BANK_UV m = true ∧ u.rd R.LSW_BANK_VLS_MV m = v ∧
    u.told = some (Ev.LSW_BANK_UV, m, [m, 1, v])) ∧
  (∀ (s : State) (t : Nat) (v : Nat), let a := s.advance t; a.up = true → v < 5500 → a.flag R.LSW_BANK_UV 0 =
    false → a.lswSt 0 = 2 → (List.range 7).all (fun k => a.lswSt (k + 1) == 0) = true → ∃ u,
    exec (.vlsUndervoltage t 0 v) s = .next u ∧ u.lswSt 0 = 0 ∧ (u.lswCh 0).held.map (·.1) = some 2) ∧
  (∀ (s : State) (t : Nat) (m v : Nat), let a := s.advance t; a.up = true → 5500 ≤ v →
    exec (.vlsUndervoltage t m v) s = .next (a)) ∧
  (∀ (s : State) (t : Nat) (m v : Nat), let a := s.advance t; a.up = true → m < 4 → 6000 < v → v < 2 ^ 15 →
    a.flag R.LSW_BANK_UV m = true → a.lsw.lowAt.get 0 m + 10 ^ 7 ≤ a.mtb →
    (List.range 8).all (fun k => (a.lswCh (8 * m + k)).held.isNone) = true → ∃ u, exec (.vlsRestored t m v) s =
    .next u ∧ u.flag R.LSW_BANK_UV m = false ∧ u.told = some (Ev.LSW_BANK_UV, m, [m, 0, v])) ∧
  (∀ (s : State) (t : Nat) (m v : Nat), let a := s.advance t; a.up = true → v ≤ 6000 ∨ a.flag R.LSW_BANK_UV m =
    false → exec (.vlsRestored t m v) s = .next (a))

/-- What the LSW commands do. LSW_SET, LSW_CLEAR, LSW_QUERY, LSW_CONFIG and LSW_BANK_PWM, with the statuses that
turn them away. Where a clause rests on a choice of the model, it is that of log entries 38 and 165, and no rule
is cited for it. (R434, R435, R437, R439, R442, R447, R449, R450) -/
def Obligations.LoadSwitchCommands : Prop :=
  (∀ (s : State) (x : Ctx) (n : Nat), let b := s.advance x.t; let a := b.start x; b.takes x Op.LSW_SET 0xFF = true →
    n < 32 → a.lswSt n = 0 → a.flag R.LSW_CFG_EN n = true → a.flag R.LSW_BANK_UV (n / 8) = false →
    a.flag R.LSW_CFG_SAFE_OFF n = false → a.overBudget [n] = [] → a.flag R.LSW_QUAD_HOT (n / 4) = false → ∃ u,
    exec (.lswSet x (2 ^ n) 1 0xFFFF 0xFF) s = .next u ∧ u.answer x = some St.OK ∧ u.lswSt n =
    (if a.flag R.LSW_CFG_INRUSH_EN n then 1 else 2) ∧ u.rd R.LSW_STAT_RETRIES_LEFT n = a.rd R.LSW_CFG_RETRY_N n) ∧
  (∀ (s : State) (x : Ctx) (n d p : Nat), let b := s.advance x.t; let a := b.start x; b.takes x Op.LSW_SET 0xFF =
    true → n < 32 → a.lswSt n = 2 → d ≤ 4095 → p < 255 → ∃ u, exec (.lswSet x (2 ^ n) 0 d p) s = .next u ∧
    u.answer x = some St.OK ∧ u.lswSt n = 0 ∧ u.rd R.LSW_PWM_DUTY n = d ∧ u.rd R.LSW_PWM_PHASE n = p) ∧
  (∀ (s : State) (x : Ctx) (n : Nat), let b := s.advance x.t; let a := b.start x; b.takes x Op.LSW_SET 0xFF = true →
    n < 32 → a.lswSt n = 6 → a.flag R.LSW_CFG_EN n = true → exec (.lswSet x (2 ^ n) 1 0xFFFF 0xFF) s =
    .next (a.complete x St.LSW_LATCHED (2 ^ n))) ∧
  (∀ (s : State) (x : Ctx) (n : Nat), let b := s.advance x.t; let a := b.start x; b.takes x Op.LSW_SET 0xFF = true →
    n < 32 → a.lswSt n = 0 → a.flag R.LSW_CFG_EN n = true → a.flag R.LSW_BANK_UV (n / 8) = true →
    exec (.lswSet x (2 ^ n) 1 0xFFFF 0xFF) s = .next (a.complete x St.BANK_LOW (2 ^ n))) ∧
  (∀ (s : State) (x : Ctx) (n : Nat), let b := s.advance x.t; let a := b.start x; b.takes x Op.LSW_SET 0xFF = true →
    n < 32 → a.lswSt n = 0 → a.flag R.LSW_CFG_EN n = true → a.flag R.LSW_BANK_UV (n / 8) = false →
    a.flag R.LSW_CFG_SAFE_OFF n = true → a.flag R.SAFE_STATUS_SAFE_OK = false →
    exec (.lswSet x (2 ^ n) 1 0xFFFF 0xFF) s = .next (a.complete x St.SAFE_HOLD (2 ^ n))) ∧
  (∀ (s : State) (x : Ctx) (n : Nat), let b := s.advance x.t; let a := b.start x; b.takes x Op.LSW_SET 0xFF = true →
    n < 32 → a.lswSt n = 0 → a.flag R.LSW_CFG_EN n = true → a.flag R.LSW_BANK_UV (n / 8) = false →
    a.flag R.LSW_CFG_SAFE_OFF n = false → a.overBudget [n] = [n] → exec (.lswSet x (2 ^ n) 1 0xFFFF 0xFF) s =
    .next (a.complete x St.BUDGET_REFUSED (2 ^ n))) ∧
  (∀ (s : State) (x : Ctx) (n : Nat), let b := s.advance x.t; let a := b.start x; b.takes x Op.LSW_CLEAR 0xFF =
    true → n < 32 → a.lswSt n = 6 → a.rd R.LSW_STAT_TJ n ≤ 200 → ∃ u, exec (.lswClear x (2 ^ n)) s = .next u ∧
    u.answer x = some St.OK ∧ u.lswSt n = 0 ∧ u.rd R.LSW_STAT_LATCH_OC n = 0 ∧ u.rd R.LSW_STAT_LATCH_TH n = 0 ∧
    u.rd R.LSW_STAT_RETRIES_LEFT n = a.rd R.LSW_CFG_RETRY_N n) ∧
  (∀ (s : State) (x : Ctx) (n : Nat), let b := s.advance x.t; let a := b.start x; b.takes x Op.LSW_CLEAR 0xFF =
    true → n < 32 → a.lswSt n = 6 → 200 < a.rd R.LSW_STAT_TJ n → exec (.lswClear x (2 ^ n)) s =
    .next (a.complete x St.OK (2 ^ n))) ∧
  (∀ (s : State) (x : Ctx) (n : Nat), let b := s.advance x.t; let a := b.start x; b.takes x Op.LSW_QUERY n = true →
    n < 32 → exec (.lswQuery x n) s = .next (a.complete x St.OK (a.pack State.lswStatFields n))) ∧
  (∀ (s : State) (x : Ctx) (n : Nat), let b := s.advance x.t; let a := b.start x; b.takes x Op.LSW_QUERY n = true →
    32 ≤ n → exec (.lswQuery x n) s = .next (a.complete x St.BAD_PARAM)) ∧
  (∀ (s : State) (x : Ctx) (n i j : Nat), let b := s.advance x.t; let a := b.start x; b.takes x Op.LSW_CONFIG n =
    true → n < 32 → State.lswCfgFields.all (fun F => State.inRange F (State.imageField F i)) = true → a.lswSt n =
    0 → (a.lswCh n).held = none → ∃ u, exec (.lswConfig x n i j) s = .next u ∧ u.answer x = some St.OK ∧
    State.lswCfgFields.all (fun F => u.rd F n == State.imageField F i) = true ∧ u.rd R.LSW_PWM_DUTY n =
    State.imageField R.LSW_PWM_DUTY j) ∧
  (∀ (s : State) (x : Ctx) (n i j : Nat), let b := s.advance x.t; let a := b.start x; b.takes x Op.LSW_CONFIG n =
    true → n < 32 → State.lswCfgFields.all (fun F => State.inRange F (State.imageField F i)) = true → a.lswSt n =
    2 → exec (.lswConfig x n i j) s = .next (a.complete x St.LSW_BUSY)) ∧
  (∀ (s : State) (x : Ctx) (m h : Nat), let b := s.advance x.t; let a := b.start x; b.takes x Op.LSW_BANK_PWM 0xFF =
    true → m < 4 → 100 ≤ h → h ≤ 20000 → ∃ u, exec (.lswBankPwm x m h) s = .next u ∧ u.answer x = some St.OK ∧
    u.rd R.LSW_BANK_PWM_HZ m = h ∧ u.lsw.hz = a.lsw.hz) ∧
  (∀ (s : State) (x : Ctx) (m h : Nat), let b := s.advance x.t; let a := b.start x; b.takes x Op.LSW_BANK_PWM 0xFF =
    true → 4 ≤ m ∨ h < 100 ∨ 20000 < h → exec (.lswBankPwm x m h) s = .next (a.complete x St.BAD_PARAM))

/-- What the events and the commands of twin operation do. The link of two twins, the state copy, giving up, the
activity lines, a stop that the peer forwards, and TWIN_QUERY, TWIN_SWITCH and TWIN_REJOIN, with the statuses that
turn them away. Where a clause rests on a choice of the model, it is that of log entries 7, 58, 83, 85, 181, 182,
183, 184, 185, 186, 187, 194 and 221, and no rule is cited for it. (R476, R477, R478, R479, R480, R481, R482,
R486, R487) -/
def Obligations.TwinEventsAndCommands : Prop :=
  (∀ (s : State) (t : Nat) (k z : Nat) (q : Bool) (h : TwinHdr), let a := s.advance t; a.up = true →
    a.flag R.TWIN_LINK_UP = false → z < 2 ^ 64 → h.stamp < 2 ^ 62 → h.at_ < 2 ^ 62 → a.rd R.TWIN_STAT_PEER_SERIAL =
    0 → a.role = 1 → a.twin.actIn = true → ∃ u, exec (.twinLinkUp t k z q h) s = .next u ∧ u.flag R.TWIN_LINK_UP =
    true ∧ u.rd R.TWIN_LINK_LANES = min 2 k ∧ u.rd R.TWIN_STAT_PEER_SERIAL = z ∧ u.twin.peerPrefer = q ∧
    u.twin.peerRun = h.running ∧ u.rdInt R.TWIN_MTB_OFS_OFFSET = (h.stamp : Int) - h.at_ ∧ u.twin.ofsOk = true ∧
    u.role = 3 ∧ u.twin.pilotsOff = 0xFF ∧ u.actOut = false) ∧
  (∀ (s : State) (t : Nat) (k z : Nat) (q : Bool) (h : TwinHdr), let a := s.advance t; a.up = true →
    a.flag R.TWIN_LINK_UP = false → z < 2 ^ 64 → h.stamp < 2 ^ 62 → h.at_ < 2 ^ 62 → a.rd R.TWIN_STAT_PEER_SERIAL =
    0 → a.role = 1 → a.twin.actIn = false → a.flag R.TWIN_CFG_PREFER = true → ∃ u, exec (.twinLinkUp t k z q h) s =
    .next u ∧ u.flag R.TWIN_LINK_UP = true ∧ u.rd R.TWIN_LINK_LANES = min 2 k ∧ u.rd R.TWIN_STAT_PEER_SERIAL = z ∧
    u.twin.peerPrefer = q ∧ u.twin.peerRun = h.running ∧ u.rdInt R.TWIN_MTB_OFS_OFFSET = (h.stamp : Int) - h.at_ ∧
    u.twin.ofsOk = true ∧ u.role = 2 ∧ u.actOut = decide (a.mtb ≤ a.safe.aliveAt + 2 * 10 ^ 6)) ∧
  (∀ (s : State) (t : Nat) (k z : Nat) (q : Bool) (h : TwinHdr), let a := s.advance t; a.up = true → a.role = 0 ∨
    a.flag R.TWIN_LINK_UP = true → exec (.twinLinkUp t k z q h) s = .next (a)) ∧
  (∀ (s : State) (t : Nat), let a := s.advance t; a.up = true → a.flag R.TWIN_LINK_UP = true → ∃ u,
    exec (.twinLinkDown t) s = .next u ∧ u.flag R.TWIN_LINK_UP = false ∧ u.rd R.TWIN_LINK_LANES = 0 ∧
    u.rd R.TWIN_STAT_PEER_READY = 0 ∧ u.twin.ofsOk = false ∧ u.twin.inRow = 0 ∧ u.role = a.role ∧ u.told =
    some (Ev.TWIN_PEER, 0, [0, 0, a.rd R.TWIN_STAT_PEER_SERIAL])) ∧
  (∀ (s : State) (t : Nat), let a := s.advance t; a.up = true → a.flag R.TWIN_LINK_UP = false →
    exec (.twinLinkDown t) s = .next (a)) ∧
  (∀ (s : State) (t : Nat), let a := s.advance t; a.up = true → a.role = 1 → a.flag R.TWIN_LINK_UP = false →
    a.twin.actIn = false → a.twin.since + 2 * 10 ^ 9 ≤ a.mtb → ∃ u, exec (.twinPairTimeout t) s = .next u ∧ u.role =
    5 ∧ u.actOut = false ∧ u.twin.since = a.mtb) ∧
  (∀ (s : State) (t : Nat), let a := s.advance t; a.up = true → a.role ≠ 1 → exec (.twinPairTimeout t) s =
    .next (a)) ∧
  (∀ (s : State) (t : Nat) (h : TwinHdr) (r k : Nat), let a := s.advance t; a.up = true → a.role = 2 →
    a.flag R.TWIN_LINK_UP = true → a.arch.cycleStart + 490000 ≤ a.mtb → a.twin.frozen.map (·.cycle) ≠
    some (a.arch.cycleStart / 10 ^ 6) → k < 2 ^ 10 → ∃ u, exec (.twinCopyFreeze t h r k) s = .next u ∧
    u.twin.frozen.map (·.cycle) = some (a.arch.cycleStart / 10 ^ 6) ∧ u.flag R.TWIN_STAT_PEER_READY = h.ready ∧
    u.rd R.TWIN_LINK_CRC_ERR = satAdd R.TWIN_LINK_CRC_ERR.w (a.rd R.TWIN_LINK_CRC_ERR) r ∧
    u.rd R.TWIN_STAT_COPY_KIB = k) ∧
  (∀ (s : State) (t : Nat) (h : TwinHdr) (r k : Nat), let a := s.advance t; a.up = true → a.role ≠ 2 ∨
    a.flag R.TWIN_LINK_UP = false ∨ a.mtb < a.arch.cycleStart + 490000 → exec (.twinCopyFreeze t h r k) s =
    .next (a)) ∧
  (∀ (s : State) (t : Nat) (p : TwinCopy) (h : TwinHdr) (k : Nat), let a := s.advance t; a.up = true → a.role = 3 →
    a.flag R.TWIN_LINK_UP = true → k ≤ 768 → p.cycle = (a.noteFrame h 0).peerNow / 10 ^ 6 →
    (a.noteFrame h 0).peerNow % 10 ^ 6 ≤ 995000 → a.twin.gotCycle ≠ p.cycle + 1 → ∃ u,
    exec (.twinCopyRx t p true k h) s = .next u ∧ u.twin.copy = some p ∧ u.twin.inRow = a.twin.inRow + 1 ∧
    u.twin.gotCycle = p.cycle + 1 ∧ u.rd R.TWIN_STAT_COPY_KIB = k) ∧
  (∀ (s : State) (t : Nat) (p : TwinCopy) (h : TwinHdr) (k : Nat), let a := s.advance t; a.up = true → a.role = 3 →
    a.flag R.TWIN_LINK_UP = true → exec (.twinCopyRx t p false k h) s = .next (a.noteFrame h 0)) ∧
  (∀ (s : State) (t : Nat) (p : TwinCopy) (h : TwinHdr) (k : Nat) (q : Bool), let a := s.advance t; a.up = true →
    a.role ≠ 3 ∨ a.flag R.TWIN_LINK_UP = false → exec (.twinCopyRx t p q k h) s = .next (a)) ∧
  (∀ (s : State) (t : Nat), let a := s.advance t; a.up = true → a.role = 3 → 995000 ≤ a.peerNow % 10 ^ 6 →
    a.twin.dueCycle ≠ a.peerNow / 10 ^ 6 + 1 → a.twin.gotCycle = a.peerNow / 10 ^ 6 + 1 → ∃ u,
    exec (.twinCopyDeadline t 0) s = .next u ∧ u.twin.dueCycle = a.peerNow / 10 ^ 6 + 1 ∧ u.twin.inRow =
    a.twin.inRow ∧ u.rd R.TWIN_STAT_COPY_MISS = a.rd R.TWIN_STAT_COPY_MISS) ∧
  (∀ (s : State) (t : Nat) (k : Nat), let a := s.advance t; a.up = true → a.role = 3 → 995000 ≤ a.peerNow % 10 ^ 6 →
    a.twin.dueCycle ≠ a.peerNow / 10 ^ 6 + 1 → a.twin.gotCycle ≠ a.peerNow / 10 ^ 6 + 1 → a.twin.missAt1 = 0 → ∃ u,
    exec (.twinCopyDeadline t k) s = .next u ∧ u.twin.inRow = 0 ∧ u.rd R.TWIN_STAT_COPY_MISS =
    satAdd R.TWIN_STAT_COPY_MISS.w (a.rd R.TWIN_STAT_COPY_MISS) 1 ∧ u.twin.missAt1 = a.mtb + 1 ∧ u.told =
    some (Ev.TWIN_COPY_MISS, 0, [a.twin.missed + 1])) ∧
  (∀ (s : State) (t : Nat) (k : Nat), let a := s.advance t; a.up = true → a.peerNow % 10 ^ 6 < 995000 →
    exec (.twinCopyDeadline t k) s = .next (a)) ∧
  (∀ (s : State) (t : Nat) (k : Nat), let a := s.advance t; a.up = true → a.role = 2 → a.giveUpOn k = true →
    a.giveUpHolds k = true → a.flag R.TWIN_STAT_PEER_READY = true → k < 2 ^ 6 → ∃ u, exec (.twinGiveup t k) s =
    .next u ∧ u.role = 6 ∧ u.actOut = false ∧ u.rd R.TWIN_STAT_LAST_CAUSE = k) ∧
  (∀ (s : State) (t : Nat) (k : Nat), let a := s.advance t; a.up = true → a.role ≠ 2 ∨ a.giveUpOn k = false ∨
    a.giveUpHolds k = false ∨ a.flag R.TWIN_STAT_PEER_READY = false → exec (.twinGiveup t k) s = .next (a)) ∧
  (∀ (s : State) (t : Nat), let a := s.advance t; a.up = true → a.role = 3 → a.twin.copy = none → ∃ u,
    exec (.twinActInFall t) s = .next u ∧ u.role = 5 ∧ u.twin.actIn = false) ∧
  (∀ (s : State) (t : Nat) (p : TwinCopy), let a := s.advance t; a.up = true → a.role = 3 → a.twinReady = true →
    a.twin.copy = some p → ∃ u, exec (.twinActInFall t) s = .next u ∧ u.role = 4 ∧ u.twin.actIn = false ∧
    u.twin.wanted = p.coils ∧ u.twin.refused = 0 ∧ u.tag.cables = p.cables) ∧
  (∀ (s : State) (t : Nat), let a := s.advance t; a.up = true → a.role = 1 → a.flag R.TWIN_LINK_UP = true →
    a.flag R.TWIN_CFG_PREFER = true → ∃ u, exec (.twinActInFall t) s = .next u ∧ u.role = 2 ∧ u.twin.actIn = false ∧
    u.actOut = decide (a.mtb ≤ a.safe.aliveAt + 2 * 10 ^ 6)) ∧
  (∀ (s : State) (t : Nat), let a := s.advance t; a.up = true → a.role ≠ 3 → a.role ≠ 1 → ∃ u,
    exec (.twinActInFall t) s = .next u ∧ u.role = a.role ∧ u.twin.actIn = false) ∧
  (∀ (s : State) (t : Nat), let a := s.advance t; a.up = true → a.role = 6 → a.twin.released = false → ∃ u,
    exec (.twinActInRise t) s = .next u ∧ u.twin.actIn = true ∧ u.twin.released = true ∧ u.twin.pilotsOff = 0xFF ∧
    u.role = 6 ∧ u.rd R.SAFE_STATUS_SAFE_OK = 0) ∧
  (∀ (s : State) (t : Nat), let a := s.advance t; a.up = true → a.role = 1 → a.flag R.TWIN_LINK_UP = true → ∃ u,
    exec (.twinActInRise t) s = .next u ∧ u.twin.actIn = true ∧ u.role = 3) ∧
  (∀ (s : State) (t : Nat), let a := s.advance t; a.up = true → a.role = 2 → a.actOut = true → a.twin.actIn =
    false → ∃ u, exec (.twinActInRise t) s = .next u ∧ u.twin.actIn = true ∧ u.twin.bothAt = some a.mtb ∧ u.role =
    2) ∧
  (∀ (s : State) (t : Nat) (m : Nat), let a := s.advance t; a.up = true → a.twin.bothAt = some m → a.twin.actIn =
    true → a.actOut = true → m + 10 ^ 6 ≤ a.mtb → a.flag R.TWIN_CFG_PREFER = false → a.twin.peerPrefer = true → ∃ u,
    exec (.twinActConflict t) s = .next u ∧ u.role = 6 ∧ u.actOut = false ∧ u.twin.released = true) ∧
  (∀ (s : State) (t : Nat), let a := s.advance t; a.up = true → a.twin.bothAt = none → exec (.twinActConflict t) s =
    .next (a)) ∧
  (∀ (s : State) (t : Nat), let a := s.advance t; a.up = true → a.role = 4 → a.twin.actIn = false → a.twin.wanted =
    0 → a.twin.carried = [] → (List.range 8).all (fun k => !(a.outlet k).hlcRunning) = true → ∃ u,
    exec (.twinTakeoverDone t) s = .next u ∧ u.role = 2 ∧ u.actOut = decide (a.mtb ≤ a.safe.aliveAt + 2 * 10 ^ 6) ∧
    u.rd R.TWIN_STAT_TAKEOVERS = satAdd R.TWIN_STAT_TAKEOVERS.w (a.rd R.TWIN_STAT_TAKEOVERS) 1) ∧
  (∀ (s : State) (t : Nat), let a := s.advance t; a.up = true → a.role ≠ 4 ∨ a.twin.actIn = true →
    exec (.twinTakeoverDone t) s = .next (a)) ∧
  (∀ (s : State) (t : Nat) (m : Nat), let a := s.advance t; a.up = true → a.role = 2 → ∃ u,
    exec (.twinForwardedStop t Op.SESSION_STOP m) s = .next u ∧ u.twin.reply = (a.sessionStop m).1 ∧ u.out =
    (a.sessionStop m).2.out) ∧
  (∀ (s : State) (t : Nat) (m : Nat), let a := s.advance t; a.up = true → a.role = 2 → ∃ u,
    exec (.twinForwardedStop t Op.OUT_EREM m) s = .next u ∧ u.twin.reply = St.OK ∧ u.out = (a.outErem m).out) ∧
  (∀ (s : State) (t : Nat) (o m : Nat), let a := s.advance t; a.up = true → a.role ≠ 2 →
    exec (.twinForwardedStop t o m) s = .next (a)) ∧
  (∀ (s : State) (x : Ctx), let b := s.advance x.t; let a := b.start x; b.takes x Op.TWIN_QUERY 0 = true →
    exec (.twinQuery x) s = .next (a.complete x St.OK (a.rd R.TWIN_STAT_PEER_SERIAL + 2 ^ 64 * a.role +
    2 ^ 72 * a.rd R.TWIN_STAT_PEER_ROLE + 2 ^ 80 * (a.rd R.TWIN_STAT_READY + 2 * a.rd R.TWIN_STAT_PEER_READY)))) ∧
  (∀ (s : State) (x : Ctx), let b := s.advance x.t; let a := b.start x; b.takes x Op.TWIN_SWITCH 0 = true → a.role =
    2 → a.flag R.TWIN_STAT_PEER_READY = true → a.giveUpOn 6 = true → ∃ u, exec (.twinSwitch x) s = .next u ∧
    u.role = 6 ∧ u.answer x = some St.OK ∧ u.actOut = false ∧ u.rd R.TWIN_STAT_LAST_CAUSE = 6) ∧
  (∀ (s : State) (x : Ctx), let b := s.advance x.t; let a := b.start x; b.takes x Op.TWIN_SWITCH 0 = true → a.role ≠
    2 → exec (.twinSwitch x) s = .next (a.complete x St.TWIN_RESERVE)) ∧
  (∀ (s : State) (x : Ctx), let b := s.advance x.t; let a := b.start x; b.takes x Op.TWIN_SWITCH 0 = true → a.role =
    2 → a.flag R.TWIN_STAT_PEER_READY = false → exec (.twinSwitch x) s = .next (a.complete x St.TWIN_NOT_READY)) ∧
  (∀ (s : State) (x : Ctx), let b := s.advance x.t; let a := b.start x; b.takes x Op.TWIN_REJOIN 0 = true → a.role =
    6 → (List.range 6).any a.giveUpHolds = false → ∃ u, exec (.twinRejoin x) s = .next u ∧ u.role = 3 ∧ u.answer x =
    some St.OK ∧ u.twin.copy = none ∧ u.twin.inRow = 0) ∧
  (∀ (s : State) (x : Ctx), let b := s.advance x.t; let a := b.start x; b.takes x Op.TWIN_REJOIN 0 = true → a.role =
    6 → (List.range 6).any a.giveUpHolds = true → exec (.twinRejoin x) s = .next (a.complete x St.TWIN_HEALTH)) ∧
  (∀ (s : State) (x : Ctx), let b := s.advance x.t; let a := b.start x; b.takes x Op.TWIN_REJOIN 0 = true → a.role ≠
    6 → exec (.twinRejoin x) s = .next (a.complete x St.BAD_PARAM))

/-- Start, loss of VIN and Last pour. VIN_VALID, START_UP, EARLY_VIN_LOSS, VFAIL, VIN_RETURN and
CONVERTER_RAIL_FALL. Where a clause rests on a choice of the model, it is that of log entries 7, 99, 110, 116,
118, 125, 160 and 179, and no rule is cited for it. (R21, R284, R285, R286, R287, R488, R489, R490, R491, R492,
R498) -/
def Obligations.StartAndStop : Prop :=
  (∀ (s : State) (t : Nat) (m i : Nat), s.vstartMv ≤ m → 10 ≤ i → s.phase = .noVin ∨ s.phase = .stopped →
    exec (.vinValid t m i) s = .next ({ s with phase := .vinValid, mtb := 0, mtbAcc := 0 } : State)) ∧
  (∀ (s : State) (t : Nat) (m i : Nat), m < s.vstartMv ∨ i < 10 → exec (.vinValid t m i) s = .next s) ∧
  (∀ (s : State) (t : Nat) (m i : Nat), s.phase = .running ∨ s.phase = .pour ∨ s.phase = .vinValid →
    exec (.vinValid t m i) s = .next s) ∧
  (∀ (s : State) (t : Nat), s.phase = .vinValid → exec (.earlyVinLoss t) s =
    .next ({ s with phase := .noVin, pwr := { s.pwr with restart := none } } : State)) ∧
  (∀ (s : State) (t : Nat), s.phase ≠ .vinValid → exec (.earlyVinLoss t) s = .next s) ∧
  (∀ (s : State) (t : Nat) (i : BootIn), s.phase ≠ .vinValid → exec (.startUp t i) s = .next s) ∧
  (∀ (s : State) (t : Nat) (i : BootIn), let a := s.advance t; s.phase = .vinValid → i.xtal25 = false →
    exec (.startUp t i) s = .next a) ∧
  (∀ (s : State) (t : Nat) (i : BootIn), let a := s.advance t; s.phase = .vinValid → i.xtal25 = true → i.activeOk =
    false → i.otherOk = false → a.rd R.UPD_BOOT_BOOT_STATE = 0 → ∃ u, exec (.startUp t i) s = .next u ∧ u.phase =
    .vinValid ∧ u.upd.bootRom = true) ∧
  (∀ (s : State) (t : Nat) (i : BootIn), let a := s.advance t; s.phase = .vinValid → i.xtal25 = true → i.activeOk =
    true → a.rd R.UPD_BOOT_BOOT_STATE = 0 → ∃ u, exec (.startUp t i) s = .next u ∧ u.phase = .running ∧
    u.upd.bootRom = false ∧ u.ledger.armed = true) ∧
  (∀ (s : State) (t : Nat) (m : Nat), let a := s.advance t; a.up = true → 100 * m < 102 * a.vfailMv → ∃ u,
    exec (.vfail t m []) s = .next u ∧ u.phase = .pour ∧ u.pwr.l = a.mtb ∧ u.pwr.pourEnd ≤ a.mtb + 6000000 ∧
    u.rd R.LEDGER_STAT_LAST_POUR_OK = 1 ∧ u.ledger.mark.map (·.l) = some a.mtb ∧
    (List.range 32).all (fun n => u.lswSt n == 0 || u.lswSt n == 7) = true) ∧
  (∀ (s : State) (t : Nat) (m : Nat) (f : List Feed), let a := s.advance t; a.up = true → 102 * a.vfailMv ≤
    100 * m → exec (.vfail t m f) s = .next (a)) ∧
  (∀ (s : State) (t : Nat) (m : Nat) (f : List Feed), s.phase ≠ .running → exec (.vfail t m f) s =
    .next (s.advance t)) ∧
  (∀ (s : State) (t : Nat) (m : Nat), let a := s.advance t; s.phase = .pour → 98 * s.vfailMv < 100 * m →
    (a.pwr.pourEnd : Nat) ≤ a.mtb → ∃ u, exec (.vinReturn t m) s = .next u ∧ u.phase = .running ∧
    u.ledger.outageDue = false ∧ u.rd R.LEDGER_TAMPER_COUNT 11 =
    satAdd R.LEDGER_TAMPER_COUNT.w (a.rd R.LEDGER_TAMPER_COUNT 11) 1 ∧ u.rd R.LEDGER_LASTPOUR_RUN_100US =
    min 0xFFFE ((a.pwr.pourEnd - a.pwr.l) / 100000)) ∧
  (∀ (s : State) (t : Nat) (m : Nat), s.phase ≠ .pour ∨ 100 * m ≤ 98 * s.vfailMv → exec (.vinReturn t m) s =
    .next s) ∧
  (∀ (s : State) (t : Nat), let a := s.advance t; s.phase = .pour → a.pwr.pourEnd ≤ a.mtb → ∃ u,
    exec (.converterRailFall t) s = .next u ∧ u.phase = .stopped ∧ u.ledger.mark = a.ledger.mark ∧ u.ledger.tStop =
    some (max (a.mtb * 32768 / 10 ^ 9 * 10 ^ 9 / 32768) a.pwr.l) ∧ u.safe.coils = .empty ∧
    u.rd R.SAFE_STATUS_SAFE_OK = 0) ∧
  (∀ (s : State) (t : Nat), let a := s.advance t; s.phase = .pour → a.mtb < a.pwr.pourEnd → ∃ u,
    exec (.converterRailFall t) s = .next u ∧ u.phase = .stopped ∧ u.ledger.mark = none ∧
    u.rd R.LEDGER_STAT_LAST_POUR_OK = 0) ∧
  (∀ (s : State) (t : Nat), s.phase ≠ .pour → exec (.converterRailFall t) s = .next s)

/-- Rails, temperatures, monitors, clocks and the PWR commands. The events of the rail, temperature and process
monitors, of the tamper inputs, of the crystals and of METER wake-ups, and PWR_QUERY, PWR_MODE and PWR_IDENT.
Where a clause rests on a choice of the model, it is that of log entries 1, 20, 68, 85, 116, 119, 121, 122, 123,
124, 125, 126, 127, 201, 255 and 259, and no rule is cited for it. (R293, R315, R493, R495, R496, R497, R501,
R502, R504, R505, R506, R507) -/
def Obligations.MonitorsClocksAndPower : Prop :=
  (∀ (s : State) (t : Nat) (v : Int) (i : Nat) (f : List Feed) (w : Bool), let a := s.advance t; a.core = true →
    10 ≤ i → 68000 < v → v < 300000 → a.flag R.PWR_RAIL_OV 2 = false → ∃ u,
    exec (.railOutOfLimits t 2 true v i f w) s = .next u ∧ u.flag R.PWR_RAIL_OV 2 = true ∧
    u.rd R.PWR_RAIL_EVENTS 2 = satAdd R.PWR_RAIL_EVENTS.w (a.rd R.PWR_RAIL_EVENTS 2) 1 ∧
    u.told.map (fun (z : Nat × Nat × List Nat) => (z.1, z.2.2.take 2)) = some (Ev.PWR_RAIL, [2, 2])) ∧
  (∀ (s : State) (t : Nat) (v : Int) (i : Nat) (f : List Feed) (w : Bool), let a := s.advance t; a.core = true →
    10 ≤ i → v < 1000 → a.flag R.PWR_RAIL_UV 13 = false → ∃ u, exec (.railOutOfLimits t 13 false v i f w) s =
    .next u ∧ u.rtcValid = false) ∧
  (∀ (s : State) (t : Nat) (v : Int) (i : Nat) (f : List Feed) (w : Bool) (r : Nat), let a := s.advance t; a.core =
    true → 10 ≤ i → 14 ≤ r → exec (.railOutOfLimits t r false v i f w) s = .next (a)) ∧
  (∀ (s : State) (t : Nat) (v : Int) (i : Nat) (f : List Feed) (w : Bool) (r : Nat) (o : Bool), i < 10 →
    exec (.railOutOfLimits t r o v i f w) s = .next s) ∧
  (∀ (s : State) (t : Nat) (v : Int) (i : Nat), let a := s.advance t; a.core = true → 1000 ≤ i → a.railOut 2 =
    true → 10800 ≤ v → v ≤ 68000 → ∃ u, exec (.railRestored t 2 v i) s = .next u ∧ u.flag R.PWR_RAIL_OV 2 = false ∧
    u.flag R.PWR_RAIL_UV 2 = false ∧ u.told.map (fun (z : Nat × Nat × List Nat) => (z.1, z.2.2.take 2)) =
    some (Ev.PWR_RAIL, [2, 0])) ∧
  (∀ (s : State) (t : Nat) (r : Nat) (v : Int) (i : Nat), let a := s.advance t; a.core = true → 1000 ≤ i → r < 14 →
    a.railOut r = false → exec (.railRestored t r v i) s = .next (a)) ∧
  (∀ (s : State) (t : Nat) (r : Nat) (v : Int) (i : Nat), i < 1000 → exec (.railRestored t r v i) s = .next s) ∧
  (∀ (s : State) (t : Nat) (n : Nat) (q : Int), let a := s.advance t; a.up = true → n < 5 →
    a.rd R.PWR_TEMP_LEVEL n = 1 → 115 ≤ q → q < 125 → ∃ u, exec (.tempLevelChange t n q) s = .next u ∧
    u.flag R.PWR_STAT_THROTTLE = true ∧ u.rd R.PWR_TEMP_LEVEL n = 2 ∧ u.rd R.PWR_TEMP_T n = (q + 50).toNat) ∧
  (∀ (s : State) (t : Nat) (n : Nat) (q : Int), let a := s.advance t; a.up = true → n < 5 → 125 ≤ q →
    a.flag R.PWR_STAT_SHUT = false → ∃ u, exec (.tempLevelChange t n q) s = .next u ∧ u.flag R.PWR_STAT_SHUT =
    true ∧ u.safe.shut = true ∧ u.rd R.PWR_TEMP_LEVEL n = 3) ∧
  (∀ (s : State) (t : Nat) (n : Nat) (q : Int), let a := s.advance t; a.up = true → 9 ≤ n →
    exec (.tempLevelChange t n q) s = .next (a)) ∧
  (∀ (s : State) (t : Nat) (p : Nat), let a := s.advance t; a.up = true → a.pwr.procAt + 10 ^ 9 ≤ a.mtb → p < 96 →
    bit a.pwr.proc 0 = false → ∃ u, exec (.procMonSample t [p]) s = .next u ∧ u.pwr.procAt = a.mtb ∧
    u.rd R.GLOBAL_ISLAND_STAT_PROC_MON 0 = p ∧ bit u.pwr.proc 0 = true ∧ u.told = some (Ev.PWR_PROC, 0, [0, p])) ∧
  (∀ (s : State) (t : Nat) (p : Nat), let a := s.advance t; a.up = true → a.pwr.procAt + 10 ^ 9 ≤ a.mtb → 96 ≤ p →
    p ≤ 176 → exec (.procMonSample t [p]) s =
    .next (({ a with pwr := { a.pwr with procAt := a.mtb } } : State).wr R.GLOBAL_ISLAND_STAT_PROC_MON 0 p)) ∧
  (∀ (s : State) (t : Nat) (n i : Nat), let a := s.advance t; n < 4 → s.core = true → s.flag R.PWR_TAMPER_EN n =
    true → s.flag R.PWR_TAMPER_ACTIVE n = false → s.rd R.PWR_TAMPER_FILT n ≤ i → ∃ u,
    exec (.tamperInput t n (s.flag R.PWR_TAMPER_POL n) i) s = .next u ∧ u.flag R.PWR_TAMPER_ACTIVE n = true ∧
    u.rd R.LEDGER_TAMPER_COUNT n = satAdd R.LEDGER_TAMPER_COUNT.w (a.rd R.LEDGER_TAMPER_COUNT n) 1) ∧
  (∀ (s : State) (t : Nat) (n i : Nat), n < 4 → s.core = false → s.flag R.PWR_TAMPER_EN n = true →
    s.flag R.PWR_TAMPER_ACTIVE n = false → s.rd R.PWR_TAMPER_FILT n ≤ i → ∃ u,
    exec (.tamperInput t n (s.flag R.PWR_TAMPER_POL n) i) s = .next u ∧ u.flag R.PWR_TAMPER_ACTIVE n = true ∧
    u.rd R.PWR_TAMPER_VBAT_COUNT n = satAdd R.PWR_TAMPER_VBAT_COUNT.w (s.rd R.PWR_TAMPER_VBAT_COUNT n) 1) ∧
  (∀ (s : State) (t : Nat) (n i : Nat) (o : Bool), 4 ≤ n ∨ s.flag R.PWR_TAMPER_EN n = false ∨ i <
    s.rd R.PWR_TAMPER_FILT n → exec (.tamperInput t n o i) s = .next s) ∧
  (∀ (s : State) (t : Nat), let a := s.advance t; a.core = true → a.flag R.PWR_CLK_XTAL32_OK = true → ∃ u,
    exec (.xtal32Fail t) s = .next u ∧ u.flag R.PWR_CLK_XTAL32_OK = false ∧ u.flag R.PWR_CLK_RTC_FALLBACK = true ∧
    u.rtcValid = a.rtcValid ∧ u.told = some (Ev.PWR_CLOCK, 0, [0, 1])) ∧
  (∀ (s : State) (t : Nat), s.phase = .noVin ∨ s.phase = .stopped → s.rtcValid = true → ∃ u,
    exec (.xtal32Fail t) s = .next u ∧ u.rtcValid = false ∧ u.ledger.ledgerHeld = s.ledgerMsAt s.mtb) ∧
  (∀ (s : State) (t : Nat), let a := s.advance t; a.core = true → a.flag R.PWR_CLK_XTAL32_OK = false → ∃ u,
    exec (.xtal32Return t) s = .next u ∧ u.flag R.PWR_CLK_XTAL32_OK = true ∧ u.flag R.PWR_CLK_RTC_FALLBACK = false ∧
    u.told = some (Ev.PWR_CLOCK, 0, [0, 0])) ∧
  (∀ (s : State) (t : Nat), let a := s.advance t; a.core = true → a.flag R.PWR_STAT_MTB_HOLDOVER = false → ∃ u,
    exec (.xtal49Fail t) s = .next u ∧ u.flag R.PWR_STAT_MTB_HOLDOVER = true ∧ u.flag R.PWR_CLK_XTAL49_OK = false ∧
    u.mtb = a.mtb ∧ u.rd R.LEDGER_TAMPER_COUNT 16 =
    satAdd R.LEDGER_TAMPER_COUNT.w (a.rd R.LEDGER_TAMPER_COUNT 16) 1) ∧
  (∀ (s : State) (t : Nat), let a := s.advance t; a.core = true → a.flag R.PWR_STAT_MTB_HOLDOVER = true →
    a.pwr.xtalAt + 10 ^ 9 ≤ a.mtb → ∃ u, exec (.xtal49Return t) s = .next u ∧ u.flag R.PWR_STAT_MTB_HOLDOVER =
    false ∧ u.flag R.PWR_CLK_XTAL49_OK = true ∧ u.mtb = a.mtb ∧ u.told = some (Ev.PWR_CLOCK, 0, [1, 0])) ∧
  (∀ (s : State) (t : Nat), let a := s.advance t; a.core = true → ∃ u, exec (.xtal25Fail t []) s = .next u ∧
    u.phase = .vinValid ∧ u.mtb = a.mtb ∧ u.pwr.restart = some 3 ∧ u.safe.coils = .empty ∧ u.ledger.mark.map (·.l) =
    some a.mtb) ∧
  (∀ (s : State) (t : Nat), let a := s.advance t; a.up = true → a.flag R.PWR_CLK_REFCLK_OK = false → ∃ u,
    exec (.refclkReturn t) s = .next u ∧ u.flag R.PWR_CLK_REFCLK_OK = true ∧ u.told =
    some (Ev.PWR_CLOCK, 0, [3, 0])) ∧
  (∀ (s : State) (t : Nat), let a := s.advance t; a.up = true → a.flag R.PWR_CLK_REFCLK_OK = true →
    exec (.refclkReturn t) s = .next (a)) ∧
  (∀ (s : State) (t : Nat) (n : Nat), let a := s.advance t; a.up = true → a.wakeHolds n = true →
    a.rd R.PWR_STAT_MODE = 1 → ∃ u, exec (.meterWake t n) s = .next u ∧ u.rd R.PWR_STAT_MODE = 0) ∧
  (∀ (s : State) (t : Nat) (n : Nat), let a := s.advance t; a.up = true → a.wakeHolds n = false →
    exec (.meterWake t n) s = .next (a)) ∧
  (∀ (s : State) (x : Ctx), let b := s.advance x.t; let a := b.start x; b.takes x Op.PWR_QUERY 0 = true →
    exec (.pwrQuery x) s = .next (a.complete x St.OK (a.pack State.pwrStatFields +
    2 ^ 64 * a.pack State.pwrClkFields))) ∧
  (∀ (s : State) (x : Ctx), let b := s.advance x.t; let a := b.start x; b.takes x Op.PWR_MODE 0 = true →
    a.rd R.PWR_STAT_MODE = 0 → a.meterMay = true → ∃ u, exec (.pwrMode x 1) s = .next u ∧ u.answer x = some St.OK ∧
    u.rd R.PWR_STAT_MODE = 1 ∧ u.flag R.GLOBAL_ISLAND_STAT_READY 6 = false ∧ u.flag R.GLOBAL_ISLAND_STAT_READY 7 =
    false) ∧
  (∀ (s : State) (x : Ctx), let b := s.advance x.t; let a := b.start x; b.takes x Op.PWR_MODE 0 = true →
    a.rd R.PWR_STAT_MODE = 0 → a.meterMay = false → exec (.pwrMode x 1) s = .next (a.complete x St.PWR_BUSY)) ∧
  (∀ (s : State) (x : Ctx), let b := s.advance x.t; let a := b.start x; b.takes x Op.PWR_MODE 0 = true →
    a.rd R.PWR_STAT_MODE ≤ 1 → ∃ u, exec (.pwrMode x 0) s = .next u ∧ u.answer x = some St.OK ∧
    u.rd R.PWR_STAT_MODE = 0) ∧
  (∀ (s : State) (x : Ctx) (m : Nat), let b := s.advance x.t; let a := b.start x; b.takes x Op.PWR_MODE 0 = true →
    2 ≤ m → exec (.pwrMode x m) s = .next (a.complete x St.BAD_PARAM)) ∧
  (∀ (s : State) (x : Ctx), let b := s.advance x.t; let a := b.start x; b.takes x Op.PWR_IDENT 0 = true → ∃ u,
    exec (.pwrIdent x) s = .next u ∧ u.answer x = some St.OK ∧ (a.attached = true → u.host.dma.length = 80 ∧
    u.host.dma.drop 64 = leBytes 16 (a.pack [R.PWR_MODULE_ID_SERIAL, R.PWR_MODULE_ID_ASSY_LOT])))

/-- What the host-side commands leave unchanged. The frame of the commands of the host link, of the islands, of the
register map and of the Cask engine: completing, each leaves every part and every register field that is not named
as it was. (02_host_rings.md, 03_cask_transactions.md, 01_architecture.md) -/
def Obligations.FrameHost : Prop :=
  (∀ (s : State) (t : Nat) (target : Nat) (gated : Bool) (reqs : List Xing), ∃ u,
    exec (.islandCrossing t target gated reqs) s = .next u ∧
    s.leaves [.fresh, .host, .arch, .ledger] (State.eventFields ++ State.recordFields ++
    [R.GLOBAL_ALERT_PART_VIOL, R.GLOBAL_ISLAND_STAT_ASLEEP, R.GLOBAL_PART_VIOL_LAST_SRC, R.GLOBAL_PART_VIOL_LAST_DST, R.GLOBAL_PART_VIOL_COUNT]) u) ∧
  (∀ (s : State) (t : Nat) (src dst : Nat) (ini : Ini) (cmd : Option (Nat × Nat)), ∃ u,
    exec (.linkTimeout t src dst ini cmd) s = .next u ∧ s.leaves [.host, .arch] (State.eventFields ++
    [R.GLOBAL_ALERT_LINK_TIMEOUT, R.GLOBAL_ISLAND_STAT_LINK_ERR, R.HOST_SYNC_LAST_COMPLETED]) u) ∧
  (∀ (s : State) (t : Nat), ∃ u, exec (.rtcSecondEdge t) s = .next u ∧
    s.leaves [.host, .met, .ledger] (State.eventFields ++ State.recordFields ++ State.demandFields ++
    [R.GLOBAL_MTB_UTC_MTB_AT_SEC, R.GLOBAL_MTB_UTC_UTC_SEC, R.MET_TOTAL_FREQ_1S, R.MET_TOTAL_FREQ_10S]) u) ∧
  (∀ (s : State) (t : Nat) (done : Bool), ∃ u, exec (.aCheckDeadline t done) s = .next u ∧ s.leaves [.arch] ([]) u) ∧
  (∀ (s : State) (t : Nat) (req : CfgReq), ∃ u, exec (.configRequest t req) s = .next u ∧ s.leaves [.host] ([]) u) ∧
  (∀ (s : State) (t : Nat), ∃ u, exec (.perstRelease t) s = .next u ∧ s.leaves [.host] ([]) u) ∧
  (∀ (s : State) (t : Nat) (cause : DetachCause), ∃ u, exec (.hostDetach t cause) s = .next u ∧
    s.leaves [.host] (State.eventFields ++ State.ringFieldsAll ++
    [R.HOST_CTRL_DETACHED, R.HOST_CTRL_POLL_US, R.HOST_CTRL_KICK_EN, R.HOST_CTRL_EN, R.HOST_DB_BASE_ADDR, R.HOST_STAT_BASE_ADDR, R.HOST_NOTIF_STAT_CORR, R.HOST_NOTIF_STAT_UNCORR, R.PWR_CLK_REFCLK_OK]) u) ∧
  (∀ (s : State) (t : Nat), ∃ u, exec (.hostAttach t) s = .next u ∧ s.leaves [.host] (State.eventFields ++
    [R.HOST_CTRL_DETACHED, R.HOST_CTRL_EN]) u) ∧
  (∀ (s : State) (t : Nat) (kind : RingKind) (ring : Nat) (image : Nat), ∃ u,
    exec (.ringRegisterWrite t kind ring image) s = .next u ∧ s.leaves [.host] (State.ringFieldsAll ++
    [R.HOST_SYNC_LAST_FETCHED, R.HOST_SYNC_LAST_COMPLETED]) u) ∧
  (∀ (s : State) (t : Nat) (cmdProd cplCons evCons strProd : List Nat) (descs : List (List Desc)) (bufs : List (List Nat)),
    ∃ u, exec (.doorbellPoll t cmdProd cplCons evCons strProd descs bufs) s = .next u ∧
    s.leaves [.host] (State.eventFields ++
    [R.HOST_CMDR_EN, R.HOST_SYNC_LAST_FETCHED, R.HOST_SYNC_LAST_COMPLETED]) u) ∧
  (∀ (s : State) (t : Nat) (off : Nat) (prod : Nat) (descs : List Desc) (bufs : List Nat), ∃ u,
    exec (.kick t off prod descs bufs) s = .next u ∧ s.leaves [.host] (State.eventFields ++
    [R.HOST_SYNC_LAST_FETCHED, R.HOST_SYNC_LAST_COMPLETED]) u) ∧
  (∀ (s : State) (t : Nat), ∃ u, exec (.stopCompletionRelease t) s = .next u ∧
    s.leaves [.host] ([R.GLOBAL_ALERT_NOTIF_LOST, R.HOST_NOTIF_STAT_LOST]) u) ∧
  (∀ (s : State) (t : Nat) (j : Nat), ∃ u, exec (.evrGap t j) s = .next u ∧ s.leaves [.host] (State.eventFields) u) ∧
  (∀ (s : State) (t : Nat) (flips : Nat), ∃ u, exec (.notifDataRead t flips) s = .next u ∧
    s.leaves [.host] ([R.HOST_NOTIF_STAT_CORR, R.HOST_NOTIF_STAT_UNCORR]) u) ∧
  (∀ (s : State) (t : Nat) (off : Nat) (wide bar4 : Bool), ∃ u, exec (.latchingRead t off wide bar4) s = .next u ∧
    s.leaves [.host] (State.eventFields ++
    [R.GLOBAL_ALERT_WR_REFUSED, R.GLOBAL_WR_REFUSED_LAST_OFFSET, R.GLOBAL_WR_REFUSED_LAST_REASON, R.GLOBAL_WR_REFUSED_COUNT, R.GLOBAL_ISLAND_STAT_OVR, R.GLOBAL_ISLAND_STAT_LINK_ERR, R.GLOBAL_PART_VIOL_COUNT, R.HOST_NOTIF_DATA_WORD, R.HOST_NOTIF_STAT_CORR, R.HOST_NOTIF_STAT_UNCORR, R.CASK_STAT_COMMITTED, R.CASK_STAT_ABORTED, R.CASK_STAT_LATE, R.AFE_CH_STAT_OVL_CNT, R.AFE_CH_STAT_EYE_ERR, R.AFE_CH_STAT_RESETS, R.AFE_PADC_OVR_CNT, R.AFE_SCAN_STAT_LATE_CNT, R.AFE_SCAN_STAT_AUX_OVR, R.AFE_SCAN_STAT_FALLBACKS, R.FILT_STAT_OVF_CNT, R.FILT_TRK_STAT_UNLOCKS, R.LEDGER_STAT_COMMIT_FAIL, R.LEDGER_STAT_OVERWRITTEN, R.PLC_STAT_BLANKED_SYM, R.PLC_STAT_ERASED_SYM, R.PLC_STAT_IMPULSES, R.PLC_TRELLIS_STAT_AUTH_DROP, R.PLC_TRELLIS_STAT_TX_DROPPED, R.PLC_TRELLIS_STAT_RETRIES, R.PLC_TRELLIS_STAT_REPEATER_CHG, R.PLC_SYNC_EDGES, R.PLC_SYNC_GLITCHES, R.SAFE_COIL_STAT_TESTS_SKIPPED, R.KEY_STATUS_RIDDLE_LATE, R.KEY_CACHE_MISSES, R.KEY_DRBG_HEALTH_FAIL, R.KEY_DRBG_RESEEDS, R.TAG_RDR_STAT_MULTI, R.TAG_RDR_STAT_WALK_LIMIT, R.TAG_RDR_STAT_RX_ERR, R.TAG_OWN_STAT_BUSY_RSP, R.TAG_OWN_STAT_TORN, R.TAG_OWN_STAT_FIELD_WR, R.LSW_STAT_TRIPS, R.LSW_BANK_SHED, R.LSW_QUAD_TRIPS, R.TWIN_STAT_COPY_MISS, R.TWIN_LINK_CRC_ERR, R.TWIN_LINK_RETRAIN, R.PWR_CLK_XTAL49_FAILS, R.PWR_CLK_XTAL32_FAILS, R.PWR_RAIL_EVENTS]) u) ∧
  (∀ (s : State) (t : Nat) (src : Nat) (mtbFirst : Nat) (data : List (List Int)), ∃ u,
    exec (.streamBufferFill t src mtbFirst data) s = .next u ∧
    s.leaves [.host, .afe, .met] ([R.GLOBAL_ALERT_NOTIF_LOST, R.HOST_NOTIF_STAT_LOST, R.AFE_PADC_EN, R.AFE_PADC_CAPTURE, R.AFE_PADC_OVR_CNT]) u) ∧
  (∀ (s : State) (x : Ctx) (kind : RingKind) (ring : Nat) (image : Nat), ∃ u,
    exec (.ringCreate x kind ring image) s = .next u ∧ s.leaves [.host, .cask] (State.answerFields ++
    State.ringFieldsAll ++ [R.HOST_SYNC_LAST_FETCHED]) u) ∧
  (∀ (s : State) (x : Ctx) (kind : RingKind) (ring : Nat), ∃ u, exec (.ringDestroy x kind ring) s = .next u ∧
    s.leaves [.host, .cask] (State.answerFields ++ [R.HOST_CPLR_EN, R.HOST_EVR_EN, R.HOST_STR_EN]) u) ∧
  (∀ (s : State) (x : Ctx) (first : Nat) (span : Nat), ∃ u, exec (.journalFetch x first span) s = .next u ∧
    s.leaves [.host, .cask] State.answerFields u) ∧
  (∀ (s : State) (x : Ctx) (ring : Nat) (first : Nat) (count : Nat), ∃ u, exec (.statusQuery x ring first count) s =
    .next u ∧ s.leaves [.host, .cask] State.answerFields u) ∧
  (∀ (s : State) (x : Ctx) (data : List Byte), ∃ u, exec (.echo x data) s = .next u ∧
    s.leaves [.host, .cask] State.answerFields u) ∧
  (∀ (s : State) (x : Ctx), ∃ u, exec (.caskOpen x) s = .next u ∧ s.leaves [.host, .cask] State.answerFields u) ∧
  (∀ (s : State) (x : Ctx) (act : CaskAct), ∃ u, exec (.caskAction x act) s = .next u ∧
    s.leaves [.host, .cask] State.answerFields u) ∧
  (∀ (s : State) (x : Ctx) (id expected : Nat), ∃ u, exec (.caskPrepare x id expected) s = .next u ∧
    s.leaves [.host, .cask, .safe] State.answerFields u) ∧
  (∀ (s : State) (t : Nat) (k : Nat), ∃ u, exec (.caskValidationDone t k) s = .next u ∧
    s.leaves [.host, .cask, .disp] (State.eventFields ++ [R.HOST_SYNC_LAST_COMPLETED, R.CASK_STAT_ABORTED]) u) ∧
  (∀ (s : State) (x : Ctx) (id mode instant : Nat), ∃ u, exec (.caskCommit x id mode instant) s = .next u ∧
    s.leaves [.host, .cask] State.answerFields u) ∧
  (∀ (s : State) (x : Ctx) (id : Nat), ∃ u, exec (.caskAbort x id) s = .next u ∧
    s.leaves [.host, .cask, .disp] (State.answerFields ++ [R.CASK_STAT_ABORTED]) u) ∧
  (∀ (s : State) (x : Ctx) (id : Nat), ∃ u, exec (.caskQuery x id) s = .next u ∧
    s.leaves [.host, .cask] State.answerFields u) ∧
  (∀ (s : State) (t : Nat) (k : Nat), ∃ u, exec (.caskOpenTimeout t k) s = .next u ∧
    s.leaves [.host, .cask, .disp] (State.eventFields ++ [R.HOST_SYNC_LAST_COMPLETED, R.CASK_STAT_ABORTED]) u) ∧
  (∀ (s : State) (t : Nat) (k : Nat), ∃ u, exec (.caskPreparedTimeout t k) s = .next u ∧
    s.leaves [.host, .cask, .disp] (State.eventFields ++ [R.HOST_SYNC_LAST_COMPLETED, R.CASK_STAT_ABORTED]) u) ∧
  (∀ (s : State) (t : Nat) (k : Nat) (whole : Bool), ∃ u, exec (.caskRecordWrite t k whole) s = .next u ∧
    s.leaves [.host, .cask, .ledger, .disp] (State.eventFields ++
    [R.HOST_SYNC_LAST_COMPLETED, R.CASK_STAT_ABORTED]) u) ∧
  (∀ (s : State) (t : Nat) (edge : Nat) (falling : Bool), ∃ u, exec (.caskSyncEdge t edge falling) s = .next u ∧
    s.leaves [.host, .cask, .ledger, .disp] (State.eventFields ++
    [R.HOST_SYNC_LAST_COMPLETED, R.CASK_STAT_ABORTED]) u) ∧
  (∀ (s : State) (t : Nat) (k : Nat), ∃ u, exec (.caskSyncTimeout t k) s = .next u ∧
    s.leaves [.host, .cask, .disp] (State.eventFields ++ [R.HOST_SYNC_LAST_COMPLETED, R.CASK_STAT_ABORTED]) u) ∧
  (∀ (s : State) (t : Nat) (k : Nat), ∃ u, exec (.caskRetract t k) s = .next u ∧
    s.leaves [.host, .cask, .disp] (State.eventFields ++ [R.HOST_SYNC_LAST_COMPLETED, R.CASK_STAT_ABORTED]) u) ∧
  (∀ (s : State) (t : Nat), ∃ u, exec (.setupLock t) s = .next u ∧ s.leaves [.host] (State.eventFields ++
    [R.GLOBAL_SETUP_LOCK_LOCK]) u) ∧
  (∀ (s : State) (t : Nat), ∃ u, exec (.settingsSaved t) s = .next u ∧
    s.leaves [.settings, .host] (State.eventFields ++ [R.GLOBAL_SETUP_LOCK_SAVED]) u) ∧
  (∀ (s : State) (t : Nat) (mask : Nat), ∃ u, exec (.alertWrite t mask) s = .next u ∧
    s.leaves [.host] ([R.GLOBAL_ALERT_LINK_TIMEOUT, R.GLOBAL_ALERT_TEMP, R.GLOBAL_ALERT_NOTIF_LOST, R.GLOBAL_ALERT_JOURNAL_LOST, R.GLOBAL_ALERT_WR_REFUSED, R.GLOBAL_ALERT_PART_VIOL, R.GLOBAL_ALERT_SAFE_CHANGE, R.GLOBAL_ALERT_DEVICE_START, R.GLOBAL_ALERT_EN_VECTOR, R.GLOBAL_ALERT_EN_EN]) u)

/-- What the outlet and safety commands leave unchanged. The frame of the commands of the outlets, of SLAC, of the
power modules and of the safety function that reach few other parts. (04_outlet_sessions.md,
05_safety_earth_fault.md) -/
def Obligations.FrameOutlets : Prop :=
  (∀ (s : State) (t : Nat) (n : Nat) (high low : Int), ∃ u, exec (.pilotPwmPeriod t n high low) s = .next u ∧
    s.leaves [.out, .twin] ([R.OUT_STAT_PILOT_HIGH, R.OUT_STAT_PILOT_LOW, R.OUT_STAT_DUTY_PCT]) u) ∧
  (∀ (s : State) (t : Nat) (run : Nat) (pilots : List Nat), ∃ u, exec (.slacParmReq t run pilots) s = .next u ∧
    s.leaves [.host, .out] (State.eventFields ++ [R.AFE_PADC_EN, R.PLC_CFG_EN, R.PLC_STAT_LINK]) u) ∧
  (∀ (s : State) (t : Nat) (run : Nat), ∃ u, exec (.startAttenChar t run) s = .next u ∧
    s.leaves [.host, .out] (State.eventFields ++ [R.AFE_PADC_EN, R.PLC_CFG_EN, R.PLC_STAT_LINK]) u) ∧
  (∀ (s : State) (t : Nat) (run : Nat) (meas : List (Nat × List Nat)), ∃ u, exec (.mnbcSound t run meas) s =
    .next u ∧ s.leaves [.host, .out] (State.eventFields ++ [R.AFE_PADC_EN, R.PLC_CFG_EN, R.PLC_STAT_LINK]) u) ∧
  (∀ (s : State) (t : Nat) (run announced : Nat) (counted : List (Nat × Nat)), ∃ u,
    exec (.slacValidate t run announced counted) s = .next u ∧ s.leaves [.host, .out] (State.eventFields ++
    [R.AFE_PADC_EN, R.PLC_CFG_EN, R.PLC_STAT_LINK]) u) ∧
  (∀ (s : State) (t : Nat) (run pilot : Nat), ∃ u, exec (.slacMatchReq t run pilot) s = .next u ∧
    s.leaves [.fresh, .host, .out, .ledger, .key, .tag] (State.eventFields ++ State.pilotFields ++
    [R.KEY_DRBG_RESEEDS]) u) ∧
  (∀ (s : State) (t : Nat), ∃ u, exec (.preauthTimeout t) s = .next u ∧ s.leaves [.out] ([]) u) ∧
  (∀ (s : State) (t : Nat) (bus id : Nat) (frame : List Byte), ∃ u, exec (.pmStatusFrame t bus id frame) s =
    .next u ∧ s.leaves [.out] ([]) u) ∧
  (∀ (s : State) (t : Nat) (bus id : Nat) (maker model serial ratedV ratedA ratedKw fw : Nat), ∃ u,
    exec (.pmIdentFrame t bus id maker model serial ratedV ratedA ratedKw fw) s = .next u ∧ s.leaves [.out] ([]) u) ∧
  (∀ (s : State) (t : Nat) (bus id : Nat) (code severity : Nat), ∃ u,
    exec (.pmFaultFrame t bus id code severity) s = .next u ∧ s.leaves [.host, .out] (State.eventFields) u) ∧
  (∀ (s : State) (t : Nat) (n : Nat), ∃ u, exec (.setpointSend t n) s = .next u ∧ s.leaves [.out] ([]) u) ∧
  (∀ (s : State) (t : Nat), ∃ u, exec (.pmSyncSend t) s = .next u ∧ s.leaves [.out] ([]) u) ∧
  (∀ (s : State) (t : Nat), ∃ u, exec (.allocatorRun t) s = .next u ∧
    s.leaves [.host, .out, .ledger, .tag] (State.eventFields ++ State.pilotFields ++
    [R.OUT_ALLOC_STAT_ALLOC_W, R.OUT_ALLOC_STAT_ENF_W, R.OUT_ALLOC_STAT_MEAS_W, R.OUT_ALLOC_STAT_QUEUE_POS, R.OUT_ALLOC_STAT_LAST, R.OUT_ALLOC_STAT_WAIT_MIN, R.OUT_SITE_EFFECTIVE_W]) u) ∧
  (∀ (s : State) (t : Nat), ∃ u, exec (.trellisLimitExpiry t) s = .next u ∧ s.leaves [.out] ([]) u) ∧
  (∀ (s : State) (t : Nat) (n : Nat), ∃ u, exec (.enforcementGraceEnd t n) s = .next u ∧
    s.leaves [.out] ([R.OUT_ALLOC_STAT_ENF_W]) u) ∧
  (∀ (s : State) (x : Ctx) (n cfg dc : Nat), ∃ u, exec (.outConfig x n cfg dc) s = .next u ∧
    s.leaves [.settings, .host, .cask, .out, .ledger, .tag] (State.answerFields ++ State.pilotFields ++
    [R.OUT_CFG_TYPE, R.OUT_CFG_BIDIR, R.OUT_CFG_CTRL, R.OUT_CFG_PP_MODE, R.OUT_CFG_TETHERED, R.OUT_CFG_TAG_REQ, R.OUT_CFG_FREE_VEND, R.OUT_CFG_MP, R.OUT_CFG_RATED_A, R.OUT_CFG_CLASS, R.OUT_CFG_BASIC_FALLBACK, R.OUT_CFG_ZC_CLOSE, R.OUT_CFG_DIN_EN, R.OUT_CFG_ISO2_EN, R.OUT_CFG_ISO20_EN, R.OUT_CFG_EIM_EN, R.OUT_CFG_PNC_EN, R.OUT_CFG_TLS_REQ, R.OUT_CFG_PROTO_ORDER, R.OUT_CFG_DC_MIN, R.OUT_CFG_MAX, R.OUT_DC_CFG_BUS, R.OUT_DC_CFG_PM_COUNT, R.OUT_DC_CFG_PM_BASE, R.OUT_DC_CFG_VMAX, R.OUT_DC_CFG_IMAX, R.OUT_ALLOC_STAT_ALLOC_W, R.OUT_ALLOC_STAT_ENF_W]) u) ∧
  (∀ (s : State) (x : Ctx) (n kind : Nat) (ident : List Byte), ∃ u, exec (.sessionAuthorise x n kind ident) s =
    .next u ∧ s.leaves [.host, .cask, .out, .ledger, .tag] (State.answerFields ++ State.pilotFields ++
    [R.OUT_STAT_AUTH_SRC]) u) ∧
  (∀ (s : State) (x : Ctx) (watts : Nat), ∃ u, exec (.outSiteLimit x watts) s = .next u ∧
    s.leaves [.settings, .host, .cask] (State.answerFields ++ [R.OUT_SITE_HOST_LIMIT_W]) u) ∧
  (∀ (s : State) (x : Ctx) (n cls : Nat), ∃ u, exec (.sessionSetClass x n cls) s = .next u ∧
    s.leaves [.host, .cask, .out] State.answerFields u) ∧
  (∀ (s : State) (x : Ctx) (n : Nat), ∃ u, exec (.sessionQuery x n) s = .next u ∧
    s.leaves [.host, .cask] State.answerFields u) ∧
  (∀ (s : State) (x : Ctx) (n : Nat), ∃ u, exec (.outSelect x n) s = .next u ∧
    s.leaves [.host, .cask, .out, .ledger, .tag] (State.answerFields ++ State.pilotFields ++
    [R.OUT_STAT_AUTH_SRC]) u) ∧
  (∀ (s : State) (x : Ctx) (n : Nat) (close : Bool), ∃ u, exec (.outContactor x n close) s = .next u ∧
    s.leaves [.host, .cask, .out, .safe, .tag] (State.answerFields ++ State.cableFields ++
    [R.SAFE_COIL_STAT_LOAD_BREAKS, R.SAFE_COIL_STAT_TESTS_SKIPPED]) u) ∧
  (∀ (s : State) (x : Ctx) (n duty : Nat), ∃ u, exec (.outPilotDuty x n duty) s = .next u ∧
    s.leaves [.host, .cask, .out] State.answerFields u) ∧
  (∀ (s : State) (x : Ctx) (n mode volts amps watts : Nat), ∃ u, exec (.outPmSetpoint x n mode volts amps watts) s =
    .next u ∧ s.leaves [.host, .cask, .out] State.answerFields u) ∧
  (∀ (s : State) (x : Ctx) (n : Nat) (valid : Bool) (data : List Byte), ∃ u,
    exec (.outCertResponse x n valid data) s = .next u ∧ s.leaves [.host, .cask, .out] State.answerFields u) ∧
  (∀ (s : State) (t : Nat) (b : Beat), ∃ u, exec (.bHeartbeat t b) s = .next u ∧
    s.leaves [.host, .safe] ([R.GLOBAL_ALERT_SAFE_CHANGE, R.SAFE_STATUS_SAFE_OK, R.SAFE_STATUS_A_RUN]) u) ∧
  (∀ (s : State) (t : Nat), ∃ u, exec (.safetySelftestDone t) s = .next u ∧
    s.leaves [.host] ([R.GLOBAL_ALERT_SAFE_CHANGE, R.SAFE_STATUS_SAFE_OK, R.SAFE_STATUS_SELFTEST_OK]) u) ∧
  (∀ (s : State) (t : Nat) (k : Nat), ∃ u, exec (.coilPullinStart t k) s = .next u ∧
    s.leaves [.host, .safe] (State.eventFields ++ [R.CASK_STAT_LATE]) u) ∧
  (∀ (s : State) (t : Nat) (k : Nat), ∃ u, exec (.coilPullinEnd t k) s = .next u ∧ s.leaves [.safe] ([]) u) ∧
  (∀ (s : State) (t : Nat), ∃ u, exec (.shuntTripEnd t) s = .next u ∧ s.leaves [.safe] ([R.SAFE_STATUS_SHUNT]) u) ∧
  (∀ (s : State) (t : Nat) (n : Nat), ∃ u, exec (.shuntTripRepeat t n) s = .next u ∧
    s.leaves [.safe] ([R.SAFE_STATUS_SHUNT]) u) ∧
  (∀ (s : State) (t : Nat) (onUs : Option Nat), ∃ u, exec (.darkTestEnd t onUs) s = .next u ∧
    s.leaves [.host, .safe] (State.eventFields ++ [R.CASK_STAT_LATE]) u) ∧
  (∀ (s : State) (t : Nat) (inst : Nat) (value : Int), ∃ u, exec (.rcmReading t inst value) s = .next u ∧
    s.leaves [.safe] ([R.AFE_RCM_RAW_RAW, R.AFE_RCM_RAW_VALID]) u) ∧
  (∀ (s : State) (t : Nat) (n : Nat), ∃ u, exec (.rcmPrewarn t n) s = .next u ∧
    s.leaves [.host, .safe] (State.eventFields) u) ∧
  (∀ (s : State) (t : Nat) (n : Nat), ∃ u, exec (.safeStatePilotEnd t n) s = .next u ∧
    s.leaves [.out, .safe] ([]) u) ∧
  (∀ (s : State) (t : Nat) (lowUs : Nat) (aOpen bOpen : Bool), ∃ u, exec (.resetSafeEdge t lowUs aOpen bOpen) s =
    .next u ∧ s.leaves [.host, .safe] (State.eventFields ++
    [R.GLOBAL_ALERT_SAFE_CHANGE, R.SAFE_STATUS_SAFE_OK, R.SAFE_RCM_STAT_TRIPS_24H]) u) ∧
  (∀ (s : State) (x : Ctx), ∃ u, exec (.safeQuery x) s = .next u ∧ s.leaves [.host, .cask] State.answerFields u) ∧
  (∀ (s : State) (x : Ctx) (mask : Nat), ∃ u, exec (.safeTestNow x mask) s = .next u ∧
    s.leaves [.host, .cask, .safe] State.answerFields u)

/-- What the measuring commands leave unchanged. The frame of the commands of the front end, of the filters, of the
metering engine and of the ledger. (06_sampling_front_end.md, 07_filter_resampling.md, 08_metrology.md,
09_ledger_billing.md) -/
def Obligations.FrameMetering : Prop :=
  (∀ (s : State) (t c : Nat), ∃ u, exec (.chOverload t c) s = .next u ∧
    s.leaves [.host, .afe, .filt] (State.eventFields ++
    [R.AFE_CH_STAT_OVL_NOW, R.AFE_CH_STAT_OVL_CNT, R.AFE_CH_STAT_RESETS]) u) ∧
  (∀ (s : State) (t q : Nat), ∃ u, exec (.auxSeqDue t q) s = .next u ∧ s.leaves [.host, .afe] (State.eventFields ++
    [R.AFE_SCAN_STAT_LATE_CNT]) u) ∧
  (∀ (s : State) (t conv : Nat) (samples : List Int) (trip : Bool), ∃ u,
    exec (.auxConversionDone t conv samples trip) s = .next u ∧
    s.leaves [.fresh, .settings, .host, .afe, .disp] (State.eventFields ++ State.auxFields ++
    [R.AFE_PADC_EN, R.AFE_SEQ_CTL_EN, R.AFE_SEQ_CTL_LEN, R.AFE_SEQ_CTL_CONV, R.AFE_SEQ_CTL_INT_MODE, R.AFE_SEQ_CTL_INT_MP, R.AFE_SEQ_CTL_PERIOD_US, R.AFE_SEQ_ENT_INPUT, R.AFE_SEQ_ENT_SETTLE, R.AFE_SEQ_ENT_AVG_LOG2, R.AFE_SCAN_STAT_FALLBACKS]) u) ∧
  (∀ (s : State) (x : Ctx) (q ctl : Nat) (ents : List Nat), ∃ u, exec (.afeSeqLoad x q ctl ents) s = .next u ∧
    s.leaves [.settings, .host, .cask, .afe] (State.answerFields ++
    [R.AFE_PADC_EN, R.AFE_SEQ_CTL_EN, R.AFE_SEQ_CTL_LEN, R.AFE_SEQ_CTL_CONV, R.AFE_SEQ_CTL_INT_MODE, R.AFE_SEQ_CTL_INT_MP, R.AFE_SEQ_CTL_PERIOD_US, R.AFE_SEQ_ENT_INPUT, R.AFE_SEQ_ENT_SETTLE, R.AFE_SEQ_ENT_AVG_LOG2]) u) ∧
  (∀ (s : State) (x : Ctx) (q on : Nat), ∃ u, exec (.afeSeqEn x q on) s = .next u ∧
    s.leaves [.settings, .host, .cask, .afe] (State.answerFields ++ [R.AFE_PADC_EN, R.AFE_SEQ_CTL_EN]) u) ∧
  (∀ (s : State) (x : Ctx) (inst conv settle avg : Nat) (samples : List Int) (trip : Bool), ∃ u,
    exec (.afeAuxOneshot x inst conv settle avg samples trip) s = .next u ∧
    s.leaves [.fresh, .host, .cask, .afe, .disp] (State.answerFields ++ State.auxFields) u) ∧
  (∀ (s : State) (x : Ctx) (inst conv : Nat) (y0 : Int) (samples : List Int) (trip : Bool), ∃ u,
    exec (.afeCalZero x inst conv y0 samples trip) s = .next u ∧
    s.leaves [.fresh, .host, .cask, .afe, .disp] (State.answerFields ++ State.auxFields) u) ∧
  (∀ (s : State) (x : Ctx) (inst conv : Nat) (y1 : Int) (samples : List Int) (trip : Bool), ∃ u,
    exec (.afeCalSpan x inst conv y1 samples trip) s = .next u ∧
    s.leaves [.fresh, .settings, .host, .cask, .afe, .disp] (State.answerFields ++ State.auxFields ++
    [R.AFE_AUX_CAL_Z_P, R.AFE_AUX_CAL_G_P, R.AFE_AUX_CAL_Y0_P, R.AFE_AUX_CAL_Z_C, R.AFE_AUX_CAL_G_C, R.AFE_AUX_CAL_Y0_C, R.AFE_AUX_CAL_CAL_UTC, R.AFE_AUX_CAL_CAL_C, R.AFE_AUX_CAL_CAL_P]) u) ∧
  (∀ (s : State) (x : Ctx) (inst conv : Nat), ∃ u, exec (.afeCalRestore x inst conv) s = .next u ∧
    s.leaves [.settings, .host, .cask] (State.answerFields ++
    [R.AFE_AUX_CAL_Z_P, R.AFE_AUX_CAL_G_P, R.AFE_AUX_CAL_Y0_P, R.AFE_AUX_CAL_Z_C, R.AFE_AUX_CAL_G_C, R.AFE_AUX_CAL_Y0_C, R.AFE_AUX_CAL_CAL_C, R.AFE_AUX_CAL_CAL_P]) u) ∧
  (∀ (s : State) (x : Ctx) (mask fmt samples : Nat), ∃ u, exec (.afeCapture x mask fmt samples) s = .next u ∧
    s.leaves [.host, .cask, .afe] (State.answerFields ++ [R.AFE_PADC_EN, R.AFE_PADC_CAPTURE]) u) ∧
  (∀ (s : State) (x : Ctx) (mask : Nat) (parts : List (Nat × Nat × List (List Int))), ∃ u,
    exec (.afeCaptureStop x mask parts) s = .next u ∧ s.leaves [.host, .cask, .afe] (State.answerFields ++
    [R.AFE_PADC_EN, R.AFE_PADC_CAPTURE, R.AFE_PADC_OVR_CNT]) u) ∧
  (∀ (s : State) (t m cross amp : Nat), ∃ u, exec (.trkPeriod t m cross amp) s = .next u ∧
    s.leaves [.host, .afe, .filt] (State.eventFields ++
    [R.AFE_SCAN_STAT_FALLBACKS, R.FILT_TRK_STAT_FREQ_UHZ, R.FILT_TRK_STAT_STATE, R.FILT_TRK_STAT_UNLOCKS, R.FILT_TRK_STAT_AMP, R.FILT_TRK_NEXT_START, R.MET_TOTAL_FREQ_1S, R.MET_TOTAL_FREQ_10S]) u) ∧
  (∀ (s : State) (t m : Nat), ∃ u, exec (.trkCrossingTimeout t m) s = .next u ∧
    s.leaves [.host, .afe, .filt] (State.eventFields ++
    [R.AFE_SCAN_STAT_FALLBACKS, R.FILT_TRK_STAT_STATE, R.FILT_TRK_STAT_UNLOCKS, R.MET_TOTAL_FREQ_1S, R.MET_TOTAL_FREQ_10S]) u) ∧
  (∀ (s : State) (t m : Nat), ∃ u, exec (.trkHoldExpiry t m) s = .next u ∧
    s.leaves [.host, .afe] (State.eventFields ++
    [R.AFE_SCAN_STAT_FALLBACKS, R.FILT_TRK_STAT_STATE, R.FILT_TRK_STAT_UNLOCKS, R.MET_TOTAL_FREQ_1S, R.MET_TOTAL_FREQ_10S]) u) ∧
  (∀ (s : State) (t m : Nat), ∃ u, exec (.trkSourceAbsent t m) s = .next u ∧
    s.leaves [.host, .afe, .filt] (State.eventFields ++
    [R.AFE_SCAN_STAT_FALLBACKS, R.FILT_TRK_STAT_STATE, R.FILT_TRK_STAT_UNLOCKS, R.FILT_TRK_ZC_START, R.FILT_TRK_NEXT_START, R.FILT_TRK_PER_PERIOD_NS, R.MET_TOTAL_FREQ_1S, R.MET_TOTAL_FREQ_10S]) u) ∧
  (∀ (s : State) (t m : Nat), ∃ u, exec (.gridCycleStart t m) s = .next u ∧
    s.leaves [.host, .filt, .met, .ledger] (State.eventFields ++ State.recordFields ++
    [R.HOST_SYNC_LAST_COMPLETED, R.FILT_TRK_ZC_START, R.FILT_TRK_NEXT_START, R.FILT_TRK_PER_PERIOD_NS, R.MET_ENERGY_COUNT, R.MET_SESS_A_IMP, R.MET_SESS_A_EXP, R.MET_PULSE_BACKLOG, R.LEDGER_TOU_A_IMP, R.LEDGER_TOU_A_EXP, R.LEDGER_TOU_R_IMP, R.LEDGER_TOU_R_EXP, R.LEDGER_TOU_S_IMP, R.LEDGER_TOU_S_EXP]) u) ∧
  (∀ (s : State) (t c : Nat), ∃ u, exec (.settlingEnd t c) s = .next u ∧
    s.leaves [.host, .met, .ledger] (State.eventFields ++ State.recordFields ++
    [R.AFE_CH_STAT_PRESENT, R.AFE_CH_STAT_OVL_NOW, R.FILT_STAT_PRESENT, R.FILT_STAT_SETTLING, R.MET_CFG_STATE]) u) ∧
  (∀ (s : State) (t c : Nat), ∃ u, exec (.blendStart t c) s = .next u ∧ s.leaves [.filt] ([R.FILT_STAT_BLENDING]) u) ∧
  (∀ (s : State) (t c : Nat), ∃ u, exec (.blendDone t c) s = .next u ∧ s.leaves [.host, .filt] (State.eventFields ++
    [R.FILT_STAT_BLENDING]) u) ∧
  (∀ (s : State) (x : Ctx) (c : Nat), ∃ u, exec (.filtQuery x c) s = .next u ∧
    s.leaves [.host, .cask] State.answerFields u) ∧
  (∀ (s : State) (x : Ctx) (mask : Nat), ∃ u, exec (.filtBlend x mask) s = .next u ∧
    s.leaves [.host, .cask, .filt, .met, .ledger] (State.answerFields ++ State.recordFields ++
    [R.GLOBAL_ALERT_PART_VIOL, R.GLOBAL_PART_VIOL_LAST_SRC, R.GLOBAL_PART_VIOL_LAST_DST, R.GLOBAL_PART_VIOL_COUNT, R.FILT_STAT_ACTIVE_BANK]) u) ∧
  (∀ (s : State) (x : Ctx) (m : Nat), ∃ u, exec (.trkQuery x m) s = .next u ∧
    s.leaves [.host, .cask] State.answerFields u) ∧
  (∀ (s : State) (x : Ctx) (mask : Nat), ∃ u, exec (.filtRestart x mask) s = .next u ∧
    s.leaves [.host, .cask, .filt, .met, .ledger] (State.answerFields ++ State.recordFields ++
    [R.GLOBAL_ALERT_PART_VIOL, R.GLOBAL_PART_VIOL_LAST_SRC, R.GLOBAL_PART_VIOL_LAST_DST, R.GLOBAL_PART_VIOL_COUNT, R.AFE_CH_STAT_PRESENT, R.FILT_STAT_PRESENT, R.FILT_STAT_BLENDING, R.FILT_STAT_SETTLING, R.FILT_GD_TAP_GD, R.FILT_GD_TOTAL_GD, R.MET_CFG_STATE]) u) ∧
  (∀ (s : State) (t m : Nat), ∃ u, exec (.metWindowEnd t m) s = .next u ∧
    s.leaves [.fresh, .met] ([R.MET_PHASE_URMS, R.MET_PHASE_IRMS, R.MET_PHASE_P, R.MET_PHASE_Q, R.MET_PHASE_S, R.MET_PHASE_PF, R.MET_PHASE_COS_PHI1, R.MET_PHASE_ANGLE_UI, R.MET_PHASE_ANGLE_U, R.MET_TOTAL_P, R.MET_TOTAL_Q, R.MET_TOTAL_S, R.MET_TOTAL_PF, R.MET_TOTAL_IN_RMS, R.MET_TOTAL_QF, R.MET_HARM_U_SG, R.MET_HARM_I_SG, R.MET_HARM_U_ISG, R.MET_HARM_I_ISG]) u) ∧
  (∀ (s : State) (t m : Nat), ∃ u, exec (.demandSecondRecord t m) s = .next u ∧
    s.leaves [.met] ([R.MET_QUAL_INVALID_S, R.MET_QUAL_ABSENT_S, R.MET_QUAL_HOLDOVER_S, R.MET_QUAL_FREE_RUN_S, R.LEDGER_DEMAND_CUR_IMP_WH, R.LEDGER_DEMAND_ELAPSED_S]) u) ∧
  (∀ (s : State) (t m : Nat), ∃ u, exec (.pqHalfCycle t m) s = .next u ∧
    s.leaves [.host, .met] (State.eventFields ++
    [R.MET_PQ_STAT_DIPS, R.MET_PQ_STAT_SWELLS, R.MET_PQ_STAT_INTERRUPTS, R.MET_PQ_STAT_ACTIVE]) u) ∧
  (∀ (s : State) (t k : Nat), ∃ u, exec (.pulseStart t k) s = .next u ∧ s.leaves [.host, .met] (State.eventFields ++
    [R.MET_PULSE_BACKLOG]) u) ∧
  (∀ (s : State) (t k : Nat), ∃ u, exec (.pulseEnd t k) s = .next u ∧ s.leaves [.host, .met] (State.eventFields ++
    [R.MET_PULSE_BACKLOG]) u) ∧
  (∀ (s : State) (t : Nat) (temp : Int), ∃ u, exec (.tcRead t temp) s = .next u ∧
    s.leaves [.fresh, .host, .filt, .met] (State.eventFields ++
    [R.FILT_BANK_GAIN, R.FILT_BANK_OFFSET, R.FILT_BANK_TRIM, R.FILT_STAT_ACTIVE_BANK, R.MET_TC_CTL_T_APPLIED]) u) ∧
  (∀ (s : State) (t m : Nat), ∃ u, exec (.metSessionCloseFinal t m) s = .next u ∧
    s.leaves [.host, .ledger] (State.eventFields ++ State.recordFields ++ [R.MET_SESS_CLOSED_PENDING]) u) ∧
  (∀ (s : State) (t m : Nat), ∃ u, exec (.metCalMeasureDone t m) s = .next u ∧
    s.leaves [.host, .met] (State.eventFields) u) ∧
  (∀ (s : State) (x : Ctx) (m : Nat), ∃ u, exec (.metQuery x m) s = .next u ∧
    s.leaves [.host, .cask] State.answerFields u) ∧
  (∀ (s : State) (x : Ctx) (m sess : Nat), ∃ u, exec (.metSessionOpen x m sess) s = .next u ∧
    s.leaves [.host, .cask, .met] (State.answerFields ++
    [R.MET_SESS_SESSION_ID, R.MET_SESS_OPEN, R.MET_SESS_CLOSED_PENDING, R.MET_SESS_T_OPEN, R.MET_SESS_A_IMP, R.MET_SESS_A_EXP]) u) ∧
  (∀ (s : State) (x : Ctx) (m : Nat), ∃ u, exec (.metSessionClose x m) s = .next u ∧
    s.leaves [.host, .cask, .met, .ledger] (State.answerFields ++ State.recordFields ++
    [R.MET_SESS_OPEN, R.MET_SESS_CLOSED_PENDING]) u) ∧
  (∀ (s : State) (x : Ctx) (m phases secs : Nat), ∃ u, exec (.metCalMeasure x m phases secs) s = .next u ∧
    s.leaves [.host, .cask, .met] State.answerFields u) ∧
  (∀ (s : State) (x : Ctx) (m ph uRef iRef : Nat) (angleRef : Int) (mask : Nat), ∃ u,
    exec (.metCalApply x m ph uRef iRef angleRef mask) s = .next u ∧
    s.leaves [.fresh, .host, .cask, .filt, .met, .ledger] (State.answerFields ++ State.recordFields ++
    [R.FILT_BANK_GAIN, R.FILT_BANK_OFFSET, R.FILT_BANK_TRIM, R.FILT_STAT_ACTIVE_BANK]) u) ∧
  (∀ (s : State) (x : Ctx) (k image : Nat), ∃ u, exec (.metPulseCfg x k image) s = .next u ∧
    s.leaves [.host, .cask, .met, .ledger] (State.answerFields ++ State.recordFields ++
    [R.MET_PULSE_EN, R.MET_PULSE_MP, R.MET_PULSE_QTY, R.MET_PULSE_CONST, R.MET_PULSE_WIDTH_MS, R.MET_PULSE_BACKLOG]) u) ∧
  (∀ (s : State) (x : Ctx) (m ph groups : Nat), ∃ u, exec (.metHarmRead x m ph groups) s = .next u ∧
    s.leaves [.host, .cask] State.answerFields u) ∧
  (∀ (s : State) (x : Ctx) (mask samples : Nat), ∃ u, exec (.metWaveCapture x mask samples) s = .next u ∧
    s.leaves [.host, .cask, .met] State.answerFields u) ∧
  (∀ (s : State) (x : Ctx) (mask : Nat), ∃ u, exec (.metWaveStop x mask) s = .next u ∧
    s.leaves [.host, .cask, .met] State.answerFields u) ∧
  (∀ (s : State) (t : Nat) (ok : Bool), ∃ u, exec (.ledgerCommit t ok) s = .next u ∧
    s.leaves [.host, .ledger] (State.eventFields ++ State.recordFields ++ State.demandFields ++
    [R.LEDGER_STAT_COMMIT_FAIL]) u) ∧
  (∀ (s : State) (t : Nat), ∃ u, exec (.recordSign t) s = .next u ∧
    s.leaves [.host, .ledger, .key] (State.eventFields ++ State.recordFields ++ State.cacheFields ++
    [R.GLOBAL_STATUS_HOST_READY, R.HOST_CTRL_DETACHED, R.HOST_CTRL_EN]) u) ∧
  (∀ (s : State) (t : Nat), ∃ u, exec (.tariffSwitch t) s = .next u ∧
    s.leaves [.host, .ledger] (State.eventFields ++ State.recordFields ++ State.demandFields) u) ∧
  (∀ (s : State) (t : Nat), ∃ u, exec (.calendarActivate t) s = .next u ∧
    s.leaves [.host, .ledger] (State.eventFields ++ State.recordFields ++ State.demandFields) u) ∧
  (∀ (s : State) (t : Nat), ∃ u, exec (.demandBoundary t) s = .next u ∧
    s.leaves [.host, .ledger] (State.eventFields ++ State.recordFields ++ State.demandFields) u) ∧
  (∀ (s : State) (t : Nat), ∃ u, exec (.boundaryTransaction t) s = .next u ∧
    s.leaves [.host, .ledger] (State.eventFields ++ State.recordFields ++ State.demandFields) u) ∧
  (∀ (s : State) (t : Nat), ∃ u, exec (.syncWindowExpiry t) s = .next u ∧
    s.leaves [.host, .ledger] (State.eventFields ++ State.recordFields ++ State.demandFields) u) ∧
  (∀ (s : State) (t : Nat), ∃ u, exec (.sealIdle t) s = .next u ∧ s.leaves [.host, .ledger] (State.eventFields ++
    State.recordFields) u) ∧
  (∀ (s : State) (t : Nat) (level : Bool), ∃ u, exec (.legalSealChange t level) s = .next u ∧
    s.leaves [.fresh, .host, .ledger, .disp] (State.eventFields ++ State.recordFields ++
    [R.LEDGER_STAT_CAL_OPEN, R.LEDGER_STAT_SEAL]) u) ∧
  (∀ (s : State) (t : Nat), ∃ u, exec (.calExpiry t) s = .next u ∧
    s.leaves [.fresh, .host, .ledger, .disp] (State.eventFields ++ State.recordFields ++
    [R.LEDGER_STAT_CAL_OPEN]) u) ∧
  (∀ (s : State) (x : Ctx) (m : Nat), ∃ u, exec (.ledgerQuery x m) s = .next u ∧
    s.leaves [.host, .cask] State.answerFields u) ∧
  (∀ (s : State) (x : Ctx) (n m op kind : Nat) (ident : List Byte) (price reason : Nat), ∃ u,
    exec (.ledgerSessionRecord x n m op kind ident price reason) s = .next u ∧
    s.leaves [.host, .cask, .met, .ledger] (State.answerFields ++ State.recordFields ++
    [R.MET_SESS_OPEN, R.MET_SESS_CLOSED_PENDING, R.OUT_STAT_SESSION_ID]) u) ∧
  (∀ (s : State) (x : Ctx) (mask tariff price : Nat), ∃ u, exec (.ledgerTariffSelect x mask tariff price) s =
    .next u ∧ s.leaves [.host, .cask, .ledger] (State.answerFields ++ State.recordFields ++ State.demandFields) u) ∧
  (∀ (s : State) (x : Ctx) (mask : Nat), ∃ u, exec (.ledgerReadSigned x mask) s = .next u ∧
    s.leaves [.host, .cask, .ledger] (State.answerFields ++ State.recordFields) u) ∧
  (∀ (s : State) (x : Ctx) (first maxBytes ackTo : Nat), ∃ u, exec (.ledgerRecordFetch x first maxBytes ackTo) s =
    .next u ∧ s.leaves [.host, .cask, .ledger] State.answerFields u) ∧
  (∀ (s : State) (x : Ctx) (ms : Nat) (sig : Option OwnerSig), ∃ u, exec (.ledgerTimeSet x ms sig) s = .next u ∧
    s.leaves [.host, .cask, .ledger] (State.answerFields ++ State.recordFields ++ State.demandFields ++
    [R.GLOBAL_MTB_UTC_MTB_AT_SEC, R.GLOBAL_MTB_UTC_UTC_SEC, R.GLOBAL_MTB_UTC_RTC_VALID, R.LEDGER_TIME_CLOCK_VALID, R.KEY_OWNER_CTR_CTR]) u) ∧
  (∀ (s : State) (x : Ctx) (image : List Byte) (sigOk : Bool), ∃ u, exec (.ledgerCalendarLoad x image sigOk) s =
    .next u ∧ s.leaves [.host, .cask, .ledger] State.answerFields u) ∧
  (∀ (s : State) (x : Ctx), ∃ u, exec (.ledgerBillingClose x) s = .next u ∧
    s.leaves [.host, .cask, .ledger] State.answerFields u) ∧
  (∀ (s : State) (x : Ctx) (k : Nat), ∃ u, exec (.ledgerBillingRead x k) s = .next u ∧
    s.leaves [.host, .cask] State.answerFields u) ∧
  (∀ (s : State) (x : Ctx), ∃ u, exec (.ledgerCalChallenge x) s = .next u ∧
    s.leaves [.host, .cask, .ledger, .key] (State.answerFields ++ [R.KEY_DRBG_RESEEDS]) u) ∧
  (∀ (s : State) (x : Ctx) (mask mins challenge : Nat) (sigOk : Bool), ∃ u,
    exec (.ledgerCalOpen x mask mins challenge sigOk) s = .next u ∧
    s.leaves [.fresh, .host, .cask, .ledger, .disp] (State.answerFields ++ State.recordFields ++
    [R.LEDGER_STAT_CAL_OPEN]) u) ∧
  (∀ (s : State) (x : Ctx), ∃ u, exec (.ledgerCalClose x) s = .next u ∧
    s.leaves [.fresh, .host, .cask, .ledger, .disp] (State.answerFields ++ State.recordFields ++
    [R.LEDGER_STAT_CAL_OPEN]) u) ∧
  (∀ (s : State) (x : Ctx), ∃ u, exec (.ledgerLegalId x) s = .next u ∧ s.leaves [.host, .cask] State.answerFields u) ∧
  (∀ (s : State) (x : Ctx), ∃ u, exec (.ledgerAckLoss x) s = .next u ∧
    s.leaves [.host, .cask] (State.answerFields ++ [R.LEDGER_STAT_POSSIBLE_LOSS]) u)

/-- What the powerline, key, credential and tag commands leave unchanged. The frame of the commands of the modems,
of Trellis, of the key store, of the credentials, of the readers and of the own tag. (10_powerline_trellis.md,
11_keys_credentials.md, 12_contactless.md) -/
def Obligations.FrameTrellisKeysAndTags : Prop :=
  (∀ (s : State) (t inst agc first : Nat) (syms : List (List Int)) (fecOk : Bool), ∃ u,
    exec (.plcFrameRx t inst agc first syms fecOk) s = .next u ∧ s.leaves [.host, .plc] (State.eventFields ++
    [R.AFE_PADC_OVR_CNT, R.PLC_STAT_RX_FRAMES, R.PLC_STAT_FEC_FAIL, R.PLC_STAT_BLANKED_SYM, R.PLC_STAT_ERASED_SYM, R.PLC_STAT_IMPULSES, R.PLC_STAT_AGC]) u) ∧
  (∀ (s : State) (t : Nat), ∃ u, exec (.superframeStart t) s = .next u ∧
    s.leaves [.host, .plc] (State.eventFields ++ [R.PLC_TRELLIS_STAT_SF_COUNT]) u) ∧
  (∀ (s : State) (t : Nat) (h : THdr) (stamp pos coord count : Nat) (relays : List Nat), ∃ u,
    exec (.beaconRx t h stamp pos coord count relays) s = .next u ∧ s.leaves [.host, .plc] (State.eventFields ++
    State.routeFields ++
    [R.PLC_TRELLIS_STAT_SF_COUNT, R.PLC_TRELLIS_STAT_COORD, R.PLC_TRELLIS_STAT_STATE, R.PLC_TRELLIS_STAT_ADJ, R.PLC_TRELLIS_STAT_AUTH_DROP]) u) ∧
  (∀ (s : State) (t first : Nat) (falling : Bool), ∃ u, exec (.syncInEdge t first falling) s = .next u ∧
    s.leaves [.host, .ledger, .plc] (State.eventFields ++ State.recordFields ++ State.demandFields ++
    [R.PLC_SYNC_LAST_MTB, R.PLC_SYNC_LAST_DIR, R.PLC_SYNC_EDGES, R.PLC_SYNC_GLITCHES]) u) ∧
  (∀ (s : State) (t : Nat), ∃ u, exec (.trellisTx t) s = .next u ∧ s.leaves [.host, .plc] (State.eventFields ++
    [R.PLC_TRELLIS_STAT_RETRIES]) u) ∧
  (∀ (s : State) (t : Nat) (h : THdr) (seq ctr : Nat), ∃ u, exec (.ack t h seq ctr) s = .next u ∧
    s.leaves [.host, .plc] (State.eventFields ++ State.routeFields) u) ∧
  (∀ (s : State) (t : Nat), ∃ u, exec (.trellisAckTimeout t) s = .next u ∧
    s.leaves [.host, .plc] (State.eventFields ++
    [R.PLC_TRELLIS_STAT_NEIGHBOURS, R.PLC_TRELLIS_STAT_NODES, R.PLC_TRELLIS_STAT_TX_DROPPED, R.PLC_TRELLIS_STAT_REPEATER_CHG, R.PLC_TRELLIS_LQ_NEXT_HOP, R.PLC_TRELLIS_LQ_HOPS, R.PLC_TRELLIS_LQ_METRIC, R.PLC_TRELLIS_LQ_LINK_COST, R.PLC_TRELLIS_LQ_LINK_MODE, R.PLC_TRELLIS_LQ_FAIL32, R.PLC_TRELLIS_LQ_SNR, R.PLC_TRELLIS_LQ_COUPLE]) u) ∧
  (∀ (s : State) (t : Nat) (h : THdr) (serial caps : Nat), ∃ u, exec (.joinReq t h serial caps) s = .next u ∧
    s.leaves [.host, .plc] (State.eventFields ++ State.routeFields ++ [R.PLC_TRELLIS_STAT_AUTH_DROP]) u) ∧
  (∀ (s : State) (t : Nat) (h : THdr) (res count : Nat), ∃ u, exec (.joinResult t h res count) s = .next u ∧
    s.leaves [.host, .plc] (State.eventFields ++ State.routeFields ++
    [R.AFE_PADC_EN, R.PLC_CFG_EN, R.PLC_TRELLIS_STAT_COORD, R.PLC_TRELLIS_STAT_STATE, R.PLC_TRELLIS_STAT_ADJ, R.PLC_TRELLIS_STAT_AUTH_DROP]) u) ∧
  (∀ (s : State) (t : Nat) (h : THdr) (entries : List (Nat × Nat × Nat)), ∃ u, exec (.lqReport t h entries) s =
    .next u ∧ s.leaves [.host, .plc] (State.eventFields ++ State.routeFields ++ [R.PLC_TRELLIS_STAT_AUTH_DROP]) u) ∧
  (∀ (s : State) (t : Nat) (h : THdr) (validity : Nat) (entries : List (Nat × Nat)), ∃ u,
    exec (.siteLimit t h validity entries) s = .next u ∧ s.leaves [.host, .out, .plc] (State.eventFields ++
    State.routeFields ++ [R.OUT_SITE_TRELLIS_W, R.PLC_TRELLIS_STAT_AUTH_DROP]) u) ∧
  (∀ (s : State) (t : Nat) (h : THdr) (ref ms : Nat) (sig : Option (List Byte × Bool)), ∃ u,
    exec (.time t h ref ms sig) s = .next u ∧ s.leaves [.host, .ledger, .plc] (State.eventFields ++
    State.recordFields ++ State.demandFields ++ State.routeFields ++
    [R.GLOBAL_MTB_UTC_MTB_AT_SEC, R.GLOBAL_MTB_UTC_UTC_SEC, R.GLOBAL_MTB_UTC_RTC_VALID, R.LEDGER_TIME_CLOCK_VALID, R.PLC_TRELLIS_STAT_AUTH_DROP]) u) ∧
  (∀ (s : State) (t : Nat) (h : THdr) (payload : List Byte), ∃ u, exec (.hostData t h payload) s = .next u ∧
    s.leaves [.host, .plc] (State.eventFields ++ State.routeFields ++ [R.PLC_TRELLIS_STAT_AUTH_DROP]) u) ∧
  (∀ (s : State) (t : Nat) (h : THdr) (digest count gen : Nat), ∃ u, exec (.imageOffer t h digest count gen) s =
    .next u ∧ s.leaves [.host, .plc, .upd] (State.eventFields ++ State.routeFields ++
    [R.PLC_TRELLIS_STAT_AUTH_DROP]) u) ∧
  (∀ (s : State) (t : Nat) (h : THdr) (digest : Nat) (ranges : List (Nat × Nat)), ∃ u,
    exec (.imageReq t h digest ranges) s = .next u ∧ s.leaves [.host, .plc] (State.eventFields ++
    State.routeFields ++ [R.PLC_TRELLIS_STAT_AUTH_DROP]) u) ∧
  (∀ (s : State) (t : Nat) (h : THdr) (digest block frag : Nat) (data : List Byte) (sigs : Bool × Bool), ∃ u,
    exec (.imageBlock t h digest block frag data sigs) s = .next u ∧
    s.leaves [.host, .ledger, .plc, .upd] (State.eventFields ++ State.recordFields ++ State.routeFields ++
    [R.PLC_TRELLIS_STAT_AUTH_DROP, R.UPD_STAT_HOLDER, R.UPD_STAT_RECEIVED, R.UPD_STAT_TOTAL, R.UPD_STAT_STATE, R.UPD_STAT_LAST_STATUS]) u) ∧
  (∀ (s : State) (t : Nat), ∃ u, exec (.imageBlockExpiry t) s = .next u ∧ s.leaves [.plc] ([]) u) ∧
  (∀ (s : State) (t : Nat), ∃ u, exec (.trellisBeaconTimeout t) s = .next u ∧
    s.leaves [.host, .plc] (State.eventFields ++
    [R.AFE_PADC_EN, R.PLC_CFG_EN, R.PLC_TRELLIS_STAT_COORD, R.PLC_TRELLIS_STAT_STATE]) u) ∧
  (∀ (s : State) (t : Nat), ∃ u, exec (.trellisJoinTimeout t) s = .next u ∧ s.leaves [.plc] ([]) u) ∧
  (∀ (s : State) (t : Nat), ∃ u, exec (.trellisJoinBackoffEnd t) s = .next u ∧
    s.leaves [.host, .plc] (State.eventFields ++
    [R.AFE_PADC_EN, R.PLC_CFG_EN, R.PLC_TRELLIS_STAT_COORD, R.PLC_TRELLIS_STAT_STATE]) u) ∧
  (∀ (s : State) (t n : Nat), ∃ u, exec (.trellisNodeTimeout t n) s = .next u ∧
    s.leaves [.host, .plc] (State.eventFields) u) ∧
  (∀ (s : State) (t : Nat), ∃ u, exec (.lqReportSend t) s = .next u ∧ s.leaves [.plc] ([]) u) ∧
  (∀ (s : State) (t : Nat), ∃ u, exec (.siteLimitRepeat t) s = .next u ∧ s.leaves [.plc] ([]) u) ∧
  (∀ (s : State) (t : Nat), ∃ u, exec (.timeSend t) s = .next u ∧ s.leaves [.plc] ([]) u) ∧
  (∀ (s : State) (t : Nat), ∃ u, exec (.imageOfferSend t) s = .next u ∧ s.leaves [.plc] ([]) u) ∧
  (∀ (s : State) (t : Nat) (on : Bool), ∃ u, exec (.trellisEnable t on) s = .next u ∧
    s.leaves [.host, .plc] (State.eventFields ++
    [R.AFE_PADC_EN, R.PLC_CFG_EN, R.PLC_TRELLIS_CFG_EN, R.PLC_TRELLIS_STAT_COORD, R.PLC_TRELLIS_STAT_STATE]) u) ∧
  (∀ (s : State) (x : Ctx) (island : Nat), ∃ u, exec (.plcQuery x island) s = .next u ∧
    s.leaves [.host, .cask] State.answerFields u) ∧
  (∀ (s : State) (x : Ctx) (dst cls : Nat) (payload : List Byte), ∃ u, exec (.trellisSend x dst cls payload) s =
    .next u ∧ s.leaves [.host, .cask, .plc] State.answerFields u) ∧
  (∀ (s : State) (x : Ctx) (validity : Nat) (entries : List (Nat × Nat)), ∃ u,
    exec (.trellisLimitSend x validity entries) s = .next u ∧
    s.leaves [.host, .cask, .out, .plc] (State.answerFields ++ [R.OUT_SITE_TRELLIS_W]) u) ∧
  (∀ (s : State) (x : Ctx), ∃ u, exec (.trellisLqRead x) s = .next u ∧ s.leaves [.host, .cask] State.answerFields u) ∧
  (∀ (s : State) (x : Ctx), ∃ u, exec (.trellisRestart x) s = .next u ∧
    s.leaves [.host, .cask, .plc] (State.answerFields ++
    [R.AFE_PADC_EN, R.PLC_CFG_EN, R.PLC_TRELLIS_STAT_COORD, R.PLC_TRELLIS_STAT_STATE]) u) ∧
  (∀ (s : State) (t : Nat) (ber : Option Nat), ∃ u, exec (.pufRetry t ber) s = .next u ∧
    s.leaves [.host, .out, .ledger, .key, .tag] (State.eventFields ++ State.pilotFields ++ State.cacheFields ++
    [R.GLOBAL_STATUS_HOST_READY, R.HOST_CTRL_DETACHED, R.HOST_CTRL_EN, R.KEY_STATUS_MODE, R.KEY_STATUS_ROOT_OK, R.KEY_PUF_STAT_BER, R.KEY_PUF_STAT_BER_MAX, R.KEY_PUF_STAT_ATTEMPTS]) u) ∧
  (∀ (s : State) (t : Nat), ∃ u, exec (.riddle t) s = .next u ∧
    s.leaves [.key] ([R.KEY_STATUS_RIDDLE_LATE, R.KEY_DRBG_RESEEDS]) u) ∧
  (∀ (s : State) (t : Nat), ∃ u, exec (.drbgReseed t) s = .next u ∧ s.leaves [.key] ([R.KEY_DRBG_RESEEDS]) u) ∧
  (∀ (s : State) (t test : Nat), ∃ u, exec (.entropyFail t test) s = .next u ∧
    s.leaves [.host, .key] (State.eventFields ++ [R.KEY_DRBG_HEALTH_OK, R.KEY_DRBG_HEALTH_FAIL]) u) ∧
  (∀ (s : State) (t : Nat) (pass : Bool), ∃ u, exec (.entropyRetest t pass) s = .next u ∧
    s.leaves [.host, .key] (State.eventFields ++ [R.KEY_DRBG_HEALTH_OK, R.KEY_DRBG_RESEEDS]) u) ∧
  (∀ (s : State) (t : Nat) (failed : List Nat) (ber : Option Nat), ∃ u, exec (.keySelftestDone t failed ber) s =
    .next u ∧ s.leaves [.host, .out, .ledger, .key, .tag] (State.eventFields ++ State.pilotFields ++
    State.cacheFields ++
    [R.KEY_STATUS_MODE, R.KEY_STATUS_ROOT_OK, R.KEY_PUF_STAT_BER, R.KEY_PUF_STAT_BER_MAX, R.KEY_PUF_STAT_ATTEMPTS]) u) ∧
  (∀ (s : State) (t : Nat), ∃ u, exec (.credVerifyDone t) s = .next u ∧ s.leaves [.host, .key] (State.eventFields ++
    [R.KEY_CRED_STAT_ACTIVE_GEN, R.KEY_CRED_STAT_RECORDS, R.KEY_CRED_STAT_DELTAS, R.KEY_CRED_STAT_LOAD_STATE, R.KEY_CRED_STAT_ACTIVE_COPY, R.KEY_CRED_STAT_LOADED]) u) ∧
  (∀ (s : State) (t a : Nat), ∃ u, exec (.flashBlockFail t a) s = .next u ∧ s.leaves [.host] (State.eventFields ++
    [R.KEY_CRED_STAT_WORN, R.KEY_WEAR_SPARES_USED, R.KEY_WEAR_READ_ONLY]) u) ∧
  (∀ (s : State) (x : Ctx), ∃ u, exec (.keyQuery x) s = .next u ∧ s.leaves [.host, .cask] State.answerFields u) ∧
  (∀ (s : State) (x : Ctx) (path : List (List Byte)), ∃ u, exec (.keyNodeQuery x path) s = .next u ∧
    s.leaves [.host, .cask] State.answerFields u) ∧
  (∀ (s : State) (x : Ctx) (path : List (List Byte)) (sig : OwnerSig), ∃ u, exec (.keyInvalidate x path sig) s =
    .next u ∧ s.leaves [.host, .cask, .ledger, .key] (State.answerFields ++ State.recordFields ++
    [R.KEY_OWNER_CTR_CTR]) u) ∧
  (∀ (s : State) (x : Ctx) (path : List (List Byte)) (sig : OwnerSig), ∃ u, exec (.keyRederive x path sig) s =
    .next u ∧ s.leaves [.host, .cask, .ledger, .key] (State.answerFields ++ State.recordFields ++
    [R.KEY_OWNER_CTR_CTR]) u) ∧
  (∀ (s : State) (x : Ctx) (blob : List Byte) (plain : Option Nat) (sigOk : Bool), ∃ u,
    exec (.keyInstall x blob plain sigOk) s = .next u ∧ s.leaves [.host, .cask, .key] (State.answerFields ++
    [R.KEY_CACHE_USED, R.KEY_CACHE_PINNED, R.KEY_CACHE_NODES, R.KEY_OWNER_CTR_CTR]) u) ∧
  (∀ (s : State) (x : Ctx) (key : List Byte) (counter : Nat) (sig : Option Bool), ∃ u,
    exec (.keyOwnerSet x key counter sig) s = .next u ∧ s.leaves [.host, .cask, .key] (State.answerFields ++
    [R.KEY_STATUS_OWNER_SET, R.KEY_OWNER_CTR_CTR]) u) ∧
  (∀ (s : State) (x : Ctx) (slot typ : Nat) (item : List Byte) (valid : Bool) (sig : OwnerSig), ∃ u,
    exec (.keyAnchorInstall x slot typ item valid sig) s = .next u ∧
    s.leaves [.host, .cask, .key] (State.answerFields ++ [R.KEY_OWNER_CTR_CTR]) u) ∧
  (∀ (s : State) (x : Ctx) (path : List (List Byte)) (subject : List Byte), ∃ u, exec (.keyCsr x path subject) s =
    .next u ∧ s.leaves [.host, .cask, .key] (State.answerFields ++ State.cacheFields) u) ∧
  (∀ (s : State) (x : Ctx) (path : List (List Byte)) (chain : List (List Byte)) (leafKey : Nat) (periods : List (Nat × Nat)) (valid : Bool),
    ∃ u, exec (.keyCertInstall x path chain leafKey periods valid) s = .next u ∧
    s.leaves [.host, .cask, .key] State.answerFields u) ∧
  (∀ (s : State) (x : Ctx) (nonce : Nat) (paths : List (List (List Byte))), ∃ u, exec (.keyAttest x nonce paths) s =
    .next u ∧ s.leaves [.host, .cask, .key] (State.answerFields ++ State.cacheFields) u) ∧
  (∀ (s : State) (x : Ctx), ∃ u, exec (.keyAttestCert x) s = .next u ∧ s.leaves [.host, .cask] State.answerFields u) ∧
  (∀ (s : State) (x : Ctx), ∃ u, exec (.keySelftest x) s = .next u ∧
    s.leaves [.host, .cask, .key] (State.answerFields ++
    [R.KEY_STATUS_MODE, R.KEY_CACHE_USED, R.KEY_CACHE_PINNED, R.KEY_CACHE_NODES]) u) ∧
  (∀ (s : State) (x : Ctx) (gen count : Nat), ∃ u, exec (.credLoadBegin x gen count) s = .next u ∧
    s.leaves [.host, .cask, .key] (State.answerFields ++ [R.KEY_CRED_STAT_LOAD_STATE, R.KEY_CRED_STAT_LOADED]) u) ∧
  (∀ (s : State) (x : Ctx) (first : Nat) (recs : List CredRec), ∃ u, exec (.credLoadData x first recs) s = .next u ∧
    s.leaves [.host, .cask, .key] (State.answerFields ++ [R.KEY_CRED_STAT_LOADED]) u) ∧
  (∀ (s : State) (x : Ctx) (gen count digest serial : Nat) (sigOk : Bool), ∃ u,
    exec (.credLoadCommit x gen count digest serial sigOk) s = .next u ∧
    s.leaves [.host, .cask, .key] (State.answerFields ++ [R.KEY_CRED_STAT_LOAD_STATE]) u) ∧
  (∀ (s : State) (x : Ctx), ∃ u, exec (.credLoadAbort x) s = .next u ∧
    s.leaves [.host, .cask, .key] (State.answerFields ++ [R.KEY_CRED_STAT_LOAD_STATE, R.KEY_CRED_STAT_LOADED]) u) ∧
  (∀ (s : State) (x : Ctx) (recs : List CredRec) (sig : OwnerSig), ∃ u, exec (.credUpdate x recs sig) s = .next u ∧
    s.leaves [.host, .cask, .key] (State.answerFields ++ [R.KEY_OWNER_CTR_CTR, R.KEY_CRED_STAT_DELTAS]) u) ∧
  (∀ (s : State) (x : Ctx) (kind hash n : Nat) (tagBad : Bool), ∃ u, exec (.credLookup x kind hash n tagBad) s =
    .next u ∧ s.leaves [.host, .cask, .key] State.answerFields u) ∧
  (∀ (s : State) (t : Nat) (ok : Bool), ∃ u, exec (.cableWrite t ok) s = .next u ∧
    s.leaves [.tag] ([R.TAG_RDR_STAT_QUEUE, R.TAG_CABLE_WRITE_PEND]) u) ∧
  (∀ (s : State) (t : Nat), ∃ u, exec (.ownTagFieldOn t) s = .next u ∧
    s.leaves [.tag] ([R.TAG_OWN_STAT_FIELD, R.TAG_OWN_STAT_TORN]) u) ∧
  (∀ (s : State) (t : Nat), ∃ u, exec (.ownTagFieldLost t) s = .next u ∧
    s.leaves [.host, .tag] (State.eventFields ++ [R.TAG_OWN_STAT_FIELD]) u) ∧
  (∀ (s : State) (t : Nat) (first count : Nat), ∃ u, exec (.ownTagFieldRead t first count) s = .next u ∧
    s.leaves [.tag] ([]) u) ∧
  (∀ (s : State) (t : Nat) (first : Nat) (values : List Nat) (done : Nat), ∃ u,
    exec (.ownTagFieldWrite t first values done) s = .next u ∧
    s.leaves [.tag] ([R.TAG_OWN_STAT_BUSY_RSP, R.TAG_OWN_STAT_FIELD_WR]) u) ∧
  (∀ (s : State) (t : Nat) (pwd : Nat), ∃ u, exec (.presentPwd t pwd) s = .next u ∧ s.leaves [.tag] ([]) u) ∧
  (∀ (s : State) (t : Nat) (ok : Bool), ∃ u, exec (.ownTagMam1 t ok) s = .next u ∧ s.leaves [.tag] ([]) u) ∧
  (∀ (s : State) (x : Ctx), ∃ u, exec (.tagQuery x) s = .next u ∧ s.leaves [.host, .cask] State.answerFields u) ∧
  (∀ (s : State) (x : Ctx) (n : Nat), ∃ u, exec (.tagCableRead x n) s = .next u ∧
    s.leaves [.host, .cask, .tag] (State.answerFields ++ [R.TAG_RDR_STAT_QUEUE]) u) ∧
  (∀ (s : State) (x : Ctx) (n : Nat) (ok : Bool), ∃ u, exec (.tagCableInit x n ok) s = .next u ∧
    s.leaves [.host, .cask, .tag] State.answerFields u) ∧
  (∀ (s : State) (x : Ctx) (n : Nat) (ok : Bool), ∃ u, exec (.tagCableRetire x n ok) s = .next u ∧
    s.leaves [.host, .cask, .out, .tag] (State.answerFields ++
    [R.TAG_RDR_STAT_QUEUE, R.TAG_CABLE_STATE, R.TAG_CABLE_WRITE_PEND, R.TAG_CABLE_EOL]) u) ∧
  (∀ (s : State) (x : Ctx) (first count : Nat), ∃ u, exec (.tagOwnRead x first count) s = .next u ∧
    s.leaves [.host, .cask] State.answerFields u) ∧
  (∀ (s : State) (x : Ctx) (first : Nat) (blocks : List Nat), ∃ u, exec (.tagOwnWrite x first blocks) s = .next u ∧
    s.leaves [.fresh, .host, .cask, .tag] State.answerFields u) ∧
  (∀ (s : State) (t : Nat), ∃ u, exec (.resetToReady t) s = .next u ∧ s.leaves [.tag] ([]) u)

/-- What the display, load switch, update, Twin and power commands leave unchanged. The frame of the commands of the
display, of the load switches, of the update engine, of the Twin and of the supply. (13_epd_display.md,
14_load_switches.md, 15_update.md, 16_twin_standby.md, 17_power_clocks_startup.md) -/
def Obligations.FrameDisplaySwitchesUpdateTwin : Prop :=
  (∀ (s : State) (t : Nat), ∃ u, exec (.legalBtnPress t) s = .next u ∧
    s.leaves [.fresh, .host, .ledger, .disp] (State.eventFields) u) ∧
  (∀ (s : State) (t : Nat), ∃ u, exec (.legalDisplayTimeout t) s = .next u ∧
    s.leaves [.fresh, .host, .ledger, .disp] (State.eventFields) u) ∧
  (∀ (s : State) (t : Nat), ∃ u, exec (.dispTempStale t) s = .next u ∧
    s.leaves [] ([R.DISP_TEMP_BAND, R.DISP_TEMP_STALE]) u) ∧
  (∀ (s : State) (t : Nat), ∃ u, exec (.dispFrameStart t) s = .next u ∧
    s.leaves [.host, .disp] (State.eventFields ++ [R.DISP_STAT_RECOVERING]) u) ∧
  (∀ (s : State) (t r : Nat), ∃ u, exec (.dispRegionDone t r) s = .next u ∧
    s.leaves [.host, .disp] (State.eventFields ++
    [R.GLOBAL_ISLAND_STAT_READY, R.GLOBAL_ISLAND_STAT_CLK_OK, R.GLOBAL_ISLAND_STAT_ASLEEP, R.DISP_STAT_SCANNING, R.DISP_STAT_RECOVERING]) u) ∧
  (∀ (s : State) (t : Nat), ∃ u, exec (.epdPwrGoodRise t) s = .next u ∧
    s.leaves [.disp] ([R.DISP_STAT_SCANNING, R.DISP_STAT_PWR_GOOD]) u) ∧
  (∀ (s : State) (t : Nat), ∃ u, exec (.dispPwrTimeout t) s = .next u ∧
    s.leaves [.host, .disp] (State.eventFields ++
    [R.GLOBAL_ISLAND_STAT_READY, R.GLOBAL_ISLAND_STAT_CLK_OK, R.GLOBAL_ISLAND_STAT_ASLEEP, R.DISP_STAT_SCANNING, R.DISP_STAT_RECOVERING]) u) ∧
  (∀ (s : State) (t : Nat), ∃ u, exec (.epdPwrGoodLoss t) s = .next u ∧
    s.leaves [.host, .disp] (State.eventFields ++
    [R.DISP_STAT_SCANNING, R.DISP_STAT_RECOVERING, R.DISP_STAT_PWR_GOOD, R.DISP_STAT_ABANDONED]) u) ∧
  (∀ (s : State) (t : Nat), ∃ u, exec (.dispPwrOff t) s = .next u ∧
    s.leaves [.disp] ([R.DISP_STAT_SCANNING, R.DISP_STAT_PWR_GOOD]) u) ∧
  (∀ (s : State) (t : Nat), ∃ u, exec (.vintageSave t) s = .next u ∧ s.leaves [.disp] ([]) u) ∧
  (∀ (s : State) (t : Nat) (caps : List Nat), ∃ u, exec (.segSense t caps) s = .next u ∧
    s.leaves [.host, .disp] (State.eventFields ++ [R.DISP_SEG_CAP_C_REF, R.DISP_SEG_CAP_C_NOW]) u) ∧
  (∀ (s : State) (t : Nat), ∃ u, exec (.segFrame t) s = .next u ∧ s.leaves [.host, .disp] (State.eventFields) u) ∧
  (∀ (s : State) (t : Nat), ∃ u, exec (.legalSilent t) s = .next u ∧ s.leaves [.host, .disp] (State.eventFields) u) ∧
  (∀ (s : State) (x : Ctx), ∃ u, exec (.dispQuery x) s = .next u ∧ s.leaves [.host, .cask] State.answerFields u) ∧
  (∀ (s : State) (x : Ctx) (px py w h : Nat) (pixels : List Byte), ∃ u, exec (.dispImageLoad x px py w h pixels) s =
    .next u ∧ s.leaves [.host, .cask, .disp] State.answerFields u) ∧
  (∀ (s : State) (x : Ctx) (px py w h mode : Nat), ∃ u, exec (.dispUpdate x px py w h mode) s = .next u ∧
    s.leaves [.host, .cask, .disp] (State.answerFields ++ [R.DISP_STAT_SCANNING]) u) ∧
  (∀ (s : State) (x : Ctx) (v : Int), ∃ u, exec (.dispTempSet x v) s = .next u ∧
    s.leaves [.host, .cask, .disp] (State.answerFields ++
    [R.DISP_TEMP_BAND, R.DISP_TEMP_STALE, R.DISP_TEMP_TEMP]) u) ∧
  (∀ (s : State) (x : Ctx), ∃ u, exec (.dispVintageRead x) s = .next u ∧
    s.leaves [.host, .cask] State.answerFields u) ∧
  (∀ (s : State) (x : Ctx) (sig : OwnerSig), ∃ u, exec (.dispVintageReset x sig) s = .next u ∧
    s.leaves [.host, .cask, .disp] (State.answerFields ++ [R.KEY_OWNER_CTR_CTR]) u) ∧
  (∀ (s : State) (t n ma tj : Nat) (lowOut : Bool), ∃ u, exec (.lswTrip t n ma tj lowOut) s = .next u ∧
    s.leaves [.host, .lsw] (State.eventFields ++
    [R.LSW_STAT_STATE, R.LSW_STAT_I_MA, R.LSW_STAT_I_FINE, R.LSW_STAT_TJ, R.LSW_STAT_RETRIES_LEFT, R.LSW_STAT_LATCH_OC, R.LSW_STAT_LATCH_TH, R.LSW_STAT_TRIPS]) u) ∧
  (∀ (s : State) (t n ma tj : Nat) (calm : Bool), ∃ u, exec (.inrushEnd t n ma tj calm) s = .next u ∧
    s.leaves [.host, .lsw] (State.eventFields ++
    [R.LSW_STAT_STATE, R.LSW_STAT_RETRIES_LEFT, R.LSW_STAT_LATCH_OC, R.LSW_STAT_LATCH_TH, R.LSW_STAT_TRIPS]) u) ∧
  (∀ (s : State) (t n : Nat), ∃ u, exec (.lswRetry t n) s = .next u ∧
    s.leaves [.lsw] ([R.LSW_STAT_STATE, R.LSW_STAT_RETRIES_LEFT]) u) ∧
  (∀ (s : State) (t n tj : Nat), ∃ u, exec (.lswCoolRestart t n tj) s = .next u ∧
    s.leaves [.lsw] ([R.LSW_STAT_STATE, R.LSW_STAT_TJ, R.LSW_STAT_RETRIES_LEFT]) u) ∧
  (∀ (s : State) (t n : Nat), ∃ u, exec (.retriesReload t n) s = .next u ∧
    s.leaves [] ([R.LSW_STAT_RETRIES_LEFT]) u) ∧
  (∀ (s : State) (t q temp : Nat), ∃ u, exec (.quadHot t q temp) s = .next u ∧
    s.leaves [.host, .lsw] (State.eventFields ++
    [R.LSW_STAT_STATE, R.LSW_STAT_RETRIES_LEFT, R.LSW_QUAD_T, R.LSW_QUAD_HOT, R.LSW_QUAD_TRIPS]) u) ∧
  (∀ (s : State) (t q temp : Nat), ∃ u, exec (.quadCool t q temp) s = .next u ∧
    s.leaves [.host, .lsw] (State.eventFields ++ [R.LSW_QUAD_T, R.LSW_QUAD_HOT]) u) ∧
  (∀ (s : State) (t q : Nat), ∃ u, exec (.quadRestartStep t q) s = .next u ∧
    s.leaves [.lsw] ([R.LSW_STAT_STATE, R.LSW_STAT_RETRIES_LEFT]) u) ∧
  (∀ (s : State) (t b : Nat), ∃ u, exec (.lswPwmPeriod t b) s = .next u ∧ s.leaves [.lsw] ([]) u) ∧
  (∀ (s : State) (t n lo hi : Nat), ∃ u, exec (.lswOpenOn t n lo hi) s = .next u ∧
    s.leaves [.host, .lsw] (State.eventFields ++ [R.LSW_STAT_OPEN_ON]) u) ∧
  (∀ (s : State) (t n : Nat), ∃ u, exec (.lswOpenOff t n) s = .next u ∧ s.leaves [.host] (State.eventFields ++
    [R.LSW_STAT_OPEN_OFF]) u) ∧
  (∀ (s : State) (t : Nat) (mas mws : List Nat), ∃ u, exec (.lswBudgetWindow t mas mws) s = .next u ∧
    s.leaves [.host, .lsw] (State.eventFields ++
    [R.LSW_STAT_STATE, R.LSW_STAT_BUDGET_OFF, R.LSW_BANK_I_MA, R.LSW_BANK_SHED, R.LSW_TOTAL_I_MA, R.LSW_TOTAL_P_MW]) u) ∧
  (∀ (s : State) (t b mv : Nat), ∃ u, exec (.vlsUndervoltage t b mv) s = .next u ∧
    s.leaves [.host, .lsw] (State.eventFields ++ [R.LSW_STAT_STATE, R.LSW_BANK_VLS_MV, R.LSW_BANK_UV]) u) ∧
  (∀ (s : State) (t b mv : Nat), ∃ u, exec (.vlsRestored t b mv) s = .next u ∧
    s.leaves [.host, .lsw] (State.eventFields ++
    [R.LSW_STAT_STATE, R.LSW_STAT_RETRIES_LEFT, R.LSW_BANK_VLS_MV, R.LSW_BANK_UV]) u) ∧
  (∀ (s : State) (x : Ctx) (mask on duty phase : Nat), ∃ u, exec (.lswSet x mask on duty phase) s = .next u ∧
    s.leaves [.host, .cask, .lsw] (State.answerFields ++
    [R.LSW_PWM_DUTY, R.LSW_PWM_PHASE, R.LSW_STAT_STATE, R.LSW_STAT_RETRIES_LEFT, R.LSW_STAT_BUDGET_OFF, R.LSW_STAT_SAFE_HELD]) u) ∧
  (∀ (s : State) (x : Ctx) (mask : Nat), ∃ u, exec (.lswClear x mask) s = .next u ∧
    s.leaves [.host, .cask, .lsw] (State.answerFields ++
    [R.LSW_STAT_STATE, R.LSW_STAT_RETRIES_LEFT, R.LSW_STAT_LATCH_OC, R.LSW_STAT_LATCH_TH]) u) ∧
  (∀ (s : State) (x : Ctx) (n : Nat), ∃ u, exec (.lswQuery x n) s = .next u ∧
    s.leaves [.host, .cask] State.answerFields u) ∧
  (∀ (s : State) (x : Ctx) (n cfg pwm : Nat), ∃ u, exec (.lswConfig x n cfg pwm) s = .next u ∧
    s.leaves [.settings, .host, .cask] (State.answerFields ++
    [R.LSW_CFG_EN, R.LSW_CFG_INRUSH_EN, R.LSW_CFG_ILIM, R.LSW_CFG_INRUSH_A, R.LSW_CFG_INRUSH_MS, R.LSW_CFG_RETRY_N, R.LSW_CFG_RETRY_MS, R.LSW_CFG_THERM_LATCH, R.LSW_CFG_OL_RANGE, R.LSW_CFG_OL_MA, R.LSW_CFG_OFF_DIAG, R.LSW_CFG_PRIO, R.LSW_CFG_SAFE_OFF, R.LSW_CFG_I_NOM, R.LSW_PWM_DUTY, R.LSW_PWM_PHASE]) u) ∧
  (∀ (s : State) (x : Ctx) (b hz : Nat), ∃ u, exec (.lswBankPwm x b hz) s = .next u ∧
    s.leaves [.settings, .host, .cask] (State.answerFields ++ [R.LSW_BANK_PWM_HZ]) u) ∧
  (∀ (s : State) (t mv : Nat), ∃ u, exec (.vinReturn t mv) s = .next u ∧
    s.leaves [.phase, .host, .cask, .met, .ledger, .disp] (State.eventFields ++ State.recordFields ++
    [R.HOST_SYNC_LAST_COMPLETED, R.CASK_STAT_ABORTED, R.LEDGER_LASTPOUR_RUN_100US, R.LEDGER_EST_EST_UWH, R.LEDGER_EST_EST_VALID, R.LEDGER_EST_EST_EXPORT, R.LEDGER_EST_EST_CAPPED, R.DISP_STAT_SCANNING]) u) ∧
  (∀ (s : State) (x : Ctx) (man : List Byte) (sigs : Bool × Bool), ∃ u, exec (.updBegin x man sigs) s = .next u ∧
    s.leaves [.host, .cask, .ledger, .upd] (State.answerFields ++ State.recordFields ++
    [R.UPD_STAT_HOLDER, R.UPD_STAT_RECEIVED, R.UPD_STAT_TOTAL, R.UPD_STAT_STATE, R.UPD_STAT_LAST_STATUS]) u) ∧
  (∀ (s : State) (x : Ctx) (first : Nat) (blocks : List (List Byte)), ∃ u, exec (.updBlock x first blocks) s =
    .next u ∧ s.leaves [.host, .cask, .upd] (State.answerFields ++
    [R.UPD_STAT_RECEIVED, R.UPD_STAT_STATE, R.UPD_STAT_LAST_STATUS]) u) ∧
  (∀ (s : State) (x : Ctx) (first : Nat), ∃ u, exec (.updStatus x first) s = .next u ∧
    s.leaves [.host, .cask, .upd] State.answerFields u) ∧
  (∀ (s : State) (x : Ctx), ∃ u, exec (.updConfirm x) s = .next u ∧
    s.leaves [.host, .cask, .upd] (State.answerFields ++
    [R.UPD_STAT_STATE, R.UPD_STAT_LAST_STATUS, R.UPD_BOOT_FLOOR, R.UPD_BOOT_PTR_GEN, R.UPD_BOOT_BOOT_STATE]) u) ∧
  (∀ (s : State) (x : Ctx) (sig : Option OwnerSig), ∃ u, exec (.updAbort x sig) s = .next u ∧
    s.leaves [.host, .cask, .upd] (State.answerFields ++
    [R.KEY_OWNER_CTR_CTR, R.UPD_STAT_HOLDER, R.UPD_STAT_RECEIVED, R.UPD_STAT_TOTAL, R.UPD_STAT_STATE, R.UPD_STAT_LAST_STATUS]) u) ∧
  (∀ (s : State) (x : Ctx) (cosign : Nat) (sig : OwnerSig), ∃ u, exec (.updPolicy x cosign sig) s = .next u ∧
    s.leaves [.host, .cask] (State.answerFields ++ [R.KEY_OWNER_CTR_CTR, R.UPD_POLICY_OWNER_COSIGN]) u) ∧
  (∀ (s : State) (t : Nat) (readOk : Bool), ∃ u, exec (.updVerifyDone t readOk) s = .next u ∧
    s.leaves [.host, .upd] (State.eventFields ++
    [R.UPD_STAT_HOLDER, R.UPD_STAT_RECEIVED, R.UPD_STAT_TOTAL, R.UPD_STAT_STATE, R.UPD_STAT_LAST_STATUS]) u) ∧
  (∀ (s : State) (t : Nat), ∃ u, exec (.updLockIdle t) s = .next u ∧ s.leaves [.host] (State.eventFields ++
    [R.UPD_STAT_HOLDER, R.UPD_STAT_STATE, R.UPD_STAT_LAST_STATUS]) u) ∧
  (∀ (s : State) (t : Nat), ∃ u, exec (.updActivateTimeout t) s = .next u ∧
    s.leaves [.host, .cask, .upd] (State.eventFields ++ [R.UPD_STAT_STATE, R.UPD_STAT_LAST_STATUS]) u) ∧
  (∀ (s : State) (t : Nat), ∃ u, exec (.trialTimeSave t) s = .next u ∧
    s.leaves [.upd] ([R.UPD_BOOT_PTR_GEN, R.UPD_BOOT_TRIAL_S]) u) ∧
  (∀ (s : State) (t : Nat), ∃ u, exec (.updAutoConfirm t) s = .next u ∧ s.leaves [.host, .upd] (State.eventFields ++
    [R.UPD_STAT_STATE, R.UPD_STAT_LAST_STATUS, R.UPD_BOOT_FLOOR, R.UPD_BOOT_PTR_GEN, R.UPD_BOOT_BOOT_STATE]) u) ∧
  (∀ (s : State) (t : Nat) (man : List Byte) (sigs : Bool × Bool), ∃ u, exec (.svcBegin t man sigs) s = .next u ∧
    s.leaves [.host, .ledger, .upd] (State.eventFields ++ State.recordFields ++
    [R.UPD_STAT_HOLDER, R.UPD_STAT_RECEIVED, R.UPD_STAT_TOTAL, R.UPD_STAT_STATE, R.UPD_STAT_LAST_STATUS]) u) ∧
  (∀ (s : State) (t block : Nat) (data : List Byte), ∃ u, exec (.svcBlock t block data) s = .next u ∧
    s.leaves [.host, .upd] (State.eventFields ++ [R.UPD_STAT_RECEIVED, R.UPD_STAT_STATE, R.UPD_STAT_LAST_STATUS]) u) ∧
  (∀ (s : State) (t : Nat), ∃ u, exec (.svcStatus t) s = .next u ∧ s.leaves [.upd] ([]) u) ∧
  (∀ (s : State) (t : Nat) (sig : Option OwnerSig), ∃ u, exec (.svcAbort t sig) s = .next u ∧
    s.leaves [.host, .cask, .upd] (State.eventFields ++
    [R.KEY_OWNER_CTR_CTR, R.UPD_STAT_HOLDER, R.UPD_STAT_RECEIVED, R.UPD_STAT_TOTAL, R.UPD_STAT_STATE, R.UPD_STAT_LAST_STATUS]) u) ∧
  (∀ (s : State) (t : Nat), ∃ u, exec (.svcConfirm t) s = .next u ∧ s.leaves [.host, .upd] (State.eventFields ++
    [R.UPD_STAT_STATE, R.UPD_STAT_LAST_STATUS, R.UPD_BOOT_FLOOR, R.UPD_BOOT_PTR_GEN, R.UPD_BOOT_BOOT_STATE]) u) ∧
  (∀ (s : State) (t : Nat), ∃ u, exec (.svcBadFrame t) s = .next u ∧ s.leaves [] ([]) u) ∧
  (∀ (s : State) (t : Nat) (lanes serial : Nat) (peerPrefer : Bool) (hdr : Machine.TwinHdr), ∃ u,
    exec (.twinLinkUp t lanes serial peerPrefer hdr) s = .next u ∧
    s.leaves [.fresh, .host, .ledger, .twin] (State.eventFields ++ State.recordFields ++
    [R.TWIN_STAT_PEER_SERIAL, R.TWIN_STAT_ROLE, R.TWIN_STAT_PEER_ROLE, R.TWIN_STAT_PEER_READY, R.TWIN_STAT_READY, R.TWIN_STAT_LAST_CAUSE, R.TWIN_LINK_UP, R.TWIN_LINK_LANES, R.TWIN_LINK_CRC_ERR, R.TWIN_LINK_RETRAIN, R.TWIN_MTB_OFS_OFFSET]) u) ∧
  (∀ (s : State) (t : Nat), ∃ u, exec (.twinLinkDown t) s = .next u ∧ s.leaves [.host, .twin] (State.eventFields ++
    [R.TWIN_STAT_PEER_READY, R.TWIN_STAT_READY, R.TWIN_LINK_UP, R.TWIN_LINK_LANES]) u) ∧
  (∀ (s : State) (t : Nat), ∃ u, exec (.twinPairTimeout t) s = .next u ∧
    s.leaves [.fresh, .host, .ledger, .twin] (State.eventFields ++ State.recordFields ++
    [R.TWIN_STAT_ROLE, R.TWIN_STAT_READY, R.TWIN_STAT_LAST_CAUSE]) u) ∧
  (∀ (s : State) (t : Nat) (hdr : Machine.TwinHdr) (crc kib : Nat), ∃ u, exec (.twinCopyFreeze t hdr crc kib) s =
    .next u ∧ s.leaves [.host, .twin] (State.eventFields ++
    [R.TWIN_STAT_PEER_ROLE, R.TWIN_STAT_PEER_READY, R.TWIN_STAT_COPY_KIB, R.TWIN_LINK_CRC_ERR, R.TWIN_MTB_OFS_OFFSET]) u) ∧
  (∀ (s : State) (t : Nat) (copy : Machine.TwinCopy) (whole : Bool) (kib : Nat) (hdr : Machine.TwinHdr), ∃ u,
    exec (.twinCopyRx t copy whole kib hdr) s = .next u ∧ s.leaves [.host, .twin] (State.eventFields ++
    [R.TWIN_STAT_PEER_ROLE, R.TWIN_STAT_PEER_READY, R.TWIN_STAT_READY, R.TWIN_STAT_COPY_KIB, R.TWIN_LINK_CRC_ERR, R.TWIN_MTB_OFS_OFFSET]) u) ∧
  (∀ (s : State) (t crc : Nat), ∃ u, exec (.twinCopyDeadline t crc) s = .next u ∧
    s.leaves [.host, .twin] (State.eventFields ++
    [R.TWIN_STAT_READY, R.TWIN_STAT_COPY_MISS, R.TWIN_LINK_CRC_ERR]) u) ∧
  (∀ (s : State) (t cause : Nat), ∃ u, exec (.twinGiveup t cause) s = .next u ∧
    s.leaves [.fresh, .host, .cask, .ledger, .disp, .twin] (State.eventFields ++ State.recordFields ++
    [R.HOST_SYNC_LAST_COMPLETED, R.CASK_STAT_ABORTED, R.TWIN_STAT_ROLE, R.TWIN_STAT_READY, R.TWIN_STAT_LAST_CAUSE]) u) ∧
  (∀ (s : State) (x : Ctx), ∃ u, exec (.twinQuery x) s = .next u ∧ s.leaves [.host, .cask] State.answerFields u) ∧
  (∀ (s : State) (x : Ctx), ∃ u, exec (.twinSwitch x) s = .next u ∧
    s.leaves [.fresh, .host, .cask, .ledger, .disp, .twin] (State.answerFields ++ State.recordFields ++
    [R.CASK_STAT_ABORTED, R.TWIN_STAT_ROLE, R.TWIN_STAT_READY, R.TWIN_STAT_LAST_CAUSE]) u) ∧
  (∀ (s : State) (x : Ctx), ∃ u, exec (.twinRejoin x) s = .next u ∧
    s.leaves [.fresh, .host, .cask, .ledger, .twin] (State.answerFields ++ State.recordFields ++
    [R.TWIN_STAT_ROLE, R.TWIN_STAT_READY, R.TWIN_STAT_LAST_CAUSE]) u) ∧
  (∀ (s : State) (t mv ms : Nat), ∃ u, exec (.vinValid t mv ms) s = .next u ∧ s.leaves [.phase] ([]) u) ∧
  (∀ (s : State) (t : Nat), ∃ u, exec (.earlyVinLoss t) s = .next u ∧ s.leaves [.phase, .pwr] ([]) u) ∧
  (∀ (s : State) (t : Nat) (codes : List Nat), ∃ u, exec (.procMonSample t codes) s = .next u ∧
    s.leaves [.host, .pwr] (State.eventFields ++ [R.GLOBAL_ISLAND_STAT_PROC_MON]) u) ∧
  (∀ (s : State) (t k : Nat) (closed : Bool) (samples : Nat), ∃ u, exec (.tamperInput t k closed samples) s =
    .next u ∧ s.leaves [.host, .ledger] (State.eventFields ++ State.recordFields ++
    [R.PWR_TAMPER_ACTIVE, R.PWR_TAMPER_VBAT_COUNT]) u) ∧
  (∀ (s : State) (t : Nat), ∃ u, exec (.xtal32Fail t) s = .next u ∧ s.leaves [.host, .ledger] (State.eventFields ++
    [R.GLOBAL_MTB_UTC_RTC_VALID, R.LEDGER_TIME_CLOCK_VALID, R.PWR_CLK_XTAL32_OK, R.PWR_CLK_RTC_FALLBACK, R.PWR_CLK_XTAL32_FAILS]) u) ∧
  (∀ (s : State) (t : Nat), ∃ u, exec (.xtal49Fail t) s = .next u ∧
    s.leaves [.host, .ledger, .pwr] (State.eventFields ++ State.recordFields ++
    [R.PWR_STAT_MTB_HOLDOVER, R.PWR_CLK_XTAL49_OK, R.PWR_CLK_XTAL49_FAILS]) u) ∧
  (∀ (s : State) (t : Nat), ∃ u, exec (.xtal49Return t) s = .next u ∧ s.leaves [.host] (State.eventFields ++
    [R.PWR_STAT_MTB_HOLDOVER, R.PWR_CLK_XTAL49_OK]) u) ∧
  (∀ (s : State) (t cause : Nat), ∃ u, exec (.meterWake t cause) s = .next u ∧
    s.leaves [.host] (State.eventFields ++
    [R.GLOBAL_ISLAND_STAT_READY, R.GLOBAL_ISLAND_STAT_CLK_OK, R.GLOBAL_ISLAND_STAT_ASLEEP, R.AFE_PADC_EN, R.PLC_CFG_EN, R.PLC_STAT_LINK, R.PWR_STAT_MODE]) u) ∧
  (∀ (s : State) (x : Ctx), ∃ u, exec (.pwrQuery x) s = .next u ∧ s.leaves [.host, .cask] State.answerFields u) ∧
  (∀ (s : State) (x : Ctx) (mode : Nat), ∃ u, exec (.pwrMode x mode) s = .next u ∧
    s.leaves [.host, .cask] (State.answerFields ++ [R.AFE_PADC_EN, R.PLC_CFG_EN, R.PLC_STAT_LINK]) u) ∧
  (∀ (s : State) (x : Ctx), ∃ u, exec (.pwrIdent x) s = .next u ∧ s.leaves [.host, .cask] State.answerFields u) ∧
  (∀ (s : State) (t : Nat), ∃ u, exec (.xtal32Return t) s = .next u ∧ s.leaves [.host] (State.eventFields ++
    [R.PWR_CLK_XTAL32_OK, R.PWR_CLK_RTC_FALLBACK]) u) ∧
  (∀ (s : State) (t : Nat), ∃ u, exec (.refclkReturn t) s = .next u ∧ s.leaves [.host] (State.eventFields ++
    [R.PWR_CLK_REFCLK_OK]) u)

/-- What the commands that reach many parts leave unchanged. The frame of the commands that reach many parts: those
that end sessions, open contactors, stop or start the module. START_UP, REG_WRITE, REGISTER_WRITE and
TWIN_ACT_IN_FALL, which may change register fields of any family, are framed by parts only.
(04_outlet_sessions.md, 05_safety_earth_fault.md, 09_ledger_billing.md, 15_update.md, 17_power_clocks_startup.md)
-/
def Obligations.FrameWideCommands : Prop :=
  (∀ (s : State) (t : Nat) (feed : List Feed), ∃ u, exec (.controlCycleStart t feed) s = .next u ∧
    s.leaves [.fresh, .phase, .settings, .host, .arch, .cask, .out, .safe, .filt, .met, .ledger, .tag, .disp, .lsw, .upd, .twin, .pwr] (State.eventFields ++
    State.recordFields ++ State.demandFields ++ State.endingFields ++ State.openingFields ++ State.pilotFields ++
    [R.GLOBAL_ALERT_SAFE_CHANGE, R.CASK_STAT_LATE, R.AFE_CH_STAT_EYE_ERR, R.FILT_STAT_OVF_STAGE, R.FILT_STAT_OVF_CNT, R.MET_ENERGY_COUNT, R.MET_SESS_SESSION_ID, R.MET_SESS_T_OPEN, R.MET_SESS_A_IMP, R.MET_SESS_A_EXP, R.MET_PULSE_BACKLOG, R.LEDGER_STAT_COMMIT_FAIL, R.LEDGER_STAT_LAST_POUR_OK, R.LEDGER_LASTPOUR_L_MTB, R.LEDGER_LASTPOUR_L_UTC, R.LEDGER_LASTPOUR_DURATION_US, R.OUT_STAT_AUTH_SRC, R.OUT_STAT_PROTO, R.OUT_STAT_DIODE_FAULT, R.OUT_STAT_CABLE_A, R.OUT_ALLOC_STAT_LAST, R.SAFE_STATUS_SAFE_OK, R.SAFE_STATUS_B_RUN, R.SAFE_STATUS_SHUNT, R.SAFE_RCM_STAT_DC, R.SAFE_RCM_STAT_AC, R.SAFE_RCM_STAT_LAST_TRIP, R.SAFE_RCM_STAT_TRIPS_24H, R.TAG_CABLE_MATING, R.DISP_STAT_SCANNING, R.DISP_STAT_RECOVERING, R.DISP_STAT_ABANDONED, R.LSW_STAT_STATE, R.LSW_STAT_SAFE_HELD, R.UPD_STAT_RECEIVED, R.UPD_STAT_TOTAL, R.UPD_STAT_STATE, R.UPD_STAT_LAST_STATUS, R.UPD_BOOT_ACTIVE_GEN, R.UPD_BOOT_PTR_GEN, R.UPD_BOOT_ACTIVE_SLOT, R.UPD_BOOT_BOOT_STATE, R.UPD_BOOT_SETTINGS_VER, R.TWIN_STAT_READY]) u) ∧
  (∀ (s : State) (t : Nat) (late : Nat), ∃ u, exec (.outputStagingDeadline t late) s = .next u ∧
    s.leaves [.fresh, .host, .arch, .out, .safe, .ledger, .tag] (State.eventFields ++ State.pilotFields ++
    [R.GLOBAL_ISLAND_STAT_OVR]) u) ∧
  (∀ (s : State) (x : Ctx) (off : Nat) (value : Nat) (mask : Nat), ∃ u, exec (.regWrite x off value mask) s =
    .next u ∧ ∀ p,
    p ∉ ([.fresh, .settings, .host, .cask, .out, .safe, .afe, .filt, .met, .ledger, .plc, .tag, .disp, .lsw, .twin] : List State.Part) →
    s.samePart u p) ∧
  (∀ (s : State) (t : Nat) (boot : BootIn), ∃ u, exec (.startUp t boot) s = .next u ∧ ∀ p,
    p ∉ ([.phase, .settings, .host, .arch, .cask, .out, .safe, .afe, .filt, .met, .ledger, .key, .plc, .tag, .disp, .lsw, .upd, .twin, .pwr] : List State.Part) →
    s.samePart u p) ∧
  (∀ (s : State) (x : Ctx) (block inst : Nat), ∃ u, exec (.funcDisable x block inst) s = .next u ∧
    s.leaves [.fresh, .host, .cask, .out, .safe, .met, .ledger, .tag, .disp] (State.answerFields ++
    State.recordFields ++ State.endingFields ++ State.pilotFields ++
    [R.GLOBAL_ALERT_PART_VIOL, R.GLOBAL_PART_VIOL_LAST_SRC, R.GLOBAL_PART_VIOL_LAST_DST, R.GLOBAL_PART_VIOL_COUNT, R.CASK_STAT_ABORTED]) u) ∧
  (∀ (s : State) (t : Nat) (block inst : Nat), ∃ u, exec (.funcDisableDone t block inst) s = .next u ∧
    s.leaves [.host, .cask, .out, .met, .ledger, .tag, .disp, .lsw] (State.eventFields ++ State.recordFields ++
    State.pilotFields ++ [R.MET_SESS_OPEN, R.MET_SESS_CLOSED_PENDING, R.LSW_STAT_STATE]) u) ∧
  (∀ (s : State) (t : Nat) (k : Nat) (applied : List (Nat × Nat)) (lowRefused : Bool), ∃ u,
    exec (.caskApply t k applied lowRefused) s = .next u ∧
    s.leaves [.host, .cask, .out, .safe, .met, .ledger, .tag, .disp] (State.eventFields ++ State.recordFields ++
    State.demandFields ++ State.endingFields ++ State.openingFields ++ State.pilotFields ++
    [R.CASK_STAT_COMMITTED, R.CASK_STAT_LATE, R.MET_SESS_SESSION_ID, R.MET_SESS_T_OPEN, R.MET_SESS_A_IMP, R.MET_SESS_A_EXP, R.DISP_STAT_SCANNING]) u) ∧
  (∀ (s : State) (t : Nat) (n : Nat), ∃ u, exec (.pilotStateAccept t n) s = .next u ∧
    s.leaves [.host, .cask, .out, .safe, .met, .ledger, .tag, .disp] (State.eventFields ++ State.recordFields ++
    State.endingFields ++ State.openingFields ++ State.pilotFields ++
    [R.HOST_SYNC_LAST_COMPLETED, R.OUT_STAT_AUTH_SRC, R.OUT_STAT_PROTO, R.OUT_STAT_DIODE_FAULT, R.OUT_STAT_CABLE_A, R.TAG_CABLE_MATING]) u) ∧
  (∀ (s : State) (t : Nat) (n : Nat), ∃ u, exec (.pilotDiodeFault t n) s = .next u ∧
    s.leaves [.host, .cask, .out, .safe, .met, .ledger, .tag, .disp] (State.eventFields ++ State.recordFields ++
    State.endingFields ++ State.openingFields ++ State.pilotFields ++
    [R.HOST_SYNC_LAST_COMPLETED, R.OUT_STAT_DIODE_FAULT]) u) ∧
  (∀ (s : State) (t : Nat) (n : Nat) (ohms : Nat), ∃ u, exec (.proximityRead t n ohms) s = .next u ∧
    s.leaves [.fresh, .host, .out, .safe, .ledger, .tag] (State.eventFields ++ State.pilotFields ++
    [R.OUT_STAT_CABLE_A, R.OUT_ALLOC_STAT_ALLOC_W, R.OUT_ALLOC_STAT_ENF_W, R.OUT_ALLOC_STAT_LAST]) u) ∧
  (∀ (s : State) (t : Nat) (n : Nat), ∃ u, exec (.authTimeout t n) s = .next u ∧
    s.leaves [.host, .out, .met, .ledger, .tag] (State.eventFields ++ State.recordFields ++ State.endingFields ++
    State.pilotFields) u) ∧
  (∀ (s : State) (t : Nat) (n : Nat) (msg : HlcMsg), ∃ u, exec (.hlcMessage t n msg) s = .next u ∧
    s.leaves [.fresh, .host, .out, .safe, .met, .ledger, .tag] (State.eventFields ++ State.recordFields ++
    State.endingFields ++ State.cableFields ++ State.pilotFields ++
    [R.OUT_STAT_AUTH_SRC, R.OUT_STAT_PROTO, R.SAFE_COIL_STAT_LOAD_BREAKS, R.SAFE_COIL_STAT_TESTS_SKIPPED]) u) ∧
  (∀ (s : State) (t : Nat) (n : Nat), ∃ u, exec (.hlcTimeout t n) s = .next u ∧
    s.leaves [.host, .out, .met, .ledger, .tag] (State.eventFields ++ State.recordFields ++ State.endingFields ++
    State.pilotFields ++ [R.OUT_STAT_PROTO]) u) ∧
  (∀ (s : State) (t : Nat), ∃ u, exec (.slacWindowClose t) s = .next u ∧
    s.leaves [.host, .out, .met, .ledger, .tag] (State.eventFields ++ State.recordFields ++ State.endingFields ++
    State.pilotFields) u) ∧
  (∀ (s : State) (t : Nat) (run : Nat), ∃ u, exec (.slacMatchTimeout t run) s = .next u ∧
    s.leaves [.host, .out, .met, .ledger, .tag] (State.eventFields ++ State.recordFields ++ State.endingFields ++
    State.pilotFields) u) ∧
  (∀ (s : State) (t : Nat) (n : Nat), ∃ u, exec (.slacInitTimeout t n) s = .next u ∧
    s.leaves [.host, .out, .met, .ledger, .tag] (State.eventFields ++ State.recordFields ++ State.endingFields ++
    State.pilotFields) u) ∧
  (∀ (s : State) (t : Nat) (n inst : Nat), ∃ u, exec (.pmLost t n inst) s = .next u ∧
    s.leaves [.host, .cask, .out, .safe, .met, .ledger, .tag, .disp] (State.eventFields ++ State.recordFields ++
    State.endingFields ++ State.openingFields ++ State.pilotFields ++
    [R.HOST_SYNC_LAST_COMPLETED, R.OUT_ALLOC_STAT_LAST]) u) ∧
  (∀ (s : State) (t : Nat) (n : Nat), ∃ u, exec (.allocMaxWait t n) s = .next u ∧
    s.leaves [.host, .out, .safe, .met, .ledger, .tag] (State.eventFields ++ State.recordFields ++
    State.endingFields ++ State.cableFields ++ State.pilotFields ++
    [R.OUT_ALLOC_STAT_LAST, R.SAFE_COIL_STAT_LOAD_BREAKS, R.SAFE_COIL_STAT_TESTS_SKIPPED]) u) ∧
  (∀ (s : State) (x : Ctx) (n mode : Nat), ∃ u, exec (.outAvailability x n mode) s = .next u ∧
    s.leaves [.fresh, .host, .cask, .out, .safe, .met, .ledger, .tag, .disp] (State.answerFields ++
    State.recordFields ++ State.endingFields ++ State.pilotFields ++ [R.CASK_STAT_ABORTED]) u) ∧
  (∀ (s : State) (x : Ctx) (mask peer : Nat), ∃ u, exec (.sessionStop x mask peer) s = .next u ∧
    s.leaves [.fresh, .host, .cask, .out, .safe, .met, .ledger, .tag, .disp, .twin] (State.answerFields ++
    State.recordFields ++ State.endingFields ++ State.pilotFields ++ [R.CASK_STAT_ABORTED]) u) ∧
  (∀ (s : State) (x : Ctx) (mask peer : Nat), ∃ u, exec (.outErem x mask peer) s = .next u ∧
    s.leaves [.host, .cask, .out, .safe, .met, .ledger, .tag, .disp, .twin] (State.answerFields ++
    State.recordFields ++ State.endingFields ++ State.openingFields ++ State.pilotFields) u) ∧
  (∀ (s : State) (t : Nat) (levels : List Int) (mirrors : Nat), ∃ u, exec (.hslCycle t levels mirrors) s = .next u ∧
    s.leaves [.host, .cask, .out, .safe, .tag, .disp] (State.eventFields ++ State.openingFields ++
    [R.HOST_SYNC_LAST_COMPLETED, R.SAFE_RCM_STAT_DC, R.SAFE_RCM_STAT_AC, R.SAFE_RCM_STAT_LAST_TRIP, R.SAFE_RCM_STAT_TRIPS_24H]) u) ∧
  (∀ (s : State) (t : Nat) (crcOk : Bool), ∃ u, exec (.hslTableCheck t crcOk) s = .next u ∧
    s.leaves [.host, .cask, .out, .safe, .tag, .disp] (State.eventFields ++ State.openingFields ++
    [R.GLOBAL_ALERT_SAFE_CHANGE, R.HOST_SYNC_LAST_COMPLETED, R.SAFE_STATUS_SAFE_OK, R.SAFE_STATUS_TABLE_OK]) u) ∧
  (∀ (s : State) (t : Nat), ∃ u, exec (.hslWatchdogExpiry t) s = .next u ∧
    s.leaves [.host, .cask, .out, .safe, .tag, .disp] (State.eventFields ++ State.openingFields ++
    [R.GLOBAL_ALERT_SAFE_CHANGE, R.HOST_SYNC_LAST_COMPLETED, R.SAFE_STATUS_SAFE_OK, R.SAFE_STATUS_B_RUN]) u) ∧
  (∀ (s : State) (t : Nat), ∃ u, exec (.bHeartbeatLoss t) s = .next u ∧
    s.leaves [.host, .cask, .out, .safe, .tag, .disp] (State.eventFields ++ State.openingFields ++
    [R.GLOBAL_ALERT_SAFE_CHANGE, R.HOST_SYNC_LAST_COMPLETED, R.SAFE_STATUS_SAFE_OK, R.SAFE_STATUS_A_RUN]) u) ∧
  (∀ (s : State) (t code n chan : Nat) (reading : Int) (since : Nat), ∃ u,
    exec (.channelDiscrepancy t code n chan reading since) s = .next u ∧
    s.leaves [.host, .cask, .out, .safe, .tag, .disp] (State.eventFields ++ State.openingFields ++
    [R.GLOBAL_ALERT_SAFE_CHANGE, R.HOST_SYNC_LAST_COMPLETED, R.SAFE_STATUS_SAFE_OK]) u) ∧
  (∀ (s : State) (t : Nat) (k ma ms : Nat), ∃ u, exec (.coilOpen t k ma ms) s = .next u ∧
    s.leaves [.host, .cask, .out, .safe, .tag, .disp] (State.eventFields ++ State.openingFields ++
    [R.HOST_SYNC_LAST_COMPLETED, R.SAFE_COIL_STAT_I_MA]) u) ∧
  (∀ (s : State) (t : Nat) (k : Nat) (ma : Nat), ∃ u, exec (.coilShort t k ma) s = .next u ∧
    s.leaves [.host, .cask, .out, .safe, .tag, .disp] (State.eventFields ++ State.openingFields ++
    [R.HOST_SYNC_LAST_COMPLETED, R.SAFE_COIL_STAT_I_MA]) u) ∧
  (∀ (s : State) (t : Nat) (n : Nat), ∃ u, exec (.weldCheck t n) s = .next u ∧
    s.leaves [.host, .cask, .out, .safe, .tag, .disp] (State.eventFields ++ State.openingFields ++
    [R.HOST_SYNC_LAST_COMPLETED, R.SAFE_STATUS_SHUNT]) u) ∧
  (∀ (s : State) (t : Nat) (k : Nat) (low : Bool) (offUs : Option Nat) (otherOpens : Bool), ∃ u,
    exec (.darkTestPulse t k low offUs otherOpens) s = .next u ∧
    s.leaves [.host, .cask, .out, .safe, .tag, .disp] (State.eventFields ++ State.openingFields ++
    [R.HOST_SYNC_LAST_COMPLETED]) u) ∧
  (∀ (s : State) (t : Nat) (k : Nat), ∃ u, exec (.coilUncontrol t k) s = .next u ∧
    s.leaves [.host, .cask, .out, .safe, .tag, .disp] (State.eventFields ++ State.openingFields ++
    [R.GLOBAL_ALERT_SAFE_CHANGE, R.HOST_SYNC_LAST_COMPLETED, R.SAFE_STATUS_SAFE_OK, R.SAFE_STATUS_SHUNT]) u) ∧
  (∀ (s : State) (t : Nat) (srcB : Bool) (ownFollows otherFollows : Bool), ∃ u,
    exec (.estopSourcePulse t srcB ownFollows otherFollows) s = .next u ∧
    s.leaves [.host, .cask, .out, .safe, .tag, .disp] (State.eventFields ++ State.openingFields ++
    [R.GLOBAL_ALERT_SAFE_CHANGE, R.HOST_SYNC_LAST_COMPLETED, R.SAFE_STATUS_SAFE_OK]) u) ∧
  (∀ (s : State) (t : Nat) (inputB : Bool) (us : Nat), ∃ u, exec (.estopOpen t inputB us) s = .next u ∧
    s.leaves [.host, .cask, .out, .safe, .tag, .disp] (State.eventFields ++ State.openingFields ++
    [R.GLOBAL_ALERT_SAFE_CHANGE, R.HOST_SYNC_LAST_COMPLETED, R.SAFE_STATUS_SAFE_OK]) u) ∧
  (∀ (s : State) (t : Nat), ∃ u, exec (.estopDisc t) s = .next u ∧
    s.leaves [.host, .cask, .out, .safe, .tag, .disp] (State.eventFields ++ State.openingFields ++
    [R.GLOBAL_ALERT_SAFE_CHANGE, R.HOST_SYNC_LAST_COMPLETED, R.SAFE_STATUS_SAFE_OK]) u) ∧
  (∀ (s : State) (t : Nat) (m : Nat) (closed : Bool) (ms : Nat), ∃ u, exec (.safeInChange t m closed ms) s =
    .next u ∧ s.leaves [.fresh, .host, .cask, .out, .safe, .ledger, .tag, .disp] (State.eventFields ++
    State.openingFields ++ State.pilotFields ++ [R.HOST_SYNC_LAST_COMPLETED]) u) ∧
  (∀ (s : State) (t : Nat) (n : Nat) (offset : Int) (reading : Nat), ∃ u,
    exec (.rcmSelftestRun t n offset reading) s = .next u ∧
    s.leaves [.host, .cask, .out, .safe, .tag, .disp] (State.eventFields ++ State.openingFields ++
    [R.HOST_SYNC_LAST_COMPLETED, R.SAFE_RCM_STAT_OFFSET, R.SAFE_RCM_STAT_LAST_TRIP, R.SAFE_RCM_STAT_SELFTEST_OK]) u) ∧
  (∀ (s : State) (t : Nat) (inst : Nat), ∃ u, exec (.rcmSensorRange t inst) s = .next u ∧
    s.leaves [.host, .cask, .out, .safe, .tag, .disp] (State.eventFields ++ State.openingFields ++
    [R.HOST_SYNC_LAST_COMPLETED, R.SAFE_RCM_STAT_LAST_TRIP]) u) ∧
  (∀ (s : State) (t : Nat) (kohm : Nat), ∃ u, exec (.imdResult t kohm) s = .next u ∧
    s.leaves [.host, .cask, .out, .safe, .met, .ledger, .tag, .disp] (State.eventFields ++ State.recordFields ++
    State.endingFields ++ State.openingFields ++ State.pilotFields ++
    [R.HOST_SYNC_LAST_COMPLETED, R.SAFE_IMD_INS_KOHM, R.SAFE_IMD_RESULT]) u) ∧
  (∀ (s : State) (t : Nat) (n : Nat), ∃ u, exec (.cableCheckTimeout t n) s = .next u ∧
    s.leaves [.host, .cask, .out, .safe, .met, .ledger, .tag, .disp] (State.eventFields ++ State.recordFields ++
    State.endingFields ++ State.openingFields ++ State.pilotFields ++ [R.HOST_SYNC_LAST_COMPLETED]) u) ∧
  (∀ (s : State) (x : Ctx) (n : Nat) (offset : Int) (reading : Nat), ∃ u, exec (.rcmSelftest x n offset reading) s =
    .next u ∧ s.leaves [.host, .cask, .out, .safe, .tag, .disp] (State.answerFields ++ State.openingFields ++
    [R.SAFE_RCM_STAT_OFFSET, R.SAFE_RCM_STAT_LAST_TRIP, R.SAFE_RCM_STAT_SELFTEST_OK]) u) ∧
  (∀ (s : State) (x : Ctx) (n kohm : Nat), ∃ u, exec (.imdMeasure x n kohm) s = .next u ∧
    s.leaves [.host, .cask, .out, .safe, .met, .ledger, .tag, .disp] (State.answerFields ++ State.recordFields ++
    State.endingFields ++ State.openingFields ++ State.pilotFields ++ [R.SAFE_IMD_INS_KOHM, R.SAFE_IMD_RESULT]) u) ∧
  (∀ (s : State) (t c : Nat), ∃ u, exec (.mbsLost t c) s = .next u ∧
    s.leaves [.host, .afe, .filt, .met, .ledger] (State.eventFields ++ State.recordFields ++ State.trackerFields) u) ∧
  (∀ (s : State) (t c : Nat), ∃ u, exec (.mbsRestored t c) s = .next u ∧
    s.leaves [.host, .afe, .filt, .met, .ledger] (State.eventFields ++ State.recordFields ++ State.trackerFields) u) ∧
  (∀ (s : State) (t mv : Nat) (feed : List Feed), ∃ u, exec (.vfail t mv feed) s = .next u ∧
    s.leaves [.fresh, .phase, .host, .cask, .out, .safe, .filt, .met, .ledger, .tag, .disp, .lsw, .pwr] (State.eventFields ++
    State.recordFields ++ State.demandFields ++ State.cableFields ++
    [R.CASK_STAT_LATE, R.AFE_CH_STAT_EYE_ERR, R.FILT_STAT_OVF_STAGE, R.FILT_STAT_OVF_CNT, R.MET_ENERGY_COUNT, R.MET_SESS_SESSION_ID, R.MET_SESS_OPEN, R.MET_SESS_CLOSED_PENDING, R.MET_SESS_T_OPEN, R.MET_SESS_A_IMP, R.MET_SESS_A_EXP, R.MET_PULSE_BACKLOG, R.LEDGER_STAT_COMMIT_FAIL, R.LEDGER_STAT_LAST_POUR_OK, R.LEDGER_LASTPOUR_L_MTB, R.LEDGER_LASTPOUR_L_UTC, R.LEDGER_LASTPOUR_DURATION_US, R.OUT_STAT_SESSION_ID, R.SAFE_COIL_STAT_LOAD_BREAKS, R.SAFE_COIL_STAT_TESTS_SKIPPED, R.DISP_STAT_SCANNING, R.DISP_STAT_RECOVERING, R.DISP_STAT_ABANDONED, R.LSW_STAT_STATE]) u) ∧
  (∀ (s : State) (t : Nat), ∃ u, exec (.converterRailFall t) s = .next u ∧
    s.leaves [.phase, .out, .safe, .ledger, .lsw] ([R.LEDGER_STAT_LAST_POUR_OK, R.LEDGER_LASTPOUR_RUN_100US, R.SAFE_STATUS_SAFE_OK, R.SAFE_STATUS_SHUNT, R.LSW_STAT_STATE, R.PWR_TAMPER_VBAT_COUNT]) u) ∧
  (∀ (s : State) (t : Nat) (cardsA cardsB cards15 : List (List Byte)) (authOk : Bool) (rxErr : Nat), ∃ u,
    exec (.rdr0Poll t cardsA cardsB cards15 authOk rxErr) s = .next u ∧
    s.leaves [.fresh, .host, .out, .safe, .ledger, .tag] (State.eventFields ++ State.pilotFields ++
    [R.OUT_STAT_AUTH_SRC, R.TAG_RDR_STAT_MULTI, R.TAG_RDR_STAT_WALK_LIMIT, R.TAG_RDR_STAT_RX_ERR]) u) ∧
  (∀ (s : State) (t : Nat) (tag : Option CableRead), ∃ u, exec (.cableRead t tag) s = .next u ∧
    s.leaves [.host, .out, .met, .ledger, .tag] (State.eventFields ++ State.recordFields ++ State.endingFields ++
    State.cableFields ++ State.pilotFields ++
    [R.OUT_STAT_CABLE_A, R.TAG_CABLE_UID, R.TAG_CABLE_MATING, R.TAG_CABLE_RATING_A]) u) ∧
  (∀ (s : State) (x : Ctx) (mode : Nat), ∃ u, exec (.updActivate x mode) s = .next u ∧
    s.leaves [.fresh, .host, .cask, .out, .safe, .met, .ledger, .tag, .disp, .upd] (State.answerFields ++
    State.recordFields ++ State.endingFields ++ State.pilotFields ++
    [R.CASK_STAT_ABORTED, R.UPD_STAT_STATE, R.UPD_STAT_LAST_STATUS]) u) ∧
  (∀ (s : State) (x : Ctx), ∃ u, exec (.updRevert x) s = .next u ∧
    s.leaves [.fresh, .phase, .settings, .host, .cask, .out, .safe, .filt, .met, .ledger, .tag, .disp, .lsw, .upd, .pwr] (State.answerFields ++
    State.recordFields ++ State.demandFields ++ State.endingFields ++ State.openingFields ++ State.pilotFields ++
    [R.CASK_STAT_LATE, R.AFE_CH_STAT_EYE_ERR, R.FILT_STAT_OVF_STAGE, R.FILT_STAT_OVF_CNT, R.MET_ENERGY_COUNT, R.MET_SESS_SESSION_ID, R.MET_SESS_T_OPEN, R.MET_SESS_A_IMP, R.MET_SESS_A_EXP, R.MET_PULSE_BACKLOG, R.LEDGER_STAT_COMMIT_FAIL, R.LEDGER_STAT_LAST_POUR_OK, R.LEDGER_LASTPOUR_L_MTB, R.LEDGER_LASTPOUR_L_UTC, R.LEDGER_LASTPOUR_DURATION_US, R.SAFE_STATUS_SAFE_OK, R.SAFE_STATUS_SHUNT, R.DISP_STAT_SCANNING, R.DISP_STAT_RECOVERING, R.DISP_STAT_ABANDONED, R.LSW_STAT_STATE, R.UPD_STAT_RECEIVED, R.UPD_STAT_TOTAL, R.UPD_STAT_STATE, R.UPD_STAT_LAST_STATUS, R.UPD_BOOT_ACTIVE_GEN, R.UPD_BOOT_PTR_GEN, R.UPD_BOOT_ACTIVE_SLOT, R.UPD_BOOT_BOOT_STATE, R.UPD_BOOT_SETTINGS_VER]) u) ∧
  (∀ (s : State) (t : Nat), ∃ u, exec (.updActivationFlip t) s = .next u ∧
    s.leaves [.phase, .host, .cask, .out, .safe, .filt, .met, .ledger, .tag, .disp, .lsw, .upd, .pwr] (State.eventFields ++
    State.recordFields ++ State.demandFields ++ State.cableFields ++
    [R.CASK_STAT_LATE, R.AFE_CH_STAT_EYE_ERR, R.FILT_STAT_OVF_STAGE, R.FILT_STAT_OVF_CNT, R.MET_ENERGY_COUNT, R.MET_SESS_SESSION_ID, R.MET_SESS_OPEN, R.MET_SESS_CLOSED_PENDING, R.MET_SESS_T_OPEN, R.MET_SESS_A_IMP, R.MET_SESS_A_EXP, R.MET_PULSE_BACKLOG, R.LEDGER_STAT_COMMIT_FAIL, R.LEDGER_STAT_LAST_POUR_OK, R.LEDGER_LASTPOUR_L_MTB, R.LEDGER_LASTPOUR_L_UTC, R.LEDGER_LASTPOUR_DURATION_US, R.OUT_STAT_SESSION_ID, R.SAFE_STATUS_SAFE_OK, R.SAFE_STATUS_SHUNT, R.SAFE_COIL_STAT_LOAD_BREAKS, R.SAFE_COIL_STAT_TESTS_SKIPPED, R.DISP_STAT_SCANNING, R.DISP_STAT_RECOVERING, R.DISP_STAT_ABANDONED, R.LSW_STAT_STATE, R.UPD_STAT_HOLDER, R.UPD_STAT_RECEIVED, R.UPD_STAT_TOTAL, R.UPD_STAT_STATE, R.UPD_STAT_LAST_STATUS, R.UPD_BOOT_ACTIVE_GEN, R.UPD_BOOT_PTR_GEN, R.UPD_BOOT_ACTIVE_SLOT, R.UPD_BOOT_BOOT_STATE, R.UPD_BOOT_TRIAL_STARTS, R.UPD_BOOT_TRIAL_S]) u) ∧
  (∀ (s : State) (t : Nat), ∃ u, exec (.trialTimeout t) s = .next u ∧
    s.leaves [.fresh, .phase, .settings, .host, .cask, .out, .safe, .filt, .met, .ledger, .tag, .disp, .lsw, .upd, .pwr] (State.eventFields ++
    State.recordFields ++ State.demandFields ++ State.endingFields ++ State.openingFields ++ State.pilotFields ++
    [R.CASK_STAT_LATE, R.AFE_CH_STAT_EYE_ERR, R.FILT_STAT_OVF_STAGE, R.FILT_STAT_OVF_CNT, R.MET_ENERGY_COUNT, R.MET_SESS_SESSION_ID, R.MET_SESS_T_OPEN, R.MET_SESS_A_IMP, R.MET_SESS_A_EXP, R.MET_PULSE_BACKLOG, R.LEDGER_STAT_COMMIT_FAIL, R.LEDGER_STAT_LAST_POUR_OK, R.LEDGER_LASTPOUR_L_MTB, R.LEDGER_LASTPOUR_L_UTC, R.LEDGER_LASTPOUR_DURATION_US, R.SAFE_STATUS_SAFE_OK, R.SAFE_STATUS_SHUNT, R.DISP_STAT_SCANNING, R.DISP_STAT_RECOVERING, R.DISP_STAT_ABANDONED, R.LSW_STAT_STATE, R.UPD_STAT_RECEIVED, R.UPD_STAT_TOTAL, R.UPD_STAT_STATE, R.UPD_STAT_LAST_STATUS, R.UPD_BOOT_ACTIVE_GEN, R.UPD_BOOT_PTR_GEN, R.UPD_BOOT_ACTIVE_SLOT, R.UPD_BOOT_BOOT_STATE, R.UPD_BOOT_SETTINGS_VER]) u) ∧
  (∀ (s : State) (t mode : Nat), ∃ u, exec (.svcActivate t mode) s = .next u ∧
    s.leaves [.fresh, .host, .cask, .out, .safe, .met, .ledger, .tag, .disp, .upd] (State.eventFields ++
    State.recordFields ++ State.endingFields ++ State.pilotFields ++
    [R.HOST_SYNC_LAST_COMPLETED, R.CASK_STAT_ABORTED, R.UPD_STAT_STATE, R.UPD_STAT_LAST_STATUS]) u) ∧
  (∀ (s : State) (t : Nat), ∃ u, exec (.svcRevert t) s = .next u ∧
    s.leaves [.fresh, .phase, .settings, .host, .cask, .out, .safe, .filt, .met, .ledger, .tag, .disp, .lsw, .upd, .pwr] (State.eventFields ++
    State.recordFields ++ State.demandFields ++ State.endingFields ++ State.openingFields ++ State.pilotFields ++
    [R.CASK_STAT_LATE, R.AFE_CH_STAT_EYE_ERR, R.FILT_STAT_OVF_STAGE, R.FILT_STAT_OVF_CNT, R.MET_ENERGY_COUNT, R.MET_SESS_SESSION_ID, R.MET_SESS_T_OPEN, R.MET_SESS_A_IMP, R.MET_SESS_A_EXP, R.MET_PULSE_BACKLOG, R.LEDGER_STAT_COMMIT_FAIL, R.LEDGER_STAT_LAST_POUR_OK, R.LEDGER_LASTPOUR_L_MTB, R.LEDGER_LASTPOUR_L_UTC, R.LEDGER_LASTPOUR_DURATION_US, R.SAFE_STATUS_SAFE_OK, R.SAFE_STATUS_SHUNT, R.DISP_STAT_SCANNING, R.DISP_STAT_RECOVERING, R.DISP_STAT_ABANDONED, R.LSW_STAT_STATE, R.UPD_STAT_RECEIVED, R.UPD_STAT_TOTAL, R.UPD_STAT_STATE, R.UPD_STAT_LAST_STATUS, R.UPD_BOOT_ACTIVE_GEN, R.UPD_BOOT_PTR_GEN, R.UPD_BOOT_ACTIVE_SLOT, R.UPD_BOOT_BOOT_STATE, R.UPD_BOOT_SETTINGS_VER]) u) ∧
  (∀ (s : State) (t : Nat), ∃ u, exec (.twinActInFall t) s = .next u ∧ ∀ p,
    p ∉ ([.fresh, .host, .out, .ledger, .tag, .disp, .lsw, .twin] : List State.Part) → s.samePart u p) ∧
  (∀ (s : State) (t : Nat), ∃ u, exec (.twinActInRise t) s = .next u ∧
    s.leaves [.fresh, .host, .out, .safe, .ledger, .lsw, .twin] (State.eventFields ++ State.recordFields ++
    [R.MET_SESS_OPEN, R.SAFE_STATUS_SAFE_OK, R.LSW_STAT_STATE, R.TWIN_STAT_ROLE, R.TWIN_STAT_READY, R.TWIN_STAT_LAST_CAUSE]) u) ∧
  (∀ (s : State) (t : Nat), ∃ u, exec (.twinActConflict t) s = .next u ∧
    s.leaves [.fresh, .host, .out, .safe, .ledger, .lsw, .twin] (State.eventFields ++ State.recordFields ++
    [R.MET_SESS_OPEN, R.SAFE_STATUS_SAFE_OK, R.LSW_STAT_STATE, R.TWIN_STAT_ROLE, R.TWIN_STAT_READY, R.TWIN_STAT_LAST_CAUSE]) u) ∧
  (∀ (s : State) (t : Nat), ∃ u, exec (.twinTakeoverDone t) s = .next u ∧
    s.leaves [.fresh, .host, .out, .safe, .met, .ledger, .tag, .twin] (State.eventFields ++ State.recordFields ++
    State.endingFields ++ State.pilotFields ++
    [R.MET_SESS_SESSION_ID, R.MET_SESS_T_OPEN, R.MET_SESS_A_IMP, R.MET_SESS_A_EXP, R.TWIN_STAT_ROLE, R.TWIN_STAT_READY, R.TWIN_STAT_LAST_CAUSE, R.TWIN_STAT_TAKEOVERS]) u) ∧
  (∀ (s : State) (t r : Nat) (ov : Bool) (mv : Int) (us : Nat) (feed : List Feed) (whole : Bool), ∃ u,
    exec (.railOutOfLimits t r ov mv us feed whole) s = .next u ∧
    s.leaves [.fresh, .phase, .host, .cask, .out, .safe, .afe, .filt, .met, .ledger, .tag, .disp, .lsw, .pwr] (State.eventFields ++
    State.recordFields ++ State.demandFields ++ State.openingFields ++
    [R.GLOBAL_MTB_UTC_RTC_VALID, R.CASK_STAT_LATE, R.AFE_CH_STAT_PRESENT, R.AFE_CH_STAT_EYE_ERR, R.AFE_SCAN_STAT_FALLBACKS, R.FILT_STAT_PRESENT, R.FILT_STAT_OVF_STAGE, R.FILT_STAT_OVF_CNT, R.FILT_TRK_STAT_STATE, R.FILT_TRK_STAT_UNLOCKS, R.FILT_TRK_ZC_START, R.FILT_TRK_NEXT_START, R.FILT_TRK_PER_PERIOD_NS, R.MET_CFG_STATE, R.MET_TOTAL_FREQ_1S, R.MET_TOTAL_FREQ_10S, R.MET_ENERGY_COUNT, R.MET_SESS_SESSION_ID, R.MET_SESS_OPEN, R.MET_SESS_CLOSED_PENDING, R.MET_SESS_T_OPEN, R.MET_SESS_A_IMP, R.MET_SESS_A_EXP, R.MET_PULSE_BACKLOG, R.LEDGER_TIME_CLOCK_VALID, R.LEDGER_STAT_COMMIT_FAIL, R.LEDGER_STAT_LAST_POUR_OK, R.LEDGER_LASTPOUR_L_MTB, R.LEDGER_LASTPOUR_L_UTC, R.LEDGER_LASTPOUR_DURATION_US, R.OUT_STAT_SESSION_ID, R.SAFE_STATUS_SAFE_OK, R.SAFE_STATUS_SHUNT, R.DISP_STAT_SCANNING, R.DISP_STAT_RECOVERING, R.DISP_STAT_ABANDONED, R.LSW_STAT_STATE, R.LSW_BANK_VLS_MV, R.LSW_BANK_UV, R.PWR_STAT_VIN_10MV, R.PWR_STAT_VBAT_LOW, R.PWR_STAT_VBAT_MV, R.PWR_RAIL_V_10MV, R.PWR_RAIL_UV, R.PWR_RAIL_OV, R.PWR_RAIL_EVENTS]) u) ∧
  (∀ (s : State) (t r : Nat) (mv : Int) (us : Nat), ∃ u, exec (.railRestored t r mv us) s = .next u ∧
    s.leaves [.host, .afe, .filt, .met, .ledger] (State.eventFields ++ State.recordFields ++
    [R.AFE_CH_STAT_PRESENT, R.AFE_SCAN_STAT_FALLBACKS, R.FILT_STAT_PRESENT, R.FILT_TRK_STAT_STATE, R.FILT_TRK_STAT_UNLOCKS, R.FILT_TRK_ZC_START, R.FILT_TRK_NEXT_START, R.FILT_TRK_PER_PERIOD_NS, R.MET_CFG_STATE, R.MET_TOTAL_FREQ_1S, R.MET_TOTAL_FREQ_10S, R.PWR_STAT_VIN_10MV, R.PWR_STAT_VBAT_LOW, R.PWR_STAT_VBAT_MV, R.PWR_RAIL_V_10MV, R.PWR_RAIL_UV, R.PWR_RAIL_OV]) u) ∧
  (∀ (s : State) (t k : Nat) (celsius : Int), ∃ u, exec (.tempLevelChange t k celsius) s = .next u ∧
    s.leaves [.fresh, .host, .out, .safe, .met, .ledger, .plc, .tag, .disp] (State.eventFields ++
    State.recordFields ++ State.endingFields ++ State.cableFields ++ State.pilotFields ++
    [R.GLOBAL_ALERT_TEMP, R.SAFE_COIL_STAT_LOAD_BREAKS, R.DISP_STAT_SCANNING, R.PWR_STAT_THROTTLE, R.PWR_STAT_SHUT, R.PWR_TEMP_T, R.PWR_TEMP_T_MAX, R.PWR_TEMP_LEVEL]) u) ∧
  (∀ (s : State) (t : Nat) (feed : List Feed), ∃ u, exec (.xtal25Fail t feed) s = .next u ∧
    s.leaves [.phase, .host, .cask, .out, .safe, .filt, .met, .ledger, .tag, .disp, .lsw, .pwr] (State.eventFields ++
    State.recordFields ++ State.demandFields ++ State.openingFields ++
    [R.GLOBAL_ALERT_SAFE_CHANGE, R.CASK_STAT_LATE, R.AFE_CH_STAT_EYE_ERR, R.FILT_STAT_OVF_STAGE, R.FILT_STAT_OVF_CNT, R.MET_ENERGY_COUNT, R.MET_SESS_SESSION_ID, R.MET_SESS_OPEN, R.MET_SESS_CLOSED_PENDING, R.MET_SESS_T_OPEN, R.MET_SESS_A_IMP, R.MET_SESS_A_EXP, R.MET_PULSE_BACKLOG, R.LEDGER_STAT_COMMIT_FAIL, R.LEDGER_STAT_LAST_POUR_OK, R.LEDGER_LASTPOUR_L_MTB, R.LEDGER_LASTPOUR_L_UTC, R.OUT_STAT_SESSION_ID, R.SAFE_STATUS_SAFE_OK, R.SAFE_STATUS_B_RUN, R.SAFE_STATUS_SHUNT, R.DISP_STAT_SCANNING, R.DISP_STAT_RECOVERING, R.DISP_STAT_ABANDONED, R.LSW_STAT_STATE, R.PWR_CLK_XTAL25_OK]) u) ∧
  (∀ (s : State) (t : Nat) (off : Nat) (value : Nat) (wide part bar4 : Bool), ∃ u,
    exec (.registerWrite t off value wide part bar4) s = .next u ∧ ∀ p,
    p ∉ ([.fresh, .settings, .host, .cask, .out, .safe, .afe, .filt, .met, .ledger, .plc, .tag, .disp, .lsw, .twin] : List State.Part) →
    s.samePart u p) ∧
  (∀ (s : State) (t : Nat) (op mask : Nat), ∃ u, exec (.twinForwardedStop t op mask) s = .next u ∧
    s.leaves [.fresh, .host, .cask, .out, .safe, .met, .ledger, .tag, .disp, .twin] (State.eventFields ++
    State.recordFields ++ State.endingFields ++ State.openingFields ++ State.pilotFields ++
    [R.HOST_SYNC_LAST_COMPLETED]) u)
end

