-- ==== Sys2Proof/Laws/Tab.lean ====
section
/-! SUPPORT. The laws of sparse tables: a read after a write, and the canonical form along writes. -/

namespace Sys2Proof

namespace Machine

variable {α : Type}

theorem lookup_insertCell (d : α) (k j : Nat) (v : α) (l : List (Nat × α)) (hk : ∀ c ∈ l, c.1 ≠ k) :
    lookup d j (insertCell k v l) = if j = k then v else lookup d j l := by
  induction l with
  | nil =>
    by_cases h : k = j
    · simp [insertCell, lookup, h]
    · simp [insertCell, lookup, h, Ne.symm h]
  | cons c r ih =>
    have hc : c.1 ≠ k := hk c (by simp)
    have hr : ∀ c ∈ r, c.1 ≠ k := fun c h => hk c (by simp [h])
    obtain ⟨i, x⟩ := c
    simp only [insertCell]
    split
    · by_cases h : k = j
      · simp [lookup, h]
      · simp [lookup, h, Ne.symm h]
    · by_cases h : i = j
      · subst h; simp only [lookup, if_true]; simp at hc; simp [hc]
      · simp only [lookup, h, if_false]; exact ih hr

theorem lookup_filter (d : α) (k j : Nat) (l : List (Nat × α)) :
    lookup d j (l.filter fun c => c.1 != k) = if j = k then d else lookup d j l := by
  induction l with
  | nil => simp [lookup]
  | cons c r ih =>
    obtain ⟨i, x⟩ := c
    by_cases h : i = k
    · subst h
      simp only [List.filter, bne_self_eq_false]
      rw [ih]
      by_cases hj : j = i
      · simp [hj]
      · simp [hj, lookup, Ne.symm hj]
    · have : (i != k) = true := by simp [h]
      simp only [List.filter, this, lookup]
      rw [ih]
      by_cases hj : i = j
      · subst hj; simp [h]
      · simp [hj]

theorem insertCell_mem {k : Nat} {v : α} {l : List (Nat × α)} {c : Nat × α} (h : c ∈ insertCell k v l) :
    c = (k, v) ∨ c ∈ l := by
  induction l with
  | nil => simp [insertCell] at h; exact .inl h
  | cons a r ih =>
    simp only [insertCell] at h
    split at h
    · simpa using h
    · rcases List.mem_cons.1 h with h | h
      · exact .inr (by simp [h])
      · rcases ih h with h | h
        · exact .inl h
        · exact .inr (by simp [h])

theorem insertCell_sorted {k : Nat} {v : α} {l : List (Nat × α)} (hl : (l.map (·.1)).Pairwise (· < ·))
    (hk : ∀ c ∈ l, c.1 ≠ k) : ((insertCell k v l).map (·.1)).Pairwise (· < ·) := by
  induction l with
  | nil => simp [insertCell]
  | cons c r ih =>
    obtain ⟨i, x⟩ := c
    simp only [List.map_cons, List.pairwise_cons, List.mem_map] at hl
    have hi : i ≠ k := hk (i, x) (by simp)
    simp only [insertCell]
    split
    · rename_i hlt
      simp only [List.map_cons, List.pairwise_cons, List.mem_cons, List.mem_map]
      refine ⟨?_, ?_, hl.2⟩
      · rintro a (rfl | ⟨b, hb, rfl⟩)
        · exact hlt
        · exact lt_trans hlt (hl.1 _ ⟨b, hb, rfl⟩)
      · rintro a ⟨b, hb, rfl⟩; exact hl.1 _ ⟨b, hb, rfl⟩
    · rename_i hge
      simp only [List.map_cons, List.pairwise_cons, List.mem_map]
      refine ⟨?_, ih hl.2 fun c h => hk c (by simp [h])⟩
      rintro a ⟨b, hb, rfl⟩
      rcases insertCell_mem hb with h | h
      · subst h; simp; omega
      · exact hl.1 _ ⟨b, h, rfl⟩

theorem filter_sorted {l : List (Nat × α)} (p : Nat × α → Bool) (hl : (l.map (·.1)).Pairwise (· < ·)) :
    ((l.filter p).map (·.1)).Pairwise (· < ·) :=
  hl.sublist (List.filter_sublist.map _)

end Machine

namespace Tab

variable {α : Type} [DecidableEq α]

/-- A read after a write. -/
@[simp] theorem get_put (t : Tab α) (d : α) (k j : Nat) (v : α) :
    (t.put d k v).get d j = if j = k then v else t.get d j := by
  unfold put get
  split
  · rename_i h; subst h; exact Machine.lookup_filter _ _ _ _
  · rw [Machine.lookup_insertCell _ _ _ _ _ (by simp), Machine.lookup_filter]
    by_cases h : j = k <;> simp [h]

/-- A write leaves every other key as it is, whatever the keys' defaults. -/
theorem get_put_ne (t : Tab α) (d e : α) {k j : Nat} (v : α) (h : j ≠ k) : (t.put d k v).get e j = t.get e j := by
  unfold put get
  split
  · rw [Machine.lookup_filter, if_neg h]
  · rw [Machine.lookup_insertCell _ _ _ _ _ (by simp), if_neg h, Machine.lookup_filter, if_neg h]

theorem sorted_iff (t : Tab α) : t.sorted = true ↔ (t.cells.map (·.1)).Pairwise (· < ·) := by simp [sorted]

/-- Every write keeps the keys rising. -/
theorem sorted_put {t : Tab α} (d : α) (k : Nat) (v : α) (h : t.sorted = true) : (t.put d k v).sorted = true := by
  rw [sorted_iff] at h ⊢
  unfold put
  split
  · exact Machine.filter_sorted _ h
  · exact Machine.insertCell_sorted (Machine.filter_sorted _ h) (by simp)

/-- Every write keeps the canonical form. -/
theorem wf_put {t : Tab α} (d : α) (k : Nat) (v : α) (h : t.wf d = true) : (t.put d k v).wf d = true := by
  simp only [wf, Bool.and_eq_true] at h ⊢
  refine ⟨sorted_put d k v h.1, ?_⟩
  have hd := h.2
  simp only [List.all_eq_true, bne_iff_ne, ne_eq] at hd ⊢
  unfold put
  split
  · intro c hc
    exact hd c (List.mem_filter.1 hc).1
  · rename_i hv
    intro c hc
    rcases Machine.insertCell_mem hc with h | h
    · subst h; exact hv
    · exact hd c (List.mem_filter.1 h).1

/-- The empty table is in canonical form. -/
theorem wf_empty (d : α) : (Tab.empty : Tab α).wf d = true := rfl

end Tab
end Sys2Proof
end

