-- ==== Sys2Proof/Laws/Keep.lean ====
section
/-! SUPPORT. The queue and the standing invariant along the operations: how to show for an operation, once, that it
leaves both as they are. -/

namespace Sys2Proof.Machine

/-- The queue is `q` and the invariant holds. -/
def State.Kept (q : List Instr) (s : State) : Prop := s.pending = q ∧ s.Inv

/-- An outcome keeps the queue and the invariant: its next state does. -/
def OutKept (q : List Instr) : Host.Outcome State Fault Refusal → Prop
  | .next t => State.Kept q t
  | _ => True

namespace State

variable {q : List Instr} {s t : State} {α β : Type}

theorem kept_next (h : Kept q t) : OutKept q (.next t) := h

/-- A state with the same queue, accumulator and registers. -/
theorem kept_same (h : Kept q s) (hp : t.pending = s.pending) (ha : t.mtbAcc = s.mtbAcc) (hr : t.regs = s.regs) : Kept q t :=
  ⟨hp.trans h.1, ha ▸ h.2.1, hr ▸ h.2.2⟩

theorem kept_let {a : State} {b : State → State} (ha : Kept q a) (hb : ∀ s, Kept q s → Kept q (b s)) :
    Kept q (let s := a; b s) := hb a ha

theorem kept_let1 {a : State} {b : State → α × State} (ha : Kept q a) (hb : ∀ s, Kept q s → Kept q (b s).2) :
    Kept q (let s := a; b s).2 := hb a ha

theorem kept_letv {a : β} {b : β → State} (hb : ∀ v, Kept q (b v)) : Kept q (let v := a; b v) := hb a

theorem kept_letv1 {a : β} {b : β → α × State} (hb : ∀ v, Kept q (b v).2) : Kept q (let v := a; b v).2 := hb a

theorem kept_snd {e : α × State} {a : α} {b : State} (he : e = (a, b)) (h : Kept q e.2) : Kept q b := by
  rw [he] at h; exact h

theorem kept_fst {e : State × α} {a : α} {b : State} (he : e = (b, a)) (h : Kept q e.1) : Kept q b := by
  rw [he] at h; exact h

theorem kept_thd {e : α × β × State} {a : α} {c : β} {b : State} (he : e = (a, c, b)) (h : Kept q e.2.2) : Kept q b := by
  rw [he] at h; exact h

theorem kept_forEach {f : α → State → State} (hf : ∀ x s, Kept q s → Kept q (f x s)) :
    ∀ (xs : List α) (s : State), Kept q s → Kept q (forEach xs f s)
  | [], _, h => h
  | x :: xs, s, h => kept_forEach hf xs (f x s) (hf x s h)

/-- As `kept_forEach`, for an operation that carries something beside the state. -/
theorem kept_forEach1 {f : α → β × State → β × State} (hf : ∀ x p, Kept q p.2 → Kept q (f x p).2) :
    ∀ (xs : List α) (p : β × State), Kept q p.2 → Kept q (forEach xs f p).2
  | [], _, h => h
  | x :: xs, p, h => kept_forEach1 hf xs (f x p) (hf x p h)

theorem kept_foldl {f : State → α → State} (hf : ∀ s x, Kept q s → Kept q (f s x)) :
    ∀ (xs : List α) (s : State), Kept q s → Kept q (xs.foldl f s)
  | [], _, h => h
  | x :: xs, s, h => kept_foldl hf xs (f s x) (hf s x h)

theorem kept_foldl1 {f : β × State → α → β × State} (hf : ∀ p x, Kept q p.2 → Kept q (f p x).2) :
    ∀ (xs : List α) (p : β × State), Kept q p.2 → Kept q (xs.foldl f p).2
  | [], _, h => h
  | x :: xs, p, h => kept_foldl1 hf xs (f p x) (hf p x h)

theorem kept_when {c : Bool} {f : State → State} (hf : ∀ s, Kept q s → Kept q (f s)) (h : Kept q s) :
    Kept q (when c f s) := by
  unfold when
  split
  · exact hf s h
  · exact h

theorem kept_foldl0 {f : State × β → α → State × β} (hf : ∀ p x, Kept q p.1 → Kept q (f p x).1) :
    ∀ (xs : List α) (p : State × β), Kept q p.1 → Kept q (xs.foldl f p).1
  | [], _, h => h
  | x :: xs, p, h => kept_foldl0 hf xs (f p x) (hf p x h)

theorem kept_ite {c : Prop} [Decidable c] {a b : State} (ha : Kept q a) (hb : Kept q b) : Kept q (if c then a else b) := by
  split
  · exact ha
  · exact hb

theorem kept_ite0 {c : Prop} [Decidable c] {a b : State × β} (ha : Kept q a.1) (hb : Kept q b.1) :
    Kept q (if c then a else b).1 := by
  split
  · exact ha
  · exact hb

theorem kept_ite1 {c : Prop} [Decidable c] {a b : β × State} (ha : Kept q a.2) (hb : Kept q b.2) :
    Kept q (if c then a else b).2 := by
  split
  · exact ha
  · exact hb

theorem kept_ite2 {c : Prop} [Decidable c] {a b : α × β × State} (ha : Kept q a.2.2) (hb : Kept q b.2.2) :
    Kept q (if c then a else b).2.2 := by
  split
  · exact ha
  · exact hb

theorem kept_iteo {c : Prop} [Decidable c] {a b : Host.Outcome State Fault Refusal} (ha : OutKept q a) (hb : OutKept q b) :
    OutKept q (if c then a else b) := by
  split
  · exact ha
  · exact hb

theorem kept_let0 {a : State} {b : State → State × α} (ha : Kept q a) (hb : ∀ s, Kept q s → Kept q (b s).1) :
    Kept q (let s := a; b s).1 := hb a ha

theorem kept_letv0 {a : β} {b : β → State × α} (hb : ∀ v, Kept q (b v).1) : Kept q (let v := a; b v).1 := hb a

theorem kept_let2 {a : State} {b : State → α × β × State} (ha : Kept q a) (hb : ∀ s, Kept q s → Kept q (b s).2.2) :
    Kept q (let s := a; b s).2.2 := hb a ha

theorem kept_letv2 {γ : Type} {a : γ} {b : γ → α × β × State} (hb : ∀ v, Kept q (b v).2.2) : Kept q (let v := a; b v).2.2 := hb a

theorem kept_letp {a : α × State} {b : α × State → State} (ha : Kept q a.2) (hb : ∀ p, Kept q p.2 → Kept q (b p)) :
    Kept q (let p := a; b p) := hb a ha

theorem kept_letp1 {a : α × State} {b : α × State → β × State} (ha : Kept q a.2) (hb : ∀ p, Kept q p.2 → Kept q (b p).2) :
    Kept q (let p := a; b p).2 := hb a ha

theorem kept_letq {a : State × α} {b : State × α → State} (ha : Kept q a.1) (hb : ∀ p, Kept q p.1 → Kept q (b p)) :
    Kept q (let p := a; b p) := hb a ha

theorem kept_letf3 {γ : Type} {a : α → γ → State → State} {b : (α → γ → State → State) → State}
    (ha : ∀ x y s, Kept q s → Kept q (a x y s))
    (hb : ∀ f : α → γ → State → State, (∀ x y s, Kept q s → Kept q (f x y s)) → Kept q (b f)) : Kept q (let f := a; b f) := hb a ha

/-- A function of a state bound by a let keeps what it is applied to. -/
theorem kept_letf {a : State → State} {b : (State → State) → State} (ha : ∀ s, Kept q s → Kept q (a s))
    (hb : ∀ f : State → State, (∀ s, Kept q s → Kept q (f s)) → Kept q (b f)) : Kept q (let f := a; b f) := hb a ha

theorem kept_letf1 {a : α → State → State} {b : (α → State → State) → State} (ha : ∀ x s, Kept q s → Kept q (a x s))
    (hb : ∀ f : α → State → State, (∀ x s, Kept q s → Kept q (f x s)) → Kept q (b f)) : Kept q (let f := a; b f) := hb a ha

theorem kept_letf2 {a : State → α → State} {b : (State → α → State) → State} (ha : ∀ s x, Kept q s → Kept q (a s x))
    (hb : ∀ f : State → α → State, (∀ s x, Kept q s → Kept q (f s x)) → Kept q (b f)) : Kept q (let f := a; b f) := hb a ha

theorem kept_leto {a : State} {b : State → Host.Outcome State Fault Refusal} (ha : Kept q a)
    (hb : ∀ s, Kept q s → OutKept q (b s)) : OutKept q (let s := a; b s) := hb a ha

theorem kept_letvo {a : β} {b : β → Host.Outcome State Fault Refusal} (hb : ∀ v, OutKept q (b v)) :
    OutKept q (let v := a; b v) := hb a

theorem kept_have {P : Prop} (s : State) (hs : Kept q s) (h : Kept q s → P) : P := h hs

/-- A record update that leaves the queue, the registers and the accumulator alone. -/
theorem kept_upd {b : State} {m n : Nat} {ph : Phase} {st : Tab Nat} {h : HostSt} {ar : ArchSt} {c : CaskSt}
    {o : OutSt} {sf : SafeSt} {af : AfeSt} {fi : FiltSt} {me : MetSt} {l : LedgerSt} {k : KeySt} {pl : PlcSt} {tg : TagSt}
    {d : DispSt} {lw : LswSt} {u : UpdSt} {tw : TwinSt} {pw : PwrSt} (hb : Kept q b) :
    Kept q ⟨b.pending, b.regs, m, b.mtbAcc, n, ph, st, h, ar, c, o, sf, af, fi, me, l, k, pl, tg, d, lw, u, tw, pw⟩ := hb

theorem wr_kept {F : Fld} {n v : Nat} (h : Kept q s) : Kept q (s.wr F n v) := ⟨h.1, h.2.1, Tab.sorted_put _ _ _ h.2.2⟩
theorem toReset_kept {F : Fld} {n : Nat} (h : Kept q s) : Kept q (s.toReset F n) := ⟨h.1, h.2.1, Tab.sorted_put _ _ _ h.2.2⟩
theorem edges_kept {k : Nat} (h : Kept q s) : Kept q (s.edges k) := ⟨h.1, Nat.mod_lt _ (by decide), h.2.2⟩

theorem advance_kept {t : Nat} (h : Kept q s) : Kept q (s.advance t) := by
  unfold advance
  split
  · exact edges_kept h
  · exact h

end State

theorem onEvent_kept {q : List Instr} {s : State} {t : Nat} {f : State → State} (hf : ∀ s, State.Kept q s → State.Kept q (f s))
    (h : State.Kept q s) : State.Kept q (onEvent s t f) := by
  have ha := State.advance_kept (t := t) h
  simp only [onEvent]
  split
  · exact hf _ ha
  · exact ha

theorem onCore_kept {q : List Instr} {s : State} {t : Nat} {f : State → State} (hf : ∀ s, State.Kept q s → State.Kept q (f s))
    (h : State.Kept q s) : State.Kept q (onCore s t f) := by
  have ha := State.advance_kept (t := t) h
  simp only [onCore]
  split
  · exact hf _ ha
  · exact ha

end Sys2Proof.Machine
end

