-- ==== Sys2Proof/Laws/KeepHost.lean ====
section
/-! SUPPORT. What the register, event, completion and ring operations keep. -/

namespace Sys2Proof.Machine

theorem State.setFlag_kept {kq : List Instr} {s : State} {F : Fld} {n : Nat} {b : Bool} (hkq : State.Kept kq s) :
    State.Kept kq (State.setFlag s F n b) := by
  unfold State.setFlag; with_reducible refine State.wr_kept ?_; with_reducible assumption

theorem State.addSat_kept {kq : List Instr} {s : State} {F : Fld} {n : Nat} {k : Nat} (hkq : State.Kept kq s) :
    State.Kept kq (State.addSat s F n k) := by
  unfold State.addSat; with_reducible refine State.wr_kept ?_; with_reducible assumption

theorem State.incSat_kept {kq : List Instr} {s : State} {F : Fld} {n : Nat} (hkq : State.Kept kq s) : State.Kept kq
    (State.incSat s F n) := by
  unfold State.incSat; with_reducible refine State.addSat_kept ?_; with_reducible assumption

theorem State.wrInt_kept {kq : List Instr} {s : State} {F : Fld} {n : Nat} {z : Int} (hkq : State.Kept kq s) :
    State.Kept kq (State.wrInt s F n z) := by
  unfold State.wrInt; with_reducible refine State.wr_kept ?_; with_reducible assumption

theorem State.takeFree_kept {kq : List Instr} {s : State} (hkq : State.Kept kq s) : State.Kept kq (State.takeFree s).2
    := by
  unfold State.takeFree; dsimp only; with_reducible refine State.kept_upd ?_; with_reducible assumption

theorem State.irq_kept {kq : List Instr} {s : State} {v : Nat} (hkq : State.Kept kq s) : State.Kept kq (State.irq s v)
    := by
  unfold State.irq; refine State.kept_ite ?_ ?_; with_reducible refine State.kept_upd ?_; with_reducible assumption
  with_reducible assumption

theorem State.alert_kept {kq : List Instr} {s : State} {F : Fld} (hkq : State.Kept kq s) : State.Kept kq (State.alert
    s F) := by
  unfold State.alert; lift_lets -underBinder; intro v5; clear_value v5; intro v6
  refine State.kept_have (q := kq) v6 ?_ (fun hs => ?_); subst v6; with_reducible refine State.wr_kept ?_
  with_reducible assumption; clear_value v6; refine State.kept_ite ?_ ?_; with_reducible refine State.irq_kept ?_
  with_reducible assumption; with_reducible assumption

theorem State.notifSwap_kept {kq : List Instr} {s : State} (hkq : State.Kept kq s) : State.Kept kq (State.notifSwap s)
    := by
  unfold State.notifSwap; refine State.kept_ite ?_ ?_; with_reducible refine State.kept_upd ?_
  with_reducible assumption; with_reducible assumption

theorem State.notifPut_kept {kq : List Instr} {s : State} {w : Notif} (hkq : State.Kept kq s) : State.Kept kq
    (State.notifPut s w) := by
  unfold State.notifPut; lift_lets -underBinder; intro v5; clear_value v5; intro v6; clear_value v6; intro v7
  refine State.kept_have (q := kq) v7 ?_ (fun hs => ?_); subst v7; with_reducible refine State.kept_upd ?_
  with_reducible assumption; clear_value v7; refine State.kept_ite ?_ ?_; with_reducible refine State.kept_upd ?_
  with_reducible assumption; refine State.kept_ite ?_ ?_; with_reducible refine State.alert_kept (State.incSat_kept ?_)
  with_reducible assumption; with_reducible assumption

theorem State.notifIrq_kept {kq : List Instr} {s : State} (hkq : State.Kept kq s) : State.Kept kq (State.notifIrq s)
    := by
  unfold State.notifIrq; refine State.kept_ite ?_ ?_; with_reducible assumption; with_reducible refine State.irq_kept ?_
  with_reducible assumption

theorem State.notify_kept {kq : List Instr} {s : State} {w : Notif} (hkq : State.Kept kq s) : State.Kept kq
    (State.notify s w) := by
  unfold State.notify; with_reducible refine State.irq_kept (State.notifPut_kept (State.notifSwap_kept ?_))
  with_reducible assumption

theorem State.coalesce_kept {kq : List Instr} {s : State} {c : Nat} {vector : Nat} {cnt : Nat} {us : Nat} {now : Bool}
    (hkq : State.Kept kq s) : State.Kept kq (State.coalesce s c vector cnt us now) := by
  unfold State.coalesce; lift_lets -underBinder; intro v9; clear_value v9; intro v10; clear_value v10; intro v11
  clear_value v11; refine State.kept_ite ?_ ?_; with_reducible refine State.irq_kept (State.kept_upd ?_)
  with_reducible assumption; with_reducible refine State.kept_upd ?_; with_reducible assumption

theorem State.issueSeq_kept {kq : List Instr} {s : State} (hkq : State.Kept kq s) : State.Kept kq (State.issueSeq s).2
    := by
  unfold State.issueSeq; lift_lets -underBinder; intro v4; clear_value v4; intro v5; clear_value v5; intro v6
  refine State.kept_have (q := kq) v6 ?_ (fun hs => ?_); subst v6; with_reducible refine State.kept_upd ?_
  with_reducible assumption; clear_value v6; dsimp only; with_reducible refine State.wr_kept ?_
  with_reducible assumption

theorem State.journal_kept {kq : List Instr} {s : State} {e : Event} (hkq : State.Kept kq s) : State.Kept kq
    (State.journal s e) := by
  unfold State.journal; lift_lets -underBinder; intro v5; clear_value v5; intro v6; clear_value v6; intro v7
  clear_value v7; intro v8; clear_value v8; intro v9; refine State.kept_have (q := kq) v9 ?_ (fun hs => ?_); subst v9
  with_reducible refine State.kept_upd ?_; with_reducible assumption; intro v11
  refine State.kept_have (q := kq) v11 ?_ (fun hs => ?_); clear_value v9; subst v11
  with_reducible refine State.wr_kept ?_; with_reducible assumption; clear_value v9 v11; refine State.kept_ite ?_ ?_
  with_reducible refine State.alert_kept (State.incSat_kept ?_); with_reducible assumption; with_reducible assumption

theorem State.journalGot_kept {kq : List Instr} {s : State} (hkq : State.Kept kq s) : State.Kept kq (State.journalGot
    s) := by
  unfold State.journalGot; split; with_reducible refine State.kept_upd ?_; with_reducible assumption
  with_reducible assumption

theorem State.putEvent_kept {kq : List Instr} {s : State} {j : Nat} {e : Event} (hkq : State.Kept kq s) : State.Kept
    kq (State.putEvent s j e) := by
  unfold State.putEvent; lift_lets -underBinder; intro v6; clear_value v6; intro v7; clear_value v7; intro v8
  clear_value v8; intro v9; clear_value v9; intro v10; refine State.kept_have (q := kq) v10 ?_ (fun hs => ?_); subst v10
  with_reducible refine State.kept_upd ?_; with_reducible assumption; intro v12
  refine State.kept_have (q := kq) v12 ?_ (fun hs => ?_); clear_value v10; subst v12
  with_reducible refine State.journalGot_kept ?_; with_reducible assumption; intro v14
  refine State.kept_have (q := kq) v14 ?_ (fun hs => ?_); clear_value v10 v12; subst v14
  with_reducible refine State.notify_kept ?_; with_reducible assumption; clear_value v10 v12 v14
  with_reducible refine State.coalesce_kept ?_; with_reducible assumption

theorem State.deliver_kept {kq : List Instr} {s : State} {e : Event} (hkq : State.Kept kq s) : State.Kept kq
    (State.deliver s e) := by
  unfold State.deliver; refine State.kept_ite ?_ ?_; with_reducible assumption; split; with_reducible assumption
  lift_lets -underBinder; intro v10; clear_value v10; intro v11; clear_value v11; refine State.kept_ite ?_ ?_
  with_reducible refine State.putEvent_kept ?_; with_reducible assumption; with_reducible refine State.kept_upd ?_
  with_reducible assumption

theorem State.raise_kept {kq : List Instr} {s : State} {code : Nat} {inst : Nat} {payload : List Nat} (hkq :
    State.Kept kq s) : State.Kept kq (State.raise s code inst payload) := by
  unfold State.raise; split; lift_lets -underBinder; intro v13; clear_value v13
  with_reducible refine State.deliver_kept (State.journal_kept ?_)
  refine State.kept_snd (by with_reducible assumption) ?_; with_reducible refine State.issueSeq_kept ?_
  with_reducible assumption

theorem State.creditBack_kept {kq : List Instr} {s : State} {c : Option Nat} (hkq : State.Kept kq s) : State.Kept kq
    (State.creditBack s c) := by
  unfold State.creditBack; split; with_reducible assumption; refine State.kept_ite ?_ ?_
  with_reducible refine State.kept_upd ?_; with_reducible assumption; with_reducible refine State.kept_upd ?_
  with_reducible assumption

theorem State.setHist_kept {kq : List Instr} {s : State} {ring : Nat} {seq : Nat} {status : Nat} {dseq : Nat} (hkq :
    State.Kept kq s) : State.Kept kq (State.setHist s ring seq status dseq) := by
  unfold State.setHist; with_reducible refine State.kept_upd ?_; with_reducible assumption

theorem State.syncCompleted_kept {kq : List Instr} {s : State} {ring : Nat} (hkq : State.Kept kq s) : State.Kept kq
    (State.syncCompleted s ring) := by
  unfold State.syncCompleted; lift_lets -underBinder; intro v5; clear_value v5; intro v6; clear_value v6; intro v7
  clear_value v7; with_reducible refine State.wr_kept ?_; with_reducible assumption

theorem State.putCompletion_kept {kq : List Instr} {s : State} {c : Completion} {now : Bool} (hkq : State.Kept kq s) :
    State.Kept kq (State.putCompletion s c now) := by
  unfold State.putCompletion; lift_lets -underBinder; intro v6; clear_value v6; intro v7; clear_value v7; intro v8
  clear_value v8; intro v9; clear_value v9; intro v10; refine State.kept_have (q := kq) v10 ?_ (fun hs => ?_); subst v10
  with_reducible refine State.kept_upd ?_; with_reducible assumption; intro v12
  refine State.kept_have (q := kq) v12 ?_ (fun hs => ?_); clear_value v10; subst v12
  with_reducible refine State.notify_kept ?_; with_reducible assumption; clear_value v10 v12
  with_reducible refine State.coalesce_kept ?_; with_reducible assumption

theorem State.holdCompletion_kept {kq : List Instr} {s : State} {c : Completion} (hkq : State.Kept kq s) : State.Kept
    kq (State.holdCompletion s c) := by
  unfold State.holdCompletion; lift_lets -underBinder; intro v5; clear_value v5
  with_reducible refine State.journal_kept ?_; with_reducible assumption

theorem State.writeCompletion_kept {kq : List Instr} {s : State} {c : Completion} {now : Bool} (hkq : State.Kept kq s)
    : State.Kept kq (State.writeCompletion s c now) := by
  unfold State.writeCompletion; refine State.kept_ite ?_ ?_; with_reducible refine State.holdCompletion_kept ?_
  with_reducible assumption; refine State.kept_ite ?_ ?_; refine State.kept_ite ?_ ?_
  with_reducible refine State.putCompletion_kept ?_; with_reducible assumption; with_reducible refine State.kept_upd ?_
  with_reducible assumption; refine State.kept_ite ?_ ?_; with_reducible refine State.putCompletion_kept ?_
  with_reducible assumption; with_reducible refine State.kept_upd ?_; with_reducible assumption

theorem State.settleInfl_kept {kq : List Instr} {s : State} {ring : Nat} {seq : Nat} {accepted : Bool} (hkq :
    State.Kept kq s) : State.Kept kq (State.settleInfl s ring seq accepted) := by
  unfold State.settleInfl; with_reducible refine State.kept_upd ?_; with_reducible assumption

theorem State.complete_kept {kq : List Instr} {s : State} {x : Ctx} {status : Nat} {result : Nat} (hkq : State.Kept kq
    s) : State.Kept kq (State.complete s x status result) := by
  unfold State.complete; split; lift_lets -underBinder; intro v13; clear_value v13; intro v14
  refine State.kept_have (q := kq) v14 ?_ (fun hs => ?_); subst v14
  with_reducible refine State.creditBack_kept (State.settleInfl_kept ?_)
  refine State.kept_snd (by with_reducible assumption) ?_; with_reducible refine State.issueSeq_kept ?_
  with_reducible assumption; intro v16; refine State.kept_have (q := kq) v16 ?_ (fun hs => ?_); clear_value v14
  subst v16; with_reducible refine State.setHist_kept ?_; with_reducible assumption; intro v18
  refine State.kept_have (q := kq) v18 ?_ (fun hs => ?_); clear_value v14 v16; subst v18
  with_reducible refine State.syncCompleted_kept ?_; with_reducible assumption; clear_value v14 v16 v18
  with_reducible refine State.writeCompletion_kept ?_; with_reducible assumption

theorem State.finalise_kept {kq : List Instr} {s : State} {x : Ctx} {status : Nat} (hkq : State.Kept kq s) :
    State.Kept kq (State.finalise s x status) := by
  unfold State.finalise; with_reducible refine State.setHist_kept (State.settleInfl_kept ?_); with_reducible assumption

theorem State.finaliseOpt_kept {kq : List Instr} {s : State} {x : Option Ctx} {status : Nat} (hkq : State.Kept kq s) :
    State.Kept kq (State.finaliseOpt s x status) := by
  unfold State.finaliseOpt; split; with_reducible refine State.finalise_kept ?_; with_reducible assumption
  with_reducible assumption

theorem State.save_kept {kq : List Instr} {s : State} {F : Fld} {n : Nat} (hkq : State.Kept kq s) : State.Kept kq
    (State.save s F n) := by
  unfold State.save; refine State.kept_ite ?_ ?_; with_reducible refine State.kept_upd ?_; with_reducible assumption
  with_reducible assumption

theorem State.wrSave_kept {kq : List Instr} {s : State} {F : Fld} {n : Nat} {v : Nat} (hkq : State.Kept kq s) :
    State.Kept kq (State.wrSave s F n v) := by
  unfold State.wrSave; with_reducible refine State.save_kept (State.wr_kept ?_); with_reducible assumption

theorem State.giveBuffer_kept {kq : List Instr} {s : State} {data : List Nat} (hkq : State.Kept kq s) : State.Kept kq
    (State.giveBuffer s data) := by
  unfold State.giveBuffer; refine State.kept_ite ?_ ?_; with_reducible refine State.kept_upd ?_
  with_reducible assumption; with_reducible assumption

theorem State.setSlot_kept {kq : List Instr} {s : State} {k : Nat} {c : CaskSlot} (hkq : State.Kept kq s) : State.Kept
    kq (State.setSlot s k c) := by
  unfold State.setSlot; with_reducible refine State.kept_upd ?_; with_reducible assumption

theorem State.modSlot_kept {kq : List Instr} {s : State} {k : Nat} {f : CaskSlot → CaskSlot} (hkq : State.Kept kq s) :
    State.Kept kq (State.modSlot s k f) := by
  unfold State.modSlot; with_reducible refine State.setSlot_kept ?_; with_reducible assumption

theorem State.modNode_kept {kq : List Instr} {s : State} {p : List (List Byte)} {f : KNode → KNode} (hkq : State.Kept
    kq s) : State.Kept kq (State.modNode s p f) := by
  unfold State.modNode; with_reducible refine State.kept_upd ?_; with_reducible assumption

theorem State.setKeyMode_kept {kq : List Instr} {s : State} {m : Nat} {cause : Nat} (hkq : State.Kept kq s) :
    State.Kept kq (State.setKeyMode s m cause) := by
  unfold State.setKeyMode; lift_lets -underBinder; intro v6; clear_value v6; refine State.kept_ite ?_ ?_
  with_reducible assumption; with_reducible refine State.raise_kept (State.wr_kept ?_); with_reducible assumption

theorem State.reseed_kept {kq : List Instr} {s : State} (hkq : State.Kept kq s) : State.Kept kq (State.reseed s) := by
  unfold State.reseed; with_reducible refine State.incSat_kept (State.kept_upd ?_); with_reducible assumption

theorem State.drbgNext_kept {kq : List Instr} {s : State} {bits : Nat} (hkq : State.Kept kq s) : State.Kept kq
    (State.drbgNext s bits).2 := by
  unfold State.drbgNext; lift_lets -underBinder; intro v5; clear_value v5; intro v6; clear_value v6; intro v7
  clear_value v7; intro v8; refine State.kept_have (q := kq) v8 ?_ (fun hs => ?_); subst v8
  with_reducible refine State.kept_upd ?_; with_reducible assumption; clear_value v8; dsimp only
  refine State.kept_ite ?_ ?_; with_reducible refine State.reseed_kept ?_; with_reducible assumption
  with_reducible assumption

theorem State.cacheCounts_kept {kq : List Instr} {s : State} (hkq : State.Kept kq s) : State.Kept kq
    (State.cacheCounts s) := by
  unfold State.cacheCounts; with_reducible refine State.wr_kept (State.wr_kept (State.wr_kept ?_))
  with_reducible assumption

theorem State.useNode_kept {kq : List Instr} {s : State} {h : Nat} (hkq : State.Kept kq s) : State.Kept kq
    (State.useNode s h) := by
  unfold State.useNode; refine State.kept_ite ?_ ?_; with_reducible refine State.kept_upd ?_; with_reducible assumption
  split; lift_lets -underBinder; intro v11; clear_value v11; intro v12; clear_value v12; intro v13; clear_value v13
  intro v14; clear_value v14; intro v15; clear_value v15; intro v16
  refine State.kept_have (q := kq) v16 ?_ (fun hs => ?_); subst v16; with_reducible refine State.kept_upd ?_
  refine State.kept_snd (by with_reducible assumption) ?_; with_reducible refine State.drbgNext_kept ?_
  with_reducible assumption; clear_value v16; with_reducible refine State.cacheCounts_kept (State.incSat_kept ?_)
  with_reducible assumption

theorem State.clearKeys_kept {kq : List Instr} {s : State} (hkq : State.Kept kq s) : State.Kept kq (State.clearKeys s)
    := by
  unfold State.clearKeys; with_reducible refine State.cacheCounts_kept (State.kept_upd ?_); with_reducible assumption

theorem State.keyRecovery_kept {kq : List Instr} {s : State} {cause : Nat} (hkq : State.Kept kq s) : State.Kept kq
    (State.keyRecovery s cause) := by
  unfold State.keyRecovery; with_reducible refine State.setKeyMode_kept (State.wr_kept (State.clearKeys_kept ?_))
  with_reducible assumption

theorem State.regenerate_kept {kq : List Instr} {s : State} {ber : Option Nat} (hkq : State.Kept kq s) : State.Kept kq
    (State.regenerate s ber) := by
  unfold State.regenerate; lift_lets -underBinder; intro v5; refine State.kept_have (q := kq) v5 ?_ (fun hs => ?_)
  subst v5; with_reducible refine State.wr_kept ?_; with_reducible assumption; intro v7; clear_value v7; intro v8
  refine State.kept_have (q := kq) v8 ?_ (fun hs => ?_); clear_value v5; subst v8
  with_reducible refine State.kept_upd ?_; with_reducible assumption; clear_value v5 v8; split; lift_lets -underBinder
  intro v12; refine State.kept_have (q := kq) v12 ?_ (fun hs => ?_); subst v12
  with_reducible refine State.wr_kept (State.wr_kept ?_); with_reducible assumption; intro v14; clear_value v14
  intro v15; refine State.kept_have (q := kq) v15 ?_ (fun hs => ?_); clear_value v12; subst v15
  with_reducible refine State.kept_upd ?_; with_reducible assumption; intro v17
  refine State.kept_have (q := kq) v17 ?_ (fun hs => ?_); clear_value v12 v15; subst v17
  with_reducible refine State.wr_kept ?_; with_reducible assumption; intro v19
  refine State.kept_have (q := kq) v19 ?_ (fun hs => ?_); clear_value v12 v15 v17; subst v19
  refine State.kept_ite ?_ ?_; with_reducible refine State.raise_kept ?_; with_reducible assumption
  with_reducible assumption; clear_value v12 v15 v17 v19; with_reducible refine State.setKeyMode_kept ?_
  refine State.kept_forEach (fun x s h => ?_) _ _ ?_; with_reducible refine State.useNode_kept ?_
  with_reducible assumption; with_reducible assumption; refine State.kept_ite ?_ ?_
  with_reducible refine State.keyRecovery_kept ?_; with_reducible assumption; with_reducible assumption

theorem State.invalidate_kept {kq : List Instr} {s : State} {p : List (List Byte)} (hkq : State.Kept kq s) :
    State.Kept kq (State.invalidate s p).2 := by
  unfold State.invalidate; lift_lets -underBinder; intro v5; clear_value v5; intro v6
  refine State.kept_have (q := kq) v6 ?_ (fun hs => ?_); subst v6; with_reducible refine State.modNode_kept ?_
  with_reducible assumption; intro v8; clear_value v8; intro v9; clear_value v9 v6; dsimp only
  with_reducible refine State.kept_upd ?_; with_reducible assumption

theorem State.rederiveOne_kept {kq : List Instr} {s : State} {p : List (List Byte)} (hkq : State.Kept kq s) :
    State.Kept kq (State.rederiveOne s p) := by
  unfold State.rederiveOne; lift_lets -underBinder; intro v5; clear_value v5
  with_reducible refine State.modNode_kept ?_; with_reducible assumption

theorem State.rederive_kept {kq : List Instr} {s : State} {p : List (List Byte)} (hkq : State.Kept kq s) : State.Kept
    kq (State.rederive s p) := by
  unfold State.rederive; refine State.kept_forEach (fun x s h => ?_) _ _ ?_
  with_reducible refine State.rederiveOne_kept ?_; with_reducible assumption; with_reducible assumption

theorem State.ownerTook_kept {kq : List Instr} {s : State} {g : OwnerSig} (hkq : State.Kept kq s) : State.Kept kq
    (State.ownerTook s g) := by
  unfold State.ownerTook; with_reducible refine State.wr_kept ?_; with_reducible assumption

theorem State.dropArmed_kept {kq : List Instr} {s : State} {k : Nat} (hkq : State.Kept kq s) : State.Kept kq
    (State.dropArmed s k) := by
  unfold State.dropArmed; with_reducible refine State.kept_upd ?_; with_reducible assumption

theorem State.freeSlot_kept {kq : List Instr} {s : State} {k : Nat} {status : Nat} (hkq : State.Kept kq s) :
    State.Kept kq (State.freeSlot s k status) := by
  unfold State.freeSlot; with_reducible refine State.setSlot_kept (State.dropArmed_kept ?_); with_reducible assumption

theorem State.abortCask_kept {kq : List Instr} {s : State} {k : Nat} {status : Nat} {failIdx : Nat} {failIsland : Nat}
    {result : Nat} (hkq : State.Kept kq s) : State.Kept kq (State.abortCask s k status failIdx failIsland result) :=
    by
  unfold State.abortCask; lift_lets -underBinder; intro v9; clear_value v9; intro v10
  refine State.kept_have (q := kq) v10 ?_ (fun hs => ?_); subst v10; with_reducible refine State.incSat_kept ?_
  with_reducible assumption; intro v12; refine State.kept_have (q := kq) v12 ?_ (fun hs => ?_); clear_value v10
  subst v12; with_reducible refine State.raise_kept ?_; with_reducible assumption; intro v14
  refine State.kept_have (q := kq) v14 ?_ (fun hs => ?_); clear_value v10 v12; subst v14; split
  with_reducible refine State.complete_kept ?_; with_reducible assumption; with_reducible refine State.finalise_kept ?_
  with_reducible assumption; with_reducible assumption; clear_value v10 v12 v14
  with_reducible refine State.freeSlot_kept ?_; with_reducible assumption

theorem State.stage_kept {kq : List Instr} {s : State} {x : Ctx} {a : CaskAct} (hkq : State.Kept kq s) : State.Kept kq
    (State.stage s x a) := by
  unfold State.stage; split; with_reducible refine State.complete_kept ?_; with_reducible assumption
  lift_lets -underBinder; intro v11; clear_value v11; refine State.kept_ite ?_ ?_
  with_reducible refine State.complete_kept ?_; with_reducible assumption; refine State.kept_ite ?_ ?_
  with_reducible refine State.complete_kept ?_; with_reducible assumption
  with_reducible refine State.complete_kept (State.setSlot_kept ?_); with_reducible assumption

theorem State.islandStop_kept {kq : List Instr} {s : State} {i : Nat} (hkq : State.Kept kq s) : State.Kept kq
    (State.islandStop s i) := by
  unfold State.islandStop; with_reducible refine State.wr_kept (State.wr_kept (State.wr_kept ?_))
  with_reducible assumption

theorem State.islandGo_kept {kq : List Instr} {s : State} {i : Nat} (hkq : State.Kept kq s) : State.Kept kq
    (State.islandGo s i) := by
  unfold State.islandGo; with_reducible refine State.wr_kept (State.wr_kept (State.wr_kept ?_))
  with_reducible assumption

theorem State.wakeRun_kept {kq : List Instr} {s : State} {cause : Nat} (hkq : State.Kept kq s) : State.Kept kq
    (State.wakeRun s cause) := by
  unfold State.wakeRun; refine State.kept_ite ?_ ?_; lift_lets -underBinder; intro v5
  refine State.kept_have (q := kq) v5 ?_ (fun hs => ?_); subst v5; refine State.kept_forEach (fun x s h => ?_) _ _ ?_
  with_reducible refine State.islandGo_kept ?_; with_reducible assumption; with_reducible assumption; clear_value v5
  with_reducible refine State.raise_kept (State.wr_kept ?_); with_reducible assumption; with_reducible assumption

theorem State.startRing_kept {kq : List Instr} {s : State} {kind : RingKind} {i : Nat} (hkq : State.Kept kq s) :
    State.Kept kq (State.startRing s kind i) := by
  unfold State.startRing; split; lift_lets -underBinder; intro v7; clear_value v7; intro v8
  refine State.kept_have (q := kq) v8 ?_ (fun hs => ?_); subst v8; with_reducible refine State.kept_upd ?_
  with_reducible assumption; intro v10; clear_value v10; intro v11; clear_value v11; intro v12
  refine State.kept_have (q := kq) v12 ?_ (fun hs => ?_); clear_value v8; subst v12
  with_reducible refine State.kept_upd ?_; with_reducible assumption; clear_value v8 v12; refine State.kept_ite ?_ ?_
  with_reducible assumption; with_reducible refine State.wr_kept (State.wr_kept ?_); with_reducible assumption
  with_reducible refine State.kept_upd ?_; with_reducible assumption; with_reducible refine State.kept_upd ?_
  with_reducible assumption; with_reducible refine State.kept_upd ?_; with_reducible assumption

theorem State.writeFields_kept {kq : List Instr} {s : State} {fs : List Fld} {i : Nat} {image : Nat} (hkq : State.Kept
    kq s) : State.Kept kq (State.writeFields s fs i image) := by
  unfold State.writeFields; refine State.kept_forEach (fun x s h => ?_) _ _ ?_; with_reducible refine State.wr_kept ?_
  with_reducible assumption; with_reducible assumption

theorem State.writeRing_kept {kq : List Instr} {s : State} {kind : RingKind} {i : Nat} {image : Nat} (hkq : State.Kept
    kq s) : State.Kept kq (State.writeRing s kind i image) := by
  unfold State.writeRing; split; lift_lets -underBinder; intro v16; clear_value v16; intro v17; clear_value v17
  intro v18; clear_value v18; intro v19; refine State.kept_have (q := kq) v19 ?_ (fun hs => ?_); subst v19
  with_reducible refine State.writeFields_kept ?_; with_reducible assumption; intro v21; clear_value v21; intro v22
  clear_value v22; intro v23; refine State.kept_have (q := kq) v23 ?_ (fun hs => ?_); clear_value v19; subst v23
  with_reducible refine State.wr_kept ?_; with_reducible assumption; clear_value v19 v23; refine State.kept_ite ?_ ?_
  with_reducible refine State.wr_kept ?_; with_reducible assumption; refine State.kept_ite ?_ ?_
  with_reducible assumption; with_reducible refine State.startRing_kept ?_; with_reducible assumption

theorem State.settleDestroys_kept {kq : List Instr} {s : State} (hkq : State.Kept kq s) : State.Kept kq
    (State.settleDestroys s) := by
  unfold State.settleDestroys; refine State.kept_forEach (fun x s h => ?_) _ _ ?_; lift_lets -underBinder; intro v7
  clear_value v7; intro v8; clear_value v8; intro v9; refine State.kept_have (q := kq) v9 ?_ (fun hs => ?_); subst v9
  with_reducible refine State.kept_upd ?_; with_reducible assumption; clear_value v9; refine State.kept_ite ?_ ?_
  with_reducible assumption; with_reducible refine State.complete_kept (State.wr_kept ?_); with_reducible assumption
  with_reducible assumption

theorem State.start_kept {kq : List Instr} {s : State} {x : Ctx} (hkq : State.Kept kq s) : State.Kept kq (State.start
    s x) := by
  unfold State.start; with_reducible refine State.kept_upd ?_; with_reducible assumption

theorem State.command_kept {kq : List Instr} {s : State} {x : Ctx} {op : Nat} {inst : Nat} {act : Option CaskAct} {f :
    State → State} (hkq : State.Kept kq s) (hf : ∀ s, State.Kept kq s → State.Kept kq (f s)) : State.Kept kq
    (State.command s x op inst act f) := by
  unfold State.command; lift_lets -underBinder; intro v10; refine State.kept_have (q := kq) v10 ?_ (fun hs => ?_)
  subst v10; with_reducible refine State.advance_kept ?_; with_reducible assumption; intro v12
  refine State.kept_have (q := kq) v12 ?_ (fun hs => ?_); clear_value v10; subst v12
  with_reducible refine State.start_kept ?_; with_reducible assumption; intro v14
  refine State.kept_have (q := kq) v14 ?_ (fun hs => ?_); clear_value v10 v12; subst v14; refine State.kept_ite ?_ ?_
  with_reducible refine State.wakeRun_kept ?_; with_reducible assumption; with_reducible assumption; intro v16
  refine State.kept_have (q := kq) v16 ?_ (fun hs => ?_); clear_value v10 v12 v14; subst v16; split
  with_reducible refine State.complete_kept ?_; with_reducible assumption; split; refine hf _ ?_
  with_reducible assumption; refine State.kept_ite ?_ ?_; with_reducible refine State.complete_kept ?_
  with_reducible assumption; refine State.kept_ite ?_ ?_; with_reducible refine State.stage_kept ?_
  with_reducible assumption; split; with_reducible refine State.complete_kept ?_; with_reducible assumption
  refine hf _ ?_; with_reducible assumption; clear_value v10 v12 v14 v16; refine State.kept_ite ?_ ?_
  with_reducible assumption; with_reducible refine State.settleDestroys_kept ?_; with_reducible assumption

theorem State.creditTake_kept {kq : List Instr} {s : State} {c : Nat} (hkq : State.Kept kq s) : State.Kept kq
    (State.creditTake s c) := by
  unfold State.creditTake; refine State.kept_ite ?_ ?_; with_reducible refine State.kept_upd ?_
  with_reducible assumption; with_reducible refine State.kept_upd ?_; with_reducible assumption

theorem State.fetchNext_kept {kq : List Instr} {s : State} {x : Ctx} {i : Nat} {d : Desc} {credit : Option Nat} (hkq :
    State.Kept kq s) : State.Kept kq (State.fetchNext s x i d credit) := by
  unfold State.fetchNext; lift_lets -underBinder; intro v8; clear_value v8; intro v9
  refine State.kept_have (q := kq) v9 ?_ (fun hs => ?_); subst v9; with_reducible refine State.kept_upd ?_
  with_reducible assumption; intro v11; refine State.kept_have (q := kq) v11 ?_ (fun hs => ?_); clear_value v9
  subst v11; with_reducible refine State.setHist_kept (State.wr_kept ?_); with_reducible assumption; intro v13
  refine State.kept_have (q := kq) v13 ?_ (fun hs => ?_); clear_value v9 v11; subst v13
  with_reducible refine State.syncCompleted_kept ?_; with_reducible assumption; clear_value v9 v11 v13
  refine State.kept_ite ?_ ?_; with_reducible refine State.complete_kept ?_; with_reducible assumption
  refine State.kept_ite ?_ ?_; with_reducible refine State.complete_kept ?_; with_reducible assumption
  refine State.kept_ite ?_ ?_; with_reducible refine State.complete_kept ?_; with_reducible assumption
  refine State.kept_ite ?_ ?_; with_reducible refine State.complete_kept ?_; with_reducible assumption
  with_reducible assumption

theorem State.writeOther_kept {kq : List Instr} {s : State} {x : Ctx} {i : Nat} {d : Desc} {n : Nat} {old : Option
    Hist} (hkq : State.Kept kq s) : State.Kept kq (State.writeOther s x i d n old) := by
  unfold State.writeOther; split; with_reducible refine State.writeCompletion_kept ?_; with_reducible assumption
  with_reducible refine State.writeCompletion_kept ?_; with_reducible assumption

theorem State.fetchOther_kept {kq : List Instr} {s : State} {x : Ctx} {i : Nat} {d : Desc} {last : Nat} {credit :
    Option Nat} (hkq : State.Kept kq s) : State.Kept kq (State.fetchOther s x i d last credit) := by
  unfold State.fetchOther; split; with_reducible refine State.writeOther_kept (State.creditBack_kept ?_)
  refine State.kept_snd (by with_reducible assumption) ?_; with_reducible refine State.issueSeq_kept ?_
  with_reducible assumption

theorem State.fetchOne_kept {kq : List Instr} {s : State} {i : Nat} {d : Desc} (hkq : State.Kept kq s) : State.Kept kq
    (State.fetchOne s i d) := by
  unfold State.fetchOne; lift_lets -underBinder; intro v6; clear_value v6; intro v7; clear_value v7; intro v8
  clear_value v8; intro v9; refine State.kept_have (q := kq) v9 ?_ (fun hs => ?_); subst v9
  with_reducible refine State.kept_upd ?_; with_reducible assumption; intro v11; clear_value v11; intro v12
  refine State.kept_have (q := kq) v12 ?_ (fun hs => ?_); clear_value v9; subst v12; refine State.kept_ite ?_ ?_
  with_reducible assumption; with_reducible refine State.creditTake_kept ?_; with_reducible assumption; intro v14
  clear_value v14 v9 v12; refine State.kept_ite ?_ ?_; with_reducible refine State.fetchNext_kept ?_
  with_reducible assumption; with_reducible refine State.fetchOther_kept ?_; with_reducible assumption

theorem State.grant_kept {kq : List Instr} {s : State} {from0 : List Nat} {descs : List (List Desc)} (hkq : State.Kept
    kq s) : State.Kept kq (State.grant s from0 descs).1 := by
  unfold State.grant; lift_lets -underBinder; intro v6; clear_value v6; intro v7
  refine State.kept_have (q := kq) v7 ?_ (fun hs => ?_); subst v7; refine State.kept_ite ?_ ?_
  with_reducible assumption; with_reducible refine State.kept_upd ?_; with_reducible assumption; clear_value v7; split
  dsimp only; with_reducible assumption; split; dsimp only; with_reducible assumption; lift_lets -underBinder; intro v19
  clear_value v19; intro v20; refine State.kept_have (q := kq) v20 ?_ (fun hs => ?_); subst v20
  with_reducible refine State.kept_upd ?_; with_reducible assumption; clear_value v20; split; dsimp only
  with_reducible assumption; dsimp only; with_reducible refine State.fetchOne_kept ?_; with_reducible assumption

theorem State.grants_kept {kq : List Instr} {from0 : List Nat} {descs : List (List Desc)} :
    ∀ {k : Nat} {s : State}, State.Kept kq s → State.Kept kq (State.grants k from0 descs s)
  | 0, _, h => h
  | k + 1, s, h => by
    have hg := State.grant_kept (from0 := from0) (descs := descs) h
    simp only [State.grants]
    split
    · exact State.grants_kept hg
    · exact hg

theorem State.fetchRing_kept {kq : List Instr} {i from0 : Nat} {descs : List Desc} :
    ∀ {k : Nat} {s : State}, State.Kept kq s → State.Kept kq (State.fetchRing k i from0 descs s)
  | 0, _, h => h
  | k + 1, s, h => by
    simp only [State.fetchRing]
    split
    · split
      · exact State.fetchRing_kept (State.fetchOne_kept h)
      · exact h
    · exact h

theorem State.releaseStops_kept {kq : List Instr} : ∀ {k : Nat} {s : State}, State.Kept kq s → State.Kept kq (State.releaseStops k s)
  | 0, _, h => h
  | k + 1, s, h => by
    simp only [State.releaseStops]
    split
    · exact h
    · split
      · exact State.releaseStops_kept (State.putCompletion_kept h)
      · exact h

theorem State.releaseCompletions_kept {kq : List Instr} {s : State} (hkq : State.Kept kq s) : State.Kept kq
    (State.releaseCompletions s) := by
  unfold State.releaseCompletions; refine State.kept_ite ?_ ?_; with_reducible assumption; lift_lets -underBinder
  intro v4; clear_value v4; intro v5; clear_value v5; refine State.kept_forEach (fun x s h => ?_) _ _ ?_
  with_reducible refine State.writeCompletion_kept ?_; with_reducible assumption
  with_reducible refine State.kept_upd ?_; with_reducible assumption

theorem State.reportGap_kept {kq : List Instr} {s : State} {j : Nat} (hkq : State.Kept kq s) : State.Kept kq
    (State.reportGap s j) := by
  unfold State.reportGap; lift_lets -underBinder; intro v5; clear_value v5; refine State.kept_ite ?_ ?_; split
  lift_lets -underBinder; intro v12; clear_value v12; intro v13; refine State.kept_have (q := kq) v13 ?_ (fun hs => ?_)
  subst v13; with_reducible refine State.journal_kept ?_; refine State.kept_snd (by with_reducible assumption) ?_
  with_reducible refine State.issueSeq_kept ?_; with_reducible assumption; intro v15; clear_value v15 v13
  with_reducible refine State.putEvent_kept (State.kept_upd ?_); with_reducible assumption; with_reducible assumption

theorem State.coalesceDue_kept {kq : List Instr} {s : State} (hkq : State.Kept kq s) : State.Kept kq
    (State.coalesceDue s) := by
  unfold State.coalesceDue; refine State.kept_forEach (fun x s h => ?_) _ _ ?_; lift_lets -underBinder; intro v7
  clear_value v7; intro v8; clear_value v8; intro v9; clear_value v9; intro v10; clear_value v10
  refine State.kept_ite ?_ ?_; with_reducible refine State.irq_kept (State.kept_upd ?_); with_reducible assumption
  with_reducible assumption; with_reducible assumption

theorem State.modCable_kept {kq : List Instr} {s : State} {n : Nat} {f : CableTag → CableTag} (hkq : State.Kept kq s)
    : State.Kept kq (State.modCable s n f) := by
  unfold State.modCable; with_reducible refine State.kept_upd ?_; with_reducible assumption

theorem State.setJobs_kept {kq : List Instr} {s : State} {js : List CableJob} (hkq : State.Kept kq s) : State.Kept kq
    (State.setJobs s js) := by
  unfold State.setJobs; with_reducible refine State.wr_kept (State.kept_upd ?_); with_reducible assumption

theorem State.addJob_kept {kq : List Instr} {s : State} {j : CableJob} (hkq : State.Kept kq s) : State.Kept kq
    (State.addJob s j) := by
  unfold State.addJob; split; lift_lets -underBinder; intro v10; clear_value v10
  with_reducible refine State.setJobs_kept ?_; with_reducible assumption; with_reducible refine State.setJobs_kept ?_
  with_reducible assumption

theorem State.shadowGo_kept {kq : List Instr} {s : State} {n : Nat} (hkq : State.Kept kq s) : State.Kept kq
    (State.shadowGo s n) := by
  unfold State.shadowGo; lift_lets -underBinder; intro v5; clear_value v5; intro v6
  refine State.kept_have (q := kq) v6 ?_ (fun hs => ?_); subst v6
  with_reducible refine State.addJob_kept (State.wr_kept ?_); with_reducible assumption; intro v8
  refine State.kept_have (q := kq) v8 ?_ (fun hs => ?_); clear_value v6; subst v8
  with_reducible refine State.wr_kept (State.wr_kept ?_); with_reducible assumption; intro v10; clear_value v10
  intro v11; refine State.kept_have (q := kq) v11 ?_ (fun hs => ?_); clear_value v6 v8; subst v11
  with_reducible refine State.kept_upd ?_; with_reducible assumption; clear_value v6 v8 v11; refine State.kept_ite ?_ ?_
  with_reducible refine State.raise_kept ?_; with_reducible assumption; with_reducible assumption

theorem State.cableQueue_kept {kq : List Instr} {s : State} {n : Nat} (hkq : State.Kept kq s) : State.Kept kq
    (State.cableQueue s n) := by
  unfold State.cableQueue; refine State.kept_ite ?_ ?_; with_reducible assumption; lift_lets -underBinder; intro v5
  refine State.kept_have (q := kq) v5 ?_ (fun hs => ?_); subst v5; with_reducible refine State.addJob_kept ?_
  with_reducible assumption; clear_value v5; refine State.kept_ite ?_ ?_; with_reducible assumption
  with_reducible refine State.shadowGo_kept (State.incSat_kept ?_); with_reducible assumption

theorem State.cableEnd_kept {kq : List Instr} {s : State} {n : Nat} {wh : Nat} (hkq : State.Kept kq s) : State.Kept kq
    (State.cableEnd s n wh) := by
  unfold State.cableEnd; refine State.kept_ite ?_ ?_; with_reducible assumption
  with_reducible refine State.shadowGo_kept (State.addSat_kept (State.incSat_kept ?_)); with_reducible assumption

theorem State.cableOpening_kept {kq : List Instr} {s : State} {n : Nat} (hkq : State.Kept kq s) : State.Kept kq
    (State.cableOpening s n) := by
  unfold State.cableOpening; refine State.kept_ite ?_ ?_; with_reducible assumption
  with_reducible refine State.shadowGo_kept (State.incSat_kept ?_); with_reducible assumption

theorem State.cableRebind_kept {kq : List Instr} {s : State} {n : Nat} (hkq : State.Kept kq s) : State.Kept kq
    (State.cableRebind s n) := by
  unfold State.cableRebind; refine State.kept_ite ?_ ?_; with_reducible assumption
  with_reducible refine State.addJob_kept (State.modCable_kept ?_); with_reducible assumption

theorem State.resetHostRegs_kept {kq : List Instr} {s : State} (hkq : State.Kept kq s) : State.Kept kq
    (State.resetHostRegs s) := by
  unfold State.resetHostRegs; lift_lets -underBinder; intro v4; refine State.kept_have (q := kq) v4 ?_ (fun hs => ?_)
  subst v4; refine State.kept_forEach (fun x s h => ?_) _ _ ?_; with_reducible refine State.toReset_kept ?_
  with_reducible assumption; with_reducible assumption; clear_value v4
  refine State.kept_forEach (fun x s h => ?_) _ _ ?_; refine State.kept_forEach (fun x s h => ?_) _ _ ?_
  with_reducible refine State.toReset_kept ?_; with_reducible assumption; with_reducible assumption
  with_reducible assumption

theorem State.leaveStatus_kept {kq : List Instr} {s : State} (hkq : State.Kept kq s) : State.Kept kq
    (State.leaveStatus s) := by
  unfold State.leaveStatus; lift_lets -underBinder; intro v4; clear_value v4; intro v5; clear_value v5
  with_reducible refine State.kept_upd ?_; with_reducible assumption

theorem State.resetHostParts_kept {kq : List Instr} {s : State} (hkq : State.Kept kq s) : State.Kept kq
    (State.resetHostParts s) := by
  unfold State.resetHostParts; with_reducible refine State.kept_upd ?_; with_reducible assumption

theorem State.detach_kept {kq : List Instr} {s : State} {cause : DetachCause} (hkq : State.Kept kq s) : State.Kept kq
    (State.detach s cause) := by
  unfold State.detach; lift_lets -underBinder; intro v5; clear_value v5; intro v6
  refine State.kept_have (q := kq) v6 ?_ (fun hs => ?_); subst v6; refine State.kept_ite ?_ ?_
  with_reducible refine State.leaveStatus_kept ?_; with_reducible assumption; with_reducible assumption; intro v8
  refine State.kept_have (q := kq) v8 ?_ (fun hs => ?_); clear_value v6; subst v8
  with_reducible refine State.wr_kept ?_; with_reducible assumption; intro v10
  refine State.kept_have (q := kq) v10 ?_ (fun hs => ?_); clear_value v6 v8; subst v10; refine State.kept_ite ?_ ?_
  with_reducible refine State.leaveStatus_kept ?_; with_reducible assumption; with_reducible assumption; intro v12
  clear_value v12; intro v13; clear_value v13; intro v14; refine State.kept_have (q := kq) v14 ?_ (fun hs => ?_)
  clear_value v6 v8 v10; subst v14; with_reducible refine State.kept_upd ?_; with_reducible assumption; intro v16
  refine State.kept_have (q := kq) v16 ?_ (fun hs => ?_); clear_value v6 v8 v10 v14; subst v16
  refine State.kept_forEach (fun x s h => ?_) _ _ ?_; with_reducible refine State.holdCompletion_kept ?_
  with_reducible assumption; with_reducible assumption; intro v18
  refine State.kept_have (q := kq) v18 ?_ (fun hs => ?_); clear_value v6 v8 v10 v14 v16; subst v18; split
  with_reducible refine State.wr_kept ?_; with_reducible assumption; with_reducible assumption; lift_lets -underBinder
  intro v19; refine State.kept_have (q := kq) v19 ?_ (fun hs => ?_); subst v19
  with_reducible refine State.resetHostParts_kept (State.resetHostRegs_kept ?_); with_reducible assumption; intro v21
  clear_value v21 v19; with_reducible refine State.kept_upd ?_; with_reducible assumption
  with_reducible refine State.resetHostParts_kept (State.resetHostRegs_kept ?_); with_reducible assumption; intro v20
  refine State.kept_have (q := kq) v20 ?_ (fun hs => ?_); clear_value v6 v8 v10 v14 v16 v18; subst v20
  refine State.kept_ite ?_ ?_; with_reducible refine State.raise_kept (State.wr_kept ?_); with_reducible assumption
  with_reducible assumption; clear_value v6 v8 v10 v14 v16 v18 v20; refine State.kept_ite ?_ ?_
  with_reducible refine State.raise_kept ?_; with_reducible assumption; with_reducible assumption

theorem State.drainStream_kept {kq : List Instr} :
    ∀ {k src j : Nat} {s : State}, State.Kept kq s → State.Kept kq (State.drainStream k src j s)
  | 0, _, _, _, h => h
  | k + 1, src, j, s, h => by
    simp only [State.drainStream]
    split
    · exact h
    · split
      · exact h
      · exact State.drainStream_kept (State.irq_kept (State.notify_kept (State.kept_same h rfl rfl rfl)))

theorem State.drainSource_kept {kq : List Instr} {s : State} {src : Nat} (hkq : State.Kept kq s) : State.Kept kq
    (State.drainSource s src) := by
  unfold State.drainSource; refine State.kept_ite ?_ ?_; with_reducible assumption; split; with_reducible assumption
  with_reducible refine State.drainStream_kept ?_; with_reducible assumption

theorem State.drainAll_kept {kq : List Instr} {s : State} (hkq : State.Kept kq s) : State.Kept kq (State.drainAll s)
    := by
  unfold State.drainAll; refine State.kept_forEach (fun x s h => ?_) _ _ ?_
  with_reducible refine State.drainSource_kept ?_; with_reducible assumption; with_reducible assumption

theorem State.streamBlock_kept {kq : List Instr} {s : State} {src : Nat} {b : StreamBlock} (hkq : State.Kept kq s) :
    State.Kept kq (State.streamBlock s src b) := by
  unfold State.streamBlock; lift_lets -underBinder; intro v6; refine State.kept_have (q := kq) v6 ?_ (fun hs => ?_)
  subst v6; with_reducible refine State.drainSource_kept ?_; with_reducible assumption; intro v8; clear_value v8
  intro v9; clear_value v9; intro v10; clear_value v10 v6
  with_reducible refine State.drainSource_kept (State.kept_upd ?_); with_reducible assumption

theorem State.noteBuffers_kept {kq : List Instr} {s : State} {j : Nat} {bufs : List Nat} (hkq : State.Kept kq s) :
    State.Kept kq (State.noteBuffers s j bufs) := by
  unfold State.noteBuffers; lift_lets -underBinder; intro v6; clear_value v6; intro v7; clear_value v7; intro v8
  clear_value v8; intro v9; clear_value v9; with_reducible refine State.kept_upd ?_; with_reducible assumption

theorem State.attach_kept {kq : List Instr} {s : State} (hkq : State.Kept kq s) : State.Kept kq (State.attach s) := by
  unfold State.attach; lift_lets -underBinder; intro v4; refine State.kept_have (q := kq) v4 ?_ (fun hs => ?_); subst v4
  with_reducible refine State.wr_kept ?_; with_reducible assumption; intro v6; clear_value v6; intro v7
  refine State.kept_have (q := kq) v7 ?_ (fun hs => ?_); clear_value v4; subst v7
  with_reducible refine State.wr_kept ?_; with_reducible assumption; intro v9; clear_value v9; intro v10
  refine State.kept_have (q := kq) v10 ?_ (fun hs => ?_); clear_value v4 v7; subst v10
  with_reducible refine State.kept_upd ?_; with_reducible assumption; intro v12
  refine State.kept_have (q := kq) v12 ?_ (fun hs => ?_); clear_value v4 v7 v10; subst v12
  with_reducible refine State.raise_kept ?_; with_reducible assumption; intro v14; clear_value v14 v4 v7 v10 v12
  refine State.kept_ite ?_ ?_; with_reducible assumption; refine State.kept_ite ?_ ?_
  with_reducible refine State.kept_upd ?_; with_reducible assumption
  with_reducible refine State.notifIrq_kept (State.drainAll_kept ?_); refine State.kept_ite ?_ ?_
  with_reducible refine State.irq_kept ?_; with_reducible assumption; with_reducible assumption

theorem State.popNotif_kept {kq : List Instr} {s : State} {flips : Nat} (hkq : State.Kept kq s) : State.Kept kq
    (State.popNotif s flips) := by
  unfold State.popNotif; lift_lets -underBinder; intro v5; clear_value v5; intro v6
  refine State.kept_have (q := kq) v6 ?_ (fun hs => ?_); subst v6; refine State.kept_ite ?_ ?_
  with_reducible refine State.kept_upd ?_; with_reducible assumption; with_reducible assumption; clear_value v6; split
  with_reducible refine State.kept_upd ?_; with_reducible assumption; lift_lets -underBinder; intro v14
  refine State.kept_have (q := kq) v14 ?_ (fun hs => ?_); subst v14; refine State.kept_ite ?_ ?_
  with_reducible refine State.incSat_kept ?_; with_reducible assumption; refine State.kept_ite ?_ ?_
  with_reducible refine State.incSat_kept ?_; with_reducible assumption; with_reducible assumption; intro v16
  clear_value v16; intro v17; clear_value v17; intro v18; clear_value v18 v14
  with_reducible refine State.notifIrq_kept (State.kept_upd ?_); with_reducible assumption

theorem State.configure_kept {kq : List Instr} {s : State} {req : CfgReq} (hkq : State.Kept kq s) : State.Kept kq
    (State.configure s req) := by
  unfold State.configure; lift_lets -underBinder; intro v5; split; with_reducible refine State.kept_upd ?_
  with_reducible assumption; lift_lets -underBinder; intro v8; clear_value v8; subst v5; beta_reduce
  with_reducible refine State.kept_upd ?_; with_reducible assumption; lift_lets -underBinder; intro v8; clear_value v8
  subst v5; beta_reduce; with_reducible refine State.kept_upd ?_; with_reducible assumption

theorem execConfigRequest_kept {kq : List Instr} {t : Nat} {req : CfgReq} {s : State} (hkq : State.Kept kq s) :
    OutKept kq (execConfigRequest t req s) := by
  unfold execConfigRequest; lift_lets -underBinder; intro v6; refine State.kept_have (q := kq) v6 ?_ (fun hs => ?_)
  subst v6; with_reducible refine State.advance_kept ?_; with_reducible assumption; intro v8; clear_value v8 v6
  refine State.kept_next ?_; refine State.kept_ite ?_ ?_; with_reducible refine State.configure_kept ?_
  with_reducible assumption; with_reducible refine State.kept_upd ?_; with_reducible assumption

theorem execPerstRelease_kept {kq : List Instr} {t : Nat} {s : State} (hkq : State.Kept kq s) : OutKept kq
    (execPerstRelease t s) := by
  unfold execPerstRelease; lift_lets -underBinder; intro v5; refine State.kept_have (q := kq) v5 ?_ (fun hs => ?_)
  subst v5; with_reducible refine State.advance_kept ?_; with_reducible assumption; intro v7; clear_value v7 v5
  refine State.kept_next ?_; with_reducible refine State.kept_upd ?_; with_reducible assumption

theorem execHostDetach_kept {kq : List Instr} {t : Nat} {cause : DetachCause} {s : State} (hkq : State.Kept kq s) :
    OutKept kq (execHostDetach t cause s) := by
  unfold execHostDetach; lift_lets -underBinder; intro v6; refine State.kept_have (q := kq) v6 ?_ (fun hs => ?_)
  subst v6; with_reducible refine State.advance_kept ?_; with_reducible assumption; intro v8; clear_value v8 v6
  refine State.kept_next ?_; refine State.kept_ite ?_ ?_; with_reducible refine State.detach_kept ?_
  with_reducible assumption; refine State.kept_ite ?_ ?_; with_reducible refine State.kept_upd ?_
  with_reducible assumption; with_reducible assumption

theorem execHostAttach_kept {kq : List Instr} {t : Nat} {s : State} (hkq : State.Kept kq s) : OutKept kq
    (execHostAttach t s) := by
  unfold execHostAttach; lift_lets -underBinder; intro v5; refine State.kept_have (q := kq) v5 ?_ (fun hs => ?_)
  subst v5; with_reducible refine State.advance_kept ?_; with_reducible assumption; intro v7; clear_value v7 v5
  refine State.kept_next ?_; refine State.kept_ite ?_ ?_; with_reducible assumption; refine State.kept_ite ?_ ?_
  with_reducible refine State.attach_kept ?_; with_reducible assumption; refine State.kept_ite ?_ ?_
  with_reducible refine State.kept_upd ?_; with_reducible assumption; with_reducible assumption

theorem execRingRegisterWrite_kept {kq : List Instr} {t : Nat} {kind : RingKind} {i : Nat} {image : Nat} {s : State}
    (hkq : State.Kept kq s) : OutKept kq (execRingRegisterWrite t kind i image s) := by
  unfold execRingRegisterWrite; refine State.kept_next ?_; with_reducible refine onEvent_kept ?_ ?_; intro _ _
  refine State.kept_ite ?_ ?_; with_reducible refine State.writeRing_kept ?_; with_reducible assumption
  with_reducible assumption; with_reducible assumption

theorem execDoorbellPoll_kept {kq : List Instr} {t : Nat} {cmdProd : List Nat} {cplCons : List Nat} {evCons : List
    Nat} {strProd : List Nat} {descs : List (List Desc)} {bufs : List (List Nat)} {s : State} (hkq : State.Kept kq s)
    : OutKept kq (execDoorbellPoll t cmdProd cplCons evCons strProd descs bufs s) := by
  unfold execDoorbellPoll; refine State.kept_next ?_; with_reducible refine onEvent_kept ?_ ?_; intro _ _
  refine State.kept_ite ?_ ?_; with_reducible assumption; lift_lets -underBinder; intro v13; clear_value v13; intro v14
  refine State.kept_have (q := kq) v14 ?_ (fun hs => ?_); subst v14; with_reducible refine State.kept_upd ?_
  with_reducible assumption; intro v16; clear_value v16; intro v17; clear_value v17; intro v18
  refine State.kept_have (q := kq) v18 ?_ (fun hs => ?_); clear_value v14; subst v18
  with_reducible refine State.kept_upd ?_; with_reducible assumption; intro v20
  refine State.kept_have (q := kq) v20 ?_ (fun hs => ?_); clear_value v14 v18; subst v20
  refine State.kept_forEach (fun x s h => ?_) _ _ ?_; with_reducible refine State.noteBuffers_kept ?_
  with_reducible assumption; with_reducible assumption; intro v22
  refine State.kept_have (q := kq) v22 ?_ (fun hs => ?_); clear_value v14 v18 v20; subst v22
  with_reducible refine State.drainAll_kept (State.releaseCompletions_kept (State.releaseStops_kept ?_))
  with_reducible assumption; intro v24; clear_value v24; intro v25
  refine State.kept_have (q := kq) v25 ?_ (fun hs => ?_); clear_value v14 v18 v20 v22; subst v25
  with_reducible refine State.fetchRing_kept ?_; with_reducible assumption; intro v27
  refine State.kept_have (q := kq) v27 ?_ (fun hs => ?_); clear_value v14 v18 v20 v22 v25; subst v27
  with_reducible refine State.grants_kept ?_; with_reducible assumption; clear_value v14 v18 v20 v22 v25 v27
  with_reducible refine State.settleDestroys_kept (State.coalesceDue_kept ?_); with_reducible assumption
  with_reducible assumption

theorem execKick_kept {kq : List Instr} {t : Nat} {off : Nat} {prod : Nat} {descs : List Desc} {bufs : List Nat} {s :
    State} (hkq : State.Kept kq s) : OutKept kq (execKick t off prod descs bufs s) := by
  unfold execKick; refine State.kept_next ?_; with_reducible refine onEvent_kept ?_ ?_; intro _ _
  refine State.kept_ite ?_ ?_; with_reducible assumption; refine State.kept_ite ?_ ?_; lift_lets -underBinder; intro v11
  clear_value v11; intro v12; clear_value v12; intro v13; refine State.kept_have (q := kq) v13 ?_ (fun hs => ?_)
  subst v13; with_reducible refine State.kept_upd ?_; with_reducible assumption; clear_value v13
  with_reducible refine State.fetchRing_kept ?_; with_reducible assumption; refine State.kept_ite ?_ ?_
  lift_lets -underBinder; intro v11; clear_value v11; intro v12; refine State.kept_have (q := kq) v12 ?_ (fun hs => ?_)
  subst v12; with_reducible refine State.noteBuffers_kept ?_; with_reducible assumption; intro v14; clear_value v14 v12
  with_reducible refine State.drainAll_kept (State.kept_upd ?_); with_reducible assumption; with_reducible assumption
  with_reducible assumption

theorem execStopCompletionRelease_kept {kq : List Instr} {t : Nat} {s : State} (hkq : State.Kept kq s) : OutKept kq
    (execStopCompletionRelease t s) := by
  unfold execStopCompletionRelease; refine State.kept_next ?_; with_reducible refine onEvent_kept ?_ ?_; intro _ _
  with_reducible refine State.releaseStops_kept ?_; with_reducible assumption; with_reducible assumption

theorem execEvrGap_kept {kq : List Instr} {t : Nat} {j : Nat} {s : State} (hkq : State.Kept kq s) : OutKept kq
    (execEvrGap t j s) := by
  unfold execEvrGap; refine State.kept_next ?_; with_reducible refine onEvent_kept ?_ ?_; intro _ _
  with_reducible refine State.reportGap_kept ?_; with_reducible assumption; with_reducible assumption

theorem execNotifDataRead_kept {kq : List Instr} {t : Nat} {flips : Nat} {s : State} (hkq : State.Kept kq s) : OutKept
    kq (execNotifDataRead t flips s) := by
  unfold execNotifDataRead; refine State.kept_next ?_; with_reducible refine onEvent_kept ?_ ?_; intro _ _
  with_reducible refine State.popNotif_kept ?_; with_reducible assumption; with_reducible assumption

theorem execRingCreate_kept {kq : List Instr} {x : Ctx} {kind : RingKind} {i : Nat} {image : Nat} {s : State} (hkq :
    State.Kept kq s) : OutKept kq (execRingCreate x kind i image s) := by
  unfold execRingCreate; refine State.kept_next ?_; with_reducible refine State.command_kept ?_ ?_
  with_reducible assumption; intro _ _; refine State.kept_ite ?_ ?_; with_reducible refine State.complete_kept ?_
  with_reducible assumption; refine State.kept_ite ?_ ?_; with_reducible refine State.complete_kept ?_
  with_reducible assumption; lift_lets -underBinder; intro v10; clear_value v10; intro v11; clear_value v11
  with_reducible refine State.complete_kept (State.writeRing_kept ?_); with_reducible assumption

theorem execRingDestroy_kept {kq : List Instr} {x : Ctx} {kind : RingKind} {i : Nat} {s : State} (hkq : State.Kept kq
    s) : OutKept kq (execRingDestroy x kind i s) := by
  unfold execRingDestroy; refine State.kept_next ?_; with_reducible refine State.command_kept ?_ ?_
  with_reducible assumption; intro _ _; refine State.kept_ite ?_ ?_; with_reducible refine State.complete_kept ?_
  with_reducible assumption; split; with_reducible refine State.kept_upd ?_; with_reducible assumption
  refine State.kept_ite ?_ ?_; with_reducible refine State.complete_kept ?_; with_reducible assumption
  with_reducible refine State.complete_kept (State.wr_kept ?_); with_reducible assumption
  with_reducible refine State.complete_kept (State.wr_kept ?_); with_reducible assumption
  with_reducible refine State.complete_kept (State.wr_kept ?_); with_reducible assumption

theorem execJournalFetch_kept {kq : List Instr} {x : Ctx} {first : Nat} {span : Nat} {s : State} (hkq : State.Kept kq
    s) : OutKept kq (execJournalFetch x first span s) := by
  unfold execJournalFetch; refine State.kept_next ?_; with_reducible refine State.command_kept ?_ ?_
  with_reducible assumption; intro _ _; lift_lets -underBinder; intro v9; clear_value v9; intro v10; clear_value v10
  intro v11; clear_value v11; intro v12; clear_value v12; intro v13; clear_value v13; refine State.kept_ite ?_ ?_
  with_reducible refine State.complete_kept ?_; with_reducible assumption
  with_reducible refine State.complete_kept (State.giveBuffer_kept ?_); with_reducible assumption

theorem execStatusQuery_kept {kq : List Instr} {x : Ctx} {ring : Nat} {first : Nat} {count : Nat} {s : State} (hkq :
    State.Kept kq s) : OutKept kq (execStatusQuery x ring first count s) := by
  unfold execStatusQuery; refine State.kept_next ?_; with_reducible refine State.command_kept ?_ ?_
  with_reducible assumption; intro _ _; lift_lets -underBinder; intro v10; clear_value v10; refine State.kept_ite ?_ ?_
  with_reducible refine State.complete_kept ?_; with_reducible assumption
  with_reducible refine State.complete_kept (State.giveBuffer_kept ?_); with_reducible assumption

theorem execEcho_kept {kq : List Instr} {x : Ctx} {data : List Byte} {s : State} (hkq : State.Kept kq s) : OutKept kq
    (execEcho x data s) := by
  unfold execEcho; refine State.kept_next ?_; with_reducible refine State.command_kept ?_ ?_; with_reducible assumption
  intro _ _; with_reducible refine State.complete_kept ?_; with_reducible assumption

end Sys2Proof.Machine
end

