-- ==== Sys2Proof/Laws/KeepSafe.lean ====
section
/-! SUPPORT. What the safety, record, metering, display and input operations keep. -/

namespace Sys2Proof.Machine

theorem State.modOutlet_kept {kq : List Instr} {s : State} {n : Nat} {f : Outlet → Outlet} (hkq : State.Kept kq s) :
    State.Kept kq (State.modOutlet s n f) := by
  unfold State.modOutlet; with_reducible refine State.kept_upd ?_; with_reducible assumption

theorem State.modOs_kept {kq : List Instr} {s : State} {n : Nat} {f : OutSafe → OutSafe} (hkq : State.Kept kq s) :
    State.Kept kq (State.modOs s n f) := by
  unfold State.modOs; with_reducible refine State.kept_upd ?_; with_reducible assumption

theorem State.modCoil_kept {kq : List Instr} {s : State} {k : Nat} {f : Coil → Coil} (hkq : State.Kept kq s) :
    State.Kept kq (State.modCoil s k f) := by
  unfold State.modCoil; with_reducible refine State.kept_upd ?_; with_reducible assumption

theorem State.refreshSafeOk_kept {kq : List Instr} {s : State} (hkq : State.Kept kq s) : State.Kept kq
    (State.refreshSafeOk s) := by
  unfold State.refreshSafeOk; lift_lets -underBinder; intro v4; clear_value v4; refine State.kept_ite ?_ ?_
  with_reducible assumption; with_reducible refine State.alert_kept (State.setFlag_kept ?_); with_reducible assumption

theorem State.coilOff_kept {kq : List Instr} {s : State} {k : Nat} {demand : Nat} (hkq : State.Kept kq s) : State.Kept
    kq (State.coilOff s k demand) := by
  unfold State.coilOff; lift_lets -underBinder; intro v6; clear_value v6; intro v7; clear_value v7; intro v8
  clear_value v8; intro v9; refine State.kept_have (q := kq) v9 ?_ (fun hs => ?_); subst v9
  with_reducible refine State.incSat_kept ?_; with_reducible assumption; intro v11
  refine State.kept_have (q := kq) v11 ?_ (fun hs => ?_); clear_value v9; subst v11
  with_reducible refine State.raise_kept ?_; with_reducible assumption; intro v13; clear_value v13; intro v14
  refine State.kept_have (q := kq) v14 ?_ (fun hs => ?_); clear_value v9 v11; subst v14; refine State.kept_ite ?_ ?_
  with_reducible refine State.kept_upd ?_; with_reducible assumption; with_reducible assumption; clear_value v9 v11 v14
  with_reducible refine State.modCoil_kept ?_; with_reducible assumption

theorem State.noteOpening_kept {kq : List Instr} {s : State} {n : Nat} (hkq : State.Kept kq s) : State.Kept kq
    (State.noteOpening s n) := by
  unfold State.noteOpening; refine State.kept_ite ?_ ?_; with_reducible assumption; lift_lets -underBinder; intro v5
  clear_value v5; intro v6; clear_value v6; intro v7; refine State.kept_have (q := kq) v7 ?_ (fun hs => ?_); subst v7
  refine State.kept_ite ?_ ?_; refine State.kept_forEach (fun x s h => ?_) _ _ ?_
  with_reducible refine State.incSat_kept ?_; with_reducible assumption; with_reducible assumption
  with_reducible assumption; intro v9; refine State.kept_have (q := kq) v9 ?_ (fun hs => ?_); clear_value v7; subst v9
  refine State.kept_ite ?_ ?_; with_reducible refine State.cableOpening_kept ?_; with_reducible assumption
  with_reducible assumption; clear_value v7 v9; with_reducible refine State.modOs_kept ?_; with_reducible assumption

theorem State.pmOff_kept {kq : List Instr} {s : State} {n : Nat} (hkq : State.Kept kq s) : State.Kept kq (State.pmOff
    s n) := by
  unfold State.pmOff; refine State.kept_ite ?_ ?_; with_reducible refine State.modOutlet_kept ?_
  with_reducible assumption; with_reducible assumption

theorem State.openOutlet_kept {kq : List Instr} {s : State} {n : Nat} {demand : Nat} (hkq : State.Kept kq s) :
    State.Kept kq (State.openOutlet s n demand) := by
  unfold State.openOutlet; lift_lets -underBinder; intro v6; refine State.kept_have (q := kq) v6 ?_ (fun hs => ?_)
  subst v6; with_reducible refine State.pmOff_kept (State.noteOpening_kept ?_); with_reducible assumption
  clear_value v6; refine State.kept_forEach (fun x s h => ?_) _ _ ?_; with_reducible refine State.coilOff_kept ?_
  with_reducible assumption; with_reducible assumption

theorem State.highOff_kept {kq : List Instr} {s : State} {n : Nat} (hkq : State.Kept kq s) : State.Kept kq
    (State.highOff s n) := by
  unfold State.highOff; lift_lets -underBinder; intro v5; refine State.kept_have (q := kq) v5 ?_ (fun hs => ?_)
  subst v5; with_reducible refine State.noteOpening_kept ?_; with_reducible assumption; clear_value v5
  refine State.kept_forEach (fun x s h => ?_) _ _ ?_; refine State.kept_ite ?_ ?_
  with_reducible refine State.coilOff_kept ?_; with_reducible assumption; with_reducible refine State.modCoil_kept ?_
  with_reducible assumption; with_reducible assumption

theorem State.driveF_kept {kq : List Instr} {s : State} {n : Nat} (hkq : State.Kept kq s) : State.Kept kq
    (State.driveF s n) := by
  unfold State.driveF; with_reducible refine State.modOutlet_kept ?_; with_reducible assumption

theorem State.stagePilot_kept {kq : List Instr} {s : State} {n : Nat} {p : PilotOut} (hkq : State.Kept kq s) :
    State.Kept kq (State.stagePilot s n p) := by
  unfold State.stagePilot; with_reducible refine State.modOutlet_kept ?_; with_reducible assumption

theorem State.stageSet_kept {kq : List Instr} {s : State} {n : Nat} {p : SetPoint} (hkq : State.Kept kq s) :
    State.Kept kq (State.stageSet s n p) := by
  unfold State.stageSet; with_reducible refine State.modOutlet_kept ?_; with_reducible assumption

theorem State.dropClose_kept {kq : List Instr} {s : State} {n : Nat} (hkq : State.Kept kq s) : State.Kept kq
    (State.dropClose s n) := by
  unfold State.dropClose; lift_lets -underBinder; intro v5; clear_value v5; refine State.kept_ite ?_ ?_
  with_reducible assumption; refine State.kept_forEach (fun x s h => ?_) _ _ ?_
  with_reducible refine State.complete_kept ?_; with_reducible assumption; with_reducible refine State.modOutlet_kept ?_
  with_reducible assumption

theorem State.caskSafety_kept {kq : List Instr} {s : State} {n : Nat} (hkq : State.Kept kq s) : State.Kept kq
    (State.caskSafety s n) := by
  unfold State.caskSafety; lift_lets -underBinder; intro v5; refine State.kept_have (q := kq) v5 ?_ (fun hs => ?_)
  subst v5; with_reducible refine State.dropClose_kept ?_; with_reducible assumption; clear_value v5
  refine State.kept_forEach (fun x s h => ?_) _ _ ?_; lift_lets -underBinder; intro v10; clear_value v10; split
  with_reducible assumption; refine State.kept_ite ?_ ?_; with_reducible refine State.abortCask_kept ?_
  with_reducible assumption; refine State.kept_ite ?_ ?_; split; with_reducible refine State.modSlot_kept ?_
  with_reducible assumption; with_reducible assumption; with_reducible assumption; with_reducible assumption

theorem State.erem_kept {kq : List Instr} {s : State} {n : Nat} {demand : Nat} (hkq : State.Kept kq s) : State.Kept kq
    (State.erem s n demand) := by
  unfold State.erem; lift_lets -underBinder; intro v6; refine State.kept_have (q := kq) v6 ?_ (fun hs => ?_); subst v6
  with_reducible refine State.caskSafety_kept (State.openOutlet_kept ?_); with_reducible assumption; clear_value v6
  with_reducible refine State.modOs_kept ?_; with_reducible assumption

theorem State.outletSafe_kept {kq : List Instr} {s : State} {n : Nat} {demand : Nat} (hkq : State.Kept kq s) :
    State.Kept kq (State.outletSafe s n demand) := by
  unfold State.outletSafe; with_reducible refine State.modOs_kept (State.driveF_kept (State.erem_kept ?_))
  with_reducible assumption

theorem State.trip_kept {kq : List Instr} {s : State} {n : Nat} {code : Nat} {chan : Nat} {since : Nat} {latch : Bool}
    (hkq : State.Kept kq s) : State.Kept kq (State.trip s n code chan since latch) := by
  unfold State.trip; refine State.kept_ite ?_ ?_; refine State.kept_ite ?_ ?_; with_reducible refine State.modOs_kept ?_
  with_reducible assumption; with_reducible assumption; lift_lets -underBinder; intro v9
  refine State.kept_have (q := kq) v9 ?_ (fun hs => ?_); subst v9; with_reducible refine State.modOs_kept ?_
  with_reducible assumption; clear_value v9; with_reducible refine State.raise_kept (State.outletSafe_kept ?_)
  with_reducible assumption

theorem State.moduleTrip_kept {kq : List Instr} {s : State} {code : Nat} {chan : Nat} {since : Nat} (hkq : State.Kept
    kq s) : State.Kept kq (State.moduleTrip s code chan since) := by
  unfold State.moduleTrip; refine State.kept_ite ?_ ?_; with_reducible assumption; lift_lets -underBinder; intro v7
  clear_value v7; intro v8; refine State.kept_have (q := kq) v8 ?_ (fun hs => ?_); subst v8
  with_reducible refine State.kept_upd ?_; with_reducible assumption; intro v10
  refine State.kept_have (q := kq) v10 ?_ (fun hs => ?_); clear_value v8; subst v10
  refine State.kept_forEach (fun x s h => ?_) _ _ ?_; with_reducible refine State.outletSafe_kept ?_
  with_reducible assumption; with_reducible assumption; clear_value v8 v10
  with_reducible refine State.raise_kept (State.refreshSafeOk_kept ?_); with_reducible assumption

theorem State.clearFault_kept {kq : List Instr} {s : State} {n : Nat} {code : Nat} (hkq : State.Kept kq s) :
    State.Kept kq (State.clearFault s n code) := by
  unfold State.clearFault; with_reducible refine State.modOs_kept ?_; with_reducible assumption

theorem State.lateClose_kept {kq : List Instr} {s : State} {n : Nat} {owed : Option (Nat × Nat)} (hkq : State.Kept kq
    s) : State.Kept kq (State.lateClose s n owed) := by
  unfold State.lateClose; split; with_reducible assumption; lift_lets -underBinder; intro v9
  refine State.kept_have (q := kq) v9 ?_ (fun hs => ?_); subst v9; refine State.kept_forEach (fun x s h => ?_) _ _ ?_
  with_reducible refine State.modCoil_kept ?_; with_reducible assumption; with_reducible assumption; clear_value v9
  with_reducible refine State.raise_kept (State.incSat_kept ?_); with_reducible assumption

theorem State.startPullIn_kept {kq : List Instr} {s : State} {k : Nat} (hkq : State.Kept kq s) : State.Kept kq
    (State.startPullIn s k) := by
  unfold State.startPullIn; lift_lets -underBinder; intro v5; clear_value v5; intro v6; clear_value v6
  refine State.kept_ite ?_ ?_; with_reducible refine State.lateClose_kept (State.modCoil_kept ?_)
  with_reducible assumption; with_reducible assumption

theorem State.holdFrom_kept {kq : List Instr} {s : State} {k : Nat} (hkq : State.Kept kq s) : State.Kept kq
    (State.holdFrom s k) := by
  unfold State.holdFrom; lift_lets -underBinder; intro v5; clear_value v5; with_reducible refine State.modCoil_kept ?_
  with_reducible assumption

theorem State.applyClose_kept {kq : List Instr} {s : State} {n : Nat} {refused : Bool} (hkq : State.Kept kq s) :
    State.Kept kq (State.applyClose s n refused).1 := by
  unfold State.applyClose; refine State.kept_ite0 ?_ ?_; dsimp only; with_reducible assumption
  refine State.kept_ite0 ?_ ?_; dsimp only; with_reducible refine State.raise_kept ?_; with_reducible assumption
  lift_lets -underBinder; intro v6; refine State.kept_have (q := kq) v6 ?_ (fun hs => ?_); subst v6
  refine State.kept_forEach (fun x s h => ?_) _ _ ?_; with_reducible refine State.modCoil_kept ?_
  with_reducible assumption; with_reducible assumption; clear_value v6; dsimp only
  refine State.kept_forEach (fun x s h => ?_) _ _ ?_; with_reducible refine State.startPullIn_kept ?_
  with_reducible assumption; with_reducible assumption

theorem State.startCurrent_kept {kq : List Instr} {s : State} {n : Nat} (hkq : State.Kept kq s) : State.Kept kq
    (State.startCurrent s n).2 := by
  unfold State.startCurrent; split; dsimp only; with_reducible assumption; with_reducible refine State.takeFree_kept ?_
  with_reducible assumption

theorem State.startMstop_kept {kq : List Instr} {s : State} {n : Nat} {reason : Nat} (hkq : State.Kept kq s) :
    State.Kept kq (State.startMstop s n reason) := by
  unfold State.startMstop; split; with_reducible assumption; lift_lets -underBinder; intro v10; clear_value v10; split
  with_reducible refine State.modOs_kept ?_; refine State.kept_snd (by with_reducible assumption) ?_
  with_reducible refine State.startCurrent_kept ?_; with_reducible assumption

theorem State.mstopViolated_kept {kq : List Instr} {s : State} {n : Nat} (hkq : State.Kept kq s) : State.Kept kq
    (State.mstopViolated s n) := by
  unfold State.mstopViolated; lift_lets -underBinder; intro v5; refine State.kept_have (q := kq) v5 ?_ (fun hs => ?_)
  subst v5; with_reducible refine State.modOs_kept (State.highOff_kept ?_); with_reducible assumption; clear_value v5
  with_reducible refine State.raise_kept (State.driveF_kept (State.pmOff_kept ?_)); with_reducible assumption

theorem State.mstopCheck_kept {kq : List Instr} {s : State} {n : Nat} (hkq : State.Kept kq s) : State.Kept kq
    (State.mstopCheck s n) := by
  unfold State.mstopCheck; split; with_reducible assumption; lift_lets -underBinder; intro v10; clear_value v10
  intro v11; clear_value v11; intro v12; clear_value v12; intro v13; clear_value v13; refine State.kept_ite ?_ ?_
  with_reducible refine State.mstopViolated_kept ?_; with_reducible assumption; refine State.kept_ite ?_ ?_
  with_reducible refine State.modOs_kept (State.openOutlet_kept ?_); with_reducible assumption
  with_reducible refine State.modOs_kept ?_; with_reducible assumption

theorem State.overcurrentCheck_kept {kq : List Instr} {s : State} {n : Nat} (hkq : State.Kept kq s) : State.Kept kq
    (State.overcurrentCheck s n).1 := by
  unfold State.overcurrentCheck; refine State.kept_ite0 ?_ ?_; dsimp only; with_reducible assumption
  lift_lets -underBinder; intro v5; clear_value v5; split; lift_lets -underBinder; intro v12; clear_value v12; intro v13
  clear_value v13; intro v14; refine State.kept_have (q := kq) v14 ?_ (fun hs => ?_); subst v14
  with_reducible refine State.modOs_kept ?_; with_reducible assumption; clear_value v14; refine State.kept_ite0 ?_ ?_
  dsimp only; with_reducible refine State.trip_kept ?_; with_reducible assumption; refine State.kept_ite0 ?_ ?_
  dsimp only; with_reducible refine State.modOs_kept ?_; with_reducible assumption; dsimp only
  with_reducible assumption

theorem State.rcmTrip_kept {kq : List Instr} {s : State} {n : Nat} {code : Nat} {chan : Nat} (hkq : State.Kept kq s) :
    State.Kept kq (State.rcmTrip s n code chan) := by
  unfold State.rcmTrip; refine State.kept_ite ?_ ?_; with_reducible assumption; lift_lets -underBinder; intro v7
  clear_value v7; intro v8; clear_value v8; intro v9; refine State.kept_have (q := kq) v9 ?_ (fun hs => ?_); subst v9
  with_reducible refine State.wr_kept (State.wr_kept ?_); with_reducible assumption; intro v11
  refine State.kept_have (q := kq) v11 ?_ (fun hs => ?_); clear_value v9; subst v11
  with_reducible refine State.modOs_kept ?_; with_reducible assumption; intro v13
  refine State.kept_have (q := kq) v13 ?_ (fun hs => ?_); clear_value v9 v11; subst v13
  with_reducible refine State.trip_kept ?_; with_reducible assumption; clear_value v9 v11 v13
  refine State.kept_ite ?_ ?_; with_reducible refine State.trip_kept ?_; with_reducible assumption
  with_reducible assumption

theorem State.rcmUpdate_kept {kq : List Instr} {s : State} {n : Nat} {b : Bool} (hkq : State.Kept kq s) : State.Kept
    kq (State.rcmUpdate s n b) := by
  unfold State.rcmUpdate; lift_lets -underBinder; intro v6; clear_value v6; intro v7; clear_value v7; intro v8
  clear_value v8; intro v9; clear_value v9; intro v10; refine State.kept_have (q := kq) v10 ?_ (fun hs => ?_); subst v10
  with_reducible refine State.modOs_kept ?_; with_reducible assumption; intro v12
  refine State.kept_have (q := kq) v12 ?_ (fun hs => ?_); clear_value v10; subst v12; refine State.kept_ite ?_ ?_
  with_reducible refine State.wr_kept (State.wr_kept ?_); with_reducible assumption; with_reducible assumption
  clear_value v10 v12; split; with_reducible refine State.rcmTrip_kept ?_; with_reducible assumption
  with_reducible assumption

theorem State.sensorTrip_kept {kq : List Instr} {s : State} {n : Nat} (hkq : State.Kept kq s) : State.Kept kq
    (State.sensorTrip s n) := by
  unfold State.sensorTrip; refine State.kept_ite ?_ ?_; with_reducible assumption
  with_reducible refine State.trip_kept (State.wr_kept ?_); with_reducible assumption

theorem State.testSensor_kept {kq : List Instr} {s : State} {n : Nat} (hkq : State.Kept kq s) : State.Kept kq
    (State.testSensor s n) := by
  unfold State.testSensor; refine State.kept_ite ?_ ?_; with_reducible assumption
  with_reducible refine State.modOs_kept ?_; with_reducible assumption

theorem State.rcmSelfTest_kept {kq : List Instr} {s : State} {n : Nat} {offset : Int} {reading : Nat} (hkq :
    State.Kept kq s) : State.Kept kq (State.rcmSelfTest s n offset reading) := by
  unfold State.rcmSelfTest; lift_lets -underBinder; intro v7; clear_value v7; intro v8
  refine State.kept_have (q := kq) v8 ?_ (fun hs => ?_); subst v8
  with_reducible refine State.setFlag_kept (State.wrInt_kept ?_); with_reducible assumption; intro v10
  refine State.kept_have (q := kq) v10 ?_ (fun hs => ?_); clear_value v8; subst v10
  with_reducible refine State.modOs_kept ?_; with_reducible assumption; intro v12; clear_value v12; intro v13
  refine State.kept_have (q := kq) v13 ?_ (fun hs => ?_); clear_value v8 v10; subst v13
  with_reducible refine State.kept_upd ?_; with_reducible assumption; clear_value v8 v10 v13
  refine State.kept_ite ?_ ?_; refine State.kept_forEach (fun x s h => ?_) _ _ ?_
  with_reducible refine State.clearFault_kept ?_; with_reducible assumption; with_reducible assumption
  with_reducible refine State.sensorTrip_kept ?_; with_reducible assumption

theorem State.prewarnNote_kept {kq : List Instr} {s : State} {n : Nat} (hkq : State.Kept kq s) : State.Kept kq
    (State.prewarnNote s n) := by
  unfold State.prewarnNote; lift_lets -underBinder; intro v5; clear_value v5; with_reducible refine State.modOs_kept ?_
  with_reducible assumption

theorem State.shuntOn_kept {kq : List Instr} {s : State} {n : Nat} (hkq : State.Kept kq s) : State.Kept kq
    (State.shuntOn s n) := by
  unfold State.shuntOn; lift_lets -underBinder; intro v5; refine State.kept_have (q := kq) v5 ?_ (fun hs => ?_)
  subst v5; with_reducible refine State.setFlag_kept ?_; with_reducible assumption; intro v7; clear_value v7 v5
  with_reducible refine State.modOs_kept (State.kept_upd ?_); with_reducible assumption

theorem State.shuntKeep_kept {kq : List Instr} {s : State} {n : Nat} (hkq : State.Kept kq s) : State.Kept kq
    (State.shuntKeep s n) := by
  unfold State.shuntKeep; refine State.kept_ite ?_ ?_; with_reducible refine State.modOs_kept ?_
  with_reducible assumption; with_reducible assumption

theorem State.weldCheck_kept {kq : List Instr} {s : State} {n : Nat} (hkq : State.Kept kq s) : State.Kept kq
    (State.weldCheck s n) := by
  unfold State.weldCheck; lift_lets -underBinder; intro v5; clear_value v5; intro v6; clear_value v6; intro v7
  refine State.kept_have (q := kq) v7 ?_ (fun hs => ?_); subst v7; with_reducible refine State.modOs_kept ?_
  with_reducible assumption; intro v9; clear_value v9; intro v10; clear_value v10; intro v11
  refine State.kept_have (q := kq) v11 ?_ (fun hs => ?_); clear_value v7; subst v11
  with_reducible refine State.trip_kept ?_; with_reducible assumption; intro v13
  refine State.kept_have (q := kq) v13 ?_ (fun hs => ?_); clear_value v7 v11; subst v13; refine State.kept_ite ?_ ?_
  with_reducible refine State.shuntOn_kept ?_; with_reducible assumption; with_reducible assumption
  clear_value v7 v11 v13; refine State.kept_ite ?_ ?_; with_reducible assumption
  with_reducible refine State.raise_kept ?_; with_reducible assumption

theorem State.setWall_kept {kq : List Instr} {s : State} {ms : Nat} (hkq : State.Kept kq s) : State.Kept kq
    (State.setWall s ms) := by
  unfold State.setWall; lift_lets -underBinder; intro v5; clear_value v5; intro v6
  refine State.kept_have (q := kq) v6 ?_ (fun hs => ?_); subst v6; with_reducible refine State.wr_kept ?_
  with_reducible assumption; intro v8; refine State.kept_have (q := kq) v8 ?_ (fun hs => ?_); clear_value v6; subst v8
  with_reducible refine State.wrInt_kept ?_; with_reducible assumption; intro v10
  refine State.kept_have (q := kq) v10 ?_ (fun hs => ?_); clear_value v6 v8; subst v10
  with_reducible refine State.wr_kept ?_; with_reducible assumption; intro v12; clear_value v12 v6 v8 v10
  with_reducible refine State.kept_upd ?_; with_reducible assumption

theorem State.issueNum_kept {kq : List Instr} {s : State} (hkq : State.Kept kq s) : State.Kept kq (State.issueNum s).2
    := by
  unfold State.issueNum; split; dsimp only; with_reducible refine State.kept_upd ?_; with_reducible assumption
  dsimp only; with_reducible refine State.kept_upd ?_; with_reducible assumption

theorem State.reserveNums_kept {kq : List Instr} {s : State} {k : Nat} (hkq : State.Kept kq s) : State.Kept kq
    (State.reserveNums s k).2 := by
  unfold State.reserveNums; dsimp only; with_reducible refine State.kept_upd ?_; with_reducible assumption

theorem State.appendAs_kept {kq : List Instr} {s : State} {num : Nat} {kind : Nat} {mp : Nat} {wall : Nat} {ledger :
    Nat} {flags : Nat} {epoch : Nat} {body : List (Nat × Nat)} (hkq : State.Kept kq s) : State.Kept kq (State.appendAs
    s num kind mp wall ledger flags epoch body).2 := by
  unfold State.appendAs; lift_lets -underBinder; intro v12; clear_value v12; split; lift_lets -underBinder; intro v19
  clear_value v19; intro v20; clear_value v20; intro v21; clear_value v21; intro v22
  refine State.kept_have (q := kq) v22 ?_ (fun hs => ?_); subst v22; with_reducible refine State.kept_upd ?_
  with_reducible assumption; intro v24; refine State.kept_have (q := kq) v24 ?_ (fun hs => ?_); clear_value v22
  subst v24; with_reducible refine State.wr_kept (State.wr_kept ?_); with_reducible assumption; intro v26
  refine State.kept_have (q := kq) v26 ?_ (fun hs => ?_); clear_value v22 v24; subst v26
  with_reducible refine State.addSat_kept ?_; with_reducible assumption; clear_value v22 v24 v26; dsimp only
  with_reducible refine State.raise_kept ?_; with_reducible assumption

theorem State.appendCore_kept {kq : List Instr} {s : State} {kind : Nat} {mp : Nat} {body : List (Nat × Nat)} (hkq :
    State.Kept kq s) : State.Kept kq (State.appendCore s kind mp body).2 := by
  unfold State.appendCore; split; with_reducible refine State.appendAs_kept ?_
  refine State.kept_snd (by with_reducible assumption) ?_; with_reducible refine State.issueNum_kept ?_
  with_reducible assumption

theorem State.tamperCount_kept {kq : List Instr} {s : State} {ty : Nat} {k : Nat} (hkq : State.Kept kq s) : State.Kept
    kq (State.tamperCount s ty k) := by
  unfold State.tamperCount; lift_lets -underBinder; intro v6; clear_value v6; intro v7
  refine State.kept_have (q := kq) v7 ?_ (fun hs => ?_); subst v7; refine State.kept_ite ?_ ?_
  with_reducible refine State.wr_kept ?_; with_reducible assumption; with_reducible assumption; clear_value v7
  with_reducible refine State.wr_kept (State.addSat_kept ?_); with_reducible assumption

theorem State.overwritten_kept {kq : List Instr} {s : State} {lost : List Nat} (hkq : State.Kept kq s) : State.Kept kq
    (State.overwritten s lost) := by
  unfold State.overwritten; refine State.kept_ite ?_ ?_; with_reducible assumption; lift_lets -underBinder; intro v5
  refine State.kept_have (q := kq) v5 ?_ (fun hs => ?_); subst v5; with_reducible refine State.tamperCount_kept ?_
  with_reducible assumption; intro v7; clear_value v7; intro v8; clear_value v8; intro v9; clear_value v9; intro v10
  clear_value v10; intro v11; clear_value v11; intro v12; clear_value v12 v5; split
  with_reducible refine State.raise_kept ?_; refine State.kept_snd (by with_reducible assumption) ?_
  with_reducible refine State.appendCore_kept ?_; with_reducible assumption

theorem State.append_kept {kq : List Instr} {s : State} {kind : Nat} {mp : Nat} {body : List (Nat × Nat)} (hkq :
    State.Kept kq s) : State.Kept kq (State.append s kind mp body) := by
  unfold State.append; split; with_reducible refine State.overwritten_kept ?_
  refine State.kept_snd (by with_reducible assumption) ?_; with_reducible refine State.appendCore_kept ?_
  with_reducible assumption

theorem State.appendNum_kept {kq : List Instr} {s : State} {num : Option Nat} {kind : Nat} {mp : Nat} {body : List
    (Nat × Nat)} (hkq : State.Kept kq s) : State.Kept kq (State.appendNum s num kind mp body) := by
  unfold State.appendNum; split; with_reducible refine State.append_kept ?_; with_reducible assumption; split
  with_reducible refine State.overwritten_kept ?_; refine State.kept_snd (by with_reducible assumption) ?_
  with_reducible refine State.appendAs_kept ?_; with_reducible assumption

theorem State.appendTimed_kept {kq : List Instr} {s : State} {num : Option Nat} {kind : Nat} {mp : Nat} {wall : Nat}
    {ledger : Nat} {flags : Nat} {body : List (Nat × Nat)} (hkq : State.Kept kq s) : State.Kept kq (State.appendTimed
    s num kind mp wall ledger flags body) := by
  unfold State.appendTimed; split; split; with_reducible refine State.overwritten_kept ?_
  refine State.kept_snd (by with_reducible assumption) ?_; with_reducible refine State.appendAs_kept ?_
  refine State.kept_snd (by with_reducible assumption) ?_; split; dsimp only; with_reducible assumption
  with_reducible refine State.issueNum_kept ?_; with_reducible assumption

theorem State.tamperMany_kept {kq : List Instr} {s : State} {ty : Nat} {detail : Nat} {k : Nat} (hkq : State.Kept kq
    s) : State.Kept kq (State.tamperMany s ty detail k) := by
  unfold State.tamperMany; refine State.kept_ite ?_ ?_; with_reducible assumption; lift_lets -underBinder; intro v7
  refine State.kept_have (q := kq) v7 ?_ (fun hs => ?_); subst v7; with_reducible refine State.tamperCount_kept ?_
  with_reducible assumption; intro v9; refine State.kept_have (q := kq) v9 ?_ (fun hs => ?_); clear_value v7; subst v9
  with_reducible refine State.append_kept ?_; with_reducible assumption; clear_value v7 v9
  with_reducible refine State.raise_kept ?_; with_reducible assumption

theorem State.tamper_kept {kq : List Instr} {s : State} {ty : Nat} {detail : Nat} (hkq : State.Kept kq s) : State.Kept
    kq (State.tamper s ty detail) := by
  unfold State.tamper; with_reducible refine State.tamperMany_kept ?_; with_reducible assumption

theorem State.partitionDenied_kept {kq : List Instr} {s : State} {ini : Nat} {target : Nat} {r : Res} (hkq :
    State.Kept kq s) : State.Kept kq (State.partitionDenied s ini target r) := by
  unfold State.partitionDenied; lift_lets -underBinder; intro v7; refine State.kept_have (q := kq) v7 ?_ (fun hs => ?_)
  subst v7; with_reducible refine State.alert_kept (State.incSat_kept ?_); with_reducible assumption; intro v9
  refine State.kept_have (q := kq) v9 ?_ (fun hs => ?_); clear_value v7; subst v9
  with_reducible refine State.wr_kept (State.wr_kept ?_); with_reducible assumption; clear_value v7 v9
  refine State.kept_ite ?_ ?_; with_reducible refine State.tamper_kept ?_; with_reducible assumption
  refine State.kept_ite ?_ ?_; with_reducible refine State.tamper_kept ?_; with_reducible assumption
  with_reducible assumption

theorem State.signKeyChanged_kept {kq : List Instr} {s : State} (hkq : State.Kept kq s) : State.Kept kq
    (State.signKeyChanged s) := by
  unfold State.signKeyChanged; with_reducible refine State.tamper_kept ?_; with_reducible assumption

theorem State.signOldest_kept {kq : List Instr} {s : State} (hkq : State.Kept kq s) : State.Kept kq (State.signOldest
    s) := by
  unfold State.signOldest; split; refine State.kept_ite ?_ ?_; with_reducible assumption; lift_lets -underBinder
  intro v14; refine State.kept_have (q := kq) v14 ?_ (fun hs => ?_); subst v14; refine State.kept_ite ?_ ?_
  with_reducible refine State.signKeyChanged_kept (State.rederive_kept ?_); with_reducible assumption
  with_reducible assumption; intro v16; clear_value v16; intro v17
  refine State.kept_have (q := kq) v17 ?_ (fun hs => ?_); clear_value v14; subst v17
  with_reducible refine State.useNode_kept ?_; with_reducible assumption; intro v19; clear_value v19; intro v20
  clear_value v20; intro v21; clear_value v21; intro v22; clear_value v22; intro v23
  refine State.kept_have (q := kq) v23 ?_ (fun hs => ?_); clear_value v14 v17; subst v23
  with_reducible refine State.kept_upd ?_; with_reducible assumption; clear_value v14 v17 v23
  with_reducible refine State.wr_kept ?_; with_reducible assumption; with_reducible assumption

theorem State.calNote_kept {kq : List Instr} {s : State} {off : Nat} {old : Nat} {new : Nat} (hkq : State.Kept kq s) :
    State.Kept kq (State.calNote s off old new) := by
  unfold State.calNote; lift_lets -underBinder; intro v7; refine State.kept_have (q := kq) v7 ?_ (fun hs => ?_)
  subst v7; split; with_reducible refine State.kept_upd ?_; with_reducible assumption; with_reducible assumption
  clear_value v7; with_reducible refine State.tamper_kept ?_; with_reducible assumption

theorem State.modMp_kept {kq : List Instr} {s : State} {m : Nat} {f : MeterPoint → MeterPoint} (hkq : State.Kept kq s)
    : State.Kept kq (State.modMp s m f) := by
  unfold State.modMp; with_reducible refine State.kept_upd ?_; with_reducible assumption

theorem State.modTrk_kept {kq : List Instr} {s : State} {m : Nat} {f : Trk → Trk} (hkq : State.Kept kq s) : State.Kept
    kq (State.modTrk s m f) := by
  unfold State.modTrk; with_reducible refine State.kept_upd ?_; with_reducible assumption

theorem State.setChain_kept {kq : List Instr} {s : State} {c : Nat} {h : Chain} (hkq : State.Kept kq s) : State.Kept
    kq (State.setChain s c h) := by
  unfold State.setChain; with_reducible refine State.kept_upd ?_; with_reducible assumption

theorem State.setSamples_kept {kq : List Instr} {s : State} {c : Nat} {l : List GridSample} (hkq : State.Kept kq s) :
    State.Kept kq (State.setSamples s c l) := by
  unfold State.setSamples; with_reducible refine State.kept_upd ?_; with_reducible assumption

theorem State.updateGd_kept {kq : List Instr} {s : State} {c : Nat} (hkq : State.Kept kq s) : State.Kept kq
    (State.updateGd s c) := by
  unfold State.updateGd; with_reducible refine State.wrInt_kept (State.wrInt_kept ?_); with_reducible assumption

theorem State.setMpState_kept {kq : List Instr} {s : State} {m : Nat} {new : Nat} {role : Nat} (hkq : State.Kept kq s)
    : State.Kept kq (State.setMpState s m new role) := by
  unfold State.setMpState; lift_lets -underBinder; intro v7; clear_value v7; intro v8
  refine State.kept_have (q := kq) v8 ?_ (fun hs => ?_); subst v8
  with_reducible refine State.raise_kept (State.wr_kept ?_); with_reducible assumption; intro v10; clear_value v10
  intro v11; refine State.kept_have (q := kq) v11 ?_ (fun hs => ?_); clear_value v8; subst v11
  refine State.kept_ite ?_ ?_; with_reducible refine State.tamper_kept (State.raise_kept ?_); with_reducible assumption
  with_reducible assumption; intro v13; refine State.kept_have (q := kq) v13 ?_ (fun hs => ?_); clear_value v8 v11
  subst v13; refine State.kept_ite ?_ ?_; with_reducible refine State.raise_kept ?_; with_reducible assumption
  with_reducible assumption; intro v15; refine State.kept_have (q := kq) v15 ?_ (fun hs => ?_); clear_value v8 v11 v13
  subst v15; refine State.kept_ite ?_ ?_; with_reducible refine State.modMp_kept ?_; with_reducible assumption
  with_reducible assumption; intro v17; clear_value v17 v8 v11 v13 v15; refine State.kept_ite ?_ ?_
  with_reducible assumption; refine State.kept_ite ?_ ?_; with_reducible refine State.modMp_kept ?_
  with_reducible assumption; with_reducible assumption

theorem State.mpEval_kept {kq : List Instr} {s : State} {m : Nat} (hkq : State.Kept kq s) : State.Kept kq
    (State.mpEval s m) := by
  unfold State.mpEval; split; with_reducible refine State.setMpState_kept ?_; with_reducible assumption

theorem State.mpEvalAll_kept {kq : List Instr} {s : State} (hkq : State.Kept kq s) : State.Kept kq (State.mpEvalAll s)
    := by
  unfold State.mpEvalAll; refine State.kept_forEach (fun x s h => ?_) _ _ ?_; with_reducible refine State.mpEval_kept ?_
  with_reducible assumption; with_reducible assumption

theorem State.auxDecide_kept {kq : List Instr} {s : State} (hkq : State.Kept kq s) : State.Kept kq (State.auxDecide s)
    := by
  unfold State.auxDecide; split; refine State.kept_ite ?_ ?_; with_reducible assumption; split; lift_lets -underBinder
  intro v15; clear_value v15; intro v16; clear_value v16; intro v17
  refine State.kept_have (q := kq) v17 ?_ (fun hs => ?_); subst v17; with_reducible refine State.kept_upd ?_
  with_reducible assumption; intro v19; clear_value v19; intro v20
  refine State.kept_have (q := kq) v20 ?_ (fun hs => ?_); clear_value v17; subst v20
  with_reducible refine State.incSat_kept ?_; with_reducible assumption; intro v22; clear_value v22 v17 v20
  refine State.kept_ite ?_ ?_; with_reducible refine State.kept_upd ?_; with_reducible assumption
  refine State.kept_ite ?_ ?_; with_reducible assumption; with_reducible refine State.raise_kept (State.kept_upd ?_)
  with_reducible assumption; with_reducible assumption

theorem State.auxUnlocked_kept {kq : List Instr} {s : State} {m : Nat} (hkq : State.Kept kq s) : State.Kept kq
    (State.auxUnlocked s m) := by
  unfold State.auxUnlocked; split; refine State.kept_ite ?_ ?_; with_reducible refine State.kept_upd ?_
  with_reducible assumption; with_reducible assumption; with_reducible assumption

theorem State.setTrk_kept {kq : List Instr} {s : State} {m : Nat} {new : Nat} {reason : Nat} (hkq : State.Kept kq s) :
    State.Kept kq (State.setTrk s m new reason) := by
  unfold State.setTrk; lift_lets -underBinder; intro v7; clear_value v7; intro v8
  refine State.kept_have (q := kq) v8 ?_ (fun hs => ?_); subst v8
  with_reducible refine State.wr_kept (State.auxDecide_kept ?_); with_reducible assumption; intro v10
  refine State.kept_have (q := kq) v10 ?_ (fun hs => ?_); clear_value v8; subst v10; refine State.kept_ite ?_ ?_
  with_reducible refine State.auxUnlocked_kept (State.incSat_kept ?_); with_reducible assumption
  with_reducible assumption; intro v12; refine State.kept_have (q := kq) v12 ?_ (fun hs => ?_); clear_value v8 v10
  subst v12; refine State.kept_ite ?_ ?_; with_reducible assumption; refine State.kept_forEach (fun x s h => ?_) _ _ ?_
  with_reducible refine State.wr_kept (State.wr_kept ?_); with_reducible assumption; with_reducible assumption
  clear_value v8 v10 v12; with_reducible refine State.raise_kept ?_; with_reducible assumption

theorem State.openCycle_kept {kq : List Instr} {s : State} {m : Nat} {z : Nat} {p : Nat} (hkq : State.Kept kq s) :
    State.Kept kq (State.openCycle s m z p) := by
  unfold State.openCycle; lift_lets -underBinder; intro v7; clear_value v7; intro v8
  refine State.kept_have (q := kq) v8 ?_ (fun hs => ?_); subst v8; with_reducible refine State.modTrk_kept ?_
  with_reducible assumption; clear_value v8; with_reducible refine State.wr_kept (State.wr_kept (State.wr_kept ?_))
  with_reducible assumption

theorem State.gridRuns_kept {kq : List Instr} {s : State} {m : Nat} (hkq : State.Kept kq s) : State.Kept kq
    (State.gridRuns s m) := by
  unfold State.gridRuns; refine State.kept_ite ?_ ?_; with_reducible refine State.openCycle_kept ?_
  with_reducible assumption; with_reducible assumption

theorem State.clearTrk_kept {kq : List Instr} {s : State} {m : Nat} (hkq : State.Kept kq s) : State.Kept kq
    (State.clearTrk s m) := by
  unfold State.clearTrk; with_reducible refine State.modTrk_kept ?_; with_reducible assumption

theorem State.trkRefresh_kept {kq : List Instr} {s : State} {m : Nat} (hkq : State.Kept kq s) : State.Kept kq
    (State.trkRefresh s m) := by
  unfold State.trkRefresh; lift_lets -underBinder; intro v5; clear_value v5; intro v6; clear_value v6
  refine State.kept_ite ?_ ?_; with_reducible refine State.setTrk_kept (State.clearTrk_kept ?_)
  with_reducible assumption; refine State.kept_ite ?_ ?_
  with_reducible refine State.setTrk_kept (State.clearTrk_kept (State.gridRuns_kept ?_)); with_reducible assumption
  with_reducible assumption

theorem State.trkRefreshAll_kept {kq : List Instr} {s : State} (hkq : State.Kept kq s) : State.Kept kq
    (State.trkRefreshAll s) := by
  unfold State.trkRefreshAll; refine State.kept_forEach (fun x s h => ?_) _ _ ?_
  with_reducible refine State.trkRefresh_kept ?_; with_reducible assumption; with_reducible assumption

theorem State.finishBlend_kept {kq : List Instr} {s : State} {b : Blend} {cs : List Nat} {t1 : Nat} {cut : Nat} (hkq :
    State.Kept kq s) : State.Kept kq (State.finishBlend s b cs t1 cut) := by
  unfold State.finishBlend; lift_lets -underBinder; intro v8; clear_value v8; intro v9; clear_value v9; intro v10
  clear_value v10; intro v11; clear_value v11; intro v12; refine State.kept_have (q := kq) v12 ?_ (fun hs => ?_)
  subst v12; with_reducible refine State.kept_upd ?_; with_reducible assumption; intro v14
  refine State.kept_have (q := kq) v14 ?_ (fun hs => ?_); clear_value v12; subst v14
  refine State.kept_forEach (fun x s h => ?_) _ _ ?_; with_reducible refine State.wr_kept ?_; with_reducible assumption
  with_reducible assumption; intro v16; refine State.kept_have (q := kq) v16 ?_ (fun hs => ?_); clear_value v12 v14
  subst v16; with_reducible refine State.raise_kept ?_; with_reducible assumption; intro v18
  refine State.kept_have (q := kq) v18 ?_ (fun hs => ?_); clear_value v12 v14 v16; subst v18; split
  with_reducible refine State.raise_kept ?_; with_reducible assumption; with_reducible assumption
  clear_value v12 v14 v16 v18; refine State.kept_ite ?_ ?_; with_reducible assumption
  with_reducible refine State.finaliseOpt_kept ?_; with_reducible assumption

theorem State.cutBlend_kept {kq : List Instr} {s : State} {c : Nat} (hkq : State.Kept kq s) : State.Kept kq
    (State.cutBlend s c) := by
  unfold State.cutBlend; split; with_reducible assumption; with_reducible refine State.finishBlend_kept ?_
  with_reducible assumption

theorem State.emptyChain_kept {kq : List Instr} {s : State} {c : Nat} (hkq : State.Kept kq s) : State.Kept kq
    (State.emptyChain s c) := by
  unfold State.emptyChain; with_reducible refine State.setSamples_kept (State.setChain_kept ?_)
  with_reducible assumption

theorem State.restartChain_kept {kq : List Instr} {s : State} {c : Nat} (hkq : State.Kept kq s) : State.Kept kq
    (State.restartChain s c) := by
  unfold State.restartChain; lift_lets -underBinder; intro v5; clear_value v5; intro v6
  refine State.kept_have (q := kq) v6 ?_ (fun hs => ?_); subst v6
  with_reducible refine State.emptyChain_kept (State.kept_upd ?_); with_reducible assumption; intro v8
  refine State.kept_have (q := kq) v8 ?_ (fun hs => ?_); clear_value v6; subst v8
  with_reducible refine State.wr_kept (State.wr_kept (State.wr_kept ?_)); with_reducible assumption; intro v10
  refine State.kept_have (q := kq) v10 ?_ (fun hs => ?_); clear_value v6 v8; subst v10
  with_reducible refine State.updateGd_kept (State.cutBlend_kept ?_); with_reducible assumption; clear_value v6 v8 v10
  refine State.kept_forEach (fun x s h => ?_) _ _ ?_; with_reducible refine State.mpEval_kept ?_
  with_reducible assumption; with_reducible assumption

theorem State.startBlend_kept {kq : List Instr} {s : State} {cs : List Nat} {ctx : Option Ctx} {cal : Option (List
    Nat)} (hkq : State.Kept kq s) : State.Kept kq (State.startBlend s cs ctx cal) := by
  unfold State.startBlend; lift_lets -underBinder; intro v7; refine State.kept_have (q := kq) v7 ?_ (fun hs => ?_)
  subst v7; refine State.kept_forEach (fun x s h => ?_) _ _ ?_; with_reducible refine State.wr_kept ?_
  with_reducible assumption; with_reducible assumption; intro v9; clear_value v9; intro v10; clear_value v10 v7
  with_reducible refine State.kept_upd ?_; with_reducible assumption

theorem State.filtOverflow_kept {kq : List Instr} {s : State} {c : Nat} {stages : Nat} {k : Nat} (hkq : State.Kept kq
    s) : State.Kept kq (State.filtOverflow s c stages k) := by
  unfold State.filtOverflow; lift_lets -underBinder; intro v7; refine State.kept_have (q := kq) v7 ?_ (fun hs => ?_)
  subst v7; with_reducible refine State.wr_kept ?_; with_reducible assumption; intro v9
  refine State.kept_have (q := kq) v9 ?_ (fun hs => ?_); clear_value v7; subst v9
  with_reducible refine State.addSat_kept ?_; with_reducible assumption; intro v11; clear_value v11; intro v12
  clear_value v12; intro v13; clear_value v13; intro v14; clear_value v14; intro v15
  refine State.kept_have (q := kq) v15 ?_ (fun hs => ?_); clear_value v7 v9; subst v15
  with_reducible refine State.kept_upd ?_; with_reducible assumption; clear_value v7 v9 v15; refine State.kept_ite ?_ ?_
  with_reducible refine State.raise_kept ?_; with_reducible assumption; with_reducible refine State.kept_upd ?_
  with_reducible assumption

theorem State.modAcct_kept {kq : List Instr} {s : State} {m : Nat} {f : Account → Account} (hkq : State.Kept kq s) :
    State.Kept kq (State.modAcct s m f) := by
  unfold State.modAcct; with_reducible refine State.kept_upd ?_; with_reducible assumption

theorem State.setRegion_kept {kq : List Instr} {s : State} {r : Nat} {d : DRegion} (hkq : State.Kept kq s) :
    State.Kept kq (State.setRegion s r d) := by
  unfold State.setRegion; with_reducible refine State.kept_upd ?_; with_reducible assumption

theorem State.bandShow_kept {kq : List Instr} {s : State} (hkq : State.Kept kq s) : State.Kept kq (State.bandShow s)
    := by
  unfold State.bandShow; with_reducible refine State.wr_kept ?_; with_reducible assumption

theorem State.dispTemp_kept {kq : List Instr} {s : State} {v : Int} {ovr : Bool} (hkq : State.Kept kq s) : State.Kept
    kq (State.dispTemp s v ovr) := by
  unfold State.dispTemp; lift_lets -underBinder; intro v6; refine State.kept_have (q := kq) v6 ?_ (fun hs => ?_)
  subst v6; with_reducible refine State.setFlag_kept (State.wrInt_kept ?_); with_reducible assumption; intro v8
  clear_value v8; intro v9; refine State.kept_have (q := kq) v9 ?_ (fun hs => ?_); clear_value v6; subst v9
  with_reducible refine State.kept_upd ?_; with_reducible assumption; intro v11; clear_value v11; intro v12
  clear_value v12; intro v13; clear_value v13; intro v14; refine State.kept_have (q := kq) v14 ?_ (fun hs => ?_)
  clear_value v6 v9; subst v14; with_reducible refine State.kept_upd ?_; with_reducible assumption
  clear_value v6 v9 v14; with_reducible refine State.bandShow_kept ?_; refine State.kept_ite ?_ ?_
  with_reducible assumption; with_reducible refine State.raise_kept ?_; with_reducible assumption

theorem State.dispAux_kept {kq : List Instr} {s : State} {i : Nat} {v : Nat} {ovr : Bool} (hkq : State.Kept kq s) :
    State.Kept kq (State.dispAux s i v ovr) := by
  unfold State.dispAux; refine State.kept_ite ?_ ?_; with_reducible refine State.dispTemp_kept ?_
  with_reducible assumption; with_reducible assumption

theorem State.dispWake_kept {kq : List Instr} {s : State} (hkq : State.Kept kq s) : State.Kept kq (State.dispWake s)
    := by
  unfold State.dispWake; refine State.kept_ite ?_ ?_; with_reducible assumption; refine State.kept_ite ?_ ?_
  with_reducible refine State.kept_upd ?_; with_reducible assumption; refine State.kept_ite ?_ ?_
  with_reducible refine State.wr_kept ?_; with_reducible assumption; with_reducible assumption

theorem State.dispTake_kept {kq : List Instr} {s : State} {st : RegSt} {x : Nat} {y : Nat} {w : Nat} {h : Nat} {mode :
    Nat} {c : Option Ctx} {cask : Nat} (hkq : State.Kept kq s) : State.Kept kq (State.dispTake s st x y w h mode c
    cask) := by
  unfold State.dispTake; split; with_reducible assumption; lift_lets -underBinder; intro v18; clear_value v18; intro v19
  refine State.kept_have (q := kq) v19 ?_ (fun hs => ?_); subst v19; with_reducible refine State.setRegion_kept ?_
  with_reducible assumption; intro v21; clear_value v21 v19; with_reducible refine State.kept_upd ?_
  with_reducible assumption

theorem State.dispStart_kept {kq : List Instr} {s : State} {x : Nat} {y : Nat} {w : Nat} {h : Nat} {mode : Nat} {c :
    Option Ctx} (hkq : State.Kept kq s) : State.Kept kq (State.dispStart s x y w h mode c) := by
  unfold State.dispStart; refine State.kept_ite ?_ ?_; with_reducible assumption; lift_lets -underBinder; intro v10
  clear_value v10; intro v11; refine State.kept_have (q := kq) v11 ?_ (fun hs => ?_); subst v11; split
  with_reducible refine State.setRegion_kept ?_; with_reducible assumption; with_reducible refine State.dispTake_kept ?_
  with_reducible assumption; clear_value v11; with_reducible refine State.dispWake_kept ?_; with_reducible assumption

theorem State.dispArm_kept {kq : List Instr} {s : State} {k : Nat} {a : CaskAct} (hkq : State.Kept kq s) : State.Kept
    kq (State.dispArm s k a) := by
  unfold State.dispArm; split; refine State.kept_ite ?_ ?_; with_reducible assumption
  with_reducible refine State.dispTake_kept ?_; with_reducible assumption; with_reducible assumption

theorem State.latchRegion_kept {kq : List Instr} {s : State} {r : Nat} {d : DRegion} (hkq : State.Kept kq s) :
    State.Kept kq (State.latchRegion s r d) := by
  unfold State.latchRegion; split; lift_lets -underBinder; intro v12; clear_value v12; intro v13; clear_value v13
  intro v14; clear_value v14; intro v15; clear_value v15; with_reducible refine State.setRegion_kept ?_
  with_reducible assumption

theorem State.startRegion_kept {kq : List Instr} {s : State} {r : Nat} (hkq : State.Kept kq s) : State.Kept kq
    (State.startRegion s r) := by
  unfold State.startRegion; lift_lets -underBinder; intro v5; clear_value v5; intro v6; clear_value v6; intro v7
  clear_value v7; with_reducible refine State.latchRegion_kept (State.kept_upd ?_); with_reducible assumption

theorem State.vintageFrame_kept {kq : List Instr} {s : State} (hkq : State.Kept kq s) : State.Kept kq
    (State.vintageFrame s) := by
  unfold State.vintageFrame; lift_lets -underBinder; intro v4; clear_value v4; intro v5; clear_value v5; intro v6
  clear_value v6; intro v7; clear_value v7; with_reducible refine State.kept_upd ?_; with_reducible assumption

theorem State.imbalance_kept {kq : List Instr} {s : State} (hkq : State.Kept kq s) : State.Kept kq (State.imbalance s)
    := by
  unfold State.imbalance; lift_lets -underBinder; intro v4; clear_value v4; intro v5; clear_value v5
  refine State.kept_forEach (fun x s h => ?_) _ _ ?_; lift_lets -underBinder; intro v9; clear_value v9; intro v10
  clear_value v10; intro v11; clear_value v11; intro v12; clear_value v12; refine State.kept_ite ?_ ?_
  with_reducible refine State.raise_kept (State.kept_upd ?_); with_reducible assumption; refine State.kept_ite ?_ ?_
  with_reducible refine State.kept_upd ?_; with_reducible assumption; with_reducible assumption
  with_reducible assumption

theorem State.meterDisp_kept {kq : List Instr} {s : State} (hkq : State.Kept kq s) : State.Kept kq (State.meterDisp s)
    := by
  unfold State.meterDisp; refine State.kept_ite ?_ ?_; with_reducible refine State.islandStop_kept ?_
  with_reducible assumption; with_reducible assumption

theorem State.dispIdle_kept {kq : List Instr} {s : State} (hkq : State.Kept kq s) : State.Kept kq (State.dispIdle s)
    := by
  unfold State.dispIdle; refine State.kept_ite ?_ ?_; lift_lets -underBinder; intro v4
  refine State.kept_have (q := kq) v4 ?_ (fun hs => ?_); subst v4; refine State.kept_ite ?_ ?_
  with_reducible assumption; with_reducible refine State.wr_kept ?_; with_reducible assumption; intro v6
  clear_value v6 v4; with_reducible refine State.meterDisp_kept (State.wr_kept (State.kept_upd ?_))
  with_reducible assumption; with_reducible assumption

theorem State.dropRegion_kept {kq : List Instr} {s : State} {r : Nat} {code : Nat} {status : Nat} (hkq : State.Kept kq
    s) : State.Kept kq (State.dropRegion s r code status) := by
  unfold State.dropRegion; lift_lets -underBinder; intro v7; clear_value v7; intro v8
  refine State.kept_have (q := kq) v8 ?_ (fun hs => ?_); subst v8; with_reducible refine State.setRegion_kept ?_
  with_reducible assumption; clear_value v8; with_reducible refine State.finaliseOpt_kept (State.raise_kept ?_)
  with_reducible assumption

theorem State.cutRegion_kept {kq : List Instr} {s : State} {stop : Option Nat} {r : Nat} (hkq : State.Kept kq s) :
    State.Kept kq (State.cutRegion s stop r) := by
  unfold State.cutRegion; lift_lets -underBinder; intro v6; clear_value v6; intro v7; clear_value v7; intro v8
  clear_value v8; intro v9; refine State.kept_have (q := kq) v9 ?_ (fun hs => ?_); subst v9; refine State.kept_ite ?_ ?_
  with_reducible assumption; with_reducible refine State.incSat_kept ?_; with_reducible assumption; clear_value v9
  with_reducible refine State.setRegion_kept ?_; with_reducible assumption

theorem State.dispCut_kept {kq : List Instr} {s : State} {stop : Option Nat} (hkq : State.Kept kq s) : State.Kept kq
    (State.dispCut s stop) := by
  unfold State.dispCut; lift_lets -underBinder; intro v5; refine State.kept_have (q := kq) v5 ?_ (fun hs => ?_)
  subst v5; refine State.kept_forEach (fun x s h => ?_) _ _ ?_; with_reducible refine State.cutRegion_kept ?_
  with_reducible assumption; with_reducible assumption; intro v7; refine State.kept_have (q := kq) v7 ?_ (fun hs => ?_)
  clear_value v5; subst v7; with_reducible refine State.wr_kept (State.wr_kept ?_); with_reducible assumption; intro v9
  clear_value v9 v5 v7; with_reducible refine State.kept_upd ?_; with_reducible assumption

theorem State.legalContent_kept {kq : List Instr} {s : State} (hkq : State.Kept kq s) : State.Kept kq
    (State.legalContent s).2 := by
  unfold State.legalContent; lift_lets -underBinder; intro v4; clear_value v4; refine State.kept_ite1 ?_ ?_; split
  dsimp only; refine State.kept_snd (by with_reducible assumption) ?_; with_reducible refine State.takeFree_kept ?_
  with_reducible assumption; dsimp only; with_reducible assumption

theorem State.paintStep_kept {kq : List Instr} {s : State} {p : SegPaint} (hkq : State.Kept kq s) : State.Kept kq
    (State.paintStep s p) := by
  unfold State.paintStep; with_reducible refine State.kept_upd ?_; with_reducible assumption

theorem State.segSteps_kept {kq : List Instr} : ∀ {k : Nat} {s : State}, State.Kept kq s → State.Kept kq (State.segSteps k s)
  | 0, _, h => h
  | k + 1, s, h => by
    have h0 : ∀ (t : State) (d : DispSt), State.Kept kq t → State.Kept kq { t with disp := d } := fun _ _ h => h
    simp only [State.segSteps]
    split
    · exact h
    · refine State.kept_ite h ?_
      split
      · exact State.segSteps_kept (State.paintStep_kept (h0 _ _ h))
      · exact State.segSteps_kept (State.paintStep_kept (h0 _ _ h))
      · exact State.segSteps_kept (State.paintStep_kept (h0 _ _ h))
      · exact State.segSteps_kept (State.paintStep_kept (State.raise_kept (h0 _ _ h)))
      · exact State.kept_ite (h0 _ _ h) (State.segSteps_kept (State.paintStep_kept (h0 _ _ h)))

theorem State.segPaint_kept {kq : List Instr} {s : State} {content : Nat} (hkq : State.Kept kq s) : State.Kept kq
    (State.segPaint s content) := by
  unfold State.segPaint; lift_lets -underBinder; intro v5; clear_value v5; intro v6
  refine State.kept_have (q := kq) v6 ?_ (fun hs => ?_); subst v6; with_reducible refine State.kept_upd ?_
  with_reducible assumption; clear_value v6; split; with_reducible assumption; lift_lets -underBinder; intro v12
  clear_value v12; intro v13; clear_value v13; with_reducible refine State.segSteps_kept (State.kept_upd ?_)
  with_reducible assumption

theorem State.legalRepaint_kept {kq : List Instr} {s : State} (hkq : State.Kept kq s) : State.Kept kq
    (State.legalRepaint s) := by
  unfold State.legalRepaint; lift_lets -underBinder; intro v4; clear_value v4; intro v5
  refine State.kept_have (q := kq) v5 ?_ (fun hs => ?_); subst v5; with_reducible refine State.kept_upd ?_
  with_reducible assumption; clear_value v5; split; with_reducible refine State.segPaint_kept ?_
  refine State.kept_snd (by with_reducible assumption) ?_; with_reducible refine State.legalContent_kept ?_
  with_reducible assumption

theorem State.segRecover_kept {kq : List Instr} {s : State} (hkq : State.Kept kq s) : State.Kept kq (State.segRecover
    s) := by
  unfold State.segRecover; split; with_reducible assumption; lift_lets -underBinder; intro v9; clear_value v9; intro v10
  clear_value v10; with_reducible refine State.segSteps_kept (State.kept_upd ?_); with_reducible assumption

theorem State.setCap_kept {kq : List Instr} {s : State} {p : Nat} {c : Capture} (hkq : State.Kept kq s) : State.Kept
    kq (State.setCap s p c) := by
  unfold State.setCap; with_reducible refine State.kept_upd ?_; with_reducible assumption

theorem State.endCapture_kept {kq : List Instr} {s : State} {p : Nat} (hkq : State.Kept kq s) : State.Kept kq
    (State.endCapture s p) := by
  unfold State.endCapture; with_reducible refine State.setFlag_kept (State.wr_kept (State.setCap_kept ?_))
  with_reducible assumption

theorem State.setWave_kept {kq : List Instr} {s : State} {m : Nat} {c : Capture} (hkq : State.Kept kq s) : State.Kept
    kq (State.setWave s m c) := by
  unfold State.setWave; with_reducible refine State.kept_upd ?_; with_reducible assumption

theorem State.sourceBlock_kept {kq : List Instr} {s : State} {src : Nat} {mtbFirst : Nat} {data : List (List Int)}
    (hkq : State.Kept kq s) : State.Kept kq (State.sourceBlock s src mtbFirst data) := by
  unfold State.sourceBlock; refine State.kept_ite ?_ ?_; lift_lets -underBinder; intro v7; clear_value v7; intro v8
  clear_value v8; intro v9; clear_value v9; intro v10; refine State.kept_have (q := kq) v10 ?_ (fun hs => ?_); subst v10
  refine State.kept_ite ?_ ?_; with_reducible refine State.addSat_kept ?_; with_reducible assumption
  with_reducible assumption; intro v12; refine State.kept_have (q := kq) v12 ?_ (fun hs => ?_); clear_value v10
  subst v12; with_reducible refine State.streamBlock_kept (State.setCap_kept ?_); with_reducible assumption
  clear_value v10 v12; refine State.kept_ite ?_ ?_; with_reducible assumption; refine State.kept_ite ?_ ?_
  with_reducible assumption; with_reducible refine State.endCapture_kept ?_; with_reducible assumption
  with_reducible refine State.drainSource_kept ?_; with_reducible assumption

theorem State.setWaveRecs_kept {kq : List Instr} {s : State} {m : Nat} {rs : List (List Int)} (hkq : State.Kept kq s)
    : State.Kept kq (State.setWaveRecs s m rs) := by
  unfold State.setWaveRecs; with_reducible refine State.kept_upd ?_; with_reducible assumption

theorem State.waveAdd_kept {kq : List Instr} {s : State} {m : Nat} {r : List Int} (hkq : State.Kept kq s) : State.Kept
    kq (State.waveAdd s m r) := by
  unfold State.waveAdd; lift_lets -underBinder; intro v6; clear_value v6; refine State.kept_ite ?_ ?_
  with_reducible assumption; with_reducible refine State.setWaveRecs_kept (State.setWave_kept ?_)
  with_reducible assumption

theorem State.waveBlock_kept {kq : List Instr} {s : State} {m : Nat} (hkq : State.Kept kq s) : State.Kept kq
    (State.waveBlock s m) := by
  unfold State.waveBlock; lift_lets -underBinder; intro v5; clear_value v5; intro v6; clear_value v6; intro v7
  clear_value v7; refine State.kept_ite ?_ ?_; with_reducible refine State.drainSource_kept ?_
  with_reducible assumption; with_reducible refine State.streamBlock_kept (State.setWaveRecs_kept ?_)
  with_reducible assumption

theorem State.startEntry_kept {kq : List Instr} {s : State} {q : Nat} {e : Nat} (hkq : State.Kept kq s) : State.Kept
    kq (State.startEntry s q e) := by
  unfold State.startEntry; lift_lets -underBinder; intro v6; clear_value v6; intro v7; clear_value v7; intro v8
  clear_value v8; with_reducible refine State.kept_upd ?_; with_reducible assumption

theorem State.startPass_kept {kq : List Instr} {s : State} {conv : Nat} (hkq : State.Kept kq s) : State.Kept kq
    (State.startPass s conv) := by
  unfold State.startPass; split; with_reducible assumption; split
  with_reducible refine State.startEntry_kept (State.kept_upd ?_); with_reducible assumption; with_reducible assumption

theorem State.putSeq_kept {kq : List Instr} {s : State} {q : Nat} {ctl : Nat} {ents : List Nat} (hkq : State.Kept kq
    s) : State.Kept kq (State.putSeq s q ctl ents) := by
  unfold State.putSeq; lift_lets -underBinder; intro v7; refine State.kept_have (q := kq) v7 ?_ (fun hs => ?_); subst v7
  with_reducible refine State.writeFields_kept ?_; with_reducible assumption; intro v9
  refine State.kept_have (q := kq) v9 ?_ (fun hs => ?_); clear_value v7; subst v9
  with_reducible refine State.wr_kept ?_; with_reducible assumption; intro v11
  refine State.kept_have (q := kq) v11 ?_ (fun hs => ?_); clear_value v7 v9; subst v11
  refine State.kept_forEach (fun x s h => ?_) _ _ ?_; with_reducible refine State.writeFields_kept ?_
  with_reducible assumption; with_reducible assumption; intro v13
  refine State.kept_have (q := kq) v13 ?_ (fun hs => ?_); clear_value v7 v9 v11; subst v13
  refine State.kept_forEach (fun x s h => ?_) _ _ ?_; with_reducible refine State.save_kept ?_
  with_reducible assumption; with_reducible assumption; clear_value v7 v9 v11 v13
  refine State.kept_forEach (fun x s h => ?_) _ _ ?_
  with_reducible refine State.save_kept (State.save_kept (State.save_kept ?_)); with_reducible assumption
  with_reducible assumption

theorem State.padc10_kept {kq : List Instr} {s : State} (hkq : State.Kept kq s) : State.Kept kq (State.padc10 s) := by
  unfold State.padc10; with_reducible refine State.setFlag_kept ?_; with_reducible assumption

theorem State.stopSeq_kept {kq : List Instr} {s : State} {q : Nat} (hkq : State.Kept kq s) : State.Kept kq
    (State.stopSeq s q) := by
  unfold State.stopSeq; lift_lets -underBinder; intro v5; refine State.kept_have (q := kq) v5 ?_ (fun hs => ?_)
  subst v5; with_reducible refine State.padc10_kept (State.save_kept (State.wr_kept ?_)); with_reducible assumption
  intro v7; clear_value v7 v5; with_reducible refine State.kept_upd ?_; with_reducible assumption

theorem State.loadSeq_kept {kq : List Instr} {s : State} {q : Nat} {ctl : Nat} {ents : List Nat} (hkq : State.Kept kq
    s) : State.Kept kq (State.loadSeq s q ctl ents) := by
  unfold State.loadSeq; lift_lets -underBinder; intro v7; refine State.kept_have (q := kq) v7 ?_ (fun hs => ?_)
  subst v7; with_reducible refine State.putSeq_kept ?_; with_reducible assumption; clear_value v7
  refine State.kept_ite ?_ ?_; with_reducible refine State.padc10_kept ?_; with_reducible assumption
  with_reducible refine State.stopSeq_kept ?_; with_reducible assumption

theorem State.auxSlowNote_kept {kq : List Instr} {s : State} {before : State} (hkq : State.Kept kq s) : State.Kept kq
    (State.auxSlowNote s before) := by
  unfold State.auxSlowNote; refine State.kept_forEach (fun x s h => ?_) _ _ ?_
  with_reducible refine State.raise_kept ?_; with_reducible assumption; with_reducible assumption

theorem State.auxSlowAll_kept {kq : List Instr} {s : State} (hkq : State.Kept kq s) : State.Kept kq (State.auxSlowAll
    s) := by
  unfold State.auxSlowAll; refine State.kept_forEach (fun x s h => ?_) _ _ ?_; with_reducible refine State.raise_kept ?_
  with_reducible assumption; with_reducible assumption

theorem State.endPass_kept {kq : List Instr} {s : State} {conv : Nat} {q : Nat} (hkq : State.Kept kq s) : State.Kept
    kq (State.endPass s conv q) := by
  unfold State.endPass; lift_lets -underBinder; intro v6; refine State.kept_have (q := kq) v6 ?_ (fun hs => ?_)
  with_reducible assumption; intro v8; clear_value v8; intro v9; refine State.kept_have (q := kq) v9 ?_ (fun hs => ?_)
  clear_value v6; subst v9; with_reducible refine State.kept_upd ?_; with_reducible assumption; intro v11
  refine State.kept_have (q := kq) v11 ?_ (fun hs => ?_); clear_value v6 v9; subst v11; split
  with_reducible refine State.loadSeq_kept (State.kept_upd ?_); with_reducible assumption; with_reducible assumption
  intro v13; refine State.kept_have (q := kq) v13 ?_ (fun hs => ?_); clear_value v6 v9 v11; subst v13
  refine State.kept_ite ?_ ?_; with_reducible refine State.stopSeq_kept ?_; with_reducible assumption
  with_reducible assumption; clear_value v6 v9 v11 v13
  with_reducible refine State.auxSlowNote_kept (State.startPass_kept (State.startPass_kept ?_))
  with_reducible assumption

theorem State.auxValue_kept {kq : List Instr} {s : State} {i : Nat} {conv : Nat} {code : Int} (hkq : State.Kept kq s)
    : State.Kept kq (State.auxValue s i conv code).2 := by
  unfold State.auxValue; split; lift_lets -underBinder; intro v15; clear_value v15; refine State.kept_ite1 ?_ ?_
  dsimp only; with_reducible assumption; split; dsimp only; refine State.kept_snd (by with_reducible assumption) ?_
  with_reducible refine State.takeFree_kept ?_; with_reducible assumption

theorem State.insertDelay_kept {kq : List Instr} {s : State} {conv : Nat} {ns : Nat} (hkq : State.Kept kq s) :
    State.Kept kq (State.insertDelay s conv ns) := by
  unfold State.insertDelay; with_reducible refine State.kept_upd ?_; with_reducible assumption

theorem State.auxRecord_kept {kq : List Instr} {s : State} {i : Nat} {flags : Nat} {value : Nat} (hkq : State.Kept kq
    s) : State.Kept kq (State.auxRecord s i flags value) := by
  unfold State.auxRecord; refine State.kept_ite ?_ ?_; with_reducible assumption; lift_lets -underBinder; intro v7
  subst v7; intro v7; clear_value v7; intro v8; clear_value v8; intro v9
  refine State.kept_have (q := kq) v9 ?_ (fun hs => ?_); subst v9; with_reducible refine State.kept_upd ?_
  with_reducible assumption; intro v11; clear_value v11; subst v9; refine State.kept_ite ?_ ?_
  with_reducible refine State.kept_upd ?_; with_reducible assumption
  with_reducible refine State.streamBlock_kept (State.kept_upd (State.kept_upd ?_)); with_reducible assumption

theorem State.auxConvert_kept {kq : List Instr} {s : State} {i : Nat} {conv : Nat} {xs : List Int} {trip : Bool}
    {fixedT : Bool} {lost : Bool} (hkq : State.Kept kq s) : State.Kept kq (State.auxConvert s i conv xs trip fixedT
    lost).2 := by
  unfold State.auxConvert; lift_lets -underBinder; intro v10; clear_value v10; intro v11; clear_value v11; split
  lift_lets -underBinder; intro v18; refine State.kept_have (q := kq) v18 ?_ (fun hs => ?_); subst v18
  with_reducible refine State.setFlag_kept (State.wrInt_kept (State.wr_kept ?_))
  refine State.kept_snd (by with_reducible assumption) ?_; with_reducible refine State.auxValue_kept ?_
  with_reducible assumption; intro v20; refine State.kept_have (q := kq) v20 ?_ (fun hs => ?_); clear_value v18
  subst v20; with_reducible refine State.wr_kept (State.setFlag_kept (State.setFlag_kept ?_)); with_reducible assumption
  intro v22; clear_value v22; intro v23; refine State.kept_have (q := kq) v23 ?_ (fun hs => ?_); clear_value v18 v20
  subst v23; with_reducible refine State.kept_upd ?_; with_reducible assumption; intro v25
  refine State.kept_have (q := kq) v25 ?_ (fun hs => ?_); clear_value v18 v20 v23; subst v25
  refine State.kept_ite ?_ ?_; with_reducible refine State.addSat_kept ?_; with_reducible assumption
  with_reducible assumption; intro v27; refine State.kept_have (q := kq) v27 ?_ (fun hs => ?_)
  clear_value v18 v20 v23 v25; subst v27; refine State.kept_ite ?_ ?_; with_reducible refine State.incSat_kept ?_
  with_reducible assumption; with_reducible assumption; clear_value v18 v20 v23 v25 v27; dsimp only
  with_reducible refine State.dispAux_kept (State.auxRecord_kept ?_); with_reducible assumption

theorem State.calConvert_kept {kq : List Instr} {s : State} {i : Nat} {conv : Nat} {samples : List Int} {trip : Bool}
    (hkq : State.Kept kq s) : State.Kept kq (State.calConvert s i conv samples trip).2.2 := by
  unfold State.calConvert; lift_lets -underBinder; intro v8; clear_value v8; split; lift_lets -underBinder; intro v15
  clear_value v15; intro v16; refine State.kept_have (q := kq) v16 ?_ (fun hs => ?_); subst v16
  with_reducible refine State.auxConvert_kept ?_; with_reducible assumption; clear_value v16; dsimp only
  with_reducible refine State.insertDelay_kept ?_; with_reducible assumption

theorem State.noteFast_kept {kq : List Instr} {s : State} {r : AuxRun} {i : Nat} (hkq : State.Kept kq s) : State.Kept
    kq (State.noteFast s r i) := by
  unfold State.noteFast; refine State.kept_ite ?_ ?_; with_reducible refine State.kept_upd ?_; with_reducible assumption
  with_reducible assumption

theorem execStreamBufferFill_kept {kq : List Instr} {t : Nat} {src : Nat} {mtbFirst : Nat} {data : List (List Int)} {s
    : State} (hkq : State.Kept kq s) : OutKept kq (execStreamBufferFill t src mtbFirst data s) := by
  unfold execStreamBufferFill; refine State.kept_next ?_; with_reducible refine onEvent_kept ?_ ?_; intro _ _
  refine State.kept_ite ?_ ?_; refine State.kept_ite ?_ ?_; with_reducible refine State.waveBlock_kept ?_
  with_reducible assumption; with_reducible refine State.drainSource_kept ?_; with_reducible assumption
  with_reducible refine State.sourceBlock_kept ?_; with_reducible assumption; with_reducible assumption

theorem execChOverload_kept {kq : List Instr} {t : Nat} {c : Nat} {s : State} (hkq : State.Kept kq s) : OutKept kq
    (execChOverload t c s) := by
  unfold execChOverload; refine State.kept_next ?_; with_reducible refine onCore_kept ?_ ?_; intro _ _
  refine State.kept_ite ?_ ?_; with_reducible assumption; lift_lets -underBinder; intro v8
  refine State.kept_have (q := kq) v8 ?_ (fun hs => ?_); subst v8
  with_reducible refine State.incSat_kept (State.wr_kept ?_); with_reducible assumption; intro v10
  refine State.kept_have (q := kq) v10 ?_ (fun hs => ?_); clear_value v8; subst v10; refine State.kept_ite ?_ ?_
  with_reducible refine State.incSat_kept ?_; with_reducible assumption; with_reducible assumption; intro v12
  clear_value v12; intro v13; refine State.kept_have (q := kq) v13 ?_ (fun hs => ?_); clear_value v8 v10; subst v13
  with_reducible refine State.kept_upd ?_; with_reducible assumption; intro v15; clear_value v15; intro v16
  clear_value v16; intro v17; clear_value v17; intro v18; clear_value v18; intro v19
  refine State.kept_have (q := kq) v19 ?_ (fun hs => ?_); clear_value v8 v10 v13; subst v19
  with_reducible refine State.kept_upd ?_; with_reducible assumption; clear_value v8 v10 v13 v19
  refine State.kept_ite ?_ ?_; with_reducible refine State.raise_kept ?_; with_reducible assumption
  with_reducible refine State.kept_upd ?_; with_reducible assumption; with_reducible assumption

theorem execMbsLost_kept {kq : List Instr} {t : Nat} {c : Nat} {s : State} (hkq : State.Kept kq s) : OutKept kq
    (execMbsLost t c s) := by
  unfold execMbsLost; refine State.kept_next ?_; with_reducible refine onCore_kept ?_ ?_; intro _ _
  refine State.kept_ite ?_ ?_; with_reducible assumption; lift_lets -underBinder; intro v8
  refine State.kept_have (q := kq) v8 ?_ (fun hs => ?_); subst v8
  with_reducible refine State.wr_kept (State.wr_kept (State.wr_kept ?_)); with_reducible assumption; intro v10
  refine State.kept_have (q := kq) v10 ?_ (fun hs => ?_); clear_value v8; subst v10
  with_reducible refine State.trkRefreshAll_kept (State.raise_kept ?_); with_reducible assumption; clear_value v8 v10
  refine State.kept_forEach (fun x s h => ?_) _ _ ?_; with_reducible refine State.mpEval_kept ?_
  with_reducible assumption; with_reducible assumption; with_reducible assumption

theorem execMbsRestored_kept {kq : List Instr} {t : Nat} {c : Nat} {s : State} (hkq : State.Kept kq s) : OutKept kq
    (execMbsRestored t c s) := by
  unfold execMbsRestored; refine State.kept_next ?_; with_reducible refine onCore_kept ?_ ?_; intro _ _
  refine State.kept_ite ?_ ?_; with_reducible assumption; lift_lets -underBinder; intro v8; clear_value v8; intro v9
  refine State.kept_have (q := kq) v9 ?_ (fun hs => ?_); subst v9
  with_reducible refine State.setFlag_kept (State.setFlag_kept (State.wr_kept ?_)); with_reducible assumption; intro v11
  refine State.kept_have (q := kq) v11 ?_ (fun hs => ?_); clear_value v9; subst v11
  with_reducible refine State.trkRefreshAll_kept (State.raise_kept ?_); with_reducible assumption; clear_value v9 v11
  refine State.kept_forEach (fun x s h => ?_) _ _ ?_; with_reducible refine State.mpEval_kept ?_
  with_reducible assumption; with_reducible assumption; with_reducible assumption

theorem execAuxSeqDue_kept {kq : List Instr} {t : Nat} {q : Nat} {s : State} (hkq : State.Kept kq s) : OutKept kq
    (execAuxSeqDue t q s) := by
  unfold execAuxSeqDue; refine State.kept_next ?_; with_reducible refine onEvent_kept ?_ ?_; intro _ _
  lift_lets -underBinder; intro v8; clear_value v8; intro v9; clear_value v9; intro v10; clear_value v10; intro v11
  refine State.kept_have (q := kq) v11 ?_ (fun hs => ?_); subst v11; with_reducible refine State.kept_upd ?_
  with_reducible assumption; intro v13; clear_value v13; intro v14
  refine State.kept_have (q := kq) v14 ?_ (fun hs => ?_); clear_value v11; subst v14
  with_reducible refine State.kept_upd ?_; with_reducible assumption; clear_value v11 v14; refine State.kept_ite ?_ ?_
  with_reducible assumption; refine State.kept_ite ?_ ?_; with_reducible refine State.raise_kept (State.incSat_kept ?_)
  with_reducible assumption; with_reducible refine State.startPass_kept ?_; with_reducible assumption
  with_reducible assumption

theorem execAuxConversionDone_kept {kq : List Instr} {t : Nat} {conv : Nat} {samples : List Int} {trip : Bool} {s :
    State} (hkq : State.Kept kq s) : OutKept kq (execAuxConversionDone t conv samples trip s) := by
  unfold execAuxConversionDone; refine State.kept_next ?_; with_reducible refine onEvent_kept ?_ ?_; intro _ _
  lift_lets -underBinder; intro v10; refine State.kept_have (q := kq) v10 ?_ (fun hs => ?_); subst v10
  refine State.kept_ite ?_ ?_; with_reducible refine State.auxDecide_kept ?_; with_reducible assumption
  with_reducible assumption; clear_value v10; split; with_reducible assumption; refine State.kept_ite ?_ ?_
  with_reducible assumption; lift_lets -underBinder; intro v17; clear_value v17; intro v18; clear_value v18; intro v19
  refine State.kept_have (q := kq) v19 ?_ (fun hs => ?_); subst v19
  with_reducible refine State.noteFast_kept (State.auxConvert_kept ?_); with_reducible assumption; clear_value v19
  refine State.kept_ite ?_ ?_; with_reducible refine State.startEntry_kept ?_; with_reducible assumption
  with_reducible refine State.endPass_kept ?_; with_reducible assumption; with_reducible assumption

theorem execAfeSeqLoad_kept {kq : List Instr} {x : Ctx} {q : Nat} {ctl : Nat} {ents : List Nat} {s : State} (hkq :
    State.Kept kq s) : OutKept kq (execAfeSeqLoad x q ctl ents s) := by
  unfold execAfeSeqLoad; refine State.kept_next ?_; with_reducible refine State.command_kept ?_ ?_
  with_reducible assumption; intro _ _; split; with_reducible refine State.complete_kept ?_; with_reducible assumption
  lift_lets -underBinder; intro v14; refine State.kept_have (q := kq) v14 ?_ (fun hs => ?_); with_reducible assumption
  intro v16; clear_value v16; intro v17; refine State.kept_have (q := kq) v17 ?_ (fun hs => ?_); clear_value v14
  subst v17; refine State.kept_ite ?_ ?_; with_reducible refine State.kept_upd ?_; with_reducible assumption
  with_reducible refine State.loadSeq_kept ?_; with_reducible assumption; clear_value v14 v17
  with_reducible refine State.complete_kept (State.auxSlowNote_kept ?_); with_reducible assumption

theorem execAfeSeqEn_kept {kq : List Instr} {x : Ctx} {q : Nat} {on : Nat} {s : State} (hkq : State.Kept kq s) :
    OutKept kq (execAfeSeqEn x q on s) := by
  unfold execAfeSeqEn; refine State.kept_next ?_; with_reducible refine State.command_kept ?_ ?_
  with_reducible assumption; intro _ _; refine State.kept_ite ?_ ?_; with_reducible refine State.complete_kept ?_
  with_reducible assumption; lift_lets -underBinder; intro v9; refine State.kept_have (q := kq) v9 ?_ (fun hs => ?_)
  with_reducible assumption; intro v11; clear_value v11; intro v12
  refine State.kept_have (q := kq) v12 ?_ (fun hs => ?_); clear_value v9; subst v12
  with_reducible refine State.kept_upd ?_; with_reducible assumption; intro v14
  refine State.kept_have (q := kq) v14 ?_ (fun hs => ?_); clear_value v9 v12; subst v14; refine State.kept_ite ?_ ?_
  with_reducible refine State.padc10_kept (State.save_kept (State.wr_kept ?_)); with_reducible assumption
  refine State.kept_ite ?_ ?_; with_reducible refine State.kept_upd ?_; with_reducible assumption
  with_reducible refine State.stopSeq_kept ?_; with_reducible assumption; clear_value v9 v12 v14
  with_reducible refine State.complete_kept (State.auxSlowNote_kept ?_); with_reducible assumption

theorem execAfeAuxOneshot_kept {kq : List Instr} {x : Ctx} {i : Nat} {conv : Nat} {settle : Nat} {avg : Nat} {samples
    : List Int} {trip : Bool} {s : State} (hkq : State.Kept kq s) : OutKept kq (execAfeAuxOneshot x i conv settle avg
    samples trip s) := by
  unfold execAfeAuxOneshot; refine State.kept_next ?_; with_reducible refine State.command_kept ?_ ?_
  with_reducible assumption; intro _ _; refine State.kept_ite ?_ ?_; with_reducible refine State.complete_kept ?_
  with_reducible assumption; refine State.kept_ite ?_ ?_; with_reducible refine State.complete_kept ?_
  with_reducible assumption; lift_lets -underBinder; intro v13; clear_value v13; split; lift_lets -underBinder
  intro v20; clear_value v20; intro v21; clear_value v21; split; lift_lets -underBinder; intro v28
  refine State.kept_have (q := kq) v28 ?_ (fun hs => ?_); subst v28; with_reducible refine State.insertDelay_kept ?_
  refine State.kept_snd (by with_reducible assumption) ?_; with_reducible refine State.auxConvert_kept ?_
  with_reducible assumption; clear_value v28; with_reducible refine State.complete_kept ?_; with_reducible assumption

theorem execAfeCalZero_kept {kq : List Instr} {x : Ctx} {i : Nat} {conv : Nat} {y0 : Int} {samples : List Int} {trip :
    Bool} {s : State} (hkq : State.Kept kq s) : OutKept kq (execAfeCalZero x i conv y0 samples trip s) := by
  unfold execAfeCalZero; refine State.kept_next ?_; with_reducible refine State.command_kept ?_ ?_
  with_reducible assumption; intro _ _; refine State.kept_ite ?_ ?_; with_reducible refine State.complete_kept ?_
  with_reducible assumption; refine State.kept_ite ?_ ?_; with_reducible refine State.complete_kept ?_
  with_reducible assumption; split; refine State.kept_ite ?_ ?_; with_reducible refine State.complete_kept ?_
  refine State.kept_thd (by with_reducible assumption) ?_; with_reducible refine State.calConvert_kept ?_
  with_reducible assumption; lift_lets -underBinder; intro v19; clear_value v19; intro v20; clear_value v20; intro v21
  refine State.kept_have (q := kq) v21 ?_ (fun hs => ?_); subst v21; with_reducible refine State.kept_upd ?_
  refine State.kept_thd (by with_reducible assumption) ?_; with_reducible refine State.calConvert_kept ?_
  with_reducible assumption; clear_value v21; with_reducible refine State.complete_kept ?_; with_reducible assumption

theorem execAfeCalSpan_kept {kq : List Instr} {x : Ctx} {i : Nat} {conv : Nat} {y1 : Int} {samples : List Int} {trip :
    Bool} {s : State} (hkq : State.Kept kq s) : OutKept kq (execAfeCalSpan x i conv y1 samples trip s) := by
  unfold execAfeCalSpan; refine State.kept_next ?_; with_reducible refine State.command_kept ?_ ?_
  with_reducible assumption; intro _ _; refine State.kept_ite ?_ ?_; with_reducible refine State.complete_kept ?_
  with_reducible assumption; refine State.kept_ite ?_ ?_; with_reducible refine State.complete_kept ?_
  with_reducible assumption; lift_lets -underBinder; intro v12; clear_value v12; refine State.kept_ite ?_ ?_
  with_reducible refine State.complete_kept ?_; with_reducible assumption; split; lift_lets -underBinder; intro v20
  clear_value v20; intro v21; clear_value v21; intro v22; clear_value v22; refine State.kept_ite ?_ ?_
  with_reducible refine State.complete_kept ?_; refine State.kept_thd (by with_reducible assumption) ?_
  with_reducible refine State.calConvert_kept ?_; with_reducible assumption; refine State.kept_ite ?_ ?_
  with_reducible refine State.complete_kept ?_; refine State.kept_thd (by with_reducible assumption) ?_
  with_reducible refine State.calConvert_kept ?_; with_reducible assumption; refine State.kept_ite ?_ ?_
  with_reducible refine State.complete_kept ?_; refine State.kept_thd (by with_reducible assumption) ?_
  with_reducible refine State.calConvert_kept ?_; with_reducible assumption; split; lift_lets -underBinder; intro v31
  refine State.kept_have (q := kq) v31 ?_ (fun hs => ?_); subst v31
  with_reducible refine State.wrInt_kept (State.wrInt_kept (State.wrInt_kept ?_))
  refine State.kept_thd (by with_reducible assumption) ?_; with_reducible refine State.calConvert_kept ?_
  with_reducible assumption; intro v33; refine State.kept_have (q := kq) v33 ?_ (fun hs => ?_); clear_value v31
  subst v33; with_reducible refine State.wr_kept (State.wr_kept ?_); with_reducible assumption; intro v35
  refine State.kept_have (q := kq) v35 ?_ (fun hs => ?_); clear_value v31 v33; subst v35
  refine State.kept_forEach (fun x s h => ?_) _ _ ?_; with_reducible refine State.save_kept ?_
  with_reducible assumption; with_reducible assumption; intro v37
  refine State.kept_have (q := kq) v37 ?_ (fun hs => ?_); clear_value v31 v33 v35; subst v37
  with_reducible refine State.raise_kept ?_; with_reducible assumption; clear_value v31 v33 v35 v37
  with_reducible refine State.complete_kept ?_; with_reducible assumption

theorem execAfeCalRestore_kept {kq : List Instr} {x : Ctx} {i : Nat} {conv : Nat} {s : State} (hkq : State.Kept kq s)
    : OutKept kq (execAfeCalRestore x i conv s) := by
  unfold execAfeCalRestore; refine State.kept_next ?_; with_reducible refine State.command_kept ?_ ?_
  with_reducible assumption; intro _ _; refine State.kept_ite ?_ ?_; with_reducible refine State.complete_kept ?_
  with_reducible assumption; split; with_reducible refine State.complete_kept ?_
  refine State.kept_forEach (fun x s h => ?_) _ _ ?_; with_reducible refine State.save_kept (State.toReset_kept ?_)
  with_reducible assumption; with_reducible assumption

theorem execAfeCapture_kept {kq : List Instr} {x : Ctx} {mask : Nat} {fmt : Nat} {samples : Nat} {s : State} (hkq :
    State.Kept kq s) : OutKept kq (execAfeCapture x mask fmt samples s) := by
  unfold execAfeCapture; refine State.kept_next ?_; with_reducible refine State.command_kept ?_ ?_
  with_reducible assumption; intro _ _; lift_lets -underBinder; intro v10; clear_value v10; refine State.kept_ite ?_ ?_
  with_reducible refine State.complete_kept ?_; with_reducible assumption; refine State.kept_ite ?_ ?_
  with_reducible refine State.complete_kept ?_; with_reducible assumption; with_reducible refine State.complete_kept ?_
  refine State.kept_forEach (fun x s h => ?_) _ _ ?_
  with_reducible refine State.wr_kept (State.wr_kept (State.setCap_kept ?_)); with_reducible assumption
  with_reducible assumption

theorem execAfeCaptureStop_kept {kq : List Instr} {x : Ctx} {mask : Nat} {parts : List (Nat × Nat × List (List Int))}
    {s : State} (hkq : State.Kept kq s) : OutKept kq (execAfeCaptureStop x mask parts s) := by
  unfold execAfeCaptureStop; refine State.kept_next ?_; with_reducible refine State.command_kept ?_ ?_
  with_reducible assumption; intro _ _; refine State.kept_ite ?_ ?_; with_reducible refine State.complete_kept ?_
  with_reducible assumption; lift_lets -underBinder; intro v9; refine State.kept_have (q := kq) v9 ?_ (fun hs => ?_)
  subst v9; refine State.kept_forEach (fun x s h => ?_) _ _ ?_; with_reducible refine State.sourceBlock_kept ?_
  with_reducible assumption; with_reducible assumption; clear_value v9; with_reducible refine State.complete_kept ?_
  refine State.kept_forEach (fun x s h => ?_) _ _ ?_; with_reducible refine State.endCapture_kept ?_
  with_reducible assumption; with_reducible assumption

end Sys2Proof.Machine
end

