-- ==== Sys2Proof/Laws/KeepLedger.lean ====
section
/-! SUPPORT. What the ledger, Cask and session operations keep. -/

namespace Sys2Proof.Machine

theorem State.touAdd_kept {kq : List Instr} {s : State} {m : Nat} {t : Nat} {six : List Nat} (hkq : State.Kept kq s) :
    State.Kept kq (State.touAdd s m t six) := by
  unfold State.touAdd; refine State.kept_forEach (fun x s h => ?_) _ _ ?_; with_reducible refine State.wr_kept ?_
  with_reducible assumption; with_reducible assumption

theorem State.touSub_kept {kq : List Instr} {s : State} {m : Nat} {t : Nat} {six : List Nat} (hkq : State.Kept kq s) :
    State.Kept kq (State.touSub s m t six) := by
  unfold State.touSub; refine State.kept_forEach (fun x s h => ?_) _ _ ?_; with_reducible refine State.wr_kept ?_
  with_reducible assumption; with_reducible assumption

theorem State.modLsess_kept {kq : List Instr} {s : State} {n : Nat} {f : LSession → LSession} (hkq : State.Kept kq s)
    : State.Kept kq (State.modLsess s n f) := by
  unfold State.modLsess; with_reducible refine State.kept_upd ?_; with_reducible assumption

theorem State.newSession_kept {kq : List Instr} {s : State} (hkq : State.Kept kq s) : State.Kept kq (State.newSession
    s).2 := by
  unfold State.newSession; dsimp only; with_reducible refine State.kept_upd ?_; with_reducible assumption

theorem State.closeRecord_kept {kq : List Instr} {s : State} {n : Nat} {extra : Nat} {est : Nat} (hkq : State.Kept kq
    s) : State.Kept kq (State.closeRecord s n extra est) := by
  unfold State.closeRecord; lift_lets -underBinder; intro v7; clear_value v7; intro v8
  refine State.kept_have (q := kq) v8 ?_ (fun hs => ?_); subst v8; with_reducible refine State.appendNum_kept ?_
  with_reducible assumption; clear_value v8; with_reducible refine State.modLsess_kept ?_; with_reducible assumption

theorem State.closeFinal_kept {kq : List Instr} {s : State} {m : Nat} (hkq : State.Kept kq s) : State.Kept kq
    (State.closeFinal s m) := by
  unfold State.closeFinal; lift_lets -underBinder; intro v5; refine State.kept_have (q := kq) v5 ?_ (fun hs => ?_)
  subst v5; with_reducible refine State.wr_kept ?_; with_reducible assumption; clear_value v5
  refine State.kept_forEach (fun x s h => ?_) _ _ ?_; with_reducible refine State.closeRecord_kept ?_
  with_reducible assumption; with_reducible assumption

theorem State.takeNum_kept {kq : List Instr} {s : State} (hkq : State.Kept kq s) : State.Kept kq (State.takeNum s).2
    := by
  unfold State.takeNum; split; dsimp only; with_reducible refine State.kept_upd ?_; with_reducible assumption
  dsimp only; with_reducible assumption

theorem State.readNoted_kept {kq : List Instr} {s : State} {group : Nat} (hkq : State.Kept kq s) : State.Kept kq
    (State.readNoted s group) := by
  unfold State.readNoted; lift_lets -underBinder; intro v5; clear_value v5; intro v6; clear_value v6; split
  with_reducible assumption; lift_lets -underBinder; intro v12; clear_value v12; intro v13; clear_value v13; intro v14
  refine State.kept_have (q := kq) v14 ?_ (fun hs => ?_); subst v14; with_reducible refine State.kept_upd ?_
  with_reducible assumption; clear_value v14; refine State.kept_ite ?_ ?_; with_reducible refine State.kept_upd ?_
  with_reducible assumption; split; with_reducible refine State.complete_kept ?_; with_reducible assumption
  with_reducible assumption

theorem State.flushPend_kept {kq : List Instr} {s : State} {p : PendRec} (hkq : State.Kept kq s) : State.Kept kq
    (State.flushPend s p) := by
  unfold State.flushPend; lift_lets -underBinder; intro v5; clear_value v5; intro v6
  refine State.kept_have (q := kq) v6 ?_ (fun hs => ?_); subst v6; with_reducible refine State.kept_upd ?_
  with_reducible assumption; intro v8; clear_value v8; intro v9; refine State.kept_have (q := kq) v9 ?_ (fun hs => ?_)
  clear_value v6; subst v9; with_reducible refine State.modLsess_kept ?_; with_reducible assumption; clear_value v6 v9
  refine State.kept_ite ?_ ?_; with_reducible refine State.readNoted_kept (State.appendTimed_kept ?_)
  with_reducible assumption; with_reducible refine State.appendTimed_kept ?_; with_reducible assumption

theorem State.flushPends_kept {kq : List Instr} {s : State} {m : Nat} {upTo : Nat} (hkq : State.Kept kq s) :
    State.Kept kq (State.flushPends s m upTo) := by
  unfold State.flushPends; refine State.kept_forEach (fun x s h => ?_) _ _ ?_
  with_reducible refine State.flushPend_kept ?_; with_reducible assumption; with_reducible assumption

theorem State.queueRecord_kept {kq : List Instr} {s : State} {p : PendRec} (hkq : State.Kept kq s) : State.Kept kq
    (State.queueRecord s p) := by
  unfold State.queueRecord; refine State.kept_ite ?_ ?_; with_reducible refine State.kept_upd ?_
  with_reducible assumption; with_reducible refine State.flushPend_kept ?_; with_reducible assumption

theorem State.metOpen_kept {kq : List Instr} {s : State} {m : Nat} {sess : Nat} {at_ : Nat} (hkq : State.Kept kq s) :
    State.Kept kq (State.metOpen s m sess at_) := by
  unfold State.metOpen; lift_lets -underBinder; intro v7; refine State.kept_have (q := kq) v7 ?_ (fun hs => ?_)
  subst v7; with_reducible refine State.wr_kept (State.wr_kept (State.wr_kept (State.wr_kept (State.wr_kept ?_))))
  with_reducible assumption; intro v9; clear_value v9 v7; with_reducible refine State.modMp_kept (State.wr_kept ?_)
  with_reducible assumption

theorem State.metClose_kept {kq : List Instr} {s : State} {m : Nat} {at_ : Nat} (hkq : State.Kept kq s) : State.Kept
    kq (State.metClose s m at_) := by
  unfold State.metClose; lift_lets -underBinder; intro v6; refine State.kept_have (q := kq) v6 ?_ (fun hs => ?_)
  subst v6; with_reducible refine State.modMp_kept (State.wr_kept ?_); with_reducible assumption; clear_value v6
  refine State.kept_ite ?_ ?_; with_reducible refine State.wr_kept ?_; with_reducible assumption
  with_reducible refine State.closeFinal_kept ?_; with_reducible assumption

theorem State.recOpen_kept {kq : List Instr} {s : State} {n : Nat} {m : Nat} {i : Identity} {price : Nat} {at_ : Nat}
    (hkq : State.Kept kq s) : State.Kept kq (State.recOpen s n m i price at_) := by
  unfold State.recOpen; split; lift_lets -underBinder; intro v15; refine State.kept_have (q := kq) v15 ?_ (fun hs => ?_)
  subst v15; with_reducible refine State.wr_kept ?_; refine State.kept_snd (by with_reducible assumption) ?_
  refine State.kept_ite1 ?_ ?_; with_reducible refine State.newSession_kept ?_; with_reducible assumption; dsimp only
  with_reducible assumption; clear_value v15; split; lift_lets -underBinder; intro v23; clear_value v23; intro v24
  clear_value v24; with_reducible refine State.queueRecord_kept (State.modLsess_kept ?_)
  refine State.kept_snd (by with_reducible assumption) ?_; with_reducible refine State.takeNum_kept ?_
  with_reducible assumption

theorem State.recClose_kept {kq : List Instr} {s : State} {n : Nat} {reason : Nat} {at_ : Nat} (hkq : State.Kept kq s)
    : State.Kept kq (State.recClose s n reason at_) := by
  unfold State.recClose; lift_lets -underBinder; intro v7; clear_value v7; refine State.kept_ite ?_ ?_
  with_reducible assumption; split; lift_lets -underBinder; intro v14
  refine State.kept_have (q := kq) v14 ?_ (fun hs => ?_); subst v14; with_reducible refine State.modLsess_kept ?_
  refine State.kept_snd (by with_reducible assumption) ?_; with_reducible refine State.takeNum_kept ?_
  with_reducible assumption; clear_value v14; refine State.kept_ite ?_ ?_; with_reducible refine State.metClose_kept ?_
  with_reducible assumption; refine State.kept_ite ?_ ?_; with_reducible assumption
  with_reducible refine State.closeRecord_kept ?_; with_reducible assumption

theorem State.noteCounts_kept {kq : List Instr} {s : State} {n : Nat} (hkq : State.Kept kq s) : State.Kept kq
    (State.noteCounts s n) := by
  unfold State.noteCounts; lift_lets -underBinder; intro v5; clear_value v5; refine State.kept_ite ?_ ?_
  with_reducible refine State.modLsess_kept ?_; with_reducible assumption; with_reducible assumption

theorem State.readStart_kept {kq : List Instr} {s : State} {mask : Nat} {at_ : Nat} {ctx : Option Ctx} (hkq :
    State.Kept kq s) : State.Kept kq (State.readStart s mask at_ ctx) := by
  unfold State.readStart; lift_lets -underBinder; intro v7; clear_value v7; intro v8; clear_value v8; intro v9
  clear_value v9; intro v10; refine State.kept_have (q := kq) v10 ?_ (fun hs => ?_); subst v10
  with_reducible refine State.kept_upd ?_; with_reducible assumption; intro v12
  refine State.kept_have (q := kq) v12 ?_ (fun hs => ?_); clear_value v10; subst v12
  refine State.kept_forEach (fun x s h => ?_) _ _ ?_; split; with_reducible refine State.kept_upd ?_
  refine State.kept_snd (by with_reducible assumption) ?_; with_reducible refine State.takeNum_kept ?_
  with_reducible assumption; with_reducible assumption; clear_value v10 v12; refine State.kept_ite ?_ ?_
  with_reducible refine State.readNoted_kept ?_; with_reducible assumption
  refine State.kept_forEach (fun x s h => ?_) _ _ ?_; refine State.kept_ite ?_ ?_; with_reducible assumption
  with_reducible refine State.flushPends_kept ?_; with_reducible assumption; with_reducible assumption

theorem State.readSigned_kept {kq : List Instr} {s : State} {mask : Nat} {at_ : Nat} (hkq : State.Kept kq s) :
    State.Kept kq (State.readSigned s mask at_).2 := by
  unfold State.readSigned; dsimp only; with_reducible refine State.readStart_kept ?_; with_reducible assumption

theorem State.backlog_kept {kq : List Instr} {s : State} {k : Nat} (hkq : State.Kept kq s) : State.Kept kq
    (State.backlog s k) := by
  unfold State.backlog; lift_lets -underBinder; intro v5; clear_value v5; intro v6; clear_value v6; intro v7
  clear_value v7; intro v8; clear_value v8; intro v9; clear_value v9; intro v10; clear_value v10; intro v11
  clear_value v11; intro v12; clear_value v12; intro v13; refine State.kept_have (q := kq) v13 ?_ (fun hs => ?_)
  subst v13; with_reducible refine State.kept_upd ?_; with_reducible assumption; intro v15
  refine State.kept_have (q := kq) v15 ?_ (fun hs => ?_); clear_value v13; subst v15
  with_reducible refine State.wr_kept ?_; with_reducible assumption; clear_value v13 v15; refine State.kept_ite ?_ ?_
  with_reducible refine State.raise_kept ?_; with_reducible assumption; with_reducible assumption

theorem State.energyPart_kept {kq : List Instr} {s : State} {m : Nat} {start : Nat} {until_ : Nat} {inc : List Nat}
    (hkq : State.Kept kq s) : State.Kept kq (State.energyPart s m start until_ inc) := by
  unfold State.energyPart; lift_lets -underBinder; intro v8; refine State.kept_have (q := kq) v8 ?_ (fun hs => ?_)
  subst v8; refine State.kept_forEach (fun x s h => ?_) _ _ ?_; with_reducible refine State.wr_kept ?_
  with_reducible assumption; with_reducible assumption; intro v10; clear_value v10; intro v11; clear_value v11
  intro v12; clear_value v12; intro v13; refine State.kept_have (q := kq) v13 ?_ (fun hs => ?_); clear_value v8
  subst v13; with_reducible refine State.wr_kept ?_; with_reducible assumption; intro v15
  refine State.kept_have (q := kq) v15 ?_ (fun hs => ?_); clear_value v8 v13; subst v15
  with_reducible refine State.touAdd_kept ?_; with_reducible assumption; intro v17; clear_value v17; intro v18
  refine State.kept_have (q := kq) v18 ?_ (fun hs => ?_); clear_value v8 v13 v15; subst v18
  with_reducible refine State.modAcct_kept ?_; with_reducible assumption; intro v20; clear_value v20; intro v21
  clear_value v21; intro v22; refine State.kept_have (q := kq) v22 ?_ (fun hs => ?_); clear_value v8 v13 v15 v18
  subst v22; refine State.kept_ite ?_ ?_; with_reducible refine State.wr_kept (State.wr_kept ?_)
  with_reducible assumption; with_reducible assumption; intro v24
  refine State.kept_have (q := kq) v24 ?_ (fun hs => ?_); clear_value v8 v13 v15 v18 v22; subst v24
  refine State.kept_forEach (fun x s h => ?_) _ _ ?_; with_reducible refine State.modLsess_kept ?_
  with_reducible assumption; with_reducible assumption; intro v26; clear_value v26 v8 v13 v15 v18 v22 v24
  with_reducible refine State.modMp_kept ?_; with_reducible assumption

theorem State.flowTrack_kept {kq : List Instr} {s : State} {m : Nat} {export_ : Bool} {start : Nat} (hkq : State.Kept
    kq s) : State.Kept kq (State.flowTrack s m export_ start) := by
  unfold State.flowTrack; lift_lets -underBinder; intro v7; clear_value v7; intro v8; clear_value v8; intro v9
  clear_value v9; refine State.kept_ite ?_ ?_; with_reducible refine State.modMp_kept ?_; with_reducible assumption
  refine State.kept_ite ?_ ?_; with_reducible refine State.raise_kept (State.modMp_kept ?_); with_reducible assumption
  with_reducible refine State.modMp_kept ?_; with_reducible assumption

theorem State.demandClose_kept {kq : List Instr} {s : State} {m : Nat} {at_ : Nat} {wall : Nat} {flags : Nat} (hkq :
    State.Kept kq s) : State.Kept kq (State.demandClose s m at_ wall flags) := by
  unfold State.demandClose; lift_lets -underBinder; intro v8; clear_value v8; intro v9; clear_value v9; intro v10
  clear_value v10; intro v11; clear_value v11; intro v12; clear_value v12; intro v13; clear_value v13; intro v14
  clear_value v14; intro v15; clear_value v15; intro v16; clear_value v16; intro v17; clear_value v17; intro v18
  refine State.kept_have (q := kq) v18 ?_ (fun hs => ?_); subst v18; with_reducible refine State.modAcct_kept ?_
  with_reducible assumption; intro v20; refine State.kept_have (q := kq) v20 ?_ (fun hs => ?_); clear_value v18
  subst v20; refine State.kept_forEach (fun x s h => ?_) _ _ ?_; with_reducible refine State.wr_kept ?_
  with_reducible assumption; with_reducible assumption; intro v22
  refine State.kept_have (q := kq) v22 ?_ (fun hs => ?_); clear_value v18 v20; subst v22
  with_reducible refine State.wr_kept (State.wr_kept (State.wr_kept ?_)); with_reducible assumption; intro v24
  refine State.kept_have (q := kq) v24 ?_ (fun hs => ?_); clear_value v18 v20 v22; subst v24
  refine State.kept_forEach (fun x s h => ?_) _ _ ?_; lift_lets -underBinder; intro v27; clear_value v27; intro v28
  clear_value v28; refine State.kept_ite ?_ ?_; with_reducible refine State.kept_upd ?_; with_reducible assumption
  with_reducible assumption; with_reducible assumption; intro v26
  refine State.kept_have (q := kq) v26 ?_ (fun hs => ?_); clear_value v18 v20 v22 v24; subst v26
  refine State.kept_ite ?_ ?_; with_reducible refine State.wr_kept (State.wr_kept ?_); with_reducible assumption
  with_reducible assumption; clear_value v18 v20 v22 v24 v26; refine State.kept_ite ?_ ?_
  with_reducible refine State.raise_kept ?_; with_reducible assumption; with_reducible assumption

theorem State.tariffGo_kept {kq : List Instr} {s : State} {m : Nat} {at_ : Nat} {tariff : Nat} (hkq : State.Kept kq s)
    : State.Kept kq (State.tariffGo s m at_ tariff) := by
  unfold State.tariffGo; lift_lets -underBinder; intro v7; clear_value v7; intro v8; clear_value v8; intro v9
  refine State.kept_have (q := kq) v9 ?_ (fun hs => ?_); subst v9
  with_reducible refine State.touAdd_kept (State.touSub_kept ?_); with_reducible assumption; intro v11
  refine State.kept_have (q := kq) v11 ?_ (fun hs => ?_); clear_value v9; subst v11
  with_reducible refine State.modAcct_kept ?_; with_reducible assumption; clear_value v9 v11
  refine State.kept_ite ?_ ?_; with_reducible assumption; refine State.kept_forEach (fun x s h => ?_) _ _ ?_
  with_reducible refine State.modLsess_kept ?_; with_reducible assumption; with_reducible assumption

theorem State.billClose_kept {kq : List Instr} {s : State} {at_ : Nat} {wallMs_ : Nat} {cause : Nat} {flags : Nat}
    (hkq : State.Kept kq s) : State.Kept kq (State.billClose s at_ wallMs_ cause flags) := by
  unfold State.billClose; lift_lets -underBinder; intro v8; clear_value v8; intro v9; clear_value v9; intro v10
  clear_value v10; intro v11; clear_value v11; intro v12; refine State.kept_have (q := kq) v12 ?_ (fun hs => ?_)
  subst v12; with_reducible refine State.kept_upd ?_; with_reducible assumption; intro v14
  refine State.kept_have (q := kq) v14 ?_ (fun hs => ?_); clear_value v12; subst v14
  refine State.kept_forEach (fun x s h => ?_) _ _ ?_; with_reducible refine State.wr_kept (State.wr_kept ?_)
  with_reducible assumption; with_reducible assumption; intro v16
  refine State.kept_have (q := kq) v16 ?_ (fun hs => ?_); clear_value v12 v14; subst v16
  with_reducible refine State.wr_kept ?_; with_reducible assumption; clear_value v12 v14 v16
  with_reducible refine State.append_kept ?_; with_reducible assumption

theorem State.transaction_kept {kq : List Instr} {s : State} {b : Boundary} (hkq : State.Kept kq s) : State.Kept kq
    (State.transaction s b) := by
  unfold State.transaction; lift_lets -underBinder; intro v5; clear_value v5; intro v6
  refine State.kept_have (q := kq) v6 ?_ (fun hs => ?_); subst v6; with_reducible refine State.kept_upd ?_
  with_reducible assumption; intro v8; refine State.kept_have (q := kq) v8 ?_ (fun hs => ?_); clear_value v6; subst v8
  refine State.kept_ite ?_ ?_; split; lift_lets -underBinder; intro v13; clear_value v13; intro v14
  refine State.kept_have (q := kq) v14 ?_ (fun hs => ?_); subst v14; with_reducible refine State.kept_upd ?_
  with_reducible assumption; clear_value v14; with_reducible refine State.append_kept ?_; with_reducible assumption
  with_reducible assumption; with_reducible assumption; intro v10
  refine State.kept_have (q := kq) v10 ?_ (fun hs => ?_); clear_value v6 v8; subst v10
  refine State.kept_forEach (fun x s h => ?_) _ _ ?_; refine State.kept_forEach (fun x s h => ?_) _ _ ?_
  with_reducible refine State.modAcct_kept ?_; with_reducible assumption; with_reducible assumption
  with_reducible assumption; intro v12; clear_value v12; intro v13; clear_value v13; intro v14; clear_value v14
  intro v15; refine State.kept_have (q := kq) v15 ?_ (fun hs => ?_); clear_value v6 v8 v10; subst v15
  refine State.kept_ite ?_ ?_; refine State.kept_forEach (fun x s h => ?_) _ _ ?_
  with_reducible refine State.demandClose_kept ?_; with_reducible assumption; with_reducible assumption
  with_reducible assumption; intro v17; refine State.kept_have (q := kq) v17 ?_ (fun hs => ?_)
  clear_value v6 v8 v10 v15; subst v17; refine State.kept_ite ?_ ?_; with_reducible refine State.billClose_kept ?_
  with_reducible assumption; with_reducible assumption; intro v19
  refine State.kept_have (q := kq) v19 ?_ (fun hs => ?_); clear_value v6 v8 v10 v15 v17; subst v19
  refine State.kept_forEach (fun x s h => ?_) _ _ ?_; with_reducible refine State.tariffGo_kept ?_
  with_reducible assumption; with_reducible assumption; intro v21; clear_value v21; intro v22
  refine State.kept_have (q := kq) v22 ?_ (fun hs => ?_); clear_value v6 v8 v10 v15 v17 v19; subst v22
  refine State.kept_ite ?_ ?_; with_reducible refine State.kept_upd ?_; with_reducible assumption
  with_reducible assumption; intro v24; refine State.kept_have (q := kq) v24 ?_ (fun hs => ?_)
  clear_value v6 v8 v10 v15 v17 v19 v22; subst v24; refine State.kept_forEach (fun x s h => ?_) _ _ ?_
  with_reducible refine State.append_kept ?_; with_reducible assumption; with_reducible assumption; intro v26
  refine State.kept_have (q := kq) v26 ?_ (fun hs => ?_); clear_value v6 v8 v10 v15 v17 v19 v22 v24; subst v26
  refine State.kept_ite ?_ ?_; with_reducible refine State.append_kept ?_; with_reducible assumption
  with_reducible assumption; intro v28; clear_value v28; intro v29
  refine State.kept_have (q := kq) v29 ?_ (fun hs => ?_); clear_value v6 v8 v10 v15 v17 v19 v22 v24 v26; subst v29
  with_reducible refine State.raise_kept ?_; with_reducible assumption
  clear_value v6 v8 v10 v15 v17 v19 v22 v24 v26 v29; split; with_reducible refine State.complete_kept ?_
  with_reducible assumption; with_reducible assumption

theorem State.addBoundary_kept {kq : List Instr} {s : State} {b : Boundary} (hkq : State.Kept kq s) : State.Kept kq
    (State.addBoundary s b) := by
  unfold State.addBoundary; split; with_reducible refine State.kept_upd ?_; with_reducible assumption
  refine State.kept_ite ?_ ?_; with_reducible refine State.kept_upd ?_; with_reducible assumption
  lift_lets -underBinder; intro v10; refine State.kept_have (q := kq) v10 ?_ (fun hs => ?_); subst v10
  with_reducible refine State.transaction_kept ?_; with_reducible assumption; intro v12; clear_value v12 v10
  with_reducible refine State.kept_upd ?_; with_reducible assumption

theorem State.tariffSelect_kept {kq : List Instr} {s : State} {mask : Nat} {tariff : Nat} {price : Nat} {src : Nat}
    {at_ : Nat} (hkq : State.Kept kq s) : State.Kept kq (State.tariffSelect s mask tariff price src at_) := by
  unfold State.tariffSelect; lift_lets -underBinder; intro v9; refine State.kept_have (q := kq) v9 ?_ (fun hs => ?_)
  subst v9; refine State.kept_forEach (fun x s h => ?_) _ _ ?_; lift_lets -underBinder; intro v12; clear_value v12
  refine State.kept_ite ?_ ?_; with_reducible refine State.modLsess_kept ?_; with_reducible assumption
  with_reducible assumption; with_reducible assumption; clear_value v9; with_reducible refine State.addBoundary_kept ?_
  with_reducible assumption

theorem State.tariffForce_kept {kq : List Instr} {s : State} {mask : Nat} {tariff : Nat} {price : Nat} {at_ : Nat}
    (hkq : State.Kept kq s) : State.Kept kq (State.tariffForce s mask tariff price at_) := by
  unfold State.tariffForce; with_reducible refine State.tariffSelect_kept ?_; with_reducible assumption

theorem State.closeBetween_kept {kq : List Instr} {s : State} {w0 : Nat} {w1 : Nat} {flag : Nat} {cause : Nat} {demand
    : Bool} (hkq : State.Kept kq s) : State.Kept kq (State.closeBetween s w0 w1 flag cause demand).2 := by
  unfold State.closeBetween; lift_lets -underBinder; intro v9; clear_value v9; intro v10; clear_value v10; intro v11
  clear_value v11; intro v12; clear_value v12; intro v13; clear_value v13; intro v14; clear_value v14; intro v15
  refine State.kept_have (q := kq) v15 ?_ (fun hs => ?_); subst v15; refine State.kept_forEach (fun x s h => ?_) _ _ ?_
  with_reducible refine State.billClose_kept ?_; with_reducible assumption; with_reducible assumption; intro v17
  refine State.kept_have (q := kq) v17 ?_ (fun hs => ?_); clear_value v15; subst v17; refine State.kept_ite ?_ ?_
  refine State.kept_forEach (fun x s h => ?_) _ _ ?_; with_reducible refine State.modAcct_kept (State.wr_kept ?_)
  with_reducible assumption; with_reducible assumption; with_reducible assumption; intro v19
  refine State.kept_have (q := kq) v19 ?_ (fun hs => ?_); clear_value v15 v17; subst v19; refine State.kept_ite ?_ ?_
  with_reducible refine State.raise_kept ?_; with_reducible assumption; with_reducible assumption
  clear_value v15 v17 v19; dsimp only; with_reducible assumption

theorem State.timeSet_kept {kq : List Instr} {s : State} {ms : Nat} {src : Nat} (hkq : State.Kept kq s) : State.Kept
    kq (State.timeSet s ms src).2 := by
  unfold State.timeSet; lift_lets -underBinder; intro v6; clear_value v6; intro v7; clear_value v7; intro v8
  clear_value v8; intro v9; clear_value v9; intro v10; clear_value v10; intro v11; clear_value v11; intro v12
  clear_value v12; intro v13; clear_value v13; intro v14; refine State.kept_have (q := kq) v14 ?_ (fun hs => ?_)
  subst v14; refine State.kept_ite ?_ ?_; with_reducible refine State.kept_upd ?_; with_reducible assumption
  with_reducible assumption; intro v16; refine State.kept_have (q := kq) v16 ?_ (fun hs => ?_); clear_value v14
  subst v16; split; with_reducible refine State.transaction_kept ?_; with_reducible assumption
  with_reducible assumption; intro v18; refine State.kept_have (q := kq) v18 ?_ (fun hs => ?_); clear_value v14 v16
  subst v18; with_reducible refine State.transaction_kept ?_; with_reducible assumption; intro v20
  refine State.kept_have (q := kq) v20 ?_ (fun hs => ?_); clear_value v14 v16 v18; subst v20
  with_reducible refine State.setWall_kept ?_; with_reducible assumption; intro v22; clear_value v22; intro v23
  refine State.kept_have (q := kq) v23 ?_ (fun hs => ?_); clear_value v14 v16 v18 v20; subst v23
  refine State.kept_ite ?_ ?_; with_reducible refine State.kept_upd ?_; with_reducible assumption
  refine State.kept_ite ?_ ?_; with_reducible refine State.closeBetween_kept ?_; with_reducible assumption
  refine State.kept_ite ?_ ?_; with_reducible assumption; with_reducible refine State.closeBetween_kept ?_
  with_reducible assumption; intro v25; clear_value v25; intro v26
  refine State.kept_have (q := kq) v26 ?_ (fun hs => ?_); clear_value v14 v16 v18 v20 v23; subst v26
  with_reducible refine State.kept_upd ?_; with_reducible assumption; intro v28
  refine State.kept_have (q := kq) v28 ?_ (fun hs => ?_); clear_value v14 v16 v18 v20 v23 v26; subst v28
  refine State.kept_forEach (fun x s h => ?_) _ _ ?_; with_reducible refine State.tariffGo_kept ?_
  with_reducible assumption; with_reducible assumption; intro v30
  refine State.kept_have (q := kq) v30 ?_ (fun hs => ?_); clear_value v14 v16 v18 v20 v23 v26 v28; subst v30
  with_reducible refine State.append_kept (State.wr_kept ?_); with_reducible assumption; intro v32
  refine State.kept_have (q := kq) v32 ?_ (fun hs => ?_); clear_value v14 v16 v18 v20 v23 v26 v28 v30; subst v32
  with_reducible refine State.raise_kept ?_; with_reducible assumption; intro v34
  refine State.kept_have (q := kq) v34 ?_ (fun hs => ?_); clear_value v14 v16 v18 v20 v23 v26 v28 v30 v32; subst v34
  refine State.kept_ite ?_ ?_; with_reducible refine State.tamper_kept ?_; with_reducible assumption
  with_reducible assumption; intro v36; refine State.kept_have (q := kq) v36 ?_ (fun hs => ?_)
  clear_value v14 v16 v18 v20 v23 v26 v28 v30 v32 v34; subst v36; refine State.kept_ite ?_ ?_
  with_reducible refine State.tamper_kept ?_; with_reducible assumption; with_reducible assumption
  clear_value v14 v16 v18 v20 v23 v26 v28 v30 v32 v34 v36; refine State.kept_ite1 ?_ ?_; dsimp only
  with_reducible assumption; dsimp only; with_reducible assumption

theorem State.ownWrite_kept {kq : List Instr} {s : State} {b : Nat} {v : Nat} {whole : Bool} (hkq : State.Kept kq s) :
    State.Kept kq (State.ownWrite s b v whole) := by
  unfold State.ownWrite; with_reducible refine State.kept_upd ?_; with_reducible assumption

theorem State.ownReply_kept {kq : List Instr} {s : State} {r : List Nat} (hkq : State.Kept kq s) : State.Kept kq
    (State.ownReply s r) := by
  unfold State.ownReply; with_reducible refine State.kept_upd ?_; with_reducible assumption

theorem State.ownClose_kept {kq : List Instr} {s : State} (hkq : State.Kept kq s) : State.Kept kq (State.ownClose s)
    := by
  unfold State.ownClose; with_reducible refine State.kept_upd ?_; with_reducible assumption

theorem State.ownStatus_kept {kq : List Instr} {s : State} {n : Nat} (hkq : State.Kept kq s) : State.Kept kq
    (State.ownStatus s n) := by
  unfold State.ownStatus; refine State.kept_ite ?_ ?_; with_reducible assumption; lift_lets -underBinder; intro v5
  clear_value v5; intro v6; clear_value v6; intro v7; clear_value v7; refine State.kept_forEach (fun x s h => ?_) _ _ ?_
  with_reducible refine State.ownWrite_kept ?_; with_reducible assumption; with_reducible assumption

theorem State.onField_kept {kq : List Instr} {s : State} {t : Nat} {f : State → State}
    (hf : ∀ s, State.Kept kq s → State.Kept kq (f s)) (h : State.Kept kq s) : State.Kept kq (s.onField t f) := by
  have ha : State.Kept kq (if s.core then s.advance t else s) := State.kept_ite (State.advance_kept h) h
  unfold State.onField
  lift_lets
  intro s'
  have hs : State.Kept kq s' := ha
  split
  · exact hf _ hs
  · exact hs

theorem State.modemOn_kept {kq : List Instr} {s : State} {i : Nat} {on : Bool} (hkq : State.Kept kq s) : State.Kept kq
    (State.modemOn s i on) := by
  unfold State.modemOn; with_reducible refine State.setFlag_kept (State.setFlag_kept ?_); with_reducible assumption

theorem State.plcFollow_kept {kq : List Instr} {s : State} {n : Nat} (hkq : State.Kept kq s) : State.Kept kq
    (State.plcFollow s n) := by
  unfold State.plcFollow; lift_lets -underBinder; intro v5; clear_value v5; intro v6; clear_value v6; intro v7
  refine State.kept_have (q := kq) v7 ?_ (fun hs => ?_); subst v7; with_reducible refine State.modemOn_kept ?_
  with_reducible assumption; clear_value v7; refine State.kept_ite ?_ ?_; with_reducible assumption
  with_reducible refine State.raise_kept (State.wr_kept ?_); with_reducible assumption

theorem State.plcFollowAll_kept {kq : List Instr} {s : State} (hkq : State.Kept kq s) : State.Kept kq
    (State.plcFollowAll s) := by
  unfold State.plcFollowAll; refine State.kept_forEach (fun x s h => ?_) _ _ ?_
  with_reducible refine State.plcFollow_kept ?_; with_reducible assumption; with_reducible assumption

theorem State.forwardStop_kept {kq : List Instr} {s : State} {x : Ctx} {op : Nat} {mask : Nat} {peer : Nat} (hkq :
    State.Kept kq s) : State.Kept kq (State.forwardStop s x op mask peer) := by
  unfold State.forwardStop; refine State.kept_ite ?_ ?_; with_reducible refine State.complete_kept (State.kept_upd ?_)
  with_reducible assumption; with_reducible refine State.complete_kept ?_; with_reducible assumption

theorem State.testCloses_kept {kq : List Instr} {s : State} {acts : List CaskAct} (hkq : State.Kept kq s) : State.Kept
    kq (State.testCloses s acts) := by
  unfold State.testCloses; refine State.kept_forEach (fun x s h => ?_) _ _ ?_; split
  with_reducible refine State.testSensor_kept ?_; with_reducible assumption; with_reducible assumption
  with_reducible assumption

theorem State.consentCheck_kept {kq : List Instr} {s : State} {k : Nat} (hkq : State.Kept kq s) : State.Kept kq
    (State.consentCheck s k) := by
  unfold State.consentCheck; lift_lets -underBinder; intro v5; clear_value v5; intro v6; clear_value v6; split
  refine State.kept_ite ?_ ?_; with_reducible refine State.abortCask_kept ?_; with_reducible assumption
  refine State.kept_ite ?_ ?_; with_reducible assumption
  with_reducible refine State.abortCask_kept (State.raise_kept ?_); with_reducible assumption
  refine State.kept_ite ?_ ?_; with_reducible assumption; with_reducible refine State.setSlot_kept ?_
  with_reducible assumption

theorem State.arm_kept {kq : List Instr} {s : State} {k : Nat} {mode : Nat} {tApply : Nat} {x : Option Ctx} (hkq :
    State.Kept kq s) : State.Kept kq (State.arm s k mode tApply x) := by
  unfold State.arm; with_reducible refine State.modSlot_kept ?_; with_reducible assumption

theorem State.writeRecord_kept {kq : List Instr} {s : State} {k : Nat} {whole : Bool} (hkq : State.Kept kq s) :
    State.Kept kq (State.writeRecord s k whole) := by
  unfold State.writeRecord; lift_lets -underBinder; intro v6; clear_value v6; intro v7; clear_value v7; intro v8
  clear_value v8; split; lift_lets -underBinder; intro v15; clear_value v15; intro v16; clear_value v16; intro v17
  refine State.kept_have (q := kq) v17 ?_ (fun hs => ?_); subst v17; with_reducible refine State.kept_upd ?_
  refine State.kept_snd (by with_reducible assumption) ?_; refine State.kept_ite1 ?_ ?_
  with_reducible refine State.reserveNums_kept ?_; with_reducible assumption; dsimp only; with_reducible assumption
  clear_value v17; refine State.kept_ite ?_ ?_; with_reducible refine State.modSlot_kept ?_; with_reducible assumption
  with_reducible refine State.abortCask_kept ?_; with_reducible assumption

theorem State.applyAct_kept {kq : List Instr} {s : State} {k : Nat} {i : Nat} {tApply : Nat} {low : Bool} {a :
    CaskAct} (hkq : State.Kept kq s) : State.Kept kq (State.applyAct s k i tApply low a) := by
  unfold State.applyAct; split; refine State.kept_ite ?_ ?_; with_reducible assumption; split; lift_lets -underBinder
  intro v17; refine State.kept_have (q := kq) v17 ?_ (fun hs => ?_); subst v17
  refine State.kept_forEach (fun x s h => ?_) _ _ ?_; refine State.kept_ite ?_ ?_
  with_reducible refine State.modCoil_kept ?_; with_reducible assumption; with_reducible assumption
  refine State.kept_fst (by with_reducible assumption) ?_; with_reducible refine State.applyClose_kept ?_
  with_reducible assumption; clear_value v17; refine State.kept_ite ?_ ?_; with_reducible refine State.modSlot_kept ?_
  with_reducible assumption; with_reducible assumption; with_reducible refine State.openOutlet_kept ?_
  with_reducible assumption; with_reducible refine State.modOutlet_kept ?_; with_reducible assumption
  with_reducible refine State.modOutlet_kept ?_; with_reducible assumption; with_reducible refine State.metOpen_kept ?_
  with_reducible assumption; with_reducible refine State.metClose_kept ?_; with_reducible assumption
  lift_lets -underBinder; intro v15; clear_value v15; with_reducible refine State.recOpen_kept ?_
  with_reducible assumption; with_reducible refine State.recClose_kept ?_; with_reducible assumption
  with_reducible refine State.readSigned_kept ?_; with_reducible assumption
  with_reducible refine State.tariffForce_kept ?_; with_reducible assumption
  with_reducible refine State.dispStart_kept ?_; with_reducible assumption

theorem State.markRecord_kept {kq : List Instr} {s : State} {k : Nat} {early held : Bool} {mask : Nat} (h : State.Kept kq s) :
    State.Kept kq (s.markRecord k early held mask) := h

theorem State.caskDone_kept {kq : List Instr} {s : State} {k : Nat} (hkq : State.Kept kq s) : State.Kept kq
    (State.caskDone s k) := by
  unfold State.caskDone; lift_lets -underBinder; intro v5; clear_value v5; intro v6; clear_value v6; intro v7
  clear_value v7; intro v8; clear_value v8; intro v9; refine State.kept_have (q := kq) v9 ?_ (fun hs => ?_); subst v9
  with_reducible refine State.incSat_kept (State.markRecord_kept ?_); with_reducible assumption; intro v11
  refine State.kept_have (q := kq) v11 ?_ (fun hs => ?_); clear_value v9; subst v11
  with_reducible refine State.raise_kept ?_; with_reducible assumption; clear_value v9 v11
  with_reducible refine State.freeSlot_kept (State.finaliseOpt_kept ?_); with_reducible assumption

theorem State.useNums_kept {kq : List Instr} {s : State} {ns : List Nat} (hkq : State.Kept kq s) : State.Kept kq
    (State.useNums s ns) := by
  unfold State.useNums; with_reducible refine State.kept_upd ?_; with_reducible assumption

theorem State.applySlot_kept {kq : List Instr} {s : State} {k : Nat} {low : Bool} (hkq : State.Kept kq s) : State.Kept
    kq (State.applySlot s k low) := by
  unfold State.applySlot; lift_lets -underBinder; intro v6; clear_value v6; intro v7; clear_value v7; intro v8
  refine State.kept_have (q := kq) v8 ?_ (fun hs => ?_); subst v8; refine State.kept_ite ?_ ?_
  with_reducible assumption; with_reducible refine State.useNums_kept ?_; with_reducible assumption; clear_value v8
  with_reducible refine State.useNums_kept ?_; refine State.kept_forEach (fun x s h => ?_) _ _ ?_
  with_reducible refine State.applyAct_kept ?_; with_reducible assumption; with_reducible assumption

theorem State.applyEarly_kept {kq : List Instr} {s : State} {k : Nat} (hkq : State.Kept kq s) : State.Kept kq
    (State.applyEarly s k) := by
  unfold State.applyEarly; lift_lets -underBinder; intro v5; clear_value v5; intro v6
  refine State.kept_have (q := kq) v6 ?_ (fun hs => ?_); subst v6; with_reducible refine State.useNums_kept ?_
  with_reducible assumption; intro v8; refine State.kept_have (q := kq) v8 ?_ (fun hs => ?_); clear_value v6; subst v8
  with_reducible refine State.useNums_kept ?_; refine State.kept_forEach (fun x s h => ?_) _ _ ?_
  with_reducible refine State.applyAct_kept ?_; with_reducible assumption; with_reducible assumption; clear_value v6 v8
  with_reducible refine State.modSlot_kept ?_; with_reducible assumption

theorem State.lateApplies_kept {kq : List Instr} {s : State} {k : Nat} {applied : List (Nat × Nat)} (hkq : State.Kept
    kq s) : State.Kept kq (State.lateApplies s k applied) := by
  unfold State.lateApplies; lift_lets -underBinder; intro v6; clear_value v6
  refine State.kept_forEach (fun x s h => ?_) _ _ ?_; with_reducible refine State.raise_kept (State.incSat_kept ?_)
  with_reducible assumption; with_reducible assumption

theorem State.setSess_kept {kq : List Instr} {s : State} {n : Nat} {new : SessState} {reason : Nat} {flags : Nat} (hkq
    : State.Kept kq s) : State.Kept kq (State.setSess s n new reason flags) := by
  unfold State.setSess; lift_lets -underBinder; intro v8; clear_value v8; intro v9
  refine State.kept_have (q := kq) v9 ?_ (fun hs => ?_); subst v9; with_reducible refine State.modOutlet_kept ?_
  with_reducible assumption; intro v11; refine State.kept_have (q := kq) v11 ?_ (fun hs => ?_); clear_value v9
  subst v11; refine State.kept_ite ?_ ?_; with_reducible assumption; with_reducible refine State.wr_kept ?_
  with_reducible assumption; intro v13; refine State.kept_have (q := kq) v13 ?_ (fun hs => ?_); clear_value v9 v11
  subst v13; with_reducible refine State.raise_kept ?_; with_reducible assumption; clear_value v9 v11 v13
  with_reducible refine State.plcFollow_kept (State.ownStatus_kept (State.noteCounts_kept ?_))
  with_reducible assumption

theorem State.offer_kept {kq : List Instr} {s : State} {n : Nat} {p : PilotOut} (hkq : State.Kept kq s) : State.Kept
    kq (State.offer s n p) := by
  unfold State.offer; refine State.kept_ite ?_ ?_; with_reducible assumption
  with_reducible refine State.stagePilot_kept ?_; with_reducible assumption

theorem State.leavePause_kept {kq : List Instr} {s : State} {n : Nat} (hkq : State.Kept kq s) : State.Kept kq
    (State.leavePause s n) := by
  unfold State.leavePause; refine State.kept_ite ?_ ?_
  with_reducible refine State.noteCounts_kept (State.modOutlet_kept ?_); with_reducible assumption
  with_reducible assumption

theorem State.sessionOver_kept {kq : List Instr} {s : State} {n : Nat} {reason : Nat} (hkq : State.Kept kq s) :
    State.Kept kq (State.sessionOver s n reason) := by
  unfold State.sessionOver; lift_lets -underBinder; intro v6; refine State.kept_have (q := kq) v6 ?_ (fun hs => ?_)
  subst v6; with_reducible refine State.leavePause_kept ?_; with_reducible assumption; intro v8; clear_value v8
  intro v9; clear_value v9; intro v10; refine State.kept_have (q := kq) v10 ?_ (fun hs => ?_); clear_value v6; subst v10
  refine State.kept_ite ?_ ?_; with_reducible refine State.recClose_kept ?_; with_reducible assumption
  with_reducible assumption; intro v12; refine State.kept_have (q := kq) v12 ?_ (fun hs => ?_); clear_value v6 v10
  subst v12; with_reducible refine State.raise_kept ?_; with_reducible assumption; intro v14
  refine State.kept_have (q := kq) v14 ?_ (fun hs => ?_); clear_value v6 v10 v12; subst v14
  with_reducible refine State.cableEnd_kept ?_; with_reducible assumption; intro v16
  refine State.kept_have (q := kq) v16 ?_ (fun hs => ?_); clear_value v6 v10 v12 v14; subst v16
  refine State.kept_forEach (fun x s h => ?_) _ _ ?_; with_reducible refine State.wr_kept ?_; with_reducible assumption
  with_reducible assumption; intro v18; refine State.kept_have (q := kq) v18 ?_ (fun hs => ?_)
  clear_value v6 v10 v12 v14 v16; subst v18; with_reducible refine State.modOutlet_kept ?_; with_reducible assumption
  clear_value v6 v10 v12 v14 v16 v18; with_reducible refine State.pmOff_kept ?_; with_reducible assumption

theorem State.endSession_kept {kq : List Instr} {s : State} {n : Nat} {reason : Nat} (hkq : State.Kept kq s) :
    State.Kept kq (State.endSession s n reason) := by
  unfold State.endSession; lift_lets -underBinder; intro v6; refine State.kept_have (q := kq) v6 ?_ (fun hs => ?_)
  subst v6; with_reducible refine State.sessionOver_kept ?_; with_reducible assumption; clear_value v6
  with_reducible refine State.offer_kept (State.setSess_kept ?_); with_reducible assumption

theorem State.waitEnd_kept {kq : List Instr} {s : State} {n : Nat} {reason : Nat} (hkq : State.Kept kq s) : State.Kept
    kq (State.waitEnd s n reason) := by
  unfold State.waitEnd; with_reducible refine State.modOutlet_kept ?_; with_reducible assumption

theorem State.endOrWait_kept {kq : List Instr} {s : State} {n : Nat} {reason : Nat} (hkq : State.Kept kq s) :
    State.Kept kq (State.endOrWait s n reason) := by
  unfold State.endOrWait; refine State.kept_ite ?_ ?_; with_reducible refine State.waitEnd_kept ?_
  with_reducible assumption; with_reducible refine State.endSession_kept ?_; with_reducible assumption

theorem State.faultSession_kept {kq : List Instr} {s : State} {n : Nat} {reason : Nat} (hkq : State.Kept kq s) :
    State.Kept kq (State.faultSession s n reason) := by
  unfold State.faultSession; lift_lets -underBinder; intro v6; clear_value v6; intro v7
  refine State.kept_have (q := kq) v7 ?_ (fun hs => ?_); subst v7; refine State.kept_ite ?_ ?_
  with_reducible refine State.sessionOver_kept ?_; with_reducible assumption; with_reducible assumption; intro v9
  refine State.kept_have (q := kq) v9 ?_ (fun hs => ?_); clear_value v7; subst v9; refine State.kept_ite ?_ ?_
  with_reducible refine State.outletSafe_kept ?_; with_reducible assumption; with_reducible refine State.erem_kept ?_
  with_reducible assumption; clear_value v7 v9; refine State.kept_ite ?_ ?_; with_reducible refine State.waitEnd_kept ?_
  with_reducible assumption; with_reducible refine State.setSess_kept ?_; with_reducible assumption

theorem State.reactSafety_kept {kq : List Instr} {s : State} {n : Nat} (hkq : State.Kept kq s) : State.Kept kq
    (State.reactSafety s n) := by
  unfold State.reactSafety; lift_lets -underBinder; intro v5; clear_value v5; refine State.kept_ite ?_ ?_
  refine State.kept_ite ?_ ?_; with_reducible refine State.endOrWait_kept ?_; with_reducible assumption
  with_reducible refine State.faultSession_kept ?_; with_reducible assumption; with_reducible assumption

theorem State.dcTo_kept {kq : List Instr} {s : State} {n : Nat} {da : Nat} {dw : Nat} {off : Bool} (hkq : State.Kept
    kq s) : State.Kept kq (State.dcTo s n da dw off) := by
  unfold State.dcTo; lift_lets -underBinder; intro v8; clear_value v8; refine State.kept_ite ?_ ?_
  with_reducible refine State.modOutlet_kept ?_; with_reducible assumption
  with_reducible refine State.stageSet_kept (State.modOutlet_kept ?_); with_reducible assumption

theorem State.offerW_kept {kq : List Instr} {s : State} {n : Nat} {watts : Nat} (hkq : State.Kept kq s) : State.Kept
    kq (State.offerW s n watts) := by
  unfold State.offerW; lift_lets -underBinder; intro v6; clear_value v6; intro v7; clear_value v7; intro v8
  clear_value v8; intro v9; clear_value v9; intro v10; refine State.kept_have (q := kq) v10 ?_ (fun hs => ?_); subst v10
  with_reducible refine State.modOutlet_kept ?_; with_reducible assumption; clear_value v10; refine State.kept_ite ?_ ?_
  with_reducible refine State.dcTo_kept ?_; with_reducible assumption; refine State.kept_ite ?_ ?_
  with_reducible refine State.offer_kept ?_; with_reducible assumption; refine State.kept_ite ?_ ?_
  with_reducible refine State.offer_kept ?_; with_reducible assumption; with_reducible refine State.offer_kept ?_
  with_reducible assumption

theorem State.requestClose_kept {kq : List Instr} {s : State} {n : Nat} (hkq : State.Kept kq s) : State.Kept kq
    (State.requestClose s n) := by
  unfold State.requestClose; lift_lets -underBinder; intro v5; clear_value v5; intro v6; clear_value v6; split
  lift_lets -underBinder; intro v13; refine State.kept_have (q := kq) v13 ?_ (fun hs => ?_); subst v13
  with_reducible refine State.wr_kept ?_; refine State.kept_snd (by with_reducible assumption) ?_
  refine State.kept_ite1 ?_ ?_; with_reducible refine State.newSession_kept ?_; with_reducible assumption; dsimp only
  with_reducible assumption; intro v15; clear_value v15; intro v16; clear_value v16; intro v17; clear_value v17
  intro v18; clear_value v18; intro v19; refine State.kept_have (q := kq) v19 ?_ (fun hs => ?_); clear_value v13
  subst v19; with_reducible refine State.setSlot_kept ?_; with_reducible assumption; intro v21
  refine State.kept_have (q := kq) v21 ?_ (fun hs => ?_); clear_value v13 v19; subst v21
  with_reducible refine State.testSensor_kept ?_; with_reducible assumption; clear_value v13 v19 v21
  with_reducible refine State.setSess_kept (State.modOutlet_kept ?_); with_reducible assumption

theorem State.commitClose_kept {kq : List Instr} {s : State} {n : Nat} (hkq : State.Kept kq s) : State.Kept kq
    (State.commitClose s n) := by
  unfold State.commitClose; lift_lets -underBinder; intro v5; clear_value v5; intro v6; clear_value v6; intro v7
  clear_value v7; refine State.kept_ite ?_ ?_; split; with_reducible refine State.arm_kept ?_; with_reducible assumption
  with_reducible refine State.modOutlet_kept (State.arm_kept ?_); with_reducible assumption
  with_reducible refine State.arm_kept ?_; with_reducible assumption

theorem State.closeApplied_kept {kq : List Instr} {s : State} {n : Nat} {held : Nat} (hkq : State.Kept kq s) :
    State.Kept kq (State.closeApplied s n held) := by
  unfold State.closeApplied; lift_lets -underBinder; intro v6; clear_value v6; intro v7
  refine State.kept_have (q := kq) v7 ?_ (fun hs => ?_); subst v7; with_reducible refine State.modOutlet_kept ?_
  with_reducible assumption; clear_value v7; refine State.kept_ite ?_ ?_; with_reducible assumption
  refine State.kept_ite ?_ ?_; refine State.kept_ite ?_ ?_; with_reducible refine State.faultSession_kept ?_
  with_reducible assumption; with_reducible refine State.endSession_kept (State.openOutlet_kept ?_)
  with_reducible assumption; refine State.kept_ite ?_ ?_; refine State.kept_ite ?_ ?_
  with_reducible refine State.reactSafety_kept ?_; with_reducible assumption
  with_reducible refine State.endSession_kept ?_; with_reducible assumption; with_reducible refine State.setSess_kept ?_
  with_reducible assumption

theorem State.closeGone_kept {kq : List Instr} {s : State} {n : Nat} (hkq : State.Kept kq s) : State.Kept kq
    (State.closeGone s n) := by
  unfold State.closeGone; refine State.kept_ite ?_ ?_; with_reducible refine State.endSession_kept ?_
  with_reducible assumption; with_reducible assumption

theorem State.goReady_kept {kq : List Instr} {s : State} {n : Nat} (hkq : State.Kept kq s) : State.Kept kq
    (State.goReady s n) := by
  unfold State.goReady; lift_lets -underBinder; intro v5; clear_value v5; intro v6; clear_value v6
  refine State.kept_ite ?_ ?_; with_reducible assumption; split; refine State.kept_ite ?_ ?_; with_reducible assumption
  refine State.kept_ite ?_ ?_; with_reducible refine State.offer_kept (State.setSess_kept ?_); with_reducible assumption
  with_reducible refine State.setSess_kept ?_; with_reducible assumption; refine State.kept_ite ?_ ?_
  with_reducible refine State.setSess_kept ?_; with_reducible assumption; with_reducible assumption
  with_reducible assumption

theorem State.authorise_kept {kq : List Instr} {s : State} {n : Nat} {i : Identity} (hkq : State.Kept kq s) :
    State.Kept kq (State.authorise s n i) := by
  unfold State.authorise; lift_lets -underBinder; intro v6; refine State.kept_have (q := kq) v6 ?_ (fun hs => ?_)
  subst v6; with_reducible refine State.modOutlet_kept ?_; with_reducible assumption; intro v8
  refine State.kept_have (q := kq) v8 ?_ (fun hs => ?_); clear_value v6; subst v8
  with_reducible refine State.wr_kept ?_; with_reducible assumption; clear_value v6 v8
  with_reducible refine State.goReady_kept (State.raise_kept ?_); with_reducible assumption

theorem State.authoriseCard_kept {kq : List Instr} {s : State} {n : Nat} {i : Identity} (hkq : State.Kept kq s) :
    State.Kept kq (State.authoriseCard s n i) := by
  unfold State.authoriseCard; lift_lets -underBinder; intro v6; clear_value v6; refine State.kept_ite ?_ ?_
  with_reducible refine State.raise_kept ?_; with_reducible assumption; with_reducible refine State.authorise_kept ?_
  with_reducible assumption

theorem State.stopSession_kept {kq : List Instr} {s : State} {n : Nat} {reason : Nat} (hkq : State.Kept kq s) :
    State.Kept kq (State.stopSession s n reason) := by
  unfold State.stopSession; lift_lets -underBinder; intro v6; refine State.kept_have (q := kq) v6 ?_ (fun hs => ?_)
  subst v6; with_reducible refine State.modOutlet_kept (State.leavePause_kept ?_); with_reducible assumption; intro v8
  refine State.kept_have (q := kq) v8 ?_ (fun hs => ?_); clear_value v6; subst v8
  with_reducible refine State.setSess_kept (State.startMstop_kept ?_); with_reducible assumption; clear_value v6 v8
  refine State.kept_ite ?_ ?_; with_reducible assumption; refine State.kept_ite ?_ ?_; with_reducible assumption
  with_reducible refine State.offer_kept ?_; with_reducible assumption

theorem State.stopHosted_kept {kq : List Instr} {s : State} {n : Nat} {reason : Nat} (hkq : State.Kept kq s) :
    State.Kept kq (State.stopHosted s n reason) := by
  unfold State.stopHosted; refine State.kept_ite ?_ ?_; with_reducible assumption; lift_lets -underBinder; intro v6
  refine State.kept_have (q := kq) v6 ?_ (fun hs => ?_); subst v6; with_reducible refine State.startMstop_kept ?_
  with_reducible assumption; clear_value v6; refine State.kept_ite ?_ ?_; with_reducible assumption
  with_reducible refine State.offer_kept ?_; with_reducible assumption

theorem State.stopAny_kept {kq : List Instr} {s : State} {n : Nat} {reason : Nat} (hkq : State.Kept kq s) : State.Kept
    kq (State.stopAny s n reason) := by
  unfold State.stopAny; refine State.kept_ite ?_ ?_; with_reducible refine State.stopSession_kept ?_
  with_reducible assumption; with_reducible refine State.stopHosted_kept ?_; with_reducible assumption

theorem State.cardPresented_kept {kq : List Instr} {s : State} {i : Identity} (hkq : State.Kept kq s) : State.Kept kq
    (State.cardPresented s i) := by
  unfold State.cardPresented; split; with_reducible refine State.authoriseCard_kept ?_; with_reducible assumption
  with_reducible refine State.kept_upd ?_; with_reducible assumption

theorem State.bindHeld_kept {kq : List Instr} {s : State} {n : Nat} (hkq : State.Kept kq s) : State.Kept kq
    (State.bindHeld s n) := by
  unfold State.bindHeld; split; refine State.kept_ite ?_ ?_
  with_reducible refine State.authoriseCard_kept (State.kept_upd ?_); with_reducible assumption
  refine State.kept_ite ?_ ?_; with_reducible refine State.authorise_kept ?_; with_reducible assumption
  with_reducible assumption; refine State.kept_ite ?_ ?_; with_reducible refine State.authorise_kept ?_
  with_reducible assumption; with_reducible assumption

theorem State.connect_kept {kq : List Instr} {s : State} {n : Nat} (hkq : State.Kept kq s) : State.Kept kq
    (State.connect s n) := by
  unfold State.connect; lift_lets -underBinder; intro v5; clear_value v5; intro v6
  refine State.kept_have (q := kq) v6 ?_ (fun hs => ?_); subst v6; with_reducible refine State.modOutlet_kept ?_
  with_reducible assumption; intro v8; refine State.kept_have (q := kq) v8 ?_ (fun hs => ?_); clear_value v6; subst v8
  with_reducible refine State.wr_kept (State.wr_kept (State.wr_kept ?_)); with_reducible assumption; intro v10
  refine State.kept_have (q := kq) v10 ?_ (fun hs => ?_); clear_value v6 v8; subst v10
  with_reducible refine State.wr_kept ?_; with_reducible assumption; intro v12
  refine State.kept_have (q := kq) v12 ?_ (fun hs => ?_); clear_value v6 v8 v10; subst v12
  with_reducible refine State.offer_kept ?_; with_reducible assumption; intro v14
  refine State.kept_have (q := kq) v14 ?_ (fun hs => ?_); clear_value v6 v8 v10 v12; subst v14
  with_reducible refine State.setSess_kept ?_; with_reducible assumption; intro v16
  refine State.kept_have (q := kq) v16 ?_ (fun hs => ?_); clear_value v6 v8 v10 v12 v14; subst v16
  refine State.kept_ite ?_ ?_; with_reducible refine State.cableQueue_kept ?_; with_reducible assumption
  with_reducible assumption; clear_value v6 v8 v10 v12 v14 v16; with_reducible refine State.bindHeld_kept ?_
  with_reducible assumption

theorem State.unplugged_kept {kq : List Instr} {s : State} {n : Nat} (hkq : State.Kept kq s) : State.Kept kq
    (State.unplugged s n) := by
  unfold State.unplugged; lift_lets -underBinder; intro v5; refine State.kept_have (q := kq) v5 ?_ (fun hs => ?_)
  subst v5; refine State.kept_ite ?_ ?_; with_reducible refine State.erem_kept ?_; with_reducible assumption
  with_reducible refine State.caskSafety_kept ?_; with_reducible assumption; clear_value v5
  with_reducible refine State.endOrWait_kept ?_; with_reducible assumption

theorem State.clearAtA_kept {kq : List Instr} {s : State} {n : Nat} (hkq : State.Kept kq s) : State.Kept kq
    (State.clearAtA s n) := by
  unfold State.clearAtA; with_reducible refine State.wr_kept ?_; refine State.kept_forEach (fun x s h => ?_) _ _ ?_
  with_reducible refine State.clearFault_kept ?_; with_reducible assumption; with_reducible assumption

theorem State.vehicleLeft_kept {kq : List Instr} {s : State} {n : Nat} (hkq : State.Kept kq s) : State.Kept kq
    (State.vehicleLeft s n) := by
  unfold State.vehicleLeft; lift_lets -underBinder; intro v5; clear_value v5; intro v6
  refine State.kept_have (q := kq) v6 ?_ (fun hs => ?_); subst v6; refine State.kept_ite ?_ ?_
  with_reducible refine State.raise_kept ?_; with_reducible assumption; with_reducible assumption; intro v8
  refine State.kept_have (q := kq) v8 ?_ (fun hs => ?_); clear_value v6; subst v8
  with_reducible refine State.modOutlet_kept (State.wr_kept ?_); with_reducible assumption; clear_value v6 v8
  refine State.kept_ite ?_ ?_; with_reducible refine State.setSess_kept (State.offer_kept ?_); with_reducible assumption
  with_reducible refine State.setSess_kept (State.wr_kept ?_); with_reducible assumption

theorem State.pilotDrives_kept {kq : List Instr} {s : State} {n : Nat} {p : Pilot} (hkq : State.Kept kq s) :
    State.Kept kq (State.pilotDrives s n p) := by
  unfold State.pilotDrives; lift_lets -underBinder; intro v6; clear_value v6; refine State.kept_ite ?_ ?_
  with_reducible assumption; split; refine State.kept_ite ?_ ?_; refine State.kept_ite ?_ ?_
  with_reducible refine State.setSess_kept (State.offer_kept (State.raise_kept ?_)); with_reducible assumption
  refine State.kept_ite ?_ ?_; with_reducible refine State.setSess_kept (State.raise_kept ?_); with_reducible assumption
  with_reducible refine State.connect_kept ?_; with_reducible assumption; with_reducible assumption
  refine State.kept_ite ?_ ?_; with_reducible refine State.vehicleLeft_kept ?_; with_reducible assumption
  with_reducible assumption; refine State.kept_ite ?_ ?_; with_reducible refine State.vehicleLeft_kept ?_
  with_reducible assumption; with_reducible assumption; with_reducible assumption; with_reducible assumption
  refine State.kept_ite ?_ ?_; with_reducible refine State.unplugged_kept ?_; with_reducible assumption
  refine State.kept_ite ?_ ?_; with_reducible refine State.reactSafety_kept ?_; with_reducible assumption
  refine State.kept_ite ?_ ?_; refine State.kept_ite ?_ ?_; with_reducible refine State.requestClose_kept ?_
  with_reducible assumption; with_reducible assumption; refine State.kept_ite ?_ ?_
  with_reducible refine State.setSess_kept (State.openOutlet_kept ?_); with_reducible assumption
  with_reducible assumption

theorem State.enfRaise_kept {kq : List Instr} {s : State} {n : Nat} {watts : Nat} (hkq : State.Kept kq s) : State.Kept
    kq (State.enfRaise s n watts) := by
  unfold State.enfRaise; with_reducible refine State.modOutlet_kept (State.wr_kept ?_); with_reducible assumption

theorem State.applyAlloc_kept {kq : List Instr} {s : State} {n : Nat} {watts : Nat} {limit : Nat} (hkq : State.Kept kq
    s) : State.Kept kq (State.applyAlloc s n watts limit) := by
  unfold State.applyAlloc; lift_lets -underBinder; intro v7; clear_value v7; intro v8; clear_value v8; intro v9
  refine State.kept_have (q := kq) v9 ?_ (fun hs => ?_); subst v9
  with_reducible refine State.modOutlet_kept (State.wr_kept (State.wr_kept ?_)); with_reducible assumption; intro v11
  refine State.kept_have (q := kq) v11 ?_ (fun hs => ?_); clear_value v9; subst v11
  with_reducible refine State.wr_kept (State.enfRaise_kept (State.wr_kept ?_)); with_reducible assumption
  clear_value v9 v11; refine State.kept_ite ?_ ?_; with_reducible refine State.modOutlet_kept ?_
  with_reducible assumption; refine State.kept_ite ?_ ?_
  with_reducible refine State.offerW_kept (State.raise_kept (State.noteCounts_kept ?_)); with_reducible assumption
  refine State.kept_ite ?_ ?_; with_reducible refine State.offerW_kept (State.raise_kept ?_); with_reducible assumption
  refine State.kept_ite ?_ ?_; with_reducible assumption; with_reducible refine State.offerW_kept ?_
  with_reducible assumption

theorem State.pauseSession_kept {kq : List Instr} {s : State} {n : Nat} (hkq : State.Kept kq s) : State.Kept kq
    (State.pauseSession s n) := by
  unfold State.pauseSession; lift_lets -underBinder; intro v5; clear_value v5; intro v6; clear_value v6; intro v7
  refine State.kept_have (q := kq) v7 ?_ (fun hs => ?_); subst v7; with_reducible refine State.modOutlet_kept ?_
  with_reducible assumption; intro v9; clear_value v9; intro v10; refine State.kept_have (q := kq) v10 ?_ (fun hs => ?_)
  clear_value v7; subst v10; with_reducible refine State.kept_upd ?_; with_reducible assumption; intro v12
  refine State.kept_have (q := kq) v12 ?_ (fun hs => ?_); clear_value v7 v10; subst v12
  with_reducible refine State.wr_kept (State.wr_kept ?_); with_reducible assumption; intro v14
  refine State.kept_have (q := kq) v14 ?_ (fun hs => ?_); clear_value v7 v10 v12; subst v14; refine State.kept_ite ?_ ?_
  with_reducible refine State.dcTo_kept ?_; with_reducible assumption; refine State.kept_ite ?_ ?_
  with_reducible refine State.modOutlet_kept (State.offer_kept ?_); with_reducible assumption
  with_reducible refine State.modOutlet_kept ?_; with_reducible assumption; clear_value v7 v10 v12 v14
  with_reducible refine State.setSess_kept ?_; with_reducible assumption

theorem State.queuePositions_kept {kq : List Instr} {s : State} (hkq : State.Kept kq s) : State.Kept kq
    (State.queuePositions s) := by
  unfold State.queuePositions; refine State.kept_forEach (fun x s h => ?_) _ _ ?_; lift_lets -underBinder; intro v7
  clear_value v7; refine State.kept_forEach (fun x s h => ?_) _ _ ?_; with_reducible refine State.wr_kept ?_
  with_reducible assumption; with_reducible assumption; with_reducible assumption

theorem State.pauseShare_kept {kq : List Instr} {s : State} {n : Nat} (hkq : State.Kept kq s) : State.Kept kq
    (State.pauseShare s n) := by
  unfold State.pauseShare; lift_lets -underBinder; intro v5; refine State.kept_have (q := kq) v5 ?_ (fun hs => ?_)
  subst v5; with_reducible refine State.queuePositions_kept (State.pauseSession_kept ?_); with_reducible assumption
  clear_value v5; with_reducible refine State.raise_kept ?_; with_reducible assumption

theorem State.resumeSession_kept {kq : List Instr} {s : State} {n : Nat} {watts : Nat} (hkq : State.Kept kq s) :
    State.Kept kq (State.resumeSession s n watts) := by
  unfold State.resumeSession; lift_lets -underBinder; intro v6; refine State.kept_have (q := kq) v6 ?_ (fun hs => ?_)
  subst v6; with_reducible refine State.modOutlet_kept (State.leavePause_kept ?_); with_reducible assumption; intro v8
  refine State.kept_have (q := kq) v8 ?_ (fun hs => ?_); clear_value v6; subst v8
  with_reducible refine State.setSess_kept (State.wr_kept (State.wr_kept ?_)); with_reducible assumption; intro v10
  refine State.kept_have (q := kq) v10 ?_ (fun hs => ?_); clear_value v6 v8; subst v10
  with_reducible refine State.wr_kept (State.enfRaise_kept (State.wr_kept ?_)); with_reducible assumption; intro v12
  refine State.kept_have (q := kq) v12 ?_ (fun hs => ?_); clear_value v6 v8 v10; subst v12
  with_reducible refine State.offerW_kept (State.raise_kept ?_); with_reducible assumption; intro v14
  clear_value v14 v6 v8 v10 v12; refine State.kept_ite ?_ ?_; with_reducible refine State.stageSet_kept ?_
  with_reducible assumption; with_reducible assumption

theorem State.followTrack_kept {kq : List Instr} {s : State} {n : Nat} (hkq : State.Kept kq s) : State.Kept kq
    (State.followTrack s n) := by
  unfold State.followTrack; lift_lets -underBinder; intro v5; clear_value v5; intro v6; clear_value v6; intro v7
  refine State.kept_have (q := kq) v7 ?_ (fun hs => ?_); subst v7; with_reducible refine State.wr_kept ?_
  with_reducible assumption; intro v9; clear_value v9 v7; split; with_reducible refine State.modOutlet_kept ?_
  with_reducible assumption; refine State.kept_ite ?_ ?_; with_reducible refine State.modOutlet_kept ?_
  with_reducible assumption; with_reducible assumption; refine State.kept_ite ?_ ?_; lift_lets -underBinder; intro v19
  clear_value v19; with_reducible refine State.modOutlet_kept ?_; with_reducible assumption
  with_reducible refine State.modOutlet_kept ?_; with_reducible assumption

theorem State.settleShare_kept {kq : List Instr} {s : State} {w : Share} {limit : Nat} {n : Nat} (hkq : State.Kept kq
    s) : State.Kept kq (State.settleShare s w limit n) := by
  unfold State.settleShare; lift_lets -underBinder; intro v7; refine State.kept_have (q := kq) v7 ?_ (fun hs => ?_)
  subst v7; with_reducible refine State.modOutlet_kept ?_; with_reducible assumption; intro v9; clear_value v9
  intro v10; clear_value v10; intro v11; refine State.kept_have (q := kq) v11 ?_ (fun hs => ?_); clear_value v7
  subst v11; with_reducible refine State.modOutlet_kept ?_; with_reducible assumption; clear_value v7 v11
  refine State.kept_ite ?_ ?_; refine State.kept_ite ?_ ?_; with_reducible refine State.resumeSession_kept ?_
  with_reducible assumption; with_reducible refine State.applyAlloc_kept ?_; with_reducible assumption
  refine State.kept_ite ?_ ?_; with_reducible assumption; refine State.kept_ite ?_ ?_
  with_reducible refine State.modOutlet_kept ?_; with_reducible assumption
  with_reducible refine State.pauseShare_kept ?_; with_reducible assumption

theorem State.waitMinutes_kept {kq : List Instr} {s : State} {n : Nat} (hkq : State.Kept kq s) : State.Kept kq
    (State.waitMinutes s n) := by
  unfold State.waitMinutes; refine State.kept_ite ?_ ?_; with_reducible refine State.wr_kept ?_
  with_reducible assumption; with_reducible assumption

theorem State.reserveHost_kept {kq : List Instr} {s : State} {n : Nat} (hkq : State.Kept kq s) : State.Kept kq
    (State.reserveHost s n) := by
  unfold State.reserveHost; refine State.kept_ite ?_ ?_; with_reducible refine State.wr_kept (State.wr_kept ?_)
  with_reducible assumption; with_reducible assumption

theorem State.allocatorRun_kept {kq : List Instr} {s : State} (hkq : State.Kept kq s) : State.Kept kq
    (State.allocatorRun s) := by
  unfold State.allocatorRun; split; lift_lets -underBinder; intro v10; clear_value v10; intro v11
  refine State.kept_have (q := kq) v11 ?_ (fun hs => ?_); subst v11; refine State.kept_forEach (fun x s h => ?_) _ _ ?_
  with_reducible refine State.reserveHost_kept ?_; with_reducible assumption; with_reducible assumption; intro v13
  refine State.kept_have (q := kq) v13 ?_ (fun hs => ?_); clear_value v11; subst v13
  with_reducible refine State.wr_kept ?_; with_reducible assumption; intro v15; clear_value v15; intro v16
  refine State.kept_have (q := kq) v16 ?_ (fun hs => ?_); clear_value v11 v13; subst v16; refine State.kept_ite ?_ ?_
  with_reducible assumption; with_reducible refine State.raise_kept (State.kept_upd ?_); with_reducible assumption
  intro v18; clear_value v18; intro v19; refine State.kept_have (q := kq) v19 ?_ (fun hs => ?_); clear_value v11 v13 v16
  subst v19; refine State.kept_forEach (fun x s h => ?_) _ _ ?_; with_reducible refine State.followTrack_kept ?_
  with_reducible assumption; with_reducible assumption; intro v21; clear_value v21; intro v22
  refine State.kept_have (q := kq) v22 ?_ (fun hs => ?_); clear_value v11 v13 v16 v19; subst v22
  refine State.kept_forEach (fun x s h => ?_) _ _ ?_; with_reducible refine State.settleShare_kept ?_
  with_reducible assumption; with_reducible assumption; intro v24; clear_value v24; intro v25
  refine State.kept_have (q := kq) v25 ?_ (fun hs => ?_); clear_value v11 v13 v16 v19 v22; subst v25
  refine State.kept_forEach (fun x s h => ?_) _ _ ?_; with_reducible refine State.applyAlloc_kept ?_
  with_reducible assumption; with_reducible assumption; intro v27
  refine State.kept_have (q := kq) v27 ?_ (fun hs => ?_); clear_value v11 v13 v16 v19 v22 v25; subst v27
  with_reducible refine State.queuePositions_kept ?_; with_reducible assumption; clear_value v11 v13 v16 v19 v22 v25 v27
  refine State.kept_forEach (fun x s h => ?_) _ _ ?_; with_reducible refine State.waitMinutes_kept ?_
  with_reducible assumption; with_reducible assumption

theorem State.rampDc_kept {kq : List Instr} {s : State} {n : Nat} (hkq : State.Kept kq s) : State.Kept kq
    (State.rampDc s n) := by
  unfold State.rampDc; split; refine State.kept_ite ?_ ?_; with_reducible assumption; lift_lets -underBinder; intro v10
  clear_value v10; intro v11; clear_value v11; intro v12; clear_value v12; intro v13; clear_value v13
  with_reducible refine State.stageSet_kept ?_; with_reducible assumption; with_reducible assumption

theorem State.rampReduce_kept {kq : List Instr} {s : State} {n : Nat} (hkq : State.Kept kq s) : State.Kept kq
    (State.rampReduce s n) := by
  unfold State.rampReduce; split; with_reducible assumption; lift_lets -underBinder; intro v10; clear_value v10
  intro v11; clear_value v11; refine State.kept_ite ?_ ?_
  with_reducible refine State.stageSet_kept (State.modOutlet_kept ?_); with_reducible assumption
  with_reducible refine State.stageSet_kept ?_; with_reducible assumption

theorem State.learnPhases_kept {kq : List Instr} {s : State} {n : Nat} (hkq : State.Kept kq s) : State.Kept kq
    (State.learnPhases s n) := by
  unfold State.learnPhases; lift_lets -underBinder; intro v5; clear_value v5; intro v6; clear_value v6; intro v7
  clear_value v7; refine State.kept_ite ?_ ?_; with_reducible refine State.modOutlet_kept ?_; with_reducible assumption
  with_reducible assumption

theorem State.pauseOpen_kept {kq : List Instr} {s : State} {n : Nat} (hkq : State.Kept kq s) : State.Kept kq
    (State.pauseOpen s n) := by
  unfold State.pauseOpen; split; lift_lets -underBinder; intro v10; clear_value v10; refine State.kept_ite ?_ ?_
  with_reducible refine State.modOutlet_kept (State.openOutlet_kept ?_); with_reducible assumption
  with_reducible assumption; with_reducible assumption

theorem State.restPilot_kept {kq : List Instr} {s : State} {n : Nat} (hkq : State.Kept kq s) : State.Kept kq
    (State.restPilot s n) := by
  unfold State.restPilot; lift_lets -underBinder; intro v5; clear_value v5; intro v6
  refine State.kept_have (q := kq) v6 ?_ (fun hs => ?_); subst v6; refine State.kept_ite ?_ ?_
  with_reducible refine State.clearAtA_kept ?_; with_reducible assumption; with_reducible assumption; clear_value v6
  refine State.kept_ite ?_ ?_; refine State.kept_ite ?_ ?_; with_reducible refine State.pilotDrives_kept ?_
  with_reducible assumption; with_reducible assumption; with_reducible assumption

theorem State.sessionCycle_kept {kq : List Instr} {s : State} {n : Nat} (hkq : State.Kept kq s) : State.Kept kq
    (State.sessionCycle s n) := by
  unfold State.sessionCycle; lift_lets -underBinder; intro v5; refine State.kept_have (q := kq) v5 ?_ (fun hs => ?_)
  subst v5; with_reducible refine State.restPilot_kept (State.reactSafety_kept ?_); with_reducible assumption; intro v7
  refine State.kept_have (q := kq) v7 ?_ (fun hs => ?_); clear_value v5; subst v7
  with_reducible refine State.closeGone_kept ?_; with_reducible assumption; intro v9
  refine State.kept_have (q := kq) v9 ?_ (fun hs => ?_); clear_value v5 v7; subst v9; refine State.kept_ite ?_ ?_
  with_reducible refine State.endSession_kept ?_; with_reducible assumption; with_reducible assumption; intro v11
  refine State.kept_have (q := kq) v11 ?_ (fun hs => ?_); clear_value v5 v7 v9; subst v11; split; lift_lets -underBinder
  intro v20; refine State.kept_have (q := kq) v20 ?_ (fun hs => ?_); subst v20
  with_reducible refine State.modOutlet_kept ?_; with_reducible assumption; clear_value v20; refine State.kept_ite ?_ ?_
  with_reducible refine State.pauseShare_kept ?_; with_reducible assumption
  with_reducible refine State.applyAlloc_kept ?_; with_reducible assumption; with_reducible assumption; intro v13
  clear_value v13; intro v14; clear_value v14; intro v15; refine State.kept_have (q := kq) v15 ?_ (fun hs => ?_)
  clear_value v5 v7 v9 v11; subst v15; refine State.kept_ite ?_ ?_
  with_reducible refine State.requestClose_kept (State.modOutlet_kept ?_); with_reducible assumption
  refine State.kept_ite ?_ ?_; with_reducible refine State.setSess_kept (State.openOutlet_kept ?_)
  with_reducible assumption; with_reducible assumption; intro v17
  refine State.kept_have (q := kq) v17 ?_ (fun hs => ?_); clear_value v5 v7 v9 v11 v15; subst v17
  refine State.kept_ite ?_ ?_; with_reducible refine State.offer_kept ?_; with_reducible assumption
  with_reducible assumption; clear_value v5 v7 v9 v11 v15 v17
  with_reducible refine State.pauseOpen_kept (State.learnPhases_kept (State.rampDc_kept (State.rampReduce_kept ?_)))
  with_reducible assumption

end Sys2Proof.Machine
end

