-- ==== Sys2Proof/Laws/KeepCask.lean ====
section
/-! SUPPORT. What the allocator, Cask and ledger commands keep. -/

namespace Sys2Proof.Machine

theorem State.modPm_kept {kq : List Instr} {s : State} {n : Nat} {i : Nat} {f : PowerModule → PowerModule} (hkq :
    State.Kept kq s) : State.Kept kq (State.modPm s n i f) := by
  unfold State.modPm; with_reducible refine State.modOutlet_kept ?_; with_reducible assumption

theorem State.capNow_kept {kq : List Instr} {s : State} {n : Nat} (hkq : State.Kept kq s) : State.Kept kq
    (State.capNow s n) := by
  unfold State.capNow; refine State.kept_ite ?_ ?_; with_reducible refine State.applyAlloc_kept ?_
  with_reducible assumption; with_reducible assumption

theorem execPmStatusFrame_kept {kq : List Instr} {t : Nat} {bus : Nat} {id : Nat} {frame : List Byte} {s : State} (hkq
    : State.Kept kq s) : OutKept kq (execPmStatusFrame t bus id frame s) := by
  unfold execPmStatusFrame; refine State.kept_next ?_; with_reducible refine onEvent_kept ?_ ?_; intro _ _
  lift_lets -underBinder; intro v10; clear_value v10; refine State.kept_ite ?_ ?_; with_reducible assumption; split
  with_reducible assumption; with_reducible refine State.modPm_kept ?_; with_reducible assumption
  with_reducible assumption

theorem execPmIdentFrame_kept {kq : List Instr} {t : Nat} {bus : Nat} {id : Nat} {maker : Nat} {model : Nat} {serial :
    Nat} {ratedV : Nat} {ratedA : Nat} {ratedKw : Nat} {fw : Nat} {s : State} (hkq : State.Kept kq s) : OutKept kq
    (execPmIdentFrame t bus id maker model serial ratedV ratedA ratedKw fw s) := by
  unfold execPmIdentFrame; refine State.kept_next ?_; with_reducible refine onEvent_kept ?_ ?_; intro _ _; split
  with_reducible assumption; with_reducible refine State.modPm_kept ?_; with_reducible assumption
  with_reducible assumption

theorem execPmFaultFrame_kept {kq : List Instr} {t : Nat} {bus : Nat} {id : Nat} {code : Nat} {severity : Nat} {s :
    State} (hkq : State.Kept kq s) : OutKept kq (execPmFaultFrame t bus id code severity s) := by
  unfold execPmFaultFrame; refine State.kept_next ?_; with_reducible refine onEvent_kept ?_ ?_; intro _ _; split
  with_reducible assumption; with_reducible refine State.raise_kept (State.modPm_kept ?_); with_reducible assumption
  with_reducible assumption

theorem execPmLost_kept {kq : List Instr} {t : Nat} {n : Nat} {i : Nat} {s : State} (hkq : State.Kept kq s) : OutKept
    kq (execPmLost t n i s) := by
  unfold execPmLost; refine State.kept_next ?_; with_reducible refine onEvent_kept ?_ ?_; intro _ _
  lift_lets -underBinder; intro v9; clear_value v9; split; with_reducible assumption; refine State.kept_ite ?_ ?_
  with_reducible assumption; lift_lets -underBinder; intro v15; refine State.kept_have (q := kq) v15 ?_ (fun hs => ?_)
  subst v15; with_reducible refine State.modPm_kept ?_; with_reducible assumption; intro v17
  refine State.kept_have (q := kq) v17 ?_ (fun hs => ?_); clear_value v15; subst v17
  with_reducible refine State.raise_kept ?_; with_reducible assumption; clear_value v15 v17; refine State.kept_ite ?_ ?_
  refine State.kept_ite ?_ ?_; with_reducible refine State.faultSession_kept ?_; with_reducible assumption
  with_reducible refine State.erem_kept ?_; with_reducible assumption; with_reducible refine State.capNow_kept ?_
  with_reducible assumption; with_reducible assumption

theorem execSetpointSend_kept {kq : List Instr} {t : Nat} {n : Nat} {s : State} (hkq : State.Kept kq s) : OutKept kq
    (execSetpointSend t n s) := by
  unfold execSetpointSend; refine State.kept_next ?_; with_reducible refine onEvent_kept ?_ ?_; intro _ _
  refine State.kept_ite ?_ ?_; with_reducible assumption; with_reducible refine State.modOutlet_kept ?_
  with_reducible assumption; with_reducible assumption

theorem execPmSyncSend_kept {kq : List Instr} {t : Nat} {s : State} (hkq : State.Kept kq s) : OutKept kq
    (execPmSyncSend t s) := by
  unfold execPmSyncSend; refine State.kept_next ?_; with_reducible refine onEvent_kept ?_ ?_; intro _ _
  refine State.kept_ite ?_ ?_; with_reducible assumption; with_reducible refine State.kept_upd ?_
  with_reducible assumption; with_reducible assumption

theorem execAllocatorRun_kept {kq : List Instr} {t : Nat} {s : State} (hkq : State.Kept kq s) : OutKept kq
    (execAllocatorRun t s) := by
  unfold execAllocatorRun; refine State.kept_next ?_; with_reducible refine onEvent_kept ?_ ?_; intro _ _
  lift_lets -underBinder; intro v7; clear_value v7; intro v8; clear_value v8; intro v9
  refine State.kept_have (q := kq) v9 ?_ (fun hs => ?_); subst v9; with_reducible refine State.kept_upd ?_
  with_reducible assumption; clear_value v9; refine State.kept_ite ?_ ?_; with_reducible assumption
  refine State.kept_ite ?_ ?_; with_reducible assumption; with_reducible refine State.allocatorRun_kept ?_
  with_reducible assumption; with_reducible assumption

theorem execTrellisLimitExpiry_kept {kq : List Instr} {t : Nat} {s : State} (hkq : State.Kept kq s) : OutKept kq
    (execTrellisLimitExpiry t s) := by
  unfold execTrellisLimitExpiry; refine State.kept_next ?_; with_reducible refine onEvent_kept ?_ ?_; intro _ _; split
  refine State.kept_ite ?_ ?_; with_reducible refine State.kept_upd ?_; with_reducible assumption
  with_reducible assumption; with_reducible assumption; with_reducible assumption

theorem execEnforcementGraceEnd_kept {kq : List Instr} {t : Nat} {n : Nat} {s : State} (hkq : State.Kept kq s) :
    OutKept kq (execEnforcementGraceEnd t n s) := by
  unfold execEnforcementGraceEnd; refine State.kept_next ?_; with_reducible refine onEvent_kept ?_ ?_; intro _ _
  lift_lets -underBinder; intro v8; clear_value v8; intro v9; clear_value v9; refine State.kept_ite ?_ ?_
  with_reducible assumption; with_reducible refine State.modOutlet_kept (State.wr_kept ?_); with_reducible assumption
  with_reducible assumption

theorem execAllocMaxWait_kept {kq : List Instr} {t : Nat} {n : Nat} {s : State} (hkq : State.Kept kq s) : OutKept kq
    (execAllocMaxWait t n s) := by
  unfold execAllocMaxWait; refine State.kept_next ?_; with_reducible refine onEvent_kept ?_ ?_; intro _ _
  lift_lets -underBinder; intro v8; clear_value v8; intro v9; clear_value v9; intro v10
  refine State.kept_have (q := kq) v10 ?_ (fun hs => ?_); subst v10
  with_reducible refine State.raise_kept (State.wr_kept ?_); with_reducible assumption; clear_value v10
  refine State.kept_ite ?_ ?_; with_reducible refine State.endSession_kept (State.openOutlet_kept ?_)
  with_reducible assumption; with_reducible assumption; with_reducible assumption

theorem State.wrFit_kept {kq : List Instr} {s : State} {F : Fld} {n : Nat} {v : Nat} (hkq : State.Kept kq s) :
    State.Kept kq (State.wrFit s F n v) := by
  unfold State.wrFit; refine State.kept_ite ?_ ?_; with_reducible refine State.wr_kept ?_; with_reducible assumption
  split; with_reducible refine State.wr_kept ?_; refine State.kept_snd (by with_reducible assumption) ?_
  with_reducible refine State.takeFree_kept ?_; with_reducible assumption

theorem State.wrFitInt_kept {kq : List Instr} {s : State} {F : Fld} {n : Nat} {z : Int} (hkq : State.Kept kq s) :
    State.Kept kq (State.wrFitInt s F n z) := by
  unfold State.wrFitInt; refine State.kept_ite ?_ ?_; with_reducible refine State.wrInt_kept ?_
  with_reducible assumption; split; with_reducible refine State.wr_kept ?_
  refine State.kept_snd (by with_reducible assumption) ?_; with_reducible refine State.takeFree_kept ?_
  with_reducible assumption

theorem State.notePeriod_kept {kq : List Instr} {s : State} {m : Nat} {per : Nat} {ok : Bool} (hkq : State.Kept kq s)
    : State.Kept kq (State.notePeriod s m per ok) := by
  unfold State.notePeriod; refine State.kept_ite ?_ ?_; lift_lets -underBinder; intro v7
  refine State.kept_have (q := kq) v7 ?_ (fun hs => ?_); subst v7; with_reducible refine State.modTrk_kept ?_
  with_reducible assumption; intro v9; clear_value v9 v7; with_reducible refine State.wr_kept ?_
  with_reducible assumption; with_reducible refine State.modTrk_kept ?_; with_reducible assumption

theorem State.holdTrk_kept {kq : List Instr} {s : State} {m : Nat} {reason : Nat} {frozen : Nat} (hkq : State.Kept kq
    s) : State.Kept kq (State.holdTrk s m reason frozen) := by
  unfold State.holdTrk; with_reducible refine State.setTrk_kept (State.modTrk_kept ?_); with_reducible assumption

theorem State.lockTrk_kept {kq : List Instr} {s : State} {m : Nat} {cross : Nat} {reason : Nat} (hkq : State.Kept kq
    s) : State.Kept kq (State.lockTrk s m cross reason) := by
  unfold State.lockTrk; lift_lets -underBinder; intro v7; refine State.kept_have (q := kq) v7 ?_ (fun hs => ?_)
  subst v7; with_reducible refine State.modTrk_kept ?_; with_reducible assumption; intro v9; clear_value v9; intro v10
  clear_value v10; intro v11; clear_value v11; intro v12; clear_value v12; intro v13; clear_value v13 v7
  with_reducible refine State.setTrk_kept (State.wr_kept ?_); with_reducible assumption

theorem State.period_kept {kq : List Instr} {s : State} {m : Nat} {cross : Nat} {amp : Nat} (hkq : State.Kept kq s) :
    State.Kept kq (State.period s m cross amp) := by
  unfold State.period; lift_lets -underBinder; intro v7; clear_value v7; intro v8; clear_value v8; intro v9
  clear_value v9; intro v10; clear_value v10; intro v11; clear_value v11; intro v12; clear_value v12; intro v13
  refine State.kept_have (q := kq) v13 ?_ (fun hs => ?_); subst v13; with_reducible refine State.wr_kept ?_
  with_reducible assumption; intro v15; refine State.kept_have (q := kq) v15 ?_ (fun hs => ?_); clear_value v13
  subst v15; with_reducible refine State.modTrk_kept (State.notePeriod_kept ?_); with_reducible assumption; intro v17
  clear_value v17; intro v18; clear_value v18; intro v19; refine State.kept_have (q := kq) v19 ?_ (fun hs => ?_)
  clear_value v13 v15; subst v19; with_reducible refine State.modTrk_kept ?_; with_reducible assumption
  clear_value v13 v15 v19; refine State.kept_ite ?_ ?_; with_reducible assumption; refine State.kept_ite ?_ ?_
  with_reducible refine State.modTrk_kept ?_; with_reducible assumption; refine State.kept_ite ?_ ?_
  refine State.kept_ite ?_ ?_; with_reducible refine State.holdTrk_kept ?_; with_reducible assumption
  refine State.kept_ite ?_ ?_; with_reducible refine State.holdTrk_kept ?_; with_reducible assumption
  refine State.kept_ite ?_ ?_; with_reducible refine State.holdTrk_kept ?_; with_reducible assumption
  with_reducible assumption; refine State.kept_ite ?_ ?_; with_reducible refine State.lockTrk_kept ?_
  with_reducible assumption; with_reducible assumption

theorem State.freqCycle_kept {kq : List Instr} {s : State} {m : Nat} {z : Nat} (hkq : State.Kept kq s) : State.Kept kq
    (State.freqCycle s m z) := by
  unfold State.freqCycle; refine State.kept_ite ?_ ?_; with_reducible assumption; lift_lets -underBinder; intro v6
  clear_value v6; with_reducible refine State.modMp_kept ?_; with_reducible assumption

theorem State.beginCycle_kept {kq : List Instr} {s : State} {m : Nat} {z : Nat} (hkq : State.Kept kq s) : State.Kept
    kq (State.beginCycle s m z) := by
  unfold State.beginCycle; lift_lets -underBinder; intro v6; refine State.kept_have (q := kq) v6 ?_ (fun hs => ?_)
  subst v6; with_reducible refine State.freqCycle_kept ?_; with_reducible assumption; intro v8
  refine State.kept_have (q := kq) v8 ?_ (fun hs => ?_); clear_value v6; subst v8
  with_reducible refine State.modTrk_kept ?_; with_reducible assumption; clear_value v6 v8
  with_reducible refine State.openCycle_kept ?_; with_reducible assumption

theorem State.setCal_kept {kq : List Instr} {s : State} {c : Nat} {gain : Int} {trim : Int} {temp : Int} (hkq :
    State.Kept kq s) : State.Kept kq (State.setCal s c gain trim temp) := by
  unfold State.setCal; lift_lets -underBinder; intro v8; clear_value v8; intro v9; clear_value v9
  with_reducible refine State.kept_upd ?_; with_reducible assumption

theorem State.compensate_kept {kq : List Instr} {s : State} {c : Nat} {temp : Int} (hkq : State.Kept kq s) :
    State.Kept kq (State.compensate s c temp) := by
  unfold State.compensate; split; lift_lets -underBinder; intro v12; clear_value v12; intro v13
  refine State.kept_have (q := kq) v13 ?_ (fun hs => ?_); subst v13; with_reducible refine State.wrFitInt_kept ?_
  with_reducible assumption; clear_value v13; with_reducible refine State.wr_kept (State.wrFitInt_kept ?_)
  with_reducible assumption

theorem State.compensateGroups_kept {kq : List Instr} {s : State} {mask : Nat} {temp : Int} (hkq : State.Kept kq s) :
    State.Kept kq (State.compensateGroups s mask temp).2 := by
  unfold State.compensateGroups; lift_lets -underBinder; intro v6; clear_value v6; intro v7; clear_value v7; intro v8
  clear_value v8; intro v9; refine State.kept_have (q := kq) v9 ?_ (fun hs => ?_); subst v9
  refine State.kept_forEach (fun x s h => ?_) _ _ ?_; lift_lets -underBinder; intro v12; clear_value v12
  with_reducible refine State.startBlend_kept ?_; refine State.kept_forEach (fun x s h => ?_) _ _ ?_
  with_reducible refine State.compensate_kept ?_; with_reducible assumption; with_reducible assumption
  with_reducible assumption; intro v11; clear_value v11 v9; dsimp only; with_reducible refine State.kept_upd ?_
  with_reducible assumption

theorem State.feedChan_kept {kq : List Instr} {s : State} {upTo : Nat} {c : Nat} {f : Feed} (hkq : State.Kept kq s) :
    State.Kept kq (State.feedChan s upTo c f) := by
  unfold State.feedChan; refine State.kept_ite ?_ ?_; with_reducible assumption; lift_lets -underBinder; intro v7
  clear_value v7; intro v8; clear_value v8; intro v9; clear_value v9; intro v10; clear_value v10; intro v11
  clear_value v11; intro v12; clear_value v12; intro v13; clear_value v13; intro v14; clear_value v14; intro v15
  refine State.kept_have (q := kq) v15 ?_ (fun hs => ?_); subst v15; with_reducible refine State.setChain_kept ?_
  with_reducible assumption; intro v17; refine State.kept_have (q := kq) v17 ?_ (fun hs => ?_); clear_value v15
  subst v17; refine State.kept_ite ?_ ?_; with_reducible assumption; with_reducible refine State.filtOverflow_kept ?_
  with_reducible assumption; clear_value v15 v17; refine State.kept_ite ?_ ?_; with_reducible assumption
  with_reducible refine State.addSat_kept ?_; with_reducible assumption

theorem State.resampleNext_kept {kq : List Instr} {s t : State} {c : Nat} (e : s.resampleNext c = some t)
    (h : State.Kept kq s) : State.Kept kq t := by
  simp only [State.resampleNext] at e
  repeat' split at e
  all_goals first | contradiction | (obtain rfl := Option.some.inj e)
  all_goals first | exact h | (split <;> exact h)

/-- A channel's resampling. -/
theorem State.resample_kept {kq : List Instr} {c : Nat} :
    ∀ {k : Nat} {s : State}, State.Kept kq s → State.Kept kq (State.resample c k s)
  | 0, _, h => h
  | k + 1, s, h => by
    simp only [State.resample]
    split
    · exact State.resample_kept (State.resampleNext_kept ‹_› h)
    · exact h

theorem State.respace_kept {kq : List Instr} {s : State} {m : Nat} {no : Nat} (hkq : State.Kept kq s) : State.Kept kq
    (State.respace s m no) := by
  unfold State.respace; refine State.kept_forEach (fun x s h => ?_) _ _ ?_; lift_lets -underBinder; intro v9
  clear_value v9; intro v10; refine State.kept_have (q := kq) v10 ?_ (fun hs => ?_); subst v10
  refine State.kept_ite ?_ ?_; with_reducible refine State.setChain_kept ?_; with_reducible assumption
  with_reducible assumption; clear_value v10; with_reducible refine State.setSamples_kept ?_; with_reducible assumption
  with_reducible assumption

theorem State.feedAll_kept {kq : List Instr} {s : State} {upTo : Nat} {feed : List Feed} (hkq : State.Kept kq s) :
    State.Kept kq (State.feedAll s upTo feed) := by
  unfold State.feedAll; refine State.kept_forEach (fun x s h => ?_) _ _ ?_; refine State.kept_ite ?_ ?_
  with_reducible assumption; lift_lets -underBinder; intro v9; refine State.kept_have (q := kq) v9 ?_ (fun hs => ?_)
  subst v9; with_reducible refine State.feedChan_kept ?_; with_reducible assumption; clear_value v9
  refine State.kept_ite ?_ ?_; with_reducible assumption; with_reducible refine State.resample_kept ?_
  with_reducible assumption; with_reducible assumption

theorem State.pulseDue_kept {kq : List Instr} {s : State} {m : Nat} {start : Nat} {stop : Nat} {steps : List (Int ×
    Int)} {before : List Nat} (hkq : State.Kept kq s) : State.Kept kq (State.pulseDue s m start stop steps before) :=
    by
  unfold State.pulseDue; refine State.kept_forEach (fun x s h => ?_) _ _ ?_; lift_lets -underBinder; intro v12
  clear_value v12; intro v13; clear_value v13; intro v14; clear_value v14; intro v15; clear_value v15; intro v16
  clear_value v16; intro v17; clear_value v17; intro v18; clear_value v18; intro v19; clear_value v19; intro v20
  clear_value v20; with_reducible refine State.backlog_kept (State.kept_upd ?_); with_reducible assumption
  with_reducible assumption

theorem State.putPart_kept {kq : List Instr} {s : State} {m : Nat} {start : Nat} {p : CyclePart} {inc : List Nat} (hkq
    : State.Kept kq s) : State.Kept kq (State.putPart s m start p inc) := by
  unfold State.putPart; lift_lets -underBinder; intro v8; clear_value v8; split; lift_lets -underBinder; intro v15
  refine State.kept_have (q := kq) v15 ?_ (fun hs => ?_); subst v15
  with_reducible refine State.energyPart_kept (State.modMp_kept ?_); with_reducible assumption; clear_value v15
  with_reducible refine State.flushPends_kept (State.pulseDue_kept ?_); with_reducible assumption

theorem State.calSeen_kept {kq : List Instr} {s : State} {m : Nat} {w : Window} (hkq : State.Kept kq s) : State.Kept
    kq (State.calSeen s m w) := by
  unfold State.calSeen; split; lift_lets -underBinder; intro v11; clear_value v11; intro v12; clear_value v12
  with_reducible refine State.kept_upd ?_; with_reducible assumption; with_reducible assumption

theorem State.windowAdd_kept {kq : List Instr} {s : State} {m : Nat} {c : Cycle} {stop : Nat} (hkq : State.Kept kq s)
    : State.Kept kq (State.windowAdd s m c stop) := by
  unfold State.windowAdd; lift_lets -underBinder; intro v7; refine State.kept_have (q := kq) v7 ?_ (fun hs => ?_)
  subst v7; with_reducible refine State.modMp_kept ?_; with_reducible assumption; intro v9; clear_value v9; intro v10
  clear_value v10; intro v11; clear_value v11 v7; refine State.kept_ite ?_ ?_; with_reducible assumption
  with_reducible refine State.calSeen_kept (State.modMp_kept ?_); with_reducible assumption

theorem State.cycleEnergy_kept {kq : List Instr} {s : State} {m : Nat} {c : Cycle} {stop : Nat} (hkq : State.Kept kq
    s) : State.Kept kq (State.cycleEnergy s m c stop) := by
  unfold State.cycleEnergy; lift_lets -underBinder; intro v7; clear_value v7; intro v8; clear_value v8; intro v9
  clear_value v9; intro v10; refine State.kept_have (q := kq) v10 ?_ (fun hs => ?_); subst v10
  with_reducible refine State.modMp_kept ?_; with_reducible assumption; intro v12; clear_value v12; intro v13
  clear_value v13; intro v14; refine State.kept_have (q := kq) v14 ?_ (fun hs => ?_); clear_value v10; subst v14
  refine State.kept_forEach1 (fun x p h => ?_) _ _ ?_; dsimp only; with_reducible refine State.putPart_kept ?_
  with_reducible assumption; dsimp only; with_reducible assumption; intro v16
  refine State.kept_have (q := kq) v16 ?_ (fun hs => ?_); clear_value v10 v14; subst v16; refine State.kept_ite ?_ ?_
  with_reducible assumption; with_reducible refine State.flowTrack_kept ?_; with_reducible assumption
  clear_value v10 v14 v16; with_reducible refine State.windowAdd_kept ?_; with_reducible assumption

theorem State.waveCycle_kept {kq : List Instr} {s : State} {m : Nat} {no : Nat} {start : Nat} {stop : Nat} (hkq :
    State.Kept kq s) : State.Kept kq (State.waveCycle s m no start stop) := by
  unfold State.waveCycle; refine State.kept_ite ?_ ?_; with_reducible assumption; lift_lets -underBinder; intro v8
  clear_value v8; intro v9; clear_value v9; intro v10; clear_value v10; intro v11; clear_value v11
  refine State.kept_forEach (fun x s h => ?_) _ _ ?_; lift_lets -underBinder; intro v15; clear_value v15; intro v16
  clear_value v16; intro v17; clear_value v17; intro v18; clear_value v18; with_reducible refine State.waveAdd_kept ?_
  with_reducible assumption; with_reducible assumption

theorem State.meterNext_kept {kq : List Instr} {s t : State} {m : Nat} (e : s.meterNext m = some t)
    (h : State.Kept kq s) : State.Kept kq t := by
  simp only [State.meterNext] at e
  repeat' split at e
  all_goals first | contradiction | (obtain rfl := Option.some.inj e)
  all_goals first
    | exact State.modMp_kept (State.cycleEnergy_kept (State.waveCycle_kept h))
    | exact State.modMp_kept h

/-- A meter point's metering of what is complete. -/
theorem State.meterSome_kept {kq : List Instr} {m : Nat} :
    ∀ {k : Nat} {s : State}, State.Kept kq s → State.Kept kq (State.meterSome m k s)
  | 0, _, h => h
  | k + 1, s, h => by
    simp only [State.meterSome]
    split
    · exact State.meterSome_kept (State.meterNext_kept ‹_› h)
    · exact h

theorem State.meterTrk_kept {kq : List Instr} {s : State} {k : Nat} (hkq : State.Kept kq s) : State.Kept kq
    (State.meterTrk s k) := by
  unfold State.meterTrk; refine State.kept_forEach (fun x s h => ?_) _ _ ?_
  with_reducible refine State.meterSome_kept ?_; with_reducible assumption; with_reducible assumption

theorem State.meterAll_kept {kq : List Instr} {s : State} {upTo : Nat} {feed : List Feed} (hkq : State.Kept kq s) :
    State.Kept kq (State.meterAll s upTo feed) := by
  unfold State.meterAll; refine State.kept_forEach (fun x s h => ?_) _ _ ?_
  with_reducible refine State.meterSome_kept ?_; with_reducible assumption; with_reducible refine State.feedAll_kept ?_
  with_reducible assumption

theorem State.meterStop_kept {kq : List Instr} {s : State} {feed : List Feed} (hkq : State.Kept kq s) : State.Kept kq
    (State.meterStop s feed) := by
  unfold State.meterStop; lift_lets -underBinder; intro v5; clear_value v5; intro v6
  refine State.kept_have (q := kq) v6 ?_ (fun hs => ?_); subst v6; with_reducible refine State.meterAll_kept ?_
  with_reducible assumption; clear_value v6; refine State.kept_forEach (fun x s h => ?_) _ _ ?_
  refine State.kept_ite ?_ ?_; with_reducible refine State.cycleEnergy_kept ?_; with_reducible assumption; split
  with_reducible refine State.cycleEnergy_kept ?_; with_reducible assumption; with_reducible assumption
  with_reducible assumption

theorem State.modLsw_kept {kq : List Instr} {s : State} {n : Nat} {f : LswCh → LswCh} (hkq : State.Kept kq s) :
    State.Kept kq (State.modLsw s n f) := by
  unfold State.modLsw; with_reducible refine State.kept_upd ?_; with_reducible assumption

theorem State.lswGo_kept {kq : List Instr} {s : State} {n : Nat} {st : Nat} (hkq : State.Kept kq s) : State.Kept kq
    (State.lswGo s n st) := by
  unfold State.lswGo; with_reducible refine State.modLsw_kept (State.wr_kept ?_); with_reducible assumption

theorem State.pwmPeriod_kept {kq : List Instr} {s : State} {n : Nat} {no : Nat} (hkq : State.Kept kq s) : State.Kept
    kq (State.pwmPeriod s n no) := by
  unfold State.pwmPeriod; lift_lets -underBinder; intro v6; clear_value v6; intro v7; clear_value v7; intro v8
  clear_value v8; intro v9; clear_value v9; intro v10; clear_value v10; with_reducible refine State.modLsw_kept ?_
  with_reducible assumption

theorem State.turnOn_kept {kq : List Instr} {s : State} {n : Nat} {retry : Bool} (hkq : State.Kept kq s) : State.Kept
    kq (State.turnOn s n retry) := by
  unfold State.turnOn; refine State.kept_ite ?_ ?_; with_reducible refine State.modLsw_kept (State.lswGo_kept ?_)
  with_reducible assumption; lift_lets -underBinder; intro v6; refine State.kept_have (q := kq) v6 ?_ (fun hs => ?_)
  subst v6; with_reducible refine State.modLsw_kept ?_; with_reducible assumption; intro v8
  refine State.kept_have (q := kq) v8 ?_ (fun hs => ?_); clear_value v6; subst v8; refine State.kept_ite ?_ ?_
  with_reducible refine State.wr_kept ?_; with_reducible assumption; with_reducible assumption; clear_value v6 v8
  with_reducible refine State.lswGo_kept ?_; with_reducible assumption

theorem State.turnOff_kept {kq : List Instr} {s : State} {n : Nat} {st : Nat} (hkq : State.Kept kq s) : State.Kept kq
    (State.turnOff s n st) := by
  unfold State.turnOff; with_reducible refine State.modLsw_kept (State.lswGo_kept ?_); with_reducible assumption

theorem State.lswTrip_kept {kq : List Instr} {s : State} {n : Nat} {cause : Nat} {ma : Nat} {tj : Nat} (hkq :
    State.Kept kq s) : State.Kept kq (State.lswTrip s n cause ma tj) := by
  unfold State.lswTrip; lift_lets -underBinder; intro v8; refine State.kept_have (q := kq) v8 ?_ (fun hs => ?_)
  subst v8; with_reducible refine State.incSat_kept ?_; with_reducible assumption; intro v10; clear_value v10; intro v11
  clear_value v11; intro v12; refine State.kept_have (q := kq) v12 ?_ (fun hs => ?_); clear_value v8; subst v12
  refine State.kept_ite ?_ ?_; with_reducible refine State.wr_kept (State.turnOff_kept ?_); with_reducible assumption
  refine State.kept_ite ?_ ?_; with_reducible refine State.lswGo_kept ?_; with_reducible assumption
  with_reducible refine State.modLsw_kept (State.lswGo_kept ?_); with_reducible assumption; clear_value v8 v12
  with_reducible refine State.raise_kept ?_; with_reducible assumption

theorem State.budgetOff_kept {kq : List Instr} {s : State} {chans : List Nat} {ma : Nat → Nat} {limit : Nat} {mean :
    Nat} (hkq : State.Kept kq s) : State.Kept kq (State.budgetOff s chans ma limit mean) := by
  unfold State.budgetOff; split; with_reducible assumption; lift_lets -underBinder; intro v13
  refine State.kept_have (q := kq) v13 ?_ (fun hs => ?_); subst v13
  with_reducible refine State.incSat_kept (State.wr_kept (State.turnOff_kept ?_)); with_reducible assumption
  clear_value v13; with_reducible refine State.raise_kept ?_; with_reducible assumption

theorem State.lswSafeOff_kept {kq : List Instr} {s : State} (hkq : State.Kept kq s) : State.Kept kq (State.lswSafeOff
    s) := by
  unfold State.lswSafeOff; refine State.kept_ite ?_ ?_; with_reducible assumption
  refine State.kept_forEach (fun x s h => ?_) _ _ ?_; with_reducible refine State.wr_kept (State.turnOff_kept ?_)
  with_reducible assumption; with_reducible assumption

theorem State.lswDisable_kept {kq : List Instr} {s : State} {inst : Nat} (hkq : State.Kept kq s) : State.Kept kq
    (State.lswDisable s inst) := by
  unfold State.lswDisable; refine State.kept_forEach (fun x s h => ?_) _ _ ?_
  with_reducible refine State.turnOff_kept ?_; with_reducible assumption; with_reducible assumption

theorem State.lswShed_kept {kq : List Instr} {s : State} (hkq : State.Kept kq s) : State.Kept kq (State.lswShed s) :=
    by
  unfold State.lswShed; refine State.kept_forEach (fun x s h => ?_) _ _ ?_; with_reducible refine State.turnOff_kept ?_
  with_reducible assumption; with_reducible assumption

theorem State.vlsLow_kept {kq : List Instr} {s : State} {b : Nat} {mv : Nat} (hkq : State.Kept kq s) : State.Kept kq
    (State.vlsLow s b mv) := by
  unfold State.vlsLow; refine State.kept_ite ?_ ?_; with_reducible assumption; lift_lets -underBinder; intro v6
  refine State.kept_have (q := kq) v6 ?_ (fun hs => ?_); subst v6; with_reducible refine State.wr_kept ?_
  with_reducible assumption; intro v8; clear_value v8; intro v9; refine State.kept_have (q := kq) v9 ?_ (fun hs => ?_)
  clear_value v6; subst v9; with_reducible refine State.kept_upd ?_; with_reducible assumption; intro v11
  refine State.kept_have (q := kq) v11 ?_ (fun hs => ?_); clear_value v6 v9; subst v11
  with_reducible refine State.raise_kept (State.wr_kept ?_); with_reducible assumption; clear_value v6 v9 v11
  refine State.kept_ite ?_ ?_; with_reducible assumption; refine State.kept_forEach (fun x s h => ?_) _ _ ?_
  lift_lets -underBinder; intro v16; clear_value v16; intro v17; clear_value v17; intro v18
  refine State.kept_have (q := kq) v18 ?_ (fun hs => ?_); subst v18; refine State.kept_ite ?_ ?_
  with_reducible refine State.lswGo_kept ?_; with_reducible assumption; with_reducible assumption; clear_value v18
  with_reducible refine State.modLsw_kept ?_; with_reducible assumption; with_reducible assumption

theorem State.vlsBack_kept {kq : List Instr} {s : State} {b : Nat} {mv : Nat} (hkq : State.Kept kq s) : State.Kept kq
    (State.vlsBack s b mv) := by
  unfold State.vlsBack; refine State.kept_ite ?_ ?_; with_reducible assumption; lift_lets -underBinder; intro v6
  refine State.kept_have (q := kq) v6 ?_ (fun hs => ?_); subst v6
  with_reducible refine State.raise_kept (State.wr_kept (State.wr_kept ?_)); with_reducible assumption; clear_value v6
  refine State.kept_forEach (fun x s h => ?_) _ _ ?_; split; with_reducible assumption; lift_lets -underBinder
  intro v17; clear_value v17; intro v18; refine State.kept_have (q := kq) v18 ?_ (fun hs => ?_); subst v18
  with_reducible refine State.modLsw_kept ?_; with_reducible assumption; clear_value v18; refine State.kept_ite ?_ ?_
  with_reducible refine State.turnOn_kept ?_; with_reducible assumption; with_reducible assumption
  with_reducible assumption

theorem State.validated_kept {kq : List Instr} {s : State} {k : Nat} (hkq : State.Kept kq s) : State.Kept kq
    (State.validated s k) := by
  unfold State.validated; lift_lets -underBinder; intro v5; clear_value v5; refine State.kept_ite ?_ ?_
  with_reducible assumption; split; with_reducible refine State.abortCask_kept ?_; with_reducible assumption
  refine State.kept_ite ?_ ?_; with_reducible assumption; split; with_reducible refine State.abortCask_kept ?_
  with_reducible assumption; lift_lets -underBinder; intro v14; refine State.kept_have (q := kq) v14 ?_ (fun hs => ?_)
  subst v14; with_reducible refine State.setSlot_kept ?_; with_reducible assumption; intro v16
  refine State.kept_have (q := kq) v16 ?_ (fun hs => ?_); clear_value v14; subst v16
  refine State.kept_forEach (fun x s h => ?_) _ _ ?_; with_reducible refine State.dispArm_kept ?_
  with_reducible assumption; with_reducible assumption; clear_value v14 v16; split
  with_reducible refine State.complete_kept ?_; with_reducible assumption; with_reducible assumption

theorem State.commitCask_kept {kq : List Instr} {s : State} {x : Ctx} {k : Nat} {mode : Nat} {instant : Nat} (hkq :
    State.Kept kq s) : State.Kept kq (State.commitCask s x k mode instant) := by
  unfold State.commitCask; lift_lets -underBinder; intro v8; clear_value v8; split
  with_reducible refine State.complete_kept (State.arm_kept ?_); with_reducible assumption; split
  with_reducible refine State.complete_kept (State.arm_kept ?_); with_reducible assumption
  with_reducible refine State.complete_kept ?_; with_reducible assumption; refine State.kept_ite ?_ ?_
  with_reducible refine State.complete_kept ?_; with_reducible assumption; refine State.kept_ite ?_ ?_
  with_reducible refine State.complete_kept ?_; with_reducible assumption
  with_reducible refine State.complete_kept (State.arm_kept ?_); with_reducible assumption
  with_reducible refine State.complete_kept (State.arm_kept ?_); with_reducible assumption
  with_reducible refine State.complete_kept ?_; with_reducible assumption

theorem State.disableSession_kept {kq : List Instr} {s : State} {n : Nat} (hkq : State.Kept kq s) : State.Kept kq
    (State.disableSession s n) := by
  unfold State.disableSession; split; with_reducible refine State.stopSession_kept ?_; with_reducible assumption
  with_reducible refine State.stopSession_kept ?_; with_reducible assumption
  with_reducible refine State.stopSession_kept ?_; with_reducible assumption; with_reducible assumption
  refine State.kept_ite ?_ ?_; with_reducible refine State.endOrWait_kept (State.caskSafety_kept ?_)
  with_reducible assumption; with_reducible refine State.stopHosted_kept (State.caskSafety_kept ?_)
  with_reducible assumption

theorem State.cancelQueued_kept {kq : List Instr} {s : State} {x : Ctx} {block : Nat} {inst : Nat} (hkq : State.Kept
    kq s) : State.Kept kq (State.cancelQueued s x block inst).2 := by
  unfold State.cancelQueued; lift_lets -underBinder; intro v7; clear_value v7; dsimp only
  refine State.kept_forEach (fun x s h => ?_) _ _ ?_; with_reducible refine State.complete_kept ?_
  with_reducible assumption; with_reducible assumption

theorem State.disableSteps_kept {kq : List Instr} {s : State} {x : Ctx} {block : Nat} {inst : Nat} {done : Bool} (hkq
    : State.Kept kq s) : State.Kept kq (State.disableSteps s x block inst done) := by
  unfold State.disableSteps; split; lift_lets -underBinder; intro v14
  refine State.kept_have (q := kq) v14 ?_ (fun hs => ?_); subst v14; refine State.kept_ite ?_ ?_
  refine State.kept_forEach (fun x s h => ?_) _ _ ?_; with_reducible refine State.dropRegion_kept ?_
  with_reducible assumption; refine State.kept_snd (by with_reducible assumption) ?_
  with_reducible refine State.cancelQueued_kept ?_; with_reducible assumption
  refine State.kept_snd (by with_reducible assumption) ?_; with_reducible refine State.cancelQueued_kept ?_
  with_reducible assumption; intro v16; refine State.kept_have (q := kq) v16 ?_ (fun hs => ?_); clear_value v14
  subst v16; refine State.kept_forEach (fun x s h => ?_) _ _ ?_; lift_lets -underBinder; intro v19; clear_value v19
  split; refine State.kept_ite ?_ ?_; with_reducible refine State.abortCask_kept ?_; with_reducible assumption
  with_reducible assumption; with_reducible assumption; with_reducible assumption; intro v18; clear_value v18; intro v19
  refine State.kept_have (q := kq) v19 ?_ (fun hs => ?_); clear_value v14 v16; subst v19
  refine State.kept_forEach (fun x s h => ?_) _ _ ?_; with_reducible refine State.disableSession_kept ?_
  with_reducible assumption; with_reducible assumption; intro v21; clear_value v21 v14 v16 v19
  with_reducible refine State.kept_upd ?_; with_reducible assumption

theorem execCaskOpen_kept {kq : List Instr} {x : Ctx} {s : State} (hkq : State.Kept kq s) : OutKept kq (execCaskOpen x
    s) := by
  unfold execCaskOpen; refine State.kept_next ?_; with_reducible refine State.command_kept ?_ ?_
  with_reducible assumption; intro _ _; split; with_reducible refine State.complete_kept ?_; with_reducible assumption
  lift_lets -underBinder; intro v12; clear_value v12; intro v13; clear_value v13; intro v14
  refine State.kept_have (q := kq) v14 ?_ (fun hs => ?_); subst v14; with_reducible refine State.kept_upd ?_
  with_reducible assumption; intro v16; clear_value v16 v14
  with_reducible refine State.complete_kept (State.setSlot_kept ?_); with_reducible assumption

theorem execCaskAction_kept {kq : List Instr} {x : Ctx} {act : CaskAct} {s : State} (hkq : State.Kept kq s) : OutKept
    kq (execCaskAction x act s) := by
  unfold execCaskAction; refine State.kept_next ?_; with_reducible refine State.command_kept ?_ ?_
  with_reducible assumption; intro _ _; with_reducible refine State.stage_kept ?_; with_reducible assumption

theorem execCaskPrepare_kept {kq : List Instr} {x : Ctx} {id : Nat} {expected : Nat} {s : State} (hkq : State.Kept kq
    s) : OutKept kq (execCaskPrepare x id expected s) := by
  unfold execCaskPrepare; refine State.kept_next ?_; with_reducible refine State.command_kept ?_ ?_
  with_reducible assumption; intro _ _; split; with_reducible refine State.complete_kept ?_; with_reducible assumption
  lift_lets -underBinder; intro v14; clear_value v14; refine State.kept_ite ?_ ?_
  with_reducible refine State.complete_kept ?_; with_reducible assumption; refine State.kept_ite ?_ ?_
  with_reducible refine State.complete_kept ?_; with_reducible assumption
  with_reducible refine State.testCloses_kept (State.setSlot_kept ?_); with_reducible assumption

theorem execCaskValidationDone_kept {kq : List Instr} {t : Nat} {k : Nat} {s : State} (hkq : State.Kept kq s) :
    OutKept kq (execCaskValidationDone t k s) := by
  unfold execCaskValidationDone; refine State.kept_next ?_; with_reducible refine onEvent_kept ?_ ?_; intro _ _
  refine State.kept_ite ?_ ?_; with_reducible refine State.validated_kept ?_; with_reducible assumption
  with_reducible assumption; with_reducible assumption

theorem execCaskCommit_kept {kq : List Instr} {x : Ctx} {id : Nat} {mode : Nat} {instant : Nat} {s : State} (hkq :
    State.Kept kq s) : OutKept kq (execCaskCommit x id mode instant s) := by
  unfold execCaskCommit; refine State.kept_next ?_; with_reducible refine State.command_kept ?_ ?_
  with_reducible assumption; intro _ _; split; with_reducible refine State.complete_kept ?_; with_reducible assumption
  refine State.kept_ite ?_ ?_; with_reducible refine State.complete_kept ?_; with_reducible assumption
  with_reducible refine State.commitCask_kept ?_; with_reducible assumption

theorem execCaskAbort_kept {kq : List Instr} {x : Ctx} {id : Nat} {s : State} (hkq : State.Kept kq s) : OutKept kq
    (execCaskAbort x id s) := by
  unfold execCaskAbort; refine State.kept_next ?_; with_reducible refine State.command_kept ?_ ?_
  with_reducible assumption; intro _ _; split; with_reducible refine State.complete_kept ?_; with_reducible assumption
  refine State.kept_ite ?_ ?_; with_reducible refine State.complete_kept ?_; with_reducible assumption
  refine State.kept_ite ?_ ?_; with_reducible refine State.complete_kept (State.abortCask_kept ?_)
  with_reducible assumption; with_reducible refine State.complete_kept ?_; with_reducible assumption

theorem execCaskQuery_kept {kq : List Instr} {x : Ctx} {id : Nat} {s : State} (hkq : State.Kept kq s) : OutKept kq
    (execCaskQuery x id s) := by
  unfold execCaskQuery; refine State.kept_next ?_; with_reducible refine State.command_kept ?_ ?_
  with_reducible assumption; intro _ _; split; with_reducible refine State.complete_kept ?_; with_reducible assumption
  lift_lets -underBinder; intro v13; clear_value v13; with_reducible refine State.complete_kept ?_
  with_reducible assumption

theorem execFuncDisable_kept {kq : List Instr} {x : Ctx} {block : Nat} {inst : Nat} {s : State} (hkq : State.Kept kq
    s) : OutKept kq (execFuncDisable x block inst s) := by
  unfold execFuncDisable; refine State.kept_next ?_; with_reducible refine State.command_kept ?_ ?_
  with_reducible assumption; intro _ _; refine State.kept_ite ?_ ?_; with_reducible refine State.complete_kept ?_
  with_reducible assumption; refine State.kept_ite ?_ ?_
  with_reducible refine State.complete_kept (State.partitionDenied_kept ?_); with_reducible assumption
  with_reducible refine State.disableSteps_kept (State.complete_kept ?_); with_reducible assumption

theorem execFuncDisableDone_kept {kq : List Instr} {t : Nat} {block : Nat} {inst : Nat} {s : State} (hkq : State.Kept
    kq s) : OutKept kq (execFuncDisableDone t block inst s) := by
  unfold execFuncDisableDone; refine State.kept_next ?_; with_reducible refine onEvent_kept ?_ ?_; intro _ _; split
  with_reducible assumption; lift_lets -underBinder; intro v14; clear_value v14; intro v15
  refine State.kept_have (q := kq) v15 ?_ (fun hs => ?_); subst v15; refine State.kept_forEach (fun x s h => ?_) _ _ ?_
  with_reducible refine State.recClose_kept ?_; with_reducible assumption; with_reducible assumption; intro v17
  clear_value v17; intro v18; clear_value v18; intro v19; refine State.kept_have (q := kq) v19 ?_ (fun hs => ?_)
  clear_value v15; subst v19; with_reducible refine State.kept_upd ?_; with_reducible assumption; intro v21
  clear_value v21; intro v22; refine State.kept_have (q := kq) v22 ?_ (fun hs => ?_); clear_value v15 v19; subst v22
  refine State.kept_ite ?_ ?_; with_reducible refine State.kept_upd ?_; with_reducible assumption
  with_reducible assumption; intro v24; refine State.kept_have (q := kq) v24 ?_ (fun hs => ?_); clear_value v15 v19 v22
  subst v24; refine State.kept_ite ?_ ?_; with_reducible refine State.lswDisable_kept ?_; with_reducible assumption
  with_reducible assumption; intro v26; refine State.kept_have (q := kq) v26 ?_ (fun hs => ?_)
  clear_value v15 v19 v22 v24; subst v26; refine State.kept_ite ?_ ?_
  with_reducible refine State.setSess_kept (State.offer_kept ?_); with_reducible assumption; with_reducible assumption
  clear_value v15 v19 v22 v24 v26; refine State.kept_ite ?_ ?_; with_reducible assumption; refine State.kept_ite ?_ ?_
  with_reducible assumption; with_reducible refine State.finalise_kept (State.raise_kept ?_); with_reducible assumption
  with_reducible assumption

theorem execCaskOpenTimeout_kept {kq : List Instr} {t : Nat} {k : Nat} {s : State} (hkq : State.Kept kq s) : OutKept
    kq (execCaskOpenTimeout t k s) := by
  unfold execCaskOpenTimeout; refine State.kept_next ?_; with_reducible refine onEvent_kept ?_ ?_; intro _ _
  refine State.kept_ite ?_ ?_; with_reducible refine State.abortCask_kept ?_; with_reducible assumption
  with_reducible assumption; with_reducible assumption

theorem execCaskPreparedTimeout_kept {kq : List Instr} {t : Nat} {k : Nat} {s : State} (hkq : State.Kept kq s) :
    OutKept kq (execCaskPreparedTimeout t k s) := by
  unfold execCaskPreparedTimeout; refine State.kept_next ?_; with_reducible refine onEvent_kept ?_ ?_; intro _ _
  refine State.kept_ite ?_ ?_; with_reducible refine State.abortCask_kept ?_; with_reducible assumption
  with_reducible assumption; with_reducible assumption

theorem execCaskRecordWrite_kept {kq : List Instr} {t : Nat} {k : Nat} {whole : Bool} {s : State} (hkq : State.Kept kq
    s) : OutKept kq (execCaskRecordWrite t k whole s) := by
  unfold execCaskRecordWrite; refine State.kept_next ?_; with_reducible refine onEvent_kept ?_ ?_; intro _ _
  lift_lets -underBinder; intro v9; clear_value v9; refine State.kept_ite ?_ ?_
  with_reducible refine State.writeRecord_kept ?_; with_reducible assumption; with_reducible assumption
  with_reducible assumption

theorem execCaskSyncEdge_kept {kq : List Instr} {t : Nat} {edge : Nat} {falling : Bool} {s : State} (hkq : State.Kept
    kq s) : OutKept kq (execCaskSyncEdge t edge falling s) := by
  unfold execCaskSyncEdge; refine State.kept_next ?_; with_reducible refine onEvent_kept ?_ ?_; intro _ _
  refine State.kept_ite ?_ ?_; with_reducible assumption; refine State.kept_forEach (fun x s h => ?_) _ _ ?_
  lift_lets -underBinder; intro v12; clear_value v12; intro v13; refine State.kept_have (q := kq) v13 ?_ (fun hs => ?_)
  subst v13; with_reducible refine State.modSlot_kept ?_; with_reducible assumption; clear_value v13
  refine State.kept_ite ?_ ?_; refine State.kept_ite ?_ ?_; with_reducible refine State.writeRecord_kept ?_
  with_reducible assumption; with_reducible assumption; with_reducible assumption; with_reducible assumption
  with_reducible assumption

theorem execCaskSyncTimeout_kept {kq : List Instr} {t : Nat} {k : Nat} {s : State} (hkq : State.Kept kq s) : OutKept
    kq (execCaskSyncTimeout t k s) := by
  unfold execCaskSyncTimeout; refine State.kept_next ?_; with_reducible refine onEvent_kept ?_ ?_; intro _ _
  lift_lets -underBinder; intro v8; clear_value v8; refine State.kept_ite ?_ ?_
  with_reducible refine State.abortCask_kept ?_; with_reducible assumption; with_reducible assumption
  with_reducible assumption

theorem execCaskRetract_kept {kq : List Instr} {t : Nat} {k : Nat} {s : State} (hkq : State.Kept kq s) : OutKept kq
    (execCaskRetract t k s) := by
  unfold execCaskRetract; refine State.kept_next ?_; with_reducible refine onCore_kept ?_ ?_; intro _ _
  lift_lets -underBinder; intro v8; clear_value v8; refine State.kept_ite ?_ ?_
  with_reducible refine State.abortCask_kept ?_; with_reducible assumption; with_reducible assumption
  with_reducible assumption

theorem execCaskApply_kept {kq : List Instr} {t : Nat} {k : Nat} {applied : List (Nat × Nat)} {lowRefused : Bool} {s :
    State} (hkq : State.Kept kq s) : OutKept kq (execCaskApply t k applied lowRefused s) := by
  unfold execCaskApply; refine State.kept_next ?_; with_reducible refine onEvent_kept ?_ ?_; intro _ _
  lift_lets -underBinder; intro v10; clear_value v10; intro v11; refine State.kept_have (q := kq) v11 ?_ (fun hs => ?_)
  subst v11; with_reducible refine State.lateApplies_kept (State.applySlot_kept ?_); with_reducible assumption
  intro v13; clear_value v13; intro v14; refine State.kept_have (q := kq) v14 ?_ (fun hs => ?_); clear_value v11
  subst v14; with_reducible refine State.caskDone_kept ?_; with_reducible assumption; clear_value v11 v14
  refine State.kept_ite ?_ ?_; refine State.kept_ite ?_ ?_; with_reducible assumption
  with_reducible refine State.closeApplied_kept ?_; with_reducible assumption; with_reducible assumption
  with_reducible assumption

theorem State.commitState_kept {kq : List Instr} {s : State} {ok : Bool} (hkq : State.Kept kq s) : State.Kept kq
    (State.commitState s ok) := by
  unfold State.commitState; lift_lets -underBinder; intro v5; clear_value v5; intro v6; clear_value v6; intro v7
  clear_value v7; intro v8; refine State.kept_have (q := kq) v8 ?_ (fun hs => ?_); subst v8; refine State.kept_ite ?_ ?_
  with_reducible refine State.kept_upd ?_; with_reducible assumption; with_reducible refine State.kept_upd ?_
  with_reducible assumption; clear_value v8; refine State.kept_ite ?_ ?_; with_reducible assumption
  with_reducible refine State.incSat_kept ?_; with_reducible assumption

theorem State.demandBoundary_kept {kq : List Instr} {s : State} {sec : Nat} (hkq : State.Kept kq s) : State.Kept kq
    (State.demandBoundary s sec) := by
  unfold State.demandBoundary; lift_lets -underBinder; intro v5; clear_value v5; intro v6; clear_value v6
  refine State.kept_ite ?_ ?_; with_reducible assumption; refine State.kept_ite ?_ ?_
  with_reducible refine State.kept_upd ?_; with_reducible assumption; with_reducible refine State.addBoundary_kept ?_
  with_reducible assumption

theorem State.syncShift_kept {kq : List Instr} {s : State} {nominal : Nat} {shift : Int} {moved : Bool} (hkq :
    State.Kept kq s) : State.Kept kq (State.syncShift s nominal shift moved) := by
  unfold State.syncShift; with_reducible refine State.raise_kept (State.append_kept ?_); with_reducible assumption

theorem State.demandSync_kept {kq : List Instr} {s : State} {at_ : Nat} {falling : Bool} (hkq : State.Kept kq s) :
    State.Kept kq (State.demandSync s at_ falling) := by
  unfold State.demandSync; refine State.kept_ite ?_ ?_; with_reducible assumption; lift_lets -underBinder; intro v6
  clear_value v6; intro v7; clear_value v7; intro v8; clear_value v8; intro v9; clear_value v9; intro v10
  clear_value v10; intro v11; clear_value v11; intro v12; clear_value v12; intro v13
  refine State.kept_have (q := kq) v13 ?_ (fun hs => ?_); subst v13; with_reducible refine State.kept_upd ?_
  with_reducible assumption; clear_value v13; refine State.kept_ite ?_ ?_; with_reducible refine State.syncShift_kept ?_
  with_reducible assumption; with_reducible refine State.addBoundary_kept (State.syncShift_kept ?_)
  with_reducible assumption

theorem State.releaseHeld_kept {kq : List Instr} {s : State} (hkq : State.Kept kq s) : State.Kept kq
    (State.releaseHeld s) := by
  unfold State.releaseHeld; split; with_reducible refine State.addBoundary_kept (State.kept_upd ?_)
  with_reducible assumption; with_reducible assumption

theorem State.billEdge_kept {kq : List Instr} {s : State} (hkq : State.Kept kq s) : State.Kept kq (State.billEdge s)
    := by
  unfold State.billEdge; split; lift_lets -underBinder; intro v9; clear_value v9; intro v10
  refine State.kept_have (q := kq) v10 ?_ (fun hs => ?_); subst v10; with_reducible refine State.kept_upd ?_
  with_reducible assumption; clear_value v10; with_reducible refine State.addBoundary_kept ?_; with_reducible assumption
  with_reducible assumption

theorem State.calClose_kept {kq : List Instr} {s : State} {cause : Nat} (hkq : State.Kept kq s) : State.Kept kq
    (State.calClose s cause) := by
  unfold State.calClose; split; with_reducible assumption; lift_lets -underBinder; intro v10; clear_value v10; intro v11
  refine State.kept_have (q := kq) v11 ?_ (fun hs => ?_); subst v11; with_reducible refine State.kept_upd ?_
  with_reducible assumption; intro v13; refine State.kept_have (q := kq) v13 ?_ (fun hs => ?_); clear_value v11
  subst v13; with_reducible refine State.append_kept (State.wr_kept ?_); with_reducible assumption; clear_value v11 v13
  with_reducible refine State.legalRepaint_kept (State.raise_kept ?_); with_reducible assumption

theorem State.sealChange_kept {kq : List Instr} {s : State} {level : Bool} (hkq : State.Kept kq s) : State.Kept kq
    (State.sealChange s level) := by
  unfold State.sealChange; lift_lets -underBinder; intro v5; refine State.kept_have (q := kq) v5 ?_ (fun hs => ?_)
  subst v5; with_reducible refine State.setFlag_kept ?_; with_reducible assumption; intro v7; clear_value v7; intro v8
  refine State.kept_have (q := kq) v8 ?_ (fun hs => ?_); clear_value v5; subst v8
  with_reducible refine State.kept_upd ?_; with_reducible assumption; clear_value v5 v8; refine State.kept_ite ?_ ?_
  with_reducible assumption; with_reducible refine State.calClose_kept ?_; with_reducible assumption

theorem execLedgerCommit_kept {kq : List Instr} {t : Nat} {ok : Bool} {s : State} (hkq : State.Kept kq s) : OutKept kq
    (execLedgerCommit t ok s) := by
  unfold execLedgerCommit; refine State.kept_next ?_; with_reducible refine onCore_kept ?_ ?_; intro _ _
  lift_lets -underBinder; intro v8; clear_value v8; intro v9; refine State.kept_ite ?_ ?_; with_reducible assumption
  split; refine State.kept_ite ?_ ?_; subst v9; beta_reduce
  with_reducible refine State.commitState_kept (State.kept_upd ?_); with_reducible assumption
  refine State.kept_ite ?_ ?_; subst v9; beta_reduce
  with_reducible refine State.commitState_kept (State.kept_upd (State.transaction_kept ?_)); with_reducible assumption
  with_reducible assumption; subst v9; beta_reduce; with_reducible refine State.commitState_kept (State.kept_upd ?_)
  with_reducible assumption; with_reducible assumption

theorem execTariffSwitch_kept {kq : List Instr} {t : Nat} {s : State} (hkq : State.Kept kq s) : OutKept kq
    (execTariffSwitch t s) := by
  unfold execTariffSwitch; refine State.kept_next ?_; with_reducible refine onEvent_kept ?_ ?_; intro _ _
  lift_lets -underBinder; intro v7; clear_value v7; intro v8; clear_value v8; intro v9; clear_value v9; intro v10
  clear_value v10; intro v11; refine State.kept_have (q := kq) v11 ?_ (fun hs => ?_); subst v11
  refine State.kept_forEach (fun x s h => ?_) _ _ ?_; with_reducible refine State.tariffGo_kept ?_
  with_reducible assumption; with_reducible assumption; clear_value v11; refine State.kept_ite ?_ ?_
  with_reducible assumption; refine State.kept_ite ?_ ?_; with_reducible refine State.demandBoundary_kept ?_
  with_reducible assumption; refine State.kept_ite ?_ ?_; with_reducible assumption; refine State.kept_ite ?_ ?_
  with_reducible refine State.append_kept ?_; with_reducible assumption; with_reducible refine State.addBoundary_kept ?_
  with_reducible assumption; with_reducible assumption

theorem execCalendarActivate_kept {kq : List Instr} {t : Nat} {s : State} (hkq : State.Kept kq s) : OutKept kq
    (execCalendarActivate t s) := by
  unfold execCalendarActivate; refine State.kept_next ?_; with_reducible refine onEvent_kept ?_ ?_; intro _ _; split
  refine State.kept_ite ?_ ?_; with_reducible assumption; lift_lets -underBinder; intro v12; clear_value v12
  with_reducible refine State.addBoundary_kept ?_; with_reducible assumption; with_reducible assumption
  with_reducible assumption

theorem execDemandBoundary_kept {kq : List Instr} {t : Nat} {s : State} (hkq : State.Kept kq s) : OutKept kq
    (execDemandBoundary t s) := by
  unfold execDemandBoundary; refine State.kept_next ?_; with_reducible refine onEvent_kept ?_ ?_; intro _ _
  with_reducible refine State.demandBoundary_kept ?_; with_reducible assumption; with_reducible assumption

theorem execBoundaryTransaction_kept {kq : List Instr} {t : Nat} {s : State} (hkq : State.Kept kq s) : OutKept kq
    (execBoundaryTransaction t s) := by
  unfold execBoundaryTransaction; refine State.kept_next ?_; with_reducible refine onEvent_kept ?_ ?_; intro _ _; split
  refine State.kept_ite ?_ ?_; with_reducible refine State.transaction_kept ?_; with_reducible assumption
  with_reducible assumption; with_reducible assumption; with_reducible assumption

theorem execSyncWindowExpiry_kept {kq : List Instr} {t : Nat} {s : State} (hkq : State.Kept kq s) : OutKept kq
    (execSyncWindowExpiry t s) := by
  unfold execSyncWindowExpiry; refine State.kept_next ?_; with_reducible refine onEvent_kept ?_ ?_; intro _ _; split
  refine State.kept_ite ?_ ?_; with_reducible refine State.releaseHeld_kept ?_; with_reducible assumption
  with_reducible assumption; with_reducible assumption; with_reducible assumption

theorem execSealIdle_kept {kq : List Instr} {t : Nat} {s : State} (hkq : State.Kept kq s) : OutKept kq (execSealIdle t
    s) := by
  unfold execSealIdle; refine State.kept_next ?_; with_reducible refine onEvent_kept ?_ ?_; intro _ _
  refine State.kept_ite ?_ ?_; with_reducible refine State.tamper_kept (State.kept_upd ?_); with_reducible assumption
  with_reducible assumption; with_reducible assumption

theorem execLegalSealChange_kept {kq : List Instr} {t : Nat} {level : Bool} {s : State} (hkq : State.Kept kq s) :
    OutKept kq (execLegalSealChange t level s) := by
  unfold execLegalSealChange; refine State.kept_next ?_; with_reducible refine onEvent_kept ?_ ?_; intro _ _
  refine State.kept_ite ?_ ?_; with_reducible assumption; with_reducible refine State.sealChange_kept ?_
  with_reducible assumption; with_reducible assumption

theorem execCalExpiry_kept {kq : List Instr} {t : Nat} {s : State} (hkq : State.Kept kq s) : OutKept kq (execCalExpiry
    t s) := by
  unfold execCalExpiry; refine State.kept_next ?_; with_reducible refine onEvent_kept ?_ ?_; intro _ _; split
  refine State.kept_ite ?_ ?_; with_reducible refine State.calClose_kept ?_; with_reducible assumption
  with_reducible assumption; with_reducible assumption; with_reducible assumption

theorem execLedgerQuery_kept {kq : List Instr} {x : Ctx} {m : Nat} {s : State} (hkq : State.Kept kq s) : OutKept kq
    (execLedgerQuery x m s) := by
  unfold execLedgerQuery; refine State.kept_next ?_; with_reducible refine State.command_kept ?_ ?_
  with_reducible assumption; intro _ _; refine State.kept_ite ?_ ?_; with_reducible refine State.complete_kept ?_
  with_reducible assumption; lift_lets -underBinder; intro v8; clear_value v8
  with_reducible refine State.complete_kept ?_; with_reducible assumption

theorem execLedgerSessionRecord_kept {kq : List Instr} {x : Ctx} {n : Nat} {m : Nat} {op : Nat} {kind : Nat} {ident :
    List Byte} {price : Nat} {reason : Nat} {s : State} (hkq : State.Kept kq s) : OutKept kq (execLedgerSessionRecord
    x n m op kind ident price reason s) := by
  unfold execLedgerSessionRecord; lift_lets -underBinder; intro v12; clear_value v12; intro v13; clear_value v13
  refine State.kept_next ?_; with_reducible refine State.command_kept ?_ ?_; with_reducible assumption; intro _ _
  refine State.kept_ite ?_ ?_; with_reducible refine State.complete_kept ?_; with_reducible assumption
  refine State.kept_ite ?_ ?_; split; with_reducible refine State.complete_kept ?_; with_reducible assumption
  with_reducible refine State.complete_kept (State.recOpen_kept ?_); with_reducible assumption; split
  with_reducible refine State.complete_kept ?_; with_reducible assumption
  with_reducible refine State.complete_kept (State.recClose_kept ?_); with_reducible assumption

theorem execLedgerTariffSelect_kept {kq : List Instr} {x : Ctx} {mask : Nat} {tariff : Nat} {price : Nat} {s : State}
    (hkq : State.Kept kq s) : OutKept kq (execLedgerTariffSelect x mask tariff price s) := by
  unfold execLedgerTariffSelect; refine State.kept_next ?_; with_reducible refine State.command_kept ?_ ?_
  with_reducible assumption; intro _ _; split; with_reducible refine State.complete_kept ?_; with_reducible assumption
  with_reducible refine State.complete_kept (State.tariffSelect_kept ?_); with_reducible assumption

theorem execLedgerReadSigned_kept {kq : List Instr} {x : Ctx} {mask : Nat} {s : State} (hkq : State.Kept kq s) :
    OutKept kq (execLedgerReadSigned x mask s) := by
  unfold execLedgerReadSigned; refine State.kept_next ?_; with_reducible refine State.command_kept ?_ ?_
  with_reducible assumption; intro _ _; split; with_reducible refine State.complete_kept ?_; with_reducible assumption
  with_reducible refine State.readStart_kept ?_; with_reducible assumption

theorem execLedgerRecordFetch_kept {kq : List Instr} {x : Ctx} {first : Nat} {maxBytes : Nat} {ackTo : Nat} {s :
    State} (hkq : State.Kept kq s) : OutKept kq (execLedgerRecordFetch x first maxBytes ackTo s) := by
  unfold execLedgerRecordFetch; refine State.kept_next ?_; with_reducible refine State.command_kept ?_ ?_
  with_reducible assumption; intro _ _; lift_lets -underBinder; intro v10; clear_value v10; intro v11
  refine State.kept_have (q := kq) v11 ?_ (fun hs => ?_); subst v11; with_reducible refine State.kept_upd ?_
  with_reducible assumption; intro v13; clear_value v13; intro v14; clear_value v14 v11; refine State.kept_ite ?_ ?_
  with_reducible refine State.complete_kept ?_; with_reducible assumption
  with_reducible refine State.complete_kept (State.giveBuffer_kept ?_); with_reducible assumption

theorem execLedgerTimeSet_kept {kq : List Instr} {x : Ctx} {ms : Nat} {sig : Option OwnerSig} {s : State} (hkq :
    State.Kept kq s) : OutKept kq (execLedgerTimeSet x ms sig s) := by
  unfold execLedgerTimeSet; refine State.kept_next ?_; with_reducible refine State.command_kept ?_ ?_
  with_reducible assumption; intro _ _; refine State.kept_ite ?_ ?_; with_reducible refine State.complete_kept ?_
  with_reducible assumption; split; with_reducible refine State.complete_kept ?_; with_reducible assumption
  with_reducible refine State.complete_kept (State.timeSet_kept (State.ownerTook_kept ?_)); with_reducible assumption
  split; with_reducible refine State.complete_kept ?_; refine State.kept_snd (by with_reducible assumption) ?_
  with_reducible refine State.timeSet_kept ?_; with_reducible assumption

theorem execLedgerCalendarLoad_kept {kq : List Instr} {x : Ctx} {image : List Byte} {sigOk : Bool} {s : State} (hkq :
    State.Kept kq s) : OutKept kq (execLedgerCalendarLoad x image sigOk s) := by
  unfold execLedgerCalendarLoad; refine State.kept_next ?_; with_reducible refine State.command_kept ?_ ?_
  with_reducible assumption; intro _ _; refine State.kept_ite ?_ ?_; with_reducible refine State.complete_kept ?_
  with_reducible assumption; split; with_reducible refine State.complete_kept (State.kept_upd ?_)
  with_reducible assumption; with_reducible refine State.complete_kept ?_; with_reducible assumption

theorem execLedgerBillingClose_kept {kq : List Instr} {x : Ctx} {s : State} (hkq : State.Kept kq s) : OutKept kq
    (execLedgerBillingClose x s) := by
  unfold execLedgerBillingClose; refine State.kept_next ?_; with_reducible refine State.command_kept ?_ ?_
  with_reducible assumption; intro _ _; lift_lets -underBinder; intro v7; clear_value v7; intro v8; clear_value v8
  intro v9; clear_value v9; refine State.kept_ite ?_ ?_; with_reducible refine State.complete_kept ?_
  with_reducible assumption; refine State.kept_ite ?_ ?_; with_reducible refine State.complete_kept ?_
  with_reducible assumption; refine State.kept_ite ?_ ?_; with_reducible refine State.complete_kept ?_
  with_reducible assumption; with_reducible refine State.kept_upd ?_; with_reducible assumption

theorem execLedgerBillingRead_kept {kq : List Instr} {x : Ctx} {k : Nat} {s : State} (hkq : State.Kept kq s) : OutKept
    kq (execLedgerBillingRead x k s) := by
  unfold execLedgerBillingRead; refine State.kept_next ?_; with_reducible refine State.command_kept ?_ ?_
  with_reducible assumption; intro _ _; split; with_reducible refine State.complete_kept ?_; with_reducible assumption
  with_reducible refine State.complete_kept (State.giveBuffer_kept ?_); with_reducible assumption

theorem execLedgerCalChallenge_kept {kq : List Instr} {x : Ctx} {s : State} (hkq : State.Kept kq s) : OutKept kq
    (execLedgerCalChallenge x s) := by
  unfold execLedgerCalChallenge; refine State.kept_next ?_; with_reducible refine State.command_kept ?_ ?_
  with_reducible assumption; intro _ _; refine State.kept_ite ?_ ?_; with_reducible refine State.complete_kept ?_
  with_reducible assumption; split
  with_reducible refine State.complete_kept (State.giveBuffer_kept (State.kept_upd ?_))
  refine State.kept_snd (by with_reducible assumption) ?_; with_reducible refine State.drbgNext_kept ?_
  with_reducible assumption

theorem execLedgerCalOpen_kept {kq : List Instr} {x : Ctx} {mask : Nat} {mins : Nat} {challenge : Nat} {sigOk : Bool}
    {s : State} (hkq : State.Kept kq s) : OutKept kq (execLedgerCalOpen x mask mins challenge sigOk s) := by
  unfold execLedgerCalOpen; refine State.kept_next ?_; with_reducible refine State.command_kept ?_ ?_
  with_reducible assumption; intro _ _; lift_lets -underBinder; intro v11; clear_value v11; intro v12; clear_value v12
  intro v13; clear_value v13; intro v14; refine State.kept_have (q := kq) v14 ?_ (fun hs => ?_); subst v14
  with_reducible refine State.kept_upd ?_; with_reducible assumption; intro v16
  refine State.kept_have (q := kq) v16 ?_ (fun hs => ?_); clear_value v14; subst v16
  with_reducible refine State.tamper_kept (State.wr_kept ?_); with_reducible assumption; clear_value v14 v16
  refine State.kept_ite ?_ ?_; with_reducible refine State.complete_kept ?_; with_reducible assumption
  refine State.kept_ite ?_ ?_; with_reducible refine State.complete_kept (State.tamper_kept ?_)
  with_reducible assumption; refine State.kept_ite ?_ ?_
  with_reducible refine State.complete_kept (State.tamper_kept ?_); with_reducible assumption
  refine State.kept_ite ?_ ?_; with_reducible refine State.complete_kept ?_; with_reducible assumption
  refine State.kept_ite ?_ ?_; with_reducible refine State.complete_kept ?_; with_reducible assumption
  with_reducible refine State.legalRepaint_kept (State.complete_kept (State.raise_kept ?_)); with_reducible assumption

theorem execLedgerCalClose_kept {kq : List Instr} {x : Ctx} {s : State} (hkq : State.Kept kq s) : OutKept kq
    (execLedgerCalClose x s) := by
  unfold execLedgerCalClose; refine State.kept_next ?_; with_reducible refine State.command_kept ?_ ?_
  with_reducible assumption; intro _ _; refine State.kept_ite ?_ ?_; with_reducible refine State.complete_kept ?_
  with_reducible assumption; with_reducible refine State.complete_kept (State.calClose_kept ?_)
  with_reducible assumption

theorem execLedgerLegalId_kept {kq : List Instr} {x : Ctx} {s : State} (hkq : State.Kept kq s) : OutKept kq
    (execLedgerLegalId x s) := by
  unfold execLedgerLegalId; refine State.kept_next ?_; with_reducible refine State.command_kept ?_ ?_
  with_reducible assumption; intro _ _; with_reducible refine State.complete_kept (State.giveBuffer_kept ?_)
  with_reducible assumption

theorem execLedgerAckLoss_kept {kq : List Instr} {x : Ctx} {s : State} (hkq : State.Kept kq s) : OutKept kq
    (execLedgerAckLoss x s) := by
  unfold execLedgerAckLoss; refine State.kept_next ?_; with_reducible refine State.command_kept ?_ ?_
  with_reducible assumption; intro _ _; with_reducible refine State.complete_kept (State.wr_kept ?_)
  with_reducible assumption

theorem State.putEst_kept {kq : List Instr} {s : State} {m : Nat} {mw : Int} {ns : Option Nat} (hkq : State.Kept kq s)
    : State.Kept kq (State.putEst s m mw ns) := by
  unfold State.putEst; lift_lets -underBinder; intro v7; clear_value v7; intro v8
  refine State.kept_have (q := kq) v8 ?_ (fun hs => ?_); subst v8; with_reducible refine State.wr_kept ?_
  with_reducible assumption; clear_value v8; with_reducible refine State.wr_kept (State.wr_kept (State.wr_kept ?_))
  with_reducible assumption

theorem State.pourCask_kept {kq : List Instr} {s : State} {k : Nat} (hkq : State.Kept kq s) : State.Kept kq
    (State.pourCask s k) := by
  unfold State.pourCask; lift_lets -underBinder; intro v5; clear_value v5; intro v6
  refine State.kept_have (q := kq) v6 ?_ (fun hs => ?_); subst v6
  with_reducible refine State.modSlot_kept (State.applyEarly_kept ?_); with_reducible assumption; clear_value v6
  refine State.kept_ite ?_ ?_; with_reducible assumption; with_reducible refine State.markRecord_kept ?_
  with_reducible assumption

theorem State.writeMark_kept {kq : List Instr} {s : State} {l : Nat} (hkq : State.Kept kq s) : State.Kept kq
    (State.writeMark s l) := by
  unfold State.writeMark; lift_lets -underBinder; intro v5; clear_value v5; intro v6; clear_value v6; intro v7
  refine State.kept_have (q := kq) v7 ?_ (fun hs => ?_); subst v7; with_reducible refine State.kept_upd ?_
  with_reducible assumption; clear_value v7; with_reducible refine State.wr_kept (State.wr_kept ?_)
  with_reducible assumption

theorem State.pourSteps_kept {kq : List Instr} {s : State} {feed : List Feed} (hkq : State.Kept kq s) : State.Kept kq
    (State.pourSteps s feed) := by
  unfold State.pourSteps; lift_lets -underBinder; intro v5; clear_value v5; intro v6
  refine State.kept_have (q := kq) v6 ?_ (fun hs => ?_); subst v6
  with_reducible refine State.releaseHeld_kept (State.meterStop_kept ?_); with_reducible assumption; intro v8
  refine State.kept_have (q := kq) v8 ?_ (fun hs => ?_); clear_value v6; subst v8; split; refine State.kept_ite ?_ ?_
  with_reducible refine State.transaction_kept ?_; with_reducible assumption; with_reducible assumption
  with_reducible assumption; intro v10; refine State.kept_have (q := kq) v10 ?_ (fun hs => ?_); clear_value v6 v8
  subst v10; refine State.kept_forEach (fun x s h => ?_) _ _ ?_; with_reducible refine State.pourCask_kept ?_
  with_reducible assumption; with_reducible assumption; intro v12
  refine State.kept_have (q := kq) v12 ?_ (fun hs => ?_); clear_value v6 v8 v10; subst v12
  refine State.kept_forEach (fun x s h => ?_) _ _ ?_; with_reducible refine State.flushPends_kept ?_
  with_reducible assumption; with_reducible assumption; clear_value v6 v8 v10 v12
  with_reducible refine State.writeMark_kept (State.commitState_kept ?_); with_reducible assumption

theorem State.lastPour_kept {kq : List Instr} {s : State} {feed : List Feed} (hkq : State.Kept kq s) : State.Kept kq
    (State.lastPour s feed) := by
  unfold State.lastPour; lift_lets -underBinder; intro v5; clear_value v5; intro v6
  refine State.kept_have (q := kq) v6 ?_ (fun hs => ?_); subst v6
  with_reducible refine State.lswShed_kept (State.dispCut_kept ?_); with_reducible assumption; intro v8; clear_value v8
  intro v9; refine State.kept_have (q := kq) v9 ?_ (fun hs => ?_); clear_value v6; subst v9
  with_reducible refine State.kept_upd ?_; with_reducible assumption; intro v11
  refine State.kept_have (q := kq) v11 ?_ (fun hs => ?_); clear_value v6 v9; subst v11
  with_reducible refine State.pourSteps_kept ?_; with_reducible assumption; clear_value v6 v9 v11; split
  lift_lets -underBinder; intro v19; clear_value v19; intro v20; clear_value v20; intro v21
  refine State.kept_have (q := kq) v21 ?_ (fun hs => ?_); subst v21; with_reducible refine State.kept_upd ?_
  refine State.kept_snd (by with_reducible assumption) ?_; with_reducible refine State.takeFree_kept ?_
  with_reducible assumption; clear_value v21; with_reducible refine State.wr_kept (State.wr_kept ?_)
  with_reducible assumption

theorem State.pourReturn_kept {kq : List Instr} {s : State} (hkq : State.Kept kq s) : State.Kept kq (State.pourReturn
    s) := by
  unfold State.pourReturn; lift_lets -underBinder; intro v4; clear_value v4; intro v5
  refine State.kept_have (q := kq) v5 ?_ (fun hs => ?_); subst v5; with_reducible refine State.advance_kept ?_
  with_reducible assumption; intro v7; refine State.kept_have (q := kq) v7 ?_ (fun hs => ?_); clear_value v5; subst v7
  with_reducible refine State.kept_upd ?_; with_reducible assumption; intro v9
  refine State.kept_have (q := kq) v9 ?_ (fun hs => ?_); clear_value v5 v7; subst v9
  refine State.kept_forEach (fun x s h => ?_) _ _ ?_; with_reducible refine State.modMp_kept (State.putEst_kept ?_)
  with_reducible assumption; with_reducible assumption; intro v11
  refine State.kept_have (q := kq) v11 ?_ (fun hs => ?_); clear_value v5 v7 v9; subst v11
  with_reducible refine State.wr_kept ?_; with_reducible assumption; intro v13
  refine State.kept_have (q := kq) v13 ?_ (fun hs => ?_); clear_value v5 v7 v9 v11; subst v13
  with_reducible refine State.raise_kept ?_; with_reducible assumption; intro v15; clear_value v15; intro v16
  refine State.kept_have (q := kq) v16 ?_ (fun hs => ?_); clear_value v5 v7 v9 v11 v13; subst v16
  with_reducible refine State.tamper_kept (State.kept_upd ?_); with_reducible assumption; intro v18
  refine State.kept_have (q := kq) v18 ?_ (fun hs => ?_); clear_value v5 v7 v9 v11 v13 v16; subst v18
  refine State.kept_forEach (fun x s h => ?_) _ _ ?_; refine State.kept_ite ?_ ?_
  with_reducible refine State.abortCask_kept ?_; with_reducible assumption; with_reducible assumption
  with_reducible assumption; clear_value v5 v7 v9 v11 v13 v16 v18; with_reducible refine State.dispWake_kept ?_
  with_reducible assumption

theorem State.outputsOff_kept {kq : List Instr} {s : State} (hkq : State.Kept kq s) : State.Kept kq (State.outputsOff
    s) := by
  unfold State.outputsOff; lift_lets -underBinder; intro v4; refine State.kept_have (q := kq) v4 ?_ (fun hs => ?_)
  subst v4; refine State.kept_forEach (fun x s h => ?_) _ _ ?_; with_reducible refine State.modOutlet_kept ?_
  with_reducible assumption; with_reducible assumption; intro v6; refine State.kept_have (q := kq) v6 ?_ (fun hs => ?_)
  clear_value v4; subst v6; refine State.kept_forEach (fun x s h => ?_) _ _ ?_
  with_reducible refine State.turnOff_kept ?_; with_reducible assumption; with_reducible assumption; intro v8
  clear_value v8 v4 v6; with_reducible refine State.wr_kept (State.kept_upd ?_); with_reducible assumption

theorem State.powerOff_kept {kq : List Instr} {s : State} (hkq : State.Kept kq s) : State.Kept kq (State.powerOff s)
    := by
  unfold State.powerOff; with_reducible refine State.outputsOff_kept (State.setFlag_kept (State.kept_upd ?_))
  with_reducible assumption

theorem State.railFall_kept {kq : List Instr} {s : State} (hkq : State.Kept kq s) : State.Kept kq (State.railFall s)
    := by
  unfold State.railFall; lift_lets -underBinder; intro v4; clear_value v4; intro v5; clear_value v5; intro v6
  clear_value v6; intro v7; refine State.kept_have (q := kq) v7 ?_ (fun hs => ?_); subst v7; refine State.kept_ite ?_ ?_
  with_reducible assumption; with_reducible refine State.wr_kept (State.kept_upd ?_); with_reducible assumption
  intro v9; clear_value v9; intro v10; refine State.kept_have (q := kq) v10 ?_ (fun hs => ?_); clear_value v7; subst v10
  with_reducible refine State.kept_upd ?_; with_reducible assumption; intro v12
  refine State.kept_have (q := kq) v12 ?_ (fun hs => ?_); clear_value v7 v10; subst v12
  with_reducible refine State.wr_kept ?_; with_reducible assumption; intro v14
  refine State.kept_have (q := kq) v14 ?_ (fun hs => ?_); clear_value v7 v10 v12; subst v14
  refine State.kept_forEach (fun x s h => ?_) _ _ ?_; with_reducible refine State.wr_kept ?_; with_reducible assumption
  with_reducible assumption; intro v16; refine State.kept_have (q := kq) v16 ?_ (fun hs => ?_)
  clear_value v7 v10 v12 v14; subst v16; with_reducible refine State.powerOff_kept ?_; with_reducible assumption
  clear_value v7 v10 v12 v14 v16; with_reducible refine State.kept_upd ?_; with_reducible assumption

theorem State.softRestart_kept {kq : List Instr} {s : State} {cause : Nat} (hkq : State.Kept kq s) : State.Kept kq
    (State.softRestart s cause) := by
  unfold State.softRestart; lift_lets -underBinder; intro v5; refine State.kept_have (q := kq) v5 ?_ (fun hs => ?_)
  subst v5; with_reducible refine State.powerOff_kept (State.dispCut_kept ?_); with_reducible assumption; intro v7
  clear_value v7 v5; with_reducible refine State.kept_upd ?_; with_reducible assumption

theorem State.pourZero_kept {kq : List Instr} {s : State} (hkq : State.Kept kq s) : State.Kept kq (State.pourZero s)
    := by
  unfold State.pourZero; lift_lets -underBinder; intro v4; refine State.kept_have (q := kq) v4 ?_ (fun hs => ?_)
  subst v4; with_reducible refine State.pourSteps_kept ?_; with_reducible assumption; intro v6; clear_value v6; intro v7
  refine State.kept_have (q := kq) v7 ?_ (fun hs => ?_); clear_value v4; subst v7
  with_reducible refine State.kept_upd ?_; with_reducible assumption; intro v9; clear_value v9; intro v10
  refine State.kept_have (q := kq) v10 ?_ (fun hs => ?_); clear_value v4 v7; subst v10
  with_reducible refine State.kept_upd ?_; with_reducible assumption; clear_value v4 v7 v10
  with_reducible refine State.wr_kept (State.wr_kept ?_); with_reducible assumption

theorem filter_cells_sorted {t : Tab Nat} (p : Nat × Nat → Bool) (h : t.sorted = true) :
    (⟨t.cells.filter p⟩ : Tab Nat).sorted = true := by
  rw [Tab.sorted_iff] at h ⊢
  exact filter_sorted p h

/-- Laying one table over another keeps the keys rising. -/
theorem overlay_sorted (t u : Tab Nat) (h : t.sorted = true) : (overlay t u).sorted = true := by
  have key : ∀ (l a : List (Nat × Nat)), (a.map (·.1)).Pairwise (· < ·) →
      ((l.foldl (fun a c => insertCell c.1 c.2 (a.filter fun d => d.1 != c.1)) a).map (·.1)).Pairwise (· < ·) := by
    intro l
    induction l with
    | nil => intro a h; exact h
    | cons c r ih => intro a h; exact ih _ (insertCell_sorted (filter_sorted _ h) (by simp))
  rw [Tab.sorted_iff] at h ⊢
  exact key _ _ h

theorem State.noteReady_kept {kq : List Instr} {s : State} (hkq : State.Kept kq s) : State.Kept kq (State.noteReady s)
    := by
  unfold State.noteReady; with_reducible refine State.setFlag_kept ?_; with_reducible assumption

theorem State.setRole_kept {kq : List Instr} {s : State} {new : Nat} {cause : Option Nat} (hkq : State.Kept kq s) :
    State.Kept kq (State.setRole s new cause) := by
  unfold State.setRole; lift_lets -underBinder; intro v6; clear_value v6; split; lift_lets -underBinder; intro v13
  refine State.kept_have (q := kq) v13 ?_ (fun hs => ?_); subst v13
  with_reducible refine State.wr_kept (State.wr_kept ?_); refine State.kept_snd (by with_reducible assumption) ?_; split
  dsimp only; with_reducible assumption; lift_lets -underBinder; intro v15
  refine State.kept_have (q := kq) v15.2 ?_ (fun hs => ?_); subst v15; with_reducible refine State.takeFree_kept ?_
  with_reducible assumption; clear_value v15; dsimp only; with_reducible assumption; intro v15; clear_value v15
  intro v16; refine State.kept_have (q := kq) v16 ?_ (fun hs => ?_); clear_value v13; subst v16
  with_reducible refine State.kept_upd ?_; with_reducible assumption; intro v18
  refine State.kept_have (q := kq) v18 ?_ (fun hs => ?_); clear_value v13 v16; subst v18
  with_reducible refine State.append_kept ?_; with_reducible assumption; clear_value v13 v16 v18
  with_reducible refine State.raise_kept (State.noteReady_kept ?_); with_reducible assumption

theorem State.peerEvent_kept {kq : List Instr} {s : State} (hkq : State.Kept kq s) : State.Kept kq (State.peerEvent s)
    := by
  unfold State.peerEvent; with_reducible refine State.raise_kept ?_; with_reducible assumption

theorem State.twinStart_kept {kq : List Instr} {s : State} (hkq : State.Kept kq s) : State.Kept kq (State.twinStart s)
    := by
  unfold State.twinStart; refine State.kept_ite ?_ ?_
  with_reducible refine State.setRole_kept (State.outputsOff_kept ?_); with_reducible assumption
  refine State.kept_ite ?_ ?_; with_reducible refine State.setRole_kept ?_; with_reducible assumption
  with_reducible assumption

theorem State.giveUp_kept {kq : List Instr} {s : State} {cause : Nat} (hkq : State.Kept kq s) : State.Kept kq
    (State.giveUp s cause) := by
  unfold State.giveUp; lift_lets -underBinder; intro v5; refine State.kept_have (q := kq) v5 ?_ (fun hs => ?_); subst v5
  refine State.kept_ite ?_ ?_; with_reducible assumption; refine State.kept_forEach (fun x s h => ?_) _ _ ?_
  refine State.kept_ite ?_ ?_; with_reducible refine State.abortCask_kept ?_; with_reducible assumption
  with_reducible assumption; with_reducible assumption; intro v7; clear_value v7; intro v8
  refine State.kept_have (q := kq) v8 ?_ (fun hs => ?_); clear_value v5; subst v8
  with_reducible refine State.kept_upd ?_; with_reducible assumption; clear_value v5 v8
  with_reducible refine State.setRole_kept ?_; with_reducible assumption

theorem State.twinRelease_kept {kq : List Instr} {s : State} (hkq : State.Kept kq s) : State.Kept kq
    (State.twinRelease s) := by
  unfold State.twinRelease; lift_lets -underBinder; intro v4; refine State.kept_have (q := kq) v4 ?_ (fun hs => ?_)
  subst v4; with_reducible refine State.outputsOff_kept ?_; with_reducible assumption; intro v6
  refine State.kept_have (q := kq) v6 ?_ (fun hs => ?_); clear_value v4; subst v6
  refine State.kept_forEach (fun x s h => ?_) _ _ ?_; with_reducible refine State.modLsess_kept (State.wr_kept ?_)
  with_reducible assumption; with_reducible assumption; intro v8; refine State.kept_have (q := kq) v8 ?_ (fun hs => ?_)
  clear_value v4 v6; subst v8; refine State.kept_forEach (fun x s h => ?_) _ _ ?_
  with_reducible refine State.modOutlet_kept ?_; with_reducible assumption; with_reducible assumption; intro v10
  clear_value v10 v4 v6 v8; with_reducible refine State.kept_upd ?_; with_reducible assumption

theorem State.loadCopy_kept {kq : List Instr} {s : State} {c : TwinCopy} (h : State.Kept kq s) : State.Kept kq (s.loadCopy c) :=
  ⟨h.1, h.2.1, overlay_sorted _ _ (filter_cells_sorted _ h.2.2)⟩

theorem State.takeOverCycle_kept {kq : List Instr} {s : State} (hkq : State.Kept kq s) : State.Kept kq
    (State.takeOverCycle s) := by
  unfold State.takeOverCycle; refine State.kept_ite ?_ ?_; with_reducible assumption
  refine State.kept_forEach (fun x s h => ?_) _ _ ?_; lift_lets -underBinder; intro v7; clear_value v7; intro v8
  clear_value v8; intro v9; intro v10; refine State.kept_have (q := kq) v10 ?_ (fun hs => ?_); subst v10; subst v9
  beta_reduce; with_reducible refine State.kept_upd ?_; with_reducible assumption; clear_value v10
  refine State.kept_ite ?_ ?_; refine State.kept_ite ?_ ?_; with_reducible refine State.endSession_kept ?_
  with_reducible assumption; with_reducible assumption; refine State.kept_ite ?_ ?_
  with_reducible refine State.holdFrom_kept (State.modCoil_kept ?_); with_reducible assumption
  with_reducible refine State.faultSession_kept (State.openOutlet_kept ?_); subst v9; beta_reduce
  with_reducible refine State.kept_upd ?_; with_reducible assumption; with_reducible assumption

theorem State.carrySession_kept {kq : List Instr} {s : State} {c : Carried} (hkq : State.Kept kq s) : State.Kept kq
    (State.carrySession s c) := by
  unfold State.carrySession; lift_lets -underBinder; intro v5; clear_value v5; intro v6; clear_value v6; intro v7
  refine State.kept_have (q := kq) v7 ?_ (fun hs => ?_); subst v7
  with_reducible refine State.wr_kept (State.wr_kept (State.wr_kept ?_)); with_reducible assumption; intro v9
  refine State.kept_have (q := kq) v9 ?_ (fun hs => ?_); clear_value v7; subst v9
  with_reducible refine State.wr_kept ?_; with_reducible assumption; intro v11
  refine State.kept_have (q := kq) v11 ?_ (fun hs => ?_); clear_value v7 v9; subst v11
  with_reducible refine State.wr_kept (State.wr_kept ?_); with_reducible assumption; intro v13; clear_value v13
  intro v14; clear_value v14 v7 v9 v11; refine State.kept_ite ?_ ?_; with_reducible assumption
  with_reducible refine State.modLsess_kept ?_; with_reducible assumption

theorem State.takeOverDone_kept {kq : List Instr} {s : State} (hkq : State.Kept kq s) : State.Kept kq
    (State.takeOverDone s) := by
  unfold State.takeOverDone; lift_lets -underBinder; intro v4; refine State.kept_have (q := kq) v4 ?_ (fun hs => ?_)
  subst v4; refine State.kept_forEach (fun x s h => ?_) _ _ ?_; with_reducible refine State.carrySession_kept ?_
  with_reducible assumption; with_reducible assumption; intro v6; refine State.kept_have (q := kq) v6 ?_ (fun hs => ?_)
  clear_value v4; subst v6; with_reducible refine State.setRole_kept (State.incSat_kept ?_); with_reducible assumption
  clear_value v4 v6; refine State.kept_forEach (fun x s h => ?_) _ _ ?_; split
  with_reducible refine State.stopSession_kept ?_; with_reducible assumption
  with_reducible refine State.stopSession_kept ?_; with_reducible assumption
  with_reducible refine State.stopSession_kept ?_; with_reducible assumption; with_reducible assumption
  with_reducible refine State.endSession_kept ?_; with_reducible assumption; with_reducible assumption

theorem State.shadowNote_kept {kq : List Instr} {s : State} {c : TwinCopy} (hkq : State.Kept kq s) : State.Kept kq
    (State.shadowNote s c) := by
  unfold State.shadowNote; lift_lets -underBinder; intro v5; clear_value v5; intro v6; clear_value v6; intro v7
  clear_value v7; with_reducible refine State.kept_upd ?_; with_reducible assumption

end Sys2Proof.Machine
end

