-- ==== Sys2Proof/Laws/KeepKey.lean ====
section
/-! SUPPORT. What the key, update and architecture commands keep. -/

namespace Sys2Proof.Machine

theorem State.recoveryOutlets_kept {kq : List Instr} {s : State} (hkq : State.Kept kq s) : State.Kept kq
    (State.recoveryOutlets s) := by
  unfold State.recoveryOutlets; refine State.kept_ite ?_ ?_; with_reducible assumption
  refine State.kept_forEach (fun x s h => ?_) _ _ ?_; refine State.kept_ite ?_ ?_
  with_reducible refine State.setSess_kept (State.driveF_kept ?_); with_reducible assumption; with_reducible assumption
  with_reducible assumption

theorem State.withTree_kept {kq : List Instr} {s : State} {x : Ctx} {f : State → State} (hkq : State.Kept kq s) (hf :
    ∀ s, State.Kept kq s → State.Kept kq (f s)) : State.Kept kq (State.withTree s x f) := by
  unfold State.withTree; refine State.kept_ite ?_ ?_; with_reducible refine State.complete_kept ?_
  with_reducible assumption; refine State.kept_ite ?_ ?_; with_reducible refine State.complete_kept ?_
  with_reducible assumption; refine hf _ ?_; with_reducible assumption

theorem State.onNode_kept {kq : List Instr} {s : State} {x : Ctx} {p : List (List Byte)} {f : KNode → State → State}
    (hkq : State.Kept kq s) (hf : ∀ x0 s, State.Kept kq s → State.Kept kq (f x0 s)) : State.Kept kq (State.onNode s x
    p f) := by
  unfold State.onNode; with_reducible refine State.withTree_kept ?_ ?_; with_reducible assumption; intro _ _; split
  with_reducible refine State.complete_kept ?_; with_reducible assumption; with_reducible refine State.complete_kept ?_
  with_reducible assumption; refine hf _ _ ?_; with_reducible assumption

theorem State.owned_kept {kq : List Instr} {s : State} {x : Ctx} {g : OwnerSig} {bad : Option Nat} {f : State → State}
    (hkq : State.Kept kq s) (hf : ∀ s, State.Kept kq s → State.Kept kq (f s)) : State.Kept kq (State.owned s x g bad
    f) := by
  unfold State.owned; split; with_reducible refine State.complete_kept ?_; with_reducible assumption
  with_reducible refine State.complete_kept ?_; with_reducible assumption; refine hf _ ?_
  with_reducible refine State.ownerTook_kept ?_; with_reducible assumption

theorem State.withCreds_kept {kq : List Instr} {s : State} {x : Ctx} {f : State → State} (hkq : State.Kept kq s) (hf :
    ∀ s, State.Kept kq s → State.Kept kq (f s)) : State.Kept kq (State.withCreds s x f) := by
  unfold State.withCreds; with_reducible refine State.withTree_kept ?_ ?_; with_reducible assumption; intro _ _
  refine hf _ ?_; with_reducible assumption

theorem State.endLoad_kept {kq : List Instr} {s : State} (hkq : State.Kept kq s) : State.Kept kq (State.endLoad s) :=
    by
  unfold State.endLoad; with_reducible refine State.wr_kept (State.wr_kept (State.kept_upd ?_))
  with_reducible assumption

theorem State.credFlip_kept {kq : List Instr} {s : State} {m : Manifest} (hkq : State.Kept kq s) : State.Kept kq
    (State.credFlip s m) := by
  unfold State.credFlip; lift_lets -underBinder; intro v5; clear_value v5; intro v6; clear_value v6; intro v7
  refine State.kept_have (q := kq) v7 ?_ (fun hs => ?_); subst v7; with_reducible refine State.kept_upd ?_
  with_reducible assumption; intro v9; refine State.kept_have (q := kq) v9 ?_ (fun hs => ?_); clear_value v7; subst v9
  with_reducible refine State.wr_kept (State.wr_kept ?_); with_reducible assumption; intro v11
  refine State.kept_have (q := kq) v11 ?_ (fun hs => ?_); clear_value v7 v9; subst v11
  with_reducible refine State.wr_kept (State.wr_kept ?_); with_reducible assumption; clear_value v7 v9 v11
  with_reducible refine State.raise_kept (State.endLoad_kept ?_); with_reducible assumption

theorem execRiddle_kept {kq : List Instr} {t : Nat} {s : State} (hkq : State.Kept kq s) : OutKept kq (execRiddle t s)
    := by
  unfold execRiddle; refine State.kept_next ?_; with_reducible refine onEvent_kept ?_ ?_; intro _ _
  lift_lets -underBinder; intro v7; clear_value v7; intro v8; clear_value v8; intro v9; clear_value v9; intro v10
  refine State.kept_have (q := kq) v10 ?_ (fun hs => ?_); subst v10; refine State.kept_ite ?_ ?_
  with_reducible refine State.incSat_kept ?_; with_reducible assumption; with_reducible assumption; intro v12
  clear_value v12; intro v13; refine State.kept_have (q := kq) v13 ?_ (fun hs => ?_); clear_value v10; subst v13
  with_reducible refine State.kept_upd ?_; with_reducible assumption; clear_value v10 v13; refine State.kept_ite ?_ ?_
  with_reducible assumption; refine State.kept_ite ?_ ?_; refine State.kept_forEach (fun x s h => ?_) _ _ ?_; split
  with_reducible refine State.kept_upd ?_; refine State.kept_snd (by with_reducible assumption) ?_
  with_reducible refine State.drbgNext_kept ?_; with_reducible assumption; with_reducible assumption
  with_reducible assumption; with_reducible assumption

theorem execDrbgReseed_kept {kq : List Instr} {t : Nat} {s : State} (hkq : State.Kept kq s) : OutKept kq
    (execDrbgReseed t s) := by
  unfold execDrbgReseed; refine State.kept_next ?_; with_reducible refine onEvent_kept ?_ ?_; intro _ _
  refine State.kept_ite ?_ ?_; with_reducible refine State.reseed_kept ?_; with_reducible assumption
  with_reducible assumption; with_reducible assumption

theorem execEntropyFail_kept {kq : List Instr} {t : Nat} {test : Nat} {s : State} (hkq : State.Kept kq s) : OutKept kq
    (execEntropyFail t test s) := by
  unfold execEntropyFail; refine State.kept_next ?_; with_reducible refine onEvent_kept ?_ ?_; intro _ _
  lift_lets -underBinder; intro v8; refine State.kept_have (q := kq) v8 ?_ (fun hs => ?_); subst v8
  with_reducible refine State.incSat_kept (State.wr_kept ?_); with_reducible assumption; intro v10; clear_value v10 v8
  with_reducible refine State.raise_kept (State.kept_upd ?_); with_reducible assumption; with_reducible assumption

theorem execEntropyRetest_kept {kq : List Instr} {t : Nat} {pass : Bool} {s : State} (hkq : State.Kept kq s) : OutKept
    kq (execEntropyRetest t pass s) := by
  unfold execEntropyRetest; refine State.kept_next ?_; with_reducible refine onEvent_kept ?_ ?_; intro _ _
  refine State.kept_ite ?_ ?_; with_reducible assumption; lift_lets -underBinder; intro v8; subst v8; intro v8
  refine State.kept_have (q := kq) v8 ?_ (fun hs => ?_); subst v8; with_reducible refine State.kept_upd ?_
  with_reducible assumption; intro v10; clear_value v10; intro v11
  refine State.kept_have (q := kq) v11 ?_ (fun hs => ?_); clear_value v8; subst v11
  with_reducible refine State.kept_upd ?_; with_reducible assumption; subst v8; clear_value v11
  refine State.kept_ite ?_ ?_; with_reducible refine State.kept_upd (State.kept_upd ?_); with_reducible assumption
  refine State.kept_ite ?_ ?_; with_reducible refine State.kept_upd (State.kept_upd ?_); with_reducible assumption
  with_reducible refine State.raise_kept (State.wr_kept (State.reseed_kept ?_)); with_reducible assumption
  with_reducible assumption

theorem execKeySelftestDone_kept {kq : List Instr} {t : Nat} {failed : List Nat} {ber : Option Nat} {s : State} (hkq :
    State.Kept kq s) : OutKept kq (execKeySelftestDone t failed ber s) := by
  unfold execKeySelftestDone; refine State.kept_next ?_; with_reducible refine onEvent_kept ?_ ?_; intro _ _
  refine State.kept_ite ?_ ?_; with_reducible assumption; lift_lets -underBinder; intro v9; clear_value v9; intro v10
  clear_value v10; intro v11; refine State.kept_have (q := kq) v11 ?_ (fun hs => ?_); subst v11
  with_reducible refine State.kept_upd ?_; with_reducible assumption; intro v13
  refine State.kept_have (q := kq) v13 ?_ (fun hs => ?_); clear_value v11; subst v13
  with_reducible refine State.wr_kept (State.setKeyMode_kept ?_); with_reducible assumption; intro v15
  refine State.kept_have (q := kq) v15 ?_ (fun hs => ?_); clear_value v11 v13; subst v15
  refine State.kept_forEach (fun x s h => ?_) _ _ ?_; with_reducible refine State.raise_kept ?_
  with_reducible assumption; with_reducible assumption; clear_value v11 v13 v15; refine State.kept_ite ?_ ?_
  with_reducible refine State.recoveryOutlets_kept (State.regenerate_kept (State.finaliseOpt_kept ?_))
  with_reducible assumption
  with_reducible refine State.recoveryOutlets_kept (State.finaliseOpt_kept (State.keyRecovery_kept ?_))
  with_reducible assumption; with_reducible assumption

theorem execCredVerifyDone_kept {kq : List Instr} {t : Nat} {s : State} (hkq : State.Kept kq s) : OutKept kq
    (execCredVerifyDone t s) := by
  unfold execCredVerifyDone; refine State.kept_next ?_; with_reducible refine onEvent_kept ?_ ?_; intro _ _; split
  with_reducible assumption; split; with_reducible refine State.finalise_kept (State.credFlip_kept ?_)
  with_reducible assumption; lift_lets -underBinder; intro v17; clear_value v17; intro v18
  refine State.kept_have (q := kq) v18 ?_ (fun hs => ?_); subst v18
  with_reducible refine State.wr_kept (State.kept_upd ?_); with_reducible assumption; clear_value v18
  with_reducible refine State.finalise_kept (State.raise_kept ?_); with_reducible assumption; with_reducible assumption

theorem execFlashBlockFail_kept {kq : List Instr} {t : Nat} {a : Nat} {s : State} (hkq : State.Kept kq s) : OutKept kq
    (execFlashBlockFail t a s) := by
  unfold execFlashBlockFail; refine State.kept_next ?_; with_reducible refine onEvent_kept ?_ ?_; intro _ _
  refine State.kept_ite ?_ ?_; with_reducible assumption; refine State.kept_ite ?_ ?_
  with_reducible refine State.wr_kept ?_; with_reducible assumption; lift_lets -underBinder; intro v8
  refine State.kept_have (q := kq) v8 ?_ (fun hs => ?_); subst v8; with_reducible refine State.wr_kept ?_
  with_reducible assumption; intro v10; refine State.kept_have (q := kq) v10 ?_ (fun hs => ?_); clear_value v8
  subst v10; refine State.kept_ite ?_ ?_; with_reducible refine State.wr_kept ?_; with_reducible assumption
  with_reducible assumption; clear_value v8 v10; with_reducible refine State.raise_kept ?_; with_reducible assumption
  with_reducible assumption

theorem execKeyQuery_kept {kq : List Instr} {x : Ctx} {s : State} (hkq : State.Kept kq s) : OutKept kq (execKeyQuery x
    s) := by
  unfold execKeyQuery; refine State.kept_next ?_; with_reducible refine State.command_kept ?_ ?_
  with_reducible assumption; intro _ _; lift_lets -underBinder; intro v7; clear_value v7
  with_reducible refine State.complete_kept ?_; with_reducible assumption

theorem execKeyNodeQuery_kept {kq : List Instr} {x : Ctx} {path : List (List Byte)} {s : State} (hkq : State.Kept kq
    s) : OutKept kq (execKeyNodeQuery x path s) := by
  unfold execKeyNodeQuery; refine State.kept_next ?_; with_reducible refine State.command_kept ?_ ?_
  with_reducible assumption; intro _ _; with_reducible refine State.onNode_kept ?_ ?_; with_reducible assumption
  intro _ _ _; lift_lets -underBinder; intro v11; refine State.kept_have (q := kq) v11 ?_ (fun hs => ?_); subst v11
  with_reducible refine State.giveBuffer_kept ?_; with_reducible assumption; clear_value v11
  with_reducible refine State.complete_kept ?_; with_reducible assumption

theorem execKeyInvalidate_kept {kq : List Instr} {x : Ctx} {path : List (List Byte)} {sig : OwnerSig} {s : State} (hkq
    : State.Kept kq s) : OutKept kq (execKeyInvalidate x path sig s) := by
  unfold execKeyInvalidate; refine State.kept_next ?_; with_reducible refine State.command_kept ?_ ?_
  with_reducible assumption; intro _ _; with_reducible refine State.onNode_kept ?_ ?_; with_reducible assumption
  intro _ _ _; with_reducible refine State.owned_kept ?_ ?_; with_reducible assumption; intro _ _; split
  lift_lets -underBinder; intro v20; refine State.kept_have (q := kq) v20 ?_ (fun hs => ?_); subst v20
  with_reducible refine State.raise_kept ?_; refine State.kept_snd (by with_reducible assumption) ?_
  with_reducible refine State.invalidate_kept ?_; with_reducible assumption; clear_value v20
  with_reducible refine State.complete_kept ?_; refine State.kept_ite ?_ ?_
  with_reducible refine State.signKeyChanged_kept ?_; with_reducible assumption; with_reducible assumption

theorem execKeyRederive_kept {kq : List Instr} {x : Ctx} {path : List (List Byte)} {sig : OwnerSig} {s : State} (hkq :
    State.Kept kq s) : OutKept kq (execKeyRederive x path sig s) := by
  unfold execKeyRederive; refine State.kept_next ?_; with_reducible refine State.command_kept ?_ ?_
  with_reducible assumption; intro _ _; with_reducible refine State.onNode_kept ?_ ?_; with_reducible assumption
  intro _ _ _; with_reducible refine State.owned_kept ?_ ?_; with_reducible assumption; intro _ _
  lift_lets -underBinder; intro v14; clear_value v14; intro v15; refine State.kept_have (q := kq) v15 ?_ (fun hs => ?_)
  subst v15; with_reducible refine State.rederive_kept ?_; with_reducible assumption; clear_value v15
  with_reducible refine State.complete_kept ?_; refine State.kept_ite ?_ ?_; with_reducible assumption
  with_reducible refine State.signKeyChanged_kept ?_; with_reducible assumption

theorem execKeyInstall_kept {kq : List Instr} {x : Ctx} {blob : List Byte} {plain : Option Nat} {sigOk : Bool} {s :
    State} (hkq : State.Kept kq s) : OutKept kq (execKeyInstall x blob plain sigOk s) := by
  unfold execKeyInstall; refine State.kept_next ?_; with_reducible refine State.command_kept ?_ ?_
  with_reducible assumption; intro _ _; with_reducible refine State.withTree_kept ?_ ?_; with_reducible assumption
  intro _ _; split; with_reducible refine State.complete_kept ?_; with_reducible assumption; lift_lets -underBinder
  intro v19; clear_value v19; intro v20; clear_value v20; with_reducible refine State.owned_kept ?_ ?_
  with_reducible assumption; intro _ _; lift_lets -underBinder; intro v23; clear_value v23; intro v24; clear_value v24
  intro v25; clear_value v25; intro v26; clear_value v26; intro v27
  refine State.kept_have (q := kq) v27 ?_ (fun hs => ?_); subst v27; refine State.kept_ite ?_ ?_
  with_reducible refine State.modNode_kept ?_; with_reducible assumption; with_reducible refine State.kept_upd ?_
  with_reducible assumption; clear_value v27; with_reducible refine State.complete_kept (State.cacheCounts_kept ?_)
  with_reducible assumption

theorem execKeyOwnerSet_kept {kq : List Instr} {x : Ctx} {pk : List Byte} {counter : Nat} {sig : Option Bool} {s :
    State} (hkq : State.Kept kq s) : OutKept kq (execKeyOwnerSet x pk counter sig s) := by
  unfold execKeyOwnerSet; refine State.kept_next ?_; with_reducible refine State.command_kept ?_ ?_
  with_reducible assumption; intro _ _; lift_lets -underBinder; intro v10; clear_value v10; intro v11
  refine State.kept_ite ?_ ?_; with_reducible refine State.complete_kept ?_; with_reducible assumption; split
  with_reducible refine State.owned_kept ?_ ?_; with_reducible assumption; intro _ _; subst v11; beta_reduce
  lift_lets -underBinder; intro v16; clear_value v16; intro v17; refine State.kept_have (q := kq) v17 ?_ (fun hs => ?_)
  subst v17; with_reducible refine State.kept_upd ?_; with_reducible assumption; clear_value v17
  with_reducible refine State.complete_kept (State.wr_kept ?_); with_reducible assumption; refine State.kept_ite ?_ ?_
  with_reducible refine State.complete_kept ?_; with_reducible assumption; refine State.kept_ite ?_ ?_
  with_reducible refine State.complete_kept ?_; with_reducible assumption; subst v11; beta_reduce
  lift_lets -underBinder; intro v13; clear_value v13; intro v14; refine State.kept_have (q := kq) v14 ?_ (fun hs => ?_)
  subst v14; with_reducible refine State.kept_upd (State.ownerTook_kept ?_); with_reducible assumption; clear_value v14
  with_reducible refine State.complete_kept (State.wr_kept ?_); with_reducible assumption

theorem execKeyAnchorInstall_kept {kq : List Instr} {x : Ctx} {slot : Nat} {typ : Nat} {item : List Byte} {valid :
    Bool} {sig : OwnerSig} {s : State} (hkq : State.Kept kq s) : OutKept kq (execKeyAnchorInstall x slot typ item
    valid sig s) := by
  unfold execKeyAnchorInstall; refine State.kept_next ?_; with_reducible refine State.command_kept ?_ ?_
  with_reducible assumption; intro _ _; lift_lets -underBinder; intro v12; clear_value v12; intro v13; clear_value v13
  with_reducible refine State.owned_kept ?_ ?_; with_reducible assumption; intro _ _; lift_lets -underBinder; intro v16
  clear_value v16; intro v17; clear_value v17; with_reducible refine State.complete_kept (State.kept_upd ?_)
  with_reducible assumption

theorem execKeyCsr_kept {kq : List Instr} {x : Ctx} {path : List (List Byte)} {subject : List Byte} {s : State} (hkq :
    State.Kept kq s) : OutKept kq (execKeyCsr x path subject s) := by
  unfold execKeyCsr; refine State.kept_next ?_; with_reducible refine State.command_kept ?_ ?_
  with_reducible assumption; intro _ _; with_reducible refine State.onNode_kept ?_ ?_; with_reducible assumption
  intro _ _ _; refine State.kept_ite ?_ ?_; with_reducible refine State.complete_kept ?_; with_reducible assumption
  refine State.kept_ite ?_ ?_; with_reducible refine State.complete_kept ?_; with_reducible assumption
  lift_lets -underBinder; intro v12; refine State.kept_have (q := kq) v12 ?_ (fun hs => ?_); subst v12
  with_reducible refine State.useNode_kept ?_; with_reducible assumption; intro v14; clear_value v14 v12
  with_reducible refine State.complete_kept (State.giveBuffer_kept ?_); with_reducible assumption

theorem execKeyCertInstall_kept {kq : List Instr} {x : Ctx} {path : List (List Byte)} {chain : List (List Byte)}
    {leafKey : Nat} {periods : List (Nat × Nat)} {valid : Bool} {s : State} (hkq : State.Kept kq s) : OutKept kq
    (execKeyCertInstall x path chain leafKey periods valid s) := by
  unfold execKeyCertInstall; refine State.kept_next ?_; with_reducible refine State.command_kept ?_ ?_
  with_reducible assumption; intro _ _; with_reducible refine State.onNode_kept ?_ ?_; with_reducible assumption
  intro _ _ _; lift_lets -underBinder; intro v15; clear_value v15; refine State.kept_ite ?_ ?_
  with_reducible refine State.complete_kept ?_; with_reducible assumption; refine State.kept_ite ?_ ?_
  with_reducible refine State.complete_kept ?_; with_reducible assumption; refine State.kept_ite ?_ ?_
  with_reducible refine State.complete_kept ?_; with_reducible assumption
  with_reducible refine State.complete_kept (State.modNode_kept ?_); with_reducible assumption

theorem execKeyAttest_kept {kq : List Instr} {x : Ctx} {nonce : Nat} {paths : List (List (List Byte))} {s : State}
    (hkq : State.Kept kq s) : OutKept kq (execKeyAttest x nonce paths s) := by
  unfold execKeyAttest; refine State.kept_next ?_; with_reducible refine State.command_kept ?_ ?_
  with_reducible assumption; intro _ _; with_reducible refine State.withTree_kept ?_ ?_; with_reducible assumption
  intro _ _; lift_lets -underBinder; intro v11; clear_value v11; intro v12
  refine State.kept_have (q := kq) v12 ?_ (fun hs => ?_); subst v12; refine State.kept_forEach (fun x s h => ?_) _ _ ?_
  with_reducible refine State.useNode_kept ?_; with_reducible assumption; with_reducible assumption; intro v14
  clear_value v14 v12; refine State.kept_ite ?_ ?_; with_reducible refine State.complete_kept ?_
  with_reducible assumption; refine State.kept_ite ?_ ?_; with_reducible refine State.complete_kept ?_
  with_reducible assumption; with_reducible refine State.complete_kept (State.giveBuffer_kept ?_)
  with_reducible assumption

theorem execKeyAttestCert_kept {kq : List Instr} {x : Ctx} {s : State} (hkq : State.Kept kq s) : OutKept kq
    (execKeyAttestCert x s) := by
  unfold execKeyAttestCert; refine State.kept_next ?_; with_reducible refine State.command_kept ?_ ?_
  with_reducible assumption; intro _ _; with_reducible refine State.complete_kept (State.giveBuffer_kept ?_)
  with_reducible assumption

theorem execKeySelftest_kept {kq : List Instr} {x : Ctx} {s : State} (hkq : State.Kept kq s) : OutKept kq
    (execKeySelftest x s) := by
  unfold execKeySelftest; refine State.kept_next ?_; with_reducible refine State.command_kept ?_ ?_
  with_reducible assumption; intro _ _; with_reducible refine State.withTree_kept ?_ ?_; with_reducible assumption
  intro _ _; lift_lets -underBinder; intro v9; clear_value v9; intro v10
  refine State.kept_have (q := kq) v10 ?_ (fun hs => ?_); subst v10
  with_reducible refine State.complete_kept (State.setKeyMode_kept (State.clearKeys_kept ?_)); with_reducible assumption
  intro v12; clear_value v12 v10; refine State.kept_ite ?_ ?_; with_reducible refine State.complete_kept ?_
  with_reducible assumption; with_reducible refine State.kept_upd ?_; with_reducible assumption

theorem execCredLoadBegin_kept {kq : List Instr} {x : Ctx} {gen : Nat} {count : Nat} {s : State} (hkq : State.Kept kq
    s) : OutKept kq (execCredLoadBegin x gen count s) := by
  unfold execCredLoadBegin; refine State.kept_next ?_; with_reducible refine State.command_kept ?_ ?_
  with_reducible assumption; intro _ _; with_reducible refine State.withCreds_kept ?_ ?_; with_reducible assumption
  intro _ _; lift_lets -underBinder; intro v11; clear_value v11; intro v12; clear_value v12; intro v13
  refine State.kept_have (q := kq) v13 ?_ (fun hs => ?_); subst v13; refine State.kept_ite ?_ ?_
  with_reducible assumption; with_reducible refine State.wr_kept (State.kept_upd ?_); with_reducible assumption
  clear_value v13; refine State.kept_ite ?_ ?_; with_reducible refine State.complete_kept ?_; with_reducible assumption
  refine State.kept_ite ?_ ?_; with_reducible refine State.complete_kept ?_; with_reducible assumption
  refine State.kept_ite ?_ ?_; with_reducible refine State.complete_kept ?_; with_reducible assumption
  refine State.kept_ite ?_ ?_; with_reducible refine State.complete_kept ?_; with_reducible assumption
  with_reducible refine State.complete_kept (State.wr_kept ?_); with_reducible assumption

theorem execCredLoadData_kept {kq : List Instr} {x : Ctx} {first : Nat} {recs : List CredRec} {s : State} (hkq :
    State.Kept kq s) : OutKept kq (execCredLoadData x first recs s) := by
  unfold execCredLoadData; refine State.kept_next ?_; with_reducible refine State.command_kept ?_ ?_
  with_reducible assumption; intro _ _; with_reducible refine State.withCreds_kept ?_ ?_; with_reducible assumption
  intro _ _; lift_lets -underBinder; intro v11; clear_value v11; intro v12; clear_value v12; intro v13; clear_value v13
  intro v14; refine State.kept_have (q := kq) v14 ?_ (fun hs => ?_); subst v14; with_reducible refine State.kept_upd ?_
  with_reducible assumption; clear_value v14; refine State.kept_ite ?_ ?_; with_reducible refine State.complete_kept ?_
  with_reducible assumption; refine State.kept_ite ?_ ?_; with_reducible refine State.complete_kept ?_
  with_reducible assumption; refine State.kept_ite ?_ ?_; with_reducible refine State.complete_kept ?_
  with_reducible assumption; refine State.kept_ite ?_ ?_; with_reducible refine State.complete_kept ?_
  with_reducible assumption; refine State.kept_ite ?_ ?_; with_reducible refine State.complete_kept ?_
  with_reducible assumption; with_reducible refine State.complete_kept (State.wr_kept ?_); with_reducible assumption

theorem execCredLoadCommit_kept {kq : List Instr} {x : Ctx} {gen : Nat} {count : Nat} {digest : Nat} {serial : Nat}
    {sigOk : Bool} {s : State} (hkq : State.Kept kq s) : OutKept kq (execCredLoadCommit x gen count digest serial
    sigOk s) := by
  unfold execCredLoadCommit; refine State.kept_next ?_; with_reducible refine State.command_kept ?_ ?_
  with_reducible assumption; intro _ _; with_reducible refine State.withCreds_kept ?_ ?_; with_reducible assumption
  intro _ _; refine State.kept_ite ?_ ?_; with_reducible refine State.complete_kept ?_; with_reducible assumption
  refine State.kept_ite ?_ ?_; with_reducible refine State.complete_kept ?_; with_reducible assumption
  lift_lets -underBinder; intro v14; refine State.kept_have (q := kq) v14 ?_ (fun hs => ?_); subst v14
  with_reducible refine State.complete_kept (State.wr_kept ?_); with_reducible assumption; intro v16
  clear_value v16 v14; with_reducible refine State.kept_upd ?_; with_reducible assumption

theorem execCredLoadAbort_kept {kq : List Instr} {x : Ctx} {s : State} (hkq : State.Kept kq s) : OutKept kq
    (execCredLoadAbort x s) := by
  unfold execCredLoadAbort; refine State.kept_next ?_; with_reducible refine State.command_kept ?_ ?_
  with_reducible assumption; intro _ _; with_reducible refine State.withCreds_kept ?_ ?_; with_reducible assumption
  intro _ _; lift_lets -underBinder; intro v9; refine State.kept_have (q := kq) v9 ?_ (fun hs => ?_); subst v9
  with_reducible refine State.finaliseOpt_kept ?_; with_reducible assumption; intro v11
  refine State.kept_have (q := kq) v11 ?_ (fun hs => ?_); clear_value v9; subst v11
  with_reducible refine State.kept_upd ?_; with_reducible assumption; clear_value v9 v11
  with_reducible refine State.complete_kept (State.endLoad_kept ?_); with_reducible assumption

theorem execCredUpdate_kept {kq : List Instr} {x : Ctx} {recs : List CredRec} {sig : OwnerSig} {s : State} (hkq :
    State.Kept kq s) : OutKept kq (execCredUpdate x recs sig s) := by
  unfold execCredUpdate; refine State.kept_next ?_; with_reducible refine State.command_kept ?_ ?_
  with_reducible assumption; intro _ _; with_reducible refine State.withCreds_kept ?_ ?_; with_reducible assumption
  intro _ _; lift_lets -underBinder; intro v11; clear_value v11; intro v12; refine State.kept_ite ?_ ?_
  with_reducible refine State.owned_kept ?_ ?_; with_reducible assumption; intro _ _; subst v12; beta_reduce
  lift_lets -underBinder; intro v15; clear_value v15; intro v16; refine State.kept_have (q := kq) v16 ?_ (fun hs => ?_)
  subst v16; with_reducible refine State.kept_upd ?_; with_reducible assumption; clear_value v16
  with_reducible refine State.complete_kept (State.wr_kept ?_); with_reducible assumption; split
  with_reducible refine State.complete_kept ?_; with_reducible assumption; subst v12; beta_reduce
  lift_lets -underBinder; intro v14; clear_value v14; intro v15; refine State.kept_have (q := kq) v15 ?_ (fun hs => ?_)
  subst v15; with_reducible refine State.kept_upd ?_; with_reducible assumption; clear_value v15
  with_reducible refine State.complete_kept (State.wr_kept ?_); with_reducible assumption

theorem execCredLookup_kept {kq : List Instr} {x : Ctx} {kind : Nat} {hash : Nat} {n : Nat} {tagBad : Bool} {s :
    State} (hkq : State.Kept kq s) : OutKept kq (execCredLookup x kind hash n tagBad s) := by
  unfold execCredLookup; refine State.kept_next ?_; with_reducible refine State.command_kept ?_ ?_
  with_reducible assumption; intro _ _; with_reducible refine State.withCreds_kept ?_ ?_; with_reducible assumption
  intro _ _; refine State.kept_ite ?_ ?_; with_reducible refine State.complete_kept ?_; with_reducible assumption
  lift_lets -underBinder; intro v13; clear_value v13; intro v14; refine State.kept_have (q := kq) v14 ?_ (fun hs => ?_)
  subst v14; split; lift_lets -underBinder; intro v24; clear_value v24; intro v25
  refine State.kept_have (q := kq) v25 ?_ (fun hs => ?_); subst v25; with_reducible refine State.kept_upd ?_
  with_reducible assumption; clear_value v25; with_reducible refine State.raise_kept ?_; with_reducible assumption
  with_reducible assumption; clear_value v14; split; with_reducible refine State.complete_kept ?_
  with_reducible assumption; with_reducible refine State.complete_kept (State.giveBuffer_kept ?_)
  with_reducible assumption; with_reducible refine State.complete_kept (State.giveBuffer_kept ?_)
  with_reducible assumption

theorem State.setTrx_kept {kq : List Instr} {s : State} {new : Nat} {reason : Nat} (hkq : State.Kept kq s) :
    State.Kept kq (State.setTrx s new reason) := by
  unfold State.setTrx; lift_lets -underBinder; intro v6; clear_value v6; intro v7
  refine State.kept_have (q := kq) v7 ?_ (fun hs => ?_); subst v7
  with_reducible refine State.raise_kept (State.wr_kept ?_); with_reducible assumption; intro v9; clear_value v9 v7
  with_reducible refine State.kept_upd ?_; with_reducible assumption

theorem State.modLink_kept {kq : List Instr} {s : State} {n : Nat} {k : Nat} {f : TLink → TLink} (hkq : State.Kept kq
    s) : State.Kept kq (State.modLink s n k f) := by
  unfold State.modLink; with_reducible refine State.kept_upd ?_; with_reducible assumption

theorem State.showLink_kept {kq : List Instr} {s : State} {n : Nat} (hkq : State.Kept kq s) : State.Kept kq
    (State.showLink s n) := by
  unfold State.showLink; lift_lets -underBinder; intro v5; clear_value v5; intro v6; clear_value v6; intro v7
  refine State.kept_have (q := kq) v7 ?_ (fun hs => ?_); subst v7
  with_reducible refine State.wr_kept (State.wr_kept ?_); with_reducible assumption; clear_value v7
  with_reducible refine State.wr_kept (State.wr_kept (State.wr_kept ?_)); with_reducible assumption

theorem State.rerouteOne_kept {kq : List Instr} {s : State} {ns : List Nat} {d : Nat} (hkq : State.Kept kq s) :
    State.Kept kq (State.rerouteOne s ns d) := by
  unfold State.rerouteOne; lift_lets -underBinder; intro v6; clear_value v6; intro v7; clear_value v7; split
  lift_lets -underBinder; intro v15; refine State.kept_have (q := kq) v15 ?_ (fun hs => ?_); subst v15
  with_reducible refine State.wr_kept (State.wr_kept (State.wr_kept ?_)); with_reducible assumption; clear_value v15
  refine State.kept_ite ?_ ?_; with_reducible refine State.raise_kept (State.incSat_kept ?_); with_reducible assumption
  with_reducible assumption

theorem State.reroute_kept {kq : List Instr} {s : State} (hkq : State.Kept kq s) : State.Kept kq (State.reroute s) :=
    by
  unfold State.reroute; lift_lets -underBinder; intro v4; clear_value v4; intro v5
  refine State.kept_have (q := kq) v5 ?_ (fun hs => ?_); subst v5; refine State.kept_forEach (fun x s h => ?_) _ _ ?_
  with_reducible refine State.rerouteOne_kept ?_; with_reducible assumption; with_reducible assumption; intro v7
  clear_value v7 v5; with_reducible refine State.wr_kept (State.wr_kept ?_); with_reducible assumption

theorem State.linkResult_kept {kq : List Instr} {s : State} {n : Nat} {k : Nat} {failed : Bool} (hkq : State.Kept kq
    s) : State.Kept kq (State.linkResult s n k failed) := by
  unfold State.linkResult; lift_lets -underBinder; intro v7; refine State.kept_have (q := kq) v7 ?_ (fun hs => ?_)
  subst v7; with_reducible refine State.modLink_kept ?_; with_reducible assumption; clear_value v7
  with_reducible refine State.reroute_kept (State.showLink_kept ?_); with_reducible assumption

theorem State.hear_kept {kq : List Instr} {s : State} {h : THdr} (hkq : State.Kept kq s) : State.Kept kq (State.hear s
    h) := by
  unfold State.hear; lift_lets -underBinder; intro v5; clear_value v5; intro v6
  refine State.kept_have (q := kq) v6 ?_ (fun hs => ?_); subst v6; with_reducible refine State.modLink_kept ?_
  with_reducible assumption; intro v8; refine State.kept_have (q := kq) v8 ?_ (fun hs => ?_); clear_value v6; subst v8
  with_reducible refine State.wr_kept ?_; with_reducible assumption; intro v10
  refine State.kept_have (q := kq) v10 ?_ (fun hs => ?_); clear_value v6 v8; subst v10; split
  with_reducible refine State.kept_upd ?_; with_reducible assumption; with_reducible assumption; clear_value v6 v8 v10
  with_reducible refine State.reroute_kept (State.showLink_kept ?_); with_reducible assumption

theorem State.setTq_kept {kq : List Instr} {s : State} {c : Nat} {fs : List TFrame} (hkq : State.Kept kq s) :
    State.Kept kq (State.setTq s c fs) := by
  unfold State.setTq; with_reducible refine State.kept_upd ?_; with_reducible assumption

theorem State.enqueue_kept {kq : List Instr} {s : State} {f : TFrame} (hkq : State.Kept kq s) : State.Kept kq
    (State.enqueue s f) := by
  unfold State.enqueue; refine State.kept_ite ?_ ?_; with_reducible assumption
  with_reducible refine State.setTq_kept ?_; with_reducible assumption

theorem State.nextSeq_kept {kq : List Instr} {s : State} (hkq : State.Kept kq s) : State.Kept kq (State.nextSeq s).2
    := by
  unfold State.nextSeq; dsimp only; with_reducible refine State.kept_upd ?_; with_reducible assumption

theorem State.send_kept {kq : List Instr} {s : State} {typ : Nat} {cls : Nat} {dst : Nat} {payload : List Nat} {via :
    Nat} {ctx : Option Ctx} (hkq : State.Kept kq s) : State.Kept kq (State.send s typ cls dst payload via ctx) := by
  unfold State.send; split; with_reducible refine State.enqueue_kept ?_
  refine State.kept_snd (by with_reducible assumption) ?_; with_reducible refine State.nextSeq_kept ?_
  with_reducible assumption

theorem State.nextCtr_kept {kq : List Instr} {s : State} (hkq : State.Kept kq s) : State.Kept kq (State.nextCtr s).2
    := by
  unfold State.nextCtr; lift_lets -underBinder; intro v4; clear_value v4; intro v5; clear_value v5; dsimp only
  with_reducible refine State.kept_upd ?_; with_reducible assumption

theorem State.transmit_kept {kq : List Instr} {s : State} {f : TFrame} {rx : Nat} (hkq : State.Kept kq s) : State.Kept
    kq (State.transmit s f rx).2 := by
  unfold State.transmit; split; lift_lets -underBinder; intro v12; clear_value v12; intro v13; clear_value v13
  intro v14; clear_value v14; intro v15; clear_value v15; intro v16; clear_value v16; intro v17; clear_value v17
  intro v18; clear_value v18; dsimp only; with_reducible refine State.kept_upd ?_
  refine State.kept_snd (by with_reducible assumption) ?_; with_reducible refine State.nextCtr_kept ?_
  with_reducible assumption

theorem State.frameDone_kept {kq : List Instr} {s : State} {f : TFrame} {outcome : Nat} (hkq : State.Kept kq s) :
    State.Kept kq (State.frameDone s f outcome) := by
  unfold State.frameDone; split; with_reducible assumption; lift_lets -underBinder; intro v11; clear_value v11
  with_reducible refine State.finalise_kept (State.raise_kept ?_); with_reducible assumption

theorem State.cancelFrames_kept {kq : List Instr} {s : State} (hkq : State.Kept kq s) : State.Kept kq
    (State.cancelFrames s) := by
  unfold State.cancelFrames; lift_lets -underBinder; intro v4; clear_value v4; intro v5; clear_value v5; intro v6
  refine State.kept_have (q := kq) v6 ?_ (fun hs => ?_); subst v6; with_reducible refine State.kept_upd ?_
  with_reducible assumption; clear_value v6; refine State.kept_forEach (fun x s h => ?_) _ _ ?_
  with_reducible refine State.frameDone_kept ?_; with_reducible assumption; with_reducible assumption

theorem State.mainsModems_kept {kq : List Instr} {s : State} {on : Bool} (hkq : State.Kept kq s) : State.Kept kq
    (State.mainsModems s on) := by
  unfold State.mainsModems; with_reducible refine State.modemOn_kept (State.modemOn_kept ?_); with_reducible assumption

theorem State.listen_kept {kq : List Instr} {s : State} {reason : Nat} (hkq : State.Kept kq s) : State.Kept kq
    (State.listen s reason) := by
  unfold State.listen; lift_lets -underBinder; intro v5; clear_value v5; intro v6
  refine State.kept_have (q := kq) v6 ?_ (fun hs => ?_); subst v6; with_reducible refine State.kept_upd ?_
  with_reducible assumption; clear_value v6
  with_reducible refine State.setTrx_kept (State.wr_kept (State.mainsModems_kept ?_)); with_reducible assumption

theorem State.trellisEn_kept {kq : List Instr} {s : State} (hkq : State.Kept kq s) : State.Kept kq (State.trellisEn s)
    := by
  unfold State.trellisEn; refine State.kept_ite ?_ ?_; refine State.kept_ite ?_ ?_
  with_reducible refine State.listen_kept ?_; with_reducible assumption; with_reducible assumption
  refine State.kept_ite ?_ ?_; with_reducible assumption
  with_reducible refine State.setTrx_kept (State.wr_kept (State.mainsModems_kept (State.cancelFrames_kept ?_)))
  with_reducible assumption

theorem State.joinReq_kept {kq : List Instr} {s : State} {coord : Nat} {via : Nat} {reason : Nat} (hkq : State.Kept kq
    s) : State.Kept kq (State.joinReq s coord via reason) := by
  unfold State.joinReq; lift_lets -underBinder; intro v7; refine State.kept_have (q := kq) v7 ?_ (fun hs => ?_)
  subst v7; with_reducible refine State.setTrx_kept (State.wr_kept ?_); with_reducible assumption; intro v9
  clear_value v9; intro v10; refine State.kept_have (q := kq) v10 ?_ (fun hs => ?_); clear_value v7; subst v10
  with_reducible refine State.kept_upd ?_; with_reducible assumption; clear_value v7 v10
  with_reducible refine State.send_kept ?_; with_reducible assumption

theorem State.dequeue_kept {kq : List Instr} {s : State} {f : TFrame} (hkq : State.Kept kq s) : State.Kept kq
    (State.dequeue s f) := by
  unfold State.dequeue; with_reducible refine State.setTq_kept ?_; with_reducible assumption

theorem State.receive_kept {kq : List Instr} {s : State} {h : THdr} {typ : Nat} {payload : List Nat} {f : State →
    State} (hkq : State.Kept kq s) (hf : ∀ s, State.Kept kq s → State.Kept kq (f s)) : State.Kept kq (State.receive s
    h typ payload f) := by
  unfold State.receive; refine State.kept_ite ?_ ?_; with_reducible assumption; refine State.kept_ite ?_ ?_
  with_reducible refine State.incSat_kept ?_; with_reducible assumption; lift_lets -underBinder; intro v9
  clear_value v9; intro v10; clear_value v10; intro v11; refine State.kept_have (q := kq) v11 ?_ (fun hs => ?_)
  subst v11; with_reducible refine State.kept_upd ?_; with_reducible assumption; intro v13
  refine State.kept_have (q := kq) v13 ?_ (fun hs => ?_); clear_value v11; subst v13
  with_reducible refine State.hear_kept ?_; with_reducible assumption; intro v15; subst v15; intro v15
  refine State.kept_have (q := kq) v15 ?_ (fun hs => ?_); clear_value v11 v13; subst v15; refine State.kept_ite ?_ ?_
  with_reducible refine State.transmit_kept ?_; with_reducible assumption; with_reducible assumption; intro v17
  clear_value v17; intro v18; clear_value v18; intro v19; refine State.kept_have (q := kq) v19 ?_ (fun hs => ?_)
  clear_value v11 v13 v15; subst v19; with_reducible refine State.kept_upd ?_; with_reducible assumption; intro v21
  clear_value v21; intro v22; clear_value v22; intro v23; refine State.kept_have (q := kq) v23 ?_ (fun hs => ?_)
  clear_value v11 v13 v15 v19; subst v23; refine State.kept_ite ?_ ?_; with_reducible refine State.enqueue_kept ?_
  with_reducible assumption; with_reducible assumption; clear_value v11 v13 v15 v19 v23; refine State.kept_ite ?_ ?_
  with_reducible assumption; refine State.kept_ite ?_ ?_; with_reducible assumption; refine State.kept_ite ?_ ?_
  refine hf _ ?_; with_reducible assumption; with_reducible assumption

theorem State.holdStart_kept {kq : List Instr} {s : State} (hkq : State.Kept kq s) : State.Kept kq (State.holdStart s)
    := by
  unfold State.holdStart; refine State.kept_ite ?_ ?_; with_reducible assumption; lift_lets -underBinder; intro v4
  clear_value v4; intro v5; clear_value v5; with_reducible refine State.wrInt_kept (State.kept_upd ?_)
  with_reducible assumption

theorem State.alignNote_kept {kq : List Instr} {s : State} (hkq : State.Kept kq s) : State.Kept kq (State.alignNote s)
    := by
  unfold State.alignNote; lift_lets -underBinder; intro v4; clear_value v4; intro v5; clear_value v5
  refine State.kept_ite ?_ ?_; with_reducible assumption; with_reducible refine State.raise_kept (State.kept_upd ?_)
  with_reducible assumption

theorem State.moveStart_kept {kq : List Instr} {s : State} {target : Nat} (hkq : State.Kept kq s) : State.Kept kq
    (State.moveStart s target) := by
  unfold State.moveStart; lift_lets -underBinder; intro v5; clear_value v5; intro v6; clear_value v6; intro v7
  clear_value v7; intro v8; clear_value v8; with_reducible refine State.holdStart_kept (State.kept_upd ?_)
  with_reducible assumption

theorem State.every_kept {kq : List Instr} {s : State} {k : Nat} {n : Nat} {f : State → State} (hkq : State.Kept kq s)
    (hf : ∀ s, State.Kept kq s → State.Kept kq (f s)) : State.Kept kq (State.every s k n f) := by
  unfold State.every; refine State.kept_ite ?_ ?_; with_reducible assumption; refine hf _ ?_
  with_reducible refine State.kept_upd ?_; with_reducible assumption

theorem State.limitApply_kept {kq : List Instr} {s : State} {validity : Nat} {entries : List (Nat × Nat)} {src : Nat}
    (hkq : State.Kept kq s) : State.Kept kq (State.limitApply s validity entries src) := by
  unfold State.limitApply; lift_lets -underBinder; intro v7; clear_value v7; split; with_reducible assumption
  lift_lets -underBinder; intro v14; clear_value v14; intro v15; clear_value v15; intro v16
  refine State.kept_have (q := kq) v16 ?_ (fun hs => ?_); subst v16; with_reducible refine State.wr_kept ?_
  with_reducible assumption; intro v18; clear_value v18; intro v19
  refine State.kept_have (q := kq) v19 ?_ (fun hs => ?_); clear_value v16; subst v19
  with_reducible refine State.kept_upd ?_; with_reducible assumption; clear_value v16 v19
  with_reducible refine State.raise_kept ?_; with_reducible assumption

theorem State.serveNext_kept {kq : List Instr} {s : State} (hkq : State.Kept kq s) : State.Kept kq (State.serveNext s)
    := by
  unfold State.serveNext; split; refine State.kept_ite ?_ ?_; with_reducible assumption; lift_lets -underBinder
  intro v19; clear_value v19; intro v20; refine State.kept_have (q := kq) v20 ?_ (fun hs => ?_); subst v20
  with_reducible refine State.kept_upd ?_; with_reducible assumption; clear_value v20; refine State.kept_ite ?_ ?_
  with_reducible assumption; refine State.kept_forEach (fun x s h => ?_) _ _ ?_
  with_reducible refine State.send_kept ?_; with_reducible assumption; with_reducible assumption
  with_reducible refine State.kept_upd ?_; with_reducible assumption; with_reducible assumption

theorem State.updGo_kept {kq : List Instr} {s : State} {new : Nat} {status : Nat} (hkq : State.Kept kq s) : State.Kept
    kq (State.updGo s new status) := by
  unfold State.updGo; lift_lets -underBinder; intro v6; clear_value v6; intro v7
  refine State.kept_have (q := kq) v7 ?_ (fun hs => ?_); subst v7; refine State.kept_ite ?_ ?_
  with_reducible assumption; with_reducible refine State.wr_kept ?_; with_reducible assumption; clear_value v7
  with_reducible refine State.raise_kept (State.wr_kept ?_); with_reducible assumption

theorem State.updTouch_kept {kq : List Instr} {s : State} {src : Nat} (hkq : State.Kept kq s) : State.Kept kq
    (State.updTouch s src) := by
  unfold State.updTouch; refine State.kept_ite ?_ ?_; with_reducible refine State.kept_upd ?_; with_reducible assumption
  with_reducible assumption

theorem State.updForget_kept {kq : List Instr} {s : State} (hkq : State.Kept kq s) : State.Kept kq (State.updForget s)
    := by
  unfold State.updForget; with_reducible refine State.wr_kept (State.wr_kept (State.kept_upd ?_))
  with_reducible assumption

theorem State.updRelease_kept {kq : List Instr} {s : State} (hkq : State.Kept kq s) : State.Kept kq (State.updRelease
    s) := by
  unfold State.updRelease; with_reducible refine State.wr_kept ?_; with_reducible assumption

theorem State.updProgram_kept {kq : List Instr} {s : State} {b : Nat} {data : List Nat} (hkq : State.Kept kq s) :
    State.Kept kq (State.updProgram s b data) := by
  unfold State.updProgram; with_reducible refine State.kept_upd ?_; with_reducible assumption

theorem State.updMark_kept {kq : List Instr} {s : State} {b : Nat} {data : List Nat} (hkq : State.Kept kq s) :
    State.Kept kq (State.updMark s b data) := by
  unfold State.updMark; lift_lets -underBinder; intro v6; refine State.kept_have (q := kq) v6 ?_ (fun hs => ?_)
  subst v6; with_reducible refine State.updProgram_kept ?_; with_reducible assumption; intro v8; clear_value v8 v6
  with_reducible refine State.wr_kept (State.kept_upd ?_); with_reducible assumption

theorem State.updFresh_kept {kq : List Instr} {s : State} {m : TamecMan} {bs : List Nat} (hkq : State.Kept kq s) :
    State.Kept kq (State.updFresh s m bs) := by
  unfold State.updFresh; lift_lets -underBinder; intro v6; refine State.kept_have (q := kq) v6 ?_ (fun hs => ?_)
  subst v6; with_reducible refine State.updProgram_kept ?_; with_reducible assumption; intro v8; clear_value v8
  intro v9; refine State.kept_have (q := kq) v9 ?_ (fun hs => ?_); clear_value v6; subst v9
  with_reducible refine State.kept_upd ?_; with_reducible assumption; clear_value v6 v9
  with_reducible refine State.wr_kept (State.wr_kept ?_); with_reducible assumption

theorem State.updFull_kept {kq : List Instr} {s : State} (hkq : State.Kept kq s) : State.Kept kq (State.updFull s) :=
    by
  unfold State.updFull; refine State.kept_ite ?_ ?_; with_reducible refine State.updGo_kept ?_
  with_reducible assumption; with_reducible assumption

theorem State.updErase_kept {kq : List Instr} {s : State} (hkq : State.Kept kq s) : State.Kept kq (State.updErase s)
    := by
  unfold State.updErase; lift_lets -underBinder; intro v4; clear_value v4; intro v5; clear_value v5
  with_reducible refine State.kept_upd ?_; with_reducible assumption

theorem State.updBegin_kept {kq : List Instr} {s : State} {src : Nat} {node : Nat} {bs : List Nat} {sigs : Bool ×
    Bool} (hkq : State.Kept kq s) : State.Kept kq (State.updBegin s src node bs sigs).2.2 := by
  unfold State.updBegin; lift_lets -underBinder; intro v8; clear_value v8; intro v9; clear_value v9; intro v10
  clear_value v10; refine State.kept_ite2 ?_ ?_; dsimp only; with_reducible assumption; refine State.kept_ite2 ?_ ?_
  dsimp only; with_reducible assumption; split; dsimp only; refine State.kept_ite ?_ ?_
  with_reducible refine State.tamper_kept ?_; with_reducible assumption; with_reducible assumption
  refine State.kept_ite2 ?_ ?_; lift_lets -underBinder; intro v15
  refine State.kept_have (q := kq) v15 ?_ (fun hs => ?_); subst v15
  with_reducible refine State.updTouch_kept (State.wr_kept ?_); with_reducible assumption; intro v17
  refine State.kept_have (q := kq) v17 ?_ (fun hs => ?_); clear_value v15; subst v17; refine State.kept_ite ?_ ?_
  with_reducible assumption; with_reducible refine State.updFresh_kept ?_; with_reducible assumption; intro v19
  refine State.kept_have (q := kq) v19 ?_ (fun hs => ?_); clear_value v15 v17; subst v19
  with_reducible refine State.updGo_kept ?_; with_reducible assumption; intro v21; clear_value v21 v15 v17 v19
  dsimp only; with_reducible refine State.updFull_kept ?_; with_reducible assumption; refine State.kept_ite2 ?_ ?_
  dsimp only; with_reducible refine State.updTouch_kept ?_; with_reducible assumption; refine State.kept_ite2 ?_ ?_
  dsimp only; with_reducible refine State.updTouch_kept (State.updFresh_kept ?_); with_reducible assumption; dsimp only
  with_reducible assumption

theorem State.updBlock_kept {kq : List Instr} {s : State} {src : Nat} {b : Nat} {data : List Nat} (hkq : State.Kept kq
    s) : State.Kept kq (State.updBlock s src b data).2 := by
  unfold State.updBlock; split; dsimp only; with_reducible assumption; refine State.kept_ite1 ?_ ?_; dsimp only
  with_reducible assumption; refine State.kept_ite1 ?_ ?_; dsimp only; with_reducible assumption
  refine State.kept_ite1 ?_ ?_; dsimp only; with_reducible assumption; refine State.kept_ite1 ?_ ?_; dsimp only
  with_reducible assumption; refine State.kept_ite1 ?_ ?_; lift_lets -underBinder; intro v12
  refine State.kept_have (q := kq) v12 ?_ (fun hs => ?_); subst v12; with_reducible refine State.updMark_kept ?_
  with_reducible assumption; intro v14; clear_value v14; intro v15
  refine State.kept_have (q := kq) v15 ?_ (fun hs => ?_); clear_value v12; subst v15
  with_reducible refine State.kept_upd ?_; with_reducible assumption; intro v17; clear_value v17 v12 v15
  refine State.kept_ite1 ?_ ?_; dsimp only; with_reducible refine State.raise_kept (State.wr_kept ?_)
  with_reducible assumption; dsimp only; with_reducible assumption; refine State.kept_ite1 ?_ ?_; dsimp only
  with_reducible assumption; refine State.kept_ite1 ?_ ?_; dsimp only; with_reducible refine State.raise_kept ?_
  with_reducible assumption; dsimp only; with_reducible refine State.updMark_kept ?_; with_reducible assumption

theorem State.updBlocks_kept {kq : List Instr} {src : Nat} :
    ∀ {b : Nat} {l : List (List Nat)} {s : State}, State.Kept kq s → State.Kept kq (State.updBlocks src b l s).2.2
  | _, [], _, h => h
  | b, data :: r, s, h => by
    have hb := State.updBlock_kept (src := src) (b := b) (data := data) h
    simp only [State.updBlocks]
    split
    · exact State.updBlocks_kept hb
    · exact hb

theorem State.updReceive_kept {kq : List Instr} {s : State} {src : Nat} {first : Nat} {blocks : List (List Nat)} (hkq
    : State.Kept kq s) : State.Kept kq (State.updReceive s src first blocks).2.2 := by
  unfold State.updReceive; lift_lets -underBinder; intro v7; clear_value v7; refine State.kept_ite2 ?_ ?_; dsimp only
  with_reducible assumption; refine State.kept_ite2 ?_ ?_; dsimp only; with_reducible assumption; split
  lift_lets -underBinder; intro v15; refine State.kept_have (q := kq) v15 ?_ (fun hs => ?_); subst v15
  refine State.kept_ite ?_ ?_; with_reducible refine State.updTouch_kept ?_
  refine State.kept_thd (by with_reducible assumption) ?_; with_reducible refine State.updBlocks_kept ?_
  with_reducible assumption; refine State.kept_thd (by with_reducible assumption) ?_
  with_reducible refine State.updBlocks_kept ?_; with_reducible assumption; clear_value v15; dsimp only
  with_reducible refine State.updFull_kept ?_; with_reducible assumption

theorem State.updVerified_kept {kq : List Instr} {s : State} {readOk : Bool} (hkq : State.Kept kq s) : State.Kept kq
    (State.updVerified s readOk) := by
  unfold State.updVerified; split; lift_lets -underBinder; intro v14; clear_value v14; intro v15; clear_value v15; split
  refine State.kept_ite ?_ ?_; lift_lets -underBinder; intro v25; clear_value v25; intro v26
  refine State.kept_have (q := kq) v26 ?_ (fun hs => ?_); subst v26; with_reducible refine State.kept_upd ?_
  with_reducible assumption; clear_value v26; with_reducible refine State.raise_kept (State.updGo_kept ?_)
  with_reducible assumption; with_reducible refine State.updRelease_kept (State.updGo_kept (State.updForget_kept ?_))
  with_reducible assumption; with_reducible refine State.updRelease_kept (State.updGo_kept (State.updForget_kept ?_))
  with_reducible assumption; with_reducible assumption

theorem State.updRequest_kept {kq : List Instr} {s : State} {node : Nat} (hkq : State.Kept kq s) : State.Kept kq
    (State.updRequest s node) := by
  unfold State.updRequest; split; lift_lets -underBinder; intro v10; clear_value v10; refine State.kept_ite ?_ ?_
  with_reducible assumption; with_reducible refine State.send_kept ?_; with_reducible assumption
  with_reducible assumption

theorem State.updOffer_kept {kq : List Instr} {s : State} {node : Nat} {digest : Nat} {gen : Nat} (hkq : State.Kept kq
    s) : State.Kept kq (State.updOffer s node digest gen) := by
  unfold State.updOffer; refine State.kept_ite ?_ ?_; refine State.kept_ite ?_ ?_
  with_reducible refine State.send_kept (State.kept_upd ?_); with_reducible assumption; with_reducible assumption
  refine State.kept_ite ?_ ?_; with_reducible refine State.updRequest_kept ?_; with_reducible assumption
  with_reducible assumption

theorem State.updBlockRx_kept {kq : List Instr} {s : State} {node : Nat} {prefix_ : Nat} {b : Nat} {data : List Nat}
    {sigs : Bool × Bool} (hkq : State.Kept kq s) : State.Kept kq (State.updBlockRx s node prefix_ b data sigs) := by
  unfold State.updBlockRx; split; refine State.kept_ite ?_ ?_; with_reducible assumption; lift_lets -underBinder
  intro v23; clear_value v23; intro v24; refine State.kept_have (q := kq) v24 ?_ (fun hs => ?_); subst v24
  with_reducible refine State.kept_upd ?_; with_reducible assumption; clear_value v24; split
  refine State.kept_ite ?_ ?_; with_reducible refine State.updRequest_kept ?_
  refine State.kept_thd (by with_reducible assumption) ?_; with_reducible refine State.updBegin_kept ?_
  with_reducible assumption; refine State.kept_thd (by with_reducible assumption) ?_
  with_reducible refine State.updBegin_kept ?_; with_reducible assumption; refine State.kept_ite ?_ ?_
  with_reducible refine State.updReceive_kept ?_; with_reducible assumption; with_reducible assumption
  with_reducible assumption

theorem State.ptrWrite_kept {kq : List Instr} {s : State} (hkq : State.Kept kq s) : State.Kept kq (State.ptrWrite s)
    := by
  unfold State.ptrWrite; lift_lets -underBinder; intro v4; refine State.kept_have (q := kq) v4 ?_ (fun hs => ?_)
  subst v4; with_reducible refine State.wr_kept ?_; with_reducible assumption; intro v6; clear_value v6; intro v7
  clear_value v7 v4; with_reducible refine State.kept_upd ?_; with_reducible assumption

theorem State.ptrLoad_kept {kq : List Instr} {s : State} (hkq : State.Kept kq s) : State.Kept kq (State.ptrLoad s) :=
    by
  unfold State.ptrLoad; split; with_reducible assumption; lift_lets -underBinder; intro v8; clear_value v8; intro v9
  refine State.kept_have (q := kq) v9 ?_ (fun hs => ?_); subst v9; with_reducible refine State.kept_upd ?_
  with_reducible assumption; clear_value v9; refine State.kept_forEach (fun x s h => ?_) _ _ ?_
  with_reducible refine State.wr_kept ?_; with_reducible assumption; with_reducible assumption

theorem State.forceOutlets_kept {kq : List Instr} {s : State} {x : Ctx} (hkq : State.Kept kq s) : State.Kept kq
    (State.forceOutlets s x) := by
  unfold State.forceOutlets; refine State.kept_forEach (fun x s h => ?_) _ _ ?_
  with_reducible refine State.disableSteps_kept ?_; with_reducible assumption; with_reducible assumption

theorem State.unforce_kept {kq : List Instr} {s : State} (hkq : State.Kept kq s) : State.Kept kq (State.unforce s) :=
    by
  unfold State.unforce; with_reducible refine State.kept_upd ?_; with_reducible assumption

theorem State.healthNote_kept {kq : List Instr} {s : State} (hkq : State.Kept kq s) : State.Kept kq (State.healthNote
    s) := by
  unfold State.healthNote; refine State.kept_ite ?_ ?_; with_reducible assumption; lift_lets -underBinder; intro v4
  clear_value v4; intro v5; clear_value v5; with_reducible refine State.kept_upd ?_; with_reducible assumption

theorem State.updConfirm_kept {kq : List Instr} {s : State} {auto : Bool} (hkq : State.Kept kq s) : State.Kept kq
    (State.updConfirm s auto) := by
  unfold State.updConfirm; lift_lets -underBinder; intro v5; clear_value v5; intro v6
  refine State.kept_have (q := kq) v6 ?_ (fun hs => ?_); subst v6
  with_reducible refine State.ptrWrite_kept (State.wr_kept (State.wr_kept ?_)); with_reducible assumption; intro v8
  clear_value v8; intro v9; refine State.kept_have (q := kq) v9 ?_ (fun hs => ?_); clear_value v6; subst v9
  with_reducible refine State.kept_upd ?_; with_reducible assumption; intro v11
  refine State.kept_have (q := kq) v11 ?_ (fun hs => ?_); clear_value v6 v9; subst v11
  with_reducible refine State.raise_kept ?_; with_reducible assumption; clear_value v6 v9 v11
  with_reducible refine State.updGo_kept ?_; with_reducible assumption

theorem State.revertPointer_kept {kq : List Instr} {s : State} {cause : Nat} (hkq : State.Kept kq s) : State.Kept kq
    (State.revertPointer s cause) := by
  unfold State.revertPointer; lift_lets -underBinder; intro v5; clear_value v5; intro v6
  refine State.kept_have (q := kq) v6 ?_ (fun hs => ?_); subst v6; split
  with_reducible refine State.wr_kept (State.kept_upd ?_); with_reducible assumption; with_reducible assumption
  intro v8; clear_value v8; intro v9; refine State.kept_have (q := kq) v9 ?_ (fun hs => ?_); clear_value v6; subst v9
  with_reducible refine State.ptrWrite_kept (State.wr_kept (State.wr_kept (State.wr_kept ?_)))
  with_reducible assumption; intro v11; refine State.kept_have (q := kq) v11 ?_ (fun hs => ?_); clear_value v6 v9
  subst v11; with_reducible refine State.updGo_kept (State.updForget_kept ?_); with_reducible assumption; intro v13
  clear_value v13 v6 v9 v11; with_reducible refine State.kept_upd ?_; with_reducible assumption

theorem State.revertNow_kept {kq : List Instr} {s : State} (hkq : State.Kept kq s) : State.Kept kq (State.revertNow s)
    := by
  unfold State.revertNow; split; refine State.kept_ite ?_ ?_; with_reducible assumption; lift_lets -underBinder
  intro v10; refine State.kept_have (q := kq) v10 ?_ (fun hs => ?_); subst v10
  with_reducible refine State.revertPointer_kept (State.pourZero_kept ?_); with_reducible assumption; clear_value v10
  with_reducible refine State.softRestart_kept (State.finaliseOpt_kept ?_); with_reducible assumption
  with_reducible assumption

theorem State.revertStart_kept {kq : List Instr} {s : State} {cause : Nat} {x : Ctx} {owed : Option Ctx} (hkq :
    State.Kept kq s) : State.Kept kq (State.revertStart s cause x owed) := by
  unfold State.revertStart; with_reducible refine State.revertNow_kept ?_; lift_lets -underBinder; intro v7
  refine State.kept_have (q := kq) v7 ?_ (fun hs => ?_); subst v7; with_reducible refine State.forceOutlets_kept ?_
  with_reducible assumption; intro v9; clear_value v9 v7; with_reducible refine State.kept_upd ?_
  with_reducible assumption

theorem State.activate_kept {kq : List Instr} {s : State} {mode : Nat} {x : Ctx} {owed : Option Ctx} (hkq : State.Kept
    kq s) : State.Kept kq (State.activate s mode x owed) := by
  unfold State.activate; lift_lets -underBinder; intro v7; clear_value v7; intro v8
  refine State.kept_have (q := kq) v8 ?_ (fun hs => ?_); subst v8; with_reducible refine State.kept_upd ?_
  with_reducible assumption; intro v10; refine State.kept_have (q := kq) v10 ?_ (fun hs => ?_); clear_value v8
  subst v10; with_reducible refine State.updGo_kept ?_; with_reducible assumption; clear_value v8 v10
  refine State.kept_ite ?_ ?_; with_reducible refine State.forceOutlets_kept ?_; with_reducible assumption
  with_reducible assumption

theorem State.actEnds_kept {kq : List Instr} {s : State} {status : Nat} (hkq : State.Kept kq s) : State.Kept kq
    (State.actEnds s status) := by
  unfold State.actEnds; split; lift_lets -underBinder; intro v12; clear_value v12; intro v13
  refine State.kept_have (q := kq) v13 ?_ (fun hs => ?_); subst v13; with_reducible refine State.kept_upd ?_
  with_reducible assumption; intro v15; refine State.kept_have (q := kq) v15 ?_ (fun hs => ?_); clear_value v13
  subst v15; with_reducible refine State.finaliseOpt_kept ?_; with_reducible assumption; clear_value v13 v15
  refine State.kept_ite ?_ ?_; with_reducible refine State.unforce_kept ?_; with_reducible assumption
  with_reducible assumption; with_reducible assumption

theorem State.updFlip_kept {kq : List Instr} {s : State} {x : Option Ctx} (hkq : State.Kept kq s) : State.Kept kq
    (State.updFlip s x) := by
  unfold State.updFlip; split; with_reducible assumption; lift_lets -underBinder; intro v10; clear_value v10; intro v11
  refine State.kept_have (q := kq) v11 ?_ (fun hs => ?_); subst v11; refine State.kept_ite ?_ ?_
  with_reducible assumption; with_reducible refine State.pourZero_kept ?_; with_reducible assumption; intro v13
  clear_value v13; intro v14; clear_value v14; intro v15; refine State.kept_have (q := kq) v15 ?_ (fun hs => ?_)
  clear_value v11; subst v15; with_reducible refine State.kept_upd ?_; with_reducible assumption; intro v17
  refine State.kept_have (q := kq) v17 ?_ (fun hs => ?_); clear_value v11 v15; subst v17
  with_reducible refine State.wr_kept (State.wr_kept (State.wr_kept ?_)); with_reducible assumption; intro v19
  refine State.kept_have (q := kq) v19 ?_ (fun hs => ?_); clear_value v11 v15 v17; subst v19
  with_reducible refine State.ptrWrite_kept (State.wr_kept (State.wr_kept ?_)); with_reducible assumption; intro v21
  refine State.kept_have (q := kq) v21 ?_ (fun hs => ?_); clear_value v11 v15 v17 v19; subst v21
  with_reducible refine State.updForget_kept (State.updRelease_kept (State.updGo_kept ?_)); with_reducible assumption
  clear_value v11 v15 v17 v19 v21; with_reducible refine State.softRestart_kept (State.finaliseOpt_kept ?_)
  with_reducible assumption

theorem State.updAbort_kept {kq : List Instr} {s : State} {src : Nat} {g : Option OwnerSig} (hkq : State.Kept kq s) :
    State.Kept kq (State.updAbort s src g).2.2 := by
  unfold State.updAbort; lift_lets -underBinder; intro v6; clear_value v6; intro v7; refine State.kept_ite2 ?_ ?_
  dsimp only; with_reducible assumption; refine State.kept_ite2 ?_ ?_; dsimp only; subst v7; beta_reduce
  with_reducible refine State.updRelease_kept (State.updGo_kept (State.updForget_kept (State.updErase_kept ?_)))
  with_reducible refine State.actEnds_kept ?_; with_reducible assumption; split; dsimp only; with_reducible assumption
  split; dsimp only; with_reducible assumption; dsimp only; subst v7; beta_reduce
  with_reducible refine State.updRelease_kept (State.updGo_kept (State.updForget_kept (State.updErase_kept ?_)))
  with_reducible refine State.actEnds_kept (State.ownerTook_kept ?_); with_reducible assumption

theorem State.onUpd_kept {kq : List Instr} {s : State} {t : Nat} {f : State → State}
    (hf : ∀ s, State.Kept kq s → State.Kept kq (f s)) (h : State.Kept kq s) : State.Kept kq (s.onUpd t f) := by
  have ha := State.advance_kept (t := t) h
  simp only [State.onUpd]
  split
  · exact hf _ ha
  · exact ha

theorem State.svcReply_kept {kq : List Instr} {s : State} {typ : Nat} {status : Nat} (hkq : State.Kept kq s) :
    State.Kept kq (State.svcReply s typ status) := by
  unfold State.svcReply; with_reducible refine State.kept_upd ?_; with_reducible assumption

theorem State.hostSource_kept {kq : List Instr} {s : State} {x : Ctx} {f : State → State} (hkq : State.Kept kq s) (hf
    : ∀ s, State.Kept kq s → State.Kept kq (f s)) : State.Kept kq (State.hostSource s x f) := by
  unfold State.hostSource; refine State.kept_ite ?_ ?_; with_reducible refine State.complete_kept ?_
  with_reducible assumption; refine hf _ ?_; with_reducible assumption

theorem execUpdBegin_kept {kq : List Instr} {x : Ctx} {man : List Byte} {sigs : Bool × Bool} {s : State} (hkq :
    State.Kept kq s) : OutKept kq (execUpdBegin x man sigs s) := by
  unfold execUpdBegin; refine State.kept_next ?_; with_reducible refine State.command_kept ?_ ?_
  with_reducible assumption; intro _ _; with_reducible refine State.hostSource_kept ?_ ?_; with_reducible assumption
  intro _ _; split; with_reducible refine State.complete_kept ?_
  refine State.kept_thd (by with_reducible assumption) ?_; with_reducible refine State.updBegin_kept ?_
  with_reducible assumption

theorem execUpdBlock_kept {kq : List Instr} {x : Ctx} {first : Nat} {blocks : List (List Byte)} {s : State} (hkq :
    State.Kept kq s) : OutKept kq (execUpdBlock x first blocks s) := by
  unfold execUpdBlock; refine State.kept_next ?_; with_reducible refine State.command_kept ?_ ?_
  with_reducible assumption; intro _ _; with_reducible refine State.hostSource_kept ?_ ?_; with_reducible assumption
  intro _ _; split; with_reducible refine State.complete_kept ?_
  refine State.kept_thd (by with_reducible assumption) ?_; with_reducible refine State.updReceive_kept ?_
  with_reducible assumption

theorem execUpdStatus_kept {kq : List Instr} {x : Ctx} {first : Nat} {s : State} (hkq : State.Kept kq s) : OutKept kq
    (execUpdStatus x first s) := by
  unfold execUpdStatus; refine State.kept_next ?_; with_reducible refine State.command_kept ?_ ?_
  with_reducible assumption; intro _ _; lift_lets -underBinder; intro v8
  refine State.kept_have (q := kq) v8 ?_ (fun hs => ?_); subst v8; with_reducible refine State.updTouch_kept ?_
  with_reducible assumption; clear_value v8; with_reducible refine State.complete_kept (State.giveBuffer_kept ?_)
  with_reducible assumption

theorem execUpdActivate_kept {kq : List Instr} {x : Ctx} {mode : Nat} {s : State} (hkq : State.Kept kq s) : OutKept kq
    (execUpdActivate x mode s) := by
  unfold execUpdActivate; refine State.kept_next ?_; with_reducible refine State.command_kept ?_ ?_
  with_reducible assumption; intro _ _; split; with_reducible refine State.complete_kept ?_; with_reducible assumption
  with_reducible refine State.activate_kept (State.complete_kept (State.updTouch_kept ?_)); with_reducible assumption

theorem execUpdConfirm_kept {kq : List Instr} {x : Ctx} {s : State} (hkq : State.Kept kq s) : OutKept kq
    (execUpdConfirm x s) := by
  unfold execUpdConfirm; refine State.kept_next ?_; with_reducible refine State.command_kept ?_ ?_
  with_reducible assumption; intro _ _; refine State.kept_ite ?_ ?_; with_reducible refine State.complete_kept ?_
  with_reducible assumption; refine State.kept_ite ?_ ?_; with_reducible refine State.complete_kept ?_
  with_reducible assumption; with_reducible refine State.complete_kept (State.updConfirm_kept ?_)
  with_reducible assumption

theorem execUpdRevert_kept {kq : List Instr} {x : Ctx} {s : State} (hkq : State.Kept kq s) : OutKept kq (execUpdRevert
    x s) := by
  unfold execUpdRevert; refine State.kept_next ?_; with_reducible refine State.command_kept ?_ ?_
  with_reducible assumption; intro _ _; refine State.kept_ite ?_ ?_; with_reducible refine State.complete_kept ?_
  with_reducible assumption; with_reducible refine State.revertStart_kept (State.complete_kept ?_)
  with_reducible assumption

theorem execUpdAbort_kept {kq : List Instr} {x : Ctx} {sig : Option OwnerSig} {s : State} (hkq : State.Kept kq s) :
    OutKept kq (execUpdAbort x sig s) := by
  unfold execUpdAbort; refine State.kept_next ?_; with_reducible refine State.command_kept ?_ ?_
  with_reducible assumption; intro _ _; split; with_reducible refine State.complete_kept ?_
  refine State.kept_thd (by with_reducible assumption) ?_; with_reducible refine State.updAbort_kept ?_
  with_reducible assumption

theorem execUpdPolicy_kept {kq : List Instr} {x : Ctx} {cosign : Nat} {sig : OwnerSig} {s : State} (hkq : State.Kept
    kq s) : OutKept kq (execUpdPolicy x cosign sig s) := by
  unfold execUpdPolicy; refine State.kept_next ?_; with_reducible refine State.command_kept ?_ ?_
  with_reducible assumption; intro _ _; with_reducible refine State.owned_kept ?_ ?_; with_reducible assumption
  intro _ _; with_reducible refine State.complete_kept (State.wr_kept ?_); with_reducible assumption

theorem execUpdVerifyDone_kept {kq : List Instr} {t : Nat} {readOk : Bool} {s : State} (hkq : State.Kept kq s) :
    OutKept kq (execUpdVerifyDone t readOk s) := by
  unfold execUpdVerifyDone; refine State.kept_next ?_; with_reducible refine State.onUpd_kept ?_ ?_; intro _ _
  with_reducible refine State.updVerified_kept ?_; with_reducible assumption; with_reducible assumption

theorem execUpdLockIdle_kept {kq : List Instr} {t : Nat} {s : State} (hkq : State.Kept kq s) : OutKept kq
    (execUpdLockIdle t s) := by
  unfold execUpdLockIdle; refine State.kept_next ?_; with_reducible refine State.onUpd_kept ?_ ?_; intro _ _
  refine State.kept_ite ?_ ?_; with_reducible refine State.updRelease_kept (State.updGo_kept ?_)
  with_reducible assumption; with_reducible assumption; with_reducible assumption

theorem execUpdActivationFlip_kept {kq : List Instr} {t : Nat} {s : State} (hkq : State.Kept kq s) : OutKept kq
    (execUpdActivationFlip t s) := by
  unfold execUpdActivationFlip; refine State.kept_next ?_; with_reducible refine State.onUpd_kept ?_ ?_; intro _ _
  split; refine State.kept_ite ?_ ?_; with_reducible refine State.updFlip_kept ?_; with_reducible assumption
  with_reducible assumption; with_reducible assumption; with_reducible assumption

theorem execUpdActivateTimeout_kept {kq : List Instr} {t : Nat} {s : State} (hkq : State.Kept kq s) : OutKept kq
    (execUpdActivateTimeout t s) := by
  unfold execUpdActivateTimeout; refine State.kept_next ?_; with_reducible refine State.onUpd_kept ?_ ?_; intro _ _
  split; refine State.kept_ite ?_ ?_; with_reducible refine State.actEnds_kept (State.updGo_kept ?_)
  with_reducible assumption; with_reducible assumption; with_reducible assumption; with_reducible assumption

theorem execTrialTimeSave_kept {kq : List Instr} {t : Nat} {s : State} (hkq : State.Kept kq s) : OutKept kq
    (execTrialTimeSave t s) := by
  unfold execTrialTimeSave; refine State.kept_next ?_; with_reducible refine onEvent_kept ?_ ?_; intro _ _
  refine State.kept_ite ?_ ?_; lift_lets -underBinder; intro v7; clear_value v7; intro v8
  refine State.kept_have (q := kq) v8 ?_ (fun hs => ?_); subst v8; with_reducible refine State.kept_upd ?_
  with_reducible assumption; clear_value v8
  with_reducible refine State.ptrWrite_kept (State.wr_kept (State.healthNote_kept ?_)); with_reducible assumption
  with_reducible assumption; with_reducible assumption

theorem execUpdAutoConfirm_kept {kq : List Instr} {t : Nat} {s : State} (hkq : State.Kept kq s) : OutKept kq
    (execUpdAutoConfirm t s) := by
  unfold execUpdAutoConfirm; refine State.kept_next ?_; with_reducible refine onEvent_kept ?_ ?_; intro _ _
  lift_lets -underBinder; intro v7; refine State.kept_have (q := kq) v7 ?_ (fun hs => ?_); subst v7
  with_reducible refine State.healthNote_kept ?_; with_reducible assumption; clear_value v7; refine State.kept_ite ?_ ?_
  with_reducible refine State.updConfirm_kept ?_; with_reducible assumption; with_reducible assumption
  with_reducible assumption

theorem execTrialTimeout_kept {kq : List Instr} {t : Nat} {s : State} (hkq : State.Kept kq s) : OutKept kq
    (execTrialTimeout t s) := by
  unfold execTrialTimeout; refine State.kept_next ?_; with_reducible refine onEvent_kept ?_ ?_; intro _ _
  refine State.kept_ite ?_ ?_; with_reducible refine State.revertStart_kept ?_; with_reducible assumption
  with_reducible assumption; with_reducible assumption

theorem execSvcBegin_kept {kq : List Instr} {t : Nat} {man : List Byte} {sigs : Bool × Bool} {s : State} (hkq :
    State.Kept kq s) : OutKept kq (execSvcBegin t man sigs s) := by
  unfold execSvcBegin; refine State.kept_next ?_; with_reducible refine State.onUpd_kept ?_ ?_; intro _ _; split
  with_reducible refine State.svcReply_kept ?_; refine State.kept_thd (by with_reducible assumption) ?_
  with_reducible refine State.updBegin_kept ?_; with_reducible assumption; with_reducible assumption

theorem execSvcBlock_kept {kq : List Instr} {t : Nat} {block : Nat} {data : List Byte} {s : State} (hkq : State.Kept
    kq s) : OutKept kq (execSvcBlock t block data s) := by
  unfold execSvcBlock; refine State.kept_next ?_; with_reducible refine State.onUpd_kept ?_ ?_; intro _ _; split
  with_reducible refine State.svcReply_kept ?_; refine State.kept_thd (by with_reducible assumption) ?_
  with_reducible refine State.updReceive_kept ?_; with_reducible assumption; with_reducible assumption

theorem execSvcActivate_kept {kq : List Instr} {t : Nat} {mode : Nat} {s : State} (hkq : State.Kept kq s) : OutKept kq
    (execSvcActivate t mode s) := by
  unfold execSvcActivate; refine State.kept_next ?_; with_reducible refine State.onUpd_kept ?_ ?_; intro _ _; split
  with_reducible refine State.svcReply_kept ?_; with_reducible assumption
  with_reducible refine State.activate_kept (State.svcReply_kept (State.updTouch_kept ?_)); with_reducible assumption
  with_reducible assumption

theorem execSvcStatus_kept {kq : List Instr} {t : Nat} {s : State} (hkq : State.Kept kq s) : OutKept kq (execSvcStatus
    t s) := by
  unfold execSvcStatus; refine State.kept_next ?_; with_reducible refine State.onUpd_kept ?_ ?_; intro _ _
  with_reducible refine State.svcReply_kept (State.updTouch_kept ?_); with_reducible assumption
  with_reducible assumption

theorem execSvcAbort_kept {kq : List Instr} {t : Nat} {sig : Option OwnerSig} {s : State} (hkq : State.Kept kq s) :
    OutKept kq (execSvcAbort t sig s) := by
  unfold execSvcAbort; refine State.kept_next ?_; with_reducible refine State.onUpd_kept ?_ ?_; intro _ _; split
  with_reducible refine State.svcReply_kept ?_; refine State.kept_thd (by with_reducible assumption) ?_
  with_reducible refine State.updAbort_kept ?_; with_reducible assumption; with_reducible assumption

theorem execSvcConfirm_kept {kq : List Instr} {t : Nat} {s : State} (hkq : State.Kept kq s) : OutKept kq
    (execSvcConfirm t s) := by
  unfold execSvcConfirm; refine State.kept_next ?_; with_reducible refine State.onUpd_kept ?_ ?_; intro _ _
  refine State.kept_ite ?_ ?_; with_reducible refine State.svcReply_kept ?_; with_reducible assumption
  refine State.kept_ite ?_ ?_; with_reducible refine State.svcReply_kept ?_; with_reducible assumption
  with_reducible refine State.svcReply_kept (State.updConfirm_kept ?_); with_reducible assumption
  with_reducible assumption

theorem execSvcRevert_kept {kq : List Instr} {t : Nat} {s : State} (hkq : State.Kept kq s) : OutKept kq (execSvcRevert
    t s) := by
  unfold execSvcRevert; refine State.kept_next ?_; with_reducible refine State.onUpd_kept ?_ ?_; intro _ _
  refine State.kept_ite ?_ ?_; with_reducible refine State.svcReply_kept ?_; with_reducible assumption
  with_reducible refine State.revertStart_kept (State.svcReply_kept ?_); with_reducible assumption
  with_reducible assumption

theorem execSvcBadFrame_kept {kq : List Instr} {t : Nat} {s : State} (hkq : State.Kept kq s) : OutKept kq
    (execSvcBadFrame t s) := by
  unfold execSvcBadFrame; refine State.kept_next ?_; with_reducible refine State.advance_kept ?_
  with_reducible assumption

theorem State.noteServed_kept {kq : List Instr} {s : State} {x : Served} (hkq : State.Kept kq s) : State.Kept kq
    (State.noteServed s x) := by
  unfold State.noteServed; with_reducible refine State.kept_upd ?_; with_reducible assumption

theorem State.serveXing_kept {kq : List Instr} {s : State} {target : Nat} {from_ : Nat} {x : Xing} (hkq : State.Kept
    kq s) : State.Kept kq (State.serveXing s target from_ x).2 := by
  unfold State.serveXing; lift_lets -underBinder; intro v7; clear_value v7; refine State.kept_ite1 ?_ ?_; dsimp only
  with_reducible refine State.noteServed_kept ?_; with_reducible assumption; refine State.kept_ite1 ?_ ?_; dsimp only
  with_reducible refine State.noteServed_kept (State.partitionDenied_kept ?_); with_reducible assumption
  refine State.kept_ite1 ?_ ?_; dsimp only; with_reducible refine State.noteServed_kept ?_; with_reducible assumption
  split; lift_lets -underBinder; intro v14; clear_value v14; intro v15; clear_value v15; intro v16; clear_value v16
  dsimp only; with_reducible refine State.noteServed_kept (State.wr_kept ?_)
  refine State.kept_snd (by with_reducible assumption) ?_; with_reducible refine State.takeFree_kept ?_
  with_reducible assumption

theorem State.linkCommand_kept {kq : List Instr} {s : State} {dst : Nat} {cmd : Option (Nat × Nat)} (hkq : State.Kept
    kq s) : State.Kept kq (State.linkCommand s dst cmd) := by
  unfold State.linkCommand; split; with_reducible assumption; split; refine State.kept_ite ?_ ?_
  with_reducible assumption; with_reducible refine State.complete_kept ?_; with_reducible assumption
  with_reducible assumption

theorem State.linkTimeout_kept {kq : List Instr} {s : State} {src : Nat} {dst : Nat} {ini : Ini} {cmd : Option (Nat ×
    Nat)} (hkq : State.Kept kq s) : State.Kept kq (State.linkTimeout s src dst ini cmd) := by
  unfold State.linkTimeout; lift_lets -underBinder; intro v8; refine State.kept_have (q := kq) v8 ?_ (fun hs => ?_)
  subst v8; with_reducible refine State.alert_kept (State.incSat_kept ?_); with_reducible assumption; intro v10
  refine State.kept_have (q := kq) v10 ?_ (fun hs => ?_); clear_value v8; subst v10
  with_reducible refine State.noteServed_kept ?_; with_reducible assumption; intro v12; clear_value v12; intro v13
  refine State.kept_have (q := kq) v13 ?_ (fun hs => ?_); clear_value v8 v10; subst v13
  with_reducible refine State.kept_upd ?_; with_reducible assumption; intro v15
  refine State.kept_have (q := kq) v15 ?_ (fun hs => ?_); clear_value v8 v10 v13; subst v15; refine State.kept_ite ?_ ?_
  with_reducible assumption; with_reducible refine State.raise_kept ?_; with_reducible assumption
  clear_value v8 v10 v13 v15; with_reducible refine State.linkCommand_kept (State.notify_kept ?_)
  with_reducible assumption

theorem State.freqEdge_kept {kq : List Instr} {s : State} (hkq : State.Kept kq s) : State.Kept kq (State.freqEdge s)
    := by
  unfold State.freqEdge; lift_lets -underBinder; intro v4; clear_value v4; intro v5
  refine State.kept_have (q := kq) v5 ?_ (fun hs => ?_); subst v5; refine State.kept_forEach (fun x s h => ?_) _ _ ?_
  lift_lets -underBinder; intro v8; clear_value v8; intro v9; refine State.kept_have (q := kq) v9 ?_ (fun hs => ?_)
  subst v9; with_reducible refine State.wr_kept ?_; with_reducible assumption; clear_value v9
  refine State.kept_ite ?_ ?_; with_reducible assumption; refine State.kept_ite ?_ ?_
  with_reducible refine State.wr_kept ?_; with_reducible assumption; with_reducible assumption
  with_reducible assumption; clear_value v5; refine State.kept_forEach (fun x s h => ?_) _ _ ?_
  with_reducible refine State.modMp_kept ?_; with_reducible assumption; with_reducible assumption

theorem State.secondEdge_kept {kq : List Instr} {s : State} (hkq : State.Kept kq s) : State.Kept kq (State.secondEdge
    s) := by
  unfold State.secondEdge; lift_lets -underBinder; intro v4; clear_value v4; intro v5
  refine State.kept_have (q := kq) v5 ?_ (fun hs => ?_); subst v5; with_reducible refine State.wr_kept ?_
  with_reducible assumption; clear_value v5
  with_reducible refine State.billEdge_kept (State.freqEdge_kept (State.wr_kept ?_)); with_reducible assumption

theorem State.hostCloses_kept {kq : List Instr} {s : State} {n : Nat} (hkq : State.Kept kq s) : State.Kept kq
    (State.hostCloses s n) := by
  unfold State.hostCloses; lift_lets -underBinder; intro v5; clear_value v5; intro v6
  refine State.kept_have (q := kq) v6 ?_ (fun hs => ?_); subst v6; with_reducible refine State.modOutlet_kept ?_
  with_reducible assumption; intro v8; clear_value v6; refine State.kept_ite ?_ ?_; with_reducible assumption; split
  subst v8; beta_reduce; refine State.kept_forEach (fun x s h => ?_) _ _ ?_
  with_reducible refine State.complete_kept ?_; with_reducible assumption; with_reducible refine State.raise_kept ?_
  with_reducible assumption; split; subst v8; beta_reduce; refine State.kept_forEach (fun x s h => ?_) _ _ ?_
  with_reducible refine State.complete_kept ?_; with_reducible assumption
  refine State.kept_fst (by with_reducible assumption) ?_; with_reducible refine State.applyClose_kept ?_
  with_reducible assumption

theorem State.checkOutlet_kept {kq : List Instr} {s : State} {n : Nat} (hkq : State.Kept kq s) : State.Kept kq
    (State.checkOutlet s n) := by
  unfold State.checkOutlet; lift_lets -underBinder; intro v5; refine State.kept_have (q := kq) v5 ?_ (fun hs => ?_)
  subst v5; with_reducible refine State.mstopCheck_kept (State.hostCloses_kept ?_); with_reducible assumption
  clear_value v5; split; lift_lets -underBinder; intro v13; refine State.kept_have (q := kq) v13 ?_ (fun hs => ?_)
  subst v13; with_reducible refine State.shuntKeep_kept ?_; refine State.kept_ite ?_ ?_
  with_reducible refine State.stopAny_kept ?_; refine State.kept_fst (by with_reducible assumption) ?_
  with_reducible refine State.overcurrentCheck_kept ?_; with_reducible assumption
  refine State.kept_fst (by with_reducible assumption) ?_; with_reducible refine State.overcurrentCheck_kept ?_
  with_reducible assumption; intro v15; refine State.kept_have (q := kq) v15 ?_ (fun hs => ?_); clear_value v13
  subst v15; refine State.kept_ite ?_ ?_; with_reducible assumption
  with_reducible refine State.prewarnNote_kept (State.rcmUpdate_kept ?_); with_reducible assumption; intro v17
  clear_value v17 v13 v15; refine State.kept_ite ?_ ?_; with_reducible refine State.modOs_kept ?_
  with_reducible assumption; with_reducible assumption

theorem State.checkSlot_kept {kq : List Instr} {s : State} {k : Nat} (hkq : State.Kept kq s) : State.Kept kq
    (State.checkSlot s k) := by
  unfold State.checkSlot; lift_lets -underBinder; intro v5; refine State.kept_have (q := kq) v5 ?_ (fun hs => ?_)
  subst v5; with_reducible refine State.consentCheck_kept ?_; with_reducible assumption; clear_value v5
  refine State.kept_ite ?_ ?_; split; with_reducible refine State.abortCask_kept ?_; with_reducible assumption
  with_reducible refine State.commitClose_kept ?_; with_reducible assumption; with_reducible assumption

theorem State.cycleBegin_kept {kq : List Instr} {s : State} (hkq : State.Kept kq s) : State.Kept kq (State.cycleBegin
    s) := by
  unfold State.cycleBegin; lift_lets -underBinder; intro v4; clear_value v4; intro v5; clear_value v5; intro v6
  clear_value v6; intro v7; clear_value v7; intro v8; clear_value v8; intro v9; clear_value v9; intro v10
  refine State.kept_have (q := kq) v10 ?_ (fun hs => ?_); subst v10; with_reducible refine State.kept_upd ?_
  with_reducible assumption; intro v12; clear_value v12; intro v13
  refine State.kept_have (q := kq) v13 ?_ (fun hs => ?_); clear_value v10; subst v13; refine State.kept_ite ?_ ?_
  with_reducible refine State.kept_upd ?_; with_reducible assumption; with_reducible assumption; clear_value v10 v13
  refine State.kept_ite ?_ ?_; with_reducible refine State.refreshSafeOk_kept (State.setFlag_kept ?_)
  with_reducible assumption; with_reducible assumption

theorem State.controlCycle_kept {kq : List Instr} {s : State} {feed : List Feed} (hkq : State.Kept kq s) : State.Kept
    kq (State.controlCycle s feed) := by
  unfold State.controlCycle; lift_lets -underBinder; intro v5; refine State.kept_have (q := kq) v5 ?_ (fun hs => ?_)
  subst v5; with_reducible refine State.cycleBegin_kept (State.meterAll_kept ?_); with_reducible assumption; intro v7
  refine State.kept_have (q := kq) v7 ?_ (fun hs => ?_); clear_value v5; subst v7
  refine State.kept_forEach (fun x s h => ?_) _ _ ?_; with_reducible refine State.checkOutlet_kept ?_
  with_reducible assumption; with_reducible assumption; intro v9; refine State.kept_have (q := kq) v9 ?_ (fun hs => ?_)
  clear_value v5 v7; subst v9; refine State.kept_forEach (fun x s h => ?_) _ _ ?_
  with_reducible refine State.checkSlot_kept ?_; with_reducible assumption; with_reducible assumption; intro v11
  refine State.kept_have (q := kq) v11 ?_ (fun hs => ?_); clear_value v5 v7 v9; subst v11; refine State.kept_ite ?_ ?_
  with_reducible assumption; refine State.kept_forEach (fun x s h => ?_) _ _ ?_
  with_reducible refine State.sessionCycle_kept ?_; with_reducible assumption; with_reducible assumption; intro v13
  refine State.kept_have (q := kq) v13 ?_ (fun hs => ?_); clear_value v5 v7 v9 v11; subst v13
  with_reducible refine State.noteReady_kept (State.takeOverCycle_kept (State.lswSafeOff_kept ?_))
  with_reducible assumption; clear_value v5 v7 v9 v11 v13
  with_reducible refine State.revertNow_kept (State.healthNote_kept ?_); with_reducible assumption

theorem State.passStaged_kept {kq : List Instr} {s : State} {n : Nat} (hkq : State.Kept kq s) : State.Kept kq
    (State.passStaged s n) := by
  unfold State.passStaged; with_reducible refine State.modOutlet_kept ?_; with_reducible assumption

theorem State.stagingDeadline_kept {kq : List Instr} {s : State} {late : Nat} (hkq : State.Kept kq s) : State.Kept kq
    (State.stagingDeadline s late) := by
  unfold State.stagingDeadline; refine State.kept_ite ?_ ?_; with_reducible assumption; lift_lets -underBinder; intro v5
  clear_value v5; intro v6; refine State.kept_have (q := kq) v6 ?_ (fun hs => ?_); subst v6
  with_reducible refine State.kept_upd ?_; with_reducible assumption; intro v8; clear_value v8; intro v9
  refine State.kept_have (q := kq) v9 ?_ (fun hs => ?_); clear_value v6; subst v9
  refine State.kept_forEach (fun x s h => ?_) _ _ ?_; lift_lets -underBinder; intro v12
  refine State.kept_have (q := kq) v12 ?_ (fun hs => ?_); subst v12; with_reducible refine State.passStaged_kept ?_
  with_reducible assumption; intro v14; clear_value v14 v12; with_reducible refine State.kept_upd ?_
  with_reducible assumption; with_reducible assumption; intro v11; clear_value v11; intro v12
  refine State.kept_have (q := kq) v12 ?_ (fun hs => ?_); clear_value v6 v9; subst v12
  with_reducible refine State.kept_upd ?_; with_reducible assumption; intro v14; clear_value v14; intro v15
  clear_value v15; intro v16; refine State.kept_have (q := kq) v16 ?_ (fun hs => ?_); clear_value v6 v9 v12; subst v16
  with_reducible refine State.kept_upd ?_; with_reducible assumption; intro v18
  refine State.kept_have (q := kq) v18 ?_ (fun hs => ?_); clear_value v6 v9 v12 v16; subst v18
  refine State.kept_ite ?_ ?_; with_reducible assumption; with_reducible refine State.raise_kept (State.incSat_kept ?_)
  with_reducible assumption; clear_value v6 v9 v12 v16 v18; refine State.kept_ite ?_ ?_; with_reducible assumption
  refine State.kept_forEach (fun x s h => ?_) _ _ ?_; refine State.kept_ite ?_ ?_; split
  with_reducible refine State.stopSession_kept ?_; refine State.kept_snd (by with_reducible assumption) ?_
  with_reducible refine State.takeFree_kept ?_; with_reducible assumption; with_reducible assumption
  with_reducible assumption

theorem execIslandCrossing_kept {kq : List Instr} {t : Nat} {target : Nat} {gated : Bool} {reqs : List Xing} {s :
    State} (hkq : State.Kept kq s) : OutKept kq (execIslandCrossing t target gated reqs s) := by
  unfold execIslandCrossing; refine State.kept_next ?_; with_reducible refine onCore_kept ?_ ?_; intro _ _
  refine State.kept_ite ?_ ?_; with_reducible assumption; lift_lets -underBinder; intro v10; clear_value v10; intro v11
  refine State.kept_have (q := kq) v11 ?_ (fun hs => ?_); subst v11; with_reducible refine State.kept_upd ?_
  with_reducible assumption; intro v13; refine State.kept_have (q := kq) v13 ?_ (fun hs => ?_); clear_value v11
  subst v13; refine State.kept_ite ?_ ?_; with_reducible refine State.wr_kept ?_; with_reducible assumption
  with_reducible assumption; clear_value v11 v13; refine State.kept_forEach1 (fun x p h => ?_) _ _ ?_
  with_reducible refine State.serveXing_kept ?_; with_reducible assumption; dsimp only; with_reducible assumption
  with_reducible assumption

theorem execLinkTimeout_kept {kq : List Instr} {t : Nat} {src : Nat} {dst : Nat} {ini : Ini} {cmd : Option (Nat ×
    Nat)} {s : State} (hkq : State.Kept kq s) : OutKept kq (execLinkTimeout t src dst ini cmd s) := by
  unfold execLinkTimeout; refine State.kept_next ?_; with_reducible refine onCore_kept ?_ ?_; intro _ _
  refine State.kept_ite ?_ ?_; with_reducible assumption; with_reducible refine State.linkTimeout_kept ?_
  with_reducible assumption; with_reducible assumption

theorem execRtcSecondEdge_kept {kq : List Instr} {t : Nat} {s : State} (hkq : State.Kept kq s) : OutKept kq
    (execRtcSecondEdge t s) := by
  unfold execRtcSecondEdge; refine State.kept_next ?_; with_reducible refine onCore_kept ?_ ?_; intro _ _
  with_reducible refine State.secondEdge_kept ?_; with_reducible assumption; with_reducible assumption

theorem execControlCycleStart_kept {kq : List Instr} {t : Nat} {feed : List Feed} {s : State} (hkq : State.Kept kq s)
    : OutKept kq (execControlCycleStart t feed s) := by
  unfold execControlCycleStart; refine State.kept_next ?_; with_reducible refine onEvent_kept ?_ ?_; intro _ _
  refine State.kept_ite ?_ ?_; with_reducible assumption; with_reducible refine State.controlCycle_kept ?_
  with_reducible assumption; with_reducible assumption

theorem execOutputStagingDeadline_kept {kq : List Instr} {t : Nat} {late : Nat} {s : State} (hkq : State.Kept kq s) :
    OutKept kq (execOutputStagingDeadline t late s) := by
  unfold execOutputStagingDeadline; refine State.kept_next ?_; with_reducible refine onEvent_kept ?_ ?_; intro _ _
  refine State.kept_ite ?_ ?_; with_reducible assumption; with_reducible refine State.stagingDeadline_kept ?_
  with_reducible assumption; with_reducible assumption

theorem execACheckDeadline_kept {kq : List Instr} {t : Nat} {done : Bool} {s : State} (hkq : State.Kept kq s) :
    OutKept kq (execACheckDeadline t done s) := by
  unfold execACheckDeadline; refine State.kept_next ?_; with_reducible refine onEvent_kept ?_ ?_; intro _ _
  refine State.kept_ite ?_ ?_; with_reducible assumption; with_reducible refine State.kept_upd ?_
  with_reducible assumption; with_reducible assumption

theorem State.coilFault_kept {kq : List Instr} {s : State} {k : Nat} {code : Nat} {chan : Nat} (hkq : State.Kept kq s)
    : State.Kept kq (State.coilFault s k code chan) := by
  unfold State.coilFault; with_reducible refine State.modCoil_kept (State.trip_kept ?_); with_reducible assumption

theorem State.testBegin_kept {kq : List Instr} {s : State} {k : Nat} {low : Bool} (hkq : State.Kept kq s) : State.Kept
    kq (State.testBegin s k low) := by
  unfold State.testBegin; with_reducible refine State.modCoil_kept ?_; with_reducible assumption

theorem State.testStuck_kept {kq : List Instr} {s : State} {k : Nat} {low : Bool} {otherOpens : Bool} (hkq :
    State.Kept kq s) : State.Kept kq (State.testStuck s k low otherOpens) := by
  unfold State.testStuck; lift_lets -underBinder; intro v7; refine State.kept_have (q := kq) v7 ?_ (fun hs => ?_)
  subst v7; with_reducible refine State.modCoil_kept ?_; with_reducible assumption; clear_value v7
  with_reducible refine State.raise_kept (State.coilFault_kept ?_); with_reducible assumption

theorem execCoilPullinStart_kept {kq : List Instr} {t : Nat} {k : Nat} {s : State} (hkq : State.Kept kq s) : OutKept
    kq (execCoilPullinStart t k s) := by
  unfold execCoilPullinStart; refine State.kept_next ?_; with_reducible refine onEvent_kept ?_ ?_; intro _ _
  with_reducible refine State.startPullIn_kept ?_; with_reducible assumption; with_reducible assumption

theorem execCoilPullinEnd_kept {kq : List Instr} {t : Nat} {k : Nat} {s : State} (hkq : State.Kept kq s) : OutKept kq
    (execCoilPullinEnd t k s) := by
  unfold execCoilPullinEnd; refine State.kept_next ?_; with_reducible refine onEvent_kept ?_ ?_; intro _ _
  lift_lets -underBinder; intro v8; clear_value v8; refine State.kept_ite ?_ ?_
  with_reducible refine State.holdFrom_kept ?_; with_reducible assumption; with_reducible assumption
  with_reducible assumption

theorem execCoilOpen_kept {kq : List Instr} {t : Nat} {k : Nat} {ma : Nat} {ms : Nat} {s : State} (hkq : State.Kept kq
    s) : OutKept kq (execCoilOpen t k ma ms s) := by
  unfold execCoilOpen; refine State.kept_next ?_; with_reducible refine onCore_kept ?_ ?_; intro _ _
  lift_lets -underBinder; intro v10; refine State.kept_have (q := kq) v10 ?_ (fun hs => ?_); subst v10
  with_reducible refine State.wr_kept ?_; with_reducible assumption; clear_value v10; refine State.kept_ite ?_ ?_
  with_reducible refine State.coilFault_kept ?_; with_reducible assumption; with_reducible assumption
  with_reducible assumption

theorem execCoilShort_kept {kq : List Instr} {t : Nat} {k : Nat} {ma : Nat} {s : State} (hkq : State.Kept kq s) :
    OutKept kq (execCoilShort t k ma s) := by
  unfold execCoilShort; refine State.kept_next ?_; with_reducible refine onCore_kept ?_ ?_; intro _ _
  lift_lets -underBinder; intro v9; refine State.kept_have (q := kq) v9 ?_ (fun hs => ?_); subst v9
  with_reducible refine State.wr_kept ?_; with_reducible assumption; clear_value v9; refine State.kept_ite ?_ ?_
  with_reducible refine State.coilFault_kept ?_; with_reducible assumption; with_reducible assumption
  with_reducible assumption

theorem execWeldCheck_kept {kq : List Instr} {t : Nat} {n : Nat} {s : State} (hkq : State.Kept kq s) : OutKept kq
    (execWeldCheck t n s) := by
  unfold execWeldCheck; refine State.kept_next ?_; with_reducible refine onCore_kept ?_ ?_; intro _ _; split
  refine State.kept_ite ?_ ?_; with_reducible refine State.weldCheck_kept ?_; with_reducible assumption
  with_reducible assumption; with_reducible assumption; with_reducible assumption

theorem execShuntTripEnd_kept {kq : List Instr} {t : Nat} {s : State} (hkq : State.Kept kq s) : OutKept kq
    (execShuntTripEnd t s) := by
  unfold execShuntTripEnd; refine State.kept_next ?_; with_reducible refine onCore_kept ?_ ?_; intro _ _; split
  refine State.kept_ite ?_ ?_; with_reducible refine State.setFlag_kept (State.kept_upd ?_); with_reducible assumption
  with_reducible assumption; with_reducible assumption; with_reducible assumption

theorem execShuntTripRepeat_kept {kq : List Instr} {t : Nat} {n : Nat} {s : State} (hkq : State.Kept kq s) : OutKept
    kq (execShuntTripRepeat t n s) := by
  unfold execShuntTripRepeat; refine State.kept_next ?_; with_reducible refine onCore_kept ?_ ?_; intro _ _
  lift_lets -underBinder; intro v8; refine State.kept_have (q := kq) v8 ?_ (fun hs => ?_); subst v8
  with_reducible refine State.shuntKeep_kept ?_; with_reducible assumption; clear_value v8; split
  refine State.kept_ite ?_ ?_; with_reducible refine State.shuntOn_kept ?_; with_reducible assumption
  with_reducible assumption; with_reducible assumption; with_reducible assumption

theorem execDarkTestPulse_kept {kq : List Instr} {t : Nat} {k : Nat} {low : Bool} {offUs : Option Nat} {otherOpens :
    Bool} {s : State} (hkq : State.Kept kq s) : OutKept kq (execDarkTestPulse t k low offUs otherOpens s) := by
  unfold execDarkTestPulse; refine State.kept_next ?_; with_reducible refine onEvent_kept ?_ ?_; intro _ _
  lift_lets -underBinder; intro v11; clear_value v11; intro v12; clear_value v12; intro v13
  refine State.kept_have (q := kq) v13 ?_ (fun hs => ?_); subst v13; with_reducible refine State.testBegin_kept ?_
  with_reducible assumption; intro v15; clear_value v15; intro v16; clear_value v16 v13; refine State.kept_ite ?_ ?_
  with_reducible assumption; refine State.kept_ite ?_ ?_; with_reducible refine State.kept_upd ?_
  with_reducible assumption; with_reducible refine State.testStuck_kept ?_; with_reducible assumption
  with_reducible assumption

theorem execDarkTestEnd_kept {kq : List Instr} {t : Nat} {onUs : Option Nat} {s : State} (hkq : State.Kept kq s) :
    OutKept kq (execDarkTestEnd t onUs s) := by
  unfold execDarkTestEnd; refine State.kept_next ?_; with_reducible refine onEvent_kept ?_ ?_; intro _ _; split
  with_reducible assumption; refine State.kept_ite ?_ ?_; with_reducible assumption; lift_lets -underBinder; intro v16
  clear_value v16; intro v17; clear_value v17; intro v18; clear_value v18; intro v19
  refine State.kept_have (q := kq) v19 ?_ (fun hs => ?_); subst v19; with_reducible refine State.kept_upd ?_
  with_reducible assumption; intro v21; refine State.kept_have (q := kq) v21 ?_ (fun hs => ?_); clear_value v19
  subst v21; refine State.kept_ite ?_ ?_; with_reducible refine State.modCoil_kept ?_; with_reducible assumption
  with_reducible refine State.modCoil_kept ?_; with_reducible assumption; intro v23
  refine State.kept_have (q := kq) v23 ?_ (fun hs => ?_); clear_value v19 v21; subst v23
  with_reducible refine State.raise_kept ?_; with_reducible assumption; clear_value v19 v21 v23
  refine State.kept_forEach (fun x s h => ?_) _ _ ?_; with_reducible refine State.startPullIn_kept ?_
  with_reducible assumption; with_reducible assumption; with_reducible assumption

theorem execCoilUncontrol_kept {kq : List Instr} {t : Nat} {k : Nat} {s : State} (hkq : State.Kept kq s) : OutKept kq
    (execCoilUncontrol t k s) := by
  unfold execCoilUncontrol; refine State.kept_next ?_; with_reducible refine onCore_kept ?_ ?_; intro _ _
  lift_lets -underBinder; intro v8; clear_value v8; refine State.kept_ite ?_ ?_
  with_reducible refine State.shuntOn_kept (State.moduleTrip_kept ?_); with_reducible assumption
  with_reducible assumption; with_reducible assumption

end Sys2Proof.Machine
end

