-- ==== Sys2Proof/Laws/KeepMet.lean ====
section
/-! SUPPORT. What the display, metering and outlet commands keep. -/

namespace Sys2Proof.Machine

theorem execLegalBtnPress_kept {kq : List Instr} {t : Nat} {s : State} (hkq : State.Kept kq s) : OutKept kq
    (execLegalBtnPress t s) := by
  unfold execLegalBtnPress; refine State.kept_next ?_; with_reducible refine onEvent_kept ?_ ?_; intro _ _
  lift_lets -underBinder; intro v7; clear_value v7; intro v8; clear_value v8; intro v9; clear_value v9
  with_reducible refine State.legalRepaint_kept (State.kept_upd ?_); with_reducible assumption
  with_reducible assumption

theorem execLegalDisplayTimeout_kept {kq : List Instr} {t : Nat} {s : State} (hkq : State.Kept kq s) : OutKept kq
    (execLegalDisplayTimeout t s) := by
  unfold execLegalDisplayTimeout; refine State.kept_next ?_; with_reducible refine onEvent_kept ?_ ?_; intro _ _
  refine State.kept_ite ?_ ?_; with_reducible assumption
  with_reducible refine State.legalRepaint_kept (State.kept_upd ?_); with_reducible assumption
  with_reducible assumption

theorem execLegalSilent_kept {kq : List Instr} {t : Nat} {s : State} (hkq : State.Kept kq s) : OutKept kq
    (execLegalSilent t s) := by
  unfold execLegalSilent; refine State.kept_next ?_; with_reducible refine onEvent_kept ?_ ?_; intro _ _
  lift_lets -underBinder; intro v7; clear_value v7; intro v8; refine State.kept_have (q := kq) v8 ?_ (fun hs => ?_)
  subst v8; with_reducible refine State.kept_upd ?_; with_reducible assumption; clear_value v8
  with_reducible refine State.segPaint_kept ?_; with_reducible assumption; with_reducible assumption

theorem execSegFrame_kept {kq : List Instr} {t : Nat} {s : State} (hkq : State.Kept kq s) : OutKept kq (execSegFrame t
    s) := by
  unfold execSegFrame; refine State.kept_next ?_; with_reducible refine onEvent_kept ?_ ?_; intro _ _; split
  with_reducible assumption; refine State.kept_ite ?_ ?_; with_reducible assumption; lift_lets -underBinder; intro v12
  clear_value v12; intro v13; refine State.kept_have (q := kq) v13 ?_ (fun hs => ?_); subst v13
  with_reducible refine State.kept_upd ?_; with_reducible assumption; intro v15; clear_value v15; intro v16
  clear_value v16; intro v17; clear_value v17; intro v18; clear_value v18; intro v19; clear_value v19; intro v20
  clear_value v20 v13; with_reducible refine State.segSteps_kept (State.kept_upd ?_); with_reducible assumption
  with_reducible assumption

theorem execSegSense_kept {kq : List Instr} {t : Nat} {caps : List Nat} {s : State} (hkq : State.Kept kq s) : OutKept
    kq (execSegSense t caps s) := by
  unfold execSegSense; refine State.kept_next ?_; with_reducible refine onEvent_kept ?_ ?_; intro _ _
  refine State.kept_ite ?_ ?_; with_reducible assumption; lift_lets -underBinder; intro v8; clear_value v8; intro v9
  refine State.kept_have (q := kq) v9 ?_ (fun hs => ?_); subst v9; with_reducible refine State.kept_upd ?_
  with_reducible assumption; clear_value v9; refine State.kept_forEach (fun x s h => ?_) _ _ ?_; lift_lets -underBinder
  intro v14; refine State.kept_have (q := kq) v14 ?_ (fun hs => ?_); subst v14; refine State.kept_ite ?_ ?_
  with_reducible refine State.wr_kept ?_; with_reducible assumption; with_reducible assumption; intro v16
  refine State.kept_have (q := kq) v16 ?_ (fun hs => ?_); clear_value v14; subst v16
  with_reducible refine State.wr_kept ?_; with_reducible assumption; intro v18; clear_value v18 v14 v16
  refine State.kept_ite ?_ ?_; with_reducible refine State.raise_kept ?_; with_reducible assumption
  with_reducible assumption; with_reducible assumption; with_reducible assumption

theorem execDispTempStale_kept {kq : List Instr} {t : Nat} {s : State} (hkq : State.Kept kq s) : OutKept kq
    (execDispTempStale t s) := by
  unfold execDispTempStale; refine State.kept_next ?_; with_reducible refine onEvent_kept ?_ ?_; intro _ _
  refine State.kept_ite ?_ ?_; with_reducible refine State.bandShow_kept (State.wr_kept ?_); with_reducible assumption
  with_reducible assumption; with_reducible assumption

theorem execDispFrameStart_kept {kq : List Instr} {t : Nat} {s : State} (hkq : State.Kept kq s) : OutKept kq
    (execDispFrameStart t s) := by
  unfold execDispFrameStart; refine State.kept_next ?_; with_reducible refine onEvent_kept ?_ ?_; intro _ _
  refine State.kept_ite ?_ ?_; with_reducible assumption; lift_lets -underBinder; intro v7; clear_value v7; intro v8
  refine State.kept_have (q := kq) v8 ?_ (fun hs => ?_); subst v8; with_reducible refine State.kept_upd ?_
  with_reducible assumption; intro v10; refine State.kept_have (q := kq) v10 ?_ (fun hs => ?_); clear_value v8
  subst v10; refine State.kept_forEach (fun x s h => ?_) _ _ ?_; lift_lets -underBinder; intro v13; clear_value v13
  with_reducible refine State.setRegion_kept ?_; with_reducible assumption; with_reducible assumption; intro v12
  refine State.kept_have (q := kq) v12 ?_ (fun hs => ?_); clear_value v8 v10; subst v12
  refine State.kept_forEach (fun x s h => ?_) _ _ ?_; with_reducible refine State.wr_kept (State.latchRegion_kept ?_)
  with_reducible assumption; with_reducible assumption; intro v14; clear_value v14; intro v15
  refine State.kept_have (q := kq) v15 ?_ (fun hs => ?_); clear_value v8 v10 v12; subst v15
  refine State.kept_forEach (fun x s h => ?_) _ _ ?_; refine State.kept_ite ?_ ?_
  with_reducible refine State.startRegion_kept ?_; with_reducible assumption; with_reducible assumption
  with_reducible assumption; clear_value v8 v10 v12 v15
  with_reducible refine State.imbalance_kept (State.vintageFrame_kept ?_); with_reducible assumption
  with_reducible assumption

theorem execDispRegionDone_kept {kq : List Instr} {t : Nat} {r : Nat} {s : State} (hkq : State.Kept kq s) : OutKept kq
    (execDispRegionDone t r s) := by
  unfold execDispRegionDone; refine State.kept_next ?_; with_reducible refine onEvent_kept ?_ ?_; intro _ _
  lift_lets -underBinder; intro v8; clear_value v8; intro v9; clear_value v9; intro v10; clear_value v10; intro v11
  refine State.kept_have (q := kq) v11 ?_ (fun hs => ?_); subst v11
  with_reducible refine State.setRegion_kept (State.kept_upd ?_); with_reducible assumption; intro v13
  refine State.kept_have (q := kq) v13 ?_ (fun hs => ?_); clear_value v11; subst v13; refine State.kept_ite ?_ ?_
  with_reducible refine State.raise_kept ?_; with_reducible assumption; with_reducible refine State.raise_kept ?_
  with_reducible assumption; clear_value v11 v13; refine State.kept_ite ?_ ?_; with_reducible assumption
  with_reducible refine State.dispIdle_kept (State.finaliseOpt_kept ?_); with_reducible assumption
  with_reducible assumption

theorem execEpdPwrGoodRise_kept {kq : List Instr} {t : Nat} {s : State} (hkq : State.Kept kq s) : OutKept kq
    (execEpdPwrGoodRise t s) := by
  unfold execEpdPwrGoodRise; refine State.kept_next ?_; with_reducible refine onEvent_kept ?_ ?_; intro _ _
  with_reducible refine State.dispWake_kept (State.wr_kept ?_); with_reducible assumption; with_reducible assumption

theorem execDispPwrTimeout_kept {kq : List Instr} {t : Nat} {s : State} (hkq : State.Kept kq s) : OutKept kq
    (execDispPwrTimeout t s) := by
  unfold execDispPwrTimeout; refine State.kept_next ?_; with_reducible refine onEvent_kept ?_ ?_; intro _ _
  refine State.kept_ite ?_ ?_; with_reducible assumption; lift_lets -underBinder; intro v7
  refine State.kept_have (q := kq) v7 ?_ (fun hs => ?_); subst v7; refine State.kept_forEach (fun x s h => ?_) _ _ ?_
  with_reducible refine State.dropRegion_kept ?_; with_reducible assumption; with_reducible assumption; intro v9
  clear_value v9 v7; with_reducible refine State.dispIdle_kept (State.raise_kept (State.kept_upd ?_))
  with_reducible assumption; with_reducible assumption

theorem execEpdPwrGoodLoss_kept {kq : List Instr} {t : Nat} {s : State} (hkq : State.Kept kq s) : OutKept kq
    (execEpdPwrGoodLoss t s) := by
  unfold execEpdPwrGoodLoss; refine State.kept_next ?_; with_reducible refine onEvent_kept ?_ ?_; intro _ _
  lift_lets -underBinder; intro v7; clear_value v7; intro v8; refine State.kept_have (q := kq) v8 ?_ (fun hs => ?_)
  subst v8; with_reducible refine State.wr_kept ?_; with_reducible assumption; clear_value v8
  refine State.kept_ite ?_ ?_; with_reducible refine State.dispWake_kept (State.dispCut_kept (State.raise_kept ?_))
  with_reducible assumption; with_reducible assumption; with_reducible assumption

theorem execDispPwrOff_kept {kq : List Instr} {t : Nat} {s : State} (hkq : State.Kept kq s) : OutKept kq
    (execDispPwrOff t s) := by
  unfold execDispPwrOff; refine State.kept_next ?_; with_reducible refine onEvent_kept ?_ ?_; intro _ _
  refine State.kept_ite ?_ ?_; with_reducible assumption
  with_reducible refine State.wr_kept (State.wr_kept (State.kept_upd ?_)); with_reducible assumption
  with_reducible assumption

theorem execVintageSave_kept {kq : List Instr} {t : Nat} {s : State} (hkq : State.Kept kq s) : OutKept kq
    (execVintageSave t s) := by
  unfold execVintageSave; refine State.kept_next ?_; with_reducible refine onEvent_kept ?_ ?_; intro _ _
  refine State.kept_ite ?_ ?_; with_reducible assumption; with_reducible refine State.kept_upd ?_
  with_reducible assumption; with_reducible assumption

theorem execDispQuery_kept {kq : List Instr} {x : Ctx} {s : State} (hkq : State.Kept kq s) : OutKept kq (execDispQuery
    x s) := by
  unfold execDispQuery; refine State.kept_next ?_; with_reducible refine State.command_kept ?_ ?_
  with_reducible assumption; intro _ _; lift_lets -underBinder; intro v7; clear_value v7; intro v8; clear_value v8
  with_reducible refine State.complete_kept ?_; with_reducible assumption

theorem execDispImageLoad_kept {kq : List Instr} {x : Ctx} {px : Nat} {py : Nat} {w : Nat} {h : Nat} {pixels : List
    Byte} {s : State} (hkq : State.Kept kq s) : OutKept kq (execDispImageLoad x px py w h pixels s) := by
  unfold execDispImageLoad; refine State.kept_next ?_; with_reducible refine State.command_kept ?_ ?_
  with_reducible assumption; intro _ _; refine State.kept_ite ?_ ?_; with_reducible refine State.complete_kept ?_
  with_reducible assumption; refine State.kept_ite ?_ ?_; with_reducible refine State.complete_kept ?_
  with_reducible assumption; lift_lets -underBinder; intro v12; clear_value v12; intro v13; clear_value v13; intro v14
  clear_value v14; with_reducible refine State.complete_kept (State.kept_upd ?_); with_reducible assumption

theorem execDispUpdate_kept {kq : List Instr} {x : Ctx} {px : Nat} {py : Nat} {w : Nat} {h : Nat} {mode : Nat} {s :
    State} (hkq : State.Kept kq s) : OutKept kq (execDispUpdate x px py w h mode s) := by
  unfold execDispUpdate; refine State.kept_next ?_; with_reducible refine State.command_kept ?_ ?_
  with_reducible assumption; intro _ _; refine State.kept_ite ?_ ?_; with_reducible refine State.complete_kept ?_
  with_reducible assumption; split; with_reducible refine State.complete_kept ?_; with_reducible assumption
  with_reducible refine State.dispStart_kept (State.complete_kept ?_); with_reducible assumption

theorem execDispTempSet_kept {kq : List Instr} {x : Ctx} {v : Int} {s : State} (hkq : State.Kept kq s) : OutKept kq
    (execDispTempSet x v s) := by
  unfold execDispTempSet; refine State.kept_next ?_; with_reducible refine State.command_kept ?_ ?_
  with_reducible assumption; intro _ _; refine State.kept_ite ?_ ?_; with_reducible refine State.complete_kept ?_
  with_reducible assumption; with_reducible refine State.complete_kept (State.dispTemp_kept ?_)
  with_reducible assumption

theorem execDispVintageRead_kept {kq : List Instr} {x : Ctx} {s : State} (hkq : State.Kept kq s) : OutKept kq
    (execDispVintageRead x s) := by
  unfold execDispVintageRead; refine State.kept_next ?_; with_reducible refine State.command_kept ?_ ?_
  with_reducible assumption; intro _ _; with_reducible refine State.complete_kept (State.giveBuffer_kept ?_)
  with_reducible assumption

theorem execDispVintageReset_kept {kq : List Instr} {x : Ctx} {sig : OwnerSig} {s : State} (hkq : State.Kept kq s) :
    OutKept kq (execDispVintageReset x sig s) := by
  unfold execDispVintageReset; refine State.kept_next ?_; with_reducible refine State.command_kept ?_ ?_
  with_reducible assumption; intro _ _; with_reducible refine State.owned_kept ?_ ?_; with_reducible assumption
  intro _ _; with_reducible refine State.complete_kept (State.kept_upd ?_); with_reducible assumption

theorem execTrkPeriod_kept {kq : List Instr} {t : Nat} {m : Nat} {cross : Nat} {amp : Nat} {s : State} (hkq :
    State.Kept kq s) : OutKept kq (execTrkPeriod t m cross amp s) := by
  unfold execTrkPeriod; refine State.kept_next ?_; with_reducible refine onCore_kept ?_ ?_; intro _ _
  refine State.kept_ite ?_ ?_; with_reducible refine State.period_kept ?_; with_reducible assumption
  with_reducible assumption; with_reducible assumption

theorem execTrkCrossingTimeout_kept {kq : List Instr} {t : Nat} {m : Nat} {s : State} (hkq : State.Kept kq s) :
    OutKept kq (execTrkCrossingTimeout t m s) := by
  unfold execTrkCrossingTimeout; refine State.kept_next ?_; with_reducible refine onCore_kept ?_ ?_; intro _ _
  refine State.kept_ite ?_ ?_; with_reducible refine State.holdTrk_kept ?_; with_reducible assumption
  with_reducible assumption; with_reducible assumption

theorem execTrkHoldExpiry_kept {kq : List Instr} {t : Nat} {m : Nat} {s : State} (hkq : State.Kept kq s) : OutKept kq
    (execTrkHoldExpiry t m s) := by
  unfold execTrkHoldExpiry; refine State.kept_next ?_; with_reducible refine onCore_kept ?_ ?_; intro _ _
  refine State.kept_ite ?_ ?_; with_reducible refine State.setTrk_kept ?_; with_reducible assumption
  with_reducible assumption; with_reducible assumption

theorem execTrkSourceAbsent_kept {kq : List Instr} {t : Nat} {m : Nat} {s : State} (hkq : State.Kept kq s) : OutKept
    kq (execTrkSourceAbsent t m s) := by
  unfold execTrkSourceAbsent; refine State.kept_next ?_; with_reducible refine onCore_kept ?_ ?_; intro _ _
  refine State.kept_ite ?_ ?_; with_reducible refine State.trkRefresh_kept ?_; with_reducible assumption
  with_reducible assumption; with_reducible assumption

theorem execGridCycleStart_kept {kq : List Instr} {t : Nat} {m : Nat} {s : State} (hkq : State.Kept kq s) : OutKept kq
    (execGridCycleStart t m s) := by
  unfold execGridCycleStart; refine State.kept_next ?_; with_reducible refine onCore_kept ?_ ?_; intro _ _
  refine State.kept_ite ?_ ?_; with_reducible assumption; split; with_reducible assumption; lift_lets -underBinder
  intro v13; clear_value v13; intro v14; clear_value v14; intro v15
  refine State.kept_have (q := kq) v15 ?_ (fun hs => ?_); subst v15; with_reducible refine State.beginCycle_kept ?_
  with_reducible assumption; clear_value v15; with_reducible refine State.meterTrk_kept ?_; refine State.kept_ite ?_ ?_
  with_reducible refine State.respace_kept ?_; with_reducible assumption; with_reducible assumption
  with_reducible assumption

theorem execSettlingEnd_kept {kq : List Instr} {t : Nat} {c : Nat} {s : State} (hkq : State.Kept kq s) : OutKept kq
    (execSettlingEnd t c s) := by
  unfold execSettlingEnd; refine State.kept_next ?_; with_reducible refine onCore_kept ?_ ?_; intro _ _
  refine State.kept_ite ?_ ?_; with_reducible assumption; lift_lets -underBinder; intro v8; clear_value v8; intro v9
  refine State.kept_have (q := kq) v9 ?_ (fun hs => ?_); subst v9
  with_reducible refine State.wr_kept (State.wr_kept ?_); with_reducible assumption; intro v11
  refine State.kept_have (q := kq) v11 ?_ (fun hs => ?_); clear_value v9; subst v11
  with_reducible refine State.setFlag_kept (State.setFlag_kept ?_); with_reducible assumption; clear_value v9 v11
  refine State.kept_forEach (fun x s h => ?_) _ _ ?_; with_reducible refine State.mpEval_kept ?_
  with_reducible assumption; with_reducible assumption; with_reducible assumption

theorem execBlendStart_kept {kq : List Instr} {t : Nat} {c : Nat} {s : State} (hkq : State.Kept kq s) : OutKept kq
    (execBlendStart t c s) := by
  unfold execBlendStart; refine State.kept_next ?_; with_reducible refine onCore_kept ?_ ?_; intro _ _; split
  with_reducible assumption; lift_lets -underBinder; intro v13; clear_value v13; intro v14; clear_value v14; intro v15
  clear_value v15; refine State.kept_ite ?_ ?_; with_reducible assumption
  refine State.kept_forEach (fun x s h => ?_) _ _ ?_; with_reducible refine State.wr_kept ?_; with_reducible assumption
  with_reducible refine State.kept_upd ?_; with_reducible assumption; with_reducible assumption

theorem execBlendDone_kept {kq : List Instr} {t : Nat} {c : Nat} {s : State} (hkq : State.Kept kq s) : OutKept kq
    (execBlendDone t c s) := by
  unfold execBlendDone; refine State.kept_next ?_; with_reducible refine onCore_kept ?_ ?_; intro _ _; split
  with_reducible assumption; split; with_reducible assumption; lift_lets -underBinder; intro v18; clear_value v18
  refine State.kept_ite ?_ ?_; with_reducible assumption; with_reducible refine State.finishBlend_kept ?_
  with_reducible assumption; with_reducible assumption

theorem execFiltQuery_kept {kq : List Instr} {x : Ctx} {c : Nat} {s : State} (hkq : State.Kept kq s) : OutKept kq
    (execFiltQuery x c s) := by
  unfold execFiltQuery; refine State.kept_next ?_; with_reducible refine State.command_kept ?_ ?_
  with_reducible assumption; intro _ _; refine State.kept_ite ?_ ?_; with_reducible refine State.complete_kept ?_
  with_reducible assumption; lift_lets -underBinder; intro v8; clear_value v8
  with_reducible refine State.complete_kept ?_; with_reducible assumption

theorem execFiltBlend_kept {kq : List Instr} {x : Ctx} {mask : Nat} {s : State} (hkq : State.Kept kq s) : OutKept kq
    (execFiltBlend x mask s) := by
  unfold execFiltBlend; refine State.kept_next ?_; with_reducible refine State.command_kept ?_ ?_
  with_reducible assumption; intro _ _; lift_lets -underBinder; intro v8; clear_value v8; intro v9; clear_value v9
  intro v10; clear_value v10; intro v11; refine State.kept_have (q := kq) v11 ?_ (fun hs => ?_); subst v11
  refine State.kept_forEach (fun x s h => ?_) _ _ ?_; with_reducible refine State.setCal_kept ?_
  with_reducible assumption; with_reducible assumption; clear_value v11; refine State.kept_ite ?_ ?_
  with_reducible refine State.complete_kept (State.partitionDenied_kept ?_); with_reducible assumption
  refine State.kept_ite ?_ ?_; with_reducible refine State.complete_kept ?_; with_reducible assumption
  refine State.kept_ite ?_ ?_; with_reducible refine State.complete_kept ?_; with_reducible assumption
  refine State.kept_ite ?_ ?_; with_reducible refine State.complete_kept ?_; with_reducible assumption
  with_reducible refine State.complete_kept (State.startBlend_kept ?_); with_reducible assumption

theorem execTrkQuery_kept {kq : List Instr} {x : Ctx} {m : Nat} {s : State} (hkq : State.Kept kq s) : OutKept kq
    (execTrkQuery x m s) := by
  unfold execTrkQuery; refine State.kept_next ?_; with_reducible refine State.command_kept ?_ ?_
  with_reducible assumption; intro _ _; refine State.kept_ite ?_ ?_; with_reducible refine State.complete_kept ?_
  with_reducible assumption; with_reducible refine State.complete_kept ?_; with_reducible assumption

theorem execFiltRestart_kept {kq : List Instr} {x : Ctx} {mask : Nat} {s : State} (hkq : State.Kept kq s) : OutKept kq
    (execFiltRestart x mask s) := by
  unfold execFiltRestart; refine State.kept_next ?_; with_reducible refine State.command_kept ?_ ?_
  with_reducible assumption; intro _ _; lift_lets -underBinder; intro v8; clear_value v8; refine State.kept_ite ?_ ?_
  with_reducible refine State.complete_kept (State.partitionDenied_kept ?_); with_reducible assumption
  refine State.kept_ite ?_ ?_; with_reducible refine State.complete_kept ?_; with_reducible assumption
  refine State.kept_ite ?_ ?_; with_reducible refine State.complete_kept ?_; with_reducible assumption
  with_reducible refine State.complete_kept ?_; refine State.kept_forEach (fun x s h => ?_) _ _ ?_
  with_reducible refine State.restartChain_kept ?_; with_reducible assumption; with_reducible assumption

theorem execLswTrip_kept {kq : List Instr} {t : Nat} {n : Nat} {ma : Nat} {tj : Nat} {lowOut : Bool} {s : State} (hkq
    : State.Kept kq s) : OutKept kq (execLswTrip t n ma tj lowOut s) := by
  unfold execLswTrip; refine State.kept_next ?_; with_reducible refine onEvent_kept ?_ ?_; intro _ _
  refine State.kept_ite ?_ ?_; with_reducible assumption; lift_lets -underBinder; intro v11; clear_value v11; intro v12
  clear_value v12; intro v13; refine State.kept_have (q := kq) v13 ?_ (fun hs => ?_); subst v13
  with_reducible refine State.wr_kept ?_; with_reducible assumption; intro v15
  refine State.kept_have (q := kq) v15 ?_ (fun hs => ?_); clear_value v13; subst v15; refine State.kept_ite ?_ ?_
  with_reducible assumption; with_reducible refine State.wr_kept (State.wr_kept ?_); with_reducible assumption
  clear_value v13 v15; refine State.kept_ite ?_ ?_; with_reducible assumption; refine State.kept_ite ?_ ?_
  with_reducible refine State.lswTrip_kept ?_; with_reducible assumption; refine State.kept_ite ?_ ?_
  with_reducible assumption; refine State.kept_ite ?_ ?_; with_reducible refine State.lswTrip_kept ?_
  with_reducible assumption; refine State.kept_ite ?_ ?_; with_reducible refine State.lswTrip_kept ?_
  with_reducible assumption; with_reducible assumption; with_reducible assumption

theorem execInrushEnd_kept {kq : List Instr} {t : Nat} {n : Nat} {ma : Nat} {tj : Nat} {calm : Bool} {s : State} (hkq
    : State.Kept kq s) : OutKept kq (execInrushEnd t n ma tj calm s) := by
  unfold execInrushEnd; refine State.kept_next ?_; with_reducible refine onEvent_kept ?_ ?_; intro _ _
  refine State.kept_ite ?_ ?_; with_reducible assumption; lift_lets -underBinder; intro v11; clear_value v11; intro v12
  clear_value v12; intro v13; clear_value v13; refine State.kept_ite ?_ ?_; with_reducible refine State.lswGo_kept ?_
  with_reducible assumption; refine State.kept_ite ?_ ?_; with_reducible refine State.lswTrip_kept ?_
  with_reducible assumption; with_reducible assumption; with_reducible assumption

theorem execLswRetry_kept {kq : List Instr} {t : Nat} {n : Nat} {s : State} (hkq : State.Kept kq s) : OutKept kq
    (execLswRetry t n s) := by
  unfold execLswRetry; refine State.kept_next ?_; with_reducible refine onEvent_kept ?_ ?_; intro _ _
  refine State.kept_ite ?_ ?_; with_reducible refine State.turnOn_kept ?_; with_reducible assumption
  with_reducible assumption; with_reducible assumption

theorem execLswCoolRestart_kept {kq : List Instr} {t : Nat} {n : Nat} {tj : Nat} {s : State} (hkq : State.Kept kq s) :
    OutKept kq (execLswCoolRestart t n tj s) := by
  unfold execLswCoolRestart; refine State.kept_next ?_; with_reducible refine onEvent_kept ?_ ?_; intro _ _
  refine State.kept_ite ?_ ?_; lift_lets -underBinder; intro v9; refine State.kept_have (q := kq) v9 ?_ (fun hs => ?_)
  subst v9; with_reducible refine State.wr_kept ?_; with_reducible assumption; clear_value v9
  refine State.kept_ite ?_ ?_; with_reducible assumption; with_reducible refine State.turnOn_kept ?_
  with_reducible assumption; with_reducible assumption; with_reducible assumption

theorem execRetriesReload_kept {kq : List Instr} {t : Nat} {n : Nat} {s : State} (hkq : State.Kept kq s) : OutKept kq
    (execRetriesReload t n s) := by
  unfold execRetriesReload; refine State.kept_next ?_; with_reducible refine onEvent_kept ?_ ?_; intro _ _
  refine State.kept_ite ?_ ?_; with_reducible refine State.wr_kept ?_; with_reducible assumption
  with_reducible assumption; with_reducible assumption

theorem execQuadHot_kept {kq : List Instr} {t : Nat} {q : Nat} {temp : Nat} {s : State} (hkq : State.Kept kq s) :
    OutKept kq (execQuadHot t q temp s) := by
  unfold execQuadHot; refine State.kept_next ?_; with_reducible refine onEvent_kept ?_ ?_; intro _ _
  refine State.kept_ite ?_ ?_; with_reducible assumption; lift_lets -underBinder; intro v9
  refine State.kept_have (q := kq) v9 ?_ (fun hs => ?_); subst v9; with_reducible refine State.wr_kept ?_
  with_reducible assumption; intro v11; refine State.kept_have (q := kq) v11 ?_ (fun hs => ?_); clear_value v9
  subst v11; with_reducible refine State.incSat_kept (State.wr_kept ?_); with_reducible assumption; intro v13
  clear_value v13; intro v14; refine State.kept_have (q := kq) v14 ?_ (fun hs => ?_); clear_value v9 v11; subst v14
  refine State.kept_forEach (fun x s h => ?_) _ _ ?_; with_reducible refine State.turnOn_kept ?_
  with_reducible assumption; with_reducible assumption; clear_value v9 v11 v14; refine State.kept_ite ?_ ?_
  with_reducible assumption; with_reducible refine State.raise_kept ?_; with_reducible assumption
  with_reducible assumption

theorem execQuadCool_kept {kq : List Instr} {t : Nat} {q : Nat} {temp : Nat} {s : State} (hkq : State.Kept kq s) :
    OutKept kq (execQuadCool t q temp s) := by
  unfold execQuadCool; refine State.kept_next ?_; with_reducible refine onEvent_kept ?_ ?_; intro _ _
  refine State.kept_ite ?_ ?_; with_reducible assumption; lift_lets -underBinder; intro v9
  refine State.kept_have (q := kq) v9 ?_ (fun hs => ?_); subst v9
  with_reducible refine State.wr_kept (State.wr_kept ?_); with_reducible assumption; intro v11; clear_value v11
  intro v12; refine State.kept_have (q := kq) v12 ?_ (fun hs => ?_); clear_value v9; subst v12
  with_reducible refine State.kept_upd ?_; with_reducible assumption; clear_value v9 v12
  with_reducible refine State.raise_kept ?_; with_reducible assumption; with_reducible assumption

theorem execQuadRestartStep_kept {kq : List Instr} {t : Nat} {q : Nat} {s : State} (hkq : State.Kept kq s) : OutKept
    kq (execQuadRestartStep t q s) := by
  unfold execQuadRestartStep; refine State.kept_next ?_; with_reducible refine onEvent_kept ?_ ?_; intro _ _
  refine State.kept_ite ?_ ?_; with_reducible assumption; split; with_reducible assumption; lift_lets -underBinder
  intro v13; refine State.kept_have (q := kq) v13 ?_ (fun hs => ?_); subst v13
  with_reducible refine State.turnOn_kept ?_; with_reducible assumption; intro v15; clear_value v15 v13
  with_reducible refine State.kept_upd ?_; with_reducible assumption; with_reducible assumption

theorem execLswPwmPeriod_kept {kq : List Instr} {t : Nat} {b : Nat} {s : State} (hkq : State.Kept kq s) : OutKept kq
    (execLswPwmPeriod t b s) := by
  unfold execLswPwmPeriod; refine State.kept_next ?_; with_reducible refine onEvent_kept ?_ ?_; intro _ _
  refine State.kept_ite ?_ ?_; with_reducible assumption; lift_lets -underBinder; intro v8; clear_value v8; intro v9
  clear_value v9; intro v10; clear_value v10; intro v11; refine State.kept_have (q := kq) v11 ?_ (fun hs => ?_)
  subst v11; with_reducible refine State.kept_upd ?_; with_reducible assumption; clear_value v11
  refine State.kept_forEach (fun x s h => ?_) _ _ ?_; with_reducible refine State.pwmPeriod_kept ?_
  with_reducible assumption; with_reducible assumption; with_reducible assumption

theorem execLswOpenOn_kept {kq : List Instr} {t : Nat} {n : Nat} {lo : Nat} {hi : Nat} {s : State} (hkq : State.Kept
    kq s) : OutKept kq (execLswOpenOn t n lo hi s) := by
  unfold execLswOpenOn; refine State.kept_next ?_; with_reducible refine onEvent_kept ?_ ?_; intro _ _
  refine State.kept_ite ?_ ?_; with_reducible assumption; lift_lets -underBinder; intro v10
  refine State.kept_have (q := kq) v10 ?_ (fun hs => ?_); subst v10; with_reducible refine State.modLsw_kept ?_
  with_reducible assumption; intro v12; clear_value v12 v10; refine State.kept_ite ?_ ?_
  with_reducible refine State.raise_kept (State.wr_kept ?_); with_reducible assumption; refine State.kept_ite ?_ ?_
  with_reducible refine State.raise_kept (State.wr_kept ?_); with_reducible assumption; with_reducible assumption
  with_reducible assumption

theorem execLswOpenOff_kept {kq : List Instr} {t : Nat} {n : Nat} {s : State} (hkq : State.Kept kq s) : OutKept kq
    (execLswOpenOff t n s) := by
  unfold execLswOpenOff; refine State.kept_next ?_; with_reducible refine onEvent_kept ?_ ?_; intro _ _
  refine State.kept_ite ?_ ?_; with_reducible refine State.raise_kept (State.wr_kept ?_); with_reducible assumption
  with_reducible assumption; with_reducible assumption

theorem execLswBudgetWindow_kept {kq : List Instr} {t : Nat} {mas : List Nat} {mws : List Nat} {s : State} (hkq :
    State.Kept kq s) : OutKept kq (execLswBudgetWindow t mas mws s) := by
  unfold execLswBudgetWindow; refine State.kept_next ?_; with_reducible refine onEvent_kept ?_ ?_; intro _ _
  refine State.kept_ite ?_ ?_; with_reducible assumption; lift_lets -underBinder; intro v9; clear_value v9; intro v10
  refine State.kept_have (q := kq) v10 ?_ (fun hs => ?_); subst v10; with_reducible refine State.kept_upd ?_
  with_reducible assumption; intro v12; clear_value v12; intro v13; clear_value v13; intro v14; clear_value v14
  intro v15; clear_value v15; intro v16; clear_value v16; intro v17
  refine State.kept_have (q := kq) v17 ?_ (fun hs => ?_); clear_value v10; subst v17
  refine State.kept_forEach (fun x s h => ?_) _ _ ?_; with_reducible refine State.wr_kept ?_; with_reducible assumption
  with_reducible assumption; intro v19; refine State.kept_have (q := kq) v19 ?_ (fun hs => ?_); clear_value v10 v17
  subst v19; with_reducible refine State.wr_kept (State.wr_kept ?_); with_reducible assumption; intro v21
  refine State.kept_have (q := kq) v21 ?_ (fun hs => ?_); clear_value v10 v17 v19; subst v21
  refine State.kept_forEach (fun x s h => ?_) _ _ ?_; refine State.kept_ite ?_ ?_
  with_reducible refine State.budgetOff_kept ?_; with_reducible assumption; with_reducible assumption
  with_reducible assumption; intro v23; refine State.kept_have (q := kq) v23 ?_ (fun hs => ?_)
  clear_value v10 v17 v19 v21; subst v23; refine State.kept_ite ?_ ?_; with_reducible refine State.budgetOff_kept ?_
  with_reducible assumption; with_reducible assumption; clear_value v10 v17 v19 v21 v23; refine State.kept_ite ?_ ?_
  with_reducible refine State.budgetOff_kept ?_; with_reducible assumption; with_reducible assumption
  with_reducible assumption

theorem execVlsUndervoltage_kept {kq : List Instr} {t : Nat} {b : Nat} {mv : Nat} {s : State} (hkq : State.Kept kq s)
    : OutKept kq (execVlsUndervoltage t b mv s) := by
  unfold execVlsUndervoltage; refine State.kept_next ?_; with_reducible refine onEvent_kept ?_ ?_; intro _ _
  with_reducible refine State.vlsLow_kept ?_; with_reducible assumption; with_reducible assumption

theorem execVlsRestored_kept {kq : List Instr} {t : Nat} {b : Nat} {mv : Nat} {s : State} (hkq : State.Kept kq s) :
    OutKept kq (execVlsRestored t b mv s) := by
  unfold execVlsRestored; refine State.kept_next ?_; with_reducible refine onEvent_kept ?_ ?_; intro _ _
  with_reducible refine State.vlsBack_kept ?_; with_reducible assumption; with_reducible assumption

theorem execLswSet_kept {kq : List Instr} {x : Ctx} {mask : Nat} {on : Nat} {duty : Nat} {phase : Nat} {s : State}
    (hkq : State.Kept kq s) : OutKept kq (execLswSet x mask on duty phase s) := by
  unfold execLswSet; refine State.kept_next ?_; with_reducible refine State.command_kept ?_ ?_
  with_reducible assumption; intro _ _; lift_lets -underBinder; intro v11; clear_value v11; intro v12; clear_value v12
  intro v13; clear_value v13; intro v14; clear_value v14; refine State.kept_ite ?_ ?_
  with_reducible refine State.complete_kept ?_; with_reducible assumption; split
  with_reducible refine State.complete_kept ?_; with_reducible assumption; with_reducible refine State.complete_kept ?_
  with_reducible assumption; lift_lets -underBinder; intro v22; refine State.kept_have (q := kq) v22 ?_ (fun hs => ?_)
  subst v22; refine State.kept_forEach (fun x s h => ?_) _ _ ?_; lift_lets -underBinder; intro v25
  refine State.kept_have (q := kq) v25 ?_ (fun hs => ?_); subst v25; refine State.kept_ite ?_ ?_
  with_reducible assumption; with_reducible refine State.wr_kept ?_; with_reducible assumption; intro v27
  refine State.kept_have (q := kq) v27 ?_ (fun hs => ?_); clear_value v25; subst v27; refine State.kept_ite ?_ ?_
  with_reducible assumption; with_reducible refine State.wr_kept ?_; with_reducible assumption; intro v29
  refine State.kept_have (q := kq) v29 ?_ (fun hs => ?_); clear_value v25 v27; subst v29
  with_reducible refine State.wr_kept (State.wr_kept (State.wr_kept ?_)); with_reducible assumption; subst v25
  subst v27; clear_value v29; refine State.kept_ite ?_ ?_; refine State.kept_ite ?_ ?_; with_reducible assumption
  with_reducible refine State.turnOn_kept ?_; with_reducible assumption; refine State.kept_ite ?_ ?_
  refine State.kept_ite ?_ ?_; refine State.kept_ite ?_ ?_; with_reducible assumption
  with_reducible refine State.wr_kept ?_; with_reducible assumption; with_reducible refine State.wr_kept ?_
  refine State.kept_ite ?_ ?_; with_reducible assumption; with_reducible refine State.wr_kept ?_
  with_reducible assumption; with_reducible refine State.turnOff_kept ?_; refine State.kept_ite ?_ ?_
  refine State.kept_ite ?_ ?_; with_reducible assumption; with_reducible refine State.wr_kept ?_
  with_reducible assumption; with_reducible refine State.wr_kept ?_; refine State.kept_ite ?_ ?_
  with_reducible assumption; with_reducible refine State.wr_kept ?_; with_reducible assumption
  with_reducible assumption; clear_value v22; with_reducible refine State.complete_kept ?_; with_reducible assumption

theorem execLswClear_kept {kq : List Instr} {x : Ctx} {mask : Nat} {s : State} (hkq : State.Kept kq s) : OutKept kq
    (execLswClear x mask s) := by
  unfold execLswClear; refine State.kept_next ?_; with_reducible refine State.command_kept ?_ ?_
  with_reducible assumption; intro _ _; refine State.kept_ite ?_ ?_; with_reducible refine State.complete_kept ?_
  with_reducible assumption; lift_lets -underBinder; intro v8; clear_value v8; intro v9; clear_value v9; intro v10
  refine State.kept_have (q := kq) v10 ?_ (fun hs => ?_); subst v10; refine State.kept_forEach (fun x s h => ?_) _ _ ?_
  with_reducible refine State.wr_kept (State.wr_kept (State.wr_kept (State.turnOff_kept ?_))); with_reducible assumption
  with_reducible assumption; clear_value v10; with_reducible refine State.complete_kept ?_; with_reducible assumption

theorem execLswQuery_kept {kq : List Instr} {x : Ctx} {n : Nat} {s : State} (hkq : State.Kept kq s) : OutKept kq
    (execLswQuery x n s) := by
  unfold execLswQuery; refine State.kept_next ?_; with_reducible refine State.command_kept ?_ ?_
  with_reducible assumption; intro _ _; refine State.kept_ite ?_ ?_; with_reducible refine State.complete_kept ?_
  with_reducible assumption; with_reducible refine State.complete_kept ?_; with_reducible assumption

theorem execLswConfig_kept {kq : List Instr} {x : Ctx} {n : Nat} {cfg : Nat} {pwm : Nat} {s : State} (hkq : State.Kept
    kq s) : OutKept kq (execLswConfig x n cfg pwm s) := by
  unfold execLswConfig; refine State.kept_next ?_; with_reducible refine State.command_kept ?_ ?_
  with_reducible assumption; intro _ _; lift_lets -underBinder; intro v10; clear_value v10; intro v11
  refine State.kept_have (q := kq) v11 ?_ (fun hs => ?_); subst v11; refine State.kept_forEach (fun x s h => ?_) _ _ ?_
  with_reducible refine State.wrSave_kept ?_; with_reducible assumption; with_reducible assumption; clear_value v11
  refine State.kept_ite ?_ ?_; with_reducible refine State.complete_kept ?_; with_reducible assumption
  refine State.kept_ite ?_ ?_; with_reducible refine State.complete_kept ?_; with_reducible assumption
  with_reducible refine State.complete_kept ?_; refine State.kept_forEach (fun x s h => ?_) _ _ ?_
  with_reducible refine State.wrSave_kept ?_; with_reducible assumption; with_reducible assumption

theorem execLswBankPwm_kept {kq : List Instr} {x : Ctx} {b : Nat} {hz : Nat} {s : State} (hkq : State.Kept kq s) :
    OutKept kq (execLswBankPwm x b hz s) := by
  unfold execLswBankPwm; refine State.kept_next ?_; with_reducible refine State.command_kept ?_ ?_
  with_reducible assumption; intro _ _; refine State.kept_ite ?_ ?_; with_reducible refine State.complete_kept ?_
  with_reducible assumption; with_reducible refine State.complete_kept (State.wrSave_kept ?_); with_reducible assumption

theorem State.putPf_kept {kq : List Instr} {s : State} {F : Fld} {n : Nat} {p : Int} {sApp : Nat} (hkq : State.Kept kq
    s) : State.Kept kq (State.putPf s F n p sApp) := by
  unfold State.putPf; refine State.kept_ite ?_ ?_; split; with_reducible refine State.wr_kept ?_
  refine State.kept_snd (by with_reducible assumption) ?_; with_reducible refine State.takeFree_kept ?_
  with_reducible assumption; with_reducible refine State.wrInt_kept ?_; with_reducible assumption

theorem State.putCos_kept {kq : List Instr} {s : State} {n : Nat} {re : Int} {mag : Nat} (hkq : State.Kept kq s) :
    State.Kept kq (State.putCos s n re mag) := by
  unfold State.putCos; with_reducible refine State.putPf_kept ?_; with_reducible assumption

theorem State.putPhase_kept {kq : List Instr} {s : State} {m : Nat} {i : Nat} {a : PhaseSum} {first : PhaseSum} (hkq :
    State.Kept kq s) : State.Kept kq (State.putPhase s m i a first) := by
  unfold State.putPhase; lift_lets -underBinder; intro v8; clear_value v8; intro v9; clear_value v9; intro v10
  clear_value v10; intro v11; clear_value v11; intro v12; clear_value v12; intro v13; clear_value v13; intro v14
  clear_value v14; intro v15; clear_value v15; intro v16; clear_value v16; intro v17
  refine State.kept_have (q := kq) v17 ?_ (fun hs => ?_); subst v17
  with_reducible refine State.wrFitInt_kept (State.wrFit_kept (State.wrFit_kept ?_)); with_reducible assumption
  intro v19; refine State.kept_have (q := kq) v19 ?_ (fun hs => ?_); clear_value v17; subst v19
  with_reducible refine State.wrFit_kept (State.wrFitInt_kept ?_); with_reducible assumption; intro v21
  refine State.kept_have (q := kq) v21 ?_ (fun hs => ?_); clear_value v17 v19; subst v21
  with_reducible refine State.putCos_kept (State.putPf_kept ?_); with_reducible assumption; clear_value v17 v19 v21
  refine State.kept_ite ?_ ?_; with_reducible refine State.wrFitInt_kept (State.wrFitInt_kept (State.wrFitInt_kept ?_))
  with_reducible assumption; with_reducible refine State.wrInt_kept (State.wrInt_kept ?_); with_reducible assumption

theorem State.putTotal_kept {kq : List Instr} {s : State} {m : Nat} {w : Window} (hkq : State.Kept kq s) : State.Kept
    kq (State.putTotal s m w) := by
  unfold State.putTotal; lift_lets -underBinder; intro v6; clear_value v6; intro v7; clear_value v7; intro v8
  clear_value v8; intro v9; clear_value v9; intro v10; refine State.kept_have (q := kq) v10 ?_ (fun hs => ?_); subst v10
  with_reducible refine State.modMp_kept (State.wrFitInt_kept ?_); with_reducible assumption; intro v12
  refine State.kept_have (q := kq) v12 ?_ (fun hs => ?_); clear_value v10; subst v12
  with_reducible refine State.wr_kept ?_; with_reducible assumption; intro v14; clear_value v14; intro v15
  clear_value v15; intro v16; refine State.kept_have (q := kq) v16 ?_ (fun hs => ?_); clear_value v10 v12; subst v16
  with_reducible refine State.putPf_kept (State.wrFit_kept (State.wrFitInt_kept ?_)); with_reducible assumption
  intro v18; clear_value v18 v10 v12 v16; refine State.kept_ite ?_ ?_; with_reducible assumption
  refine State.kept_ite ?_ ?_; with_reducible assumption; with_reducible refine State.wrFit_kept ?_
  with_reducible assumption

theorem State.putHarm_kept {kq : List Instr} {s : State} {m : Nat} {ph : Nat} {order : Nat} {w : Window} (hkq :
    State.Kept kq s) : State.Kept kq (State.putHarm s m ph order w) := by
  unfold State.putHarm; lift_lets -underBinder; intro v8; clear_value v8; intro v9; clear_value v9; intro v10
  clear_value v10; intro v11; clear_value v11; intro v12; clear_value v12; intro v13; clear_value v13; intro v14
  clear_value v14; intro v15; clear_value v15; split; split; lift_lets -underBinder; intro v30
  refine State.kept_have (q := kq) v30 ?_ (fun hs => ?_); subst v30
  with_reducible refine State.wrFit_kept (State.wrFit_kept ?_); with_reducible assumption; intro v32
  refine State.kept_have (q := kq) v32 ?_ (fun hs => ?_); clear_value v30; subst v32
  with_reducible refine State.wrFit_kept (State.wrFit_kept ?_); with_reducible assumption; intro v34; clear_value v34
  intro v35; clear_value v35 v30 v32; with_reducible refine State.kept_upd ?_; with_reducible assumption

theorem State.putThd_kept {kq : List Instr} {s : State} {m : Nat} {i : Nat} (hkq : State.Kept kq s) : State.Kept kq
    (State.putThd s m i) := by
  unfold State.putThd; lift_lets -underBinder; intro v6; clear_value v6
  with_reducible refine State.wrFit_kept (State.wrFit_kept ?_); with_reducible assumption

theorem State.windowEnd_kept {kq : List Instr} {s : State} {m : Nat} {w : Window} (hkq : State.Kept kq s) : State.Kept
    kq (State.windowEnd s m w) := by
  unfold State.windowEnd; lift_lets -underBinder; intro v6; clear_value v6; intro v7
  refine State.kept_have (q := kq) v7 ?_ (fun hs => ?_); subst v7; refine State.kept_forEach (fun x s h => ?_) _ _ ?_
  with_reducible refine State.putPhase_kept ?_; with_reducible assumption; with_reducible assumption; intro v9
  refine State.kept_have (q := kq) v9 ?_ (fun hs => ?_); clear_value v7; subst v9
  with_reducible refine State.putTotal_kept ?_; with_reducible assumption; intro v11
  refine State.kept_have (q := kq) v11 ?_ (fun hs => ?_); clear_value v7 v9; subst v11; refine State.kept_ite ?_ ?_
  with_reducible assumption; refine State.kept_forEach (fun x s h => ?_) _ _ ?_
  with_reducible refine State.putThd_kept ?_; with_reducible assumption
  refine State.kept_forEach (fun x s h => ?_) _ _ ?_; refine State.kept_forEach (fun x s h => ?_) _ _ ?_
  with_reducible refine State.putHarm_kept ?_; with_reducible assumption; with_reducible assumption
  with_reducible assumption; clear_value v7 v9 v11; with_reducible refine State.modMp_kept ?_; with_reducible assumption

theorem State.qualSecond_kept {kq : List Instr} {s : State} {m : Nat} (hkq : State.Kept kq s) : State.Kept kq
    (State.qualSecond s m) := by
  unfold State.qualSecond; lift_lets -underBinder; intro v5; clear_value v5; intro v6
  refine State.kept_have (q := kq) v6 ?_ (fun hs => ?_); subst v6; refine State.kept_forEach (fun x s h => ?_) _ _ ?_
  refine State.kept_ite ?_ ?_; with_reducible refine State.addSat_kept ?_; with_reducible assumption
  with_reducible assumption; with_reducible assumption; clear_value v6; with_reducible refine State.modMp_kept ?_
  with_reducible assumption

theorem State.secondRecord_kept {kq : List Instr} {s : State} {m : Nat} (hkq : State.Kept kq s) : State.Kept kq
    (State.secondRecord s m) := by
  unfold State.secondRecord; lift_lets -underBinder; intro v5; clear_value v5; intro v6
  refine State.kept_have (q := kq) v6 ?_ (fun hs => ?_); subst v6; with_reducible refine State.qualSecond_kept ?_
  with_reducible assumption; intro v8; refine State.kept_have (q := kq) v8 ?_ (fun hs => ?_); clear_value v6; subst v8
  with_reducible refine State.modMp_kept ?_; with_reducible assumption; intro v10; clear_value v10; intro v11
  clear_value v11 v6 v8; with_reducible refine State.wr_kept (State.wr_kept ?_); with_reducible assumption

theorem State.pqKind_kept {kq : List Instr} {s : State} {m : Nat} {at_ : Nat} {kind : Nat} {on : Nat} {ext : Nat}
    {starts : Bool} {ends : Bool} {worse : Nat → Nat → Nat} (hkq : State.Kept kq s) : State.Kept kq (State.pqKind s m
    at_ kind on ext starts ends worse) := by
  unfold State.pqKind; lift_lets -underBinder; intro v12; split; refine State.kept_ite ?_ ?_
  with_reducible refine State.raise_kept ?_; subst v12; beta_reduce
  with_reducible refine State.wr_kept (State.modMp_kept ?_); with_reducible assumption; with_reducible assumption
  refine State.kept_ite ?_ ?_; lift_lets -underBinder; intro v18; clear_value v18; intro v19
  refine State.kept_have (q := kq) v19 ?_ (fun hs => ?_); subst v19; with_reducible refine State.incSat_kept ?_
  subst v12; beta_reduce; with_reducible refine State.wr_kept (State.modMp_kept ?_); with_reducible assumption
  clear_value v19; with_reducible refine State.raise_kept ?_; with_reducible assumption; subst v12; beta_reduce
  with_reducible refine State.wr_kept (State.modMp_kept ?_); with_reducible assumption

theorem State.pqHalf_kept {kq : List Instr} {s : State} {m : Nat} {at_ : Nat} {ps : List (Nat × Nat)} (hkq :
    State.Kept kq s) : State.Kept kq (State.pqHalf s m at_ ps) := by
  unfold State.pqHalf; lift_lets -underBinder; intro v7; clear_value v7; intro v8; clear_value v8; intro v9
  clear_value v9; intro v10; clear_value v10; intro v11; clear_value v11; intro v12; clear_value v12; intro v13
  clear_value v13; intro v14; clear_value v14; intro v15; clear_value v15; intro v16; clear_value v16; intro v17
  refine State.kept_have (q := kq) v17 ?_ (fun hs => ?_); subst v17; with_reducible refine State.pqKind_kept ?_
  with_reducible assumption; intro v19; refine State.kept_have (q := kq) v19 ?_ (fun hs => ?_); clear_value v17
  subst v19; with_reducible refine State.pqKind_kept ?_; with_reducible assumption; clear_value v17 v19
  with_reducible refine State.pqKind_kept ?_; with_reducible assumption

theorem State.copyBank_kept {kq : List Instr} {s : State} {c : Nat} (hkq : State.Kept kq s) : State.Kept kq
    (State.copyBank s c) := by
  unfold State.copyBank; refine State.kept_forEach (fun x s h => ?_) _ _ ?_; with_reducible refine State.wr_kept ?_
  with_reducible assumption; with_reducible assumption

theorem State.applyCal_kept {kq : List Instr} {s : State} {x : Ctx} {m : Nat} {ph : Nat} {mask : Nat} {k : CalKept}
    {cs : List Nat} {gv : Int} {gi : Int} {ti : Int} (hkq : State.Kept kq s) : State.Kept kq (State.applyCal s x m ph
    mask k cs gv gi ti) := by
  unfold State.applyCal; lift_lets -underBinder; intro v13; clear_value v13; intro v14; clear_value v14; intro v15
  refine State.kept_have (q := kq) v15 ?_ (fun hs => ?_); subst v15; refine State.kept_forEach (fun x s h => ?_) _ _ ?_
  with_reducible refine State.copyBank_kept ?_; with_reducible assumption; with_reducible assumption; intro v17
  refine State.kept_have (q := kq) v17 ?_ (fun hs => ?_); clear_value v15; subst v17; refine State.kept_ite ?_ ?_
  with_reducible refine State.wrFitInt_kept ?_; with_reducible assumption; with_reducible assumption; intro v19
  refine State.kept_have (q := kq) v19 ?_ (fun hs => ?_); clear_value v15 v17; subst v19; refine State.kept_ite ?_ ?_
  with_reducible refine State.wrFitInt_kept ?_; with_reducible assumption; with_reducible assumption; intro v21
  refine State.kept_have (q := kq) v21 ?_ (fun hs => ?_); clear_value v15 v17 v19; subst v21
  refine State.kept_ite ?_ ?_; with_reducible refine State.wrFitInt_kept ?_; with_reducible assumption
  with_reducible assumption; intro v23; refine State.kept_have (q := kq) v23 ?_ (fun hs => ?_)
  clear_value v15 v17 v19 v21; subst v23; with_reducible refine State.wrFitInt_kept ?_; with_reducible assumption
  intro v25; refine State.kept_have (q := kq) v25 ?_ (fun hs => ?_); clear_value v15 v17 v19 v21 v23; subst v25
  refine State.kept_ite ?_ ?_; with_reducible refine State.wrFitInt_kept ?_; with_reducible assumption
  with_reducible assumption; intro v27; refine State.kept_have (q := kq) v27 ?_ (fun hs => ?_)
  clear_value v15 v17 v19 v21 v23 v25; subst v27; refine State.kept_forEach (fun x s h => ?_) _ _ ?_
  with_reducible refine State.setCal_kept ?_; with_reducible assumption; with_reducible assumption; intro v29
  refine State.kept_have (q := kq) v29 ?_ (fun hs => ?_); clear_value v15 v17 v19 v21 v23 v25 v27; subst v29
  refine State.kept_forEach (fun x s h => ?_) _ _ ?_; with_reducible refine State.calNote_kept ?_
  with_reducible assumption; with_reducible assumption; intro v31; clear_value v31 v15 v17 v19 v21 v23 v25 v27 v29
  with_reducible refine State.complete_kept (State.startBlend_kept ?_); with_reducible assumption

theorem State.pulseReset_kept {kq : List Instr} {s : State} {k : Nat} (hkq : State.Kept kq s) : State.Kept kq
    (State.pulseReset s k) := by
  unfold State.pulseReset; lift_lets -underBinder; intro v5; clear_value v5; intro v6; clear_value v6; intro v7
  clear_value v7; intro v8; refine State.kept_have (q := kq) v8 ?_ (fun hs => ?_); subst v8
  with_reducible refine State.kept_upd ?_; with_reducible assumption; clear_value v8
  with_reducible refine State.wr_kept ?_; with_reducible assumption

theorem execMetWindowEnd_kept {kq : List Instr} {t : Nat} {m : Nat} {s : State} (hkq : State.Kept kq s) : OutKept kq
    (execMetWindowEnd t m s) := by
  unfold execMetWindowEnd; refine State.kept_next ?_; with_reducible refine onCore_kept ?_ ?_; intro _ _; split
  refine State.kept_ite ?_ ?_; with_reducible refine State.windowEnd_kept ?_; with_reducible assumption
  with_reducible assumption; with_reducible assumption; with_reducible assumption

theorem execDemandSecondRecord_kept {kq : List Instr} {t : Nat} {m : Nat} {s : State} (hkq : State.Kept kq s) :
    OutKept kq (execDemandSecondRecord t m s) := by
  unfold execDemandSecondRecord; refine State.kept_next ?_; with_reducible refine onCore_kept ?_ ?_; intro _ _
  lift_lets -underBinder; intro v8; clear_value v8; refine State.kept_ite ?_ ?_
  with_reducible refine State.secondRecord_kept ?_; with_reducible assumption; with_reducible assumption
  with_reducible assumption

theorem execPqHalfCycle_kept {kq : List Instr} {t : Nat} {m : Nat} {s : State} (hkq : State.Kept kq s) : OutKept kq
    (execPqHalfCycle t m s) := by
  unfold execPqHalfCycle; refine State.kept_next ?_; with_reducible refine onCore_kept ?_ ?_; intro _ _
  refine State.kept_ite ?_ ?_; with_reducible assumption; lift_lets -underBinder; intro v8; clear_value v8; intro v9
  clear_value v9; split; lift_lets -underBinder; intro v16; refine State.kept_have (q := kq) v16 ?_ (fun hs => ?_)
  subst v16; with_reducible refine State.modMp_kept ?_; with_reducible assumption; clear_value v16
  refine State.kept_ite ?_ ?_; with_reducible assumption; with_reducible refine State.pqHalf_kept ?_
  with_reducible assumption; with_reducible assumption; with_reducible assumption

theorem execPulseStart_kept {kq : List Instr} {t : Nat} {k : Nat} {s : State} (hkq : State.Kept kq s) : OutKept kq
    (execPulseStart t k s) := by
  unfold execPulseStart; refine State.kept_next ?_; with_reducible refine onCore_kept ?_ ?_; intro _ _
  lift_lets -underBinder; intro v8; clear_value v8; intro v9; clear_value v9; split; refine State.kept_ite ?_ ?_
  lift_lets -underBinder; intro v16; clear_value v16; intro v17; clear_value v17
  with_reducible refine State.backlog_kept (State.kept_upd ?_); with_reducible assumption; with_reducible assumption
  with_reducible assumption; with_reducible assumption

theorem execPulseEnd_kept {kq : List Instr} {t : Nat} {k : Nat} {s : State} (hkq : State.Kept kq s) : OutKept kq
    (execPulseEnd t k s) := by
  unfold execPulseEnd; refine State.kept_next ?_; with_reducible refine onCore_kept ?_ ?_; intro _ _
  lift_lets -underBinder; intro v8; clear_value v8; intro v9; clear_value v9; intro v10; clear_value v10
  refine State.kept_ite ?_ ?_; with_reducible refine State.backlog_kept (State.kept_upd ?_); with_reducible assumption
  with_reducible assumption; with_reducible assumption

theorem execTcRead_kept {kq : List Instr} {t : Nat} {temp : Int} {s : State} (hkq : State.Kept kq s) : OutKept kq
    (execTcRead t temp s) := by
  unfold execTcRead; refine State.kept_next ?_; with_reducible refine onCore_kept ?_ ?_; intro _ _
  refine State.kept_ite ?_ ?_; with_reducible assumption; lift_lets -underBinder; intro v8; clear_value v8; intro v9
  refine State.kept_have (q := kq) v9 ?_ (fun hs => ?_); subst v9; with_reducible refine State.kept_upd ?_
  with_reducible assumption; intro v11; clear_value v11 v9; refine State.kept_ite ?_ ?_; with_reducible assumption
  refine State.kept_ite ?_ ?_; with_reducible assumption; split; refine State.kept_ite ?_ ?_
  refine State.kept_snd (by with_reducible assumption) ?_; with_reducible refine State.compensateGroups_kept ?_
  with_reducible assumption; with_reducible refine State.raise_kept (State.wrInt_kept ?_)
  refine State.kept_snd (by with_reducible assumption) ?_; with_reducible refine State.compensateGroups_kept ?_
  with_reducible assumption; with_reducible assumption

theorem execMetSessionCloseFinal_kept {kq : List Instr} {t : Nat} {m : Nat} {s : State} (hkq : State.Kept kq s) :
    OutKept kq (execMetSessionCloseFinal t m s) := by
  unfold execMetSessionCloseFinal; refine State.kept_next ?_; with_reducible refine onCore_kept ?_ ?_; intro _ _
  refine State.kept_ite ?_ ?_; with_reducible refine State.closeFinal_kept ?_; with_reducible assumption
  with_reducible assumption; with_reducible assumption

theorem execMetCalMeasureDone_kept {kq : List Instr} {t : Nat} {m : Nat} {s : State} (hkq : State.Kept kq s) : OutKept
    kq (execMetCalMeasureDone t m s) := by
  unfold execMetCalMeasureDone; refine State.kept_next ?_; with_reducible refine onCore_kept ?_ ?_; intro _ _; split
  with_reducible assumption; lift_lets -underBinder; intro v13; clear_value v13; intro v14; clear_value v14; intro v15
  refine State.kept_have (q := kq) v15 ?_ (fun hs => ?_); subst v15; with_reducible refine State.kept_upd ?_
  with_reducible assumption; intro v17; refine State.kept_have (q := kq) v17 ?_ (fun hs => ?_); clear_value v15
  subst v17; refine State.kept_forEach (fun x s h => ?_) _ _ ?_; lift_lets -underBinder; intro v20; clear_value v20
  intro v21; clear_value v21; intro v22; clear_value v22; intro v23
  refine State.kept_have (q := kq) v23 ?_ (fun hs => ?_); subst v23; with_reducible refine State.kept_upd ?_
  with_reducible assumption; clear_value v23; with_reducible refine State.raise_kept ?_; with_reducible assumption
  with_reducible assumption; clear_value v15 v17; refine State.kept_ite ?_ ?_; with_reducible assumption
  refine State.kept_ite ?_ ?_; with_reducible refine State.finalise_kept ?_; with_reducible assumption
  with_reducible refine State.finalise_kept ?_; with_reducible assumption; with_reducible assumption

theorem execMetQuery_kept {kq : List Instr} {x : Ctx} {m : Nat} {s : State} (hkq : State.Kept kq s) : OutKept kq
    (execMetQuery x m s) := by
  unfold execMetQuery; refine State.kept_next ?_; with_reducible refine State.command_kept ?_ ?_
  with_reducible assumption; intro _ _; refine State.kept_ite ?_ ?_; with_reducible refine State.complete_kept ?_
  with_reducible assumption; with_reducible refine State.complete_kept ?_; with_reducible assumption

theorem execMetSessionOpen_kept {kq : List Instr} {x : Ctx} {m : Nat} {sess : Nat} {s : State} (hkq : State.Kept kq s)
    : OutKept kq (execMetSessionOpen x m sess s) := by
  unfold execMetSessionOpen; refine State.kept_next ?_; with_reducible refine State.command_kept ?_ ?_
  with_reducible assumption; intro _ _; split; with_reducible refine State.complete_kept ?_; with_reducible assumption
  with_reducible refine State.complete_kept (State.metOpen_kept ?_); with_reducible assumption

theorem execMetSessionClose_kept {kq : List Instr} {x : Ctx} {m : Nat} {s : State} (hkq : State.Kept kq s) : OutKept
    kq (execMetSessionClose x m s) := by
  unfold execMetSessionClose; refine State.kept_next ?_; with_reducible refine State.command_kept ?_ ?_
  with_reducible assumption; intro _ _; split; with_reducible refine State.complete_kept ?_; with_reducible assumption
  with_reducible refine State.complete_kept (State.metClose_kept ?_); with_reducible assumption

theorem execMetCalMeasure_kept {kq : List Instr} {x : Ctx} {m : Nat} {phases : Nat} {secs : Nat} {s : State} (hkq :
    State.Kept kq s) : OutKept kq (execMetCalMeasure x m phases secs s) := by
  unfold execMetCalMeasure; refine State.kept_next ?_; with_reducible refine State.command_kept ?_ ?_
  with_reducible assumption; intro _ _; refine State.kept_ite ?_ ?_; with_reducible refine State.complete_kept ?_
  with_reducible assumption; refine State.kept_ite ?_ ?_; with_reducible refine State.complete_kept ?_
  with_reducible assumption; refine State.kept_ite ?_ ?_; with_reducible refine State.complete_kept ?_
  with_reducible assumption; lift_lets -underBinder; intro v10; clear_value v10; intro v11
  refine State.kept_have (q := kq) v11 ?_ (fun hs => ?_); subst v11; with_reducible refine State.kept_upd ?_
  with_reducible assumption; clear_value v11; with_reducible refine State.complete_kept ?_; with_reducible assumption

theorem execMetCalApply_kept {kq : List Instr} {x : Ctx} {m : Nat} {ph : Nat} {uRef : Nat} {iRef : Nat} {angleRef :
    Int} {mask : Nat} {s : State} (hkq : State.Kept kq s) : OutKept kq (execMetCalApply x m ph uRef iRef angleRef mask
    s) := by
  unfold execMetCalApply; refine State.kept_next ?_; with_reducible refine State.command_kept ?_ ?_
  with_reducible assumption; intro _ _; refine State.kept_ite ?_ ?_; with_reducible refine State.complete_kept ?_
  with_reducible assumption; refine State.kept_ite ?_ ?_; with_reducible refine State.complete_kept ?_
  with_reducible assumption; split; with_reducible refine State.complete_kept ?_; with_reducible assumption
  lift_lets -underBinder; intro v18; clear_value v18; intro v19; clear_value v19; intro v20; clear_value v20
  refine State.kept_ite ?_ ?_; with_reducible refine State.complete_kept ?_; with_reducible assumption
  refine State.kept_ite ?_ ?_; with_reducible refine State.complete_kept ?_; with_reducible assumption
  refine State.kept_ite ?_ ?_; with_reducible refine State.complete_kept ?_; with_reducible assumption; split
  with_reducible refine State.complete_kept ?_; with_reducible assumption; with_reducible refine State.applyCal_kept ?_
  with_reducible assumption

theorem execMetPulseCfg_kept {kq : List Instr} {x : Ctx} {k : Nat} {image : Nat} {s : State} (hkq : State.Kept kq s) :
    OutKept kq (execMetPulseCfg x k image s) := by
  unfold execMetPulseCfg; refine State.kept_next ?_; with_reducible refine State.command_kept ?_ ?_
  with_reducible assumption; intro _ _; lift_lets -underBinder; intro v9; clear_value v9; intro v10; clear_value v10
  intro v11; clear_value v11; intro v12; clear_value v12; intro v13
  refine State.kept_have (q := kq) v13 ?_ (fun hs => ?_); subst v13; with_reducible refine State.writeFields_kept ?_
  with_reducible assumption; clear_value v13; refine State.kept_ite ?_ ?_; with_reducible refine State.complete_kept ?_
  with_reducible assumption; refine State.kept_ite ?_ ?_; with_reducible refine State.complete_kept ?_
  with_reducible assumption; refine State.kept_ite ?_ ?_; with_reducible refine State.complete_kept ?_
  with_reducible assumption; with_reducible refine State.complete_kept (State.calNote_kept (State.pulseReset_kept ?_))
  with_reducible assumption

theorem execMetHarmRead_kept {kq : List Instr} {x : Ctx} {m : Nat} {ph : Nat} {groups : Nat} {s : State} (hkq :
    State.Kept kq s) : OutKept kq (execMetHarmRead x m ph groups s) := by
  unfold execMetHarmRead; refine State.kept_next ?_; with_reducible refine State.command_kept ?_ ?_
  with_reducible assumption; intro _ _; refine State.kept_ite ?_ ?_; with_reducible refine State.complete_kept ?_
  with_reducible assumption; lift_lets -underBinder; intro v10; clear_value v10
  with_reducible refine State.complete_kept (State.giveBuffer_kept ?_); with_reducible assumption

theorem execMetWaveCapture_kept {kq : List Instr} {x : Ctx} {mask : Nat} {samples : Nat} {s : State} (hkq : State.Kept
    kq s) : OutKept kq (execMetWaveCapture x mask samples s) := by
  unfold execMetWaveCapture; refine State.kept_next ?_; with_reducible refine State.command_kept ?_ ?_
  with_reducible assumption; intro _ _; refine State.kept_ite ?_ ?_; with_reducible refine State.complete_kept ?_
  with_reducible assumption; with_reducible refine State.complete_kept ?_
  refine State.kept_forEach (fun x s h => ?_) _ _ ?_
  with_reducible refine State.setWave_kept (State.setWaveRecs_kept ?_); with_reducible assumption
  with_reducible assumption

theorem execMetWaveStop_kept {kq : List Instr} {x : Ctx} {mask : Nat} {s : State} (hkq : State.Kept kq s) : OutKept kq
    (execMetWaveStop x mask s) := by
  unfold execMetWaveStop; refine State.kept_next ?_; with_reducible refine State.command_kept ?_ ?_
  with_reducible assumption; intro _ _; refine State.kept_ite ?_ ?_; with_reducible refine State.complete_kept ?_
  with_reducible assumption; with_reducible refine State.complete_kept ?_
  refine State.kept_forEach (fun x s h => ?_) _ _ ?_
  with_reducible refine State.setWaveRecs_kept (State.setWave_kept (State.waveBlock_kept ?_)); with_reducible assumption
  with_reducible assumption

theorem State.setOut_kept {kq : List Instr} {s : State} {n : Nat} {p : PilotOut} (hkq : State.Kept kq s) : State.Kept
    kq (State.setOut s n p) := by
  unfold State.setOut; lift_lets -underBinder; intro v6; clear_value v6; intro v7; clear_value v7
  with_reducible refine State.modOutlet_kept (State.wr_kept ?_); with_reducible assumption

theorem State.judgePeriod_kept {kq : List Instr} {s : State} {n : Nat} {high : Int} {low : Int} (hkq : State.Kept kq
    s) : State.Kept kq (State.judgePeriod s n high low) := by
  unfold State.judgePeriod; lift_lets -underBinder; intro v7; clear_value v7; intro v8
  refine State.kept_have (q := kq) v8 ?_ (fun hs => ?_); subst v8
  with_reducible refine State.wrInt_kept (State.wrInt_kept ?_); with_reducible assumption; clear_value v8; split
  with_reducible assumption; lift_lets -underBinder; intro v14; clear_value v14; intro v15; clear_value v15; intro v16
  clear_value v16; with_reducible refine State.modOutlet_kept ?_; with_reducible assumption

theorem State.acceptPilot_kept {kq : List Instr} {s : State} {n : Nat} {p : Pilot} (hkq : State.Kept kq s) :
    State.Kept kq (State.acceptPilot s n p) := by
  unfold State.acceptPilot; lift_lets -underBinder; intro v6; refine State.kept_have (q := kq) v6 ?_ (fun hs => ?_)
  subst v6; with_reducible refine State.modOutlet_kept ?_; with_reducible assumption; intro v8
  refine State.kept_have (q := kq) v8 ?_ (fun hs => ?_); clear_value v6; subst v8; refine State.kept_ite ?_ ?_
  with_reducible refine State.clearAtA_kept ?_; with_reducible assumption; with_reducible assumption; intro v10
  refine State.kept_have (q := kq) v10 ?_ (fun hs => ?_); clear_value v6 v8; subst v10; refine State.kept_ite ?_ ?_
  with_reducible refine State.trip_kept ?_; with_reducible assumption; with_reducible assumption; clear_value v6 v8 v10
  with_reducible refine State.pilotDrives_kept ?_; with_reducible assumption

theorem State.hlcFailed_kept {kq : List Instr} {s : State} {n : Nat} (hkq : State.Kept kq s) : State.Kept kq
    (State.hlcFailed s n) := by
  unfold State.hlcFailed; refine State.kept_ite ?_ ?_; with_reducible assumption; refine State.kept_ite ?_ ?_
  with_reducible refine State.goReady_kept (State.modOutlet_kept (State.wr_kept (State.wr_kept ?_)))
  with_reducible assumption; with_reducible refine State.endSession_kept ?_; with_reducible assumption

theorem State.vehicleAuth_kept {kq : List Instr} {s : State} {n : Nat} {evccid : List Byte} (hkq : State.Kept kq s) :
    State.Kept kq (State.vehicleAuth s n evccid) := by
  unfold State.vehicleAuth; lift_lets -underBinder; intro v6; clear_value v6; intro v7; clear_value v7; split
  with_reducible refine State.authorise_kept ?_; with_reducible assumption; with_reducible refine State.raise_kept ?_
  with_reducible assumption; with_reducible refine State.raise_kept ?_; with_reducible assumption

theorem State.contractAuth_kept {kq : List Instr} {s : State} {n : Nat} {ident : List Byte} {valid : Bool} {ocsp :
    Nat} (hkq : State.Kept kq s) : State.Kept kq (State.contractAuth s n ident valid ocsp) := by
  unfold State.contractAuth; lift_lets -underBinder; intro v8; clear_value v8; intro v9; clear_value v9
  refine State.kept_ite ?_ ?_; with_reducible assumption; refine State.kept_ite ?_ ?_
  with_reducible refine State.endSession_kept (State.raise_kept ?_); with_reducible assumption
  refine State.kept_ite ?_ ?_; with_reducible refine State.endSession_kept (State.raise_kept ?_)
  with_reducible assumption; split; with_reducible refine State.endSession_kept (State.raise_kept ?_)
  with_reducible assumption; with_reducible refine State.authorise_kept ?_; with_reducible assumption
  with_reducible refine State.authorise_kept ?_; with_reducible assumption

theorem State.evStop_kept {kq : List Instr} {s : State} {n : Nat} {delivery : Bool} (hkq : State.Kept kq s) :
    State.Kept kq (State.evStop s n delivery) := by
  unfold State.evStop; lift_lets -underBinder; intro v6; clear_value v6; intro v7; clear_value v7; split
  with_reducible refine State.stopSession_kept ?_; with_reducible assumption; refine State.kept_ite ?_ ?_
  with_reducible refine State.stopSession_kept ?_; with_reducible assumption; refine State.kept_ite ?_ ?_
  with_reducible refine State.modOutlet_kept (State.openOutlet_kept ?_); with_reducible assumption
  with_reducible assumption; with_reducible assumption

theorem State.hlcMessage_kept {kq : List Instr} {s : State} {n : Nat} {msg : HlcMsg} (hkq : State.Kept kq s) :
    State.Kept kq (State.hlcMessage s n msg) := by
  unfold State.hlcMessage; lift_lets -underBinder; intro v6; clear_value v6; intro v7; clear_value v7; split
  refine State.kept_ite ?_ ?_; with_reducible assumption; lift_lets -underBinder; intro v10; clear_value v10; intro v11
  clear_value v11; split; with_reducible refine State.wr_kept ?_; with_reducible assumption
  with_reducible refine State.hlcFailed_kept ?_; with_reducible assumption; refine State.kept_ite ?_ ?_
  with_reducible assumption; refine State.kept_ite ?_ ?_; refine State.kept_ite ?_ ?_
  with_reducible refine State.hlcFailed_kept ?_; with_reducible assumption
  with_reducible refine State.endSession_kept ?_; with_reducible assumption; lift_lets -underBinder; intro v11
  refine State.kept_have (q := kq) v11 ?_ (fun hs => ?_); subst v11; with_reducible refine State.modOutlet_kept ?_
  with_reducible assumption; clear_value v11; refine State.kept_ite ?_ ?_
  with_reducible refine State.vehicleAuth_kept ?_; with_reducible assumption; with_reducible assumption
  refine State.kept_ite ?_ ?_; with_reducible assumption; with_reducible refine State.contractAuth_kept ?_
  with_reducible assumption; lift_lets -underBinder; intro v11; clear_value v11; intro v12
  refine State.kept_have (q := kq) v12 ?_ (fun hs => ?_); subst v12; refine State.kept_ite ?_ ?_
  with_reducible refine State.wr_kept ?_; with_reducible assumption; with_reducible assumption; clear_value v12
  with_reducible refine State.goReady_kept (State.modOutlet_kept ?_); with_reducible assumption
  refine State.kept_ite ?_ ?_; lift_lets -underBinder; intro v10; refine State.kept_have (q := kq) v10 ?_ (fun hs => ?_)
  subst v10; with_reducible refine State.modOutlet_kept ?_; with_reducible assumption; intro v12; clear_value v12 v10
  with_reducible refine State.stageSet_kept ?_; with_reducible assumption; with_reducible assumption
  refine State.kept_ite ?_ ?_; with_reducible refine State.stageSet_kept ?_; with_reducible assumption
  with_reducible assumption; refine State.kept_ite ?_ ?_; with_reducible refine State.modOutlet_kept ?_
  with_reducible assumption; refine State.kept_ite ?_ ?_; with_reducible refine State.stageSet_kept ?_
  with_reducible assumption; with_reducible assumption; with_reducible refine State.evStop_kept ?_
  with_reducible assumption; with_reducible refine State.evStop_kept ?_; with_reducible assumption
  refine State.kept_ite ?_ ?_; with_reducible refine State.stageSet_kept ?_; with_reducible assumption
  with_reducible assumption; refine State.kept_ite ?_ ?_; with_reducible assumption; refine State.kept_ite ?_ ?_
  with_reducible refine State.modOutlet_kept ?_; with_reducible assumption
  with_reducible refine State.hlcFailed_kept ?_; with_reducible assumption; refine State.kept_ite ?_ ?_
  with_reducible refine State.modOutlet_kept ?_; with_reducible assumption; with_reducible assumption
  refine State.kept_ite ?_ ?_; with_reducible assumption
  with_reducible refine State.raise_kept (State.modOutlet_kept ?_); with_reducible assumption
  with_reducible refine State.hlcFailed_kept ?_; with_reducible assumption

theorem State.cfgApplied_kept {kq : List Instr} {s : State} {n : Nat} (hkq : State.Kept kq s) : State.Kept kq
    (State.cfgApplied s n) := by
  unfold State.cfgApplied; lift_lets -underBinder; intro v5; refine State.kept_have (q := kq) v5 ?_ (fun hs => ?_)
  subst v5; refine State.kept_ite ?_ ?_; with_reducible refine State.offer_kept ?_; with_reducible assumption
  with_reducible assumption; intro v7; clear_value v7; intro v8; clear_value v8; intro v9
  refine State.kept_have (q := kq) v9 ?_ (fun hs => ?_); clear_value v5; subst v9
  with_reducible refine State.modOutlet_kept ?_; with_reducible assumption; intro v11
  refine State.kept_have (q := kq) v11 ?_ (fun hs => ?_); clear_value v5 v9; subst v11; refine State.kept_ite ?_ ?_
  with_reducible refine State.setSess_kept ?_; with_reducible assumption; with_reducible assumption
  clear_value v5 v9 v11; refine State.kept_ite ?_ ?_; with_reducible assumption; refine State.kept_ite ?_ ?_
  with_reducible refine State.reserveHost_kept ?_; with_reducible assumption
  with_reducible refine State.wr_kept (State.wr_kept ?_); with_reducible assumption

theorem execPilotStateAccept_kept {kq : List Instr} {t : Nat} {n : Nat} {s : State} (hkq : State.Kept kq s) : OutKept
    kq (execPilotStateAccept t n s) := by
  unfold execPilotStateAccept; refine State.kept_next ?_; with_reducible refine onEvent_kept ?_ ?_; intro _ _
  lift_lets -underBinder; intro v8; clear_value v8; split; refine State.kept_ite ?_ ?_
  with_reducible refine State.acceptPilot_kept ?_; with_reducible assumption; with_reducible assumption
  with_reducible assumption; with_reducible assumption

theorem execPilotDiodeFault_kept {kq : List Instr} {t : Nat} {n : Nat} {s : State} (hkq : State.Kept kq s) : OutKept
    kq (execPilotDiodeFault t n s) := by
  unfold execPilotDiodeFault; refine State.kept_next ?_; with_reducible refine onEvent_kept ?_ ?_; intro _ _
  lift_lets -underBinder; intro v8; clear_value v8; intro v9; refine State.kept_have (q := kq) v9 ?_ (fun hs => ?_)
  subst v9; with_reducible refine State.wr_kept ?_; with_reducible assumption; intro v11
  refine State.kept_have (q := kq) v11 ?_ (fun hs => ?_); clear_value v9; subst v11
  with_reducible refine State.modOutlet_kept ?_; with_reducible assumption; clear_value v9 v11
  refine State.kept_ite ?_ ?_; refine State.kept_ite ?_ ?_; with_reducible refine State.faultSession_kept ?_
  with_reducible assumption; with_reducible assumption; with_reducible assumption; with_reducible assumption

theorem execPilotPwmPeriod_kept {kq : List Instr} {t : Nat} {n : Nat} {high : Int} {low : Int} {s : State} (hkq :
    State.Kept kq s) : OutKept kq (execPilotPwmPeriod t n high low s) := by
  unfold execPilotPwmPeriod; refine State.kept_next ?_; with_reducible refine onEvent_kept ?_ ?_; intro _ _
  refine State.kept_ite ?_ ?_; with_reducible assumption; lift_lets -underBinder; intro v10
  refine State.kept_have (q := kq) v10 ?_ (fun hs => ?_); subst v10
  with_reducible refine State.modOutlet_kept (State.judgePeriod_kept ?_); with_reducible assumption; intro v12
  clear_value v12; intro v13; refine State.kept_have (q := kq) v13 ?_ (fun hs => ?_); clear_value v10; subst v13
  refine State.kept_ite ?_ ?_; with_reducible assumption; with_reducible refine State.kept_upd ?_
  with_reducible assumption; clear_value v10 v13; split; refine State.kept_ite ?_ ?_
  with_reducible refine State.modOutlet_kept ?_; with_reducible assumption; with_reducible refine State.setOut_kept ?_
  with_reducible assumption; with_reducible assumption; with_reducible assumption

theorem execProximityRead_kept {kq : List Instr} {t : Nat} {n : Nat} {ohms : Nat} {s : State} (hkq : State.Kept kq s)
    : OutKept kq (execProximityRead t n ohms s) := by
  unfold execProximityRead; refine State.kept_next ?_; with_reducible refine onEvent_kept ?_ ?_; intro _ _
  refine State.kept_ite ?_ ?_; with_reducible assumption; lift_lets -underBinder; intro v9; clear_value v9; split
  lift_lets -underBinder; intro v16; clear_value v16; intro v17; refine State.kept_have (q := kq) v17 ?_ (fun hs => ?_)
  subst v17; with_reducible refine State.modOutlet_kept ?_; with_reducible assumption; intro v19
  refine State.kept_have (q := kq) v19 ?_ (fun hs => ?_); clear_value v17; subst v19
  with_reducible refine State.wr_kept ?_; with_reducible assumption; intro v21
  refine State.kept_have (q := kq) v21 ?_ (fun hs => ?_); clear_value v17 v19; subst v21; refine State.kept_ite ?_ ?_
  with_reducible refine State.raise_kept ?_; with_reducible assumption; with_reducible assumption; intro v23
  refine State.kept_have (q := kq) v23 ?_ (fun hs => ?_); clear_value v17 v19 v21; subst v23
  refine State.kept_ite ?_ ?_; with_reducible refine State.offerW_kept ?_; with_reducible assumption
  with_reducible assumption; intro v25; clear_value v25 v17 v19 v21 v23; refine State.kept_ite ?_ ?_
  with_reducible refine State.stopSession_kept ?_; with_reducible assumption; refine State.kept_ite ?_ ?_
  with_reducible refine State.applyAlloc_kept ?_; with_reducible assumption; with_reducible assumption
  with_reducible assumption

theorem execAuthTimeout_kept {kq : List Instr} {t : Nat} {n : Nat} {s : State} (hkq : State.Kept kq s) : OutKept kq
    (execAuthTimeout t n s) := by
  unfold execAuthTimeout; refine State.kept_next ?_; with_reducible refine onEvent_kept ?_ ?_; intro _ _
  lift_lets -underBinder; intro v8; clear_value v8; split; refine State.kept_ite ?_ ?_
  with_reducible refine State.endSession_kept ?_; with_reducible assumption; with_reducible assumption
  with_reducible assumption; with_reducible assumption

theorem execHlcMessage_kept {kq : List Instr} {t : Nat} {n : Nat} {msg : HlcMsg} {s : State} (hkq : State.Kept kq s) :
    OutKept kq (execHlcMessage t n msg s) := by
  unfold execHlcMessage; refine State.kept_next ?_; with_reducible refine onEvent_kept ?_ ?_; intro _ _
  refine State.kept_ite ?_ ?_; with_reducible refine State.hlcMessage_kept ?_; with_reducible assumption
  with_reducible assumption; with_reducible assumption

theorem execHlcTimeout_kept {kq : List Instr} {t : Nat} {n : Nat} {s : State} (hkq : State.Kept kq s) : OutKept kq
    (execHlcTimeout t n s) := by
  unfold execHlcTimeout; refine State.kept_next ?_; with_reducible refine onEvent_kept ?_ ?_; intro _ _
  refine State.kept_ite ?_ ?_; with_reducible refine State.hlcFailed_kept ?_; with_reducible assumption
  with_reducible assumption; with_reducible assumption

theorem execPreauthTimeout_kept {kq : List Instr} {t : Nat} {s : State} (hkq : State.Kept kq s) : OutKept kq
    (execPreauthTimeout t s) := by
  unfold execPreauthTimeout; refine State.kept_next ?_; with_reducible refine onEvent_kept ?_ ?_; intro _ _; split
  refine State.kept_ite ?_ ?_; with_reducible refine State.kept_upd ?_; with_reducible assumption
  with_reducible assumption; with_reducible assumption; with_reducible assumption

theorem execOutConfig_kept {kq : List Instr} {x : Ctx} {n : Nat} {cfg : Nat} {dc : Nat} {s : State} (hkq : State.Kept
    kq s) : OutKept kq (execOutConfig x n cfg dc s) := by
  unfold execOutConfig; refine State.kept_next ?_; with_reducible refine State.command_kept ?_ ?_
  with_reducible assumption; intro _ _; refine State.kept_ite ?_ ?_; with_reducible refine State.complete_kept ?_
  with_reducible assumption; refine State.kept_ite ?_ ?_; with_reducible refine State.complete_kept ?_
  with_reducible assumption; refine State.kept_ite ?_ ?_; with_reducible refine State.complete_kept ?_
  with_reducible assumption; lift_lets -underBinder; intro v10; refine State.kept_have (q := kq) v10 ?_ (fun hs => ?_)
  subst v10; refine State.kept_forEach (fun x s h => ?_) _ _ ?_; with_reducible refine State.wrSave_kept ?_
  with_reducible assumption; with_reducible assumption; intro v12
  refine State.kept_have (q := kq) v12 ?_ (fun hs => ?_); clear_value v10; subst v12
  refine State.kept_forEach (fun x s h => ?_) _ _ ?_; with_reducible refine State.wrSave_kept ?_
  with_reducible assumption; with_reducible assumption; clear_value v10 v12
  with_reducible refine State.complete_kept (State.cfgApplied_kept ?_); with_reducible assumption

theorem execOutAvailability_kept {kq : List Instr} {x : Ctx} {n : Nat} {mode : Nat} {s : State} (hkq : State.Kept kq
    s) : OutKept kq (execOutAvailability x n mode s) := by
  unfold execOutAvailability; refine State.kept_next ?_; with_reducible refine State.command_kept ?_ ?_
  with_reducible assumption; intro _ _; lift_lets -underBinder; intro v9; clear_value v9; intro v10
  refine State.kept_have (q := kq) v10 ?_ (fun hs => ?_); subst v10; with_reducible refine State.modOutlet_kept ?_
  with_reducible assumption; intro v12; refine State.kept_have (q := kq) v12 ?_ (fun hs => ?_); clear_value v10
  subst v12; refine State.kept_ite ?_ ?_
  with_reducible refine State.setSess_kept (State.offer_kept (State.cableRebind_kept ?_)); with_reducible assumption
  with_reducible assumption; intro v14; refine State.kept_have (q := kq) v14 ?_ (fun hs => ?_); clear_value v10 v12
  subst v14; with_reducible refine State.modOutlet_kept ?_; with_reducible assumption; intro v16
  refine State.kept_have (q := kq) v16 ?_ (fun hs => ?_); clear_value v10 v12 v14; subst v16
  refine State.kept_ite ?_ ?_; refine State.kept_ite ?_ ?_; with_reducible refine State.stopSession_kept ?_
  with_reducible assumption; refine State.kept_ite ?_ ?_
  with_reducible refine State.endOrWait_kept (State.caskSafety_kept ?_); with_reducible assumption
  with_reducible assumption; refine State.kept_ite ?_ ?_; refine State.kept_ite ?_ ?_
  with_reducible refine State.stopHosted_kept (State.caskSafety_kept ?_); with_reducible assumption
  with_reducible assumption; refine State.kept_ite ?_ ?_; with_reducible refine State.setSess_kept (State.offer_kept ?_)
  with_reducible assumption; with_reducible assumption; clear_value v10 v12 v14 v16; refine State.kept_ite ?_ ?_
  with_reducible refine State.complete_kept ?_; with_reducible assumption; refine State.kept_ite ?_ ?_
  refine State.kept_ite ?_ ?_; with_reducible refine State.complete_kept ?_; with_reducible assumption
  refine State.kept_ite ?_ ?_; with_reducible refine State.complete_kept (State.cableRebind_kept ?_)
  with_reducible assumption; with_reducible refine State.complete_kept ?_; with_reducible assumption
  with_reducible refine State.complete_kept ?_; with_reducible assumption

theorem execSessionAuthorise_kept {kq : List Instr} {x : Ctx} {n : Nat} {kind : Nat} {ident : List Byte} {s : State}
    (hkq : State.Kept kq s) : OutKept kq (execSessionAuthorise x n kind ident s) := by
  unfold execSessionAuthorise; refine State.kept_next ?_; with_reducible refine State.command_kept ?_ ?_
  with_reducible assumption; intro _ _; lift_lets -underBinder; intro v10; clear_value v10; intro v11; clear_value v11
  refine State.kept_ite ?_ ?_; with_reducible refine State.complete_kept ?_; with_reducible assumption
  refine State.kept_ite ?_ ?_; refine State.kept_ite ?_ ?_; with_reducible refine State.complete_kept ?_
  with_reducible assumption; with_reducible refine State.complete_kept (State.kept_upd ?_); with_reducible assumption
  refine State.kept_ite ?_ ?_; with_reducible refine State.complete_kept ?_; with_reducible assumption
  refine State.kept_ite ?_ ?_; with_reducible refine State.complete_kept ?_; with_reducible assumption
  refine State.kept_ite ?_ ?_; with_reducible refine State.complete_kept ?_; with_reducible assumption
  with_reducible refine State.complete_kept (State.authorise_kept ?_); with_reducible assumption

theorem State.stopOne_kept {kq : List Instr} {s : State} {n : Nat} (hkq : State.Kept kq s) : State.Kept kq
    (State.stopOne s n) := by
  unfold State.stopOne; split; with_reducible refine State.stopSession_kept ?_; with_reducible assumption
  with_reducible refine State.stopSession_kept ?_; with_reducible assumption
  with_reducible refine State.stopSession_kept ?_; with_reducible assumption
  with_reducible refine State.endOrWait_kept (State.caskSafety_kept ?_); with_reducible assumption
  with_reducible assumption

theorem State.sessionStop_kept {kq : List Instr} {s : State} {mask : Nat} (hkq : State.Kept kq s) : State.Kept kq
    (State.sessionStop s mask).2 := by
  unfold State.sessionStop; lift_lets -underBinder; intro v5; clear_value v5; intro v6; clear_value v6; intro v7
  clear_value v7; intro v8; clear_value v8; intro v9; refine State.kept_have (q := kq) v9 ?_ (fun hs => ?_); subst v9
  refine State.kept_forEach (fun x s h => ?_) _ _ ?_
  with_reducible refine State.stopHosted_kept (State.caskSafety_kept ?_); with_reducible assumption
  with_reducible assumption; clear_value v9; refine State.kept_ite1 ?_ ?_; dsimp only
  refine State.kept_forEach (fun x s h => ?_) _ _ ?_
  with_reducible refine State.stopOne_kept (State.caskSafety_kept ?_); with_reducible assumption
  with_reducible assumption; dsimp only; with_reducible assumption

theorem State.outErem_kept {kq : List Instr} {s : State} {mask : Nat} (hkq : State.Kept kq s) : State.Kept kq
    (State.outErem s mask) := by
  unfold State.outErem; refine State.kept_forEach (fun x s h => ?_) _ _ ?_; lift_lets -underBinder; intro v8
  refine State.kept_have (q := kq) v8 ?_ (fun hs => ?_); subst v8; with_reducible refine State.erem_kept ?_
  with_reducible assumption; clear_value v8; refine State.kept_ite ?_ ?_
  with_reducible refine State.faultSession_kept ?_; with_reducible assumption; with_reducible assumption
  with_reducible assumption

theorem execSessionStop_kept {kq : List Instr} {x : Ctx} {mask : Nat} {peer : Nat} {s : State} (hkq : State.Kept kq s)
    : OutKept kq (execSessionStop x mask peer s) := by
  unfold execSessionStop; refine State.kept_next ?_; with_reducible refine State.command_kept ?_ ?_
  with_reducible assumption; intro _ _; refine State.kept_ite ?_ ?_; with_reducible refine State.forwardStop_kept ?_
  with_reducible assumption; split; with_reducible refine State.complete_kept ?_
  refine State.kept_snd (by with_reducible assumption) ?_; with_reducible refine State.sessionStop_kept ?_
  with_reducible assumption

theorem execOutErem_kept {kq : List Instr} {x : Ctx} {mask : Nat} {peer : Nat} {s : State} (hkq : State.Kept kq s) :
    OutKept kq (execOutErem x mask peer s) := by
  unfold execOutErem; refine State.kept_next ?_; with_reducible refine State.command_kept ?_ ?_
  with_reducible assumption; intro _ _; refine State.kept_ite ?_ ?_; with_reducible refine State.forwardStop_kept ?_
  with_reducible assumption; with_reducible refine State.complete_kept (State.outErem_kept ?_)
  with_reducible assumption

theorem execOutSiteLimit_kept {kq : List Instr} {x : Ctx} {watts : Nat} {s : State} (hkq : State.Kept kq s) : OutKept
    kq (execOutSiteLimit x watts s) := by
  unfold execOutSiteLimit; refine State.kept_next ?_; with_reducible refine State.command_kept ?_ ?_
  with_reducible assumption; intro _ _; refine State.kept_ite ?_ ?_; with_reducible refine State.complete_kept ?_
  with_reducible assumption; with_reducible refine State.complete_kept (State.wrSave_kept ?_); with_reducible assumption

theorem execSessionSetClass_kept {kq : List Instr} {x : Ctx} {n : Nat} {cls : Nat} {s : State} (hkq : State.Kept kq s)
    : OutKept kq (execSessionSetClass x n cls s) := by
  unfold execSessionSetClass; refine State.kept_next ?_; with_reducible refine State.command_kept ?_ ?_
  with_reducible assumption; intro _ _; refine State.kept_ite ?_ ?_; with_reducible refine State.complete_kept ?_
  with_reducible assumption; refine State.kept_ite ?_ ?_; with_reducible refine State.complete_kept ?_
  with_reducible assumption; with_reducible refine State.complete_kept (State.modOutlet_kept ?_)
  with_reducible assumption

theorem execSessionQuery_kept {kq : List Instr} {x : Ctx} {n : Nat} {s : State} (hkq : State.Kept kq s) : OutKept kq
    (execSessionQuery x n s) := by
  unfold execSessionQuery; refine State.kept_next ?_; with_reducible refine State.command_kept ?_ ?_
  with_reducible assumption; intro _ _; refine State.kept_ite ?_ ?_; with_reducible refine State.complete_kept ?_
  with_reducible assumption; with_reducible refine State.complete_kept ?_; with_reducible assumption

theorem execOutSelect_kept {kq : List Instr} {x : Ctx} {n : Nat} {s : State} (hkq : State.Kept kq s) : OutKept kq
    (execOutSelect x n s) := by
  unfold execOutSelect; refine State.kept_next ?_; with_reducible refine State.command_kept ?_ ?_
  with_reducible assumption; intro _ _; split; with_reducible refine State.complete_kept ?_; with_reducible assumption
  refine State.kept_ite ?_ ?_; with_reducible refine State.complete_kept ?_; with_reducible assumption
  refine State.kept_ite ?_ ?_; with_reducible refine State.complete_kept ?_; with_reducible assumption
  refine State.kept_ite ?_ ?_; with_reducible refine State.complete_kept (State.authoriseCard_kept (State.kept_upd ?_))
  with_reducible assumption; with_reducible refine State.complete_kept (State.kept_upd ?_); with_reducible assumption

theorem execOutContactor_kept {kq : List Instr} {x : Ctx} {n : Nat} {close : Bool} {s : State} (hkq : State.Kept kq s)
    : OutKept kq (execOutContactor x n close s) := by
  unfold execOutContactor; refine State.kept_next ?_; with_reducible refine State.command_kept ?_ ?_
  with_reducible assumption; intro _ _; refine State.kept_ite ?_ ?_; with_reducible refine State.complete_kept ?_
  with_reducible assumption; refine State.kept_ite ?_ ?_; with_reducible refine State.complete_kept ?_
  with_reducible assumption; refine State.kept_ite ?_ ?_
  with_reducible refine State.complete_kept (State.openOutlet_kept (State.dropClose_kept ?_)); with_reducible assumption
  refine State.kept_ite ?_ ?_; with_reducible refine State.complete_kept ?_; with_reducible assumption
  with_reducible refine State.modOutlet_kept (State.testSensor_kept ?_); with_reducible assumption

theorem execOutPilotDuty_kept {kq : List Instr} {x : Ctx} {n : Nat} {duty : Nat} {s : State} (hkq : State.Kept kq s) :
    OutKept kq (execOutPilotDuty x n duty s) := by
  unfold execOutPilotDuty; refine State.kept_next ?_; with_reducible refine State.command_kept ?_ ?_
  with_reducible assumption; intro _ _; refine State.kept_ite ?_ ?_; with_reducible refine State.complete_kept ?_
  with_reducible assumption; refine State.kept_ite ?_ ?_; with_reducible refine State.complete_kept ?_
  with_reducible assumption; split; with_reducible refine State.complete_kept (State.raise_kept ?_)
  with_reducible assumption; with_reducible refine State.complete_kept (State.offer_kept ?_); with_reducible assumption

theorem execOutPmSetpoint_kept {kq : List Instr} {x : Ctx} {n : Nat} {mode : Nat} {volts : Nat} {amps : Nat} {watts :
    Nat} {s : State} (hkq : State.Kept kq s) : OutKept kq (execOutPmSetpoint x n mode volts amps watts s) := by
  unfold execOutPmSetpoint; refine State.kept_next ?_; with_reducible refine State.command_kept ?_ ?_
  with_reducible assumption; intro _ _; refine State.kept_ite ?_ ?_; with_reducible refine State.complete_kept ?_
  with_reducible assumption; refine State.kept_ite ?_ ?_; with_reducible refine State.complete_kept ?_
  with_reducible assumption; split; with_reducible refine State.complete_kept (State.raise_kept ?_)
  with_reducible assumption; with_reducible refine State.complete_kept (State.stageSet_kept ?_)
  with_reducible assumption

theorem execOutCertResponse_kept {kq : List Instr} {x : Ctx} {n : Nat} {valid : Bool} {data : List Byte} {s : State}
    (hkq : State.Kept kq s) : OutKept kq (execOutCertResponse x n valid data s) := by
  unfold execOutCertResponse; refine State.kept_next ?_; with_reducible refine State.command_kept ?_ ?_
  with_reducible assumption; intro _ _; refine State.kept_ite ?_ ?_; with_reducible refine State.complete_kept ?_
  with_reducible assumption; refine State.kept_ite ?_ ?_
  with_reducible refine State.complete_kept (State.raise_kept ?_); with_reducible assumption
  refine State.kept_ite ?_ ?_; with_reducible refine State.complete_kept ?_; with_reducible assumption
  with_reducible refine State.complete_kept (State.modOutlet_kept ?_); with_reducible assumption

end Sys2Proof.Machine
end

