-- ==== Sys2Proof/Laws/KeepPower.lean ====
section
/-! SUPPORT. What the power, safety and register commands keep. -/

namespace Sys2Proof.Machine

theorem State.loseClock_kept {kq : List Instr} {s : State} (hkq : State.Kept kq s) : State.Kept kq (State.loseClock s)
    := by
  unfold State.loseClock; refine State.kept_ite ?_ ?_; with_reducible assumption; lift_lets -underBinder; intro v4
  clear_value v4; intro v5; clear_value v5; intro v6; refine State.kept_have (q := kq) v6 ?_ (fun hs => ?_); subst v6
  with_reducible refine State.kept_upd ?_; with_reducible assumption; clear_value v6
  with_reducible refine State.wr_kept (State.wr_kept ?_); with_reducible assumption

theorem State.railShow_kept {kq : List Instr} {s : State} {r : Nat} {mv : Int} (hkq : State.Kept kq s) : State.Kept kq
    (State.railShow s r mv) := by
  unfold State.railShow; lift_lets -underBinder; intro v6; refine State.kept_have (q := kq) v6 ?_ (fun hs => ?_)
  subst v6; with_reducible refine State.wrInt_kept ?_; with_reducible assumption; clear_value v6
  refine State.kept_ite ?_ ?_; with_reducible refine State.wr_kept ?_; with_reducible assumption
  refine State.kept_ite ?_ ?_; with_reducible refine State.wr_kept ?_; with_reducible assumption
  with_reducible assumption

theorem State.vanaShow_kept {kq : List Instr} {s : State} (hkq : State.Kept kq s) : State.Kept kq (State.vanaShow s)
    := by
  unfold State.vanaShow; lift_lets -underBinder; intro v4; refine State.kept_have (q := kq) v4 ?_ (fun hs => ?_)
  subst v4; refine State.kept_forEach (fun x s h => ?_) _ _ ?_; lift_lets -underBinder; intro v7; clear_value v7
  with_reducible refine State.setFlag_kept (State.setFlag_kept ?_); with_reducible assumption; with_reducible assumption
  clear_value v4; with_reducible refine State.mpEvalAll_kept (State.trkRefreshAll_kept ?_); with_reducible assumption

theorem State.failRestart_kept {kq : List Instr} {s : State} {cause : Nat} {feed : List Feed} {whole : Bool} (hkq :
    State.Kept kq s) : State.Kept kq (State.failRestart s cause feed whole) := by
  unfold State.failRestart; lift_lets -underBinder; intro v7; clear_value v7; intro v8
  refine State.kept_have (q := kq) v8 ?_ (fun hs => ?_); subst v8; refine State.kept_ite ?_ ?_
  with_reducible refine State.wr_kept (State.pourSteps_kept ?_); with_reducible assumption
  with_reducible refine State.wr_kept ?_; with_reducible assumption; intro v10; clear_value v10; intro v11
  refine State.kept_have (q := kq) v11 ?_ (fun hs => ?_); clear_value v8; subst v11
  with_reducible refine State.kept_upd ?_; with_reducible assumption; intro v13; clear_value v13; intro v14
  refine State.kept_have (q := kq) v14 ?_ (fun hs => ?_); clear_value v8 v11; subst v14
  with_reducible refine State.kept_upd ?_; with_reducible assumption; clear_value v8 v11 v14
  with_reducible refine State.softRestart_kept ?_; with_reducible assumption

theorem State.railAct_kept {kq : List Instr} {s : State} {r : Nat} {ov : Bool} {mv : Int} {feed : List Feed} {whole :
    Bool} (hkq : State.Kept kq s) : State.Kept kq (State.railAct s r ov mv feed whole) := by
  unfold State.railAct; split; refine State.kept_ite ?_ ?_; with_reducible assumption
  with_reducible refine State.lastPour_kept ?_; with_reducible assumption; refine State.kept_ite ?_ ?_
  with_reducible assumption; with_reducible refine State.raise_kept (State.wr_kept ?_); with_reducible assumption
  with_reducible assumption; with_reducible refine State.failRestart_kept ?_; with_reducible assumption
  with_reducible refine State.failRestart_kept ?_; with_reducible assumption
  with_reducible refine State.failRestart_kept ?_; with_reducible assumption
  with_reducible refine State.vanaShow_kept ?_; with_reducible assumption
  refine State.kept_forEach (fun x s h => ?_) _ _ ?_; with_reducible refine State.trip_kept ?_
  with_reducible assumption; with_reducible assumption; refine State.kept_forEach (fun x s h => ?_) _ _ ?_
  with_reducible refine State.trip_kept ?_; with_reducible assumption; with_reducible assumption
  with_reducible refine State.loseClock_kept ?_; with_reducible assumption; refine State.kept_ite ?_ ?_
  with_reducible assumption; with_reducible refine State.vlsLow_kept ?_; with_reducible assumption

theorem State.railFails_kept {kq : List Instr} {s : State} {r : Nat} {ov : Bool} {mv : Int} {feed : List Feed} {whole
    : Bool} (hkq : State.Kept kq s) : State.Kept kq (State.railFails s r ov mv feed whole) := by
  unfold State.railFails; refine State.kept_ite ?_ ?_; with_reducible assumption; lift_lets -underBinder; intro v9
  refine State.kept_have (q := kq) v9 ?_ (fun hs => ?_); subst v9; with_reducible refine State.railShow_kept ?_
  with_reducible assumption; intro v11; clear_value v11; intro v12
  refine State.kept_have (q := kq) v12 ?_ (fun hs => ?_); clear_value v9; subst v12
  with_reducible refine State.raise_kept (State.incSat_kept (State.wr_kept ?_)); with_reducible assumption
  clear_value v9 v12; refine State.kept_ite ?_ ?_; with_reducible assumption
  with_reducible refine State.railAct_kept ?_; with_reducible assumption

theorem State.railBack_kept {kq : List Instr} {s : State} {r : Nat} {mv : Int} (hkq : State.Kept kq s) : State.Kept kq
    (State.railBack s r mv) := by
  unfold State.railBack; refine State.kept_ite ?_ ?_; with_reducible assumption; lift_lets -underBinder; intro v6
  refine State.kept_have (q := kq) v6 ?_ (fun hs => ?_); subst v6
  with_reducible refine State.wr_kept (State.wr_kept (State.railShow_kept ?_)); with_reducible assumption; intro v8
  refine State.kept_have (q := kq) v8 ?_ (fun hs => ?_); clear_value v6; subst v8
  with_reducible refine State.raise_kept ?_; with_reducible assumption; clear_value v6 v8; refine State.kept_ite ?_ ?_
  with_reducible refine State.wr_kept ?_; with_reducible assumption; refine State.kept_ite ?_ ?_
  with_reducible refine State.vanaShow_kept ?_; with_reducible assumption; with_reducible assumption

theorem State.shutOutlets_kept {kq : List Instr} {s : State} (hkq : State.Kept kq s) : State.Kept kq
    (State.shutOutlets s) := by
  unfold State.shutOutlets; refine State.kept_forEach (fun x s h => ?_) _ _ ?_; split
  with_reducible refine State.stopSession_kept ?_; with_reducible assumption
  with_reducible refine State.stopSession_kept ?_; with_reducible assumption
  with_reducible refine State.stopSession_kept ?_; with_reducible assumption; with_reducible assumption
  refine State.kept_ite ?_ ?_; with_reducible refine State.endSession_kept ?_; with_reducible assumption
  with_reducible assumption; with_reducible assumption

theorem State.lowSidesOff_kept {kq : List Instr} {s : State} (hkq : State.Kept kq s) : State.Kept kq
    (State.lowSidesOff s) := by
  unfold State.lowSidesOff; lift_lets -underBinder; intro v4; refine State.kept_have (q := kq) v4 ?_ (fun hs => ?_)
  subst v4; refine State.kept_forEach (fun x s h => ?_) _ _ ?_; with_reducible refine State.noteOpening_kept ?_
  with_reducible assumption; with_reducible assumption; clear_value v4
  refine State.kept_forEach (fun x s h => ?_) _ _ ?_; with_reducible refine State.modCoil_kept ?_
  with_reducible assumption; with_reducible assumption

theorem State.tempTaken_kept {kq : List Instr} {s : State} {k : Nat} {c : Int} (hkq : State.Kept kq s) : State.Kept kq
    (State.tempTaken s k c) := by
  unfold State.tempTaken; refine State.kept_ite ?_ ?_; with_reducible assumption; lift_lets -underBinder; intro v6
  clear_value v6; intro v7; clear_value v7; intro v8; clear_value v8; intro v9
  refine State.kept_have (q := kq) v9 ?_ (fun hs => ?_); subst v9
  with_reducible refine State.wr_kept (State.wr_kept ?_); with_reducible assumption; intro v11
  refine State.kept_have (q := kq) v11 ?_ (fun hs => ?_); clear_value v9; subst v11; refine State.kept_ite ?_ ?_
  with_reducible assumption; with_reducible refine State.raise_kept (State.wr_kept ?_); with_reducible assumption
  intro v13; refine State.kept_have (q := kq) v13 ?_ (fun hs => ?_); clear_value v9 v11; subst v13
  refine State.kept_ite ?_ ?_; with_reducible refine State.alert_kept ?_; with_reducible assumption
  with_reducible assumption; intro v15; refine State.kept_have (q := kq) v15 ?_ (fun hs => ?_); clear_value v9 v11 v13
  subst v15; refine State.kept_ite ?_ ?_; with_reducible refine State.wr_kept ?_; with_reducible assumption
  with_reducible assumption; intro v17; refine State.kept_have (q := kq) v17 ?_ (fun hs => ?_)
  clear_value v9 v11 v13 v15; subst v17; with_reducible refine State.wr_kept ?_; with_reducible assumption; intro v19
  clear_value v19; intro v20; refine State.kept_have (q := kq) v20 ?_ (fun hs => ?_); clear_value v9 v11 v13 v15 v17
  subst v20; with_reducible refine State.kept_upd ?_; with_reducible assumption; intro v22
  refine State.kept_have (q := kq) v22 ?_ (fun hs => ?_); clear_value v9 v11 v13 v15 v17 v20; subst v22
  refine State.kept_ite ?_ ?_; with_reducible refine State.shutOutlets_kept ?_; with_reducible assumption
  with_reducible assumption; intro v24; refine State.kept_have (q := kq) v24 ?_ (fun hs => ?_)
  clear_value v9 v11 v13 v15 v17 v20 v22; subst v24; refine State.kept_ite ?_ ?_
  with_reducible refine State.lowSidesOff_kept ?_; with_reducible assumption; with_reducible assumption; intro v26
  refine State.kept_have (q := kq) v26 ?_ (fun hs => ?_); clear_value v9 v11 v13 v15 v17 v20 v22 v24; subst v26
  with_reducible refine State.wr_kept (State.wr_kept ?_); with_reducible assumption; intro v28
  clear_value v28 v9 v11 v13 v15 v17 v20 v22 v24 v26; refine State.kept_ite ?_ ?_
  with_reducible refine State.dispWake_kept (State.kept_upd ?_); with_reducible assumption; with_reducible assumption

theorem State.enterMeter_kept {kq : List Instr} {s : State} (hkq : State.Kept kq s) : State.Kept kq (State.enterMeter
    s) := by
  unfold State.enterMeter; lift_lets -underBinder; intro v4; refine State.kept_have (q := kq) v4 ?_ (fun hs => ?_)
  subst v4; with_reducible refine State.islandStop_kept (State.islandStop_kept ?_); with_reducible assumption; intro v6
  refine State.kept_have (q := kq) v6 ?_ (fun hs => ?_); clear_value v4; subst v6; refine State.kept_ite ?_ ?_
  with_reducible assumption; with_reducible refine State.islandStop_kept ?_; with_reducible assumption
  clear_value v4 v6; with_reducible refine State.raise_kept (State.meterDisp_kept (State.wr_kept ?_))
  with_reducible assumption

theorem State.pilotB_kept {kq : List Instr} {s : State} {n : Nat} {level : Int} (hkq : State.Kept kq s) : State.Kept
    kq (State.pilotB s n level) := by
  unfold State.pilotB; refine State.kept_ite ?_ ?_; with_reducible refine State.modOs_kept ?_; with_reducible assumption
  lift_lets -underBinder; intro v6; clear_value v6; intro v7; refine State.kept_have (q := kq) v7 ?_ (fun hs => ?_)
  subst v7; with_reducible refine State.modOs_kept ?_; with_reducible assumption; intro v9; clear_value v9; intro v10
  refine State.kept_have (q := kq) v10 ?_ (fun hs => ?_); clear_value v7; subst v10; split; refine State.kept_ite ?_ ?_
  lift_lets -underBinder; intro v12; refine State.kept_have (q := kq) v12 ?_ (fun hs => ?_); subst v12
  with_reducible refine State.modOs_kept ?_; with_reducible assumption; clear_value v12; refine State.kept_ite ?_ ?_
  with_reducible refine State.testSensor_kept (State.modOs_kept ?_); with_reducible assumption
  with_reducible assumption; with_reducible assumption; with_reducible assumption; clear_value v7 v10
  refine State.kept_ite ?_ ?_; with_reducible refine State.trip_kept ?_; with_reducible assumption
  with_reducible assumption

theorem State.followHigh_kept {kq : List Instr} {s : State} {k : Nat} (hkq : State.Kept kq s) : State.Kept kq
    (State.followHigh s k) := by
  unfold State.followHigh; lift_lets -underBinder; intro v5; clear_value v5; refine State.kept_ite ?_ ?_
  with_reducible refine State.modCoil_kept ?_; with_reducible assumption; with_reducible assumption

theorem State.formBeat_kept {kq : List Instr} {s : State} (hkq : State.Kept kq s) : State.Kept kq (State.formBeat s)
    := by
  unfold State.formBeat; lift_lets -underBinder; intro v4; clear_value v4; intro v5; clear_value v5
  with_reducible refine State.kept_upd ?_; with_reducible assumption

theorem State.sampleMirrors_kept {kq : List Instr} {s : State} {mirrors : Nat} (hkq : State.Kept kq s) : State.Kept kq
    (State.sampleMirrors s mirrors) := by
  unfold State.sampleMirrors; refine State.kept_forEach (fun x s h => ?_) _ _ ?_
  with_reducible refine State.modCoil_kept ?_; with_reducible assumption; with_reducible assumption

theorem State.cableFailed_kept {kq : List Instr} {s : State} {n : Nat} (hkq : State.Kept kq s) : State.Kept kq
    (State.cableFailed s n) := by
  unfold State.cableFailed; lift_lets -underBinder; intro v5; refine State.kept_have (q := kq) v5 ?_ (fun hs => ?_)
  subst v5; with_reducible refine State.modOutlet_kept ?_; with_reducible assumption; clear_value v5
  refine State.kept_ite ?_ ?_; with_reducible refine State.endSession_kept (State.erem_kept ?_)
  with_reducible assumption; with_reducible assumption

theorem State.imdCount_kept {kq : List Instr} {s : State} {n : Nat} {fault : Bool} (hkq : State.Kept kq s) :
    State.Kept kq (State.imdCount s n fault) := by
  unfold State.imdCount; lift_lets -underBinder; intro v6; clear_value v6; intro v7
  refine State.kept_have (q := kq) v7 ?_ (fun hs => ?_); subst v7; with_reducible refine State.modOs_kept ?_
  with_reducible assumption; clear_value v7; refine State.kept_ite ?_ ?_; with_reducible refine State.trip_kept ?_
  with_reducible assumption; with_reducible assumption

theorem State.imdResult_kept {kq : List Instr} {s : State} {kohm : Nat} (hkq : State.Kept kq s) : State.Kept kq
    (State.imdResult s kohm) := by
  unfold State.imdResult; lift_lets -underBinder; intro v5; clear_value v5; intro v6; clear_value v6; intro v7
  clear_value v7; intro v8; clear_value v8; intro v9; clear_value v9; intro v10
  refine State.kept_have (q := kq) v10 ?_ (fun hs => ?_); subst v10
  with_reducible refine State.wr_kept (State.wr_kept ?_); with_reducible assumption; intro v12; clear_value v12
  intro v13; refine State.kept_have (q := kq) v13 ?_ (fun hs => ?_); clear_value v10; subst v13
  with_reducible refine State.kept_upd ?_; with_reducible assumption; intro v15
  refine State.kept_have (q := kq) v15 ?_ (fun hs => ?_); clear_value v10 v13; subst v15; refine State.kept_ite ?_ ?_
  with_reducible refine State.raise_kept ?_; with_reducible assumption; with_reducible assumption; intro v17
  refine State.kept_have (q := kq) v17 ?_ (fun hs => ?_); clear_value v10 v13 v15; subst v17
  with_reducible refine State.imdCount_kept ?_; with_reducible assumption; clear_value v10 v13 v15 v17; split
  with_reducible assumption; refine State.kept_ite ?_ ?_; with_reducible assumption; refine State.kept_ite ?_ ?_
  with_reducible refine State.cableFailed_kept ?_; with_reducible assumption
  with_reducible refine State.modOutlet_kept ?_; with_reducible assumption

theorem State.clearLatched_kept {kq : List Instr} {s : State} {n : Nat} {code : Nat} (hkq : State.Kept kq s) :
    State.Kept kq (State.clearLatched s n code) := by
  unfold State.clearLatched; refine State.kept_ite ?_ ?_; lift_lets -underBinder; intro v6
  refine State.kept_have (q := kq) v6 ?_ (fun hs => ?_); subst v6; with_reducible refine State.modOs_kept ?_
  with_reducible assumption; intro v8; refine State.kept_have (q := kq) v8 ?_ (fun hs => ?_); clear_value v6; subst v8
  refine State.kept_ite ?_ ?_; with_reducible refine State.wr_kept (State.modOs_kept ?_); with_reducible assumption
  with_reducible assumption; clear_value v6 v8; refine State.kept_ite ?_ ?_
  refine State.kept_forEach (fun x s h => ?_) _ _ ?_; with_reducible refine State.modCoil_kept ?_
  with_reducible assumption; with_reducible assumption; with_reducible assumption; with_reducible assumption

theorem State.clearModLatched_kept {kq : List Instr} {s : State} {code : Nat} (hkq : State.Kept kq s) : State.Kept kq
    (State.clearModLatched s code) := by
  unfold State.clearModLatched; refine State.kept_ite ?_ ?_; with_reducible refine State.kept_upd ?_
  with_reducible assumption; with_reducible assumption

theorem State.resetSafe_kept {kq : List Instr} {s : State} (hkq : State.Kept kq s) : State.Kept kq (State.resetSafe s)
    := by
  unfold State.resetSafe; lift_lets -underBinder; intro v4; clear_value v4; intro v5
  refine State.kept_have (q := kq) v5 ?_ (fun hs => ?_); subst v5; refine State.kept_forEach (fun x s h => ?_) _ _ ?_
  with_reducible refine State.clearModLatched_kept ?_; with_reducible assumption; with_reducible assumption; intro v7
  refine State.kept_have (q := kq) v7 ?_ (fun hs => ?_); clear_value v5; subst v7
  refine State.kept_forEach (fun x s h => ?_) _ _ ?_; refine State.kept_forEach (fun x s h => ?_) _ _ ?_
  with_reducible refine State.clearLatched_kept ?_; with_reducible assumption; with_reducible assumption
  with_reducible assumption; intro v9; refine State.kept_have (q := kq) v9 ?_ (fun hs => ?_); clear_value v5 v7
  subst v9; with_reducible refine State.refreshSafeOk_kept ?_; with_reducible assumption; intro v11
  clear_value v11 v5 v7 v9; refine State.kept_ite ?_ ?_; with_reducible assumption
  with_reducible refine State.raise_kept ?_; with_reducible assumption

theorem State.safeInAct_kept {kq : List Instr} {s : State} {action : Nat} {n : Nat} (hkq : State.Kept kq s) :
    State.Kept kq (State.safeInAct s action n) := by
  unfold State.safeInAct; split; with_reducible refine State.stopAny_kept ?_; with_reducible assumption
  with_reducible refine State.trip_kept ?_; with_reducible assumption; with_reducible refine State.trip_kept ?_
  with_reducible assumption; with_reducible refine State.trip_kept ?_; with_reducible assumption
  with_reducible assumption

theorem State.safeInGo_kept {kq : List Instr} {s : State} {m : Nat} (hkq : State.Kept kq s) : State.Kept kq
    (State.safeInGo s m) := by
  unfold State.safeInGo; lift_lets -underBinder; intro v5; clear_value v5; intro v6; clear_value v6; intro v7
  refine State.kept_have (q := kq) v7 ?_ (fun hs => ?_); subst v7; refine State.kept_ite ?_ ?_
  with_reducible refine State.raise_kept ?_; with_reducible assumption; with_reducible assumption; clear_value v7
  refine State.kept_ite ?_ ?_; with_reducible assumption; refine State.kept_forEach (fun x s h => ?_) _ _ ?_
  with_reducible refine State.safeInAct_kept ?_; with_reducible assumption; with_reducible assumption

theorem State.safeInReturn_kept {kq : List Instr} {s : State} (hkq : State.Kept kq s) : State.Kept kq
    (State.safeInReturn s) := by
  unfold State.safeInReturn; refine State.kept_forEach (fun x s h => ?_) _ _ ?_; refine State.kept_ite ?_ ?_
  with_reducible assumption; with_reducible refine State.clearFault_kept ?_; with_reducible assumption
  with_reducible assumption

theorem State.safeInLevel_kept {kq : List Instr} {s : State} {m : Nat} {closed : Bool} (hkq : State.Kept kq s) :
    State.Kept kq (State.safeInLevel s m closed) := by
  unfold State.safeInLevel; lift_lets -underBinder; intro v6; clear_value v6; intro v7; clear_value v7; intro v8
  refine State.kept_have (q := kq) v8 ?_ (fun hs => ?_); subst v8; with_reducible refine State.kept_upd ?_
  with_reducible assumption; clear_value v8; with_reducible refine State.safeInReturn_kept ?_
  refine State.kept_ite ?_ ?_; with_reducible assumption; with_reducible refine State.safeInGo_kept ?_
  with_reducible assumption

theorem State.safeInCfg_kept {kq : List Instr} {s : State} {before : State} {m : Nat} (hkq : State.Kept kq s) :
    State.Kept kq (State.safeInCfg s before m) := by
  unfold State.safeInCfg; lift_lets -underBinder; intro v6; clear_value v6
  with_reducible refine State.safeInReturn_kept ?_; refine State.kept_ite ?_ ?_; with_reducible assumption
  with_reducible refine State.safeInGo_kept ?_; with_reducible assumption

theorem execHslCycle_kept {kq : List Instr} {t : Nat} {levels : List Int} {mirrors : Nat} {s : State} (hkq :
    State.Kept kq s) : OutKept kq (execHslCycle t levels mirrors s) := by
  unfold execHslCycle; refine State.kept_next ?_; with_reducible refine onCore_kept ?_ ?_; intro _ _
  refine State.kept_ite ?_ ?_; with_reducible assumption; lift_lets -underBinder; intro v9; clear_value v9; intro v10
  refine State.kept_have (q := kq) v10 ?_ (fun hs => ?_); subst v10; with_reducible refine State.kept_upd ?_
  with_reducible assumption; intro v12; refine State.kept_have (q := kq) v12 ?_ (fun hs => ?_); clear_value v10
  subst v12; with_reducible refine State.sampleMirrors_kept ?_; with_reducible assumption; intro v14
  refine State.kept_have (q := kq) v14 ?_ (fun hs => ?_); clear_value v10 v12; subst v14
  refine State.kept_forEach (fun x s h => ?_) _ _ ?_; refine State.kept_ite ?_ ?_; with_reducible assumption
  with_reducible refine State.rcmUpdate_kept ?_; with_reducible assumption; with_reducible assumption; intro v16
  refine State.kept_have (q := kq) v16 ?_ (fun hs => ?_); clear_value v10 v12 v14; subst v16
  refine State.kept_forEach (fun x s h => ?_) _ _ ?_; with_reducible refine State.pilotB_kept ?_
  with_reducible assumption; with_reducible assumption; clear_value v10 v12 v14 v16
  with_reducible refine State.formBeat_kept ?_; refine State.kept_forEach (fun x s h => ?_) _ _ ?_
  with_reducible refine State.followHigh_kept ?_; with_reducible assumption; with_reducible assumption
  with_reducible assumption

theorem execHslTableCheck_kept {kq : List Instr} {t : Nat} {crcOk : Bool} {s : State} (hkq : State.Kept kq s) :
    OutKept kq (execHslTableCheck t crcOk s) := by
  unfold execHslTableCheck; refine State.kept_next ?_; with_reducible refine onCore_kept ?_ ?_; intro _ _
  refine State.kept_ite ?_ ?_; with_reducible assumption; lift_lets -underBinder; intro v8; clear_value v8; intro v9
  clear_value v9; intro v10; refine State.kept_have (q := kq) v10 ?_ (fun hs => ?_); subst v10
  with_reducible refine State.kept_upd ?_; with_reducible assumption; intro v12
  refine State.kept_have (q := kq) v12 ?_ (fun hs => ?_); clear_value v10; subst v12
  with_reducible refine State.setFlag_kept ?_; with_reducible assumption; clear_value v10 v12
  refine State.kept_ite ?_ ?_; with_reducible refine State.refreshSafeOk_kept ?_; with_reducible assumption
  with_reducible refine State.moduleTrip_kept ?_; with_reducible assumption; with_reducible assumption

theorem execHslWatchdogExpiry_kept {kq : List Instr} {t : Nat} {s : State} (hkq : State.Kept kq s) : OutKept kq
    (execHslWatchdogExpiry t s) := by
  unfold execHslWatchdogExpiry; refine State.kept_next ?_; with_reducible refine onCore_kept ?_ ?_; intro _ _
  refine State.kept_ite ?_ ?_; with_reducible refine State.moduleTrip_kept (State.setFlag_kept ?_)
  with_reducible assumption; with_reducible assumption; with_reducible assumption

theorem execBHeartbeat_kept {kq : List Instr} {t : Nat} {b : Beat} {s : State} (hkq : State.Kept kq s) : OutKept kq
    (execBHeartbeat t b s) := by
  unfold execBHeartbeat; refine State.kept_next ?_; with_reducible refine onCore_kept ?_ ?_; intro _ _
  refine State.kept_ite ?_ ?_; with_reducible refine State.refreshSafeOk_kept (State.setFlag_kept (State.kept_upd ?_))
  with_reducible assumption; with_reducible assumption; with_reducible assumption

theorem execBHeartbeatLoss_kept {kq : List Instr} {t : Nat} {s : State} (hkq : State.Kept kq s) : OutKept kq
    (execBHeartbeatLoss t s) := by
  unfold execBHeartbeatLoss; refine State.kept_next ?_; with_reducible refine onCore_kept ?_ ?_; intro _ _
  refine State.kept_ite ?_ ?_; with_reducible refine State.moduleTrip_kept (State.setFlag_kept ?_)
  with_reducible assumption; with_reducible assumption; with_reducible assumption

theorem execChannelDiscrepancy_kept {kq : List Instr} {t : Nat} {code : Nat} {n : Nat} {chan : Nat} {reading : Int}
    {since : Nat} {s : State} (hkq : State.Kept kq s) : OutKept kq (execChannelDiscrepancy t code n chan reading since
    s) := by
  unfold execChannelDiscrepancy; refine State.kept_next ?_; with_reducible refine onCore_kept ?_ ?_; intro _ _; split
  with_reducible assumption; lift_lets -underBinder; intro v17; clear_value v17; intro v18; clear_value v18
  refine State.kept_ite ?_ ?_; with_reducible refine State.moduleTrip_kept (State.kept_upd ?_)
  with_reducible assumption; with_reducible assumption; with_reducible assumption

theorem execSafetySelftestDone_kept {kq : List Instr} {t : Nat} {s : State} (hkq : State.Kept kq s) : OutKept kq
    (execSafetySelftestDone t s) := by
  unfold execSafetySelftestDone; refine State.kept_next ?_; with_reducible refine onEvent_kept ?_ ?_; intro _ _
  lift_lets -underBinder; intro v7; clear_value v7; refine State.kept_ite ?_ ?_
  with_reducible refine State.refreshSafeOk_kept (State.setFlag_kept ?_); with_reducible assumption
  with_reducible assumption; with_reducible assumption

theorem execEstopSourcePulse_kept {kq : List Instr} {t : Nat} {srcB : Bool} {ownFollows : Bool} {otherFollows : Bool}
    {s : State} (hkq : State.Kept kq s) : OutKept kq (execEstopSourcePulse t srcB ownFollows otherFollows s) := by
  unfold execEstopSourcePulse; refine State.kept_next ?_; with_reducible refine onCore_kept ?_ ?_; intro _ _
  lift_lets -underBinder; intro v10; clear_value v10; intro v11; clear_value v11; intro v12; clear_value v12; intro v13
  clear_value v13; intro v14; refine State.kept_have (q := kq) v14 ?_ (fun hs => ?_); subst v14
  with_reducible refine State.kept_upd ?_; with_reducible assumption; clear_value v14; refine State.kept_ite ?_ ?_
  with_reducible assumption; refine State.kept_ite ?_ ?_; with_reducible assumption
  with_reducible refine State.moduleTrip_kept ?_; with_reducible assumption; with_reducible assumption

theorem execEstopOpen_kept {kq : List Instr} {t : Nat} {inputB : Bool} {us : Nat} {s : State} (hkq : State.Kept kq s)
    : OutKept kq (execEstopOpen t inputB us s) := by
  unfold execEstopOpen; refine State.kept_next ?_; with_reducible refine onCore_kept ?_ ?_; intro _ _
  refine State.kept_ite ?_ ?_; with_reducible assumption; lift_lets -underBinder; intro v9; clear_value v9; intro v10
  clear_value v10; intro v11; refine State.kept_have (q := kq) v11 ?_ (fun hs => ?_); subst v11
  with_reducible refine State.kept_upd ?_; with_reducible assumption; clear_value v11
  with_reducible refine State.moduleTrip_kept ?_; with_reducible assumption; with_reducible assumption

theorem execEstopDisc_kept {kq : List Instr} {t : Nat} {s : State} (hkq : State.Kept kq s) : OutKept kq (execEstopDisc
    t s) := by
  unfold execEstopDisc; refine State.kept_next ?_; with_reducible refine onCore_kept ?_ ?_; intro _ _
  refine State.kept_ite ?_ ?_; with_reducible refine State.moduleTrip_kept ?_; with_reducible assumption
  with_reducible assumption; with_reducible assumption

theorem execSafeInChange_kept {kq : List Instr} {t : Nat} {m : Nat} {closed : Bool} {ms : Nat} {s : State} (hkq :
    State.Kept kq s) : OutKept kq (execSafeInChange t m closed ms s) := by
  unfold execSafeInChange; refine State.kept_next ?_; with_reducible refine onCore_kept ?_ ?_; intro _ _
  refine State.kept_ite ?_ ?_; with_reducible assumption; with_reducible refine State.safeInLevel_kept ?_
  with_reducible assumption; with_reducible assumption

theorem execImdResult_kept {kq : List Instr} {t : Nat} {kohm : Nat} {s : State} (hkq : State.Kept kq s) : OutKept kq
    (execImdResult t kohm s) := by
  unfold execImdResult; refine State.kept_next ?_; with_reducible refine onCore_kept ?_ ?_; intro _ _
  refine State.kept_ite ?_ ?_; with_reducible refine State.imdResult_kept ?_; with_reducible assumption
  with_reducible assumption; with_reducible assumption

theorem execCableCheckTimeout_kept {kq : List Instr} {t : Nat} {n : Nat} {s : State} (hkq : State.Kept kq s) : OutKept
    kq (execCableCheckTimeout t n s) := by
  unfold execCableCheckTimeout; refine State.kept_next ?_; with_reducible refine onEvent_kept ?_ ?_; intro _ _; split
  refine State.kept_ite ?_ ?_; with_reducible refine State.cableFailed_kept ?_; with_reducible assumption
  with_reducible assumption; with_reducible assumption; with_reducible assumption

theorem execSafeStatePilotEnd_kept {kq : List Instr} {t : Nat} {n : Nat} {s : State} (hkq : State.Kept kq s) : OutKept
    kq (execSafeStatePilotEnd t n s) := by
  unfold execSafeStatePilotEnd; refine State.kept_next ?_; with_reducible refine onEvent_kept ?_ ?_; intro _ _; split
  refine State.kept_ite ?_ ?_; lift_lets -underBinder; intro v13; refine State.kept_have (q := kq) v13 ?_ (fun hs => ?_)
  subst v13; with_reducible refine State.modOs_kept ?_; with_reducible assumption; clear_value v13
  refine State.kept_ite ?_ ?_; with_reducible assumption; with_reducible refine State.offer_kept ?_
  with_reducible assumption; with_reducible assumption; with_reducible assumption; with_reducible assumption

theorem execResetSafeEdge_kept {kq : List Instr} {t : Nat} {lowUs : Nat} {aOpen : Bool} {bOpen : Bool} {s : State}
    (hkq : State.Kept kq s) : OutKept kq (execResetSafeEdge t lowUs aOpen bOpen s) := by
  unfold execResetSafeEdge; refine State.kept_next ?_; with_reducible refine onCore_kept ?_ ?_; intro _ _
  refine State.kept_ite ?_ ?_; with_reducible assumption; with_reducible refine State.resetSafe_kept (State.kept_upd ?_)
  with_reducible assumption; with_reducible assumption

theorem execSafeQuery_kept {kq : List Instr} {x : Ctx} {s : State} (hkq : State.Kept kq s) : OutKept kq (execSafeQuery
    x s) := by
  unfold execSafeQuery; refine State.kept_next ?_; with_reducible refine State.command_kept ?_ ?_
  with_reducible assumption; intro _ _; lift_lets -underBinder; intro v7; clear_value v7
  with_reducible refine State.complete_kept ?_; with_reducible assumption

theorem execSafeTestNow_kept {kq : List Instr} {x : Ctx} {mask : Nat} {s : State} (hkq : State.Kept kq s) : OutKept kq
    (execSafeTestNow x mask s) := by
  unfold execSafeTestNow; refine State.kept_next ?_; with_reducible refine State.command_kept ?_ ?_
  with_reducible assumption; intro _ _; lift_lets -underBinder; intro v8
  refine State.kept_have (q := kq) v8 ?_ (fun hs => ?_); subst v8; refine State.kept_forEach (fun x s h => ?_) _ _ ?_
  with_reducible refine State.modCoil_kept ?_; with_reducible assumption; with_reducible assumption; clear_value v8
  with_reducible refine State.complete_kept ?_; with_reducible assumption

theorem execImdMeasure_kept {kq : List Instr} {x : Ctx} {n : Nat} {kohm : Nat} {s : State} (hkq : State.Kept kq s) :
    OutKept kq (execImdMeasure x n kohm s) := by
  unfold execImdMeasure; refine State.kept_next ?_; with_reducible refine State.command_kept ?_ ?_
  with_reducible assumption; intro _ _; refine State.kept_ite ?_ ?_; with_reducible refine State.complete_kept ?_
  with_reducible assumption; with_reducible refine State.complete_kept (State.imdResult_kept ?_)
  with_reducible assumption

theorem execVfail_kept {kq : List Instr} {t : Nat} {mv : Nat} {feed : List Feed} {s : State} (hkq : State.Kept kq s) :
    OutKept kq (execVfail t mv feed s) := by
  unfold execVfail; refine State.kept_next ?_; with_reducible refine onEvent_kept ?_ ?_; intro _ _
  refine State.kept_ite ?_ ?_; with_reducible assumption; with_reducible refine State.lastPour_kept ?_
  with_reducible assumption; with_reducible assumption

theorem execVinReturn_kept {kq : List Instr} {t : Nat} {mv : Nat} {s : State} (hkq : State.Kept kq s) : OutKept kq
    (execVinReturn t mv s) := by
  unfold execVinReturn; refine State.kept_next ?_; refine State.kept_ite ?_ ?_
  with_reducible refine State.segRecover_kept (State.pourReturn_kept (State.advance_kept ?_)); with_reducible assumption
  with_reducible assumption

theorem execConverterRailFall_kept {kq : List Instr} {t : Nat} {s : State} (hkq : State.Kept kq s) : OutKept kq
    (execConverterRailFall t s) := by
  unfold execConverterRailFall; refine State.kept_next ?_; refine State.kept_ite ?_ ?_
  with_reducible refine State.railFall_kept (State.advance_kept ?_); with_reducible assumption
  with_reducible assumption

theorem execVinValid_kept {kq : List Instr} {t mv ms : Nat} {s : State} (h : State.Kept kq s) :
    OutKept kq (execVinValid t mv ms s) := by
  unfold execVinValid
  refine State.kept_next ?_
  split
  · exact h
  split
  · exact ⟨h.1, show 0 < 768 by decide, h.2.2⟩
  · exact ⟨h.1, show 0 < 768 by decide, h.2.2⟩
  · exact h

theorem execEarlyVinLoss_kept {kq : List Instr} {_t : Nat} {s : State} (hkq : State.Kept kq s) : OutKept kq
    (execEarlyVinLoss _t s) := by
  unfold execEarlyVinLoss; refine State.kept_next ?_; refine State.kept_ite ?_ ?_
  with_reducible refine State.kept_upd ?_; with_reducible assumption; with_reducible assumption

theorem execRailOutOfLimits_kept {kq : List Instr} {t : Nat} {r : Nat} {ov : Bool} {mv : Int} {us : Nat} {feed : List
    Feed} {whole : Bool} {s : State} (hkq : State.Kept kq s) : OutKept kq (execRailOutOfLimits t r ov mv us feed whole
    s) := by
  unfold execRailOutOfLimits; refine State.kept_next ?_; refine State.kept_ite ?_ ?_; with_reducible assumption
  refine State.kept_ite ?_ ?_; refine State.kept_ite ?_ ?_; lift_lets -underBinder; intro v11
  refine State.kept_have (q := kq) v11 ?_ (fun hs => ?_); subst v11; with_reducible refine State.loseClock_kept ?_
  with_reducible assumption; intro v13; clear_value v13 v11; with_reducible refine State.kept_upd ?_
  with_reducible assumption; with_reducible assumption; with_reducible refine onCore_kept ?_ ?_; intro _ _
  with_reducible refine State.railFails_kept ?_; with_reducible assumption; with_reducible assumption

theorem execRailRestored_kept {kq : List Instr} {t : Nat} {r : Nat} {mv : Int} {us : Nat} {s : State} (hkq :
    State.Kept kq s) : OutKept kq (execRailRestored t r mv us s) := by
  unfold execRailRestored; refine State.kept_next ?_; refine State.kept_ite ?_ ?_; with_reducible assumption
  with_reducible refine onCore_kept ?_ ?_; intro _ _; with_reducible refine State.railBack_kept ?_
  with_reducible assumption; with_reducible assumption

theorem execTempLevelChange_kept {kq : List Instr} {t : Nat} {k : Nat} {celsius : Int} {s : State} (hkq : State.Kept
    kq s) : OutKept kq (execTempLevelChange t k celsius s) := by
  unfold execTempLevelChange; refine State.kept_next ?_; with_reducible refine onEvent_kept ?_ ?_; intro _ _
  lift_lets -underBinder; intro v9; clear_value v9; intro v10; refine State.kept_have (q := kq) v10 ?_ (fun hs => ?_)
  subst v10; with_reducible refine State.tempTaken_kept ?_; with_reducible assumption; clear_value v10
  refine State.kept_ite ?_ ?_; with_reducible refine State.serveNext_kept ?_; with_reducible assumption
  with_reducible assumption; with_reducible assumption

theorem execProcMonSample_kept {kq : List Instr} {t : Nat} {codes : List Nat} {s : State} (hkq : State.Kept kq s) :
    OutKept kq (execProcMonSample t codes s) := by
  unfold execProcMonSample; refine State.kept_next ?_; with_reducible refine onEvent_kept ?_ ?_; intro _ _
  refine State.kept_ite ?_ ?_; with_reducible assumption; lift_lets -underBinder; intro v8; clear_value v8; intro v9
  refine State.kept_have (q := kq) v9 ?_ (fun hs => ?_); subst v9; with_reducible refine State.kept_upd ?_
  with_reducible assumption; clear_value v9; refine State.kept_forEach (fun x s h => ?_) _ _ ?_; lift_lets -underBinder
  intro v14; refine State.kept_have (q := kq) v14 ?_ (fun hs => ?_); subst v14; with_reducible refine State.wr_kept ?_
  with_reducible assumption; intro v16; clear_value v16 v14; refine State.kept_ite ?_ ?_
  with_reducible refine State.raise_kept (State.kept_upd ?_); with_reducible assumption; with_reducible assumption
  with_reducible assumption; with_reducible assumption

theorem execTamperInput_kept {kq : List Instr} {t : Nat} {k : Nat} {closed : Bool} {samples : Nat} {s : State} (hkq :
    State.Kept kq s) : OutKept kq (execTamperInput t k closed samples s) := by
  unfold execTamperInput; refine State.kept_next ?_; lift_lets -underBinder; intro v8; clear_value v8; intro v9
  refine State.kept_have (q := kq) v9 ?_ (fun hs => ?_); subst v9
  with_reducible refine State.raise_kept (State.setFlag_kept (State.advance_kept ?_)); with_reducible assumption
  intro v11; refine State.kept_have (q := kq) v11 ?_ (fun hs => ?_); clear_value v9; subst v11
  with_reducible refine State.setFlag_kept ?_; with_reducible assumption; clear_value v9 v11
  refine State.kept_ite ?_ ?_; with_reducible assumption; refine State.kept_ite ?_ ?_; refine State.kept_ite ?_ ?_
  with_reducible refine State.tamper_kept ?_; with_reducible assumption; with_reducible assumption
  refine State.kept_ite ?_ ?_; with_reducible refine State.incSat_kept ?_; with_reducible assumption
  with_reducible assumption

theorem execXtal32Fail_kept {kq : List Instr} {t : Nat} {s : State} (hkq : State.Kept kq s) : OutKept kq
    (execXtal32Fail t s) := by
  unfold execXtal32Fail; refine State.kept_next ?_; refine State.kept_ite ?_ ?_
  with_reducible refine State.loseClock_kept ?_; with_reducible assumption; with_reducible refine onCore_kept ?_ ?_
  intro _ _; refine State.kept_ite ?_ ?_; with_reducible assumption; lift_lets -underBinder; intro v7
  refine State.kept_have (q := kq) v7 ?_ (fun hs => ?_); subst v7
  with_reducible refine State.incSat_kept (State.wr_kept (State.wr_kept ?_)); with_reducible assumption; clear_value v7
  with_reducible refine State.raise_kept ?_; with_reducible assumption; with_reducible assumption

theorem execXtal32Return_kept {kq : List Instr} {t : Nat} {s : State} (hkq : State.Kept kq s) : OutKept kq
    (execXtal32Return t s) := by
  unfold execXtal32Return; refine State.kept_next ?_; with_reducible refine onCore_kept ?_ ?_; intro _ _
  refine State.kept_ite ?_ ?_; with_reducible assumption
  with_reducible refine State.raise_kept (State.wr_kept (State.wr_kept ?_)); with_reducible assumption
  with_reducible assumption

theorem execXtal49Fail_kept {kq : List Instr} {t : Nat} {s : State} (hkq : State.Kept kq s) : OutKept kq
    (execXtal49Fail t s) := by
  unfold execXtal49Fail; refine State.kept_next ?_; with_reducible refine onCore_kept ?_ ?_; intro _ _
  refine State.kept_ite ?_ ?_; with_reducible assumption; lift_lets -underBinder; intro v7
  refine State.kept_have (q := kq) v7 ?_ (fun hs => ?_); subst v7
  with_reducible refine State.incSat_kept (State.wr_kept (State.wr_kept ?_)); with_reducible assumption; intro v9
  clear_value v9; intro v10; refine State.kept_have (q := kq) v10 ?_ (fun hs => ?_); clear_value v7; subst v10
  with_reducible refine State.kept_upd ?_; with_reducible assumption; clear_value v7 v10
  with_reducible refine State.tamper_kept (State.raise_kept ?_); with_reducible assumption; with_reducible assumption

theorem execXtal49Return_kept {kq : List Instr} {t : Nat} {s : State} (hkq : State.Kept kq s) : OutKept kq
    (execXtal49Return t s) := by
  unfold execXtal49Return; refine State.kept_next ?_; with_reducible refine onCore_kept ?_ ?_; intro _ _
  refine State.kept_ite ?_ ?_; with_reducible assumption
  with_reducible refine State.raise_kept (State.wr_kept (State.wr_kept ?_)); with_reducible assumption
  with_reducible assumption

theorem execXtal25Fail_kept {kq : List Instr} {t : Nat} {feed : List Feed} {s : State} (hkq : State.Kept kq s) :
    OutKept kq (execXtal25Fail t feed s) := by
  unfold execXtal25Fail; refine State.kept_next ?_; with_reducible refine onCore_kept ?_ ?_; intro _ _
  lift_lets -underBinder; intro v8; refine State.kept_have (q := kq) v8 ?_ (fun hs => ?_); subst v8
  with_reducible refine State.raise_kept (State.wr_kept ?_); with_reducible assumption; intro v10
  refine State.kept_have (q := kq) v10 ?_ (fun hs => ?_); clear_value v8; subst v10
  with_reducible refine State.moduleTrip_kept (State.setFlag_kept ?_); with_reducible assumption; clear_value v8 v10
  with_reducible refine State.failRestart_kept ?_; with_reducible assumption; with_reducible assumption

theorem execRefclkReturn_kept {kq : List Instr} {t : Nat} {s : State} (hkq : State.Kept kq s) : OutKept kq
    (execRefclkReturn t s) := by
  unfold execRefclkReturn; refine State.kept_next ?_; with_reducible refine onEvent_kept ?_ ?_; intro _ _
  refine State.kept_ite ?_ ?_; with_reducible assumption; with_reducible refine State.raise_kept (State.wr_kept ?_)
  with_reducible assumption; with_reducible assumption

theorem execMeterWake_kept {kq : List Instr} {t : Nat} {cause : Nat} {s : State} (hkq : State.Kept kq s) : OutKept kq
    (execMeterWake t cause s) := by
  unfold execMeterWake; refine State.kept_next ?_; with_reducible refine onEvent_kept ?_ ?_; intro _ _
  refine State.kept_ite ?_ ?_; with_reducible refine State.plcFollowAll_kept (State.wakeRun_kept ?_)
  with_reducible assumption; with_reducible assumption; with_reducible assumption

theorem execPwrQuery_kept {kq : List Instr} {x : Ctx} {s : State} (hkq : State.Kept kq s) : OutKept kq (execPwrQuery x
    s) := by
  unfold execPwrQuery; refine State.kept_next ?_; with_reducible refine State.command_kept ?_ ?_
  with_reducible assumption; intro _ _; with_reducible refine State.complete_kept ?_; with_reducible assumption

theorem execPwrMode_kept {kq : List Instr} {x : Ctx} {mode : Nat} {s : State} (hkq : State.Kept kq s) : OutKept kq
    (execPwrMode x mode s) := by
  unfold execPwrMode; refine State.kept_next ?_; with_reducible refine State.command_kept ?_ ?_
  with_reducible assumption; intro _ _; refine State.kept_ite ?_ ?_; with_reducible refine State.complete_kept ?_
  with_reducible assumption; refine State.kept_ite ?_ ?_
  with_reducible refine State.complete_kept (State.plcFollowAll_kept (State.wakeRun_kept ?_)); with_reducible assumption
  refine State.kept_ite ?_ ?_; with_reducible refine State.complete_kept ?_; with_reducible assumption
  refine State.kept_ite ?_ ?_; with_reducible refine State.complete_kept ?_; with_reducible assumption
  with_reducible refine State.complete_kept (State.enterMeter_kept ?_); with_reducible assumption

theorem execPwrIdent_kept {kq : List Instr} {x : Ctx} {s : State} (hkq : State.Kept kq s) : OutKept kq (execPwrIdent x
    s) := by
  unfold execPwrIdent; refine State.kept_next ?_; with_reducible refine State.command_kept ?_ ?_
  with_reducible assumption; intro _ _; lift_lets -underBinder; intro v7; clear_value v7
  with_reducible refine State.complete_kept (State.giveBuffer_kept ?_); with_reducible assumption

theorem execRcmReading_kept {kq : List Instr} {t : Nat} {i : Nat} {value : Int} {s : State} (hkq : State.Kept kq s) :
    OutKept kq (execRcmReading t i value s) := by
  unfold execRcmReading; refine State.kept_next ?_; with_reducible refine onCore_kept ?_ ?_; intro _ _
  lift_lets -underBinder; intro v9; clear_value v9; intro v10; refine State.kept_have (q := kq) v10 ?_ (fun hs => ?_)
  subst v10; with_reducible refine State.setFlag_kept (State.wrInt_kept ?_); with_reducible assumption; intro v12
  clear_value v12; intro v13; refine State.kept_have (q := kq) v13 ?_ (fun hs => ?_); clear_value v10; subst v13
  with_reducible refine State.kept_upd ?_; with_reducible assumption; clear_value v10 v13
  refine State.kept_forEach (fun x s h => ?_) _ _ ?_; with_reducible refine State.modOs_kept ?_
  with_reducible assumption; with_reducible assumption; with_reducible assumption

theorem execRcmSelftestRun_kept {kq : List Instr} {t : Nat} {n : Nat} {offset : Int} {reading : Nat} {s : State} (hkq
    : State.Kept kq s) : OutKept kq (execRcmSelftestRun t n offset reading s) := by
  unfold execRcmSelftestRun; refine State.kept_next ?_; with_reducible refine onEvent_kept ?_ ?_; intro _ _
  refine State.kept_ite ?_ ?_; with_reducible refine State.rcmSelfTest_kept ?_; with_reducible assumption
  with_reducible assumption; with_reducible assumption

theorem execRcmSensorRange_kept {kq : List Instr} {t : Nat} {i : Nat} {s : State} (hkq : State.Kept kq s) : OutKept kq
    (execRcmSensorRange t i s) := by
  unfold execRcmSensorRange; refine State.kept_next ?_; with_reducible refine onCore_kept ?_ ?_; intro _ _
  refine State.kept_ite ?_ ?_; refine State.kept_forEach (fun x s h => ?_) _ _ ?_
  with_reducible refine State.sensorTrip_kept ?_; with_reducible assumption; with_reducible assumption
  with_reducible assumption; with_reducible assumption

theorem execRcmPrewarn_kept {kq : List Instr} {t : Nat} {n : Nat} {s : State} (hkq : State.Kept kq s) : OutKept kq
    (execRcmPrewarn t n s) := by
  unfold execRcmPrewarn; refine State.kept_next ?_; with_reducible refine onEvent_kept ?_ ?_; intro _ _; split
  refine State.kept_ite ?_ ?_; with_reducible refine State.raise_kept (State.modOs_kept ?_); with_reducible assumption
  with_reducible assumption; with_reducible assumption; with_reducible assumption

theorem execRcmSelftest_kept {kq : List Instr} {x : Ctx} {n : Nat} {offset : Int} {reading : Nat} {s : State} (hkq :
    State.Kept kq s) : OutKept kq (execRcmSelftest x n offset reading s) := by
  unfold execRcmSelftest; refine State.kept_next ?_; with_reducible refine State.command_kept ?_ ?_
  with_reducible assumption; intro _ _; refine State.kept_ite ?_ ?_; with_reducible refine State.complete_kept ?_
  with_reducible assumption; refine State.kept_ite ?_ ?_; with_reducible refine State.complete_kept ?_
  with_reducible assumption; lift_lets -underBinder; intro v10; refine State.kept_have (q := kq) v10 ?_ (fun hs => ?_)
  subst v10; with_reducible refine State.rcmSelfTest_kept ?_; with_reducible assumption; clear_value v10
  with_reducible refine State.complete_kept ?_; with_reducible assumption

theorem State.refuseWrite_kept {kq : List Instr} {s : State} {off : Nat} {reason : Nat} (hkq : State.Kept kq s) :
    State.Kept kq (State.refuseWrite s off reason) := by
  unfold State.refuseWrite; lift_lets -underBinder; intro v6; refine State.kept_have (q := kq) v6 ?_ (fun hs => ?_)
  subst v6; with_reducible refine State.wr_kept (State.incSat_kept ?_); with_reducible assumption; intro v8
  refine State.kept_have (q := kq) v8 ?_ (fun hs => ?_); clear_value v6; subst v8
  with_reducible refine State.alert_kept (State.wr_kept ?_); with_reducible assumption; intro v10; clear_value v10
  intro v11; clear_value v11 v6 v8; refine State.kept_ite ?_ ?_
  with_reducible refine State.raise_kept (State.kept_upd ?_); with_reducible assumption
  with_reducible refine State.kept_upd ?_; with_reducible assumption

theorem State.clearRc_kept {kq : List Instr} {s : State} {d : RegDef} {n : Nat} (hkq : State.Kept kq s) : State.Kept
    kq (State.clearRc s d n) := by
  unfold State.clearRc; refine State.kept_forEach (fun x s h => ?_) _ _ ?_; with_reducible refine State.wr_kept ?_
  with_reducible assumption; with_reducible assumption

theorem State.readWord_kept {kq : List Instr} {s : State} {off : Nat} (hkq : State.Kept kq s) : State.Kept kq
    (State.readWord s off).2 := by
  unfold State.readWord; split; dsimp only; with_reducible assumption; refine State.kept_ite1 ?_ ?_; dsimp only
  with_reducible assumption; refine State.kept_ite1 ?_ ?_; lift_lets -underBinder; intro v12
  refine State.kept_have (q := kq) v12 ?_ (fun hs => ?_); subst v12; with_reducible refine State.popNotif_kept ?_
  with_reducible assumption; clear_value v12; dsimp only; with_reducible assumption; lift_lets -underBinder; intro v12
  clear_value v12; intro v13; refine State.kept_have (q := kq) v13 ?_ (fun hs => ?_); subst v13
  refine State.kept_forEach (fun x s h => ?_) _ _ ?_; with_reducible refine State.kept_upd ?_; with_reducible assumption
  with_reducible assumption; clear_value v13; dsimp only; with_reducible refine State.clearRc_kept ?_
  with_reducible assumption

theorem State.barRead_kept {kq : List Instr} {s : State} {off : Nat} {wide : Bool} (hkq : State.Kept kq s) :
    State.Kept kq (State.barRead s off wide) := by
  unfold State.barRead; refine State.kept_ite ?_ ?_; lift_lets -underBinder; intro v6
  refine State.kept_have (q := kq) v6 ?_ (fun hs => ?_); subst v6; with_reducible refine State.refuseWrite_kept ?_
  with_reducible assumption; intro v8; clear_value v8 v6; with_reducible refine State.kept_upd ?_
  with_reducible assumption; split; refine State.kept_ite ?_ ?_; split; with_reducible refine State.kept_upd ?_
  refine State.kept_snd (by with_reducible assumption) ?_; with_reducible refine State.readWord_kept ?_
  refine State.kept_snd (by with_reducible assumption) ?_; with_reducible refine State.readWord_kept ?_
  with_reducible assumption; with_reducible refine State.kept_upd ?_
  refine State.kept_snd (by with_reducible assumption) ?_; with_reducible refine State.readWord_kept ?_
  with_reducible assumption

theorem State.msixRead_kept {kq : List Instr} {s : State} {off : Nat} {wide : Bool} (hkq : State.Kept kq s) :
    State.Kept kq (State.msixRead s off wide) := by
  unfold State.msixRead; with_reducible refine State.kept_upd ?_; with_reducible assumption

theorem State.msixPut_kept {kq : List Instr} {s : State} {off : Nat} {v : Nat} (hkq : State.Kept kq s) : State.Kept kq
    (State.msixPut s off v) := by
  unfold State.msixPut; refine State.kept_ite ?_ ?_; with_reducible assumption; lift_lets -underBinder; intro v6
  clear_value v6; intro v7; refine State.kept_have (q := kq) v7 ?_ (fun hs => ?_); subst v7
  with_reducible refine State.kept_upd ?_; with_reducible assumption; intro v9; clear_value v9 v7
  refine State.kept_ite ?_ ?_; with_reducible assumption; with_reducible refine State.kept_upd ?_
  with_reducible assumption

theorem State.msixWrite_kept {kq : List Instr} {s : State} {off : Nat} {v : Nat} {wide : Bool} (hkq : State.Kept kq s)
    : State.Kept kq (State.msixWrite s off v wide) := by
  unfold State.msixWrite; lift_lets -underBinder; intro v7; refine State.kept_have (q := kq) v7 ?_ (fun hs => ?_)
  subst v7; with_reducible refine State.msixPut_kept ?_; with_reducible assumption; clear_value v7
  refine State.kept_ite ?_ ?_; with_reducible refine State.msixPut_kept ?_; with_reducible assumption
  with_reducible assumption

theorem State.putFields_kept {kq : List Instr} {s : State} {fs : List Fld} {n : Nat} {image : Nat} (hkq : State.Kept
    kq s) : State.Kept kq (State.putFields s fs n image) := by
  unfold State.putFields; refine State.kept_forEach (fun x s h => ?_) _ _ ?_; lift_lets -underBinder; intro v10
  clear_value v10; refine State.kept_ite ?_ ?_; with_reducible refine State.wr_kept ?_; with_reducible assumption
  with_reducible refine State.wrSave_kept ?_; with_reducible assumption; with_reducible assumption

theorem State.calList_kept {kq : List Instr} {s : State} {off : Nat} {old : Nat} {new : Nat} (hkq : State.Kept kq s) :
    State.Kept kq (State.calList s off old new) := by
  unfold State.calList; split; with_reducible refine State.kept_upd ?_; with_reducible assumption
  with_reducible assumption

theorem State.shiftMoved_kept {kq : List Instr} {s : State} {before : State} {c : Nat} (hkq : State.Kept kq s) :
    State.Kept kq (State.shiftMoved s before c) := by
  unfold State.shiftMoved; refine State.kept_ite ?_ ?_; with_reducible assumption; lift_lets -underBinder; intro v6
  clear_value v6; with_reducible refine State.wr_kept (State.calList_kept ?_); with_reducible assumption

theorem State.chainApplied_kept {kq : List Instr} {s : State} {before : State} {d : RegDef} {n : Nat} (hkq :
    State.Kept kq s) : State.Kept kq (State.chainApplied s before d n) := by
  unfold State.chainApplied; lift_lets -underBinder; intro v7; clear_value v7; intro v8; clear_value v8; intro v9
  refine State.kept_have (q := kq) v9 ?_ (fun hs => ?_); subst v9; refine State.kept_forEach (fun x s h => ?_) _ _ ?_
  with_reducible refine State.restartChain_kept (State.shiftMoved_kept ?_); with_reducible assumption
  with_reducible assumption; intro v11; refine State.kept_have (q := kq) v11 ?_ (fun hs => ?_); clear_value v9
  subst v11; refine State.kept_ite ?_ ?_; with_reducible refine State.tamper_kept (State.wr_kept ?_)
  with_reducible assumption; with_reducible assumption; clear_value v9 v11; refine State.kept_ite ?_ ?_
  with_reducible refine State.mpEvalAll_kept (State.trkRefreshAll_kept ?_); with_reducible assumption
  with_reducible assumption

theorem State.seqApplied_kept {kq : List Instr} {s : State} {before : State} {q : Nat} {ent : Option Nat} (hkq :
    State.Kept kq s) (hbef : State.Kept kq before) : State.Kept kq (State.seqApplied s before q ent) := by
  unfold State.seqApplied; refine State.kept_ite ?_ ?_; split; lift_lets -underBinder; intro v14; clear_value v14
  intro v15; refine State.kept_have (q := kq) v15 ?_ (fun hs => ?_); subst v15; with_reducible refine State.kept_upd ?_
  with_reducible assumption; intro v17; clear_value v17 v15; refine State.kept_ite ?_ ?_
  with_reducible refine State.kept_upd ?_; with_reducible assumption; with_reducible assumption; lift_lets -underBinder
  intro v8; refine State.kept_have (q := kq) v8 ?_ (fun hs => ?_); subst v8; with_reducible refine State.wr_kept ?_
  with_reducible assumption; clear_value v8; refine State.kept_ite ?_ ?_; with_reducible refine State.padc10_kept ?_
  with_reducible assumption; with_reducible refine State.stopSeq_kept ?_; with_reducible assumption

theorem State.regApplied_kept {kq : List Instr} {s : State} {before : State} {d : RegDef} {n : Nat} (hkq : State.Kept
    kq s) (hbef : State.Kept kq before) : State.Kept kq (State.regApplied s before d n) := by
  unfold State.regApplied; lift_lets -underBinder; intro v8; refine State.kept_have (q := kq) v8 ?_ (fun hs => ?_)
  subst v8; with_reducible refine State.chainApplied_kept ?_; with_reducible assumption; intro v10
  refine State.kept_have (q := kq) v10 ?_ (fun hs => ?_); clear_value v8; subst v10
  with_reducible refine State.trellisEn_kept ?_; with_reducible assumption; intro v12
  refine State.kept_have (q := kq) v12 ?_ (fun hs => ?_); clear_value v8 v10; subst v12; refine State.kept_ite ?_ ?_
  with_reducible refine State.seqApplied_kept ?_ ?_; with_reducible assumption; with_reducible assumption
  refine State.kept_ite ?_ ?_; with_reducible refine State.seqApplied_kept ?_ ?_; with_reducible assumption
  with_reducible assumption; refine State.kept_ite ?_ ?_; with_reducible refine State.pulseReset_kept ?_
  with_reducible assumption; refine State.kept_ite ?_ ?_; with_reducible refine State.signKeyChanged_kept ?_
  with_reducible assumption; refine State.kept_ite ?_ ?_
  with_reducible refine State.plcFollowAll_kept (State.cfgApplied_kept ?_); with_reducible assumption
  refine State.kept_ite ?_ ?_; refine State.kept_ite ?_ ?_; with_reducible assumption
  with_reducible refine State.mainsModems_kept ?_; with_reducible assumption; refine State.kept_ite ?_ ?_
  with_reducible refine State.safeInCfg_kept ?_; with_reducible assumption; refine State.kept_ite ?_ ?_
  with_reducible refine State.bandShow_kept ?_; with_reducible assumption; refine State.kept_ite ?_ ?_
  with_reducible refine State.twinStart_kept ?_; with_reducible assumption; with_reducible assumption
  clear_value v8 v10 v12; with_reducible refine State.auxSlowNote_kept ?_; with_reducible assumption

theorem State.alertWrite_kept {kq : List Instr} {s : State} {mask : Nat} (hkq : State.Kept kq s) : State.Kept kq
    (State.alertWrite s mask) := by
  unfold State.alertWrite; lift_lets -underBinder; intro v5; refine State.kept_have (q := kq) v5 ?_ (fun hs => ?_)
  subst v5; refine State.kept_forEach (fun x s h => ?_) _ _ ?_; with_reducible refine State.wr_kept ?_
  with_reducible assumption; with_reducible assumption; clear_value v5; refine State.kept_ite ?_ ?_
  with_reducible refine State.irq_kept ?_; with_reducible assumption; with_reducible assumption

theorem State.lockSetup_kept {kq : List Instr} {s : State} (hkq : State.Kept kq s) : State.Kept kq (State.lockSetup s)
    := by
  unfold State.lockSetup; refine State.kept_ite ?_ ?_; with_reducible assumption; lift_lets -underBinder; intro v4
  refine State.kept_have (q := kq) v4 ?_ (fun hs => ?_); subst v4; with_reducible refine State.wr_kept ?_
  with_reducible assumption; intro v6; clear_value v6 v4
  with_reducible refine State.auxSlowAll_kept (State.kept_upd ?_); with_reducible assumption

theorem State.settingsSaved_kept {kq : List Instr} {s : State} (hkq : State.Kept kq s) : State.Kept kq
    (State.settingsSaved s) := by
  unfold State.settingsSaved; refine State.kept_ite ?_ ?_; with_reducible assumption; lift_lets -underBinder; intro v4
  refine State.kept_have (q := kq) v4 ?_ (fun hs => ?_); subst v4; refine State.kept_forEach (fun x s h => ?_) _ _ ?_
  with_reducible refine State.save_kept ?_; with_reducible assumption; with_reducible assumption; clear_value v4
  with_reducible refine State.raise_kept (State.wr_kept ?_); with_reducible assumption

theorem State.writeCtrl_kept {kq : List Instr} {s : State} {image : Nat} (hkq : State.Kept kq s) : State.Kept kq
    (State.writeCtrl s image) := by
  unfold State.writeCtrl; lift_lets -underBinder; intro v5; clear_value v5; intro v6
  refine State.kept_have (q := kq) v6 ?_ (fun hs => ?_); subst v6; with_reducible refine State.putFields_kept ?_
  with_reducible assumption; clear_value v6; refine State.kept_ite ?_ ?_; with_reducible refine State.attach_kept ?_
  with_reducible assumption; refine State.kept_ite ?_ ?_; with_reducible refine State.detach_kept ?_
  with_reducible assumption; with_reducible assumption

theorem State.applyWrite_kept {kq : List Instr} {s : State} {d : RegDef} {n : Nat} {off : Nat} {fs : List Fld} {image
    : Nat} (hkq : State.Kept kq s) : State.Kept kq (State.applyWrite s d n off fs image) := by
  unfold State.applyWrite; lift_lets -underBinder; intro v9; clear_value v9; intro v10
  refine State.kept_have (q := kq) v10 ?_ (fun hs => ?_); subst v10; with_reducible refine State.putFields_kept ?_
  with_reducible assumption; intro v12; refine State.kept_have (q := kq) v12 ?_ (fun hs => ?_); clear_value v10
  subst v12; refine State.kept_ite ?_ ?_; with_reducible refine State.calNote_kept ?_; with_reducible assumption
  with_reducible assumption; clear_value v10 v12; with_reducible refine State.regApplied_kept ?_ ?_
  with_reducible assumption; with_reducible assumption

theorem State.writeFieldwise_kept {kq : List Instr} {s : State} {d : RegDef} {n : Nat} {off : Nat} {image : Nat} (hkq
    : State.Kept kq s) : State.Kept kq (State.writeFieldwise s d n off image) := by
  unfold State.writeFieldwise; lift_lets -underBinder; intro v8; clear_value v8; split
  with_reducible refine State.refuseWrite_kept ?_; with_reducible assumption; lift_lets -underBinder; intro v13
  clear_value v13; refine State.kept_ite ?_ ?_; with_reducible refine State.refuseWrite_kept ?_
  with_reducible assumption; refine State.kept_ite ?_ ?_; with_reducible refine State.refuseWrite_kept ?_
  with_reducible assumption; split; with_reducible refine State.refuseWrite_kept ?_; with_reducible assumption
  with_reducible refine State.applyWrite_kept ?_; with_reducible assumption

theorem State.writeReg_kept {kq : List Instr} {s : State} {d : RegDef} {n : Nat} {off : Nat} {ws : List (Nat × Nat)}
    (hkq : State.Kept kq s) : State.Kept kq (State.writeReg s d n off ws) := by
  unfold State.writeReg; lift_lets -underBinder; intro v8; clear_value v8; refine State.kept_ite ?_ ?_
  refine State.kept_ite ?_ ?_; with_reducible refine State.lockSetup_kept ?_; with_reducible assumption
  with_reducible assumption; refine State.kept_ite ?_ ?_; with_reducible refine State.alertWrite_kept ?_
  with_reducible assumption; refine State.kept_ite ?_ ?_; with_reducible refine State.writeCtrl_kept ?_
  with_reducible assumption; split; with_reducible refine State.writeRing_kept ?_; with_reducible assumption
  with_reducible refine State.writeFieldwise_kept ?_; with_reducible assumption

theorem State.writeWord_kept {kq : List Instr} {s : State} {off : Nat} {v : Nat} (hkq : State.Kept kq s) : State.Kept
    kq (State.writeWord s off v) := by
  unfold State.writeWord; split; with_reducible refine State.refuseWrite_kept ?_; with_reducible assumption
  lift_lets -underBinder; intro v13; clear_value v13; intro v14; clear_value v14; intro v15; clear_value v15; intro v16
  refine State.kept_have (q := kq) v16 ?_ (fun hs => ?_); subst v16; with_reducible refine State.kept_upd ?_
  with_reducible assumption; intro v18; clear_value v18 v16; refine State.kept_ite ?_ ?_
  with_reducible refine State.refuseWrite_kept ?_; with_reducible assumption; refine State.kept_ite ?_ ?_
  with_reducible refine State.kept_upd ?_; with_reducible assumption; with_reducible refine State.writeReg_kept ?_
  with_reducible assumption

theorem State.barWrite_kept {kq : List Instr} {s : State} {off : Nat} {v : Nat} {wide : Bool} {part : Bool} (hkq :
    State.Kept kq s) : State.Kept kq (State.barWrite s off v wide part) := by
  unfold State.barWrite; refine State.kept_ite ?_ ?_; with_reducible refine State.refuseWrite_kept ?_
  with_reducible assumption; refine State.kept_ite ?_ ?_; with_reducible refine State.writeWord_kept ?_
  with_reducible assumption; lift_lets -underBinder; intro v8; clear_value v8; refine State.kept_ite ?_ ?_
  with_reducible refine State.writeWord_kept (State.writeWord_kept ?_); with_reducible assumption
  with_reducible refine State.writeWord_kept (State.writeWord_kept ?_); with_reducible assumption

theorem State.regWrite_kept {kq : List Instr} {s : State} {off : Nat} {value : Nat} {mask : Nat} (hkq : State.Kept kq
    s) : State.Kept kq (State.regWrite s off value mask).2 := by
  unfold State.regWrite; refine State.kept_ite1 ?_ ?_; dsimp only; with_reducible assumption; split; dsimp only
  with_reducible assumption; lift_lets -underBinder; intro v14; clear_value v14; intro v15; clear_value v15; intro v16
  clear_value v16; intro v17; clear_value v17; refine State.kept_ite1 ?_ ?_; dsimp only; with_reducible assumption
  refine State.kept_ite1 ?_ ?_; dsimp only; with_reducible refine State.alertWrite_kept ?_; with_reducible assumption
  refine State.kept_ite1 ?_ ?_; dsimp only; with_reducible assumption; refine State.kept_ite1 ?_ ?_; dsimp only
  with_reducible assumption; split; dsimp only; with_reducible assumption; dsimp only
  with_reducible refine State.applyWrite_kept ?_; with_reducible assumption

theorem execLatchingRead_kept {kq : List Instr} {t : Nat} {off : Nat} {wide : Bool} {bar4 : Bool} {s : State} (hkq :
    State.Kept kq s) : OutKept kq (execLatchingRead t off wide bar4 s) := by
  unfold execLatchingRead; refine State.kept_next ?_; with_reducible refine onEvent_kept ?_ ?_; intro _ _
  refine State.kept_ite ?_ ?_; with_reducible refine State.msixRead_kept ?_; with_reducible assumption
  with_reducible refine State.barRead_kept ?_; with_reducible assumption; with_reducible assumption

theorem execRegisterWrite_kept {kq : List Instr} {t : Nat} {off : Nat} {value : Nat} {wide : Bool} {part : Bool} {bar4
    : Bool} {s : State} (hkq : State.Kept kq s) : OutKept kq (execRegisterWrite t off value wide part bar4 s) := by
  unfold execRegisterWrite; refine State.kept_next ?_; with_reducible refine onEvent_kept ?_ ?_; intro _ _
  refine State.kept_ite ?_ ?_; with_reducible refine State.msixWrite_kept ?_; with_reducible assumption
  with_reducible refine State.barWrite_kept ?_; with_reducible assumption; with_reducible assumption

theorem execAlertWrite_kept {kq : List Instr} {t : Nat} {mask : Nat} {s : State} (hkq : State.Kept kq s) : OutKept kq
    (execAlertWrite t mask s) := by
  unfold execAlertWrite; refine State.kept_next ?_; with_reducible refine onEvent_kept ?_ ?_; intro _ _
  with_reducible refine State.alertWrite_kept ?_; with_reducible assumption; with_reducible assumption

theorem execSetupLock_kept {kq : List Instr} {t : Nat} {s : State} (hkq : State.Kept kq s) : OutKept kq (execSetupLock
    t s) := by
  unfold execSetupLock; refine State.kept_next ?_; with_reducible refine onEvent_kept ?_ ?_; intro _ _
  with_reducible refine State.lockSetup_kept ?_; with_reducible assumption; with_reducible assumption

theorem execSettingsSaved_kept {kq : List Instr} {t : Nat} {s : State} (hkq : State.Kept kq s) : OutKept kq
    (execSettingsSaved t s) := by
  unfold execSettingsSaved; refine State.kept_next ?_; with_reducible refine onEvent_kept ?_ ?_; intro _ _
  with_reducible refine State.settingsSaved_kept ?_; with_reducible assumption; with_reducible assumption

theorem execRegWrite_kept {kq : List Instr} {x : Ctx} {off : Nat} {value : Nat} {mask : Nat} {s : State} (hkq :
    State.Kept kq s) : OutKept kq (execRegWrite x off value mask s) := by
  unfold execRegWrite; refine State.kept_next ?_; with_reducible refine State.command_kept ?_ ?_
  with_reducible assumption; intro _ _; split; with_reducible refine State.complete_kept ?_
  refine State.kept_snd (by with_reducible assumption) ?_; with_reducible refine State.regWrite_kept ?_
  with_reducible assumption

theorem State.putSlac_kept {kq : List Instr} {s : State} {r : SlacRun} (hkq : State.Kept kq s) : State.Kept kq
    (State.putSlac s r) := by
  unfold State.putSlac; lift_lets -underBinder; intro v5; clear_value v5; intro v6; clear_value v6
  with_reducible refine State.plcFollowAll_kept (State.kept_upd ?_); with_reducible assumption

theorem State.dropSlac_kept {kq : List Instr} {s : State} {id : Nat} (hkq : State.Kept kq s) : State.Kept kq
    (State.dropSlac s id) := by
  unfold State.dropSlac; with_reducible refine State.plcFollowAll_kept (State.kept_upd ?_); with_reducible assumption

theorem State.slacFail_kept {kq : List Instr} {s : State} {n : Nat} (hkq : State.Kept kq s) : State.Kept kq
    (State.slacFail s n) := by
  unfold State.slacFail; lift_lets -underBinder; intro v5; clear_value v5; intro v6
  refine State.kept_have (q := kq) v6 ?_ (fun hs => ?_); subst v6; with_reducible refine State.modOutlet_kept ?_
  with_reducible assumption; clear_value v6; refine State.kept_ite ?_ ?_; with_reducible assumption
  refine State.kept_ite ?_ ?_; with_reducible refine State.endSession_kept ?_; with_reducible assumption
  with_reducible refine State.goReady_kept ?_; with_reducible assumption

theorem State.slacHold_kept {kq : List Instr} {s : State} {ps : List Nat} (hkq : State.Kept kq s) : State.Kept kq
    (State.slacHold s ps) := by
  unfold State.slacHold; refine State.kept_forEach (fun x s h => ?_) _ _ ?_
  with_reducible refine State.modOutlet_kept ?_; with_reducible assumption; with_reducible assumption

theorem State.slacClose_kept {kq : List Instr} {s : State} (hkq : State.Kept kq s) : State.Kept kq (State.slacClose s)
    := by
  unfold State.slacClose; lift_lets -underBinder; intro v4; clear_value v4; intro v5; clear_value v5; intro v6
  clear_value v6; refine State.kept_forEach (fun x s h => ?_) _ _ ?_; lift_lets -underBinder; intro v10; clear_value v10
  intro v11; split; with_reducible refine State.slacHold_kept (State.putSlac_kept ?_); with_reducible assumption
  with_reducible refine State.slacHold_kept (State.putSlac_kept ?_); with_reducible assumption; subst v11; beta_reduce
  lift_lets -underBinder; intro v16; clear_value v16; intro v17; refine State.kept_have (q := kq) v17 ?_ (fun hs => ?_)
  subst v17; with_reducible refine State.raise_kept ?_; with_reducible assumption; clear_value v17
  refine State.kept_forEach (fun x s h => ?_) _ _ ?_; with_reducible refine State.slacFail_kept ?_
  with_reducible assumption; with_reducible refine State.dropSlac_kept ?_; with_reducible assumption; subst v11
  beta_reduce; lift_lets -underBinder; intro v16; clear_value v16; intro v17
  refine State.kept_have (q := kq) v17 ?_ (fun hs => ?_); subst v17; with_reducible refine State.raise_kept ?_
  with_reducible assumption; clear_value v17; refine State.kept_forEach (fun x s h => ?_) _ _ ?_
  with_reducible refine State.slacFail_kept ?_; with_reducible assumption; with_reducible refine State.dropSlac_kept ?_
  with_reducible assumption; with_reducible assumption

theorem execSlacParmReq_kept {kq : List Instr} {t : Nat} {run : Nat} {pilots : List Nat} {s : State} (hkq : State.Kept
    kq s) : OutKept kq (execSlacParmReq t run pilots s) := by
  unfold execSlacParmReq; refine State.kept_next ?_; with_reducible refine onEvent_kept ?_ ?_; intro _ _
  lift_lets -underBinder; intro v9; clear_value v9; intro v10; refine State.kept_have (q := kq) v10 ?_ (fun hs => ?_)
  subst v10; refine State.kept_forEach (fun x s h => ?_) _ _ ?_; with_reducible refine State.modOutlet_kept ?_
  with_reducible assumption; with_reducible assumption; clear_value v10; refine State.kept_ite ?_ ?_
  with_reducible assumption; split; refine State.kept_ite ?_ ?_; with_reducible refine State.putSlac_kept ?_
  with_reducible assumption; with_reducible assumption; with_reducible refine State.putSlac_kept ?_
  with_reducible assumption; with_reducible assumption

theorem execStartAttenChar_kept {kq : List Instr} {t : Nat} {run : Nat} {s : State} (hkq : State.Kept kq s) : OutKept
    kq (execStartAttenChar t run s) := by
  unfold execStartAttenChar; refine State.kept_next ?_; with_reducible refine onEvent_kept ?_ ?_; intro _ _; split
  refine State.kept_ite ?_ ?_; with_reducible refine State.putSlac_kept ?_; with_reducible assumption
  with_reducible assumption; with_reducible assumption; with_reducible assumption

theorem execMnbcSound_kept {kq : List Instr} {t : Nat} {run : Nat} {meas : List (Nat × List Nat)} {s : State} (hkq :
    State.Kept kq s) : OutKept kq (execMnbcSound t run meas s) := by
  unfold execMnbcSound; refine State.kept_next ?_; with_reducible refine onEvent_kept ?_ ?_; intro _ _; split
  refine State.kept_ite ?_ ?_; lift_lets -underBinder; intro v14; clear_value v14
  with_reducible refine State.putSlac_kept ?_; with_reducible assumption; with_reducible assumption
  with_reducible assumption; with_reducible assumption

theorem execSlacWindowClose_kept {kq : List Instr} {t : Nat} {s : State} (hkq : State.Kept kq s) : OutKept kq
    (execSlacWindowClose t s) := by
  unfold execSlacWindowClose; refine State.kept_next ?_; with_reducible refine onEvent_kept ?_ ?_; intro _ _
  with_reducible refine State.slacClose_kept ?_; with_reducible assumption; with_reducible assumption

theorem execSlacValidate_kept {kq : List Instr} {t : Nat} {run : Nat} {announced : Nat} {counted : List (Nat × Nat)}
    {s : State} (hkq : State.Kept kq s) : OutKept kq (execSlacValidate t run announced counted s) := by
  unfold execSlacValidate; refine State.kept_next ?_; with_reducible refine onEvent_kept ?_ ?_; intro _ _; split
  refine State.kept_ite ?_ ?_; with_reducible assumption; with_reducible refine State.putSlac_kept ?_
  with_reducible assumption; with_reducible assumption; with_reducible assumption

theorem execSlacMatchReq_kept {kq : List Instr} {t : Nat} {run : Nat} {pilot : Nat} {s : State} (hkq : State.Kept kq
    s) : OutKept kq (execSlacMatchReq t run pilot s) := by
  unfold execSlacMatchReq; refine State.kept_next ?_; with_reducible refine onEvent_kept ?_ ?_; intro _ _; split
  refine State.kept_ite ?_ ?_; split; split; lift_lets -underBinder; intro v26; clear_value v26; intro v27
  clear_value v27; intro v28; refine State.kept_have (q := kq) v28 ?_ (fun hs => ?_); subst v28
  with_reducible refine State.modOutlet_kept (State.dropSlac_kept ?_)
  refine State.kept_snd (by with_reducible assumption) ?_; with_reducible refine State.takeFree_kept ?_
  refine State.kept_snd (by with_reducible assumption) ?_; with_reducible refine State.drbgNext_kept ?_
  with_reducible assumption; intro v30; refine State.kept_have (q := kq) v30 ?_ (fun hs => ?_); clear_value v28
  subst v30; with_reducible refine State.raise_kept ?_; with_reducible assumption; clear_value v28 v30
  with_reducible refine State.setSess_kept ?_; with_reducible assumption; with_reducible assumption
  with_reducible assumption; with_reducible assumption

theorem execSlacMatchTimeout_kept {kq : List Instr} {t : Nat} {run : Nat} {s : State} (hkq : State.Kept kq s) :
    OutKept kq (execSlacMatchTimeout t run s) := by
  unfold execSlacMatchTimeout; refine State.kept_next ?_; with_reducible refine onEvent_kept ?_ ?_; intro _ _; split
  refine State.kept_ite ?_ ?_; with_reducible assumption; refine State.kept_forEach (fun x s h => ?_) _ _ ?_
  with_reducible refine State.slacFail_kept ?_; with_reducible assumption; with_reducible refine State.dropSlac_kept ?_
  with_reducible assumption; with_reducible assumption; with_reducible assumption

theorem execSlacInitTimeout_kept {kq : List Instr} {t : Nat} {n : Nat} {s : State} (hkq : State.Kept kq s) : OutKept
    kq (execSlacInitTimeout t n s) := by
  unfold execSlacInitTimeout; refine State.kept_next ?_; with_reducible refine onEvent_kept ?_ ?_; intro _ _; split
  refine State.kept_ite ?_ ?_; with_reducible refine State.slacFail_kept ?_; with_reducible assumption
  with_reducible assumption; with_reducible assumption; with_reducible assumption

end Sys2Proof.Machine
end

