-- ==== Sys2Proof/Laws/KeepTwin.lean ====
section
/-! SUPPORT. What the start, tag, Trellis and twin commands keep. -/

namespace Sys2Proof.Machine

theorem State.dispStartUp_kept {kq : List Instr} {s : State} (hkq : State.Kept kq s) : State.Kept kq
    (State.dispStartUp s) := by
  unfold State.dispStartUp; lift_lets -underBinder; intro v4; clear_value v4; intro v5; clear_value v5; intro v6
  clear_value v6; with_reducible refine State.kept_upd ?_; with_reducible assumption

theorem State.keepRegs_kept {kq : List Instr} {s : State} (h : State.Kept kq s) : State.Kept kq s.keepRegs :=
  ⟨h.1, h.2.1, filter_cells_sorted _ h.2.2⟩

theorem State.afterReset_kept {kq : List Instr} {s : State} (hkq : State.Kept kq s) : State.Kept kq (State.afterReset
    s) := by
  unfold State.afterReset; lift_lets -underBinder; intro v4; clear_value v4; intro v5; clear_value v5; intro v6
  clear_value v6; intro v7; clear_value v7; intro v8; clear_value v8; intro v9; clear_value v9; intro v10
  clear_value v10; intro v11; clear_value v11; intro v12; clear_value v12; intro v13
  refine State.kept_have (q := kq) v13 ?_ (fun hs => ?_); subst v13; with_reducible refine State.keepRegs_kept ?_
  with_reducible assumption; intro v15; clear_value v15; intro v16; clear_value v16; intro v17; clear_value v17
  intro v18; clear_value v18; intro v19; clear_value v19; intro v20; clear_value v20; intro v21; clear_value v21
  intro v22; clear_value v22; intro v23; clear_value v23; intro v24; clear_value v24; intro v25
  refine State.kept_have (q := kq) v25 ?_ (fun hs => ?_); clear_value v13; subst v25
  with_reducible refine State.dispStartUp_kept (State.kept_upd ?_); with_reducible assumption; intro v27
  refine State.kept_have (q := kq) v27 ?_ (fun hs => ?_); clear_value v13 v25; subst v27
  refine State.kept_forEach (fun x s h => ?_) _ _ ?_; lift_lets -underBinder; intro v30; subst v30
  refine State.kept_ite ?_ ?_; with_reducible assumption; with_reducible refine State.wr_kept ?_
  with_reducible assumption; with_reducible assumption; intro v29
  refine State.kept_have (q := kq) v29 ?_ (fun hs => ?_); clear_value v13 v25 v27; subst v29
  with_reducible refine State.addSat_kept ?_; with_reducible assumption; clear_value v13 v25 v27 v29
  refine State.kept_ite ?_ ?_; with_reducible refine State.wr_kept ?_; with_reducible assumption
  with_reducible assumption

theorem State.trialStart_kept {kq : List Instr} {s : State} {b : BootIn} (hkq : State.Kept kq s) : State.Kept kq
    (State.trialStart s b).2 := by
  unfold State.trialStart; lift_lets -underBinder; intro v5; refine State.kept_have (q := kq) v5 ?_ (fun hs => ?_)
  subst v5; with_reducible refine State.ptrLoad_kept ?_; with_reducible assumption; intro v7; clear_value v7; intro v8
  refine State.kept_have (q := kq) v8 ?_ (fun hs => ?_); clear_value v5; subst v8
  with_reducible refine State.ptrWrite_kept (State.wr_kept ?_); with_reducible assumption; intro v10; clear_value v10
  intro v11; clear_value v11; intro v12; clear_value v12; intro v13
  refine State.kept_have (q := kq) v13 ?_ (fun hs => ?_); clear_value v5 v8; subst v13
  with_reducible refine State.kept_upd ?_; with_reducible assumption; intro v15
  refine State.kept_have (q := kq) v15 ?_ (fun hs => ?_); clear_value v5 v8 v13; subst v15; refine State.kept_ite ?_ ?_
  with_reducible refine State.kept_upd ?_; with_reducible assumption; with_reducible assumption
  clear_value v5 v8 v13 v15; refine State.kept_ite1 ?_ ?_; dsimp only; with_reducible assumption
  refine State.kept_ite1 ?_ ?_; dsimp only; with_reducible refine State.revertPointer_kept ?_; with_reducible assumption
  refine State.kept_ite1 ?_ ?_; dsimp only; with_reducible refine State.revertPointer_kept ?_; with_reducible assumption
  refine State.kept_ite1 ?_ ?_; dsimp only; with_reducible assumption; dsimp only
  with_reducible refine State.wr_kept ?_; with_reducible assumption

theorem State.slotChosen_kept {kq : List Instr} {s : State} {b : BootIn} {reverted : Bool} (hkq : State.Kept kq s) :
    State.Kept kq (State.slotChosen s b reverted) := by
  unfold State.slotChosen; refine State.kept_ite ?_ ?_; with_reducible assumption; lift_lets -underBinder; intro v6
  clear_value v6; intro v7; clear_value v7; intro v8; refine State.kept_have (q := kq) v8 ?_ (fun hs => ?_); subst v8
  with_reducible refine State.kept_upd ?_; with_reducible assumption; clear_value v8
  with_reducible refine State.ptrWrite_kept (State.wr_kept (State.wr_kept ?_)); with_reducible assumption

theorem State.openEpoch_kept {kq : List Instr} {s : State} {old : State} {cause : Nat} (hkq : State.Kept kq s) :
    State.Kept kq (State.openEpoch s old cause) := by
  unfold State.openEpoch; lift_lets -underBinder; intro v6; clear_value v6; intro v7; clear_value v7; intro v8
  refine State.kept_have (q := kq) v8 ?_ (fun hs => ?_); subst v8
  with_reducible refine State.wr_kept (State.wr_kept ?_); with_reducible assumption; intro v10
  refine State.kept_have (q := kq) v10 ?_ (fun hs => ?_); clear_value v8; subst v10
  with_reducible refine State.wr_kept ?_; with_reducible assumption; intro v12
  refine State.kept_have (q := kq) v12 ?_ (fun hs => ?_); clear_value v8 v10; subst v12
  with_reducible refine State.raise_kept ?_; with_reducible assumption; intro v14; clear_value v14; intro v15
  refine State.kept_have (q := kq) v15 ?_ (fun hs => ?_); clear_value v8 v10 v12; subst v15
  refine State.kept_forEach (fun x s h => ?_) _ _ ?_; lift_lets -underBinder; intro v18; clear_value v18; intro v19
  refine State.kept_have (q := kq) v19 ?_ (fun hs => ?_); subst v19; with_reducible refine State.raise_kept ?_
  with_reducible assumption; clear_value v19; with_reducible refine State.setHist_kept ?_; with_reducible assumption
  with_reducible assumption; intro v17; clear_value v17; intro v18
  refine State.kept_have (q := kq) v18 ?_ (fun hs => ?_); clear_value v8 v10 v12 v15; subst v18
  with_reducible refine State.kept_upd ?_; with_reducible assumption; clear_value v8 v10 v12 v15 v18
  refine State.kept_forEach (fun x s h => ?_) _ _ ?_; with_reducible refine State.syncCompleted_kept ?_
  with_reducible assumption; with_reducible assumption

theorem State.keyStart_kept {kq : List Instr} {s : State} {b : BootIn} (hkq : State.Kept kq s) : State.Kept kq
    (State.keyStart s b) := by
  unfold State.keyStart; lift_lets -underBinder; intro v5; refine State.kept_have (q := kq) v5 ?_ (fun hs => ?_)
  subst v5; with_reducible refine State.cacheCounts_kept (State.wr_kept (State.wr_kept ?_)); with_reducible assumption
  intro v7; refine State.kept_have (q := kq) v7 ?_ (fun hs => ?_); clear_value v5; subst v7
  with_reducible refine State.setKeyMode_kept ?_; with_reducible assumption; intro v9
  refine State.kept_have (q := kq) v9 ?_ (fun hs => ?_); clear_value v5 v7; subst v9; refine State.kept_ite ?_ ?_
  with_reducible assumption; with_reducible refine State.raise_kept ?_; with_reducible assumption; intro v11
  refine State.kept_have (q := kq) v11 ?_ (fun hs => ?_); clear_value v5 v7 v9; subst v11; refine State.kept_ite ?_ ?_
  with_reducible refine State.raise_kept ?_; with_reducible assumption; with_reducible assumption
  clear_value v5 v7 v9 v11; refine State.kept_ite ?_ ?_; with_reducible refine State.keyRecovery_kept ?_
  refine State.kept_forEach (fun x s h => ?_) _ _ ?_; with_reducible refine State.raise_kept ?_
  with_reducible assumption; with_reducible assumption; refine State.kept_ite ?_ ?_
  with_reducible refine State.keyRecovery_kept ?_; with_reducible assumption
  refine State.kept_forEach (fun x s h => ?_) _ _ ?_; refine State.kept_ite ?_ ?_
  with_reducible refine State.regenerate_kept ?_; with_reducible assumption; with_reducible assumption
  with_reducible refine State.wr_kept ?_; with_reducible assumption

theorem State.hostReady_kept {kq : List Instr} {s : State} (hkq : State.Kept kq s) : State.Kept kq (State.hostReady s)
    := by
  unfold State.hostReady; refine State.kept_ite ?_ ?_; with_reducible assumption; lift_lets -underBinder; intro v4
  refine State.kept_have (q := kq) v4 ?_ (fun hs => ?_); subst v4; with_reducible refine State.wr_kept ?_
  with_reducible assumption; clear_value v4; refine State.kept_ite ?_ ?_; with_reducible refine State.attach_kept ?_
  with_reducible assumption; with_reducible assumption

theorem State.dropEntry_kept {kq : List Instr} {s : State} {e : Nat × Nat} (hkq : State.Kept kq s) : State.Kept kq
    (State.dropEntry s e) := by
  unfold State.dropEntry; lift_lets -underBinder; intro v5; clear_value v5; intro v6; split; subst v6; beta_reduce
  with_reducible refine State.kept_upd ?_; with_reducible assumption; subst v6; beta_reduce
  with_reducible refine State.kept_upd ?_; with_reducible assumption; lift_lets -underBinder; intro v11; clear_value v11
  intro v12; clear_value v12; subst v6; beta_reduce; with_reducible refine State.kept_upd ?_; with_reducible assumption
  subst v6; beta_reduce; with_reducible refine State.kept_upd ?_; with_reducible assumption; refine State.kept_ite ?_ ?_
  with_reducible refine State.wr_kept (State.wr_kept (State.wr_kept ?_)); with_reducible assumption
  with_reducible assumption; subst v6; beta_reduce; with_reducible refine State.kept_upd ?_; with_reducible assumption
  subst v6; beta_reduce; with_reducible refine State.kept_upd ?_; with_reducible assumption; subst v6; beta_reduce
  with_reducible refine State.kept_upd ?_; with_reducible assumption; with_reducible assumption

theorem State.dropEntries_kept {kq : List Instr} {s : State} {es : List (Nat × Nat)} (hkq : State.Kept kq s) :
    State.Kept kq (State.dropEntries s es) := by
  unfold State.dropEntries; refine State.kept_forEach (fun x s h => ?_) _ _ ?_
  with_reducible refine State.dropEntry_kept ?_; with_reducible assumption; with_reducible assumption

theorem State.asOf_kept {kq : List Instr} {s : State} {old : State} {t : Nat} {f : State → State} (hkq : State.Kept kq
    s) (hf : ∀ s, State.Kept kq s → State.Kept kq (f s)) : State.Kept kq (State.asOf s old t f) := by
  unfold State.asOf; lift_lets -underBinder; intro v8; clear_value v8; intro v9; intro v10
  refine State.kept_have (q := kq) v10 ?_ (fun hs => ?_); with_reducible assumption; intro v12; clear_value v12
  intro v13; refine State.kept_have (q := kq) v13 ?_ (fun hs => ?_); clear_value v10; subst v13; subst v9; beta_reduce
  refine State.kept_forEach (fun x s h => ?_) _ _ ?_; with_reducible refine State.wr_kept ?_; with_reducible assumption
  with_reducible refine State.kept_upd ?_; with_reducible assumption; intro v15
  refine State.kept_have (q := kq) v15 ?_ (fun hs => ?_); clear_value v10 v13; subst v15; refine hf _ ?_
  with_reducible assumption; intro v17; clear_value v17; intro v18; clear_value v18; intro v19
  refine State.kept_have (q := kq) v19 ?_ (fun hs => ?_); clear_value v10 v13 v15; subst v19; subst v9; beta_reduce
  refine State.kept_forEach (fun x s h => ?_) _ _ ?_; with_reducible refine State.wr_kept ?_; with_reducible assumption
  with_reducible assumption; intro v21; clear_value v21; intro v22; clear_value v22 v10 v13 v15 v19
  with_reducible refine State.kept_upd ?_; with_reducible assumption

theorem State.loadCommit_kept {kq : List Instr} {s : State} {c : Commit} (h : State.Kept kq s) : State.Kept kq (s.loadCommit c) :=
  ⟨h.1, h.2.1, overlay_sorted _ _ (filter_cells_sorted _ h.2.2)⟩

theorem State.replaySession_kept {kq : List Instr} {s : State} {old : State} {fresh : List Rec} {n : Nat} (hkq :
    State.Kept kq s) : State.Kept kq (State.replaySession s old fresh n) := by
  unfold State.replaySession; lift_lets -underBinder; intro v7; clear_value v7; intro v8; clear_value v8; intro v9
  refine State.kept_have (q := kq) v9 ?_ (fun hs => ?_); subst v9; refine State.kept_ite ?_ ?_
  with_reducible refine State.modLsess_kept ?_; with_reducible assumption; with_reducible assumption; intro v11
  clear_value v11; intro v12; clear_value v12; intro v13; refine State.kept_have (q := kq) v13 ?_ (fun hs => ?_)
  clear_value v9; subst v13; with_reducible refine State.modLsess_kept ?_; with_reducible assumption; clear_value v9 v13
  refine State.kept_ite ?_ ?_; with_reducible assumption; refine State.kept_ite ?_ ?_; refine State.kept_ite ?_ ?_
  with_reducible refine State.modLsess_kept ?_; with_reducible assumption; with_reducible assumption
  refine State.kept_ite ?_ ?_; with_reducible refine State.wr_kept (State.wr_kept (State.wr_kept ?_))
  with_reducible assumption; with_reducible assumption

theorem State.replayRecord_kept {kq : List Instr} {s : State} {r : Rec} (hkq : State.Kept kq s) : State.Kept kq
    (State.replayRecord s r) := by
  unfold State.replayRecord; refine State.kept_ite ?_ ?_; refine State.kept_forEach (fun x s h => ?_) _ _ ?_
  with_reducible refine State.wr_kept (State.wr_kept ?_); with_reducible assumption
  with_reducible refine State.kept_upd ?_; with_reducible assumption; refine State.kept_ite ?_ ?_
  lift_lets -underBinder; intro v5; clear_value v5; intro v6; clear_value v6
  refine State.kept_forEach (fun x s h => ?_) _ _ ?_; with_reducible refine State.modAcct_kept ?_
  with_reducible assumption; with_reducible assumption; with_reducible assumption

theorem State.replayCask_kept {kq : List Instr} {s : State} {old : State} {k : Nat} (hkq : State.Kept kq s) :
    State.Kept kq (State.replayCask s old k) := by
  unfold State.replayCask; lift_lets -underBinder; intro v6; clear_value v6; split; with_reducible assumption
  refine State.kept_ite ?_ ?_; with_reducible assumption; with_reducible refine State.asOf_kept ?_ ?_
  with_reducible assumption; intro _ _; lift_lets -underBinder; intro v14
  refine State.kept_have (q := kq) v14 ?_ (fun hs => ?_); subst v14; with_reducible refine State.kept_upd ?_
  with_reducible assumption; intro v16; refine State.kept_have (q := kq) v16 ?_ (fun hs => ?_); clear_value v14
  subst v16; with_reducible refine State.useNums_kept ?_; with_reducible assumption; intro v18
  refine State.kept_have (q := kq) v18 ?_ (fun hs => ?_); clear_value v14 v16; subst v18
  refine State.kept_forEach (fun x s h => ?_) _ _ ?_; with_reducible refine State.applyAct_kept ?_
  with_reducible assumption; with_reducible assumption; intro v20
  refine State.kept_have (q := kq) v20 ?_ (fun hs => ?_); clear_value v14 v16 v18; subst v20; split
  with_reducible refine State.transaction_kept ?_; with_reducible assumption; with_reducible assumption; intro v22
  refine State.kept_have (q := kq) v22 ?_ (fun hs => ?_); clear_value v14 v16 v18 v20; subst v22
  with_reducible refine State.useNums_kept ?_; with_reducible assumption; clear_value v14 v16 v18 v20 v22
  with_reducible refine State.kept_upd ?_; with_reducible assumption

theorem State.replayPend_kept {kq : List Instr} {s : State} {old : State} {p : PendRec} (hkq : State.Kept kq s) :
    State.Kept kq (State.replayPend s old p) := by
  unfold State.replayPend; with_reducible refine State.asOf_kept ?_ ?_; with_reducible assumption; intro _ _
  with_reducible refine State.flushPend_kept ?_; with_reducible assumption

theorem State.estimateStart_kept {kq : List Instr} {s : State} {mark : Option PourMark} {tStop : Option Nat} {m : Nat}
    (hkq : State.Kept kq s) : State.Kept kq (State.estimateStart s mark tStop m) := by
  unfold State.estimateStart; split; with_reducible refine State.putEst_kept ?_; with_reducible assumption
  with_reducible refine State.wr_kept (State.wr_kept (State.wr_kept (State.wr_kept ?_))); with_reducible assumption

theorem State.restartClose_kept {kq : List Instr} {s : State} {old : State} {closeAt : Nat} {loss : Nat} {n : Nat}
    (hkq : State.Kept kq s) : State.Kept kq (State.restartClose s old closeAt loss n) := by
  unfold State.restartClose; lift_lets -underBinder; intro v8; clear_value v8; intro v9; clear_value v9; intro v10
  clear_value v10; intro v11; refine State.kept_have (q := kq) v11 ?_ (fun hs => ?_); subst v11
  with_reducible refine State.modLsess_kept ?_; with_reducible assumption; clear_value v11; refine State.kept_ite ?_ ?_
  with_reducible assumption; refine State.kept_ite ?_ ?_; split; with_reducible refine State.asOf_kept ?_ ?_
  with_reducible assumption; intro _ _; with_reducible refine State.closeRecord_kept ?_; with_reducible assumption
  with_reducible refine State.closeRecord_kept ?_; with_reducible assumption
  with_reducible refine State.closeRecord_kept ?_; with_reducible assumption

theorem State.outageBounds_kept {kq : List Instr} {s : State} {w0 : Nat} {w1 : Nat} {subW : Nat} (hkq : State.Kept kq
    s) : State.Kept kq (State.outageBounds s w0 w1 subW).2 := by
  unfold State.outageBounds; lift_lets -underBinder; intro v7; clear_value v7; intro v8; clear_value v8; intro v9
  clear_value v9; intro v10; clear_value v10; intro v11; refine State.kept_have (q := kq) v11 ?_ (fun hs => ?_)
  subst v11; with_reducible refine State.kept_upd ?_; with_reducible assumption; intro v13
  refine State.kept_have (q := kq) v13 ?_ (fun hs => ?_); clear_value v11; subst v13
  refine State.kept_forEach (fun x s h => ?_) _ _ ?_; with_reducible refine State.demandClose_kept ?_
  with_reducible assumption; with_reducible assumption; intro v15
  refine State.kept_have (q := kq) v15 ?_ (fun hs => ?_); clear_value v11 v13; subst v15; refine State.kept_ite ?_ ?_
  refine State.kept_forEach (fun x s h => ?_) _ _ ?_; with_reducible refine State.modAcct_kept ?_
  with_reducible assumption; with_reducible assumption; refine State.kept_ite ?_ ?_; with_reducible assumption
  refine State.kept_forEach (fun x s h => ?_) _ _ ?_; refine State.kept_forEach (fun x s h => ?_) _ _ ?_
  with_reducible refine State.wr_kept ?_; with_reducible assumption; with_reducible assumption
  with_reducible assumption; clear_value v11 v13 v15; split; lift_lets -underBinder; intro v23; clear_value v23
  intro v24; clear_value v24; dsimp only; with_reducible refine State.kept_upd ?_
  refine State.kept_snd (by with_reducible assumption) ?_; refine State.kept_ite1 ?_ ?_
  with_reducible refine State.closeBetween_kept ?_; with_reducible assumption; dsimp only; with_reducible assumption

theorem State.outageRecord_kept {kq : List Instr} {s : State} {closeMs : Nat} {valid : Bool} {n : Nat × Nat} (hkq :
    State.Kept kq s) : State.Kept kq (State.outageRecord s closeMs valid n) := by
  unfold State.outageRecord; lift_lets -underBinder; intro v7; clear_value v7
  with_reducible refine State.append_kept ?_; with_reducible assumption

theorem State.tamperCarried_kept {kq : List Instr} {s : State} {k : Nat} {first : Nat} {last : Nat} (hkq : State.Kept
    kq s) : State.Kept kq (State.tamperCarried s k first last) := by
  unfold State.tamperCarried; lift_lets -underBinder; intro v7; clear_value v7; intro v8; subst v8; intro v8
  refine State.kept_have (q := kq) v8 ?_ (fun hs => ?_); subst v8; with_reducible refine State.tamperMany_kept ?_
  with_reducible assumption; intro v10; refine State.kept_have (q := kq) v10 ?_ (fun hs => ?_); clear_value v8
  subst v10; refine State.kept_ite ?_ ?_; with_reducible refine State.wr_kept ?_; with_reducible assumption
  with_reducible assumption; clear_value v8 v10; refine State.kept_ite ?_ ?_; with_reducible assumption
  with_reducible refine State.wr_kept ?_; with_reducible assumption

theorem State.ledgerStart_kept {kq : List Instr} {s : State} {old : State} {cause : Nat} (hkq : State.Kept kq s) :
    State.Kept kq (State.ledgerStart s old cause) := by
  unfold State.ledgerStart; lift_lets -underBinder; intro v6; clear_value v6; split; lift_lets -underBinder; intro v11
  clear_value v11; intro v12; clear_value v12; with_reducible refine State.raise_kept (State.kept_upd ?_)
  with_reducible assumption; lift_lets -underBinder; intro v12; clear_value v12; intro v13; clear_value v13; intro v14
  clear_value v14; intro v15; clear_value v15; intro v16; clear_value v16; intro v17
  refine State.kept_have (q := kq) v17 ?_ (fun hs => ?_); subst v17; with_reducible refine State.loadCommit_kept ?_
  with_reducible assumption; intro v19; refine State.kept_have (q := kq) v19 ?_ (fun hs => ?_); clear_value v17
  subst v19; refine State.kept_forEach (fun x s h => ?_) _ _ ?_; with_reducible refine State.replayRecord_kept ?_
  with_reducible assumption; with_reducible assumption; intro v21
  refine State.kept_have (q := kq) v21 ?_ (fun hs => ?_); clear_value v17 v19; subst v21
  refine State.kept_forEach (fun x s h => ?_) _ _ ?_; with_reducible refine State.replaySession_kept ?_
  with_reducible assumption; with_reducible assumption; intro v23
  refine State.kept_have (q := kq) v23 ?_ (fun hs => ?_); clear_value v17 v19 v21; subst v23
  refine State.kept_forEach (fun x s h => ?_) _ _ ?_; with_reducible refine State.wr_kept (State.wr_kept ?_)
  with_reducible assumption; with_reducible assumption; intro v25
  refine State.kept_have (q := kq) v25 ?_ (fun hs => ?_); clear_value v17 v19 v21 v23; subst v25
  refine State.kept_forEach (fun x s h => ?_) _ _ ?_; with_reducible refine State.replayCask_kept ?_
  with_reducible assumption; with_reducible assumption; intro v27
  refine State.kept_have (q := kq) v27 ?_ (fun hs => ?_); clear_value v17 v19 v21 v23 v25; subst v27
  refine State.kept_forEach (fun x s h => ?_) _ _ ?_; with_reducible refine State.replayPend_kept ?_
  with_reducible assumption; with_reducible assumption; intro v29
  refine State.kept_have (q := kq) v29 ?_ (fun hs => ?_); clear_value v17 v19 v21 v23 v25 v27; subst v29
  refine State.kept_forEach (fun x s h => ?_) _ _ ?_; with_reducible refine State.wr_kept (State.wr_kept ?_)
  with_reducible assumption; with_reducible assumption; intro v31; clear_value v31; intro v32
  refine State.kept_have (q := kq) v32 ?_ (fun hs => ?_); clear_value v17 v19 v21 v23 v25 v27 v29; subst v32
  refine State.kept_forEach (fun x s h => ?_) _ _ ?_; lift_lets -underBinder; intro v35
  refine State.kept_have (q := kq) v35 ?_ (fun hs => ?_); subst v35; with_reducible refine State.estimateStart_kept ?_
  with_reducible assumption; clear_value v35; with_reducible refine State.wr_kept (State.wr_kept ?_)
  with_reducible assumption; with_reducible assumption; intro v34
  refine State.kept_have (q := kq) v34 ?_ (fun hs => ?_); clear_value v17 v19 v21 v23 v25 v27 v29 v32; subst v34
  refine State.kept_ite ?_ ?_; with_reducible assumption; with_reducible refine State.wr_kept ?_
  with_reducible assumption; intro v36; refine State.kept_have (q := kq) v36 ?_ (fun hs => ?_)
  clear_value v17 v19 v21 v23 v25 v27 v29 v32 v34; subst v36; with_reducible refine State.raise_kept ?_
  with_reducible assumption; intro v38; refine State.kept_have (q := kq) v38 ?_ (fun hs => ?_)
  clear_value v17 v19 v21 v23 v25 v27 v29 v32 v34 v36; subst v38; refine State.kept_forEach (fun x s h => ?_) _ _ ?_
  with_reducible refine State.restartClose_kept ?_; with_reducible assumption; with_reducible assumption; intro v40
  clear_value v40 v17 v19 v21 v23 v25 v27 v29 v32 v34 v36 v38; split; lift_lets -underBinder; intro v47
  refine State.kept_have (q := kq) v47 ?_ (fun hs => ?_); subst v47; refine State.kept_ite ?_ ?_
  refine State.kept_snd (by with_reducible assumption) ?_; with_reducible refine State.outageBounds_kept ?_
  with_reducible assumption; with_reducible refine State.outageRecord_kept ?_
  refine State.kept_snd (by with_reducible assumption) ?_; with_reducible refine State.outageBounds_kept ?_
  with_reducible assumption; intro v49; refine State.kept_have (q := kq) v49 ?_ (fun hs => ?_); clear_value v47
  subst v49; refine State.kept_ite ?_ ?_; with_reducible assumption; with_reducible refine State.tamper_kept ?_
  with_reducible assumption; intro v51; clear_value v51; intro v52
  refine State.kept_have (q := kq) v52 ?_ (fun hs => ?_); clear_value v47 v49; subst v52; refine State.kept_ite ?_ ?_
  with_reducible refine State.tamper_kept (State.kept_upd ?_); with_reducible assumption; with_reducible assumption
  clear_value v47 v49 v52; refine State.kept_ite ?_ ?_; with_reducible refine State.tamper_kept ?_
  with_reducible assumption; with_reducible assumption

theorem State.clockStart_kept {kq : List Instr} {s : State} {old : State} {b : BootIn} (hkq : State.Kept kq s) :
    State.Kept kq (State.clockStart s old b) := by
  unfold State.clockStart; lift_lets -underBinder; intro v6; refine State.kept_have (q := kq) v6 ?_ (fun hs => ?_)
  subst v6; with_reducible refine State.setFlag_kept (State.wr_kept (State.wr_kept ?_)); with_reducible assumption
  intro v8; refine State.kept_have (q := kq) v8 ?_ (fun hs => ?_); clear_value v6; subst v8
  with_reducible refine State.setFlag_kept (State.setFlag_kept ?_); with_reducible assumption; intro v10
  refine State.kept_have (q := kq) v10 ?_ (fun hs => ?_); clear_value v6 v8; subst v10
  with_reducible refine State.wrInt_kept (State.wr_kept ?_); with_reducible assumption; clear_value v6 v8 v10
  refine State.kept_ite ?_ ?_; with_reducible refine State.wr_kept (State.wr_kept ?_); with_reducible assumption
  with_reducible assumption

theorem State.hslLoad_kept {kq : List Instr} {s : State} {h : Option HslTable} (hkq : State.Kept kq s) : State.Kept kq
    (State.hslLoad s h) := by
  unfold State.hslLoad; split; with_reducible assumption; lift_lets -underBinder; intro v7
  refine State.kept_have (q := kq) v7 ?_ (fun hs => ?_); subst v7
  with_reducible refine State.wr_kept (State.wr_kept ?_); with_reducible assumption; intro v9
  refine State.kept_have (q := kq) v9 ?_ (fun hs => ?_); clear_value v7; subst v9
  refine State.kept_forEach (fun x s h => ?_) _ _ ?_; split; lift_lets -underBinder; intro v15
  refine State.kept_have (q := kq) v15 ?_ (fun hs => ?_); subst v15
  with_reducible refine State.wr_kept (State.wr_kept (State.setFlag_kept ?_)); with_reducible assumption; intro v17
  refine State.kept_have (q := kq) v17 ?_ (fun hs => ?_); clear_value v15; subst v17
  with_reducible refine State.setFlag_kept (State.setFlag_kept ?_); with_reducible assumption; clear_value v15 v17
  with_reducible refine State.wr_kept (State.wr_kept (State.wr_kept ?_)); with_reducible assumption
  with_reducible assumption; intro v11; refine State.kept_have (q := kq) v11 ?_ (fun hs => ?_); clear_value v7 v9
  subst v11; refine State.kept_forEach (fun x s h => ?_) _ _ ?_; split
  with_reducible refine State.wr_kept (State.wr_kept (State.wr_kept ?_)); with_reducible assumption
  with_reducible assumption; intro v13; clear_value v13 v7 v9 v11; with_reducible refine State.kept_upd ?_
  with_reducible assumption

theorem State.switchSteps_kept {kq : List Instr} {s : State} {b : BootIn} (hkq : State.Kept kq s) : State.Kept kq
    (State.switchSteps s b) := by
  unfold State.switchSteps; lift_lets -underBinder; intro v5; refine State.kept_have (q := kq) v5 ?_ (fun hs => ?_)
  subst v5; refine State.kept_forEach (fun x s h => ?_) _ _ ?_; with_reducible refine State.modCoil_kept ?_
  with_reducible assumption; with_reducible assumption; intro v7; refine State.kept_have (q := kq) v7 ?_ (fun hs => ?_)
  clear_value v5; subst v7; refine State.kept_forEach (fun x s h => ?_) _ _ ?_; with_reducible refine State.trip_kept ?_
  with_reducible assumption; with_reducible assumption; clear_value v5 v7; split
  with_reducible refine State.shuntOn_kept (State.moduleTrip_kept ?_); with_reducible assumption
  with_reducible assumption

theorem State.safeStart_kept {kq : List Instr} {s : State} {b : BootIn} (hkq : State.Kept kq s) : State.Kept kq
    (State.safeStart s b) := by
  unfold State.safeStart; lift_lets -underBinder; intro v5; refine State.kept_have (q := kq) v5 ?_ (fun hs => ?_)
  subst v5; with_reducible refine State.hslLoad_kept ?_; with_reducible assumption; intro v7; clear_value v7; intro v8
  clear_value v8; intro v9; refine State.kept_have (q := kq) v9 ?_ (fun hs => ?_); clear_value v5; subst v9
  with_reducible refine State.kept_upd ?_; with_reducible assumption; intro v11
  refine State.kept_have (q := kq) v11 ?_ (fun hs => ?_); clear_value v5 v9; subst v11
  with_reducible refine State.setFlag_kept (State.setFlag_kept (State.setFlag_kept ?_)); with_reducible assumption
  intro v13; refine State.kept_have (q := kq) v13 ?_ (fun hs => ?_); clear_value v5 v9 v11; subst v13
  refine State.kept_ite ?_ ?_; with_reducible assumption; with_reducible refine State.moduleTrip_kept ?_
  with_reducible assumption; intro v15; refine State.kept_have (q := kq) v15 ?_ (fun hs => ?_)
  clear_value v5 v9 v11 v13; subst v15; with_reducible refine State.switchSteps_kept ?_; with_reducible assumption
  clear_value v5 v9 v11 v13 v15; refine State.kept_forEach (fun x s h => ?_) _ _ ?_; refine State.kept_ite ?_ ?_
  with_reducible assumption; with_reducible refine State.testSensor_kept ?_; with_reducible assumption
  with_reducible assumption

theorem State.meterStart_kept {kq : List Instr} {s : State} (hkq : State.Kept kq s) : State.Kept kq (State.meterStart
    s) := by
  unfold State.meterStart; lift_lets -underBinder; intro v4; refine State.kept_have (q := kq) v4 ?_ (fun hs => ?_)
  subst v4; refine State.kept_forEach (fun x s h => ?_) _ _ ?_; lift_lets -underBinder; intro v7; clear_value v7
  intro v8; refine State.kept_have (q := kq) v8 ?_ (fun hs => ?_); subst v8; with_reducible refine State.kept_upd ?_
  with_reducible assumption; clear_value v8; with_reducible refine State.updateGd_kept (State.wr_kept ?_)
  with_reducible assumption; with_reducible assumption; intro v6; refine State.kept_have (q := kq) v6 ?_ (fun hs => ?_)
  clear_value v4; subst v6; with_reducible refine State.mpEvalAll_kept (State.trkRefreshAll_kept ?_)
  with_reducible assumption; clear_value v4 v6; refine State.kept_forEach (fun x s h => ?_) _ _ ?_
  with_reducible refine State.pulseReset_kept ?_; with_reducible assumption; with_reducible assumption

theorem State.legalChange_kept {kq : List Instr} {s : State} {old : State} {was : Nat} {new : Nat} {firstTrial : Bool}
    (hkq : State.Kept kq s) : State.Kept kq (State.legalChange s old was new firstTrial) := by
  unfold State.legalChange; lift_lets -underBinder; intro v8; clear_value v8; refine State.kept_ite ?_ ?_
  with_reducible assumption; refine State.kept_ite ?_ ?_; with_reducible refine State.tamper_kept ?_
  with_reducible assumption; refine State.kept_ite ?_ ?_; with_reducible refine State.tamper_kept ?_
  with_reducible assumption; with_reducible assumption

theorem State.revertNote_kept {kq : List Instr} {s : State} (hkq : State.Kept kq s) : State.Kept kq (State.revertNote
    s) := by
  unfold State.revertNote; split; with_reducible refine State.raise_kept (State.kept_upd ?_); with_reducible assumption
  with_reducible assumption

theorem State.updStart_kept {kq : List Instr} {s : State} {old : State} {b : BootIn} {firstTrial : Bool} (hkq :
    State.Kept kq s) : State.Kept kq (State.updStart s old b firstTrial) := by
  unfold State.updStart; lift_lets -underBinder; intro v7; refine State.kept_have (q := kq) v7 ?_ (fun hs => ?_)
  subst v7; with_reducible refine State.revertNote_kept ?_; with_reducible assumption; intro v9; clear_value v9
  intro v10; clear_value v10; intro v11; refine State.kept_have (q := kq) v11 ?_ (fun hs => ?_); clear_value v7
  subst v11; with_reducible refine State.wr_kept ?_; with_reducible assumption; intro v13
  refine State.kept_have (q := kq) v13 ?_ (fun hs => ?_); clear_value v7 v11; subst v13
  with_reducible refine State.legalChange_kept ?_; with_reducible assumption; intro v15; clear_value v15; intro v16
  refine State.kept_have (q := kq) v16 ?_ (fun hs => ?_); clear_value v7 v11 v13; subst v16; refine State.kept_ite ?_ ?_
  with_reducible refine State.kept_upd ?_; with_reducible assumption; with_reducible assumption
  clear_value v7 v11 v13 v16; refine State.kept_ite ?_ ?_; with_reducible refine State.updGo_kept ?_
  with_reducible assumption; with_reducible assumption

theorem State.displayStart_kept {kq : List Instr} {s : State} {b : BootIn} (hkq : State.Kept kq s) : State.Kept kq
    (State.displayStart s b) := by
  unfold State.displayStart; lift_lets -underBinder; intro v5; clear_value v5; intro v6; clear_value v6
  with_reducible refine State.dispWake_kept (State.segRecover_kept (State.bandShow_kept (State.kept_upd ?_)))
  with_reducible assumption

theorem State.startRun_kept {kq : List Instr} {s : State} {old : State} {b : BootIn} {cause : Nat} {firstTrial : Bool}
    (hkq : State.Kept kq s) : State.Kept kq (State.startRun s old b cause firstTrial) := by
  unfold State.startRun; lift_lets -underBinder; intro v8; subst v8; intro v8
  refine State.kept_have (q := kq) v8 ?_ (fun hs => ?_); subst v8; with_reducible refine State.afterReset_kept ?_
  with_reducible assumption; intro v10; refine State.kept_have (q := kq) v10 ?_ (fun hs => ?_); clear_value v8
  subst v10; with_reducible refine State.kept_upd ?_; with_reducible assumption; intro v12
  refine State.kept_have (q := kq) v12 ?_ (fun hs => ?_); clear_value v8 v10; subst v12
  with_reducible refine State.clockStart_kept ?_; with_reducible assumption; intro v14
  refine State.kept_have (q := kq) v14 ?_ (fun hs => ?_); clear_value v8 v10 v12; subst v14
  with_reducible refine State.openEpoch_kept ?_; with_reducible assumption; intro v16
  refine State.kept_have (q := kq) v16 ?_ (fun hs => ?_); clear_value v8 v10 v12 v14; subst v16
  with_reducible refine State.updStart_kept ?_; with_reducible assumption; intro v18
  refine State.kept_have (q := kq) v18 ?_ (fun hs => ?_); clear_value v8 v10 v12 v14 v16; subst v18
  refine State.kept_forEach (fun x s h => ?_) _ _ ?_; with_reducible refine State.islandGo_kept ?_
  with_reducible assumption; with_reducible assumption; intro v20
  refine State.kept_have (q := kq) v20 ?_ (fun hs => ?_); clear_value v8 v10 v12 v14 v16 v18; subst v20
  with_reducible refine State.keyStart_kept ?_; with_reducible assumption; intro v22
  refine State.kept_have (q := kq) v22 ?_ (fun hs => ?_); clear_value v8 v10 v12 v14 v16 v18 v20; subst v22
  with_reducible refine State.safeStart_kept ?_; with_reducible assumption; intro v24; clear_value v24; intro v25
  refine State.kept_have (q := kq) v25 ?_ (fun hs => ?_); clear_value v8 v10 v12 v14 v16 v18 v20 v22; subst v25
  refine State.kept_forEach (fun x s h => ?_) _ _ ?_; with_reducible refine State.modAcct_kept ?_
  with_reducible assumption; refine State.kept_ite ?_ ?_; with_reducible refine State.ledgerStart_kept ?_
  with_reducible assumption; with_reducible refine State.ledgerStart_kept ?_; with_reducible assumption; intro v27
  refine State.kept_have (q := kq) v27 ?_ (fun hs => ?_); clear_value v8 v10 v12 v14 v16 v18 v20 v22 v25; subst v27
  refine State.kept_forEach (fun x s h => ?_) _ _ ?_; with_reducible refine State.tamper_kept ?_
  with_reducible assumption; with_reducible assumption; intro v29
  refine State.kept_have (q := kq) v29 ?_ (fun hs => ?_); clear_value v8 v10 v12 v14 v16 v18 v20 v22 v25 v27; subst v29
  refine State.kept_ite ?_ ?_; refine State.kept_forEach (fun x s h => ?_) _ _ ?_
  with_reducible refine State.tariffGo_kept ?_; with_reducible assumption; with_reducible assumption
  refine State.kept_forEach (fun x s h => ?_) _ _ ?_; with_reducible refine State.tariffGo_kept ?_
  with_reducible assumption; with_reducible assumption; intro v31
  refine State.kept_have (q := kq) v31 ?_ (fun hs => ?_); clear_value v8 v10 v12 v14 v16 v18 v20 v22 v25 v27 v29
  subst v31; refine State.kept_ite ?_ ?_; refine State.kept_forEach (fun x s h => ?_) _ _ ?_
  with_reducible refine State.wr_kept ?_; with_reducible assumption; with_reducible assumption
  refine State.kept_forEach (fun x s h => ?_) _ _ ?_; lift_lets -underBinder; intro v34; clear_value v34
  with_reducible refine State.tamperCarried_kept ?_; with_reducible assumption; with_reducible assumption; intro v33
  clear_value v33; intro v34; refine State.kept_have (q := kq) v34 ?_ (fun hs => ?_)
  clear_value v8 v10 v12 v14 v16 v18 v20 v22 v25 v27 v29 v31; subst v34; with_reducible refine State.kept_upd ?_
  with_reducible assumption; intro v36; refine State.kept_have (q := kq) v36 ?_ (fun hs => ?_)
  clear_value v8 v10 v12 v14 v16 v18 v20 v22 v25 v27 v29 v31 v34; subst v36
  with_reducible refine State.meterStart_kept ?_; with_reducible assumption; intro v38
  refine State.kept_have (q := kq) v38 ?_ (fun hs => ?_)
  clear_value v8 v10 v12 v14 v16 v18 v20 v22 v25 v27 v29 v31 v34 v36; subst v38
  with_reducible refine State.recoveryOutlets_kept ?_; with_reducible assumption; intro v40
  refine State.kept_have (q := kq) v40 ?_ (fun hs => ?_)
  clear_value v8 v10 v12 v14 v16 v18 v20 v22 v25 v27 v29 v31 v34 v36 v38; subst v40
  with_reducible refine State.displayStart_kept (State.plcFollowAll_kept (State.trellisEn_kept ?_))
  with_reducible assumption; clear_value v8 v10 v12 v14 v16 v18 v20 v22 v25 v27 v29 v31 v34 v36 v38 v40
  with_reducible refine State.hostReady_kept ?_; with_reducible assumption

theorem State.startUp_kept {kq : List Instr} {s : State} {b : BootIn} (hkq : State.Kept kq s) : State.Kept kq
    (State.startUp s b) := by
  unfold State.startUp; refine State.kept_ite ?_ ?_; with_reducible assumption; lift_lets -underBinder; intro v5
  refine State.kept_have (q := kq) v5 ?_ (fun hs => ?_); with_reducible assumption; intro v7; clear_value v7 v5; split
  refine State.kept_ite ?_ ?_; with_reducible refine State.kept_upd ?_
  refine State.kept_snd (by with_reducible assumption) ?_; with_reducible refine State.trialStart_kept ?_
  with_reducible assumption; lift_lets -underBinder; intro v14; refine State.kept_have (q := kq) v14 ?_ (fun hs => ?_)
  subst v14; with_reducible refine State.slotChosen_kept ?_; refine State.kept_snd (by with_reducible assumption) ?_
  with_reducible refine State.trialStart_kept ?_; with_reducible assumption; intro v16; clear_value v16 v14
  with_reducible refine State.startRun_kept (State.dropEntries_kept ?_); with_reducible assumption

theorem execStartUp_kept {kq : List Instr} {t : Nat} {boot : BootIn} {s : State} (hkq : State.Kept kq s) : OutKept kq
    (execStartUp t boot s) := by
  unfold execStartUp; refine State.kept_next ?_; refine State.kept_ite ?_ ?_
  with_reducible refine State.startUp_kept (State.advance_kept ?_); with_reducible assumption; with_reducible assumption

theorem execRecordSign_kept {kq : List Instr} {t : Nat} {s : State} (hkq : State.Kept kq s) : OutKept kq
    (execRecordSign t s) := by
  unfold execRecordSign; refine State.kept_next ?_; with_reducible refine onCore_kept ?_ ?_; intro _ _
  refine State.kept_ite ?_ ?_; with_reducible refine State.hostReady_kept (State.signOldest_kept ?_)
  with_reducible assumption; with_reducible refine State.signOldest_kept ?_; with_reducible assumption
  with_reducible assumption

theorem execPufRetry_kept {kq : List Instr} {t : Nat} {ber : Option Nat} {s : State} (hkq : State.Kept kq s) : OutKept
    kq (execPufRetry t ber s) := by
  unfold execPufRetry; refine State.kept_next ?_; with_reducible refine onEvent_kept ?_ ?_; intro _ _
  refine State.kept_ite ?_ ?_
  with_reducible refine State.hostReady_kept (State.recoveryOutlets_kept (State.regenerate_kept ?_))
  with_reducible assumption; with_reducible assumption; with_reducible assumption

theorem State.walkLimit_kept {kq : List Instr} {s : State} {port : Nat} {frames : Nat} {found : Nat} (hkq : State.Kept
    kq s) : State.Kept kq (State.walkLimit s port frames found) := by
  unfold State.walkLimit; refine State.kept_ite ?_ ?_; with_reducible assumption
  with_reducible refine State.raise_kept (State.incSat_kept ?_); with_reducible assumption

theorem State.refuseCard_kept {kq : List Instr} {s : State} {proto : Nat} {h : Nat} {code : Nat} (hkq : State.Kept kq
    s) : State.Kept kq (State.refuseCard s proto h code) := by
  unfold State.refuseCard; lift_lets -underBinder; intro v7; clear_value v7
  with_reducible refine State.raise_kept (State.raise_kept ?_); with_reducible assumption

theorem State.oneCard_kept {kq : List Instr} {s : State} {proto : Nat} {uid : List Byte} {authOk : Bool} (hkq :
    State.Kept kq s) : State.Kept kq (State.oneCard s proto uid authOk) := by
  unfold State.oneCard; lift_lets -underBinder; intro v7; clear_value v7; intro v8; clear_value v8; intro v9
  clear_value v9; intro v10; refine State.kept_have (q := kq) v10 ?_ (fun hs => ?_); subst v10
  with_reducible refine State.kept_upd ?_; with_reducible assumption; intro v12; clear_value v12; intro v13
  clear_value v13 v10; refine State.kept_ite ?_ ?_; with_reducible refine State.raise_kept ?_; with_reducible assumption
  refine State.kept_ite ?_ ?_; with_reducible assumption; refine State.kept_ite ?_ ?_
  with_reducible refine State.refuseCard_kept ?_; with_reducible assumption; split
  with_reducible refine State.raise_kept (State.stopSession_kept ?_); with_reducible assumption
  with_reducible refine State.raise_kept (State.raise_kept ?_); with_reducible assumption
  with_reducible refine State.refuseCard_kept ?_; with_reducible assumption; refine State.kept_ite ?_ ?_
  with_reducible refine State.refuseCard_kept ?_; with_reducible assumption; lift_lets -underBinder; intro v27
  refine State.kept_have (q := kq) v27 ?_ (fun hs => ?_); with_reducible assumption; intro v29
  refine State.kept_have (q := kq) v29 ?_ (fun hs => ?_); clear_value v27; subst v29
  with_reducible refine State.cardPresented_kept ?_; with_reducible assumption; intro v31; clear_value v31 v27 v29
  with_reducible refine State.raise_kept ?_; with_reducible assumption

theorem State.pollFound_kept {kq : List Instr} {s : State} {proto : Nat} {cards : List (List Byte)} {found : Nat}
    {authOk : Bool} (hkq : State.Kept kq s) : State.Kept kq (State.pollFound s proto cards found authOk) := by
  unfold State.pollFound; split; refine State.kept_ite ?_ ?_; with_reducible refine State.oneCard_kept ?_
  with_reducible assumption; with_reducible assumption; refine State.kept_ite ?_ ?_
  with_reducible refine State.raise_kept (State.incSat_kept ?_); with_reducible assumption; with_reducible assumption

theorem State.cardsSeen_kept {kq : List Instr} {s : State} {kind : Nat} {cards : List (List Byte)} (hkq : State.Kept
    kq s) : State.Kept kq (State.cardsSeen s kind cards) := by
  unfold State.cardsSeen; lift_lets -underBinder; intro v6; clear_value v6; intro v7; clear_value v7; intro v8
  clear_value v8; intro v9; clear_value v9; intro v10; clear_value v10; with_reducible refine State.kept_upd ?_
  with_reducible assumption

theorem execRdr0Poll_kept {kq : List Instr} {t : Nat} {cardsA : List (List Byte)} {cardsB : List (List Byte)} {cards15
    : List (List Byte)} {authOk : Bool} {rxErr : Nat} {s : State} (hkq : State.Kept kq s) : OutKept kq (execRdr0Poll t
    cardsA cardsB cards15 authOk rxErr s) := by
  unfold execRdr0Poll; refine State.kept_next ?_; with_reducible refine onEvent_kept ?_ ?_; intro _ _
  refine State.kept_ite ?_ ?_; with_reducible assumption; lift_lets -underBinder; intro v12; clear_value v12; intro v13
  refine State.kept_have (q := kq) v13 ?_ (fun hs => ?_); subst v13; with_reducible refine State.kept_upd ?_
  with_reducible assumption; intro v15; refine State.kept_have (q := kq) v15 ?_ (fun hs => ?_); clear_value v13
  subst v15; with_reducible refine State.addSat_kept ?_; with_reducible assumption; intro v17; clear_value v17
  intro v18; clear_value v18; intro v19; refine State.kept_have (q := kq) v19 ?_ (fun hs => ?_); clear_value v13 v15
  subst v19; refine State.kept_ite ?_ ?_; with_reducible refine State.walkLimit_kept ?_; with_reducible assumption
  with_reducible assumption; intro v21; clear_value v21; intro v22
  refine State.kept_have (q := kq) v22 ?_ (fun hs => ?_); clear_value v13 v15 v19; subst v22
  refine State.kept_ite ?_ ?_; with_reducible refine State.walkLimit_kept ?_; with_reducible assumption
  with_reducible assumption; clear_value v13 v15 v19 v22; refine State.kept_ite ?_ ?_
  with_reducible refine State.pollFound_kept (State.cardsSeen_kept ?_); with_reducible assumption
  refine State.kept_ite ?_ ?_; with_reducible refine State.pollFound_kept (State.cardsSeen_kept ?_)
  with_reducible assumption; refine State.kept_ite ?_ ?_
  with_reducible refine State.pollFound_kept (State.cardsSeen_kept ?_); with_reducible assumption
  with_reducible refine State.cardsSeen_kept ?_; with_reducible assumption; with_reducible assumption

theorem State.cableBelieved_kept {kq : List Instr} {s : State} {n : Nat} {atConnect : Bool} {r : CableRead} {l :
    LifeCopy} {older : Nat} (hkq : State.Kept kq s) : State.Kept kq (State.cableBelieved s n atConnect r l older).2 :=
    by
  unfold State.cableBelieved; lift_lets -underBinder; intro v9; clear_value v9; intro v10; clear_value v10; intro v11
  clear_value v11; intro v12; clear_value v12; intro v13; clear_value v13; intro v14; clear_value v14; intro v15
  clear_value v15; intro v16; clear_value v16; intro v17; clear_value v17; intro v18; clear_value v18; intro v19
  clear_value v19; intro v20; clear_value v20; intro v21; clear_value v21; intro v22
  refine State.kept_have (q := kq) v22 ?_ (fun hs => ?_); subst v22
  with_reducible refine State.wr_kept (State.wr_kept (State.wr_kept (State.wr_kept ?_))); with_reducible assumption
  intro v24; refine State.kept_have (q := kq) v24 ?_ (fun hs => ?_); clear_value v22; subst v24
  with_reducible refine State.setFlag_kept (State.wr_kept (State.wr_kept ?_)); with_reducible assumption; intro v26
  refine State.kept_have (q := kq) v26 ?_ (fun hs => ?_); clear_value v22 v24; subst v26
  with_reducible refine State.modCable_kept ?_; with_reducible assumption; intro v28; clear_value v28; intro v29
  clear_value v29; intro v30; refine State.kept_have (q := kq) v30 ?_ (fun hs => ?_); clear_value v22 v24 v26; subst v30
  with_reducible refine State.setFlag_kept ?_; with_reducible assumption; intro v32
  refine State.kept_have (q := kq) v32 ?_ (fun hs => ?_); clear_value v22 v24 v26 v30; subst v32
  refine State.kept_ite ?_ ?_; with_reducible refine State.addJob_kept ?_; with_reducible assumption
  with_reducible assumption; clear_value v22 v24 v26 v30 v32; refine State.kept_ite1 ?_ ?_; dsimp only
  with_reducible assumption; dsimp only; with_reducible assumption

theorem State.cableSession_kept {kq : List Instr} {s : State} {n : Nat} {code : Nat} {atConnect : Bool} (hkq :
    State.Kept kq s) : State.Kept kq (State.cableSession s n code atConnect) := by
  unfold State.cableSession; refine State.kept_ite ?_ ?_; with_reducible assumption; split; lift_lets -underBinder
  intro v8; refine State.kept_have (q := kq) v8 ?_ (fun hs => ?_); subst v8
  with_reducible refine State.modOutlet_kept ?_; with_reducible assumption; clear_value v8
  with_reducible refine State.wr_kept ?_; with_reducible assumption; refine State.kept_ite ?_ ?_
  with_reducible refine State.endSession_kept ?_; with_reducible assumption; with_reducible assumption
  refine State.kept_ite ?_ ?_; with_reducible refine State.setSess_kept (State.offer_kept (State.sessionOver_kept ?_))
  with_reducible assumption; with_reducible refine State.modOutlet_kept ?_; with_reducible assumption

theorem State.nextJob_kept {kq : List Instr} {s : State} (hkq : State.Kept kq s) : State.Kept kq (State.nextJob s) :=
    by
  unfold State.nextJob; lift_lets -underBinder; intro v4; clear_value v4; intro v5; clear_value v5
  with_reducible refine State.setJobs_kept (State.kept_upd ?_); with_reducible assumption

theorem State.lifeWrite_kept {kq : List Instr} {s : State} {n : Nat} (hkq : State.Kept kq s) : State.Kept kq
    (State.lifeWrite s n) := by
  unfold State.lifeWrite; lift_lets -underBinder; intro v5; clear_value v5; intro v6; clear_value v6; intro v7
  clear_value v7; intro v8; clear_value v8; with_reducible refine State.wr_kept (State.modCable_kept ?_)
  with_reducible assumption

theorem execCableRead_kept {kq : List Instr} {t : Nat} {tag : Option CableRead} {s : State} (hkq : State.Kept kq s) :
    OutKept kq (execCableRead t tag s) := by
  unfold execCableRead; refine State.kept_next ?_; with_reducible refine onEvent_kept ?_ ?_; intro _ _; split
  with_reducible assumption; refine State.kept_ite ?_ ?_; with_reducible assumption; lift_lets -underBinder; intro v14
  refine State.kept_have (q := kq) v14 ?_ (fun hs => ?_); subst v14; with_reducible refine State.nextJob_kept ?_
  with_reducible assumption; intro v16; clear_value v16; intro v17; clear_value v17; intro v18; clear_value v18
  intro v19; refine State.kept_have (q := kq) v19 ?_ (fun hs => ?_); clear_value v14; subst v19; split
  with_reducible refine State.raise_kept ?_; with_reducible assumption; with_reducible assumption; clear_value v14 v19
  split; lift_lets -underBinder; intro v27; refine State.kept_have (q := kq) v27 ?_ (fun hs => ?_); subst v27
  with_reducible refine State.wr_kept ?_; refine State.kept_snd (by with_reducible assumption) ?_; split
  with_reducible refine State.cableBelieved_kept ?_; with_reducible assumption; dsimp only; with_reducible assumption
  intro v29; refine State.kept_have (q := kq) v29 ?_ (fun hs => ?_); clear_value v27; subst v29
  with_reducible refine State.raise_kept ?_; with_reducible assumption; intro v31
  refine State.kept_have (q := kq) v31 ?_ (fun hs => ?_); clear_value v27 v29; subst v31
  with_reducible refine State.cableSession_kept ?_; with_reducible assumption; intro v33
  refine State.kept_have (q := kq) v33 ?_ (fun hs => ?_); clear_value v27 v29 v31; subst v33
  refine State.kept_ite ?_ ?_; with_reducible assumption; with_reducible refine State.raise_kept ?_
  with_reducible assumption; clear_value v27 v29 v31 v33; refine State.kept_forEach (fun x s h => ?_) _ _ ?_
  with_reducible refine State.finalise_kept ?_; with_reducible assumption; with_reducible assumption
  with_reducible assumption

theorem execCableWrite_kept {kq : List Instr} {t : Nat} {ok : Bool} {s : State} (hkq : State.Kept kq s) : OutKept kq
    (execCableWrite t ok s) := by
  unfold execCableWrite; refine State.kept_next ?_; with_reducible refine onEvent_kept ?_ ?_; intro _ _; split
  with_reducible assumption; refine State.kept_ite ?_ ?_; with_reducible assumption; lift_lets -underBinder; intro v14
  refine State.kept_have (q := kq) v14 ?_ (fun hs => ?_); subst v14; with_reducible refine State.nextJob_kept ?_
  with_reducible assumption; clear_value v14; refine State.kept_ite ?_ ?_; with_reducible refine State.lifeWrite_kept ?_
  with_reducible assumption; with_reducible refine State.wr_kept ?_; with_reducible assumption
  with_reducible assumption

theorem execTagCableRead_kept {kq : List Instr} {x : Ctx} {n : Nat} {s : State} (hkq : State.Kept kq s) : OutKept kq
    (execTagCableRead x n s) := by
  unfold execTagCableRead; refine State.kept_next ?_; with_reducible refine State.command_kept ?_ ?_
  with_reducible assumption; intro _ _; refine State.kept_ite ?_ ?_; with_reducible refine State.complete_kept ?_
  with_reducible assumption; refine State.kept_ite ?_ ?_; with_reducible refine State.complete_kept ?_
  with_reducible assumption; with_reducible refine State.addJob_kept (State.complete_kept ?_); with_reducible assumption

theorem execTagCableInit_kept {kq : List Instr} {x : Ctx} {n : Nat} {ok : Bool} {s : State} (hkq : State.Kept kq s) :
    OutKept kq (execTagCableInit x n ok s) := by
  unfold execTagCableInit; refine State.kept_next ?_; with_reducible refine State.command_kept ?_ ?_
  with_reducible assumption; intro _ _; refine State.kept_ite ?_ ?_; with_reducible refine State.complete_kept ?_
  with_reducible assumption; refine State.kept_ite ?_ ?_; with_reducible refine State.complete_kept ?_
  with_reducible assumption; refine State.kept_ite ?_ ?_; with_reducible refine State.complete_kept ?_
  with_reducible assumption; refine State.kept_ite ?_ ?_; with_reducible refine State.complete_kept ?_
  with_reducible assumption; with_reducible refine State.complete_kept (State.modCable_kept ?_)
  with_reducible assumption

theorem execTagCableRetire_kept {kq : List Instr} {x : Ctx} {n : Nat} {ok : Bool} {s : State} (hkq : State.Kept kq s)
    : OutKept kq (execTagCableRetire x n ok s) := by
  unfold execTagCableRetire; refine State.kept_next ?_; with_reducible refine State.command_kept ?_ ?_
  with_reducible assumption; intro _ _; refine State.kept_ite ?_ ?_; with_reducible refine State.complete_kept ?_
  with_reducible assumption; refine State.kept_ite ?_ ?_; with_reducible refine State.complete_kept ?_
  with_reducible assumption; lift_lets -underBinder; intro v9; refine State.kept_have (q := kq) v9 ?_ (fun hs => ?_)
  subst v9; with_reducible refine State.shadowGo_kept (State.modCable_kept ?_); with_reducible assumption; intro v11
  refine State.kept_have (q := kq) v11 ?_ (fun hs => ?_); clear_value v9; subst v11
  with_reducible refine State.setJobs_kept ?_; with_reducible assumption; clear_value v9 v11
  refine State.kept_ite ?_ ?_; with_reducible refine State.complete_kept (State.lifeWrite_kept ?_)
  with_reducible assumption; with_reducible refine State.complete_kept ?_; with_reducible assumption

theorem execTagQuery_kept {kq : List Instr} {x : Ctx} {s : State} (hkq : State.Kept kq s) : OutKept kq (execTagQuery x
    s) := by
  unfold execTagQuery; refine State.kept_next ?_; with_reducible refine State.command_kept ?_ ?_
  with_reducible assumption; intro _ _; with_reducible refine State.complete_kept ?_; with_reducible assumption

theorem State.ownCommit_kept {kq : List Instr} {stop : Nat} :
    ∀ {l : List (Nat × Nat)} {last : Nat} {s : State}, State.Kept kq s → State.Kept kq (State.ownCommit stop l last s)
  | [], _, _, h => h
  | (b, v) :: r, last, s, h => by
    simp only [State.ownCommit]
    exact State.ownCommit_kept (State.ownWrite_kept (State.kept_same (State.takeFree_kept h) rfl rfl rfl))

theorem execOwnTagFieldOn_kept {kq : List Instr} {t : Nat} {s : State} (hkq : State.Kept kq s) : OutKept kq
    (execOwnTagFieldOn t s) := by
  unfold execOwnTagFieldOn; refine State.kept_next ?_; with_reducible refine State.onField_kept ?_ ?_; intro _ _
  lift_lets -underBinder; intro v7; clear_value v7; intro v8; refine State.kept_have (q := kq) v8 ?_ (fun hs => ?_)
  subst v8; refine State.kept_forEach (fun x s h => ?_) _ _ ?_; with_reducible refine State.kept_upd ?_
  with_reducible assumption; with_reducible assumption; intro v10
  refine State.kept_have (q := kq) v10 ?_ (fun hs => ?_); clear_value v8; subst v10
  with_reducible refine State.wr_kept (State.addSat_kept ?_); with_reducible assumption; intro v12
  clear_value v12 v8 v10; with_reducible refine State.kept_upd ?_; with_reducible assumption; with_reducible assumption

theorem execOwnTagFieldLost_kept {kq : List Instr} {t : Nat} {s : State} (hkq : State.Kept kq s) : OutKept kq
    (execOwnTagFieldLost t s) := by
  unfold execOwnTagFieldLost; refine State.kept_next ?_; with_reducible refine State.onField_kept ?_ ?_; intro _ _
  refine State.kept_ite ?_ ?_; with_reducible assumption; lift_lets -underBinder; intro v7
  refine State.kept_have (q := kq) v7 ?_ (fun hs => ?_); subst v7
  with_reducible refine State.ownReply_kept (State.wr_kept (State.ownClose_kept ?_)); with_reducible assumption
  intro v9; clear_value v9; intro v10; refine State.kept_have (q := kq) v10 ?_ (fun hs => ?_); clear_value v7; subst v10
  with_reducible refine State.kept_upd ?_; with_reducible assumption; clear_value v7 v10; refine State.kept_ite ?_ ?_
  with_reducible refine State.raise_kept ?_; with_reducible assumption; with_reducible assumption
  with_reducible assumption

theorem execOwnTagFieldRead_kept {kq : List Instr} {t : Nat} {first : Nat} {count : Nat} {s : State} (hkq : State.Kept
    kq s) : OutKept kq (execOwnTagFieldRead t first count s) := by
  unfold execOwnTagFieldRead; refine State.kept_next ?_; with_reducible refine State.onField_kept ?_ ?_; intro _ _
  refine State.kept_ite ?_ ?_; with_reducible assumption; lift_lets -underBinder; intro v9; clear_value v9
  refine State.kept_ite ?_ ?_; with_reducible refine State.ownReply_kept ?_; with_reducible assumption
  refine State.kept_ite ?_ ?_; with_reducible refine State.ownReply_kept ?_; with_reducible assumption
  with_reducible refine State.ownReply_kept ?_; with_reducible assumption; with_reducible assumption

theorem execOwnTagFieldWrite_kept {kq : List Instr} {t : Nat} {first : Nat} {values : List Nat} {done : Nat} {s :
    State} (hkq : State.Kept kq s) : OutKept kq (execOwnTagFieldWrite t first values done s) := by
  unfold execOwnTagFieldWrite; refine State.kept_next ?_; with_reducible refine State.onField_kept ?_ ?_; intro _ _
  refine State.kept_ite ?_ ?_; with_reducible assumption; lift_lets -underBinder; intro v10; clear_value v10; intro v11
  clear_value v11; intro v12; refine State.kept_have (q := kq) v12 ?_ (fun hs => ?_); subst v12
  refine State.kept_forEach (fun x s h => ?_) _ _ ?_; with_reducible refine State.ownWrite_kept ?_
  with_reducible assumption; with_reducible assumption; intro v14
  refine State.kept_have (q := kq) v14 ?_ (fun hs => ?_); clear_value v12; subst v14
  refine State.kept_forEach (fun x s h => ?_) _ _ ?_; with_reducible refine State.ownWrite_kept ?_
  with_reducible assumption; with_reducible assumption; intro v16
  refine State.kept_have (q := kq) v16 ?_ (fun hs => ?_); clear_value v12 v14; subst v16
  with_reducible refine State.addSat_kept ?_; with_reducible assumption; intro v18; clear_value v18; intro v19
  clear_value v19; intro v20; refine State.kept_have (q := kq) v20 ?_ (fun hs => ?_); clear_value v12 v14 v16; subst v20
  with_reducible refine State.kept_upd ?_; with_reducible assumption; clear_value v12 v14 v16 v20
  refine State.kept_ite ?_ ?_; with_reducible refine State.ownReply_kept ?_; with_reducible assumption
  refine State.kept_ite ?_ ?_; with_reducible refine State.ownReply_kept ?_; with_reducible assumption
  refine State.kept_ite ?_ ?_; with_reducible refine State.ownReply_kept (State.incSat_kept ?_)
  with_reducible assumption; with_reducible refine State.ownReply_kept ?_; with_reducible assumption
  with_reducible assumption

theorem execPresentPwd_kept {kq : List Instr} {t : Nat} {pwd : Nat} {s : State} (hkq : State.Kept kq s) : OutKept kq
    (execPresentPwd t pwd s) := by
  unfold execPresentPwd; refine State.kept_next ?_; with_reducible refine State.onField_kept ?_ ?_; intro _ _
  refine State.kept_ite ?_ ?_; with_reducible assumption; refine State.kept_ite ?_ ?_
  with_reducible refine State.ownReply_kept ?_; with_reducible assumption; refine State.kept_ite ?_ ?_
  with_reducible refine State.ownReply_kept (State.kept_upd ?_); with_reducible assumption
  with_reducible refine State.ownReply_kept (State.kept_upd ?_); with_reducible assumption; with_reducible assumption

theorem execOwnTagMam1_kept {kq : List Instr} {t : Nat} {ok : Bool} {s : State} (hkq : State.Kept kq s) : OutKept kq
    (execOwnTagMam1 t ok s) := by
  unfold execOwnTagMam1; refine State.kept_next ?_; with_reducible refine State.onField_kept ?_ ?_; intro _ _
  refine State.kept_ite ?_ ?_; with_reducible refine State.ownReply_kept (State.kept_upd ?_); with_reducible assumption
  with_reducible assumption; with_reducible assumption

theorem execResetToReady_kept {kq : List Instr} {t : Nat} {s : State} (hkq : State.Kept kq s) : OutKept kq
    (execResetToReady t s) := by
  unfold execResetToReady; refine State.kept_next ?_; with_reducible refine State.onField_kept ?_ ?_; intro _ _
  refine State.kept_ite ?_ ?_; with_reducible refine State.ownClose_kept ?_; with_reducible assumption
  with_reducible assumption; with_reducible assumption

theorem execTagOwnRead_kept {kq : List Instr} {x : Ctx} {first : Nat} {count : Nat} {s : State} (hkq : State.Kept kq
    s) : OutKept kq (execTagOwnRead x first count s) := by
  unfold execTagOwnRead; refine State.kept_next ?_; with_reducible refine State.command_kept ?_ ?_
  with_reducible assumption; intro _ _; refine State.kept_ite ?_ ?_; with_reducible refine State.complete_kept ?_
  with_reducible assumption; refine State.kept_ite ?_ ?_; with_reducible refine State.complete_kept ?_
  with_reducible assumption; with_reducible refine State.complete_kept (State.giveBuffer_kept ?_)
  with_reducible assumption

theorem execTagOwnWrite_kept {kq : List Instr} {x : Ctx} {first : Nat} {blocks : List Nat} {s : State} (hkq :
    State.Kept kq s) : OutKept kq (execTagOwnWrite x first blocks s) := by
  unfold execTagOwnWrite; refine State.kept_next ?_; with_reducible refine State.command_kept ?_ ?_
  with_reducible assumption; intro _ _; lift_lets -underBinder; intro v9; clear_value v9; intro v10; clear_value v10
  refine State.kept_ite ?_ ?_; with_reducible refine State.complete_kept ?_; with_reducible assumption
  refine State.kept_ite ?_ ?_; with_reducible refine State.complete_kept ?_; with_reducible assumption
  refine State.kept_ite ?_ ?_; with_reducible refine State.complete_kept ?_; with_reducible assumption; split
  lift_lets -underBinder; intro v17; clear_value v17; intro v18; clear_value v18; intro v19; clear_value v19; intro v20
  refine State.kept_have (q := kq) v20 ?_ (fun hs => ?_); subst v20; with_reducible refine State.kept_upd ?_
  refine State.kept_snd (by with_reducible assumption) ?_; with_reducible refine State.takeFree_kept ?_
  with_reducible assumption; clear_value v20; with_reducible refine State.complete_kept (State.ownCommit_kept ?_)
  with_reducible assumption

theorem execPlcFrameRx_kept {kq : List Instr} {t : Nat} {i : Nat} {agc : Nat} {first : Nat} {syms : List (List Int)}
    {fecOk : Bool} {s : State} (hkq : State.Kept kq s) : OutKept kq (execPlcFrameRx t i agc first syms fecOk s) := by
  unfold execPlcFrameRx; refine State.kept_next ?_; with_reducible refine onEvent_kept ?_ ?_; intro _ _
  refine State.kept_ite ?_ ?_; with_reducible assumption; split; lift_lets -underBinder; intro v19; clear_value v19
  intro v20; clear_value v20; intro v21; refine State.kept_have (q := kq) v21 ?_ (fun hs => ?_); subst v21
  with_reducible refine State.kept_upd ?_; with_reducible assumption; intro v23
  refine State.kept_have (q := kq) v23 ?_ (fun hs => ?_); clear_value v21; subst v23
  with_reducible refine State.addSat_kept ?_; with_reducible assumption; intro v25
  refine State.kept_have (q := kq) v25 ?_ (fun hs => ?_); clear_value v21 v23; subst v25
  with_reducible refine State.addSat_kept (State.addSat_kept (State.addSat_kept ?_)); with_reducible assumption
  intro v27; refine State.kept_have (q := kq) v27 ?_ (fun hs => ?_); clear_value v21 v23 v25; subst v27
  with_reducible refine State.wr_kept (State.wr_kept ?_); with_reducible assumption; intro v29
  refine State.kept_have (q := kq) v29 ?_ (fun hs => ?_); clear_value v21 v23 v25 v27; subst v29
  refine State.kept_ite ?_ ?_; with_reducible assumption; with_reducible refine State.wr_kept ?_
  with_reducible assumption; intro v31; clear_value v31; intro v32; clear_value v32; intro v33
  clear_value v33 v21 v23 v25 v27 v29; refine State.kept_ite ?_ ?_
  with_reducible refine State.raise_kept (State.kept_upd ?_); with_reducible assumption
  with_reducible refine State.kept_upd ?_; with_reducible assumption; with_reducible assumption

theorem execSuperframeStart_kept {kq : List Instr} {t : Nat} {s : State} (hkq : State.Kept kq s) : OutKept kq
    (execSuperframeStart t s) := by
  unfold execSuperframeStart; refine State.kept_next ?_; with_reducible refine onEvent_kept ?_ ?_; intro _ _
  lift_lets -underBinder; intro v7; subst v7; intro v7; subst v7; intro v7
  refine State.kept_have (q := kq) v7 ?_ (fun hs => ?_); subst v7; with_reducible refine State.wr_kept ?_
  with_reducible assumption; intro v9; subst v9; intro v9; refine State.kept_have (q := kq) v9 ?_ (fun hs => ?_)
  clear_value v7; subst v9; with_reducible refine State.kept_upd ?_; with_reducible assumption; intro v11
  refine State.kept_have (q := kq) v11 ?_ (fun hs => ?_); subst v7; subst v9; subst v11; refine State.kept_ite ?_ ?_
  with_reducible refine State.alignNote_kept (State.kept_upd (State.wr_kept ?_)); with_reducible assumption
  with_reducible refine State.kept_upd (State.wr_kept ?_); with_reducible assumption; subst v7; subst v9; subst v11
  refine State.kept_ite ?_ ?_; with_reducible assumption; refine State.kept_ite ?_ ?_
  with_reducible refine State.transmit_kept ?_; refine State.kept_ite ?_ ?_
  with_reducible refine State.alignNote_kept (State.kept_upd (State.wr_kept ?_)); with_reducible assumption
  with_reducible refine State.kept_upd (State.wr_kept ?_); with_reducible assumption; refine State.kept_ite ?_ ?_
  with_reducible refine State.alignNote_kept (State.kept_upd (State.wr_kept ?_)); with_reducible assumption
  with_reducible refine State.kept_upd (State.wr_kept ?_); with_reducible assumption; with_reducible assumption

theorem execBeaconRx_kept {kq : List Instr} {t : Nat} {h : THdr} {stamp : Nat} {pos : Nat} {coord : Nat} {count : Nat}
    {relays : List Nat} {s : State} (hkq : State.Kept kq s) : OutKept kq (execBeaconRx t h stamp pos coord count
    relays s) := by
  unfold execBeaconRx; refine State.kept_next ?_; with_reducible refine onEvent_kept ?_ ?_; intro _ _
  with_reducible refine State.receive_kept ?_ ?_; with_reducible assumption; intro _ _; lift_lets -underBinder
  intro v15; clear_value v15; intro v16; clear_value v16; intro v17; clear_value v17; intro v18
  refine State.kept_have (q := kq) v18 ?_ (fun hs => ?_); subst v18; with_reducible refine State.kept_upd ?_
  with_reducible assumption; intro v20; refine State.kept_have (q := kq) v20 ?_ (fun hs => ?_); clear_value v18
  subst v20; refine State.kept_ite ?_ ?_; with_reducible refine State.joinReq_kept ?_; with_reducible assumption
  refine State.kept_ite ?_ ?_; with_reducible refine State.setTrx_kept ?_; with_reducible assumption
  with_reducible assumption; intro v22; clear_value v22; intro v23
  refine State.kept_have (q := kq) v23 ?_ (fun hs => ?_); clear_value v18 v20; subst v23
  with_reducible refine State.wr_kept (State.wr_kept ?_); with_reducible assumption; intro v25
  refine State.kept_have (q := kq) v25 ?_ (fun hs => ?_); clear_value v18 v20 v23; subst v25
  with_reducible refine State.moveStart_kept ?_; with_reducible assumption; intro v27; clear_value v27 v18 v20 v23 v25
  refine State.kept_ite ?_ ?_; refine State.kept_ite ?_ ?_
  with_reducible refine State.joinReq_kept (State.raise_kept ?_); with_reducible assumption; with_reducible assumption
  refine State.kept_ite ?_ ?_; with_reducible refine State.kept_upd ?_; with_reducible assumption; split
  refine State.kept_ite ?_ ?_; with_reducible assumption; with_reducible refine State.transmit_kept ?_
  with_reducible assumption; with_reducible assumption; with_reducible assumption

theorem execSyncInEdge_kept {kq : List Instr} {t : Nat} {first : Nat} {falling : Bool} {s : State} (hkq : State.Kept
    kq s) : OutKept kq (execSyncInEdge t first falling s) := by
  unfold execSyncInEdge; refine State.kept_next ?_; with_reducible refine onEvent_kept ?_ ?_; intro _ _
  refine State.kept_ite ?_ ?_; with_reducible assumption; lift_lets -underBinder; intro v9; clear_value v9; intro v10
  clear_value v10; intro v11; clear_value v11; intro v12; clear_value v12; intro v13
  refine State.kept_have (q := kq) v13 ?_ (fun hs => ?_); subst v13; with_reducible refine State.kept_upd ?_
  with_reducible assumption; intro v15; refine State.kept_have (q := kq) v15 ?_ (fun hs => ?_); clear_value v13
  subst v15; with_reducible refine State.wr_kept (State.wr_kept (State.incSat_kept ?_)); with_reducible assumption
  intro v17; refine State.kept_have (q := kq) v17 ?_ (fun hs => ?_); clear_value v13 v15; subst v17
  with_reducible refine State.demandSync_kept ?_; with_reducible assumption; intro v19; clear_value v19 v13 v15 v17
  refine State.kept_ite ?_ ?_; with_reducible refine State.incSat_kept ?_; with_reducible assumption
  refine State.kept_ite ?_ ?_; with_reducible assumption; refine State.kept_ite ?_ ?_
  with_reducible refine State.kept_upd ?_; with_reducible assumption; with_reducible refine State.raise_kept ?_
  with_reducible assumption; with_reducible assumption

theorem execTrellisTx_kept {kq : List Instr} {t : Nat} {s : State} (hkq : State.Kept kq s) : OutKept kq (execTrellisTx
    t s) := by
  unfold execTrellisTx; refine State.kept_next ?_; with_reducible refine onEvent_kept ?_ ?_; intro _ _
  refine State.kept_ite ?_ ?_; with_reducible assumption; split; with_reducible refine State.serveNext_kept ?_
  with_reducible assumption; lift_lets -underBinder; intro v12; refine State.kept_have (q := kq) v12 ?_ (fun hs => ?_)
  subst v12; with_reducible refine State.dequeue_kept ?_; with_reducible assumption; intro v14; clear_value v14
  intro v15; refine State.kept_have (q := kq) v15 ?_ (fun hs => ?_); clear_value v12; subst v15
  refine State.kept_ite ?_ ?_; with_reducible assumption; with_reducible refine State.incSat_kept ?_
  with_reducible assumption; clear_value v12 v15; refine State.kept_ite ?_ ?_; split
  with_reducible refine State.serveNext_kept (State.frameDone_kept ?_)
  refine State.kept_snd (by with_reducible assumption) ?_; with_reducible refine State.transmit_kept ?_
  with_reducible assumption; refine State.kept_ite ?_ ?_
  with_reducible refine State.serveNext_kept (State.frameDone_kept ?_); with_reducible assumption; split
  with_reducible refine State.kept_upd ?_; refine State.kept_snd (by with_reducible assumption) ?_
  with_reducible refine State.transmit_kept ?_; with_reducible assumption; with_reducible assumption

theorem execAck_kept {kq : List Instr} {t : Nat} {h : THdr} {seq : Nat} {ctr : Nat} {s : State} (hkq : State.Kept kq
    s) : OutKept kq (execAck t h seq ctr s) := by
  unfold execAck; refine State.kept_next ?_; with_reducible refine onEvent_kept ?_ ?_; intro _ _; split
  with_reducible assumption; refine State.kept_ite ?_ ?_; lift_lets -underBinder; intro v15; clear_value v15; intro v16
  clear_value v16; intro v17; refine State.kept_have (q := kq) v17 ?_ (fun hs => ?_); subst v17
  with_reducible refine State.kept_upd ?_; with_reducible assumption; clear_value v17
  with_reducible refine State.serveNext_kept (State.frameDone_kept (State.linkResult_kept (State.hear_kept ?_)))
  with_reducible assumption; with_reducible assumption; with_reducible assumption

theorem execTrellisAckTimeout_kept {kq : List Instr} {t : Nat} {s : State} (hkq : State.Kept kq s) : OutKept kq
    (execTrellisAckTimeout t s) := by
  unfold execTrellisAckTimeout; refine State.kept_next ?_; with_reducible refine onEvent_kept ?_ ?_; intro _ _; split
  with_reducible assumption; refine State.kept_ite ?_ ?_; with_reducible assumption; lift_lets -underBinder; intro v12
  clear_value v12; intro v13; refine State.kept_have (q := kq) v13 ?_ (fun hs => ?_); subst v13
  with_reducible refine State.linkResult_kept (State.kept_upd ?_); with_reducible assumption; clear_value v13
  refine State.kept_ite ?_ ?_; with_reducible refine State.serveNext_kept (State.frameDone_kept (State.incSat_kept ?_))
  with_reducible assumption; with_reducible refine State.setTq_kept ?_; with_reducible assumption
  with_reducible assumption

theorem execJoinReq_kept {kq : List Instr} {t : Nat} {h : THdr} {serial : Nat} {caps : Nat} {s : State} (hkq :
    State.Kept kq s) : OutKept kq (execJoinReq t h serial caps s) := by
  unfold execJoinReq; refine State.kept_next ?_; with_reducible refine onEvent_kept ?_ ?_; intro _ _
  with_reducible refine State.receive_kept ?_ ?_; with_reducible assumption; intro _ _; refine State.kept_ite ?_ ?_
  with_reducible assumption; lift_lets -underBinder; intro v12; subst v12; intro v12; subst v12; intro v12; subst v12
  intro v12; subst v12; intro v12; clear_value v12; intro v13; refine State.kept_have (q := kq) v13 ?_ (fun hs => ?_)
  subst v13; with_reducible refine State.kept_upd ?_; with_reducible assumption; intro v15
  refine State.kept_have (q := kq) v15 ?_ (fun hs => ?_); clear_value v13; subst v15; refine State.kept_ite ?_ ?_
  refine State.kept_ite ?_ ?_; with_reducible refine State.raise_kept ?_; with_reducible assumption
  with_reducible assumption; with_reducible assumption; clear_value v13 v15; with_reducible refine State.send_kept ?_
  with_reducible assumption; with_reducible assumption

theorem execJoinResult_kept {kq : List Instr} {t : Nat} {h : THdr} {res : Nat} {count : Nat} {s : State} (hkq :
    State.Kept kq s) : OutKept kq (execJoinResult t h res count s) := by
  unfold execJoinResult; refine State.kept_next ?_; with_reducible refine onEvent_kept ?_ ?_; intro _ _
  with_reducible refine State.receive_kept ?_ ?_; with_reducible assumption; intro _ _; refine State.kept_ite ?_ ?_
  with_reducible assumption; refine State.kept_ite ?_ ?_
  with_reducible refine State.holdStart_kept (State.setTrx_kept ?_); with_reducible assumption
  refine State.kept_ite ?_ ?_
  with_reducible refine State.setTrx_kept (State.wr_kept (State.mainsModems_kept (State.cancelFrames_kept ?_)))
  with_reducible assumption; with_reducible refine State.kept_upd ?_; with_reducible assumption
  with_reducible assumption

theorem execLqReport_kept {kq : List Instr} {t : Nat} {h : THdr} {entries : List (Nat × Nat × Nat)} {s : State} (hkq :
    State.Kept kq s) : OutKept kq (execLqReport t h entries s) := by
  unfold execLqReport; refine State.kept_next ?_; with_reducible refine onEvent_kept ?_ ?_; intro _ _
  with_reducible refine State.receive_kept ?_ ?_; with_reducible assumption; intro _ _; refine State.kept_ite ?_ ?_
  with_reducible assumption; lift_lets -underBinder; intro v11; clear_value v11; intro v12; clear_value v12; intro v13
  clear_value v13; with_reducible refine State.reroute_kept (State.kept_upd ?_); with_reducible assumption
  with_reducible assumption

theorem execSiteLimit_kept {kq : List Instr} {t : Nat} {h : THdr} {validity : Nat} {entries : List (Nat × Nat)} {s :
    State} (hkq : State.Kept kq s) : OutKept kq (execSiteLimit t h validity entries s) := by
  unfold execSiteLimit; refine State.kept_next ?_; with_reducible refine onEvent_kept ?_ ?_; intro _ _
  with_reducible refine State.receive_kept ?_ ?_; with_reducible assumption; intro _ _
  with_reducible refine State.limitApply_kept ?_; with_reducible assumption; with_reducible assumption

theorem execTime_kept {kq : List Instr} {t : Nat} {h : THdr} {ref : Nat} {ms : Nat} {sig : Option (List Byte × Bool)}
    {s : State} (hkq : State.Kept kq s) : OutKept kq (execTime t h ref ms sig s) := by
  unfold execTime; refine State.kept_next ?_; with_reducible refine onEvent_kept ?_ ?_; intro _ _
  with_reducible refine State.receive_kept ?_ ?_; with_reducible assumption; intro _ _; lift_lets -underBinder
  intro v13; clear_value v13; intro v14; clear_value v14; intro v15; clear_value v15; refine State.kept_ite ?_ ?_
  with_reducible assumption; with_reducible refine State.timeSet_kept ?_; with_reducible assumption
  with_reducible assumption

theorem execHostData_kept {kq : List Instr} {t : Nat} {h : THdr} {payload : List Byte} {s : State} (hkq : State.Kept
    kq s) : OutKept kq (execHostData t h payload s) := by
  unfold execHostData; refine State.kept_next ?_; with_reducible refine onEvent_kept ?_ ?_; intro _ _
  with_reducible refine State.receive_kept ?_ ?_; with_reducible assumption; intro _ _; lift_lets -underBinder
  intro v11; clear_value v11; intro v12; clear_value v12; intro v13; clear_value v13; intro v14
  refine State.kept_have (q := kq) v14 ?_ (fun hs => ?_); subst v14; with_reducible refine State.kept_upd ?_
  with_reducible assumption; clear_value v14; with_reducible refine State.streamBlock_kept ?_; with_reducible assumption
  with_reducible assumption

theorem execImageOffer_kept {kq : List Instr} {t : Nat} {h : THdr} {digest : Nat} {count : Nat} {gen : Nat} {s :
    State} (hkq : State.Kept kq s) : OutKept kq (execImageOffer t h digest count gen s) := by
  unfold execImageOffer; refine State.kept_next ?_; with_reducible refine onEvent_kept ?_ ?_; intro _ _
  with_reducible refine State.receive_kept ?_ ?_; with_reducible assumption; intro _ _
  with_reducible refine State.updOffer_kept ?_; with_reducible assumption; with_reducible assumption

theorem execImageReq_kept {kq : List Instr} {t : Nat} {h : THdr} {digest : Nat} {ranges : List (Nat × Nat)} {s :
    State} (hkq : State.Kept kq s) : OutKept kq (execImageReq t h digest ranges s) := by
  unfold execImageReq; refine State.kept_next ?_; with_reducible refine onEvent_kept ?_ ?_; intro _ _
  with_reducible refine State.receive_kept ?_ ?_; with_reducible assumption; intro _ _; split
  refine State.kept_ite ?_ ?_; with_reducible assumption; lift_lets -underBinder; intro v19; clear_value v19; intro v20
  clear_value v20; intro v21; refine State.kept_have (q := kq) v21 ?_ (fun hs => ?_); subst v21
  with_reducible refine State.kept_upd ?_; with_reducible assumption; clear_value v21
  with_reducible refine State.serveNext_kept ?_; with_reducible assumption; with_reducible assumption
  with_reducible assumption

theorem execImageBlock_kept {kq : List Instr} {t : Nat} {h : THdr} {digest : Nat} {block : Nat} {frag : Nat} {data :
    List Byte} {sigs : Bool × Bool} {s : State} (hkq : State.Kept kq s) : OutKept kq (execImageBlock t h digest block
    frag data sigs s) := by
  unfold execImageBlock; refine State.kept_next ?_; with_reducible refine onEvent_kept ?_ ?_; intro _ _
  lift_lets -underBinder; intro v13; clear_value v13; with_reducible refine State.receive_kept ?_ ?_
  with_reducible assumption; intro _ _; refine State.kept_ite ?_ ?_; with_reducible assumption; lift_lets -underBinder
  intro v16; clear_value v16; intro v17; clear_value v17; intro v18; clear_value v18; intro v19; clear_value v19
  intro v20; clear_value v20; refine State.kept_ite ?_ ?_
  with_reducible refine State.updBlockRx_kept (State.kept_upd ?_); with_reducible assumption
  with_reducible refine State.kept_upd ?_; with_reducible assumption; with_reducible assumption

theorem execImageBlockExpiry_kept {kq : List Instr} {t : Nat} {s : State} (hkq : State.Kept kq s) : OutKept kq
    (execImageBlockExpiry t s) := by
  unfold execImageBlockExpiry; refine State.kept_next ?_; with_reducible refine onEvent_kept ?_ ?_; intro _ _
  with_reducible refine State.kept_upd ?_; with_reducible assumption; with_reducible assumption

theorem execTrellisBeaconTimeout_kept {kq : List Instr} {t : Nat} {s : State} (hkq : State.Kept kq s) : OutKept kq
    (execTrellisBeaconTimeout t s) := by
  unfold execTrellisBeaconTimeout; refine State.kept_next ?_; with_reducible refine onEvent_kept ?_ ?_; intro _ _
  lift_lets -underBinder; intro v7; clear_value v7; intro v8; clear_value v8; intro v9; clear_value v9; intro v10
  refine State.kept_have (q := kq) v10 ?_ (fun hs => ?_); subst v10; with_reducible refine State.kept_upd ?_
  with_reducible assumption; intro v12; clear_value v12; intro v13
  refine State.kept_have (q := kq) v13 ?_ (fun hs => ?_); clear_value v10; subst v13
  with_reducible refine State.setTrx_kept ?_; with_reducible assumption; intro v15; clear_value v15 v10 v13
  refine State.kept_ite ?_ ?_; with_reducible refine State.setTrx_kept (State.wr_kept ?_); with_reducible assumption
  refine State.kept_ite ?_ ?_; with_reducible refine State.kept_upd ?_; with_reducible assumption
  refine State.kept_ite ?_ ?_; with_reducible refine State.listen_kept ?_; with_reducible assumption
  with_reducible assumption; with_reducible assumption

theorem execTrellisJoinTimeout_kept {kq : List Instr} {t : Nat} {s : State} (hkq : State.Kept kq s) : OutKept kq
    (execTrellisJoinTimeout t s) := by
  unfold execTrellisJoinTimeout; refine State.kept_next ?_; with_reducible refine onEvent_kept ?_ ?_; intro _ _
  refine State.kept_ite ?_ ?_; with_reducible refine State.kept_upd ?_; with_reducible assumption
  with_reducible assumption; with_reducible assumption

theorem execTrellisJoinBackoffEnd_kept {kq : List Instr} {t : Nat} {s : State} (hkq : State.Kept kq s) : OutKept kq
    (execTrellisJoinBackoffEnd t s) := by
  unfold execTrellisJoinBackoffEnd; refine State.kept_next ?_; with_reducible refine onEvent_kept ?_ ?_; intro _ _
  split; refine State.kept_ite ?_ ?_; with_reducible refine State.listen_kept ?_; with_reducible assumption
  with_reducible assumption; with_reducible assumption; with_reducible assumption

theorem execTrellisNodeTimeout_kept {kq : List Instr} {t : Nat} {n : Nat} {s : State} (hkq : State.Kept kq s) :
    OutKept kq (execTrellisNodeTimeout t n s) := by
  unfold execTrellisNodeTimeout; refine State.kept_next ?_; with_reducible refine onEvent_kept ?_ ?_; intro _ _; split
  refine State.kept_ite ?_ ?_; with_reducible refine State.raise_kept (State.kept_upd ?_); with_reducible assumption
  with_reducible assumption; with_reducible assumption; with_reducible assumption

theorem execLqReportSend_kept {kq : List Instr} {t : Nat} {s : State} (hkq : State.Kept kq s) : OutKept kq
    (execLqReportSend t s) := by
  unfold execLqReportSend; refine State.kept_next ?_; with_reducible refine onEvent_kept ?_ ?_; intro _ _
  refine State.kept_ite ?_ ?_; with_reducible refine State.every_kept ?_ ?_; with_reducible assumption; intro _ _
  lift_lets -underBinder; intro v9; clear_value v9; with_reducible refine State.send_kept ?_; with_reducible assumption
  with_reducible assumption; with_reducible assumption

theorem execSiteLimitRepeat_kept {kq : List Instr} {t : Nat} {s : State} (hkq : State.Kept kq s) : OutKept kq
    (execSiteLimitRepeat t s) := by
  unfold execSiteLimitRepeat; refine State.kept_next ?_; with_reducible refine onEvent_kept ?_ ?_; intro _ _; split
  refine State.kept_ite ?_ ?_; with_reducible refine State.every_kept ?_ ?_; with_reducible assumption; intro _ _
  with_reducible refine State.send_kept ?_; with_reducible assumption; with_reducible assumption
  with_reducible assumption; with_reducible assumption

theorem execTimeSend_kept {kq : List Instr} {t : Nat} {s : State} (hkq : State.Kept kq s) : OutKept kq (execTimeSend t
    s) := by
  unfold execTimeSend; refine State.kept_next ?_; with_reducible refine onEvent_kept ?_ ?_; intro _ _
  refine State.kept_ite ?_ ?_; with_reducible refine State.every_kept ?_ ?_; with_reducible assumption; intro _ _
  with_reducible refine State.send_kept ?_; with_reducible assumption; with_reducible assumption
  with_reducible assumption

theorem execImageOfferSend_kept {kq : List Instr} {t : Nat} {s : State} (hkq : State.Kept kq s) : OutKept kq
    (execImageOfferSend t s) := by
  unfold execImageOfferSend; refine State.kept_next ?_; with_reducible refine onEvent_kept ?_ ?_; intro _ _; split
  refine State.kept_ite ?_ ?_; with_reducible refine State.every_kept ?_ ?_; with_reducible assumption; intro _ _
  with_reducible refine State.send_kept ?_; with_reducible assumption; with_reducible assumption
  with_reducible assumption; with_reducible assumption

theorem execTrellisEnable_kept {kq : List Instr} {t : Nat} {on : Bool} {s : State} (hkq : State.Kept kq s) : OutKept
    kq (execTrellisEnable t on s) := by
  unfold execTrellisEnable; refine State.kept_next ?_; with_reducible refine onEvent_kept ?_ ?_; intro _ _
  with_reducible refine State.trellisEn_kept (State.setFlag_kept ?_); with_reducible assumption
  with_reducible assumption

theorem execPlcQuery_kept {kq : List Instr} {x : Ctx} {i : Nat} {s : State} (hkq : State.Kept kq s) : OutKept kq
    (execPlcQuery x i s) := by
  unfold execPlcQuery; refine State.kept_next ?_; with_reducible refine State.command_kept ?_ ?_
  with_reducible assumption; intro _ _; refine State.kept_ite ?_ ?_; with_reducible refine State.complete_kept ?_
  with_reducible assumption; with_reducible refine State.complete_kept ?_; with_reducible assumption

theorem execTrellisSend_kept {kq : List Instr} {x : Ctx} {dst : Nat} {cls : Nat} {payload : List Byte} {s : State}
    (hkq : State.Kept kq s) : OutKept kq (execTrellisSend x dst cls payload s) := by
  unfold execTrellisSend; refine State.kept_next ?_; with_reducible refine State.command_kept ?_ ?_
  with_reducible assumption; intro _ _; refine State.kept_ite ?_ ?_; with_reducible refine State.complete_kept ?_
  with_reducible assumption; refine State.kept_ite ?_ ?_; with_reducible refine State.complete_kept ?_
  with_reducible assumption; refine State.kept_ite ?_ ?_; with_reducible refine State.complete_kept ?_
  with_reducible assumption; refine State.kept_ite ?_ ?_; with_reducible refine State.complete_kept ?_
  with_reducible assumption; refine State.kept_ite ?_ ?_; with_reducible refine State.complete_kept ?_
  with_reducible assumption; with_reducible refine State.send_kept (State.complete_kept ?_); with_reducible assumption

theorem execTrellisLimitSend_kept {kq : List Instr} {x : Ctx} {validity : Nat} {entries : List (Nat × Nat)} {s :
    State} (hkq : State.Kept kq s) : OutKept kq (execTrellisLimitSend x validity entries s) := by
  unfold execTrellisLimitSend; refine State.kept_next ?_; with_reducible refine State.command_kept ?_ ?_
  with_reducible assumption; intro _ _; refine State.kept_ite ?_ ?_; with_reducible refine State.complete_kept ?_
  with_reducible assumption; refine State.kept_ite ?_ ?_; with_reducible refine State.complete_kept ?_
  with_reducible assumption; lift_lets -underBinder; intro v9; clear_value v9; intro v10
  refine State.kept_have (q := kq) v10 ?_ (fun hs => ?_); subst v10; with_reducible refine State.kept_upd ?_
  with_reducible assumption; intro v12; refine State.kept_have (q := kq) v12 ?_ (fun hs => ?_); clear_value v10
  subst v12; with_reducible refine State.send_kept ?_; with_reducible assumption; intro v14; clear_value v14; intro v15
  refine State.kept_have (q := kq) v15 ?_ (fun hs => ?_); clear_value v10 v12; subst v15
  with_reducible refine State.kept_upd ?_; with_reducible assumption; clear_value v10 v12 v15
  with_reducible refine State.complete_kept (State.limitApply_kept ?_); with_reducible assumption

theorem execTrellisLqRead_kept {kq : List Instr} {x : Ctx} {s : State} (hkq : State.Kept kq s) : OutKept kq
    (execTrellisLqRead x s) := by
  unfold execTrellisLqRead; refine State.kept_next ?_; with_reducible refine State.command_kept ?_ ?_
  with_reducible assumption; intro _ _; lift_lets -underBinder; intro v7; clear_value v7
  with_reducible refine State.complete_kept (State.giveBuffer_kept ?_); with_reducible assumption

theorem execTrellisRestart_kept {kq : List Instr} {x : Ctx} {s : State} (hkq : State.Kept kq s) : OutKept kq
    (execTrellisRestart x s) := by
  unfold execTrellisRestart; refine State.kept_next ?_; with_reducible refine State.command_kept ?_ ?_
  with_reducible assumption; intro _ _; lift_lets -underBinder; intro v7
  refine State.kept_have (q := kq) v7 ?_ (fun hs => ?_); subst v7; with_reducible refine State.cancelFrames_kept ?_
  with_reducible assumption; intro v9; refine State.kept_have (q := kq) v9 ?_ (fun hs => ?_); clear_value v7; subst v9
  refine State.kept_ite ?_ ?_; with_reducible assumption
  with_reducible refine State.setTrx_kept (State.mainsModems_kept ?_); with_reducible assumption; clear_value v7 v9
  with_reducible refine State.complete_kept ?_; refine State.kept_ite ?_ ?_; with_reducible refine State.listen_kept ?_
  with_reducible assumption; with_reducible assumption

theorem State.setActIn_kept {kq : List Instr} {s : State} {b : Bool} (hkq : State.Kept kq s) : State.Kept kq
    (State.setActIn s b) := by
  unfold State.setActIn; lift_lets -underBinder; intro v5; clear_value v5; intro v6; clear_value v6
  with_reducible refine State.kept_upd ?_; with_reducible assumption

theorem State.noteFrame_kept {kq : List Instr} {s : State} {h : TwinHdr} {crc : Nat} (hkq : State.Kept kq s) :
    State.Kept kq (State.noteFrame s h crc) := by
  unfold State.noteFrame; lift_lets -underBinder; intro v6; clear_value v6; intro v7
  refine State.kept_have (q := kq) v7 ?_ (fun hs => ?_); subst v7
  with_reducible refine State.addSat_kept (State.setFlag_kept (State.wr_kept ?_)); with_reducible assumption; intro v9
  refine State.kept_have (q := kq) v9 ?_ (fun hs => ?_); clear_value v7; subst v9
  with_reducible refine State.wrInt_kept ?_; with_reducible assumption; intro v11; clear_value v11; intro v12
  refine State.kept_have (q := kq) v12 ?_ (fun hs => ?_); clear_value v7 v9; subst v12
  with_reducible refine State.kept_upd ?_; with_reducible assumption; clear_value v7 v9 v12; refine State.kept_ite ?_ ?_
  with_reducible assumption; with_reducible refine State.peerEvent_kept ?_; with_reducible assumption

theorem State.linkRole_kept {kq : List Instr} {s : State} {peerRole : Nat} {peerPrefer : Bool} (hkq : State.Kept kq s)
    : State.Kept kq (State.linkRole s peerRole peerPrefer) := by
  unfold State.linkRole; refine State.kept_ite ?_ ?_; refine State.kept_ite ?_ ?_
  with_reducible refine State.setRole_kept ?_; with_reducible assumption; refine State.kept_ite ?_ ?_
  with_reducible refine State.setRole_kept ?_; with_reducible assumption; with_reducible assumption
  refine State.kept_ite ?_ ?_; with_reducible refine State.setRole_kept ?_; with_reducible assumption
  with_reducible refine State.noteReady_kept ?_; with_reducible assumption

theorem execTwinLinkUp_kept {kq : List Instr} {t : Nat} {lanes : Nat} {serial : Nat} {peerPrefer : Bool} {hdr :
    TwinHdr} {s : State} (hkq : State.Kept kq s) : OutKept kq (execTwinLinkUp t lanes serial peerPrefer hdr s) := by
  unfold execTwinLinkUp; refine State.kept_next ?_; with_reducible refine onEvent_kept ?_ ?_; intro _ _
  refine State.kept_ite ?_ ?_; with_reducible assumption; lift_lets -underBinder; intro v11
  refine State.kept_have (q := kq) v11 ?_ (fun hs => ?_); subst v11; refine State.kept_ite ?_ ?_
  with_reducible assumption; with_reducible refine State.incSat_kept ?_; with_reducible assumption; intro v13
  refine State.kept_have (q := kq) v13 ?_ (fun hs => ?_); clear_value v11; subst v13
  with_reducible refine State.wr_kept (State.wr_kept (State.wr_kept ?_)); with_reducible assumption; intro v15
  clear_value v15; intro v16; refine State.kept_have (q := kq) v16 ?_ (fun hs => ?_); clear_value v11 v13; subst v16
  with_reducible refine State.kept_upd ?_; with_reducible assumption; intro v18
  refine State.kept_have (q := kq) v18 ?_ (fun hs => ?_); clear_value v11 v13 v16; subst v18
  with_reducible refine State.setFlag_kept ?_; with_reducible assumption; clear_value v11 v13 v16 v18
  with_reducible refine State.linkRole_kept (State.peerEvent_kept (State.noteFrame_kept ?_)); with_reducible assumption
  with_reducible assumption

theorem execTwinLinkDown_kept {kq : List Instr} {t : Nat} {s : State} (hkq : State.Kept kq s) : OutKept kq
    (execTwinLinkDown t s) := by
  unfold execTwinLinkDown; refine State.kept_next ?_; with_reducible refine onEvent_kept ?_ ?_; intro _ _
  refine State.kept_ite ?_ ?_; with_reducible assumption; lift_lets -underBinder; intro v7
  refine State.kept_have (q := kq) v7 ?_ (fun hs => ?_); subst v7
  with_reducible refine State.wr_kept (State.wr_kept (State.wr_kept ?_)); with_reducible assumption; intro v9
  clear_value v9 v7; with_reducible refine State.peerEvent_kept (State.noteReady_kept (State.kept_upd ?_))
  with_reducible assumption; with_reducible assumption

theorem execTwinPairTimeout_kept {kq : List Instr} {t : Nat} {s : State} (hkq : State.Kept kq s) : OutKept kq
    (execTwinPairTimeout t s) := by
  unfold execTwinPairTimeout; refine State.kept_next ?_; with_reducible refine onEvent_kept ?_ ?_; intro _ _
  refine State.kept_ite ?_ ?_; with_reducible refine State.setRole_kept ?_; with_reducible assumption
  with_reducible assumption; with_reducible assumption

theorem execTwinCopyFreeze_kept {kq : List Instr} {t : Nat} {hdr : TwinHdr} {crc : Nat} {kib : Nat} {s : State} (hkq :
    State.Kept kq s) : OutKept kq (execTwinCopyFreeze t hdr crc kib s) := by
  unfold execTwinCopyFreeze; refine State.kept_next ?_; with_reducible refine onEvent_kept ?_ ?_; intro _ _
  refine State.kept_ite ?_ ?_; lift_lets -underBinder; intro v10; refine State.kept_have (q := kq) v10 ?_ (fun hs => ?_)
  subst v10; with_reducible refine State.wr_kept (State.noteFrame_kept ?_); with_reducible assumption; intro v12
  clear_value v12 v10; with_reducible refine State.kept_upd ?_; with_reducible assumption; with_reducible assumption
  with_reducible assumption

theorem execTwinCopyRx_kept {kq : List Instr} {t : Nat} {copy : TwinCopy} {whole : Bool} {kib : Nat} {hdr : TwinHdr}
    {s : State} (hkq : State.Kept kq s) : OutKept kq (execTwinCopyRx t copy whole kib hdr s) := by
  unfold execTwinCopyRx; refine State.kept_next ?_; with_reducible refine onEvent_kept ?_ ?_; intro _ _
  refine State.kept_ite ?_ ?_; lift_lets -underBinder; intro v11; refine State.kept_have (q := kq) v11 ?_ (fun hs => ?_)
  subst v11; with_reducible refine State.noteFrame_kept ?_; with_reducible assumption; intro v13; clear_value v13
  intro v14; refine State.kept_have (q := kq) v14 ?_ (fun hs => ?_); clear_value v11; subst v14
  with_reducible refine State.wr_kept ?_; with_reducible assumption; intro v16; clear_value v16; intro v17
  refine State.kept_have (q := kq) v17 ?_ (fun hs => ?_); clear_value v11 v14; subst v17
  with_reducible refine State.kept_upd ?_; with_reducible assumption; clear_value v11 v14 v17
  refine State.kept_ite ?_ ?_; with_reducible assumption
  with_reducible refine State.noteReady_kept (State.shadowNote_kept ?_); with_reducible assumption
  with_reducible assumption; with_reducible assumption

theorem execTwinCopyDeadline_kept {kq : List Instr} {t : Nat} {crc : Nat} {s : State} (hkq : State.Kept kq s) :
    OutKept kq (execTwinCopyDeadline t crc s) := by
  unfold execTwinCopyDeadline; refine State.kept_next ?_; with_reducible refine onEvent_kept ?_ ?_; intro _ _
  lift_lets -underBinder; intro v8; subst v8; intro v8; refine State.kept_have (q := kq) v8 ?_ (fun hs => ?_); subst v8
  with_reducible refine State.addSat_kept ?_; with_reducible assumption; intro v10; subst v10; intro v10
  refine State.kept_have (q := kq) v10 ?_ (fun hs => ?_); clear_value v8; subst v10
  with_reducible refine State.kept_upd ?_; with_reducible assumption; intro v12
  refine State.kept_have (q := kq) v12 ?_ (fun hs => ?_); clear_value v8 v10; subst v12
  with_reducible refine State.incSat_kept ?_; with_reducible assumption; intro v14; subst v14; intro v14
  refine State.kept_have (q := kq) v14 ?_ (fun hs => ?_); clear_value v8 v10 v12; subst v14
  with_reducible refine State.kept_upd ?_; with_reducible assumption; intro v16
  refine State.kept_have (q := kq) v16 ?_ (fun hs => ?_); clear_value v8 v10 v12 v14; subst v16
  with_reducible refine State.noteReady_kept ?_; with_reducible assumption; intro v18; clear_value v18; intro v19
  clear_value v19; subst v8; subst v10; subst v12; subst v14; subst v16; refine State.kept_ite ?_ ?_
  with_reducible assumption; refine State.kept_ite ?_ ?_; with_reducible refine State.kept_upd (State.addSat_kept ?_)
  with_reducible assumption; refine State.kept_ite ?_ ?_
  with_reducible refine State.noteReady_kept (State.kept_upd (State.incSat_kept (State.kept_upd (State.addSat_kept ?_))))
  with_reducible assumption
  with_reducible refine State.raise_kept (State.kept_upd (State.noteReady_kept (State.kept_upd (State.incSat_kept ?_))))
  with_reducible refine State.kept_upd (State.addSat_kept ?_); with_reducible assumption; with_reducible assumption

theorem execTwinGiveup_kept {kq : List Instr} {t : Nat} {cause : Nat} {s : State} (hkq : State.Kept kq s) : OutKept kq
    (execTwinGiveup t cause s) := by
  unfold execTwinGiveup; refine State.kept_next ?_; with_reducible refine onEvent_kept ?_ ?_; intro _ _
  refine State.kept_ite ?_ ?_; with_reducible refine State.giveUp_kept ?_; with_reducible assumption
  with_reducible assumption; with_reducible assumption

theorem execTwinActInFall_kept {kq : List Instr} {t : Nat} {s : State} (hkq : State.Kept kq s) : OutKept kq
    (execTwinActInFall t s) := by
  unfold execTwinActInFall; refine State.kept_next ?_; with_reducible refine onEvent_kept ?_ ?_; intro _ _
  lift_lets -underBinder; intro v7; refine State.kept_have (q := kq) v7 ?_ (fun hs => ?_); subst v7
  with_reducible refine State.setActIn_kept ?_; with_reducible assumption; clear_value v7; refine State.kept_ite ?_ ?_
  split; with_reducible refine State.setRole_kept (State.loadCopy_kept ?_); with_reducible assumption
  with_reducible refine State.setRole_kept ?_; with_reducible assumption; refine State.kept_ite ?_ ?_
  with_reducible refine State.linkRole_kept ?_; with_reducible assumption; with_reducible assumption
  with_reducible assumption

theorem execTwinActInRise_kept {kq : List Instr} {t : Nat} {s : State} (hkq : State.Kept kq s) : OutKept kq
    (execTwinActInRise t s) := by
  unfold execTwinActInRise; refine State.kept_next ?_; with_reducible refine onEvent_kept ?_ ?_; intro _ _
  lift_lets -underBinder; intro v7; refine State.kept_have (q := kq) v7 ?_ (fun hs => ?_); subst v7
  with_reducible refine State.setActIn_kept ?_; with_reducible assumption; clear_value v7; refine State.kept_ite ?_ ?_
  with_reducible refine State.twinRelease_kept ?_; with_reducible assumption; refine State.kept_ite ?_ ?_
  with_reducible refine State.setRole_kept ?_; with_reducible assumption; with_reducible assumption
  with_reducible assumption

theorem execTwinActConflict_kept {kq : List Instr} {t : Nat} {s : State} (hkq : State.Kept kq s) : OutKept kq
    (execTwinActConflict t s) := by
  unfold execTwinActConflict; refine State.kept_next ?_; with_reducible refine onEvent_kept ?_ ?_; intro _ _; split
  lift_lets -underBinder; intro v12; clear_value v12; intro v13; clear_value v13; refine State.kept_ite ?_ ?_
  with_reducible refine State.twinRelease_kept (State.setRole_kept ?_); with_reducible assumption
  with_reducible assumption; with_reducible assumption; with_reducible assumption

theorem execTwinTakeoverDone_kept {kq : List Instr} {t : Nat} {s : State} (hkq : State.Kept kq s) : OutKept kq
    (execTwinTakeoverDone t s) := by
  unfold execTwinTakeoverDone; refine State.kept_next ?_; with_reducible refine onEvent_kept ?_ ?_; intro _ _
  lift_lets -underBinder; intro v7; clear_value v7; refine State.kept_ite ?_ ?_
  with_reducible refine State.takeOverDone_kept ?_; with_reducible assumption; with_reducible assumption
  with_reducible assumption

theorem execTwinForwardedStop_kept {kq : List Instr} {t : Nat} {op : Nat} {mask : Nat} {s : State} (hkq : State.Kept
    kq s) : OutKept kq (execTwinForwardedStop t op mask s) := by
  unfold execTwinForwardedStop; refine State.kept_next ?_; with_reducible refine onEvent_kept ?_ ?_; intro _ _
  refine State.kept_ite ?_ ?_; with_reducible assumption; refine State.kept_ite ?_ ?_; split
  with_reducible refine State.kept_upd ?_; refine State.kept_snd (by with_reducible assumption) ?_
  with_reducible refine State.sessionStop_kept ?_; with_reducible assumption; refine State.kept_ite ?_ ?_
  lift_lets -underBinder; intro v9; refine State.kept_have (q := kq) v9 ?_ (fun hs => ?_); subst v9
  with_reducible refine State.outErem_kept ?_; with_reducible assumption; intro v11; clear_value v11 v9
  with_reducible refine State.kept_upd ?_; with_reducible assumption; with_reducible assumption
  with_reducible assumption

theorem execTwinQuery_kept {kq : List Instr} {x : Ctx} {s : State} (hkq : State.Kept kq s) : OutKept kq (execTwinQuery
    x s) := by
  unfold execTwinQuery; refine State.kept_next ?_; with_reducible refine State.command_kept ?_ ?_
  with_reducible assumption; intro _ _; with_reducible refine State.complete_kept ?_; with_reducible assumption

theorem execTwinSwitch_kept {kq : List Instr} {x : Ctx} {s : State} (hkq : State.Kept kq s) : OutKept kq
    (execTwinSwitch x s) := by
  unfold execTwinSwitch; refine State.kept_next ?_; with_reducible refine State.command_kept ?_ ?_
  with_reducible assumption; intro _ _; refine State.kept_ite ?_ ?_; with_reducible refine State.complete_kept ?_
  with_reducible assumption; refine State.kept_ite ?_ ?_; with_reducible refine State.complete_kept ?_
  with_reducible assumption; refine State.kept_ite ?_ ?_; with_reducible refine State.complete_kept ?_
  with_reducible assumption; with_reducible refine State.finalise_kept (State.giveUp_kept (State.complete_kept ?_))
  with_reducible assumption

theorem execTwinRejoin_kept {kq : List Instr} {x : Ctx} {s : State} (hkq : State.Kept kq s) : OutKept kq
    (execTwinRejoin x s) := by
  unfold execTwinRejoin; refine State.kept_next ?_; with_reducible refine State.command_kept ?_ ?_
  with_reducible assumption; intro _ _; refine State.kept_ite ?_ ?_; with_reducible refine State.complete_kept ?_
  with_reducible assumption; refine State.kept_ite ?_ ?_; with_reducible refine State.complete_kept ?_
  with_reducible assumption; lift_lets -underBinder; intro v7; clear_value v7; intro v8
  refine State.kept_have (q := kq) v8 ?_ (fun hs => ?_); subst v8; with_reducible refine State.kept_upd ?_
  with_reducible assumption; clear_value v8; with_reducible refine State.complete_kept (State.setRole_kept ?_)
  with_reducible assumption

end Sys2Proof.Machine
end

