-- ==== Sys2Proof/Laws/State.lean ====
section
/-! SUPPORT. Beside State: the fields under the updates of one register field, a read after a write, and what the shared
operations (events, completions, the frame of a ring command) can do, each once. -/

namespace Sys2Proof.Machine

theorem key2_inj {a b c d : Nat} : key2 a b = key2 c d ↔ a = c ∧ b = d := by
  unfold key2
  exact Nat.pair_eq_pair

namespace State

variable {s t u : State}

/-! ### Register fields -/

/-- A read after a write of the same field. -/
@[simp] theorem rd_wr_same (F : Fld) (n v : Nat) : (s.wr F n v).rd F n = trunc F.w v := by
  simp [rd, wr]

/-- A write of a field changes no other field, and no other instance of it. -/
theorem rd_wr_other (F G : Fld) (n m v : Nat) (h : G.id ≠ F.id ∨ m ≠ n) : (s.wr F n v).rd G m = s.rd G m := by
  have : key2 G.id m ≠ key2 F.id n := by rw [Ne, key2_inj]; rcases h with h | h <;> simp [h]
  simp only [rd, wr, Tab.get_put_ne _ _ _ _ this]

theorem rd_toReset_same (F : Fld) (n : Nat) : (s.toReset F n).rd F n = F.reset n := by
  simp [rd, toReset]

/-! The other parts under a write of a field. -/

@[simp] theorem wr_pending (F : Fld) (n v : Nat) : (s.wr F n v).pending = s.pending := rfl
@[simp] theorem wr_mtb (F : Fld) (n v : Nat) : (s.wr F n v).mtb = s.mtb := rfl
@[simp] theorem wr_mtbAcc (F : Fld) (n v : Nat) : (s.wr F n v).mtbAcc = s.mtbAcc := rfl
@[simp] theorem wr_fresh (F : Fld) (n v : Nat) : (s.wr F n v).fresh = s.fresh := rfl
@[simp] theorem wr_phase (F : Fld) (n v : Nat) : (s.wr F n v).phase = s.phase := rfl
@[simp] theorem wr_settings (F : Fld) (n v : Nat) : (s.wr F n v).settings = s.settings := rfl
@[simp] theorem wr_host (F : Fld) (n v : Nat) : (s.wr F n v).host = s.host := rfl
@[simp] theorem wr_arch (F : Fld) (n v : Nat) : (s.wr F n v).arch = s.arch := rfl
@[simp] theorem wr_cask (F : Fld) (n v : Nat) : (s.wr F n v).cask = s.cask := rfl
@[simp] theorem wr_out (F : Fld) (n v : Nat) : (s.wr F n v).out = s.out := rfl
@[simp] theorem wr_safe (F : Fld) (n v : Nat) : (s.wr F n v).safe = s.safe := rfl
@[simp] theorem wr_afe (F : Fld) (n v : Nat) : (s.wr F n v).afe = s.afe := rfl
@[simp] theorem wr_filt (F : Fld) (n v : Nat) : (s.wr F n v).filt = s.filt := rfl
@[simp] theorem wr_met (F : Fld) (n v : Nat) : (s.wr F n v).met = s.met := rfl
@[simp] theorem wr_ledger (F : Fld) (n v : Nat) : (s.wr F n v).ledger = s.ledger := rfl
@[simp] theorem wr_key (F : Fld) (n v : Nat) : (s.wr F n v).key = s.key := rfl
@[simp] theorem wr_plc (F : Fld) (n v : Nat) : (s.wr F n v).plc = s.plc := rfl
@[simp] theorem wr_tag (F : Fld) (n v : Nat) : (s.wr F n v).tag = s.tag := rfl
@[simp] theorem wr_disp (F : Fld) (n v : Nat) : (s.wr F n v).disp = s.disp := rfl
@[simp] theorem wr_lsw (F : Fld) (n v : Nat) : (s.wr F n v).lsw = s.lsw := rfl
@[simp] theorem wr_upd (F : Fld) (n v : Nat) : (s.wr F n v).upd = s.upd := rfl
@[simp] theorem wr_twin (F : Fld) (n v : Nat) : (s.wr F n v).twin = s.twin := rfl
@[simp] theorem wr_pwr (F : Fld) (n v : Nat) : (s.wr F n v).pwr = s.pwr := rfl
@[simp] theorem toReset_pending (F : Fld) (n : Nat) : (s.toReset F n).pending = s.pending := rfl
@[simp] theorem toReset_mtb (F : Fld) (n : Nat) : (s.toReset F n).mtb = s.mtb := rfl
@[simp] theorem toReset_mtbAcc (F : Fld) (n : Nat) : (s.toReset F n).mtbAcc = s.mtbAcc := rfl
@[simp] theorem toReset_fresh (F : Fld) (n : Nat) : (s.toReset F n).fresh = s.fresh := rfl
@[simp] theorem toReset_phase (F : Fld) (n : Nat) : (s.toReset F n).phase = s.phase := rfl
@[simp] theorem toReset_settings (F : Fld) (n : Nat) : (s.toReset F n).settings = s.settings := rfl
@[simp] theorem toReset_host (F : Fld) (n : Nat) : (s.toReset F n).host = s.host := rfl
@[simp] theorem toReset_arch (F : Fld) (n : Nat) : (s.toReset F n).arch = s.arch := rfl
@[simp] theorem toReset_cask (F : Fld) (n : Nat) : (s.toReset F n).cask = s.cask := rfl
@[simp] theorem toReset_out (F : Fld) (n : Nat) : (s.toReset F n).out = s.out := rfl
@[simp] theorem toReset_safe (F : Fld) (n : Nat) : (s.toReset F n).safe = s.safe := rfl
@[simp] theorem toReset_afe (F : Fld) (n : Nat) : (s.toReset F n).afe = s.afe := rfl
@[simp] theorem toReset_filt (F : Fld) (n : Nat) : (s.toReset F n).filt = s.filt := rfl
@[simp] theorem toReset_met (F : Fld) (n : Nat) : (s.toReset F n).met = s.met := rfl
@[simp] theorem toReset_ledger (F : Fld) (n : Nat) : (s.toReset F n).ledger = s.ledger := rfl
@[simp] theorem toReset_key (F : Fld) (n : Nat) : (s.toReset F n).key = s.key := rfl
@[simp] theorem toReset_plc (F : Fld) (n : Nat) : (s.toReset F n).plc = s.plc := rfl
@[simp] theorem toReset_tag (F : Fld) (n : Nat) : (s.toReset F n).tag = s.tag := rfl
@[simp] theorem toReset_disp (F : Fld) (n : Nat) : (s.toReset F n).disp = s.disp := rfl
@[simp] theorem toReset_lsw (F : Fld) (n : Nat) : (s.toReset F n).lsw = s.lsw := rfl
@[simp] theorem toReset_upd (F : Fld) (n : Nat) : (s.toReset F n).upd = s.upd := rfl
@[simp] theorem toReset_twin (F : Fld) (n : Nat) : (s.toReset F n).twin = s.twin := rfl
@[simp] theorem toReset_pwr (F : Fld) (n : Nat) : (s.toReset F n).pwr = s.pwr := rfl

/-! ### What an operation leaves as it is -/

/-- Every register field but those numbered reads as before. -/
def RegsBut (ids : List Nat) (s t : State) : Prop := ∀ (G : Fld) (m : Nat), G.id ∉ ids → t.rd G m = s.rd G m

/-- All parts but the register store and the HOST island's own part are as before. -/
def HostOnly (s t : State) : Prop := t = { s with regs := t.regs, host := t.host }

/-- What the events, interrupts and completions of the HOST island leave as it is. -/
structure Quiet (ids : List Nat) (s t : State) : Prop where
  regs : RegsBut ids s t
  only : HostOnly s t
  hist : t.host.hist = s.host.hist
  destroys : t.host.destroys = s.host.destroys
  dbs : (t.host.dbCmd, t.host.dbCpl, t.host.dbEv, t.host.dbStr) = (s.host.dbCmd, s.host.dbCpl, s.host.dbEv, s.host.dbStr)

theorem HostOnly.trans (h : HostOnly s t) (k : HostOnly t u) : HostOnly s u := by
  unfold HostOnly at *
  rw [k, h]

theorem HostOnly.pending (h : HostOnly s t) : t.pending = s.pending := by unfold HostOnly at h; rw [h]
theorem HostOnly.mtb (h : HostOnly s t) : t.mtb = s.mtb := by unfold HostOnly at h; rw [h]
theorem HostOnly.mtbAcc (h : HostOnly s t) : t.mtbAcc = s.mtbAcc := by unfold HostOnly at h; rw [h]
theorem HostOnly.fresh (h : HostOnly s t) : t.fresh = s.fresh := by unfold HostOnly at h; rw [h]
theorem HostOnly.phase (h : HostOnly s t) : t.phase = s.phase := by unfold HostOnly at h; rw [h]
theorem HostOnly.settings (h : HostOnly s t) : t.settings = s.settings := by unfold HostOnly at h; rw [h]
theorem HostOnly.arch (h : HostOnly s t) : t.arch = s.arch := by unfold HostOnly at h; rw [h]
theorem HostOnly.cask (h : HostOnly s t) : t.cask = s.cask := by unfold HostOnly at h; rw [h]
theorem HostOnly.out (h : HostOnly s t) : t.out = s.out := by unfold HostOnly at h; rw [h]
theorem HostOnly.safe (h : HostOnly s t) : t.safe = s.safe := by unfold HostOnly at h; rw [h]
theorem HostOnly.afe (h : HostOnly s t) : t.afe = s.afe := by unfold HostOnly at h; rw [h]
theorem HostOnly.filt (h : HostOnly s t) : t.filt = s.filt := by unfold HostOnly at h; rw [h]
theorem HostOnly.met (h : HostOnly s t) : t.met = s.met := by unfold HostOnly at h; rw [h]
theorem HostOnly.ledger (h : HostOnly s t) : t.ledger = s.ledger := by unfold HostOnly at h; rw [h]
theorem HostOnly.key (h : HostOnly s t) : t.key = s.key := by unfold HostOnly at h; rw [h]
theorem HostOnly.plc (h : HostOnly s t) : t.plc = s.plc := by unfold HostOnly at h; rw [h]
theorem HostOnly.tag (h : HostOnly s t) : t.tag = s.tag := by unfold HostOnly at h; rw [h]
theorem HostOnly.disp (h : HostOnly s t) : t.disp = s.disp := by unfold HostOnly at h; rw [h]
theorem HostOnly.lsw (h : HostOnly s t) : t.lsw = s.lsw := by unfold HostOnly at h; rw [h]
theorem HostOnly.upd (h : HostOnly s t) : t.upd = s.upd := by unfold HostOnly at h; rw [h]
theorem HostOnly.twin (h : HostOnly s t) : t.twin = s.twin := by unfold HostOnly at h; rw [h]
theorem HostOnly.pwr (h : HostOnly s t) : t.pwr = s.pwr := by unfold HostOnly at h; rw [h]

theorem Quiet.refl (s : State) : Quiet [] s s := ⟨fun _ _ _ => rfl, rfl, rfl, rfl, rfl⟩

theorem Quiet.trans {a b : List Nat} (h : Quiet a s t) (k : Quiet b t u) : Quiet (a ++ b) s u :=
  ⟨fun G m hg => by
      rw [List.mem_append, not_or] at hg
      rw [k.regs G m hg.2, h.regs G m hg.1],
    h.only.trans k.only, k.hist.trans h.hist, k.destroys.trans h.destroys, k.dbs.trans h.dbs⟩

theorem Quiet.mono {a b : List Nat} (h : Quiet a s t) (hab : ∀ x ∈ a, x ∈ b) : Quiet b s t :=
  ⟨fun G m hg => h.regs G m fun hx => hg (hab _ hx), h.only, h.hist, h.destroys, h.dbs⟩

theorem quiet_wr (F : Fld) (n v : Nat) : Quiet [F.id] s (s.wr F n v) :=
  ⟨fun G m hg => rd_wr_other _ _ _ _ _ (.inl (by simpa using hg)), rfl, rfl, rfl, rfl⟩

theorem quiet_incSat (F : Fld) (n : Nat) : Quiet [F.id] s (s.incSat F n) := quiet_wr _ _ _

theorem quiet_irq (v : Nat) : Quiet [] s (s.irq v) := by
  unfold irq
  split
  · exact ⟨fun _ _ _ => rfl, rfl, rfl, rfl, rfl⟩
  · exact .refl _

@[simp] theorem irq_told (v : Nat) : (s.irq v).told = s.told := by
  unfold irq; split <;> rfl

theorem quiet_alert (F : Fld) : Quiet [F.id] s (s.alert F) := by
  unfold alert
  extract_lets was s'
  split
  · exact (quiet_wr F 0 1).trans (quiet_irq _)
  · exact quiet_wr F 0 1

@[simp] theorem alert_told (F : Fld) : (s.alert F).told = s.told := by
  unfold alert
  extract_lets was s'
  split
  · rw [irq_told]; rfl
  · rfl

/-- The fields that a notification can change. -/
def noteIds : List Nat := [R.HOST_NOTIF_STAT_LOST.id, R.GLOBAL_ALERT_NOTIF_LOST.id]

theorem quiet_notifSwap : Quiet [] s s.notifSwap ∧ s.notifSwap.told = s.told := by
  unfold notifSwap
  split
  · exact ⟨⟨fun _ _ _ => rfl, rfl, rfl, rfl, rfl⟩, rfl⟩
  · exact ⟨.refl _, rfl⟩

theorem quiet_notifPut (w : Notif) : Quiet noteIds s (s.notifPut w) ∧ (s.notifPut w).told = s.told := by
  have h0 : ∀ h, h.hist = s.host.hist → h.destroys = s.host.destroys →
      (h.dbCmd, h.dbCpl, h.dbEv, h.dbStr) = (s.host.dbCmd, s.host.dbCpl, s.host.dbEv, s.host.dbStr) →
      h.journal = s.host.journal → Quiet [] s { s with host := h } ∧ ({ s with host := h } : State).told = s.told :=
    fun h a b c d => ⟨⟨fun _ _ _ => rfl, rfl, a, b, c⟩, by unfold told; rw [← d]⟩
  unfold notifPut
  extract_lets h full s'
  split
  · have k := h0 { h with notifFill := h.notifFill ++ [w] } rfl rfl rfl rfl
    exact ⟨k.1.mono (by simp), k.2⟩
  · have k : Quiet [] s s' ∧ s'.told = s.told := h0 _ rfl rfl rfl rfl
    split
    · exact ⟨(k.1.trans (quiet_incSat R.HOST_NOTIF_STAT_LOST 0)).trans (quiet_alert R.GLOBAL_ALERT_NOTIF_LOST),
        (alert_told _).trans k.2⟩
    · exact ⟨k.1.mono (by simp), k.2⟩

theorem quiet_notify (w : Notif) : Quiet noteIds s (s.notify w) ∧ (s.notify w).told = s.told :=
  ⟨(quiet_notifSwap.1.trans (quiet_notifPut w).1).trans (quiet_irq 0),
    (irq_told 0).trans ((quiet_notifPut w).2.trans quiet_notifSwap.2)⟩

theorem quiet_coalesce (c v n us : Nat) (now : Bool) :
    Quiet [] s (s.coalesce c v n us now) ∧ (s.coalesce c v n us now).told = s.told := by
  have h0 : ∀ tb, Quiet [] s { s with host := { s.host with coal := tb } } := fun _ => ⟨fun _ _ _ => rfl, rfl, rfl, rfl, rfl⟩
  unfold coalesce
  extract_lets k k'
  split
  · exact ⟨(h0 _).trans (quiet_irq v), irq_told v⟩
  · exact ⟨⟨fun _ _ _ => rfl, rfl, rfl, rfl, rfl⟩, rfl⟩

theorem quiet_journalGot : Quiet [] s s.journalGot ∧ s.journalGot.told = s.told := by
  unfold journalGot
  split
  · rename_i e r h
    exact ⟨⟨fun _ _ _ => rfl, rfl, rfl, rfl, rfl⟩, by simp [told, h]⟩
  · exact ⟨.refl _, rfl⟩

theorem quiet_putEvent (j : Nat) (e : Event) : Quiet noteIds s (s.putEvent j e) ∧ (s.putEvent j e).told = s.told := by
  unfold putEvent
  lift_lets -underBinder
  intro p p' none_ _ s1 s2 s3
  have h1 : Quiet [] s s1 := ⟨fun _ _ _ => rfl, rfl, rfl, rfl, rfl⟩
  have h2 : Quiet [] s1 s2 ∧ s2.told = s1.told := quiet_journalGot
  have h3 : Quiet noteIds s2 s3 ∧ s3.told = s2.told := quiet_notify _
  exact ⟨((h1.trans h2.1).trans h3.1).trans (quiet_coalesce _ _ _ _ _).1,
    (quiet_coalesce _ _ _ _ _).2.trans (h3.2.trans h2.2)⟩

theorem quiet_deliver (e : Event) : Quiet noteIds s (s.deliver e) ∧ (s.deliver e).told = s.told := by
  unfold deliver
  split
  · exact ⟨(Quiet.refl s).mono (by simp), rfl⟩
  · split
    · exact ⟨(Quiet.refl s).mono (by simp), rfl⟩
    · extract_lets g
      split
      · exact quiet_putEvent _ _
      · exact ⟨⟨fun _ _ _ => rfl, rfl, rfl, rfl, rfl⟩, rfl⟩

/-- The fields that writing the journal can change. -/
def journalIds : List Nat :=
  [R.HOST_SYNC_GLOBAL_JOURNAL_LOW.id, R.HOST_SYNC_GLOBAL_JRN_LOST.id, R.GLOBAL_ALERT_JOURNAL_LOST.id]

theorem quiet_journal (e : Event) : Quiet journalIds s (s.journal e) ∧ (s.journal e).told = some (e.code, e.inst, e.payload) := by
  unfold journal
  lift_lets -underBinder
  intro full lost j _ s1 s2
  have h1 : Quiet [] s s1 := ⟨fun _ _ _ => rfl, rfl, rfl, rfl, rfl⟩
  have h2 : Quiet [R.HOST_SYNC_GLOBAL_JOURNAL_LOW.id] s s2 := h1.trans (quiet_wr R.HOST_SYNC_GLOBAL_JOURNAL_LOW 0 _)
  have ht : s2.told = some (e.code, e.inst, e.payload) := rfl
  split
  · exact ⟨(h2.trans (quiet_incSat R.HOST_SYNC_GLOBAL_JRN_LOST 0)).trans (quiet_alert R.GLOBAL_ALERT_JOURNAL_LOST),
      (alert_told _).trans ht⟩
  · exact ⟨h2.mono (by simp [journalIds]), ht⟩

theorem quiet_issueSeq : Quiet [R.HOST_SYNC_GLOBAL_DEV_SEQ_HIGH.id] s s.issueSeq.2 ∧ s.issueSeq.2.told = s.told := by
  unfold issueSeq
  lift_lets -underBinder
  intro n _ s1
  have h1 : Quiet [] s s1 := ⟨fun _ _ _ => rfl, rfl, rfl, rfl, rfl⟩
  exact ⟨h1.trans (quiet_wr R.HOST_SYNC_GLOBAL_DEV_SEQ_HIGH 0 _), rfl⟩

/-- The fields that raising an event can change. -/
def raiseIds : List Nat := R.HOST_SYNC_GLOBAL_DEV_SEQ_HIGH.id :: (journalIds ++ noteIds)

/-- What raising an event does (R43, R45, R55): it is the newest of the journal, and nothing outside the HOST island and
its counters changes. -/
theorem raise_spec (code inst : Nat) (p : List Nat) :
    Quiet raiseIds s (s.raise code inst p) ∧ (s.raise code inst p).told = some (code, inst, p) := by
  unfold raise
  rcases h : s.issueSeq with ⟨n, s'⟩
  have hq : Quiet [R.HOST_SYNC_GLOBAL_DEV_SEQ_HIGH.id] s s' := by have := (quiet_issueSeq (s := s)).1; rwa [h] at this
  simp only
  refine ⟨Quiet.mono ((hq.trans (quiet_journal _).1).trans (quiet_deliver _).1) (by simp [raiseIds]), ?_⟩
  rw [(quiet_deliver _).2, (quiet_journal _).2]

/-! ### Completions -/

theorem quiet_settleInfl (r n : Nat) (a : Bool) : Quiet [] s (s.settleInfl r n a) := ⟨fun _ _ _ => rfl, rfl, rfl, rfl, rfl⟩

theorem quiet_creditBack (c : Option Nat) : Quiet [] s (s.creditBack c) ∧ (s.creditBack c).told = s.told := by
  unfold creditBack
  split
  · exact ⟨.refl _, rfl⟩
  · split
    · exact ⟨⟨fun _ _ _ => rfl, rfl, rfl, rfl, rfl⟩, rfl⟩
    · exact ⟨⟨fun _ _ _ => rfl, rfl, rfl, rfl, rfl⟩, rfl⟩

theorem quiet_putCompletion (c : Completion) (now : Bool) :
    Quiet noteIds s (s.putCompletion c now) ∧ (s.putCompletion c now).told = s.told := by
  unfold putCompletion
  lift_lets -underBinder
  intro i p p' _ s1 s2
  have h1 : Quiet [] s s1 := ⟨fun _ _ _ => rfl, rfl, rfl, rfl, rfl⟩
  have h2 : Quiet noteIds s1 s2 ∧ s2.told = s1.told := quiet_notify _
  exact ⟨(h1.trans h2.1).trans (quiet_coalesce _ _ _ _ _).1, (quiet_coalesce _ _ _ _ _).2.trans h2.2⟩

theorem quiet_writeCompletion (c : Completion) (now : Bool) : Quiet (journalIds ++ noteIds) s (s.writeCompletion c now) := by
  unfold writeCompletion
  have h := (quiet_putCompletion (s := s) c now).1.mono (b := journalIds ++ noteIds) (by simp +contextual)
  split
  · exact (quiet_journal _).1.mono (by simp +contextual)
  · split <;> split <;> first | exact h | exact ⟨fun _ _ _ => rfl, rfl, rfl, rfl, rfl⟩

theorem writeCompletion_told (c : Completion) (now : Bool) (h : s.attached = true) :
    (s.writeCompletion c now).told = s.told := by
  unfold writeCompletion
  rw [if_neg (by simp [h])]
  split <;> split <;> first | rfl | exact (quiet_putCompletion _ _).2

/-- The fields that a completion can change. -/
def completeIds : List Nat :=
  R.HOST_SYNC_GLOBAL_DEV_SEQ_HIGH.id :: R.HOST_SYNC_LAST_COMPLETED.id :: (journalIds ++ noteIds)

/-- All parts but the registers and the HOST island's own part are as before, and the fields but those numbered. -/
structure Loud (ids : List Nat) (s t : State) : Prop where
  regs : RegsBut ids s t
  only : HostOnly s t
  destroys : t.host.destroys = s.host.destroys
  dbs : (t.host.dbCmd, t.host.dbCpl, t.host.dbEv, t.host.dbStr) = (s.host.dbCmd, s.host.dbCpl, s.host.dbEv, s.host.dbStr)

theorem Quiet.loud {a : List Nat} (h : Quiet a s t) : Loud a s t := ⟨h.regs, h.only, h.destroys, h.dbs⟩

theorem Loud.trans {a b : List Nat} (h : Loud a s t) (k : Loud b t u) : Loud (a ++ b) s u :=
  ⟨fun G m hg => by
      rw [List.mem_append, not_or] at hg
      rw [k.regs G m hg.2, h.regs G m hg.1],
    h.only.trans k.only, k.destroys.trans h.destroys, k.dbs.trans h.dbs⟩

theorem Loud.mono {a b : List Nat} (h : Loud a s t) (hab : ∀ x ∈ a, x ∈ b) : Loud b s t :=
  ⟨fun G m hg => h.regs G m fun hx => hg (hab _ hx), h.only, h.destroys, h.dbs⟩

theorem loud_setHist (r n st d : Nat) : Loud [] s (s.setHist r n st d) := ⟨fun _ _ _ => rfl, rfl, rfl, rfl⟩

theorem histOf_setHist (r n st d : Nat) : (s.setHist r n st d).histOf r n = some ⟨n + 1, st, d⟩ := by
  simp [histOf, setHist]

theorem quiet_syncCompleted (r : Nat) : Quiet [R.HOST_SYNC_LAST_COMPLETED.id] s (s.syncCompleted r) := quiet_wr _ _ _

theorem histOf_congr (h : t.host.hist = s.host.hist) (r n : Nat) : t.histOf r n = s.histOf r n := by
  unfold histOf; rw [h]

/-- What completing a command does (R46, R52): the history holds its status, where ACCEPTED stands as PENDING; nothing
outside the HOST island and its counters changes. -/
theorem complete_spec (x : Ctx) (st r : Nat) :
    Loud completeIds s (s.complete x st r) ∧
      (s.complete x st r).answer x = some (if st = St.ACCEPTED then St.PENDING else st) := by
  unfold complete
  rcases h : s.issueSeq with ⟨n, s'⟩
  have hq : Quiet [R.HOST_SYNC_GLOBAL_DEV_SEQ_HIGH.id] s s' := by have := (quiet_issueSeq (s := s)).1; rwa [h] at this
  simp only
  refine ⟨?_, ?_⟩
  · exact (((((hq.loud.trans (quiet_settleInfl _ _ _).loud).trans (quiet_creditBack _).1.loud).trans (loud_setHist _ _ _ _)).trans
      (quiet_syncCompleted _).loud).trans (quiet_writeCompletion _ _).loud).mono (by simp [completeIds])
  · simp only [answer]
    rw [histOf_congr (quiet_writeCompletion _ _).hist, histOf_congr (quiet_syncCompleted _).hist, histOf_setHist]
    rfl

theorem told_congr (h : t.host.journal = s.host.journal) : t.told = s.told := by unfold told; rw [h]

@[simp] theorem syncCompleted_told (r : Nat) : (s.syncCompleted r).told = s.told := by
  unfold syncCompleted
  exact told_congr (congrArg HostSt.journal (wr_host _ _ _))
@[simp] theorem setHist_told (r n st d : Nat) : (s.setHist r n st d).told = s.told := told_congr (by unfold setHist; rfl)
@[simp] theorem settleInfl_told (r n : Nat) (a : Bool) : (s.settleInfl r n a).told = s.told := told_congr (by unfold settleInfl; rfl)

theorem attached_of_regs {ids : List Nat} (h : RegsBut ids s t) (hi : R.HOST_CTRL_DETACHED.id ∉ ids) : t.attached = s.attached := by
  unfold attached flag
  rw [h _ _ hi]

/-- While attached, a completion raises no event. -/
theorem complete_told (x : Ctx) (st r : Nat) (h : s.attached = true) : (s.complete x st r).told = s.told := by
  unfold complete
  rcases he : s.issueSeq with ⟨n, s'⟩
  have hq : Quiet [R.HOST_SYNC_GLOBAL_DEV_SEQ_HIGH.id] s s' := by have := (quiet_issueSeq (s := s)).1; rwa [he] at this
  have ht : s'.told = s.told := by have := (quiet_issueSeq (s := s)).2; rwa [he] at this
  simp only
  rw [writeCompletion_told]
  · rw [syncCompleted_told, setHist_told, (quiet_creditBack _).2, settleInfl_told, ht]
  · have := attached_of_regs ((((hq.loud.trans (quiet_settleInfl x.ring x.seq (st == St.ACCEPTED)).loud).trans
      (quiet_creditBack ((Option.map (fun e => e.credit) (s'.findInfl x.ring x.seq)).getD none)).1.loud).trans
      (loud_setHist x.ring x.seq (if st = St.ACCEPTED then St.PENDING else st) n)).trans
      (quiet_syncCompleted x.ring).loud).regs (by decide)
    rw [this, h]

/-- What finalising an accepted command does (R52). -/
theorem finalise_spec (x : Ctx) (st : Nat) :
    Loud [] s (s.finalise x st) ∧ (s.finalise x st).answer x = some st ∧ (s.finalise x st).told = s.told :=
  ⟨((quiet_settleInfl _ _ _).loud.trans (loud_setHist _ _ _ _)).mono (by simp),
    by simp [answer, finalise, histOf_setHist], rfl⟩

/-! The other parts under `raise`. -/

@[simp] theorem raise_pending (c i : Nat) (p : List Nat) : (s.raise c i p).pending = s.pending := (raise_spec c i p).1.only.pending
@[simp] theorem raise_mtb (c i : Nat) (p : List Nat) : (s.raise c i p).mtb = s.mtb := (raise_spec c i p).1.only.mtb
@[simp] theorem raise_mtbAcc (c i : Nat) (p : List Nat) : (s.raise c i p).mtbAcc = s.mtbAcc := (raise_spec c i p).1.only.mtbAcc
@[simp] theorem raise_fresh (c i : Nat) (p : List Nat) : (s.raise c i p).fresh = s.fresh := (raise_spec c i p).1.only.fresh
@[simp] theorem raise_phase (c i : Nat) (p : List Nat) : (s.raise c i p).phase = s.phase := (raise_spec c i p).1.only.phase
@[simp] theorem raise_settings (c i : Nat) (p : List Nat) : (s.raise c i p).settings = s.settings := (raise_spec c i p).1.only.settings
@[simp] theorem raise_arch (c i : Nat) (p : List Nat) : (s.raise c i p).arch = s.arch := (raise_spec c i p).1.only.arch
@[simp] theorem raise_cask (c i : Nat) (p : List Nat) : (s.raise c i p).cask = s.cask := (raise_spec c i p).1.only.cask
@[simp] theorem raise_out (c i : Nat) (p : List Nat) : (s.raise c i p).out = s.out := (raise_spec c i p).1.only.out
@[simp] theorem raise_safe (c i : Nat) (p : List Nat) : (s.raise c i p).safe = s.safe := (raise_spec c i p).1.only.safe
@[simp] theorem raise_afe (c i : Nat) (p : List Nat) : (s.raise c i p).afe = s.afe := (raise_spec c i p).1.only.afe
@[simp] theorem raise_filt (c i : Nat) (p : List Nat) : (s.raise c i p).filt = s.filt := (raise_spec c i p).1.only.filt
@[simp] theorem raise_met (c i : Nat) (p : List Nat) : (s.raise c i p).met = s.met := (raise_spec c i p).1.only.met
@[simp] theorem raise_ledger (c i : Nat) (p : List Nat) : (s.raise c i p).ledger = s.ledger := (raise_spec c i p).1.only.ledger
@[simp] theorem raise_key (c i : Nat) (p : List Nat) : (s.raise c i p).key = s.key := (raise_spec c i p).1.only.key
@[simp] theorem raise_plc (c i : Nat) (p : List Nat) : (s.raise c i p).plc = s.plc := (raise_spec c i p).1.only.plc
@[simp] theorem raise_tag (c i : Nat) (p : List Nat) : (s.raise c i p).tag = s.tag := (raise_spec c i p).1.only.tag
@[simp] theorem raise_disp (c i : Nat) (p : List Nat) : (s.raise c i p).disp = s.disp := (raise_spec c i p).1.only.disp
@[simp] theorem raise_lsw (c i : Nat) (p : List Nat) : (s.raise c i p).lsw = s.lsw := (raise_spec c i p).1.only.lsw
@[simp] theorem raise_upd (c i : Nat) (p : List Nat) : (s.raise c i p).upd = s.upd := (raise_spec c i p).1.only.upd
@[simp] theorem raise_twin (c i : Nat) (p : List Nat) : (s.raise c i p).twin = s.twin := (raise_spec c i p).1.only.twin
@[simp] theorem raise_pwr (c i : Nat) (p : List Nat) : (s.raise c i p).pwr = s.pwr := (raise_spec c i p).1.only.pwr
theorem raise_rd (c i : Nat) (p : List Nat) (G : Fld) (m : Nat) (h : G.id ∉ raiseIds) : (s.raise c i p).rd G m = s.rd G m := (raise_spec c i p).1.regs G m h
@[simp] theorem raise_destroys (c i : Nat) (p : List Nat) : (s.raise c i p).host.destroys = s.host.destroys := (raise_spec c i p).1.destroys

/-! The other parts under `complete`. -/

@[simp] theorem complete_pending (x : Ctx) (st r : Nat) : (s.complete x st r).pending = s.pending := (complete_spec x st r).1.only.pending
@[simp] theorem complete_mtb (x : Ctx) (st r : Nat) : (s.complete x st r).mtb = s.mtb := (complete_spec x st r).1.only.mtb
@[simp] theorem complete_mtbAcc (x : Ctx) (st r : Nat) : (s.complete x st r).mtbAcc = s.mtbAcc := (complete_spec x st r).1.only.mtbAcc
@[simp] theorem complete_fresh (x : Ctx) (st r : Nat) : (s.complete x st r).fresh = s.fresh := (complete_spec x st r).1.only.fresh
@[simp] theorem complete_phase (x : Ctx) (st r : Nat) : (s.complete x st r).phase = s.phase := (complete_spec x st r).1.only.phase
@[simp] theorem complete_settings (x : Ctx) (st r : Nat) : (s.complete x st r).settings = s.settings := (complete_spec x st r).1.only.settings
@[simp] theorem complete_arch (x : Ctx) (st r : Nat) : (s.complete x st r).arch = s.arch := (complete_spec x st r).1.only.arch
@[simp] theorem complete_cask (x : Ctx) (st r : Nat) : (s.complete x st r).cask = s.cask := (complete_spec x st r).1.only.cask
@[simp] theorem complete_out (x : Ctx) (st r : Nat) : (s.complete x st r).out = s.out := (complete_spec x st r).1.only.out
@[simp] theorem complete_safe (x : Ctx) (st r : Nat) : (s.complete x st r).safe = s.safe := (complete_spec x st r).1.only.safe
@[simp] theorem complete_afe (x : Ctx) (st r : Nat) : (s.complete x st r).afe = s.afe := (complete_spec x st r).1.only.afe
@[simp] theorem complete_filt (x : Ctx) (st r : Nat) : (s.complete x st r).filt = s.filt := (complete_spec x st r).1.only.filt
@[simp] theorem complete_met (x : Ctx) (st r : Nat) : (s.complete x st r).met = s.met := (complete_spec x st r).1.only.met
@[simp] theorem complete_ledger (x : Ctx) (st r : Nat) : (s.complete x st r).ledger = s.ledger := (complete_spec x st r).1.only.ledger
@[simp] theorem complete_key (x : Ctx) (st r : Nat) : (s.complete x st r).key = s.key := (complete_spec x st r).1.only.key
@[simp] theorem complete_plc (x : Ctx) (st r : Nat) : (s.complete x st r).plc = s.plc := (complete_spec x st r).1.only.plc
@[simp] theorem complete_tag (x : Ctx) (st r : Nat) : (s.complete x st r).tag = s.tag := (complete_spec x st r).1.only.tag
@[simp] theorem complete_disp (x : Ctx) (st r : Nat) : (s.complete x st r).disp = s.disp := (complete_spec x st r).1.only.disp
@[simp] theorem complete_lsw (x : Ctx) (st r : Nat) : (s.complete x st r).lsw = s.lsw := (complete_spec x st r).1.only.lsw
@[simp] theorem complete_upd (x : Ctx) (st r : Nat) : (s.complete x st r).upd = s.upd := (complete_spec x st r).1.only.upd
@[simp] theorem complete_twin (x : Ctx) (st r : Nat) : (s.complete x st r).twin = s.twin := (complete_spec x st r).1.only.twin
@[simp] theorem complete_pwr (x : Ctx) (st r : Nat) : (s.complete x st r).pwr = s.pwr := (complete_spec x st r).1.only.pwr
theorem complete_rd (x : Ctx) (st r : Nat) (G : Fld) (m : Nat) (h : G.id ∉ completeIds) : (s.complete x st r).rd G m = s.rd G m := (complete_spec x st r).1.regs G m h
@[simp] theorem complete_destroys (x : Ctx) (st r : Nat) : (s.complete x st r).host.destroys = s.host.destroys := (complete_spec x st r).1.destroys

/-! The other parts under `finalise`. -/

@[simp] theorem finalise_pending (x : Ctx) (st : Nat) : (s.finalise x st).pending = s.pending := (finalise_spec x st).1.only.pending
@[simp] theorem finalise_mtb (x : Ctx) (st : Nat) : (s.finalise x st).mtb = s.mtb := (finalise_spec x st).1.only.mtb
@[simp] theorem finalise_mtbAcc (x : Ctx) (st : Nat) : (s.finalise x st).mtbAcc = s.mtbAcc := (finalise_spec x st).1.only.mtbAcc
@[simp] theorem finalise_fresh (x : Ctx) (st : Nat) : (s.finalise x st).fresh = s.fresh := (finalise_spec x st).1.only.fresh
@[simp] theorem finalise_phase (x : Ctx) (st : Nat) : (s.finalise x st).phase = s.phase := (finalise_spec x st).1.only.phase
@[simp] theorem finalise_settings (x : Ctx) (st : Nat) : (s.finalise x st).settings = s.settings := (finalise_spec x st).1.only.settings
@[simp] theorem finalise_arch (x : Ctx) (st : Nat) : (s.finalise x st).arch = s.arch := (finalise_spec x st).1.only.arch
@[simp] theorem finalise_cask (x : Ctx) (st : Nat) : (s.finalise x st).cask = s.cask := (finalise_spec x st).1.only.cask
@[simp] theorem finalise_out (x : Ctx) (st : Nat) : (s.finalise x st).out = s.out := (finalise_spec x st).1.only.out
@[simp] theorem finalise_safe (x : Ctx) (st : Nat) : (s.finalise x st).safe = s.safe := (finalise_spec x st).1.only.safe
@[simp] theorem finalise_afe (x : Ctx) (st : Nat) : (s.finalise x st).afe = s.afe := (finalise_spec x st).1.only.afe
@[simp] theorem finalise_filt (x : Ctx) (st : Nat) : (s.finalise x st).filt = s.filt := (finalise_spec x st).1.only.filt
@[simp] theorem finalise_met (x : Ctx) (st : Nat) : (s.finalise x st).met = s.met := (finalise_spec x st).1.only.met
@[simp] theorem finalise_ledger (x : Ctx) (st : Nat) : (s.finalise x st).ledger = s.ledger := (finalise_spec x st).1.only.ledger
@[simp] theorem finalise_key (x : Ctx) (st : Nat) : (s.finalise x st).key = s.key := (finalise_spec x st).1.only.key
@[simp] theorem finalise_plc (x : Ctx) (st : Nat) : (s.finalise x st).plc = s.plc := (finalise_spec x st).1.only.plc
@[simp] theorem finalise_tag (x : Ctx) (st : Nat) : (s.finalise x st).tag = s.tag := (finalise_spec x st).1.only.tag
@[simp] theorem finalise_disp (x : Ctx) (st : Nat) : (s.finalise x st).disp = s.disp := (finalise_spec x st).1.only.disp
@[simp] theorem finalise_lsw (x : Ctx) (st : Nat) : (s.finalise x st).lsw = s.lsw := (finalise_spec x st).1.only.lsw
@[simp] theorem finalise_upd (x : Ctx) (st : Nat) : (s.finalise x st).upd = s.upd := (finalise_spec x st).1.only.upd
@[simp] theorem finalise_twin (x : Ctx) (st : Nat) : (s.finalise x st).twin = s.twin := (finalise_spec x st).1.only.twin
@[simp] theorem finalise_pwr (x : Ctx) (st : Nat) : (s.finalise x st).pwr = s.pwr := (finalise_spec x st).1.only.pwr
@[simp] theorem finalise_rd (x : Ctx) (st : Nat) (G : Fld) (m : Nat) : (s.finalise x st).rd G m = s.rd G m := (finalise_spec x st).1.regs G m (by simp)
@[simp] theorem finalise_destroys (x : Ctx) (st : Nat) : (s.finalise x st).host.destroys = s.host.destroys := (finalise_spec x st).1.destroys

/-! The other parts under `alert`. -/

@[simp] theorem alert_pending (F : Fld) : (s.alert F).pending = s.pending := (quiet_alert F).only.pending
@[simp] theorem alert_mtb (F : Fld) : (s.alert F).mtb = s.mtb := (quiet_alert F).only.mtb
@[simp] theorem alert_mtbAcc (F : Fld) : (s.alert F).mtbAcc = s.mtbAcc := (quiet_alert F).only.mtbAcc
@[simp] theorem alert_fresh (F : Fld) : (s.alert F).fresh = s.fresh := (quiet_alert F).only.fresh
@[simp] theorem alert_phase (F : Fld) : (s.alert F).phase = s.phase := (quiet_alert F).only.phase
@[simp] theorem alert_settings (F : Fld) : (s.alert F).settings = s.settings := (quiet_alert F).only.settings
@[simp] theorem alert_arch (F : Fld) : (s.alert F).arch = s.arch := (quiet_alert F).only.arch
@[simp] theorem alert_cask (F : Fld) : (s.alert F).cask = s.cask := (quiet_alert F).only.cask
@[simp] theorem alert_out (F : Fld) : (s.alert F).out = s.out := (quiet_alert F).only.out
@[simp] theorem alert_safe (F : Fld) : (s.alert F).safe = s.safe := (quiet_alert F).only.safe
@[simp] theorem alert_afe (F : Fld) : (s.alert F).afe = s.afe := (quiet_alert F).only.afe
@[simp] theorem alert_filt (F : Fld) : (s.alert F).filt = s.filt := (quiet_alert F).only.filt
@[simp] theorem alert_met (F : Fld) : (s.alert F).met = s.met := (quiet_alert F).only.met
@[simp] theorem alert_ledger (F : Fld) : (s.alert F).ledger = s.ledger := (quiet_alert F).only.ledger
@[simp] theorem alert_key (F : Fld) : (s.alert F).key = s.key := (quiet_alert F).only.key
@[simp] theorem alert_plc (F : Fld) : (s.alert F).plc = s.plc := (quiet_alert F).only.plc
@[simp] theorem alert_tag (F : Fld) : (s.alert F).tag = s.tag := (quiet_alert F).only.tag
@[simp] theorem alert_disp (F : Fld) : (s.alert F).disp = s.disp := (quiet_alert F).only.disp
@[simp] theorem alert_lsw (F : Fld) : (s.alert F).lsw = s.lsw := (quiet_alert F).only.lsw
@[simp] theorem alert_upd (F : Fld) : (s.alert F).upd = s.upd := (quiet_alert F).only.upd
@[simp] theorem alert_twin (F : Fld) : (s.alert F).twin = s.twin := (quiet_alert F).only.twin
@[simp] theorem alert_pwr (F : Fld) : (s.alert F).pwr = s.pwr := (quiet_alert F).only.pwr
theorem alert_rd (F : Fld) (G : Fld) (m : Nat) (h : G.id ∉ [F.id]) : (s.alert F).rd G m = s.rd G m := (quiet_alert F).regs G m h
@[simp] theorem alert_destroys (F : Fld) : (s.alert F).host.destroys = s.host.destroys := (quiet_alert F).destroys

/-! The other parts under `irq`. -/

@[simp] theorem irq_pending (v : Nat) : (s.irq v).pending = s.pending := (quiet_irq v).only.pending
@[simp] theorem irq_mtb (v : Nat) : (s.irq v).mtb = s.mtb := (quiet_irq v).only.mtb
@[simp] theorem irq_mtbAcc (v : Nat) : (s.irq v).mtbAcc = s.mtbAcc := (quiet_irq v).only.mtbAcc
@[simp] theorem irq_fresh (v : Nat) : (s.irq v).fresh = s.fresh := (quiet_irq v).only.fresh
@[simp] theorem irq_phase (v : Nat) : (s.irq v).phase = s.phase := (quiet_irq v).only.phase
@[simp] theorem irq_settings (v : Nat) : (s.irq v).settings = s.settings := (quiet_irq v).only.settings
@[simp] theorem irq_arch (v : Nat) : (s.irq v).arch = s.arch := (quiet_irq v).only.arch
@[simp] theorem irq_cask (v : Nat) : (s.irq v).cask = s.cask := (quiet_irq v).only.cask
@[simp] theorem irq_out (v : Nat) : (s.irq v).out = s.out := (quiet_irq v).only.out
@[simp] theorem irq_safe (v : Nat) : (s.irq v).safe = s.safe := (quiet_irq v).only.safe
@[simp] theorem irq_afe (v : Nat) : (s.irq v).afe = s.afe := (quiet_irq v).only.afe
@[simp] theorem irq_filt (v : Nat) : (s.irq v).filt = s.filt := (quiet_irq v).only.filt
@[simp] theorem irq_met (v : Nat) : (s.irq v).met = s.met := (quiet_irq v).only.met
@[simp] theorem irq_ledger (v : Nat) : (s.irq v).ledger = s.ledger := (quiet_irq v).only.ledger
@[simp] theorem irq_key (v : Nat) : (s.irq v).key = s.key := (quiet_irq v).only.key
@[simp] theorem irq_plc (v : Nat) : (s.irq v).plc = s.plc := (quiet_irq v).only.plc
@[simp] theorem irq_tag (v : Nat) : (s.irq v).tag = s.tag := (quiet_irq v).only.tag
@[simp] theorem irq_disp (v : Nat) : (s.irq v).disp = s.disp := (quiet_irq v).only.disp
@[simp] theorem irq_lsw (v : Nat) : (s.irq v).lsw = s.lsw := (quiet_irq v).only.lsw
@[simp] theorem irq_upd (v : Nat) : (s.irq v).upd = s.upd := (quiet_irq v).only.upd
@[simp] theorem irq_twin (v : Nat) : (s.irq v).twin = s.twin := (quiet_irq v).only.twin
@[simp] theorem irq_pwr (v : Nat) : (s.irq v).pwr = s.pwr := (quiet_irq v).only.pwr
@[simp] theorem irq_rd (v : Nat) (G : Fld) (m : Nat) : (s.irq v).rd G m = s.rd G m := (quiet_irq v).regs G m (by simp)
@[simp] theorem irq_destroys (v : Nat) : (s.irq v).host.destroys = s.host.destroys := (quiet_irq v).destroys

@[simp] theorem raise_told (c i : Nat) (p : List Nat) : (s.raise c i p).told = some (c, i, p) := (raise_spec c i p).2
@[simp] theorem finalise_told (x : Ctx) (st : Nat) : (s.finalise x st).told = s.told := (finalise_spec x st).2.2
@[simp] theorem complete_answer (x : Ctx) (st r : Nat) :
    (s.complete x st r).answer x = some (if st = St.ACCEPTED then St.PENDING else st) := (complete_spec x st r).2
@[simp] theorem finalise_answer (x : Ctx) (st : Nat) : (s.finalise x st).answer x = some st := (finalise_spec x st).2.1
@[simp] theorem wr_told (F : Fld) (n v : Nat) : (s.wr F n v).told = s.told := told_congr rfl

theorem rd_wr_ne (F G : Fld) (n m v : Nat) (h : G.id ≠ F.id) : (s.wr F n v).rd G m = s.rd G m := rd_wr_other _ _ _ _ _ (.inl h)

theorem flag_wr_same (F : Fld) (n v : Nat) : (s.wr F n v).flag F n = (trunc F.w v != 0) := by simp [flag]
theorem flag_wr_ne (F G : Fld) (n m v : Nat) (h : G.id ≠ F.id) : (s.wr F n v).flag G m = s.flag G m := by
  unfold flag; rw [rd_wr_ne _ _ _ _ _ h]
theorem raise_flag (c i : Nat) (p : List Nat) (G : Fld) (m : Nat) (h : G.id ∉ raiseIds) : (s.raise c i p).flag G m = s.flag G m := by
  unfold flag; rw [raise_rd _ _ _ _ _ h]
theorem complete_flag (x : Ctx) (st r : Nat) (G : Fld) (m : Nat) (h : G.id ∉ completeIds) :
    (s.complete x st r).flag G m = s.flag G m := by
  unfold flag; rw [complete_rd _ _ _ _ _ h]

/-- The module keeps running, and the host attached, through writes, events and completions. -/
@[simp] theorem wr_up (F : Fld) (n v : Nat) : (s.wr F n v).up = s.up := rfl
@[simp] theorem raise_up (c i : Nat) (p : List Nat) : (s.raise c i p).up = s.up := by unfold up; rw [raise_phase]
@[simp] theorem complete_up (x : Ctx) (st r : Nat) : (s.complete x st r).up = s.up := by unfold up; rw [complete_phase]
@[simp] theorem raise_attached (c i : Nat) (p : List Nat) : (s.raise c i p).attached = s.attached := by
  unfold attached; rw [raise_flag _ _ _ _ _ (by decide)]
@[simp] theorem complete_attached (x : Ctx) (st r : Nat) : (s.complete x st r).attached = s.attached := by
  unfold attached; rw [complete_flag _ _ _ _ _ (by decide)]
theorem wr_attached (F : Fld) (n v : Nat) (h : R.HOST_CTRL_DETACHED.id ≠ F.id) : (s.wr F n v).attached = s.attached := by
  unfold attached; rw [flag_wr_ne _ _ _ _ _ h]

/-! ### The MTB -/

theorem advance_eq (s : State) (k : Nat) :
    s.advance k = { s with mtb := (s.advance k).mtb, mtbAcc := (s.advance k).mtbAcc } := by
  unfold advance; split <;> rfl

@[simp] theorem advance_rd (k : Nat) (F : Fld) (n : Nat) : (s.advance k).rd F n = s.rd F n := by rw [advance_eq]; rfl
@[simp] theorem advance_flag (k : Nat) (F : Fld) (n : Nat) : (s.advance k).flag F n = s.flag F n := by rw [advance_eq]; rfl
@[simp] theorem advance_up (k : Nat) : (s.advance k).up = s.up := by rw [advance_eq]; rfl
@[simp] theorem advance_core (k : Nat) : (s.advance k).core = s.core := by rw [advance_eq]; rfl
@[simp] theorem advance_regs (k : Nat) : (s.advance k).regs = s.regs := by rw [advance_eq]
@[simp] theorem advance_pending (k : Nat) : (s.advance k).pending = s.pending := by rw [advance_eq]
@[simp] theorem advance_fresh (k : Nat) : (s.advance k).fresh = s.fresh := by rw [advance_eq]
@[simp] theorem advance_phase (k : Nat) : (s.advance k).phase = s.phase := by rw [advance_eq]
@[simp] theorem advance_settings (k : Nat) : (s.advance k).settings = s.settings := by rw [advance_eq]
@[simp] theorem advance_host (k : Nat) : (s.advance k).host = s.host := by rw [advance_eq]
@[simp] theorem advance_arch (k : Nat) : (s.advance k).arch = s.arch := by rw [advance_eq]
@[simp] theorem advance_cask (k : Nat) : (s.advance k).cask = s.cask := by rw [advance_eq]
@[simp] theorem advance_out (k : Nat) : (s.advance k).out = s.out := by rw [advance_eq]
@[simp] theorem advance_safe (k : Nat) : (s.advance k).safe = s.safe := by rw [advance_eq]
@[simp] theorem advance_afe (k : Nat) : (s.advance k).afe = s.afe := by rw [advance_eq]
@[simp] theorem advance_filt (k : Nat) : (s.advance k).filt = s.filt := by rw [advance_eq]
@[simp] theorem advance_met (k : Nat) : (s.advance k).met = s.met := by rw [advance_eq]
@[simp] theorem advance_ledger (k : Nat) : (s.advance k).ledger = s.ledger := by rw [advance_eq]
@[simp] theorem advance_key (k : Nat) : (s.advance k).key = s.key := by rw [advance_eq]
@[simp] theorem advance_plc (k : Nat) : (s.advance k).plc = s.plc := by rw [advance_eq]
@[simp] theorem advance_tag (k : Nat) : (s.advance k).tag = s.tag := by rw [advance_eq]
@[simp] theorem advance_disp (k : Nat) : (s.advance k).disp = s.disp := by rw [advance_eq]
@[simp] theorem advance_lsw (k : Nat) : (s.advance k).lsw = s.lsw := by rw [advance_eq]
@[simp] theorem advance_upd (k : Nat) : (s.advance k).upd = s.upd := by rw [advance_eq]
@[simp] theorem advance_twin (k : Nat) : (s.advance k).twin = s.twin := by rw [advance_eq]
@[simp] theorem advance_pwr (k : Nat) : (s.advance k).pwr = s.pwr := by rw [advance_eq]

@[simp] theorem advance_attached (k : Nat) : (s.advance k).attached = s.attached := by unfold attached; rw [advance_flag]

/-! ### The start of a command -/

/-- Starting a command touches only the table of commands in flight (R44). -/
theorem start_eq (s : State) (x : Ctx) : s.start x = { s with host := (s.start x).host } := rfl

@[simp] theorem start_rd (x : Ctx) (F : Fld) (n : Nat) : (s.start x).rd F n = s.rd F n := rfl
@[simp] theorem start_flag (x : Ctx) (F : Fld) (n : Nat) : (s.start x).flag F n = s.flag F n := rfl
@[simp] theorem start_mtb (x : Ctx) : (s.start x).mtb = s.mtb := rfl
@[simp] theorem start_mtbAcc (x : Ctx) : (s.start x).mtbAcc = s.mtbAcc := rfl
@[simp] theorem start_pending (x : Ctx) : (s.start x).pending = s.pending := rfl
@[simp] theorem start_fresh (x : Ctx) : (s.start x).fresh = s.fresh := rfl
@[simp] theorem start_phase (x : Ctx) : (s.start x).phase = s.phase := rfl
@[simp] theorem start_settings (x : Ctx) : (s.start x).settings = s.settings := rfl
@[simp] theorem start_regs (x : Ctx) : (s.start x).regs = s.regs := rfl
@[simp] theorem start_arch (x : Ctx) : (s.start x).arch = s.arch := rfl
@[simp] theorem start_cask (x : Ctx) : (s.start x).cask = s.cask := rfl
@[simp] theorem start_out (x : Ctx) : (s.start x).out = s.out := rfl
@[simp] theorem start_safe (x : Ctx) : (s.start x).safe = s.safe := rfl
@[simp] theorem start_afe (x : Ctx) : (s.start x).afe = s.afe := rfl
@[simp] theorem start_filt (x : Ctx) : (s.start x).filt = s.filt := rfl
@[simp] theorem start_met (x : Ctx) : (s.start x).met = s.met := rfl
@[simp] theorem start_ledger (x : Ctx) : (s.start x).ledger = s.ledger := rfl
@[simp] theorem start_key (x : Ctx) : (s.start x).key = s.key := rfl
@[simp] theorem start_plc (x : Ctx) : (s.start x).plc = s.plc := rfl
@[simp] theorem start_tag (x : Ctx) : (s.start x).tag = s.tag := rfl
@[simp] theorem start_disp (x : Ctx) : (s.start x).disp = s.disp := rfl
@[simp] theorem start_lsw (x : Ctx) : (s.start x).lsw = s.lsw := rfl
@[simp] theorem start_upd (x : Ctx) : (s.start x).upd = s.upd := rfl
@[simp] theorem start_twin (x : Ctx) : (s.start x).twin = s.twin := rfl
@[simp] theorem start_pwr (x : Ctx) : (s.start x).pwr = s.pwr := rfl
@[simp] theorem start_up (x : Ctx) : (s.start x).up = s.up := rfl
@[simp] theorem start_core (x : Ctx) : (s.start x).core = s.core := rfl
@[simp] theorem start_attached (x : Ctx) : (s.start x).attached = s.attached := rfl
@[simp] theorem start_told (x : Ctx) : (s.start x).told = s.told := rfl
@[simp] theorem start_destroys (x : Ctx) : (s.start x).host.destroys = s.host.destroys := rfl

/-! ### Ring commands -/

theorem settleDestroys_nil (h : s.host.destroys = []) : s.settleDestroys = s := by
  unfold settleDestroys forEach; rw [h]; rfl

theorem takes_up {x : Ctx} {op inst : Nat} (h : s.takes x op inst = true) : s.up = true := by
  simp only [takes, Bool.and_eq_true] at h
  exact h.1.1.1.1.1.1

theorem takes_destroys {x : Ctx} {op inst : Nat} (h : s.takes x op inst = true) : s.host.destroys = [] := by
  simp only [takes, Bool.and_eq_true, List.isEmpty_iff] at h
  exact h.2

theorem complete_settle (x : Ctx) (st r : Nat) (h : s.host.destroys = []) :
    (s.complete x st r).settleDestroys = s.complete x st r :=
  settleDestroys_nil (by rw [complete_destroys, h])

/-- A ring command that is taken, and whose resource no Cask holds and no disabled function owns, has the effect of its
function once it has started. -/
theorem command_takes {x : Ctx} {op inst : Nat} {act : Option CaskAct} {f : State → State} (h : s.takes x op inst = true)
    (ha : ∀ a, act = some a → s.heldBy 16 a = none ∧ s.actDisabled act = false) :
    s.command x op inst act f = (f ((s.advance x.t).start x)).settleDestroys := by
  simp only [takes, Bool.and_eq_true, Bool.not_eq_true', beq_iff_eq, Bool.and_eq_false_iff, List.isEmpty_iff,
    beq_eq_false_iff_ne] at h
  obtain ⟨⟨⟨⟨⟨⟨hu, hs⟩, hf⟩, hg⟩, hk⟩, hm⟩, _⟩ := h
  have e1 : (s.advance x.t).fenced x = false := by rw [← hf]; simp only [fenced, advance_host]
  have e2 : (s.advance x.t).startable x op = true := by rw [← hs]; simp only [startable, findInfl, advance_host]
  have e3 : ((s.advance x.t).start x).gate x op inst = none := by rw [← hg, advance_eq]; rfl
  have e4 : (if stoppedInMeter (op / 256) = true then ((s.advance x.t).start x).wakeRun 3 else (s.advance x.t).start x)
      = (s.advance x.t).start x := by
    split
    · rename_i h'
      unfold wakeRun
      rw [start_rd, advance_rd, if_neg]
      rcases hm with hm | hm
      · rw [h'] at hm; exact absurd hm (by decide)
      · exact hm
    · rfl
  unfold command
  simp only [advance_up, hu, e1, e2, e3, e4, Bool.not_true, Bool.false_or, Bool.false_eq_true, if_false]
  cases act with
  | none => rfl
  | some a =>
    obtain ⟨h1, h2⟩ := ha a rfl
    have k1 : ((s.advance x.t).start x).heldBy 16 a = none := by rw [← h1, advance_eq]; rfl
    have k2 : ((s.advance x.t).start x).actDisabled (some a) = false := by rw [← h2, advance_eq]; rfl
    simp only [hk, k1, k2, bne_self_eq_false, Bool.false_eq_true, if_false]

/-- Whether a command is taken does not depend on the MTB. -/
theorem advance_takes (k : Nat) (x : Ctx) (op inst : Nat) : (s.advance k).takes x op inst = s.takes x op inst := by
  have e : (s.advance k).gate x op inst = s.gate x op inst := by rw [advance_eq]; rfl
  simp only [takes, advance_up, e, advance_rd, advance_host, fenced, startable, findInfl]

theorem advance_advance_up {k : Nat} (h : (s.advance k).up = true) : s.up = true := by rwa [advance_up] at h

/-- As `command_takes`, for the state at the command's instant. -/
theorem command_taken {x : Ctx} {op inst : Nat} {act : Option CaskAct} {f : State → State}
    (h : (s.advance x.t).takes x op inst = true)
    (ha : ∀ a, act = some a → (s.advance x.t).heldBy 16 a = none ∧ (s.advance x.t).actDisabled act = false) :
    s.command x op inst act f = (f ((s.advance x.t).start x)).settleDestroys :=
  command_takes (by rwa [advance_takes] at h) fun a e => by
    have k := ha a e
    rw [advance_eq] at k
    exact k

end State
end Sys2Proof.Machine
end

