-- ==== Sys2Proof/Laws/Outcome.lean ====
section
/-! SUPPORT. How a command answers once it can act: the state of the meaning's own function, named once for each of the
four shapes of a meaning, so that a proof about one command starts at that function. -/

namespace Sys2Proof.Machine

/-- An event of the running module answers with its own function's state. -/
theorem onEvent_next {s : State} {t : Nat} {f : State → State} {u : State} (a : State) (ha : a = s.advance t)
    (h : a.up = true) (e : f a = u) : (Host.Outcome.next (onEvent s t f) : Host.Outcome State Fault Refusal) = .next u := by
  subst ha; simp only [onEvent, h, if_true, e]

/-- An event of the core domain answers with its own function's state. -/
theorem onCore_next {s : State} {t : Nat} {f : State → State} {u : State} (a : State) (ha : a = s.advance t)
    (h : a.core = true) (e : f a = u) : (Host.Outcome.next (onCore s t f) : Host.Outcome State Fault Refusal) = .next u := by
  subst ha; simp only [onCore, h, if_true, e]

/-- A ring command that is no Cask action answers with its own function's state from where it has started, once it is
taken. -/
theorem command_next {s : State} {x : Ctx} {op inst : Nat} {f : State → State} {u : State} (a : State)
    (hx : a = s.advance x.t) (h : a.takes x op inst = true) (e : (f (a.start x)).settleDestroys = u) :
    (Host.Outcome.next (s.command x op inst none f) : Host.Outcome State Fault Refusal) = .next u := by
  subst hx; rw [State.command_taken h (fun _ k => by simp at k), e]

/-- A ring command that a Cask could stage answers so too, once it is taken, no Cask holds its resource and no function
it acts on is disabled. -/
theorem command_act_next {s : State} {x : Ctx} {op inst : Nat} {ac : CaskAct} {f : State → State} {u : State} (a : State)
    (hx : a = s.advance x.t) (h : a.takes x op inst = true) (ha : a.heldBy 16 ac = none)
    (hd : a.actDisabled (some ac) = false) (e : (f (a.start x)).settleDestroys = u) :
    (Host.Outcome.next (s.command x op inst (some ac) f) : Host.Outcome State Fault Refusal) = .next u := by
  subst hx; rw [State.command_taken h (fun _ k => by cases k; exact ⟨ha, hd⟩), e]

end Sys2Proof.Machine
end

