-- ==== Sys2Proof/WellFormed.lean ====
section
/-! DEFINITION. Which commands are well formed: a ring command's descriptor fields fit their widths (table Command descriptor), an event
names an instant of the 64-bit MTB and an instance that exists. The meanings do not assume it: a ring command whose
operands are out of range completes with the status its rule gives. -/

namespace Sys2Proof

/-- The descriptor fields of a ring command fit their widths (table Command descriptor): ring id, sequence number, tag,
flags, Cask id; and its instant is one of the MTB. -/
def Ctx.ok (x : Ctx) : Bool :=
  decide (x.t < 2 ^ 64) && decide (x.ring < 16) && decide (x.seq < 2 ^ 32) && decide (x.tag < 2 ^ 64)
    && decide (x.flags < 256) && decide (x.cask < 256)

/-- A number lies below a bound. -/
def below (n k : Nat) : Bool := decide (n < k)

/-- An instant of the 64-bit MTB (R20). -/
def instantOk (t : Nat) : Bool := below t (2 ^ 64)

/-- Modulator codes are ones the channel's source can emit (R209): −8 to +7 inside, −1 and +1 on the MBS inputs. -/
def feedOk (f : Feed) : Bool :=
  below f.chan 64 && (f.codes ++ f.early ++ f.late).all fun x =>
    if f.chan < 48 then decide (-8 ≤ x) && decide (x ≤ 7) else x == -1 || x == 1

/-- The instance numbers of a Cask action fit the bytes of its descriptor. -/
def actOk : CaskAct → Bool
  | .metOpen m _ => decide (m < 256)
  | .metClose m => decide (m < 256)
  | .readSigned mask => decide (mask < 2 ^ 16)
  | _ => true

/-- A command is well formed. -/
def Instr.wellFormed : Instr → Bool
  | .islandCrossing t target _ _ => instantOk t && below target 14
  | .linkTimeout t src dst _ _ => instantOk t && below src 14 && below dst 14
  | .rtcSecondEdge t => instantOk t
  | .controlCycleStart t feed => instantOk t && feed.all feedOk
  | .outputStagingDeadline t _ => instantOk t
  | .aCheckDeadline t _ => instantOk t
  | .configRequest t _ => instantOk t
  | .perstRelease t => instantOk t
  | .hostDetach t _ => instantOk t
  | .hostAttach t => instantOk t
  | .ringRegisterWrite t _ i _ => instantOk t && below i 16
  | .doorbellPoll t _ _ _ _ _ _ => instantOk t
  | .kick t _ _ _ _ => instantOk t
  | .stopCompletionRelease t => instantOk t
  | .evrGap t j => instantOk t && below j 8
  | .notifDataRead t _ => instantOk t
  | .latchingRead t _ _ _ => instantOk t
  | .streamBufferFill t src _ _ => instantOk t && below src 64
  | .ringCreate x _ i _ => x.ok && below i 256
  | .ringDestroy x _ i => x.ok && below i 256
  | .journalFetch x first _ => x.ok && below first (2 ^ 64)
  | .statusQuery x ring first _ => x.ok && below ring 256 && below first (2 ^ 64)
  | .regWrite x off _ _ => x.ok && below off (2 ^ 32)
  | .echo x data => x.ok && below data.length 65537
  | .startUp t _ => instantOk t
  | .caskOpen x => x.ok
  | .caskAction x act => x.ok && actOk act
  | .caskPrepare x id _ => x.ok && below id (2 ^ 32)
  | .caskValidationDone t k => instantOk t && below k 16
  | .caskCommit x id mode _ => x.ok && below id (2 ^ 32) && below mode 256
  | .caskAbort x id => x.ok && below id (2 ^ 32)
  | .caskQuery x id => x.ok && below id (2 ^ 32)
  | .funcDisable x block inst => x.ok && below block 256 && below inst 256
  | .funcDisableDone t _ _ => instantOk t
  | .caskOpenTimeout t k => instantOk t && below k 16
  | .caskPreparedTimeout t k => instantOk t && below k 16
  | .caskRecordWrite t k _ => instantOk t && below k 16
  | .caskSyncEdge t _ _ => instantOk t
  | .caskSyncTimeout t k => instantOk t && below k 16
  | .caskRetract t k => instantOk t && below k 16
  | .caskApply t k _ _ => instantOk t && below k 16
  | .pilotStateAccept t n => instantOk t && below n 8
  | .pilotDiodeFault t n => instantOk t && below n 8
  | .pilotPwmPeriod t n _ _ => instantOk t && below n 8
  | .proximityRead t n _ => instantOk t && below n 8
  | .authTimeout t n => instantOk t && below n 8
  | .hlcMessage t n _ => instantOk t && below n 8
  | .hlcTimeout t n => instantOk t && below n 8
  | .slacParmReq t run _ => instantOk t && below run (2 ^ 64)
  | .startAttenChar t run => instantOk t && below run (2 ^ 64)
  | .mnbcSound t run _ => instantOk t && below run (2 ^ 64)
  | .slacWindowClose t => instantOk t
  | .slacValidate t run _ _ => instantOk t && below run (2 ^ 64)
  | .slacMatchReq t run _ => instantOk t && below run (2 ^ 64)
  | .slacMatchTimeout t run => instantOk t && below run (2 ^ 64)
  | .slacInitTimeout t n => instantOk t && below n 8
  | .preauthTimeout t => instantOk t
  | .pmStatusFrame t bus id _ => instantOk t && below bus 3 && below id (2 ^ 29)
  | .pmIdentFrame t bus id _ _ _ _ _ _ _ => instantOk t && below bus 3 && below id (2 ^ 29)
  | .pmFaultFrame t bus id _ _ => instantOk t && below bus 3 && below id (2 ^ 29)
  | .pmLost t n i => instantOk t && below n 8 && below i 8
  | .setpointSend t n => instantOk t && below n 8
  | .pmSyncSend t => instantOk t
  | .allocatorRun t => instantOk t
  | .trellisLimitExpiry t => instantOk t
  | .enforcementGraceEnd t n => instantOk t && below n 8
  | .allocMaxWait t n => instantOk t && below n 8
  | .outConfig x n _ _ => x.ok && below n 256
  | .outAvailability x n mode => x.ok && below n 256 && below mode 256
  | .sessionAuthorise x n kind ident => x.ok && below n 256 && below kind 256 && below ident.length 65537
  | .sessionStop x _ _ => x.ok
  | .outErem x _ _ => x.ok
  | .outSiteLimit x _ => x.ok
  | .sessionSetClass x n cls => x.ok && below n 256 && below cls 256
  | .sessionQuery x n => x.ok && below n 256
  | .outSelect x n => x.ok && below n 256
  | .outContactor x n _ => x.ok && below n 256
  | .outPilotDuty x n _ => x.ok && below n 256
  | .outPmSetpoint x n mode _ _ _ => x.ok && below n 256 && below mode 256
  | .outCertResponse x n _ data => x.ok && below n 256 && below data.length 65537
  | .hslCycle t _ _ => instantOk t
  | .hslTableCheck t _ => instantOk t
  | .hslWatchdogExpiry t => instantOk t
  | .bHeartbeat t _ => instantOk t
  | .bHeartbeatLoss t => instantOk t
  | .channelDiscrepancy t _ _ _ _ _ => instantOk t
  | .safetySelftestDone t => instantOk t
  | .coilPullinStart t k => instantOk t && below k 16
  | .coilPullinEnd t k => instantOk t && below k 16
  | .coilOpen t k _ _ => instantOk t && below k 16
  | .coilShort t k _ => instantOk t && below k 16
  | .weldCheck t n => instantOk t && below n 8
  | .shuntTripEnd t => instantOk t
  | .shuntTripRepeat t n => instantOk t && below n 8
  | .darkTestPulse t k _ _ _ => instantOk t && below k 16
  | .darkTestEnd t _ => instantOk t
  | .coilUncontrol t k => instantOk t && below k 16
  | .estopSourcePulse t _ _ _ => instantOk t
  | .estopOpen t _ _ => instantOk t
  | .estopDisc t => instantOk t
  | .safeInChange t m _ _ => instantOk t && below m 8
  | .rcmReading t i _ => instantOk t && below i 8
  | .rcmSelftestRun t n _ _ => instantOk t && below n 8
  | .rcmSensorRange t i => instantOk t && below i 8
  | .rcmPrewarn t n => instantOk t && below n 8
  | .imdResult t _ => instantOk t
  | .cableCheckTimeout t n => instantOk t && below n 8
  | .safeStatePilotEnd t n => instantOk t && below n 8
  | .resetSafeEdge t _ _ _ => instantOk t
  | .safeQuery x => x.ok
  | .safeTestNow x _ => x.ok
  | .rcmSelftest x n _ _ => x.ok && below n 256
  | .imdMeasure x n _ => x.ok && below n 256
  | .chOverload t c => instantOk t && below c 64
  | .mbsLost t c => instantOk t && below c 64
  | .mbsRestored t c => instantOk t && below c 64
  | .auxSeqDue t q => instantOk t && below q 8
  | .auxConversionDone t conv _ _ => instantOk t && below conv 2
  | .afeSeqLoad x q _ _ => x.ok && below q 256
  | .afeSeqEn x q on => x.ok && below q 256 && below on 256
  | .afeAuxOneshot x i conv _ _ _ _ => x.ok && below i 256 && below conv 256
  | .afeCalZero x i conv _ _ _ => x.ok && below i 256 && below conv 256
  | .afeCalSpan x i conv _ _ _ => x.ok && below i 256 && below conv 256
  | .afeCalRestore x i conv => x.ok && below i 256 && below conv 256
  | .afeCapture x _ _ _ => x.ok
  | .afeCaptureStop x _ _ => x.ok
  | .trkPeriod t m _ _ => instantOk t && below m 12
  | .trkCrossingTimeout t m => instantOk t && below m 12
  | .trkHoldExpiry t m => instantOk t && below m 12
  | .trkSourceAbsent t m => instantOk t && below m 12
  | .gridCycleStart t m => instantOk t && below m 12
  | .settlingEnd t c => instantOk t && below c 64
  | .blendStart t c => instantOk t && below c 64
  | .blendDone t c => instantOk t && below c 64
  | .filtQuery x c => x.ok && below c 256
  | .filtBlend x _ => x.ok
  | .trkQuery x m => x.ok && below m 256
  | .filtRestart x _ => x.ok
  | .metWindowEnd t m => instantOk t && below m 12
  | .demandSecondRecord t m => instantOk t && below m 12
  | .pqHalfCycle t m => instantOk t && below m 12
  | .pulseStart t k => instantOk t && below k 8
  | .pulseEnd t k => instantOk t && below k 8
  | .tcRead t _ => instantOk t
  | .metSessionCloseFinal t m => instantOk t && below m 12
  | .metCalMeasureDone t m => instantOk t && below m 12
  | .metQuery x m => x.ok && below m 256
  | .metSessionOpen x m _ => x.ok && below m 256
  | .metSessionClose x m => x.ok && below m 256
  | .metCalMeasure x m _ _ => x.ok && below m 256
  | .metCalApply x m ph _ _ _ _ => x.ok && below m 256 && below ph 256
  | .metPulseCfg x k _ => x.ok && below k 256
  | .metHarmRead x m ph _ => x.ok && below m 256 && below ph 256
  | .metWaveCapture x _ _ => x.ok
  | .metWaveStop x _ => x.ok
  | .ledgerCommit t _ => instantOk t
  | .recordSign t => instantOk t
  | .vfail t _ feed => instantOk t && feed.all feedOk
  | .vinReturn t _ => instantOk t
  | .converterRailFall t => instantOk t
  | .tariffSwitch t => instantOk t
  | .calendarActivate t => instantOk t
  | .demandBoundary t => instantOk t
  | .boundaryTransaction t => instantOk t
  | .syncWindowExpiry t => instantOk t
  | .sealIdle t => instantOk t
  | .legalSealChange t _ => instantOk t
  | .calExpiry t => instantOk t
  | .legalBtnPress t => instantOk t
  | .legalDisplayTimeout t => instantOk t
  | .ledgerQuery x m => x.ok && below m 256
  | .ledgerSessionRecord x n m op kind ident price reason =>
      x.ok && below n 256 && below m 256 && below op 256 && below kind 256 && below ident.length 65537 && below price (2 ^ 32) && below reason 256
  | .ledgerTariffSelect x _ tariff price => x.ok && below tariff 256 && below price (2 ^ 32)
  | .ledgerReadSigned x _ => x.ok
  | .ledgerRecordFetch x first _ _ => x.ok && below first (2 ^ 64)
  | .ledgerTimeSet x _ _ => x.ok
  | .ledgerCalendarLoad x _ _ => x.ok
  | .ledgerBillingClose x => x.ok
  | .ledgerBillingRead x k => x.ok && below k 256
  | .ledgerCalChallenge x => x.ok
  | .ledgerCalOpen x _ _ _ _ => x.ok
  | .ledgerCalClose x => x.ok
  | .ledgerLegalId x => x.ok
  | .ledgerAckLoss x => x.ok
  | .plcFrameRx t i agc _ _ _ => instantOk t && below i 10 && below agc 29
  | .superframeStart t => instantOk t
  | .beaconRx t _ _ _ _ _ _ => instantOk t
  | .syncInEdge t _ _ => instantOk t
  | .trellisTx t => instantOk t
  | .ack t _ _ _ => instantOk t
  | .trellisAckTimeout t => instantOk t
  | .joinReq t _ _ _ => instantOk t
  | .joinResult t _ _ _ => instantOk t
  | .lqReport t _ _ => instantOk t
  | .siteLimit t _ _ _ => instantOk t
  | .time t _ _ _ _ => instantOk t
  | .hostData t _ _ => instantOk t
  | .imageOffer t _ _ _ _ => instantOk t
  | .imageReq t _ _ _ => instantOk t
  | .imageBlock t _ _ _ _ _ _ => instantOk t
  | .imageBlockExpiry t => instantOk t
  | .trellisBeaconTimeout t => instantOk t
  | .trellisJoinTimeout t => instantOk t
  | .trellisJoinBackoffEnd t => instantOk t
  | .trellisNodeTimeout t n => instantOk t && below n 255
  | .lqReportSend t => instantOk t
  | .siteLimitRepeat t => instantOk t
  | .timeSend t => instantOk t
  | .imageOfferSend t => instantOk t
  | .trellisEnable t _ => instantOk t
  | .plcQuery x i => x.ok && below i 256
  | .trellisSend x dst cls payload => x.ok && below dst 256 && below cls 256 && below payload.length 65537
  | .trellisLimitSend x _ _ => x.ok
  | .trellisLqRead x => x.ok
  | .trellisRestart x => x.ok
  | .pufRetry t _ => instantOk t
  | .riddle t => instantOk t
  | .drbgReseed t => instantOk t
  | .entropyFail t _ => instantOk t
  | .entropyRetest t _ => instantOk t
  | .keySelftestDone t _ _ => instantOk t
  | .credVerifyDone t => instantOk t
  | .flashBlockFail t a => instantOk t && below a 7
  | .keyQuery x => x.ok
  | .keyNodeQuery x _ => x.ok
  | .keyInvalidate x _ _ => x.ok
  | .keyRederive x _ _ => x.ok
  | .keyInstall x blob _ _ => x.ok && below blob.length 65537
  | .keyOwnerSet x key _ _ => x.ok && below key.length 65537
  | .keyAnchorInstall x slot typ item _ _ => x.ok && below slot 256 && below typ 256 && below item.length 65537
  | .keyCsr x _ subject => x.ok && below subject.length 65537
  | .keyCertInstall x _ _ _ _ _ => x.ok
  | .keyAttest x _ _ => x.ok
  | .keyAttestCert x => x.ok
  | .keySelftest x => x.ok
  | .credLoadBegin x _ _ => x.ok
  | .credLoadData x first _ => x.ok && below first (2 ^ 64)
  | .credLoadCommit x _ _ _ _ _ => x.ok
  | .credLoadAbort x => x.ok
  | .credUpdate x _ _ => x.ok
  | .credLookup x kind _ n _ => x.ok && below kind 256 && below n 256
  | .rdr0Poll t _ _ _ _ _ => instantOk t
  | .cableRead t _ => instantOk t
  | .cableWrite t _ => instantOk t
  | .ownTagFieldOn t => instantOk t
  | .ownTagFieldLost t => instantOk t
  | .ownTagFieldRead t _ _ => instantOk t
  | .ownTagFieldWrite t _ _ _ => instantOk t
  | .presentPwd t _ => instantOk t
  | .ownTagMam1 t _ => instantOk t
  | .tagQuery x => x.ok
  | .tagCableRead x n => x.ok && below n 256
  | .tagCableInit x n _ => x.ok && below n 256
  | .tagCableRetire x n _ => x.ok && below n 256
  | .tagOwnRead x first _ => x.ok && below first (2 ^ 64)
  | .tagOwnWrite x first _ => x.ok && below first (2 ^ 64)
  | .dispTempStale t => instantOk t
  | .dispFrameStart t => instantOk t
  | .dispRegionDone t r => instantOk t && below r 16
  | .epdPwrGoodRise t => instantOk t
  | .dispPwrTimeout t => instantOk t
  | .epdPwrGoodLoss t => instantOk t
  | .dispPwrOff t => instantOk t
  | .vintageSave t => instantOk t
  | .segSense t _ => instantOk t
  | .segFrame t => instantOk t
  | .legalSilent t => instantOk t
  | .dispQuery x => x.ok
  | .dispImageLoad x _ _ _ _ pixels => x.ok && below pixels.length 65537
  | .dispUpdate x _ _ _ _ mode => x.ok && below mode 256
  | .dispTempSet x _ => x.ok
  | .dispVintageRead x => x.ok
  | .dispVintageReset x _ => x.ok
  | .lswTrip t n _ _ _ => instantOk t && below n 32
  | .inrushEnd t n _ _ _ => instantOk t && below n 32
  | .lswRetry t n => instantOk t && below n 32
  | .lswCoolRestart t n _ => instantOk t && below n 32
  | .retriesReload t n => instantOk t && below n 32
  | .quadHot t q _ => instantOk t && below q 8
  | .quadCool t q _ => instantOk t && below q 8
  | .quadRestartStep t q => instantOk t && below q 8
  | .lswPwmPeriod t b => instantOk t && below b 4
  | .lswOpenOn t n _ _ => instantOk t && below n 32
  | .lswOpenOff t n => instantOk t && below n 32
  | .lswBudgetWindow t _ _ => instantOk t
  | .vlsUndervoltage t b _ => instantOk t && below b 4
  | .vlsRestored t b _ => instantOk t && below b 4
  | .lswSet x _ on _ _ => x.ok && below on 256
  | .lswClear x _ => x.ok
  | .lswQuery x n => x.ok && below n 256
  | .lswConfig x n _ _ => x.ok && below n 256
  | .lswBankPwm x b _ => x.ok && below b 256
  | .updBegin x man _ => x.ok && man.length == 4096
  | .updBlock x first blocks => x.ok && below first (2 ^ 64) && blocks.all fun b => b.length == 4096
  | .updStatus x first => x.ok && below first (2 ^ 64)
  | .updActivate x mode => x.ok && below mode 256
  | .updConfirm x => x.ok
  | .updRevert x => x.ok
  | .updAbort x _ => x.ok
  | .updPolicy x cosign _ => x.ok && below cosign 256
  | .updVerifyDone t _ => instantOk t
  | .updLockIdle t => instantOk t
  | .updActivationFlip t => instantOk t
  | .updActivateTimeout t => instantOk t
  | .trialTimeSave t => instantOk t
  | .updAutoConfirm t => instantOk t
  | .trialTimeout t => instantOk t
  | .svcBegin t man _ => instantOk t && man.length == 4096
  | .svcBlock t _ data => instantOk t && data.length == 4096
  | .svcActivate t _ => instantOk t
  | .svcStatus t => instantOk t
  | .svcAbort t _ => instantOk t
  | .svcConfirm t => instantOk t
  | .svcRevert t => instantOk t
  | .svcBadFrame t => instantOk t
  | .twinLinkUp t _ _ _ _ => instantOk t
  | .twinLinkDown t => instantOk t
  | .twinPairTimeout t => instantOk t
  | .twinCopyFreeze t _ _ _ => instantOk t
  | .twinCopyRx t _ _ _ _ => instantOk t
  | .twinCopyDeadline t _ => instantOk t
  | .twinGiveup t _ => instantOk t
  | .twinActInFall t => instantOk t
  | .twinActInRise t => instantOk t
  | .twinActConflict t => instantOk t
  | .twinTakeoverDone t => instantOk t
  | .twinQuery x => x.ok
  | .twinSwitch x => x.ok
  | .twinRejoin x => x.ok
  | .vinValid t _ _ => instantOk t
  | .earlyVinLoss t => instantOk t
  | .railOutOfLimits t r _ _ _ feed _ => instantOk t && below r 14 && feed.all feedOk
  | .railRestored t r _ _ => instantOk t && below r 14
  | .tempLevelChange t k _ => instantOk t && below k 9
  | .procMonSample t _ => instantOk t
  | .tamperInput t k _ _ => instantOk t && below k 4
  | .xtal32Fail t => instantOk t
  | .xtal49Fail t => instantOk t
  | .xtal49Return t => instantOk t
  | .xtal25Fail t feed => instantOk t && feed.all feedOk
  | .meterWake t _ => instantOk t
  | .pwrQuery x => x.ok
  | .pwrMode x mode => x.ok && below mode 256
  | .pwrIdent x => x.ok
  | .setupLock t => instantOk t
  | .settingsSaved t => instantOk t
  | .alertWrite t _ => instantOk t
  | .registerWrite t _ _ _ _ _ => instantOk t
  | .xtal32Return t => instantOk t
  | .refclkReturn t => instantOk t
  | .resetToReady t => instantOk t
  | .twinForwardedStop t _ mask => instantOk t && below mask 256

end Sys2Proof
end

