-- ==== Sys2Proof/Tests/Slice0.lean ====
section
/-! SUPPORT. Tests: terms that the well-formedness checks refuse, worked examples of the spec, and for every statement with
hypotheses a witness that meets those of each of its clauses. -/

namespace Sys2Proof.Tests

set_option maxRecDepth 100000
set_option linter.unusedVariables false

open Sys2Proof Sys2Proof.Machine

/-! ### Small states -/

/-- A module that runs, with its islands ready and its host attached. -/
def run : State :=
  let s : State := ({ State.reset with phase := .running } : State).wr R.HOST_CTRL_DETACHED 0 0
  forEach (List.range 14) (fun i s => s.wr R.GLOBAL_ISLAND_STAT_READY i 1) s
def cx : Ctx := ⟨5, 1, 1, 0, 0, 0⟩
def fetched (op : Nat) (x : Ctx) (s : State) : State :=
  { s with host := { s.host with inflight := [⟨x.ring, x.seq, op, 0, x.tag, x.flags, x.cask, false, false, some 0⟩] } }
def ready : State := ((run.wr R.HOST_CTRL_DETACHED 0 1).wr R.GLOBAL_STATUS_HOST_READY 0 1)
def ready' : State := { ready with host := { ready.host with cfgReady := true } }
def heldStop : State := let run := run.wr R.HOST_CPLR_EN 0 1; { run with host := { run.host with stopHeld := [⟨1, 1, 0, 0, 0, 0⟩] } }
def gap : State := let s := run.wr R.HOST_EVR_EN 0 1; { s with host := { s.host with gaps := s.host.gaps.put ⟨0, 0⟩ 0 ⟨4, 6⟩ } }
def note : State := { run with host := { run.host with notifDrain := [⟨1, 0, 1, 1⟩] } }
def told1 : State := run.raise Ev.EVR_GAP 0 [1, 2]
def slotAt (k : Nat) (f : CaskSlot → CaskSlot) : State := run.setSlot k (f { CaskSlot.init with id := 7 })
def opened : State := slotAt 0 fun c => { c with st := .opened }
def prepared : State := slotAt 0 fun c => { c with st := .prepared }
def preparing : State := slotAt 0 fun c => { c with st := .preparing, ctx := some cx }
def armed : State := slotAt 0 fun c => { c with st := .armed, ctx := some cx, acked := [9], tApply := 30000 }
def armedSync : State := slotAt 0 fun c => { c with st := .armed, ctx := some cx, acked := [9], mode := 3 }
def recorded : State := slotAt 0 fun c => { c with st := .recorded, ctx := some cx, tApply := 5, mode := 0 }
def disabling : State := { run with cask := { run.cask with disables := [⟨0x06, 0, cx, 0, 0, false⟩] } }
def full : State := forEach (List.range 8) (fun k s => s.setSlot k { CaskSlot.init with id := k + 1, st := .opened }) run
def cx7 : Ctx := ⟨5, 1, 1, 0, 0, 7⟩
def preparing2 : State := slotAt 0 fun c => { c with st := .preparing, ctx := some cx, acts := [.metClose 1] }
def outAt (n : Nat) (f : Outlet → Outlet) : State := run.modOutlet n f
def dcOut : State := (run.wr R.OUT_CFG_TYPE 0 3).modOutlet 0 fun o => { o with pms := [{ PowerModule.init with lost := false, seenAt := some 1, ident := [] }] }
def dcPm : State := (((run.wr R.OUT_CFG_TYPE 0 3).wr R.OUT_DC_CFG_PM_COUNT 0 1).wr R.OUT_DC_CFG_PM_BASE 0 16).modOutlet 0 fun o => { o with pms := [{ PowerModule.init with lost := false, seenAt := some 1 }] }
def carded : State := { run with out := { run.out with card := some ⟨.plain 1 1 7, 3, none, false⟩ } }
def frame14 : List Nat := [0x10, 0x27, 5, 0, 25, 0, 0, 0, 0, 0, 0, 0, 0, 0]
def goodFrame : List Byte := (frame14 ++ [crc16 frame14 % 256, crc16 frame14 / 256]).map (BitVec.ofNat 8)
def closable : State :=
  let s := ((((((run.wr R.OUT_CFG_CTRL 3 1).wr R.SAFE_STATUS_SELFTEST_OK 0 1).wr R.SAFE_STATUS_A_RUN 0 1).wr R.SAFE_COIL_CFG_EN 6 1).wr R.SAFE_OUT_PROT_RCM_SRC 3 0).wr R.OUT_ALLOC_STAT_ENF_W 3 1).modOs 3 fun o => { o with selfPass := true }
  { s with safe := { s.safe with snaps := List.replicate 12 ⟨[some 0], [some 0]⟩ } }
def goodCfg : Nat := 2 ^ 51 * 3 + 2 ^ 44 * 32 + 2 ^ 36
def goodDc : Nat := 2 ^ 20
def slacOut : State := (run.modOutlet 3 fun o => { o with st := .connected, out := .pwm 50 }).modOutlet 4 fun o => { o with st := .connected, out := .pwm 50 }
def slacWith (r : SlacRun) : State := { slacOut with out := { slacOut.out with slac := [r] } }
def slac0 : SlacRun := ⟨9, [3, 4], none, .empty, [], 0, 0, none, .empty, none, false⟩
def slac1 : SlacRun := { slac0 with windowEnd := some 600000000 }
def slac2 : SlacRun := { slac0 with heard := (Tab.empty.put (0, 0) 3 (10, 5800)).put (0, 0) 4 (10, 58000) }
def drbgRun (s : State) : State := s.wr R.KEY_DRBG_HEALTH_OK 0 1
def mods : State := (run.wr R.AFE_MOD_CFG_EN 3 1).wr R.AFE_MBS_CFG_EN 0 1
def auxIn : State := run.wr R.AFE_AUX_IN_EN 2 1
def seqCtl : Nat := 2 ^ 56 + 2 ^ 50 * 8 + 1000
def seqEnt : Nat := 2 ^ 26 * 2 + 2 ^ 18 * 4
def osAt (n : Nat) (f : OutSafe → OutSafe) : State := run.modOs n f
def coilAt (k : Nat) (f : Coil → Coil) : State := (run.wr R.SAFE_COIL_CFG_EN k 1).modCoil k f
def safeWith (f : SafeSt → SafeSt) : State := { run with safe := f run.safe }
def calRun : State := { run.wr R.LEDGER_STAT_SEAL 0 1 with ledger := { run.ledger with cal := some ⟨4095, 10 ^ 15, []⟩ } }
def trkAt (m : Nat) (st : Nat) (f : Trk → Trk) : State := (run.wr R.FILT_TRK_STAT_STATE m st).modTrk m f
def blending : State := { run with filt := { run.filt with blends := [⟨[3], 1, none, 0, none, none⟩] } }
def mpLiveAt (m : Nat) : State := run.wr R.MET_CFG_STATE m 3
def calKeep : State :=
  let s := (((calRun.wr R.MET_MAP_V1 2 32).wr R.MET_MAP_I1 2 0).wr R.FILT_BANK_GAIN 64 (2 ^ 30)).wr R.FILT_BANK_GAIN 0 (2 ^ 30)
  { s with met := { s.met with kept := s.met.kept.put none 6 (some ⟨4, 230000000, 16000000, 0, 50000000, 0, 0, 2500, 0, 1⟩) } }
def pulseImg : Nat := 2 ^ 63 + 2 ^ 59 * 2 + 2 ^ 38 * 1000 + 2 ^ 31 * 30
def led (f : LedgerSt → LedgerSt) : State := { run with ledger := f run.ledger }
def timed : State := ((run.wr R.GLOBAL_MTB_UTC_RTC_VALID 0 1).wr R.GLOBAL_MTB_UTC_UTC_SEC 0 1700000040).wr R.GLOBAL_MTB_UTC_MTB_AT_SEC 0 10
def tswitch : State := timed.wr R.LEDGER_CFG_TARIFF_DEFAULT 0 3
def cal1 : Calendar := ⟨1700000030, 60, [(1, 1, 0)], [[0, 0, 0, 0, 0, 0, 0]], [[(0, 1)]], [], [], 77⟩
def calPending : State :=
  let s := timed.wr R.GLOBAL_MTB_UTC_MTB_AT_SEC 0 20000000010
  { s with ledger := { s.ledger with pending := some cal1 }, mtb := 20000000010 }
def demandDue : State := timed.wr R.GLOBAL_MTB_UTC_UTC_SEC 0 1700000100
def bnd : Boundary := ⟨4, 1700000040, 1, [], 0, 0, none⟩
def hostOut : State := run.wr R.OUT_CFG_CTRL 3 1
def openRec : State := hostOut.modLsess 3 fun l => { l with opened := true, mp := 2 }
def rec1 : Rec := ⟨5, 3, 2, 0, 0, 0, 0, 1, 1, 0, [(4, 9)], some 6⟩
def oneRec : State := led fun l => { l with records := [rec1], issued := 5 }
def bset : BillSet := ⟨1, 0, 0, 5, 5, 0, 0, [(2, [1, 2])]⟩
def calReady : State :=
  let s := run.wr R.LEDGER_STAT_SEAL 0 1
  { s with ledger := { s.ledger with challenge := some (9, 0) }, key := { s.key with anchors := s.key.anchors.put none 0 (some ⟨1, 0⟩) } }
def keyed : State :=
  let s := run.wr R.KEY_STATUS_MODE 0 2
  { s with key := { s.key with root := some 5, nodes := [⟨pathSign, 1, 3, 1, false, false, 5, 0, 4⟩] }, ledger := { s.ledger with records := [{ rec1 with sig := none }] } }
def trx (st : Nat) : State := ((run.wr R.PLC_TRELLIS_STAT_STATE 0 st).wr R.PLC_TRELLIS_CFG_NODE_ADDR 0 3).wr R.PLC_TRELLIS_CFG_SEGMENT 0 12
def joined : State := trx 3
def coord : State := trx 5
def hdr : THdr := ⟨12, 7, 3, 7, 3, 40, 6, 1, 0, true, 0, 30, 2⟩
def frame1 : TFrame := { TFrame.new fHOST_DATA 1 3 9 4 [1] with ctx := none }
def queued (k : Nat) : State := let s := joined.wr R.PLC_TRELLIS_LQ_NEXT_HOP 8 7; { s with plc := { s.plc with queues := s.plc.queues.put [] 1 [{ frame1 with tries := k }] } }
def queuedB : State := { joined with plc := { joined.plc with queues := joined.plc.queues.put [] 1 [{ frame1 with dst := 0xFF }] } }
def waiting (k : Nat) : State := { joined with plc := { joined.plc with wait := some { frame1 with rx := 7, tx := 3, ctr := 2, tries := k } } }
def synced : State := { run with plc := { run.plc with syncAt1 := run.plc.syncAt1.put 0 1 5 } }
def man1 : TamecMan := ⟨55, 1, 0, 1, 1, 10, 1, 0, [1, 2, 3, 4, 5, 6], [], true, true, true⟩
def serving : State :=
  let s := ((joined.wr R.PLC_TRELLIS_CFG_SERVE_IMAGES 0 1).wr R.PWR_STAT_THROTTLE 0 1).wr R.UPD_BOOT_ACTIVE_GEN 0 1
  { s with upd := { s.upd with slots := s.upd.slots.put none (s.rd R.UPD_BOOT_ACTIVE_SLOT) (some man1) } }
def withBitmap (b : Nat) : State :=
  let s := ((((run.wr R.UPD_STAT_STATE 0 1).wr R.UPD_STAT_HOLDER 0 (2 ^ 24)).wr R.UPD_STAT_RECEIVED 0 (popcount 10 b)).wr R.UPD_STAT_TOTAL 0 10)
  { s with upd := { s.upd with man := some man1, bitmap := b } }
def receiving : State := withBitmap 3
def verified : State :=
  let s := (run.wr R.UPD_STAT_STATE 0 3).wr R.UPD_CFG_LEGAL_SEAL_REQ 0 1
  { s with upd := { s.upd with man := some { man1 with parts := [1, 2, 3, 9, 5, 6] }, slots := s.upd.slots.put none 0 (some man1) } }
def trial : State :=
  let s := ((run.wr R.UPD_STAT_STATE 0 5).wr R.KEY_STATUS_MODE 0 2).wr R.SAFE_STATUS_SELFTEST_OK 0 1
  { s with safe := { s.safe with tableOk := true }, upd := { s.upd with legalOk := true } }
def activating : State :=
  let s := receiving.wr R.UPD_STAT_STATE 0 4
  { s with upd := { s.upd with act := some (0, 0, none) } }
def wave1 : EpdWave := ⟨50, 1, [1], (List.range 15).map fun (k : Nat) => (k : Int), [], []⟩
def owned : State := (run.wr R.KEY_STATUS_OWNER_SET 0 1)
def node1 : KNode := ⟨pathSign, 1, 3, 1, false, false, 5, 0, 4⟩
def node2 : KNode := ⟨[label "APP"], 2, 1, 1, false, false, 0, 0, 11⟩
def node3 : KNode := ⟨[label "ATTEST"], 2, 1, 1, false, false, 0, 0, 12⟩
def node4 : KNode := ⟨[label "OLD"], 2, 1, 1, true, false, 0, 0, 13⟩
def node5 : KNode := ⟨[label "EC"], 4, 1, 1, false, false, 0, 0, 14⟩
def node6 : KNode := ⟨pathDevice, 4, 1, 1, false, false, 0, 0, 15⟩
def ownedKeys : State :=
  let s := keyed.wr R.KEY_STATUS_OWNER_SET 0 1
  { s with key := { s.key with nodes := [node1, node2, node3, node4, node5, node6], anchors := s.key.anchors.put none 0 (some ⟨2, 0⟩) } }
def credVer : State :=
  let s := keyed.wr R.KEY_STATUS_OWNER_SET 0 1
  { s with key := { s.key with load := some (3, 0), manifest := some ⟨cx, 3, 0, Config.hash [], 0, true⟩ } }
def cred1 : CredRec := ⟨1, 0, 0, 0, 7, 0, 0, 0xFF, 0, 0, 0, 0⟩
def loading : State := { keyed with key := { keyed.key with load := some (3, 5) } }
def withCred : State := { keyed with key := { keyed.key with deltas := [cred1, { cred1 with hash := 8, status := 1 }] } }

def cabled (j : CableJob) : State := (((run.wr R.TAG_RDR_CFG_RDR1_EN 0 1).wr R.OUT_CFG_TETHERED 3 1).wr R.OUT_CFG_TYPE 3 1).setJobs [j]
def life1 (q : Nat) : List Byte := (lifeBytes ⟨q, 2, 1, 1000, 0, 0⟩).map (BitVec.ofNat 8)
def tag1 : CableRead := ⟨77, (([0x5A, 0x43, 0x54, 0x31] ++ List.replicate 12 0 ++ [32, 1, 0, 0, 0x10, 0x27, 0, 0] ++ List.replicate 8 0).map (BitVec.ofNat 8)), true, life1 5, true, life1 6, true, true⟩
def reader : State := (run.wr R.TAG_RDR_CFG_RDR0_EN 0 1).wr R.TAG_RDR_CFG_PROTO_EN 0 7
def fielded : State := (run.wr R.TAG_OWN_CFG_EN 0 1).wr R.TAG_OWN_STAT_FIELD 0 1
def segging : State := { run with disp := { run.disp with paint := some ⟨2, 8, ⟨[(7, [2, 1])]⟩, 0, .empty, 0⟩ } }
def scanning (st : RegSt) : State :=
  let s := (run.wr R.DISP_STAT_SCANNING 0 1).setRegion 2 { DRegion.init with st := st, w := 8, h := 1, total := 1 }
  { s with disp := { s.disp with pwrEn := true } }
def panel : State :=
  let s := (run.wr R.DISP_CFG_EN 0 1).wr R.DISP_CFG_FPS 0 50
  { s with disp := { s.disp with wave := some { wave1 with modes := 15 } } }
def lsw (n st : Nat) : State := run.wr R.LSW_STAT_STATE n st
def goodLsw : Nat := 2 ^ 63 + 12 * 2 ^ 57 + 16 * 2 ^ 52 + 10 * 2 ^ 47 + 3 * 2 ^ 43 + 20 * 2 ^ 36 + 20 * 2 ^ 27
def roleIs (r : Nat) : State := run.wr R.TWIN_STAT_ROLE 0 r
def linked (r : Nat) : State := (roleIs r).wr R.TWIN_LINK_UP 0 1
def roleActIn (r : Nat) : State := { roleIs r with twin := { run.twin with actIn := true } }
def copy1 : TwinCopy := ⟨0, 0, 0, .empty, .empty, .empty, 0, none, 0, .empty, LswSt.init, .empty, [], 0, 0⟩
def conflict : State := { roleIs 2 with twin := { run.twin with actIn := true, bothAt := some 0, peerPrefer := true } }
def healthy6 : State := forEach [1, 2, 4] (fun i s => s.wr R.GLOBAL_ISLAND_STAT_CLK_OK i 1) (roleIs 6)
def boot1 : BootIn := ⟨true, true, true, 0, [], true, true, [some 300], true, true, true, none, [], [], wave1, true, [], []⟩
def pouring : State := { run with phase := .pour, pwr := { run.pwr with l := 0, pourEnd := 1000000 } }
def takeReady : State :=
  let s := (linked 3).wr R.SAFE_STATUS_SAFE_OK 0 1
  { s with twin := { s.twin with inRow := 10, ofsOk := true, copy := some { copy1 with settings := Config.hash [] } } }

def pulseImg2 : Nat := pulseImg
def pulseFast : Nat := 2 ^ 63 + 2 ^ 59 * 2 + 2 ^ 38 * 100000 + 2 ^ 31 * 100
def pulled : State := coilAt 2 fun c => { c with hs := true, waiting := true }
def pulledOn : State := (pulled.advance 5).startPullIn 2
def streamed : State :=
  let s := ((run.wr R.HOST_STR_EN 0 1).wr R.HOST_STR_SOURCES 0 (2 ^ 24)).wr R.HOST_STR_SIZE_LOG2 0 4
  { s with host := { s.host with dbStr := s.host.dbStr.put 0 0 1, strSrc := s.host.strSrc.put StreamSrc.init 24 ⟨7, [⟨0x30, 5, 1, [1, 2]⟩], 0⟩ } }
def preparedZc : State := ((prepared.wr R.FILT_TRK_STAT_STATE 8 2).wr R.FILT_TRK_PER_PERIOD_NS 8 20000000).wr R.FILT_TRK_NEXT_START 8 20000005

def pqAt : State :=
  let s := (((((((run.wr R.MET_CFG_STATE 2 3).wr R.MET_CFG_TYPE 2 1).wr R.MET_MAP_V1 2 32).wr R.MET_SCALE_KV 2 (2 ^ 24)).wr R.AFE_MOD_CFG_EN 32 1).wr R.FILT_CFG_RS_MODE 32 1).wr R.FILT_CFG_TRK 32 2).modTrk 2 fun k =>
    { k with no := 2, cycles := [⟨2, 20000010, 20000000, false, false⟩, ⟨1, 10, 20000000, false, false⟩] }
  (s.setChain 32 { s.chain 32 with nextCyc := 3 }).setSamples 32 [⟨2, 1, 700000, 0, 0, 22, 0⟩]

def calBytes : List Byte :=
  ([1, 0, 0, 0, 0, 0, 0, 0, 0, 0, 60, 0, 1, 1, 1, 0, 0, 0, 0, 0] ++ [1, 1, 0, 0] ++ [0, 0, 0, 0, 0, 0, 0, 0] ++ [0, 0, 1, 0]
    ++ (List.replicate 31 [0xFF, 0xFF, 0, 0]).flatten).map (BitVec.ofNat 8)
def cal2 : Calendar := ⟨0, 60, [(1, 1, 0)], [[0, 0, 0, 0, 0, 0, 0]], [[(0, 1)]], [], [], Config.hash (calBytes.map (fun (y : Byte) => y.toNat))⟩

def ticked (s : State) : State := { s with plc := { s.plc with ticks := 2000 } }

def manBytes : List Byte :=
  ([0x54, 0x4D, 0x45, 0x43, 1, 6, 0, 0, 1, 0, 0, 0, 0, 0, 0, 0, 1, 0, 1, 0, 10, 0, 0, 0, 1, 0, 0, 0] ++ List.replicate 36 0
    ++ (List.range 6).flatMap (fun i => [i + 1, 0, 0, 0, i + 2, 0, 0, 0, 1, 0, 0, 0, 0, 16, 0, 0] ++ List.replicate 48 0)
    ++ List.replicate 3648 0).map (BitVec.ofNat 8)

def blobOf (y : Nat) (l : List Byte) (k : Nat) : List Byte :=
  List.replicate 97 0 ++ [BitVec.ofNat 8 y, BitVec.ofNat 8 l.length] ++ l ++ [BitVec.ofNat 8 k, 0, 0, 0, 1, 0, 9] ++ List.replicate 80 0

def hdrT : TwinHdr := ⟨1000, 1000, 2, true, 5⟩
def exOut (n type cls rated maxW start : Nat) (s : State) : State :=
  ((s.wr R.OUT_CFG_TYPE n type).wr R.OUT_CFG_RATED_A n rated).modOutlet n fun o =>
    { o with st := .energy, class_ := cls, vehicleMaxW := maxW, startAt := start, granted := true,
             pms := if type = 3 then [{ PowerModule.init with lost := false, ratedW := maxW }] else [] }
/-- The six sessions of the example to R123 to R128. -/
def sixSessions : State :=
  let s := exOut 5 2 3 32 22080 6 (exOut 4 1 2 32 7360 5 (exOut 3 2 1 32 11040 4 (exOut 2 3 1 80 50000 3
    (exOut 1 3 1 80 150000 2 (exOut 0 2 0 32 22080 1 run)))))
  let s := forEach (List.range 6) (fun n s => s.wr R.OUT_CFG_PP_MODE n 0) s
  forEach [1, 2] (fun n s => ((s.wr R.OUT_DC_CFG_VMAX n 1000).wr R.OUT_DC_CFG_IMAX n 500).wr R.OUT_CFG_DC_MIN n 100) s

/-! ### Well-formedness: a term that each check refuses -/

theorem test_wf_accepts : (Instr.echo ⟨5, 1, 1, 0, 0, 0⟩ [1, 2]).wellFormed = true := by decide
theorem test_wf_ctx_instant : (Instr.caskOpen ⟨2 ^ 64, 1, 1, 0, 0, 0⟩).wellFormed = false := by decide
theorem test_wf_ctx_ring : (Instr.caskOpen ⟨5, 16, 1, 0, 0, 0⟩).wellFormed = false := by decide
theorem test_wf_ctx_seq : (Instr.caskOpen ⟨5, 1, 2 ^ 32, 0, 0, 0⟩).wellFormed = false := by decide
theorem test_wf_ctx_tag : (Instr.caskOpen ⟨5, 1, 1, 2 ^ 64, 0, 0⟩).wellFormed = false := by decide
theorem test_wf_ctx_flags : (Instr.caskOpen ⟨5, 1, 1, 0, 256, 0⟩).wellFormed = false := by decide
theorem test_wf_ctx_cask : (Instr.caskOpen ⟨5, 1, 1, 0, 0, 256⟩).wellFormed = false := by decide
theorem test_wf_instant : (Instr.perstRelease (2 ^ 64)).wellFormed = false := by decide
theorem test_wf_instance : (Instr.pilotStateAccept 5 8).wellFormed = false := by decide
theorem test_wf_length : (Instr.echo ⟨5, 1, 1, 0, 0, 0⟩ (List.replicate 65537 0)).wellFormed = false := by
  simp only [Instr.wellFormed, below, List.length_replicate]
  decide
theorem test_wf_act_open : (Instr.caskAction ⟨5, 1, 1, 0, 0, 1⟩ (.metOpen 256 0)).wellFormed = false := by decide
theorem test_wf_act_close : (Instr.caskAction ⟨5, 1, 1, 0, 0, 1⟩ (.metClose 256)).wellFormed = false := by decide
theorem test_wf_act_read : (Instr.caskAction ⟨5, 1, 1, 0, 0, 1⟩ (.readSigned 65536)).wellFormed = false := by decide
theorem test_wf_feed_channel : (Instr.controlCycleStart 5 [⟨64, [], [], []⟩]).wellFormed = false := by decide
theorem test_wf_feed_inside : (Instr.controlCycleStart 5 [⟨3, [8], [], []⟩]).wellFormed = false := by decide
theorem test_wf_feed_mbs : (Instr.controlCycleStart 5 [⟨48, [1, 0], [], []⟩]).wellFormed = false := by decide
theorem test_wf_block : (Instr.updBlock ⟨5, 1, 1, 0, 0, 0⟩ 0 [[1, 2]]).wellFormed = false := by decide

/-! ### Worked examples of the spec -/

/-- Example to R20: 768 edges of XTAL49 take 15,625 ns. -/
theorem test_mtb_768_edges : (State.reset.edges 768).mtb = 15625 ∧ (State.reset.edges 768).mtbAcc = 0 := by decide

/-- Example to R203: Z = 310 and G = 3,211,411 turn the code 300,000 into 57,365. -/
theorem test_aux_value : ((((State.reset.wr R.AFE_AUX_CAL_Z_P 12 310).wr R.AFE_AUX_CAL_G_P 12 3211411).wr
    R.AFE_AUX_CAL_Y0_P 12 0).auxValue 12 0 300000).1 = 57365 := by decide

/-- Example to R199: six entries with SETTLE 10 and AVG_LOG2 6 take 52.2 µs; the pass is counted in 1/180 µs. -/
theorem test_seq_pass : State.passTime 0 (List.replicate 6 (2 ^ 26 * 0 + 10 * 2 ^ R.AFE_SEQ_ENT_SETTLE.lo
    + 6 * 2 ^ R.AFE_SEQ_ENT_AVG_LOG2.lo)) = 9396 := by decide

/-- Example to R274: at CONST 10,000 and PMAX 27,600 W a width of 5 ms is accepted, one of 10 ms is not. -/
theorem test_pulse_rate : let s := ((calRun.wr R.MET_CFG_TYPE 3 2).wr R.MET_RATING_UNOM 3 2300).wr R.MET_RATING_IMAX 3 40000
    (s.pulseTooFast 3 10000 5, s.pulseTooFast 3 10000 10) = (false, true) := by decide

/-- The check value of CRC-16/CCITT-FALSE (R119) over the digits 1 to 9. -/
theorem test_crc16 : crc16 [0x31, 0x32, 0x33, 0x34, 0x35, 0x36, 0x37, 0x38, 0x39] = 0x29B1 := by decide

/-- Example to R123 to R128: the six sessions at 100,000 W. -/
theorem test_shares_100kw : (List.range 6).map (fun n => (sixSessions.computeShares 100000 false).alloc.get 0 n) =
    [22080, 30680, 30680, 11040, 1380, 4140] := by decide

/-- The same six sessions at 30,000 W: the last is not granted. -/
theorem test_shares_30kw : (List.range 6).map (fun n => (sixSessions.computeShares 30000 false).alloc.get 0 n) =
    [4480, 10000, 10000, 4140, 1380, 0] := by decide

/-- The duties of that example: 4,480 W on three phases is 10.8 %, 11,040 W is 26.6 %. -/
theorem test_duty : (sixSessions.dutyFor 0 4480, sixSessions.dutyFor 3 11040) = (.pwm 108, .pwm 266) := by decide

/-! ### Reset and the first start -/

theorem test_reset_idle : State.reset.pending = [] ∧ State.reset.phase = .noVin := by decide
theorem test_reset_inv : State.reset.mtbAcc < 768 ∧ State.reset.regs.sorted = true := by decide
theorem test_decode_none : decodeTableWord 32 0 = none := by decide

/-! ### Every hypothesis can be met: one theorem for each statement that has hypotheses, a witness for each clause -/


theorem test_wit_InvariantKept :
    ∃ (s u : State), s.Inv ∧ step s = .next u :=
  ⟨State.reset, State.reset.idle, ⟨by decide, by decide⟩, rfl⟩

theorem test_wit_JournalBounded :
    ∃ (s u : State), s.host.journal.length ≤ 32768 ∧ step s = .next u :=
  ⟨State.reset, State.reset.idle, by decide, rfl⟩

theorem test_wit_TimeBaseAndTick :
    (∃ (s : State) (t : Nat), s.powered = true ∧ s.mtbAcc < 768 ∧ s.mtb < t ∧ t + 21 ≤ 2 ^ 64) ∧
    (∃ (s : State) (t : Nat), (s.powered = false ∨ t ≤ s.mtb) ∧ s.mtbAcc < 768 ∧ s.mtb < 2 ^ 64) ∧
    (∃ (s u : State) (c : Instr), exec c s = .next u) ∧
    (∃ (s : State), s.pending = [] ∧ s.powered = true) ∧
    (∃ (s : State), s.pending = [] ∧ s.powered = false) :=
  ⟨⟨run, 5, by decide⟩,
    ⟨run, 0, by decide⟩,
    ⟨State.reset, State.reset, (.vinReturn 0 0), rfl⟩,
    ⟨run, by decide⟩,
    ⟨State.reset, by decide⟩⟩

theorem test_wit_OwnerCosign :
    ∃ (s u : State) (c : Instr), exec c s = .next u :=
  ⟨State.reset, State.reset, (.vinReturn 0 0), rfl⟩

theorem test_wit_DeviceEpoch :
    (∃ (s : State) (t : Nat) (b : BootIn), s.phase = .vinValid) ∧
    (∃ (s u : State) (c : Instr), exec c s = .next u ∧ ¬(match c with | .startUp .. => True | _ => False)) :=
  ⟨⟨{ State.reset with phase := .vinValid }, 5, boot1, by decide⟩,
    ⟨State.reset, State.reset, (.vinReturn 0 0), rfl, fun h => h⟩⟩

theorem test_wit_EnergyCounters :
    ∃ (s u : State) (c : Instr) (n : Nat), exec c s = .next u ∧
      ¬(match c with | .controlCycleStart .. | .gridCycleStart .. | .vfail .. | .xtal25Fail .. | .railOutOfLimits .. | .updRevert .. | .updActivationFlip .. | .trialTimeout .. | .svcRevert .. | .regWrite .. | .registerWrite .. => True | _ => False) :=
  ⟨State.reset, State.reset, (.vinReturn 0 0), 0, rfl, fun h => h⟩

theorem test_wit_CoilsEnergised :
    ∃ (s u : State) (c : Instr) (k : Nat), exec c s = .next u ∧ s.coilOn k = false ∧ u.coilOn k = true :=
  ⟨pulled, pulledOn, (.coilPullinStart 5 2), 2, rfl, by decide, by decide⟩

theorem test_wit_SetupLock :
    ∃ (s u : State) (c : Instr), exec c s = .next u ∧ s.flag R.GLOBAL_SETUP_LOCK_LOCK = true ∧
      ¬(match c with | .startUp .. => True | _ => False) :=
  ⟨(run.wr R.GLOBAL_SETUP_LOCK_LOCK 0 1), (run.wr R.GLOBAL_SETUP_LOCK_LOCK 0 1), (.vinReturn 0 0), rfl, by decide, fun h => h⟩

theorem test_wit_CompletionsAndEvents :
    ∃ (s : State) (x : Ctx) (st r ring seq : Nat), (ring * 4096 + seq % 4096) ≠ (x.ring * 4096 + x.seq % 4096) :=
  ⟨run, cx, 0, 0, 3, 9, by decide⟩

theorem test_wit_CommandIntake :
    (∃ (s : State) (x : Ctx) (op inst : Nat) (act : Option CaskAct) (f : State → State), s.up = true ∧
      ((s.advance x.t).startable x op = false ∨ (s.advance x.t).fenced x = true)) ∧
    (∃ (s : State) (x : Ctx) (op inst st : Nat) (act : Option CaskAct) (f : State → State), s.up = true ∧
      (s.advance x.t).startable x op = true ∧ (s.advance x.t).fenced x = false ∧
      (State.stoppedInMeter (op / 256) && (s.advance x.t).rd R.PWR_STAT_MODE == 1) = false ∧
      ((s.advance x.t).start x).gate x op inst = some st ∧ s.host.destroys = []) ∧
    (∃ (s : State) (x : Ctx) (op inst : Nat) (a : CaskAct) (f : State → State), s.up = true ∧
      (s.advance x.t).startable x op = true ∧ (s.advance x.t).fenced x = false ∧
      (State.stoppedInMeter (op / 256) && (s.advance x.t).rd R.PWR_STAT_MODE == 1) = false ∧
      ((s.advance x.t).start x).gate x op inst = none ∧ s.host.destroys = []) ∧
    (∃ (s : State) (x : Ctx) (op : Nat), s.startable x op = true) ∧
    (∃ (s : State) (i : Nat) (d : Desc), d.seq < 2 ^ 32 ∧ d.seq = (s.rd R.HOST_SYNC_LAST_FETCHED i + 1) % 2 ^ 32 ∧
      d.flags < 8 ∧ State.knownOp d.op = true ∧ (i = 0 → stopClass d.op = true) ∧ d.indirectOk = true) ∧
    (∃ (s : State) (i : Nat) (d : Desc), d.seq % 2 ^ 32 ≠ (s.rd R.HOST_SYNC_LAST_FETCHED i + 1) % 2 ^ 32) :=
  ⟨⟨run, cx, Op.ECHO, 0, none, id, by decide⟩,
    ⟨(fetched Op.ECHO { cx with flags := 8 } run), { cx with flags := 8 }, Op.ECHO, 0, St.BAD_FLAGS, none, id, by decide⟩,
    ⟨(fetched Op.MET_SESSION_OPEN cx run), cx, Op.MET_SESSION_OPEN, 0, (.metOpen 1 0), id, by decide⟩,
    ⟨(fetched Op.ECHO cx run), cx, Op.ECHO, by decide⟩,
    ⟨run, 1, ⟨Op.ECHO, 0, 0, 0, 1, 0, true⟩, by decide⟩,
    ⟨run, 1, ⟨Op.ECHO, 0, 0, 0, 5, 0, true⟩, by decide⟩⟩

theorem test_wit_SessionLiveRefused :
    ∃ (s : State) (x : Ctx) (n cfg dc : Nat), let b := s.advance x.t; let a := b.start x;
      b.takes x Op.OUT_CONFIG n = true ∧ n < 8 ∧ (a.outlet n).st.live = true ∧
      (State.imageField R.OUT_CFG_TYPE cfg ≠ a.rd R.OUT_CFG_TYPE n ∨ State.imageField R.OUT_CFG_BIDIR cfg ≠
      a.rd R.OUT_CFG_BIDIR n ∨ State.imageField R.OUT_CFG_CTRL cfg ≠ a.rd R.OUT_CFG_CTRL n ∨
      State.imageField R.OUT_CFG_MP cfg ≠ a.rd R.OUT_CFG_MP n ∨ State.imageField R.OUT_CFG_RATED_A cfg ≠
      a.rd R.OUT_CFG_RATED_A n) :=
  ⟨(fetched Op.OUT_CONFIG cx (outAt 3 fun o => { o with st := .energy })), cx, 3, 1, 0, by decide⟩

theorem test_wit_PulseRate :
    (∃ (s : State) (x : Ctx) (k i : Nat), let b := s.advance x.t; let a := b.start x; b.takes x Op.MET_PULSE_CFG k =
      true ∧ a.calAllowed = true ∧ k < 8 ∧ State.imageField R.MET_PULSE_MP i ≤ 11 ∧
      State.imageField R.MET_PULSE_QTY i ≤ 7 ∧ 1 ≤ State.imageField R.MET_PULSE_CONST i ∧
      State.imageField R.MET_PULSE_CONST i ≤ 100000 ∧ 2 ≤ State.imageField R.MET_PULSE_WIDTH_MS i ∧
      State.imageField R.MET_PULSE_WIDTH_MS i ≤ 100 ∧
      State.imageField R.MET_PULSE_CONST i * (a.rd R.MET_RATING_UNOM (State.imageField R.MET_PULSE_MP i) * a.rd R.MET_RATING_IMAX (State.imageField R.MET_PULSE_MP i) * (if a.rd R.MET_CFG_TYPE (State.imageField R.MET_PULSE_MP i) =
      2 then 3 else 1)) * (2 * State.imageField R.MET_PULSE_WIDTH_MS i) ≤ 36000000000000) ∧
    (∃ (s : State) (x : Ctx) (k i : Nat), let b := s.advance x.t; let a := b.start x; b.takes x Op.MET_PULSE_CFG k =
      true ∧ a.calAllowed = true ∧ k < 8 ∧ State.imageField R.MET_PULSE_MP i ≤ 11 ∧
      State.imageField R.MET_PULSE_QTY i ≤ 7 ∧ 1 ≤ State.imageField R.MET_PULSE_CONST i ∧
      State.imageField R.MET_PULSE_CONST i ≤ 100000 ∧ 2 ≤ State.imageField R.MET_PULSE_WIDTH_MS i ∧
      State.imageField R.MET_PULSE_WIDTH_MS i ≤ 100 ∧ 36000000000000 <
      State.imageField R.MET_PULSE_CONST i * (a.rd R.MET_RATING_UNOM (State.imageField R.MET_PULSE_MP i) * a.rd R.MET_RATING_IMAX (State.imageField R.MET_PULSE_MP i) * (if a.rd R.MET_CFG_TYPE (State.imageField R.MET_PULSE_MP i) =
      2 then 3 else 1)) * (2 * State.imageField R.MET_PULSE_WIDTH_MS i)) :=
  ⟨⟨(fetched Op.MET_PULSE_CFG cx (calRun)), cx, 2, pulseImg2, by decide⟩,
    ⟨(fetched Op.MET_PULSE_CFG cx calRun), cx, 2, pulseFast, by decide⟩⟩

theorem test_wit_HostLinkEvents :
    (∃ (s : State) (t : Nat) (i : CfgItem), s.host.cfgReady = true ∧ s.powered = true) ∧
    (∃ (s : State) (t b : Nat), s.host.cfgReady = true ∧ s.powered = true) ∧
    (∃ (s : State) (t : Nat) (q : CfgReq), s.host.cfgReady = false ∨ s.powered = false) ∧
    (∃ (s : State) (t : Nat), s.powered = true) ∧
    (∃ (s : State) (t : Nat) (c : DetachCause), let a := s.advance t; a.up = true ∧ a.attached = true) ∧
    (∃ (s : State) (t : Nat), let a := s.advance t; a.up = true ∧ a.attached = false ∧ a.host.cfgReady = true ∧
      a.flag R.GLOBAL_STATUS_HOST_READY = true) ∧
    (∃ (s : State) (t : Nat) (k : RingKind) (i image : Nat), let a := s.advance t; a.up = true ∧ i <
      State.ringCount k) ∧
    (∃ (s : State) (t : Nat) (cmds cpls evs strs : List Nat) (bufs : List (List Nat)) (i : Nat),
      let a := s.advance t; a.up = true ∧ a.attached = true ∧ a.pollDue = true ∧ i < 16) ∧
    (∃ (s : State) (t : Nat) (cmds cpls evs strs : List Nat) (descs : List (List Desc)) (bufs : List (List Nat)),
      let a := s.advance t; a.up = true ∧ a.attached = true ∧ a.host.pollAt1 ≠ 0 ∧ a.mtb + 1 < a.host.pollAt1 +
      max 2 (min 200 (a.rd R.HOST_CTRL_POLL_US)) * 1000) ∧
    (∃ (s : State) (t off prod : Nat) (bufs : List Nat), let a := s.advance t; a.up = true ∧ a.attached = true ∧
      a.flag R.HOST_CTRL_KICK_EN = true ∧ off % 4 = 0 ∧ off < 0x60) ∧
    (∃ (s : State) (t : Nat) (c : Completion) (r : List Completion), let a := s.advance t; a.up = true ∧
      a.attached = true ∧ a.host.stopHeld = c :: r ∧ a.cplOn (a.rd R.HOST_CMDR_CQ 0) = true ∧
      a.cplUsed (a.rd R.HOST_CMDR_CQ 0) + a.cplOwed (a.rd R.HOST_CMDR_CQ 0) <
      2 ^ a.rd R.HOST_CPLR_SIZE_LOG2 (a.rd R.HOST_CMDR_CQ 0)) ∧
    (∃ (s : State) (t j : Nat), let a := s.advance t; a.up = true ∧ a.attached = true ∧
      (a.host.gaps.get ⟨0, 0⟩ j).first ≠ 0 ∧ a.evOn j = true ∧ a.evRoom j = true) ∧
    (∃ (s : State) (t flips : Nat) (w : Notif) (r : List Notif), let a := s.advance t; a.up = true ∧
      a.host.notifDrain = w :: r) ∧
    (∃ (s : State) (t src first : Nat) (data : List (List Int)), let a := s.advance t; a.up = true ∧ src < 11 ∧
      (a.cap src).on = true ∧ (a.cap src).fmt = 2 ∧ (a.cap src).cont = true ∧ a.streamRing src = none ∧
      data.length ≤ 2016 ∧ data.all (fun r => r.length == 1) = true) ∧
    (∃ (s : State) (t src first j : Nat) (b : StreamBlock) (data : List (List Int)), let a := s.advance t; a.up =
      true ∧ 24 ≤ src ∧ a.attached = true ∧ a.streamRing src = some j ∧
      (a.host.strSrc.get StreamSrc.init src).waiting = [b] ∧ a.host.strFill.get 0 j ≠ a.host.dbStr.get 0 j) :=
  ⟨⟨{ run with host := { run.host with cfgReady := true } }, 5, .vendor, by decide⟩,
    ⟨{ run with host := { run.host with cfgReady := true } }, 5, 256, by decide⟩,
    ⟨run, 5, (.read .vendor), by decide⟩,
    ⟨run, 5, by decide⟩,
    ⟨run, 5, .flr, by decide⟩,
    ⟨ready', 5, by decide⟩,
    ⟨run, 5, .command, 3, 0, by decide⟩,
    ⟨run, 5, [], [], [], [], [], 15, by decide⟩,
    ⟨{ run with host := { run.host with pollAt1 := 5 } }, 5, [], [], [], [], [], [], by decide⟩,
    ⟨(run.wr R.HOST_CTRL_KICK_EN 0 1), 5, 0x40, 3, [7], by decide⟩,
    ⟨(heldStop), 5, ⟨1, 1, 0, 0, 0, 0⟩, [], by decide⟩,
    ⟨gap, 5, 0, by decide⟩,
    ⟨note, 5, 2, ⟨1, 0, 1, 1⟩, [], by decide⟩,
    ⟨(run.setCap 3 ⟨true, 2, 0, true⟩), 5, 3, 5, [[7], [-3]], by decide⟩,
    ⟨streamed, 5, 24, 5, 0, ⟨0x30, 5, 1, [1, 2]⟩, [], by decide⟩⟩

theorem test_wit_HostLinkCommands :
    (∃ (s : State) (x : Ctx) (k : RingKind) (i image : Nat), let b := s.advance x.t; let a := b.start x;
      b.takes x Op.RING_CREATE 0 = true) ∧
    (∃ (s : State) (x : Ctx) (i : Nat), let b := s.advance x.t; let a := b.start x; b.takes x Op.RING_DESTROY 0 =
      true) ∧
    (∃ (s : State) (x : Ctx) (i : Nat), let b := s.advance x.t; let a := b.start x; b.takes x Op.RING_DESTROY 0 =
      true) ∧
    (∃ (s : State) (x : Ctx) (i : Nat), let b := s.advance x.t; let a := b.start x; b.takes x Op.RING_DESTROY 0 =
      true ∧ i < 16 ∧ a.ringBusy i (if x.ring = i then x.seq else 2 ^ 32) = false) ∧
    (∃ (s : State) (x : Ctx) (i : Nat), let b := s.advance x.t; let a := b.start x; b.takes x Op.RING_DESTROY 0 =
      true ∧ i < 16) ∧
    (∃ (s : State) (x : Ctx) (first span : Nat), let b := s.advance x.t; let a := b.start x;
      b.takes x Op.JOURNAL_FETCH 0 = true ∧ 1 ≤ span ∧ span ≤ 4096 ∧ first = a.rd R.HOST_SYNC_GLOBAL_JOURNAL_LOW) ∧
    (∃ (s : State) (x : Ctx) (first span : Nat), let b := s.advance x.t; let a := b.start x;
      b.takes x Op.JOURNAL_FETCH 0 = true ∧ (span = 0 ∨ 4096 < span)) ∧
    (∃ (s : State) (x : Ctx) (r n : Nat) (h : Hist), let b := s.advance x.t; let a := b.start x;
      b.takes x Op.STATUS_QUERY 0 = true ∧ r < 16 ∧ n < 2 ^ 32 ∧ a.histOf r n = some h) ∧
    (∃ (s : State) (x : Ctx) (r n c : Nat), let b := s.advance x.t; let a := b.start x;
      b.takes x Op.STATUS_QUERY 0 = true ∧ (16 ≤ r ∨ c = 0 ∨ 4096 < c)) ∧
    (∃ (s : State) (x : Ctx) (d : List Byte), let b := s.advance x.t; let a := b.start x; b.takes x Op.ECHO 0 =
      true) :=
  ⟨⟨(fetched Op.RING_CREATE cx run), cx, .event, 3, (6 * 2 ^ 88), by decide⟩,
    ⟨(fetched Op.RING_DESTROY cx run), cx, 3, by decide⟩,
    ⟨(fetched Op.RING_DESTROY cx run), cx, 3, by decide⟩,
    ⟨(fetched Op.RING_DESTROY cx run), cx, 3, by decide⟩,
    ⟨(fetched Op.RING_DESTROY cx run), cx, 3, by decide⟩,
    ⟨(fetched Op.JOURNAL_FETCH cx told1), cx, 1, 5, by decide⟩,
    ⟨(fetched Op.JOURNAL_FETCH cx run), cx, 1, 0, by decide⟩,
    ⟨(fetched Op.STATUS_QUERY cx (run.setHist 3 7 St.OK 5)), cx, 3, 7, ⟨8, St.OK, 5⟩, by decide⟩,
    ⟨(fetched Op.STATUS_QUERY cx run), cx, 16, 0, 1, by decide⟩,
    ⟨(fetched Op.ECHO cx run), cx, [1, 2], by decide⟩⟩

theorem test_wit_ArchitectureEvents :
    (∃ (s : State) (t k : Nat) (g : Bool) (x : Xing), let a := s.advance t; a.core = true ∧ k < 14 ∧
      a.flag R.GLOBAL_ISLAND_STAT_READY k = true ∧ granted (tagOf x) x.res x.write a.calAllowed x.src = true ∧
      State.areaRefused x = false) ∧
    (∃ (s : State) (t k : Nat) (g : Bool) (x : Xing), let a := s.advance t; a.core = true ∧ k < 14 ∧
      a.flag R.GLOBAL_ISLAND_STAT_READY k = true ∧ granted (tagOf x) x.res x.write a.calAllowed x.src = true ∧
      State.areaRefused x = true) ∧
    (∃ (s : State) (t k : Nat) (g : Bool) (x : Xing), let a := s.advance t; a.core = true ∧ k < 14 ∧
      a.flag R.GLOBAL_ISLAND_STAT_READY k = true ∧ granted (tagOf x) x.res x.write a.calAllowed x.src = false ∧
      legalRes x.res = false ∧ safeRes x.res = false) ∧
    (∃ (s : State) (t src dst : Nat) (i : Ini), let a := s.advance t; a.core = true ∧ dst < 14 ∧
      a.arch.linkRaised.contains (src, dst) = false) ∧
    (∃ (s : State) (t src dst r q : Nat) (i : Ini) (e : Infl), let a := s.advance t; a.core = true ∧ dst < 14 ∧
      a.findInfl r q = some e ∧ e.accepted = false ∧ blockIsland (e.op / 256) = dst) ∧
    (∃ (s : State) (t : Nat), let a := s.advance t; a.core = true) ∧
    (∃ (s : State) (t : Nat) (v : List Feed), let a := s.advance t; a.up = true ∧ a.arch.cycleStart <
      a.mtb / 10 ^ 6 * 10 ^ 6) ∧
    (∃ (s : State) (t : Nat) (v : List Feed), let a := s.advance t; a.mtb / 10 ^ 6 * 10 ^ 6 ≤ a.arch.cycleStart) ∧
    (∃ (s : State) (t : Nat), let a := s.advance t; a.up = true ∧ a.arch.cycleStart + 450000 ≤ a.mtb ∧
      a.arch.deadline = false) ∧
    (∃ (s : State) (t l : Nat), let a := s.advance t; a.up = true ∧ a.arch.cycleStart + 450000 ≤ a.mtb ∧
      a.arch.deadline = false ∧ l = 1 ∧ a.arch.overrunRaised = false ∧ a.arch.overruns.get 0 0 = 0) ∧
    (∃ (s : State) (t : Nat) (d : Bool), let a := s.advance t; a.up = true ∧ a.arch.cycleStart + 300000 ≤ a.mtb) :=
  ⟨⟨run, 5, 4, true, ⟨9, .legal, 0, .counters, true⟩, by decide⟩,
    ⟨run, 5, 9, false, ⟨1, .app, 0, .mram .host 0 4, true⟩, by decide⟩,
    ⟨run, 5, 5, false, ⟨0, .host, 0, .keyMaterial, false⟩, by decide⟩,
    ⟨run, 5, 3, 4, .app, by decide⟩,
    ⟨(fetched Op.LEDGER_QUERY cx run), 5, 13, 9, 1, 1, .app, ⟨1, 1, Op.LEDGER_QUERY, 0, 0, 0, 0, false, false, some 0⟩, by decide⟩,
    ⟨run, 5, by decide⟩,
    ⟨run, 1000000, [], by decide⟩,
    ⟨run, 5, [], by decide⟩,
    ⟨run, 450000, by decide⟩,
    ⟨run, 450000, 1, by decide⟩,
    ⟨run, 300000, false, by decide⟩⟩

theorem test_wit_RegisterMapCommands :
    (∃ (s : State) (t off : Nat), let a := s.advance t; a.up = true ∧ off % 4 = 0 ∧ regAt off = none) ∧
    (∃ (s : State) (t : Nat), let a := s.advance t; a.up = true) ∧
    (∃ (s : State) (t v : Nat), let a := s.advance t; a.up = true ∧ bits v 24 6 ≠ 0) ∧
    (∃ (s : State) (t v : Nat), let a := s.advance t; a.up = true ∧ bits v 24 6 = 0) ∧
    (∃ (s : State) (t off v : Nat) (w p : Bool), let a := s.advance t; a.up = true ∧ (p = true ∨ off % 4 ≠ 0 ∨ (w =
      true ∧ off % 8 ≠ 0))) ∧
    (∃ (s : State) (t off v : Nat), let a := s.advance t; a.up = true ∧ off % 4 = 0 ∧ regAt off = none) ∧
    (∃ (s : State) (t m : Nat), let a := s.advance t; a.up = true) ∧
    (∃ (s : State) (t : Nat), let a := s.advance t; a.up = true ∧ a.locked = false) ∧
    (∃ (s : State) (t : Nat), let a := s.advance t; a.locked = true) ∧
    (∃ (s : State) (t : Nat), let a := s.advance t; a.up = true ∧ a.locked = true ∧
      a.flag R.GLOBAL_SETUP_LOCK_SAVED = false) ∧
    (∃ (s : State) (x : Ctx) (off v m : Nat), let b := s.advance x.t; let a := b.start x; b.takes x Op.REG_WRITE 0 =
      true) ∧
    (∃ (s : State) (v m off : Nat), off % 4 ≠ 0) ∧
    (∃ (s : State) (v m off : Nat), off % 4 = 0 ∧ regAt off = none) :=
  ⟨⟨run, 5, 0x3000, by decide⟩,
    ⟨run, 5, by decide⟩,
    ⟨run, 5, 0x3000003, by decide⟩,
    ⟨run, 5, 3, by decide⟩,
    ⟨run, 5, 2, 0, false, false, by decide⟩,
    ⟨run, 5, 0x3000, 1, by decide⟩,
    ⟨(run.wr R.GLOBAL_ALERT_TEMP 0 1), 5, 255, by decide⟩,
    ⟨run, 5, by decide⟩,
    ⟨(run.wr R.GLOBAL_SETUP_LOCK_LOCK 0 1), 5, by decide⟩,
    ⟨(run.wr R.GLOBAL_SETUP_LOCK_LOCK 0 1), 5, by decide⟩,
    ⟨(fetched Op.REG_WRITE cx run), cx, 0x34, 1, 1, by decide⟩,
    ⟨run, 1, 1, 2, by decide⟩,
    ⟨run, 1, 1, 0x3000, by decide⟩⟩

theorem test_wit_CaskCommands :
    (∃ (s : State) (x : Ctx) (k : Nat), let b := s.advance x.t; let a := b.start x; b.takes x Op.CASK_OPEN 0 =
      true ∧ (List.range 8).find? (fun j => (a.slot j).st == .free) = some k) ∧
    (∃ (s : State) (x : Ctx), let b := s.advance x.t; let a := b.start x; b.takes x Op.CASK_OPEN 0 = true ∧
      (List.range 8).all (fun j => (a.slot j).st != .free) = true) ∧
    (∃ (s : State) (x : Ctx) (c : CaskAct) (k : Nat), let b := s.advance x.t; let a := b.start x; b.up = true ∧
      b.startable x (actOp c) = true ∧ b.fenced x = false ∧
      (State.stoppedInMeter (actOp c / 256) && b.rd R.PWR_STAT_MODE == 1) = false ∧
      b.gate x (actOp c) (actFunction c).2 = none ∧ b.host.destroys = [] ∧ b.actDisabled (some c) = false ∧ x.cask ≠
      0 ∧ b.findCask x.cask = some k ∧ (b.slot k).st = .opened ∧ (b.slot k).acts.length < 16) ∧
    (∃ (s : State) (x : Ctx) (d n k : Nat), let b := s.advance x.t; let a := b.start x;
      b.takes x Op.CASK_PREPARE 0 = true ∧ a.findCask d = some k ∧ (a.slot k).st = .opened ∧
      (a.slot k).acts.length = n) ∧
    (∃ (s : State) (x : Ctx) (d n k : Nat), let b := s.advance x.t; let a := b.start x;
      b.takes x Op.CASK_PREPARE 0 = true ∧ a.findCask d = some k ∧ (a.slot k).st = .opened ∧
      (a.slot k).acts.length ≠ n) ∧
    (∃ (s : State) (x : Ctx) (d i k : Nat), let b := s.advance x.t; let a := b.start x; b.takes x Op.CASK_COMMIT 0 =
      true ∧ a.findCask d = some k ∧ (a.slot k).st = .prepared) ∧
    (∃ (s : State) (x : Ctx) (d i k : Nat), let b := s.advance x.t; let a := b.start x; b.takes x Op.CASK_COMMIT 0 =
      true ∧ a.findCask d = some k ∧ (a.slot k).st = .prepared ∧
      a.rd R.FILT_TRK_STAT_STATE (a.rd R.CASK_CFG_ZC_SRC) ≠ 2) ∧
    (∃ (s : State) (x : Ctx) (d i k c : Nat), let b := s.advance x.t; let a := b.start x;
      b.takes x Op.CASK_COMMIT 0 = true ∧ a.findCask d = some k ∧ (a.slot k).st = .prepared ∧
      a.crossing (a.rd R.CASK_CFG_ZC_SRC) a.leadNs (a.rdInt R.CASK_CFG2_ZC_OFFSET_US * 1000) = some c) ∧
    (∃ (s : State) (x : Ctx) (d i k : Nat), let b := s.advance x.t; let a := b.start x; b.takes x Op.CASK_COMMIT 0 =
      true ∧ a.findCask d = some k ∧ (a.slot k).st = .prepared) ∧
    (∃ (s : State) (x : Ctx) (d i k : Nat), let b := s.advance x.t; let a := b.start x; b.takes x Op.CASK_COMMIT 0 =
      true ∧ a.findCask d = some k ∧ (a.slot k).st = .prepared) ∧
    (∃ (s : State) (x : Ctx) (d k : Nat), let b := s.advance x.t; let a := b.start x; b.takes x Op.CASK_ABORT 0 =
      true ∧ a.findCask d = some k) ∧
    (∃ (s : State) (x : Ctx) (d k : Nat), let b := s.advance x.t; let a := b.start x; b.takes x Op.CASK_QUERY 0 =
      true ∧ a.findCask d = some k) ∧
    (∃ (s : State) (x : Ctx) (d : Nat), let b := s.advance x.t; let a := b.start x; b.takes x Op.CASK_PREPARE 0 =
      true ∧ a.findCask d = none) ∧
    (∃ (s : State) (x : Ctx) (d : Nat), let b := s.advance x.t; let a := b.start x; b.takes x Op.CASK_COMMIT 0 =
      true ∧ a.findCask d = none) ∧
    (∃ (s : State) (x : Ctx) (d : Nat), let b := s.advance x.t; let a := b.start x; b.takes x Op.CASK_ABORT 0 =
      true ∧ a.findCask d = none) ∧
    (∃ (s : State) (x : Ctx) (d : Nat), let b := s.advance x.t; let a := b.start x; b.takes x Op.CASK_QUERY 0 =
      true ∧ a.findCask d = none) ∧
    (∃ (s : State) (x : Ctx) (f i : Nat), let b := s.advance x.t; let a := b.start x; b.takes x Op.FUNC_DISABLE 0 =
      true) :=
  ⟨⟨(fetched Op.CASK_OPEN cx run), cx, 0, by decide⟩,
    ⟨(fetched Op.CASK_OPEN cx full), cx, by decide⟩,
    ⟨(fetched Op.MET_SESSION_CLOSE cx7 opened), cx7, (.metClose 1), 0, by decide⟩,
    ⟨(fetched Op.CASK_PREPARE cx opened), cx, 7, 0, 0, by decide⟩,
    ⟨(fetched Op.CASK_PREPARE cx opened), cx, 7, 2, 0, by decide⟩,
    ⟨(fetched Op.CASK_COMMIT cx prepared), cx, 7, 0, 0, by decide⟩,
    ⟨(fetched Op.CASK_COMMIT cx prepared), cx, 7, 0, 0, by decide⟩,
    ⟨(fetched Op.CASK_COMMIT cx preparedZc), cx, 7, 0, 0, 20000005, by decide⟩,
    ⟨(fetched Op.CASK_COMMIT cx prepared), cx, 7, 1000000, 0, by decide⟩,
    ⟨(fetched Op.CASK_COMMIT cx prepared), cx, 7, 0, 0, by decide⟩,
    ⟨(fetched Op.CASK_ABORT cx prepared), cx, 7, 0, by decide⟩,
    ⟨(fetched Op.CASK_QUERY cx prepared), cx, 7, 0, by decide⟩,
    ⟨(fetched Op.CASK_PREPARE cx run), cx, 7, by decide⟩,
    ⟨(fetched Op.CASK_COMMIT cx run), cx, 7, by decide⟩,
    ⟨(fetched Op.CASK_ABORT cx run), cx, 7, by decide⟩,
    ⟨(fetched Op.CASK_QUERY cx run), cx, 7, by decide⟩,
    ⟨(fetched Op.FUNC_DISABLE cx run), cx, 3, 2, by decide⟩⟩

theorem test_wit_CaskEvents :
    (∃ (s : State) (t k : Nat), let a := s.advance t; a.up = true ∧ k < 8 ∧ (a.slot k).st = .preparing ∧
      a.invalidAct k false = none ∧ (a.slot k).needs = 0) ∧
    (∃ (s : State) (t k r i l : Nat), let a := s.advance t; a.up = true ∧ k < 8 ∧ (a.slot k).st = .preparing ∧
      a.invalidAct k false = some (r, i, l) ∧ r < 2 ^ 32) ∧
    (∃ (s : State) (t k : Nat), let a := s.advance t; a.up = true ∧ (a.slot k).st = .opened ∧ (a.slot k).since +
      10 ^ 6 * a.rd R.CASK_CFG_OPEN_TO_MS ≤ a.mtb) ∧
    (∃ (s : State) (t k : Nat), let a := s.advance t; a.up = true ∧ (a.slot k).st = .prepared ∧ (a.slot k).since +
      60 * 10 ^ 9 ≤ a.mtb) ∧
    (∃ (s : State) (t k : Nat) (w : Bool), let a := s.advance t; a.up = true ∧ (a.slot k).st = .armed ∧
      a.allAcked k = true ∧ (a.slot k).mode ≠ 3 ∧ (a.slot k).tApply ≤ a.mtb + a.leadNs ∧ a.mtb + 10000 ≤
      (a.slot k).tApply) ∧
    (∃ (s : State) (t e : Nat) (f : Bool), let a := s.advance t; a.up = true ∧ a.flag R.CASK_CFG_SYNC_EDGE = f) ∧
    (∃ (s : State) (t k : Nat), let a := s.advance t; a.up = true ∧ (a.slot k).st = .armed ∧ (a.slot k).mode = 3 ∧
      (a.slot k).tApply = 0 ∧ (a.slot k).since + 10 ^ 6 * a.rd R.CASK_CFG2_SYNC_TO_MS ≤ a.mtb) ∧
    (∃ (s : State) (t k : Nat), let a := s.advance t; a.core = true ∧ (a.slot k).st = .armed ∧ (a.slot k).tApply ≠
      0 ∧ (a.slot k).tApply ≤ a.mtb + 10000) ∧
    (∃ (s : State) (t k : Nat) (l : List (Nat × Nat)) (b : Bool), let a := s.advance t; a.up = true ∧ k < 8 ∧
      (a.slot k).st = .recorded ∧ (a.slot k).tApply ≤ a.mtb) ∧
    (∃ (s : State) (t b i : Nat) (d : Disable), let a := s.advance t; a.up = true ∧
      (a.cask.disables.find? fun e => e.block == b && e.inst == i && !e.done) = some d ∧ a.sessionsOf b i = [] ∧ b ≠
      0x0C ∧ b ≠ 0x0D ∧ b ≠ 0x03) :=
  ⟨⟨preparing, 5, 0, by decide⟩,
    ⟨preparing2, 5, 0, St.VALIDATE_FAIL, 0, 4, by decide⟩,
    ⟨opened, 100000000000, 0, by decide⟩,
    ⟨prepared, 60000000000, 0, by decide⟩,
    ⟨armed, 10000, 0, true, by decide⟩,
    ⟨armedSync, 5, 3, false, by decide⟩,
    ⟨armedSync, 100000000000, 0, by decide⟩,
    ⟨armed, 25000, 0, by decide⟩,
    ⟨recorded, 5, 0, [], false, by decide⟩,
    ⟨disabling, 5, 6, 0, ⟨0x06, 0, cx, 0, 0, false⟩, by decide⟩⟩

theorem test_wit_OutletEvents :
    (∃ (s : State) (t n : Nat) (h l : Int) (p : PilotOut), let a := s.advance t; a.up = true ∧
      (a.outlet n).periodAt + 998000 ≤ a.mtb ∧ (a.outlet n).outNext = some p ∧ (a.os n).safeSince = none) ∧
    (∃ (s : State) (t n k : Nat) (h l : Int) (p : PilotOut), let a := s.advance t; a.up = true ∧
      (a.outlet n).periodAt + 998000 ≤ a.mtb ∧ (a.outlet n).outNext = some p ∧ (a.os n).safeSince = some k) ∧
    (∃ (s : State) (t n : Nat) (h l : Int), let a := s.advance t; a.up = true ∧ (a.outlet n).periodAt + 998000 ≤
      a.mtb ∧ (a.outlet n).outNext = none) ∧
    (∃ (s : State) (n d : Nat) (h l : Int), (s.outlet n).out = .pwm d ∧ s.railOut 11 = false ∧ s.railOut 12 = false) ∧
    (∃ (s : State) (t n : Nat) (p : Pilot), let a := s.advance t; a.up = true ∧ n < 8 ∧ (a.outlet n).cand = some p ∧
      a.rd R.OUT_POLICY_FILT_PER ≤ (a.outlet n).agree ∧ p ≠ (a.outlet n).pilot) ∧
    (∃ (s : State) (n : Nat) (p : Pilot), p ≠ .a ∧ p ≠ .e ∧ s.hostControlled n = true) ∧
    (∃ (s : State) (t n : Nat), let a := s.advance t; a.up = true ∧ (3 ≤ (a.outlet n).badLow ∨ 10 ≤
      (a.outlet n).noAccept) ∧ (a.outlet n).st.live = false) ∧
    (∃ (s : State) (t n ohms : Nat), let a := s.advance t; a.up = true ∧ a.muted = false ∧
      a.rd R.OUT_CFG_PP_MODE n = 1 ∧ (a.outlet n).st = .idle) ∧
    (∃ (r : Nat) (b : Bool), r ≤ 4500) ∧
    (∃ (s : State) (t n d : Nat), let a := s.advance t; a.up = true ∧ (a.outlet n).authDue = some d ∧ d ≤ a.mtb ∧
      (a.outlet n).ident = none ∧ ((a.outlet n).st = .connected ∨ (a.outlet n).st = .negotiating)) ∧
    (∃ (s : State) (n r : Nat), 1 ≤ r ∧ r < 32) ∧
    (∃ (s : State) (t n : Nat) (w : Nat) (b : Bool), let a := s.advance t; a.up = true ∧ n < 8 ∧
      (a.outlet n).hlcRunning = true) ∧
    (∃ (s : State) (t n : Nat) (p q : Nat) (r : List Nat), let a := s.advance t; a.up = true ∧ n < 8 ∧
      (a.outlet n).hlcRunning = true ∧ (a.outlet n).st = .negotiating ∧ ((q ::
      r).find? fun k => (a.protocolsOffered n).contains k) = some p) ∧
    (∃ (s : State) (t n : Nat), let a := s.advance t; a.up = true ∧ (a.outlet n).hlcRunning = true) ∧
    (∃ (s : State) (t : Nat) (c : HeldCard), let a := s.advance t; a.up = true ∧ a.out.card = some c ∧ c.until_ ≤
      a.mtb) :=
  ⟨⟨(outAt 0 fun o => { o with outNext := some (.pwm 50) }), 998000, 0, 1200, (-1200), (.pwm 50), by decide⟩,
    ⟨((outAt 0 fun o => { o with outNext := some (.pwm 50) }).modOs 0 fun o => { o with safeSince := some 7 }), 998000, 0, 7, 1200, (-1200), (.pwm 50), by decide⟩,
    ⟨run, 998000, 0, 1200, (-1200), by decide⟩,
    ⟨(outAt 0 fun o => { o with out := .pwm 100 }), 0, 100, 900, (-1200), by decide⟩,
    ⟨(outAt 0 fun o => { o with cand := some .b, agree := 300 }), 5, 0, .b, by decide⟩,
    ⟨(run.wr R.OUT_CFG_CTRL 0 1), 0, .b, by decide⟩,
    ⟨(outAt 0 fun o => { o with badLow := 3 }), 5, 0, by decide⟩,
    ⟨(run.wr R.OUT_CFG_PP_MODE 0 1), 5, 0, 220, by decide⟩,
    ⟨1100, true, by decide⟩,
    ⟨(outAt 0 fun o => { o with authDue := some 3, st := .connected }), 5, 0, 3, by decide⟩,
    ⟨run, 3, 6, by decide⟩,
    ⟨(outAt 0 fun o => { o with hlcRunning := true }), 5, 0, 11000, false, by decide⟩,
    ⟨((outAt 0 fun o => { o with hlcRunning := true, st := .negotiating }).wr R.OUT_CFG_ISO2_EN 0 1), 5, 0, 2, 2, [], by decide⟩,
    ⟨(outAt 0 fun o => { o with hlcRunning := true }), 5, 0, by decide⟩,
    ⟨carded, 5, ⟨.plain 1 1 7, 3, none, false⟩, by decide⟩⟩

theorem test_wit_PowerModuleEvents :
    (∃ (s : State) (t b c : Nat) (f : List Byte), let a := s.advance t; a.up = true ∧
      State.statusValid (f.map (·.toNat)) = false) ∧
    (∃ (s : State) (t b c n i : Nat) (f : List Byte), let a := s.advance t; a.up = true ∧
      State.statusValid (f.map (·.toNat)) = true ∧ a.pmOf b c 2 = some (n, i)) ∧
    (∃ (s : State) (t b c n i p q r v w k z : Nat), let a := s.advance t; a.up = true ∧ a.pmOf b c 3 = some (n, i)) ∧
    (∃ (s : State) (t b c n i k v : Nat), let a := s.advance t; a.up = true ∧ a.pmOf b c 4 = some (n, i)) ∧
    (∃ (s : State) (t n i k : Nat), let a := s.advance t; a.up = true ∧ (a.pm n i).seenAt = some k ∧
      (a.pm n i).lost = false ∧ k + 50 * 10 ^ 6 ≤ a.mtb) ∧
    (∃ (s : State) (t n : Nat), let a := s.advance t; a.up = true ∧ a.livePms n ≠ 0 ∧ a.muted = false) ∧
    (∃ (s : State) (t : Nat), let a := s.advance t; a.up = true ∧ a.muted = false) ∧
    (∃ (s : State) (t : Nat), let a := s.advance t; a.up = true ∧ t % 10 ^ 9 = 0 ∧ a.out.lastRun < a.mtb / 10 ^ 9 ∧
      a.reserveRole = false) ∧
    (∃ (s : State) (t : Nat), let a := s.advance t; a.up = true ∧ (t % 10 ^ 9 ≠ 0 ∨ a.mtb / 10 ^ 9 ≤ a.out.lastRun)) ∧
    (∃ (s : State) (l c : Nat), s.siteLimit = (l, c) ∧ (List.range 8).filter s.shares = []) ∧
    (∃ (s : State) (t d : Nat), let a := s.advance t; a.up = true ∧ a.out.trellisDue = some d ∧ d ≤ a.mtb) ∧
    (∃ (s : State) (t n : Nat) (e : EnfStep), let a := s.advance t; a.up = true ∧ (a.outlet n).enfSteps = [e] ∧
      e.due ≤ a.mtb) ∧
    (∃ (s : State) (t n : Nat), let a := s.advance t; a.up = true ∧ (a.outlet n).st = .paused ∧
      a.rd R.OUT_POLICY_MAX_WAIT_MIN ≠ 0 ∧ a.rd R.OUT_POLICY_MAX_WAIT_MIN ≤
      (a.mtb - (a.outlet n).pausedAt) / (60 * 10 ^ 9)) :=
  ⟨⟨run, 5, 0, 16, [1, 2], by decide⟩,
    ⟨dcPm, 5, 0, 0x2000010, 0, 0, goodFrame, by decide⟩,
    ⟨dcPm, 5, 0, 0x3000010, 0, 0, 1, 2, 3, 4, 5, 6, 7, by decide⟩,
    ⟨dcPm, 5, 0, 0x4000010, 0, 0, 3, 1, by decide⟩,
    ⟨dcPm, 60000000, 0, 0, 1, by decide⟩,
    ⟨dcPm, 5, 0, by decide⟩,
    ⟨run, 5, by decide⟩,
    ⟨run, 1000000000, by decide⟩,
    ⟨run, 5, by decide⟩,
    ⟨run, run.siteLimit.1, run.siteLimit.2, by decide⟩,
    ⟨({ run with out := { run.out with trellisDue := some 3 } }), 5, 3, by decide⟩,
    ⟨(outAt 0 fun o => { o with enfSteps := [⟨1, 2⟩] }), 5, 0, ⟨1, 2⟩, by decide⟩,
    ⟨((outAt 0 fun o => { o with st := .paused }).wr R.OUT_POLICY_MAX_WAIT_MIN 0 1), 60000000000, 0, by decide⟩⟩

theorem test_wit_OutletCommands :
    (∃ (s : State) (x : Ctx) (n cfg dc : Nat), let b := s.advance x.t; let a := b.start x;
      b.takes x Op.OUT_CONFIG n = true ∧ n < 8 ∧ (a.outlet n).st.live = false ∧
      State.outCfgFields.any (fun F => !State.inRange F (State.imageField F cfg)) = false ∧
      State.outDcFields.any (fun F => !State.inRange F (State.imageField F dc)) = false ∧
      a.mpTaken n (State.imageField R.OUT_CFG_MP cfg) = false) ∧
    (∃ (s : State) (x : Ctx) (n cfg dc : Nat), let b := s.advance x.t; let a := b.start x;
      b.takes x Op.OUT_CONFIG n = true ∧ n < 8 ∧ (a.outlet n).st.live = true ∧ a.cfgChangesLive n cfg = true) ∧
    (∃ (s : State) (x : Ctx) (n : Nat), let b := s.advance x.t; let a := b.start x;
      b.takes x Op.OUT_AVAILABILITY n = true ∧ n < 8 ∧ (a.outlet n).st = .energy) ∧
    (∃ (s : State) (x : Ctx) (n : Nat), let b := s.advance x.t; let a := b.start x;
      b.takes x Op.OUT_AVAILABILITY n = true ∧ n < 8 ∧ a.keyMode ≠ 4 ∧ (a.flag R.OUT_CFG_TETHERED n = false ∨
      a.flag R.TAG_CABLE_EOL n = false ∧ a.rd R.TAG_CABLE_STATE n ≠ 2) ∧ (a.outlet n).st ≠ .outOfService) ∧
    (∃ (s : State) (x : Ctx) (n m : Nat), let b := s.advance x.t; let a := b.start x;
      b.takes x Op.OUT_AVAILABILITY n = true ∧ (8 ≤ n ∨ 3 ≤ m)) ∧
    (∃ (s : State) (x : Ctx) (n k : Nat) (i : List Byte), let b := s.advance x.t; let a := b.start x;
      b.takes x Op.SESSION_AUTHORISE n = true ∧ n < 8 ∧ i.length ≤ 32 ∧ a.flag R.OUT_CFG_EIM_EN n = true ∧
      (a.outlet n).ident = none ∧ ((a.outlet n).st = .connected ∨ (a.outlet n).st = .negotiating)) ∧
    (∃ (s : State) (x : Ctx) (n k : Nat) (i : List Byte), let b := s.advance x.t; let a := b.start x;
      b.takes x Op.SESSION_AUTHORISE n = true ∧ n < 8 ∧ i.length ≤ 32 ∧ a.flag R.OUT_CFG_EIM_EN n = true ∧
      (a.outlet n).ident ≠ none) ∧
    (∃ (s : State) (x : Ctx) (m p : Nat), let b := s.advance x.t; let a := b.start x;
      b.takes x Op.SESSION_STOP 0xFF = true ∧ a.reserveRole = false) ∧
    (∃ (s : State) (n : Nat), n < 8 ∧ ((s.outlet n).st = .ready ∨ (s.outlet n).st = .energy ∨ (s.outlet n).st =
      .paused)) ∧
    (∃ (s : State) (x : Ctx) (m p : Nat), let b := s.advance x.t; let a := b.start x; b.takes x Op.OUT_EREM 0xFF =
      true ∧ a.reserveRole = false) ∧
    (∃ (s : State) (n : Nat), n < 8 ∧ (s.outlet n).st.live = false) ∧
    (∃ (s : State) (x : Ctx) (w : Nat), let b := s.advance x.t; let a := b.start x;
      b.takes x Op.OUT_SITE_LIMIT 0xFF = true ∧ w < 2 ^ 32) ∧
    (∃ (s : State) (x : Ctx) (n c : Nat), let b := s.advance x.t; let a := b.start x;
      b.takes x Op.SESSION_SET_CLASS n = true) ∧
    (∃ (s : State) (x : Ctx) (n : Nat), let b := s.advance x.t; let a := b.start x; b.takes x Op.SESSION_QUERY n =
      true ∧ n < 8) ∧
    (∃ (s : State) (x : Ctx) (n : Nat) (c : HeldCard), let b := s.advance x.t; let a := b.start x;
      b.takes x Op.OUT_SELECT n = true ∧ n < 8 ∧ a.out.card = some c ∧ a.sourceOn n c.ident = true ∧
      a.unauthorised.contains n = false) ∧
    (∃ (s : State) (x : Ctx) (n : Nat), let b := s.advance x.t; let a := b.start x; b.takes x Op.OUT_SELECT n =
      true ∧ a.out.card = none) ∧
    (∃ (s : State) (x : Ctx) (n : Nat), let b := s.advance x.t; let a := b.start x; b.takes x Op.OUT_CONTACTOR n =
      true ∧ b.heldBy 16 (.contactor n false) = none ∧ b.actDisabled (some (.contactor n false)) = false ∧ n < 8 ∧
      a.hostControlled n = true) ∧
    (∃ (s : State) (x : Ctx) (n : Nat), let b := s.advance x.t; let a := b.start x; b.takes x Op.OUT_CONTACTOR n =
      true ∧ b.heldBy 16 (.contactor n true) = none ∧ b.actDisabled (some (.contactor n true)) = false ∧ n < 8 ∧
      a.hostControlled n = true ∧ a.closed n = false) ∧
    (∃ (s : State) (n : Nat) (x : Ctx), (s.outlet n).hostClose = [x] ∧ (s.os n).testing = false) ∧
    (∃ (s : State) (x : Ctx) (n : Nat), let b := s.advance x.t; let a := b.start x; b.takes x Op.OUT_CONTACTOR n =
      true ∧ b.heldBy 16 (.contactor n true) = none ∧ b.actDisabled (some (.contactor n true)) = false ∧ n < 8 ∧
      a.hostControlled n = true ∧ a.closed n = true) ∧
    (∃ (s : State) (x : Ctx) (n : Nat) (c : Bool), let b := s.advance x.t; let a := b.start x;
      b.takes x Op.OUT_CONTACTOR n = true ∧ b.heldBy 16 (.contactor n c) = none ∧
      b.actDisabled (some (.contactor n c)) = false ∧ n < 8 ∧ a.hostControlled n = false) ∧
    (∃ (s : State) (x : Ctx) (n d : Nat), let b := s.advance x.t; let a := b.start x;
      b.takes x Op.OUT_PILOT_DUTY n = true ∧ b.heldBy 16 (.pilotDuty n d) = none ∧
      b.actDisabled (some (.pilotDuty n d)) = false ∧ n < 8 ∧ (d = 50 ∨ 100 ≤ d ∧ d ≤ 960 ∨ d = 0xFFFF ∨ d =
      0xFFFE) ∧ a.hostControlled n = true ∧ a.refusedNow (.pilotDuty n d) = none) ∧
    (∃ (s : State) (x : Ctx) (n m v c w : Nat), let b := s.advance x.t; let a := b.start x;
      b.takes x Op.OUT_PM_SETPOINT n = true ∧ b.heldBy 16 (.pmSetpoint n m v c w) = none ∧
      b.actDisabled (some (.pmSetpoint n m v c w)) = false ∧ n < 8 ∧ m < 4 ∧ v < 65536 ∧ c < 65536 ∧ w < 65536 ∧
      (m = 2 → a.flag R.OUT_CFG_BIDIR n = true) ∧ a.hostControlled n = true ∧ a.refusedNow (.pmSetpoint n m v c w) =
      none) ∧
    (∃ (s : State) (x : Ctx) (n : Nat) (d : List Byte), let b := s.advance x.t; let a := b.start x;
      b.takes x Op.OUT_CERT_RESPONSE n = true ∧ n < 8 ∧ (a.outlet n).certAsked = true) :=
  ⟨⟨(fetched Op.OUT_CONFIG cx run), cx, 3, goodCfg, goodDc, by decide⟩,
    ⟨(fetched Op.OUT_CONFIG cx (outAt 3 fun o => { o with st := .energy })), cx, 3, 1, 0, by decide⟩,
    ⟨(fetched Op.OUT_AVAILABILITY cx (outAt 3 fun o => { o with st := .energy })), cx, 3, by decide⟩,
    ⟨(fetched Op.OUT_AVAILABILITY cx run), cx, 3, by decide⟩,
    ⟨(fetched Op.OUT_AVAILABILITY cx run), cx, 3, 3, by decide⟩,
    ⟨(fetched Op.SESSION_AUTHORISE cx ((outAt 3 fun o => { o with st := .connected }).wr R.OUT_CFG_EIM_EN 3 1)), cx, 3, 1, [5], by decide⟩,
    ⟨(fetched Op.SESSION_AUTHORISE cx ((outAt 3 fun o => { o with ident := some (.plain 2 1 1) }).wr R.OUT_CFG_EIM_EN 3 1)), cx, 3, 1, [5], by decide⟩,
    ⟨(fetched Op.SESSION_STOP cx run), cx, 255, 0, by decide⟩,
    ⟨(outAt 3 fun o => { o with st := .energy }), 3, by decide⟩,
    ⟨(fetched Op.OUT_EREM cx run), cx, 255, 0, by decide⟩,
    ⟨run, 3, by decide⟩,
    ⟨(fetched Op.OUT_SITE_LIMIT cx run), cx, 11000, by decide⟩,
    ⟨(fetched Op.SESSION_SET_CLASS cx (outAt 3 fun o => { o with st := .energy })), cx, 3, 2, by decide⟩,
    ⟨(fetched Op.SESSION_QUERY cx run), cx, 3, by decide⟩,
    ⟨(fetched Op.OUT_SELECT cx carded), cx, 3, ⟨.plain 1 1 7, 3, none, false⟩, by decide⟩,
    ⟨(fetched Op.OUT_SELECT cx run), cx, 3, by decide⟩,
    ⟨(fetched Op.OUT_CONTACTOR cx (run.wr R.OUT_CFG_CTRL 3 1)), cx, 3, by decide⟩,
    ⟨(fetched Op.OUT_CONTACTOR cx closable), cx, 3, by decide⟩,
    ⟨(closable.modOutlet 3 fun o => { o with hostClose := [cx] }), 3, cx, by decide⟩,
    ⟨(fetched Op.OUT_CONTACTOR cx (closable.modCoil 6 fun c => { c with hs := true, ls := true, mirrorOpen := false })), cx, 3, by decide⟩,
    ⟨(fetched Op.OUT_CONTACTOR cx run), cx, 3, true, by decide⟩,
    ⟨(fetched Op.OUT_PILOT_DUTY cx (run.wr R.OUT_CFG_CTRL 3 1)), cx, 3, 0xFFFF, by decide⟩,
    ⟨(fetched Op.OUT_PM_SETPOINT cx (run.wr R.OUT_CFG_CTRL 3 1)), cx, 3, 0, 400, 0, 0, by decide⟩,
    ⟨(fetched Op.OUT_CERT_RESPONSE cx (outAt 3 fun o => { o with certAsked := true })), cx, 3, [1], by decide⟩⟩

theorem test_wit_SlacEvents :
    (∃ (s : State) (t k : Nat) (p : List Nat), let a := s.advance t; a.up = true ∧ a.slacRun k = none ∧
      p.filter a.slacTakesPart ≠ []) ∧
    (∃ (s : State) (t k : Nat) (r : SlacRun), let a := s.advance t; a.up = true ∧ a.slacRun k = some r ∧
      r.windowEnd = none ∧ r.holders = []) ∧
    (∃ (s : State) (t k w p : Nat) (g : List Nat) (r : SlacRun), let a := s.advance t; a.up = true ∧ a.slacRun k =
      some r ∧ r.windowEnd = some w ∧ a.mtb ≤ w) ∧
    (∃ (s : State) (t : Nat), let a := s.advance t; a.up = true) ∧
    (∃ (s : State) (r : SlacRun) (l : List Nat) (p q : Nat) (z : List Nat),
      (State.slacHeard r).filter (fun j => !l.contains j) = p :: q :: z ∧ s.slacTakesPart p = true) ∧
    (∃ (s : State) (r : SlacRun) (l : List Nat), (State.slacHeard r).filter (fun j => !l.contains j) = []) ∧
    (∃ (s : State) (t k n : Nat) (r : SlacRun), let a := s.advance t; a.up = true ∧ a.slacRun k = some r ∧ r.amb =
      true ∧ 1 ≤ n ∧ n ≤ 3) ∧
    (∃ (s : State) (t k p : Nat) (r : SlacRun), let a := s.advance t; a.up = true ∧ a.slacRun k = some r ∧
      State.slacMatched r = some p ∧ a.slacTakesPart p = true ∧ a.drbgOk = true) ∧
    (∃ (s : State) (t k : Nat) (r : SlacRun), let a := s.advance t; a.up = true ∧ a.slacRun k = some r ∧ r.holders ≠
      []) ∧
    (∃ (s : State) (t n d : Nat), let a := s.advance t; a.up = true ∧ (a.outlet n).slacRetryDue = some d ∧ d ≤
      a.mtb ∧ (a.outlet n).st = .connected) ∧
    (∃ (s : State) (n : Nat), (s.outlet n).slacFails < 2) :=
  ⟨⟨slacOut, 5, 9, [3, 4], by decide⟩,
    ⟨(slacWith slac0), 5, 9, slac0, by decide⟩,
    ⟨(slacWith slac1), 5, 9, 600000000, 2, [10, 20], slac1, by decide⟩,
    ⟨(slacWith slac1), 600000000, by decide⟩,
    ⟨slacOut, slac2, [], 3, 4, [], by decide⟩,
    ⟨run, slac0, [], by decide⟩,
    ⟨(slacWith { slac0 with holders := [3, 4], amb := true }), 5, 9, 2, { slac0 with holders := [3, 4], amb := true }, by decide⟩,
    ⟨(drbgRun (slacWith { slac0 with holders := [3] })), 5, 9, 3, { slac0 with holders := [3] }, by decide⟩,
    ⟨(slacWith { slac0 with holders := [3] }), 5, 9, { slac0 with holders := [3] }, by decide⟩,
    ⟨(outAt 3 fun o => { o with st := .connected, slacRetryDue := some 4 }), 5, 3, 4, by decide⟩,
    ⟨run, 3, by decide⟩⟩

theorem test_wit_FrontEndAndScanner :
    (∃ (s : State) (t c : Nat), let a := s.advance t; a.core = true ∧ c < 64 ∧ a.afeEn c = true ∧
      a.afe.ovlEvAt1.get 0 c = 0) ∧
    (∃ (s : State) (t c : Nat), let a := s.advance t; a.core = true ∧ 48 ≤ c ∧ c < 64 ∧ a.afeEn c = true ∧
      a.flag R.AFE_CH_STAT_LOST c = false) ∧
    (∃ (s : State) (t c : Nat), let a := s.advance t; a.core = true ∧ 48 ≤ c ∧ c < 64 ∧
      a.flag R.AFE_CH_STAT_LOST c = true) ∧
    (∃ (s : State) (t q : Nat), let a := s.advance t; a.up = true ∧ q < 4 ∧ a.flag R.AFE_SEQ_CTL_EN q = true ∧
      a.afe.dueMet1.get 0 q ≤
      a.mtb / max 1 (1000 * a.rd R.AFE_SEQ_CTL_PERIOD_US q) * (1000 * a.rd R.AFE_SEQ_CTL_PERIOD_US q) ∧
      bit a.afe.pend q = true) ∧
    (∃ (s : State) (t q : Nat), let a := s.advance t; a.up = true ∧ q < 4 ∧ a.flag R.AFE_SEQ_CTL_EN q = true ∧
      a.afe.dueMet1.get 0 q ≤
      a.mtb / max 1 (1000 * a.rd R.AFE_SEQ_CTL_PERIOD_US q) * (1000 * a.rd R.AFE_SEQ_CTL_PERIOD_US q) ∧
      bit a.afe.pend q = false) ∧
    (∃ (s : State) (t q : Nat), let a := s.advance t; a.up = true ∧ (a.flag R.AFE_SEQ_CTL_EN q = false ∨
      a.mtb / max 1 (1000 * a.rd R.AFE_SEQ_CTL_PERIOD_US q) * (1000 * a.rd R.AFE_SEQ_CTL_PERIOD_US q) <
      a.afe.dueMet1.get 0 q)) ∧
    (∃ (s : State) (t : Nat) (v : List Int) (w : Bool) (r : AuxRun), let a := s.advance t; a.up = true ∧
      a.afe.run.get none 0 = some r ∧ r.at_ + a.entryTime r ≤ a.mtb ∧ r.entry + 1 < a.rd R.AFE_SEQ_CTL_LEN r.seq) ∧
    (∃ (s : State) (t n : Nat) (v : List Int) (w : Bool) (r : AuxRun), let a := s.advance t; a.up = true ∧
      a.auxDecide.afe.run.get none 1 = some r ∧ r.len = some n ∧ r.at_ +
      50000 * a.auxDecide.rd R.AFE_SEQ_ENT_SETTLE (State.entIx r.seq r.entry) + n ≤ a.mtb ∧
      a.rd R.AFE_SEQ_CTL_CONV r.seq = 1 ∧ a.rd R.AFE_SEQ_CTL_LEN r.seq ≤ r.entry + 1) ∧
    (∃ (s : State) (i k : Nat) (v : List Int) (w f l : Bool), i < 64 ∧ k < 2) ∧
    (∃ (v : List Int), v ≠ []) ∧
    (∃ (s : State) (i k : Nat) (z : Int), k = 0 ∧ -2147483648 ≤
      idivRound ((z - s.rdInt R.AFE_AUX_CAL_Z_P i) * dec 32 (s.rd R.AFE_AUX_CAL_G_P i)) (2 ^ 24) +
      dec 32 (s.rd R.AFE_AUX_CAL_Y0_P i) ∧
      idivRound ((z - s.rdInt R.AFE_AUX_CAL_Z_P i) * dec 32 (s.rd R.AFE_AUX_CAL_G_P i)) (2 ^ 24) +
      dec 32 (s.rd R.AFE_AUX_CAL_Y0_P i) ≤ 2147483647) ∧
    (∃ (s : State) (x : Ctx) (q c : Nat) (e : List Nat), let b := s.advance x.t; let a := b.start x;
      b.takes x Op.AFE_SEQ_LOAD q = true ∧ a.seqBad q c e = none ∧ a.passRuns q = false) ∧
    (∃ (s : State) (x : Ctx) (q c r : Nat) (e : List Nat), let b := s.advance x.t; let a := b.start x;
      b.takes x Op.AFE_SEQ_LOAD q = true ∧ a.seqBad q c e = some r ∧ r ≠ St.ACCEPTED) ∧
    (∃ (s : State) (x : Ctx) (q : Nat), let b := s.advance x.t; let a := b.start x; b.takes x Op.AFE_SEQ_EN q =
      true ∧ q < 4) ∧
    (∃ (s : State) (x : Ctx) (q : Nat), let b := s.advance x.t; let a := b.start x; b.takes x Op.AFE_SEQ_EN q =
      true ∧ q < 4 ∧ a.passRuns q = false) ∧
    (∃ (s : State) (x : Ctx) (i k st n : Nat) (v : List Int) (w : Bool), let b := s.advance x.t; let a := b.start x;
      b.takes x Op.AFE_AUX_ONESHOT i = true ∧ i < 64 ∧ k < 2 ∧ 1 ≤ st ∧ st ≤ 255 ∧ n ≤ 8 ∧ a.pairBad i = false) ∧
    (∃ (s : State) (x : Ctx) (i k st n : Nat) (v : List Int) (w : Bool), let b := s.advance x.t; let a := b.start x;
      b.takes x Op.AFE_AUX_ONESHOT i = true ∧ i < 64 ∧ k < 2 ∧ 1 ≤ st ∧ st ≤ 255 ∧ n ≤ 8 ∧ i % 2 = 1 ∧
      a.flag R.AFE_AUX_IN_DIFF (i - 1) = true ∧ a.flag R.AFE_AUX_IN_EN (i - 1) = true) ∧
    (∃ (s : State) (x : Ctx) (i k : Nat) (y : Int) (v : List Int) (w : Bool), let b := s.advance x.t;
      let a := b.start x; b.takes x Op.AFE_CAL_ZERO i = true ∧ i < 64 ∧ k < 2 ∧ a.pairBad i = false ∧
      a.auxOver i k (v.take (if k = 0 then 256 else 16)) w = false) ∧
    (∃ (s : State) (x : Ctx) (i k : Nat) (y : Int) (v : List Int) (w : Bool), let b := s.advance x.t;
      let a := b.start x; b.takes x Op.AFE_CAL_SPAN i = true ∧ i < 64 ∧ k < 2 ∧ a.pairBad i = false ∧
      (a.afe.zeros.get ⟨0, 0, 0⟩ (2 * i + k)).at1 = 0) ∧
    (∃ (s : State) (x : Ctx) (i : Nat) (y : Int) (v : List Int) (w : Bool) (q : CalZero), let b := s.advance x.t;
      let a := b.start x; b.takes x Op.AFE_CAL_SPAN i = true ∧ i < 64 ∧ a.pairBad i = false ∧
      a.afe.zeros.get ⟨0, 0, 0⟩ (2 * i) = q ∧ q.at1 ≠ 0 ∧ a.mtb + 1 ≤ q.at1 + 600 * 10 ^ 9 ∧
      a.auxOver i 0 (v.take 256) w = false ∧ 65536 ≤ State.auxCode 0 (v.take 256) - q.code ∧ -2147483648 ≤
      idivRound ((y - q.y0) * 2 ^ 24) (State.auxCode 0 (v.take 256) - q.code).natAbs ∧
      idivRound ((y - q.y0) * 2 ^ 24) (State.auxCode 0 (v.take 256) - q.code).natAbs ≤ 2147483647) ∧
    (∃ (s : State) (x : Ctx) (i : Nat), let b := s.advance x.t; let a := b.start x; b.takes x Op.AFE_CAL_RESTORE i =
      true ∧ i < 64) ∧
    (∃ (s : State) (x : Ctx) (p f n : Nat), let b := s.advance x.t; let a := b.start x; b.takes x Op.AFE_CAPTURE 0 =
      true ∧ p < 11 ∧ (f = 1 ∨ f = 3) ∧ (a.cap p).on = false) ∧
    (∃ (s : State) (x : Ctx) (p : Nat) (l : List (Nat × Nat × List (List Int))), let b := s.advance x.t;
      let a := b.start x; b.takes x Op.AFE_CAPTURE_STOP 0 = true ∧ p < 11 ∧ (a.cap p).on = true) :=
  ⟨⟨mods, 5, 3, by decide⟩,
    ⟨mods, 5, 48, by decide⟩,
    ⟨(mods.wr R.AFE_CH_STAT_LOST 48 1), 5, 48, by decide⟩,
    ⟨(let s := run.wr R.AFE_SEQ_CTL_EN 1 1; { s with afe := { s.afe with pend := 2 } }), 5, 1, by decide⟩,
    ⟨(run.wr R.AFE_SEQ_CTL_EN 1 1), 5, 1, by decide⟩,
    ⟨run, 5, 1, by decide⟩,
    ⟨(let s := run.wr R.AFE_SEQ_CTL_LEN 0 2; { s with afe := { s.afe with run := s.afe.run.put none 0 (some ⟨0, 0, 0, none, false, false⟩) } }), 1000000, [5, 7], false, ⟨0, 0, 0, none, false, false⟩, by decide⟩,
    ⟨(let s := run.wr R.AFE_SEQ_CTL_CONV 0 1; { s with afe := { s.afe with run := s.afe.run.put none 1 (some ⟨0, 0, 0, some 20000000, true, false⟩) } }), 30000000, 20000000, [500], false, ⟨0, 0, 0, some 20000000, true, false⟩, by decide⟩,
    ⟨run, 3, 0, [-700], false, false, false, by decide⟩,
    ⟨[3000, 5], by decide⟩,
    ⟨run, 3, 0, 1000, by decide⟩,
    ⟨(fetched Op.AFE_SEQ_LOAD cx auxIn), cx, 0, seqCtl, [seqEnt], by decide⟩,
    ⟨(fetched Op.AFE_SEQ_LOAD cx run), cx, 4, 0, St.BAD_PARAM, [], by decide⟩,
    ⟨(fetched Op.AFE_SEQ_EN cx run), cx, 2, by decide⟩,
    ⟨(fetched Op.AFE_SEQ_EN cx run), cx, 2, by decide⟩,
    ⟨(fetched Op.AFE_AUX_ONESHOT cx run), cx, 2, 0, 10, 0, [1000], false, by decide⟩,
    ⟨(fetched Op.AFE_AUX_ONESHOT cx ((run.wr R.AFE_AUX_IN_DIFF 2 1).wr R.AFE_AUX_IN_EN 2 1)), cx, 3, 0, 10, 0, [1000], false, by decide⟩,
    ⟨(fetched Op.AFE_CAL_ZERO cx run), cx, 2, 0, 0, [10, 20], false, by decide⟩,
    ⟨(fetched Op.AFE_CAL_SPAN cx run), cx, 2, 0, 0, [1000], false, by decide⟩,
    ⟨(fetched Op.AFE_CAL_SPAN cx (let s := run; { s with afe := { s.afe with zeros := s.afe.zeros.put ⟨0, 0, 0⟩ 4 ⟨3, 0, 0⟩ } })), cx, 2, 10000, [1000], false, ⟨3, 0, 0⟩, by decide⟩,
    ⟨(fetched Op.AFE_CAL_RESTORE cx run), cx, 2, by decide⟩,
    ⟨(fetched Op.AFE_CAPTURE cx run), cx, 2, 1, 100, by decide⟩,
    ⟨(fetched Op.AFE_CAPTURE_STOP cx (run.setCap 2 ⟨true, 1, 100, false⟩)), cx, 2, [(2, 5, [[1], [2]])], by decide⟩⟩

theorem test_wit_SafetyChannelEvents :
    (∃ (s : State) (t m : Nat) (l : List Int), let a := s.advance t; a.core = true ∧ a.safe.cycleAt + 970000 ≤
      a.mtb) ∧
    (∃ (s : State) (t m : Nat) (l : List Int), let a := s.advance t; a.core = true ∧ a.mtb < a.safe.cycleAt +
      970000) ∧
    (∃ (s : State) (n : Nat), n < 8) ∧
    (∃ (s : State) (m k : Nat), k < 16) ∧
    (∃ (s : State) (k : Nat), (s.coil k).hs = false ∧ (s.coil k).phase ≠ .hsTest ∧ (s.coil k).stuckLs = false) ∧
    (∃ (s : State) (n : Nat) (l : Int) (p : Pilot), s.outType n ≠ 0 ∧ s.drivenF n = false ∧ pilotOf l = some p ∧ p ≠
      .a ∧ (s.os n).candB = some p ∧ p ≠ (s.os n).pilotB ∧ 150 ≤ l ∧ 1 ≤ s.safe.pilotFiltB) ∧
    (∃ (s : State) (t : Nat), let a := s.advance t; a.core = true ∧ a.safe.tableAt + 97 * 10 ^ 6 ≤ a.mtb ∧
      a.safe.hashOk = true) ∧
    (∃ (s : State) (t : Nat) (c : Bool), let a := s.advance t; a.core = true ∧ a.safe.tableAt + 97 * 10 ^ 6 ≤
      a.mtb ∧ (c = false ∨ a.safe.hashOk = false) ∧ bit a.safe.modActive fTABLE_FAIL = false) ∧
    (∃ (s : State) (t : Nat) (c : Bool), let a := s.advance t; a.core = true ∧ a.mtb < a.safe.tableAt + 97 * 10 ^ 6) ∧
    (∃ (s : State) (t : Nat), let a := s.advance t; a.core = true ∧ a.safe.aliveAt + 9700000 ≤ a.mtb ∧
      bit a.safe.modActive fA_LOST = false) ∧
    (∃ (s : State) (t : Nat) (z : Beat), let a := s.advance t; a.core = true ∧ z.crc = crc16 (State.beatBytes z)) ∧
    (∃ (s : State) (t : Nat) (z : Beat), let a := s.advance t; a.core = true ∧ z.crc ≠ crc16 (State.beatBytes z)) ∧
    (∃ (s : State) (t : Nat), let a := s.advance t; a.core = true ∧ a.safe.heartbeatAt + 10 * 10 ^ 6 ≤ a.mtb ∧
      bit a.safe.modActive fB_LOST = false) ∧
    (∃ (s : State) (t c n h i d : Nat) (r : Int), let a := s.advance t; a.core = true ∧ a.trippedAt c n h = some d ∧
      State.opposes c r = true ∧ max d i + 100 * 10 ^ 6 ≤ a.mtb ∧ bit a.safe.modActive fCH_DISC = false) ∧
    (∃ (s : State) (t c n h i : Nat) (r : Int), let a := s.advance t; a.core = true ∧ (a.trippedAt c n h = none ∨
      State.opposes c r = false)) ∧
    (∃ (s : State) (t : Nat), let a := s.advance t; a.up = true ∧ a.safe.steps123 = true ∧ a.safe.estopChecked = 3 ∧
      (List.range 8).all (fun n => a.outType n == 0 || a.rd R.SAFE_OUT_PROT_RCM_SRC n == 0xF || bit a.safe.tested n) =
      true) ∧
    (∃ (s : State) (c h i : Nat), c < 23 ∧ bit s.safe.modActive c = false) :=
  ⟨⟨run, 1000000, 0, [], by decide⟩,
    ⟨run, 5, 0, [], by decide⟩,
    ⟨run, 3, by decide⟩,
    ⟨run, 4, 2, by decide⟩,
    ⟨(coilAt 2 fun c => { c with ls := true }), 2, by decide⟩,
    ⟨((osAt 2 fun o => { o with candB := some .c, agreeB := 7 }).wr R.OUT_CFG_TYPE 2 1 |>.modOutlet 2 fun o => { o with out := .plus12 }), 2, 600, .c, by decide⟩,
    ⟨(safeWith fun f => { f with hashOk := true }), 100000000, by decide⟩,
    ⟨run, 100000000, true, by decide⟩,
    ⟨run, 5, true, by decide⟩,
    ⟨run, 10000000, by decide⟩,
    ⟨run, 5, ⟨7, 0, [], crc16 (State.beatBytes ⟨7, 0, [], 0⟩)⟩, by decide⟩,
    ⟨run, 5, ⟨7, 0, [], 0⟩, by decide⟩,
    ⟨run, 10000000, by decide⟩,
    ⟨(safeWith fun f => { f with modActive := 2, estopAOpen := true }), 100000000, 1, 0, 0, 0, 0, 0, by decide⟩,
    ⟨run, 100000000, 1, 0, 0, 0, 0, by decide⟩,
    ⟨(safeWith fun f => { f with steps123 := true, estopChecked := 3 }), 5, by decide⟩,
    ⟨(run.wr R.OUT_CFG_TYPE 2 1), 5, 0, 0, by decide⟩⟩

theorem test_wit_EstopAndInputEvents :
    (∃ (s : State) (t : Nat) (b : Bool), let a := s.advance t; a.core = true ∧ ((if b then a.safe.pulseAt.2 else
      a.safe.pulseAt.1) = 0 ∨ (if b then a.safe.pulseAt.2 else a.safe.pulseAt.1) + 97 * 10 ^ 6 ≤ a.mtb)) ∧
    (∃ (s : State) (t : Nat) (b o p : Bool), let a := s.advance t; a.core = true ∧ ((if b then a.safe.pulseAt.2 else
      a.safe.pulseAt.1) = 0 ∨ (if b then a.safe.pulseAt.2 else a.safe.pulseAt.1) + 97 * 10 ^ 6 ≤ a.mtb) ∧
      (o && !p) = false ∧ bit a.safe.modActive fESTOP_DISC = false) ∧
    (∃ (s : State) (t w : Nat) (b : Bool), let a := s.advance t; a.core = true ∧ 2500 ≤ w ∧
      bit a.safe.modActive fESTOP = false) ∧
    (∃ (s : State) (t w : Nat) (b : Bool), let a := s.advance t; a.core = true ∧ w < 2500) ∧
    (∃ (s : State) (t : Nat), let a := s.advance t; a.core = true ∧ a.safe.estopAOpen ≠ a.safe.estopBOpen ∧
      a.safe.estopAt + 50 * 10 ^ 6 ≤ a.mtb ∧ bit a.safe.modActive fESTOP_DISC = false) ∧
    (∃ (s : State) (t m w : Nat) (b : Bool), let a := s.advance t; a.core = true ∧ (8 ≤ m ∨ w <
      a.rd R.SAFE_IN_CFG_FILT_MS m)) ∧
    (∃ (s : State) (t m w : Nat) (b : Bool), let a := s.advance t; a.core = true ∧ m < 8 ∧
      a.rd R.SAFE_IN_CFG_FILT_MS m ≤ w) ∧
    (∃ (s : State) (t m w : Nat) (b : Bool), let a := s.advance t; a.core = true ∧ m < 8 ∧
      a.rd R.SAFE_IN_CFG_FILT_MS m ≤ w ∧ a.flag R.SAFE_IN_CFG_EN m = true ∧ a.rd R.SAFE_IN_CFG_ACTION m < 2 ∧ b =
      a.flag R.SAFE_IN_CFG_POL m ∧ a.inActive m = false) ∧
    (∃ (s : State) (n m : Nat), n < 8 ∧ m < 8 ∧ s.flag R.SAFE_IN_CFG_EN m = true ∧ s.rd R.SAFE_IN_CFG_ACTION m = 3 ∧
      bit (s.rd R.SAFE_IN_CFG_OUTLETS m) n = true ∧ s.inActive m = false) ∧
    (∃ (s : State) (n m : Nat) (b : Bool), n < 8 ∧ bit (s.os n).latched fSAFE_INPUT = false ∧
      (List.range 8).all (fun k => !(s.safeInLevel m b).inServes 3 n k || !(s.safeInLevel m b).inActive k) = true) ∧
    (∃ (s : State) (t k : Nat), let a := s.advance t; a.core = true ∧ a.flag R.SAFE_IMD_EN = true) ∧
    (∃ (s : State) (t n c d : Nat), let a := s.advance t; a.up = true ∧ (a.outlet n).cableCheck = some (c, d) ∧ d ≤
      a.mtb) ∧
    (∃ (s : State) (t n d : Nat), let a := s.advance t; a.up = true ∧ (a.os n).safeSince = some d ∧ d + 2 * 10 ^ 9 ≤
      a.mtb ∧ (a.os n).latched = 0 ∧ a.safe.modLatched = 0) ∧
    (∃ (s : State) (t l : Nat) (p q : Bool), let a := s.advance t; a.core = true ∧ 20000 ≤ l) ∧
    (∃ (s : State) (t l : Nat) (p q : Bool), let a := s.advance t; a.core = true ∧ l < 20000) ∧
    (∃ (s : State) (n : Nat), bit (s.os n).latched fSAFE_INPUT = true ∧ s.outCause n fSAFE_INPUT = false) ∧
    (∃ (s : State) (c : Nat), bit s.safe.modLatched c = true ∧ s.modCause c = true) :=
  ⟨⟨run, 5, true, by decide⟩,
    ⟨run, 5, true, false, false, by decide⟩,
    ⟨run, 5, 2500, true, by decide⟩,
    ⟨run, 5, 2499, true, by decide⟩,
    ⟨(safeWith fun f => { f with estopAOpen := true }), 50000000, by decide⟩,
    ⟨(run.wr R.SAFE_IN_CFG_FILT_MS 3 5), 5, 3, 4, true, by decide⟩,
    ⟨run, 5, 3, 1000, true, by decide⟩,
    ⟨((run.wr R.SAFE_IN_CFG_EN 3 1).wr R.SAFE_IN_CFG_ACTION 3 0), 5, 3, 1000, (run.flag R.SAFE_IN_CFG_POL 3), by decide⟩,
    ⟨(((run.wr R.SAFE_IN_CFG_EN 3 1).wr R.SAFE_IN_CFG_ACTION 3 3).wr R.SAFE_IN_CFG_OUTLETS 3 2), 1, 3, by decide⟩,
    ⟨(osAt 2 fun o => { o with active := 2 ^ 21 }), 2, 3, false, by decide⟩,
    ⟨(run.wr R.SAFE_IMD_EN 0 1), 5, 500, by decide⟩,
    ⟨(outAt 3 fun o => { o with cableCheck := some (1, 4) }), 5, 3, 1, 4, by decide⟩,
    ⟨((osAt 3 fun o => { o with safeSince := some 4 }).wr R.OUT_CFG_TYPE 3 1), 3000000000, 3, 4, by decide⟩,
    ⟨run, 5, 20000, false, false, by decide⟩,
    ⟨run, 5, 19999, false, false, by decide⟩,
    ⟨(osAt 3 fun o => { o with latched := 2 ^ 21, active := 2 ^ 21 }), 3, by decide⟩,
    ⟨(safeWith fun f => { f with modLatched := 2, estopAOpen := true }), 1, by decide⟩⟩

theorem test_wit_SafetyCommands :
    (∃ (s : State) (x : Ctx), let b := s.advance x.t; let a := b.start x; b.takes x Op.SAFE_QUERY 0 = true) ∧
    (∃ (s : State) (x : Ctx) (m k : Nat), let b := s.advance x.t; let a := b.start x; b.takes x Op.SAFE_TEST_NOW 0 =
      true ∧ k < 16 ∧ bit m k = true ∧ (a.coil k).phase = .hold) ∧
    (∃ (s : State) (x : Ctx) (m : Nat), let b := s.advance x.t; let a := b.start x; b.takes x Op.SAFE_TEST_NOW 0 =
      true ∧ (List.range 16).filter (fun k => bit m k && (a.coil k).phase == .hold) = []) ∧
    (∃ (s : State) (x : Ctx) (n r : Nat) (o : Int), let b := s.advance x.t; let a := b.start x;
      b.takes x Op.RCM_SELFTEST n = true ∧ n < 8 ∧ a.rd R.SAFE_OUT_PROT_RCM_SRC n ≠ 0xF) ∧
    (∃ (s : State) (x : Ctx) (n k : Nat), let b := s.advance x.t; let a := b.start x; b.takes x Op.IMD_MEASURE n =
      true ∧ a.rd R.SAFE_IMD_OUTLET = n ∧ a.flag R.SAFE_IMD_EN = true) ∧
    (∃ (s : State) (x : Ctx) (n k : Nat), let b := s.advance x.t; let a := b.start x; b.takes x Op.IMD_MEASURE n =
      true ∧ (a.rd R.SAFE_IMD_OUTLET ≠ n ∨ a.flag R.SAFE_IMD_EN = false)) :=
  ⟨⟨(fetched Op.SAFE_QUERY cx run), cx, by decide⟩,
    ⟨(fetched Op.SAFE_TEST_NOW cx (coilAt 2 fun c => { c with phase := .hold })), cx, 4, 2, by decide⟩,
    ⟨(fetched Op.SAFE_TEST_NOW cx run), cx, 255, by decide⟩,
    ⟨(fetched Op.RCM_SELFTEST cx (run.wr R.SAFE_OUT_PROT_RCM_SRC 3 0)), cx, 3, 700, 10, by decide⟩,
    ⟨(fetched Op.IMD_MEASURE cx (run.wr R.SAFE_IMD_EN 0 1)), cx, (run.rd R.SAFE_IMD_OUTLET), 500, by decide⟩,
    ⟨(fetched Op.IMD_MEASURE cx run), cx, 3, 500, by decide⟩⟩

theorem test_wit_CoilsAndResidualCurrent :
    (∃ (s : State) (t k : Nat), let a := s.advance t; a.up = true ∧ (a.coil k).waiting = true ∧ (a.coil k).hs =
      true ∧ a.underTest (a.rd R.SAFE_COIL_CFG_OUTLET k) = false ∧ a.coilDraw + a.rd R.SAFE_COIL_CFG_PULLIN_MA k ≤
      40000) ∧
    (∃ (s : State) (t k : Nat), let a := s.advance t; a.up = true ∧ 40000 < a.coilDraw +
      a.rd R.SAFE_COIL_CFG_PULLIN_MA k) ∧
    (∃ (s : State) (t k : Nat), let a := s.advance t; a.up = true ∧ (a.coil k).phase = .pullIn ∧ (a.coil k).since +
      10 ^ 6 * a.rd R.SAFE_COIL_CFG_PULLIN_MS k ≤ a.mtb) ∧
    (∃ (s : State) (t k i m : Nat), let a := s.advance t; a.up = true ∧ (a.coil k).waiting = true ∧ (a.coil k).hs =
      true ∧ a.underTest (a.rd R.SAFE_COIL_CFG_OUTLET k) = false ∧ a.coilDraw + a.rd R.SAFE_COIL_CFG_PULLIN_MA k ≤
      40000 ∧ (a.coil k).owed = some (i, m)) ∧
    (∃ (s : State) (t k i w : Nat), let a := s.advance t; a.core = true ∧ a.coilOn k = true ∧ 10 * i <
      3 * a.rd R.SAFE_COIL_CFG_HOLD_MA k ∧ 50 ≤ w) ∧
    (∃ (s : State) (t k i w : Nat), let a := s.advance t; a.core = true ∧ (a.coilOn k = false ∨
      3 * a.rd R.SAFE_COIL_CFG_HOLD_MA k ≤ 10 * i ∨ w < 50)) ∧
    (∃ (s : State) (t k i : Nat), let a := s.advance t; a.core = true ∧ 4000 < i) ∧
    (∃ (s : State) (t n d : Nat), let a := s.advance t; a.core = true ∧ (a.os n).openedAt = some d ∧ d +
      10 ^ 7 * a.rd R.SAFE_CFG2_OPEN_CHECK ≤ a.mtb ∧ a.closed n = false) ∧
    (∃ (s : State) (n : Nat),
      ((s.coilsOf n).find? fun k => s.flag R.SAFE_COIL_CFG_MIRROR_EN k && !(s.coil k).mirrorOpen) = none ∧
      (s.os n).weldCnt < 3) ∧
    (∃ (s : State) (t d : Nat), let a := s.advance t; a.core = true ∧ a.safe.shuntSince = some d ∧ d +
      500 * 10 ^ 6 ≤ a.mtb) ∧
    (∃ (s : State) (t n d : Nat), let a := s.advance t; a.core = true ∧ (a.os n).shuntDue = some d ∧ d ≤ a.mtb ∧
      bit (a.os n).latched fWELD = true ∧ a.flag R.SAFE_OUT_PROT_SHUNT_EN n = true ∧ a.supplyPresent n = true) ∧
    (∃ (s : State) (t k v : Nat) (l o : Bool), let a := s.advance t; a.up = true ∧ k < 16 ∧ a.testDue k l = true ∧
      (a.coil k).phase = .hold ∧ a.safe.test = none ∧ a.applySoon (a.rd R.SAFE_COIL_CFG_OUTLET k) = false ∧ v ≤ 50) ∧
    (∃ (s : State) (t k : Nat) (l : Bool), let a := s.advance t; a.up = true ∧ k < 16 ∧ a.testDue k l = true ∧
      (a.coil k).phase = .hold ∧ a.safe.test = none ∧ (a.coil k).stuckHs = false ∧ (a.coil k).stuckLs = false ∧
      a.applySoon (a.rd R.SAFE_COIL_CFG_OUTLET k) = false) ∧
    (∃ (s : State) (t k : Nat) (l b : Bool) (o : Option Nat), let a := s.advance t; a.up = true ∧
      ((a.coil k).phase ≠ .hold ∨ a.testDue k l = false)) ∧
    (∃ (s : State) (t k d : Nat) (l b : Bool) (o : Option Nat), let a := s.advance t; a.up = true ∧ a.safe.test =
      some (k, l, d, b) ∧ d + 1000 * a.rd R.SAFE_CFG_TEST_US ≤ a.mtb) ∧
    (∃ (s : State) (t k : Nat), let a := s.advance t; a.core = true ∧ (a.coil k).phase = .fault ∧ (a.coil k).hs =
      true ∧ (a.coil k).ls = true ∧ (a.coil k).since + 10 ^ 6 ≤ a.mtb) ∧
    (∃ (s : State) (t i n : Nat) (v : Int), let a := s.advance t; a.core = true ∧ n < 8 ∧
      a.rd R.SAFE_OUT_PROT_RCM_SRC n = i ∧ -32768 ≤ v ∧ v ≤ 32767) ∧
    (∃ (s : State) (t n r : Nat) (o : Int), let a := s.advance t; a.up = true ∧ (a.os n).testing = true ∧
      a.closed n = false) ∧
    (∃ (s : State) (n r : Nat) (o : Int), o.natAbs < 300 ∧ 600 ≤ r ∧ r ≤ 1200) ∧
    (∃ (s : State) (n r : Nat) (o : Int), 300 ≤ o.natAbs ∨ r < 600 ∨ 1200 < r) ∧
    (∃ (s : State) (t i : Nat), let a := s.advance t; a.core = true ∧ 80 ≤ a.safe.rcmBad.get 0 i) ∧
    (∃ (s : State) (n : Nat), s.hasFault n fRCM_SENSOR = false) ∧
    (∃ (s : State) (t n d : Nat), let a := s.advance t; a.up = true ∧ (a.os n).warnSince = some d ∧ d +
      10 * 10 ^ 9 ≤ a.mtb ∧ (a.os n).warnArmed = true) ∧
    (∃ (s : State) (n c h i : Nat), s.hasFault n c = false ∧ c < 23) :=
  ⟨⟨(coilAt 2 fun c => { c with hs := true, waiting := true }), 5, 2, by decide⟩,
    ⟨(forEach (List.range 16) (fun k s => (s.wr R.SAFE_COIL_CFG_PULLIN_MA k 4000).modCoil k fun c => { c with phase := .pullIn }) run), 5, 2, by decide⟩,
    ⟨(coilAt 2 fun c => { c with phase := .pullIn }), 1000000000, 2, by decide⟩,
    ⟨(coilAt 2 fun c => { c with hs := true, waiting := true, owed := some (7, 0) }), 5, 2, 7, 0, by decide⟩,
    ⟨(coilAt 2 fun c => { c with hs := true, ls := true }), 5, 2, 0, 50, by decide⟩,
    ⟨run, 5, 2, 0, 50, by decide⟩,
    ⟨run, 5, 2, 4001, by decide⟩,
    ⟨(osAt 3 fun o => { o with openedAt := some 4 }), 10000000000, 3, 4, by decide⟩,
    ⟨run, 3, by decide⟩,
    ⟨(safeWith fun f => { f with shuntSince := some 4 }), 1000000000, 4, by decide⟩,
    ⟨((({ (osAt 3 fun o => { o with shuntDue := some 4, latched := 2 ^ 17 }) with safe := { (osAt 3 fun o => { o with shuntDue := some 4, latched := 2 ^ 17 }).safe with snaps := List.replicate 12 ⟨[some 230000], []⟩ } } : State).wr R.SAFE_OUT_PROT_SHUNT_EN 3 1).wr R.SAFE_OUT_PROT_SUPPLY_MP 3 3), 5, 3, 4, by decide⟩,
    ⟨(coilAt 2 fun c => { c with phase := .hold, hs := true, ls := true }), 5, 2, 30, true, false, by decide⟩,
    ⟨(coilAt 2 fun c => { c with phase := .hold, hs := true, ls := true }), 5, 2, true, by decide⟩,
    ⟨run, 5, 2, true, true, none, by decide⟩,
    ⟨(let s := coilAt 2 fun c => { c with phase := .hsTest }; { s with safe := { s.safe with test := some (2, false, 4, true) } }), 100000000, 2, 4, false, true, (some 30), by decide⟩,
    ⟨(coilAt 2 fun c => { c with phase := .fault, hs := true, ls := true }), 2000000, 2, by decide⟩,
    ⟨(run.wr R.SAFE_OUT_PROT_RCM_SRC 3 2), 5, 2, 3, (-400), by decide⟩,
    ⟨(osAt 3 fun o => { o with testing := true }), 5, 3, 700, 10, by decide⟩,
    ⟨(osAt 3 fun o => { o with active := 2 ^ 12 }), 3, 700, 10, by decide⟩,
    ⟨run, 3, 500, 10, by decide⟩,
    ⟨(safeWith fun f => { f with rcmBad := f.rcmBad.put 0 2 80 }), 5, 2, by decide⟩,
    ⟨run, 3, by decide⟩,
    ⟨(osAt 3 fun o => { o with warnSince := some 4, warnArmed := true }), 20000000000, 3, 4, by decide⟩,
    ⟨run, 3, 16, 0, 5, by decide⟩⟩

theorem test_wit_FiltersAndTrackers :
    (∃ (s : State) (t m c w : Nat), let a := s.advance t; a.core = true ∧ m < 12) ∧
    (∃ (s : State) (m c w : Nat), s.rd R.FILT_TRK_STAT_STATE m = 1 ∧ (s.trk m).cross ≠ 0 ∧
      State.perInRange (c - (s.trk m).cross) = true ∧ s.ovlIn m (s.trk m).cross c = false ∧
      10 * s.rd R.FILT_TRK_CFG_MIN_PCT m ≤ w ∧ w < 65536 ∧ State.lockable ((c - (s.trk m).cross) ::
      (s.trk m).row.take 9) = true) ∧
    (∃ (s : State) (m c w : Nat), s.rd R.FILT_TRK_STAT_STATE m ≠ 0 ∧ (s.trk m).cross = 0) ∧
    (∃ (s : State) (m c w : Nat), s.rd R.FILT_TRK_STAT_STATE m = 0) ∧
    (∃ (s : State) (t m : Nat), let a := s.advance t; a.core = true ∧ m < 12 ∧ a.rd R.FILT_TRK_STAT_STATE m = 2 ∧
      3 * a.pEst m ≤ 2 * (a.mtb - (a.trk m).cross)) ∧
    (∃ (s : State) (t m : Nat), let a := s.advance t; a.core = true ∧ m < 12 ∧ a.rd R.FILT_TRK_STAT_STATE m = 3 ∧
      10 ≤ (a.trk m).holdCyc) ∧
    (∃ (s : State) (t m : Nat), let a := s.advance t; a.core = true ∧ m < 12 ∧ a.trkAbsent m = true ∧
      a.rd R.FILT_TRK_STAT_STATE m ≠ 0) ∧
    (∃ (s : State) (t m z : Nat), let a := s.advance t; a.core = true ∧ m < 12 ∧ a.cycleStart m = some z) ∧
    (∃ (s : State) (t m : Nat), let a := s.advance t; a.core = true ∧ a.cycleStart m = none) ∧
    (∃ (s : State) (m z : Nat), s.rd R.FILT_TRK_STAT_STATE m = 1 ∧ z < 2 ^ 63) ∧
    (∃ (s : State) (m : Nat), s.rd R.FILT_TRK_STAT_STATE m = 2) ∧
    (∃ (s : State) (t c : Nat), let a := s.advance t; a.core = true ∧ c < 64 ∧ a.filt.restartAt.get 0 c +
      a.settleNs c ≤ a.mtb) ∧
    (∃ (s : State) (t c : Nat) (b : Blend), let a := s.advance t; a.core = true ∧ a.blendOf c = some b ∧ b.t0 =
      none ∧ a.rd R.FILT_TRK_STAT_STATE b.trk ≠ 2 ∧ b.at_ ≤ a.mtb / 10 ^ 6 * 10 ^ 6) ∧
    (∃ (s : State) (t c z : Nat) (b : Blend), let a := s.advance t; a.core = true ∧ a.blendOf c = some b ∧ b.t0 =
      some z ∧ a.rd R.FILT_TRK_STAT_STATE b.trk ≠ 2 ∧ z + 10 ^ 6 * a.rd R.FILT_BLEND_BLEND_MS ≤
      a.mtb / 10 ^ 6 * 10 ^ 6) ∧
    (∃ (s : State) (x : Ctx) (c : Nat), let b := s.advance x.t; let a := b.start x; b.takes x Op.FILT_QUERY c =
      true ∧ c < 64) ∧
    (∃ (s : State) (x : Ctx) (c : Nat), let b := s.advance x.t; let a := b.start x; b.takes x Op.FILT_QUERY c =
      true ∧ 64 ≤ c) ∧
    (∃ (s : State) (x : Ctx) (c : Nat), let b := s.advance x.t; let a := b.start x; b.takes x Op.FILT_BLEND 0 =
      true ∧ c < 64 ∧ a.calAllowed = true ∧ a.blendOf c = none) ∧
    (∃ (s : State) (x : Ctx) (m : Nat), let b := s.advance x.t; let a := b.start x; b.takes x Op.FILT_BLEND 0 =
      true ∧ a.calAllowed = false) ∧
    (∃ (s : State) (x : Ctx) (m : Nat), let b := s.advance x.t; let a := b.start x; b.takes x Op.TRK_QUERY m =
      true ∧ m < 12) ∧
    (∃ (s : State) (x : Ctx) (c : Nat), let b := s.advance x.t; let a := b.start x; b.takes x Op.FILT_RESTART 0 =
      true ∧ c < 64 ∧ a.calAllowed = true ∧ a.chanLive c = false) ∧
    (∃ (s : State) (x : Ctx) (m : Nat), let b := s.advance x.t; let a := b.start x; b.takes x Op.FILT_RESTART 0 =
      true ∧ a.calAllowed = false) ∧
    (∃ (s : State) (c : Nat), c < 64) :=
  ⟨⟨(trkAt 2 1 id), 5, 2, 4, 1000, by decide⟩,
    ⟨(trkAt 2 1 fun k => { k with cross := 20000000, row := List.replicate 9 20000000 }), 2, 40000000, 1000, by decide⟩,
    ⟨(trkAt 2 1 id), 2, 40000000, 1000, by decide⟩,
    ⟨run, 2, 4, 1000, by decide⟩,
    ⟨(trkAt 2 2 id), 30000000, 2, by decide⟩,
    ⟨(trkAt 2 3 fun k => { k with holdCyc := 10 }), 5, 2, by decide⟩,
    ⟨(trkAt 2 2 id), 5, 2, by decide⟩,
    ⟨((trkAt 2 2 id).wr R.FILT_TRK_NEXT_START 2 4), 5, 2, 4, by decide⟩,
    ⟨((trkAt 2 2 id).wr R.FILT_TRK_NEXT_START 2 400), 5, 2, by decide⟩,
    ⟨(trkAt 2 1 id), 2, 40, by decide⟩,
    ⟨(trkAt 2 2 fun k => { k with err := 100 }), 2, by decide⟩,
    ⟨run, 10000000, 3, by decide⟩,
    ⟨blending, 1000000, 3, ⟨[3], 1, none, 0, none, none⟩, by decide⟩,
    ⟨({ run with filt := { run.filt with blends := [⟨[3], 1, some 0, 0, none, none⟩] } }), 10000000000, 3, 0, ⟨[3], 1, some 0, 0, none, none⟩, by decide⟩,
    ⟨(fetched Op.FILT_QUERY cx run), cx, 3, by decide⟩,
    ⟨(fetched Op.FILT_QUERY cx run), cx, 64, by decide⟩,
    ⟨(fetched Op.FILT_BLEND cx calRun), cx, 3, by decide⟩,
    ⟨(fetched Op.FILT_BLEND cx run), cx, 1, by decide⟩,
    ⟨(fetched Op.TRK_QUERY cx run), cx, 3, by decide⟩,
    ⟨(fetched Op.FILT_RESTART cx calRun), cx, 3, by decide⟩,
    ⟨(fetched Op.FILT_RESTART cx run), cx, 1, by decide⟩,
    ⟨run, 3, by decide⟩⟩

theorem test_wit_MeteringEvents :
    (∃ (s : State) (t m : Nat) (w : Window), let a := s.advance t; a.core = true ∧ m < 12 ∧ a.mpRuns m = true ∧
      (a.mp m).ready = some w) ∧
    (∃ (s : State) (t m : Nat), let a := s.advance t; a.core = true ∧ ((a.mp m).ready = none ∨ a.mpRuns m = false)) ∧
    (∃ (s : State) (m i : Nat) (z f : PhaseSum), s.rd R.MET_CFG_TYPE m ≠ 3 ∧
      State.rmsOf z.uu z.n (s.rd R.MET_SCALE_KV m) < 2 ^ 32 ∧ State.rmsOf z.ii z.n (s.rd R.MET_SCALE_KI m) <
      2 ^ 32 ∧ -(2 ^ 31) ≤ s.powerOf m z.ui z.n ∧ s.powerOf m z.ui z.n < 2 ^ 31) ∧
    (∃ (s : State) (m i : Nat) (z f : PhaseSum), s.rd R.MET_CFG_TYPE m = 3 ∧ -(2 ^ 31) ≤
      State.meanOf z.u z.n (s.rd R.MET_SCALE_KV m) ∧ State.meanOf z.u z.n (s.rd R.MET_SCALE_KV m) < 2 ^ 31) ∧
    (∃ (s : State) (t m : Nat), let a := s.advance t; a.core = true ∧ m < 12 ∧ (a.mp m).recEdge < a.secEdge ∧
      a.unclassified m a.secEdge = false) ∧
    (∃ (s : State) (t m d : Nat) (v : List (Nat × Nat)), let a := s.advance t; a.core = true ∧ m < 12 ∧ a.mpRuns m =
      true ∧ a.rd R.MET_CFG_TYPE m ≠ 3 ∧
      a.halfRms m (max (a.mp m).pqNext (2 * (((a.trk (a.mpTrk m)).cycles.getLast?).map (·.no)).getD 0 + 2)) =
      some (d, v) ∧ v ≠ []) ∧
    (∃ (s : State) (t m : Nat), let a := s.advance t; a.core = true ∧ (a.mpRuns m = false ∨
      a.halfRms m (max (a.mp m).pqNext (2 * (((a.trk (a.mpTrk m)).cycles.getLast?).map (·.no)).getD 0 + 2)) = none)) ∧
    (∃ (s : State) (m d k o e : Nat) (f : Bool) (w : Nat → Nat → Nat), (s.mp m).pq.get none k = none ∧ k < 3) ∧
    (∃ (s : State) (m d : Nat) (e : PqEvent) (o v : Nat) (b : Bool), (s.mp m).pq.get none 0 = some e) ∧
    (∃ (s : State) (t k d : Nat) (r : List Nat), let a := s.advance t; a.core = true ∧ k < 8 ∧
      a.flag R.MET_PULSE_EN k = true ∧ (a.met.pulses.get Pulse.init k).due = d :: r ∧ d ≤ a.mtb ∧
      (a.met.pulses.get Pulse.init k).on = false ∧ (a.met.pulses.get Pulse.init k).edge1 = 0) ∧
    (∃ (s : State) (t k : Nat), let a := s.advance t; a.core = true ∧ (a.met.pulses.get Pulse.init k).due = []) ∧
    (∃ (s : State) (t k : Nat), let a := s.advance t; a.core = true ∧ (a.met.pulses.get Pulse.init k).on = true ∧
      (a.met.pulses.get Pulse.init k).edge1 + 10 ^ 6 * a.rd R.MET_PULSE_WIDTH_MS k ≤ a.mtb + 1) ∧
    (∃ (s : State) (t : Nat) (v : Int), let a := s.advance t; a.core = true ∧ a.flag R.MET_TC_CTL_EN = true ∧
      a.met.tcNext ≤ a.mtb ∧ a.ledger.cal = none ∧ 10 * a.rd R.MET_TC_CTL_STEP ≤
      (v - a.rdInt R.MET_TC_CTL_T_APPLIED).natAbs ∧ -32768 ≤ v ∧ v < 32768) ∧
    (∃ (s : State) (t : Nat) (v : Int), let a := s.advance t; a.core = true ∧ (a.flag R.MET_TC_CTL_EN = false ∨
      a.mtb < a.met.tcNext)) ∧
    (∃ (s : State) (t m : Nat), let a := s.advance t; a.core = true ∧ m < 12 ∧ a.flag R.MET_SESS_CLOSED_PENDING m =
      true ∧ a.unclassified m ((a.mp m).sessEnd1 - 1) = false) ∧
    (∃ (s : State) (t m z : Nat) (r : CalRun), let a := s.advance t; a.core = true ∧ a.met.runs.get none m =
      some r ∧ r.begun = some z ∧ z + 10 ^ 9 * r.secs ≤ r.stop ∧ r.flags &&& 11 ≠ 0) ∧
    (∃ (s : State) (t m z i : Nat) (r : CalRun), let a := s.advance t; a.core = true ∧ a.met.runs.get none m =
      some r ∧ r.begun = some z ∧ z + 10 ^ 9 * r.secs ≤ r.stop ∧ r.flags &&& 11 = 0 ∧ i < 3 ∧ bit r.phases i = true) ∧
    (∃ (s : State) (t m : Nat) (r : CalRun), let a := s.advance t; a.core = true ∧ a.met.runs.get none m = some r ∧
      r.stop < r.begun.getD r.stop + 10 ^ 9 * r.secs) :=
  ⟨⟨((mpLiveAt 2).modMp 2 fun p => { p with ready := some ⟨[], 0, 1, 10, 0, 5⟩ }), 5, 2, ⟨[], 0, 1, 10, 0, 5⟩, by decide⟩,
    ⟨run, 5, 2, by decide⟩,
    ⟨(run.wr R.MET_CFG_TYPE 2 1), 2, 1, ⟨4, 0, 0, 400, 400, 400, 0, 0, 0, 0, 0, 1⟩, PhaseSum.init, by decide⟩,
    ⟨(run.wr R.MET_CFG_TYPE 2 3), 2, 0, ⟨4, -80, 0, 400, 400, 400, 0, 0, 0, 0, 0, 1⟩, PhaseSum.init, by decide⟩,
    ⟨run, 1000000000, 2, by decide⟩,
    ⟨pqAt, 30000000, 2, 30000010, [(0, 22)], by decide⟩,
    ⟨(mpLiveAt 2), 5, 2, by decide⟩,
    ⟨run, 2, 40, 0, 1, 5, false, min, by decide⟩,
    ⟨(run.modMp 2 fun p => { p with pq := p.pq.put none 0 (some ⟨1, 1, 5⟩) }), 2, 5, ⟨1, 1, 5⟩, 1, 5, false, by decide⟩,
    ⟨(let s := run.wr R.MET_PULSE_EN 3 1; { s with met := { s.met with pulses := s.met.pulses.put Pulse.init 3 { Pulse.init with due := [4, 9] } } }), 5, 3, 4, [9], by decide⟩,
    ⟨run, 5, 3, by decide⟩,
    ⟨(let s := run; { s with met := { s.met with pulses := s.met.pulses.put Pulse.init 3 { Pulse.init with on := true, edge1 := 1 } } }), 1000000000, 3, by decide⟩,
    ⟨(run.wr R.MET_TC_CTL_EN 0 1), 5, 9000, by decide⟩,
    ⟨(run.wr R.MET_TC_CTL_EN 0 0), 5, 9000, by decide⟩,
    ⟨(run.wr R.MET_SESS_CLOSED_PENDING 2 1), 5, 2, by decide⟩,
    ⟨({ run with met := { run.met with runs := run.met.runs.put none 2 (some ⟨cx, 1, 2, 1, some 4, 1, [], (0, 0), 3000000000⟩) } }), 5, 2, 4, ⟨cx, 1, 2, 1, some 4, 1, [], (0, 0), 3000000000⟩, by decide⟩,
    ⟨({ run.wr R.MET_CFG_TYPE 2 3 with met := { run.met with runs := run.met.runs.put none 2 (some ⟨cx, 1, 2, 1, some 4, 0, [], (0, 0), 3000000000⟩) } }), 5, 2, 4, 0, ⟨cx, 1, 2, 1, some 4, 0, [], (0, 0), 3000000000⟩, by decide⟩,
    ⟨({ run with met := { run.met with runs := run.met.runs.put none 2 (some ⟨cx, 1, 2, 1, none, 0, [], (0, 0), 5⟩) } }), 5, 2, ⟨cx, 1, 2, 1, none, 0, [], (0, 0), 5⟩, by decide⟩⟩

theorem test_wit_MeteringCommands :
    (∃ (s : State) (x : Ctx) (m : Nat), let b := s.advance x.t; let a := b.start x; b.takes x Op.MET_QUERY m =
      true ∧ m < 12) ∧
    (∃ (s : State) (x : Ctx) (m i : Nat), let b := s.advance x.t; let a := b.start x;
      b.takes x Op.MET_SESSION_OPEN m = true ∧ b.heldBy 16 (.metOpen m i) = none ∧
      b.actDisabled (some (.metOpen m i)) = false ∧ m < 12 ∧ a.mpRuns m = true ∧ a.mpLive m = false ∧ i < 2 ^ 32 ∧
      a.mtb < 2 ^ 64) ∧
    (∃ (s : State) (x : Ctx) (m i r : Nat), let b := s.advance x.t; let a := b.start x;
      b.takes x Op.MET_SESSION_OPEN m = true ∧ b.heldBy 16 (.metOpen m i) = none ∧
      b.actDisabled (some (.metOpen m i)) = false ∧ a.metOpenBad m i = some r) ∧
    (∃ (s : State) (x : Ctx) (m : Nat), let b := s.advance x.t; let a := b.start x;
      b.takes x Op.MET_SESSION_CLOSE m = true ∧ b.heldBy 16 (.metClose m) = none ∧
      b.actDisabled (some (.metClose m)) = false ∧ m < 12 ∧ a.mpLive m = true) ∧
    (∃ (s : State) (x : Ctx) (m : Nat), let b := s.advance x.t; let a := b.start x;
      b.takes x Op.MET_SESSION_CLOSE m = true ∧ b.heldBy 16 (.metClose m) = none ∧
      b.actDisabled (some (.metClose m)) = false ∧ m < 12 ∧ a.mpLive m = false) ∧
    (∃ (s : State) (x : Ctx) (m p w : Nat), let b := s.advance x.t; let a := b.start x;
      b.takes x Op.MET_CAL_MEASURE m = true ∧ m < 12 ∧ 1 ≤ p ∧ p < 8 ∧ 1 ≤ w ∧ w ≤ 60 ∧ a.calCovers m = true ∧
      a.met.runs.get none m = none) ∧
    (∃ (s : State) (x : Ctx) (m p w : Nat), let b := s.advance x.t; let a := b.start x;
      b.takes x Op.MET_CAL_MEASURE m = true ∧ a.calCovers m = false) ∧
    (∃ (s : State) (x : Ctx) (m u0 i0 : Nat) (g : Int) (k : CalKept) (gv gi ti : Int), let b := s.advance x.t;
      let a := b.start x; b.takes x Op.MET_CAL_APPLY m = true ∧ m < 12 ∧ a.calCovers m = true ∧ a.roleChan m 0 ≠
      0x7F ∧ a.roleChan m 3 ≠ 0x7F ∧ a.met.kept.get none (3 * m) = some k ∧ a.mtb ≤ k.at_ + 600 * 10 ^ 9 ∧
      a.mpLive m = false ∧ a.blendOf (a.roleChan m 0) = none ∧ a.blendOf (a.roleChan m 3) = none ∧
      State.newCoefs k 7 u0 i0 g (a.rdInt R.FILT_BANK_GAIN (a.thisBank (a.roleChan m 0))) (a.rdInt R.FILT_BANK_GAIN (a.thisBank (a.roleChan m 3))) (a.rdInt R.FILT_BANK_TRIM (a.thisBank (a.roleChan m 3))) =
      some (gv, gi, ti)) ∧
    (∃ (k : CalKept) (u0 : Nat) (g gv : Int), k.u = u0 ∧ u0 ≠ 0) ∧
    (∃ (s : State) (x : Ctx) (k i : Nat), let b := s.advance x.t; let a := b.start x; b.takes x Op.MET_PULSE_CFG k =
      true ∧ a.calAllowed = false) ∧
    (∃ (s : State) (x : Ctx) (k i : Nat), let b := s.advance x.t; let a := b.start x; b.takes x Op.MET_PULSE_CFG k =
      true ∧ a.calAllowed = true ∧ k < 8 ∧ State.imageField R.MET_PULSE_MP i ≤ 11 ∧
      State.imageField R.MET_PULSE_QTY i ≤ 7 ∧ 1 ≤ State.imageField R.MET_PULSE_CONST i ∧
      State.imageField R.MET_PULSE_CONST i ≤ 100000 ∧ 2 ≤ State.imageField R.MET_PULSE_WIDTH_MS i ∧
      State.imageField R.MET_PULSE_WIDTH_MS i ≤ 100 ∧
      a.pulseTooFast (State.imageField R.MET_PULSE_MP i) (State.imageField R.MET_PULSE_CONST i) (State.imageField R.MET_PULSE_WIDTH_MS i) =
      false) ∧
    (∃ (s : State) (x : Ctx) (m p : Nat), let b := s.advance x.t; let a := b.start x; b.takes x Op.MET_HARM_READ m =
      true ∧ m < 12 ∧ p < 3) ∧
    (∃ (s : State) (x : Ctx) (m : Nat) (n : Nat), let b := s.advance x.t; let a := b.start x;
      b.takes x Op.MET_WAVE_CAPTURE 0 = true ∧ m < 12) ∧
    (∃ (s : State) (x : Ctx) (m : Nat), let b := s.advance x.t; let a := b.start x; b.takes x Op.MET_WAVE_STOP 0 =
      true ∧ m < 12) :=
  ⟨⟨(fetched Op.MET_QUERY cx run), cx, 3, by decide⟩,
    ⟨(fetched Op.MET_SESSION_OPEN cx (mpLiveAt 2)), cx, 2, 9, by decide⟩,
    ⟨(fetched Op.MET_SESSION_OPEN cx run), cx, 12, 9, St.BAD_PARAM, by decide⟩,
    ⟨(fetched Op.MET_SESSION_CLOSE cx (run.wr R.MET_SESS_OPEN 2 1)), cx, 2, by decide⟩,
    ⟨(fetched Op.MET_SESSION_CLOSE cx run), cx, 2, by decide⟩,
    ⟨(fetched Op.MET_CAL_MEASURE cx calRun), cx, 2, 1, 10, by decide⟩,
    ⟨(fetched Op.MET_CAL_MEASURE cx run), cx, 2, 1, 10, by decide⟩,
    ⟨(fetched Op.MET_CAL_APPLY cx calKeep), cx, 2, 230000000, 16000000, 0, ⟨4, 230000000, 16000000, 0, 50000000, 0, 0, 2500, 0, 1⟩, (2 ^ 30), (2 ^ 30), 0, by decide⟩,
    ⟨⟨4, 230000000, 16000000, 0, 50000000, 0, 0, 2500, 0, 1⟩, 230000000, 5, (2 ^ 30), by decide⟩,
    ⟨(fetched Op.MET_PULSE_CFG cx run), cx, 2, 0, by decide⟩,
    ⟨(fetched Op.MET_PULSE_CFG cx calRun), cx, 2, pulseImg, by decide⟩,
    ⟨(fetched Op.MET_HARM_READ cx run), cx, 2, 1, by decide⟩,
    ⟨(fetched Op.MET_WAVE_CAPTURE cx run), cx, 2, 100, by decide⟩,
    ⟨(fetched Op.MET_WAVE_STOP cx (run.setWave 2 ⟨true, 0x21, 100, false⟩)), cx, 2, by decide⟩⟩

theorem test_wit_LedgerEvents :
    (∃ (s : State) (t : Nat), let a := s.advance t; a.core = true ∧
      a.ledger.commitAt / (10 ^ 8 * max 1 (a.rd R.LEDGER_CFG_COMMIT_100MS)) <
      a.mtb / (10 ^ 8 * max 1 (a.rd R.LEDGER_CFG_COMMIT_100MS)) ∧ a.ledger.bound = none ∧
      (a.ledger.copyA.map (·.num)).getD 0 ≤ a.ledger.commits ∧ (a.ledger.copyB.map (·.num)).getD 0 ≤
      a.ledger.commits) ∧
    (∃ (s : State) (t : Nat) (c : Bool), let a := s.advance t; a.core = true ∧
      a.mtb / (10 ^ 8 * max 1 (a.rd R.LEDGER_CFG_COMMIT_100MS)) ≤
      a.ledger.commitAt / (10 ^ 8 * max 1 (a.rd R.LEDGER_CFG_COMMIT_100MS))) ∧
    (∃ (s : State) (t : Nat), let a := s.advance t; a.core = true ∧
      a.ledger.commitAt / (10 ^ 8 * max 1 (a.rd R.LEDGER_CFG_COMMIT_100MS)) <
      a.mtb / (10 ^ 8 * max 1 (a.rd R.LEDGER_CFG_COMMIT_100MS)) ∧ a.ledger.bound = none ∧ a.ledger.commits % 2 = 1) ∧
    (∃ (s : State) (t : Nat), let a := s.advance t; a.up = true ∧ a.rtcValid = true ∧ a.wallS % 60 = 0 ∧
      a.clockSec = a.wallS ∧ a.localSec a.wallS % 60 = 0 ∧ a.tariffChanges a.wallS ≠ [] ∧
      a.flag R.LEDGER_DEMAND_CFG_SYNC_EN = false ∧ a.ledger.held = none ∧ a.ledger.bound = none ∧
      a.ledger.lastClosed < a.wallS ∧ a.ledger.subStart < a.instOf a.wallS) ∧
    (∃ (s : State) (t : Nat), let a := s.advance t; a.up = true ∧ (a.rtcValid = false ∨
      a.tariffChanges (a.clockSec - a.localSec a.clockSec % 60) = [])) ∧
    (∃ (s : State) (t : Nat) (c : Calendar), let a := s.advance t; a.up = true ∧ a.rtcValid = true ∧
      a.ledger.pending = some c ∧ c.activation ≠ 0 ∧ c.activation ≤ a.wallS ∧ a.ledger.lastClosed < c.activation ∧
      a.ledger.subStart < a.instOf c.activation ∧ a.ledger.bound = none) ∧
    (∃ (s : State) (t : Nat), let a := s.advance t; a.up = true ∧ a.kindsAt a.lastNominal ≠ 0 ∧
      a.boundaryOpen a.lastNominal = true ∧ a.flag R.LEDGER_DEMAND_CFG_SYNC_EN = false ∧ a.ledger.bound = none) ∧
    (∃ (s : State) (t : Nat), let a := s.advance t; a.up = true ∧ a.kindsAt a.lastNominal % 2 = 1 ∧
      a.boundaryOpen a.lastNominal = true ∧ a.flag R.LEDGER_DEMAND_CFG_SYNC_EN = true) ∧
    (∃ (s : State) (t : Nat) (z : Boundary), let a := s.advance t; a.up = true ∧ a.ledger.bound = some z ∧
      a.boundReady z = true) ∧
    (∃ (s : State) (t : Nat) (z : Boundary), let a := s.advance t; a.up = true ∧ a.ledger.held = some z ∧ z.at_ +
      10 ^ 9 * a.rd R.LEDGER_DEMAND_CFG_SYNC_WIN_S ≤ a.mtb ∧ a.ledger.bound = none) ∧
    (∃ (s : State) (t : Nat), let a := s.advance t; a.up = true ∧ a.flag R.LEDGER_STAT_SEAL = true ∧ a.ledger.cal =
      none ∧ a.ledger.sealIdle = false ∧ a.ledger.idleAt + 600 * 10 ^ 9 ≤ a.mtb) ∧
    (∃ (s : State) (t : Nat), let a := s.advance t; a.up = true ∧ (a.flag R.LEDGER_STAT_SEAL = false ∨
      a.ledger.cal ≠ none ∨ a.mtb < a.ledger.idleAt + 600 * 10 ^ 9)) ∧
    (∃ (s : State) (t : Nat), let a := s.advance t; a.up = true ∧ a.flag R.LEDGER_STAT_SEAL = true) ∧
    (∃ (s : State) (t : Nat), let a := s.advance t; a.up = true ∧ a.flag R.LEDGER_STAT_SEAL = false) ∧
    (∃ (s : State) (t : Nat) (c : CalOpen), let a := s.advance t; a.up = true ∧ a.ledger.cal = some c ∧ c.until_ ≤
      a.mtb) ∧
    (∃ (s : State) (t : Nat) (c : CalOpen), let a := s.advance t; a.up = true ∧ a.ledger.cal = some c ∧ a.mtb <
      c.until_) ∧
    (∃ (s : State) (t : Nat), let a := s.advance t; a.core = true ∧
      a.ledger.records.all (fun (r : Rec) => r.sig.isSome) = true ∧ a.flag R.GLOBAL_STATUS_HOST_READY = true) ∧
    (∃ (s : State) (t : Nat) (k : KNode) (r : Rec), let a := s.advance t; a.core = true ∧ a.ledger.records = [r] ∧
      r.sig = none ∧ a.keyMode = 2 ∧ a.node? pathSign = some k ∧ k.stale = false) :=
  ⟨⟨run, 100000000000, by decide⟩,
    ⟨run, 5, true, by decide⟩,
    ⟨(led fun l => { l with commits := 1 }), 100000000000, by decide⟩,
    ⟨tswitch, 5, by decide⟩,
    ⟨run, 5, by decide⟩,
    ⟨calPending, 5, cal1, by decide⟩,
    ⟨demandDue, 5, by decide⟩,
    ⟨(demandDue.wr R.LEDGER_DEMAND_CFG_SYNC_EN 0 1), 5, by decide⟩,
    ⟨(led fun l => { l with bound := some bnd }), 5, bnd, by decide⟩,
    ⟨(led fun l => { l with held := some bnd }), 40000000000, bnd, by decide⟩,
    ⟨(run.wr R.LEDGER_STAT_SEAL 0 1), 600000000005, by decide⟩,
    ⟨run, 5, by decide⟩,
    ⟨calRun, 5, by decide⟩,
    ⟨run, 5, by decide⟩,
    ⟨(led fun l => { l with cal := some ⟨1, 3, []⟩ }), 5, ⟨1, 3, []⟩, by decide⟩,
    ⟨calRun, 5, ⟨4095, 10 ^ 15, []⟩, by decide⟩,
    ⟨ready, 5, by decide⟩,
    ⟨keyed, 5, ⟨pathSign, 1, 3, 1, false, false, 5, 0, 4⟩, { rec1 with sig := none }, by decide⟩⟩

theorem test_wit_LedgerCommands :
    (∃ (s : State) (x : Ctx) (m : Nat), let b := s.advance x.t; let a := b.start x; b.takes x Op.LEDGER_QUERY m =
      true ∧ m < 12) ∧
    (∃ (s : State) (x : Ctx) (m : Nat), let b := s.advance x.t; let a := b.start x; b.takes x Op.LEDGER_QUERY m =
      true ∧ 12 ≤ m) ∧
    (∃ (s : State) (x : Ctx) (n m k p r : Nat) (i : List Byte), let b := s.advance x.t; let a := b.start x;
      b.takes x Op.LEDGER_SESSION_RECORD n = true ∧ b.heldBy 16 (.recOpen n m k i p) = none ∧
      b.actDisabled (some (.recOpen n m k i p)) = false ∧ n < 8 ∧ m < 12 ∧ i.length ≤ 32 ∧ p < 2 ^ 32 ∧
      a.flag R.OUT_CFG_CTRL n = true ∧ (a.lsess n).opened = false ∧ a.ledger.cal = none ∧ a.mpRuns m = false) ∧
    (∃ (s : State) (x : Ctx) (n m k p r : Nat) (i : List Byte), let b := s.advance x.t; let a := b.start x;
      b.takes x Op.LEDGER_SESSION_RECORD n = true ∧ b.heldBy 16 (.recOpen n m k i p) = none ∧
      b.actDisabled (some (.recOpen n m k i p)) = false ∧ n < 8 ∧ m < 12 ∧ i.length ≤ 32 ∧ p < 2 ^ 32 ∧
      a.flag R.OUT_CFG_CTRL n = false) ∧
    (∃ (s : State) (x : Ctx) (n m k p r : Nat) (i : List Byte), let b := s.advance x.t; let a := b.start x;
      b.takes x Op.LEDGER_SESSION_RECORD n = true ∧ b.heldBy 16 (.recClose n m r) = none ∧
      b.actDisabled (some (.recClose n m r)) = false ∧ n < 8 ∧ m < 12 ∧ i.length ≤ 32 ∧ p < 2 ^ 32 ∧ 1 ≤ r ∧ r ≤
      21 ∧ a.flag R.OUT_CFG_CTRL n = true ∧ (a.lsess n).opened = true ∧ (a.lsess n).closing = false ∧
      a.mpLive (a.lsess n).mp = false ∧ a.flag R.MET_SESS_CLOSED_PENDING (a.lsess n).mp = false) ∧
    (∃ (s : State) (x : Ctx) (n m k p r : Nat) (i : List Byte), let b := s.advance x.t; let a := b.start x;
      b.takes x Op.LEDGER_SESSION_RECORD n = true ∧ b.heldBy 16 (.recClose n m r) = none ∧
      b.actDisabled (some (.recClose n m r)) = false ∧ n < 8 ∧ m < 12 ∧ i.length ≤ 32 ∧ p < 2 ^ 32 ∧ 1 ≤ r ∧ r ≤
      21 ∧ a.flag R.OUT_CFG_CTRL n = true ∧ (a.lsess n).opened = false) ∧
    (∃ (s : State) (x : Ctx) (k t p : Nat), let b := s.advance x.t; let a := b.start x;
      b.takes x Op.LEDGER_TARIFF_SELECT 0 = true ∧ b.heldBy 16 (.tariff k t p) = none ∧
      b.actDisabled (some (.tariff k t p)) = false ∧ p < 2 ^ 32 ∧ k < 4096 ∧ (t ≤ 15 ∨ t = 0xFF) ∧
      a.flag R.LEDGER_CFG_HOST_TARIFF = true ∧ a.ledger.bound = none) ∧
    (∃ (s : State) (x : Ctx) (k t p : Nat), let b := s.advance x.t; let a := b.start x;
      b.takes x Op.LEDGER_TARIFF_SELECT 0 = true ∧ b.heldBy 16 (.tariff k t p) = none ∧
      b.actDisabled (some (.tariff k t p)) = false ∧ p < 2 ^ 32 ∧ a.flag R.LEDGER_CFG_HOST_TARIFF = false) ∧
    (∃ (s : State) (x : Ctx) (k : Nat), let b := s.advance x.t; let a := b.start x;
      b.takes x Op.LEDGER_READ_SIGNED 0 = true ∧ b.heldBy 16 (.readSigned k) = none ∧
      b.actDisabled (some (.readSigned k)) = false ∧ k ≠ 0 ∧ k < 4096) ∧
    (∃ (s : State) (x : Ctx) (m : Nat), m < 12 ∧ s.mpRuns m = false ∧ s.ledger.pends = [] ∧ s.ledger.reads = [] ∧
      s.ledger.useNums = []) ∧
    (∃ (s : State) (x : Ctx) (k : Nat), let b := s.advance x.t; let a := b.start x;
      b.takes x Op.LEDGER_READ_SIGNED 0 = true ∧ b.heldBy 16 (.readSigned k) = none ∧
      b.actDisabled (some (.readSigned k)) = false ∧ (k = 0 ∨ 4096 ≤ k)) ∧
    (∃ (s : State) (x : Ctx) (f z k : Nat), let b := s.advance x.t; let a := b.start x;
      b.takes x Op.LEDGER_RECORD_FETCH 0 = true ∧ a.ledger.records = [] ∧ a.ledger.issued + 1 ≤ f) ∧
    (∃ (s : State) (x : Ctx) (f z k : Nat) (r : Rec), let b := s.advance x.t; let a := b.start x;
      b.takes x Op.LEDGER_RECORD_FETCH 0 = true ∧ a.ledger.records = [r] ∧ f < r.seq ∧ f < a.ledger.issued + 1) ∧
    (∃ (s : State) (x : Ctx) (f z k : Nat) (r : Rec), let b := s.advance x.t; let a := b.start x;
      b.takes x Op.LEDGER_RECORD_FETCH 0 = true ∧ a.ledger.records = [r] ∧ f = r.seq ∧ f ≤ a.ledger.issued ∧ r.sig ≠
      none ∧ r.len ≤ z) ∧
    (∃ (s : State) (x : Ctx) (ms : Nat), let b := s.advance x.t; let a := b.start x;
      b.takes x Op.LEDGER_TIME_SET 0 = true ∧ ms < 1000 * 2 ^ 32 ∧ a.rtcValid = false) ∧
    (∃ (s : State) (x : Ctx) (ms : Nat), let b := s.advance x.t; let a := b.start x;
      b.takes x Op.LEDGER_TIME_SET 0 = true ∧ ms < 1000 * 2 ^ 32 ∧ a.rtcValid = true ∧
      a.rd R.LEDGER_CFG_TIME_STEP_MAX_S < (a.stepsNow.foldl (fun n (p : Nat × Nat) => n + p.2) 0) + (if ms <
      a.wallMs then a.wallMs - ms else ms - a.wallMs) / 1000) ∧
    (∃ (s : State) (x : Ctx) (l : List Byte) (z : Bool), let b := s.advance x.t; let a := b.start x;
      b.takes x Op.LEDGER_CALENDAR_LOAD 0 = true ∧
      (calendarOf (l.map (fun (y : Byte) => y.toNat))).map calendarValid = some true ∧
      (a.flag R.LEDGER_CFG_CAL_SIGNED = false ∨ (z = true ∧ a.flag R.KEY_STATUS_OWNER_SET = true))) ∧
    (∃ (s : State) (x : Ctx) (l : List Byte) (z : Bool), let b := s.advance x.t; let a := b.start x;
      b.takes x Op.LEDGER_CALENDAR_LOAD 0 = true ∧ a.flag R.LEDGER_CFG_CAL_SIGNED = true ∧ (z = false ∨
      a.flag R.KEY_STATUS_OWNER_SET = false)) ∧
    (∃ (s : State) (x : Ctx) (l : List Byte) (z : Bool), let b := s.advance x.t; let a := b.start x;
      b.takes x Op.LEDGER_CALENDAR_LOAD 0 = true ∧
      (calendarOf (l.map (fun (y : Byte) => y.toNat))).map calendarValid ≠ some true ∧
      a.flag R.LEDGER_CFG_CAL_SIGNED = false) ∧
    (∃ (l : List Nat) (c : Calendar), calendarOf l = some c) ∧
    (∃ (s : State) (x : Ctx), let b := s.advance x.t; let a := b.start x; b.takes x Op.LEDGER_BILLING_CLOSE 0 =
      true ∧ a.flag R.LEDGER_BILL_CFG_CMD_CLOSE = true ∧ a.rtcValid = true ∧ a.ledger.billCtx = none ∧
      a.ledger.lastCmdAt1 = 0) ∧
    (∃ (s : State) (x : Ctx), let b := s.advance x.t; let a := b.start x; b.takes x Op.LEDGER_BILLING_CLOSE 0 =
      true ∧ a.flag R.LEDGER_BILL_CFG_CMD_CLOSE = false) ∧
    (∃ (s : State) (x : Ctx) (k : Nat) (z : BillSet), let b := s.advance x.t; let a := b.start x;
      b.takes x Op.LEDGER_BILLING_READ 0 = true ∧ a.ledger.bills[k]? = some z) ∧
    (∃ (s : State) (x : Ctx) (k : Nat), let b := s.advance x.t; let a := b.start x;
      b.takes x Op.LEDGER_BILLING_READ 0 = true ∧ a.ledger.bills.length ≤ k) ∧
    (∃ (s : State) (x : Ctx), let b := s.advance x.t; let a := b.start x; b.takes x Op.LEDGER_CAL_CHALLENGE 0 =
      true ∧ a.drbgOk = true) ∧
    (∃ (s : State) (x : Ctx), let b := s.advance x.t; let a := b.start x; b.takes x Op.LEDGER_CAL_CHALLENGE 0 =
      true ∧ a.drbgOk = false) ∧
    (∃ (s : State) (x : Ctx) (k n c t : Nat), let b := s.advance x.t; let a := b.start x;
      b.takes x Op.LEDGER_CAL_OPEN 0 = true ∧ k ≠ 0 ∧ k < 4096 ∧ 1 ≤ n ∧ n ≤ 60 ∧ a.flag R.LEDGER_STAT_SEAL = true ∧
      a.ledger.sealAt + 20 * 10 ^ 6 ≤ a.mtb ∧ a.key.anchors.get none 0 = some ⟨1, 0⟩ ∧ a.ledger.challenge =
      some (c, t) ∧ a.mtb ≤ t + 120 * 10 ^ 9 ∧ a.ledger.cal = none ∧
      (List.range 12).all (fun m => !a.flag R.MET_SESS_OPEN m) = true) ∧
    (∃ (s : State) (x : Ctx) (k n c : Nat) (z : Bool), let b := s.advance x.t; let a := b.start x;
      b.takes x Op.LEDGER_CAL_OPEN 0 = true ∧ k ≠ 0 ∧ k < 4096 ∧ 1 ≤ n ∧ n ≤ 60 ∧ a.flag R.LEDGER_STAT_SEAL = false) ∧
    (∃ (s : State) (x : Ctx) (k n c : Nat) (z : Bool), let b := s.advance x.t; let a := b.start x;
      b.takes x Op.LEDGER_CAL_OPEN 0 = true ∧ (k = 0 ∨ 4096 ≤ k ∨ n = 0 ∨ 60 < n)) ∧
    (∃ (s : State) (x : Ctx) (c : CalOpen), let b := s.advance x.t; let a := b.start x;
      b.takes x Op.LEDGER_CAL_CLOSE 0 = true ∧ a.ledger.cal = some c) ∧
    (∃ (s : State) (x : Ctx), let b := s.advance x.t; let a := b.start x; b.takes x Op.LEDGER_CAL_CLOSE 0 = true ∧
      a.ledger.cal = none) ∧
    (∃ (s : State) (x : Ctx), let b := s.advance x.t; let a := b.start x; b.takes x Op.LEDGER_LEGAL_ID 0 = true) ∧
    (∃ (s : State) (x : Ctx), let b := s.advance x.t; let a := b.start x; b.takes x Op.LEDGER_ACK_LOSS 0 = true) :=
  ⟨⟨(fetched Op.LEDGER_QUERY cx run), cx, 3, by decide⟩,
    ⟨(fetched Op.LEDGER_QUERY cx run), cx, 12, by decide⟩,
    ⟨(fetched Op.LEDGER_SESSION_RECORD cx hostOut), cx, 3, 2, 1, 5, 1, [], by decide⟩,
    ⟨(fetched Op.LEDGER_SESSION_RECORD cx run), cx, 3, 2, 1, 5, 1, [], by decide⟩,
    ⟨(fetched Op.LEDGER_SESSION_RECORD cx openRec), cx, 3, 2, 1, 5, 1, [], by decide⟩,
    ⟨(fetched Op.LEDGER_SESSION_RECORD cx hostOut), cx, 3, 2, 1, 5, 1, [], by decide⟩,
    ⟨(fetched Op.LEDGER_TARIFF_SELECT cx (run.wr R.LEDGER_CFG_HOST_TARIFF 0 1)), cx, 3, 2, 5, by decide⟩,
    ⟨(fetched Op.LEDGER_TARIFF_SELECT cx run), cx, 3, 2, 5, by decide⟩,
    ⟨(fetched Op.LEDGER_READ_SIGNED cx run), cx, 3, by decide⟩,
    ⟨run, cx, 3, by decide⟩,
    ⟨(fetched Op.LEDGER_READ_SIGNED cx run), cx, 0, by decide⟩,
    ⟨(fetched Op.LEDGER_RECORD_FETCH cx run), cx, 1, 1000, 0, by decide⟩,
    ⟨(fetched Op.LEDGER_RECORD_FETCH cx oneRec), cx, 4, 1000, 3, rec1, by decide⟩,
    ⟨(fetched Op.LEDGER_RECORD_FETCH cx oneRec), cx, 5, 1000, 3, rec1, by decide⟩,
    ⟨(fetched Op.LEDGER_TIME_SET cx run), cx, 1700000000123, by decide⟩,
    ⟨(fetched Op.LEDGER_TIME_SET cx timed), cx, 5000000000, by decide⟩,
    ⟨(fetched Op.LEDGER_CALENDAR_LOAD cx (run.wr R.LEDGER_CFG_CAL_SIGNED 0 0)), cx, calBytes, true, by decide⟩,
    ⟨(fetched Op.LEDGER_CALENDAR_LOAD cx (run.wr R.LEDGER_CFG_CAL_SIGNED 0 1)), cx, calBytes, false, by decide⟩,
    ⟨(fetched Op.LEDGER_CALENDAR_LOAD cx (run.wr R.LEDGER_CFG_CAL_SIGNED 0 0)), cx, (calBytes.drop 1), false, by decide⟩,
    ⟨(calBytes.map (fun (y : Byte) => y.toNat)), cal2, rfl⟩,
    ⟨(fetched Op.LEDGER_BILLING_CLOSE cx (timed.wr R.LEDGER_BILL_CFG_CMD_CLOSE 0 1)), cx, by decide⟩,
    ⟨(fetched Op.LEDGER_BILLING_CLOSE cx (run.wr R.LEDGER_BILL_CFG_CMD_CLOSE 0 0)), cx, by decide⟩,
    ⟨(fetched Op.LEDGER_BILLING_READ cx (led fun l => { l with bills := [bset] })), cx, 0, bset, by decide⟩,
    ⟨(fetched Op.LEDGER_BILLING_READ cx run), cx, 0, by decide⟩,
    ⟨(fetched Op.LEDGER_CAL_CHALLENGE cx (drbgRun run)), cx, by decide⟩,
    ⟨(fetched Op.LEDGER_CAL_CHALLENGE cx run), cx, by decide⟩,
    ⟨(fetched Op.LEDGER_CAL_OPEN { cx with t := 20000000 } calReady), { cx with t := 20000000 }, 3, 60, 9, 0, by decide⟩,
    ⟨(fetched Op.LEDGER_CAL_OPEN cx run), cx, 3, 60, 9, true, by decide⟩,
    ⟨(fetched Op.LEDGER_CAL_OPEN cx run), cx, 3, 61, 9, true, by decide⟩,
    ⟨(fetched Op.LEDGER_CAL_CLOSE cx calRun), cx, ⟨4095, 10 ^ 15, []⟩, by decide⟩,
    ⟨(fetched Op.LEDGER_CAL_CLOSE cx run), cx, by decide⟩,
    ⟨(fetched Op.LEDGER_LEGAL_ID cx run), cx, by decide⟩,
    ⟨(fetched Op.LEDGER_ACK_LOSS cx (run.wr R.LEDGER_STAT_POSSIBLE_LOSS 0 1)), cx, by decide⟩⟩

theorem test_wit_ModemEvents :
    (∃ (s : State) (t : Nat) (i g m : Nat) (y : List (List Int)), let a := s.advance t; a.up = true ∧ i < 10 ∧
      a.flag R.PLC_CFG_EN i = true) ∧
    (∃ (s : State) (i m : Nat) (y : List (List Int)), 8 ≤ i) ∧
    (∃ (s : State) (t : Nat) (i g m : Nat) (y : List (List Int)) (z : Bool), let a := s.advance t; a.up = true ∧
      (a.flag R.PLC_CFG_EN i = false ∨ 10 ≤ i)) ∧
    (∃ (s : State) (t : Nat), let a := s.advance t; a.up = true ∧ a.trxState = 5 ∧ a.sfNext a.offNext ≤ a.mtb) ∧
    (∃ (s : State) (t : Nat), let a := s.advance t; a.up = true ∧ a.trxState ≠ 0 ∧ a.trxState ≠ 1 ∧ a.trxState ≠ 5 ∧
      a.sfNext a.offNext ≤ a.mtb) ∧
    (∃ (s : State) (t : Nat), let a := s.advance t; a.up = true ∧ (a.trxState = 0 ∨ a.trxState = 1 ∨ a.mtb <
      a.sfNext a.offNext)) ∧
    (∃ (s : State), s.trxState = 5 ∧ s.rd R.PLC_TRELLIS_CFG_ALIGN ≠ 0 ∧ s.plc.syncRef1 = 0) ∧
    (∃ (s : State) (t : Nat) (h : THdr) (m p c k : Nat) (r : List Nat), let a := s.advance t; a.up = true ∧
      a.trxState = 1 ∧ a.taken h = true ∧ h.seg = a.rd R.PLC_TRELLIS_CFG_SEGMENT ∧ 1 ≤ h.tx ∧ h.tx ≤ 254 ∧ h.tx ≠
      a.trxAddr ∧ h.tagOk = true ∧ a.ctrFresh h.tx h.ctr = true ∧ (a.plc.seen.get [] h.src).contains (65536 +
      h.ctr) = false) ∧
    (∃ (s : State) (t : Nat) (h : THdr) (m p c k : Nat) (r : List Nat), let a := s.advance t; a.up = true ∧
      a.trxState = 3 ∧ a.taken h = true ∧ h.seg = a.rd R.PLC_TRELLIS_CFG_SEGMENT ∧ 1 ≤ h.tx ∧ h.tx ≤ 254 ∧ h.tx ≠
      a.trxAddr ∧ h.tagOk = true ∧ a.ctrFresh h.tx h.ctr = true ∧ (a.plc.seen.get [] h.src).contains (65536 +
      h.ctr) = false) ∧
    (∃ (s : State) (t : Nat) (h : THdr) (m p c k : Nat) (r : List Nat), let a := s.advance t; a.up = true ∧
      a.trxState ≠ 0 ∧ a.taken h = true ∧ h.seg = a.rd R.PLC_TRELLIS_CFG_SEGMENT ∧ 1 ≤ h.tx ∧ h.tx ≤ 254 ∧ h.tx ≠
      a.trxAddr ∧ h.tagOk = false) ∧
    (∃ (s : State) (t : Nat) (m : Nat) (z : Bool), let a := s.advance t; a.up = true ∧ m + 1000 ≤ a.mtb ∧
      a.plc.syncAt1.get 0 (b2n z) ≠ 0 ∧ m - 3 < a.plc.syncAt1.get 0 (b2n z) - 1 + 10 ^ 7) ∧
    (∃ (s : State) (t : Nat) (m : Nat) (z : Bool), let a := s.advance t; a.up = true ∧ a.mtb < m + 1000) ∧
    (∃ (s : State) (t : Nat) (m : Nat) (z : Bool), let a := s.advance t; a.up = true ∧ m + 1000 ≤ a.mtb ∧
      a.plc.syncAt1.get 0 (b2n z) = 0 ∧ m < 2 ^ 63 ∧ a.flag R.LEDGER_DEMAND_CFG_SYNC_EN = false) ∧
    (∃ (s : State) (t : Nat) (m : Nat), let a := s.advance t; a.up = true ∧ m + 1000 ≤ a.mtb ∧
      a.plc.syncAt1.get 0 0 = 0 ∧ m < 2 ^ 63 ∧ a.flag R.LEDGER_DEMAND_CFG_SYNC_EN = false ∧
      a.rd R.PLC_TRELLIS_CFG_ALIGN ≠ 0 ∧ a.trxState = 5 ∧ a.rd R.PLC_TRELLIS_CFG_SYNC_EDGE = 0) :=
  ⟨⟨(run.wr R.PLC_CFG_EN 8 1), 5, 8, 20, 2, [[0, 990], [3000, -5000]], by decide⟩,
    ⟨run, 8, 2, [[0, 990], [3000, -5000]], by decide⟩,
    ⟨run, 5, 8, 20, 2, [], true, by decide⟩,
    ⟨coord, 100000000, by decide⟩,
    ⟨joined, 100000000, by decide⟩,
    ⟨run, 5, by decide⟩,
    ⟨(coord.wr R.PLC_TRELLIS_CFG_ALIGN 0 1), by decide⟩,
    ⟨(trx 1), 5, hdr, 900000, 1, 9, 3, [], by decide⟩,
    ⟨joined, 5, hdr, 900000, 1, 9, 3, [], by decide⟩,
    ⟨joined, 5, { hdr with tagOk := false }, 900000, 1, 9, 3, [], by decide⟩,
    ⟨synced, 5005, 5, true, by decide⟩,
    ⟨synced, 500, 5, true, by decide⟩,
    ⟨run, 5000, 4, true, by decide⟩,
    ⟨(coord.wr R.PLC_TRELLIS_CFG_ALIGN 0 1), 5000, 4, by decide⟩⟩

theorem test_wit_TrellisFrames :
    (∃ (s : State) (t : Nat) (f : TFrame), let a := s.advance t; a.up = true ∧ a.trxState ≠ 0 ∧ a.trxState ≠ 1 ∧
      a.contention = true ∧ a.plc.wait = none ∧ a.plc.silent = false ∧ a.nextFrame = some f ∧ f.dst ≠ 0xFF ∧ f.via =
      0 ∧ a.rd R.PLC_TRELLIS_LQ_NEXT_HOP (f.dst - 1) ≠ 0 ∧ f.tries = 0) ∧
    (∃ (s : State) (t : Nat) (f : TFrame), let a := s.advance t; a.up = true ∧ a.trxState ≠ 0 ∧ a.trxState ≠ 1 ∧
      a.contention = true ∧ a.plc.wait = none ∧ a.plc.silent = false ∧ a.plc.reqs = [] ∧ a.nextFrame = some f ∧
      f.dst = 0xFF) ∧
    (∃ (s : State) (t : Nat), let a := s.advance t; a.up = true ∧ (a.plc.wait ≠ none ∨ a.plc.silent = true ∨
      a.trxState = 0 ∨ a.trxState = 1 ∨ a.contention = false)) ∧
    (∃ (s : State) (t : Nat) (h : THdr) (q c : Nat) (f : TFrame), let a := s.advance t; a.up = true ∧ a.taken h =
      true ∧ a.plc.wait = some f ∧ h.tagOk = true ∧ h.tx = f.rx ∧ q = f.seq ∧ c = f.ctr ∧ a.ctrFresh h.tx h.ctr =
      true ∧ f.ctx = none) ∧
    (∃ (s : State) (t : Nat) (h : THdr) (q c : Nat) (f : TFrame), let a := s.advance t; a.up = true ∧ a.plc.wait =
      some f ∧ (h.tagOk = false ∨ h.tx ≠ f.rx ∨ q ≠ f.seq ∨ c ≠ f.ctr)) ∧
    (∃ (s : State) (t : Nat) (f : TFrame), let a := s.advance t; a.up = true ∧ a.plc.wait = some f ∧ f.at_ +
      200000 ≤ a.mtb ∧ 4 ≤ f.tries ∧ f.ctx = none) ∧
    (∃ (s : State) (t : Nat) (f : TFrame), let a := s.advance t; a.up = true ∧ a.plc.wait = some f ∧ f.at_ +
      200000 ≤ a.mtb ∧ f.tries < 4) ∧
    (∃ (s : State) (t : Nat) (h : THdr) (k c : Nat), let a := s.advance t; a.up = true ∧ a.taken h = true ∧ h.seg =
      a.rd R.PLC_TRELLIS_CFG_SEGMENT ∧ 1 ≤ h.tx ∧ h.tx ≤ 254 ∧ h.tx ≠ a.trxAddr ∧ h.tagOk = true ∧
      a.ctrFresh h.tx h.ctr = true ∧ (a.plc.seen.get [] h.src).contains h.seq = false ∧ h.dst = a.trxAddr ∧ h.rx =
      a.trxAddr ∧ a.trxState = 5 ∧ a.plc.nodes.get none h.src = none ∧ a.plc.nodes.cells.length < 254 ∧ h.src ≠
      a.trxAddr ∧ (a.tq 1).length < 64) ∧
    (∃ (s : State) (t : Nat) (h : THdr) (c : Nat), let a := s.advance t; a.up = true ∧ a.taken h = true ∧ h.seg =
      a.rd R.PLC_TRELLIS_CFG_SEGMENT ∧ 1 ≤ h.tx ∧ h.tx ≤ 254 ∧ h.tx ≠ a.trxAddr ∧ h.tagOk = true ∧
      a.ctrFresh h.tx h.ctr = true ∧ (a.plc.seen.get [] h.src).contains h.seq = false ∧ h.dst = a.trxAddr ∧ h.rx =
      a.trxAddr ∧ a.trxState = 2 ∧ a.plc.backoff = none) ∧
    (∃ (s : State) (t : Nat) (h : THdr) (c : Nat), let a := s.advance t; a.up = true ∧ a.taken h = true ∧ h.seg =
      a.rd R.PLC_TRELLIS_CFG_SEGMENT ∧ 1 ≤ h.tx ∧ h.tx ≤ 254 ∧ h.tx ≠ a.trxAddr ∧ h.tagOk = true ∧
      a.ctrFresh h.tx h.ctr = true ∧ (a.plc.seen.get [] h.src).contains h.seq = false ∧ h.dst = a.trxAddr ∧ h.rx =
      a.trxAddr ∧ a.trxState = 2 ∧ a.plc.backoff = none) ∧
    (∃ (s : State) (t : Nat) (h : THdr) (c : Nat), let a := s.advance t; a.up = true ∧ a.taken h = true ∧ h.seg =
      a.rd R.PLC_TRELLIS_CFG_SEGMENT ∧ 1 ≤ h.tx ∧ h.tx ≤ 254 ∧ h.tx ≠ a.trxAddr ∧ h.tagOk = true ∧
      a.ctrFresh h.tx h.ctr = true ∧ (a.plc.seen.get [] h.src).contains h.seq = false ∧ h.dst = a.trxAddr ∧ h.rx =
      a.trxAddr ∧ a.trxState = 2 ∧ a.plc.backoff = none) ∧
    (∃ (s : State) (t : Nat) (h : THdr) (d m k : Nat), let a := s.advance t; a.up = true ∧ a.trxState = 3 ∧
      a.taken h = true ∧ h.seg = a.rd R.PLC_TRELLIS_CFG_SEGMENT ∧ 1 ≤ h.tx ∧ h.tx ≤ 254 ∧ h.tx ≠ a.trxAddr ∧
      h.tagOk = true ∧ a.ctrFresh h.tx h.ctr = true ∧ (a.plc.seen.get [] h.src).contains h.seq = false ∧ h.dst =
      0xFF ∧ h.rx = 0xFF ∧ h.src = h.tx ∧ d < 256) ∧
    (∃ (s : State) (t : Nat) (h : THdr) (v w : Nat), let a := s.advance t; a.up = true ∧ a.taken h = true ∧ h.seg =
      a.rd R.PLC_TRELLIS_CFG_SEGMENT ∧ 1 ≤ h.tx ∧ h.tx ≤ 254 ∧ h.tx ≠ a.trxAddr ∧ h.tagOk = true ∧
      a.ctrFresh h.tx h.ctr = true ∧ (a.plc.seen.get [] h.src).contains h.seq = false ∧ h.dst = a.trxAddr ∧ h.rx =
      a.trxAddr ∧ a.trxState = 3 ∧ w < 2 ^ 32 ∧ v ≠ 0 ∧ v ≤ a.rd R.OUT_POLICY_TRELLIS_TO_S) ∧
    (∃ (s : State) (t : Nat) (h : THdr) (k m : Nat), let a := s.advance t; a.up = true ∧ a.taken h = true ∧ h.seg =
      a.rd R.PLC_TRELLIS_CFG_SEGMENT ∧ 1 ≤ h.tx ∧ h.tx ≤ 254 ∧ h.tx ≠ a.trxAddr ∧ h.tagOk = true ∧
      a.ctrFresh h.tx h.ctr = true ∧ (a.plc.seen.get [] h.src).contains h.seq = false ∧ h.dst = a.trxAddr ∧ h.rx =
      a.trxAddr ∧ a.trxState = 3 ∧ a.rtcValid = false ∧ a.ledger.bound = none ∧ m < 1000 * 2 ^ 31 ∧ a.mtb < 2 ^ 60 ∧
      a.plc.sfStart ≤ a.mtb ∧ k = a.rd R.PLC_TRELLIS_STAT_SF_COUNT) ∧
    (∃ (s : State) (t : Nat) (h : THdr) (d : List Byte), let a := s.advance t; a.up = true ∧ a.taken h = true ∧
      h.seg = a.rd R.PLC_TRELLIS_CFG_SEGMENT ∧ 1 ≤ h.tx ∧ h.tx ≤ 254 ∧ h.tx ≠ a.trxAddr ∧ h.tagOk = true ∧
      a.ctrFresh h.tx h.ctr = true ∧ (a.plc.seen.get [] h.src).contains h.seq = false ∧ h.dst = a.trxAddr ∧ h.rx =
      a.trxAddr ∧ a.trxState = 3) ∧
    (∃ (s : State) (t : Nat) (h : THdr) (d n g : Nat), let a := s.advance t; a.up = true ∧ a.taken h = true ∧
      h.seg = a.rd R.PLC_TRELLIS_CFG_SEGMENT ∧ 1 ≤ h.tx ∧ h.tx ≤ 254 ∧ h.tx ≠ a.trxAddr ∧ h.tagOk = true ∧
      a.ctrFresh h.tx h.ctr = true ∧ (a.plc.seen.get [] h.src).contains h.seq = false ∧ h.dst = a.trxAddr ∧ h.rx =
      a.trxAddr ∧ a.trxState = 3 ∧ a.updState = 0 ∧ a.flag R.UPD_CFG_TRELLIS_FETCH = true ∧ a.keyMode ≠ 4 ∧
      a.rd R.UPD_BOOT_ACTIVE_GEN < g ∧ a.rd R.UPD_BOOT_FLOOR ≤ g ∧ (a.tq 2).length < 64) ∧
    (∃ (s : State) (t : Nat) (h : THdr) (d m k : Nat), let a := s.advance t; a.up = true ∧ a.taken h = true ∧
      h.seg = a.rd R.PLC_TRELLIS_CFG_SEGMENT ∧ 1 ≤ h.tx ∧ h.tx ≤ 254 ∧ h.tx ≠ a.trxAddr ∧ h.tagOk = true ∧
      a.ctrFresh h.tx h.ctr = true ∧ (a.plc.seen.get [] h.src).contains h.seq = false ∧ h.dst = a.trxAddr ∧ h.rx =
      a.trxAddr ∧ a.trxState = 3 ∧ a.servedImage.map (·.1) = some d ∧ a.flag R.PLC_TRELLIS_CFG_SERVE_IMAGES = true ∧
      a.flag R.PWR_STAT_THROTTLE = true ∧ a.plc.reqs = [] ∧ 1 ≤ k) ∧
    (∃ (s : State) (t : Nat) (h : THdr) (d m f : Nat) (l : List Byte) (z : Bool × Bool), let a := s.advance t;
      a.up = true ∧ a.taken h = true ∧ h.seg = a.rd R.PLC_TRELLIS_CFG_SEGMENT ∧ 1 ≤ h.tx ∧ h.tx ≤ 254 ∧ h.tx ≠
      a.trxAddr ∧ h.tagOk = true ∧ a.ctrFresh h.tx h.ctr = true ∧ (a.plc.seen.get [] h.src).contains h.seq = false ∧
      h.dst = a.trxAddr ∧ h.rx = a.trxAddr ∧ a.trxState = 3 ∧ f < 5 ∧ l.length = (if f < 4 then 1008 else 64) ∧
      a.plc.parts = []) ∧
    (∃ (s : State) (t : Nat) (h : THdr) (d m f w : Nat) (l : List Byte) (z : Bool × Bool) (e : List (Nat × List Nat)),
      let a := s.advance t; a.up = true ∧ a.taken h = true ∧ h.seg = a.rd R.PLC_TRELLIS_CFG_SEGMENT ∧ 1 ≤ h.tx ∧
      h.tx ≤ 254 ∧ h.tx ≠ a.trxAddr ∧ h.tagOk = true ∧ a.ctrFresh h.tx h.ctr = true ∧
      (a.plc.seen.get [] h.src).contains h.seq = false ∧ h.dst = a.trxAddr ∧ h.rx = a.trxAddr ∧ a.trxState = 3 ∧ f <
      5 ∧ l.length = (if f < 4 then 1008 else 64) ∧ a.plc.parts = [(h.src, m, w, e)] ∧ e.length = 4 ∧
      e.all (fun (q : Nat × List Nat) => q.1 != f) = true ∧ a.updState ≠ 0 ∧ a.updState ≠ 1) ∧
    (∃ (s : State) (t : Nat) (h : THdr) (d m f : Nat) (l : List Byte) (z : Bool × Bool), let a := s.advance t;
      a.up = true ∧ a.taken h = true ∧ h.seg = a.rd R.PLC_TRELLIS_CFG_SEGMENT ∧ 1 ≤ h.tx ∧ h.tx ≤ 254 ∧ h.tx ≠
      a.trxAddr ∧ h.tagOk = true ∧ a.ctrFresh h.tx h.ctr = true ∧ (a.plc.seen.get [] h.src).contains h.seq = false ∧
      h.dst = a.trxAddr ∧ h.rx = a.trxAddr ∧ a.trxState = 3 ∧ (5 ≤ f ∨ l.length ≠ (if f < 4 then 1008 else 64))) :=
  ⟨⟨(queued 0), 5000000, frame1, by decide⟩,
    ⟨(queuedB), 5000000, { frame1 with dst := 0xFF }, by decide⟩,
    ⟨run, 5, by decide⟩,
    ⟨(waiting 1), 5, hdr, 4, 2, { frame1 with rx := 7, tx := 3, ctr := 2, tries := 1 }, by decide⟩,
    ⟨(waiting 1), 5, hdr, 4, 3, { frame1 with rx := 7, tx := 3, ctr := 2, tries := 1 }, by decide⟩,
    ⟨(waiting 4), 300000, { frame1 with rx := 7, tx := 3, ctr := 2, tries := 4 }, by decide⟩,
    ⟨(waiting 1), 300000, { frame1 with rx := 7, tx := 3, ctr := 2, tries := 1 }, by decide⟩,
    ⟨coord, 5, hdr, 77, 0, by decide, by decide, by decide, by decide, by decide, by decide, by decide, by decide, by decide, by decide, by decide, by decide, by decide, by decide, by decide, by decide⟩,
    ⟨(trx 2), 5, hdr, 4, by decide⟩,
    ⟨(trx 2), 5, hdr, 4, by decide⟩,
    ⟨(trx 2), 5, hdr, 4, by decide⟩,
    ⟨joined, 5, { hdr with dst := 0xFF, rx := 0xFF }, 9, 40, 1, by decide⟩,
    ⟨joined, 5, hdr, 10, 5000, by decide, by decide, by decide, by decide, by decide, by decide, by decide, by decide, by decide, by decide, by decide, by decide, by decide, by decide, by decide⟩,
    ⟨joined, 5, hdr, 0, 1700000000123, by decide, by decide, by decide, by decide, by decide, by decide, by decide, by decide, by decide, by decide, by decide, by decide, by decide, by decide, by decide, by decide, by decide, by decide⟩,
    ⟨joined, 5, hdr, [1, 2], by decide⟩,
    ⟨(joined.wr R.UPD_CFG_TRELLIS_FETCH 0 1), 5, hdr, 9, 40, 1, by decide, by decide, by decide, by decide, by decide, by decide, by decide, by decide, by decide, by decide, by decide, by decide, by decide, by decide, by decide, by decide, by decide, by decide⟩,
    ⟨serving, 5, hdr, 55, 3, 2, by decide, by decide, by decide, by decide, by decide, by decide, by decide, by decide, by decide, by decide, by decide, by decide, by decide, by decide, by decide, by decide, by decide⟩,
    ⟨joined, 5, hdr, 55, 3, 4, (List.replicate 64 7), (true, true), by decide, by decide, by decide, by decide, by decide, by decide, by decide, by decide, by decide, by decide, by decide, by decide, by decide, by decide, by decide⟩,
    ⟨({ joined.wr R.UPD_STAT_STATE 0 3 with plc := { joined.plc with parts := [(7, 3, 1, [(0, []), (1, []), (2, []), (3, [])])] } }), 5, hdr, 55, 3, 4, 1, (List.replicate 64 7), (true, true), [(0, []), (1, []), (2, []), (3, [])], by decide, by decide, by decide, by decide, by decide, by decide, by decide, by decide, by decide, by decide, by decide, by decide, by decide, by decide, by decide, by decide, by decide, by decide, by decide⟩,
    ⟨joined, 5, hdr, 55, 3, 4, [1], (true, true), by decide⟩⟩

theorem test_wit_TrellisTimers :
    (∃ (s : State) (t : Nat), let a := s.advance t; a.up = true) ∧
    (∃ (s : State) (t : Nat), let a := s.advance t; a.up = true ∧ a.trxState = 1 ∧ a.flag R.PLC_TRELLIS_CFG_ROLE =
      true ∧ a.plc.beaconAt + 50 * a.sfLen ≤ a.mtb) ∧
    (∃ (s : State) (t : Nat), let a := s.advance t; a.up = true ∧ a.trxState = 3 ∧ a.plc.beaconAt + 50 * a.sfLen ≤
      a.mtb) ∧
    (∃ (s : State) (t : Nat), let a := s.advance t; a.up = true ∧ a.trxState = 4 ∧ a.plc.beaconAt + 250 * a.sfLen ≤
      a.mtb) ∧
    (∃ (s : State) (t : Nat), let a := s.advance t; a.up = true ∧ a.trxState = 2 ∧ a.plc.backoff = none ∧
      a.plc.joinAt + 25 * a.sfLen ≤ a.mtb) ∧
    (∃ (s : State) (t : Nat) (d : Nat), let a := s.advance t; a.up = true ∧ a.trxState = 2 ∧ a.plc.backoff =
      some d ∧ d ≤ a.mtb) ∧
    (∃ (s : State) (t : Nat) (n k z : Nat), let a := s.advance t; a.up = true ∧ a.plc.nodes.get none n =
      some (k, z) ∧ a.trxState = 5 ∧ z + 750 * a.sfLen ≤ a.mtb) ∧
    (∃ (s : State) (t : Nat), let a := s.advance t; a.up = true ∧ a.plc.sentAt.get 0 0 + 25 ≤ a.plc.ticks ∧
      (a.trxState = 3 ∨ a.trxState = 5) ∧ (a.tq 1).length < 64) ∧
    (∃ (s : State) (t : Nat) (v : Nat) (e : List (Nat × Nat)), let a := s.advance t; a.up = true ∧
      a.plc.sentAt.get 0 1 + 250 ≤ a.plc.ticks ∧ a.trxState = 5 ∧ a.plc.limit = some (v, e) ∧ (a.tq 0).length < 64) ∧
    (∃ (s : State) (t : Nat), let a := s.advance t; a.up = true ∧ a.plc.sentAt.get 0 2 + 1500 ≤ a.plc.ticks ∧
      a.trxState = 5 ∧ a.rtcValid = true ∧ (a.tq 1).length < 64) ∧
    (∃ (s : State) (t : Nat) (d n g : Nat), let a := s.advance t; a.up = true ∧ a.plc.sentAt.get 0 3 + 1500 ≤
      a.plc.ticks ∧ a.servedImage = some (d, n, g) ∧ a.flag R.PLC_TRELLIS_CFG_SERVE_IMAGES = true ∧ a.trxState = 3 ∧
      (a.tq 2).length < 64) ∧
    (∃ (s : State) (t : Nat), let a := s.advance t; a.up = true ∧ a.plc.ticks < a.plc.sentAt.get 0 0 + 25) ∧
    (∃ (s : State) (t : Nat), let a := s.advance t; a.up = true ∧ a.plc.ticks < a.plc.sentAt.get 0 1 + 250) ∧
    (∃ (s : State) (t : Nat), let a := s.advance t; a.up = true ∧ a.plc.ticks < a.plc.sentAt.get 0 2 + 1500) ∧
    (∃ (s : State) (t : Nat), let a := s.advance t; a.up = true ∧ a.plc.ticks < a.plc.sentAt.get 0 3 + 1500) :=
  ⟨⟨run, 5, by decide⟩,
    ⟨((trx 1).wr R.PLC_TRELLIS_CFG_ROLE 0 1), 3000000000, by decide⟩,
    ⟨joined, 3000000000, by decide⟩,
    ⟨(trx 4), 13000000000, by decide⟩,
    ⟨(trx 2), 1500000000, by decide⟩,
    ⟨({ trx 2 with plc := { (trx 2).plc with backoff := some 3 } }), 5, 3, by decide⟩,
    ⟨({ coord with plc := { coord.plc with nodes := coord.plc.nodes.put none 9 (some (5, 0)) } }), 40000000000, 9, 5, 0, by decide⟩,
    ⟨(ticked joined), 5, by decide⟩,
    ⟨(ticked { coord with plc := { coord.plc with limit := some (3, [(9, 100)]) } }), 5, 3, [(9, 100)], by decide⟩,
    ⟨(ticked (coord.wr R.GLOBAL_MTB_UTC_RTC_VALID 0 1)), 5, by decide⟩,
    ⟨(ticked serving), 5, 55, 10, 1, by decide⟩,
    ⟨joined, 5, by decide⟩,
    ⟨joined, 5, by decide⟩,
    ⟨joined, 5, by decide⟩,
    ⟨joined, 5, by decide⟩⟩

theorem test_wit_TrellisCommands :
    (∃ (s : State) (t : Nat), let a := s.advance t; a.up = true ∧ a.trxState = 0 ∧ a.trxAddr ≠ 0 ∧
      a.rd R.PLC_TRELLIS_CFG_SEGMENT ≠ 0 ∧ a.flag R.GLOBAL_ISLAND_STAT_READY 8 = true) ∧
    (∃ (s : State) (t : Nat), let a := s.advance t; a.up = true ∧ a.trxState ≠ 0) ∧
    (∃ (s : State) (x : Ctx) (i : Nat), let b := s.advance x.t; let a := b.start x; b.takes x Op.PLC_QUERY i =
      true ∧ i < 10) ∧
    (∃ (s : State) (x : Ctx) (i : Nat), let b := s.advance x.t; let a := b.start x; b.takes x Op.PLC_QUERY i =
      true ∧ 10 ≤ i) ∧
    (∃ (s : State) (x : Ctx) (d c : Nat) (p : List Byte), let b := s.advance x.t; let a := b.start x;
      b.takes x Op.TRELLIS_SEND 0 = true ∧ 1 ≤ c ∧ c ≤ 3 ∧ 1 ≤ d ∧ d < 255 ∧ a.trxState = 3 ∧ p ≠ [] ∧ p.length ≤
      1024 ∧ a.rd R.PLC_TRELLIS_LQ_HOPS (d - 1) ≠ 0 ∧ (a.tq c).length < 64) ∧
    (∃ (s : State) (x : Ctx) (d c : Nat) (p : List Byte), let b := s.advance x.t; let a := b.start x;
      b.takes x Op.TRELLIS_SEND 0 = true ∧ 1 ≤ c ∧ c ≤ 3 ∧ 1 ≤ d ∧ d ≤ 255 ∧ a.trxState ≠ 3 ∧ a.trxState ≠ 5) ∧
    (∃ (s : State) (x : Ctx) (d c : Nat) (p : List Byte), let b := s.advance x.t; let a := b.start x;
      b.takes x Op.TRELLIS_SEND 0 = true ∧ 1 ≤ c ∧ c ≤ 3 ∧ 1 ≤ d ∧ d ≤ 255 ∧ a.trxState = 3 ∧ (p = [] ∨ 1024 <
      p.length)) ∧
    (∃ (s : State) (x : Ctx) (v n w : Nat), let b := s.advance x.t; let a := b.start x;
      b.takes x Op.TRELLIS_LIMIT_SEND 0 = true ∧ v < 65536 ∧ 1 ≤ n ∧ n < 255 ∧ n ≠ a.trxAddr ∧ w < 2 ^ 32 ∧
      a.flag R.PLC_TRELLIS_CFG_ROLE = true ∧ a.trxState = 5 ∧ (a.tq 0).length < 64) ∧
    (∃ (s : State) (x : Ctx) (v n w : Nat), let b := s.advance x.t; let a := b.start x;
      b.takes x Op.TRELLIS_LIMIT_SEND 0 = true ∧ v < 65536 ∧ 1 ≤ n ∧ n ≤ 255 ∧ w < 2 ^ 32 ∧ a.trxState ≠ 5) ∧
    (∃ (s : State) (x : Ctx), let b := s.advance x.t; let a := b.start x; b.takes x Op.TRELLIS_LQ_READ 0 = true) ∧
    (∃ (s : State) (x : Ctx), let b := s.advance x.t; let a := b.start x; b.takes x Op.TRELLIS_RESTART 0 = true ∧
      a.trxState ≠ 0 ∧ a.trxMay = true) :=
  ⟨⟨(trx 0), 5, by decide⟩,
    ⟨joined, 5, by decide⟩,
    ⟨(fetched Op.PLC_QUERY cx run), cx, 3, by decide⟩,
    ⟨(fetched Op.PLC_QUERY cx run), cx, 10, by decide⟩,
    ⟨(fetched Op.TRELLIS_SEND cx (joined.wr R.PLC_TRELLIS_LQ_HOPS 8 1)), cx, 9, 2, [1], by decide⟩,
    ⟨(fetched Op.TRELLIS_SEND cx run), cx, 9, 2, [1], by decide⟩,
    ⟨(fetched Op.TRELLIS_SEND cx joined), cx, 9, 2, [], by decide⟩,
    ⟨(fetched Op.TRELLIS_LIMIT_SEND cx (coord.wr R.PLC_TRELLIS_CFG_ROLE 0 1)), cx, 5, 9, 100, by decide⟩,
    ⟨(fetched Op.TRELLIS_LIMIT_SEND cx run), cx, 5, 9, 100, by decide⟩,
    ⟨(fetched Op.TRELLIS_LQ_READ cx run), cx, by decide⟩,
    ⟨(fetched Op.TRELLIS_RESTART cx (joined.wr R.PLC_TRELLIS_CFG_EN 0 1)), cx, by decide⟩⟩

theorem test_wit_UpdateCommands :
    (∃ (s : State) (x : Ctx) (l : List Byte) (w : Bool × Bool), let b := s.advance x.t; let a := b.start x;
      b.takes x Op.UPD_BEGIN 0 = true ∧ a.manifestBad (manifestOf (l.map fun (y : Byte) => y.toNat) w) = none ∧
      a.keyMode ≠ 4 ∧ a.updState = 0 ∧ a.rd R.UPD_STAT_HOLDER = 0 ∧ a.upd.man = none) ∧
    (∃ (s : State) (x : Ctx) (l : List Byte) (w : Bool × Bool), let b := s.advance x.t; let a := b.start x;
      b.takes x Op.UPD_BEGIN 0 = true ∧ a.keyMode ≠ 4 ∧ a.updState ≠ 5 ∧ a.rd R.UPD_STAT_HOLDER = 0 ∧ w.1 = false) ∧
    (∃ (s : State) (x : Ctx) (l : List Byte) (w : Bool × Bool) (e : Nat), let b := s.advance x.t;
      let a := b.start x; b.takes x Op.UPD_BEGIN 0 = true ∧ a.keyMode ≠ 4 ∧ a.updState ≠ 5 ∧
      a.rd R.UPD_STAT_HOLDER = 0 ∧ a.manifestBad (manifestOf (l.map fun (y : Byte) => y.toNat) w) = some e ∧ e ≠
      St.IMAGE_SIG) ∧
    (∃ (s : State) (x : Ctx) (l : List Byte) (w : Bool × Bool), let b := s.advance x.t; let a := b.start x;
      b.takes x Op.UPD_BEGIN 0 = true ∧ a.keyMode ≠ 4 ∧ a.updState ≠ 5 ∧ a.rd R.UPD_STAT_HOLDER / 2 ^ 24 ≠ 0 ∧
      a.rd R.UPD_STAT_HOLDER / 2 ^ 24 ≠ 1) ∧
    (∃ (s : State) (x : Ctx) (l : List Byte) (w : Bool × Bool), let b := s.advance x.t; let a := b.start x;
      b.takes x Op.UPD_BEGIN 0 = true ∧ a.keyMode ≠ 4 ∧ a.updState = 5) ∧
    (∃ (s : State) (x : Ctx) (l : List Byte) (w : Bool × Bool), let b := s.advance x.t; let a := b.start x;
      b.takes x Op.UPD_BEGIN 0 = true ∧ a.keyMode = 4) ∧
    (∃ (s : State) (x : Ctx) (m : TamecMan) (n : Nat) (l : List Byte), let b := s.advance x.t; let a := b.start x;
      b.takes x Op.UPD_BLOCK 0 = true ∧ a.keyMode ≠ 4 ∧ a.updState = 1 ∧ a.upd.man = some m ∧
      a.rd R.UPD_STAT_HOLDER / 2 ^ 24 = 1 ∧ n < m.total ∧ l.length = 4096 ∧ bit a.upd.bitmap n = false ∧
      a.worn a.stagingSlot = false ∧ m.htBlocks < n ∧ a.tableDone m = true ∧ a.rd R.UPD_STAT_RECEIVED + 1 <
      a.rd R.UPD_STAT_TOTAL) ∧
    (∃ (s : State) (x : Ctx) (m : TamecMan) (n : Nat) (l : List Byte), let b := s.advance x.t; let a := b.start x;
      b.takes x Op.UPD_BLOCK 0 = true ∧ a.keyMode ≠ 4 ∧ a.updState = 1 ∧ a.upd.man = some m ∧
      a.rd R.UPD_STAT_HOLDER / 2 ^ 24 = 1 ∧ n < m.total ∧ l.length = 4096 ∧ bit a.upd.bitmap n = false ∧
      a.worn a.stagingSlot = false ∧ m.htBlocks < n ∧ a.tableDone m = false) ∧
    (∃ (s : State) (x : Ctx) (m : TamecMan) (n : Nat) (l : List Byte), let b := s.advance x.t; let a := b.start x;
      b.takes x Op.UPD_BLOCK 0 = true ∧ a.keyMode ≠ 4 ∧ a.updState = 1 ∧ a.upd.man = some m ∧
      a.rd R.UPD_STAT_HOLDER / 2 ^ 24 = 1 ∧ n < m.total ∧ l.length = 4096 ∧ bit a.upd.bitmap n = false ∧
      a.worn a.stagingSlot = false ∧ n ≤ m.htBlocks ∧ (a.updMark n (l.map fun (y : Byte) => y.toNat)).tableDone m =
      false ∧ a.rd R.UPD_STAT_RECEIVED + 1 < a.rd R.UPD_STAT_TOTAL) ∧
    (∃ (s : State) (x : Ctx) (m : TamecMan) (n : Nat) (l : List Byte), let b := s.advance x.t; let a := b.start x;
      b.takes x Op.UPD_BLOCK 0 = true ∧ a.keyMode ≠ 4 ∧ a.updState = 1 ∧ a.upd.man = some m ∧
      a.rd R.UPD_STAT_HOLDER / 2 ^ 24 = 1 ∧ (m.total ≤ n ∨ l.length ≠ 4096)) ∧
    (∃ (s : State) (x : Ctx) (n : Nat), let b := s.advance x.t; let a := b.start x; b.takes x Op.UPD_BLOCK 0 =
      true ∧ a.keyMode ≠ 4 ∧ a.rd R.UPD_STAT_HOLDER / 2 ^ 24 = 1) ∧
    (∃ (s : State) (x : Ctx) (f : Nat), let b := s.advance x.t; let a := b.start x; b.takes x Op.UPD_STATUS 0 =
      true ∧ a.rd R.UPD_STAT_HOLDER = 0) ∧
    (∃ (s : State) (x : Ctx), let b := s.advance x.t; let a := b.start x; b.takes x Op.UPD_ACTIVATE 0 = true ∧
      a.updState = 3 ∧ a.flag R.LEDGER_STAT_CAL_OPEN = false ∧ a.flag R.UPD_CFG_LEGAL_SEAL_REQ = false) ∧
    (∃ (s : State) (x : Ctx) (k : Nat), let b := s.advance x.t; let a := b.start x; b.takes x Op.UPD_ACTIVATE 0 =
      true ∧ k < 2 ∧ a.updState ≠ 3) ∧
    (∃ (s : State) (x : Ctx) (k : Nat), let b := s.advance x.t; let a := b.start x; b.takes x Op.UPD_ACTIVATE 0 =
      true ∧ k < 2 ∧ a.updState = 3 ∧ a.flag R.LEDGER_STAT_CAL_OPEN = true) ∧
    (∃ (s : State) (x : Ctx) (k : Nat) (m : TamecMan), let b := s.advance x.t; let a := b.start x;
      b.takes x Op.UPD_ACTIVATE 0 = true ∧ k < 2 ∧ a.updState = 3 ∧ a.flag R.LEDGER_STAT_CAL_OPEN = false ∧
      a.flag R.UPD_CFG_LEGAL_SEAL_REQ = true ∧ a.flag R.LEDGER_STAT_SEAL = false ∧ a.upd.man = some m ∧
      m.parts.getD 3 0 ≠ a.slotPart a.activeSlot 3) ∧
    (∃ (s : State) (x : Ctx), let b := s.advance x.t; let a := b.start x; b.takes x Op.UPD_CONFIRM 0 = true ∧
      a.updState = 5 ∧ a.health = true) ∧
    (∃ (s : State) (x : Ctx), let b := s.advance x.t; let a := b.start x; b.takes x Op.UPD_CONFIRM 0 = true ∧
      a.updState = 5 ∧ a.health = false) ∧
    (∃ (s : State) (x : Ctx), let b := s.advance x.t; let a := b.start x; b.takes x Op.UPD_CONFIRM 0 = true ∧
      a.updState ≠ 5) ∧
    (∃ (s : State) (x : Ctx), let b := s.advance x.t; let a := b.start x; b.takes x Op.UPD_REVERT 0 = true ∧
      a.updState = 5) ∧
    (∃ (s : State) (x : Ctx), let b := s.advance x.t; let a := b.start x; b.takes x Op.UPD_REVERT 0 = true ∧
      a.updState ≠ 5) ∧
    (∃ (s : State) (k : Nat) (c : Option Ctx), s.upd.revert = some (k, c) ∧ s.noneLive = true ∧ s.upd.confirmed < 2) ∧
    (∃ (s : State) (x : Ctx) (g : Option OwnerSig), let b := s.advance x.t; let a := b.start x;
      b.takes x Op.UPD_ABORT 0 = true ∧ a.updState = 1 ∧ a.rd R.UPD_STAT_HOLDER / 2 ^ 24 = 1) ∧
    (∃ (s : State) (x : Ctx), let b := s.advance x.t; let a := b.start x; b.takes x Op.UPD_ABORT 0 = true ∧
      a.updState = 1 ∧ a.rd R.UPD_STAT_HOLDER / 2 ^ 24 ≠ 1) ∧
    (∃ (s : State) (x : Ctx) (c : Nat) (g : OwnerSig), let b := s.advance x.t; let a := b.start x;
      b.takes x Op.UPD_POLICY 0 = true ∧ a.ownerBad g = none ∧ c < 2) ∧
    (∃ (s : State) (x : Ctx) (c e : Nat) (g : OwnerSig), let b := s.advance x.t; let a := b.start x;
      b.takes x Op.UPD_POLICY 0 = true ∧ a.ownerBad g = some e) :=
  ⟨⟨(fetched Op.UPD_BEGIN cx run), cx, manBytes, (true, false), by decide⟩,
    ⟨(fetched Op.UPD_BEGIN cx run), cx, [], (false, true), by decide⟩,
    ⟨(fetched Op.UPD_BEGIN cx run), cx, [], (true, true), St.IMAGE_FORMAT, by decide⟩,
    ⟨(fetched Op.UPD_BEGIN cx (run.wr R.UPD_STAT_HOLDER 0 (2 * 2 ^ 24))), cx, [], (true, true), by decide⟩,
    ⟨(fetched Op.UPD_BEGIN cx (run.wr R.UPD_STAT_STATE 0 5)), cx, [], (true, true), by decide⟩,
    ⟨(fetched Op.UPD_BEGIN cx (run.wr R.KEY_STATUS_MODE 0 4)), cx, [], (true, true), by decide⟩,
    ⟨(fetched Op.UPD_BLOCK cx receiving), cx, man1, 3, (List.replicate 4096 0), by decide⟩,
    ⟨(fetched Op.UPD_BLOCK cx (withBitmap 1)), cx, man1, 3, (List.replicate 4096 0), by decide⟩,
    ⟨(fetched Op.UPD_BLOCK cx ({ withBitmap 1 with upd := { (withBitmap 1).upd with man := some { man1 with htBlocks := 2 } } })), cx, { man1 with htBlocks := 2 }, 1, (List.replicate 4096 0), by decide⟩,
    ⟨(fetched Op.UPD_BLOCK cx receiving), cx, man1, 3, [], by decide⟩,
    ⟨(fetched Op.UPD_BLOCK cx receiving), cx, 3, by decide⟩,
    ⟨(fetched Op.UPD_STATUS cx run), cx, 0, by decide⟩,
    ⟨(fetched Op.UPD_ACTIVATE cx ((run.wr R.UPD_STAT_STATE 0 3).wr R.UPD_CFG_LEGAL_SEAL_REQ 0 0)), cx, by decide⟩,
    ⟨(fetched Op.UPD_ACTIVATE cx run), cx, 1, by decide⟩,
    ⟨(fetched Op.UPD_ACTIVATE cx ((run.wr R.UPD_STAT_STATE 0 3).wr R.LEDGER_STAT_CAL_OPEN 0 1)), cx, 1, by decide⟩,
    ⟨(fetched Op.UPD_ACTIVATE cx verified), cx, 1, { man1 with parts := [1, 2, 3, 9, 5, 6] }, by decide⟩,
    ⟨(fetched Op.UPD_CONFIRM cx trial), cx, by decide⟩,
    ⟨(fetched Op.UPD_CONFIRM cx (run.wr R.UPD_STAT_STATE 0 5)), cx, by decide⟩,
    ⟨(fetched Op.UPD_CONFIRM cx run), cx, by decide⟩,
    ⟨(fetched Op.UPD_REVERT cx trial), cx, by decide⟩,
    ⟨(fetched Op.UPD_REVERT cx run), cx, by decide⟩,
    ⟨({ trial with upd := { trial.upd with revert := some (3, none) } }), 3, none, by decide⟩,
    ⟨(fetched Op.UPD_ABORT cx receiving), cx, none, by decide⟩,
    ⟨(fetched Op.UPD_ABORT cx (receiving.wr R.UPD_STAT_HOLDER 0 (2 * 2 ^ 24))), cx, by decide⟩,
    ⟨(fetched Op.UPD_POLICY cx owned), cx, 1, ⟨true, 5⟩, by decide⟩,
    ⟨(fetched Op.UPD_POLICY cx owned), cx, 1, St.BAD_SIGNATURE, ⟨false, 5⟩, by decide⟩⟩

theorem test_wit_UpdateEventsAndServiceUart :
    (∃ (s : State) (t : Nat) (z : Bool) (m : TamecMan), let a := s.advance t; a.up = true ∧ a.updState = 2 ∧
      a.upd.man = some m) ∧
    (∃ (s : State) (t : Nat) (m : TamecMan), let a := s.advance t; a.up = true ∧ a.updState = 2 ∧ a.upd.man =
      some m) ∧
    (∃ (s : State) (t : Nat) (z : Bool), let a := s.advance t; a.up = true ∧ a.updState ≠ 2) ∧
    (∃ (s : State) (t : Nat), let a := s.advance t; a.up = true ∧ (a.updState = 1 ∨ a.updState = 3) ∧ a.upd.idleAt +
      1800 * 10 ^ 9 ≤ a.mtb) ∧
    (∃ (s : State) (t : Nat), let a := s.advance t; a.up = true ∧ a.mtb < a.upd.idleAt + 1800 * 10 ^ 9) ∧
    (∃ (s : State) (t : Nat) (k z : Nat) (c : Option Ctx) (m : TamecMan), let a := s.advance t; a.up = true ∧
      a.upd.act = some (k, z, c) ∧ a.updState = 4 ∧ a.activationReady k = true ∧ a.upd.man = some m ∧
      a.upd.bootRom = false ∧ a.activeSlot < 2) ∧
    (∃ (s : State) (t : Nat) (k z : Nat) (c : Option Ctx), let a := s.advance t; a.up = true ∧ a.upd.act =
      some (k, z, c) ∧ a.activationReady k = false) ∧
    (∃ (s : State) (t : Nat) (z : Nat), let a := s.advance t; a.up = true ∧ a.upd.act = some (0, z, none) ∧
      a.updState = 4 ∧ z + 3600 * 10 ^ 9 * a.rd R.UPD_CFG_IDLE_WAIT_H ≤ a.mtb) ∧
    (∃ (s : State) (t : Nat), let a := s.advance t; a.up = true ∧ a.updState = 5 ∧ a.upd.savedAt + 10 ^ 10 ≤ a.mtb ∧
      a.rd R.UPD_BOOT_TRIAL_S ≤ 1000) ∧
    (∃ (s : State) (t : Nat), let a := s.advance t; a.up = true ∧ a.updState = 5 ∧ a.flag R.UPD_CFG_AUTO_CONFIRM =
      true ∧ a.healthNote.health = true ∧ 60 * 10 ^ 9 * a.rd R.UPD_CFG_CONFIRM_MIN ≤ a.healthNote.upd.healthNs) ∧
    (∃ (s : State) (t : Nat), let a := s.advance t; a.up = true ∧ a.updState ≠ 5) ∧
    (∃ (s : State) (t : Nat), let a := s.advance t; a.up = true ∧ a.updState = 5 ∧ a.upd.revert = none ∧
      900 * 10 ^ 9 ≤ a.rd R.UPD_BOOT_TRIAL_S * 10 ^ 9 + (a.mtb - a.upd.savedAt)) ∧
    (∃ (s : State) (t : Nat), let a := s.advance t; a.up = true ∧ a.updState ≠ 5) ∧
    (∃ (s : State) (t : Nat) (l : List Byte) (w : Bool × Bool), let a := s.advance t; a.up = true ∧
      a.manifestBad (manifestOf (l.map fun (y : Byte) => y.toNat) w) = none ∧ a.updState = 0 ∧
      a.rd R.UPD_STAT_HOLDER = 0 ∧ a.upd.man = none) ∧
    (∃ (s : State) (t : Nat) (l : List Byte) (w : Bool × Bool), let a := s.advance t; a.up = true ∧ a.updState = 5) ∧
    (∃ (s : State) (t : Nat) (m : TamecMan) (n : Nat) (l : List Byte), let a := s.advance t; a.up = true ∧
      a.updState = 1 ∧ a.upd.man = some m ∧ a.rd R.UPD_STAT_HOLDER / 2 ^ 24 = 3 ∧ n < m.total ∧ l.length = 4096 ∧
      bit a.upd.bitmap n = false ∧ a.worn a.stagingSlot = false ∧ m.htBlocks < n ∧ a.tableDone m = true ∧
      a.rd R.UPD_STAT_RECEIVED + 1 < a.rd R.UPD_STAT_TOTAL) ∧
    (∃ (s : State) (t : Nat) (n : Nat) (l : List Byte), let a := s.advance t; a.up = true ∧ a.updState ≠ 1 ∧
      a.upd.man = none ∧ a.rd R.UPD_STAT_HOLDER = 0) ∧
    (∃ (s : State) (t : Nat), let a := s.advance t; a.up = true ∧ a.updState = 3 ∧ a.flag R.LEDGER_STAT_CAL_OPEN =
      false ∧ a.flag R.UPD_CFG_LEGAL_SEAL_REQ = false) ∧
    (∃ (s : State) (t : Nat) (k : Nat), let a := s.advance t; a.up = true ∧ k < 2 ∧ a.updState ≠ 3) ∧
    (∃ (s : State) (t : Nat), let a := s.advance t; a.up = true) ∧
    (∃ (s : State) (t : Nat) (g : Option OwnerSig), let a := s.advance t; a.up = true ∧ a.updState = 1 ∧
      a.rd R.UPD_STAT_HOLDER / 2 ^ 24 = 3) ∧
    (∃ (s : State) (t : Nat), let a := s.advance t; a.up = true ∧ a.updState = 5 ∧ a.health = true) ∧
    (∃ (s : State) (t : Nat), let a := s.advance t; a.up = true ∧ a.updState ≠ 5) ∧
    (∃ (s : State) (t : Nat), let a := s.advance t; a.up = true ∧ a.updState = 5) ∧
    (∃ (s : State) (t : Nat), let a := s.advance t; a.up = true ∧ a.updState ≠ 5) :=
  ⟨⟨(receiving.wr R.UPD_STAT_STATE 0 2), 5, true, man1, by decide⟩,
    ⟨(receiving.wr R.UPD_STAT_STATE 0 2), 5, man1, by decide⟩,
    ⟨run, 5, true, by decide⟩,
    ⟨receiving, 1800000000005, by decide⟩,
    ⟨receiving, 5, by decide⟩,
    ⟨activating, 5, 0, 0, none, man1, by decide⟩,
    ⟨({ activating with out := (outAt 3 fun o => { o with st := .connected }).out }), 5, 0, 0, none, by decide⟩,
    ⟨(activating.wr R.UPD_CFG_IDLE_WAIT_H 0 1), 3600000000005, 0, by decide⟩,
    ⟨trial, 10000000005, by decide⟩,
    ⟨({ trial.wr R.UPD_CFG_AUTO_CONFIRM 0 1 with upd := { trial.upd with healthNs := 60 * 10 ^ 9 * 10000 } }), 5, by decide⟩,
    ⟨run, 5, by decide⟩,
    ⟨trial, 900000000005, by decide⟩,
    ⟨run, 5, by decide⟩,
    ⟨run, 5, manBytes, (true, false), by decide⟩,
    ⟨trial, 5, [], (true, true), by decide⟩,
    ⟨(receiving.wr R.UPD_STAT_HOLDER 0 (3 * 2 ^ 24)), 5, man1, 3, (List.replicate 4096 0), by decide⟩,
    ⟨run, 5, 3, [], by decide⟩,
    ⟨((run.wr R.UPD_STAT_STATE 0 3).wr R.UPD_CFG_LEGAL_SEAL_REQ 0 0), 5, by decide⟩,
    ⟨run, 5, 1, by decide⟩,
    ⟨run, 5, by decide⟩,
    ⟨(receiving.wr R.UPD_STAT_HOLDER 0 (3 * 2 ^ 24)), 5, none, by decide⟩,
    ⟨trial, 5, by decide⟩,
    ⟨run, 5, by decide⟩,
    ⟨trial, 5, by decide⟩,
    ⟨run, 5, by decide⟩⟩

theorem test_wit_KeyStoreEvents :
    (∃ (s : State) (t : Nat) (k : Nat), let a := s.advance t; a.up = true ∧ a.keyMode = 1 ∧ a.key.root = none ∧
      a.rd R.KEY_PUF_STAT_ATTEMPTS < 3 ∧ a.key.tryAt + 10 ^ 7 ≤ a.mtb ∧ k < 2 ^ R.KEY_PUF_STAT_BER.w) ∧
    (∃ (s : State) (t : Nat), let a := s.advance t; a.up = true ∧ a.keyMode = 1 ∧ a.key.root = none ∧
      a.rd R.KEY_PUF_STAT_ATTEMPTS = 2 ∧ a.key.tryAt + 10 ^ 7 ≤ a.mtb) ∧
    (∃ (s : State) (t : Nat) (h : Nat), let a := s.advance t; a.up = true ∧ a.drbgOk = true ∧
      a.rd R.KEY_CFG_RIDDLE_MS ≠ 0 ∧ a.key.riddleAt + 10 ^ 6 * a.rd R.KEY_CFG_RIDDLE_MS ≤ a.mtb ∧ a.mtb ≤
      a.key.riddleAt + 2 * 10 ^ 6 * a.rd R.KEY_CFG_RIDDLE_MS ∧ a.key.cache = [h]) ∧
    (∃ (s : State) (t : Nat), let a := s.advance t; a.up = true ∧ a.drbgOk = false ∧ a.rd R.KEY_CFG_RIDDLE_MS ≠ 0 ∧
      a.key.riddleAt + 10 ^ 6 * a.rd R.KEY_CFG_RIDDLE_MS ≤ a.mtb) ∧
    (∃ (s : State) (t : Nat), let a := s.advance t; a.up = true ∧ a.drbgOk = true ∧ a.key.reseedAt + 10 ^ 10 ≤
      a.mtb) ∧
    (∃ (s : State) (t : Nat), let a := s.advance t; a.up = true ∧ (a.drbgOk = false ∨ a.mtb < a.key.reseedAt +
      10 ^ 10)) ∧
    (∃ (s : State) (t : Nat) (k : Nat), let a := s.advance t; a.up = true) ∧
    (∃ (s : State) (t : Nat), let a := s.advance t; a.up = true ∧ a.drbgOk = false ∧ a.key.testAt + 10 ^ 9 ≤ a.mtb ∧
      a.key.passes < 2) ∧
    (∃ (s : State) (t : Nat), let a := s.advance t; a.up = true ∧ a.drbgOk = false ∧ a.key.testAt + 10 ^ 9 ≤ a.mtb ∧
      2 ≤ a.key.passes) ∧
    (∃ (s : State) (t : Nat), let a := s.advance t; a.up = true ∧ a.drbgOk = false ∧ a.key.testAt + 10 ^ 9 ≤ a.mtb) ∧
    (∃ (s : State) (t : Nat) (k : Option Nat), let a := s.advance t; a.up = true ∧ a.keyMode = 3 ∧ a.key.testCtx =
      none) ∧
    (∃ (s : State) (t : Nat) (k : Nat), let a := s.advance t; a.up = true ∧ a.keyMode = 3 ∧ a.key.testCtx = none) ∧
    (∃ (s : State) (t : Nat) (l : List Nat) (k : Option Nat), let a := s.advance t; a.up = true ∧ a.keyMode ≠ 3) ∧
    (∃ (s : State) (t : Nat) (m : Manifest), let a := s.advance t; a.up = true ∧ a.key.manifest = some m ∧
      a.loadBad m = none ∧ m.gen < 2 ^ 32 ∧ a.credCopy < 2) ∧
    (∃ (s : State) (t : Nat) (m : Manifest) (k : Nat), let a := s.advance t; a.up = true ∧ a.key.manifest = some m ∧
      a.loadBad m = some k) ∧
    (∃ (s : State) (t : Nat) (k : Nat), let a := s.advance t; a.up = true ∧ k < 7 ∧ a.worn k = false ∧
      a.rd R.KEY_WEAR_SPARES_USED k < a.rd R.KEY_WEAR_SPARES k) ∧
    (∃ (s : State) (t : Nat) (k : Nat), let a := s.advance t; a.up = true ∧ k < 7 ∧ a.worn k = false ∧
      a.rd R.KEY_WEAR_SPARES k ≤ a.rd R.KEY_WEAR_SPARES_USED k) :=
  ⟨⟨(run.wr R.KEY_STATUS_MODE 0 1), 10000000, 300, by decide⟩,
    ⟨((run.wr R.KEY_STATUS_MODE 0 1).wr R.KEY_PUF_STAT_ATTEMPTS 0 2), 10000000, by decide⟩,
    ⟨({ (drbgRun (run.wr R.KEY_CFG_RIDDLE_MS 0 32)) with key := { run.key with cache := [4] } }), 40000000, 4, by decide⟩,
    ⟨(run.wr R.KEY_CFG_RIDDLE_MS 0 32), 40000000, by decide⟩,
    ⟨(drbgRun run), 10000000005, by decide⟩,
    ⟨run, 5, by decide⟩,
    ⟨(drbgRun run), 5, 1, by decide⟩,
    ⟨run, 1000000000, by decide⟩,
    ⟨({ run with key := { run.key with passes := 2 } }), 1000000000, by decide⟩,
    ⟨run, 1000000000, by decide⟩,
    ⟨(run.wr R.KEY_STATUS_MODE 0 3), 5, none, by decide⟩,
    ⟨(run.wr R.KEY_STATUS_MODE 0 3), 5, 100, by decide⟩,
    ⟨run, 5, [], none, by decide⟩,
    ⟨credVer, 5, ⟨cx, 3, 0, Config.hash [], 0, true⟩, by decide, rfl, by
      have e (h : Nat) : (if (h != h) = true then some St.CRED_HASH else none) = none := by simp
      exact e (Config.hash []), by decide, by decide⟩,
    ⟨({ run with key := { run.key with manifest := some ⟨cx, 3, 0, 0, 0, false⟩ } }), 5, ⟨cx, 3, 0, 0, 0, false⟩, St.BAD_SIGNATURE, by decide⟩,
    ⟨(run.wr R.KEY_WEAR_SPARES 3 8), 5, 3, by decide⟩,
    ⟨((run.wr R.KEY_WEAR_SPARES 3 8).wr R.KEY_WEAR_SPARES_USED 3 8), 5, 3, by decide⟩⟩

theorem test_wit_KeyCommands :
    (∃ (s : State) (x : Ctx), let b := s.advance x.t; let a := b.start x; b.takes x Op.KEY_QUERY 0 = true) ∧
    (∃ (s : State) (x : Ctx) (p : List (List Byte)) (n : KNode), let b := s.advance x.t; let a := b.start x;
      b.takes x Op.KEY_NODE_QUERY 0 = true ∧ a.keyMode = 2 ∧ State.pathBad p = none ∧ a.node? p = some n) ∧
    (∃ (s : State) (x : Ctx) (p : List (List Byte)), let b := s.advance x.t; let a := b.start x;
      b.takes x Op.KEY_NODE_QUERY 0 = true ∧ a.keyMode = 2 ∧ State.pathBad p = none ∧ a.node? p = none) ∧
    (∃ (s : State) (x : Ctx) (p : List (List Byte)), let b := s.advance x.t; let a := b.start x;
      b.takes x Op.KEY_NODE_QUERY 0 = true ∧ a.keyMode = 2 ∧ 8 < p.length) ∧
    (∃ (s : State) (x : Ctx) (p : List (List Byte)), let b := s.advance x.t; let a := b.start x;
      b.takes x Op.KEY_NODE_QUERY 0 = true ∧ a.keyMode = 4) ∧
    (∃ (s : State) (x : Ctx) (p : List (List Byte)) (n : KNode) (g : OwnerSig), let b := s.advance x.t;
      let a := b.start x; b.takes x Op.KEY_INVALIDATE 0 = true ∧ a.keyMode = 2 ∧ State.pathBad p = none ∧
      a.node? p = some n ∧ a.ownerBad g = none ∧ State.nodeFixed n = false ∧ p ≠ pathSign) ∧
    (∃ (s : State) (x : Ctx) (p : List (List Byte)) (n : KNode) (g : OwnerSig), let b := s.advance x.t;
      let a := b.start x; b.takes x Op.KEY_INVALIDATE 0 = true ∧ a.keyMode = 2 ∧ State.pathBad p = none ∧
      a.node? p = some n ∧ a.ownerBad g = none ∧ State.nodeFixed n = true) ∧
    (∃ (s : State) (x : Ctx) (p : List (List Byte)) (n : KNode) (g : OwnerSig) (k : Nat), let b := s.advance x.t;
      let a := b.start x; b.takes x Op.KEY_INVALIDATE 0 = true ∧ a.keyMode = 2 ∧ State.pathBad p = none ∧
      a.node? p = some n ∧ a.ownerBad g = some k) ∧
    (∃ (s : State) (x : Ctx) (p : List (List Byte)) (n : KNode) (g : OwnerSig), let b := s.advance x.t;
      let a := b.start x; b.takes x Op.KEY_REDERIVE 0 = true ∧ a.keyMode = 2 ∧ State.pathBad p = none ∧ a.node? p =
      some n ∧ a.ownerBad g = none ∧ p.length = 1 ∧ n.stale = true) ∧
    (∃ (s : State) (x : Ctx) (l m : List Byte) (y i k : Nat), let b := s.advance x.t; let a := b.start x;
      b.takes x Op.KEY_INSTALL 0 = true ∧ a.keyMode = 2 ∧ a.drbgOk = true ∧ State.installBlob l = some (y, m, i) ∧
      1 ≤ y ∧ y ≤ 8 ∧ a.worn 2 = false ∧ a.node? [label "STORE", m] = none ∧ a.key.nodes.length < 4096 ∧
      a.ownerBad ⟨true, i⟩ = none) ∧
    (∃ (s : State) (x : Ctx) (l m : List Byte) (y i : Nat), let b := s.advance x.t; let a := b.start x;
      b.takes x Op.KEY_INSTALL 0 = true ∧ a.keyMode = 2 ∧ a.drbgOk = true ∧ State.installBlob l = some (y, m, i) ∧
      a.ownerBad ⟨true, i⟩ = none) ∧
    (∃ (s : State) (x : Ctx) (l : List Byte) (k : Option Nat) (o : Bool), let b := s.advance x.t;
      let a := b.start x; b.takes x Op.KEY_INSTALL 0 = true ∧ a.keyMode = 2 ∧ State.installBlob l = none) ∧
    (∃ (s : State) (x : Ctx) (p : List Byte) (k : Nat), let b := s.advance x.t; let a := b.start x;
      b.takes x Op.KEY_OWNER_SET 0 = true ∧ p.length = 64 ∧ a.flag R.KEY_STATUS_OWNER_SET = false ∧
      a.flag R.LEDGER_STAT_SEAL = true ∧ a.rd R.KEY_OWNER_CTR_CTR < k ∧ k < 2 ^ 32) ∧
    (∃ (s : State) (x : Ctx) (p : List Byte) (k : Nat), let b := s.advance x.t; let a := b.start x;
      b.takes x Op.KEY_OWNER_SET 0 = true ∧ p.length = 64 ∧ (a.flag R.KEY_STATUS_OWNER_SET = true ∨
      a.flag R.LEDGER_STAT_SEAL = false)) ∧
    (∃ (s : State) (x : Ctx) (p : List Byte) (k : Nat), let b := s.advance x.t; let a := b.start x;
      b.takes x Op.KEY_OWNER_SET 0 = true ∧ p.length = 64 ∧ a.flag R.KEY_STATUS_OWNER_SET = true ∧ k ≤
      a.rd R.KEY_OWNER_CTR_CTR) ∧
    (∃ (s : State) (x : Ctx) (k y : Nat) (i : List Byte) (g : OwnerSig), let b := s.advance x.t; let a := b.start x;
      b.takes x Op.KEY_ANCHOR_INSTALL 0 = true ∧ k < 32 ∧ 2 ≤ y ∧ y ≤ 5 ∧ i ≠ [] ∧ i.length ≤ 2048 ∧ a.worn 2 =
      false ∧ a.ownerBad g = none) ∧
    (∃ (s : State) (x : Ctx) (k y : Nat) (i : List Byte) (g : OwnerSig), let b := s.advance x.t; let a := b.start x;
      b.takes x Op.KEY_ANCHOR_INSTALL 0 = true ∧ k < 32 ∧ 2 ≤ y ∧ y ≤ 5 ∧ i ≠ [] ∧ i.length ≤ 2048 ∧ a.worn 2 =
      false ∧ a.ownerBad g = none) ∧
    (∃ (s : State) (x : Ctx) (p : List (List Byte)) (n : KNode) (j : List Byte), let b := s.advance x.t;
      let a := b.start x; b.takes x Op.KEY_CSR 0 = true ∧ a.keyMode = 2 ∧ State.pathBad p = none ∧ a.node? p =
      some n ∧ n.stale = false ∧ asymmetric n.typ = true) ∧
    (∃ (s : State) (x : Ctx) (p : List (List Byte)) (n : KNode) (j : List Byte), let b := s.advance x.t;
      let a := b.start x; b.takes x Op.KEY_CSR 0 = true ∧ a.keyMode = 2 ∧ State.pathBad p = none ∧ a.node? p =
      some n ∧ n.stale = true) ∧
    (∃ (s : State) (x : Ctx) (p : List (List Byte)) (n : KNode) (l : List Byte) (w : List (Nat × Nat)),
      let b := s.advance x.t; let a := b.start x; b.takes x Op.KEY_CERT_INSTALL 0 = true ∧ a.keyMode = 2 ∧
      State.pathBad p = none ∧ a.node? p = some n ∧ n.stale = false ∧ a.worn 2 = false ∧ a.key.anchors.get none 0 =
      some ⟨2, 0⟩ ∧ asymmetric n.typ = true ∧ a.periodsOk w = true) ∧
    (∃ (s : State) (x : Ctx) (p : List (List Byte)) (n : KNode) (l : List Byte) (k : Nat) (w : List (Nat × Nat)),
      let b := s.advance x.t; let a := b.start x; b.takes x Op.KEY_CERT_INSTALL 0 = true ∧ a.keyMode = 2 ∧
      State.pathBad p = none ∧ a.node? p = some n ∧ n.stale = false ∧ a.worn 2 = false) ∧
    (∃ (s : State) (x : Ctx) (k : Nat) (n : KNode), let b := s.advance x.t; let a := b.start x;
      b.takes x Op.KEY_ATTEST 0 = true ∧ a.keyMode = 2 ∧ a.node? pathDevice = some n ∧ n.stale = false) ∧
    (∃ (s : State) (x : Ctx) (k : Nat) (p : List (List Byte)), let b := s.advance x.t; let a := b.start x;
      b.takes x Op.KEY_ATTEST 0 = true ∧ a.keyMode = 2 ∧ a.node? p = none) ∧
    (∃ (s : State) (x : Ctx), let b := s.advance x.t; let a := b.start x; b.takes x Op.KEY_ATTEST_CERT 0 = true) ∧
    (∃ (s : State) (x : Ctx), let b := s.advance x.t; let a := b.start x; b.takes x Op.KEY_SELFTEST 0 = true ∧
      a.keyMode = 2 ∧
      (List.range 8).all (fun n => [SessState.idle, .disabled, .outOfService].contains (a.outlet n).st) = true) ∧
    (∃ (s : State) (x : Ctx), let b := s.advance x.t; let a := b.start x; b.takes x Op.KEY_SELFTEST 0 = true ∧
      a.keyMode = 2 ∧ (a.outlet 3).st = .connected) :=
  ⟨⟨(fetched Op.KEY_QUERY cx run), cx, by decide⟩,
    ⟨(fetched Op.KEY_NODE_QUERY cx keyed), cx, pathSign, node1, by decide⟩,
    ⟨(fetched Op.KEY_NODE_QUERY cx keyed), cx, [label "X"], by decide⟩,
    ⟨(fetched Op.KEY_NODE_QUERY cx keyed), cx, (List.replicate 9 (label "X")), by decide⟩,
    ⟨(fetched Op.KEY_NODE_QUERY cx (run.wr R.KEY_STATUS_MODE 0 4)), cx, [], by decide⟩,
    ⟨(fetched Op.KEY_INVALIDATE cx ownedKeys), cx, [label "APP"], node2, ⟨true, 5⟩, by decide⟩,
    ⟨(fetched Op.KEY_INVALIDATE cx ownedKeys), cx, [label "ATTEST"], node3, ⟨true, 5⟩, by decide⟩,
    ⟨(fetched Op.KEY_INVALIDATE cx ownedKeys), cx, [label "APP"], node2, ⟨false, 5⟩, St.BAD_SIGNATURE, by decide⟩,
    ⟨(fetched Op.KEY_REDERIVE cx ownedKeys), cx, [label "OLD"], node4, ⟨true, 5⟩, by decide⟩,
    ⟨(fetched Op.KEY_INSTALL cx (drbgRun ownedKeys)), cx, (blobOf 1 (label "K") 5), (label "K"), 1, 5, 77, by decide⟩,
    ⟨(fetched Op.KEY_INSTALL cx (drbgRun ownedKeys)), cx, (blobOf 1 (label "K") 5), (label "K"), 1, 5, by decide⟩,
    ⟨(fetched Op.KEY_INSTALL cx keyed), cx, [], none, true, by decide⟩,
    ⟨(fetched Op.KEY_OWNER_SET cx (run.wr R.LEDGER_STAT_SEAL 0 1)), cx, (List.replicate 64 1), 3, by decide⟩,
    ⟨(fetched Op.KEY_OWNER_SET cx run), cx, (List.replicate 64 1), 3, by decide⟩,
    ⟨(fetched Op.KEY_OWNER_SET cx owned), cx, (List.replicate 64 1), 0, by decide⟩,
    ⟨(fetched Op.KEY_ANCHOR_INSTALL cx owned), cx, 3, 2, [1], ⟨true, 5⟩, by decide⟩,
    ⟨(fetched Op.KEY_ANCHOR_INSTALL cx owned), cx, 3, 2, [1], ⟨true, 5⟩, by decide⟩,
    ⟨(fetched Op.KEY_CSR cx (drbgRun ownedKeys)), cx, [label "EC"], node5, [1, 2], by decide⟩,
    ⟨(fetched Op.KEY_CSR cx ownedKeys), cx, [label "OLD"], node4, [1, 2], by decide⟩,
    ⟨(fetched Op.KEY_CERT_INSTALL cx ownedKeys), cx, [label "EC"], node5, [1, 2], [(5, 9)], by decide⟩,
    ⟨(fetched Op.KEY_CERT_INSTALL cx ownedKeys), cx, [label "EC"], node5, [1, 2], 0, [(5, 9)], by decide⟩,
    ⟨(fetched Op.KEY_ATTEST cx ownedKeys), cx, 9, node6, by decide⟩,
    ⟨(fetched Op.KEY_ATTEST cx ownedKeys), cx, 9, [label "X"], by decide⟩,
    ⟨(fetched Op.KEY_ATTEST_CERT cx run), cx, by decide⟩,
    ⟨(fetched Op.KEY_SELFTEST cx ownedKeys), cx, by decide⟩,
    ⟨(fetched Op.KEY_SELFTEST cx ({ ownedKeys with out := (outAt 3 fun o => { o with st := .connected }).out })), cx, by decide⟩⟩

theorem test_wit_CredentialCommands :
    (∃ (s : State) (x : Ctx) (g k : Nat), let b := s.advance x.t; let a := b.start x;
      b.takes x Op.CRED_LOAD_BEGIN 0 = true ∧ a.keyMode = 2 ∧ a.key.manifest = none ∧ k ≤ 262144 ∧ g < 2 ^ 32 ∧
      a.rd R.KEY_CRED_STAT_ACTIVE_GEN < g ∧ a.worn (State.credArea (1 - a.credCopy)) = false ∧ a.key.load ≠
      some (g, k) ∧ a.credCopy < 2) ∧
    (∃ (s : State) (x : Ctx) (g k : Nat), let b := s.advance x.t; let a := b.start x;
      b.takes x Op.CRED_LOAD_BEGIN 0 = true ∧ a.keyMode = 2 ∧ a.key.manifest = none ∧ k ≤ 262144 ∧ g < 2 ^ 32 ∧ g ≤
      a.rd R.KEY_CRED_STAT_ACTIVE_GEN) ∧
    (∃ (s : State) (x : Ctx) (f : Nat) (r : CredRec), let b := s.advance x.t; let a := b.start x;
      b.takes x Op.CRED_LOAD_DATA 0 = true ∧ a.keyMode = 2 ∧ a.key.manifest = none ∧ f + 1 ≤ 262144 ∧ a.key.load ≠
      none ∧ f = a.rd R.KEY_CRED_STAT_LOADED ∧ a.key.copy (1 - a.credCopy) = [] ∧
      a.worn (State.credArea (1 - a.credCopy)) = false) ∧
    (∃ (s : State) (x : Ctx) (f : Nat) (r : CredRec), let b := s.advance x.t; let a := b.start x;
      b.takes x Op.CRED_LOAD_DATA 0 = true ∧ a.keyMode = 2 ∧ a.key.manifest = none ∧ f + 1 ≤ 262144 ∧ (a.key.load =
      none ∨ f ≠ a.rd R.KEY_CRED_STAT_LOADED)) ∧
    (∃ (s : State) (x : Ctx) (g k d z : Nat) (o : Bool), let b := s.advance x.t; let a := b.start x;
      b.takes x Op.CRED_LOAD_COMMIT 0 = true ∧ a.keyMode = 2 ∧ a.key.manifest = none ∧ a.key.load ≠ none) ∧
    (∃ (s : State) (x : Ctx), let b := s.advance x.t; let a := b.start x; b.takes x Op.CRED_LOAD_ABORT 0 = true ∧
      a.keyMode = 2 ∧ a.key.manifest = none) ∧
    (∃ (s : State) (x : Ctx) (r : CredRec) (g : OwnerSig), let b := s.advance x.t; let a := b.start x;
      b.takes x Op.CRED_UPDATE 0 = true ∧ a.keyMode = 2 ∧ a.worn 5 = false ∧ a.key.deltas.length < 8192 ∧
      a.flag R.KEY_CFG_CRED_SIGNED = false) ∧
    (∃ (s : State) (x : Ctx) (r : CredRec) (g : OwnerSig) (k : Nat), let b := s.advance x.t; let a := b.start x;
      b.takes x Op.CRED_UPDATE 0 = true ∧ a.keyMode = 2 ∧ a.flag R.KEY_CFG_CRED_SIGNED = true ∧ a.ownerBad g =
      some k) ∧
    (∃ (s : State) (x : Ctx) (k h n : Nat), let b := s.advance x.t; let a := b.start x; b.takes x Op.CRED_LOOKUP 0 =
      true ∧ a.keyMode = 2 ∧ 1 ≤ k ∧ k ≤ 5 ∧ n < 8 ∧ a.credRecord k h = none) ∧
    (∃ (s : State) (x : Ctx) (k h n i : Nat) (r : CredRec), let b := s.advance x.t; let a := b.start x;
      b.takes x Op.CRED_LOOKUP 0 = true ∧ a.keyMode = 2 ∧ 1 ≤ k ∧ k ≤ 5 ∧ n < 8 ∧ a.credRecord k h = some (r, i) ∧
      a.credBlocked r n = false) ∧
    (∃ (s : State) (x : Ctx) (k h n i : Nat) (r : CredRec), let b := s.advance x.t; let a := b.start x;
      b.takes x Op.CRED_LOOKUP 0 = true ∧ a.keyMode = 2 ∧ 1 ≤ k ∧ k ≤ 5 ∧ n < 8 ∧ a.credRecord k h = some (r, i) ∧
      a.credBlocked r n = true) :=
  ⟨⟨(fetched Op.CRED_LOAD_BEGIN cx keyed), cx, 1, 5, by decide⟩,
    ⟨(fetched Op.CRED_LOAD_BEGIN cx keyed), cx, 0, 5, by decide⟩,
    ⟨(fetched Op.CRED_LOAD_DATA cx loading), cx, 0, cred1, by decide⟩,
    ⟨(fetched Op.CRED_LOAD_DATA cx keyed), cx, 0, cred1, by decide⟩,
    ⟨(fetched Op.CRED_LOAD_COMMIT cx loading), cx, 3, 0, 0, 0, true, by decide⟩,
    ⟨(fetched Op.CRED_LOAD_ABORT cx loading), cx, by decide⟩,
    ⟨(fetched Op.CRED_UPDATE cx (keyed.wr R.KEY_CFG_CRED_SIGNED 0 0)), cx, cred1, ⟨true, 5⟩, by decide⟩,
    ⟨(fetched Op.CRED_UPDATE cx (ownedKeys.wr R.KEY_CFG_CRED_SIGNED 0 1)), cx, cred1, ⟨false, 5⟩, St.BAD_SIGNATURE, by decide⟩,
    ⟨(fetched Op.CRED_LOOKUP cx keyed), cx, 1, 7, 3, by decide⟩,
    ⟨(fetched Op.CRED_LOOKUP cx withCred), cx, 1, 7, 3, 0x40000, cred1, by decide⟩,
    ⟨(fetched Op.CRED_LOOKUP cx withCred), cx, 1, 8, 3, 0x40001, { cred1 with hash := 8, status := 1 }, by decide⟩⟩

theorem test_wit_ReaderAndCable :
    (∃ (s : State) (t : Nat) (k : Bool) (r : Nat), let a := s.advance t; a.up = true ∧
      a.flag R.TAG_RDR_CFG_RDR0_EN = true ∧ a.flag R.GLOBAL_ISLAND_STAT_READY 5 = true ∧ a.tag.pollAt +
      10 ^ 6 * a.rd R.TAG_RDR_CFG_POLL_MS ≤ a.mtb) ∧
    (∃ (s : State) (t : Nat) (v : List Byte) (k : Bool) (r : Nat), let a := s.advance t; a.up = true ∧
      a.flag R.TAG_RDR_CFG_RDR0_EN = true ∧ a.flag R.GLOBAL_ISLAND_STAT_READY 5 = true ∧ a.tag.pollAt +
      10 ^ 6 * a.rd R.TAG_RDR_CFG_POLL_MS ≤ a.mtb ∧ bit (a.rd R.TAG_RDR_CFG_PROTO_EN) 0 = true ∧ v.length = 7 ∧
      (walkAll 32 [cascadeBits v]).1.length = 1 ∧ a.tag.handed = [] ∧ a.keyMode ≠ 2 ∧
      (List.range 8).all (fun (n : Nat) => !([SessState.ready, SessState.energy, SessState.paused].contains (a.outlet n).st)) =
      true) ∧
    (∃ (s : State) (t : Nat) (v w : List Byte) (k : Bool) (r : Nat), let a := s.advance t; a.up = true ∧
      a.flag R.TAG_RDR_CFG_RDR0_EN = true ∧ a.flag R.GLOBAL_ISLAND_STAT_READY 5 = true ∧ a.tag.pollAt +
      10 ^ 6 * a.rd R.TAG_RDR_CFG_POLL_MS ≤ a.mtb ∧ bit (a.rd R.TAG_RDR_CFG_PROTO_EN) 0 = true ∧
      (walkAll 32 ([v, w].map cascadeBits)).1.length = 2) ∧
    (∃ (s : State) (t : Nat) (p q v : List (List Byte)) (k : Bool) (r : Nat), let a := s.advance t; a.up = true ∧
      a.flag R.TAG_RDR_CFG_RDR0_EN = false) ∧
    (∃ (s : State) (t : Nat) (j : CableJob), let a := s.advance t; a.up = true ∧ j.write = false ∧ a.tag.jobs =
      [j] ∧ a.rdr1On = true ∧ j.ctxs = [] ∧ (a.outlet j.n).st.live = false) ∧
    (∃ (s : State) (t : Nat) (j : CableJob) (r : CableRead) (l : LifeCopy) (i : Nat), let a := s.advance t; a.up =
      true ∧ j.write = false ∧ a.tag.jobs = [j] ∧ a.rdr1On = true ∧ j.ctxs = [] ∧ (a.outlet j.n).st.live = false ∧
      a.cableCause j.n (some r) = 0 ∧ lifeCurrent r = some (l, i) ∧ l.flags = 0 ∧ l.mating < tagField r.ident 20 4 ∧
      tagField r.ident 24 4 = 0 ∧ (a.cable j.n).rebind = true ∧ j.atConnect = false ∧ r.uid ≠
      a.rd R.TAG_CABLE_UID j.n ∧ r.uid < 2 ^ 64) ∧
    (∃ (s : State) (t : Nat) (j : CableJob), let a := s.advance t; a.up = true ∧ j.write = true ∧ a.tag.jobs = [j] ∧
      a.lifeWritable = true) ∧
    (∃ (s : State) (t : Nat) (j : CableJob), let a := s.advance t; a.up = true ∧ j.write = true ∧ a.tag.jobs = [j]) ∧
    (∃ (s : State) (x : Ctx), let b := s.advance x.t; let a := b.start x; b.takes x Op.TAG_QUERY 0 = true) ∧
    (∃ (s : State) (x : Ctx) (n : Nat), let b := s.advance x.t; let a := b.start x; b.takes x Op.TAG_CABLE_READ n =
      true ∧ n < 8 ∧ a.tethered n = true ∧ a.tag.jobs = []) ∧
    (∃ (s : State) (x : Ctx) (n : Nat), let b := s.advance x.t; let a := b.start x; b.takes x Op.TAG_CABLE_READ n =
      true ∧ n < 8 ∧ a.tethered n = false) ∧
    (∃ (s : State) (x : Ctx) (n : Nat), let b := s.advance x.t; let a := b.start x; b.takes x Op.TAG_CABLE_INIT n =
      true ∧ n < 8 ∧ a.tethered n = true ∧ (a.outlet n).st.live = false ∧ a.lifeWritable = true) ∧
    (∃ (s : State) (x : Ctx) (n : Nat) (k : Bool), let b := s.advance x.t; let a := b.start x;
      b.takes x Op.TAG_CABLE_INIT n = true ∧ n < 8 ∧ a.tethered n = true ∧ (a.outlet n).st.live = true) ∧
    (∃ (s : State) (x : Ctx) (n : Nat), let b := s.advance x.t; let a := b.start x; b.takes x Op.TAG_CABLE_INIT n =
      true ∧ n < 8 ∧ a.tethered n = true ∧ (a.outlet n).st.live = false) ∧
    (∃ (s : State) (x : Ctx) (n : Nat), let b := s.advance x.t; let a := b.start x;
      b.takes x Op.TAG_CABLE_RETIRE n = true ∧ n < 8 ∧ a.tethered n = true ∧ a.lifeWritable = true) ∧
    (∃ (s : State) (x : Ctx) (n : Nat), let b := s.advance x.t; let a := b.start x;
      b.takes x Op.TAG_CABLE_RETIRE n = true ∧ n < 8 ∧ a.tethered n = true) :=
  ⟨⟨reader, 1000000000, true, 2, by decide⟩,
    ⟨reader, 1000000000, [1, 2, 3, 4, 5, 6, 7], true, 0, by decide⟩,
    ⟨reader, 1000000000, [1, 2, 3, 4], [1, 2, 3, 5], true, 0, by decide⟩,
    ⟨(run.wr R.TAG_RDR_CFG_RDR0_EN 0 0), 5, [], [], [], true, 0, by decide⟩,
    ⟨(cabled ⟨3, false, false, []⟩), 5, ⟨3, false, false, []⟩, by decide⟩,
    ⟨(cabled ⟨3, false, false, []⟩), 5, ⟨3, false, false, []⟩, tag1, ⟨6, 2, 1, 1000, 0, 0⟩, 0, by decide, by decide, by decide, by decide, by decide, by decide, by decide, by decide, by decide, by decide, by decide, by decide, by decide, by decide, by decide⟩,
    ⟨(cabled ⟨3, true, false, []⟩), 5, ⟨3, true, false, []⟩, by decide⟩,
    ⟨(cabled ⟨3, true, false, []⟩), 5, ⟨3, true, false, []⟩, by decide⟩,
    ⟨(fetched Op.TAG_QUERY cx run), cx, by decide⟩,
    ⟨(fetched Op.TAG_CABLE_READ cx (run.wr R.OUT_CFG_TETHERED 3 1)), cx, 3, by decide⟩,
    ⟨(fetched Op.TAG_CABLE_READ cx run), cx, 3, by decide⟩,
    ⟨(fetched Op.TAG_CABLE_INIT cx (cabled ⟨3, true, false, []⟩)), cx, 3, by decide⟩,
    ⟨(fetched Op.TAG_CABLE_INIT cx ({ run.wr R.OUT_CFG_TETHERED 3 1 with out := (outAt 3 fun o => { o with st := .connected }).out })), cx, 3, true, by decide⟩,
    ⟨(fetched Op.TAG_CABLE_INIT cx (cabled ⟨3, true, false, []⟩)), cx, 3, by decide⟩,
    ⟨(fetched Op.TAG_CABLE_RETIRE cx ((run.wr R.TAG_RDR_CFG_RDR1_EN 0 1).wr R.OUT_CFG_TETHERED 3 1)), cx, 3, by decide⟩,
    ⟨(fetched Op.TAG_CABLE_RETIRE cx ((run.wr R.TAG_RDR_CFG_RDR1_EN 0 1).wr R.OUT_CFG_TETHERED 3 1)), cx, 3, by decide⟩⟩

theorem test_wit_OwnTag :
    (∃ (s : State) (t : Nat), let a := s.advance t; s.core = true ∧ a.flag R.TAG_OWN_CFG_EN = true) ∧
    (∃ (s : State) (t : Nat), let a := s.advance t; s.core = true ∧ a.flag R.TAG_OWN_CFG_EN = true ∧
      a.flag R.TAG_OWN_STAT_FIELD = true ∧ a.up = true) ∧
    (∃ (s : State) (t : Nat), let a := s.advance t; s.core = true ∧ a.flag R.TAG_OWN_CFG_EN = true ∧
      a.flag R.TAG_OWN_STAT_FIELD = false) ∧
    (∃ (s : State) (t : Nat) (i : Nat), let a := s.advance t; s.core = true ∧ a.flag R.TAG_OWN_CFG_EN = true ∧
      a.flag R.TAG_OWN_STAT_FIELD = true ∧ i < 2048 ∧ a.fieldReads i = true) ∧
    (∃ (s : State) (t : Nat) (i : Nat), let a := s.advance t; s.core = true ∧ a.flag R.TAG_OWN_CFG_EN = true ∧
      a.flag R.TAG_OWN_STAT_FIELD = true ∧ i < 2048 ∧ a.fieldReads i = false) ∧
    (∃ (s : State) (t : Nat) (i v : Nat), let a := s.advance t; s.core = true ∧ a.flag R.TAG_OWN_CFG_EN = true ∧
      a.flag R.TAG_OWN_STAT_FIELD = true ∧ i < 2048 ∧ a.fieldWrites i = true ∧ a.ownBusy = false ∧ v < 2 ^ 32) ∧
    (∃ (s : State) (t : Nat) (i v : Nat) (k : Nat), let a := s.advance t; s.core = true ∧ a.flag R.TAG_OWN_CFG_EN =
      true ∧ a.flag R.TAG_OWN_STAT_FIELD = true ∧ i < 2048 ∧ a.fieldWrites i = false) ∧
    (∃ (s : State) (t : Nat) (i v : Nat) (k : Nat), let a := s.advance t; s.core = true ∧ a.flag R.TAG_OWN_CFG_EN =
      true ∧ a.flag R.TAG_OWN_STAT_FIELD = true ∧ i < 2048 ∧ a.fieldWrites i = true ∧ a.ownBusy = true) ∧
    (∃ (s : State) (t : Nat) (i v : Nat), let a := s.advance t; s.core = true ∧ a.flag R.TAG_OWN_CFG_EN = true ∧
      a.flag R.TAG_OWN_STAT_FIELD = true ∧ i < 2048 ∧ a.fieldWrites i = true ∧ a.ownBusy = false) ∧
    (∃ (s : State) (t : Nat) (p : Nat), let a := s.advance t; s.core = true ∧ a.flag R.TAG_OWN_CFG_EN = true ∧
      a.flag R.TAG_OWN_STAT_FIELD = true ∧ a.tag.wrong < 5 ∧ p % 2 ^ 32 = a.rd R.TAG_OWN_PWD_PWD) ∧
    (∃ (s : State) (t : Nat) (p : Nat), let a := s.advance t; s.core = true ∧ a.flag R.TAG_OWN_CFG_EN = true ∧
      a.flag R.TAG_OWN_STAT_FIELD = true ∧ a.tag.wrong < 5 ∧ p % 2 ^ 32 ≠ a.rd R.TAG_OWN_PWD_PWD) ∧
    (∃ (s : State) (t : Nat) (p : Nat), let a := s.advance t; s.core = true ∧ a.flag R.TAG_OWN_CFG_EN = true ∧
      a.flag R.TAG_OWN_STAT_FIELD = true ∧ 5 ≤ a.tag.wrong) ∧
    (∃ (s : State) (t : Nat), let a := s.advance t; s.core = true ∧ a.flag R.TAG_OWN_CFG_EN = true ∧
      a.flag R.TAG_OWN_STAT_FIELD = true) ∧
    (∃ (s : State) (t : Nat), let a := s.advance t; s.core = true ∧ a.flag R.TAG_OWN_CFG_EN = true) ∧
    (∃ (s : State) (t : Nat), let a := s.advance t; s.core = true ∧ a.flag R.TAG_OWN_CFG_EN = true ∧
      a.flag R.TAG_OWN_STAT_FIELD = true) ∧
    (∃ (s : State) (x : Ctx) (i k : Nat), let b := s.advance x.t; let a := b.start x; b.takes x Op.TAG_OWN_READ 0 =
      true ∧ 1 ≤ k ∧ k ≤ 256 ∧ i + k ≤ 2048) ∧
    (∃ (s : State) (x : Ctx) (i k : Nat), let b := s.advance x.t; let a := b.start x; b.takes x Op.TAG_OWN_READ 0 =
      true ∧ 1 ≤ k ∧ k ≤ 256 ∧ 2048 < i + k) ∧
    (∃ (s : State) (x : Ctx) (i v : Nat), let b := s.advance x.t; let a := b.start x; b.takes x Op.TAG_OWN_WRITE 0 =
      true ∧ i < 1536 ∧ v < 2 ^ 32) ∧
    (∃ (s : State) (x : Ctx) (i v : Nat), let b := s.advance x.t; let a := b.start x; b.takes x Op.TAG_OWN_WRITE 0 =
      true ∧ 1536 ≤ i ∧ i < 2048) :=
  ⟨⟨(run.wr R.TAG_OWN_CFG_EN 0 1), 5, by decide⟩,
    ⟨fielded, 5, by decide⟩,
    ⟨(run.wr R.TAG_OWN_CFG_EN 0 1), 5, by decide⟩,
    ⟨fielded, 5, 3, by decide⟩,
    ⟨(fielded.wr R.TAG_OWN_CFG_HOST_RP 0 0), 5, 1100, by decide⟩,
    ⟨(fielded.wr R.TAG_OWN_CFG_NDEF_WP 0 1), 5, 3, 77, by decide⟩,
    ⟨fielded, 5, 0, 77, 1, by decide⟩,
    ⟨({ fielded.wr R.TAG_OWN_CFG_NDEF_WP 0 1 with tag := { fielded.tag with busyUntil := 1000 } }), 5, 3, 77, 1, by decide⟩,
    ⟨(fielded.wr R.TAG_OWN_CFG_NDEF_WP 0 1), 5, 3, 77, by decide⟩,
    ⟨fielded, 5, 0, by decide⟩,
    ⟨fielded, 5, 9, by decide⟩,
    ⟨({ fielded with tag := { fielded.tag with wrong := 5 } }), 5, 0, by decide⟩,
    ⟨fielded, 5, by decide⟩,
    ⟨fielded, 5, by decide⟩,
    ⟨({ fielded with tag := { fielded.tag with pwdOpen := true } }), 5, by decide⟩,
    ⟨(fetched Op.TAG_OWN_READ cx run), cx, 3, 4, by decide⟩,
    ⟨(fetched Op.TAG_OWN_READ cx run), cx, 2047, 2, by decide⟩,
    ⟨(fetched Op.TAG_OWN_WRITE cx run), cx, 1535, 77, by decide⟩,
    ⟨(fetched Op.TAG_OWN_WRITE cx run), cx, 1536, 77, by decide⟩⟩

theorem test_wit_DisplayEvents :
    (∃ (s : State) (t : Nat), let a := s.advance t; a.up = true) ∧
    (∃ (s : State) (t : Nat), let a := s.advance t; a.up = true ∧ a.ledger.legalItem ≠ 0 ∧ a.ledger.legalUntil ≤
      a.mtb) ∧
    (∃ (s : State) (t : Nat), let a := s.advance t; a.up = true ∧ (a.ledger.legalItem = 0 ∨ a.mtb <
      a.ledger.legalUntil)) ∧
    (∃ (s : State) (t : Nat), let a := s.advance t; a.up = true) ∧
    (∃ (s : State) (t : Nat), let a := s.advance t; a.up = true ∧ a.disp.paint = none) ∧
    (∃ (s : State) (t : Nat) (p : SegPaint) (k : Nat), let a := s.advance t; a.up = true ∧ a.disp.segEnd ≤ a.mtb ∧
      a.disp.paint = some p ∧ p.codes = ⟨[(k, [2, 1])]⟩ ∧ p.step < 4 ∧ a.disp.com = false) ∧
    (∃ (s : State) (t : Nat) (p : SegPaint) (k : Nat), let a := s.advance t; a.up = true ∧ a.disp.segEnd ≤ a.mtb ∧
      a.disp.paint = some p ∧ p.codes = ⟨[(k, [2, 1])]⟩ ∧ a.disp.com = true) ∧
    (∃ (s : State) (t : Nat) (k : Nat), let a := s.advance t; a.up = true ∧ a.flag R.DISP_SEG_CFG_SENSE_EN = true ∧
      a.disp.paint = none ∧ a.disp.senseAt + a.rd R.DISP_SEG_CFG_SENSE_H * 3600 * 10 ^ 9 ≤ a.mtb ∧
      a.rd R.DISP_SEG_CAP_C_REF 0 = 0 ∧ k < 2 ^ 16) ∧
    (∃ (s : State) (t : Nat) (l : List Nat), let a := s.advance t; a.up = true ∧ (a.flag R.DISP_SEG_CFG_SENSE_EN =
      false ∨ a.disp.paint ≠ none)) ∧
    (∃ (s : State) (t : Nat), let a := s.advance t; a.up = true ∧ a.disp.tempAt1 ≠ 0 ∧ a.disp.tempAt1 +
      60 * 10 ^ 9 ≤ a.mtb) ∧
    (∃ (s : State) (t : Nat), let a := s.advance t; a.up = true ∧ a.disp.tempAt1 ≠ 0 ∧ a.mtb + 1 ≤ a.disp.tempAt1 +
      60 * 10 ^ 9) ∧
    (∃ (s : State) (t : Nat), let a := s.advance t; a.up = true ∧ a.flag R.DISP_STAT_SCANNING = false) ∧
    (∃ (s : State) (t : Nat) (r : Nat), let a := s.advance t; a.up = true ∧ a.flag R.DISP_STAT_SCANNING = true ∧
      a.flag R.GLOBAL_ISLAND_STAT_READY 10 = true ∧ a.disp.frameEnd ≤ a.mtb ∧
      a.regionsIn (fun k => k == .running || k == .recovery) = [r] ∧ a.regionsIn (· == .cut) = [] ∧
      a.regionsIn (· == .queued) = []) ∧
    (∃ (s : State) (t : Nat) (r : Nat), let a := s.advance t; a.up = true ∧ a.flag R.DISP_STAT_SCANNING = true ∧
      a.flag R.GLOBAL_ISLAND_STAT_READY 10 = true ∧ a.disp.frameEnd ≤ a.mtb ∧
      a.regionsIn (fun k => k == .running || k == .recovery) = [] ∧ a.regionsIn (· == .cut) = [] ∧
      a.regionsIn (· == .queued) = [r] ∧ a.mayStart r = true) ∧
    (∃ (s : State) (t : Nat) (r : Nat), let a := s.advance t; a.up = true ∧ (a.region r).st = .running ∧
      a.disp.frameEnd ≤ a.mtb ∧ (a.region r).total ≤ (a.region r).frame + 1 ∧ (a.region r).recov = false ∧
      (a.region r).ctx = none ∧ a.rd R.PWR_STAT_MODE = 0) ∧
    (∃ (s : State) (t : Nat) (r : Nat), let a := s.advance t; a.up = true ∧ (a.region r).st = .queued) ∧
    (∃ (s : State) (t : Nat), let a := s.advance t; a.up = true ∧ a.dispWaits = true ∧ a.disp.pwrEn = true) ∧
    (∃ (s : State) (t : Nat), let a := s.advance t; a.up = true ∧ a.disp.pwrEn = true ∧
      a.flag R.DISP_STAT_PWR_GOOD = false ∧ a.disp.pwrAt + 20 * 10 ^ 6 ≤ a.mtb ∧
      (List.range 16).all (fun r => (a.region r).st == .free) = true ∧ a.rd R.PWR_STAT_MODE = 0) ∧
    (∃ (s : State) (t : Nat), let a := s.advance t; a.up = true ∧ (a.disp.pwrEn = false ∨
      a.flag R.DISP_STAT_PWR_GOOD = true)) ∧
    (∃ (s : State) (t : Nat), let a := s.advance t; a.up = true ∧ a.flag R.DISP_STAT_SCANNING = true ∧
      (List.range 16).all (fun r => (a.region r).st == .free) = true) ∧
    (∃ (s : State) (t : Nat), let a := s.advance t; a.up = true ∧
      (List.range 16).all (fun r => (a.region r).st == .free) = true ∧ a.disp.idleAt + 100 * 10 ^ 6 ≤ a.mtb) ∧
    (∃ (s : State) (t : Nat), let a := s.advance t; a.up = true ∧ a.dispWaits = true) ∧
    (∃ (s : State) (t : Nat), let a := s.advance t; a.up = true ∧ a.disp.saveAt + 10 ^ 10 ≤ a.mtb) ∧
    (∃ (s : State) (t : Nat), let a := s.advance t; a.up = true ∧ a.mtb < a.disp.saveAt + 10 ^ 10) ∧
    (∃ (s : State) (t : Nat), let a := s.advance t; a.up = true ∧ a.mtb < a.disp.frameEnd) :=
  ⟨⟨run, 5, by decide⟩,
    ⟨(led fun l => { l with legalItem := 2 }), 5, by decide⟩,
    ⟨run, 5, by decide⟩,
    ⟨run, 5, by decide⟩,
    ⟨run, 5, by decide⟩,
    ⟨segging, 5, ⟨2, 8, ⟨[(7, [2, 1])]⟩, 0, .empty, 0⟩, 7, by decide⟩,
    ⟨({ segging with disp := { segging.disp with com := true } }), 5, ⟨2, 8, ⟨[(7, [2, 1])]⟩, 0, .empty, 0⟩, 7, by decide⟩,
    ⟨((run.wr R.DISP_SEG_CFG_SENSE_EN 0 1).wr R.DISP_SEG_CFG_SENSE_H 0 1), 3600000000005, 500, by decide⟩,
    ⟨(run.wr R.DISP_SEG_CFG_SENSE_EN 0 0), 5, [3], by decide⟩,
    ⟨({ run with disp := { run.disp with tempAt1 := 1 } }), 60000000005, by decide⟩,
    ⟨({ run with disp := { run.disp with tempAt1 := 1 } }), 5, by decide⟩,
    ⟨run, 5, by decide⟩,
    ⟨(scanning .running), 5, 2, by decide⟩,
    ⟨(scanning .queued), 5, 2, by decide⟩,
    ⟨(scanning .running), 5, 2, by decide⟩,
    ⟨(scanning .queued), 5, 2, by decide⟩,
    ⟨(scanning .queued), 5, by decide⟩,
    ⟨({ run with disp := { run.disp with pwrEn := true } }), 20000005, by decide⟩,
    ⟨run, 5, by decide⟩,
    ⟨(run.wr R.DISP_STAT_SCANNING 0 1), 5, by decide⟩,
    ⟨run, 100000005, by decide⟩,
    ⟨(scanning .queued), 5, by decide⟩,
    ⟨run, 10000000000, by decide⟩,
    ⟨run, 5, by decide⟩,
    ⟨({ run with disp := { run.disp with frameEnd := 50 } }), 5, by decide⟩⟩

theorem test_wit_DisplayCommands :
    (∃ (s : State) (x : Ctx), let b := s.advance x.t; let a := b.start x; b.takes x Op.DISP_QUERY 0 = true) ∧
    (∃ (s : State) (x : Ctx) (p q : Nat) (c d e f : Byte), let b := s.advance x.t; let a := b.start x;
      b.takes x Op.DISP_IMAGE_LOAD 0 = true ∧ p % 8 = 0 ∧ p + 8 ≤ a.rd R.DISP_CFG_WIDTH ∧ q + 1 ≤
      a.rd R.DISP_CFG_HEIGHT) ∧
    (∃ (s : State) (x : Ctx) (p q w h : Nat) (l : List Byte), let b := s.advance x.t; let a := b.start x;
      b.takes x Op.DISP_IMAGE_LOAD 0 = true ∧ (w = 0 ∨ h = 0 ∨ p % 8 ≠ 0 ∨ w % 8 ≠ 0 ∨ a.rd R.DISP_CFG_WIDTH < p +
      w ∨ a.rd R.DISP_CFG_HEIGHT < q + h)) ∧
    (∃ (s : State) (x : Ctx) (p q w h m : Nat), let b := s.advance x.t; let a := b.start x;
      b.takes x Op.DISP_UPDATE 0 = true ∧ b.heldBy 16 (.dispUpdate p q w h m) = none ∧
      b.actDisabled (some (.dispUpdate p q w h m)) = false ∧ a.dispBad p q w h m = none ∧ w ≠ 0 ∧ h ≠ 0 ∧
      (List.range 16).all (fun r => (a.region r).st == .free) = true) ∧
    (∃ (s : State) (x : Ctx) (p q w h m k : Nat), let b := s.advance x.t; let a := b.start x;
      b.takes x Op.DISP_UPDATE 0 = true ∧ b.heldBy 16 (.dispUpdate p q w h m) = none ∧
      b.actDisabled (some (.dispUpdate p q w h m)) = false ∧ a.dispBad p q w h m = some k ∧ (w ≠ 0 ∨ h ≠ 0)) ∧
    (∃ (s : State) (x : Ctx) (v : Int), let b := s.advance x.t; let a := b.start x; b.takes x Op.DISP_TEMP_SET 0 =
      true ∧ a.rd R.DISP_TEMP_SRC = 2 ∧ -16384 ≤ v ∧ v ≤ 16383) ∧
    (∃ (s : State) (x : Ctx) (v : Int), let b := s.advance x.t; let a := b.start x; b.takes x Op.DISP_TEMP_SET 0 =
      true ∧ a.rd R.DISP_TEMP_SRC ≠ 2) ∧
    (∃ (s : State) (x : Ctx), let b := s.advance x.t; let a := b.start x; b.takes x Op.DISP_VINTAGE_READ 0 = true) ∧
    (∃ (s : State) (x : Ctx) (g : OwnerSig), let b := s.advance x.t; let a := b.start x;
      b.takes x Op.DISP_VINTAGE_RESET 0 = true ∧ a.ownerBad g = none) ∧
    (∃ (s : State) (x : Ctx) (g : OwnerSig) (k : Nat), let b := s.advance x.t; let a := b.start x;
      b.takes x Op.DISP_VINTAGE_RESET 0 = true ∧ a.ownerBad g = some k) :=
  ⟨⟨(fetched Op.DISP_QUERY cx run), cx, by decide⟩,
    ⟨(fetched Op.DISP_IMAGE_LOAD cx run), cx, 8, 3, 0x12, 0x34, 0x56, 0x78, by decide⟩,
    ⟨(fetched Op.DISP_IMAGE_LOAD cx run), cx, 4, 0, 8, 1, [], by decide⟩,
    ⟨(fetched Op.DISP_UPDATE cx panel), cx, 8, 3, 8, 2, 1, by decide⟩,
    ⟨(fetched Op.DISP_UPDATE cx run), cx, 8, 3, 8, 2, 1, St.DISABLED, by decide⟩,
    ⟨(fetched Op.DISP_TEMP_SET cx (run.wr R.DISP_TEMP_SRC 0 2)), cx, (-5), by decide⟩,
    ⟨(fetched Op.DISP_TEMP_SET cx run), cx, 5, by decide⟩,
    ⟨(fetched Op.DISP_VINTAGE_READ cx run), cx, by decide⟩,
    ⟨(fetched Op.DISP_VINTAGE_RESET cx owned), cx, ⟨true, 5⟩, by decide⟩,
    ⟨(fetched Op.DISP_VINTAGE_RESET cx owned), cx, ⟨false, 5⟩, St.BAD_SIGNATURE, by decide⟩⟩

theorem test_wit_LoadSwitchEvents :
    (∃ (s : State) (t : Nat) (n i j : Nat), let a := s.advance t; a.up = true ∧ n < 32 ∧ a.lswSt n = 2 ∧
      a.lswConducts n = true ∧ j < 220 ∧ (a.lswCh n).held = none ∧ 250 * a.rd R.LSW_CFG_ILIM n ≤ i ∧
      a.rd R.LSW_STAT_RETRIES_LEFT n ≠ 0) ∧
    (∃ (s : State) (t : Nat) (n i j : Nat), let a := s.advance t; a.up = true ∧ n < 32 ∧ a.lswSt n = 2 ∧
      a.lswConducts n = true ∧ j < 220 ∧ (a.lswCh n).held = none ∧ 250 * a.rd R.LSW_CFG_ILIM n ≤ i ∧
      a.rd R.LSW_STAT_RETRIES_LEFT n = 0) ∧
    (∃ (s : State) (t : Nat) (n i j : Nat) (k : Bool), let a := s.advance t; a.up = true ∧ n < 32 ∧
      a.lswConducts n = true ∧ 220 ≤ j ∧ a.flag R.LSW_CFG_THERM_LATCH n = false) ∧
    (∃ (s : State) (t : Nat) (n i j : Nat) (k : Bool), let a := s.advance t; a.up = true ∧ n < 32 ∧ a.lswSt n = 0) ∧
    (∃ (s : State) (t : Nat) (n i j : Nat), let a := s.advance t; a.up = true ∧ n < 32 ∧ a.lswSt n = 1 ∧ j < 220 ∧
      (a.lswCh n).held = none ∧ (a.lswCh n).since + 10 ^ 6 ≤ a.mtb ∧ a.mtb ≤ (a.lswCh n).since + 1020000 ∧
      a.rd R.LSW_STAT_RETRIES_LEFT n ≠ 0) ∧
    (∃ (s : State) (t : Nat) (n i j : Nat), let a := s.advance t; a.up = true ∧ n < 32 ∧ a.lswSt n = 1 ∧
      (a.lswCh n).since + 10 ^ 6 ≤ a.mtb ∧ i < 250 * a.rd R.LSW_CFG_ILIM n) ∧
    (∃ (s : State) (t : Nat) (n i j : Nat) (k : Bool), let a := s.advance t; a.up = true ∧ n < 32 ∧ a.lswSt n = 1 ∧
      (a.lswCh n).since + a.rd R.LSW_CFG_INRUSH_MS n * 10 ^ 6 ≤ a.mtb ∧ 250 * a.rd R.LSW_CFG_ILIM n ≤ i ∧
      a.rd R.LSW_STAT_RETRIES_LEFT n ≠ 0) ∧
    (∃ (s : State) (t : Nat) (n i j : Nat) (k : Bool), let a := s.advance t; a.up = true ∧ a.lswSt n ≠ 1) ∧
    (∃ (s : State) (t : Nat) (n : Nat), let a := s.advance t; a.up = true ∧ a.lswSt n = 3 ∧ (a.lswCh n).held =
      none ∧ (a.lswCh n).due ≤ a.mtb ∧ a.flag R.LSW_QUAD_HOT (n / 4) = false ∧ a.rd R.LSW_STAT_RETRIES_LEFT n ≠ 0 ∧
      a.flag R.LSW_CFG_INRUSH_EN n = true) ∧
    (∃ (s : State) (t : Nat) (n : Nat), let a := s.advance t; a.up = true ∧ a.lswSt n = 3 ∧ (a.lswCh n).held =
      none ∧ (a.lswCh n).due ≤ a.mtb ∧ a.flag R.LSW_QUAD_HOT (n / 4) = true) ∧
    (∃ (s : State) (t : Nat) (n : Nat), let a := s.advance t; a.up = true ∧ (a.lswSt n ≠ 3 ∨ a.mtb <
      (a.lswCh n).due)) ∧
    (∃ (s : State) (t : Nat) (n j : Nat), let a := s.advance t; a.up = true ∧ a.lswSt n = 4 ∧ j ≤ 200 ∧
      (a.lswCh n).held = none ∧ a.flag R.LSW_QUAD_HOT (n / 4) = false) ∧
    (∃ (s : State) (t : Nat) (n j : Nat), let a := s.advance t; a.up = true ∧ 200 < j) ∧
    (∃ (s : State) (t : Nat) (n : Nat), let a := s.advance t; a.up = true ∧ a.lswSt n = 2 ∧ (a.lswCh n).since +
      10 ^ 9 ≤ a.mtb) ∧
    (∃ (s : State) (t : Nat) (n : Nat), let a := s.advance t; a.up = true ∧ a.mtb < (a.lswCh n).since + 10 ^ 9) ∧
    (∃ (s : State) (t : Nat) (q j : Nat), let a := s.advance t; a.up = true ∧ q < 8 ∧ 215 ≤ j ∧
      a.flag R.LSW_QUAD_HOT q = false ∧ (List.range 4).all (fun k => a.lswSt (4 * q + k) != 1) = true) ∧
    (∃ (s : State) (t : Nat) (q j : Nat), let a := s.advance t; a.up = true ∧ q < 8 ∧ 215 ≤ j ∧
      a.flag R.LSW_QUAD_HOT q = false ∧ a.lswSt (4 * q) = 1 ∧
      (List.range 3).all (fun k => a.lswSt (4 * q + 1 + k) != 1) = true) ∧
    (∃ (s : State) (t : Nat) (q j : Nat), let a := s.advance t; a.up = true ∧ j < 215) ∧
    (∃ (s : State) (t : Nat) (q j : Nat), let a := s.advance t; a.up = true ∧ q < 8 ∧ j ≤ 195 ∧
      a.flag R.LSW_QUAD_HOT q = true) ∧
    (∃ (s : State) (t : Nat) (q j : Nat), let a := s.advance t; a.up = true ∧ 195 < j) ∧
    (∃ (s : State) (t : Nat) (q : Nat), let a := s.advance t; a.up = true ∧ q < 8 ∧ a.flag R.LSW_QUAD_HOT q =
      false ∧ a.lsw.next.get 0 q ≤ a.mtb ∧ a.lswSt (4 * q) = 5 ∧ (a.lswCh (4 * q)).held = none ∧
      (a.lswCh (4 * q)).retry = false) ∧
    (∃ (s : State) (t : Nat) (q : Nat), let a := s.advance t; a.up = true ∧ (a.flag R.LSW_QUAD_HOT q = true ∨
      a.mtb < a.lsw.next.get 0 q)) ∧
    (∃ (s : State) (t : Nat) (k : Nat), let a := s.advance t; a.up = true ∧ k < 4 ∧ a.lsw.no.get 0 k <
      a.mtb * a.lswHz k / 10 ^ 9) ∧
    (∃ (s : State) (t : Nat) (k : Nat), let a := s.advance t; a.up = true ∧ a.mtb * a.lswHz k / 10 ^ 9 ≤
      a.lsw.no.get 0 k) ∧
    (∃ (s : State) (t : Nat) (n l h : Nat), let a := s.advance t; a.up = true ∧ n < 32 ∧ a.lswSt n = 2 ∧ 10 ^ 8 ≤
      a.sampledOn n false ∧ a.flag R.LSW_CFG_OL_RANGE n = false ∧ a.flag R.LSW_STAT_OPEN_ON n = false ∧ h < 500) ∧
    (∃ (s : State) (t : Nat) (n l h : Nat), let a := s.advance t; a.up = true ∧ n < 32 ∧ a.lswSt n = 2 ∧ 10 ^ 8 ≤
      a.sampledOn n false ∧ a.flag R.LSW_CFG_OL_RANGE n = false ∧ a.flag R.LSW_STAT_OPEN_ON n = true ∧ 600 ≤ l) ∧
    (∃ (s : State) (t : Nat) (n l h : Nat), let a := s.advance t; a.up = true ∧ a.lswSt n ≠ 2) ∧
    (∃ (s : State) (t : Nat) (n : Nat), let a := s.advance t; a.up = true ∧ n < 32 ∧ a.flag R.LSW_CFG_OFF_DIAG n =
      true ∧ a.lswSt n = 0 ∧ a.flag R.LSW_STAT_OPEN_OFF n = false ∧ a.muted = false ∧ (a.lswCh n).since + 10 ^ 7 ≤
      a.mtb) ∧
    (∃ (s : State) (t : Nat) (n : Nat), let a := s.advance t; a.up = true ∧ a.flag R.LSW_CFG_OFF_DIAG n = false) ∧
    (∃ (s : State) (t : Nat), let a := s.advance t; a.up = true ∧ a.lsw.win < a.mtb / 10 ^ 8 ∧
      (List.range 32).all (fun k => a.lswSt k == 0) = true) ∧
    (∃ (s : State) (t : Nat) (i : Nat), let a := s.advance t; a.up = true ∧ a.lsw.win < a.mtb / 10 ^ 8 ∧ a.lswSt 0 =
      2 ∧ (List.range 31).all (fun k => a.lswSt (k + 1) == 0) = true ∧ 6000 < i ∧ i ≤ 24000) ∧
    (∃ (s : State) (t : Nat) (m v : Nat), let a := s.advance t; a.up = true ∧ m < 4 ∧ v < 5500 ∧
      a.flag R.LSW_BANK_UV m = false ∧ (List.range 8).all (fun k => a.lswSt (8 * m + k) == 0) = true) ∧
    (∃ (s : State) (t : Nat) (v : Nat), let a := s.advance t; a.up = true ∧ v < 5500 ∧ a.flag R.LSW_BANK_UV 0 =
      false ∧ a.lswSt 0 = 2 ∧ (List.range 7).all (fun k => a.lswSt (k + 1) == 0) = true) ∧
    (∃ (s : State) (t : Nat) (m v : Nat), let a := s.advance t; a.up = true ∧ 5500 ≤ v) ∧
    (∃ (s : State) (t : Nat) (m v : Nat), let a := s.advance t; a.up = true ∧ m < 4 ∧ 6000 < v ∧ v < 2 ^ 15 ∧
      a.flag R.LSW_BANK_UV m = true ∧ a.lsw.lowAt.get 0 m + 10 ^ 7 ≤ a.mtb ∧
      (List.range 8).all (fun k => (a.lswCh (8 * m + k)).held.isNone) = true) ∧
    (∃ (s : State) (t : Nat) (m v : Nat), let a := s.advance t; a.up = true ∧ (v ≤ 6000 ∨ a.flag R.LSW_BANK_UV m =
      false)) :=
  ⟨⟨((lsw 3 2).wr R.LSW_STAT_RETRIES_LEFT 3 2), 5, 3, 60000, 75, by decide⟩,
    ⟨((lsw 3 2).wr R.LSW_STAT_RETRIES_LEFT 3 0), 5, 3, 60000, 75, by decide⟩,
    ⟨((lsw 3 2).wr R.LSW_CFG_THERM_LATCH 3 0), 5, 3, 10, 220, false, by decide⟩,
    ⟨run, 5, 3, 10, 75, false, by decide⟩,
    ⟨((lsw 3 1).wr R.LSW_STAT_RETRIES_LEFT 3 2), 1000005, 3, 60, 75, by decide⟩,
    ⟨((lsw 3 1).wr R.LSW_CFG_ILIM 3 8), 1000000, 3, 10, 75, by decide⟩,
    ⟨(((lsw 3 1).wr R.LSW_CFG_ILIM 3 8).wr R.LSW_STAT_RETRIES_LEFT 3 1), 10000000000, 3, 3000, 75, false, by decide⟩,
    ⟨run, 5, 3, 3000, 75, true, by decide⟩,
    ⟨((lsw 3 3).wr R.LSW_STAT_RETRIES_LEFT 3 2 |>.wr R.LSW_CFG_INRUSH_EN 3 1), 5, 3, by decide⟩,
    ⟨((lsw 3 3).wr R.LSW_QUAD_HOT 0 1), 5, 3, by decide⟩,
    ⟨run, 5, 3, by decide⟩,
    ⟨(lsw 3 4), 5, 3, 200, by decide⟩,
    ⟨(lsw 3 4), 5, 3, 201, by decide⟩,
    ⟨(lsw 3 2), 1000000005, 3, by decide⟩,
    ⟨(lsw 3 2), 5, 3, by decide⟩,
    ⟨(lsw 3 2), 5, 0, 215, by decide⟩,
    ⟨(lsw 4 1), 5, 1, 215, by decide⟩,
    ⟨run, 5, 0, 214, by decide⟩,
    ⟨((lsw 3 2).wr R.LSW_QUAD_HOT 0 1), 5, 0, 195, by decide⟩,
    ⟨run, 5, 0, 196, by decide⟩,
    ⟨(lsw 4 5), 5, 1, by decide⟩,
    ⟨(run.wr R.LSW_QUAD_HOT 1 1), 5, 1, by decide⟩,
    ⟨((lsw 9 2).wr R.LSW_PWM_DUTY 9 77), 1000000, 1, by decide⟩,
    ⟨run, 5, 1, by decide⟩,
    ⟨(lsw 3 2), 100000000, 3, 0, 499, by decide⟩,
    ⟨((lsw 3 2).wr R.LSW_STAT_OPEN_ON 3 1), 100000000, 3, 600, 700, by decide⟩,
    ⟨run, 5, 3, 0, 0, by decide⟩,
    ⟨(run.wr R.LSW_CFG_OFF_DIAG 3 1), 10000000, 3, by decide⟩,
    ⟨run, 5, 3, by decide⟩,
    ⟨run, 100000000, by decide⟩,
    ⟨(lsw 0 2), 100000000, 6001, by decide⟩,
    ⟨run, 5, 1, 5499, by decide⟩,
    ⟨(lsw 0 2), 5, 5499, by decide⟩,
    ⟨run, 5, 1, 5500, by decide⟩,
    ⟨(run.wr R.LSW_BANK_UV 1 1), 10000000, 1, 6001, by decide⟩,
    ⟨run, 5, 1, 6000, by decide⟩⟩

theorem test_wit_LoadSwitchCommands :
    (∃ (s : State) (x : Ctx) (n : Nat), let b := s.advance x.t; let a := b.start x; b.takes x Op.LSW_SET 0xFF =
      true ∧ n < 32 ∧ a.lswSt n = 0 ∧ a.flag R.LSW_CFG_EN n = true ∧ a.flag R.LSW_BANK_UV (n / 8) = false ∧
      a.flag R.LSW_CFG_SAFE_OFF n = false ∧ a.overBudget [n] = [] ∧ a.flag R.LSW_QUAD_HOT (n / 4) = false) ∧
    (∃ (s : State) (x : Ctx) (n d p : Nat), let b := s.advance x.t; let a := b.start x; b.takes x Op.LSW_SET 0xFF =
      true ∧ n < 32 ∧ a.lswSt n = 2 ∧ d ≤ 4095 ∧ p < 255) ∧
    (∃ (s : State) (x : Ctx) (n : Nat), let b := s.advance x.t; let a := b.start x; b.takes x Op.LSW_SET 0xFF =
      true ∧ n < 32 ∧ a.lswSt n = 6 ∧ a.flag R.LSW_CFG_EN n = true) ∧
    (∃ (s : State) (x : Ctx) (n : Nat), let b := s.advance x.t; let a := b.start x; b.takes x Op.LSW_SET 0xFF =
      true ∧ n < 32 ∧ a.lswSt n = 0 ∧ a.flag R.LSW_CFG_EN n = true ∧ a.flag R.LSW_BANK_UV (n / 8) = true) ∧
    (∃ (s : State) (x : Ctx) (n : Nat), let b := s.advance x.t; let a := b.start x; b.takes x Op.LSW_SET 0xFF =
      true ∧ n < 32 ∧ a.lswSt n = 0 ∧ a.flag R.LSW_CFG_EN n = true ∧ a.flag R.LSW_BANK_UV (n / 8) = false ∧
      a.flag R.LSW_CFG_SAFE_OFF n = true ∧ a.flag R.SAFE_STATUS_SAFE_OK = false) ∧
    (∃ (s : State) (x : Ctx) (n : Nat), let b := s.advance x.t; let a := b.start x; b.takes x Op.LSW_SET 0xFF =
      true ∧ n < 32 ∧ a.lswSt n = 0 ∧ a.flag R.LSW_CFG_EN n = true ∧ a.flag R.LSW_BANK_UV (n / 8) = false ∧
      a.flag R.LSW_CFG_SAFE_OFF n = false ∧ a.overBudget [n] = [n]) ∧
    (∃ (s : State) (x : Ctx) (n : Nat), let b := s.advance x.t; let a := b.start x; b.takes x Op.LSW_CLEAR 0xFF =
      true ∧ n < 32 ∧ a.lswSt n = 6 ∧ a.rd R.LSW_STAT_TJ n ≤ 200) ∧
    (∃ (s : State) (x : Ctx) (n : Nat), let b := s.advance x.t; let a := b.start x; b.takes x Op.LSW_CLEAR 0xFF =
      true ∧ n < 32 ∧ a.lswSt n = 6 ∧ 200 < a.rd R.LSW_STAT_TJ n) ∧
    (∃ (s : State) (x : Ctx) (n : Nat), let b := s.advance x.t; let a := b.start x; b.takes x Op.LSW_QUERY n =
      true ∧ n < 32) ∧
    (∃ (s : State) (x : Ctx) (n : Nat), let b := s.advance x.t; let a := b.start x; b.takes x Op.LSW_QUERY n =
      true ∧ 32 ≤ n) ∧
    (∃ (s : State) (x : Ctx) (n i j : Nat), let b := s.advance x.t; let a := b.start x; b.takes x Op.LSW_CONFIG n =
      true ∧ n < 32 ∧ State.lswCfgFields.all (fun F => State.inRange F (State.imageField F i)) = true ∧ a.lswSt n =
      0 ∧ (a.lswCh n).held = none) ∧
    (∃ (s : State) (x : Ctx) (n i j : Nat), let b := s.advance x.t; let a := b.start x; b.takes x Op.LSW_CONFIG n =
      true ∧ n < 32 ∧ State.lswCfgFields.all (fun F => State.inRange F (State.imageField F i)) = true ∧ a.lswSt n =
      2) ∧
    (∃ (s : State) (x : Ctx) (m h : Nat), let b := s.advance x.t; let a := b.start x;
      b.takes x Op.LSW_BANK_PWM 0xFF = true ∧ m < 4 ∧ 100 ≤ h ∧ h ≤ 20000) ∧
    (∃ (s : State) (x : Ctx) (m h : Nat), let b := s.advance x.t; let a := b.start x;
      b.takes x Op.LSW_BANK_PWM 0xFF = true ∧ (4 ≤ m ∨ h < 100 ∨ 20000 < h)) :=
  ⟨⟨(fetched Op.LSW_SET cx ((run.wr R.LSW_CFG_EN 3 1).wr R.LSW_CFG_SAFE_OFF 3 0)), cx, 3, by decide⟩,
    ⟨(fetched Op.LSW_SET cx (lsw 3 2)), cx, 3, 100, 7, by decide⟩,
    ⟨(fetched Op.LSW_SET cx ((lsw 3 6).wr R.LSW_CFG_EN 3 1)), cx, 3, by decide⟩,
    ⟨(fetched Op.LSW_SET cx ((run.wr R.LSW_CFG_EN 3 1).wr R.LSW_BANK_UV 0 1)), cx, 3, by decide⟩,
    ⟨(fetched Op.LSW_SET cx ((run.wr R.LSW_CFG_EN 3 1).wr R.LSW_CFG_SAFE_OFF 3 1)), cx, 3, by decide⟩,
    ⟨(fetched Op.LSW_SET cx ((run.wr R.LSW_CFG_EN 3 1).wr R.LSW_BANK_I_MA 0 6001 |>.wr R.LSW_CFG_I_NOM 3 100 |>.wr R.LSW_CFG_SAFE_OFF 3 0)), cx, 3, by decide⟩,
    ⟨(fetched Op.LSW_CLEAR cx (lsw 3 6)), cx, 3, by decide⟩,
    ⟨(fetched Op.LSW_CLEAR cx ((lsw 3 6).wr R.LSW_STAT_TJ 3 201)), cx, 3, by decide⟩,
    ⟨(fetched Op.LSW_QUERY cx (lsw 3 6)), cx, 3, by decide⟩,
    ⟨(fetched Op.LSW_QUERY cx run), cx, 32, by decide⟩,
    ⟨(fetched Op.LSW_CONFIG cx run), cx, 3, goodLsw, 77, by decide⟩,
    ⟨(fetched Op.LSW_CONFIG cx (lsw 3 2)), cx, 3, goodLsw, 77, by decide⟩,
    ⟨(fetched Op.LSW_BANK_PWM cx run), cx, 1, 20000, by decide⟩,
    ⟨(fetched Op.LSW_BANK_PWM cx run), cx, 1, 99, by decide⟩⟩

theorem test_wit_TwinEventsAndCommands :
    (∃ (s : State) (t : Nat) (k z : Nat) (q : Bool) (h : TwinHdr), let a := s.advance t; a.up = true ∧
      a.flag R.TWIN_LINK_UP = false ∧ z < 2 ^ 64 ∧ h.stamp < 2 ^ 62 ∧ h.at_ < 2 ^ 62 ∧
      a.rd R.TWIN_STAT_PEER_SERIAL = 0 ∧ a.role = 1 ∧ a.twin.actIn = true) ∧
    (∃ (s : State) (t : Nat) (k z : Nat) (q : Bool) (h : TwinHdr), let a := s.advance t; a.up = true ∧
      a.flag R.TWIN_LINK_UP = false ∧ z < 2 ^ 64 ∧ h.stamp < 2 ^ 62 ∧ h.at_ < 2 ^ 62 ∧
      a.rd R.TWIN_STAT_PEER_SERIAL = 0 ∧ a.role = 1 ∧ a.twin.actIn = false ∧ a.flag R.TWIN_CFG_PREFER = true) ∧
    (∃ (s : State) (t : Nat) (k z : Nat) (q : Bool) (h : TwinHdr), let a := s.advance t; a.up = true ∧ (a.role = 0 ∨
      a.flag R.TWIN_LINK_UP = true)) ∧
    (∃ (s : State) (t : Nat), let a := s.advance t; a.up = true ∧ a.flag R.TWIN_LINK_UP = true) ∧
    (∃ (s : State) (t : Nat), let a := s.advance t; a.up = true ∧ a.flag R.TWIN_LINK_UP = false) ∧
    (∃ (s : State) (t : Nat), let a := s.advance t; a.up = true ∧ a.role = 1 ∧ a.flag R.TWIN_LINK_UP = false ∧
      a.twin.actIn = false ∧ a.twin.since + 2 * 10 ^ 9 ≤ a.mtb) ∧
    (∃ (s : State) (t : Nat), let a := s.advance t; a.up = true ∧ a.role ≠ 1) ∧
    (∃ (s : State) (t : Nat) (h : TwinHdr) (r k : Nat), let a := s.advance t; a.up = true ∧ a.role = 2 ∧
      a.flag R.TWIN_LINK_UP = true ∧ a.arch.cycleStart + 490000 ≤ a.mtb ∧ a.twin.frozen.map (·.cycle) ≠
      some (a.arch.cycleStart / 10 ^ 6) ∧ k < 2 ^ 10) ∧
    (∃ (s : State) (t : Nat) (h : TwinHdr) (r k : Nat), let a := s.advance t; a.up = true ∧ (a.role ≠ 2 ∨
      a.flag R.TWIN_LINK_UP = false ∨ a.mtb < a.arch.cycleStart + 490000)) ∧
    (∃ (s : State) (t : Nat) (p : TwinCopy) (h : TwinHdr) (k : Nat), let a := s.advance t; a.up = true ∧ a.role =
      3 ∧ a.flag R.TWIN_LINK_UP = true ∧ k ≤ 768 ∧ p.cycle = (a.noteFrame h 0).peerNow / 10 ^ 6 ∧
      (a.noteFrame h 0).peerNow % 10 ^ 6 ≤ 995000 ∧ a.twin.gotCycle ≠ p.cycle + 1) ∧
    (∃ (s : State) (t : Nat) (p : TwinCopy) (h : TwinHdr) (k : Nat), let a := s.advance t; a.up = true ∧ a.role =
      3 ∧ a.flag R.TWIN_LINK_UP = true) ∧
    (∃ (s : State) (t : Nat) (p : TwinCopy) (h : TwinHdr) (k : Nat) (q : Bool), let a := s.advance t; a.up = true ∧
      (a.role ≠ 3 ∨ a.flag R.TWIN_LINK_UP = false)) ∧
    (∃ (s : State) (t : Nat), let a := s.advance t; a.up = true ∧ a.role = 3 ∧ 995000 ≤ a.peerNow % 10 ^ 6 ∧
      a.twin.dueCycle ≠ a.peerNow / 10 ^ 6 + 1 ∧ a.twin.gotCycle = a.peerNow / 10 ^ 6 + 1) ∧
    (∃ (s : State) (t : Nat) (k : Nat), let a := s.advance t; a.up = true ∧ a.role = 3 ∧ 995000 ≤
      a.peerNow % 10 ^ 6 ∧ a.twin.dueCycle ≠ a.peerNow / 10 ^ 6 + 1 ∧ a.twin.gotCycle ≠ a.peerNow / 10 ^ 6 + 1 ∧
      a.twin.missAt1 = 0) ∧
    (∃ (s : State) (t : Nat) (k : Nat), let a := s.advance t; a.up = true ∧ a.peerNow % 10 ^ 6 < 995000) ∧
    (∃ (s : State) (t : Nat) (k : Nat), let a := s.advance t; a.up = true ∧ a.role = 2 ∧ a.giveUpOn k = true ∧
      a.giveUpHolds k = true ∧ a.flag R.TWIN_STAT_PEER_READY = true ∧ k < 2 ^ 6) ∧
    (∃ (s : State) (t : Nat) (k : Nat), let a := s.advance t; a.up = true ∧ (a.role ≠ 2 ∨ a.giveUpOn k = false ∨
      a.giveUpHolds k = false ∨ a.flag R.TWIN_STAT_PEER_READY = false)) ∧
    (∃ (s : State) (t : Nat), let a := s.advance t; a.up = true ∧ a.role = 3 ∧ a.twin.copy = none) ∧
    (∃ (s : State) (t : Nat) (p : TwinCopy), let a := s.advance t; a.up = true ∧ a.role = 3 ∧ a.twinReady = true ∧
      a.twin.copy = some p) ∧
    (∃ (s : State) (t : Nat), let a := s.advance t; a.up = true ∧ a.role = 1 ∧ a.flag R.TWIN_LINK_UP = true ∧
      a.flag R.TWIN_CFG_PREFER = true) ∧
    (∃ (s : State) (t : Nat), let a := s.advance t; a.up = true ∧ a.role ≠ 3 ∧ a.role ≠ 1) ∧
    (∃ (s : State) (t : Nat), let a := s.advance t; a.up = true ∧ a.role = 6 ∧ a.twin.released = false) ∧
    (∃ (s : State) (t : Nat), let a := s.advance t; a.up = true ∧ a.role = 1 ∧ a.flag R.TWIN_LINK_UP = true) ∧
    (∃ (s : State) (t : Nat), let a := s.advance t; a.up = true ∧ a.role = 2 ∧ a.actOut = true ∧ a.twin.actIn =
      false) ∧
    (∃ (s : State) (t : Nat) (m : Nat), let a := s.advance t; a.up = true ∧ a.twin.bothAt = some m ∧ a.twin.actIn =
      true ∧ a.actOut = true ∧ m + 10 ^ 6 ≤ a.mtb ∧ a.flag R.TWIN_CFG_PREFER = false ∧ a.twin.peerPrefer = true) ∧
    (∃ (s : State) (t : Nat), let a := s.advance t; a.up = true ∧ a.twin.bothAt = none) ∧
    (∃ (s : State) (t : Nat), let a := s.advance t; a.up = true ∧ a.role = 4 ∧ a.twin.actIn = false ∧
      a.twin.wanted = 0 ∧ a.twin.carried = [] ∧ (List.range 8).all (fun k => !(a.outlet k).hlcRunning) = true) ∧
    (∃ (s : State) (t : Nat), let a := s.advance t; a.up = true ∧ (a.role ≠ 4 ∨ a.twin.actIn = true)) ∧
    (∃ (s : State) (t : Nat) (m : Nat), let a := s.advance t; a.up = true ∧ a.role = 2) ∧
    (∃ (s : State) (t : Nat) (m : Nat), let a := s.advance t; a.up = true ∧ a.role = 2) ∧
    (∃ (s : State) (t : Nat) (o m : Nat), let a := s.advance t; a.up = true ∧ a.role ≠ 2) ∧
    (∃ (s : State) (x : Ctx), let b := s.advance x.t; let a := b.start x; b.takes x Op.TWIN_QUERY 0 = true) ∧
    (∃ (s : State) (x : Ctx), let b := s.advance x.t; let a := b.start x; b.takes x Op.TWIN_SWITCH 0 = true ∧
      a.role = 2 ∧ a.flag R.TWIN_STAT_PEER_READY = true ∧ a.giveUpOn 6 = true) ∧
    (∃ (s : State) (x : Ctx), let b := s.advance x.t; let a := b.start x; b.takes x Op.TWIN_SWITCH 0 = true ∧
      a.role ≠ 2) ∧
    (∃ (s : State) (x : Ctx), let b := s.advance x.t; let a := b.start x; b.takes x Op.TWIN_SWITCH 0 = true ∧
      a.role = 2 ∧ a.flag R.TWIN_STAT_PEER_READY = false) ∧
    (∃ (s : State) (x : Ctx), let b := s.advance x.t; let a := b.start x; b.takes x Op.TWIN_REJOIN 0 = true ∧
      a.role = 6 ∧ (List.range 6).any a.giveUpHolds = false) ∧
    (∃ (s : State) (x : Ctx), let b := s.advance x.t; let a := b.start x; b.takes x Op.TWIN_REJOIN 0 = true ∧
      a.role = 6 ∧ (List.range 6).any a.giveUpHolds = true) ∧
    (∃ (s : State) (x : Ctx), let b := s.advance x.t; let a := b.start x; b.takes x Op.TWIN_REJOIN 0 = true ∧
      a.role ≠ 6) :=
  ⟨⟨(roleActIn 1), 5, 2, 77, false, hdrT, by decide⟩,
    ⟨((roleIs 1).wr R.TWIN_CFG_PREFER 0 1), 5, 2, 77, false, hdrT, by decide⟩,
    ⟨run, 5, 2, 77, false, hdrT, by decide⟩,
    ⟨(linked 2), 5, by decide⟩,
    ⟨run, 5, by decide⟩,
    ⟨(roleIs 1), 2000000005, by decide⟩,
    ⟨run, 5, by decide⟩,
    ⟨(linked 2), 490005, hdrT, 1, 16, by decide⟩,
    ⟨run, 5, hdrT, 1, 16, by decide⟩,
    ⟨(linked 3), 5, copy1, hdrT, 16, by decide⟩,
    ⟨(linked 3), 5, copy1, hdrT, 16, by decide⟩,
    ⟨run, 5, copy1, hdrT, 16, true, by decide⟩,
    ⟨({ linked 3 with twin := { (linked 3).twin with gotCycle := 1 } }), 995005, by decide⟩,
    ⟨(linked 3), 995005, 2, by decide⟩,
    ⟨(linked 3), 5, 2, by decide⟩,
    ⟨((linked 2).wr R.TWIN_STAT_PEER_READY 0 1), 2000005, 0, by decide⟩,
    ⟨run, 5, 0, by decide⟩,
    ⟨(linked 3), 5, by decide⟩,
    ⟨takeReady, 5, { copy1 with settings := Config.hash [] }, by decide, by decide, by
      have e (h : Nat) : (true && (h == h) && true) = true := by simp
      exact e (Config.hash []), rfl⟩,
    ⟨((linked 1).wr R.TWIN_CFG_PREFER 0 1), 5, by decide⟩,
    ⟨(roleActIn 2), 5, by decide⟩,
    ⟨(roleIs 6), 5, by decide⟩,
    ⟨(linked 1), 5, by decide⟩,
    ⟨(linked 2), 5, by decide⟩,
    ⟨conflict, 1000005, 0, by decide⟩,
    ⟨run, 5, by decide⟩,
    ⟨(roleIs 4), 5, by decide⟩,
    ⟨run, 5, by decide⟩,
    ⟨(linked 2), 5, 8, by decide⟩,
    ⟨(linked 2), 5, 8, by decide⟩,
    ⟨run, 5, 0, 0, by decide⟩,
    ⟨(fetched Op.TWIN_QUERY cx run), cx, by decide⟩,
    ⟨(fetched Op.TWIN_SWITCH cx (((linked 2).wr R.TWIN_STAT_PEER_READY 0 1).wr R.TWIN_CFG_GIVEUP_MASK 0 127)), cx, by decide⟩,
    ⟨(fetched Op.TWIN_SWITCH cx run), cx, by decide⟩,
    ⟨(fetched Op.TWIN_SWITCH cx (linked 2)), cx, by decide⟩,
    ⟨(fetched Op.TWIN_REJOIN cx healthy6), cx, by decide⟩,
    ⟨(fetched Op.TWIN_REJOIN cx ((roleIs 6).wr R.KEY_STATUS_MODE 0 4)), cx, by decide⟩,
    ⟨(fetched Op.TWIN_REJOIN cx run), cx, by decide⟩⟩

theorem test_wit_StartAndStop :
    (∃ (s : State) (t : Nat) (m i : Nat), s.vstartMv ≤ m ∧ 10 ≤ i ∧ (s.phase = .noVin ∨ s.phase = .stopped)) ∧
    (∃ (s : State) (t : Nat) (m i : Nat), m < s.vstartMv ∨ i < 10) ∧
    (∃ (s : State) (t : Nat) (m i : Nat), s.phase = .running ∨ s.phase = .pour ∨ s.phase = .vinValid) ∧
    (∃ (s : State) (t : Nat), s.phase = .vinValid) ∧
    (∃ (s : State) (t : Nat), s.phase ≠ .vinValid) ∧
    (∃ (s : State) (t : Nat) (i : BootIn), s.phase ≠ .vinValid) ∧
    (∃ (s : State) (t : Nat) (i : BootIn), s.phase = .vinValid ∧ i.xtal25 = false) ∧
    (∃ (s : State) (t : Nat) (i : BootIn), let a := s.advance t; s.phase = .vinValid ∧ i.xtal25 = true ∧
      i.activeOk = false ∧ i.otherOk = false ∧ a.rd R.UPD_BOOT_BOOT_STATE = 0) ∧
    (∃ (s : State) (t : Nat) (i : BootIn), let a := s.advance t; s.phase = .vinValid ∧ i.xtal25 = true ∧
      i.activeOk = true ∧ a.rd R.UPD_BOOT_BOOT_STATE = 0) ∧
    (∃ (s : State) (t : Nat) (m : Nat), let a := s.advance t; a.up = true ∧ 100 * m < 102 * a.vfailMv) ∧
    (∃ (s : State) (t : Nat) (m : Nat) (f : List Feed), let a := s.advance t; a.up = true ∧ 102 * a.vfailMv ≤
      100 * m) ∧
    (∃ (s : State) (t : Nat) (m : Nat) (f : List Feed), s.phase ≠ .running) ∧
    (∃ (s : State) (t : Nat) (m : Nat), let a := s.advance t; s.phase = .pour ∧ 98 * s.vfailMv < 100 * m ∧
      (a.pwr.pourEnd : Nat) ≤ a.mtb) ∧
    (∃ (s : State) (t : Nat) (m : Nat), s.phase ≠ .pour ∨ 100 * m ≤ 98 * s.vfailMv) ∧
    (∃ (s : State) (t : Nat), let a := s.advance t; s.phase = .pour ∧ a.pwr.pourEnd ≤ a.mtb) ∧
    (∃ (s : State) (t : Nat), let a := s.advance t; s.phase = .pour ∧ a.mtb < a.pwr.pourEnd) ∧
    (∃ (s : State) (t : Nat), s.phase ≠ .pour) :=
  ⟨⟨State.reset, 5, 48000, 10, by decide⟩,
    ⟨State.reset, 5, 48000, 9, by decide⟩,
    ⟨run, 5, 48000, 10, by decide⟩,
    ⟨({ State.reset with phase := .vinValid }), 5, by decide⟩,
    ⟨run, 5, by decide⟩,
    ⟨run, 5, boot1, by decide⟩,
    ⟨({ State.reset with phase := .vinValid }), 5, { boot1 with xtal25 := false }, by decide⟩,
    ⟨({ State.reset with phase := .vinValid }), 5, { boot1 with activeOk := false, otherOk := false }, by decide⟩,
    ⟨({ State.reset with phase := .vinValid }), 5, boot1, by decide⟩,
    ⟨run, 5, 7000, by decide⟩,
    ⟨run, 5, 48000, [], by decide⟩,
    ⟨State.reset, 5, 7000, [], by decide⟩,
    ⟨pouring, 2000000, 48000, by decide⟩,
    ⟨run, 5, 48000, by decide⟩,
    ⟨pouring, 2000000, by decide⟩,
    ⟨pouring, 5, by decide⟩,
    ⟨run, 5, by decide⟩⟩

theorem test_wit_MonitorsClocksAndPower :
    (∃ (s : State) (t : Nat) (v : Int) (i : Nat) (f : List Feed) (w : Bool), let a := s.advance t; a.core = true ∧
      10 ≤ i ∧ 68000 < v ∧ v < 300000 ∧ a.flag R.PWR_RAIL_OV 2 = false) ∧
    (∃ (s : State) (t : Nat) (v : Int) (i : Nat) (f : List Feed) (w : Bool), let a := s.advance t; a.core = true ∧
      10 ≤ i ∧ v < 1000 ∧ a.flag R.PWR_RAIL_UV 13 = false) ∧
    (∃ (s : State) (t : Nat) (v : Int) (i : Nat) (f : List Feed) (w : Bool) (r : Nat), let a := s.advance t;
      a.core = true ∧ 10 ≤ i ∧ 14 ≤ r) ∧
    (∃ (s : State) (t : Nat) (v : Int) (i : Nat) (f : List Feed) (w : Bool) (r : Nat) (o : Bool), i < 10) ∧
    (∃ (s : State) (t : Nat) (v : Int) (i : Nat), let a := s.advance t; a.core = true ∧ 1000 ≤ i ∧ a.railOut 2 =
      true ∧ 10800 ≤ v ∧ v ≤ 68000) ∧
    (∃ (s : State) (t : Nat) (r : Nat) (v : Int) (i : Nat), let a := s.advance t; a.core = true ∧ 1000 ≤ i ∧ r <
      14 ∧ a.railOut r = false) ∧
    (∃ (s : State) (t : Nat) (r : Nat) (v : Int) (i : Nat), i < 1000) ∧
    (∃ (s : State) (t : Nat) (n : Nat) (q : Int), let a := s.advance t; a.up = true ∧ n < 5 ∧
      a.rd R.PWR_TEMP_LEVEL n = 1 ∧ 115 ≤ q ∧ q < 125) ∧
    (∃ (s : State) (t : Nat) (n : Nat) (q : Int), let a := s.advance t; a.up = true ∧ n < 5 ∧ 125 ≤ q ∧
      a.flag R.PWR_STAT_SHUT = false) ∧
    (∃ (s : State) (t : Nat) (n : Nat) (q : Int), let a := s.advance t; a.up = true ∧ 9 ≤ n) ∧
    (∃ (s : State) (t : Nat) (p : Nat), let a := s.advance t; a.up = true ∧ a.pwr.procAt + 10 ^ 9 ≤ a.mtb ∧ p < 96 ∧
      bit a.pwr.proc 0 = false) ∧
    (∃ (s : State) (t : Nat) (p : Nat), let a := s.advance t; a.up = true ∧ a.pwr.procAt + 10 ^ 9 ≤ a.mtb ∧ 96 ≤ p ∧
      p ≤ 176) ∧
    (∃ (s : State) (t : Nat) (n i : Nat), n < 4 ∧ s.core = true ∧ s.flag R.PWR_TAMPER_EN n = true ∧
      s.flag R.PWR_TAMPER_ACTIVE n = false ∧ s.rd R.PWR_TAMPER_FILT n ≤ i) ∧
    (∃ (s : State) (t : Nat) (n i : Nat), n < 4 ∧ s.core = false ∧ s.flag R.PWR_TAMPER_EN n = true ∧
      s.flag R.PWR_TAMPER_ACTIVE n = false ∧ s.rd R.PWR_TAMPER_FILT n ≤ i) ∧
    (∃ (s : State) (t : Nat) (n i : Nat) (o : Bool), 4 ≤ n ∨ s.flag R.PWR_TAMPER_EN n = false ∨ i <
      s.rd R.PWR_TAMPER_FILT n) ∧
    (∃ (s : State) (t : Nat), let a := s.advance t; a.core = true ∧ a.flag R.PWR_CLK_XTAL32_OK = true) ∧
    (∃ (s : State) (t : Nat), (s.phase = .noVin ∨ s.phase = .stopped) ∧ s.rtcValid = true) ∧
    (∃ (s : State) (t : Nat), let a := s.advance t; a.core = true ∧ a.flag R.PWR_CLK_XTAL32_OK = false) ∧
    (∃ (s : State) (t : Nat), let a := s.advance t; a.core = true ∧ a.flag R.PWR_STAT_MTB_HOLDOVER = false) ∧
    (∃ (s : State) (t : Nat), let a := s.advance t; a.core = true ∧ a.flag R.PWR_STAT_MTB_HOLDOVER = true ∧
      a.pwr.xtalAt + 10 ^ 9 ≤ a.mtb) ∧
    (∃ (s : State) (t : Nat), let a := s.advance t; a.core = true) ∧
    (∃ (s : State) (t : Nat), let a := s.advance t; a.up = true ∧ a.flag R.PWR_CLK_REFCLK_OK = false) ∧
    (∃ (s : State) (t : Nat), let a := s.advance t; a.up = true ∧ a.flag R.PWR_CLK_REFCLK_OK = true) ∧
    (∃ (s : State) (t : Nat) (n : Nat), let a := s.advance t; a.up = true ∧ a.wakeHolds n = true ∧
      a.rd R.PWR_STAT_MODE = 1) ∧
    (∃ (s : State) (t : Nat) (n : Nat), let a := s.advance t; a.up = true ∧ a.wakeHolds n = false) ∧
    (∃ (s : State) (x : Ctx), let b := s.advance x.t; let a := b.start x; b.takes x Op.PWR_QUERY 0 = true) ∧
    (∃ (s : State) (x : Ctx), let b := s.advance x.t; let a := b.start x; b.takes x Op.PWR_MODE 0 = true ∧
      a.rd R.PWR_STAT_MODE = 0 ∧ a.meterMay = true) ∧
    (∃ (s : State) (x : Ctx), let b := s.advance x.t; let a := b.start x; b.takes x Op.PWR_MODE 0 = true ∧
      a.rd R.PWR_STAT_MODE = 0 ∧ a.meterMay = false) ∧
    (∃ (s : State) (x : Ctx), let b := s.advance x.t; let a := b.start x; b.takes x Op.PWR_MODE 0 = true ∧
      a.rd R.PWR_STAT_MODE ≤ 1) ∧
    (∃ (s : State) (x : Ctx) (m : Nat), let b := s.advance x.t; let a := b.start x; b.takes x Op.PWR_MODE 0 = true ∧
      2 ≤ m) ∧
    (∃ (s : State) (x : Ctx), let b := s.advance x.t; let a := b.start x; b.takes x Op.PWR_IDENT 0 = true) :=
  ⟨⟨run, 5, 68001, 10, [], true, by decide⟩,
    ⟨timed, 5, 999, 10, [], true, by decide⟩,
    ⟨run, 5, 999, 10, [], true, 14, by decide⟩,
    ⟨run, 5, 999, 9, [], true, 13, false, by decide⟩,
    ⟨(run.wr R.PWR_RAIL_OV 2 1), 5, 48000, 1000, by decide⟩,
    ⟨run, 5, 2, 48000, 1000, by decide⟩,
    ⟨run, 5, 2, 48000, 999, by decide⟩,
    ⟨(run.wr R.PWR_TEMP_LEVEL 2 1), 5, 2, 115, by decide⟩,
    ⟨run, 5, 2, 125, by decide⟩,
    ⟨run, 5, 9, 125, by decide⟩,
    ⟨run, 1000000000, 95, by decide⟩,
    ⟨run, 1000000000, 176, by decide⟩,
    ⟨(run.wr R.PWR_TAMPER_EN 2 1), 5, 2, 15, by decide⟩,
    ⟨(State.reset.wr R.PWR_TAMPER_EN 2 1), 5, 2, 15, by decide⟩,
    ⟨State.reset, 5, 2, 1, true, by decide⟩,
    ⟨(run.wr R.PWR_CLK_XTAL32_OK 0 1), 5, by decide⟩,
    ⟨({ timed with phase := .stopped }), 5, by decide⟩,
    ⟨(run.wr R.PWR_CLK_XTAL32_OK 0 0), 5, by decide⟩,
    ⟨run, 5, by decide⟩,
    ⟨(run.wr R.PWR_STAT_MTB_HOLDOVER 0 1), 1000000000, by decide⟩,
    ⟨run, 5, by decide⟩,
    ⟨(run.wr R.PWR_CLK_REFCLK_OK 0 0), 5, by decide⟩,
    ⟨(run.wr R.PWR_CLK_REFCLK_OK 0 1), 5, by decide⟩,
    ⟨((run.wr R.PWR_STAT_MODE 0 1).wr R.PWR_TEMP_LEVEL 2 1), 5, 4, by decide⟩,
    ⟨run, 5, 4, by decide⟩,
    ⟨(fetched Op.PWR_QUERY cx run), cx, by decide⟩,
    ⟨(fetched Op.PWR_MODE cx run), cx, by decide⟩,
    ⟨(fetched Op.PWR_MODE cx ({ run with out := (outAt 3 fun o => { o with st := .connected }).out })), cx, by decide⟩,
    ⟨(fetched Op.PWR_MODE cx (run.wr R.PWR_STAT_MODE 0 1)), cx, by decide⟩,
    ⟨(fetched Op.PWR_MODE cx run), cx, 2, by decide⟩,
    ⟨(fetched Op.PWR_IDENT cx run), cx, by decide⟩⟩

end Sys2Proof.Tests
end

section
/-! SUPPORT and PROOFS. The scope statements: the values after manufacture, the standing invariant along every step, and
that every command answers a next state and leaves the queue alone. -/

/-! ### The state after manufacture -/

namespace Sys2Proof.Machine.State

/-- After manufacture every register field holds its reset value, at every instance. -/
theorem reset_rd (F : Fld) (n : Nat) : State.reset.rd F n = F.reset n := rfl

theorem reset_rd_of_const {F : Fld} {v : Nat} (h : F.rst = .const v) (n : Nat) : State.reset.rd F n = v := by
  rw [reset_rd, Fld.reset, h]

/-- A list of fields and values that agrees with the reset column of the register map says what the fields hold. -/
theorem reset_rd_of_all_const {l : List (Fld × Nat)} (h : (l.all fun p => p.1.rst == .const p.2) = true) :
    ∀ p ∈ l, ∀ n, State.reset.rd p.1 n = p.2 :=
  fun p hp => reset_rd_of_const (eq_of_beq (List.all_eq_true.1 h p hp))

theorem reset_inv : State.reset.Inv := ⟨by decide, rfl⟩

end Sys2Proof.Machine.State

namespace Sys2Proof.Machine

/-- Settles O3: the journal and the queue are empty at `State.reset`, and `State.reset_inv` gives the invariant. -/
theorem resetMeetsTheInvariant : Obligations.ResetMeetsTheInvariant := ⟨State.reset_inv, rfl, rfl⟩

/-- Settles O16: in each list every field's reset column is the constant beside it, which is decided list by list. -/
theorem resetValues : Obligations.ResetValues := by
  unfold Obligations.ResetValues
  refine ⟨?_, ?_, ?_, ?_, ?_, ?_, ?_, ?_, ?_, ?_, ?_, ?_, ?_, ?_⟩ <;>
    exact State.reset_rd_of_all_const (by decide)

/-! ### The standing invariant -/

/-- Every command keeps the queue and the standing invariant, by the law of its own meaning. -/
theorem exec_kept {q : List Instr} {s : State} (c : Instr) (h : State.Kept q s) : OutKept q (exec c s) :=
  match c with
  | .islandCrossing .. => execIslandCrossing_kept h
  | .linkTimeout .. => execLinkTimeout_kept h
  | .rtcSecondEdge .. => execRtcSecondEdge_kept h
  | .controlCycleStart .. => execControlCycleStart_kept h
  | .outputStagingDeadline .. => execOutputStagingDeadline_kept h
  | .aCheckDeadline .. => execACheckDeadline_kept h
  | .configRequest .. => execConfigRequest_kept h
  | .perstRelease .. => execPerstRelease_kept h
  | .hostDetach .. => execHostDetach_kept h
  | .hostAttach .. => execHostAttach_kept h
  | .ringRegisterWrite .. => execRingRegisterWrite_kept h
  | .doorbellPoll .. => execDoorbellPoll_kept h
  | .kick .. => execKick_kept h
  | .stopCompletionRelease .. => execStopCompletionRelease_kept h
  | .evrGap .. => execEvrGap_kept h
  | .notifDataRead .. => execNotifDataRead_kept h
  | .latchingRead .. => execLatchingRead_kept h
  | .streamBufferFill .. => execStreamBufferFill_kept h
  | .ringCreate .. => execRingCreate_kept h
  | .ringDestroy .. => execRingDestroy_kept h
  | .journalFetch .. => execJournalFetch_kept h
  | .statusQuery .. => execStatusQuery_kept h
  | .regWrite .. => execRegWrite_kept h
  | .echo .. => execEcho_kept h
  | .startUp .. => execStartUp_kept h
  | .caskOpen .. => execCaskOpen_kept h
  | .caskAction .. => execCaskAction_kept h
  | .caskPrepare .. => execCaskPrepare_kept h
  | .caskValidationDone .. => execCaskValidationDone_kept h
  | .caskCommit .. => execCaskCommit_kept h
  | .caskAbort .. => execCaskAbort_kept h
  | .caskQuery .. => execCaskQuery_kept h
  | .funcDisable .. => execFuncDisable_kept h
  | .funcDisableDone .. => execFuncDisableDone_kept h
  | .caskOpenTimeout .. => execCaskOpenTimeout_kept h
  | .caskPreparedTimeout .. => execCaskPreparedTimeout_kept h
  | .caskRecordWrite .. => execCaskRecordWrite_kept h
  | .caskSyncEdge .. => execCaskSyncEdge_kept h
  | .caskSyncTimeout .. => execCaskSyncTimeout_kept h
  | .caskRetract .. => execCaskRetract_kept h
  | .caskApply .. => execCaskApply_kept h
  | .pilotStateAccept .. => execPilotStateAccept_kept h
  | .pilotDiodeFault .. => execPilotDiodeFault_kept h
  | .pilotPwmPeriod .. => execPilotPwmPeriod_kept h
  | .proximityRead .. => execProximityRead_kept h
  | .authTimeout .. => execAuthTimeout_kept h
  | .hlcMessage .. => execHlcMessage_kept h
  | .hlcTimeout .. => execHlcTimeout_kept h
  | .slacParmReq .. => execSlacParmReq_kept h
  | .startAttenChar .. => execStartAttenChar_kept h
  | .mnbcSound .. => execMnbcSound_kept h
  | .slacWindowClose .. => execSlacWindowClose_kept h
  | .slacValidate .. => execSlacValidate_kept h
  | .slacMatchReq .. => execSlacMatchReq_kept h
  | .slacMatchTimeout .. => execSlacMatchTimeout_kept h
  | .slacInitTimeout .. => execSlacInitTimeout_kept h
  | .preauthTimeout .. => execPreauthTimeout_kept h
  | .pmStatusFrame .. => execPmStatusFrame_kept h
  | .pmIdentFrame .. => execPmIdentFrame_kept h
  | .pmFaultFrame .. => execPmFaultFrame_kept h
  | .pmLost .. => execPmLost_kept h
  | .setpointSend .. => execSetpointSend_kept h
  | .pmSyncSend .. => execPmSyncSend_kept h
  | .allocatorRun .. => execAllocatorRun_kept h
  | .trellisLimitExpiry .. => execTrellisLimitExpiry_kept h
  | .enforcementGraceEnd .. => execEnforcementGraceEnd_kept h
  | .allocMaxWait .. => execAllocMaxWait_kept h
  | .outConfig .. => execOutConfig_kept h
  | .outAvailability .. => execOutAvailability_kept h
  | .sessionAuthorise .. => execSessionAuthorise_kept h
  | .sessionStop .. => execSessionStop_kept h
  | .outErem .. => execOutErem_kept h
  | .outSiteLimit .. => execOutSiteLimit_kept h
  | .sessionSetClass .. => execSessionSetClass_kept h
  | .sessionQuery .. => execSessionQuery_kept h
  | .outSelect .. => execOutSelect_kept h
  | .outContactor .. => execOutContactor_kept h
  | .outPilotDuty .. => execOutPilotDuty_kept h
  | .outPmSetpoint .. => execOutPmSetpoint_kept h
  | .outCertResponse .. => execOutCertResponse_kept h
  | .hslCycle .. => execHslCycle_kept h
  | .hslTableCheck .. => execHslTableCheck_kept h
  | .hslWatchdogExpiry .. => execHslWatchdogExpiry_kept h
  | .bHeartbeat .. => execBHeartbeat_kept h
  | .bHeartbeatLoss .. => execBHeartbeatLoss_kept h
  | .channelDiscrepancy .. => execChannelDiscrepancy_kept h
  | .safetySelftestDone .. => execSafetySelftestDone_kept h
  | .coilPullinStart .. => execCoilPullinStart_kept h
  | .coilPullinEnd .. => execCoilPullinEnd_kept h
  | .coilOpen .. => execCoilOpen_kept h
  | .coilShort .. => execCoilShort_kept h
  | .weldCheck .. => execWeldCheck_kept h
  | .shuntTripEnd .. => execShuntTripEnd_kept h
  | .shuntTripRepeat .. => execShuntTripRepeat_kept h
  | .darkTestPulse .. => execDarkTestPulse_kept h
  | .darkTestEnd .. => execDarkTestEnd_kept h
  | .coilUncontrol .. => execCoilUncontrol_kept h
  | .estopSourcePulse .. => execEstopSourcePulse_kept h
  | .estopOpen .. => execEstopOpen_kept h
  | .estopDisc .. => execEstopDisc_kept h
  | .safeInChange .. => execSafeInChange_kept h
  | .rcmReading .. => execRcmReading_kept h
  | .rcmSelftestRun .. => execRcmSelftestRun_kept h
  | .rcmSensorRange .. => execRcmSensorRange_kept h
  | .rcmPrewarn .. => execRcmPrewarn_kept h
  | .imdResult .. => execImdResult_kept h
  | .cableCheckTimeout .. => execCableCheckTimeout_kept h
  | .safeStatePilotEnd .. => execSafeStatePilotEnd_kept h
  | .resetSafeEdge .. => execResetSafeEdge_kept h
  | .safeQuery .. => execSafeQuery_kept h
  | .safeTestNow .. => execSafeTestNow_kept h
  | .rcmSelftest .. => execRcmSelftest_kept h
  | .imdMeasure .. => execImdMeasure_kept h
  | .chOverload .. => execChOverload_kept h
  | .mbsLost .. => execMbsLost_kept h
  | .mbsRestored .. => execMbsRestored_kept h
  | .auxSeqDue .. => execAuxSeqDue_kept h
  | .auxConversionDone .. => execAuxConversionDone_kept h
  | .afeSeqLoad .. => execAfeSeqLoad_kept h
  | .afeSeqEn .. => execAfeSeqEn_kept h
  | .afeAuxOneshot .. => execAfeAuxOneshot_kept h
  | .afeCalZero .. => execAfeCalZero_kept h
  | .afeCalSpan .. => execAfeCalSpan_kept h
  | .afeCalRestore .. => execAfeCalRestore_kept h
  | .afeCapture .. => execAfeCapture_kept h
  | .afeCaptureStop .. => execAfeCaptureStop_kept h
  | .trkPeriod .. => execTrkPeriod_kept h
  | .trkCrossingTimeout .. => execTrkCrossingTimeout_kept h
  | .trkHoldExpiry .. => execTrkHoldExpiry_kept h
  | .trkSourceAbsent .. => execTrkSourceAbsent_kept h
  | .gridCycleStart .. => execGridCycleStart_kept h
  | .settlingEnd .. => execSettlingEnd_kept h
  | .blendStart .. => execBlendStart_kept h
  | .blendDone .. => execBlendDone_kept h
  | .filtQuery .. => execFiltQuery_kept h
  | .filtBlend .. => execFiltBlend_kept h
  | .trkQuery .. => execTrkQuery_kept h
  | .filtRestart .. => execFiltRestart_kept h
  | .metWindowEnd .. => execMetWindowEnd_kept h
  | .demandSecondRecord .. => execDemandSecondRecord_kept h
  | .pqHalfCycle .. => execPqHalfCycle_kept h
  | .pulseStart .. => execPulseStart_kept h
  | .pulseEnd .. => execPulseEnd_kept h
  | .tcRead .. => execTcRead_kept h
  | .metSessionCloseFinal .. => execMetSessionCloseFinal_kept h
  | .metCalMeasureDone .. => execMetCalMeasureDone_kept h
  | .metQuery .. => execMetQuery_kept h
  | .metSessionOpen .. => execMetSessionOpen_kept h
  | .metSessionClose .. => execMetSessionClose_kept h
  | .metCalMeasure .. => execMetCalMeasure_kept h
  | .metCalApply .. => execMetCalApply_kept h
  | .metPulseCfg .. => execMetPulseCfg_kept h
  | .metHarmRead .. => execMetHarmRead_kept h
  | .metWaveCapture .. => execMetWaveCapture_kept h
  | .metWaveStop .. => execMetWaveStop_kept h
  | .ledgerCommit .. => execLedgerCommit_kept h
  | .recordSign .. => execRecordSign_kept h
  | .vfail .. => execVfail_kept h
  | .vinReturn .. => execVinReturn_kept h
  | .converterRailFall .. => execConverterRailFall_kept h
  | .tariffSwitch .. => execTariffSwitch_kept h
  | .calendarActivate .. => execCalendarActivate_kept h
  | .demandBoundary .. => execDemandBoundary_kept h
  | .boundaryTransaction .. => execBoundaryTransaction_kept h
  | .syncWindowExpiry .. => execSyncWindowExpiry_kept h
  | .sealIdle .. => execSealIdle_kept h
  | .legalSealChange .. => execLegalSealChange_kept h
  | .calExpiry .. => execCalExpiry_kept h
  | .legalBtnPress .. => execLegalBtnPress_kept h
  | .legalDisplayTimeout .. => execLegalDisplayTimeout_kept h
  | .ledgerQuery .. => execLedgerQuery_kept h
  | .ledgerSessionRecord .. => execLedgerSessionRecord_kept h
  | .ledgerTariffSelect .. => execLedgerTariffSelect_kept h
  | .ledgerReadSigned .. => execLedgerReadSigned_kept h
  | .ledgerRecordFetch .. => execLedgerRecordFetch_kept h
  | .ledgerTimeSet .. => execLedgerTimeSet_kept h
  | .ledgerCalendarLoad .. => execLedgerCalendarLoad_kept h
  | .ledgerBillingClose .. => execLedgerBillingClose_kept h
  | .ledgerBillingRead .. => execLedgerBillingRead_kept h
  | .ledgerCalChallenge .. => execLedgerCalChallenge_kept h
  | .ledgerCalOpen .. => execLedgerCalOpen_kept h
  | .ledgerCalClose .. => execLedgerCalClose_kept h
  | .ledgerLegalId .. => execLedgerLegalId_kept h
  | .ledgerAckLoss .. => execLedgerAckLoss_kept h
  | .plcFrameRx .. => execPlcFrameRx_kept h
  | .superframeStart .. => execSuperframeStart_kept h
  | .beaconRx .. => execBeaconRx_kept h
  | .syncInEdge .. => execSyncInEdge_kept h
  | .trellisTx .. => execTrellisTx_kept h
  | .ack .. => execAck_kept h
  | .trellisAckTimeout .. => execTrellisAckTimeout_kept h
  | .joinReq .. => execJoinReq_kept h
  | .joinResult .. => execJoinResult_kept h
  | .lqReport .. => execLqReport_kept h
  | .siteLimit .. => execSiteLimit_kept h
  | .time .. => execTime_kept h
  | .hostData .. => execHostData_kept h
  | .imageOffer .. => execImageOffer_kept h
  | .imageReq .. => execImageReq_kept h
  | .imageBlock .. => execImageBlock_kept h
  | .imageBlockExpiry .. => execImageBlockExpiry_kept h
  | .trellisBeaconTimeout .. => execTrellisBeaconTimeout_kept h
  | .trellisJoinTimeout .. => execTrellisJoinTimeout_kept h
  | .trellisJoinBackoffEnd .. => execTrellisJoinBackoffEnd_kept h
  | .trellisNodeTimeout .. => execTrellisNodeTimeout_kept h
  | .lqReportSend .. => execLqReportSend_kept h
  | .siteLimitRepeat .. => execSiteLimitRepeat_kept h
  | .timeSend .. => execTimeSend_kept h
  | .imageOfferSend .. => execImageOfferSend_kept h
  | .trellisEnable .. => execTrellisEnable_kept h
  | .plcQuery .. => execPlcQuery_kept h
  | .trellisSend .. => execTrellisSend_kept h
  | .trellisLimitSend .. => execTrellisLimitSend_kept h
  | .trellisLqRead .. => execTrellisLqRead_kept h
  | .trellisRestart .. => execTrellisRestart_kept h
  | .pufRetry .. => execPufRetry_kept h
  | .riddle .. => execRiddle_kept h
  | .drbgReseed .. => execDrbgReseed_kept h
  | .entropyFail .. => execEntropyFail_kept h
  | .entropyRetest .. => execEntropyRetest_kept h
  | .keySelftestDone .. => execKeySelftestDone_kept h
  | .credVerifyDone .. => execCredVerifyDone_kept h
  | .flashBlockFail .. => execFlashBlockFail_kept h
  | .keyQuery .. => execKeyQuery_kept h
  | .keyNodeQuery .. => execKeyNodeQuery_kept h
  | .keyInvalidate .. => execKeyInvalidate_kept h
  | .keyRederive .. => execKeyRederive_kept h
  | .keyInstall .. => execKeyInstall_kept h
  | .keyOwnerSet .. => execKeyOwnerSet_kept h
  | .keyAnchorInstall .. => execKeyAnchorInstall_kept h
  | .keyCsr .. => execKeyCsr_kept h
  | .keyCertInstall .. => execKeyCertInstall_kept h
  | .keyAttest .. => execKeyAttest_kept h
  | .keyAttestCert .. => execKeyAttestCert_kept h
  | .keySelftest .. => execKeySelftest_kept h
  | .credLoadBegin .. => execCredLoadBegin_kept h
  | .credLoadData .. => execCredLoadData_kept h
  | .credLoadCommit .. => execCredLoadCommit_kept h
  | .credLoadAbort .. => execCredLoadAbort_kept h
  | .credUpdate .. => execCredUpdate_kept h
  | .credLookup .. => execCredLookup_kept h
  | .rdr0Poll .. => execRdr0Poll_kept h
  | .cableRead .. => execCableRead_kept h
  | .cableWrite .. => execCableWrite_kept h
  | .ownTagFieldOn .. => execOwnTagFieldOn_kept h
  | .ownTagFieldLost .. => execOwnTagFieldLost_kept h
  | .ownTagFieldRead .. => execOwnTagFieldRead_kept h
  | .ownTagFieldWrite .. => execOwnTagFieldWrite_kept h
  | .presentPwd .. => execPresentPwd_kept h
  | .ownTagMam1 .. => execOwnTagMam1_kept h
  | .tagQuery .. => execTagQuery_kept h
  | .tagCableRead .. => execTagCableRead_kept h
  | .tagCableInit .. => execTagCableInit_kept h
  | .tagCableRetire .. => execTagCableRetire_kept h
  | .tagOwnRead .. => execTagOwnRead_kept h
  | .tagOwnWrite .. => execTagOwnWrite_kept h
  | .dispTempStale .. => execDispTempStale_kept h
  | .dispFrameStart .. => execDispFrameStart_kept h
  | .dispRegionDone .. => execDispRegionDone_kept h
  | .epdPwrGoodRise .. => execEpdPwrGoodRise_kept h
  | .dispPwrTimeout .. => execDispPwrTimeout_kept h
  | .epdPwrGoodLoss .. => execEpdPwrGoodLoss_kept h
  | .dispPwrOff .. => execDispPwrOff_kept h
  | .vintageSave .. => execVintageSave_kept h
  | .segSense .. => execSegSense_kept h
  | .segFrame .. => execSegFrame_kept h
  | .legalSilent .. => execLegalSilent_kept h
  | .dispQuery .. => execDispQuery_kept h
  | .dispImageLoad .. => execDispImageLoad_kept h
  | .dispUpdate .. => execDispUpdate_kept h
  | .dispTempSet .. => execDispTempSet_kept h
  | .dispVintageRead .. => execDispVintageRead_kept h
  | .dispVintageReset .. => execDispVintageReset_kept h
  | .lswTrip .. => execLswTrip_kept h
  | .inrushEnd .. => execInrushEnd_kept h
  | .lswRetry .. => execLswRetry_kept h
  | .lswCoolRestart .. => execLswCoolRestart_kept h
  | .retriesReload .. => execRetriesReload_kept h
  | .quadHot .. => execQuadHot_kept h
  | .quadCool .. => execQuadCool_kept h
  | .quadRestartStep .. => execQuadRestartStep_kept h
  | .lswPwmPeriod .. => execLswPwmPeriod_kept h
  | .lswOpenOn .. => execLswOpenOn_kept h
  | .lswOpenOff .. => execLswOpenOff_kept h
  | .lswBudgetWindow .. => execLswBudgetWindow_kept h
  | .vlsUndervoltage .. => execVlsUndervoltage_kept h
  | .vlsRestored .. => execVlsRestored_kept h
  | .lswSet .. => execLswSet_kept h
  | .lswClear .. => execLswClear_kept h
  | .lswQuery .. => execLswQuery_kept h
  | .lswConfig .. => execLswConfig_kept h
  | .lswBankPwm .. => execLswBankPwm_kept h
  | .updBegin .. => execUpdBegin_kept h
  | .updBlock .. => execUpdBlock_kept h
  | .updStatus .. => execUpdStatus_kept h
  | .updActivate .. => execUpdActivate_kept h
  | .updConfirm .. => execUpdConfirm_kept h
  | .updRevert .. => execUpdRevert_kept h
  | .updAbort .. => execUpdAbort_kept h
  | .updPolicy .. => execUpdPolicy_kept h
  | .updVerifyDone .. => execUpdVerifyDone_kept h
  | .updLockIdle .. => execUpdLockIdle_kept h
  | .updActivationFlip .. => execUpdActivationFlip_kept h
  | .updActivateTimeout .. => execUpdActivateTimeout_kept h
  | .trialTimeSave .. => execTrialTimeSave_kept h
  | .updAutoConfirm .. => execUpdAutoConfirm_kept h
  | .trialTimeout .. => execTrialTimeout_kept h
  | .svcBegin .. => execSvcBegin_kept h
  | .svcBlock .. => execSvcBlock_kept h
  | .svcActivate .. => execSvcActivate_kept h
  | .svcStatus .. => execSvcStatus_kept h
  | .svcAbort .. => execSvcAbort_kept h
  | .svcConfirm .. => execSvcConfirm_kept h
  | .svcRevert .. => execSvcRevert_kept h
  | .svcBadFrame .. => execSvcBadFrame_kept h
  | .twinLinkUp .. => execTwinLinkUp_kept h
  | .twinLinkDown .. => execTwinLinkDown_kept h
  | .twinPairTimeout .. => execTwinPairTimeout_kept h
  | .twinCopyFreeze .. => execTwinCopyFreeze_kept h
  | .twinCopyRx .. => execTwinCopyRx_kept h
  | .twinCopyDeadline .. => execTwinCopyDeadline_kept h
  | .twinGiveup .. => execTwinGiveup_kept h
  | .twinActInFall .. => execTwinActInFall_kept h
  | .twinActInRise .. => execTwinActInRise_kept h
  | .twinActConflict .. => execTwinActConflict_kept h
  | .twinTakeoverDone .. => execTwinTakeoverDone_kept h
  | .twinQuery .. => execTwinQuery_kept h
  | .twinSwitch .. => execTwinSwitch_kept h
  | .twinRejoin .. => execTwinRejoin_kept h
  | .vinValid t .. => execVinValid_kept (t := t) h
  | .earlyVinLoss t .. => execEarlyVinLoss_kept (_t := t) h
  | .railOutOfLimits .. => execRailOutOfLimits_kept h
  | .railRestored .. => execRailRestored_kept h
  | .tempLevelChange .. => execTempLevelChange_kept h
  | .procMonSample .. => execProcMonSample_kept h
  | .tamperInput .. => execTamperInput_kept h
  | .xtal32Fail .. => execXtal32Fail_kept h
  | .xtal49Fail .. => execXtal49Fail_kept h
  | .xtal49Return .. => execXtal49Return_kept h
  | .xtal25Fail .. => execXtal25Fail_kept h
  | .meterWake .. => execMeterWake_kept h
  | .pwrQuery .. => execPwrQuery_kept h
  | .pwrMode .. => execPwrMode_kept h
  | .pwrIdent .. => execPwrIdent_kept h
  | .setupLock .. => execSetupLock_kept h
  | .settingsSaved .. => execSettingsSaved_kept h
  | .alertWrite .. => execAlertWrite_kept h
  | .registerWrite .. => execRegisterWrite_kept h
  | .xtal32Return .. => execXtal32Return_kept h
  | .refclkReturn .. => execRefclkReturn_kept h
  | .resetToReady .. => execResetToReady_kept h
  | .twinForwardedStop .. => execTwinForwardedStop_kept h

/-- An edge of XTAL49 on an empty queue keeps the standing invariant. -/
theorem State.idle_inv {s : State} (h : s.Inv) : s.idle.Inv := by
  unfold State.idle
  split
  · exact (State.edges_kept ⟨rfl, h⟩).2
  · exact h

theorem step_inv {s u : State} (h : s.Inv) (e : step s = .next u) : u.Inv := by
  unfold step at e
  split at e
  · cases e
    exact State.idle_inv h
  · rename_i c rest _
    have hu : OutKept rest (exec c { s with pending := rest }) := exec_kept c ⟨rfl, h⟩
    rw [e] at hu
    exact hu.2

/-- Settles O1: a step is an edge of XTAL49 or the command at the front, and both keep the invariant. -/
theorem invariantKept : Obligations.InvariantKept := fun _ _ h e => step_inv h e

/-! ### The queue

`Kept` speaks of states that meet the standing invariant. That no command touches the queue holds in every state, so
it is said here of the queue alone, for each operation once: the proof of an operation names the laws of the
operations it is made of, in the order in which its definition applies them. -/

/-- The commands that wait are those of `q`. -/
def State.Queued (q : List Instr) (s : State) : Prop := s.pending = q

/-- If there is a next state, the commands that wait in it are those of `q`. -/
def State.OptQueued (q : List Instr) (o : Option State) : Prop := ∀ t, o = some t → State.Queued q t

/-- The outcome is a next state, in which the commands that wait are those of `q`. -/
def OutQueued (q : List Instr) (o : Host.Outcome State Fault Refusal) : Prop := ∃ u, o = .next u ∧ u.pending = q

namespace State

variable {q : List Instr} {s : State}

section
variable {a b : State} {α β : Type} {c : Prop} {inst : Decidable c}

theorem queued_next (h : Queued q s) : OutQueued q (.next s) := ⟨s, rfl, h⟩

theorem queued_fst {e : State × α} {x : α} (he : e = (b, x)) (h : Queued q e.1) : Queued q b := by
  rw [he] at h; exact h

theorem queued_snd {e : α × State} {x : α} (he : e = (x, b)) (h : Queued q e.2) : Queued q b := by
  rw [he] at h; exact h

theorem queued_ite (ha : Queued q a) (hb : Queued q b) : Queued q (if c then a else b) := by
  split
  · exact ha
  · exact hb

theorem queued_ite_fst {a b : State × α} (ha : Queued q a.1) (hb : Queued q b.1) : Queued q (if c then a else b).1 := by
  split
  · exact ha
  · exact hb

theorem queued_ite_snd {a b : α × State} (ha : Queued q a.2) (hb : Queued q b.2) : Queued q (if c then a else b).2 := by
  split
  · exact ha
  · exact hb

theorem queued_ite_thd {a b : α × β × State} (ha : Queued q a.2.2) (hb : Queued q b.2.2) :
    Queued q (if c then a else b).2.2 := by
  split
  · exact ha
  · exact hb

theorem optQueued_none : OptQueued q none := fun _ e => nomatch e

theorem optQueued_some (h : Queued q s) : OptQueued q (some s) := fun _ e => Option.some.inj e ▸ h

theorem optQueued_ite {a b : Option State} (ha : OptQueued q a) (hb : OptQueued q b) :
    OptQueued q (if c then a else b) := by
  split
  · exact ha
  · exact hb

/-- An update of any part but the queue. -/
theorem queued_upd {r : Tab Nat} {m n k : Nat} {ph : Phase} {st : Tab Nat} {h : HostSt} {ar : ArchSt} {c : CaskSt}
    {o : OutSt} {sf : SafeSt} {af : AfeSt} {fi : FiltSt} {me : MetSt} {l : LedgerSt} {ke : KeySt} {pl : PlcSt}
    {tg : TagSt} {d : DispSt} {lw : LswSt} {u : UpdSt} {tw : TwinSt} {pw : PwrSt} (hs : Queued q s) :
    Queued q ⟨s.pending, r, m, n, k, ph, st, h, ar, c, o, sf, af, fi, me, l, ke, pl, tg, d, lw, u, tw, pw⟩ := hs

theorem queued_foldl {f : State → α → State} (hf : ∀ {s x}, Queued q s → Queued q (f s x)) {xs : List α} {s : State}
    (h : Queued q s) : Queued q (xs.foldl f s) := by
  induction xs generalizing s with
  | nil => exact h
  | cons x xs ih => exact ih (hf h)

theorem queued_foldl_snd {f : β × State → α → β × State} (hf : ∀ {p x}, Queued q p.2 → Queued q (f p x).2)
    {xs : List α} {p : β × State} (h : Queued q p.2) : Queued q (xs.foldl f p).2 := by
  induction xs generalizing p with
  | nil => exact h
  | cons x xs ih => exact ih (hf h)

theorem queued_forEach {f : α → State → State} (hf : ∀ {x s}, Queued q s → Queued q (f x s)) {xs : List α}
    {s : State} (h : Queued q s) : Queued q (forEach xs f s) := queued_foldl hf h

theorem queued_forEach_snd {f : α → β × State → β × State} (hf : ∀ {x p}, Queued q p.2 → Queued q (f x p).2)
    {xs : List α} {p : β × State} (h : Queued q p.2) : Queued q (forEach xs f p).2 := queued_foldl_snd hf h

end

/-! ### The shared operations (Sys2Proof/Machine/Ops.lean) -/

theorem wr_queued {F : Fld} {n v : Nat} (h : Queued q s) : Queued q (s.wr F n v) := queued_upd h

theorem toReset_queued {F : Fld} {n : Nat} (h : Queued q s) : Queued q (s.toReset F n) := queued_upd h

theorem setFlag_queued {F : Fld} {n : Nat} {b : Bool} (h : Queued q s) : Queued q (s.setFlag F n b) := wr_queued h

theorem addSat_queued {F : Fld} {n k : Nat} (h : Queued q s) : Queued q (s.addSat F n k) := wr_queued h

theorem incSat_queued {F : Fld} {n : Nat} (h : Queued q s) : Queued q (s.incSat F n) := addSat_queued h

theorem wrInt_queued {F : Fld} {n : Nat} {z : Int} (h : Queued q s) : Queued q (s.wrInt F n z) := wr_queued h

theorem takeFree_queued (h : Queued q s) : Queued q s.takeFree.2 := queued_upd h

theorem edges_queued {k : Nat} (h : Queued q s) : Queued q (s.edges k) := queued_upd h

theorem advance_queued {t : Nat} (h : Queued q s) : Queued q (s.advance t) := queued_ite (edges_queued h) h

theorem irq_queued {v : Nat} (h : Queued q s) : Queued q (s.irq v) := queued_ite (queued_upd h) h

theorem alert_queued {F : Fld} (h : Queued q s) : Queued q (s.alert F) :=
  queued_ite (irq_queued (wr_queued h)) (wr_queued h)

theorem notifSwap_queued (h : Queued q s) : Queued q s.notifSwap := queued_ite (queued_upd h) h

theorem notifPut_queued {w : Notif} (h : Queued q s) : Queued q (s.notifPut w) :=
  queued_ite (queued_upd h) (queued_ite (alert_queued (incSat_queued (queued_upd h))) (queued_upd h))

theorem notifIrq_queued (h : Queued q s) : Queued q s.notifIrq := queued_ite h (irq_queued h)

theorem notify_queued {w : Notif} (h : Queued q s) : Queued q (s.notify w) :=
  irq_queued (notifPut_queued (notifSwap_queued h))

theorem coalesce_queued {c vector cnt us : Nat} {now : Bool} (h : Queued q s) :
    Queued q (s.coalesce c vector cnt us now) :=
  queued_ite (irq_queued (queued_upd h)) (queued_upd h)

theorem issueSeq_queued (h : Queued q s) : Queued q s.issueSeq.2 := wr_queued (queued_upd h)

theorem journal_queued {e : Event} (h : Queued q s) : Queued q (s.journal e) :=
  queued_ite (alert_queued (incSat_queued (wr_queued (queued_upd h)))) (wr_queued (queued_upd h))

theorem journalGot_queued (h : Queued q s) : Queued q s.journalGot := by
  unfold journalGot
  split
  · exact queued_upd h
  · exact h

theorem putEvent_queued {j : Nat} {e : Event} (h : Queued q s) : Queued q (s.putEvent j e) :=
  coalesce_queued (notify_queued (journalGot_queued (queued_upd h)))

theorem deliver_queued {e : Event} (h : Queued q s) : Queued q (s.deliver e) := by
  unfold deliver
  refine queued_ite h ?_
  split
  · exact h
  · exact queued_ite (putEvent_queued h) (queued_upd h)

theorem raise_queued {code inst : Nat} {payload : List Nat} (h : Queued q s) : Queued q (s.raise code inst payload) :=
  deliver_queued (journal_queued (issueSeq_queued h))

theorem creditBack_queued {c : Option Nat} (h : Queued q s) : Queued q (s.creditBack c) := by
  unfold creditBack
  split
  · exact h
  · exact queued_ite (queued_upd h) (queued_upd h)

theorem setHist_queued {ring seq status dseq : Nat} (h : Queued q s) : Queued q (s.setHist ring seq status dseq) :=
  queued_upd h

theorem syncCompleted_queued {ring : Nat} (h : Queued q s) : Queued q (s.syncCompleted ring) := wr_queued h

theorem putCompletion_queued {c : Completion} {now : Bool} (h : Queued q s) : Queued q (s.putCompletion c now) :=
  coalesce_queued (notify_queued (queued_upd h))

theorem holdCompletion_queued {c : Completion} (h : Queued q s) : Queued q (s.holdCompletion c) := journal_queued h

theorem writeCompletion_queued {c : Completion} {now : Bool} (h : Queued q s) : Queued q (s.writeCompletion c now) :=
  queued_ite (holdCompletion_queued h) (queued_ite (queued_ite (putCompletion_queued h) (queued_upd h)) (queued_ite
    (putCompletion_queued h) (queued_upd h)))

theorem settleInfl_queued {ring seq : Nat} {accepted : Bool} (h : Queued q s) :
    Queued q (s.settleInfl ring seq accepted) :=
  queued_upd h

theorem complete_queued {x : Ctx} {status result : Nat} (h : Queued q s) : Queued q (s.complete x status result) :=
  writeCompletion_queued (syncCompleted_queued (setHist_queued (creditBack_queued (settleInfl_queued (issueSeq_queued
    h)))))

theorem finalise_queued {x : Ctx} {status : Nat} (h : Queued q s) : Queued q (s.finalise x status) :=
  setHist_queued (settleInfl_queued h)

theorem finaliseOpt_queued {x : Option Ctx} {status : Nat} (h : Queued q s) : Queued q (s.finaliseOpt x status) := by
  unfold finaliseOpt
  split
  · exact finalise_queued h
  · exact h

theorem save_queued {F : Fld} {n : Nat} (h : Queued q s) : Queued q (s.save F n) := queued_ite (queued_upd h) h

theorem wrSave_queued {F : Fld} {n v : Nat} (h : Queued q s) : Queued q (s.wrSave F n v) := save_queued (wr_queued h)

theorem giveBuffer_queued {data : List Nat} (h : Queued q s) : Queued q (s.giveBuffer data) :=
  queued_ite (queued_upd h) h

theorem setSlot_queued {k : Nat} {c : CaskSlot} (h : Queued q s) : Queued q (s.setSlot k c) := queued_upd h

theorem modSlot_queued {k : Nat} {f : CaskSlot → CaskSlot} (h : Queued q s) : Queued q (s.modSlot k f) :=
  setSlot_queued h

theorem onEvent_queued {t : Nat} {f : State → State} (h : Queued q s) (hf : ∀ {s}, Queued q s → Queued q (f s)) :
    Queued q (onEvent s t f) :=
  queued_ite (hf (advance_queued h)) (advance_queued h)

theorem onCore_queued {t : Nat} {f : State → State} (h : Queued q s) (hf : ∀ {s}, Queued q s → Queued q (f s)) :
    Queued q (onCore s t f) :=
  queued_ite (hf (advance_queued h)) (advance_queued h)

/-! ### The key store (Sys2Proof/Machine/KeyOps.lean) -/

theorem modNode_queued {p : List (List Byte)} {f : KNode → KNode} (h : Queued q s) : Queued q (s.modNode p f) :=
  queued_upd h

theorem setKeyMode_queued {m cause : Nat} (h : Queued q s) : Queued q (s.setKeyMode m cause) :=
  queued_ite h (raise_queued (wr_queued h))

theorem reseed_queued (h : Queued q s) : Queued q s.reseed := incSat_queued (queued_upd h)

theorem drbgNext_queued {bits : Nat} (h : Queued q s) : Queued q (s.drbgNext bits).2 :=
  queued_ite (reseed_queued (queued_upd h)) (queued_upd h)

theorem cacheCounts_queued (h : Queued q s) : Queued q s.cacheCounts := wr_queued (wr_queued (wr_queued h))

theorem useNode_queued {h' : Nat} (h : Queued q s) : Queued q (s.useNode h') := by
  unfold useNode
  refine queued_ite ?_ ?_
  · exact queued_upd h
  · split
    rename_i hp
    exact cacheCounts_queued (incSat_queued (queued_upd (queued_snd hp (drbgNext_queued h))))

theorem clearKeys_queued (h : Queued q s) : Queued q s.clearKeys := cacheCounts_queued (queued_upd h)

theorem keyRecovery_queued {cause : Nat} (h : Queued q s) : Queued q (s.keyRecovery cause) :=
  setKeyMode_queued (wr_queued (clearKeys_queued h))

theorem regenerate_queued {ber : Option Nat} (h : Queued q s) : Queued q (s.regenerate ber) := by
  unfold regenerate
  extract_lets _ _ s₁
  have h₁ : Queued q s₁ := queued_upd (wr_queued h)
  split
  · exact setKeyMode_queued (queued_forEach useNode_queued (queued_ite (raise_queued (wr_queued (queued_upd (wr_queued
      (wr_queued h₁))))) (wr_queued (queued_upd (wr_queued (wr_queued h₁))))))
  · exact queued_ite (keyRecovery_queued h₁) h₁

theorem invalidate_queued {p : List (List Byte)} (h : Queued q s) : Queued q (s.invalidate p).2 :=
  queued_upd (modNode_queued h)

theorem rederiveOne_queued {p : List (List Byte)} (h : Queued q s) : Queued q (s.rederiveOne p) := modNode_queued h

theorem rederive_queued {p : List (List Byte)} (h : Queued q s) : Queued q (s.rederive p) :=
  queued_forEach rederiveOne_queued h

theorem ownerTook_queued {g : OwnerSig} (h : Queued q s) : Queued q (s.ownerTook g) := wr_queued h

/-! ### The host link (Sys2Proof/Machine/HostOps.lean) -/

theorem dropArmed_queued {k : Nat} (h : Queued q s) : Queued q (s.dropArmed k) := queued_upd h

theorem freeSlot_queued {k status : Nat} (h : Queued q s) : Queued q (s.freeSlot k status) :=
  setSlot_queued (dropArmed_queued h)

theorem abortCask_queued {k status failIdx failIsland result : Nat} (h : Queued q s) :
    Queued q (s.abortCask k status failIdx failIsland result) := by
  unfold abortCask
  extract_lets _ _ s₁ s₂
  have h₁ : Queued q s₁ := raise_queued (incSat_queued h)
  have h₂ : Queued q s₂ := by
    unfold s₂
    split
    · exact complete_queued h₁
    · exact finalise_queued h₁
    · exact h₁
  exact freeSlot_queued h₂

theorem stage_queued {x : Ctx} {a : CaskAct} (h : Queued q s) : Queued q (s.stage x a) := by
  unfold stage
  split
  · exact complete_queued h
  · exact queued_ite (complete_queued h) (queued_ite (complete_queued h) (complete_queued (setSlot_queued h)))

theorem islandStop_queued {i : Nat} (h : Queued q s) : Queued q (s.islandStop i) :=
  wr_queued (wr_queued (wr_queued h))

theorem islandGo_queued {i : Nat} (h : Queued q s) : Queued q (s.islandGo i) := wr_queued (wr_queued (wr_queued h))

theorem wakeRun_queued {cause : Nat} (h : Queued q s) : Queued q (s.wakeRun cause) :=
  queued_ite (raise_queued (wr_queued (queued_forEach islandGo_queued h))) h

theorem startRing_queued {kind : RingKind} {i : Nat} (h : Queued q s) : Queued q (s.startRing kind i) := by
  unfold startRing
  split
  · exact queued_ite (queued_upd h) (wr_queued (wr_queued (queued_upd (queued_upd h))))
  · exact queued_upd h
  · exact queued_upd h
  · exact queued_upd h

theorem writeFields_queued {fs : List Fld} {i image : Nat} (h : Queued q s) : Queued q (s.writeFields fs i image) :=
  queued_forEach wr_queued h

theorem writeRing_queued {kind : RingKind} {i image : Nat} (h : Queued q s) : Queued q (s.writeRing kind i image) :=
  queued_ite (wr_queued (writeFields_queued h)) (queued_ite (wr_queued (writeFields_queued h)) (startRing_queued
    (wr_queued (writeFields_queued h))))

theorem settleDestroys_queued (h : Queued q s) : Queued q s.settleDestroys :=
  queued_forEach (fun h₁ => queued_ite h₁ (complete_queued (wr_queued (queued_upd h₁)))) h

theorem start_queued {x : Ctx} (h : Queued q s) : Queued q (s.start x) := queued_upd h

theorem command_queued {x : Ctx} {op inst : Nat} {act : Option CaskAct} {f : State → State} (h : Queued q s) (hf : ∀
    {s}, Queued q s → Queued q (f s)) :
    Queued q (s.command x op inst act f) := by
  unfold command
  extract_lets s₁ s₂ s₃ s₄
  have h₁ : Queued q s₁ := advance_queued h
  have h₂ : Queued q s₂ := start_queued h₁
  have h₃ : Queued q s₃ := queued_ite (wakeRun_queued h₂) h₂
  have h₄ : Queued q s₄ := by
    unfold s₄
    split
    · exact complete_queued h₃
    · split
      · exact hf h₃
      · refine queued_ite (complete_queued h₃) (queued_ite (stage_queued h₃) ?_)
        split
        · exact complete_queued h₃
        · exact hf h₃
  exact queued_ite h₁ (settleDestroys_queued h₄)

theorem creditTake_queued {c : Nat} (h : Queued q s) : Queued q (s.creditTake c) :=
  queued_ite (queued_upd h) (queued_upd h)

theorem fetchNext_queued {x : Ctx} {i : Nat} {d : Desc} {credit : Option Nat} (h : Queued q s) :
    Queued q (s.fetchNext x i d credit) :=
  queued_ite (complete_queued (syncCompleted_queued (setHist_queued (wr_queued (queued_upd h))))) (queued_ite
    (complete_queued (syncCompleted_queued (setHist_queued (wr_queued (queued_upd h))))) (queued_ite (complete_queued
    (syncCompleted_queued (setHist_queued (wr_queued (queued_upd h))))) (queued_ite (complete_queued
    (syncCompleted_queued (setHist_queued (wr_queued (queued_upd h))))) (syncCompleted_queued (setHist_queued
    (wr_queued (queued_upd h)))))))

theorem writeOther_queued {x : Ctx} {i : Nat} {d : Desc} {n : Nat} {old : Option Hist} (h : Queued q s) :
    Queued q (s.writeOther x i d n old) := by
  unfold writeOther
  split <;> exact writeCompletion_queued h

theorem fetchOther_queued {x : Ctx} {i : Nat} {d : Desc} {last : Nat} {credit : Option Nat} (h : Queued q s) :
    Queued q (s.fetchOther x i d last credit) :=
  writeOther_queued (creditBack_queued (issueSeq_queued h))

theorem fetchOne_queued {i : Nat} {d : Desc} (h : Queued q s) : Queued q (s.fetchOne i d) := by
  unfold fetchOne
  extract_lets _ _ _ _ _ s₁
  have h₁ : Queued q s₁ := queued_ite (queued_upd h) (creditTake_queued (queued_upd h))
  exact queued_ite (fetchNext_queued h₁) (fetchOther_queued h₁)

theorem grant_queued {from0 : List Nat} {descs : List (List Desc)} (h : Queued q s) :
    Queued q (s.grant from0 descs).1 := by
  unfold grant
  extract_lets _ s₁
  have h₁ : Queued q s₁ := queued_ite h (queued_upd h)
  split
  · exact h₁
  · split
    · exact h₁
    · extract_lets s₂
      have h₂ : Queued q s₂ := queued_upd h₁
      split
      · exact h₂
      · exact fetchOne_queued h₂

theorem grants_queued {from0 : List Nat} {descs : List (List Desc)} :
    ∀ {k : Nat} {s : State}, Queued q s → Queued q (grants k from0 descs s)
  | 0, _, h => h
  | k + 1, s, h => by
    unfold grants
    exact queued_ite (grants_queued (grant_queued h)) (grant_queued h)

theorem fetchRing_queued {i from0 : Nat} {descs : List Desc} :
    ∀ {k : Nat} {s : State}, Queued q s → Queued q (fetchRing k i from0 descs s)
  | 0, _, h => h
  | k + 1, s, h => by
    unfold fetchRing
    refine queued_ite ?_ h
    split
    · exact fetchRing_queued (fetchOne_queued h)
    · exact h

theorem releaseStops_queued : ∀ {k : Nat} {s : State}, Queued q s → Queued q (releaseStops k s)
  | 0, _, h => h
  | k + 1, s, h => by
    unfold releaseStops
    split
    · exact h
    · exact queued_ite (releaseStops_queued (putCompletion_queued (queued_upd h))) h

theorem releaseCompletions_queued (h : Queued q s) : Queued q s.releaseCompletions :=
  queued_ite h (queued_forEach writeCompletion_queued (queued_upd h))

theorem reportGap_queued {j : Nat} (h : Queued q s) : Queued q (s.reportGap j) :=
  queued_ite (putEvent_queued (queued_upd (journal_queued (issueSeq_queued h)))) h

theorem coalesceDue_queued (h : Queued q s) : Queued q s.coalesceDue :=
  queued_forEach (fun h₁ => queued_ite (irq_queued (queued_upd h₁)) h₁) h

/-! ### Cable tags (Sys2Proof/Machine/CableOps.lean) -/

theorem modCable_queued {n : Nat} {f : CableTag → CableTag} (h : Queued q s) : Queued q (s.modCable n f) :=
  queued_upd h

theorem setJobs_queued {js : List CableJob} (h : Queued q s) : Queued q (s.setJobs js) := wr_queued (queued_upd h)

theorem addJob_queued {j : CableJob} (h : Queued q s) : Queued q (s.addJob j) := by
  unfold addJob
  split <;> exact setJobs_queued h

theorem shadowGo_queued {n : Nat} (h : Queued q s) : Queued q (s.shadowGo n) :=
  queued_ite (raise_queued (queued_upd (wr_queued (wr_queued (addJob_queued (wr_queued h)))))) (addJob_queued
    (wr_queued h))

theorem cableQueue_queued {n : Nat} (h : Queued q s) : Queued q (s.cableQueue n) :=
  queued_ite h (queued_ite (addJob_queued h) (shadowGo_queued (incSat_queued (addJob_queued h))))

theorem cableEnd_queued {n wh : Nat} (h : Queued q s) : Queued q (s.cableEnd n wh) :=
  queued_ite h (shadowGo_queued (addSat_queued (incSat_queued h)))

theorem cableOpening_queued {n : Nat} (h : Queued q s) : Queued q (s.cableOpening n) :=
  queued_ite h (shadowGo_queued (incSat_queued h))

theorem cableRebind_queued {n : Nat} (h : Queued q s) : Queued q (s.cableRebind n) :=
  queued_ite h (addJob_queued (modCable_queued h))

/-! ### The safety channels (Sys2Proof/Machine/SafeOps.lean) -/

theorem modOutlet_queued {n : Nat} {f : Outlet → Outlet} (h : Queued q s) : Queued q (s.modOutlet n f) := queued_upd h

theorem modOs_queued {n : Nat} {f : OutSafe → OutSafe} (h : Queued q s) : Queued q (s.modOs n f) := queued_upd h

theorem modCoil_queued {k : Nat} {f : Coil → Coil} (h : Queued q s) : Queued q (s.modCoil k f) := queued_upd h

theorem refreshSafeOk_queued (h : Queued q s) : Queued q s.refreshSafeOk :=
  queued_ite h (alert_queued (setFlag_queued h))

theorem coilOff_queued {k demand : Nat} (h : Queued q s) : Queued q (s.coilOff k demand) :=
  modCoil_queued (queued_ite (queued_upd (raise_queued (incSat_queued h))) h)

theorem noteOpening_queued {n : Nat} (h : Queued q s) : Queued q (s.noteOpening n) := by
  unfold noteOpening
  refine queued_ite h ?_
  extract_lets _ _ s₁
  have h₁ : Queued q s₁ := queued_ite (queued_forEach incSat_queued h) h
  exact modOs_queued (queued_ite (cableOpening_queued h₁) h₁)

theorem pmOff_queued {n : Nat} (h : Queued q s) : Queued q (s.pmOff n) := queued_ite (modOutlet_queued h) h

theorem openOutlet_queued {n demand : Nat} (h : Queued q s) : Queued q (s.openOutlet n demand) :=
  queued_forEach coilOff_queued (pmOff_queued (noteOpening_queued h))

theorem highOff_queued {n : Nat} (h : Queued q s) : Queued q (s.highOff n) :=
  queued_forEach (fun h₁ => queued_ite (coilOff_queued h₁) (modCoil_queued h₁)) (noteOpening_queued h)

theorem driveF_queued {n : Nat} (h : Queued q s) : Queued q (s.driveF n) := modOutlet_queued h

theorem stagePilot_queued {n : Nat} {p : PilotOut} (h : Queued q s) : Queued q (s.stagePilot n p) :=
  modOutlet_queued h

theorem stageSet_queued {n : Nat} {p : SetPoint} (h : Queued q s) : Queued q (s.stageSet n p) := modOutlet_queued h

theorem dropClose_queued {n : Nat} (h : Queued q s) : Queued q (s.dropClose n) :=
  queued_ite h (queued_forEach complete_queued (modOutlet_queued h))

theorem caskSafety_queued {n : Nat} (h : Queued q s) : Queued q (s.caskSafety n) := by
  unfold caskSafety
  extract_lets
  refine queued_forEach (fun h₂ => ?_) (dropClose_queued h)
  extract_lets
  split
  · exact h₂
  · refine queued_ite (abortCask_queued h₂) (queued_ite ?_ h₂)
    split
    · exact modSlot_queued h₂
    · exact h₂

theorem erem_queued {n demand : Nat} (h : Queued q s) : Queued q (s.erem n demand) :=
  modOs_queued (caskSafety_queued (openOutlet_queued h))

theorem outletSafe_queued {n demand : Nat} (h : Queued q s) : Queued q (s.outletSafe n demand) :=
  modOs_queued (driveF_queued (erem_queued h))

theorem trip_queued {n code chan since : Nat} {latch : Bool} (h : Queued q s) :
    Queued q (s.trip n code chan since latch) :=
  queued_ite (queued_ite (modOs_queued h) h) (raise_queued (outletSafe_queued (modOs_queued h)))

theorem moduleTrip_queued {code chan since : Nat} (h : Queued q s) : Queued q (s.moduleTrip code chan since) :=
  queued_ite h (raise_queued (refreshSafeOk_queued (queued_forEach outletSafe_queued (queued_upd h))))

theorem clearFault_queued {n code : Nat} (h : Queued q s) : Queued q (s.clearFault n code) := modOs_queued h

theorem lateClose_queued {n : Nat} {owed : Option (Nat × Nat)} (h : Queued q s) : Queued q (s.lateClose n owed) := by
  unfold lateClose
  split
  · exact h
  · exact raise_queued (incSat_queued (queued_forEach modCoil_queued h))

theorem startPullIn_queued {k : Nat} (h : Queued q s) : Queued q (s.startPullIn k) :=
  queued_ite (lateClose_queued (modCoil_queued h)) h

theorem holdFrom_queued {k : Nat} (h : Queued q s) : Queued q (s.holdFrom k) := modCoil_queued h

theorem applyClose_queued {n : Nat} {refused : Bool} (h : Queued q s) : Queued q (s.applyClose n refused).1 :=
  queued_ite_fst h (queued_ite_fst (raise_queued h) (queued_forEach startPullIn_queued (queued_forEach modCoil_queued
    h)))

theorem startCurrent_queued {n : Nat} (h : Queued q s) : Queued q (s.startCurrent n).2 := by
  unfold startCurrent
  split
  · exact h
  · exact takeFree_queued h

theorem startMstop_queued {n reason : Nat} (h : Queued q s) : Queued q (s.startMstop n reason) := by
  unfold startMstop
  split
  · exact h
  · exact modOs_queued (startCurrent_queued h)

theorem mstopViolated_queued {n : Nat} (h : Queued q s) : Queued q (s.mstopViolated n) := by
  unfold mstopViolated
  exact raise_queued (driveF_queued (pmOff_queued (modOs_queued (highOff_queued h))))

theorem mstopCheck_queued {n : Nat} (h : Queued q s) : Queued q (s.mstopCheck n) := by
  unfold mstopCheck
  split
  · exact h
  · exact queued_ite (mstopViolated_queued h) (queued_ite (modOs_queued (openOutlet_queued h)) (modOs_queued h))

theorem overcurrentCheck_queued {n : Nat} (h : Queued q s) : Queued q (s.overcurrentCheck n).1 :=
  queued_ite_fst h (queued_ite_fst (trip_queued (modOs_queued h)) (queued_ite_fst (modOs_queued (modOs_queued h))
    (modOs_queued h)))

theorem rcmTrip_queued {n code chan : Nat} (h : Queued q s) : Queued q (s.rcmTrip n code chan) :=
  queued_ite h (queued_ite (trip_queued (trip_queued (modOs_queued (wr_queued (wr_queued h))))) (trip_queued
    (modOs_queued (wr_queued (wr_queued h)))))

theorem rcmUpdate_queued {n : Nat} {b : Bool} (h : Queued q s) : Queued q (s.rcmUpdate n b) := by
  unfold rcmUpdate
  extract_lets _ _ _ _ s₁ s₂
  have h₁ : Queued q s₁ := modOs_queued h
  have h₂ : Queued q s₂ := queued_ite (wr_queued (wr_queued h₁)) h₁
  split
  · exact rcmTrip_queued h₂
  · exact h₂

theorem sensorTrip_queued {n : Nat} (h : Queued q s) : Queued q (s.sensorTrip n) :=
  queued_ite h (trip_queued (wr_queued h))

theorem testSensor_queued {n : Nat} (h : Queued q s) : Queued q (s.testSensor n) := queued_ite h (modOs_queued h)

theorem rcmSelfTest_queued {n : Nat} {offset : Int} {reading : Nat} (h : Queued q s) :
    Queued q (s.rcmSelfTest n offset reading) :=
  queued_ite (queued_forEach clearFault_queued (queued_upd (modOs_queued (setFlag_queued (wrInt_queued h)))))
    (sensorTrip_queued (queued_upd (modOs_queued (setFlag_queued (wrInt_queued h)))))

theorem prewarnNote_queued {n : Nat} (h : Queued q s) : Queued q (s.prewarnNote n) := modOs_queued h

theorem shuntOn_queued {n : Nat} (h : Queued q s) : Queued q (s.shuntOn n) :=
  modOs_queued (queued_upd (setFlag_queued h))

theorem shuntKeep_queued {n : Nat} (h : Queued q s) : Queued q (s.shuntKeep n) := queued_ite (modOs_queued h) h

theorem weldCheck_queued {n : Nat} (h : Queued q s) : Queued q (s.weldCheck n) :=
  queued_ite (modOs_queued h) (raise_queued (queued_ite (shuntOn_queued (trip_queued (modOs_queued h))) (trip_queued
    (modOs_queued h))))

/-! ### Records (Sys2Proof/Machine/RecordOps.lean) -/

theorem setWall_queued {ms : Nat} (h : Queued q s) : Queued q (s.setWall ms) :=
  queued_upd (wr_queued (wrInt_queued (wr_queued h)))

theorem issueNum_queued (h : Queued q s) : Queued q s.issueNum.2 := by
  unfold issueNum
  split <;> exact queued_upd h

theorem reserveNums_queued {k : Nat} (h : Queued q s) : Queued q (s.reserveNums k).2 := queued_upd h

theorem appendAs_queued {num kind mp wall ledger flags epoch : Nat} {body : List (Nat × Nat)} (h : Queued q s) :
    Queued q (s.appendAs num kind mp wall ledger flags epoch body).2 :=
  raise_queued (addSat_queued (wr_queued (wr_queued (queued_upd h))))

theorem appendCore_queued {kind mp : Nat} {body : List (Nat × Nat)} (h : Queued q s) :
    Queued q (s.appendCore kind mp body).2 :=
  appendAs_queued (issueNum_queued h)

theorem tamperCount_queued {ty k : Nat} (h : Queued q s) : Queued q (s.tamperCount ty k) :=
  wr_queued (addSat_queued (queued_ite (wr_queued h) h))

theorem overwritten_queued {lost : List Nat} (h : Queued q s) : Queued q (s.overwritten lost) :=
  queued_ite h (raise_queued (appendCore_queued (tamperCount_queued h)))

theorem append_queued {kind mp : Nat} {body : List (Nat × Nat)} (h : Queued q s) : Queued q (s.append kind mp body) :=
  overwritten_queued (appendCore_queued h)

theorem appendNum_queued {num : Option Nat} {kind mp : Nat} {body : List (Nat × Nat)} (h : Queued q s) :
    Queued q (s.appendNum num kind mp body) := by
  unfold appendNum
  split
  · exact append_queued h
  · exact overwritten_queued (appendAs_queued h)

theorem appendTimed_queued {num : Option Nat} {kind mp wall ledger flags : Nat} {body : List (Nat × Nat)}
    (h : Queued q s) : Queued q (s.appendTimed num kind mp wall ledger flags body) := by
  cases num with
  | some n => exact overwritten_queued (appendAs_queued h)
  | none => exact overwritten_queued (appendAs_queued (issueNum_queued h))

theorem tamperMany_queued {ty detail k : Nat} (h : Queued q s) : Queued q (s.tamperMany ty detail k) :=
  queued_ite h (raise_queued (append_queued (tamperCount_queued h)))

theorem tamper_queued {ty detail : Nat} (h : Queued q s) : Queued q (s.tamper ty detail) := tamperMany_queued h

theorem partitionDenied_queued {ini target : Nat} {r : Res} (h : Queued q s) :
    Queued q (s.partitionDenied ini target r) :=
  queued_ite (tamper_queued (wr_queued (wr_queued (alert_queued (incSat_queued h))))) (queued_ite (tamper_queued
    (wr_queued (wr_queued (alert_queued (incSat_queued h))))) (wr_queued (wr_queued (alert_queued (incSat_queued
    h)))))

theorem signKeyChanged_queued (h : Queued q s) : Queued q s.signKeyChanged := tamper_queued h

theorem signOldest_queued (h : Queued q s) : Queued q s.signOldest := by
  unfold signOldest
  split
  · exact queued_ite h (wr_queued (queued_upd (useNode_queued (queued_ite (signKeyChanged_queued (rederive_queued h))
      h))))
  · exact h

theorem calNote_queued {off old new : Nat} (h : Queued q s) : Queued q (s.calNote off old new) := by
  unfold calNote
  extract_lets _ s₁
  have h₁ : Queued q s₁ := by
    unfold s₁
    split
    · exact queued_upd h
    · exact h
  exact tamper_queued h₁

/-! ### Metering (Sys2Proof/Machine/MetOps.lean) -/

theorem modMp_queued {m : Nat} {f : MeterPoint → MeterPoint} (h : Queued q s) : Queued q (s.modMp m f) := queued_upd h

theorem modTrk_queued {m : Nat} {f : Trk → Trk} (h : Queued q s) : Queued q (s.modTrk m f) := queued_upd h

theorem setChain_queued {c : Nat} {h' : Chain} (h : Queued q s) : Queued q (s.setChain c h') := queued_upd h

theorem setSamples_queued {c : Nat} {l : List GridSample} (h : Queued q s) : Queued q (s.setSamples c l) :=
  queued_upd h

theorem updateGd_queued {c : Nat} (h : Queued q s) : Queued q (s.updateGd c) := wrInt_queued (wrInt_queued h)

theorem setMpState_queued {m new role : Nat} (h : Queued q s) : Queued q (s.setMpState m new role) := by
  unfold setMpState
  extract_lets _ s₁ _ s₂ s₃ s₄
  have h₁ : Queued q s₁ := raise_queued (wr_queued h)
  have h₂ : Queued q s₂ := queued_ite (tamper_queued (raise_queued h₁)) h₁
  have h₃ : Queued q s₃ := queued_ite (raise_queued h₂) h₂
  have h₄ : Queued q s₄ := queued_ite (modMp_queued h₃) h₃
  exact queued_ite h (queued_ite (modMp_queued h₄) h₄)

theorem mpEval_queued {m : Nat} (h : Queued q s) : Queued q (s.mpEval m) := setMpState_queued h

theorem mpEvalAll_queued (h : Queued q s) : Queued q s.mpEvalAll := queued_forEach mpEval_queued h

theorem auxDecide_queued (h : Queued q s) : Queued q s.auxDecide := by
  unfold auxDecide
  split
  · exact queued_ite h (queued_ite (queued_upd (queued_upd h)) (queued_ite (incSat_queued (queued_upd h))
      (raise_queued (queued_upd (incSat_queued (queued_upd h))))))
  · exact h

theorem auxUnlocked_queued {m : Nat} (h : Queued q s) : Queued q (s.auxUnlocked m) := by
  unfold auxUnlocked
  split
  · exact queued_ite (queued_upd h) h
  · exact h

theorem setTrk_queued {m new reason : Nat} (h : Queued q s) : Queued q (s.setTrk m new reason) := by
  unfold setTrk
  extract_lets _ s₁ s₂
  have h₁ : Queued q s₁ := wr_queued (auxDecide_queued h)
  have h₂ : Queued q s₂ := queued_ite (auxUnlocked_queued (incSat_queued h₁)) h₁
  exact raise_queued (queued_ite h₂ (queued_forEach (fun h₃ => wr_queued (wr_queued h₃)) h₂))

theorem openCycle_queued {m z p : Nat} (h : Queued q s) : Queued q (s.openCycle m z p) :=
  wr_queued (wr_queued (wr_queued (modTrk_queued h)))

theorem gridRuns_queued {m : Nat} (h : Queued q s) : Queued q (s.gridRuns m) := queued_ite (openCycle_queued h) h

theorem clearTrk_queued {m : Nat} (h : Queued q s) : Queued q (s.clearTrk m) := modTrk_queued h

theorem trkRefresh_queued {m : Nat} (h : Queued q s) : Queued q (s.trkRefresh m) :=
  queued_ite (setTrk_queued (clearTrk_queued h)) (queued_ite (setTrk_queued (clearTrk_queued (gridRuns_queued h))) h)

theorem trkRefreshAll_queued (h : Queued q s) : Queued q s.trkRefreshAll := queued_forEach trkRefresh_queued h

theorem finishBlend_queued {b : Blend} {cs : List Nat} {t1 cut : Nat} (h : Queued q s) :
    Queued q (s.finishBlend b cs t1 cut) := by
  unfold finishBlend
  extract_lets _ _ _ _ _ _ s₁ s₂
  have h₁ : Queued q s₁ := raise_queued (queued_forEach wr_queued (queued_upd h))
  have h₂ : Queued q s₂ := by
    unfold s₂
    split
    · exact raise_queued h₁
    · exact h₁
  exact queued_ite h₁ (finaliseOpt_queued h₂)

theorem cutBlend_queued {c : Nat} (h : Queued q s) : Queued q (s.cutBlend c) := by
  unfold cutBlend
  split
  · exact h
  · exact finishBlend_queued h

theorem emptyChain_queued {c : Nat} (h : Queued q s) : Queued q (s.emptyChain c) :=
  setSamples_queued (setChain_queued h)

theorem restartChain_queued {c : Nat} (h : Queued q s) : Queued q (s.restartChain c) :=
  queued_forEach mpEval_queued (updateGd_queued (cutBlend_queued (wr_queued (wr_queued (wr_queued (emptyChain_queued
    (queued_upd h)))))))

theorem startBlend_queued {cs : List Nat} {ctx : Option Ctx} {cal : Option (List Nat)} (h : Queued q s) :
    Queued q (s.startBlend cs ctx cal) :=
  queued_upd (queued_forEach wr_queued h)

theorem filtOverflow_queued {c stages k : Nat} (h : Queued q s) : Queued q (s.filtOverflow c stages k) :=
  queued_ite (raise_queued (queued_upd (addSat_queued (wr_queued h)))) (queued_upd (addSat_queued (wr_queued h)))

/-! ### Tariffs (Sys2Proof/Machine/TariffOps.lean) -/

theorem modAcct_queued {m : Nat} {f : Account → Account} (h : Queued q s) : Queued q (s.modAcct m f) := queued_upd h

/-! ### The displays (Sys2Proof/Machine/DispOps.lean) -/

theorem setRegion_queued {r : Nat} {d : DRegion} (h : Queued q s) : Queued q (s.setRegion r d) := queued_upd h

theorem bandShow_queued (h : Queued q s) : Queued q s.bandShow := wr_queued h

theorem dispTemp_queued {v : Int} {ovr : Bool} (h : Queued q s) : Queued q (s.dispTemp v ovr) :=
  bandShow_queued (queued_ite (queued_upd (queued_upd (setFlag_queued (wrInt_queued h)))) (raise_queued (queued_upd
    (queued_upd (setFlag_queued (wrInt_queued h))))))

theorem dispAux_queued {i v : Nat} {ovr : Bool} (h : Queued q s) : Queued q (s.dispAux i v ovr) :=
  queued_ite (dispTemp_queued h) h

theorem dispWake_queued (h : Queued q s) : Queued q s.dispWake :=
  queued_ite h (queued_ite (queued_upd h) (queued_ite (wr_queued h) h))

theorem dispTake_queued {st : RegSt} {x y w h' mode : Nat} {c : Option Ctx} {cask : Nat} (h : Queued q s) :
    Queued q (s.dispTake st x y w h' mode c cask) := by
  unfold dispTake
  split
  · exact h
  · exact queued_upd (setRegion_queued h)

theorem dispStart_queued {x y w h' mode : Nat} {c : Option Ctx} (h : Queued q s) :
    Queued q (s.dispStart x y w h' mode c) := by
  unfold dispStart
  refine queued_ite h ?_
  extract_lets x₁ s₁
  clear_value x₁
  have h₁ : Queued q s₁ := by
    unfold s₁
    split
    · exact setRegion_queued h
    · exact dispTake_queued h
  exact dispWake_queued h₁

theorem dispArm_queued {k : Nat} {a : CaskAct} (h : Queued q s) : Queued q (s.dispArm k a) := by
  unfold dispArm
  split
  · exact queued_ite h (dispTake_queued h)
  · exact h

theorem latchRegion_queued {r : Nat} {d : DRegion} (h : Queued q s) : Queued q (s.latchRegion r d) :=
  setRegion_queued h

theorem startRegion_queued {r : Nat} (h : Queued q s) : Queued q (s.startRegion r) :=
  latchRegion_queued (queued_upd h)

theorem vintageFrame_queued (h : Queued q s) : Queued q s.vintageFrame := queued_upd h

theorem imbalance_queued (h : Queued q s) : Queued q s.imbalance :=
  queued_forEach (fun h₁ => queued_ite (raise_queued (queued_upd h₁)) (queued_ite (queued_upd h₁) h₁)) h

theorem meterDisp_queued (h : Queued q s) : Queued q s.meterDisp := queued_ite (islandStop_queued h) h

theorem dispIdle_queued (h : Queued q s) : Queued q s.dispIdle :=
  queued_ite (meterDisp_queued (wr_queued (queued_upd (queued_ite h (wr_queued h))))) h

theorem dropRegion_queued {r code status : Nat} (h : Queued q s) : Queued q (s.dropRegion r code status) :=
  finaliseOpt_queued (raise_queued (setRegion_queued h))

theorem cutRegion_queued {stop : Option Nat} {r : Nat} (h : Queued q s) : Queued q (s.cutRegion stop r) :=
  setRegion_queued (queued_ite h (incSat_queued h))

theorem dispCut_queued {stop : Option Nat} (h : Queued q s) : Queued q (s.dispCut stop) :=
  queued_upd (wr_queued (wr_queued (queued_forEach cutRegion_queued h)))

theorem legalContent_queued (h : Queued q s) : Queued q s.legalContent.2 := queued_ite_snd (takeFree_queued h) h

theorem paintStep_queued {p : SegPaint} (h : Queued q s) : Queued q (s.paintStep p) := queued_upd h

theorem segSteps_queued : ∀ {k : Nat} {s : State}, Queued q s → Queued q (segSteps k s)
  | 0, _, h => h
  | k + 1, s, h => by
    unfold segSteps
    split
    · exact h
    · refine queued_ite h ?_
      split
      · exact segSteps_queued (paintStep_queued (queued_upd h))
      · exact segSteps_queued (paintStep_queued (queued_upd h))
      · exact segSteps_queued (paintStep_queued (queued_upd h))
      · exact segSteps_queued (paintStep_queued (raise_queued (queued_upd h)))
      · exact queued_ite (queued_upd h) (segSteps_queued (paintStep_queued (queued_upd h)))

theorem segPaint_queued {content : Nat} (h : Queued q s) : Queued q (s.segPaint content) := by
  unfold segPaint
  extract_lets
  split
  · exact queued_upd h
  · exact segSteps_queued (queued_upd (queued_upd h))

theorem legalRepaint_queued (h : Queued q s) : Queued q s.legalRepaint :=
  segPaint_queued (legalContent_queued (queued_upd h))

theorem segRecover_queued (h : Queued q s) : Queued q s.segRecover := by
  unfold segRecover
  split
  · exact h
  · exact segSteps_queued (queued_upd h)

/-! ### Host (Sys2Proof/Machine/Host.lean) -/

theorem resetHostRegs_queued (h : Queued q s) : Queued q s.resetHostRegs :=
  queued_forEach (fun h₁ => queued_forEach toReset_queued h₁) (queued_forEach toReset_queued h)

theorem leaveStatus_queued (h : Queued q s) : Queued q s.leaveStatus := queued_upd h

theorem resetHostParts_queued (h : Queued q s) : Queued q s.resetHostParts := queued_upd h

theorem detach_queued {cause : DetachCause} (h : Queued q s) : Queued q (s.detach cause) := by
  unfold detach
  extract_lets _ s₁ _ _ _ _ _ s₂ _ _ s₃ s₄
  have h₁ : Queued q s₁ := queued_ite (leaveStatus_queued h) h
  have h₂ : Queued q s₂ := queued_forEach holdCompletion_queued (queued_upd (queued_ite (leaveStatus_queued (wr_queued
    h₁)) (wr_queued h₁)))
  have h₃ : Queued q s₃ := by
    unfold s₃
    split
    · exact wr_queued h₂
    · exact h₂
    · exact queued_upd (resetHostParts_queued (resetHostRegs_queued h₂))
    · exact resetHostParts_queued (resetHostRegs_queued h₂)
  have h₄ : Queued q s₄ := queued_ite (raise_queued (wr_queued h₃)) h₃
  exact queued_ite (raise_queued h₄) h₄

theorem drainStream_queued : ∀ {k src j : Nat} {s : State}, Queued q s → Queued q (drainStream k src j s)
  | 0, _, _, _, h => h
  | k + 1, src, j, s, h => by
    unfold drainStream
    extract_lets x₁
    clear_value x₁
    split
    · exact h
    · exact queued_ite h (drainStream_queued (irq_queued (notify_queued (queued_upd h))))

theorem drainSource_queued {src : Nat} (h : Queued q s) : Queued q (s.drainSource src) := by
  unfold drainSource
  refine queued_ite h ?_
  split
  · exact h
  · exact drainStream_queued h

theorem drainAll_queued (h : Queued q s) : Queued q s.drainAll := queued_forEach drainSource_queued h

theorem streamBlock_queued {src : Nat} {b : StreamBlock} (h : Queued q s) : Queued q (s.streamBlock src b) :=
  drainSource_queued (queued_upd (drainSource_queued h))

theorem noteBuffers_queued {j : Nat} {bufs : List Nat} (h : Queued q s) : Queued q (s.noteBuffers j bufs) :=
  queued_upd h

theorem attach_queued (h : Queued q s) : Queued q s.attach :=
  queued_ite (wr_queued h) (queued_ite (queued_upd (wr_queued h)) (notifIrq_queued (drainAll_queued (queued_ite
    (irq_queued (raise_queued (queued_upd (wr_queued (wr_queued h))))) (raise_queued (queued_upd (wr_queued (wr_queued
    h))))))))

theorem popNotif_queued {flips : Nat} (h : Queued q s) : Queued q (s.popNotif flips) := by
  unfold popNotif
  extract_lets _ s₁
  have h₁ : Queued q s₁ := queued_ite (queued_upd h) h
  split
  · exact queued_upd h₁
  · exact notifIrq_queued (queued_upd (queued_ite (incSat_queued h₁) (queued_ite (incSat_queued h₁) h₁)))

theorem configure_queued {req : CfgReq} (h : Queued q s) : Queued q (s.configure req) := by
  unfold configure
  extract_lets
  split <;> exact queued_upd h

/-! ### The sampling front end (Sys2Proof/Machine/AfeOps.lean) -/

theorem setCap_queued {p : Nat} {c : Capture} (h : Queued q s) : Queued q (s.setCap p c) := queued_upd h

theorem endCapture_queued {p : Nat} (h : Queued q s) : Queued q (s.endCapture p) :=
  setFlag_queued (wr_queued (setCap_queued h))

theorem setWave_queued {m : Nat} {c : Capture} (h : Queued q s) : Queued q (s.setWave m c) := queued_upd h

theorem sourceBlock_queued {src mtbFirst : Nat} {data : List (List Int)} (h : Queued q s) :
    Queued q (s.sourceBlock src mtbFirst data) := by
  unfold sourceBlock
  refine queued_ite ?_ (drainSource_queued h)
  extract_lets _ _ _ _ s₁
  have h₁ : Queued q s₁ := streamBlock_queued (setCap_queued (queued_ite (addSat_queued h) h))
  exact queued_ite h (queued_ite h₁ (endCapture_queued h₁))

theorem setWaveRecs_queued {m : Nat} {rs : List (List Int)} (h : Queued q s) : Queued q (s.setWaveRecs m rs) :=
  queued_upd h

theorem waveAdd_queued {m : Nat} {r : List Int} (h : Queued q s) : Queued q (s.waveAdd m r) :=
  queued_ite h (setWaveRecs_queued (setWave_queued h))

theorem waveBlock_queued {m : Nat} (h : Queued q s) : Queued q (s.waveBlock m) :=
  queued_ite (drainSource_queued h) (streamBlock_queued (setWaveRecs_queued h))

theorem startEntry_queued {q' e : Nat} (h : Queued q s) : Queued q (s.startEntry q' e) := queued_upd h

theorem startPass_queued {conv : Nat} (h : Queued q s) : Queued q (s.startPass conv) := by
  unfold startPass
  split
  · exact h
  · split
    · exact startEntry_queued (queued_upd h)
    · exact h

theorem putSeq_queued {q' ctl : Nat} {ents : List Nat} (h : Queued q s) : Queued q (s.putSeq q' ctl ents) :=
  queued_forEach (fun h₁ => save_queued (save_queued (save_queued h₁))) (queued_forEach save_queued (queued_forEach
    writeFields_queued (wr_queued (writeFields_queued h))))

theorem padc10_queued (h : Queued q s) : Queued q s.padc10 := setFlag_queued h

theorem stopSeq_queued {q' : Nat} (h : Queued q s) : Queued q (s.stopSeq q') :=
  queued_upd (padc10_queued (save_queued (wr_queued h)))

theorem loadSeq_queued {q' ctl : Nat} {ents : List Nat} (h : Queued q s) : Queued q (s.loadSeq q' ctl ents) :=
  queued_ite (padc10_queued (putSeq_queued h)) (stopSeq_queued (putSeq_queued h))

theorem auxSlowNote_queued {before : State} (h : Queued q s) : Queued q (s.auxSlowNote before) :=
  queued_forEach raise_queued h

theorem auxSlowAll_queued (h : Queued q s) : Queued q s.auxSlowAll := queued_forEach raise_queued h

theorem endPass_queued {conv q' : Nat} (h : Queued q s) : Queued q (s.endPass conv q') := by
  unfold endPass
  extract_lets _ _ _ _ s₁
  have h₁ : Queued q s₁ := by
    unfold s₁
    split
    · exact loadSeq_queued (queued_upd (queued_upd h))
    · exact queued_upd h
  exact auxSlowNote_queued (startPass_queued (startPass_queued (queued_ite (stopSeq_queued h₁) h₁)))

theorem auxValue_queued {i conv : Nat} {code : Int} (h : Queued q s) : Queued q (s.auxValue i conv code).2 :=
  queued_ite_snd h (takeFree_queued h)

theorem insertDelay_queued {conv ns : Nat} (h : Queued q s) : Queued q (s.insertDelay conv ns) := queued_upd h

theorem auxRecord_queued {i flags value : Nat} (h : Queued q s) : Queued q (s.auxRecord i flags value) :=
  queued_ite h (queued_ite (queued_upd h) (streamBlock_queued (queued_upd (queued_upd h))))

theorem auxConvert_queued {i conv : Nat} {xs : List Int} {trip fixedT lost : Bool} (h : Queued q s) :
    Queued q (s.auxConvert i conv xs trip fixedT lost).2 := by
  unfold auxConvert
  extract_lets
  split
  rename_i hp
  have h₁ := queued_snd hp (auxValue_queued h)
  extract_lets _ _ _ s₂ s₃
  have h₂ : Queued q s₂ := queued_upd (wr_queued (setFlag_queued (setFlag_queued (setFlag_queued (wrInt_queued
    (wr_queued h₁))))))
  have h₃ : Queued q s₃ := queued_ite (addSat_queued h₂) h₂
  exact dispAux_queued (auxRecord_queued (queued_ite (incSat_queued h₃) h₃))

theorem calConvert_queued {i conv : Nat} {samples : List Int} {trip : Bool} (h : Queued q s) :
    Queued q (s.calConvert i conv samples trip).2.2 :=
  insertDelay_queued (auxConvert_queued h)

theorem noteFast_queued {r : AuxRun} {i : Nat} (h : Queued q s) : Queued q (s.noteFast r i) :=
  queued_ite (queued_upd h) h

/-! ### The ledger (Sys2Proof/Machine/LedgerOps.lean) -/

theorem touAdd_queued {m t : Nat} {six : List Nat} (h : Queued q s) : Queued q (s.touAdd m t six) :=
  queued_forEach wr_queued h

theorem touSub_queued {m t : Nat} {six : List Nat} (h : Queued q s) : Queued q (s.touSub m t six) :=
  queued_forEach wr_queued h

theorem modLsess_queued {n : Nat} {f : LSession → LSession} (h : Queued q s) : Queued q (s.modLsess n f) :=
  queued_upd h

theorem newSession_queued (h : Queued q s) : Queued q s.newSession.2 := queued_upd h

theorem closeRecord_queued {n extra est : Nat} (h : Queued q s) : Queued q (s.closeRecord n extra est) :=
  modLsess_queued (appendNum_queued h)

theorem closeFinal_queued {m : Nat} (h : Queued q s) : Queued q (s.closeFinal m) :=
  queued_forEach closeRecord_queued (wr_queued h)

theorem takeNum_queued (h : Queued q s) : Queued q s.takeNum.2 := by
  unfold takeNum
  split
  · exact queued_upd h
  · exact h

theorem readNoted_queued {group : Nat} (h : Queued q s) : Queued q (s.readNoted group) := by
  unfold readNoted
  extract_lets
  split
  · exact h
  · extract_lets
    refine queued_ite (queued_upd h) ?_
    split
    · exact complete_queued (queued_upd h)
    · exact queued_upd h

theorem flushPend_queued {p : PendRec} (h : Queued q s) : Queued q (s.flushPend p) :=
  queued_ite (readNoted_queued (appendTimed_queued (queued_upd h))) (appendTimed_queued (modLsess_queued (queued_upd
    h)))

theorem flushPends_queued {m upTo : Nat} (h : Queued q s) : Queued q (s.flushPends m upTo) :=
  queued_forEach flushPend_queued h

theorem queueRecord_queued {p : PendRec} (h : Queued q s) : Queued q (s.queueRecord p) :=
  queued_ite (queued_upd h) (flushPend_queued h)

theorem metOpen_queued {m sess at_ : Nat} (h : Queued q s) : Queued q (s.metOpen m sess at_) :=
  modMp_queued (wr_queued (wr_queued (wr_queued (wr_queued (wr_queued (wr_queued h))))))

theorem metClose_queued {m at_ : Nat} (h : Queued q s) : Queued q (s.metClose m at_) :=
  queued_ite (wr_queued (modMp_queued (wr_queued h))) (closeFinal_queued (modMp_queued (wr_queued h)))

theorem recOpen_queued {n m : Nat} {i : Identity} {price at_ : Nat} (h : Queued q s) :
    Queued q (s.recOpen n m i price at_) :=
  queueRecord_queued (modLsess_queued (takeNum_queued (wr_queued (queued_ite_snd (newSession_queued h) h))))

theorem recClose_queued {n reason at_ : Nat} (h : Queued q s) : Queued q (s.recClose n reason at_) :=
  queued_ite h (queued_ite (metClose_queued (modLsess_queued (takeNum_queued h))) (queued_ite (modLsess_queued
    (takeNum_queued h)) (closeRecord_queued (modLsess_queued (takeNum_queued h)))))

theorem noteCounts_queued {n : Nat} (h : Queued q s) : Queued q (s.noteCounts n) := queued_ite (modLsess_queued h) h

theorem readStart_queued {mask at_ : Nat} {ctx : Option Ctx} (h : Queued q s) :
    Queued q (s.readStart mask at_ ctx) := by
  unfold readStart
  extract_lets _ _ _ _ s₁
  have h₁ : Queued q s₁ := queued_forEach (fun h₁ => queued_upd (takeNum_queued h₁)) (queued_upd h)
  exact queued_ite (readNoted_queued h₁) (queued_forEach (fun h₃ => queued_ite h₃ (flushPends_queued h₃)) h₁)

theorem readSigned_queued {mask at_ : Nat} (h : Queued q s) : Queued q (s.readSigned mask at_).2 := readStart_queued h

theorem backlog_queued {k : Nat} (h : Queued q s) : Queued q (s.backlog k) :=
  queued_ite (raise_queued (wr_queued (queued_upd h))) (wr_queued (queued_upd h))

theorem energyPart_queued {m start until_ : Nat} {inc : List Nat} (h : Queued q s) :
    Queued q (s.energyPart m start until_ inc) := by
  unfold energyPart
  extract_lets _ _ _ _ _ _ _ s₁
  have h₁ : Queued q s₁ := modAcct_queued (touAdd_queued (wr_queued (queued_forEach wr_queued h)))
  exact modMp_queued (queued_forEach modLsess_queued (queued_ite (wr_queued (wr_queued h₁)) h₁))

theorem flowTrack_queued {m : Nat} {export_ : Bool} {start : Nat} (h : Queued q s) :
    Queued q (s.flowTrack m export_ start) :=
  queued_ite (modMp_queued h) (queued_ite (raise_queued (modMp_queued h)) (modMp_queued h))

theorem demandClose_queued {m at_ wall flags : Nat} (h : Queued q s) : Queued q (s.demandClose m at_ wall flags) := by
  unfold demandClose
  extract_lets _ _ _ _ _ _ _ _ _ _ _ _ _ s₁ s₂
  have h₁ : Queued q s₁ := queued_forEach (fun h₁ => queued_ite (queued_upd h₁) h₁) (wr_queued (wr_queued (wr_queued
    (queued_forEach wr_queued (modAcct_queued h)))))
  have h₂ : Queued q s₂ := queued_ite (wr_queued (wr_queued h₁)) h₁
  exact queued_ite (raise_queued h₂) h₂

theorem tariffGo_queued {m at_ tariff : Nat} (h : Queued q s) : Queued q (s.tariffGo m at_ tariff) :=
  queued_ite h (queued_forEach modLsess_queued (modAcct_queued (touAdd_queued (touSub_queued h))))

theorem billClose_queued {at_ wallMs_ cause flags : Nat} (h : Queued q s) :
    Queued q (s.billClose at_ wallMs_ cause flags) :=
  append_queued (wr_queued (queued_forEach (fun h₁ => wr_queued (wr_queued h₁)) (queued_upd h)))

theorem transaction_queued {b : Boundary} (h : Queued q s) : Queued q (s.transaction b) := by
  unfold transaction
  extract_lets _ _ _ s₁ s₂ _ _ _ s₃ _ s₄ _ _ s₅ _ _ s₆
  have h₁ : Queued q s₁ := by
    unfold s₁
    refine queued_ite ?_ (queued_upd h)
    split
    · exact append_queued (queued_upd (queued_upd h))
    · exact queued_upd h
  have h₂ : Queued q s₂ := queued_forEach (fun h₂ => queued_forEach modAcct_queued h₂) h₁
  have h₃ : Queued q s₃ := queued_ite (queued_forEach demandClose_queued h₂) h₂
  have h₄ : Queued q s₄ := queued_forEach tariffGo_queued (queued_ite (billClose_queued h₃) h₃)
  have h₅ : Queued q s₅ := queued_forEach append_queued (queued_ite (queued_upd h₄) h₄)
  have h₆ : Queued q s₆ := raise_queued (queued_ite (append_queued h₅) h₅)
  split
  · exact complete_queued h₆
  · exact h₆

theorem addBoundary_queued {b : Boundary} (h : Queued q s) : Queued q (s.addBoundary b) := by
  unfold addBoundary
  split
  · exact queued_upd h
  · exact queued_ite (queued_upd h) (queued_upd (transaction_queued h))

theorem tariffSelect_queued {mask tariff price src at_ : Nat} (h : Queued q s) :
    Queued q (s.tariffSelect mask tariff price src at_) := by
  unfold tariffSelect
  exact addBoundary_queued (queued_forEach (fun h₁ => queued_ite (modLsess_queued h₁) h₁) h)

theorem tariffForce_queued {mask tariff price at_ : Nat} (h : Queued q s) :
    Queued q (s.tariffForce mask tariff price at_) :=
  tariffSelect_queued h

theorem closeBetween_queued {w0 w1 flag cause : Nat} {demand : Bool} (h : Queued q s) :
    Queued q (s.closeBetween w0 w1 flag cause demand).2 := by
  unfold closeBetween
  extract_lets _ _ _ _ _ _ s₁ s₂
  have h₁ : Queued q s₁ := queued_forEach billClose_queued h
  have h₂ : Queued q s₂ := queued_ite (queued_forEach (fun h₂ => modAcct_queued (wr_queued h₂)) h₁) h₁
  exact queued_ite (raise_queued h₂) h₂

theorem timeSet_queued {ms src : Nat} (h : Queued q s) : Queued q (s.timeSet ms src).2 := by
  unfold timeSet
  extract_lets _ _ _ _ _ _ _ _ s₁ s₂ _ s₃ _ _ _ _ _ _ s₄ s₅
  have h₁ : Queued q s₁ := queued_ite (queued_upd h) h
  have h₂ : Queued q s₂ := by
    unfold s₂
    split
    · exact transaction_queued h₁
    · exact h₁
  have h₃ : Queued q s₃ := setWall_queued (transaction_queued h₂)
  have h₄ : Queued q s₄ := raise_queued (append_queued (wr_queued (queued_forEach tariffGo_queued (queued_upd
    (queued_ite (queued_upd h₃) (queued_ite (closeBetween_queued h₃) (queued_ite h₃ (closeBetween_queued h₃))))))))
  have h₅ : Queued q s₅ := queued_ite (tamper_queued h₄) h₄
  exact queued_ite_snd h (queued_ite (tamper_queued h₅) h₅)

/-! ### The own tag (Sys2Proof/Machine/OwnTagOps.lean) -/

theorem ownWrite_queued {b v : Nat} {whole : Bool} (h : Queued q s) : Queued q (s.ownWrite b v whole) := queued_upd h

theorem ownReply_queued {r : List Nat} (h : Queued q s) : Queued q (s.ownReply r) := queued_upd h

theorem ownClose_queued (h : Queued q s) : Queued q s.ownClose := queued_upd h

theorem ownStatus_queued {n : Nat} (h : Queued q s) : Queued q (s.ownStatus n) :=
  queued_ite h (queued_forEach ownWrite_queued h)

theorem onField_queued {t : Nat} {f : State → State} (h : Queued q s) (hf : ∀ {s}, Queued q s → Queued q (f s)) :
    Queued q (s.onField t f) := by
  unfold onField
  extract_lets s₁
  have h₁ : Queued q s₁ := queued_ite (advance_queued h) h
  exact queued_ite (hf h₁) h₁

/-! ### The power-line modems (Sys2Proof/Machine/PlcOps.lean) -/

theorem modemOn_queued {i : Nat} {on : Bool} (h : Queued q s) : Queued q (s.modemOn i on) :=
  setFlag_queued (setFlag_queued h)

theorem plcFollow_queued {n : Nat} (h : Queued q s) : Queued q (s.plcFollow n) :=
  queued_ite (modemOn_queued h) (raise_queued (wr_queued (modemOn_queued h)))

theorem plcFollowAll_queued (h : Queued q s) : Queued q s.plcFollowAll := queued_forEach plcFollow_queued h

/-! ### The twin link (Sys2Proof/Machine/TwinBase.lean) -/

theorem forwardStop_queued {x : Ctx} {op mask peer : Nat} (h : Queued q s) :
    Queued q (s.forwardStop x op mask peer) :=
  queued_ite (complete_queued (queued_upd h)) (complete_queued h)

/-! ### Casks (Sys2Proof/Machine/CaskOps.lean) -/

theorem testCloses_queued {acts : List CaskAct} (h : Queued q s) : Queued q (s.testCloses acts) := by
  unfold testCloses
  refine queued_forEach (fun h₁ => ?_) h
  split
  · exact testSensor_queued h₁
  · exact h₁

theorem consentCheck_queued {k : Nat} (h : Queued q s) : Queued q (s.consentCheck k) := by
  unfold consentCheck
  extract_lets
  split
  · exact queued_ite (abortCask_queued h) (queued_ite h (abortCask_queued (raise_queued h)))
  · exact queued_ite h (setSlot_queued h)

theorem arm_queued {k mode tApply : Nat} {x : Option Ctx} (h : Queued q s) : Queued q (s.arm k mode tApply x) :=
  modSlot_queued h

theorem writeRecord_queued {k : Nat} {whole : Bool} (h : Queued q s) : Queued q (s.writeRecord k whole) := by
  unfold writeRecord
  extract_lets
  split
  rename_i hp
  have h₁ := queued_snd hp (queued_ite_snd (reserveNums_queued h) h)
  exact queued_ite (modSlot_queued (queued_upd h₁)) (abortCask_queued (queued_upd h₁))

theorem applyAct_queued {k i tApply : Nat} {low : Bool} {a : CaskAct} (h : Queued q s) :
    Queued q (s.applyAct k i tApply low a) := by
  unfold applyAct
  split
  · refine queued_ite h ?_
    split
    rename_i hp
    have h₁ := queued_fst hp (applyClose_queued h)
    extract_lets s₂
    have h₂ : Queued q s₂ := queued_forEach (fun h₂ => queued_ite (modCoil_queued h₂) h₂) h₁
    exact queued_ite (modSlot_queued h₂) h₂
  · exact openOutlet_queued h
  · exact modOutlet_queued h
  · exact modOutlet_queued h
  · exact metOpen_queued h
  · exact metClose_queued h
  · exact recOpen_queued h
  · exact recClose_queued h
  · exact readSigned_queued h
  · exact tariffForce_queued h
  · exact dispStart_queued h

theorem markRecord_queued {k : Nat} {early held : Bool} {mask : Nat} (h : Queued q s) :
    Queued q (s.markRecord k early held mask) :=
  queued_upd h

theorem caskDone_queued {k : Nat} (h : Queued q s) : Queued q (s.caskDone k) :=
  freeSlot_queued (finaliseOpt_queued (raise_queued (incSat_queued (markRecord_queued h))))

theorem useNums_queued {ns : List Nat} (h : Queued q s) : Queued q (s.useNums ns) := queued_upd h

theorem applySlot_queued {k : Nat} {low : Bool} (h : Queued q s) : Queued q (s.applySlot k low) :=
  useNums_queued (queued_forEach applyAct_queued (queued_ite h (useNums_queued h)))

theorem applyEarly_queued {k : Nat} (h : Queued q s) : Queued q (s.applyEarly k) :=
  modSlot_queued (useNums_queued (queued_forEach applyAct_queued (useNums_queued h)))

theorem lateApplies_queued {k : Nat} {applied : List (Nat × Nat)} (h : Queued q s) :
    Queued q (s.lateApplies k applied) :=
  queued_forEach (fun h₁ => raise_queued (incSat_queued h₁)) h

/-! ### Outlet sessions (Sys2Proof/Machine/SessionOps.lean) -/

theorem setSess_queued {n : Nat} {new : SessState} {reason flags : Nat} (h : Queued q s) :
    Queued q (s.setSess n new reason flags) := by
  unfold setSess
  exact plcFollow_queued (ownStatus_queued (noteCounts_queued (raise_queued (queued_ite (modOutlet_queued h)
    (wr_queued (modOutlet_queued h))))))

theorem offer_queued {n : Nat} {p : PilotOut} (h : Queued q s) : Queued q (s.offer n p) :=
  queued_ite h (stagePilot_queued h)

theorem leavePause_queued {n : Nat} (h : Queued q s) : Queued q (s.leavePause n) :=
  queued_ite (noteCounts_queued (modOutlet_queued h)) h

theorem sessionOver_queued {n reason : Nat} (h : Queued q s) : Queued q (s.sessionOver n reason) :=
  pmOff_queued (modOutlet_queued (queued_forEach wr_queued (cableEnd_queued (raise_queued (queued_ite (recClose_queued
    (leavePause_queued h)) (leavePause_queued h))))))

theorem endSession_queued {n reason : Nat} (h : Queued q s) : Queued q (s.endSession n reason) :=
  offer_queued (setSess_queued (sessionOver_queued h))

theorem waitEnd_queued {n reason : Nat} (h : Queued q s) : Queued q (s.waitEnd n reason) := modOutlet_queued h

theorem endOrWait_queued {n reason : Nat} (h : Queued q s) : Queued q (s.endOrWait n reason) :=
  queued_ite (waitEnd_queued h) (endSession_queued h)

theorem faultSession_queued {n reason : Nat} (h : Queued q s) : Queued q (s.faultSession n reason) := by
  unfold faultSession
  extract_lets _ s₁ s₂
  have h₁ : Queued q s₁ := queued_ite (sessionOver_queued h) h
  have h₂ : Queued q s₂ := queued_ite (outletSafe_queued h₁) (erem_queued h₁)
  exact queued_ite (waitEnd_queued h₂) (setSess_queued h₂)

theorem reactSafety_queued {n : Nat} (h : Queued q s) : Queued q (s.reactSafety n) :=
  queued_ite (queued_ite (endOrWait_queued h) (faultSession_queued h)) h

theorem dcTo_queued {n da dw : Nat} {off : Bool} (h : Queued q s) : Queued q (s.dcTo n da dw off) :=
  queued_ite (modOutlet_queued h) (stageSet_queued (modOutlet_queued h))

theorem offerW_queued {n watts : Nat} (h : Queued q s) : Queued q (s.offerW n watts) :=
  queued_ite (dcTo_queued (modOutlet_queued h)) (queued_ite (offer_queued (modOutlet_queued h)) (queued_ite
    (offer_queued (modOutlet_queued h)) (offer_queued (modOutlet_queued h))))

theorem requestClose_queued {n : Nat} (h : Queued q s) : Queued q (s.requestClose n) := by
  unfold requestClose
  exact setSess_queued (modOutlet_queued (testSensor_queued (setSlot_queued (wr_queued (queued_ite_snd
    (newSession_queued h) h)))))

theorem commitClose_queued {n : Nat} (h : Queued q s) : Queued q (s.commitClose n) := by
  unfold commitClose
  extract_lets
  refine queued_ite ?_ (arm_queued h)
  split
  · exact arm_queued h
  · exact modOutlet_queued (arm_queued h)

theorem closeApplied_queued {n held : Nat} (h : Queued q s) : Queued q (s.closeApplied n held) :=
  queued_ite h (queued_ite (queued_ite (faultSession_queued (modOutlet_queued h)) (endSession_queued
    (openOutlet_queued (modOutlet_queued h)))) (queued_ite (queued_ite (reactSafety_queued (modOutlet_queued h))
    (endSession_queued (modOutlet_queued h))) (setSess_queued (modOutlet_queued h))))

theorem closeGone_queued {n : Nat} (h : Queued q s) : Queued q (s.closeGone n) := queued_ite (endSession_queued h) h

theorem goReady_queued {n : Nat} (h : Queued q s) : Queued q (s.goReady n) := by
  unfold goReady
  extract_lets
  refine queued_ite h ?_
  split
  · exact queued_ite h (queued_ite (offer_queued (setSess_queued h)) (setSess_queued h))
  · exact queued_ite (setSess_queued h) h
  · exact h

theorem authorise_queued {n : Nat} {i : Identity} (h : Queued q s) : Queued q (s.authorise n i) :=
  goReady_queued (raise_queued (wr_queued (modOutlet_queued h)))

theorem authoriseCard_queued {n : Nat} {i : Identity} (h : Queued q s) : Queued q (s.authoriseCard n i) :=
  queued_ite (raise_queued h) (authorise_queued h)

theorem stopSession_queued {n reason : Nat} (h : Queued q s) : Queued q (s.stopSession n reason) := by
  unfold stopSession
  exact queued_ite (setSess_queued (startMstop_queued (modOutlet_queued (leavePause_queued h)))) (queued_ite
    (setSess_queued (startMstop_queued (modOutlet_queued (leavePause_queued h)))) (offer_queued (setSess_queued
    (startMstop_queued (modOutlet_queued (leavePause_queued h))))))

theorem stopHosted_queued {n reason : Nat} (h : Queued q s) : Queued q (s.stopHosted n reason) :=
  queued_ite h (queued_ite (startMstop_queued h) (offer_queued (startMstop_queued h)))

theorem stopAny_queued {n reason : Nat} (h : Queued q s) : Queued q (s.stopAny n reason) :=
  queued_ite (stopSession_queued h) (stopHosted_queued h)

theorem cardPresented_queued {i : Identity} (h : Queued q s) : Queued q (s.cardPresented i) := by
  unfold cardPresented
  split
  · exact authoriseCard_queued h
  · exact queued_upd h

theorem bindHeld_queued {n : Nat} (h : Queued q s) : Queued q (s.bindHeld n) := by
  unfold bindHeld
  split
  · exact queued_ite (authoriseCard_queued (queued_upd h)) (queued_ite (authorise_queued h) h)
  · exact queued_ite (authorise_queued h) h

theorem connect_queued {n : Nat} (h : Queued q s) : Queued q (s.connect n) := by
  unfold connect
  extract_lets _ _ _ _ _ s₁
  have h₁ : Queued q s₁ := setSess_queued (offer_queued (wr_queued (wr_queued (wr_queued (wr_queued (modOutlet_queued
    h))))))
  exact bindHeld_queued (queued_ite (cableQueue_queued h₁) h₁)

theorem unplugged_queued {n : Nat} (h : Queued q s) : Queued q (s.unplugged n) :=
  endOrWait_queued (queued_ite (erem_queued h) (caskSafety_queued h))

theorem clearAtA_queued {n : Nat} (h : Queued q s) : Queued q (s.clearAtA n) :=
  wr_queued (queued_forEach clearFault_queued h)

theorem vehicleLeft_queued {n : Nat} (h : Queued q s) : Queued q (s.vehicleLeft n) :=
  queued_ite (setSess_queued (offer_queued (queued_ite (raise_queued h) h))) (setSess_queued (wr_queued
    (modOutlet_queued (wr_queued h))))

theorem pilotDrives_queued {n : Nat} {p : Pilot} (h : Queued q s) : Queued q (s.pilotDrives n p) := by
  unfold pilotDrives
  extract_lets
  refine queued_ite h ?_
  split
  · exact queued_ite (queued_ite (setSess_queued (offer_queued (raise_queued h))) (queued_ite (setSess_queued
      (raise_queued h)) (connect_queued h))) h
  · exact queued_ite (vehicleLeft_queued h) h
  · exact queued_ite (vehicleLeft_queued h) h
  · exact h
  · exact h
  · exact queued_ite (unplugged_queued h) (queued_ite (reactSafety_queued h) (queued_ite (queued_ite
      (requestClose_queued h) h) (queued_ite (setSess_queued (openOutlet_queued h)) h)))

theorem enfRaise_queued {n watts : Nat} (h : Queued q s) : Queued q (s.enfRaise n watts) :=
  modOutlet_queued (wr_queued h)

theorem applyAlloc_queued {n watts limit : Nat} (h : Queued q s) : Queued q (s.applyAlloc n watts limit) :=
  queued_ite (modOutlet_queued h) (queued_ite (offerW_queued (raise_queued (noteCounts_queued (modOutlet_queued
    (wr_queued (wr_queued h)))))) (queued_ite (offerW_queued (raise_queued (wr_queued (enfRaise_queued (wr_queued
    h))))) (queued_ite h (offerW_queued h))))

theorem pauseSession_queued {n : Nat} (h : Queued q s) : Queued q (s.pauseSession n) := by
  unfold pauseSession
  exact setSess_queued (queued_ite (dcTo_queued (wr_queued (wr_queued (queued_upd (modOutlet_queued h))))) (queued_ite
    (modOutlet_queued (offer_queued (wr_queued (wr_queued (queued_upd (modOutlet_queued h)))))) (modOutlet_queued
    (wr_queued (wr_queued (queued_upd (modOutlet_queued h)))))))

theorem queuePositions_queued (h : Queued q s) : Queued q s.queuePositions :=
  queued_forEach (fun h₁ => queued_forEach wr_queued h₁) h

theorem pauseShare_queued {n : Nat} (h : Queued q s) : Queued q (s.pauseShare n) := by
  unfold pauseShare
  exact raise_queued (queuePositions_queued (pauseSession_queued h))

theorem resumeSession_queued {n watts : Nat} (h : Queued q s) : Queued q (s.resumeSession n watts) := by
  unfold resumeSession
  extract_lets _ _ _ s₁
  have h₁ : Queued q s₁ := offerW_queued (raise_queued (wr_queued (enfRaise_queued (wr_queued (setSess_queued
    (wr_queued (wr_queued (modOutlet_queued (leavePause_queued h)))))))))
  exact queued_ite (stageSet_queued h₁) h₁

theorem followTrack_queued {n : Nat} (h : Queued q s) : Queued q (s.followTrack n) := by
  unfold followTrack
  extract_lets _ x₁
  clear_value x₁
  split
  · exact modOutlet_queued (wr_queued h)
  · exact queued_ite (modOutlet_queued (wr_queued h)) (wr_queued h)
  · exact queued_ite (modOutlet_queued (wr_queued h)) (modOutlet_queued (wr_queued h))

theorem settleShare_queued {w : Share} {limit n : Nat} (h : Queued q s) : Queued q (s.settleShare w limit n) :=
  queued_ite (queued_ite (resumeSession_queued (modOutlet_queued (modOutlet_queued h))) (applyAlloc_queued
    (modOutlet_queued (modOutlet_queued h)))) (queued_ite (modOutlet_queued h) (queued_ite (modOutlet_queued
    (modOutlet_queued h)) (pauseShare_queued (modOutlet_queued h))))

theorem waitMinutes_queued {n : Nat} (h : Queued q s) : Queued q (s.waitMinutes n) := queued_ite (wr_queued h) h

theorem reserveHost_queued {n : Nat} (h : Queued q s) : Queued q (s.reserveHost n) :=
  queued_ite (wr_queued (wr_queued h)) h

theorem allocatorRun_queued (h : Queued q s) : Queued q s.allocatorRun := by
  unfold allocatorRun
  split
  extract_lets _ s₁
  have h₁ : Queued q s₁ := queued_forEach reserveHost_queued h
  exact queued_forEach waitMinutes_queued (queuePositions_queued (queued_forEach applyAlloc_queued (queued_forEach
    settleShare_queued (queued_forEach followTrack_queued (queued_ite (wr_queued h₁) (raise_queued (queued_upd
    (wr_queued h₁))))))))

theorem rampDc_queued {n : Nat} (h : Queued q s) : Queued q (s.rampDc n) := by
  unfold rampDc
  split
  · exact queued_ite h (stageSet_queued h)
  · exact h

theorem rampReduce_queued {n : Nat} (h : Queued q s) : Queued q (s.rampReduce n) := by
  unfold rampReduce
  split
  · exact h
  · exact queued_ite (stageSet_queued (modOutlet_queued h)) (stageSet_queued h)

theorem learnPhases_queued {n : Nat} (h : Queued q s) : Queued q (s.learnPhases n) :=
  queued_ite (modOutlet_queued h) h

theorem pauseOpen_queued {n : Nat} (h : Queued q s) : Queued q (s.pauseOpen n) := by
  unfold pauseOpen
  split
  · exact queued_ite (modOutlet_queued (openOutlet_queued h)) h
  · exact h

theorem restPilot_queued {n : Nat} (h : Queued q s) : Queued q (s.restPilot n) := by
  unfold restPilot
  extract_lets _ s₁
  have h₁ : Queued q s₁ := queued_ite (clearAtA_queued h) h
  exact queued_ite (queued_ite (pilotDrives_queued h₁) h₁) h

theorem sessionCycle_queued {n : Nat} (h : Queued q s) : Queued q (s.sessionCycle n) := by
  unfold sessionCycle
  extract_lets _ s₁ s₂ s₃ s₄ _ _ s₅
  have h₁ : Queued q s₁ := closeGone_queued (restPilot_queued (reactSafety_queued h))
  have h₂ : Queued q s₂ := queued_ite (endSession_queued h₁) h₁
  have h₃ : Queued q s₃ := modOutlet_queued h₂
  have h₄ : Queued q s₄ := by
    unfold s₄
    split
    · exact queued_ite (pauseShare_queued h₃) (applyAlloc_queued h₃)
    · exact h₂
  have h₅ : Queued q s₅ := queued_ite (requestClose_queued (modOutlet_queued h₄)) (queued_ite (setSess_queued
    (openOutlet_queued h₄)) h₄)
  exact pauseOpen_queued (learnPhases_queued (rampDc_queued (rampReduce_queued (queued_ite (offer_queued h₅) h₅))))

/-! ### The allocator (Sys2Proof/Machine/Alloc.lean) -/

theorem modPm_queued {n i : Nat} {f : PowerModule → PowerModule} (h : Queued q s) : Queued q (s.modPm n i f) :=
  modOutlet_queued h

theorem capNow_queued {n : Nat} (h : Queued q s) : Queued q (s.capNow n) := queued_ite (applyAlloc_queued h) h

/-! ### Filters and trackers (Sys2Proof/Machine/FiltOps.lean) -/

theorem wrFit_queued {F : Fld} {n v : Nat} (h : Queued q s) : Queued q (s.wrFit F n v) :=
  queued_ite (wr_queued h) (wr_queued (takeFree_queued h))

theorem wrFitInt_queued {F : Fld} {n : Nat} {z : Int} (h : Queued q s) : Queued q (s.wrFitInt F n z) :=
  queued_ite (wrInt_queued h) (wr_queued (takeFree_queued h))

theorem notePeriod_queued {m per : Nat} {ok : Bool} (h : Queued q s) : Queued q (s.notePeriod m per ok) :=
  queued_ite (wr_queued (modTrk_queued h)) (modTrk_queued h)

theorem holdTrk_queued {m reason frozen : Nat} (h : Queued q s) : Queued q (s.holdTrk m reason frozen) :=
  setTrk_queued (modTrk_queued h)

theorem lockTrk_queued {m cross reason : Nat} (h : Queued q s) : Queued q (s.lockTrk m cross reason) :=
  setTrk_queued (wr_queued (modTrk_queued h))

theorem period_queued {m cross amp : Nat} (h : Queued q s) : Queued q (s.period m cross amp) :=
  queued_ite h (queued_ite (modTrk_queued h) (queued_ite (queued_ite (holdTrk_queued (modTrk_queued (modTrk_queued
    (notePeriod_queued (wr_queued h))))) (queued_ite (holdTrk_queued (modTrk_queued (modTrk_queued (notePeriod_queued
    (wr_queued h))))) (queued_ite (holdTrk_queued (modTrk_queued (modTrk_queued (notePeriod_queued (wr_queued h)))))
    (modTrk_queued (modTrk_queued (notePeriod_queued (wr_queued h))))))) (queued_ite (lockTrk_queued (modTrk_queued
    (notePeriod_queued (wr_queued h)))) (modTrk_queued (notePeriod_queued (wr_queued h))))))

theorem freqCycle_queued {m z : Nat} (h : Queued q s) : Queued q (s.freqCycle m z) := queued_ite h (modMp_queued h)

theorem beginCycle_queued {m z : Nat} (h : Queued q s) : Queued q (s.beginCycle m z) :=
  openCycle_queued (modTrk_queued (freqCycle_queued h))

theorem setCal_queued {c : Nat} {gain trim temp : Int} (h : Queued q s) : Queued q (s.setCal c gain trim temp) :=
  queued_upd h

theorem compensate_queued {c : Nat} {temp : Int} (h : Queued q s) : Queued q (s.compensate c temp) :=
  wr_queued (wrFitInt_queued (wrFitInt_queued h))

theorem compensateGroups_queued {mask : Nat} {temp : Int} (h : Queued q s) :
    Queued q (s.compensateGroups mask temp).2 :=
  queued_upd (queued_forEach (fun h₁ => startBlend_queued (queued_forEach compensate_queued h₁)) h)

/-! ### The filter chains (Sys2Proof/Machine/ChainOps.lean) -/

theorem feedChan_queued {upTo c : Nat} {f : Feed} (h : Queued q s) : Queued q (s.feedChan upTo c f) := by
  unfold feedChan
  refine queued_ite h ?_
  extract_lets _ _ _ _ _ _ _ _ s₁ s₂
  have h₁ : Queued q s₁ := setChain_queued h
  have h₂ : Queued q s₂ := queued_ite h₁ (filtOverflow_queued h₁)
  exact queued_ite h₂ (addSat_queued h₂)

theorem resampleNext_queued {c : Nat} (h : Queued q s) : OptQueued q (s.resampleNext c) := by
  unfold resampleNext
  extract_lets _ _ _ _ go
  have hgo : ∀ j i, Queued q (go j i) := fun _ _ => setChain_queued h
  split
  · split
    · exact optQueued_ite (optQueued_some (hgo _ _)) optQueued_none
    · exact optQueued_none
  · refine optQueued_ite optQueued_none (optQueued_ite ?_ (optQueued_some (setSamples_queued (hgo _ _))))
    split
    · exact optQueued_some (queued_ite (hgo _ _) (hgo _ _))
    · exact optQueued_none

theorem resample_queued {c : Nat} : ∀ {k : Nat} {s : State}, Queued q s → Queued q (resample c k s)
  | 0, _, h => h
  | k + 1, s, h => by
    unfold resample
    split
    · exact resample_queued (resampleNext_queued h _ ‹_›)
    · exact h

theorem respace_queued {m no : Nat} (h : Queued q s) : Queued q (s.respace m no) :=
  queued_forEach (fun h₁ => setSamples_queued (queued_ite (setChain_queued h₁) h₁)) h

theorem feedAll_queued {upTo : Nat} {feed : List Feed} (h : Queued q s) : Queued q (s.feedAll upTo feed) :=
  queued_forEach (fun h₁ => queued_ite h₁ (queued_ite (feedChan_queued h₁) (resample_queued (feedChan_queued h₁)))) h

/-! ### Grid cycles (Sys2Proof/Machine/CycleOps.lean) -/

theorem pulseDue_queued {m start stop : Nat} {steps : List (Int × Int)} {before : List Nat} (h : Queued q s) :
    Queued q (s.pulseDue m start stop steps before) :=
  queued_forEach (fun h₁ => backlog_queued (queued_upd h₁)) h

theorem putPart_queued {m start : Nat} {p : CyclePart} {inc : List Nat} (h : Queued q s) :
    Queued q (s.putPart m start p inc) :=
  flushPends_queued (pulseDue_queued (energyPart_queued (modMp_queued h)))

theorem calSeen_queued {m : Nat} {w : Window} (h : Queued q s) : Queued q (s.calSeen m w) := by
  unfold calSeen
  split
  · exact queued_upd h
  · exact h

theorem windowAdd_queued {m : Nat} {c : Cycle} {stop : Nat} (h : Queued q s) : Queued q (s.windowAdd m c stop) :=
  queued_ite (modMp_queued h) (calSeen_queued (modMp_queued (modMp_queued h)))

theorem cycleEnergy_queued {m : Nat} {c : Cycle} {stop : Nat} (h : Queued q s) : Queued q (s.cycleEnergy m c stop) := by
  unfold cycleEnergy
  extract_lets _ _ _ _ _ _ s₁
  have h₁ : Queued q s₁ := by
    refine queued_forEach_snd (fun hp => ?_) (modMp_queued h)
    dsimp only
    exact putPart_queued hp
  exact windowAdd_queued (queued_ite h₁ (flowTrack_queued h₁))

theorem waveCycle_queued {m no start stop : Nat} (h : Queued q s) : Queued q (s.waveCycle m no start stop) :=
  queued_ite h (queued_forEach waveAdd_queued h)

theorem meterNext_queued {m : Nat} (h : Queued q s) : OptQueued q (s.meterNext m) := by
  unfold meterNext
  refine optQueued_ite optQueued_none ?_
  extract_lets _ put
  have hput : ∀ c start stop, Queued q (put c start stop) := fun _ _ _ =>
    modMp_queued (cycleEnergy_queued (waveCycle_queued h))
  refine optQueued_ite (optQueued_ite optQueued_none (optQueued_some (hput _ _ _))) ?_
  split
  · exact optQueued_ite (optQueued_some (hput _ _ _)) optQueued_none
  · split
    · exact optQueued_ite (optQueued_some (modMp_queued h)) optQueued_none
    · exact optQueued_none

theorem meterSome_queued {m : Nat} : ∀ {k : Nat} {s : State}, Queued q s → Queued q (meterSome m k s)
  | 0, _, h => h
  | k + 1, s, h => by
    unfold meterSome
    split
    · exact meterSome_queued (meterNext_queued h _ ‹_›)
    · exact h

theorem meterTrk_queued {k : Nat} (h : Queued q s) : Queued q (s.meterTrk k) := queued_forEach meterSome_queued h

theorem meterAll_queued {upTo : Nat} {feed : List Feed} (h : Queued q s) : Queued q (s.meterAll upTo feed) :=
  queued_forEach meterSome_queued (feedAll_queued h)

theorem meterStop_queued {feed : List Feed} (h : Queued q s) : Queued q (s.meterStop feed) := by
  unfold meterStop
  extract_lets
  refine queued_forEach (fun h₂ => queued_ite (cycleEnergy_queued h₂) ?_) (meterAll_queued h)
  split
  · exact cycleEnergy_queued h₂
  · exact h₂

/-! ### Load switches (Sys2Proof/Machine/LswOps.lean) -/

theorem modLsw_queued {n : Nat} {f : LswCh → LswCh} (h : Queued q s) : Queued q (s.modLsw n f) := queued_upd h

theorem lswGo_queued {n st : Nat} (h : Queued q s) : Queued q (s.lswGo n st) := modLsw_queued (wr_queued h)

theorem pwmPeriod_queued {n no : Nat} (h : Queued q s) : Queued q (s.pwmPeriod n no) := modLsw_queued h

theorem turnOn_queued {n : Nat} {retry : Bool} (h : Queued q s) : Queued q (s.turnOn n retry) :=
  queued_ite (modLsw_queued (lswGo_queued h)) (lswGo_queued (queued_ite (wr_queued (modLsw_queued h)) (modLsw_queued
    h)))

theorem turnOff_queued {n st : Nat} (h : Queued q s) : Queued q (s.turnOff n st) := modLsw_queued (lswGo_queued h)

theorem lswTrip_queued {n cause ma tj : Nat} (h : Queued q s) : Queued q (s.lswTrip n cause ma tj) :=
  raise_queued (queued_ite (wr_queued (turnOff_queued (incSat_queued h))) (queued_ite (lswGo_queued (incSat_queued h))
    (modLsw_queued (lswGo_queued (incSat_queued h)))))

theorem budgetOff_queued {chans : List Nat} {ma : Nat → Nat} {limit mean : Nat} (h : Queued q s) :
    Queued q (s.budgetOff chans ma limit mean) := by
  unfold budgetOff
  split
  · exact h
  · exact raise_queued (incSat_queued (wr_queued (turnOff_queued h)))

theorem lswSafeOff_queued (h : Queued q s) : Queued q s.lswSafeOff :=
  queued_ite h (queued_forEach (fun h₁ => wr_queued (turnOff_queued h₁)) h)

theorem lswDisable_queued {inst : Nat} (h : Queued q s) : Queued q (s.lswDisable inst) :=
  queued_forEach turnOff_queued h

theorem lswShed_queued (h : Queued q s) : Queued q s.lswShed := queued_forEach turnOff_queued h

theorem vlsLow_queued {b mv : Nat} (h : Queued q s) : Queued q (s.vlsLow b mv) :=
  queued_ite h (queued_ite (queued_upd (wr_queued h)) (queued_forEach (fun h₁ => modLsw_queued (queued_ite
    (lswGo_queued h₁) h₁)) (raise_queued (wr_queued (queued_upd (wr_queued h))))))

theorem vlsBack_queued {b mv : Nat} (h : Queued q s) : Queued q (s.vlsBack b mv) := by
  unfold vlsBack
  refine queued_ite h ?_
  extract_lets
  refine queued_forEach (fun h₂ => ?_) (raise_queued (wr_queued (wr_queued h)))
  split
  · exact h₂
  · exact queued_ite (turnOn_queued (modLsw_queued h₂)) (modLsw_queued h₂)

/-! ### Cask (Sys2Proof/Machine/Cask.lean) -/

theorem validated_queued {k : Nat} (h : Queued q s) : Queued q (s.validated k) := by
  unfold validated
  extract_lets _ _ s₁
  have h₁ : Queued q s₁ := queued_forEach dispArm_queued (setSlot_queued h)
  refine queued_ite h ?_
  split
  · exact abortCask_queued h
  · refine queued_ite h ?_
    split
    · exact abortCask_queued h
    · split
      · exact complete_queued h₁
      · exact h₁

theorem commitCask_queued {x : Ctx} {k mode instant : Nat} (h : Queued q s) :
    Queued q (s.commitCask x k mode instant) := by
  unfold commitCask
  extract_lets
  split
  · exact complete_queued (arm_queued h)
  · split
    · exact complete_queued (arm_queued h)
    · exact complete_queued h
  · exact queued_ite (complete_queued h) (queued_ite (complete_queued h) (complete_queued (arm_queued h)))
  · exact complete_queued (arm_queued h)
  · exact complete_queued h

theorem disableSession_queued {n : Nat} (h : Queued q s) : Queued q (s.disableSession n) := by
  unfold disableSession
  split
  · exact stopSession_queued h
  · exact stopSession_queued h
  · exact stopSession_queued h
  · exact h
  · exact queued_ite (endOrWait_queued (caskSafety_queued h)) (stopHosted_queued (caskSafety_queued h))

theorem cancelQueued_queued {x : Ctx} {block inst : Nat} (h : Queued q s) :
    Queued q (s.cancelQueued x block inst).2 :=
  queued_forEach complete_queued h

theorem disableSteps_queued {x : Ctx} {block inst : Nat} {done : Bool} (h : Queued q s) :
    Queued q (s.disableSteps x block inst done) := by
  unfold disableSteps
  split
  rename_i hp
  have h₁ := queued_snd hp (cancelQueued_queued h)
  extract_lets _ s₂
  have h₂ : Queued q s₂ := by
    unfold s₂
    refine queued_forEach (fun h₂ => ?_) (queued_ite (queued_forEach dropRegion_queued h₁) h₁)
    extract_lets
    split
    · exact queued_ite (abortCask_queued h₂) h₂
    · exact h₂
  exact queued_upd (queued_forEach disableSession_queued h₂)

/-! ### Ledger (Sys2Proof/Machine/Ledger.lean) -/

theorem commitState_queued {ok : Bool} (h : Queued q s) : Queued q (s.commitState ok) := by
  unfold commitState
  extract_lets _ _ _ s₁
  have h₁ : Queued q s₁ := queued_ite (queued_upd h) (queued_upd h)
  exact queued_ite h₁ (incSat_queued h₁)

theorem demandBoundary_queued {sec : Nat} (h : Queued q s) : Queued q (s.demandBoundary sec) :=
  queued_ite h (queued_ite (queued_upd h) (addBoundary_queued h))

theorem syncShift_queued {nominal : Nat} {shift : Int} {moved : Bool} (h : Queued q s) :
    Queued q (s.syncShift nominal shift moved) :=
  raise_queued (append_queued h)

theorem demandSync_queued {at_ : Nat} {falling : Bool} (h : Queued q s) : Queued q (s.demandSync at_ falling) :=
  queued_ite h (queued_ite (syncShift_queued h) (addBoundary_queued (syncShift_queued (queued_upd h))))

theorem releaseHeld_queued (h : Queued q s) : Queued q s.releaseHeld := by
  unfold releaseHeld
  split
  · exact addBoundary_queued (queued_upd h)
  · exact h

theorem billEdge_queued (h : Queued q s) : Queued q s.billEdge := by
  unfold billEdge
  split
  · exact addBoundary_queued (queued_upd h)
  · exact h

theorem calClose_queued {cause : Nat} (h : Queued q s) : Queued q (s.calClose cause) := by
  unfold calClose
  split
  · exact h
  · exact legalRepaint_queued (raise_queued (append_queued (wr_queued (queued_upd h))))

theorem sealChange_queued {level : Bool} (h : Queued q s) : Queued q (s.sealChange level) :=
  queued_ite (queued_upd (setFlag_queued h)) (calClose_queued (queued_upd (setFlag_queued h)))

/-! ### The stops (Sys2Proof/Machine/StopOps.lean) -/

theorem putEst_queued {m : Nat} {mw : Int} {ns : Option Nat} (h : Queued q s) : Queued q (s.putEst m mw ns) :=
  wr_queued (wr_queued (wr_queued (wr_queued h)))

theorem pourCask_queued {k : Nat} (h : Queued q s) : Queued q (s.pourCask k) :=
  queued_ite h (markRecord_queued (modSlot_queued (applyEarly_queued h)))

theorem writeMark_queued {l : Nat} (h : Queued q s) : Queued q (s.writeMark l) := wr_queued (wr_queued (queued_upd h))

theorem pourSteps_queued {feed : List Feed} (h : Queued q s) : Queued q (s.pourSteps feed) := by
  unfold pourSteps
  extract_lets _ s₁ s₂
  have h₁ : Queued q s₁ := releaseHeld_queued (meterStop_queued h)
  have h₂ : Queued q s₂ := by
    unfold s₂
    split
    · exact queued_ite (transaction_queued h₁) h₁
    · exact h₁
  exact writeMark_queued (commitState_queued (queued_forEach flushPends_queued (queued_forEach pourCask_queued h₂)))

theorem lastPour_queued {feed : List Feed} (h : Queued q s) : Queued q (s.lastPour feed) :=
  wr_queued (wr_queued (queued_upd (takeFree_queued (pourSteps_queued (queued_upd (lswShed_queued (dispCut_queued
    h)))))))

theorem pourReturn_queued (h : Queued q s) : Queued q s.pourReturn :=
  dispWake_queued (queued_forEach (fun h₁ => queued_ite (abortCask_queued h₁) h₁) (tamper_queued (queued_upd
    (raise_queued (wr_queued (queued_forEach (fun h₁ => modMp_queued (putEst_queued h₁)) (queued_upd (advance_queued
    h))))))))

theorem outputsOff_queued (h : Queued q s) : Queued q s.outputsOff :=
  wr_queued (queued_upd (queued_forEach turnOff_queued (queued_forEach modOutlet_queued h)))

theorem powerOff_queued (h : Queued q s) : Queued q s.powerOff := outputsOff_queued (setFlag_queued (queued_upd h))

theorem railFall_queued (h : Queued q s) : Queued q s.railFall :=
  queued_upd (powerOff_queued (queued_forEach wr_queued (wr_queued (queued_upd (queued_ite h (wr_queued (queued_upd
    h)))))))

theorem softRestart_queued {cause : Nat} (h : Queued q s) : Queued q (s.softRestart cause) :=
  queued_upd (powerOff_queued (dispCut_queued h))

theorem pourZero_queued (h : Queued q s) : Queued q s.pourZero :=
  wr_queued (wr_queued (queued_upd (queued_upd (pourSteps_queued h))))

/-! ### Twin operation (Sys2Proof/Machine/TwinOps.lean) -/

theorem noteReady_queued (h : Queued q s) : Queued q s.noteReady := setFlag_queued h

theorem setRole_queued {new : Nat} {cause : Option Nat} (h : Queued q s) : Queued q (s.setRole new cause) := by
  unfold setRole
  cases cause with
  | some c => exact raise_queued (noteReady_queued (append_queued (queued_upd (wr_queued (wr_queued h)))))
  | none =>
    exact raise_queued (noteReady_queued (append_queued (queued_upd (wr_queued (wr_queued (takeFree_queued h))))))

theorem peerEvent_queued (h : Queued q s) : Queued q s.peerEvent := raise_queued h

theorem twinStart_queued (h : Queued q s) : Queued q s.twinStart :=
  queued_ite (setRole_queued (outputsOff_queued h)) (queued_ite (setRole_queued h) h)

theorem giveUp_queued {cause : Nat} (h : Queued q s) : Queued q (s.giveUp cause) := by
  unfold giveUp
  exact setRole_queued (queued_upd (queued_ite h (queued_forEach (fun h₁ => queued_ite (abortCask_queued h₁) h₁) h)))

theorem twinRelease_queued (h : Queued q s) : Queued q s.twinRelease :=
  queued_upd (queued_forEach modOutlet_queued (queued_forEach (fun h₁ => modLsess_queued (wr_queued h₁))
    (outputsOff_queued h)))

theorem loadCopy_queued {c : TwinCopy} (h : Queued q s) : Queued q (s.loadCopy c) := queued_upd (queued_upd h)

theorem takeOverCycle_queued (h : Queued q s) : Queued q s.takeOverCycle :=
  queued_ite h (queued_forEach (fun h₁ => queued_ite (queued_ite (endSession_queued (queued_upd h₁)) (queued_upd h₁))
    (queued_ite (holdFrom_queued (modCoil_queued h₁)) (faultSession_queued (openOutlet_queued (queued_upd h₁))))) h)

theorem carrySession_queued {c : Carried} (h : Queued q s) : Queued q (s.carrySession c) :=
  queued_ite h (modLsess_queued (wr_queued (wr_queued (wr_queued (wr_queued (wr_queued (wr_queued h)))))))

theorem takeOverDone_queued (h : Queued q s) : Queued q s.takeOverDone := by
  unfold takeOverDone
  extract_lets
  refine queued_forEach (fun h₃ => ?_) (setRole_queued (incSat_queued (queued_forEach carrySession_queued h)))
  split
  · exact stopSession_queued h₃
  · exact stopSession_queued h₃
  · exact stopSession_queued h₃
  · exact h₃
  · exact endSession_queued h₃

theorem shadowNote_queued {c : TwinCopy} (h : Queued q s) : Queued q (s.shadowNote c) := queued_upd h

/-! ### Key (Sys2Proof/Machine/Key.lean) -/

theorem recoveryOutlets_queued (h : Queued q s) : Queued q s.recoveryOutlets :=
  queued_ite h (queued_forEach (fun h₁ => queued_ite (setSess_queued (driveF_queued h₁)) h₁) h)

theorem withTree_queued {x : Ctx} {f : State → State} (h : Queued q s) (hf : ∀ {s}, Queued q s → Queued q (f s)) :
    Queued q (s.withTree x f) :=
  queued_ite (complete_queued h) (queued_ite (complete_queued h) (hf h))

theorem onNode_queued {x : Ctx} {p : List (List Byte)} {f : KNode → State → State} (h : Queued q s) (hf : ∀ {x s},
    Queued q s → Queued q (f x s)) :
    Queued q (s.onNode x p f) := by
  unfold onNode
  refine withTree_queued h (fun h₁ => ?_)
  split
  · exact complete_queued h₁
  · exact complete_queued h₁
  · exact hf h₁

theorem owned_queued {x : Ctx} {g : OwnerSig} {bad : Option Nat} {f : State → State} (h : Queued q s) (hf : ∀ {s},
    Queued q s → Queued q (f s)) :
    Queued q (s.owned x g bad f) := by
  unfold owned
  split
  · exact complete_queued h
  · exact complete_queued h
  · exact hf (ownerTook_queued h)

theorem withCreds_queued {x : Ctx} {f : State → State} (h : Queued q s) (hf : ∀ {s}, Queued q s → Queued q (f s)) :
    Queued q (s.withCreds x f) :=
  withTree_queued h hf

theorem endLoad_queued (h : Queued q s) : Queued q s.endLoad := wr_queued (wr_queued (queued_upd h))

theorem credFlip_queued {m : Manifest} (h : Queued q s) : Queued q (s.credFlip m) :=
  raise_queued (endLoad_queued (wr_queued (wr_queued (wr_queued (wr_queued (queued_upd h))))))

/-! ### Trellis (Sys2Proof/Machine/TrellisOps.lean) -/

theorem setTrx_queued {new reason : Nat} (h : Queued q s) : Queued q (s.setTrx new reason) :=
  queued_upd (raise_queued (wr_queued h))

theorem modLink_queued {n k : Nat} {f : TLink → TLink} (h : Queued q s) : Queued q (s.modLink n k f) := queued_upd h

theorem showLink_queued {n : Nat} (h : Queued q s) : Queued q (s.showLink n) :=
  wr_queued (wr_queued (wr_queued (wr_queued (wr_queued h))))

theorem rerouteOne_queued {ns : List Nat} {d : Nat} (h : Queued q s) : Queued q (s.rerouteOne ns d) := by
  unfold rerouteOne
  extract_lets
  split
  extract_lets s₁
  have h₁ : Queued q s₁ := wr_queued (wr_queued (wr_queued h))
  exact queued_ite (raise_queued (incSat_queued h₁)) h₁

theorem reroute_queued (h : Queued q s) : Queued q s.reroute :=
  wr_queued (wr_queued (queued_forEach rerouteOne_queued h))

theorem linkResult_queued {n k : Nat} {failed : Bool} (h : Queued q s) : Queued q (s.linkResult n k failed) :=
  reroute_queued (showLink_queued (modLink_queued h))

theorem hear_queued {h' : THdr} (h : Queued q s) : Queued q (s.hear h') := by
  unfold hear
  extract_lets _ s₁ _ _ s₂
  have h₁ : Queued q s₁ := modLink_queued h
  have h₂ : Queued q s₂ := by
    unfold s₂
    split
    · exact queued_upd (wr_queued h₁)
    · exact wr_queued h₁
  exact reroute_queued (showLink_queued h₂)

theorem setTq_queued {c : Nat} {fs : List TFrame} (h : Queued q s) : Queued q (s.setTq c fs) := queued_upd h

theorem enqueue_queued {f : TFrame} (h : Queued q s) : Queued q (s.enqueue f) := queued_ite h (setTq_queued h)

theorem nextSeq_queued (h : Queued q s) : Queued q s.nextSeq.2 := queued_upd h

theorem send_queued {typ cls dst : Nat} {payload : List Nat} {via : Nat} {ctx : Option Ctx} (h : Queued q s) :
    Queued q (s.send typ cls dst payload via ctx) :=
  enqueue_queued (nextSeq_queued h)

theorem nextCtr_queued (h : Queued q s) : Queued q s.nextCtr.2 := queued_upd h

theorem transmit_queued {f : TFrame} {rx : Nat} (h : Queued q s) : Queued q (s.transmit f rx).2 :=
  queued_upd (nextCtr_queued h)

theorem frameDone_queued {f : TFrame} {outcome : Nat} (h : Queued q s) : Queued q (s.frameDone f outcome) := by
  unfold frameDone
  split
  · exact h
  · exact finalise_queued (raise_queued h)

theorem cancelFrames_queued (h : Queued q s) : Queued q s.cancelFrames :=
  queued_forEach frameDone_queued (queued_upd h)

theorem mainsModems_queued {on : Bool} (h : Queued q s) : Queued q (s.mainsModems on) :=
  modemOn_queued (modemOn_queued h)

theorem listen_queued {reason : Nat} (h : Queued q s) : Queued q (s.listen reason) :=
  setTrx_queued (wr_queued (mainsModems_queued (queued_upd h)))

theorem trellisEn_queued (h : Queued q s) : Queued q s.trellisEn :=
  queued_ite (queued_ite (listen_queued h) h) (queued_ite h (setTrx_queued (wr_queued (mainsModems_queued
    (cancelFrames_queued h)))))

theorem joinReq_queued {coord via reason : Nat} (h : Queued q s) : Queued q (s.joinReq coord via reason) :=
  send_queued (queued_upd (setTrx_queued (wr_queued h)))

theorem dequeue_queued {f : TFrame} (h : Queued q s) : Queued q (s.dequeue f) := setTq_queued h

theorem receive_queued {h' : THdr} {typ : Nat} {payload : List Nat} {f : State → State} (h : Queued q s) (hf : ∀ {s},
    Queued q s → Queued q (f s)) :
    Queued q (s.receive h' typ payload f) := by
  unfold receive
  refine queued_ite h (queued_ite (incSat_queued h) ?_)
  extract_lets _ _ _ s₁ _ s₂ _ _ s₃ _ _ s₄
  have h₁ : Queued q s₁ := hear_queued (queued_upd h)
  have h₂ : Queued q s₂ := queued_ite (transmit_queued h₁) h₁
  have h₃ : Queued q s₃ := queued_upd h₂
  have h₄ : Queued q s₄ := queued_ite (enqueue_queued h₃) h₃
  exact queued_ite h₁ (queued_ite h₂ (queued_ite (hf h₄) h₄))

theorem holdStart_queued (h : Queued q s) : Queued q s.holdStart := queued_ite h (wrInt_queued (queued_upd h))

theorem alignNote_queued (h : Queued q s) : Queued q s.alignNote := queued_ite h (raise_queued (queued_upd h))

theorem moveStart_queued {target : Nat} (h : Queued q s) : Queued q (s.moveStart target) :=
  holdStart_queued (queued_upd h)

theorem every_queued {k n : Nat} {f : State → State} (h : Queued q s) (hf : ∀ {s}, Queued q s → Queued q (f s)) :
    Queued q (s.every k n f) :=
  queued_ite h (hf (queued_upd h))

theorem limitApply_queued {validity : Nat} {entries : List (Nat × Nat)} {src : Nat} (h : Queued q s) :
    Queued q (s.limitApply validity entries src) := by
  unfold limitApply
  extract_lets
  split
  · exact h
  · exact raise_queued (queued_upd (wr_queued h))

theorem serveNext_queued (h : Queued q s) : Queued q s.serveNext := by
  unfold serveNext
  split
  · exact queued_ite h (queued_ite (queued_upd h) (queued_forEach send_queued (queued_upd h)))
  · exact queued_upd h
  · exact h

/-! ### Updates (Sys2Proof/Machine/UpdOps.lean) -/

theorem updGo_queued {new status : Nat} (h : Queued q s) : Queued q (s.updGo new status) :=
  raise_queued (wr_queued (queued_ite h (wr_queued h)))

theorem updTouch_queued {src : Nat} (h : Queued q s) : Queued q (s.updTouch src) := queued_ite (queued_upd h) h

theorem updForget_queued (h : Queued q s) : Queued q s.updForget := wr_queued (wr_queued (queued_upd h))

theorem updRelease_queued (h : Queued q s) : Queued q s.updRelease := wr_queued h

theorem updProgram_queued {b : Nat} {data : List Nat} (h : Queued q s) : Queued q (s.updProgram b data) :=
  queued_upd h

theorem updMark_queued {b : Nat} {data : List Nat} (h : Queued q s) : Queued q (s.updMark b data) :=
  wr_queued (queued_upd (updProgram_queued h))

theorem updFresh_queued {m : TamecMan} {bs : List Nat} (h : Queued q s) : Queued q (s.updFresh m bs) :=
  wr_queued (wr_queued (queued_upd (updProgram_queued h)))

theorem updFull_queued (h : Queued q s) : Queued q s.updFull := queued_ite (updGo_queued h) h

theorem updErase_queued (h : Queued q s) : Queued q s.updErase := queued_upd h

theorem updBegin_queued {src node : Nat} {bs : List Nat} {sigs : Bool × Bool} (h : Queued q s) :
    Queued q (s.updBegin src node bs sigs).2.2 := by
  unfold updBegin
  extract_lets _ _ _ s₁
  have h₁ : Queued q s₁ := updTouch_queued (wr_queued h)
  refine queued_ite_thd h (queued_ite_thd h ?_)
  split
  · exact queued_ite (tamper_queued h) h
  · exact queued_ite_thd (updFull_queued (updGo_queued (queued_ite h₁ (updFresh_queued h₁)))) (queued_ite_thd
      (updTouch_queued h) (queued_ite_thd (updTouch_queued (updFresh_queued h)) h))

theorem updBlock_queued {src b : Nat} {data : List Nat} (h : Queued q s) : Queued q (s.updBlock src b data).2 := by
  unfold updBlock
  split
  · exact h
  · exact queued_ite_snd h (queued_ite_snd h (queued_ite_snd h (queued_ite_snd h (queued_ite_snd (queued_ite_snd
      (raise_queued (wr_queued (queued_upd h))) (updMark_queued h)) (queued_ite_snd h (queued_ite_snd (raise_queued h)
      (updMark_queued h)))))))

theorem updBlocks_queued {src : Nat} :
    ∀ {b : Nat} {l : List (List Nat)} {s : State}, Queued q s → Queued q (updBlocks src b l s).2.2
  | _, [], _, h => h
  | b, data :: r, s, h => by
    unfold updBlocks
    exact queued_ite_thd (updBlocks_queued (updBlock_queued h)) (updBlock_queued h)

theorem updReceive_queued {src first : Nat} {blocks : List (List Nat)} (h : Queued q s) :
    Queued q (s.updReceive src first blocks).2.2 :=
  queued_ite_thd h (queued_ite_thd h (updFull_queued (queued_ite (updTouch_queued (updBlocks_queued h))
    (updBlocks_queued h))))

theorem updVerified_queued {readOk : Bool} (h : Queued q s) : Queued q (s.updVerified readOk) := by
  unfold updVerified
  split
  · extract_lets
    split
    · exact queued_ite (raise_queued (updGo_queued (queued_upd h))) (updRelease_queued (updGo_queued (updForget_queued
        h)))
    · exact updRelease_queued (updGo_queued (updForget_queued h))
  · exact h

theorem updRequest_queued {node : Nat} (h : Queued q s) : Queued q (s.updRequest node) := by
  unfold updRequest
  split
  · exact queued_ite h (send_queued h)
  · exact h

theorem updOffer_queued {node digest gen : Nat} (h : Queued q s) : Queued q (s.updOffer node digest gen) :=
  queued_ite (queued_ite (send_queued (queued_upd h)) h) (queued_ite (updRequest_queued h) h)

theorem updBlockRx_queued {node prefix_ b : Nat} {data : List Nat} {sigs : Bool × Bool} (h : Queued q s) :
    Queued q (s.updBlockRx node prefix_ b data sigs) := by
  unfold updBlockRx
  split
  · exact queued_ite h (queued_ite (updRequest_queued (updBegin_queued (queued_upd h))) (updBegin_queued (queued_upd
      h)))
  · exact queued_ite (updReceive_queued h) h
  · exact h

/-! ### Upd (Sys2Proof/Machine/Upd.lean) -/

theorem ptrWrite_queued (h : Queued q s) : Queued q s.ptrWrite := queued_upd (wr_queued h)

theorem ptrLoad_queued (h : Queued q s) : Queued q s.ptrLoad := by
  unfold ptrLoad
  split
  · exact h
  · exact queued_forEach wr_queued (queued_upd h)

theorem forceOutlets_queued {x : Ctx} (h : Queued q s) : Queued q (s.forceOutlets x) :=
  queued_forEach disableSteps_queued h

theorem unforce_queued (h : Queued q s) : Queued q s.unforce := queued_upd h

theorem healthNote_queued (h : Queued q s) : Queued q s.healthNote := queued_ite h (queued_upd h)

theorem updConfirm_queued {auto : Bool} (h : Queued q s) : Queued q (s.updConfirm auto) :=
  updGo_queued (raise_queued (queued_upd (ptrWrite_queued (wr_queued (wr_queued h)))))

theorem revertPointer_queued {cause : Nat} (h : Queued q s) : Queued q (s.revertPointer cause) := by
  unfold revertPointer
  extract_lets _ _ s₁
  have h₁ : Queued q s₁ := by
    unfold s₁
    split
    · exact wr_queued (queued_upd h)
    · exact h
  exact queued_upd (updGo_queued (updForget_queued (ptrWrite_queued (wr_queued (wr_queued (wr_queued h₁))))))

theorem revertNow_queued (h : Queued q s) : Queued q s.revertNow := by
  unfold revertNow
  split
  · exact queued_ite h (softRestart_queued (finaliseOpt_queued (revertPointer_queued (pourZero_queued h))))
  · exact h

theorem revertStart_queued {cause : Nat} {x : Ctx} {owed : Option Ctx} (h : Queued q s) :
    Queued q (s.revertStart cause x owed) :=
  revertNow_queued (queued_upd (forceOutlets_queued h))

theorem activate_queued {mode : Nat} {x : Ctx} {owed : Option Ctx} (h : Queued q s) :
    Queued q (s.activate mode x owed) :=
  queued_ite (forceOutlets_queued (updGo_queued (queued_upd h))) (updGo_queued (queued_upd h))

theorem actEnds_queued {status : Nat} (h : Queued q s) : Queued q (s.actEnds status) := by
  unfold actEnds
  split
  · exact queued_ite (unforce_queued (finaliseOpt_queued (queued_upd h))) (finaliseOpt_queued (queued_upd h))
  · exact h

theorem updFlip_queued {x : Option Ctx} (h : Queued q s) : Queued q (s.updFlip x) := by
  unfold updFlip
  split
  · exact h
  · exact softRestart_queued (finaliseOpt_queued (updForget_queued (updRelease_queued (updGo_queued (ptrWrite_queued
      (wr_queued (wr_queued (wr_queued (wr_queued (wr_queued (queued_upd (queued_ite h (pourZero_queued h)))))))))))))

theorem updAbort_queued {src : Nat} {g : Option OwnerSig} (h : Queued q s) : Queued q (s.updAbort src g).2.2 := by
  unfold updAbort
  extract_lets
  refine queued_ite_thd h ?_
  refine queued_ite_thd (updRelease_queued (updGo_queued (updForget_queued (updErase_queued (actEnds_queued h))))) ?_
  split
  · exact h
  · split
    · exact h
    · exact updRelease_queued (updGo_queued (updForget_queued (updErase_queued (actEnds_queued (ownerTook_queued
        h)))))

theorem onUpd_queued {t : Nat} {f : State → State} (h : Queued q s) (hf : ∀ {s}, Queued q s → Queued q (f s)) :
    Queued q (s.onUpd t f) :=
  queued_ite (hf (advance_queued h)) (advance_queued h)

theorem svcReply_queued {typ status : Nat} (h : Queued q s) : Queued q (s.svcReply typ status) := queued_upd h

theorem hostSource_queued {x : Ctx} {f : State → State} (h : Queued q s) (hf : ∀ {s}, Queued q s → Queued q (f s)) :
    Queued q (s.hostSource x f) :=
  queued_ite (complete_queued h) (hf h)

/-! ### Islands and cycles (Sys2Proof/Machine/ArchOps.lean) -/

theorem noteServed_queued {x : Served} (h : Queued q s) : Queued q (s.noteServed x) := queued_upd h

theorem serveXing_queued {target from_ : Nat} {x : Xing} (h : Queued q s) : Queued q (s.serveXing target from_ x).2 :=
  queued_ite_snd (noteServed_queued h) (queued_ite_snd (noteServed_queued (partitionDenied_queued h)) (queued_ite_snd
    (noteServed_queued h) (noteServed_queued (wr_queued (takeFree_queued h)))))

theorem linkCommand_queued {dst : Nat} {cmd : Option (Nat × Nat)} (h : Queued q s) :
    Queued q (s.linkCommand dst cmd) := by
  unfold linkCommand
  split
  · exact h
  · split
    · exact queued_ite h (complete_queued h)
    · exact h

theorem linkTimeout_queued {src dst : Nat} {ini : Ini} {cmd : Option (Nat × Nat)} (h : Queued q s) :
    Queued q (s.linkTimeout src dst ini cmd) := by
  unfold linkTimeout
  exact linkCommand_queued (notify_queued (queued_ite (noteServed_queued (alert_queued (incSat_queued h)))
    (raise_queued (queued_upd (noteServed_queued (alert_queued (incSat_queued h)))))))

theorem freqEdge_queued (h : Queued q s) : Queued q s.freqEdge :=
  queued_forEach modMp_queued (queued_forEach (fun h₁ => queued_ite h₁ (queued_ite (wr_queued (wr_queued h₁))
    (wr_queued h₁))) h)

theorem secondEdge_queued (h : Queued q s) : Queued q s.secondEdge := by
  unfold secondEdge
  exact billEdge_queued (freqEdge_queued (wr_queued (wr_queued h)))

theorem hostCloses_queued {n : Nat} (h : Queued q s) : Queued q (s.hostCloses n) := by
  unfold hostCloses
  extract_lets _ s₁
  have h₁ : Queued q s₁ := modOutlet_queued h
  refine queued_ite h ?_
  split
  · exact queued_forEach complete_queued (raise_queued h₁)
  · exact queued_forEach complete_queued (applyClose_queued h₁)

theorem checkOutlet_queued {n : Nat} (h : Queued q s) : Queued q (s.checkOutlet n) := by
  unfold checkOutlet
  extract_lets
  split
  rename_i hp
  have h₂ := queued_fst hp (overcurrentCheck_queued (mstopCheck_queued (hostCloses_queued h)))
  extract_lets s₃ s₄
  have h₃ : Queued q s₃ := shuntKeep_queued (queued_ite (stopAny_queued h₂) h₂)
  have h₄ : Queued q s₄ := queued_ite h₃ (prewarnNote_queued (rcmUpdate_queued h₃))
  exact queued_ite (modOs_queued h₄) h₄

theorem checkSlot_queued {k : Nat} (h : Queued q s) : Queued q (s.checkSlot k) := by
  unfold checkSlot
  extract_lets s₁
  have h₁ : Queued q s₁ := consentCheck_queued h
  refine queued_ite ?_ h₁
  split
  · exact abortCask_queued h₁
  · exact commitClose_queued h₁

theorem cycleBegin_queued (h : Queued q s) : Queued q s.cycleBegin := by
  unfold cycleBegin
  extract_lets _ _ _ _ _ _ _ _ s₁
  have h₁ : Queued q s₁ := queued_ite (queued_upd (queued_upd h)) (queued_upd h)
  exact queued_ite (refreshSafeOk_queued (setFlag_queued h₁)) h₁

theorem controlCycle_queued {feed : List Feed} (h : Queued q s) : Queued q (s.controlCycle feed) := by
  unfold controlCycle
  extract_lets _ _ s₁
  have h₁ : Queued q s₁ := queued_forEach checkSlot_queued (queued_forEach checkOutlet_queued (cycleBegin_queued
    (meterAll_queued h)))
  exact revertNow_queued (healthNote_queued (noteReady_queued (takeOverCycle_queued (lswSafeOff_queued (queued_ite h₁
    (queued_forEach sessionCycle_queued h₁))))))

theorem passStaged_queued {n : Nat} (h : Queued q s) : Queued q (s.passStaged n) := modOutlet_queued h

theorem stagingDeadline_queued {late : Nat} (h : Queued q s) : Queued q (s.stagingDeadline late) := by
  unfold stagingDeadline
  refine queued_ite h ?_
  extract_lets _ _ _ s₁ _ s₂
  have h₁ : Queued q s₁ := queued_forEach (fun h₁ => queued_upd (passStaged_queued h₁)) (queued_upd h)
  have h₂ : Queued q s₂ := queued_upd h₁
  exact queued_ite h₁ (queued_forEach (fun h₆ => queued_ite (stopSession_queued (takeFree_queued h₆)) h₆) (queued_ite
    h₂ (raise_queued (incSat_queued (queued_upd h₂)))))

/-! ### Coil (Sys2Proof/Machine/Coil.lean) -/

theorem coilFault_queued {k code chan : Nat} (h : Queued q s) : Queued q (s.coilFault k code chan) :=
  modCoil_queued (trip_queued h)

theorem testBegin_queued {k : Nat} {low : Bool} (h : Queued q s) : Queued q (s.testBegin k low) := modCoil_queued h

theorem testStuck_queued {k : Nat} {low otherOpens : Bool} (h : Queued q s) :
    Queued q (s.testStuck k low otherOpens) :=
  raise_queued (coilFault_queued (modCoil_queued h))

/-! ### Met (Sys2Proof/Machine/Met.lean) -/

theorem putPf_queued {F : Fld} {n : Nat} {p : Int} {sApp : Nat} (h : Queued q s) : Queued q (s.putPf F n p sApp) :=
  queued_ite (wr_queued (takeFree_queued h)) (wrInt_queued h)

theorem putCos_queued {n : Nat} {re : Int} {mag : Nat} (h : Queued q s) : Queued q (s.putCos n re mag) :=
  putPf_queued h

theorem putPhase_queued {m i : Nat} {a first : PhaseSum} (h : Queued q s) : Queued q (s.putPhase m i a first) :=
  queued_ite (wrFitInt_queued (wrFitInt_queued (wrFitInt_queued h))) (wrInt_queued (wrInt_queued (putCos_queued
    (putPf_queued (wrFit_queued (wrFitInt_queued (wrFitInt_queued (wrFit_queued (wrFit_queued h)))))))))

theorem putTotal_queued {m : Nat} {w : Window} (h : Queued q s) : Queued q (s.putTotal m w) := by
  unfold putTotal
  extract_lets _ _ _ _ s₁ _ _ _ s₂
  have h₁ : Queued q s₁ := modMp_queued (wrFitInt_queued h)
  have h₂ : Queued q s₂ := putPf_queued (wrFit_queued (wrFitInt_queued (wr_queued h₁)))
  exact queued_ite (wr_queued h₁) (queued_ite h₂ (wrFit_queued h₂))

theorem putHarm_queued {m ph order : Nat} {w : Window} (h : Queued q s) : Queued q (s.putHarm m ph order w) :=
  queued_upd (wrFit_queued (wrFit_queued (wrFit_queued (wrFit_queued h))))

theorem putThd_queued {m i : Nat} (h : Queued q s) : Queued q (s.putThd m i) := wrFit_queued (wrFit_queued h)

theorem windowEnd_queued {m : Nat} {w : Window} (h : Queued q s) : Queued q (s.windowEnd m w) := by
  unfold windowEnd
  extract_lets _ _ s₁
  have h₁ : Queued q s₁ := putTotal_queued (queued_forEach putPhase_queued h)
  exact modMp_queued (queued_ite h₁ (queued_forEach putThd_queued (queued_forEach (fun h₃ => queued_forEach
    putHarm_queued h₃) h₁)))

theorem qualSecond_queued {m : Nat} (h : Queued q s) : Queued q (s.qualSecond m) :=
  modMp_queued (queued_forEach (fun h₁ => queued_ite (addSat_queued h₁) h₁) h)

theorem secondRecord_queued {m : Nat} (h : Queued q s) : Queued q (s.secondRecord m) :=
  wr_queued (wr_queued (modMp_queued (qualSecond_queued h)))

theorem pqKind_queued {m at_ kind on ext : Nat} {starts ends : Bool} {worse : Nat → Nat → Nat} (h : Queued q s) :
    Queued q (s.pqKind m at_ kind on ext starts ends worse) := by
  unfold pqKind
  extract_lets
  split
  · exact queued_ite (raise_queued (wr_queued (modMp_queued h))) h
  · exact queued_ite (raise_queued (incSat_queued (wr_queued (modMp_queued h)))) (wr_queued (modMp_queued h))

theorem pqHalf_queued {m at_ : Nat} {ps : List (Nat × Nat)} (h : Queued q s) : Queued q (s.pqHalf m at_ ps) :=
  pqKind_queued (pqKind_queued (pqKind_queued h))

theorem copyBank_queued {c : Nat} (h : Queued q s) : Queued q (s.copyBank c) := queued_forEach wr_queued h

theorem applyCal_queued {x : Ctx} {m ph mask : Nat} {k : CalKept} {cs : List Nat} {gv gi ti : Int} (h : Queued q s) :
    Queued q (s.applyCal x m ph mask k cs gv gi ti) := by
  unfold applyCal
  extract_lets _ _ s₁ s₂ s₃ s₄
  have h₁ : Queued q s₁ := queued_forEach copyBank_queued h
  have h₂ : Queued q s₂ := queued_ite (wrFitInt_queued h₁) h₁
  have h₃ : Queued q s₃ := queued_ite (wrFitInt_queued h₂) h₂
  have h₄ : Queued q s₄ := queued_ite (wrFitInt_queued h₃) h₃
  exact complete_queued (startBlend_queued (queued_forEach calNote_queued (queued_forEach setCal_queued (queued_ite
    (wrFitInt_queued (wrFitInt_queued h₄)) h₄))))

theorem pulseReset_queued {k : Nat} (h : Queued q s) : Queued q (s.pulseReset k) := wr_queued (queued_upd h)

/-! ### Outlet (Sys2Proof/Machine/Outlet.lean) -/

theorem setOut_queued {n : Nat} {p : PilotOut} (h : Queued q s) : Queued q (s.setOut n p) :=
  modOutlet_queued (wr_queued h)

theorem judgePeriod_queued {n : Nat} {high low : Int} (h : Queued q s) : Queued q (s.judgePeriod n high low) := by
  unfold judgePeriod
  extract_lets _ s₁ x₁
  clear_value x₁
  have h₁ : Queued q s₁ := wrInt_queued (wrInt_queued h)
  split
  · exact h₁
  · exact modOutlet_queued h₁

theorem acceptPilot_queued {n : Nat} {p : Pilot} (h : Queued q s) : Queued q (s.acceptPilot n p) := by
  unfold acceptPilot
  extract_lets s₁ s₂
  have h₁ : Queued q s₁ := modOutlet_queued h
  have h₂ : Queued q s₂ := queued_ite (clearAtA_queued h₁) h₁
  exact pilotDrives_queued (queued_ite (trip_queued h₂) h₂)

theorem hlcFailed_queued {n : Nat} (h : Queued q s) : Queued q (s.hlcFailed n) :=
  queued_ite h (queued_ite (goReady_queued (modOutlet_queued (wr_queued (wr_queued h)))) (endSession_queued h))

theorem vehicleAuth_queued {n : Nat} {evccid : List Byte} (h : Queued q s) : Queued q (s.vehicleAuth n evccid) := by
  unfold vehicleAuth
  extract_lets _ x₁
  clear_value x₁
  split
  · exact authorise_queued h
  · exact raise_queued h
  · exact raise_queued h

theorem contractAuth_queued {n : Nat} {ident : List Byte} {valid : Bool} {ocsp : Nat} (h : Queued q s) :
    Queued q (s.contractAuth n ident valid ocsp) := by
  unfold contractAuth
  extract_lets _ x₁
  clear_value x₁
  refine queued_ite h ?_
  refine queued_ite (endSession_queued (raise_queued h)) (queued_ite (endSession_queued (raise_queued h)) ?_)
  split
  · exact endSession_queued (raise_queued h)
  · exact authorise_queued h
  · exact authorise_queued h

theorem evStop_queued {n : Nat} {delivery : Bool} (h : Queued q s) : Queued q (s.evStop n delivery) := by
  unfold evStop
  extract_lets
  split
  · exact stopSession_queued h
  · exact queued_ite (stopSession_queued h) (queued_ite (modOutlet_queued (openOutlet_queued h)) h)
  · exact h

theorem hlcMessage_queued {n : Nat} {msg : HlcMsg} (h : Queued q s) : Queued q (s.hlcMessage n msg) := by
  unfold hlcMessage
  extract_lets
  split
  · refine queued_ite h ?_
    extract_lets x₁
    clear_value x₁
    split
    · exact wr_queued h
    · exact hlcFailed_queued h
  · exact queued_ite h (queued_ite (queued_ite (hlcFailed_queued h) (endSession_queued h)) (queued_ite
      (vehicleAuth_queued (modOutlet_queued h)) (modOutlet_queued h)))
  · exact queued_ite h (contractAuth_queued h)
  · exact goReady_queued (modOutlet_queued (queued_ite (wr_queued h) h))
  · exact queued_ite (stageSet_queued (modOutlet_queued h)) h
  · exact queued_ite (stageSet_queued h) h
  · exact queued_ite (modOutlet_queued h) (queued_ite (stageSet_queued h) h)
  · exact evStop_queued h
  · exact evStop_queued h
  · exact queued_ite (stageSet_queued h) h
  · exact queued_ite h (queued_ite (modOutlet_queued h) (hlcFailed_queued h))
  · exact queued_ite (modOutlet_queued h) h
  · exact queued_ite h (raise_queued (modOutlet_queued h))
  · exact hlcFailed_queued h

theorem cfgApplied_queued {n : Nat} (h : Queued q s) : Queued q (s.cfgApplied n) := by
  unfold cfgApplied
  extract_lets s₁ _ _ s₂
  have h₁ : Queued q s₁ := queued_ite (offer_queued h) h
  have h₂ : Queued q s₂ := modOutlet_queued h₁
  exact queued_ite h₁ (queued_ite (reserveHost_queued (queued_ite (setSess_queued h₂) h₂)) (wr_queued (wr_queued h₁)))

theorem stopOne_queued {n : Nat} (h : Queued q s) : Queued q (s.stopOne n) := by
  unfold stopOne
  split
  · exact stopSession_queued h
  · exact stopSession_queued h
  · exact stopSession_queued h
  · exact endOrWait_queued (caskSafety_queued h)
  · exact h

theorem sessionStop_queued {mask : Nat} (h : Queued q s) : Queued q (s.sessionStop mask).2 :=
  queued_ite_snd (queued_forEach (fun h₁ => stopOne_queued (caskSafety_queued h₁)) (queued_forEach (fun h₁ =>
    stopHosted_queued (caskSafety_queued h₁)) h)) h

theorem outErem_queued {mask : Nat} (h : Queued q s) : Queued q (s.outErem mask) :=
  queued_forEach (fun h₁ => queued_ite (faultSession_queued (erem_queued h₁)) (erem_queued h₁)) h

/-! ### Supply and clocks (Sys2Proof/Machine/PowerOps.lean) -/

theorem loseClock_queued (h : Queued q s) : Queued q s.loseClock :=
  queued_ite h (wr_queued (wr_queued (queued_upd h)))

theorem railShow_queued {r : Nat} {mv : Int} (h : Queued q s) : Queued q (s.railShow r mv) :=
  queued_ite (wr_queued (wrInt_queued h)) (queued_ite (wr_queued (wrInt_queued h)) (wrInt_queued h))

theorem vanaShow_queued (h : Queued q s) : Queued q s.vanaShow :=
  mpEvalAll_queued (trkRefreshAll_queued (queued_forEach (fun h₁ => setFlag_queued (setFlag_queued h₁)) h))

theorem failRestart_queued {cause : Nat} {feed : List Feed} {whole : Bool} (h : Queued q s) :
    Queued q (s.failRestart cause feed whole) :=
  softRestart_queued (queued_upd (queued_upd (queued_ite (wr_queued (pourSteps_queued h)) (wr_queued h))))

theorem railAct_queued {r : Nat} {ov : Bool} {mv : Int} {feed : List Feed} {whole : Bool} (h : Queued q s) :
    Queued q (s.railAct r ov mv feed whole) := by
  unfold railAct
  split
  · exact queued_ite h (lastPour_queued h)
  · exact queued_ite h (raise_queued (wr_queued h))
  · exact h
  · exact failRestart_queued h
  · exact failRestart_queued h
  · exact failRestart_queued h
  · exact vanaShow_queued h
  · exact queued_forEach trip_queued h
  · exact queued_forEach trip_queued h
  · exact loseClock_queued h
  · exact queued_ite h (vlsLow_queued h)

theorem railFails_queued {r : Nat} {ov : Bool} {mv : Int} {feed : List Feed} {whole : Bool} (h : Queued q s) :
    Queued q (s.railFails r ov mv feed whole) :=
  queued_ite h (queued_ite (railShow_queued h) (railAct_queued (raise_queued (incSat_queued (wr_queued
    (railShow_queued h))))))

theorem railBack_queued {r : Nat} {mv : Int} (h : Queued q s) : Queued q (s.railBack r mv) := by
  unfold railBack
  refine queued_ite h ?_
  extract_lets _ s₁
  have h₁ : Queued q s₁ := raise_queued (wr_queued (wr_queued (railShow_queued h)))
  exact queued_ite (wr_queued h₁) (queued_ite (vanaShow_queued h₁) h₁)

theorem shutOutlets_queued (h : Queued q s) : Queued q s.shutOutlets := by
  unfold shutOutlets
  refine queued_forEach (fun h₁ => ?_) h
  split
  · exact stopSession_queued h₁
  · exact stopSession_queued h₁
  · exact stopSession_queued h₁
  · exact h₁
  · exact queued_ite (endSession_queued h₁) h₁

theorem lowSidesOff_queued (h : Queued q s) : Queued q s.lowSidesOff :=
  queued_forEach modCoil_queued (queued_forEach noteOpening_queued h)

theorem tempTaken_queued {k : Nat} {c : Int} (h : Queued q s) : Queued q (s.tempTaken k c) := by
  unfold tempTaken
  refine queued_ite h ?_
  extract_lets _ _ _ s₁ s₂ s₃ s₄ _ _ _ s₅ s₆
  have h₁ : Queued q s₁ := wr_queued (wr_queued h)
  have h₂ : Queued q s₂ := queued_ite h₁ (raise_queued (wr_queued h₁))
  have h₃ : Queued q s₃ := queued_ite (alert_queued h₂) h₂
  have h₄ : Queued q s₄ := queued_ite (wr_queued h₃) h₃
  have h₅ : Queued q s₅ := queued_ite (shutOutlets_queued (queued_upd (wr_queued h₄))) h₄
  have h₆ : Queued q s₆ := queued_ite (lowSidesOff_queued h₅) h₅
  exact queued_ite (dispWake_queued (queued_upd (wr_queued (wr_queued h₆)))) h₆

theorem enterMeter_queued (h : Queued q s) : Queued q s.enterMeter := by
  unfold enterMeter
  exact raise_queued (meterDisp_queued (wr_queued (queued_ite (islandStop_queued (islandStop_queued h))
    (islandStop_queued (islandStop_queued (islandStop_queued h))))))

/-! ### Safe (Sys2Proof/Machine/Safe.lean) -/

theorem pilotB_queued {n : Nat} {level : Int} (h : Queued q s) : Queued q (s.pilotB n level) := by
  unfold pilotB
  refine queued_ite (modOs_queued h) ?_
  extract_lets x₁ s₁ _ s₂
  clear_value x₁
  have h₁ : Queued q s₁ := modOs_queued h
  have h₂ : Queued q s₂ := by
    unfold s₂
    split
    · exact queued_ite (queued_ite (testSensor_queued (modOs_queued (modOs_queued h₁))) (modOs_queued h₁)) h₁
    · exact h₁
  exact queued_ite (trip_queued h₂) h₂

theorem followHigh_queued {k : Nat} (h : Queued q s) : Queued q (s.followHigh k) := queued_ite (modCoil_queued h) h

theorem formBeat_queued (h : Queued q s) : Queued q s.formBeat := queued_upd h

theorem sampleMirrors_queued {mirrors : Nat} (h : Queued q s) : Queued q (s.sampleMirrors mirrors) :=
  queued_forEach modCoil_queued h

theorem cableFailed_queued {n : Nat} (h : Queued q s) : Queued q (s.cableFailed n) :=
  queued_ite (endSession_queued (erem_queued (modOutlet_queued h))) (modOutlet_queued h)

theorem imdCount_queued {n : Nat} {fault : Bool} (h : Queued q s) : Queued q (s.imdCount n fault) :=
  queued_ite (trip_queued (modOs_queued h)) (modOs_queued h)

theorem imdResult_queued {kohm : Nat} (h : Queued q s) : Queued q (s.imdResult kohm) := by
  unfold imdResult
  extract_lets _ _ _ _ _ _ _ s₁ _ s₂
  have h₁ : Queued q s₁ := queued_upd (wr_queued (wr_queued h))
  have h₂ : Queued q s₂ := imdCount_queued (queued_ite (raise_queued h₁) h₁)
  split
  · exact h₂
  · exact queued_ite h₂ (queued_ite (cableFailed_queued h₂) (modOutlet_queued h₂))

theorem clearLatched_queued {n code : Nat} (h : Queued q s) : Queued q (s.clearLatched n code) := by
  unfold clearLatched
  refine queued_ite ?_ h
  extract_lets s₁ s₂
  have h₁ : Queued q s₁ := modOs_queued h
  have h₂ : Queued q s₂ := queued_ite (wr_queued (modOs_queued h₁)) h₁
  exact queued_ite (queued_forEach modCoil_queued h₂) h₂

theorem clearModLatched_queued {code : Nat} (h : Queued q s) : Queued q (s.clearModLatched code) :=
  queued_ite (queued_upd h) h

theorem resetSafe_queued (h : Queued q s) : Queued q s.resetSafe :=
  queued_ite h (raise_queued (refreshSafeOk_queued (queued_forEach (fun h₁ => queued_forEach clearLatched_queued h₁)
    (queued_forEach clearModLatched_queued h))))

theorem safeInAct_queued {action n : Nat} (h : Queued q s) : Queued q (s.safeInAct action n) := by
  unfold safeInAct
  split
  · exact stopAny_queued h
  · exact trip_queued h
  · exact trip_queued h
  · exact trip_queued h
  · exact h

theorem safeInGo_queued {m : Nat} (h : Queued q s) : Queued q (s.safeInGo m) :=
  queued_ite h (queued_forEach safeInAct_queued (queued_ite (raise_queued h) h))

theorem safeInReturn_queued (h : Queued q s) : Queued q s.safeInReturn :=
  queued_forEach (fun h₁ => queued_ite h₁ (clearFault_queued h₁)) h

theorem safeInLevel_queued {m : Nat} {closed : Bool} (h : Queued q s) : Queued q (s.safeInLevel m closed) :=
  safeInReturn_queued (queued_ite (queued_upd h) (safeInGo_queued (queued_upd h)))

theorem safeInCfg_queued {before : State} {m : Nat} (h : Queued q s) : Queued q (s.safeInCfg before m) :=
  safeInReturn_queued (queued_ite h (safeInGo_queued h))

/-! ### Register writes (Sys2Proof/Machine/RegOps.lean) -/

theorem refuseWrite_queued {off reason : Nat} (h : Queued q s) : Queued q (s.refuseWrite off reason) :=
  queued_ite (raise_queued (queued_upd (alert_queued (wr_queued (wr_queued (incSat_queued h)))))) (queued_upd
    (alert_queued (wr_queued (wr_queued (incSat_queued h)))))

theorem clearRc_queued {d : RegDef} {n : Nat} (h : Queued q s) : Queued q (s.clearRc d n) :=
  queued_forEach wr_queued h

theorem readWord_queued {off : Nat} (h : Queued q s) : Queued q (s.readWord off).2 := by
  unfold readWord
  split
  · exact h
  · exact queued_ite_snd h (queued_ite_snd (popNotif_queued h) (clearRc_queued (queued_forEach queued_upd h)))

theorem barRead_queued {off : Nat} {wide : Bool} (h : Queued q s) : Queued q (s.barRead off wide) :=
  queued_ite (queued_upd (refuseWrite_queued h)) (queued_ite (queued_upd (readWord_queued (readWord_queued h)))
    (queued_upd (readWord_queued h)))

theorem msixRead_queued {off : Nat} {wide : Bool} (h : Queued q s) : Queued q (s.msixRead off wide) := queued_upd h

theorem msixPut_queued {off v : Nat} (h : Queued q s) : Queued q (s.msixPut off v) :=
  queued_ite h (queued_ite (queued_upd h) (queued_upd (queued_upd h)))

theorem msixWrite_queued {off v : Nat} {wide : Bool} (h : Queued q s) : Queued q (s.msixWrite off v wide) :=
  queued_ite (msixPut_queued (msixPut_queued h)) (msixPut_queued h)

theorem putFields_queued {fs : List Fld} {n image : Nat} (h : Queued q s) : Queued q (s.putFields fs n image) :=
  queued_forEach (fun h₁ => queued_ite (wr_queued h₁) (wrSave_queued h₁)) h

theorem calList_queued {off old new : Nat} (h : Queued q s) : Queued q (s.calList off old new) := by
  unfold calList
  split
  · exact queued_upd h
  · exact h

theorem shiftMoved_queued {before : State} {c : Nat} (h : Queued q s) : Queued q (s.shiftMoved before c) :=
  queued_ite h (wr_queued (calList_queued h))

theorem chainApplied_queued {before : State} {d : RegDef} {n : Nat} (h : Queued q s) :
    Queued q (s.chainApplied before d n) := by
  unfold chainApplied
  extract_lets _ _ s₁ s₂
  have h₁ : Queued q s₁ := queued_forEach (fun h₂ => restartChain_queued (shiftMoved_queued h₂)) h
  have h₂ : Queued q s₂ := queued_ite (tamper_queued (wr_queued h₁)) h₁
  exact queued_ite (mpEvalAll_queued (trkRefreshAll_queued h₂)) h₂

theorem seqApplied_queued {before : State} {q' : Nat} {ent : Option Nat} (h : Queued q s) (h_before : Queued q before)
    :
    Queued q (s.seqApplied before q' ent) :=
  queued_ite (queued_ite (queued_upd (queued_upd h_before)) (queued_upd h_before)) (queued_ite (padc10_queued
    (wr_queued h)) (stopSeq_queued (wr_queued h)))

theorem regApplied_queued {before : State} {d : RegDef} {n : Nat} (h : Queued q s) (h_before : Queued q before) :
    Queued q (s.regApplied before d n) :=
  auxSlowNote_queued (queued_ite (seqApplied_queued (chainApplied_queued h) h_before) (queued_ite (seqApplied_queued
    (chainApplied_queued h) h_before) (queued_ite (pulseReset_queued (chainApplied_queued h)) (queued_ite
    (signKeyChanged_queued (chainApplied_queued h)) (queued_ite (plcFollowAll_queued (cfgApplied_queued
    (chainApplied_queued h))) (queued_ite (queued_ite (trellisEn_queued (chainApplied_queued h)) (mainsModems_queued
    (trellisEn_queued (chainApplied_queued h)))) (queued_ite (safeInCfg_queued (chainApplied_queued h)) (queued_ite
    (bandShow_queued (chainApplied_queued h)) (queued_ite (twinStart_queued (chainApplied_queued h))
    (chainApplied_queued h))))))))))

theorem alertWrite_queued {mask : Nat} (h : Queued q s) : Queued q (s.alertWrite mask) := by
  unfold alertWrite
  extract_lets s₁
  have h₁ : Queued q s₁ := queued_forEach wr_queued h
  exact queued_ite (irq_queued h₁) h₁

theorem lockSetup_queued (h : Queued q s) : Queued q s.lockSetup :=
  queued_ite h (auxSlowAll_queued (queued_upd (wr_queued h)))

theorem settingsSaved_queued (h : Queued q s) : Queued q s.settingsSaved :=
  queued_ite h (raise_queued (wr_queued (queued_forEach save_queued h)))

theorem writeCtrl_queued {image : Nat} (h : Queued q s) : Queued q (s.writeCtrl image) :=
  queued_ite (attach_queued (putFields_queued h)) (queued_ite (detach_queued (putFields_queued h)) (putFields_queued
    h))

theorem applyWrite_queued {d : RegDef} {n off : Nat} {fs : List Fld} {image : Nat} (h : Queued q s) :
    Queued q (s.applyWrite d n off fs image) :=
  regApplied_queued (queued_ite (calNote_queued (putFields_queued h)) (putFields_queued h)) h

theorem writeFieldwise_queued {d : RegDef} {n off image : Nat} (h : Queued q s) :
    Queued q (s.writeFieldwise d n off image) := by
  unfold writeFieldwise
  extract_lets
  split
  · exact refuseWrite_queued h
  · refine queued_ite (refuseWrite_queued h) (queued_ite (refuseWrite_queued h) ?_)
    split
    · exact refuseWrite_queued h
    · exact applyWrite_queued h

theorem writeReg_queued {d : RegDef} {n off : Nat} {ws : List (Nat × Nat)} (h : Queued q s) :
    Queued q (s.writeReg d n off ws) := by
  unfold writeReg
  extract_lets
  refine queued_ite (queued_ite (lockSetup_queued h) h) ?_
  refine queued_ite (alertWrite_queued h) (queued_ite (writeCtrl_queued h) ?_)
  split
  · exact writeRing_queued h
  · exact writeFieldwise_queued h

theorem writeWord_queued {off v : Nat} (h : Queued q s) : Queued q (s.writeWord off v) := by
  unfold writeWord
  split
  · exact refuseWrite_queued h
  · exact queued_ite (refuseWrite_queued (queued_upd h)) (queued_ite (queued_upd (queued_upd h)) (writeReg_queued
      (queued_upd h)))

theorem barWrite_queued {off v : Nat} {wide part : Bool} (h : Queued q s) : Queued q (s.barWrite off v wide part) :=
  queued_ite (refuseWrite_queued h) (queued_ite (writeWord_queued h) (queued_ite (writeWord_queued (writeWord_queued
    h)) (writeWord_queued (writeWord_queued h))))

theorem regWrite_queued {off value mask : Nat} (h : Queued q s) : Queued q (s.regWrite off value mask).2 := by
  unfold regWrite
  refine queued_ite_snd h ?_
  split
  · exact h
  · extract_lets
    refine queued_ite_snd h (queued_ite_snd (alertWrite_queued h) (queued_ite_snd h (queued_ite_snd h ?_)))
    split
    · exact h
    · exact applyWrite_queued h

/-! ### Slac (Sys2Proof/Machine/Slac.lean) -/

theorem putSlac_queued {r : SlacRun} (h : Queued q s) : Queued q (s.putSlac r) := plcFollowAll_queued (queued_upd h)

theorem dropSlac_queued {id : Nat} (h : Queued q s) : Queued q (s.dropSlac id) := plcFollowAll_queued (queued_upd h)

theorem slacFail_queued {n : Nat} (h : Queued q s) : Queued q (s.slacFail n) :=
  queued_ite (modOutlet_queued h) (queued_ite (endSession_queued (modOutlet_queued h)) (goReady_queued
    (modOutlet_queued h)))

theorem slacHold_queued {ps : List Nat} (h : Queued q s) : Queued q (s.slacHold ps) :=
  queued_forEach modOutlet_queued h

theorem slacClose_queued (h : Queued q s) : Queued q s.slacClose := by
  unfold slacClose
  extract_lets
  refine queued_forEach (fun h₁ => ?_) h
  extract_lets
  split
  · exact slacHold_queued (putSlac_queued h₁)
  · exact slacHold_queued (putSlac_queued h₁)
  · exact queued_forEach slacFail_queued (dropSlac_queued (raise_queued h₁))
  · exact queued_forEach slacFail_queued (dropSlac_queued (raise_queued h₁))

/-! ### The start of the module (Sys2Proof/Machine/StartOps.lean) -/

theorem dispStartUp_queued (h : Queued q s) : Queued q s.dispStartUp := queued_upd h

theorem keepRegs_queued (h : Queued q s) : Queued q s.keepRegs := queued_upd h

theorem afterReset_queued (h : Queued q s) : Queued q s.afterReset := by
  unfold afterReset
  extract_lets _ _ _ _ _ _ _ _ _ _ _ _ _ _ _ _ _ _ _ _ _ _ _ _ s₁
  have h₁ : Queued q s₁ := addSat_queued (queued_forEach (fun h₃ => queued_ite h₃ (wr_queued h₃)) (dispStartUp_queued
    (queued_upd (keepRegs_queued h))))
  exact queued_ite (wr_queued h₁) h₁

theorem trialStart_queued {b : BootIn} (h : Queued q s) : Queued q (s.trialStart b).2 :=
  queued_ite_snd (ptrLoad_queued h) (queued_ite_snd (revertPointer_queued (ptrLoad_queued h)) (queued_ite_snd
    (revertPointer_queued (ptrWrite_queued (wr_queued (ptrLoad_queued h)))) (queued_ite_snd (ptrWrite_queued
    (wr_queued (ptrLoad_queued h))) (wr_queued (queued_ite (queued_upd (queued_upd (ptrWrite_queued (wr_queued
    (ptrLoad_queued h))))) (queued_upd (ptrWrite_queued (wr_queued (ptrLoad_queued h)))))))))

theorem slotChosen_queued {b : BootIn} {reverted : Bool} (h : Queued q s) : Queued q (s.slotChosen b reverted) :=
  queued_ite h (ptrWrite_queued (wr_queued (wr_queued (queued_upd h))))

theorem openEpoch_queued {old : State} {cause : Nat} (h : Queued q s) : Queued q (s.openEpoch old cause) :=
  queued_forEach syncCompleted_queued (queued_upd (queued_forEach (fun h₂ => setHist_queued (raise_queued h₂))
    (raise_queued (wr_queued (wr_queued (wr_queued h))))))

theorem keyStart_queued {b : BootIn} (h : Queued q s) : Queued q (s.keyStart b) := by
  unfold keyStart
  extract_lets s₁ s₂ s₃ s₄
  have h₁ : Queued q s₁ := cacheCounts_queued (wr_queued (wr_queued h))
  have h₂ : Queued q s₂ := setKeyMode_queued h₁
  have h₃ : Queued q s₃ := queued_ite h₂ (raise_queued h₂)
  have h₄ : Queued q s₄ := queued_ite (raise_queued h₃) h₃
  exact queued_ite (keyRecovery_queued (queued_forEach raise_queued h₁)) (queued_ite (keyRecovery_queued h₄)
    (queued_forEach (fun h₅ => queued_ite (regenerate_queued h₅) h₅) (wr_queued h₄)))

theorem hostReady_queued (h : Queued q s) : Queued q s.hostReady :=
  queued_ite h (queued_ite (attach_queued (wr_queued h)) (wr_queued h))

theorem dropEntry_queued {e : Nat × Nat} (h : Queued q s) : Queued q (s.dropEntry e) := by
  unfold dropEntry
  extract_lets
  split
  · exact queued_upd h
  · exact queued_upd h
  · exact queued_upd h
  · exact queued_upd h
  · exact queued_ite (wr_queued (wr_queued (wr_queued h))) h
  · exact queued_upd h
  · exact queued_upd h
  · exact queued_upd h
  · exact h

theorem dropEntries_queued {es : List (Nat × Nat)} (h : Queued q s) : Queued q (s.dropEntries es) :=
  queued_forEach dropEntry_queued h

theorem asOf_queued {old : State} {t : Nat} {f : State → State} (h : Queued q s) (hf : ∀ {s}, Queued q s → Queued q (f
    s)) :
    Queued q (s.asOf old t f) :=
  queued_upd (queued_forEach wr_queued (hf (queued_forEach wr_queued (queued_upd h))))

theorem loadCommit_queued {c : Commit} (h : Queued q s) : Queued q (s.loadCommit c) := queued_upd (queued_upd h)

theorem replaySession_queued {old : State} {fresh : List Rec} {n : Nat} (h : Queued q s) :
    Queued q (s.replaySession old fresh n) := by
  unfold replaySession
  extract_lets _ _ s₁
  have h₁ : Queued q s₁ := queued_ite (modLsess_queued h) h
  exact queued_ite h₁ (queued_ite (queued_ite (modLsess_queued h₁) h₁) (queued_ite (wr_queued (wr_queued (wr_queued
    (modLsess_queued h₁)))) h₁))

theorem replayRecord_queued {r : Rec} (h : Queued q s) : Queued q (s.replayRecord r) :=
  queued_ite (queued_forEach (fun h₁ => wr_queued (wr_queued h₁)) (queued_upd h)) (queued_ite (queued_forEach
    modAcct_queued h) h)

theorem replayCask_queued {old : State} {k : Nat} (h : Queued q s) : Queued q (s.replayCask old k) := by
  unfold replayCask
  extract_lets
  split
  · exact h
  · refine queued_ite h (asOf_queued h (fun h₂ => ?_))
    extract_lets _ _ s₁ s₃
    have h₁ : Queued q s₁ := queued_forEach applyAct_queued (useNums_queued (queued_upd h₂))
    have h₃ : Queued q s₃ := by
      unfold s₃
      split
      · exact transaction_queued h₁
      · exact h₁
    exact queued_upd (useNums_queued h₃)

theorem replayPend_queued {old : State} {p : PendRec} (h : Queued q s) : Queued q (s.replayPend old p) :=
  asOf_queued h flushPend_queued

theorem estimateStart_queued {mark : Option PourMark} {tStop : Option Nat} {m : Nat} (h : Queued q s) :
    Queued q (s.estimateStart mark tStop m) := by
  unfold estimateStart
  split
  · exact putEst_queued h
  · exact wr_queued (wr_queued (wr_queued (wr_queued h)))

theorem restartClose_queued {old : State} {closeAt loss n : Nat} (h : Queued q s) :
    Queued q (s.restartClose old closeAt loss n) := by
  unfold restartClose
  extract_lets
  refine queued_ite h (queued_ite ?_ (closeRecord_queued (modLsess_queued h)))
  split
  · exact asOf_queued h closeRecord_queued
  · exact closeRecord_queued h

theorem outageBounds_queued {w0 w1 subW : Nat} (h : Queued q s) : Queued q (s.outageBounds w0 w1 subW).2 := by
  unfold outageBounds
  extract_lets _ _ _ _ _ s₁ s₂
  have h₁ : Queued q s₁ := queued_forEach demandClose_queued (queued_upd h)
  have h₂ : Queued q s₂ := queued_ite (queued_forEach modAcct_queued (queued_upd h)) (queued_ite h₁ (queued_forEach
    (fun h₂ => queued_forEach wr_queued h₂) h₁))
  exact queued_upd (queued_ite_snd (closeBetween_queued h₂) h₂)

theorem outageRecord_queued {closeMs : Nat} {valid : Bool} {n : Nat × Nat} (h : Queued q s) :
    Queued q (s.outageRecord closeMs valid n) :=
  append_queued h

theorem tamperCarried_queued {k first last : Nat} (h : Queued q s) : Queued q (s.tamperCarried k first last) :=
  queued_ite h (wr_queued (queued_ite (wr_queued (tamperMany_queued h)) (tamperMany_queued h)))

theorem ledgerStart_queued {old : State} {cause : Nat} (h : Queued q s) : Queued q (s.ledgerStart old cause) := by
  unfold ledgerStart
  extract_lets
  split
  · exact raise_queued (queued_upd h)
  · extract_lets x₁ _ _ _ _ _ _ _ _ _ _ _ _ s₁
    clear_value x₁
    have h₁ : Queued q s₁ := queued_forEach (fun h₉ => wr_queued (wr_queued (estimateStart_queued h₉)))
      (queued_forEach (fun h₁ => wr_queued (wr_queued h₁)) (queued_forEach replayPend_queued (queued_forEach
      replayCask_queued (queued_forEach (fun h₅ => wr_queued (wr_queued h₅)) (queued_forEach replaySession_queued
      (queued_forEach replayRecord_queued (loadCommit_queued h)))))))
    split
    rename_i hp
    have h₁₃ := queued_snd hp (outageBounds_queued (queued_forEach restartClose_queued (raise_queued (queued_ite h₁
      (wr_queued h₁)))))
    extract_lets s₁₂ s₁₄ _ s₁₅
    have h₁₂ : Queued q s₁₂ := queued_ite h₁₃ (outageRecord_queued h₁₃)
    have h₁₄ : Queued q s₁₄ := queued_ite h₁₂ (tamper_queued h₁₂)
    have h₁₅ : Queued q s₁₅ := queued_ite (tamper_queued (queued_upd h₁₄)) h₁₄
    exact queued_ite (tamper_queued h₁₅) h₁₅

/-! ### Start (Sys2Proof/Machine/Start.lean) -/

theorem clockStart_queued {old : State} {b : BootIn} (h : Queued q s) : Queued q (s.clockStart old b) := by
  unfold clockStart
  extract_lets _ s₁
  have h₁ : Queued q s₁ := setFlag_queued (setFlag_queued (setFlag_queued (wr_queued (wr_queued h))))
  exact queued_ite (wr_queued (wr_queued (wrInt_queued (wr_queued h₁)))) h₁

theorem hslLoad_queued {h' : Option HslTable} (h : Queued q s) : Queued q (s.hslLoad h') := by
  unfold hslLoad
  split
  · exact h
  · exact queued_upd (queued_forEach (fun h₁ => wr_queued (wr_queued (wr_queued h₁))) (queued_forEach (fun h₁ =>
      wr_queued (wr_queued (wr_queued (setFlag_queued (setFlag_queued (wr_queued (wr_queued (setFlag_queued h₁))))))))
      (wr_queued (wr_queued h))))

theorem switchSteps_queued {b : BootIn} (h : Queued q s) : Queued q (s.switchSteps b) := by
  unfold switchSteps
  extract_lets _ s₁
  have h₁ : Queued q s₁ := queued_forEach trip_queued (queued_forEach modCoil_queued h)
  split
  · exact shuntOn_queued (moduleTrip_queued h₁)
  · exact h₁

theorem safeStart_queued {b : BootIn} (h : Queued q s) : Queued q (s.safeStart b) := by
  unfold safeStart
  extract_lets _ _ _ _ s₁
  have h₁ : Queued q s₁ := setFlag_queued (setFlag_queued (setFlag_queued (queued_upd (hslLoad_queued h))))
  exact queued_forEach (fun h₆ => queued_ite h₆ (testSensor_queued h₆)) (switchSteps_queued (queued_ite h₁
    (moduleTrip_queued h₁)))

theorem meterStart_queued (h : Queued q s) : Queued q s.meterStart :=
  queued_forEach pulseReset_queued (mpEvalAll_queued (trkRefreshAll_queued (queued_forEach (fun h₁ => updateGd_queued
    (wr_queued (queued_upd h₁))) h)))

theorem legalChange_queued {old : State} {was new : Nat} {firstTrial : Bool} (h : Queued q s) :
    Queued q (s.legalChange old was new firstTrial) :=
  queued_ite h (queued_ite (tamper_queued h) (queued_ite (tamper_queued h) h))

theorem revertNote_queued (h : Queued q s) : Queued q s.revertNote := by
  unfold revertNote
  split
  · exact raise_queued (queued_upd h)
  · exact h

theorem updStart_queued {old : State} {b : BootIn} {firstTrial : Bool} (h : Queued q s) :
    Queued q (s.updStart old b firstTrial) := by
  unfold updStart
  extract_lets _ _ _ _ s₁ _ s₂
  have h₁ : Queued q s₁ := legalChange_queued (wr_queued (revertNote_queued h))
  have h₂ : Queued q s₂ := queued_ite (queued_upd h₁) h₁
  exact queued_ite (updGo_queued h₂) h₂

theorem displayStart_queued {b : BootIn} (h : Queued q s) : Queued q (s.displayStart b) :=
  dispWake_queued (segRecover_queued (bandShow_queued (queued_upd h)))

theorem startRun_queued {old : State} {b : BootIn} {cause : Nat} {firstTrial : Bool} (h : Queued q s) :
    Queued q (s.startRun old b cause firstTrial) := by
  unfold startRun
  extract_lets _ _ _ _ _ _ _ _ s₁ _ _ s₂ s₃
  have h₁ : Queued q s₁ := safeStart_queued (keyStart_queued (queued_forEach islandGo_queued (updStart_queued
    (openEpoch_queued (clockStart_queued (queued_upd (afterReset_queued h)))))))
  have h₂ : Queued q s₂ := queued_forEach tamper_queued (queued_forEach modAcct_queued (queued_ite (ledgerStart_queued
    h₁) (ledgerStart_queued h₁)))
  have h₃ : Queued q s₃ := queued_ite (queued_forEach tariffGo_queued h₂) (queued_forEach tariffGo_queued h₂)
  exact hostReady_queued (displayStart_queued (plcFollowAll_queued (trellisEn_queued (recoveryOutlets_queued
    (meterStart_queued (queued_upd (queued_ite (queued_forEach wr_queued h₃) (queued_forEach tamperCarried_queued
    h₃))))))))

theorem startUp_queued {b : BootIn} (h : Queued q s) : Queued q (s.startUp b) :=
  queued_ite h (queued_ite (queued_upd (trialStart_queued h)) (startRun_queued (dropEntries_queued (slotChosen_queued
    (trialStart_queued h)))))

/-! ### Tag (Sys2Proof/Machine/Tag.lean) -/

theorem walkLimit_queued {port frames found : Nat} (h : Queued q s) : Queued q (s.walkLimit port frames found) :=
  queued_ite h (raise_queued (incSat_queued h))

theorem refuseCard_queued {proto h' code : Nat} (h : Queued q s) : Queued q (s.refuseCard proto h' code) :=
  raise_queued (raise_queued h)

theorem oneCard_queued {proto : Nat} {uid : List Byte} {authOk : Bool} (h : Queued q s) :
    Queued q (s.oneCard proto uid authOk) := by
  unfold oneCard
  extract_lets _ _ _ _ x₁
  clear_value x₁
  refine queued_ite (raise_queued h) (queued_ite h (queued_ite (refuseCard_queued (queued_upd h)) ?_))
  split
  · exact raise_queued (stopSession_queued (queued_upd h))
  · exact raise_queued (raise_queued (queued_upd h))
  · exact refuseCard_queued (queued_upd h)
  · exact queued_ite (refuseCard_queued (queued_upd h)) (raise_queued (cardPresented_queued (queued_upd h)))

theorem pollFound_queued {proto : Nat} {cards : List (List Byte)} {found : Nat} {authOk : Bool} (h : Queued q s) :
    Queued q (s.pollFound proto cards found authOk) := by
  unfold pollFound
  split
  · exact queued_ite (oneCard_queued h) h
  · exact queued_ite (raise_queued (incSat_queued h)) h

theorem cardsSeen_queued {kind : Nat} {cards : List (List Byte)} (h : Queued q s) :
    Queued q (s.cardsSeen kind cards) :=
  queued_upd h

theorem cableBelieved_queued {n : Nat} {atConnect : Bool} {r : CableRead} {l : LifeCopy} {older : Nat} (h : Queued q
    s) :
    Queued q (s.cableBelieved n atConnect r l older).2 := by
  unfold cableBelieved
  extract_lets _ _ _ _ _ _ _ _ _ _ _ _ _ _ _ _ _ _ s₁
  have h₁ : Queued q s₁ := setFlag_queued (modCable_queued (setFlag_queued (wr_queued (wr_queued (wr_queued (wr_queued
    (wr_queued (wr_queued h))))))))
  exact queued_ite_snd h (queued_ite (addJob_queued h₁) h₁)

theorem cableSession_queued {n code : Nat} {atConnect : Bool} (h : Queued q s) :
    Queued q (s.cableSession n code atConnect) := by
  unfold cableSession
  refine queued_ite h ?_
  split
  · exact wr_queued (modOutlet_queued h)
  · exact queued_ite (endSession_queued h) h
  · exact queued_ite (setSess_queued (offer_queued (sessionOver_queued h))) (modOutlet_queued h)

theorem nextJob_queued (h : Queued q s) : Queued q s.nextJob := setJobs_queued (queued_upd h)

theorem lifeWrite_queued {n : Nat} (h : Queued q s) : Queued q (s.lifeWrite n) := wr_queued (modCable_queued h)

theorem ownCommit_queued {stop : Nat} :
    ∀ {l : List (Nat × Nat)} {last : Nat} {s : State}, Queued q s → Queued q (ownCommit stop l last s)
  | [], _, _, h => h
  | (b, v) :: r, last, s, h => by
    unfold ownCommit
    exact ownCommit_queued (ownWrite_queued (queued_upd (takeFree_queued h)))

/-! ### Twin (Sys2Proof/Machine/Twin.lean) -/

theorem setActIn_queued {b : Bool} (h : Queued q s) : Queued q (s.setActIn b) := queued_upd h

theorem noteFrame_queued {h' : TwinHdr} {crc : Nat} (h : Queued q s) : Queued q (s.noteFrame h' crc) := by
  unfold noteFrame
  extract_lets _ _ _ _ s₁
  have h₁ : Queued q s₁ := queued_upd (wrInt_queued (addSat_queued (setFlag_queued (wr_queued h))))
  exact queued_ite h₁ (peerEvent_queued h₁)

theorem linkRole_queued {peerRole : Nat} {peerPrefer : Bool} (h : Queued q s) :
    Queued q (s.linkRole peerRole peerPrefer) :=
  queued_ite (queued_ite (setRole_queued h) (queued_ite (setRole_queued h) h)) (queued_ite (setRole_queued h)
    (noteReady_queued h))
end State

open State

variable {q : List Instr} {s : State}

/-! ### Host (Sys2Proof/Machine/Host.lean) -/

theorem execConfigRequest_queued {t : Nat} {req : CfgReq} (h : Queued q s) :
    OutQueued q (execConfigRequest t req s) :=
  queued_next (queued_ite (configure_queued (advance_queued h)) (queued_upd (advance_queued h)))

theorem execPerstRelease_queued {t : Nat} (h : Queued q s) : OutQueued q (execPerstRelease t s) :=
  queued_next (queued_upd (advance_queued h))

theorem execHostDetach_queued {t : Nat} {cause : DetachCause} (h : Queued q s) :
    OutQueued q (execHostDetach t cause s) :=
  queued_next (queued_ite (detach_queued (advance_queued h)) (queued_ite (queued_upd (advance_queued h))
    (advance_queued h)))

theorem execHostAttach_queued {t : Nat} (h : Queued q s) : OutQueued q (execHostAttach t s) :=
  queued_next (queued_ite (advance_queued h) (queued_ite (attach_queued (advance_queued h)) (queued_ite (queued_upd
    (advance_queued h)) (advance_queued h))))

theorem execRingRegisterWrite_queued {t : Nat} {kind : RingKind} {i image : Nat} (h : Queued q s) :
    OutQueued q (execRingRegisterWrite t kind i image s) :=
  queued_next (onEvent_queued h (fun h₁ => queued_ite (writeRing_queued h₁) h₁))

theorem execDoorbellPoll_queued {t : Nat} {cmdProd cplCons evCons strProd : List Nat} {descs : List (List Desc)} {bufs
    : List (List Nat)} (h : Queued q s) :
    OutQueued q (execDoorbellPoll t cmdProd cplCons evCons strProd descs bufs s) :=
  queued_next (onEvent_queued h (fun h₁ => queued_ite h₁ (settleDestroys_queued (coalesceDue_queued (grants_queued
    (fetchRing_queued (drainAll_queued (releaseCompletions_queued (releaseStops_queued (queued_forEach
    noteBuffers_queued (queued_upd (queued_upd h₁))))))))))))

theorem execKick_queued {t off prod : Nat} {descs : List Desc} {bufs : List Nat} (h : Queued q s) :
    OutQueued q (execKick t off prod descs bufs s) :=
  queued_next (onEvent_queued h (fun h₁ => queued_ite h₁ (queued_ite (fetchRing_queued (queued_upd h₁)) (queued_ite
    (drainAll_queued (queued_upd (noteBuffers_queued h₁))) h₁))))

theorem execStopCompletionRelease_queued {t : Nat} (h : Queued q s) : OutQueued q (execStopCompletionRelease t s) :=
  queued_next (onEvent_queued h releaseStops_queued)

theorem execEvrGap_queued {t j : Nat} (h : Queued q s) : OutQueued q (execEvrGap t j s) :=
  queued_next (onEvent_queued h reportGap_queued)

theorem execNotifDataRead_queued {t flips : Nat} (h : Queued q s) : OutQueued q (execNotifDataRead t flips s) :=
  queued_next (onEvent_queued h popNotif_queued)

theorem execRingCreate_queued {x : Ctx} {kind : RingKind} {i image : Nat} (h : Queued q s) :
    OutQueued q (execRingCreate x kind i image s) :=
  queued_next (command_queued h (fun h₁ => queued_ite (complete_queued h₁) (queued_ite (complete_queued h₁)
    (complete_queued (writeRing_queued h₁)))))

theorem execRingDestroy_queued {x : Ctx} {kind : RingKind} {i : Nat} (h : Queued q s) :
    OutQueued q (execRingDestroy x kind i s) := by
  unfold execRingDestroy
  refine queued_next (command_queued h (fun h₁ => queued_ite (complete_queued h₁) ?_))
  split
  · exact queued_upd h₁
  · exact queued_ite (complete_queued h₁) (complete_queued (wr_queued h₁))
  · exact complete_queued (wr_queued h₁)
  · exact complete_queued (wr_queued h₁)

theorem execJournalFetch_queued {x : Ctx} {first span : Nat} (h : Queued q s) :
    OutQueued q (execJournalFetch x first span s) :=
  queued_next (command_queued h (fun h₁ => queued_ite (complete_queued h₁) (complete_queued (giveBuffer_queued h₁))))

theorem execStatusQuery_queued {x : Ctx} {ring first count : Nat} (h : Queued q s) :
    OutQueued q (execStatusQuery x ring first count s) :=
  queued_next (command_queued h (fun h₁ => queued_ite (complete_queued h₁) (complete_queued (giveBuffer_queued h₁))))

theorem execEcho_queued {x : Ctx} {data : List Byte} (h : Queued q s) : OutQueued q (execEcho x data s) :=
  queued_next (command_queued h complete_queued)

/-! ### Afe (Sys2Proof/Machine/Afe.lean) -/

theorem execStreamBufferFill_queued {t src mtbFirst : Nat} {data : List (List Int)} (h : Queued q s) :
    OutQueued q (execStreamBufferFill t src mtbFirst data s) :=
  queued_next (onEvent_queued h (fun h₁ => queued_ite (queued_ite (waveBlock_queued h₁) (drainSource_queued h₁))
    (sourceBlock_queued h₁)))

theorem execChOverload_queued {t c : Nat} (h : Queued q s) : OutQueued q (execChOverload t c s) := by
  unfold execChOverload
  refine queued_next (onCore_queued h (fun h₁ => queued_ite h₁ ?_))
  extract_lets s₂ _ _ s₃
  have h₂ : Queued q s₂ := incSat_queued (wr_queued h₁)
  have h₃ : Queued q s₃ := queued_upd (queued_ite (incSat_queued h₂) h₂)
  exact queued_ite (raise_queued (queued_upd h₃)) (queued_upd h₃)

theorem execMbsLost_queued {t c : Nat} (h : Queued q s) : OutQueued q (execMbsLost t c s) :=
  queued_next (onCore_queued h (fun h₁ => queued_ite h₁ (queued_forEach mpEval_queued (trkRefreshAll_queued
    (raise_queued (wr_queued (wr_queued (wr_queued h₁))))))))

theorem execMbsRestored_queued {t c : Nat} (h : Queued q s) : OutQueued q (execMbsRestored t c s) :=
  queued_next (onCore_queued h (fun h₁ => queued_ite h₁ (queued_forEach mpEval_queued (trkRefreshAll_queued
    (raise_queued (setFlag_queued (setFlag_queued (wr_queued h₁))))))))

theorem execAuxSeqDue_queued {t q' : Nat} (h : Queued q s) : OutQueued q (execAuxSeqDue t q' s) :=
  queued_next (onEvent_queued h (fun h₁ => queued_ite h₁ (queued_ite (raise_queued (incSat_queued (queued_upd h₁)))
    (startPass_queued (queued_upd (queued_upd h₁))))))

theorem execAuxConversionDone_queued {t conv : Nat} {samples : List Int} {trip : Bool} (h : Queued q s) :
    OutQueued q (execAuxConversionDone t conv samples trip s) := by
  unfold execAuxConversionDone
  refine queued_next (onEvent_queued h (fun h₁ => ?_))
  extract_lets s₂
  have h₂ : Queued q s₂ := queued_ite (auxDecide_queued h₁) h₁
  split
  · exact h₂
  · exact queued_ite h₂ (queued_ite (startEntry_queued (noteFast_queued (auxConvert_queued h₂))) (endPass_queued
      (noteFast_queued (auxConvert_queued h₂))))

theorem execAfeSeqLoad_queued {x : Ctx} {q' ctl : Nat} {ents : List Nat} (h : Queued q s) :
    OutQueued q (execAfeSeqLoad x q' ctl ents s) := by
  unfold execAfeSeqLoad
  refine queued_next (command_queued h (fun h₁ => ?_))
  split
  · exact complete_queued h₁
  · exact complete_queued (auxSlowNote_queued (queued_ite (queued_upd h₁) (loadSeq_queued h₁)))

theorem execAfeSeqEn_queued {x : Ctx} {q' on : Nat} (h : Queued q s) : OutQueued q (execAfeSeqEn x q' on s) :=
  queued_next (command_queued h (fun h₁ => queued_ite (complete_queued h₁) (complete_queued (auxSlowNote_queued
    (queued_ite (padc10_queued (save_queued (wr_queued (queued_upd h₁)))) (queued_ite (queued_upd h₁) (stopSeq_queued
    h₁)))))))

theorem execAfeAuxOneshot_queued {x : Ctx} {i conv settle avg : Nat} {samples : List Int} {trip : Bool} (h : Queued q
    s) :
    OutQueued q (execAfeAuxOneshot x i conv settle avg samples trip s) :=
  queued_next (command_queued h (fun h₁ => queued_ite (complete_queued h₁) (queued_ite (complete_queued h₁)
    (complete_queued (insertDelay_queued (auxConvert_queued h₁))))))

theorem execAfeCalZero_queued {x : Ctx} {i conv : Nat} {y0 : Int} {samples : List Int} {trip : Bool} (h : Queued q s)
    :
    OutQueued q (execAfeCalZero x i conv y0 samples trip s) :=
  queued_next (command_queued h (fun h₁ => queued_ite (complete_queued h₁) (queued_ite (complete_queued h₁)
    (queued_ite (complete_queued (calConvert_queued h₁)) (complete_queued (queued_upd (calConvert_queued h₁)))))))

theorem execAfeCalSpan_queued {x : Ctx} {i conv : Nat} {y1 : Int} {samples : List Int} {trip : Bool} (h : Queued q s)
    :
    OutQueued q (execAfeCalSpan x i conv y1 samples trip s) :=
  queued_next (command_queued h (fun h₁ => queued_ite (complete_queued h₁) (queued_ite (complete_queued h₁)
    (queued_ite (complete_queued h₁) (queued_ite (complete_queued (calConvert_queued h₁)) (queued_ite (complete_queued
    (calConvert_queued h₁)) (queued_ite (complete_queued (calConvert_queued h₁)) (complete_queued (raise_queued
    (queued_forEach save_queued (wr_queued (wr_queued (wrInt_queued (wrInt_queued (wrInt_queued (calConvert_queued
    h₁))))))))))))))))

theorem execAfeCalRestore_queued {x : Ctx} {i conv : Nat} (h : Queued q s) :
    OutQueued q (execAfeCalRestore x i conv s) :=
  queued_next (command_queued h (fun h₁ => queued_ite (complete_queued h₁) (complete_queued (queued_forEach (fun h₂ =>
    save_queued (toReset_queued h₂)) h₁))))

theorem execAfeCapture_queued {x : Ctx} {mask fmt samples : Nat} (h : Queued q s) :
    OutQueued q (execAfeCapture x mask fmt samples s) :=
  queued_next (command_queued h (fun h₁ => queued_ite (complete_queued h₁) (queued_ite (complete_queued h₁)
    (complete_queued (queued_forEach (fun h₂ => wr_queued (wr_queued (setCap_queued h₂))) h₁)))))

theorem execAfeCaptureStop_queued {x : Ctx} {mask : Nat} {parts : List (Nat × Nat × List (List Int))} (h : Queued q s)
    :
    OutQueued q (execAfeCaptureStop x mask parts s) :=
  queued_next (command_queued h (fun h₁ => queued_ite (complete_queued h₁) (complete_queued (queued_forEach
    endCapture_queued (queued_forEach sourceBlock_queued h₁)))))

/-! ### The allocator (Sys2Proof/Machine/Alloc.lean) -/

theorem execPmStatusFrame_queued {t bus id : Nat} {frame : List Byte} (h : Queued q s) :
    OutQueued q (execPmStatusFrame t bus id frame s) := by
  unfold execPmStatusFrame
  refine queued_next (onEvent_queued h (fun h₁ => ?_))
  extract_lets
  refine queued_ite h₁ ?_
  split
  · exact h₁
  · exact modPm_queued h₁

theorem execPmIdentFrame_queued {t bus id maker model serial ratedV ratedA ratedKw fw : Nat} (h : Queued q s) :
    OutQueued q (execPmIdentFrame t bus id maker model serial ratedV ratedA ratedKw fw s) := by
  unfold execPmIdentFrame
  refine queued_next (onEvent_queued h (fun h₁ => ?_))
  split
  · exact h₁
  · exact modPm_queued h₁

theorem execPmFaultFrame_queued {t bus id code severity : Nat} (h : Queued q s) :
    OutQueued q (execPmFaultFrame t bus id code severity s) := by
  unfold execPmFaultFrame
  refine queued_next (onEvent_queued h (fun h₁ => ?_))
  split
  · exact h₁
  · exact raise_queued (modPm_queued h₁)

theorem execPmLost_queued {t n i : Nat} (h : Queued q s) : OutQueued q (execPmLost t n i s) := by
  unfold execPmLost
  refine queued_next (onEvent_queued h (fun h₁ => ?_))
  extract_lets _ _ s₂
  have h₂ : Queued q s₂ := raise_queued (modPm_queued h₁)
  split
  · exact h₁
  · exact queued_ite h₁ (queued_ite (queued_ite (faultSession_queued h₂) (erem_queued h₂)) (capNow_queued h₂))

theorem execSetpointSend_queued {t n : Nat} (h : Queued q s) : OutQueued q (execSetpointSend t n s) :=
  queued_next (onEvent_queued h (fun h₁ => queued_ite h₁ (modOutlet_queued h₁)))

theorem execPmSyncSend_queued {t : Nat} (h : Queued q s) : OutQueued q (execPmSyncSend t s) :=
  queued_next (onEvent_queued h (fun h₁ => queued_ite h₁ (queued_upd h₁)))

theorem execAllocatorRun_queued {t : Nat} (h : Queued q s) : OutQueued q (execAllocatorRun t s) :=
  queued_next (onEvent_queued h (fun h₁ => queued_ite h₁ (queued_ite (queued_upd h₁) (allocatorRun_queued (queued_upd
    h₁)))))

theorem execTrellisLimitExpiry_queued {t : Nat} (h : Queued q s) : OutQueued q (execTrellisLimitExpiry t s) := by
  unfold execTrellisLimitExpiry
  refine queued_next (onEvent_queued h (fun h₁ => ?_))
  split
  · exact queued_ite (queued_upd h₁) h₁
  · exact h₁

theorem execEnforcementGraceEnd_queued {t n : Nat} (h : Queued q s) : OutQueued q (execEnforcementGraceEnd t n s) :=
  queued_next (onEvent_queued h (fun h₁ => queued_ite h₁ (modOutlet_queued (wr_queued h₁))))

theorem execAllocMaxWait_queued {t n : Nat} (h : Queued q s) : OutQueued q (execAllocMaxWait t n s) :=
  queued_next (onEvent_queued h (fun h₁ => queued_ite (endSession_queued (openOutlet_queued (raise_queued (wr_queued
    h₁)))) h₁))

/-! ### Cask (Sys2Proof/Machine/Cask.lean) -/

theorem execCaskOpen_queued {x : Ctx} (h : Queued q s) : OutQueued q (execCaskOpen x s) := by
  unfold execCaskOpen
  refine queued_next (command_queued h (fun h₁ => ?_))
  split
  · exact complete_queued h₁
  · exact complete_queued (setSlot_queued (queued_upd h₁))

theorem execCaskAction_queued {x : Ctx} {act : CaskAct} (h : Queued q s) : OutQueued q (execCaskAction x act s) :=
  queued_next (command_queued h stage_queued)

theorem execCaskPrepare_queued {x : Ctx} {id expected : Nat} (h : Queued q s) :
    OutQueued q (execCaskPrepare x id expected s) := by
  unfold execCaskPrepare
  refine queued_next (command_queued h (fun h₁ => ?_))
  split
  · exact complete_queued h₁
  · exact queued_ite (complete_queued h₁) (queued_ite (complete_queued h₁) (testCloses_queued (setSlot_queued h₁)))

theorem execCaskValidationDone_queued {t k : Nat} (h : Queued q s) : OutQueued q (execCaskValidationDone t k s) :=
  queued_next (onEvent_queued h (fun h₁ => queued_ite (validated_queued h₁) h₁))

theorem execCaskCommit_queued {x : Ctx} {id mode instant : Nat} (h : Queued q s) :
    OutQueued q (execCaskCommit x id mode instant s) := by
  unfold execCaskCommit
  refine queued_next (command_queued h (fun h₁ => ?_))
  split
  · exact complete_queued h₁
  · exact queued_ite (complete_queued h₁) (commitCask_queued h₁)

theorem execCaskAbort_queued {x : Ctx} {id : Nat} (h : Queued q s) : OutQueued q (execCaskAbort x id s) := by
  unfold execCaskAbort
  refine queued_next (command_queued h (fun h₁ => ?_))
  split
  · exact complete_queued h₁
  · exact queued_ite (complete_queued h₁) (queued_ite (complete_queued (abortCask_queued h₁)) (complete_queued h₁))

theorem execCaskQuery_queued {x : Ctx} {id : Nat} (h : Queued q s) : OutQueued q (execCaskQuery x id s) := by
  unfold execCaskQuery
  refine queued_next (command_queued h (fun h₁ => ?_))
  split <;> exact complete_queued h₁

theorem execFuncDisable_queued {x : Ctx} {block inst : Nat} (h : Queued q s) :
    OutQueued q (execFuncDisable x block inst s) :=
  queued_next (command_queued h (fun h₁ => queued_ite (complete_queued h₁) (queued_ite (complete_queued
    (partitionDenied_queued h₁)) (disableSteps_queued (complete_queued h₁)))))

theorem execFuncDisableDone_queued {t block inst : Nat} (h : Queued q s) :
    OutQueued q (execFuncDisableDone t block inst s) := by
  unfold execFuncDisableDone
  refine queued_next (onEvent_queued h (fun h₁ => ?_))
  split
  · exact h₁
  · extract_lets _ s₂ _ _ s₃ _ s₄ s₅
    have h₂ : Queued q s₂ := queued_forEach recClose_queued h₁
    have h₃ : Queued q s₃ := queued_upd h₂
    have h₄ : Queued q s₄ := queued_ite (queued_upd h₃) h₃
    have h₅ : Queued q s₅ := queued_ite (lswDisable_queued h₄) h₄
    exact queued_ite h₁ (queued_ite h₂ (finalise_queued (raise_queued (queued_ite (setSess_queued (offer_queued h₅))
      h₅))))

theorem execCaskOpenTimeout_queued {t k : Nat} (h : Queued q s) : OutQueued q (execCaskOpenTimeout t k s) :=
  queued_next (onEvent_queued h (fun h₁ => queued_ite (abortCask_queued h₁) h₁))

theorem execCaskPreparedTimeout_queued {t k : Nat} (h : Queued q s) : OutQueued q (execCaskPreparedTimeout t k s) :=
  queued_next (onEvent_queued h (fun h₁ => queued_ite (abortCask_queued h₁) h₁))

theorem execCaskRecordWrite_queued {t k : Nat} {whole : Bool} (h : Queued q s) :
    OutQueued q (execCaskRecordWrite t k whole s) :=
  queued_next (onEvent_queued h (fun h₁ => queued_ite (writeRecord_queued h₁) h₁))

theorem execCaskSyncEdge_queued {t edge : Nat} {falling : Bool} (h : Queued q s) :
    OutQueued q (execCaskSyncEdge t edge falling s) :=
  queued_next (onEvent_queued h (fun h₁ => queued_ite h₁ (queued_forEach (fun h₂ => queued_ite (queued_ite
    (writeRecord_queued (modSlot_queued h₂)) (modSlot_queued h₂)) h₂) h₁)))

theorem execCaskSyncTimeout_queued {t k : Nat} (h : Queued q s) : OutQueued q (execCaskSyncTimeout t k s) :=
  queued_next (onEvent_queued h (fun h₁ => queued_ite (abortCask_queued h₁) h₁))

theorem execCaskRetract_queued {t k : Nat} (h : Queued q s) : OutQueued q (execCaskRetract t k s) :=
  queued_next (onCore_queued h (fun h₁ => queued_ite (abortCask_queued h₁) h₁))

theorem execCaskApply_queued {t k : Nat} {applied : List (Nat × Nat)} {lowRefused : Bool} (h : Queued q s) :
    OutQueued q (execCaskApply t k applied lowRefused s) :=
  queued_next (onEvent_queued h (fun h₁ => queued_ite (queued_ite (caskDone_queued (lateApplies_queued
    (applySlot_queued h₁))) (closeApplied_queued (caskDone_queued (lateApplies_queued (applySlot_queued h₁))))) h₁))

/-! ### Ledger (Sys2Proof/Machine/Ledger.lean) -/

theorem execLedgerCommit_queued {t : Nat} {ok : Bool} (h : Queued q s) : OutQueued q (execLedgerCommit t ok s) := by
  unfold execLedgerCommit
  refine queued_next (onCore_queued h (fun h₁ => ?_))
  extract_lets
  refine queued_ite h₁ ?_
  split
  · exact queued_ite (commitState_queued (queued_upd h₁)) (queued_ite (commitState_queued (queued_upd
      (transaction_queued h₁))) h₁)
  · exact commitState_queued (queued_upd h₁)

theorem execTariffSwitch_queued {t : Nat} (h : Queued q s) : OutQueued q (execTariffSwitch t s) :=
  queued_next (onEvent_queued h (fun h₁ => queued_ite h₁ (queued_ite (demandBoundary_queued h₁) (queued_ite h₁
    (queued_ite (append_queued (queued_forEach tariffGo_queued h₁)) (addBoundary_queued h₁))))))

theorem execCalendarActivate_queued {t : Nat} (h : Queued q s) : OutQueued q (execCalendarActivate t s) := by
  unfold execCalendarActivate
  refine queued_next (onEvent_queued h (fun h₁ => ?_))
  split
  · exact queued_ite h₁ (addBoundary_queued h₁)
  · exact h₁

theorem execDemandBoundary_queued {t : Nat} (h : Queued q s) : OutQueued q (execDemandBoundary t s) :=
  queued_next (onEvent_queued h demandBoundary_queued)

theorem execBoundaryTransaction_queued {t : Nat} (h : Queued q s) : OutQueued q (execBoundaryTransaction t s) := by
  unfold execBoundaryTransaction
  refine queued_next (onEvent_queued h (fun h₁ => ?_))
  split
  · exact queued_ite (transaction_queued h₁) h₁
  · exact h₁

theorem execSyncWindowExpiry_queued {t : Nat} (h : Queued q s) : OutQueued q (execSyncWindowExpiry t s) := by
  unfold execSyncWindowExpiry
  refine queued_next (onEvent_queued h (fun h₁ => ?_))
  split
  · exact queued_ite (releaseHeld_queued h₁) h₁
  · exact h₁

theorem execSealIdle_queued {t : Nat} (h : Queued q s) : OutQueued q (execSealIdle t s) :=
  queued_next (onEvent_queued h (fun h₁ => queued_ite (tamper_queued (queued_upd h₁)) h₁))

theorem execLegalSealChange_queued {t : Nat} {level : Bool} (h : Queued q s) :
    OutQueued q (execLegalSealChange t level s) :=
  queued_next (onEvent_queued h (fun h₁ => queued_ite h₁ (sealChange_queued h₁)))

theorem execCalExpiry_queued {t : Nat} (h : Queued q s) : OutQueued q (execCalExpiry t s) := by
  unfold execCalExpiry
  refine queued_next (onEvent_queued h (fun h₁ => ?_))
  split
  · exact queued_ite (calClose_queued h₁) h₁
  · exact h₁

theorem execLedgerQuery_queued {x : Ctx} {m : Nat} (h : Queued q s) : OutQueued q (execLedgerQuery x m s) :=
  queued_next (command_queued h (fun h₁ => queued_ite (complete_queued h₁) (complete_queued h₁)))

theorem execLedgerSessionRecord_queued {x : Ctx} {n m op kind : Nat} {ident : List Byte} {price reason : Nat} (h :
    Queued q s) :
    OutQueued q (execLedgerSessionRecord x n m op kind ident price reason s) := by
  unfold execLedgerSessionRecord
  extract_lets
  refine queued_next (command_queued h (fun h₁ => queued_ite (complete_queued h₁) (queued_ite ?_ ?_)))
  · split
    · exact complete_queued h₁
    · exact complete_queued (recOpen_queued h₁)
  · split
    · exact complete_queued h₁
    · exact complete_queued (recClose_queued h₁)

theorem execLedgerTariffSelect_queued {x : Ctx} {mask tariff price : Nat} (h : Queued q s) :
    OutQueued q (execLedgerTariffSelect x mask tariff price s) := by
  unfold execLedgerTariffSelect
  refine queued_next (command_queued h (fun h₁ => ?_))
  split
  · exact complete_queued h₁
  · exact complete_queued (tariffSelect_queued h₁)

theorem execLedgerReadSigned_queued {x : Ctx} {mask : Nat} (h : Queued q s) :
    OutQueued q (execLedgerReadSigned x mask s) := by
  unfold execLedgerReadSigned
  refine queued_next (command_queued h (fun h₁ => ?_))
  split
  · exact complete_queued h₁
  · exact readStart_queued h₁

theorem execLedgerRecordFetch_queued {x : Ctx} {first maxBytes ackTo : Nat} (h : Queued q s) :
    OutQueued q (execLedgerRecordFetch x first maxBytes ackTo s) :=
  queued_next (command_queued h (fun h₁ => queued_ite (complete_queued (queued_upd h₁)) (complete_queued
    (giveBuffer_queued (queued_upd h₁)))))

theorem execLedgerTimeSet_queued {x : Ctx} {ms : Nat} {sig : Option OwnerSig} (h : Queued q s) :
    OutQueued q (execLedgerTimeSet x ms sig s) := by
  unfold execLedgerTimeSet
  refine queued_next (command_queued h (fun h₁ => queued_ite (complete_queued h₁) ?_))
  split
  · exact complete_queued h₁
  · exact complete_queued (timeSet_queued (ownerTook_queued h₁))
  · exact complete_queued (timeSet_queued h₁)

theorem execLedgerCalendarLoad_queued {x : Ctx} {image : List Byte} {sigOk : Bool} (h : Queued q s) :
    OutQueued q (execLedgerCalendarLoad x image sigOk s) := by
  unfold execLedgerCalendarLoad
  refine queued_next (command_queued h (fun h₁ => queued_ite (complete_queued h₁) ?_))
  split
  · exact complete_queued (queued_upd h₁)
  · exact complete_queued h₁

theorem execLedgerBillingClose_queued {x : Ctx} (h : Queued q s) : OutQueued q (execLedgerBillingClose x s) :=
  queued_next (command_queued h (fun h₁ => queued_ite (complete_queued h₁) (queued_ite (complete_queued h₁)
    (queued_ite (complete_queued h₁) (queued_upd h₁)))))

theorem execLedgerBillingRead_queued {x : Ctx} {k : Nat} (h : Queued q s) :
    OutQueued q (execLedgerBillingRead x k s) := by
  unfold execLedgerBillingRead
  refine queued_next (command_queued h (fun h₁ => ?_))
  split
  · exact complete_queued h₁
  · exact complete_queued (giveBuffer_queued h₁)

theorem execLedgerCalChallenge_queued {x : Ctx} (h : Queued q s) : OutQueued q (execLedgerCalChallenge x s) := by
  unfold execLedgerCalChallenge
  refine queued_next (command_queued h (fun h₁ => queued_ite ?_ ?_))
  · exact complete_queued h₁
  · split
    rename_i hp
    exact complete_queued (giveBuffer_queued (queued_upd (queued_snd hp (drbgNext_queued h₁))))

theorem execLedgerCalOpen_queued {x : Ctx} {mask mins challenge : Nat} {sigOk : Bool} (h : Queued q s) :
    OutQueued q (execLedgerCalOpen x mask mins challenge sigOk s) :=
  queued_next (command_queued h (fun h₁ => queued_ite (complete_queued h₁) (queued_ite (complete_queued (tamper_queued
    h₁)) (queued_ite (complete_queued (tamper_queued h₁)) (queued_ite (complete_queued h₁) (queued_ite
    (complete_queued h₁) (legalRepaint_queued (complete_queued (raise_queued (tamper_queued (wr_queued (queued_upd
    h₁))))))))))))

theorem execLedgerCalClose_queued {x : Ctx} (h : Queued q s) : OutQueued q (execLedgerCalClose x s) :=
  queued_next (command_queued h (fun h₁ => queued_ite (complete_queued h₁) (complete_queued (calClose_queued h₁))))

theorem execLedgerLegalId_queued {x : Ctx} (h : Queued q s) : OutQueued q (execLedgerLegalId x s) :=
  queued_next (command_queued h (fun h₁ => complete_queued (giveBuffer_queued h₁)))

theorem execLedgerAckLoss_queued {x : Ctx} (h : Queued q s) : OutQueued q (execLedgerAckLoss x s) :=
  queued_next (command_queued h (fun h₁ => complete_queued (wr_queued h₁)))

/-! ### Key (Sys2Proof/Machine/Key.lean) -/

theorem execRiddle_queued {t : Nat} (h : Queued q s) : OutQueued q (execRiddle t s) := by
  unfold execRiddle
  refine queued_next (onEvent_queued h (fun h₁ => ?_))
  extract_lets _ _ _ _ _ s₂
  have h₂ : Queued q s₂ := queued_upd (queued_ite (incSat_queued h₁) h₁)
  refine queued_ite h₁ (queued_ite (queued_forEach (fun h₄ => ?_) h₂) h₂)
  split
  rename_i hp
  exact queued_upd (queued_snd hp (drbgNext_queued h₄))

theorem execDrbgReseed_queued {t : Nat} (h : Queued q s) : OutQueued q (execDrbgReseed t s) :=
  queued_next (onEvent_queued h (fun h₁ => queued_ite (reseed_queued h₁) h₁))

theorem execEntropyFail_queued {t test : Nat} (h : Queued q s) : OutQueued q (execEntropyFail t test s) :=
  queued_next (onEvent_queued h (fun h₁ => raise_queued (queued_upd (incSat_queued (wr_queued h₁)))))

theorem execEntropyRetest_queued {t : Nat} {pass : Bool} (h : Queued q s) :
    OutQueued q (execEntropyRetest t pass s) :=
  queued_next (onEvent_queued h (fun h₁ => queued_ite h₁ (queued_ite (queued_upd (queued_upd h₁)) (queued_ite
    (queued_upd (queued_upd h₁)) (raise_queued (wr_queued (reseed_queued (queued_upd (queued_upd h₁)))))))))

theorem execKeySelftestDone_queued {t : Nat} {failed : List Nat} {ber : Option Nat} (h : Queued q s) :
    OutQueued q (execKeySelftestDone t failed ber s) :=
  queued_next (onEvent_queued h (fun h₁ => queued_ite h₁ (queued_ite (recoveryOutlets_queued (regenerate_queued
    (finaliseOpt_queued (wr_queued (setKeyMode_queued (queued_upd h₁)))))) (recoveryOutlets_queued (finaliseOpt_queued
    (keyRecovery_queued (queued_forEach raise_queued (queued_upd h₁))))))))

theorem execCredVerifyDone_queued {t : Nat} (h : Queued q s) : OutQueued q (execCredVerifyDone t s) := by
  unfold execCredVerifyDone
  refine queued_next (onEvent_queued h (fun h₁ => ?_))
  split
  · exact h₁
  · split
    · exact finalise_queued (credFlip_queued h₁)
    · exact finalise_queued (raise_queued (wr_queued (queued_upd h₁)))

theorem execFlashBlockFail_queued {t a : Nat} (h : Queued q s) : OutQueued q (execFlashBlockFail t a s) :=
  queued_next (onEvent_queued h (fun h₁ => queued_ite h₁ (queued_ite (wr_queued h₁) (raise_queued (queued_ite
    (wr_queued (wr_queued h₁)) (wr_queued h₁))))))

theorem execKeyQuery_queued {x : Ctx} (h : Queued q s) : OutQueued q (execKeyQuery x s) :=
  queued_next (command_queued h complete_queued)

theorem execKeyNodeQuery_queued {x : Ctx} {path : List (List Byte)} (h : Queued q s) :
    OutQueued q (execKeyNodeQuery x path s) :=
  queued_next (command_queued h (fun h₁ => onNode_queued h₁ (fun h₂ => complete_queued (giveBuffer_queued h₂))))

theorem execKeyInvalidate_queued {x : Ctx} {path : List (List Byte)} {sig : OwnerSig} (h : Queued q s) :
    OutQueued q (execKeyInvalidate x path sig s) :=
  queued_next (command_queued h (fun h₁ => onNode_queued h₁ (fun h₂ => owned_queued h₂ (fun h₃ => complete_queued
    (queued_ite (signKeyChanged_queued (raise_queued (invalidate_queued h₃))) (raise_queued (invalidate_queued
    h₃)))))))

theorem execKeyRederive_queued {x : Ctx} {path : List (List Byte)} {sig : OwnerSig} (h : Queued q s) :
    OutQueued q (execKeyRederive x path sig s) :=
  queued_next (command_queued h (fun h₁ => onNode_queued h₁ (fun h₂ => owned_queued h₂ (fun h₃ => complete_queued
    (queued_ite (rederive_queued h₃) (signKeyChanged_queued (rederive_queued h₃)))))))

theorem execKeyInstall_queued {x : Ctx} {blob : List Byte} {plain : Option Nat} {sigOk : Bool} (h : Queued q s) :
    OutQueued q (execKeyInstall x blob plain sigOk s) := by
  unfold execKeyInstall
  refine queued_next (command_queued h (fun h₁ => withTree_queued h₁ (fun h₂ => ?_)))
  split
  · exact complete_queued h₂
  · exact owned_queued h₂ (fun h₃ => complete_queued (cacheCounts_queued (queued_ite (modNode_queued h₃) (queued_upd
      h₃))))

theorem execKeyOwnerSet_queued {x : Ctx} {pk : List Byte} {counter : Nat} {sig : Option Bool} (h : Queued q s) :
    OutQueued q (execKeyOwnerSet x pk counter sig s) := by
  unfold execKeyOwnerSet
  refine queued_next (command_queued h (fun h₁ => ?_))
  extract_lets
  refine queued_ite (complete_queued h₁) ?_
  split
  · exact owned_queued h₁ (fun h₂ => complete_queued (wr_queued (queued_upd h₂)))
  · exact queued_ite (complete_queued h₁) (queued_ite (complete_queued h₁) (complete_queued (wr_queued (queued_upd
      (ownerTook_queued h₁)))))

theorem execKeyAnchorInstall_queued {x : Ctx} {slot typ : Nat} {item : List Byte} {valid : Bool} {sig : OwnerSig} (h :
    Queued q s) :
    OutQueued q (execKeyAnchorInstall x slot typ item valid sig s) :=
  queued_next (command_queued h (fun h₁ => owned_queued h₁ (fun h₂ => complete_queued (queued_upd h₂))))

theorem execKeyCsr_queued {x : Ctx} {path : List (List Byte)} {subject : List Byte} (h : Queued q s) :
    OutQueued q (execKeyCsr x path subject s) :=
  queued_next (command_queued h (fun h₁ => onNode_queued h₁ (fun h₂ => queued_ite (complete_queued h₂) (queued_ite
    (complete_queued h₂) (complete_queued (giveBuffer_queued (useNode_queued h₂)))))))

theorem execKeyCertInstall_queued {x : Ctx} {path chain : List (List Byte)} {leafKey : Nat} {periods : List (Nat ×
    Nat)} {valid : Bool} (h : Queued q s) :
    OutQueued q (execKeyCertInstall x path chain leafKey periods valid s) :=
  queued_next (command_queued h (fun h₁ => onNode_queued h₁ (fun h₂ => queued_ite (complete_queued h₂) (queued_ite
    (complete_queued h₂) (queued_ite (complete_queued h₂) (complete_queued (modNode_queued h₂)))))))

theorem execKeyAttest_queued {x : Ctx} {nonce : Nat} {paths : List (List (List Byte))} (h : Queued q s) :
    OutQueued q (execKeyAttest x nonce paths s) :=
  queued_next (command_queued h (fun h₁ => withTree_queued h₁ (fun h₂ => queued_ite (complete_queued h₂) (queued_ite
    (complete_queued h₂) (complete_queued (giveBuffer_queued (queued_forEach useNode_queued h₂)))))))

theorem execKeyAttestCert_queued {x : Ctx} (h : Queued q s) : OutQueued q (execKeyAttestCert x s) :=
  queued_next (command_queued h (fun h₁ => complete_queued (giveBuffer_queued h₁)))

theorem execKeySelftest_queued {x : Ctx} (h : Queued q s) : OutQueued q (execKeySelftest x s) :=
  queued_next (command_queued h (fun h₁ => withTree_queued h₁ (fun h₂ => queued_ite (complete_queued h₂) (queued_upd
    (complete_queued (setKeyMode_queued (clearKeys_queued h₂)))))))

theorem execCredLoadBegin_queued {x : Ctx} {gen count : Nat} (h : Queued q s) :
    OutQueued q (execCredLoadBegin x gen count s) :=
  queued_next (command_queued h (fun h₁ => withCreds_queued h₁ (fun h₂ => queued_ite (complete_queued h₂) (queued_ite
    (complete_queued h₂) (queued_ite (complete_queued h₂) (queued_ite (complete_queued h₂) (complete_queued (wr_queued
    (queued_ite h₂ (wr_queued (queued_upd h₂)))))))))))

theorem execCredLoadData_queued {x : Ctx} {first : Nat} {recs : List CredRec} (h : Queued q s) :
    OutQueued q (execCredLoadData x first recs s) :=
  queued_next (command_queued h (fun h₁ => withCreds_queued h₁ (fun h₂ => queued_ite (complete_queued h₂) (queued_ite
    (complete_queued h₂) (queued_ite (complete_queued h₂) (queued_ite (complete_queued h₂) (queued_ite
    (complete_queued h₂) (complete_queued (wr_queued (queued_upd h₂))))))))))

theorem execCredLoadCommit_queued {x : Ctx} {gen count digest serial : Nat} {sigOk : Bool} (h : Queued q s) :
    OutQueued q (execCredLoadCommit x gen count digest serial sigOk s) :=
  queued_next (command_queued h (fun h₁ => withCreds_queued h₁ (fun h₂ => queued_ite (complete_queued h₂) (queued_ite
    (complete_queued h₂) (queued_upd (complete_queued (wr_queued h₂)))))))

theorem execCredLoadAbort_queued {x : Ctx} (h : Queued q s) : OutQueued q (execCredLoadAbort x s) :=
  queued_next (command_queued h (fun h₁ => withCreds_queued h₁ (fun h₂ => complete_queued (endLoad_queued (queued_upd
    (finaliseOpt_queued h₂))))))

theorem execCredUpdate_queued {x : Ctx} {recs : List CredRec} {sig : OwnerSig} (h : Queued q s) :
    OutQueued q (execCredUpdate x recs sig s) := by
  unfold execCredUpdate
  refine queued_next (command_queued h (fun h₁ => withCreds_queued h₁ (fun h₂ => ?_)))
  extract_lets x₁
  clear_value x₁
  refine queued_ite (owned_queued h₂ (fun h₃ => complete_queued (wr_queued (queued_upd h₃)))) ?_
  split
  · exact complete_queued h₂
  · exact complete_queued (wr_queued (queued_upd h₂))

theorem execCredLookup_queued {x : Ctx} {kind hash n : Nat} {tagBad : Bool} (h : Queued q s) :
    OutQueued q (execCredLookup x kind hash n tagBad s) := by
  unfold execCredLookup
  refine queued_next ?_
  refine command_queued h (fun h₁ => withCreds_queued h₁ (fun h₂ => queued_ite (complete_queued h₂) ?_))
  extract_lets _ _ s₃
  have h₃ : Queued q s₃ := by
    unfold s₃
    split
    · exact raise_queued (queued_upd h₂)
    · exact h₂
  split
  · exact complete_queued h₃
  · exact complete_queued (giveBuffer_queued h₃)
  · exact complete_queued (giveBuffer_queued h₃)

/-! ### Upd (Sys2Proof/Machine/Upd.lean) -/

theorem execUpdBegin_queued {x : Ctx} {man : List Byte} {sigs : Bool × Bool} (h : Queued q s) :
    OutQueued q (execUpdBegin x man sigs s) :=
  queued_next (command_queued h (fun h₁ => hostSource_queued h₁ (fun h₂ => complete_queued (updBegin_queued h₂))))

theorem execUpdBlock_queued {x : Ctx} {first : Nat} {blocks : List (List Byte)} (h : Queued q s) :
    OutQueued q (execUpdBlock x first blocks s) :=
  queued_next (command_queued h (fun h₁ => hostSource_queued h₁ (fun h₂ => complete_queued (updReceive_queued h₂))))

theorem execUpdStatus_queued {x : Ctx} {first : Nat} (h : Queued q s) : OutQueued q (execUpdStatus x first s) :=
  queued_next (command_queued h (fun h₁ => complete_queued (giveBuffer_queued (updTouch_queued h₁))))

theorem execUpdActivate_queued {x : Ctx} {mode : Nat} (h : Queued q s) : OutQueued q (execUpdActivate x mode s) := by
  unfold execUpdActivate
  refine queued_next (command_queued h (fun h₁ => ?_))
  split
  · exact complete_queued h₁
  · exact activate_queued (complete_queued (updTouch_queued h₁))

theorem execUpdConfirm_queued {x : Ctx} (h : Queued q s) : OutQueued q (execUpdConfirm x s) :=
  queued_next (command_queued h (fun h₁ => queued_ite (complete_queued h₁) (queued_ite (complete_queued h₁)
    (complete_queued (updConfirm_queued h₁)))))

theorem execUpdRevert_queued {x : Ctx} (h : Queued q s) : OutQueued q (execUpdRevert x s) :=
  queued_next (command_queued h (fun h₁ => queued_ite (complete_queued h₁) (revertStart_queued (complete_queued h₁))))

theorem execUpdAbort_queued {x : Ctx} {sig : Option OwnerSig} (h : Queued q s) : OutQueued q (execUpdAbort x sig s) :=
  queued_next (command_queued h (fun h₁ => complete_queued (updAbort_queued h₁)))

theorem execUpdPolicy_queued {x : Ctx} {cosign : Nat} {sig : OwnerSig} (h : Queued q s) :
    OutQueued q (execUpdPolicy x cosign sig s) :=
  queued_next (command_queued h (fun h₁ => owned_queued h₁ (fun h₂ => complete_queued (wr_queued h₂))))

theorem execUpdVerifyDone_queued {t : Nat} {readOk : Bool} (h : Queued q s) :
    OutQueued q (execUpdVerifyDone t readOk s) :=
  queued_next (onUpd_queued h updVerified_queued)

theorem execUpdLockIdle_queued {t : Nat} (h : Queued q s) : OutQueued q (execUpdLockIdle t s) :=
  queued_next (onUpd_queued h (fun h₁ => queued_ite (updRelease_queued (updGo_queued h₁)) h₁))

theorem execUpdActivationFlip_queued {t : Nat} (h : Queued q s) : OutQueued q (execUpdActivationFlip t s) := by
  unfold execUpdActivationFlip
  refine queued_next (onUpd_queued h (fun h₁ => ?_))
  split
  · exact queued_ite (updFlip_queued h₁) h₁
  · exact h₁

theorem execUpdActivateTimeout_queued {t : Nat} (h : Queued q s) : OutQueued q (execUpdActivateTimeout t s) := by
  unfold execUpdActivateTimeout
  refine queued_next (onUpd_queued h (fun h₁ => ?_))
  split
  · exact queued_ite (actEnds_queued (updGo_queued h₁)) h₁
  · exact h₁

theorem execTrialTimeSave_queued {t : Nat} (h : Queued q s) : OutQueued q (execTrialTimeSave t s) :=
  queued_next (onEvent_queued h (fun h₁ => queued_ite (ptrWrite_queued (wr_queued (healthNote_queued (queued_upd
    h₁)))) h₁))

theorem execUpdAutoConfirm_queued {t : Nat} (h : Queued q s) : OutQueued q (execUpdAutoConfirm t s) :=
  queued_next (onEvent_queued h (fun h₁ => queued_ite (updConfirm_queued (healthNote_queued h₁)) (healthNote_queued
    h₁)))

theorem execTrialTimeout_queued {t : Nat} (h : Queued q s) : OutQueued q (execTrialTimeout t s) :=
  queued_next (onEvent_queued h (fun h₁ => queued_ite (revertStart_queued h₁) h₁))

theorem execSvcBegin_queued {t : Nat} {man : List Byte} {sigs : Bool × Bool} (h : Queued q s) :
    OutQueued q (execSvcBegin t man sigs s) :=
  queued_next (onUpd_queued h (fun h₁ => svcReply_queued (updBegin_queued h₁)))

theorem execSvcBlock_queued {t block : Nat} {data : List Byte} (h : Queued q s) :
    OutQueued q (execSvcBlock t block data s) :=
  queued_next (onUpd_queued h (fun h₁ => svcReply_queued (updReceive_queued h₁)))

theorem execSvcActivate_queued {t mode : Nat} (h : Queued q s) : OutQueued q (execSvcActivate t mode s) := by
  unfold execSvcActivate
  refine queued_next (onUpd_queued h (fun h₁ => ?_))
  split
  · exact svcReply_queued h₁
  · exact activate_queued (svcReply_queued (updTouch_queued h₁))

theorem execSvcStatus_queued {t : Nat} (h : Queued q s) : OutQueued q (execSvcStatus t s) :=
  queued_next (onUpd_queued h (fun h₁ => svcReply_queued (updTouch_queued h₁)))

theorem execSvcAbort_queued {t : Nat} {sig : Option OwnerSig} (h : Queued q s) : OutQueued q (execSvcAbort t sig s) :=
  queued_next (onUpd_queued h (fun h₁ => svcReply_queued (updAbort_queued h₁)))

theorem execSvcConfirm_queued {t : Nat} (h : Queued q s) : OutQueued q (execSvcConfirm t s) :=
  queued_next (onUpd_queued h (fun h₁ => queued_ite (svcReply_queued h₁) (queued_ite (svcReply_queued h₁)
    (svcReply_queued (updConfirm_queued h₁)))))

theorem execSvcRevert_queued {t : Nat} (h : Queued q s) : OutQueued q (execSvcRevert t s) :=
  queued_next (onUpd_queued h (fun h₁ => queued_ite (svcReply_queued h₁) (revertStart_queued (svcReply_queued h₁))))

theorem execSvcBadFrame_queued {t : Nat} (h : Queued q s) : OutQueued q (execSvcBadFrame t s) :=
  queued_next (advance_queued h)

/-! ### Arch (Sys2Proof/Machine/Arch.lean) -/

theorem execIslandCrossing_queued {t target : Nat} {gated : Bool} {reqs : List Xing} (h : Queued q s) :
    OutQueued q (execIslandCrossing t target gated reqs s) :=
  queued_next (onCore_queued h (fun h₁ => queued_ite h₁ (queued_forEach_snd serveXing_queued (queued_ite (wr_queued
    (queued_upd h₁)) (queued_upd h₁)))))

theorem execLinkTimeout_queued {t src dst : Nat} {ini : Ini} {cmd : Option (Nat × Nat)} (h : Queued q s) :
    OutQueued q (execLinkTimeout t src dst ini cmd s) :=
  queued_next (onCore_queued h (fun h₁ => queued_ite h₁ (linkTimeout_queued h₁)))

theorem execRtcSecondEdge_queued {t : Nat} (h : Queued q s) : OutQueued q (execRtcSecondEdge t s) :=
  queued_next (onCore_queued h secondEdge_queued)

theorem execControlCycleStart_queued {t : Nat} {feed : List Feed} (h : Queued q s) :
    OutQueued q (execControlCycleStart t feed s) :=
  queued_next (onEvent_queued h (fun h₁ => queued_ite h₁ (controlCycle_queued h₁)))

theorem execOutputStagingDeadline_queued {t late : Nat} (h : Queued q s) :
    OutQueued q (execOutputStagingDeadline t late s) :=
  queued_next (onEvent_queued h (fun h₁ => queued_ite h₁ (stagingDeadline_queued h₁)))

theorem execACheckDeadline_queued {t : Nat} {done : Bool} (h : Queued q s) :
    OutQueued q (execACheckDeadline t done s) :=
  queued_next (onEvent_queued h (fun h₁ => queued_ite h₁ (queued_upd h₁)))

/-! ### Coil (Sys2Proof/Machine/Coil.lean) -/

theorem execCoilPullinStart_queued {t k : Nat} (h : Queued q s) : OutQueued q (execCoilPullinStart t k s) :=
  queued_next (onEvent_queued h startPullIn_queued)

theorem execCoilPullinEnd_queued {t k : Nat} (h : Queued q s) : OutQueued q (execCoilPullinEnd t k s) :=
  queued_next (onEvent_queued h (fun h₁ => queued_ite (holdFrom_queued h₁) h₁))

theorem execCoilOpen_queued {t k ma ms : Nat} (h : Queued q s) : OutQueued q (execCoilOpen t k ma ms s) :=
  queued_next (onCore_queued h (fun h₁ => queued_ite (coilFault_queued (wr_queued h₁)) (wr_queued h₁)))

theorem execCoilShort_queued {t k ma : Nat} (h : Queued q s) : OutQueued q (execCoilShort t k ma s) :=
  queued_next (onCore_queued h (fun h₁ => queued_ite (coilFault_queued (wr_queued h₁)) (wr_queued h₁)))

theorem execWeldCheck_queued {t n : Nat} (h : Queued q s) : OutQueued q (execWeldCheck t n s) := by
  unfold execWeldCheck
  refine queued_next (onCore_queued h (fun h₁ => ?_))
  split
  · exact queued_ite (weldCheck_queued h₁) h₁
  · exact h₁

theorem execShuntTripEnd_queued {t : Nat} (h : Queued q s) : OutQueued q (execShuntTripEnd t s) := by
  unfold execShuntTripEnd
  refine queued_next (onCore_queued h (fun h₁ => ?_))
  split
  · exact queued_ite (setFlag_queued (queued_upd h₁)) h₁
  · exact h₁

theorem execShuntTripRepeat_queued {t n : Nat} (h : Queued q s) : OutQueued q (execShuntTripRepeat t n s) := by
  unfold execShuntTripRepeat
  refine queued_next (onCore_queued h (fun h₁ => ?_))
  extract_lets s₂
  have h₂ : Queued q s₂ := shuntKeep_queued h₁
  split
  · exact queued_ite (shuntOn_queued h₂) h₂
  · exact h₂

theorem execDarkTestPulse_queued {t k : Nat} {low : Bool} {offUs : Option Nat} {otherOpens : Bool} (h : Queued q s) :
    OutQueued q (execDarkTestPulse t k low offUs otherOpens s) :=
  queued_next (onEvent_queued h (fun h₁ => queued_ite h₁ (queued_ite (queued_upd (testBegin_queued h₁))
    (testStuck_queued (testBegin_queued h₁)))))

theorem execDarkTestEnd_queued {t : Nat} {onUs : Option Nat} (h : Queued q s) :
    OutQueued q (execDarkTestEnd t onUs s) := by
  unfold execDarkTestEnd
  refine queued_next (onEvent_queued h (fun h₁ => ?_))
  split
  · exact h₁
  · exact queued_ite h₁ (queued_forEach startPullIn_queued (raise_queued (queued_ite (modCoil_queued (queued_upd h₁))
      (modCoil_queued (queued_upd h₁)))))

theorem execCoilUncontrol_queued {t k : Nat} (h : Queued q s) : OutQueued q (execCoilUncontrol t k s) :=
  queued_next (onCore_queued h (fun h₁ => queued_ite (shuntOn_queued (moduleTrip_queued h₁)) h₁))

/-! ### Disp (Sys2Proof/Machine/Disp.lean) -/

theorem execLegalBtnPress_queued {t : Nat} (h : Queued q s) : OutQueued q (execLegalBtnPress t s) :=
  queued_next (onEvent_queued h (fun h₁ => legalRepaint_queued (queued_upd h₁)))

theorem execLegalDisplayTimeout_queued {t : Nat} (h : Queued q s) : OutQueued q (execLegalDisplayTimeout t s) :=
  queued_next (onEvent_queued h (fun h₁ => queued_ite h₁ (legalRepaint_queued (queued_upd h₁))))

theorem execLegalSilent_queued {t : Nat} (h : Queued q s) : OutQueued q (execLegalSilent t s) :=
  queued_next (onEvent_queued h (fun h₁ => segPaint_queued (queued_upd h₁)))

theorem execSegFrame_queued {t : Nat} (h : Queued q s) : OutQueued q (execSegFrame t s) := by
  unfold execSegFrame
  refine queued_next (onEvent_queued h (fun h₁ => ?_))
  split
  · exact h₁
  · exact queued_ite h₁ (segSteps_queued (queued_upd (queued_upd h₁)))

theorem execSegSense_queued {t : Nat} {caps : List Nat} (h : Queued q s) : OutQueued q (execSegSense t caps s) := by
  unfold execSegSense
  refine queued_next (onEvent_queued h (fun h₁ => queued_ite h₁ ?_))
  extract_lets
  refine queued_forEach (fun h₃ => ?_) (queued_upd h₁)
  extract_lets s₄
  have h₄ : Queued q s₄ := queued_ite (wr_queued h₃) h₃
  exact queued_ite (raise_queued (wr_queued h₄)) (wr_queued h₄)

theorem execDispTempStale_queued {t : Nat} (h : Queued q s) : OutQueued q (execDispTempStale t s) :=
  queued_next (onEvent_queued h (fun h₁ => queued_ite (bandShow_queued (wr_queued h₁)) h₁))

theorem execDispFrameStart_queued {t : Nat} (h : Queued q s) : OutQueued q (execDispFrameStart t s) :=
  queued_next (onEvent_queued h (fun h₁ => queued_ite h₁ (imbalance_queued (vintageFrame_queued (queued_forEach (fun
    h₂ => queued_ite (startRegion_queued h₂) h₂) (queued_forEach (fun h₂ => wr_queued (latchRegion_queued h₂))
    (queued_forEach setRegion_queued (queued_upd h₁))))))))

theorem execDispRegionDone_queued {t r : Nat} (h : Queued q s) : OutQueued q (execDispRegionDone t r s) :=
  queued_next (onEvent_queued h (fun h₁ => queued_ite h₁ (dispIdle_queued (finaliseOpt_queued (queued_ite
    (raise_queued (setRegion_queued (queued_upd h₁))) (raise_queued (setRegion_queued (queued_upd h₁))))))))

theorem execEpdPwrGoodRise_queued {t : Nat} (h : Queued q s) : OutQueued q (execEpdPwrGoodRise t s) :=
  queued_next (onEvent_queued h (fun h₁ => dispWake_queued (wr_queued h₁)))

theorem execDispPwrTimeout_queued {t : Nat} (h : Queued q s) : OutQueued q (execDispPwrTimeout t s) :=
  queued_next (onEvent_queued h (fun h₁ => queued_ite h₁ (dispIdle_queued (raise_queued (queued_upd (queued_forEach
    dropRegion_queued h₁))))))

theorem execEpdPwrGoodLoss_queued {t : Nat} (h : Queued q s) : OutQueued q (execEpdPwrGoodLoss t s) :=
  queued_next (onEvent_queued h (fun h₁ => queued_ite (dispWake_queued (dispCut_queued (raise_queued (wr_queued h₁))))
    (wr_queued h₁)))

theorem execDispPwrOff_queued {t : Nat} (h : Queued q s) : OutQueued q (execDispPwrOff t s) :=
  queued_next (onEvent_queued h (fun h₁ => queued_ite h₁ (wr_queued (wr_queued (queued_upd h₁)))))

theorem execVintageSave_queued {t : Nat} (h : Queued q s) : OutQueued q (execVintageSave t s) :=
  queued_next (onEvent_queued h (fun h₁ => queued_ite h₁ (queued_upd h₁)))

theorem execDispQuery_queued {x : Ctx} (h : Queued q s) : OutQueued q (execDispQuery x s) :=
  queued_next (command_queued h complete_queued)

theorem execDispImageLoad_queued {x : Ctx} {px py w h' : Nat} {pixels : List Byte} (h : Queued q s) :
    OutQueued q (execDispImageLoad x px py w h' pixels s) :=
  queued_next (command_queued h (fun h₁ => queued_ite (complete_queued h₁) (queued_ite (complete_queued h₁)
    (complete_queued (queued_upd h₁)))))

theorem execDispUpdate_queued {x : Ctx} {px py w h' mode : Nat} (h : Queued q s) :
    OutQueued q (execDispUpdate x px py w h' mode s) := by
  unfold execDispUpdate
  refine queued_next (command_queued h (fun h₁ => queued_ite (complete_queued h₁) ?_))
  split
  · exact complete_queued h₁
  · exact dispStart_queued (complete_queued h₁)

theorem execDispTempSet_queued {x : Ctx} {v : Int} (h : Queued q s) : OutQueued q (execDispTempSet x v s) :=
  queued_next (command_queued h (fun h₁ => queued_ite (complete_queued h₁) (complete_queued (dispTemp_queued h₁))))

theorem execDispVintageRead_queued {x : Ctx} (h : Queued q s) : OutQueued q (execDispVintageRead x s) :=
  queued_next (command_queued h (fun h₁ => complete_queued (giveBuffer_queued h₁)))

theorem execDispVintageReset_queued {x : Ctx} {sig : OwnerSig} (h : Queued q s) :
    OutQueued q (execDispVintageReset x sig s) :=
  queued_next (command_queued h (fun h₁ => owned_queued h₁ (fun h₂ => complete_queued (queued_upd h₂))))

/-! ### Filt (Sys2Proof/Machine/Filt.lean) -/

theorem execTrkPeriod_queued {t m cross amp : Nat} (h : Queued q s) : OutQueued q (execTrkPeriod t m cross amp s) :=
  queued_next (onCore_queued h (fun h₁ => queued_ite (period_queued h₁) h₁))

theorem execTrkCrossingTimeout_queued {t m : Nat} (h : Queued q s) : OutQueued q (execTrkCrossingTimeout t m s) :=
  queued_next (onCore_queued h (fun h₁ => queued_ite (holdTrk_queued h₁) h₁))

theorem execTrkHoldExpiry_queued {t m : Nat} (h : Queued q s) : OutQueued q (execTrkHoldExpiry t m s) :=
  queued_next (onCore_queued h (fun h₁ => queued_ite (setTrk_queued h₁) h₁))

theorem execTrkSourceAbsent_queued {t m : Nat} (h : Queued q s) : OutQueued q (execTrkSourceAbsent t m s) :=
  queued_next (onCore_queued h (fun h₁ => queued_ite (trkRefresh_queued h₁) h₁))

theorem execGridCycleStart_queued {t m : Nat} (h : Queued q s) : OutQueued q (execGridCycleStart t m s) := by
  unfold execGridCycleStart
  refine queued_next (onCore_queued h (fun h₁ => queued_ite h₁ ?_))
  split
  · exact h₁
  · exact meterTrk_queued (queued_ite (respace_queued (beginCycle_queued h₁)) (beginCycle_queued h₁))

theorem execSettlingEnd_queued {t c : Nat} (h : Queued q s) : OutQueued q (execSettlingEnd t c s) :=
  queued_next (onCore_queued h (fun h₁ => queued_ite h₁ (queued_forEach mpEval_queued (setFlag_queued (setFlag_queued
    (wr_queued (wr_queued h₁)))))))

theorem execBlendStart_queued {t c : Nat} (h : Queued q s) : OutQueued q (execBlendStart t c s) := by
  unfold execBlendStart
  refine queued_next (onCore_queued h (fun h₁ => ?_))
  split
  · exact h₁
  · exact queued_ite h₁ (queued_forEach wr_queued (queued_upd h₁))

theorem execBlendDone_queued {t c : Nat} (h : Queued q s) : OutQueued q (execBlendDone t c s) := by
  unfold execBlendDone
  refine queued_next (onCore_queued h (fun h₁ => ?_))
  split
  · exact h₁
  · split
    · exact h₁
    · exact queued_ite h₁ (finishBlend_queued h₁)

theorem execFiltQuery_queued {x : Ctx} {c : Nat} (h : Queued q s) : OutQueued q (execFiltQuery x c s) :=
  queued_next (command_queued h (fun h₁ => queued_ite (complete_queued h₁) (complete_queued h₁)))

theorem execFiltBlend_queued {x : Ctx} {mask : Nat} (h : Queued q s) : OutQueued q (execFiltBlend x mask s) :=
  queued_next (command_queued h (fun h₁ => queued_ite (complete_queued (partitionDenied_queued h₁)) (queued_ite
    (complete_queued h₁) (queued_ite (complete_queued h₁) (queued_ite (complete_queued h₁) (complete_queued
    (startBlend_queued (queued_forEach setCal_queued h₁))))))))

theorem execTrkQuery_queued {x : Ctx} {m : Nat} (h : Queued q s) : OutQueued q (execTrkQuery x m s) :=
  queued_next (command_queued h (fun h₁ => queued_ite (complete_queued h₁) (complete_queued h₁)))

theorem execFiltRestart_queued {x : Ctx} {mask : Nat} (h : Queued q s) : OutQueued q (execFiltRestart x mask s) :=
  queued_next (command_queued h (fun h₁ => queued_ite (complete_queued (partitionDenied_queued h₁)) (queued_ite
    (complete_queued h₁) (queued_ite (complete_queued h₁) (complete_queued (queued_forEach restartChain_queued
    h₁))))))

/-! ### Lsw (Sys2Proof/Machine/Lsw.lean) -/

theorem execLswTrip_queued {t n ma tj : Nat} {lowOut : Bool} (h : Queued q s) :
    OutQueued q (execLswTrip t n ma tj lowOut s) := by
  unfold execLswTrip
  refine queued_next (onEvent_queued h (fun h₁ => queued_ite h₁ ?_))
  extract_lets _ _ _ s₂
  have h₂ : Queued q s₂ := queued_ite (wr_queued h₁) (wr_queued (wr_queued (wr_queued h₁)))
  exact queued_ite h₁ (queued_ite (lswTrip_queued h₂) (queued_ite h₂ (queued_ite (lswTrip_queued h₂) (queued_ite
    (lswTrip_queued h₂) h₂))))

theorem execInrushEnd_queued {t n ma tj : Nat} {calm : Bool} (h : Queued q s) :
    OutQueued q (execInrushEnd t n ma tj calm s) :=
  queued_next (onEvent_queued h (fun h₁ => queued_ite h₁ (queued_ite (lswGo_queued h₁) (queued_ite (lswTrip_queued h₁)
    h₁))))

theorem execLswRetry_queued {t n : Nat} (h : Queued q s) : OutQueued q (execLswRetry t n s) :=
  queued_next (onEvent_queued h (fun h₁ => queued_ite (turnOn_queued h₁) h₁))

theorem execLswCoolRestart_queued {t n tj : Nat} (h : Queued q s) : OutQueued q (execLswCoolRestart t n tj s) :=
  queued_next (onEvent_queued h (fun h₁ => queued_ite (queued_ite (wr_queued h₁) (turnOn_queued (wr_queued h₁))) h₁))

theorem execRetriesReload_queued {t n : Nat} (h : Queued q s) : OutQueued q (execRetriesReload t n s) :=
  queued_next (onEvent_queued h (fun h₁ => queued_ite (wr_queued h₁) h₁))

theorem execQuadHot_queued {t q' temp : Nat} (h : Queued q s) : OutQueued q (execQuadHot t q' temp s) :=
  queued_next (onEvent_queued h (fun h₁ => queued_ite h₁ (queued_ite (wr_queued h₁) (raise_queued (queued_forEach
    turnOn_queued (incSat_queued (wr_queued (wr_queued h₁))))))))

theorem execQuadCool_queued {t q' temp : Nat} (h : Queued q s) : OutQueued q (execQuadCool t q' temp s) :=
  queued_next (onEvent_queued h (fun h₁ => queued_ite h₁ (raise_queued (queued_upd (wr_queued (wr_queued h₁))))))

theorem execQuadRestartStep_queued {t q' : Nat} (h : Queued q s) : OutQueued q (execQuadRestartStep t q' s) := by
  unfold execQuadRestartStep
  refine queued_next (onEvent_queued h (fun h₁ => queued_ite h₁ ?_))
  split
  · exact h₁
  · exact queued_upd (turnOn_queued h₁)

theorem execLswPwmPeriod_queued {t b : Nat} (h : Queued q s) : OutQueued q (execLswPwmPeriod t b s) :=
  queued_next (onEvent_queued h (fun h₁ => queued_ite h₁ (queued_forEach pwmPeriod_queued (queued_upd h₁))))

theorem execLswOpenOn_queued {t n lo hi : Nat} (h : Queued q s) : OutQueued q (execLswOpenOn t n lo hi s) :=
  queued_next (onEvent_queued h (fun h₁ => queued_ite h₁ (queued_ite (raise_queued (wr_queued (modLsw_queued h₁)))
    (queued_ite (raise_queued (wr_queued (modLsw_queued h₁))) (modLsw_queued h₁)))))

theorem execLswOpenOff_queued {t n : Nat} (h : Queued q s) : OutQueued q (execLswOpenOff t n s) :=
  queued_next (onEvent_queued h (fun h₁ => queued_ite (raise_queued (wr_queued h₁)) h₁))

theorem execLswBudgetWindow_queued {t : Nat} {mas mws : List Nat} (h : Queued q s) :
    OutQueued q (execLswBudgetWindow t mas mws s) := by
  unfold execLswBudgetWindow
  refine queued_next (onEvent_queued h (fun h₁ => queued_ite h₁ ?_))
  extract_lets _ _ _ _ _ _ _ _ _ s₂ s₃
  have h₂ : Queued q s₂ := queued_forEach (fun h₂ => queued_ite (budgetOff_queued h₂) h₂) (wr_queued (wr_queued
    (queued_forEach wr_queued (queued_upd h₁))))
  have h₃ : Queued q s₃ := queued_ite (budgetOff_queued h₂) h₂
  exact queued_ite (budgetOff_queued h₃) h₃

theorem execVlsUndervoltage_queued {t b mv : Nat} (h : Queued q s) : OutQueued q (execVlsUndervoltage t b mv s) :=
  queued_next (onEvent_queued h vlsLow_queued)

theorem execVlsRestored_queued {t b mv : Nat} (h : Queued q s) : OutQueued q (execVlsRestored t b mv s) :=
  queued_next (onEvent_queued h vlsBack_queued)

theorem execLswSet_queued {x : Ctx} {mask on duty phase : Nat} (h : Queued q s) :
    OutQueued q (execLswSet x mask on duty phase s) := by
  unfold execLswSet
  refine queued_next (command_queued h (fun h₁ => ?_))
  extract_lets _ _ _ x₁ s₂
  clear_value x₁
  have h₂ : Queued q s₂ := by
    unfold s₂
    refine queued_forEach (fun h₂ => ?_) h₁
    extract_lets s₃ s₄ s₅
    have h₃ : Queued q s₃ := queued_ite h₂ (wr_queued h₂)
    have h₄ : Queued q s₄ := queued_ite h₃ (wr_queued h₃)
    have h₅ : Queued q s₅ := wr_queued (wr_queued (wr_queued h₄))
    exact queued_ite (queued_ite h₅ (turnOn_queued h₅)) (queued_ite h₄ (turnOff_queued h₄))
  refine queued_ite (complete_queued h₁) ?_
  split
  · exact complete_queued h₁
  · exact complete_queued h₁
  · exact complete_queued h₂

theorem execLswClear_queued {x : Ctx} {mask : Nat} (h : Queued q s) : OutQueued q (execLswClear x mask s) :=
  queued_next (command_queued h (fun h₁ => queued_ite (complete_queued h₁) (complete_queued (queued_forEach (fun h₂ =>
    wr_queued (wr_queued (wr_queued (turnOff_queued h₂)))) h₁))))

theorem execLswQuery_queued {x : Ctx} {n : Nat} (h : Queued q s) : OutQueued q (execLswQuery x n s) :=
  queued_next (command_queued h (fun h₁ => queued_ite (complete_queued h₁) (complete_queued h₁)))

theorem execLswConfig_queued {x : Ctx} {n cfg pwm : Nat} (h : Queued q s) :
    OutQueued q (execLswConfig x n cfg pwm s) :=
  queued_next (command_queued h (fun h₁ => queued_ite (complete_queued h₁) (queued_ite (complete_queued h₁)
    (complete_queued (queued_forEach wrSave_queued (queued_forEach wrSave_queued h₁))))))

theorem execLswBankPwm_queued {x : Ctx} {b hz : Nat} (h : Queued q s) : OutQueued q (execLswBankPwm x b hz s) :=
  queued_next (command_queued h (fun h₁ => queued_ite (complete_queued h₁) (complete_queued (wrSave_queued h₁))))

/-! ### Met (Sys2Proof/Machine/Met.lean) -/

theorem execMetWindowEnd_queued {t m : Nat} (h : Queued q s) : OutQueued q (execMetWindowEnd t m s) := by
  unfold execMetWindowEnd
  refine queued_next (onCore_queued h (fun h₁ => ?_))
  split
  · exact queued_ite (windowEnd_queued h₁) h₁
  · exact h₁

theorem execDemandSecondRecord_queued {t m : Nat} (h : Queued q s) : OutQueued q (execDemandSecondRecord t m s) :=
  queued_next (onCore_queued h (fun h₁ => queued_ite (secondRecord_queued h₁) h₁))

theorem execPqHalfCycle_queued {t m : Nat} (h : Queued q s) : OutQueued q (execPqHalfCycle t m s) := by
  unfold execPqHalfCycle
  refine queued_next (onCore_queued h (fun h₁ => queued_ite h₁ ?_))
  extract_lets _ _ s₂
  have h₂ : Queued q s₂ := modMp_queued h₁
  split
  · exact queued_ite h₂ (pqHalf_queued h₂)
  · exact h₁

theorem execPulseStart_queued {t k : Nat} (h : Queued q s) : OutQueued q (execPulseStart t k s) := by
  unfold execPulseStart
  refine queued_next (onCore_queued h (fun h₁ => ?_))
  extract_lets
  split
  · exact queued_ite (backlog_queued (queued_upd h₁)) h₁
  · exact h₁

theorem execPulseEnd_queued {t k : Nat} (h : Queued q s) : OutQueued q (execPulseEnd t k s) :=
  queued_next (onCore_queued h (fun h₁ => queued_ite (backlog_queued (queued_upd h₁)) h₁))

theorem execTcRead_queued {t : Nat} {temp : Int} (h : Queued q s) : OutQueued q (execTcRead t temp s) :=
  queued_next (onCore_queued h (fun h₁ => queued_ite h₁ (queued_ite (queued_upd h₁) (queued_ite (queued_upd h₁)
    (queued_ite (compensateGroups_queued (queued_upd h₁)) (raise_queued (wrInt_queued (compensateGroups_queued
    (queued_upd h₁)))))))))

theorem execMetSessionCloseFinal_queued {t m : Nat} (h : Queued q s) : OutQueued q (execMetSessionCloseFinal t m s) :=
  queued_next (onCore_queued h (fun h₁ => queued_ite (closeFinal_queued h₁) h₁))

theorem execMetCalMeasureDone_queued {t m : Nat} (h : Queued q s) : OutQueued q (execMetCalMeasureDone t m s) := by
  unfold execMetCalMeasureDone
  refine queued_next (onCore_queued h (fun h₁ => ?_))
  split
  · exact h₁
  · exact queued_ite h₁ (queued_ite (finalise_queued (queued_upd h₁)) (finalise_queued (queued_forEach (fun h₂ =>
      raise_queued (queued_upd h₂)) (queued_upd h₁))))

theorem execMetQuery_queued {x : Ctx} {m : Nat} (h : Queued q s) : OutQueued q (execMetQuery x m s) :=
  queued_next (command_queued h (fun h₁ => queued_ite (complete_queued h₁) (complete_queued h₁)))

theorem execMetSessionOpen_queued {x : Ctx} {m sess : Nat} (h : Queued q s) :
    OutQueued q (execMetSessionOpen x m sess s) := by
  unfold execMetSessionOpen
  refine queued_next (command_queued h (fun h₁ => ?_))
  split
  · exact complete_queued h₁
  · exact complete_queued (metOpen_queued h₁)

theorem execMetSessionClose_queued {x : Ctx} {m : Nat} (h : Queued q s) :
    OutQueued q (execMetSessionClose x m s) := by
  unfold execMetSessionClose
  refine queued_next (command_queued h (fun h₁ => ?_))
  split
  · exact complete_queued h₁
  · exact complete_queued (metClose_queued h₁)

theorem execMetCalMeasure_queued {x : Ctx} {m phases secs : Nat} (h : Queued q s) :
    OutQueued q (execMetCalMeasure x m phases secs s) :=
  queued_next (command_queued h (fun h₁ => queued_ite (complete_queued h₁) (queued_ite (complete_queued h₁)
    (queued_ite (complete_queued h₁) (complete_queued (queued_upd h₁))))))

theorem execMetCalApply_queued {x : Ctx} {m ph uRef iRef : Nat} {angleRef : Int} {mask : Nat} (h : Queued q s) :
    OutQueued q (execMetCalApply x m ph uRef iRef angleRef mask s) := by
  unfold execMetCalApply
  refine queued_next ?_
  refine command_queued h (fun h₁ => queued_ite (complete_queued h₁) (queued_ite (complete_queued h₁) ?_))
  split
  · exact complete_queued h₁
  · extract_lets
    refine queued_ite (complete_queued h₁) (queued_ite (complete_queued h₁) (queued_ite (complete_queued h₁) ?_))
    split
    · exact complete_queued h₁
    · exact applyCal_queued h₁

theorem execMetPulseCfg_queued {x : Ctx} {k image : Nat} (h : Queued q s) :
    OutQueued q (execMetPulseCfg x k image s) :=
  queued_next (command_queued h (fun h₁ => queued_ite (complete_queued h₁) (queued_ite (complete_queued h₁)
    (queued_ite (complete_queued h₁) (complete_queued (calNote_queued (pulseReset_queued (writeFields_queued
    h₁))))))))

theorem execMetHarmRead_queued {x : Ctx} {m ph groups : Nat} (h : Queued q s) :
    OutQueued q (execMetHarmRead x m ph groups s) :=
  queued_next (command_queued h (fun h₁ => queued_ite (complete_queued h₁) (complete_queued (giveBuffer_queued h₁))))

theorem execMetWaveCapture_queued {x : Ctx} {mask samples : Nat} (h : Queued q s) :
    OutQueued q (execMetWaveCapture x mask samples s) :=
  queued_next (command_queued h (fun h₁ => queued_ite (complete_queued h₁) (complete_queued (queued_forEach (fun h₂ =>
    setWave_queued (setWaveRecs_queued h₂)) h₁))))

theorem execMetWaveStop_queued {x : Ctx} {mask : Nat} (h : Queued q s) : OutQueued q (execMetWaveStop x mask s) :=
  queued_next (command_queued h (fun h₁ => queued_ite (complete_queued h₁) (complete_queued (queued_forEach (fun h₂ =>
    setWaveRecs_queued (setWave_queued (waveBlock_queued h₂))) h₁))))

/-! ### Outlet (Sys2Proof/Machine/Outlet.lean) -/

theorem execPilotStateAccept_queued {t n : Nat} (h : Queued q s) : OutQueued q (execPilotStateAccept t n s) := by
  unfold execPilotStateAccept
  refine queued_next (onEvent_queued h (fun h₁ => ?_))
  extract_lets
  split
  · exact queued_ite (acceptPilot_queued h₁) h₁
  · exact h₁

theorem execPilotDiodeFault_queued {t n : Nat} (h : Queued q s) : OutQueued q (execPilotDiodeFault t n s) :=
  queued_next (onEvent_queued h (fun h₁ => queued_ite (queued_ite (faultSession_queued (modOutlet_queued (wr_queued
    h₁))) (modOutlet_queued (wr_queued h₁))) h₁))

theorem execPilotPwmPeriod_queued {t n : Nat} {high low : Int} (h : Queued q s) :
    OutQueued q (execPilotPwmPeriod t n high low s) := by
  unfold execPilotPwmPeriod
  refine queued_next (onEvent_queued h (fun h₁ => queued_ite h₁ ?_))
  extract_lets s₂ _ s₃
  have h₂ : Queued q s₂ := modOutlet_queued (judgePeriod_queued h₁)
  have h₃ : Queued q s₃ := queued_ite h₂ (queued_upd h₂)
  split
  · exact queued_ite (modOutlet_queued h₃) (setOut_queued h₃)
  · exact h₃

theorem execProximityRead_queued {t n ohms : Nat} (h : Queued q s) : OutQueued q (execProximityRead t n ohms s) := by
  unfold execProximityRead
  refine queued_next (onEvent_queued h (fun h₁ => queued_ite h₁ ?_))
  extract_lets
  split
  extract_lets s₂ _ s₃ s₄
  have h₂ : Queued q s₂ := modOutlet_queued h₁
  have h₃ : Queued q s₃ := queued_ite (raise_queued (wr_queued h₂)) (wr_queued h₂)
  have h₄ : Queued q s₄ := queued_ite (offerW_queued h₃) h₃
  exact queued_ite (stopSession_queued h₄) (queued_ite (applyAlloc_queued h₄) h₄)

theorem execAuthTimeout_queued {t n : Nat} (h : Queued q s) : OutQueued q (execAuthTimeout t n s) := by
  unfold execAuthTimeout
  refine queued_next (onEvent_queued h (fun h₁ => ?_))
  extract_lets
  split
  · exact queued_ite (endSession_queued h₁) h₁
  · exact h₁

theorem execHlcMessage_queued {t n : Nat} {msg : HlcMsg} (h : Queued q s) : OutQueued q (execHlcMessage t n msg s) :=
  queued_next (onEvent_queued h (fun h₁ => queued_ite (hlcMessage_queued h₁) h₁))

theorem execHlcTimeout_queued {t n : Nat} (h : Queued q s) : OutQueued q (execHlcTimeout t n s) :=
  queued_next (onEvent_queued h (fun h₁ => queued_ite (hlcFailed_queued h₁) h₁))

theorem execPreauthTimeout_queued {t : Nat} (h : Queued q s) : OutQueued q (execPreauthTimeout t s) := by
  unfold execPreauthTimeout
  refine queued_next (onEvent_queued h (fun h₁ => ?_))
  split
  · exact queued_ite (queued_upd h₁) h₁
  · exact h₁

theorem execOutConfig_queued {x : Ctx} {n cfg dc : Nat} (h : Queued q s) : OutQueued q (execOutConfig x n cfg dc s) :=
  queued_next (command_queued h (fun h₁ => queued_ite (complete_queued h₁) (queued_ite (complete_queued h₁)
    (queued_ite (complete_queued h₁) (complete_queued (cfgApplied_queued (queued_forEach wrSave_queued (queued_forEach
    wrSave_queued h₁))))))))

theorem execOutAvailability_queued {x : Ctx} {n mode : Nat} (h : Queued q s) :
    OutQueued q (execOutAvailability x n mode s) :=
  queued_next (command_queued h (fun h₁ => queued_ite (complete_queued h₁) (queued_ite (queued_ite (complete_queued
    h₁) (queued_ite (complete_queued (cableRebind_queued h₁)) (complete_queued (queued_ite (setSess_queued
    (offer_queued (cableRebind_queued (modOutlet_queued h₁)))) (modOutlet_queued h₁))))) (complete_queued (queued_ite
    (queued_ite (stopSession_queued (modOutlet_queued h₁)) (queued_ite (endOrWait_queued (caskSafety_queued
    (modOutlet_queued h₁))) (modOutlet_queued h₁))) (queued_ite (queued_ite (stopHosted_queued (caskSafety_queued
    (modOutlet_queued h₁))) (modOutlet_queued h₁)) (queued_ite (setSess_queued (offer_queued (modOutlet_queued h₁)))
    (modOutlet_queued h₁))))))))

theorem execSessionAuthorise_queued {x : Ctx} {n kind : Nat} {ident : List Byte} (h : Queued q s) :
    OutQueued q (execSessionAuthorise x n kind ident s) :=
  queued_next (command_queued h (fun h₁ => queued_ite (complete_queued h₁) (queued_ite (queued_ite (complete_queued
    h₁) (complete_queued (queued_upd h₁))) (queued_ite (complete_queued h₁) (queued_ite (complete_queued h₁)
    (queued_ite (complete_queued h₁) (complete_queued (authorise_queued h₁))))))))

theorem execSessionStop_queued {x : Ctx} {mask peer : Nat} (h : Queued q s) :
    OutQueued q (execSessionStop x mask peer s) :=
  queued_next (command_queued h (fun h₁ => queued_ite (forwardStop_queued h₁) (complete_queued (sessionStop_queued
    h₁))))

theorem execOutErem_queued {x : Ctx} {mask peer : Nat} (h : Queued q s) : OutQueued q (execOutErem x mask peer s) :=
  queued_next (command_queued h (fun h₁ => queued_ite (forwardStop_queued h₁) (complete_queued (outErem_queued h₁))))

theorem execOutSiteLimit_queued {x : Ctx} {watts : Nat} (h : Queued q s) : OutQueued q (execOutSiteLimit x watts s) :=
  queued_next (command_queued h (fun h₁ => queued_ite (complete_queued h₁) (complete_queued (wrSave_queued h₁))))

theorem execSessionSetClass_queued {x : Ctx} {n cls : Nat} (h : Queued q s) :
    OutQueued q (execSessionSetClass x n cls s) :=
  queued_next (command_queued h (fun h₁ => queued_ite (complete_queued h₁) (queued_ite (complete_queued h₁)
    (complete_queued (modOutlet_queued h₁)))))

theorem execSessionQuery_queued {x : Ctx} {n : Nat} (h : Queued q s) : OutQueued q (execSessionQuery x n s) :=
  queued_next (command_queued h (fun h₁ => queued_ite (complete_queued h₁) (complete_queued h₁)))

theorem execOutSelect_queued {x : Ctx} {n : Nat} (h : Queued q s) : OutQueued q (execOutSelect x n s) := by
  unfold execOutSelect
  refine queued_next (command_queued h (fun h₁ => ?_))
  split
  · exact complete_queued h₁
  · exact queued_ite (complete_queued h₁) (queued_ite (complete_queued h₁) (queued_ite (complete_queued
      (authoriseCard_queued (queued_upd h₁))) (complete_queued (queued_upd h₁))))

theorem execOutContactor_queued {x : Ctx} {n : Nat} {close : Bool} (h : Queued q s) :
    OutQueued q (execOutContactor x n close s) :=
  queued_next (command_queued h (fun h₁ => queued_ite (complete_queued h₁) (queued_ite (complete_queued h₁)
    (queued_ite (complete_queued (openOutlet_queued (dropClose_queued h₁))) (queued_ite (complete_queued h₁)
    (modOutlet_queued (testSensor_queued h₁)))))))

theorem execOutPilotDuty_queued {x : Ctx} {n duty : Nat} (h : Queued q s) :
    OutQueued q (execOutPilotDuty x n duty s) := by
  unfold execOutPilotDuty
  refine queued_next ?_
  refine command_queued h (fun h₁ => queued_ite (complete_queued h₁) (queued_ite (complete_queued h₁) ?_))
  split
  · exact complete_queued (raise_queued h₁)
  · exact complete_queued (offer_queued h₁)

theorem execOutPmSetpoint_queued {x : Ctx} {n mode volts amps watts : Nat} (h : Queued q s) :
    OutQueued q (execOutPmSetpoint x n mode volts amps watts s) := by
  unfold execOutPmSetpoint
  refine queued_next ?_
  refine command_queued h (fun h₁ => queued_ite (complete_queued h₁) (queued_ite (complete_queued h₁) ?_))
  split
  · exact complete_queued (raise_queued h₁)
  · exact complete_queued (stageSet_queued h₁)

theorem execOutCertResponse_queued {x : Ctx} {n : Nat} {valid : Bool} {data : List Byte} (h : Queued q s) :
    OutQueued q (execOutCertResponse x n valid data s) :=
  queued_next (command_queued h (fun h₁ => queued_ite (complete_queued h₁) (queued_ite (complete_queued (raise_queued
    h₁)) (queued_ite (complete_queued h₁) (complete_queued (modOutlet_queued h₁))))))

/-! ### Safe (Sys2Proof/Machine/Safe.lean) -/

theorem execHslCycle_queued {t : Nat} {levels : List Int} {mirrors : Nat} (h : Queued q s) :
    OutQueued q (execHslCycle t levels mirrors s) :=
  queued_next (onCore_queued h (fun h₁ => queued_ite h₁ (formBeat_queued (queued_forEach followHigh_queued
    (queued_forEach pilotB_queued (queued_forEach (fun h₂ => queued_ite h₂ (rcmUpdate_queued h₂))
    (sampleMirrors_queued (queued_upd h₁))))))))

theorem execHslTableCheck_queued {t : Nat} {crcOk : Bool} (h : Queued q s) :
    OutQueued q (execHslTableCheck t crcOk s) :=
  queued_next (onCore_queued h (fun h₁ => queued_ite h₁ (queued_ite (refreshSafeOk_queued (setFlag_queued (queued_upd
    h₁))) (moduleTrip_queued (setFlag_queued (queued_upd h₁))))))

theorem execHslWatchdogExpiry_queued {t : Nat} (h : Queued q s) : OutQueued q (execHslWatchdogExpiry t s) :=
  queued_next (onCore_queued h (fun h₁ => queued_ite (moduleTrip_queued (setFlag_queued h₁)) h₁))

theorem execBHeartbeat_queued {t : Nat} {b : Beat} (h : Queued q s) : OutQueued q (execBHeartbeat t b s) :=
  queued_next (onCore_queued h (fun h₁ => queued_ite (refreshSafeOk_queued (setFlag_queued (queued_upd h₁))) h₁))

theorem execBHeartbeatLoss_queued {t : Nat} (h : Queued q s) : OutQueued q (execBHeartbeatLoss t s) :=
  queued_next (onCore_queued h (fun h₁ => queued_ite (moduleTrip_queued (setFlag_queued h₁)) h₁))

theorem execChannelDiscrepancy_queued {t code n chan : Nat} {reading : Int} {since : Nat} (h : Queued q s) :
    OutQueued q (execChannelDiscrepancy t code n chan reading since s) := by
  unfold execChannelDiscrepancy
  refine queued_next (onCore_queued h (fun h₁ => ?_))
  split
  · exact h₁
  · exact queued_ite (moduleTrip_queued (queued_upd h₁)) h₁

theorem execSafetySelftestDone_queued {t : Nat} (h : Queued q s) : OutQueued q (execSafetySelftestDone t s) :=
  queued_next (onEvent_queued h (fun h₁ => queued_ite (refreshSafeOk_queued (setFlag_queued h₁)) h₁))

theorem execEstopSourcePulse_queued {t : Nat} {srcB ownFollows otherFollows : Bool} (h : Queued q s) :
    OutQueued q (execEstopSourcePulse t srcB ownFollows otherFollows s) :=
  queued_next (onCore_queued h (fun h₁ => queued_ite h₁ (queued_ite (queued_upd h₁) (moduleTrip_queued (queued_upd
    h₁)))))

theorem execEstopOpen_queued {t : Nat} {inputB : Bool} {us : Nat} (h : Queued q s) :
    OutQueued q (execEstopOpen t inputB us s) :=
  queued_next (onCore_queued h (fun h₁ => queued_ite h₁ (moduleTrip_queued (queued_upd h₁))))

theorem execEstopDisc_queued {t : Nat} (h : Queued q s) : OutQueued q (execEstopDisc t s) :=
  queued_next (onCore_queued h (fun h₁ => queued_ite (moduleTrip_queued h₁) h₁))

theorem execSafeInChange_queued {t m : Nat} {closed : Bool} {ms : Nat} (h : Queued q s) :
    OutQueued q (execSafeInChange t m closed ms s) :=
  queued_next (onCore_queued h (fun h₁ => queued_ite h₁ (safeInLevel_queued h₁)))

theorem execImdResult_queued {t kohm : Nat} (h : Queued q s) : OutQueued q (execImdResult t kohm s) :=
  queued_next (onCore_queued h (fun h₁ => queued_ite (imdResult_queued h₁) h₁))

theorem execCableCheckTimeout_queued {t n : Nat} (h : Queued q s) : OutQueued q (execCableCheckTimeout t n s) := by
  unfold execCableCheckTimeout
  refine queued_next (onEvent_queued h (fun h₁ => ?_))
  split
  · exact queued_ite (cableFailed_queued h₁) h₁
  · exact h₁

theorem execSafeStatePilotEnd_queued {t n : Nat} (h : Queued q s) : OutQueued q (execSafeStatePilotEnd t n s) := by
  unfold execSafeStatePilotEnd
  refine queued_next (onEvent_queued h (fun h₁ => ?_))
  split
  · exact queued_ite (queued_ite (modOs_queued h₁) (offer_queued (modOs_queued h₁))) h₁
  · exact h₁

theorem execResetSafeEdge_queued {t lowUs : Nat} {aOpen bOpen : Bool} (h : Queued q s) :
    OutQueued q (execResetSafeEdge t lowUs aOpen bOpen s) :=
  queued_next (onCore_queued h (fun h₁ => queued_ite h₁ (resetSafe_queued (queued_upd h₁))))

theorem execSafeQuery_queued {x : Ctx} (h : Queued q s) : OutQueued q (execSafeQuery x s) :=
  queued_next (command_queued h complete_queued)

theorem execSafeTestNow_queued {x : Ctx} {mask : Nat} (h : Queued q s) : OutQueued q (execSafeTestNow x mask s) :=
  queued_next (command_queued h (fun h₁ => complete_queued (queued_forEach modCoil_queued h₁)))

theorem execImdMeasure_queued {x : Ctx} {n kohm : Nat} (h : Queued q s) : OutQueued q (execImdMeasure x n kohm s) :=
  queued_next (command_queued h (fun h₁ => queued_ite (complete_queued h₁) (complete_queued (imdResult_queued h₁))))

/-! ### Power (Sys2Proof/Machine/Power.lean) -/

theorem execVfail_queued {t mv : Nat} {feed : List Feed} (h : Queued q s) : OutQueued q (execVfail t mv feed s) :=
  queued_next (onEvent_queued h (fun h₁ => queued_ite h₁ (lastPour_queued h₁)))

theorem execVinReturn_queued {t mv : Nat} (h : Queued q s) : OutQueued q (execVinReturn t mv s) :=
  queued_next (queued_ite (segRecover_queued (pourReturn_queued (advance_queued h))) h)

theorem execConverterRailFall_queued {t : Nat} (h : Queued q s) : OutQueued q (execConverterRailFall t s) :=
  queued_next (queued_ite (railFall_queued (advance_queued h)) h)

theorem execVinValid_queued {t mv ms : Nat} (h : Queued q s) : OutQueued q (execVinValid t mv ms s) := by
  unfold execVinValid
  refine queued_next (queued_ite h ?_)
  split
  · exact queued_upd h
  · exact queued_upd h
  · exact h

theorem execEarlyVinLoss_queued {t : Nat} (h : Queued q s) : OutQueued q (execEarlyVinLoss t s) :=
  queued_next (queued_ite (queued_upd h) h)

theorem execRailOutOfLimits_queued {t r : Nat} {ov : Bool} {mv : Int} {us : Nat} {feed : List Feed} {whole : Bool} (h
    : Queued q s) :
    OutQueued q (execRailOutOfLimits t r ov mv us feed whole s) :=
  queued_next (queued_ite h (queued_ite (queued_ite (queued_upd (loseClock_queued h)) h) (onCore_queued h
    railFails_queued)))

theorem execRailRestored_queued {t r : Nat} {mv : Int} {us : Nat} (h : Queued q s) :
    OutQueued q (execRailRestored t r mv us s) :=
  queued_next (queued_ite h (onCore_queued h railBack_queued))

theorem execTempLevelChange_queued {t k : Nat} {celsius : Int} (h : Queued q s) :
    OutQueued q (execTempLevelChange t k celsius s) :=
  queued_next (onEvent_queued h (fun h₁ => queued_ite (serveNext_queued (tempTaken_queued h₁)) (tempTaken_queued h₁)))

theorem execProcMonSample_queued {t : Nat} {codes : List Nat} (h : Queued q s) :
    OutQueued q (execProcMonSample t codes s) :=
  queued_next (onEvent_queued h (fun h₁ => queued_ite h₁ (queued_forEach (fun h₂ => queued_ite (raise_queued
    (queued_upd (wr_queued h₂))) (wr_queued h₂)) (queued_upd h₁))))

theorem execTamperInput_queued {t k : Nat} {closed : Bool} {samples : Nat} (h : Queued q s) :
    OutQueued q (execTamperInput t k closed samples s) := by
  unfold execTamperInput
  refine queued_next ?_
  extract_lets _ s₁ s₂
  have h₁ : Queued q s₁ := raise_queued (setFlag_queued (advance_queued h))
  have h₂ : Queued q s₂ := setFlag_queued h
  exact queued_ite h (queued_ite (queued_ite (tamper_queued h₁) h₁) (queued_ite (incSat_queued h₂) h₂))

theorem execXtal32Fail_queued {t : Nat} (h : Queued q s) : OutQueued q (execXtal32Fail t s) :=
  queued_next (queued_ite (loseClock_queued h) (onCore_queued h (fun h₁ => queued_ite h₁ (raise_queued (incSat_queued
    (wr_queued (wr_queued h₁)))))))

theorem execXtal32Return_queued {t : Nat} (h : Queued q s) : OutQueued q (execXtal32Return t s) :=
  queued_next (onCore_queued h (fun h₁ => queued_ite h₁ (raise_queued (wr_queued (wr_queued h₁)))))

theorem execXtal49Fail_queued {t : Nat} (h : Queued q s) : OutQueued q (execXtal49Fail t s) :=
  queued_next (onCore_queued h (fun h₁ => queued_ite h₁ (tamper_queued (raise_queued (queued_upd (incSat_queued
    (wr_queued (wr_queued h₁))))))))

theorem execXtal49Return_queued {t : Nat} (h : Queued q s) : OutQueued q (execXtal49Return t s) :=
  queued_next (onCore_queued h (fun h₁ => queued_ite h₁ (raise_queued (wr_queued (wr_queued h₁)))))

theorem execXtal25Fail_queued {t : Nat} {feed : List Feed} (h : Queued q s) : OutQueued q (execXtal25Fail t feed s) :=
  queued_next (onCore_queued h (fun h₁ => failRestart_queued (moduleTrip_queued (setFlag_queued (raise_queued
    (wr_queued h₁))))))

theorem execRefclkReturn_queued {t : Nat} (h : Queued q s) : OutQueued q (execRefclkReturn t s) :=
  queued_next (onEvent_queued h (fun h₁ => queued_ite h₁ (raise_queued (wr_queued h₁))))

theorem execMeterWake_queued {t cause : Nat} (h : Queued q s) : OutQueued q (execMeterWake t cause s) :=
  queued_next (onEvent_queued h (fun h₁ => queued_ite (plcFollowAll_queued (wakeRun_queued h₁)) h₁))

theorem execPwrQuery_queued {x : Ctx} (h : Queued q s) : OutQueued q (execPwrQuery x s) :=
  queued_next (command_queued h complete_queued)

theorem execPwrMode_queued {x : Ctx} {mode : Nat} (h : Queued q s) : OutQueued q (execPwrMode x mode s) :=
  queued_next (command_queued h (fun h₁ => queued_ite (complete_queued h₁) (queued_ite (complete_queued
    (plcFollowAll_queued (wakeRun_queued h₁))) (queued_ite (complete_queued h₁) (queued_ite (complete_queued h₁)
    (complete_queued (enterMeter_queued h₁)))))))

theorem execPwrIdent_queued {x : Ctx} (h : Queued q s) : OutQueued q (execPwrIdent x s) :=
  queued_next (command_queued h (fun h₁ => complete_queued (giveBuffer_queued h₁)))

/-! ### Rcm (Sys2Proof/Machine/Rcm.lean) -/

theorem execRcmReading_queued {t i : Nat} {value : Int} (h : Queued q s) : OutQueued q (execRcmReading t i value s) :=
  queued_next (onCore_queued h (fun h₁ => queued_forEach modOs_queued (queued_upd (setFlag_queued (wrInt_queued
    h₁)))))

theorem execRcmSelftestRun_queued {t n : Nat} {offset : Int} {reading : Nat} (h : Queued q s) :
    OutQueued q (execRcmSelftestRun t n offset reading s) :=
  queued_next (onEvent_queued h (fun h₁ => queued_ite (rcmSelfTest_queued h₁) h₁))

theorem execRcmSensorRange_queued {t i : Nat} (h : Queued q s) : OutQueued q (execRcmSensorRange t i s) :=
  queued_next (onCore_queued h (fun h₁ => queued_ite (queued_forEach sensorTrip_queued h₁) h₁))

theorem execRcmPrewarn_queued {t n : Nat} (h : Queued q s) : OutQueued q (execRcmPrewarn t n s) := by
  unfold execRcmPrewarn
  refine queued_next (onEvent_queued h (fun h₁ => ?_))
  split
  · exact queued_ite (raise_queued (modOs_queued h₁)) h₁
  · exact h₁

theorem execRcmSelftest_queued {x : Ctx} {n : Nat} {offset : Int} {reading : Nat} (h : Queued q s) :
    OutQueued q (execRcmSelftest x n offset reading s) :=
  queued_next (command_queued h (fun h₁ => queued_ite (complete_queued h₁) (queued_ite (complete_queued h₁)
    (complete_queued (rcmSelfTest_queued h₁)))))

/-! ### RegMap (Sys2Proof/Machine/RegMap.lean) -/

theorem execLatchingRead_queued {t off : Nat} {wide bar4 : Bool} (h : Queued q s) :
    OutQueued q (execLatchingRead t off wide bar4 s) :=
  queued_next (onEvent_queued h (fun h₁ => queued_ite (msixRead_queued h₁) (barRead_queued h₁)))

theorem execRegisterWrite_queued {t off value : Nat} {wide part bar4 : Bool} (h : Queued q s) :
    OutQueued q (execRegisterWrite t off value wide part bar4 s) :=
  queued_next (onEvent_queued h (fun h₁ => queued_ite (msixWrite_queued h₁) (barWrite_queued h₁)))

theorem execAlertWrite_queued {t mask : Nat} (h : Queued q s) : OutQueued q (execAlertWrite t mask s) :=
  queued_next (onEvent_queued h alertWrite_queued)

theorem execSetupLock_queued {t : Nat} (h : Queued q s) : OutQueued q (execSetupLock t s) :=
  queued_next (onEvent_queued h lockSetup_queued)

theorem execSettingsSaved_queued {t : Nat} (h : Queued q s) : OutQueued q (execSettingsSaved t s) :=
  queued_next (onEvent_queued h settingsSaved_queued)

theorem execRegWrite_queued {x : Ctx} {off value mask : Nat} (h : Queued q s) :
    OutQueued q (execRegWrite x off value mask s) :=
  queued_next (command_queued h (fun h₁ => complete_queued (regWrite_queued h₁)))

/-! ### Slac (Sys2Proof/Machine/Slac.lean) -/

theorem execSlacParmReq_queued {t run : Nat} {pilots : List Nat} (h : Queued q s) :
    OutQueued q (execSlacParmReq t run pilots s) := by
  unfold execSlacParmReq
  refine queued_next (onEvent_queued h (fun h₁ => ?_))
  extract_lets _ s₂
  have h₂ : Queued q s₂ := queued_forEach modOutlet_queued h₁
  refine queued_ite h₁ ?_
  split
  · exact queued_ite (putSlac_queued h₂) h₂
  · exact putSlac_queued h₂

theorem execStartAttenChar_queued {t run : Nat} (h : Queued q s) : OutQueued q (execStartAttenChar t run s) := by
  unfold execStartAttenChar
  refine queued_next (onEvent_queued h (fun h₁ => ?_))
  split
  · exact queued_ite (putSlac_queued h₁) h₁
  · exact h₁

theorem execMnbcSound_queued {t run : Nat} {meas : List (Nat × List Nat)} (h : Queued q s) :
    OutQueued q (execMnbcSound t run meas s) := by
  unfold execMnbcSound
  refine queued_next (onEvent_queued h (fun h₁ => ?_))
  split
  · exact queued_ite (putSlac_queued h₁) h₁
  · exact h₁

theorem execSlacWindowClose_queued {t : Nat} (h : Queued q s) : OutQueued q (execSlacWindowClose t s) :=
  queued_next (onEvent_queued h slacClose_queued)

theorem execSlacValidate_queued {t run announced : Nat} {counted : List (Nat × Nat)} (h : Queued q s) :
    OutQueued q (execSlacValidate t run announced counted s) := by
  unfold execSlacValidate
  refine queued_next (onEvent_queued h (fun h₁ => ?_))
  split
  · exact queued_ite h₁ (putSlac_queued h₁)
  · exact h₁

theorem execSlacMatchReq_queued {t run pilot : Nat} (h : Queued q s) :
    OutQueued q (execSlacMatchReq t run pilot s) := by
  unfold execSlacMatchReq
  refine queued_next (onEvent_queued h (fun h₁ => ?_))
  split
  · refine queued_ite ?_ h₁
    split
    rename_i hp
    exact setSess_queued (raise_queued (modOutlet_queued (dropSlac_queued (takeFree_queued (queued_snd hp
      (drbgNext_queued h₁))))))
  · exact h₁

theorem execSlacMatchTimeout_queued {t run : Nat} (h : Queued q s) : OutQueued q (execSlacMatchTimeout t run s) := by
  unfold execSlacMatchTimeout
  refine queued_next (onEvent_queued h (fun h₁ => ?_))
  split
  · exact queued_ite h₁ (queued_forEach slacFail_queued (dropSlac_queued h₁))
  · exact h₁

theorem execSlacInitTimeout_queued {t n : Nat} (h : Queued q s) : OutQueued q (execSlacInitTimeout t n s) := by
  unfold execSlacInitTimeout
  refine queued_next (onEvent_queued h (fun h₁ => ?_))
  split
  · exact queued_ite (slacFail_queued h₁) h₁
  · exact h₁

/-! ### Start (Sys2Proof/Machine/Start.lean) -/

theorem execStartUp_queued {t : Nat} {boot : BootIn} (h : Queued q s) : OutQueued q (execStartUp t boot s) :=
  queued_next (queued_ite (startUp_queued (advance_queued h)) h)

theorem execRecordSign_queued {t : Nat} (h : Queued q s) : OutQueued q (execRecordSign t s) :=
  queued_next (onCore_queued h (fun h₁ => queued_ite (hostReady_queued (signOldest_queued h₁)) (signOldest_queued
    h₁)))

theorem execPufRetry_queued {t : Nat} {ber : Option Nat} (h : Queued q s) : OutQueued q (execPufRetry t ber s) :=
  queued_next (onEvent_queued h (fun h₁ => queued_ite (hostReady_queued (recoveryOutlets_queued (regenerate_queued
    h₁))) h₁))

/-! ### Tag (Sys2Proof/Machine/Tag.lean) -/

theorem execRdr0Poll_queued {t : Nat} {cardsA cardsB cards15 : List (List Byte)} {authOk : Bool} {rxErr : Nat} (h :
    Queued q s) :
    OutQueued q (execRdr0Poll t cardsA cardsB cards15 authOk rxErr s) := by
  unfold execRdr0Poll
  refine queued_next (onEvent_queued h (fun h₁ => queued_ite h₁ ?_))
  extract_lets _ _ s₂ _ _ s₃ _ s₄
  have h₂ : Queued q s₂ := addSat_queued (queued_upd h₁)
  have h₃ : Queued q s₃ := queued_ite (walkLimit_queued h₂) h₂
  have h₄ : Queued q s₄ := queued_ite (walkLimit_queued h₃) h₃
  exact queued_ite (pollFound_queued (cardsSeen_queued h₃)) (queued_ite (pollFound_queued (cardsSeen_queued h₃))
    (queued_ite (pollFound_queued (cardsSeen_queued h₄)) (cardsSeen_queued h₄)))

theorem execCableRead_queued {t : Nat} {tag : Option CableRead} (h : Queued q s) :
    OutQueued q (execCableRead t tag s) := by
  unfold execCableRead
  refine queued_next (onEvent_queued h (fun h₁ => ?_))
  split
  · exact h₁
  · refine queued_ite h₁ ?_
    extract_lets s₁ _ x₁ x₂ s₂
    clear_value x₁ x₂
    have h₁ : Queued q s₁ := nextJob_queued h₁
    have h₂ : Queued q s₂ := by
      unfold s₂
      split
      · exact raise_queued h₁
      · exact h₁
    split
    rename_i hp
    extract_lets _ _ s₃
    have h₃ : Queued q s₃ := by
      refine cableSession_queued (raise_queued (wr_queued (queued_snd hp ?_)))
      split
      · exact cableBelieved_queued h₂
      · exact h₂
    exact queued_forEach finalise_queued (queued_ite h₃ (raise_queued h₃))

theorem execCableWrite_queued {t : Nat} {ok : Bool} (h : Queued q s) : OutQueued q (execCableWrite t ok s) := by
  unfold execCableWrite
  refine queued_next (onEvent_queued h (fun h₁ => ?_))
  split
  · exact h₁
  · exact queued_ite h₁ (queued_ite (lifeWrite_queued (nextJob_queued h₁)) (wr_queued (nextJob_queued h₁)))

theorem execTagCableRead_queued {x : Ctx} {n : Nat} (h : Queued q s) : OutQueued q (execTagCableRead x n s) :=
  queued_next (command_queued h (fun h₁ => queued_ite (complete_queued h₁) (queued_ite (complete_queued h₁)
    (addJob_queued (complete_queued h₁)))))

theorem execTagCableInit_queued {x : Ctx} {n : Nat} {ok : Bool} (h : Queued q s) :
    OutQueued q (execTagCableInit x n ok s) :=
  queued_next (command_queued h (fun h₁ => queued_ite (complete_queued h₁) (queued_ite (complete_queued h₁)
    (queued_ite (complete_queued h₁) (queued_ite (complete_queued h₁) (complete_queued (modCable_queued h₁)))))))

theorem execTagCableRetire_queued {x : Ctx} {n : Nat} {ok : Bool} (h : Queued q s) :
    OutQueued q (execTagCableRetire x n ok s) :=
  queued_next (command_queued h (fun h₁ => queued_ite (complete_queued h₁) (queued_ite (complete_queued h₁)
    (queued_ite (complete_queued (lifeWrite_queued (setJobs_queued (shadowGo_queued (modCable_queued h₁)))))
    (complete_queued (shadowGo_queued (modCable_queued h₁)))))))

theorem execTagQuery_queued {x : Ctx} (h : Queued q s) : OutQueued q (execTagQuery x s) :=
  queued_next (command_queued h complete_queued)

theorem execOwnTagFieldOn_queued {t : Nat} (h : Queued q s) : OutQueued q (execOwnTagFieldOn t s) :=
  queued_next (onField_queued h (fun h₁ => queued_upd (wr_queued (addSat_queued (queued_forEach queued_upd h₁)))))

theorem execOwnTagFieldLost_queued {t : Nat} (h : Queued q s) : OutQueued q (execOwnTagFieldLost t s) := by
  unfold execOwnTagFieldLost
  refine queued_next (onField_queued h (fun h₁ => queued_ite h₁ ?_))
  extract_lets _ _ s₂
  have h₂ : Queued q s₂ := queued_upd (ownReply_queued (wr_queued (ownClose_queued h₁)))
  exact queued_ite (raise_queued h₂) h₂

theorem execOwnTagFieldRead_queued {t first count : Nat} (h : Queued q s) :
    OutQueued q (execOwnTagFieldRead t first count s) :=
  queued_next (onField_queued h (fun h₁ => queued_ite h₁ (queued_ite (ownReply_queued h₁) (queued_ite (ownReply_queued
    h₁) (ownReply_queued h₁)))))

theorem execOwnTagFieldWrite_queued {t first : Nat} {values : List Nat} {done : Nat} (h : Queued q s) :
    OutQueued q (execOwnTagFieldWrite t first values done s) :=
  queued_next (onField_queued h (fun h₁ => queued_ite h₁ (queued_ite (ownReply_queued h₁) (queued_ite (ownReply_queued
    h₁) (queued_ite (ownReply_queued (incSat_queued h₁)) (ownReply_queued (queued_upd (addSat_queued (queued_forEach
    ownWrite_queued (queued_forEach ownWrite_queued h₁))))))))))

theorem execPresentPwd_queued {t pwd : Nat} (h : Queued q s) : OutQueued q (execPresentPwd t pwd s) :=
  queued_next (onField_queued h (fun h₁ => queued_ite h₁ (queued_ite (ownReply_queued h₁) (queued_ite (ownReply_queued
    (queued_upd h₁)) (ownReply_queued (queued_upd h₁))))))

theorem execOwnTagMam1_queued {t : Nat} {ok : Bool} (h : Queued q s) : OutQueued q (execOwnTagMam1 t ok s) :=
  queued_next (onField_queued h (fun h₁ => queued_ite (ownReply_queued (queued_upd h₁)) h₁))

theorem execResetToReady_queued {t : Nat} (h : Queued q s) : OutQueued q (execResetToReady t s) :=
  queued_next (onField_queued h (fun h₁ => queued_ite (ownClose_queued h₁) h₁))

theorem execTagOwnRead_queued {x : Ctx} {first count : Nat} (h : Queued q s) :
    OutQueued q (execTagOwnRead x first count s) :=
  queued_next (command_queued h (fun h₁ => queued_ite (complete_queued h₁) (queued_ite (complete_queued h₁)
    (complete_queued (giveBuffer_queued h₁)))))

theorem execTagOwnWrite_queued {x : Ctx} {first : Nat} {blocks : List Nat} (h : Queued q s) :
    OutQueued q (execTagOwnWrite x first blocks s) :=
  queued_next (command_queued h (fun h₁ => queued_ite (complete_queued h₁) (queued_ite (complete_queued h₁)
    (queued_ite (complete_queued h₁) (complete_queued (ownCommit_queued (queued_upd (takeFree_queued h₁))))))))

/-! ### Trellis (Sys2Proof/Machine/Trellis.lean) -/

theorem execPlcFrameRx_queued {t i agc first : Nat} {syms : List (List Int)} {fecOk : Bool} (h : Queued q s) :
    OutQueued q (execPlcFrameRx t i agc first syms fecOk s) := by
  unfold execPlcFrameRx
  refine queued_next (onEvent_queued h (fun h₁ => queued_ite h₁ ?_))
  split
  extract_lets _ _ _ _ _ s₂ s₃
  have h₂ : Queued q s₂ := wr_queued (wr_queued (addSat_queued (addSat_queued (addSat_queued (addSat_queued
    (queued_upd h₁))))))
  have h₃ : Queued q s₃ := queued_ite h₂ (wr_queued h₂)
  exact queued_ite (raise_queued (queued_upd h₃)) (queued_upd h₃)

theorem execSuperframeStart_queued {t : Nat} (h : Queued q s) : OutQueued q (execSuperframeStart t s) := by
  unfold execSuperframeStart
  refine queued_next (onEvent_queued h (fun h₁ => ?_))
  extract_lets _ _ _ _ s₂ s₃
  have h₂ : Queued q s₂ := queued_upd (wr_queued h₁)
  have h₃ : Queued q s₃ := queued_ite (alignNote_queued h₂) h₂
  exact queued_ite h₁ (queued_ite (transmit_queued h₃) h₃)

theorem execBeaconRx_queued {t : Nat} {h' : THdr} {stamp pos coord count : Nat} {relays : List Nat} (h : Queued q s) :
    OutQueued q (execBeaconRx t h' stamp pos coord count relays s) := by
  unfold execBeaconRx
  refine queued_next (onEvent_queued h (fun h₁ => receive_queued h₁ (fun h₂ => ?_)))
  extract_lets _ _ _ s₃ s₄ _ _ s₅ x₁
  clear_value x₁
  have h₃ : Queued q s₃ := queued_upd h₂
  have h₄ : Queued q s₄ := queued_ite (joinReq_queued h₃) (queued_ite (setTrx_queued h₃) h₃)
  have h₅ : Queued q s₅ := moveStart_queued (wr_queued (wr_queued h₄))
  refine queued_ite (queued_ite (joinReq_queued (raise_queued h₂)) h₂) (queued_ite (queued_upd h₄) ?_)
  split
  · exact queued_ite h₅ (transmit_queued h₅)
  · exact h₅

theorem execSyncInEdge_queued {t first : Nat} {falling : Bool} (h : Queued q s) :
    OutQueued q (execSyncInEdge t first falling s) := by
  unfold execSyncInEdge
  refine queued_next (onEvent_queued h (fun h₁ => queued_ite h₁ ?_))
  extract_lets _ _ _ _ _ _ s₂
  have h₂ : Queued q s₂ := demandSync_queued (wr_queued (wr_queued (incSat_queued (queued_upd h₁))))
  exact queued_ite (incSat_queued h₁) (queued_ite h₂ (queued_ite (queued_upd h₂) (raise_queued h₂)))

theorem execTrellisTx_queued {t : Nat} (h : Queued q s) : OutQueued q (execTrellisTx t s) := by
  unfold execTrellisTx
  refine queued_next (onEvent_queued h (fun h₁ => queued_ite h₁ ?_))
  split
  · exact serveNext_queued h₁
  · exact queued_ite (serveNext_queued (frameDone_queued (transmit_queued (dequeue_queued h₁)))) (queued_ite
      (serveNext_queued (frameDone_queued (dequeue_queued h₁))) (queued_upd (transmit_queued (queued_ite
      (dequeue_queued h₁) (incSat_queued (dequeue_queued h₁))))))

theorem execAck_queued {t : Nat} {h' : THdr} {seq ctr : Nat} (h : Queued q s) :
    OutQueued q (execAck t h' seq ctr s) := by
  unfold execAck
  refine queued_next (onEvent_queued h (fun h₁ => ?_))
  split
  · exact h₁
  · exact queued_ite (serveNext_queued (frameDone_queued (linkResult_queued (hear_queued (queued_upd h₁))))) h₁

theorem execTrellisAckTimeout_queued {t : Nat} (h : Queued q s) : OutQueued q (execTrellisAckTimeout t s) := by
  unfold execTrellisAckTimeout
  refine queued_next (onEvent_queued h (fun h₁ => ?_))
  split
  · exact h₁
  · exact queued_ite h₁ (queued_ite (serveNext_queued (frameDone_queued (incSat_queued (linkResult_queued (queued_upd
      h₁))))) (setTq_queued (linkResult_queued (queued_upd h₁))))

theorem execJoinReq_queued {t : Nat} {h' : THdr} {serial caps : Nat} (h : Queued q s) :
    OutQueued q (execJoinReq t h' serial caps s) :=
  queued_next (onEvent_queued h (fun h₁ => receive_queued h₁ (fun h₂ => queued_ite h₂ (send_queued (queued_ite
    (queued_ite (raise_queued (queued_upd h₂)) (queued_upd h₂)) h₂)))))

theorem execJoinResult_queued {t : Nat} {h' : THdr} {res count : Nat} (h : Queued q s) :
    OutQueued q (execJoinResult t h' res count s) :=
  queued_next (onEvent_queued h (fun h₁ => receive_queued h₁ (fun h₂ => queued_ite h₂ (queued_ite (holdStart_queued
    (setTrx_queued h₂)) (queued_ite (setTrx_queued (wr_queued (mainsModems_queued (cancelFrames_queued h₂))))
    (queued_upd h₂))))))

theorem execLqReport_queued {t : Nat} {h' : THdr} {entries : List (Nat × Nat × Nat)} (h : Queued q s) :
    OutQueued q (execLqReport t h' entries s) :=
  queued_next (onEvent_queued h (fun h₁ => receive_queued h₁ (fun h₂ => queued_ite h₂ (reroute_queued (queued_upd
    h₂)))))

theorem execSiteLimit_queued {t : Nat} {h' : THdr} {validity : Nat} {entries : List (Nat × Nat)} (h : Queued q s) :
    OutQueued q (execSiteLimit t h' validity entries s) :=
  queued_next (onEvent_queued h (fun h₁ => receive_queued h₁ limitApply_queued))

theorem execTime_queued {t : Nat} {h' : THdr} {ref ms : Nat} {sig : Option (List Byte × Bool)} (h : Queued q s) :
    OutQueued q (execTime t h' ref ms sig s) :=
  queued_next (onEvent_queued h (fun h₁ => receive_queued h₁ (fun h₂ => queued_ite h₂ (timeSet_queued h₂))))

theorem execHostData_queued {t : Nat} {h' : THdr} {payload : List Byte} (h : Queued q s) :
    OutQueued q (execHostData t h' payload s) :=
  queued_next (onEvent_queued h (fun h₁ => receive_queued h₁ (fun h₂ => streamBlock_queued (queued_upd h₂))))

theorem execImageOffer_queued {t : Nat} {h' : THdr} {digest count gen : Nat} (h : Queued q s) :
    OutQueued q (execImageOffer t h' digest count gen s) :=
  queued_next (onEvent_queued h (fun h₁ => receive_queued h₁ updOffer_queued))

theorem execImageReq_queued {t : Nat} {h' : THdr} {digest : Nat} {ranges : List (Nat × Nat)} (h : Queued q s) :
    OutQueued q (execImageReq t h' digest ranges s) := by
  unfold execImageReq
  refine queued_next (onEvent_queued h (fun h₁ => receive_queued h₁ (fun h₂ => ?_)))
  split
  · exact queued_ite h₂ (serveNext_queued (queued_upd h₂))
  · exact h₂

theorem execImageBlock_queued {t : Nat} {h' : THdr} {digest block frag : Nat} {data : List Byte} {sigs : Bool × Bool}
    (h : Queued q s) :
    OutQueued q (execImageBlock t h' digest block frag data sigs s) :=
  queued_next (onEvent_queued h (fun h₁ => receive_queued h₁ (fun h₂ => queued_ite h₂ (queued_ite (updBlockRx_queued
    (queued_upd h₂)) (queued_upd h₂)))))

theorem execImageBlockExpiry_queued {t : Nat} (h : Queued q s) : OutQueued q (execImageBlockExpiry t s) :=
  queued_next (onEvent_queued h queued_upd)

theorem execTrellisBeaconTimeout_queued {t : Nat} (h : Queued q s) : OutQueued q (execTrellisBeaconTimeout t s) :=
  queued_next (onEvent_queued h (fun h₁ => queued_ite (setTrx_queued (wr_queued (queued_upd h₁))) (queued_ite
    (queued_upd (setTrx_queued h₁)) (queued_ite (listen_queued h₁) h₁))))

theorem execTrellisJoinTimeout_queued {t : Nat} (h : Queued q s) : OutQueued q (execTrellisJoinTimeout t s) :=
  queued_next (onEvent_queued h (fun h₁ => queued_ite (queued_upd h₁) h₁))

theorem execTrellisJoinBackoffEnd_queued {t : Nat} (h : Queued q s) :
    OutQueued q (execTrellisJoinBackoffEnd t s) := by
  unfold execTrellisJoinBackoffEnd
  refine queued_next (onEvent_queued h (fun h₁ => ?_))
  split
  · exact queued_ite (listen_queued h₁) h₁
  · exact h₁

theorem execTrellisNodeTimeout_queued {t n : Nat} (h : Queued q s) : OutQueued q (execTrellisNodeTimeout t n s) := by
  unfold execTrellisNodeTimeout
  refine queued_next (onEvent_queued h (fun h₁ => ?_))
  split
  · exact queued_ite (raise_queued (queued_upd h₁)) h₁
  · exact h₁

theorem execLqReportSend_queued {t : Nat} (h : Queued q s) : OutQueued q (execLqReportSend t s) :=
  queued_next (onEvent_queued h (fun h₁ => queued_ite (every_queued h₁ send_queued) h₁))

theorem execSiteLimitRepeat_queued {t : Nat} (h : Queued q s) : OutQueued q (execSiteLimitRepeat t s) := by
  unfold execSiteLimitRepeat
  refine queued_next (onEvent_queued h (fun h₁ => ?_))
  split
  · exact queued_ite (every_queued h₁ send_queued) h₁
  · exact h₁

theorem execTimeSend_queued {t : Nat} (h : Queued q s) : OutQueued q (execTimeSend t s) :=
  queued_next (onEvent_queued h (fun h₁ => queued_ite (every_queued h₁ send_queued) h₁))

theorem execImageOfferSend_queued {t : Nat} (h : Queued q s) : OutQueued q (execImageOfferSend t s) := by
  unfold execImageOfferSend
  refine queued_next (onEvent_queued h (fun h₁ => ?_))
  split
  · exact queued_ite (every_queued h₁ send_queued) h₁
  · exact h₁

theorem execTrellisEnable_queued {t : Nat} {on : Bool} (h : Queued q s) : OutQueued q (execTrellisEnable t on s) :=
  queued_next (onEvent_queued h (fun h₁ => trellisEn_queued (setFlag_queued h₁)))

theorem execPlcQuery_queued {x : Ctx} {i : Nat} (h : Queued q s) : OutQueued q (execPlcQuery x i s) :=
  queued_next (command_queued h (fun h₁ => queued_ite (complete_queued h₁) (complete_queued h₁)))

theorem execTrellisSend_queued {x : Ctx} {dst cls : Nat} {payload : List Byte} (h : Queued q s) :
    OutQueued q (execTrellisSend x dst cls payload s) :=
  queued_next (command_queued h (fun h₁ => queued_ite (complete_queued h₁) (queued_ite (complete_queued h₁)
    (queued_ite (complete_queued h₁) (queued_ite (complete_queued h₁) (queued_ite (complete_queued h₁) (send_queued
    (complete_queued h₁))))))))

theorem execTrellisLimitSend_queued {x : Ctx} {validity : Nat} {entries : List (Nat × Nat)} (h : Queued q s) :
    OutQueued q (execTrellisLimitSend x validity entries s) :=
  queued_next (command_queued h (fun h₁ => queued_ite (complete_queued h₁) (queued_ite (complete_queued h₁)
    (complete_queued (limitApply_queued (queued_upd (send_queued (queued_upd h₁))))))))

theorem execTrellisLqRead_queued {x : Ctx} (h : Queued q s) : OutQueued q (execTrellisLqRead x s) :=
  queued_next (command_queued h (fun h₁ => complete_queued (giveBuffer_queued h₁)))

theorem execTrellisRestart_queued {x : Ctx} (h : Queued q s) : OutQueued q (execTrellisRestart x s) := by
  unfold execTrellisRestart
  refine queued_next (command_queued h (fun h₁ => ?_))
  extract_lets s₂ s₃
  have h₂ : Queued q s₂ := cancelFrames_queued h₁
  have h₃ : Queued q s₃ := queued_ite h₂ (setTrx_queued (mainsModems_queued h₂))
  exact complete_queued (queued_ite (listen_queued h₃) h₃)

/-! ### Twin (Sys2Proof/Machine/Twin.lean) -/

theorem execTwinLinkUp_queued {t lanes serial : Nat} {peerPrefer : Bool} {hdr : TwinHdr} (h : Queued q s) :
    OutQueued q (execTwinLinkUp t lanes serial peerPrefer hdr s) :=
  queued_next (onEvent_queued h (fun h₁ => queued_ite h₁ (linkRole_queued (peerEvent_queued (noteFrame_queued
    (setFlag_queued (queued_upd (wr_queued (wr_queued (wr_queued (queued_ite h₁ (incSat_queued h₁))))))))))))

theorem execTwinLinkDown_queued {t : Nat} (h : Queued q s) : OutQueued q (execTwinLinkDown t s) :=
  queued_next (onEvent_queued h (fun h₁ => queued_ite h₁ (peerEvent_queued (noteReady_queued (queued_upd (wr_queued
    (wr_queued (wr_queued h₁))))))))

theorem execTwinPairTimeout_queued {t : Nat} (h : Queued q s) : OutQueued q (execTwinPairTimeout t s) :=
  queued_next (onEvent_queued h (fun h₁ => queued_ite (setRole_queued h₁) h₁))

theorem execTwinCopyFreeze_queued {t : Nat} {hdr : TwinHdr} {crc kib : Nat} (h : Queued q s) :
    OutQueued q (execTwinCopyFreeze t hdr crc kib s) :=
  queued_next (onEvent_queued h (fun h₁ => queued_ite (queued_upd (wr_queued (noteFrame_queued h₁))) h₁))

theorem execTwinCopyRx_queued {t : Nat} {copy : TwinCopy} {whole : Bool} {kib : Nat} {hdr : TwinHdr} (h : Queued q s)
    :
    OutQueued q (execTwinCopyRx t copy whole kib hdr s) :=
  queued_next (onEvent_queued h (fun h₁ => queued_ite (queued_ite (noteFrame_queued h₁) (noteReady_queued
    (shadowNote_queued (queued_upd (wr_queued (noteFrame_queued h₁)))))) h₁))

theorem execTwinCopyDeadline_queued {t crc : Nat} (h : Queued q s) : OutQueued q (execTwinCopyDeadline t crc s) :=
  queued_next (onEvent_queued h (fun h₁ => queued_ite h₁ (queued_ite (queued_upd (addSat_queued h₁)) (queued_ite
    (noteReady_queued (queued_upd (incSat_queued (queued_upd (addSat_queued h₁))))) (raise_queued (queued_upd
    (noteReady_queued (queued_upd (incSat_queued (queued_upd (addSat_queued h₁)))))))))))

theorem execTwinGiveup_queued {t cause : Nat} (h : Queued q s) : OutQueued q (execTwinGiveup t cause s) :=
  queued_next (onEvent_queued h (fun h₁ => queued_ite (giveUp_queued h₁) h₁))

theorem execTwinActInFall_queued {t : Nat} (h : Queued q s) : OutQueued q (execTwinActInFall t s) := by
  unfold execTwinActInFall
  refine queued_next (onEvent_queued h (fun h₁ => ?_))
  extract_lets s₂
  have h₂ : Queued q s₂ := setActIn_queued h₁
  refine queued_ite ?_ (queued_ite (linkRole_queued h₂) h₂)
  split
  · exact setRole_queued (loadCopy_queued h₂)
  · exact setRole_queued h₂

theorem execTwinActInRise_queued {t : Nat} (h : Queued q s) : OutQueued q (execTwinActInRise t s) :=
  queued_next (onEvent_queued h (fun h₁ => queued_ite (twinRelease_queued (setActIn_queued h₁)) (queued_ite
    (setRole_queued (setActIn_queued h₁)) (setActIn_queued h₁))))

theorem execTwinActConflict_queued {t : Nat} (h : Queued q s) : OutQueued q (execTwinActConflict t s) := by
  unfold execTwinActConflict
  refine queued_next (onEvent_queued h (fun h₁ => ?_))
  split
  · exact queued_ite (twinRelease_queued (setRole_queued h₁)) h₁
  · exact h₁

theorem execTwinTakeoverDone_queued {t : Nat} (h : Queued q s) : OutQueued q (execTwinTakeoverDone t s) :=
  queued_next (onEvent_queued h (fun h₁ => queued_ite (takeOverDone_queued h₁) h₁))

theorem execTwinForwardedStop_queued {t op mask : Nat} (h : Queued q s) :
    OutQueued q (execTwinForwardedStop t op mask s) :=
  queued_next (onEvent_queued h (fun h₁ => queued_ite h₁ (queued_ite (queued_upd (sessionStop_queued h₁)) (queued_ite
    (queued_upd (outErem_queued h₁)) h₁))))

theorem execTwinQuery_queued {x : Ctx} (h : Queued q s) : OutQueued q (execTwinQuery x s) :=
  queued_next (command_queued h complete_queued)

theorem execTwinSwitch_queued {x : Ctx} (h : Queued q s) : OutQueued q (execTwinSwitch x s) :=
  queued_next (command_queued h (fun h₁ => queued_ite (complete_queued h₁) (queued_ite (complete_queued h₁)
    (queued_ite (complete_queued h₁) (finalise_queued (giveUp_queued (complete_queued h₁)))))))

theorem execTwinRejoin_queued {x : Ctx} (h : Queued q s) : OutQueued q (execTwinRejoin x s) :=
  queued_next (command_queued h (fun h₁ => queued_ite (complete_queued h₁) (queued_ite (complete_queued h₁)
    (complete_queued (setRole_queued (queued_upd h₁))))))
/-- Every command answers a next state with the queue as it was, by the law of its own meaning. -/
theorem exec_queued (c : Instr) (h : Queued q s) : OutQueued q (exec c s) :=
  match c with
  | .islandCrossing .. => execIslandCrossing_queued h
  | .linkTimeout .. => execLinkTimeout_queued h
  | .rtcSecondEdge .. => execRtcSecondEdge_queued h
  | .controlCycleStart .. => execControlCycleStart_queued h
  | .outputStagingDeadline .. => execOutputStagingDeadline_queued h
  | .aCheckDeadline .. => execACheckDeadline_queued h
  | .configRequest .. => execConfigRequest_queued h
  | .perstRelease .. => execPerstRelease_queued h
  | .hostDetach .. => execHostDetach_queued h
  | .hostAttach .. => execHostAttach_queued h
  | .ringRegisterWrite .. => execRingRegisterWrite_queued h
  | .doorbellPoll .. => execDoorbellPoll_queued h
  | .kick .. => execKick_queued h
  | .stopCompletionRelease .. => execStopCompletionRelease_queued h
  | .evrGap .. => execEvrGap_queued h
  | .notifDataRead .. => execNotifDataRead_queued h
  | .latchingRead .. => execLatchingRead_queued h
  | .streamBufferFill .. => execStreamBufferFill_queued h
  | .ringCreate .. => execRingCreate_queued h
  | .ringDestroy .. => execRingDestroy_queued h
  | .journalFetch .. => execJournalFetch_queued h
  | .statusQuery .. => execStatusQuery_queued h
  | .regWrite .. => execRegWrite_queued h
  | .echo .. => execEcho_queued h
  | .startUp .. => execStartUp_queued h
  | .caskOpen .. => execCaskOpen_queued h
  | .caskAction .. => execCaskAction_queued h
  | .caskPrepare .. => execCaskPrepare_queued h
  | .caskValidationDone .. => execCaskValidationDone_queued h
  | .caskCommit .. => execCaskCommit_queued h
  | .caskAbort .. => execCaskAbort_queued h
  | .caskQuery .. => execCaskQuery_queued h
  | .funcDisable .. => execFuncDisable_queued h
  | .funcDisableDone .. => execFuncDisableDone_queued h
  | .caskOpenTimeout .. => execCaskOpenTimeout_queued h
  | .caskPreparedTimeout .. => execCaskPreparedTimeout_queued h
  | .caskRecordWrite .. => execCaskRecordWrite_queued h
  | .caskSyncEdge .. => execCaskSyncEdge_queued h
  | .caskSyncTimeout .. => execCaskSyncTimeout_queued h
  | .caskRetract .. => execCaskRetract_queued h
  | .caskApply .. => execCaskApply_queued h
  | .pilotStateAccept .. => execPilotStateAccept_queued h
  | .pilotDiodeFault .. => execPilotDiodeFault_queued h
  | .pilotPwmPeriod .. => execPilotPwmPeriod_queued h
  | .proximityRead .. => execProximityRead_queued h
  | .authTimeout .. => execAuthTimeout_queued h
  | .hlcMessage .. => execHlcMessage_queued h
  | .hlcTimeout .. => execHlcTimeout_queued h
  | .slacParmReq .. => execSlacParmReq_queued h
  | .startAttenChar .. => execStartAttenChar_queued h
  | .mnbcSound .. => execMnbcSound_queued h
  | .slacWindowClose .. => execSlacWindowClose_queued h
  | .slacValidate .. => execSlacValidate_queued h
  | .slacMatchReq .. => execSlacMatchReq_queued h
  | .slacMatchTimeout .. => execSlacMatchTimeout_queued h
  | .slacInitTimeout .. => execSlacInitTimeout_queued h
  | .preauthTimeout .. => execPreauthTimeout_queued h
  | .pmStatusFrame .. => execPmStatusFrame_queued h
  | .pmIdentFrame .. => execPmIdentFrame_queued h
  | .pmFaultFrame .. => execPmFaultFrame_queued h
  | .pmLost .. => execPmLost_queued h
  | .setpointSend .. => execSetpointSend_queued h
  | .pmSyncSend .. => execPmSyncSend_queued h
  | .allocatorRun .. => execAllocatorRun_queued h
  | .trellisLimitExpiry .. => execTrellisLimitExpiry_queued h
  | .enforcementGraceEnd .. => execEnforcementGraceEnd_queued h
  | .allocMaxWait .. => execAllocMaxWait_queued h
  | .outConfig .. => execOutConfig_queued h
  | .outAvailability .. => execOutAvailability_queued h
  | .sessionAuthorise .. => execSessionAuthorise_queued h
  | .sessionStop .. => execSessionStop_queued h
  | .outErem .. => execOutErem_queued h
  | .outSiteLimit .. => execOutSiteLimit_queued h
  | .sessionSetClass .. => execSessionSetClass_queued h
  | .sessionQuery .. => execSessionQuery_queued h
  | .outSelect .. => execOutSelect_queued h
  | .outContactor .. => execOutContactor_queued h
  | .outPilotDuty .. => execOutPilotDuty_queued h
  | .outPmSetpoint .. => execOutPmSetpoint_queued h
  | .outCertResponse .. => execOutCertResponse_queued h
  | .hslCycle .. => execHslCycle_queued h
  | .hslTableCheck .. => execHslTableCheck_queued h
  | .hslWatchdogExpiry .. => execHslWatchdogExpiry_queued h
  | .bHeartbeat .. => execBHeartbeat_queued h
  | .bHeartbeatLoss .. => execBHeartbeatLoss_queued h
  | .channelDiscrepancy .. => execChannelDiscrepancy_queued h
  | .safetySelftestDone .. => execSafetySelftestDone_queued h
  | .coilPullinStart .. => execCoilPullinStart_queued h
  | .coilPullinEnd .. => execCoilPullinEnd_queued h
  | .coilOpen .. => execCoilOpen_queued h
  | .coilShort .. => execCoilShort_queued h
  | .weldCheck .. => execWeldCheck_queued h
  | .shuntTripEnd .. => execShuntTripEnd_queued h
  | .shuntTripRepeat .. => execShuntTripRepeat_queued h
  | .darkTestPulse .. => execDarkTestPulse_queued h
  | .darkTestEnd .. => execDarkTestEnd_queued h
  | .coilUncontrol .. => execCoilUncontrol_queued h
  | .estopSourcePulse .. => execEstopSourcePulse_queued h
  | .estopOpen .. => execEstopOpen_queued h
  | .estopDisc .. => execEstopDisc_queued h
  | .safeInChange .. => execSafeInChange_queued h
  | .rcmReading .. => execRcmReading_queued h
  | .rcmSelftestRun .. => execRcmSelftestRun_queued h
  | .rcmSensorRange .. => execRcmSensorRange_queued h
  | .rcmPrewarn .. => execRcmPrewarn_queued h
  | .imdResult .. => execImdResult_queued h
  | .cableCheckTimeout .. => execCableCheckTimeout_queued h
  | .safeStatePilotEnd .. => execSafeStatePilotEnd_queued h
  | .resetSafeEdge .. => execResetSafeEdge_queued h
  | .safeQuery .. => execSafeQuery_queued h
  | .safeTestNow .. => execSafeTestNow_queued h
  | .rcmSelftest .. => execRcmSelftest_queued h
  | .imdMeasure .. => execImdMeasure_queued h
  | .chOverload .. => execChOverload_queued h
  | .mbsLost .. => execMbsLost_queued h
  | .mbsRestored .. => execMbsRestored_queued h
  | .auxSeqDue .. => execAuxSeqDue_queued h
  | .auxConversionDone .. => execAuxConversionDone_queued h
  | .afeSeqLoad .. => execAfeSeqLoad_queued h
  | .afeSeqEn .. => execAfeSeqEn_queued h
  | .afeAuxOneshot .. => execAfeAuxOneshot_queued h
  | .afeCalZero .. => execAfeCalZero_queued h
  | .afeCalSpan .. => execAfeCalSpan_queued h
  | .afeCalRestore .. => execAfeCalRestore_queued h
  | .afeCapture .. => execAfeCapture_queued h
  | .afeCaptureStop .. => execAfeCaptureStop_queued h
  | .trkPeriod .. => execTrkPeriod_queued h
  | .trkCrossingTimeout .. => execTrkCrossingTimeout_queued h
  | .trkHoldExpiry .. => execTrkHoldExpiry_queued h
  | .trkSourceAbsent .. => execTrkSourceAbsent_queued h
  | .gridCycleStart .. => execGridCycleStart_queued h
  | .settlingEnd .. => execSettlingEnd_queued h
  | .blendStart .. => execBlendStart_queued h
  | .blendDone .. => execBlendDone_queued h
  | .filtQuery .. => execFiltQuery_queued h
  | .filtBlend .. => execFiltBlend_queued h
  | .trkQuery .. => execTrkQuery_queued h
  | .filtRestart .. => execFiltRestart_queued h
  | .metWindowEnd .. => execMetWindowEnd_queued h
  | .demandSecondRecord .. => execDemandSecondRecord_queued h
  | .pqHalfCycle .. => execPqHalfCycle_queued h
  | .pulseStart .. => execPulseStart_queued h
  | .pulseEnd .. => execPulseEnd_queued h
  | .tcRead .. => execTcRead_queued h
  | .metSessionCloseFinal .. => execMetSessionCloseFinal_queued h
  | .metCalMeasureDone .. => execMetCalMeasureDone_queued h
  | .metQuery .. => execMetQuery_queued h
  | .metSessionOpen .. => execMetSessionOpen_queued h
  | .metSessionClose .. => execMetSessionClose_queued h
  | .metCalMeasure .. => execMetCalMeasure_queued h
  | .metCalApply .. => execMetCalApply_queued h
  | .metPulseCfg .. => execMetPulseCfg_queued h
  | .metHarmRead .. => execMetHarmRead_queued h
  | .metWaveCapture .. => execMetWaveCapture_queued h
  | .metWaveStop .. => execMetWaveStop_queued h
  | .ledgerCommit .. => execLedgerCommit_queued h
  | .recordSign .. => execRecordSign_queued h
  | .vfail .. => execVfail_queued h
  | .vinReturn .. => execVinReturn_queued h
  | .converterRailFall .. => execConverterRailFall_queued h
  | .tariffSwitch .. => execTariffSwitch_queued h
  | .calendarActivate .. => execCalendarActivate_queued h
  | .demandBoundary .. => execDemandBoundary_queued h
  | .boundaryTransaction .. => execBoundaryTransaction_queued h
  | .syncWindowExpiry .. => execSyncWindowExpiry_queued h
  | .sealIdle .. => execSealIdle_queued h
  | .legalSealChange .. => execLegalSealChange_queued h
  | .calExpiry .. => execCalExpiry_queued h
  | .legalBtnPress .. => execLegalBtnPress_queued h
  | .legalDisplayTimeout .. => execLegalDisplayTimeout_queued h
  | .ledgerQuery .. => execLedgerQuery_queued h
  | .ledgerSessionRecord .. => execLedgerSessionRecord_queued h
  | .ledgerTariffSelect .. => execLedgerTariffSelect_queued h
  | .ledgerReadSigned .. => execLedgerReadSigned_queued h
  | .ledgerRecordFetch .. => execLedgerRecordFetch_queued h
  | .ledgerTimeSet .. => execLedgerTimeSet_queued h
  | .ledgerCalendarLoad .. => execLedgerCalendarLoad_queued h
  | .ledgerBillingClose .. => execLedgerBillingClose_queued h
  | .ledgerBillingRead .. => execLedgerBillingRead_queued h
  | .ledgerCalChallenge .. => execLedgerCalChallenge_queued h
  | .ledgerCalOpen .. => execLedgerCalOpen_queued h
  | .ledgerCalClose .. => execLedgerCalClose_queued h
  | .ledgerLegalId .. => execLedgerLegalId_queued h
  | .ledgerAckLoss .. => execLedgerAckLoss_queued h
  | .plcFrameRx .. => execPlcFrameRx_queued h
  | .superframeStart .. => execSuperframeStart_queued h
  | .beaconRx .. => execBeaconRx_queued h
  | .syncInEdge .. => execSyncInEdge_queued h
  | .trellisTx .. => execTrellisTx_queued h
  | .ack .. => execAck_queued h
  | .trellisAckTimeout .. => execTrellisAckTimeout_queued h
  | .joinReq .. => execJoinReq_queued h
  | .joinResult .. => execJoinResult_queued h
  | .lqReport .. => execLqReport_queued h
  | .siteLimit .. => execSiteLimit_queued h
  | .time .. => execTime_queued h
  | .hostData .. => execHostData_queued h
  | .imageOffer .. => execImageOffer_queued h
  | .imageReq .. => execImageReq_queued h
  | .imageBlock .. => execImageBlock_queued h
  | .imageBlockExpiry .. => execImageBlockExpiry_queued h
  | .trellisBeaconTimeout .. => execTrellisBeaconTimeout_queued h
  | .trellisJoinTimeout .. => execTrellisJoinTimeout_queued h
  | .trellisJoinBackoffEnd .. => execTrellisJoinBackoffEnd_queued h
  | .trellisNodeTimeout .. => execTrellisNodeTimeout_queued h
  | .lqReportSend .. => execLqReportSend_queued h
  | .siteLimitRepeat .. => execSiteLimitRepeat_queued h
  | .timeSend .. => execTimeSend_queued h
  | .imageOfferSend .. => execImageOfferSend_queued h
  | .trellisEnable .. => execTrellisEnable_queued h
  | .plcQuery .. => execPlcQuery_queued h
  | .trellisSend .. => execTrellisSend_queued h
  | .trellisLimitSend .. => execTrellisLimitSend_queued h
  | .trellisLqRead .. => execTrellisLqRead_queued h
  | .trellisRestart .. => execTrellisRestart_queued h
  | .pufRetry .. => execPufRetry_queued h
  | .riddle .. => execRiddle_queued h
  | .drbgReseed .. => execDrbgReseed_queued h
  | .entropyFail .. => execEntropyFail_queued h
  | .entropyRetest .. => execEntropyRetest_queued h
  | .keySelftestDone .. => execKeySelftestDone_queued h
  | .credVerifyDone .. => execCredVerifyDone_queued h
  | .flashBlockFail .. => execFlashBlockFail_queued h
  | .keyQuery .. => execKeyQuery_queued h
  | .keyNodeQuery .. => execKeyNodeQuery_queued h
  | .keyInvalidate .. => execKeyInvalidate_queued h
  | .keyRederive .. => execKeyRederive_queued h
  | .keyInstall .. => execKeyInstall_queued h
  | .keyOwnerSet .. => execKeyOwnerSet_queued h
  | .keyAnchorInstall .. => execKeyAnchorInstall_queued h
  | .keyCsr .. => execKeyCsr_queued h
  | .keyCertInstall .. => execKeyCertInstall_queued h
  | .keyAttest .. => execKeyAttest_queued h
  | .keyAttestCert .. => execKeyAttestCert_queued h
  | .keySelftest .. => execKeySelftest_queued h
  | .credLoadBegin .. => execCredLoadBegin_queued h
  | .credLoadData .. => execCredLoadData_queued h
  | .credLoadCommit .. => execCredLoadCommit_queued h
  | .credLoadAbort .. => execCredLoadAbort_queued h
  | .credUpdate .. => execCredUpdate_queued h
  | .credLookup .. => execCredLookup_queued h
  | .rdr0Poll .. => execRdr0Poll_queued h
  | .cableRead .. => execCableRead_queued h
  | .cableWrite .. => execCableWrite_queued h
  | .ownTagFieldOn .. => execOwnTagFieldOn_queued h
  | .ownTagFieldLost .. => execOwnTagFieldLost_queued h
  | .ownTagFieldRead .. => execOwnTagFieldRead_queued h
  | .ownTagFieldWrite .. => execOwnTagFieldWrite_queued h
  | .presentPwd .. => execPresentPwd_queued h
  | .ownTagMam1 .. => execOwnTagMam1_queued h
  | .tagQuery .. => execTagQuery_queued h
  | .tagCableRead .. => execTagCableRead_queued h
  | .tagCableInit .. => execTagCableInit_queued h
  | .tagCableRetire .. => execTagCableRetire_queued h
  | .tagOwnRead .. => execTagOwnRead_queued h
  | .tagOwnWrite .. => execTagOwnWrite_queued h
  | .dispTempStale .. => execDispTempStale_queued h
  | .dispFrameStart .. => execDispFrameStart_queued h
  | .dispRegionDone .. => execDispRegionDone_queued h
  | .epdPwrGoodRise .. => execEpdPwrGoodRise_queued h
  | .dispPwrTimeout .. => execDispPwrTimeout_queued h
  | .epdPwrGoodLoss .. => execEpdPwrGoodLoss_queued h
  | .dispPwrOff .. => execDispPwrOff_queued h
  | .vintageSave .. => execVintageSave_queued h
  | .segSense .. => execSegSense_queued h
  | .segFrame .. => execSegFrame_queued h
  | .legalSilent .. => execLegalSilent_queued h
  | .dispQuery .. => execDispQuery_queued h
  | .dispImageLoad .. => execDispImageLoad_queued h
  | .dispUpdate .. => execDispUpdate_queued h
  | .dispTempSet .. => execDispTempSet_queued h
  | .dispVintageRead .. => execDispVintageRead_queued h
  | .dispVintageReset .. => execDispVintageReset_queued h
  | .lswTrip .. => execLswTrip_queued h
  | .inrushEnd .. => execInrushEnd_queued h
  | .lswRetry .. => execLswRetry_queued h
  | .lswCoolRestart .. => execLswCoolRestart_queued h
  | .retriesReload .. => execRetriesReload_queued h
  | .quadHot .. => execQuadHot_queued h
  | .quadCool .. => execQuadCool_queued h
  | .quadRestartStep .. => execQuadRestartStep_queued h
  | .lswPwmPeriod .. => execLswPwmPeriod_queued h
  | .lswOpenOn .. => execLswOpenOn_queued h
  | .lswOpenOff .. => execLswOpenOff_queued h
  | .lswBudgetWindow .. => execLswBudgetWindow_queued h
  | .vlsUndervoltage .. => execVlsUndervoltage_queued h
  | .vlsRestored .. => execVlsRestored_queued h
  | .lswSet .. => execLswSet_queued h
  | .lswClear .. => execLswClear_queued h
  | .lswQuery .. => execLswQuery_queued h
  | .lswConfig .. => execLswConfig_queued h
  | .lswBankPwm .. => execLswBankPwm_queued h
  | .updBegin .. => execUpdBegin_queued h
  | .updBlock .. => execUpdBlock_queued h
  | .updStatus .. => execUpdStatus_queued h
  | .updActivate .. => execUpdActivate_queued h
  | .updConfirm .. => execUpdConfirm_queued h
  | .updRevert .. => execUpdRevert_queued h
  | .updAbort .. => execUpdAbort_queued h
  | .updPolicy .. => execUpdPolicy_queued h
  | .updVerifyDone .. => execUpdVerifyDone_queued h
  | .updLockIdle .. => execUpdLockIdle_queued h
  | .updActivationFlip .. => execUpdActivationFlip_queued h
  | .updActivateTimeout .. => execUpdActivateTimeout_queued h
  | .trialTimeSave .. => execTrialTimeSave_queued h
  | .updAutoConfirm .. => execUpdAutoConfirm_queued h
  | .trialTimeout .. => execTrialTimeout_queued h
  | .svcBegin .. => execSvcBegin_queued h
  | .svcBlock .. => execSvcBlock_queued h
  | .svcActivate .. => execSvcActivate_queued h
  | .svcStatus .. => execSvcStatus_queued h
  | .svcAbort .. => execSvcAbort_queued h
  | .svcConfirm .. => execSvcConfirm_queued h
  | .svcRevert .. => execSvcRevert_queued h
  | .svcBadFrame .. => execSvcBadFrame_queued h
  | .twinLinkUp .. => execTwinLinkUp_queued h
  | .twinLinkDown .. => execTwinLinkDown_queued h
  | .twinPairTimeout .. => execTwinPairTimeout_queued h
  | .twinCopyFreeze .. => execTwinCopyFreeze_queued h
  | .twinCopyRx .. => execTwinCopyRx_queued h
  | .twinCopyDeadline .. => execTwinCopyDeadline_queued h
  | .twinGiveup .. => execTwinGiveup_queued h
  | .twinActInFall .. => execTwinActInFall_queued h
  | .twinActInRise .. => execTwinActInRise_queued h
  | .twinActConflict .. => execTwinActConflict_queued h
  | .twinTakeoverDone .. => execTwinTakeoverDone_queued h
  | .twinQuery .. => execTwinQuery_queued h
  | .twinSwitch .. => execTwinSwitch_queued h
  | .twinRejoin .. => execTwinRejoin_queued h
  | .vinValid t .. => execVinValid_queued (t := t) h
  | .earlyVinLoss t .. => execEarlyVinLoss_queued (t := t) h
  | .railOutOfLimits .. => execRailOutOfLimits_queued h
  | .railRestored .. => execRailRestored_queued h
  | .tempLevelChange .. => execTempLevelChange_queued h
  | .procMonSample .. => execProcMonSample_queued h
  | .tamperInput .. => execTamperInput_queued h
  | .xtal32Fail .. => execXtal32Fail_queued h
  | .xtal49Fail .. => execXtal49Fail_queued h
  | .xtal49Return .. => execXtal49Return_queued h
  | .xtal25Fail .. => execXtal25Fail_queued h
  | .meterWake .. => execMeterWake_queued h
  | .pwrQuery .. => execPwrQuery_queued h
  | .pwrMode .. => execPwrMode_queued h
  | .pwrIdent .. => execPwrIdent_queued h
  | .setupLock .. => execSetupLock_queued h
  | .settingsSaved .. => execSettingsSaved_queued h
  | .alertWrite .. => execAlertWrite_queued h
  | .registerWrite .. => execRegisterWrite_queued h
  | .xtal32Return .. => execXtal32Return_queued h
  | .refclkReturn .. => execRefclkReturn_queued h
  | .resetToReady .. => execResetToReady_queued h
  | .twinForwardedStop .. => execTwinForwardedStop_queued h

/-- Settles O5: `exec_queued` at the queue that waits in the state. -/
theorem everyCommandAnswers : Obligations.EveryCommandAnswers := fun _ c => exec_queued c rfl

end Sys2Proof.Machine
end

section
/-! SUPPORT and PROOFS. The islands: what one request at a target does (R14, R16, R29, R30), and what a crossing that is
not acknowledged does (R19). -/

namespace Sys2Proof.Machine

/-! ### Arithmetic of the fields -/

theorem trunc_satAdd (w a b : Nat) : trunc w (satAdd w a b) = satAdd w a b := by
  have := Nat.two_pow_pos w
  exact Nat.mod_eq_of_lt (by unfold satAdd; omega)

theorem iniCode_lt_four (i : Ini) : iniCode i < 4 := by cases i <;> decide

theorem iniCode_trunc (i : Ini) : trunc 4 (iniCode i) = iniCode i :=
  Nat.mod_eq_of_lt (Nat.lt_of_lt_of_le (iniCode_lt_four i) (by decide))

namespace State

variable {s t : State}

theorem rd_incSat_same (F : Fld) (n : Nat) : (s.incSat F n).rd F n = satAdd F.w (s.rd F n) 1 := by
  rw [incSat, addSat, rd_wr_same, trunc_satAdd]

@[simp] theorem incSat_arch (F : Fld) (n : Nat) : (s.incSat F n).arch = s.arch := rfl
@[simp] theorem incSat_out (F : Fld) (n : Nat) : (s.incSat F n).out = s.out := rfl
@[simp] theorem incSat_mtb (F : Fld) (n : Nat) : (s.incSat F n).mtb = s.mtb := rfl

@[simp] theorem noteServed_rd (x : Served) (F : Fld) (n : Nat) : (s.noteServed x).rd F n = s.rd F n := rfl
@[simp] theorem noteServed_mtb (x : Served) : (s.noteServed x).mtb = s.mtb := rfl
@[simp] theorem noteServed_served (x : Served) : (s.noteServed x).arch.served = s.arch.served ++ [x] := rfl
@[simp] theorem noteServed_linkRaised (x : Served) : (s.noteServed x).arch.linkRaised = s.arch.linkRaised := rfl

/-! ### Crossings -/

/-- A target as it is when it begins to serve: nothing noted yet, and asleep where it had stopped its clock. -/
def crossingStart (s : State) (k : Nat) (gated : Bool) : State :=
  let s := { s with arch := { s.arch with served := [] } }
  if gated then s.wr R.GLOBAL_ISLAND_STAT_ASLEEP k 1 else s

@[simp] theorem crossingStart_served (k : Nat) (g : Bool) : (s.crossingStart k g).arch.served = [] := by
  cases g <;> rfl

@[simp] theorem crossingStart_ledger (k : Nat) (g : Bool) : (s.crossingStart k g).ledger = s.ledger := by
  cases g <;> rfl

theorem crossingStart_rd (k : Nat) (g : Bool) (F : Fld) (m : Nat) (h : F.id ≠ R.GLOBAL_ISLAND_STAT_ASLEEP.id) :
    (s.crossingStart k g).rd F m = s.rd F m := by
  cases g
  · rfl
  · exact rd_wr_ne _ _ _ _ _ h

theorem crossingStart_flag (k : Nat) (g : Bool) (F : Fld) (m : Nat) (h : F.id ≠ R.GLOBAL_ISLAND_STAT_ASLEEP.id) :
    (s.crossingStart k g).flag F m = s.flag F m := by
  unfold flag; rw [crossingStart_rd k g F m h]

theorem crossingStart_asleep (k : Nat) (g : Bool) :
    (s.crossingStart k g).flag R.GLOBAL_ISLAND_STAT_ASLEEP k = (g || s.flag R.GLOBAL_ISLAND_STAT_ASLEEP k) := by
  cases g
  · rfl
  · exact flag_wr_same _ _ _

theorem crossingStart_calAllowed (k : Nat) (g : Bool) : (s.crossingStart k g).calAllowed = s.calAllowed := by
  unfold calAllowed; rw [crossingStart_ledger, crossingStart_flag _ _ _ _ (by decide)]

/-- When a request served from `from_` on is over (R16, R502): the free value gives the 3 ns to 6 ns of the crossing and
the up to 2 µs of a wake. -/
def crossingEnd (s : State) (k from_ : Nat) : Nat :=
  let v := Config.free s.fresh
  from_ + 3 + v % 4 + if s.flag R.GLOBAL_ISLAND_STAT_ASLEEP k then v / 4 % 2001 else 0

theorem crossingEnd_bounds (s : State) (k f : Nat) :
    f + 3 ≤ s.crossingEnd k f ∧ s.crossingEnd k f ≤ f + 6 + 2000 * b2n (s.flag R.GLOBAL_ISLAND_STAT_ASLEEP k) := by
  unfold crossingEnd
  cases s.flag R.GLOBAL_ISLAND_STAT_ASLEEP k <;> simp [b2n] <;> omega

/-- A request that is granted and lies in its areas is delivered, and the target is awake. -/
theorem serveXing_delivered {k : Nat} {x : Xing} (f : Nat) (hr : s.flag R.GLOBAL_ISLAND_STAT_READY k = true)
    (hg : granted (tagOf x) x.res x.write s.calAllowed x.src = true) (ha : areaRefused x = false) :
    (s.serveXing k f x).2 = (({ s with fresh := s.fresh + 1 } : State).wr R.GLOBAL_ISLAND_STAT_ASLEEP k 0).noteServed
      ⟨x.src, tagOf x, .delivered, s.crossingEnd k f, reservedValue x⟩ := by
  simp only [serveXing, hr, hg, ha, Bool.not_true, Bool.false_eq_true, if_false, takeFree]
  rfl

/-- A granted request of the MRAM outside its areas is refused at once (R14). -/
theorem serveXing_areaRefused {k : Nat} {x : Xing} (f : Nat) (hr : s.flag R.GLOBAL_ISLAND_STAT_READY k = true)
    (hg : granted (tagOf x) x.res x.write s.calAllowed x.src = true) (ha : areaRefused x = true) :
    (s.serveXing k f x).2 = s.noteServed ⟨x.src, tagOf x, .areaRefused, f, none⟩ := by
  simp only [serveXing, hr, hg, ha, Bool.not_true, Bool.false_eq_true, if_false, if_true]

/-- A request that the access matrix does not grant is denied at once (R29, R30). -/
theorem serveXing_denied {k : Nat} {x : Xing} (f : Nat) (hr : s.flag R.GLOBAL_ISLAND_STAT_READY k = true)
    (hg : granted (tagOf x) x.res x.write s.calAllowed x.src = false) :
    (s.serveXing k f x).2 =
      (s.partitionDenied (iniCode (tagOf x)) k x.res).noteServed ⟨x.src, tagOf x, .partitionDenied, f, none⟩ := by
  simp only [serveXing, hr, hg, Bool.not_true, Bool.not_false, Bool.false_eq_true, if_false, if_true]

/-- A denial outside the LEGAL and SAFE partitions is counted, with the initiator that made the request, and ends there. -/
theorem partitionDenied_spec (s : State) (i : Ini) (k : Nat) {r : Res} (hl : legalRes r = false) (hs : safeRes r = false) :
    (s.partitionDenied (iniCode i) k r).arch = s.arch ∧
      (s.partitionDenied (iniCode i) k r).rd R.GLOBAL_PART_VIOL_LAST_SRC = iniCode i ∧
      (s.partitionDenied (iniCode i) k r).rd R.GLOBAL_PART_VIOL_COUNT =
        satAdd R.GLOBAL_PART_VIOL_COUNT.w (s.rd R.GLOBAL_PART_VIOL_COUNT) 1 := by
  simp only [partitionDenied, hl, hs, Bool.false_eq_true, if_false]
  refine ⟨by simp, ?_, ?_⟩
  · rw [rd_wr_ne _ _ _ _ _ (by decide), rd_wr_same, iniCode_trunc]
  · rw [rd_wr_ne _ _ _ _ _ (by decide), rd_wr_ne _ _ _ _ _ (by decide), alert_rd _ _ _ (by decide), rd_incSat_same]

/-- A request that is granted and lies in its areas is delivered within the stated time, and the target is awake. -/
theorem crossing_delivered {k : Nat} (g : Bool) {x : Xing} (hr : s.flag R.GLOBAL_ISLAND_STAT_READY k = true)
    (hg : granted (tagOf x) x.res x.write s.calAllowed x.src = true) (ha : areaRefused x = false) :
    ∃ e, ((s.crossingStart k g).serveXing k s.mtb x).2.arch.served = [⟨x.src, tagOf x, .delivered, e, reservedValue x⟩] ∧
      s.mtb + 3 ≤ e ∧ e ≤ s.mtb + 6 + 2000 * b2n (g || s.flag R.GLOBAL_ISLAND_STAT_ASLEEP k) ∧
      ((s.crossingStart k g).serveXing k s.mtb x).2.rd R.GLOBAL_ISLAND_STAT_ASLEEP k = 0 := by
  rw [← crossingStart_flag k g _ _ (by decide)] at hr
  rw [← crossingStart_calAllowed k g] at hg
  obtain ⟨hlo, hhi⟩ := (s.crossingStart k g).crossingEnd_bounds k s.mtb
  rw [crossingStart_asleep] at hhi
  rw [serveXing_delivered _ hr hg ha]
  exact ⟨_, congrArg (· ++ _) (crossingStart_served k g), hlo, hhi, rd_wr_same _ _ _⟩

/-- A granted request of the MRAM outside its areas is refused at once. -/
theorem crossing_areaRefused {k : Nat} (g : Bool) {x : Xing} (hr : s.flag R.GLOBAL_ISLAND_STAT_READY k = true)
    (hg : granted (tagOf x) x.res x.write s.calAllowed x.src = true) (ha : areaRefused x = true) :
    ((s.crossingStart k g).serveXing k s.mtb x).2.arch.served = [⟨x.src, tagOf x, .areaRefused, s.mtb, none⟩] := by
  rw [← crossingStart_flag k g _ _ (by decide)] at hr
  rw [← crossingStart_calAllowed k g] at hg
  rw [serveXing_areaRefused _ hr hg ha, noteServed_served, crossingStart_served, List.nil_append]

/-- A request that is not granted is denied at once, and counted with the initiator that made it. -/
theorem crossing_denied {k : Nat} (g : Bool) {x : Xing} (hr : s.flag R.GLOBAL_ISLAND_STAT_READY k = true)
    (hg : granted (tagOf x) x.res x.write s.calAllowed x.src = false) (hl : legalRes x.res = false)
    (hs : safeRes x.res = false) :
    ((s.crossingStart k g).serveXing k s.mtb x).2.arch.served = [⟨x.src, tagOf x, .partitionDenied, s.mtb, none⟩] ∧
      ((s.crossingStart k g).serveXing k s.mtb x).2.rd R.GLOBAL_PART_VIOL_LAST_SRC = iniCode (tagOf x) ∧
      ((s.crossingStart k g).serveXing k s.mtb x).2.rd R.GLOBAL_PART_VIOL_COUNT =
        satAdd R.GLOBAL_PART_VIOL_COUNT.w (s.rd R.GLOBAL_PART_VIOL_COUNT) 1 := by
  rw [← crossingStart_flag k g _ _ (by decide)] at hr
  rw [← crossingStart_calAllowed k g] at hg
  obtain ⟨harch, hsrc, hcount⟩ := (s.crossingStart k g).partitionDenied_spec (tagOf x) k hl hs
  rw [crossingStart_rd _ _ _ _ (by decide)] at hcount
  rw [serveXing_denied _ hr hg, noteServed_served, harch, crossingStart_served]
  exact ⟨rfl, hsrc, hcount⟩

end State

/-- One request at a target is served from the event's instant on. -/
theorem exec_islandCrossing_one {s : State} {t k : Nat} {g : Bool} {x : Xing} (h : (s.advance t).core = true) (hk : k < 14) :
    exec (.islandCrossing t k g [x]) s =
      .next ((((s.advance t).crossingStart k g).serveXing k (s.advance t).mtb x).2) :=
  onCore_next _ rfl h (by rw [if_neg (by omega)]; cases g <;> rfl)

namespace State

variable {s t : State}

/-! ### The commands in flight -/

@[simp] theorem irq_inflight (v : Nat) : (s.irq v).host.inflight = s.host.inflight := by
  unfold irq; split <;> rfl

@[simp] theorem alert_inflight (F : Fld) : (s.alert F).host.inflight = s.host.inflight := by
  unfold alert
  extract_lets
  split
  · rw [irq_inflight]; rfl
  · rfl

@[simp] theorem notify_inflight (w : Notif) : (s.notify w).host.inflight = s.host.inflight := by
  have hswap : s.notifSwap.host.inflight = s.host.inflight := by unfold notifSwap; split <;> rfl
  rw [notify, irq_inflight, notifPut]
  extract_lets
  split
  · exact hswap
  · split
    · rw [alert_inflight]; exact hswap
    · exact hswap

@[simp] theorem coalesce_inflight (c v n us : Nat) (now : Bool) :
    (s.coalesce c v n us now).host.inflight = s.host.inflight := by
  unfold coalesce
  extract_lets
  split
  · rw [irq_inflight]
  · rfl

@[simp] theorem journal_inflight (e : Event) : (s.journal e).host.inflight = s.host.inflight := by
  unfold journal
  extract_lets
  split
  · rw [alert_inflight]; rfl
  · rfl

@[simp] theorem journalGot_inflight : s.journalGot.host.inflight = s.host.inflight := by
  unfold journalGot; split <;> rfl

@[simp] theorem putEvent_inflight (j : Nat) (e : Event) : (s.putEvent j e).host.inflight = s.host.inflight := by
  unfold putEvent
  extract_lets
  rw [coalesce_inflight, notify_inflight, journalGot_inflight]

@[simp] theorem deliver_inflight (e : Event) : (s.deliver e).host.inflight = s.host.inflight := by
  unfold deliver
  split
  · rfl
  · split
    · rfl
    · extract_lets
      split
      · rw [putEvent_inflight]
      · rfl

@[simp] theorem raise_inflight (c i : Nat) (p : List Nat) : (s.raise c i p).host.inflight = s.host.inflight := by
  unfold raise
  rw [deliver_inflight, journal_inflight]
  rfl

@[simp] theorem creditBack_inflight (c : Option Nat) : (s.creditBack c).host.inflight = s.host.inflight := by
  unfold creditBack
  split
  · rfl
  · split <;> rfl

@[simp] theorem putCompletion_inflight (c : Completion) (now : Bool) :
    (s.putCompletion c now).host.inflight = s.host.inflight := by
  unfold putCompletion
  extract_lets
  rw [coalesce_inflight, notify_inflight]

@[simp] theorem writeCompletion_inflight (c : Completion) (now : Bool) :
    (s.writeCompletion c now).host.inflight = s.host.inflight := by
  unfold writeCompletion
  split
  · exact journal_inflight _
  · split
    · split
      · exact putCompletion_inflight _ _
      · rfl
    · split
      · exact putCompletion_inflight _ _
      · rfl

/-- A completed command that is not merely accepted leaves the table of commands in flight (R46). -/
theorem complete_findInfl (x : Ctx) (st r : Nat) (h : st ≠ St.ACCEPTED) : (s.complete x st r).findInfl x.ring x.seq = none := by
  have hst : (st == St.ACCEPTED) = false := by simpa using h
  have hin : (s.complete x st r).host.inflight = s.host.inflight.filter fun e => !(e.ring == x.ring && e.seq == x.seq) := by
    unfold complete
    simp only [writeCompletion_inflight, syncCompleted, wr_host, setHist, creditBack_inflight, hst]
    rfl
  rw [findInfl, hin, List.find?_eq_none]
  intro e he
  simpa [imp_iff_not_or] using (List.mem_filter.1 he).2

theorem findInfl_congr (h : t.host.inflight = s.host.inflight) (r q : Nat) : t.findInfl r q = s.findInfl r q := by
  unfold findInfl; rw [h]

theorem findInfl_some {r q : Nat} {e : Infl} (h : s.findInfl r q = some e) : e.ring = r ∧ e.seq = q := by
  simpa using List.find?_some h

/-! ### Link time-outs -/

/-- The link error of a target is counted and alerted, and how the crossing ended is noted. -/
def linkCounted (s : State) (src dst : Nat) (i : Ini) : State :=
  ((s.incSat R.GLOBAL_ISLAND_STAT_LINK_ERR dst).alert R.GLOBAL_ALERT_LINK_TIMEOUT).noteServed ⟨src, i, .linkTimeout, s.mtb, none⟩

/-- The event of a link error, once in a control cycle for each pair of islands. -/
def linkRaise (s : State) (src dst : Nat) (i : Ini) : State :=
  if s.arch.linkRaised.contains (src, dst) then s else
  ({ s with arch := { s.arch with linkRaised := (src, dst) :: s.arch.linkRaised } } : State).raise
    Ev.ISLAND_LINK 0 [src, dst, iniCode i, s.rd R.GLOBAL_ISLAND_STAT_LINK_ERR dst, s.mtb]

theorem linkTimeout_eq (src dst : Nat) (i : Ini) (c : Option (Nat × Nat)) :
    s.linkTimeout src dst i c = (((s.linkCounted src dst i).linkRaise src dst i).notify
      ⟨4, dst, 1, ((s.linkCounted src dst i).linkRaise src dst i).rd R.GLOBAL_ISLAND_STAT_LINK_ERR dst⟩).linkCommand dst c := by
  unfold linkTimeout linkCounted linkRaise
  simp only [alert_mtb, incSat_mtb]
  rfl

theorem linkCounted_spec (src dst : Nat) (i : Ini) :
    (s.linkCounted src dst i).arch.linkRaised = s.arch.linkRaised ∧ (s.linkCounted src dst i).mtb = s.mtb ∧
      (s.linkCounted src dst i).host.inflight = s.host.inflight ∧
      (s.linkCounted src dst i).rd R.GLOBAL_ISLAND_STAT_LINK_ERR dst =
        satAdd R.GLOBAL_ISLAND_STAT_LINK_ERR.w (s.rd R.GLOBAL_ISLAND_STAT_LINK_ERR dst) 1 := by
  unfold linkCounted
  refine ⟨by simp, by simp, alert_inflight _, ?_⟩
  rw [noteServed_rd, alert_rd _ _ _ (by decide), rd_incSat_same]

theorem linkRaise_inflight (src dst : Nat) (i : Ini) : (s.linkRaise src dst i).host.inflight = s.host.inflight := by
  unfold linkRaise
  split
  · rfl
  · exact raise_inflight _ _ _

theorem linkRaise_rd (src dst : Nat) (i : Ini) (F : Fld) (n : Nat) (h : F.id ∉ raiseIds) :
    (s.linkRaise src dst i).rd F n = s.rd F n := by
  unfold linkRaise
  split
  · rfl
  · exact raise_rd _ _ _ _ _ h

theorem linkRaise_told {src dst : Nat} (i : Ini) (h : s.arch.linkRaised.contains (src, dst) = false) :
    (s.linkRaise src dst i).told =
      some (Ev.ISLAND_LINK, 0, [src, dst, iniCode i, s.rd R.GLOBAL_ISLAND_STAT_LINK_ERR dst, s.mtb]) := by
  rw [linkRaise, if_neg (by simp only [h, Bool.false_eq_true, not_false_eq_true]), raise_told]

/-- The first link error of a pair of islands in a control cycle: it is counted, and its event names the count. -/
theorem linkTimeout_first {src dst : Nat} (i : Ini) (h : s.arch.linkRaised.contains (src, dst) = false) :
    (s.linkTimeout src dst i none).rd R.GLOBAL_ISLAND_STAT_LINK_ERR dst =
        satAdd R.GLOBAL_ISLAND_STAT_LINK_ERR.w (s.rd R.GLOBAL_ISLAND_STAT_LINK_ERR dst) 1 ∧
      (s.linkTimeout src dst i none).told = some (Ev.ISLAND_LINK, 0,
        [src, dst, iniCode i, (s.linkTimeout src dst i none).rd R.GLOBAL_ISLAND_STAT_LINK_ERR dst, s.mtb]) := by
  obtain ⟨hraised, hmtb, -, hcount⟩ := linkCounted_spec (s := s) src dst i
  have hrd : (s.linkTimeout src dst i none).rd R.GLOBAL_ISLAND_STAT_LINK_ERR dst =
      (s.linkCounted src dst i).rd R.GLOBAL_ISLAND_STAT_LINK_ERR dst := by
    rw [linkTimeout_eq, linkCommand, (quiet_notify _).1.regs _ _ (by decide), linkRaise_rd _ _ _ _ _ (by decide)]
  refine ⟨hrd.trans hcount, ?_⟩
  rw [hrd, linkTimeout_eq, linkCommand, (quiet_notify _).2, linkRaise_told i (hraised ▸ h), hmtb]

/-- The ring command whose crossing was not acknowledged completes LINK_TIMEOUT and is in flight no more. -/
theorem linkTimeout_command {src dst r q : Nat} (i : Ini) {e : Infl} (he : s.findInfl r q = some e)
    (ha : e.accepted = false) (hb : blockIsland (e.op / 256) = dst) :
    ((s.linkTimeout src dst i (some (r, q))).histOf r q).map (·.status) = some St.LINK_TIMEOUT ∧
      (s.linkTimeout src dst i (some (r, q))).findInfl r q = none := by
  rw [linkTimeout_eq]
  generalize hw : (s.linkCounted src dst i).linkRaise src dst i = w
  have hin : w.host.inflight = s.host.inflight := by
    rw [← hw, linkRaise_inflight, (linkCounted_spec src dst i).2.2.1]
  have hf : ∀ n, (w.notify n).findInfl r q = some e := fun n =>
    (findInfl_congr ((notify_inflight n).trans hin) r q).trans he
  obtain ⟨rfl, rfl⟩ := findInfl_some he
  simp only [linkCommand, hf, ha, hb, bne_self_eq_false, Bool.or_self, Bool.false_eq_true, if_false]
  exact ⟨complete_answer ⟨_, e.ring, e.seq, e.tag, e.flags, e.cask⟩ St.LINK_TIMEOUT 0,
    complete_findInfl ⟨_, e.ring, e.seq, e.tag, e.flags, e.cask⟩ St.LINK_TIMEOUT 0 (by decide)⟩

end State

theorem exec_linkTimeout {s : State} {t src dst : Nat} {i : Ini} {c : Option (Nat × Nat)} (h : (s.advance t).core = true)
    (hd : dst < 14) : exec (.linkTimeout t src dst i c) s = .next ((s.advance t).linkTimeout src dst i c) :=
  onCore_next _ rfl h (if_neg (by omega))

end Sys2Proof.Machine
end

section
/-! SUPPORT and PROOFS. The RTC second edge and the control cycle: its start, its two deadlines (R24 to R27), and the
statement on the events of the architecture. -/

namespace Sys2Proof.Machine
namespace State

variable {s : State}

/-! ### The RTC second edge -/

/-- The state after an RTC second edge that comes `n` seconds after the one before. -/
def secondsOn (s : State) (n : Nat) : State :=
  (((s.wr R.GLOBAL_MTB_UTC_UTC_SEC 0 (s.rd R.GLOBAL_MTB_UTC_UTC_SEC + n)).wr
    R.GLOBAL_MTB_UTC_MTB_AT_SEC 0 s.mtb).freqEdge).billEdge

theorem secondsOn_eq (s : State) (n : Nat) : s.secondsOn n =
    (let s := s.wr R.GLOBAL_MTB_UTC_UTC_SEC 0 (s.rd R.GLOBAL_MTB_UTC_UTC_SEC + n)
     ((s.wr R.GLOBAL_MTB_UTC_MTB_AT_SEC 0 s.mtb).freqEdge).billEdge) := rfl

theorem secondEdge_eq (s : State) :
    s.secondEdge = s.secondsOn (max 1 (divRound ((s.mtb : Int) - s.atSec).toNat (10 ^ 9))) := by
  rw [secondsOn_eq]
  rfl
/-! ### The start of a control cycle -/

theorem refreshSafeOk_arch : s.refreshSafeOk.arch = s.arch := by
  unfold refreshSafeOk
  extract_lets
  split
  · rfl
  · exact alert_arch _

theorem refreshSafeOk_safe : s.refreshSafeOk.safe = s.safe := by
  unfold refreshSafeOk
  extract_lets
  split
  · rfl
  · exact alert_safe _

/-- The control cycle's own part of the state as METRO latches it at the start (R25, R27). -/
def cycleArch (s : State) : ArchSt :=
  { s.arch with
    cycleStart := s.mtb / 10 ^ 6 * 10 ^ 6, linkRaised := [], overrunRaised := false, deadline := false, staged := 0,
    withhold := false, safeAlive := if !s.arch.withhold then !s.arch.safeAlive else s.arch.safeAlive }

/-- Channel B's part at the start: the snapshots, and when SAFE_ALIVE was last seen to change. -/
def cycleSafe (s : State) : SafeSt :=
  { s.safe with snaps := (List.range 12).map s.snapOf, aliveAt := if !s.arch.withhold then s.mtb else s.safe.aliveAt }

theorem cycleBegin_parts : s.cycleBegin.arch = s.cycleArch ∧ s.cycleBegin.safe = s.cycleSafe := by
  unfold cycleBegin
  extract_lets _ toggle _ _ _ _ s1 _ s2
  have h2 : s2.arch = s.cycleArch ∧ s2.safe = s.cycleSafe := by
    unfold s2
    split <;> exact ⟨rfl, rfl⟩
  split
  · rw [refreshSafeOk_arch, refreshSafeOk_safe]
    exact h2
  · exact h2

/-! ### The staging deadline -/

theorem passStaged_outlet_same (n : Nat) : (s.passStaged n).outlet n = { s.outlet n with
    outNext := (s.outlet n).outStaged.or (s.outlet n).outNext, outStaged := none,
    setPoint := (s.outlet n).setStaged.getD (s.outlet n).setPoint, setStaged := none } := by
  simp only [passStaged, modOutlet, outlet, Tab.upd, Tab.get_put, if_true]
  cases (s.out.outlets.get Outlet.init n).outStaged <;> rfl

theorem passStaged_outlet_ne {n m : Nat} (h : m ≠ n) : (s.passStaged n).outlet m = s.outlet m := by
  simp only [passStaged, modOutlet, outlet, Tab.upd, Tab.get_put, h, if_false]

theorem passStaged_arch (n : Nat) : (s.passStaged n).arch = s.arch := rfl

theorem passStaged_out_congr {t : State} (h : s.out = t.out) (n : Nat) : (s.passStaged n).out = (t.passStaged n).out := by
  unfold passStaged modOutlet; rw [h]

/-- What the staging deadline does for an outlet that has staged in time (R26). -/
def stageOne (n : Nat) (s : State) : State :=
  let s := s.passStaged n
  { s with arch := { s.arch with staged := setBit s.arch.staged n, overruns := s.arch.overruns.put 0 n 0 } }

theorem stageOne_outlet_ne {n m : Nat} (h : m ≠ n) : (stageOne n s).outlet m = s.outlet m := passStaged_outlet_ne h

theorem stageOne_overruns (n m : Nat) :
    (stageOne n s).arch.overruns.get 0 m = if m = n then 0 else s.arch.overruns.get 0 m := by
  simp [stageOne, passStaged_arch]

/-- The outlets that have staged, one after the other. -/
def stageAll (ns : List Nat) (s : State) : State := forEach ns stageOne s

theorem stageAll_cons (n : Nat) (ns : List Nat) : stageAll (n :: ns) s = stageAll ns (stageOne n s) := rfl

theorem stageAll_out (ns : List Nat) : ∀ {s t : State}, s.out = t.out →
    (stageAll ns s).out = (ns.foldl (fun (b : State) n => b.passStaged n) t).out := by
  induction ns with
  | nil => exact id
  | cons n ns ih => exact fun h => ih (passStaged_out_congr h n)

theorem stageAll_overruns (ns : List Nat) (m : Nat) : ∀ {s : State},
    (stageAll ns s).arch.overruns.get 0 m = if m ∈ ns then 0 else s.arch.overruns.get 0 m := by
  induction ns with
  | nil => simp [stageAll, forEach]
  | cons n ns ih =>
    intro s
    rw [stageAll_cons, ih, stageOne_overruns]
    by_cases h : m = n <;> simp [h]

/-- Passing staged outputs on leaves what else the cycle keeps, and every outlet that has not staged. -/
theorem stageAll_frame (ns : List Nat) : ∀ {s : State}, (stageAll ns s).arch.deadline = s.arch.deadline ∧
    (stageAll ns s).arch.cycleStart = s.arch.cycleStart ∧ (stageAll ns s).arch.overrunRaised = s.arch.overrunRaised ∧
    ∀ m, m ∉ ns → (stageAll ns s).outlet m = s.outlet m := by
  induction ns with
  | nil => exact ⟨rfl, rfl, rfl, fun _ _ => rfl⟩
  | cons n ns ih =>
    intro s
    obtain ⟨hd, hc, hr, ho⟩ := ih (s := stageOne n s)
    refine ⟨hd, hc, hr, fun m hm => ?_⟩
    rw [List.mem_cons, not_or] at hm
    exact (ho m hm.2).trans (stageOne_outlet_ne hm.1)

/-- The cycle with its staging deadline behind it. -/
def atDeadline (s : State) : State := { s with arch := { s.arch with deadline := true } }

/-- The late outlets' overruns in a row are counted. -/
def overrunCount (ns : List Nat) (s : State) : State :=
  { s with arch := { s.arch with overruns := ns.foldl (fun (t : Tab Nat) n => t.upd 0 n (· + 1)) s.arch.overruns } }

/-- The most overruns in a row among the late outlets. -/
def worstOverrun (ns : List Nat) (s : State) : Nat := ns.foldl (fun m n => max m (s.arch.overruns.get 0 n)) 0

/-- The first overrun of a control cycle is counted and raised. -/
def overrunRaise (late worst : Nat) (s : State) : State :=
  if s.arch.overrunRaised then s else
  (({ s with arch := { s.arch with overrunRaised := true } } : State).incSat R.GLOBAL_ISLAND_STAT_OVR 1).raise
    Ev.CYCLE_OVERRUN 0 [s.arch.cycleStart, late % 256, worst]

/-- From the third overrun in a row on, an outlet's session goes to MSTOP. -/
def overrunStop (ns : List Nat) (s : State) : State :=
  forEach (ns.filter fun n => decide (3 ≤ s.arch.overruns.get 0 n)) (fun n s =>
    if [SessState.ready, .energy, .paused].contains (s.outlet n).st then
      let (v, s) := s.takeFree
      s.stopSession n (1 + v % 21)
    else s) s

/-- The first staging deadline of a control cycle: the outlets that have staged pass on, then the late ones overrun. -/
theorem stagingDeadline_eq {late : Nat} {ns : List Nat} {w : State} (h : s.arch.deadline = false)
    (hns : (List.range 8).filter (bit late ·) = ns)
    (hw : stageAll ((List.range 8).filter fun n => !bit late n) s.atDeadline = w) :
    s.stagingDeadline late = if ns = [] then w else
      overrunStop ns (overrunRaise late (worstOverrun ns (overrunCount ns w)) (overrunCount ns w)) := by
  subst hns hw
  rw [stagingDeadline, h]
  rfl

/-- Where every outlet has staged, the staged outputs pass on and nothing else happens. -/
theorem stagingDeadline_inTime (h : s.arch.deadline = false) :
    s.stagingDeadline 0 = stageAll (List.range 8) s.atDeadline :=
  stagingDeadline_eq (ns := []) h (by decide) rfl

theorem overrunRaise_told {late worst : Nat} (h : s.arch.overrunRaised = false) :
    (overrunRaise late worst s).told = some (Ev.CYCLE_OVERRUN, 0, [s.arch.cycleStart, late % 256, worst]) := by
  rw [overrunRaise, h]
  exact raise_told _ _ _

theorem overrunRaise_frame (late worst : Nat) :
    (overrunRaise late worst s).arch.overruns = s.arch.overruns ∧ (overrunRaise late worst s).out = s.out := by
  unfold overrunRaise
  split
  · exact ⟨rfl, rfl⟩
  · simp

theorem overrunStop_none {ns : List Nat} (h : ∀ n ∈ ns, s.arch.overruns.get 0 n < 3) : overrunStop ns s = s := by
  have hnil : (ns.filter fun n => decide (3 ≤ s.arch.overruns.get 0 n)) = [] :=
    List.filter_eq_nil_iff.2 fun n hn => by simpa using h n hn
  rw [overrunStop, hnil]
  rfl

/-- Outlet 0 alone has not staged, for the first time in a row, in a cycle that has raised no overrun: it is counted and
raised, and the outlet keeps its outputs. -/
theorem stagingDeadline_late0 (h : s.arch.deadline = false) (hr : s.arch.overrunRaised = false)
    (h0 : s.arch.overruns.get 0 0 = 0) :
    (s.stagingDeadline 1).told = some (Ev.CYCLE_OVERRUN, 0, [s.arch.cycleStart, 1, 1]) ∧
      (s.stagingDeadline 1).arch.overruns.get 0 0 = 1 ∧ (s.stagingDeadline 1).outlet 0 = s.outlet 0 := by
  have hin : ((List.range 8).filter fun n => !bit 1 n) = [1, 2, 3, 4, 5, 6, 7] := by decide
  obtain ⟨-, hcycle, hraised, hout⟩ := stageAll_frame [1, 2, 3, 4, 5, 6, 7] (s := s.atDeadline)
  have hover := stageAll_overruns [1, 2, 3, 4, 5, 6, 7] 0 (s := s.atDeadline)
  rw [stagingDeadline_eq (ns := [0]) h (by decide) (congrArg (stageAll · s.atDeadline) hin), if_neg (by simp)]
  generalize stageAll [1, 2, 3, 4, 5, 6, 7] s.atDeadline = w at *
  have hone : (overrunCount [0] w).arch.overruns.get 0 0 = 1 := by
    simpa [overrunCount, Tab.upd] using hover.trans h0
  have hworst : worstOverrun [0] (overrunCount [0] w) = 1 := by simp [worstOverrun, hone]
  obtain ⟨hkeep, hsame⟩ := overrunRaise_frame 1 1 (s := overrunCount [0] w)
  rw [hworst, overrunStop_none (by simp [hkeep, hone])]
  refine ⟨?_, hkeep ▸ hone, ?_⟩
  · rw [overrunRaise_told (s := overrunCount [0] w) (hraised.trans hr)]
    exact congrArg (fun c => some (Ev.CYCLE_OVERRUN, 0, [c, 1, 1])) hcycle
  · rw [outlet, hsame]
    exact hout 0 (by decide)

end State

theorem exec_outputStagingDeadline {s : State} {t l : Nat} (h : (s.advance t).up = true)
    (hc : (s.advance t).arch.cycleStart + 450000 ≤ (s.advance t).mtb) :
    exec (.outputStagingDeadline t l) s = .next ((s.advance t).stagingDeadline l) :=
  onEvent_next _ rfl h (if_neg (by omega))


theorem exec_rtcSecondEdge {s : State} {t : Nat} (h : (s.advance t).core = true) :
    exec (.rtcSecondEdge t) s = .next ((s.advance t).secondsOn
      (max 1 (divRound (((s.advance t).mtb : Int) - (s.advance t).atSec).toNat (10 ^ 9)))) :=
  onCore_next _ rfl h (State.secondEdge_eq _)

/-- A control cycle that is not due does nothing: the MTB is still in the millisecond of the last one. -/
theorem exec_controlCycleStart_early {s : State} {t : Nat} {v : List Feed}
    (h : (s.advance t).mtb / 10 ^ 6 * 10 ^ 6 ≤ (s.advance t).arch.cycleStart) :
    exec (.controlCycleStart t v) s = .next (s.advance t) := by
  show Host.Outcome.next (onEvent s t _) = _
  simp only [onEvent, if_pos h, ite_self]

theorem exec_controlCycleStart_due {s : State} {t : Nat} {v : List Feed} (hu : (s.advance t).up = true)
    (h : (s.advance t).arch.cycleStart < (s.advance t).mtb / 10 ^ 6 * 10 ^ 6) :
    exec (.controlCycleStart t v) s = .next ((s.advance t).controlCycle v) :=
  onEvent_next _ rfl hu (if_neg (Nat.not_le.2 h))

/-- Channel A withholds the next edge of SAFE_ALIVE where its checks are not done in time (R27). -/
theorem exec_aCheckDeadline {s : State} {t : Nat} {d : Bool} (hu : (s.advance t).up = true)
    (h : (s.advance t).arch.cycleStart + 300000 ≤ (s.advance t).mtb) :
    exec (.aCheckDeadline t d) s = .next { s.advance t with
      arch := { (s.advance t).arch with withhold := (s.advance t).arch.withhold || !d } } := by
  refine onEvent_next _ rfl hu ?_
  simp only [decide_eq_false (Nat.not_lt.2 h), Bool.false_or]
  cases d
  · rw [Bool.not_false, Bool.or_true]
    rfl
  · rw [Bool.not_true, Bool.or_false]
    rfl

/-- Settles O19: each clause is the law of its own event, at the state the event's instant finds; of a crossing the end
lies within the bounds of `State.crossingEnd`, and a deadline's effect goes outlet by outlet (`State.stageAll`). -/
theorem architectureEvents : Obligations.ArchitectureEvents := by
  unfold Obligations.ArchitectureEvents
  refine ⟨?_, ?_, ?_, ?_, ?_, fun _ _ => exec_rtcSecondEdge, fun _ _ _ => exec_controlCycleStart_due,
    fun _ _ _ => exec_controlCycleStart_early, ?_, ?_, ?_, ?_, fun _ _ _ => exec_aCheckDeadline⟩
  · intro s t k g x a hc hk hr hg ha
    obtain ⟨e, hserved, hlo, hhi, hawake⟩ := State.crossing_delivered g hr hg ha
    refine ⟨_, exec_islandCrossing_one hc hk, hawake, ?_, congrArg List.length hserved⟩
    rw [hserved]
    simpa using And.intro hlo hhi
  · intro s t k g x a hc hk hr hg ha
    exact ⟨_, exec_islandCrossing_one hc hk, State.crossing_areaRefused g hr hg ha⟩
  · intro s t k g x a hc hk hr hg hl hs
    exact ⟨_, exec_islandCrossing_one hc hk, State.crossing_denied g hr hg hl hs⟩
  · intro s t src dst i a hc hd hl
    exact ⟨_, exec_linkTimeout hc hd, State.linkTimeout_first i hl⟩
  · intro s t src dst r q i e a hc hd he ha hb
    exact ⟨_, exec_linkTimeout hc hd, State.linkTimeout_command i he ha hb⟩
  · intro s
    obtain ⟨harch, hsafe⟩ := State.cycleBegin_parts (s := s)
    rw [harch, hsafe]
    cases hw : s.arch.withhold <;> simp [State.cycleArch, State.cycleSafe, hw]
  · intro s t a hu hc hd
    refine ⟨_, exec_outputStagingDeadline hu hc, ?_⟩
    rw [State.stagingDeadline_inTime hd]
    refine ⟨congrArg OutSt.outlets (State.stageAll_out _ rfl), ?_, (State.stageAll_frame _).1⟩
    refine List.all_eq_true.2 fun n hn => ?_
    rw [State.stageAll_overruns, if_pos hn]
    rfl
  · rintro s t l a hu hc hd rfl hr h0
    exact ⟨_, exec_outputStagingDeadline hu hc, State.stagingDeadline_late0 hd hr h0⟩
  · intro s n
    rw [State.passStaged_outlet_same]
    refine ⟨?_, rfl, rfl⟩
    cases (s.outlet n).outStaged <;> rfl

end Sys2Proof.Machine
end

section
/-! SUPPORT and PROOFS. A start whose boot pointer is in state TRIAL after its third start (R466, R468, R469): it stays in
the boot ROM where the slot it reverts to does not verify, whatever the register BOOT_STATE showed before. -/

namespace Sys2Proof.Machine
namespace State

variable {s : State}

theorem ptrLoad_phase : s.ptrLoad.phase = s.phase := by
  unfold ptrLoad
  split
  · rfl
  · rfl

theorem updGo_phase (new status : Nat) : (s.updGo new status).phase = s.phase := by
  unfold updGo
  extract_lets _ s1
  rw [raise_phase, wr_phase]
  unfold s1
  split <;> rfl

theorem revertPointer_phase (cause : Nat) : (s.revertPointer cause).phase = s.phase := by
  unfold revertPointer
  extract_lets _ _ s1 _ s2 s3 _
  have h1 : s1.phase = s.phase := by
    unfold s1
    split <;> rfl
  have h3 : s3.phase = s2.updForget.phase := updGo_phase _ _
  calc s3.phase = s2.phase := h3
    _ = s1.phase := rfl
    _ = s.phase := h1

/-- A pointer in state TRIAL that has been started three times reverts without starting the trial image (R466). -/
theorem trialStart_spent {b : BootIn} (ht : s.ptrLoad.rd R.UPD_BOOT_BOOT_STATE = 1)
    (hk : 3 ≤ s.ptrLoad.rd R.UPD_BOOT_TRIAL_STARTS) : s.trialStart b = (true, s.ptrLoad.revertPointer 0) := by
  simp only [trialStart, ht, bne_self_eq_false, Bool.false_eq_true, if_false, if_pos hk]

/-- Such a start stays in the boot ROM where the slot it reverts to does not verify (R469). -/
theorem startUp_spent {b : BootIn} (hv : s.phase = .vinValid) (hx : b.xtal25 = true) (ho : b.otherOk = false)
    (ht : s.ptrLoad.rd R.UPD_BOOT_BOOT_STATE = 1) (hk : 3 ≤ s.ptrLoad.rd R.UPD_BOOT_TRIAL_STARTS) :
    (s.startUp b).phase = .vinValid := by
  have hrun : imageRuns b true = false := by simp [imageRuns, ho]
  have hgo : (s.phase != .vinValid || !b.xtal25) = false := by simp [hv, hx]
  simp only [startUp, hgo, trialStart_spent ht hk, hrun, Bool.not_false, Bool.false_eq_true, if_false, if_true]
  rw [revertPointer_phase, ptrLoad_phase, hv]

/-- VIN is valid, BOOT_STATE reads CONFIRMED, and the boot pointer in MRAM is in state TRIAL after three starts. -/
def spentTrial : State :=
  let trial := (State.reset.wr R.UPD_BOOT_BOOT_STATE 0 1).wr R.UPD_BOOT_TRIAL_STARTS 0 3
  { State.reset with phase := .vinValid, upd := trial.ptrWrite.upd }

end State

/-- A start at which the active slot verifies and the other one does not. -/
def onlyActiveVerifies : BootIn :=
  ⟨true, true, true, 0, [], true, true, [], true, false, true, none, [], [], ⟨50, 1, [], [], [], []⟩, true, [], []⟩

theorem startUp_spentTrial : ((State.spentTrial.advance 0).startUp onlyActiveVerifies).phase = .vinValid :=
  State.startUp_spent rfl rfl rfl (by decide) (by decide)

/-- Refutes O53: its clause on a start whose active slot verifies reads BOOT_STATE in the register before the boot ROM
has loaded the pointer from MRAM. In `State.spentTrial` that register is 0 and the pointer is in state TRIAL after three
starts: the start reverts, and with the other slot not verifying the module does not come to run. -/
theorem not_startAndStop : ¬ Obligations.StartAndStop := by
  unfold Obligations.StartAndStop
  rintro ⟨-, -, -, -, -, -, -, -, hstart, -⟩
  obtain ⟨u, hnext, hruns, -⟩ := hstart State.spentTrial 0 onlyActiveVerifies rfl rfl rfl (by decide)
  have hu : u = (State.spentTrial.advance 0).startUp onlyActiveVerifies := by
    injection hnext with h
    exact h.symm
  rw [hu, startUp_spentTrial] at hruns
  exact absurd hruns (by decide)

end Sys2Proof.Machine
end

section
/-! SUPPORT. What interrupts, notifications, events and completions leave as it is inside the HOST island's own part: its
state after each is the one before but for the parts named here. -/

namespace Sys2Proof.Machine
namespace State

variable {s t u : State}

/-- Of the HOST island's own part only what signals an entry to the host is changed: interrupts, notification words and
coalescing (R46, R57). -/
def Signalled (s t : State) : Prop :=
  t.host = { s.host with
    irqs := t.host.irqs, pba := t.host.pba, notifFill := t.host.notifFill, notifDrain := t.host.notifDrain,
    coal := t.host.coal }

/-- Of the HOST island's own part only what writing an event or a completion can touch is changed: beside the signals, the
journal, the device sequence numbers, the two kinds of ring and what waits for room in them. -/
def Posted (s t : State) : Prop :=
  t.host = { s.host with
    irqs := t.host.irqs, pba := t.host.pba, notifFill := t.host.notifFill, notifDrain := t.host.notifDrain,
    coal := t.host.coal, journal := t.host.journal, seqNext := t.host.seqNext, seqBlocks := t.host.seqBlocks,
    cplMem := t.host.cplMem, cplProd := t.host.cplProd, stopHeld := t.host.stopHeld, cplHeld := t.host.cplHeld,
    evMem := t.host.evMem, evProd := t.host.evProd, gaps := t.host.gaps }

theorem Signalled.trans (h : Signalled s t) (k : Signalled t u) : Signalled s u := by
  unfold Signalled at *
  rw [k, h]

theorem Signalled.posted (h : Signalled s t) : Posted s t := by
  unfold Signalled Posted at *
  rw [h]

theorem Signalled.journal (h : Signalled s t) : t.host.journal = s.host.journal := by
  unfold Signalled at h
  rw [h]

theorem Posted.trans (h : Posted s t) (k : Posted t u) : Posted s u := by
  unfold Posted at *
  rw [k, h]

theorem Posted.inflight (h : Posted s t) : t.host.inflight = s.host.inflight := by unfold Posted at h; rw [h]
theorem Posted.hist (h : Posted s t) : t.host.hist = s.host.hist := by unfold Posted at h; rw [h]
theorem Posted.cmdFetch (h : Posted s t) : t.host.cmdFetch = s.host.cmdFetch := by unfold Posted at h; rw [h]

/-! ### Signals -/

theorem irq_signalled (v : Nat) : Signalled s (s.irq v) := by
  unfold irq
  split <;> rfl

theorem alert_signalled (F : Fld) : Signalled s (s.alert F) := by
  unfold alert
  extract_lets _ s₁
  split
  · exact irq_signalled (s := s₁) _
  · rfl

theorem notifSwap_signalled : Signalled s s.notifSwap := by
  unfold notifSwap
  split <;> rfl

theorem notifPut_signalled (w : Notif) : Signalled s (s.notifPut w) := by
  unfold notifPut
  extract_lets h full s₁
  have h₁ : Signalled s s₁ := rfl
  split
  · rfl
  · split
    · exact h₁.trans (alert_signalled (s := s₁.incSat R.HOST_NOTIF_STAT_LOST 0) R.GLOBAL_ALERT_NOTIF_LOST)
    · exact h₁

theorem notify_signalled (w : Notif) : Signalled s (s.notify w) :=
  (notifSwap_signalled.trans (notifPut_signalled w)).trans (irq_signalled 0)

theorem notifIrq_signalled : Signalled s s.notifIrq := by
  unfold notifIrq
  split
  · rfl
  · exact irq_signalled 0

theorem coalesce_signalled (c v n us : Nat) (now : Bool) : Signalled s (s.coalesce c v n us now) := by
  unfold coalesce
  extract_lets _ k
  split
  · exact Signalled.trans (t := { s with host := { s.host with coal := s.host.coal.put ⟨0, 0⟩ c ⟨0, 0⟩ } }) rfl
      (irq_signalled v)
  · rfl

/-! ### Events -/

theorem issueSeq_posted : Posted s s.issueSeq.2 := rfl

theorem journal_posted (e : Event) : Posted s (s.journal e) := by
  unfold journal
  extract_lets _ _ _ _ _ s₁
  have h₁ : Posted s s₁ := rfl
  split
  · exact h₁.trans (alert_signalled (s := s₁.incSat R.HOST_SYNC_GLOBAL_JRN_LOST 0) R.GLOBAL_ALERT_JOURNAL_LOST).posted
  · exact h₁

theorem journalGot_posted : Posted s s.journalGot := by
  unfold journalGot
  split <;> rfl

theorem putEvent_posted (j : Nat) (e : Event) : Posted s (s.putEvent j e) := by
  unfold putEvent
  extract_lets _ _ _ _ s₁
  have h₁ : Posted s s₁ := rfl
  exact ((h₁.trans journalGot_posted).trans (notify_signalled _).posted).trans (coalesce_signalled _ _ _ _ _).posted

theorem deliver_posted (e : Event) : Posted s (s.deliver e) := by
  unfold deliver
  split
  · rfl
  · split
    · rfl
    · extract_lets
      split
      · exact putEvent_posted _ _
      · rfl

theorem raise_posted (code inst : Nat) (p : List Nat) : Posted s (s.raise code inst p) :=
  (issueSeq_posted.trans (journal_posted _)).trans (deliver_posted _)

/-! ### Completions -/

theorem putCompletion_posted (c : Completion) (now : Bool) : Posted s (s.putCompletion c now) := by
  unfold putCompletion
  extract_lets _ _ _ _ s₁
  have h₁ : Posted s s₁ := rfl
  exact (h₁.trans (notify_signalled _).posted).trans (coalesce_signalled _ _ _ _ _).posted

theorem writeCompletion_posted (c : Completion) (now : Bool) : Posted s (s.writeCompletion c now) := by
  unfold writeCompletion
  split
  · exact journal_posted _
  · split
    · split
      · exact putCompletion_posted c now
      · rfl
    · split
      · exact putCompletion_posted c now
      · rfl

end State
end Sys2Proof.Machine
end

section
/-! SUPPORT and PROOFS. What a completion and an event do, and what they leave unchanged (R45, R46, R52 to R55, R64). -/

namespace Sys2Proof.Machine
namespace State

variable {s t : State}

/-! ### Device sequence numbers -/

/-- Device sequence numbers have 32 bits, and 0 is never issued (R54). -/
theorem issueSeq_bounds (s : State) : s.issueSeq.1 ≠ 0 ∧ s.issueSeq.1 < 2 ^ 32 := by
  simp only [issueSeq]
  split <;> omega

theorem issueSeq_eq (s : State) (h : s.host.seqNext % 2 ^ 32 ≠ 0) : s.issueSeq.1 = s.host.seqNext % 2 ^ 32 := if_neg h

theorem issueSeq_high (s : State) : s.issueSeq.2.rd R.HOST_SYNC_GLOBAL_DEV_SEQ_HIGH = s.issueSeq.1 :=
  (rd_wr_same _ _ _).trans (Nat.mod_eq_of_lt s.issueSeq_bounds.2)

/-! ### Frames -/

/-- A frame of the register fields and of all parts but the HOST island's own. -/
theorem leaves_host {ids : List Nat} {fs : List Fld} (hr : RegsBut ids s t) (ho : HostOnly s t)
    (hi : ∀ i ∈ ids, i ∈ fs.map Fld.id) : s.leaves [.host] fs t := by
  refine ⟨ho.pending, fun p hp => ?_, fun F n hF => hr F n fun hF' => hF (hi _ hF')⟩
  rw [ho]
  cases p with
  | host => exact absurd (List.mem_singleton_self _) hp
  | _ => rfl

/-! ### Completions -/

/-- What a completion does after its device sequence number has been taken: its history entry is written, and then the
completion itself. -/
theorem complete_eq (x : Ctx) (st r : Nat) : ∃ c,
    s.complete x st r = ((((s.issueSeq.2.settleInfl x.ring x.seq (st == St.ACCEPTED)).creditBack c).setHist x.ring x.seq
      (if st = St.ACCEPTED then St.PENDING else st) s.issueSeq.1).syncCompleted x.ring).writeCompletion
        ⟨s.issueSeq.1, x.seq, x.tag, st, x.ring, trunc 96 r⟩ (bit x.flags 2) :=
  ⟨_, rfl⟩

theorem complete_high (x : Ctx) (st r : Nat) :
    (s.complete x st r).rd R.HOST_SYNC_GLOBAL_DEV_SEQ_HIGH = s.issueSeq.1 := by
  obtain ⟨c, h⟩ := complete_eq (s := s) x st r
  rw [h, (quiet_writeCompletion _ _).regs _ _ (by decide), (quiet_syncCompleted _).regs _ _ (by decide),
    (loud_setHist _ _ _ _).regs _ _ (by decide), (quiet_creditBack _).1.regs _ _ (by decide),
    (quiet_settleInfl _ _ _).regs _ _ (by decide), issueSeq_high]

/-- Of the histories a completion writes the entry of its own number alone (R52). -/
theorem complete_hist (x : Ctx) (st r : Nat) : ∃ h,
    (s.complete x st r).host.hist = s.host.hist.put Hist.none (x.ring * 4096 + x.seq % 4096) h := by
  obtain ⟨c, h⟩ := complete_eq (s := s) x st r
  refine ⟨⟨x.seq + 1, if st = St.ACCEPTED then St.PENDING else st, s.issueSeq.1⟩, ?_⟩
  rw [h, (quiet_writeCompletion _ _).hist, (quiet_syncCompleted _).hist, setHist, (quiet_creditBack _).1.hist,
    (quiet_settleInfl _ _ _).hist, quiet_issueSeq.1.hist]

theorem complete_histOf_other (x : Ctx) (st r : Nat) {ring seq : Nat}
    (h : ring * 4096 + seq % 4096 ≠ x.ring * 4096 + x.seq % 4096) :
    (s.complete x st r).histOf ring seq = s.histOf ring seq := by
  obtain ⟨e, he⟩ := complete_hist (s := s) x st r
  simp only [histOf, he, Tab.get_put_ne _ _ _ _ h]

theorem complete_leaves (x : Ctx) (st r : Nat) : s.leaves [.host] answerFields (s.complete x st r) :=
  leaves_host (complete_spec x st r).1.regs (complete_spec x st r).1.only (by decide)

/-! ### Events -/

/-- The MTB of the newest event of the journal. -/
def toldAt (s : State) : Option Nat := s.host.journal.head?.map (·.mtb)

theorem Signalled.toldAt (h : Signalled s t) : t.toldAt = s.toldAt := by
  unfold State.toldAt
  rw [h.journal]

theorem journal_toldAt (e : Event) : (s.journal e).toldAt = some e.mtb := by
  unfold journal
  extract_lets _ _ _ _ _ s₁
  have h₁ : s₁.toldAt = some e.mtb := rfl
  split
  · exact (alert_signalled (s := s₁.incSat R.HOST_SYNC_GLOBAL_JRN_LOST 0) R.GLOBAL_ALERT_JOURNAL_LOST).toldAt.trans h₁
  · exact h₁

theorem journalGot_toldAt : s.journalGot.toldAt = s.toldAt := by
  unfold journalGot
  split
  · rename_i e r h
    simp [toldAt, h]
  · rfl

theorem putEvent_toldAt (j : Nat) (e : Event) : (s.putEvent j e).toldAt = s.toldAt := by
  unfold putEvent
  extract_lets _ _ _ _ s₁
  have h₁ : s₁.host.journal = s.host.journal := rfl
  exact ((notify_signalled _).trans (coalesce_signalled _ _ _ _ _)).toldAt.trans (journalGot_toldAt.trans (by
    rw [toldAt, h₁, toldAt]))

theorem deliver_toldAt (e : Event) : (s.deliver e).toldAt = s.toldAt := by
  unfold deliver
  split
  · rfl
  · split
    · rfl
    · extract_lets
      split
      · exact putEvent_toldAt _ _
      · rfl

theorem raise_toldAt (code inst : Nat) (p : List Nat) : (s.raise code inst p).toldAt = some s.mtb :=
  (deliver_toldAt _).trans (journal_toldAt _)

theorem raise_high (code inst : Nat) (p : List Nat) :
    (s.raise code inst p).rd R.HOST_SYNC_GLOBAL_DEV_SEQ_HIGH = s.issueSeq.1 := by
  simp only [raise]
  rw [(quiet_deliver _).1.regs _ _ (by decide), (quiet_journal _).1.regs _ _ (by decide), issueSeq_high]

theorem raise_leaves (code inst : Nat) (p : List Nat) : s.leaves [.host] eventFields (s.raise code inst p) :=
  leaves_host (raise_spec code inst p).1.regs (raise_spec code inst p).1.only (by decide)

end State

/-- Settles O4: with a command at the front of the queue, `step` is that command's meaning. -/
theorem stepRunsTheFrontCommand : Obligations.StepRunsTheFrontCommand := fun _ _ _ => rfl

/-- Settles O12: each part is the law of the operation that does it, for `State.complete` and for `State.raise`. -/
theorem completionsAndEvents : Obligations.CompletionsAndEvents := by
  unfold Obligations.CompletionsAndEvents
  refine ⟨fun s x st r => ?_, fun s x st r ring seq => State.complete_histOf_other x st r, fun s code inst p => ?_,
    fun s => ?_⟩
  · exact ⟨State.complete_answer x st r, State.complete_high x st r, State.complete_findInfl x st r,
      State.complete_leaves x st r⟩
  · exact ⟨State.raise_told code inst p, State.raise_toldAt code inst p, State.raise_high code inst p,
      (State.raise_posted code inst p).hist, (State.raise_posted code inst p).inflight,
      State.raise_leaves code inst p⟩
  · exact ⟨s.issueSeq_bounds.1, s.issueSeq_bounds.2, s.issueSeq_eq, rfl⟩

end Sys2Proof.Machine
end

section
/-! SUPPORT and PROOFS. How ring commands are fetched and turned away: what a command meets before its function
(`State.command`, R44, R50, R69 to R73, R84, R487), and what one fetched descriptor does (`State.fetchOne`, R46, R51, R52). -/

namespace Sys2Proof.Machine
namespace State

variable {s t : State} {x : Ctx} {op inst : Nat} {act : Option CaskAct} {f : State → State}

/-! ### What a command meets before its function -/

/-- A command that may not start yet, or that its FENCE holds back, has no effect (R44). -/
theorem command_waits (hu : s.up = true) (h : (s.advance x.t).startable x op = false ∨ (s.advance x.t).fenced x = true) :
    s.command x op inst act f = s.advance x.t := by
  have hwait : (!(s.advance x.t).startable x op || (s.advance x.t).fenced x) = true := by
    rcases h with h | h <;> simp [h]
  simp only [command, advance_up, hu, Bool.not_true, Bool.false_or, hwait, if_true]

/-- The island of the command's block is not in METER, or METER does not stop it: it need not wake. -/
theorem wake_none (hm : (stoppedInMeter (op / 256) && s.rd R.PWR_STAT_MODE == 1) = false) :
    (if stoppedInMeter (op / 256) = true then (s.start x).wakeRun 3 else s.start x) = s.start x := by
  split
  · rename_i hstop
    exact if_neg (by simpa [hstop] using hm)
  · rfl

/-- What a command does once it starts: it is turned away, or its action is staged or refused, or its function runs. -/
def begun (x : Ctx) (op inst : Nat) (act : Option CaskAct) (f : State → State) (s : State) : State :=
  match s.gate x op inst with
  | some st => s.complete x st
  | none =>
    match act with
    | none => f s
    | some a =>
      if s.actDisabled act then s.complete x St.DISABLED
      else if x.cask != 0 then s.stage x a
      else match s.heldBy 16 a with
        | some k => s.complete x St.BUSY (s.slot k).id
        | none => f s

/-- A command that may start, with no FENCE and no sleeping island before it, starts. -/
theorem command_begun (hu : s.up = true) (hs : (s.advance x.t).startable x op = true)
    (hf : (s.advance x.t).fenced x = false)
    (hm : (stoppedInMeter (op / 256) && (s.advance x.t).rd R.PWR_STAT_MODE == 1) = false) :
    s.command x op inst act f = (begun x op inst act f ((s.advance x.t).start x)).settleDestroys := by
  simp only [command, advance_up, hu, hs, hf, wake_none hm, Bool.not_true, Bool.or_self, Bool.false_eq_true, if_false]
  rfl

theorem begun_turnedAway {st : Nat} (hg : s.gate x op inst = some st) : begun x op inst act f s = s.complete x st := by
  simp only [begun, hg]

theorem begun_actDisabled {a : CaskAct} (hg : s.gate x op inst = none) (hd : s.actDisabled (some a) = true) :
    begun x op inst (some a) f s = s.complete x St.DISABLED := by
  simp only [begun, hg, hd, if_true]

theorem begun_staged {a : CaskAct} (hg : s.gate x op inst = none) (hd : s.actDisabled (some a) = false)
    (hc : x.cask ≠ 0) : begun x op inst (some a) f s = s.stage x a := by
  simp only [begun, hg, hd, Bool.false_eq_true, if_false, bne_iff_ne.2 hc, if_true]

theorem begun_held {a : CaskAct} {k : Nat} (hg : s.gate x op inst = none) (hd : s.actDisabled (some a) = false)
    (hc : x.cask = 0) (hk : s.heldBy 16 a = some k) :
    begun x op inst (some a) f s = s.complete x St.BUSY (s.slot k).id := by
  simp only [begun, hg, hd, hc, hk, bne_self_eq_false, Bool.false_eq_true, if_false]

/-- Completing a command that has started finishes no destroy where none waits. -/
theorem complete_settle_started (hd : s.host.destroys = []) (st r : Nat) :
    (((s.advance x.t).start x).complete x st r).settleDestroys = ((s.advance x.t).start x).complete x st r :=
  complete_settle x st r (by rw [start_destroys, advance_host, hd])

/-- The statuses that turn a command away, in the order in which they are tried. -/
theorem gate_eq (s : State) (x : Ctx) (op inst : Nat) : s.gate x op inst =
    (if 8 ≤ x.flags then some St.BAD_FLAGS else if x.ring = 0 ∧ stopClass op = false then some St.BAD_RING else
    if x.cask ≠ 0 ∧ caskCapable op = false then some St.NOT_CASKABLE else
    if s.rd R.GLOBAL_ISLAND_STAT_READY (blockIsland (op / 256)) = 0 then some St.NOT_READY else
    if s.funcDisabled (op / 256) inst = true then some St.DISABLED else
    if s.reserveRole = true ∧ (op / 256 = 3 ∨ op / 256 = 13) ∧ stopClass op = false then some St.TWIN_RESERVE else
    none) := by
  simp only [gate, flag, Bool.and_eq_true, Bool.or_eq_true, Bool.not_eq_true', decide_eq_true_eq, beq_iff_eq,
    bne_iff_ne, bne_eq_false_iff_eq, and_assoc]

/-! ### Started commands -/

theorem start_inflight (s : State) (x : Ctx) : (s.start x).host.inflight =
    s.host.inflight.map fun e => if e.ring == x.ring && e.seq == x.seq then { e with started := true } else e := rfl

/-- The entry of a command that starts, if it is in flight, says from then on that it has started. -/
theorem start_findInfl_started {e : Infl} (h : (s.start x).findInfl x.ring x.seq = some e) : e.started = true := by
  have hmem := List.mem_of_find?_eq_some h
  obtain ⟨hr, hq⟩ := findInfl_some h
  rw [start_inflight, List.mem_map] at hmem
  obtain ⟨d, -, rfl⟩ := hmem
  split at hr <;> split at hq <;> simp_all

/-- A command that has started does not start again (R51). -/
theorem start_startable (s : State) (x : Ctx) (op : Nat) : (s.start x).startable x op = false := by
  unfold startable
  split
  · rename_i e h
    simp [start_findInfl_started h]
  · rfl

/-- Before a command starts, every earlier one of its ring has (R44). -/
theorem startable_before (h : s.startable x op = true) {e : Infl} (he : e ∈ s.host.inflight) (hb : before x e = true) :
    e.started = true := by
  unfold startable at h
  split at h
  · simp only [Bool.and_eq_true, List.all_eq_true, Bool.or_eq_true, Bool.not_eq_true'] at h
    exact (h.2 e he).resolve_right (by simp [hb])
  · exact absurd h (by decide)

/-! ### Fetching -/

/-- A descriptor has been read at its ring's fetch count, and a credit of class `c` taken where it is not the stop
ring's. -/
def descRead (s : State) (i c : Nat) : State :=
  let s := { s with host := { s.host with
    cmdFetch := s.host.cmdFetch.put 0 i ((s.host.cmdFetch.get 0 i + 1) % 2 ^ 32) } }
  if i = 0 then s else s.creditTake c

/-- A descriptor's command is in flight, and the number stands as the last one fetched of its ring (R51). -/
def enter (s : State) (i : Nat) (d : Desc) (cr : Option Nat) : State :=
  let s := { s with host := { s.host with
    inflight := s.host.inflight ++ [(⟨i, d.seq, d.op, d.inst, d.tag, d.flags, d.cask, false, false, cr⟩ : Infl)] } }
  ((s.wr R.HOST_SYNC_LAST_FETCHED i d.seq).setHist i d.seq St.PENDING 0).syncCompleted i

/-- The command of a descriptor that is read now. -/
def descCtx (s : State) (i : Nat) (d : Desc) : Ctx := ⟨s.mtb, i, d.seq, d.tag, d.flags, d.cask⟩

theorem fetchOne_eq (s : State) (i : Nat) (d : Desc) : s.fetchOne i d =
    if follows (s.rd R.HOST_SYNC_LAST_FETCHED i) d.seq then
      (s.descRead i (s.rd R.HOST_CMDR_PRIO i)).fetchNext (s.descCtx i d) i d
        (if i = 0 then none else some (s.rd R.HOST_CMDR_PRIO i))
    else (s.descRead i (s.rd R.HOST_CMDR_PRIO i)).fetchOther (s.descCtx i d) i d (s.rd R.HOST_SYNC_LAST_FETCHED i)
        (if i = 0 then none else some (s.rd R.HOST_CMDR_PRIO i)) := rfl

/-- Of the state a read descriptor takes a credit and counts as fetched. -/
theorem descRead_spec (s : State) (i c : Nat) :
    (s.descRead i c).regs = s.regs ∧ (s.descRead i c).host.inflight = s.host.inflight ∧
      (s.descRead i c).host.hist = s.host.hist ∧
      (s.descRead i c).host.cmdFetch.get 0 i = (s.host.cmdFetch.get 0 i + 1) % 2 ^ 32 := by
  unfold descRead
  extract_lets _ s₁
  have h₁ : s₁.host.cmdFetch.get 0 i = (s.host.cmdFetch.get 0 i + 1) % 2 ^ 32 := by simp [s₁]
  split
  · exact ⟨rfl, rfl, rfl, h₁⟩
  · unfold creditTake
    split <;> exact ⟨rfl, rfl, rfl, h₁⟩

theorem rd_congr (h : t.regs = s.regs) (F : Fld) (n : Nat) : t.rd F n = s.rd F n := by
  unfold rd
  rw [h]

/-- The next number of a ring, where nothing is wrong with its descriptor, is in flight from its fetch on (R51). -/
theorem fetchNext_enter {i : Nat} {d : Desc} {cr : Option Nat} (hf : d.flags < 8) (ho : knownOp d.op = true)
    (hs : i = 0 → stopClass d.op = true) (hi : d.indirectOk = true) : s.fetchNext x i d cr = s.enter i d cr := by
  have hring : (decide (i = 0) && !stopClass d.op) = false := by
    by_cases h : i = 0
    · simp [hs h]
    · simp [h]
  simp only [fetchNext, ho, hring, hi, if_neg (Nat.not_le.2 hf), Bool.not_true, Bool.and_false, Bool.false_eq_true,
    if_false]
  rfl

theorem enter_lastFetched {i : Nat} {d : Desc} (cr : Option Nat) (h : d.seq < 2 ^ 32) :
    (s.enter i d cr).rd R.HOST_SYNC_LAST_FETCHED i = d.seq := by
  refine ((quiet_syncCompleted _).regs _ _ (by decide)).trans ((rd_wr_same _ _ _).trans ?_)
  exact Nat.mod_eq_of_lt h

theorem enter_histOf (i : Nat) (d : Desc) (cr : Option Nat) :
    (s.enter i d cr).histOf i d.seq = some ⟨d.seq + 1, St.PENDING, 0⟩ :=
  (histOf_congr (quiet_syncCompleted i).hist i d.seq).trans (histOf_setHist _ _ _ _)

/-- What a fetched descriptor with the next number of its ring does, where nothing is wrong with it (R46, R51, R52). -/
theorem fetchOne_next {i : Nat} {d : Desc} (hd : d.seq < 2 ^ 32)
    (hn : d.seq = (s.rd R.HOST_SYNC_LAST_FETCHED i + 1) % 2 ^ 32) (hf : d.flags < 8) (ho : knownOp d.op = true)
    (hs : i = 0 → stopClass d.op = true) (hi : d.indirectOk = true) :
    (s.fetchOne i d).rd R.HOST_SYNC_LAST_FETCHED i = d.seq ∧
      (∃ cr, (s.fetchOne i d).host.inflight = s.host.inflight ++
        [(⟨i, d.seq, d.op, d.inst, d.tag, d.flags, d.cask, false, false, cr⟩ : Infl)]) ∧
      ((s.fetchOne i d).histOf i d.seq).map (·.status) = some St.PENDING ∧
      (s.fetchOne i d).host.cmdFetch.get 0 i = (s.host.cmdFetch.get 0 i + 1) % 2 ^ 32 := by
  have hnext : follows (s.rd R.HOST_SYNC_LAST_FETCHED i) d.seq = true :=
    beq_iff_eq.2 ((Nat.mod_eq_of_lt hd).trans hn)
  obtain ⟨-, hinfl, -, hcount⟩ := s.descRead_spec i (s.rd R.HOST_CMDR_PRIO i)
  rw [fetchOne_eq, if_pos hnext, fetchNext_enter hf ho hs hi]
  refine ⟨enter_lastFetched _ hd, ⟨_, congrArg (· ++ _) hinfl⟩, ?_, hcount⟩
  rw [enter_histOf]
  rfl

theorem writeOther_posted (i : Nat) (d : Desc) (n : Nat) (old : Option Hist) : Posted s (s.writeOther x i d n old) := by
  unfold writeOther
  split <;> exact writeCompletion_posted _ _

theorem writeOther_quiet (i : Nat) (d : Desc) (n : Nat) (old : Option Hist) :
    Quiet (journalIds ++ noteIds) s (s.writeOther x i d n old) := by
  unfold writeOther
  split <;> exact quiet_writeCompletion _ _

theorem creditBack_cmdFetch (c : Option Nat) : (s.creditBack c).host.cmdFetch = s.host.cmdFetch := by
  unfold creditBack
  split
  · rfl
  · split <;> rfl

/-- A number that is not the next one completes and changes nothing that could make a command execute (R51, R52). -/
theorem fetchOther_frame (i : Nat) (d : Desc) (last : Nat) (cr : Option Nat) :
    (s.fetchOther x i d last cr).host.inflight = s.host.inflight ∧
      (s.fetchOther x i d last cr).host.hist = s.host.hist ∧
      (s.fetchOther x i d last cr).host.cmdFetch = s.host.cmdFetch ∧
      RegsBut (R.HOST_SYNC_GLOBAL_DEV_SEQ_HIGH.id :: (journalIds ++ noteIds)) s (s.fetchOther x i d last cr) := by
  have hissue : Quiet [R.HOST_SYNC_GLOBAL_DEV_SEQ_HIGH.id] s s.issueSeq.2 := quiet_issueSeq.1
  simp only [fetchOther]
  generalize (if serialWithin d.seq last 4095 = true then _ else none) = old
  have hpost := writeOther_posted (s := s.issueSeq.2.creditBack cr) (x := x) i d s.issueSeq.1 old
  refine ⟨hpost.inflight.trans (creditBack_inflight cr), hpost.hist.trans ((quiet_creditBack cr).1.hist.trans hissue.hist),
    hpost.cmdFetch.trans (creditBack_cmdFetch cr), ?_⟩
  exact (((hissue.trans (quiet_creditBack cr).1).trans (writeOther_quiet i d _ old)).mono (by simp +contextual)).regs

theorem fetchOne_other {i : Nat} {d : Desc}
    (hn : d.seq % 2 ^ 32 ≠ (s.rd R.HOST_SYNC_LAST_FETCHED i + 1) % 2 ^ 32) :
    (s.fetchOne i d).host.inflight = s.host.inflight ∧ (s.fetchOne i d).host.hist = s.host.hist ∧
      (s.fetchOne i d).rd R.HOST_SYNC_LAST_FETCHED i = s.rd R.HOST_SYNC_LAST_FETCHED i ∧
      (s.fetchOne i d).host.cmdFetch.get 0 i = (s.host.cmdFetch.get 0 i + 1) % 2 ^ 32 := by
  have hnext : follows (s.rd R.HOST_SYNC_LAST_FETCHED i) d.seq = false := beq_eq_false_iff_ne.2 hn
  obtain ⟨hregs, hinfl, hhist, hcount⟩ := s.descRead_spec i (s.rd R.HOST_CMDR_PRIO i)
  rw [fetchOne_eq, hnext, if_neg (by decide)]
  obtain ⟨kinfl, khist, kcount, kregs⟩ := fetchOther_frame (s := s.descRead i (s.rd R.HOST_CMDR_PRIO i))
    (x := s.descCtx i d) i d (s.rd R.HOST_SYNC_LAST_FETCHED i)
    (if i = 0 then none else some (s.rd R.HOST_CMDR_PRIO i))
  exact ⟨kinfl.trans hinfl, khist.trans hhist, (kregs _ _ (by decide)).trans (rd_congr hregs _ _), kcount ▸ hcount⟩

end State

/-- Settles O13: a command that waits, is turned away, staged or refused, by the cases of `State.begun`; a fetched
descriptor by whether its number is the next of its ring. -/
theorem commandIntake : Obligations.CommandIntake := by
  unfold Obligations.CommandIntake
  refine ⟨fun s x op inst act f => State.command_waits, ?_, State.gate_eq, ?_, ?_, ?_, fun s i d => State.fetchOne_other⟩
  · intro s x op inst st act f hu hs hf hm hg hd
    rw [State.command_begun hu hs hf hm, State.begun_turnedAway hg, State.complete_settle_started hd]
  · intro s x op inst a f hu hs hf hm hg hd
    rw [State.command_begun hu hs hf hm]
    refine ⟨fun ha => ?_, fun ha => ⟨fun hc => ?_, fun k hc hk => ?_⟩⟩
    · rw [State.begun_actDisabled hg ha, State.complete_settle_started hd]
    · rw [State.begun_staged hg ha hc]
    · rw [State.begun_held hg ha hc hk, State.complete_settle_started hd]
  · intro s x op h
    refine ⟨State.start_startable s x op, fun e he hr hlo hhi => State.startable_before h he ?_⟩
    simp only [State.before, hr, beq_self_eq_true, Bool.true_and, Bool.and_eq_true, decide_eq_true_eq]
    exact ⟨hlo, hhi⟩
  · intro s i d hd hn hf ho hi hs hok u
    exact State.fetchOne_next hd hn hf ho (fun _ => hs) hok

end Sys2Proof.Machine
end

section
/-! SUPPORT and PROOFS. The event journal (R55) and the register fields that few commands write, along every command:
what each operation keeps of them, once. -/

namespace Sys2Proof.Machine

/-! ### The journal and the watched fields

The proof of an operation names the laws of the operations it is made of, in the order in which its definition applies
them. Where an operation writes register fields, its law asks that none of them is watched. -/

/-- The watched register fields: the device epoch (R53), the owner co-signature policy (R455) and the set-up lock
(R515). Few commands write them. -/
def watchedFields : List Fld := [R.HOST_SYNC_GLOBAL_EPOCH, R.UPD_POLICY_OWNER_COSIGN, R.GLOBAL_SETUP_LOCK_LOCK]

/-- A field with the number of a watched one. -/
def watched (F : Fld) : Bool := (watchedFields.map Fld.id).contains F.id

theorem watched_ne {F G : Fld} (hG : G ∈ watchedFields) (hF : watched F = false) : G.id ≠ F.id := by
  intro h
  have hin : F.id ∈ watchedFields.map Fld.id := h ▸ List.mem_map_of_mem hG
  simp only [watched, List.contains_eq_mem, decide_eq_false_iff_not] at hF
  exact hF hin

theorem watchedFields_id {F G : Fld} (hF : F ∈ watchedFields) (hG : G ∈ watchedFields) (h : G.id = F.id) : G = F := by
  have key : ∀ F ∈ watchedFields, ∀ G ∈ watchedFields, G.id = F.id → G = F := by decide
  exact key F hF G hG h

/-- On the way from `s₀` to `s` the event journal has stayed within its size (R55), and those watched fields that stand
in `W` read as they did. -/
structure State.Steady (W : List Fld) (s₀ s : State) : Prop where
  journal : s₀.host.journal.length ≤ 32768 → s.host.journal.length ≤ 32768
  watched : ∀ F ∈ watchedFields, F ∈ W → ∀ n, s.rd F n = s₀.rd F n

/-- If there is a next state, the way to it is steady. -/
def State.OptSteady (W : List Fld) (s₀ : State) (o : Option State) : Prop := ∀ t, o = some t → State.Steady W s₀ t

/-- The outcome is a next state, and the way to it is steady. -/
def OutSteady (W : List Fld) (s₀ : State) (o : Host.Outcome State Fault Refusal) : Prop :=
  ∃ u, o = .next u ∧ State.Steady W s₀ u

namespace State

theorem rd_toReset_ne {s : State} (F G : Fld) (n m : Nat) (h : G.id ≠ F.id) : (s.toReset F n).rd G m = s.rd G m := by
  have hkey : key2 G.id m ≠ key2 F.id n := fun e => h (key2_inj.1 e).1
  simp only [rd, toReset, Tab.get_put_ne _ _ _ _ hkey]

variable {W : List Fld} {s₀ s : State}

theorem Steady.refl (W : List Fld) (s : State) : Steady W s s := ⟨id, fun _ _ _ _ => rfl⟩

theorem Steady.trans {t : State} (h : Steady W s₀ s) (k : Steady W s t) : Steady W s₀ t :=
  ⟨fun hj => k.journal (h.journal hj), fun F hF hW n => (k.watched F hF hW n).trans (h.watched F hF hW n)⟩

section
variable {a b : State} {α β : Type} {c : Prop} {inst : Decidable c}

theorem steady_next (h : Steady W s₀ s) : OutSteady W s₀ (.next s) := ⟨s, rfl, h⟩

theorem steady_fst {e : State × α} {x : α} (he : e = (b, x)) (h : Steady W s₀ e.1) : Steady W s₀ b := by
  rw [he] at h; exact h

theorem steady_snd {e : α × State} {x : α} (he : e = (x, b)) (h : Steady W s₀ e.2) : Steady W s₀ b := by
  rw [he] at h; exact h

theorem steady_ite (ha : Steady W s₀ a) (hb : Steady W s₀ b) : Steady W s₀ (if c then a else b) := by
  split
  · exact ha
  · exact hb

theorem steady_ite_fst {a b : State × α} (ha : Steady W s₀ a.1) (hb : Steady W s₀ b.1) :
    Steady W s₀ (if c then a else b).1 := by
  split
  · exact ha
  · exact hb

theorem steady_ite_snd {a b : α × State} (ha : Steady W s₀ a.2) (hb : Steady W s₀ b.2) :
    Steady W s₀ (if c then a else b).2 := by
  split
  · exact ha
  · exact hb

theorem steady_ite_thd {a b : α × β × State} (ha : Steady W s₀ a.2.2) (hb : Steady W s₀ b.2.2) :
    Steady W s₀ (if c then a else b).2.2 := by
  split
  · exact ha
  · exact hb

theorem optSteady_none : OptSteady W s₀ none := fun _ e => nomatch e

theorem optSteady_some (h : Steady W s₀ s) : OptSteady W s₀ (some s) := fun _ e => Option.some.inj e ▸ h

theorem optSteady_ite {a b : Option State} (ha : OptSteady W s₀ a) (hb : OptSteady W s₀ b) :
    OptSteady W s₀ (if c then a else b) := by
  split
  · exact ha
  · exact hb

/-- An update of any part but the register store and the HOST island's own. -/
theorem steady_upd {q : List Instr} {m n k : Nat} {ph : Phase} {st : Tab Nat} {ar : ArchSt} {c : CaskSt} {o : OutSt}
    {sf : SafeSt} {af : AfeSt} {fi : FiltSt} {me : MetSt} {l : LedgerSt} {ke : KeySt} {pl : PlcSt} {tg : TagSt}
    {d : DispSt} {lw : LswSt} {u : UpdSt} {tw : TwinSt} {pw : PwrSt} (h : Steady W s₀ s) :
    Steady W s₀ ⟨q, s.regs, m, n, k, ph, st, s.host, ar, c, o, sf, af, fi, me, l, ke, pl, tg, d, lw, u, tw, pw⟩ :=
  ⟨h.journal, h.watched⟩

/-- An update of the HOST island's own part, with the journal as it was. -/
theorem steady_host {q : List Instr} {m n k : Nat} {ph : Phase} {st : Tab Nat} {ar : ArchSt} {c : CaskSt} {o : OutSt}
    {sf : SafeSt} {af : AfeSt} {fi : FiltSt} {me : MetSt} {l : LedgerSt} {ke : KeySt} {pl : PlcSt} {tg : TagSt}
    {d : DispSt} {lw : LswSt} {u : UpdSt} {tw : TwinSt} {pw : PwrSt} {ready perst enHeld : Bool}
    {answer : Option Nat} {pay req pba shared seq blocks pollAt poll lockAt refAt refSince : Nat}
    {msix fetch cplProd evProd fill dbCmd dbCpl dbEv dbStr own wrr rr addr stat irqs latched : Tab Nat}
    {infl : List Infl} {stopHeld cplHeld : List Completion} {hist : Tab Hist} {gaps : Tab Gap} {evMem : Tab Event}
    {cplMem : Tab Completion} {strMem : Tab StreamEntry} {src : Tab StreamSrc} {nf nd : List Notif} {coal : Tab Coal}
    {destroys : List Destroy} {held : Option HeldWords} {words dma : List Nat} (h : Steady W s₀ s) :
    Steady W s₀ ⟨q, s.regs, m, n, k, ph, st, ⟨ready, perst, answer, pay, req, msix, pba, enHeld, fetch, cplProd, evProd,
      fill, dbCmd, dbCpl, dbEv, dbStr, own, shared, wrr, rr, infl, stopHeld, cplHeld, hist, s.host.journal, seq, blocks,
      gaps, evMem, cplMem, strMem, src, addr, pollAt, poll, stat, nf, nd, irqs, coal, destroys, held, lockAt, latched,
      words, dma, refAt, refSince⟩, ar, c, o, sf, af, fi, me, l, ke, pl, tg, d, lw, u, tw, pw⟩ :=
  ⟨h.journal, h.watched⟩

theorem steady_foldl {f : State → α → State} (hf : ∀ {s x}, Steady W s₀ s → Steady W s₀ (f s x)) {xs : List α}
    {s : State} (h : Steady W s₀ s) : Steady W s₀ (xs.foldl f s) := by
  induction xs generalizing s with
  | nil => exact h
  | cons x xs ih => exact ih (hf h)

theorem steady_foldl_snd {f : β × State → α → β × State} (hf : ∀ {p x}, Steady W s₀ p.2 → Steady W s₀ (f p x).2)
    {xs : List α} {p : β × State} (h : Steady W s₀ p.2) : Steady W s₀ (xs.foldl f p).2 := by
  induction xs generalizing p with
  | nil => exact h
  | cons x xs ih => exact ih (hf h)

theorem steady_forEach {f : α → State → State} (hf : ∀ {x s}, Steady W s₀ s → Steady W s₀ (f x s)) {xs : List α}
    {s : State} (h : Steady W s₀ s) : Steady W s₀ (forEach xs f s) := steady_foldl hf h

theorem steady_forEach_snd {f : α → β × State → β × State} (hf : ∀ {x p}, Steady W s₀ p.2 → Steady W s₀ (f x p).2)
    {xs : List α} {p : β × State} (h : Steady W s₀ p.2) : Steady W s₀ (forEach xs f p).2 := steady_foldl_snd hf h

/-- As `steady_forEach`, where the operation of each member is about one field, which is not watched. -/
theorem steady_forEach_fld {f : α → State → State} {xs : List α} {s : State} (g : α → Fld)
    (hg : ∀ x ∈ xs, watched (g x) = false)
    (hf : ∀ {x s}, watched (g x) = false → Steady W s₀ s → Steady W s₀ (f x s)) (h : Steady W s₀ s) :
    Steady W s₀ (forEach xs f s) := by
  induction xs generalizing s with
  | nil => exact h
  | cons x xs ih => exact ih (fun y hy => hg y (List.mem_cons_of_mem x hy)) (hf (hg x (List.mem_cons_self ..)) h)

end


/-! ### The shared operations (Sys2Proof/Machine/Ops.lean) -/

/-- The first cell at a key, when the cells at other keys may be dropped. -/
theorem lookup_filter_key {α : Type} {d : α} {k : Nat} {p : Nat × α → Bool} (hp : ∀ x, p (k, x) = true)
    (l : List (Nat × α)) : lookup d k (l.filter p) = lookup d k l := by
  induction l with
  | nil => rfl
  | cons c r ih =>
    obtain ⟨i, x⟩ := c
    by_cases hi : i = k
    · subst hi
      simp [List.filter, hp, lookup]
    · cases hc : p (i, x) <;> simp [List.filter, hc, lookup, hi, ih]

theorem overlay_get_ne {t u : Tab Nat} {d k : Nat} (hu : ∀ c ∈ u.cells, c.1 ≠ k) :
    (overlay t u).get d k = t.get d k := by
  have key : ∀ l a : List (Nat × Nat), (∀ c ∈ l, c.1 ≠ k) →
      lookup d k (l.foldl (fun a c => insertCell c.1 c.2 (a.filter fun e => e.1 != c.1)) a) = lookup d k a := by
    intro l
    induction l with
    | nil => exact fun _ _ => rfl
    | cons c r ih =>
      intro a hl
      obtain ⟨hc, hr⟩ := List.forall_mem_cons.1 hl
      rw [List.foldl_cons, ih _ hr, lookup_insertCell _ _ _ _ _ (by simp), if_neg (Ne.symm hc), lookup_filter,
        if_neg (Ne.symm hc)]
  exact key u.cells t.cells hu

theorem rd_keepRegs {s : State} {F : Fld} (hF : F ∈ watchedFields) (hL : F ≠ R.GLOBAL_SETUP_LOCK_LOCK) (n : Nat) :
    s.keepRegs.rd F n = s.rd F n := by
  have hk : keptIds.contains F.id = true := by
    revert F
    decide
  exact lookup_filter_key (fun _ => by simp only [cellKept, key2, Nat.unpair_pair, hk]) _

theorem rd_loadCopy {s : State} {c : TwinCopy} {F : Fld} (hF : F ∈ watchedFields) (n : Nat) :
    (s.loadCopy c).rd F n = s.rd F n := by
  have hk : copyFamilies.contains (F.id / 512) = false := by
    revert F
    decide
  have hcell : ∀ x, inCopy (key2 F.id n, x) = false := fun _ => by simp only [inCopy, key2, Nat.unpair_pair, hk]
  refine (overlay_get_ne (fun e he hk => ?_)).trans (lookup_filter_key (fun x => by rw [hcell]; rfl) _)
  have hin := (List.mem_filter.1 he).2
  rw [← Prod.mk.eta (p := e), hk, hcell] at hin
  cases hin

/-- Where the device epoch is watched, its field holds it: a replay that puts it aside puts it back. -/
def EpochFits (W : List Fld) (s₀ : State) : Prop :=
  R.HOST_SYNC_GLOBAL_EPOCH ∈ W → s₀.rd R.HOST_SYNC_GLOBAL_EPOCH < 2 ^ 16

theorem wr_steady {F : Fld} {n v : Nat} (h : Steady W s₀ s) (hF : watched F = false) :
    Steady W s₀ (s.wr F n v) :=
  ⟨h.journal, fun G hG hW m => (rd_wr_ne F G n m v (watched_ne hG hF)).trans (h.watched G hG hW m)⟩

theorem wr_steady_out {F : Fld} {n v : Nat} (hF : F ∈ watchedFields) (hW : F ∉ W) (h : Steady W s₀ s) :
    Steady W s₀ (s.wr F n v) :=
  ⟨h.journal, fun G hG hGW m => (rd_wr_ne F G n m v (fun e => hW (watchedFields_id hF hG e ▸ hGW))).trans
    (h.watched G hG hGW m)⟩

theorem toReset_steady {F : Fld} {n : Nat} (h : Steady W s₀ s) (hF : watched F = false) :
    Steady W s₀ (s.toReset F n) :=
  ⟨h.journal, fun G hG hW m => (rd_toReset_ne F G n m (watched_ne hG hF)).trans (h.watched G hG hW m)⟩

theorem setFlag_steady {F : Fld} {n : Nat} {b : Bool} (h : Steady W s₀ s) (hF : watched F = false) :
    Steady W s₀ (s.setFlag F n b) :=
  wr_steady h hF

theorem addSat_steady {F : Fld} {n k : Nat} (h : Steady W s₀ s) (hF : watched F = false) :
    Steady W s₀ (s.addSat F n k) :=
  wr_steady h hF

theorem incSat_steady {F : Fld} {n : Nat} (h : Steady W s₀ s) (hF : watched F = false) :
    Steady W s₀ (s.incSat F n) :=
  addSat_steady h hF

theorem wrInt_steady {F : Fld} {n : Nat} {z : Int} (h : Steady W s₀ s) (hF : watched F = false) :
    Steady W s₀ (s.wrInt F n z) :=
  wr_steady h hF

theorem takeFree_steady (h : Steady W s₀ s) : Steady W s₀ s.takeFree.2 := steady_upd h

theorem edges_steady {k : Nat} (h : Steady W s₀ s) : Steady W s₀ (s.edges k) := steady_upd h

theorem advance_steady {t : Nat} (h : Steady W s₀ s) : Steady W s₀ (s.advance t) := steady_ite (edges_steady h) h

theorem irq_steady {v : Nat} (h : Steady W s₀ s) : Steady W s₀ (s.irq v) := steady_ite (steady_host h) h

theorem alert_steady {F : Fld} (h : Steady W s₀ s) (hF : watched F = false) : Steady W s₀ (s.alert F) :=
  steady_ite (irq_steady (wr_steady h hF)) (wr_steady h hF)

theorem notifSwap_steady (h : Steady W s₀ s) : Steady W s₀ s.notifSwap := steady_ite (steady_host h) h

theorem notifPut_steady {w : Notif} (h : Steady W s₀ s) : Steady W s₀ (s.notifPut w) :=
  steady_ite (steady_host h) (steady_ite (alert_steady (incSat_steady (steady_host h) rfl) rfl) (steady_host h))

theorem notifIrq_steady (h : Steady W s₀ s) : Steady W s₀ s.notifIrq := steady_ite h (irq_steady h)

theorem notify_steady {w : Notif} (h : Steady W s₀ s) : Steady W s₀ (s.notify w) :=
  irq_steady (notifPut_steady (notifSwap_steady h))

theorem coalesce_steady {c vector cnt us : Nat} {now : Bool} (h : Steady W s₀ s) :
    Steady W s₀ (s.coalesce c vector cnt us now) :=
  steady_ite (irq_steady (steady_host h)) (steady_host h)

theorem issueSeq_steady (h : Steady W s₀ s) : Steady W s₀ s.issueSeq.2 := wr_steady (steady_host h) rfl

theorem journal_steady {e : Event} (h : Steady W s₀ s) : Steady W s₀ (s.journal e) := by
  unfold journal
  extract_lets full _ j _ s₁
  have hj : s.host.journal.length ≤ 32768 → j.length ≤ 32768 := by
    intro hs
    by_cases hf : 32768 ≤ s.host.journal.length
    · simp [j, full, hf]; omega
    · simp [j, full, hf]; omega
  have h₁ : Steady W s₀ s₁ := ⟨fun h₀ => hj (h.journal h₀), h.watched⟩
  exact steady_ite (alert_steady (incSat_steady (wr_steady h₁ rfl) rfl) rfl) (wr_steady h₁ rfl)

theorem journalGot_steady (h : Steady W s₀ s) : Steady W s₀ s.journalGot := by
  unfold journalGot
  split
  · rename_i e r hr
    refine ⟨fun h₀ => ?_, h.watched⟩
    have hlen := h.journal h₀
    rwa [hr] at hlen
  · exact h

theorem putEvent_steady {j : Nat} {e : Event} (h : Steady W s₀ s) : Steady W s₀ (s.putEvent j e) :=
  coalesce_steady (notify_steady (journalGot_steady (steady_host h)))

theorem deliver_steady {e : Event} (h : Steady W s₀ s) : Steady W s₀ (s.deliver e) := by
  unfold deliver
  refine steady_ite h ?_
  split
  · exact h
  · exact steady_ite (putEvent_steady h) (steady_host h)

theorem raise_steady {code inst : Nat} {payload : List Nat} (h : Steady W s₀ s) :
    Steady W s₀ (s.raise code inst payload) :=
  deliver_steady (journal_steady (issueSeq_steady h))

theorem creditBack_steady {c : Option Nat} (h : Steady W s₀ s) : Steady W s₀ (s.creditBack c) := by
  unfold creditBack
  split
  · exact h
  · exact steady_ite (steady_host h) (steady_host h)

theorem setHist_steady {ring seq status dseq : Nat} (h : Steady W s₀ s) :
    Steady W s₀ (s.setHist ring seq status dseq) :=
  steady_host h

theorem syncCompleted_steady {ring : Nat} (h : Steady W s₀ s) : Steady W s₀ (s.syncCompleted ring) := wr_steady h rfl

theorem putCompletion_steady {c : Completion} {now : Bool} (h : Steady W s₀ s) : Steady W s₀ (s.putCompletion c now) :=
  coalesce_steady (notify_steady (steady_host h))

theorem holdCompletion_steady {c : Completion} (h : Steady W s₀ s) : Steady W s₀ (s.holdCompletion c) :=
  journal_steady h

theorem writeCompletion_steady {c : Completion} {now : Bool} (h : Steady W s₀ s) :
    Steady W s₀ (s.writeCompletion c now) :=
  steady_ite (holdCompletion_steady h) (steady_ite (steady_ite (putCompletion_steady h) (steady_host h)) (steady_ite
    (putCompletion_steady h) (steady_host h)))

theorem settleInfl_steady {ring seq : Nat} {accepted : Bool} (h : Steady W s₀ s) :
    Steady W s₀ (s.settleInfl ring seq accepted) :=
  steady_host h

theorem complete_steady {x : Ctx} {status result : Nat} (h : Steady W s₀ s) :
    Steady W s₀ (s.complete x status result) :=
  writeCompletion_steady (syncCompleted_steady (setHist_steady (creditBack_steady (settleInfl_steady (issueSeq_steady
    h)))))

theorem finalise_steady {x : Ctx} {status : Nat} (h : Steady W s₀ s) : Steady W s₀ (s.finalise x status) :=
  setHist_steady (settleInfl_steady h)

theorem finaliseOpt_steady {x : Option Ctx} {status : Nat} (h : Steady W s₀ s) :
    Steady W s₀ (s.finaliseOpt x status) := by
  unfold finaliseOpt
  split
  · exact finalise_steady h
  · exact h

theorem save_steady {F : Fld} {n : Nat} (h : Steady W s₀ s) : Steady W s₀ (s.save F n) := steady_ite (steady_upd h) h

theorem wrSave_steady {F : Fld} {n v : Nat} (h : Steady W s₀ s) (hF : watched F = false) :
    Steady W s₀ (s.wrSave F n v) :=
  save_steady (wr_steady h hF)

theorem giveBuffer_steady {data : List Nat} (h : Steady W s₀ s) : Steady W s₀ (s.giveBuffer data) :=
  steady_ite (steady_host h) h

theorem setSlot_steady {k : Nat} {c : CaskSlot} (h : Steady W s₀ s) : Steady W s₀ (s.setSlot k c) := steady_upd h

theorem modSlot_steady {k : Nat} {f : CaskSlot → CaskSlot} (h : Steady W s₀ s) : Steady W s₀ (s.modSlot k f) :=
  setSlot_steady h

theorem onEvent_steady {t : Nat} {f : State → State} (h : Steady W s₀ s) (hf : ∀ {s}, Steady W s₀ s → Steady W s₀ (f
    s)) :
    Steady W s₀ (onEvent s t f) :=
  steady_ite (hf (advance_steady h)) (advance_steady h)

theorem onCore_steady {t : Nat} {f : State → State} (h : Steady W s₀ s)
    (hf : ∀ {s}, Steady W s₀ s → Steady W s₀ (f s)) :
    Steady W s₀ (onCore s t f) :=
  steady_ite (hf (advance_steady h)) (advance_steady h)

/-! ### The key store (Sys2Proof/Machine/KeyOps.lean) -/

theorem modNode_steady {p : List (List Byte)} {f : KNode → KNode} (h : Steady W s₀ s) : Steady W s₀ (s.modNode p f) :=
  steady_upd h

theorem setKeyMode_steady {m cause : Nat} (h : Steady W s₀ s) : Steady W s₀ (s.setKeyMode m cause) :=
  steady_ite h (raise_steady (wr_steady h rfl))

theorem reseed_steady (h : Steady W s₀ s) : Steady W s₀ s.reseed := incSat_steady (steady_upd h) rfl

theorem drbgNext_steady {bits : Nat} (h : Steady W s₀ s) : Steady W s₀ (s.drbgNext bits).2 :=
  steady_ite (reseed_steady (steady_upd h)) (steady_upd h)

theorem cacheCounts_steady (h : Steady W s₀ s) : Steady W s₀ s.cacheCounts :=
  wr_steady (wr_steady (wr_steady h rfl) rfl) rfl

theorem useNode_steady {h' : Nat} (h : Steady W s₀ s) : Steady W s₀ (s.useNode h') := by
  unfold useNode
  refine steady_ite ?_ ?_
  · exact steady_upd h
  · split
    rename_i hp
    exact cacheCounts_steady (incSat_steady (steady_upd (steady_snd hp (drbgNext_steady h))) rfl)

theorem clearKeys_steady (h : Steady W s₀ s) : Steady W s₀ s.clearKeys := cacheCounts_steady (steady_upd h)

theorem keyRecovery_steady {cause : Nat} (h : Steady W s₀ s) : Steady W s₀ (s.keyRecovery cause) :=
  setKeyMode_steady (wr_steady (clearKeys_steady h) rfl)

theorem regenerate_steady {ber : Option Nat} (h : Steady W s₀ s) : Steady W s₀ (s.regenerate ber) := by
  unfold regenerate
  extract_lets _ _ s₁
  have h₁ : Steady W s₀ s₁ := steady_upd (wr_steady h rfl)
  split
  · exact setKeyMode_steady (steady_forEach useNode_steady (steady_ite (raise_steady (wr_steady (steady_upd (wr_steady
      (wr_steady h₁ rfl) rfl)) rfl)) (wr_steady (steady_upd (wr_steady (wr_steady h₁ rfl) rfl)) rfl)))
  · exact steady_ite (keyRecovery_steady h₁) h₁

theorem invalidate_steady {p : List (List Byte)} (h : Steady W s₀ s) : Steady W s₀ (s.invalidate p).2 :=
  steady_upd (modNode_steady h)

theorem rederiveOne_steady {p : List (List Byte)} (h : Steady W s₀ s) : Steady W s₀ (s.rederiveOne p) :=
  modNode_steady h

theorem rederive_steady {p : List (List Byte)} (h : Steady W s₀ s) : Steady W s₀ (s.rederive p) :=
  steady_forEach rederiveOne_steady h

theorem ownerTook_steady {g : OwnerSig} (h : Steady W s₀ s) : Steady W s₀ (s.ownerTook g) := wr_steady h rfl

/-! ### The host link (Sys2Proof/Machine/HostOps.lean) -/

theorem dropArmed_steady {k : Nat} (h : Steady W s₀ s) : Steady W s₀ (s.dropArmed k) := steady_upd h

theorem freeSlot_steady {k status : Nat} (h : Steady W s₀ s) : Steady W s₀ (s.freeSlot k status) :=
  setSlot_steady (dropArmed_steady h)

theorem abortCask_steady {k status failIdx failIsland result : Nat} (h : Steady W s₀ s) :
    Steady W s₀ (s.abortCask k status failIdx failIsland result) := by
  unfold abortCask
  extract_lets _ _ s₁ s₂
  have h₁ : Steady W s₀ s₁ := raise_steady (incSat_steady h rfl)
  have h₂ : Steady W s₀ s₂ := by
    unfold s₂
    split
    · exact complete_steady h₁
    · exact finalise_steady h₁
    · exact h₁
  exact freeSlot_steady h₂

theorem stage_steady {x : Ctx} {a : CaskAct} (h : Steady W s₀ s) : Steady W s₀ (s.stage x a) := by
  unfold stage
  split
  · exact complete_steady h
  · exact steady_ite (complete_steady h) (steady_ite (complete_steady h) (complete_steady (setSlot_steady h)))

theorem islandStop_steady {i : Nat} (h : Steady W s₀ s) : Steady W s₀ (s.islandStop i) :=
  wr_steady (wr_steady (wr_steady h rfl) rfl) rfl

theorem islandGo_steady {i : Nat} (h : Steady W s₀ s) : Steady W s₀ (s.islandGo i) :=
  wr_steady (wr_steady (wr_steady h rfl) rfl) rfl

theorem wakeRun_steady {cause : Nat} (h : Steady W s₀ s) : Steady W s₀ (s.wakeRun cause) :=
  steady_ite (raise_steady (wr_steady (steady_forEach islandGo_steady h) rfl)) h

theorem startRing_steady {kind : RingKind} {i : Nat} (h : Steady W s₀ s) : Steady W s₀ (s.startRing kind i) := by
  unfold startRing
  split
  · exact steady_ite (steady_host h) (wr_steady (wr_steady (steady_host (steady_host h)) rfl) rfl)
  · exact steady_host h
  · exact steady_host h
  · exact steady_host h

theorem writeFields_steady {fs : List Fld} {i image : Nat} (hfs : ∀ F ∈ fs, watched F = false) (h : Steady W s₀ s) :
    Steady W s₀ (s.writeFields fs i image) :=
  steady_forEach_fld id hfs (fun hF hx => wr_steady hx hF) h

theorem ringFields_unwatched (kind : RingKind) :
    ∀ F ∈ (ringKeyFields kind).2.1 :: ringFields kind, watched F = false := by
  cases kind <;> decide

theorem writeRing_steady {kind : RingKind} {i image : Nat} (h : Steady W s₀ s) :
    Steady W s₀ (s.writeRing kind i image) :=
  have herr := ringFields_unwatched kind _ (List.mem_cons_self ..)
  have hfs := fun F hF => ringFields_unwatched kind F (List.mem_cons_of_mem _ hF)
  have h₁ := writeFields_steady (i := i) (image := image) hfs h
  steady_ite (wr_steady h₁ herr) (steady_ite (wr_steady h₁ herr) (startRing_steady (wr_steady h₁ herr)))

theorem settleDestroys_steady (h : Steady W s₀ s) : Steady W s₀ s.settleDestroys :=
  steady_forEach (fun h₁ => steady_ite h₁ (complete_steady (wr_steady (steady_host h₁) rfl))) h

theorem start_steady {x : Ctx} (h : Steady W s₀ s) : Steady W s₀ (s.start x) := steady_host h

theorem command_steady {x : Ctx} {op inst : Nat} {act : Option CaskAct} {f : State → State} (h : Steady W s₀ s) (hf : ∀
    {s}, Steady W s₀ s → Steady W s₀ (f s)) :
    Steady W s₀ (s.command x op inst act f) := by
  unfold command
  extract_lets s₁ s₂ s₃ s₄
  have h₁ : Steady W s₀ s₁ := advance_steady h
  have h₂ : Steady W s₀ s₂ := start_steady h₁
  have h₃ : Steady W s₀ s₃ := steady_ite (wakeRun_steady h₂) h₂
  have h₄ : Steady W s₀ s₄ := by
    unfold s₄
    split
    · exact complete_steady h₃
    · split
      · exact hf h₃
      · refine steady_ite (complete_steady h₃) (steady_ite (stage_steady h₃) ?_)
        split
        · exact complete_steady h₃
        · exact hf h₃
  exact steady_ite h₁ (settleDestroys_steady h₄)

theorem creditTake_steady {c : Nat} (h : Steady W s₀ s) : Steady W s₀ (s.creditTake c) :=
  steady_ite (steady_host h) (steady_host h)

theorem fetchNext_steady {x : Ctx} {i : Nat} {d : Desc} {credit : Option Nat} (h : Steady W s₀ s) :
    Steady W s₀ (s.fetchNext x i d credit) :=
  steady_ite (complete_steady (syncCompleted_steady (setHist_steady (wr_steady (steady_host h) rfl)))) (steady_ite
    (complete_steady (syncCompleted_steady (setHist_steady (wr_steady (steady_host h) rfl)))) (steady_ite
    (complete_steady (syncCompleted_steady (setHist_steady (wr_steady (steady_host h) rfl)))) (steady_ite
    (complete_steady (syncCompleted_steady (setHist_steady (wr_steady (steady_host h) rfl)))) (syncCompleted_steady
    (setHist_steady (wr_steady (steady_host h) rfl))))))

theorem writeOther_steady {x : Ctx} {i : Nat} {d : Desc} {n : Nat} {old : Option Hist} (h : Steady W s₀ s) :
    Steady W s₀ (s.writeOther x i d n old) := by
  unfold writeOther
  split <;> exact writeCompletion_steady h

theorem fetchOther_steady {x : Ctx} {i : Nat} {d : Desc} {last : Nat} {credit : Option Nat} (h : Steady W s₀ s) :
    Steady W s₀ (s.fetchOther x i d last credit) :=
  writeOther_steady (creditBack_steady (issueSeq_steady h))

theorem fetchOne_steady {i : Nat} {d : Desc} (h : Steady W s₀ s) : Steady W s₀ (s.fetchOne i d) := by
  unfold fetchOne
  extract_lets _ _ _ _ _ s₁
  have h₁ : Steady W s₀ s₁ := steady_ite (steady_host h) (creditTake_steady (steady_host h))
  exact steady_ite (fetchNext_steady h₁) (fetchOther_steady h₁)

theorem grant_steady {from0 : List Nat} {descs : List (List Desc)} (h : Steady W s₀ s) :
    Steady W s₀ (s.grant from0 descs).1 := by
  unfold grant
  extract_lets _ s₁
  have h₁ : Steady W s₀ s₁ := steady_ite h (steady_host h)
  split
  · exact h₁
  · split
    · exact h₁
    · extract_lets s₂
      have h₂ : Steady W s₀ s₂ := steady_host h₁
      split
      · exact h₂
      · exact fetchOne_steady h₂

theorem grants_steady {from0 : List Nat} {descs : List (List Desc)} :
    ∀ {k : Nat} {s : State}, Steady W s₀ s → Steady W s₀ (grants k from0 descs s)
  | 0, _, h => h
  | k + 1, s, h => by
    unfold grants
    exact steady_ite (grants_steady (grant_steady h)) (grant_steady h)

theorem fetchRing_steady {i from0 : Nat} {descs : List Desc} :
    ∀ {k : Nat} {s : State}, Steady W s₀ s → Steady W s₀ (fetchRing k i from0 descs s)
  | 0, _, h => h
  | k + 1, s, h => by
    unfold fetchRing
    refine steady_ite ?_ h
    split
    · exact fetchRing_steady (fetchOne_steady h)
    · exact h

theorem releaseStops_steady : ∀ {k : Nat} {s : State}, Steady W s₀ s → Steady W s₀ (releaseStops k s)
  | 0, _, h => h
  | k + 1, s, h => by
    unfold releaseStops
    split
    · exact h
    · exact steady_ite (releaseStops_steady (putCompletion_steady (steady_host h))) h

theorem releaseCompletions_steady (h : Steady W s₀ s) : Steady W s₀ s.releaseCompletions :=
  steady_ite h (steady_forEach writeCompletion_steady (steady_host h))

theorem reportGap_steady {j : Nat} (h : Steady W s₀ s) : Steady W s₀ (s.reportGap j) :=
  steady_ite (putEvent_steady (steady_host (journal_steady (issueSeq_steady h)))) h

theorem coalesceDue_steady (h : Steady W s₀ s) : Steady W s₀ s.coalesceDue :=
  steady_forEach (fun h₁ => steady_ite (irq_steady (steady_host h₁)) h₁) h

/-! ### Cable tags (Sys2Proof/Machine/CableOps.lean) -/

theorem modCable_steady {n : Nat} {f : CableTag → CableTag} (h : Steady W s₀ s) : Steady W s₀ (s.modCable n f) :=
  steady_upd h

theorem setJobs_steady {js : List CableJob} (h : Steady W s₀ s) : Steady W s₀ (s.setJobs js) :=
  wr_steady (steady_upd h) rfl

theorem addJob_steady {j : CableJob} (h : Steady W s₀ s) : Steady W s₀ (s.addJob j) := by
  unfold addJob
  split <;> exact setJobs_steady h

theorem shadowGo_steady {n : Nat} (h : Steady W s₀ s) : Steady W s₀ (s.shadowGo n) :=
  steady_ite (raise_steady (steady_upd (wr_steady (wr_steady (addJob_steady (wr_steady h rfl)) rfl) rfl)))
    (addJob_steady (wr_steady h rfl))

theorem cableQueue_steady {n : Nat} (h : Steady W s₀ s) : Steady W s₀ (s.cableQueue n) :=
  steady_ite h (steady_ite (addJob_steady h) (shadowGo_steady (incSat_steady (addJob_steady h) rfl)))

theorem cableEnd_steady {n wh : Nat} (h : Steady W s₀ s) : Steady W s₀ (s.cableEnd n wh) :=
  steady_ite h (shadowGo_steady (addSat_steady (incSat_steady h rfl) rfl))

theorem cableOpening_steady {n : Nat} (h : Steady W s₀ s) : Steady W s₀ (s.cableOpening n) :=
  steady_ite h (shadowGo_steady (incSat_steady h rfl))

theorem cableRebind_steady {n : Nat} (h : Steady W s₀ s) : Steady W s₀ (s.cableRebind n) :=
  steady_ite h (addJob_steady (modCable_steady h))

/-! ### The safety channels (Sys2Proof/Machine/SafeOps.lean) -/

theorem modOutlet_steady {n : Nat} {f : Outlet → Outlet} (h : Steady W s₀ s) : Steady W s₀ (s.modOutlet n f) :=
  steady_upd h

theorem modOs_steady {n : Nat} {f : OutSafe → OutSafe} (h : Steady W s₀ s) : Steady W s₀ (s.modOs n f) := steady_upd h

theorem modCoil_steady {k : Nat} {f : Coil → Coil} (h : Steady W s₀ s) : Steady W s₀ (s.modCoil k f) := steady_upd h

theorem refreshSafeOk_steady (h : Steady W s₀ s) : Steady W s₀ s.refreshSafeOk :=
  steady_ite h (alert_steady (setFlag_steady h rfl) rfl)

theorem coilOff_steady {k demand : Nat} (h : Steady W s₀ s) : Steady W s₀ (s.coilOff k demand) :=
  modCoil_steady (steady_ite (steady_upd (raise_steady (incSat_steady h rfl))) h)

theorem noteOpening_steady {n : Nat} (h : Steady W s₀ s) : Steady W s₀ (s.noteOpening n) := by
  unfold noteOpening
  refine steady_ite h ?_
  extract_lets _ _ s₁
  have h₁ : Steady W s₀ s₁ := steady_ite (steady_forEach (fun hx => incSat_steady hx rfl) h) h
  exact modOs_steady (steady_ite (cableOpening_steady h₁) h₁)

theorem pmOff_steady {n : Nat} (h : Steady W s₀ s) : Steady W s₀ (s.pmOff n) := steady_ite (modOutlet_steady h) h

theorem openOutlet_steady {n demand : Nat} (h : Steady W s₀ s) : Steady W s₀ (s.openOutlet n demand) :=
  steady_forEach coilOff_steady (pmOff_steady (noteOpening_steady h))

theorem highOff_steady {n : Nat} (h : Steady W s₀ s) : Steady W s₀ (s.highOff n) :=
  steady_forEach (fun h₁ => steady_ite (coilOff_steady h₁) (modCoil_steady h₁)) (noteOpening_steady h)

theorem driveF_steady {n : Nat} (h : Steady W s₀ s) : Steady W s₀ (s.driveF n) := modOutlet_steady h

theorem stagePilot_steady {n : Nat} {p : PilotOut} (h : Steady W s₀ s) : Steady W s₀ (s.stagePilot n p) :=
  modOutlet_steady h

theorem stageSet_steady {n : Nat} {p : SetPoint} (h : Steady W s₀ s) : Steady W s₀ (s.stageSet n p) :=
  modOutlet_steady h

theorem dropClose_steady {n : Nat} (h : Steady W s₀ s) : Steady W s₀ (s.dropClose n) :=
  steady_ite h (steady_forEach complete_steady (modOutlet_steady h))

theorem caskSafety_steady {n : Nat} (h : Steady W s₀ s) : Steady W s₀ (s.caskSafety n) := by
  unfold caskSafety
  extract_lets
  refine steady_forEach (fun h₂ => ?_) (dropClose_steady h)
  extract_lets
  split
  · exact h₂
  · refine steady_ite (abortCask_steady h₂) (steady_ite ?_ h₂)
    split
    · exact modSlot_steady h₂
    · exact h₂

theorem erem_steady {n demand : Nat} (h : Steady W s₀ s) : Steady W s₀ (s.erem n demand) :=
  modOs_steady (caskSafety_steady (openOutlet_steady h))

theorem outletSafe_steady {n demand : Nat} (h : Steady W s₀ s) : Steady W s₀ (s.outletSafe n demand) :=
  modOs_steady (driveF_steady (erem_steady h))

theorem trip_steady {n code chan since : Nat} {latch : Bool} (h : Steady W s₀ s) :
    Steady W s₀ (s.trip n code chan since latch) :=
  steady_ite (steady_ite (modOs_steady h) h) (raise_steady (outletSafe_steady (modOs_steady h)))

theorem moduleTrip_steady {code chan since : Nat} (h : Steady W s₀ s) : Steady W s₀ (s.moduleTrip code chan since) :=
  steady_ite h (raise_steady (refreshSafeOk_steady (steady_forEach outletSafe_steady (steady_upd h))))

theorem clearFault_steady {n code : Nat} (h : Steady W s₀ s) : Steady W s₀ (s.clearFault n code) := modOs_steady h

theorem lateClose_steady {n : Nat} {owed : Option (Nat × Nat)} (h : Steady W s₀ s) :
    Steady W s₀ (s.lateClose n owed) := by
  unfold lateClose
  split
  · exact h
  · exact raise_steady (incSat_steady (steady_forEach modCoil_steady h) rfl)

theorem startPullIn_steady {k : Nat} (h : Steady W s₀ s) : Steady W s₀ (s.startPullIn k) :=
  steady_ite (lateClose_steady (modCoil_steady h)) h

theorem holdFrom_steady {k : Nat} (h : Steady W s₀ s) : Steady W s₀ (s.holdFrom k) := modCoil_steady h

theorem applyClose_steady {n : Nat} {refused : Bool} (h : Steady W s₀ s) : Steady W s₀ (s.applyClose n refused).1 :=
  steady_ite_fst h (steady_ite_fst (raise_steady h) (steady_forEach startPullIn_steady (steady_forEach modCoil_steady
    h)))

theorem startCurrent_steady {n : Nat} (h : Steady W s₀ s) : Steady W s₀ (s.startCurrent n).2 := by
  unfold startCurrent
  split
  · exact h
  · exact takeFree_steady h

theorem startMstop_steady {n reason : Nat} (h : Steady W s₀ s) : Steady W s₀ (s.startMstop n reason) := by
  unfold startMstop
  split
  · exact h
  · exact modOs_steady (startCurrent_steady h)

theorem mstopViolated_steady {n : Nat} (h : Steady W s₀ s) : Steady W s₀ (s.mstopViolated n) := by
  unfold mstopViolated
  exact raise_steady (driveF_steady (pmOff_steady (modOs_steady (highOff_steady h))))

theorem mstopCheck_steady {n : Nat} (h : Steady W s₀ s) : Steady W s₀ (s.mstopCheck n) := by
  unfold mstopCheck
  split
  · exact h
  · exact steady_ite (mstopViolated_steady h) (steady_ite (modOs_steady (openOutlet_steady h)) (modOs_steady h))

theorem overcurrentCheck_steady {n : Nat} (h : Steady W s₀ s) : Steady W s₀ (s.overcurrentCheck n).1 :=
  steady_ite_fst h (steady_ite_fst (trip_steady (modOs_steady h)) (steady_ite_fst (modOs_steady (modOs_steady h))
    (modOs_steady h)))

theorem rcmTrip_steady {n code chan : Nat} (h : Steady W s₀ s) : Steady W s₀ (s.rcmTrip n code chan) :=
  steady_ite h (steady_ite (trip_steady (trip_steady (modOs_steady (wr_steady (wr_steady h rfl) rfl)))) (trip_steady
    (modOs_steady (wr_steady (wr_steady h rfl) rfl))))

theorem rcmUpdate_steady {n : Nat} {b : Bool} (h : Steady W s₀ s) : Steady W s₀ (s.rcmUpdate n b) := by
  unfold rcmUpdate
  extract_lets _ _ _ _ s₁ s₂
  have h₁ : Steady W s₀ s₁ := modOs_steady h
  have h₂ : Steady W s₀ s₂ := steady_ite (wr_steady (wr_steady h₁ rfl) rfl) h₁
  split
  · exact rcmTrip_steady h₂
  · exact h₂

theorem sensorTrip_steady {n : Nat} (h : Steady W s₀ s) : Steady W s₀ (s.sensorTrip n) :=
  steady_ite h (trip_steady (wr_steady h rfl))

theorem testSensor_steady {n : Nat} (h : Steady W s₀ s) : Steady W s₀ (s.testSensor n) := steady_ite h (modOs_steady h)

theorem rcmSelfTest_steady {n : Nat} {offset : Int} {reading : Nat} (h : Steady W s₀ s) :
    Steady W s₀ (s.rcmSelfTest n offset reading) :=
  steady_ite (steady_forEach clearFault_steady (steady_upd (modOs_steady (setFlag_steady (wrInt_steady h rfl) rfl))))
    (sensorTrip_steady (steady_upd (modOs_steady (setFlag_steady (wrInt_steady h rfl) rfl))))

theorem prewarnNote_steady {n : Nat} (h : Steady W s₀ s) : Steady W s₀ (s.prewarnNote n) := modOs_steady h

theorem shuntOn_steady {n : Nat} (h : Steady W s₀ s) : Steady W s₀ (s.shuntOn n) :=
  modOs_steady (steady_upd (setFlag_steady h rfl))

theorem shuntKeep_steady {n : Nat} (h : Steady W s₀ s) : Steady W s₀ (s.shuntKeep n) := steady_ite (modOs_steady h) h

theorem weldCheck_steady {n : Nat} (h : Steady W s₀ s) : Steady W s₀ (s.weldCheck n) :=
  steady_ite (modOs_steady h) (raise_steady (steady_ite (shuntOn_steady (trip_steady (modOs_steady h))) (trip_steady
    (modOs_steady h))))

/-! ### Records (Sys2Proof/Machine/RecordOps.lean) -/

theorem setWall_steady {ms : Nat} (h : Steady W s₀ s) : Steady W s₀ (s.setWall ms) :=
  steady_upd (wr_steady (wrInt_steady (wr_steady h rfl) rfl) rfl)

theorem issueNum_steady (h : Steady W s₀ s) : Steady W s₀ s.issueNum.2 := by
  unfold issueNum
  split <;> exact steady_upd h

theorem reserveNums_steady {k : Nat} (h : Steady W s₀ s) : Steady W s₀ (s.reserveNums k).2 := steady_upd h

theorem appendAs_steady {num kind mp wall ledger flags epoch : Nat} {body : List (Nat × Nat)} (h : Steady W s₀ s) :
    Steady W s₀ (s.appendAs num kind mp wall ledger flags epoch body).2 :=
  raise_steady (addSat_steady (wr_steady (wr_steady (steady_upd h) rfl) rfl) rfl)

theorem appendCore_steady {kind mp : Nat} {body : List (Nat × Nat)} (h : Steady W s₀ s) :
    Steady W s₀ (s.appendCore kind mp body).2 :=
  appendAs_steady (issueNum_steady h)

theorem tamperCount_steady {ty k : Nat} (h : Steady W s₀ s) : Steady W s₀ (s.tamperCount ty k) :=
  wr_steady (addSat_steady (steady_ite (wr_steady h rfl) h) rfl) rfl

theorem overwritten_steady {lost : List Nat} (h : Steady W s₀ s) : Steady W s₀ (s.overwritten lost) :=
  steady_ite h (raise_steady (appendCore_steady (tamperCount_steady h)))

theorem append_steady {kind mp : Nat} {body : List (Nat × Nat)} (h : Steady W s₀ s) :
    Steady W s₀ (s.append kind mp body) :=
  overwritten_steady (appendCore_steady h)

theorem appendNum_steady {num : Option Nat} {kind mp : Nat} {body : List (Nat × Nat)} (h : Steady W s₀ s) :
    Steady W s₀ (s.appendNum num kind mp body) := by
  unfold appendNum
  split
  · exact append_steady h
  · exact overwritten_steady (appendAs_steady h)

theorem appendTimed_steady {num : Option Nat} {kind mp wall ledger flags : Nat} {body : List (Nat × Nat)}
    (h : Steady W s₀ s) : Steady W s₀ (s.appendTimed num kind mp wall ledger flags body) := by
  cases num with
  | some n => exact overwritten_steady (appendAs_steady h)
  | none => exact overwritten_steady (appendAs_steady (issueNum_steady h))

theorem tamperMany_steady {ty detail k : Nat} (h : Steady W s₀ s) : Steady W s₀ (s.tamperMany ty detail k) :=
  steady_ite h (raise_steady (append_steady (tamperCount_steady h)))

theorem tamper_steady {ty detail : Nat} (h : Steady W s₀ s) : Steady W s₀ (s.tamper ty detail) := tamperMany_steady h

theorem partitionDenied_steady {ini target : Nat} {r : Res} (h : Steady W s₀ s) :
    Steady W s₀ (s.partitionDenied ini target r) :=
  steady_ite (tamper_steady (wr_steady (wr_steady (alert_steady (incSat_steady h rfl) rfl) rfl) rfl)) (steady_ite
    (tamper_steady (wr_steady (wr_steady (alert_steady (incSat_steady h rfl) rfl) rfl) rfl)) (wr_steady (wr_steady
    (alert_steady (incSat_steady h rfl) rfl) rfl) rfl))

theorem signKeyChanged_steady (h : Steady W s₀ s) : Steady W s₀ s.signKeyChanged := tamper_steady h

theorem signOldest_steady (h : Steady W s₀ s) : Steady W s₀ s.signOldest := by
  unfold signOldest
  split
  · exact steady_ite h (wr_steady (steady_upd (useNode_steady (steady_ite (signKeyChanged_steady (rederive_steady h))
      h))) rfl)
  · exact h

theorem calNote_steady {off old new : Nat} (h : Steady W s₀ s) : Steady W s₀ (s.calNote off old new) := by
  unfold calNote
  extract_lets _ s₁
  have h₁ : Steady W s₀ s₁ := by
    unfold s₁
    split
    · exact steady_upd h
    · exact h
  exact tamper_steady h₁

/-! ### Metering (Sys2Proof/Machine/MetOps.lean) -/

theorem modMp_steady {m : Nat} {f : MeterPoint → MeterPoint} (h : Steady W s₀ s) : Steady W s₀ (s.modMp m f) :=
  steady_upd h

theorem modTrk_steady {m : Nat} {f : Trk → Trk} (h : Steady W s₀ s) : Steady W s₀ (s.modTrk m f) := steady_upd h

theorem setChain_steady {c : Nat} {h' : Chain} (h : Steady W s₀ s) : Steady W s₀ (s.setChain c h') := steady_upd h

theorem setSamples_steady {c : Nat} {l : List GridSample} (h : Steady W s₀ s) : Steady W s₀ (s.setSamples c l) :=
  steady_upd h

theorem updateGd_steady {c : Nat} (h : Steady W s₀ s) : Steady W s₀ (s.updateGd c) :=
  wrInt_steady (wrInt_steady h rfl) rfl

theorem setMpState_steady {m new role : Nat} (h : Steady W s₀ s) : Steady W s₀ (s.setMpState m new role) := by
  unfold setMpState
  extract_lets _ s₁ _ s₂ s₃ s₄
  have h₁ : Steady W s₀ s₁ := raise_steady (wr_steady h rfl)
  have h₂ : Steady W s₀ s₂ := steady_ite (tamper_steady (raise_steady h₁)) h₁
  have h₃ : Steady W s₀ s₃ := steady_ite (raise_steady h₂) h₂
  have h₄ : Steady W s₀ s₄ := steady_ite (modMp_steady h₃) h₃
  exact steady_ite h (steady_ite (modMp_steady h₄) h₄)

theorem mpEval_steady {m : Nat} (h : Steady W s₀ s) : Steady W s₀ (s.mpEval m) := setMpState_steady h

theorem mpEvalAll_steady (h : Steady W s₀ s) : Steady W s₀ s.mpEvalAll := steady_forEach mpEval_steady h

theorem auxDecide_steady (h : Steady W s₀ s) : Steady W s₀ s.auxDecide := by
  unfold auxDecide
  split
  · exact steady_ite h (steady_ite (steady_upd (steady_upd h)) (steady_ite (incSat_steady (steady_upd h) rfl)
      (raise_steady (steady_upd (incSat_steady (steady_upd h) rfl)))))
  · exact h

theorem auxUnlocked_steady {m : Nat} (h : Steady W s₀ s) : Steady W s₀ (s.auxUnlocked m) := by
  unfold auxUnlocked
  split
  · exact steady_ite (steady_upd h) h
  · exact h

theorem setTrk_steady {m new reason : Nat} (h : Steady W s₀ s) : Steady W s₀ (s.setTrk m new reason) := by
  unfold setTrk
  extract_lets _ s₁ s₂
  have h₁ : Steady W s₀ s₁ := wr_steady (auxDecide_steady h) rfl
  have h₂ : Steady W s₀ s₂ := steady_ite (auxUnlocked_steady (incSat_steady h₁ rfl)) h₁
  exact raise_steady (steady_ite h₂ (steady_forEach (fun h₃ => wr_steady (wr_steady h₃ rfl) rfl) h₂))

theorem openCycle_steady {m z p : Nat} (h : Steady W s₀ s) : Steady W s₀ (s.openCycle m z p) :=
  wr_steady (wr_steady (wr_steady (modTrk_steady h) rfl) rfl) rfl

theorem gridRuns_steady {m : Nat} (h : Steady W s₀ s) : Steady W s₀ (s.gridRuns m) := steady_ite (openCycle_steady h) h

theorem clearTrk_steady {m : Nat} (h : Steady W s₀ s) : Steady W s₀ (s.clearTrk m) := modTrk_steady h

theorem trkRefresh_steady {m : Nat} (h : Steady W s₀ s) : Steady W s₀ (s.trkRefresh m) :=
  steady_ite (setTrk_steady (clearTrk_steady h)) (steady_ite (setTrk_steady (clearTrk_steady (gridRuns_steady h))) h)

theorem trkRefreshAll_steady (h : Steady W s₀ s) : Steady W s₀ s.trkRefreshAll := steady_forEach trkRefresh_steady h

theorem finishBlend_steady {b : Blend} {cs : List Nat} {t1 cut : Nat} (h : Steady W s₀ s) :
    Steady W s₀ (s.finishBlend b cs t1 cut) := by
  unfold finishBlend
  extract_lets _ _ _ _ _ _ s₁ s₂
  have h₁ : Steady W s₀ s₁ := raise_steady (steady_forEach (fun hx => wr_steady hx rfl) (steady_upd h))
  have h₂ : Steady W s₀ s₂ := by
    unfold s₂
    split
    · exact raise_steady h₁
    · exact h₁
  exact steady_ite h₁ (finaliseOpt_steady h₂)

theorem cutBlend_steady {c : Nat} (h : Steady W s₀ s) : Steady W s₀ (s.cutBlend c) := by
  unfold cutBlend
  split
  · exact h
  · exact finishBlend_steady h

theorem emptyChain_steady {c : Nat} (h : Steady W s₀ s) : Steady W s₀ (s.emptyChain c) :=
  setSamples_steady (setChain_steady h)

theorem restartChain_steady {c : Nat} (h : Steady W s₀ s) : Steady W s₀ (s.restartChain c) :=
  steady_forEach mpEval_steady (updateGd_steady (cutBlend_steady (wr_steady (wr_steady (wr_steady (emptyChain_steady
    (steady_upd h)) rfl) rfl) rfl)))

theorem startBlend_steady {cs : List Nat} {ctx : Option Ctx} {cal : Option (List Nat)} (h : Steady W s₀ s) :
    Steady W s₀ (s.startBlend cs ctx cal) :=
  steady_upd (steady_forEach (fun hx => wr_steady hx rfl) h)

theorem filtOverflow_steady {c stages k : Nat} (h : Steady W s₀ s) : Steady W s₀ (s.filtOverflow c stages k) :=
  steady_ite (raise_steady (steady_upd (addSat_steady (wr_steady h rfl) rfl))) (steady_upd (addSat_steady (wr_steady h
    rfl) rfl))

/-! ### Tariffs (Sys2Proof/Machine/TariffOps.lean) -/

theorem modAcct_steady {m : Nat} {f : Account → Account} (h : Steady W s₀ s) : Steady W s₀ (s.modAcct m f) :=
  steady_upd h

/-! ### The displays (Sys2Proof/Machine/DispOps.lean) -/

theorem setRegion_steady {r : Nat} {d : DRegion} (h : Steady W s₀ s) : Steady W s₀ (s.setRegion r d) := steady_upd h

theorem bandShow_steady (h : Steady W s₀ s) : Steady W s₀ s.bandShow := wr_steady h rfl

theorem dispTemp_steady {v : Int} {ovr : Bool} (h : Steady W s₀ s) : Steady W s₀ (s.dispTemp v ovr) :=
  bandShow_steady (steady_ite (steady_upd (steady_upd (setFlag_steady (wrInt_steady h rfl) rfl))) (raise_steady
    (steady_upd (steady_upd (setFlag_steady (wrInt_steady h rfl) rfl)))))

theorem dispAux_steady {i v : Nat} {ovr : Bool} (h : Steady W s₀ s) : Steady W s₀ (s.dispAux i v ovr) :=
  steady_ite (dispTemp_steady h) h

theorem dispWake_steady (h : Steady W s₀ s) : Steady W s₀ s.dispWake :=
  steady_ite h (steady_ite (steady_upd h) (steady_ite (wr_steady h rfl) h))

theorem dispTake_steady {st : RegSt} {x y w h' mode : Nat} {c : Option Ctx} {cask : Nat} (h : Steady W s₀ s) :
    Steady W s₀ (s.dispTake st x y w h' mode c cask) := by
  unfold dispTake
  split
  · exact h
  · exact steady_upd (setRegion_steady h)

theorem dispStart_steady {x y w h' mode : Nat} {c : Option Ctx} (h : Steady W s₀ s) :
    Steady W s₀ (s.dispStart x y w h' mode c) := by
  unfold dispStart
  refine steady_ite h ?_
  extract_lets x₁ s₁
  clear_value x₁
  have h₁ : Steady W s₀ s₁ := by
    unfold s₁
    split
    · exact setRegion_steady h
    · exact dispTake_steady h
  exact dispWake_steady h₁

theorem dispArm_steady {k : Nat} {a : CaskAct} (h : Steady W s₀ s) : Steady W s₀ (s.dispArm k a) := by
  unfold dispArm
  split
  · exact steady_ite h (dispTake_steady h)
  · exact h

theorem latchRegion_steady {r : Nat} {d : DRegion} (h : Steady W s₀ s) : Steady W s₀ (s.latchRegion r d) :=
  setRegion_steady h

theorem startRegion_steady {r : Nat} (h : Steady W s₀ s) : Steady W s₀ (s.startRegion r) :=
  latchRegion_steady (steady_upd h)

theorem vintageFrame_steady (h : Steady W s₀ s) : Steady W s₀ s.vintageFrame := steady_upd h

theorem imbalance_steady (h : Steady W s₀ s) : Steady W s₀ s.imbalance :=
  steady_forEach (fun h₁ => steady_ite (raise_steady (steady_upd h₁)) (steady_ite (steady_upd h₁) h₁)) h

theorem meterDisp_steady (h : Steady W s₀ s) : Steady W s₀ s.meterDisp := steady_ite (islandStop_steady h) h

theorem dispIdle_steady (h : Steady W s₀ s) : Steady W s₀ s.dispIdle :=
  steady_ite (meterDisp_steady (wr_steady (steady_upd (steady_ite h (wr_steady h rfl))) rfl)) h

theorem dropRegion_steady {r code status : Nat} (h : Steady W s₀ s) : Steady W s₀ (s.dropRegion r code status) :=
  finaliseOpt_steady (raise_steady (setRegion_steady h))

theorem cutRegion_steady {stop : Option Nat} {r : Nat} (h : Steady W s₀ s) : Steady W s₀ (s.cutRegion stop r) :=
  setRegion_steady (steady_ite h (incSat_steady h rfl))

theorem dispCut_steady {stop : Option Nat} (h : Steady W s₀ s) : Steady W s₀ (s.dispCut stop) :=
  steady_upd (wr_steady (wr_steady (steady_forEach cutRegion_steady h) rfl) rfl)

theorem legalContent_steady (h : Steady W s₀ s) : Steady W s₀ s.legalContent.2 := steady_ite_snd (takeFree_steady h) h

theorem paintStep_steady {p : SegPaint} (h : Steady W s₀ s) : Steady W s₀ (s.paintStep p) := steady_upd h

theorem segSteps_steady : ∀ {k : Nat} {s : State}, Steady W s₀ s → Steady W s₀ (segSteps k s)
  | 0, _, h => h
  | k + 1, s, h => by
    unfold segSteps
    split
    · exact h
    · refine steady_ite h ?_
      split
      · exact segSteps_steady (paintStep_steady (steady_upd h))
      · exact segSteps_steady (paintStep_steady (steady_upd h))
      · exact segSteps_steady (paintStep_steady (steady_upd h))
      · exact segSteps_steady (paintStep_steady (raise_steady (steady_upd (steady_upd h))))
      · exact steady_ite (steady_upd (steady_upd h)) (segSteps_steady (paintStep_steady (steady_upd (steady_upd h))))

theorem segPaint_steady {content : Nat} (h : Steady W s₀ s) : Steady W s₀ (s.segPaint content) := by
  unfold segPaint
  extract_lets
  split
  · exact steady_upd h
  · exact segSteps_steady (steady_upd (steady_upd h))

theorem legalRepaint_steady (h : Steady W s₀ s) : Steady W s₀ s.legalRepaint :=
  segPaint_steady (legalContent_steady (steady_upd h))

theorem segRecover_steady (h : Steady W s₀ s) : Steady W s₀ s.segRecover := by
  unfold segRecover
  split
  · exact h
  · exact segSteps_steady (steady_upd h)

/-! ### Host (Sys2Proof/Machine/Host.lean) -/

theorem resetHostRegs_steady (h : Steady W s₀ s) : Steady W s₀ s.resetHostRegs :=
  steady_forEach (fun {r _} h₁ => steady_forEach_fld id (ringFields_unwatched r.1) (fun hF hx => toReset_steady hx hF)
    h₁) (steady_forEach_fld id (by decide) (fun hF hx => toReset_steady hx hF) h)

theorem leaveStatus_steady (h : Steady W s₀ s) : Steady W s₀ s.leaveStatus := steady_host h

theorem resetHostParts_steady (h : Steady W s₀ s) : Steady W s₀ s.resetHostParts := steady_host h

theorem detach_steady {cause : DetachCause} (h : Steady W s₀ s) : Steady W s₀ (s.detach cause) := by
  unfold detach
  extract_lets _ s₁ _ _ _ _ _ s₂ _ _ s₃ s₄
  have h₁ : Steady W s₀ s₁ := steady_ite (leaveStatus_steady h) h
  have h₂ : Steady W s₀ s₂ := steady_forEach holdCompletion_steady (steady_host (steady_ite (leaveStatus_steady
    (wr_steady h₁ rfl)) (wr_steady h₁ rfl)))
  have h₃ : Steady W s₀ s₃ := by
    unfold s₃
    split
    · exact wr_steady h₂ rfl
    · exact h₂
    · exact steady_host (resetHostParts_steady (resetHostRegs_steady h₂))
    · exact resetHostParts_steady (resetHostRegs_steady h₂)
  have h₄ : Steady W s₀ s₄ := steady_ite (raise_steady (wr_steady h₃ rfl)) h₃
  exact steady_ite (raise_steady h₄) h₄

theorem drainStream_steady : ∀ {k src j : Nat} {s : State}, Steady W s₀ s → Steady W s₀ (drainStream k src j s)
  | 0, _, _, _, h => h
  | k + 1, src, j, s, h => by
    unfold drainStream
    extract_lets x₁
    clear_value x₁
    split
    · exact h
    · exact steady_ite h (drainStream_steady (irq_steady (notify_steady (steady_host h))))

theorem drainSource_steady {src : Nat} (h : Steady W s₀ s) : Steady W s₀ (s.drainSource src) := by
  unfold drainSource
  refine steady_ite h ?_
  split
  · exact h
  · exact drainStream_steady h

theorem drainAll_steady (h : Steady W s₀ s) : Steady W s₀ s.drainAll := steady_forEach drainSource_steady h

theorem streamBlock_steady {src : Nat} {b : StreamBlock} (h : Steady W s₀ s) : Steady W s₀ (s.streamBlock src b) :=
  drainSource_steady (steady_host (drainSource_steady h))

theorem noteBuffers_steady {j : Nat} {bufs : List Nat} (h : Steady W s₀ s) : Steady W s₀ (s.noteBuffers j bufs) :=
  steady_host h

theorem attach_steady (h : Steady W s₀ s) : Steady W s₀ s.attach :=
  steady_ite (wr_steady h rfl) (steady_ite (steady_host (wr_steady h rfl)) (notifIrq_steady (drainAll_steady
    (steady_ite (irq_steady (raise_steady (steady_host (wr_steady (wr_steady h rfl) rfl)))) (raise_steady (steady_host
    (wr_steady (wr_steady h rfl) rfl)))))))

theorem popNotif_steady {flips : Nat} (h : Steady W s₀ s) : Steady W s₀ (s.popNotif flips) := by
  unfold popNotif
  extract_lets _ s₁
  have h₁ : Steady W s₀ s₁ := steady_ite (steady_host h) h
  split
  · exact steady_host h₁
  · exact notifIrq_steady (steady_host (steady_ite (incSat_steady h₁ rfl) (steady_ite (incSat_steady h₁ rfl) h₁)))

theorem configure_steady {req : CfgReq} (h : Steady W s₀ s) : Steady W s₀ (s.configure req) := by
  unfold configure
  extract_lets
  split <;> exact steady_host h

/-! ### The sampling front end (Sys2Proof/Machine/AfeOps.lean) -/

theorem setCap_steady {p : Nat} {c : Capture} (h : Steady W s₀ s) : Steady W s₀ (s.setCap p c) := steady_upd h

theorem endCapture_steady {p : Nat} (h : Steady W s₀ s) : Steady W s₀ (s.endCapture p) :=
  setFlag_steady (wr_steady (setCap_steady h) rfl) rfl

theorem setWave_steady {m : Nat} {c : Capture} (h : Steady W s₀ s) : Steady W s₀ (s.setWave m c) := steady_upd h

theorem sourceBlock_steady {src mtbFirst : Nat} {data : List (List Int)} (h : Steady W s₀ s) :
    Steady W s₀ (s.sourceBlock src mtbFirst data) := by
  unfold sourceBlock
  refine steady_ite ?_ (drainSource_steady h)
  extract_lets _ _ _ _ s₁
  have h₁ : Steady W s₀ s₁ := streamBlock_steady (setCap_steady (steady_ite (addSat_steady h rfl) h))
  exact steady_ite h (steady_ite h₁ (endCapture_steady h₁))

theorem setWaveRecs_steady {m : Nat} {rs : List (List Int)} (h : Steady W s₀ s) : Steady W s₀ (s.setWaveRecs m rs) :=
  steady_upd h

theorem waveAdd_steady {m : Nat} {r : List Int} (h : Steady W s₀ s) : Steady W s₀ (s.waveAdd m r) :=
  steady_ite h (setWaveRecs_steady (setWave_steady h))

theorem waveBlock_steady {m : Nat} (h : Steady W s₀ s) : Steady W s₀ (s.waveBlock m) :=
  steady_ite (drainSource_steady h) (streamBlock_steady (setWaveRecs_steady h))

theorem startEntry_steady {q e : Nat} (h : Steady W s₀ s) : Steady W s₀ (s.startEntry q e) := steady_upd h

theorem startPass_steady {conv : Nat} (h : Steady W s₀ s) : Steady W s₀ (s.startPass conv) := by
  unfold startPass
  split
  · exact h
  · split
    · exact startEntry_steady (steady_upd h)
    · exact h

theorem putSeq_steady {q ctl : Nat} {ents : List Nat} (h : Steady W s₀ s) : Steady W s₀ (s.putSeq q ctl ents) :=
  steady_forEach (fun h₁ => save_steady (save_steady (save_steady h₁))) (steady_forEach (fun hx => save_steady hx)
    (steady_forEach (fun hx => writeFields_steady (by decide) hx) (wr_steady (writeFields_steady (by decide) h) rfl)))

theorem padc10_steady (h : Steady W s₀ s) : Steady W s₀ s.padc10 := setFlag_steady h rfl

theorem stopSeq_steady {q : Nat} (h : Steady W s₀ s) : Steady W s₀ (s.stopSeq q) :=
  steady_upd (padc10_steady (save_steady (wr_steady h rfl)))

theorem loadSeq_steady {q ctl : Nat} {ents : List Nat} (h : Steady W s₀ s) : Steady W s₀ (s.loadSeq q ctl ents) :=
  steady_ite (padc10_steady (putSeq_steady h)) (stopSeq_steady (putSeq_steady h))

theorem auxSlowNote_steady {before : State} (h : Steady W s₀ s) : Steady W s₀ (s.auxSlowNote before) :=
  steady_forEach raise_steady h

theorem auxSlowAll_steady (h : Steady W s₀ s) : Steady W s₀ s.auxSlowAll := steady_forEach raise_steady h

theorem endPass_steady {conv q : Nat} (h : Steady W s₀ s) : Steady W s₀ (s.endPass conv q) := by
  unfold endPass
  extract_lets _ _ _ _ s₁
  have h₁ : Steady W s₀ s₁ := by
    unfold s₁
    split
    · exact loadSeq_steady (steady_upd (steady_upd h))
    · exact steady_upd h
  exact auxSlowNote_steady (startPass_steady (startPass_steady (steady_ite (stopSeq_steady h₁) h₁)))

theorem auxValue_steady {i conv : Nat} {code : Int} (h : Steady W s₀ s) : Steady W s₀ (s.auxValue i conv code).2 :=
  steady_ite_snd h (takeFree_steady h)

theorem insertDelay_steady {conv ns : Nat} (h : Steady W s₀ s) : Steady W s₀ (s.insertDelay conv ns) := steady_upd h

theorem auxRecord_steady {i flags value : Nat} (h : Steady W s₀ s) : Steady W s₀ (s.auxRecord i flags value) :=
  steady_ite h (steady_ite (steady_upd h) (streamBlock_steady (steady_upd (steady_upd h))))

theorem auxConvert_steady {i conv : Nat} {xs : List Int} {trip fixedT lost : Bool} (h : Steady W s₀ s) :
    Steady W s₀ (s.auxConvert i conv xs trip fixedT lost).2 := by
  unfold auxConvert
  extract_lets
  split
  rename_i hp
  have h₁ := steady_snd hp (auxValue_steady h)
  extract_lets _ _ _ s₂ s₃
  have h₂ : Steady W s₀ s₂ := steady_upd (wr_steady (setFlag_steady (setFlag_steady (setFlag_steady (wrInt_steady
    (wr_steady h₁ rfl) rfl) rfl) rfl) rfl) rfl)
  have h₃ : Steady W s₀ s₃ := steady_ite (addSat_steady h₂ rfl) h₂
  exact dispAux_steady (auxRecord_steady (steady_ite (incSat_steady h₃ rfl) h₃))

theorem calConvert_steady {i conv : Nat} {samples : List Int} {trip : Bool} (h : Steady W s₀ s) :
    Steady W s₀ (s.calConvert i conv samples trip).2.2 :=
  insertDelay_steady (auxConvert_steady h)

theorem noteFast_steady {r : AuxRun} {i : Nat} (h : Steady W s₀ s) : Steady W s₀ (s.noteFast r i) :=
  steady_ite (steady_upd h) h

/-! ### The ledger (Sys2Proof/Machine/LedgerOps.lean) -/

theorem touFields_unwatched {six : List Nat} : ∀ p ∈ touFields.zip six, watched p.1 = false :=
  fun _ hp => (by decide : ∀ F ∈ touFields, watched F = false) _ (List.of_mem_zip hp).1

theorem touAdd_steady {m t : Nat} {six : List Nat} (h : Steady W s₀ s) : Steady W s₀ (s.touAdd m t six) :=
  steady_forEach_fld Prod.fst touFields_unwatched (fun hF hx => wr_steady hx hF) h

theorem touSub_steady {m t : Nat} {six : List Nat} (h : Steady W s₀ s) : Steady W s₀ (s.touSub m t six) :=
  steady_forEach_fld Prod.fst touFields_unwatched (fun hF hx => wr_steady hx hF) h

theorem modLsess_steady {n : Nat} {f : LSession → LSession} (h : Steady W s₀ s) : Steady W s₀ (s.modLsess n f) :=
  steady_upd h

theorem newSession_steady (h : Steady W s₀ s) : Steady W s₀ s.newSession.2 := steady_upd h

theorem closeRecord_steady {n extra est : Nat} (h : Steady W s₀ s) : Steady W s₀ (s.closeRecord n extra est) :=
  modLsess_steady (appendNum_steady h)

theorem closeFinal_steady {m : Nat} (h : Steady W s₀ s) : Steady W s₀ (s.closeFinal m) :=
  steady_forEach closeRecord_steady (wr_steady h rfl)

theorem takeNum_steady (h : Steady W s₀ s) : Steady W s₀ s.takeNum.2 := by
  unfold takeNum
  split
  · exact steady_upd h
  · exact h

theorem readNoted_steady {group : Nat} (h : Steady W s₀ s) : Steady W s₀ (s.readNoted group) := by
  unfold readNoted
  extract_lets
  split
  · exact h
  · extract_lets
    refine steady_ite (steady_upd h) ?_
    split
    · exact complete_steady (steady_upd h)
    · exact steady_upd h

theorem flushPend_steady {p : PendRec} (h : Steady W s₀ s) : Steady W s₀ (s.flushPend p) :=
  steady_ite (readNoted_steady (appendTimed_steady (steady_upd h))) (appendTimed_steady (modLsess_steady (steady_upd
    h)))

theorem flushPends_steady {m upTo : Nat} (h : Steady W s₀ s) : Steady W s₀ (s.flushPends m upTo) :=
  steady_forEach flushPend_steady h

theorem queueRecord_steady {p : PendRec} (h : Steady W s₀ s) : Steady W s₀ (s.queueRecord p) :=
  steady_ite (steady_upd h) (flushPend_steady h)

theorem metOpen_steady {m sess at_ : Nat} (h : Steady W s₀ s) : Steady W s₀ (s.metOpen m sess at_) :=
  modMp_steady (wr_steady (wr_steady (wr_steady (wr_steady (wr_steady (wr_steady h rfl) rfl) rfl) rfl) rfl) rfl)

theorem metClose_steady {m at_ : Nat} (h : Steady W s₀ s) : Steady W s₀ (s.metClose m at_) :=
  steady_ite (wr_steady (modMp_steady (wr_steady h rfl)) rfl) (closeFinal_steady (modMp_steady (wr_steady h rfl)))

theorem recOpen_steady {n m : Nat} {i : Identity} {price at_ : Nat} (h : Steady W s₀ s) :
    Steady W s₀ (s.recOpen n m i price at_) :=
  queueRecord_steady (modLsess_steady (takeNum_steady (wr_steady (steady_ite_snd (newSession_steady h) h) rfl)))

theorem recClose_steady {n reason at_ : Nat} (h : Steady W s₀ s) : Steady W s₀ (s.recClose n reason at_) :=
  steady_ite h (steady_ite (metClose_steady (modLsess_steady (takeNum_steady h))) (steady_ite (modLsess_steady
    (takeNum_steady h)) (closeRecord_steady (modLsess_steady (takeNum_steady h)))))

theorem noteCounts_steady {n : Nat} (h : Steady W s₀ s) : Steady W s₀ (s.noteCounts n) :=
  steady_ite (modLsess_steady h) h

theorem readStart_steady {mask at_ : Nat} {ctx : Option Ctx} (h : Steady W s₀ s) :
    Steady W s₀ (s.readStart mask at_ ctx) := by
  unfold readStart
  extract_lets _ _ _ _ s₁
  have h₁ : Steady W s₀ s₁ := steady_forEach (fun h₁ => steady_upd (takeNum_steady h₁)) (steady_upd h)
  exact steady_ite (readNoted_steady h₁) (steady_forEach (fun h₃ => steady_ite h₃ (flushPends_steady h₃)) h₁)

theorem readSigned_steady {mask at_ : Nat} (h : Steady W s₀ s) : Steady W s₀ (s.readSigned mask at_).2 :=
  readStart_steady h

theorem backlog_steady {k : Nat} (h : Steady W s₀ s) : Steady W s₀ (s.backlog k) :=
  steady_ite (raise_steady (wr_steady (steady_upd h) rfl)) (wr_steady (steady_upd h) rfl)

theorem energyPart_steady {m start until_ : Nat} {inc : List Nat} (h : Steady W s₀ s) :
    Steady W s₀ (s.energyPart m start until_ inc) := by
  unfold energyPart
  extract_lets _ _ _ _ _ _ _ s₁
  have h₁ : Steady W s₀ s₁ := modAcct_steady (touAdd_steady (wr_steady (steady_forEach (fun hx => wr_steady hx rfl) h)
    rfl))
  exact modMp_steady (steady_forEach modLsess_steady (steady_ite (wr_steady (wr_steady h₁ rfl) rfl) h₁))

theorem flowTrack_steady {m : Nat} {export_ : Bool} {start : Nat} (h : Steady W s₀ s) :
    Steady W s₀ (s.flowTrack m export_ start) :=
  steady_ite (modMp_steady h) (steady_ite (raise_steady (modMp_steady h)) (modMp_steady h))

/-- The last demand of a meter point, one field for each of the four sums. -/
def demandLast : List Fld :=
  [R.LEDGER_DEMAND_LAST_IMP_W, R.LEDGER_DEMAND_LAST_EXP_W, R.LEDGER_DEMAND_LAST_RIMP_VAR, R.LEDGER_DEMAND_LAST_REXP_VAR]

theorem demandLast_unwatched : ∀ F ∈ demandLast, watched F = false := by decide

theorem demandClose_steady {m at_ wall flags : Nat} (h : Steady W s₀ s) :
    Steady W s₀ (s.demandClose m at_ wall flags) := by
  unfold demandClose
  extract_lets _ _ _ _ _ _ _ _ _ _ _ _ _ s₁ s₂
  have h₁ : Steady W s₀ s₁ := steady_forEach (fun h₁ => steady_ite (steady_upd h₁) h₁) (wr_steady (wr_steady (wr_steady
    (steady_forEach_fld Prod.fst (fun _ hp => demandLast_unwatched _ (List.of_mem_zip hp).1)
      (fun hF hx => wr_steady hx hF) (modAcct_steady h)) rfl) rfl) rfl)
  have h₂ : Steady W s₀ s₂ := steady_ite (wr_steady (wr_steady h₁ rfl) rfl) h₁
  exact steady_ite (raise_steady h₂) h₂

theorem tariffGo_steady {m at_ tariff : Nat} (h : Steady W s₀ s) : Steady W s₀ (s.tariffGo m at_ tariff) :=
  steady_ite h (steady_forEach modLsess_steady (modAcct_steady (touAdd_steady (touSub_steady h))))

theorem billClose_steady {at_ wallMs_ cause flags : Nat} (h : Steady W s₀ s) :
    Steady W s₀ (s.billClose at_ wallMs_ cause flags) :=
  append_steady (wr_steady (steady_forEach (fun h₁ => wr_steady (wr_steady h₁ rfl) rfl) (steady_upd h)) rfl)

theorem transaction_steady {b : Boundary} (h : Steady W s₀ s) : Steady W s₀ (s.transaction b) := by
  unfold transaction
  extract_lets _ _ _ s₁ s₂ _ _ _ s₃ _ s₄ _ _ s₅ _ _ s₆
  have h₁ : Steady W s₀ s₁ := by
    unfold s₁
    refine steady_ite ?_ (steady_upd h)
    split
    · exact append_steady (steady_upd (steady_upd h))
    · exact steady_upd h
  have h₂ : Steady W s₀ s₂ := steady_forEach (fun h₂ => steady_forEach modAcct_steady h₂) h₁
  have h₃ : Steady W s₀ s₃ := steady_ite (steady_forEach demandClose_steady h₂) h₂
  have h₄ : Steady W s₀ s₄ := steady_forEach tariffGo_steady (steady_ite (billClose_steady h₃) h₃)
  have h₅ : Steady W s₀ s₅ := steady_forEach append_steady (steady_ite (steady_upd h₄) h₄)
  have h₆ : Steady W s₀ s₆ := raise_steady (steady_ite (append_steady h₅) h₅)
  split
  · exact complete_steady h₆
  · exact h₆

theorem addBoundary_steady {b : Boundary} (h : Steady W s₀ s) : Steady W s₀ (s.addBoundary b) := by
  unfold addBoundary
  split
  · exact steady_upd h
  · exact steady_ite (steady_upd h) (steady_upd (transaction_steady h))

theorem tariffSelect_steady {mask tariff price src at_ : Nat} (h : Steady W s₀ s) :
    Steady W s₀ (s.tariffSelect mask tariff price src at_) := by
  unfold tariffSelect
  exact addBoundary_steady (steady_forEach (fun h₁ => steady_ite (modLsess_steady h₁) h₁) h)

theorem tariffForce_steady {mask tariff price at_ : Nat} (h : Steady W s₀ s) :
    Steady W s₀ (s.tariffForce mask tariff price at_) :=
  tariffSelect_steady h

theorem closeBetween_steady {w0 w1 flag cause : Nat} {demand : Bool} (h : Steady W s₀ s) :
    Steady W s₀ (s.closeBetween w0 w1 flag cause demand).2 := by
  unfold closeBetween
  extract_lets _ _ _ _ _ _ s₁ s₂
  have h₁ : Steady W s₀ s₁ := steady_forEach billClose_steady h
  have h₂ : Steady W s₀ s₂ := steady_ite (steady_forEach (fun h₂ => modAcct_steady (wr_steady h₂ rfl)) h₁) h₁
  exact steady_ite (raise_steady h₂) h₂

theorem timeSet_steady {ms src : Nat} (h : Steady W s₀ s) : Steady W s₀ (s.timeSet ms src).2 := by
  unfold timeSet
  extract_lets _ _ _ _ _ _ _ _ s₁ s₂ _ s₃ _ _ _ _ _ _ s₄ s₅
  have h₁ : Steady W s₀ s₁ := steady_ite (steady_upd h) h
  have h₂ : Steady W s₀ s₂ := by
    unfold s₂
    split
    · exact transaction_steady h₁
    · exact h₁
  have h₃ : Steady W s₀ s₃ := setWall_steady (transaction_steady h₂)
  have h₄ : Steady W s₀ s₄ := raise_steady (append_steady (wr_steady (steady_forEach tariffGo_steady (steady_upd
    (steady_ite (steady_upd h₃) (steady_ite (closeBetween_steady h₃) (steady_ite h₃ (closeBetween_steady h₃)))))) rfl))
  have h₅ : Steady W s₀ s₅ := steady_ite (tamper_steady h₄) h₄
  exact steady_ite_snd h (steady_ite (tamper_steady h₅) h₅)

/-! ### The own tag (Sys2Proof/Machine/OwnTagOps.lean) -/

theorem ownWrite_steady {b v : Nat} {whole : Bool} (h : Steady W s₀ s) : Steady W s₀ (s.ownWrite b v whole) :=
  steady_upd h

theorem ownReply_steady {r : List Nat} (h : Steady W s₀ s) : Steady W s₀ (s.ownReply r) := steady_upd h

theorem ownClose_steady (h : Steady W s₀ s) : Steady W s₀ s.ownClose := steady_upd h

theorem ownStatus_steady {n : Nat} (h : Steady W s₀ s) : Steady W s₀ (s.ownStatus n) :=
  steady_ite h (steady_forEach ownWrite_steady h)

theorem onField_steady {t : Nat} {f : State → State} (h : Steady W s₀ s) (hf : ∀ {s}, Steady W s₀ s → Steady W s₀ (f
    s)) :
    Steady W s₀ (s.onField t f) := by
  unfold onField
  extract_lets s₁
  have h₁ : Steady W s₀ s₁ := steady_ite (advance_steady h) h
  exact steady_ite (hf h₁) h₁

/-! ### The power-line modems (Sys2Proof/Machine/PlcOps.lean) -/

theorem modemOn_steady {i : Nat} {on : Bool} (h : Steady W s₀ s) : Steady W s₀ (s.modemOn i on) :=
  setFlag_steady (setFlag_steady h rfl) rfl

theorem plcFollow_steady {n : Nat} (h : Steady W s₀ s) : Steady W s₀ (s.plcFollow n) :=
  steady_ite (modemOn_steady h) (raise_steady (wr_steady (modemOn_steady h) rfl))

theorem plcFollowAll_steady (h : Steady W s₀ s) : Steady W s₀ s.plcFollowAll := steady_forEach plcFollow_steady h

/-! ### The twin link (Sys2Proof/Machine/TwinBase.lean) -/

theorem forwardStop_steady {x : Ctx} {op mask peer : Nat} (h : Steady W s₀ s) :
    Steady W s₀ (s.forwardStop x op mask peer) :=
  steady_ite (complete_steady (steady_upd h)) (complete_steady h)

/-! ### Casks (Sys2Proof/Machine/CaskOps.lean) -/

theorem testCloses_steady {acts : List CaskAct} (h : Steady W s₀ s) : Steady W s₀ (s.testCloses acts) := by
  unfold testCloses
  refine steady_forEach (fun h₁ => ?_) h
  split
  · exact testSensor_steady h₁
  · exact h₁

theorem consentCheck_steady {k : Nat} (h : Steady W s₀ s) : Steady W s₀ (s.consentCheck k) := by
  unfold consentCheck
  extract_lets
  split
  · exact steady_ite (abortCask_steady h) (steady_ite h (abortCask_steady (raise_steady h)))
  · exact steady_ite h (setSlot_steady h)

theorem arm_steady {k mode tApply : Nat} {x : Option Ctx} (h : Steady W s₀ s) : Steady W s₀ (s.arm k mode tApply x) :=
  modSlot_steady h

theorem writeRecord_steady {k : Nat} {whole : Bool} (h : Steady W s₀ s) : Steady W s₀ (s.writeRecord k whole) := by
  unfold writeRecord
  extract_lets
  split
  rename_i hp
  have h₁ := steady_snd hp (steady_ite_snd (reserveNums_steady h) h)
  exact steady_ite (modSlot_steady (steady_upd h₁)) (abortCask_steady (steady_upd h₁))

theorem applyAct_steady {k i tApply : Nat} {low : Bool} {a : CaskAct} (h : Steady W s₀ s) :
    Steady W s₀ (s.applyAct k i tApply low a) := by
  unfold applyAct
  split
  · refine steady_ite h ?_
    split
    rename_i hp
    have h₁ := steady_fst hp (applyClose_steady h)
    extract_lets s₂
    have h₂ : Steady W s₀ s₂ := steady_forEach (fun h₂ => steady_ite (modCoil_steady h₂) h₂) h₁
    exact steady_ite (modSlot_steady h₂) h₂
  · exact openOutlet_steady h
  · exact modOutlet_steady h
  · exact modOutlet_steady h
  · exact metOpen_steady h
  · exact metClose_steady h
  · exact recOpen_steady h
  · exact recClose_steady h
  · exact readSigned_steady h
  · exact tariffForce_steady h
  · exact dispStart_steady h

theorem markRecord_steady {k : Nat} {early held : Bool} {mask : Nat} (h : Steady W s₀ s) :
    Steady W s₀ (s.markRecord k early held mask) :=
  steady_upd h

theorem caskDone_steady {k : Nat} (h : Steady W s₀ s) : Steady W s₀ (s.caskDone k) :=
  freeSlot_steady (finaliseOpt_steady (raise_steady (incSat_steady (markRecord_steady h) rfl)))

theorem useNums_steady {ns : List Nat} (h : Steady W s₀ s) : Steady W s₀ (s.useNums ns) := steady_upd h

theorem applySlot_steady {k : Nat} {low : Bool} (h : Steady W s₀ s) : Steady W s₀ (s.applySlot k low) :=
  useNums_steady (steady_forEach applyAct_steady (steady_ite h (useNums_steady h)))

theorem applyEarly_steady {k : Nat} (h : Steady W s₀ s) : Steady W s₀ (s.applyEarly k) := by
  unfold applyEarly
  exact modSlot_steady (useNums_steady (steady_forEach (fun hx => applyAct_steady hx) (useNums_steady h)))

theorem lateApplies_steady {k : Nat} {applied : List (Nat × Nat)} (h : Steady W s₀ s) :
    Steady W s₀ (s.lateApplies k applied) :=
  steady_forEach (fun h₁ => raise_steady (incSat_steady h₁ rfl)) h

/-! ### Outlet sessions (Sys2Proof/Machine/SessionOps.lean) -/

theorem setSess_steady {n : Nat} {new : SessState} {reason flags : Nat} (h : Steady W s₀ s) :
    Steady W s₀ (s.setSess n new reason flags) := by
  unfold setSess
  exact plcFollow_steady (ownStatus_steady (noteCounts_steady (raise_steady (steady_ite (modOutlet_steady h)
    (wr_steady (modOutlet_steady h) rfl)))))

theorem offer_steady {n : Nat} {p : PilotOut} (h : Steady W s₀ s) : Steady W s₀ (s.offer n p) :=
  steady_ite h (stagePilot_steady h)

theorem leavePause_steady {n : Nat} (h : Steady W s₀ s) : Steady W s₀ (s.leavePause n) :=
  steady_ite (noteCounts_steady (modOutlet_steady h)) h

theorem sessionOver_steady {n reason : Nat} (h : Steady W s₀ s) : Steady W s₀ (s.sessionOver n reason) :=
  pmOff_steady (modOutlet_steady (steady_forEach_fld id (by decide)
    (fun hF hx => wr_steady hx hF) (cableEnd_steady (raise_steady (steady_ite (recClose_steady (leavePause_steady h))
      (leavePause_steady h))))))

theorem endSession_steady {n reason : Nat} (h : Steady W s₀ s) : Steady W s₀ (s.endSession n reason) :=
  offer_steady (setSess_steady (sessionOver_steady h))

theorem waitEnd_steady {n reason : Nat} (h : Steady W s₀ s) : Steady W s₀ (s.waitEnd n reason) := modOutlet_steady h

theorem endOrWait_steady {n reason : Nat} (h : Steady W s₀ s) : Steady W s₀ (s.endOrWait n reason) :=
  steady_ite (waitEnd_steady h) (endSession_steady h)

theorem faultSession_steady {n reason : Nat} (h : Steady W s₀ s) : Steady W s₀ (s.faultSession n reason) := by
  unfold faultSession
  extract_lets _ s₁ s₂
  have h₁ : Steady W s₀ s₁ := steady_ite (sessionOver_steady h) h
  have h₂ : Steady W s₀ s₂ := steady_ite (outletSafe_steady h₁) (erem_steady h₁)
  exact steady_ite (waitEnd_steady h₂) (setSess_steady h₂)

theorem reactSafety_steady {n : Nat} (h : Steady W s₀ s) : Steady W s₀ (s.reactSafety n) :=
  steady_ite (steady_ite (endOrWait_steady h) (faultSession_steady h)) h

theorem dcTo_steady {n da dw : Nat} {off : Bool} (h : Steady W s₀ s) : Steady W s₀ (s.dcTo n da dw off) :=
  steady_ite (modOutlet_steady h) (stageSet_steady (modOutlet_steady h))

theorem offerW_steady {n watts : Nat} (h : Steady W s₀ s) : Steady W s₀ (s.offerW n watts) :=
  steady_ite (dcTo_steady (modOutlet_steady h)) (steady_ite (offer_steady (modOutlet_steady h)) (steady_ite
    (offer_steady (modOutlet_steady h)) (offer_steady (modOutlet_steady h))))

theorem requestClose_steady {n : Nat} (h : Steady W s₀ s) : Steady W s₀ (s.requestClose n) := by
  unfold requestClose
  exact setSess_steady (modOutlet_steady (testSensor_steady (setSlot_steady (wr_steady (steady_ite_snd
    (newSession_steady h) h) rfl))))

theorem commitClose_steady {n : Nat} (h : Steady W s₀ s) : Steady W s₀ (s.commitClose n) := by
  unfold commitClose
  extract_lets
  refine steady_ite ?_ (arm_steady h)
  split
  · exact arm_steady h
  · exact modOutlet_steady (arm_steady h)

theorem closeApplied_steady {n held : Nat} (h : Steady W s₀ s) : Steady W s₀ (s.closeApplied n held) :=
  steady_ite h (steady_ite (steady_ite (faultSession_steady (modOutlet_steady h)) (endSession_steady
    (openOutlet_steady (modOutlet_steady h)))) (steady_ite (steady_ite (reactSafety_steady (modOutlet_steady h))
    (endSession_steady (modOutlet_steady h))) (setSess_steady (modOutlet_steady h))))

theorem closeGone_steady {n : Nat} (h : Steady W s₀ s) : Steady W s₀ (s.closeGone n) :=
  steady_ite (endSession_steady h) h

theorem goReady_steady {n : Nat} (h : Steady W s₀ s) : Steady W s₀ (s.goReady n) := by
  unfold goReady
  extract_lets
  refine steady_ite h ?_
  split
  · exact steady_ite h (steady_ite (offer_steady (setSess_steady h)) (setSess_steady h))
  · exact steady_ite (setSess_steady h) h
  · exact h

theorem authorise_steady {n : Nat} {i : Identity} (h : Steady W s₀ s) : Steady W s₀ (s.authorise n i) :=
  goReady_steady (raise_steady (wr_steady (modOutlet_steady h) rfl))

theorem authoriseCard_steady {n : Nat} {i : Identity} (h : Steady W s₀ s) : Steady W s₀ (s.authoriseCard n i) :=
  steady_ite (raise_steady h) (authorise_steady h)

theorem stopSession_steady {n reason : Nat} (h : Steady W s₀ s) : Steady W s₀ (s.stopSession n reason) := by
  unfold stopSession
  exact steady_ite (setSess_steady (startMstop_steady (modOutlet_steady (leavePause_steady h)))) (steady_ite
    (setSess_steady (startMstop_steady (modOutlet_steady (leavePause_steady h)))) (offer_steady (setSess_steady
    (startMstop_steady (modOutlet_steady (leavePause_steady h))))))

theorem stopHosted_steady {n reason : Nat} (h : Steady W s₀ s) : Steady W s₀ (s.stopHosted n reason) :=
  steady_ite h (steady_ite (startMstop_steady h) (offer_steady (startMstop_steady h)))

theorem stopAny_steady {n reason : Nat} (h : Steady W s₀ s) : Steady W s₀ (s.stopAny n reason) :=
  steady_ite (stopSession_steady h) (stopHosted_steady h)

theorem cardPresented_steady {i : Identity} (h : Steady W s₀ s) : Steady W s₀ (s.cardPresented i) := by
  unfold cardPresented
  split
  · exact authoriseCard_steady h
  · exact steady_upd h

theorem bindHeld_steady {n : Nat} (h : Steady W s₀ s) : Steady W s₀ (s.bindHeld n) := by
  unfold bindHeld
  split
  · exact steady_ite (authoriseCard_steady (steady_upd h)) (steady_ite (authorise_steady h) h)
  · exact steady_ite (authorise_steady h) h

theorem connect_steady {n : Nat} (h : Steady W s₀ s) : Steady W s₀ (s.connect n) := by
  unfold connect
  extract_lets _ _ _ _ _ s₁
  have h₁ : Steady W s₀ s₁ := setSess_steady (offer_steady (wr_steady (wr_steady (wr_steady (wr_steady (modOutlet_steady
    h) rfl) rfl) rfl) rfl))
  exact bindHeld_steady (steady_ite (cableQueue_steady h₁) h₁)

theorem unplugged_steady {n : Nat} (h : Steady W s₀ s) : Steady W s₀ (s.unplugged n) :=
  endOrWait_steady (steady_ite (erem_steady h) (caskSafety_steady h))

theorem clearAtA_steady {n : Nat} (h : Steady W s₀ s) : Steady W s₀ (s.clearAtA n) :=
  wr_steady (steady_forEach clearFault_steady h) rfl

theorem vehicleLeft_steady {n : Nat} (h : Steady W s₀ s) : Steady W s₀ (s.vehicleLeft n) :=
  steady_ite (setSess_steady (offer_steady (steady_ite (raise_steady h) h))) (setSess_steady (wr_steady
    (modOutlet_steady (wr_steady h rfl)) rfl))

theorem pilotDrives_steady {n : Nat} {p : Pilot} (h : Steady W s₀ s) : Steady W s₀ (s.pilotDrives n p) := by
  unfold pilotDrives
  extract_lets
  refine steady_ite h ?_
  split
  · exact steady_ite (steady_ite (setSess_steady (offer_steady (raise_steady h))) (steady_ite (setSess_steady
      (raise_steady h)) (connect_steady h))) h
  · exact steady_ite (vehicleLeft_steady h) h
  · exact steady_ite (vehicleLeft_steady h) h
  · exact h
  · exact h
  · exact steady_ite (unplugged_steady h) (steady_ite (reactSafety_steady h) (steady_ite (steady_ite
      (requestClose_steady h) h) (steady_ite (setSess_steady (openOutlet_steady h)) h)))

theorem enfRaise_steady {n watts : Nat} (h : Steady W s₀ s) : Steady W s₀ (s.enfRaise n watts) :=
  modOutlet_steady (wr_steady h rfl)

theorem applyAlloc_steady {n watts limit : Nat} (h : Steady W s₀ s) : Steady W s₀ (s.applyAlloc n watts limit) :=
  steady_ite (modOutlet_steady h) (steady_ite (offerW_steady (raise_steady (noteCounts_steady (modOutlet_steady
    (wr_steady (wr_steady h rfl) rfl))))) (steady_ite (offerW_steady (raise_steady (wr_steady (enfRaise_steady
    (wr_steady h rfl)) rfl))) (steady_ite h (offerW_steady h))))

theorem pauseSession_steady {n : Nat} (h : Steady W s₀ s) : Steady W s₀ (s.pauseSession n) := by
  unfold pauseSession
  exact setSess_steady (steady_ite (dcTo_steady (wr_steady (wr_steady (steady_upd (modOutlet_steady h)) rfl) rfl))
    (steady_ite (modOutlet_steady (offer_steady (wr_steady (wr_steady (steady_upd (modOutlet_steady h)) rfl) rfl)))
    (modOutlet_steady (wr_steady (wr_steady (steady_upd (modOutlet_steady h)) rfl) rfl))))

theorem queuePositions_steady (h : Steady W s₀ s) : Steady W s₀ s.queuePositions :=
  steady_forEach (fun h₁ => steady_forEach (fun hx => wr_steady hx rfl) h₁) h

theorem pauseShare_steady {n : Nat} (h : Steady W s₀ s) : Steady W s₀ (s.pauseShare n) := by
  unfold pauseShare
  exact raise_steady (queuePositions_steady (pauseSession_steady h))

theorem resumeSession_steady {n watts : Nat} (h : Steady W s₀ s) : Steady W s₀ (s.resumeSession n watts) := by
  unfold resumeSession
  extract_lets _ _ _ s₁
  have h₁ : Steady W s₀ s₁ := offerW_steady (raise_steady (wr_steady (enfRaise_steady (wr_steady (setSess_steady
    (wr_steady (wr_steady (modOutlet_steady (leavePause_steady h)) rfl) rfl)) rfl)) rfl))
  exact steady_ite (stageSet_steady h₁) h₁

theorem followTrack_steady {n : Nat} (h : Steady W s₀ s) : Steady W s₀ (s.followTrack n) := by
  unfold followTrack
  extract_lets _ x₁
  clear_value x₁
  split
  · exact modOutlet_steady (wr_steady h rfl)
  · exact steady_ite (modOutlet_steady (wr_steady h rfl)) (wr_steady h rfl)
  · exact steady_ite (modOutlet_steady (wr_steady h rfl)) (modOutlet_steady (wr_steady h rfl))

theorem settleShare_steady {w : Share} {limit n : Nat} (h : Steady W s₀ s) : Steady W s₀ (s.settleShare w limit n) :=
  steady_ite (steady_ite (resumeSession_steady (modOutlet_steady (modOutlet_steady h))) (applyAlloc_steady
    (modOutlet_steady (modOutlet_steady h)))) (steady_ite (modOutlet_steady h) (steady_ite (modOutlet_steady
    (modOutlet_steady h)) (pauseShare_steady (modOutlet_steady h))))

theorem waitMinutes_steady {n : Nat} (h : Steady W s₀ s) : Steady W s₀ (s.waitMinutes n) :=
  steady_ite (wr_steady h rfl) h

theorem reserveHost_steady {n : Nat} (h : Steady W s₀ s) : Steady W s₀ (s.reserveHost n) :=
  steady_ite (wr_steady (wr_steady h rfl) rfl) h

theorem allocatorRun_steady (h : Steady W s₀ s) : Steady W s₀ s.allocatorRun := by
  unfold allocatorRun
  split
  extract_lets _ s₁
  have h₁ : Steady W s₀ s₁ := steady_forEach reserveHost_steady h
  exact steady_forEach waitMinutes_steady (queuePositions_steady (steady_forEach applyAlloc_steady (steady_forEach
    settleShare_steady (steady_forEach followTrack_steady (steady_ite (wr_steady h₁ rfl) (raise_steady (steady_upd
    (wr_steady h₁ rfl))))))))

theorem rampDc_steady {n : Nat} (h : Steady W s₀ s) : Steady W s₀ (s.rampDc n) := by
  unfold rampDc
  split
  · exact steady_ite h (stageSet_steady h)
  · exact h

theorem rampReduce_steady {n : Nat} (h : Steady W s₀ s) : Steady W s₀ (s.rampReduce n) := by
  unfold rampReduce
  split
  · exact h
  · exact steady_ite (stageSet_steady (modOutlet_steady h)) (stageSet_steady h)

theorem learnPhases_steady {n : Nat} (h : Steady W s₀ s) : Steady W s₀ (s.learnPhases n) :=
  steady_ite (modOutlet_steady h) h

theorem pauseOpen_steady {n : Nat} (h : Steady W s₀ s) : Steady W s₀ (s.pauseOpen n) := by
  unfold pauseOpen
  split
  · exact steady_ite (modOutlet_steady (openOutlet_steady h)) h
  · exact h

theorem restPilot_steady {n : Nat} (h : Steady W s₀ s) : Steady W s₀ (s.restPilot n) := by
  unfold restPilot
  extract_lets _ s₁
  have h₁ : Steady W s₀ s₁ := steady_ite (clearAtA_steady h) h
  exact steady_ite (steady_ite (pilotDrives_steady h₁) h₁) h

theorem sessionCycle_steady {n : Nat} (h : Steady W s₀ s) : Steady W s₀ (s.sessionCycle n) := by
  unfold sessionCycle
  extract_lets _ s₁ s₂ s₃ s₄ _ _ s₅
  have h₁ : Steady W s₀ s₁ := closeGone_steady (restPilot_steady (reactSafety_steady h))
  have h₂ : Steady W s₀ s₂ := steady_ite (endSession_steady h₁) h₁
  have h₃ : Steady W s₀ s₃ := modOutlet_steady h₂
  have h₄ : Steady W s₀ s₄ := by
    unfold s₄
    split
    · exact steady_ite (pauseShare_steady h₃) (applyAlloc_steady h₃)
    · exact h₂
  have h₅ : Steady W s₀ s₅ := steady_ite (requestClose_steady (modOutlet_steady h₄)) (steady_ite (setSess_steady
    (openOutlet_steady h₄)) h₄)
  exact pauseOpen_steady (learnPhases_steady (rampDc_steady (rampReduce_steady (steady_ite (offer_steady h₅) h₅))))

/-! ### The allocator (Sys2Proof/Machine/Alloc.lean) -/

theorem modPm_steady {n i : Nat} {f : PowerModule → PowerModule} (h : Steady W s₀ s) : Steady W s₀ (s.modPm n i f) :=
  modOutlet_steady h

theorem capNow_steady {n : Nat} (h : Steady W s₀ s) : Steady W s₀ (s.capNow n) := steady_ite (applyAlloc_steady h) h

/-! ### Filters and trackers (Sys2Proof/Machine/FiltOps.lean) -/

theorem wrFit_steady {F : Fld} {n v : Nat} (h : Steady W s₀ s) (hF : watched F = false) :
    Steady W s₀ (s.wrFit F n v) :=
  steady_ite (wr_steady h hF) (wr_steady (takeFree_steady h) hF)

theorem wrFitInt_steady {F : Fld} {n : Nat} {z : Int} (h : Steady W s₀ s) (hF : watched F = false) :
    Steady W s₀ (s.wrFitInt F n z) :=
  steady_ite (wrInt_steady h hF) (wr_steady (takeFree_steady h) hF)

theorem notePeriod_steady {m per : Nat} {ok : Bool} (h : Steady W s₀ s) : Steady W s₀ (s.notePeriod m per ok) :=
  steady_ite (wr_steady (modTrk_steady h) rfl) (modTrk_steady h)

theorem holdTrk_steady {m reason frozen : Nat} (h : Steady W s₀ s) : Steady W s₀ (s.holdTrk m reason frozen) :=
  setTrk_steady (modTrk_steady h)

theorem lockTrk_steady {m cross reason : Nat} (h : Steady W s₀ s) : Steady W s₀ (s.lockTrk m cross reason) :=
  setTrk_steady (wr_steady (modTrk_steady h) rfl)

theorem period_steady {m cross amp : Nat} (h : Steady W s₀ s) : Steady W s₀ (s.period m cross amp) :=
  steady_ite h (steady_ite (modTrk_steady h) (steady_ite (steady_ite (holdTrk_steady (modTrk_steady (modTrk_steady
    (notePeriod_steady (wr_steady h rfl))))) (steady_ite (holdTrk_steady (modTrk_steady (modTrk_steady
    (notePeriod_steady (wr_steady h rfl))))) (steady_ite (holdTrk_steady (modTrk_steady (modTrk_steady
    (notePeriod_steady (wr_steady h rfl))))) (modTrk_steady (modTrk_steady (notePeriod_steady (wr_steady h rfl)))))))
    (steady_ite (lockTrk_steady (modTrk_steady (notePeriod_steady (wr_steady h rfl)))) (modTrk_steady
    (notePeriod_steady (wr_steady h rfl))))))

theorem freqCycle_steady {m z : Nat} (h : Steady W s₀ s) : Steady W s₀ (s.freqCycle m z) :=
  steady_ite h (modMp_steady h)

theorem beginCycle_steady {m z : Nat} (h : Steady W s₀ s) : Steady W s₀ (s.beginCycle m z) :=
  openCycle_steady (modTrk_steady (freqCycle_steady h))

theorem setCal_steady {c : Nat} {gain trim temp : Int} (h : Steady W s₀ s) : Steady W s₀ (s.setCal c gain trim temp) :=
  steady_upd h

theorem compensate_steady {c : Nat} {temp : Int} (h : Steady W s₀ s) : Steady W s₀ (s.compensate c temp) :=
  wr_steady (wrFitInt_steady (wrFitInt_steady h rfl) rfl) rfl

theorem compensateGroups_steady {mask : Nat} {temp : Int} (h : Steady W s₀ s) :
    Steady W s₀ (s.compensateGroups mask temp).2 :=
  steady_upd (steady_forEach (fun h₁ => startBlend_steady (steady_forEach compensate_steady h₁)) h)

/-! ### The filter chains (Sys2Proof/Machine/ChainOps.lean) -/

theorem feedChan_steady {upTo c : Nat} {f : Feed} (h : Steady W s₀ s) : Steady W s₀ (s.feedChan upTo c f) := by
  unfold feedChan
  refine steady_ite h ?_
  extract_lets _ _ _ _ _ _ _ _ s₁ s₂
  have h₁ : Steady W s₀ s₁ := setChain_steady h
  have h₂ : Steady W s₀ s₂ := steady_ite h₁ (filtOverflow_steady h₁)
  exact steady_ite h₂ (addSat_steady h₂ rfl)

theorem resampleNext_steady {c : Nat} (h : Steady W s₀ s) : OptSteady W s₀ (s.resampleNext c) := by
  unfold resampleNext
  extract_lets _ _ _ _ go
  have hgo : ∀ j i, Steady W s₀ (go j i) := fun _ _ => setChain_steady h
  split
  · split
    · exact optSteady_ite (optSteady_some (hgo _ _)) optSteady_none
    · exact optSteady_none
  · refine optSteady_ite optSteady_none (optSteady_ite ?_ (optSteady_some (setSamples_steady (hgo _ _))))
    split
    · exact optSteady_some (steady_ite (hgo _ _) (hgo _ _))
    · exact optSteady_none

theorem resample_steady {c : Nat} : ∀ {k : Nat} {s : State}, Steady W s₀ s → Steady W s₀ (resample c k s)
  | 0, _, h => h
  | k + 1, s, h => by
    unfold resample
    split
    · exact resample_steady (resampleNext_steady h _ ‹_›)
    · exact h

theorem respace_steady {m no : Nat} (h : Steady W s₀ s) : Steady W s₀ (s.respace m no) :=
  steady_forEach (fun h₁ => setSamples_steady (steady_ite (setChain_steady h₁) h₁)) h

theorem feedAll_steady {upTo : Nat} {feed : List Feed} (h : Steady W s₀ s) : Steady W s₀ (s.feedAll upTo feed) :=
  steady_forEach (fun h₁ => steady_ite h₁ (steady_ite (feedChan_steady h₁) (resample_steady (feedChan_steady h₁)))) h

/-! ### Grid cycles (Sys2Proof/Machine/CycleOps.lean) -/

theorem pulseDue_steady {m start stop : Nat} {steps : List (Int × Int)} {before : List Nat} (h : Steady W s₀ s) :
    Steady W s₀ (s.pulseDue m start stop steps before) :=
  steady_forEach (fun h₁ => backlog_steady (steady_upd h₁)) h

theorem putPart_steady {m start : Nat} {p : CyclePart} {inc : List Nat} (h : Steady W s₀ s) :
    Steady W s₀ (s.putPart m start p inc) :=
  flushPends_steady (pulseDue_steady (energyPart_steady (modMp_steady h)))

theorem calSeen_steady {m : Nat} {w : Window} (h : Steady W s₀ s) : Steady W s₀ (s.calSeen m w) := by
  unfold calSeen
  split
  · exact steady_upd h
  · exact h

theorem windowAdd_steady {m : Nat} {c : Cycle} {stop : Nat} (h : Steady W s₀ s) : Steady W s₀ (s.windowAdd m c stop) :=
  steady_ite (modMp_steady h) (calSeen_steady (modMp_steady (modMp_steady h)))

theorem cycleEnergy_steady {m : Nat} {c : Cycle} {stop : Nat} (h : Steady W s₀ s) :
    Steady W s₀ (s.cycleEnergy m c stop) := by
  unfold cycleEnergy
  extract_lets _ _ _ _ _ _ s₁
  have h₁ : Steady W s₀ s₁ := by
    refine steady_forEach_snd (fun hp => ?_) (modMp_steady h)
    dsimp only
    exact putPart_steady hp
  exact windowAdd_steady (steady_ite h₁ (flowTrack_steady h₁))

theorem waveCycle_steady {m no start stop : Nat} (h : Steady W s₀ s) : Steady W s₀ (s.waveCycle m no start stop) :=
  steady_ite h (steady_forEach waveAdd_steady h)

theorem meterNext_steady {m : Nat} (h : Steady W s₀ s) : OptSteady W s₀ (s.meterNext m) := by
  unfold meterNext
  refine optSteady_ite optSteady_none ?_
  extract_lets _ put
  have hput : ∀ c start stop, Steady W s₀ (put c start stop) := fun _ _ _ =>
    modMp_steady (cycleEnergy_steady (waveCycle_steady h))
  refine optSteady_ite (optSteady_ite optSteady_none (optSteady_some (hput _ _ _))) ?_
  split
  · exact optSteady_ite (optSteady_some (hput _ _ _)) optSteady_none
  · split
    · exact optSteady_ite (optSteady_some (modMp_steady h)) optSteady_none
    · exact optSteady_none

theorem meterSome_steady {m : Nat} : ∀ {k : Nat} {s : State}, Steady W s₀ s → Steady W s₀ (meterSome m k s)
  | 0, _, h => h
  | k + 1, s, h => by
    unfold meterSome
    split
    · exact meterSome_steady (meterNext_steady h _ ‹_›)
    · exact h

theorem meterTrk_steady {k : Nat} (h : Steady W s₀ s) : Steady W s₀ (s.meterTrk k) := steady_forEach meterSome_steady h

theorem meterAll_steady {upTo : Nat} {feed : List Feed} (h : Steady W s₀ s) : Steady W s₀ (s.meterAll upTo feed) :=
  steady_forEach meterSome_steady (feedAll_steady h)

theorem meterStop_steady {feed : List Feed} (h : Steady W s₀ s) : Steady W s₀ (s.meterStop feed) := by
  unfold meterStop
  extract_lets
  refine steady_forEach (fun h₂ => steady_ite (cycleEnergy_steady h₂) ?_) (meterAll_steady h)
  split
  · exact cycleEnergy_steady h₂
  · exact h₂

/-! ### Load switches (Sys2Proof/Machine/LswOps.lean) -/

theorem modLsw_steady {n : Nat} {f : LswCh → LswCh} (h : Steady W s₀ s) : Steady W s₀ (s.modLsw n f) := steady_upd h

theorem lswGo_steady {n st : Nat} (h : Steady W s₀ s) : Steady W s₀ (s.lswGo n st) := modLsw_steady (wr_steady h rfl)

theorem pwmPeriod_steady {n no : Nat} (h : Steady W s₀ s) : Steady W s₀ (s.pwmPeriod n no) := modLsw_steady h

theorem turnOn_steady {n : Nat} {retry : Bool} (h : Steady W s₀ s) : Steady W s₀ (s.turnOn n retry) :=
  steady_ite (modLsw_steady (lswGo_steady h)) (lswGo_steady (steady_ite (wr_steady (modLsw_steady h) rfl) (modLsw_steady
    h)))

theorem turnOff_steady {n st : Nat} (h : Steady W s₀ s) : Steady W s₀ (s.turnOff n st) := modLsw_steady (lswGo_steady h)

theorem lswTrip_steady {n cause ma tj : Nat} (h : Steady W s₀ s) : Steady W s₀ (s.lswTrip n cause ma tj) :=
  raise_steady (steady_ite (wr_steady (turnOff_steady (incSat_steady h rfl)) (by split <;> rfl)) (steady_ite
    (lswGo_steady (incSat_steady h rfl)) (modLsw_steady (lswGo_steady (incSat_steady h rfl)))))

theorem budgetOff_steady {chans : List Nat} {ma : Nat → Nat} {limit mean : Nat} (h : Steady W s₀ s) :
    Steady W s₀ (s.budgetOff chans ma limit mean) := by
  unfold budgetOff
  split
  · exact h
  · exact raise_steady (incSat_steady (wr_steady (turnOff_steady h) rfl) rfl)

theorem lswSafeOff_steady (h : Steady W s₀ s) : Steady W s₀ s.lswSafeOff :=
  steady_ite h (steady_forEach (fun h₁ => wr_steady (turnOff_steady h₁) rfl) h)

theorem lswDisable_steady {inst : Nat} (h : Steady W s₀ s) : Steady W s₀ (s.lswDisable inst) :=
  steady_forEach turnOff_steady h

theorem lswShed_steady (h : Steady W s₀ s) : Steady W s₀ s.lswShed := steady_forEach turnOff_steady h

theorem vlsLow_steady {b mv : Nat} (h : Steady W s₀ s) : Steady W s₀ (s.vlsLow b mv) :=
  steady_ite h (steady_ite (steady_upd (wr_steady h rfl)) (steady_forEach (fun h₁ => modLsw_steady (steady_ite
    (lswGo_steady h₁) h₁)) (raise_steady (wr_steady (steady_upd (wr_steady h rfl)) rfl))))

theorem vlsBack_steady {b mv : Nat} (h : Steady W s₀ s) : Steady W s₀ (s.vlsBack b mv) := by
  unfold vlsBack
  refine steady_ite h ?_
  extract_lets
  refine steady_forEach (fun h₂ => ?_) (raise_steady (wr_steady (wr_steady h rfl) rfl))
  split
  · exact h₂
  · exact steady_ite (turnOn_steady (modLsw_steady h₂)) (modLsw_steady h₂)

/-! ### Cask (Sys2Proof/Machine/Cask.lean) -/

theorem validated_steady {k : Nat} (h : Steady W s₀ s) : Steady W s₀ (s.validated k) := by
  unfold validated
  extract_lets _ _ s₁
  have h₁ : Steady W s₀ s₁ := steady_forEach dispArm_steady (setSlot_steady h)
  refine steady_ite h ?_
  split
  · exact abortCask_steady h
  · refine steady_ite h ?_
    split
    · exact abortCask_steady h
    · split
      · exact complete_steady h₁
      · exact h₁

theorem commitCask_steady {x : Ctx} {k mode instant : Nat} (h : Steady W s₀ s) :
    Steady W s₀ (s.commitCask x k mode instant) := by
  unfold commitCask
  extract_lets
  split
  · exact complete_steady (arm_steady h)
  · split
    · exact complete_steady (arm_steady h)
    · exact complete_steady h
  · exact steady_ite (complete_steady h) (steady_ite (complete_steady h) (complete_steady (arm_steady h)))
  · exact complete_steady (arm_steady h)
  · exact complete_steady h

theorem disableSession_steady {n : Nat} (h : Steady W s₀ s) : Steady W s₀ (s.disableSession n) := by
  unfold disableSession
  split
  · exact stopSession_steady h
  · exact stopSession_steady h
  · exact stopSession_steady h
  · exact h
  · exact steady_ite (endOrWait_steady (caskSafety_steady h)) (stopHosted_steady (caskSafety_steady h))

theorem cancelQueued_steady {x : Ctx} {block inst : Nat} (h : Steady W s₀ s) :
    Steady W s₀ (s.cancelQueued x block inst).2 :=
  steady_forEach complete_steady h

theorem disableSteps_steady {x : Ctx} {block inst : Nat} {done : Bool} (h : Steady W s₀ s) :
    Steady W s₀ (s.disableSteps x block inst done) := by
  unfold disableSteps
  split
  rename_i hp
  have h₁ := steady_snd hp (cancelQueued_steady h)
  extract_lets _ s₂
  have h₂ : Steady W s₀ s₂ := by
    unfold s₂
    refine steady_forEach (fun h₂ => ?_) (steady_ite (steady_forEach dropRegion_steady h₁) h₁)
    extract_lets
    split
    · exact steady_ite (abortCask_steady h₂) h₂
    · exact h₂
  exact steady_upd (steady_forEach disableSession_steady h₂)

/-! ### Ledger (Sys2Proof/Machine/Ledger.lean) -/

theorem commitState_steady {ok : Bool} (h : Steady W s₀ s) : Steady W s₀ (s.commitState ok) := by
  unfold commitState
  extract_lets _ _ _ s₁
  have h₁ : Steady W s₀ s₁ := steady_ite (steady_upd h) (steady_upd h)
  exact steady_ite h₁ (incSat_steady h₁ rfl)

theorem demandBoundary_steady {sec : Nat} (h : Steady W s₀ s) : Steady W s₀ (s.demandBoundary sec) :=
  steady_ite h (steady_ite (steady_upd h) (addBoundary_steady h))

theorem syncShift_steady {nominal : Nat} {shift : Int} {moved : Bool} (h : Steady W s₀ s) :
    Steady W s₀ (s.syncShift nominal shift moved) :=
  raise_steady (append_steady h)

theorem demandSync_steady {at_ : Nat} {falling : Bool} (h : Steady W s₀ s) : Steady W s₀ (s.demandSync at_ falling) :=
  steady_ite h (steady_ite (syncShift_steady h) (addBoundary_steady (syncShift_steady (steady_upd h))))

theorem releaseHeld_steady (h : Steady W s₀ s) : Steady W s₀ s.releaseHeld := by
  unfold releaseHeld
  split
  · exact addBoundary_steady (steady_upd h)
  · exact h

theorem billEdge_steady (h : Steady W s₀ s) : Steady W s₀ s.billEdge := by
  unfold billEdge
  split
  · exact addBoundary_steady (steady_upd h)
  · exact h

theorem calClose_steady {cause : Nat} (h : Steady W s₀ s) : Steady W s₀ (s.calClose cause) := by
  unfold calClose
  split
  · exact h
  · exact legalRepaint_steady (raise_steady (append_steady (wr_steady (steady_upd h) rfl)))

theorem sealChange_steady {level : Bool} (h : Steady W s₀ s) : Steady W s₀ (s.sealChange level) :=
  steady_ite (steady_upd (setFlag_steady h rfl)) (calClose_steady (steady_upd (setFlag_steady h rfl)))

/-! ### The stops (Sys2Proof/Machine/StopOps.lean) -/

theorem putEst_steady {m : Nat} {mw : Int} {ns : Option Nat} (h : Steady W s₀ s) : Steady W s₀ (s.putEst m mw ns) :=
  wr_steady (wr_steady (wr_steady (wr_steady h rfl) rfl) rfl) rfl

theorem pourCask_steady {k : Nat} (h : Steady W s₀ s) : Steady W s₀ (s.pourCask k) :=
  steady_ite h (markRecord_steady (modSlot_steady (applyEarly_steady h)))

theorem writeMark_steady {l : Nat} (h : Steady W s₀ s) : Steady W s₀ (s.writeMark l) :=
  wr_steady (wr_steady (steady_upd h) rfl) rfl

theorem pourSteps_steady {feed : List Feed} (h : Steady W s₀ s) : Steady W s₀ (s.pourSteps feed) := by
  unfold pourSteps
  extract_lets _ s₁ s₂
  have h₁ : Steady W s₀ s₁ := releaseHeld_steady (meterStop_steady h)
  have h₂ : Steady W s₀ s₂ := by
    unfold s₂
    split
    · exact steady_ite (transaction_steady h₁) h₁
    · exact h₁
  exact writeMark_steady (commitState_steady (steady_forEach flushPends_steady (steady_forEach pourCask_steady h₂)))

theorem lastPour_steady {feed : List Feed} (h : Steady W s₀ s) : Steady W s₀ (s.lastPour feed) :=
  wr_steady (wr_steady (steady_upd (takeFree_steady (pourSteps_steady (steady_upd (lswShed_steady (dispCut_steady
    h)))))) rfl) rfl

theorem pourReturn_steady (h : Steady W s₀ s) : Steady W s₀ s.pourReturn :=
  dispWake_steady (steady_forEach (fun h₁ => steady_ite (abortCask_steady h₁) h₁) (tamper_steady (steady_upd
    (raise_steady (wr_steady (steady_forEach (fun h₁ => modMp_steady (putEst_steady h₁)) (steady_upd (advance_steady
    h))) rfl)))))

theorem outputsOff_steady (h : Steady W s₀ s) : Steady W s₀ s.outputsOff :=
  wr_steady (steady_upd (steady_forEach turnOff_steady (steady_forEach modOutlet_steady h))) rfl

theorem powerOff_steady (h : Steady W s₀ s) : Steady W s₀ s.powerOff :=
  outputsOff_steady (setFlag_steady (steady_upd h) rfl)

theorem railFall_steady (h : Steady W s₀ s) : Steady W s₀ s.railFall :=
  steady_upd (powerOff_steady (steady_forEach (fun hx => wr_steady hx rfl) (wr_steady (steady_upd (steady_ite h
    (wr_steady (steady_upd h) rfl))) rfl)))

theorem softRestart_steady {cause : Nat} (h : Steady W s₀ s) : Steady W s₀ (s.softRestart cause) :=
  steady_upd (powerOff_steady (dispCut_steady h))

theorem pourZero_steady (h : Steady W s₀ s) : Steady W s₀ s.pourZero :=
  wr_steady (wr_steady (steady_upd (steady_upd (pourSteps_steady h))) rfl) rfl

/-! ### Twin operation (Sys2Proof/Machine/TwinOps.lean) -/

theorem noteReady_steady (h : Steady W s₀ s) : Steady W s₀ s.noteReady := setFlag_steady h rfl

theorem setRole_steady {new : Nat} {cause : Option Nat} (h : Steady W s₀ s) : Steady W s₀ (s.setRole new cause) := by
  unfold setRole
  cases cause with
  | some c => exact raise_steady (noteReady_steady (append_steady (steady_upd (wr_steady (wr_steady h rfl) rfl))))
  | none =>
    exact raise_steady (noteReady_steady (append_steady (steady_upd (wr_steady (wr_steady (takeFree_steady h) rfl)
      rfl))))

theorem peerEvent_steady (h : Steady W s₀ s) : Steady W s₀ s.peerEvent := raise_steady h

theorem twinStart_steady (h : Steady W s₀ s) : Steady W s₀ s.twinStart :=
  steady_ite (setRole_steady (outputsOff_steady h)) (steady_ite (setRole_steady h) h)

theorem giveUp_steady {cause : Nat} (h : Steady W s₀ s) : Steady W s₀ (s.giveUp cause) := by
  unfold giveUp
  exact setRole_steady (steady_upd (steady_ite h (steady_forEach (fun h₁ => steady_ite (abortCask_steady h₁) h₁) h)))

theorem twinRelease_steady (h : Steady W s₀ s) : Steady W s₀ s.twinRelease :=
  steady_upd (steady_forEach modOutlet_steady (steady_forEach (fun h₁ => modLsess_steady (wr_steady h₁ rfl))
    (outputsOff_steady h)))

theorem loadCopy_steady {c : TwinCopy} (h : Steady W s₀ s) : Steady W s₀ (s.loadCopy c) :=
  ⟨h.journal, fun F hF hW n => (rd_loadCopy hF n).trans (h.watched F hF hW n)⟩

theorem takeOverCycle_steady (h : Steady W s₀ s) : Steady W s₀ s.takeOverCycle :=
  steady_ite h (steady_forEach (fun h₁ => steady_ite (steady_ite (endSession_steady (steady_upd h₁)) (steady_upd h₁))
    (steady_ite (holdFrom_steady (modCoil_steady h₁)) (faultSession_steady (openOutlet_steady (steady_upd h₁))))) h)

theorem carrySession_steady {c : Carried} (h : Steady W s₀ s) : Steady W s₀ (s.carrySession c) :=
  steady_ite h (modLsess_steady (wr_steady (wr_steady (wr_steady (wr_steady (wr_steady (wr_steady h rfl) rfl) rfl) rfl)
    rfl) rfl))

theorem takeOverDone_steady (h : Steady W s₀ s) : Steady W s₀ s.takeOverDone := by
  unfold takeOverDone
  extract_lets
  refine steady_forEach (fun h₃ => ?_) (setRole_steady (incSat_steady (steady_forEach carrySession_steady h) rfl))
  split
  · exact stopSession_steady h₃
  · exact stopSession_steady h₃
  · exact stopSession_steady h₃
  · exact h₃
  · exact endSession_steady h₃

theorem shadowNote_steady {c : TwinCopy} (h : Steady W s₀ s) : Steady W s₀ (s.shadowNote c) := steady_upd h

/-! ### Key (Sys2Proof/Machine/Key.lean) -/

theorem recoveryOutlets_steady (h : Steady W s₀ s) : Steady W s₀ s.recoveryOutlets :=
  steady_ite h (steady_forEach (fun h₁ => steady_ite (setSess_steady (driveF_steady h₁)) h₁) h)

theorem withTree_steady {x : Ctx} {f : State → State} (h : Steady W s₀ s) (hf : ∀ {s}, Steady W s₀ s → Steady W s₀ (f
    s)) :
    Steady W s₀ (s.withTree x f) :=
  steady_ite (complete_steady h) (steady_ite (complete_steady h) (hf h))

theorem onNode_steady {x : Ctx} {p : List (List Byte)} {f : KNode → State → State} (h : Steady W s₀ s) (hf : ∀ {x s},
    Steady W s₀ s → Steady W s₀ (f x s)) :
    Steady W s₀ (s.onNode x p f) := by
  unfold onNode
  refine withTree_steady h (fun h₁ => ?_)
  split
  · exact complete_steady h₁
  · exact complete_steady h₁
  · exact hf h₁

theorem owned_steady {x : Ctx} {g : OwnerSig} {bad : Option Nat} {f : State → State} (h : Steady W s₀ s) (hf : ∀ {s},
    Steady W s₀ s → Steady W s₀ (f s)) :
    Steady W s₀ (s.owned x g bad f) := by
  unfold owned
  split
  · exact complete_steady h
  · exact complete_steady h
  · exact hf (ownerTook_steady h)

theorem withCreds_steady {x : Ctx} {f : State → State} (h : Steady W s₀ s) (hf : ∀ {s}, Steady W s₀ s → Steady W s₀ (f
    s)) :
    Steady W s₀ (s.withCreds x f) :=
  withTree_steady h hf

theorem endLoad_steady (h : Steady W s₀ s) : Steady W s₀ s.endLoad := wr_steady (wr_steady (steady_upd h) rfl) rfl

theorem credFlip_steady {m : Manifest} (h : Steady W s₀ s) : Steady W s₀ (s.credFlip m) :=
  raise_steady (endLoad_steady (wr_steady (wr_steady (wr_steady (wr_steady (steady_upd h) rfl) rfl) rfl) rfl))

/-! ### Trellis (Sys2Proof/Machine/TrellisOps.lean) -/

theorem setTrx_steady {new reason : Nat} (h : Steady W s₀ s) : Steady W s₀ (s.setTrx new reason) :=
  steady_upd (raise_steady (wr_steady h rfl))

theorem modLink_steady {n k : Nat} {f : TLink → TLink} (h : Steady W s₀ s) : Steady W s₀ (s.modLink n k f) :=
  steady_upd h

theorem showLink_steady {n : Nat} (h : Steady W s₀ s) : Steady W s₀ (s.showLink n) :=
  wr_steady (wr_steady (wr_steady (wr_steady (wr_steady h rfl) rfl) rfl) rfl) rfl

theorem rerouteOne_steady {ns : List Nat} {d : Nat} (h : Steady W s₀ s) : Steady W s₀ (s.rerouteOne ns d) := by
  unfold rerouteOne
  extract_lets
  split
  extract_lets s₁
  have h₁ : Steady W s₀ s₁ := wr_steady (wr_steady (wr_steady h rfl) rfl) rfl
  exact steady_ite (raise_steady (incSat_steady h₁ rfl)) h₁

theorem reroute_steady (h : Steady W s₀ s) : Steady W s₀ s.reroute :=
  wr_steady (wr_steady (steady_forEach rerouteOne_steady h) rfl) rfl

theorem linkResult_steady {n k : Nat} {failed : Bool} (h : Steady W s₀ s) : Steady W s₀ (s.linkResult n k failed) :=
  reroute_steady (showLink_steady (modLink_steady h))

theorem hear_steady {h' : THdr} (h : Steady W s₀ s) : Steady W s₀ (s.hear h') := by
  unfold hear
  extract_lets _ s₁ _ _ s₂
  have h₁ : Steady W s₀ s₁ := modLink_steady h
  have h₂ : Steady W s₀ s₂ := by
    unfold s₂
    split
    · exact steady_upd (wr_steady h₁ rfl)
    · exact wr_steady h₁ rfl
  exact reroute_steady (showLink_steady h₂)

theorem setTq_steady {c : Nat} {fs : List TFrame} (h : Steady W s₀ s) : Steady W s₀ (s.setTq c fs) := steady_upd h

theorem enqueue_steady {f : TFrame} (h : Steady W s₀ s) : Steady W s₀ (s.enqueue f) := steady_ite h (setTq_steady h)

theorem nextSeq_steady (h : Steady W s₀ s) : Steady W s₀ s.nextSeq.2 := steady_upd h

theorem send_steady {typ cls dst : Nat} {payload : List Nat} {via : Nat} {ctx : Option Ctx} (h : Steady W s₀ s) :
    Steady W s₀ (s.send typ cls dst payload via ctx) :=
  enqueue_steady (nextSeq_steady h)

theorem nextCtr_steady (h : Steady W s₀ s) : Steady W s₀ s.nextCtr.2 := steady_upd h

theorem transmit_steady {f : TFrame} {rx : Nat} (h : Steady W s₀ s) : Steady W s₀ (s.transmit f rx).2 :=
  steady_upd (nextCtr_steady h)

theorem frameDone_steady {f : TFrame} {outcome : Nat} (h : Steady W s₀ s) : Steady W s₀ (s.frameDone f outcome) := by
  unfold frameDone
  split
  · exact h
  · exact finalise_steady (raise_steady h)

theorem cancelFrames_steady (h : Steady W s₀ s) : Steady W s₀ s.cancelFrames :=
  steady_forEach frameDone_steady (steady_upd h)

theorem mainsModems_steady {on : Bool} (h : Steady W s₀ s) : Steady W s₀ (s.mainsModems on) :=
  modemOn_steady (modemOn_steady h)

theorem listen_steady {reason : Nat} (h : Steady W s₀ s) : Steady W s₀ (s.listen reason) :=
  setTrx_steady (wr_steady (mainsModems_steady (steady_upd h)) rfl)

theorem trellisEn_steady (h : Steady W s₀ s) : Steady W s₀ s.trellisEn :=
  steady_ite (steady_ite (listen_steady h) h) (steady_ite h (setTrx_steady (wr_steady (mainsModems_steady
    (cancelFrames_steady h)) rfl)))

theorem joinReq_steady {coord via reason : Nat} (h : Steady W s₀ s) : Steady W s₀ (s.joinReq coord via reason) :=
  send_steady (steady_upd (setTrx_steady (wr_steady h rfl)))

theorem dequeue_steady {f : TFrame} (h : Steady W s₀ s) : Steady W s₀ (s.dequeue f) := setTq_steady h

theorem receive_steady {h' : THdr} {typ : Nat} {payload : List Nat} {f : State → State} (h : Steady W s₀ s) (hf : ∀ {s},
    Steady W s₀ s → Steady W s₀ (f s)) :
    Steady W s₀ (s.receive h' typ payload f) := by
  unfold receive
  refine steady_ite h (steady_ite (incSat_steady h rfl) ?_)
  extract_lets _ _ _ s₁ _ s₂ _ _ s₃ _ _ s₄
  have h₁ : Steady W s₀ s₁ := hear_steady (steady_upd h)
  have h₂ : Steady W s₀ s₂ := steady_ite (transmit_steady h₁) h₁
  have h₃ : Steady W s₀ s₃ := steady_upd h₂
  have h₄ : Steady W s₀ s₄ := steady_ite (enqueue_steady h₃) h₃
  exact steady_ite h₁ (steady_ite h₂ (steady_ite (hf h₄) h₄))

theorem holdStart_steady (h : Steady W s₀ s) : Steady W s₀ s.holdStart := steady_ite h (wrInt_steady (steady_upd h) rfl)

theorem alignNote_steady (h : Steady W s₀ s) : Steady W s₀ s.alignNote := steady_ite h (raise_steady (steady_upd h))

theorem moveStart_steady {target : Nat} (h : Steady W s₀ s) : Steady W s₀ (s.moveStart target) :=
  holdStart_steady (steady_upd h)

theorem every_steady {k n : Nat} {f : State → State} (h : Steady W s₀ s) (hf : ∀ {s}, Steady W s₀ s → Steady W s₀ (f
    s)) :
    Steady W s₀ (s.every k n f) :=
  steady_ite h (hf (steady_upd h))

theorem limitApply_steady {validity : Nat} {entries : List (Nat × Nat)} {src : Nat} (h : Steady W s₀ s) :
    Steady W s₀ (s.limitApply validity entries src) := by
  unfold limitApply
  extract_lets
  split
  · exact h
  · exact raise_steady (steady_upd (wr_steady h rfl))

theorem serveNext_steady (h : Steady W s₀ s) : Steady W s₀ s.serveNext := by
  unfold serveNext
  split
  · exact steady_ite h (steady_ite (steady_upd h) (steady_forEach send_steady (steady_upd h)))
  · exact steady_upd h
  · exact h

/-! ### Updates (Sys2Proof/Machine/UpdOps.lean) -/

theorem updGo_steady {new status : Nat} (h : Steady W s₀ s) : Steady W s₀ (s.updGo new status) :=
  raise_steady (wr_steady (steady_ite h (wr_steady h rfl)) rfl)

theorem updTouch_steady {src : Nat} (h : Steady W s₀ s) : Steady W s₀ (s.updTouch src) := steady_ite (steady_upd h) h

theorem updForget_steady (h : Steady W s₀ s) : Steady W s₀ s.updForget := wr_steady (wr_steady (steady_upd h) rfl) rfl

theorem updRelease_steady (h : Steady W s₀ s) : Steady W s₀ s.updRelease := wr_steady h rfl

theorem updProgram_steady {b : Nat} {data : List Nat} (h : Steady W s₀ s) : Steady W s₀ (s.updProgram b data) :=
  steady_upd h

theorem updMark_steady {b : Nat} {data : List Nat} (h : Steady W s₀ s) : Steady W s₀ (s.updMark b data) :=
  wr_steady (steady_upd (updProgram_steady h)) rfl

theorem updFresh_steady {m : TamecMan} {bs : List Nat} (h : Steady W s₀ s) : Steady W s₀ (s.updFresh m bs) :=
  wr_steady (wr_steady (steady_upd (updProgram_steady h)) rfl) rfl

theorem updFull_steady (h : Steady W s₀ s) : Steady W s₀ s.updFull := steady_ite (updGo_steady h) h

theorem updErase_steady (h : Steady W s₀ s) : Steady W s₀ s.updErase := steady_upd h

theorem updBegin_steady {src node : Nat} {bs : List Nat} {sigs : Bool × Bool} (h : Steady W s₀ s) :
    Steady W s₀ (s.updBegin src node bs sigs).2.2 := by
  unfold updBegin
  extract_lets _ _ _ s₁
  have h₁ : Steady W s₀ s₁ := updTouch_steady (wr_steady h rfl)
  refine steady_ite_thd h (steady_ite_thd h ?_)
  split
  · exact steady_ite (tamper_steady h) h
  · exact steady_ite_thd (updFull_steady (updGo_steady (steady_ite h₁ (updFresh_steady h₁)))) (steady_ite_thd
      (updTouch_steady h) (steady_ite_thd (updTouch_steady (updFresh_steady h)) h))

theorem updBlock_steady {src b : Nat} {data : List Nat} (h : Steady W s₀ s) :
    Steady W s₀ (s.updBlock src b data).2 := by
  unfold updBlock
  split
  · exact h
  · exact steady_ite_snd h (steady_ite_snd h (steady_ite_snd h (steady_ite_snd h (steady_ite_snd (steady_ite_snd
      (raise_steady (wr_steady (steady_upd h) rfl)) (updMark_steady h)) (steady_ite_snd h (steady_ite_snd (raise_steady
      h) (updMark_steady h)))))))

theorem updBlocks_steady {src : Nat} :
    ∀ {b : Nat} {l : List (List Nat)} {s : State}, Steady W s₀ s → Steady W s₀ (updBlocks src b l s).2.2
  | _, [], _, h => h
  | b, data :: r, s, h => by
    unfold updBlocks
    exact steady_ite_thd (updBlocks_steady (updBlock_steady h)) (updBlock_steady h)

theorem updReceive_steady {src first : Nat} {blocks : List (List Nat)} (h : Steady W s₀ s) :
    Steady W s₀ (s.updReceive src first blocks).2.2 :=
  steady_ite_thd h (steady_ite_thd h (updFull_steady (steady_ite (updTouch_steady (updBlocks_steady h))
    (updBlocks_steady h))))

theorem updVerified_steady {readOk : Bool} (h : Steady W s₀ s) : Steady W s₀ (s.updVerified readOk) := by
  unfold updVerified
  split
  · extract_lets
    split
    · exact steady_ite (raise_steady (updGo_steady (steady_upd h))) (updRelease_steady (updGo_steady (updForget_steady
        h)))
    · exact updRelease_steady (updGo_steady (updForget_steady h))
  · exact h

theorem updRequest_steady {node : Nat} (h : Steady W s₀ s) : Steady W s₀ (s.updRequest node) := by
  unfold updRequest
  split
  · exact steady_ite h (send_steady h)
  · exact h

theorem updOffer_steady {node digest gen : Nat} (h : Steady W s₀ s) : Steady W s₀ (s.updOffer node digest gen) :=
  steady_ite (steady_ite (send_steady (steady_upd h)) h) (steady_ite (updRequest_steady h) h)

theorem updBlockRx_steady {node prefix_ b : Nat} {data : List Nat} {sigs : Bool × Bool} (h : Steady W s₀ s) :
    Steady W s₀ (s.updBlockRx node prefix_ b data sigs) := by
  unfold updBlockRx
  split
  · exact steady_ite h (steady_ite (updRequest_steady (updBegin_steady (steady_upd h))) (updBegin_steady (steady_upd
      h)))
  · exact steady_ite (updReceive_steady h) h
  · exact h

/-! ### Upd (Sys2Proof/Machine/Upd.lean) -/

theorem ptrWrite_steady (h : Steady W s₀ s) : Steady W s₀ s.ptrWrite := steady_upd (wr_steady h rfl)

theorem ptrLoad_steady (h : Steady W s₀ s) : Steady W s₀ s.ptrLoad := by
  unfold ptrLoad
  split
  · exact h
  · exact steady_forEach_fld Prod.fst (by decide) (fun hF hx => wr_steady hx hF) (steady_upd h)

theorem forceOutlets_steady {x : Ctx} (h : Steady W s₀ s) : Steady W s₀ (s.forceOutlets x) :=
  steady_forEach disableSteps_steady h

theorem unforce_steady (h : Steady W s₀ s) : Steady W s₀ s.unforce := steady_upd h

theorem healthNote_steady (h : Steady W s₀ s) : Steady W s₀ s.healthNote := steady_ite h (steady_upd h)

theorem updConfirm_steady {auto : Bool} (h : Steady W s₀ s) : Steady W s₀ (s.updConfirm auto) :=
  updGo_steady (raise_steady (steady_upd (ptrWrite_steady (wr_steady (wr_steady h rfl) rfl))))

theorem revertPointer_steady {cause : Nat} (h : Steady W s₀ s) : Steady W s₀ (s.revertPointer cause) := by
  unfold revertPointer
  extract_lets _ _ s₁
  have h₁ : Steady W s₀ s₁ := by
    unfold s₁
    split
    · exact wr_steady (steady_upd h) rfl
    · exact h
  exact steady_upd (updGo_steady (updForget_steady (ptrWrite_steady (wr_steady (wr_steady (wr_steady h₁ rfl) rfl)
    rfl))))

theorem revertNow_steady (h : Steady W s₀ s) : Steady W s₀ s.revertNow := by
  unfold revertNow
  split
  · exact steady_ite h (softRestart_steady (finaliseOpt_steady (revertPointer_steady (pourZero_steady h))))
  · exact h

theorem revertStart_steady {cause : Nat} {x : Ctx} {owed : Option Ctx} (h : Steady W s₀ s) :
    Steady W s₀ (s.revertStart cause x owed) :=
  revertNow_steady (steady_upd (forceOutlets_steady h))

theorem activate_steady {mode : Nat} {x : Ctx} {owed : Option Ctx} (h : Steady W s₀ s) :
    Steady W s₀ (s.activate mode x owed) :=
  steady_ite (forceOutlets_steady (updGo_steady (steady_upd h))) (updGo_steady (steady_upd h))

theorem actEnds_steady {status : Nat} (h : Steady W s₀ s) : Steady W s₀ (s.actEnds status) := by
  unfold actEnds
  split
  · exact steady_ite (unforce_steady (finaliseOpt_steady (steady_upd h))) (finaliseOpt_steady (steady_upd h))
  · exact h

theorem updFlip_steady {x : Option Ctx} (h : Steady W s₀ s) : Steady W s₀ (s.updFlip x) := by
  unfold updFlip
  split
  · exact h
  · exact softRestart_steady (finaliseOpt_steady (updForget_steady (updRelease_steady (updGo_steady (ptrWrite_steady
      (wr_steady (wr_steady (wr_steady (wr_steady (wr_steady (steady_upd (steady_ite h (pourZero_steady h))) rfl) rfl)
      rfl) rfl) rfl))))))

theorem updAbort_steady {src : Nat} {g : Option OwnerSig} (h : Steady W s₀ s) : Steady W s₀ (s.updAbort src g).2.2 := by
  unfold updAbort
  extract_lets
  refine steady_ite_thd h ?_
  refine steady_ite_thd (updRelease_steady (updGo_steady (updForget_steady (updErase_steady (actEnds_steady h))))) ?_
  split
  · exact h
  · split
    · exact h
    · exact updRelease_steady (updGo_steady (updForget_steady (updErase_steady (actEnds_steady (ownerTook_steady
        h)))))

theorem onUpd_steady {t : Nat} {f : State → State} (h : Steady W s₀ s) (hf : ∀ {s}, Steady W s₀ s → Steady W s₀ (f s)) :
    Steady W s₀ (s.onUpd t f) :=
  steady_ite (hf (advance_steady h)) (advance_steady h)

theorem svcReply_steady {typ status : Nat} (h : Steady W s₀ s) : Steady W s₀ (s.svcReply typ status) := steady_upd h

theorem hostSource_steady {x : Ctx} {f : State → State} (h : Steady W s₀ s) (hf : ∀ {s}, Steady W s₀ s → Steady W s₀ (f
    s)) :
    Steady W s₀ (s.hostSource x f) :=
  steady_ite (complete_steady h) (hf h)

/-! ### Islands and cycles (Sys2Proof/Machine/ArchOps.lean) -/

theorem noteServed_steady {x : Served} (h : Steady W s₀ s) : Steady W s₀ (s.noteServed x) := steady_upd h

theorem serveXing_steady {target from_ : Nat} {x : Xing} (h : Steady W s₀ s) :
    Steady W s₀ (s.serveXing target from_ x).2 :=
  steady_ite_snd (noteServed_steady h) (steady_ite_snd (noteServed_steady (partitionDenied_steady h)) (steady_ite_snd
    (noteServed_steady h) (noteServed_steady (wr_steady (takeFree_steady h) rfl))))

theorem linkCommand_steady {dst : Nat} {cmd : Option (Nat × Nat)} (h : Steady W s₀ s) :
    Steady W s₀ (s.linkCommand dst cmd) := by
  unfold linkCommand
  split
  · exact h
  · split
    · exact steady_ite h (complete_steady h)
    · exact h

theorem linkTimeout_steady {src dst : Nat} {ini : Ini} {cmd : Option (Nat × Nat)} (h : Steady W s₀ s) :
    Steady W s₀ (s.linkTimeout src dst ini cmd) := by
  unfold linkTimeout
  exact linkCommand_steady (notify_steady (steady_ite (noteServed_steady (alert_steady (incSat_steady h rfl) rfl))
    (raise_steady (steady_upd (noteServed_steady (alert_steady (incSat_steady h rfl) rfl))))))

theorem freqEdge_steady (h : Steady W s₀ s) : Steady W s₀ s.freqEdge :=
  steady_forEach modMp_steady (steady_forEach (fun h₁ => steady_ite h₁ (steady_ite (wr_steady (wr_steady h₁ rfl) rfl)
    (wr_steady h₁ rfl))) h)

theorem secondEdge_steady (h : Steady W s₀ s) : Steady W s₀ s.secondEdge := by
  unfold secondEdge
  exact billEdge_steady (freqEdge_steady (wr_steady (wr_steady h rfl) rfl))

theorem hostCloses_steady {n : Nat} (h : Steady W s₀ s) : Steady W s₀ (s.hostCloses n) := by
  unfold hostCloses
  extract_lets _ s₁
  have h₁ : Steady W s₀ s₁ := modOutlet_steady h
  refine steady_ite h ?_
  split
  · exact steady_forEach complete_steady (raise_steady h₁)
  · exact steady_forEach complete_steady (applyClose_steady h₁)

theorem checkOutlet_steady {n : Nat} (h : Steady W s₀ s) : Steady W s₀ (s.checkOutlet n) := by
  unfold checkOutlet
  extract_lets
  split
  rename_i hp
  have h₂ := steady_fst hp (overcurrentCheck_steady (mstopCheck_steady (hostCloses_steady h)))
  extract_lets s₃ s₄
  have h₃ : Steady W s₀ s₃ := shuntKeep_steady (steady_ite (stopAny_steady h₂) h₂)
  have h₄ : Steady W s₀ s₄ := steady_ite h₃ (prewarnNote_steady (rcmUpdate_steady h₃))
  exact steady_ite (modOs_steady h₄) h₄

theorem checkSlot_steady {k : Nat} (h : Steady W s₀ s) : Steady W s₀ (s.checkSlot k) := by
  unfold checkSlot
  extract_lets s₁
  have h₁ : Steady W s₀ s₁ := consentCheck_steady h
  refine steady_ite ?_ h₁
  split
  · exact abortCask_steady h₁
  · exact commitClose_steady h₁

theorem cycleBegin_steady (h : Steady W s₀ s) : Steady W s₀ s.cycleBegin := by
  unfold cycleBegin
  extract_lets _ _ _ _ _ _ _ _ s₁
  have h₁ : Steady W s₀ s₁ := steady_ite (steady_upd (steady_upd h)) (steady_upd h)
  exact steady_ite (refreshSafeOk_steady (setFlag_steady h₁ rfl)) h₁

theorem controlCycle_steady {feed : List Feed} (h : Steady W s₀ s) : Steady W s₀ (s.controlCycle feed) := by
  unfold controlCycle
  extract_lets _ _ s₁
  have h₁ : Steady W s₀ s₁ := steady_forEach checkSlot_steady (steady_forEach checkOutlet_steady (cycleBegin_steady
    (meterAll_steady h)))
  exact revertNow_steady (healthNote_steady (noteReady_steady (takeOverCycle_steady (lswSafeOff_steady (steady_ite h₁
    (steady_forEach sessionCycle_steady h₁))))))

theorem passStaged_steady {n : Nat} (h : Steady W s₀ s) : Steady W s₀ (s.passStaged n) := modOutlet_steady h

theorem stagingDeadline_steady {late : Nat} (h : Steady W s₀ s) : Steady W s₀ (s.stagingDeadline late) := by
  unfold stagingDeadline
  refine steady_ite h ?_
  extract_lets _ _ _ s₁ _ s₂
  have h₁ : Steady W s₀ s₁ := steady_forEach (fun h₁ => steady_upd (passStaged_steady h₁)) (steady_upd h)
  have h₂ : Steady W s₀ s₂ := steady_upd h₁
  exact steady_ite h₁ (steady_forEach (fun h₆ => steady_ite (stopSession_steady (takeFree_steady h₆)) h₆) (steady_ite
    h₂ (raise_steady (incSat_steady (steady_upd h₂) rfl))))

/-! ### Coil (Sys2Proof/Machine/Coil.lean) -/

theorem coilFault_steady {k code chan : Nat} (h : Steady W s₀ s) : Steady W s₀ (s.coilFault k code chan) :=
  modCoil_steady (trip_steady h)

theorem testBegin_steady {k : Nat} {low : Bool} (h : Steady W s₀ s) : Steady W s₀ (s.testBegin k low) :=
  modCoil_steady h

theorem testStuck_steady {k : Nat} {low otherOpens : Bool} (h : Steady W s₀ s) :
    Steady W s₀ (s.testStuck k low otherOpens) :=
  raise_steady (coilFault_steady (modCoil_steady h))

/-! ### Met (Sys2Proof/Machine/Met.lean) -/

theorem putPf_steady {F : Fld} {n : Nat} {p : Int} {sApp : Nat} (h : Steady W s₀ s)
    (hF : watched F = false) : Steady W s₀ (s.putPf F n p sApp) :=
  steady_ite (wr_steady (takeFree_steady h) hF) (wrInt_steady h hF)

theorem putCos_steady {n : Nat} {re : Int} {mag : Nat} (h : Steady W s₀ s) : Steady W s₀ (s.putCos n re mag) :=
  putPf_steady h rfl

theorem putPhase_steady {m i : Nat} {a first : PhaseSum} (h : Steady W s₀ s) : Steady W s₀ (s.putPhase m i a first) :=
  steady_ite (wrFitInt_steady (wrFitInt_steady (wrFitInt_steady h rfl) rfl) rfl) (wrInt_steady (wrInt_steady
    (putCos_steady (putPf_steady (wrFit_steady (wrFitInt_steady (wrFitInt_steady (wrFit_steady (wrFit_steady h rfl)
    rfl) rfl) rfl) rfl) rfl)) rfl) rfl)

theorem putTotal_steady {m : Nat} {w : Window} (h : Steady W s₀ s) : Steady W s₀ (s.putTotal m w) := by
  unfold putTotal
  extract_lets _ _ _ _ s₁ _ _ _ s₂
  have h₁ : Steady W s₀ s₁ := modMp_steady (wrFitInt_steady h rfl)
  have h₂ : Steady W s₀ s₂ := putPf_steady (wrFit_steady (wrFitInt_steady (wr_steady h₁ rfl) rfl) rfl) rfl
  exact steady_ite (wr_steady h₁ rfl) (steady_ite h₂ (wrFit_steady h₂ rfl))

theorem putHarm_steady {m ph order : Nat} {w : Window} (h : Steady W s₀ s) : Steady W s₀ (s.putHarm m ph order w) :=
  steady_upd (wrFit_steady (wrFit_steady (wrFit_steady (wrFit_steady h rfl) rfl) rfl) rfl)

theorem putThd_steady {m i : Nat} (h : Steady W s₀ s) : Steady W s₀ (s.putThd m i) :=
  wrFit_steady (wrFit_steady h rfl) rfl

theorem windowEnd_steady {m : Nat} {w : Window} (h : Steady W s₀ s) : Steady W s₀ (s.windowEnd m w) := by
  unfold windowEnd
  extract_lets _ _ s₁
  have h₁ : Steady W s₀ s₁ := putTotal_steady (steady_forEach putPhase_steady h)
  exact modMp_steady (steady_ite h₁ (steady_forEach putThd_steady (steady_forEach (fun h₃ => steady_forEach
    putHarm_steady h₃) h₁)))

theorem qualSecond_steady {m : Nat} (h : Steady W s₀ s) : Steady W s₀ (s.qualSecond m) :=
  modMp_steady (steady_forEach_fld Prod.snd (by decide)
    (fun hF h₁ => steady_ite (addSat_steady h₁ hF) h₁) h)

theorem secondRecord_steady {m : Nat} (h : Steady W s₀ s) : Steady W s₀ (s.secondRecord m) :=
  wr_steady (wr_steady (modMp_steady (qualSecond_steady h)) rfl) rfl

theorem pqCounts_unwatched (kind : Nat) :
    watched ([R.MET_PQ_STAT_DIPS, R.MET_PQ_STAT_SWELLS].getD kind R.MET_PQ_STAT_INTERRUPTS) = false :=
  match kind with
  | 0 => by decide
  | 1 => by decide
  | _ + 2 => by exact (rfl : watched R.MET_PQ_STAT_INTERRUPTS = false)

theorem pqKind_steady {m at_ kind on ext : Nat} {starts ends : Bool} {worse : Nat → Nat → Nat} (h : Steady W s₀ s) :
    Steady W s₀ (s.pqKind m at_ kind on ext starts ends worse) := by
  unfold pqKind
  extract_lets
  split
  · exact steady_ite (raise_steady (wr_steady (modMp_steady h) rfl)) h
  · exact steady_ite (raise_steady (incSat_steady (wr_steady (modMp_steady h) rfl) (pqCounts_unwatched kind)))
      (wr_steady (modMp_steady h) rfl)

theorem pqHalf_steady {m at_ : Nat} {ps : List (Nat × Nat)} (h : Steady W s₀ s) : Steady W s₀ (s.pqHalf m at_ ps) :=
  pqKind_steady (pqKind_steady (pqKind_steady h))

theorem copyBank_steady {c : Nat} (h : Steady W s₀ s) : Steady W s₀ (s.copyBank c) :=
  steady_forEach_fld id (by decide) (fun hF hx => wr_steady hx hF) h

theorem applyCal_steady {x : Ctx} {m ph mask : Nat} {k : CalKept} {cs : List Nat} {gv gi ti : Int} (h : Steady W s₀ s) :
    Steady W s₀ (s.applyCal x m ph mask k cs gv gi ti) := by
  unfold applyCal
  extract_lets _ _ s₁ s₂ s₃ s₄
  have h₁ : Steady W s₀ s₁ := steady_forEach copyBank_steady h
  have h₂ : Steady W s₀ s₂ := steady_ite (wrFitInt_steady h₁ rfl) h₁
  have h₃ : Steady W s₀ s₃ := steady_ite (wrFitInt_steady h₂ rfl) h₂
  have h₄ : Steady W s₀ s₄ := steady_ite (wrFitInt_steady h₃ rfl) h₃
  exact complete_steady (startBlend_steady (steady_forEach calNote_steady (steady_forEach setCal_steady (steady_ite
    (wrFitInt_steady (wrFitInt_steady h₄ rfl) rfl) h₄))))

theorem pulseReset_steady {k : Nat} (h : Steady W s₀ s) : Steady W s₀ (s.pulseReset k) := wr_steady (steady_upd h) rfl

/-! ### Outlet (Sys2Proof/Machine/Outlet.lean) -/

theorem setOut_steady {n : Nat} {p : PilotOut} (h : Steady W s₀ s) : Steady W s₀ (s.setOut n p) :=
  modOutlet_steady (wr_steady h rfl)

theorem judgePeriod_steady {n : Nat} {high low : Int} (h : Steady W s₀ s) : Steady W s₀ (s.judgePeriod n high low) := by
  unfold judgePeriod
  extract_lets _ s₁ x₁
  clear_value x₁
  have h₁ : Steady W s₀ s₁ := wrInt_steady (wrInt_steady h rfl) rfl
  split
  · exact h₁
  · exact modOutlet_steady h₁

theorem acceptPilot_steady {n : Nat} {p : Pilot} (h : Steady W s₀ s) : Steady W s₀ (s.acceptPilot n p) := by
  unfold acceptPilot
  extract_lets s₁ s₂
  have h₁ : Steady W s₀ s₁ := modOutlet_steady h
  have h₂ : Steady W s₀ s₂ := steady_ite (clearAtA_steady h₁) h₁
  exact pilotDrives_steady (steady_ite (trip_steady h₂) h₂)

theorem hlcFailed_steady {n : Nat} (h : Steady W s₀ s) : Steady W s₀ (s.hlcFailed n) :=
  steady_ite h (steady_ite (goReady_steady (modOutlet_steady (wr_steady (wr_steady h rfl) rfl))) (endSession_steady h))

theorem vehicleAuth_steady {n : Nat} {evccid : List Byte} (h : Steady W s₀ s) :
    Steady W s₀ (s.vehicleAuth n evccid) := by
  unfold vehicleAuth
  extract_lets _ x₁
  clear_value x₁
  split
  · exact authorise_steady h
  · exact raise_steady h
  · exact raise_steady h

theorem contractAuth_steady {n : Nat} {ident : List Byte} {valid : Bool} {ocsp : Nat} (h : Steady W s₀ s) :
    Steady W s₀ (s.contractAuth n ident valid ocsp) := by
  unfold contractAuth
  extract_lets _ x₁
  clear_value x₁
  refine steady_ite h ?_
  refine steady_ite (endSession_steady (raise_steady h)) (steady_ite (endSession_steady (raise_steady h)) ?_)
  split
  · exact endSession_steady (raise_steady h)
  · exact authorise_steady h
  · exact authorise_steady h

theorem evStop_steady {n : Nat} {delivery : Bool} (h : Steady W s₀ s) : Steady W s₀ (s.evStop n delivery) := by
  unfold evStop
  extract_lets
  split
  · exact stopSession_steady h
  · exact steady_ite (stopSession_steady h) (steady_ite (modOutlet_steady (openOutlet_steady h)) h)
  · exact h

theorem hlcMessage_steady {n : Nat} {msg : HlcMsg} (h : Steady W s₀ s) : Steady W s₀ (s.hlcMessage n msg) := by
  unfold hlcMessage
  extract_lets
  split
  · refine steady_ite h ?_
    extract_lets x₁
    clear_value x₁
    split
    · exact wr_steady h rfl
    · exact hlcFailed_steady h
  · exact steady_ite h (steady_ite (steady_ite (hlcFailed_steady h) (endSession_steady h)) (steady_ite
      (vehicleAuth_steady (modOutlet_steady h)) (modOutlet_steady h)))
  · exact steady_ite h (contractAuth_steady h)
  · exact goReady_steady (modOutlet_steady (steady_ite (wr_steady h rfl) h))
  · exact steady_ite (stageSet_steady (modOutlet_steady h)) h
  · exact steady_ite (stageSet_steady h) h
  · exact steady_ite (modOutlet_steady h) (steady_ite (stageSet_steady h) h)
  · exact evStop_steady h
  · exact evStop_steady h
  · exact steady_ite (stageSet_steady h) h
  · exact steady_ite h (steady_ite (modOutlet_steady h) (hlcFailed_steady h))
  · exact steady_ite (modOutlet_steady h) h
  · exact steady_ite h (raise_steady (modOutlet_steady h))
  · exact hlcFailed_steady h

theorem cfgApplied_steady {n : Nat} (h : Steady W s₀ s) : Steady W s₀ (s.cfgApplied n) := by
  unfold cfgApplied
  extract_lets s₁ _ _ s₂
  have h₁ : Steady W s₀ s₁ := steady_ite (offer_steady h) h
  have h₂ : Steady W s₀ s₂ := modOutlet_steady h₁
  exact steady_ite h₁ (steady_ite (reserveHost_steady (steady_ite (setSess_steady h₂) h₂)) (wr_steady (wr_steady h₁
    rfl) rfl))

theorem stopOne_steady {n : Nat} (h : Steady W s₀ s) : Steady W s₀ (s.stopOne n) := by
  unfold stopOne
  split
  · exact stopSession_steady h
  · exact stopSession_steady h
  · exact stopSession_steady h
  · exact endOrWait_steady (caskSafety_steady h)
  · exact h

theorem sessionStop_steady {mask : Nat} (h : Steady W s₀ s) : Steady W s₀ (s.sessionStop mask).2 :=
  steady_ite_snd (steady_forEach (fun h₁ => stopOne_steady (caskSafety_steady h₁)) (steady_forEach (fun h₁ =>
    stopHosted_steady (caskSafety_steady h₁)) h)) h

theorem outErem_steady {mask : Nat} (h : Steady W s₀ s) : Steady W s₀ (s.outErem mask) :=
  steady_forEach (fun h₁ => steady_ite (faultSession_steady (erem_steady h₁)) (erem_steady h₁)) h

/-! ### Supply and clocks (Sys2Proof/Machine/PowerOps.lean) -/

theorem loseClock_steady (h : Steady W s₀ s) : Steady W s₀ s.loseClock :=
  steady_ite h (wr_steady (wr_steady (steady_upd h) rfl) rfl)

theorem railShow_steady {r : Nat} {mv : Int} (h : Steady W s₀ s) : Steady W s₀ (s.railShow r mv) :=
  steady_ite (wr_steady (wrInt_steady h rfl) rfl) (steady_ite (wr_steady (wrInt_steady h rfl) rfl) (wrInt_steady h rfl))

theorem vanaShow_steady (h : Steady W s₀ s) : Steady W s₀ s.vanaShow :=
  mpEvalAll_steady (trkRefreshAll_steady (steady_forEach (fun h₁ => setFlag_steady (setFlag_steady h₁ rfl) rfl) h))

theorem failRestart_steady {cause : Nat} {feed : List Feed} {whole : Bool} (h : Steady W s₀ s) :
    Steady W s₀ (s.failRestart cause feed whole) :=
  softRestart_steady (steady_upd (steady_upd (steady_ite (wr_steady (pourSteps_steady h) rfl) (wr_steady h rfl))))

theorem railAct_steady {r : Nat} {ov : Bool} {mv : Int} {feed : List Feed} {whole : Bool} (h : Steady W s₀ s) :
    Steady W s₀ (s.railAct r ov mv feed whole) := by
  unfold railAct
  split
  · exact steady_ite h (lastPour_steady h)
  · exact steady_ite h (raise_steady (wr_steady h rfl))
  · exact h
  · exact failRestart_steady h
  · exact failRestart_steady h
  · exact failRestart_steady h
  · exact vanaShow_steady h
  · exact steady_forEach trip_steady h
  · exact steady_forEach trip_steady h
  · exact loseClock_steady h
  · exact steady_ite h (vlsLow_steady h)

theorem railFails_steady {r : Nat} {ov : Bool} {mv : Int} {feed : List Feed} {whole : Bool} (h : Steady W s₀ s) :
    Steady W s₀ (s.railFails r ov mv feed whole) :=
  steady_ite h (steady_ite (railShow_steady h) (railAct_steady (raise_steady (incSat_steady (wr_steady
    (railShow_steady h) (by split <;> rfl)) rfl))))

theorem railBack_steady {r : Nat} {mv : Int} (h : Steady W s₀ s) : Steady W s₀ (s.railBack r mv) := by
  unfold railBack
  refine steady_ite h ?_
  extract_lets _ s₁
  have h₁ : Steady W s₀ s₁ := raise_steady (wr_steady (wr_steady (railShow_steady h) rfl) rfl)
  exact steady_ite (wr_steady h₁ rfl) (steady_ite (vanaShow_steady h₁) h₁)

theorem shutOutlets_steady (h : Steady W s₀ s) : Steady W s₀ s.shutOutlets := by
  unfold shutOutlets
  refine steady_forEach (fun h₁ => ?_) h
  split
  · exact stopSession_steady h₁
  · exact stopSession_steady h₁
  · exact stopSession_steady h₁
  · exact h₁
  · exact steady_ite (endSession_steady h₁) h₁

theorem lowSidesOff_steady (h : Steady W s₀ s) : Steady W s₀ s.lowSidesOff :=
  steady_forEach modCoil_steady (steady_forEach noteOpening_steady h)

theorem tempTaken_steady {k : Nat} {c : Int} (h : Steady W s₀ s) : Steady W s₀ (s.tempTaken k c) := by
  unfold tempTaken
  refine steady_ite h ?_
  extract_lets _ _ _ s₁ s₂ s₃ s₄ _ _ _ s₅ s₆
  have h₁ : Steady W s₀ s₁ := wr_steady (wr_steady h rfl) rfl
  have h₂ : Steady W s₀ s₂ := steady_ite h₁ (raise_steady (wr_steady h₁ rfl))
  have h₃ : Steady W s₀ s₃ := steady_ite (alert_steady h₂ rfl) h₂
  have h₄ : Steady W s₀ s₄ := steady_ite (wr_steady h₃ rfl) h₃
  have h₅ : Steady W s₀ s₅ := steady_ite (shutOutlets_steady (steady_upd (wr_steady h₄ rfl))) h₄
  have h₆ : Steady W s₀ s₆ := steady_ite (lowSidesOff_steady h₅) h₅
  exact steady_ite (dispWake_steady (steady_upd (wr_steady (wr_steady h₆ rfl) rfl))) h₆

theorem enterMeter_steady (h : Steady W s₀ s) : Steady W s₀ s.enterMeter := by
  unfold enterMeter
  exact raise_steady (meterDisp_steady (wr_steady (steady_ite (islandStop_steady (islandStop_steady h))
    (islandStop_steady (islandStop_steady (islandStop_steady h)))) rfl))

/-! ### Safe (Sys2Proof/Machine/Safe.lean) -/

theorem pilotB_steady {n : Nat} {level : Int} (h : Steady W s₀ s) : Steady W s₀ (s.pilotB n level) := by
  unfold pilotB
  refine steady_ite (modOs_steady h) ?_
  extract_lets x₁ s₁ _ s₂
  clear_value x₁
  have h₁ : Steady W s₀ s₁ := modOs_steady h
  have h₂ : Steady W s₀ s₂ := by
    unfold s₂
    split
    · exact steady_ite (steady_ite (testSensor_steady (modOs_steady (modOs_steady h₁))) (modOs_steady h₁)) h₁
    · exact h₁
  exact steady_ite (trip_steady h₂) h₂

theorem followHigh_steady {k : Nat} (h : Steady W s₀ s) : Steady W s₀ (s.followHigh k) :=
  steady_ite (modCoil_steady h) h

theorem formBeat_steady (h : Steady W s₀ s) : Steady W s₀ s.formBeat := steady_upd h

theorem sampleMirrors_steady {mirrors : Nat} (h : Steady W s₀ s) : Steady W s₀ (s.sampleMirrors mirrors) :=
  steady_forEach modCoil_steady h

theorem cableFailed_steady {n : Nat} (h : Steady W s₀ s) : Steady W s₀ (s.cableFailed n) :=
  steady_ite (endSession_steady (erem_steady (modOutlet_steady h))) (modOutlet_steady h)

theorem imdCount_steady {n : Nat} {fault : Bool} (h : Steady W s₀ s) : Steady W s₀ (s.imdCount n fault) :=
  steady_ite (trip_steady (modOs_steady h)) (modOs_steady h)

theorem imdResult_steady {kohm : Nat} (h : Steady W s₀ s) : Steady W s₀ (s.imdResult kohm) := by
  unfold imdResult
  extract_lets _ _ _ _ _ _ _ s₁ _ s₂
  have h₁ : Steady W s₀ s₁ := steady_upd (wr_steady (wr_steady h rfl) rfl)
  have h₂ : Steady W s₀ s₂ := imdCount_steady (steady_ite (raise_steady h₁) h₁)
  split
  · exact h₂
  · exact steady_ite h₂ (steady_ite (cableFailed_steady h₂) (modOutlet_steady h₂))

theorem clearLatched_steady {n code : Nat} (h : Steady W s₀ s) : Steady W s₀ (s.clearLatched n code) := by
  unfold clearLatched
  refine steady_ite ?_ h
  extract_lets s₁ s₂
  have h₁ : Steady W s₀ s₁ := modOs_steady h
  have h₂ : Steady W s₀ s₂ := steady_ite (wr_steady (modOs_steady h₁) rfl) h₁
  exact steady_ite (steady_forEach modCoil_steady h₂) h₂

theorem clearModLatched_steady {code : Nat} (h : Steady W s₀ s) : Steady W s₀ (s.clearModLatched code) :=
  steady_ite (steady_upd h) h

theorem resetSafe_steady (h : Steady W s₀ s) : Steady W s₀ s.resetSafe :=
  steady_ite h (raise_steady (refreshSafeOk_steady (steady_forEach (fun h₁ => steady_forEach clearLatched_steady h₁)
    (steady_forEach clearModLatched_steady h))))

theorem safeInAct_steady {action n : Nat} (h : Steady W s₀ s) : Steady W s₀ (s.safeInAct action n) := by
  unfold safeInAct
  split
  · exact stopAny_steady h
  · exact trip_steady h
  · exact trip_steady h
  · exact trip_steady h
  · exact h

theorem safeInGo_steady {m : Nat} (h : Steady W s₀ s) : Steady W s₀ (s.safeInGo m) :=
  steady_ite h (steady_forEach safeInAct_steady (steady_ite (raise_steady h) h))

theorem safeInReturn_steady (h : Steady W s₀ s) : Steady W s₀ s.safeInReturn :=
  steady_forEach (fun h₁ => steady_ite h₁ (clearFault_steady h₁)) h

theorem safeInLevel_steady {m : Nat} {closed : Bool} (h : Steady W s₀ s) : Steady W s₀ (s.safeInLevel m closed) :=
  safeInReturn_steady (steady_ite (steady_upd h) (safeInGo_steady (steady_upd h)))

theorem safeInCfg_steady {before : State} {m : Nat} (h : Steady W s₀ s) : Steady W s₀ (s.safeInCfg before m) :=
  safeInReturn_steady (steady_ite h (safeInGo_steady h))

/-! ### Register writes (Sys2Proof/Machine/RegOps.lean) -/

theorem refuseWrite_steady {off reason : Nat} (h : Steady W s₀ s) : Steady W s₀ (s.refuseWrite off reason) :=
  steady_ite (raise_steady (steady_host (alert_steady (wr_steady (wr_steady (incSat_steady h rfl) rfl) rfl) rfl)))
    (steady_host (alert_steady (wr_steady (wr_steady (incSat_steady h rfl) rfl) rfl) rfl))

/-- A read-only register field is the only kind of watched field, but for LOCK, and none of them is saved. -/
theorem regTable_watched : ∀ d ∈ regTable, ∀ F ∈ d.flds, watched F = true →
    F.saved = false ∧ (F.acc = .ro ∨ F.acc = .rw ∧ d.has R.GLOBAL_SETUP_LOCK_LOCK = true) := by
  decide +kernel

theorem unwatched_of_acc {d : RegDef} {F : Fld} (hd : d ∈ regTable) (hF : F ∈ d.flds) (ho : F.acc ≠ .ro)
    (hw : F.acc = .rw → d.has R.GLOBAL_SETUP_LOCK_LOCK = false) : watched F = false := by
  by_contra hn
  obtain ⟨-, ha | ⟨ha, hl⟩⟩ := regTable_watched d hd F hF (by simpa using hn)
  · exact ho ha
  · simp [hw ha] at hl

theorem regAt_mem {off n w : Nat} {d : RegDef} (h : regAt off = some (d, n, w)) : d ∈ regTable := by
  obtain ⟨e, he, hp⟩ := List.exists_of_findSome?_eq_some h
  obtain ⟨p, -, hp⟩ := Option.map_eq_some_iff.1 hp
  cases hp
  exact he

theorem clearRc_steady {d : RegDef} {n : Nat} (hd : d ∈ regTable) (h : Steady W s₀ s) :
    Steady W s₀ (s.clearRc d n) := by
  refine steady_forEach_fld id (fun F hF => ?_) (fun hF hx => wr_steady hx hF) h
  obtain ⟨hF, ha⟩ := List.mem_filter.1 hF
  have ha : F.acc = .rc := by simpa using ha
  exact unwatched_of_acc hd hF (by simp [ha]) (by simp [ha])

theorem readWord_steady {off : Nat} (h : Steady W s₀ s) : Steady W s₀ (s.readWord off).2 := by
  unfold readWord
  split
  · exact h
  · rename_i hr
    exact steady_ite_snd h (steady_ite_snd (popNotif_steady h) (clearRc_steady (regAt_mem hr) (steady_forEach
      steady_host h)))

theorem barRead_steady {off : Nat} {wide : Bool} (h : Steady W s₀ s) : Steady W s₀ (s.barRead off wide) :=
  steady_ite (steady_host (refuseWrite_steady h)) (steady_ite (steady_host (readWord_steady (readWord_steady h)))
    (steady_host (readWord_steady h)))

theorem msixRead_steady {off : Nat} {wide : Bool} (h : Steady W s₀ s) : Steady W s₀ (s.msixRead off wide) :=
  steady_host h

theorem msixPut_steady {off v : Nat} (h : Steady W s₀ s) : Steady W s₀ (s.msixPut off v) :=
  steady_ite h (steady_ite (steady_host h) (steady_host (steady_host h)))

theorem msixWrite_steady {off v : Nat} {wide : Bool} (h : Steady W s₀ s) : Steady W s₀ (s.msixWrite off v wide) :=
  steady_ite (msixPut_steady (msixPut_steady h)) (msixPut_steady h)

theorem putFields_steady {fs : List Fld} {n image : Nat} (hfs : ∀ F ∈ fs, watched F = false) (h : Steady W s₀ s) :
    Steady W s₀ (s.putFields fs n image) :=
  steady_forEach_fld id hfs (fun hF h₁ => steady_ite (wr_steady h₁ hF) (wrSave_steady h₁ hF)) h

theorem calList_steady {off old new : Nat} (h : Steady W s₀ s) : Steady W s₀ (s.calList off old new) := by
  unfold calList
  split
  · exact steady_upd h
  · exact h

theorem shiftMoved_steady {before : State} {c : Nat} (h : Steady W s₀ s) : Steady W s₀ (s.shiftMoved before c) :=
  steady_ite h (wr_steady (calList_steady h) rfl)

theorem chainApplied_steady {before : State} {d : RegDef} {n : Nat} (h : Steady W s₀ s) :
    Steady W s₀ (s.chainApplied before d n) := by
  unfold chainApplied
  extract_lets _ _ s₁ s₂
  have h₁ : Steady W s₀ s₁ := steady_forEach (fun h₂ => restartChain_steady (shiftMoved_steady h₂)) h
  have h₂ : Steady W s₀ s₂ := steady_ite (tamper_steady (wr_steady h₁ rfl)) h₁
  exact steady_ite (mpEvalAll_steady (trkRefreshAll_steady h₂)) h₂

theorem seqApplied_steady {before : State} {q : Nat} {ent : Option Nat} (h : Steady W s₀ s) (h_before : Steady W s₀
    before) :
    Steady W s₀ (s.seqApplied before q ent) :=
  steady_ite (steady_ite (steady_upd (steady_upd h_before)) (steady_upd h_before)) (steady_ite (padc10_steady
    (wr_steady h rfl)) (stopSeq_steady (wr_steady h rfl)))

theorem regApplied_steady {before : State} {d : RegDef} {n : Nat} (h : Steady W s₀ s) (h_before : Steady W s₀ before) :
    Steady W s₀ (s.regApplied before d n) :=
  auxSlowNote_steady (steady_ite (seqApplied_steady (chainApplied_steady h) h_before) (steady_ite (seqApplied_steady
    (chainApplied_steady h) h_before) (steady_ite (pulseReset_steady (chainApplied_steady h)) (steady_ite
    (signKeyChanged_steady (chainApplied_steady h)) (steady_ite (plcFollowAll_steady (cfgApplied_steady
    (chainApplied_steady h))) (steady_ite (steady_ite (trellisEn_steady (chainApplied_steady h)) (mainsModems_steady
    (trellisEn_steady (chainApplied_steady h)))) (steady_ite (safeInCfg_steady (chainApplied_steady h)) (steady_ite
    (bandShow_steady (chainApplied_steady h)) (steady_ite (twinStart_steady (chainApplied_steady h))
    (chainApplied_steady h))))))))))

theorem alertBits_unwatched : ∀ F ∈ alertBits, watched F = false := by decide

theorem alertWrite_steady {mask : Nat} (h : Steady W s₀ s) : Steady W s₀ (s.alertWrite mask) := by
  unfold alertWrite
  extract_lets s₁
  have h₁ : Steady W s₀ s₁ := steady_forEach_fld id (fun F hF => alertBits_unwatched F (List.mem_filter.1 hF).1)
    (fun hF hx => wr_steady hx hF) h
  exact steady_ite (irq_steady h₁) h₁

theorem lockSetup_steady (hL : R.GLOBAL_SETUP_LOCK_LOCK ∉ W) (h : Steady W s₀ s) : Steady W s₀ s.lockSetup :=
  steady_ite h (auxSlowAll_steady (steady_host (wr_steady_out (by decide) hL h)))

theorem settingsSaved_steady (h : Steady W s₀ s) : Steady W s₀ s.settingsSaved :=
  steady_ite h (raise_steady (wr_steady (steady_forEach save_steady h) rfl))

theorem writeCtrl_steady {image : Nat} (h : Steady W s₀ s) : Steady W s₀ (s.writeCtrl image) :=
  have h₁ : Steady W s₀ (s.putFields [R.HOST_CTRL_POLL_US, R.HOST_CTRL_KICK_EN] 0 image) :=
    putFields_steady (by decide) h
  steady_ite (attach_steady h₁) (steady_ite (detach_steady h₁) h₁)

theorem applyWrite_steady {d : RegDef} {n off : Nat} {fs : List Fld} {image : Nat}
    (hfs : ∀ F ∈ fs, watched F = false) (h : Steady W s₀ s) : Steady W s₀ (s.applyWrite d n off fs image) :=
  regApplied_steady (steady_ite (calNote_steady (putFields_steady hfs h)) (putFields_steady hfs h)) h

theorem writeFieldwise_steady {d : RegDef} {n off image : Nat} (hd : d ∈ regTable) (hl : d.has R.GLOBAL_SETUP_LOCK_LOCK
    = false) (h : Steady W s₀ s) :
    Steady W s₀ (s.writeFieldwise d n off image) := by
  unfold writeFieldwise
  extract_lets
  split
  · exact refuseWrite_steady h
  · refine steady_ite (refuseWrite_steady h) (steady_ite (refuseWrite_steady h) ?_)
    split
    · exact refuseWrite_steady h
    · refine applyWrite_steady (fun F hF => ?_) h
      obtain ⟨hF, ha⟩ := List.mem_filter.1 (List.mem_filter.1 hF).1
      exact unwatched_of_acc hd hF (by rintro e; simp [hostWritable, e] at ha) (fun _ => hl)

theorem writeReg_steady {d : RegDef} {n off : Nat} {ws : List (Nat × Nat)} (hL : R.GLOBAL_SETUP_LOCK_LOCK ∉ W)
    (hd : d ∈ regTable) (h : Steady W s₀ s) : Steady W s₀ (s.writeReg d n off ws) := by
  unfold writeReg
  extract_lets
  split
  · exact steady_ite (lockSetup_steady hL h) h
  · rename_i hl
    refine steady_ite (alertWrite_steady h) (steady_ite (writeCtrl_steady h) ?_)
    split
    · exact writeRing_steady h
    · exact writeFieldwise_steady hd (by simpa using hl) h

theorem writeWord_steady {off v : Nat} (hL : R.GLOBAL_SETUP_LOCK_LOCK ∉ W) (h : Steady W s₀ s) :
    Steady W s₀ (s.writeWord off v) := by
  unfold writeWord
  split
  · exact refuseWrite_steady h
  · rename_i hr
    exact steady_ite (refuseWrite_steady (steady_host h)) (steady_ite (steady_host (steady_host h)) (writeReg_steady
      hL (regAt_mem hr) (steady_host h)))

theorem barWrite_steady {off v : Nat} {wide part : Bool} (hL : R.GLOBAL_SETUP_LOCK_LOCK ∉ W) (h : Steady W s₀ s) :
    Steady W s₀ (s.barWrite off v wide part) :=
  steady_ite (refuseWrite_steady h) (steady_ite (writeWord_steady hL h) (steady_ite (writeWord_steady hL
    (writeWord_steady hL h)) (writeWord_steady hL (writeWord_steady hL h))))

theorem regWrite_steady {off value mask : Nat} (h : Steady W s₀ s) : Steady W s₀ (s.regWrite off value mask).2 := by
  unfold regWrite
  refine steady_ite_snd h ?_
  split
  · exact h
  · rename_i hr
    extract_lets _ fs
    split
    · exact h
    · rename_i hfs
      refine steady_ite_snd (alertWrite_steady h) (steady_ite_snd h (steady_ite_snd h ?_))
      split
      · exact h
      · refine applyWrite_steady (fun F hF => ?_) h
        have ha : F.acc = .rws ∨ F.acc = .w1c := by
          simp only [Bool.or_eq_true, List.any_eq_true, not_or, not_exists] at hfs
          have := hfs.2 F
          grind
        exact unwatched_of_acc (regAt_mem hr) (List.mem_filter.1 hF).1 (by grind) (by grind)

/-! ### Slac (Sys2Proof/Machine/Slac.lean) -/

theorem putSlac_steady {r : SlacRun} (h : Steady W s₀ s) : Steady W s₀ (s.putSlac r) :=
  plcFollowAll_steady (steady_upd h)

theorem dropSlac_steady {id : Nat} (h : Steady W s₀ s) : Steady W s₀ (s.dropSlac id) :=
  plcFollowAll_steady (steady_upd h)

theorem slacFail_steady {n : Nat} (h : Steady W s₀ s) : Steady W s₀ (s.slacFail n) :=
  steady_ite (modOutlet_steady h) (steady_ite (endSession_steady (modOutlet_steady h)) (goReady_steady
    (modOutlet_steady h)))

theorem slacHold_steady {ps : List Nat} (h : Steady W s₀ s) : Steady W s₀ (s.slacHold ps) :=
  steady_forEach modOutlet_steady h

theorem slacClose_steady (h : Steady W s₀ s) : Steady W s₀ s.slacClose := by
  unfold slacClose
  extract_lets
  refine steady_forEach (fun h₁ => ?_) h
  extract_lets
  split
  · exact slacHold_steady (putSlac_steady h₁)
  · exact slacHold_steady (putSlac_steady h₁)
  · exact steady_forEach slacFail_steady (dropSlac_steady (raise_steady h₁))
  · exact steady_forEach slacFail_steady (dropSlac_steady (raise_steady h₁))

/-! ### The start of the module (Sys2Proof/Machine/StartOps.lean) -/

theorem dispStartUp_steady (h : Steady W s₀ s) : Steady W s₀ s.dispStartUp := steady_upd h

theorem keepRegs_steady (hL : R.GLOBAL_SETUP_LOCK_LOCK ∉ W) (h : Steady W s₀ s) : Steady W s₀ s.keepRegs :=
  ⟨h.journal, fun F hF hW n => (rd_keepRegs hF (fun e => hL (e ▸ hW)) n).trans (h.watched F hF hW n)⟩

theorem restoredFields_unwatched : ∀ p ∈ restoredFields, watched p.1 = false := by
  intro p hp
  obtain ⟨d, hd, hp⟩ := List.mem_flatMap.1 hp
  obtain ⟨F, hF, hp⟩ := List.mem_flatMap.1 hp
  obtain ⟨n, -, rfl⟩ := List.mem_map.1 hp
  obtain ⟨hF, hs⟩ := List.mem_filter.1 hF
  by_contra hn
  simp [(regTable_watched d hd F hF (by simpa using hn)).1] at hs

theorem afterReset_steady (hL : R.GLOBAL_SETUP_LOCK_LOCK ∉ W) (h : Steady W s₀ s) : Steady W s₀ s.afterReset := by
  unfold afterReset
  extract_lets _ _ _ _ _ _ _ _ _ _ _ _ _ _ _ _ _ _ _ _ _ _ _ _ s₁
  have h₁ : Steady W s₀ s₁ := addSat_steady (steady_forEach_fld Prod.fst restoredFields_unwatched
    (fun hF h₃ => steady_ite h₃ (wr_steady h₃ hF)) (dispStartUp_steady (steady_host (keepRegs_steady hL h)))) rfl
  exact steady_ite (wr_steady h₁ rfl) h₁

theorem trialStart_steady {b : BootIn} (h : Steady W s₀ s) : Steady W s₀ (s.trialStart b).2 :=
  steady_ite_snd (ptrLoad_steady h) (steady_ite_snd (revertPointer_steady (ptrLoad_steady h)) (steady_ite_snd
    (revertPointer_steady (ptrWrite_steady (wr_steady (ptrLoad_steady h) rfl))) (steady_ite_snd (ptrWrite_steady
    (wr_steady (ptrLoad_steady h) rfl)) (wr_steady (steady_ite (steady_upd (steady_upd (ptrWrite_steady (wr_steady
    (ptrLoad_steady h) rfl)))) (steady_upd (ptrWrite_steady (wr_steady (ptrLoad_steady h) rfl)))) rfl))))

theorem slotChosen_steady {b : BootIn} {reverted : Bool} (h : Steady W s₀ s) : Steady W s₀ (s.slotChosen b reverted) :=
  steady_ite h (ptrWrite_steady (wr_steady (wr_steady (steady_upd h) rfl) rfl))

theorem openEpoch_steady {old : State} {cause : Nat} (hE : R.HOST_SYNC_GLOBAL_EPOCH ∉ W) (h : Steady W s₀ s) :
    Steady W s₀ (s.openEpoch old cause) :=
  steady_forEach syncCompleted_steady (steady_host (steady_forEach (fun h₂ => setHist_steady (raise_steady h₂))
    (raise_steady (wr_steady (wr_steady (wr_steady_out (by decide) hE h) rfl) rfl))))

theorem keyStart_steady {b : BootIn} (h : Steady W s₀ s) : Steady W s₀ (s.keyStart b) := by
  unfold keyStart
  extract_lets s₁ s₂ s₃ s₄
  have h₁ : Steady W s₀ s₁ := cacheCounts_steady (wr_steady (wr_steady h rfl) rfl)
  have h₂ : Steady W s₀ s₂ := setKeyMode_steady h₁
  have h₃ : Steady W s₀ s₃ := steady_ite h₂ (raise_steady h₂)
  have h₄ : Steady W s₀ s₄ := steady_ite (raise_steady h₃) h₃
  exact steady_ite (keyRecovery_steady (steady_forEach raise_steady h₁)) (steady_ite (keyRecovery_steady h₄)
    (steady_forEach (fun h₅ => steady_ite (regenerate_steady h₅) h₅) (wr_steady h₄ rfl)))

theorem hostReady_steady (h : Steady W s₀ s) : Steady W s₀ s.hostReady :=
  steady_ite h (steady_ite (attach_steady (wr_steady h rfl)) (wr_steady h rfl))

theorem dropEntry_steady {e : Nat × Nat} (h : Steady W s₀ s) : Steady W s₀ (s.dropEntry e) := by
  unfold dropEntry
  extract_lets
  split
  · exact steady_upd h
  · exact steady_upd h
  · exact steady_upd h
  · exact steady_upd h
  · exact steady_ite (wr_steady (wr_steady (wr_steady h rfl) rfl) rfl) h
  · exact steady_upd h
  · exact steady_upd h
  · exact steady_upd h
  · exact h

theorem dropEntries_steady {es : List (Nat × Nat)} (h : Steady W s₀ s) : Steady W s₀ (s.dropEntries es) :=
  steady_forEach dropEntry_steady h

/-- Lay the clock and the epoch of one state over another, as a replay does for the instant it speaks of. -/
def copyClock (src s : State) : State :=
  forEach [R.GLOBAL_MTB_UTC_UTC_SEC, R.GLOBAL_MTB_UTC_MTB_AT_SEC, R.GLOBAL_MTB_UTC_RTC_VALID, R.HOST_SYNC_GLOBAL_EPOCH]
    (fun F s => s.wr F 0 (src.rd F)) s

theorem copyClock_epoch (src s : State) :
    (copyClock src s).rd R.HOST_SYNC_GLOBAL_EPOCH = src.rd R.HOST_SYNC_GLOBAL_EPOCH % 2 ^ 16 := by
  simp [copyClock, forEach, trunc]

theorem copyClock_rd {src s : State} {F : Fld} {n : Nat} (hF : F ∈ watchedFields)
    (hn : ¬(F = R.HOST_SYNC_GLOBAL_EPOCH ∧ n = 0)) : (copyClock src s).rd F n = s.rd F n := by
  have hE : F.id ≠ R.HOST_SYNC_GLOBAL_EPOCH.id ∨ n ≠ 0 := by
    by_contra h
    rw [not_or, not_not, not_not] at h
    exact hn ⟨watchedFields_id (by decide) hF h.1, h.2⟩
  simp only [copyClock, forEach, List.foldl_cons, List.foldl_nil]
  rw [rd_wr_other _ _ _ _ _ hE, rd_wr_ne _ _ _ _ _ (watched_ne hF rfl), rd_wr_ne _ _ _ _ _ (watched_ne hF rfl),
    rd_wr_ne _ _ _ _ _ (watched_ne hF rfl)]

theorem asOf_steady {old : State} {t : Nat} {f : State → State} (hE : EpochFits W s₀) (h : Steady W s₀ s)
    (hf : ∀ {s₀ s}, Steady W s₀ s → Steady W s₀ (f s)) : Steady W s₀ (s.asOf old t f) := by
  obtain ⟨a, ha⟩ : ∃ a : State, a = { s with
      mtb := t
      ledger := { s.ledger with offMs := old.ledger.offMs, ledgerHeld := old.ledger.ledgerHeld } } := ⟨_, rfl⟩
  have hb := hf (Steady.refl W (copyClock old a))
  have hr : ∀ F n, a.rd F n = s.rd F n := fun F n => by rw [ha]; rfl
  have hj : a.host = s.host := by rw [ha]
  have hrd : ∀ F n, (s.asOf old t f).rd F n = (copyClock s (f (copyClock old a))).rd F n := fun F n => by rw [ha]; rfl
  refine ⟨fun h₀ => ?_, fun F hF hW n => ?_⟩
  · have hlen : (s.asOf old t f).host.journal.length = (f (copyClock old a)).host.journal.length := by
      rw [ha]
      exact (List.length_map _).trans List.length_zipIdx
    rw [hlen]
    exact hb.journal (by rw [show (copyClock old a).host = s.host from hj]; exact h.journal h₀)
  · rw [hrd]
    by_cases hn : F = R.HOST_SYNC_GLOBAL_EPOCH ∧ n = 0
    · obtain ⟨rfl, rfl⟩ := hn
      rw [copyClock_epoch, h.watched _ hF hW, Nat.mod_eq_of_lt (hE hW)]
    · rw [copyClock_rd hF hn, hb.watched F hF hW, copyClock_rd hF hn, hr, h.watched F hF hW]

theorem loadCommit_steady {c : Commit} (hW : ∀ F ∈ watchedFields, F ∉ W) (h : Steady W s₀ s) :
    Steady W s₀ (s.loadCommit c) :=
  ⟨h.journal, fun F hF hin => absurd hin (hW F hF)⟩

theorem replaySession_steady {old : State} {fresh : List Rec} {n : Nat} (h : Steady W s₀ s) :
    Steady W s₀ (s.replaySession old fresh n) := by
  unfold replaySession
  extract_lets _ _ s₁
  have h₁ : Steady W s₀ s₁ := steady_ite (modLsess_steady h) h
  exact steady_ite h₁ (steady_ite (steady_ite (modLsess_steady h₁) h₁) (steady_ite (wr_steady (wr_steady (wr_steady
    (modLsess_steady h₁) rfl) rfl) rfl) h₁))

theorem replayRecord_steady {r : Rec} (h : Steady W s₀ s) : Steady W s₀ (s.replayRecord r) :=
  steady_ite (steady_forEach (fun h₁ => wr_steady (wr_steady h₁ rfl) rfl) (steady_upd h)) (steady_ite (steady_forEach
    modAcct_steady h) h)

theorem replayCask_steady {old : State} {k : Nat} (hE : EpochFits W s₀) (h : Steady W s₀ s) :
    Steady W s₀ (s.replayCask old k) := by
  unfold replayCask
  extract_lets
  split
  · exact h
  · refine steady_ite h (asOf_steady hE h (fun {t₀ _} h₂ => ?_))
    extract_lets _ _ s₁ s₃
    have h₁ : Steady W t₀ s₁ := steady_forEach applyAct_steady (useNums_steady (steady_upd h₂))
    have h₃ : Steady W t₀ s₃ := by
      unfold s₃
      split
      · exact transaction_steady h₁
      · exact h₁
    exact steady_upd (useNums_steady h₃)

theorem replayPend_steady {old : State} {p : PendRec} (hE : EpochFits W s₀) (h : Steady W s₀ s) :
    Steady W s₀ (s.replayPend old p) :=
  asOf_steady hE h flushPend_steady

theorem estimateStart_steady {mark : Option PourMark} {tStop : Option Nat} {m : Nat} (h : Steady W s₀ s) :
    Steady W s₀ (s.estimateStart mark tStop m) := by
  unfold estimateStart
  split
  · exact putEst_steady h
  · exact wr_steady (wr_steady (wr_steady (wr_steady h rfl) rfl) rfl) rfl

theorem restartClose_steady {old : State} {closeAt loss n : Nat} (hE : EpochFits W s₀) (h : Steady W s₀ s) :
    Steady W s₀ (s.restartClose old closeAt loss n) := by
  unfold restartClose
  extract_lets
  refine steady_ite h (steady_ite ?_ (closeRecord_steady (modLsess_steady h)))
  split
  · exact asOf_steady hE h closeRecord_steady
  · exact closeRecord_steady h

theorem outageBounds_steady {w0 w1 subW : Nat} (h : Steady W s₀ s) : Steady W s₀ (s.outageBounds w0 w1 subW).2 := by
  unfold outageBounds
  extract_lets _ _ _ _ _ s₁ s₂
  have h₁ : Steady W s₀ s₁ := steady_forEach demandClose_steady (steady_upd h)
  have h₂ : Steady W s₀ s₂ := steady_ite (steady_forEach modAcct_steady (steady_upd h)) (steady_ite h₁ (steady_forEach
    (fun h₂ => steady_forEach_fld id demandLast_unwatched (fun hF hx => wr_steady hx hF) h₂) h₁))
  exact steady_upd (steady_ite_snd (closeBetween_steady h₂) h₂)

theorem outageRecord_steady {closeMs : Nat} {valid : Bool} {n : Nat × Nat} (h : Steady W s₀ s) :
    Steady W s₀ (s.outageRecord closeMs valid n) :=
  append_steady h

theorem tamperCarried_steady {k first last : Nat} (h : Steady W s₀ s) : Steady W s₀ (s.tamperCarried k first last) :=
  steady_ite h (wr_steady (steady_ite (wr_steady (tamperMany_steady h) rfl) (tamperMany_steady h)) rfl)

theorem ledgerStart_loaded {old : State} {cause : Nat} {c : Commit} (hc : old.newestCommit = some c) (hE : EpochFits W
    s₀) (h : Steady W s₀ (s.loadCommit c)) :
    Steady W s₀ (s.ledgerStart old cause) := by
  unfold ledgerStart
  extract_lets
  split
  · rename_i hn
    cases hc.symm.trans hn
  rename_i c' hc'
  obtain rfl := Option.some.inj (hc.symm.trans hc')
  extract_lets x₁ _ _ _ _ _ _ _ _ _ _ _ _ s₁
  clear_value x₁
  have h₁ : Steady W s₀ s₁ := steady_forEach (fun h₉ => wr_steady (wr_steady (estimateStart_steady h₉) rfl) rfl)
    (steady_forEach (fun h₁ => wr_steady (wr_steady h₁ rfl) rfl) (steady_forEach (replayPend_steady hE) (steady_forEach
    (replayCask_steady hE) (steady_forEach (fun h₅ => wr_steady (wr_steady h₅ rfl) rfl) (steady_forEach
    replaySession_steady (steady_forEach replayRecord_steady h))))))
  split
  rename_i hp
  have h₁₃ := steady_snd hp (outageBounds_steady (steady_forEach (restartClose_steady hE) (raise_steady (steady_ite h₁
    (wr_steady h₁ rfl)))))
  extract_lets s₁₂ s₁₄ _ s₁₅
  have h₁₂ : Steady W s₀ s₁₂ := steady_ite h₁₃ (outageRecord_steady h₁₃)
  have h₁₄ : Steady W s₀ s₁₄ := steady_ite h₁₂ (tamper_steady h₁₂)
  have h₁₅ : Steady W s₀ s₁₅ := steady_ite (tamper_steady (steady_upd h₁₄)) h₁₄
  exact steady_ite (tamper_steady h₁₅) h₁₅

theorem ledgerStart_steady {old : State} {cause : Nat} (hW : ∀ F ∈ watchedFields, F ∉ W) (h : Steady W s₀ s) :
    Steady W s₀ (s.ledgerStart old cause) := by
  cases hc : old.newestCommit with
  | none =>
    unfold ledgerStart
    extract_lets
    rw [hc]
    exact raise_steady (steady_upd h)
  | some c => exact ledgerStart_loaded hc (fun hE => absurd hE (hW _ (by decide))) (loadCommit_steady hW h)

/-! ### Start (Sys2Proof/Machine/Start.lean) -/

theorem clockStart_steady {old : State} {b : BootIn} (h : Steady W s₀ s) : Steady W s₀ (s.clockStart old b) := by
  unfold clockStart
  extract_lets _ s₁
  have h₁ : Steady W s₀ s₁ := setFlag_steady (setFlag_steady (setFlag_steady (wr_steady (wr_steady h rfl) rfl) rfl)
    rfl) rfl
  exact steady_ite (wr_steady (wr_steady (wrInt_steady (wr_steady h₁ rfl) rfl) rfl) rfl) h₁

theorem hslLoad_steady {h' : Option HslTable} (h : Steady W s₀ s) : Steady W s₀ (s.hslLoad h') := by
  unfold hslLoad
  split
  · exact h
  · exact steady_upd (steady_forEach (fun h₁ => wr_steady (wr_steady (wr_steady h₁ rfl) rfl) rfl) (steady_forEach (fun
      h₁ =>
      wr_steady (wr_steady (wr_steady (setFlag_steady (setFlag_steady (wr_steady (wr_steady (setFlag_steady h₁ rfl)
      rfl) rfl) rfl) rfl) rfl) rfl) rfl) (wr_steady (wr_steady h rfl) rfl)))

theorem switchSteps_steady {b : BootIn} (h : Steady W s₀ s) : Steady W s₀ (s.switchSteps b) := by
  unfold switchSteps
  extract_lets _ s₁
  have h₁ : Steady W s₀ s₁ := steady_forEach trip_steady (steady_forEach modCoil_steady h)
  split
  · exact shuntOn_steady (moduleTrip_steady h₁)
  · exact h₁

theorem safeStart_steady {b : BootIn} (h : Steady W s₀ s) : Steady W s₀ (s.safeStart b) := by
  unfold safeStart
  extract_lets _ _ _ _ s₁
  have h₁ : Steady W s₀ s₁ := setFlag_steady (setFlag_steady (setFlag_steady (steady_upd (hslLoad_steady h)) rfl) rfl)
    rfl
  exact steady_forEach (fun h₆ => steady_ite h₆ (testSensor_steady h₆)) (switchSteps_steady (steady_ite h₁
    (moduleTrip_steady h₁)))

theorem meterStart_steady (h : Steady W s₀ s) : Steady W s₀ s.meterStart :=
  steady_forEach pulseReset_steady (mpEvalAll_steady (trkRefreshAll_steady (steady_forEach (fun h₁ => updateGd_steady
    (wr_steady (steady_upd h₁) rfl)) h)))

theorem legalChange_steady {old : State} {was new : Nat} {firstTrial : Bool} (h : Steady W s₀ s) :
    Steady W s₀ (s.legalChange old was new firstTrial) :=
  steady_ite h (steady_ite (tamper_steady h) (steady_ite (tamper_steady h) h))

theorem revertNote_steady (h : Steady W s₀ s) : Steady W s₀ s.revertNote := by
  unfold revertNote
  split
  · exact raise_steady (steady_upd h)
  · exact h

theorem updStart_steady {old : State} {b : BootIn} {firstTrial : Bool} (h : Steady W s₀ s) :
    Steady W s₀ (s.updStart old b firstTrial) := by
  unfold updStart
  extract_lets _ _ _ _ s₁ _ s₂
  have h₁ : Steady W s₀ s₁ := legalChange_steady (wr_steady (revertNote_steady h) rfl)
  have h₂ : Steady W s₀ s₂ := steady_ite (steady_upd h₁) h₁
  exact steady_ite (updGo_steady h₂) h₂

theorem displayStart_steady {b : BootIn} (h : Steady W s₀ s) : Steady W s₀ (s.displayStart b) :=
  dispWake_steady (segRecover_steady (bandShow_steady (steady_upd h)))

/-- A start from its first reset to where the ledger is read. -/
def startEntered (s old : State) (b : BootIn) (cause : Nat) (firstTrial : Bool) : State :=
  let s := (({ s.afterReset with phase := .running } : State).clockStart old b).openEpoch old cause
  let s := forEach (List.range 14) (fun i s => s.islandGo i) (s.updStart old b firstTrial)
  (s.keyStart b).safeStart b

theorem startEntered_steady {old : State} {b : BootIn} {cause : Nat} {firstTrial : Bool}
    (hW : ∀ F ∈ watchedFields, F ∉ W) (h : Steady W s₀ s) : Steady W s₀ (s.startEntered old b cause firstTrial) :=
  safeStart_steady (keyStart_steady (steady_forEach islandGo_steady (updStart_steady (openEpoch_steady
    (hW _ (by decide)) (clockStart_steady (steady_upd (afterReset_steady (hW _ (by decide)) h)))))))

/-- What follows the reading of the ledger in a start is steady, whatever the ledger held. -/
theorem startRun_read {old : State} {b : BootIn} {cause : Nat} {firstTrial : Bool}
    (h : ∀ {v}, Steady W s₀ ((s.startEntered old b cause firstTrial).ledgerStart
      { old with pwr := { old.pwr with vbatLost := v } } cause)) : Steady W s₀ (s.startRun old b cause firstTrial) := by
  unfold startRun
  extract_lets _ _ _ _ _ _ _ _ s₁ _ _ s₂ s₃
  have h₂ : Steady W s₀ s₂ := steady_forEach tamper_steady (steady_forEach modAcct_steady (steady_ite
    (h (v := false)) (h (v := old.pwr.vbatLost))))
  have h₃ : Steady W s₀ s₃ := steady_ite (steady_forEach tariffGo_steady h₂) (steady_forEach tariffGo_steady h₂)
  exact hostReady_steady (displayStart_steady (plcFollowAll_steady (trellisEn_steady (recoveryOutlets_steady
    (meterStart_steady (steady_upd (steady_ite (steady_forEach (fun hx => wr_steady hx rfl) h₃) (steady_forEach
    tamperCarried_steady h₃))))))))

theorem startRun_steady {old : State} {b : BootIn} {cause : Nat} {firstTrial : Bool}
    (hW : ∀ F ∈ watchedFields, F ∉ W) (h : Steady W s₀ s) : Steady W s₀ (s.startRun old b cause firstTrial) :=
  startRun_read (ledgerStart_steady hW (startEntered_steady hW h))

theorem startUp_steady {b : BootIn} (hW : ∀ F ∈ watchedFields, F ∉ W) (h : Steady W s₀ s) : Steady W s₀ (s.startUp b) :=
  steady_ite h (steady_ite (steady_upd (trialStart_steady h)) (startRun_steady hW (dropEntries_steady
    (slotChosen_steady (trialStart_steady h)))))

/-! ### Tag (Sys2Proof/Machine/Tag.lean) -/

theorem walkLimit_steady {port frames found : Nat} (h : Steady W s₀ s) : Steady W s₀ (s.walkLimit port frames found) :=
  steady_ite h (raise_steady (incSat_steady h rfl))

theorem refuseCard_steady {proto h' code : Nat} (h : Steady W s₀ s) : Steady W s₀ (s.refuseCard proto h' code) :=
  raise_steady (raise_steady h)

theorem oneCard_steady {proto : Nat} {uid : List Byte} {authOk : Bool} (h : Steady W s₀ s) :
    Steady W s₀ (s.oneCard proto uid authOk) := by
  unfold oneCard
  extract_lets _ _ _ _ x₁
  clear_value x₁
  refine steady_ite (raise_steady h) (steady_ite h (steady_ite (refuseCard_steady (steady_upd h)) ?_))
  split
  · exact raise_steady (stopSession_steady (steady_upd h))
  · exact raise_steady (raise_steady (steady_upd h))
  · exact refuseCard_steady (steady_upd h)
  · exact steady_ite (refuseCard_steady (steady_upd h)) (raise_steady (cardPresented_steady (steady_upd h)))

theorem pollFound_steady {proto : Nat} {cards : List (List Byte)} {found : Nat} {authOk : Bool} (h : Steady W s₀ s) :
    Steady W s₀ (s.pollFound proto cards found authOk) := by
  unfold pollFound
  split
  · exact steady_ite (oneCard_steady h) h
  · exact steady_ite (raise_steady (incSat_steady h rfl)) h

theorem cardsSeen_steady {kind : Nat} {cards : List (List Byte)} (h : Steady W s₀ s) :
    Steady W s₀ (s.cardsSeen kind cards) :=
  steady_upd h

theorem cableBelieved_steady {n : Nat} {atConnect : Bool} {r : CableRead} {l : LifeCopy} {older : Nat} (h : Steady W s₀
    s) :
    Steady W s₀ (s.cableBelieved n atConnect r l older).2 := by
  unfold cableBelieved
  extract_lets _ _ _ _ _ _ _ _ _ _ _ _ _ _ _ _ _ _ s₁
  have h₁ : Steady W s₀ s₁ := setFlag_steady (modCable_steady (setFlag_steady (wr_steady (wr_steady (wr_steady
    (wr_steady (wr_steady (wr_steady h rfl) rfl) rfl) rfl) rfl) rfl) rfl)) rfl
  exact steady_ite_snd h (steady_ite (addJob_steady h₁) h₁)

theorem cableSession_steady {n code : Nat} {atConnect : Bool} (h : Steady W s₀ s) :
    Steady W s₀ (s.cableSession n code atConnect) := by
  unfold cableSession
  refine steady_ite h ?_
  split
  · exact wr_steady (modOutlet_steady h) rfl
  · exact steady_ite (endSession_steady h) h
  · exact steady_ite (setSess_steady (offer_steady (sessionOver_steady h))) (modOutlet_steady h)

theorem nextJob_steady (h : Steady W s₀ s) : Steady W s₀ s.nextJob := setJobs_steady (steady_upd h)

theorem lifeWrite_steady {n : Nat} (h : Steady W s₀ s) : Steady W s₀ (s.lifeWrite n) :=
  wr_steady (modCable_steady h) rfl

theorem ownCommit_steady {stop : Nat} :
    ∀ {l : List (Nat × Nat)} {last : Nat} {s : State}, Steady W s₀ s → Steady W s₀ (ownCommit stop l last s)
  | [], _, _, h => h
  | (b, v) :: r, last, s, h => by
    unfold ownCommit
    exact ownCommit_steady (ownWrite_steady (steady_upd (takeFree_steady h)))

/-! ### Twin (Sys2Proof/Machine/Twin.lean) -/

theorem setActIn_steady {b : Bool} (h : Steady W s₀ s) : Steady W s₀ (s.setActIn b) := steady_upd h

theorem noteFrame_steady {h' : TwinHdr} {crc : Nat} (h : Steady W s₀ s) : Steady W s₀ (s.noteFrame h' crc) := by
  unfold noteFrame
  extract_lets _ _ _ _ s₁
  have h₁ : Steady W s₀ s₁ := steady_upd (wrInt_steady (addSat_steady (setFlag_steady (wr_steady h rfl) rfl) rfl) rfl)
  exact steady_ite h₁ (peerEvent_steady h₁)

theorem linkRole_steady {peerRole : Nat} {peerPrefer : Bool} (h : Steady W s₀ s) :
    Steady W s₀ (s.linkRole peerRole peerPrefer) :=
  steady_ite (steady_ite (setRole_steady h) (steady_ite (setRole_steady h) h)) (steady_ite (setRole_steady h)
    (noteReady_steady h))

end State

open State

variable {W : List Fld} {s₀ s : State}

/-! ### Host (Sys2Proof/Machine/Host.lean) -/

theorem execConfigRequest_steady {t : Nat} {req : CfgReq} (h : Steady W s₀ s) :
    OutSteady W s₀ (execConfigRequest t req s) :=
  steady_next (steady_ite (configure_steady (advance_steady h)) (steady_host (advance_steady h)))

theorem execPerstRelease_steady {t : Nat} (h : Steady W s₀ s) : OutSteady W s₀ (execPerstRelease t s) :=
  steady_next (steady_host (advance_steady h))

theorem execHostDetach_steady {t : Nat} {cause : DetachCause} (h : Steady W s₀ s) :
    OutSteady W s₀ (execHostDetach t cause s) :=
  steady_next (steady_ite (detach_steady (advance_steady h)) (steady_ite (steady_host (advance_steady h))
    (advance_steady h)))

theorem execHostAttach_steady {t : Nat} (h : Steady W s₀ s) : OutSteady W s₀ (execHostAttach t s) :=
  steady_next (steady_ite (advance_steady h) (steady_ite (attach_steady (advance_steady h)) (steady_ite (steady_host
    (advance_steady h)) (advance_steady h))))

theorem execRingRegisterWrite_steady {t : Nat} {kind : RingKind} {i image : Nat} (h : Steady W s₀ s) :
    OutSteady W s₀ (execRingRegisterWrite t kind i image s) :=
  steady_next (onEvent_steady h (fun h₁ => steady_ite (writeRing_steady h₁) h₁))

theorem execDoorbellPoll_steady {t : Nat} {cmdProd cplCons evCons strProd : List Nat} {descs : List (List Desc)}
    {bufs : List (List Nat)} (h : Steady W s₀ s) :
    OutSteady W s₀ (execDoorbellPoll t cmdProd cplCons evCons strProd descs bufs s) :=
  steady_next (onEvent_steady h (fun h₁ => steady_ite h₁ (settleDestroys_steady (coalesceDue_steady (grants_steady
    (fetchRing_steady (drainAll_steady (releaseCompletions_steady (releaseStops_steady (steady_forEach
    noteBuffers_steady (steady_host (steady_host h₁))))))))))))

theorem execKick_steady {t off prod : Nat} {descs : List Desc} {bufs : List Nat} (h : Steady W s₀ s) :
    OutSteady W s₀ (execKick t off prod descs bufs s) :=
  steady_next (onEvent_steady h (fun h₁ => steady_ite h₁ (steady_ite (fetchRing_steady (steady_host h₁)) (steady_ite
    (drainAll_steady (steady_host (noteBuffers_steady h₁))) h₁))))

theorem execStopCompletionRelease_steady {t : Nat} (h : Steady W s₀ s) :
    OutSteady W s₀ (execStopCompletionRelease t s) :=
  steady_next (onEvent_steady h releaseStops_steady)

theorem execEvrGap_steady {t j : Nat} (h : Steady W s₀ s) : OutSteady W s₀ (execEvrGap t j s) :=
  steady_next (onEvent_steady h reportGap_steady)

theorem execNotifDataRead_steady {t flips : Nat} (h : Steady W s₀ s) : OutSteady W s₀ (execNotifDataRead t flips s) :=
  steady_next (onEvent_steady h popNotif_steady)

theorem execRingCreate_steady {x : Ctx} {kind : RingKind} {i image : Nat} (h : Steady W s₀ s) :
    OutSteady W s₀ (execRingCreate x kind i image s) :=
  steady_next (command_steady h (fun h₁ => steady_ite (complete_steady h₁) (steady_ite (complete_steady h₁)
    (complete_steady (writeRing_steady h₁)))))

theorem execRingDestroy_steady {x : Ctx} {kind : RingKind} {i : Nat} (h : Steady W s₀ s) :
    OutSteady W s₀ (execRingDestroy x kind i s) := by
  unfold execRingDestroy
  refine steady_next (command_steady h (fun h₁ => steady_ite (complete_steady h₁) ?_))
  split
  · exact steady_host h₁
  · exact steady_ite (complete_steady h₁) (complete_steady (wr_steady h₁ rfl))
  · exact complete_steady (wr_steady h₁ rfl)
  · exact complete_steady (wr_steady h₁ rfl)

theorem execJournalFetch_steady {x : Ctx} {first span : Nat} (h : Steady W s₀ s) :
    OutSteady W s₀ (execJournalFetch x first span s) :=
  steady_next (command_steady h (fun h₁ => steady_ite (complete_steady h₁) (complete_steady (giveBuffer_steady h₁))))

theorem execStatusQuery_steady {x : Ctx} {ring first count : Nat} (h : Steady W s₀ s) :
    OutSteady W s₀ (execStatusQuery x ring first count s) :=
  steady_next (command_steady h (fun h₁ => steady_ite (complete_steady h₁) (complete_steady (giveBuffer_steady h₁))))

theorem execEcho_steady {x : Ctx} {data : List Byte} (h : Steady W s₀ s) : OutSteady W s₀ (execEcho x data s) :=
  steady_next (command_steady h complete_steady)

/-! ### Afe (Sys2Proof/Machine/Afe.lean) -/

theorem execStreamBufferFill_steady {t src mtbFirst : Nat} {data : List (List Int)} (h : Steady W s₀ s) :
    OutSteady W s₀ (execStreamBufferFill t src mtbFirst data s) :=
  steady_next (onEvent_steady h (fun h₁ => steady_ite (steady_ite (waveBlock_steady h₁) (drainSource_steady h₁))
    (sourceBlock_steady h₁)))

theorem execChOverload_steady {t c : Nat} (h : Steady W s₀ s) : OutSteady W s₀ (execChOverload t c s) := by
  unfold execChOverload
  refine steady_next (onCore_steady h (fun h₁ => steady_ite h₁ ?_))
  extract_lets s₂ _ _ s₃
  have h₂ : Steady W s₀ s₂ := incSat_steady (wr_steady h₁ rfl) rfl
  have h₃ : Steady W s₀ s₃ := steady_upd (steady_ite (incSat_steady h₂ rfl) h₂)
  exact steady_ite (raise_steady (steady_upd h₃)) (steady_upd h₃)

theorem execMbsLost_steady {t c : Nat} (h : Steady W s₀ s) : OutSteady W s₀ (execMbsLost t c s) :=
  steady_next (onCore_steady h (fun h₁ => steady_ite h₁ (steady_forEach mpEval_steady (trkRefreshAll_steady
    (raise_steady (wr_steady (wr_steady (wr_steady h₁ rfl) rfl) rfl))))))

theorem execMbsRestored_steady {t c : Nat} (h : Steady W s₀ s) : OutSteady W s₀ (execMbsRestored t c s) :=
  steady_next (onCore_steady h (fun h₁ => steady_ite h₁ (steady_forEach mpEval_steady (trkRefreshAll_steady
    (raise_steady (setFlag_steady (setFlag_steady (wr_steady h₁ rfl) rfl) rfl))))))

theorem execAuxSeqDue_steady {t q : Nat} (h : Steady W s₀ s) : OutSteady W s₀ (execAuxSeqDue t q s) :=
  steady_next (onEvent_steady h (fun h₁ => steady_ite h₁ (steady_ite (raise_steady (incSat_steady (steady_upd h₁) rfl))
    (startPass_steady (steady_upd (steady_upd h₁))))))

theorem execAuxConversionDone_steady {t conv : Nat} {samples : List Int} {trip : Bool} (h : Steady W s₀ s) :
    OutSteady W s₀ (execAuxConversionDone t conv samples trip s) := by
  unfold execAuxConversionDone
  refine steady_next (onEvent_steady h (fun h₁ => ?_))
  extract_lets s₂
  have h₂ : Steady W s₀ s₂ := steady_ite (auxDecide_steady h₁) h₁
  split
  · exact h₂
  · exact steady_ite h₂ (steady_ite (startEntry_steady (noteFast_steady (auxConvert_steady h₂))) (endPass_steady
      (noteFast_steady (auxConvert_steady h₂))))

theorem execAfeSeqLoad_steady {x : Ctx} {q ctl : Nat} {ents : List Nat} (h : Steady W s₀ s) :
    OutSteady W s₀ (execAfeSeqLoad x q ctl ents s) := by
  unfold execAfeSeqLoad
  refine steady_next (command_steady h (fun h₁ => ?_))
  split
  · exact complete_steady h₁
  · exact complete_steady (auxSlowNote_steady (steady_ite (steady_upd h₁) (loadSeq_steady h₁)))

theorem execAfeSeqEn_steady {x : Ctx} {q on : Nat} (h : Steady W s₀ s) : OutSteady W s₀ (execAfeSeqEn x q on s) :=
  steady_next (command_steady h (fun h₁ => steady_ite (complete_steady h₁) (complete_steady (auxSlowNote_steady
    (steady_ite (padc10_steady (save_steady (wr_steady (steady_upd h₁) rfl))) (steady_ite (steady_upd h₁)
    (stopSeq_steady h₁)))))))

theorem execAfeAuxOneshot_steady {x : Ctx} {i conv settle avg : Nat} {samples : List Int} {trip : Bool} (h : Steady W s₀
    s) :
    OutSteady W s₀ (execAfeAuxOneshot x i conv settle avg samples trip s) :=
  steady_next (command_steady h (fun h₁ => steady_ite (complete_steady h₁) (steady_ite (complete_steady h₁)
    (complete_steady (insertDelay_steady (auxConvert_steady h₁))))))

theorem execAfeCalZero_steady {x : Ctx} {i conv : Nat} {y0 : Int} {samples : List Int} {trip : Bool} (h : Steady W s₀
    s) :
    OutSteady W s₀ (execAfeCalZero x i conv y0 samples trip s) :=
  steady_next (command_steady h (fun h₁ => steady_ite (complete_steady h₁) (steady_ite (complete_steady h₁)
    (steady_ite (complete_steady (calConvert_steady h₁)) (complete_steady (steady_upd (calConvert_steady h₁)))))))

theorem calFields_unwatched (conv : Nat) : ∀ F ∈ [(calFields conv).1, (calFields conv).2.1, (calFields conv).2.2.1,
    (calFields conv).2.2.2], watched F = false := by
  unfold calFields
  split <;> decide

theorem execAfeCalSpan_steady {x : Ctx} {i conv : Nat} {y1 : Int} {samples : List Int} {trip : Bool}
    (h : Steady W s₀ s) : OutSteady W s₀ (execAfeCalSpan x i conv y1 samples trip s) :=
  have hall := calFields_unwatched conv
  have ⟨hz, hg, hy, hc, _⟩ := List.forall_mem_cons.1 hall |>.imp_right fun h =>
    List.forall_mem_cons.1 h |>.imp_right fun h => List.forall_mem_cons.1 h |>.imp_right List.forall_mem_cons.1
  steady_next (command_steady h (fun h₁ => steady_ite (complete_steady h₁) (steady_ite (complete_steady h₁)
    (steady_ite (complete_steady h₁) (steady_ite (complete_steady (calConvert_steady h₁)) (steady_ite (complete_steady
    (calConvert_steady h₁)) (steady_ite (complete_steady (calConvert_steady h₁)) (complete_steady (raise_steady
    (steady_forEach save_steady (wr_steady (wr_steady (wrInt_steady (wrInt_steady (wrInt_steady (calConvert_steady
    h₁) hz) hg) hy) rfl) hc)))))))))))

theorem execAfeCalRestore_steady {x : Ctx} {i conv : Nat} (h : Steady W s₀ s) :
    OutSteady W s₀ (execAfeCalRestore x i conv s) :=
  steady_next (command_steady h (fun h₁ => steady_ite (complete_steady h₁) (complete_steady (steady_forEach_fld id
    (calFields_unwatched conv) (fun hF h₂ => save_steady (toReset_steady h₂ hF)) h₁))))

theorem execAfeCapture_steady {x : Ctx} {mask fmt samples : Nat} (h : Steady W s₀ s) :
    OutSteady W s₀ (execAfeCapture x mask fmt samples s) :=
  steady_next (command_steady h (fun h₁ => steady_ite (complete_steady h₁) (steady_ite (complete_steady h₁)
    (complete_steady (steady_forEach (fun h₂ => wr_steady (wr_steady (setCap_steady h₂) rfl) rfl) h₁)))))

theorem execAfeCaptureStop_steady {x : Ctx} {mask : Nat} {parts : List (Nat × Nat × List (List Int))} (h : Steady W s₀
    s) :
    OutSteady W s₀ (execAfeCaptureStop x mask parts s) :=
  steady_next (command_steady h (fun h₁ => steady_ite (complete_steady h₁) (complete_steady (steady_forEach
    endCapture_steady (steady_forEach sourceBlock_steady h₁)))))

/-! ### The allocator (Sys2Proof/Machine/Alloc.lean) -/

theorem execPmStatusFrame_steady {t bus id : Nat} {frame : List Byte} (h : Steady W s₀ s) :
    OutSteady W s₀ (execPmStatusFrame t bus id frame s) := by
  unfold execPmStatusFrame
  refine steady_next (onEvent_steady h (fun h₁ => ?_))
  extract_lets
  refine steady_ite h₁ ?_
  split
  · exact h₁
  · exact modPm_steady h₁

theorem execPmIdentFrame_steady {t bus id maker model serial ratedV ratedA ratedKw fw : Nat} (h : Steady W s₀ s) :
    OutSteady W s₀ (execPmIdentFrame t bus id maker model serial ratedV ratedA ratedKw fw s) := by
  unfold execPmIdentFrame
  refine steady_next (onEvent_steady h (fun h₁ => ?_))
  split
  · exact h₁
  · exact modPm_steady h₁

theorem execPmFaultFrame_steady {t bus id code severity : Nat} (h : Steady W s₀ s) :
    OutSteady W s₀ (execPmFaultFrame t bus id code severity s) := by
  unfold execPmFaultFrame
  refine steady_next (onEvent_steady h (fun h₁ => ?_))
  split
  · exact h₁
  · exact raise_steady (modPm_steady h₁)

theorem execPmLost_steady {t n i : Nat} (h : Steady W s₀ s) : OutSteady W s₀ (execPmLost t n i s) := by
  unfold execPmLost
  refine steady_next (onEvent_steady h (fun h₁ => ?_))
  extract_lets _ _ s₂
  have h₂ : Steady W s₀ s₂ := raise_steady (modPm_steady h₁)
  split
  · exact h₁
  · exact steady_ite h₁ (steady_ite (steady_ite (faultSession_steady h₂) (erem_steady h₂)) (capNow_steady h₂))

theorem execSetpointSend_steady {t n : Nat} (h : Steady W s₀ s) : OutSteady W s₀ (execSetpointSend t n s) :=
  steady_next (onEvent_steady h (fun h₁ => steady_ite h₁ (modOutlet_steady h₁)))

theorem execPmSyncSend_steady {t : Nat} (h : Steady W s₀ s) : OutSteady W s₀ (execPmSyncSend t s) :=
  steady_next (onEvent_steady h (fun h₁ => steady_ite h₁ (steady_upd h₁)))

theorem execAllocatorRun_steady {t : Nat} (h : Steady W s₀ s) : OutSteady W s₀ (execAllocatorRun t s) :=
  steady_next (onEvent_steady h (fun h₁ => steady_ite h₁ (steady_ite (steady_upd h₁) (allocatorRun_steady (steady_upd
    h₁)))))

theorem execTrellisLimitExpiry_steady {t : Nat} (h : Steady W s₀ s) : OutSteady W s₀ (execTrellisLimitExpiry t s) := by
  unfold execTrellisLimitExpiry
  refine steady_next (onEvent_steady h (fun h₁ => ?_))
  split
  · exact steady_ite (steady_upd h₁) h₁
  · exact h₁

theorem execEnforcementGraceEnd_steady {t n : Nat} (h : Steady W s₀ s) :
    OutSteady W s₀ (execEnforcementGraceEnd t n s) :=
  steady_next (onEvent_steady h (fun h₁ => steady_ite h₁ (modOutlet_steady (wr_steady h₁ rfl))))

theorem execAllocMaxWait_steady {t n : Nat} (h : Steady W s₀ s) : OutSteady W s₀ (execAllocMaxWait t n s) :=
  steady_next (onEvent_steady h (fun h₁ => steady_ite (endSession_steady (openOutlet_steady (raise_steady (wr_steady
    h₁ rfl)))) h₁))

/-! ### Cask (Sys2Proof/Machine/Cask.lean) -/

theorem execCaskOpen_steady {x : Ctx} (h : Steady W s₀ s) : OutSteady W s₀ (execCaskOpen x s) := by
  unfold execCaskOpen
  refine steady_next (command_steady h (fun h₁ => ?_))
  split
  · exact complete_steady h₁
  · exact complete_steady (setSlot_steady (steady_upd h₁))

theorem execCaskAction_steady {x : Ctx} {act : CaskAct} (h : Steady W s₀ s) : OutSteady W s₀ (execCaskAction x act s) :=
  steady_next (command_steady h stage_steady)

theorem execCaskPrepare_steady {x : Ctx} {id expected : Nat} (h : Steady W s₀ s) :
    OutSteady W s₀ (execCaskPrepare x id expected s) := by
  unfold execCaskPrepare
  refine steady_next (command_steady h (fun h₁ => ?_))
  split
  · exact complete_steady h₁
  · exact steady_ite (complete_steady h₁) (steady_ite (complete_steady h₁) (testCloses_steady (setSlot_steady h₁)))

theorem execCaskValidationDone_steady {t k : Nat} (h : Steady W s₀ s) : OutSteady W s₀ (execCaskValidationDone t k s) :=
  steady_next (onEvent_steady h (fun h₁ => steady_ite (validated_steady h₁) h₁))

theorem execCaskCommit_steady {x : Ctx} {id mode instant : Nat} (h : Steady W s₀ s) :
    OutSteady W s₀ (execCaskCommit x id mode instant s) := by
  unfold execCaskCommit
  refine steady_next (command_steady h (fun h₁ => ?_))
  split
  · exact complete_steady h₁
  · exact steady_ite (complete_steady h₁) (commitCask_steady h₁)

theorem execCaskAbort_steady {x : Ctx} {id : Nat} (h : Steady W s₀ s) : OutSteady W s₀ (execCaskAbort x id s) := by
  unfold execCaskAbort
  refine steady_next (command_steady h (fun h₁ => ?_))
  split
  · exact complete_steady h₁
  · exact steady_ite (complete_steady h₁) (steady_ite (complete_steady (abortCask_steady h₁)) (complete_steady h₁))

theorem execCaskQuery_steady {x : Ctx} {id : Nat} (h : Steady W s₀ s) : OutSteady W s₀ (execCaskQuery x id s) := by
  unfold execCaskQuery
  refine steady_next (command_steady h (fun h₁ => ?_))
  split <;> exact complete_steady h₁

theorem execFuncDisable_steady {x : Ctx} {block inst : Nat} (h : Steady W s₀ s) :
    OutSteady W s₀ (execFuncDisable x block inst s) :=
  steady_next (command_steady h (fun h₁ => steady_ite (complete_steady h₁) (steady_ite (complete_steady
    (partitionDenied_steady h₁)) (disableSteps_steady (complete_steady h₁)))))

theorem execFuncDisableDone_steady {t block inst : Nat} (h : Steady W s₀ s) :
    OutSteady W s₀ (execFuncDisableDone t block inst s) := by
  unfold execFuncDisableDone
  refine steady_next (onEvent_steady h (fun h₁ => ?_))
  split
  · exact h₁
  · extract_lets _ s₂ _ _ s₃ _ s₄ s₅
    have h₂ : Steady W s₀ s₂ := steady_forEach recClose_steady h₁
    have h₃ : Steady W s₀ s₃ := steady_upd h₂
    have h₄ : Steady W s₀ s₄ := steady_ite (steady_upd h₃) h₃
    have h₅ : Steady W s₀ s₅ := steady_ite (lswDisable_steady h₄) h₄
    exact steady_ite h₁ (steady_ite h₂ (finalise_steady (raise_steady (steady_ite (setSess_steady (offer_steady h₅))
      h₅))))

theorem execCaskOpenTimeout_steady {t k : Nat} (h : Steady W s₀ s) : OutSteady W s₀ (execCaskOpenTimeout t k s) :=
  steady_next (onEvent_steady h (fun h₁ => steady_ite (abortCask_steady h₁) h₁))

theorem execCaskPreparedTimeout_steady {t k : Nat} (h : Steady W s₀ s) :
    OutSteady W s₀ (execCaskPreparedTimeout t k s) :=
  steady_next (onEvent_steady h (fun h₁ => steady_ite (abortCask_steady h₁) h₁))

theorem execCaskRecordWrite_steady {t k : Nat} {whole : Bool} (h : Steady W s₀ s) :
    OutSteady W s₀ (execCaskRecordWrite t k whole s) :=
  steady_next (onEvent_steady h (fun h₁ => steady_ite (writeRecord_steady h₁) h₁))

theorem execCaskSyncEdge_steady {t edge : Nat} {falling : Bool} (h : Steady W s₀ s) :
    OutSteady W s₀ (execCaskSyncEdge t edge falling s) :=
  steady_next (onEvent_steady h (fun h₁ => steady_ite h₁ (steady_forEach (fun h₂ => steady_ite (steady_ite
    (writeRecord_steady (modSlot_steady h₂)) (modSlot_steady h₂)) h₂) h₁)))

theorem execCaskSyncTimeout_steady {t k : Nat} (h : Steady W s₀ s) : OutSteady W s₀ (execCaskSyncTimeout t k s) :=
  steady_next (onEvent_steady h (fun h₁ => steady_ite (abortCask_steady h₁) h₁))

theorem execCaskRetract_steady {t k : Nat} (h : Steady W s₀ s) : OutSteady W s₀ (execCaskRetract t k s) :=
  steady_next (onCore_steady h (fun h₁ => steady_ite (abortCask_steady h₁) h₁))

theorem execCaskApply_steady {t k : Nat} {applied : List (Nat × Nat)} {lowRefused : Bool} (h : Steady W s₀ s) :
    OutSteady W s₀ (execCaskApply t k applied lowRefused s) :=
  steady_next (onEvent_steady h (fun h₁ => steady_ite (steady_ite (caskDone_steady (lateApplies_steady
    (applySlot_steady h₁))) (closeApplied_steady (caskDone_steady (lateApplies_steady (applySlot_steady h₁))))) h₁))

/-! ### Ledger (Sys2Proof/Machine/Ledger.lean) -/

theorem execLedgerCommit_steady {t : Nat} {ok : Bool} (h : Steady W s₀ s) :
    OutSteady W s₀ (execLedgerCommit t ok s) := by
  unfold execLedgerCommit
  refine steady_next (onCore_steady h (fun h₁ => ?_))
  extract_lets
  refine steady_ite h₁ ?_
  split
  · exact steady_ite (commitState_steady (steady_upd h₁)) (steady_ite (commitState_steady (steady_upd
      (transaction_steady h₁))) h₁)
  · exact commitState_steady (steady_upd h₁)

theorem execTariffSwitch_steady {t : Nat} (h : Steady W s₀ s) : OutSteady W s₀ (execTariffSwitch t s) :=
  steady_next (onEvent_steady h (fun h₁ => steady_ite h₁ (steady_ite (demandBoundary_steady h₁) (steady_ite h₁
    (steady_ite (append_steady (steady_forEach tariffGo_steady h₁)) (addBoundary_steady h₁))))))

theorem execCalendarActivate_steady {t : Nat} (h : Steady W s₀ s) : OutSteady W s₀ (execCalendarActivate t s) := by
  unfold execCalendarActivate
  refine steady_next (onEvent_steady h (fun h₁ => ?_))
  split
  · exact steady_ite h₁ (addBoundary_steady h₁)
  · exact h₁

theorem execDemandBoundary_steady {t : Nat} (h : Steady W s₀ s) : OutSteady W s₀ (execDemandBoundary t s) :=
  steady_next (onEvent_steady h demandBoundary_steady)

theorem execBoundaryTransaction_steady {t : Nat} (h : Steady W s₀ s) :
    OutSteady W s₀ (execBoundaryTransaction t s) := by
  unfold execBoundaryTransaction
  refine steady_next (onEvent_steady h (fun h₁ => ?_))
  split
  · exact steady_ite (transaction_steady h₁) h₁
  · exact h₁

theorem execSyncWindowExpiry_steady {t : Nat} (h : Steady W s₀ s) : OutSteady W s₀ (execSyncWindowExpiry t s) := by
  unfold execSyncWindowExpiry
  refine steady_next (onEvent_steady h (fun h₁ => ?_))
  split
  · exact steady_ite (releaseHeld_steady h₁) h₁
  · exact h₁

theorem execSealIdle_steady {t : Nat} (h : Steady W s₀ s) : OutSteady W s₀ (execSealIdle t s) :=
  steady_next (onEvent_steady h (fun h₁ => steady_ite (tamper_steady (steady_upd h₁)) h₁))

theorem execLegalSealChange_steady {t : Nat} {level : Bool} (h : Steady W s₀ s) :
    OutSteady W s₀ (execLegalSealChange t level s) :=
  steady_next (onEvent_steady h (fun h₁ => steady_ite h₁ (sealChange_steady h₁)))

theorem execCalExpiry_steady {t : Nat} (h : Steady W s₀ s) : OutSteady W s₀ (execCalExpiry t s) := by
  unfold execCalExpiry
  refine steady_next (onEvent_steady h (fun h₁ => ?_))
  split
  · exact steady_ite (calClose_steady h₁) h₁
  · exact h₁

theorem execLedgerQuery_steady {x : Ctx} {m : Nat} (h : Steady W s₀ s) : OutSteady W s₀ (execLedgerQuery x m s) :=
  steady_next (command_steady h (fun h₁ => steady_ite (complete_steady h₁) (complete_steady h₁)))

theorem execLedgerSessionRecord_steady {x : Ctx} {n m op kind : Nat} {ident : List Byte} {price reason : Nat} (h :
    Steady W s₀ s) :
    OutSteady W s₀ (execLedgerSessionRecord x n m op kind ident price reason s) := by
  unfold execLedgerSessionRecord
  extract_lets
  refine steady_next (command_steady h (fun h₁ => steady_ite (complete_steady h₁) (steady_ite ?_ ?_)))
  · split
    · exact complete_steady h₁
    · exact complete_steady (recOpen_steady h₁)
  · split
    · exact complete_steady h₁
    · exact complete_steady (recClose_steady h₁)

theorem execLedgerTariffSelect_steady {x : Ctx} {mask tariff price : Nat} (h : Steady W s₀ s) :
    OutSteady W s₀ (execLedgerTariffSelect x mask tariff price s) := by
  unfold execLedgerTariffSelect
  refine steady_next (command_steady h (fun h₁ => ?_))
  split
  · exact complete_steady h₁
  · exact complete_steady (tariffSelect_steady h₁)

theorem execLedgerReadSigned_steady {x : Ctx} {mask : Nat} (h : Steady W s₀ s) :
    OutSteady W s₀ (execLedgerReadSigned x mask s) := by
  unfold execLedgerReadSigned
  refine steady_next (command_steady h (fun h₁ => ?_))
  split
  · exact complete_steady h₁
  · exact readStart_steady h₁

theorem execLedgerRecordFetch_steady {x : Ctx} {first maxBytes ackTo : Nat} (h : Steady W s₀ s) :
    OutSteady W s₀ (execLedgerRecordFetch x first maxBytes ackTo s) :=
  steady_next (command_steady h (fun h₁ => steady_ite (complete_steady (steady_upd h₁)) (complete_steady
    (giveBuffer_steady (steady_upd h₁)))))

theorem execLedgerTimeSet_steady {x : Ctx} {ms : Nat} {sig : Option OwnerSig} (h : Steady W s₀ s) :
    OutSteady W s₀ (execLedgerTimeSet x ms sig s) := by
  unfold execLedgerTimeSet
  refine steady_next (command_steady h (fun h₁ => steady_ite (complete_steady h₁) ?_))
  split
  · exact complete_steady h₁
  · exact complete_steady (timeSet_steady (ownerTook_steady h₁))
  · exact complete_steady (timeSet_steady h₁)

theorem execLedgerCalendarLoad_steady {x : Ctx} {image : List Byte} {sigOk : Bool} (h : Steady W s₀ s) :
    OutSteady W s₀ (execLedgerCalendarLoad x image sigOk s) := by
  unfold execLedgerCalendarLoad
  refine steady_next (command_steady h (fun h₁ => steady_ite (complete_steady h₁) ?_))
  split
  · exact complete_steady (steady_upd h₁)
  · exact complete_steady h₁

theorem execLedgerBillingClose_steady {x : Ctx} (h : Steady W s₀ s) : OutSteady W s₀ (execLedgerBillingClose x s) :=
  steady_next (command_steady h (fun h₁ => steady_ite (complete_steady h₁) (steady_ite (complete_steady h₁)
    (steady_ite (complete_steady h₁) (steady_upd h₁)))))

theorem execLedgerBillingRead_steady {x : Ctx} {k : Nat} (h : Steady W s₀ s) :
    OutSteady W s₀ (execLedgerBillingRead x k s) := by
  unfold execLedgerBillingRead
  refine steady_next (command_steady h (fun h₁ => ?_))
  split
  · exact complete_steady h₁
  · exact complete_steady (giveBuffer_steady h₁)

theorem execLedgerCalChallenge_steady {x : Ctx} (h : Steady W s₀ s) : OutSteady W s₀ (execLedgerCalChallenge x s) := by
  unfold execLedgerCalChallenge
  refine steady_next (command_steady h (fun h₁ => steady_ite ?_ ?_))
  · exact complete_steady h₁
  · split
    rename_i hp
    exact complete_steady (giveBuffer_steady (steady_upd (steady_snd hp (drbgNext_steady h₁))))

theorem execLedgerCalOpen_steady {x : Ctx} {mask mins challenge : Nat} {sigOk : Bool} (h : Steady W s₀ s) :
    OutSteady W s₀ (execLedgerCalOpen x mask mins challenge sigOk s) :=
  steady_next (command_steady h (fun h₁ => steady_ite (complete_steady h₁) (steady_ite (complete_steady (tamper_steady
    h₁)) (steady_ite (complete_steady (tamper_steady h₁)) (steady_ite (complete_steady h₁) (steady_ite
    (complete_steady h₁) (legalRepaint_steady (complete_steady (raise_steady (tamper_steady (wr_steady (steady_upd
    h₁) rfl)))))))))))

theorem execLedgerCalClose_steady {x : Ctx} (h : Steady W s₀ s) : OutSteady W s₀ (execLedgerCalClose x s) :=
  steady_next (command_steady h (fun h₁ => steady_ite (complete_steady h₁) (complete_steady (calClose_steady h₁))))

theorem execLedgerLegalId_steady {x : Ctx} (h : Steady W s₀ s) : OutSteady W s₀ (execLedgerLegalId x s) :=
  steady_next (command_steady h (fun h₁ => complete_steady (giveBuffer_steady h₁)))

theorem execLedgerAckLoss_steady {x : Ctx} (h : Steady W s₀ s) : OutSteady W s₀ (execLedgerAckLoss x s) :=
  steady_next (command_steady h (fun h₁ => complete_steady (wr_steady h₁ rfl)))

/-! ### Key (Sys2Proof/Machine/Key.lean) -/

theorem execRiddle_steady {t : Nat} (h : Steady W s₀ s) : OutSteady W s₀ (execRiddle t s) := by
  unfold execRiddle
  refine steady_next (onEvent_steady h (fun h₁ => ?_))
  extract_lets _ _ _ _ _ s₂
  have h₂ : Steady W s₀ s₂ := steady_upd (steady_ite (incSat_steady h₁ rfl) h₁)
  refine steady_ite h₁ (steady_ite (steady_forEach (fun h₄ => ?_) h₂) h₂)
  split
  rename_i hp
  exact steady_upd (steady_snd hp (drbgNext_steady h₄))

theorem execDrbgReseed_steady {t : Nat} (h : Steady W s₀ s) : OutSteady W s₀ (execDrbgReseed t s) :=
  steady_next (onEvent_steady h (fun h₁ => steady_ite (reseed_steady h₁) h₁))

theorem execEntropyFail_steady {t test : Nat} (h : Steady W s₀ s) : OutSteady W s₀ (execEntropyFail t test s) :=
  steady_next (onEvent_steady h (fun h₁ => raise_steady (steady_upd (incSat_steady (wr_steady h₁ rfl) rfl))))

theorem execEntropyRetest_steady {t : Nat} {pass : Bool} (h : Steady W s₀ s) :
    OutSteady W s₀ (execEntropyRetest t pass s) :=
  steady_next (onEvent_steady h (fun h₁ => steady_ite h₁ (steady_ite (steady_upd (steady_upd h₁)) (steady_ite
    (steady_upd (steady_upd h₁)) (raise_steady (wr_steady (reseed_steady (steady_upd (steady_upd h₁))) rfl))))))

theorem execKeySelftestDone_steady {t : Nat} {failed : List Nat} {ber : Option Nat} (h : Steady W s₀ s) :
    OutSteady W s₀ (execKeySelftestDone t failed ber s) :=
  steady_next (onEvent_steady h (fun h₁ => steady_ite h₁ (steady_ite (recoveryOutlets_steady (regenerate_steady
    (finaliseOpt_steady (wr_steady (setKeyMode_steady (steady_upd h₁)) rfl)))) (recoveryOutlets_steady
    (finaliseOpt_steady (keyRecovery_steady (steady_forEach raise_steady (steady_upd h₁))))))))

theorem execCredVerifyDone_steady {t : Nat} (h : Steady W s₀ s) : OutSteady W s₀ (execCredVerifyDone t s) := by
  unfold execCredVerifyDone
  refine steady_next (onEvent_steady h (fun h₁ => ?_))
  split
  · exact h₁
  · split
    · exact finalise_steady (credFlip_steady h₁)
    · exact finalise_steady (raise_steady (wr_steady (steady_upd h₁) rfl))

theorem execFlashBlockFail_steady {t a : Nat} (h : Steady W s₀ s) : OutSteady W s₀ (execFlashBlockFail t a s) :=
  steady_next (onEvent_steady h (fun h₁ => steady_ite h₁ (steady_ite (wr_steady h₁ rfl) (raise_steady (steady_ite
    (wr_steady (wr_steady h₁ rfl) rfl) (wr_steady h₁ rfl))))))

theorem execKeyQuery_steady {x : Ctx} (h : Steady W s₀ s) : OutSteady W s₀ (execKeyQuery x s) :=
  steady_next (command_steady h complete_steady)

theorem execKeyNodeQuery_steady {x : Ctx} {path : List (List Byte)} (h : Steady W s₀ s) :
    OutSteady W s₀ (execKeyNodeQuery x path s) :=
  steady_next (command_steady h (fun h₁ => onNode_steady h₁ (fun h₂ => complete_steady (giveBuffer_steady h₂))))

theorem execKeyInvalidate_steady {x : Ctx} {path : List (List Byte)} {sig : OwnerSig} (h : Steady W s₀ s) :
    OutSteady W s₀ (execKeyInvalidate x path sig s) :=
  steady_next (command_steady h (fun h₁ => onNode_steady h₁ (fun h₂ => owned_steady h₂ (fun h₃ => complete_steady
    (steady_ite (signKeyChanged_steady (raise_steady (invalidate_steady h₃))) (raise_steady (invalidate_steady
    h₃)))))))

theorem execKeyRederive_steady {x : Ctx} {path : List (List Byte)} {sig : OwnerSig} (h : Steady W s₀ s) :
    OutSteady W s₀ (execKeyRederive x path sig s) :=
  steady_next (command_steady h (fun h₁ => onNode_steady h₁ (fun h₂ => owned_steady h₂ (fun h₃ => complete_steady
    (steady_ite (rederive_steady h₃) (signKeyChanged_steady (rederive_steady h₃)))))))

theorem execKeyInstall_steady {x : Ctx} {blob : List Byte} {plain : Option Nat} {sigOk : Bool} (h : Steady W s₀ s) :
    OutSteady W s₀ (execKeyInstall x blob plain sigOk s) := by
  unfold execKeyInstall
  refine steady_next (command_steady h (fun h₁ => withTree_steady h₁ (fun h₂ => ?_)))
  split
  · exact complete_steady h₂
  · exact owned_steady h₂ (fun h₃ => complete_steady (cacheCounts_steady (steady_ite (modNode_steady h₃) (steady_upd
      h₃))))

theorem execKeyOwnerSet_steady {x : Ctx} {pk : List Byte} {counter : Nat} {sig : Option Bool} (h : Steady W s₀ s) :
    OutSteady W s₀ (execKeyOwnerSet x pk counter sig s) := by
  unfold execKeyOwnerSet
  refine steady_next (command_steady h (fun h₁ => ?_))
  extract_lets
  refine steady_ite (complete_steady h₁) ?_
  split
  · exact owned_steady h₁ (fun h₂ => complete_steady (wr_steady (steady_upd h₂) rfl))
  · exact steady_ite (complete_steady h₁) (steady_ite (complete_steady h₁) (complete_steady (wr_steady (steady_upd
      (ownerTook_steady h₁)) rfl)))

theorem execKeyAnchorInstall_steady {x : Ctx} {slot typ : Nat} {item : List Byte} {valid : Bool} {sig : OwnerSig} (h :
    Steady W s₀ s) :
    OutSteady W s₀ (execKeyAnchorInstall x slot typ item valid sig s) :=
  steady_next (command_steady h (fun h₁ => owned_steady h₁ (fun h₂ => complete_steady (steady_upd h₂))))

theorem execKeyCsr_steady {x : Ctx} {path : List (List Byte)} {subject : List Byte} (h : Steady W s₀ s) :
    OutSteady W s₀ (execKeyCsr x path subject s) :=
  steady_next (command_steady h (fun h₁ => onNode_steady h₁ (fun h₂ => steady_ite (complete_steady h₂) (steady_ite
    (complete_steady h₂) (complete_steady (giveBuffer_steady (useNode_steady h₂)))))))

theorem execKeyCertInstall_steady {x : Ctx} {path chain : List (List Byte)} {leafKey : Nat} {periods : List (Nat ×
    Nat)} {valid : Bool} (h : Steady W s₀ s) :
    OutSteady W s₀ (execKeyCertInstall x path chain leafKey periods valid s) :=
  steady_next (command_steady h (fun h₁ => onNode_steady h₁ (fun h₂ => steady_ite (complete_steady h₂) (steady_ite
    (complete_steady h₂) (steady_ite (complete_steady h₂) (complete_steady (modNode_steady h₂)))))))

theorem execKeyAttest_steady {x : Ctx} {nonce : Nat} {paths : List (List (List Byte))} (h : Steady W s₀ s) :
    OutSteady W s₀ (execKeyAttest x nonce paths s) :=
  steady_next (command_steady h (fun h₁ => withTree_steady h₁ (fun h₂ => steady_ite (complete_steady h₂) (steady_ite
    (complete_steady h₂) (complete_steady (giveBuffer_steady (steady_forEach useNode_steady h₂)))))))

theorem execKeyAttestCert_steady {x : Ctx} (h : Steady W s₀ s) : OutSteady W s₀ (execKeyAttestCert x s) :=
  steady_next (command_steady h (fun h₁ => complete_steady (giveBuffer_steady h₁)))

theorem execKeySelftest_steady {x : Ctx} (h : Steady W s₀ s) : OutSteady W s₀ (execKeySelftest x s) :=
  steady_next (command_steady h (fun h₁ => withTree_steady h₁ (fun h₂ => steady_ite (complete_steady h₂) (steady_upd
    (complete_steady (setKeyMode_steady (clearKeys_steady h₂)))))))

theorem execCredLoadBegin_steady {x : Ctx} {gen count : Nat} (h : Steady W s₀ s) :
    OutSteady W s₀ (execCredLoadBegin x gen count s) :=
  steady_next (command_steady h (fun h₁ => withCreds_steady h₁ (fun h₂ => steady_ite (complete_steady h₂) (steady_ite
    (complete_steady h₂) (steady_ite (complete_steady h₂) (steady_ite (complete_steady h₂) (complete_steady (wr_steady
    (steady_ite h₂ (wr_steady (steady_upd h₂) rfl)) rfl))))))))

theorem execCredLoadData_steady {x : Ctx} {first : Nat} {recs : List CredRec} (h : Steady W s₀ s) :
    OutSteady W s₀ (execCredLoadData x first recs s) :=
  steady_next (command_steady h (fun h₁ => withCreds_steady h₁ (fun h₂ => steady_ite (complete_steady h₂) (steady_ite
    (complete_steady h₂) (steady_ite (complete_steady h₂) (steady_ite (complete_steady h₂) (steady_ite
    (complete_steady h₂) (complete_steady (wr_steady (steady_upd h₂) rfl)))))))))

theorem execCredLoadCommit_steady {x : Ctx} {gen count digest serial : Nat} {sigOk : Bool} (h : Steady W s₀ s) :
    OutSteady W s₀ (execCredLoadCommit x gen count digest serial sigOk s) :=
  steady_next (command_steady h (fun h₁ => withCreds_steady h₁ (fun h₂ => steady_ite (complete_steady h₂) (steady_ite
    (complete_steady h₂) (steady_upd (complete_steady (wr_steady h₂ rfl)))))))

theorem execCredLoadAbort_steady {x : Ctx} (h : Steady W s₀ s) : OutSteady W s₀ (execCredLoadAbort x s) :=
  steady_next (command_steady h (fun h₁ => withCreds_steady h₁ (fun h₂ => complete_steady (endLoad_steady (steady_upd
    (finaliseOpt_steady h₂))))))

theorem execCredUpdate_steady {x : Ctx} {recs : List CredRec} {sig : OwnerSig} (h : Steady W s₀ s) :
    OutSteady W s₀ (execCredUpdate x recs sig s) := by
  unfold execCredUpdate
  refine steady_next (command_steady h (fun h₁ => withCreds_steady h₁ (fun h₂ => ?_)))
  extract_lets x₁
  clear_value x₁
  refine steady_ite (owned_steady h₂ (fun h₃ => complete_steady (wr_steady (steady_upd h₃) rfl))) ?_
  split
  · exact complete_steady h₂
  · exact complete_steady (wr_steady (steady_upd h₂) rfl)

theorem execCredLookup_steady {x : Ctx} {kind hash n : Nat} {tagBad : Bool} (h : Steady W s₀ s) :
    OutSteady W s₀ (execCredLookup x kind hash n tagBad s) := by
  unfold execCredLookup
  refine steady_next ?_
  refine command_steady h (fun h₁ => withCreds_steady h₁ (fun h₂ => steady_ite (complete_steady h₂) ?_))
  extract_lets _ _ s₃
  have h₃ : Steady W s₀ s₃ := by
    unfold s₃
    split
    · exact raise_steady (steady_upd h₂)
    · exact h₂
  split
  · exact complete_steady h₃
  · exact complete_steady (giveBuffer_steady h₃)
  · exact complete_steady (giveBuffer_steady h₃)

/-! ### Upd (Sys2Proof/Machine/Upd.lean) -/

theorem execUpdBegin_steady {x : Ctx} {man : List Byte} {sigs : Bool × Bool} (h : Steady W s₀ s) :
    OutSteady W s₀ (execUpdBegin x man sigs s) :=
  steady_next (command_steady h (fun h₁ => hostSource_steady h₁ (fun h₂ => complete_steady (updBegin_steady h₂))))

theorem execUpdBlock_steady {x : Ctx} {first : Nat} {blocks : List (List Byte)} (h : Steady W s₀ s) :
    OutSteady W s₀ (execUpdBlock x first blocks s) :=
  steady_next (command_steady h (fun h₁ => hostSource_steady h₁ (fun h₂ => complete_steady (updReceive_steady h₂))))

theorem execUpdStatus_steady {x : Ctx} {first : Nat} (h : Steady W s₀ s) : OutSteady W s₀ (execUpdStatus x first s) :=
  steady_next (command_steady h (fun h₁ => complete_steady (giveBuffer_steady (updTouch_steady h₁))))

theorem execUpdActivate_steady {x : Ctx} {mode : Nat} (h : Steady W s₀ s) :
    OutSteady W s₀ (execUpdActivate x mode s) := by
  unfold execUpdActivate
  refine steady_next (command_steady h (fun h₁ => ?_))
  split
  · exact complete_steady h₁
  · exact activate_steady (complete_steady (updTouch_steady h₁))

theorem execUpdConfirm_steady {x : Ctx} (h : Steady W s₀ s) : OutSteady W s₀ (execUpdConfirm x s) :=
  steady_next (command_steady h (fun h₁ => steady_ite (complete_steady h₁) (steady_ite (complete_steady h₁)
    (complete_steady (updConfirm_steady h₁)))))

theorem execUpdRevert_steady {x : Ctx} (h : Steady W s₀ s) : OutSteady W s₀ (execUpdRevert x s) :=
  steady_next (command_steady h (fun h₁ => steady_ite (complete_steady h₁) (revertStart_steady (complete_steady h₁))))

theorem execUpdAbort_steady {x : Ctx} {sig : Option OwnerSig} (h : Steady W s₀ s) :
    OutSteady W s₀ (execUpdAbort x sig s) :=
  steady_next (command_steady h (fun h₁ => complete_steady (updAbort_steady h₁)))

theorem execUpdPolicy_steady {x : Ctx} {cosign : Nat} {sig : OwnerSig} (hO : R.UPD_POLICY_OWNER_COSIGN ∉ W)
    (h : Steady W s₀ s) : OutSteady W s₀ (execUpdPolicy x cosign sig s) :=
  steady_next (command_steady h (fun h₁ => owned_steady h₁ (fun h₂ => complete_steady
    (wr_steady_out (by decide) hO h₂))))

theorem execUpdVerifyDone_steady {t : Nat} {readOk : Bool} (h : Steady W s₀ s) :
    OutSteady W s₀ (execUpdVerifyDone t readOk s) :=
  steady_next (onUpd_steady h updVerified_steady)

theorem execUpdLockIdle_steady {t : Nat} (h : Steady W s₀ s) : OutSteady W s₀ (execUpdLockIdle t s) :=
  steady_next (onUpd_steady h (fun h₁ => steady_ite (updRelease_steady (updGo_steady h₁)) h₁))

theorem execUpdActivationFlip_steady {t : Nat} (h : Steady W s₀ s) : OutSteady W s₀ (execUpdActivationFlip t s) := by
  unfold execUpdActivationFlip
  refine steady_next (onUpd_steady h (fun h₁ => ?_))
  split
  · exact steady_ite (updFlip_steady h₁) h₁
  · exact h₁

theorem execUpdActivateTimeout_steady {t : Nat} (h : Steady W s₀ s) : OutSteady W s₀ (execUpdActivateTimeout t s) := by
  unfold execUpdActivateTimeout
  refine steady_next (onUpd_steady h (fun h₁ => ?_))
  split
  · exact steady_ite (actEnds_steady (updGo_steady h₁)) h₁
  · exact h₁

theorem execTrialTimeSave_steady {t : Nat} (h : Steady W s₀ s) : OutSteady W s₀ (execTrialTimeSave t s) :=
  steady_next (onEvent_steady h (fun h₁ => steady_ite (ptrWrite_steady (wr_steady (healthNote_steady (steady_upd
    h₁)) rfl)) h₁))

theorem execUpdAutoConfirm_steady {t : Nat} (h : Steady W s₀ s) : OutSteady W s₀ (execUpdAutoConfirm t s) :=
  steady_next (onEvent_steady h (fun h₁ => steady_ite (updConfirm_steady (healthNote_steady h₁)) (healthNote_steady
    h₁)))

theorem execTrialTimeout_steady {t : Nat} (h : Steady W s₀ s) : OutSteady W s₀ (execTrialTimeout t s) :=
  steady_next (onEvent_steady h (fun h₁ => steady_ite (revertStart_steady h₁) h₁))

theorem execSvcBegin_steady {t : Nat} {man : List Byte} {sigs : Bool × Bool} (h : Steady W s₀ s) :
    OutSteady W s₀ (execSvcBegin t man sigs s) :=
  steady_next (onUpd_steady h (fun h₁ => svcReply_steady (updBegin_steady h₁)))

theorem execSvcBlock_steady {t block : Nat} {data : List Byte} (h : Steady W s₀ s) :
    OutSteady W s₀ (execSvcBlock t block data s) :=
  steady_next (onUpd_steady h (fun h₁ => svcReply_steady (updReceive_steady h₁)))

theorem execSvcActivate_steady {t mode : Nat} (h : Steady W s₀ s) : OutSteady W s₀ (execSvcActivate t mode s) := by
  unfold execSvcActivate
  refine steady_next (onUpd_steady h (fun h₁ => ?_))
  split
  · exact svcReply_steady h₁
  · exact activate_steady (svcReply_steady (updTouch_steady h₁))

theorem execSvcStatus_steady {t : Nat} (h : Steady W s₀ s) : OutSteady W s₀ (execSvcStatus t s) :=
  steady_next (onUpd_steady h (fun h₁ => svcReply_steady (updTouch_steady h₁)))

theorem execSvcAbort_steady {t : Nat} {sig : Option OwnerSig} (h : Steady W s₀ s) :
    OutSteady W s₀ (execSvcAbort t sig s) :=
  steady_next (onUpd_steady h (fun h₁ => svcReply_steady (updAbort_steady h₁)))

theorem execSvcConfirm_steady {t : Nat} (h : Steady W s₀ s) : OutSteady W s₀ (execSvcConfirm t s) :=
  steady_next (onUpd_steady h (fun h₁ => steady_ite (svcReply_steady h₁) (steady_ite (svcReply_steady h₁)
    (svcReply_steady (updConfirm_steady h₁)))))

theorem execSvcRevert_steady {t : Nat} (h : Steady W s₀ s) : OutSteady W s₀ (execSvcRevert t s) :=
  steady_next (onUpd_steady h (fun h₁ => steady_ite (svcReply_steady h₁) (revertStart_steady (svcReply_steady h₁))))

theorem execSvcBadFrame_steady {t : Nat} (h : Steady W s₀ s) : OutSteady W s₀ (execSvcBadFrame t s) :=
  steady_next (advance_steady h)

/-! ### Arch (Sys2Proof/Machine/Arch.lean) -/

theorem execIslandCrossing_steady {t target : Nat} {gated : Bool} {reqs : List Xing} (h : Steady W s₀ s) :
    OutSteady W s₀ (execIslandCrossing t target gated reqs s) :=
  steady_next (onCore_steady h (fun h₁ => steady_ite h₁ (steady_forEach_snd serveXing_steady (steady_ite (wr_steady
    (steady_upd h₁) rfl) (steady_upd h₁)))))

theorem execLinkTimeout_steady {t src dst : Nat} {ini : Ini} {cmd : Option (Nat × Nat)} (h : Steady W s₀ s) :
    OutSteady W s₀ (execLinkTimeout t src dst ini cmd s) :=
  steady_next (onCore_steady h (fun h₁ => steady_ite h₁ (linkTimeout_steady h₁)))

theorem execRtcSecondEdge_steady {t : Nat} (h : Steady W s₀ s) : OutSteady W s₀ (execRtcSecondEdge t s) :=
  steady_next (onCore_steady h secondEdge_steady)

theorem execControlCycleStart_steady {t : Nat} {feed : List Feed} (h : Steady W s₀ s) :
    OutSteady W s₀ (execControlCycleStart t feed s) :=
  steady_next (onEvent_steady h (fun h₁ => steady_ite h₁ (controlCycle_steady h₁)))

theorem execOutputStagingDeadline_steady {t late : Nat} (h : Steady W s₀ s) :
    OutSteady W s₀ (execOutputStagingDeadline t late s) :=
  steady_next (onEvent_steady h (fun h₁ => steady_ite h₁ (stagingDeadline_steady h₁)))

theorem execACheckDeadline_steady {t : Nat} {done : Bool} (h : Steady W s₀ s) :
    OutSteady W s₀ (execACheckDeadline t done s) :=
  steady_next (onEvent_steady h (fun h₁ => steady_ite h₁ (steady_upd h₁)))

/-! ### Coil (Sys2Proof/Machine/Coil.lean) -/

theorem execCoilPullinStart_steady {t k : Nat} (h : Steady W s₀ s) : OutSteady W s₀ (execCoilPullinStart t k s) :=
  steady_next (onEvent_steady h startPullIn_steady)

theorem execCoilPullinEnd_steady {t k : Nat} (h : Steady W s₀ s) : OutSteady W s₀ (execCoilPullinEnd t k s) :=
  steady_next (onEvent_steady h (fun h₁ => steady_ite (holdFrom_steady h₁) h₁))

theorem execCoilOpen_steady {t k ma ms : Nat} (h : Steady W s₀ s) : OutSteady W s₀ (execCoilOpen t k ma ms s) :=
  steady_next (onCore_steady h (fun h₁ => steady_ite (coilFault_steady (wr_steady h₁ rfl)) (wr_steady h₁ rfl)))

theorem execCoilShort_steady {t k ma : Nat} (h : Steady W s₀ s) : OutSteady W s₀ (execCoilShort t k ma s) :=
  steady_next (onCore_steady h (fun h₁ => steady_ite (coilFault_steady (wr_steady h₁ rfl)) (wr_steady h₁ rfl)))

theorem execWeldCheck_steady {t n : Nat} (h : Steady W s₀ s) : OutSteady W s₀ (execWeldCheck t n s) := by
  unfold execWeldCheck
  refine steady_next (onCore_steady h (fun h₁ => ?_))
  split
  · exact steady_ite (weldCheck_steady h₁) h₁
  · exact h₁

theorem execShuntTripEnd_steady {t : Nat} (h : Steady W s₀ s) : OutSteady W s₀ (execShuntTripEnd t s) := by
  unfold execShuntTripEnd
  refine steady_next (onCore_steady h (fun h₁ => ?_))
  split
  · exact steady_ite (setFlag_steady (steady_upd h₁) rfl) h₁
  · exact h₁

theorem execShuntTripRepeat_steady {t n : Nat} (h : Steady W s₀ s) : OutSteady W s₀ (execShuntTripRepeat t n s) := by
  unfold execShuntTripRepeat
  refine steady_next (onCore_steady h (fun h₁ => ?_))
  extract_lets s₂
  have h₂ : Steady W s₀ s₂ := shuntKeep_steady h₁
  split
  · exact steady_ite (shuntOn_steady h₂) h₂
  · exact h₂

theorem execDarkTestPulse_steady {t k : Nat} {low : Bool} {offUs : Option Nat} {otherOpens : Bool} (h : Steady W s₀ s) :
    OutSteady W s₀ (execDarkTestPulse t k low offUs otherOpens s) :=
  steady_next (onEvent_steady h (fun h₁ => steady_ite h₁ (steady_ite (steady_upd (testBegin_steady h₁))
    (testStuck_steady (testBegin_steady h₁)))))

theorem execDarkTestEnd_steady {t : Nat} {onUs : Option Nat} (h : Steady W s₀ s) :
    OutSteady W s₀ (execDarkTestEnd t onUs s) := by
  unfold execDarkTestEnd
  refine steady_next (onEvent_steady h (fun h₁ => ?_))
  split
  · exact h₁
  · exact steady_ite h₁ (steady_forEach startPullIn_steady (raise_steady (steady_ite (modCoil_steady (steady_upd h₁))
      (modCoil_steady (steady_upd h₁)))))

theorem execCoilUncontrol_steady {t k : Nat} (h : Steady W s₀ s) : OutSteady W s₀ (execCoilUncontrol t k s) :=
  steady_next (onCore_steady h (fun h₁ => steady_ite (shuntOn_steady (moduleTrip_steady h₁)) h₁))

/-! ### Disp (Sys2Proof/Machine/Disp.lean) -/

theorem execLegalBtnPress_steady {t : Nat} (h : Steady W s₀ s) : OutSteady W s₀ (execLegalBtnPress t s) :=
  steady_next (onEvent_steady h (fun h₁ => legalRepaint_steady (steady_upd h₁)))

theorem execLegalDisplayTimeout_steady {t : Nat} (h : Steady W s₀ s) : OutSteady W s₀ (execLegalDisplayTimeout t s) :=
  steady_next (onEvent_steady h (fun h₁ => steady_ite h₁ (legalRepaint_steady (steady_upd h₁))))

theorem execLegalSilent_steady {t : Nat} (h : Steady W s₀ s) : OutSteady W s₀ (execLegalSilent t s) :=
  steady_next (onEvent_steady h (fun h₁ => segPaint_steady (steady_upd h₁)))

theorem execSegFrame_steady {t : Nat} (h : Steady W s₀ s) : OutSteady W s₀ (execSegFrame t s) := by
  unfold execSegFrame
  refine steady_next (onEvent_steady h (fun h₁ => ?_))
  split
  · exact h₁
  · exact steady_ite h₁ (segSteps_steady (steady_upd (steady_upd h₁)))

theorem execSegSense_steady {t : Nat} {caps : List Nat} (h : Steady W s₀ s) :
    OutSteady W s₀ (execSegSense t caps s) := by
  unfold execSegSense
  refine steady_next (onEvent_steady h (fun h₁ => steady_ite h₁ ?_))
  extract_lets
  refine steady_forEach (fun h₃ => ?_) (steady_upd h₁)
  extract_lets s₄
  have h₄ : Steady W s₀ s₄ := steady_ite (wr_steady h₃ rfl) h₃
  exact steady_ite (raise_steady (wr_steady h₄ rfl)) (wr_steady h₄ rfl)

theorem execDispTempStale_steady {t : Nat} (h : Steady W s₀ s) : OutSteady W s₀ (execDispTempStale t s) :=
  steady_next (onEvent_steady h (fun h₁ => steady_ite (bandShow_steady (wr_steady h₁ rfl)) h₁))

theorem execDispFrameStart_steady {t : Nat} (h : Steady W s₀ s) : OutSteady W s₀ (execDispFrameStart t s) :=
  steady_next (onEvent_steady h (fun h₁ => steady_ite h₁ (imbalance_steady (vintageFrame_steady (steady_forEach (fun
    h₂ => steady_ite (startRegion_steady h₂) h₂) (steady_forEach (fun h₂ => wr_steady (latchRegion_steady h₂) rfl)
    (steady_forEach setRegion_steady (steady_upd h₁))))))))

theorem execDispRegionDone_steady {t r : Nat} (h : Steady W s₀ s) : OutSteady W s₀ (execDispRegionDone t r s) :=
  steady_next (onEvent_steady h (fun h₁ => steady_ite h₁ (dispIdle_steady (finaliseOpt_steady (steady_ite
    (raise_steady (setRegion_steady (steady_upd h₁))) (raise_steady (setRegion_steady (steady_upd h₁))))))))

theorem execEpdPwrGoodRise_steady {t : Nat} (h : Steady W s₀ s) : OutSteady W s₀ (execEpdPwrGoodRise t s) :=
  steady_next (onEvent_steady h (fun h₁ => dispWake_steady (wr_steady h₁ rfl)))

theorem execDispPwrTimeout_steady {t : Nat} (h : Steady W s₀ s) : OutSteady W s₀ (execDispPwrTimeout t s) :=
  steady_next (onEvent_steady h (fun h₁ => steady_ite h₁ (dispIdle_steady (raise_steady (steady_upd (steady_forEach
    dropRegion_steady h₁))))))

theorem execEpdPwrGoodLoss_steady {t : Nat} (h : Steady W s₀ s) : OutSteady W s₀ (execEpdPwrGoodLoss t s) :=
  steady_next (onEvent_steady h (fun h₁ => steady_ite (dispWake_steady (dispCut_steady (raise_steady (wr_steady h₁
    rfl)))) (wr_steady h₁ rfl)))

theorem execDispPwrOff_steady {t : Nat} (h : Steady W s₀ s) : OutSteady W s₀ (execDispPwrOff t s) :=
  steady_next (onEvent_steady h (fun h₁ => steady_ite h₁ (wr_steady (wr_steady (steady_upd h₁) rfl) rfl)))

theorem execVintageSave_steady {t : Nat} (h : Steady W s₀ s) : OutSteady W s₀ (execVintageSave t s) :=
  steady_next (onEvent_steady h (fun h₁ => steady_ite h₁ (steady_upd h₁)))

theorem execDispQuery_steady {x : Ctx} (h : Steady W s₀ s) : OutSteady W s₀ (execDispQuery x s) :=
  steady_next (command_steady h complete_steady)

theorem execDispImageLoad_steady {x : Ctx} {px py w h' : Nat} {pixels : List Byte} (h : Steady W s₀ s) :
    OutSteady W s₀ (execDispImageLoad x px py w h' pixels s) :=
  steady_next (command_steady h (fun h₁ => steady_ite (complete_steady h₁) (steady_ite (complete_steady h₁)
    (complete_steady (steady_upd h₁)))))

theorem execDispUpdate_steady {x : Ctx} {px py w h' mode : Nat} (h : Steady W s₀ s) :
    OutSteady W s₀ (execDispUpdate x px py w h' mode s) := by
  unfold execDispUpdate
  refine steady_next (command_steady h (fun h₁ => steady_ite (complete_steady h₁) ?_))
  split
  · exact complete_steady h₁
  · exact dispStart_steady (complete_steady h₁)

theorem execDispTempSet_steady {x : Ctx} {v : Int} (h : Steady W s₀ s) : OutSteady W s₀ (execDispTempSet x v s) :=
  steady_next (command_steady h (fun h₁ => steady_ite (complete_steady h₁) (complete_steady (dispTemp_steady h₁))))

theorem execDispVintageRead_steady {x : Ctx} (h : Steady W s₀ s) : OutSteady W s₀ (execDispVintageRead x s) :=
  steady_next (command_steady h (fun h₁ => complete_steady (giveBuffer_steady h₁)))

theorem execDispVintageReset_steady {x : Ctx} {sig : OwnerSig} (h : Steady W s₀ s) :
    OutSteady W s₀ (execDispVintageReset x sig s) :=
  steady_next (command_steady h (fun h₁ => owned_steady h₁ (fun h₂ => complete_steady (steady_upd h₂))))

/-! ### Filt (Sys2Proof/Machine/Filt.lean) -/

theorem execTrkPeriod_steady {t m cross amp : Nat} (h : Steady W s₀ s) :
    OutSteady W s₀ (execTrkPeriod t m cross amp s) :=
  steady_next (onCore_steady h (fun h₁ => steady_ite (period_steady h₁) h₁))

theorem execTrkCrossingTimeout_steady {t m : Nat} (h : Steady W s₀ s) : OutSteady W s₀ (execTrkCrossingTimeout t m s) :=
  steady_next (onCore_steady h (fun h₁ => steady_ite (holdTrk_steady h₁) h₁))

theorem execTrkHoldExpiry_steady {t m : Nat} (h : Steady W s₀ s) : OutSteady W s₀ (execTrkHoldExpiry t m s) :=
  steady_next (onCore_steady h (fun h₁ => steady_ite (setTrk_steady h₁) h₁))

theorem execTrkSourceAbsent_steady {t m : Nat} (h : Steady W s₀ s) : OutSteady W s₀ (execTrkSourceAbsent t m s) :=
  steady_next (onCore_steady h (fun h₁ => steady_ite (trkRefresh_steady h₁) h₁))

theorem execGridCycleStart_steady {t m : Nat} (h : Steady W s₀ s) : OutSteady W s₀ (execGridCycleStart t m s) := by
  unfold execGridCycleStart
  refine steady_next (onCore_steady h (fun h₁ => steady_ite h₁ ?_))
  split
  · exact h₁
  · exact meterTrk_steady (steady_ite (respace_steady (beginCycle_steady h₁)) (beginCycle_steady h₁))

theorem execSettlingEnd_steady {t c : Nat} (h : Steady W s₀ s) : OutSteady W s₀ (execSettlingEnd t c s) :=
  steady_next (onCore_steady h (fun h₁ => steady_ite h₁ (steady_forEach mpEval_steady (setFlag_steady (setFlag_steady
    (wr_steady (wr_steady h₁ rfl) rfl) rfl) rfl))))

theorem execBlendStart_steady {t c : Nat} (h : Steady W s₀ s) : OutSteady W s₀ (execBlendStart t c s) := by
  unfold execBlendStart
  refine steady_next (onCore_steady h (fun h₁ => ?_))
  split
  · exact h₁
  · exact steady_ite h₁ (steady_forEach (fun hx => wr_steady hx rfl) (steady_upd h₁))

theorem execBlendDone_steady {t c : Nat} (h : Steady W s₀ s) : OutSteady W s₀ (execBlendDone t c s) := by
  unfold execBlendDone
  refine steady_next (onCore_steady h (fun h₁ => ?_))
  split
  · exact h₁
  · split
    · exact h₁
    · exact steady_ite h₁ (finishBlend_steady h₁)

theorem execFiltQuery_steady {x : Ctx} {c : Nat} (h : Steady W s₀ s) : OutSteady W s₀ (execFiltQuery x c s) :=
  steady_next (command_steady h (fun h₁ => steady_ite (complete_steady h₁) (complete_steady h₁)))

theorem execFiltBlend_steady {x : Ctx} {mask : Nat} (h : Steady W s₀ s) : OutSteady W s₀ (execFiltBlend x mask s) :=
  steady_next (command_steady h (fun h₁ => steady_ite (complete_steady (partitionDenied_steady h₁)) (steady_ite
    (complete_steady h₁) (steady_ite (complete_steady h₁) (steady_ite (complete_steady h₁) (complete_steady
    (startBlend_steady (steady_forEach setCal_steady h₁))))))))

theorem execTrkQuery_steady {x : Ctx} {m : Nat} (h : Steady W s₀ s) : OutSteady W s₀ (execTrkQuery x m s) :=
  steady_next (command_steady h (fun h₁ => steady_ite (complete_steady h₁) (complete_steady h₁)))

theorem execFiltRestart_steady {x : Ctx} {mask : Nat} (h : Steady W s₀ s) : OutSteady W s₀ (execFiltRestart x mask s) :=
  steady_next (command_steady h (fun h₁ => steady_ite (complete_steady (partitionDenied_steady h₁)) (steady_ite
    (complete_steady h₁) (steady_ite (complete_steady h₁) (complete_steady (steady_forEach restartChain_steady
    h₁))))))

/-! ### Lsw (Sys2Proof/Machine/Lsw.lean) -/

theorem execLswTrip_steady {t n ma tj : Nat} {lowOut : Bool} (h : Steady W s₀ s) :
    OutSteady W s₀ (execLswTrip t n ma tj lowOut s) := by
  unfold execLswTrip
  refine steady_next (onEvent_steady h (fun h₁ => steady_ite h₁ ?_))
  extract_lets _ _ _ s₂
  have h₂ : Steady W s₀ s₂ := steady_ite (wr_steady h₁ rfl) (wr_steady (wr_steady (wr_steady h₁ rfl) rfl) rfl)
  exact steady_ite h₁ (steady_ite (lswTrip_steady h₂) (steady_ite h₂ (steady_ite (lswTrip_steady h₂) (steady_ite
    (lswTrip_steady h₂) h₂))))

theorem execInrushEnd_steady {t n ma tj : Nat} {calm : Bool} (h : Steady W s₀ s) :
    OutSteady W s₀ (execInrushEnd t n ma tj calm s) :=
  steady_next (onEvent_steady h (fun h₁ => steady_ite h₁ (steady_ite (lswGo_steady h₁) (steady_ite (lswTrip_steady h₁)
    h₁))))

theorem execLswRetry_steady {t n : Nat} (h : Steady W s₀ s) : OutSteady W s₀ (execLswRetry t n s) :=
  steady_next (onEvent_steady h (fun h₁ => steady_ite (turnOn_steady h₁) h₁))

theorem execLswCoolRestart_steady {t n tj : Nat} (h : Steady W s₀ s) : OutSteady W s₀ (execLswCoolRestart t n tj s) :=
  steady_next (onEvent_steady h (fun h₁ => steady_ite (steady_ite (wr_steady h₁ rfl) (turnOn_steady (wr_steady h₁
    rfl))) h₁))

theorem execRetriesReload_steady {t n : Nat} (h : Steady W s₀ s) : OutSteady W s₀ (execRetriesReload t n s) :=
  steady_next (onEvent_steady h (fun h₁ => steady_ite (wr_steady h₁ rfl) h₁))

theorem execQuadHot_steady {t q temp : Nat} (h : Steady W s₀ s) : OutSteady W s₀ (execQuadHot t q temp s) :=
  steady_next (onEvent_steady h (fun h₁ => steady_ite h₁ (steady_ite (wr_steady h₁ rfl) (raise_steady (steady_forEach
    turnOn_steady (incSat_steady (wr_steady (wr_steady h₁ rfl) rfl) rfl))))))

theorem execQuadCool_steady {t q temp : Nat} (h : Steady W s₀ s) : OutSteady W s₀ (execQuadCool t q temp s) :=
  steady_next (onEvent_steady h (fun h₁ => steady_ite h₁ (raise_steady (steady_upd (wr_steady (wr_steady h₁ rfl)
    rfl)))))

theorem execQuadRestartStep_steady {t q : Nat} (h : Steady W s₀ s) : OutSteady W s₀ (execQuadRestartStep t q s) := by
  unfold execQuadRestartStep
  refine steady_next (onEvent_steady h (fun h₁ => steady_ite h₁ ?_))
  split
  · exact h₁
  · exact steady_upd (turnOn_steady h₁)

theorem execLswPwmPeriod_steady {t b : Nat} (h : Steady W s₀ s) : OutSteady W s₀ (execLswPwmPeriod t b s) :=
  steady_next (onEvent_steady h (fun h₁ => steady_ite h₁ (steady_forEach pwmPeriod_steady (steady_upd h₁))))

theorem execLswOpenOn_steady {t n lo hi : Nat} (h : Steady W s₀ s) : OutSteady W s₀ (execLswOpenOn t n lo hi s) :=
  steady_next (onEvent_steady h (fun h₁ => steady_ite h₁ (steady_ite (raise_steady (wr_steady (modLsw_steady h₁) rfl))
    (steady_ite (raise_steady (wr_steady (modLsw_steady h₁) rfl)) (modLsw_steady h₁)))))

theorem execLswOpenOff_steady {t n : Nat} (h : Steady W s₀ s) : OutSteady W s₀ (execLswOpenOff t n s) :=
  steady_next (onEvent_steady h (fun h₁ => steady_ite (raise_steady (wr_steady h₁ rfl)) h₁))

theorem execLswBudgetWindow_steady {t : Nat} {mas mws : List Nat} (h : Steady W s₀ s) :
    OutSteady W s₀ (execLswBudgetWindow t mas mws s) := by
  unfold execLswBudgetWindow
  refine steady_next (onEvent_steady h (fun h₁ => steady_ite h₁ ?_))
  extract_lets _ _ _ _ _ _ _ _ _ s₂ s₃
  have h₂ : Steady W s₀ s₂ := steady_forEach (fun h₂ => steady_ite (budgetOff_steady h₂) h₂) (wr_steady (wr_steady
    (steady_forEach (fun hx => wr_steady hx rfl) (steady_upd h₁)) rfl) rfl)
  have h₃ : Steady W s₀ s₃ := steady_ite (budgetOff_steady h₂) h₂
  exact steady_ite (budgetOff_steady h₃) h₃

theorem execVlsUndervoltage_steady {t b mv : Nat} (h : Steady W s₀ s) : OutSteady W s₀ (execVlsUndervoltage t b mv s) :=
  steady_next (onEvent_steady h vlsLow_steady)

theorem execVlsRestored_steady {t b mv : Nat} (h : Steady W s₀ s) : OutSteady W s₀ (execVlsRestored t b mv s) :=
  steady_next (onEvent_steady h vlsBack_steady)

theorem execLswSet_steady {x : Ctx} {mask on duty phase : Nat} (h : Steady W s₀ s) :
    OutSteady W s₀ (execLswSet x mask on duty phase s) := by
  unfold execLswSet
  refine steady_next (command_steady h (fun h₁ => ?_))
  extract_lets _ _ _ x₁ s₂
  clear_value x₁
  have h₂ : Steady W s₀ s₂ := by
    unfold s₂
    refine steady_forEach (fun h₂ => ?_) h₁
    extract_lets s₃ s₄ s₅
    have h₃ : Steady W s₀ s₃ := steady_ite h₂ (wr_steady h₂ rfl)
    have h₄ : Steady W s₀ s₄ := steady_ite h₃ (wr_steady h₃ rfl)
    have h₅ : Steady W s₀ s₅ := wr_steady (wr_steady (wr_steady h₄ rfl) rfl) rfl
    exact steady_ite (steady_ite h₅ (turnOn_steady h₅)) (steady_ite h₄ (turnOff_steady h₄))
  refine steady_ite (complete_steady h₁) ?_
  split
  · exact complete_steady h₁
  · exact complete_steady h₁
  · exact complete_steady h₂

theorem execLswClear_steady {x : Ctx} {mask : Nat} (h : Steady W s₀ s) : OutSteady W s₀ (execLswClear x mask s) :=
  steady_next (command_steady h (fun h₁ => steady_ite (complete_steady h₁) (complete_steady (steady_forEach (fun h₂ =>
    wr_steady (wr_steady (wr_steady (turnOff_steady h₂) rfl) rfl) rfl) h₁))))

theorem execLswQuery_steady {x : Ctx} {n : Nat} (h : Steady W s₀ s) : OutSteady W s₀ (execLswQuery x n s) :=
  steady_next (command_steady h (fun h₁ => steady_ite (complete_steady h₁) (complete_steady h₁)))

theorem execLswConfig_steady {x : Ctx} {n cfg pwm : Nat} (h : Steady W s₀ s) :
    OutSteady W s₀ (execLswConfig x n cfg pwm s) :=
  steady_next (command_steady h (fun h₁ => steady_ite (complete_steady h₁) (steady_ite (complete_steady h₁)
    (complete_steady (steady_forEach_fld id (by decide) (fun hF hx => wrSave_steady hx hF)
    (steady_forEach_fld id (by decide) (fun hF hx => wrSave_steady hx hF) h₁))))))

theorem execLswBankPwm_steady {x : Ctx} {b hz : Nat} (h : Steady W s₀ s) : OutSteady W s₀ (execLswBankPwm x b hz s) :=
  steady_next (command_steady h (fun h₁ => steady_ite (complete_steady h₁) (complete_steady (wrSave_steady h₁ rfl))))

/-! ### Met (Sys2Proof/Machine/Met.lean) -/

theorem execMetWindowEnd_steady {t m : Nat} (h : Steady W s₀ s) : OutSteady W s₀ (execMetWindowEnd t m s) := by
  unfold execMetWindowEnd
  refine steady_next (onCore_steady h (fun h₁ => ?_))
  split
  · exact steady_ite (windowEnd_steady h₁) h₁
  · exact h₁

theorem execDemandSecondRecord_steady {t m : Nat} (h : Steady W s₀ s) : OutSteady W s₀ (execDemandSecondRecord t m s) :=
  steady_next (onCore_steady h (fun h₁ => steady_ite (secondRecord_steady h₁) h₁))

theorem execPqHalfCycle_steady {t m : Nat} (h : Steady W s₀ s) : OutSteady W s₀ (execPqHalfCycle t m s) := by
  unfold execPqHalfCycle
  refine steady_next (onCore_steady h (fun h₁ => steady_ite h₁ ?_))
  extract_lets _ _ s₂
  have h₂ : Steady W s₀ s₂ := modMp_steady h₁
  split
  · exact steady_ite h₂ (pqHalf_steady h₂)
  · exact h₁

theorem execPulseStart_steady {t k : Nat} (h : Steady W s₀ s) : OutSteady W s₀ (execPulseStart t k s) := by
  unfold execPulseStart
  refine steady_next (onCore_steady h (fun h₁ => ?_))
  extract_lets
  split
  · exact steady_ite (backlog_steady (steady_upd h₁)) h₁
  · exact h₁

theorem execPulseEnd_steady {t k : Nat} (h : Steady W s₀ s) : OutSteady W s₀ (execPulseEnd t k s) :=
  steady_next (onCore_steady h (fun h₁ => steady_ite (backlog_steady (steady_upd h₁)) h₁))

theorem execTcRead_steady {t : Nat} {temp : Int} (h : Steady W s₀ s) : OutSteady W s₀ (execTcRead t temp s) :=
  steady_next (onCore_steady h (fun h₁ => steady_ite h₁ (steady_ite (steady_upd h₁) (steady_ite (steady_upd h₁)
    (steady_ite (compensateGroups_steady (steady_upd h₁)) (raise_steady (wrInt_steady (compensateGroups_steady
    (steady_upd h₁)) rfl)))))))

theorem execMetSessionCloseFinal_steady {t m : Nat} (h : Steady W s₀ s) :
    OutSteady W s₀ (execMetSessionCloseFinal t m s) :=
  steady_next (onCore_steady h (fun h₁ => steady_ite (closeFinal_steady h₁) h₁))

theorem execMetCalMeasureDone_steady {t m : Nat} (h : Steady W s₀ s) :
    OutSteady W s₀ (execMetCalMeasureDone t m s) := by
  unfold execMetCalMeasureDone
  refine steady_next (onCore_steady h (fun h₁ => ?_))
  split
  · exact h₁
  · exact steady_ite h₁ (steady_ite (finalise_steady (steady_upd h₁)) (finalise_steady (steady_forEach (fun h₂ =>
      raise_steady (steady_upd h₂)) (steady_upd h₁))))

theorem execMetQuery_steady {x : Ctx} {m : Nat} (h : Steady W s₀ s) : OutSteady W s₀ (execMetQuery x m s) :=
  steady_next (command_steady h (fun h₁ => steady_ite (complete_steady h₁) (complete_steady h₁)))

theorem execMetSessionOpen_steady {x : Ctx} {m sess : Nat} (h : Steady W s₀ s) :
    OutSteady W s₀ (execMetSessionOpen x m sess s) := by
  unfold execMetSessionOpen
  refine steady_next (command_steady h (fun h₁ => ?_))
  split
  · exact complete_steady h₁
  · exact complete_steady (metOpen_steady h₁)

theorem execMetSessionClose_steady {x : Ctx} {m : Nat} (h : Steady W s₀ s) :
    OutSteady W s₀ (execMetSessionClose x m s) := by
  unfold execMetSessionClose
  refine steady_next (command_steady h (fun h₁ => ?_))
  split
  · exact complete_steady h₁
  · exact complete_steady (metClose_steady h₁)

theorem execMetCalMeasure_steady {x : Ctx} {m phases secs : Nat} (h : Steady W s₀ s) :
    OutSteady W s₀ (execMetCalMeasure x m phases secs s) :=
  steady_next (command_steady h (fun h₁ => steady_ite (complete_steady h₁) (steady_ite (complete_steady h₁)
    (steady_ite (complete_steady h₁) (complete_steady (steady_upd h₁))))))

theorem execMetCalApply_steady {x : Ctx} {m ph uRef iRef : Nat} {angleRef : Int} {mask : Nat} (h : Steady W s₀ s) :
    OutSteady W s₀ (execMetCalApply x m ph uRef iRef angleRef mask s) := by
  unfold execMetCalApply
  refine steady_next ?_
  refine command_steady h (fun h₁ => steady_ite (complete_steady h₁) (steady_ite (complete_steady h₁) ?_))
  split
  · exact complete_steady h₁
  · extract_lets
    refine steady_ite (complete_steady h₁) (steady_ite (complete_steady h₁) (steady_ite (complete_steady h₁) ?_))
    split
    · exact complete_steady h₁
    · exact applyCal_steady h₁

theorem execMetPulseCfg_steady {x : Ctx} {k image : Nat} (h : Steady W s₀ s) :
    OutSteady W s₀ (execMetPulseCfg x k image s) :=
  steady_next (command_steady h (fun h₁ => steady_ite (complete_steady h₁) (steady_ite (complete_steady h₁)
    (steady_ite (complete_steady h₁) (complete_steady (calNote_steady (pulseReset_steady (writeFields_steady
    (by decide) h₁))))))))

theorem execMetHarmRead_steady {x : Ctx} {m ph groups : Nat} (h : Steady W s₀ s) :
    OutSteady W s₀ (execMetHarmRead x m ph groups s) :=
  steady_next (command_steady h (fun h₁ => steady_ite (complete_steady h₁) (complete_steady (giveBuffer_steady h₁))))

theorem execMetWaveCapture_steady {x : Ctx} {mask samples : Nat} (h : Steady W s₀ s) :
    OutSteady W s₀ (execMetWaveCapture x mask samples s) :=
  steady_next (command_steady h (fun h₁ => steady_ite (complete_steady h₁) (complete_steady (steady_forEach (fun h₂ =>
    setWave_steady (setWaveRecs_steady h₂)) h₁))))

theorem execMetWaveStop_steady {x : Ctx} {mask : Nat} (h : Steady W s₀ s) : OutSteady W s₀ (execMetWaveStop x mask s) :=
  steady_next (command_steady h (fun h₁ => steady_ite (complete_steady h₁) (complete_steady (steady_forEach (fun h₂ =>
    setWaveRecs_steady (setWave_steady (waveBlock_steady h₂))) h₁))))

/-! ### Outlet (Sys2Proof/Machine/Outlet.lean) -/

theorem execPilotStateAccept_steady {t n : Nat} (h : Steady W s₀ s) : OutSteady W s₀ (execPilotStateAccept t n s) := by
  unfold execPilotStateAccept
  refine steady_next (onEvent_steady h (fun h₁ => ?_))
  extract_lets
  split
  · exact steady_ite (acceptPilot_steady h₁) h₁
  · exact h₁

theorem execPilotDiodeFault_steady {t n : Nat} (h : Steady W s₀ s) : OutSteady W s₀ (execPilotDiodeFault t n s) :=
  steady_next (onEvent_steady h (fun h₁ => steady_ite (steady_ite (faultSession_steady (modOutlet_steady (wr_steady
    h₁ rfl))) (modOutlet_steady (wr_steady h₁ rfl))) h₁))

theorem execPilotPwmPeriod_steady {t n : Nat} {high low : Int} (h : Steady W s₀ s) :
    OutSteady W s₀ (execPilotPwmPeriod t n high low s) := by
  unfold execPilotPwmPeriod
  refine steady_next (onEvent_steady h (fun h₁ => steady_ite h₁ ?_))
  extract_lets s₂ _ s₃
  have h₂ : Steady W s₀ s₂ := modOutlet_steady (judgePeriod_steady h₁)
  have h₃ : Steady W s₀ s₃ := steady_ite h₂ (steady_upd h₂)
  split
  · exact steady_ite (modOutlet_steady h₃) (setOut_steady h₃)
  · exact h₃

theorem execProximityRead_steady {t n ohms : Nat} (h : Steady W s₀ s) :
    OutSteady W s₀ (execProximityRead t n ohms s) := by
  unfold execProximityRead
  refine steady_next (onEvent_steady h (fun h₁ => steady_ite h₁ ?_))
  extract_lets
  split
  extract_lets s₂ _ s₃ s₄
  have h₂ : Steady W s₀ s₂ := modOutlet_steady h₁
  have h₃ : Steady W s₀ s₃ := steady_ite (raise_steady (wr_steady h₂ rfl)) (wr_steady h₂ rfl)
  have h₄ : Steady W s₀ s₄ := steady_ite (offerW_steady h₃) h₃
  exact steady_ite (stopSession_steady h₄) (steady_ite (applyAlloc_steady h₄) h₄)

theorem execAuthTimeout_steady {t n : Nat} (h : Steady W s₀ s) : OutSteady W s₀ (execAuthTimeout t n s) := by
  unfold execAuthTimeout
  refine steady_next (onEvent_steady h (fun h₁ => ?_))
  extract_lets
  split
  · exact steady_ite (endSession_steady h₁) h₁
  · exact h₁

theorem execHlcMessage_steady {t n : Nat} {msg : HlcMsg} (h : Steady W s₀ s) :
    OutSteady W s₀ (execHlcMessage t n msg s) :=
  steady_next (onEvent_steady h (fun h₁ => steady_ite (hlcMessage_steady h₁) h₁))

theorem execHlcTimeout_steady {t n : Nat} (h : Steady W s₀ s) : OutSteady W s₀ (execHlcTimeout t n s) :=
  steady_next (onEvent_steady h (fun h₁ => steady_ite (hlcFailed_steady h₁) h₁))

theorem execPreauthTimeout_steady {t : Nat} (h : Steady W s₀ s) : OutSteady W s₀ (execPreauthTimeout t s) := by
  unfold execPreauthTimeout
  refine steady_next (onEvent_steady h (fun h₁ => ?_))
  split
  · exact steady_ite (steady_upd h₁) h₁
  · exact h₁

theorem execOutConfig_steady {x : Ctx} {n cfg dc : Nat} (h : Steady W s₀ s) :
    OutSteady W s₀ (execOutConfig x n cfg dc s) :=
  steady_next (command_steady h (fun h₁ => steady_ite (complete_steady h₁) (steady_ite (complete_steady h₁) (steady_ite
    (complete_steady h₁) (complete_steady (cfgApplied_steady (steady_forEach_fld id (by decide) (fun hF hx =>
    wrSave_steady hx hF) (steady_forEach_fld id (by decide) (fun hF hx => wrSave_steady hx hF) h₁))))))))

theorem execOutAvailability_steady {x : Ctx} {n mode : Nat} (h : Steady W s₀ s) :
    OutSteady W s₀ (execOutAvailability x n mode s) :=
  steady_next (command_steady h (fun h₁ => steady_ite (complete_steady h₁) (steady_ite (steady_ite (complete_steady
    h₁) (steady_ite (complete_steady (cableRebind_steady h₁)) (complete_steady (steady_ite (setSess_steady
    (offer_steady (cableRebind_steady (modOutlet_steady h₁)))) (modOutlet_steady h₁))))) (complete_steady (steady_ite
    (steady_ite (stopSession_steady (modOutlet_steady h₁)) (steady_ite (endOrWait_steady (caskSafety_steady
    (modOutlet_steady h₁))) (modOutlet_steady h₁))) (steady_ite (steady_ite (stopHosted_steady (caskSafety_steady
    (modOutlet_steady h₁))) (modOutlet_steady h₁)) (steady_ite (setSess_steady (offer_steady (modOutlet_steady h₁)))
    (modOutlet_steady h₁))))))))

theorem execSessionAuthorise_steady {x : Ctx} {n kind : Nat} {ident : List Byte} (h : Steady W s₀ s) :
    OutSteady W s₀ (execSessionAuthorise x n kind ident s) :=
  steady_next (command_steady h (fun h₁ => steady_ite (complete_steady h₁) (steady_ite (steady_ite (complete_steady
    h₁) (complete_steady (steady_upd h₁))) (steady_ite (complete_steady h₁) (steady_ite (complete_steady h₁)
    (steady_ite (complete_steady h₁) (complete_steady (authorise_steady h₁))))))))

theorem execSessionStop_steady {x : Ctx} {mask peer : Nat} (h : Steady W s₀ s) :
    OutSteady W s₀ (execSessionStop x mask peer s) :=
  steady_next (command_steady h (fun h₁ => steady_ite (forwardStop_steady h₁) (complete_steady (sessionStop_steady
    h₁))))

theorem execOutErem_steady {x : Ctx} {mask peer : Nat} (h : Steady W s₀ s) :
    OutSteady W s₀ (execOutErem x mask peer s) :=
  steady_next (command_steady h (fun h₁ => steady_ite (forwardStop_steady h₁) (complete_steady (outErem_steady h₁))))

theorem execOutSiteLimit_steady {x : Ctx} {watts : Nat} (h : Steady W s₀ s) :
    OutSteady W s₀ (execOutSiteLimit x watts s) :=
  steady_next (command_steady h (fun h₁ => steady_ite (complete_steady h₁) (complete_steady (wrSave_steady h₁ rfl))))

theorem execSessionSetClass_steady {x : Ctx} {n cls : Nat} (h : Steady W s₀ s) :
    OutSteady W s₀ (execSessionSetClass x n cls s) :=
  steady_next (command_steady h (fun h₁ => steady_ite (complete_steady h₁) (steady_ite (complete_steady h₁)
    (complete_steady (modOutlet_steady h₁)))))

theorem execSessionQuery_steady {x : Ctx} {n : Nat} (h : Steady W s₀ s) : OutSteady W s₀ (execSessionQuery x n s) :=
  steady_next (command_steady h (fun h₁ => steady_ite (complete_steady h₁) (complete_steady h₁)))

theorem execOutSelect_steady {x : Ctx} {n : Nat} (h : Steady W s₀ s) : OutSteady W s₀ (execOutSelect x n s) := by
  unfold execOutSelect
  refine steady_next (command_steady h (fun h₁ => ?_))
  split
  · exact complete_steady h₁
  · exact steady_ite (complete_steady h₁) (steady_ite (complete_steady h₁) (steady_ite (complete_steady
      (authoriseCard_steady (steady_upd h₁))) (complete_steady (steady_upd h₁))))

theorem execOutContactor_steady {x : Ctx} {n : Nat} {close : Bool} (h : Steady W s₀ s) :
    OutSteady W s₀ (execOutContactor x n close s) :=
  steady_next (command_steady h (fun h₁ => steady_ite (complete_steady h₁) (steady_ite (complete_steady h₁)
    (steady_ite (complete_steady (openOutlet_steady (dropClose_steady h₁))) (steady_ite (complete_steady h₁)
    (modOutlet_steady (testSensor_steady h₁)))))))

theorem execOutPilotDuty_steady {x : Ctx} {n duty : Nat} (h : Steady W s₀ s) :
    OutSteady W s₀ (execOutPilotDuty x n duty s) := by
  unfold execOutPilotDuty
  refine steady_next ?_
  refine command_steady h (fun h₁ => steady_ite (complete_steady h₁) (steady_ite (complete_steady h₁) ?_))
  split
  · exact complete_steady (raise_steady h₁)
  · exact complete_steady (offer_steady h₁)

theorem execOutPmSetpoint_steady {x : Ctx} {n mode volts amps watts : Nat} (h : Steady W s₀ s) :
    OutSteady W s₀ (execOutPmSetpoint x n mode volts amps watts s) := by
  unfold execOutPmSetpoint
  refine steady_next ?_
  refine command_steady h (fun h₁ => steady_ite (complete_steady h₁) (steady_ite (complete_steady h₁) ?_))
  split
  · exact complete_steady (raise_steady h₁)
  · exact complete_steady (stageSet_steady h₁)

theorem execOutCertResponse_steady {x : Ctx} {n : Nat} {valid : Bool} {data : List Byte} (h : Steady W s₀ s) :
    OutSteady W s₀ (execOutCertResponse x n valid data s) :=
  steady_next (command_steady h (fun h₁ => steady_ite (complete_steady h₁) (steady_ite (complete_steady (raise_steady
    h₁)) (steady_ite (complete_steady h₁) (complete_steady (modOutlet_steady h₁))))))

/-! ### Safe (Sys2Proof/Machine/Safe.lean) -/

theorem execHslCycle_steady {t : Nat} {levels : List Int} {mirrors : Nat} (h : Steady W s₀ s) :
    OutSteady W s₀ (execHslCycle t levels mirrors s) :=
  steady_next (onCore_steady h (fun h₁ => steady_ite h₁ (formBeat_steady (steady_forEach followHigh_steady
    (steady_forEach pilotB_steady (steady_forEach (fun h₂ => steady_ite h₂ (rcmUpdate_steady h₂))
    (sampleMirrors_steady (steady_upd h₁))))))))

theorem execHslTableCheck_steady {t : Nat} {crcOk : Bool} (h : Steady W s₀ s) :
    OutSteady W s₀ (execHslTableCheck t crcOk s) :=
  steady_next (onCore_steady h (fun h₁ => steady_ite h₁ (steady_ite (refreshSafeOk_steady (setFlag_steady (steady_upd
    h₁) rfl)) (moduleTrip_steady (setFlag_steady (steady_upd h₁) rfl)))))

theorem execHslWatchdogExpiry_steady {t : Nat} (h : Steady W s₀ s) : OutSteady W s₀ (execHslWatchdogExpiry t s) :=
  steady_next (onCore_steady h (fun h₁ => steady_ite (moduleTrip_steady (setFlag_steady h₁ rfl)) h₁))

theorem execBHeartbeat_steady {t : Nat} {b : Beat} (h : Steady W s₀ s) : OutSteady W s₀ (execBHeartbeat t b s) :=
  steady_next (onCore_steady h (fun h₁ => steady_ite (refreshSafeOk_steady (setFlag_steady (steady_upd h₁) rfl)) h₁))

theorem execBHeartbeatLoss_steady {t : Nat} (h : Steady W s₀ s) : OutSteady W s₀ (execBHeartbeatLoss t s) :=
  steady_next (onCore_steady h (fun h₁ => steady_ite (moduleTrip_steady (setFlag_steady h₁ rfl)) h₁))

theorem execChannelDiscrepancy_steady {t code n chan : Nat} {reading : Int} {since : Nat} (h : Steady W s₀ s) :
    OutSteady W s₀ (execChannelDiscrepancy t code n chan reading since s) := by
  unfold execChannelDiscrepancy
  refine steady_next (onCore_steady h (fun h₁ => ?_))
  split
  · exact h₁
  · exact steady_ite (moduleTrip_steady (steady_upd h₁)) h₁

theorem execSafetySelftestDone_steady {t : Nat} (h : Steady W s₀ s) : OutSteady W s₀ (execSafetySelftestDone t s) :=
  steady_next (onEvent_steady h (fun h₁ => steady_ite (refreshSafeOk_steady (setFlag_steady h₁ rfl)) h₁))

theorem execEstopSourcePulse_steady {t : Nat} {srcB ownFollows otherFollows : Bool} (h : Steady W s₀ s) :
    OutSteady W s₀ (execEstopSourcePulse t srcB ownFollows otherFollows s) :=
  steady_next (onCore_steady h (fun h₁ => steady_ite h₁ (steady_ite (steady_upd h₁) (moduleTrip_steady (steady_upd
    h₁)))))

theorem execEstopOpen_steady {t : Nat} {inputB : Bool} {us : Nat} (h : Steady W s₀ s) :
    OutSteady W s₀ (execEstopOpen t inputB us s) :=
  steady_next (onCore_steady h (fun h₁ => steady_ite h₁ (moduleTrip_steady (steady_upd h₁))))

theorem execEstopDisc_steady {t : Nat} (h : Steady W s₀ s) : OutSteady W s₀ (execEstopDisc t s) :=
  steady_next (onCore_steady h (fun h₁ => steady_ite (moduleTrip_steady h₁) h₁))

theorem execSafeInChange_steady {t m : Nat} {closed : Bool} {ms : Nat} (h : Steady W s₀ s) :
    OutSteady W s₀ (execSafeInChange t m closed ms s) :=
  steady_next (onCore_steady h (fun h₁ => steady_ite h₁ (safeInLevel_steady h₁)))

theorem execImdResult_steady {t kohm : Nat} (h : Steady W s₀ s) : OutSteady W s₀ (execImdResult t kohm s) :=
  steady_next (onCore_steady h (fun h₁ => steady_ite (imdResult_steady h₁) h₁))

theorem execCableCheckTimeout_steady {t n : Nat} (h : Steady W s₀ s) :
    OutSteady W s₀ (execCableCheckTimeout t n s) := by
  unfold execCableCheckTimeout
  refine steady_next (onEvent_steady h (fun h₁ => ?_))
  split
  · exact steady_ite (cableFailed_steady h₁) h₁
  · exact h₁

theorem execSafeStatePilotEnd_steady {t n : Nat} (h : Steady W s₀ s) :
    OutSteady W s₀ (execSafeStatePilotEnd t n s) := by
  unfold execSafeStatePilotEnd
  refine steady_next (onEvent_steady h (fun h₁ => ?_))
  split
  · exact steady_ite (steady_ite (modOs_steady h₁) (offer_steady (modOs_steady h₁))) h₁
  · exact h₁

theorem execResetSafeEdge_steady {t lowUs : Nat} {aOpen bOpen : Bool} (h : Steady W s₀ s) :
    OutSteady W s₀ (execResetSafeEdge t lowUs aOpen bOpen s) :=
  steady_next (onCore_steady h (fun h₁ => steady_ite h₁ (resetSafe_steady (steady_upd h₁))))

theorem execSafeQuery_steady {x : Ctx} (h : Steady W s₀ s) : OutSteady W s₀ (execSafeQuery x s) :=
  steady_next (command_steady h complete_steady)

theorem execSafeTestNow_steady {x : Ctx} {mask : Nat} (h : Steady W s₀ s) : OutSteady W s₀ (execSafeTestNow x mask s) :=
  steady_next (command_steady h (fun h₁ => complete_steady (steady_forEach modCoil_steady h₁)))

theorem execImdMeasure_steady {x : Ctx} {n kohm : Nat} (h : Steady W s₀ s) :
    OutSteady W s₀ (execImdMeasure x n kohm s) :=
  steady_next (command_steady h (fun h₁ => steady_ite (complete_steady h₁) (complete_steady (imdResult_steady h₁))))

/-! ### Power (Sys2Proof/Machine/Power.lean) -/

theorem execVfail_steady {t mv : Nat} {feed : List Feed} (h : Steady W s₀ s) : OutSteady W s₀ (execVfail t mv feed s) :=
  steady_next (onEvent_steady h (fun h₁ => steady_ite h₁ (lastPour_steady h₁)))

theorem execVinReturn_steady {t mv : Nat} (h : Steady W s₀ s) : OutSteady W s₀ (execVinReturn t mv s) :=
  steady_next (steady_ite (segRecover_steady (pourReturn_steady (advance_steady h))) h)

theorem execConverterRailFall_steady {t : Nat} (h : Steady W s₀ s) : OutSteady W s₀ (execConverterRailFall t s) :=
  steady_next (steady_ite (railFall_steady (advance_steady h)) h)

theorem execVinValid_steady {t mv ms : Nat} (h : Steady W s₀ s) : OutSteady W s₀ (execVinValid t mv ms s) := by
  unfold execVinValid
  refine steady_next (steady_ite h ?_)
  split
  · exact steady_upd h
  · exact steady_upd h
  · exact h

theorem execEarlyVinLoss_steady {t : Nat} (h : Steady W s₀ s) : OutSteady W s₀ (execEarlyVinLoss t s) :=
  steady_next (steady_ite (steady_upd h) h)

theorem execRailOutOfLimits_steady {t r : Nat} {ov : Bool} {mv : Int} {us : Nat} {feed : List Feed} {whole : Bool} (h
    : Steady W s₀ s) :
    OutSteady W s₀ (execRailOutOfLimits t r ov mv us feed whole s) :=
  steady_next (steady_ite h (steady_ite (steady_ite (steady_upd (loseClock_steady h)) h) (onCore_steady h
    railFails_steady)))

theorem execRailRestored_steady {t r : Nat} {mv : Int} {us : Nat} (h : Steady W s₀ s) :
    OutSteady W s₀ (execRailRestored t r mv us s) :=
  steady_next (steady_ite h (onCore_steady h railBack_steady))

theorem execTempLevelChange_steady {t k : Nat} {celsius : Int} (h : Steady W s₀ s) :
    OutSteady W s₀ (execTempLevelChange t k celsius s) :=
  steady_next (onEvent_steady h (fun h₁ => steady_ite (serveNext_steady (tempTaken_steady h₁)) (tempTaken_steady h₁)))

theorem execProcMonSample_steady {t : Nat} {codes : List Nat} (h : Steady W s₀ s) :
    OutSteady W s₀ (execProcMonSample t codes s) :=
  steady_next (onEvent_steady h (fun h₁ => steady_ite h₁ (steady_forEach (fun h₂ => steady_ite (raise_steady
    (steady_upd (wr_steady h₂ rfl))) (wr_steady h₂ rfl)) (steady_upd h₁))))

theorem execTamperInput_steady {t k : Nat} {closed : Bool} {samples : Nat} (h : Steady W s₀ s) :
    OutSteady W s₀ (execTamperInput t k closed samples s) := by
  unfold execTamperInput
  refine steady_next ?_
  extract_lets _ s₁ s₂
  have h₁ : Steady W s₀ s₁ := raise_steady (setFlag_steady (advance_steady h) rfl)
  have h₂ : Steady W s₀ s₂ := setFlag_steady h rfl
  exact steady_ite h (steady_ite (steady_ite (tamper_steady h₁) h₁) (steady_ite (incSat_steady h₂ rfl) h₂))

theorem execXtal32Fail_steady {t : Nat} (h : Steady W s₀ s) : OutSteady W s₀ (execXtal32Fail t s) :=
  steady_next (steady_ite (loseClock_steady h) (onCore_steady h (fun h₁ => steady_ite h₁ (raise_steady (incSat_steady
    (wr_steady (wr_steady h₁ rfl) rfl) rfl)))))

theorem execXtal32Return_steady {t : Nat} (h : Steady W s₀ s) : OutSteady W s₀ (execXtal32Return t s) :=
  steady_next (onCore_steady h (fun h₁ => steady_ite h₁ (raise_steady (wr_steady (wr_steady h₁ rfl) rfl))))

theorem execXtal49Fail_steady {t : Nat} (h : Steady W s₀ s) : OutSteady W s₀ (execXtal49Fail t s) :=
  steady_next (onCore_steady h (fun h₁ => steady_ite h₁ (tamper_steady (raise_steady (steady_upd (incSat_steady
    (wr_steady (wr_steady h₁ rfl) rfl) rfl))))))

theorem execXtal49Return_steady {t : Nat} (h : Steady W s₀ s) : OutSteady W s₀ (execXtal49Return t s) :=
  steady_next (onCore_steady h (fun h₁ => steady_ite h₁ (raise_steady (wr_steady (wr_steady h₁ rfl) rfl))))

theorem execXtal25Fail_steady {t : Nat} {feed : List Feed} (h : Steady W s₀ s) :
    OutSteady W s₀ (execXtal25Fail t feed s) :=
  steady_next (onCore_steady h (fun h₁ => failRestart_steady (moduleTrip_steady (setFlag_steady (raise_steady
    (wr_steady h₁ rfl)) rfl))))

theorem execRefclkReturn_steady {t : Nat} (h : Steady W s₀ s) : OutSteady W s₀ (execRefclkReturn t s) :=
  steady_next (onEvent_steady h (fun h₁ => steady_ite h₁ (raise_steady (wr_steady h₁ rfl))))

theorem execMeterWake_steady {t cause : Nat} (h : Steady W s₀ s) : OutSteady W s₀ (execMeterWake t cause s) :=
  steady_next (onEvent_steady h (fun h₁ => steady_ite (plcFollowAll_steady (wakeRun_steady h₁)) h₁))

theorem execPwrQuery_steady {x : Ctx} (h : Steady W s₀ s) : OutSteady W s₀ (execPwrQuery x s) :=
  steady_next (command_steady h complete_steady)

theorem execPwrMode_steady {x : Ctx} {mode : Nat} (h : Steady W s₀ s) : OutSteady W s₀ (execPwrMode x mode s) :=
  steady_next (command_steady h (fun h₁ => steady_ite (complete_steady h₁) (steady_ite (complete_steady
    (plcFollowAll_steady (wakeRun_steady h₁))) (steady_ite (complete_steady h₁) (steady_ite (complete_steady h₁)
    (complete_steady (enterMeter_steady h₁)))))))

theorem execPwrIdent_steady {x : Ctx} (h : Steady W s₀ s) : OutSteady W s₀ (execPwrIdent x s) :=
  steady_next (command_steady h (fun h₁ => complete_steady (giveBuffer_steady h₁)))

/-! ### Rcm (Sys2Proof/Machine/Rcm.lean) -/

theorem execRcmReading_steady {t i : Nat} {value : Int} (h : Steady W s₀ s) :
    OutSteady W s₀ (execRcmReading t i value s) :=
  steady_next (onCore_steady h (fun h₁ => steady_forEach modOs_steady (steady_upd (setFlag_steady (wrInt_steady
    h₁ rfl) rfl))))

theorem execRcmSelftestRun_steady {t n : Nat} {offset : Int} {reading : Nat} (h : Steady W s₀ s) :
    OutSteady W s₀ (execRcmSelftestRun t n offset reading s) :=
  steady_next (onEvent_steady h (fun h₁ => steady_ite (rcmSelfTest_steady h₁) h₁))

theorem execRcmSensorRange_steady {t i : Nat} (h : Steady W s₀ s) : OutSteady W s₀ (execRcmSensorRange t i s) :=
  steady_next (onCore_steady h (fun h₁ => steady_ite (steady_forEach sensorTrip_steady h₁) h₁))

theorem execRcmPrewarn_steady {t n : Nat} (h : Steady W s₀ s) : OutSteady W s₀ (execRcmPrewarn t n s) := by
  unfold execRcmPrewarn
  refine steady_next (onEvent_steady h (fun h₁ => ?_))
  split
  · exact steady_ite (raise_steady (modOs_steady h₁)) h₁
  · exact h₁

theorem execRcmSelftest_steady {x : Ctx} {n : Nat} {offset : Int} {reading : Nat} (h : Steady W s₀ s) :
    OutSteady W s₀ (execRcmSelftest x n offset reading s) :=
  steady_next (command_steady h (fun h₁ => steady_ite (complete_steady h₁) (steady_ite (complete_steady h₁)
    (complete_steady (rcmSelfTest_steady h₁)))))

/-! ### RegMap (Sys2Proof/Machine/RegMap.lean) -/

theorem execLatchingRead_steady {t off : Nat} {wide bar4 : Bool} (h : Steady W s₀ s) :
    OutSteady W s₀ (execLatchingRead t off wide bar4 s) :=
  steady_next (onEvent_steady h (fun h₁ => steady_ite (msixRead_steady h₁) (barRead_steady h₁)))

theorem execRegisterWrite_steady {t off value : Nat} {wide part bar4 : Bool} (hL : R.GLOBAL_SETUP_LOCK_LOCK ∉ W)
    (h : Steady W s₀ s) : OutSteady W s₀ (execRegisterWrite t off value wide part bar4 s) :=
  steady_next (onEvent_steady h (fun h₁ => steady_ite (msixWrite_steady h₁) (barWrite_steady hL h₁)))

theorem execAlertWrite_steady {t mask : Nat} (h : Steady W s₀ s) : OutSteady W s₀ (execAlertWrite t mask s) :=
  steady_next (onEvent_steady h alertWrite_steady)

theorem execSetupLock_steady {t : Nat} (hL : R.GLOBAL_SETUP_LOCK_LOCK ∉ W) (h : Steady W s₀ s) :
    OutSteady W s₀ (execSetupLock t s) :=
  steady_next (onEvent_steady h (lockSetup_steady hL))

theorem execSettingsSaved_steady {t : Nat} (h : Steady W s₀ s) : OutSteady W s₀ (execSettingsSaved t s) :=
  steady_next (onEvent_steady h settingsSaved_steady)

theorem execRegWrite_steady {x : Ctx} {off value mask : Nat} (h : Steady W s₀ s) :
    OutSteady W s₀ (execRegWrite x off value mask s) :=
  steady_next (command_steady h (fun h₁ => complete_steady (regWrite_steady h₁)))

/-! ### Slac (Sys2Proof/Machine/Slac.lean) -/

theorem execSlacParmReq_steady {t run : Nat} {pilots : List Nat} (h : Steady W s₀ s) :
    OutSteady W s₀ (execSlacParmReq t run pilots s) := by
  unfold execSlacParmReq
  refine steady_next (onEvent_steady h (fun h₁ => ?_))
  extract_lets _ s₂
  have h₂ : Steady W s₀ s₂ := steady_forEach modOutlet_steady h₁
  refine steady_ite h₁ ?_
  split
  · exact steady_ite (putSlac_steady h₂) h₂
  · exact putSlac_steady h₂

theorem execStartAttenChar_steady {t run : Nat} (h : Steady W s₀ s) : OutSteady W s₀ (execStartAttenChar t run s) := by
  unfold execStartAttenChar
  refine steady_next (onEvent_steady h (fun h₁ => ?_))
  split
  · exact steady_ite (putSlac_steady h₁) h₁
  · exact h₁

theorem execMnbcSound_steady {t run : Nat} {meas : List (Nat × List Nat)} (h : Steady W s₀ s) :
    OutSteady W s₀ (execMnbcSound t run meas s) := by
  unfold execMnbcSound
  refine steady_next (onEvent_steady h (fun h₁ => ?_))
  split
  · exact steady_ite (putSlac_steady h₁) h₁
  · exact h₁

theorem execSlacWindowClose_steady {t : Nat} (h : Steady W s₀ s) : OutSteady W s₀ (execSlacWindowClose t s) :=
  steady_next (onEvent_steady h slacClose_steady)

theorem execSlacValidate_steady {t run announced : Nat} {counted : List (Nat × Nat)} (h : Steady W s₀ s) :
    OutSteady W s₀ (execSlacValidate t run announced counted s) := by
  unfold execSlacValidate
  refine steady_next (onEvent_steady h (fun h₁ => ?_))
  split
  · exact steady_ite h₁ (putSlac_steady h₁)
  · exact h₁

theorem execSlacMatchReq_steady {t run pilot : Nat} (h : Steady W s₀ s) :
    OutSteady W s₀ (execSlacMatchReq t run pilot s) := by
  unfold execSlacMatchReq
  refine steady_next (onEvent_steady h (fun h₁ => ?_))
  split
  · refine steady_ite ?_ h₁
    split
    rename_i hp
    exact setSess_steady (raise_steady (modOutlet_steady (dropSlac_steady (takeFree_steady (steady_snd hp
      (drbgNext_steady h₁))))))
  · exact h₁

theorem execSlacMatchTimeout_steady {t run : Nat} (h : Steady W s₀ s) :
    OutSteady W s₀ (execSlacMatchTimeout t run s) := by
  unfold execSlacMatchTimeout
  refine steady_next (onEvent_steady h (fun h₁ => ?_))
  split
  · exact steady_ite h₁ (steady_forEach slacFail_steady (dropSlac_steady h₁))
  · exact h₁

theorem execSlacInitTimeout_steady {t n : Nat} (h : Steady W s₀ s) : OutSteady W s₀ (execSlacInitTimeout t n s) := by
  unfold execSlacInitTimeout
  refine steady_next (onEvent_steady h (fun h₁ => ?_))
  split
  · exact steady_ite (slacFail_steady h₁) h₁
  · exact h₁

/-! ### Start (Sys2Proof/Machine/Start.lean) -/

theorem execStartUp_steady {t : Nat} {boot : BootIn} (hW : ∀ F ∈ watchedFields, F ∉ W) (h : Steady W s₀ s) :
    OutSteady W s₀ (execStartUp t boot s) :=
  steady_next (steady_ite (startUp_steady hW (advance_steady h)) h)

theorem execRecordSign_steady {t : Nat} (h : Steady W s₀ s) : OutSteady W s₀ (execRecordSign t s) :=
  steady_next (onCore_steady h (fun h₁ => steady_ite (hostReady_steady (signOldest_steady h₁)) (signOldest_steady
    h₁)))

theorem execPufRetry_steady {t : Nat} {ber : Option Nat} (h : Steady W s₀ s) : OutSteady W s₀ (execPufRetry t ber s) :=
  steady_next (onEvent_steady h (fun h₁ => steady_ite (hostReady_steady (recoveryOutlets_steady (regenerate_steady
    h₁))) h₁))

/-! ### Tag (Sys2Proof/Machine/Tag.lean) -/

theorem execRdr0Poll_steady {t : Nat} {cardsA cardsB cards15 : List (List Byte)} {authOk : Bool} {rxErr : Nat} (h :
    Steady W s₀ s) :
    OutSteady W s₀ (execRdr0Poll t cardsA cardsB cards15 authOk rxErr s) := by
  unfold execRdr0Poll
  refine steady_next (onEvent_steady h (fun h₁ => steady_ite h₁ ?_))
  extract_lets _ _ s₂ _ _ s₃ _ s₄
  have h₂ : Steady W s₀ s₂ := addSat_steady (steady_upd h₁) rfl
  have h₃ : Steady W s₀ s₃ := steady_ite (walkLimit_steady h₂) h₂
  have h₄ : Steady W s₀ s₄ := steady_ite (walkLimit_steady h₃) h₃
  exact steady_ite (pollFound_steady (cardsSeen_steady h₃)) (steady_ite (pollFound_steady (cardsSeen_steady h₃))
    (steady_ite (pollFound_steady (cardsSeen_steady h₄)) (cardsSeen_steady h₄)))

theorem execCableRead_steady {t : Nat} {tag : Option CableRead} (h : Steady W s₀ s) :
    OutSteady W s₀ (execCableRead t tag s) := by
  unfold execCableRead
  refine steady_next (onEvent_steady h (fun h₁ => ?_))
  split
  · exact h₁
  · refine steady_ite h₁ ?_
    extract_lets s₁ _ x₁ x₂ s₂
    clear_value x₁ x₂
    have h₁ : Steady W s₀ s₁ := nextJob_steady h₁
    have h₂ : Steady W s₀ s₂ := by
      unfold s₂
      split
      · exact raise_steady h₁
      · exact h₁
    split
    rename_i hp
    extract_lets _ _ s₃
    have h₃ : Steady W s₀ s₃ := by
      refine cableSession_steady (raise_steady (wr_steady (steady_snd hp ?_) rfl))
      split
      · exact cableBelieved_steady h₂
      · exact h₂
    exact steady_forEach finalise_steady (steady_ite h₃ (raise_steady h₃))

theorem execCableWrite_steady {t : Nat} {ok : Bool} (h : Steady W s₀ s) : OutSteady W s₀ (execCableWrite t ok s) := by
  unfold execCableWrite
  refine steady_next (onEvent_steady h (fun h₁ => ?_))
  split
  · exact h₁
  · exact steady_ite h₁ (steady_ite (lifeWrite_steady (nextJob_steady h₁)) (wr_steady (nextJob_steady h₁) rfl))

theorem execTagCableRead_steady {x : Ctx} {n : Nat} (h : Steady W s₀ s) : OutSteady W s₀ (execTagCableRead x n s) :=
  steady_next (command_steady h (fun h₁ => steady_ite (complete_steady h₁) (steady_ite (complete_steady h₁)
    (addJob_steady (complete_steady h₁)))))

theorem execTagCableInit_steady {x : Ctx} {n : Nat} {ok : Bool} (h : Steady W s₀ s) :
    OutSteady W s₀ (execTagCableInit x n ok s) :=
  steady_next (command_steady h (fun h₁ => steady_ite (complete_steady h₁) (steady_ite (complete_steady h₁)
    (steady_ite (complete_steady h₁) (steady_ite (complete_steady h₁) (complete_steady (modCable_steady h₁)))))))

theorem execTagCableRetire_steady {x : Ctx} {n : Nat} {ok : Bool} (h : Steady W s₀ s) :
    OutSteady W s₀ (execTagCableRetire x n ok s) :=
  steady_next (command_steady h (fun h₁ => steady_ite (complete_steady h₁) (steady_ite (complete_steady h₁)
    (steady_ite (complete_steady (lifeWrite_steady (setJobs_steady (shadowGo_steady (modCable_steady h₁)))))
    (complete_steady (shadowGo_steady (modCable_steady h₁)))))))

theorem execTagQuery_steady {x : Ctx} (h : Steady W s₀ s) : OutSteady W s₀ (execTagQuery x s) :=
  steady_next (command_steady h complete_steady)

theorem execOwnTagFieldOn_steady {t : Nat} (h : Steady W s₀ s) : OutSteady W s₀ (execOwnTagFieldOn t s) :=
  steady_next (onField_steady h (fun h₁ => steady_upd (wr_steady (addSat_steady (steady_forEach steady_upd h₁) rfl)
    rfl)))

theorem execOwnTagFieldLost_steady {t : Nat} (h : Steady W s₀ s) : OutSteady W s₀ (execOwnTagFieldLost t s) := by
  unfold execOwnTagFieldLost
  refine steady_next (onField_steady h (fun h₁ => steady_ite h₁ ?_))
  extract_lets _ _ s₂
  have h₂ : Steady W s₀ s₂ := steady_upd (ownReply_steady (wr_steady (ownClose_steady h₁) rfl))
  exact steady_ite (raise_steady h₂) h₂

theorem execOwnTagFieldRead_steady {t first count : Nat} (h : Steady W s₀ s) :
    OutSteady W s₀ (execOwnTagFieldRead t first count s) :=
  steady_next (onField_steady h (fun h₁ => steady_ite h₁ (steady_ite (ownReply_steady h₁) (steady_ite (ownReply_steady
    h₁) (ownReply_steady h₁)))))

theorem execOwnTagFieldWrite_steady {t first : Nat} {values : List Nat} {done : Nat} (h : Steady W s₀ s) :
    OutSteady W s₀ (execOwnTagFieldWrite t first values done s) :=
  steady_next (onField_steady h (fun h₁ => steady_ite h₁ (steady_ite (ownReply_steady h₁) (steady_ite (ownReply_steady
    h₁) (steady_ite (ownReply_steady (incSat_steady h₁ rfl)) (ownReply_steady (steady_upd (addSat_steady (steady_forEach
    ownWrite_steady (steady_forEach ownWrite_steady h₁)) rfl))))))))

theorem execPresentPwd_steady {t pwd : Nat} (h : Steady W s₀ s) : OutSteady W s₀ (execPresentPwd t pwd s) :=
  steady_next (onField_steady h (fun h₁ => steady_ite h₁ (steady_ite (ownReply_steady h₁) (steady_ite (ownReply_steady
    (steady_upd h₁)) (ownReply_steady (steady_upd h₁))))))

theorem execOwnTagMam1_steady {t : Nat} {ok : Bool} (h : Steady W s₀ s) : OutSteady W s₀ (execOwnTagMam1 t ok s) :=
  steady_next (onField_steady h (fun h₁ => steady_ite (ownReply_steady (steady_upd h₁)) h₁))

theorem execResetToReady_steady {t : Nat} (h : Steady W s₀ s) : OutSteady W s₀ (execResetToReady t s) :=
  steady_next (onField_steady h (fun h₁ => steady_ite (ownClose_steady h₁) h₁))

theorem execTagOwnRead_steady {x : Ctx} {first count : Nat} (h : Steady W s₀ s) :
    OutSteady W s₀ (execTagOwnRead x first count s) :=
  steady_next (command_steady h (fun h₁ => steady_ite (complete_steady h₁) (steady_ite (complete_steady h₁)
    (complete_steady (giveBuffer_steady h₁)))))

theorem execTagOwnWrite_steady {x : Ctx} {first : Nat} {blocks : List Nat} (h : Steady W s₀ s) :
    OutSteady W s₀ (execTagOwnWrite x first blocks s) :=
  steady_next (command_steady h (fun h₁ => steady_ite (complete_steady h₁) (steady_ite (complete_steady h₁)
    (steady_ite (complete_steady h₁) (complete_steady (ownCommit_steady (steady_upd (takeFree_steady h₁))))))))

/-! ### Trellis (Sys2Proof/Machine/Trellis.lean) -/

theorem execPlcFrameRx_steady {t i agc first : Nat} {syms : List (List Int)} {fecOk : Bool} (h : Steady W s₀ s) :
    OutSteady W s₀ (execPlcFrameRx t i agc first syms fecOk s) := by
  unfold execPlcFrameRx
  refine steady_next (onEvent_steady h (fun h₁ => steady_ite h₁ ?_))
  split
  extract_lets _ _ _ _ _ s₂ s₃
  have h₂ : Steady W s₀ s₂ := wr_steady (wr_steady (addSat_steady (addSat_steady (addSat_steady (addSat_steady
    (steady_upd h₁) rfl) rfl) rfl) rfl) rfl) rfl
  have h₃ : Steady W s₀ s₃ := steady_ite h₂ (wr_steady h₂ rfl)
  exact steady_ite (raise_steady (steady_upd h₃)) (steady_upd h₃)

theorem execSuperframeStart_steady {t : Nat} (h : Steady W s₀ s) : OutSteady W s₀ (execSuperframeStart t s) := by
  unfold execSuperframeStart
  refine steady_next (onEvent_steady h (fun h₁ => ?_))
  extract_lets _ _ _ _ s₂ s₃
  have h₂ : Steady W s₀ s₂ := steady_upd (wr_steady h₁ rfl)
  have h₃ : Steady W s₀ s₃ := steady_ite (alignNote_steady h₂) h₂
  exact steady_ite h₁ (steady_ite (transmit_steady h₃) h₃)

theorem execBeaconRx_steady {t : Nat} {h' : THdr} {stamp pos coord count : Nat} {relays : List Nat}
    (h : Steady W s₀ s) :
    OutSteady W s₀ (execBeaconRx t h' stamp pos coord count relays s) := by
  unfold execBeaconRx
  refine steady_next (onEvent_steady h (fun h₁ => receive_steady h₁ (fun h₂ => ?_)))
  extract_lets _ _ _ s₃ s₄ _ _ s₅ x₁
  clear_value x₁
  have h₃ : Steady W s₀ s₃ := steady_upd h₂
  have h₄ : Steady W s₀ s₄ := steady_ite (joinReq_steady h₃) (steady_ite (setTrx_steady h₃) h₃)
  have h₅ : Steady W s₀ s₅ := moveStart_steady (wr_steady (wr_steady h₄ rfl) rfl)
  refine steady_ite (steady_ite (joinReq_steady (raise_steady h₂)) h₂) (steady_ite (steady_upd h₄) ?_)
  split
  · exact steady_ite h₅ (transmit_steady h₅)
  · exact h₅

theorem execSyncInEdge_steady {t first : Nat} {falling : Bool} (h : Steady W s₀ s) :
    OutSteady W s₀ (execSyncInEdge t first falling s) := by
  unfold execSyncInEdge
  refine steady_next (onEvent_steady h (fun h₁ => steady_ite h₁ ?_))
  extract_lets _ _ _ _ _ _ s₂
  have h₂ : Steady W s₀ s₂ := demandSync_steady (wr_steady (wr_steady (incSat_steady (steady_upd h₁) rfl) rfl) rfl)
  exact steady_ite (incSat_steady h₁ rfl) (steady_ite h₂ (steady_ite (steady_upd h₂) (raise_steady h₂)))

theorem execTrellisTx_steady {t : Nat} (h : Steady W s₀ s) : OutSteady W s₀ (execTrellisTx t s) := by
  unfold execTrellisTx
  refine steady_next (onEvent_steady h (fun h₁ => steady_ite h₁ ?_))
  split
  · exact serveNext_steady h₁
  · exact steady_ite (serveNext_steady (frameDone_steady (transmit_steady (dequeue_steady h₁)))) (steady_ite
      (serveNext_steady (frameDone_steady (dequeue_steady h₁))) (steady_upd (transmit_steady (steady_ite
      (dequeue_steady h₁) (incSat_steady (dequeue_steady h₁) rfl)))))

theorem execAck_steady {t : Nat} {h' : THdr} {seq ctr : Nat} (h : Steady W s₀ s) :
    OutSteady W s₀ (execAck t h' seq ctr s) := by
  unfold execAck
  refine steady_next (onEvent_steady h (fun h₁ => ?_))
  split
  · exact h₁
  · exact steady_ite (serveNext_steady (frameDone_steady (linkResult_steady (hear_steady (steady_upd h₁))))) h₁

theorem execTrellisAckTimeout_steady {t : Nat} (h : Steady W s₀ s) : OutSteady W s₀ (execTrellisAckTimeout t s) := by
  unfold execTrellisAckTimeout
  refine steady_next (onEvent_steady h (fun h₁ => ?_))
  split
  · exact h₁
  · exact steady_ite h₁ (steady_ite (serveNext_steady (frameDone_steady (incSat_steady (linkResult_steady (steady_upd
      h₁)) rfl))) (setTq_steady (linkResult_steady (steady_upd h₁))))

theorem execJoinReq_steady {t : Nat} {h' : THdr} {serial caps : Nat} (h : Steady W s₀ s) :
    OutSteady W s₀ (execJoinReq t h' serial caps s) :=
  steady_next (onEvent_steady h (fun h₁ => receive_steady h₁ (fun h₂ => steady_ite h₂ (send_steady (steady_ite
    (steady_ite (raise_steady (steady_upd h₂)) (steady_upd h₂)) h₂)))))

theorem execJoinResult_steady {t : Nat} {h' : THdr} {res count : Nat} (h : Steady W s₀ s) :
    OutSteady W s₀ (execJoinResult t h' res count s) :=
  steady_next (onEvent_steady h (fun h₁ => receive_steady h₁ (fun h₂ => steady_ite h₂ (steady_ite (holdStart_steady
    (setTrx_steady h₂)) (steady_ite (setTrx_steady (wr_steady (mainsModems_steady (cancelFrames_steady h₂)) rfl))
    (steady_upd h₂))))))

theorem execLqReport_steady {t : Nat} {h' : THdr} {entries : List (Nat × Nat × Nat)} (h : Steady W s₀ s) :
    OutSteady W s₀ (execLqReport t h' entries s) :=
  steady_next (onEvent_steady h (fun h₁ => receive_steady h₁ (fun h₂ => steady_ite h₂ (reroute_steady (steady_upd
    h₂)))))

theorem execSiteLimit_steady {t : Nat} {h' : THdr} {validity : Nat} {entries : List (Nat × Nat)} (h : Steady W s₀ s) :
    OutSteady W s₀ (execSiteLimit t h' validity entries s) :=
  steady_next (onEvent_steady h (fun h₁ => receive_steady h₁ limitApply_steady))

theorem execTime_steady {t : Nat} {h' : THdr} {ref ms : Nat} {sig : Option (List Byte × Bool)} (h : Steady W s₀ s) :
    OutSteady W s₀ (execTime t h' ref ms sig s) :=
  steady_next (onEvent_steady h (fun h₁ => receive_steady h₁ (fun h₂ => steady_ite h₂ (timeSet_steady h₂))))

theorem execHostData_steady {t : Nat} {h' : THdr} {payload : List Byte} (h : Steady W s₀ s) :
    OutSteady W s₀ (execHostData t h' payload s) :=
  steady_next (onEvent_steady h (fun h₁ => receive_steady h₁ (fun h₂ => streamBlock_steady (steady_upd h₂))))

theorem execImageOffer_steady {t : Nat} {h' : THdr} {digest count gen : Nat} (h : Steady W s₀ s) :
    OutSteady W s₀ (execImageOffer t h' digest count gen s) :=
  steady_next (onEvent_steady h (fun h₁ => receive_steady h₁ updOffer_steady))

theorem execImageReq_steady {t : Nat} {h' : THdr} {digest : Nat} {ranges : List (Nat × Nat)} (h : Steady W s₀ s) :
    OutSteady W s₀ (execImageReq t h' digest ranges s) := by
  unfold execImageReq
  refine steady_next (onEvent_steady h (fun h₁ => receive_steady h₁ (fun h₂ => ?_)))
  split
  · exact steady_ite h₂ (serveNext_steady (steady_upd h₂))
  · exact h₂

theorem execImageBlock_steady {t : Nat} {h' : THdr} {digest block frag : Nat} {data : List Byte} {sigs : Bool × Bool}
    (h : Steady W s₀ s) :
    OutSteady W s₀ (execImageBlock t h' digest block frag data sigs s) :=
  steady_next (onEvent_steady h (fun h₁ => receive_steady h₁ (fun h₂ => steady_ite h₂ (steady_ite (updBlockRx_steady
    (steady_upd h₂)) (steady_upd h₂)))))

theorem execImageBlockExpiry_steady {t : Nat} (h : Steady W s₀ s) : OutSteady W s₀ (execImageBlockExpiry t s) :=
  steady_next (onEvent_steady h steady_upd)

theorem execTrellisBeaconTimeout_steady {t : Nat} (h : Steady W s₀ s) : OutSteady W s₀ (execTrellisBeaconTimeout t s) :=
  steady_next (onEvent_steady h (fun h₁ => steady_ite (setTrx_steady (wr_steady (steady_upd h₁) rfl)) (steady_ite
    (steady_upd (setTrx_steady h₁)) (steady_ite (listen_steady h₁) h₁))))

theorem execTrellisJoinTimeout_steady {t : Nat} (h : Steady W s₀ s) : OutSteady W s₀ (execTrellisJoinTimeout t s) :=
  steady_next (onEvent_steady h (fun h₁ => steady_ite (steady_upd h₁) h₁))

theorem execTrellisJoinBackoffEnd_steady {t : Nat} (h : Steady W s₀ s) :
    OutSteady W s₀ (execTrellisJoinBackoffEnd t s) := by
  unfold execTrellisJoinBackoffEnd
  refine steady_next (onEvent_steady h (fun h₁ => ?_))
  split
  · exact steady_ite (listen_steady h₁) h₁
  · exact h₁

theorem execTrellisNodeTimeout_steady {t n : Nat} (h : Steady W s₀ s) :
    OutSteady W s₀ (execTrellisNodeTimeout t n s) := by
  unfold execTrellisNodeTimeout
  refine steady_next (onEvent_steady h (fun h₁ => ?_))
  split
  · exact steady_ite (raise_steady (steady_upd h₁)) h₁
  · exact h₁

theorem execLqReportSend_steady {t : Nat} (h : Steady W s₀ s) : OutSteady W s₀ (execLqReportSend t s) :=
  steady_next (onEvent_steady h (fun h₁ => steady_ite (every_steady h₁ send_steady) h₁))

theorem execSiteLimitRepeat_steady {t : Nat} (h : Steady W s₀ s) : OutSteady W s₀ (execSiteLimitRepeat t s) := by
  unfold execSiteLimitRepeat
  refine steady_next (onEvent_steady h (fun h₁ => ?_))
  split
  · exact steady_ite (every_steady h₁ send_steady) h₁
  · exact h₁

theorem execTimeSend_steady {t : Nat} (h : Steady W s₀ s) : OutSteady W s₀ (execTimeSend t s) :=
  steady_next (onEvent_steady h (fun h₁ => steady_ite (every_steady h₁ send_steady) h₁))

theorem execImageOfferSend_steady {t : Nat} (h : Steady W s₀ s) : OutSteady W s₀ (execImageOfferSend t s) := by
  unfold execImageOfferSend
  refine steady_next (onEvent_steady h (fun h₁ => ?_))
  split
  · exact steady_ite (every_steady h₁ send_steady) h₁
  · exact h₁

theorem execTrellisEnable_steady {t : Nat} {on : Bool} (h : Steady W s₀ s) :
    OutSteady W s₀ (execTrellisEnable t on s) :=
  steady_next (onEvent_steady h (fun h₁ => trellisEn_steady (setFlag_steady h₁ rfl)))

theorem execPlcQuery_steady {x : Ctx} {i : Nat} (h : Steady W s₀ s) : OutSteady W s₀ (execPlcQuery x i s) :=
  steady_next (command_steady h (fun h₁ => steady_ite (complete_steady h₁) (complete_steady h₁)))

theorem execTrellisSend_steady {x : Ctx} {dst cls : Nat} {payload : List Byte} (h : Steady W s₀ s) :
    OutSteady W s₀ (execTrellisSend x dst cls payload s) :=
  steady_next (command_steady h (fun h₁ => steady_ite (complete_steady h₁) (steady_ite (complete_steady h₁)
    (steady_ite (complete_steady h₁) (steady_ite (complete_steady h₁) (steady_ite (complete_steady h₁) (send_steady
    (complete_steady h₁))))))))

theorem execTrellisLimitSend_steady {x : Ctx} {validity : Nat} {entries : List (Nat × Nat)} (h : Steady W s₀ s) :
    OutSteady W s₀ (execTrellisLimitSend x validity entries s) :=
  steady_next (command_steady h (fun h₁ => steady_ite (complete_steady h₁) (steady_ite (complete_steady h₁)
    (complete_steady (limitApply_steady (steady_upd (send_steady (steady_upd h₁))))))))

theorem execTrellisLqRead_steady {x : Ctx} (h : Steady W s₀ s) : OutSteady W s₀ (execTrellisLqRead x s) :=
  steady_next (command_steady h (fun h₁ => complete_steady (giveBuffer_steady h₁)))

theorem execTrellisRestart_steady {x : Ctx} (h : Steady W s₀ s) : OutSteady W s₀ (execTrellisRestart x s) := by
  unfold execTrellisRestart
  refine steady_next (command_steady h (fun h₁ => ?_))
  extract_lets s₂ s₃
  have h₂ : Steady W s₀ s₂ := cancelFrames_steady h₁
  have h₃ : Steady W s₀ s₃ := steady_ite h₂ (setTrx_steady (mainsModems_steady h₂))
  exact complete_steady (steady_ite (listen_steady h₃) h₃)

/-! ### Twin (Sys2Proof/Machine/Twin.lean) -/

theorem execTwinLinkUp_steady {t lanes serial : Nat} {peerPrefer : Bool} {hdr : TwinHdr} (h : Steady W s₀ s) :
    OutSteady W s₀ (execTwinLinkUp t lanes serial peerPrefer hdr s) :=
  steady_next (onEvent_steady h (fun h₁ => steady_ite h₁ (linkRole_steady (peerEvent_steady (noteFrame_steady
    (setFlag_steady (steady_upd (wr_steady (wr_steady (wr_steady (steady_ite h₁ (incSat_steady h₁ rfl)) rfl) rfl) rfl))
    rfl))))))

theorem execTwinLinkDown_steady {t : Nat} (h : Steady W s₀ s) : OutSteady W s₀ (execTwinLinkDown t s) :=
  steady_next (onEvent_steady h (fun h₁ => steady_ite h₁ (peerEvent_steady (noteReady_steady (steady_upd (wr_steady
    (wr_steady (wr_steady h₁ rfl) rfl) rfl))))))

theorem execTwinPairTimeout_steady {t : Nat} (h : Steady W s₀ s) : OutSteady W s₀ (execTwinPairTimeout t s) :=
  steady_next (onEvent_steady h (fun h₁ => steady_ite (setRole_steady h₁) h₁))

theorem execTwinCopyFreeze_steady {t : Nat} {hdr : TwinHdr} {crc kib : Nat} (h : Steady W s₀ s) :
    OutSteady W s₀ (execTwinCopyFreeze t hdr crc kib s) :=
  steady_next (onEvent_steady h (fun h₁ => steady_ite (steady_upd (wr_steady (noteFrame_steady h₁) rfl)) h₁))

theorem execTwinCopyRx_steady {t : Nat} {copy : TwinCopy} {whole : Bool} {kib : Nat} {hdr : TwinHdr} (h : Steady W s₀
    s) :
    OutSteady W s₀ (execTwinCopyRx t copy whole kib hdr s) :=
  steady_next (onEvent_steady h (fun h₁ => steady_ite (steady_ite (noteFrame_steady h₁) (noteReady_steady
    (shadowNote_steady (steady_upd (wr_steady (noteFrame_steady h₁) rfl))))) h₁))

theorem execTwinCopyDeadline_steady {t crc : Nat} (h : Steady W s₀ s) : OutSteady W s₀ (execTwinCopyDeadline t crc s) :=
  steady_next (onEvent_steady h (fun h₁ => steady_ite h₁ (steady_ite (steady_upd (addSat_steady h₁ rfl)) (steady_ite
    (noteReady_steady (steady_upd (incSat_steady (steady_upd (addSat_steady h₁ rfl)) rfl))) (raise_steady (steady_upd
    (noteReady_steady (steady_upd (incSat_steady (steady_upd (addSat_steady h₁ rfl)) rfl)))))))))

theorem execTwinGiveup_steady {t cause : Nat} (h : Steady W s₀ s) : OutSteady W s₀ (execTwinGiveup t cause s) :=
  steady_next (onEvent_steady h (fun h₁ => steady_ite (giveUp_steady h₁) h₁))

theorem execTwinActInFall_steady {t : Nat} (h : Steady W s₀ s) : OutSteady W s₀ (execTwinActInFall t s) := by
  unfold execTwinActInFall
  refine steady_next (onEvent_steady h (fun h₁ => ?_))
  extract_lets s₂
  have h₂ : Steady W s₀ s₂ := setActIn_steady h₁
  refine steady_ite ?_ (steady_ite (linkRole_steady h₂) h₂)
  split
  · exact setRole_steady (loadCopy_steady h₂)
  · exact setRole_steady h₂

theorem execTwinActInRise_steady {t : Nat} (h : Steady W s₀ s) : OutSteady W s₀ (execTwinActInRise t s) :=
  steady_next (onEvent_steady h (fun h₁ => steady_ite (twinRelease_steady (setActIn_steady h₁)) (steady_ite
    (setRole_steady (setActIn_steady h₁)) (setActIn_steady h₁))))

theorem execTwinActConflict_steady {t : Nat} (h : Steady W s₀ s) : OutSteady W s₀ (execTwinActConflict t s) := by
  unfold execTwinActConflict
  refine steady_next (onEvent_steady h (fun h₁ => ?_))
  split
  · exact steady_ite (twinRelease_steady (setRole_steady h₁)) h₁
  · exact h₁

theorem execTwinTakeoverDone_steady {t : Nat} (h : Steady W s₀ s) : OutSteady W s₀ (execTwinTakeoverDone t s) :=
  steady_next (onEvent_steady h (fun h₁ => steady_ite (takeOverDone_steady h₁) h₁))

theorem execTwinForwardedStop_steady {t op mask : Nat} (h : Steady W s₀ s) :
    OutSteady W s₀ (execTwinForwardedStop t op mask s) :=
  steady_next (onEvent_steady h (fun h₁ => steady_ite h₁ (steady_ite (steady_upd (sessionStop_steady h₁)) (steady_ite
    (steady_upd (outErem_steady h₁)) h₁))))

theorem execTwinQuery_steady {x : Ctx} (h : Steady W s₀ s) : OutSteady W s₀ (execTwinQuery x s) :=
  steady_next (command_steady h complete_steady)

theorem execTwinSwitch_steady {x : Ctx} (h : Steady W s₀ s) : OutSteady W s₀ (execTwinSwitch x s) :=
  steady_next (command_steady h (fun h₁ => steady_ite (complete_steady h₁) (steady_ite (complete_steady h₁)
    (steady_ite (complete_steady h₁) (finalise_steady (giveUp_steady (complete_steady h₁)))))))

theorem execTwinRejoin_steady {x : Ctx} (h : Steady W s₀ s) : OutSteady W s₀ (execTwinRejoin x s) :=
  steady_next (command_steady h (fun h₁ => steady_ite (complete_steady h₁) (steady_ite (complete_steady h₁)
    (complete_steady (setRole_steady (steady_upd h₁))))))

/-- The watched fields that a command may write. -/
def watchedWritten : Instr → List Fld
  | .startUp .. => watchedFields
  | .updPolicy .. => [R.UPD_POLICY_OWNER_COSIGN]
  | .setupLock .. => [R.GLOBAL_SETUP_LOCK_LOCK]
  | .registerWrite .. => [R.GLOBAL_SETUP_LOCK_LOCK]
  | _ => []

/-- Every command keeps the journal within its size and the watched fields that it cannot write, by the law of its own
meaning. -/
theorem exec_steady (c : Instr) (hW : ∀ F ∈ watchedWritten c, F ∉ W) (h : Steady W s₀ s) : OutSteady W s₀ (exec c s) :=
  match c, hW with
  | .islandCrossing .., _ => execIslandCrossing_steady h
  | .linkTimeout .., _ => execLinkTimeout_steady h
  | .rtcSecondEdge .., _ => execRtcSecondEdge_steady h
  | .controlCycleStart .., _ => execControlCycleStart_steady h
  | .outputStagingDeadline .., _ => execOutputStagingDeadline_steady h
  | .aCheckDeadline .., _ => execACheckDeadline_steady h
  | .configRequest .., _ => execConfigRequest_steady h
  | .perstRelease .., _ => execPerstRelease_steady h
  | .hostDetach .., _ => execHostDetach_steady h
  | .hostAttach .., _ => execHostAttach_steady h
  | .ringRegisterWrite .., _ => execRingRegisterWrite_steady h
  | .doorbellPoll .., _ => execDoorbellPoll_steady h
  | .kick .., _ => execKick_steady h
  | .stopCompletionRelease .., _ => execStopCompletionRelease_steady h
  | .evrGap .., _ => execEvrGap_steady h
  | .notifDataRead .., _ => execNotifDataRead_steady h
  | .latchingRead .., _ => execLatchingRead_steady h
  | .streamBufferFill .., _ => execStreamBufferFill_steady h
  | .ringCreate .., _ => execRingCreate_steady h
  | .ringDestroy .., _ => execRingDestroy_steady h
  | .journalFetch .., _ => execJournalFetch_steady h
  | .statusQuery .., _ => execStatusQuery_steady h
  | .regWrite .., _ => execRegWrite_steady h
  | .echo .., _ => execEcho_steady h
  | .startUp .., hW => execStartUp_steady hW h
  | .caskOpen .., _ => execCaskOpen_steady h
  | .caskAction .., _ => execCaskAction_steady h
  | .caskPrepare .., _ => execCaskPrepare_steady h
  | .caskValidationDone .., _ => execCaskValidationDone_steady h
  | .caskCommit .., _ => execCaskCommit_steady h
  | .caskAbort .., _ => execCaskAbort_steady h
  | .caskQuery .., _ => execCaskQuery_steady h
  | .funcDisable .., _ => execFuncDisable_steady h
  | .funcDisableDone .., _ => execFuncDisableDone_steady h
  | .caskOpenTimeout .., _ => execCaskOpenTimeout_steady h
  | .caskPreparedTimeout .., _ => execCaskPreparedTimeout_steady h
  | .caskRecordWrite .., _ => execCaskRecordWrite_steady h
  | .caskSyncEdge .., _ => execCaskSyncEdge_steady h
  | .caskSyncTimeout .., _ => execCaskSyncTimeout_steady h
  | .caskRetract .., _ => execCaskRetract_steady h
  | .caskApply .., _ => execCaskApply_steady h
  | .pilotStateAccept .., _ => execPilotStateAccept_steady h
  | .pilotDiodeFault .., _ => execPilotDiodeFault_steady h
  | .pilotPwmPeriod .., _ => execPilotPwmPeriod_steady h
  | .proximityRead .., _ => execProximityRead_steady h
  | .authTimeout .., _ => execAuthTimeout_steady h
  | .hlcMessage .., _ => execHlcMessage_steady h
  | .hlcTimeout .., _ => execHlcTimeout_steady h
  | .slacParmReq .., _ => execSlacParmReq_steady h
  | .startAttenChar .., _ => execStartAttenChar_steady h
  | .mnbcSound .., _ => execMnbcSound_steady h
  | .slacWindowClose .., _ => execSlacWindowClose_steady h
  | .slacValidate .., _ => execSlacValidate_steady h
  | .slacMatchReq .., _ => execSlacMatchReq_steady h
  | .slacMatchTimeout .., _ => execSlacMatchTimeout_steady h
  | .slacInitTimeout .., _ => execSlacInitTimeout_steady h
  | .preauthTimeout .., _ => execPreauthTimeout_steady h
  | .pmStatusFrame .., _ => execPmStatusFrame_steady h
  | .pmIdentFrame .., _ => execPmIdentFrame_steady h
  | .pmFaultFrame .., _ => execPmFaultFrame_steady h
  | .pmLost .., _ => execPmLost_steady h
  | .setpointSend .., _ => execSetpointSend_steady h
  | .pmSyncSend .., _ => execPmSyncSend_steady h
  | .allocatorRun .., _ => execAllocatorRun_steady h
  | .trellisLimitExpiry .., _ => execTrellisLimitExpiry_steady h
  | .enforcementGraceEnd .., _ => execEnforcementGraceEnd_steady h
  | .allocMaxWait .., _ => execAllocMaxWait_steady h
  | .outConfig .., _ => execOutConfig_steady h
  | .outAvailability .., _ => execOutAvailability_steady h
  | .sessionAuthorise .., _ => execSessionAuthorise_steady h
  | .sessionStop .., _ => execSessionStop_steady h
  | .outErem .., _ => execOutErem_steady h
  | .outSiteLimit .., _ => execOutSiteLimit_steady h
  | .sessionSetClass .., _ => execSessionSetClass_steady h
  | .sessionQuery .., _ => execSessionQuery_steady h
  | .outSelect .., _ => execOutSelect_steady h
  | .outContactor .., _ => execOutContactor_steady h
  | .outPilotDuty .., _ => execOutPilotDuty_steady h
  | .outPmSetpoint .., _ => execOutPmSetpoint_steady h
  | .outCertResponse .., _ => execOutCertResponse_steady h
  | .hslCycle .., _ => execHslCycle_steady h
  | .hslTableCheck .., _ => execHslTableCheck_steady h
  | .hslWatchdogExpiry .., _ => execHslWatchdogExpiry_steady h
  | .bHeartbeat .., _ => execBHeartbeat_steady h
  | .bHeartbeatLoss .., _ => execBHeartbeatLoss_steady h
  | .channelDiscrepancy .., _ => execChannelDiscrepancy_steady h
  | .safetySelftestDone .., _ => execSafetySelftestDone_steady h
  | .coilPullinStart .., _ => execCoilPullinStart_steady h
  | .coilPullinEnd .., _ => execCoilPullinEnd_steady h
  | .coilOpen .., _ => execCoilOpen_steady h
  | .coilShort .., _ => execCoilShort_steady h
  | .weldCheck .., _ => execWeldCheck_steady h
  | .shuntTripEnd .., _ => execShuntTripEnd_steady h
  | .shuntTripRepeat .., _ => execShuntTripRepeat_steady h
  | .darkTestPulse .., _ => execDarkTestPulse_steady h
  | .darkTestEnd .., _ => execDarkTestEnd_steady h
  | .coilUncontrol .., _ => execCoilUncontrol_steady h
  | .estopSourcePulse .., _ => execEstopSourcePulse_steady h
  | .estopOpen .., _ => execEstopOpen_steady h
  | .estopDisc .., _ => execEstopDisc_steady h
  | .safeInChange .., _ => execSafeInChange_steady h
  | .rcmReading .., _ => execRcmReading_steady h
  | .rcmSelftestRun .., _ => execRcmSelftestRun_steady h
  | .rcmSensorRange .., _ => execRcmSensorRange_steady h
  | .rcmPrewarn .., _ => execRcmPrewarn_steady h
  | .imdResult .., _ => execImdResult_steady h
  | .cableCheckTimeout .., _ => execCableCheckTimeout_steady h
  | .safeStatePilotEnd .., _ => execSafeStatePilotEnd_steady h
  | .resetSafeEdge .., _ => execResetSafeEdge_steady h
  | .safeQuery .., _ => execSafeQuery_steady h
  | .safeTestNow .., _ => execSafeTestNow_steady h
  | .rcmSelftest .., _ => execRcmSelftest_steady h
  | .imdMeasure .., _ => execImdMeasure_steady h
  | .chOverload .., _ => execChOverload_steady h
  | .mbsLost .., _ => execMbsLost_steady h
  | .mbsRestored .., _ => execMbsRestored_steady h
  | .auxSeqDue .., _ => execAuxSeqDue_steady h
  | .auxConversionDone .., _ => execAuxConversionDone_steady h
  | .afeSeqLoad .., _ => execAfeSeqLoad_steady h
  | .afeSeqEn .., _ => execAfeSeqEn_steady h
  | .afeAuxOneshot .., _ => execAfeAuxOneshot_steady h
  | .afeCalZero .., _ => execAfeCalZero_steady h
  | .afeCalSpan .., _ => execAfeCalSpan_steady h
  | .afeCalRestore .., _ => execAfeCalRestore_steady h
  | .afeCapture .., _ => execAfeCapture_steady h
  | .afeCaptureStop .., _ => execAfeCaptureStop_steady h
  | .trkPeriod .., _ => execTrkPeriod_steady h
  | .trkCrossingTimeout .., _ => execTrkCrossingTimeout_steady h
  | .trkHoldExpiry .., _ => execTrkHoldExpiry_steady h
  | .trkSourceAbsent .., _ => execTrkSourceAbsent_steady h
  | .gridCycleStart .., _ => execGridCycleStart_steady h
  | .settlingEnd .., _ => execSettlingEnd_steady h
  | .blendStart .., _ => execBlendStart_steady h
  | .blendDone .., _ => execBlendDone_steady h
  | .filtQuery .., _ => execFiltQuery_steady h
  | .filtBlend .., _ => execFiltBlend_steady h
  | .trkQuery .., _ => execTrkQuery_steady h
  | .filtRestart .., _ => execFiltRestart_steady h
  | .metWindowEnd .., _ => execMetWindowEnd_steady h
  | .demandSecondRecord .., _ => execDemandSecondRecord_steady h
  | .pqHalfCycle .., _ => execPqHalfCycle_steady h
  | .pulseStart .., _ => execPulseStart_steady h
  | .pulseEnd .., _ => execPulseEnd_steady h
  | .tcRead .., _ => execTcRead_steady h
  | .metSessionCloseFinal .., _ => execMetSessionCloseFinal_steady h
  | .metCalMeasureDone .., _ => execMetCalMeasureDone_steady h
  | .metQuery .., _ => execMetQuery_steady h
  | .metSessionOpen .., _ => execMetSessionOpen_steady h
  | .metSessionClose .., _ => execMetSessionClose_steady h
  | .metCalMeasure .., _ => execMetCalMeasure_steady h
  | .metCalApply .., _ => execMetCalApply_steady h
  | .metPulseCfg .., _ => execMetPulseCfg_steady h
  | .metHarmRead .., _ => execMetHarmRead_steady h
  | .metWaveCapture .., _ => execMetWaveCapture_steady h
  | .metWaveStop .., _ => execMetWaveStop_steady h
  | .ledgerCommit .., _ => execLedgerCommit_steady h
  | .recordSign .., _ => execRecordSign_steady h
  | .vfail .., _ => execVfail_steady h
  | .vinReturn .., _ => execVinReturn_steady h
  | .converterRailFall .., _ => execConverterRailFall_steady h
  | .tariffSwitch .., _ => execTariffSwitch_steady h
  | .calendarActivate .., _ => execCalendarActivate_steady h
  | .demandBoundary .., _ => execDemandBoundary_steady h
  | .boundaryTransaction .., _ => execBoundaryTransaction_steady h
  | .syncWindowExpiry .., _ => execSyncWindowExpiry_steady h
  | .sealIdle .., _ => execSealIdle_steady h
  | .legalSealChange .., _ => execLegalSealChange_steady h
  | .calExpiry .., _ => execCalExpiry_steady h
  | .legalBtnPress .., _ => execLegalBtnPress_steady h
  | .legalDisplayTimeout .., _ => execLegalDisplayTimeout_steady h
  | .ledgerQuery .., _ => execLedgerQuery_steady h
  | .ledgerSessionRecord .., _ => execLedgerSessionRecord_steady h
  | .ledgerTariffSelect .., _ => execLedgerTariffSelect_steady h
  | .ledgerReadSigned .., _ => execLedgerReadSigned_steady h
  | .ledgerRecordFetch .., _ => execLedgerRecordFetch_steady h
  | .ledgerTimeSet .., _ => execLedgerTimeSet_steady h
  | .ledgerCalendarLoad .., _ => execLedgerCalendarLoad_steady h
  | .ledgerBillingClose .., _ => execLedgerBillingClose_steady h
  | .ledgerBillingRead .., _ => execLedgerBillingRead_steady h
  | .ledgerCalChallenge .., _ => execLedgerCalChallenge_steady h
  | .ledgerCalOpen .., _ => execLedgerCalOpen_steady h
  | .ledgerCalClose .., _ => execLedgerCalClose_steady h
  | .ledgerLegalId .., _ => execLedgerLegalId_steady h
  | .ledgerAckLoss .., _ => execLedgerAckLoss_steady h
  | .plcFrameRx .., _ => execPlcFrameRx_steady h
  | .superframeStart .., _ => execSuperframeStart_steady h
  | .beaconRx .., _ => execBeaconRx_steady h
  | .syncInEdge .., _ => execSyncInEdge_steady h
  | .trellisTx .., _ => execTrellisTx_steady h
  | .ack .., _ => execAck_steady h
  | .trellisAckTimeout .., _ => execTrellisAckTimeout_steady h
  | .joinReq .., _ => execJoinReq_steady h
  | .joinResult .., _ => execJoinResult_steady h
  | .lqReport .., _ => execLqReport_steady h
  | .siteLimit .., _ => execSiteLimit_steady h
  | .time .., _ => execTime_steady h
  | .hostData .., _ => execHostData_steady h
  | .imageOffer .., _ => execImageOffer_steady h
  | .imageReq .., _ => execImageReq_steady h
  | .imageBlock .., _ => execImageBlock_steady h
  | .imageBlockExpiry .., _ => execImageBlockExpiry_steady h
  | .trellisBeaconTimeout .., _ => execTrellisBeaconTimeout_steady h
  | .trellisJoinTimeout .., _ => execTrellisJoinTimeout_steady h
  | .trellisJoinBackoffEnd .., _ => execTrellisJoinBackoffEnd_steady h
  | .trellisNodeTimeout .., _ => execTrellisNodeTimeout_steady h
  | .lqReportSend .., _ => execLqReportSend_steady h
  | .siteLimitRepeat .., _ => execSiteLimitRepeat_steady h
  | .timeSend .., _ => execTimeSend_steady h
  | .imageOfferSend .., _ => execImageOfferSend_steady h
  | .trellisEnable .., _ => execTrellisEnable_steady h
  | .plcQuery .., _ => execPlcQuery_steady h
  | .trellisSend .., _ => execTrellisSend_steady h
  | .trellisLimitSend .., _ => execTrellisLimitSend_steady h
  | .trellisLqRead .., _ => execTrellisLqRead_steady h
  | .trellisRestart .., _ => execTrellisRestart_steady h
  | .pufRetry .., _ => execPufRetry_steady h
  | .riddle .., _ => execRiddle_steady h
  | .drbgReseed .., _ => execDrbgReseed_steady h
  | .entropyFail .., _ => execEntropyFail_steady h
  | .entropyRetest .., _ => execEntropyRetest_steady h
  | .keySelftestDone .., _ => execKeySelftestDone_steady h
  | .credVerifyDone .., _ => execCredVerifyDone_steady h
  | .flashBlockFail .., _ => execFlashBlockFail_steady h
  | .keyQuery .., _ => execKeyQuery_steady h
  | .keyNodeQuery .., _ => execKeyNodeQuery_steady h
  | .keyInvalidate .., _ => execKeyInvalidate_steady h
  | .keyRederive .., _ => execKeyRederive_steady h
  | .keyInstall .., _ => execKeyInstall_steady h
  | .keyOwnerSet .., _ => execKeyOwnerSet_steady h
  | .keyAnchorInstall .., _ => execKeyAnchorInstall_steady h
  | .keyCsr .., _ => execKeyCsr_steady h
  | .keyCertInstall .., _ => execKeyCertInstall_steady h
  | .keyAttest .., _ => execKeyAttest_steady h
  | .keyAttestCert .., _ => execKeyAttestCert_steady h
  | .keySelftest .., _ => execKeySelftest_steady h
  | .credLoadBegin .., _ => execCredLoadBegin_steady h
  | .credLoadData .., _ => execCredLoadData_steady h
  | .credLoadCommit .., _ => execCredLoadCommit_steady h
  | .credLoadAbort .., _ => execCredLoadAbort_steady h
  | .credUpdate .., _ => execCredUpdate_steady h
  | .credLookup .., _ => execCredLookup_steady h
  | .rdr0Poll .., _ => execRdr0Poll_steady h
  | .cableRead .., _ => execCableRead_steady h
  | .cableWrite .., _ => execCableWrite_steady h
  | .ownTagFieldOn .., _ => execOwnTagFieldOn_steady h
  | .ownTagFieldLost .., _ => execOwnTagFieldLost_steady h
  | .ownTagFieldRead .., _ => execOwnTagFieldRead_steady h
  | .ownTagFieldWrite .., _ => execOwnTagFieldWrite_steady h
  | .presentPwd .., _ => execPresentPwd_steady h
  | .ownTagMam1 .., _ => execOwnTagMam1_steady h
  | .tagQuery .., _ => execTagQuery_steady h
  | .tagCableRead .., _ => execTagCableRead_steady h
  | .tagCableInit .., _ => execTagCableInit_steady h
  | .tagCableRetire .., _ => execTagCableRetire_steady h
  | .tagOwnRead .., _ => execTagOwnRead_steady h
  | .tagOwnWrite .., _ => execTagOwnWrite_steady h
  | .dispTempStale .., _ => execDispTempStale_steady h
  | .dispFrameStart .., _ => execDispFrameStart_steady h
  | .dispRegionDone .., _ => execDispRegionDone_steady h
  | .epdPwrGoodRise .., _ => execEpdPwrGoodRise_steady h
  | .dispPwrTimeout .., _ => execDispPwrTimeout_steady h
  | .epdPwrGoodLoss .., _ => execEpdPwrGoodLoss_steady h
  | .dispPwrOff .., _ => execDispPwrOff_steady h
  | .vintageSave .., _ => execVintageSave_steady h
  | .segSense .., _ => execSegSense_steady h
  | .segFrame .., _ => execSegFrame_steady h
  | .legalSilent .., _ => execLegalSilent_steady h
  | .dispQuery .., _ => execDispQuery_steady h
  | .dispImageLoad .., _ => execDispImageLoad_steady h
  | .dispUpdate .., _ => execDispUpdate_steady h
  | .dispTempSet .., _ => execDispTempSet_steady h
  | .dispVintageRead .., _ => execDispVintageRead_steady h
  | .dispVintageReset .., _ => execDispVintageReset_steady h
  | .lswTrip .., _ => execLswTrip_steady h
  | .inrushEnd .., _ => execInrushEnd_steady h
  | .lswRetry .., _ => execLswRetry_steady h
  | .lswCoolRestart .., _ => execLswCoolRestart_steady h
  | .retriesReload .., _ => execRetriesReload_steady h
  | .quadHot .., _ => execQuadHot_steady h
  | .quadCool .., _ => execQuadCool_steady h
  | .quadRestartStep .., _ => execQuadRestartStep_steady h
  | .lswPwmPeriod .., _ => execLswPwmPeriod_steady h
  | .lswOpenOn .., _ => execLswOpenOn_steady h
  | .lswOpenOff .., _ => execLswOpenOff_steady h
  | .lswBudgetWindow .., _ => execLswBudgetWindow_steady h
  | .vlsUndervoltage .., _ => execVlsUndervoltage_steady h
  | .vlsRestored .., _ => execVlsRestored_steady h
  | .lswSet .., _ => execLswSet_steady h
  | .lswClear .., _ => execLswClear_steady h
  | .lswQuery .., _ => execLswQuery_steady h
  | .lswConfig .., _ => execLswConfig_steady h
  | .lswBankPwm .., _ => execLswBankPwm_steady h
  | .updBegin .., _ => execUpdBegin_steady h
  | .updBlock .., _ => execUpdBlock_steady h
  | .updStatus .., _ => execUpdStatus_steady h
  | .updActivate .., _ => execUpdActivate_steady h
  | .updConfirm .., _ => execUpdConfirm_steady h
  | .updRevert .., _ => execUpdRevert_steady h
  | .updAbort .., _ => execUpdAbort_steady h
  | .updPolicy .., hW => execUpdPolicy_steady (hW _ (List.mem_singleton_self _)) h
  | .updVerifyDone .., _ => execUpdVerifyDone_steady h
  | .updLockIdle .., _ => execUpdLockIdle_steady h
  | .updActivationFlip .., _ => execUpdActivationFlip_steady h
  | .updActivateTimeout .., _ => execUpdActivateTimeout_steady h
  | .trialTimeSave .., _ => execTrialTimeSave_steady h
  | .updAutoConfirm .., _ => execUpdAutoConfirm_steady h
  | .trialTimeout .., _ => execTrialTimeout_steady h
  | .svcBegin .., _ => execSvcBegin_steady h
  | .svcBlock .., _ => execSvcBlock_steady h
  | .svcActivate .., _ => execSvcActivate_steady h
  | .svcStatus .., _ => execSvcStatus_steady h
  | .svcAbort .., _ => execSvcAbort_steady h
  | .svcConfirm .., _ => execSvcConfirm_steady h
  | .svcRevert .., _ => execSvcRevert_steady h
  | .svcBadFrame .., _ => execSvcBadFrame_steady h
  | .twinLinkUp .., _ => execTwinLinkUp_steady h
  | .twinLinkDown .., _ => execTwinLinkDown_steady h
  | .twinPairTimeout .., _ => execTwinPairTimeout_steady h
  | .twinCopyFreeze .., _ => execTwinCopyFreeze_steady h
  | .twinCopyRx .., _ => execTwinCopyRx_steady h
  | .twinCopyDeadline .., _ => execTwinCopyDeadline_steady h
  | .twinGiveup .., _ => execTwinGiveup_steady h
  | .twinActInFall .., _ => execTwinActInFall_steady h
  | .twinActInRise .., _ => execTwinActInRise_steady h
  | .twinActConflict .., _ => execTwinActConflict_steady h
  | .twinTakeoverDone .., _ => execTwinTakeoverDone_steady h
  | .twinQuery .., _ => execTwinQuery_steady h
  | .twinSwitch .., _ => execTwinSwitch_steady h
  | .twinRejoin .., _ => execTwinRejoin_steady h
  | .vinValid t .., _ => execVinValid_steady (t := t) h
  | .earlyVinLoss t .., _ => execEarlyVinLoss_steady (t := t) h
  | .railOutOfLimits .., _ => execRailOutOfLimits_steady h
  | .railRestored .., _ => execRailRestored_steady h
  | .tempLevelChange .., _ => execTempLevelChange_steady h
  | .procMonSample .., _ => execProcMonSample_steady h
  | .tamperInput .., _ => execTamperInput_steady h
  | .xtal32Fail .., _ => execXtal32Fail_steady h
  | .xtal49Fail .., _ => execXtal49Fail_steady h
  | .xtal49Return .., _ => execXtal49Return_steady h
  | .xtal25Fail .., _ => execXtal25Fail_steady h
  | .meterWake .., _ => execMeterWake_steady h
  | .pwrQuery .., _ => execPwrQuery_steady h
  | .pwrMode .., _ => execPwrMode_steady h
  | .pwrIdent .., _ => execPwrIdent_steady h
  | .setupLock .., hW => execSetupLock_steady (hW _ (List.mem_singleton_self _)) h
  | .settingsSaved .., _ => execSettingsSaved_steady h
  | .alertWrite .., _ => execAlertWrite_steady h
  | .registerWrite .., hW => execRegisterWrite_steady (hW _ (List.mem_singleton_self _)) h
  | .xtal32Return .., _ => execXtal32Return_steady h
  | .refclkReturn .., _ => execRefclkReturn_steady h
  | .resetToReady .., _ => execResetToReady_steady h
  | .twinForwardedStop .., _ => execTwinForwardedStop_steady h

/-! ### The journal of 32,768 events (R55) -/

theorem idle_steady (h : Steady W s₀ s) : Steady W s₀ s.idle := steady_ite (edges_steady h) h

theorem step_journal {s u : State} (hj : s.host.journal.length ≤ 32768) (e : step s = .next u) :
    u.host.journal.length ≤ 32768 := by
  unfold step at e
  split at e
  · cases e
    exact (idle_steady (Steady.refl [] s)).journal hj
  · rename_i c rest _
    have h₀ := Steady.refl [] { s with pending := rest }
    obtain ⟨u', e', h⟩ := exec_steady c (fun _ _ => List.not_mem_nil) h₀
    cases e'.symm.trans e
    exact h.journal hj

/-- Settles O2: each command's meaning keeps the journal within its size (`exec_steady`), and so does an idle step. -/
theorem journalBounded : Obligations.JournalBounded := fun _ _ => step_journal

end Sys2Proof.Machine
end

section
/-! SUPPORT and PROOFS. A start that reads back a stored copy of the ledger (R53): the copy's registers are laid over the
module's, a device epoch among them. -/

namespace Sys2Proof.Machine

theorem overlay_get_single (t : Tab Nat) (d k v : Nat) : (overlay t ⟨[(k, v)]⟩).get d k = v :=
  (lookup_insertCell d k k v _ (by simp)).trans (if_pos rfl)

/-- A stored copy of the ledger that holds one register cell, a device epoch of 7. -/
def epochCommit : Commit := { State.reset.snapshotCommit 0 with regs := ⟨[(key2 R.HOST_SYNC_GLOBAL_EPOCH.id 0, 7)]⟩ }

namespace State

theorem rd_loadCommit_epochCommit (s : State) : (s.loadCommit epochCommit).rd R.HOST_SYNC_GLOBAL_EPOCH = 7 := by
  have hid : keptIds.contains R.HOST_SYNC_GLOBAL_EPOCH.id = true := by decide
  have hkept : cellKept (key2 R.HOST_SYNC_GLOBAL_EPOCH.id 0, 7) = true := by
    simp only [cellKept, key2, Nat.unpair_pair, hid]
  have hregs : (s.loadCommit epochCommit).regs =
      overlay ⟨s.regs.cells.filter fun x => !inCommit x⟩ ⟨[(key2 R.HOST_SYNC_GLOBAL_EPOCH.id 0, 7)]⟩ := by
    simp [loadCommit, epochCommit, hkept]
  rw [rd, hregs, overlay_get_single]

theorem newestCommit_single {s : State} {c : Commit} (ha : s.ledger.copyA = some c) (hb : s.ledger.copyB = none) :
    s.newestCommit = some c := by
  simp only [newestCommit, ha, hb]

/-- A start ends with the device epoch that the stored copy of the ledger lays over the register. -/
theorem startRun_epoch {s old : State} {b : BootIn} {cause : Nat} {firstTrial : Bool} {c : Commit}
    (hc : old.newestCommit = some c)
    (he : (((s.startEntered old b cause firstTrial).loadCommit c).rd R.HOST_SYNC_GLOBAL_EPOCH) < 2 ^ 16) :
    (s.startRun old b cause firstTrial).rd R.HOST_SYNC_GLOBAL_EPOCH =
      ((s.startEntered old b cause firstTrial).loadCommit c).rd R.HOST_SYNC_GLOBAL_EPOCH := by
  have h : Steady [R.HOST_SYNC_GLOBAL_EPOCH] ((s.startEntered old b cause firstTrial).loadCommit c)
      (s.startRun old b cause firstTrial) :=
    startRun_read (fun {v} => ledgerStart_loaded (c := c) hc (fun _ => he) (Steady.refl _ _))
  exact h.watched _ (by decide) (List.mem_singleton_self _) 0

/-- A start whose pointer is not in state TRIAL runs the active slot where that verifies (R466, R498). -/
theorem startUp_confirmed {s : State} {b : BootIn} (hv : s.phase = .vinValid) (hx : b.xtal25 = true)
    (ha : b.activeOk = true) (ht : s.ptrLoad.rd R.UPD_BOOT_BOOT_STATE ≠ 1) : ∃ cause firstTrial,
    s.startUp b = (s.ptrLoad.dropEntries b.corrupt).startRun (s.dropEntries b.corrupt) b cause firstTrial := by
  have hgo : (s.phase != .vinValid || !b.xtal25) = false := by simp [hv, hx]
  have htrial : s.trialStart b = (false, s.ptrLoad) := if_pos (by simpa using ht)
  have hrun : imageRuns b false = true := by simp [imageRuns, ha]
  have hslot : s.ptrLoad.slotChosen b false = s.ptrLoad := if_pos (by simp [ha])
  simp only [startUp, hgo, htrial, hrun, hslot, Bool.not_true, Bool.false_eq_true, if_false]
  exact ⟨_, _, rfl⟩

/-- The module before a start, with a stored copy of the ledger that holds a device epoch of 7. -/
def epochStored : State :=
  { reset with phase := .vinValid, ledger := { reset.ledger with copyA := some epochCommit } }

theorem epochStored_startUp : ((epochStored.advance 0).startUp onlyActiveVerifies).rd R.HOST_SYNC_GLOBAL_EPOCH = 7 := by
  obtain ⟨cause, firstTrial, hrun⟩ := startUp_confirmed (s := epochStored.advance 0) (b := onlyActiveVerifies) rfl rfl rfl
    (by decide)
  have hc : ((epochStored.advance 0).dropEntries onlyActiveVerifies.corrupt).newestCommit = some epochCommit :=
    newestCommit_single rfl rfl
  have hload := rd_loadCommit_epochCommit
  rw [hrun, startRun_epoch (c := epochCommit) hc (by rw [hload]; decide), hload]

end State

/-- Refutes O8: a start lays the registers of the newest stored copy of the ledger over its own, and the statement speaks
of every state, so also of one whose copy holds a cell of the device epoch. In `State.epochStored` the epoch is 0 and the
copy's is 7: after the start it is 7, neither counted up (the module runs) nor left as it was (it does not). -/
theorem not_deviceEpoch : ¬ Obligations.DeviceEpoch := by
  unfold Obligations.DeviceEpoch
  rintro ⟨-, hstart, -⟩
  obtain ⟨u, hnext, hruns, hstays⟩ := hstart State.epochStored 0 onlyActiveVerifies rfl
  have hexec : exec (.startUp 0 onlyActiveVerifies) State.epochStored =
      .next ((State.epochStored.advance 0).startUp onlyActiveVerifies) := congrArg Host.Outcome.next (if_pos rfl)
  have hu : u = (State.epochStored.advance 0).startUp onlyActiveVerifies := Host.Outcome.next.inj (hnext.symm.trans hexec)
  have h7 : u.rd R.HOST_SYNC_GLOBAL_EPOCH = 7 := by rw [hu, State.epochStored_startUp]
  have h0 : State.epochStored.rd R.HOST_SYNC_GLOBAL_EPOCH = 0 := rfl
  by_cases hp : u.phase = .running
  · have := hruns hp
    rw [h7, h0] at this
    exact absurd this (by decide)
  · have := hstays hp
    rw [h7, h0] at this
    exact absurd this (by decide)

end Sys2Proof.Machine
end

section
/-! SUPPORT and PROOFS. The ring registers as a write leaves them (R39, R41), and the ring commands of the host link
(R52, R55). -/

namespace Sys2Proof.Machine
namespace State

variable {s t : State} {k : RingKind} {i image : Nat}

/-! ### The fields of a ring register -/

/-- The EN, ERR, BASE and SIZE_LOG2 fields of a kind of ring, and the bytes of its entries. -/
def enFld (k : RingKind) : Fld := (ringKeyFields k).1
def errFld (k : RingKind) : Fld := (ringKeyFields k).2.1
def baseFld (k : RingKind) : Fld := (ringKeyFields k).2.2.1
def sizeFld (k : RingKind) : Fld := (ringKeyFields k).2.2.2.1
def entryBytes (k : RingKind) : Nat := (ringKeyFields k).2.2.2.2

/-- The fields that a write of a ring register changes beside those of its image. -/
def ringSideIds (k : RingKind) : List Nat :=
  [(errFld k).id, R.HOST_SYNC_LAST_FETCHED.id, R.HOST_SYNC_LAST_COMPLETED.id]

theorem ringFields_nodup (k : RingKind) : ((ringFields k).map Fld.id).Nodup := by cases k <;> decide

theorem ringFields_key (k : RingKind) :
    enFld k ∈ ringFields k ∧ baseFld k ∈ ringFields k ∧ sizeFld k ∈ ringFields k := by
  cases k <;> decide

theorem ringFields_side (k : RingKind) : ∀ F ∈ ringFields k, F.id ∉ ringSideIds k := by cases k <;> decide

/-- No other kind of ring register writes what a ring's span is made of. -/
theorem spanFields_other {k k' : RingKind} (h : k ≠ k') :
    ∀ F ∈ [enFld k, errFld k, baseFld k, sizeFld k], ∀ G ∈ ringFields k', F.id ≠ G.id := by
  cases k <;> cases k' <;> first | exact absurd rfl h | decide

/-- EN is one bit below the BASE and SIZE_LOG2 fields. -/
theorem enFld_below (k : RingKind) :
    (enFld k).w = 1 ∧ (enFld k).lo < (baseFld k).lo ∧ (enFld k).lo < (sizeFld k).lo := by
  cases k <;> decide

theorem imageField_lt (F : Fld) (image : Nat) : imageField F image < 2 ^ F.w := Nat.mod_lt _ (Nat.two_pow_pos F.w)

/-- Setting a clear bit below a field leaves the field. -/
theorem bits_add_below {n l lo w : Nat} (hl : l < lo) (hn : bits n l 1 = 0) : bits (n + 2 ^ l) lo w = bits n lo w := by
  obtain ⟨d, rfl⟩ := Nat.exists_eq_add_of_lt hl
  have key : ∀ m, m / 2 ^ (l + d + 1) = m / 2 ^ l / 2 / 2 ^ d := fun m => by
    rw [Nat.div_div_eq_div_mul, Nat.div_div_eq_div_mul]
    congr 1
    ring
  have hhalf : (n / 2 ^ l + 1) / 2 = n / 2 ^ l / 2 := by
    have : n / 2 ^ l % 2 = 0 := hn
    omega
  unfold bits
  rw [key, key, Nat.add_div_right _ (Nat.two_pow_pos l), hhalf]

/-- An image with its EN bit set. -/
def withEn (k : RingKind) (image : Nat) : Nat :=
  if imageField (enFld k) image == 1 then image else image + 2 ^ (enFld k).lo

theorem imageField_withEn (k : RingKind) (image : Nat) :
    imageField (enFld k) (withEn k image) = 1 ∧
      imageField (baseFld k) (withEn k image) = imageField (baseFld k) image ∧
      imageField (sizeFld k) (withEn k image) = imageField (sizeFld k) image := by
  obtain ⟨hw, hbase, hsize⟩ := enFld_below k
  unfold withEn
  split
  · rename_i h
    exact ⟨beq_iff_eq.1 h, rfl, rfl⟩
  · rename_i h
    have hclear : bits image (enFld k).lo 1 = 0 := by
      simp only [beq_iff_eq, imageField, hw, bits] at h ⊢
      omega
    refine ⟨?_, bits_add_below hbase hclear, bits_add_below hsize hclear⟩
    simp only [imageField, hw, bits, Nat.add_div_right _ (Nat.two_pow_pos _)] at hclear ⊢
    omega

/-! ### A write of a ring register -/

theorem rd_writeFields_other {fs : List Fld} {G : Fld} {m : Nat} (h : m ≠ i ∨ ∀ F ∈ fs, G.id ≠ F.id) :
    (s.writeFields fs i image).rd G m = s.rd G m := by
  unfold writeFields
  induction fs generalizing s with
  | nil => rfl
  | cons F fs ih =>
    refine (ih (h.imp_right fun h F hF => h F (List.mem_cons_of_mem _ hF))).trans (rd_wr_other _ _ _ _ _ ?_)
    exact h.symm.imp_left fun h => h F (List.mem_cons_self ..)

theorem rd_writeFields {fs : List Fld} {F : Fld} (hn : (fs.map Fld.id).Nodup) (hF : F ∈ fs) :
    (s.writeFields fs i image).rd F i = imageField F image := by
  induction fs generalizing s with
  | nil => exact absurd hF List.not_mem_nil
  | cons G fs ih =>
    obtain ⟨hG, hn⟩ := List.nodup_cons.1 hn
    rcases List.mem_cons.1 hF with rfl | hF
    · have hrest : ∀ H ∈ fs, F.id ≠ H.id := fun H hH e =>
        hG (List.mem_map.2 ⟨H, hH, e.symm⟩)
      have hfit : trunc F.w (imageField F image) = imageField F image := Nat.mod_eq_of_lt (imageField_lt F image)
      exact (rd_writeFields_other (.inr hrest)).trans ((rd_wr_same _ _ _).trans hfit)
    · exact ih hn hF

theorem startRing_rd {F : Fld} (m : Nat) (hf : F.id ≠ R.HOST_SYNC_LAST_FETCHED.id)
    (hc : F.id ≠ R.HOST_SYNC_LAST_COMPLETED.id) : (s.startRing k i).rd F m = s.rd F m := by
  cases k with
  | command =>
    simp only [startRing]
    split
    · rfl
    · exact (rd_wr_ne _ _ _ _ _ hc).trans (rd_wr_ne _ _ _ _ _ hf)
  | _ => rfl

/-- What is wrong with a ring as its register stands: its size, or that it overlaps another (R39). -/
def ringWrong (s : State) (k : RingKind) (i : Nat) : Bool :=
  decide (s.rd (sizeFld k) i < 4) || decide (12 < s.rd (sizeFld k) i)
    || s.ringOverlaps k i (s.rd (baseFld k) i * 4096) (entryBytes k * 2 ^ s.rd (sizeFld k) i)

/-- A write of a ring register writes the fields of its image and ERR, and may start the ring. -/
theorem writeRing_eq (s : State) (k : RingKind) (i image : Nat) : ∃ c : Bool,
    s.writeRing k i image =
      let w := s.writeFields (ringFields k) i image
      if !w.flag (enFld k) i then w.wr (errFld k) i 0
      else if w.ringWrong k i || c then w.wr (errFld k) i (b2n (w.ringWrong k i))
      else (w.wr (errFld k) i (b2n (w.ringWrong k i))).startRing k i :=
  ⟨_, rfl⟩

theorem writeRing_rd_side {F : Fld} (h : F.id ∉ ringSideIds k) (m : Nat) :
    (s.writeRing k i image).rd F m = (s.writeFields (ringFields k) i image).rd F m := by
  simp only [ringSideIds, List.mem_cons, List.not_mem_nil, or_false, not_or] at h
  obtain ⟨herr, hf, hc⟩ := h
  obtain ⟨c, hw⟩ := writeRing_eq s k i image
  simp only [hw]
  split
  · exact rd_wr_ne _ _ _ _ _ herr
  · split
    · exact rd_wr_ne _ _ _ _ _ herr
    · exact (startRing_rd m hf hc).trans (rd_wr_ne _ _ _ _ _ herr)

/-- After a write of a ring register its fields read as the image has them (R39). -/
theorem rd_writeRing {F : Fld} (hF : F ∈ ringFields k) : (s.writeRing k i image).rd F i = imageField F image :=
  (writeRing_rd_side (ringFields_side k F hF) i).trans (rd_writeFields (ringFields_nodup k) hF)

theorem ringSpan_eq (s : State) (k : RingKind) (i : Nat) : s.ringSpan k i = if s.ringOn k i then
    some (s.rd (baseFld k) i * 4096, entryBytes k * 2 ^ s.rd (sizeFld k) i) else none := by
  cases k <;> rfl

theorem ringOn_eq (s : State) (k : RingKind) (i : Nat) :
    s.ringOn k i = (s.rd (enFld k) i != 0 && !s.rd (errFld k) i != 0) := rfl

theorem ringSpan_congr (h : ∀ F ∈ [enFld k, errFld k, baseFld k, sizeFld k], t.rd F i = s.rd F i) :
    t.ringSpan k i = s.ringSpan k i := by
  simp only [List.forall_mem_cons] at h
  obtain ⟨hen, herr, hbase, hsize, -⟩ := h
  rw [ringSpan_eq, ringSpan_eq, ringOn_eq, ringOn_eq, hen, herr, hbase, hsize]

/-- Whether a ring's bytes overlap another ring does not depend on its own register. -/
theorem ringOverlaps_writeFields (b l : Nat) :
    (s.writeFields (ringFields k) i image).ringOverlaps k i b l = s.ringOverlaps k i b l := by
  unfold ringOverlaps
  congr 1
  funext r
  by_cases hr : r = (k, i)
  · simp [hr]
  · have hspan : (s.writeFields (ringFields k) i image).ringSpan r.1 r.2 = s.ringSpan r.1 r.2 := by
      refine ringSpan_congr fun F hF => rd_writeFields_other ?_
      by_cases hi : r.2 = i
      · exact .inr (spanFields_other (fun hk => hr (Prod.ext hk hi)) F hF)
      · exact .inl hi
    rw [hspan]

theorem imageOk_iff : s.imageOk k i image = true ↔
    i < ringCount k ∧ 4 ≤ imageField (sizeFld k) image ∧ imageField (sizeFld k) image ≤ 12 ∧
      s.ringOverlaps k i (imageField (baseFld k) image * 4096)
        (entryBytes k * 2 ^ imageField (sizeFld k) image) = false := by
  have h : s.imageOk k i image = (decide (i < ringCount k) && decide (4 ≤ imageField (sizeFld k) image) &&
      decide (imageField (sizeFld k) image ≤ 12) && !s.ringOverlaps k i (imageField (baseFld k) image * 4096)
        (entryBytes k * 2 ^ imageField (sizeFld k) image)) := rfl
  rw [h]
  simp only [Bool.and_eq_true, decide_eq_true_eq, Bool.not_eq_true', and_assoc]

/-- Nothing is wrong with a ring that an acceptable image sets up. -/
theorem ringWrong_writeFields (h : s.imageOk k i image = true) :
    (s.writeFields (ringFields k) i image).ringWrong k i = false := by
  obtain ⟨-, hlo, hhi, hover⟩ := imageOk_iff.1 h
  obtain ⟨-, hbase, hsize⟩ := ringFields_key k
  simp only [ringWrong, rd_writeFields (ringFields_nodup k) hbase, rd_writeFields (ringFields_nodup k) hsize,
    ringOverlaps_writeFields, hover, Bool.or_false, Bool.or_eq_false_iff, decide_eq_false_iff_not]
  omega

/-- An acceptable image with its EN bit set turns the ring on (R39). -/
theorem writeRing_ringOn (h : s.imageOk k i image = true) (hen : imageField (enFld k) image = 1) :
    (s.writeRing k i image).ringOn k i = true := by
  have hon : (s.writeRing k i image).rd (enFld k) i = 1 := (rd_writeRing (ringFields_key k).1).trans hen
  have hwon : (s.writeFields (ringFields k) i image).flag (enFld k) i = true := by
    rw [flag, rd_writeFields (ringFields_nodup k) (ringFields_key k).1, hen]
    rfl
  have herr : (s.writeRing k i image).rd (errFld k) i = 0 := by
    obtain ⟨c, hw⟩ := writeRing_eq s k i image
    rw [hw]
    simp only [hwon, ringWrong_writeFields h, Bool.not_true, Bool.false_eq_true, if_false, Bool.false_or]
    have hzero : ∀ t : State, (t.wr (errFld k) i (b2n false)).rd (errFld k) i = 0 := fun t =>
      (rd_wr_same _ _ _).trans (Nat.zero_mod _)
    split
    · exact hzero _
    · exact (startRing_rd i (by cases k <;> decide) (by cases k <;> decide)).trans (hzero _)
  rw [ringOn_eq, hon, herr]
  rfl

theorem imageOk_withEn : s.imageOk k i (withEn k image) = s.imageOk k i image := by
  obtain ⟨-, hbase, hsize⟩ := imageField_withEn k image
  rw [Bool.eq_iff_iff, imageOk_iff, imageOk_iff, hbase, hsize]

theorem writeFields_host {fs : List Fld} : (s.writeFields fs i image).host = s.host := by
  unfold writeFields
  induction fs generalizing s with
  | nil => rfl
  | cons F fs ih => exact ih

theorem startRing_destroys : (s.startRing k i).host.destroys = s.host.destroys := by
  cases k with
  | command =>
    simp only [startRing]
    split
    · rfl
    · rw [wr_host, wr_host]
  | _ => rfl

theorem writeRing_destroys : (s.writeRing k i image).host.destroys = s.host.destroys := by
  obtain ⟨c, hw⟩ := writeRing_eq s k i image
  simp only [hw]
  split
  · rw [wr_host, writeFields_host]
  · split
    · rw [wr_host, writeFields_host]
    · rw [startRing_destroys, wr_host, writeFields_host]

/-! ### Completions of the host link's commands -/

/-- What the host handed over last: its doorbells, the poll, and the words and the buffer it was given. -/
structure SameIo (s t : State) : Prop where
  dbCmd : t.host.dbCmd = s.host.dbCmd
  dbCpl : t.host.dbCpl = s.host.dbCpl
  dbStr : t.host.dbStr = s.host.dbStr
  pollAt1 : t.host.pollAt1 = s.host.pollAt1
  pollAddr : t.host.pollAddr = s.host.pollAddr
  dma : t.host.dma = s.host.dma

theorem SameIo.refl (s : State) : SameIo s s := ⟨rfl, rfl, rfl, rfl, rfl, rfl⟩

theorem SameIo.trans {u : State} (h : SameIo s t) (g : SameIo t u) : SameIo s u :=
  ⟨g.dbCmd.trans h.dbCmd, g.dbCpl.trans h.dbCpl, g.dbStr.trans h.dbStr, g.pollAt1.trans h.pollAt1,
    g.pollAddr.trans h.pollAddr, g.dma.trans h.dma⟩

theorem Posted.sameIo (h : Posted s t) : SameIo s t := by
  unfold Posted at h
  constructor <;> rw [h]

theorem creditBack_sameIo (c : Option Nat) : SameIo s (s.creditBack c) := by
  unfold creditBack
  split
  · exact .refl s
  · split <;> exact ⟨rfl, rfl, rfl, rfl, rfl, rfl⟩

theorem syncCompleted_host (ring : Nat) : (s.syncCompleted ring).host = s.host := wr_host _ _ _

theorem complete_sameIo (x : Ctx) (st r : Nat) : SameIo s (s.complete x st r) := by
  obtain ⟨c, h⟩ := complete_eq (s := s) x st r
  have hinfl : ∀ t : State, SameIo t (t.settleInfl x.ring x.seq (st == St.ACCEPTED)) := fun _ =>
    ⟨rfl, rfl, rfl, rfl, rfl, rfl⟩
  have hhist (t : State) (n m : Nat) : SameIo t ((t.setHist x.ring x.seq n m).syncCompleted x.ring) := by
    have hsync := syncCompleted_host (s := t.setHist x.ring x.seq n m) x.ring
    constructor <;> rw [hsync] <;> rfl
  rw [h]
  exact (((issueSeq_posted.sameIo.trans (hinfl _)).trans (creditBack_sameIo c)).trans (hhist _ _ _)).trans
    (writeCompletion_posted _ _).sameIo

theorem complete_answer_of {x : Ctx} {st : Nat} (r : Nat) (h : st ≠ St.ACCEPTED) :
    (s.complete x st r).answer x = some st := by
  rw [complete_answer, if_neg h]

theorem giveBuffer_dma (data : List Nat) :
    (s.giveBuffer data).host.dma = if s.attached = true then data else s.host.dma := by
  unfold giveBuffer
  split <;> rfl

theorem giveBuffer_destroys (data : List Nat) : (s.giveBuffer data).host.destroys = s.host.destroys := by
  unfold giveBuffer
  split <;> rfl

/-- The destruction of one command ring that waits takes place where no other command of it is in flight (R41). -/
theorem settleDestroys_one {d : Destroy} (h : s.host.destroys = [d])
    (hb : s.ringBusy d.ring (if d.ctx.ring = d.ring then d.ctx.seq else 2 ^ 32) = false) :
    s.settleDestroys =
      ((({ s with host := { s.host with destroys := [] } } : State).wr R.HOST_CMDR_EN d.ring 0).complete d.ctx
        St.OK) := by
  have hout : s.host.destroys.filter (· != d) = [] := by rw [h, List.filter_cons, bne_self_eq_false]; rfl
  unfold settleDestroys
  rw [h, forEach, List.foldl_cons, List.foldl_nil]
  simp only [hb, Bool.false_eq_true, if_false]
  rw [hout]

/-! ### The ring commands -/

@[simp] theorem complete_ok (x : Ctx) (r : Nat) : (s.complete x St.OK r).answer x = some St.OK :=
  complete_answer_of r (by decide)

@[simp] theorem complete_badParam (x : Ctx) (r : Nat) : (s.complete x St.BAD_PARAM r).answer x = some St.BAD_PARAM :=
  complete_answer_of r (by decide)

@[simp] theorem complete_busy (x : Ctx) (r : Nat) : (s.complete x St.BUSY r).answer x = some St.BUSY :=
  complete_answer_of r (by decide)

/-- A completion turns no ring on or off. -/
theorem complete_ringOn (x : Ctx) (st r : Nat) : (s.complete x st r).ringOn k i = s.ringOn k i := by
  have hids : (enFld k).id ∉ completeIds ∧ (errFld k).id ∉ completeIds := by cases k <;> decide
  rw [ringOn_eq, ringOn_eq, complete_rd _ _ _ _ _ hids.1, complete_rd _ _ _ _ _ hids.2]

theorem ringOn_wr_en_zero : (s.wr (enFld k) i 0).ringOn k i = false := by
  have hzero : (s.wr (enFld k) i 0).rd (enFld k) i = 0 := (rd_wr_same _ _ _).trans (Nat.zero_mod _)
  rw [ringOn_eq, hzero]
  rfl

section
variable {x : Ctx}

theorem taken_destroys {op : Nat} (h : (s.advance x.t).takes x op 0 = true) :
    ((s.advance x.t).start x).host.destroys = [] := by
  rw [start_destroys, takes_destroys h]

theorem complete_settle_ite {c : Prop} [Decidable c] {a b : State} {st st' : Nat} (ha : a.host.destroys = [])
    (hb : b.host.destroys = []) : (if c then a.complete x st else b.complete x st').settleDestroys =
      if c then a.complete x st else b.complete x st' := by
  split
  · exact complete_settle x st 0 ha
  · exact complete_settle x st' 0 hb

theorem ringCreate_next (h : (s.advance x.t).takes x Op.RING_CREATE 0 = true) :
    exec (.ringCreate x k i image) s = .next (
      let a := (s.advance x.t).start x
      if !a.imageOk k i image then a.complete x St.BAD_PARAM
      else if a.ringOn k i then a.complete x St.BUSY
      else (a.writeRing k i (withEn k image)).complete x St.OK) := by
  have hd := taken_destroys h
  refine command_next _ rfl h ?_
  simp only
  split
  · exact complete_settle x _ _ hd
  · exact complete_settle_ite hd (writeRing_destroys.trans hd)

/-- An event ring is turned off at once, as a stream ring is (R41). -/
theorem ringDestroy_event_next (h : (s.advance x.t).takes x Op.RING_DESTROY 0 = true) :
    exec (.ringDestroy x .event i) s = .next (
      let a := (s.advance x.t).start x
      if 8 ≤ i then a.complete x St.BAD_PARAM else (a.wr R.HOST_EVR_EN i 0).complete x St.OK) :=
  command_next _ rfl h (complete_settle_ite (taken_destroys h) (taken_destroys h))

theorem ringDestroy_stream_next (h : (s.advance x.t).takes x Op.RING_DESTROY 0 = true) :
    exec (.ringDestroy x .stream i) s = .next (
      let a := (s.advance x.t).start x
      if 8 ≤ i then a.complete x St.BAD_PARAM else (a.wr R.HOST_STR_EN i 0).complete x St.OK) :=
  command_next _ rfl h (complete_settle_ite (taken_destroys h) (taken_destroys h))

/-- A command ring with no other command in flight is turned off at once (R41). -/
theorem ringDestroy_command_next (h : (s.advance x.t).takes x Op.RING_DESTROY 0 = true) (hi : i < 16)
    (hb : ((s.advance x.t).start x).ringBusy i (if x.ring = i then x.seq else 2 ^ 32) = false) :
    exec (.ringDestroy x .command i) s = .next (
      ((({ (s.advance x.t).start x with host := { ((s.advance x.t).start x).host with destroys := [] } } : State).wr
        R.HOST_CMDR_EN i 0).complete x St.OK)) := by
  have hd := taken_destroys h
  refine command_next _ rfl h ((congrArg settleDestroys (if_neg (Nat.not_le.2 hi))).trans ?_)
  simp only [hd]
  exact settleDestroys_one (d := ⟨i, x⟩) rfl hb

theorem ringDestroy_completion_next (h : (s.advance x.t).takes x Op.RING_DESTROY 0 = true) (hi : i < 16) :
    exec (.ringDestroy x .completion i) s = .next (
      let a := (s.advance x.t).start x
      if (List.range 16).any (fun c => a.cmdOn c && a.rd R.HOST_CMDR_CQ c == i) then a.complete x St.BUSY
      else (a.wr R.HOST_CPLR_EN i 0).complete x St.OK) := by
  have hd := taken_destroys h
  refine command_next _ rfl h ((congrArg settleDestroys (if_neg (Nat.not_le.2 hi))).trans ?_)
  exact complete_settle_ite hd hd

/-- The events of the journal whose numbers lie in a span, oldest first. -/
def eventsFrom (s : State) (first span : Nat) : List Event :=
  (s.host.journal.filter fun e => decide ((e.seq + 2 ^ 32 - first) % 2 ^ 32 < span)).reverse

/-- What a fetch answers beside the events: their count, and the number to go on from. -/
def fetchResult (s : State) (first span : Nat) : Nat :=
  let left := (s.rd R.HOST_SYNC_GLOBAL_DEV_SEQ_HIGH + 1 + 2 ^ 32 - first) % 2 ^ 32
  (s.eventsFrom first span).length + 2 ^ 32 * ((first + min span left) % 2 ^ 32)

/-- A fetch from the oldest number of the journal is answered from there (R55). -/
theorem journalFetch_low_next {first span : Nat} (h : (s.advance x.t).takes x Op.JOURNAL_FETCH 0 = true)
    (hlo : 1 ≤ span) (hhi : span ≤ 4096)
    (hf : first = ((s.advance x.t).start x).rd R.HOST_SYNC_GLOBAL_JOURNAL_LOW) :
    exec (.journalFetch x first span) s = .next (
      let a := (s.advance x.t).start x
      (a.giveBuffer ((a.eventsFrom first span).flatMap eventWords)).complete x St.OK (a.fetchResult first span)) := by
  refine command_next _ rfl h ((congrArg settleDestroys (if_neg ?_)).trans
    (complete_settle x _ _ ((giveBuffer_destroys _).trans (taken_destroys h))))
  rw [← hf, bne_self_eq_false]
  simp
  omega

theorem journalFetch_span_next {first span : Nat} (h : (s.advance x.t).takes x Op.JOURNAL_FETCH 0 = true)
    (hs : span = 0 ∨ 4096 < span) :
    exec (.journalFetch x first span) s = .next (((s.advance x.t).start x).complete x St.BAD_PARAM) := by
  have hspan : (decide (span = 0) || decide (4096 < span)) = true := by simpa using hs
  refine command_next _ rfl h ?_
  simp only [hspan, Bool.true_or, if_true]
  exact complete_settle x _ _ (taken_destroys h)

/-- The status of one number that the history of its ring holds is handed to the host (R52). -/
theorem statusQuery_one_next {r n : Nat} {e : Hist} (h : (s.advance x.t).takes x Op.STATUS_QUERY 0 = true)
    (hr : r < 16) (hn : n < 2 ^ 32) (he : ((s.advance x.t).start x).histOf r n = some e) :
    exec (.statusQuery x r n 1) s = .next (
      (((s.advance x.t).start x).giveBuffer [e.status, e.dseq]).complete x St.OK) := by
  refine command_next _ rfl h ?_
  have hone : List.range 1 = [0] := rfl
  simp only [hone, List.map_cons, List.map_nil, Nat.add_zero, Nat.mod_eq_of_lt hn, he]
  rw [if_neg (by simp; omega)]
  exact complete_settle x _ _ ((giveBuffer_destroys _).trans (taken_destroys h))

theorem statusQuery_bad_next {r n c : Nat} (h : (s.advance x.t).takes x Op.STATUS_QUERY 0 = true)
    (hb : 16 ≤ r ∨ c = 0 ∨ 4096 < c) :
    exec (.statusQuery x r n c) s = .next (((s.advance x.t).start x).complete x St.BAD_PARAM) := by
  refine command_next _ rfl h ?_
  simp only
  rw [if_pos (by rcases hb with hb | hb | hb <;> simp [hb])]
  exact complete_settle x _ _ (taken_destroys h)

theorem echo_next {d : List Byte} (h : (s.advance x.t).takes x Op.ECHO 0 = true) :
    exec (.echo x d) s = .next (((s.advance x.t).start x).complete x St.OK
      ((d.take 12).foldr (fun b n => b.toNat + 256 * n) 0)) :=
  command_next _ rfl h (complete_settle x _ _ (taken_destroys h))

end

end State

/-- Settles O18: the effect of each command (`State.ringCreate_next` and those after it), read off. -/
theorem hostLinkCommands : Obligations.HostLinkCommands := by
  unfold Obligations.HostLinkCommands
  refine ⟨?_, ?_, ?_, ?_, ?_, ?_, ?_, ?_, ?_, ?_⟩
  · intro s x k i image b a h
    refine ⟨_, State.ringCreate_next h, ?_, fun hok hoff => ?_⟩
    · simp only [apply_ite (fun u : State => u.answer x), apply_ite (some : Nat → Option Nat), State.complete_ok,
        State.complete_badParam, State.complete_busy]
      rfl
    · simp only [show ((s.advance x.t).start x).imageOk k i image = true from hok,
        show ((s.advance x.t).start x).ringOn k i = false from hoff, Bool.not_true, Bool.false_eq_true, if_false]
      rw [State.complete_ringOn]
      exact State.writeRing_ringOn (State.imageOk_withEn.trans hok) (State.imageField_withEn k image).1
  · intro s x i b a h
    refine ⟨_, State.ringDestroy_event_next h, ?_, fun hi => ?_⟩
    · simp only [apply_ite (fun u : State => u.answer x), apply_ite (some : Nat → Option Nat), State.complete_ok,
        State.complete_badParam]
    · simp only [if_neg (Nat.not_le.2 hi)]
      exact (State.complete_ringOn (k := .event) _ _ _).trans State.ringOn_wr_en_zero
  · intro s x i b a h
    refine ⟨_, State.ringDestroy_stream_next h, ?_, fun hi => ?_⟩
    · simp only [apply_ite (fun u : State => u.answer x), apply_ite (some : Nat → Option Nat), State.complete_ok,
        State.complete_badParam]
    · simp only [if_neg (Nat.not_le.2 hi)]
      exact (State.complete_ringOn (k := .stream) _ _ _).trans State.ringOn_wr_en_zero
  · intro s x i b a h hi hb
    exact ⟨_, State.ringDestroy_command_next h hi hb, State.complete_ok _ _,
      (State.complete_ringOn (k := .command) _ _ _).trans State.ringOn_wr_en_zero⟩
  · intro s x i b a h hi
    refine ⟨_, State.ringDestroy_completion_next h hi, ?_⟩
    simp only [apply_ite (fun u : State => u.answer x), apply_ite (some : Nat → Option Nat), State.complete_ok,
      State.complete_busy]
    rfl
  · intro s x first span b a h hlo hhi hf
    refine ⟨_, State.journalFetch_low_next h hlo hhi hf, State.complete_ok _ _, ?_⟩
    rw [(State.complete_sameIo _ _ _).dma, State.giveBuffer_dma]
    cases hat : State.attached ((s.advance x.t).start x) with
    | false => exact (if_neg (by decide)).trans (if_pos rfl).symm
    | true => exact (if_pos rfl).trans (if_neg (by decide)).symm
  · intro s x first span b a h hs
    exact ⟨_, State.journalFetch_span_next h hs, State.complete_badParam _ _⟩
  · intro s x r n e b a h hr hn he
    refine ⟨_, State.statusQuery_one_next h hr hn he, State.complete_ok _ _, ?_⟩
    rw [(State.complete_sameIo _ _ _).dma, State.giveBuffer_dma]
  · intro s x r n c b a h hb
    exact ⟨_, State.statusQuery_bad_next h hb, State.complete_badParam _ _⟩
  · intro s x d b a h
    exact State.echo_next h

end Sys2Proof.Machine
end

section
/-! SUPPORT and PROOFS. The events of the host link: configuration space (R35), detach and attach (R63, R65), and what
draining the streams leaves unchanged (R59). -/

namespace Sys2Proof.Machine
namespace State

variable {s t u : State}

/-! ### Frames of loops -/

theorem rd_forEach {α : Type} {f : α → State → State} {G : Fld} {m : Nat} {xs : List α} {s : State}
    (hf : ∀ x ∈ xs, ∀ s, (f x s).rd G m = s.rd G m) : (forEach xs f s).rd G m = s.rd G m := by
  unfold forEach
  induction xs generalizing s with
  | nil => rfl
  | cons x xs ih =>
    exact (ih fun y hy => hf y (List.mem_cons_of_mem x hy)).trans (hf x (List.mem_cons_self ..) s)

theorem sameIo_forEach {α : Type} {f : α → State → State} {xs : List α} {s : State}
    (hf : ∀ x s, SameIo s (f x s)) : SameIo s (forEach xs f s) := by
  unfold forEach
  induction xs generalizing s with
  | nil => exact .refl s
  | cons x xs ih => exact (hf x s).trans ih

/-! ### Configuration space (R35) -/

theorem advance_powered (s : State) (t : Nat) : (s.advance t).powered = s.powered := by
  unfold powered
  rw [advance_phase]

theorem configRequest_next {t : Nat} {q : CfgReq} (hr : s.host.cfgReady = true) (hp : s.powered = true) :
    exec (.configRequest t q) s = .next ((s.advance t).configure q) :=
  congrArg Host.Outcome.next (if_pos (by rw [advance_host, advance_powered, hr, hp]; rfl))

theorem configRequest_refused {t : Nat} {q : CfgReq} (h : s.host.cfgReady = false ∨ s.powered = false) :
    exec (.configRequest t q) s = .next { s.advance t with host := { s.host with cfgAnswer := none } } := by
  refine congrArg Host.Outcome.next ((if_neg ?_).trans (by rw [advance_host]))
  rw [advance_host, advance_powered]
  rcases h with h | h <;> simp [h]

/-! ### Detach and attach (R63, R65) -/

theorem holdCompletion_rd {c : Completion} {G : Fld} (m : Nat) (h : G.id ∉ journalIds) :
    (s.holdCompletion c).rd G m = s.rd G m :=
  (quiet_journal _).1.regs G m h

theorem resetHostRegs_detached : s.resetHostRegs.rd R.HOST_CTRL_DETACHED = s.rd R.HOST_CTRL_DETACHED := by
  have hring : ∀ k, ∀ F ∈ errFld k :: ringFields k, R.HOST_CTRL_DETACHED.id ≠ F.id := fun k => by cases k <;> decide
  have hctrl : ∀ F ∈ [R.HOST_CTRL_POLL_US, R.HOST_CTRL_KICK_EN, R.HOST_CTRL_EN, R.HOST_DB_BASE_ADDR,
      R.HOST_STAT_BASE_ADDR, R.HOST_NOTIF_STAT_LOST, R.HOST_NOTIF_STAT_CORR, R.HOST_NOTIF_STAT_UNCORR],
      R.HOST_CTRL_DETACHED.id ≠ F.id := by decide
  refine (rd_forEach fun r _ s => rd_forEach fun F hF s => ?_).trans (rd_forEach fun F hF s => ?_)
  · exact rd_toReset_ne _ _ _ _ (hring r.1 F hF)
  · exact rd_toReset_ne _ _ _ _ (hctrl F hF)

theorem setHost_rd (h : HostSt) (F : Fld) (n : Nat) : { s with host := h }.rd F n = s.rd F n := rfl

theorem resetHostParts_rd (F : Fld) (n : Nat) : s.resetHostParts.rd F n = s.rd F n := rfl

theorem attached_of_rd (h : s.rd R.HOST_CTRL_DETACHED = 1) : s.attached = false := by
  unfold attached flag
  rw [h]
  rfl

/-- A detach of an attached host ends with the host detached, and the newest event of the journal says why (R63). -/
theorem detach_spec (h : s.attached = true) (c : DetachCause) :
    (s.detach c).attached = false ∧ (s.detach c).told = some (Ev.HOST_DETACH, 0, [detachCode c]) := by
  unfold detach
  extract_lets was s₁ s₂ s₃ held _ s₄ s₅ _ _ s₆ s₇
  have hwas : was = true := h
  have h₂ : s₂.rd R.HOST_CTRL_DETACHED = 1 := rd_wr_same _ _ _
  have h₃ : s₃.rd R.HOST_CTRL_DETACHED = 1 := by
    unfold s₃
    split
    · exact h₂
    · exact h₂
  have h₅ : s₅.rd R.HOST_CTRL_DETACHED = 1 :=
    (rd_forEach fun c _ s => holdCompletion_rd 0 (by decide)).trans h₃
  have h₆ : s₆.rd R.HOST_CTRL_DETACHED = 1 := by
    unfold s₆
    split
    · exact (rd_wr_ne _ _ _ _ _ (by decide)).trans h₅
    · exact h₅
    · exact (setHost_rd (s := s₅.resetHostRegs.resetHostParts) _ _ _).trans
        ((resetHostParts_rd _ _).trans (resetHostRegs_detached.trans h₅))
    · exact (resetHostParts_rd _ _).trans (resetHostRegs_detached.trans h₅)
  have h₇ : s₇.rd R.HOST_CTRL_DETACHED = 1 := by
    unfold s₇
    split
    · exact (raise_rd _ _ _ _ _ (by decide)).trans ((rd_wr_ne _ _ _ _ _ (by decide)).trans h₆)
    · exact h₆
  rw [if_pos hwas, raise_attached, raise_told]
  exact ⟨attached_of_rd h₇, rfl⟩

/-- The way to a state touches no part but the HOST island's, no doorbell and no event of the journal. -/
structure Drained (s t : State) : Prop where
  quiet : Quiet noteIds s t
  told : t.told = s.told
  io : SameIo s t

theorem Drained.refl (s : State) : Drained s s := ⟨(Quiet.refl s).mono (by simp), rfl, .refl s⟩

theorem Drained.trans (h : Drained s t) (k : Drained t u) : Drained s u :=
  ⟨(h.quiet.trans k.quiet).mono (by simp), k.told.trans h.told, h.io.trans k.io⟩

theorem irq_drained (v : Nat) : Drained s (s.irq v) :=
  ⟨(quiet_irq v).mono (by simp), irq_told v, (irq_signalled v).posted.sameIo⟩

theorem notify_drained (w : Notif) : Drained s (s.notify w) :=
  ⟨(quiet_notify w).1, (quiet_notify w).2, (notify_signalled w).posted.sameIo⟩

theorem notifIrq_drained : Drained s s.notifIrq := by
  unfold notifIrq
  split
  · exact .refl s
  · exact irq_drained 0

theorem drainStream_drained (n src j : Nat) (s : State) : Drained s (drainStream n src j s) := by
  induction n generalizing s with
  | zero => exact .refl s
  | succ n ih =>
    simp only [drainStream]
    split
    · exact .refl s
    · split
      · exact .refl s
      · refine Drained.trans ?_ (((notify_drained _).trans (irq_drained _)).trans (ih _))
        exact ⟨⟨fun _ _ _ => rfl, rfl, rfl, rfl, rfl⟩, rfl, ⟨rfl, rfl, rfl, rfl, rfl, rfl⟩⟩

theorem drainSource_drained (src : Nat) : Drained s (s.drainSource src) := by
  unfold drainSource
  split
  · exact .refl s
  · split
    · exact .refl s
    · exact drainStream_drained _ _ _ s

theorem drainAll_drained : Drained s s.drainAll := by
  unfold drainAll forEach
  induction s.host.strSrc.cells.map (·.1) generalizing s with
  | nil => exact .refl s
  | cons src srcs ih => exact (drainSource_drained src).trans ih

theorem ringMask_congr {k : RingKind} (h : ∀ F ∈ [enFld k, errFld k], ∀ i, t.rd F i = s.rd F i) :
    t.ringMask k = s.ringMask k := by
  have hon : ∀ i, t.ringOn k i = s.ringOn k i := fun i => by
    rw [ringOn_eq, ringOn_eq, h _ (by simp), h _ (by simp)]
  simp only [ringMask, hon]

/-- An attach of a host that is not attached, once the module is ready, ends with the host attached, and the newest
event of the journal holds its rings (R65). -/
theorem attach_spec (h : s.attached = false) (hr : s.flag R.GLOBAL_STATUS_HOST_READY = true) :
    s.attach.attached = true ∧ s.attach.told = some (Ev.HOST_ATTACH, 0,
      [s.ringMask .command, s.ringMask .completion, s.ringMask .event, s.ringMask .stream]) := by
  unfold attach
  extract_lets s₁ _ _ _ s₃ s₄ on
  have h₁ : s₁.attached = false := (wr_attached _ _ _ (by decide)).trans h
  have hr₁ : s₁.flag R.GLOBAL_STATUS_HOST_READY = true := (flag_wr_ne _ _ _ _ _ (by decide)).trans hr
  have h₃ : s₃.rd R.HOST_CTRL_DETACHED = 0 := (rd_wr_same _ _ _).trans (Nat.zero_mod _)
  have hmask : ∀ k, s₃.ringMask k = s.ringMask k := fun k => by
    have hids : ∀ F ∈ [enFld k, errFld k], F.id ≠ R.HOST_CTRL_DETACHED.id ∧ F.id ≠ R.HOST_CTRL_EN.id := by
      cases k <;> decide
    refine ringMask_congr fun F hF i => ?_
    exact (rd_wr_ne _ _ _ _ _ (hids F hF).1).trans (rd_wr_ne _ _ _ _ _ (hids F hF).2)
  have hend : Drained s₄ (if on then s₄.irq (s₄.rd R.GLOBAL_ALERT_EN_VECTOR) else s₄).drainAll.notifIrq := by
    refine Drained.trans ?_ (drainAll_drained.trans notifIrq_drained)
    split
    · exact irq_drained _
    · exact .refl _
  rw [if_neg (by simp [h₁]), if_neg (by simp [hr₁]), hend.told, attached_of_regs hend.quiet.regs (by decide)]
  refine ⟨?_, ?_⟩
  · unfold s₄
    rw [raise_attached, attached, flag, h₃]
    rfl
  · unfold s₄
    rw [raise_told, hmask, hmask, hmask, hmask]

end State
end Sys2Proof.Machine
end

section
/-! SUPPORT and PROOFS. What a poll of the doorbells, a kick, a gap report, a read of the notification data and a buffer
of a stream source do (R40, R49, R56, R57, R59), and the statement on the events of the host link. -/

namespace Sys2Proof.Machine
namespace State

variable {s t u : State}

/-! ### Doorbells (R40, R49) -/

/-- The first `n` producer or consumer counts of the doorbell block as a poll takes them from memory. -/
def takeCounts (n : Nat) (xs : List Nat) (tb : Tab Nat) : Tab Nat :=
  forEach (List.range n) (fun i (tb : Tab Nat) => tb.put 0 i (xs.getD i (tb.get 0 i) % 2 ^ 32)) tb

theorem get_takeCounts {n i : Nat} (xs : List Nat) (tb : Tab Nat) (h : i < n) :
    (takeCounts n xs tb).get 0 i = xs.getD i (tb.get 0 i) % 2 ^ 32 := by
  have key : ∀ (is : List Nat) (tb : Tab Nat), is.Nodup →
      (forEach is (fun i (tb : Tab Nat) => tb.put 0 i (xs.getD i (tb.get 0 i) % 2 ^ 32)) tb).get 0 i =
        if i ∈ is then xs.getD i (tb.get 0 i) % 2 ^ 32 else tb.get 0 i := by
    intro is
    induction is with
    | nil => exact fun _ _ => rfl
    | cons k ks ih =>
      intro tb hn
      obtain ⟨hk, hks⟩ := List.nodup_cons.1 hn
      refine (ih _ hks).trans ?_
      by_cases hik : i = k
      · subst hik
        simp [hk]
      · simp [hik]
  rw [takeCounts, key _ _ List.nodup_range, if_pos (List.mem_range.2 h)]

theorem wr_sameIo (F : Fld) (n v : Nat) : SameIo s (s.wr F n v) := ⟨rfl, rfl, rfl, rfl, rfl, rfl⟩

theorem releaseStops_sameIo (k : Nat) : SameIo s (releaseStops k s) := by
  induction k generalizing s with
  | zero => exact .refl s
  | succ k ih =>
    simp only [releaseStops]
    split
    · exact .refl s
    · rename_i c r _
      split
      · have hheld : SameIo s { s with host := { s.host with stopHeld := r } } := ⟨rfl, rfl, rfl, rfl, rfl, rfl⟩
        exact (hheld.trans (putCompletion_posted c false).sameIo).trans ih
      · exact .refl s

theorem releaseCompletions_sameIo : SameIo s s.releaseCompletions := by
  unfold releaseCompletions
  split
  · exact .refl s
  · have hheld : SameIo s { s with host := { s.host with cplHeld := [] } } := ⟨rfl, rfl, rfl, rfl, rfl, rfl⟩
    exact hheld.trans (sameIo_forEach fun c s => (writeCompletion_posted c false).sameIo)

/-- With no descriptor in memory a grant only moves the counters of the arbiter. -/
theorem grants_empty_sameIo (from0 : List Nat) : SameIo s (grants 1 from0 [] s) := by
  have hgrant : SameIo s (s.grant from0 []).1 := by
    unfold grant
    extract_lets _ s₁
    have h₁ : SameIo s s₁ := by
      unfold s₁
      split <;> exact ⟨rfl, rfl, rfl, rfl, rfl, rfl⟩
    split
    · exact h₁
    · split
      · exact h₁
      · extract_lets s₂
        have h₂ : SameIo s₁ s₂ := ⟨rfl, rfl, rfl, rfl, rfl, rfl⟩
        split
        · exact h₁.trans h₂
        · rename_i hd
          simp [descAt] at hd
  simp only [grants]
  split <;> exact hgrant

theorem coalesceDue_sameIo : SameIo s s.coalesceDue := by
  refine sameIo_forEach fun c s => ?_
  extract_lets k us v
  split
  · have hcoal : SameIo s { s with host := { s.host with coal := s.host.coal.put ⟨0, 0⟩ c ⟨0, 0⟩ } } :=
      ⟨rfl, rfl, rfl, rfl, rfl, rfl⟩
    exact hcoal.trans (irq_signalled v).posted.sameIo
  · exact .refl s

theorem settleDestroys_sameIo : SameIo s s.settleDestroys := by
  refine sameIo_forEach fun d s => ?_
  extract_lets mine _ s₁
  split
  · exact .refl s
  · have h₁ : SameIo s s₁ := ⟨rfl, rfl, rfl, rfl, rfl, rfl⟩
    exact (h₁.trans (wr_sameIo _ _ _)).trans (complete_sameIo _ _ _)

/-- What a poll of the doorbells does once it has the counts, where memory holds no descriptor. -/
def afterCounts (bufs : List (List Nat)) (s : State) : State :=
  let s := forEach (List.range 8) (fun j s => s.noteBuffers j (bufs.getD j [])) s
  let s := (releaseStops 64 s).releaseCompletions.drainAll
  (grants 1 ((List.range 16).map fun i => s.host.cmdFetch.get 0 i) [] s).coalesceDue.settleDestroys

theorem afterCounts_sameIo (bufs : List (List Nat)) : SameIo s (afterCounts bufs s) := by
  have hbufs : SameIo s (forEach (List.range 8) (fun j s => s.noteBuffers j (bufs.getD j [])) s) :=
    sameIo_forEach fun _ _ => ⟨rfl, rfl, rfl, rfl, rfl, rfl⟩
  have hheld := (hbufs.trans (releaseStops_sameIo 64)).trans releaseCompletions_sameIo
  exact (((hheld.trans drainAll_drained.io).trans (grants_empty_sameIo _)).trans coalesceDue_sameIo).trans
    settleDestroys_sameIo

/-- A poll that is due takes the counts of the doorbell block, and notes when and where it read them. -/
def polled (cmds cpls evs strs : List Nat) (s : State) : State :=
  { s with host := { s.host with
    pollAt1 := s.mtb + 1, pollAddr := s.rd R.HOST_DB_BASE_ADDR * 4096,
    dbCmd := takeCounts 16 cmds s.host.dbCmd, dbCpl := takeCounts 16 cpls s.host.dbCpl,
    dbEv := takeCounts 8 evs s.host.dbEv, dbStr := takeCounts 8 strs s.host.dbStr } }

theorem doorbellPoll_next {k : Nat} {cmds cpls evs strs : List Nat} {bufs : List (List Nat)}
    (hu : (s.advance k).up = true) (ha : (s.advance k).attached = true) (hp : (s.advance k).pollDue = true) :
    exec (.doorbellPoll k cmds cpls evs strs [] bufs) s =
      .next (afterCounts bufs (polled cmds cpls evs strs (s.advance k))) :=
  onEvent_next (s.advance k) rfl hu (if_neg (by simp [ha, hp]))

/-- No poll is due before the period has passed since the last one (R40). -/
theorem pollDue_early (h0 : s.host.pollAt1 ≠ 0)
    (h : s.mtb + 1 < s.host.pollAt1 + max 2 (min 200 (s.rd R.HOST_CTRL_POLL_US)) * 1000) : s.pollDue = false := by
  unfold pollDue
  rw [beq_false_of_ne h0, Bool.false_or]
  exact decide_eq_false (Nat.not_le.2 h)

theorem doorbellPoll_early {k : Nat} {cmds cpls evs strs : List Nat} {descs : List (List Desc)} {bufs : List (List Nat)}
    (hu : (s.advance k).up = true) (hp : (s.advance k).pollDue = false) :
    exec (.doorbellPoll k cmds cpls evs strs descs bufs) s = .next (s.advance k) :=
  onEvent_next (s.advance k) rfl hu (if_pos (by simp [hp]))

theorem kick_next {k off prod : Nat} {bufs : List Nat} (hu : (s.advance k).up = true)
    (ha : (s.advance k).attached = true) (hk : (s.advance k).flag R.HOST_CTRL_KICK_EN = true) (h4 : off % 4 = 0)
    (hoff : off < 0x60) : ∃ u, exec (.kick k off prod [] bufs) s = .next u ∧
      (off < 0x40 → u.host.dbCmd.get 0 (off / 4) = prod % 2 ^ 32) ∧
      (0x40 ≤ off → u.host.dbStr.get 0 ((off - 0x40) / 4) = prod % 2 ^ 32) := by
  refine ⟨_, onEvent_next (s.advance k) rfl hu (if_neg (by simp [ha, hk, h4])), ?_⟩
  by_cases hc : off < 0x40
  · rw [if_pos hc]
    exact ⟨fun _ => (Tab.get_put _ _ _ _ _).trans (if_pos rfl), fun h => absurd hc (Nat.not_lt.2 h)⟩
  · rw [if_neg hc, if_pos hoff]
    refine ⟨fun h => absurd h hc, fun _ => ?_⟩
    simp only [drainAll_drained.io.dbStr, Tab.get_put, if_true]

/-! ### Held completions, gaps and notifications (R46, R56, R57) -/

theorem releaseStops_one {c : Completion} {r : List Completion} (ha : s.attached = true) (hh : s.host.stopHeld = c :: r)
    (hr : s.stopRoom = true) :
    releaseStops 1 s = ({ s with host := { s.host with stopHeld := r } } : State).putCompletion c false := by
  simp only [releaseStops, hh, ha, hr, Bool.and_self, if_true]

theorem reportGap_told {j : Nat} (hg : (s.host.gaps.get ⟨0, 0⟩ j).first ≠ 0) (ha : s.attached = true)
    (he : s.evOn j = true) (hr : s.evRoom j = true) : (s.reportGap j).told =
      some (Ev.EVR_GAP, j, [j, (s.host.gaps.get ⟨0, 0⟩ j).first, (s.host.gaps.get ⟨0, 0⟩ j).last]) := by
  refine (congrArg told (if_pos (by simp [hg, ha, he, hr]))).trans ?_
  exact (quiet_putEvent j _).2.trans (quiet_journal _).2

theorem notifIrq_data : s.notifIrq.host.readWords = s.host.readWords ∧
    s.notifIrq.host.notifDrain = s.host.notifDrain := by
  unfold notifIrq irq
  split
  · exact ⟨rfl, rfl⟩
  · split <;> exact ⟨rfl, rfl⟩

theorem popNotif_data {w : Notif} {r : List Notif} (flips : Nat) (h : s.host.notifDrain = w :: r) :
    (s.popNotif flips).host.readWords = (if 2 ≤ flips then [0, 0xFF00_0000]
      else [w.count, w.kind * 2 ^ 24 + w.ring * 2 ^ 16 + min w.added 0xFFFF]) ∧
    (s.popNotif flips).host.notifDrain = (if r = [] then s.host.notifFill else r) := by
  have hne : s.host.notifDrain ≠ [] := by simp [h]
  unfold popNotif
  extract_lets _ s₁ _ s₂ _
  have h₁ : s₁ = s := if_neg hne
  have h₂ : s₂.host = s₁.host := by
    unfold s₂
    split
    · exact wr_host _ _ _
    · split
      · exact wr_host _ _ _
      · rfl
  clear_value s₁ s₂
  subst h₁
  rw [h]
  dsimp only
  rw [notifIrq_data.1, notifIrq_data.2, h₂]
  refine ⟨?_, rfl⟩
  dsimp only
  split <;> rfl

/-! ### Streams (R59) -/

theorem leBytes_length (k n : Nat) : (leBytes k n).length = k := by
  induction k generalizing n with
  | zero => rfl
  | succ k ih => exact congrArg (· + 1) (ih _)

theorem word16_length (vs : List Int) : (word16 vs).length = 2 * vs.length := by
  simp only [word16, List.length_flatMap, leBytes_length, List.map_const', List.sum_replicate, smul_eq_mul,
    Nat.mul_comm]

theorem streamRing_congr (h : ∀ F ∈ [R.HOST_STR_EN, R.HOST_STR_ERR, R.HOST_STR_SOURCES], ∀ j, t.rd F j = s.rd F j)
    (src : Nat) : t.streamRing src = s.streamRing src := by
  have hen := h R.HOST_STR_EN (by simp)
  have herr := h R.HOST_STR_ERR (by simp)
  have hsrc := h R.HOST_STR_SOURCES (by simp)
  simp only [streamRing, strOn, flag, hen, herr, hsrc]

theorem drainSource_noRing {src : Nat} (h : s.streamRing src = none) : s.drainSource src = s := by
  unfold drainSource
  rw [h]
  split <;> rfl

/-- A block of a source that no stream ring takes waits in the source's buffer, or is counted as lost. -/
theorem streamBlock_noRing {src : Nat} (b : StreamBlock) (h : s.streamRing src = none) :
    (s.streamBlock src b).host.strSrc.get StreamSrc.init src =
      let st := s.host.strSrc.get StreamSrc.init src
      if s.bankUse src + b.payload.length ≤ 131072 then { st with waiting := st.waiting ++ [b] }
      else { st with lost := st.lost + b.samples } := by
  have hkept : ∀ tb, ({ s with host := { s.host with strSrc := tb } } : State).drainSource src =
      { s with host := { s.host with strSrc := tb } } := fun tb =>
    drainSource_noRing ((streamRing_congr (fun _ _ _ => rfl) src).trans h)
  simp only [streamBlock, drainSource_noRing h, hkept, Tab.get_put, if_true]

theorem endCapture_host (p : Nat) : (s.endCapture p).host = s.host := by
  unfold endCapture setFlag
  rw [wr_host, wr_host]
  rfl

/-- A buffer of a phase converter that captures continuously in 16-bit samples is one block of its stream. -/
theorem sourceBlock_phase {src first : Nat} {data : List (List Int)} (hsrc : src < 11) (hon : (s.cap src).on = true)
    (hfmt : (s.cap src).fmt = 2) (hcont : (s.cap src).cont = true) (hring : s.streamRing src = none)
    (hlen : data.length ≤ 2016) :
    (s.sourceBlock src first data).host.strSrc.get StreamSrc.init src =
      let st := s.host.strSrc.get StreamSrc.init src
      if s.bankUse src + 2 * data.length ≤ 131072 then
        { st with waiting := st.waiting ++ [⟨2, first, data.length, word16 (data.map fun r => r.headD 0)⟩] }
      else { st with lost := st.lost + data.length } := by
  have htake : data.take 2016 = data := List.take_of_length_le hlen
  simp only [sourceBlock, hsrc, if_true, hon, hfmt, hcont, htake, Bool.not_true, Bool.false_eq_true, if_false,
    OfNat.ofNat_ne_one, List.length_map, takenOf]
  generalize hk : (if src < 10 then s.addSat R.AFE_PADC_OVR_CNT src
    ((data.map fun r => r.headD 0).filter over12).length else s) = k
  have hhost : k.host = s.host := by
    subst hk
    split
    · exact wr_host _ _ _
    · rfl
  have hregs : ∀ F ∈ [R.HOST_STR_EN, R.HOST_STR_ERR, R.HOST_STR_SOURCES], ∀ j, k.rd F j = s.rd F j := by
    have hids : ∀ F ∈ [R.HOST_STR_EN, R.HOST_STR_ERR, R.HOST_STR_SOURCES], F.id ≠ R.AFE_PADC_OVR_CNT.id := by decide
    intro F hF j
    subst hk
    split
    · exact rd_wr_ne _ _ _ _ _ (hids F hF)
    · rfl
  have hblock := streamBlock_noRing (s := k.setCap src (s.cap src))
    ⟨2, first, data.length, word16 (data.map fun r => r.headD 0)⟩ ((streamRing_congr hregs src).trans hring)
  have hend : ∀ w : State, (if (w.cap src).on = true then w else w.endCapture src).host = w.host := fun w => by
    split
    · rfl
    · exact endCapture_host _
  rw [hend, hblock]
  simp only [bankUse, setCap, hhost, word16_length, List.length_map]
  rfl

theorem notify_irq_streams (w : Notif) (v : Nat) : ((s.notify w).irq v).host.strMem = s.host.strMem ∧
    ((s.notify w).irq v).host.strFill = s.host.strFill ∧ ((s.notify w).irq v).host.strSrc = s.host.strSrc := by
  have h := (notify_signalled w).trans (irq_signalled (s := s.notify w) v)
  unfold Signalled at h
  rw [h]
  exact ⟨rfl, rfl, rfl⟩

/-- The stream entry that the oldest waiting block of a source becomes in its ring. -/
def streamEntry (s : State) (src j : Nat) (b : StreamBlock) : StreamEntry :=
  let st := s.host.strSrc.get StreamSrc.init src
  ⟨s.host.strAddr.get 0 (key2 j (s.host.strFill.get 0 j % 2 ^ s.rd R.HOST_STR_SIZE_LOG2 j)), src, b.fmt, st.block,
    b.payload.length, b.samples, b.mtb, st.lost, decide (st.lost ≠ 0), b.payload⟩

/-- A source with one waiting block and a buffer in its ring writes that block. -/
theorem drainSource_one {src j : Nat} {b : StreamBlock} (ha : s.attached = true) (hring : s.streamRing src = some j)
    (hw : (s.host.strSrc.get StreamSrc.init src).waiting = [b])
    (hroom : s.host.strFill.get 0 j ≠ s.host.dbStr.get 0 j) :
    (s.drainSource src).host.strMem.get StreamEntry.none
        (key2 j (s.host.strFill.get 0 j % 2 ^ s.rd R.HOST_STR_SIZE_LOG2 j)) = s.streamEntry src j b ∧
      (s.drainSource src).host.strFill.get 0 j = (s.host.strFill.get 0 j + 1) % 2 ^ 32 ∧
      (s.drainSource src).host.strSrc.get StreamSrc.init src =
        ⟨((s.host.strSrc.get StreamSrc.init src).block + 1) % 2 ^ 32, [], 0⟩ := by
  simp only [drainSource, ha, hring, hw, List.length_singleton, drainStream, hroom, Bool.not_true, Bool.false_eq_true,
    if_false, notify_irq_streams, Tab.get_put, if_true, streamEntry, and_self]

theorem streamBufferFill_next {k src first : Nat} {data : List (List Int)} (hu : (s.advance k).up = true)
    (h : src < 12 ∨ 24 ≤ src) :
    exec (.streamBufferFill k src first data) s = .next ((s.advance k).sourceBlock src first data) :=
  onEvent_next (s.advance k) rfl hu (if_neg (by simp only [Bool.and_eq_true, decide_eq_true_eq]; omega))

end State

open State

/-- Settles O17: each event answers with its own function's state, and what the clause names is read off that state by
the lemma on the function. -/
theorem hostLinkEvents : Obligations.HostLinkEvents := by
  unfold Obligations.HostLinkEvents
  refine ⟨fun s k i hr hp => ⟨_, configRequest_next hr hp, ?_⟩, fun s k b hr hp =>
      ⟨⟨_, configRequest_next hr hp, ?_⟩, ⟨_, configRequest_next hr hp, ?_⟩⟩, fun s k q h => configRequest_refused h,
    fun s k hp => ⟨_, rfl, rfl, ?_⟩, ?_⟩
  · rw [← advance_host (s := s) k]
    cases i <;> rfl
  · simp [configure]
  · simp [configure, or_assoc]
  · exact (advance_powered s k).trans hp
  refine ⟨fun s k c hu ha => ⟨_, congrArg Host.Outcome.next (if_pos hu), detach_spec ha c⟩,
    fun s k hu ha hc hr => ⟨_, congrArg Host.Outcome.next ((if_neg (by simpa using hc)).trans (if_pos hu)),
      attach_spec ha hr⟩,
    fun s k kind i image hu hi => ⟨_, onEvent_next _ rfl hu (if_pos hi), fun F hF => rd_writeRing hF⟩, ?_⟩
  refine ⟨fun s k cmds cpls evs strs bufs i hu ha hp hi => ⟨_, doorbellPoll_next hu ha hp, ?_⟩,
    fun s k cmds cpls evs strs descs bufs hu ha h0 hearly => doorbellPoll_early hu (pollDue_early h0 hearly),
    fun s k off prod bufs hu ha hk h4 hoff => kick_next hu ha hk h4 hoff, ?_⟩
  · have hio := afterCounts_sameIo (s := polled cmds cpls evs strs (s.advance k)) bufs
    rw [hio.pollAt1, hio.pollAddr, hio.dbCmd, hio.dbCpl]
    exact ⟨rfl, rfl, get_takeCounts _ _ hi, get_takeCounts _ _ hi⟩
  refine ⟨fun s k c r hu ha hh hon hroom => onEvent_next _ rfl hu (releaseStops_one ha hh ?_),
    fun s k j hu ha hg he hr => ⟨_, onEvent_next _ rfl hu rfl, reportGap_told hg ha he hr⟩,
    fun s k flips w r hu h => ⟨_, onEvent_next _ rfl hu rfl, popNotif_data flips h⟩,
    fun s k src first data hu hsrc hon hfmt hcont hring hlen _ =>
      ⟨_, streamBufferFill_next hu (.inl (by omega)), sourceBlock_phase hsrc hon hfmt hcont hring hlen⟩,
    fun s k src first j b data hu hsrc ha hring hw hroom => ⟨_, streamBufferFill_next hu (.inr hsrc), ?_⟩⟩
  · simp only [stopRoom, hon, hroom, decide_true, Bool.and_self]
  · rw [sourceBlock, if_neg (by omega)]
    exact drainSource_one ha hring hw hroom

end Sys2Proof.Machine
end

section
/-! SUPPORT and PROOFS. What happens to a Cask between its commands: validation (R72, R74), the time limits (R72), the
commit record (R80), the SYNC_IN edge (R79), the retraction (R82), the application (R81, R83) and the end of a disable
(R84). -/

namespace Sys2Proof.Machine
namespace State

variable {s t : State} {k : Nat}

/-! ### Cask slots -/

theorem slot_congr (h : t.cask = s.cask) (k : Nat) : t.slot k = s.slot k := by
  rw [slot, h]
  rfl

theorem slot_setSlot_same (c : CaskSlot) : (s.setSlot k c).slot k = c := by
  simp only [slot, setSlot, Tab.get_put, if_true]

theorem slot_modSlot_same (f : CaskSlot → CaskSlot) : (s.modSlot k f).slot k = f (s.slot k) := slot_setSlot_same _

theorem slot_freeSlot_same (status : Nat) :
    (s.freeSlot k status).slot k = { CaskSlot.init with lastStatus := status } :=
  slot_setSlot_same _

/-! ### Validation -/

theorem slotRefused_of_needs_zero {c : CaskSlot} (h : c.needs = 0) : s.slotRefused c = none := by
  simp [slotRefused, h, actRefused, bit]

/-- A region of the display that is armed for a Cask lies outside the coordinator. -/
theorem dispArm_cask (a : CaskAct) : (s.dispArm k a).cask = s.cask := by
  unfold dispArm
  split
  · split
    · rfl
    · unfold dispTake
      split <;> rfl
  · rfl

theorem forEach_dispArm_cask (acts : List CaskAct) : (forEach acts (fun a s => s.dispArm k a) s).cask = s.cask := by
  induction acts generalizing s with
  | nil => rfl
  | cons a acts ih => exact ih.trans (dispArm_cask a)

/-- A Cask with a valid part on every island and no consent to wait for is PREPARED, and its command completes OK. -/
theorem validated_prepared (hst : (s.slot k).st = .preparing) (hinv : s.invalidAct k false = none)
    (hneeds : (s.slot k).needs = 0) :
    ((s.validated k).slot k).st = .prepared ∧ ((s.validated k).slot k).ctx = none ∧
      ∀ x, (s.slot k).ctx = some x → (s.validated k).answer x = some St.OK := by
  unfold validated
  simp only [hst, bne_self_eq_false, Bool.false_eq_true, if_false, hinv, hneeds, Bool.false_and,
    slotRefused_of_needs_zero hneeds]
  have hslot : ∀ {u : State} {c : CaskSlot},
      u.cask = (forEach (s.slot k).acts (fun a s => s.dispArm k a) (s.setSlot k c)).cask → u.slot k = c :=
    fun h => (slot_congr (h.trans (forEach_dispArm_cask _)) k).trans (slot_setSlot_same _)
  split
  · next y hy =>
    rw [hslot (complete_cask _ _ _)]
    refine ⟨rfl, rfl, fun x hx => ?_⟩
    obtain rfl : y = x := Option.some.inj (hy.symm.trans hx)
    exact complete_ok _ _
  · next hy =>
    rw [hslot rfl]
    exact ⟨rfl, rfl, fun x hx => nomatch hy.symm.trans hx⟩

theorem validated_invalid {r i l : Nat} (hst : (s.slot k).st = .preparing)
    (hinv : s.invalidAct k false = some (r, i, l)) (hr : r < 2 ^ 32) : s.validated k = s.abortCask k r i l 0 := by
  unfold validated
  simp only [hst, bne_self_eq_false, Bool.false_eq_true, if_false, hinv, Nat.mod_eq_of_lt hr, Nat.div_eq_of_lt hr,
    Nat.mul_zero]

/-! ### Aborts -/

/-- An abort frees the slot of a state in which CASK_ABORTED is raised and counted, and the waiting command answered. -/
theorem abortCask_eq_freeSlot (s : State) (k status i l result : Nat) :
    ∃ u : State, s.abortCask k status i l result = u.freeSlot k status ∧ u.cask = s.cask ∧
      u.rd R.CASK_STAT_ABORTED = satAdd R.CASK_STAT_ABORTED.w (s.rd R.CASK_STAT_ABORTED) 1 := by
  unfold abortCask
  extract_lets c s₁ s₂ s₃
  have hcask : s₂.cask = s.cask := raise_cask _ _ _
  have hrd : s₂.rd R.CASK_STAT_ABORTED = satAdd R.CASK_STAT_ABORTED.w (s.rd R.CASK_STAT_ABORTED) 1 :=
    (raise_rd _ _ _ _ _ (by decide)).trans (rd_incSat_same _ _)
  refine ⟨s₃, rfl, ?_⟩
  unfold s₃
  split
  · exact ⟨(complete_cask _ _ _).trans hcask, (complete_rd _ _ _ _ _ (by decide)).trans hrd⟩
  · exact ⟨(finalise_cask _ _).trans hcask, (finalise_rd _ _ _ _).trans hrd⟩
  · exact ⟨hcask, hrd⟩

theorem slot_abortCask_same (s : State) (k status i l result : Nat) :
    (s.abortCask k status i l result).slot k = { CaskSlot.init with lastStatus := status } := by
  obtain ⟨u, e, _⟩ := abortCask_eq_freeSlot s k status i l result
  rw [e, slot_freeSlot_same]

theorem abortCask_records (s : State) (k status i l result : Nat) :
    (s.abortCask k status i l result).cask.records = s.cask.records := by
  obtain ⟨u, e, hcask, _⟩ := abortCask_eq_freeSlot s k status i l result
  rw [e, ← hcask]
  rfl

theorem rd_abortCask_aborted (s : State) (k status i l result : Nat) :
    (s.abortCask k status i l result).rd R.CASK_STAT_ABORTED =
      satAdd R.CASK_STAT_ABORTED.w (s.rd R.CASK_STAT_ABORTED) 1 := by
  obtain ⟨u, e, _, hrd⟩ := abortCask_eq_freeSlot s k status i l result
  rw [e, ← hrd]
  rfl

/-! ### The commit record -/

/-- The newest commit record says whether it is whole; the slot is RECORDED when it is, and else free. -/
theorem writeRecord_spec (s : State) (k : Nat) (whole : Bool) :
    ((s.writeRecord k whole).slot k).st = (if whole then .recorded else .free) ∧
      (s.writeRecord k whole).cask.records.head?.map (·.whole) = some whole ∧
      (whole = false → ((s.writeRecord k whole).slot k).lastStatus = St.RECORD_FAIL) := by
  cases whole with
  | true =>
    refine ⟨?_, rfl, nofun⟩
    simp only [writeRecord, if_true, slot_modSlot_same]
  | false =>
    refine ⟨congrArg CaskSlot.st (slot_abortCask_same ..), ?_,
      fun _ => congrArg CaskSlot.lastStatus (slot_abortCask_same ..)⟩
    exact congrArg (fun l => l.head?.map CommitRec.whole) (abortCask_records ..)

/-! ### Completion -/

theorem finaliseOpt_told (x : Option Ctx) (status : Nat) : (s.finaliseOpt x status).told = s.told := by
  cases x with
  | some x => exact finalise_told x status
  | none => rfl

theorem caskDone_told (s : State) (k : Nat) :
    (s.caskDone k).told = some (Ev.CASK_DONE, 0, [(s.slot k).id, closeOutlet k,
      if (s.slot k).held = 0 then St.OK else St.COMMITTED_SAFETY_HELD, (s.slot k).tApply,
      b2n (s.slot k).appliedEarly + 2 * b2n ((s.slot k).held != 0), (s.slot k).held]) := by
  refine (finaliseOpt_told _ _).trans ((raise_told _ _ _).trans ?_)
  by_cases h : (s.slot k).held = 0 <;> simp [h]

theorem slot_caskDone_same (s : State) (k : Nat) :
    (s.caskDone k).slot k = { CaskSlot.init with
      lastStatus := if (s.slot k).held = 0 then St.OK else St.COMMITTED_SAFETY_HELD } := by
  refine (slot_freeSlot_same _).trans ?_
  by_cases h : (s.slot k).held = 0 <;> simp [h]

/-! ### The end of a disable -/

/-- A disable has taken effect. -/
def endDisable (s : State) (d : Disable) : State :=
  { s with cask := { s.cask with disables := s.cask.disables.map fun e => if e == d then { e with done := true } else e } }

/-- A disable of no display, load switch or outlet, on which no session lives, ends with its event and its outcome. -/
theorem funcDisableDone_next {at_ block inst : Nat} {d : Disable} (hu : (s.advance at_).up = true)
    (hd : ((s.advance at_).cask.disables.find? fun e => e.block == block && e.inst == inst && !e.done) = some d)
    (hlive : (s.advance at_).sessionsOf block inst = []) (hC : block ≠ 0x0C) (hD : block ≠ 0x0D) (h3 : block ≠ 0x03) :
    exec (.funcDisableDone at_ block inst) s = .next ((((s.advance at_).endDisable d).raise Ev.FUNC_DISABLED 0
      [block, inst, d.cancelled, d.closed]).finalise d.ctx St.OK) := by
  refine onEvent_next _ rfl hu ?_
  simp only [hd, hlive, hC, hD, h3, List.any_nil, Bool.false_eq_true, if_false, decide_false, Bool.false_and]
  rfl

end State

open State

/-- Settles O22: each event answers with its own function's state, and what the clause names is read off that state by
the lemma on the function. -/
theorem caskEvents : Obligations.CaskEvents := by
  unfold Obligations.CaskEvents
  refine ⟨?validated, ?invalid, ?openTimeout, ?preparedTimeout, ?abort, ?record, ?syncEdge, ?syncTimeout, ?retract,
    ?apply, ?done, ?disabled⟩
  case validated =>
    exact fun s t k hu hk hst hinv hneeds =>
      ⟨_, onEvent_next _ rfl hu (if_pos hk), validated_prepared hst hinv hneeds⟩
  case invalid =>
    exact fun s t k r i l hu hk hst hinv hr =>
      onEvent_next _ rfl hu ((if_pos hk).trans (validated_invalid hst hinv hr))
  case openTimeout =>
    exact fun s t k hu hst hdue => onEvent_next _ rfl hu (if_pos (by simpa [hst] using hdue))
  case preparedTimeout =>
    exact fun s t k hu hst hdue => onEvent_next _ rfl hu (if_pos (by simpa [hst] using hdue))
  case abort =>
    intro s k st i l r
    exact ⟨congrArg CaskSlot.st (slot_abortCask_same ..), congrArg CaskSlot.lastStatus (slot_abortCask_same ..),
      rd_abortCask_aborted ..⟩
  case record =>
    exact fun s t k w hu hst hack hmode hlead hlate =>
      ⟨_, onEvent_next _ rfl hu (if_pos (by simp [hst, hack, hmode, hlead, hlate])), writeRecord_spec _ k w⟩
  case syncEdge =>
    exact fun s t e f hu hf => onEvent_next _ rfl hu (if_neg (by simp [hf]))
  case syncTimeout =>
    exact fun s t k hu hst hmode h0 hdue => onEvent_next _ rfl hu (if_pos (by simpa [hst, hmode, h0] using hdue))
  case retract =>
    refine fun s t k hcore hst h0 hdue => onCore_next _ rfl hcore ((if_pos (by simp [hst, h0, hdue])).trans ?_)
    simp only [beq_iff_eq]
  case apply =>
    exact fun s t k l b hu hk hst hdue => onEvent_next _ rfl hu ((if_pos (by simp [hst, hdue])).trans (if_pos hk))
  case done =>
    intro s k
    exact ⟨congrArg CaskSlot.st (slot_caskDone_same s k), congrArg CaskSlot.lastStatus (slot_caskDone_same s k),
      caskDone_told s k⟩
  case disabled =>
    exact fun s t b i d hu hd hlive hC hD h3 => ⟨_, funcDisableDone_next hu hd hlive hC hD h3,
      (finalise_told _ _).trans (raise_told _ _ _), finalise_answer _ _⟩

end Sys2Proof.Machine
end

section
/-! SUPPORT. The operations along which a coil that does not conduct stays so (R131, R140, R151): all but the close of a
contactor, the pull-in, the dark test and the take-over. -/

namespace Sys2Proof.Machine

/-! ### A coil that does not conduct

Such a coil that does not conduct is followed through every command. The proof of an operation names the laws of the
operations it is made of, in the order in which its definition applies them; an operation that is one update of the
record, beside the safety channels' own part, has `cold_upd` for its law. -/

/-- The coil `κ` does not conduct. -/
def State.Cold (κ : Nat) (s : State) : Prop := s.coilOn κ = false

/-- If there is a next state, the coil `κ` does not conduct in it. -/
def State.OptCold (κ : Nat) (o : Option State) : Prop := ∀ t, o = some t → State.Cold κ t

/-- If the outcome is a next state, the coil `κ` does not conduct in it. -/
def OutCold (κ : Nat) (o : Host.Outcome State Fault Refusal) : Prop := ∀ u, o = .next u → State.Cold κ u

/-- What a coil shows of itself: both its switches are on, or a dark test rides on its stored current. -/
def Coil.lit (c : Coil) : Bool := (c.hs && c.ls) || c.phase == .hsTest || c.phase == .lsTest

/-- `d` is `c` with no switch turned on and no dark test begun. -/
structure Coil.AtMost (d c : Coil) : Prop where
  hs : d.hs = true → c.hs = true
  ls : d.ls = true → c.ls = true
  phase : d.phase = c.phase ∨ d.phase ≠ .hsTest ∧ d.phase ≠ .lsTest

theorem Coil.lit_eq_false {c : Coil} :
    c.lit = false ↔ ¬(c.hs = true ∧ c.ls = true) ∧ c.phase ≠ .hsTest ∧ c.phase ≠ .lsTest := by
  simp [Coil.lit, and_assoc]

theorem Coil.AtMost.lit {c d : Coil} (h : d.AtMost c) (hc : c.lit = false) : d.lit = false := by
  rw [lit_eq_false] at hc ⊢
  obtain ⟨hsw, hph⟩ := hc
  refine ⟨fun ⟨hs, ls⟩ => hsw ⟨h.hs hs, h.ls ls⟩, ?_⟩
  cases h.phase with
  | inl e => rwa [e]
  | inr hd => exact hd

/-- A driver that switches off, unless it is in the fault phase, which it keeps. -/
theorem Coil.atMost_off {c d : Coil} (hs : d.hs = true → c.hs = true) (ls : d.ls = true → c.ls = true)
    (hp : d.phase = if c.phase == .fault then .fault else .off) : d.AtMost c := by
  refine ⟨hs, ls, .inr ?_⟩
  rw [hp]
  split <;> exact ⟨nofun, nofun⟩

/-- A driver that leaves the fault phase. -/
theorem Coil.atMost_unfault {c : Coil} :
    (if c.phase == .fault then { c with phase := .off } else c : Coil).AtMost c := by
  split
  · exact ⟨id, id, .inr ⟨nofun, nofun⟩⟩
  · exact ⟨id, id, .inl rfl⟩

variable {κ : Nat} {s : State} {x : Ctx}
variable {at_ block c cause chan cls code conv crc cross ctl demand digest dst first flags gen i id image inst j k
  kind kohm limit m ma mask mode mp ms mv n new node off op peer ph price proto q' r reading reason since src start
  status stop t target tariff tj ty typ upTo v validity value w wall watts : Nat}
variable {authOk closed falling low now ok on ov trip valid whole wide : Bool}
variable {offset temp : Int}

namespace State

theorem coilOn_eq_lit (s : State) (k : Nat) : s.coilOn k = (s.coil k).lit := rfl

theorem coil_modCoil (s : State) (n k : Nat) (f : Coil → Coil) :
    (s.modCoil n f).coil k = if k = n then f (s.coil k) else s.coil k := by
  simp only [modCoil, coil, Tab.upd, Tab.get_put]
  split
  · next hk => rw [hk]
  · rfl

section
variable {a b : State} {α β : Type} {p : Prop} {dec : Decidable p}

theorem cold_next (h : Cold κ s) : OutCold κ (.next s) := fun _ e => Host.Outcome.next.inj e ▸ h

theorem cold_snd {e : α × State} {x : α} (he : e = (x, b)) (h : Cold κ e.2) : Cold κ b := by
  rw [he] at h; exact h

theorem cold_ite (ha : Cold κ a) (hb : Cold κ b) : Cold κ (if p then a else b) := by
  split
  · exact ha
  · exact hb

theorem cold_ite_snd {a b : α × State} (ha : Cold κ a.2) (hb : Cold κ b.2) : Cold κ (if p then a else b).2 := by
  split
  · exact ha
  · exact hb

theorem cold_ite_thd {a b : α × β × State} (ha : Cold κ a.2.2) (hb : Cold κ b.2.2) :
    Cold κ (if p then a else b).2.2 := by
  split
  · exact ha
  · exact hb

theorem optCold_none : OptCold κ none := fun _ e => nomatch e

theorem optCold_some (h : Cold κ s) : OptCold κ (some s) := fun _ e => Option.some.inj e ▸ h

theorem optCold_ite {a b : Option State} (ha : OptCold κ a) (hb : OptCold κ b) : OptCold κ (if p then a else b) := by
  split
  · exact ha
  · exact hb

/-- An update of any part but the safety channels' own. -/
theorem cold_upd {q : List Instr} {rs : Tab Nat} {m n k : Nat} {ph : Phase} {st : Tab Nat} {h : HostSt} {ar : ArchSt}
    {c : CaskSt} {o : OutSt} {af : AfeSt} {fi : FiltSt} {me : MetSt} {l : LedgerSt} {ke : KeySt} {pl : PlcSt} {tg : TagSt}
    {d : DispSt} {lw : LswSt} {u : UpdSt} {tw : TwinSt} {pw : PwrSt} (hs : Cold κ s) :
    Cold κ ⟨q, rs, m, n, k, ph, st, h, ar, c, o, s.safe, af, fi, me, l, ke, pl, tg, d, lw, u, tw, pw⟩ := hs

/-- An update of the safety channels' own part, with the coils as they were. -/
theorem cold_safe {sf : SafeSt} (hc : sf.coils = s.safe.coils) (hs : Cold κ s) : Cold κ { s with safe := sf } := by
  have hcoil : ({ s with safe := sf } : State).coil κ = s.coil κ := congrArg (Tab.get · Coil.init κ) hc
  rwa [Cold, coilOn_eq_lit, hcoil]

/-- An operation of the HOST island alone. -/
theorem cold_only {t : State} (ho : HostOnly s t) (hs : Cold κ s) : Cold κ t := by
  have hcoil : t.coil κ = s.coil κ := congrArg (fun sf : SafeSt => sf.coils.get Coil.init κ) ho.safe
  rwa [Cold, coilOn_eq_lit, hcoil]

/-- With the table of the coils empty no coil conducts. -/
theorem coils_empty_cold (κ : Nat) (s : State) : Cold κ { s with safe := { s.safe with coils := .empty } } := rfl

theorem cold_foldl {f : State → α → State} (hf : ∀ {s x}, Cold κ s → Cold κ (f s x)) {xs : List α} {s : State}
    (h : Cold κ s) : Cold κ (xs.foldl f s) := by
  induction xs generalizing s with
  | nil => exact h
  | cons x xs ih => exact ih (hf h)

theorem cold_foldl_snd {f : β × State → α → β × State} (hf : ∀ {p x}, Cold κ p.2 → Cold κ (f p x).2) {xs : List α}
    {p : β × State} (h : Cold κ p.2) : Cold κ (xs.foldl f p).2 := by
  induction xs generalizing p with
  | nil => exact h
  | cons x xs ih => exact ih (hf h)

/-- A loop each of whose rounds, at a member of the list, leaves the coil off. -/
theorem cold_forEach_mem {f : α → State → State} {xs : List α} {s : State}
    (hf : ∀ x ∈ xs, ∀ {s}, Cold κ s → Cold κ (f x s)) (h : Cold κ s) : Cold κ (forEach xs f s) := by
  induction xs generalizing s with
  | nil => exact h
  | cons x xs ih => exact ih (fun y hy => hf y (List.mem_cons_of_mem x hy)) (hf x List.mem_cons_self h)

theorem cold_forEach {f : α → State → State} (hf : ∀ {x s}, Cold κ s → Cold κ (f x s)) {xs : List α} {s : State}
    (h : Cold κ s) : Cold κ (forEach xs f s) := cold_foldl hf h

theorem cold_forEach_snd {f : α → β × State → β × State} (hf : ∀ {x p}, Cold κ p.2 → Cold κ (f x p).2) {xs : List α}
    {p : β × State} (h : Cold κ p.2) : Cold κ (forEach xs f p).2 := cold_foldl_snd hf h

end

/-! ### The shared operations (Sys2Proof/Machine/Ops.lean) -/

theorem wr_cold {F : Fld} (h : Cold κ s) : Cold κ (s.wr F n v) := cold_upd h

theorem setFlag_cold {F : Fld} {b : Bool} (h : Cold κ s) : Cold κ (s.setFlag F n b) := wr_cold h

theorem addSat_cold {F : Fld} (h : Cold κ s) : Cold κ (s.addSat F n k) := wr_cold h

theorem incSat_cold {F : Fld} (h : Cold κ s) : Cold κ (s.incSat F n) := addSat_cold h

theorem wrInt_cold {F : Fld} {z : Int} (h : Cold κ s) : Cold κ (s.wrInt F n z) := wr_cold h

theorem advance_cold (h : Cold κ s) : Cold κ (s.advance t) := cold_ite (cold_upd h) h

theorem irq_cold (h : Cold κ s) : Cold κ (s.irq v) := cold_only (quiet_irq _).only h

theorem alert_cold {F : Fld} (h : Cold κ s) : Cold κ (s.alert F) := cold_only (quiet_alert _).only h

theorem notifIrq_cold (h : Cold κ s) : Cold κ s.notifIrq := cold_ite h (irq_cold h)

theorem notify_cold {w : Notif} (h : Cold κ s) : Cold κ (s.notify w) := cold_only (quiet_notify _).1.only h

theorem issueSeq_cold (h : Cold κ s) : Cold κ s.issueSeq.2 := cold_only quiet_issueSeq.1.only h

theorem journal_cold {e : Event} (h : Cold κ s) : Cold κ (s.journal e) := cold_only (quiet_journal _).1.only h

theorem putEvent_cold {e : Event} (h : Cold κ s) : Cold κ (s.putEvent j e) := cold_only (quiet_putEvent _ _).1.only h

theorem raise_cold {payload : List Nat} (h : Cold κ s) : Cold κ (s.raise code inst payload) :=
  cold_only (raise_spec _ _ _).1.only h

theorem creditBack_cold {c : Option Nat} (h : Cold κ s) : Cold κ (s.creditBack c) :=
  cold_only (quiet_creditBack _).1.only h

theorem syncCompleted_cold {ring : Nat} (h : Cold κ s) : Cold κ (s.syncCompleted ring) := wr_cold h

theorem putCompletion_cold {c : Completion} (h : Cold κ s) : Cold κ (s.putCompletion c now) :=
  cold_only (quiet_putCompletion _ _).1.only h

theorem holdCompletion_cold {c : Completion} (h : Cold κ s) : Cold κ (s.holdCompletion c) := journal_cold h

theorem writeCompletion_cold {c : Completion} (h : Cold κ s) : Cold κ (s.writeCompletion c now) :=
  cold_only (quiet_writeCompletion _ _).only h

theorem complete_cold {result : Nat} (h : Cold κ s) : Cold κ (s.complete x status result) :=
  cold_only (complete_spec _ _ _).1.only h

theorem finalise_cold (h : Cold κ s) : Cold κ (s.finalise x status) := cold_only (finalise_spec _ _).1.only h

theorem finaliseOpt_cold {x : Option Ctx} (h : Cold κ s) : Cold κ (s.finaliseOpt x status) := by
  unfold finaliseOpt
  split
  · exact finalise_cold h
  · exact h

theorem save_cold {F : Fld} (h : Cold κ s) : Cold κ (s.save F n) := cold_ite (cold_upd h) h

theorem wrSave_cold {F : Fld} (h : Cold κ s) : Cold κ (s.wrSave F n v) := save_cold (wr_cold h)

theorem giveBuffer_cold {data : List Nat} (h : Cold κ s) : Cold κ (s.giveBuffer data) :=
  cold_ite (cold_upd h) h

theorem onEvent_cold {f : State → State} (h : Cold κ s) (hf : ∀ {s}, Cold κ s → Cold κ (f s)) :
    Cold κ (onEvent s t f) :=
  cold_ite (hf (advance_cold h)) (advance_cold h)

theorem onCore_cold {f : State → State} (h : Cold κ s) (hf : ∀ {s}, Cold κ s → Cold κ (f s)) :
    Cold κ (onCore s t f) :=
  cold_ite (hf (advance_cold h)) (advance_cold h)

/-! ### The key store (Sys2Proof/Machine/KeyOps.lean) -/

theorem setKeyMode_cold (h : Cold κ s) : Cold κ (s.setKeyMode m cause) :=
  cold_ite h (raise_cold (wr_cold h))

theorem reseed_cold (h : Cold κ s) : Cold κ s.reseed := incSat_cold (cold_upd h)

theorem drbgNext_cold {bits : Nat} (h : Cold κ s) : Cold κ (s.drbgNext bits).2 :=
  cold_ite (reseed_cold (cold_upd h)) (cold_upd h)

theorem cacheCounts_cold (h : Cold κ s) : Cold κ s.cacheCounts := wr_cold (wr_cold (wr_cold h))

theorem useNode_cold {h' : Nat} (h : Cold κ s) : Cold κ (s.useNode h') := by
  unfold useNode
  refine cold_ite ?_ ?_
  · exact cold_upd h
  · split
    rename_i hp
    exact cacheCounts_cold (incSat_cold (cold_upd (cold_snd hp (drbgNext_cold h))))

theorem clearKeys_cold (h : Cold κ s) : Cold κ s.clearKeys := cacheCounts_cold (cold_upd h)

theorem keyRecovery_cold (h : Cold κ s) : Cold κ (s.keyRecovery cause) :=
  setKeyMode_cold (wr_cold (clearKeys_cold h))

theorem regenerate_cold {ber : Option Nat} (h : Cold κ s) : Cold κ (s.regenerate ber) := by
  unfold regenerate
  extract_lets _ _ s₁
  have h₁ : Cold κ s₁ := cold_upd (wr_cold h)
  split
  · exact setKeyMode_cold (cold_forEach useNode_cold (cold_ite (raise_cold (wr_cold (cold_upd (wr_cold
      (wr_cold h₁))))) (wr_cold (cold_upd (wr_cold (wr_cold h₁))))))
  · exact cold_ite (keyRecovery_cold h₁) h₁

theorem invalidate_cold {p : List (List Byte)} (h : Cold κ s) : Cold κ (s.invalidate p).2 :=
  cold_upd (cold_upd h)

theorem rederive_cold {p : List (List Byte)} (h : Cold κ s) : Cold κ (s.rederive p) :=
  cold_forEach cold_upd h

theorem ownerTook_cold {g : OwnerSig} (h : Cold κ s) : Cold κ (s.ownerTook g) := wr_cold h

/-! ### The host link (Sys2Proof/Machine/HostOps.lean) -/

theorem freeSlot_cold (h : Cold κ s) : Cold κ (s.freeSlot k status) := cold_upd (cold_upd h)

theorem abortCask_cold {failIdx failIsland result : Nat} (h : Cold κ s) :
    Cold κ (s.abortCask k status failIdx failIsland result) := by
  unfold abortCask
  extract_lets _ _ s₁ s₂
  have h₁ : Cold κ s₁ := raise_cold (incSat_cold h)
  have h₂ : Cold κ s₂ := by
    unfold s₂
    split
    · exact complete_cold h₁
    · exact finalise_cold h₁
    · exact h₁
  exact freeSlot_cold h₂

theorem stage_cold {a : CaskAct} (h : Cold κ s) : Cold κ (s.stage x a) := by
  unfold stage
  split
  · exact complete_cold h
  · exact cold_ite (complete_cold h) (cold_ite (complete_cold h) (complete_cold (cold_upd h)))

theorem islandStop_cold (h : Cold κ s) : Cold κ (s.islandStop i) := wr_cold (wr_cold (wr_cold h))

theorem islandGo_cold (h : Cold κ s) : Cold κ (s.islandGo i) := wr_cold (wr_cold (wr_cold h))

theorem wakeRun_cold (h : Cold κ s) : Cold κ (s.wakeRun cause) :=
  cold_ite (raise_cold (wr_cold (cold_forEach islandGo_cold h))) h

theorem startRing_cold {kind : RingKind} (h : Cold κ s) : Cold κ (s.startRing kind i) := by
  unfold startRing
  split
  · exact cold_ite (cold_upd h) (wr_cold (wr_cold (cold_upd (cold_upd h))))
  · exact cold_upd h
  · exact cold_upd h
  · exact cold_upd h

theorem writeFields_cold {fs : List Fld} (h : Cold κ s) : Cold κ (s.writeFields fs i image) :=
  cold_forEach wr_cold h

theorem writeRing_cold {kind : RingKind} (h : Cold κ s) : Cold κ (s.writeRing kind i image) :=
  cold_ite (wr_cold (writeFields_cold h)) (cold_ite (wr_cold (writeFields_cold h)) (startRing_cold
    (wr_cold (writeFields_cold h))))

theorem settleDestroys_cold (h : Cold κ s) : Cold κ s.settleDestroys :=
  cold_forEach (fun h₁ => cold_ite h₁ (complete_cold (wr_cold (cold_upd h₁)))) h

theorem command_cold {act : Option CaskAct} {f : State → State} (h : Cold κ s) (hf : ∀ {s}, Cold κ s → Cold κ
    (f s)) :
    Cold κ (s.command x op inst act f) := by
  unfold command
  extract_lets s₁ s₂ s₃ s₄
  have h₁ : Cold κ s₁ := advance_cold h
  have h₂ : Cold κ s₂ := cold_upd h₁
  have h₃ : Cold κ s₃ := cold_ite (wakeRun_cold h₂) h₂
  have h₄ : Cold κ s₄ := by
    unfold s₄
    split
    · exact complete_cold h₃
    · split
      · exact hf h₃
      · refine cold_ite (complete_cold h₃) (cold_ite (stage_cold h₃) ?_)
        split
        · exact complete_cold h₃
        · exact hf h₃
  exact cold_ite h₁ (settleDestroys_cold h₄)

theorem creditTake_cold (h : Cold κ s) : Cold κ (s.creditTake c) := cold_ite (cold_upd h) (cold_upd h)

theorem fetchNext_cold {d : Desc} {credit : Option Nat} (h : Cold κ s) : Cold κ (s.fetchNext x i d credit) :=
  cold_ite (complete_cold (syncCompleted_cold (cold_upd (wr_cold (cold_upd h))))) (cold_ite
    (complete_cold (syncCompleted_cold (cold_upd (wr_cold (cold_upd h))))) (cold_ite (complete_cold
    (syncCompleted_cold (cold_upd (wr_cold (cold_upd h))))) (cold_ite (complete_cold (syncCompleted_cold
    (cold_upd (wr_cold (cold_upd h))))) (syncCompleted_cold (cold_upd (wr_cold (cold_upd h)))))))

theorem writeOther_cold {d : Desc} {old : Option Hist} (h : Cold κ s) : Cold κ (s.writeOther x i d n old) := by
  unfold writeOther
  split <;> exact writeCompletion_cold h

theorem fetchOther_cold {d : Desc} {last : Nat} {credit : Option Nat} (h : Cold κ s) :
    Cold κ (s.fetchOther x i d last credit) :=
  writeOther_cold (creditBack_cold (issueSeq_cold h))

theorem fetchOne_cold {d : Desc} (h : Cold κ s) : Cold κ (s.fetchOne i d) := by
  unfold fetchOne
  extract_lets _ _ _ _ _ s₁
  have h₁ : Cold κ s₁ := cold_ite (cold_upd h) (creditTake_cold (cold_upd h))
  exact cold_ite (fetchNext_cold h₁) (fetchOther_cold h₁)

theorem grant_cold {from0 : List Nat} {descs : List (List Desc)} (h : Cold κ s) :
    Cold κ (s.grant from0 descs).1 := by
  unfold grant
  extract_lets _ s₁
  have h₁ : Cold κ s₁ := cold_ite h (cold_upd h)
  split
  · exact h₁
  · split
    · exact h₁
    · extract_lets s₂
      have h₂ : Cold κ s₂ := cold_upd h₁
      split
      · exact h₂
      · exact fetchOne_cold h₂

theorem grants_cold {from0 : List Nat} {descs : List (List Desc)} :
    ∀ {k : Nat} {s : State}, Cold κ s → Cold κ (grants k from0 descs s)
  | 0, _, h => h
  | k + 1, s, h => by
    unfold grants
    exact cold_ite (grants_cold (grant_cold h)) (grant_cold h)

theorem fetchRing_cold {i from0 : Nat} {descs : List Desc} :
    ∀ {k : Nat} {s : State}, Cold κ s → Cold κ (fetchRing k i from0 descs s)
  | 0, _, h => h
  | k + 1, s, h => by
    unfold fetchRing
    refine cold_ite ?_ h
    split
    · exact fetchRing_cold (fetchOne_cold h)
    · exact h

theorem releaseStops_cold : ∀ {k : Nat} {s : State}, Cold κ s → Cold κ (releaseStops k s)
  | 0, _, h => h
  | k + 1, s, h => by
    unfold releaseStops
    split
    · exact h
    · exact cold_ite (releaseStops_cold (putCompletion_cold (cold_upd h))) h

theorem releaseCompletions_cold (h : Cold κ s) : Cold κ s.releaseCompletions :=
  cold_ite h (cold_forEach writeCompletion_cold (cold_upd h))

theorem reportGap_cold (h : Cold κ s) : Cold κ (s.reportGap j) :=
  cold_ite (putEvent_cold (cold_upd (journal_cold (issueSeq_cold h)))) h

theorem coalesceDue_cold (h : Cold κ s) : Cold κ s.coalesceDue :=
  cold_forEach (fun h₁ => cold_ite (irq_cold (cold_upd h₁)) h₁) h

/-! ### Cable tags (Sys2Proof/Machine/CableOps.lean) -/

theorem setJobs_cold {js : List CableJob} (h : Cold κ s) : Cold κ (s.setJobs js) := wr_cold (cold_upd h)

theorem addJob_cold {j : CableJob} (h : Cold κ s) : Cold κ (s.addJob j) := by
  unfold addJob
  split <;> exact setJobs_cold h

theorem shadowGo_cold (h : Cold κ s) : Cold κ (s.shadowGo n) :=
  cold_ite (raise_cold (cold_upd (wr_cold (wr_cold (addJob_cold (wr_cold h)))))) (addJob_cold
    (wr_cold h))

theorem cableQueue_cold (h : Cold κ s) : Cold κ (s.cableQueue n) :=
  cold_ite h (cold_ite (addJob_cold h) (shadowGo_cold (incSat_cold (addJob_cold h))))

theorem cableEnd_cold {wh : Nat} (h : Cold κ s) : Cold κ (s.cableEnd n wh) :=
  cold_ite h (shadowGo_cold (addSat_cold (incSat_cold h)))

theorem cableOpening_cold (h : Cold κ s) : Cold κ (s.cableOpening n) :=
  cold_ite h (shadowGo_cold (incSat_cold h))

theorem cableRebind_cold (h : Cold κ s) : Cold κ (s.cableRebind n) :=
  cold_ite h (addJob_cold (cold_upd h))

/-! ### The safety channels (Sys2Proof/Machine/SafeOps.lean) -/

theorem modOutlet_cold {f : Outlet → Outlet} (h : Cold κ s) : Cold κ (s.modOutlet n f) := cold_upd h

theorem modOs_cold {f : OutSafe → OutSafe} (h : Cold κ s) : Cold κ (s.modOs n f) :=
  cold_safe rfl h

theorem modCoil_cold {f : Coil → Coil} (hf : (f (s.coil k)).AtMost (s.coil k)) (h : Cold κ s) :
    Cold κ (s.modCoil k f) := by
  rw [Cold, coilOn_eq_lit] at h ⊢
  rw [coil_modCoil]
  split
  · next hk =>
    subst hk
    exact hf.lit h
  · exact h

theorem refreshSafeOk_cold (h : Cold κ s) : Cold κ s.refreshSafeOk :=
  cold_ite h (alert_cold (setFlag_cold h))

theorem coilOff_cold (h : Cold κ s) : Cold κ (s.coilOff k demand) :=
  modCoil_cold (Coil.atMost_off Bool.and_elim_left Bool.and_elim_left rfl)
    (cold_ite (cold_safe rfl (raise_cold (incSat_cold h))) h)

theorem noteOpening_cold (h : Cold κ s) : Cold κ (s.noteOpening n) := by
  unfold noteOpening
  refine cold_ite h ?_
  extract_lets _ _ s₁
  have h₁ : Cold κ s₁ := cold_ite (cold_forEach incSat_cold h) h
  exact modOs_cold (cold_ite (cableOpening_cold h₁) h₁)

theorem pmOff_cold (h : Cold κ s) : Cold κ (s.pmOff n) := cold_ite (modOutlet_cold h) h

theorem openOutlet_cold (h : Cold κ s) : Cold κ (s.openOutlet n demand) :=
  cold_forEach coilOff_cold (pmOff_cold (noteOpening_cold h))

theorem driveF_cold (h : Cold κ s) : Cold κ (s.driveF n) := modOutlet_cold h

theorem stagePilot_cold {p : PilotOut} (h : Cold κ s) : Cold κ (s.stagePilot n p) := modOutlet_cold h

theorem stageSet_cold {p : SetPoint} (h : Cold κ s) : Cold κ (s.stageSet n p) := modOutlet_cold h

theorem dropClose_cold (h : Cold κ s) : Cold κ (s.dropClose n) :=
  cold_ite h (cold_forEach complete_cold (modOutlet_cold h))

theorem caskSafety_cold (h : Cold κ s) : Cold κ (s.caskSafety n) := by
  unfold caskSafety
  extract_lets
  refine cold_forEach (fun h₂ => ?_) (dropClose_cold h)
  extract_lets
  split
  · exact h₂
  · refine cold_ite (abortCask_cold h₂) (cold_ite ?_ h₂)
    split
    · exact cold_upd h₂
    · exact h₂

theorem erem_cold (h : Cold κ s) : Cold κ (s.erem n demand) :=
  modOs_cold (caskSafety_cold (openOutlet_cold h))

theorem outletSafe_cold (h : Cold κ s) : Cold κ (s.outletSafe n demand) :=
  modOs_cold (driveF_cold (erem_cold h))

theorem trip_cold {latch : Bool} (h : Cold κ s) : Cold κ (s.trip n code chan since latch) :=
  cold_ite (cold_ite (modOs_cold h) h) (raise_cold (outletSafe_cold (modOs_cold h)))

theorem moduleTrip_cold (h : Cold κ s) : Cold κ (s.moduleTrip code chan since) :=
  cold_ite h (raise_cold (refreshSafeOk_cold (cold_forEach outletSafe_cold (cold_safe rfl h))))

theorem clearFault_cold (h : Cold κ s) : Cold κ (s.clearFault n code) := modOs_cold h

theorem holdFrom_cold (h : Cold κ s) : Cold κ (s.holdFrom k) :=
  modCoil_cold ⟨id, id, .inr ⟨nofun, nofun⟩⟩ h

theorem startCurrent_cold (h : Cold κ s) : Cold κ (s.startCurrent n).2 := by
  unfold startCurrent
  split
  · exact h
  · exact cold_upd h

theorem startMstop_cold (h : Cold κ s) : Cold κ (s.startMstop n reason) := by
  unfold startMstop
  split
  · exact h
  · exact modOs_cold (startCurrent_cold h)

theorem rcmTrip_cold (h : Cold κ s) : Cold κ (s.rcmTrip n code chan) :=
  cold_ite h (cold_ite (trip_cold (trip_cold (modOs_cold (wr_cold (wr_cold h))))) (trip_cold
    (modOs_cold (wr_cold (wr_cold h)))))

theorem rcmUpdate_cold {b : Bool} (h : Cold κ s) : Cold κ (s.rcmUpdate n b) := by
  unfold rcmUpdate
  extract_lets _ _ _ _ s₁ s₂
  have h₁ : Cold κ s₁ := modOs_cold h
  have h₂ : Cold κ s₂ := cold_ite (wr_cold (wr_cold h₁)) h₁
  split
  · exact rcmTrip_cold h₂
  · exact h₂

theorem sensorTrip_cold (h : Cold κ s) : Cold κ (s.sensorTrip n) := cold_ite h (trip_cold (wr_cold h))

theorem testSensor_cold (h : Cold κ s) : Cold κ (s.testSensor n) := cold_ite h (modOs_cold h)

theorem rcmSelfTest_cold (h : Cold κ s) : Cold κ (s.rcmSelfTest n offset reading) :=
  cold_ite (cold_forEach clearFault_cold (cold_safe rfl (modOs_cold (setFlag_cold (wrInt_cold h)))))
    (sensorTrip_cold (cold_safe rfl (modOs_cold (setFlag_cold (wrInt_cold h)))))

theorem shuntOn_cold (h : Cold κ s) : Cold κ (s.shuntOn n) := modOs_cold (cold_safe rfl (setFlag_cold h))

theorem shuntKeep_cold (h : Cold κ s) : Cold κ (s.shuntKeep n) := cold_ite (modOs_cold h) h

theorem weldCheck_cold (h : Cold κ s) : Cold κ (s.weldCheck n) :=
  cold_ite (modOs_cold h) (raise_cold (cold_ite (shuntOn_cold (trip_cold (modOs_cold h))) (trip_cold
    (modOs_cold h))))

/-! ### Records (Sys2Proof/Machine/RecordOps.lean) -/

theorem setWall_cold (h : Cold κ s) : Cold κ (s.setWall ms) :=
  cold_upd (wr_cold (wrInt_cold (wr_cold h)))

theorem issueNum_cold (h : Cold κ s) : Cold κ s.issueNum.2 := by
  unfold issueNum
  split <;> exact cold_upd h

theorem appendAs_cold {num ledger epoch : Nat} {body : List (Nat × Nat)} (h : Cold κ s) :
    Cold κ (s.appendAs num kind mp wall ledger flags epoch body).2 :=
  raise_cold (addSat_cold (wr_cold (wr_cold (cold_upd h))))

theorem appendCore_cold {body : List (Nat × Nat)} (h : Cold κ s) : Cold κ (s.appendCore kind mp body).2 :=
  appendAs_cold (issueNum_cold h)

theorem tamperCount_cold (h : Cold κ s) : Cold κ (s.tamperCount ty k) :=
  wr_cold (addSat_cold (cold_ite (wr_cold h) h))

theorem overwritten_cold {lost : List Nat} (h : Cold κ s) : Cold κ (s.overwritten lost) :=
  cold_ite h (raise_cold (appendCore_cold (tamperCount_cold h)))

theorem append_cold {body : List (Nat × Nat)} (h : Cold κ s) : Cold κ (s.append kind mp body) :=
  overwritten_cold (appendCore_cold h)

theorem appendNum_cold {num : Option Nat} {body : List (Nat × Nat)} (h : Cold κ s) :
    Cold κ (s.appendNum num kind mp body) := by
  unfold appendNum
  split
  · exact append_cold h
  · exact overwritten_cold (appendAs_cold h)

theorem appendTimed_cold {num : Option Nat} {ledger : Nat} {body : List (Nat × Nat)} (h : Cold κ s) :
    Cold κ (s.appendTimed num kind mp wall ledger flags body) := by
  cases num with
  | some n => exact overwritten_cold (appendAs_cold h)
  | none => exact overwritten_cold (appendAs_cold (issueNum_cold h))

theorem tamperMany_cold {detail : Nat} (h : Cold κ s) : Cold κ (s.tamperMany ty detail k) :=
  cold_ite h (raise_cold (append_cold (tamperCount_cold h)))

theorem tamper_cold {detail : Nat} (h : Cold κ s) : Cold κ (s.tamper ty detail) := tamperMany_cold h

theorem partitionDenied_cold {ini : Nat} {r : Res} (h : Cold κ s) : Cold κ (s.partitionDenied ini target r) :=
  cold_ite (tamper_cold (wr_cold (wr_cold (alert_cold (incSat_cold h))))) (cold_ite (tamper_cold
    (wr_cold (wr_cold (alert_cold (incSat_cold h))))) (wr_cold (wr_cold (alert_cold (incSat_cold
    h)))))

theorem signKeyChanged_cold (h : Cold κ s) : Cold κ s.signKeyChanged := tamper_cold h

theorem signOldest_cold (h : Cold κ s) : Cold κ s.signOldest := by
  unfold signOldest
  split
  · exact cold_ite h (wr_cold (cold_upd (useNode_cold (cold_ite (signKeyChanged_cold (rederive_cold h))
      h))))
  · exact h

theorem calNote_cold {old : Nat} (h : Cold κ s) : Cold κ (s.calNote off old new) := by
  unfold calNote
  extract_lets _ s₁
  have h₁ : Cold κ s₁ := by
    unfold s₁
    split
    · exact cold_upd h
    · exact h
  exact tamper_cold h₁

/-! ### Metering (Sys2Proof/Machine/MetOps.lean) -/

theorem updateGd_cold (h : Cold κ s) : Cold κ (s.updateGd c) := wrInt_cold (wrInt_cold h)

theorem setMpState_cold {role : Nat} (h : Cold κ s) : Cold κ (s.setMpState m new role) := by
  unfold setMpState
  extract_lets _ s₁ _ s₂ s₃ s₄
  have h₁ : Cold κ s₁ := raise_cold (wr_cold h)
  have h₂ : Cold κ s₂ := cold_ite (tamper_cold (raise_cold h₁)) h₁
  have h₃ : Cold κ s₃ := cold_ite (raise_cold h₂) h₂
  have h₄ : Cold κ s₄ := cold_ite (cold_upd h₃) h₃
  exact cold_ite h (cold_ite (cold_upd h₄) h₄)

theorem mpEval_cold (h : Cold κ s) : Cold κ (s.mpEval m) := setMpState_cold h

theorem mpEvalAll_cold (h : Cold κ s) : Cold κ s.mpEvalAll := cold_forEach mpEval_cold h

theorem auxDecide_cold (h : Cold κ s) : Cold κ s.auxDecide := by
  unfold auxDecide
  split
  · exact cold_ite h (cold_ite (cold_upd (cold_upd h)) (cold_ite (incSat_cold (cold_upd h))
      (raise_cold (cold_upd (incSat_cold (cold_upd h))))))
  · exact h

theorem auxUnlocked_cold (h : Cold κ s) : Cold κ (s.auxUnlocked m) := by
  unfold auxUnlocked
  split
  · exact cold_ite (cold_upd h) h
  · exact h

theorem setTrk_cold (h : Cold κ s) : Cold κ (s.setTrk m new reason) := by
  unfold setTrk
  extract_lets _ s₁ s₂
  have h₁ : Cold κ s₁ := wr_cold (auxDecide_cold h)
  have h₂ : Cold κ s₂ := cold_ite (auxUnlocked_cold (incSat_cold h₁)) h₁
  exact raise_cold (cold_ite h₂ (cold_forEach (fun h₃ => wr_cold (wr_cold h₃)) h₂))

theorem openCycle_cold {p : Nat} (h : Cold κ s) : Cold κ (s.openCycle m z p) :=
  wr_cold (wr_cold (wr_cold (cold_upd h)))

theorem gridRuns_cold (h : Cold κ s) : Cold κ (s.gridRuns m) := cold_ite (openCycle_cold h) h

theorem trkRefresh_cold (h : Cold κ s) : Cold κ (s.trkRefresh m) :=
  cold_ite (setTrk_cold (cold_upd h)) (cold_ite (setTrk_cold (cold_upd (gridRuns_cold h))) h)

theorem trkRefreshAll_cold (h : Cold κ s) : Cold κ s.trkRefreshAll := cold_forEach trkRefresh_cold h

theorem finishBlend_cold {b : Blend} {cs : List Nat} {t1 cut : Nat} (h : Cold κ s) :
    Cold κ (s.finishBlend b cs t1 cut) := by
  unfold finishBlend
  extract_lets _ _ _ _ _ _ s₁ s₂
  have h₁ : Cold κ s₁ := raise_cold (cold_forEach wr_cold (cold_upd h))
  have h₂ : Cold κ s₂ := by
    unfold s₂
    split
    · exact raise_cold h₁
    · exact h₁
  exact cold_ite h₁ (finaliseOpt_cold h₂)

theorem cutBlend_cold (h : Cold κ s) : Cold κ (s.cutBlend c) := by
  unfold cutBlend
  split
  · exact h
  · exact finishBlend_cold h

theorem emptyChain_cold (h : Cold κ s) : Cold κ (s.emptyChain c) := cold_upd (cold_upd h)

theorem restartChain_cold (h : Cold κ s) : Cold κ (s.restartChain c) :=
  cold_forEach mpEval_cold (updateGd_cold (cutBlend_cold (wr_cold (wr_cold (wr_cold (emptyChain_cold
    (cold_upd h)))))))

theorem startBlend_cold {cs : List Nat} {ctx : Option Ctx} {cal : Option (List Nat)} (h : Cold κ s) :
    Cold κ (s.startBlend cs ctx cal) :=
  cold_upd (cold_forEach wr_cold h)

theorem filtOverflow_cold {stages : Nat} (h : Cold κ s) : Cold κ (s.filtOverflow c stages k) :=
  cold_ite (raise_cold (cold_upd (addSat_cold (wr_cold h)))) (cold_upd (addSat_cold (wr_cold h)))

/-! ### The displays (Sys2Proof/Machine/DispOps.lean) -/

theorem bandShow_cold (h : Cold κ s) : Cold κ s.bandShow := wr_cold h

theorem dispTemp_cold {v : Int} {ovr : Bool} (h : Cold κ s) : Cold κ (s.dispTemp v ovr) :=
  bandShow_cold (cold_ite (cold_upd (cold_upd (setFlag_cold (wrInt_cold h)))) (raise_cold (cold_upd
    (cold_upd (setFlag_cold (wrInt_cold h))))))

theorem dispAux_cold {ovr : Bool} (h : Cold κ s) : Cold κ (s.dispAux i v ovr) :=
  cold_ite (dispTemp_cold h) h

theorem dispWake_cold (h : Cold κ s) : Cold κ s.dispWake :=
  cold_ite h (cold_ite (cold_upd h) (cold_ite (wr_cold h) h))

theorem dispTake_cold {st : RegSt} {x y h' : Nat} {c : Option Ctx} {cask : Nat} (h : Cold κ s) :
    Cold κ (s.dispTake st x y w h' mode c cask) := by
  unfold dispTake
  split
  · exact h
  · exact cold_upd (cold_upd h)

theorem dispStart_cold {x y h' : Nat} {c : Option Ctx} (h : Cold κ s) :
    Cold κ (s.dispStart x y w h' mode c) := by
  unfold dispStart
  refine cold_ite h ?_
  extract_lets x₁ s₁
  clear_value x₁
  have h₁ : Cold κ s₁ := by
    unfold s₁
    split
    · exact cold_upd h
    · exact dispTake_cold h
  exact dispWake_cold h₁

theorem dispArm_cold {a : CaskAct} (h : Cold κ s) : Cold κ (s.dispArm k a) := by
  unfold dispArm
  split
  · exact cold_ite h (dispTake_cold h)
  · exact h

theorem startRegion_cold (h : Cold κ s) : Cold κ (s.startRegion r) := cold_upd (cold_upd h)

theorem imbalance_cold (h : Cold κ s) : Cold κ s.imbalance :=
  cold_forEach (fun h₁ => cold_ite (raise_cold (cold_upd h₁)) (cold_ite (cold_upd h₁) h₁)) h

theorem meterDisp_cold (h : Cold κ s) : Cold κ s.meterDisp := cold_ite (islandStop_cold h) h

theorem dispIdle_cold (h : Cold κ s) : Cold κ s.dispIdle :=
  cold_ite (meterDisp_cold (wr_cold (cold_upd (cold_ite h (wr_cold h))))) h

theorem dropRegion_cold (h : Cold κ s) : Cold κ (s.dropRegion r code status) :=
  finaliseOpt_cold (raise_cold (cold_upd h))

theorem cutRegion_cold {stop : Option Nat} (h : Cold κ s) : Cold κ (s.cutRegion stop r) :=
  cold_upd (cold_ite h (incSat_cold h))

theorem dispCut_cold {stop : Option Nat} (h : Cold κ s) : Cold κ (s.dispCut stop) :=
  cold_upd (wr_cold (wr_cold (cold_forEach cutRegion_cold h)))

theorem legalContent_cold (h : Cold κ s) : Cold κ s.legalContent.2 := cold_ite_snd (cold_upd h) h

theorem segSteps_cold : ∀ {k : Nat} {s : State}, Cold κ s → Cold κ (segSteps k s)
  | 0, _, h => h
  | k + 1, s, h => by
    unfold segSteps
    split
    · exact h
    · refine cold_ite h ?_
      split
      · exact segSteps_cold (cold_upd (cold_upd h))
      · exact segSteps_cold (cold_upd (cold_upd h))
      · exact segSteps_cold (cold_upd (cold_upd h))
      · exact segSteps_cold (cold_upd (raise_cold (cold_upd h)))
      · exact cold_ite (cold_upd h) (segSteps_cold (cold_upd (cold_upd h)))

theorem segPaint_cold {content : Nat} (h : Cold κ s) : Cold κ (s.segPaint content) := by
  unfold segPaint
  extract_lets
  split
  · exact cold_upd h
  · exact segSteps_cold (cold_upd (cold_upd h))

theorem legalRepaint_cold (h : Cold κ s) : Cold κ s.legalRepaint :=
  segPaint_cold (legalContent_cold (cold_upd h))

theorem segRecover_cold (h : Cold κ s) : Cold κ s.segRecover := by
  unfold segRecover
  split
  · exact h
  · exact segSteps_cold (cold_upd h)

/-! ### Host (Sys2Proof/Machine/Host.lean) -/

theorem resetHostRegs_cold (h : Cold κ s) : Cold κ s.resetHostRegs :=
  cold_forEach (fun h₁ => cold_forEach cold_upd h₁) (cold_forEach cold_upd h)

theorem detach_cold {cause : DetachCause} (h : Cold κ s) : Cold κ (s.detach cause) := by
  unfold detach
  extract_lets _ s₁ _ _ _ _ _ s₂ _ _ s₃ s₄
  have h₁ : Cold κ s₁ := cold_ite (cold_upd h) h
  have h₂ : Cold κ s₂ := cold_forEach holdCompletion_cold (cold_upd (cold_ite (cold_upd (wr_cold h₁))
    (wr_cold h₁)))
  have h₃ : Cold κ s₃ := by
    unfold s₃
    split
    · exact wr_cold h₂
    · exact h₂
    · exact cold_upd (cold_upd (resetHostRegs_cold h₂))
    · exact cold_upd (resetHostRegs_cold h₂)
  have h₄ : Cold κ s₄ := cold_ite (raise_cold (wr_cold h₃)) h₃
  exact cold_ite (raise_cold h₄) h₄

theorem drainStream_cold : ∀ {k src j : Nat} {s : State}, Cold κ s → Cold κ (drainStream k src j s)
  | 0, _, _, _, h => h
  | k + 1, src, j, s, h => by
    unfold drainStream
    extract_lets x₁
    clear_value x₁
    split
    · exact h
    · exact cold_ite h (drainStream_cold (irq_cold (notify_cold (cold_upd h))))

theorem drainSource_cold (h : Cold κ s) : Cold κ (s.drainSource src) := by
  unfold drainSource
  refine cold_ite h ?_
  split
  · exact h
  · exact drainStream_cold h

theorem drainAll_cold (h : Cold κ s) : Cold κ s.drainAll := cold_forEach drainSource_cold h

theorem streamBlock_cold {b : StreamBlock} (h : Cold κ s) : Cold κ (s.streamBlock src b) :=
  drainSource_cold (cold_upd (drainSource_cold h))

theorem attach_cold (h : Cold κ s) : Cold κ s.attach :=
  cold_ite (wr_cold h) (cold_ite (cold_upd (wr_cold h)) (notifIrq_cold (drainAll_cold (cold_ite
    (irq_cold (raise_cold (cold_upd (wr_cold (wr_cold h))))) (raise_cold (cold_upd (wr_cold (wr_cold
    h))))))))

theorem popNotif_cold {flips : Nat} (h : Cold κ s) : Cold κ (s.popNotif flips) := by
  unfold popNotif
  extract_lets _ s₁
  have h₁ : Cold κ s₁ := cold_ite (cold_upd h) h
  split
  · exact cold_upd h₁
  · exact notifIrq_cold (cold_upd (cold_ite (incSat_cold h₁) (cold_ite (incSat_cold h₁) h₁)))

theorem configure_cold {req : CfgReq} (h : Cold κ s) : Cold κ (s.configure req) := by
  unfold configure
  extract_lets
  split <;> exact cold_upd h

/-! ### The sampling front end (Sys2Proof/Machine/AfeOps.lean) -/

theorem endCapture_cold {p : Nat} (h : Cold κ s) : Cold κ (s.endCapture p) :=
  setFlag_cold (wr_cold (cold_upd h))

theorem sourceBlock_cold {mtbFirst : Nat} {data : List (List Int)} (h : Cold κ s) :
    Cold κ (s.sourceBlock src mtbFirst data) := by
  unfold sourceBlock
  refine cold_ite ?_ (drainSource_cold h)
  extract_lets _ _ _ _ s₁
  have h₁ : Cold κ s₁ := streamBlock_cold (cold_upd (cold_ite (addSat_cold h) h))
  exact cold_ite h (cold_ite h₁ (endCapture_cold h₁))

theorem waveAdd_cold {r : List Int} (h : Cold κ s) : Cold κ (s.waveAdd m r) :=
  cold_ite h (cold_upd (cold_upd h))

theorem waveBlock_cold (h : Cold κ s) : Cold κ (s.waveBlock m) :=
  cold_ite (drainSource_cold h) (streamBlock_cold (cold_upd h))

theorem startPass_cold (h : Cold κ s) : Cold κ (s.startPass conv) := by
  unfold startPass
  split
  · exact h
  · split
    · exact cold_upd (cold_upd h)
    · exact h

theorem putSeq_cold {ents : List Nat} (h : Cold κ s) : Cold κ (s.putSeq q' ctl ents) :=
  cold_forEach (fun h₁ => save_cold (save_cold (save_cold h₁))) (cold_forEach save_cold (cold_forEach
    writeFields_cold (wr_cold (writeFields_cold h))))

theorem padc10_cold (h : Cold κ s) : Cold κ s.padc10 := setFlag_cold h

theorem stopSeq_cold (h : Cold κ s) : Cold κ (s.stopSeq q') :=
  cold_upd (padc10_cold (save_cold (wr_cold h)))

theorem loadSeq_cold {ents : List Nat} (h : Cold κ s) : Cold κ (s.loadSeq q' ctl ents) :=
  cold_ite (padc10_cold (putSeq_cold h)) (stopSeq_cold (putSeq_cold h))

theorem auxSlowNote_cold {before : State} (h : Cold κ s) : Cold κ (s.auxSlowNote before) :=
  cold_forEach raise_cold h

theorem auxSlowAll_cold (h : Cold κ s) : Cold κ s.auxSlowAll := cold_forEach raise_cold h

theorem endPass_cold (h : Cold κ s) : Cold κ (s.endPass conv q') := by
  unfold endPass
  extract_lets _ _ _ _ s₁
  have h₁ : Cold κ s₁ := by
    unfold s₁
    split
    · exact loadSeq_cold (cold_upd (cold_upd h))
    · exact cold_upd h
  exact auxSlowNote_cold (startPass_cold (startPass_cold (cold_ite (stopSeq_cold h₁) h₁)))

theorem auxValue_cold {code : Int} (h : Cold κ s) : Cold κ (s.auxValue i conv code).2 :=
  cold_ite_snd h (cold_upd h)

theorem auxRecord_cold (h : Cold κ s) : Cold κ (s.auxRecord i flags value) :=
  cold_ite h (cold_ite (cold_upd h) (streamBlock_cold (cold_upd (cold_upd h))))

theorem auxConvert_cold {xs : List Int} {fixedT lost : Bool} (h : Cold κ s) :
    Cold κ (s.auxConvert i conv xs trip fixedT lost).2 := by
  unfold auxConvert
  extract_lets
  split
  rename_i hp
  have h₁ := cold_snd hp (auxValue_cold h)
  extract_lets _ _ _ s₂ s₃
  have h₂ : Cold κ s₂ := cold_upd (wr_cold (setFlag_cold (setFlag_cold (setFlag_cold (wrInt_cold
    (wr_cold h₁))))))
  have h₃ : Cold κ s₃ := cold_ite (addSat_cold h₂) h₂
  exact dispAux_cold (auxRecord_cold (cold_ite (incSat_cold h₃) h₃))

theorem calConvert_cold {samples : List Int} (h : Cold κ s) : Cold κ (s.calConvert i conv samples trip).2.2 :=
  cold_upd (auxConvert_cold h)

theorem noteFast_cold {r : AuxRun} (h : Cold κ s) : Cold κ (s.noteFast r i) := cold_ite (cold_upd h) h

/-! ### The ledger (Sys2Proof/Machine/LedgerOps.lean) -/

theorem touAdd_cold {six : List Nat} (h : Cold κ s) : Cold κ (s.touAdd m t six) := cold_forEach wr_cold h

theorem touSub_cold {six : List Nat} (h : Cold κ s) : Cold κ (s.touSub m t six) := cold_forEach wr_cold h

theorem closeRecord_cold {extra est : Nat} (h : Cold κ s) : Cold κ (s.closeRecord n extra est) :=
  cold_upd (appendNum_cold h)

theorem closeFinal_cold (h : Cold κ s) : Cold κ (s.closeFinal m) :=
  cold_forEach closeRecord_cold (wr_cold h)

theorem takeNum_cold (h : Cold κ s) : Cold κ s.takeNum.2 := by
  unfold takeNum
  split
  · exact cold_upd h
  · exact h

theorem readNoted_cold {group : Nat} (h : Cold κ s) : Cold κ (s.readNoted group) := by
  unfold readNoted
  extract_lets
  split
  · exact h
  · extract_lets
    refine cold_ite (cold_upd h) ?_
    split
    · exact complete_cold (cold_upd h)
    · exact cold_upd h

theorem flushPend_cold {p : PendRec} (h : Cold κ s) : Cold κ (s.flushPend p) :=
  cold_ite (readNoted_cold (appendTimed_cold (cold_upd h))) (appendTimed_cold (cold_upd (cold_upd h)))

theorem flushPends_cold (h : Cold κ s) : Cold κ (s.flushPends m upTo) := cold_forEach flushPend_cold h

theorem queueRecord_cold {p : PendRec} (h : Cold κ s) : Cold κ (s.queueRecord p) :=
  cold_ite (cold_upd h) (flushPend_cold h)

theorem metOpen_cold {sess : Nat} (h : Cold κ s) : Cold κ (s.metOpen m sess at_) :=
  cold_upd (wr_cold (wr_cold (wr_cold (wr_cold (wr_cold (wr_cold h))))))

theorem metClose_cold (h : Cold κ s) : Cold κ (s.metClose m at_) :=
  cold_ite (wr_cold (cold_upd (wr_cold h))) (closeFinal_cold (cold_upd (wr_cold h)))

theorem recOpen_cold {i : Identity} (h : Cold κ s) : Cold κ (s.recOpen n m i price at_) :=
  queueRecord_cold (cold_upd (takeNum_cold (wr_cold (cold_ite_snd (cold_upd h) h))))

theorem recClose_cold (h : Cold κ s) : Cold κ (s.recClose n reason at_) :=
  cold_ite h (cold_ite (metClose_cold (cold_upd (takeNum_cold h))) (cold_ite (cold_upd (takeNum_cold
    h)) (closeRecord_cold (cold_upd (takeNum_cold h)))))

theorem noteCounts_cold (h : Cold κ s) : Cold κ (s.noteCounts n) := cold_ite (cold_upd h) h

theorem readStart_cold {ctx : Option Ctx} (h : Cold κ s) : Cold κ (s.readStart mask at_ ctx) := by
  unfold readStart
  extract_lets _ _ _ _ s₁
  have h₁ : Cold κ s₁ := cold_forEach (fun h₁ => cold_upd (takeNum_cold h₁)) (cold_upd h)
  exact cold_ite (readNoted_cold h₁) (cold_forEach (fun h₃ => cold_ite h₃ (flushPends_cold h₃)) h₁)

theorem readSigned_cold (h : Cold κ s) : Cold κ (s.readSigned mask at_).2 := readStart_cold h

theorem backlog_cold (h : Cold κ s) : Cold κ (s.backlog k) :=
  cold_ite (raise_cold (wr_cold (cold_upd h))) (wr_cold (cold_upd h))

theorem energyPart_cold {until_ : Nat} {inc : List Nat} (h : Cold κ s) :
    Cold κ (s.energyPart m start until_ inc) := by
  unfold energyPart
  extract_lets _ _ _ _ _ _ _ s₁
  have h₁ : Cold κ s₁ := cold_upd (touAdd_cold (wr_cold (cold_forEach wr_cold h)))
  exact cold_upd (cold_forEach cold_upd (cold_ite (wr_cold (wr_cold h₁)) h₁))

theorem flowTrack_cold {export_ : Bool} (h : Cold κ s) : Cold κ (s.flowTrack m export_ start) :=
  cold_ite (cold_upd h) (cold_ite (raise_cold (cold_upd h)) (cold_upd h))

theorem demandClose_cold (h : Cold κ s) : Cold κ (s.demandClose m at_ wall flags) := by
  unfold demandClose
  extract_lets _ _ _ _ _ _ _ _ _ _ _ _ _ s₁ s₂
  have h₁ : Cold κ s₁ := cold_forEach (fun h₁ => cold_ite (cold_upd h₁) h₁) (wr_cold (wr_cold (wr_cold
    (cold_forEach wr_cold (cold_upd h)))))
  have h₂ : Cold κ s₂ := cold_ite (wr_cold (wr_cold h₁)) h₁
  exact cold_ite (raise_cold h₂) h₂

theorem tariffGo_cold (h : Cold κ s) : Cold κ (s.tariffGo m at_ tariff) :=
  cold_ite h (cold_forEach cold_upd (cold_upd (touAdd_cold (touSub_cold h))))

theorem billClose_cold {wallMs_ : Nat} (h : Cold κ s) : Cold κ (s.billClose at_ wallMs_ cause flags) :=
  append_cold (wr_cold (cold_forEach (fun h₁ => wr_cold (wr_cold h₁)) (cold_upd h)))

theorem transaction_cold {b : Boundary} (h : Cold κ s) : Cold κ (s.transaction b) := by
  unfold transaction
  extract_lets _ _ _ s₁ s₂ _ _ _ s₃ _ s₄ _ _ s₅ _ _ s₆
  have h₁ : Cold κ s₁ := by
    unfold s₁
    refine cold_ite ?_ (cold_upd h)
    split
    · exact append_cold (cold_upd (cold_upd h))
    · exact cold_upd h
  have h₂ : Cold κ s₂ := cold_forEach (fun h₂ => cold_forEach cold_upd h₂) h₁
  have h₃ : Cold κ s₃ := cold_ite (cold_forEach demandClose_cold h₂) h₂
  have h₄ : Cold κ s₄ := cold_forEach tariffGo_cold (cold_ite (billClose_cold h₃) h₃)
  have h₅ : Cold κ s₅ := cold_forEach append_cold (cold_ite (cold_upd h₄) h₄)
  have h₆ : Cold κ s₆ := raise_cold (cold_ite (append_cold h₅) h₅)
  split
  · exact complete_cold h₆
  · exact h₆

theorem addBoundary_cold {b : Boundary} (h : Cold κ s) : Cold κ (s.addBoundary b) := by
  unfold addBoundary
  split
  · exact cold_upd h
  · exact cold_ite (cold_upd h) (cold_upd (transaction_cold h))

theorem tariffSelect_cold (h : Cold κ s) : Cold κ (s.tariffSelect mask tariff price src at_) := by
  unfold tariffSelect
  exact addBoundary_cold (cold_forEach (fun h₁ => cold_ite (cold_upd h₁) h₁) h)

theorem tariffForce_cold (h : Cold κ s) : Cold κ (s.tariffForce mask tariff price at_) := tariffSelect_cold h

theorem closeBetween_cold {w0 w1 flag : Nat} {demand : Bool} (h : Cold κ s) :
    Cold κ (s.closeBetween w0 w1 flag cause demand).2 := by
  unfold closeBetween
  extract_lets _ _ _ _ _ _ s₁ s₂
  have h₁ : Cold κ s₁ := cold_forEach billClose_cold h
  have h₂ : Cold κ s₂ := cold_ite (cold_forEach (fun h₂ => cold_upd (wr_cold h₂)) h₁) h₁
  exact cold_ite (raise_cold h₂) h₂

theorem timeSet_cold (h : Cold κ s) : Cold κ (s.timeSet ms src).2 := by
  unfold timeSet
  extract_lets _ _ _ _ _ _ _ _ s₁ s₂ _ s₃ _ _ _ _ _ _ s₄ s₅
  have h₁ : Cold κ s₁ := cold_ite (cold_upd h) h
  have h₂ : Cold κ s₂ := by
    unfold s₂
    split
    · exact transaction_cold h₁
    · exact h₁
  have h₃ : Cold κ s₃ := setWall_cold (transaction_cold h₂)
  have h₄ : Cold κ s₄ := raise_cold (append_cold (wr_cold (cold_forEach tariffGo_cold (cold_upd
    (cold_ite (cold_upd h₃) (cold_ite (closeBetween_cold h₃) (cold_ite h₃ (closeBetween_cold h₃))))))))
  have h₅ : Cold κ s₅ := cold_ite (tamper_cold h₄) h₄
  exact cold_ite_snd h (cold_ite (tamper_cold h₅) h₅)

/-! ### The own tag (Sys2Proof/Machine/OwnTagOps.lean) -/

theorem ownStatus_cold (h : Cold κ s) : Cold κ (s.ownStatus n) := cold_ite h (cold_forEach cold_upd h)

theorem onField_cold {f : State → State} (h : Cold κ s) (hf : ∀ {s}, Cold κ s → Cold κ (f s)) :
    Cold κ (s.onField t f) := by
  unfold onField
  extract_lets s₁
  have h₁ : Cold κ s₁ := cold_ite (advance_cold h) h
  exact cold_ite (hf h₁) h₁

/-! ### The power-line modems (Sys2Proof/Machine/PlcOps.lean) -/

theorem modemOn_cold (h : Cold κ s) : Cold κ (s.modemOn i on) := setFlag_cold (setFlag_cold h)

theorem plcFollow_cold (h : Cold κ s) : Cold κ (s.plcFollow n) :=
  cold_ite (modemOn_cold h) (raise_cold (wr_cold (modemOn_cold h)))

theorem plcFollowAll_cold (h : Cold κ s) : Cold κ s.plcFollowAll := cold_forEach plcFollow_cold h

/-! ### The twin link (Sys2Proof/Machine/TwinBase.lean) -/

theorem forwardStop_cold (h : Cold κ s) : Cold κ (s.forwardStop x op mask peer) :=
  cold_ite (complete_cold (cold_upd h)) (complete_cold h)

/-! ### Casks (Sys2Proof/Machine/CaskOps.lean) -/

theorem testCloses_cold {acts : List CaskAct} (h : Cold κ s) : Cold κ (s.testCloses acts) := by
  unfold testCloses
  refine cold_forEach (fun h₁ => ?_) h
  split
  · exact testSensor_cold h₁
  · exact h₁

theorem writeRecord_cold (h : Cold κ s) : Cold κ (s.writeRecord k whole) := by
  unfold writeRecord
  extract_lets
  split
  rename_i hp
  have h₁ := cold_snd hp (cold_ite_snd (cold_upd h) h)
  exact cold_ite (cold_upd (cold_upd h₁)) (abortCask_cold (cold_upd h₁))

/-- A durable action closes no contactor. -/
theorem applyAct_durable_cold {tApply : Nat} {a : CaskAct} (ha : durable a = true) (h : Cold κ s) :
    Cold κ (s.applyAct k i tApply low a) := by
  cases a with
  | metOpen => exact metOpen_cold h
  | metClose => exact metClose_cold h
  | recOpen => exact recOpen_cold h
  | recClose => exact recClose_cold h
  | readSigned => exact readSigned_cold h
  | tariff => exact tariffForce_cold h
  | contactor | pilotDuty | pmSetpoint | dispUpdate => cases ha

theorem applyEarly_cold (h : Cold κ s) : Cold κ (s.applyEarly k) :=
  cold_upd (cold_upd (cold_forEach_mem (fun _ hp => applyAct_durable_cold (List.mem_filter.1 hp).2) (cold_upd h)))

/-! ### Outlet sessions (Sys2Proof/Machine/SessionOps.lean) -/

theorem setSess_cold {new : SessState} (h : Cold κ s) : Cold κ (s.setSess n new reason flags) := by
  unfold setSess
  exact plcFollow_cold (ownStatus_cold (noteCounts_cold (raise_cold (cold_ite (modOutlet_cold h)
    (wr_cold (modOutlet_cold h))))))

theorem offer_cold {p : PilotOut} (h : Cold κ s) : Cold κ (s.offer n p) := cold_ite h (stagePilot_cold h)

theorem leavePause_cold (h : Cold κ s) : Cold κ (s.leavePause n) :=
  cold_ite (noteCounts_cold (modOutlet_cold h)) h

theorem sessionOver_cold (h : Cold κ s) : Cold κ (s.sessionOver n reason) :=
  pmOff_cold (modOutlet_cold (cold_forEach wr_cold (cableEnd_cold (raise_cold (cold_ite (recClose_cold
    (leavePause_cold h)) (leavePause_cold h))))))

theorem endSession_cold (h : Cold κ s) : Cold κ (s.endSession n reason) :=
  offer_cold (setSess_cold (sessionOver_cold h))

theorem waitEnd_cold (h : Cold κ s) : Cold κ (s.waitEnd n reason) := modOutlet_cold h

theorem endOrWait_cold (h : Cold κ s) : Cold κ (s.endOrWait n reason) :=
  cold_ite (waitEnd_cold h) (endSession_cold h)

theorem faultSession_cold (h : Cold κ s) : Cold κ (s.faultSession n reason) := by
  unfold faultSession
  extract_lets _ s₁ s₂
  have h₁ : Cold κ s₁ := cold_ite (sessionOver_cold h) h
  have h₂ : Cold κ s₂ := cold_ite (outletSafe_cold h₁) (erem_cold h₁)
  exact cold_ite (waitEnd_cold h₂) (setSess_cold h₂)

theorem reactSafety_cold (h : Cold κ s) : Cold κ (s.reactSafety n) :=
  cold_ite (cold_ite (endOrWait_cold h) (faultSession_cold h)) h

theorem dcTo_cold {da dw : Nat} {off : Bool} (h : Cold κ s) : Cold κ (s.dcTo n da dw off) :=
  cold_ite (modOutlet_cold h) (stageSet_cold (modOutlet_cold h))

theorem offerW_cold (h : Cold κ s) : Cold κ (s.offerW n watts) :=
  cold_ite (dcTo_cold (modOutlet_cold h)) (cold_ite (offer_cold (modOutlet_cold h)) (cold_ite
    (offer_cold (modOutlet_cold h)) (offer_cold (modOutlet_cold h))))

theorem requestClose_cold (h : Cold κ s) : Cold κ (s.requestClose n) := by
  unfold requestClose
  exact setSess_cold (modOutlet_cold (testSensor_cold (cold_upd (wr_cold (cold_ite_snd (cold_upd h)
    h)))))

theorem goReady_cold (h : Cold κ s) : Cold κ (s.goReady n) := by
  unfold goReady
  extract_lets
  refine cold_ite h ?_
  split
  · exact cold_ite h (cold_ite (offer_cold (setSess_cold h)) (setSess_cold h))
  · exact cold_ite (setSess_cold h) h
  · exact h

theorem authorise_cold {i : Identity} (h : Cold κ s) : Cold κ (s.authorise n i) :=
  goReady_cold (raise_cold (wr_cold (modOutlet_cold h)))

theorem authoriseCard_cold {i : Identity} (h : Cold κ s) : Cold κ (s.authoriseCard n i) :=
  cold_ite (raise_cold h) (authorise_cold h)

theorem stopSession_cold (h : Cold κ s) : Cold κ (s.stopSession n reason) := by
  unfold stopSession
  exact cold_ite (setSess_cold (startMstop_cold (modOutlet_cold (leavePause_cold h)))) (cold_ite
    (setSess_cold (startMstop_cold (modOutlet_cold (leavePause_cold h)))) (offer_cold (setSess_cold
    (startMstop_cold (modOutlet_cold (leavePause_cold h))))))

theorem stopHosted_cold (h : Cold κ s) : Cold κ (s.stopHosted n reason) :=
  cold_ite h (cold_ite (startMstop_cold h) (offer_cold (startMstop_cold h)))

theorem stopAny_cold (h : Cold κ s) : Cold κ (s.stopAny n reason) :=
  cold_ite (stopSession_cold h) (stopHosted_cold h)

theorem cardPresented_cold {i : Identity} (h : Cold κ s) : Cold κ (s.cardPresented i) := by
  unfold cardPresented
  split
  · exact authoriseCard_cold h
  · exact cold_upd h

theorem bindHeld_cold (h : Cold κ s) : Cold κ (s.bindHeld n) := by
  unfold bindHeld
  split
  · exact cold_ite (authoriseCard_cold (cold_upd h)) (cold_ite (authorise_cold h) h)
  · exact cold_ite (authorise_cold h) h

theorem connect_cold (h : Cold κ s) : Cold κ (s.connect n) := by
  unfold connect
  extract_lets _ _ _ _ _ s₁
  have h₁ : Cold κ s₁ := setSess_cold (offer_cold (wr_cold (wr_cold (wr_cold (wr_cold (modOutlet_cold
    h))))))
  exact bindHeld_cold (cold_ite (cableQueue_cold h₁) h₁)

theorem unplugged_cold (h : Cold κ s) : Cold κ (s.unplugged n) :=
  endOrWait_cold (cold_ite (erem_cold h) (caskSafety_cold h))

theorem clearAtA_cold (h : Cold κ s) : Cold κ (s.clearAtA n) := wr_cold (cold_forEach clearFault_cold h)

theorem vehicleLeft_cold (h : Cold κ s) : Cold κ (s.vehicleLeft n) :=
  cold_ite (setSess_cold (offer_cold (cold_ite (raise_cold h) h))) (setSess_cold (wr_cold
    (modOutlet_cold (wr_cold h))))

theorem pilotDrives_cold {p : Pilot} (h : Cold κ s) : Cold κ (s.pilotDrives n p) := by
  unfold pilotDrives
  extract_lets
  refine cold_ite h ?_
  split
  · exact cold_ite (cold_ite (setSess_cold (offer_cold (raise_cold h))) (cold_ite (setSess_cold
      (raise_cold h)) (connect_cold h))) h
  · exact cold_ite (vehicleLeft_cold h) h
  · exact cold_ite (vehicleLeft_cold h) h
  · exact h
  · exact h
  · exact cold_ite (unplugged_cold h) (cold_ite (reactSafety_cold h) (cold_ite (cold_ite
      (requestClose_cold h) h) (cold_ite (setSess_cold (openOutlet_cold h)) h)))

theorem enfRaise_cold (h : Cold κ s) : Cold κ (s.enfRaise n watts) := modOutlet_cold (wr_cold h)

theorem applyAlloc_cold (h : Cold κ s) : Cold κ (s.applyAlloc n watts limit) :=
  cold_ite (modOutlet_cold h) (cold_ite (offerW_cold (raise_cold (noteCounts_cold (modOutlet_cold
    (wr_cold (wr_cold h)))))) (cold_ite (offerW_cold (raise_cold (wr_cold (enfRaise_cold (wr_cold
    h))))) (cold_ite h (offerW_cold h))))

theorem pauseSession_cold (h : Cold κ s) : Cold κ (s.pauseSession n) := by
  unfold pauseSession
  exact setSess_cold (cold_ite (dcTo_cold (wr_cold (wr_cold (cold_upd (modOutlet_cold h))))) (cold_ite
    (modOutlet_cold (offer_cold (wr_cold (wr_cold (cold_upd (modOutlet_cold h)))))) (modOutlet_cold
    (wr_cold (wr_cold (cold_upd (modOutlet_cold h)))))))

theorem queuePositions_cold (h : Cold κ s) : Cold κ s.queuePositions :=
  cold_forEach (fun h₁ => cold_forEach wr_cold h₁) h

theorem pauseShare_cold (h : Cold κ s) : Cold κ (s.pauseShare n) := by
  unfold pauseShare
  exact raise_cold (queuePositions_cold (pauseSession_cold h))

theorem resumeSession_cold (h : Cold κ s) : Cold κ (s.resumeSession n watts) := by
  unfold resumeSession
  extract_lets _ _ _ s₁
  have h₁ : Cold κ s₁ := offerW_cold (raise_cold (wr_cold (enfRaise_cold (wr_cold (setSess_cold
    (wr_cold (wr_cold (modOutlet_cold (leavePause_cold h)))))))))
  exact cold_ite (stageSet_cold h₁) h₁

theorem followTrack_cold (h : Cold κ s) : Cold κ (s.followTrack n) := by
  unfold followTrack
  extract_lets _ x₁
  clear_value x₁
  split
  · exact modOutlet_cold (wr_cold h)
  · exact cold_ite (modOutlet_cold (wr_cold h)) (wr_cold h)
  · exact cold_ite (modOutlet_cold (wr_cold h)) (modOutlet_cold (wr_cold h))

theorem settleShare_cold {w : Share} (h : Cold κ s) : Cold κ (s.settleShare w limit n) :=
  cold_ite (cold_ite (resumeSession_cold (modOutlet_cold (modOutlet_cold h))) (applyAlloc_cold
    (modOutlet_cold (modOutlet_cold h)))) (cold_ite (modOutlet_cold h) (cold_ite (modOutlet_cold
    (modOutlet_cold h)) (pauseShare_cold (modOutlet_cold h))))

theorem waitMinutes_cold (h : Cold κ s) : Cold κ (s.waitMinutes n) := cold_ite (wr_cold h) h

theorem reserveHost_cold (h : Cold κ s) : Cold κ (s.reserveHost n) := cold_ite (wr_cold (wr_cold h)) h

theorem allocatorRun_cold (h : Cold κ s) : Cold κ s.allocatorRun := by
  unfold allocatorRun
  split
  extract_lets _ s₁
  have h₁ : Cold κ s₁ := cold_forEach reserveHost_cold h
  exact cold_forEach waitMinutes_cold (queuePositions_cold (cold_forEach applyAlloc_cold (cold_forEach
    settleShare_cold (cold_forEach followTrack_cold (cold_ite (wr_cold h₁) (raise_cold (cold_upd
    (wr_cold h₁))))))))

/-! ### The allocator (Sys2Proof/Machine/Alloc.lean) -/

theorem modPm_cold {f : PowerModule → PowerModule} (h : Cold κ s) : Cold κ (s.modPm n i f) := modOutlet_cold h

theorem capNow_cold (h : Cold κ s) : Cold κ (s.capNow n) := cold_ite (applyAlloc_cold h) h

/-! ### Filters and trackers (Sys2Proof/Machine/FiltOps.lean) -/

theorem wrFit_cold {F : Fld} (h : Cold κ s) : Cold κ (s.wrFit F n v) :=
  cold_ite (wr_cold h) (wr_cold (cold_upd h))

theorem wrFitInt_cold {F : Fld} {z : Int} (h : Cold κ s) : Cold κ (s.wrFitInt F n z) :=
  cold_ite (wrInt_cold h) (wr_cold (cold_upd h))

theorem notePeriod_cold {per : Nat} (h : Cold κ s) : Cold κ (s.notePeriod m per ok) :=
  cold_ite (wr_cold (cold_upd h)) (cold_upd h)

theorem holdTrk_cold {frozen : Nat} (h : Cold κ s) : Cold κ (s.holdTrk m reason frozen) :=
  setTrk_cold (cold_upd h)

theorem lockTrk_cold (h : Cold κ s) : Cold κ (s.lockTrk m cross reason) :=
  setTrk_cold (wr_cold (cold_upd h))

theorem period_cold {amp : Nat} (h : Cold κ s) : Cold κ (s.period m cross amp) :=
  cold_ite h (cold_ite (cold_upd h) (cold_ite (cold_ite (holdTrk_cold (cold_upd (cold_upd
    (notePeriod_cold (wr_cold h))))) (cold_ite (holdTrk_cold (cold_upd (cold_upd (notePeriod_cold
    (wr_cold h))))) (cold_ite (holdTrk_cold (cold_upd (cold_upd (notePeriod_cold (wr_cold h)))))
    (cold_upd (cold_upd (notePeriod_cold (wr_cold h))))))) (cold_ite (lockTrk_cold (cold_upd
    (notePeriod_cold (wr_cold h)))) (cold_upd (notePeriod_cold (wr_cold h))))))

theorem freqCycle_cold (h : Cold κ s) : Cold κ (s.freqCycle m z) := cold_ite h (cold_upd h)

theorem beginCycle_cold (h : Cold κ s) : Cold κ (s.beginCycle m z) :=
  openCycle_cold (cold_upd (freqCycle_cold h))

theorem compensate_cold (h : Cold κ s) : Cold κ (s.compensate c temp) :=
  wr_cold (wrFitInt_cold (wrFitInt_cold h))

theorem compensateGroups_cold (h : Cold κ s) : Cold κ (s.compensateGroups mask temp).2 :=
  cold_upd (cold_forEach (fun h₁ => startBlend_cold (cold_forEach compensate_cold h₁)) h)

/-! ### The filter chains (Sys2Proof/Machine/ChainOps.lean) -/

theorem feedChan_cold {f : Feed} (h : Cold κ s) : Cold κ (s.feedChan upTo c f) := by
  unfold feedChan
  refine cold_ite h ?_
  extract_lets _ _ _ _ _ _ _ _ s₁ s₂
  have h₁ : Cold κ s₁ := cold_upd h
  have h₂ : Cold κ s₂ := cold_ite h₁ (filtOverflow_cold h₁)
  exact cold_ite h₂ (addSat_cold h₂)

theorem resampleNext_cold (h : Cold κ s) : OptCold κ (s.resampleNext c) := by
  unfold resampleNext
  extract_lets _ _ _ _ go
  have hgo : ∀ j i, Cold κ (go j i) := fun _ _ => cold_upd h
  split
  · split
    · exact optCold_ite (optCold_some (hgo _ _)) optCold_none
    · exact optCold_none
  · refine optCold_ite optCold_none (optCold_ite ?_ (optCold_some (cold_upd (hgo _ _))))
    split
    · exact optCold_some (cold_ite (hgo _ _) (hgo _ _))
    · exact optCold_none

theorem resample_cold {c : Nat} : ∀ {k : Nat} {s : State}, Cold κ s → Cold κ (resample c k s)
  | 0, _, h => h
  | k + 1, s, h => by
    unfold resample
    split
    · exact resample_cold (resampleNext_cold h _ ‹_›)
    · exact h

theorem respace_cold {no : Nat} (h : Cold κ s) : Cold κ (s.respace m no) :=
  cold_forEach (fun h₁ => cold_upd (cold_ite (cold_upd h₁) h₁)) h

theorem feedAll_cold {feed : List Feed} (h : Cold κ s) : Cold κ (s.feedAll upTo feed) :=
  cold_forEach (fun h₁ => cold_ite h₁ (cold_ite (feedChan_cold h₁) (resample_cold (feedChan_cold h₁)))) h

/-! ### Grid cycles (Sys2Proof/Machine/CycleOps.lean) -/

theorem pulseDue_cold {steps : List (Int × Int)} {before : List Nat} (h : Cold κ s) :
    Cold κ (s.pulseDue m start stop steps before) :=
  cold_forEach (fun h₁ => backlog_cold (cold_upd h₁)) h

theorem putPart_cold {p : CyclePart} {inc : List Nat} (h : Cold κ s) : Cold κ (s.putPart m start p inc) :=
  flushPends_cold (pulseDue_cold (energyPart_cold (cold_upd h)))

theorem calSeen_cold {w : Window} (h : Cold κ s) : Cold κ (s.calSeen m w) := by
  unfold calSeen
  split
  · exact cold_upd h
  · exact h

theorem windowAdd_cold {c : Cycle} (h : Cold κ s) : Cold κ (s.windowAdd m c stop) :=
  cold_ite (cold_upd h) (calSeen_cold (cold_upd (cold_upd h)))

theorem cycleEnergy_cold {c : Cycle} (h : Cold κ s) : Cold κ (s.cycleEnergy m c stop) := by
  unfold cycleEnergy
  extract_lets _ _ _ _ _ _ s₁
  have h₁ : Cold κ s₁ := by
    refine cold_forEach_snd (fun hp => ?_) (cold_upd h)
    dsimp only
    exact putPart_cold hp
  exact windowAdd_cold (cold_ite h₁ (flowTrack_cold h₁))

theorem waveCycle_cold {no : Nat} (h : Cold κ s) : Cold κ (s.waveCycle m no start stop) :=
  cold_ite h (cold_forEach waveAdd_cold h)

theorem meterNext_cold (h : Cold κ s) : OptCold κ (s.meterNext m) := by
  unfold meterNext
  refine optCold_ite optCold_none ?_
  extract_lets _ put
  have hput : ∀ c start stop, Cold κ (put c start stop) := fun _ _ _ =>
    cold_upd (cycleEnergy_cold (waveCycle_cold h))
  refine optCold_ite (optCold_ite optCold_none (optCold_some (hput _ _ _))) ?_
  split
  · exact optCold_ite (optCold_some (hput _ _ _)) optCold_none
  · split
    · exact optCold_ite (optCold_some (cold_upd h)) optCold_none
    · exact optCold_none

theorem meterSome_cold {m : Nat} : ∀ {k : Nat} {s : State}, Cold κ s → Cold κ (meterSome m k s)
  | 0, _, h => h
  | k + 1, s, h => by
    unfold meterSome
    split
    · exact meterSome_cold (meterNext_cold h _ ‹_›)
    · exact h

theorem meterTrk_cold (h : Cold κ s) : Cold κ (s.meterTrk k) := cold_forEach meterSome_cold h

theorem meterAll_cold {feed : List Feed} (h : Cold κ s) : Cold κ (s.meterAll upTo feed) :=
  cold_forEach meterSome_cold (feedAll_cold h)

theorem meterStop_cold {feed : List Feed} (h : Cold κ s) : Cold κ (s.meterStop feed) := by
  unfold meterStop
  extract_lets
  refine cold_forEach (fun h₂ => cold_ite (cycleEnergy_cold h₂) ?_) (meterAll_cold h)
  split
  · exact cycleEnergy_cold h₂
  · exact h₂

/-! ### Load switches (Sys2Proof/Machine/LswOps.lean) -/

theorem lswGo_cold {st : Nat} (h : Cold κ s) : Cold κ (s.lswGo n st) := cold_upd (wr_cold h)

theorem turnOn_cold {retry : Bool} (h : Cold κ s) : Cold κ (s.turnOn n retry) :=
  cold_ite (cold_upd (lswGo_cold h)) (lswGo_cold (cold_ite (wr_cold (cold_upd h)) (cold_upd h)))

theorem turnOff_cold {st : Nat} (h : Cold κ s) : Cold κ (s.turnOff n st) := cold_upd (lswGo_cold h)

theorem lswTrip_cold (h : Cold κ s) : Cold κ (s.lswTrip n cause ma tj) :=
  raise_cold (cold_ite (wr_cold (turnOff_cold (incSat_cold h))) (cold_ite (lswGo_cold (incSat_cold h))
    (cold_upd (lswGo_cold (incSat_cold h)))))

theorem budgetOff_cold {chans : List Nat} {ma : Nat → Nat} {mean : Nat} (h : Cold κ s) :
    Cold κ (s.budgetOff chans ma limit mean) := by
  unfold budgetOff
  split
  · exact h
  · exact raise_cold (incSat_cold (wr_cold (turnOff_cold h)))

theorem lswDisable_cold (h : Cold κ s) : Cold κ (s.lswDisable inst) := cold_forEach turnOff_cold h

theorem lswShed_cold (h : Cold κ s) : Cold κ s.lswShed := cold_forEach turnOff_cold h

theorem vlsLow_cold {b : Nat} (h : Cold κ s) : Cold κ (s.vlsLow b mv) :=
  cold_ite h (cold_ite (cold_upd (wr_cold h)) (cold_forEach (fun h₁ => cold_upd (cold_ite (lswGo_cold
    h₁) h₁)) (raise_cold (wr_cold (cold_upd (wr_cold h))))))

theorem vlsBack_cold {b : Nat} (h : Cold κ s) : Cold κ (s.vlsBack b mv) := by
  unfold vlsBack
  refine cold_ite h ?_
  extract_lets
  refine cold_forEach (fun h₂ => ?_) (raise_cold (wr_cold (wr_cold h)))
  split
  · exact h₂
  · exact cold_ite (turnOn_cold (cold_upd h₂)) (cold_upd h₂)

/-! ### Cask (Sys2Proof/Machine/Cask.lean) -/

theorem validated_cold (h : Cold κ s) : Cold κ (s.validated k) := by
  unfold validated
  extract_lets _ _ s₁
  have h₁ : Cold κ s₁ := cold_forEach dispArm_cold (cold_upd h)
  refine cold_ite h ?_
  split
  · exact abortCask_cold h
  · refine cold_ite h ?_
    split
    · exact abortCask_cold h
    · split
      · exact complete_cold h₁
      · exact h₁

theorem commitCask_cold {instant : Nat} (h : Cold κ s) : Cold κ (s.commitCask x k mode instant) := by
  unfold commitCask
  extract_lets
  split
  · exact complete_cold (cold_upd h)
  · split
    · exact complete_cold (cold_upd h)
    · exact complete_cold h
  · exact cold_ite (complete_cold h) (cold_ite (complete_cold h) (complete_cold (cold_upd h)))
  · exact complete_cold (cold_upd h)
  · exact complete_cold h

theorem disableSession_cold (h : Cold κ s) : Cold κ (s.disableSession n) := by
  unfold disableSession
  split
  · exact stopSession_cold h
  · exact stopSession_cold h
  · exact stopSession_cold h
  · exact h
  · exact cold_ite (endOrWait_cold (caskSafety_cold h)) (stopHosted_cold (caskSafety_cold h))

theorem cancelQueued_cold (h : Cold κ s) : Cold κ (s.cancelQueued x block inst).2 :=
  cold_forEach complete_cold h

theorem disableSteps_cold {done : Bool} (h : Cold κ s) : Cold κ (s.disableSteps x block inst done) := by
  unfold disableSteps
  split
  rename_i hp
  have h₁ := cold_snd hp (cancelQueued_cold h)
  extract_lets _ s₂
  have h₂ : Cold κ s₂ := by
    unfold s₂
    refine cold_forEach (fun h₂ => ?_) (cold_ite (cold_forEach dropRegion_cold h₁) h₁)
    extract_lets
    split
    · exact cold_ite (abortCask_cold h₂) h₂
    · exact h₂
  exact cold_upd (cold_forEach disableSession_cold h₂)

/-! ### Ledger (Sys2Proof/Machine/Ledger.lean) -/

theorem commitState_cold (h : Cold κ s) : Cold κ (s.commitState ok) := by
  unfold commitState
  extract_lets _ _ _ s₁
  have h₁ : Cold κ s₁ := cold_ite (cold_upd h) (cold_upd h)
  exact cold_ite h₁ (incSat_cold h₁)

theorem demandBoundary_cold {sec : Nat} (h : Cold κ s) : Cold κ (s.demandBoundary sec) :=
  cold_ite h (cold_ite (cold_upd h) (addBoundary_cold h))

theorem syncShift_cold {nominal : Nat} {shift : Int} {moved : Bool} (h : Cold κ s) :
    Cold κ (s.syncShift nominal shift moved) :=
  raise_cold (append_cold h)

theorem demandSync_cold (h : Cold κ s) : Cold κ (s.demandSync at_ falling) :=
  cold_ite h (cold_ite (syncShift_cold h) (addBoundary_cold (syncShift_cold (cold_upd h))))

theorem releaseHeld_cold (h : Cold κ s) : Cold κ s.releaseHeld := by
  unfold releaseHeld
  split
  · exact addBoundary_cold (cold_upd h)
  · exact h

theorem billEdge_cold (h : Cold κ s) : Cold κ s.billEdge := by
  unfold billEdge
  split
  · exact addBoundary_cold (cold_upd h)
  · exact h

theorem calClose_cold (h : Cold κ s) : Cold κ (s.calClose cause) := by
  unfold calClose
  split
  · exact h
  · exact legalRepaint_cold (raise_cold (append_cold (wr_cold (cold_upd h))))

theorem sealChange_cold {level : Bool} (h : Cold κ s) : Cold κ (s.sealChange level) :=
  cold_ite (cold_upd (setFlag_cold h)) (calClose_cold (cold_upd (setFlag_cold h)))

/-! ### The stops (Sys2Proof/Machine/StopOps.lean) -/

theorem putEst_cold {mw : Int} {ns : Option Nat} (h : Cold κ s) : Cold κ (s.putEst m mw ns) :=
  wr_cold (wr_cold (wr_cold (wr_cold h)))

theorem pourCask_cold (h : Cold κ s) : Cold κ (s.pourCask k) :=
  cold_ite h (cold_upd (cold_upd (applyEarly_cold h)))

theorem writeMark_cold {l : Nat} (h : Cold κ s) : Cold κ (s.writeMark l) := wr_cold (wr_cold (cold_upd h))

theorem pourSteps_cold {feed : List Feed} (h : Cold κ s) : Cold κ (s.pourSteps feed) := by
  unfold pourSteps
  extract_lets _ s₁ s₂
  have h₁ : Cold κ s₁ := releaseHeld_cold (meterStop_cold h)
  have h₂ : Cold κ s₂ := by
    unfold s₂
    split
    · exact cold_ite (transaction_cold h₁) h₁
    · exact h₁
  exact writeMark_cold (commitState_cold (cold_forEach flushPends_cold (cold_forEach pourCask_cold h₂)))

theorem lastPour_cold {feed : List Feed} (h : Cold κ s) : Cold κ (s.lastPour feed) :=
  wr_cold (wr_cold (cold_upd (cold_upd (pourSteps_cold (cold_upd (lswShed_cold (dispCut_cold h)))))))

theorem pourReturn_cold (h : Cold κ s) : Cold κ s.pourReturn :=
  dispWake_cold (cold_forEach (fun h₁ => cold_ite (abortCask_cold h₁) h₁) (tamper_cold (cold_upd
    (raise_cold (wr_cold (cold_forEach (fun h₁ => cold_upd (putEst_cold h₁)) (cold_upd (advance_cold
    h))))))))

theorem outputsOff_cold : Cold κ s.outputsOff := wr_cold (coils_empty_cold κ _)

theorem powerOff_cold : Cold κ s.powerOff := outputsOff_cold

theorem railFall_cold : Cold κ s.railFall := cold_upd powerOff_cold

theorem softRestart_cold : Cold κ (s.softRestart cause) := cold_upd powerOff_cold

/-! ### Twin operation (Sys2Proof/Machine/TwinOps.lean) -/

theorem noteReady_cold (h : Cold κ s) : Cold κ s.noteReady := setFlag_cold h

theorem setRole_cold {cause : Option Nat} (h : Cold κ s) : Cold κ (s.setRole new cause) := by
  unfold setRole
  cases cause with
  | some c => exact raise_cold (noteReady_cold (append_cold (cold_upd (wr_cold (wr_cold h)))))
  | none =>
    exact raise_cold (noteReady_cold (append_cold (cold_upd (wr_cold (wr_cold (cold_upd h))))))

theorem peerEvent_cold (h : Cold κ s) : Cold κ s.peerEvent := raise_cold h

theorem twinStart_cold (h : Cold κ s) : Cold κ s.twinStart :=
  cold_ite (setRole_cold outputsOff_cold) (cold_ite (setRole_cold h) h)

theorem giveUp_cold (h : Cold κ s) : Cold κ (s.giveUp cause) := by
  unfold giveUp
  exact setRole_cold (cold_upd (cold_ite h (cold_forEach (fun h₁ => cold_ite (abortCask_cold h₁) h₁) h)))

theorem twinRelease_cold : Cold κ s.twinRelease :=
  cold_upd (cold_forEach modOutlet_cold (cold_forEach (fun h₁ => cold_upd (wr_cold h₁)) outputsOff_cold))

theorem loadCopy_cold {c : TwinCopy} (h : Cold κ s) : Cold κ (s.loadCopy c) := cold_upd (cold_upd h)

theorem carrySession_cold {c : Carried} (h : Cold κ s) : Cold κ (s.carrySession c) :=
  cold_ite h (cold_upd (wr_cold (wr_cold (wr_cold (wr_cold (wr_cold (wr_cold h)))))))

theorem takeOverDone_cold (h : Cold κ s) : Cold κ s.takeOverDone := by
  unfold takeOverDone
  extract_lets
  refine cold_forEach (fun h₃ => ?_) (setRole_cold (incSat_cold (cold_forEach carrySession_cold h)))
  split
  · exact stopSession_cold h₃
  · exact stopSession_cold h₃
  · exact stopSession_cold h₃
  · exact h₃
  · exact endSession_cold h₃

/-! ### Key (Sys2Proof/Machine/Key.lean) -/

theorem recoveryOutlets_cold (h : Cold κ s) : Cold κ s.recoveryOutlets :=
  cold_ite h (cold_forEach (fun h₁ => cold_ite (setSess_cold (driveF_cold h₁)) h₁) h)

theorem withTree_cold {f : State → State} (h : Cold κ s) (hf : ∀ {s}, Cold κ s → Cold κ (f s)) :
    Cold κ (s.withTree x f) :=
  cold_ite (complete_cold h) (cold_ite (complete_cold h) (hf h))

theorem onNode_cold {p : List (List Byte)} {f : KNode → State → State} (h : Cold κ s) (hf : ∀ {x s}, Cold κ s →
    Cold κ (f x s)) :
    Cold κ (s.onNode x p f) := by
  unfold onNode
  refine withTree_cold h (fun h₁ => ?_)
  split
  · exact complete_cold h₁
  · exact complete_cold h₁
  · exact hf h₁

theorem owned_cold {g : OwnerSig} {bad : Option Nat} {f : State → State} (h : Cold κ s) (hf : ∀ {s}, Cold κ s →
    Cold κ (f s)) :
    Cold κ (s.owned x g bad f) := by
  unfold owned
  split
  · exact complete_cold h
  · exact complete_cold h
  · exact hf (ownerTook_cold h)

theorem withCreds_cold {f : State → State} (h : Cold κ s) (hf : ∀ {s}, Cold κ s → Cold κ (f s)) :
    Cold κ (s.withCreds x f) :=
  withTree_cold h hf

theorem endLoad_cold (h : Cold κ s) : Cold κ s.endLoad := wr_cold (wr_cold (cold_upd h))

theorem credFlip_cold {m : Manifest} (h : Cold κ s) : Cold κ (s.credFlip m) :=
  raise_cold (endLoad_cold (wr_cold (wr_cold (wr_cold (wr_cold (cold_upd h))))))

/-! ### Trellis (Sys2Proof/Machine/TrellisOps.lean) -/

theorem setTrx_cold (h : Cold κ s) : Cold κ (s.setTrx new reason) := cold_upd (raise_cold (wr_cold h))

theorem showLink_cold (h : Cold κ s) : Cold κ (s.showLink n) :=
  wr_cold (wr_cold (wr_cold (wr_cold (wr_cold h))))

theorem rerouteOne_cold {ns : List Nat} {d : Nat} (h : Cold κ s) : Cold κ (s.rerouteOne ns d) := by
  unfold rerouteOne
  extract_lets
  split
  extract_lets s₁
  have h₁ : Cold κ s₁ := wr_cold (wr_cold (wr_cold h))
  exact cold_ite (raise_cold (incSat_cold h₁)) h₁

theorem reroute_cold (h : Cold κ s) : Cold κ s.reroute :=
  wr_cold (wr_cold (cold_forEach rerouteOne_cold h))

theorem linkResult_cold {failed : Bool} (h : Cold κ s) : Cold κ (s.linkResult n k failed) :=
  reroute_cold (showLink_cold (cold_upd h))

theorem hear_cold {h' : THdr} (h : Cold κ s) : Cold κ (s.hear h') := by
  unfold hear
  extract_lets _ s₁ _ _ s₂
  have h₁ : Cold κ s₁ := cold_upd h
  have h₂ : Cold κ s₂ := by
    unfold s₂
    split
    · exact cold_upd (wr_cold h₁)
    · exact wr_cold h₁
  exact reroute_cold (showLink_cold h₂)

theorem enqueue_cold {f : TFrame} (h : Cold κ s) : Cold κ (s.enqueue f) := cold_ite h (cold_upd h)

theorem send_cold {payload : List Nat} {via : Nat} {ctx : Option Ctx} (h : Cold κ s) :
    Cold κ (s.send typ cls dst payload via ctx) :=
  enqueue_cold (cold_upd h)

theorem transmit_cold {f : TFrame} {rx : Nat} (h : Cold κ s) : Cold κ (s.transmit f rx).2 :=
  cold_upd (cold_upd h)

theorem frameDone_cold {f : TFrame} {outcome : Nat} (h : Cold κ s) : Cold κ (s.frameDone f outcome) := by
  unfold frameDone
  split
  · exact h
  · exact finalise_cold (raise_cold h)

theorem cancelFrames_cold (h : Cold κ s) : Cold κ s.cancelFrames :=
  cold_forEach frameDone_cold (cold_upd h)

theorem mainsModems_cold (h : Cold κ s) : Cold κ (s.mainsModems on) := modemOn_cold (modemOn_cold h)

theorem listen_cold (h : Cold κ s) : Cold κ (s.listen reason) :=
  setTrx_cold (wr_cold (mainsModems_cold (cold_upd h)))

theorem trellisEn_cold (h : Cold κ s) : Cold κ s.trellisEn :=
  cold_ite (cold_ite (listen_cold h) h) (cold_ite h (setTrx_cold (wr_cold (mainsModems_cold
    (cancelFrames_cold h)))))

theorem joinReq_cold {coord via : Nat} (h : Cold κ s) : Cold κ (s.joinReq coord via reason) :=
  send_cold (cold_upd (setTrx_cold (wr_cold h)))

theorem receive_cold {h' : THdr} {payload : List Nat} {f : State → State} (h : Cold κ s) (hf : ∀ {s}, Cold κ s →
    Cold κ (f s)) :
    Cold κ (s.receive h' typ payload f) := by
  unfold receive
  refine cold_ite h (cold_ite (incSat_cold h) ?_)
  extract_lets _ _ _ s₁ _ s₂ _ _ s₃ _ _ s₄
  have h₁ : Cold κ s₁ := hear_cold (cold_upd h)
  have h₂ : Cold κ s₂ := cold_ite (transmit_cold h₁) h₁
  have h₃ : Cold κ s₃ := cold_upd h₂
  have h₄ : Cold κ s₄ := cold_ite (enqueue_cold h₃) h₃
  exact cold_ite h₁ (cold_ite h₂ (cold_ite (hf h₄) h₄))

theorem holdStart_cold (h : Cold κ s) : Cold κ s.holdStart := cold_ite h (wrInt_cold (cold_upd h))

theorem alignNote_cold (h : Cold κ s) : Cold κ s.alignNote := cold_ite h (raise_cold (cold_upd h))

theorem moveStart_cold (h : Cold κ s) : Cold κ (s.moveStart target) := holdStart_cold (cold_upd h)

theorem every_cold {f : State → State} (h : Cold κ s) (hf : ∀ {s}, Cold κ s → Cold κ (f s)) :
    Cold κ (s.every k n f) :=
  cold_ite h (hf (cold_upd h))

theorem limitApply_cold {entries : List (Nat × Nat)} (h : Cold κ s) :
    Cold κ (s.limitApply validity entries src) := by
  unfold limitApply
  extract_lets
  split
  · exact h
  · exact raise_cold (cold_upd (wr_cold h))

theorem serveNext_cold (h : Cold κ s) : Cold κ s.serveNext := by
  unfold serveNext
  split
  · exact cold_ite h (cold_ite (cold_upd h) (cold_forEach send_cold (cold_upd h)))
  · exact cold_upd h
  · exact h

/-! ### Updates (Sys2Proof/Machine/UpdOps.lean) -/

theorem updGo_cold (h : Cold κ s) : Cold κ (s.updGo new status) :=
  raise_cold (wr_cold (cold_ite h (wr_cold h)))

theorem updTouch_cold (h : Cold κ s) : Cold κ (s.updTouch src) := cold_ite (cold_upd h) h

theorem updForget_cold (h : Cold κ s) : Cold κ s.updForget := wr_cold (wr_cold (cold_upd h))

theorem updRelease_cold (h : Cold κ s) : Cold κ s.updRelease := wr_cold h

theorem updMark_cold {b : Nat} {data : List Nat} (h : Cold κ s) : Cold κ (s.updMark b data) :=
  wr_cold (cold_upd (cold_upd h))

theorem updFresh_cold {m : TamecMan} {bs : List Nat} (h : Cold κ s) : Cold κ (s.updFresh m bs) :=
  wr_cold (wr_cold (cold_upd (cold_upd h)))

theorem updFull_cold (h : Cold κ s) : Cold κ s.updFull := cold_ite (updGo_cold h) h

theorem updBegin_cold {bs : List Nat} {sigs : Bool × Bool} (h : Cold κ s) :
    Cold κ (s.updBegin src node bs sigs).2.2 := by
  unfold updBegin
  extract_lets _ _ _ s₁
  have h₁ : Cold κ s₁ := updTouch_cold (wr_cold h)
  refine cold_ite_thd h (cold_ite_thd h ?_)
  split
  · exact cold_ite (tamper_cold h) h
  · exact cold_ite_thd (updFull_cold (updGo_cold (cold_ite h₁ (updFresh_cold h₁)))) (cold_ite_thd
      (updTouch_cold h) (cold_ite_thd (updTouch_cold (updFresh_cold h)) h))

theorem updBlock_cold {b : Nat} {data : List Nat} (h : Cold κ s) : Cold κ (s.updBlock src b data).2 := by
  unfold updBlock
  split
  · exact h
  · exact cold_ite_snd h (cold_ite_snd h (cold_ite_snd h (cold_ite_snd h (cold_ite_snd (cold_ite_snd
      (raise_cold (wr_cold (cold_upd h))) (updMark_cold h)) (cold_ite_snd h (cold_ite_snd (raise_cold h)
      (updMark_cold h)))))))

theorem updBlocks_cold {src : Nat} :
    ∀ {b : Nat} {l : List (List Nat)} {s : State}, Cold κ s → Cold κ (updBlocks src b l s).2.2
  | _, [], _, h => h
  | b, data :: r, s, h => by
    unfold updBlocks
    exact cold_ite_thd (updBlocks_cold (updBlock_cold h)) (updBlock_cold h)

theorem updReceive_cold {blocks : List (List Nat)} (h : Cold κ s) :
    Cold κ (s.updReceive src first blocks).2.2 :=
  cold_ite_thd h (cold_ite_thd h (updFull_cold (cold_ite (updTouch_cold (updBlocks_cold h))
    (updBlocks_cold h))))

theorem updVerified_cold {readOk : Bool} (h : Cold κ s) : Cold κ (s.updVerified readOk) := by
  unfold updVerified
  split
  · extract_lets
    split
    · exact cold_ite (raise_cold (updGo_cold (cold_upd h))) (updRelease_cold (updGo_cold (updForget_cold
        h)))
    · exact updRelease_cold (updGo_cold (updForget_cold h))
  · exact h

theorem updRequest_cold (h : Cold κ s) : Cold κ (s.updRequest node) := by
  unfold updRequest
  split
  · exact cold_ite h (send_cold h)
  · exact h

theorem updOffer_cold (h : Cold κ s) : Cold κ (s.updOffer node digest gen) :=
  cold_ite (cold_ite (send_cold (cold_upd h)) h) (cold_ite (updRequest_cold h) h)

theorem updBlockRx_cold {prefix_ b : Nat} {data : List Nat} {sigs : Bool × Bool} (h : Cold κ s) :
    Cold κ (s.updBlockRx node prefix_ b data sigs) := by
  unfold updBlockRx
  split
  · exact cold_ite h (cold_ite (updRequest_cold (updBegin_cold (cold_upd h))) (updBegin_cold (cold_upd
      h)))
  · exact cold_ite (updReceive_cold h) h
  · exact h

/-! ### Upd (Sys2Proof/Machine/Upd.lean) -/

theorem ptrWrite_cold (h : Cold κ s) : Cold κ s.ptrWrite := cold_upd (wr_cold h)

theorem forceOutlets_cold (h : Cold κ s) : Cold κ (s.forceOutlets x) := cold_forEach disableSteps_cold h

theorem healthNote_cold (h : Cold κ s) : Cold κ s.healthNote := cold_ite h (cold_upd h)

theorem updConfirm_cold {auto : Bool} (h : Cold κ s) : Cold κ (s.updConfirm auto) :=
  updGo_cold (raise_cold (cold_upd (ptrWrite_cold (wr_cold (wr_cold h)))))

theorem revertNow_cold (h : Cold κ s) : Cold κ s.revertNow := by
  unfold revertNow
  split
  · exact cold_ite h softRestart_cold
  · exact h

theorem revertStart_cold {owed : Option Ctx} (h : Cold κ s) : Cold κ (s.revertStart cause x owed) :=
  revertNow_cold (cold_upd (forceOutlets_cold h))

theorem activate_cold {owed : Option Ctx} (h : Cold κ s) : Cold κ (s.activate mode x owed) :=
  cold_ite (forceOutlets_cold (updGo_cold (cold_upd h))) (updGo_cold (cold_upd h))

theorem actEnds_cold (h : Cold κ s) : Cold κ (s.actEnds status) := by
  unfold actEnds
  split
  · exact cold_ite (cold_upd (finaliseOpt_cold (cold_upd h))) (finaliseOpt_cold (cold_upd h))
  · exact h

theorem updFlip_cold {x : Option Ctx} (h : Cold κ s) : Cold κ (s.updFlip x) := by
  unfold updFlip
  split
  · exact h
  · exact softRestart_cold

theorem updAbort_cold {g : Option OwnerSig} (h : Cold κ s) : Cold κ (s.updAbort src g).2.2 := by
  unfold updAbort
  extract_lets
  refine cold_ite_thd h ?_
  refine cold_ite_thd (updRelease_cold (updGo_cold (updForget_cold (cold_upd (actEnds_cold h))))) ?_
  split
  · exact h
  · split
    · exact h
    · exact updRelease_cold (updGo_cold (updForget_cold (cold_upd (actEnds_cold (ownerTook_cold h)))))

theorem onUpd_cold {f : State → State} (h : Cold κ s) (hf : ∀ {s}, Cold κ s → Cold κ (f s)) :
    Cold κ (s.onUpd t f) :=
  cold_ite (hf (advance_cold h)) (advance_cold h)

theorem hostSource_cold {f : State → State} (h : Cold κ s) (hf : ∀ {s}, Cold κ s → Cold κ (f s)) :
    Cold κ (s.hostSource x f) :=
  cold_ite (complete_cold h) (hf h)

/-! ### Islands and cycles (Sys2Proof/Machine/ArchOps.lean) -/

theorem serveXing_cold {from_ : Nat} {x : Xing} (h : Cold κ s) : Cold κ (s.serveXing target from_ x).2 :=
  cold_ite_snd (cold_upd h) (cold_ite_snd (cold_upd (partitionDenied_cold h)) (cold_ite_snd (cold_upd h)
    (cold_upd (wr_cold (cold_upd h)))))

theorem linkCommand_cold {cmd : Option (Nat × Nat)} (h : Cold κ s) : Cold κ (s.linkCommand dst cmd) := by
  unfold linkCommand
  split
  · exact h
  · split
    · exact cold_ite h (complete_cold h)
    · exact h

theorem linkTimeout_cold {ini : Ini} {cmd : Option (Nat × Nat)} (h : Cold κ s) :
    Cold κ (s.linkTimeout src dst ini cmd) := by
  unfold linkTimeout
  exact linkCommand_cold (notify_cold (cold_ite (cold_upd (alert_cold (incSat_cold h))) (raise_cold
    (cold_upd (cold_upd (alert_cold (incSat_cold h)))))))

theorem freqEdge_cold (h : Cold κ s) : Cold κ s.freqEdge :=
  cold_forEach cold_upd (cold_forEach (fun h₁ => cold_ite h₁ (cold_ite (wr_cold (wr_cold h₁)) (wr_cold
    h₁))) h)

theorem secondEdge_cold (h : Cold κ s) : Cold κ s.secondEdge := by
  unfold secondEdge
  exact billEdge_cold (freqEdge_cold (wr_cold (wr_cold h)))

theorem passStaged_cold (h : Cold κ s) : Cold κ (s.passStaged n) := modOutlet_cold h

theorem stagingDeadline_cold {late : Nat} (h : Cold κ s) : Cold κ (s.stagingDeadline late) := by
  unfold stagingDeadline
  refine cold_ite h ?_
  extract_lets _ _ _ s₁ _ s₂
  have h₁ : Cold κ s₁ := cold_forEach (fun h₁ => cold_upd (passStaged_cold h₁)) (cold_upd h)
  have h₂ : Cold κ s₂ := cold_upd h₁
  exact cold_ite h₁ (cold_forEach (fun h₆ => cold_ite (stopSession_cold (cold_upd h₆)) h₆) (cold_ite h₂
    (raise_cold (incSat_cold (cold_upd h₂)))))

/-! ### Coil (Sys2Proof/Machine/Coil.lean) -/

theorem coilFault_cold (h : Cold κ s) : Cold κ (s.coilFault k code chan) := 
  modCoil_cold ⟨Bool.and_elim_left, Bool.and_elim_left, .inr ⟨nofun, nofun⟩⟩ (trip_cold h)

/-! ### Met (Sys2Proof/Machine/Met.lean) -/

theorem putPf_cold {F : Fld} {p : Int} {sApp : Nat} (h : Cold κ s) : Cold κ (s.putPf F n p sApp) :=
  cold_ite (wr_cold (cold_upd h)) (wrInt_cold h)

theorem putCos_cold {re : Int} {mag : Nat} (h : Cold κ s) : Cold κ (s.putCos n re mag) := putPf_cold h

theorem putPhase_cold {a first : PhaseSum} (h : Cold κ s) : Cold κ (s.putPhase m i a first) :=
  cold_ite (wrFitInt_cold (wrFitInt_cold (wrFitInt_cold h))) (wrInt_cold (wrInt_cold (putCos_cold
    (putPf_cold (wrFit_cold (wrFitInt_cold (wrFitInt_cold (wrFit_cold (wrFit_cold h)))))))))

theorem putTotal_cold {w : Window} (h : Cold κ s) : Cold κ (s.putTotal m w) := by
  unfold putTotal
  extract_lets _ _ _ _ s₁ _ _ _ s₂
  have h₁ : Cold κ s₁ := cold_upd (wrFitInt_cold h)
  have h₂ : Cold κ s₂ := putPf_cold (wrFit_cold (wrFitInt_cold (wr_cold h₁)))
  exact cold_ite (wr_cold h₁) (cold_ite h₂ (wrFit_cold h₂))

theorem putHarm_cold {order : Nat} {w : Window} (h : Cold κ s) : Cold κ (s.putHarm m ph order w) :=
  cold_upd (wrFit_cold (wrFit_cold (wrFit_cold (wrFit_cold h))))

theorem putThd_cold (h : Cold κ s) : Cold κ (s.putThd m i) := wrFit_cold (wrFit_cold h)

theorem windowEnd_cold {w : Window} (h : Cold κ s) : Cold κ (s.windowEnd m w) := by
  unfold windowEnd
  extract_lets _ _ s₁
  have h₁ : Cold κ s₁ := putTotal_cold (cold_forEach putPhase_cold h)
  exact cold_upd (cold_ite h₁ (cold_forEach putThd_cold (cold_forEach (fun h₃ => cold_forEach
    putHarm_cold h₃) h₁)))

theorem qualSecond_cold (h : Cold κ s) : Cold κ (s.qualSecond m) :=
  cold_upd (cold_forEach (fun h₁ => cold_ite (addSat_cold h₁) h₁) h)

theorem secondRecord_cold (h : Cold κ s) : Cold κ (s.secondRecord m) :=
  wr_cold (wr_cold (cold_upd (qualSecond_cold h)))

theorem pqKind_cold {on ext : Nat} {starts ends : Bool} {worse : Nat → Nat → Nat} (h : Cold κ s) :
    Cold κ (s.pqKind m at_ kind on ext starts ends worse) := by
  unfold pqKind
  extract_lets
  split
  · exact cold_ite (raise_cold (wr_cold (cold_upd h))) h
  · exact cold_ite (raise_cold (incSat_cold (wr_cold (cold_upd h)))) (wr_cold (cold_upd h))

theorem pqHalf_cold {ps : List (Nat × Nat)} (h : Cold κ s) : Cold κ (s.pqHalf m at_ ps) :=
  pqKind_cold (pqKind_cold (pqKind_cold h))

theorem copyBank_cold (h : Cold κ s) : Cold κ (s.copyBank c) := cold_forEach wr_cold h

theorem applyCal_cold {k : CalKept} {cs : List Nat} {gv gi ti : Int} (h : Cold κ s) :
    Cold κ (s.applyCal x m ph mask k cs gv gi ti) := by
  unfold applyCal
  extract_lets _ _ s₁ s₂ s₃ s₄
  have h₁ : Cold κ s₁ := cold_forEach copyBank_cold h
  have h₂ : Cold κ s₂ := cold_ite (wrFitInt_cold h₁) h₁
  have h₃ : Cold κ s₃ := cold_ite (wrFitInt_cold h₂) h₂
  have h₄ : Cold κ s₄ := cold_ite (wrFitInt_cold h₃) h₃
  exact complete_cold (startBlend_cold (cold_forEach calNote_cold (cold_forEach cold_upd (cold_ite
    (wrFitInt_cold (wrFitInt_cold h₄)) h₄))))

theorem pulseReset_cold (h : Cold κ s) : Cold κ (s.pulseReset k) := wr_cold (cold_upd h)

/-! ### Outlet (Sys2Proof/Machine/Outlet.lean) -/

theorem setOut_cold {p : PilotOut} (h : Cold κ s) : Cold κ (s.setOut n p) := modOutlet_cold (wr_cold h)

theorem judgePeriod_cold {high low : Int} (h : Cold κ s) : Cold κ (s.judgePeriod n high low) := by
  unfold judgePeriod
  extract_lets _ s₁ x₁
  clear_value x₁
  have h₁ : Cold κ s₁ := wrInt_cold (wrInt_cold h)
  split
  · exact h₁
  · exact modOutlet_cold h₁

theorem acceptPilot_cold {p : Pilot} (h : Cold κ s) : Cold κ (s.acceptPilot n p) := by
  unfold acceptPilot
  extract_lets s₁ s₂
  have h₁ : Cold κ s₁ := modOutlet_cold h
  have h₂ : Cold κ s₂ := cold_ite (clearAtA_cold h₁) h₁
  exact pilotDrives_cold (cold_ite (trip_cold h₂) h₂)

theorem hlcFailed_cold (h : Cold κ s) : Cold κ (s.hlcFailed n) :=
  cold_ite h (cold_ite (goReady_cold (modOutlet_cold (wr_cold (wr_cold h)))) (endSession_cold h))

theorem vehicleAuth_cold {evccid : List Byte} (h : Cold κ s) : Cold κ (s.vehicleAuth n evccid) := by
  unfold vehicleAuth
  extract_lets _ x₁
  clear_value x₁
  split
  · exact authorise_cold h
  · exact raise_cold h
  · exact raise_cold h

theorem contractAuth_cold {ident : List Byte} {ocsp : Nat} (h : Cold κ s) :
    Cold κ (s.contractAuth n ident valid ocsp) := by
  unfold contractAuth
  extract_lets _ x₁
  clear_value x₁
  refine cold_ite h ?_
  refine cold_ite (endSession_cold (raise_cold h)) (cold_ite (endSession_cold (raise_cold h)) ?_)
  split
  · exact endSession_cold (raise_cold h)
  · exact authorise_cold h
  · exact authorise_cold h

theorem evStop_cold {delivery : Bool} (h : Cold κ s) : Cold κ (s.evStop n delivery) := by
  unfold evStop
  extract_lets
  split
  · exact stopSession_cold h
  · exact cold_ite (stopSession_cold h) (cold_ite (modOutlet_cold (openOutlet_cold h)) h)
  · exact h

theorem hlcMessage_cold {msg : HlcMsg} (h : Cold κ s) : Cold κ (s.hlcMessage n msg) := by
  unfold hlcMessage
  extract_lets
  split
  · refine cold_ite h ?_
    extract_lets x₁
    clear_value x₁
    split
    · exact wr_cold h
    · exact hlcFailed_cold h
  · exact cold_ite h (cold_ite (cold_ite (hlcFailed_cold h) (endSession_cold h)) (cold_ite
      (vehicleAuth_cold (modOutlet_cold h)) (modOutlet_cold h)))
  · exact cold_ite h (contractAuth_cold h)
  · exact goReady_cold (modOutlet_cold (cold_ite (wr_cold h) h))
  · exact cold_ite (stageSet_cold (modOutlet_cold h)) h
  · exact cold_ite (stageSet_cold h) h
  · exact cold_ite (modOutlet_cold h) (cold_ite (stageSet_cold h) h)
  · exact evStop_cold h
  · exact evStop_cold h
  · exact cold_ite (stageSet_cold h) h
  · exact cold_ite h (cold_ite (modOutlet_cold h) (hlcFailed_cold h))
  · exact cold_ite (modOutlet_cold h) h
  · exact cold_ite h (raise_cold (modOutlet_cold h))
  · exact hlcFailed_cold h

theorem cfgApplied_cold (h : Cold κ s) : Cold κ (s.cfgApplied n) := by
  unfold cfgApplied
  extract_lets s₁ _ _ s₂
  have h₁ : Cold κ s₁ := cold_ite (offer_cold h) h
  have h₂ : Cold κ s₂ := modOutlet_cold h₁
  exact cold_ite h₁ (cold_ite (reserveHost_cold (cold_ite (setSess_cold h₂) h₂)) (wr_cold (wr_cold h₁)))

theorem stopOne_cold (h : Cold κ s) : Cold κ (s.stopOne n) := by
  unfold stopOne
  split
  · exact stopSession_cold h
  · exact stopSession_cold h
  · exact stopSession_cold h
  · exact endOrWait_cold (caskSafety_cold h)
  · exact h

theorem sessionStop_cold (h : Cold κ s) : Cold κ (s.sessionStop mask).2 :=
  cold_ite_snd (cold_forEach (fun h₁ => stopOne_cold (caskSafety_cold h₁)) (cold_forEach (fun h₁ =>
    stopHosted_cold (caskSafety_cold h₁)) h)) h

theorem outErem_cold (h : Cold κ s) : Cold κ (s.outErem mask) :=
  cold_forEach (fun h₁ => cold_ite (faultSession_cold (erem_cold h₁)) (erem_cold h₁)) h

/-! ### Supply and clocks (Sys2Proof/Machine/PowerOps.lean) -/

theorem loseClock_cold (h : Cold κ s) : Cold κ s.loseClock :=
  cold_ite h (wr_cold (wr_cold (cold_upd h)))

theorem railShow_cold {mv : Int} (h : Cold κ s) : Cold κ (s.railShow r mv) :=
  cold_ite (wr_cold (wrInt_cold h)) (cold_ite (wr_cold (wrInt_cold h)) (wrInt_cold h))

theorem vanaShow_cold (h : Cold κ s) : Cold κ s.vanaShow :=
  mpEvalAll_cold (trkRefreshAll_cold (cold_forEach (fun h₁ => setFlag_cold (setFlag_cold h₁)) h))

theorem failRestart_cold {feed : List Feed} : Cold κ (s.failRestart cause feed whole) := softRestart_cold

theorem railAct_cold {mv : Int} {feed : List Feed} (h : Cold κ s) : Cold κ (s.railAct r ov mv feed whole) := by
  unfold railAct
  split
  · exact cold_ite h (lastPour_cold h)
  · exact cold_ite h (raise_cold (wr_cold h))
  · exact h
  · exact failRestart_cold
  · exact failRestart_cold
  · exact failRestart_cold
  · exact vanaShow_cold h
  · exact cold_forEach trip_cold h
  · exact cold_forEach trip_cold h
  · exact loseClock_cold h
  · exact cold_ite h (vlsLow_cold h)

theorem railFails_cold {mv : Int} {feed : List Feed} (h : Cold κ s) : Cold κ (s.railFails r ov mv feed whole) :=
  cold_ite h (cold_ite (railShow_cold h) (railAct_cold (raise_cold (incSat_cold (wr_cold
    (railShow_cold h))))))

theorem railBack_cold {mv : Int} (h : Cold κ s) : Cold κ (s.railBack r mv) := by
  unfold railBack
  refine cold_ite h ?_
  extract_lets _ s₁
  have h₁ : Cold κ s₁ := raise_cold (wr_cold (wr_cold (railShow_cold h)))
  exact cold_ite (wr_cold h₁) (cold_ite (vanaShow_cold h₁) h₁)

theorem shutOutlets_cold (h : Cold κ s) : Cold κ s.shutOutlets := by
  unfold shutOutlets
  refine cold_forEach (fun h₁ => ?_) h
  split
  · exact stopSession_cold h₁
  · exact stopSession_cold h₁
  · exact stopSession_cold h₁
  · exact h₁
  · exact cold_ite (endSession_cold h₁) h₁

theorem lowSidesOff_cold (h : Cold κ s) : Cold κ s.lowSidesOff :=
  cold_forEach (modCoil_cold (Coil.atMost_off id (by simp) rfl)) (cold_forEach noteOpening_cold h)

theorem tempTaken_cold {c : Int} (h : Cold κ s) : Cold κ (s.tempTaken k c) := by
  unfold tempTaken
  refine cold_ite h ?_
  extract_lets _ _ _ s₁ s₂ s₃ s₄ _ _ _ s₅ s₆
  have h₁ : Cold κ s₁ := wr_cold (wr_cold h)
  have h₂ : Cold κ s₂ := cold_ite h₁ (raise_cold (wr_cold h₁))
  have h₃ : Cold κ s₃ := cold_ite (alert_cold h₂) h₂
  have h₄ : Cold κ s₄ := cold_ite (wr_cold h₃) h₃
  have h₅ : Cold κ s₅ := cold_ite (shutOutlets_cold (cold_safe rfl (wr_cold h₄))) h₄
  have h₆ : Cold κ s₆ := cold_ite (lowSidesOff_cold h₅) h₅
  exact cold_ite (dispWake_cold (cold_safe rfl (wr_cold (wr_cold h₆)))) h₆

theorem enterMeter_cold (h : Cold κ s) : Cold κ s.enterMeter := by
  unfold enterMeter
  exact raise_cold (meterDisp_cold (wr_cold (cold_ite (islandStop_cold (islandStop_cold h))
    (islandStop_cold (islandStop_cold (islandStop_cold h))))))

/-! ### Safe (Sys2Proof/Machine/Safe.lean) -/

theorem pilotB_cold {level : Int} (h : Cold κ s) : Cold κ (s.pilotB n level) := by
  unfold pilotB
  refine cold_ite (modOs_cold h) ?_
  extract_lets x₁ s₁ _ s₂
  clear_value x₁
  have h₁ : Cold κ s₁ := modOs_cold h
  have h₂ : Cold κ s₂ := by
    unfold s₂
    split
    · exact cold_ite (cold_ite (testSensor_cold (modOs_cold (modOs_cold h₁))) (modOs_cold h₁)) h₁
    · exact h₁
  exact cold_ite (trip_cold h₂) h₂

theorem followHigh_cold (h : Cold κ s) : Cold κ (s.followHigh k) := by
  unfold followHigh
  extract_lets c
  split
  · next hc =>
    simp only [Bool.and_eq_true] at hc
    obtain ⟨⟨_, hls⟩, _⟩ := hc
    exact modCoil_cold (Coil.atMost_off id (fun _ => hls) rfl) h
  · exact h

theorem formBeat_cold (h : Cold κ s) : Cold κ s.formBeat := cold_safe rfl h

theorem sampleMirrors_cold {mirrors : Nat} (h : Cold κ s) : Cold κ (s.sampleMirrors mirrors) :=
  cold_forEach (modCoil_cold ⟨id, id, .inl rfl⟩) h

theorem cableFailed_cold (h : Cold κ s) : Cold κ (s.cableFailed n) :=
  cold_ite (endSession_cold (erem_cold (modOutlet_cold h))) (modOutlet_cold h)

theorem imdCount_cold {fault : Bool} (h : Cold κ s) : Cold κ (s.imdCount n fault) :=
  cold_ite (trip_cold (modOs_cold h)) (modOs_cold h)

theorem imdResult_cold (h : Cold κ s) : Cold κ (s.imdResult kohm) := by
  unfold imdResult
  extract_lets _ _ _ _ _ _ _ s₁ _ s₂
  have h₁ : Cold κ s₁ := cold_safe rfl (wr_cold (wr_cold h))
  have h₂ : Cold κ s₂ := imdCount_cold (cold_ite (raise_cold h₁) h₁)
  split
  · exact h₂
  · exact cold_ite h₂ (cold_ite (cableFailed_cold h₂) (modOutlet_cold h₂))

theorem clearLatched_cold (h : Cold κ s) : Cold κ (s.clearLatched n code) := by
  unfold clearLatched
  refine cold_ite ?_ h
  extract_lets s₁ s₂
  have h₁ : Cold κ s₁ := modOs_cold h
  have h₂ : Cold κ s₂ := cold_ite (wr_cold (modOs_cold h₁)) h₁
  exact cold_ite (cold_forEach (modCoil_cold Coil.atMost_unfault) h₂) h₂

theorem clearModLatched_cold (h : Cold κ s) : Cold κ (s.clearModLatched code) := cold_ite (cold_upd h) h

theorem resetSafe_cold (h : Cold κ s) : Cold κ s.resetSafe :=
  cold_ite h (raise_cold (refreshSafeOk_cold (cold_forEach (fun h₁ => cold_forEach clearLatched_cold h₁)
    (cold_forEach clearModLatched_cold h))))

theorem safeInAct_cold {action : Nat} (h : Cold κ s) : Cold κ (s.safeInAct action n) := by
  unfold safeInAct
  split
  · exact stopAny_cold h
  · exact trip_cold h
  · exact trip_cold h
  · exact trip_cold h
  · exact h

theorem safeInGo_cold (h : Cold κ s) : Cold κ (s.safeInGo m) :=
  cold_ite h (cold_forEach safeInAct_cold (cold_ite (raise_cold h) h))

theorem safeInReturn_cold (h : Cold κ s) : Cold κ s.safeInReturn :=
  cold_forEach (fun h₁ => cold_ite h₁ (clearFault_cold h₁)) h

theorem safeInLevel_cold (h : Cold κ s) : Cold κ (s.safeInLevel m closed) :=
  safeInReturn_cold (cold_ite (cold_upd h) (safeInGo_cold (cold_upd h)))

theorem safeInCfg_cold {before : State} (h : Cold κ s) : Cold κ (s.safeInCfg before m) :=
  safeInReturn_cold (cold_ite h (safeInGo_cold h))

/-! ### Register writes (Sys2Proof/Machine/RegOps.lean) -/

theorem refuseWrite_cold (h : Cold κ s) : Cold κ (s.refuseWrite off reason) :=
  cold_ite (raise_cold (cold_upd (alert_cold (wr_cold (wr_cold (incSat_cold h)))))) (cold_upd
    (alert_cold (wr_cold (wr_cold (incSat_cold h)))))

theorem clearRc_cold {d : RegDef} (h : Cold κ s) : Cold κ (s.clearRc d n) := cold_forEach wr_cold h

theorem readWord_cold (h : Cold κ s) : Cold κ (s.readWord off).2 := by
  unfold readWord
  split
  · exact h
  · exact cold_ite_snd h (cold_ite_snd (popNotif_cold h) (clearRc_cold (cold_forEach cold_upd h)))

theorem barRead_cold (h : Cold κ s) : Cold κ (s.barRead off wide) :=
  cold_ite (cold_upd (refuseWrite_cold h)) (cold_ite (cold_upd (readWord_cold (readWord_cold h)))
    (cold_upd (readWord_cold h)))

theorem msixPut_cold (h : Cold κ s) : Cold κ (s.msixPut off v) :=
  cold_ite h (cold_ite (cold_upd h) (cold_upd (cold_upd h)))

theorem msixWrite_cold (h : Cold κ s) : Cold κ (s.msixWrite off v wide) :=
  cold_ite (msixPut_cold (msixPut_cold h)) (msixPut_cold h)

theorem putFields_cold {fs : List Fld} (h : Cold κ s) : Cold κ (s.putFields fs n image) :=
  cold_forEach (fun h₁ => cold_ite (wr_cold h₁) (wrSave_cold h₁)) h

theorem calList_cold {old : Nat} (h : Cold κ s) : Cold κ (s.calList off old new) := by
  unfold calList
  split
  · exact cold_upd h
  · exact h

theorem shiftMoved_cold {before : State} (h : Cold κ s) : Cold κ (s.shiftMoved before c) :=
  cold_ite h (wr_cold (calList_cold h))

theorem chainApplied_cold {before : State} {d : RegDef} (h : Cold κ s) :
    Cold κ (s.chainApplied before d n) := by
  unfold chainApplied
  extract_lets _ _ s₁ s₂
  have h₁ : Cold κ s₁ := cold_forEach (fun h₂ => restartChain_cold (shiftMoved_cold h₂)) h
  have h₂ : Cold κ s₂ := cold_ite (tamper_cold (wr_cold h₁)) h₁
  exact cold_ite (mpEvalAll_cold (trkRefreshAll_cold h₂)) h₂

theorem seqApplied_cold {before : State} {ent : Option Nat} (h : Cold κ s) (h_before : Cold κ before) :
    Cold κ (s.seqApplied before q' ent) :=
  cold_ite (cold_ite (cold_upd (cold_upd h_before)) (cold_upd h_before)) (cold_ite (padc10_cold
    (wr_cold h)) (stopSeq_cold (wr_cold h)))

theorem regApplied_cold {before : State} {d : RegDef} (h : Cold κ s) (h_before : Cold κ before) :
    Cold κ (s.regApplied before d n) :=
  auxSlowNote_cold (cold_ite (seqApplied_cold (chainApplied_cold h) h_before) (cold_ite (seqApplied_cold
    (chainApplied_cold h) h_before) (cold_ite (pulseReset_cold (chainApplied_cold h)) (cold_ite
    (signKeyChanged_cold (chainApplied_cold h)) (cold_ite (plcFollowAll_cold (cfgApplied_cold
    (chainApplied_cold h))) (cold_ite (cold_ite (trellisEn_cold (chainApplied_cold h)) (mainsModems_cold
    (trellisEn_cold (chainApplied_cold h)))) (cold_ite (safeInCfg_cold (chainApplied_cold h)) (cold_ite
    (bandShow_cold (chainApplied_cold h)) (cold_ite (twinStart_cold (chainApplied_cold h))
    (chainApplied_cold h))))))))))

theorem alertWrite_cold (h : Cold κ s) : Cold κ (s.alertWrite mask) := by
  unfold alertWrite
  extract_lets s₁
  have h₁ : Cold κ s₁ := cold_forEach wr_cold h
  exact cold_ite (irq_cold h₁) h₁

theorem lockSetup_cold (h : Cold κ s) : Cold κ s.lockSetup :=
  cold_ite h (auxSlowAll_cold (cold_upd (wr_cold h)))

theorem settingsSaved_cold (h : Cold κ s) : Cold κ s.settingsSaved :=
  cold_ite h (raise_cold (wr_cold (cold_forEach save_cold h)))

theorem writeCtrl_cold (h : Cold κ s) : Cold κ (s.writeCtrl image) :=
  cold_ite (attach_cold (putFields_cold h)) (cold_ite (detach_cold (putFields_cold h)) (putFields_cold
    h))

theorem applyWrite_cold {d : RegDef} {fs : List Fld} (h : Cold κ s) : Cold κ (s.applyWrite d n off fs image) :=
  regApplied_cold (cold_ite (calNote_cold (putFields_cold h)) (putFields_cold h)) h

theorem writeFieldwise_cold {d : RegDef} (h : Cold κ s) : Cold κ (s.writeFieldwise d n off image) := by
  unfold writeFieldwise
  extract_lets
  split
  · exact refuseWrite_cold h
  · refine cold_ite (refuseWrite_cold h) (cold_ite (refuseWrite_cold h) ?_)
    split
    · exact refuseWrite_cold h
    · exact applyWrite_cold h

theorem writeReg_cold {d : RegDef} {ws : List (Nat × Nat)} (h : Cold κ s) : Cold κ (s.writeReg d n off ws) := by
  unfold writeReg
  extract_lets
  refine cold_ite (cold_ite (lockSetup_cold h) h) ?_
  refine cold_ite (alertWrite_cold h) (cold_ite (writeCtrl_cold h) ?_)
  split
  · exact writeRing_cold h
  · exact writeFieldwise_cold h

theorem writeWord_cold (h : Cold κ s) : Cold κ (s.writeWord off v) := by
  unfold writeWord
  split
  · exact refuseWrite_cold h
  · exact cold_ite (refuseWrite_cold (cold_upd h)) (cold_ite (cold_upd (cold_upd h)) (writeReg_cold
      (cold_upd h)))

theorem barWrite_cold {part : Bool} (h : Cold κ s) : Cold κ (s.barWrite off v wide part) :=
  cold_ite (refuseWrite_cold h) (cold_ite (writeWord_cold h) (cold_ite (writeWord_cold (writeWord_cold
    h)) (writeWord_cold (writeWord_cold h))))

theorem regWrite_cold (h : Cold κ s) : Cold κ (s.regWrite off value mask).2 := by
  unfold regWrite
  refine cold_ite_snd h ?_
  split
  · exact h
  · extract_lets
    refine cold_ite_snd h (cold_ite_snd (alertWrite_cold h) (cold_ite_snd h (cold_ite_snd h ?_)))
    split
    · exact h
    · exact applyWrite_cold h

/-! ### Slac (Sys2Proof/Machine/Slac.lean) -/

theorem putSlac_cold {r : SlacRun} (h : Cold κ s) : Cold κ (s.putSlac r) := plcFollowAll_cold (cold_upd h)

theorem dropSlac_cold (h : Cold κ s) : Cold κ (s.dropSlac id) := plcFollowAll_cold (cold_upd h)

theorem slacFail_cold (h : Cold κ s) : Cold κ (s.slacFail n) :=
  cold_ite (modOutlet_cold h) (cold_ite (endSession_cold (modOutlet_cold h)) (goReady_cold
    (modOutlet_cold h)))

theorem slacHold_cold {ps : List Nat} (h : Cold κ s) : Cold κ (s.slacHold ps) :=
  cold_forEach modOutlet_cold h

theorem slacClose_cold (h : Cold κ s) : Cold κ s.slacClose := by
  unfold slacClose
  extract_lets
  refine cold_forEach (fun h₁ => ?_) h
  extract_lets
  split
  · exact slacHold_cold (putSlac_cold h₁)
  · exact slacHold_cold (putSlac_cold h₁)
  · exact cold_forEach slacFail_cold (dropSlac_cold (raise_cold h₁))
  · exact cold_forEach slacFail_cold (dropSlac_cold (raise_cold h₁))

/-! ### The start of the module (Sys2Proof/Machine/StartOps.lean) -/

theorem hostReady_cold (h : Cold κ s) : Cold κ s.hostReady :=
  cold_ite h (cold_ite (attach_cold (wr_cold h)) (wr_cold h))

/-! ### Tag (Sys2Proof/Machine/Tag.lean) -/

theorem walkLimit_cold {port frames found : Nat} (h : Cold κ s) : Cold κ (s.walkLimit port frames found) :=
  cold_ite h (raise_cold (incSat_cold h))

theorem refuseCard_cold {h' : Nat} (h : Cold κ s) : Cold κ (s.refuseCard proto h' code) :=
  raise_cold (raise_cold h)

theorem oneCard_cold {uid : List Byte} (h : Cold κ s) : Cold κ (s.oneCard proto uid authOk) := by
  unfold oneCard
  extract_lets _ _ _ _ x₁
  clear_value x₁
  refine cold_ite (raise_cold h) (cold_ite h (cold_ite (refuseCard_cold (cold_upd h)) ?_))
  split
  · exact raise_cold (stopSession_cold (cold_upd h))
  · exact raise_cold (raise_cold (cold_upd h))
  · exact refuseCard_cold (cold_upd h)
  · exact cold_ite (refuseCard_cold (cold_upd h)) (raise_cold (cardPresented_cold (cold_upd h)))

theorem pollFound_cold {cards : List (List Byte)} {found : Nat} (h : Cold κ s) :
    Cold κ (s.pollFound proto cards found authOk) := by
  unfold pollFound
  split
  · exact cold_ite (oneCard_cold h) h
  · exact cold_ite (raise_cold (incSat_cold h)) h

theorem cableBelieved_cold {atConnect : Bool} {r : CableRead} {l : LifeCopy} {older : Nat} (h : Cold κ s) :
    Cold κ (s.cableBelieved n atConnect r l older).2 := by
  unfold cableBelieved
  extract_lets _ _ _ _ _ _ _ _ _ _ _ _ _ _ _ _ _ _ s₁
  have h₁ : Cold κ s₁ := setFlag_cold (cold_upd (setFlag_cold (wr_cold (wr_cold (wr_cold (wr_cold
    (wr_cold (wr_cold h))))))))
  exact cold_ite_snd h (cold_ite (addJob_cold h₁) h₁)

theorem cableSession_cold {atConnect : Bool} (h : Cold κ s) : Cold κ (s.cableSession n code atConnect) := by
  unfold cableSession
  refine cold_ite h ?_
  split
  · exact wr_cold (modOutlet_cold h)
  · exact cold_ite (endSession_cold h) h
  · exact cold_ite (setSess_cold (offer_cold (sessionOver_cold h))) (modOutlet_cold h)

theorem nextJob_cold (h : Cold κ s) : Cold κ s.nextJob := setJobs_cold (cold_upd h)

theorem lifeWrite_cold (h : Cold κ s) : Cold κ (s.lifeWrite n) := wr_cold (cold_upd h)

theorem ownCommit_cold {stop : Nat} :
    ∀ {l : List (Nat × Nat)} {last : Nat} {s : State}, Cold κ s → Cold κ (ownCommit stop l last s)
  | [], _, _, h => h
  | (b, v) :: r, last, s, h => by
    unfold ownCommit
    exact ownCommit_cold (cold_upd (cold_upd (cold_upd h)))

/-! ### Twin (Sys2Proof/Machine/Twin.lean) -/

theorem noteFrame_cold {h' : TwinHdr} (h : Cold κ s) : Cold κ (s.noteFrame h' crc) := by
  unfold noteFrame
  extract_lets _ _ _ _ s₁
  have h₁ : Cold κ s₁ := cold_upd (wrInt_cold (addSat_cold (setFlag_cold (wr_cold h))))
  exact cold_ite h₁ (peerEvent_cold h₁)

theorem linkRole_cold {peerRole : Nat} {peerPrefer : Bool} (h : Cold κ s) :
    Cold κ (s.linkRole peerRole peerPrefer) :=
  cold_ite (cold_ite (setRole_cold h) (cold_ite (setRole_cold h) h)) (cold_ite (setRole_cold h)
    (noteReady_cold h))

end State
end Sys2Proof.Machine
end

section
/-! SUPPORT and PROOFS. What can turn a coil on: every other command leaves a coil that does not conduct as it is (R74,
R131, R133, R142, R153, R482). -/

namespace Sys2Proof.Machine

open State

variable {κ : Nat} {s : State} {x : Ctx}
variable {block bus c cause chan cls code conv count crc cross ctl digest dst first gen i id image inst j k kind
  kohm m ma mask mode ms mv n off op peer ph price q' r reading reason run serial since src t target tariff tj typ
  us v validity value w watts : Nat}
variable {authOk closed falling low ok on ov sigOk trip valid whole wide : Bool}
variable {offset temp : Int}

/-! ### Host (Sys2Proof/Machine/Host.lean) -/

theorem execConfigRequest_cold {req : CfgReq} (h : Cold κ s) : OutCold κ (execConfigRequest t req s) :=
  cold_next (cold_ite (configure_cold (advance_cold h)) (cold_upd (advance_cold h)))

theorem execPerstRelease_cold (h : Cold κ s) : OutCold κ (execPerstRelease t s) :=
  cold_next (cold_upd (advance_cold h))

theorem execHostDetach_cold {cause : DetachCause} (h : Cold κ s) : OutCold κ (execHostDetach t cause s) :=
  cold_next (cold_ite (detach_cold (advance_cold h)) (cold_ite (cold_upd (advance_cold h))
    (advance_cold h)))

theorem execHostAttach_cold (h : Cold κ s) : OutCold κ (execHostAttach t s) :=
  cold_next (cold_ite (advance_cold h) (cold_ite (attach_cold (advance_cold h)) (cold_ite (cold_upd
    (advance_cold h)) (advance_cold h))))

theorem execRingRegisterWrite_cold {kind : RingKind} (h : Cold κ s) :
    OutCold κ (execRingRegisterWrite t kind i image s) :=
  cold_next (onEvent_cold h (fun h₁ => cold_ite (writeRing_cold h₁) h₁))

theorem execDoorbellPoll_cold {cmdProd cplCons evCons strProd : List Nat} {descs : List (List Desc)} {bufs : List
    (List Nat)} (h : Cold κ s) :
    OutCold κ (execDoorbellPoll t cmdProd cplCons evCons strProd descs bufs s) :=
  cold_next (onEvent_cold h (fun h₁ => cold_ite h₁ (settleDestroys_cold (coalesceDue_cold (grants_cold
    (fetchRing_cold (drainAll_cold (releaseCompletions_cold (releaseStops_cold (cold_forEach cold_upd
    (cold_upd (cold_upd h₁))))))))))))

theorem execKick_cold {prod : Nat} {descs : List Desc} {bufs : List Nat} (h : Cold κ s) :
    OutCold κ (execKick t off prod descs bufs s) :=
  cold_next (onEvent_cold h (fun h₁ => cold_ite h₁ (cold_ite (fetchRing_cold (cold_upd h₁)) (cold_ite
    (drainAll_cold (cold_upd (cold_upd h₁))) h₁))))

theorem execStopCompletionRelease_cold (h : Cold κ s) : OutCold κ (execStopCompletionRelease t s) :=
  cold_next (onEvent_cold h releaseStops_cold)

theorem execEvrGap_cold (h : Cold κ s) : OutCold κ (execEvrGap t j s) :=
  cold_next (onEvent_cold h reportGap_cold)

theorem execNotifDataRead_cold {flips : Nat} (h : Cold κ s) : OutCold κ (execNotifDataRead t flips s) :=
  cold_next (onEvent_cold h popNotif_cold)

theorem execRingCreate_cold {kind : RingKind} (h : Cold κ s) : OutCold κ (execRingCreate x kind i image s) :=
  cold_next (command_cold h (fun h₁ => cold_ite (complete_cold h₁) (cold_ite (complete_cold h₁)
    (complete_cold (writeRing_cold h₁)))))

theorem execRingDestroy_cold {kind : RingKind} (h : Cold κ s) : OutCold κ (execRingDestroy x kind i s) := by
  unfold execRingDestroy
  refine cold_next (command_cold h (fun h₁ => cold_ite (complete_cold h₁) ?_))
  split
  · exact cold_upd h₁
  · exact cold_ite (complete_cold h₁) (complete_cold (wr_cold h₁))
  · exact complete_cold (wr_cold h₁)
  · exact complete_cold (wr_cold h₁)

theorem execJournalFetch_cold {span : Nat} (h : Cold κ s) : OutCold κ (execJournalFetch x first span s) :=
  cold_next (command_cold h (fun h₁ => cold_ite (complete_cold h₁) (complete_cold (giveBuffer_cold h₁))))

theorem execStatusQuery_cold {ring : Nat} (h : Cold κ s) : OutCold κ (execStatusQuery x ring first count s) :=
  cold_next (command_cold h (fun h₁ => cold_ite (complete_cold h₁) (complete_cold (giveBuffer_cold h₁))))

theorem execEcho_cold {data : List Byte} (h : Cold κ s) : OutCold κ (execEcho x data s) :=
  cold_next (command_cold h complete_cold)

/-! ### Afe (Sys2Proof/Machine/Afe.lean) -/

theorem execStreamBufferFill_cold {mtbFirst : Nat} {data : List (List Int)} (h : Cold κ s) :
    OutCold κ (execStreamBufferFill t src mtbFirst data s) :=
  cold_next (onEvent_cold h (fun h₁ => cold_ite (cold_ite (waveBlock_cold h₁) (drainSource_cold h₁))
    (sourceBlock_cold h₁)))

theorem execChOverload_cold (h : Cold κ s) : OutCold κ (execChOverload t c s) := by
  unfold execChOverload
  refine cold_next (onCore_cold h (fun h₁ => cold_ite h₁ ?_))
  extract_lets s₂ _ _ s₃
  have h₂ : Cold κ s₂ := incSat_cold (wr_cold h₁)
  have h₃ : Cold κ s₃ := cold_upd (cold_ite (incSat_cold h₂) h₂)
  exact cold_ite (raise_cold (cold_upd h₃)) (cold_upd h₃)

theorem execMbsLost_cold (h : Cold κ s) : OutCold κ (execMbsLost t c s) :=
  cold_next (onCore_cold h (fun h₁ => cold_ite h₁ (cold_forEach mpEval_cold (trkRefreshAll_cold
    (raise_cold (wr_cold (wr_cold (wr_cold h₁))))))))

theorem execMbsRestored_cold (h : Cold κ s) : OutCold κ (execMbsRestored t c s) :=
  cold_next (onCore_cold h (fun h₁ => cold_ite h₁ (cold_forEach mpEval_cold (trkRefreshAll_cold
    (raise_cold (setFlag_cold (setFlag_cold (wr_cold h₁))))))))

theorem execAuxSeqDue_cold (h : Cold κ s) : OutCold κ (execAuxSeqDue t q' s) :=
  cold_next (onEvent_cold h (fun h₁ => cold_ite h₁ (cold_ite (raise_cold (incSat_cold (cold_upd h₁)))
    (startPass_cold (cold_upd (cold_upd h₁))))))

theorem execAuxConversionDone_cold {samples : List Int} (h : Cold κ s) :
    OutCold κ (execAuxConversionDone t conv samples trip s) := by
  unfold execAuxConversionDone
  refine cold_next (onEvent_cold h (fun h₁ => ?_))
  extract_lets s₂
  have h₂ : Cold κ s₂ := cold_ite (auxDecide_cold h₁) h₁
  split
  · exact h₂
  · exact cold_ite h₂ (cold_ite (cold_upd (noteFast_cold (auxConvert_cold h₂))) (endPass_cold
      (noteFast_cold (auxConvert_cold h₂))))

theorem execAfeSeqLoad_cold {ents : List Nat} (h : Cold κ s) : OutCold κ (execAfeSeqLoad x q' ctl ents s) := by
  unfold execAfeSeqLoad
  refine cold_next (command_cold h (fun h₁ => ?_))
  split
  · exact complete_cold h₁
  · exact complete_cold (auxSlowNote_cold (cold_ite (cold_upd h₁) (loadSeq_cold h₁)))

theorem execAfeSeqEn_cold {on : Nat} (h : Cold κ s) : OutCold κ (execAfeSeqEn x q' on s) :=
  cold_next (command_cold h (fun h₁ => cold_ite (complete_cold h₁) (complete_cold (auxSlowNote_cold
    (cold_ite (padc10_cold (save_cold (wr_cold (cold_upd h₁)))) (cold_ite (cold_upd h₁) (stopSeq_cold
    h₁)))))))

theorem execAfeAuxOneshot_cold {settle avg : Nat} {samples : List Int} (h : Cold κ s) :
    OutCold κ (execAfeAuxOneshot x i conv settle avg samples trip s) :=
  cold_next (command_cold h (fun h₁ => cold_ite (complete_cold h₁) (cold_ite (complete_cold h₁)
    (complete_cold (cold_upd (auxConvert_cold h₁))))))

theorem execAfeCalZero_cold {y0 : Int} {samples : List Int} (h : Cold κ s) :
    OutCold κ (execAfeCalZero x i conv y0 samples trip s) :=
  cold_next (command_cold h (fun h₁ => cold_ite (complete_cold h₁) (cold_ite (complete_cold h₁)
    (cold_ite (complete_cold (calConvert_cold h₁)) (complete_cold (cold_upd (calConvert_cold h₁)))))))

theorem execAfeCalSpan_cold {y1 : Int} {samples : List Int} (h : Cold κ s) :
    OutCold κ (execAfeCalSpan x i conv y1 samples trip s) :=
  cold_next (command_cold h (fun h₁ => cold_ite (complete_cold h₁) (cold_ite (complete_cold h₁)
    (cold_ite (complete_cold h₁) (cold_ite (complete_cold (calConvert_cold h₁)) (cold_ite (complete_cold
    (calConvert_cold h₁)) (cold_ite (complete_cold (calConvert_cold h₁)) (complete_cold (raise_cold
    (cold_forEach save_cold (wr_cold (wr_cold (wrInt_cold (wrInt_cold (wrInt_cold (calConvert_cold
    h₁))))))))))))))))

theorem execAfeCalRestore_cold (h : Cold κ s) : OutCold κ (execAfeCalRestore x i conv s) :=
  cold_next (command_cold h (fun h₁ => cold_ite (complete_cold h₁) (complete_cold (cold_forEach (fun h₂ =>
    save_cold (cold_upd h₂)) h₁))))

theorem execAfeCapture_cold {fmt samples : Nat} (h : Cold κ s) :
    OutCold κ (execAfeCapture x mask fmt samples s) :=
  cold_next (command_cold h (fun h₁ => cold_ite (complete_cold h₁) (cold_ite (complete_cold h₁)
    (complete_cold (cold_forEach (fun h₂ => wr_cold (wr_cold (cold_upd h₂))) h₁)))))

theorem execAfeCaptureStop_cold {parts : List (Nat × Nat × List (List Int))} (h : Cold κ s) :
    OutCold κ (execAfeCaptureStop x mask parts s) :=
  cold_next (command_cold h (fun h₁ => cold_ite (complete_cold h₁) (complete_cold (cold_forEach
    endCapture_cold (cold_forEach sourceBlock_cold h₁)))))

/-! ### The allocator (Sys2Proof/Machine/Alloc.lean) -/

theorem execPmStatusFrame_cold {frame : List Byte} (h : Cold κ s) :
    OutCold κ (execPmStatusFrame t bus id frame s) := by
  unfold execPmStatusFrame
  refine cold_next (onEvent_cold h (fun h₁ => ?_))
  extract_lets
  refine cold_ite h₁ ?_
  split
  · exact h₁
  · exact modPm_cold h₁

theorem execPmIdentFrame_cold {maker model ratedV ratedA ratedKw fw : Nat} (h : Cold κ s) :
    OutCold κ (execPmIdentFrame t bus id maker model serial ratedV ratedA ratedKw fw s) := by
  unfold execPmIdentFrame
  refine cold_next (onEvent_cold h (fun h₁ => ?_))
  split
  · exact h₁
  · exact modPm_cold h₁

theorem execPmFaultFrame_cold {severity : Nat} (h : Cold κ s) :
    OutCold κ (execPmFaultFrame t bus id code severity s) := by
  unfold execPmFaultFrame
  refine cold_next (onEvent_cold h (fun h₁ => ?_))
  split
  · exact h₁
  · exact raise_cold (modPm_cold h₁)

theorem execPmLost_cold (h : Cold κ s) : OutCold κ (execPmLost t n i s) := by
  unfold execPmLost
  refine cold_next (onEvent_cold h (fun h₁ => ?_))
  extract_lets _ _ s₂
  have h₂ : Cold κ s₂ := raise_cold (modPm_cold h₁)
  split
  · exact h₁
  · exact cold_ite h₁ (cold_ite (cold_ite (faultSession_cold h₂) (erem_cold h₂)) (capNow_cold h₂))

theorem execSetpointSend_cold (h : Cold κ s) : OutCold κ (execSetpointSend t n s) :=
  cold_next (onEvent_cold h (fun h₁ => cold_ite h₁ (modOutlet_cold h₁)))

theorem execPmSyncSend_cold (h : Cold κ s) : OutCold κ (execPmSyncSend t s) :=
  cold_next (onEvent_cold h (fun h₁ => cold_ite h₁ (cold_upd h₁)))

theorem execAllocatorRun_cold (h : Cold κ s) : OutCold κ (execAllocatorRun t s) :=
  cold_next (onEvent_cold h (fun h₁ => cold_ite h₁ (cold_ite (cold_upd h₁) (allocatorRun_cold (cold_upd
    h₁)))))

theorem execTrellisLimitExpiry_cold (h : Cold κ s) : OutCold κ (execTrellisLimitExpiry t s) := by
  unfold execTrellisLimitExpiry
  refine cold_next (onEvent_cold h (fun h₁ => ?_))
  split
  · exact cold_ite (cold_upd h₁) h₁
  · exact h₁

theorem execEnforcementGraceEnd_cold (h : Cold κ s) : OutCold κ (execEnforcementGraceEnd t n s) :=
  cold_next (onEvent_cold h (fun h₁ => cold_ite h₁ (modOutlet_cold (wr_cold h₁))))

theorem execAllocMaxWait_cold (h : Cold κ s) : OutCold κ (execAllocMaxWait t n s) :=
  cold_next (onEvent_cold h (fun h₁ => cold_ite (endSession_cold (openOutlet_cold (raise_cold (wr_cold
    h₁)))) h₁))

/-! ### Cask (Sys2Proof/Machine/Cask.lean) -/

theorem execCaskOpen_cold (h : Cold κ s) : OutCold κ (execCaskOpen x s) := by
  unfold execCaskOpen
  refine cold_next (command_cold h (fun h₁ => ?_))
  split
  · exact complete_cold h₁
  · exact complete_cold (cold_upd (cold_upd h₁))

theorem execCaskAction_cold {act : CaskAct} (h : Cold κ s) : OutCold κ (execCaskAction x act s) :=
  cold_next (command_cold h stage_cold)

theorem execCaskPrepare_cold {expected : Nat} (h : Cold κ s) : OutCold κ (execCaskPrepare x id expected s) := by
  unfold execCaskPrepare
  refine cold_next (command_cold h (fun h₁ => ?_))
  split
  · exact complete_cold h₁
  · exact cold_ite (complete_cold h₁) (cold_ite (complete_cold h₁) (testCloses_cold (cold_upd h₁)))

theorem execCaskValidationDone_cold (h : Cold κ s) : OutCold κ (execCaskValidationDone t k s) :=
  cold_next (onEvent_cold h (fun h₁ => cold_ite (validated_cold h₁) h₁))

theorem execCaskCommit_cold {instant : Nat} (h : Cold κ s) :
    OutCold κ (execCaskCommit x id mode instant s) := by
  unfold execCaskCommit
  refine cold_next (command_cold h (fun h₁ => ?_))
  split
  · exact complete_cold h₁
  · exact cold_ite (complete_cold h₁) (commitCask_cold h₁)

theorem execCaskAbort_cold (h : Cold κ s) : OutCold κ (execCaskAbort x id s) := by
  unfold execCaskAbort
  refine cold_next (command_cold h (fun h₁ => ?_))
  split
  · exact complete_cold h₁
  · exact cold_ite (complete_cold h₁) (cold_ite (complete_cold (abortCask_cold h₁)) (complete_cold h₁))

theorem execCaskQuery_cold (h : Cold κ s) : OutCold κ (execCaskQuery x id s) := by
  unfold execCaskQuery
  refine cold_next (command_cold h (fun h₁ => ?_))
  split <;> exact complete_cold h₁

theorem execFuncDisable_cold (h : Cold κ s) : OutCold κ (execFuncDisable x block inst s) :=
  cold_next (command_cold h (fun h₁ => cold_ite (complete_cold h₁) (cold_ite (complete_cold
    (partitionDenied_cold h₁)) (disableSteps_cold (complete_cold h₁)))))

theorem execFuncDisableDone_cold (h : Cold κ s) : OutCold κ (execFuncDisableDone t block inst s) := by
  unfold execFuncDisableDone
  refine cold_next (onEvent_cold h (fun h₁ => ?_))
  split
  · exact h₁
  · extract_lets _ s₂ _ _ s₃ _ s₄ s₅
    have h₂ : Cold κ s₂ := cold_forEach recClose_cold h₁
    have h₃ : Cold κ s₃ := cold_upd h₂
    have h₄ : Cold κ s₄ := cold_ite (cold_upd h₃) h₃
    have h₅ : Cold κ s₅ := cold_ite (lswDisable_cold h₄) h₄
    exact cold_ite h₁ (cold_ite h₂ (finalise_cold (raise_cold (cold_ite (setSess_cold (offer_cold h₅))
      h₅))))

theorem execCaskOpenTimeout_cold (h : Cold κ s) : OutCold κ (execCaskOpenTimeout t k s) :=
  cold_next (onEvent_cold h (fun h₁ => cold_ite (abortCask_cold h₁) h₁))

theorem execCaskPreparedTimeout_cold (h : Cold κ s) : OutCold κ (execCaskPreparedTimeout t k s) :=
  cold_next (onEvent_cold h (fun h₁ => cold_ite (abortCask_cold h₁) h₁))

theorem execCaskRecordWrite_cold (h : Cold κ s) : OutCold κ (execCaskRecordWrite t k whole s) :=
  cold_next (onEvent_cold h (fun h₁ => cold_ite (writeRecord_cold h₁) h₁))

theorem execCaskSyncEdge_cold {edge : Nat} (h : Cold κ s) : OutCold κ (execCaskSyncEdge t edge falling s) :=
  cold_next (onEvent_cold h (fun h₁ => cold_ite h₁ (cold_forEach (fun h₂ => cold_ite (cold_ite
    (writeRecord_cold (cold_upd h₂)) (cold_upd h₂)) h₂) h₁)))

theorem execCaskSyncTimeout_cold (h : Cold κ s) : OutCold κ (execCaskSyncTimeout t k s) :=
  cold_next (onEvent_cold h (fun h₁ => cold_ite (abortCask_cold h₁) h₁))

theorem execCaskRetract_cold (h : Cold κ s) : OutCold κ (execCaskRetract t k s) :=
  cold_next (onCore_cold h (fun h₁ => cold_ite (abortCask_cold h₁) h₁))

/-! ### Ledger (Sys2Proof/Machine/Ledger.lean) -/

theorem execLedgerCommit_cold (h : Cold κ s) : OutCold κ (execLedgerCommit t ok s) := by
  unfold execLedgerCommit
  refine cold_next (onCore_cold h (fun h₁ => ?_))
  extract_lets
  refine cold_ite h₁ ?_
  split
  · exact cold_ite (commitState_cold (cold_upd h₁)) (cold_ite (commitState_cold (cold_upd
      (transaction_cold h₁))) h₁)
  · exact commitState_cold (cold_upd h₁)

theorem execTariffSwitch_cold (h : Cold κ s) : OutCold κ (execTariffSwitch t s) :=
  cold_next (onEvent_cold h (fun h₁ => cold_ite h₁ (cold_ite (demandBoundary_cold h₁) (cold_ite h₁
    (cold_ite (append_cold (cold_forEach tariffGo_cold h₁)) (addBoundary_cold h₁))))))

theorem execCalendarActivate_cold (h : Cold κ s) : OutCold κ (execCalendarActivate t s) := by
  unfold execCalendarActivate
  refine cold_next (onEvent_cold h (fun h₁ => ?_))
  split
  · exact cold_ite h₁ (addBoundary_cold h₁)
  · exact h₁

theorem execDemandBoundary_cold (h : Cold κ s) : OutCold κ (execDemandBoundary t s) :=
  cold_next (onEvent_cold h demandBoundary_cold)

theorem execBoundaryTransaction_cold (h : Cold κ s) : OutCold κ (execBoundaryTransaction t s) := by
  unfold execBoundaryTransaction
  refine cold_next (onEvent_cold h (fun h₁ => ?_))
  split
  · exact cold_ite (transaction_cold h₁) h₁
  · exact h₁

theorem execSyncWindowExpiry_cold (h : Cold κ s) : OutCold κ (execSyncWindowExpiry t s) := by
  unfold execSyncWindowExpiry
  refine cold_next (onEvent_cold h (fun h₁ => ?_))
  split
  · exact cold_ite (releaseHeld_cold h₁) h₁
  · exact h₁

theorem execSealIdle_cold (h : Cold κ s) : OutCold κ (execSealIdle t s) :=
  cold_next (onEvent_cold h (fun h₁ => cold_ite (tamper_cold (cold_upd h₁)) h₁))

theorem execLegalSealChange_cold {level : Bool} (h : Cold κ s) : OutCold κ (execLegalSealChange t level s) :=
  cold_next (onEvent_cold h (fun h₁ => cold_ite h₁ (sealChange_cold h₁)))

theorem execCalExpiry_cold (h : Cold κ s) : OutCold κ (execCalExpiry t s) := by
  unfold execCalExpiry
  refine cold_next (onEvent_cold h (fun h₁ => ?_))
  split
  · exact cold_ite (calClose_cold h₁) h₁
  · exact h₁

theorem execLedgerQuery_cold (h : Cold κ s) : OutCold κ (execLedgerQuery x m s) :=
  cold_next (command_cold h (fun h₁ => cold_ite (complete_cold h₁) (complete_cold h₁)))

theorem execLedgerSessionRecord_cold {ident : List Byte} (h : Cold κ s) :
    OutCold κ (execLedgerSessionRecord x n m op kind ident price reason s) := by
  unfold execLedgerSessionRecord
  extract_lets
  refine cold_next (command_cold h (fun h₁ => cold_ite (complete_cold h₁) (cold_ite ?_ ?_)))
  · split
    · exact complete_cold h₁
    · exact complete_cold (recOpen_cold h₁)
  · split
    · exact complete_cold h₁
    · exact complete_cold (recClose_cold h₁)

theorem execLedgerTariffSelect_cold (h : Cold κ s) :
    OutCold κ (execLedgerTariffSelect x mask tariff price s) := by
  unfold execLedgerTariffSelect
  refine cold_next (command_cold h (fun h₁ => ?_))
  split
  · exact complete_cold h₁
  · exact complete_cold (tariffSelect_cold h₁)

theorem execLedgerReadSigned_cold (h : Cold κ s) : OutCold κ (execLedgerReadSigned x mask s) := by
  unfold execLedgerReadSigned
  refine cold_next (command_cold h (fun h₁ => ?_))
  split
  · exact complete_cold h₁
  · exact readStart_cold h₁

theorem execLedgerRecordFetch_cold {maxBytes ackTo : Nat} (h : Cold κ s) :
    OutCold κ (execLedgerRecordFetch x first maxBytes ackTo s) :=
  cold_next (command_cold h (fun h₁ => cold_ite (complete_cold (cold_upd h₁)) (complete_cold
    (giveBuffer_cold (cold_upd h₁)))))

theorem execLedgerTimeSet_cold {sig : Option OwnerSig} (h : Cold κ s) :
    OutCold κ (execLedgerTimeSet x ms sig s) := by
  unfold execLedgerTimeSet
  refine cold_next (command_cold h (fun h₁ => cold_ite (complete_cold h₁) ?_))
  split
  · exact complete_cold h₁
  · exact complete_cold (timeSet_cold (ownerTook_cold h₁))
  · exact complete_cold (timeSet_cold h₁)

theorem execLedgerCalendarLoad_cold {image : List Byte} (h : Cold κ s) :
    OutCold κ (execLedgerCalendarLoad x image sigOk s) := by
  unfold execLedgerCalendarLoad
  refine cold_next (command_cold h (fun h₁ => cold_ite (complete_cold h₁) ?_))
  split
  · exact complete_cold (cold_upd h₁)
  · exact complete_cold h₁

theorem execLedgerBillingClose_cold (h : Cold κ s) : OutCold κ (execLedgerBillingClose x s) :=
  cold_next (command_cold h (fun h₁ => cold_ite (complete_cold h₁) (cold_ite (complete_cold h₁)
    (cold_ite (complete_cold h₁) (cold_upd h₁)))))

theorem execLedgerBillingRead_cold (h : Cold κ s) : OutCold κ (execLedgerBillingRead x k s) := by
  unfold execLedgerBillingRead
  refine cold_next (command_cold h (fun h₁ => ?_))
  split
  · exact complete_cold h₁
  · exact complete_cold (giveBuffer_cold h₁)

theorem execLedgerCalChallenge_cold (h : Cold κ s) : OutCold κ (execLedgerCalChallenge x s) := by
  unfold execLedgerCalChallenge
  refine cold_next (command_cold h (fun h₁ => cold_ite ?_ ?_))
  · exact complete_cold h₁
  · split
    rename_i hp
    exact complete_cold (giveBuffer_cold (cold_upd (cold_snd hp (drbgNext_cold h₁))))

theorem execLedgerCalOpen_cold {mins challenge : Nat} (h : Cold κ s) :
    OutCold κ (execLedgerCalOpen x mask mins challenge sigOk s) :=
  cold_next (command_cold h (fun h₁ => cold_ite (complete_cold h₁) (cold_ite (complete_cold (tamper_cold
    h₁)) (cold_ite (complete_cold (tamper_cold h₁)) (cold_ite (complete_cold h₁) (cold_ite
    (complete_cold h₁) (legalRepaint_cold (complete_cold (raise_cold (tamper_cold (wr_cold (cold_upd
    h₁))))))))))))

theorem execLedgerCalClose_cold (h : Cold κ s) : OutCold κ (execLedgerCalClose x s) :=
  cold_next (command_cold h (fun h₁ => cold_ite (complete_cold h₁) (complete_cold (calClose_cold h₁))))

theorem execLedgerLegalId_cold (h : Cold κ s) : OutCold κ (execLedgerLegalId x s) :=
  cold_next (command_cold h (fun h₁ => complete_cold (giveBuffer_cold h₁)))

theorem execLedgerAckLoss_cold (h : Cold κ s) : OutCold κ (execLedgerAckLoss x s) :=
  cold_next (command_cold h (fun h₁ => complete_cold (wr_cold h₁)))

/-! ### Key (Sys2Proof/Machine/Key.lean) -/

theorem execRiddle_cold (h : Cold κ s) : OutCold κ (execRiddle t s) := by
  unfold execRiddle
  refine cold_next (onEvent_cold h (fun h₁ => ?_))
  extract_lets _ _ _ _ _ s₂
  have h₂ : Cold κ s₂ := cold_upd (cold_ite (incSat_cold h₁) h₁)
  refine cold_ite h₁ (cold_ite (cold_forEach (fun h₄ => ?_) h₂) h₂)
  split
  rename_i hp
  exact cold_upd (cold_snd hp (drbgNext_cold h₄))

theorem execDrbgReseed_cold (h : Cold κ s) : OutCold κ (execDrbgReseed t s) :=
  cold_next (onEvent_cold h (fun h₁ => cold_ite (reseed_cold h₁) h₁))

theorem execEntropyFail_cold {test : Nat} (h : Cold κ s) : OutCold κ (execEntropyFail t test s) :=
  cold_next (onEvent_cold h (fun h₁ => raise_cold (cold_upd (incSat_cold (wr_cold h₁)))))

theorem execEntropyRetest_cold {pass : Bool} (h : Cold κ s) : OutCold κ (execEntropyRetest t pass s) :=
  cold_next (onEvent_cold h (fun h₁ => cold_ite h₁ (cold_ite (cold_upd (cold_upd h₁)) (cold_ite
    (cold_upd (cold_upd h₁)) (raise_cold (wr_cold (reseed_cold (cold_upd (cold_upd h₁)))))))))

theorem execKeySelftestDone_cold {failed : List Nat} {ber : Option Nat} (h : Cold κ s) :
    OutCold κ (execKeySelftestDone t failed ber s) :=
  cold_next (onEvent_cold h (fun h₁ => cold_ite h₁ (cold_ite (recoveryOutlets_cold (regenerate_cold
    (finaliseOpt_cold (wr_cold (setKeyMode_cold (cold_upd h₁)))))) (recoveryOutlets_cold (finaliseOpt_cold
    (keyRecovery_cold (cold_forEach raise_cold (cold_upd h₁))))))))

theorem execCredVerifyDone_cold (h : Cold κ s) : OutCold κ (execCredVerifyDone t s) := by
  unfold execCredVerifyDone
  refine cold_next (onEvent_cold h (fun h₁ => ?_))
  split
  · exact h₁
  · split
    · exact finalise_cold (credFlip_cold h₁)
    · exact finalise_cold (raise_cold (wr_cold (cold_upd h₁)))

theorem execFlashBlockFail_cold {a : Nat} (h : Cold κ s) : OutCold κ (execFlashBlockFail t a s) :=
  cold_next (onEvent_cold h (fun h₁ => cold_ite h₁ (cold_ite (wr_cold h₁) (raise_cold (cold_ite
    (wr_cold (wr_cold h₁)) (wr_cold h₁))))))

theorem execKeyQuery_cold (h : Cold κ s) : OutCold κ (execKeyQuery x s) :=
  cold_next (command_cold h complete_cold)

theorem execKeyNodeQuery_cold {path : List (List Byte)} (h : Cold κ s) :
    OutCold κ (execKeyNodeQuery x path s) :=
  cold_next (command_cold h (fun h₁ => onNode_cold h₁ (fun h₂ => complete_cold (giveBuffer_cold h₂))))

theorem execKeyInvalidate_cold {path : List (List Byte)} {sig : OwnerSig} (h : Cold κ s) :
    OutCold κ (execKeyInvalidate x path sig s) :=
  cold_next (command_cold h (fun h₁ => onNode_cold h₁ (fun h₂ => owned_cold h₂ (fun h₃ => complete_cold
    (cold_ite (signKeyChanged_cold (raise_cold (invalidate_cold h₃))) (raise_cold (invalidate_cold
    h₃)))))))

theorem execKeyRederive_cold {path : List (List Byte)} {sig : OwnerSig} (h : Cold κ s) :
    OutCold κ (execKeyRederive x path sig s) :=
  cold_next (command_cold h (fun h₁ => onNode_cold h₁ (fun h₂ => owned_cold h₂ (fun h₃ => complete_cold
    (cold_ite (rederive_cold h₃) (signKeyChanged_cold (rederive_cold h₃)))))))

theorem execKeyInstall_cold {blob : List Byte} {plain : Option Nat} (h : Cold κ s) :
    OutCold κ (execKeyInstall x blob plain sigOk s) := by
  unfold execKeyInstall
  refine cold_next (command_cold h (fun h₁ => withTree_cold h₁ (fun h₂ => ?_)))
  split
  · exact complete_cold h₂
  · exact owned_cold h₂ (fun h₃ => complete_cold (cacheCounts_cold (cold_ite (cold_upd h₃) (cold_upd
      h₃))))

theorem execKeyOwnerSet_cold {pk : List Byte} {counter : Nat} {sig : Option Bool} (h : Cold κ s) :
    OutCold κ (execKeyOwnerSet x pk counter sig s) := by
  unfold execKeyOwnerSet
  refine cold_next (command_cold h (fun h₁ => ?_))
  extract_lets
  refine cold_ite (complete_cold h₁) ?_
  split
  · exact owned_cold h₁ (fun h₂ => complete_cold (wr_cold (cold_upd h₂)))
  · exact cold_ite (complete_cold h₁) (cold_ite (complete_cold h₁) (complete_cold (wr_cold (cold_upd
      (ownerTook_cold h₁)))))

theorem execKeyAnchorInstall_cold {slot : Nat} {item : List Byte} {sig : OwnerSig} (h : Cold κ s) :
    OutCold κ (execKeyAnchorInstall x slot typ item valid sig s) :=
  cold_next (command_cold h (fun h₁ => owned_cold h₁ (fun h₂ => complete_cold (cold_upd h₂))))

theorem execKeyCsr_cold {path : List (List Byte)} {subject : List Byte} (h : Cold κ s) :
    OutCold κ (execKeyCsr x path subject s) :=
  cold_next (command_cold h (fun h₁ => onNode_cold h₁ (fun h₂ => cold_ite (complete_cold h₂) (cold_ite
    (complete_cold h₂) (complete_cold (giveBuffer_cold (useNode_cold h₂)))))))

theorem execKeyCertInstall_cold {path chain : List (List Byte)} {leafKey : Nat} {periods : List (Nat × Nat)} (h :
    Cold κ s) :
    OutCold κ (execKeyCertInstall x path chain leafKey periods valid s) :=
  cold_next (command_cold h (fun h₁ => onNode_cold h₁ (fun h₂ => cold_ite (complete_cold h₂) (cold_ite
    (complete_cold h₂) (cold_ite (complete_cold h₂) (complete_cold (cold_upd h₂)))))))

theorem execKeyAttest_cold {nonce : Nat} {paths : List (List (List Byte))} (h : Cold κ s) :
    OutCold κ (execKeyAttest x nonce paths s) :=
  cold_next (command_cold h (fun h₁ => withTree_cold h₁ (fun h₂ => cold_ite (complete_cold h₂) (cold_ite
    (complete_cold h₂) (complete_cold (giveBuffer_cold (cold_forEach useNode_cold h₂)))))))

theorem execKeyAttestCert_cold (h : Cold κ s) : OutCold κ (execKeyAttestCert x s) :=
  cold_next (command_cold h (fun h₁ => complete_cold (giveBuffer_cold h₁)))

theorem execKeySelftest_cold (h : Cold κ s) : OutCold κ (execKeySelftest x s) :=
  cold_next (command_cold h (fun h₁ => withTree_cold h₁ (fun h₂ => cold_ite (complete_cold h₂) (cold_upd
    (complete_cold (setKeyMode_cold (clearKeys_cold h₂)))))))

theorem execCredLoadBegin_cold (h : Cold κ s) : OutCold κ (execCredLoadBegin x gen count s) :=
  cold_next (command_cold h (fun h₁ => withCreds_cold h₁ (fun h₂ => cold_ite (complete_cold h₂) (cold_ite
    (complete_cold h₂) (cold_ite (complete_cold h₂) (cold_ite (complete_cold h₂) (complete_cold (wr_cold
    (cold_ite h₂ (wr_cold (cold_upd h₂)))))))))))

theorem execCredLoadData_cold {recs : List CredRec} (h : Cold κ s) :
    OutCold κ (execCredLoadData x first recs s) :=
  cold_next (command_cold h (fun h₁ => withCreds_cold h₁ (fun h₂ => cold_ite (complete_cold h₂) (cold_ite
    (complete_cold h₂) (cold_ite (complete_cold h₂) (cold_ite (complete_cold h₂) (cold_ite
    (complete_cold h₂) (complete_cold (wr_cold (cold_upd h₂))))))))))

theorem execCredLoadCommit_cold (h : Cold κ s) :
    OutCold κ (execCredLoadCommit x gen count digest serial sigOk s) :=
  cold_next (command_cold h (fun h₁ => withCreds_cold h₁ (fun h₂ => cold_ite (complete_cold h₂) (cold_ite
    (complete_cold h₂) (cold_upd (complete_cold (wr_cold h₂)))))))

theorem execCredLoadAbort_cold (h : Cold κ s) : OutCold κ (execCredLoadAbort x s) :=
  cold_next (command_cold h (fun h₁ => withCreds_cold h₁ (fun h₂ => complete_cold (endLoad_cold (cold_upd
    (finaliseOpt_cold h₂))))))

theorem execCredUpdate_cold {recs : List CredRec} {sig : OwnerSig} (h : Cold κ s) :
    OutCold κ (execCredUpdate x recs sig s) := by
  unfold execCredUpdate
  refine cold_next (command_cold h (fun h₁ => withCreds_cold h₁ (fun h₂ => ?_)))
  extract_lets x₁
  clear_value x₁
  refine cold_ite (owned_cold h₂ (fun h₃ => complete_cold (wr_cold (cold_upd h₃)))) ?_
  split
  · exact complete_cold h₂
  · exact complete_cold (wr_cold (cold_upd h₂))

theorem execCredLookup_cold {hash : Nat} {tagBad : Bool} (h : Cold κ s) :
    OutCold κ (execCredLookup x kind hash n tagBad s) := by
  unfold execCredLookup
  refine cold_next ?_
  refine command_cold h (fun h₁ => withCreds_cold h₁ (fun h₂ => cold_ite (complete_cold h₂) ?_))
  extract_lets _ _ s₃
  have h₃ : Cold κ s₃ := by
    unfold s₃
    split
    · exact raise_cold (cold_upd h₂)
    · exact h₂
  split
  · exact complete_cold h₃
  · exact complete_cold (giveBuffer_cold h₃)
  · exact complete_cold (giveBuffer_cold h₃)

/-! ### Upd (Sys2Proof/Machine/Upd.lean) -/

theorem execUpdBegin_cold {man : List Byte} {sigs : Bool × Bool} (h : Cold κ s) :
    OutCold κ (execUpdBegin x man sigs s) :=
  cold_next (command_cold h (fun h₁ => hostSource_cold h₁ (fun h₂ => complete_cold (updBegin_cold h₂))))

theorem execUpdBlock_cold {blocks : List (List Byte)} (h : Cold κ s) :
    OutCold κ (execUpdBlock x first blocks s) :=
  cold_next (command_cold h (fun h₁ => hostSource_cold h₁ (fun h₂ => complete_cold (updReceive_cold h₂))))

theorem execUpdStatus_cold (h : Cold κ s) : OutCold κ (execUpdStatus x first s) :=
  cold_next (command_cold h (fun h₁ => complete_cold (giveBuffer_cold (updTouch_cold h₁))))

theorem execUpdActivate_cold (h : Cold κ s) : OutCold κ (execUpdActivate x mode s) := by
  unfold execUpdActivate
  refine cold_next (command_cold h (fun h₁ => ?_))
  split
  · exact complete_cold h₁
  · exact activate_cold (complete_cold (updTouch_cold h₁))

theorem execUpdConfirm_cold (h : Cold κ s) : OutCold κ (execUpdConfirm x s) :=
  cold_next (command_cold h (fun h₁ => cold_ite (complete_cold h₁) (cold_ite (complete_cold h₁)
    (complete_cold (updConfirm_cold h₁)))))

theorem execUpdRevert_cold (h : Cold κ s) : OutCold κ (execUpdRevert x s) :=
  cold_next (command_cold h (fun h₁ => cold_ite (complete_cold h₁) (revertStart_cold (complete_cold h₁))))

theorem execUpdAbort_cold {sig : Option OwnerSig} (h : Cold κ s) : OutCold κ (execUpdAbort x sig s) :=
  cold_next (command_cold h (fun h₁ => complete_cold (updAbort_cold h₁)))

theorem execUpdPolicy_cold {cosign : Nat} {sig : OwnerSig} (h : Cold κ s) :
    OutCold κ (execUpdPolicy x cosign sig s) :=
  cold_next (command_cold h (fun h₁ => owned_cold h₁ (fun h₂ => complete_cold (wr_cold h₂))))

theorem execUpdVerifyDone_cold {readOk : Bool} (h : Cold κ s) : OutCold κ (execUpdVerifyDone t readOk s) :=
  cold_next (onUpd_cold h updVerified_cold)

theorem execUpdLockIdle_cold (h : Cold κ s) : OutCold κ (execUpdLockIdle t s) :=
  cold_next (onUpd_cold h (fun h₁ => cold_ite (updRelease_cold (updGo_cold h₁)) h₁))

theorem execUpdActivationFlip_cold (h : Cold κ s) : OutCold κ (execUpdActivationFlip t s) := by
  unfold execUpdActivationFlip
  refine cold_next (onUpd_cold h (fun h₁ => ?_))
  split
  · exact cold_ite (updFlip_cold h₁) h₁
  · exact h₁

theorem execUpdActivateTimeout_cold (h : Cold κ s) : OutCold κ (execUpdActivateTimeout t s) := by
  unfold execUpdActivateTimeout
  refine cold_next (onUpd_cold h (fun h₁ => ?_))
  split
  · exact cold_ite (actEnds_cold (updGo_cold h₁)) h₁
  · exact h₁

theorem execTrialTimeSave_cold (h : Cold κ s) : OutCold κ (execTrialTimeSave t s) :=
  cold_next (onEvent_cold h (fun h₁ => cold_ite (ptrWrite_cold (wr_cold (healthNote_cold (cold_upd
    h₁)))) h₁))

theorem execUpdAutoConfirm_cold (h : Cold κ s) : OutCold κ (execUpdAutoConfirm t s) :=
  cold_next (onEvent_cold h (fun h₁ => cold_ite (updConfirm_cold (healthNote_cold h₁)) (healthNote_cold
    h₁)))

theorem execTrialTimeout_cold (h : Cold κ s) : OutCold κ (execTrialTimeout t s) :=
  cold_next (onEvent_cold h (fun h₁ => cold_ite (revertStart_cold h₁) h₁))

theorem execSvcBegin_cold {man : List Byte} {sigs : Bool × Bool} (h : Cold κ s) :
    OutCold κ (execSvcBegin t man sigs s) :=
  cold_next (onUpd_cold h (fun h₁ => cold_upd (updBegin_cold h₁)))

theorem execSvcBlock_cold {data : List Byte} (h : Cold κ s) : OutCold κ (execSvcBlock t block data s) :=
  cold_next (onUpd_cold h (fun h₁ => cold_upd (updReceive_cold h₁)))

theorem execSvcActivate_cold (h : Cold κ s) : OutCold κ (execSvcActivate t mode s) := by
  unfold execSvcActivate
  refine cold_next (onUpd_cold h (fun h₁ => ?_))
  split
  · exact cold_upd h₁
  · exact activate_cold (cold_upd (updTouch_cold h₁))

theorem execSvcStatus_cold (h : Cold κ s) : OutCold κ (execSvcStatus t s) :=
  cold_next (onUpd_cold h (fun h₁ => cold_upd (updTouch_cold h₁)))

theorem execSvcAbort_cold {sig : Option OwnerSig} (h : Cold κ s) : OutCold κ (execSvcAbort t sig s) :=
  cold_next (onUpd_cold h (fun h₁ => cold_upd (updAbort_cold h₁)))

theorem execSvcConfirm_cold (h : Cold κ s) : OutCold κ (execSvcConfirm t s) :=
  cold_next (onUpd_cold h (fun h₁ => cold_ite (cold_upd h₁) (cold_ite (cold_upd h₁) (cold_upd
    (updConfirm_cold h₁)))))

theorem execSvcRevert_cold (h : Cold κ s) : OutCold κ (execSvcRevert t s) :=
  cold_next (onUpd_cold h (fun h₁ => cold_ite (cold_upd h₁) (revertStart_cold (cold_upd h₁))))

theorem execSvcBadFrame_cold (h : Cold κ s) : OutCold κ (execSvcBadFrame t s) := cold_next (advance_cold h)

/-! ### Arch (Sys2Proof/Machine/Arch.lean) -/

theorem execIslandCrossing_cold {gated : Bool} {reqs : List Xing} (h : Cold κ s) :
    OutCold κ (execIslandCrossing t target gated reqs s) :=
  cold_next (onCore_cold h (fun h₁ => cold_ite h₁ (cold_forEach_snd serveXing_cold (cold_ite (wr_cold
    (cold_upd h₁)) (cold_upd h₁)))))

theorem execLinkTimeout_cold {ini : Ini} {cmd : Option (Nat × Nat)} (h : Cold κ s) :
    OutCold κ (execLinkTimeout t src dst ini cmd s) :=
  cold_next (onCore_cold h (fun h₁ => cold_ite h₁ (linkTimeout_cold h₁)))

theorem execRtcSecondEdge_cold (h : Cold κ s) : OutCold κ (execRtcSecondEdge t s) :=
  cold_next (onCore_cold h secondEdge_cold)

theorem execOutputStagingDeadline_cold {late : Nat} (h : Cold κ s) :
    OutCold κ (execOutputStagingDeadline t late s) :=
  cold_next (onEvent_cold h (fun h₁ => cold_ite h₁ (stagingDeadline_cold h₁)))

theorem execACheckDeadline_cold {done : Bool} (h : Cold κ s) : OutCold κ (execACheckDeadline t done s) :=
  cold_next (onEvent_cold h (fun h₁ => cold_ite h₁ (cold_upd h₁)))

/-! ### Coil (Sys2Proof/Machine/Coil.lean) -/

theorem execCoilPullinEnd_cold (h : Cold κ s) : OutCold κ (execCoilPullinEnd t k s) :=
  cold_next (onEvent_cold h (fun h₁ => cold_ite (holdFrom_cold h₁) h₁))

theorem execCoilOpen_cold (h : Cold κ s) : OutCold κ (execCoilOpen t k ma ms s) :=
  cold_next (onCore_cold h (fun h₁ => cold_ite (coilFault_cold (wr_cold h₁)) (wr_cold h₁)))

theorem execCoilShort_cold (h : Cold κ s) : OutCold κ (execCoilShort t k ma s) :=
  cold_next (onCore_cold h (fun h₁ => cold_ite (coilFault_cold (wr_cold h₁)) (wr_cold h₁)))

theorem execWeldCheck_cold (h : Cold κ s) : OutCold κ (execWeldCheck t n s) := by
  unfold execWeldCheck
  refine cold_next (onCore_cold h (fun h₁ => ?_))
  split
  · exact cold_ite (weldCheck_cold h₁) h₁
  · exact h₁

theorem execShuntTripEnd_cold (h : Cold κ s) : OutCold κ (execShuntTripEnd t s) := by
  unfold execShuntTripEnd
  refine cold_next (onCore_cold h (fun h₁ => ?_))
  split
  · exact cold_ite (setFlag_cold (cold_upd h₁)) h₁
  · exact h₁

theorem execShuntTripRepeat_cold (h : Cold κ s) : OutCold κ (execShuntTripRepeat t n s) := by
  unfold execShuntTripRepeat
  refine cold_next (onCore_cold h (fun h₁ => ?_))
  extract_lets s₂
  have h₂ : Cold κ s₂ := shuntKeep_cold h₁
  split
  · exact cold_ite (shuntOn_cold h₂) h₂
  · exact h₂

theorem execCoilUncontrol_cold (h : Cold κ s) : OutCold κ (execCoilUncontrol t k s) :=
  cold_next (onCore_cold h (fun h₁ => cold_ite (shuntOn_cold (moduleTrip_cold h₁)) h₁))

/-! ### Disp (Sys2Proof/Machine/Disp.lean) -/

theorem execLegalBtnPress_cold (h : Cold κ s) : OutCold κ (execLegalBtnPress t s) :=
  cold_next (onEvent_cold h (fun h₁ => legalRepaint_cold (cold_upd h₁)))

theorem execLegalDisplayTimeout_cold (h : Cold κ s) : OutCold κ (execLegalDisplayTimeout t s) :=
  cold_next (onEvent_cold h (fun h₁ => cold_ite h₁ (legalRepaint_cold (cold_upd h₁))))

theorem execLegalSilent_cold (h : Cold κ s) : OutCold κ (execLegalSilent t s) :=
  cold_next (onEvent_cold h (fun h₁ => segPaint_cold (cold_upd h₁)))

theorem execSegFrame_cold (h : Cold κ s) : OutCold κ (execSegFrame t s) := by
  unfold execSegFrame
  refine cold_next (onEvent_cold h (fun h₁ => ?_))
  split
  · exact h₁
  · exact cold_ite h₁ (segSteps_cold (cold_upd (cold_upd h₁)))

theorem execSegSense_cold {caps : List Nat} (h : Cold κ s) : OutCold κ (execSegSense t caps s) := by
  unfold execSegSense
  refine cold_next (onEvent_cold h (fun h₁ => cold_ite h₁ ?_))
  extract_lets
  refine cold_forEach (fun h₃ => ?_) (cold_upd h₁)
  extract_lets s₄
  have h₄ : Cold κ s₄ := cold_ite (wr_cold h₃) h₃
  exact cold_ite (raise_cold (wr_cold h₄)) (wr_cold h₄)

theorem execDispTempStale_cold (h : Cold κ s) : OutCold κ (execDispTempStale t s) :=
  cold_next (onEvent_cold h (fun h₁ => cold_ite (bandShow_cold (wr_cold h₁)) h₁))

theorem execDispFrameStart_cold (h : Cold κ s) : OutCold κ (execDispFrameStart t s) :=
  cold_next (onEvent_cold h (fun h₁ => cold_ite h₁ (imbalance_cold (cold_upd (cold_forEach (fun h₂ =>
    cold_ite (startRegion_cold h₂) h₂) (cold_forEach (fun h₂ => wr_cold (cold_upd h₂)) (cold_forEach
    cold_upd (cold_upd h₁))))))))

theorem execDispRegionDone_cold (h : Cold κ s) : OutCold κ (execDispRegionDone t r s) :=
  cold_next (onEvent_cold h (fun h₁ => cold_ite h₁ (dispIdle_cold (finaliseOpt_cold (cold_ite
    (raise_cold (cold_upd (cold_upd h₁))) (raise_cold (cold_upd (cold_upd h₁))))))))

theorem execEpdPwrGoodRise_cold (h : Cold κ s) : OutCold κ (execEpdPwrGoodRise t s) :=
  cold_next (onEvent_cold h (fun h₁ => dispWake_cold (wr_cold h₁)))

theorem execDispPwrTimeout_cold (h : Cold κ s) : OutCold κ (execDispPwrTimeout t s) :=
  cold_next (onEvent_cold h (fun h₁ => cold_ite h₁ (dispIdle_cold (raise_cold (cold_upd (cold_forEach
    dropRegion_cold h₁))))))

theorem execEpdPwrGoodLoss_cold (h : Cold κ s) : OutCold κ (execEpdPwrGoodLoss t s) :=
  cold_next (onEvent_cold h (fun h₁ => cold_ite (dispWake_cold (dispCut_cold (raise_cold (wr_cold h₁))))
    (wr_cold h₁)))

theorem execDispPwrOff_cold (h : Cold κ s) : OutCold κ (execDispPwrOff t s) :=
  cold_next (onEvent_cold h (fun h₁ => cold_ite h₁ (wr_cold (wr_cold (cold_upd h₁)))))

theorem execVintageSave_cold (h : Cold κ s) : OutCold κ (execVintageSave t s) :=
  cold_next (onEvent_cold h (fun h₁ => cold_ite h₁ (cold_upd h₁)))

theorem execDispQuery_cold (h : Cold κ s) : OutCold κ (execDispQuery x s) :=
  cold_next (command_cold h complete_cold)

theorem execDispImageLoad_cold {px py h' : Nat} {pixels : List Byte} (h : Cold κ s) :
    OutCold κ (execDispImageLoad x px py w h' pixels s) :=
  cold_next (command_cold h (fun h₁ => cold_ite (complete_cold h₁) (cold_ite (complete_cold h₁)
    (complete_cold (cold_upd h₁)))))

theorem execDispUpdate_cold {px py h' : Nat} (h : Cold κ s) :
    OutCold κ (execDispUpdate x px py w h' mode s) := by
  unfold execDispUpdate
  refine cold_next (command_cold h (fun h₁ => cold_ite (complete_cold h₁) ?_))
  split
  · exact complete_cold h₁
  · exact dispStart_cold (complete_cold h₁)

theorem execDispTempSet_cold {v : Int} (h : Cold κ s) : OutCold κ (execDispTempSet x v s) :=
  cold_next (command_cold h (fun h₁ => cold_ite (complete_cold h₁) (complete_cold (dispTemp_cold h₁))))

theorem execDispVintageRead_cold (h : Cold κ s) : OutCold κ (execDispVintageRead x s) :=
  cold_next (command_cold h (fun h₁ => complete_cold (giveBuffer_cold h₁)))

theorem execDispVintageReset_cold {sig : OwnerSig} (h : Cold κ s) : OutCold κ (execDispVintageReset x sig s) :=
  cold_next (command_cold h (fun h₁ => owned_cold h₁ (fun h₂ => complete_cold (cold_upd h₂))))

/-! ### Filt (Sys2Proof/Machine/Filt.lean) -/

theorem execTrkPeriod_cold {amp : Nat} (h : Cold κ s) : OutCold κ (execTrkPeriod t m cross amp s) :=
  cold_next (onCore_cold h (fun h₁ => cold_ite (period_cold h₁) h₁))

theorem execTrkCrossingTimeout_cold (h : Cold κ s) : OutCold κ (execTrkCrossingTimeout t m s) :=
  cold_next (onCore_cold h (fun h₁ => cold_ite (holdTrk_cold h₁) h₁))

theorem execTrkHoldExpiry_cold (h : Cold κ s) : OutCold κ (execTrkHoldExpiry t m s) :=
  cold_next (onCore_cold h (fun h₁ => cold_ite (setTrk_cold h₁) h₁))

theorem execTrkSourceAbsent_cold (h : Cold κ s) : OutCold κ (execTrkSourceAbsent t m s) :=
  cold_next (onCore_cold h (fun h₁ => cold_ite (trkRefresh_cold h₁) h₁))

theorem execGridCycleStart_cold (h : Cold κ s) : OutCold κ (execGridCycleStart t m s) := by
  unfold execGridCycleStart
  refine cold_next (onCore_cold h (fun h₁ => cold_ite h₁ ?_))
  split
  · exact h₁
  · exact meterTrk_cold (cold_ite (respace_cold (beginCycle_cold h₁)) (beginCycle_cold h₁))

theorem execSettlingEnd_cold (h : Cold κ s) : OutCold κ (execSettlingEnd t c s) :=
  cold_next (onCore_cold h (fun h₁ => cold_ite h₁ (cold_forEach mpEval_cold (setFlag_cold (setFlag_cold
    (wr_cold (wr_cold h₁)))))))

theorem execBlendStart_cold (h : Cold κ s) : OutCold κ (execBlendStart t c s) := by
  unfold execBlendStart
  refine cold_next (onCore_cold h (fun h₁ => ?_))
  split
  · exact h₁
  · exact cold_ite h₁ (cold_forEach wr_cold (cold_upd h₁))

theorem execBlendDone_cold (h : Cold κ s) : OutCold κ (execBlendDone t c s) := by
  unfold execBlendDone
  refine cold_next (onCore_cold h (fun h₁ => ?_))
  split
  · exact h₁
  · split
    · exact h₁
    · exact cold_ite h₁ (finishBlend_cold h₁)

theorem execFiltQuery_cold (h : Cold κ s) : OutCold κ (execFiltQuery x c s) :=
  cold_next (command_cold h (fun h₁ => cold_ite (complete_cold h₁) (complete_cold h₁)))

theorem execFiltBlend_cold (h : Cold κ s) : OutCold κ (execFiltBlend x mask s) :=
  cold_next (command_cold h (fun h₁ => cold_ite (complete_cold (partitionDenied_cold h₁)) (cold_ite
    (complete_cold h₁) (cold_ite (complete_cold h₁) (cold_ite (complete_cold h₁) (complete_cold
    (startBlend_cold (cold_forEach cold_upd h₁))))))))

theorem execTrkQuery_cold (h : Cold κ s) : OutCold κ (execTrkQuery x m s) :=
  cold_next (command_cold h (fun h₁ => cold_ite (complete_cold h₁) (complete_cold h₁)))

theorem execFiltRestart_cold (h : Cold κ s) : OutCold κ (execFiltRestart x mask s) :=
  cold_next (command_cold h (fun h₁ => cold_ite (complete_cold (partitionDenied_cold h₁)) (cold_ite
    (complete_cold h₁) (cold_ite (complete_cold h₁) (complete_cold (cold_forEach restartChain_cold
    h₁))))))

/-! ### Lsw (Sys2Proof/Machine/Lsw.lean) -/

theorem execLswTrip_cold {lowOut : Bool} (h : Cold κ s) : OutCold κ (execLswTrip t n ma tj lowOut s) := by
  unfold execLswTrip
  refine cold_next (onEvent_cold h (fun h₁ => cold_ite h₁ ?_))
  extract_lets _ _ _ s₂
  have h₂ : Cold κ s₂ := cold_ite (wr_cold h₁) (wr_cold (wr_cold (wr_cold h₁)))
  exact cold_ite h₁ (cold_ite (lswTrip_cold h₂) (cold_ite h₂ (cold_ite (lswTrip_cold h₂) (cold_ite
    (lswTrip_cold h₂) h₂))))

theorem execInrushEnd_cold {calm : Bool} (h : Cold κ s) : OutCold κ (execInrushEnd t n ma tj calm s) :=
  cold_next (onEvent_cold h (fun h₁ => cold_ite h₁ (cold_ite (lswGo_cold h₁) (cold_ite (lswTrip_cold h₁)
    h₁))))

theorem execLswRetry_cold (h : Cold κ s) : OutCold κ (execLswRetry t n s) :=
  cold_next (onEvent_cold h (fun h₁ => cold_ite (turnOn_cold h₁) h₁))

theorem execLswCoolRestart_cold (h : Cold κ s) : OutCold κ (execLswCoolRestart t n tj s) :=
  cold_next (onEvent_cold h (fun h₁ => cold_ite (cold_ite (wr_cold h₁) (turnOn_cold (wr_cold h₁))) h₁))

theorem execRetriesReload_cold (h : Cold κ s) : OutCold κ (execRetriesReload t n s) :=
  cold_next (onEvent_cold h (fun h₁ => cold_ite (wr_cold h₁) h₁))

theorem execQuadHot_cold {temp : Nat} (h : Cold κ s) : OutCold κ (execQuadHot t q' temp s) :=
  cold_next (onEvent_cold h (fun h₁ => cold_ite h₁ (cold_ite (wr_cold h₁) (raise_cold (cold_forEach
    turnOn_cold (incSat_cold (wr_cold (wr_cold h₁))))))))

theorem execQuadCool_cold {temp : Nat} (h : Cold κ s) : OutCold κ (execQuadCool t q' temp s) :=
  cold_next (onEvent_cold h (fun h₁ => cold_ite h₁ (raise_cold (cold_upd (wr_cold (wr_cold h₁))))))

theorem execQuadRestartStep_cold (h : Cold κ s) : OutCold κ (execQuadRestartStep t q' s) := by
  unfold execQuadRestartStep
  refine cold_next (onEvent_cold h (fun h₁ => cold_ite h₁ ?_))
  split
  · exact h₁
  · exact cold_upd (turnOn_cold h₁)

theorem execLswPwmPeriod_cold {b : Nat} (h : Cold κ s) : OutCold κ (execLswPwmPeriod t b s) :=
  cold_next (onEvent_cold h (fun h₁ => cold_ite h₁ (cold_forEach cold_upd (cold_upd h₁))))

theorem execLswOpenOn_cold {lo hi : Nat} (h : Cold κ s) : OutCold κ (execLswOpenOn t n lo hi s) :=
  cold_next (onEvent_cold h (fun h₁ => cold_ite h₁ (cold_ite (raise_cold (wr_cold (cold_upd h₁)))
    (cold_ite (raise_cold (wr_cold (cold_upd h₁))) (cold_upd h₁)))))

theorem execLswOpenOff_cold (h : Cold κ s) : OutCold κ (execLswOpenOff t n s) :=
  cold_next (onEvent_cold h (fun h₁ => cold_ite (raise_cold (wr_cold h₁)) h₁))

theorem execLswBudgetWindow_cold {mas mws : List Nat} (h : Cold κ s) :
    OutCold κ (execLswBudgetWindow t mas mws s) := by
  unfold execLswBudgetWindow
  refine cold_next (onEvent_cold h (fun h₁ => cold_ite h₁ ?_))
  extract_lets _ _ _ _ _ _ _ _ _ s₂ s₃
  have h₂ : Cold κ s₂ := cold_forEach (fun h₂ => cold_ite (budgetOff_cold h₂) h₂) (wr_cold (wr_cold
    (cold_forEach wr_cold (cold_upd h₁))))
  have h₃ : Cold κ s₃ := cold_ite (budgetOff_cold h₂) h₂
  exact cold_ite (budgetOff_cold h₃) h₃

theorem execVlsUndervoltage_cold {b : Nat} (h : Cold κ s) : OutCold κ (execVlsUndervoltage t b mv s) :=
  cold_next (onEvent_cold h vlsLow_cold)

theorem execVlsRestored_cold {b : Nat} (h : Cold κ s) : OutCold κ (execVlsRestored t b mv s) :=
  cold_next (onEvent_cold h vlsBack_cold)

theorem execLswSet_cold {on duty phase : Nat} (h : Cold κ s) :
    OutCold κ (execLswSet x mask on duty phase s) := by
  unfold execLswSet
  refine cold_next (command_cold h (fun h₁ => ?_))
  extract_lets _ _ _ x₁ s₂
  clear_value x₁
  have h₂ : Cold κ s₂ := by
    unfold s₂
    refine cold_forEach (fun h₂ => ?_) h₁
    extract_lets s₃ s₄ s₅
    have h₃ : Cold κ s₃ := cold_ite h₂ (wr_cold h₂)
    have h₄ : Cold κ s₄ := cold_ite h₃ (wr_cold h₃)
    have h₅ : Cold κ s₅ := wr_cold (wr_cold (wr_cold h₄))
    exact cold_ite (cold_ite h₅ (turnOn_cold h₅)) (cold_ite h₄ (turnOff_cold h₄))
  refine cold_ite (complete_cold h₁) ?_
  split
  · exact complete_cold h₁
  · exact complete_cold h₁
  · exact complete_cold h₂

theorem execLswClear_cold (h : Cold κ s) : OutCold κ (execLswClear x mask s) :=
  cold_next (command_cold h (fun h₁ => cold_ite (complete_cold h₁) (complete_cold (cold_forEach (fun h₂ =>
    wr_cold (wr_cold (wr_cold (turnOff_cold h₂)))) h₁))))

theorem execLswQuery_cold (h : Cold κ s) : OutCold κ (execLswQuery x n s) :=
  cold_next (command_cold h (fun h₁ => cold_ite (complete_cold h₁) (complete_cold h₁)))

theorem execLswConfig_cold {cfg pwm : Nat} (h : Cold κ s) : OutCold κ (execLswConfig x n cfg pwm s) :=
  cold_next (command_cold h (fun h₁ => cold_ite (complete_cold h₁) (cold_ite (complete_cold h₁)
    (complete_cold (cold_forEach wrSave_cold (cold_forEach wrSave_cold h₁))))))

theorem execLswBankPwm_cold {b hz : Nat} (h : Cold κ s) : OutCold κ (execLswBankPwm x b hz s) :=
  cold_next (command_cold h (fun h₁ => cold_ite (complete_cold h₁) (complete_cold (wrSave_cold h₁))))

/-! ### Met (Sys2Proof/Machine/Met.lean) -/

theorem execMetWindowEnd_cold (h : Cold κ s) : OutCold κ (execMetWindowEnd t m s) := by
  unfold execMetWindowEnd
  refine cold_next (onCore_cold h (fun h₁ => ?_))
  split
  · exact cold_ite (windowEnd_cold h₁) h₁
  · exact h₁

theorem execDemandSecondRecord_cold (h : Cold κ s) : OutCold κ (execDemandSecondRecord t m s) :=
  cold_next (onCore_cold h (fun h₁ => cold_ite (secondRecord_cold h₁) h₁))

theorem execPqHalfCycle_cold (h : Cold κ s) : OutCold κ (execPqHalfCycle t m s) := by
  unfold execPqHalfCycle
  refine cold_next (onCore_cold h (fun h₁ => cold_ite h₁ ?_))
  extract_lets _ _ s₂
  have h₂ : Cold κ s₂ := cold_upd h₁
  split
  · exact cold_ite h₂ (pqHalf_cold h₂)
  · exact h₁

theorem execPulseStart_cold (h : Cold κ s) : OutCold κ (execPulseStart t k s) := by
  unfold execPulseStart
  refine cold_next (onCore_cold h (fun h₁ => ?_))
  extract_lets
  split
  · exact cold_ite (backlog_cold (cold_upd h₁)) h₁
  · exact h₁

theorem execPulseEnd_cold (h : Cold κ s) : OutCold κ (execPulseEnd t k s) :=
  cold_next (onCore_cold h (fun h₁ => cold_ite (backlog_cold (cold_upd h₁)) h₁))

theorem execTcRead_cold (h : Cold κ s) : OutCold κ (execTcRead t temp s) :=
  cold_next (onCore_cold h (fun h₁ => cold_ite h₁ (cold_ite (cold_upd h₁) (cold_ite (cold_upd h₁)
    (cold_ite (compensateGroups_cold (cold_upd h₁)) (raise_cold (wrInt_cold (compensateGroups_cold
    (cold_upd h₁)))))))))

theorem execMetSessionCloseFinal_cold (h : Cold κ s) : OutCold κ (execMetSessionCloseFinal t m s) :=
  cold_next (onCore_cold h (fun h₁ => cold_ite (closeFinal_cold h₁) h₁))

theorem execMetCalMeasureDone_cold (h : Cold κ s) : OutCold κ (execMetCalMeasureDone t m s) := by
  unfold execMetCalMeasureDone
  refine cold_next (onCore_cold h (fun h₁ => ?_))
  split
  · exact h₁
  · exact cold_ite h₁ (cold_ite (finalise_cold (cold_upd h₁)) (finalise_cold (cold_forEach (fun h₂ =>
      raise_cold (cold_upd h₂)) (cold_upd h₁))))

theorem execMetQuery_cold (h : Cold κ s) : OutCold κ (execMetQuery x m s) :=
  cold_next (command_cold h (fun h₁ => cold_ite (complete_cold h₁) (complete_cold h₁)))

theorem execMetSessionOpen_cold {sess : Nat} (h : Cold κ s) : OutCold κ (execMetSessionOpen x m sess s) := by
  unfold execMetSessionOpen
  refine cold_next (command_cold h (fun h₁ => ?_))
  split
  · exact complete_cold h₁
  · exact complete_cold (metOpen_cold h₁)

theorem execMetSessionClose_cold (h : Cold κ s) : OutCold κ (execMetSessionClose x m s) := by
  unfold execMetSessionClose
  refine cold_next (command_cold h (fun h₁ => ?_))
  split
  · exact complete_cold h₁
  · exact complete_cold (metClose_cold h₁)

theorem execMetCalMeasure_cold {phases secs : Nat} (h : Cold κ s) :
    OutCold κ (execMetCalMeasure x m phases secs s) :=
  cold_next (command_cold h (fun h₁ => cold_ite (complete_cold h₁) (cold_ite (complete_cold h₁)
    (cold_ite (complete_cold h₁) (complete_cold (cold_upd h₁))))))

theorem execMetCalApply_cold {uRef iRef : Nat} {angleRef : Int} (h : Cold κ s) :
    OutCold κ (execMetCalApply x m ph uRef iRef angleRef mask s) := by
  unfold execMetCalApply
  refine cold_next ?_
  refine command_cold h (fun h₁ => cold_ite (complete_cold h₁) (cold_ite (complete_cold h₁) ?_))
  split
  · exact complete_cold h₁
  · extract_lets
    refine cold_ite (complete_cold h₁) (cold_ite (complete_cold h₁) (cold_ite (complete_cold h₁) ?_))
    split
    · exact complete_cold h₁
    · exact applyCal_cold h₁

theorem execMetPulseCfg_cold (h : Cold κ s) : OutCold κ (execMetPulseCfg x k image s) :=
  cold_next (command_cold h (fun h₁ => cold_ite (complete_cold h₁) (cold_ite (complete_cold h₁)
    (cold_ite (complete_cold h₁) (complete_cold (calNote_cold (pulseReset_cold (writeFields_cold
    h₁))))))))

theorem execMetHarmRead_cold {groups : Nat} (h : Cold κ s) : OutCold κ (execMetHarmRead x m ph groups s) :=
  cold_next (command_cold h (fun h₁ => cold_ite (complete_cold h₁) (complete_cold (giveBuffer_cold h₁))))

theorem execMetWaveCapture_cold {samples : Nat} (h : Cold κ s) :
    OutCold κ (execMetWaveCapture x mask samples s) :=
  cold_next (command_cold h (fun h₁ => cold_ite (complete_cold h₁) (complete_cold (cold_forEach (fun h₂ =>
    cold_upd (cold_upd h₂)) h₁))))

theorem execMetWaveStop_cold (h : Cold κ s) : OutCold κ (execMetWaveStop x mask s) :=
  cold_next (command_cold h (fun h₁ => cold_ite (complete_cold h₁) (complete_cold (cold_forEach (fun h₂ =>
    cold_upd (cold_upd (waveBlock_cold h₂))) h₁))))

/-! ### Outlet (Sys2Proof/Machine/Outlet.lean) -/

theorem execPilotStateAccept_cold (h : Cold κ s) : OutCold κ (execPilotStateAccept t n s) := by
  unfold execPilotStateAccept
  refine cold_next (onEvent_cold h (fun h₁ => ?_))
  extract_lets
  split
  · exact cold_ite (acceptPilot_cold h₁) h₁
  · exact h₁

theorem execPilotDiodeFault_cold (h : Cold κ s) : OutCold κ (execPilotDiodeFault t n s) :=
  cold_next (onEvent_cold h (fun h₁ => cold_ite (cold_ite (faultSession_cold (modOutlet_cold (wr_cold
    h₁))) (modOutlet_cold (wr_cold h₁))) h₁))

theorem execPilotPwmPeriod_cold {high low : Int} (h : Cold κ s) :
    OutCold κ (execPilotPwmPeriod t n high low s) := by
  unfold execPilotPwmPeriod
  refine cold_next (onEvent_cold h (fun h₁ => cold_ite h₁ ?_))
  extract_lets s₂ _ s₃
  have h₂ : Cold κ s₂ := modOutlet_cold (judgePeriod_cold h₁)
  have h₃ : Cold κ s₃ := cold_ite h₂ (cold_upd h₂)
  split
  · exact cold_ite (modOutlet_cold h₃) (setOut_cold h₃)
  · exact h₃

theorem execProximityRead_cold {ohms : Nat} (h : Cold κ s) : OutCold κ (execProximityRead t n ohms s) := by
  unfold execProximityRead
  refine cold_next (onEvent_cold h (fun h₁ => cold_ite h₁ ?_))
  extract_lets
  split
  extract_lets s₂ _ s₃ s₄
  have h₂ : Cold κ s₂ := modOutlet_cold h₁
  have h₃ : Cold κ s₃ := cold_ite (raise_cold (wr_cold h₂)) (wr_cold h₂)
  have h₄ : Cold κ s₄ := cold_ite (offerW_cold h₃) h₃
  exact cold_ite (stopSession_cold h₄) (cold_ite (applyAlloc_cold h₄) h₄)

theorem execAuthTimeout_cold (h : Cold κ s) : OutCold κ (execAuthTimeout t n s) := by
  unfold execAuthTimeout
  refine cold_next (onEvent_cold h (fun h₁ => ?_))
  extract_lets
  split
  · exact cold_ite (endSession_cold h₁) h₁
  · exact h₁

theorem execHlcMessage_cold {msg : HlcMsg} (h : Cold κ s) : OutCold κ (execHlcMessage t n msg s) :=
  cold_next (onEvent_cold h (fun h₁ => cold_ite (hlcMessage_cold h₁) h₁))

theorem execHlcTimeout_cold (h : Cold κ s) : OutCold κ (execHlcTimeout t n s) :=
  cold_next (onEvent_cold h (fun h₁ => cold_ite (hlcFailed_cold h₁) h₁))

theorem execPreauthTimeout_cold (h : Cold κ s) : OutCold κ (execPreauthTimeout t s) := by
  unfold execPreauthTimeout
  refine cold_next (onEvent_cold h (fun h₁ => ?_))
  split
  · exact cold_ite (cold_upd h₁) h₁
  · exact h₁

theorem execOutConfig_cold {cfg dc : Nat} (h : Cold κ s) : OutCold κ (execOutConfig x n cfg dc s) :=
  cold_next (command_cold h (fun h₁ => cold_ite (complete_cold h₁) (cold_ite (complete_cold h₁)
    (cold_ite (complete_cold h₁) (complete_cold (cfgApplied_cold (cold_forEach wrSave_cold (cold_forEach
    wrSave_cold h₁))))))))

theorem execOutAvailability_cold (h : Cold κ s) : OutCold κ (execOutAvailability x n mode s) :=
  cold_next (command_cold h (fun h₁ => cold_ite (complete_cold h₁) (cold_ite (cold_ite (complete_cold
    h₁) (cold_ite (complete_cold (cableRebind_cold h₁)) (complete_cold (cold_ite (setSess_cold
    (offer_cold (cableRebind_cold (modOutlet_cold h₁)))) (modOutlet_cold h₁))))) (complete_cold (cold_ite
    (cold_ite (stopSession_cold (modOutlet_cold h₁)) (cold_ite (endOrWait_cold (caskSafety_cold
    (modOutlet_cold h₁))) (modOutlet_cold h₁))) (cold_ite (cold_ite (stopHosted_cold (caskSafety_cold
    (modOutlet_cold h₁))) (modOutlet_cold h₁)) (cold_ite (setSess_cold (offer_cold (modOutlet_cold h₁)))
    (modOutlet_cold h₁))))))))

theorem execSessionAuthorise_cold {ident : List Byte} (h : Cold κ s) :
    OutCold κ (execSessionAuthorise x n kind ident s) :=
  cold_next (command_cold h (fun h₁ => cold_ite (complete_cold h₁) (cold_ite (cold_ite (complete_cold
    h₁) (complete_cold (cold_upd h₁))) (cold_ite (complete_cold h₁) (cold_ite (complete_cold h₁)
    (cold_ite (complete_cold h₁) (complete_cold (authorise_cold h₁))))))))

theorem execSessionStop_cold (h : Cold κ s) : OutCold κ (execSessionStop x mask peer s) :=
  cold_next (command_cold h (fun h₁ => cold_ite (forwardStop_cold h₁) (complete_cold (sessionStop_cold
    h₁))))

theorem execOutErem_cold (h : Cold κ s) : OutCold κ (execOutErem x mask peer s) :=
  cold_next (command_cold h (fun h₁ => cold_ite (forwardStop_cold h₁) (complete_cold (outErem_cold h₁))))

theorem execOutSiteLimit_cold (h : Cold κ s) : OutCold κ (execOutSiteLimit x watts s) :=
  cold_next (command_cold h (fun h₁ => cold_ite (complete_cold h₁) (complete_cold (wrSave_cold h₁))))

theorem execSessionSetClass_cold (h : Cold κ s) : OutCold κ (execSessionSetClass x n cls s) :=
  cold_next (command_cold h (fun h₁ => cold_ite (complete_cold h₁) (cold_ite (complete_cold h₁)
    (complete_cold (modOutlet_cold h₁)))))

theorem execSessionQuery_cold (h : Cold κ s) : OutCold κ (execSessionQuery x n s) :=
  cold_next (command_cold h (fun h₁ => cold_ite (complete_cold h₁) (complete_cold h₁)))

theorem execOutSelect_cold (h : Cold κ s) : OutCold κ (execOutSelect x n s) := by
  unfold execOutSelect
  refine cold_next (command_cold h (fun h₁ => ?_))
  split
  · exact complete_cold h₁
  · exact cold_ite (complete_cold h₁) (cold_ite (complete_cold h₁) (cold_ite (complete_cold
      (authoriseCard_cold (cold_upd h₁))) (complete_cold (cold_upd h₁))))

theorem execOutContactor_cold {close : Bool} (h : Cold κ s) : OutCold κ (execOutContactor x n close s) :=
  cold_next (command_cold h (fun h₁ => cold_ite (complete_cold h₁) (cold_ite (complete_cold h₁)
    (cold_ite (complete_cold (openOutlet_cold (dropClose_cold h₁))) (cold_ite (complete_cold h₁)
    (modOutlet_cold (testSensor_cold h₁)))))))

theorem execOutPilotDuty_cold {duty : Nat} (h : Cold κ s) : OutCold κ (execOutPilotDuty x n duty s) := by
  unfold execOutPilotDuty
  refine cold_next ?_
  refine command_cold h (fun h₁ => cold_ite (complete_cold h₁) (cold_ite (complete_cold h₁) ?_))
  split
  · exact complete_cold (raise_cold h₁)
  · exact complete_cold (offer_cold h₁)

theorem execOutPmSetpoint_cold {volts amps : Nat} (h : Cold κ s) :
    OutCold κ (execOutPmSetpoint x n mode volts amps watts s) := by
  unfold execOutPmSetpoint
  refine cold_next ?_
  refine command_cold h (fun h₁ => cold_ite (complete_cold h₁) (cold_ite (complete_cold h₁) ?_))
  split
  · exact complete_cold (raise_cold h₁)
  · exact complete_cold (stageSet_cold h₁)

theorem execOutCertResponse_cold {data : List Byte} (h : Cold κ s) :
    OutCold κ (execOutCertResponse x n valid data s) :=
  cold_next (command_cold h (fun h₁ => cold_ite (complete_cold h₁) (cold_ite (complete_cold (raise_cold
    h₁)) (cold_ite (complete_cold h₁) (complete_cold (modOutlet_cold h₁))))))

/-! ### Safe (Sys2Proof/Machine/Safe.lean) -/

theorem execHslCycle_cold {levels : List Int} {mirrors : Nat} (h : Cold κ s) :
    OutCold κ (execHslCycle t levels mirrors s) :=
  cold_next (onCore_cold h (fun h₁ => cold_ite h₁ (formBeat_cold (cold_forEach followHigh_cold
    (cold_forEach pilotB_cold (cold_forEach (fun h₂ => cold_ite h₂ (rcmUpdate_cold h₂))
    (sampleMirrors_cold (cold_upd h₁))))))))

theorem execHslTableCheck_cold {crcOk : Bool} (h : Cold κ s) : OutCold κ (execHslTableCheck t crcOk s) :=
  cold_next (onCore_cold h (fun h₁ => cold_ite h₁ (cold_ite (refreshSafeOk_cold (setFlag_cold (cold_upd
    h₁))) (moduleTrip_cold (setFlag_cold (cold_upd h₁))))))

theorem execHslWatchdogExpiry_cold (h : Cold κ s) : OutCold κ (execHslWatchdogExpiry t s) :=
  cold_next (onCore_cold h (fun h₁ => cold_ite (moduleTrip_cold (setFlag_cold h₁)) h₁))

theorem execBHeartbeat_cold {b : Beat} (h : Cold κ s) : OutCold κ (execBHeartbeat t b s) :=
  cold_next (onCore_cold h (fun h₁ => cold_ite (refreshSafeOk_cold (setFlag_cold (cold_upd h₁))) h₁))

theorem execBHeartbeatLoss_cold (h : Cold κ s) : OutCold κ (execBHeartbeatLoss t s) :=
  cold_next (onCore_cold h (fun h₁ => cold_ite (moduleTrip_cold (setFlag_cold h₁)) h₁))

theorem execChannelDiscrepancy_cold {reading : Int} (h : Cold κ s) :
    OutCold κ (execChannelDiscrepancy t code n chan reading since s) := by
  unfold execChannelDiscrepancy
  refine cold_next (onCore_cold h (fun h₁ => ?_))
  split
  · exact h₁
  · exact cold_ite (moduleTrip_cold (cold_upd h₁)) h₁

theorem execSafetySelftestDone_cold (h : Cold κ s) : OutCold κ (execSafetySelftestDone t s) :=
  cold_next (onEvent_cold h (fun h₁ => cold_ite (refreshSafeOk_cold (setFlag_cold h₁)) h₁))

theorem execEstopSourcePulse_cold {srcB ownFollows otherFollows : Bool} (h : Cold κ s) :
    OutCold κ (execEstopSourcePulse t srcB ownFollows otherFollows s) :=
  cold_next (onCore_cold h (fun h₁ => cold_ite h₁ (cold_ite (cold_upd h₁) (moduleTrip_cold (cold_upd
    h₁)))))

theorem execEstopOpen_cold {inputB : Bool} (h : Cold κ s) : OutCold κ (execEstopOpen t inputB us s) :=
  cold_next (onCore_cold h (fun h₁ => cold_ite h₁ (moduleTrip_cold (cold_safe rfl h₁))))

theorem execEstopDisc_cold (h : Cold κ s) : OutCold κ (execEstopDisc t s) :=
  cold_next (onCore_cold h (fun h₁ => cold_ite (moduleTrip_cold h₁) h₁))

theorem execSafeInChange_cold (h : Cold κ s) : OutCold κ (execSafeInChange t m closed ms s) :=
  cold_next (onCore_cold h (fun h₁ => cold_ite h₁ (safeInLevel_cold h₁)))

theorem execImdResult_cold (h : Cold κ s) : OutCold κ (execImdResult t kohm s) :=
  cold_next (onCore_cold h (fun h₁ => cold_ite (imdResult_cold h₁) h₁))

theorem execCableCheckTimeout_cold (h : Cold κ s) : OutCold κ (execCableCheckTimeout t n s) := by
  unfold execCableCheckTimeout
  refine cold_next (onEvent_cold h (fun h₁ => ?_))
  split
  · exact cold_ite (cableFailed_cold h₁) h₁
  · exact h₁

theorem execSafeStatePilotEnd_cold (h : Cold κ s) : OutCold κ (execSafeStatePilotEnd t n s) := by
  unfold execSafeStatePilotEnd
  refine cold_next (onEvent_cold h (fun h₁ => ?_))
  split
  · exact cold_ite (cold_ite (modOs_cold h₁) (offer_cold (modOs_cold h₁))) h₁
  · exact h₁

theorem execResetSafeEdge_cold {lowUs : Nat} {aOpen bOpen : Bool} (h : Cold κ s) :
    OutCold κ (execResetSafeEdge t lowUs aOpen bOpen s) :=
  cold_next (onCore_cold h (fun h₁ => cold_ite h₁ (resetSafe_cold (cold_upd h₁))))

theorem execSafeQuery_cold (h : Cold κ s) : OutCold κ (execSafeQuery x s) :=
  cold_next (command_cold h complete_cold)

theorem execSafeTestNow_cold (h : Cold κ s) : OutCold κ (execSafeTestNow x mask s) :=
  cold_next (command_cold h (fun h₁ => complete_cold (cold_forEach (modCoil_cold ⟨id, id, .inl rfl⟩) h₁)))

theorem execImdMeasure_cold (h : Cold κ s) : OutCold κ (execImdMeasure x n kohm s) :=
  cold_next (command_cold h (fun h₁ => cold_ite (complete_cold h₁) (complete_cold (imdResult_cold h₁))))

/-! ### Power (Sys2Proof/Machine/Power.lean) -/

theorem execVfail_cold {feed : List Feed} (h : Cold κ s) : OutCold κ (execVfail t mv feed s) :=
  cold_next (onEvent_cold h (fun h₁ => cold_ite h₁ (lastPour_cold h₁)))

theorem execVinReturn_cold (h : Cold κ s) : OutCold κ (execVinReturn t mv s) :=
  cold_next (cold_ite (segRecover_cold (pourReturn_cold (advance_cold h))) h)

theorem execConverterRailFall_cold (h : Cold κ s) : OutCold κ (execConverterRailFall t s) :=
  cold_next (cold_ite railFall_cold h)

theorem execVinValid_cold (h : Cold κ s) : OutCold κ (execVinValid t mv ms s) := by
  unfold execVinValid
  refine cold_next (cold_ite h ?_)
  split
  · exact cold_upd h
  · exact cold_upd h
  · exact h

theorem execEarlyVinLoss_cold (h : Cold κ s) : OutCold κ (execEarlyVinLoss t s) :=
  cold_next (cold_ite (cold_upd h) h)

theorem execRailOutOfLimits_cold {mv : Int} {feed : List Feed} (h : Cold κ s) :
    OutCold κ (execRailOutOfLimits t r ov mv us feed whole s) :=
  cold_next (cold_ite h (cold_ite (cold_ite (cold_upd (loseClock_cold h)) h) (onCore_cold h
    railFails_cold)))

theorem execRailRestored_cold {mv : Int} (h : Cold κ s) : OutCold κ (execRailRestored t r mv us s) :=
  cold_next (cold_ite h (onCore_cold h railBack_cold))

theorem execTempLevelChange_cold {celsius : Int} (h : Cold κ s) :
    OutCold κ (execTempLevelChange t k celsius s) :=
  cold_next (onEvent_cold h (fun h₁ => cold_ite (serveNext_cold (tempTaken_cold h₁)) (tempTaken_cold h₁)))

theorem execProcMonSample_cold {codes : List Nat} (h : Cold κ s) : OutCold κ (execProcMonSample t codes s) :=
  cold_next (onEvent_cold h (fun h₁ => cold_ite h₁ (cold_forEach (fun h₂ => cold_ite (raise_cold
    (cold_upd (wr_cold h₂))) (wr_cold h₂)) (cold_upd h₁))))

theorem execTamperInput_cold {samples : Nat} (h : Cold κ s) :
    OutCold κ (execTamperInput t k closed samples s) := by
  unfold execTamperInput
  refine cold_next ?_
  extract_lets _ s₁ s₂
  have h₁ : Cold κ s₁ := raise_cold (setFlag_cold (advance_cold h))
  have h₂ : Cold κ s₂ := setFlag_cold h
  exact cold_ite h (cold_ite (cold_ite (tamper_cold h₁) h₁) (cold_ite (incSat_cold h₂) h₂))

theorem execXtal32Fail_cold (h : Cold κ s) : OutCold κ (execXtal32Fail t s) :=
  cold_next (cold_ite (loseClock_cold h) (onCore_cold h (fun h₁ => cold_ite h₁ (raise_cold (incSat_cold
    (wr_cold (wr_cold h₁)))))))

theorem execXtal32Return_cold (h : Cold κ s) : OutCold κ (execXtal32Return t s) :=
  cold_next (onCore_cold h (fun h₁ => cold_ite h₁ (raise_cold (wr_cold (wr_cold h₁)))))

theorem execXtal49Fail_cold (h : Cold κ s) : OutCold κ (execXtal49Fail t s) :=
  cold_next (onCore_cold h (fun h₁ => cold_ite h₁ (tamper_cold (raise_cold (cold_upd (incSat_cold
    (wr_cold (wr_cold h₁))))))))

theorem execXtal49Return_cold (h : Cold κ s) : OutCold κ (execXtal49Return t s) :=
  cold_next (onCore_cold h (fun h₁ => cold_ite h₁ (raise_cold (wr_cold (wr_cold h₁)))))

theorem execXtal25Fail_cold {feed : List Feed} (h : Cold κ s) : OutCold κ (execXtal25Fail t feed s) :=
  cold_next (onCore_cold h (fun _ => failRestart_cold))

theorem execRefclkReturn_cold (h : Cold κ s) : OutCold κ (execRefclkReturn t s) :=
  cold_next (onEvent_cold h (fun h₁ => cold_ite h₁ (raise_cold (wr_cold h₁))))

theorem execMeterWake_cold (h : Cold κ s) : OutCold κ (execMeterWake t cause s) :=
  cold_next (onEvent_cold h (fun h₁ => cold_ite (plcFollowAll_cold (wakeRun_cold h₁)) h₁))

theorem execPwrQuery_cold (h : Cold κ s) : OutCold κ (execPwrQuery x s) :=
  cold_next (command_cold h complete_cold)

theorem execPwrMode_cold (h : Cold κ s) : OutCold κ (execPwrMode x mode s) :=
  cold_next (command_cold h (fun h₁ => cold_ite (complete_cold h₁) (cold_ite (complete_cold
    (plcFollowAll_cold (wakeRun_cold h₁))) (cold_ite (complete_cold h₁) (cold_ite (complete_cold h₁)
    (complete_cold (enterMeter_cold h₁)))))))

theorem execPwrIdent_cold (h : Cold κ s) : OutCold κ (execPwrIdent x s) :=
  cold_next (command_cold h (fun h₁ => complete_cold (giveBuffer_cold h₁)))

/-! ### Rcm (Sys2Proof/Machine/Rcm.lean) -/

theorem execRcmReading_cold {value : Int} (h : Cold κ s) : OutCold κ (execRcmReading t i value s) :=
  cold_next (onCore_cold h (fun h₁ => cold_forEach modOs_cold (cold_safe rfl (setFlag_cold (wrInt_cold
    h₁)))))

theorem execRcmSelftestRun_cold (h : Cold κ s) : OutCold κ (execRcmSelftestRun t n offset reading s) :=
  cold_next (onEvent_cold h (fun h₁ => cold_ite (rcmSelfTest_cold h₁) h₁))

theorem execRcmSensorRange_cold (h : Cold κ s) : OutCold κ (execRcmSensorRange t i s) :=
  cold_next (onCore_cold h (fun h₁ => cold_ite (cold_forEach sensorTrip_cold h₁) h₁))

theorem execRcmPrewarn_cold (h : Cold κ s) : OutCold κ (execRcmPrewarn t n s) := by
  unfold execRcmPrewarn
  refine cold_next (onEvent_cold h (fun h₁ => ?_))
  split
  · exact cold_ite (raise_cold (modOs_cold h₁)) h₁
  · exact h₁

theorem execRcmSelftest_cold (h : Cold κ s) : OutCold κ (execRcmSelftest x n offset reading s) :=
  cold_next (command_cold h (fun h₁ => cold_ite (complete_cold h₁) (cold_ite (complete_cold h₁)
    (complete_cold (rcmSelfTest_cold h₁)))))

/-! ### RegMap (Sys2Proof/Machine/RegMap.lean) -/

theorem execLatchingRead_cold {bar4 : Bool} (h : Cold κ s) : OutCold κ (execLatchingRead t off wide bar4 s) :=
  cold_next (onEvent_cold h (fun h₁ => cold_ite (cold_upd h₁) (barRead_cold h₁)))

theorem execRegisterWrite_cold {part bar4 : Bool} (h : Cold κ s) :
    OutCold κ (execRegisterWrite t off value wide part bar4 s) :=
  cold_next (onEvent_cold h (fun h₁ => cold_ite (msixWrite_cold h₁) (barWrite_cold h₁)))

theorem execAlertWrite_cold (h : Cold κ s) : OutCold κ (execAlertWrite t mask s) :=
  cold_next (onEvent_cold h alertWrite_cold)

theorem execSetupLock_cold (h : Cold κ s) : OutCold κ (execSetupLock t s) :=
  cold_next (onEvent_cold h lockSetup_cold)

theorem execSettingsSaved_cold (h : Cold κ s) : OutCold κ (execSettingsSaved t s) :=
  cold_next (onEvent_cold h settingsSaved_cold)

theorem execRegWrite_cold (h : Cold κ s) : OutCold κ (execRegWrite x off value mask s) :=
  cold_next (command_cold h (fun h₁ => complete_cold (regWrite_cold h₁)))

/-! ### Slac (Sys2Proof/Machine/Slac.lean) -/

theorem execSlacParmReq_cold {pilots : List Nat} (h : Cold κ s) :
    OutCold κ (execSlacParmReq t run pilots s) := by
  unfold execSlacParmReq
  refine cold_next (onEvent_cold h (fun h₁ => ?_))
  extract_lets _ s₂
  have h₂ : Cold κ s₂ := cold_forEach modOutlet_cold h₁
  refine cold_ite h₁ ?_
  split
  · exact cold_ite (putSlac_cold h₂) h₂
  · exact putSlac_cold h₂

theorem execStartAttenChar_cold (h : Cold κ s) : OutCold κ (execStartAttenChar t run s) := by
  unfold execStartAttenChar
  refine cold_next (onEvent_cold h (fun h₁ => ?_))
  split
  · exact cold_ite (putSlac_cold h₁) h₁
  · exact h₁

theorem execMnbcSound_cold {meas : List (Nat × List Nat)} (h : Cold κ s) :
    OutCold κ (execMnbcSound t run meas s) := by
  unfold execMnbcSound
  refine cold_next (onEvent_cold h (fun h₁ => ?_))
  split
  · exact cold_ite (putSlac_cold h₁) h₁
  · exact h₁

theorem execSlacWindowClose_cold (h : Cold κ s) : OutCold κ (execSlacWindowClose t s) :=
  cold_next (onEvent_cold h slacClose_cold)

theorem execSlacValidate_cold {announced : Nat} {counted : List (Nat × Nat)} (h : Cold κ s) :
    OutCold κ (execSlacValidate t run announced counted s) := by
  unfold execSlacValidate
  refine cold_next (onEvent_cold h (fun h₁ => ?_))
  split
  · exact cold_ite h₁ (putSlac_cold h₁)
  · exact h₁

theorem execSlacMatchReq_cold {pilot : Nat} (h : Cold κ s) : OutCold κ (execSlacMatchReq t run pilot s) := by
  unfold execSlacMatchReq
  refine cold_next (onEvent_cold h (fun h₁ => ?_))
  split
  · refine cold_ite ?_ h₁
    split
    rename_i hp
    exact setSess_cold (raise_cold (modOutlet_cold (dropSlac_cold (cold_upd (cold_snd hp (drbgNext_cold
      h₁))))))
  · exact h₁

theorem execSlacMatchTimeout_cold (h : Cold κ s) : OutCold κ (execSlacMatchTimeout t run s) := by
  unfold execSlacMatchTimeout
  refine cold_next (onEvent_cold h (fun h₁ => ?_))
  split
  · exact cold_ite h₁ (cold_forEach slacFail_cold (dropSlac_cold h₁))
  · exact h₁

theorem execSlacInitTimeout_cold (h : Cold κ s) : OutCold κ (execSlacInitTimeout t n s) := by
  unfold execSlacInitTimeout
  refine cold_next (onEvent_cold h (fun h₁ => ?_))
  split
  · exact cold_ite (slacFail_cold h₁) h₁
  · exact h₁

/-! ### Start (Sys2Proof/Machine/Start.lean) -/

theorem execRecordSign_cold (h : Cold κ s) : OutCold κ (execRecordSign t s) :=
  cold_next (onCore_cold h (fun h₁ => cold_ite (hostReady_cold (signOldest_cold h₁)) (signOldest_cold
    h₁)))

theorem execPufRetry_cold {ber : Option Nat} (h : Cold κ s) : OutCold κ (execPufRetry t ber s) :=
  cold_next (onEvent_cold h (fun h₁ => cold_ite (hostReady_cold (recoveryOutlets_cold (regenerate_cold
    h₁))) h₁))

/-! ### Tag (Sys2Proof/Machine/Tag.lean) -/

theorem execRdr0Poll_cold {cardsA cardsB cards15 : List (List Byte)} {rxErr : Nat} (h : Cold κ s) :
    OutCold κ (execRdr0Poll t cardsA cardsB cards15 authOk rxErr s) := by
  unfold execRdr0Poll
  refine cold_next (onEvent_cold h (fun h₁ => cold_ite h₁ ?_))
  extract_lets _ _ s₂ _ _ s₃ _ s₄
  have h₂ : Cold κ s₂ := addSat_cold (cold_upd h₁)
  have h₃ : Cold κ s₃ := cold_ite (walkLimit_cold h₂) h₂
  have h₄ : Cold κ s₄ := cold_ite (walkLimit_cold h₃) h₃
  exact cold_ite (pollFound_cold (cold_upd h₃)) (cold_ite (pollFound_cold (cold_upd h₃)) (cold_ite
    (pollFound_cold (cold_upd h₄)) (cold_upd h₄)))

theorem execCableRead_cold {tag : Option CableRead} (h : Cold κ s) : OutCold κ (execCableRead t tag s) := by
  unfold execCableRead
  refine cold_next (onEvent_cold h (fun h₁ => ?_))
  split
  · exact h₁
  · refine cold_ite h₁ ?_
    extract_lets s₁ _ x₁ x₂ s₂
    clear_value x₁ x₂
    have h₁ : Cold κ s₁ := nextJob_cold h₁
    have h₂ : Cold κ s₂ := by
      unfold s₂
      split
      · exact raise_cold h₁
      · exact h₁
    split
    rename_i hp
    extract_lets _ _ s₃
    have h₃ : Cold κ s₃ := by
      refine cableSession_cold (raise_cold (wr_cold (cold_snd hp ?_)))
      split
      · exact cableBelieved_cold h₂
      · exact h₂
    exact cold_forEach finalise_cold (cold_ite h₃ (raise_cold h₃))

theorem execCableWrite_cold (h : Cold κ s) : OutCold κ (execCableWrite t ok s) := by
  unfold execCableWrite
  refine cold_next (onEvent_cold h (fun h₁ => ?_))
  split
  · exact h₁
  · exact cold_ite h₁ (cold_ite (lifeWrite_cold (nextJob_cold h₁)) (wr_cold (nextJob_cold h₁)))

theorem execTagCableRead_cold (h : Cold κ s) : OutCold κ (execTagCableRead x n s) :=
  cold_next (command_cold h (fun h₁ => cold_ite (complete_cold h₁) (cold_ite (complete_cold h₁)
    (addJob_cold (complete_cold h₁)))))

theorem execTagCableInit_cold (h : Cold κ s) : OutCold κ (execTagCableInit x n ok s) :=
  cold_next (command_cold h (fun h₁ => cold_ite (complete_cold h₁) (cold_ite (complete_cold h₁)
    (cold_ite (complete_cold h₁) (cold_ite (complete_cold h₁) (complete_cold (cold_upd h₁)))))))

theorem execTagCableRetire_cold (h : Cold κ s) : OutCold κ (execTagCableRetire x n ok s) :=
  cold_next (command_cold h (fun h₁ => cold_ite (complete_cold h₁) (cold_ite (complete_cold h₁)
    (cold_ite (complete_cold (lifeWrite_cold (setJobs_cold (shadowGo_cold (cold_upd h₁)))))
    (complete_cold (shadowGo_cold (cold_upd h₁)))))))

theorem execTagQuery_cold (h : Cold κ s) : OutCold κ (execTagQuery x s) :=
  cold_next (command_cold h complete_cold)

theorem execOwnTagFieldOn_cold (h : Cold κ s) : OutCold κ (execOwnTagFieldOn t s) :=
  cold_next (onField_cold h (fun h₁ => cold_upd (wr_cold (addSat_cold (cold_forEach cold_upd h₁)))))

theorem execOwnTagFieldLost_cold (h : Cold κ s) : OutCold κ (execOwnTagFieldLost t s) := by
  unfold execOwnTagFieldLost
  refine cold_next (onField_cold h (fun h₁ => cold_ite h₁ ?_))
  extract_lets _ _ s₂
  have h₂ : Cold κ s₂ := cold_upd (cold_upd (wr_cold (cold_upd h₁)))
  exact cold_ite (raise_cold h₂) h₂

theorem execOwnTagFieldRead_cold (h : Cold κ s) : OutCold κ (execOwnTagFieldRead t first count s) :=
  cold_next (onField_cold h (fun h₁ => cold_ite h₁ (cold_ite (cold_upd h₁) (cold_ite (cold_upd h₁)
    (cold_upd h₁)))))

theorem execOwnTagFieldWrite_cold {values : List Nat} {done : Nat} (h : Cold κ s) :
    OutCold κ (execOwnTagFieldWrite t first values done s) :=
  cold_next (onField_cold h (fun h₁ => cold_ite h₁ (cold_ite (cold_upd h₁) (cold_ite (cold_upd h₁)
    (cold_ite (cold_upd (incSat_cold h₁)) (cold_upd (cold_upd (addSat_cold (cold_forEach cold_upd
    (cold_forEach cold_upd h₁))))))))))

theorem execPresentPwd_cold {pwd : Nat} (h : Cold κ s) : OutCold κ (execPresentPwd t pwd s) :=
  cold_next (onField_cold h (fun h₁ => cold_ite h₁ (cold_ite (cold_upd h₁) (cold_ite (cold_upd
    (cold_upd h₁)) (cold_upd (cold_upd h₁))))))

theorem execOwnTagMam1_cold (h : Cold κ s) : OutCold κ (execOwnTagMam1 t ok s) :=
  cold_next (onField_cold h (fun h₁ => cold_ite (cold_upd (cold_upd h₁)) h₁))

theorem execResetToReady_cold (h : Cold κ s) : OutCold κ (execResetToReady t s) :=
  cold_next (onField_cold h (fun h₁ => cold_ite (cold_upd h₁) h₁))

theorem execTagOwnRead_cold (h : Cold κ s) : OutCold κ (execTagOwnRead x first count s) :=
  cold_next (command_cold h (fun h₁ => cold_ite (complete_cold h₁) (cold_ite (complete_cold h₁)
    (complete_cold (giveBuffer_cold h₁)))))

theorem execTagOwnWrite_cold {blocks : List Nat} (h : Cold κ s) :
    OutCold κ (execTagOwnWrite x first blocks s) :=
  cold_next (command_cold h (fun h₁ => cold_ite (complete_cold h₁) (cold_ite (complete_cold h₁)
    (cold_ite (complete_cold h₁) (complete_cold (ownCommit_cold (cold_upd (cold_upd h₁))))))))

/-! ### Trellis (Sys2Proof/Machine/Trellis.lean) -/

theorem execPlcFrameRx_cold {agc : Nat} {syms : List (List Int)} {fecOk : Bool} (h : Cold κ s) :
    OutCold κ (execPlcFrameRx t i agc first syms fecOk s) := by
  unfold execPlcFrameRx
  refine cold_next (onEvent_cold h (fun h₁ => cold_ite h₁ ?_))
  split
  extract_lets _ _ _ _ _ s₂ s₃
  have h₂ : Cold κ s₂ := wr_cold (wr_cold (addSat_cold (addSat_cold (addSat_cold (addSat_cold
    (cold_upd h₁))))))
  have h₃ : Cold κ s₃ := cold_ite h₂ (wr_cold h₂)
  exact cold_ite (raise_cold (cold_upd h₃)) (cold_upd h₃)

theorem execSuperframeStart_cold (h : Cold κ s) : OutCold κ (execSuperframeStart t s) := by
  unfold execSuperframeStart
  refine cold_next (onEvent_cold h (fun h₁ => ?_))
  extract_lets _ _ _ _ s₂ s₃
  have h₂ : Cold κ s₂ := cold_upd (wr_cold h₁)
  have h₃ : Cold κ s₃ := cold_ite (alignNote_cold h₂) h₂
  exact cold_ite h₁ (cold_ite (transmit_cold h₃) h₃)

theorem execBeaconRx_cold {h' : THdr} {stamp pos coord : Nat} {relays : List Nat} (h : Cold κ s) :
    OutCold κ (execBeaconRx t h' stamp pos coord count relays s) := by
  unfold execBeaconRx
  refine cold_next (onEvent_cold h (fun h₁ => receive_cold h₁ (fun h₂ => ?_)))
  extract_lets _ _ _ s₃ s₄ _ _ s₅ x₁
  clear_value x₁
  have h₃ : Cold κ s₃ := cold_upd h₂
  have h₄ : Cold κ s₄ := cold_ite (joinReq_cold h₃) (cold_ite (setTrx_cold h₃) h₃)
  have h₅ : Cold κ s₅ := moveStart_cold (wr_cold (wr_cold h₄))
  refine cold_ite (cold_ite (joinReq_cold (raise_cold h₂)) h₂) (cold_ite (cold_upd h₄) ?_)
  split
  · exact cold_ite h₅ (transmit_cold h₅)
  · exact h₅

theorem execSyncInEdge_cold (h : Cold κ s) : OutCold κ (execSyncInEdge t first falling s) := by
  unfold execSyncInEdge
  refine cold_next (onEvent_cold h (fun h₁ => cold_ite h₁ ?_))
  extract_lets _ _ _ _ _ _ s₂
  have h₂ : Cold κ s₂ := demandSync_cold (wr_cold (wr_cold (incSat_cold (cold_upd h₁))))
  exact cold_ite (incSat_cold h₁) (cold_ite h₂ (cold_ite (cold_upd h₂) (raise_cold h₂)))

theorem execTrellisTx_cold (h : Cold κ s) : OutCold κ (execTrellisTx t s) := by
  unfold execTrellisTx
  refine cold_next (onEvent_cold h (fun h₁ => cold_ite h₁ ?_))
  split
  · exact serveNext_cold h₁
  · exact cold_ite (serveNext_cold (frameDone_cold (transmit_cold (cold_upd h₁)))) (cold_ite
      (serveNext_cold (frameDone_cold (cold_upd h₁))) (cold_upd (transmit_cold (cold_ite (cold_upd h₁)
      (incSat_cold (cold_upd h₁))))))

theorem execAck_cold {h' : THdr} {seq ctr : Nat} (h : Cold κ s) : OutCold κ (execAck t h' seq ctr s) := by
  unfold execAck
  refine cold_next (onEvent_cold h (fun h₁ => ?_))
  split
  · exact h₁
  · exact cold_ite (serveNext_cold (frameDone_cold (linkResult_cold (hear_cold (cold_upd h₁))))) h₁

theorem execTrellisAckTimeout_cold (h : Cold κ s) : OutCold κ (execTrellisAckTimeout t s) := by
  unfold execTrellisAckTimeout
  refine cold_next (onEvent_cold h (fun h₁ => ?_))
  split
  · exact h₁
  · exact cold_ite h₁ (cold_ite (serveNext_cold (frameDone_cold (incSat_cold (linkResult_cold (cold_upd
      h₁))))) (cold_upd (linkResult_cold (cold_upd h₁))))

theorem execJoinReq_cold {h' : THdr} {caps : Nat} (h : Cold κ s) : OutCold κ (execJoinReq t h' serial caps s) :=
  cold_next (onEvent_cold h (fun h₁ => receive_cold h₁ (fun h₂ => cold_ite h₂ (send_cold (cold_ite
    (cold_ite (raise_cold (cold_upd h₂)) (cold_upd h₂)) h₂)))))

theorem execJoinResult_cold {h' : THdr} {res : Nat} (h : Cold κ s) :
    OutCold κ (execJoinResult t h' res count s) :=
  cold_next (onEvent_cold h (fun h₁ => receive_cold h₁ (fun h₂ => cold_ite h₂ (cold_ite (holdStart_cold
    (setTrx_cold h₂)) (cold_ite (setTrx_cold (wr_cold (mainsModems_cold (cancelFrames_cold h₂))))
    (cold_upd h₂))))))

theorem execLqReport_cold {h' : THdr} {entries : List (Nat × Nat × Nat)} (h : Cold κ s) :
    OutCold κ (execLqReport t h' entries s) :=
  cold_next (onEvent_cold h (fun h₁ => receive_cold h₁ (fun h₂ => cold_ite h₂ (reroute_cold (cold_upd
    h₂)))))

theorem execSiteLimit_cold {h' : THdr} {entries : List (Nat × Nat)} (h : Cold κ s) :
    OutCold κ (execSiteLimit t h' validity entries s) :=
  cold_next (onEvent_cold h (fun h₁ => receive_cold h₁ limitApply_cold))

theorem execTime_cold {h' : THdr} {ref : Nat} {sig : Option (List Byte × Bool)} (h : Cold κ s) :
    OutCold κ (execTime t h' ref ms sig s) :=
  cold_next (onEvent_cold h (fun h₁ => receive_cold h₁ (fun h₂ => cold_ite h₂ (timeSet_cold h₂))))

theorem execHostData_cold {h' : THdr} {payload : List Byte} (h : Cold κ s) :
    OutCold κ (execHostData t h' payload s) :=
  cold_next (onEvent_cold h (fun h₁ => receive_cold h₁ (fun h₂ => streamBlock_cold (cold_upd h₂))))

theorem execImageOffer_cold {h' : THdr} (h : Cold κ s) : OutCold κ (execImageOffer t h' digest count gen s) :=
  cold_next (onEvent_cold h (fun h₁ => receive_cold h₁ updOffer_cold))

theorem execImageReq_cold {h' : THdr} {ranges : List (Nat × Nat)} (h : Cold κ s) :
    OutCold κ (execImageReq t h' digest ranges s) := by
  unfold execImageReq
  refine cold_next (onEvent_cold h (fun h₁ => receive_cold h₁ (fun h₂ => ?_)))
  split
  · exact cold_ite h₂ (serveNext_cold (cold_upd h₂))
  · exact h₂

theorem execImageBlock_cold {h' : THdr} {frag : Nat} {data : List Byte} {sigs : Bool × Bool} (h : Cold κ s) :
    OutCold κ (execImageBlock t h' digest block frag data sigs s) :=
  cold_next (onEvent_cold h (fun h₁ => receive_cold h₁ (fun h₂ => cold_ite h₂ (cold_ite (updBlockRx_cold
    (cold_upd h₂)) (cold_upd h₂)))))

theorem execImageBlockExpiry_cold (h : Cold κ s) : OutCold κ (execImageBlockExpiry t s) :=
  cold_next (onEvent_cold h cold_upd)

theorem execTrellisBeaconTimeout_cold (h : Cold κ s) : OutCold κ (execTrellisBeaconTimeout t s) :=
  cold_next (onEvent_cold h (fun h₁ => cold_ite (setTrx_cold (wr_cold (cold_upd h₁))) (cold_ite
    (cold_upd (setTrx_cold h₁)) (cold_ite (listen_cold h₁) h₁))))

theorem execTrellisJoinTimeout_cold (h : Cold κ s) : OutCold κ (execTrellisJoinTimeout t s) :=
  cold_next (onEvent_cold h (fun h₁ => cold_ite (cold_upd h₁) h₁))

theorem execTrellisJoinBackoffEnd_cold (h : Cold κ s) : OutCold κ (execTrellisJoinBackoffEnd t s) := by
  unfold execTrellisJoinBackoffEnd
  refine cold_next (onEvent_cold h (fun h₁ => ?_))
  split
  · exact cold_ite (listen_cold h₁) h₁
  · exact h₁

theorem execTrellisNodeTimeout_cold (h : Cold κ s) : OutCold κ (execTrellisNodeTimeout t n s) := by
  unfold execTrellisNodeTimeout
  refine cold_next (onEvent_cold h (fun h₁ => ?_))
  split
  · exact cold_ite (raise_cold (cold_upd h₁)) h₁
  · exact h₁

theorem execLqReportSend_cold (h : Cold κ s) : OutCold κ (execLqReportSend t s) :=
  cold_next (onEvent_cold h (fun h₁ => cold_ite (every_cold h₁ send_cold) h₁))

theorem execSiteLimitRepeat_cold (h : Cold κ s) : OutCold κ (execSiteLimitRepeat t s) := by
  unfold execSiteLimitRepeat
  refine cold_next (onEvent_cold h (fun h₁ => ?_))
  split
  · exact cold_ite (every_cold h₁ send_cold) h₁
  · exact h₁

theorem execTimeSend_cold (h : Cold κ s) : OutCold κ (execTimeSend t s) :=
  cold_next (onEvent_cold h (fun h₁ => cold_ite (every_cold h₁ send_cold) h₁))

theorem execImageOfferSend_cold (h : Cold κ s) : OutCold κ (execImageOfferSend t s) := by
  unfold execImageOfferSend
  refine cold_next (onEvent_cold h (fun h₁ => ?_))
  split
  · exact cold_ite (every_cold h₁ send_cold) h₁
  · exact h₁

theorem execTrellisEnable_cold (h : Cold κ s) : OutCold κ (execTrellisEnable t on s) :=
  cold_next (onEvent_cold h (fun h₁ => trellisEn_cold (setFlag_cold h₁)))

theorem execPlcQuery_cold (h : Cold κ s) : OutCold κ (execPlcQuery x i s) :=
  cold_next (command_cold h (fun h₁ => cold_ite (complete_cold h₁) (complete_cold h₁)))

theorem execTrellisSend_cold {payload : List Byte} (h : Cold κ s) :
    OutCold κ (execTrellisSend x dst cls payload s) :=
  cold_next (command_cold h (fun h₁ => cold_ite (complete_cold h₁) (cold_ite (complete_cold h₁)
    (cold_ite (complete_cold h₁) (cold_ite (complete_cold h₁) (cold_ite (complete_cold h₁) (send_cold
    (complete_cold h₁))))))))

theorem execTrellisLimitSend_cold {entries : List (Nat × Nat)} (h : Cold κ s) :
    OutCold κ (execTrellisLimitSend x validity entries s) :=
  cold_next (command_cold h (fun h₁ => cold_ite (complete_cold h₁) (cold_ite (complete_cold h₁)
    (complete_cold (limitApply_cold (cold_upd (send_cold (cold_upd h₁))))))))

theorem execTrellisLqRead_cold (h : Cold κ s) : OutCold κ (execTrellisLqRead x s) :=
  cold_next (command_cold h (fun h₁ => complete_cold (giveBuffer_cold h₁)))

theorem execTrellisRestart_cold (h : Cold κ s) : OutCold κ (execTrellisRestart x s) := by
  unfold execTrellisRestart
  refine cold_next (command_cold h (fun h₁ => ?_))
  extract_lets s₂ s₃
  have h₂ : Cold κ s₂ := cancelFrames_cold h₁
  have h₃ : Cold κ s₃ := cold_ite h₂ (setTrx_cold (mainsModems_cold h₂))
  exact complete_cold (cold_ite (listen_cold h₃) h₃)

/-! ### Twin (Sys2Proof/Machine/Twin.lean) -/

theorem execTwinLinkUp_cold {lanes : Nat} {peerPrefer : Bool} {hdr : TwinHdr} (h : Cold κ s) :
    OutCold κ (execTwinLinkUp t lanes serial peerPrefer hdr s) :=
  cold_next (onEvent_cold h (fun h₁ => cold_ite h₁ (linkRole_cold (peerEvent_cold (noteFrame_cold
    (setFlag_cold (cold_upd (wr_cold (wr_cold (wr_cold (cold_ite h₁ (incSat_cold h₁))))))))))))

theorem execTwinLinkDown_cold (h : Cold κ s) : OutCold κ (execTwinLinkDown t s) :=
  cold_next (onEvent_cold h (fun h₁ => cold_ite h₁ (peerEvent_cold (noteReady_cold (cold_upd (wr_cold
    (wr_cold (wr_cold h₁))))))))

theorem execTwinPairTimeout_cold (h : Cold κ s) : OutCold κ (execTwinPairTimeout t s) :=
  cold_next (onEvent_cold h (fun h₁ => cold_ite (setRole_cold h₁) h₁))

theorem execTwinCopyFreeze_cold {hdr : TwinHdr} {kib : Nat} (h : Cold κ s) :
    OutCold κ (execTwinCopyFreeze t hdr crc kib s) :=
  cold_next (onEvent_cold h (fun h₁ => cold_ite (cold_upd (wr_cold (noteFrame_cold h₁))) h₁))

theorem execTwinCopyRx_cold {copy : TwinCopy} {kib : Nat} {hdr : TwinHdr} (h : Cold κ s) :
    OutCold κ (execTwinCopyRx t copy whole kib hdr s) :=
  cold_next (onEvent_cold h (fun h₁ => cold_ite (cold_ite (noteFrame_cold h₁) (noteReady_cold (cold_upd
    (cold_upd (wr_cold (noteFrame_cold h₁)))))) h₁))

theorem execTwinCopyDeadline_cold (h : Cold κ s) : OutCold κ (execTwinCopyDeadline t crc s) :=
  cold_next (onEvent_cold h (fun h₁ => cold_ite h₁ (cold_ite (cold_upd (addSat_cold h₁)) (cold_ite
    (noteReady_cold (cold_upd (incSat_cold (cold_upd (addSat_cold h₁))))) (raise_cold (cold_upd
    (noteReady_cold (cold_upd (incSat_cold (cold_upd (addSat_cold h₁)))))))))))

theorem execTwinGiveup_cold (h : Cold κ s) : OutCold κ (execTwinGiveup t cause s) :=
  cold_next (onEvent_cold h (fun h₁ => cold_ite (giveUp_cold h₁) h₁))

theorem execTwinActInFall_cold (h : Cold κ s) : OutCold κ (execTwinActInFall t s) := by
  unfold execTwinActInFall
  refine cold_next (onEvent_cold h (fun h₁ => ?_))
  extract_lets s₂
  have h₂ : Cold κ s₂ := cold_upd h₁
  refine cold_ite ?_ (cold_ite (linkRole_cold h₂) h₂)
  split
  · exact setRole_cold (loadCopy_cold h₂)
  · exact setRole_cold h₂

theorem execTwinActInRise_cold (h : Cold κ s) : OutCold κ (execTwinActInRise t s) :=
  cold_next (onEvent_cold h (fun h₁ => cold_ite twinRelease_cold (cold_ite (setRole_cold
    (cold_upd h₁)) (cold_upd h₁))))

theorem execTwinActConflict_cold (h : Cold κ s) : OutCold κ (execTwinActConflict t s) := by
  unfold execTwinActConflict
  refine cold_next (onEvent_cold h (fun h₁ => ?_))
  split
  · exact cold_ite twinRelease_cold h₁
  · exact h₁

theorem execTwinTakeoverDone_cold (h : Cold κ s) : OutCold κ (execTwinTakeoverDone t s) :=
  cold_next (onEvent_cold h (fun h₁ => cold_ite (takeOverDone_cold h₁) h₁))

theorem execTwinForwardedStop_cold (h : Cold κ s) : OutCold κ (execTwinForwardedStop t op mask s) :=
  cold_next (onEvent_cold h (fun h₁ => cold_ite h₁ (cold_ite (cold_upd (sessionStop_cold h₁)) (cold_ite
    (cold_upd (outErem_cold h₁)) h₁))))

theorem execTwinQuery_cold (h : Cold κ s) : OutCold κ (execTwinQuery x s) :=
  cold_next (command_cold h complete_cold)

theorem execTwinSwitch_cold (h : Cold κ s) : OutCold κ (execTwinSwitch x s) :=
  cold_next (command_cold h (fun h₁ => cold_ite (complete_cold h₁) (cold_ite (complete_cold h₁)
    (cold_ite (complete_cold h₁) (finalise_cold (giveUp_cold (complete_cold h₁)))))))

theorem execTwinRejoin_cold (h : Cold κ s) : OutCold κ (execTwinRejoin x s) :=
  cold_next (command_cold h (fun h₁ => cold_ite (complete_cold h₁) (cold_ite (complete_cold h₁)
    (complete_cold (setRole_cold (cold_upd h₁))))))

/-- The commands in whose course a coil may begin to conduct. -/
def mayEnergise : Instr → Prop
  | .startUp .. | .caskApply .. | .coilPullinStart .. | .darkTestPulse .. | .darkTestEnd .. | .controlCycleStart .. => True
  | _ => False

/-- A coil that does not conduct stays so along every other command, by the law of its own meaning. -/
theorem exec_cold (c : Instr) (hc : ¬mayEnergise c) (h : Cold κ s) : OutCold κ (exec c s) :=
  match c, hc with
  | .startUp .., hc => absurd trivial hc
  | .caskApply .., hc => absurd trivial hc
  | .coilPullinStart .., hc => absurd trivial hc
  | .darkTestPulse .., hc => absurd trivial hc
  | .darkTestEnd .., hc => absurd trivial hc
  | .controlCycleStart .., hc => absurd trivial hc
  | .islandCrossing .., _ => execIslandCrossing_cold h
  | .linkTimeout .., _ => execLinkTimeout_cold h
  | .rtcSecondEdge .., _ => execRtcSecondEdge_cold h
  | .outputStagingDeadline .., _ => execOutputStagingDeadline_cold h
  | .aCheckDeadline .., _ => execACheckDeadline_cold h
  | .configRequest .., _ => execConfigRequest_cold h
  | .perstRelease .., _ => execPerstRelease_cold h
  | .hostDetach .., _ => execHostDetach_cold h
  | .hostAttach .., _ => execHostAttach_cold h
  | .ringRegisterWrite .., _ => execRingRegisterWrite_cold h
  | .doorbellPoll .., _ => execDoorbellPoll_cold h
  | .kick .., _ => execKick_cold h
  | .stopCompletionRelease .., _ => execStopCompletionRelease_cold h
  | .evrGap .., _ => execEvrGap_cold h
  | .notifDataRead .., _ => execNotifDataRead_cold h
  | .latchingRead .., _ => execLatchingRead_cold h
  | .streamBufferFill .., _ => execStreamBufferFill_cold h
  | .ringCreate .., _ => execRingCreate_cold h
  | .ringDestroy .., _ => execRingDestroy_cold h
  | .journalFetch .., _ => execJournalFetch_cold h
  | .statusQuery .., _ => execStatusQuery_cold h
  | .regWrite .., _ => execRegWrite_cold h
  | .echo .., _ => execEcho_cold h
  | .caskOpen .., _ => execCaskOpen_cold h
  | .caskAction .., _ => execCaskAction_cold h
  | .caskPrepare .., _ => execCaskPrepare_cold h
  | .caskValidationDone .., _ => execCaskValidationDone_cold h
  | .caskCommit .., _ => execCaskCommit_cold h
  | .caskAbort .., _ => execCaskAbort_cold h
  | .caskQuery .., _ => execCaskQuery_cold h
  | .funcDisable .., _ => execFuncDisable_cold h
  | .funcDisableDone .., _ => execFuncDisableDone_cold h
  | .caskOpenTimeout .., _ => execCaskOpenTimeout_cold h
  | .caskPreparedTimeout .., _ => execCaskPreparedTimeout_cold h
  | .caskRecordWrite .., _ => execCaskRecordWrite_cold h
  | .caskSyncEdge .., _ => execCaskSyncEdge_cold h
  | .caskSyncTimeout .., _ => execCaskSyncTimeout_cold h
  | .caskRetract .., _ => execCaskRetract_cold h
  | .pilotStateAccept .., _ => execPilotStateAccept_cold h
  | .pilotDiodeFault .., _ => execPilotDiodeFault_cold h
  | .pilotPwmPeriod .., _ => execPilotPwmPeriod_cold h
  | .proximityRead .., _ => execProximityRead_cold h
  | .authTimeout .., _ => execAuthTimeout_cold h
  | .hlcMessage .., _ => execHlcMessage_cold h
  | .hlcTimeout .., _ => execHlcTimeout_cold h
  | .slacParmReq .., _ => execSlacParmReq_cold h
  | .startAttenChar .., _ => execStartAttenChar_cold h
  | .mnbcSound .., _ => execMnbcSound_cold h
  | .slacWindowClose .., _ => execSlacWindowClose_cold h
  | .slacValidate .., _ => execSlacValidate_cold h
  | .slacMatchReq .., _ => execSlacMatchReq_cold h
  | .slacMatchTimeout .., _ => execSlacMatchTimeout_cold h
  | .slacInitTimeout .., _ => execSlacInitTimeout_cold h
  | .preauthTimeout .., _ => execPreauthTimeout_cold h
  | .pmStatusFrame .., _ => execPmStatusFrame_cold h
  | .pmIdentFrame .., _ => execPmIdentFrame_cold h
  | .pmFaultFrame .., _ => execPmFaultFrame_cold h
  | .pmLost .., _ => execPmLost_cold h
  | .setpointSend .., _ => execSetpointSend_cold h
  | .pmSyncSend .., _ => execPmSyncSend_cold h
  | .allocatorRun .., _ => execAllocatorRun_cold h
  | .trellisLimitExpiry .., _ => execTrellisLimitExpiry_cold h
  | .enforcementGraceEnd .., _ => execEnforcementGraceEnd_cold h
  | .allocMaxWait .., _ => execAllocMaxWait_cold h
  | .outConfig .., _ => execOutConfig_cold h
  | .outAvailability .., _ => execOutAvailability_cold h
  | .sessionAuthorise .., _ => execSessionAuthorise_cold h
  | .sessionStop .., _ => execSessionStop_cold h
  | .outErem .., _ => execOutErem_cold h
  | .outSiteLimit .., _ => execOutSiteLimit_cold h
  | .sessionSetClass .., _ => execSessionSetClass_cold h
  | .sessionQuery .., _ => execSessionQuery_cold h
  | .outSelect .., _ => execOutSelect_cold h
  | .outContactor .., _ => execOutContactor_cold h
  | .outPilotDuty .., _ => execOutPilotDuty_cold h
  | .outPmSetpoint .., _ => execOutPmSetpoint_cold h
  | .outCertResponse .., _ => execOutCertResponse_cold h
  | .hslCycle .., _ => execHslCycle_cold h
  | .hslTableCheck .., _ => execHslTableCheck_cold h
  | .hslWatchdogExpiry .., _ => execHslWatchdogExpiry_cold h
  | .bHeartbeat .., _ => execBHeartbeat_cold h
  | .bHeartbeatLoss .., _ => execBHeartbeatLoss_cold h
  | .channelDiscrepancy .., _ => execChannelDiscrepancy_cold h
  | .safetySelftestDone .., _ => execSafetySelftestDone_cold h
  | .coilPullinEnd .., _ => execCoilPullinEnd_cold h
  | .coilOpen .., _ => execCoilOpen_cold h
  | .coilShort .., _ => execCoilShort_cold h
  | .weldCheck .., _ => execWeldCheck_cold h
  | .shuntTripEnd .., _ => execShuntTripEnd_cold h
  | .shuntTripRepeat .., _ => execShuntTripRepeat_cold h
  | .coilUncontrol .., _ => execCoilUncontrol_cold h
  | .estopSourcePulse .., _ => execEstopSourcePulse_cold h
  | .estopOpen .., _ => execEstopOpen_cold h
  | .estopDisc .., _ => execEstopDisc_cold h
  | .safeInChange .., _ => execSafeInChange_cold h
  | .rcmReading .., _ => execRcmReading_cold h
  | .rcmSelftestRun .., _ => execRcmSelftestRun_cold h
  | .rcmSensorRange .., _ => execRcmSensorRange_cold h
  | .rcmPrewarn .., _ => execRcmPrewarn_cold h
  | .imdResult .., _ => execImdResult_cold h
  | .cableCheckTimeout .., _ => execCableCheckTimeout_cold h
  | .safeStatePilotEnd .., _ => execSafeStatePilotEnd_cold h
  | .resetSafeEdge .., _ => execResetSafeEdge_cold h
  | .safeQuery .., _ => execSafeQuery_cold h
  | .safeTestNow .., _ => execSafeTestNow_cold h
  | .rcmSelftest .., _ => execRcmSelftest_cold h
  | .imdMeasure .., _ => execImdMeasure_cold h
  | .chOverload .., _ => execChOverload_cold h
  | .mbsLost .., _ => execMbsLost_cold h
  | .mbsRestored .., _ => execMbsRestored_cold h
  | .auxSeqDue .., _ => execAuxSeqDue_cold h
  | .auxConversionDone .., _ => execAuxConversionDone_cold h
  | .afeSeqLoad .., _ => execAfeSeqLoad_cold h
  | .afeSeqEn .., _ => execAfeSeqEn_cold h
  | .afeAuxOneshot .., _ => execAfeAuxOneshot_cold h
  | .afeCalZero .., _ => execAfeCalZero_cold h
  | .afeCalSpan .., _ => execAfeCalSpan_cold h
  | .afeCalRestore .., _ => execAfeCalRestore_cold h
  | .afeCapture .., _ => execAfeCapture_cold h
  | .afeCaptureStop .., _ => execAfeCaptureStop_cold h
  | .trkPeriod .., _ => execTrkPeriod_cold h
  | .trkCrossingTimeout .., _ => execTrkCrossingTimeout_cold h
  | .trkHoldExpiry .., _ => execTrkHoldExpiry_cold h
  | .trkSourceAbsent .., _ => execTrkSourceAbsent_cold h
  | .gridCycleStart .., _ => execGridCycleStart_cold h
  | .settlingEnd .., _ => execSettlingEnd_cold h
  | .blendStart .., _ => execBlendStart_cold h
  | .blendDone .., _ => execBlendDone_cold h
  | .filtQuery .., _ => execFiltQuery_cold h
  | .filtBlend .., _ => execFiltBlend_cold h
  | .trkQuery .., _ => execTrkQuery_cold h
  | .filtRestart .., _ => execFiltRestart_cold h
  | .metWindowEnd .., _ => execMetWindowEnd_cold h
  | .demandSecondRecord .., _ => execDemandSecondRecord_cold h
  | .pqHalfCycle .., _ => execPqHalfCycle_cold h
  | .pulseStart .., _ => execPulseStart_cold h
  | .pulseEnd .., _ => execPulseEnd_cold h
  | .tcRead .., _ => execTcRead_cold h
  | .metSessionCloseFinal .., _ => execMetSessionCloseFinal_cold h
  | .metCalMeasureDone .., _ => execMetCalMeasureDone_cold h
  | .metQuery .., _ => execMetQuery_cold h
  | .metSessionOpen .., _ => execMetSessionOpen_cold h
  | .metSessionClose .., _ => execMetSessionClose_cold h
  | .metCalMeasure .., _ => execMetCalMeasure_cold h
  | .metCalApply .., _ => execMetCalApply_cold h
  | .metPulseCfg .., _ => execMetPulseCfg_cold h
  | .metHarmRead .., _ => execMetHarmRead_cold h
  | .metWaveCapture .., _ => execMetWaveCapture_cold h
  | .metWaveStop .., _ => execMetWaveStop_cold h
  | .ledgerCommit .., _ => execLedgerCommit_cold h
  | .recordSign .., _ => execRecordSign_cold h
  | .vfail .., _ => execVfail_cold h
  | .vinReturn .., _ => execVinReturn_cold h
  | .converterRailFall .., _ => execConverterRailFall_cold h
  | .tariffSwitch .., _ => execTariffSwitch_cold h
  | .calendarActivate .., _ => execCalendarActivate_cold h
  | .demandBoundary .., _ => execDemandBoundary_cold h
  | .boundaryTransaction .., _ => execBoundaryTransaction_cold h
  | .syncWindowExpiry .., _ => execSyncWindowExpiry_cold h
  | .sealIdle .., _ => execSealIdle_cold h
  | .legalSealChange .., _ => execLegalSealChange_cold h
  | .calExpiry .., _ => execCalExpiry_cold h
  | .legalBtnPress .., _ => execLegalBtnPress_cold h
  | .legalDisplayTimeout .., _ => execLegalDisplayTimeout_cold h
  | .ledgerQuery .., _ => execLedgerQuery_cold h
  | .ledgerSessionRecord .., _ => execLedgerSessionRecord_cold h
  | .ledgerTariffSelect .., _ => execLedgerTariffSelect_cold h
  | .ledgerReadSigned .., _ => execLedgerReadSigned_cold h
  | .ledgerRecordFetch .., _ => execLedgerRecordFetch_cold h
  | .ledgerTimeSet .., _ => execLedgerTimeSet_cold h
  | .ledgerCalendarLoad .., _ => execLedgerCalendarLoad_cold h
  | .ledgerBillingClose .., _ => execLedgerBillingClose_cold h
  | .ledgerBillingRead .., _ => execLedgerBillingRead_cold h
  | .ledgerCalChallenge .., _ => execLedgerCalChallenge_cold h
  | .ledgerCalOpen .., _ => execLedgerCalOpen_cold h
  | .ledgerCalClose .., _ => execLedgerCalClose_cold h
  | .ledgerLegalId .., _ => execLedgerLegalId_cold h
  | .ledgerAckLoss .., _ => execLedgerAckLoss_cold h
  | .plcFrameRx .., _ => execPlcFrameRx_cold h
  | .superframeStart .., _ => execSuperframeStart_cold h
  | .beaconRx .., _ => execBeaconRx_cold h
  | .syncInEdge .., _ => execSyncInEdge_cold h
  | .trellisTx .., _ => execTrellisTx_cold h
  | .ack .., _ => execAck_cold h
  | .trellisAckTimeout .., _ => execTrellisAckTimeout_cold h
  | .joinReq .., _ => execJoinReq_cold h
  | .joinResult .., _ => execJoinResult_cold h
  | .lqReport .., _ => execLqReport_cold h
  | .siteLimit .., _ => execSiteLimit_cold h
  | .time .., _ => execTime_cold h
  | .hostData .., _ => execHostData_cold h
  | .imageOffer .., _ => execImageOffer_cold h
  | .imageReq .., _ => execImageReq_cold h
  | .imageBlock .., _ => execImageBlock_cold h
  | .imageBlockExpiry .., _ => execImageBlockExpiry_cold h
  | .trellisBeaconTimeout .., _ => execTrellisBeaconTimeout_cold h
  | .trellisJoinTimeout .., _ => execTrellisJoinTimeout_cold h
  | .trellisJoinBackoffEnd .., _ => execTrellisJoinBackoffEnd_cold h
  | .trellisNodeTimeout .., _ => execTrellisNodeTimeout_cold h
  | .lqReportSend .., _ => execLqReportSend_cold h
  | .siteLimitRepeat .., _ => execSiteLimitRepeat_cold h
  | .timeSend .., _ => execTimeSend_cold h
  | .imageOfferSend .., _ => execImageOfferSend_cold h
  | .trellisEnable .., _ => execTrellisEnable_cold h
  | .plcQuery .., _ => execPlcQuery_cold h
  | .trellisSend .., _ => execTrellisSend_cold h
  | .trellisLimitSend .., _ => execTrellisLimitSend_cold h
  | .trellisLqRead .., _ => execTrellisLqRead_cold h
  | .trellisRestart .., _ => execTrellisRestart_cold h
  | .pufRetry .., _ => execPufRetry_cold h
  | .riddle .., _ => execRiddle_cold h
  | .drbgReseed .., _ => execDrbgReseed_cold h
  | .entropyFail .., _ => execEntropyFail_cold h
  | .entropyRetest .., _ => execEntropyRetest_cold h
  | .keySelftestDone .., _ => execKeySelftestDone_cold h
  | .credVerifyDone .., _ => execCredVerifyDone_cold h
  | .flashBlockFail .., _ => execFlashBlockFail_cold h
  | .keyQuery .., _ => execKeyQuery_cold h
  | .keyNodeQuery .., _ => execKeyNodeQuery_cold h
  | .keyInvalidate .., _ => execKeyInvalidate_cold h
  | .keyRederive .., _ => execKeyRederive_cold h
  | .keyInstall .., _ => execKeyInstall_cold h
  | .keyOwnerSet .., _ => execKeyOwnerSet_cold h
  | .keyAnchorInstall .., _ => execKeyAnchorInstall_cold h
  | .keyCsr .., _ => execKeyCsr_cold h
  | .keyCertInstall .., _ => execKeyCertInstall_cold h
  | .keyAttest .., _ => execKeyAttest_cold h
  | .keyAttestCert .., _ => execKeyAttestCert_cold h
  | .keySelftest .., _ => execKeySelftest_cold h
  | .credLoadBegin .., _ => execCredLoadBegin_cold h
  | .credLoadData .., _ => execCredLoadData_cold h
  | .credLoadCommit .., _ => execCredLoadCommit_cold h
  | .credLoadAbort .., _ => execCredLoadAbort_cold h
  | .credUpdate .., _ => execCredUpdate_cold h
  | .credLookup .., _ => execCredLookup_cold h
  | .rdr0Poll .., _ => execRdr0Poll_cold h
  | .cableRead .., _ => execCableRead_cold h
  | .cableWrite .., _ => execCableWrite_cold h
  | .ownTagFieldOn .., _ => execOwnTagFieldOn_cold h
  | .ownTagFieldLost .., _ => execOwnTagFieldLost_cold h
  | .ownTagFieldRead .., _ => execOwnTagFieldRead_cold h
  | .ownTagFieldWrite .., _ => execOwnTagFieldWrite_cold h
  | .presentPwd .., _ => execPresentPwd_cold h
  | .ownTagMam1 .., _ => execOwnTagMam1_cold h
  | .tagQuery .., _ => execTagQuery_cold h
  | .tagCableRead .., _ => execTagCableRead_cold h
  | .tagCableInit .., _ => execTagCableInit_cold h
  | .tagCableRetire .., _ => execTagCableRetire_cold h
  | .tagOwnRead .., _ => execTagOwnRead_cold h
  | .tagOwnWrite .., _ => execTagOwnWrite_cold h
  | .dispTempStale .., _ => execDispTempStale_cold h
  | .dispFrameStart .., _ => execDispFrameStart_cold h
  | .dispRegionDone .., _ => execDispRegionDone_cold h
  | .epdPwrGoodRise .., _ => execEpdPwrGoodRise_cold h
  | .dispPwrTimeout .., _ => execDispPwrTimeout_cold h
  | .epdPwrGoodLoss .., _ => execEpdPwrGoodLoss_cold h
  | .dispPwrOff .., _ => execDispPwrOff_cold h
  | .vintageSave .., _ => execVintageSave_cold h
  | .segSense .., _ => execSegSense_cold h
  | .segFrame .., _ => execSegFrame_cold h
  | .legalSilent .., _ => execLegalSilent_cold h
  | .dispQuery .., _ => execDispQuery_cold h
  | .dispImageLoad .., _ => execDispImageLoad_cold h
  | .dispUpdate .., _ => execDispUpdate_cold h
  | .dispTempSet .., _ => execDispTempSet_cold h
  | .dispVintageRead .., _ => execDispVintageRead_cold h
  | .dispVintageReset .., _ => execDispVintageReset_cold h
  | .lswTrip .., _ => execLswTrip_cold h
  | .inrushEnd .., _ => execInrushEnd_cold h
  | .lswRetry .., _ => execLswRetry_cold h
  | .lswCoolRestart .., _ => execLswCoolRestart_cold h
  | .retriesReload .., _ => execRetriesReload_cold h
  | .quadHot .., _ => execQuadHot_cold h
  | .quadCool .., _ => execQuadCool_cold h
  | .quadRestartStep .., _ => execQuadRestartStep_cold h
  | .lswPwmPeriod .., _ => execLswPwmPeriod_cold h
  | .lswOpenOn .., _ => execLswOpenOn_cold h
  | .lswOpenOff .., _ => execLswOpenOff_cold h
  | .lswBudgetWindow .., _ => execLswBudgetWindow_cold h
  | .vlsUndervoltage .., _ => execVlsUndervoltage_cold h
  | .vlsRestored .., _ => execVlsRestored_cold h
  | .lswSet .., _ => execLswSet_cold h
  | .lswClear .., _ => execLswClear_cold h
  | .lswQuery .., _ => execLswQuery_cold h
  | .lswConfig .., _ => execLswConfig_cold h
  | .lswBankPwm .., _ => execLswBankPwm_cold h
  | .updBegin .., _ => execUpdBegin_cold h
  | .updBlock .., _ => execUpdBlock_cold h
  | .updStatus .., _ => execUpdStatus_cold h
  | .updActivate .., _ => execUpdActivate_cold h
  | .updConfirm .., _ => execUpdConfirm_cold h
  | .updRevert .., _ => execUpdRevert_cold h
  | .updAbort .., _ => execUpdAbort_cold h
  | .updPolicy .., _ => execUpdPolicy_cold h
  | .updVerifyDone .., _ => execUpdVerifyDone_cold h
  | .updLockIdle .., _ => execUpdLockIdle_cold h
  | .updActivationFlip .., _ => execUpdActivationFlip_cold h
  | .updActivateTimeout .., _ => execUpdActivateTimeout_cold h
  | .trialTimeSave .., _ => execTrialTimeSave_cold h
  | .updAutoConfirm .., _ => execUpdAutoConfirm_cold h
  | .trialTimeout .., _ => execTrialTimeout_cold h
  | .svcBegin .., _ => execSvcBegin_cold h
  | .svcBlock .., _ => execSvcBlock_cold h
  | .svcActivate .., _ => execSvcActivate_cold h
  | .svcStatus .., _ => execSvcStatus_cold h
  | .svcAbort .., _ => execSvcAbort_cold h
  | .svcConfirm .., _ => execSvcConfirm_cold h
  | .svcRevert .., _ => execSvcRevert_cold h
  | .svcBadFrame .., _ => execSvcBadFrame_cold h
  | .twinLinkUp .., _ => execTwinLinkUp_cold h
  | .twinLinkDown .., _ => execTwinLinkDown_cold h
  | .twinPairTimeout .., _ => execTwinPairTimeout_cold h
  | .twinCopyFreeze .., _ => execTwinCopyFreeze_cold h
  | .twinCopyRx .., _ => execTwinCopyRx_cold h
  | .twinCopyDeadline .., _ => execTwinCopyDeadline_cold h
  | .twinGiveup .., _ => execTwinGiveup_cold h
  | .twinActInFall .., _ => execTwinActInFall_cold h
  | .twinActInRise .., _ => execTwinActInRise_cold h
  | .twinActConflict .., _ => execTwinActConflict_cold h
  | .twinTakeoverDone .., _ => execTwinTakeoverDone_cold h
  | .twinQuery .., _ => execTwinQuery_cold h
  | .twinSwitch .., _ => execTwinSwitch_cold h
  | .twinRejoin .., _ => execTwinRejoin_cold h
  | .vinValid t .., _ => execVinValid_cold (t := t) h
  | .earlyVinLoss t .., _ => execEarlyVinLoss_cold (t := t) h
  | .railOutOfLimits .., _ => execRailOutOfLimits_cold h
  | .railRestored .., _ => execRailRestored_cold h
  | .tempLevelChange .., _ => execTempLevelChange_cold h
  | .procMonSample .., _ => execProcMonSample_cold h
  | .tamperInput .., _ => execTamperInput_cold h
  | .xtal32Fail .., _ => execXtal32Fail_cold h
  | .xtal49Fail .., _ => execXtal49Fail_cold h
  | .xtal49Return .., _ => execXtal49Return_cold h
  | .xtal25Fail .., _ => execXtal25Fail_cold h
  | .meterWake .., _ => execMeterWake_cold h
  | .pwrQuery .., _ => execPwrQuery_cold h
  | .pwrMode .., _ => execPwrMode_cold h
  | .pwrIdent .., _ => execPwrIdent_cold h
  | .setupLock .., _ => execSetupLock_cold h
  | .settingsSaved .., _ => execSettingsSaved_cold h
  | .alertWrite .., _ => execAlertWrite_cold h
  | .registerWrite .., _ => execRegisterWrite_cold h
  | .xtal32Return .., _ => execXtal32Return_cold h
  | .refclkReturn .., _ => execRefclkReturn_cold h
  | .resetToReady .., _ => execResetToReady_cold h
  | .twinForwardedStop .., _ => execTwinForwardedStop_cold h

/-- Settles O10: a coil that does not conduct stays so along every command but those named (`exec_cold`). -/
theorem coilsEnergised : Obligations.CoilsEnergised := by
  unfold Obligations.CoilsEnergised
  intro s u c k e hoff hon
  by_contra hc
  exact Bool.false_ne_true ((exec_cold c hc hoff u e).symm.trans hon)

end Sys2Proof.Machine
end

section
/-! SUPPORT. The outlet controllers under the operations they share: a controller that is changed, the change of a session's
state (R98), the pilot that is offered (R93), and what leaves a controller as it is. -/

namespace Sys2Proof.Machine
namespace State

variable {s t : State}

/-! ### One controller -/

theorem outlet_congr (h : t.out = s.out) (n : Nat) : t.outlet n = s.outlet n := by
  rw [outlet, h]
  rfl

theorem outlet_modOutlet (n m : Nat) (f : Outlet → Outlet) :
    (s.modOutlet n f).outlet m = if m = n then f (s.outlet n) else s.outlet m := by
  simp only [outlet, modOutlet, Tab.upd, Tab.get_put]

@[simp] theorem outlet_modOutlet_same (n : Nat) (f : Outlet → Outlet) : (s.modOutlet n f).outlet n = f (s.outlet n) :=
  (outlet_modOutlet n n f).trans (if_pos rfl)

@[simp] theorem modOutlet_rd (n : Nat) (f : Outlet → Outlet) (F : Fld) (m : Nat) :
    (s.modOutlet n f).rd F m = s.rd F m := rfl
@[simp] theorem modOutlet_slac (n : Nat) (f : Outlet → Outlet) : (s.modOutlet n f).out.slac = s.out.slac := rfl
@[simp] theorem wr_outlet (F : Fld) (n v m : Nat) : (s.wr F n v).outlet m = s.outlet m := rfl
@[simp] theorem raise_outlet (c i : Nat) (p : List Nat) (m : Nat) : (s.raise c i p).outlet m = s.outlet m :=
  outlet_congr (raise_out c i p) m
@[simp] theorem complete_outlet (x : Ctx) (st r m : Nat) : (s.complete x st r).outlet m = s.outlet m :=
  outlet_congr (complete_out x st r) m

/-! ### A session's state -/

theorem noteCounts_eq (s : State) (n : Nat) : s.noteCounts n = { s with ledger := (s.noteCounts n).ledger } := by
  unfold noteCounts
  extract_lets o
  split <;> rfl

@[simp] theorem noteCounts_out (n : Nat) : (s.noteCounts n).out = s.out := by rw [noteCounts_eq]
@[simp] theorem noteCounts_host (n : Nat) : (s.noteCounts n).host = s.host := by rw [noteCounts_eq]
@[simp] theorem noteCounts_rd (n : Nat) (G : Fld) (m : Nat) : (s.noteCounts n).rd G m = s.rd G m := by
  rw [noteCounts_eq]
  rfl

theorem ownWrites_eq (s : State) (b : Nat) (ps : List (Nat × Nat)) :
    forEach ps (fun p s => s.ownWrite (b + p.2) p.1 true) s =
      { s with tag := (forEach ps (fun p s => s.ownWrite (b + p.2) p.1 true) s).tag } := by
  unfold forEach
  induction ps generalizing s with
  | nil => rfl
  | cons p ps ih => exact ih _

theorem ownStatus_eq (s : State) (n : Nat) : s.ownStatus n = { s with tag := (s.ownStatus n).tag } := by
  unfold ownStatus
  extract_lets o imp ws
  split
  · rfl
  · exact ownWrites_eq s _ _

@[simp] theorem ownStatus_out (n : Nat) : (s.ownStatus n).out = s.out := by rw [ownStatus_eq]
@[simp] theorem ownStatus_host (n : Nat) : (s.ownStatus n).host = s.host := by rw [ownStatus_eq]
@[simp] theorem ownStatus_rd (n : Nat) (G : Fld) (m : Nat) : (s.ownStatus n).rd G m = s.rd G m := by
  rw [ownStatus_eq]
  rfl

theorem forEach_one {α σ : Type} (f : α → σ → σ) (a : α) (s : σ) : forEach [a] f s = f a s := rfl

/-- What each step of a loop leaves as it is, the loop does. -/
theorem forEach_keeps {α β : Type} {f : α → State → State} (g : State → β) (hf : ∀ x s, g (f x s) = g s) (xs : List α)
    {s : State} : g (forEach xs f s) = g s := by
  unfold forEach
  induction xs generalizing s with
  | nil => rfl
  | cons x xs ih => exact ih.trans (hf x s)

@[simp] theorem plcFollow_out (n : Nat) : (s.plcFollow n).out = s.out := by
  unfold plcFollow
  extract_lets old new s₁
  split
  · rfl
  · exact raise_out _ _ _

@[simp] theorem plcFollow_destroys (n : Nat) : (s.plcFollow n).host.destroys = s.host.destroys := by
  unfold plcFollow
  extract_lets old new s₁
  split
  · rfl
  · exact raise_destroys _ _ _

@[simp] theorem plcFollowAll_out : s.plcFollowAll.out = s.out :=
  forEach_keeps State.out (fun n _ => plcFollow_out n) _

/-- The fields that a pilot modem's link can change, with the event it raises (R329, R332). -/
def linkIds : List Nat := [R.PLC_CFG_EN.id, R.AFE_PADC_EN.id, R.PLC_STAT_LINK.id] ++ raiseIds

theorem plcFollow_rd (n : Nat) (G : Fld) (m : Nat) (h : G.id ∉ linkIds) : (s.plcFollow n).rd G m = s.rd G m := by
  simp only [linkIds, List.mem_append, List.mem_cons, List.not_mem_nil, or_false, not_or] at h
  obtain ⟨⟨hen, hadc, hlink⟩, hraise⟩ := h
  unfold plcFollow
  extract_lets old new s₁
  have h₁ : s₁.rd G m = s.rd G m := (rd_wr_ne _ _ _ _ _ hadc).trans (rd_wr_ne _ _ _ _ _ hen)
  split
  · exact h₁
  · rw [raise_rd _ _ _ _ _ hraise, rd_wr_ne _ _ _ _ _ hlink, h₁]

/-- Entering a state changes no controller but the outlet's own, and there the state and the end reason alone (R98). -/
theorem setSess_out (n : Nat) (new : SessState) (reason flags : Nat) : (s.setSess n new reason flags).out =
    (s.modOutlet n fun o => { o with st := new, endReason := if reason = 0 then o.endReason else reason }).out := by
  unfold setSess
  extract_lets o s₁ s₂ s₃
  have h₂ : s₂.out = s₁.out := by
    unfold s₂
    split <;> rfl
  rw [plcFollow_out, ownStatus_out, noteCounts_out, raise_out, h₂]

@[simp] theorem setSess_outlet (n : Nat) (new : SessState) (reason flags : Nat) :
    (s.setSess n new reason flags).outlet n =
      { s.outlet n with st := new, endReason := if reason = 0 then (s.outlet n).endReason else reason } :=
  (outlet_congr (setSess_out n new reason flags) n).trans (outlet_modOutlet_same ..)

theorem setSess_rd (n : Nat) (new : SessState) (reason flags : Nat) (G : Fld) (m : Nat)
    (h : G.id ∉ R.OUT_STAT_END_REASON.id :: linkIds) : (s.setSess n new reason flags).rd G m = s.rd G m := by
  rw [List.mem_cons, not_or] at h
  obtain ⟨hreason, hlink⟩ := h
  have hraise : G.id ∉ raiseIds := fun hin => hlink (List.mem_append_right _ hin)
  unfold setSess
  extract_lets o s₁ s₂ s₃
  rw [plcFollow_rd _ _ _ hlink, ownStatus_rd, noteCounts_rd, raise_rd _ _ _ _ _ hraise]
  unfold s₂
  split
  · rfl
  · exact rd_wr_ne _ _ _ _ _ hreason

theorem setSess_destroys (n : Nat) (new : SessState) (reason flags : Nat) :
    (s.setSess n new reason flags).host.destroys = s.host.destroys := by
  unfold setSess
  extract_lets o s₁ s₂ s₃
  rw [plcFollow_destroys, ownStatus_host, noteCounts_host, raise_destroys]
  unfold s₂
  split <;> rfl

theorem setSess_endReason (n : Nat) (new : SessState) {reason : Nat} (flags : Nat) (h : 1 ≤ reason) (h' : reason < 256) :
    (s.setSess n new reason flags).rd R.OUT_STAT_END_REASON n = reason := by
  unfold setSess
  extract_lets o s₁ s₂ s₃
  have h₂ : s₂ = s₁.wr R.OUT_STAT_END_REASON n reason := if_neg (by omega)
  rw [plcFollow_rd _ _ _ (by decide), ownStatus_rd, noteCounts_rd, raise_rd _ _ _ _ _ (by decide), h₂, rd_wr_same]
  exact Nat.mod_eq_of_lt h'

/-! ### The pilot that is offered -/

/-- An offer stages the pilot's output, or finds it in force. -/
theorem offer_cases (n : Nat) (p : PilotOut) :
    s.offer n p = s ∨ s.offer n p = s.modOutlet n fun o => { o with outStaged := some p } := by
  unfold offer
  split
  · exact .inl rfl
  · exact .inr rfl

theorem offer_outlet (n : Nat) (p : PilotOut) :
    ∃ q, (s.offer n p).outlet n = { s.outlet n with outStaged := q } := by
  obtain h | h := offer_cases (s := s) n p
  · exact ⟨(s.outlet n).outStaged, by rw [h]⟩
  · exact ⟨some p, by rw [h, outlet_modOutlet_same]⟩

@[simp] theorem offer_rd (n : Nat) (p : PilotOut) (F : Fld) (m : Nat) : (s.offer n p).rd F m = s.rd F m := by
  obtain h | h := offer_cases (s := s) n p <;> rw [h]
  rfl

@[simp] theorem offer_host (n : Nat) (p : PilotOut) : (s.offer n p).host = s.host := by
  obtain h | h := offer_cases (s := s) n p <;> rw [h]
  rfl

@[simp] theorem offer_st (n m : Nat) (p : PilotOut) : ((s.offer n p).outlet m).st = (s.outlet m).st := by
  obtain h | h := offer_cases (s := s) n p <;> rw [h]
  rw [outlet_modOutlet]
  split
  · next hm => rw [hm]
  · rfl

/-- An ended session is in ENDED, with its reason shown (R98). -/
theorem endSession_ended (n : Nat) {r : Nat} (h : 1 ≤ r) (h' : r < 256) :
    ((s.endSession n r).outlet n).st = .ended ∧ (s.endSession n r).rd R.OUT_STAT_END_REASON n = r := by
  unfold endSession
  exact ⟨by rw [offer_st, setSess_outlet], by rw [offer_rd, setSess_endReason _ _ _ h h']⟩

end State
end Sys2Proof.Machine
end

section
/-! SUPPORT. The states of the sessions under the openings of contactors (R144, R148), the removal of energy (R72, R76,
R167) and the monitored stop (R165): none of them changes the state of a session. -/

namespace Sys2Proof.Machine
namespace State

variable {s s₀ t : State} {n : Nat}

/-! ### States of sessions that stay -/

/-- Every outlet's session is in the state it was in. -/
def SameSess (s₀ s : State) : Prop := ∀ m, (s.outlet m).st = (s₀.outlet m).st

theorem SameSess.refl (s : State) : SameSess s s := fun _ => rfl

theorem sameSess_out (e : t.out = s.out) (h : SameSess s₀ s) : SameSess s₀ t := fun m =>
  (congrArg Outlet.st (outlet_congr e m)).trans (h m)

theorem sameSess_ite {a b : State} {c : Prop} {inst : Decidable c} (ha : SameSess s₀ a) (hb : SameSess s₀ b) :
    SameSess s₀ (if c then a else b) := by
  split
  · exact ha
  · exact hb

theorem sameSess_modOutlet {f : Outlet → Outlet} (hf : ∀ o, (f o).st = o.st) (h : SameSess s₀ s) :
    SameSess s₀ (s.modOutlet n f) := by
  intro m
  rw [outlet_modOutlet]
  split
  · next hm => rw [hf, hm, h n]
  · exact h m

theorem sameSess_forEach {α : Type} {f : α → State → State} (hf : ∀ {x s}, SameSess s₀ s → SameSess s₀ (f x s))
    {xs : List α} {s : State} (h : SameSess s₀ s) : SameSess s₀ (forEach xs f s) := by
  unfold forEach
  induction xs generalizing s with
  | nil => exact h
  | cons x xs ih => exact ih (hf h)

theorem sameSess_wr {F : Fld} {m v : Nat} (h : SameSess s₀ s) : SameSess s₀ (s.wr F m v) := h

theorem sameSess_modOs {f : OutSafe → OutSafe} (h : SameSess s₀ s) : SameSess s₀ (s.modOs n f) := h

theorem sameSess_modCoil {f : Coil → Coil} (h : SameSess s₀ s) : SameSess s₀ (s.modCoil n f) := h

theorem sameSess_raise {c i : Nat} {p : List Nat} (h : SameSess s₀ s) : SameSess s₀ (s.raise c i p) :=
  sameSess_out (raise_out c i p) h

theorem sameSess_complete {x : Ctx} {st r : Nat} (h : SameSess s₀ s) : SameSess s₀ (s.complete x st r) :=
  sameSess_out (complete_out x st r) h

/-! ### Cable tags -/

theorem addJob_out (j : CableJob) : (s.addJob j).out = s.out := by
  unfold addJob
  split <;> rfl

theorem shadowGo_sameSess (h : SameSess s₀ s) : SameSess s₀ (s.shadowGo n) := by
  unfold shadowGo
  extract_lets was s₁ s₂
  have h₁ : SameSess s₀ s₁ := sameSess_out (addJob_out _) h
  exact sameSess_ite (sameSess_raise (sameSess_modOutlet (s := s₂) (fun _ => rfl) h₁)) h₁

theorem cableOpening_sameSess (h : SameSess s₀ s) : SameSess s₀ (s.cableOpening n) :=
  sameSess_ite h (shadowGo_sameSess (s := s.incSat R.TAG_CABLE_OPENINGS n) h)

/-! ### Openings -/

theorem noteOpening_sameSess (h : SameSess s₀ s) : SameSess s₀ (s.noteOpening n) := by
  unfold noteOpening
  extract_lets load on s₁ s₂
  have h₁ : SameSess s₀ s₁ := sameSess_ite (sameSess_forEach sameSess_wr h) h
  have h₂ : SameSess s₀ s₂ := sameSess_ite (cableOpening_sameSess h₁) h₁
  exact sameSess_ite h h₂

theorem pmOff_sameSess (h : SameSess s₀ s) : SameSess s₀ (s.pmOff n) :=
  sameSess_ite (sameSess_modOutlet (fun _ => rfl) h) h

theorem coilOff_sameSess {k demand : Nat} (h : SameSess s₀ s) : SameSess s₀ (s.coilOff k demand) := by
  unfold coilOff
  extract_lets c tested low s₁ s₂
  have h₂ : SameSess s₀ s₂ := sameSess_raise (s := s₁) h
  exact sameSess_modCoil (sameSess_ite h₂ h)

theorem openOutlet_sameSess {demand : Nat} (h : SameSess s₀ s) : SameSess s₀ (s.openOutlet n demand) :=
  sameSess_forEach coilOff_sameSess (pmOff_sameSess (noteOpening_sameSess h))

/-! ### Removal of energy -/

theorem dropClose_sameSess (h : SameSess s₀ s) : SameSess s₀ (s.dropClose n) :=
  sameSess_ite h (sameSess_forEach sameSess_complete (sameSess_modOutlet (fun _ => rfl) h))

theorem abortCask_sameSess {k status i l result : Nat} (h : SameSess s₀ s) :
    SameSess s₀ (s.abortCask k status i l result) := by
  unfold abortCask
  extract_lets c s₁ s₂ s₃
  have h₂ : SameSess s₀ s₂ := sameSess_raise (s := s₁) h
  have h₃ : SameSess s₀ s₃ := by
    unfold s₃
    split
    · exact sameSess_complete h₂
    · exact sameSess_out (finalise_out _ _) h₂
    · exact h₂
  exact h₃

theorem caskSafety_sameSess (h : SameSess s₀ s) : SameSess s₀ (s.caskSafety n) := by
  refine sameSess_forEach (fun {k s} h => ?_) (dropClose_sameSess h)
  simp only
  split
  · exact h
  · refine sameSess_ite (abortCask_sameSess h) (sameSess_ite ?_ h)
    split <;> exact h

theorem erem_sameSess {demand : Nat} (h : SameSess s₀ s) : SameSess s₀ (s.erem n demand) :=
  sameSess_modOs (caskSafety_sameSess (openOutlet_sameSess h))

/-! ### Monitored stops -/

theorem startCurrent_out (s : State) (n : Nat) : (s.startCurrent n).2.out = s.out := by
  unfold startCurrent
  split <;> rfl

theorem startMstop_out (s : State) (n reason : Nat) : (s.startMstop n reason).out = s.out := by
  unfold startMstop
  split
  · rfl
  · exact startCurrent_out s n

theorem offer_sameSess {p : PilotOut} (h : SameSess s₀ s) : SameSess s₀ (s.offer n p) := fun m =>
  (offer_st n m p).trans (h m)

theorem stopHosted_sameSess {reason : Nat} (h : SameSess s₀ s) : SameSess s₀ (s.stopHosted n reason) := by
  unfold stopHosted
  extract_lets s₁
  have h₁ : SameSess s₀ s₁ := sameSess_out (startMstop_out s n reason) h
  exact sameSess_ite h (sameSess_ite h₁ (offer_sameSess h₁))

/-- A pause that ends changes only what counts its time (R128). -/
theorem leavePause_outlet (s : State) (n : Nat) : ∃ total at_, (s.leavePause n).outlet n =
    { s.outlet n with pausedTotal := total, pausedAt := at_ } := by
  unfold leavePause
  split
  · exact ⟨_, _, (outlet_congr (noteCounts_out n) n).trans (outlet_modOutlet_same ..)⟩
  · exact ⟨_, _, rfl⟩

/-- A monitored stop of a session: it is STOPPING, with its end reason, and goes out of service after it where that was
asked for (R98, R100). -/
theorem stopSession_outlet (s : State) (n reason : Nat) : ((s.stopSession n reason).outlet n).st = .stopping ∧
    ((s.stopSession n reason).outlet n).endReason = reason ∧
    ((s.stopSession n reason).outlet n).oosAfter = (s.outlet n).oosAfter := by
  unfold stopSession
  extract_lets s₁ s₂
  obtain ⟨total, at_, hpause⟩ := leavePause_outlet s n
  have h₁ : s₁.outlet n = { (s.leavePause n).outlet n with
      endReason := reason, pauseOpenDue := none, queueNo := none, dcRamp := none } := outlet_modOutlet_same ..
  have h₂ : s₂.outlet n = { (s₁.startMstop n reason).outlet n with st := .stopping } := by
    rw [setSess_outlet, if_pos rfl]
  rw [outlet_congr (startMstop_out s₁ n reason), h₁, hpause] at h₂
  split
  · rw [h₂]
    exact ⟨rfl, rfl, rfl⟩
  · split
    · rw [h₂]
      exact ⟨rfl, rfl, rfl⟩
    · obtain ⟨q, hq⟩ := offer_outlet (s := s₂) n .plus12
      rw [hq, h₂]
      exact ⟨rfl, rfl, rfl⟩

end State
end Sys2Proof.Machine
end

section
/-! SUPPORT and PROOFS. The OUT and SESSION commands (R87 to R89, R98, R100, R104, R112, R113, R117, R122, R123, R167): what
each does where it is taken, and the statuses that turn it away. -/

namespace Sys2Proof.Machine
namespace State

variable {s t : State} {x : Ctx} {n : Nat}

/-- A ring command that is no Cask action and completes ends with its completion, where no destroy of a ring has begun
to wait. -/
theorem command_completes {op inst st r : Nat} {f : State → State} {u : State}
    (h : (s.advance x.t).takes x op inst = true) (e : f ((s.advance x.t).start x) = u.complete x st r)
    (hu : u.host.destroys = (s.advance x.t).host.destroys) :
    (Host.Outcome.next (s.command x op inst none f) : Host.Outcome State Fault Refusal) = .next (u.complete x st r) :=
  command_next _ rfl h (by rw [e, complete_settle _ _ _ (hu.trans (takes_destroys h))])

/-- As `command_completes`, for a command that a Cask could stage. -/
theorem command_act_completes {op inst st r : Nat} {ac : CaskAct} {f : State → State} {u : State}
    (h : (s.advance x.t).takes x op inst = true) (hheld : (s.advance x.t).heldBy 16 ac = none)
    (hoff : (s.advance x.t).actDisabled (some ac) = false) (e : f ((s.advance x.t).start x) = u.complete x st r)
    (hu : u.host.destroys = (s.advance x.t).host.destroys) :
    (Host.Outcome.next (s.command x op inst (some ac) f) : Host.Outcome State Fault Refusal) = .next (u.complete x st r) :=
  command_act_next _ rfl h hheld hoff (by rw [e, complete_settle _ _ _ (hu.trans (takes_destroys h))])

/-! ### Destroys of rings that wait -/

theorem startMstop_host (s : State) (n reason : Nat) : (s.startMstop n reason).host = s.host := by
  have hcur : (s.startCurrent n).2.host = s.host := by
    unfold startCurrent
    split <;> rfl
  unfold startMstop
  split
  · rfl
  · exact hcur

theorem stopSession_destroys (s : State) (n reason : Nat) :
    (s.stopSession n reason).host.destroys = s.host.destroys := by
  unfold stopSession
  extract_lets s₁ s₂
  have hpause : (s.leavePause n).host = s.host := by
    unfold leavePause
    split
    · exact noteCounts_host n
    · rfl
  have h₁ : s₁.host = s.host := hpause
  have h₂ : s₂.host.destroys = s.host.destroys := by
    unfold s₂
    rw [setSess_destroys, startMstop_host, h₁]
  split
  · exact h₂
  · split
    · exact h₂
    · rw [offer_host, h₂]

/-! ### OUT_CONFIG (R85, R87, R89) -/

theorem cfgChangesLive_iff {cfg : Nat} : s.cfgChangesLive n cfg = true ↔
    imageField R.OUT_CFG_TYPE cfg ≠ s.rd R.OUT_CFG_TYPE n ∨ imageField R.OUT_CFG_BIDIR cfg ≠ s.rd R.OUT_CFG_BIDIR n ∨
      imageField R.OUT_CFG_CTRL cfg ≠ s.rd R.OUT_CFG_CTRL n ∨ imageField R.OUT_CFG_MP cfg ≠ s.rd R.OUT_CFG_MP n ∨
      imageField R.OUT_CFG_RATED_A cfg ≠ s.rd R.OUT_CFG_RATED_A n := by
  simp [cfgChangesLive]

/-- A change of a live outlet completes SESSION_LIVE and does nothing else (R89). -/
theorem outConfig_live_next {cfg dc : Nat} (h : (s.advance x.t).takes x Op.OUT_CONFIG n = true) (hn : n < 8)
    (hlive : (((s.advance x.t).start x).outlet n).st.live = true)
    (hchange : ((s.advance x.t).start x).cfgChangesLive n cfg = true) :
    exec (.outConfig x n cfg dc) s = .next (((s.advance x.t).start x).complete x St.SESSION_LIVE) := by
  refine command_completes h ((if_neg (by omega)).trans (if_pos ?_)) rfl
  rw [hlive, hchange]
  rfl

theorem save_regs (F : Fld) (m : Nat) : (s.save F m).regs = s.regs := by
  unfold save
  split <;> rfl

theorem save_host (F : Fld) (m : Nat) : (s.save F m).host = s.host := by
  unfold save
  split <;> rfl

theorem wrSave_host (F : Fld) (m v : Nat) : (s.wrSave F m v).host = s.host := save_host (s := s.wr F m v) F m

theorem wrSave_rd_same (F : Fld) (m v : Nat) : (s.wrSave F m v).rd F m = trunc F.w v :=
  (rd_congr (save_regs F m) F m).trans (rd_wr_same F m v)

/-- The fields of a configuration, written from its image and saved. -/
def saveFields (s : State) (fs : List Fld) (n image : Nat) : State :=
  forEach fs (fun F s => s.wrSave F n (imageField F image)) s

theorem saveFields_regs {fs : List Fld} {image : Nat} (h : t.regs = s.regs) :
    (t.saveFields fs n image).regs = (s.writeFields fs n image).regs := by
  unfold saveFields writeFields forEach
  induction fs generalizing s t with
  | nil => exact h
  | cons F fs ih =>
    refine ih ((save_regs F n).trans ?_)
    simp only [wr, h]

theorem saveFields_host (fs : List Fld) (image : Nat) : (s.saveFields fs n image).host = s.host := by
  unfold saveFields forEach
  induction fs generalizing s with
  | nil => rfl
  | cons F fs ih => exact ih.trans (wrSave_host F n _)

/-- The fields that a change of configuration shows in other registers (R85, R88). -/
def cfgIds : List Nat := R.OUT_ALLOC_STAT_ALLOC_W.id :: R.OUT_ALLOC_STAT_ENF_W.id :: R.OUT_STAT_END_REASON.id :: linkIds

/-- What a change of configuration does at once leaves the other register fields, and the destroys that wait. -/
theorem cfgApplied_frame (s : State) (n : Nat) : RegsBut cfgIds s (s.cfgApplied n) ∧
    (s.cfgApplied n).host.destroys = s.host.destroys := by
  unfold cfgApplied
  extract_lets s₁ o eol s₂ s₃
  have h₁ : RegsBut cfgIds s s₁ ∧ s₁.host.destroys = s.host.destroys := by
    unfold s₁
    split
    · exact ⟨fun G m _ => offer_rd .., congrArg HostSt.destroys (offer_host ..)⟩
    · exact ⟨fun _ _ _ => rfl, rfl⟩
  have hsess : RegsBut cfgIds s₁ s₃ ∧ s₃.host.destroys = s₁.host.destroys := by
    unfold s₃
    split
    · exact ⟨fun G m hG => setSess_rd _ _ _ _ _ _ fun hin => hG (List.mem_cons_of_mem _ (List.mem_cons_of_mem _ hin)),
        setSess_destroys _ _ _ _⟩
    · exact ⟨fun _ _ _ => rfl, rfl⟩
  have hshare : ∀ (a : State) (v w : Nat), RegsBut cfgIds a
      ((a.wr R.OUT_ALLOC_STAT_ALLOC_W n v).wr R.OUT_ALLOC_STAT_ENF_W n w) := by
    intro a v w G m hG
    simp only [cfgIds, List.mem_cons, not_or] at hG
    rw [rd_wr_ne _ _ _ _ _ hG.2.1, rd_wr_ne _ _ _ _ _ hG.1]
  have hhost : RegsBut cfgIds s₃ (s₃.reserveHost n) ∧ (s₃.reserveHost n).host = s₃.host := by
    unfold reserveHost
    split
    · exact ⟨hshare _ _ _, rfl⟩
    · exact ⟨fun _ _ _ => rfl, rfl⟩
  split
  · exact h₁
  · split
    · refine ⟨fun G m hG => ?_, ?_⟩
      · rw [hhost.1 G m hG, hsess.1 G m hG, h₁.1 G m hG]
      · rw [hhost.2, hsess.2, h₁.2]
    · exact ⟨fun G m hG => (hshare _ _ _ G m hG).trans (h₁.1 G m hG), h₁.2⟩

/-- A configuration that is well formed is written, applied and completed OK (R85, R87). -/
theorem outConfig_ok_next {cfg dc : Nat} (h : (s.advance x.t).takes x Op.OUT_CONFIG n = true) (hn : n < 8)
    (hlive : (((s.advance x.t).start x).outlet n).st.live = false)
    (hcfg : outCfgFields.any (fun F => !inRange F (imageField F cfg)) = false)
    (hdc : outDcFields.any (fun F => !inRange F (imageField F dc)) = false)
    (hmp : ((s.advance x.t).start x).mpTaken n (imageField R.OUT_CFG_MP cfg) = false) :
    exec (.outConfig x n cfg dc) s = .next ((((((s.advance x.t).start x).saveFields outCfgFields n cfg).saveFields
      outDcFields n dc).cfgApplied n).complete x St.OK) := by
  refine command_completes h ?_ ?_
  · simp only
    rw [if_neg (by omega), if_neg (by simp only [hlive, Bool.false_and]; decide),
      if_neg (by simp only [hcfg, hdc, hmp]; decide)]
    rfl
  · rw [(cfgApplied_frame _ n).2, saveFields_host, saveFields_host]
    rfl

theorem outDcFields_frame : ∀ F ∈ outDcFields, F.id ∉ completeIds ∧ F.id ∉ cfgIds := by decide

theorem rd_saveFields {fs : List Fld} {F : Fld} {image : Nat} (hn : (fs.map Fld.id).Nodup) (hF : F ∈ fs) :
    (s.saveFields fs n image).rd F n = imageField F image :=
  (rd_congr (saveFields_regs rfl) F n).trans (rd_writeFields hn hF)

/-! ### OUT_AVAILABILITY (R98, R117) -/

theorem outAvailability_bad_next {m : Nat} (h : (s.advance x.t).takes x Op.OUT_AVAILABILITY n = true)
    (hb : 8 ≤ n ∨ 3 ≤ m) :
    exec (.outAvailability x n m) s = .next (((s.advance x.t).start x).complete x St.BAD_PARAM) :=
  command_completes h (if_pos (by simpa using hb)) rfl

/-- Out of service at once, on an outlet that transfers energy: a monitored stop (R98). -/
theorem outAvailability_stop_next (h : (s.advance x.t).takes x Op.OUT_AVAILABILITY n = true) (hn : n < 8)
    (hst : (((s.advance x.t).start x).outlet n).st = .energy) :
    exec (.outAvailability x n 2) s = .next (((((s.advance x.t).start x).modOutlet n fun o =>
      { o with oosAfter := true }).stopSession n eHOST_OOS).complete x St.OK) := by
  refine command_completes h ?_ (stopSession_destroys ..)
  have hb : ¬ (decide (8 ≤ n) || decide (3 ≤ 2)) = true := by simp [hn]
  refine (if_neg hb).trans ((if_neg (by decide)).trans ?_)
  refine congrArg (complete · x St.OK) ((if_pos ?_).trans (if_pos ?_))
  · rw [hst]
    decide
  · rw [hst]
    decide

/-- Back in service, on an outlet that is not out of service (R117). -/
theorem outAvailability_on_next (h : (s.advance x.t).takes x Op.OUT_AVAILABILITY n = true) (hn : n < 8)
    (hkey : ((s.advance x.t).start x).keyMode ≠ 4)
    (hcable : ((s.advance x.t).start x).flag R.OUT_CFG_TETHERED n = false ∨
      ((s.advance x.t).start x).flag R.TAG_CABLE_EOL n = false ∧ ((s.advance x.t).start x).rd R.TAG_CABLE_STATE n ≠ 2)
    (hst : (((s.advance x.t).start x).outlet n).st ≠ .outOfService) :
    exec (.outAvailability x n 0) s = .next ((((s.advance x.t).start x).modOutlet n fun o =>
      { o with oosAfter := false, eol := false }).complete x St.OK) := by
  have hb : ¬ (decide (8 ≤ n) || decide (3 ≤ 0)) = true := by simp [hn]
  have htag : ¬ (((s.advance x.t).start x).flag R.OUT_CFG_TETHERED n && (((s.advance x.t).start x).flag R.TAG_CABLE_EOL n
      || ((s.advance x.t).start x).rd R.TAG_CABLE_STATE n == 2)) = true := by
    obtain hc | ⟨he, hs⟩ := hcable
    · simp only [hc, Bool.false_and]
      decide
    · simp only [he, Bool.false_or, Bool.and_eq_true, beq_iff_eq, not_and]
      exact fun _ => hs
  refine command_completes h ?_ rfl
  simp only
  rw [if_neg hb, if_pos trivial, if_neg hkey, if_neg htag, if_neg (by simpa using hst)]

/-! ### SESSION_AUTHORISE (R112) -/

theorem sessionAuthorise_next {k : Nat} {i : List Byte} (h : (s.advance x.t).takes x Op.SESSION_AUTHORISE n = true)
    (hn : n < 8) (hi : i.length ≤ 32) (heim : ((s.advance x.t).start x).flag R.OUT_CFG_EIM_EN n = true)
    (hid : (((s.advance x.t).start x).outlet n).ident = none)
    (hst : (((s.advance x.t).start x).outlet n).st = .connected ∨ (((s.advance x.t).start x).outlet n).st = .negotiating) :
    exec (.sessionAuthorise x n k i) s = .next
      (((((s.advance x.t).start x).authorise n (.plain 2 k (identHash i))).complete x St.OK).settleDestroys) := by
  have hb : ¬ (decide (32 < i.length) || (decide (8 ≤ n) && n != 0xFF)) = true := by simp; omega
  have hgo : ¬ ((((s.advance x.t).start x).outlet n).st != .connected
      && (((s.advance x.t).start x).outlet n).st != .negotiating) = true := by
    obtain hst | hst := hst <;> rw [hst] <;> decide
  refine command_next _ rfl h (congrArg settleDestroys ?_)
  simp only
  rw [if_neg hb, if_neg (by omega), heim, hid, if_neg (by decide), if_neg (by decide), if_neg hgo]

theorem sessionAuthorise_again_next {k : Nat} {i : List Byte}
    (h : (s.advance x.t).takes x Op.SESSION_AUTHORISE n = true) (hn : n < 8) (hi : i.length ≤ 32)
    (heim : ((s.advance x.t).start x).flag R.OUT_CFG_EIM_EN n = true)
    (hid : (((s.advance x.t).start x).outlet n).ident ≠ none) :
    exec (.sessionAuthorise x n k i) s = .next (((s.advance x.t).start x).complete x St.ALREADY_AUTHORISED) := by
  have hb : ¬ (decide (32 < i.length) || (decide (8 ≤ n) && n != 0xFF)) = true := by simp; omega
  refine command_completes h ?_ rfl
  simp only
  rw [if_neg hb, if_neg (by omega), heim, if_neg (by decide), if_pos (Option.isSome_iff_ne_none.2 hid)]

/-! ### SESSION_STOP and OUT_EREM (R72, R100, R167) -/

theorem mask_two_pow (hn : n < 8) : (List.range 8).filter (bit (2 ^ n) ·) = [n] := by
  have key : ∀ n < 8, (List.range 8).filter (bit (2 ^ n) ·) = [n] := by decide
  exact key n hn

theorem sessionStop_next {m p : Nat} (h : (s.advance x.t).takes x Op.SESSION_STOP 0xFF = true)
    (hr : ((s.advance x.t).start x).reserveRole = false) :
    exec (.sessionStop x m p) s = .next
      (((((s.advance x.t).start x).sessionStop m).2.complete x
        (((s.advance x.t).start x).sessionStop m).1).settleDestroys) := by
  refine command_next _ rfl h (congrArg settleDestroys (if_neg ?_))
  rw [hr]
  decide

/-- A stop request stops a session that transfers energy or waits to (R100). -/
theorem stopOne_outlet (hst : (s.outlet n).st = .ready ∨ (s.outlet n).st = .energy ∨ (s.outlet n).st = .paused) :
    s.stopOne n = s.stopSession n eHOST_STOP := by
  unfold stopOne
  obtain hst | hst | hst := hst <;> rw [hst]

theorem sessionStop_two_pow (hn : n < 8)
    (hst : (s.outlet n).st = .ready ∨ (s.outlet n).st = .energy ∨ (s.outlet n).st = .paused) :
    ∃ u : State, s.sessionStop (2 ^ n) = (St.OK, u.stopSession n eHOST_STOP) := by
  unfold sessionStop
  extract_lets ns can stopping hosted s₁
  have hcan : can n = true := by
    unfold can
    obtain hst | hst | hst := hst <;> rw [hst]
  have hone : ns.filter can = [n] := by simp [ns, mask_two_pow hn, hcan]
  have hany : ns.any can = true := by simp [ns, mask_two_pow hn, hcan]
  have hsame : SameSess s (s₁.caskSafety n) := caskSafety_sameSess
    (sameSess_forEach (fun h => stopHosted_sameSess (caskSafety_sameSess h)) (.refl s))
  refine ⟨s₁.caskSafety n, (if_pos (by rw [hany]; rfl)).trans ?_⟩
  clear_value s₁ can hosted ns
  rw [hone]
  simp only [forEach, List.foldl_cons, List.foldl_nil]
  rw [stopOne_outlet (by rwa [hsame n])]

/-- A stop request leaves such a session STOPPING, by the host (R100). -/
theorem sessionStop_one (hn : n < 8)
    (hst : (s.outlet n).st = .ready ∨ (s.outlet n).st = .energy ∨ (s.outlet n).st = .paused) :
    (s.sessionStop (2 ^ n)).1 = St.OK ∧ ((s.sessionStop (2 ^ n)).2.outlet n).st = .stopping ∧
      ((s.sessionStop (2 ^ n)).2.outlet n).endReason = eHOST_STOP := by
  obtain ⟨u, hu⟩ := sessionStop_two_pow hn hst
  rw [hu]
  dsimp only
  exact ⟨rfl, (stopSession_outlet u n eHOST_STOP).1, (stopSession_outlet u n eHOST_STOP).2.1⟩

theorem outErem_next {m p : Nat} (h : (s.advance x.t).takes x Op.OUT_EREM 0xFF = true)
    (hr : ((s.advance x.t).start x).reserveRole = false) :
    exec (.outErem x m p) s = .next (((((s.advance x.t).start x).outErem m).complete x St.OK).settleDestroys) := by
  refine command_next _ rfl h (congrArg settleDestroys (if_neg ?_))
  rw [hr]
  decide

/-- Where no session is live, OUT_EREM removes the energy and does nothing to the session machine (R167). -/
theorem outErem_one (hn : n < 8) (hlive : (s.outlet n).st.live = false) : s.outErem (2 ^ n) = s.erem n 0 := by
  unfold outErem
  rw [mask_two_pow hn]
  have hst : ((s.erem n 0).outlet n).st = (s.outlet n).st := erem_sameSess (.refl s) n
  simp only [forEach, List.foldl_cons, List.foldl_nil, hst, hlive, Bool.false_eq_true, if_false]

/-! ### OUT_SITE_LIMIT, SESSION_SET_CLASS and SESSION_QUERY (R122, R123) -/

theorem outSiteLimit_next {w : Nat} (h : (s.advance x.t).takes x Op.OUT_SITE_LIMIT 0xFF = true) (hw : w < 2 ^ 32) :
    exec (.outSiteLimit x w) s = .next ((((s.advance x.t).start x).wrSave R.OUT_SITE_HOST_LIMIT_W 0 w).complete x St.OK) := by
  refine command_completes h (if_neg (by omega)) ?_
  rw [wrSave_host]
  rfl

/-- Of an outlet without a session, and for a number that names no outlet or no class, only the status says so (R123). -/
theorem sessionSetClass_next {c : Nat} (h : (s.advance x.t).takes x Op.SESSION_SET_CLASS n = true) :
    ∃ u, exec (.sessionSetClass x n c) s = .next u ∧ u.answer x =
      some (if 8 ≤ n ∨ 4 ≤ c then St.BAD_PARAM
        else if (((s.advance x.t).start x).outlet n).st.live then St.OK else St.NO_SESSION) ∧
      (n < 8 → c < 4 → (((s.advance x.t).start x).outlet n).st.live = true → (u.outlet n).class_ = c) := by
  by_cases hb : 8 ≤ n ∨ 4 ≤ c
  · refine ⟨_, command_completes h (if_pos (by simpa using hb)) rfl, ?_, fun hn hc => by omega⟩
    rw [complete_badParam, if_pos hb]
  · have hb' : ¬ (decide (8 ≤ n) || decide (4 ≤ c)) = true := by simpa using hb
    cases hlive : (((s.advance x.t).start x).outlet n).st.live with
    | false =>
      refine ⟨_, command_completes h ((if_neg hb').trans (if_pos ?_)) rfl, ?_, fun _ _ hl => absurd hl (by decide)⟩
      · rw [hlive]
        rfl
      · rw [complete_answer_of _ (by decide), if_neg hb, if_neg (by decide)]
    | true =>
      refine ⟨_, command_completes h ((if_neg hb').trans (if_neg ?_)) rfl, ?_, fun _ _ _ => ?_⟩
      · rw [hlive]
        decide
      · rw [complete_ok, if_neg hb, if_pos rfl]
      · rw [complete_outlet, outlet_modOutlet_same]

theorem sessionQuery_next (h : (s.advance x.t).takes x Op.SESSION_QUERY n = true) (hn : n < 8) :
    exec (.sessionQuery x n) s = .next (let a := (s.advance x.t).start x
      a.complete x St.OK (a.rd R.OUT_STAT_SESSION_ID n + 2 ^ 32 * (a.outlet n).st.code
        + 2 ^ 40 * a.rd R.OUT_STAT_END_REASON n + 2 ^ 48 * a.rd R.OUT_ALLOC_STAT_ALLOC_W n)) :=
  command_completes h (if_neg (by omega)) rfl

/-! ### OUT_SELECT (R113) -/

theorem outSelect_next {c : HeldCard} (h : (s.advance x.t).takes x Op.OUT_SELECT n = true) (hn : n < 8)
    (hc : ((s.advance x.t).start x).out.card = some c) (hs : ((s.advance x.t).start x).sourceOn n c.ident = true)
    (hw : ((s.advance x.t).start x).unauthorised.contains n = false) :
    exec (.outSelect x n) s = .next ((({ (s.advance x.t).start x with out := { ((s.advance x.t).start x).out with
      card := some { c with for_ := some n } } } : State)).complete x St.OK) := by
  refine command_completes h ?_ rfl
  simp only [hc]
  rw [if_neg (by omega), hs, hw, if_neg (by decide), if_neg (by decide)]

theorem outSelect_none_next (h : (s.advance x.t).takes x Op.OUT_SELECT n = true)
    (hc : ((s.advance x.t).start x).out.card = none) :
    exec (.outSelect x n) s = .next (((s.advance x.t).start x).complete x St.NO_SESSION) := by
  refine command_completes h ?_ rfl
  simp only [hc]

/-! ### Commands to an outlet under host control (R74, R88, R94, R159) -/

section
variable (hn : n < 8)
include hn

theorem outContactor_open_next (h : (s.advance x.t).takes x Op.OUT_CONTACTOR n = true)
    (hheld : (s.advance x.t).heldBy 16 (.contactor n false) = none)
    (hoff : (s.advance x.t).actDisabled (some (.contactor n false)) = false)
    (hc : ((s.advance x.t).start x).hostControlled n = true) :
    exec (.outContactor x n false) s = .next
      ((((((s.advance x.t).start x).dropClose n).openOutlet n 0).complete x St.OK).settleDestroys) := by
  refine command_act_next _ rfl h hheld hoff (congrArg settleDestroys ?_)
  exact (if_neg (by omega)).trans ((if_neg (by rw [hc]; decide)).trans (if_pos rfl))

theorem outContactor_close_next (h : (s.advance x.t).takes x Op.OUT_CONTACTOR n = true)
    (hheld : (s.advance x.t).heldBy 16 (.contactor n true) = none)
    (hoff : (s.advance x.t).actDisabled (some (.contactor n true)) = false)
    (hc : ((s.advance x.t).start x).hostControlled n = true) (ho : ((s.advance x.t).start x).closed n = false) :
    exec (.outContactor x n true) s = .next ((((((s.advance x.t).start x).testSensor n).modOutlet n fun o =>
      { o with hostClose := o.hostClose ++ [x] })).settleDestroys) := by
  refine command_act_next _ rfl h hheld hoff (congrArg settleDestroys ?_)
  exact (if_neg (by omega)).trans ((if_neg (by rw [hc]; decide)).trans
    ((if_neg (by decide)).trans (if_neg (by rw [ho]; decide))))

theorem outContactor_closed_next (h : (s.advance x.t).takes x Op.OUT_CONTACTOR n = true)
    (hheld : (s.advance x.t).heldBy 16 (.contactor n true) = none)
    (hoff : (s.advance x.t).actDisabled (some (.contactor n true)) = false)
    (hc : ((s.advance x.t).start x).hostControlled n = true) (ho : ((s.advance x.t).start x).closed n = true) :
    exec (.outContactor x n true) s = .next (((s.advance x.t).start x).complete x St.OK) := by
  refine command_act_completes h hheld hoff ?_ rfl
  exact (if_neg (by omega)).trans ((if_neg (by rw [hc]; decide)).trans ((if_neg (by decide)).trans (if_pos ho)))

theorem outContactor_auto_next {c : Bool} (h : (s.advance x.t).takes x Op.OUT_CONTACTOR n = true)
    (hheld : (s.advance x.t).heldBy 16 (.contactor n c) = none)
    (hoff : (s.advance x.t).actDisabled (some (.contactor n c)) = false)
    (hc : ((s.advance x.t).start x).hostControlled n = false) :
    exec (.outContactor x n c) s = .next (((s.advance x.t).start x).complete x St.OUT_AUTO) := by
  refine command_act_completes h hheld hoff ?_ rfl
  exact (if_neg (by omega)).trans (if_pos (by rw [hc]; decide))

theorem outPilotDuty_next {d : Nat} (h : (s.advance x.t).takes x Op.OUT_PILOT_DUTY n = true)
    (hheld : (s.advance x.t).heldBy 16 (.pilotDuty n d) = none)
    (hoff : (s.advance x.t).actDisabled (some (.pilotDuty n d)) = false)
    (hd : d = 50 ∨ 100 ≤ d ∧ d ≤ 960 ∨ d = 0xFFFF ∨ d = 0xFFFE)
    (hc : ((s.advance x.t).start x).hostControlled n = true)
    (hr : ((s.advance x.t).start x).refusedNow (.pilotDuty n d) = none) :
    exec (.outPilotDuty x n d) s = .next
      ((((s.advance x.t).start x).offer n (dutyOut d)).complete x St.OK).settleDestroys := by
  have hb : ¬ (decide (8 ≤ n) || dutyBad d) = true := by
    simp [dutyBad]
    omega
  refine command_act_next _ rfl h hheld hoff (congrArg settleDestroys ?_)
  refine (if_neg hb).trans ((if_neg (by rw [hc]; decide)).trans ?_)
  split
  · next e => rw [hr] at e; cases e
  · rfl

theorem outPmSetpoint_next {m v c w : Nat} (h : (s.advance x.t).takes x Op.OUT_PM_SETPOINT n = true)
    (hheld : (s.advance x.t).heldBy 16 (.pmSetpoint n m v c w) = none)
    (hoff : (s.advance x.t).actDisabled (some (.pmSetpoint n m v c w)) = false)
    (hb : ((s.advance x.t).start x).setBad n m v c w = false)
    (hc : ((s.advance x.t).start x).hostControlled n = true)
    (hr : ((s.advance x.t).start x).refusedNow (.pmSetpoint n m v c w) = none) :
    exec (.outPmSetpoint x n m v c w) s = .next
      ((((s.advance x.t).start x).stageSet n ⟨m, v, c, w⟩).complete x St.OK).settleDestroys := by
  refine command_act_next _ rfl h hheld hoff (congrArg settleDestroys ?_)
  refine (if_neg (by rw [hb]; simp; omega)).trans ((if_neg (by rw [hc]; decide)).trans ?_)
  split
  · next e => rw [hr] at e; cases e
  · rfl

end

theorem setBad_discharge {m v c w : Nat} (hm : m < 4) (hv : v < 65536) (hc : c < 65536) (hw : w < 65536)
    (hbidir : s.flag R.OUT_CFG_BIDIR n = true) : s.setBad n m v c w = false := by
  simp [setBad, hbidir]
  omega

/-- A close that waits alone for the self-test is decided once that has ended (R74, R159). -/
theorem hostCloses_one (hx : (s.outlet n).hostClose = [x]) (ht : (s.os n).testing = false) : s.hostCloses n =
    (let b := s.modOutlet n fun o => { o with hostClose := [] }; match b.consentReason n true with
      | some r => (b.raise Ev.CONSENT_REFUSED n [n, r]).complete x St.CONSENT_REFUSED
      | none => (b.applyClose n false).1.complete x (if (b.applyClose n false).2 then St.CONSENT_REFUSED else St.OK)) := by
  unfold hostCloses
  rw [hx, ht, if_neg (by simp)]
  extract_lets b all
  clear_value b
  generalize b.consentReason n true = r
  generalize b.applyClose n false = p
  cases r with
  | some r => exact forEach_one (fun x (s : State) => s.complete x St.CONSENT_REFUSED) x _
  | none => exact forEach_one (fun x (s : State) => s.complete x (if p.2 then St.CONSENT_REFUSED else St.OK)) x _

/-! ### OUT_CERT_RESPONSE (R104) -/

theorem outCertResponse_next {d : List Byte} (h : (s.advance x.t).takes x Op.OUT_CERT_RESPONSE n = true) (hn : n < 8)
    (hasked : (((s.advance x.t).start x).outlet n).certAsked = true) :
    exec (.outCertResponse x n true d) s = .next ((((s.advance x.t).start x).modOutlet n fun o =>
      { o with certAsked := false, certForwarded := Config.hash (d.map (·.toNat)) }).complete x St.OK) := by
  refine command_completes h ?_ rfl
  exact (if_neg (by omega)).trans ((if_neg (by decide)).trans (if_neg (by rw [hasked]; decide)))

end State

/-- Settles O14: a change of one of the five fields is what `State.cfgChangesLive` reads, and OUT_CONFIG with one completes
SESSION_LIVE on a live outlet (`State.outConfig_live_next`). -/
theorem sessionLiveRefused : Obligations.SessionLiveRefused := by
  unfold Obligations.SessionLiveRefused
  intro s x n cfg dc b a h hn hlive hchange
  exact State.outConfig_live_next h hn hlive (State.cfgChangesLive_iff.2 hchange)

/-- Settles O25: each command that is taken answers with the state its own lemma names, and what the clause reads is read
off that state; the two effects on a mask are those on its one outlet (`State.sessionStop_one`, `State.outErem_one`). -/
theorem outletCommands : Obligations.OutletCommands := by
  unfold Obligations.OutletCommands
  refine ⟨?configOk, ?configLive, ?stopOos, ?inService, ?availabilityBad, ?authorise, ?authoriseAgain, ?stop, ?stopOne,
    ?erem, ?eremOne, ?siteLimit, ?setClass, ?query, ?select, ?selectNone, ?contactorOpen, ?contactorClose, ?closeDecided,
    ?contactorClosed, ?auto, ?duty, ?setpoint, ?certResponse⟩
  case configOk =>
    intro s x n cfg dc b a h hn hlive hcfg hdc hmp
    refine ⟨_, State.outConfig_ok_next h hn hlive hcfg hdc hmp, State.complete_ok _ _, fun F hF => ?_⟩
    obtain ⟨hcomplete, hshown⟩ := State.outDcFields_frame F hF
    rw [State.complete_rd _ _ _ _ _ hcomplete, (State.cfgApplied_frame _ n).1 F n hshown]
    exact State.rd_saveFields (by decide) hF
  case configLive =>
    intro s x n cfg dc b a h hn hlive hchange
    exact ⟨_, State.outConfig_live_next h hn hlive hchange, State.complete_answer_of _ (by decide)⟩
  case stopOos =>
    intro s x n b a h hn hst
    obtain ⟨hstopping, -, hoos⟩ := State.stopSession_outlet (a.modOutlet n fun o => { o with oosAfter := true }) n eHOST_OOS
    refine ⟨_, State.outAvailability_stop_next h hn hst, State.complete_ok _ _, ?_, ?_⟩
    · rw [State.complete_outlet, hstopping]
    · rw [State.complete_outlet, hoos, State.outlet_modOutlet_same]
  case inService =>
    intro s x n b a h hn hkey hcable hst
    refine ⟨_, State.outAvailability_on_next h hn hkey hcable hst, State.complete_ok _ _, ?_, ?_⟩ <;>
      rw [State.complete_outlet, State.outlet_modOutlet_same]
  case availabilityBad =>
    intro s x n m b a h hb
    exact ⟨_, State.outAvailability_bad_next h hb, State.complete_badParam _ _⟩
  case authorise =>
    intro s x n k i b a h hn hi heim hid hst
    exact State.sessionAuthorise_next h hn hi heim hid hst
  case authoriseAgain =>
    intro s x n k i b a h hn hi heim hid
    exact ⟨_, State.sessionAuthorise_again_next h hn hi heim hid, State.complete_answer_of _ (by decide)⟩
  case stop =>
    intro s x m p b a h hr
    exact State.sessionStop_next h hr
  case stopOne => exact fun s n => State.sessionStop_one
  case erem =>
    intro s x m p b a h hr
    exact State.outErem_next h hr
  case eremOne => exact fun s n => State.outErem_one
  case siteLimit =>
    intro s x w b a h hw
    refine ⟨_, State.outSiteLimit_next h hw, State.complete_ok _ _, ?_⟩
    rw [State.complete_rd _ _ _ _ _ (by decide), State.wrSave_rd_same]
    exact Nat.mod_eq_of_lt hw
  case setClass =>
    intro s x n c b a h
    exact State.sessionSetClass_next h
  case query =>
    intro s x n b a h hn
    exact State.sessionQuery_next h hn
  case select =>
    intro s x n c b a h hn hc hs hw
    refine ⟨_, State.outSelect_next h hn hc hs hw, State.complete_ok _ _, ?_⟩
    rw [State.complete_out]
  case selectNone =>
    intro s x n b a h hc
    exact ⟨_, State.outSelect_none_next h hc, State.complete_answer_of _ (by decide)⟩
  case contactorOpen =>
    intro s x n b a h hheld hoff hn hc
    exact State.outContactor_open_next hn h hheld hoff hc
  case contactorClose =>
    intro s x n b a h hheld hoff hn hc ho
    exact State.outContactor_close_next hn h hheld hoff hc ho
  case closeDecided => exact fun s n x => State.hostCloses_one
  case contactorClosed =>
    intro s x n b a h hheld hoff hn hc ho
    exact ⟨_, State.outContactor_closed_next hn h hheld hoff hc ho, State.complete_ok _ _⟩
  case auto =>
    intro s x n c b a h hheld hoff hn hc
    exact ⟨_, State.outContactor_auto_next hn h hheld hoff hc, State.complete_answer_of _ (by decide)⟩
  case duty =>
    intro s x n d b a h hheld hoff hn hd hc hr
    exact State.outPilotDuty_next hn h hheld hoff hd hc hr
  case setpoint =>
    intro s x n m v c w b a h hheld hoff hn hm hv hcur hw _ hbidir hc hr
    exact State.outPmSetpoint_next hn h hheld hoff (State.setBad_discharge hm hv hcur hw hbidir) hc hr
  case certResponse =>
    intro s x n d b a h hn hasked
    refine ⟨_, State.outCertResponse_next h hn hasked, State.complete_ok _ _, ?_, ?_⟩ <;>
      rw [State.complete_outlet, State.outlet_modOutlet_same]

end Sys2Proof.Machine
end

section
/-! SUPPORT and PROOFS. The events of an outlet: the pilot's periods, accepted states and diode fault (R91 to R93), the
proximity reading (R96), authorisation (R98, R112, R113) and the vehicle's messages (R101 to R103). -/

namespace Sys2Proof.Machine
namespace State

variable {s : State} {t n : Nat}

/-! ### The pilot (R91 to R93) -/

/-- A period is judged on its own outlet: what is judged of it changes, and the two levels that the registers show. -/
theorem judgePeriod_frame (s : State) (n : Nat) (h l : Int) :
    ((s.judgePeriod n h l).outlet n).outNext = (s.outlet n).outNext ∧ (s.judgePeriod n h l).safe = s.safe ∧
      (s.judgePeriod n h l).twin = s.twin ∧ (s.judgePeriod n h l).rd R.TWIN_STAT_ROLE = s.rd R.TWIN_STAT_ROLE := by
  have hrd : ((s.wrInt R.OUT_STAT_PILOT_HIGH n h).wrInt R.OUT_STAT_PILOT_LOW n l).rd R.TWIN_STAT_ROLE =
      s.rd R.TWIN_STAT_ROLE :=
    (rd_wr_ne _ _ _ _ _ (by decide)).trans (rd_wr_ne _ _ _ _ _ (by decide))
  unfold judgePeriod
  extract_lets o s₁ p agree pwm
  split
  · exact ⟨rfl, rfl, rfl, hrd⟩
  · exact ⟨by rw [outlet_modOutlet_same]; rfl, rfl, rfl, hrd⟩

/-- The state after a period has been judged, before an output that waits takes effect: its end is noted, and the driver
is connected where the module drives. -/
def periodEnded (s : State) (n : Nat) (h l : Int) : State :=
  let j := (s.judgePeriod n h l).modOutlet n fun o => { o with periodAt := s.mtb }
  if s.muted then j else { j with twin := { j.twin with pilotsOff := clearBit j.twin.pilotsOff n } }

theorem periodEnded_frame (s : State) (n : Nat) (h l : Int) :
    ((s.periodEnded n h l).outlet n).outNext = (s.outlet n).outNext ∧ (s.periodEnded n h l).safe = s.safe := by
  obtain ⟨hnext, hsafe, -⟩ := judgePeriod_frame s n h l
  have hj : ∀ m : Nat, (((s.judgePeriod n h l).modOutlet n fun o => { o with periodAt := m }).outlet n).outNext =
      (s.outlet n).outNext := fun m => by rw [outlet_modOutlet_same]; exact hnext
  unfold periodEnded
  extract_lets j
  split
  · exact ⟨hj _, hsafe⟩
  · exact ⟨hj _, hsafe⟩

/-- A period ends: it is judged, and an output that waits takes effect, but in a safe state (R93, R169). -/
theorem pilotPwmPeriod_next {h l : Int} (hu : (s.advance t).up = true)
    (hd : ((s.advance t).outlet n).periodAt + 998000 ≤ (s.advance t).mtb) :
    exec (.pilotPwmPeriod t n h l) s = .next (
      let j := (s.advance t).periodEnded n h l
      match ((s.advance t).outlet n).outNext with
      | some p => if ((s.advance t).os n).safeSince.isSome then j.modOutlet n fun o => { o with outNext := none }
          else j.setOut n p
      | none => j) := by
  have hdue : ¬ (s.advance t).mtb < ((s.advance t).outlet n).periodAt + 998000 := Nat.not_lt.2 hd
  refine onEvent_next _ rfl hu ((if_neg hdue).trans ?_)
  generalize s.advance t = a
  obtain ⟨-, -, htwin, hrole⟩ := judgePeriod_frame a n h l
  obtain ⟨hnext, hsafe⟩ := periodEnded_frame a n h l
  have hj : (let j := (a.judgePeriod n h l).modOutlet n fun o => { o with periodAt := a.mtb }
      if j.muted then j else { j with twin := { j.twin with pilotsOff := clearBit j.twin.pilotsOff n } }) =
        a.periodEnded n h l := by
    have hmuted : ((a.judgePeriod n h l).modOutlet n fun o => { o with periodAt := a.mtb }).muted = a.muted := by
      simp only [muted, modOutlet_rd, hrole]
      rw [← htwin]
      rfl
    simp only [hmuted, periodEnded]
  have hos : (a.periodEnded n h l).os n = a.os n := by
    rw [os, hsafe]
    rfl
  simp only at hj ⊢
  rw [hj, hnext, hos] <;> rfl

theorem setOut_outlet (p : PilotOut) : (s.setOut n p).outlet n = { s.outlet n with
    out := if s.outType n = 0 then .stateF else p, outNext := none, cand := none, agree := 0, badLow := 0,
    noAccept := 0 } := by
  unfold setOut
  extract_lets q duty
  exact outlet_modOutlet_same ..

theorem railOut_wr (F : Fld) (m v r : Nat) (h : R.PWR_RAIL_UV.id ≠ F.id) (h' : R.PWR_RAIL_OV.id ≠ F.id) :
    (s.wr F m v).railOut r = s.railOut r := by
  unfold railOut
  rw [flag_wr_ne _ _ _ _ _ h, flag_wr_ne _ _ _ _ _ h']

/-- A period of PWM counts towards the agreement on its state and towards the diode fault (R91, R92). -/
theorem judgePeriod_pwm {d : Nat} {h l : Int} (ho : (s.outlet n).out = .pwm d) (h11 : s.railOut 11 = false)
    (h12 : s.railOut 12 = false) : ((s.judgePeriod n h l).outlet n).cand = pilotOf h ∧
      ((s.judgePeriod n h l).outlet n).badLow = (if -1050 < l then (s.outlet n).badLow + 1 else 0) ∧
      ((s.judgePeriod n h l).outlet n).agree = (if pilotOf h = none then 0 else
        if (s.outlet n).cand = pilotOf h then (s.outlet n).agree + 1 else 1) := by
  have hrail : ∀ r, ((s.wrInt R.OUT_STAT_PILOT_HIGH n h).wrInt R.OUT_STAT_PILOT_LOW n l).railOut r = s.railOut r :=
    fun r => (railOut_wr _ _ _ _ (by decide) (by decide)).trans (railOut_wr _ _ _ _ (by decide) (by decide))
  unfold judgePeriod
  extract_lets o s₁ p agree pwm
  have hp : p = pilotOf h := by
    unfold p s₁
    rw [hrail, hrail, h11, h12]
    rfl
  have hpwm : pwm = true := by
    unfold pwm o
    rw [ho]
  have hagree : agree = if pilotOf h = none then 0 else
      if (s.outlet n).cand = pilotOf h then (s.outlet n).agree + 1 else 1 := by
    unfold agree
    rw [hp]
    cases pilotOf h <;> rfl
  split
  · next e => exact nomatch ho.symm.trans e
  · rw [outlet_modOutlet_same]
    refine ⟨hp, ?_, hagree⟩
    simp only [hpwm, Bool.true_and, decide_eq_true_eq]
    rfl

theorem pilotStateAccept_next {p : Pilot} (hu : (s.advance t).up = true) (hn : n < 8)
    (hc : ((s.advance t).outlet n).cand = some p)
    (ha : (s.advance t).rd R.OUT_POLICY_FILT_PER ≤ ((s.advance t).outlet n).agree)
    (hp : p ≠ ((s.advance t).outlet n).pilot) : exec (.pilotStateAccept t n) s = .next ((s.advance t).acceptPilot n p) := by
  refine onEvent_next _ rfl hu ?_
  generalize s.advance t = a at *
  simp only [hc]
  exact if_pos (by simp [ha, hp, hn])

/-- Under host control an accepted state other than A and E drives nothing (R88). -/
theorem acceptPilot_hosted {p : Pilot} (ha : p ≠ .a) (he : p ≠ .e) (hc : s.hostControlled n = true) :
    s.acceptPilot n p = s.modOutlet n fun o => { o with pilot := p } := by
  have ha' : ¬ (p == .a) = true := by simpa using ha
  have he' : ∀ b, ¬ (p == .e && b) = true := fun b => by simp [he]
  have hhost : (s.modOutlet n fun o => { o with pilot := p }).hostControlled n = true := hc
  unfold acceptPilot
  extract_lets s₁ s₂ s₃
  have h₃ : s₃ = s₁ := (if_neg (he' _)).trans (if_neg ha')
  rw [h₃]
  unfold pilotDrives
  exact if_pos (by rw [hhost]; rfl)

/-- A diode fault is shown and its counts restart; no session is live that could end (R92). -/
theorem pilotDiodeFault_next (hu : (s.advance t).up = true)
    (hb : 3 ≤ ((s.advance t).outlet n).badLow ∨ 10 ≤ ((s.advance t).outlet n).noAccept)
    (hl : ((s.advance t).outlet n).st.live = false) : exec (.pilotDiodeFault t n) s = .next
      (((s.advance t).wr R.OUT_STAT_DIODE_FAULT n 1).modOutlet n fun o => { o with badLow := 0, noAccept := 0 }) := by
  have hb' : (decide (3 ≤ ((s.advance t).outlet n).badLow) || decide (10 ≤ ((s.advance t).outlet n).noAccept)) = true := by
    rwa [Bool.or_eq_true, decide_eq_true_eq, decide_eq_true_eq]
  exact onEvent_next _ rfl hu ((if_pos hb').trans (if_neg (by rw [hl]; decide)))

/-! ### The proximity reading (R96) -/

/-- What a proximity reading notes: the cable's rating and whether it is invalid, the current limit that the registers show
of it, and the event where it has become invalid. -/
def proximityNoted (s : State) (n : Nat) (c : Option Nat × Bool) : State :=
  let s' := s.modOutlet n fun o => { o with ppRating := c.1, ppInvalid := c.2 }
  let s' := s'.wr R.OUT_STAT_CABLE_A n (min 255 (s'.cableLimit n))
  if c.2 && !(s.outlet n).ppInvalid then s'.raise Ev.CABLE_STATE n [n, 3, 0] else s'

theorem proximityNoted_outlet (s : State) (n : Nat) (c : Option Nat × Bool) :
    (s.proximityNoted n c).outlet n = { s.outlet n with ppRating := c.1, ppInvalid := c.2 } := by
  unfold proximityNoted
  extract_lets s₁ s₂
  have h₂ : s₂.outlet n = { s.outlet n with ppRating := c.1, ppInvalid := c.2 } := outlet_modOutlet_same ..
  split
  · rw [raise_outlet, h₂]
  · exact h₂

/-- A reading in mode 1 of an outlet in IDLE is noted and does nothing else (R96). -/
theorem proximityRead_idle_next {ohms : Nat} (hu : (s.advance t).up = true) (hm : (s.advance t).muted = false)
    (hp : (s.advance t).rd R.OUT_CFG_PP_MODE n = 1) (hs : ((s.advance t).outlet n).st = .idle) :
    exec (.proximityRead t n ohms) s = .next
      ((s.advance t).proximityNoted n (decodeCable ohms ((s.advance t).outType n == 2))) := by
  refine onEvent_next _ rfl hu ((if_neg (by rw [hm]; decide)).trans ?_)
  generalize s.advance t = a at *
  extract_lets mode was
  rw [if_pos (show mode = 1 from hp)]
  have hnoted := proximityNoted_outlet a n (decodeCable ohms (a.outType n == 2))
  generalize decodeCable ohms (a.outType n == 2) = c at *
  obtain ⟨rating, invalid⟩ := c
  dsimp -zeta only
  extract_lets s₁ s₂ s₃ s₄ o
  have h₃ : s₃ = a.proximityNoted n (rating, invalid) := rfl
  have hst₃ : (s₃.outlet n).st = .idle := by rw [h₃, hnoted, ← hs]
  have h₄ : s₄ = s₃ := if_neg (by rw [hst₃]; simp [SessState.live, SessState.code])
  have ho : o.st = .idle := by rw [← hst₃, ← h₄]
  rw [if_neg (by simp [ho]), if_neg (by simp [ho]), h₄, h₃]

theorem decodeCable_rating {r : Nat} {b : Bool} (h : r ≤ 4500) : (decodeCable r b).1 =
    (if 1100 ≤ r ∧ r ≤ 2460 then some 13 else if 400 ≤ r ∧ r ≤ 936 then some 20
      else if 164 ≤ r ∧ r ≤ 308 then some 32 else if 80 ≤ r ∧ r ≤ 140 then some (if b then 63 else 70) else none) := by
  unfold decodeCable
  simp only [Bool.and_eq_true, decide_eq_true_eq]
  rw [if_neg (by omega)]
  split_ifs <;> rfl

/-! ### Authorisation (R98, R113) -/

theorem authTimeout_next {d : Nat} (hu : (s.advance t).up = true) (hd : ((s.advance t).outlet n).authDue = some d)
    (hle : d ≤ (s.advance t).mtb) (hi : ((s.advance t).outlet n).ident = none)
    (hs : ((s.advance t).outlet n).st = .connected ∨ ((s.advance t).outlet n).st = .negotiating) :
    exec (.authTimeout t n) s = .next ((s.advance t).endSession n eNO_AUTH) := by
  refine onEvent_next _ rfl hu ?_
  simp only [hd]
  exact if_pos (by simpa [hle, hi] using hs)

theorem preauthTimeout_next {c : HeldCard} (hu : (s.advance t).up = true) (hc : (s.advance t).out.card = some c)
    (hle : c.until_ ≤ (s.advance t).mtb) :
    exec (.preauthTimeout t) s = .next { s.advance t with out := { (s.advance t).out with card := none } } := by
  refine onEvent_next _ rfl hu ?_
  simp only [hc]
  exact if_pos hle

/-! ### The vehicle's messages (R101 to R103) -/

theorem hlcMessage_next {msg : HlcMsg} (hu : (s.advance t).up = true) (hn : n < 8)
    (hr : ((s.advance t).outlet n).hlcRunning = true) :
    exec (.hlcMessage t n msg) s = .next ((s.advance t).hlcMessage n msg) :=
  onEvent_next _ rfl hu (if_pos (by simp [hr, hn]))

/-- The parameters that the vehicle tells are discovered, and the session goes on (R98, R101). -/
theorem hlcMessage_discovery (w : Nat) (b : Bool) : s.hlcMessage n (.discovery w b) =
    ((if (s.outlet n).st = .negotiating then
      s.wr R.OUT_STAT_DIR n (b2n (b && s.flag R.OUT_CFG_BIDIR n && s.rd R.OUT_STAT_PROTO n == 3)) else s).modOutlet n
        fun o => { o with vehicleMaxW := w, discovered := true }).goReady n := by
  simp only [hlcMessage, beq_iff_eq]

/-- The first of the vehicle's protocols that the outlet offers is chosen (R102). -/
theorem hlcMessage_protocols {p q : Nat} {r : List Nat} (hs : (s.outlet n).st = .negotiating)
    (hf : ((q :: r).find? fun k => (s.protocolsOffered n).contains k) = some p) :
    s.hlcMessage n (.protocols (q :: r)) = s.wr R.OUT_STAT_PROTO n p := by
  have hst : ¬ ((s.outlet n).st != .negotiating) = true := by rw [hs]; decide
  simp only [hlcMessage]
  rw [if_neg hst, if_neg (List.cons_ne_nil q r), hf]

end State

/-- Settles O23: each event answers with its own function's state, and what the clause names is read off that state by
the lemma on the function; a period that ends is `State.pilotPwmPeriod_next` in each of its three forms. -/
theorem outletEvents : Obligations.OutletEvents := by
  unfold Obligations.OutletEvents
  refine ⟨?outputTaken, ?outputHeld, ?noOutput, ?setOut, ?judged, ?accepted, ?hosted, ?diode, ?proximity, ?cable,
    ?authTimeout, ?ended, ?discovery, ?protocols, ?hlcTimeout, ?preauth⟩
  case outputTaken =>
    intro s t n h l p a hu hd hp hsafe
    rw [State.pilotPwmPeriod_next hu hd, hp, hsafe]
    rfl
  case outputHeld =>
    intro s t n k h l p a hu hd hp hsafe
    rw [State.pilotPwmPeriod_next hu hd, hp, hsafe]
    rfl
  case noOutput =>
    intro s t n h l a hu hd hp
    rw [State.pilotPwmPeriod_next hu hd, hp]
    rfl
  case setOut =>
    intro s n p
    rw [State.setOut_outlet]
    exact ⟨rfl, rfl, rfl, rfl⟩
  case judged => exact fun s n d h l => State.judgePeriod_pwm
  case accepted =>
    intro s t n p a hu hn hc ha hp
    exact State.pilotStateAccept_next hu hn hc ha hp
  case hosted => exact fun s n p => State.acceptPilot_hosted
  case diode =>
    intro s t n a hu hb hl
    refine ⟨_, State.pilotDiodeFault_next hu hb hl, ?_, ?_, ?_⟩
    · rw [State.modOutlet_rd, State.rd_wr_same]
      rfl
    · rw [State.outlet_modOutlet_same]
    · rw [State.outlet_modOutlet_same]
  case proximity =>
    intro s t n ohms a hu hm hp hs
    exact ⟨_, State.proximityRead_idle_next hu hm hp hs, by rw [State.proximityNoted_outlet],
      by rw [State.proximityNoted_outlet]⟩
  case cable => exact fun r b => State.decodeCable_rating
  case authTimeout =>
    intro s t n d a hu hd hle hi hs
    exact State.authTimeout_next hu hd hle hi hs
  case ended => exact fun s n r hr hlt => State.endSession_ended n hr (by omega)
  case discovery =>
    intro s t n w b a hu hn hr
    rw [State.hlcMessage_next hu hn hr, State.hlcMessage_discovery]
  case protocols =>
    intro s t n p q r a hu hn hr hs hf
    rw [State.hlcMessage_next hu hn hr, State.hlcMessage_protocols hs hf]
  case hlcTimeout =>
    intro s t n a hu hr
    exact onEvent_next _ rfl hu (if_pos hr)
  case preauth =>
    intro s t c a hu hc hle
    exact ⟨_, State.preauthTimeout_next hu hc hle, rfl⟩

end Sys2Proof.Machine
end

section
/-! SUPPORT and PROOFS. The power modules over CAN FD (R118 to R121), the allocator's run on a site without sessions (R122)
and its time-outs (R122, R124, R125). -/

namespace Sys2Proof.Machine
namespace State

variable {s : State} {t n : Nat}

/-! ### Power modules (R118 to R120) -/

theorem pm_modPm_same (s : State) (n i : Nat) (f : PowerModule → PowerModule) : (s.modPm n i f).pm n i = f (s.pm n i) := by
  unfold pm modPm
  rw [outlet_modOutlet_same]
  simp only [List.getD_eq_getElem?_getD]
  rw [List.getElem?_set_self (by simp; omega), Option.getD_some]
  congr 1
  rcases Nat.lt_or_ge i (s.outlet n).pms.length with h | h
  · rw [List.getElem?_append_left h]
  · rw [List.getElem?_append_right h, List.getElem?_eq_none h]
    cases e : (List.replicate (i + 1 - (s.outlet n).pms.length) PowerModule.init)[i - (s.outlet n).pms.length]? with
    | none => rfl
    | some p => exact (List.mem_replicate.1 (List.mem_of_getElem? e)).2

theorem pm_congr {u : State} (h : u.out = s.out) (i : Nat) : u.pm n i = s.pm n i := by
  unfold pm
  rw [outlet_congr h]

theorem pmStatusFrame_invalid_next {bus id : Nat} {f : List Byte} (hu : (s.advance t).up = true)
    (hv : statusValid (f.map (·.toNat)) = false) : exec (.pmStatusFrame t bus id f) s = .next (s.advance t) := by
  refine onEvent_next _ rfl hu (if_pos ?_)
  rw [hv]
  rfl

/-- A valid STATUS frame of a module of the outlet is what the module holds of it, and the module is not lost (R119,
R120). -/
theorem pmStatusFrame_next {bus id i : Nat} {f : List Byte} (hu : (s.advance t).up = true)
    (hv : statusValid (f.map (·.toNat)) = true) (hpm : (s.advance t).pmOf bus id 2 = some (n, i)) :
    exec (.pmStatusFrame t bus id f) s = .next ((s.advance t).modPm n i fun p => { p with
      seenAt := some (s.advance t).mtb, decivolts := leField (f.map (·.toNat)) 0 2,
      deciamps := dec 16 (leField (f.map (·.toNat)) 2 2), temp := dec 8 (leField (f.map (·.toNat)) 4 1),
      faults := leField (f.map (·.toNat)) 5 2, lost := false }) := by
  refine onEvent_next _ rfl hu ((if_neg (by rw [hv]; decide)).trans ?_)
  simp only [hpm]

theorem pmIdentFrame_next {bus id i maker model serial ratedV ratedA ratedKw fw : Nat} (hu : (s.advance t).up = true)
    (hpm : (s.advance t).pmOf bus id 3 = some (n, i)) :
    exec (.pmIdentFrame t bus id maker model serial ratedV ratedA ratedKw fw) s =
      .next ((s.advance t).modPm n i fun p => { p with
        ident := [maker, model, serial, ratedV, ratedA, ratedKw, fw], ratedW := 1000 * ratedKw }) := by
  refine onEvent_next _ rfl hu ?_
  simp only [hpm]

theorem pmFaultFrame_next {bus id i code severity : Nat} (hu : (s.advance t).up = true)
    (hpm : (s.advance t).pmOf bus id 4 = some (n, i)) : exec (.pmFaultFrame t bus id code severity) s =
      .next (((s.advance t).modPm n i fun p => { p with faults := code + 2 ^ 16 * severity }).raise Ev.PM_FAULT n
        [n, id % 256, code, 0]) := by
  refine onEvent_next _ rfl hu ?_
  simp only [hpm]

/-- A module that has not been heard for 50 ms is lost (R120). -/
theorem pmLost_next {i k : Nat} (hu : (s.advance t).up = true) (hk : ((s.advance t).pm n i).seenAt = some k)
    (hl : ((s.advance t).pm n i).lost = false) (hd : k + 50 * 10 ^ 6 ≤ (s.advance t).mtb) :
    exec (.pmLost t n i) s = .next (
      let b := ((s.advance t).modPm n i fun p => { p with lost := true }).raise Ev.PM_FAULT n
        [n, (s.advance t).rd R.OUT_DC_CFG_PM_BASE n + i, 0, 1]
      if b.livePms n = 0 then (if (b.outlet n).st.live then b.faultSession n ePM_LOST else b.erem n 0)
      else b.capNow n) := by
  refine onEvent_next _ rfl hu ?_
  simp only [hk]
  refine (if_neg ?_).trans rfl
  rw [hl]
  simp only [Bool.false_or, decide_eq_true_eq]
  omega

theorem setpointSend_next (hu : (s.advance t).up = true) (hl : (s.advance t).livePms n ≠ 0)
    (hm : (s.advance t).muted = false) : exec (.setpointSend t n) s = .next ((s.advance t).modOutlet n fun o => { o with
      setCounter := (o.setCounter + 1) % 256,
      lastFrame := setpointFrame o.setPoint ((s.advance t).livePms n) (o.setCounter + 1),
      lastIds := ((s.advance t).liveAddrs n).map fun a => pmId 1 a 0 }) := by
  refine onEvent_next _ rfl hu (if_neg ?_)
  rw [hm]
  simpa using hl

theorem pmSyncSend_next (hu : (s.advance t).up = true) (hm : (s.advance t).muted = false) :
    exec (.pmSyncSend t) s = .next { s.advance t with out := { (s.advance t).out with
      lastSync := (pmId 5 Config.pmAll 0, (s.advance t).mtb / 10 ^ 6, (s.advance t).rd R.HOST_SYNC_GLOBAL_EPOCH) } } :=
  onEvent_next _ rfl hu (if_neg (by rw [hm]; decide))

/-! ### The run of the allocator (R122) -/

theorem allocatorRun_due_next (hu : (s.advance t).up = true) (ht : t % 10 ^ 9 = 0)
    (hlast : (s.advance t).out.lastRun < (s.advance t).mtb / 10 ^ 9) (hr : (s.advance t).reserveRole = false) :
    exec (.allocatorRun t) s = .next ({ s.advance t with
      out := { (s.advance t).out with lastRun := (s.advance t).mtb / 10 ^ 9 } } : State).allocatorRun := by
  have hnot : ¬ (t % 10 ^ 9 != 0 || decide ((s.advance t).mtb / 10 ^ 9 ≤ (s.advance t).out.lastRun)) = true := by
    rw [Bool.or_eq_true, bne_iff_ne, decide_eq_true_eq]
    omega
  have hactive : ¬ ({ s.advance t with out := { (s.advance t).out with
      lastRun := (s.advance t).mtb / 10 ^ 9 } } : State).reserveRole = true := fun h =>
    Bool.noConfusion (hr.symm.trans h)
  exact onEvent_next _ rfl hu ((if_neg hnot).trans (if_neg hactive))

theorem allocatorRun_early_next (hu : (s.advance t).up = true)
    (h : t % 10 ^ 9 ≠ 0 ∨ (s.advance t).mtb / 10 ^ 9 ≤ (s.advance t).out.lastRun) :
    exec (.allocatorRun t) s = .next (s.advance t) := by
  refine onEvent_next _ rfl hu (if_pos ?_)
  simpa using h

/-- No outlet has a session that shares the site's power (R123). -/
def NoShares (s : State) : Prop := (List.range 8).filter s.shares = []

theorem noShares_congr {u : State} (hst : SameSess s u) (htype : ∀ n, u.rd R.OUT_CFG_TYPE n = s.rd R.OUT_CFG_TYPE n)
    (hctrl : ∀ n, u.rd R.OUT_CFG_CTRL n = s.rd R.OUT_CFG_CTRL n) (h : NoShares s) : NoShares u := by
  have hshares : u.shares = s.shares := by
    funext n
    simp only [shares, outType, hostControlled, flag, hst n, htype n, hctrl n]
  rw [NoShares, hshares]
  exact h

theorem classOrder_of_noShares (h : NoShares s) (fallen : Bool) (c : Nat) : s.classOrder fallen c = [] := by
  have hnone : ∀ n < 8, s.shares n = false := by simpa [NoShares] using h
  have hmine : ((List.range 8).filter fun n => s.shares n && (s.outlet n).class_ == c && s.rd R.OUT_STAT_DIR n == 0) = [] :=
    List.filter_eq_nil_iff.2 fun n hn => by simp [hnone n (List.mem_range.1 hn)]
  rw [classOrder, hmine]
  rfl

theorem runOrder_of_noShares (h : NoShares s) (fallen : Bool) : s.runOrder fallen = [] :=
  List.flatMap_eq_nil_iff.2 fun c _ => classOrder_of_noShares h fallen c

theorem queuePositions_of_noShares (h : NoShares s) : s.queuePositions = s := by
  have hc : ∀ c s, NoShares s → forEach (((s.classOrder false c).filter fun n => (s.outlet n).st == .paused).zipIdx)
      (fun p s => s.wr R.OUT_ALLOC_STAT_QUEUE_POS p.1 (p.2 + 1)) s = s := by
    intro c s h
    rw [classOrder_of_noShares h]
    rfl
  simp only [queuePositions]
  generalize List.range 4 = cs
  induction cs with
  | nil => rfl
  | cons c cs ih => exact (congrArg (forEach cs _) (hc c s h)).trans ih

theorem reserveHost_rd (s : State) (n : Nat) (F : Fld) (m : Nat)
    (h : F.id ∉ [R.OUT_ALLOC_STAT_ALLOC_W.id, R.OUT_ALLOC_STAT_ENF_W.id]) : (s.reserveHost n).rd F m = s.rd F m := by
  simp only [List.mem_cons, List.not_mem_nil, or_false, not_or] at h
  obtain ⟨halloc, henf⟩ := h
  unfold reserveHost
  split
  · rw [rd_wr_ne _ _ _ _ _ henf, rd_wr_ne _ _ _ _ _ halloc]
  · rfl

theorem reserveHost_out (s : State) (n : Nat) : (s.reserveHost n).out = s.out := by
  unfold reserveHost
  split <;> rfl

theorem waitMinutes_rd (s : State) (n : Nat) (F : Fld) (m : Nat) (h : F.id ≠ R.OUT_ALLOC_STAT_WAIT_MIN.id) :
    (s.waitMinutes n).rd F m = s.rd F m := by
  unfold waitMinutes
  split
  · exact rd_wr_ne _ _ _ _ _ h
  · rfl

theorem waitMinutes_out (s : State) (n : Nat) : (s.waitMinutes n).out = s.out := by
  unfold waitMinutes
  split <;> rfl

/-- The effective limit is noted, with its event where it changed (R122). -/
def noteLimit (s : State) (limit src : Nat) : State :=
  if limit = s.out.lastEffective then s else
    ({ s with out := { s.out with lastEffective := limit, limitSrc := src } } : State).raise Ev.SITE_LIMIT 0 [src, limit]

theorem noteLimit_rd (s : State) (limit src : Nat) (F : Fld) (m : Nat) (h : F.id ∉ raiseIds) :
    (s.noteLimit limit src).rd F m = s.rd F m := by
  unfold noteLimit
  split
  · rfl
  · exact raise_rd _ _ _ _ _ h

theorem noteLimit_lastEffective (s : State) (limit src : Nat) : (s.noteLimit limit src).out.lastEffective = limit := by
  unfold noteLimit
  split
  · next hsame => exact hsame.symm
  · rw [raise_out]

theorem noteLimit_sameSess (s : State) (limit src : Nat) : SameSess s (s.noteLimit limit src) :=
  sameSess_ite (.refl s) (sameSess_raise (.refl s))

/-- What a run does before it shares power: the reserves of the host's outlets (R88), and the effective limit (R122). -/
def showLimit (s : State) (limit src : Nat) : State :=
  ((forEach (List.range 8) (fun n s => s.reserveHost n) s).wr R.OUT_SITE_EFFECTIVE_W 0 limit).noteLimit limit src

theorem showLimit_rd (s : State) (limit src : Nat) (F : Fld) (m : Nat) (h : F.id ∉ raiseIds) :
    (s.showLimit limit src).rd F m =
      ((forEach (List.range 8) (fun n s => s.reserveHost n) s).wr R.OUT_SITE_EFFECTIVE_W 0 limit).rd F m :=
  noteLimit_rd _ _ _ _ _ h

theorem showLimit_rd_kept (s : State) (limit src : Nat) (F : Fld) (m : Nat) (h : F.id ∉ R.OUT_SITE_EFFECTIVE_W.id ::
    R.OUT_ALLOC_STAT_ALLOC_W.id :: R.OUT_ALLOC_STAT_ENF_W.id :: raiseIds) : (s.showLimit limit src).rd F m = s.rd F m := by
  simp only [List.mem_cons, not_or] at h
  obtain ⟨heff, halloc, henf, hraise⟩ := h
  rw [showLimit_rd _ _ _ _ _ hraise, rd_wr_ne _ _ _ _ _ heff]
  exact rd_forEach fun n _ s => reserveHost_rd s n F m (by simp [halloc, henf])

theorem showLimit_effective (s : State) (limit src : Nat) :
    (s.showLimit limit src).rd R.OUT_SITE_EFFECTIVE_W = limit % 2 ^ 32 :=
  (showLimit_rd _ _ _ _ _ (by decide)).trans (rd_wr_same ..)

theorem showLimit_sameSess (s : State) (limit src : Nat) : SameSess s (s.showLimit limit src) := by
  have h₁ : SameSess s (forEach (List.range 8) (fun n s => s.reserveHost n) s) :=
    sameSess_out (forEach_keeps State.out (fun n s => reserveHost_out s n) _) (.refl s)
  unfold showLimit
  generalize forEach (List.range 8) (fun n s => s.reserveHost n) s = s₁ at h₁
  exact fun m => (noteLimit_sameSess _ limit src m).trans (h₁ m)

theorem showLimit_noShares (limit src : Nat) (h : NoShares s) : NoShares (s.showLimit limit src) :=
  noShares_congr (showLimit_sameSess s limit src) (fun n => showLimit_rd_kept _ _ _ _ n (by decide))
    (fun n => showLimit_rd_kept _ _ _ _ n (by decide)) h

/-- A run on a site whose outlets share nothing shows the effective limit and counts the minutes of the pauses (R122). -/
theorem allocatorRun_of_noShares {limit src : Nat} (hl : s.siteLimit = (limit, src)) (h : NoShares s) :
    s.allocatorRun = forEach (List.range 8) (fun n s => s.waitMinutes n) (s.showLimit limit src) := by
  have hnone := showLimit_noShares limit src h
  unfold allocatorRun
  rw [hl]
  dsimp -zeta only
  extract_lets fallen s₁ s₂ o₃ s₃ mine s₄ w s₅ ex s₆ s₇
  have hs₂ : s₂.noteLimit limit src = s.showLimit limit src := rfl
  clear_value s₂ s₁
  have hs₃ : s₃ = s.showLimit limit src := Eq.trans rfl hs₂
  have hmine : mine = (List.range 8).filter s₃.shares := rfl
  have hs₄ : ∃ f, s₄ = forEach mine f s₃ := ⟨_, rfl⟩
  have hs₅ : ∃ f, s₅ = forEach (s₄.runOrder fallen) f s₄ := ⟨_, rfl⟩
  have hs₆ : ∃ p f, s₆ = forEach (mine.filter p) f s₅ := ⟨_, _, rfl⟩
  have hs₇ : s₇ = s₆.queuePositions := rfl
  clear_value s₇ s₆ ex s₅ w s₄ mine s₃
  rw [← hs₃] at hnone ⊢
  rw [show mine = [] from hmine.trans hnone] at hs₄ hs₆
  obtain ⟨_, rfl : s₄ = s₃⟩ := hs₄
  rw [runOrder_of_noShares hnone] at hs₅
  obtain ⟨_, rfl : s₅ = s₄⟩ := hs₅
  obtain ⟨_, _, rfl : s₆ = s₅⟩ := hs₆
  rw [hs₇, queuePositions_of_noShares hnone]

theorem allocatorRun_effective {limit src : Nat} (hl : s.siteLimit = (limit, src)) (h : NoShares s) :
    s.allocatorRun.rd R.OUT_SITE_EFFECTIVE_W = limit % 2 ^ 32 ∧ s.allocatorRun.out.lastEffective = limit := by
  rw [allocatorRun_of_noShares hl h, rd_forEach fun n _ s => waitMinutes_rd s n _ _ (by decide),
    congrArg OutSt.lastEffective (forEach_keeps State.out (fun n s => waitMinutes_out s n) _)]
  exact ⟨showLimit_effective .., noteLimit_lastEffective ..⟩

/-! ### The time-outs of limits, enforcement and waiting (R122, R124, R125) -/

theorem trellisLimitExpiry_next {due : Nat} (hu : (s.advance t).up = true) (hd : (s.advance t).out.trellisDue = some due)
    (h : due ≤ (s.advance t).mtb) : exec (.trellisLimitExpiry t) s = .next { s.advance t with
      out := { (s.advance t).out with fallback := true, trellisDue := none } } := by
  refine onEvent_next _ rfl hu ?_
  simp only [hd]
  exact if_pos h

/-- The one step of a reduction that is due takes the enforcement value down to it (R125). -/
theorem enforcementGraceEnd_next {e : EnfStep} (hu : (s.advance t).up = true)
    (hs : ((s.advance t).outlet n).enfSteps = [e]) (h : e.due ≤ (s.advance t).mtb) :
    exec (.enforcementGraceEnd t n) s = .next (((s.advance t).wr R.OUT_ALLOC_STAT_ENF_W n
      (min ((s.advance t).rd R.OUT_ALLOC_STAT_ENF_W n) e.watts)).modOutlet n fun o => { o with
        enfSteps := o.enfSteps.filter fun e => decide ((s.advance t).mtb < e.due) }) := by
  have hdue : [e].filter (fun e => decide (e.due ≤ (s.advance t).mtb)) = [e] :=
    List.filter_cons_of_pos (decide_eq_true h)
  refine onEvent_next _ rfl hu ?_
  rw [hs, hdue]
  rfl

/-- A session that has waited for MAX_WAIT_MIN ends (R124, R128). -/
theorem allocMaxWait_next (hu : (s.advance t).up = true) (hp : ((s.advance t).outlet n).st = .paused)
    (hm : (s.advance t).rd R.OUT_POLICY_MAX_WAIT_MIN ≠ 0)
    (hw : (s.advance t).rd R.OUT_POLICY_MAX_WAIT_MIN ≤
      ((s.advance t).mtb - ((s.advance t).outlet n).pausedAt) / (60 * 10 ^ 9)) :
    exec (.allocMaxWait t n) s = .next (((((s.advance t).wr R.OUT_ALLOC_STAT_LAST n 5).raise Ev.ALLOC_REFUSED n
      [n, ((s.advance t).mtb - ((s.advance t).outlet n).pausedAt) / (60 * 10 ^ 9)]).openOutlet n 0).endSession n
        eALLOC_REFUSED) := by
  refine onEvent_next _ rfl hu (if_pos ?_)
  rw [hp, decide_eq_true hw, Bool.and_true, Bool.and_eq_true, bne_iff_ne]
  exact ⟨rfl, hm⟩

theorem pm_raise (s : State) (c i : Nat) (p : List Nat) (n k : Nat) : (s.raise c i p).pm n k = s.pm n k :=
  pm_congr (raise_out c i p) k

end State

open State in
/-- Settles O24: a frame of a module sets what the module holds; the run of the allocator without sessions that share is
`allocatorRun_of_noShares`, and each time-out is its own equation. -/
theorem powerModuleEvents : Obligations.PowerModuleEvents := by
  unfold Obligations.PowerModuleEvents
  refine ⟨?statusInvalid, ?status, ?ident, ?fault, ?lost, ?setpoint, ?sync, ?runDue, ?runEarly, ?effective,
    ?trellisExpiry, ?graceEnd, ?maxWait⟩
  case statusInvalid =>
    intro s t b c f a hu hv
    exact pmStatusFrame_invalid_next hu hv
  case status =>
    intro s t b c n i f a hu hv hpm
    refine ⟨_, pmStatusFrame_next hu hv hpm, ?_⟩
    rw [pm_modPm_same]
    exact ⟨rfl, rfl, rfl, rfl⟩
  case ident =>
    intro s t b c n i p q r v w k z a hu hpm
    refine ⟨_, pmIdentFrame_next hu hpm, ?_⟩
    rw [pm_modPm_same]
    exact ⟨rfl, rfl⟩
  case fault =>
    intro s t b c n i k v a hu hpm
    refine ⟨_, pmFaultFrame_next hu hpm, ?_, raise_told ..⟩
    rw [pm_raise, pm_modPm_same]
  case lost =>
    intro s t n i k a hu hk hl hd
    exact pmLost_next hu hk hl hd
  case setpoint =>
    intro s t n a hu hl hm
    refine ⟨_, setpointSend_next hu hl hm, ?_⟩
    rw [outlet_modOutlet_same]
    exact ⟨rfl, rfl, rfl⟩
  case sync =>
    intro s t a hu hm
    exact ⟨_, pmSyncSend_next hu hm, rfl⟩
  case runDue =>
    intro s t a hu ht hlast hr
    exact allocatorRun_due_next hu ht hlast hr
  case runEarly =>
    intro s t a hu h
    exact allocatorRun_early_next hu h
  case effective =>
    intro s l c hl h
    exact allocatorRun_effective hl h
  case trellisExpiry =>
    intro s t d a hu hd h
    exact ⟨_, trellisLimitExpiry_next hu hd h, rfl, rfl⟩
  case graceEnd =>
    intro s t n e a hu hs h
    refine ⟨_, enforcementGraceEnd_next hu hs h, ?_, ?_⟩
    · rw [modOutlet_rd, rd_wr_same]
    · rw [outlet_modOutlet_same, wr_outlet, hs]
      simp [a, h]
  case maxWait =>
    intro s t n a hu hp hm hw
    exact allocMaxWait_next hu hp hm hw

end Sys2Proof.Machine
end

section
/-! SUPPORT and PROOFS. Joint SLAC over the eight pilots: the runs that are kept (R105, R106), their resolution (R107), the
match (R108 to R110) and the failures (R111). -/

namespace Sys2Proof.Machine
namespace State

variable {s u : State} {t k n : Nat} {r : SlacRun}

/-! ### The runs that are kept -/

theorem slacRun_congr (h : u.out.slac = s.out.slac) (k : Nat) : u.slacRun k = s.slacRun k := by
  rw [slacRun, h]
  rfl

theorem id_of_slacRun (h : s.slacRun k = some r) : r.id = k :=
  beq_iff_eq.1 (List.find?_some (p := fun r : SlacRun => r.id == k) h)

theorem putSlac_slac (s : State) (r : SlacRun) :
    (s.putSlac r).out.slac = (s.out.slac.filter fun q => q.id != r.id) ++ [r] := by
  unfold putSlac
  extract_lets others
  rw [plcFollowAll_out]

theorem dropSlac_slac (s : State) (k : Nat) : (s.dropSlac k).out.slac = s.out.slac.filter fun q => q.id != k := by
  rw [dropSlac, plcFollowAll_out]

/-- No run of an id is left among those of another id. -/
theorem find_filter_other_id (l : List SlacRun) (k : Nat) : (l.filter fun q => q.id != k).find? (·.id == k) = none := by
  rw [List.find?_eq_none]
  intro q hq
  simpa using (List.mem_filter.1 hq).2

theorem slacRun_putSlac (s : State) (r : SlacRun) : (s.putSlac r).slacRun r.id = some r := by
  rw [slacRun, putSlac_slac, List.find?_append, find_filter_other_id, Option.none_or]
  exact List.find?_cons_of_pos (beq_self_eq_true _)

theorem slacRun_putSlac_of_id (s : State) (h : r.id = k) : (s.putSlac r).slacRun k = some r :=
  h ▸ slacRun_putSlac s r

theorem slacRun_dropSlac (s : State) (k : Nat) : (s.dropSlac k).slacRun k = none := by
  rw [slacRun, dropSlac_slac, find_filter_other_id]

/-! ### Requests and sounds (R105, R106) -/

theorem slacParmReq_next {pilots : List Nat} (hu : (s.advance t).up = true) (hk : (s.advance t).slacRun k = none)
    (hp : pilots.filter (s.advance t).slacTakesPart ≠ []) : ∃ b : State, exec (.slacParmReq t k pilots) s = .next
      (b.putSlac ⟨k, pilots.filter (s.advance t).slacTakesPart, none, .empty, [], 0, 0, none, .empty, none, false⟩) := by
  refine ⟨forEach (pilots.filter (s.advance t).slacTakesPart) (fun p s => s.modOutlet p fun o => { o with
    slacRetryDue := some (s.mtb + 50 * 10 ^ 9) }) (s.advance t), onEvent_next _ rfl hu ((if_neg hp).trans ?_)⟩
  generalize s.advance t = a at hk hp
  have hrun : (forEach (pilots.filter a.slacTakesPart) (fun p s => s.modOutlet p fun o => { o with
      slacRetryDue := some (s.mtb + 50 * 10 ^ 9) }) a).slacRun k = none :=
    (slacRun_congr (forEach_keeps (fun b => b.out.slac) (fun p b => modOutlet_slac p _) _) k).trans hk
  simp only [hrun]

theorem startAttenChar_next (hu : (s.advance t).up = true) (hk : (s.advance t).slacRun k = some r)
    (hw : r.windowEnd = none) (hh : r.holders = []) : exec (.startAttenChar t k) s =
      .next ((s.advance t).putSlac { r with windowEnd := some ((s.advance t).mtb + 600 * 10 ^ 6) }) := by
  refine onEvent_next _ rfl hu ?_
  simp only [hk]
  exact if_pos (by rw [hw, hh]; rfl)

theorem mnbcSound_next {w : Nat} {meas : List (Nat × List Nat)} (hu : (s.advance t).up = true)
    (hk : (s.advance t).slacRun k = some r) (hw : r.windowEnd = some w) (ht : (s.advance t).mtb ≤ w) :
    exec (.mnbcSound t k meas) s = .next ((s.advance t).putSlac { r with
      heard := meas.foldl (fun h p => h.upd (0, 0) p.1 fun q => (q.1 + 1, q.2 + p.2.sum)) r.heard }) := by
  refine onEvent_next _ rfl hu ?_
  simp only [hk, hw]
  exact if_pos (decide_eq_true ht)

theorem slacWindowClose_next (hu : (s.advance t).up = true) :
    exec (.slacWindowClose t) s = .next (s.advance t).slacClose := onEvent_next _ rfl hu rfl

/-! ### The joint resolution (R107) -/

/-- The nearest pilot that hears a run is assigned it where the next one is further by the margin (R107). -/
theorem slacResolve_assigned {taken rest : List Nat} {p q : Nat}
    (hh : (slacHeard r).filter (fun j => !taken.contains j) = p :: q :: rest) (hp : s.slacTakesPart p = true)
    (hm : 10 * s.rd R.OUT_POLICY_SLAC_MARGIN_DB ≤ slacMean r q - slacMean r p) :
    s.slacResolve r taken = .assigned p (slacMean r q - slacMean r p) := by
  simp only [slacResolve, hh]
  rw [if_pos hm, if_pos hp]

theorem slacResolve_nobody {taken : List Nat} (hh : (slacHeard r).filter (fun j => !taken.contains j) = []) :
    s.slacResolve r taken = .nobody := by
  simp only [slacResolve, hh]

/-! ### Validation and match (R108 to R110) -/

theorem slacValidate_next {counted : List (Nat × Nat)} (hu : (s.advance t).up = true)
    (hk : (s.advance t).slacRun k = some r) (ha : r.amb = true) (h1 : 1 ≤ n) (h3 : n ≤ 3) :
    exec (.slacValidate t k n counted) s = .next ((s.advance t).putSlac { r with
      announced := some n, toggles := counted.foldl (fun g p => g.put 0 p.1 p.2) .empty }) := by
  refine onEvent_next _ rfl hu ?_
  simp only [hk]
  refine if_neg ?_
  rw [ha, decide_eq_false (by omega : ¬ n = 0), decide_eq_false (by omega : ¬ 3 < n)]
  decide

/-- What a match makes of a pilot's outlet (R108, R110): the key and the NID of its network, and its protocol runs. -/
def matched (o : Outlet) (key nid : Nat) : Outlet :=
  { o with nmk := key, nid := nid, hlcRunning := true, slacFails := 0, slacRetryDue := none }

theorem slacMatchReq_next {p : Nat} (hu : (s.advance t).up = true) (hk : (s.advance t).slacRun k = some r)
    (hm : slacMatched r = some p) (hp : (s.advance t).slacTakesPart p = true) (hd : (s.advance t).drbgOk = true) :
    ∃ (b : State) (nid : Nat) (payload : List Nat), exec (.slacMatchReq t k p) s = .next
      ((((b.dropSlac k).modOutlet p fun o => matched o ((s.advance t).drbgNext 128).1 nid).raise Ev.SLAC_RESULT p
        payload).setSess p .negotiating 0 0) := by
  have hok : (decide (slacMatched r = some p) && (s.advance t).slacTakesPart p && (s.advance t).drbgOk) = true := by
    rw [decide_eq_true hm, hp, hd]
    rfl
  refine ⟨((s.advance t).drbgNext 128).2.takeFree.2, 8 * (((s.advance t).drbgNext 128).2.takeFree.1 % 2 ^ 51) + p,
    [p, k % 2 ^ 32, slacMean r p, if r.amb then slacMargin r p else r.margin, b2n r.amb], onEvent_next _ rfl hu ?_⟩
  simp only [hk]
  exact (if_pos hok).trans rfl

/-- The outlet of a match, and the run that is over (R108, R110). -/
theorem matched_outlet (b : State) (p key nid : Nat) (payload : List Nat) :
    let u := (((b.dropSlac k).modOutlet p fun o => matched o key nid).raise Ev.SLAC_RESULT p payload).setSess p
      .negotiating 0 0
    (u.outlet p).st = .negotiating ∧ (u.outlet p).hlcRunning = true ∧ (u.outlet p).nmk = key ∧ u.slacRun k = none := by
  intro u
  have ho : u.outlet p = { matched ((b.dropSlac k).outlet p) key nid with st := .negotiating } := by
    unfold u
    rw [setSess_outlet, raise_outlet, outlet_modOutlet_same]
    rfl
  have hs : u.out.slac = (b.dropSlac k).out.slac := by
    unfold u
    rw [setSess_out, modOutlet_slac, raise_out, modOutlet_slac]
  rw [ho, slacRun_congr hs, slacRun_dropSlac]
  exact ⟨rfl, rfl, rfl, rfl⟩

/-! ### Runs without a match (R111) -/

theorem slacMatchTimeout_next (hu : (s.advance t).up = true) (hk : (s.advance t).slacRun k = some r)
    (hh : r.holders ≠ []) : exec (.slacMatchTimeout t k) s =
      .next (r.holders.foldl (fun b p => b.slacFail p) ((s.advance t).dropSlac k)) := by
  refine onEvent_next _ rfl hu ?_
  simp only [hk]
  exact (if_neg hh).trans rfl

theorem slacInitTimeout_next {due : Nat} (hu : (s.advance t).up = true)
    (hd : ((s.advance t).outlet n).slacRetryDue = some due) (h : due ≤ (s.advance t).mtb)
    (hc : ((s.advance t).outlet n).st = .connected) : exec (.slacInitTimeout t n) s = .next ((s.advance t).slacFail n) := by
  refine onEvent_next _ rfl hu ?_
  simp only [hd]
  exact if_pos (by rw [hc, decide_eq_true h]; rfl)

/-- A first or second failure waits 50 s for a retry (R111). -/
theorem slacFail_outlet (h : (s.outlet n).slacFails < 2) : (s.slacFail n).outlet n = { s.outlet n with
    slacFails := (s.outlet n).slacFails + 1, slacRetryDue := some (s.mtb + 50 * 10 ^ 9) } := by
  have hf : (s.outlet n).slacFails + 1 < 3 := by omega
  unfold slacFail
  extract_lets f s₁
  have hs : s₁.outlet n = { s.outlet n with
      slacFails := f, slacRetryDue := if f < 3 then some (s.mtb + 50 * 10 ^ 9) else none } := outlet_modOutlet_same ..
  rw [if_pos (by rw [decide_eq_true (show f < 3 from hf)]; rfl), hs, if_pos (show f < 3 from hf)]

end State

open State in
/-- Settles O26: each frame's effect is its `_next` equation, and what it leaves of the runs follows from `slacRun_putSlac`
and `slacRun_dropSlac`. -/
theorem slacEvents : Obligations.SlacEvents := by
  unfold Obligations.SlacEvents
  refine ⟨?parmReq, ?attenChar, ?sound, ?windowClose, ?assigned, ?nobody, ?validate, ?matchReq, ?matchTimeout,
    ?initTimeout, ?retry⟩
  case parmReq =>
    intro s t k p a hu hk hp
    obtain ⟨b, hb⟩ := slacParmReq_next hu hk hp
    refine ⟨_, hb, ?_⟩
    rw [slacRun_putSlac_of_id b rfl]
    exact ⟨rfl, rfl⟩
  case attenChar =>
    intro s t k r a hu hk hw hh
    have hid : r.id = k := id_of_slacRun hk
    refine ⟨_, startAttenChar_next hu hk hw hh, slacRun_putSlac_of_id a ?_⟩
    exact hid
  case sound =>
    intro s t k w p g r a hu hk hw ht
    have hid : r.id = k := id_of_slacRun hk
    refine ⟨_, mnbcSound_next hu hk hw ht, ?_⟩
    rw [slacRun_putSlac_of_id]
    · simp only [List.foldl_cons, List.foldl_nil, Option.map_some, Tab.upd, Tab.get_put, if_pos]
    · exact hid
  case windowClose =>
    intro s t a hu
    exact slacWindowClose_next hu
  case assigned =>
    intro s r l p q z hh hp hm
    exact slacResolve_assigned hh hp hm
  case nobody =>
    intro s r l hh
    exact slacResolve_nobody hh
  case validate =>
    intro s t k n r a hu hk ha h1 h3
    have hid : r.id = k := id_of_slacRun hk
    refine ⟨_, slacValidate_next hu hk ha h1 h3, ?_⟩
    rw [slacRun_putSlac_of_id]
    · rfl
    · exact hid
  case matchReq =>
    intro s t k p r a hu hk hm hp hd
    obtain ⟨b, nid, payload, hb⟩ := slacMatchReq_next hu hk hm hp hd
    exact ⟨_, hb, matched_outlet b p _ nid payload⟩
  case matchTimeout =>
    intro s t k r a hu hk hh
    exact slacMatchTimeout_next hu hk hh
  case initTimeout =>
    intro s t n d a hu hd h hc
    exact slacInitTimeout_next hu hd h hc
  case retry =>
    intro s n h
    rw [slacFail_outlet h]
    exact ⟨rfl, rfl⟩

end Sys2Proof.Machine
end

section
/-! SUPPORT. Masks: what setting and clearing a bit does to it, and the mask of the outlets for which a condition holds. -/

namespace Sys2Proof.Machine

theorem bit_eq_testBit (n i : Nat) : bit n i = n.testBit i := by
  rw [Nat.testBit_eq_decide_div_mod_eq]
  rfl

@[simp] theorem bit_setBit_same (m b : Nat) : bit (setBit m b) b = true := by
  unfold setBit
  split
  · assumption
  · next h =>
    rw [bit_eq_testBit, Nat.add_comm, Nat.testBit_two_pow_add_eq, ← bit_eq_testBit, Bool.eq_false_of_not_eq_true h]
    rfl

@[simp] theorem bit_clearBit_same (m b : Nat) : bit (clearBit m b) b = false := by
  unfold clearBit
  split
  · next h =>
    rw [bit_eq_testBit] at h
    have hm : m = 2 ^ b + (m - 2 ^ b) := (Nat.add_sub_cancel' (Nat.ge_two_pow_of_testBit h)).symm
    rw [hm, Nat.testBit_two_pow_add_eq] at h
    rw [bit_eq_testBit]
    simpa using h
  · next h => exact Bool.eq_false_of_not_eq_true h

theorem setBit_of_bit {m b : Nat} (h : bit m b = true) : setBit m b = m := if_pos h

theorem ne_zero_of_bit {m b : Nat} (h : bit m b = true) : m ≠ 0 := by
  rintro rfl
  simp [bit] at h

/-- The sum of the powers of the numbers below `k` for which a condition holds has just their bits. -/
theorem testBit_sum_two_pow (p : Nat → Bool) (k : Nat) :
    let m := (List.range k).foldl (fun m n => m + if p n then 2 ^ n else 0) 0
    m < 2 ^ k ∧ ∀ n < k, m.testBit n = p n := by
  induction k with
  | zero => exact ⟨Nat.zero_lt_one, fun n hn => absurd hn (Nat.not_lt_zero n)⟩
  | succ k ih =>
    obtain ⟨hlt, hbit⟩ := ih
    simp only [List.range_succ, List.foldl_append, List.foldl_cons, List.foldl_nil]
    generalize (List.range k).foldl (fun m n => m + if p n then 2 ^ n else 0) 0 = m at hlt hbit
    rw [Nat.add_comm]
    cases hp : p k with
    | false =>
      simp only [Bool.false_eq_true, if_false, Nat.zero_add]
      refine ⟨by rw [Nat.pow_succ]; omega, fun n hn => ?_⟩
      rcases Nat.lt_succ_iff_lt_or_eq.1 hn with h | rfl
      · exact hbit n h
      · rw [hp, Nat.testBit_lt_two_pow hlt]
    | true =>
      simp only [if_true]
      refine ⟨by rw [Nat.pow_succ]; omega, fun n hn => ?_⟩
      rcases Nat.lt_succ_iff_lt_or_eq.1 hn with h | rfl
      · rw [Nat.testBit_two_pow_add_gt h, hbit n h]
      · rw [hp, Nat.testBit_two_pow_add_eq, Nat.testBit_lt_two_pow hlt]
        rfl

theorem bit_outMask (p : Nat → Bool) {n : Nat} (hn : n < 8) : bit (State.outMask p) n = p n :=
  (bit_eq_testBit _ _).trans ((testBit_sum_two_pow p 8).2 n hn)

theorem forEach_cons {α σ : Type} (f : α → σ → σ) (x : α) (xs : List α) (s : σ) :
    forEach (x :: xs) f s = forEach xs f (f x s) := rfl

/-- A loop none of whose rounds changes a part of the state leaves it as it is. -/
theorem forEach_away {α β σ : Type} {f : α → σ → σ} (g : σ → β) {xs : List α}
    (hf : ∀ y ∈ xs, ∀ s, g (f y s) = g s) (s : σ) : g (forEach xs f s) = g s := by
  unfold forEach
  induction xs generalizing s with
  | nil => rfl
  | cons y ys ih =>
    exact (ih (fun z hz => hf z (List.mem_cons_of_mem y hz)) (f y s)).trans (hf y List.mem_cons_self s)

/-- A loop whose round at `x` changes a part of the state by `r`, where no other round changes that part and none
changes what `r` depends on, changes it by `r`. -/
theorem forEach_at {α β σ : Type} {f : α → σ → σ} (g : σ → β) (r : σ → β → β) {x : α}
    (hown : ∀ s, g (f x s) = r s (g s)) (hother : ∀ y s, y ≠ x → g (f y s) = g s) (hr : ∀ y s, r (f y s) = r s)
    {xs : List α} (hnd : xs.Nodup) (hx : x ∈ xs) (s : σ) : g (forEach xs f s) = r s (g s) := by
  induction xs generalizing s with
  | nil => exact absurd hx List.not_mem_nil
  | cons y ys ih =>
    obtain ⟨hy, hys⟩ := List.nodup_cons.1 hnd
    rcases List.mem_cons.1 hx with rfl | hx
    · exact (forEach_away g (fun z hz t => hother z t fun e => hy (e ▸ hz)) (f x s)).trans (hown s)
    · refine (ih hys hx (f y s)).trans ?_
      rw [hr, hother y s fun e => hy (e ▸ hx)]

end Sys2Proof.Machine
end

section
/-! SUPPORT. What a safety opening, a trip and the end of a session spare: the time base, the fields by which the safety
channels decide, and the parts of their own state that are not coils and outlets (R144, R167 to R171). -/

namespace Sys2Proof.Machine

/-- The register fields that the safety channels decide by and that no opening, trip or end of a session writes: what
runs (R170), the insulation monitor's result (R162) and the set-up of the SAFE_IN inputs (R156). -/
def decisionFields : List Fld :=
  [R.SAFE_STATUS_A_RUN, R.SAFE_STATUS_B_RUN, R.SAFE_STATUS_TABLE_OK, R.SAFE_IMD_INS_KOHM, R.SAFE_IMD_RESULT,
    R.SAFE_IN_CFG_EN, R.SAFE_IN_CFG_ACTION, R.SAFE_IN_CFG_POL, R.SAFE_IN_CFG_OUTLETS]

/-- A field has the number of none of these. -/
def beside (F : Fld) : Bool := !(decisionFields.map Fld.id).contains F.id

theorem beside_ne {F G : Fld} (hF : beside F = true) (hG : G ∈ decisionFields) : G.id ≠ F.id := by
  intro h
  simp only [beside, List.contains_eq_mem, Bool.not_eq_true', decide_eq_false_iff_not] at hF
  exact hF (h ▸ List.mem_map_of_mem hG)

/-- From `s₀` to `s` the time base, the decision fields and the safety channels' own state have stayed, but for the coils,
the outlets' protection states and the dark test. -/
structure State.Shown (s₀ s : State) : Prop where
  mtb : s.mtb = s₀.mtb
  fields : ∀ F ∈ decisionFields, ∀ n, s.rd F n = s₀.rd F n
  safe : s.safe = { s₀.safe with coils := s.safe.coils, outs := s.safe.outs, test := s.safe.test }

/-- Besides, no outlet has another fault, and no pilot has changed but to state F. -/
structure State.Spared (s₀ s : State) : Prop extends State.Shown s₀ s where
  faults : ∀ m, (s.os m).active = (s₀.os m).active ∧ (s.os m).latched = (s₀.os m).latched
  pilot : ∀ m, (s.outlet m).out = (s₀.outlet m).out ∨ (s.outlet m).out = .stateF

namespace State

variable {s₀ s t : State} {n : Nat}

theorem os_modOs (n m : Nat) (f : OutSafe → OutSafe) : (s.modOs n f).os m = if m = n then f (s.os n) else s.os m := by
  simp only [os, modOs, Tab.upd, Tab.get_put]

@[simp] theorem os_modOs_same (n : Nat) (f : OutSafe → OutSafe) : (s.modOs n f).os n = f (s.os n) :=
  (os_modOs n n f).trans (if_pos rfl)

theorem coil_modCoil_same (s : State) (k : Nat) (f : Coil → Coil) : (s.modCoil k f).coil k = f (s.coil k) :=
  (coil_modCoil s k k f).trans (if_pos rfl)

theorem coil_modCoil_ne (s : State) {k y : Nat} (f : Coil → Coil) (h : y ≠ k) : (s.modCoil y f).coil k = s.coil k :=
  (coil_modCoil s y k f).trans (if_neg (Ne.symm h))

@[simp] theorem modOs_outlet (n m : Nat) (f : OutSafe → OutSafe) : (s.modOs n f).outlet m = s.outlet m := rfl

theorem os_congr (h : t.safe = s.safe) (m : Nat) : t.os m = s.os m := by
  rw [os, h]
  rfl

/-! ### What stays shown -/

theorem Shown.refl (s : State) : Shown s s := ⟨rfl, fun _ _ _ => rfl, rfl⟩

theorem Shown.trans (h : Shown s₀ s) (k : Shown s t) : Shown s₀ t :=
  ⟨k.mtb.trans h.mtb, fun F hF n => (k.fields F hF n).trans (h.fields F hF n), by rw [k.safe, h.safe]⟩

theorem Shown.flag (h : Shown s₀ s) {F : Fld} (hF : F ∈ decisionFields) (n : Nat) : s.flag F n = s₀.flag F n := by
  unfold State.flag
  rw [h.fields F hF]

theorem Shown.inActive (h : Shown s₀ s) (m : Nat) : s.inActive m = s₀.inActive m := by
  unfold State.inActive
  rw [h.flag (by decide), h.safe]

theorem Shown.inServes (h : Shown s₀ s) (action n m : Nat) : s.inServes action n m = s₀.inServes action n m := by
  unfold State.inServes
  rw [h.flag (by decide), h.fields _ (by decide), h.fields _ (by decide)]

theorem shown_modOs (f : OutSafe → OutSafe) : Shown s (s.modOs n f) := ⟨rfl, fun _ _ _ => rfl, rfl⟩

theorem shown_modOutlet (f : Outlet → Outlet) : Shown s (s.modOutlet n f) := ⟨rfl, fun _ _ _ => rfl, rfl⟩

/-! ### What is spared -/

theorem Spared.refl (s : State) : Spared s s := ⟨.refl s, fun _ => ⟨rfl, rfl⟩, fun _ => .inl rfl⟩

theorem Spared.trans (h : Spared s₀ s) (k : Spared s t) : Spared s₀ t where
  toShown := h.toShown.trans k.toShown
  faults m := ⟨(k.faults m).1.trans (h.faults m).1, (k.faults m).2.trans (h.faults m).2⟩
  pilot m := (k.pilot m).elim (fun e => e ▸ h.pilot m) .inr

theorem spared_ite {a b : State} {c : Prop} {inst : Decidable c} (ha : Spared s₀ a) (hb : Spared s₀ b) :
    Spared s₀ (if c then a else b) := by
  split
  · exact ha
  · exact hb

theorem spared_forEach {α : Type} {f : α → State → State} (hf : ∀ {x s}, Spared s₀ s → Spared s₀ (f x s)) {xs : List α}
    {s : State} (h : Spared s₀ s) : Spared s₀ (forEach xs f s) := by
  unfold forEach
  induction xs generalizing s with
  | nil => exact h
  | cons x xs ih => exact ih (hf h)

/-- An update of any part but the registers, the time base, the safety channels and the outlets. -/
theorem spared_upd {q : List Instr} {a k : Nat} {ph : Phase} {st : Tab Nat} {ho : HostSt} {ar : ArchSt} {c : CaskSt}
    {af : AfeSt} {fi : FiltSt} {me : MetSt} {l : LedgerSt} {ke : KeySt} {pl : PlcSt} {tg : TagSt} {d : DispSt}
    {lw : LswSt} {u : UpdSt} {tw : TwinSt} {pw : PwrSt} (h : Spared s₀ s) :
    Spared s₀ ⟨q, s.regs, s.mtb, a, k, ph, st, ho, ar, c, s.out, s.safe, af, fi, me, l, ke, pl, tg, d, lw, u, tw, pw⟩ :=
  ⟨⟨h.mtb, h.fields, h.safe⟩, h.faults, h.pilot⟩

/-- An operation of the HOST island alone that writes none of the decision fields. -/
theorem spared_only {ids : List Nat} (ho : HostOnly s t) (hr : RegsBut ids s t)
    (hids : (decisionFields.all fun F => !ids.contains F.id) = true) (h : Spared s₀ s) : Spared s₀ t := by
  have hrd : ∀ F ∈ decisionFields, ∀ n, t.rd F n = s.rd F n := fun F hF n => hr F n (by
    simpa using List.all_eq_true.1 hids F hF)
  refine h.trans ⟨⟨ho.mtb, hrd, by rw [ho.safe]⟩, fun m => ?_, fun m => .inl (by rw [outlet_congr ho.out])⟩
  rw [os_congr ho.safe]
  exact ⟨rfl, rfl⟩

theorem spared_wr {F : Fld} {v : Nat} (hF : beside F = true) (h : Spared s₀ s) : Spared s₀ (s.wr F n v) :=
  h.trans ⟨⟨rfl, fun _ hG _ => rd_wr_ne _ _ _ _ _ (beside_ne hF hG), rfl⟩, fun _ => ⟨rfl, rfl⟩, fun _ => .inl rfl⟩

theorem spared_raise {c i : Nat} {p : List Nat} (h : Spared s₀ s) : Spared s₀ (s.raise c i p) :=
  spared_only (raise_spec c i p).1.only (raise_spec c i p).1.regs (by decide) h

theorem spared_complete {x : Ctx} {st r : Nat} (h : Spared s₀ s) : Spared s₀ (s.complete x st r) :=
  spared_only (complete_spec x st r).1.only (complete_spec x st r).1.regs (by decide) h

theorem spared_finalise {x : Ctx} {st : Nat} (h : Spared s₀ s) : Spared s₀ (s.finalise x st) :=
  spared_only (finalise_spec x st).1.only (finalise_spec x st).1.regs (by decide) h

theorem spared_alert {F : Fld} (hF : (decisionFields.all fun G => !([F.id].contains G.id)) = true) (h : Spared s₀ s) :
    Spared s₀ (s.alert F) :=
  spared_only (quiet_alert F).only (quiet_alert F).regs hF h

theorem spared_modOs {f : OutSafe → OutSafe} (hf : ∀ o, (f o).active = o.active ∧ (f o).latched = o.latched)
    (h : Spared s₀ s) : Spared s₀ (s.modOs n f) := by
  refine h.trans ⟨shown_modOs f, fun m => ?_, fun _ => .inl rfl⟩
  rw [os_modOs]
  split
  · next hm => rw [hm]; exact hf _
  · exact ⟨rfl, rfl⟩

theorem spared_modCoil {f : Coil → Coil} (h : Spared s₀ s) : Spared s₀ (s.modCoil n f) :=
  h.trans ⟨⟨rfl, fun _ _ _ => rfl, rfl⟩, fun _ => ⟨rfl, rfl⟩, fun _ => .inl rfl⟩

theorem spared_modOutlet {f : Outlet → Outlet} (hf : ∀ o, (f o).out = o.out ∨ (f o).out = .stateF) (h : Spared s₀ s) :
    Spared s₀ (s.modOutlet n f) := by
  refine h.trans ⟨⟨rfl, fun _ _ _ => rfl, rfl⟩, fun _ => ⟨rfl, rfl⟩, fun m => ?_⟩
  rw [outlet_modOutlet]
  split
  · next hm => rw [hm]; exact hf _
  · exact .inl rfl

/-! ### Openings (R144, R148, R167) -/

theorem addJob_spared {j : CableJob} (h : Spared s₀ s) : Spared s₀ (s.addJob j) := by
  unfold addJob setJobs
  split <;> exact spared_wr (by decide) (spared_upd h)

theorem shadowGo_spared (h : Spared s₀ s) : Spared s₀ (s.shadowGo n) := by
  unfold shadowGo
  extract_lets was s₁ s₂
  have h₁ : Spared s₀ s₁ := addJob_spared (spared_wr (by decide) h)
  have h₂ : Spared s₀ s₂ := spared_wr (by decide) (spared_wr (by decide) h₁)
  exact spared_ite (spared_raise (spared_modOutlet (fun _ => .inl rfl) h₂)) h₁

theorem cableOpening_spared (h : Spared s₀ s) : Spared s₀ (s.cableOpening n) :=
  spared_ite h (shadowGo_spared (spared_wr (by decide) h))

theorem noteOpening_spared (h : Spared s₀ s) : Spared s₀ (s.noteOpening n) := by
  unfold noteOpening
  extract_lets load on s₁ s₂
  have h₁ : Spared s₀ s₁ := spared_ite (spared_forEach (fun h => spared_wr (by decide) h) h) h
  have h₂ : Spared s₀ s₂ := spared_ite (cableOpening_spared h₁) h₁
  exact spared_ite h (spared_modOs (fun _ => ⟨rfl, rfl⟩) h₂)

theorem pmOff_spared (h : Spared s₀ s) : Spared s₀ (s.pmOff n) :=
  spared_ite (spared_modOutlet (fun _ => .inl rfl) h) h

theorem endTest_spared {d : Option (Nat × Bool × Nat × Bool)} (h : Spared s₀ s) :
    Spared s₀ { s with safe := { s.safe with test := d } } :=
  h.trans ⟨⟨rfl, fun _ _ _ => rfl, rfl⟩, fun _ => ⟨rfl, rfl⟩, fun _ => .inl rfl⟩

theorem coilOff_spared {k demand : Nat} (h : Spared s₀ s) : Spared s₀ (s.coilOff k demand) :=
  spared_modCoil (spared_ite (endTest_spared (spared_raise (spared_wr (by decide) h))) h)

theorem openOutlet_spared {demand : Nat} (h : Spared s₀ s) : Spared s₀ (s.openOutlet n demand) :=
  spared_forEach coilOff_spared (pmOff_spared (noteOpening_spared h))

theorem dropClose_spared (h : Spared s₀ s) : Spared s₀ (s.dropClose n) :=
  spared_ite h (spared_forEach spared_complete (spared_modOutlet (fun _ => .inl rfl) h))

theorem abortCask_spared {k status i l result : Nat} (h : Spared s₀ s) :
    Spared s₀ (s.abortCask k status i l result) := by
  unfold abortCask
  extract_lets c s₁ s₂ s₃
  have h₂ : Spared s₀ s₂ := spared_raise (spared_wr (by decide) h)
  have h₃ : Spared s₀ s₃ := by
    unfold s₃
    split
    · exact spared_complete h₂
    · exact spared_finalise h₂
    · exact h₂
  exact spared_upd (s := s₃) h₃

theorem caskSafety_spared (h : Spared s₀ s) : Spared s₀ (s.caskSafety n) := by
  refine spared_forEach (fun {k s} h => ?_) (dropClose_spared h)
  simp only
  split
  · exact h
  · refine spared_ite (abortCask_spared h) (spared_ite ?_ h)
    split
    · exact spared_upd h
    · exact h

theorem erem_spared {demand : Nat} (h : Spared s₀ s) : Spared s₀ (s.erem n demand) :=
  spared_modOs (fun _ => ⟨rfl, rfl⟩) (caskSafety_spared (openOutlet_spared h))

theorem driveF_spared (h : Spared s₀ s) : Spared s₀ (s.driveF n) := spared_modOutlet (fun _ => .inr rfl) h

theorem outletSafe_spared {demand : Nat} (h : Spared s₀ s) : Spared s₀ (s.outletSafe n demand) := by
  unfold outletSafe
  exact spared_modOs (fun _ => ⟨rfl, rfl⟩) (driveF_spared (erem_spared h))

/-- The pilot of an outlet in its safe state is at state F (R169). -/
theorem outletSafe_out (s : State) (n demand : Nat) : ((s.outletSafe n demand).outlet n).out = .stateF := by
  unfold outletSafe driveF
  rw [modOs_outlet, outlet_modOutlet_same]

/-! ### Trips (R170, R171) -/

theorem refreshSafeOk_spared (h : Spared s₀ s) : Spared s₀ s.refreshSafeOk :=
  spared_ite h (spared_alert (by decide) (spared_wr (by decide) h))

/-- The state with a fault of module scope noted. -/
def moduleFault (s : State) (code : Nat) : State :=
  { s with safe := { s.safe with
    modActive := setBit s.safe.modActive code, modLatched := setBit s.safe.modLatched code } }

/-- Every outlet in its safe state (R169, R170). -/
def allSafe (s : State) (demand : Nat) : State := forEach (List.range 8) (fun n s => s.outletSafe n demand) s

theorem allSafe_spared {demand : Nat} (h : Spared s₀ s) : Spared s₀ (s.allSafe demand) :=
  spared_forEach outletSafe_spared h

theorem moduleTrip_new {code : Nat} (chan since : Nat) (h : bit s.safe.modActive code = false) :
    s.moduleTrip code chan since = ((s.moduleFault code).allSafe code).refreshSafeOk.raise Ev.SAFE_TRIP 0xFF
      [code, 0xFF, chan, since, ((s.moduleFault code).allSafe code).mtb] := by
  unfold moduleTrip
  exact if_neg (by rw [h]; decide)

/-- What a new fault of module scope spares, once it is noted. -/
theorem moduleTrip_spared {code : Nat} (chan since : Nat) (h : bit s.safe.modActive code = false) :
    Spared (s.moduleFault code) (s.moduleTrip code chan since) := by
  rw [moduleTrip_new chan since h]
  exact spared_raise (refreshSafeOk_spared (allSafe_spared (.refl _)))

theorem moduleTrip_told {code : Nat} (chan since : Nat) (h : bit s.safe.modActive code = false) :
    (s.moduleTrip code chan since).told = some (Ev.SAFE_TRIP, 0xFF, [code, 0xFF, chan, since, s.mtb]) := by
  have hmtb : ((s.moduleFault code).allSafe code).mtb = s.mtb := (allSafe_spared (.refl (s.moduleFault code))).mtb
  rw [moduleTrip_new chan since h, raise_told, hmtb]

theorem moduleTrip_safe {code : Nat} (chan since : Nat) (h : bit s.safe.modActive code = false) :
    ∃ cs os te, (s.moduleTrip code chan since).safe =
      { (s.moduleFault code).safe with coils := cs, outs := os, test := te } :=
  ⟨_, _, _, (moduleTrip_spared chan since h).safe⟩

theorem moduleTrip_flag {code : Nat} (chan since : Nat) (h : bit s.safe.modActive code = false) {F : Fld}
    (hF : F ∈ decisionFields) (m : Nat) : (s.moduleTrip code chan since).flag F m = s.flag F m :=
  (moduleTrip_spared chan since h).toShown.flag hF m

/-- SAFE_OK is low while a fault of module scope is active (R170). -/
theorem refreshSafeOk_low (h : s.safe.modActive ≠ 0) : s.refreshSafeOk.flag R.SAFE_STATUS_SAFE_OK = false := by
  unfold refreshSafeOk
  extract_lets ok
  have hok : ok = false := by simp [ok, h]
  rw [hok]
  split
  · next hlow => exact (eq_of_beq hlow).symm
  · unfold State.flag setFlag
    rw [alert_rd _ _ _ (by decide), rd_wr_same]
    rfl

theorem moduleTrip_safeOk {code : Nat} (chan since : Nat) (h : bit s.safe.modActive code = false) :
    (s.moduleTrip code chan since).flag R.SAFE_STATUS_SAFE_OK = false := by
  rw [moduleTrip_new chan since h, raise_flag _ _ _ _ _ (by decide), refreshSafeOk_low]
  rw [(allSafe_spared (.refl (s.moduleFault code))).safe]
  exact ne_zero_of_bit (bit_setBit_same _ _)

theorem Spared.stateF (h : Spared s₀ s) (hF : (s₀.outlet n).out = .stateF) : (s.outlet n).out = .stateF :=
  (h.pilot n).elim (fun e => e.trans hF) id

theorem forEach_outletSafe_out {demand : Nat} {xs : List Nat} (hn : n ∈ xs) (s : State) :
    ((forEach xs (fun k s => s.outletSafe k demand) s).outlet n).out = .stateF := by
  induction xs generalizing s with
  | nil => exact absurd hn List.not_mem_nil
  | cons x xs ih =>
    rw [forEach_cons]
    by_cases hxs : n ∈ xs
    · exact ih hxs _
    · obtain rfl : n = x := (List.mem_cons.1 hn).resolve_right hxs
      have hrest : Spared (s.outletSafe n demand)
          (forEach xs (fun k s => s.outletSafe k demand) (s.outletSafe n demand)) :=
        spared_forEach outletSafe_spared (.refl _)
      exact hrest.stateF (outletSafe_out s n demand)

/-- A new fault of module scope brings every pilot to state F (R170). -/
theorem moduleTrip_out {code : Nat} (chan since : Nat) (h : bit s.safe.modActive code = false) (hn : n < 8) :
    ((s.moduleTrip code chan since).outlet n).out = .stateF := by
  rw [moduleTrip_new chan since h, raise_outlet]
  exact (refreshSafeOk_spared (.refl _)).stateF (forEach_outletSafe_out (List.mem_range.2 hn) _)

/-- The state with a fault of outlet scope noted. -/
def outletFault (s : State) (n code chan : Nat) (latch : Bool) : State :=
  s.modOs n fun o => { o with
    active := setBit o.active code, latched := if latch then setBit o.latched code else o.latched,
    acted := (code, chan, s.mtb) :: o.acted.filter (·.1 != code) }

/-- What a trip of an outlet does: a fault that is active is at most latched; a new one is noted, and the rest is spared. -/
theorem trip_cases (s : State) (n code chan since : Nat) (latch : Bool) :
    (s.hasFault n code = true ∧ s.trip n code chan since latch =
      if latch then s.modOs n fun o => { o with latched := setBit o.latched code } else s) ∨
    (s.hasFault n code = false ∧ Spared (s.outletFault n code chan latch) (s.trip n code chan since latch)) := by
  unfold trip
  split
  · next h => exact .inl ⟨h, rfl⟩
  · next h => exact .inr ⟨Bool.eq_false_of_not_eq_true h, spared_raise (outletSafe_spared (.refl _))⟩

theorem trip_shown (s : State) (n code chan since : Nat) (latch : Bool) :
    Shown s (s.trip n code chan since latch) := by
  obtain ⟨-, h⟩ | ⟨-, h⟩ := trip_cases s n code chan since latch
  · rw [h]
    split
    · exact shown_modOs _
    · exact .refl s
  · exact (shown_modOs (s := s) (n := n) _).trans h.toShown

/-- The faults of an outlet after a trip: the one that trips is active, and latched where it latches (R171). -/
theorem trip_faults (s : State) (n code chan since m : Nat) (latch : Bool) :
    ((s.trip n code chan since latch).os m).active = (if m = n then setBit (s.os n).active code else (s.os m).active) ∧
    ((s.trip n code chan since latch).os m).latched =
      (if m = n then (if latch then setBit (s.os n).latched code else (s.os n).latched) else (s.os m).latched) := by
  obtain ⟨hf, h⟩ | ⟨-, h⟩ := trip_cases s n code chan since latch
  · have hset : setBit (s.os n).active code = (s.os n).active := setBit_of_bit hf
    rw [h, hset]
    cases latch <;> by_cases hm : m = n <;> simp [os_modOs, hm]
  · rw [(h.faults m).1, (h.faults m).2, outletFault, os_modOs]
    split <;> exact ⟨rfl, rfl⟩

end State
end Sys2Proof.Machine
end

section
/-! SUPPORT and PROOFS. Channel B's cycle (R91, R131, R137, R145), the check of HSL_TABLE (R135), the watchdogs (R136, R137),
a discrepancy of the channels (R138) and the end of the self-test (R139). -/

namespace Sys2Proof.Machine
namespace State

variable {s : State} {t n : Nat}

/-! ### Channel B's cycle -/

theorem formBeat_spec (s : State) (hn : n < 8) : s.formBeat.safe.beat.cycle = s.safe.bCycles % 2 ^ 32 ∧
    bit s.formBeat.safe.beat.permit n = s.lowAllowed n ∧ s.formBeat.safe.beat.causes.getD n 0 = s.tripCause n ∧
    s.formBeat.safe.beat.crc = crc16 (beatBytes s.formBeat.safe.beat) := by
  have hcause : ((List.range 8).map s.tripCause).getD n 0 = s.tripCause n := by simp [hn]
  exact ⟨rfl, bit_outMask _ hn, hcause, rfl⟩

/-- What sampling the mirror inputs notes of a coil (R145). -/
def mirrorSampled (m k : Nat) (s : State) (c : Coil) : Coil :=
  { c with mirrorOpen := bit m k == s.flag R.SAFE_COIL_CFG_MIRROR_POL k }

theorem sampleMirrors_coil (s : State) (m : Nat) {k : Nat} (hk : k < 16) :
    (s.sampleMirrors m).coil k = mirrorSampled m k s (s.coil k) :=
  forEach_at (f := fun y u => u.modCoil y (mirrorSampled m y u)) (fun u => u.coil k) (mirrorSampled m k)
    (fun u => coil_modCoil_same u k _) (fun _ u hy => coil_modCoil_ne u _ hy) (fun _ _ => rfl) List.nodup_range
    (List.mem_range.2 hk) s

/-- A low side whose high side is off follows it, unless it sticks or its high side is under test (R131). -/
theorem followHigh_ls {k : Nat} (hs : (s.coil k).hs = false) (hp : (s.coil k).phase ≠ .hsTest)
    (hl : (s.coil k).stuckLs = false) : ((s.followHigh k).coil k).ls = false := by
  unfold followHigh
  extract_lets c
  split
  · rw [coil_modCoil_same]
    exact hl
  · next h =>
    rw [Bool.not_eq_true] at h
    simpa [c, hs, hp] using h

/-- A sample that agrees with the candidate, in a state other than A, counts, and is accepted after PILOT_FILT_B of them
(R91). -/
theorem pilotB_agrees {l : Int} {p : Pilot} (ht : s.outType n ≠ 0) (hf : s.drivenF n = false) (hp : pilotOf l = some p)
    (ha : p ≠ .a) (hc : (s.os n).candB = some p) (hl : 150 ≤ l) (h1 : 1 ≤ s.safe.pilotFiltB) :
    ((s.pilotB n l).os n).agreeB = (s.os n).agreeB + 1 ∧ ((s.pilotB n l).os n).pilotB =
      (if s.safe.pilotFiltB ≤ (s.os n).agreeB + 1 then p else (s.os n).pilotB) := by
  have ha' : (p == Pilot.a) = false := by simpa using ha
  have hlow : ¬ l < 150 := Int.not_lt.2 hl
  unfold pilotB
  rw [if_neg (by simp [ht, hf])]
  extract_lets q s₁ o s₂
  have h₁ : s₁.os n = { s.os n with candB := some p, agreeB := (s.os n).agreeB + 1, lowB := 0 } := by
    unfold s₁
    rw [os_modOs_same]
    simp [q, hp, hc, hlow]
  have hfilt : s₁.safe.pilotFiltB = s.safe.pilotFiltB := rfl
  have h₂ : s₂ = if s.safe.pilotFiltB ≤ (s.os n).agreeB + 1 then s₁.modOs n fun o => { o with pilotB := p } else s₁ := by
    unfold s₂ o
    rw [hfilt, h₁]
    simp [q, hp, ha']
  have hfilt₂ : s₂.safe.pilotFiltB = s.safe.pilotFiltB := by
    rw [h₂]
    split <;> rfl
  have hlow₀ : o.lowB = 0 := congrArg OutSafe.lowB h₁
  rw [if_neg (by rw [hfilt₂, hlow₀]; omega), h₂]
  split
  · rw [os_modOs_same, h₁]
    exact ⟨rfl, rfl⟩
  · rw [h₁]
    exact ⟨rfl, rfl⟩

/-! ### What is due, and what is not yet -/

theorem hslCycle_early {l : List Int} {m : Nat} (hc : (s.advance t).core = true)
    (h : (s.advance t).mtb < (s.advance t).safe.cycleAt + 970000) : exec (.hslCycle t l m) s = .next (s.advance t) :=
  onCore_next _ rfl hc (if_pos h)

theorem hslTableCheck_early {c : Bool} (hc : (s.advance t).core = true)
    (h : (s.advance t).mtb < (s.advance t).safe.tableAt + 97 * 10 ^ 6) :
    exec (.hslTableCheck t c) s = .next (s.advance t) :=
  onCore_next _ rfl hc (if_pos h)

/-- The state in which the check of HSL_TABLE has been noted (R135). -/
def tableChecked (s : State) (ok : Bool) : State :=
  ({ s with safe := { s.safe with tableOk := ok, tableAt := s.mtb } } : State).setFlag R.SAFE_STATUS_TABLE_OK 0 ok

theorem hslTableCheck_next {c : Bool} (hc : (s.advance t).core = true)
    (h : (s.advance t).safe.tableAt + 97 * 10 ^ 6 ≤ (s.advance t).mtb) : exec (.hslTableCheck t c) s = .next (
      let a := s.advance t
      let ok := c && a.safe.hashOk
      if ok then (a.tableChecked ok).refreshSafeOk else (a.tableChecked ok).moduleTrip fTABLE_FAIL 1 a.mtb) :=
  onCore_next _ rfl hc (if_neg (Nat.not_lt.2 h))

theorem hslWatchdogExpiry_next (hc : (s.advance t).core = true)
    (h : (s.advance t).safe.aliveAt + 9700000 ≤ (s.advance t).mtb) : exec (.hslWatchdogExpiry t) s = .next
      (((s.advance t).setFlag R.SAFE_STATUS_B_RUN 0 false).moduleTrip fA_LOST 1 (s.advance t).safe.aliveAt) :=
  onCore_next _ rfl hc (if_pos h)

theorem bHeartbeatLoss_next (hc : (s.advance t).core = true)
    (h : (s.advance t).safe.heartbeatAt + 10 * 10 ^ 6 ≤ (s.advance t).mtb) : exec (.bHeartbeatLoss t) s = .next
      (((s.advance t).setFlag R.SAFE_STATUS_A_RUN 0 false).moduleTrip fB_LOST 0 (s.advance t).safe.heartbeatAt) :=
  onCore_next _ rfl hc (if_pos h)

theorem bHeartbeat_next {z : Beat} (hc : (s.advance t).core = true) (hz : z.crc = crc16 (beatBytes z)) :
    exec (.bHeartbeat t z) s = .next (
      let a := s.advance t
      (({ a with safe := { a.safe with heartbeatAt := a.mtb, beatIn := some z } } : State).setFlag
        R.SAFE_STATUS_A_RUN 0 true).refreshSafeOk) :=
  onCore_next _ rfl hc (if_pos hz)

theorem channelDiscrepancy_next {c n h i d : Nat} {r : Int} (hc : (s.advance t).core = true)
    (ht : (s.advance t).trippedAt c n h = some d) (ho : opposes c r = true)
    (hd : max d i + 100 * 10 ^ 6 ≤ (s.advance t).mtb) : exec (.channelDiscrepancy t c n h r i) s = .next (
      let a := s.advance t
      ({ a with safe := { a.safe with disc := some (c, n) } } : State).moduleTrip fCH_DISC h (max d i)) := by
  refine onCore_next _ rfl hc ?_
  simp only [ht]
  exact if_pos (by rw [ho, decide_eq_true hd]; rfl)

theorem channelDiscrepancy_none {c n h i : Nat} {r : Int} (hc : (s.advance t).core = true)
    (ho : (s.advance t).trippedAt c n h = none ∨ opposes c r = false) :
    exec (.channelDiscrepancy t c n h r i) s = .next (s.advance t) := by
  refine onCore_next _ rfl hc ?_
  rcases ho with ho | ho
  · simp only [ho]
  · split
    · rfl
    · exact if_neg (by rw [ho, Bool.false_and]; decide)

theorem safetySelftestDone_next (hu : (s.advance t).up = true) (h123 : (s.advance t).safe.steps123 = true)
    (he : (s.advance t).safe.estopChecked = 3) (h4 : (List.range 8).all (fun n => (s.advance t).outType n == 0 ||
      (s.advance t).rd R.SAFE_OUT_PROT_RCM_SRC n == 0xF || bit (s.advance t).safe.tested n) = true) :
    exec (.safetySelftestDone t) s =
      .next (((s.advance t).setFlag R.SAFE_STATUS_SELFTEST_OK 0 true).refreshSafeOk) :=
  onEvent_next _ rfl hu (if_pos (by rw [h123, he, h4]; rfl))

end State

open State in
/-- Settles O28: an event that is due answers with its own function's state, a fault of module scope is the lemmas on
`State.moduleTrip`, and the loops over pilots, coils and outlets are read off by `forEach_at` and `bit_outMask`. -/
theorem safetyChannelEvents : Obligations.SafetyChannelEvents := by
  unfold Obligations.SafetyChannelEvents
  refine ⟨?cycle, ?early, ?beat, ?mirrors, ?follow, ?pilot, ?table, ?tableFails, ?tableEarly, ?watchdog, ?heartbeat,
    ?badHeartbeat, ?heartbeatLost, ?discrepancy, ?agreement, ?selftest, ?moduleFault⟩
  case cycle =>
    intro s t m l a hc h
    exact onCore_next _ rfl hc (if_neg (Nat.not_lt.2 h))
  case early => exact fun s t m l hc h => hslCycle_early hc h
  case beat => exact fun s n hn => formBeat_spec s hn
  case mirrors =>
    intro s m k hk
    rw [sampleMirrors_coil s m hk]
    exact ⟨rfl, rfl⟩
  case follow => exact fun s k => followHigh_ls
  case pilot => exact fun s n l p ht hf hp ha hc _ => pilotB_agrees ht hf hp ha hc
  case table =>
    intro s t a hc h hash
    have hok : (true && (s.advance t).safe.hashOk) = true := hash
    rw [hslTableCheck_next hc h]
    simp only [hok, if_true]
    rfl
  case tableFails =>
    intro s t c a hc h hbad hnew
    have hok : (c && (s.advance t).safe.hashOk) = false := by
      rcases hbad with rfl | hbad
      · rfl
      · exact (congrArg (c && ·) hbad).trans (Bool.and_false c)
    refine ⟨_, hslTableCheck_next hc h, ?_⟩
    simp only [hok, Bool.false_eq_true, if_false]
    have hnew' : bit (a.tableChecked false).safe.modActive fTABLE_FAIL = false := hnew
    obtain ⟨cs, os, te, hsafe⟩ := moduleTrip_safe 1 a.mtb hnew'
    refine ⟨moduleTrip_told 1 a.mtb hnew', by rw [hsafe]; rfl, ?_⟩
    rw [moduleTrip_flag 1 a.mtb hnew' (by decide)]
    exact flag_wr_same _ _ _
  case tableEarly => exact fun s t c hc h => hslTableCheck_early hc h
  case watchdog =>
    intro s t a hc h hnew
    have hnew' : bit (a.setFlag R.SAFE_STATUS_B_RUN 0 false).safe.modActive fA_LOST = false := hnew
    refine ⟨_, hslWatchdogExpiry_next hc h, moduleTrip_told 1 _ hnew', ?_, moduleTrip_safeOk 1 _ hnew'⟩
    rw [moduleTrip_flag 1 _ hnew' (by decide)]
    exact flag_wr_same _ _ _
  case heartbeat =>
    intro s t z a hc hz
    refine ⟨_, bHeartbeat_next hc hz, ?_, ?_, ?_⟩
    · rw [refreshSafeOk_safe]
      rfl
    · rw [refreshSafeOk_safe]
      rfl
    · rw [(refreshSafeOk_spared (.refl _)).flag (by decide)]
      exact flag_wr_same _ _ _
  case badHeartbeat =>
    intro s t z a hc hz
    exact onCore_next _ rfl hc (if_neg hz)
  case heartbeatLost =>
    intro s t a hc h hnew
    have hnew' : bit (a.setFlag R.SAFE_STATUS_A_RUN 0 false).safe.modActive fB_LOST = false := hnew
    refine ⟨_, bHeartbeatLoss_next hc h, moduleTrip_told 0 _ hnew', ?_⟩
    rw [moduleTrip_flag 0 _ hnew' (by decide)]
    exact flag_wr_same _ _ _
  case discrepancy =>
    intro s t c n h i d r a hc ht ho hd hnew
    refine ⟨_, channelDiscrepancy_next hc ht ho hd, ?_⟩
    have hnew' : bit ({ a with safe := { a.safe with disc := some (c, n) } } : State).safe.modActive fCH_DISC = false :=
      hnew
    obtain ⟨cs, os, te, hsafe⟩ := moduleTrip_safe h (max d i) hnew'
    exact ⟨moduleTrip_told h _ hnew', by rw [hsafe]; rfl⟩
  case agreement => exact fun s t c n h i r hc ho => channelDiscrepancy_none hc ho
  case selftest => exact fun s t hu h123 he h4 => safetySelftestDone_next hu h123 he h4
  case moduleFault =>
    intro s c h i _ hnew
    obtain ⟨cs, os, te, hsafe⟩ := moduleTrip_safe h i hnew
    refine ⟨by rw [hsafe]; exact bit_setBit_same _ _, by rw [hsafe]; exact bit_setBit_same _ _, ?_⟩
    rw [List.all_eq_true]
    intro n hn
    rw [moduleTrip_out h i hnew (List.mem_range.1 hn)]
    exact Bool.or_true _

end Sys2Proof.Machine
end

section
/-! SUPPORT. The monitored stop (R165), the records of the ledger (R281 to R283, R313) and the end of a session (R98) spare
what a safety opening spares. -/

namespace Sys2Proof.Machine
namespace State

variable {s₀ s : State} {n : Nat}

/-! ### Records of the ledger -/

theorem issueNum_spared (h : Spared s₀ s) : Spared s₀ s.issueNum.2 := by
  unfold issueNum
  split <;> exact spared_upd h

theorem appendAs_spared {num kind mp wall ledger flags epoch : Nat} {body : List (Nat × Nat)} (h : Spared s₀ s) :
    Spared s₀ (s.appendAs num kind mp wall ledger flags epoch body).2 :=
  spared_raise (spared_wr (by decide) (spared_wr (by decide) (spared_wr (by decide) (spared_upd h))))

theorem appendCore_spared {kind mp : Nat} {body : List (Nat × Nat)} (h : Spared s₀ s) :
    Spared s₀ (s.appendCore kind mp body).2 :=
  appendAs_spared (issueNum_spared h)

theorem tamperCount_spared {ty k : Nat} (h : Spared s₀ s) : Spared s₀ (s.tamperCount ty k) :=
  spared_wr (by decide) (spared_wr (by decide) (spared_ite (spared_wr (by decide) h) h))

theorem overwritten_spared {lost : List Nat} (h : Spared s₀ s) : Spared s₀ (s.overwritten lost) :=
  spared_ite h (spared_raise (appendCore_spared (tamperCount_spared h)))

theorem appendNum_spared {num : Option Nat} {kind mp : Nat} {body : List (Nat × Nat)} (h : Spared s₀ s) :
    Spared s₀ (s.appendNum num kind mp body) := by
  unfold appendNum
  split
  · exact overwritten_spared (appendCore_spared h)
  · exact overwritten_spared (appendAs_spared h)

theorem modLsess_spared {f : LSession → LSession} (h : Spared s₀ s) : Spared s₀ (s.modLsess n f) := spared_upd h

theorem closeRecord_spared {extra est : Nat} (h : Spared s₀ s) : Spared s₀ (s.closeRecord n extra est) :=
  modLsess_spared (appendNum_spared h)

theorem metClose_spared {m at_ : Nat} (h : Spared s₀ s) : Spared s₀ (s.metClose m at_) := by
  unfold metClose closeFinal
  extract_lets s₁
  have h₁ : Spared s₀ s₁ := spared_upd (spared_wr (by decide) h)
  exact spared_ite (spared_wr (by decide) h₁) (spared_forEach closeRecord_spared (spared_wr (by decide) h₁))

theorem takeNum_spared (h : Spared s₀ s) : Spared s₀ s.takeNum.2 := by
  unfold takeNum
  split
  · exact spared_upd h
  · exact h

theorem recClose_spared {reason at_ : Nat} (h : Spared s₀ s) : Spared s₀ (s.recClose n reason at_) :=
  spared_ite h (spared_ite (metClose_spared (modLsess_spared (takeNum_spared h)))
    (spared_ite (modLsess_spared (takeNum_spared h)) (closeRecord_spared (modLsess_spared (takeNum_spared h)))))

/-! ### Sessions -/

theorem noteCounts_spared (h : Spared s₀ s) : Spared s₀ (s.noteCounts n) := by
  rw [noteCounts_eq]
  exact spared_upd h

theorem ownStatus_spared (h : Spared s₀ s) : Spared s₀ (s.ownStatus n) := by
  rw [ownStatus_eq]
  exact spared_upd h

theorem plcFollow_spared (h : Spared s₀ s) : Spared s₀ (s.plcFollow n) := by
  unfold plcFollow
  extract_lets old new s₁
  have h₁ : Spared s₀ s₁ := spared_wr (by decide) (spared_wr (by decide) h)
  exact spared_ite h₁ (spared_raise (spared_wr (by decide) h₁))

theorem setSess_spared {new : SessState} {reason flags : Nat} (h : Spared s₀ s) :
    Spared s₀ (s.setSess n new reason flags) := by
  unfold setSess
  extract_lets o s₁ s₂ s₃
  have h₁ : Spared s₀ s₁ := spared_modOutlet (fun _ => .inl rfl) h
  have h₂ : Spared s₀ s₂ := spared_ite h₁ (spared_wr (by decide) h₁)
  exact plcFollow_spared (ownStatus_spared (noteCounts_spared (spared_raise h₂)))

theorem offer_spared {p : PilotOut} (h : Spared s₀ s) : Spared s₀ (s.offer n p) :=
  spared_ite h (spared_modOutlet (fun _ => .inl rfl) h)

theorem leavePause_spared (h : Spared s₀ s) : Spared s₀ (s.leavePause n) :=
  spared_ite (noteCounts_spared (spared_modOutlet (fun _ => .inl rfl) h)) h

theorem cableEnd_spared {wh : Nat} (h : Spared s₀ s) : Spared s₀ (s.cableEnd n wh) :=
  spared_ite h (shadowGo_spared (spared_wr (by decide) (spared_wr (by decide) h)))

theorem sessionOver_spared {reason : Nat} (h : Spared s₀ s) : Spared s₀ (s.sessionOver n reason) := by
  unfold sessionOver
  extract_lets s₁ o wh s₂ s₃ s₄ s₅ s₆
  have h₁ : Spared s₀ s₁ := leavePause_spared h
  have h₂ : Spared s₀ s₂ := spared_ite (recClose_spared h₁) h₁
  have h₄ : Spared s₀ s₄ := cableEnd_spared (spared_raise h₂)
  have h₅ : Spared s₀ s₅ :=
    spared_wr (by decide) (spared_wr (by decide) (spared_wr (by decide) (spared_wr (by decide) h₄)))
  exact pmOff_spared (spared_modOutlet (fun _ => .inl rfl) h₅)

theorem endSession_spared {reason : Nat} (h : Spared s₀ s) : Spared s₀ (s.endSession n reason) :=
  offer_spared (setSess_spared (sessionOver_spared h))

/-! ### Monitored stops -/

theorem startMstop_spared {reason : Nat} (h : Spared s₀ s) : Spared s₀ (s.startMstop n reason) := by
  have hcur : Spared s₀ (s.startCurrent n).2 := by
    unfold startCurrent
    split
    · exact h
    · exact spared_upd h
  unfold startMstop
  split
  · exact h
  · exact spared_modOs (fun _ => ⟨rfl, rfl⟩) hcur

theorem stopSession_spared {reason : Nat} (h : Spared s₀ s) : Spared s₀ (s.stopSession n reason) := by
  unfold stopSession
  extract_lets s₁ s₂
  have h₁ : Spared s₀ s₁ := spared_modOutlet (fun _ => .inl rfl) (leavePause_spared h)
  have h₂ : Spared s₀ s₂ := setSess_spared (startMstop_spared h₁)
  exact spared_ite h₂ (spared_ite h₂ (offer_spared h₂))

theorem stopHosted_spared {reason : Nat} (h : Spared s₀ s) : Spared s₀ (s.stopHosted n reason) :=
  have h₁ : Spared s₀ (s.startMstop n reason) := startMstop_spared h
  spared_ite h (spared_ite h₁ (offer_spared h₁))

theorem stopAny_spared {reason : Nat} (h : Spared s₀ s) : Spared s₀ (s.stopAny n reason) :=
  spared_ite (stopSession_spared h) (stopHosted_spared h)

end State
end Sys2Proof.Machine
end

section
/-! SUPPORT and PROOFS. Emergency stop (R154, R155), the SAFE_IN inputs (R156), the insulation monitor and the cable check
(R162 to R164), the end of a safe state (R169) and RESET_SAFE (R172). -/

namespace Sys2Proof.Machine
namespace State

variable {s : State} {t n m : Nat}

/-! ### Emergency stop -/

/-- The state in which the pulse of a source has been noted (R154). -/
def pulseNoted (s : State) (b ok : Bool) : State :=
  { s with safe := { s.safe with
    pulseAt := if b then (s.safe.pulseAt.1, s.mtb) else (s.mtb, s.safe.pulseAt.2),
    estopChecked := if ok then setBit s.safe.estopChecked (b2n b) else clearBit s.safe.estopChecked (b2n b) } }

/-- A pulse of a source that is due passes where its own input alone follows (R154). -/
theorem estopSourcePulse_next {b own other : Bool} (hc : (s.advance t).core = true)
    (hl : (if b then (s.advance t).safe.pulseAt.2 else (s.advance t).safe.pulseAt.1) = 0 ∨
      (if b then (s.advance t).safe.pulseAt.2 else (s.advance t).safe.pulseAt.1) + 97 * 10 ^ 6 ≤ (s.advance t).mtb) :
    exec (.estopSourcePulse t b own other) s = .next (
      let a := s.advance t
      let p := a.pulseNoted b (own && !other)
      if own && !other then p else p.moduleTrip fESTOP_DISC 1 a.mtb) := by
  refine onCore_next _ rfl hc (if_neg ?_)
  simp only [Bool.and_eq_true, bne_iff_ne, decide_eq_true_eq, not_and, not_lt]
  exact fun h => hl.resolve_left h

/-- The state in which an E-stop input counts as open (R154). -/
def estopNoted (s : State) (b : Bool) : State :=
  { s with safe := { s.safe with
    estopAOpen := s.safe.estopAOpen || !b, estopBOpen := s.safe.estopBOpen || b,
    estopAt := if s.safe.estopAOpen || s.safe.estopBOpen then s.safe.estopAt else s.mtb } }

theorem estopOpen_next {b : Bool} {w : Nat} (hc : (s.advance t).core = true) (hw : 2500 ≤ w) :
    exec (.estopOpen t b w) s = .next (((s.advance t).estopNoted b).moduleTrip fESTOP 1 (s.advance t).mtb) :=
  onCore_next _ rfl hc (if_neg (Nat.not_lt.2 hw))

theorem estopDisc_next (hc : (s.advance t).core = true)
    (hd : (s.advance t).safe.estopAOpen ≠ (s.advance t).safe.estopBOpen)
    (ht : (s.advance t).safe.estopAt + 50 * 10 ^ 6 ≤ (s.advance t).mtb) :
    exec (.estopDisc t) s = .next ((s.advance t).moduleTrip fESTOP_DISC 1 (s.advance t).safe.estopAt) :=
  onCore_next _ rfl hc (if_pos (by rw [bne_iff_ne.2 hd, decide_eq_true ht]; rfl))

/-! ### SAFE_IN inputs (R156) -/

theorem safeInChange_next {b : Bool} {w : Nat} (hc : (s.advance t).core = true) (hm : m < 8)
    (hw : (s.advance t).rd R.SAFE_IN_CFG_FILT_MS m ≤ w) :
    exec (.safeInChange t m b w) s = .next ((s.advance t).safeInLevel m b) := by
  have hpast : ¬ (decide (8 ≤ m) || decide (w < (s.advance t).rd R.SAFE_IN_CFG_FILT_MS m)) = true := by
    rw [Bool.or_eq_true, decide_eq_true_eq, decide_eq_true_eq, not_or]
    exact ⟨Nat.not_le.2 hm, Nat.not_lt.2 hw⟩
  exact onCore_next _ rfl hc (if_neg hpast)

/-- The state in which the level of a SAFE_IN input has passed its filter. -/
def levelNoted (s : State) (m : Nat) (b : Bool) : State :=
  { s with safe := { s.safe with
    safeSeen := setBit s.safe.safeSeen m,
    safeClosed := if b then setBit s.safe.safeClosed m else clearBit s.safe.safeClosed m } }

/-- A level that has passed the filter is active as POL says. -/
theorem levelNoted_inActive (s : State) (m : Nat) (b : Bool) :
    (s.levelNoted m b).inActive m = (b == s.flag R.SAFE_IN_CFG_POL m) := by
  have hseen : bit (s.levelNoted m b).safe.safeSeen m = true := bit_setBit_same _ _
  have hlevel : bit (s.levelNoted m b).safe.safeClosed m = b := by
    cases b
    · exact bit_clearBit_same _ _
    · exact bit_setBit_same _ _
  rw [inActive, hseen, hlevel]
  rfl

/-- An EREM input that does not latch holds its fault: an enabled one of the outlet is active (R171). -/
def eremHeld (s : State) (n : Nat) : Bool := (List.range 8).any fun m => s.inServes 3 n m && s.inActive m

theorem Shown.eremHeld {s₀ : State} (h : Shown s₀ s) (n : Nat) : s.eremHeld n = s₀.eremHeld n :=
  congrArg (List.any (List.range 8)) (funext fun m => by rw [h.inServes, h.inActive])

theorem eremHeld_of_active (hm : m < 8) (hs : s.inServes 3 n m = true) (ha : s.inActive m = true) :
    s.eremHeld n = true :=
  List.any_eq_true.2 ⟨m, List.mem_range.2 hm, by rw [hs, ha]; rfl⟩

theorem eremHeld_eq_false (h : (List.range 8).all (fun k => !s.inServes 3 n k || !s.inActive k) = true) :
    s.eremHeld n = false := by
  rw [eremHeld, List.any_eq_false]
  intro k hk
  have hk' := List.all_eq_true.1 h k hk
  rwa [← Bool.not_and, Bool.not_eq_true', ← Bool.not_eq_true] at hk'

/-- SAFE_INPUT of one outlet clears where its inputs have returned (R171). -/
def returnOne (n : Nat) (s : State) : State := if s.eremHeld n then s else s.clearFault n fSAFE_INPUT

/-- The faults of an outlet whose inputs have returned, unless one holds them. -/
def returnedOs (held : Bool) (o : OutSafe) : OutSafe :=
  if held || bit o.latched fSAFE_INPUT then o else { o with active := clearBit o.active fSAFE_INPUT }

theorem returnOne_os_same (s : State) : (returnOne n s).os n = returnedOs (s.eremHeld n) (s.os n) := by
  unfold returnOne returnedOs
  cases s.eremHeld n
  · exact os_modOs_same n _
  · rfl

theorem returnOne_os_ne {k : Nat} (hk : k ≠ n) : (returnOne k s).os n = s.os n := by
  unfold returnOne
  split
  · rfl
  · exact (os_modOs k n _).trans (if_neg (Ne.symm hk))

theorem returnOne_shown (s : State) : Shown s (returnOne n s) := by
  unfold returnOne
  split
  · exact .refl s
  · exact shown_modOs _

theorem shown_forEach {α : Type} {f : α → State → State} (hf : ∀ x s, Shown s (f x s)) (xs : List α) (s : State) :
    Shown s (forEach xs f s) := by
  induction xs generalizing s with
  | nil => exact .refl s
  | cons x xs ih => exact (hf x s).trans (ih (f x s))

theorem safeInReturn_shown (s : State) : Shown s s.safeInReturn := shown_forEach (fun _ _ => returnOne_shown _) _ s

theorem safeInReturn_told (s : State) : s.safeInReturn.told = s.told := by
  refine told_congr (congrArg HostSt.journal (forEach_keeps State.host (f := returnOne) (fun n u => ?_) _))
  unfold returnOne
  split <;> rfl

theorem safeInReturn_os (s : State) (hn : n < 8) : s.safeInReturn.os n = returnedOs (s.eremHeld n) (s.os n) :=
  forEach_at (f := returnOne) (fun u => u.os n) (fun u => returnedOs (u.eremHeld n)) returnOne_os_same
    (fun _ _ hk => returnOne_os_ne hk) (fun _ u => by rw [(returnOne_shown u).eremHeld]) List.nodup_range
    (List.mem_range.2 hn) s

/-- An input that is not enabled, or not active, acts on no outlet. -/
theorem safeInGo_idle (h : s.flag R.SAFE_IN_CFG_EN m = false ∨ s.inActive m = false) : s.safeInGo m = s :=
  if_pos (by rcases h with h | h <;> simp [h])

/-- The outlets of an input's mask. -/
def inMask (s : State) (m : Nat) : List Nat := (List.range 8).filter (bit (s.rd R.SAFE_IN_CFG_OUTLETS m) ·)

theorem mem_inMask (hn : n < 8) : n ∈ s.inMask m ↔ bit (s.rd R.SAFE_IN_CFG_OUTLETS m) n = true := by
  simp [inMask, hn]

theorem nodup_inMask (s : State) (m : Nat) : (s.inMask m).Nodup := List.nodup_range.filter _

/-- The state in which the event of an input that acts has been raised. -/
def inRaised (s : State) (m : Nat) : State :=
  if s.rd R.SAFE_IN_CFG_ACTION m < 3 then
    s.raise Ev.SAFE_TRIP m [fSAFE_INPUT, s.rd R.SAFE_IN_CFG_OUTLETS m, 1, s.mtb, s.mtb] else s

theorem safeInGo_active (he : s.flag R.SAFE_IN_CFG_EN m = true) (ha : s.inActive m = true) : s.safeInGo m =
    forEach (s.inMask m) (fun n s' => s'.safeInAct (s.rd R.SAFE_IN_CFG_ACTION m) n) (s.inRaised m) :=
  if_neg (by rw [he, ha]; decide)

theorem inRaised_spared (s : State) (m : Nat) : Spared s (s.inRaised m) :=
  spared_ite (spared_raise (.refl s)) (.refl s)

theorem safeInAct_shown (s : State) (action n : Nat) : Shown s (s.safeInAct action n) := by
  unfold safeInAct
  split
  · exact (stopAny_spared (.refl s)).toShown
  · exact trip_shown ..
  · exact trip_shown ..
  · exact trip_shown ..
  · exact .refl s

theorem safeInGo_shown (s : State) (m : Nat) : Shown s (s.safeInGo m) := by
  cases he : s.flag R.SAFE_IN_CFG_EN m
  · rw [safeInGo_idle (.inl he)]
    exact .refl s
  · cases ha : s.inActive m
    · rw [safeInGo_idle (.inr ha)]
      exact .refl s
    · rw [safeInGo_active he ha]
      exact (inRaised_spared s m).toShown.trans (shown_forEach (fun _ u => safeInAct_shown u _ _) _ _)

/-- No action but EREM latched latches SAFE_INPUT or any other fault (R156, R171). -/
theorem safeInAct_latched {action : Nat} (h : action ≠ 4) (k : Nat) :
    ((s.safeInAct action k).os n).latched = (s.os n).latched := by
  have htrip : ∀ code, latches code = false → ((s.trip k code 1 s.mtb).os n).latched = (s.os n).latched := by
    intro code hl
    rw [(trip_faults ..).2, hl]
    split
    · next hn => rw [hn]; rfl
    · rfl
  unfold safeInAct
  split
  · exact ((stopAny_spared (.refl s)).faults n).2
  · exact htrip _ (by decide)
  · exact absurd rfl h
  · exact htrip _ (by decide)
  · rfl

theorem safeInGo_latched (h : s.rd R.SAFE_IN_CFG_ACTION m ≠ 4) : ((s.safeInGo m).os n).latched = (s.os n).latched := by
  cases he : s.flag R.SAFE_IN_CFG_EN m
  · rw [safeInGo_idle (.inl he)]
  · cases ha : s.inActive m
    · rw [safeInGo_idle (.inr ha)]
    · rw [safeInGo_active he ha, forEach_keeps (fun u : State => (u.os n).latched) fun k u => safeInAct_latched h k]
      exact ((inRaised_spared s m).faults n).2

/-- The faults of an outlet: those active, and those latched. -/
def faultMasks (s : State) (n : Nat) : Nat × Nat := ((s.os n).active, (s.os n).latched)

theorem trip_faultMasks (s : State) (n code chan since : Nat) (latch : Bool) :
    (s.trip n code chan since latch).faultMasks n = (setBit (s.os n).active code,
      if latch then setBit (s.os n).latched code else (s.os n).latched) :=
  Prod.ext ((trip_faults ..).1.trans (if_pos rfl)) ((trip_faults ..).2.trans (if_pos rfl))

theorem trip_faultMasks_ne (s : State) {n k : Nat} (code chan since : Nat) (latch : Bool) (h : k ≠ n) :
    (s.trip k code chan since latch).faultMasks n = s.faultMasks n :=
  Prod.ext ((trip_faults ..).1.trans (if_neg (Ne.symm h))) ((trip_faults ..).2.trans (if_neg (Ne.symm h)))

/-- A SAFE_IN input trips one outlet (R156). -/
def inputTrip (latch : Bool) (n : Nat) (s : State) : State := s.trip n fSAFE_INPUT 1 s.mtb latch

theorem forEach_inputTrip_mem (latch : Bool) {xs : List Nat} (hnd : xs.Nodup) (hn : n ∈ xs) (s : State) :
    (forEach xs (inputTrip latch) s).faultMasks n = (setBit (s.os n).active fSAFE_INPUT,
      if latch then setBit (s.os n).latched fSAFE_INPUT else (s.os n).latched) :=
  forEach_at (f := inputTrip latch) (fun u => u.faultMasks n)
    (fun _ p => (setBit p.1 fSAFE_INPUT, if latch then setBit p.2 fSAFE_INPUT else p.2))
    (fun u => trip_faultMasks u n _ _ _ _) (fun _ u hk => trip_faultMasks_ne u _ _ _ _ hk) (fun _ _ => rfl) hnd hn s

theorem forEach_inputTrip_not_mem (latch : Bool) {xs : List Nat} (hn : n ∉ xs) (s : State) :
    (forEach xs (inputTrip latch) s).faultMasks n = s.faultMasks n :=
  forEach_away (f := inputTrip latch) (fun u => u.faultMasks n)
    (fun _ hk u => trip_faultMasks_ne u _ _ _ _ fun e => hn (e ▸ hk)) s

/-- What an active EREM input without latch does: it trips the outlets of its mask (R156). -/
theorem safeInGo_erem (he : s.flag R.SAFE_IN_CFG_EN m = true) (ha : s.inActive m = true)
    (h : s.rd R.SAFE_IN_CFG_ACTION m = 3) : s.safeInGo m = forEach (s.inMask m) (inputTrip false) (s.inRaised m) := by
  rw [safeInGo_active he ha, h]
  rfl

/-- What an active EREM input with latch does. -/
theorem safeInGo_latch (he : s.flag R.SAFE_IN_CFG_EN m = true) (ha : s.inActive m = true)
    (h : s.rd R.SAFE_IN_CFG_ACTION m = 4) : s.safeInGo m = forEach (s.inMask m) (inputTrip true) (s.inRaised m) := by
  rw [safeInGo_active he ha, h]
  rfl

/-- SAFE_INPUT is latched by an enabled active input with EREM latched alone, and is then active (R156, R171). -/
theorem safeInGo_latches (hn : n < 8) (hl : bit (s.os n).latched fSAFE_INPUT = false) :
    (bit ((s.safeInGo m).os n).latched fSAFE_INPUT && bit ((s.safeInGo m).os n).active fSAFE_INPUT) =
      (s.flag R.SAFE_IN_CFG_EN m && s.inActive m && s.rd R.SAFE_IN_CFG_ACTION m == 4 &&
        bit (s.rd R.SAFE_IN_CFG_OUTLETS m) n) := by
  cases he : s.flag R.SAFE_IN_CFG_EN m
  · rw [safeInGo_idle (.inl he), hl]
    rfl
  · cases ha : s.inActive m
    · rw [safeInGo_idle (.inr ha), hl]
      rfl
    · by_cases h4 : s.rd R.SAFE_IN_CFG_ACTION m = 4
      · rw [safeInGo_latch he ha h4, h4]
        cases hmask : bit (s.rd R.SAFE_IN_CFG_OUTLETS m) n
        · have hnot : n ∉ s.inMask m := by rw [mem_inMask hn, hmask]; decide
          have hlatched := congrArg Prod.snd (forEach_inputTrip_not_mem true hnot (s.inRaised m))
          simp only [faultMasks] at hlatched
          rw [hlatched, ((inRaised_spared s m).faults n).2, hl]
          rfl
        · obtain ⟨hact, hlatched⟩ := Prod.ext_iff.1 (forEach_inputTrip_mem true (nodup_inMask s m)
            ((mem_inMask hn).2 hmask) (s.inRaised m))
          simp only [faultMasks, if_true] at hact hlatched
          rw [hact, hlatched, bit_setBit_same, bit_setBit_same]
          rfl
      · rw [safeInGo_latched h4, hl, beq_eq_false_iff_ne.2 h4]
        rfl

theorem bit_returnedOs_active (o : OutSafe) :
    bit (returnedOs false o).active fSAFE_INPUT = (bit o.latched fSAFE_INPUT && bit o.active fSAFE_INPUT) := by
  unfold returnedOs
  cases bit o.latched fSAFE_INPUT
  · exact bit_clearBit_same _ _
  · rfl

/-- The state in which a level has acted, before SAFE_INPUT clears where inputs have returned. -/
def levelGone (s : State) (m : Nat) (b : Bool) : State :=
  if s.inActive m then s.levelNoted m b else (s.levelNoted m b).safeInGo m

theorem safeInLevel_eq (s : State) (m : Nat) (b : Bool) : s.safeInLevel m b = (s.levelGone m b).safeInReturn := rfl

theorem levelGone_shown (s : State) (m : Nat) (b : Bool) : Shown (s.levelNoted m b) (s.levelGone m b) := by
  unfold levelGone
  split
  · exact .refl _
  · exact safeInGo_shown _ m

theorem safeInLevel_shown (s : State) (m : Nat) (b : Bool) : Shown (s.levelNoted m b) (s.safeInLevel m b) :=
  (levelGone_shown s m b).trans (safeInReturn_shown _)

/-- An outlet none of whose EREM inputs without latch is active has SAFE_INPUT active after a level where that level
latches it. -/
theorem safeInLevel_latches (b : Bool) (hn : n < 8) (hl : bit (s.os n).latched fSAFE_INPUT = false)
    (hheld : (s.safeInLevel m b).eremHeld n = false) : bit ((s.safeInLevel m b).os n).active fSAFE_INPUT =
      (s.flag R.SAFE_IN_CFG_EN m && !s.inActive m && (s.safeInLevel m b).inActive m &&
        s.rd R.SAFE_IN_CFG_ACTION m == 4 && bit (s.rd R.SAFE_IN_CFG_OUTLETS m) n) := by
  have hl' : bit ((s.levelNoted m b).os n).latched fSAFE_INPUT = false := hl
  rw [(safeInLevel_shown s m b).inActive]
  rw [safeInLevel_eq, (safeInReturn_shown _).eremHeld] at hheld
  rw [safeInLevel_eq, safeInReturn_os _ hn, hheld, bit_returnedOs_active]
  unfold levelGone
  cases s.inActive m
  · rw [if_neg Bool.false_ne_true, safeInGo_latches hn hl']
    simp only [Bool.not_false, Bool.and_true]
    rfl
  · rw [if_pos rfl, hl']
    simp

/-- An EREM input without latch that becomes active trips the outlets of its mask. -/
theorem safeInLevel_erem (hn : n < 8) (hm : m < 8) (he : s.flag R.SAFE_IN_CFG_EN m = true)
    (h3 : s.rd R.SAFE_IN_CFG_ACTION m = 3) (hmask : bit (s.rd R.SAFE_IN_CFG_OUTLETS m) n = true)
    (hwas : s.inActive m = false) :
    bit ((s.safeInLevel m (s.flag R.SAFE_IN_CFG_POL m)).os n).active fSAFE_INPUT = true := by
  generalize hb : s.flag R.SAFE_IN_CFG_POL m = b
  have hact : (s.levelNoted m b).inActive m = true := by rw [levelNoted_inActive, hb]; exact beq_self_eq_true b
  have hserves : (s.levelNoted m b).inServes 3 n m = true := by
    have h : s.inServes 3 n m = true := by rw [inServes, he, h3, hmask]; rfl
    exact h
  have hgone : s.levelGone m b = (s.levelNoted m b).safeInGo m := if_neg (by rw [hwas]; decide)
  have hheld : (s.levelGone m b).eremHeld n = true := by
    rw [(levelGone_shown s m b).eremHeld]
    exact eremHeld_of_active hm hserves hact
  rw [safeInLevel_eq, safeInReturn_os _ hn, hheld, hgone, safeInGo_erem (s := s.levelNoted m b) he hact h3]
  have h := congrArg Prod.fst (forEach_inputTrip_mem false (nodup_inMask s m) ((mem_inMask hn).2 hmask)
    ((s.levelNoted m b).inRaised m))
  exact (congrArg (bit · fSAFE_INPUT) h).trans (bit_setBit_same _ _)

/-- An input whose action opens nothing, or blocks new closes, tells its level alone. -/
theorem safeInLevel_tells {b : Bool} (he : s.flag R.SAFE_IN_CFG_EN m = true) (h2 : s.rd R.SAFE_IN_CFG_ACTION m < 2)
    (hb : b = s.flag R.SAFE_IN_CFG_POL m) (hwas : s.inActive m = false) : (s.safeInLevel m b).told =
      some (Ev.SAFE_TRIP, m, [fSAFE_INPUT, s.rd R.SAFE_IN_CFG_OUTLETS m, 1, s.mtb, s.mtb]) := by
  have hact : (s.levelNoted m b).inActive m = true := by rw [levelNoted_inActive, hb]; exact beq_self_eq_true _
  have hnone : ∀ (u : State) k, u.safeInAct (s.rd R.SAFE_IN_CFG_ACTION m) k = u := by
    intro u k
    generalize s.rd R.SAFE_IN_CFG_ACTION m = action at h2
    interval_cases action <;> rfl
  have hraised : (s.levelNoted m b).inRaised m = (s.levelNoted m b).raise Ev.SAFE_TRIP m
      [fSAFE_INPUT, s.rd R.SAFE_IN_CFG_OUTLETS m, 1, s.mtb, s.mtb] := if_pos (Nat.lt_succ_of_lt h2)
  have hgone : s.levelGone m b = (s.levelNoted m b).inRaised m :=
    calc s.levelGone m b = (s.levelNoted m b).safeInGo m := if_neg (by rw [hwas]; decide)
      _ = forEach (s.inMask m) (fun k u => u.safeInAct (s.rd R.SAFE_IN_CFG_ACTION m) k)
          ((s.levelNoted m b).inRaised m) := safeInGo_active (s := s.levelNoted m b) he hact
      _ = (s.levelNoted m b).inRaised m := forEach_away (fun u => u) (fun k _ u => hnone u k) _
  rw [safeInLevel_eq, safeInReturn_told, hgone, hraised, raise_told]

/-! ### The insulation monitor and the cable check (R162 to R164) -/

/-- The class of an insulation value in kΩ for the outlet that the monitor serves (R163). -/
def imdClass (s : State) (k : Nat) : Nat :=
  if s.imdBelow (s.rd R.SAFE_IMD_OUTLET) k R.SAFE_IMD_FAULT_OHM_V then 2
  else if s.imdBelow (s.rd R.SAFE_IMD_OUTLET) k R.SAFE_IMD_WARN_OHM_V then 1 else 0

/-- The state in which a result of the monitor has been noted, before anything acts on it. -/
def imdNoted (s : State) (k : Nat) : State :=
  let noted := (s.wr R.SAFE_IMD_INS_KOHM 0 k).wr R.SAFE_IMD_RESULT 0 (s.imdClass k)
  { noted with safe := { noted.safe with imdAt := some noted.mtb } }

theorem cableFailed_shown (s : State) (n : Nat) : Shown s (s.cableFailed n) := by
  unfold cableFailed
  extract_lets s₁
  have h₁ : Spared s s₁ := spared_modOutlet (fun _ => .inl rfl) (.refl s)
  exact (spared_ite (endSession_spared (erem_spared h₁)) h₁).toShown

theorem imdCount_shown (s : State) (n : Nat) (fault : Bool) : Shown s (s.imdCount n fault) := by
  unfold imdCount
  extract_lets low s₁
  have h₁ : Shown s s₁ := shown_modOs _
  split
  · exact h₁.trans (trip_shown ..)
  · exact h₁

/-- What acts on a result leaves the result as it has been noted. -/
theorem imdResult_shown (s : State) (kohm : Nat) : Shown (s.imdNoted (min kohm 10000)) (s.imdResult kohm) := by
  unfold imdResult
  extract_lets n k warn fault r s₁ noted s₂ s₃ s₄
  have h₃ : Shown s₂ s₃ := (spared_ite (spared_raise (.refl s₂)) (.refl s₂)).toShown
  have h₄ : Shown s₂ s₄ := h₃.trans (imdCount_shown s₃ n fault)
  refine Shown.trans (s := s₄) h₄ ?_
  split
  · exact .refl s₄
  · split
    · exact .refl s₄
    · split
      · exact cableFailed_shown s₄ n
      · exact shown_modOutlet _

theorem imdResult_spec (s : State) (k : Nat) : (s.imdResult k).rd R.SAFE_IMD_INS_KOHM = min k 10000 ∧
    (s.imdResult k).rd R.SAFE_IMD_RESULT = s.imdClass (min k 10000) ∧ (s.imdResult k).safe.imdAt = some s.mtb := by
  have h := imdResult_shown s k
  have hclass : s.imdClass (min k 10000) < 2 ^ 2 := by
    unfold imdClass
    split_ifs <;> decide
  have hins : (s.imdNoted (min k 10000)).rd R.SAFE_IMD_INS_KOHM = trunc 16 (min k 10000) :=
    (rd_wr_ne _ _ _ _ _ (by decide)).trans (rd_wr_same _ _ _)
  have hres : (s.imdNoted (min k 10000)).rd R.SAFE_IMD_RESULT = trunc 2 (s.imdClass (min k 10000)) := rd_wr_same _ _ _
  refine ⟨?_, ?_, by rw [h.safe]; rfl⟩
  · rw [h.fields _ (by decide), hins]
    exact Nat.mod_eq_of_lt (by omega)
  · rw [h.fields _ (by decide), hres]
    exact Nat.mod_eq_of_lt hclass

theorem cableCheckTimeout_next {c d : Nat} (hu : (s.advance t).up = true)
    (hc : ((s.advance t).outlet n).cableCheck = some (c, d)) (hd : d ≤ (s.advance t).mtb) :
    exec (.cableCheckTimeout t n) s = .next ((s.advance t).cableFailed n) := by
  refine onEvent_next _ rfl hu ?_
  simp only [hc]
  exact if_pos hd

/-! ### The end of a safe state (R169) and RESET_SAFE (R172) -/

/-- The outlet has left its safe state. -/
def safeLeft (s : State) (n : Nat) : State := s.modOs n fun o => { o with safeSince := none }

theorem safeStatePilotEnd_next {d : Nat} (hu : (s.advance t).up = true) (hs : ((s.advance t).os n).safeSince = some d)
    (hd : d + 2 * 10 ^ 9 ≤ (s.advance t).mtb) (hl : ((s.advance t).os n).latched = 0)
    (hm : (s.advance t).safe.modLatched = 0) : exec (.safeStatePilotEnd t n) s = .next (
      if (s.advance t).outType n = 0 then (s.advance t).safeLeft n else ((s.advance t).safeLeft n).offer n .plus12) := by
  refine onEvent_next _ rfl hu ?_
  simp only [hs]
  exact if_pos (by rw [decide_eq_true hd, hl, hm]; rfl)

theorem offer_os (p : PilotOut) (k : Nat) : (s.offer n p).os k = s.os k := by
  rcases offer_cases (s := s) n p with h | h <;> rw [h]
  rfl

/-- An output that is offered is staged, or is in force. -/
theorem offer_staged (p : PilotOut) : ((s.offer n p).outlet n).outStaged = some p ∨ (s.outlet n).out = p := by
  unfold offer
  split
  · next h =>
    simp only [Bool.and_eq_true, beq_iff_eq] at h
    exact .inr h.1.1
  · exact .inl (congrArg Outlet.outStaged (outlet_modOutlet_same n _))

theorem clearLatched_safeInput (hl : bit (s.os n).latched fSAFE_INPUT = true) (hc : s.outCause n fSAFE_INPUT = false) :
    ((s.clearLatched n fSAFE_INPUT).os n).active = clearBit (s.os n).active fSAFE_INPUT ∧
    ((s.clearLatched n fSAFE_INPUT).os n).latched = clearBit (s.os n).latched fSAFE_INPUT := by
  have h : s.clearLatched n fSAFE_INPUT = s.modOs n fun o => { o with
      active := clearBit o.active fSAFE_INPUT, latched := clearBit o.latched fSAFE_INPUT } :=
    if_pos (by rw [hl, hc]; rfl)
  rw [h, os_modOs_same]
  exact ⟨rfl, rfl⟩

end State

open State in
/-- Settles O29: an event that is due answers with its own function's state; what a level of a SAFE_IN input leaves is
`safeInLevel_erem` and `safeInLevel_latches`, and what a result of the insulation monitor leaves is `imdResult_shown`. -/
theorem estopAndInputEvents : Obligations.EstopAndInputEvents := by
  unfold Obligations.EstopAndInputEvents
  refine ⟨?pulse, ?pulseFails, ?estop, ?estopShort, ?estopDisc, ?inputShort, ?input, ?inputTells, ?erem, ?latches, ?imd,
    ?imdNoted, ?cableCheck, ?pilotEnd, ?reset, ?resetShort, ?cleared, ?kept⟩
  case pulse =>
    intro s t b a hc hl
    exact estopSourcePulse_next hc hl
  case pulseFails =>
    intro s t b o p a hc hl hop hnew
    refine ⟨_, estopSourcePulse_next hc hl, ?_⟩
    have hnew' : bit (a.pulseNoted b false).safe.modActive fESTOP_DISC = false := hnew
    simp only [hop, Bool.false_eq_true, if_false]
    obtain ⟨cs, os, te, hsafe⟩ := moduleTrip_safe 1 a.mtb hnew'
    refine ⟨moduleTrip_told 1 a.mtb hnew', ?_⟩
    rw [hsafe]
    exact bit_clearBit_same _ _
  case estop =>
    intro s t w b a hc hw hnew
    have hnew' : bit (a.estopNoted b).safe.modActive fESTOP = false := hnew
    obtain ⟨cs, os, te, hsafe⟩ := moduleTrip_safe 1 a.mtb hnew'
    refine ⟨_, estopOpen_next hc hw, moduleTrip_told 1 a.mtb hnew', ?_⟩
    rw [hsafe]
    cases b
    · exact Bool.or_true _
    · exact Bool.or_true _
  case estopShort =>
    intro s t w b a hc hw
    exact onCore_next _ rfl hc (if_pos hw)
  case estopDisc =>
    intro s t a hc hd ht hnew
    exact ⟨_, estopDisc_next hc hd ht, moduleTrip_told 1 _ hnew⟩
  case inputShort =>
    intro s t m w b a hc h
    exact onCore_next _ rfl hc (if_pos (by rwa [Bool.or_eq_true, decide_eq_true_eq, decide_eq_true_eq]))
  case input =>
    intro s t m w b a hc hm hw
    exact safeInChange_next hc hm hw
  case inputTells =>
    intro s t m w b a hc hm hw he h2 hb hwas
    have hshown := safeInLevel_shown a m b
    refine ⟨_, safeInChange_next hc hm hw, ?_, ?_, safeInLevel_tells he h2 hb hwas⟩
    · rw [hshown.safe]
      rfl
    · rw [hshown.inActive, levelNoted_inActive, hb]
      exact beq_self_eq_true _
  case erem => exact fun s n m hn hm => safeInLevel_erem hn hm
  case latches => exact fun s n m b hn hl h => safeInLevel_latches b hn hl (eremHeld_eq_false h)
  case imd =>
    intro s t k a hc he
    exact onCore_next _ rfl hc (if_pos he)
  case imdNoted => exact fun s k => imdResult_spec s k
  case cableCheck =>
    intro s t n c d a hu hc hd
    exact cableCheckTimeout_next hu hc hd
  case pilotEnd =>
    intro s t n d a hu hs hd hl hm
    refine ⟨_, safeStatePilotEnd_next hu hs hd hl hm, ?_, fun htype => ?_⟩
    · have hleft : ((a.safeLeft n).os n).safeSince = none := congrArg OutSafe.safeSince (os_modOs_same n _)
      split
      · exact hleft
      · rw [offer_os, hleft]
    · rw [if_neg htype]
      exact offer_staged (s := a.safeLeft n) _
  case reset =>
    intro s t l p q a hc hl
    exact onCore_next _ rfl hc (if_neg (Nat.not_lt.2 hl))
  case resetShort =>
    intro s t l p q a hc hl
    exact onCore_next _ rfl hc (if_pos hl)
  case cleared => exact fun s n => clearLatched_safeInput
  case kept =>
    intro s c hl hc
    exact if_neg (by rw [hl, hc]; decide)

end Sys2Proof.Machine
end

section
/-! SUPPORT and PROOFS. The SAFE commands: SAFE_QUERY (R171), SAFE_TEST_NOW (R151), RCM_SELFTEST (R159) and IMD_MEASURE
(R162), with the statuses that turn them away. -/

namespace Sys2Proof.Machine
namespace State

variable {s : State} {x : Ctx} {n : Nat}

/-- A test of both sides of a coil is asked for (R151). -/
def askTests (k : Nat) (s : State) : State := s.modCoil k fun c => { c with askHs := true, askLs := true }

/-- The coils of a mask that are in hold. -/
def heldCoils (s : State) (m : Nat) : List Nat := (List.range 16).filter fun k => bit m k && (s.coil k).phase == .hold

theorem askTests_asks (s : State) {k : Nat} {xs : List Nat} (hnd : xs.Nodup) (hk : k ∈ xs) :
    (forEach xs askTests s).coil k = { s.coil k with askHs := true, askLs := true } :=
  forEach_at (f := askTests) (fun u => u.coil k) (fun _ c => { c with askHs := true, askLs := true })
    (fun u => coil_modCoil_same u k _) (fun _ u hy => coil_modCoil_ne u _ hy) (fun _ _ => rfl) hnd hk s

@[simp] theorem complete_coil (st r k : Nat) : (s.complete x st r).coil k = s.coil k :=
  congrArg (fun sf : SafeSt => sf.coils.get Coil.init k) (complete_safe x st r)

/-- The state in which the tests of a mask have been asked for. -/
def testsAsked (s : State) (m : Nat) : State := forEach (s.heldCoils m) askTests s

theorem testsAsked_host (s : State) (m : Nat) : (s.testsAsked m).host = s.host :=
  forEach_keeps State.host (f := askTests) (fun _ _ => rfl) _

theorem testsAsked_coil {m k : Nat} (hk : k < 16) (hm : bit m k = true) (hp : (s.coil k).phase = .hold) :
    (s.testsAsked m).coil k = { s.coil k with askHs := true, askLs := true } :=
  askTests_asks s (List.nodup_range.filter _) (List.mem_filter.2 ⟨List.mem_range.2 hk, by rw [hm, hp]; rfl⟩)

theorem safeTestNow_next {m : Nat} (h : (s.advance x.t).takes x Op.SAFE_TEST_NOW 0 = true) :
    exec (.safeTestNow x m) s = .next ((((s.advance x.t).start x).testsAsked m).complete x St.OK) :=
  command_completes h rfl (by rw [testsAsked_host, start_destroys])

theorem rcmSelftest_next {r : Nat} {o : Int} (h : (s.advance x.t).takes x Op.RCM_SELFTEST n = true) (hn : n < 8)
    (hr : ((s.advance x.t).start x).rd R.SAFE_OUT_PROT_RCM_SRC n ≠ 0xF) : exec (.rcmSelftest x n o r) s = .next (
      let a := (s.advance x.t).start x
      (if a.closed n then a.complete x St.COILS_CLOSED else
        (a.rcmSelfTest n o r).complete x St.OK (enc 16 o + 2 ^ 16 * trunc 16 r +
          2 ^ 32 * b2n ((a.rcmSelfTest n o r).os n).selfPass)).settleDestroys) := by
  refine command_next _ rfl h (congrArg settleDestroys (if_neg ?_))
  rw [Bool.or_eq_true, decide_eq_true_eq, decide_eq_true_eq, not_or]
  exact ⟨Nat.not_le.2 hn, hr⟩

theorem imdMeasure_next {k : Nat} (h : (s.advance x.t).takes x Op.IMD_MEASURE n = true)
    (ho : ((s.advance x.t).start x).rd R.SAFE_IMD_OUTLET = n)
    (he : ((s.advance x.t).start x).flag R.SAFE_IMD_EN = true) : exec (.imdMeasure x n k) s =
      .next (((((s.advance x.t).start x).imdResult k).complete x St.OK (min k 10000)).settleDestroys) := by
  refine command_next _ rfl h (congrArg settleDestroys (if_neg ?_))
  rw [ho, he, bne_self_eq_false]
  decide

theorem imdMeasure_elsewhere {k : Nat} (h : (s.advance x.t).takes x Op.IMD_MEASURE n = true)
    (hno : ((s.advance x.t).start x).rd R.SAFE_IMD_OUTLET ≠ n ∨ ((s.advance x.t).start x).flag R.SAFE_IMD_EN = false) :
    exec (.imdMeasure x n k) s = .next (((s.advance x.t).start x).complete x St.IMD_NOT_HERE) := by
  refine command_completes h (if_pos ?_) rfl
  rw [Bool.or_eq_true, bne_iff_ne, Bool.not_eq_true']
  exact hno

end State

open State in
/-- Settles O30: each command that is taken ends with the completion its function gives; SAFE_TEST_NOW asks for the tests
of every coil of its mask in hold (`askTests_asks`). -/
theorem safetyCommands : Obligations.SafetyCommands := by
  unfold Obligations.SafetyCommands
  refine ⟨?query, ?testNow, ?noCoil, ?selftest, ?measure, ?elsewhere⟩
  case query =>
    intro s x b a h
    exact ⟨_, command_completes h rfl rfl, complete_answer ..⟩
  case testNow =>
    intro s x m k b a h hk hm hp
    refine ⟨_, safeTestNow_next h, complete_answer .., ?_, ?_⟩ <;> rw [complete_coil, testsAsked_coil hk hm hp]
  case noCoil =>
    intro s x m b a h hnone
    have hasked : a.testsAsked m = a := congrArg (fun ks => forEach ks askTests a) hnone
    rw [safeTestNow_next h, hasked]
  case selftest => exact fun s x n r o h hn hr => rcmSelftest_next h hn hr
  case measure => exact fun s x n k h ho he => imdMeasure_next h ho he
  case elsewhere => exact fun s x n k h hno => imdMeasure_elsewhere h hno

end Sys2Proof.Machine
end

section
/-! SUPPORT and PROOFS. The end of a dark test while a Cask's close waits for it (R82, R142, R152, R153). -/

namespace Sys2Proof.Machine

/-- Outlet 0 as the high side of its first coil is under a dark test, while a Cask's close of its second coil waits for
the end of that test. -/
def State.closeWaits : State :=
  let tested := ({ State.reset with phase := .running } : State).modCoil 0 fun c => { c with phase := .hsTest, ls := true }
  let waits := tested.modCoil 1 fun c => { c with hs := true, waiting := true, owed := some (7, 0) }
  { waits with safe := { waits.safe with test := some (0, false, 0, true) } }

/-- The close that waited starts with the end of the test, and its CASK_LATE is then the newest event. -/
theorem darkTestEnd_closeWaits : ∃ u, exec (.darkTestEnd (10 ^ 9) (some 10)) State.closeWaits = .next u ∧
    u.told = some (Ev.CASK_LATE, 0, [7, 0, 12, 10 ^ 9]) := ⟨_, rfl, by decide⟩

/-- Refutes O31: its clause on the end of a dark test says that TEST_RESULT is the newest event then. In
`State.closeWaits` the end of the test lets a Cask's close start that waited for it, and CASK_LATE follows TEST_RESULT. -/
theorem not_coilsAndResidualCurrent : ¬ Obligations.CoilsAndResidualCurrent := by
  unfold Obligations.CoilsAndResidualCurrent
  rintro ⟨-, -, -, -, -, -, -, -, -, -, -, -, -, -, -, hend, -⟩
  obtain ⟨v, hv, hlate⟩ := darkTestEnd_closeWaits
  obtain ⟨u, hu, -, htold, -⟩ :=
    hend State.closeWaits (10 ^ 9) 0 0 false true (some 10) rfl rfl (by decide)
  rw [hv] at hu
  injection hu with huv
  rw [← huv, hlate] at htold
  exact absurd htold (by decide)

end Sys2Proof.Machine
end

section
/-! SUPPORT and PROOFS. A span calibration from a stored zero whose code does not fit the 32 bits of Z (R204, R205). -/

namespace Sys2Proof.Machine

/-- What the descriptor of the AFE_CAL_SPAN brings: command ring 1, host sequence number 1, no Cask. -/
def spanCtx : Ctx := ⟨5, 1, 1, 0, 0, 0⟩

/-- The module runs and has fetched an AFE_CAL_SPAN of input 2; the zero that it holds for that input on PADC10 has the
code −2^31 − 1. -/
def State.wideZero : State :=
  let ready := ({ State.reset with phase := .running } : State).wr R.GLOBAL_ISLAND_STAT_READY 5 1
  let fetched : Infl := ⟨spanCtx.ring, spanCtx.seq, Op.AFE_CAL_SPAN, 0, spanCtx.tag, spanCtx.flags, spanCtx.cask, false,
    false, some 0⟩
  { ready with
    host := { ready.host with inflight := [fetched] }
    afe := { ready.afe with zeros := ready.afe.zeros.put ⟨0, 0, 0⟩ 4 ⟨3, -2147483649, 0⟩ } }

/-- The span completes OK, and Z has lost the bits of that code above its 32. -/
theorem afeCalSpan_wideZero : ∃ u, exec (.afeCalSpan spanCtx 2 0 0 [] false) State.wideZero = .next u ∧
    u.answer spanCtx = some St.OK ∧ u.rdInt R.AFE_AUX_CAL_Z_P 2 = 2147483647 := ⟨_, rfl, by decide⟩

/-- Refutes O27: its clause on an accepted span says that Z reads as the code of the stored zero, in every state, so also
in one whose zero has a code that the 32 bits of Z cannot hold. In `State.wideZero` that code is −2^31 − 1, and Z reads
2^31 − 1 after the span. (AFE_CAL_ZERO itself stores codes of 20 bits, R200.) -/
theorem not_frontEndAndScanner : ¬ Obligations.FrontEndAndScanner := by
  unfold Obligations.FrontEndAndScanner
  rintro ⟨-, -, -, -, -, -, -, -, -, -, -, -, -, -, -, -, -, -, -, hspan, -⟩
  obtain ⟨v, hv, -, hread⟩ := afeCalSpan_wideZero
  obtain ⟨u, hu, -, -, hcode, -⟩ := hspan State.wideZero spanCtx 2 0 [] false ⟨3, -2147483649, 0⟩ (by decide) (by decide)
    (by decide) rfl (by decide) (by decide) (by decide) (by decide) (by decide) (by decide)
  rw [hv] at hu
  injection hu with huv
  rw [← huv, hread] at hcode
  exact absurd hcode (by decide)

end Sys2Proof.Machine
end

section
/-! SUPPORT. What the records of the ledger (R277 to R283, R315), the states of the meter points (R237) and the events of
the filters leave as it is: the filters' own part, and the register fields that show a channel's or a tracker's state. -/

namespace Sys2Proof.Machine

/-- The register fields that show the state of a channel's filter (R216) and of a tracker (R221). -/
def filtFields : List Fld :=
  [R.FILT_STAT_PRESENT, R.FILT_STAT_SETTLING, R.AFE_CH_STAT_OVL_NOW, R.FILT_TRK_STAT_STATE, R.FILT_TRK_STAT_UNLOCKS,
    R.FILT_TRK_STAT_AMP]

/-- None of the numbers is that of one of these fields. -/
def offFilt (ids : List Nat) : Bool := filtFields.all fun F => !ids.contains F.id

theorem offFilt_not_mem {ids : List Nat} (h : offFilt ids = true) {F : Fld} (hF : F ∈ filtFields) : F.id ∉ ids := by
  simpa using List.all_eq_true.1 h F hF

/-- From `s₀` to `s` the trackers, chains and cross-fades, the fields that show their state and the destroys of rings that
wait have stayed. -/
structure State.SameFilt (s₀ s : State) : Prop where
  filt : s.filt = s₀.filt
  fields : ∀ F ∈ filtFields, ∀ n, s.rd F n = s₀.rd F n
  destroys : s.host.destroys = s₀.host.destroys

namespace State

variable {s₀ s t : State} {m : Nat}

theorem SameFilt.refl (s : State) : SameFilt s s := ⟨rfl, fun _ _ _ => rfl, rfl⟩

theorem SameFilt.trans (h : SameFilt s₀ s) (k : SameFilt s t) : SameFilt s₀ t :=
  ⟨k.filt.trans h.filt, fun F hF n => (k.fields F hF n).trans (h.fields F hF n), k.destroys.trans h.destroys⟩

/-- An update of any part but the registers, the HOST island's and the filters'. -/
theorem sameFilt_upd {q : List Instr} {b a k : Nat} {ph : Phase} {st : Tab Nat} {ar : ArchSt} {c : CaskSt} {o : OutSt}
    {sf : SafeSt} {af : AfeSt} {me : MetSt} {l : LedgerSt} {ke : KeySt} {pl : PlcSt} {tg : TagSt} {d : DispSt}
    {lw : LswSt} {u : UpdSt} {tw : TwinSt} {pw : PwrSt} (h : SameFilt s₀ s) : SameFilt s₀
      ⟨q, s.regs, b, a, k, ph, st, s.host, ar, c, o, sf, af, s.filt, me, l, ke, pl, tg, d, lw, u, tw, pw⟩ :=
  ⟨h.filt, h.fields, h.destroys⟩

/-- An operation of the HOST island that writes none of the fields. -/
theorem sameFilt_loud {ids : List Nat} (k : Loud ids s t) (hids : offFilt ids = true) (h : SameFilt s₀ s) :
    SameFilt s₀ t :=
  h.trans ⟨k.only.filt, fun F hF n => k.regs F n (offFilt_not_mem hids hF), k.destroys⟩

theorem sameFilt_wr {F : Fld} {n v : Nat} (hF : offFilt [F.id] = true) (h : SameFilt s₀ s) : SameFilt s₀ (s.wr F n v) :=
  sameFilt_loud (quiet_wr F n v).loud hF h

theorem sameFilt_alert {F : Fld} (hF : offFilt [F.id] = true) (h : SameFilt s₀ s) : SameFilt s₀ (s.alert F) :=
  sameFilt_loud (quiet_alert F).loud hF h

theorem sameFilt_raise {c i : Nat} {p : List Nat} (h : SameFilt s₀ s) : SameFilt s₀ (s.raise c i p) :=
  sameFilt_loud (raise_spec c i p).1.loud (by decide) h

theorem sameFilt_finaliseOpt {x : Option Ctx} {st : Nat} (h : SameFilt s₀ s) : SameFilt s₀ (s.finaliseOpt x st) := by
  cases x with
  | none => exact h
  | some x => exact sameFilt_loud (finalise_spec x st).1 (by decide) h

theorem sameFilt_ite {a b : State} {c : Prop} {inst : Decidable c} (ha : SameFilt s₀ a) (hb : SameFilt s₀ b) :
    SameFilt s₀ (if c then a else b) := by
  split
  · exact ha
  · exact hb

theorem sameFilt_forEach {α : Type} {f : α → State → State} (hf : ∀ {x s}, SameFilt s₀ s → SameFilt s₀ (f x s))
    {xs : List α} (h : SameFilt s₀ s) : SameFilt s₀ (forEach xs f s) := by
  unfold forEach
  induction xs generalizing s with
  | nil => exact h
  | cons x xs ih => exact ih (hf h)

/-! ### Records of the ledger and denials -/

theorem issueNum_sameFilt (h : SameFilt s₀ s) : SameFilt s₀ s.issueNum.2 := by
  unfold issueNum
  split <;> exact sameFilt_upd h

theorem appendAs_sameFilt {num kind mp wall ledger flags epoch : Nat} {body : List (Nat × Nat)} (h : SameFilt s₀ s) :
    SameFilt s₀ (s.appendAs num kind mp wall ledger flags epoch body).2 :=
  sameFilt_raise (sameFilt_wr (by decide) (sameFilt_wr (by decide) (sameFilt_wr (by decide) (sameFilt_upd h))))

theorem appendCore_sameFilt {kind mp : Nat} {body : List (Nat × Nat)} (h : SameFilt s₀ s) :
    SameFilt s₀ (s.appendCore kind mp body).2 :=
  appendAs_sameFilt (issueNum_sameFilt h)

theorem tamperCount_sameFilt {ty k : Nat} (h : SameFilt s₀ s) : SameFilt s₀ (s.tamperCount ty k) :=
  sameFilt_wr (by decide) (sameFilt_wr (by decide) (sameFilt_ite (sameFilt_wr (by decide) h) h))

theorem overwritten_sameFilt {lost : List Nat} (h : SameFilt s₀ s) : SameFilt s₀ (s.overwritten lost) :=
  sameFilt_ite h (sameFilt_raise (appendCore_sameFilt (tamperCount_sameFilt h)))

theorem append_sameFilt {kind mp : Nat} {body : List (Nat × Nat)} (h : SameFilt s₀ s) :
    SameFilt s₀ (s.append kind mp body) :=
  overwritten_sameFilt (appendCore_sameFilt h)

theorem tamperMany_sameFilt {ty detail k : Nat} (h : SameFilt s₀ s) : SameFilt s₀ (s.tamperMany ty detail k) :=
  sameFilt_ite h (sameFilt_raise (append_sameFilt (tamperCount_sameFilt h)))

theorem tamper_sameFilt {ty detail : Nat} (h : SameFilt s₀ s) : SameFilt s₀ (s.tamper ty detail) :=
  tamperMany_sameFilt h

theorem partitionDenied_sameFilt {ini target : Nat} {r : Res} (h : SameFilt s₀ s) :
    SameFilt s₀ (s.partitionDenied ini target r) := by
  unfold partitionDenied
  extract_lets s₁ s₂
  have h₂ : SameFilt s₀ s₂ :=
    sameFilt_wr (by decide) (sameFilt_wr (by decide) (sameFilt_alert (by decide) (sameFilt_wr (by decide) h)))
  exact sameFilt_ite (tamper_sameFilt h₂) (sameFilt_ite (tamper_sameFilt h₂) h₂)

/-! ### Meter points and cross-fades -/

theorem setMpState_sameFilt {new role : Nat} (h : SameFilt s₀ s) : SameFilt s₀ (s.setMpState m new role) := by
  unfold setMpState
  extract_lets _ s₁ _ s₂ s₃ s₄
  have h₁ : SameFilt s₀ s₁ := sameFilt_raise (sameFilt_wr (by decide) h)
  have h₂ : SameFilt s₀ s₂ := sameFilt_ite (tamper_sameFilt (sameFilt_raise h₁)) h₁
  have h₃ : SameFilt s₀ s₃ := sameFilt_ite (sameFilt_raise h₂) h₂
  have h₄ : SameFilt s₀ s₄ := sameFilt_ite (sameFilt_upd h₃) h₃
  exact sameFilt_ite h (sameFilt_ite (sameFilt_upd h₄) h₄)

theorem mpEvals_sameFilt {ms : List Nat} (h : SameFilt s₀ s) : SameFilt s₀ (forEach ms (fun m s => s.mpEval m) s) :=
  sameFilt_forEach setMpState_sameFilt h

/-- The end of a cross-fade changes the lists of cross-fades, and of the filters nothing else. -/
theorem finishBlend_sameFilt (s : State) (b : Blend) (cs : List Nat) (t1 cut : Nat) : ∃ bs gone,
    SameFilt { s with filt := { s.filt with blends := bs, faded := gone } } (s.finishBlend b cs t1 cut) := by
  unfold finishBlend
  extract_lets _ _ _ _ s₁ s₂ s₃ s₄
  refine ⟨s₁.filt.blends, s₁.filt.faded, ?_⟩
  have h₃ : SameFilt s₁ s₃ := sameFilt_raise (sameFilt_forEach (fun h => sameFilt_wr (by decide) h) (.refl s₁))
  have h₄ : SameFilt s₁ s₄ := by
    unfold s₄
    split
    · exact sameFilt_raise h₃
    · exact h₃
  exact sameFilt_ite (s₀ := s₁) h₃ (sameFilt_finaliseOpt h₄)

/-! ### The state of a tracker (R221) -/

theorem auxDecide_sameFilt (h : SameFilt s₀ s) : SameFilt s₀ s.auxDecide := by
  unfold auxDecide
  split
  · exact sameFilt_ite h (sameFilt_ite (sameFilt_upd (sameFilt_upd h)) (sameFilt_ite
      (sameFilt_wr (by decide) (sameFilt_upd h))
      (sameFilt_raise (sameFilt_upd (sameFilt_wr (by decide) (sameFilt_upd h))))))
  · exact h

theorem auxUnlocked_sameFilt (h : SameFilt s₀ s) : SameFilt s₀ (s.auxUnlocked m) := by
  unfold auxUnlocked
  split
  · exact sameFilt_ite (sameFilt_upd h) h
  · exact h

/-- A tracker shows its new state, and where it leaves LOCKED it counts. -/
def trkShown (s : State) (m new : Nat) : State :=
  if s.rd R.FILT_TRK_STAT_STATE m = 2 && new != 2 then
    (s.auxDecide.wr R.FILT_TRK_STAT_STATE m new).incSat R.FILT_TRK_STAT_UNLOCKS m
  else s.auxDecide.wr R.FILT_TRK_STAT_STATE m new

theorem setTrk_sameFilt (s : State) (m new reason : Nat) : SameFilt (s.trkShown m new) (s.setTrk m new reason) := by
  unfold setTrk
  extract_lets old s₁ s₂
  have h₂ : SameFilt (s.trkShown m new) s₂ := by
    unfold trkShown s₂ old
    split
    · exact auxUnlocked_sameFilt (.refl _)
    · exact .refl _
  exact sameFilt_raise
    (sameFilt_ite h₂ (sameFilt_forEach (fun h => sameFilt_wr (by decide) (sameFilt_wr (by decide) h)) h₂))

theorem trkShown_filt (s : State) (m new : Nat) : (s.trkShown m new).filt = s.filt := by
  unfold trkShown
  split <;> exact (auxDecide_sameFilt (.refl s)).filt

theorem trkShown_rd (s : State) (m new : Nat) {F : Fld} (hF : F ∈ filtFields) (hs : F.id ≠ R.FILT_TRK_STAT_STATE.id)
    (hu : F.id ≠ R.FILT_TRK_STAT_UNLOCKS.id) (n : Nat) : (s.trkShown m new).rd F n = s.rd F n := by
  have h : (s.auxDecide.wr R.FILT_TRK_STAT_STATE m new).rd F n = s.rd F n := (rd_wr_ne _ _ _ _ _ hs).trans
    ((auxDecide_sameFilt (.refl s)).fields F hF n)
  unfold trkShown
  split
  · exact (rd_wr_ne _ _ _ _ _ hu).trans h
  · exact h

@[simp] theorem setTrk_filt (new reason : Nat) : (s.setTrk m new reason).filt = s.filt :=
  (setTrk_sameFilt s m new reason).filt.trans (s.trkShown_filt m new)

theorem setTrk_amp (new reason n : Nat) :
    (s.setTrk m new reason).rd R.FILT_TRK_STAT_AMP n = s.rd R.FILT_TRK_STAT_AMP n :=
  ((setTrk_sameFilt s m new reason).fields _ (by decide) n).trans
    (s.trkShown_rd m new (by decide) (by decide) (by decide) n)

theorem setTrk_state {new : Nat} (reason : Nat) (h : new < 4) :
    (s.setTrk m new reason).rd R.FILT_TRK_STAT_STATE m = new := by
  have hshown : (s.auxDecide.wr R.FILT_TRK_STAT_STATE m new).rd R.FILT_TRK_STAT_STATE m = new :=
    (rd_wr_same _ _ _).trans (Nat.mod_eq_of_lt h)
  rw [(setTrk_sameFilt s m new reason).fields _ (by decide)]
  unfold trkShown
  split
  · exact (rd_wr_ne _ _ _ _ _ (by decide)).trans hshown
  · exact hshown

theorem setTrk_unlocks {new : Nat} (reason : Nat) (hold : s.rd R.FILT_TRK_STAT_STATE m = 2) (hnew : new ≠ 2) :
    (s.setTrk m new reason).rd R.FILT_TRK_STAT_UNLOCKS m =
      satAdd R.FILT_TRK_STAT_UNLOCKS.w (s.rd R.FILT_TRK_STAT_UNLOCKS m) 1 := by
  have hleaves : (decide (s.rd R.FILT_TRK_STAT_STATE m = 2) && new != 2) = true := by rw [hold, bne_iff_ne.2 hnew]; rfl
  have hdecide : s.auxDecide.rd R.FILT_TRK_STAT_UNLOCKS m = s.rd R.FILT_TRK_STAT_UNLOCKS m :=
    (auxDecide_sameFilt (.refl s)).fields _ (by decide) m
  rw [(setTrk_sameFilt s m new reason).fields _ (by decide), trkShown, if_pos hleaves, rd_incSat_same,
    rd_wr_ne _ _ _ _ _ (by decide), hdecide]

theorem setTrk_told (s : State) (m new reason : Nat) : ∃ f, (s.setTrk m new reason).told =
    some (Ev.TRK_STATE, m, [m, s.rd R.FILT_TRK_STAT_STATE m, new, reason, f]) := ⟨_, raise_told ..⟩

end State
end Sys2Proof.Machine
end

section
/-! SUPPORT and PROOFS. The trackers (R219 to R221), the grid cycles (R223 to R225), the end of settling (R216), the
cross-fades (R231 to R233) and the FILT and TRK commands. -/

namespace Sys2Proof.Machine
namespace State

variable {s : State} {x : Ctx} {t m c : Nat}

/-! ### Trackers -/

@[simp] theorem trk_modTrk_same (s : State) (m : Nat) (f : Trk → Trk) : (s.modTrk m f).trk m = f (s.trk m) := by
  simp only [trk, modTrk, Tab.upd, Tab.get_put, if_true]

@[simp] theorem wr_trk (F : Fld) (n v k : Nat) : (s.wr F n v).trk k = s.trk k := rfl

@[simp] theorem setTrk_trk (new reason k : Nat) : (s.setTrk m new reason).trk k = s.trk k := by
  unfold trk
  rw [setTrk_filt]

/-- An accepted period enters the row and the estimate, and the frequency follows (R220). -/
theorem notePeriod_accepted (s : State) (m per : Nat) : ∃ f, s.notePeriod m per true =
    (s.modTrk m fun k => { k with row := (per :: k.row).take 10, last := (per :: k.last).take 4 }).wr
      R.FILT_TRK_STAT_FREQ_UHZ m f := ⟨_, rfl⟩

/-- A crossing at `c` has ended an accepted period with the amplitude `w` (R220). -/
def periodAccepted (s : State) (m c w : Nat) : State :=
  ((s.wr R.FILT_TRK_STAT_AMP m (min w 65535)).notePeriod m (c - (s.trk m).cross) true).modTrk m
    fun k => { k with cross := c }

theorem periodAccepted_trk (s : State) (m c w : Nat) : ((s.periodAccepted m c w).trk m).cross = c ∧
    ((s.periodAccepted m c w).trk m).row = (c - (s.trk m).cross) :: (s.trk m).row.take 9 := by
  obtain ⟨f, h⟩ := (s.wr R.FILT_TRK_STAT_AMP m (min w 65535)).notePeriod_accepted m (c - (s.trk m).cross)
  rw [periodAccepted, h, trk_modTrk_same, wr_trk, trk_modTrk_same]
  exact ⟨rfl, rfl⟩

theorem periodAccepted_amp {w : Nat} (hw : w < 65536) : (s.periodAccepted m c w).rd R.FILT_TRK_STAT_AMP m = w := by
  have hread : (s.periodAccepted m c w).rd R.FILT_TRK_STAT_AMP m = trunc 16 (min w 65535) := by
    obtain ⟨f, h⟩ := (s.wr R.FILT_TRK_STAT_AMP m (min w 65535)).notePeriod_accepted m (c - (s.trk m).cross)
    rw [periodAccepted, h]
    exact (rd_wr_ne _ _ _ _ _ (by decide)).trans (rd_wr_same _ _ _)
  rw [hread, Nat.min_eq_left (by omega)]
  exact Nat.mod_eq_of_lt (by omega)

/-- A tracker in SEARCH whose crossing ends an accepted period, the tenth in a row that lies within the bounds of R221,
locks on it. -/
theorem period_locks {w : Nat} (hst : s.rd R.FILT_TRK_STAT_STATE m = 1) (hcross : (s.trk m).cross ≠ 0)
    (hper : perInRange (c - (s.trk m).cross) = true) (hovl : s.ovlIn m (s.trk m).cross c = false)
    (hamp : 10 * s.rd R.FILT_TRK_CFG_MIN_PCT m ≤ w)
    (hrow : lockable ((c - (s.trk m).cross) :: (s.trk m).row.take 9) = true) :
    s.period m c w = (s.periodAccepted m c w).lockTrk m c 9 := by
  have hlater : (s.trk m).cross ≤ c := by
    simp only [perInRange, Bool.and_eq_true, decide_eq_true_eq] at hper
    omega
  have hlock : lockable ((s.periodAccepted m c w).trk m).row = true := by rw [(s.periodAccepted_trk m c w).2, hrow]
  simp only [period, hst, hcross, hper, hovl, Nat.sub_sub_self hlater, Nat.not_lt.2 hamp, decide_false, Bool.not_false,
    Bool.and_self, OfNat.one_ne_ofNat, one_ne_zero, if_false, if_true]
  exact if_pos hlock

theorem lockTrk_state (s : State) (m cross reason : Nat) : (s.lockTrk m cross reason).rd R.FILT_TRK_STAT_STATE m = 2 :=
  setTrk_state _ (by decide)

theorem lockTrk_amp (s : State) (m cross reason : Nat) :
    (s.lockTrk m cross reason).rd R.FILT_TRK_STAT_AMP m = s.rd R.FILT_TRK_STAT_AMP m :=
  (setTrk_amp ..).trans (rd_wr_ne _ _ _ _ _ (by decide))

theorem lockTrk_cross (s : State) (m cross reason : Nat) :
    ((s.lockTrk m cross reason).trk m).cross = (s.trk m).cross := by
  unfold lockTrk
  extract_lets s₁
  have h₁ : (s₁.trk m).cross = (s.trk m).cross := by simp only [s₁, trk_modTrk_same]
  simpa using h₁

theorem holdTrk_trk (s : State) (m reason frozen : Nat) : ((s.holdTrk m reason frozen).trk m).frozen = frozen ∧
    ((s.holdTrk m reason frozen).trk m).holdCyc = 0 := by
  simp only [holdTrk, setTrk_trk, trk_modTrk_same, and_self]

theorem trkPeriod_next {w : Nat} (hc : (s.advance t).core = true) (hm : m < 12) :
    exec (.trkPeriod t m c w) s = .next ((s.advance t).period m c w) := onCore_next _ rfl hc (if_pos hm)

theorem trkCrossingTimeout_next (hc : (s.advance t).core = true) (hm : m < 12)
    (hst : (s.advance t).rd R.FILT_TRK_STAT_STATE m = 2)
    (hdue : 3 * (s.advance t).pEst m ≤ 2 * ((s.advance t).mtb - ((s.advance t).trk m).cross)) :
    exec (.trkCrossingTimeout t m) s = .next ((s.advance t).holdTrk m 1 ((s.advance t).pEst m)) :=
  onCore_next _ rfl hc (if_pos (by rw [decide_eq_true hm, hst, decide_eq_true hdue]; rfl))

theorem trkHoldExpiry_next (hc : (s.advance t).core = true) (hm : m < 12)
    (hst : (s.advance t).rd R.FILT_TRK_STAT_STATE m = 3) (hdue : 10 ≤ ((s.advance t).trk m).holdCyc) :
    exec (.trkHoldExpiry t m) s = .next ((s.advance t).setTrk m 1 5) :=
  onCore_next _ rfl hc (if_pos (by rw [decide_eq_true hm, hst, decide_eq_true hdue]; rfl))

theorem trkSourceAbsent_next (hc : (s.advance t).core = true) (hm : m < 12) (habs : (s.advance t).trkAbsent m = true)
    (hst : (s.advance t).rd R.FILT_TRK_STAT_STATE m ≠ 0) :
    exec (.trkSourceAbsent t m) s = .next (((s.advance t).clearTrk m).setTrk m 0 7) := by
  refine onCore_next _ rfl hc ((if_pos hm).trans (if_pos ?_))
  rw [habs, Bool.or_true, bne_iff_ne.2 hst]
  rfl

/-! ### Grid cycles -/

theorem gridCycleStart_next {z : Nat} (hc : (s.advance t).core = true) (hm : m < 12)
    (hz : (s.advance t).cycleStart m = some z) : exec (.gridCycleStart t m) s = .next (
      let a := s.advance t
      (if (a.trk m).relock then (a.beginCycle m z).respace m (a.trk m).no else a.beginCycle m z).meterTrk m) := by
  refine onCore_next _ rfl hc ((if_neg (Nat.not_le.2 hm)).trans ?_)
  simp only [hz]

theorem gridCycleStart_notDue (hc : (s.advance t).core = true) (hz : (s.advance t).cycleStart m = none) :
    exec (.gridCycleStart t m) s = .next (s.advance t) := by
  refine onCore_next _ rfl hc ?_
  simp only [hz, ite_self]

theorem openCycle_shown {z p : Nat} (hp : p < 2 ^ 32) (hz : z + p < 2 ^ 64) :
    (s.openCycle m z p).rd R.FILT_TRK_ZC_START m = z ∧ (s.openCycle m z p).rd R.FILT_TRK_NEXT_START m = z + p ∧
      (s.openCycle m z p).rd R.FILT_TRK_PER_PERIOD_NS m = p := by
  refine ⟨?_, ?_, ?_⟩
  · exact (rd_wr_ne _ _ _ _ _ (by decide)).trans ((rd_wr_ne _ _ _ _ _ (by decide)).trans
      ((rd_wr_same _ _ _).trans (Nat.mod_eq_of_lt (Nat.lt_of_le_of_lt (Nat.le_add_right z p) hz))))
  · exact (rd_wr_ne _ _ _ _ _ (by decide)).trans ((rd_wr_same _ _ _).trans (Nat.mod_eq_of_lt hz))
  · exact (rd_wr_same _ _ _).trans (Nat.mod_eq_of_lt hp)

theorem openCycle_trk (s : State) (m z p : Nat) : ((s.openCycle m z p).trk m).no = (s.trk m).no + 1 ∧
    ((s.openCycle m z p).trk m).relock = (s.trk m).relock := by
  simp only [openCycle, wr_trk, trk_modTrk_same, and_self]

/-- In SEARCH a grid cycle has the nominal period (R221). -/
theorem cyclePeriod_search (hst : s.rd R.FILT_TRK_STAT_STATE m = 1) : s.cyclePeriod m = s.nominalPeriod m := by
  simp only [cyclePeriod, hst]

/-- In LOCKED a grid cycle has the estimated period, moved by an eighth of the phase error, by a thousandth at most (R224). -/
theorem cyclePeriod_locked (hst : s.rd R.FILT_TRK_STAT_STATE m = 2) :
    (s.cyclePeriod m : Int) = max 0 ((s.pEst m : Int) + max (-((s.pEst m / 1000 : Nat) : Int))
      (min ((s.pEst m / 1000 : Nat) : Int) (idivRound (s.trk m).err 8))) := by
  simp only [cyclePeriod, hst, Int.natCast_ediv, Nat.cast_ofNat]
  omega

/-- A cycle that begins in SEARCH has the nominal period, and a relock is over with it. -/
theorem beginCycle_search {z : Nat} (hst : s.rd R.FILT_TRK_STAT_STATE m = 1) : ∃ f : Trk → Trk,
    s.beginCycle m z = (s.modTrk m f).openCycle m z (s.nominalPeriod m) ∧
      ∀ k, (f k).no = k.no ∧ (f k).relock = false := by
  have hfree : s.freqCycle m z = s := if_pos (by rw [hst]; rfl)
  unfold beginCycle
  rw [hfree]
  extract_lets _ s₁
  have hper : s₁.cyclePeriod m = s.nominalPeriod m := cyclePeriod_search hst
  rw [hper]
  exact ⟨_, rfl, fun _ => ⟨rfl, rfl⟩⟩

theorem nominalPeriod_le (s : State) (m : Nat) : s.nominalPeriod m ≤ 20000000 := by
  unfold nominalPeriod
  split <;> decide

/-! ### Settling and restarts (R216) -/

/-- The samples of a channel no longer carry SETTLING. -/
def chanSettled (s : State) (c : Nat) : State :=
  (((s.wr R.FILT_STAT_SETTLING c 0).wr R.AFE_CH_STAT_OVL_NOW c 0).setFlag R.FILT_STAT_PRESENT c (!s.chAbsent c)).setFlag
    R.AFE_CH_STAT_PRESENT c (!s.chAbsent c)

theorem settlingEnd_next (hcore : (s.advance t).core = true) (hc : c < 64)
    (hdue : (s.advance t).filt.restartAt.get 0 c + (s.advance t).settleNs c ≤ (s.advance t).mtb) :
    exec (.settlingEnd t c) s = .next (forEach (((s.advance t).chanSettled c).mpsOf c) (fun m s => s.mpEval m)
      ((s.advance t).chanSettled c)) :=
  onCore_next _ rfl hcore (if_neg (by
    rw [Bool.or_eq_true, decide_eq_true_eq, decide_eq_true_eq, not_or]
    exact ⟨Nat.not_le.2 hc, Nat.not_lt.2 hdue⟩))

theorem chanSettled_rd (s : State) (c : Nat) : (s.chanSettled c).rd R.FILT_STAT_SETTLING c = 0 ∧
    (s.chanSettled c).rd R.AFE_CH_STAT_OVL_NOW c = 0 ∧
    (s.chanSettled c).rd R.FILT_STAT_PRESENT c = b2n (!s.chAbsent c) := by
  refine ⟨?_, ?_, ?_⟩
  · exact (rd_wr_ne _ _ _ _ _ (by decide)).trans ((rd_wr_ne _ _ _ _ _ (by decide)).trans
      ((rd_wr_ne _ _ _ _ _ (by decide)).trans (rd_wr_same _ _ _)))
  · exact (rd_wr_ne _ _ _ _ _ (by decide)).trans ((rd_wr_ne _ _ _ _ _ (by decide)).trans (rd_wr_same _ _ _))
  · refine (rd_wr_ne _ _ _ _ _ (by decide)).trans ((rd_wr_same _ _ _).trans ?_)
    cases s.chAbsent c <;> rfl

/-- A chain has been emptied, and its samples carry SETTLING from now on. -/
def chainEmptied (s : State) (c : Nat) : State :=
  let noted := ({ s with filt := { s.filt with restartAt := s.filt.restartAt.put 0 c s.mtb } } : State).emptyChain c
  ((noted.wr R.FILT_STAT_SETTLING c 1).wr R.FILT_STAT_PRESENT c 0).wr R.AFE_CH_STAT_PRESENT c 0

theorem chainEmptied_spec (s : State) (c : Nat) : (s.chainEmptied c).rd R.FILT_STAT_SETTLING c = 1 ∧
    (s.chainEmptied c).rd R.FILT_STAT_PRESENT c = 0 ∧ (s.chainEmptied c).filt.restartAt.get 0 c = s.mtb := by
  refine ⟨?_, ?_, ?_⟩
  · exact (rd_wr_ne _ _ _ _ _ (by decide)).trans ((rd_wr_ne _ _ _ _ _ (by decide)).trans (rd_wr_same _ _ _))
  · exact (rd_wr_ne _ _ _ _ _ (by decide)).trans (rd_wr_same _ _ _)
  · exact (Tab.get_put s.filt.restartAt 0 c c s.mtb).trans (if_pos rfl)

/-- The cross-fade that a restart cuts off ends without a trace in the chains. -/
theorem cutBlend_sameFilt (s : State) (c : Nat) : ∃ bs gone,
    SameFilt { s with filt := { s.filt with blends := bs, faded := gone } } (s.cutBlend c) := by
  unfold cutBlend
  split
  · exact ⟨s.filt.blends, s.filt.faded, .refl s⟩
  · exact finishBlend_sameFilt ..

theorem restartChain_sameFilt (s : State) (c : Nat) : ∃ bs gone,
    SameFilt { s.chainEmptied c with filt := { (s.chainEmptied c).filt with blends := bs, faded := gone } }
      (s.restartChain c) := by
  obtain ⟨bs, gone, h⟩ := (s.chainEmptied c).cutBlend_sameFilt c
  exact ⟨bs, gone, mpEvals_sameFilt (sameFilt_wr (by decide) (sameFilt_wr (by decide) h))⟩

/-! ### Cross-fades (R231) -/

/-- A field that a loop writes for some instances reads as written at each of them. -/
theorem forEach_wr_rd {F : Fld} {v k : Nat} {xs : List Nat} (hk : k ∈ xs) (s : State) :
    (forEach xs (fun n s => s.wr F n v) s).rd F k = trunc F.w v := by
  induction xs generalizing s with
  | nil => exact absurd hk List.not_mem_nil
  | cons y ys ih =>
    rw [forEach_cons]
    by_cases hys : k ∈ ys
    · exact ih hys _
    · obtain rfl : k = y := (List.mem_cons.1 hk).resolve_right hys
      have haway : ∀ n ∈ ys, ∀ s : State, (s.wr F n v).rd F k = s.rd F k := fun n hn s =>
        rd_wr_other F F n k v (.inr (ne_of_mem_of_not_mem hn hys).symm)
      exact (rd_forEach haway).trans (rd_wr_same F k v)

/-- The cross-fade has started at an instant. -/
def blendStarted (s : State) (b : Blend) (t0 : Nat) : State :=
  forEach b.chans (fun c s => s.wr R.FILT_STAT_BLENDING c 1) { s with filt := { s.filt with
    blends := s.filt.blends.map fun x => if x == b then { b with t0 := some t0 } else x } }

theorem blendStarted_filt (s : State) (b : Blend) (t0 : Nat) : (s.blendStarted b t0).filt.blends =
    s.filt.blends.map fun x => if x == b then { b with t0 := some t0 } else x :=
  forEach_keeps (fun s => s.filt.blends) (f := fun c s => s.wr R.FILT_STAT_BLENDING c 1) (fun _ _ => rfl) _

theorem blendStarted_blendOf {b : Blend} (h : s.blendOf c = some b) (t0 : Nat) :
    (s.blendStarted b t0).blendOf c = some { b with t0 := some t0 } := by
  have hsame : ((fun x : Blend => x.chans.contains c) ∘ fun x => if x == b then { b with t0 := some t0 } else x) =
      fun x : Blend => x.chans.contains c := by
    funext x
    by_cases hx : x = b <;> simp [hx]
  have hfirst : s.filt.blends.find? (fun x => x.chans.contains c) = some b := h
  rw [blendOf, blendStarted_filt, List.find?_map, hsame, hfirst]
  simp

theorem blendStart_next {b : Blend} (hcore : (s.advance t).core = true) (hb : (s.advance t).blendOf c = some b)
    (hnew : b.t0 = none) (hst : (s.advance t).rd R.FILT_TRK_STAT_STATE b.trk ≠ 2)
    (hdue : b.at_ ≤ (s.advance t).mtb / 10 ^ 6 * 10 ^ 6) :
    exec (.blendStart t c) s = .next ((s.advance t).blendStarted b ((s.advance t).mtb / 10 ^ 6 * 10 ^ 6)) := by
  refine onCore_next _ rfl hcore ?_
  simp only [hb, hnew, if_neg hst, Option.isSome_none, Bool.false_or, decide_eq_true_eq, if_neg (Nat.not_lt.2 hdue)]
  rfl

theorem blendDone_next {b : Blend} {z : Nat} (hcore : (s.advance t).core = true)
    (hb : (s.advance t).blendOf c = some b) (hz : b.t0 = some z)
    (hst : (s.advance t).rd R.FILT_TRK_STAT_STATE b.trk ≠ 2)
    (hdue : z + 10 ^ 6 * (s.advance t).rd R.FILT_BLEND_BLEND_MS ≤ (s.advance t).mtb / 10 ^ 6 * 10 ^ 6) :
    exec (.blendDone t c) s = .next
      ((s.advance t).finishBlend b b.chans ((s.advance t).mtb / 10 ^ 6 * 10 ^ 6) 0) := by
  refine onCore_next _ rfl hcore ?_
  simp only [hb, hz, if_neg hst, if_neg (Nat.not_lt.2 hdue)]

/-! ### Commands -/

/-- The channels of a mask with one bit. -/
theorem chans_two_pow (hc : c < 64) : (List.range 64).filter (bit (2 ^ c) ·) = [c] := by
  have hbit : (bit (2 ^ c) ·) = (· == c) := by
    funext k
    rw [bit_eq_testBit, Nat.testBit_two_pow, Bool.beq_eq_decide_eq]
    exact decide_eq_decide.2 eq_comm
  rw [hbit, List.filter_beq, List.count_eq_one_of_mem List.nodup_range (List.mem_range.2 hc)]
  rfl

theorem chan_mask_fits (hc : c < 64) : ¬ 2 ^ 64 ≤ 2 ^ c := Nat.not_le.2 (Nat.pow_lt_pow_right (by decide) hc)

theorem filtQuery_next (h : (s.advance x.t).takes x Op.FILT_QUERY c = true) (hc : c < 64) :
    exec (.filtQuery x c) s = .next (let a := (s.advance x.t).start x
      a.complete x St.OK ([R.FILT_STAT_PRESENT, R.FILT_STAT_ACTIVE_BANK, R.FILT_STAT_BLENDING, R.FILT_STAT_SETTLING,
        R.FILT_STAT_OVF_STAGE, R.FILT_STAT_OVF_CNT].foldl (fun n (F : Fld) => n + a.rd F c * 2 ^ F.lo) 0 +
        2 ^ 32 * a.rd R.FILT_GD_TOTAL_GD c + 2 ^ 64 * a.sampleFlags c)) :=
  command_completes h (if_neg (Nat.not_le.2 hc)) rfl

theorem trkQuery_next (h : (s.advance x.t).takes x Op.TRK_QUERY m = true) (hm : m < 12) :
    exec (.trkQuery x m) s = .next (let a := (s.advance x.t).start x
      a.complete x St.OK (a.rd R.FILT_TRK_STAT_FREQ_UHZ m + 2 ^ 32 * a.rd R.FILT_TRK_STAT_STATE m +
        2 ^ 64 * trunc 32 (a.rd R.FILT_TRK_NEXT_START m))) :=
  command_completes h (if_neg (Nat.not_le.2 hm)) rfl

/-- The channel's other bank is its calibrated one, and a cross-fade of the channel to it is accepted (R233). -/
def blendAccepted (s : State) (x : Ctx) (c : Nat) : State :=
  (s.setCal c (s.rdInt R.FILT_BANK_GAIN (s.otherBank c)) (s.rdInt R.FILT_BANK_TRIM (s.otherBank c))
    (s.rdInt R.MET_TC_CTL_T_APPLIED)).startBlend [c] (some x) none

theorem filtBlend_next (h : (s.advance x.t).takes x Op.FILT_BLEND 0 = true) (hc : c < 64)
    (hcal : ((s.advance x.t).start x).calAllowed = true) (hfree : ((s.advance x.t).start x).blendOf c = none) :
    exec (.filtBlend x (2 ^ c)) s = .next ((((s.advance x.t).start x).blendAccepted x c).complete x St.ACCEPTED) := by
  refine command_completes h ?_ rfl
  simp only [chans_two_pow hc, hcal, hfree, chan_mask_fits hc, Bool.not_true, List.any_cons, List.any_nil, List.headD_cons,
    bne_self_eq_false, Option.isSome_none, Bool.or_self, Bool.false_eq_true, List.cons_ne_nil, decide_false,
    if_false]
  rfl

theorem blendAccepted_bank (s : State) (x : Ctx) (c : Nat) : (s.blendAccepted x c).rd R.FILT_STAT_ACTIVE_BANK c =
    (1 - s.rd R.FILT_STAT_ACTIVE_BANK c) % 2 := rd_wr_same _ _ _

/-- The accepted cross-fade is the channel's own, where it had none. -/
theorem blendAccepted_blendOf (hfree : s.blendOf c = none) : ((s.blendAccepted x c).blendOf c).map (·.at_) =
    some s.mtb := by
  have hnone : s.filt.blends.find? (fun b => b.chans.contains c) = none := hfree
  have happend : ∃ b : Blend, (s.blendAccepted x c).filt.blends = s.filt.blends ++ [b] ∧ b.chans = [c] ∧ b.at_ = s.mtb :=
    ⟨_, rfl, rfl, rfl⟩
  obtain ⟨b, hb, hchans, hat⟩ := happend
  rw [blendOf, hb, List.find?_append, hnone]
  simp [hchans, hat]

theorem filtBlend_denied {mask : Nat} (h : (s.advance x.t).takes x Op.FILT_BLEND 0 = true)
    (hcal : ((s.advance x.t).start x).calAllowed = false) : exec (.filtBlend x mask) s =
      .next ((((s.advance x.t).start x).partitionDenied 0 4 .metroParams).complete x St.PARTITION_DENIED) :=
  command_completes h (if_pos (by rw [hcal]; rfl)) (partitionDenied_sameFilt (.refl _)).destroys

theorem filtRestart_denied {mask : Nat} (h : (s.advance x.t).takes x Op.FILT_RESTART 0 = true)
    (hcal : ((s.advance x.t).start x).calAllowed = false) : exec (.filtRestart x mask) s =
      .next ((((s.advance x.t).start x).partitionDenied 0 4 .metroParams).complete x St.PARTITION_DENIED) :=
  command_completes h (if_pos (by rw [hcal]; rfl)) (partitionDenied_sameFilt (.refl _)).destroys

theorem filtRestart_next (h : (s.advance x.t).takes x Op.FILT_RESTART 0 = true) (hc : c < 64)
    (hcal : ((s.advance x.t).start x).calAllowed = true) (hlive : ((s.advance x.t).start x).chanLive c = false) :
    exec (.filtRestart x (2 ^ c)) s =
      .next (((((s.advance x.t).start x).restartChain c).complete x St.OK).settleDestroys) := by
  refine command_next _ rfl h (congrArg settleDestroys ?_)
  simp only [chans_two_pow hc, hcal, hlive, chan_mask_fits hc, Bool.not_true, List.any_cons, List.any_nil, Bool.or_self,
    Bool.false_eq_true, if_false, forEach_one]

end State

open State in
/-- Settles O32: each event that is due and each command that is taken answers with its own function's state; what a
tracker's new state leaves is `setTrk_sameFilt`, and what a restart leaves of its chain is `restartChain_sameFilt`. -/
theorem filtersAndTrackers : Obligations.FiltersAndTrackers := by
  unfold Obligations.FiltersAndTrackers
  refine ⟨?crossing, ?locks, ?firstCrossing, ?off, ?timeout, ?holdEnds, ?absent, ?cycle, ?noCycle, ?searchCycle,
    ?lockedPeriod, ?settled, ?fadeStarts, ?fadeEnds, ?query, ?queryBad, ?fade, ?fadeDenied, ?trkQuery, ?restart,
    ?restartDenied, ?restarted⟩
  case crossing => exact fun s t m c w hc hm => trkPeriod_next hc hm
  case locks =>
    intro s m c w hst hcross hper hovl hamp hw hrow
    rw [period_locks hst hcross hper hovl hamp hrow]
    exact ⟨lockTrk_state .., (lockTrk_amp ..).trans (periodAccepted_amp hw),
      (lockTrk_cross ..).trans (periodAccepted_trk s m c w).1⟩
  case firstCrossing => exact fun s m c w hst hcross => (if_neg hst).trans (if_pos hcross)
  case off => exact fun s m c w hst => if_pos hst
  case timeout =>
    intro s t m a hc hm hst hdue
    obtain ⟨hfrozen, hcyc⟩ := a.holdTrk_trk m 1 (a.pEst m)
    exact ⟨_, trkCrossingTimeout_next hc hm hst hdue, setTrk_state _ (by decide), setTrk_unlocks _ hst (by decide),
      hfrozen, hcyc⟩
  case holdEnds =>
    intro s t m a hc hm hst hdue
    refine ⟨_, trkHoldExpiry_next hc hm hst hdue, setTrk_state _ (by decide), ?_⟩
    obtain ⟨f, htold⟩ := a.setTrk_told m 1 5
    rw [htold, hst]
    rfl
  case absent =>
    intro s t m a hc hm habs hst
    refine ⟨_, trkSourceAbsent_next hc hm habs hst, setTrk_state _ (by decide), ?_⟩
    rw [setTrk_trk, clearTrk, trk_modTrk_same]
  case cycle => exact fun s t m z hc hm hz => gridCycleStart_next hc hm hz
  case noCycle => exact fun s t m hc hz => gridCycleStart_notDue hc hz
  case searchCycle =>
    intro s m z hst hz
    obtain ⟨f, hbegin, hf⟩ := beginCycle_search (z := z) hst
    have hnom := s.nominalPeriod_le m
    obtain ⟨hzc, hnext, hper⟩ := openCycle_shown (s := s.modTrk m f) (m := m) (z := z) (p := s.nominalPeriod m)
      (by omega) (by omega)
    obtain ⟨hno, hrelock⟩ := openCycle_trk (s.modTrk m f) m z (s.nominalPeriod m)
    rw [trk_modTrk_same] at hno hrelock
    rw [hbegin]
    exact ⟨hzc, hnext, hper, hno.trans (congrArg (· + 1) (hf _).1), hrelock.trans (hf _).2⟩
  case lockedPeriod => exact fun s m hst => cyclePeriod_locked hst
  case settled =>
    intro s t c a hcore hc hdue
    have h : SameFilt (a.chanSettled c) _ := mpEvals_sameFilt (ms := (a.chanSettled c).mpsOf c) (.refl _)
    obtain ⟨hset, hovl, hpres⟩ := a.chanSettled_rd c
    refine ⟨_, settlingEnd_next hcore hc hdue, (h.fields _ (by decide) c).trans hset,
      (h.fields _ (by decide) c).trans hovl, ?_⟩
    rw [flag, h.fields _ (by decide), hpres]
    cases a.chAbsent c <;> rfl
  case fadeStarts =>
    intro s t c b a hcore hb hnew hst hdue
    refine ⟨_, blendStart_next hcore hb hnew hst hdue, ?_, congrArg (Option.map (·.t0)) (blendStarted_blendOf hb _)⟩
    rw [List.all_eq_true]
    exact fun k hk => beq_iff_eq.2 (forEach_wr_rd hk _)
  case fadeEnds => exact fun s t c z b hcore hb hz hst hdue => blendDone_next hcore hb hz hst hdue
  case query => exact fun s x c h hc => filtQuery_next h hc
  case queryBad => exact fun s x c h hc => command_completes h (if_pos hc) rfl
  case fade =>
    intro s x c b a h hc hcal hfree
    refine ⟨_, filtBlend_next h hc hcal hfree, complete_answer .., ?_, ?_⟩
    · rw [complete_rd _ _ _ _ _ (by decide)]
      exact a.blendAccepted_bank x c
    · rw [blendOf, complete_filt]
      exact blendAccepted_blendOf hfree
  case fadeDenied => exact fun s x m h hcal => filtBlend_denied h hcal
  case trkQuery => exact fun s x m h hm => trkQuery_next h hm
  case restart => exact fun s x c h hc hcal hlive => filtRestart_next h hc hcal hlive
  case restartDenied => exact fun s x m h hcal => filtRestart_denied h hcal
  case restarted =>
    intro s c _
    obtain ⟨bs, gone, h⟩ := s.restartChain_sameFilt c
    obtain ⟨hset, hpres, hat⟩ := s.chainEmptied_spec c
    exact ⟨(h.fields _ (by decide) c).trans hset, (h.fields _ (by decide) c).trans hpres, by rw [h.filt]; exact hat⟩

end Sys2Proof.Machine
end

section
/-! SUPPORT. The register fields that a tamper event (R315) and a change listed for the CAL record (R266, R319) write. -/

namespace Sys2Proof.Machine
namespace State

variable {s₀ s : State}

/-- The fields that a record of the ledger can change, the tamper table's among them. -/
def tamperIds : List Nat :=
  [R.LEDGER_STAT_LAST_SEQ.id, R.LEDGER_STAT_UNSIGNED.id, R.LEDGER_STAT_OVERWRITTEN.id, R.LEDGER_TAMPER_COUNT.id,
    R.LEDGER_TAMPER_FIRST_UTC.id, R.LEDGER_TAMPER_LAST_UTC.id] ++ raiseIds

theorem regsBut_wr {F : Fld} {n v : Nat} (hF : F.id ∈ tamperIds) (h : RegsBut tamperIds s₀ s) :
    RegsBut tamperIds s₀ (s.wr F n v) :=
  fun G m hG => (rd_wr_ne F G n m v (ne_of_mem_of_not_mem hF hG).symm).trans (h G m hG)

theorem regsBut_raise {c i : Nat} {p : List Nat} (h : RegsBut tamperIds s₀ s) :
    RegsBut tamperIds s₀ (s.raise c i p) :=
  fun G m hG => (raise_rd c i p G m fun e => hG (List.mem_append_right _ e)).trans (h G m hG)

theorem issueNum_regsBut (h : RegsBut tamperIds s₀ s) : RegsBut tamperIds s₀ s.issueNum.2 := by
  unfold issueNum
  split <;> exact h

theorem appendCore_regsBut {kind mp : Nat} {body : List (Nat × Nat)} (h : RegsBut tamperIds s₀ s) :
    RegsBut tamperIds s₀ (s.appendCore kind mp body).2 := by
  have hnum : RegsBut tamperIds s₀ s.issueNum.2 := issueNum_regsBut h
  exact regsBut_raise (regsBut_wr (by decide) (regsBut_wr (by decide) (regsBut_wr (by decide) hnum)))

theorem tamperCount_regsBut {ty k : Nat} (h : RegsBut tamperIds s₀ s) : RegsBut tamperIds s₀ (s.tamperCount ty k) := by
  unfold tamperCount
  extract_lets n s₁
  have h₁ : RegsBut tamperIds s₀ s₁ := by
    unfold s₁
    split
    · exact regsBut_wr (by decide) h
    · exact h
  exact regsBut_wr (by decide) (regsBut_wr (by decide) h₁)

theorem overwritten_regsBut {lost : List Nat} (h : RegsBut tamperIds s₀ s) :
    RegsBut tamperIds s₀ (s.overwritten lost) := by
  unfold overwritten
  split
  · exact h
  · exact regsBut_raise (appendCore_regsBut (tamperCount_regsBut h))

theorem append_regsBut {kind mp : Nat} {body : List (Nat × Nat)} (h : RegsBut tamperIds s₀ s) :
    RegsBut tamperIds s₀ (s.append kind mp body) :=
  overwritten_regsBut (appendCore_regsBut h)

theorem tamper_regsBut (s : State) (ty detail : Nat) : RegsBut tamperIds s (s.tamper ty detail) :=
  regsBut_raise (append_regsBut (tamperCount_regsBut fun _ _ _ => rfl))

theorem calNote_rd (s : State) (off old new : Nat) {G : Fld} (hG : G.id ∉ tamperIds) (m : Nat) :
    (s.calNote off old new).rd G m = s.rd G m := by
  unfold calNote
  refine (tamper_regsBut _ _ _ G m hG).trans ?_
  split <;> rfl

theorem calNote_destroys (s : State) (off old new : Nat) :
    (s.calNote off old new).host.destroys = s.host.destroys := by
  unfold calNote
  refine (tamper_sameFilt (.refl _)).destroys.trans ?_
  split <;> rfl

end State
end Sys2Proof.Machine
end

section
/-! SUPPORT and PROOFS. MET_PULSE_CFG (R266, R273, R274): a well-formed assignment under an open calibration is accepted
where its rate at PMAX fits the width of its pulses. -/

namespace Sys2Proof.Machine

/-- The image of a pulse assignment is in range, for an output that exists (R273). -/
structure PulseFormed (k image : Nat) : Prop where
  output : k < 8
  mp : State.imageField R.MET_PULSE_MP image ≤ 11
  qty : State.imageField R.MET_PULSE_QTY image ≤ 7
  constLow : 1 ≤ State.imageField R.MET_PULSE_CONST image
  constHigh : State.imageField R.MET_PULSE_CONST image ≤ 100000
  widthLow : 2 ≤ State.imageField R.MET_PULSE_WIDTH_MS image
  widthHigh : State.imageField R.MET_PULSE_WIDTH_MS image ≤ 100

namespace State

variable {s : State} {x : Ctx} {k image : Nat}

/-- The assignment that an image makes is too fast for the width of its own pulses (R274). -/
def imageTooFast (s : State) (image : Nat) : Bool :=
  s.pulseTooFast (imageField R.MET_PULSE_MP image) (imageField R.MET_PULSE_CONST image)
    (imageField R.MET_PULSE_WIDTH_MS image)

theorem pulseTooFast_eq (s : State) (m const width : Nat) : s.pulseTooFast m const width =
    decide (36000000000000 < const * (s.rd R.MET_RATING_UNOM m * s.rd R.MET_RATING_IMAX m *
      (if s.rd R.MET_CFG_TYPE m = 2 then 3 else 1)) * (2 * width)) := by
  rw [pulseTooFast, Nat.mul_assoc (_ * _) 2 width]

/-- A pulse output has its new assignment, and the change is listed for the CAL record (R266). -/
def pulseAssigned (s : State) (k image : Nat) : State :=
  ((s.writeFields pulseFields k image).pulseReset k).calNote (0x8C000 + 16 * k)
    (pulseFields.foldl (fun n F => n + s.rd F k * 2 ^ F.lo) 0) image

theorem pulseAssigned_rd (s : State) (k image : Nat) {F : Fld} (hF : F ∈ pulseFields) :
    (s.pulseAssigned k image).rd F k = imageField F image := by
  have hids : ∀ F ∈ pulseFields, F.id ∉ tamperIds ∧ F.id ≠ R.MET_PULSE_BACKLOG.id := by decide
  calc (s.pulseAssigned k image).rd F k
      = ((s.writeFields pulseFields k image).pulseReset k).rd F k := calNote_rd _ _ _ _ (hids F hF).1 k
    _ = (s.writeFields pulseFields k image).rd F k := rd_wr_ne _ _ _ _ _ (hids F hF).2
    _ = imageField F image := rd_writeFields (by decide) hF

theorem pulseAssigned_destroys (s : State) (k image : Nat) :
    (s.pulseAssigned k image).host.destroys = s.host.destroys := by
  have hreset : ((s.writeFields pulseFields k image).pulseReset k).host = (s.writeFields pulseFields k image).host := rfl
  rw [pulseAssigned, calNote_destroys, hreset, writeFields_host]

theorem metPulseCfg_closed (h : (s.advance x.t).takes x Op.MET_PULSE_CFG k = true)
    (hcal : ((s.advance x.t).start x).calAllowed = false) : exec (.metPulseCfg x k image) s =
      .next (((s.advance x.t).start x).complete x St.CAL_NOT_OPEN) :=
  command_completes h (if_pos (by rw [hcal]; rfl)) rfl

/-- A well-formed assignment under an open calibration turns on its rate alone. -/
theorem metPulseCfg_formed {st : Nat} {u : State} (h : (s.advance x.t).takes x Op.MET_PULSE_CFG k = true)
    (hcal : ((s.advance x.t).start x).calAllowed = true) (hf : PulseFormed k image)
    (hu : u.host.destroys = (s.advance x.t).host.destroys)
    (e : (if ((s.advance x.t).start x).imageTooFast image then ((s.advance x.t).start x).complete x St.PULSE_RATE
      else (((s.advance x.t).start x).pulseAssigned k image).complete x St.OK) = u.complete x st) :
    exec (.metPulseCfg x k image) s = .next (u.complete x st) := by
  obtain ⟨hk, hm, hq, hc1, hc2, hw1, hw2⟩ := hf
  have hc0 : imageField R.MET_PULSE_CONST image ≠ 0 := Nat.one_le_iff_ne_zero.1 hc1
  refine command_completes h (Eq.trans ?_ e) hu
  simp only [hcal, Nat.not_le.2 hk, Nat.not_lt.2 hm, Nat.not_lt.2 hq, hc0, Nat.not_lt.2 hc2, Nat.not_lt.2 hw1,
    Nat.not_lt.2 hw2, decide_false, Bool.not_true, Bool.or_self, Bool.false_eq_true, if_false]
  rfl

theorem metPulseCfg_tooFast (h : (s.advance x.t).takes x Op.MET_PULSE_CFG k = true)
    (hcal : ((s.advance x.t).start x).calAllowed = true) (hf : PulseFormed k image)
    (hfast : ((s.advance x.t).start x).imageTooFast image = true) :
    exec (.metPulseCfg x k image) s = .next (((s.advance x.t).start x).complete x St.PULSE_RATE) :=
  metPulseCfg_formed h hcal hf rfl (if_pos hfast)

theorem metPulseCfg_accepted (h : (s.advance x.t).takes x Op.MET_PULSE_CFG k = true)
    (hcal : ((s.advance x.t).start x).calAllowed = true) (hf : PulseFormed k image)
    (hslow : ((s.advance x.t).start x).imageTooFast image = false) :
    ∃ u, exec (.metPulseCfg x k image) s = .next u ∧ u.answer x = some St.OK ∧
      ∀ F ∈ pulseFields, u.rd F k = imageField F image := by
  have hids : ∀ F ∈ pulseFields, F.id ∉ completeIds := by decide
  have hnext := metPulseCfg_formed (u := ((s.advance x.t).start x).pulseAssigned k image) (st := St.OK) h hcal hf
    (pulseAssigned_destroys _ k image) (if_neg (by rw [hslow]; exact Bool.false_ne_true))
  refine ⟨_, hnext, complete_ok _ _, fun F hF => ?_⟩
  rw [complete_rd _ _ _ _ _ (hids F hF), pulseAssigned_rd _ k image hF]

end State

open State in
/-- Settles O15: a well-formed assignment turns on `State.pulseTooFast` alone, which compares the rate at PMAX with the
width (`State.pulseTooFast_eq`). -/
theorem pulseRate : Obligations.PulseRate := by
  unfold Obligations.PulseRate
  refine ⟨?accepted, ?tooFast⟩
  case accepted =>
    intro s x k image b a h hcal hk hm hq hc1 hc2 hw1 hw2 hrate
    refine metPulseCfg_accepted h hcal ⟨hk, hm, hq, hc1, hc2, hw1, hw2⟩ ?_
    rw [imageTooFast, pulseTooFast_eq]
    exact decide_eq_false (Nat.not_lt.2 hrate)
  case tooFast =>
    intro s x k image b a h hcal hk hm hq hc1 hc2 hw1 hw2 hrate
    refine metPulseCfg_tooFast h hcal ⟨hk, hm, hq, hc1, hc2, hw1, hw2⟩ ?_
    rw [imageTooFast, pulseTooFast_eq]
    exact decide_eq_true hrate

end Sys2Proof.Machine
end

section
/-! SUPPORT and PROOFS. The MET commands: queries, metering sessions (R256, R257), calibration (R266 to R269), harmonics
(R245) and waveform captures. -/

namespace Sys2Proof.Machine

theorem divRound_mul (a : Nat) {b : Nat} (hb : b ≠ 0) : divRound (a * b) b = a := by
  have hpos : 0 < b := Nat.pos_of_ne_zero hb
  rw [divRound, Nat.add_comm, Nat.add_mul_div_right _ _ hpos, Nat.div_eq_of_lt (Nat.div_lt_self hpos (by decide)),
    Nat.zero_add]

theorem idivRound_mul (z : Int) {n : Nat} (hn : n ≠ 0) : idivRound (z * n) n = z := by
  cases z with
  | ofNat a =>
    have hnat : (Int.ofNat a * n) = ((a * n : Nat) : Int) := (Int.natCast_mul a n).symm
    rw [idivRound, hnat, if_pos (Int.natCast_nonneg _), Int.toNat_natCast, divRound_mul a hn]
    rfl
  | negSucc a =>
    have hneg : Int.negSucc a * n = -(((a + 1) * n : Nat) : Int) := by rw [Int.negSucc_eq]; push_cast; ring
    have hpos : 0 < (a + 1) * n := Nat.mul_pos (Nat.succ_pos a) (Nat.pos_of_ne_zero hn)
    rw [idivRound, hneg, if_neg (by omega), Int.neg_neg, Int.toNat_natCast, divRound_mul _ hn, Int.negSucc_eq]
    push_cast
    ring

/-- The numbers below a bound that a mask with one bit names. -/
theorem range_filter_bit_two_pow {m n : Nat} (hm : m < n) : (List.range n).filter (bit (2 ^ m) ·) = [m] := by
  have hbit : (bit (2 ^ m) ·) = (· == m) := by
    funext k
    rw [bit_eq_testBit, Nat.testBit_two_pow, Bool.beq_eq_decide_eq]
    exact decide_eq_decide.2 eq_comm
  rw [hbit, List.filter_beq, List.count_eq_one_of_mem List.nodup_range (List.mem_range.2 hm)]
  rfl

namespace State

variable {s : State} {x : Ctx} {m : Nat}

/-! ### Queries and metering sessions -/

theorem metQuery_next (h : (s.advance x.t).takes x Op.MET_QUERY m = true) (hm : m < 12) :
    exec (.metQuery x m) s = .next (let a := (s.advance x.t).start x
      a.complete x St.OK (enc 32 (a.rdInt R.MET_TOTAL_P m / 1000) + 2 ^ 32 * (a.rd R.MET_TOTAL_FREQ_10S m / 1000) +
        2 ^ 64 * a.rd R.MET_CFG_STATE m + 2 ^ 72 * trunc 24 (a.rd R.MET_TOTAL_QF m))) :=
  command_completes h (if_neg (Nat.not_le.2 hm)) rfl

theorem metOpenBad_none {sess : Nat} (hm : m < 12) (hruns : s.mpRuns m = true) (hlive : s.mpLive m = false) :
    s.metOpenBad m sess = none := by
  simp only [metOpenBad, Nat.not_le.2 hm, hruns, hlive, Bool.not_true, Bool.false_eq_true, if_false]

/-- An opened session is live, with its number, its T and empty counters (R256). -/
theorem metOpen_spec {sess at_ : Nat} (hs : sess < 2 ^ 32) (ht : at_ < 2 ^ 64) :
    (s.metOpen m sess at_).mpLive m = true ∧ (s.metOpen m sess at_).rd R.MET_SESS_SESSION_ID m = sess ∧
      (s.metOpen m sess at_).rd R.MET_SESS_T_OPEN m = at_ ∧ (s.metOpen m sess at_).rd R.MET_SESS_A_IMP m = 0 ∧
      (s.metOpen m sess at_).rd R.MET_SESS_A_EXP m = 0 := by
  have hregs : ∀ G n, (s.metOpen m sess at_).rd G n = ((((((s.wr R.MET_SESS_SESSION_ID m sess).wr R.MET_SESS_OPEN m
      1).wr R.MET_SESS_CLOSED_PENDING m 0).wr R.MET_SESS_T_OPEN m at_).wr R.MET_SESS_A_IMP m 0).wr
      R.MET_SESS_A_EXP m 0).rd G n := fun _ _ => rfl
  have hsess : trunc 32 sess = sess := Nat.mod_eq_of_lt hs
  have hat : trunc 64 at_ = at_ := Nat.mod_eq_of_lt ht
  have hone : trunc 1 1 = 1 := rfl
  have hzero : trunc 64 0 = 0 := rfl
  simp (disch := decide) [mpLive, flag, hregs, rd_wr_ne, hsess, hat, hone, hzero]

theorem metSessionOpen_next {sess : Nat} (h : (s.advance x.t).takes x Op.MET_SESSION_OPEN m = true)
    (hheld : (s.advance x.t).heldBy 16 (.metOpen m sess) = none)
    (hoff : (s.advance x.t).actDisabled (some (.metOpen m sess)) = false)
    (hgood : ((s.advance x.t).start x).metOpenBad m sess = none) : exec (.metSessionOpen x m sess) s =
      .next ((((s.advance x.t).start x).metOpen m sess (s.advance x.t).mtb).complete x St.OK) :=
  command_act_completes h hheld hoff (by simp only [hgood, start_mtb]) rfl

theorem metSessionOpen_refused {sess st : Nat} (h : (s.advance x.t).takes x Op.MET_SESSION_OPEN m = true)
    (hheld : (s.advance x.t).heldBy 16 (.metOpen m sess) = none)
    (hoff : (s.advance x.t).actDisabled (some (.metOpen m sess)) = false)
    (hbad : ((s.advance x.t).start x).metOpenBad m sess = some st) :
    exec (.metSessionOpen x m sess) s = .next (((s.advance x.t).start x).complete x st) :=
  command_act_completes h hheld hoff (by simp only [hbad]) rfl

theorem metSessionClose_next (h : (s.advance x.t).takes x Op.MET_SESSION_CLOSE m = true)
    (hheld : (s.advance x.t).heldBy 16 (.metClose m) = none)
    (hoff : (s.advance x.t).actDisabled (some (.metClose m)) = false) (hm : m < 12)
    (hlive : ((s.advance x.t).start x).mpLive m = true) : exec (.metSessionClose x m) s =
      .next (((((s.advance x.t).start x).metClose m (s.advance x.t).mtb).complete x St.OK).settleDestroys) := by
  have hgood : ((s.advance x.t).start x).metCloseBad m = none := (if_neg (Nat.not_le.2 hm)).trans (if_pos hlive)
  exact command_act_next _ rfl h hheld hoff (by simp only [hgood, start_mtb])

theorem metSessionClose_notLive (h : (s.advance x.t).takes x Op.MET_SESSION_CLOSE m = true)
    (hheld : (s.advance x.t).heldBy 16 (.metClose m) = none)
    (hoff : (s.advance x.t).actDisabled (some (.metClose m)) = false) (hm : m < 12)
    (hlive : ((s.advance x.t).start x).mpLive m = false) :
    exec (.metSessionClose x m) s = .next (((s.advance x.t).start x).complete x St.NO_MP_SESSION) := by
  have hbad : ((s.advance x.t).start x).metCloseBad m = some St.NO_MP_SESSION :=
    (if_neg (Nat.not_le.2 hm)).trans (if_neg (by rw [hlive]; exact Bool.false_ne_true))
  exact command_act_completes h hheld hoff (by simp only [hbad]) rfl

/-! ### Calibration (R266 to R269) -/

/-- A meter point has the measurement that a MET_CAL_MEASURE asked for. -/
def calMeasuring (s : State) (x : Ctx) (m phases secs : Nat) : State :=
  { s with met := { s.met with runs := s.met.runs.put none m (some ⟨x, phases, secs, s.mtb, none, 0, [], (0, 0), s.mtb⟩) } }

theorem metCalMeasure_next {phases secs : Nat} (h : (s.advance x.t).takes x Op.MET_CAL_MEASURE m = true) (hm : m < 12)
    (hp1 : 1 ≤ phases) (hp8 : phases < 8) (hs1 : 1 ≤ secs) (hs60 : secs ≤ 60)
    (hcal : ((s.advance x.t).start x).calCovers m = true)
    (hfree : ((s.advance x.t).start x).met.runs.get none m = none) : exec (.metCalMeasure x m phases secs) s =
      .next ((((s.advance x.t).start x).calMeasuring x m phases secs).complete x St.ACCEPTED) := by
  have hp0 : phases ≠ 0 := Nat.one_le_iff_ne_zero.1 hp1
  have hs0 : secs ≠ 0 := Nat.one_le_iff_ne_zero.1 hs1
  refine command_completes h ?_ rfl
  simp only [hcal, hfree, hp0, hs0, Nat.not_le.2 hm, Nat.not_le.2 hp8, Nat.not_lt.2 hs60, Option.isSome_none,
    decide_false, Bool.not_true, Bool.or_self, Bool.false_eq_true, if_false]
  rfl

theorem metCalMeasure_closed {phases secs : Nat} (h : (s.advance x.t).takes x Op.MET_CAL_MEASURE m = true)
    (hcal : ((s.advance x.t).start x).calCovers m = false) : exec (.metCalMeasure x m phases secs) s =
      .next (((s.advance x.t).start x).complete x St.CAL_NOT_OPEN) :=
  command_completes h (if_pos (by rw [hcal]; rfl)) rfl

/-- An apply to the voltage and the current of phase 1, gains and trim, from a fresh measurement (R268). -/
theorem metCalApply_next {uRef iRef : Nat} {angle gv gi ti : Int} {k : CalKept} (a : State)
    (ha : a = (s.advance x.t).start x) (h : (s.advance x.t).takes x Op.MET_CAL_APPLY m = true) (hm : m < 12)
    (hcal : a.calCovers m = true) (hv : a.roleChan m 0 ≠ 0x7F) (hi : a.roleChan m 3 ≠ 0x7F)
    (hk : a.met.kept.get none (3 * m) = some k) (hfresh : a.mtb ≤ k.at_ + 600 * 10 ^ 9) (hlive : a.mpLive m = false)
    (hbv : a.blendOf (a.roleChan m 0) = none) (hbi : a.blendOf (a.roleChan m 3) = none)
    (hnew : newCoefs k 7 uRef iRef angle (a.rdInt R.FILT_BANK_GAIN (a.thisBank (a.roleChan m 0)))
      (a.rdInt R.FILT_BANK_GAIN (a.thisBank (a.roleChan m 3)))
      (a.rdInt R.FILT_BANK_TRIM (a.thisBank (a.roleChan m 3))) = some (gv, gi, ti)) :
    exec (.metCalApply x m 0 uRef iRef angle 7) s =
      .next ((a.applyCal x m 0 7 k [a.roleChan m 0, a.roleChan m 3] gv gi ti).settleDestroys) := by
  have hbit0 : bit 7 0 = true := by decide
  have hbit3 : bit 7 3 = false := by decide
  have hage : ¬ k.at_ + 600000000000 < a.mtb := Nat.not_lt.2 hfresh
  refine command_next _ rfl h (congrArg settleDestroys ?_)
  rw [← ha]
  simp [hcal, hv, hi, hk, hlive, hbv, hbi, hnew, hbit0, hbit3, hage, Nat.not_le.2 hm]

/-- With only the voltage gain asked for, a reference that the measurement met leaves every coefficient (R268). -/
theorem newCoefs_met {k : CalKept} {uRef : Nat} {gv gi : Int} (hu : k.u = uRef) (h0 : uRef ≠ 0) :
    newCoefs k 1 uRef 0 0 gv gi 0 = some (gv, gi, 0) := by
  have hbit0 : bit 1 0 = true := by decide
  have hbit1 : bit 1 1 = false := by decide
  have hbit2 : bit 1 2 = false := by decide
  simp [newCoefs, hbit0, hbit1, hbit2, hu, h0, idivRound_mul]

/-! ### Harmonics and captures -/

/-- The 64 orders of a phase, each as its two subgroups and its two interharmonic ones (R245). -/
def harmRows (s : State) (m ph : Nat) : List Nat :=
  (List.range 64).flatMap fun h => [s.rd R.MET_HARM_U_SG (harmIx m ph h), s.rd R.MET_HARM_I_SG (harmIx m ph h),
    s.rd R.MET_HARM_U_ISG (harmIx m ph h), s.rd R.MET_HARM_I_ISG (harmIx m ph h)]

theorem metHarmRead_next {ph : Nat} (h : (s.advance x.t).takes x Op.MET_HARM_READ m = true) (hm : m < 12)
    (hp : ph < 3) : exec (.metHarmRead x m ph 0) s = .next ((((s.advance x.t).start x).giveBuffer
      (((s.advance x.t).start x).harmRows m ph)).complete x St.OK) := by
  refine command_completes h ?_ (giveBuffer_destroys _)
  simp only [Nat.not_le.2 hm, Nat.not_le.2 hp, Nat.not_le.2 Nat.zero_lt_two, decide_false, Bool.or_self,
    Bool.false_eq_true, decide_true, Bool.true_or, if_false, if_true]
  rfl

/-- The masks of MET_WAVE_CAPTURE and MET_WAVE_STOP that name one meter point are in range. -/
theorem point_mask_fits (hm : m < 12) : ¬ 2 ^ 12 ≤ 2 ^ m := Nat.not_le.2 (Nat.pow_lt_pow_right (by decide) hm)

theorem streamBlock_destroys (s : State) (src : Nat) (b : StreamBlock) :
    (s.streamBlock src b).host.destroys = s.host.destroys :=
  (drainSource_drained src).quiet.destroys.trans (drainSource_drained src).quiet.destroys

theorem waveBlock_destroys (s : State) (m : Nat) : (s.waveBlock m).host.destroys = s.host.destroys := by
  unfold waveBlock
  extract_lets rs first body
  split
  · exact (drainSource_drained _).quiet.destroys
  · exact streamBlock_destroys _ _ _

/-- A capture of a meter point runs, with none of its samples taken. -/
def waveStarted (s : State) (m samples : Nat) : State :=
  (s.setWaveRecs m []).setWave m ⟨true, 0x21, samples, samples == 0⟩

/-- A capture of a meter point has ended, and what waited has been delivered. -/
def waveStopped (s : State) (m : Nat) : State := ((s.waveBlock m).setWave m Capture.off).setWaveRecs m []

theorem waveStarted_spec (s : State) (m samples : Nat) :
    (s.waveStarted m samples).wave m = ⟨true, 0x21, samples, samples == 0⟩ ∧ (s.waveStarted m samples).waveRecs m = [] := by
  simp [waveStarted, wave, waveRecs, setWave, setWaveRecs]

theorem waveStopped_spec (s : State) (m : Nat) :
    (s.waveStopped m).wave m = Capture.off ∧ (s.waveStopped m).waveRecs m = [] := by
  simp [waveStopped, wave, waveRecs, setWave, setWaveRecs]

theorem complete_wave (s : State) (x : Ctx) (st r m : Nat) : (s.complete x st r).wave m = s.wave m ∧
    (s.complete x st r).waveRecs m = s.waveRecs m := by
  simp only [wave, waveRecs, complete_met, and_self]

theorem metWaveCapture_next {samples : Nat} (h : (s.advance x.t).takes x Op.MET_WAVE_CAPTURE 0 = true) (hm : m < 12) :
    exec (.metWaveCapture x (2 ^ m) samples) s =
      .next ((((s.advance x.t).start x).waveStarted m samples).complete x St.OK) := by
  refine command_completes h ?_ rfl
  simp only [Nat.two_pow_pos m |>.ne', point_mask_fits hm, range_filter_bit_two_pow hm, forEach_one, decide_false,
    Bool.or_self, Bool.false_eq_true, if_false]
  rfl

theorem metWaveStop_next (h : (s.advance x.t).takes x Op.MET_WAVE_STOP 0 = true) (hm : m < 12) :
    exec (.metWaveStop x (2 ^ m)) s = .next ((((s.advance x.t).start x).waveStopped m).complete x St.OK) := by
  refine command_completes h ?_ (waveBlock_destroys _ m)
  simp only [point_mask_fits hm, range_filter_bit_two_pow hm, forEach_one, if_false]
  rfl

end State

open State in
/-- Settles O34: each command that is taken answers with the state its own lemma names, and what the clause reads is read
off that state. -/
theorem meteringCommands : Obligations.MeteringCommands := by
  unfold Obligations.MeteringCommands
  refine ⟨?query, ?opens, ?openRefused, ?closes, ?closeRefused, ?measures, ?measureClosed, ?applies, ?met, ?pulseClosed,
    ?pulse, ?harmonics, ?captures, ?stops⟩
  case query => exact fun s x m h hm => metQuery_next h hm
  case opens =>
    intro s x m sess b a h hheld hoff hm hruns hlive hs ht
    obtain ⟨hopen, hid, hat, himp, hexp⟩ := metOpen_spec (s := a) (m := m) hs ht
    refine ⟨_, metSessionOpen_next h hheld hoff (metOpenBad_none hm hruns hlive), complete_ok _ _, ?_⟩
    rw [mpLive, complete_flag _ _ _ _ _ (by decide), complete_rd _ _ _ _ _ (by decide),
      complete_rd _ _ _ _ _ (by decide), complete_rd _ _ _ _ _ (by decide), complete_rd _ _ _ _ _ (by decide)]
    exact ⟨hopen, hid, hat, himp, hexp⟩
  case openRefused => exact fun s x m sess st h hheld hoff hbad => metSessionOpen_refused h hheld hoff hbad
  case closes => exact fun s x m h hheld hoff hm hlive => metSessionClose_next h hheld hoff hm hlive
  case closeRefused =>
    exact fun s x m h hheld hoff hm hlive =>
      ⟨_, metSessionClose_notLive h hheld hoff hm hlive, complete_answer_of _ (by decide)⟩
  case measures =>
    intro s x m phases secs b a h hm hp1 hp8 hs1 hs60 hcal hfree
    refine ⟨_, metCalMeasure_next h hm hp1 hp8 hs1 hs60 hcal hfree, complete_answer _ _ _, ?_⟩
    rw [complete_met, calMeasuring, Tab.get_put, if_pos rfl]
  case measureClosed =>
    exact fun s x m phases secs h hcal => ⟨_, metCalMeasure_closed h hcal, complete_answer_of _ (by decide)⟩
  case applies =>
    exact fun s x m uRef iRef angle k gv gi ti h hm hcal hv hi hk hfresh hlive hbv hbi hnew =>
      metCalApply_next _ rfl h hm hcal hv hi hk hfresh hlive hbv hbi hnew
  case met => exact fun k uRef gi gv hu h0 => newCoefs_met hu h0
  case pulseClosed =>
    exact fun s x k image h hcal => ⟨_, metPulseCfg_closed h hcal, complete_answer_of _ (by decide)⟩
  case pulse =>
    exact fun s x k image h hcal hk hm hq hc1 hc2 hw1 hw2 hslow =>
      metPulseCfg_accepted h hcal ⟨hk, hm, hq, hc1, hc2, hw1, hw2⟩ hslow
  case harmonics =>
    intro s x m ph b a h hm hp
    refine ⟨_, metHarmRead_next h hm hp, complete_ok _ _, fun hattached => ?_⟩
    rw [(complete_sameIo _ _ _).dma, giveBuffer_dma, if_pos hattached]
    rfl
  case captures =>
    intro s x m samples b a h hm
    refine ⟨_, metWaveCapture_next h hm, complete_ok _ _, ?_⟩
    rw [(complete_wave _ _ _ _ _).1, (complete_wave _ _ _ _ _).2]
    exact a.waveStarted_spec m samples
  case stops =>
    intro s x m b a h hm
    refine ⟨_, metWaveStop_next h hm, complete_ok _ _, ?_⟩
    rw [(complete_wave _ _ _ _ _).1, (complete_wave _ _ _ _ _).2]
    exact a.waveStopped_spec m

end Sys2Proof.Machine
end

section
/-! SUPPORT and PROOFS. A pulse that starts while more pulses wait than BACKLOG can count (R273, R276). -/

namespace Sys2Proof.Machine
namespace State

variable {s : State} {k : Nat}

/-- Of the pulses that wait behind one that conducts, those beyond the 65,535 that BACKLOG counts are lost (R276). -/
theorem backlog_due {p : Pulse} (hp : s.met.pulses.get Pulse.init k = p) (hon : p.on = true)
    (hdue : ∀ d ∈ p.due, d ≤ s.mtb) :
    ((s.backlog k).met.pulses.get Pulse.init k).due = p.due.drop (p.due.length - min p.due.length 65535) := by
  have hall : p.due.filter (fun d => decide (d ≤ s.mtb)) = p.due :=
    List.filter_eq_self.2 fun d hd => decide_eq_true (hdue d hd)
  unfold backlog
  simp only [hp, hon, hall, Bool.true_or, if_true]
  split
  · rw [raise_met, wr_met, Tab.get_put, if_pos rfl]
  · rw [wr_met, Tab.get_put, if_pos rfl]

/-- The module runs and pulse output 0 is enabled; pulses are due there at the MTB's zero and behind it at `r`. -/
def pulsesDue (r : List Nat) : State :=
  let enabled := ({ State.reset with phase := .running } : State).wr R.MET_PULSE_EN 0 1
  { enabled with met := { enabled.met with pulses := enabled.met.pulses.put Pulse.init 0 { Pulse.init with due := 0 :: r } } }

theorem pulsesDue_pulse (r : List Nat) : ((pulsesDue r).advance 0).met.pulses.get Pulse.init 0 =
    { Pulse.init with due := 0 :: r } := by
  rw [advance_met, pulsesDue, Tab.get_put, if_pos rfl]

theorem pulsesDue_enabled (r : List Nat) : ((pulsesDue r).advance 0).flag R.MET_PULSE_EN 0 = true :=
  (advance_flag _ _ _).trans (flag_wr_same R.MET_PULSE_EN 0 1)

/-- A pulse output conducts from now on, and the pulses at `r` wait. -/
def pulseOn (s : State) (k : Nat) (r : List Nat) : State :=
  let p := { s.met.pulses.get Pulse.init k with on := true, due := r, edge1 := s.mtb + 1 }
  { s with met := { s.met with pulses := s.met.pulses.put Pulse.init k p } }

theorem pulseStart_next {t d : Nat} {r : List Nat} (hcore : (s.advance t).core = true) (hk : k < 8)
    (hen : (s.advance t).flag R.MET_PULSE_EN k = true)
    (hdue : ((s.advance t).met.pulses.get Pulse.init k).due = d :: r) (hd : d ≤ (s.advance t).mtb)
    (hoff : ((s.advance t).met.pulses.get Pulse.init k).on = false)
    (hnew : ((s.advance t).met.pulses.get Pulse.init k).edge1 = 0) :
    exec (.pulseStart t k) s = .next (((s.advance t).pulseOn k r).backlog k) := by
  refine onCore_next _ rfl hcore ?_
  simp only [hdue, hk, hen, hd, hoff, hnew, decide_true, Bool.not_false, Bool.and_self, Bool.true_or, if_true]
  rfl

/-- A pulse starts, and the others wait but for those that BACKLOG cannot count. -/
theorem pulseOn_backlog_due {r : List Nat} (hr : ∀ d ∈ r, d ≤ s.mtb) :
    (((s.pulseOn k r).backlog k).met.pulses.get Pulse.init k).due = r.drop (r.length - min r.length 65535) := by
  have hon : (s.pulseOn k r).met.pulses.get Pulse.init k =
      { s.met.pulses.get Pulse.init k with on := true, due := r, edge1 := s.mtb + 1 } := by
    rw [pulseOn, Tab.get_put, if_pos rfl]
  exact backlog_due hon rfl hr

end State

/-- Refutes O33: its clause on the start of a pulse says that the other pulses that are due stay, in every state, so also
in one where more of them wait than BACKLOG can count. In `State.pulsesDue` with 65,536 behind the first one, 65,535
are left (R276). -/
theorem not_meteringEvents : ¬ Obligations.MeteringEvents := by
  unfold Obligations.MeteringEvents
  rintro ⟨-, -, -, -, -, -, -, -, -, -, hstart, -⟩
  obtain ⟨r, hlen, hzero⟩ : ∃ r : List Nat, r.length = 65536 ∧ ∀ d ∈ r, d = 0 :=
    ⟨List.replicate 65536 0, List.length_replicate, fun _ => List.eq_of_mem_replicate⟩
  have hpulse := State.pulsesDue_pulse r
  have hdue := congrArg Pulse.due hpulse
  have hoff := congrArg Pulse.on hpulse
  have hnew := congrArg Pulse.edge1 hpulse
  have hen := State.pulsesDue_enabled r
  obtain ⟨u, hu, -, -, hleft⟩ := hstart (State.pulsesDue r) 0 0 0 r rfl (by decide) hen hdue (Nat.zero_le _) hoff hnew
  rw [State.pulseStart_next rfl (by decide) hen hdue (Nat.zero_le _) hoff hnew] at hu
  injection hu with hu
  rw [← hu, State.pulseOn_backlog_due fun d hd => (hzero d hd).trans_le (Nat.zero_le _)] at hleft
  have hless := congrArg List.length hleft
  rw [List.length_drop, hlen] at hless
  exact absurd hless (by decide)

end Sys2Proof.Machine
end

section
/-! SUPPORT and PROOFS. A start that reads back a stored copy of the ledger (R279, R280): the energy counters are those of
the copy. -/

namespace Sys2Proof.Machine

/-- The manifest of an image whose parts are empty. -/
def emptyImage : TamecMan := ⟨0, 0, 0, 0, 0, 0, 0, 0, [], [], true, true, true⟩

/-- The module has stopped and VIN is valid again: the first energy counter stood at 9 when it stopped, and at 7 when the
ledger was last committed. -/
def State.countedSince : State :=
  let stopped := ({ State.reset with phase := .vinValid } : State).wr R.MET_ENERGY_COUNT 0 9
  { stopped with
    ledger := { stopped.ledger with copyA := some ((stopped.wr R.MET_ENERGY_COUNT 0 7).snapshotCommit 1) }
    upd := { stopped.upd with slots := stopped.upd.slots.put none 0 (some emptyImage) } }

/-- The start reads the copy back: the counter has lost what was counted after it. -/
theorem countedSince_startUp :
    ((State.countedSince.advance 0).startUp onlyActiveVerifies).rd R.MET_ENERGY_COUNT 0 = 7 := by decide +kernel

/-- Refutes O9: START_UP is not among the commands that the statement leaves out, and a start lays the energy counters of
the newest stored copy of the ledger over the registers (R279, R280). In `State.countedSince` the counter falls from 9
to 7. -/
theorem not_energyCounters : ¬ Obligations.EnergyCounters := by
  unfold Obligations.EnergyCounters
  intro h
  have hexec : exec (.startUp 0 onlyActiveVerifies) State.countedSince =
      .next ((State.countedSince.advance 0).startUp onlyActiveVerifies) := congrArg Host.Outcome.next (if_pos rfl)
  have hkept := h _ _ _ 0 hexec not_false
  have hbefore : State.countedSince.rd R.MET_ENERGY_COUNT 0 = 9 := by decide
  rw [countedSince_startUp, hbefore] at hkept
  exact absurd hkept (by decide)

end Sys2Proof.Machine
end

section
/-! SUPPORT and PROOFS. A display whose temperature has grown stale, with a fallback band beyond the four bits of BAND
(R410). -/

namespace Sys2Proof.Machine

/-- The module runs at an instant 60 s after the display's last temperature, and the store holds 16 for FALLBACK_BAND,
which no write of that four-bit field leaves there. -/
def State.wideBand : State :=
  { State.reset with
    phase := .running
    mtb := 60 * 10 ^ 9 + 1
    regs := State.reset.regs.put 8 (key2 R.DISP_TEMP_FALLBACK_BAND.id 0) 16
    disp := { State.reset.disp with tempAt1 := 1 } }

theorem wideBand_fallback : (State.wideBand.advance 0).rd R.DISP_TEMP_FALLBACK_BAND = 16 := by decide

/-- The band shown has lost the bit of the fallback band above its four. -/
theorem dispTempStale_wideBand : ∃ u, exec (.dispTempStale 0) State.wideBand = .next u ∧
    u.rd R.DISP_TEMP_BAND = 0 := ⟨_, rfl, by decide⟩

/-- Refutes O48: its clause on a stale temperature says that BAND reads as FALLBACK_BAND does, in every state, so also in
one whose store holds a value for FALLBACK_BAND that four bits cannot hold. In `State.wideBand` that value is 16, and
BAND reads 0 once the temperature is stale. (Every write cuts FALLBACK_BAND to its four bits.) -/
theorem not_displayEvents : ¬ Obligations.DisplayEvents := by
  unfold Obligations.DisplayEvents
  rintro ⟨-, -, -, -, -, -, -, -, -, hstale, -⟩
  obtain ⟨v, hv, hread⟩ := dispTempStale_wideBand
  obtain ⟨u, hu, -, hband⟩ := hstale State.wideBand 0 rfl (by decide) (by decide)
  rw [hv] at hu
  injection hu with huv
  rw [← huv, hread, wideBand_fallback] at hband
  exact absurd hband (by decide)

end Sys2Proof.Machine
end

section
/-! SUPPORT. What a record of the ledger (R277 to R283) and a tamper event (R315) leave as it is: every part but the
registers, the HOST island's own and the ledger's journal. -/

namespace Sys2Proof.Machine

/-- From `s₀` to `s` records were appended and events raised, and nothing else was done: besides the registers of the
records and the HOST island's part only the journal of the ledger has changed. The sixteenth tamper count, of overwritten
records (R283), is the one tamper count that an append can change. -/
structure State.Recorded (s₀ s : State) : Prop where
  regs : State.RegsBut State.tamperIds s₀ s
  counts : ∀ n, n ≠ 15 → s.rd R.LEDGER_TAMPER_COUNT n = s₀.rd R.LEDGER_TAMPER_COUNT n
  only : s = { s₀ with regs := s.regs, host := s.host, ledger := { s₀.ledger with
    issued := s.ledger.issued, appended := s.ledger.appended, useNums := s.ledger.useNums, records := s.ledger.records,
    timeSet := s.ledger.timeSet } }
  destroys : s.host.destroys = s₀.host.destroys

namespace State

variable {s₀ s t : State}

theorem Recorded.refl (s : State) : Recorded s s := ⟨fun _ _ _ => rfl, fun _ _ => rfl, rfl, rfl⟩

theorem Recorded.trans (h : Recorded s₀ s) (k : Recorded s t) : Recorded s₀ t where
  regs G m hG := (k.regs G m hG).trans (h.regs G m hG)
  counts n hn := (k.counts n hn).trans (h.counts n hn)
  only := by rw [k.only, h.only]
  destroys := k.destroys.trans h.destroys

theorem Recorded.rd (h : Recorded s₀ s) {F : Fld} (hF : F.id ∉ tamperIds) (n : Nat) : s.rd F n = s₀.rd F n :=
  h.regs F n hF

theorem Recorded.flag (h : Recorded s₀ s) {F : Fld} (hF : F.id ∉ tamperIds) (n : Nat) : s.flag F n = s₀.flag F n :=
  congrArg (· != 0) (h.regs F n hF)

theorem Recorded.mtb (h : Recorded s₀ s) : s.mtb = s₀.mtb := by rw [h.only]

/-- The ledger but for its journal. -/
theorem Recorded.ledger (h : Recorded s₀ s) : s.ledger = { s₀.ledger with
    issued := s.ledger.issued, appended := s.ledger.appended, useNums := s.ledger.useNums, records := s.ledger.records,
    timeSet := s.ledger.timeSet } :=
  congrArg State.ledger h.only

theorem recorded_wr {F : Fld} {n v : Nat} (hF : F.id ∈ tamperIds) (hc : F.id ≠ R.LEDGER_TAMPER_COUNT.id)
    (h : Recorded s₀ s) : Recorded s₀ (s.wr F n v) :=
  h.trans ⟨regsBut_wr hF fun _ _ _ => rfl, fun _ _ => rd_wr_ne _ _ _ _ _ hc.symm, rfl, rfl⟩

theorem recorded_raise {c i : Nat} {p : List Nat} (h : Recorded s₀ s) : Recorded s₀ (s.raise c i p) := by
  refine h.trans ⟨regsBut_raise fun _ _ _ => rfl, fun n _ => raise_rd _ _ _ _ _ (by decide), ?_, raise_destroys _ _ _⟩
  have h : HostOnly s (s.raise c i p) := (raise_spec c i p).1.only
  unfold HostOnly at h
  rw [h]

theorem recorded_journal {i a : Nat} {u : List Nat} {r : List Rec} {b : Bool} (h : Recorded s₀ s) :
    Recorded s₀ { s with ledger := { s.ledger with
      issued := i, appended := a, useNums := u, records := r, timeSet := b } } :=
  h.trans ⟨fun _ _ _ => rfl, fun _ _ => rfl, rfl, rfl⟩

theorem issueNum_recorded (h : Recorded s₀ s) : Recorded s₀ s.issueNum.2 := by
  unfold issueNum
  split <;> exact recorded_journal h

theorem takeNum_recorded (h : Recorded s₀ s) : Recorded s₀ s.takeNum.2 := by
  unfold takeNum
  split
  · exact recorded_journal h
  · exact h

theorem appendAs_recorded {num kind mp wall ledger flags epoch : Nat} {body : List (Nat × Nat)} (h : Recorded s₀ s) :
    Recorded s₀ (s.appendAs num kind mp wall ledger flags epoch body).2 :=
  recorded_raise (recorded_wr (by decide) (by decide) (recorded_wr (by decide) (by decide)
    (recorded_wr (by decide) (by decide) (recorded_journal h))))

theorem appendCore_recorded {kind mp : Nat} {body : List (Nat × Nat)} (h : Recorded s₀ s) :
    Recorded s₀ (s.appendCore kind mp body).2 :=
  appendAs_recorded (issueNum_recorded h)

/-- A tamper count (R315) writes the registers of its own type alone. -/
theorem tamperCount_regs (s : State) (ty k : Nat) : ∃ r, s.tamperCount ty k = { s with regs := r } := by
  unfold tamperCount
  extract_lets n s₁
  have h₁ : ∃ r, s₁ = { s with regs := r } := by
    unfold s₁
    split
    · exact ⟨_, rfl⟩
    · exact ⟨s.regs, rfl⟩
  obtain ⟨r, hr⟩ := h₁
  rw [hr]
  exact ⟨_, rfl⟩

theorem tamperCount_rd_same (s : State) (ty k : Nat) : (s.tamperCount ty k).rd R.LEDGER_TAMPER_COUNT (ty - 1) =
    satAdd R.LEDGER_TAMPER_COUNT.w (s.rd R.LEDGER_TAMPER_COUNT (ty - 1)) k := by
  unfold tamperCount
  extract_lets n s₁
  have h₁ : s₁.rd R.LEDGER_TAMPER_COUNT n = s.rd R.LEDGER_TAMPER_COUNT n := by
    unfold s₁
    split
    · exact rd_wr_ne _ _ _ _ _ (by decide)
    · rfl
  rw [rd_wr_ne _ _ _ _ _ (by decide), addSat, rd_wr_same, trunc_satAdd, h₁]

theorem tamperCount_rd_other (s : State) {ty k n : Nat} (hn : n ≠ ty - 1) :
    (s.tamperCount ty k).rd R.LEDGER_TAMPER_COUNT n = s.rd R.LEDGER_TAMPER_COUNT n := by
  unfold tamperCount
  extract_lets m s₁
  rw [rd_wr_ne _ _ _ _ _ (by decide), addSat, rd_wr_other _ _ _ _ _ (.inr hn)]
  unfold s₁
  split
  · exact rd_wr_ne _ _ _ _ _ (by decide)
  · rfl

theorem overwritten_recorded {lost : List Nat} (h : Recorded s₀ s) : Recorded s₀ (s.overwritten lost) := by
  unfold overwritten
  split
  · exact h
  · have hcount : Recorded s (s.tamperCount tRECORD_OVERWRITE 1) := by
      refine ⟨tamperCount_regsBut fun _ _ _ => rfl, fun n hn => tamperCount_rd_other s hn, ?_, ?_⟩
      · obtain ⟨r, hr⟩ := tamperCount_regs s tRECORD_OVERWRITE 1
        rw [hr]
      · exact (tamperCount_sameFilt (.refl s)).destroys
    exact recorded_raise (appendCore_recorded (h.trans hcount))

theorem append_recorded {kind mp : Nat} {body : List (Nat × Nat)} (h : Recorded s₀ s) :
    Recorded s₀ (s.append kind mp body) :=
  overwritten_recorded (appendCore_recorded h)

theorem appendNum_recorded {num : Option Nat} {kind mp : Nat} {body : List (Nat × Nat)} (h : Recorded s₀ s) :
    Recorded s₀ (s.appendNum num kind mp body) := by
  unfold appendNum
  split
  · exact append_recorded h
  · exact overwritten_recorded (appendAs_recorded h)

theorem appendTimed_recorded {num : Option Nat} {kind mp wall ledger flags : Nat} {body : List (Nat × Nat)}
    (h : Recorded s₀ s) : Recorded s₀ (s.appendTimed num kind mp wall ledger flags body) := by
  unfold appendTimed
  cases num with
  | some n => exact overwritten_recorded (appendAs_recorded h)
  | none => exact overwritten_recorded (appendAs_recorded (issueNum_recorded h))

/-- Once its occurrence is counted, a tamper event is a record and an event. -/
theorem tamper_recorded (s : State) (ty detail : Nat) : Recorded (s.tamperCount ty 1) (s.tamper ty detail) :=
  recorded_raise (append_recorded (.refl _))

theorem tamper_rd_count (s : State) {ty : Nat} (detail : Nat) (h : ty - 1 ≠ 15) :
    (s.tamper ty detail).rd R.LEDGER_TAMPER_COUNT (ty - 1) =
      satAdd R.LEDGER_TAMPER_COUNT.w (s.rd R.LEDGER_TAMPER_COUNT (ty - 1)) 1 :=
  ((tamper_recorded s ty detail).counts _ h).trans (tamperCount_rd_same s ty 1)

theorem tamper_rd (s : State) (ty detail : Nat) {F : Fld} (hF : F.id ∉ tamperIds) (n : Nat) :
    (s.tamper ty detail).rd F n = s.rd F n :=
  tamper_regsBut s ty detail F n hF

theorem tamper_flag (s : State) (ty detail : Nat) {F : Fld} (hF : F.id ∉ tamperIds) (n : Nat) :
    (s.tamper ty detail).flag F n = s.flag F n :=
  congrArg (· != 0) (tamper_rd s ty detail hF n)

theorem tamper_mtb (s : State) (ty detail : Nat) : (s.tamper ty detail).mtb = s.mtb := by
  rw [(tamper_recorded s ty detail).mtb]
  obtain ⟨r, hr⟩ := tamperCount_regs s ty 1
  rw [hr]

/-- The ledger but for its journal. -/
theorem tamper_ledger (s : State) (ty detail : Nat) : ∃ i a u r b, (s.tamper ty detail).ledger = { s.ledger with
    issued := i, appended := a, useNums := u, records := r, timeSet := b } := by
  obtain ⟨r, hr⟩ := tamperCount_regs s ty 1
  have h := (tamper_recorded s ty detail).ledger
  rw [hr] at h
  exact ⟨_, _, _, _, _, h⟩

theorem tamper_destroys (s : State) (ty detail : Nat) : (s.tamper ty detail).host.destroys = s.host.destroys :=
  (tamper_sameFilt (.refl s)).destroys

end State
end Sys2Proof.Machine
end

section
/-! SUPPORT. What a repaint of the legal segments (R317, R428) leaves as it is. -/

namespace Sys2Proof.Machine

/-- From `s₀` to `s` the displays' own part has changed, free values were taken and events raised, and nothing else was
done. -/
structure State.Painted (s₀ s : State) : Prop where
  regs : State.RegsBut State.raiseIds s₀ s
  only : s = { s₀ with regs := s.regs, host := s.host, disp := s.disp, fresh := s.fresh }
  hist : s.host.hist = s₀.host.hist
  destroys : s.host.destroys = s₀.host.destroys

namespace State

variable {s₀ s : State}

theorem Painted.refl (s : State) : Painted s s := ⟨fun _ _ _ => rfl, rfl, rfl, rfl⟩

theorem Painted.flag (h : Painted s₀ s) {F : Fld} (hF : F.id ∉ raiseIds) (n : Nat) : s.flag F n = s₀.flag F n :=
  congrArg (· != 0) (h.regs F n hF)

theorem Painted.ledger (h : Painted s₀ s) : s.ledger = s₀.ledger := by rw [h.only]

theorem Painted.answer (h : Painted s₀ s) (x : Ctx) : s.answer x = s₀.answer x := by
  unfold State.answer histOf
  rw [h.hist]

theorem painted_disp {d : DispSt} (h : Painted s₀ s) : Painted s₀ { s with disp := d } :=
  ⟨h.regs, by rw [h.only], h.hist, h.destroys⟩

theorem painted_fresh {k : Nat} (h : Painted s₀ s) : Painted s₀ { s with fresh := k } :=
  ⟨h.regs, by rw [h.only], h.hist, h.destroys⟩

theorem painted_raise {c i : Nat} {p : List Nat} (h : Painted s₀ s) : Painted s₀ (s.raise c i p) := by
  have hq : Quiet raiseIds s (s.raise c i p) := (raise_spec c i p).1
  refine ⟨fun G m hG => (hq.regs G m hG).trans (h.regs G m hG), ?_, hq.hist.trans h.hist, hq.destroys.trans h.destroys⟩
  have ho : HostOnly s (s.raise c i p) := hq.only
  unfold HostOnly at ho
  rw [ho, h.only]

theorem segSteps_painted (k : Nat) (h : Painted s₀ s) : Painted s₀ (segSteps k s) := by
  induction k generalizing s with
  | zero => exact h
  | succ k ih =>
    unfold segSteps
    split
    · exact h
    · split
      · exact h
      · extract_lets d₁ s₁ peak d₂ s₂ q
        have h₁ : Painted s₀ s₁ := painted_disp h
        have h₂ : Painted s₀ s₂ := painted_raise (painted_disp h₁)
        split
        · exact ih (painted_disp h₁)
        · exact ih (painted_disp h₁)
        · exact ih (painted_disp h₁)
        · exact ih (painted_disp h₂)
        · split
          · exact painted_disp h₁
          · exact ih (painted_disp (painted_disp h₁))

theorem segPaint_painted {c : Nat} (h : Painted s₀ s) : Painted s₀ (s.segPaint c) := by
  unfold segPaint
  extract_lets d s₁ p
  have h₁ : Painted s₀ s₁ := painted_disp h
  split
  · exact h₁
  · exact segSteps_painted 16 (painted_disp h₁)

/-- LEGAL_FW repaints the segments alone. -/
theorem legalRepaint_painted (s : State) : Painted s s.legalRepaint := by
  unfold legalRepaint
  extract_lets d s₁
  have h₁ : Painted s s₁ := painted_disp (.refl s)
  have hc : Painted s s₁.legalContent.2 := by
    unfold legalContent
    extract_lets cal
    split
    · exact painted_fresh h₁
    · exact h₁
  exact segPaint_painted hc

end State
end Sys2Proof.Machine
end

section
/-! SUPPORT. The journal takes one record more at most for each that is appended (R281, R283), and what a commanded ledger
session leaves as it is (R312, R313, R544). -/

namespace Sys2Proof.Machine

theorem keepRecords_append (rs : List Rec) (room : Nat) : (keepRecords room rs).1 ++ (keepRecords room rs).2 = rs := by
  induction rs generalizing room with
  | nil => rfl
  | cons r rs ih =>
    unfold keepRecords
    split
    · exact congrArg (r :: ·) (ih _)
    · rfl

theorem keepRecords_length (rs : List Rec) (room : Nat) :
    (keepRecords room rs).1.length + (keepRecords room rs).2.length = rs.length := by
  rw [← List.length_append, keepRecords_append]

namespace State

variable {s : State} {n m : Nat}

/-! ### The length of the journal -/

/-- An append keeps the newest records that fit beside the new one; where none is overwritten, none is lost (R283). -/
theorem appendAs_journal (s : State) (num kind mp wall ledger flags epoch : Nat) (body : List (Nat × Nat)) :
    ∃ keep gone : List Rec, keep.length + gone.length = s.ledger.records.length ∧
      (s.appendAs num kind mp wall ledger flags epoch body).2.ledger.records.length = keep.length + 1 ∧
      (gone = [] → (s.appendAs num kind mp wall ledger flags epoch body).1 = []) := by
  unfold appendAs
  extract_lets r
  refine ⟨_, _, keepRecords_length s.ledger.records (journalUnits - r.units), ?_, fun hgone => ?_⟩
  · rw [raise_ledger]
    rfl
  · show ((_ : List Rec).map _).filter _ = []
    rw [hgone]
    rfl

theorem appendAs_length (s : State) (num kind mp wall ledger flags epoch : Nat) (body : List (Nat × Nat)) :
    (s.appendAs num kind mp wall ledger flags epoch body).2.ledger.records.length ≤ s.ledger.records.length +
      if (s.appendAs num kind mp wall ledger flags epoch body).1 = [] then 1 else 0 := by
  obtain ⟨keep, gone, hlen, hrecs, hlost⟩ := appendAs_journal s num kind mp wall ledger flags epoch body
  split
  · omega
  · next hne =>
    have hpos : 0 < gone.length := List.length_pos_iff.2 fun e => hne (hlost e)
    omega

theorem issueNum_records (s : State) : s.issueNum.2.ledger.records = s.ledger.records := by
  unfold issueNum
  split <;> rfl

theorem appendCore_length (s : State) (kind mp : Nat) (body : List (Nat × Nat)) :
    (s.appendCore kind mp body).2.ledger.records.length ≤ s.ledger.records.length + 1 := by
  have key (t : State) (ht : t.ledger.records = s.ledger.records) (k w l f e : Nat) :
      (t.appendAs k kind mp w l f e body).2.ledger.records.length ≤ s.ledger.records.length + 1 := by
    refine (appendAs_length _ _ _ _ _ _ _ _ _).trans ?_
    rw [ht]
    split <;> omega
  exact key _ s.issueNum_records _ _ _ _ _

theorem overwritten_length (s : State) (lost : List Nat) : (s.overwritten lost).ledger.records.length ≤
    s.ledger.records.length + if lost = [] then 0 else 1 := by
  unfold overwritten
  split
  · exact Nat.le_refl _
  · obtain ⟨r, hr⟩ := s.tamperCount_regs tRECORD_OVERWRITE 1
    rw [raise_ledger, hr]
    exact appendCore_length _ _ _ _

/-- A record takes one place more in the journal, with the record of what it overwrites. -/
theorem appendAs_overwritten_length (s : State) (num kind mp wall ledger flags epoch : Nat) (body : List (Nat × Nat)) :
    ((s.appendAs num kind mp wall ledger flags epoch body).2.overwritten
      (s.appendAs num kind mp wall ledger flags epoch body).1).ledger.records.length ≤ s.ledger.records.length + 1 := by
  have hone := appendAs_length s num kind mp wall ledger flags epoch body
  refine (overwritten_length _ _).trans ?_
  split
  · next hnone => rwa [if_pos hnone] at hone
  · next hlost =>
    rw [if_neg hlost] at hone
    exact Nat.add_le_add_right hone 1

theorem appendTimed_length (s : State) (num : Option Nat) (kind mp wall ledger flags : Nat) (body : List (Nat × Nat)) :
    (s.appendTimed num kind mp wall ledger flags body).ledger.records.length ≤ s.ledger.records.length + 1 := by
  unfold appendTimed
  cases num with
  | some k => exact appendAs_overwritten_length _ _ _ _ _ _ _ _ _
  | none =>
    rw [← issueNum_records s]
    exact appendAs_overwritten_length _ _ _ _ _ _ _ _ _

/-! ### Opening and closing -/

theorem modLsess_same (s : State) (n : Nat) (f : LSession → LSession) : (s.modLsess n f).lsess n = f (s.lsess n) := by
  unfold lsess modLsess Tab.upd
  rw [Tab.get_put, if_pos rfl]

theorem Recorded.lsess {s₀ : State} (h : Recorded s₀ s) (n : Nat) : s.lsess n = s₀.lsess n := by
  unfold State.lsess
  rw [h.ledger]

end State
end Sys2Proof.Machine
end

section
/-! SUPPORT. LEDGER_SESSION_RECORD opens and closes a ledger session (R312, R313, R320, R544) where nothing of it has to
wait for the meter point. -/

namespace Sys2Proof.Machine
namespace State

variable {s : State} {n m : Nat} {x : Ctx}

theorem ite_some_eq_none {c : Prop} [Decidable c] {a : Nat} {r : Option Nat} :
    (if c then some a else r) = none ↔ ¬ c ∧ r = none := by
  split <;> simp_all

/-- A command that is taken for one instance is taken for another whose function is not disabled. -/
theorem takes_inst {op i j : Nat} (h : s.takes x op i = true) (hj : s.funcDisabled (op / 256) j = false) :
    s.takes x op j = true := by
  simp only [takes, Bool.and_eq_true, beq_iff_eq] at h ⊢
  obtain ⟨⟨⟨⟨hrun, hgate⟩, hcask⟩, hmode⟩, hdes⟩ := h
  refine ⟨⟨⟨⟨hrun, ?_⟩, hcask⟩, hmode⟩, hdes⟩
  rw [gate_eq] at hgate ⊢
  simp only [ite_some_eq_none, hj] at hgate ⊢
  obtain ⟨hflags, hring, hcaskable, hready, -, hreserve⟩ := hgate
  exact ⟨hflags, hring, hcaskable, hready, Bool.false_ne_true, hreserve⟩

/-- Where no function is disabled that an action on a meter point's ledger belongs to, the meter point's ledger is not
disabled. -/
theorem funcDisabled_of_act {a : CaskAct} (ha : ∀ k, actOn 0x08 k a = (k == m)) (h : s.actDisabled (some a) = false) :
    s.funcDisabled 0x08 m = false := by
  simp only [actDisabled, funcDisabled, List.any_eq_false, Bool.and_eq_true, not_and, Bool.not_eq_true] at h ⊢
  intro d hd
  have hdm := h d hd
  rw [ha] at hdm
  simp_all

/-- A ring command on a ledger session is taken for its meter point too. -/
theorem takes_session {a : CaskAct} (h : s.takes x Op.LEDGER_SESSION_RECORD n = true)
    (ha : ∀ k, actOn 0x08 k a = (k == m)) (hoff : s.actDisabled (some a) = false) :
    s.takes x Op.LEDGER_SESSION_RECORD m = true :=
  takes_inst h (funcDisabled_of_act ha hoff)

theorem actOn_recOpen {k p : Nat} {i : List Byte} (j : Nat) : actOn 0x08 j (.recOpen n m k i p) = (j == m) := by
  show ((0x08, m) == (0x08, j)) = (j == m)
  rw [Bool.eq_iff_iff]
  simp only [beq_iff_eq, Prod.mk.injEq, true_and]
  exact eq_comm

theorem actOn_recClose {r : Nat} (j : Nat) : actOn 0x08 j (.recClose n m r) = (j == m) := by
  show ((0x08, m) == (0x08, j)) = (j == m)
  rw [Bool.eq_iff_iff]
  simp only [beq_iff_eq, Prod.mk.injEq, true_and]
  exact eq_comm

/-! ### Opening -/

/-- What the opening record of a session leaves: its ledger session but for the counters at its opening, and a journal
that is one record longer at most. -/
structure OpenNoted (n : Nat) (s u : State) : Prop where
  sess : ∃ c, u.lsess n = { s.lsess n with atOpen := c }
  length : u.ledger.records.length ≤ s.ledger.records.length + 1
  destroys : u.host.destroys = s.host.destroys

theorem flushPend_open {p : PendRec} (hp : p.reading = false) : OpenNoted p.outlet s (s.flushPend p) := by
  unfold flushPend
  rw [hp]
  extract_lets l s₁ c s₂
  have hrec (w : PendRec) : Recorded s₂
      (s₂.appendTimed w.num rSESSION_OPEN w.mp w.wall w.ledger w.flags (s₂.openBody w.outlet)) :=
    appendTimed_recorded (.refl s₂)
  refine ⟨⟨_, ((hrec p).lsess _).trans (modLsess_same _ _ _)⟩, ?_, (hrec p).destroys⟩
  exact appendTimed_length s₂ _ _ _ _ _ _ _

theorem queueRecord_open {p : PendRec} (hp : p.reading = false) (hrun : s.mpRuns p.mp = false) :
    OpenNoted p.outlet s (s.queueRecord p) := by
  have hno : s.unclassified p.mp p.at_ = false := by
    unfold unclassified
    rw [hrun, Bool.false_and]
  unfold queueRecord
  rw [hno]
  exact flushPend_open hp

/-- The fields of the session that was noted, where it was just begun. -/
theorem OpenNoted.fields {u : State} {l : LSession} (h : OpenNoted n (s.modLsess n fun _ => l) u) :
    (u.lsess n).opened = l.opened ∧ (u.lsess n).mp = l.mp ∧ (u.lsess n).price = l.price ∧
      u.ledger.records.length ≤ s.ledger.records.length + 1 ∧ u.host.destroys = s.host.destroys := by
  obtain ⟨c, hsess⟩ := h.sess
  rw [modLsess_same] at hsess
  rw [hsess]
  exact ⟨rfl, rfl, rfl, h.length, h.destroys⟩

/-- Where its meter point does not meter, a session opens at once with its record (R312). -/
theorem recOpen_noted (s : State) (i : Identity) (price at_ : Nat) (hrun : s.mpRuns m = false) :
    ((s.recOpen n m i price at_).lsess n).opened = true ∧ ((s.recOpen n m i price at_).lsess n).mp = m ∧
      ((s.recOpen n m i price at_).lsess n).price = price ∧
      (s.recOpen n m i price at_).ledger.records.length ≤ s.ledger.records.length + 1 ∧
      (s.recOpen n m i price at_).host.destroys = s.host.destroys := by
  obtain ⟨id, s₁, hs₁, hrecs₁, hrd₁, hdes₁⟩ : ∃ id s₁,
      (if s.rd R.OUT_STAT_SESSION_ID n = 0 then s.newSession else (s.rd R.OUT_STAT_SESSION_ID n, s)) = (id, s₁) ∧
      s₁.ledger.records = s.ledger.records ∧ s₁.regs = s.regs ∧ s₁.host = s.host := by
    split
    · exact ⟨_, _, rfl, rfl, rfl, rfl⟩
    · exact ⟨_, _, rfl, rfl, rfl, rfl⟩
  have hrec : Recorded (s₁.wr R.OUT_STAT_SESSION_ID n id) (s₁.wr R.OUT_STAT_SESSION_ID n id).takeNum.2 :=
    takeNum_recorded (.refl _)
  have hlen : (s₁.wr R.OUT_STAT_SESSION_ID n id).takeNum.2.ledger.records = s.ledger.records := by
    unfold takeNum
    split <;> exact hrecs₁
  rcases hnum : (s₁.wr R.OUT_STAT_SESSION_ID n id).takeNum with ⟨num, s₂⟩
  rw [hnum] at hrec hlen
  have hrun₂ : s₂.mpRuns m = false := by
    have hrd : s₂.rd R.MET_CFG_STATE m = s.rd R.MET_CFG_STATE m :=
      (hrec.rd (by decide) m).trans ((rd_wr_ne _ _ _ _ _ (by decide)).trans (rd_congr hrd₁ _ _))
    unfold mpRuns at hrun ⊢
    rwa [hrd]
  have hdes₂ : s₂.host.destroys = s.host.destroys := hrec.destroys.trans (congrArg HostSt.destroys hdes₁)
  unfold recOpen
  simp only [hs₁, hnum]
  rw [← hlen, ← hdes₂]
  exact OpenNoted.fields (queueRecord_open (p := pendRec _ false n m at_ num 0) rfl hrun₂)

theorem recOpenBad_none (hn : n < 8) (hm : m < 12) (hctrl : s.flag R.OUT_CFG_CTRL n = true)
    (hshut : (s.lsess n).opened = false) (hcal : s.ledger.cal = none) : s.recOpenBad n m = none := by
  unfold recOpenBad recTaken
  rw [hctrl, hshut, hcal]
  rw [decide_eq_false (Nat.not_le.2 hn), decide_eq_false (Nat.not_le.2 hm)]
  rfl

/-! ### Closing -/

/-- Where its metering session is closed for good, a ledger session closes at once with its record (R313). -/
theorem recClose_now (reason at_ : Nat) (hopen : (s.lsess n).opened = true) (hclose : (s.lsess n).closing = false)
    (hlive : s.mpLive (s.lsess n).mp = false) (hpend : s.flag R.MET_SESS_CLOSED_PENDING (s.lsess n).mp = false) :
    ((s.recClose n reason at_).lsess n).opened = false ∧
      (s.recClose n reason at_).host.destroys = s.host.destroys := by
  have hrec : Recorded s s.takeNum.2 := takeNum_recorded (.refl s)
  unfold recClose
  extract_lets l
  rw [if_neg (by simp [l, hopen, hclose])]
  rcases hnum : s.takeNum with ⟨num, s₁⟩
  rw [hnum] at hrec
  simp only
  generalize hs₂ : s₁.modLsess n _ = s₂
  have hlive₂ : s₂.mpLive l.mp = false := by
    rw [← hs₂]
    exact (hrec.flag (by decide) _).trans hlive
  have hpend₂ : s₂.flag R.MET_SESS_CLOSED_PENDING l.mp = false := by
    rw [← hs₂]
    exact (hrec.flag (by decide) _).trans hpend
  have hdes₂ : s₂.host.destroys = s.host.destroys := by
    rw [← hs₂]
    exact hrec.destroys
  rw [hlive₂, hpend₂]
  refine ⟨congrArg LSession.opened (modLsess_same _ _ _), ?_⟩
  exact (appendNum_recorded (.refl s₂)).destroys.trans hdes₂

end State
end Sys2Proof.Machine
end

section
/-! SUPPORT. What the ledger, the meters and the session machines leave as it is: the time base, the clock (R21, R291),
the temperatures (R505) and the destroys of rings that wait (R41). -/

namespace Sys2Proof.Machine

/-- The register fields of the clock and of the temperatures. -/
def heldFields : List Fld :=
  [R.GLOBAL_MTB_UTC_UTC_SEC, R.GLOBAL_MTB_UTC_RTC_VALID, R.LEDGER_TIME_CLOCK_VALID, R.PWR_TEMP_T, R.PWR_TEMP_LEVEL,
    R.PWR_STAT_SHUT, R.PWR_STAT_THROTTLE]

/-- None of the numbers is that of one of these fields. -/
def offHeld (ids : List Nat) : Bool := heldFields.all fun F => !ids.contains F.id

theorem offHeld_not_mem {ids : List Nat} (h : offHeld ids = true) {F : Fld} (hF : F ∈ heldFields) : F.id ∉ ids := by
  simpa using List.all_eq_true.1 h F hF

/-- From `s₀` to `s` the time base, these fields and the destroys of rings that wait have stayed. -/
structure State.Held (s₀ s : State) : Prop where
  mtb : s.mtb = s₀.mtb
  fields : ∀ F ∈ heldFields, ∀ n, s.rd F n = s₀.rd F n
  destroys : s.host.destroys = s₀.host.destroys

/-- If there is a next state, it holds them. -/
def State.OptHeld (s₀ : State) (o : Option State) : Prop := ∀ t, o = some t → State.Held s₀ t

namespace State

variable {s₀ s t : State} {n m : Nat}

theorem Held.refl (s : State) : Held s s := ⟨rfl, fun _ _ _ => rfl, rfl⟩

theorem Held.trans (h : Held s₀ s) (k : Held s t) : Held s₀ t :=
  ⟨k.mtb.trans h.mtb, fun F hF n => (k.fields F hF n).trans (h.fields F hF n), k.destroys.trans h.destroys⟩

theorem Held.flag (h : Held s₀ s) {F : Fld} (hF : F ∈ heldFields) (n : Nat) : s.flag F n = s₀.flag F n :=
  congrArg (· != 0) (h.fields F hF n)

/-- An update of any part but the registers, the time base and the HOST island's own. -/
theorem held_upd {q : List Instr} {a k : Nat} {ph : Phase} {st : Tab Nat} {ar : ArchSt} {c : CaskSt} {o : OutSt}
    {sf : SafeSt} {af : AfeSt} {fi : FiltSt} {me : MetSt} {l : LedgerSt} {ke : KeySt} {pl : PlcSt} {tg : TagSt}
    {d : DispSt} {lw : LswSt} {u : UpdSt} {tw : TwinSt} {pw : PwrSt} (h : Held s₀ s) : Held s₀
      ⟨q, s.regs, s.mtb, a, k, ph, st, s.host, ar, c, o, sf, af, fi, me, l, ke, pl, tg, d, lw, u, tw, pw⟩ :=
  ⟨h.mtb, h.fields, h.destroys⟩

/-- An operation of the HOST island that writes none of the fields. -/
theorem held_loud {ids : List Nat} (k : Loud ids s t) (hids : offHeld ids = true) (h : Held s₀ s) : Held s₀ t :=
  h.trans ⟨k.only.mtb, fun F hF n => k.regs F n (offHeld_not_mem hids hF), k.destroys⟩

theorem held_wr {F : Fld} {n v : Nat} (hF : offHeld [F.id] = true) (h : Held s₀ s) : Held s₀ (s.wr F n v) :=
  held_loud (quiet_wr F n v).loud hF h

theorem held_raise {c i : Nat} {p : List Nat} (h : Held s₀ s) : Held s₀ (s.raise c i p) :=
  held_loud (raise_spec c i p).1.loud (by decide) h

theorem held_complete {x : Ctx} {st r : Nat} (h : Held s₀ s) : Held s₀ (s.complete x st r) :=
  held_loud (complete_spec x st r).1 (by decide) h

/-- Records of the ledger. -/
theorem held_recorded (k : Recorded s t) (h : Held s₀ s) : Held s₀ t :=
  h.trans ⟨k.mtb, fun _ hF n => k.regs _ n (offHeld_not_mem (by decide) hF), k.destroys⟩

theorem held_append {kind mp : Nat} {body : List (Nat × Nat)} (h : Held s₀ s) : Held s₀ (s.append kind mp body) :=
  held_recorded (append_recorded (.refl s)) h

theorem held_tamper {ty detail : Nat} (h : Held s₀ s) : Held s₀ (s.tamper ty detail) :=
  h.trans ⟨tamper_mtb s ty detail, fun _ hF n => tamper_rd s ty detail (offHeld_not_mem (by decide) hF) n,
    tamper_destroys s ty detail⟩

section
variable {a b : State} {α β : Type} {c : Prop} {inst : Decidable c}

theorem held_ite (ha : Held s₀ a) (hb : Held s₀ b) : Held s₀ (if c then a else b) := by
  split
  · exact ha
  · exact hb

theorem held_ite_snd {a b : α × State} (ha : Held s₀ a.2) (hb : Held s₀ b.2) : Held s₀ (if c then a else b).2 := by
  split
  · exact ha
  · exact hb

theorem optHeld_none : OptHeld s₀ none := fun _ e => nomatch e

theorem optHeld_some (h : Held s₀ s) : OptHeld s₀ (some s) := fun _ e => Option.some.inj e ▸ h

theorem optHeld_ite {a b : Option State} (ha : OptHeld s₀ a) (hb : OptHeld s₀ b) : OptHeld s₀ (if c then a else b) := by
  split
  · exact ha
  · exact hb

/-- A loop whose round at each member holds them. -/
theorem held_forEach_mem {f : α → State → State} {xs : List α} (hf : ∀ x ∈ xs, ∀ s, Held s₀ s → Held s₀ (f x s))
    {s : State} (h : Held s₀ s) : Held s₀ (forEach xs f s) := by
  unfold forEach
  induction xs generalizing s with
  | nil => exact h
  | cons x xs ih => exact ih (fun y hy => hf y (List.mem_cons_of_mem x hy)) (hf x List.mem_cons_self s h)

theorem held_forEach {f : α → State → State} (hf : ∀ {x s}, Held s₀ s → Held s₀ (f x s)) {xs : List α} {s : State}
    (h : Held s₀ s) : Held s₀ (forEach xs f s) :=
  held_forEach_mem (fun _ _ _ => hf) h

theorem held_forEach_snd {f : α → β × State → β × State} (hf : ∀ {x p}, Held s₀ p.2 → Held s₀ (f x p).2) {xs : List α}
    {p : β × State} (h : Held s₀ p.2) : Held s₀ (forEach xs f p).2 := by
  unfold forEach
  induction xs generalizing p with
  | nil => exact h
  | cons x xs ih => exact ih (hf h)

end

/-! ### Records that wait, and sessions in the ledger (R256, R257, R312 to R314) -/

theorem readNoted_held {group : Nat} (h : Held s₀ s) : Held s₀ (s.readNoted group) := by
  unfold readNoted
  extract_lets
  split
  · exact h
  · extract_lets
    refine held_ite (held_upd h) ?_
    split
    · exact held_complete (held_upd h)
    · exact held_upd h

theorem appendTimed_held {num : Option Nat} {kind mp wall ledger flags : Nat} {body : List (Nat × Nat)}
    (h : Held s₀ s) : Held s₀ (s.appendTimed num kind mp wall ledger flags body) :=
  held_recorded (appendTimed_recorded (.refl s)) h

theorem flushPend_held {p : PendRec} (h : Held s₀ s) : Held s₀ (s.flushPend p) := by
  unfold flushPend
  extract_lets l s₁ c s₂
  have h₁ : Held s₀ s₁ := held_upd h
  have h₂ : Held s₀ s₂ := held_upd h₁
  exact held_ite (readNoted_held (appendTimed_held h₁)) (appendTimed_held h₂)

theorem flushPends_held {upTo : Nat} (h : Held s₀ s) : Held s₀ (s.flushPends m upTo) := held_forEach flushPend_held h

theorem queueRecord_held {p : PendRec} (h : Held s₀ s) : Held s₀ (s.queueRecord p) :=
  held_ite (held_upd h) (flushPend_held h)

theorem closeRecord_held {extra est : Nat} (h : Held s₀ s) : Held s₀ (s.closeRecord n extra est) :=
  held_upd (s := s.appendNum _ _ _ _) (held_recorded (appendNum_recorded (.refl s)) h)

theorem metOpen_held {sess at_ : Nat} (h : Held s₀ s) : Held s₀ (s.metOpen m sess at_) :=
  have h₁ : Held s₀ ((((s.wr R.MET_SESS_SESSION_ID m sess).wr R.MET_SESS_OPEN m 1).wr R.MET_SESS_CLOSED_PENDING m 0).wr
      R.MET_SESS_T_OPEN m at_) :=
    held_wr (by decide) (held_wr (by decide) (held_wr (by decide) (held_wr (by decide) h)))
  held_upd (held_wr (F := R.MET_SESS_A_EXP) (by decide) (held_wr (F := R.MET_SESS_A_IMP) (by decide) h₁))

theorem metClose_held {at_ : Nat} (h : Held s₀ s) : Held s₀ (s.metClose m at_) := by
  unfold metClose closeFinal
  extract_lets s₁
  have h₁ : Held s₀ s₁ := held_upd (held_wr (F := R.MET_SESS_OPEN) (by decide) h)
  exact held_ite (held_wr (by decide) h₁) (held_forEach closeRecord_held (held_wr (by decide) h₁))

theorem takeNum_held (h : Held s₀ s) : Held s₀ s.takeNum.2 := held_recorded (takeNum_recorded (.refl s)) h

theorem recOpen_held {i : Identity} {price at_ : Nat} (h : Held s₀ s) : Held s₀ (s.recOpen n m i price at_) :=
  have hnew : Held s₀ (if s.rd R.OUT_STAT_SESSION_ID n = 0 then s.newSession
      else (s.rd R.OUT_STAT_SESSION_ID n, s)).2 := held_ite_snd (held_upd h) h
  queueRecord_held (held_upd (takeNum_held (held_wr (F := R.OUT_STAT_SESSION_ID) (by decide) hnew)))

theorem recClose_held {reason at_ : Nat} (h : Held s₀ s) : Held s₀ (s.recClose n reason at_) :=
  have h₁ : Held s₀ s.takeNum.2 := takeNum_held h
  held_ite h (held_ite (metClose_held (held_upd h₁)) (held_ite (held_upd h₁) (closeRecord_held (held_upd h₁))))

theorem readStart_held {mask at_ : Nat} {ctx : Option Ctx} (h : Held s₀ s) : Held s₀ (s.readStart mask at_ ctx) := by
  unfold readStart
  extract_lets g ms l s₁ s₂
  have h₁ : Held s₀ s₁ := held_upd h
  have h₂ : Held s₀ s₂ := held_forEach (fun hx => held_upd (takeNum_held hx)) h₁
  exact held_ite (readNoted_held h₂) (held_forEach (fun hx => held_ite hx (flushPends_held hx)) h₂)

/-! ### Boundary transactions and the wall time (R291 to R310) -/

theorem touAdd_held {t : Nat} {six : List Nat} (h : Held s₀ s) : Held s₀ (s.touAdd m t six) :=
  held_forEach_mem (fun _ hp _ hx =>
    held_wr ((by decide : ∀ F ∈ touFields, offHeld [F.id] = true) _ (List.of_mem_zip hp).1) hx) h

theorem touSub_held {t : Nat} {six : List Nat} (h : Held s₀ s) : Held s₀ (s.touSub m t six) :=
  held_forEach_mem (fun _ hp _ hx =>
    held_wr ((by decide : ∀ F ∈ touFields, offHeld [F.id] = true) _ (List.of_mem_zip hp).1) hx) h

theorem demandClose_held {at_ wall flags : Nat} (h : Held s₀ s) : Held s₀ (s.demandClose m at_ wall flags) := by
  unfold demandClose
  extract_lets _ _ _ _ _ _ _ _ _ _ s₁ s₂ s₃ s₄ s₅
  have h₂ : Held s₀ s₂ := held_forEach_mem (fun _ hp _ hx =>
    held_wr ((by decide : ∀ F ∈ demandLast, offHeld [F.id] = true) _ (List.of_mem_zip hp).1) hx) (held_upd h)
  have h₃ : Held s₀ s₃ := held_wr (by decide) (held_wr (by decide) (held_wr (by decide) h₂))
  have h₄ : Held s₀ s₄ := held_forEach (fun hx => held_ite (held_upd hx) hx) h₃
  have h₅ : Held s₀ s₅ := held_ite (held_wr (by decide) (held_wr (by decide) h₄)) h₄
  exact held_ite (held_raise h₅) h₅

theorem tariffGo_held {at_ tariff : Nat} (h : Held s₀ s) : Held s₀ (s.tariffGo m at_ tariff) :=
  held_ite h (held_forEach held_upd (held_upd (touAdd_held (touSub_held h))))

theorem billClose_held {at_ wallMs_ cause flags : Nat} (h : Held s₀ s) :
    Held s₀ (s.billClose at_ wallMs_ cause flags) :=
  held_append (held_wr (F := R.LEDGER_STAT_BILL_SETS) (by decide)
    (held_forEach (fun hx => held_wr (by decide) (held_wr (by decide) hx)) (held_upd h)))

theorem transaction_held {b : Boundary} (h : Held s₀ s) : Held s₀ (s.transaction b) := by
  unfold transaction
  extract_lets _ s₀' _ s₁ s₂ _ _ _ s₃ s₄ s₅ _ s₆ s₇ s₈ _ s₉
  have h₀ : Held s₀ s₀' := held_upd h
  have h₁ : Held s₀ s₁ := by
    unfold s₁
    refine held_ite ?_ h₀
    split
    · exact held_append (held_upd h₀)
    · exact h₀
  have h₂ : Held s₀ s₂ := held_forEach (fun hx => held_forEach held_upd hx) h₁
  have h₃ : Held s₀ s₃ := held_ite (held_forEach demandClose_held h₂) h₂
  have h₄ : Held s₀ s₄ := held_ite (billClose_held h₃) h₃
  have h₅ : Held s₀ s₅ := held_forEach tariffGo_held h₄
  have h₆ : Held s₀ s₆ := held_ite (held_upd h₅) h₅
  have h₇ : Held s₀ s₇ := held_forEach held_append h₆
  have h₈ : Held s₀ s₈ := held_ite (held_append h₇) h₇
  have h₉ : Held s₀ s₉ := held_raise h₈
  split
  · exact held_complete h₉
  · exact h₉

theorem addBoundary_held {b : Boundary} (h : Held s₀ s) : Held s₀ (s.addBoundary b) := by
  unfold addBoundary
  split
  · exact held_upd h
  · exact held_ite (held_upd h) (held_upd (transaction_held h))

theorem tariffSelect_held {mask tariff price src at_ : Nat} (h : Held s₀ s) :
    Held s₀ (s.tariffSelect mask tariff price src at_) := by
  unfold tariffSelect
  exact addBoundary_held (held_forEach (fun hx => held_ite (held_upd hx) hx) h)

theorem closeBetween_held {w0 w1 flag cause : Nat} {demand : Bool} (h : Held s₀ s) :
    Held s₀ (s.closeBetween w0 w1 flag cause demand).2 := by
  unfold closeBetween
  extract_lets _ _ _ _ _ _ s₁ s₂ s₃
  have h₁ : Held s₀ s₁ := held_forEach billClose_held h
  have h₂ : Held s₀ s₂ := held_ite (held_forEach (fun hx => held_upd (held_wr (F := R.LEDGER_DEMAND_FLAGS) (by decide)
    hx)) h₁) h₁
  exact held_ite (held_raise h₂) h₂

theorem releaseHeld_held (h : Held s₀ s) : Held s₀ s.releaseHeld := by
  unfold releaseHeld
  split
  · exact addBoundary_held (held_upd h)
  · exact h

theorem commitState_held {ok : Bool} (h : Held s₀ s) : Held s₀ (s.commitState ok) := by
  unfold commitState
  extract_lets _ _ _ s₁
  have h₁ : Held s₀ s₁ := held_ite (held_upd h) (held_upd h)
  exact held_ite h₁ (held_wr (by decide) h₁)

end State
end Sys2Proof.Machine
end

section
/-! SUPPORT. Setting the wall time (R291 to R293) and reading one meter point under signature (R314). -/

namespace Sys2Proof.Machine
namespace State

variable {s s₀ : State} {m : Nat} {x : Ctx}

/-! ### The wall time -/

/-- The unsigned step limit refuses a set of the wall time (R292). -/
def stepRefused (s : State) (ms src : Nat) : Bool :=
  s.rtcValid && src != 2 && decide (s.rd R.LEDGER_CFG_TIME_STEP_MAX_S <
    (s.stepsNow.foldl (fun a p => a + p.2) 0) + (if ms < s.wallMs then s.wallMs - ms else ms - s.wallMs) / 1000)

theorem timeSet_refused {ms src : Nat} (h : s.stepRefused ms src = true) : s.timeSet ms src = (false, s) := by
  unfold timeSet
  extract_lets valid old back step used maxStep
  have hstep : (valid && src != 2 && decide (maxStep < used + step)) = true := by
    rw [← h]
    simp only [stepRefused, valid, maxStep, used, step, back, old, decide_eq_true_eq]
  rw [if_pos hstep]

/-- From `s₀` to `s` the wall time was set to a value in s. -/
structure WallSet (sec : Nat) (s₀ s : State) : Prop where
  sec : s.rd R.GLOBAL_MTB_UTC_UTC_SEC = trunc R.GLOBAL_MTB_UTC_UTC_SEC.w sec
  valid : s.rtcValid = true
  clock : s.rd R.LEDGER_TIME_CLOCK_VALID = 1
  destroys : s.host.destroys = s₀.host.destroys

theorem setWall_eq (s : State) (ms : Nat) : ∃ at_ l, s.setWall ms =
    { ((s.wr R.GLOBAL_MTB_UTC_UTC_SEC 0 (ms / 1000)).wrInt R.GLOBAL_MTB_UTC_MTB_AT_SEC 0 at_).wr
        R.GLOBAL_MTB_UTC_RTC_VALID 0 1 with ledger := l } :=
  ⟨_, _, rfl⟩

/-- What the set of the registers alone leaves (R291). -/
theorem setWall_spec (s : State) (ms : Nat) :
    (s.setWall ms).rd R.GLOBAL_MTB_UTC_UTC_SEC = trunc R.GLOBAL_MTB_UTC_UTC_SEC.w (ms / 1000) ∧
      (s.setWall ms).rd R.GLOBAL_MTB_UTC_RTC_VALID = 1 ∧ (s.setWall ms).host = s.host := by
  obtain ⟨at_, l, h⟩ := setWall_eq s ms
  rw [h]
  refine ⟨?_, rd_wr_same _ _ _, rfl⟩
  exact (rd_wr_ne _ _ _ _ _ (by decide)).trans ((rd_wr_ne _ _ _ _ _ (by decide)).trans (rd_wr_same _ _ _))

/-- The wall time is set before the boundaries in between close; what follows the set leaves it. -/
theorem timeSet_accepted {ms src : Nat} (h : s.stepRefused ms src = false) :
    (s.timeSet ms src).1 = true ∧ WallSet (ms / 1000) s (s.timeSet ms src).2 := by
  unfold timeSet
  extract_lets valid old back step used maxStep lastWall _ s₁ s₂ s₃ s₄ _ s₅ _ s₆ s₇ s₈ s₉ s₁₀ s₁₁
  have hstep : (valid && src != 2 && decide (maxStep < used + step)) = false := by
    rw [← h]
    simp only [stepRefused, valid, maxStep, used, step, back, old, decide_eq_true_eq]
  rw [hstep, if_neg Bool.false_ne_true]
  have h₂ : Held s s₂ := by
    have h₁ : Held s s₁ := held_ite (held_upd (.refl s)) (.refl s)
    unfold s₂
    split
    · exact transaction_held h₁
    · exact h₁
  have h₃ : Held s s₃ := transaction_held h₂
  have h₇ : Held s₄ s₇ := by
    have h₅ : Held s₄ s₅ := held_ite (held_upd (.refl s₄)) (held_ite (closeBetween_held (.refl s₄))
      (held_ite (.refl s₄) (closeBetween_held (.refl s₄))))
    exact held_forEach tariffGo_held (held_upd h₅)
  have h₁₁ : Held (s₇.wr R.LEDGER_TIME_CLOCK_VALID 0 1) s₁₁ := by
    have h₉ : Held (s₇.wr R.LEDGER_TIME_CLOCK_VALID 0 1) s₉ := held_raise (held_append (.refl _))
    have h₁₀ : Held (s₇.wr R.LEDGER_TIME_CLOCK_VALID 0 1) s₁₀ := held_ite (held_tamper h₉) h₉
    exact held_ite (held_tamper h₁₀) h₁₀
  have hkeep {F : Fld} (hF : F ∈ heldFields) (hne : F.id ≠ R.LEDGER_TIME_CLOCK_VALID.id) : s₁₁.rd F = s₄.rd F :=
    (h₁₁.fields F hF 0).trans ((rd_wr_ne _ _ _ _ _ hne).trans (h₇.fields F hF 0))
  obtain ⟨hsec, hvalid, hhost⟩ : s₄.rd R.GLOBAL_MTB_UTC_UTC_SEC = trunc R.GLOBAL_MTB_UTC_UTC_SEC.w (ms / 1000) ∧
      s₄.rd R.GLOBAL_MTB_UTC_RTC_VALID = 1 ∧ s₄.host = s₃.host := setWall_spec s₃ ms
  clear_value s₁₁ s₇ s₄ s₃
  refine ⟨rfl, (hkeep (by decide) (by decide)).trans hsec, ?_, ?_, ?_⟩
  · exact congrArg (· != 0) ((hkeep (by decide) (by decide)).trans hvalid)
  · exact (h₁₁.fields _ (by decide) 0).trans (rd_wr_same _ _ _)
  · exact h₁₁.destroys.trans (h₇.destroys.trans ((congrArg HostSt.destroys hhost).trans h₃.destroys))

/-! ### Signed readings -/

/-- A request that waits for its last record completes with it (R314). -/
theorem readNoted_last {g f : Nat} (hpend : s.ledger.pends = []) (hread : s.ledger.reads = [⟨g, some x, f⟩]) :
    (s.readNoted g).answer x = some St.OK ∧ (s.readNoted g).ledger.pends = [] := by
  unfold readNoted
  extract_lets num rest
  have hfind : s.ledger.reads.find? (fun r => r.group == g) = some ⟨g, some x, f⟩ := by
    rw [hread]
    simp
  have hrest : rest = false := by
    unfold rest
    rw [hpend]
    rfl
  rw [hfind, hrest]
  dsimp only
  rw [if_neg Bool.false_ne_true]
  exact ⟨complete_answer_of _ (by decide), (congrArg LedgerSt.pends (complete_ledger _ _ _)).trans hpend⟩

theorem takeNum_none (h : s.ledger.useNums = []) : s.takeNum = (none, s) := by
  unfold takeNum
  rw [h]

/-- The last reading that waits takes its record, and the request completes. -/
theorem flushPend_last {p : PendRec} (hp : p.reading = true) (hpend : s.ledger.pends = [p])
    (hread : s.ledger.reads = [⟨p.group, some x, 0⟩]) :
    (s.flushPend p).answer x = some St.OK ∧ (s.flushPend p).ledger.pends = [] := by
  unfold flushPend
  extract_lets l s₁
  rw [if_pos hp]
  have hrec : Recorded s₁ (s₁.appendTimed p.num rREADING p.mp p.wall p.ledger p.flags (s₁.readingBody p.mp p.tariff)) :=
    appendTimed_recorded (.refl s₁)
  have hempty : s₁.ledger.pends = [] := by
    unfold s₁
    dsimp only
    rw [hpend]
    simp
  refine readNoted_last (f := 0) ?_ ?_
  · rw [hrec.ledger]
    exact hempty
  · rw [hrec.ledger]
    exact hread

theorem flushPends_one {p : PendRec} {upTo : Nat} (hpend : s.ledger.pends = [p]) (hdue : p.at_ ≤ upTo) :
    s.flushPends p.mp upTo = s.flushPend p := by
  unfold flushPends
  rw [hpend, List.filter_cons_of_pos (by simp [hdue])]
  rfl

/-- Where the meter point does not meter, a reading of it alone completes at once (R314). -/
theorem readStart_one (hm : m < 12) (hrun : s.mpRuns m = false) (hpend : s.ledger.pends = [])
    (hread : s.ledger.reads = []) (hnum : s.ledger.useNums = []) :
    (s.readStart (2 ^ m) s.mtb (some x)).answer x = some St.OK ∧
      (s.readStart (2 ^ m) s.mtb (some x)).ledger.pends = [] := by
  unfold readStart
  extract_lets g ms l s₁ s₂
  have hms : ms = [m] := range_filter_bit_two_pow hm
  obtain ⟨p, hp, hs₂⟩ : ∃ p : PendRec, (p.reading = true ∧ p.mp = m ∧ p.at_ = s.mtb ∧ p.group = g) ∧
      s₂ = { s₁ with ledger := { s₁.ledger with pends := [p] } } := by
    refine ⟨s₁.pendRec true 0 m s.mtb none g, ⟨rfl, rfl, rfl, rfl⟩, ?_⟩
    unfold s₂
    rw [hms, forEach_one, takeNum_none (s := s₁) hnum]
    show ({ s₁ with ledger := { s₁.ledger with pends := s.ledger.pends ++ _ } } : State) = _
    rw [hpend]
    rfl
  obtain ⟨hreading, rfl, hat, hgroup⟩ := hp
  have hone : ¬ s₂.unclassified p.mp s.mtb = true := by
    unfold unclassified
    rw [hs₂]
    show ¬ (s.mpRuns p.mp && _) = true
    rw [hrun]
    exact Bool.false_ne_true
  have hpend₂ : s₂.ledger.pends = [p] := by rw [hs₂]
  have hread₂ : s₂.ledger.reads = [⟨p.group, some x, 0⟩] := by
    rw [hs₂, hgroup]
    exact congrArg (· ++ _) hread
  rw [hms, if_neg (List.cons_ne_nil _ _), forEach_one, if_neg hone, flushPends_one hpend₂ hat.le]
  exact flushPend_last hreading hpend₂ hread₂

end State
end Sys2Proof.Machine
end

section
/-! PROOFS. What the LEDGER commands do (R277, R281 to R283, R288, R291 to R297, R309 to R320). -/

namespace Sys2Proof.Machine

/-- A calendar has the counts and the header its bytes give (table Calendar layout). -/
theorem calendarOf_header {l : List Nat} {c : Calendar} (h : calendarOf l = some c) :
    leField l 0 2 = 1 ∧ c.activation = leField l 2 8 ∧ c.offset = dec 16 (leField l 10 2) ∧
      c.seasons.length = leField l 12 1 ∧ c.weeks.length = leField l 13 1 ∧ c.days.length = leField l 14 1 ∧
      c.specials.length = leField l 15 1 ∧ c.dst.length = leField l 16 1 := by
  unfold calendarOf at h
  extract_lets f o1 o2 o3 o4 rows at h
  split at h
  · exact absurd h (by simp)
  · next hform =>
    simp only [Bool.or_eq_true, bne_iff_ne, ne_eq, not_or, Decidable.not_not] at hform
    injection h with h
    subst h
    refine ⟨hform.1.2, rfl, rfl, ?_⟩
    simp [rows, f]

namespace State

variable {s : State} {x : Ctx} {n m : Nat}

/-- The buffer that the host hands over takes the data of a command that completes at once. -/
theorem giveBuffer_complete_dma (data : List Nat) (st r : Nat) (h : s.attached = true) :
    ((s.giveBuffer data).complete x st r).host.dma = data := by
  rw [(complete_sameIo x st r).dma, giveBuffer_dma, if_pos h]

theorem giveBuffer_ledger (data : List Nat) : (s.giveBuffer data).ledger = s.ledger := by
  unfold giveBuffer
  split <;> rfl

/-! ### Sessions -/

/-- LEDGER_SESSION_RECORD with its parameters in range, once it has started: it opens a session (R312, R544). -/
def openStarted (x : Ctx) (n m k p : Nat) (i : List Byte) (s : State) : State :=
  match s.recOpenBad n m with
  | some e => s.complete x e
  | none => (s.recOpen n m (.plain 2 k (identHash i)) p s.mtb).complete x St.OK

/-- As `openStarted`, where it closes one (R313, R544). -/
def closeStarted (x : Ctx) (n r : Nat) (s : State) : State :=
  match s.recCloseBad n r with
  | some e => s.complete x e
  | none => (s.recClose n r s.mtb).complete x St.OK

/-- Both forms of the command have their outlet, meter point, identity and price in range (R544). -/
theorem sessionParams_ok {op p : Nat} {i : List Byte} (hn : n < 8) (hm : m < 12) (hop : op < 2) (hi : i.length ≤ 32)
    (hp : p < 2 ^ 32) :
    (decide (8 ≤ n) || decide (12 ≤ m) || decide (2 ≤ op) || decide (32 < i.length) || decide (2 ^ 32 ≤ p)) = false := by
  simp only [Bool.or_eq_false_iff, decide_eq_false_iff_not]
  omega

theorem ledgerSessionRecord_open {k p r : Nat} {i : List Byte} (hn : n < 8) (hm : m < 12) (hi : i.length ≤ 32)
    (hp : p < 2 ^ 32) : exec (.ledgerSessionRecord x n m 0 k i p r) s =
      .next (s.command x Op.LEDGER_SESSION_RECORD m (some (.recOpen n m k i p)) (openStarted x n m k p i)) := by
  show execLedgerSessionRecord x n m 0 k i p r s = _
  unfold execLedgerSessionRecord
  simp only [sessionParams_ok hn hm (by decide : 0 < 2) hi hp]
  rfl

theorem ledgerSessionRecord_close {k p r : Nat} {i : List Byte} (hn : n < 8) (hm : m < 12) (hi : i.length ≤ 32)
    (hp : p < 2 ^ 32) : exec (.ledgerSessionRecord x n m 1 k i p r) s =
      .next (s.command x Op.LEDGER_SESSION_RECORD m (some (.recClose n m r)) (closeStarted x n r)) := by
  show execLedgerSessionRecord x n m 1 k i p r s = _
  unfold execLedgerSessionRecord
  simp only [sessionParams_ok hn hm (by decide : 1 < 2) hi hp]
  rfl

theorem recCloseBad_remote {r : Nat} (hn : n < 8) (hr : 1 ≤ r) (hr' : r ≤ 21) (hctrl : s.flag R.OUT_CFG_CTRL n = true) :
    s.recCloseBad n r =
      if (s.lsess n).opened && !(s.lsess n).closing then none else some St.NO_LEDGER_SESSION := by
  unfold recCloseBad
  rw [if_neg (by simp only [Bool.or_eq_true, decide_eq_true_eq]; omega), if_neg (by rw [hctrl]; decide)]

theorem recCloseBad_none {r : Nat} (hn : n < 8) (hr : 1 ≤ r) (hr' : r ≤ 21) (hctrl : s.flag R.OUT_CFG_CTRL n = true)
    (hopen : (s.lsess n).opened = true) (hclose : (s.lsess n).closing = false) : s.recCloseBad n r = none := by
  rw [recCloseBad_remote hn hr hr' hctrl, hopen, hclose]
  rfl

/-- Where no boundary waits, one that is reached does (R304). -/
theorem addBoundary_none (b : Boundary) (h : s.ledger.bound = none) :
    s.addBoundary b = { s with ledger := { s.ledger with bound := some b } } := by
  unfold addBoundary
  rw [h]

/-- The sessions of the meter points in a mask take the price (R297). -/
def priced (s : State) (mask price : Nat) : State :=
  forEach (List.range 8) (fun n s =>
    if (s.lsess n).opened && bit mask (s.lsess n).mp then s.modLsess n fun l => { l with price := price } else s) s

theorem priced_eq (s : State) (mask price : Nat) :
    ∃ l, s.priced mask price = { s with ledger := { s.ledger with sess := l } } := by
  unfold priced forEach
  induction List.range 8 generalizing s with
  | nil => exact ⟨_, rfl⟩
  | cons n ns ih =>
    rw [List.foldl_cons]
    dsimp only
    split
    · obtain ⟨l, hl⟩ := ih (s.modLsess n fun l => { l with price := price })
      exact ⟨l, hl⟩
    · exact ih s

theorem tariffSelect_eq (s : State) (mask tariff price src at_ : Nat) : s.tariffSelect mask tariff price src at_ =
    (s.priced mask price).addBoundary
      ⟨at_, (s.priced mask price).wallMsAt at_ / 1000, 0, [(mask, tariff, price, src)], 0, 0, none⟩ :=
  rfl

/-- Where no boundary waits, a tariff that is selected is the boundary that does (R297). -/
theorem tariffSelect_bound {k t p src at_ : Nat} (h : s.ledger.bound = none) :
    (s.tariffSelect k t p src at_).ledger.bound =
      some (⟨at_, s.wallMsAt at_ / 1000, 0, [(k, t, p, src)], 0, 0, none⟩ : Boundary) := by
  obtain ⟨l, hl⟩ := priced_eq s k p
  rw [tariffSelect_eq, addBoundary_none _ (by rw [hl]; exact h), hl]
  rfl

/-! ### Records -/

/-- The state in which a fetch has acknowledged the records up to a number (R282, R283). -/
def ackTaken (s : State) (k : Nat) : State :=
  { s with ledger := { s.ledger with acked := max s.ledger.acked (min k s.ledger.issued) } }

/-- The lowest number in the journal, or the next one where it is empty (R283). -/
def oldestSeq (s : State) : Nat := s.ledger.records.foldl (fun a r => min a r.seq) (s.ledger.issued + 1)

/-- LEDGER_RECORD_FETCH, once its acknowledgement has counted, of a record that is gone. -/
theorem ledgerRecordFetch_gone {f z k : Nat} (ht : (s.advance x.t).takes x Op.LEDGER_RECORD_FETCH 0 = true)
    (hgone : f < (((s.advance x.t).start x).ackTaken k).oldestSeq) : exec (.ledgerRecordFetch x f z k) s =
      .next ((((s.advance x.t).start x).ackTaken k).complete x St.RECORD_GONE) :=
  command_completes ht (if_pos hgone) rfl

/-- Of records that are there it hands over those that are signed, in sequence, while they fit. -/
theorem ledgerRecordFetch_next {f z k : Nat} (ht : (s.advance x.t).takes x Op.LEDGER_RECORD_FETCH 0 = true)
    (hthere : (((s.advance x.t).start x).ackTaken k).oldestSeq ≤ f) : exec (.ledgerRecordFetch x f z k) s = .next (
      let a := ((s.advance x.t).start x).ackTaken k
      let rs := a.fetchRecs a.ledger.records.length f z
      (a.giveBuffer (rs.flatMap a.recFields)).complete x St.OK (rs.length + 2 ^ 32 * (f + rs.length))) :=
  command_completes ht (if_neg (Nat.not_lt.2 hthere)) (giveBuffer_destroys _)

theorem fetchRecs_one {r : Rec} {z : Nat} (hrecs : s.ledger.records = [r]) (hsig : r.sig ≠ none) (hfit : r.len ≤ z) :
    s.fetchRecs 1 r.seq z = [r] := by
  have hfind : s.signedRec r.seq = some r := by
    unfold signedRec
    rw [hrecs]
    simp [Option.isSome_iff_ne_none, hsig]
  unfold fetchRecs
  rw [hfind]
  exact if_pos hfit

/-! ### Calibration -/

/-- The refusal of a calibration leaves the one that is open and counts (R315, R318). -/
theorem calRefused_spec (s : State) (x : Ctx) (k st : Nat) :
    ((s.tamper tCAL_REFUSED k).complete x st).ledger.cal = s.ledger.cal ∧
      ((s.tamper tCAL_REFUSED k).complete x st).rd R.LEDGER_TAMPER_COUNT 18 =
        satAdd R.LEDGER_TAMPER_COUNT.w (s.rd R.LEDGER_TAMPER_COUNT 18) 1 := by
  obtain ⟨i, a, u, r, b, hledger⟩ := tamper_ledger s tCAL_REFUSED k
  refine ⟨by rw [complete_ledger, hledger], ?_⟩
  rw [complete_rd _ _ _ _ _ (by decide)]
  exact tamper_rd_count s k (by decide)

/-- The end of a calibration (R319): none is open, the field shows it, and the seal and its instant stay. -/
theorem calClose_spec (c : CalOpen) (cause : Nat) (h : s.ledger.cal = some c) :
    (s.calClose cause).ledger.cal = none ∧ (s.calClose cause).flag R.LEDGER_STAT_CAL_OPEN = false ∧
      (s.calClose cause).flag R.LEDGER_STAT_SEAL = s.flag R.LEDGER_STAT_SEAL ∧
      (s.calClose cause).ledger.sealAt = s.ledger.sealAt ∧
      (s.calClose cause).host.destroys = s.host.destroys := by
  unfold calClose
  rw [h]
  dsimp only
  generalize hs₁ : ({ s with ledger := { s.ledger with cal := none, idleAt := s.mtb, sealIdle := false } } : State) = s₁
  generalize hbody : (_ ++ _ : List (Nat × Nat)) = body
  have hrec : Recorded (s₁.wr R.LEDGER_STAT_CAL_OPEN 0 0) (((s₁.wr R.LEDGER_STAT_CAL_OPEN 0 0).append rCAL 0xFF
      body).raise Ev.LEDGER_CAL 0 [0, cause, c.changes.length]) := recorded_raise (append_recorded (.refl _))
  generalize hs₂ : State.raise _ _ _ _ = s₂ at hrec ⊢
  have hpaint : Painted s₂ s₂.legalRepaint := legalRepaint_painted s₂
  refine ⟨?_, ?_, ?_, ?_, ?_⟩
  · rw [hpaint.ledger, hrec.ledger, ← hs₁]
    rfl
  · rw [hpaint.flag (by decide), hrec.flag (by decide)]
    exact flag_wr_same _ _ _
  · rw [hpaint.flag (by decide), hrec.flag (by decide), flag_wr_ne _ _ _ _ _ (by decide), ← hs₁]
    rfl
  · rw [hpaint.ledger, hrec.ledger, ← hs₁]
    rfl
  · rw [hpaint.destroys, hrec.destroys, ← hs₁]
    rfl

/-- The state in which a calibration has been opened (R318), before the segments show it. -/
def calOpened (s : State) (x : Ctx) (k n : Nat) : State :=
  (((({ s with ledger := { s.ledger with challenge := none, cal := some ⟨k, s.mtb + n * 60 * 10 ^ 9, []⟩ } } : State).wr
    R.LEDGER_STAT_CAL_OPEN 0 1).tamper tCAL_OPEN k).raise Ev.LEDGER_CAL 0 [1, 0, 0]).complete x St.OK

theorem calOpened_spec (s : State) (x : Ctx) (k n : Nat) :
    (s.calOpened x k n).answer x = some St.OK ∧
      (s.calOpened x k n).ledger.cal = some ⟨k, s.mtb + n * 60 * 10 ^ 9, []⟩ ∧
      (s.calOpened x k n).flag R.LEDGER_STAT_CAL_OPEN = true ∧ (s.calOpened x k n).ledger.challenge = none ∧
      (s.calOpened x k n).host.destroys = s.host.destroys := by
  unfold calOpened
  generalize hs₁ : ({ s with ledger := { s.ledger with
    challenge := none, cal := some ⟨k, s.mtb + n * 60 * 10 ^ 9, []⟩ } } : State) = s₁
  obtain ⟨i, a, u, r, b, hledger⟩ := tamper_ledger (s₁.wr R.LEDGER_STAT_CAL_OPEN 0 1) tCAL_OPEN k
  refine ⟨complete_answer_of _ (by decide), ?_, ?_, ?_, ?_⟩
  · rw [complete_ledger, raise_ledger, hledger, ← hs₁]
    rfl
  · rw [complete_flag _ _ _ _ _ (by decide), raise_flag _ _ _ _ _ (by decide), tamper_flag _ _ _ (by decide)]
    exact flag_wr_same _ _ _
  · rw [complete_ledger, raise_ledger, hledger, ← hs₁]
    rfl
  · rw [complete_destroys, raise_destroys, tamper_destroys, ← hs₁]
    rfl

theorem drbgNext_frame (s : State) (bits : Nat) : (s.drbgNext bits).2.mtb = s.mtb ∧
    (s.drbgNext bits).2.host = s.host ∧ (s.drbgNext bits).2.attached = s.attached := by
  unfold drbgNext
  dsimp only
  split
  · exact ⟨rfl, rfl, congrArg (!·) (flag_wr_ne _ _ _ _ _ (by decide))⟩
  · exact ⟨rfl, rfl, rfl⟩

/-- The state that keeps the number of a challenge and its instant (R318). -/
def challenged (s : State) : State :=
  { (s.drbgNext 128).2 with ledger :=
    { (s.drbgNext 128).2.ledger with challenge := some ((s.drbgNext 128).1, (s.drbgNext 128).2.mtb) } }

/-- LEDGER_CAL_CHALLENGE hands over the number it keeps (R318, R375). -/
theorem ledgerCalChallenge_next (ht : (s.advance x.t).takes x Op.LEDGER_CAL_CHALLENGE 0 = true)
    (hok : ((s.advance x.t).start x).drbgOk = true) : exec (.ledgerCalChallenge x) s =
      .next ((((s.advance x.t).start x).challenged.giveBuffer [(((s.advance x.t).start x).drbgNext 128).1]).complete x
        St.OK) := by
  refine command_completes ht (if_neg (by rw [hok]; decide)) ?_
  rw [giveBuffer_destroys]
  show (((s.advance x.t).start x).drbgNext 128).2.host.destroys = _
  rw [(drbgNext_frame _ _).2.1]
  rfl

/-- LEDGER_CAL_OPEN with a mask and a time in range is refused while the seal is not asserted (R318). -/
theorem ledgerCalOpen_unsealed {k c : Nat} {z : Bool} (ht : (s.advance x.t).takes x Op.LEDGER_CAL_OPEN 0 = true)
    (hk : k ≠ 0) (hk' : k < 4096) (hn : 1 ≤ n) (hn' : n ≤ 60)
    (hseal : ((s.advance x.t).start x).flag R.LEDGER_STAT_SEAL = false) : exec (.ledgerCalOpen x k n c z) s =
      .next ((((s.advance x.t).start x).tamper tCAL_REFUSED k).complete x St.SEAL_NOT_ASSERTED) := by
  refine command_completes ht ?_ (tamper_destroys _ _ _)
  dsimp only
  rw [if_neg (by simp only [Bool.or_eq_true, decide_eq_true_eq]; omega), if_pos (by rw [hseal]; rfl)]

/-- Where the seal, the signature and the challenge are good and no session is open, the calibration opens (R318). -/
theorem ledgerCalOpen_next {k c t : Nat} (ht : (s.advance x.t).takes x Op.LEDGER_CAL_OPEN 0 = true)
    (hk : k ≠ 0) (hk' : k < 4096) (hn : 1 ≤ n) (hn' : n ≤ 60)
    (hseal : ((s.advance x.t).start x).flag R.LEDGER_STAT_SEAL = true)
    (hlong : ((s.advance x.t).start x).ledger.sealAt + 20 * 10 ^ 6 ≤ ((s.advance x.t).start x).mtb)
    (hauth : ((s.advance x.t).start x).key.anchors.get none 0 = some ⟨1, 0⟩)
    (hchal : ((s.advance x.t).start x).ledger.challenge = some (c, t))
    (hfresh : ((s.advance x.t).start x).mtb ≤ t + 120 * 10 ^ 9) (hcal : ((s.advance x.t).start x).ledger.cal = none)
    (hidle : (List.range 12).all (fun m => !((s.advance x.t).start x).flag R.MET_SESS_OPEN m) = true) :
    exec (.ledgerCalOpen x k n c true) s = .next ((((s.advance x.t).start x).calOpened x k n).legalRepaint) := by
  have hdes : (((s.advance x.t).start x).calOpened x k n).legalRepaint.host.destroys = [] :=
    (legalRepaint_painted _).destroys.trans ((calOpened_spec _ x k n).2.2.2.2.trans (taken_destroys ht))
  refine command_next _ rfl ht ((congrArg settleDestroys ?_).trans (settleDestroys_nil hdes))
  generalize (s.advance x.t).start x = a at hseal hlong hauth hchal hfresh hcal hidle ⊢
  have hauth' : (List.range 32).any (fun k => (a.key.anchors.get none k).map (·.typ) == some 1) = true :=
    List.any_eq_true.2 ⟨0, List.mem_range.2 (by decide), by rw [hauth]; rfl⟩
  have hopen : (List.range 12).any (fun m => bit k m && a.flag R.MET_SESS_OPEN m) = false := by
    rw [List.any_eq_false]
    intro m hm
    have hshut := List.all_eq_true.1 hidle m hm
    simp_all
  dsimp only
  rw [if_neg (by simp only [Bool.or_eq_true, decide_eq_true_eq]; omega),
    if_neg (by rw [hseal]; simp only [Bool.not_true, Bool.false_or, decide_eq_true_eq]; omega),
    if_neg (by rw [hauth']; decide), hchal]
  dsimp only
  rw [if_neg (by rw [beq_self_eq_true, decide_eq_true hfresh]; decide), if_neg (by rw [hcal, hopen]; decide)]
  rfl

section

variable {a : State}

/-- LEDGER_SESSION_RECORD opens a session under host control where none is open, no calibration runs and the meter point
does not meter (R312, R544). -/
theorem ledgerSessionRecord_opens {k p r : Nat} {i : List Byte} (ha : a = (s.advance x.t).start x)
    (ht : (s.advance x.t).takes x Op.LEDGER_SESSION_RECORD n = true)
    (hheld : (s.advance x.t).heldBy 16 (.recOpen n m k i p) = none)
    (hoff : (s.advance x.t).actDisabled (some (.recOpen n m k i p)) = false) (hn : n < 8) (hm : m < 12)
    (hi : i.length ≤ 32) (hp : p < 2 ^ 32) (hctrl : a.flag R.OUT_CFG_CTRL n = true)
    (hshut : (a.lsess n).opened = false) (hcal : a.ledger.cal = none) (hrun : a.mpRuns m = false) :
    ∃ u, exec (.ledgerSessionRecord x n m 0 k i p r) s = .next u ∧ u.answer x = some St.OK ∧
      (u.lsess n).opened = true ∧ (u.lsess n).mp = m ∧ (u.lsess n).price = p ∧
      u.ledger.records.length ≤ a.ledger.records.length + 1 := by
  subst ha
  set a := (s.advance x.t).start x
  obtain ⟨hopen, hmp, hprice, hlen, hdes⟩ := recOpen_noted (n := n) a (.plain 2 k (identHash i)) p a.mtb hrun
  have hgo : openStarted x n m k p i a = (a.recOpen n m (.plain 2 k (identHash i)) p a.mtb).complete x St.OK := by
    unfold openStarted
    rw [recOpenBad_none hn hm hctrl hshut hcal]
  refine ⟨_, (ledgerSessionRecord_open hn hm hi hp).trans
    (command_act_completes (takes_session ht actOn_recOpen hoff) hheld hoff hgo hdes),
    complete_answer_of _ (by decide), ?_⟩
  unfold lsess
  rw [complete_ledger]
  exact ⟨hopen, hmp, hprice, hlen⟩

/-- Of an outlet that the host does not control no session is opened (R544). -/
theorem ledgerSessionRecord_remote {k p r : Nat} {i : List Byte} (ha : a = (s.advance x.t).start x)
    (ht : (s.advance x.t).takes x Op.LEDGER_SESSION_RECORD n = true)
    (hheld : (s.advance x.t).heldBy 16 (.recOpen n m k i p) = none)
    (hoff : (s.advance x.t).actDisabled (some (.recOpen n m k i p)) = false) (hn : n < 8) (hm : m < 12)
    (hi : i.length ≤ 32) (hp : p < 2 ^ 32) (hctrl : a.flag R.OUT_CFG_CTRL n = false) :
    exec (.ledgerSessionRecord x n m 0 k i p r) s = .next (a.complete x St.NOT_HOST_CONTROL) := by
  subst ha
  set a := (s.advance x.t).start x
  refine (ledgerSessionRecord_open hn hm hi hp).trans
    (command_act_completes (takes_session ht actOn_recOpen hoff) hheld hoff ?_ rfl)
  have hbad : a.recOpenBad n m = some St.NOT_HOST_CONTROL := by
    unfold recOpenBad
    rw [decide_eq_false (Nat.not_le.2 hn), decide_eq_false (Nat.not_le.2 hm), hctrl]
    rfl
  show openStarted x n m k p i a = _
  unfold openStarted
  rw [hbad]

/-- LEDGER_SESSION_RECORD closes a session whose metering session is closed for good (R313, R544). -/
theorem ledgerSessionRecord_closes {k p r : Nat} {i : List Byte} (ha : a = (s.advance x.t).start x)
    (ht : (s.advance x.t).takes x Op.LEDGER_SESSION_RECORD n = true)
    (hheld : (s.advance x.t).heldBy 16 (.recClose n m r) = none)
    (hoff : (s.advance x.t).actDisabled (some (.recClose n m r)) = false) (hn : n < 8) (hm : m < 12)
    (hi : i.length ≤ 32) (hp : p < 2 ^ 32) (hr : 1 ≤ r) (hr' : r ≤ 21) (hctrl : a.flag R.OUT_CFG_CTRL n = true)
    (hopen : (a.lsess n).opened = true) (hclose : (a.lsess n).closing = false)
    (hlive : a.mpLive (a.lsess n).mp = false) (hpend : a.flag R.MET_SESS_CLOSED_PENDING (a.lsess n).mp = false) :
    ∃ u, exec (.ledgerSessionRecord x n m 1 k i p r) s = .next u ∧ u.answer x = some St.OK ∧
      (u.lsess n).opened = false := by
  subst ha
  set a := (s.advance x.t).start x
  obtain ⟨hshut, hdes⟩ := recClose_now (s := a) r a.mtb hopen hclose hlive hpend
  have hgo : closeStarted x n r a = (a.recClose n r a.mtb).complete x St.OK := by
    unfold closeStarted
    rw [recCloseBad_none hn hr hr' hctrl hopen hclose]
  refine ⟨_, (ledgerSessionRecord_close hn hm hi hp).trans
    (command_act_completes (takes_session ht actOn_recClose hoff) hheld hoff hgo hdes),
    complete_answer_of _ (by decide), ?_⟩
  unfold lsess
  rw [complete_ledger]
  exact hshut

/-- There is no session to close (R544). -/
theorem ledgerSessionRecord_none {k p r : Nat} {i : List Byte} (ha : a = (s.advance x.t).start x)
    (ht : (s.advance x.t).takes x Op.LEDGER_SESSION_RECORD n = true)
    (hheld : (s.advance x.t).heldBy 16 (.recClose n m r) = none)
    (hoff : (s.advance x.t).actDisabled (some (.recClose n m r)) = false) (hn : n < 8) (hm : m < 12)
    (hi : i.length ≤ 32) (hp : p < 2 ^ 32) (hr : 1 ≤ r) (hr' : r ≤ 21) (hctrl : a.flag R.OUT_CFG_CTRL n = true)
    (hshut : (a.lsess n).opened = false) :
    exec (.ledgerSessionRecord x n m 1 k i p r) s = .next (a.complete x St.NO_LEDGER_SESSION) := by
  subst ha
  set a := (s.advance x.t).start x
  refine (ledgerSessionRecord_close hn hm hi hp).trans
    (command_act_completes (takes_session ht actOn_recClose hoff) hheld hoff ?_ rfl)
  have hbad : a.recCloseBad n r = some St.NO_LEDGER_SESSION := by
    rw [recCloseBad_remote hn hr hr' hctrl, hshut]
    rfl
  show closeStarted x n r a = _
  unfold closeStarted
  rw [hbad]

/-- LEDGER_TIME_SET while the clock is invalid sets it (R291, R293). -/
theorem ledgerTimeSet_invalid {ms : Nat} (ha : a = (s.advance x.t).start x)
    (ht : (s.advance x.t).takes x Op.LEDGER_TIME_SET 0 = true) (hms : ms < 1000 * 2 ^ 32) (hrtc : a.rtcValid = false) :
    ∃ u, exec (.ledgerTimeSet x ms none) s = .next u ∧ u.answer x = some St.OK ∧ u.rtcValid = true ∧
      u.rd R.GLOBAL_MTB_UTC_UTC_SEC = ms / 1000 ∧ u.rd R.LEDGER_TIME_CLOCK_VALID = 1 := by
  subst ha
  set a := (s.advance x.t).start x
  have hstep : a.stepRefused ms 0 = false := by
    unfold stepRefused
    rw [hrtc]
    rfl
  obtain ⟨hok, hset⟩ := timeSet_accepted hstep
  refine ⟨_, command_completes ht (u := (a.timeSet ms 0).2) (st := St.OK) (r := 0) ?_ hset.destroys,
    complete_answer_of _ (by decide), ?_, ?_, ?_⟩
  · dsimp only
    rw [if_neg (Nat.not_le.2 hms)]
    show (a.timeSet ms 0).2.complete x (if (a.timeSet ms 0).1 then _ else _) = _
    rw [hok, if_pos rfl]
  · unfold rtcValid
    rw [complete_flag _ _ _ _ _ (by decide)]
    exact hset.valid
  · rw [complete_rd _ _ _ _ _ (by decide), hset.sec]
    exact Nat.mod_eq_of_lt (Nat.div_lt_of_lt_mul hms)
  · rw [complete_rd _ _ _ _ _ (by decide), hset.clock]

/-- Unsigned steps beyond the limit of a day are refused (R292). -/
theorem ledgerTimeSet_step {ms : Nat} (ha : a = (s.advance x.t).start x)
    (ht : (s.advance x.t).takes x Op.LEDGER_TIME_SET 0 = true) (hms : ms < 1000 * 2 ^ 32)
    (hrefused : a.stepRefused ms 0 = true) :
    exec (.ledgerTimeSet x ms none) s = .next (a.complete x St.TIME_STEP) := by
  subst ha
  set a := (s.advance x.t).start x
  refine command_completes ht ?_ rfl
  dsimp only
  rw [if_neg (Nat.not_le.2 hms)]
  show (a.timeSet ms 0).2.complete x (if (a.timeSet ms 0).1 then _ else _) = _
  rw [timeSet_refused hrefused]
  rfl

/-- A calendar within its limits, signed where it has to be, waits for its activation (R296). -/
theorem ledgerCalendarLoad_next {l : List Byte} {z : Bool} (ha : a = (s.advance x.t).start x)
    (ht : (s.advance x.t).takes x Op.LEDGER_CALENDAR_LOAD 0 = true)
    (hvalid : (calendarOf (l.map (fun (y : Byte) => y.toNat))).map calendarValid = some true)
    (hsig : a.flag R.LEDGER_CFG_CAL_SIGNED = false ∨ (z = true ∧ a.flag R.KEY_STATUS_OWNER_SET = true)) :
    ∃ u, exec (.ledgerCalendarLoad x l z) s = .next u ∧ u.answer x = some St.OK ∧
      u.ledger.pending = calendarOf (l.map (fun (y : Byte) => y.toNat)) ∧ u.ledger.calendar = a.ledger.calendar := by
  subst ha
  set a := (s.advance x.t).start x
  obtain ⟨c, hc, hok⟩ := Option.map_eq_some_iff.1 hvalid
  refine ⟨_, command_completes ht (u := { a with ledger := { a.ledger with pending := some c } }) (st := St.OK) (r := 0)
    ?_ rfl, complete_answer_of _ (by decide), ?_, ?_⟩
  · dsimp only
    rw [if_neg, hc, Option.filter_some_pos hok]
    rcases hsig with hsig | ⟨rfl, howner⟩
    · rw [hsig, Bool.false_and]
      exact Bool.false_ne_true
    · rw [howner]
      simp
  · rw [complete_ledger, hc]
  · rw [complete_ledger]

/-- One beyond its limits is refused (R296). -/
theorem ledgerCalendarLoad_invalid {l : List Byte} {z : Bool} (ha : a = (s.advance x.t).start x)
    (ht : (s.advance x.t).takes x Op.LEDGER_CALENDAR_LOAD 0 = true)
    (hvalid : (calendarOf (l.map (fun (y : Byte) => y.toNat))).map calendarValid ≠ some true)
    (hunsigned : a.flag R.LEDGER_CFG_CAL_SIGNED = false) :
    exec (.ledgerCalendarLoad x l z) s = .next (a.complete x St.CALENDAR_INVALID) := by
  subst ha
  set a := (s.advance x.t).start x
  refine command_completes ht ?_ rfl
  dsimp only
  rw [if_neg (by rw [hunsigned, Bool.false_and]; exact Bool.false_ne_true)]
  rcases hc : calendarOf (l.map fun y => y.toNat) with _ | c
  · rw [hc]
    rfl
  · rw [hc] at hvalid
    have hbad : calendarValid c = false := Bool.eq_false_iff.2 fun hok => hvalid (congrArg some hok)
    rw [hc, Option.filter_some_neg hbad]

end

end State

open State in
/-- Settles O36: a command that is taken answers with its own function's state, clause by clause; what a record, a tamper
event, a repaint of the segments and a set of the wall time leave is `State.Recorded`, `State.Painted` and
`State.Held`. -/
theorem ledgerCommands : Obligations.LedgerCommands := by
  unfold Obligations.LedgerCommands
  refine ⟨?query, ?queryBad, ?sessOpen, ?sessRemote, ?sessClose, ?sessNone, ?tariff, ?tariffOff, ?read, ?readOne, ?readBad,
    ?fetchNone, ?fetchGone, ?fetchOne, ?timeSet, ?timeStep, ?calendar, ?calendarUnsigned, ?calendarBad, ?calendarForm,
    ?bill, ?billOff, ?billRead, ?billNone, ?challenge, ?noEntropy, ?calOpen, ?calUnsealed, ?calBad, ?calClose,
    ?calNone, ?legalId, ?ackLoss⟩
  case query => exact fun s x m ht hm => command_completes ht (if_neg (Nat.not_le.2 hm)) rfl
  case queryBad => exact fun s x m ht hm => command_completes ht (if_pos hm) rfl
  case sessOpen => exact fun s x n m k p r i ht hheld hoff hn hm hi hp hctrl hshut hcal hrun =>
    ledgerSessionRecord_opens rfl ht hheld hoff hn hm hi hp hctrl hshut hcal hrun
  case sessRemote => exact fun s x n m k p r i ht hheld hoff hn hm hi hp hctrl =>
    ledgerSessionRecord_remote rfl ht hheld hoff hn hm hi hp hctrl
  case sessClose => exact fun s x n m k p r i ht hheld hoff hn hm hi hp hr hr' hctrl hopen hclose hlive hpend =>
    ledgerSessionRecord_closes rfl ht hheld hoff hn hm hi hp hr hr' hctrl hopen hclose hlive hpend
  case sessNone => exact fun s x n m k p r i ht hheld hoff hn hm hi hp hr hr' hctrl hshut =>
    ledgerSessionRecord_none rfl ht hheld hoff hn hm hi hp hr hr' hctrl hshut
  case tariff =>
    intro s x k t p b a ht hheld hoff hp hk hr hctrl hbound
    have hbad : (if 2 ^ 32 ≤ p then some St.BAD_PARAM else a.tariffBad k t) = none := by
      rw [if_neg (Nat.not_le.2 hp)]
      unfold tariffBad
      rw [hctrl, decide_eq_false (Nat.not_le.2 hk), if_neg (by decide), if_neg]
      simp only [Bool.false_or, Bool.and_eq_true, decide_eq_true_eq, bne_iff_ne]
      omega
    refine ⟨_, command_act_completes ht hheld hoff (u := a.tariffSelect k t p 1 a.mtb) (by rw [hbad])
      (tariffSelect_held (.refl a)).destroys, complete_answer_of _ (by decide), ?_⟩
    rw [complete_ledger]
    exact tariffSelect_bound hbound
  case tariffOff =>
    intro s x k t p b a ht hheld hoff hp hctrl
    refine command_act_completes ht hheld hoff ?_ rfl
    have hbad : (if 2 ^ 32 ≤ p then some St.BAD_PARAM else a.tariffBad k t) = some St.HOST_TARIFF_OFF := by
      rw [if_neg (Nat.not_le.2 hp)]
      unfold tariffBad
      rw [hctrl]
      rfl
    rw [hbad]
  case read =>
    intro s x k b a ht hheld hoff hk hk'
    refine command_act_next _ rfl ht hheld hoff ?_
    have hbad : a.readBad k = none := by
      unfold readBad
      rw [if_neg (by simp only [Bool.or_eq_true, decide_eq_true_eq]; omega)]
    rw [hbad]
  case readOne => exact fun s x m hm hrun hpend hread hnum => readStart_one hm hrun hpend hread hnum
  case readBad =>
    intro s x k b a ht hheld hoff hk
    refine command_act_completes ht hheld hoff ?_ rfl
    have hbad : a.readBad k = some St.BAD_PARAM := by
      unfold readBad
      rw [if_pos (by simp only [Bool.or_eq_true, decide_eq_true_eq]; exact hk)]
    rw [hbad]
  case fetchNone =>
    intro s x f z k b a ht hrecs hf
    have hold : (a.ackTaken k).oldestSeq ≤ f := by
      show (a.ledger.records.foldl _ _ : Nat) ≤ f
      rw [hrecs]
      exact hf
    refine ⟨_, ledgerRecordFetch_next ht hold, complete_answer_of _ (by decide), ?_, fun hatt => ?_⟩
    · rw [complete_ledger, giveBuffer_ledger]
      rfl
    · dsimp only
      rw [giveBuffer_complete_dma (s := a.ackTaken k) _ _ _ hatt]
      show ((a.ackTaken k).fetchRecs a.ledger.records.length f z).flatMap _ = []
      rw [hrecs]
      rfl
  case fetchGone =>
    intro s x f z k r b a ht hrecs hlow hnext
    have hgone : f < (a.ackTaken k).oldestSeq := by
      show f < (a.ledger.records.foldl _ _ : Nat)
      rw [hrecs]
      exact lt_min hnext hlow
    refine ⟨_, ledgerRecordFetch_gone ht hgone, complete_answer_of _ (by decide), ?_⟩
    rw [complete_ledger]
    rfl
  case fetchOne =>
    intro s x f z k r b a ht hrecs hseq hlast hsig hfit
    subst hseq
    have hold : (a.ackTaken k).oldestSeq ≤ r.seq := by
      show (a.ledger.records.foldl _ _ : Nat) ≤ r.seq
      rw [hrecs]
      exact min_le_right _ _
    refine ⟨_, ledgerRecordFetch_next ht hold, complete_answer_of _ (by decide), fun hatt => ?_⟩
    dsimp only
    rw [giveBuffer_complete_dma (s := a.ackTaken k) _ _ _ hatt]
    have hlen : (a.ackTaken k).ledger.records.length = 1 := congrArg List.length hrecs
    have hrs : (a.ackTaken k).fetchRecs 1 r.seq z = [r] := fetchRecs_one hrecs hsig hfit
    show List.flatMap _ ((a.ackTaken k).fetchRecs (a.ackTaken k).ledger.records.length r.seq z) = _
    rw [hlen, hrs]
    exact List.append_nil _
  case timeSet =>
    exact fun s x ms ht hms hrtc => ledgerTimeSet_invalid rfl ht hms hrtc
  case timeStep =>
    intro s x ms b a ht hms hrtc hstep
    have hrefused : a.stepRefused ms 0 = true := by
      unfold stepRefused
      rw [hrtc, decide_eq_true hstep]
      rfl
    exact ledgerTimeSet_step rfl ht hms hrefused
  case calendar =>
    exact fun s x l z ht hvalid hsig => ledgerCalendarLoad_next rfl ht hvalid hsig
  case calendarUnsigned =>
    intro s x l z b a ht hsigned hsig
    refine command_completes ht (if_pos ?_) rfl
    rw [hsigned]
    rcases hsig with rfl | howner
    · rfl
    · rw [howner, Bool.and_false]
      rfl
  case calendarBad =>
    exact fun s x l z ht hvalid hunsigned => ledgerCalendarLoad_invalid rfl ht hvalid hunsigned
  case calendarForm => exact fun l c h => calendarOf_header h
  case bill =>
    intro s x b a ht hon hrtc hctx hlast
    refine command_next _ rfl ht ?_
    dsimp only
    rw [if_neg (by rw [hon]; decide), if_neg (by rw [hrtc]; decide), if_neg (by rw [hctx, hlast]; exact Bool.false_ne_true)]
    exact settleDestroys_nil (taken_destroys ht)
  case billOff => exact fun s x ht hoff => command_completes ht (if_pos (by rw [hoff]; rfl)) rfl
  case billRead =>
    intro s x k z b a ht hz
    refine ⟨_, command_completes ht (u := a.giveBuffer ([z.no, z.startL, z.startW, z.endL, z.endW, z.cause, z.flags] ++
      z.data.flatMap fun d => d.1 :: d.2)) (st := St.OK) (r := 0) (by rw [hz]) (giveBuffer_destroys _),
      complete_answer_of _ (by decide), fun hatt => giveBuffer_complete_dma _ _ _ hatt⟩
  case billNone =>
    intro s x k b a ht hk
    have hnone : a.ledger.bills[k]? = none := List.getElem?_eq_none hk
    exact command_completes ht (by rw [hnone]) rfl
  case challenge =>
    intro s x b a ht hok
    obtain ⟨hmtb, hhost, hattached⟩ := drbgNext_frame a 128
    refine ⟨_, ledgerCalChallenge_next ht hok, complete_answer_of _ (by decide), fun hatt => ?_, ?_⟩
    · rw [giveBuffer_complete_dma (s := a.challenged) _ _ _ (hattached.trans hatt), complete_ledger, giveBuffer_ledger]
      rfl
    · rw [complete_ledger, giveBuffer_ledger]
      exact congrArg some hmtb
  case noEntropy => exact fun s x ht hno => command_completes ht (if_pos (by rw [hno]; rfl)) rfl
  case calOpen =>
    intro s x k n c t b a ht hk hk' hn hn' hseal hlong hauth hchal hfresh hcal hidle
    obtain ⟨hans, hopen, hflag, hnone, -⟩ := calOpened_spec a x k n
    have hpaint : Painted (a.calOpened x k n) (a.calOpened x k n).legalRepaint := legalRepaint_painted _
    refine ⟨_, ledgerCalOpen_next ht hk hk' hn hn' hseal hlong hauth hchal hfresh hcal hidle,
      (hpaint.answer x).trans hans, ?_, (hpaint.flag (by decide) _).trans hflag, ?_⟩
    · rw [hpaint.ledger, hopen]
    · rw [hpaint.ledger, hnone]
  case calUnsealed =>
    intro s x k n c z b a ht hk hk' hn hn' hseal
    refine ⟨_, ledgerCalOpen_unsealed ht hk hk' hn hn' hseal, complete_answer_of _ (by decide), ?_⟩
    exact calRefused_spec ((s.advance x.t).start x) x k St.SEAL_NOT_ASSERTED
  case calBad =>
    intro s x k n c z b a ht hbad
    refine command_completes ht (if_pos ?_) rfl
    simp only [Bool.or_eq_true, decide_eq_true_eq]
    omega
  case calClose =>
    intro s x c b a ht hcal
    obtain ⟨hnone, hflag, -, -, hdes⟩ := calClose_spec c 0 hcal
    refine ⟨_, command_completes ht (u := a.calClose 0) (st := St.OK) (r := 0) (if_neg (by rw [hcal]; exact Bool.false_ne_true)) hdes,
      complete_answer_of _ (by decide), ?_, ?_⟩
    · rw [complete_ledger, hnone]
    · rw [complete_flag _ _ _ _ _ (by decide), hflag]
  case calNone => exact fun s x ht hcal => command_completes ht (if_pos (by rw [hcal]; rfl)) rfl
  case legalId => exact fun s x ht => command_completes ht rfl (giveBuffer_destroys _)
  case ackLoss =>
    intro s x b a ht
    refine ⟨_, command_completes ht (u := a.wr R.LEDGER_STAT_POSSIBLE_LOSS 0 0) (st := St.OK) (r := 0) rfl rfl,
      complete_answer_of _ (by decide), ?_⟩
    rw [complete_rd _ _ _ _ _ (by decide), rd_wr_same]
    rfl

end Sys2Proof.Machine
end

section
/-! SUPPORT and PROOFS. What the events of the ledger do (R279, R280, R282, R295, R296, R299 to R304, R309, R315, R319). -/

namespace Sys2Proof.Machine
namespace State

variable {s : State}

/-! ### Commits (R279, R280) -/

/-- A commit that reads back whole is the newest one, where the two copies are older. -/
theorem commitState_newest (ha : (s.ledger.copyA.map (·.num)).getD 0 ≤ s.ledger.commits)
    (hb : (s.ledger.copyB.map (·.num)).getD 0 ≤ s.ledger.commits) :
    (s.commitState true).newestCommit = some (s.snapshotCommit (s.ledger.commits + 1)) := by
  unfold commitState
  extract_lets n c _ s₁
  rw [if_pos rfl]
  have hc : c = some (s.snapshotCommit n) := if_pos rfl
  have hnum : (s.snapshotCommit n).num = n := rfl
  by_cases hodd : n % 2 = 1
  · have h₁ : s₁ = { s with ledger := { s.ledger with commits := n, copyA := c } } := if_pos hodd
    rw [h₁, hc]
    unfold newestCommit
    rcases hB : s.ledger.copyB with _ | y
    · exact congrArg some rfl
    · rw [hB] at hb
      have hold : ¬ (s.snapshotCommit n).num < y.num := by
        rw [hnum]
        exact Nat.not_lt.2 (Nat.le_succ_of_le hb)
      exact congrArg some (if_neg hold)
  · have h₁ : s₁ = { s with ledger := { s.ledger with commits := n, copyB := c } } := if_neg hodd
    rw [h₁, hc]
    unfold newestCommit
    rcases hA : s.ledger.copyA with _ | y
    · rfl
    · rw [hA] at ha
      have hold : y.num < (s.snapshotCommit n).num := by
        rw [hnum]
        exact Nat.lt_succ_of_le ha
      exact congrArg some (if_pos hold)

theorem commitState_commits (s : State) (ok : Bool) : (s.commitState ok).ledger.commits = s.ledger.commits + 1 ∧
    (s.commitState ok).ledger.commitAt = s.ledger.commitAt := by
  unfold commitState
  extract_lets n c _ s₁
  have h₁ : s₁.ledger.commits = n ∧ s₁.ledger.commitAt = s.ledger.commitAt := by
    unfold s₁
    split <;> exact ⟨rfl, rfl⟩
  split <;> exact h₁

/-- A commit that fails to the second copy leaves that copy invalid and the first whole, and is counted (R280). -/
theorem commitState_fails (h : s.ledger.commits % 2 = 1) :
    (s.commitState false).ledger.copyA = s.ledger.copyA ∧ (s.commitState false).ledger.copyB = none ∧
      (s.commitState false).rd R.LEDGER_STAT_COMMIT_FAIL =
        satAdd R.LEDGER_STAT_COMMIT_FAIL.w (s.rd R.LEDGER_STAT_COMMIT_FAIL) 1 := by
  unfold commitState
  extract_lets n c _ s₁
  have h₁ : s₁ = { s with ledger := { s.ledger with commits := n, copyB := c } } := if_neg (by omega)
  have hcn : c = none := if_neg Bool.false_ne_true
  rw [if_neg Bool.false_ne_true, h₁, hcn]
  exact ⟨rfl, rfl, rd_incSat_same (s := { s with ledger := { s.ledger with commits := n, copyB := none } }) _ _⟩

/-- The state in which a commit's instant is noted (R279). -/
def commitNoted (s : State) : State := { s with ledger := { s.ledger with commitAt := s.mtb } }

theorem ledgerCommit_next {t : Nat} {ok : Bool} (hc : (s.advance t).core = true)
    (hdue : (s.advance t).ledger.commitAt / (10 ^ 8 * max 1 ((s.advance t).rd R.LEDGER_CFG_COMMIT_100MS)) <
      (s.advance t).mtb / (10 ^ 8 * max 1 ((s.advance t).rd R.LEDGER_CFG_COMMIT_100MS)))
    (hbound : (s.advance t).ledger.bound = none) :
    exec (.ledgerCommit t ok) s = .next ((s.advance t).commitNoted.commitState ok) := by
  refine onCore_next _ rfl hc ?_
  refine (if_neg (Nat.not_le.2 hdue)).trans ?_
  rw [hbound]
  rfl

/-! ### Signatures (R282) -/

theorem drbgNext_ledger (s : State) (bits : Nat) : (s.drbgNext bits).2.ledger = s.ledger := by
  unfold drbgNext
  dsimp only
  split <;> rfl

theorem useNode_ledger (s : State) (h : Nat) : (s.useNode h).ledger = s.ledger := by
  unfold useNode
  split
  · rfl
  · exact drbgNext_ledger s 256

/-- The fields that an attach can change. -/
def attachIds : List Nat :=
  [R.GLOBAL_STATUS_HOST_READY.id, R.HOST_CTRL_EN.id, R.HOST_CTRL_DETACHED.id] ++ raiseIds ++ noteIds

/-- An attach is of the HOST island alone (R65). -/
theorem attach_quiet (s : State) : Quiet attachIds s s.attach := by
  unfold attach
  extract_lets s₁ _ s₂ _ s₃ s₄ on
  have h₁ : Quiet attachIds s s₁ := (quiet_wr R.HOST_CTRL_EN 0 1).mono (by decide)
  have h₂ : Quiet attachIds s s₂ := (h₁.trans (quiet_wr R.HOST_CTRL_DETACHED 0 0)).mono (by decide)
  have h₃ : Quiet attachIds s s₃ := ⟨h₂.regs, h₂.only.trans rfl, h₂.hist, h₂.destroys, h₂.dbs⟩
  have h₄ : Quiet attachIds s s₄ := (h₃.trans (raise_spec _ _ _).1).mono (by decide)
  have h₅ : Quiet attachIds s (if on then s₄.irq (s₄.rd R.GLOBAL_ALERT_EN_VECTOR) else s₄) := by
    split
    · exact (h₄.trans (irq_drained _).quiet).mono (by decide)
    · exact h₄
  split
  · exact h₁
  · split
    · exact ⟨h₁.regs, h₁.only.trans rfl, h₁.hist, h₁.destroys, h₁.dbs⟩
    · exact (h₅.trans (drainAll_drained.trans notifIrq_drained).quiet).mono (by decide)

/-- So is what follows the last signature of a start (R498). -/
theorem hostReady_quiet (s : State) : Quiet attachIds s s.hostReady := by
  unfold hostReady
  split
  · exact (Quiet.refl s).mono (by decide)
  · have h₁ : Quiet attachIds s (s.wr R.GLOBAL_STATUS_HOST_READY 0 1) :=
      (quiet_wr R.GLOBAL_STATUS_HOST_READY 0 1).mono (by decide)
    extract_lets s₁
    split
    · exact (h₁.trans (attach_quiet _)).mono (by decide)
    · exact h₁

/-- Where every record is signed, none is. -/
theorem signOldest_none (h : s.ledger.records.all (fun r => r.sig.isSome) = true) : s.signOldest = s := by
  have hnone : s.ledger.records.reverse.findIdx? (fun r => r.sig.isNone) = none := by
    rw [List.findIdx?_eq_none_iff]
    intro r hr
    have hsig := List.all_eq_true.1 h r (List.mem_reverse.1 hr)
    rw [Option.isNone_eq_false_iff]
    exact hsig
  unfold signOldest
  rw [hnone]

/-- The one record of the journal is signed with the current key (R282, R311). -/
theorem signOldest_one {k : KNode} {r : Rec} (hrecs : s.ledger.records = [r]) (hsig : r.sig = none)
    (hmode : s.keyMode = 2) (hnode : s.node? pathSign = some k) (hstale : k.stale = false) :
    (∃ g v, s.signOldest.ledger.records = [{ r with keyGen := g, sig := some v }]) ∧
      s.signOldest.rd R.LEDGER_STAT_UNSIGNED = 0 := by
  have hfirst : s.ledger.records.reverse.findIdx? (fun r => r.sig.isNone) = some 0 := by
    rw [hrecs]
    simp [List.findIdx?, List.findIdx?.go, hsig]
  unfold signOldest
  rw [hfirst, hnode]
  dsimp only
  rw [if_neg (by rw [hmode]; decide), hstale, if_neg Bool.false_ne_true]
  generalize hrs : List.modify _ _ _ = rs
  obtain ⟨g, v, hone⟩ : ∃ g v, rs = [{ r with keyGen := g, sig := some v }] := by
    rw [← hrs, useNode_ledger, hrecs]
    exact ⟨_, _, rfl⟩
  refine ⟨⟨g, v, hone⟩, (rd_wr_same _ _ _).trans ?_⟩
  rw [hone]
  rfl

/-- What follows leaves the ledger and its count of unsigned records. -/
theorem recordSign_one {k : KNode} {r : Rec} (hrecs : s.ledger.records = [r]) (hsig : r.sig = none)
    (hmode : s.keyMode = 2) (hnode : s.node? pathSign = some k) (hstale : k.stale = false) :
    let u := if s.up then s.signOldest.hostReady else s.signOldest
    u.ledger.records.all (fun r => r.sig.isSome) = true ∧ u.rd R.LEDGER_STAT_UNSIGNED = 0 ∧
      u.ledger.records.map (fun r => (r.seq, r.body)) = [(r.seq, r.body)] := by
  intro u
  obtain ⟨⟨g, v, hone⟩, hzero⟩ := signOldest_one hrecs hsig hmode hnode hstale
  have hq := hostReady_quiet s.signOldest
  have hu : u.ledger = s.signOldest.ledger ∧ u.rd R.LEDGER_STAT_UNSIGNED = s.signOldest.rd R.LEDGER_STAT_UNSIGNED := by
    unfold u
    split
    · exact ⟨hq.only.ledger, hq.regs _ _ (by decide)⟩
    · exact ⟨rfl, rfl⟩
  rw [hu.1, hu.2, hone]
  exact ⟨rfl, hzero, rfl⟩

/-- The host is told once that it may attach (R498). -/
theorem hostReady_ready (h : s.flag R.GLOBAL_STATUS_HOST_READY = true) : s.hostReady = s := by
  unfold hostReady
  rw [h]
  rfl

/-! ### Boundaries (R295, R296, R299, R303) -/

/-- A tariff switch at a whole local minute that is no boundary yet. -/
theorem tariffSwitch_next {t : Nat} (hu : (s.advance t).up = true) (hrtc : (s.advance t).rtcValid = true)
    (hsec : (s.advance t).clockSec = (s.advance t).wallS) (hlocal : (s.advance t).localSec (s.advance t).wallS % 60 = 0)
    (hchange : (s.advance t).tariffChanges (s.advance t).wallS ≠ [])
    (hsync : (s.advance t).flag R.LEDGER_DEMAND_CFG_SYNC_EN = false) (hheld : (s.advance t).ledger.held = none)
    (hbound : (s.advance t).ledger.bound = none) (hlast : (s.advance t).ledger.lastClosed < (s.advance t).wallS)
    (hsub : (s.advance t).ledger.subStart < (s.advance t).instOf (s.advance t).wallS) :
    exec (.tariffSwitch t) s = .next ((s.advance t).addBoundary
      ⟨(s.advance t).instOf (s.advance t).wallS, (s.advance t).wallS, 2, [], 0, 0, none⟩) := by
  refine onEvent_next _ rfl hu ?_
  dsimp only
  rw [hsec, hlocal, Nat.sub_zero, if_neg (by simp [hrtc, hchange]), if_neg (by simp [hsync]),
    hheld, hbound, if_neg (by simp), if_neg]
  simp only [Bool.or_eq_true, decide_eq_true_eq]
  omega

/-- The activation of a pending calendar whose time is after the latest closed boundary. -/
theorem calendarActivate_next {t : Nat} {c : Calendar} (hu : (s.advance t).up = true)
    (hrtc : (s.advance t).rtcValid = true) (hpend : (s.advance t).ledger.pending = some c) (hzero : c.activation ≠ 0)
    (hdue : c.activation ≤ (s.advance t).wallS) (hlast : (s.advance t).ledger.lastClosed < c.activation)
    (hsub : (s.advance t).ledger.subStart < (s.advance t).instOf c.activation) :
    exec (.calendarActivate t) s = .next ((s.advance t).addBoundary
      ⟨(s.advance t).instOf c.activation, c.activation, 8, [], 0, 0, none⟩) := by
  have hnow : ¬ ((!(s.advance t).rtcValid || decide (c.activation = 0) || decide ((s.advance t).wallS < c.activation)) =
      true) := by
    simpa [hrtc, hzero] using hdue
  have hlate : ¬ ((decide (c.activation ≤ (s.advance t).ledger.lastClosed) ||
      decide ((s.advance t).instOf c.activation ≤ (s.advance t).ledger.subStart)) = true) := by
    simp only [Bool.or_eq_true, decide_eq_true_eq]
    omega
  refine onEvent_next _ rfl hu ?_
  rw [hpend]
  dsimp only
  rw [if_neg hnow, if_neg hlate]

/-- A nominal boundary that nothing holds open waits for its transaction. -/
theorem demandBoundary_adds {sec : Nat} (hkinds : s.kindsAt sec ≠ 0) (hopen : s.boundaryOpen sec = true)
    (hsync : s.flag R.LEDGER_DEMAND_CFG_SYNC_EN = false) : s.demandBoundary sec = s.addBoundary
      ⟨s.instOf sec, if s.rtcValid then sec else 0, s.kindsAt sec, [], 0, 0, none⟩ := by
  unfold demandBoundary
  dsimp only
  rw [if_neg (by simp [hkinds, hopen]), if_neg (by simp [hsync])]

/-- With SYNC_IN in use, the end of a sub-interval is held open. -/
theorem demandBoundary_holds {sec : Nat} (hkinds : s.kindsAt sec % 2 = 1) (hopen : s.boundaryOpen sec = true)
    (hsync : s.flag R.LEDGER_DEMAND_CFG_SYNC_EN = true) :
    (s.demandBoundary sec).ledger = { s.ledger with
      held := some (⟨s.instOf sec, if s.rtcValid then sec else 0, s.kindsAt sec, [], 0, 0, none⟩ : Boundary) } := by
  have hne : s.kindsAt sec ≠ 0 := fun h => by
    rw [h] at hkinds
    exact absurd hkinds (by decide)
  have hbit : bit (s.kindsAt sec) 0 = true := by
    unfold bit
    rw [Nat.pow_zero, Nat.div_one, hkinds]
    rfl
  unfold demandBoundary
  dsimp only
  rw [if_neg (by simp [hne, hopen]), if_pos (by rw [hsync, hbit]; rfl)]

/-- A boundary held open waits for its transaction, where none does. -/
theorem releaseHeld_none {z : Boundary} (hheld : s.ledger.held = some z) (hbound : s.ledger.bound = none) :
    s.releaseHeld = { s with ledger := { s.ledger with held := none, bound := some z } } := by
  unfold releaseHeld
  rw [hheld]
  exact addBoundary_none (s := { s with ledger := { s.ledger with held := none } }) z hbound

/-! ### The seal (R315, R319) -/

/-- The state in which an idle seal is noted (R315). -/
def idleNoted (s : State) : State := { s with ledger := { s.ledger with sealIdle := true } }

/-- The state in which the seal is set or released at an instant. -/
def sealNoted (s : State) (level : Bool) : State :=
  { s.setFlag R.LEDGER_STAT_SEAL 0 level with ledger := { s.ledger with sealAt := s.mtb, idleAt := s.mtb, sealIdle := false } }

theorem sealNoted_flag (s : State) (level : Bool) : (s.sealNoted level).flag R.LEDGER_STAT_SEAL = level := by
  have h : (s.sealNoted level).flag R.LEDGER_STAT_SEAL = (s.setFlag R.LEDGER_STAT_SEAL 0 level).flag R.LEDGER_STAT_SEAL :=
    rfl
  rw [h]
  unfold setFlag flag
  rw [rd_wr_same]
  cases level <;> rfl

/-- The release of the seal closes a calibration that is open. -/
theorem sealChange_released (s : State) : (s.sealChange false).flag R.LEDGER_STAT_SEAL = false ∧
    (s.sealChange false).ledger.cal = none ∧ (s.sealChange false).ledger.sealAt = s.mtb := by
  have hgo : s.sealChange false = (s.sealNoted false).calClose 2 := rfl
  rw [hgo]
  rcases hcal : s.ledger.cal with _ | c
  · have hsame : (s.sealNoted false).calClose 2 = s.sealNoted false := by
      unfold calClose
      have hnone : (s.sealNoted false).ledger.cal = none := hcal
      rw [hnone]
    rw [hsame]
    exact ⟨sealNoted_flag s false, hcal, rfl⟩
  · obtain ⟨hnone, _, hflag, hat, _⟩ := calClose_spec (s := s.sealNoted false) c 2 hcal
    exact ⟨hflag.trans (sealNoted_flag s false), hnone, hat⟩

end State

open State in
/-- Settles O35: each event that is due answers with its own function's state; a boundary that is reached waits where
none does, and the end of a calibration, a tamper event and a commit are the lemmas on them. -/
theorem ledgerEvents : Obligations.LedgerEvents := by
  unfold Obligations.LedgerEvents
  refine ⟨?commit, ?commitEarly, ?commitFails, ?switch, ?switchNone, ?activate, ?boundary, ?boundaryHeld, ?transaction,
    ?window, ?idle, ?idleNone, ?unsealed, ?sealed, ?expiry, ?expiryEarly, ?signed, ?sign⟩
  case commit =>
    intro s t a hc hdue hbound ha hb
    obtain ⟨hnum, hat⟩ := commitState_commits a.commitNoted true
    refine ⟨_, ledgerCommit_next hc hdue hbound, hat, hnum, ?_, ?_⟩
    · rw [commitState_newest (s := a.commitNoted) ha hb]
      rfl
    · rw [commitState_newest (s := a.commitNoted) ha hb]
      rfl
  case commitEarly => exact fun s t c hc hearly => onCore_next _ rfl hc (if_pos hearly)
  case commitFails =>
    intro s t a hc hdue hbound hodd
    exact ⟨_, ledgerCommit_next hc hdue hbound, commitState_fails (s := a.commitNoted) hodd⟩
  case switch =>
    intro s t a hu hrtc hmin hsec hlocal hchange hsync hheld hbound hlast hsub
    refine ⟨_, tariffSwitch_next hu hrtc hsec hlocal hchange hsync hheld hbound hlast hsub, ?_⟩
    rw [addBoundary_none _ hbound]
  case switchNone =>
    intro s t a hu hno
    refine onEvent_next _ rfl hu (if_pos ?_)
    rcases hno with hno | hno
    · rw [hno]
      rfl
    · rw [hno]
      exact Bool.or_true _
  case activate =>
    intro s t c a hu hrtc hpend hzero hdue hlast hsub hbound
    refine ⟨_, calendarActivate_next hu hrtc hpend hzero hdue hlast hsub, ?_⟩
    rw [addBoundary_none _ hbound]
  case boundary =>
    intro s t a hu hkinds hopen hsync hbound
    refine ⟨_, onEvent_next a rfl hu (demandBoundary_adds hkinds hopen hsync), ?_⟩
    rw [addBoundary_none _ hbound]
    rfl
  case boundaryHeld =>
    intro s t a hu hkinds hopen hsync
    refine ⟨_, onEvent_next a rfl hu rfl, ?_⟩
    rw [demandBoundary_holds hkinds hopen hsync]
    exact ⟨rfl, rfl⟩
  case transaction =>
    intro s t z a hu hbound hready
    refine onEvent_next a rfl hu ?_
    rw [hbound]
    exact if_pos hready
  case window =>
    intro s t z a hu hheld hdue hbound
    refine ⟨a.releaseHeld, onEvent_next a rfl hu ?_, ?_⟩
    · rw [hheld]
      exact if_pos hdue
    · rw [releaseHeld_none hheld hbound]
      exact ⟨rfl, rfl⟩
  case idle =>
    intro s t a hu hseal hcal hidle hdue
    have hgo : (a.flag R.LEDGER_STAT_SEAL && a.ledger.cal.isNone && !a.ledger.sealIdle &&
        decide (a.ledger.idleAt + 600 * 10 ^ 9 ≤ a.mtb)) = true := by
      rw [hseal, hcal, hidle, decide_eq_true hdue]
      rfl
    refine ⟨a.idleNoted.tamper tSEAL_IDLE 0, onEvent_next a rfl hu (if_pos hgo), ?_, ?_⟩
    · obtain ⟨i, n, u, r, b, hledger⟩ := tamper_ledger a.idleNoted tSEAL_IDLE 0
      rw [hledger]
      rfl
    · exact tamper_rd_count a.idleNoted (ty := tSEAL_IDLE) 0 (by decide)
  case idleNone =>
    intro s t a hu hno
    refine onEvent_next a rfl hu (if_neg ?_)
    simp only [Bool.and_eq_true, decide_eq_true_eq, Option.isNone_iff_eq_none]
    rintro ⟨⟨⟨hseal, hcal⟩, _⟩, hdue⟩
    rcases hno with hno | hno | hno
    · exact Bool.false_ne_true (hno.symm.trans hseal)
    · exact hno hcal
    · omega
  case unsealed =>
    intro s t a hu hseal
    refine ⟨a.sealChange false, onEvent_next a rfl hu (if_neg (by rw [hseal]; decide)), ?_⟩
    exact sealChange_released a
  case sealed =>
    intro s t a hu hseal
    exact ⟨a.sealChange true, onEvent_next a rfl hu (if_neg (by rw [hseal]; decide)), sealNoted_flag a true, rfl, rfl⟩
  case expiry =>
    intro s t c a hu hcal hdue
    obtain ⟨hnone, hclosed, _, _, _⟩ := calClose_spec c 1 hcal
    refine ⟨a.calClose 1, onEvent_next a rfl hu ?_, hnone, hclosed⟩
    rw [hcal]
    exact if_pos hdue
  case expiryEarly =>
    intro s t c a hu hcal hearly
    refine onEvent_next a rfl hu ?_
    rw [hcal]
    exact if_neg (Nat.not_le.2 hearly)
  case signed =>
    intro s t a hc hall hready
    refine onCore_next a rfl hc ?_
    rw [signOldest_none hall, hostReady_ready hready]
    exact ite_self _
  case sign =>
    intro s t k r a hc hrecs hsig hmode hnode hstale
    exact ⟨_, onCore_next a rfl hc rfl, recordSign_one hrecs hsig hmode hnode hstale⟩

end Sys2Proof.Machine
end

section
/-! SUPPORT. What the end of a session (R85, R87), the meters (R241 to R258) and the steps of Last pour (R284) leave as
it is. -/

namespace Sys2Proof.Machine
namespace State

variable {s₀ s t : State} {n m : Nat}

theorem held_setFlag {F : Fld} {n : Nat} {b : Bool} (hF : offHeld [F.id] = true) (h : Held s₀ s) :
    Held s₀ (s.setFlag F n b) :=
  held_wr hF h

theorem held_addSat {F : Fld} {n k : Nat} (hF : offHeld [F.id] = true) (h : Held s₀ s) : Held s₀ (s.addSat F n k) :=
  held_wr hF h

theorem held_incSat {F : Fld} {n : Nat} (hF : offHeld [F.id] = true) (h : Held s₀ s) : Held s₀ (s.incSat F n) :=
  held_wr hF h

/-! ### Sessions end -/

theorem noteCounts_held (h : Held s₀ s) : Held s₀ (s.noteCounts n) := held_ite (held_upd h) h

theorem ownStatus_held (h : Held s₀ s) : Held s₀ (s.ownStatus n) := held_ite h (held_forEach held_upd h)

theorem plcFollow_held (h : Held s₀ s) : Held s₀ (s.plcFollow n) :=
  have h₁ : Held s₀ (s.modemOn n (s.plcLink n != 0)) :=
    held_setFlag (F := R.AFE_PADC_EN) (by decide) (held_setFlag (F := R.PLC_CFG_EN) (by decide) h)
  held_ite h₁ (held_raise (held_wr (by decide) h₁))

theorem setSess_held {new : SessState} {reason flags : Nat} (h : Held s₀ s) : Held s₀ (s.setSess n new reason flags) := by
  unfold setSess
  extract_lets _ s₁ s₂ s₃
  have h₁ : Held s₀ s₁ := held_upd h
  have h₂ : Held s₀ s₂ := held_ite h₁ (held_wr (by decide) h₁)
  exact plcFollow_held (ownStatus_held (noteCounts_held (held_raise h₂)))

theorem offer_held {p : PilotOut} (h : Held s₀ s) : Held s₀ (s.offer n p) := held_ite h (held_upd h)

theorem leavePause_held (h : Held s₀ s) : Held s₀ (s.leavePause n) := held_ite (noteCounts_held (held_upd h)) h

theorem setJobs_held {js : List CableJob} (h : Held s₀ s) : Held s₀ (s.setJobs js) :=
  held_wr (F := R.TAG_RDR_STAT_QUEUE) (by decide) (held_upd h)

theorem addJob_held {j : CableJob} (h : Held s₀ s) : Held s₀ (s.addJob j) := by
  unfold addJob
  split <;> exact setJobs_held h

theorem shadowGo_held (h : Held s₀ s) : Held s₀ (s.shadowGo n) := by
  unfold shadowGo
  extract_lets was s₁ s₂ _ s₃
  have h₁ : Held s₀ s₁ := addJob_held (held_wr (by decide) h)
  have h₂ : Held s₀ s₂ := held_wr (by decide) (held_wr (by decide) h₁)
  exact held_ite (held_raise (held_upd h₂)) h₁

theorem cableEnd_held {wh : Nat} (h : Held s₀ s) : Held s₀ (s.cableEnd n wh) :=
  held_ite h (shadowGo_held (held_addSat (by decide) (held_incSat (by decide) h)))

theorem pmOff_held (h : Held s₀ s) : Held s₀ (s.pmOff n) := held_ite (held_upd h) h

theorem sessionOver_held {reason : Nat} (h : Held s₀ s) : Held s₀ (s.sessionOver n reason) := by
  unfold sessionOver
  extract_lets s₁ o wh s₂ s₃ s₄ s₅ s₆
  have h₁ : Held s₀ s₁ := leavePause_held h
  have h₂ : Held s₀ s₂ := held_ite (recClose_held h₁) h₁
  have h₄ : Held s₀ s₄ := cableEnd_held (held_raise h₂)
  have h₅ : Held s₀ s₅ := held_forEach_mem (fun _ hF _ hx =>
    held_wr ((by decide : ∀ F ∈ [R.OUT_ALLOC_STAT_ALLOC_W, R.OUT_ALLOC_STAT_ENF_W, R.OUT_ALLOC_STAT_QUEUE_POS,
      R.OUT_STAT_DIR], offHeld [F.id] = true) _ hF) hx) h₄
  exact pmOff_held (held_upd h₅)

theorem endSession_held {reason : Nat} (h : Held s₀ s) : Held s₀ (s.endSession n reason) :=
  offer_held (setSess_held (sessionOver_held h))

theorem startMstop_held {reason : Nat} (h : Held s₀ s) : Held s₀ (s.startMstop n reason) := by
  unfold startMstop
  split
  · exact h
  · have h₁ : Held s₀ (s.startCurrent n).2 := by
      unfold startCurrent
      split
      · exact h
      · exact held_upd h
    exact held_upd h₁

theorem stopSession_held {reason : Nat} (h : Held s₀ s) : Held s₀ (s.stopSession n reason) := by
  unfold stopSession
  extract_lets s₁ s₂
  have h₁ : Held s₀ s₁ := held_upd (leavePause_held h)
  have h₂ : Held s₀ s₂ := setSess_held (startMstop_held h₁)
  exact held_ite h₂ (held_ite h₂ (offer_held h₂))

theorem shutOutlets_held (h : Held s₀ s) : Held s₀ s.shutOutlets := by
  unfold shutOutlets
  refine held_forEach (fun {n s} hx => ?_) h
  split
  · exact stopSession_held hx
  · exact stopSession_held hx
  · exact stopSession_held hx
  · exact hx
  · exact held_ite (endSession_held hx) hx

/-! ### The meters -/

theorem filtOverflow_held {c stages k : Nat} (h : Held s₀ s) : Held s₀ (s.filtOverflow c stages k) := by
  unfold filtOverflow
  extract_lets s₁ s₂ first n at1 _ s₃
  have h₂ : Held s₀ s₂ := held_addSat (by decide) (held_wr (by decide) h)
  exact held_ite (held_raise (held_upd h₂)) (held_upd h₂)

theorem feedChan_held {upTo c : Nat} {f : Feed} (h : Held s₀ s) : Held s₀ (s.feedChan upTo c f) := by
  unfold feedChan
  extract_lets _ _ _ _ _ _ _ _ s₁ s₂
  have h₁ : Held s₀ s₁ := held_upd h
  have h₂ : Held s₀ s₂ := held_ite h₁ (filtOverflow_held h₁)
  exact held_ite h (held_ite h₂ (held_addSat (by decide) h₂))

theorem resampleNext_held {c : Nat} (h : Held s₀ s) : OptHeld s₀ (s.resampleNext c) := by
  unfold resampleNext
  extract_lets _ _ _ _ go
  have hgo : ∀ j i, Held s₀ (go j i) := fun _ _ => held_upd h
  split
  · split
    · exact optHeld_ite (optHeld_some (hgo _ _)) optHeld_none
    · exact optHeld_none
  · refine optHeld_ite optHeld_none (optHeld_ite ?_ (optHeld_some (held_upd (hgo _ _))))
    split
    · exact optHeld_some (held_ite (hgo _ _) (hgo _ _))
    · exact optHeld_none

theorem resample_held {c : Nat} : ∀ {k : Nat} {s : State}, Held s₀ s → Held s₀ (resample c k s)
  | 0, _, h => h
  | k + 1, s, h => by
    unfold resample
    split
    · exact resample_held (resampleNext_held h _ ‹_›)
    · exact h

theorem feedAll_held {upTo : Nat} {feed : List Feed} (h : Held s₀ s) : Held s₀ (s.feedAll upTo feed) :=
  held_forEach (fun hx => held_ite hx (held_ite (feedChan_held hx) (resample_held (feedChan_held hx)))) h

theorem backlog_held {k : Nat} (h : Held s₀ s) : Held s₀ (s.backlog k) := by
  unfold backlog
  extract_lets _ _ _ _ new old p _ s₁ s₂
  have h₁ : Held s₀ s₁ := held_upd h
  have h₂ : Held s₀ s₂ := held_wr (by decide) h₁
  exact held_ite (held_raise h₂) h₂

theorem energyPart_held {start until_ : Nat} {inc : List Nat} (h : Held s₀ s) :
    Held s₀ (s.energyPart m start until_ inc) := by
  unfold energyPart
  extract_lets s₁ _ _ _ s₂ s₃ _ s₄ _ _ s₅ s₆
  have h₂ : Held s₀ s₂ := held_wr (by decide) (held_forEach (held_wr (by decide)) h)
  have h₄ : Held s₀ s₄ := held_upd (touAdd_held h₂)
  have h₅ : Held s₀ s₅ := held_ite (held_wr (by decide) (held_wr (by decide) h₄)) h₄
  have h₆ : Held s₀ s₆ := held_forEach held_upd h₅
  exact held_upd h₆

theorem flowTrack_held {export_ : Bool} {start : Nat} (h : Held s₀ s) : Held s₀ (s.flowTrack m export_ start) :=
  held_ite (held_upd h) (held_ite (held_raise (held_upd h)) (held_upd h))

theorem pulseDue_held {start stop : Nat} {steps : List (Int × Int)} {before : List Nat} (h : Held s₀ s) :
    Held s₀ (s.pulseDue m start stop steps before) :=
  held_forEach (fun hx => backlog_held (held_upd hx)) h

theorem putPart_held {start : Nat} {p : CyclePart} {inc : List Nat} (h : Held s₀ s) :
    Held s₀ (s.putPart m start p inc) :=
  flushPends_held (pulseDue_held (energyPart_held (held_upd h)))

theorem calSeen_held {w : Window} (h : Held s₀ s) : Held s₀ (s.calSeen m w) := by
  unfold calSeen
  split
  · exact held_upd h
  · exact h

theorem windowAdd_held {c : Cycle} {stop : Nat} (h : Held s₀ s) : Held s₀ (s.windowAdd m c stop) := by
  unfold windowAdd
  extract_lets s₁ p done w
  have h₁ : Held s₀ s₁ := held_upd h
  exact held_ite h₁ (calSeen_held (held_upd h₁))

theorem cycleEnergy_held {c : Cycle} {stop : Nat} (h : Held s₀ s) : Held s₀ (s.cycleEnergy m c stop) := by
  unfold cycleEnergy
  extract_lets _ _ _ s₁ _ _ s₂ s₃
  have h₁ : Held s₀ s₁ := held_upd h
  have h₂ : Held s₀ s₂ := by
    refine held_forEach_snd (fun {x p} hp => ?_) h₁
    dsimp only
    exact putPart_held hp
  have h₃ : Held s₀ s₃ := held_ite h₂ (flowTrack_held h₂)
  exact windowAdd_held h₃

theorem waveAdd_held {r : List Int} (h : Held s₀ s) : Held s₀ (s.waveAdd m r) := held_ite h (held_upd (held_upd h))

theorem waveCycle_held {no start stop : Nat} (h : Held s₀ s) : Held s₀ (s.waveCycle m no start stop) :=
  held_ite h (held_forEach waveAdd_held h)

theorem meterNext_held (h : Held s₀ s) : OptHeld s₀ (s.meterNext m) := by
  unfold meterNext
  refine optHeld_ite optHeld_none ?_
  extract_lets _ put
  have hput : ∀ c start stop, Held s₀ (put c start stop) := fun _ _ _ => held_upd (cycleEnergy_held (waveCycle_held h))
  refine optHeld_ite (optHeld_ite optHeld_none (optHeld_some (hput _ _ _))) ?_
  split
  · exact optHeld_ite (optHeld_some (hput _ _ _)) optHeld_none
  · split
    · exact optHeld_ite (optHeld_some (held_upd h)) optHeld_none
    · exact optHeld_none

theorem meterSome_held : ∀ {k : Nat} {s : State}, Held s₀ s → Held s₀ (meterSome m k s)
  | 0, _, h => h
  | k + 1, s, h => by
    unfold meterSome
    split
    · exact meterSome_held (meterNext_held h _ ‹_›)
    · exact h

theorem meterAll_held {upTo : Nat} {feed : List Feed} (h : Held s₀ s) : Held s₀ (s.meterAll upTo feed) :=
  held_forEach meterSome_held (feedAll_held h)

theorem meterStop_held {feed : List Feed} (h : Held s₀ s) : Held s₀ (s.meterStop feed) := by
  unfold meterStop
  extract_lets
  refine held_forEach (fun hx => held_ite (cycleEnergy_held hx) ?_) (meterAll_held h)
  split
  · exact cycleEnergy_held hx
  · exact hx

/-! ### Last pour -/

theorem dispWake_held (h : Held s₀ s) : Held s₀ s.dispWake :=
  held_ite h (held_ite (held_upd h) (held_ite (held_wr (by decide) h) h))

theorem dispTake_held {st : RegSt} {x y w h' mode : Nat} {c : Option Ctx} {cask : Nat} (h : Held s₀ s) :
    Held s₀ (s.dispTake st x y w h' mode c cask) := by
  unfold dispTake
  split
  · exact h
  · exact held_upd (held_upd h)

theorem dispStart_held {x y w h' mode : Nat} {c : Option Ctx} (h : Held s₀ s) :
    Held s₀ (s.dispStart x y w h' mode c) := by
  unfold dispStart
  extract_lets mine s₁
  clear_value mine
  have h₁ : Held s₀ s₁ := by
    unfold s₁
    split
    · exact held_upd h
    · exact dispTake_held h
  exact held_ite h (dispWake_held h₁)

theorem tariffForce_held {mask tariff price at_ : Nat} (h : Held s₀ s) :
    Held s₀ (s.tariffForce mask tariff price at_) := by
  unfold tariffForce
  exact tariffSelect_held h

/-- An action that the end of the supply applies early is one of the meters, the ledger or the display (R284). -/
theorem applyAct_held {k i tApply : Nat} {low : Bool} {a : CaskAct} (hdur : durable a = true) (h : Held s₀ s) :
    Held s₀ (s.applyAct k i tApply low a) := by
  cases a with
  | contactor n close => exact absurd hdur (by cases close <;> exact Bool.false_ne_true)
  | pilotDuty n d => exact absurd hdur Bool.false_ne_true
  | pmSetpoint n m v a w => exact absurd hdur Bool.false_ne_true
  | metOpen m sess => exact metOpen_held h
  | metClose m => exact metClose_held h
  | recOpen n m kind ident price => exact recOpen_held h
  | recClose n _ reason => exact recClose_held h
  | readSigned mask => exact readStart_held h
  | tariff mask tariff price => exact tariffForce_held h
  | dispUpdate x y w h' mode => exact dispStart_held h

theorem applyEarly_held {k : Nat} (h : Held s₀ s) : Held s₀ (s.applyEarly k) := by
  unfold applyEarly
  extract_lets c s₁ s₂
  have h₁ : Held s₀ s₁ := held_upd h
  have h₂ : Held s₀ s₂ := held_upd (held_forEach_mem (fun p hp _ hx =>
    applyAct_held (a := p.1) (List.mem_filter.1 hp).2 hx) h₁)
  exact held_upd h₂

theorem pourCask_held {k : Nat} (h : Held s₀ s) : Held s₀ (s.pourCask k) :=
  held_ite h (held_upd (held_upd (applyEarly_held h)))

theorem pourSteps_held {feed : List Feed} (h : Held s₀ s) : Held s₀ (s.pourSteps feed) := by
  unfold pourSteps writeMark
  extract_lets l s₁ s₂ s₃ s₄ mk _ s₅
  have h₁ : Held s₀ s₁ := releaseHeld_held (meterStop_held h)
  have h₂ : Held s₀ s₂ := by
    unfold s₂
    split
    · exact held_ite (transaction_held h₁) h₁
    · exact h₁
  have h₄ : Held s₀ s₄ := held_forEach flushPends_held (held_forEach pourCask_held h₂)
  have h₅ : Held s₀ s₅ := held_upd (commitState_held h₄)
  exact held_wr (by decide) (held_wr (by decide) h₅)

end State
end Sys2Proof.Machine
end

section
/-! SUPPORT and PROOFS. Rails, temperatures, monitors, clocks and the PWR commands (R293, R315, R493 to R507). -/

namespace Sys2Proof.Machine
namespace State

variable {s t : State} {n : Nat}

/-- A flag just set reads as set. -/
theorem flag_wr_one {F : Fld} (h : trunc F.w 1 ≠ 0) (n : Nat) : (s.wr F n 1).flag F n = true := by
  rw [flag_wr_same]
  exact bne_iff_ne.2 h

theorem flag_wr_zero (F : Fld) (n : Nat) : (s.wr F n 0).flag F n = false := by
  rw [flag_wr_same]
  unfold trunc
  rw [Nat.zero_mod]
  rfl

/-! ### Rails (R493, R504) -/

/-- The voltage of a rail other than VIN and VBAT is shown in its own register. -/
theorem railShow_high (r : Nat) (mv : Int) : s.railShow (r + 2) mv = s.wrInt R.PWR_RAIL_V_10MV (r + 2) (mv / 10) := by
  unfold railShow
  rw [if_neg (Nat.succ_ne_zero _), if_neg (by omega)]

/-- The clock is invalid once it is lost. -/
theorem loseClock_invalid (s : State) : s.loseClock.rtcValid = false := by
  unfold loseClock
  by_cases h : s.rtcValid = true
  · rw [if_neg (by rw [h]; decide)]
    unfold rtcValid
    rw [flag_wr_ne _ _ _ _ _ (by decide)]
    exact flag_wr_zero _ _
  · rw [if_pos (by rw [Bool.eq_false_iff.2 h]; rfl)]
    exact Bool.eq_false_iff.2 h

/-- Where the clock is lost, ledger time is held where it stands. -/
theorem loseClock_held (h : s.rtcValid = true) : s.loseClock.ledger.ledgerHeld = s.ledgerMsAt s.mtb := by
  unfold loseClock
  rw [if_neg (by rw [h]; decide)]
  rfl

/-- The state in which a rail has passed a threshold (R504). -/
def railNoted (s : State) (r : Nat) (ov : Bool) (mv : Int) : State :=
  let s := s.railShow r mv
  let F := if ov then R.PWR_RAIL_OV else R.PWR_RAIL_UV
  ((s.wr F r 1).incSat R.PWR_RAIL_EVENTS r).raise Ev.PWR_RAIL 0 [r, if ov then 2 else 1, s.rd R.PWR_RAIL_V_10MV r]

theorem railFails_new {r : Nat} {ov : Bool} {mv : Int} {feed : List Feed} {whole : Bool} (hr : r + 2 < 14)
    (hbeyond : s.railBeyond (r + 2) ov mv = true)
    (hflag : s.flag (if ov then R.PWR_RAIL_OV else R.PWR_RAIL_UV) (r + 2) = false) :
    s.railFails (r + 2) ov mv feed whole = (s.railNoted (r + 2) ov mv).railAct (r + 2) ov mv feed whole := by
  have hshown : (s.railShow (r + 2) mv).flag (if ov then R.PWR_RAIL_OV else R.PWR_RAIL_UV) (r + 2) = false := by
    rw [railShow_high]
    refine (flag_wr_ne _ _ _ _ _ ?_).trans hflag
    cases ov <;> decide
  unfold railFails
  rw [if_neg (by rw [hbeyond]; simp only [Bool.not_true, Bool.or_false, decide_eq_true_eq]; omega)]
  dsimp only
  rw [if_neg (by rw [hshown]; exact Bool.false_ne_true)]
  rfl

theorem railNoted_told (r : Nat) (ov : Bool) (mv : Int) :
    (s.railNoted r ov mv).told.map (fun z => (z.1, z.2.2.take 2)) = some (Ev.PWR_RAIL, [r, if ov then 2 else 1]) := by
  unfold railNoted
  dsimp only
  rw [raise_told]
  rfl

theorem railNoted_flag (r : Nat) (mv : Int) : (s.railNoted r true mv).flag R.PWR_RAIL_OV r = true := by
  unfold railNoted
  dsimp only
  rw [raise_flag _ _ _ _ _ (by decide), if_pos rfl]
  exact (flag_wr_ne _ _ _ _ _ (by decide)).trans (flag_wr_one (by decide) r)

theorem railNoted_events (r : Nat) (mv : Int) : (s.railNoted (r + 2) true mv).rd R.PWR_RAIL_EVENTS (r + 2) =
    satAdd R.PWR_RAIL_EVENTS.w (s.rd R.PWR_RAIL_EVENTS (r + 2)) 1 := by
  unfold railNoted
  dsimp only
  rw [raise_rd _ _ _ _ _ (by decide), if_pos rfl, rd_incSat_same, rd_wr_ne _ _ _ _ _ (by decide), railShow_high]
  exact congrArg (satAdd _ · 1) (rd_wr_ne _ _ _ _ _ (by decide))

/-- The state in which a rail is back within its limits (R504). -/
def railCleared (s : State) (r : Nat) (mv : Int) : State :=
  ((s.railShow r mv).wr R.PWR_RAIL_UV r 0).wr R.PWR_RAIL_OV r 0

theorem railBack_two {v : Int} (hout : s.railOut 2 = true) (hlow : 10800 ≤ v) (hhigh : v ≤ 68000) :
    s.railBack 2 v = (s.railCleared 2 v).raise Ev.PWR_RAIL 0 [2, 0, (s.railCleared 2 v).rd R.PWR_RAIL_V_10MV 2] := by
  have hin : s.railInner 2 = (10800, 68000) := rfl
  have hmag : railMag 2 v = v := rfl
  unfold railBack
  rw [if_neg, if_neg (by decide), if_neg (by decide)]
  · rfl
  · rw [hout, hin, hmag]
    simp only [Bool.not_true, Bool.or_false, Bool.or_eq_true, decide_eq_true_eq]
    omega

theorem railCleared_flags (r : Nat) (mv : Int) : (s.railCleared r mv).flag R.PWR_RAIL_OV r = false ∧
    (s.railCleared r mv).flag R.PWR_RAIL_UV r = false :=
  ⟨flag_wr_zero _ _, (flag_wr_ne _ _ _ _ _ (by decide)).trans (flag_wr_zero _ _)⟩

/-! ### Temperatures (R505) -/

/-- The state in which the outlets shut. -/
def shutNoted (s : State) : State :=
  { s.wr R.PWR_STAT_SHUT 0 1 with safe := { s.safe with shut := true } }

/-- A sensor's reading is noted, at a level at which the loads are reduced. -/
structure Heated (s r : State) (k code level : Nat) : Prop where
  temp : r.rd R.PWR_TEMP_T k = code
  level : r.rd R.PWR_TEMP_LEVEL k = level
  throttle : r.flag R.PWR_STAT_THROTTLE = true
  shut : r.flag R.PWR_STAT_SHUT = s.flag R.PWR_STAT_SHUT

theorem tempLevel_hot {k : Nat} {c : Int} (hk : k < 5) (hc : 115 ≤ c) : 2 ≤ s.tempLevel k c ∧ s.tempLevel k c ≤ 3 ∧
    (s.tempLevel k c = 3 ↔ 125 ≤ c) := by
  unfold tempLevel
  rw [if_neg (Nat.not_le.2 hk)]
  by_cases h : 125 ≤ c
  · rw [if_pos h]
    exact ⟨by decide, le_refl 3, iff_of_true rfl h⟩
  · rw [if_neg h, if_pos hc]
    exact ⟨le_refl 2, by decide, iff_of_false (by decide) h⟩

/-- While one sensor stands above 110 °C nothing is released. -/
theorem notCool {k : Nat} (hk : k < 5) (h : 160 < s.rd R.PWR_TEMP_T k) :
    ((List.range 9).all fun i => decide (s.rd R.PWR_TEMP_T i ≤ 160)) = false := by
  rw [List.all_eq_false]
  exact ⟨k, List.mem_range.2 (by omega), by simpa using h⟩

theorem tempTaken_hot {k : Nat} {c : Int} (hk : k < 5) (hc : 115 ≤ c) :
    ∃ r, Heated s r k (min 255 (c + 50).toNat) (s.tempLevel k c) ∧
      s.tempTaken k c = if s.tempLevel k c = 3 ∧ r.flag R.PWR_STAT_SHUT = false then r.shutNoted.shutOutlets else r := by
  obtain ⟨hlow, hhigh, _⟩ := tempLevel_hot (s := s) hk hc
  unfold tempTaken
  extract_lets code old new s₁ s₂ s₃ s₄ _ _ _ s₅ s₆
  have htrunc : trunc R.PWR_TEMP_T.w code = code := Nat.mod_eq_of_lt (by
    have : code ≤ 255 := min_le_left _ _
    exact Nat.lt_succ_of_le this)
  have hwidth : trunc R.PWR_TEMP_LEVEL.w new = new := Nat.mod_eq_of_lt (Nat.lt_succ_of_le hhigh)
  have h₁ : s₁.rd R.PWR_TEMP_T k = code ∧ s₁.rd R.PWR_TEMP_LEVEL k = old ∧
      s₁.flag R.PWR_STAT_SHUT = s.flag R.PWR_STAT_SHUT := by
    refine ⟨(rd_wr_ne _ _ _ _ _ (by decide)).trans ((rd_wr_same _ _ _).trans htrunc), ?_, ?_⟩
    · exact (rd_wr_ne _ _ _ _ _ (by decide)).trans (rd_wr_ne _ _ _ _ _ (by decide))
    · exact (flag_wr_ne _ _ _ _ _ (by decide)).trans (flag_wr_ne _ _ _ _ _ (by decide))
  have h₂ : s₂.rd R.PWR_TEMP_T k = code ∧ s₂.rd R.PWR_TEMP_LEVEL k = new ∧
      s₂.flag R.PWR_STAT_SHUT = s.flag R.PWR_STAT_SHUT := by
    obtain ⟨htemp, hlevel, hshut⟩ := h₁
    by_cases hnew : new = old
    · have e : s₂ = s₁ := if_pos hnew
      rw [e]
      exact ⟨htemp, hlevel.trans hnew.symm, hshut⟩
    · have e : s₂ = (s₁.wr R.PWR_TEMP_LEVEL k new).raise Ev.PWR_TEMP 0 [k, new, enc 16 c] := if_neg hnew
      rw [e]
      refine ⟨?_, ?_, ?_⟩
      · exact (raise_rd _ _ _ _ _ (by decide)).trans ((rd_wr_ne _ _ _ _ _ (by decide)).trans htemp)
      · exact (raise_rd _ _ _ _ _ (by decide)).trans ((rd_wr_same _ _ _).trans hwidth)
      · exact (raise_flag _ _ _ _ _ (by decide)).trans
          ((flag_wr_ne _ _ _ _ _ (by decide)).trans hshut)
  have h₃ : s₃.rd R.PWR_TEMP_T k = code ∧ s₃.rd R.PWR_TEMP_LEVEL k = new ∧
      s₃.flag R.PWR_STAT_SHUT = s.flag R.PWR_STAT_SHUT := by
    unfold s₃
    split
    · obtain ⟨htemp, hlevel, hshut⟩ := h₂
      refine ⟨(alert_rd _ _ _ (by decide)).trans htemp, (alert_rd _ _ _ (by decide)).trans hlevel, ?_⟩
      exact (congrArg (· != 0) (alert_rd _ _ _ (by decide))).trans hshut
    · exact h₂
  have h₄ : Heated s s₄ k code new := by
    obtain ⟨htemp, hlevel, hshut⟩ := h₃
    have e : s₄ = s₃.wr R.PWR_STAT_THROTTLE 0 1 := if_pos hlow
    rw [e]
    exact ⟨(rd_wr_ne _ _ _ _ _ (by decide)).trans htemp, (rd_wr_ne _ _ _ _ _ (by decide)).trans hlevel,
      flag_wr_one (by decide) 0, (flag_wr_ne _ _ _ _ _ (by decide)).trans hshut⟩
  have h₅ : s₅ = if new = 3 ∧ s₄.flag R.PWR_STAT_SHUT = false then s₄.shutNoted.shutOutlets else s₄ := by
    unfold s₅
    refine if_congr ?_ rfl rfl
    simp only [Bool.and_eq_true, decide_eq_true_eq, Bool.not_eq_true']
  have hcode : 160 < code := by
    have : 165 ≤ (c + 50).toNat := by omega
    exact lt_min (by decide) (by omega)
  have htemp : s₅.rd R.PWR_TEMP_T k = code := by
    rw [h₅]
    split
    · rw [(shutOutlets_held (.refl _)).fields R.PWR_TEMP_T (by decide)]
      exact (rd_wr_ne R.PWR_STAT_SHUT R.PWR_TEMP_T 0 k 1 (by decide)).trans h₄.temp
    · exact h₄.temp
  have h₆ : s₆ = s₅ := if_neg (by
    rw [decide_eq_false (by omega : ¬ 5 ≤ k)]
    exact Bool.false_ne_true)
  refine ⟨s₄, h₄, ?_⟩
  rw [if_neg (by omega), h₆, notCool hk (by rw [htemp]; exact hcode), Bool.and_false, if_neg Bool.false_ne_true]
  exact h₅

theorem shutOutlets_spared {s₀ : State} (h : Spared s₀ s) : Spared s₀ s.shutOutlets := by
  unfold shutOutlets
  refine spared_forEach (fun {n s} hx => ?_) h
  split
  · exact stopSession_spared hx
  · exact stopSession_spared hx
  · exact stopSession_spared hx
  · exact hx
  · exact spared_ite (endSession_spared hx) hx

/-- An event of a temperature at which the loads are reduced serves no image. -/
theorem tempLevelChange_hot {t k : Nat} {c : Int} (hu : (s.advance t).up = true) (hk : k < 5) (hc : 115 ≤ c) :
    ∃ r, Heated (s.advance t) r k (min 255 (c + 50).toNat) ((s.advance t).tempLevel k c) ∧
      exec (.tempLevelChange t k c) s = .next (if (s.advance t).tempLevel k c = 3 ∧ r.flag R.PWR_STAT_SHUT = false then
        r.shutNoted.shutOutlets else r) := by
  obtain ⟨r, hheat, hr⟩ := tempTaken_hot (s := s.advance t) hk hc
  refine ⟨r, hheat, onEvent_next _ rfl hu ?_⟩
  have hthrottle : ((s.advance t).tempTaken k c).flag R.PWR_STAT_THROTTLE = true := by
    rw [hr]
    split
    · rw [(shutOutlets_held (.refl _)).flag (by decide)]
      exact (flag_wr_ne R.PWR_STAT_SHUT R.PWR_STAT_THROTTLE 0 0 1 (by decide)).trans hheat.throttle
    · exact hheat.throttle
  dsimp only
  rw [hthrottle, if_neg (by simp)]
  exact hr

/-- From 125 °C on the outlets shut, once. -/
theorem tempLevelChange_shuts {t k : Nat} {c : Int} (hu : (s.advance t).up = true) (hk : k < 5) (hc : 125 ≤ c)
    (hopen : (s.advance t).flag R.PWR_STAT_SHUT = false) : ∃ u, exec (.tempLevelChange t k c) s = .next u ∧
      u.flag R.PWR_STAT_SHUT = true ∧ u.safe.shut = true ∧ u.rd R.PWR_TEMP_LEVEL k = 3 := by
  obtain ⟨r, hheat, hr⟩ := tempLevelChange_hot hu hk (by omega : 115 ≤ c)
  have hthree : (s.advance t).tempLevel k c = 3 := (tempLevel_hot hk (by omega)).2.2.2 hc
  have hshut : r.flag R.PWR_STAT_SHUT = false := hheat.shut.trans hopen
  rw [if_pos ⟨hthree, hshut⟩] at hr
  have hheld := shutOutlets_held (.refl r.shutNoted)
  refine ⟨_, hr, ?_, ?_, ?_⟩
  · exact (hheld.flag (by decide) 0).trans (flag_wr_one (F := R.PWR_STAT_SHUT) (by decide) 0)
  · rw [(shutOutlets_spared (.refl r.shutNoted)).safe]
    rfl
  · refine (hheld.fields R.PWR_TEMP_LEVEL (by decide) k).trans ?_
    exact (rd_wr_ne R.PWR_STAT_SHUT R.PWR_TEMP_LEVEL 0 k 1 (by decide)).trans (hheat.level.trans hthree)

/-! ### The end of XTAL25 (R136, R496) -/

/-- A cut of the displays leaves the time base and the ledger. -/
theorem dispCut_away (stop : Option Nat) : ((s.dispCut stop).mtb, (s.dispCut stop).ledger) = (s.mtb, s.ledger) := by
  unfold dispCut
  extract_lets s₁ s₂
  have h₁ : (s₁.mtb, s₁.ledger) = (s.mtb, s.ledger) := by
    refine forEach_keeps (fun s => (s.mtb, s.ledger)) (fun r s => ?_) _
    unfold cutRegion
    extract_lets _ _ _ s₂
    have h₂ : (s₂.mtb, s₂.ledger) = (s.mtb, s.ledger) := by
      unfold s₂
      split <;> rfl
    exact h₂
  exact h₁

/-- So does the end of the power of the outputs. -/
theorem powerOff_away : (s.powerOff.mtb, s.powerOff.ledger) = (s.mtb, s.ledger) := by
  unfold powerOff outputsOff
  extract_lets _ s₁ s₂
  have h₂ : (s₂.mtb, s₂.ledger) = (s₁.mtb, s₁.ledger) :=
    forEach_keeps (f := fun n s => s.turnOff n 0) (fun s => (s.mtb, s.ledger)) (fun _ _ => rfl) _
  have h₁ : (s₁.mtb, s₁.ledger) = (s.mtb, s.ledger) := by
    refine forEach_keeps (fun s => (s.mtb, s.ledger)) (fun n s => ?_) _
    rfl
  exact h₂.trans h₁

theorem softRestart_spec (s : State) (cause : Nat) : (s.softRestart cause).phase = .vinValid ∧
    (s.softRestart cause).pwr.restart = some cause ∧ (s.softRestart cause).safe.coils = .empty ∧
    (s.softRestart cause).mtb = s.mtb ∧ (s.softRestart cause).ledger = s.ledger := by
  have h : ((s.softRestart cause).mtb, (s.softRestart cause).ledger) = (s.mtb, s.ledger) :=
    powerOff_away.trans (dispCut_away none)
  obtain ⟨hmtb, hledger⟩ := Prod.mk.inj h
  exact ⟨rfl, rfl, rfl, hmtb, hledger⟩

/-- The steps of Last pour end with a marker of the instant at which they began (R284). -/
theorem pourSteps_mark (feed : List Feed) : (s.pourSteps feed).ledger.mark.map (·.l) = some s.mtb := rfl

/-- The restart after a failure ends the steps of Last pour with their marker (R496). -/
theorem failRestart_spec (cause : Nat) (feed : List Feed) : (s.failRestart cause feed true).phase = .vinValid ∧
    (s.failRestart cause feed true).mtb = s.mtb ∧ (s.failRestart cause feed true).pwr.restart = some cause ∧
    (s.failRestart cause feed true).safe.coils = .empty ∧
    (s.failRestart cause feed true).ledger.mark.map (·.l) = some s.mtb := by
  have hpour := (pourSteps_held (feed := feed) (.refl s)).mtb
  have hmark := pourSteps_mark (s := s) feed
  unfold failRestart
  rw [if_pos rfl]
  generalize s.pourSteps feed = p at hpour hmark ⊢
  extract_lets l s₁ _ s₂ _ s₃
  obtain ⟨hphase, hrestart, hcoils, hmtb, hledger⟩ := softRestart_spec s₃ cause
  refine ⟨hphase, hmtb.trans hpour, hrestart, hcoils, ?_⟩
  rw [hledger]
  exact hmark

theorem moduleTrip_mtb (code chan since : Nat) : (s.moduleTrip code chan since).mtb = s.mtb := by
  by_cases h : bit s.safe.modActive code = true
  · unfold moduleTrip
    rw [if_pos h]
  · exact (moduleTrip_spared chan since (Bool.eq_false_iff.2 h)).mtb

/-! ### METER (R501, R502) -/

theorem islandStop_rd {i : Nat} {G : Fld} {m : Nat} (hG : G.id ∉ [R.GLOBAL_ISLAND_STAT_READY.id,
    R.GLOBAL_ISLAND_STAT_CLK_OK.id, R.GLOBAL_ISLAND_STAT_ASLEEP.id]) : (s.islandStop i).rd G m = s.rd G m := by
  simp only [List.mem_cons, List.not_mem_nil, or_false, not_or] at hG
  obtain ⟨hready, hclk, hasleep⟩ := hG
  unfold islandStop
  rw [rd_wr_ne _ _ _ _ _ hasleep, rd_wr_ne _ _ _ _ _ hclk, rd_wr_ne _ _ _ _ _ hready]

theorem islandStop_ready (i j : Nat) : (s.islandStop i).flag R.GLOBAL_ISLAND_STAT_READY j =
    if j = i then false else s.flag R.GLOBAL_ISLAND_STAT_READY j := by
  unfold islandStop
  rw [flag_wr_ne _ _ _ _ _ (by decide), flag_wr_ne _ _ _ _ _ (by decide)]
  split
  next h =>
    rw [h]
    exact flag_wr_zero _ _
  next h => exact congrArg (· != 0) (rd_wr_other _ _ _ _ _ (.inr h))

end State
end Sys2Proof.Machine
end

section
/-! PROOFS. Rails, temperatures, monitors, clocks and the PWR commands (R293, R315, R493 to R507). -/

namespace Sys2Proof.Machine
namespace State

variable {s : State} {t n : Nat} {x : Ctx}

/-! ### Rails (R504) -/

/-- An event of the core domain comes while VIN is there. -/
theorem core_phase (h : s.core = true) : ¬ ((s.phase == .noVin || s.phase == .stopped) = true) := by
  unfold core at h
  intro hno
  rcases Bool.or_eq_true_iff.1 hno with hno | hno <;> rw [eq_of_beq hno] at h <;> exact Bool.false_ne_true h

theorem railOut_next {r i : Nat} {ov w : Bool} {v : Int} {f : List Feed} {u : State} (hc : (s.advance t).core = true)
    (hi : 10 ≤ i) (h : (s.advance t).railFails r ov v f w = u) : exec (.railOutOfLimits t r ov v i f w) s = .next u := by
  show execRailOutOfLimits t r ov v i f w s = _
  unfold execRailOutOfLimits
  rw [if_neg (Nat.not_lt.2 hi), if_neg (by rw [← advance_phase (s := s) t]; exact core_phase hc)]
  exact onCore_next _ rfl hc h

theorem railRestored_next {r i : Nat} {v : Int} {u : State} (hc : (s.advance t).core = true) (hi : 1000 ≤ i)
    (h : (s.advance t).railBack r v = u) : exec (.railRestored t r v i) s = .next u := by
  show execRailRestored t r v i s = _
  unfold execRailRestored
  rw [if_neg (Nat.not_lt.2 hi)]
  exact onCore_next _ rfl hc h

/-! ### Process monitors and tamper inputs (R315, R495, R506) -/

/-- The state in which the sample of one island is noted. -/
def procNoted (s : State) (p : Nat) : State :=
  ({ s with pwr := { s.pwr with procAt := s.mtb } } : State).wr R.GLOBAL_ISLAND_STAT_PROC_MON 0 p

theorem procMonSample_one {p : Nat} (hu : (s.advance t).up = true)
    (hdue : (s.advance t).pwr.procAt + 10 ^ 9 ≤ (s.advance t).mtb) :
    exec (.procMonSample t [p]) s = .next (
      if (p < 96 || 176 < p) && !bit (s.advance t).pwr.proc 0 then
        ({ (s.advance t).procNoted p with pwr := { ((s.advance t).procNoted p).pwr with
          proc := setBit (s.advance t).pwr.proc 0 } } : State).raise Ev.PWR_PROC 0 [0, p]
      else (s.advance t).procNoted p) := by
  refine onEvent_next _ rfl hu ?_
  dsimp only
  rw [if_neg (Nat.not_lt.2 hdue)]
  rfl

/-- The state in which a tamper input has become active and was told (R495). -/
def tamperShown (s : State) (n : Nat) : State :=
  (s.setFlag R.PWR_TAMPER_ACTIVE n true).raise Ev.PWR_TAMPER 0 [n, 1]

theorem tamperInput_open {i : Nat} (hn : n < 4) (hen : s.flag R.PWR_TAMPER_EN n = true)
    (hoff : s.flag R.PWR_TAMPER_ACTIVE n = false) (hi : s.rd R.PWR_TAMPER_FILT n ≤ i) :
    ¬ ((decide (4 ≤ n) || !s.flag R.PWR_TAMPER_EN n ||
      s.flag R.PWR_TAMPER_ACTIVE n == (s.flag R.PWR_TAMPER_POL n == s.flag R.PWR_TAMPER_POL n) ||
      decide (i < s.rd R.PWR_TAMPER_FILT n)) = true) := by
  rw [beq_self_eq_true, hen, hoff, decide_eq_false (Nat.not_le.2 hn), decide_eq_false (Nat.not_lt.2 hi)]
  exact Bool.false_ne_true

theorem tamperInput_activates {i : Nat} (hn : n < 4) (hcore : s.core = true) (hen : s.flag R.PWR_TAMPER_EN n = true)
    (hoff : s.flag R.PWR_TAMPER_ACTIVE n = false) (hi : s.rd R.PWR_TAMPER_FILT n ≤ i) :
    exec (.tamperInput t n (s.flag R.PWR_TAMPER_POL n) i) s =
      .next (((s.advance t).tamperShown n).tamper (n + 1) 0) := by
  show execTamperInput t n _ i s = _
  unfold execTamperInput
  dsimp only
  rw [if_neg (tamperInput_open hn hen hoff hi), if_pos hcore, beq_self_eq_true, if_pos rfl]
  rfl

/-- While the module does not run, an activation is only counted (R495). -/
theorem tamperInput_counts {i : Nat} (hn : n < 4) (hcore : s.core = false) (hen : s.flag R.PWR_TAMPER_EN n = true)
    (hoff : s.flag R.PWR_TAMPER_ACTIVE n = false) (hi : s.rd R.PWR_TAMPER_FILT n ≤ i) :
    exec (.tamperInput t n (s.flag R.PWR_TAMPER_POL n) i) s =
      .next ((s.setFlag R.PWR_TAMPER_ACTIVE n true).incSat R.PWR_TAMPER_VBAT_COUNT n) := by
  show execTamperInput t n _ i s = _
  unfold execTamperInput
  dsimp only
  rw [if_neg (tamperInput_open hn hen hoff hi), if_neg (by rw [hcore]; decide), beq_self_eq_true, if_pos rfl]

/-! ### Clocks (R293, R496, R497) -/

/-- The state in which XTAL32 has failed. -/
def xtal32Lost (s : State) : State :=
  ((s.wr R.PWR_CLK_XTAL32_OK 0 0).wr R.PWR_CLK_RTC_FALLBACK 0 1).incSat R.PWR_CLK_XTAL32_FAILS 0

/-- The state in which XTAL49 has failed. -/
def xtal49Lost (s : State) : State :=
  let s := ((s.wr R.PWR_CLK_XTAL49_OK 0 0).wr R.PWR_STAT_MTB_HOLDOVER 0 1).incSat R.PWR_CLK_XTAL49_FAILS 0
  ({ s with pwr := { s.pwr with xtalAt := s.mtb } } : State).raise Ev.PWR_CLOCK 0 [1, 1]

theorem xtal32Fail_next (hc : (s.advance t).core = true) (hok : (s.advance t).flag R.PWR_CLK_XTAL32_OK = true) :
    exec (.xtal32Fail t) s = .next ((s.advance t).xtal32Lost.raise Ev.PWR_CLOCK 0 [0, 1]) := by
  have hphase : (s.advance t).phase = s.phase := advance_phase t
  show execXtal32Fail t s = _
  unfold execXtal32Fail
  rw [if_neg (by rw [← hphase]; exact core_phase hc)]
  refine onCore_next _ rfl hc ?_
  rw [hok]
  rfl

theorem xtal32Fail_off (hphase : s.phase = .noVin ∨ s.phase = .stopped) :
    exec (.xtal32Fail t) s = .next s.loseClock := by
  show execXtal32Fail t s = _
  unfold execXtal32Fail
  rw [if_pos]
  rcases hphase with h | h <;> rw [h] <;> rfl

/-- The state in which channel A has stopped with XTAL25 (R136). -/
def xtal25Lost (s : State) : State :=
  let s := (s.wr R.PWR_CLK_XTAL25_OK 0 0).raise Ev.PWR_CLOCK 0 [2, 1]
  (s.setFlag R.SAFE_STATUS_B_RUN 0 false).moduleTrip fA_LOST 1 s.safe.aliveAt

theorem xtal25Fail_next {feed : List Feed} (hc : (s.advance t).core = true) :
    exec (.xtal25Fail t feed) s = .next ((s.advance t).xtal25Lost.failRestart 3 feed true) := by
  show execXtal25Fail t feed s = _
  unfold execXtal25Fail
  refine onCore_next _ rfl hc ?_
  dsimp only
  unfold xtal25Lost
  rfl

theorem xtal25Lost_mtb (s : State) : s.xtal25Lost.mtb = s.mtb :=
  (moduleTrip_mtb _ _ _).trans (raise_mtb ..)

/-! ### METER and the PWR commands (R501, R502, R507) -/

/-- Leaving METER ends it, from either mode. -/
theorem wakeRun_mode (cause : Nat) (h : s.rd R.PWR_STAT_MODE ≤ 1) : (s.wakeRun cause).rd R.PWR_STAT_MODE = 0 := by
  unfold wakeRun
  by_cases hmode : s.rd R.PWR_STAT_MODE = 1
  · rw [if_pos hmode, raise_rd _ _ _ _ _ (by decide), rd_wr_same]
    rfl
  · rw [if_neg hmode]
    omega

theorem wakeRun_destroys (s : State) (cause : Nat) : (s.wakeRun cause).host.destroys = s.host.destroys := by
  unfold wakeRun
  split
  · exact raise_destroys _ _ _
  · rfl

theorem plcFollowAll_rd {G : Fld} (m : Nat) (h : G.id ∉ linkIds) : s.plcFollowAll.rd G m = s.rd G m :=
  forEach_keeps (fun s => s.rd G m) (fun n _ => plcFollow_rd n G m h) _

theorem plcFollowAll_destroys : s.plcFollowAll.host.destroys = s.host.destroys := by
  unfold plcFollowAll
  exact forEach_keeps (fun s : State => s.host.destroys) (fun n _ => plcFollow_destroys n) _

/-- What METER shows: its mode, and the islands MODEM-A and MODEM-B stopped. -/
def InMeter (s : State) : Prop :=
  s.rd R.PWR_STAT_MODE = 1 ∧ s.flag R.GLOBAL_ISLAND_STAT_READY 6 = false ∧ s.flag R.GLOBAL_ISLAND_STAT_READY 7 = false

theorem InMeter.islandStop {i : Nat} (h : InMeter s) : InMeter (s.islandStop i) := by
  obtain ⟨hmode, h6, h7⟩ := h
  refine ⟨(islandStop_rd (by decide)).trans hmode, ?_, ?_⟩
  · rw [islandStop_ready, h6, ite_self]
  · rw [islandStop_ready, h7, ite_self]

theorem InMeter.loud {ids : List Nat} {u : State} (h : InMeter s) (hq : Loud ids s u) (hmode : R.PWR_STAT_MODE.id ∉ ids)
    (hready : R.GLOBAL_ISLAND_STAT_READY.id ∉ ids) : InMeter u :=
  ⟨(hq.regs _ _ hmode).trans h.1, (congrArg (· != 0) (hq.regs _ _ hready)).trans h.2.1,
    (congrArg (· != 0) (hq.regs _ _ hready)).trans h.2.2⟩

theorem enterMeter_spec (s : State) : InMeter s.enterMeter ∧ s.enterMeter.host.destroys = s.host.destroys := by
  unfold enterMeter
  extract_lets s₁ s₂
  have h₁ : s₁.flag R.GLOBAL_ISLAND_STAT_READY 6 = false ∧ s₁.flag R.GLOBAL_ISLAND_STAT_READY 7 = false :=
    ⟨by unfold s₁; rw [islandStop_ready, islandStop_ready]; rfl, by unfold s₁; rw [islandStop_ready]; rfl⟩
  have h₂ : (s₂.flag R.GLOBAL_ISLAND_STAT_READY 6 = false ∧ s₂.flag R.GLOBAL_ISLAND_STAT_READY 7 = false) ∧
      s₂.host.destroys = s.host.destroys := by
    unfold s₂
    split
    · exact ⟨h₁, rfl⟩
    · obtain ⟨h6, h7⟩ := h₁
      exact ⟨⟨by rw [islandStop_ready, h6, ite_self], by rw [islandStop_ready, h7, ite_self]⟩, rfl⟩
  obtain ⟨⟨h6, h7⟩, hdestroys⟩ := h₂
  have h₃ : InMeter (s₂.wr R.PWR_STAT_MODE 0 1) := by
    refine ⟨rd_wr_same _ _ _, ?_, ?_⟩
    · rw [flag_wr_ne _ _ _ _ _ (by decide), h6]
    · rw [flag_wr_ne _ _ _ _ _ (by decide), h7]
  have h₄ : InMeter (s₂.wr R.PWR_STAT_MODE 0 1).meterDisp ∧
      (s₂.wr R.PWR_STAT_MODE 0 1).meterDisp.host.destroys = s.host.destroys := by
    unfold meterDisp
    split
    · exact ⟨h₃.islandStop, hdestroys⟩
    · exact ⟨h₃, hdestroys⟩
  exact ⟨h₄.1.loud (raise_spec _ _ _).1.loud (by decide) (by decide), (raise_destroys _ _ _).trans h₄.2⟩

/-- The images that PWR_IDENT gives. -/
def identBytes (s : State) : List Nat :=
  (List.range 4).flatMap (fun d => leBytes 16 (s.pack [R.PWR_DIE_ID_LOT, R.PWR_DIE_ID_WAFER, R.PWR_DIE_ID_X,
    R.PWR_DIE_ID_Y] d)) ++ leBytes 16 (s.pack [R.PWR_MODULE_ID_SERIAL, R.PWR_MODULE_ID_ASSY_LOT])

theorem identBytes_spec (s : State) : s.identBytes.length = 80 ∧
    s.identBytes.drop 64 = leBytes 16 (s.pack [R.PWR_MODULE_ID_SERIAL, R.PWR_MODULE_ID_ASSY_LOT]) := by
  have hdies : ∀ f : Nat → Nat, ((List.range 4).flatMap fun d => leBytes 16 (f d)).length = 64 := fun f => by
    simp [List.length_flatMap, leBytes_length]
  unfold identBytes
  refine ⟨?_, ?_⟩
  · rw [List.length_append, hdies, leBytes_length]
  · exact List.drop_left' (hdies _)

theorem pwrIdent_next (h : (s.advance x.t).takes x Op.PWR_IDENT 0 = true) : exec (.pwrIdent x) s = .next
    ((((s.advance x.t).start x).giveBuffer ((s.advance x.t).start x).identBytes).complete x St.OK) := by
  show execPwrIdent x s = _
  unfold execPwrIdent
  refine command_completes h ?_ (giveBuffer_destroys _)
  rfl

theorem pwrMode_runs (h : (s.advance x.t).takes x Op.PWR_MODE 0 = true) : exec (.pwrMode x 0) s = .next
    ((((s.advance x.t).start x).wakeRun 0).plcFollowAll.complete x St.OK) := by
  show execPwrMode x 0 s = _
  unfold execPwrMode
  refine command_completes h ?_ (plcFollowAll_destroys.trans (wakeRun_destroys _ 0))
  rw [if_neg (by decide), if_pos rfl]

end State

open State in
/-- Settles O54: an event that is due answers with its own function's state; what a shut-down of the outlets and the
steps of Last pour leave is `State.Held`. -/
theorem monitorsClocksAndPower : Obligations.MonitorsClocksAndPower := by
  unfold Obligations.MonitorsClocksAndPower
  refine ⟨?railOver, ?railClock, ?railNone, ?railShort, ?railBack, ?railIn, ?railBackShort, ?tempThrottle, ?tempShut,
    ?tempNone, ?proc, ?procIn, ?tamper, ?tamperOff, ?tamperNone, ?xtal32, ?xtal32Off, ?xtal32Return, ?xtal49,
    ?xtal49Return, ?xtal25, ?refclk, ?refclkOk, ?wake, ?wakeNone, ?query, ?meter, ?meterBusy, ?run, ?modeBad, ?ident⟩
  case railOver =>
    intro s t v i f w a hc hi hv hv' hflag
    have hnew := railFails_new (s := a) (r := 0) (ov := true) (mv := v) (feed := f) (whole := w) (by decide)
      (decide_eq_true hv) hflag
    refine ⟨a.railNoted 2 true v, railOut_next hc hi hnew, railNoted_flag 2 v, railNoted_events 0 v,
      railNoted_told 2 true v⟩
  case railClock =>
    intro s t v i f w a hc hi hv hflag
    have hnew := railFails_new (s := a) (r := 11) (ov := false) (mv := v) (feed := f) (whole := w) (by decide)
      (decide_eq_true hv) hflag
    exact ⟨_, railOut_next hc hi hnew, loseClock_invalid _⟩
  case railNone =>
    intro s t v i f w r a hc hi hr
    refine railOut_next hc hi (if_pos ?_)
    rw [decide_eq_true hr]
    rfl
  case railShort => exact fun s t v i f w r o hi => congrArg Host.Outcome.next (if_pos hi)
  case railBack =>
    intro s t v i a hc hi hout hlow hhigh
    obtain ⟨hov, huv⟩ := railCleared_flags (s := a) 2 v
    refine ⟨_, railRestored_next hc hi (railBack_two hout hlow hhigh), ?_, ?_, ?_⟩
    · exact (raise_flag _ _ _ _ _ (by decide)).trans hov
    · exact (raise_flag _ _ _ _ _ (by decide)).trans huv
    · rw [raise_told]
      rfl
  case railIn =>
    intro s t r v i a hc hi hr hout
    refine railRestored_next hc hi (if_pos ?_)
    rw [hout]
    simp
  case railBackShort => exact fun s t r v i hi => congrArg Host.Outcome.next (if_pos hi)
  case tempThrottle =>
    intro s t n q a hu hn hlevel hlow hhigh
    obtain ⟨r, hheat, hr⟩ := tempLevelChange_hot hu hn hlow
    obtain ⟨hge, hle, hthree⟩ := tempLevel_hot (s := a) hn hlow
    have htwo : a.tempLevel n q = 2 := by
      have : a.tempLevel n q ≠ 3 := fun h => absurd (hthree.1 h) (by omega)
      omega
    rw [if_neg (fun h => absurd (h.1.symm.trans htwo) (by decide))] at hr
    refine ⟨r, hr, hheat.throttle, hheat.level.trans htwo, hheat.temp.trans ?_⟩
    omega
  case tempShut => exact fun s t n q hu hn hq hopen => tempLevelChange_shuts hu hn hq hopen
  case tempNone =>
    intro s t n q a hu hn
    refine onEvent_next a rfl hu ?_
    have hsame : a.tempTaken n q = a := if_pos hn
    dsimp only
    rw [hsame, Bool.and_not_self]
    rfl
  case proc =>
    intro s t p a hu hdue hp hbit
    have hgo : ((decide (p < 96) || decide (176 < p)) && !bit a.pwr.proc 0) = true := by
      rw [decide_eq_true hp, hbit]
      rfl
    refine ⟨_, (procMonSample_one hu hdue).trans (congrArg _ (if_pos hgo)), ?_, ?_, ?_, raise_told _ _ _⟩
    · rw [raise_pwr]
      rfl
    · rw [raise_rd _ _ _ _ _ (by decide)]
      refine (rd_wr_same R.GLOBAL_ISLAND_STAT_PROC_MON 0 p).trans (Nat.mod_eq_of_lt ?_)
      exact Nat.lt_of_lt_of_le hp (by decide)
    · rw [raise_pwr]
      exact bit_setBit_same _ _
  case procIn =>
    intro s t p a hu hdue hlow hhigh
    refine (procMonSample_one hu hdue).trans (congrArg _ (if_neg ?_))
    rw [decide_eq_false (Nat.not_lt.2 hlow), decide_eq_false (Nat.not_lt.2 hhigh)]
    exact Bool.false_ne_true
  case tamper =>
    intro s t n i a hn hcore hen hoff hi
    refine ⟨_, tamperInput_activates hn hcore hen hoff hi, ?_, ?_⟩
    · rw [tamper_flag _ _ _ (by decide)]
      exact (raise_flag _ _ _ _ _ (by decide)).trans (flag_wr_one (by decide) n)
    · refine (tamper_rd_count (a.tamperShown n) (ty := n + 1) 0 (by omega)).trans (congrArg (satAdd _ · 1) ?_)
      exact (raise_rd _ _ _ _ _ (by decide)).trans (rd_wr_ne _ _ _ _ _ (by decide))
  case tamperOff =>
    intro s t n i hn hcore hen hoff hi
    refine ⟨_, tamperInput_counts hn hcore hen hoff hi, ?_, ?_⟩
    · exact (flag_wr_ne _ _ _ _ _ (by decide)).trans (flag_wr_one (by decide) n)
    · exact (rd_incSat_same _ _).trans (congrArg (satAdd _ · 1) (rd_wr_ne _ _ _ _ _ (by decide)))
  case tamperNone =>
    intro s t n i o hno
    refine congrArg Host.Outcome.next (if_pos ?_)
    rcases hno with hno | hno | hno
    · rw [decide_eq_true hno]
      rfl
    · rw [hno]
      simp
    · rw [decide_eq_true hno]
      exact Bool.or_true _
  case xtal32 =>
    intro s t a hc hok
    refine ⟨_, xtal32Fail_next hc hok, ?_, ?_, ?_, raise_told _ _ _⟩
    · refine (raise_flag _ _ _ _ _ (by decide)).trans ((flag_wr_ne _ _ _ _ _ (by decide)).trans ?_)
      exact (flag_wr_ne _ _ _ _ _ (by decide)).trans (flag_wr_zero _ _)
    · refine (raise_flag _ _ _ _ _ (by decide)).trans ((flag_wr_ne _ _ _ _ _ (by decide)).trans ?_)
      exact flag_wr_one (by decide) 0
    · refine (raise_flag _ _ _ _ _ (by decide)).trans ((flag_wr_ne _ _ _ _ _ (by decide)).trans ?_)
      exact (flag_wr_ne _ _ _ _ _ (by decide)).trans (flag_wr_ne _ _ _ _ _ (by decide))
  case xtal32Off => exact fun s t hphase hrtc => ⟨_, xtal32Fail_off hphase, loseClock_invalid s, loseClock_held hrtc⟩
  case xtal32Return =>
    intro s t a hc hok
    refine ⟨((a.wr R.PWR_CLK_XTAL32_OK 0 1).wr R.PWR_CLK_RTC_FALLBACK 0 0).raise Ev.PWR_CLOCK 0 [0, 0],
      onCore_next a rfl hc (if_neg (by rw [hok]; decide)), ?_, ?_, raise_told _ _ _⟩
    · refine (raise_flag _ _ _ _ _ (by decide)).trans ((flag_wr_ne _ _ _ _ _ (by decide)).trans ?_)
      exact flag_wr_one (by decide) 0
    · exact (raise_flag _ _ _ _ _ (by decide)).trans (flag_wr_zero _ _)
  case xtal49 =>
    intro s t a hc hok
    refine ⟨a.xtal49Lost.tamper tHOLDOVER 0, onCore_next a rfl hc (if_neg (by rw [hok]; decide)), ?_, ?_, ?_, ?_⟩
    · rw [tamper_flag _ _ _ (by decide)]
      refine (raise_flag _ _ _ _ _ (by decide)).trans ((flag_wr_ne _ _ _ _ _ (by decide)).trans ?_)
      exact flag_wr_one (by decide) 0
    · rw [tamper_flag _ _ _ (by decide)]
      refine (raise_flag _ _ _ _ _ (by decide)).trans ((flag_wr_ne _ _ _ _ _ (by decide)).trans ?_)
      exact (flag_wr_ne _ _ _ _ _ (by decide)).trans (flag_wr_zero _ _)
    · exact (tamper_mtb _ _ _).trans (raise_mtb ..)
    · refine (tamper_rd_count a.xtal49Lost (ty := tHOLDOVER) 0 (by decide)).trans (congrArg (satAdd _ · 1) ?_)
      refine (raise_rd _ _ _ _ _ (by decide)).trans ((rd_wr_ne _ _ _ _ _ (by decide)).trans ?_)
      exact (rd_wr_ne _ _ _ _ _ (by decide)).trans (rd_wr_ne _ _ _ _ _ (by decide))
  case xtal49Return =>
    intro s t a hc hhold hdue
    have hgo : ¬ ((!a.flag R.PWR_STAT_MTB_HOLDOVER || decide (a.mtb < a.pwr.xtalAt + 10 ^ 9)) = true) := by
      rw [hhold, decide_eq_false (Nat.not_lt.2 hdue)]
      exact Bool.false_ne_true
    refine ⟨((a.wr R.PWR_CLK_XTAL49_OK 0 1).wr R.PWR_STAT_MTB_HOLDOVER 0 0).raise Ev.PWR_CLOCK 0 [1, 0],
      onCore_next a rfl hc (if_neg hgo), ?_, ?_, raise_mtb _ _ _, raise_told _ _ _⟩
    · exact (raise_flag _ _ _ _ _ (by decide)).trans (flag_wr_zero _ _)
    · refine (raise_flag _ _ _ _ _ (by decide)).trans ((flag_wr_ne _ _ _ _ _ (by decide)).trans ?_)
      exact flag_wr_one (by decide) 0
  case xtal25 =>
    intro s t a hc
    obtain ⟨hphase, hmtb, hrestart, hcoils, hmark⟩ := failRestart_spec (s := (s.advance t).xtal25Lost) 3 []
    rw [xtal25Lost_mtb] at hmtb hmark
    refine ⟨_, xtal25Fail_next hc, hphase, hmtb, hrestart, hcoils, ?_⟩
    exact hmark
  case refclk =>
    intro s t a hu hok
    refine ⟨(a.wr R.PWR_CLK_REFCLK_OK 0 1).raise Ev.PWR_CLOCK 0 [3, 0],
      onEvent_next a rfl hu (if_neg (by rw [hok]; decide)), ?_, raise_told _ _ _⟩
    exact (raise_flag _ _ _ _ _ (by decide)).trans (flag_wr_one (by decide) 0)
  case refclkOk => exact fun s t hu hok => onEvent_next _ rfl hu (if_pos hok)
  case wake =>
    intro s t n a hu hwake hmode
    refine ⟨(a.wakeRun n).plcFollowAll, onEvent_next a rfl hu (if_pos hwake), ?_⟩
    exact (plcFollowAll_rd 0 (by decide)).trans (wakeRun_mode n hmode.le)
  case wakeNone => exact fun s t n hu hwake => onEvent_next _ rfl hu (if_neg (by rw [hwake]; decide))
  case query => exact fun s x ht => command_completes ht rfl rfl
  case meter =>
    intro s x b a ht hmode hmay
    obtain ⟨hmeter, hdestroys⟩ := enterMeter_spec a
    refine ⟨a.enterMeter.complete x St.OK, command_completes ht ?_ hdestroys, complete_answer_of _ (by decide),
      hmeter.loud (complete_spec x _ _).1 (by decide) (by decide)⟩
    rw [if_neg (by decide), if_neg (by decide), if_neg (by rw [hmode]; decide), if_neg (by rw [hmay]; decide)]
  case meterBusy =>
    intro s x b a ht hmode hmay
    refine command_completes ht ?_ rfl
    rw [if_neg (by decide), if_neg (by decide), if_neg (by rw [hmode]; decide), if_pos (by rw [hmay]; rfl)]
  case run =>
    intro s x b a ht hmode
    refine ⟨_, pwrMode_runs ht, complete_answer_of _ (by decide), ?_⟩
    exact (complete_rd _ _ _ _ _ (by decide)).trans ((plcFollowAll_rd 0 (by decide)).trans (wakeRun_mode 0 hmode))
  case modeBad => exact fun s x m ht hm => command_completes ht (if_pos hm) rfl
  case ident =>
    intro s x b a ht
    obtain ⟨hlen, hdrop⟩ := identBytes_spec a
    refine ⟨_, pwrIdent_next ht, complete_answer_of _ (by decide), fun hatt => ?_⟩
    rw [giveBuffer_complete_dma _ _ _ hatt]
    exact ⟨hlen, hdrop⟩

end Sys2Proof.Machine
end

section
/-! SUPPORT. The Trellis node (R334, R339, R340, R343 to R346): what hearing a frame, the outcome of a transmission and
the choice of routes leave as it is, and which frames reach this node's own function. -/

namespace Sys2Proof.Machine
namespace State

variable {s t : State} {n k : Nat}

/-- A loop whose rounds are quiet is quiet. -/
theorem quiet_forEach {α : Type} {ids : List Nat} {f : α → State → State} (hf : ∀ x s, Quiet ids s (f x s))
    (xs : List α) (s : State) : Quiet ids s (forEach xs f s) := by
  unfold forEach
  induction xs generalizing s with
  | nil => exact (Quiet.refl s).mono (fun _ h => absurd h List.not_mem_nil)
  | cons x xs ih => exact ((hf x s).trans (ih (f x s))).mono (fun _ h => (List.mem_append.1 h).elim id id)

theorem Quiet.within {a b : List Nat} {u : State} (h : Quiet a s t) (k : Quiet b t u) (hb : ∀ x ∈ b, x ∈ a) : Quiet a s u :=
  (h.trans k).mono fun x hx => (List.mem_append.1 hx).elim id (hb x)

/-! ### Links and routes (R344, R345) -/

/-- The fields of the table of links and routes, with those of the events they raise. -/
def lineIds : List Nat :=
  [R.PLC_TRELLIS_LQ_LINK_COST.id, R.PLC_TRELLIS_LQ_LINK_MODE.id, R.PLC_TRELLIS_LQ_FAIL32.id, R.PLC_TRELLIS_LQ_SNR.id,
    R.PLC_TRELLIS_LQ_COUPLE.id, R.PLC_TRELLIS_LQ_LAST_HEARD.id, R.PLC_TRELLIS_LQ_NEXT_HOP.id, R.PLC_TRELLIS_LQ_HOPS.id,
    R.PLC_TRELLIS_LQ_METRIC.id, R.PLC_TRELLIS_STAT_REPEATER_CHG.id, R.PLC_TRELLIS_STAT_NEIGHBOURS.id,
    R.PLC_TRELLIS_STAT_NODES.id] ++ raiseIds

theorem line_wr {F : Fld} (hF : F.id ∈ lineIds) (n v : Nat) (h : Quiet lineIds s t) : Quiet lineIds s (t.wr F n v) :=
  h.within (quiet_wr F n v) fun _ hx => List.mem_singleton.1 hx ▸ hF

theorem line_refl (s : State) : Quiet lineIds s s := (Quiet.refl s).mono (fun _ h => absurd h List.not_mem_nil)

theorem showLink_quiet (n : Nat) (s : State) : Quiet lineIds s (s.showLink n) := by
  unfold showLink
  extract_lets l i s₁
  have h₁ : Quiet lineIds s s₁ := line_wr (by decide) _ _ (line_wr (by decide) _ _ (line_refl s))
  exact line_wr (by decide) _ _ (line_wr (by decide) _ _ (line_wr (by decide) _ _ h₁))

theorem rerouteOne_quiet (ns : List Nat) (d : Nat) (s : State) : Quiet lineIds s (s.rerouteOne ns d) := by
  unfold rerouteOne
  extract_lets old oldM
  rcases (s.bestHop ns d).getD (noCost, 0, 0) with ⟨m, h, n⟩
  dsimp -zeta only
  extract_lets s₁
  have h₁ : Quiet lineIds s s₁ :=
    line_wr (by decide) _ _ (line_wr (by decide) _ _ (line_wr (by decide) _ _ (line_refl s)))
  split
  · exact (line_wr (by decide) _ _ h₁).within (raise_spec _ _ _).1 (by decide)
  · exact h₁

theorem reroute_quiet (s : State) : Quiet lineIds s s.reroute := by
  unfold reroute
  extract_lets ns s₁ nodes
  have h₁ : Quiet lineIds s s₁ := quiet_forEach (fun d s => rerouteOne_quiet ns d s) _ s
  exact line_wr (by decide) _ _ (line_wr (by decide) _ _ h₁)

/-- The state in which the outcome of a transmission is noted on its link. -/
def linkNoted (s : State) (n k : Nat) (failed : Bool) : State :=
  s.modLink n k fun l =>
    let row := if failed then l.row + 1 else 0
    { l with fails := (failed :: l.fails).take 32, row := if row = 2 then 0 else row,
             down := if row = 2 then l.down + 1 else l.down }

/-- The outcome of a transmission stands at the head of its link's outcomes (R344). -/
theorem linkNoted_link (s : State) (n k : Nat) (failed : Bool) :
    ((s.linkNoted n k failed).link n k).fails = (failed :: (s.link n k).fails).take 32 :=
  congrArg TLink.fails ((Tab.get_put _ _ _ _ _).trans (if_pos rfl))

theorem linkResult_quiet (s : State) (n k : Nat) (failed : Bool) :
    Quiet lineIds (s.linkNoted n k failed) (s.linkResult n k failed) :=
  (showLink_quiet n _).within (reroute_quiet _) fun _ => id

/-! ### Reception (R334, R340, R343, R346) -/

/-- The way to a state touches the table of links and routes, and of the node's own part the links, the records of nodes,
the counters, the numbers seen and the frames on the line. A node without a record has none afterwards. -/
structure Received (s t : State) (src : Nat) : Prop where
  regs : RegsBut lineIds s t
  only : t = { s with regs := t.regs, host := t.host, plc := t.plc }
  plc : t.plc = { s.plc with
    ctrs := t.plc.ctrs, links := t.plc.links, nodes := t.plc.nodes, ctr := t.plc.ctr, ctrBlocks := t.plc.ctrBlocks,
    air := t.plc.air, seen := t.plc.seen }
  nodes : s.plc.nodes.get none src = none → t.plc.nodes = s.plc.nodes

section
variable {u : State} {src : Nat}

theorem Received.trans (h : Received s t src) (k : Received t u src) : Received s u src where
  regs := fun G m hG => (k.regs G m hG).trans (h.regs G m hG)
  only := by
    have hk := k.only
    rw [h.only] at hk
    exact hk
  plc := by
    have hk := k.plc
    rw [h.plc] at hk
    exact hk
  nodes := fun hn => (k.nodes (by rw [h.nodes hn]; exact hn)).trans (h.nodes hn)

theorem Received.quiet (h : Received s t src) (k : Quiet lineIds t u) : Received s u src :=
  have honly : u = { t with regs := u.regs, host := u.host, plc := u.plc } := by
    rw [k.only.plc]
    exact k.only
  h.trans ⟨k.regs, honly, by rw [k.only.plc], fun _ => by rw [k.only.plc]⟩

theorem Received.rd (h : Received s t src) {F : Fld} (hF : F.id ∉ lineIds) (n : Nat) : t.rd F n = s.rd F n :=
  h.regs F n hF

theorem Received.flag (h : Received s t src) {F : Fld} (hF : F.id ∉ lineIds) (n : Nat) : t.flag F n = s.flag F n :=
  congrArg (· != 0) (h.regs F n hF)

theorem Received.mtb (h : Received s t src) : t.mtb = s.mtb := by
  rw [h.only]

theorem Received.upd (h : Received s t src) : t.upd = s.upd := by
  rw [h.only]

theorem Received.tq (h : Received s t src) (c : Nat) : t.tq c = s.tq c := by
  unfold State.tq
  rw [h.plc]

end

/-- Hearing a frame changes the links and the records of nodes alone (R344). -/
theorem hear_received (h : THdr) (s : State) : Received s (s.hear h) h.src ∧
    (s.hear h).plc = { s.plc with links := (s.hear h).plc.links, nodes := (s.hear h).plc.nodes } := by
  unfold hear
  extract_lets k s₁ s₂ _ s₃
  have h₁ : Received s s₁ h.src := ⟨fun _ _ _ => rfl, rfl, rfl, fun _ => rfl⟩
  have h₂ : Received s s₂ h.src := h₁.quiet (line_wr (by decide) _ _ (line_refl s₁))
  have h₃ : Received s s₃ h.src ∧ s₃.plc = { s.plc with links := s₃.plc.links, nodes := s₃.plc.nodes } := by
    unfold s₃
    split
    next serial at_ hnode =>
      refine ⟨h₂.trans ⟨fun _ _ _ => rfl, rfl, rfl, fun hn => ?_⟩, rfl⟩
      rw [hnode] at hn
      exact absurd hn (Option.some_ne_none _)
    next => exact ⟨h₂, rfl⟩
  obtain ⟨h₃, hplc⟩ := h₃
  have hroute : Quiet lineIds s₃ (s₃.showLink h.tx).reroute := (showLink_quiet _ _).within (reroute_quiet _) fun _ => id
  refine ⟨h₃.quiet hroute, ?_⟩
  rw [hroute.only.plc]
  exact hplc

/-- The frame that goes on the line, and what its transmission leaves (R339, R340). -/
theorem transmit_spec (s : State) (f : TFrame) (rx : Nat) :
    ((s.transmit f rx).1.seq = f.seq ∧ (s.transmit f rx).1.tx = s.trxAddr ∧ (s.transmit f rx).1.rx = rx ∧
      (s.transmit f rx).1.ctr = s.plc.ctr ∧ (s.transmit f rx).1.tries = f.tries + 1 ∧
      (s.transmit f rx).1.ctx = f.ctx) ∧
    (s.transmit f rx).2 = { s with plc := { s.plc with
      ctr := s.plc.ctr + 1, ctrBlocks := max s.plc.ctrBlocks (s.plc.ctr / 65536 + 1),
      air := s.plc.air ++ [(s.transmit f rx).1] } } :=
  ⟨⟨rfl, rfl, rfl, rfl, rfl, rfl⟩, rfl⟩

theorem transmit_received (f : TFrame) (rx src : Nat) (s : State) : Received s (s.transmit f rx).2 src := by
  obtain ⟨_, h⟩ := transmit_spec s f rx
  rw [h]
  exact ⟨fun _ _ _ => rfl, rfl, rfl, fun _ => rfl⟩

/-- A frame whose segment, tag and counter this node accepts: for this node, not yet seen. -/
structure Accepted (s : State) (h : THdr) : Prop where
  taken : s.taken h = true
  seg : h.seg = s.rd R.PLC_TRELLIS_CFG_SEGMENT
  low : 1 ≤ h.tx
  high : h.tx ≤ 254
  other : h.tx ≠ s.trxAddr
  tag : h.tagOk = true
  fresh : s.ctrFresh h.tx h.ctr = true
  unseen : (s.plc.seen.get [] h.src).contains h.seq = false
  hop : h.rx = s.trxAddr ∨ h.rx = 0xFF
  dst : h.dst = s.trxAddr ∨ h.dst = 0xFF

theorem Received.trxAddr {src : Nat} (h : Received s t src) : t.trxAddr = s.trxAddr := h.rd (by decide) 0

theorem Received.trxState {src : Nat} (h : Received s t src) : t.trxState = s.trxState := h.rd (by decide) 0

/-- An accepted frame that is not relayed reaches its own function, in a state that only its reception has changed. -/
theorem receive_delivers {h : THdr} {typ : Nat} {payload : List Nat} {f : State → State} (ha : Accepted s h)
    (hoff : s.trxState ≠ 0) (hown : h.dst = s.trxAddr ∨ typ = fLQ_REPORT) :
    ∃ r, Received s r h.src ∧ s.receive h typ payload f = f r := by
  have hin : ¬ ((decide (s.trxState = 0) || !s.taken h || h.seg != s.rd R.PLC_TRELLIS_CFG_SEGMENT || decide (h.tx = 0) ||
      decide (254 < h.tx) || decide (h.tx = s.trxAddr)) = true) := by
    obtain ⟨htaken, hseg, hlow, hhigh, hother, _, _, _, _, _⟩ := ha
    rw [htaken, ← hseg, bne_self_eq_false, decide_eq_false hoff, decide_eq_false hother,
      decide_eq_false (by omega : ¬ h.tx = 0), decide_eq_false (by omega : ¬ 254 < h.tx)]
    exact Bool.false_ne_true
  unfold receive
  rw [if_neg hin, if_neg (by rw [ha.tag, ha.fresh]; exact Bool.false_ne_true)]
  extract_lets seen _ s₁ s₂ mine s₃ pairs _ s₄ onward _ s₅
  have h₁ : Received s s₁ h.src := ⟨fun _ _ _ => rfl, rfl, rfl, fun _ => rfl⟩
  obtain ⟨hheard, hplc⟩ := hear_received h s₁
  have hseen : s₂.plc.seen = s.plc.seen := by
    unfold s₂
    rw [hplc]
  have h₂ : Received s s₂ h.src := h₁.trans hheard
  have h₃ : Received s s₃ h.src ∧ s₃.plc.seen = s.plc.seen := by
    unfold s₃
    split
    · exact ⟨h₂.trans (transmit_received _ _ _ s₂), hseen⟩
    · exact ⟨h₂, hseen⟩
  obtain ⟨h₃, hseen₃⟩ := h₃
  have h₄ : Received s s₄ h.src := h₃.trans ⟨fun _ _ _ => rfl, rfl, rfl, fun _ => rfl⟩
  have hstay : onward = false := by
    unfold onward
    rcases hown with hown | hown
    · rw [hown, ← h₄.trxAddr, bne_self_eq_false]
      rfl
    · rw [hown]
      simp
  have h₅ : s₅ = s₄ := if_neg (by rw [hstay]; exact Bool.false_ne_true)
  refine ⟨s₄, h₄, ?_⟩
  have hhop : ¬ ((!decide mine && h.rx != 0xFF) = true) := by
    rcases ha.hop with hrx | hrx
    · rw [decide_eq_true (hrx.trans h₂.trxAddr.symm : mine)]
      exact Bool.false_ne_true
    · have hbroad : (h.rx != 0xFF) = false := by rw [hrx, bne_self_eq_false]
      rw [hbroad, Bool.and_false]
      exact Bool.false_ne_true
  have hnew : pairs.contains h.seq = false := by
    unfold pairs
    rw [hseen₃]
    exact ha.unseen
  rw [if_neg hhop, if_neg (by rw [hnew]; exact Bool.false_ne_true), h₅, if_pos]
  rw [Bool.or_eq_true, decide_eq_true_eq, decide_eq_true_eq, h₄.trxAddr]
  exact ha.dst

end State
end Sys2Proof.Machine
end

section
/-! SUPPORT. The frames that a Trellis node sends and takes (R340 to R349): its queues, the outcome of a frame and the
states of the node. -/

namespace Sys2Proof.Machine
namespace State

variable {s : State} {t : Nat} {h : THdr}

/-! ### Queues (R343, R349) -/

/-- The way to a state touches no part but the node's own: its queues, its numbers and the requests it serves. -/
structure Served (s u : State) : Prop where
  only : u = { s with plc := u.plc }
  plc : u.plc = { s.plc with queues := u.plc.queues, seq := u.plc.seq, reqs := u.plc.reqs }

theorem Served.refl (s : State) : Served s s := ⟨rfl, rfl⟩

theorem Served.trans {u v : State} (h : Served s u) (k : Served u v) : Served s v where
  only := by
    have hk := k.only
    rw [h.only] at hk
    exact hk
  plc := by
    have hk := k.plc
    rw [h.plc] at hk
    exact hk

theorem Served.wait {u : State} (h : Served s u) : u.plc.wait = s.plc.wait := by rw [h.plc]

theorem Served.ctrs {u : State} (h : Served s u) : u.plc.ctrs = s.plc.ctrs := by rw [h.plc]

theorem Served.link {u : State} (h : Served s u) (n k : Nat) : u.link n k = s.link n k := by
  unfold State.link
  rw [h.plc]

theorem Served.rd {u : State} (h : Served s u) (F : Fld) (n : Nat) : u.rd F n = s.rd F n := by rw [h.only]; rfl

theorem send_served (s : State) (typ cls dst : Nat) (payload : List Nat) (via : Nat) (ctx : Option Ctx) :
    Served s (s.send typ cls dst payload via ctx) := by
  unfold send enqueue
  dsimp only
  split <;> exact ⟨rfl, rfl⟩

theorem enqueue_tq {f : TFrame} (hroom : (s.tq f.cls).length < 64) : (s.enqueue f).tq f.cls = s.tq f.cls ++ [f] := by
  unfold enqueue
  rw [if_neg (Nat.not_le.2 hroom)]
  exact (Tab.get_put _ _ _ _ _).trans (if_pos rfl)

/-- A frame of this node goes into a class with room. -/
theorem send_tq {typ cls dst via : Nat} {payload : List Nat} {ctx : Option Ctx} (hroom : (s.tq cls).length < 64) :
    ((s.send typ cls dst payload via ctx).tq cls).map (·.typ) = (s.tq cls).map (·.typ) ++ [typ] := by
  have h := enqueue_tq (s := s.nextSeq.2)
    (f := { TFrame.new typ cls s.trxAddr dst s.plc.seq payload with via := via, ctx := ctx }) hroom
  exact (congrArg (List.map (·.typ)) h).trans List.map_append

theorem serveNext_served (s : State) : Served s s.serveNext := by
  unfold serveNext
  split
  · split
    · exact .refl s
    · extract_lets _ s₁
      have h₁ : Served s s₁ := ⟨rfl, rfl⟩
      split
      · exact h₁
      · unfold forEach
        generalize List.range 5 = ks
        generalize s₁ = s₂ at h₁
        induction ks generalizing s₂ with
        | nil => exact h₁
        | cons k ks ih => exact ih _ (h₁.trans (send_served _ _ _ _ _ _ _))
  · exact ⟨rfl, rfl⟩
  · exact .refl s

theorem serveNext_none (h : s.plc.reqs = []) : s.serveNext = s := by
  unfold serveNext
  rw [h]

/-- A throttled node serves no block (R505). -/
theorem serveNext_throttled {n b : Nat} {bs : List Nat} {rest : List (Nat × List Nat)} (h : s.plc.reqs = (n, b :: bs) :: rest)
    (hthrottle : s.flag R.PWR_STAT_THROTTLE = true) : s.serveNext = s := by
  unfold serveNext
  rw [h]
  split
  · rw [hthrottle, if_pos (by simp)]
  · next heq => exact absurd heq (by simp)
  · rfl

/-! ### The outcome of a frame (R346) -/

theorem frameDone_none {f : TFrame} (outcome : Nat) (h : f.ctx = none) : s.frameDone f outcome = s := by
  unfold frameDone
  rw [h]

theorem frameDone_plc (f : TFrame) (outcome : Nat) : (s.frameDone f outcome).plc = s.plc := by
  unfold frameDone
  split
  · rfl
  · rw [finalise_plc, raise_plc]

/-! ### Frames that arrive -/

/-- An accepted frame for this node does what its own function does, in a state that only its reception has changed. -/
theorem frame_next {typ : Nat} {payload : List Nat} {f : State → State} {Q : State → Prop}
    (hu : (s.advance t).up = true) (ha : Accepted (s.advance t) h) (hoff : (s.advance t).trxState ≠ 0)
    (hown : h.dst = (s.advance t).trxAddr ∨ typ = fLQ_REPORT)
    (hQ : ∀ r, Received (s.advance t) r h.src → ∃ u, f r = u ∧ Q u) :
    ∃ u, (Host.Outcome.next (onEvent s t fun s => s.receive h typ payload f) : Host.Outcome State Fault Refusal) = .next u ∧
      Q u := by
  obtain ⟨r, hr, he⟩ := receive_delivers (typ := typ) (payload := payload) (f := f) ha hoff hown
  obtain ⟨u, hfu, hQu⟩ := hQ r hr
  exact ⟨u, onEvent_next _ rfl hu (he.trans hfu), hQu⟩

/-! ### Sending and its acknowledgement (R343 to R346) -/

/-- The node may send: it is on the line, heard of its superframe, and waits for no acknowledgement. -/
theorem txGo (h0 : s.trxState ≠ 0) (h1 : s.trxState ≠ 1) (hcont : s.contention = true) (hwait : s.plc.wait = none)
    (hsilent : s.plc.silent = false) :
    ¬ ((s.plc.wait.isSome || s.plc.silent || decide (s.trxState < 2) || !s.contention) = true) := by
  rw [hwait, hsilent, hcont, decide_eq_false (by omega)]
  exact Bool.false_ne_true

/-- The state in which a frame is on the line to its next hop and waits for its acknowledgement. -/
def awaiting (s : State) (f : TFrame) (hop : Nat) : State :=
  { (s.transmit f hop).2 with plc := { (s.transmit f hop).2.plc with wait := some (s.transmit f hop).1 } }

theorem trellisTx_unicast {f : TFrame} (hu : (s.advance t).up = true)
    (hgo : ¬ (((s.advance t).plc.wait.isSome || (s.advance t).plc.silent || decide ((s.advance t).trxState < 2) ||
      !(s.advance t).contention) = true)) (hnext : (s.advance t).nextFrame = some f) (hdst : f.dst ≠ 0xFF)
    (hvia : f.via = 0) (hhop : (s.advance t).rd R.PLC_TRELLIS_LQ_NEXT_HOP (f.dst - 1) ≠ 0) (htries : f.tries = 0) :
    exec (.trellisTx t) s = .next (((s.advance t).dequeue f).awaiting f
      ((s.advance t).rd R.PLC_TRELLIS_LQ_NEXT_HOP (f.dst - 1))) := by
  have hfirst : ¬ ((f.via != 0) = true) := by
    rw [hvia]
    decide
  have hroute : ¬ (((s.advance t).dequeue f).rd R.PLC_TRELLIS_LQ_NEXT_HOP (f.dst - 1) = 0) := hhop
  refine onEvent_next _ rfl hu ?_
  rw [if_neg hgo, hnext]
  dsimp only
  rw [if_neg hdst, if_neg hfirst, if_neg hroute, if_pos htries]
  rfl

theorem trellisTx_broadcast {f : TFrame} (hu : (s.advance t).up = true)
    (hgo : ¬ (((s.advance t).plc.wait.isSome || (s.advance t).plc.silent || decide ((s.advance t).trxState < 2) ||
      !(s.advance t).contention) = true)) (hnext : (s.advance t).nextFrame = some f) (hdst : f.dst = 0xFF) :
    exec (.trellisTx t) s = .next (((((s.advance t).dequeue f).transmit f 0xFF).2.frameDone
      (((s.advance t).dequeue f).transmit f 0xFF).1 0).serveNext) := by
  refine onEvent_next _ rfl hu ?_
  rw [if_neg hgo, hnext]
  dsimp only
  rw [if_pos hdst]

/-- The state in which an acknowledgement has been accepted. -/
def acked (s : State) (h : THdr) : State :=
  { s with plc := { s.plc with wait := none, ctrs := s.plc.ctrs.put [] h.tx ((h.ctr :: s.plc.ctrs.get [] h.tx).take 64) } }

theorem acked_ctrs (s : State) (h : THdr) : ((s.acked h).plc.ctrs.get [] h.tx).head? = some h.ctr := by
  refine (congrArg List.head? ((Tab.get_put _ _ _ _ _).trans (if_pos rfl))).trans ?_
  rfl

/-- The outcome of a transmission leaves the wait and the counters. -/
theorem linkResult_plc (s : State) (n k : Nat) (failed : Bool) :
    (s.linkResult n k failed).plc = { s.plc with links := (s.linkNoted n k failed).plc.links } :=
  (linkResult_quiet s n k failed).only.plc

/-- What an acknowledged frame without a command leaves of the node's own part. -/
theorem acked_plc (s : State) (h : THdr) (n k : Nat) :
    (((s.acked h).hear h).linkResult n k false).serveNext.plc.wait = none ∧
      (((s.acked h).hear h).linkResult n k false).serveNext.plc.ctrs = (s.acked h).plc.ctrs := by
  obtain ⟨_, hheard⟩ := hear_received h (s.acked h)
  have hwait : ((s.acked h).hear h).plc.wait = none := by
    rw [hheard]
    rfl
  have hctrs : ((s.acked h).hear h).plc.ctrs = (s.acked h).plc.ctrs := by rw [hheard]
  generalize (s.acked h).hear h = x at hwait hctrs ⊢
  rw [(serveNext_served _).wait, (serveNext_served _).ctrs, linkResult_plc]
  exact ⟨hwait, hctrs⟩

/-- The state in which the wait for an acknowledgement is over. -/
def gaveUp (s : State) : State := { s with plc := { s.plc with wait := none } }

/-- A failure is noted on the link of the frame (R344). -/
theorem gaveUp_spec (s : State) (n k : Nat) : let u := s.gaveUp.linkResult n k true
    u.plc.wait = none ∧ u.plc.queues = s.plc.queues ∧ (u.link n k).fails.head? = some true ∧
      ∀ F m, F.id ∉ lineIds → u.rd F m = s.rd F m := by
  intro u
  have hq := linkResult_quiet s.gaveUp n k true
  have hlink : u.link n k = (s.gaveUp.linkNoted n k true).link n k := by
    unfold link u
    rw [hq.only.plc]
  refine ⟨?_, ?_, ?_, fun F m hF => hq.regs F m hF⟩
  · unfold u
    rw [linkResult_plc]
    rfl
  · unfold u
    rw [linkResult_plc]
    rfl
  · rw [hlink, linkNoted_link]
    rfl

/-! ### Joining (R342) -/

/-- A change of the node's state. -/
theorem setTrx_spec (s : State) (new reason : Nat) : (s.setTrx new reason).trxState = trunc R.PLC_TRELLIS_STAT_STATE.w new ∧
    (s.setTrx new reason).plc.queues = s.plc.queues ∧
    (s.setTrx new reason).flag R.PLC_CFG_EN 8 = s.flag R.PLC_CFG_EN 8 := by
  unfold setTrx
  extract_lets old s₁
  have hplc : s₁.plc = s.plc := raise_plc ..
  refine ⟨?_, ?_, ?_⟩
  · show s₁.rd R.PLC_TRELLIS_STAT_STATE = _
    unfold s₁
    rw [raise_rd _ _ _ _ _ (by decide), rd_wr_same]
  · show s₁.plc.queues = s.plc.queues
    rw [hplc]
  · show s₁.flag R.PLC_CFG_EN 8 = _
    unfold s₁
    rw [raise_flag _ _ _ _ _ (by decide), flag_wr_ne _ _ _ _ _ (by decide)]

theorem holdStart_trxState (s : State) : s.holdStart.trxState = s.trxState := by
  unfold holdStart
  split
  · rfl
  · exact rd_wr_ne _ _ _ _ _ (by decide)

/-- A cancelled node has no frames left. -/
theorem cancelFrames_queues (s : State) : s.cancelFrames.plc.queues = .empty := by
  unfold cancelFrames
  extract_lets fs _ s₁
  have h : (forEach fs (fun f s => s.frameDone f 2) s₁).plc = s₁.plc :=
    forEach_keeps State.plc (fun f _ => frameDone_plc f 2) fs
  rw [h]

theorem mainsModems_off (s : State) : (s.mainsModems false).flag R.PLC_CFG_EN 8 = false := by
  unfold mainsModems modemOn setFlag
  rw [flag_wr_ne _ _ _ _ _ (by decide)]
  refine (congrArg (· != 0) (rd_wr_other _ _ _ _ _ (.inr (by decide)))).trans ?_
  refine (flag_wr_ne _ _ _ _ _ (by decide)).trans ?_
  exact flag_wr_zero _ _

/-- A node whose request to join is refused leaves the line. -/
def turnedAway (s : State) : State :=
  ((s.cancelFrames.mainsModems false).wr R.PLC_TRELLIS_STAT_COORD 0 0).setTrx 0 4

theorem turnedAway_spec (s : State) : s.turnedAway.trxState = 0 ∧ s.turnedAway.flag R.PLC_CFG_EN 8 = false ∧
    s.turnedAway.plc.queues = .empty := by
  obtain ⟨hstate, hqueues, hflag⟩ :=
    setTrx_spec ((s.cancelFrames.mainsModems false).wr R.PLC_TRELLIS_STAT_COORD 0 0) 0 4
  refine ⟨hstate, hflag.trans ?_, hqueues.trans (cancelFrames_queues s)⟩
  exact (flag_wr_ne _ _ _ _ _ (by decide)).trans (mainsModems_off _)

/-- The state in which the coordinator has a new node (R342). -/
def memberNoted (s : State) (n serial hops : Nat) : State :=
  ({ s with plc := { s.plc with nodes := s.plc.nodes.put none n (some (serial, s.mtb)) } } : State).raise
    Ev.TRELLIS_NODE 0 [n, 1, hops + 1]

theorem memberNoted_plc (s : State) (n serial hops : Nat) : (s.memberNoted n serial hops).plc =
    { s.plc with nodes := s.plc.nodes.put none n (some (serial, s.mtb)) } := raise_plc ..

end State
end Sys2Proof.Machine
end

section
/-! PROOFS. What the frames of Trellis do (R292, R340 to R351, R459). -/

namespace Sys2Proof.Machine
namespace State

variable {s r : State} {t : Nat} {h : THdr}

/-! ### What a delivered frame does -/

/-- A table of limits with an entry of this node (R347). -/
theorem limitApply_own {v w : Nat} (n src : Nat) (hn : n = s.trxAddr) (hv : v ≠ 0)
    (hlife : v ≤ s.rd R.OUT_POLICY_TRELLIS_TO_S) : s.limitApply v [(n, w)] src =
      ({ s.wr R.OUT_SITE_TRELLIS_W 0 w with out := { s.out with
        trellisDue := some (s.mtb + 10 ^ 9 * v), fallback := false } } : State).raise Ev.TRELLIS_LIMIT 0 [w, v, src] := by
  have hown : [(n, w)].find? (fun e => e.1 == s.trxAddr) = some (n, w) := by
    rw [List.find?_cons_of_pos (by rw [hn]; exact beq_self_eq_true _)]
  have hdue : min v (s.rd R.OUT_POLICY_TRELLIS_TO_S) = v := min_eq_left hlife
  unfold limitApply
  rw [hown]
  dsimp only
  rw [if_neg hv, hdue]
  rfl

/-- An offer of a newer image to an idle engine is taken up (R459). -/
theorem updOffer_idle {d n g : Nat} (hidle : s.updState = 0) (hfetch : s.flag R.UPD_CFG_TRELLIS_FETCH = true)
    (hmode : s.keyMode ≠ 4) (hnew : s.rd R.UPD_BOOT_ACTIVE_GEN < g) (hfloor : s.rd R.UPD_BOOT_FLOOR ≤ g) :
    s.updOffer n d g = ({ s with upd := { s.upd with fetch := some (d, n) } } : State).send fIMAGE_REQ 2 n
      (reqBytes d [(0, 1)]) 0 none := by
  unfold updOffer
  rw [if_pos hidle, if_pos]
  rw [hfetch, decide_eq_true hnew, decide_eq_true hfloor, bne_iff_ne.2 hmode]
  rfl

/-- A block for an engine that stages nothing is dropped. -/
theorem updBlockRx_none {n p b : Nat} {data : List Nat} {sigs : Bool × Bool} (h0 : s.updState ≠ 0) (h1 : s.updState ≠ 1) :
    s.updBlockRx n p b data sigs = s := by
  unfold updBlockRx
  split
  · next h _ => exact absurd h h0
  · next h => exact absurd h h1
  · rfl

theorem streamBlock_plc (src : Nat) (b : StreamBlock) : (s.streamBlock src b).plc = s.plc := by
  unfold streamBlock
  extract_lets s₁ st st' _
  have h₁ : s₁.plc = s.plc := (drainSource_drained src).quiet.only.plc
  exact ((drainSource_drained src).quiet.only.plc).trans h₁

theorem Accepted.own {a : State} {h : THdr} (htaken : a.taken h = true)
    (hseg : h.seg = a.rd R.PLC_TRELLIS_CFG_SEGMENT) (hlow : 1 ≤ h.tx) (hhigh : h.tx ≤ 254) (hother : h.tx ≠ a.trxAddr)
    (htag : h.tagOk = true) (hfresh : a.ctrFresh h.tx h.ctr = true)
    (hseen : (a.plc.seen.get [] h.src).contains h.seq = false) (hdst : h.dst = a.trxAddr) (hrx : h.rx = a.trxAddr) :
    Accepted a h :=
  ⟨htaken, hseg, hlow, hhigh, hother, htag, hfresh, hseen, .inl hrx, .inl hdst⟩

/-- The image that a node serves is that of its active slot. -/
theorem Received.servedImage {a : State} {src : Nat} (h : Received a r src) : r.servedImage = a.servedImage := by
  unfold State.servedImage activeSlot slotMan tamecGen
  rw [h.upd, h.rd (by decide), h.rd (by decide)]

theorem Received.sfLen {a : State} {src : Nat} (h : Received a r src) : r.sfLen = a.sfLen := by
  unfold State.sfLen nominalPeriod
  rw [h.flag (by decide), h.rd (by decide)]

/-- The wall time at an instant whose superframe starts as the frame names it (R348). -/
theorem timeNow {m mtb start : Nat} (hstart : start ≤ mtb) :
    ((m : Int) + ((mtb : Int) - start) / 10 ^ 6).toNat = m + (mtb - start) / 10 ^ 6 := by
  rw [← Nat.cast_sub hstart]
  have hdiv : (((mtb - start : Nat) : Int) / 10 ^ 6) = (((mtb - start) / 10 ^ 6 : Nat) : Int) := by
    rw [Int.natCast_ediv]
    rfl
  rw [hdiv, ← Nat.cast_add, Int.toNat_natCast]

/-! ### Sending -/

theorem awaiting_spec (s : State) (f : TFrame) (hop : Nat) :
    (s.awaiting f hop).plc.wait.map (fun g => (g.seq, g.tx, g.rx, g.ctr, g.tries)) =
      some (f.seq, s.trxAddr, hop, s.plc.ctr, f.tries + 1) ∧ (s.awaiting f hop).plc.ctr = s.plc.ctr + 1 :=
  ⟨rfl, rfl⟩

/-- A broadcast is on the line and waits for nothing; a node without requests serves none after it. -/
theorem broadcast_spec {f : TFrame} (hwait : s.plc.wait = none) (hreqs : s.plc.reqs = []) :
    let u := (((s.dequeue f).transmit f 0xFF).2.frameDone ((s.dequeue f).transmit f 0xFF).1 0).serveNext
    u.plc.wait = none ∧ u.plc.ctr = s.plc.ctr + 1 ∧ u.plc.air.length = s.plc.air.length + 1 := by
  obtain ⟨_, hsent⟩ := transmit_spec (s.dequeue f) f 0xFF
  generalize (s.dequeue f).transmit f 0xFF = p at hsent ⊢
  have hplc : p.2.plc.wait = s.plc.wait ∧ p.2.plc.ctr = s.plc.ctr + 1 ∧ p.2.plc.air = s.plc.air ++ [p.1] ∧
      p.2.plc.reqs = s.plc.reqs := by
    rw [hsent]
    exact ⟨rfl, rfl, rfl, rfl⟩
  obtain ⟨hwait₂, hctr, hair, hreqs₂⟩ := hplc
  have hdone : (p.2.frameDone p.1 0).plc = p.2.plc := frameDone_plc _ _
  have hsame : (p.2.frameDone p.1 0).serveNext = p.2.frameDone p.1 0 :=
    serveNext_none (by rw [hdone, hreqs₂]; exact hreqs)
  intro u
  have hu : u.plc = p.2.plc := by
    unfold u
    rw [hsame, hdone]
  rw [hu, hair]
  exact ⟨hwait₂.trans hwait, hctr, List.length_append⟩

theorem trellisAck_next {q c : Nat} {f : TFrame} (hu : (s.advance t).up = true) (htaken : (s.advance t).taken h = true)
    (hwait : (s.advance t).plc.wait = some f) (htag : h.tagOk = true) (htx : h.tx = f.rx) (hseq : q = f.seq)
    (hctr : c = f.ctr) (hfresh : (s.advance t).ctrFresh h.tx h.ctr = true) (hctx : f.ctx = none) :
    exec (.ack t h q c) s = .next (((((s.advance t).acked h).hear h).linkResult f.rx f.modem false).serveNext) := by
  refine onEvent_next _ rfl hu ?_
  rw [hwait]
  dsimp only
  rw [if_pos (by rw [htaken, htag, hseq, hctr, hfresh, htx]; simp), frameDone_none 0 hctx]
  rfl

/-- After the fourth attempt the frame is dropped (R346). -/
theorem ackTimeout_drops {f : TFrame} (hu : (s.advance t).up = true) (hwait : (s.advance t).plc.wait = some f)
    (hdue : f.at_ + 200000 ≤ (s.advance t).mtb) (htries : 4 ≤ f.tries) (hctx : f.ctx = none) :
    exec (.trellisAckTimeout t) s = .next (((s.advance t).gaveUp.linkResult f.rx f.modem true).incSat
      R.PLC_TRELLIS_STAT_TX_DROPPED 0).serveNext := by
  refine onEvent_next _ rfl hu ?_
  rw [hwait]
  dsimp only
  rw [if_neg (Nat.not_lt.2 hdue), if_pos htries, frameDone_none 1 hctx]
  rfl

/-- Before, it is sent again, first of its class. -/
theorem ackTimeout_again {f : TFrame} (hu : (s.advance t).up = true) (hwait : (s.advance t).plc.wait = some f)
    (hdue : f.at_ + 200000 ≤ (s.advance t).mtb) (htries : f.tries < 4) :
    exec (.trellisAckTimeout t) s = .next (((s.advance t).gaveUp.linkResult f.rx f.modem true).setTq f.cls
      (f :: ((s.advance t).gaveUp.linkResult f.rx f.modem true).tq f.cls)) := by
  refine onEvent_next _ rfl hu ?_
  rw [hwait]
  dsimp only
  rw [if_neg (Nat.not_lt.2 hdue), if_neg (Nat.not_le.2 htries)]
  rfl

/-! ### Joining -/

theorem joinReq_next {k c : Nat} (hu : (s.advance t).up = true) (ha : Accepted (s.advance t) h)
    (hown : h.dst = (s.advance t).trxAddr) (hstate : (s.advance t).trxState = 5)
    (hnone : (s.advance t).plc.nodes.get none h.src = none) (hroom : (s.advance t).plc.nodes.cells.length < 254)
    (hsrc : h.src ≠ (s.advance t).trxAddr) : ∃ r, Received (s.advance t) r h.src ∧
      exec (.joinReq t h k c) s = .next ((r.memberNoted h.src k h.hops).send fJOIN_RESULT 1 h.src
        [0, (r.memberNoted h.src k h.hops).plc.nodes.cells.length] (if h.hops = 0 then h.tx else 0) none) := by
  have hnext : ∃ u, exec (.joinReq t h k c) s = .next u ∧ ∃ r, Received (s.advance t) r h.src ∧
      u = (r.memberNoted h.src k h.hops).send fJOIN_RESULT 1 h.src
        [0, (r.memberNoted h.src k h.hops).plc.nodes.cells.length] (if h.hops = 0 then h.tx else 0) none := by
    refine frame_next hu ha (by rw [hstate]; decide) (.inl hown) fun r hr => ⟨_, ?_, r, hr, rfl⟩
    have hnodes : r.plc.nodes = (s.advance t).plc.nodes := hr.nodes hnone
    have hnew : r.plc.nodes.get none h.src = none := by rw [hnodes]; exact hnone
    have hfit : decide (254 ≤ r.plc.nodes.cells.length) = false := by
      rw [hnodes]
      exact decide_eq_false (Nat.not_le.2 hroom)
    have hforeign : decide (h.src = r.trxAddr) = false := by
      rw [hr.trxAddr]
      exact decide_eq_false hsrc
    dsimp only
    rw [if_neg (by rw [hr.trxState, hstate]; decide), hnew, hfit, hforeign]
    rfl
  obtain ⟨u, hexec, r, hr, rfl⟩ := hnext
  exact ⟨r, hr, hexec⟩

/-- The coordinator notes the node and answers it (R342). -/
theorem memberNoted_answer {typ via : Nat} {p : List Nat} {a : State} (hr : Received a r h.src)
    (hq : (a.tq 1).length < 64) (k : Nat) :
    let u := (r.memberNoted h.src k h.hops).send typ 1 h.src p via none
    u.plc.nodes.get none h.src = some (k, a.mtb) ∧ (u.tq 1).map (·.typ) = (a.tq 1).map (·.typ) ++ [typ] ∧
      u.told = some (Ev.TRELLIS_NODE, 0, [h.src, 1, h.hops + 1]) := by
  have hplc := memberNoted_plc r h.src k h.hops
  have htold : (r.memberNoted h.src k h.hops).told = some (Ev.TRELLIS_NODE, 0, [h.src, 1, h.hops + 1]) := raise_told _ _ _
  have hsame : (r.memberNoted h.src k h.hops).tq 1 = a.tq 1 := by
    unfold tq
    rw [hplc]
    exact hr.tq 1
  generalize r.memberNoted h.src k h.hops = v at hplc htold hsame ⊢
  have hserved := send_served v typ 1 h.src p via none
  refine ⟨?_, ?_, ?_⟩
  · rw [hserved.plc, hplc, ← hr.mtb]
    exact (Tab.get_put _ _ _ _ _).trans (if_pos rfl)
  · rw [send_tq (by rw [hsame]; exact hq), hsame]
  · rw [hserved.only]
    exact htold

/-- A node that asks to join takes an answer while it does not back off (R342). -/
theorem Received.asking {a : State} {src : Nat} (hr : Received a r src) (hstate : a.trxState = 2)
    (hback : a.plc.backoff = none) : ¬ ((r.trxState != 2 || r.plc.backoff.isSome) = true) := by
  have hnone : r.plc.backoff = none := by
    rw [hr.plc]
    exact hback
  rw [hr.trxState, hstate, hnone]
  decide

/-! ### Reports, times and images -/

/-- The state in which a neighbour's report of one destination has replaced its last one (R345). -/
def reported (s : State) (n d m k : Nat) : State :=
  { s with plc := { s.plc with reports :=
      (⟨s.plc.reports.cells.filter fun c => c.1 / 256 != n⟩ : Tab (Nat × Nat)).put (noCost, 0) (256 * n + d) (m, k) } }

theorem reported_get (s : State) (n d m k : Nat) :
    (s.reported n d m k).reroute.plc.reports.get (noCost, 0) (256 * n + d) = (m, k) := by
  rw [(reroute_quiet _).only.plc]
  exact (Tab.get_put _ _ _ _ _).trans (if_pos rfl)

/-- A TIME of the superframe that runs sets an invalid clock, unsigned (R292, R348). -/
theorem time_next {k m : Nat} (hu : (s.advance t).up = true) (ha : Accepted (s.advance t) h)
    (hown : h.dst = (s.advance t).trxAddr) (hstate : (s.advance t).trxState = 3) (hrtc : (s.advance t).rtcValid = false)
    (hstart : (s.advance t).plc.sfStart ≤ (s.advance t).mtb) (hk : k = (s.advance t).rd R.PLC_TRELLIS_STAT_SF_COUNT) :
    ∃ r, Received (s.advance t) r h.src ∧ exec (.time t h k m none) s =
      .next (r.timeSet (m + ((s.advance t).mtb - (s.advance t).plc.sfStart) / 10 ^ 6) 1).2 := by
  have hnext : ∃ u, exec (.time t h k m none) s = .next u ∧ ∃ r, Received (s.advance t) r h.src ∧
      u = (r.timeSet (m + ((s.advance t).mtb - (s.advance t).plc.sfStart) / 10 ^ 6) 1).2 := by
    refine frame_next hu ha (by rw [hstate]; decide) (.inl hown) fun r hr => ⟨_, ?_, r, hr, rfl⟩
    have hcount : r.rd R.PLC_TRELLIS_STAT_SF_COUNT = k := (hr.rd (by decide) 0).trans hk.symm
    have hbegin : r.plc.sfStart = (s.advance t).plc.sfStart := by rw [hr.plc]
    have hinvalid : r.rtcValid = false := (hr.flag (by decide) 0).trans hrtc
    dsimp only
    rw [hcount, hbegin, hr.mtb, sub_self, mul_zero, sub_zero, timeNow hstart, hinvalid, Bool.false_and,
      if_neg Bool.false_ne_true]
    rfl
  obtain ⟨u, hexec, r, hr, rfl⟩ := hnext
  exact ⟨r, hr, hexec⟩

/-- A request for one range waits as the list of its blocks (R349). -/
theorem requestedBlocks (m k : Nat) :
    ([(m, k)].take 64).flatMap (fun r => (List.range r.2).map (r.1 + ·)) = (List.range k).map (m + ·) :=
  List.append_nil _

/-- The state in which a node's request waits (R349). -/
def requested (s : State) (n : Nat) (bs : List Nat) : State :=
  { s with plc := { s.plc with reqs := (s.plc.reqs.filter fun (q : Nat × List Nat) => q.1 != n) ++ [(n, bs)] } }

theorem requested_reqs (n : Nat) (bs : List Nat) (h : s.plc.reqs = []) : (s.requested n bs).plc.reqs = [(n, bs)] := by
  show (s.plc.reqs.filter fun (q : Nat × List Nat) => q.1 != n) ++ _ = _
  rw [h]
  rfl

/-- The request of a node for the image that is served waits while THROTTLE pauses the serving (R349, R505). -/
theorem imageReq_waits {d m k : Nat} {a : State} (ha : a = s.advance t) (hu : a.up = true) (hacc : Accepted a h)
    (hown : h.dst = a.trxAddr) (hstate : a.trxState = 3) (hserved : a.servedImage.map (·.1) = some d)
    (hserve : a.flag R.PLC_TRELLIS_CFG_SERVE_IMAGES = true) (hthrottle : a.flag R.PWR_STAT_THROTTLE = true)
    (hreqs : a.plc.reqs = []) (hk : 1 ≤ k) : ∃ u, exec (.imageReq t h d [(m, k)]) s = .next u ∧
      u.plc.reqs = [(h.src, (List.range k).map (m + ·))] := by
  subst ha
  obtain ⟨⟨d', n, g⟩, himage, rfl⟩ := Option.map_eq_some_iff.1 hserved
  refine frame_next hu hacc (by rw [hstate]; decide) (.inl hown) fun r hr =>
    have hone := requested_reqs (s := r) h.src ((List.range k).map (m + ·)) (by rw [hr.plc]; exact hreqs)
    ⟨r.requested h.src ((List.range k).map (m + ·)), ?_, hone⟩
  obtain ⟨b, bs, hbs⟩ : ∃ b bs, (List.range k).map (m + ·) = b :: bs := by
    cases k with
    | zero => exact absurd hk (by decide)
    | succ k => exact ⟨_, _, by rw [List.range_succ_eq_map, List.map_cons]⟩
  dsimp only
  rw [hr.servedImage, himage]
  dsimp only
  rw [if_neg (by rw [bne_self_eq_false, hr.flag (by decide), hserve]; exact Bool.false_ne_true), requestedBlocks]
  rw [hbs] at hone ⊢
  exact serveNext_throttled hone ((hr.flag (by decide) 0).trans hthrottle)

/-- A fragment that has the size of its place goes to its block (R341). -/
theorem fragment_fits {f : Nat} {l : List Byte} (hf : f < 5) (hlen : l.length = (if f < 4 then 1008 else 64)) :
    ¬ ((decide (5 ≤ f) || (l.map (·.toNat)).length != (if f < 4 then 1008 else 64)) = true) := by
  rw [List.length_map, hlen, bne_self_eq_false, decide_eq_false (Nat.not_le.2 hf)]
  exact Bool.false_ne_true

theorem imageBlock_first {d m f : Nat} {l : List Byte} {z : Bool × Bool} {a : State} (ha : a = s.advance t)
    (hu : a.up = true) (hacc : Accepted a h) (hown : h.dst = a.trxAddr) (hstate : a.trxState = 3) (hf : f < 5)
    (hlen : l.length = (if f < 4 then 1008 else 64)) (hparts : a.plc.parts = []) :
    ∃ u, exec (.imageBlock t h d m f l z) s = .next u ∧ u.plc.parts = [(h.src, m, a.mtb, [(f, l.map fun y => y.toNat)])] := by
  subst ha
  refine frame_next hu hacc (by rw [hstate]; decide) (.inl hown) fun r hr =>
    ⟨{ r with plc := { r.plc with parts := [(h.src, m, r.mtb, [(f, l.map fun y => y.toNat)])] } }, ?_, ?_⟩
  · have hnone : r.plc.parts = [] := by
      rw [hr.plc]
      exact hparts
    dsimp only
    rw [if_neg (fragment_fits hf hlen), hnone]
    rfl
  · rw [hr.mtb]

/-- The fifth fragment makes the block whole; an engine that stages nothing drops it. -/
theorem imageBlock_last {d m f w : Nat} {l : List Byte} {z : Bool × Bool} {e : List (Nat × List Nat)} {a : State}
    (ha : a = s.advance t) (hu : a.up = true) (hacc : Accepted a h) (hown : h.dst = a.trxAddr) (hstate : a.trxState = 3)
    (hf : f < 5) (hlen : l.length = (if f < 4 then 1008 else 64)) (hparts : a.plc.parts = [(h.src, m, w, e)])
    (he : e.length = 4) (hnew : e.all (fun q => q.1 != f) = true) (h0 : a.updState ≠ 0) (h1 : a.updState ≠ 1) :
    ∃ u, exec (.imageBlock t h d m f l z) s = .next u ∧ u.plc.parts = [] := by
  subst ha
  refine frame_next hu hacc (by rw [hstate]; decide) (.inl hown) fun r hr =>
    ⟨{ r with plc := { r.plc with parts := [] } }, ?_, rfl⟩
  have hone : r.plc.parts = [(h.src, m, w, e)] := by
    rw [hr.plc]
    exact hparts
  have hmine : (h.src == h.src && m == m) = true := by rw [beq_self_eq_true, beq_self_eq_true]; rfl
  have hfind : [(h.src, m, w, e)].find? (fun p => p.1 == h.src && p.2.1 == m) = some (h.src, m, w, e) :=
    List.find?_cons_of_pos hmine
  have hrest : [(h.src, m, w, e)].filter (fun q => !(q.1 == h.src && q.2.1 == m)) = [] := by
    rw [List.filter_cons_of_neg (by rw [hmine]; exact Bool.false_ne_true)]
    rfl
  have hall : e.filter (fun q => q.1 != f) = e := List.filter_eq_self.2 (List.all_eq_true.1 hnew)
  have hstage : r.updState = (s.advance t).updState := hr.rd (by decide) 0
  dsimp only
  rw [if_neg (fragment_fits hf hlen), hone, hfind, hrest]
  refine (if_pos (congrArg (· + 1) ((congrArg List.length hall).trans he))).trans ?_
  exact updBlockRx_none (fun h => h0 (hstage.symm.trans h)) (fun h => h1 (hstage.symm.trans h))

end State

open State in
/-- Settles O38: a frame that is accepted does what its own function does in a state that only its reception has changed
(`State.Received`); what the links, the routes and the service of images leave is `State.Quiet` and `State.Served`. -/
theorem trellisFrames : Obligations.TrellisFrames := by
  unfold Obligations.TrellisFrames
  refine ⟨?tx, ?txAll, ?txNone, ?ack, ?ackOther, ?dropped, ?again, ?join, ?joined, ?backoff, ?refused, ?report, ?limit,
    ?time, ?data, ?offer, ?request, ?fragment, ?block, ?fragmentBad⟩
  case tx =>
    intro s t f a hu h0 h1 hcont hwait hsilent hnext hdst hvia hhop htries
    obtain ⟨hsent, hctr⟩ := awaiting_spec ((s.advance t).dequeue f) f (a.rd R.PLC_TRELLIS_LQ_NEXT_HOP (f.dst - 1))
    rw [htries] at hsent
    exact ⟨_, trellisTx_unicast hu (txGo h0 h1 hcont hwait hsilent) hnext hdst hvia hhop htries, hsent, hctr⟩
  case txAll =>
    intro s t f a hu h0 h1 hcont hwait hsilent hreqs hnext hdst
    exact ⟨_, trellisTx_broadcast hu (txGo h0 h1 hcont hwait hsilent) hnext hdst, broadcast_spec hwait hreqs⟩
  case txNone =>
    intro s t a hu hno
    refine onEvent_next a rfl hu (if_pos ?_)
    simp only [Bool.or_eq_true, decide_eq_true_eq, Bool.not_eq_true', Option.isSome_iff_ne_none]
    rcases hno with hwait | hsilent | h0 | h1 | hcont
    · exact .inl (.inl (.inl hwait))
    · exact .inl (.inl (.inr hsilent))
    · exact .inl (.inr (by omega))
    · exact .inl (.inr (by omega))
    · exact .inr hcont
  case ack =>
    intro s t h q c f a hu htaken hwait htag htx hseq hctr hfresh hctx
    obtain ⟨hdone, hctrs⟩ := acked_plc (s.advance t) h f.rx f.modem
    refine ⟨_, trellisAck_next hu htaken hwait htag htx hseq hctr hfresh hctx, hdone, ?_⟩
    rw [hctrs]
    exact acked_ctrs (s.advance t) h
  case ackOther =>
    intro s t h q c f a hu hwait hno
    refine onEvent_next a rfl hu ?_
    rw [hwait]
    refine if_neg ?_
    simp only [Bool.and_eq_true, beq_iff_eq]
    rintro ⟨⟨⟨⟨⟨_, htag⟩, htx⟩, hseq⟩, hctr⟩, _⟩
    rcases hno with hno | hno | hno | hno
    · exact Bool.false_ne_true (hno.symm.trans htag)
    · exact hno htx
    · exact hno hseq
    · exact hno hctr
  case dropped =>
    intro s t f a hu hwait hdue htries hctx
    obtain ⟨hnone, _, hlink, hregs⟩ := gaveUp_spec (s.advance t) f.rx f.modem
    have hnext := ackTimeout_drops hu hwait hdue htries hctx
    generalize (s.advance t).gaveUp.linkResult f.rx f.modem true = v at hnone hlink hregs hnext
    have hserved := serveNext_served (v.incSat R.PLC_TRELLIS_STAT_TX_DROPPED 0)
    refine ⟨_, hnext, hserved.wait.trans hnone, ?_, ?_⟩
    · rw [hserved.rd, rd_incSat_same, hregs _ _ (by decide)]
    · rw [hserved.link]
      exact hlink
  case again =>
    intro s t f a hu hwait hdue htries
    obtain ⟨hnone, hqueues, hlink, _⟩ := gaveUp_spec (s.advance t) f.rx f.modem
    have hnext := ackTimeout_again hu hwait hdue htries
    generalize (s.advance t).gaveUp.linkResult f.rx f.modem true = v at hnone hqueues hlink hnext
    have htq : v.tq f.cls = (s.advance t).tq f.cls := by
      unfold tq
      rw [hqueues]
    rw [htq] at hnext
    exact ⟨_, hnext, hnone, (Tab.get_put _ _ _ _ _).trans (if_pos rfl), hlink⟩
  case join =>
    intro s t h k c a hu htaken hseg hlow hhigh hother htag hfresh hseen hdst hrx hstate hnone hroom hsrc hq
    obtain ⟨r, hr, hnext⟩ := joinReq_next (k := k) (c := c) hu
      (.own htaken hseg hlow hhigh hother htag hfresh hseen hdst hrx) hdst hstate hnone hroom hsrc
    exact ⟨_, hnext, memberNoted_answer hr hq k⟩
  case joined =>
    intro s t h c a hu htaken hseg hlow hhigh hother htag hfresh hseen hdst hrx hstate hback
    refine frame_next hu (.own htaken hseg hlow hhigh hother htag hfresh hseen hdst hrx) (by rw [hstate]; decide)
      (.inl hdst) fun r hr => ⟨(r.setTrx 3 3).holdStart, ?_, ?_⟩
    · dsimp only
      rw [if_neg (hr.asking hstate hback), if_pos rfl]
    · rw [holdStart_trxState]
      exact (setTrx_spec r 3 3).1
  case backoff =>
    intro s t h c a hu htaken hseg hlow hhigh hother htag hfresh hseen hdst hrx hstate hback
    refine frame_next hu (.own htaken hseg hlow hhigh hother htag hfresh hseen hdst hrx) (by rw [hstate]; decide)
      (.inl hdst) fun r hr => ⟨{ r with plc := { r.plc with backoff := some (r.mtb + 250 * r.sfLen) } }, ?_, ?_, ?_⟩
    · dsimp only
      rw [if_neg (hr.asking hstate hback), if_neg (by decide), if_neg (by decide)]
    · exact hr.trxState.trans hstate
    · rw [hr.mtb, hr.sfLen]
  case refused =>
    intro s t h c a hu htaken hseg hlow hhigh hother htag hfresh hseen hdst hrx hstate hback
    refine frame_next hu (.own htaken hseg hlow hhigh hother htag hfresh hseen hdst hrx) (by rw [hstate]; decide)
      (.inl hdst) fun r hr => ⟨r.turnedAway, ?_, turnedAway_spec r⟩
    dsimp only
    rw [if_neg (hr.asking hstate hback), if_neg (by decide), if_pos rfl]
    rfl
  case report =>
    intro s t h d m k a hu hstate htaken hseg hlow hhigh hother htag hfresh hseen hdst hrx hsrc hd
    refine frame_next hu ⟨htaken, hseg, hlow, hhigh, hother, htag, hfresh, hseen, .inr hrx, .inr hdst⟩
      (by rw [hstate]; decide) (.inr rfl) fun r hr => ⟨(r.reported h.tx d m k).reroute, ?_, reported_get r h.tx d m k⟩
    have hentry : [(d, m, k)].filter (fun e => decide (e.1 < 256)) = [(d, m, k)] :=
      List.filter_cons_of_pos (decide_eq_true hd)
    dsimp only
    rw [if_neg (by rw [hsrc, bne_self_eq_false]; exact Bool.false_ne_true), hentry]
    rfl
  case limit =>
    intro s t h v w a hu htaken hseg hlow hhigh hother htag hfresh hseen hdst hrx hstate hw hv hlife
    refine frame_next hu (.own htaken hseg hlow hhigh hother htag hfresh hseen hdst hrx) (by rw [hstate]; decide)
      (.inl hdst) fun r hr => ⟨_, limitApply_own h.dst h.src (hdst.trans hr.trxAddr.symm) hv
        (by rw [hr.rd (by decide)]; exact hlife), ?_, ?_, ?_, raise_told _ _ _⟩
    · rw [raise_rd _ _ _ _ _ (by decide)]
      exact (rd_wr_same R.OUT_SITE_TRELLIS_W 0 w).trans (Nat.mod_eq_of_lt hw)
    · rw [raise_out, hr.mtb]
    · rw [raise_out]
  case time =>
    intro s t h k m a hu htaken hseg hlow hhigh hother htag hfresh hseen hdst hrx hstate hrtc _ hm hmtb hstart hk
    obtain ⟨r, hr, hnext⟩ := time_next (m := m) hu (.own htaken hseg hlow hhigh hother htag hfresh hseen hdst hrx) hdst
      hstate hrtc hstart hk
    have hinvalid : r.rtcValid = false := (hr.flag (by decide) 0).trans hrtc
    have hset := (timeSet_accepted (s := r) (ms := m + (a.mtb - a.plc.sfStart) / 10 ^ 6) (src := 1) (by
      unfold stepRefused
      rw [hinvalid]
      rfl)).2
    refine ⟨_, hnext, hset.valid, hset.sec.trans (Nat.mod_eq_of_lt ?_)⟩
    show _ < 2 ^ 32
    omega
  case data =>
    intro s t h d a hu htaken hseg hlow hhigh hother htag hfresh hseen hdst hrx hstate
    refine frame_next hu (.own htaken hseg hlow hhigh hother htag hfresh hseen hdst hrx) (by rw [hstate]; decide)
      (.inl hdst) fun r hr => ⟨_, rfl, ?_⟩
    rw [streamBlock_plc]
    dsimp only
    rw [hr.mtb, hr.plc]
  case offer =>
    intro s t h d n g a hu htaken hseg hlow hhigh hother htag hfresh hseen hdst hrx hstate hidle hfetch hmode hnew hfloor hq
    refine frame_next hu (.own htaken hseg hlow hhigh hother htag hfresh hseen hdst hrx) (by rw [hstate]; decide)
      (.inl hdst) fun r hr => ⟨_, updOffer_idle ((hr.rd (by decide) 0).trans hidle) ((hr.flag (by decide) 0).trans hfetch)
        (fun e => hmode ((hr.rd (by decide) 0).symm.trans e)) (by rw [hr.rd (by decide)]; exact hnew)
        (by rw [hr.rd (by decide)]; exact hfloor), ?_, ?_⟩
    · rw [(send_served _ _ _ _ _ _ _).only]
    · have hsame : ({ r with upd := { r.upd with fetch := some (d, h.src) } } : State).tq 2 = a.tq 2 := hr.tq 2
      rw [send_tq (by rw [hsame]; exact hq), hsame]
  case request =>
    intro s t h d m k a hu htaken hseg hlow hhigh hother htag hfresh hseen hdst hrx hstate hserved hserve hthrottle hreqs hk
    exact imageReq_waits rfl hu (.own htaken hseg hlow hhigh hother htag hfresh hseen hdst hrx) hdst hstate hserved hserve
      hthrottle hreqs hk
  case fragment =>
    exact fun s t h d m f l z hu htaken hseg hlow hhigh hother htag hfresh hseen hdst hrx hstate hf hlen hparts =>
      imageBlock_first rfl hu (.own htaken hseg hlow hhigh hother htag hfresh hseen hdst hrx) hdst hstate hf hlen hparts
  case block =>
    exact fun s t h d m f w l z e hu htaken hseg hlow hhigh hother htag hfresh hseen hdst hrx hstate hf hlen hparts he hnew
      h0 h1 => imageBlock_last rfl hu (.own htaken hseg hlow hhigh hother htag hfresh hseen hdst hrx) hdst hstate hf hlen
        hparts he hnew h0 h1
  case fragmentBad =>
    intro s t h d m f l z a hu htaken hseg hlow hhigh hother htag hfresh hseen hdst hrx hstate hbad
    refine frame_next hu (.own htaken hseg hlow hhigh hother htag hfresh hseen hdst hrx) (by rw [hstate]; decide)
      (.inl hdst) fun r hr => ⟨r, if_pos ?_, by rw [hr.plc]⟩
    rw [Bool.or_eq_true, decide_eq_true_eq, bne_iff_ne, List.length_map]
    exact hbad

end Sys2Proof.Machine
end
